-- ==== Sys2Proof/Word.lean ====
section
/-!
DEFINITION. The plain words of the model: the byte that frames, HBM and flash are made of (R13), and the ranges of
the data types of Table 0.5. Object values are exact integers: the bounds of a type are checked where a value is
written, and every arithmetic rule of the spec says itself how it narrows its result.
-/

namespace Sys2Proof

/-- One byte of a frame, of HBM, of SRAM or of flash (R13). -/
abbrev Byte := BitVec 8

/-- Largest value of a U8. -/
abbrev u8Max : Nat := 0xFF
/-- Largest value of a U16. -/
abbrev u16Max : Nat := 0xFFFF
/-- Largest value of a U32; saturating counters stop here. -/
abbrev u32Max : Nat := 0xFFFFFFFF
/-- Largest value of a U64. -/
abbrev u64Max : Nat := 0xFFFFFFFFFFFFFFFF

/-- A Boolean as the 0 or 1 of a BOOL object (Table 0.5). -/
def boolNat (b : Bool) : Nat := if b then 1 else 0

end Sys2Proof
end

