-- ==== Sys2Proof/Types.lean ====
section
/-!
DEFINITION. The named sets of values the spec's tables list, and the small records of the object dictionary, of events
and of answers. They are kept apart from the commands (Syntax) and from the state (Machine/State).
-/

namespace Sys2Proof

/-- A sparse map from numbers to values: pairs with strictly rising keys. An unlisted key has the default its reader names. -/
abbrev SMap (α : Type) := List (Nat × α)

/-- Object data types (Table 0.5, codes of Table 16.6). -/
inductive OType
  | bool | u8 | u16 | u32 | u64 | i16 | i32 | q15 | q30 | time96 | octets | enum8
  deriving DecidableEq, Repr

/-- Change classes of R17; `readOnly` is the dash of the tables. -/
inductive Change
  | readOnly | live | staged | held
  deriving DecidableEq, Repr

/-- What the Default column gives. -/
inductive Dflt
  | num (v : Int)      -- a number
  | bytes (v : Nat)    -- every byte has this value
  | factory            -- a factory value whose number the spec does not state
  | special            -- depends on the selector
  deriving DecidableEq, Repr

/-- One row of an object table. -/
structure ObjDef where
  addr : Nat
  type : OType
  level : Nat
  change : Change
  sel : Option (Nat × Nat)
  lo : Int
  hi : Int
  dflt : Dflt
  deriving DecidableEq, Repr

/-- NAK codes (Table 16.8). -/
inductive Nak
  | format | noObject | readOnly | access | type | range | busy | state | full | unknown | conflict | notReady
  | budget | crc | memory | stale | late | interval | time | aborted | failover
  deriving DecidableEq, Repr

/-- The code of a NAK (Table 16.8). -/
def Nak.code : Nak → Nat
  | .format => 0x01 | .noObject => 0x02 | .readOnly => 0x03 | .access => 0x04 | .type => 0x05 | .range => 0x06
  | .busy => 0x07 | .state => 0x08 | .full => 0x09 | .unknown => 0x0A | .conflict => 0x0B | .notReady => 0x0C
  | .budget => 0x0D | .crc => 0x0E | .memory => 0x0F | .stale => 0x10 | .late => 0x11 | .interval => 0x12
  | .time => 0x13 | .aborted => 0x14 | .failover => 0x15

/-- One data item of an event (R475): how wide it is packed depends on its kind. -/
inductive EvItem
  | word (v : Int)          -- U32 or I32
  | long (v : Nat)          -- U64 or a step in ns
  | time (ns : Nat)         -- TIME96, held as nanoseconds
  | octets (b : List Byte)
  deriving DecidableEq, Repr

/-- An event record (Table 16.9). -/
structure EvRec where
  seq : Nat
  code : Nat
  lobe : Nat
  deferred : Bool
  holdover : Bool
  time : Int
  data : List EvItem
  deriving DecidableEq, Repr

/-- The body of an answer: an ACK with its bytes or a NAK with ENTRY and DETAIL (R455). -/
inductive Reply
  | ack (body : List Byte)
  | nak (code : Nak) (entry detail : Nat)
  deriving DecidableEq, Repr

/-- Where a frame came from, and so where its answer goes (R452, R453): over the maintenance UART, or by a control port with the sender's
MAC and IP address, the module's address it used, and the sender's UDP port. IP addresses are of 16 bytes. -/
structure Origin where
  uart : Bool := false
  port : Nat := 0
  mac : List Byte := []
  ip : List Byte := []
  own : List Byte := []
  udpPort : Nat := 0
  deriving DecidableEq, Repr

/-- An answer or unsolicited frame the module has sent to a host. `req` is the REQ_ID echoed, or 0 where the
command of the model is one object write whose enclosing frame is not an operand; `addr` and `sel` name that object. -/
structure Answer where
  sess : Nat
  req : Nat
  addr : Nat
  sel : Nat
  seq : Nat
  unsolicited : Bool
  reply : Reply
  deriving DecidableEq, Repr

/-- Device states (Table 18.4). -/
inductive DevState
  | off | boot | selftest | parked | service | draining | safe | faultHold
  deriving DecidableEq, Repr

/-- The value of DEVICE_STATE. -/
def DevState.code : DevState → Nat
  | .off => 0 | .boot => 1 | .selftest => 2 | .parked => 3 | .service => 4 | .draining => 5 | .safe => 6 | .faultHold => 7

/-- FAULT_HOLD_CAUSE (R535). -/
inductive HoldCause
  | none | hardCut | rail | refclk
  deriving DecidableEq, Repr

def HoldCause.code : HoldCause → Nat
  | .none => 0 | .hardCut => 1 | .rail => 2 | .refclk => 3

/-- What holds the FAULT_N pin low (R33, R305, R303, R339, R510, R513, R514, R519 and the owning chapters). -/
inductive FaultCause
  | refclk | rail (n : Nat) | hardCut | thermalStop | selftest | recovery | noPredecessor
  | lobe (l : Nat) | linkLost (l : Nat) | steady | matrix (t : Nat) | safeLoad | memory (k : Nat)
  deriving DecidableEq, Repr

/-- The kinds of reset (Table 18.7). -/
inductive ResetKind
  | warm | cold
  deriving DecidableEq, Repr

/-- Lobe roles (Table 11.1). -/
inductive Role
  | offline | diagnosing | syncing | standby | active
  deriving DecidableEq, Repr

def Role.code : Role → Nat
  | .offline => 0 | .diagnosing => 1 | .syncing => 2 | .standby => 3 | .active => 4

/-- A heartbeat as a lobe sends it (R323). -/
structure Heartbeat where
  lobe : Nat
  role : Role
  claim : Nat
  epoch : Nat
  snapSeq : Nat
  yield : Option Nat := none
  handover : Option Nat := none
  deriving DecidableEq, Repr

/-- A record of HOST_DRIVE (Table 5.5). -/
structure DriveRec where
  sel : Nat
  value : Nat
  kind : Nat
  last : Nat
  deriving DecidableEq, Repr

/-- A calibration result: values and maps by address and selector, its quality figure, its flags and how its run ended; `aborted`
carries a reason of Table 9.4. What CAL_RUN_END brings is the readings that no other command shows, under the addresses of
`CalTag` and HEATER_R (log entry 36). -/
structure CalResult where
  quality : Int
  flags : Nat
  aborted : Option Nat
  values : List (Nat × Nat × Int)
  maps : List (Nat × Nat × List Byte)
  deriving DecidableEq, Repr

/-- Decision kinds of Table 10.10 that hold grants. -/
inductive GKind
  | commit | wrap | calibration | hostDrive | generator
  deriving DecidableEq, Repr

def GKind.code : GKind → Nat
  | .commit => 1 | .wrap => 2 | .calibration => 3 | .hostDrive => 4 | .generator => 5

/-- A transaction at an initiator's port of the bus matrix (R486): a single access of `bytes` bytes (`beats` 1) or a burst of
`beats` beats of 64; `mark` 1 is a LOCK, 2 an UNLOCK and 3 a FENCE, and `done` counts the beats served. -/
structure MatReq where
  target : Nat
  write : Bool
  addr : Nat
  beats : Nat := 1
  bytes : Nat := 8
  mark : Nat := 0
  done : Nat := 0
  last : Nat := 0
  deriving DecidableEq, Repr

/-- What happens in the bus matrix and its memories during a scan, in order: an initiator presents a transaction at its port;
a target computes a grant, with the initiators whose burst has no beat ready and the number of evaluations on which its two
copies disagree; an access or the scrub meets a correctable error (log entry 40). -/
inductive MatStep
  | present (i : Nat) (r : MatReq)
  | grant (t : Nat) (idle : List Nat) (differ : Nat)
  | hbmCorrected (addr : Nat)
  | sramCorrected (offset : Nat)
  deriving DecidableEq, Repr

/-- What a scan boundary reports of the scan that ended: the kinds of grant upset in Steady's copies (R296), and the traffic
of the bus matrix (R486). -/
structure ScanReport where
  upsets : List Nat
  traffic : List MatStep
  deriving DecidableEq, Repr

/-- What a port's PCS reports: its lock, and the RS-FEC codewords it has corrected, and found uncorrectable, since its
previous report (R375, R399). -/
structure PcsReport where
  ok : Bool
  corrected : Nat
  uncorrected : Nat
  deriving DecidableEq, Repr

/-- Where an OPEN comes from besides its IP address: the UDP port it is answered to (R458), and its request number (R457). -/
structure OpenOrigin where
  udpPort : Nat
  req : Nat
  deriving DecidableEq, Repr

/-- A PTP message as the engine receives it (R430, R433, R435): the header fields the checks use, the receive stamp as the PCS took it,
and the body of its type, for an answer with the requestingPortIdentity. Times are in ns. -/
structure PtpMsg where
  port : Nat
  kind : Nat
  domain : Nat
  sdo : Nat
  version : Nat
  transport : Nat
  src : List Byte
  seq : Nat
  interval : Int
  stamp : Int
  origin : Int
  correction : Int
  twoStep : Bool
  rank : List Nat
  utc : Int
  requesting : List Byte := []
  deriving DecidableEq, Repr

/-- A read entry (R467). -/
structure ReadEntry where
  addr : Nat
  sel : Nat
  deriving DecidableEq, Repr

/-- A write entry (R468): the address, the type code of Table 16.6, the selector and the value's bytes. -/
structure WriteEntry where
  addr : Nat
  type : Nat
  sel : Nat
  value : List Byte
  deriving DecidableEq, Repr

end Sys2Proof
end

