-- ==== Sys2Proof/Syntax.lean ====
section
/-!
DEFINITION. The commands of the block: one constructor for every row of spec/opcode_table.json, in the table's order,
with its operands. A host command carries the session that sends it (`sess`), and where the operation has one the
REQ_ID (`req`); a `sess` of 0x10000 or more is the group source `sess - 0x10000` of a group frame (R461). What only the
world outside can decide (a converter's code, a sensor's reading, whether a signature or a frame check passes) is an
operand. Log entries 5 and 6 say how a command that names no existing subject acts.
-/

namespace Sys2Proof

/-- The commands of the block. -/
inductive Instr
  /-- Release of RESET_N with PGOOD_IN high starts BOOT, the sample strobe, the time counter at zero, the references and the hardware safe load (R511). -/
  | resetRelease
  /-- A deglitched low on RESET_N or PGOOD_IN causes a cold reset: every drive lane is undriven within 10 µs and any flash program stops (R509). -/
  | coldResetInput (pin : Nat)
  /-- A rail outside its monitor window for 2 µs raises RAIL_FAULT, asserts FAULT_N and enters FAULT_HOLD with cause RAIL (R510). -/
  | railFault (rail mv : Nat)
  /-- No REFCLK edge for 64 ns stops the strobe, holds every output code, raises REFCLK_LOST and enters FAULT_HOLD with cause REFCLK (R33). -/
  | refclkLost
  /-- After REFCLK has run for REFCLK_RESTORE_TIME, at the next scan boundary the device returns to its former state, enters SAFE or cold-resets (R518). -/
  | refclkRestored (lossNs : Nat)
  /-- The safe load ends with every limiter target at its safe code, and the firmware starts (R216). -/
  | safeLoadComplete
  /-- A lobe's loader has read and verified a firmware bank, falling back to the other bank if needed, and the lobe enters DIAGNOSING (R512). -/
  | booted (lobe : Nat) (ok0 ok1 : Bool)
  /-- A self-test step of Table 18.3 completes, setting its result bit and holding the device in SELFTEST on a fatal failure (R514). -/
  | selftestStepDone (step failed : Nat)
  /-- Self-test ends without a fatal failure, the park image is applied and the device enters PARKED (R514). -/
  | selftestDone
  /-- Every fast ramp of a park application has ended, and the loops enter ACQUIRE at the next scan (R520). -/
  | parkRampEnd
  /-- Every 256 ticks a scan begins: staged and slewed values are taken, heater accounting runs and the queued grants are served (R228). -/
  | scanBoundary (caps : List (Nat × Nat)) (report : ScanReport)
  /-- A converter pair's raw sample words reach the Spindles of both lobes, are auto-ranged and conditioned, and replace any pending sample set (R229). -/
  | sampleDelivery (cv pair codeA : Nat) (overA : Bool) (hintA codeB : Nat) (overB : Bool) (hintB : Nat)
  /-- A Spindle evaluates an element's inner loop on its pending samples, may step φl, and applies the loop state transitions of Table 5.3 (R141). -/
  | elementEvaluation (e : Nat)
  /-- At the end of an outer period an element that qualifies moves its set-point by the outer loop law (R146). -/
  | outerPeriodEnd (e : Nat)
  /-- Every OFFLOAD_PERIOD scans the offload law moves a trimmer heater or requests a bias wrap (R148). -/
  | offloadPeriodEnd (e : Nat)
  /-- A pending bias wrap starts once its element is LOCKED, no commit is applying or settling, the column limit allows and Steady has granted it (R150). -/
  | wrapStart (e : Nat)
  /-- A wrap that has not run for WRAP_STALL raises WRAP_STALLED once (R152). -/
  | wrapStalled (e : Nat)
  /-- An element SATURATED for SAT_REPORT scans is classed TAP_DEAD or HEATER_STUCK and reported under R62 (R153). -/
  | loopSaturated (e : Nat)
  /-- Once per VOA period Spindle 41 evaluates each VOA loop on the mean output tap power and steps its attenuation (R156). -/
  | voaPeriodEnd (o : Nat)
  /-- A write of an element's set-point target is slewed per scan toward the newest target (R155). -/
  | setpoint (sess e : Nat) (v : Int)
  /-- A write of LOOP_ENABLE disables an element loop or returns it from DISABLED to ACQUIRE (R144). -/
  | loopEnable (sess e : Nat) (v : Int)
  /-- A write of VOA_ENABLE disables a VOA loop or returns it to LOCKED at the next VOA period boundary (R157). -/
  | voaEnable (sess o : Nat) (v : Int)
  /-- A block of host drive records is checked whole and accepted or refused with NAK RANGE or NAK BUDGET (R163). -/
  | hostDrive (sess : Nat) (recs : List DriveRec)
  /-- An accepted host drive block is applied whole at the first scan boundary after its last byte (R163). -/
  | hostDriveApply
  /-- A write of a function's mode object is accepted, or refused with NAK BUSY during the fallback hold-off (R36). -/
  | funcMode (sess n : Nat) (v : Int)
  /-- A requested function mode takes effect at the function's next mode boundary, and EFFECTIVE_MODE changes (R36). -/
  | modeBoundary (n : Nat)
  /-- A missed host drive deadline returns the element loops to hardware mode at the next mode boundary, loops restarting from present codes (R164). -/
  | fallbackElementLoops
  /-- A passed route deadline abandons the host load and the device router routes the held request (R93). -/
  | fallbackImageGeneration
  /-- A passed refinement deadline returns refinement to hardware mode and queues every occupied buffer for write-back (R100). -/
  | fallbackRefinement
  /-- A missed template deadline falls back at the next PREPARE and applies the pending adaptive updates (R275). -/
  | fallbackPreEmphasis
  /-- A passed grant deadline returns arbitration to Steady, which decides every undecided and waiting request in order (R295). -/
  | fallbackPowerArbitration
  /-- A missed rate deadline returns the servo to hardware mode at the next update, with integ taken from the rate in force (R442). -/
  | fallbackTimeServo
  /-- A passed capture deadline returns analysis to hardware mode and mask-tests every unreleased segment (R365). -/
  | fallbackCapture
  /-- A missed classification deadline returns to the trees at the next frame, classifying every held frame in order (R398). -/
  | fallbackClassification
  /-- A write of 1 requests an apply of all staged fault-map writes at the next scan boundary, refused with NAK BUSY while one is pending (R64). -/
  | faultApply (sess : Nat)
  /-- At the scan boundary the staged fault-map writes are applied or discarded, FAULT_GEN increments and FAULT_MAP_CHANGED is raised if any entry changed (R64). -/
  | faultMapApply
  /-- A write of a cell number starts a 64-scan pin test, refused with NAK BUSY while a test runs or a commit applies or settles (R66). -/
  | pinTestCell (sess : Nat) (k : Int)
  /-- After 64 scans the pin test reports its status and extinction and raises PIN_TEST_DONE (R66). -/
  | pinTestDone
  /-- A write of a slot number opens a load for the writing session and puts the slot in LOADING (R85). -/
  | loadSlot (sess : Nat) (slot : Int)
  /-- A write of 1 checks the loaded image under Table 3.6 and makes the slot VALID, or INVALID with a NAK (R85). -/
  | loadClose (sess : Nat)
  /-- A load with no LOAD_CLOSE 10 s after its last write lapses and the slot returns to EMPTY (R86). -/
  | loadTimeout (sess : Nat)
  /-- A write of a slot number erases the slot, after any running write-back ends, and discards queued refinement (R89). -/
  | eraseSlot (sess : Nat) (slot : Int)
  /-- A write of a slot number revalidates it against the present fault map, after any running write-back, or is refused with NAK STATE (R81). -/
  | revalidate (sess : Nat) (slot : Int)
  /-- A write of a hash searches the VALID slots with that hash in slot order for the first current one (R94). -/
  | findHash (sess hash : Nat)
  /-- The search ends and FIND_RESULT holds the slot found or all ones (R94). -/
  | findComplete
  /-- A write of 1 takes the staged route request, checks the vector and starts the router, or in host mode raises ROUTE_REQUEST (R91). -/
  | routeApply (sess : Nat)
  /-- The router ends a request with DONE or NO_ROUTE, writes or restores the slot, and raises ROUTE_DONE (R91). -/
  | routeDone (us : Nat)
  /-- A queued write-back starts when the rate limit allows, putting the slot in WRITING (R97). -/
  | writeBackStart
  /-- A write-back ends with its CRC written last, and the slot leaves WRITING (R98). -/
  | writeBackDone
  /-- A host decision WRITE queues a refinement buffer for write-back (R100). -/
  | refineDecideWrite (sess b : Nat)
  /-- A host decision DISCARD frees a refinement buffer and counts the discard (R100). -/
  | refineDecideDiscard (sess b : Nat)
  /-- A PREPARE is checked, planned into waves, granted and staged into a staging set, then acknowledged (R107). -/
  | prepare (sess req id slot flags : Nat)
  /-- A COMMIT naming a PREPARED commit is checked, may replan, is announced to the STANDBY lobe and enters the queue of timed commits (R115). -/
  | commit (sess req id : Nat) (t : Int) (flags : Nat)
  /-- A CANCEL abandons a PREPARED commit, or an ARMED one at least 2 µs before its T (R118). -/
  | cancel (sess req id : Nat)
  /-- A commit PREPARED for PREPARE_TIMEOUT without a COMMIT is abandoned (R110). -/
  | prepareTimeout (id : Nat)
  /-- At the tick nearest T wave 0 begins, APPLIED_* take the image, VOA codes are written, loops are suspended and any settling commit is superseded (R120). -/
  | commitT (id : Nat)
  /-- A later wave begins WAVE_SPACING ticks after the previous one, sending its elements' template codes (R121). -/
  | waveStart (id w : Nat)
  /-- An element's pre-emphasis template passes from its kick to its hold or to the final code (R121). -/
  | templatePhaseEnd (id e : Nat)
  /-- The last wave's template ends, the commit enters SETTLING and its staging set is freed (R106). -/
  | applyingEnd (id : Nat)
  /-- At the end of the scan in which every counted loop is LOCKED the commit reaches DONE (R126). -/
  | commitDone (id : Nat)
  /-- A commit not locked within SETTLE_TIMEOUT reaches DONE with outcome UNLOCKED and raises COMMIT_UNLOCKED (R126). -/
  | settleTimeout (id : Nat)
  /-- A received peer abort abandons a matching ARMED commit at least 2 µs before T, or is ignored and counted (R119). -/
  | peerAbort (id : Nat) (t : Int) (source : Nat)
  /-- At each limiter period boundary a channel moves its output one step toward its newest target (R197). -/
  | slewPeriodBoundary (u : Nat)
  /-- A write of 1 starts the span sequence of every channel whose staged span differs, or is refused (R199). -/
  | spanApply (sess : Nat)
  /-- After SPAN_DWELL ticks at the zero code the span switches and the limiter moves from the new zero code (R199). -/
  | spanDwellEnd (u : Nat)
  /-- DEGLITCH ticks after a privileged code latches, the track closes and the output moves (R203). -/
  | deglitchEnd (n : Nat)
  /-- A write of 1 applies the staged generator configuration, or refuses it for conflict, busy loop or budget (R205). -/
  | genApply (sess : Nat)
  /-- A generator's phase counter starts at its GEN_START network time (R206). -/
  | genStartTime (g : Nat)
  /-- Once per scan a bank senses each lane and compares it with its code, substituting, losing or marking lanes after two failures (R208). -/
  | readbackComparison (b lane sensed : Nat)
  /-- After the spare settles for 64 ticks the bond switch moves the lane's connection to it (R209). -/
  | spareSwitchover (b lane : Nat)
  /-- Within 10 s of a substitution, or once flash writes are permitted, the ACTIVE lobe writes the safe page (R210). -/
  | spareMapStore
  /-- A bank missing keep-alives for 64 scans enters HOLDING and keeps its codes (R217). -/
  | bankHolding (b : Nat)
  /-- A bank missing keep-alives for HOLD_TIMEOUT enters SAFE and starts the safe transition (R217). -/
  | driveSafe (b : Nat)
  /-- A channel's fixed ramp reaches its safe code, within 0.5 ms of the transition start (R218). -/
  | safeTransitionEnd (u : Nat)
  /-- A write of 1 writes the working safe page with the staged codes and updates the bank registers (R219). -/
  | safeStore (sess : Nat)
  /-- A write of 1 copies the factory page, with present VOA codes and spare maps, to the working page (R221). -/
  | safeRevert (sess : Nat)
  /-- A safe page store completes and is acknowledged (R219). -/
  | safePageStored
  /-- Two ms after a bank's reference is enabled and powered, REF_READY is set and normal conversion resumes (R236). -/
  | refReady (mb : Nat)
  /-- A write of a bank's reference enable clears REF_READY at once or starts its 2 ms timer (R236). -/
  | refEnable (sess mb : Nat) (v : Int)
  /-- A write powers a monitor bank down or up, refused with NAK BUSY while loops or focus depend on it (R237). -/
  | bankPower (sess mb : Nat) (v : Int)
  /-- A write of a photodiode's gain mode is taken at the next scan boundary and effective at its next hold (R226). -/
  | gainMode (sess pd : Nat) (v : Int)
  /-- Every CHECK_INTERVAL scans a converter's background REF check is queued and compared with its expected code (R238). -/
  | converterCheck (cv code : Nat)
  /-- At the scan boundary after two failed checks the spare takes the converter's inputs and coefficients (R239). -/
  | convSubstituted (cv : Nat)
  /-- A write of 1 queues the staged injected conversion or refuses it (R242). -/
  | injApply (sess : Nat)
  /-- An injected conversion completes in its two slots, its result is stored and the slot pointer advances (R241). -/
  | injectionDone (cv code : Nat) (overRange : Bool)
  /-- A write of 1 requests focus on a converter with the staged input, pair and duration (R245). -/
  | focusStart (sess cv : Nat)
  /-- A write of 2 ends a converter's focus at the next scan boundary (R245). -/
  | focusStop (sess cv : Nat)
  /-- At the scan boundary after FOCUS_START the converter enters focus (R245). -/
  | focusEntry (cv : Nat)
  /-- Focus ends after FOCUS_SCANS, by request or by throttle, and FOCUS_ENDED is raised (R245). -/
  | focusEnded (cv : Nat)
  /-- Each scan each SPA input is converted, filtered, scaled and checked for validity (R248). -/
  | spaSample (n code : Nat)
  /-- At the end of each SPP window the duty or frequency is measured and validity judged (R250). -/
  | sppWindowEnd (n edges span high : Nat)
  /-- No SPP rising edge for SPP_TIMEOUT makes the input invalid (R251). -/
  | sppTimeout (n : Nat)
  /-- An averaging channel completes its window, stores mean and sum, and restarts (R184). -/
  | avgWindowEnd (n : Nat)
  /-- A write of AVG_PD or AVG_LEN takes effect at the next scan boundary, discarding or finishing the window (R184). -/
  | avgConfig (sess n : Nat) (len : Bool) (v : Int)
  /-- A write of 1 requests application of staged conditioning and filter coefficients, refused while one is pending (R187). -/
  | dpApply (sess : Nat)
  /-- At the scan boundary the staged coefficients take effect in every Spindle and DP_GEN increments (R187). -/
  | dpApplied
  /-- A write of 1 queues the staged calibration request or refuses it (R262). -/
  | calApply (sess : Nat)
  /-- A request at the head of the queue is rechecked and deferred, waits for a grant, runs or is refused (R262). -/
  | calStart
  /-- A heating run not granted within CAL_GRANT_TIMEOUT ends ABORTED with reason GRANT (R263). -/
  | calGrantTimeout
  /-- A calibration run ends with its quality figure, its result applied or held PENDING (R277). -/
  | calRunEnd (result : CalResult)
  /-- A calibration result is applied at one scan boundary in both lobes and CAL_GEN may increment (R278). -/
  | calResultApply
  /-- A write of 1 applies the PENDING calibration result (R277). -/
  | calAccept (sess : Nat)
  /-- A write of 2 discards the PENDING calibration result (R277). -/
  | calDiscard (sess : Nat)
  /-- A result left PENDING for CAL_ACCEPT_TIMEOUT is discarded (R277). -/
  | calAcceptTimeout
  /-- A write of 1 aborts the running request and empties the queue (R264). -/
  | calAbort (sess : Nat)
  /-- A write of 1 stores changed calibration regions to flash (R280). -/
  | calStore (sess : Nat)
  /-- CAL_STORE_INTERVAL after the first unstored change an automatic store starts, or is postponed (R280). -/
  | calStoreIntervalEnd
  /-- A write of 1 applies staged calibrated value writes under R278 and R279 (R282). -/
  | calValuesApply (sess : Nat)
  /-- A write of 1 applies staged template writes, effective at the next PREPARE (R274). -/
  | templateApply (sess : Nat)
  /-- A requester releases a grant and Steady serves the head of the wait queue while it fits (R288). -/
  | grantRelease (kind : GKind) (source : Nat)
  /-- A write of HEATER_BUDGET or LOOP_RESERVE takes effect at the next scan boundary (R290). -/
  | heaterBudget (sess : Nat) (reserve : Bool) (v : Int)
  /-- A host GRANT is issued, or turned into a refusal if it breaks a limit (R294). -/
  | grantDecideGrant (sess seq : Nat) (through : Bool)
  /-- A host REFUSE refuses the named request, or all up to it (R294). -/
  | grantDecideRefuse (sess seq : Nat) (through : Bool)
  /-- A write of 1 rebuilds Steady's accounting, empties its queue and returns it to NORMAL (R296). -/
  | steadyReset (sess : Nat)
  /-- Every 125 µs each temperature site is converted and the thermal state and flash interlock judged (R298). -/
  | tempConversion (n : Nat) (reading : Int)
  /-- At the later of the last applied commit or STOP_DRAIN, the device enters SAFE (R305). -/
  | stopDrainEnd
  /-- Three conversions at the CUT level cut every drive, put HBM in self-refresh and enter FAULT_HOLD (R303). -/
  | tempHardCut (n : Nat) (reading : Int)
  /-- After 1 s in range, flash writes are permitted and postponed stores begin (R306). -/
  | flashWritePermitted
  /-- A write of a TDX mode takes effect at the next conversion, with 8 conversions unreported (R299). -/
  | tdxMode (sess x : Nat) (v : Int)
  /-- Every 1,563 ticks each lobe sends its heartbeat on both paths (R323). -/
  | heartbeatSend (l : Nat)
  /-- A valid heartbeat is received, path state updated, counters compared and YIELD or HANDOVER acted on (R323). -/
  | heartbeatReceive (l path : Nat) (hb : Heartbeat) (crcOk : Bool)
  /-- A path missing 3 intervals while the other delivers becomes FAILED (R323). -/
  | hbPathFailed (q : Nat)
  /-- Three intervals without a valid heartbeat declare the peer lost and the lobe claims (R324). -/
  | peerLost (l : Nat)
  /-- A lobe broadcasts its claim to every gate and reads the claim summary (R314). -/
  | claimBroadcast (l : Nat)
  /-- A gate still below the winning claim 2 µs after the broadcast is reported (R314). -/
  | gateFault (b : Nat)
  /-- An ACTIVE lobe receiving REFUSED reads the summary and becomes STANDBY or reports a gate fault (R315). -/
  | writeRefused (l b : Nat)
  /-- A lobe that wins its claim reads back, reconciles, settles commits and becomes ACTIVE (R325). -/
  | lobeFailover (l : Nat)
  /-- A lobe finding itself faulty lowers its claim, sends YIELD if ACTIVE and enters DIAGNOSING (R322). -/
  | lobeYielded (l cause : Nat)
  /-- An unserved management core watchdog is a self-diagnosis cause (R321). -/
  | watchdogExpiry (l core : Nat)
  /-- A lobe supply monitor out of range is a self-diagnosis cause (R321). -/
  | lobeSupplyFault (l : Nat)
  /-- The two internal copies of a lobe's counter differ, a self-diagnosis cause (R428). -/
  | counterFault (l : Nat)
  /-- At each scan end the lobes compare column digests, excusing or counting mismatches (R319). -/
  | digestCompare (peer : List (Nat × Nat))
  /-- A known-answer test ends and the lobes yield or diagnose by its verdict (R320). -/
  | katDone (col : Nat) (passA passB : Bool)
  /-- Every KAT_INTERVAL a lobe starts the known-answer test on its next Spindle (R320). -/
  | katIntervalEnd (l : Nat)
  /-- A lobe's diagnosis passes or fails; a pass leads to claiming or SYNCING (R328). -/
  | diagnosisEnd (l : Nat) (pass : Bool)
  /-- 10 s after a failed diagnosis the lobe retries (R328). -/
  | diagRetry (l : Nat)
  /-- A write of 1 resets a lobe that is not ACTIVE (R341). -/
  | lobeReset (sess l : Nat)
  /-- Every 1 ms the ACTIVE lobe captures a snapshot at one scan boundary and sends it (R329). -/
  | snapshotCapture
  /-- A received snapshot becomes complete or is discarded (R330). -/
  | snapshotReceived (crcOk : Bool)
  /-- SNAP_AGE passing 3 ms raises SNAPSHOT_LATE (R330). -/
  | snapshotLate
  /-- A SYNCING lobe becomes STANDBY after 64 clean scans, or DIAGNOSING after 2 s (R336). -/
  | resyncDone (l : Nat)
  /-- SWAP_INTERVAL after the last swap, a swap falls due (R333). -/
  | swapDue
  /-- A write of 1 makes a swap due at once (R333). -/
  | swapNow (sess : Nat)
  /-- At H the STANDBY lobe claims, reconciles and becomes ACTIVE (R334). -/
  | roleSwapped
  /-- A swap not performed within SWAP_POSTPONE_MAX is skipped (R333). -/
  | swapSkipped
  /-- A deglitched low on LOBEA_DIS_N or LOBEB_DIS_N holds the lobe OFFLINE (R338). -/
  | lobeDisPin (l : Nat) (high : Bool)
  /-- A write of 1 swaps control away if needed and holds the lobe OFFLINE (R338). -/
  | lobeHoldOffline (sess l : Nat) (v : Int)
  /-- A write of 1 arms a capture buffer with its staged configuration (R353). -/
  | capArm (sess b : Nat)
  /-- A write of 2 ends a capture at the next frame and the buffer enters IDLE (R353). -/
  | capEnd (sess b : Nat)
  /-- A write of 1 forces a trigger at the next frame (R356). -/
  | capForce (sess b : Nat)
  /-- At each frame an armed buffer records words, forms the condition word, tests the mask and may trigger or close a segment (R347). -/
  | captureFrame (b : Nat)
  /-- CAP_AUTO_TIMEOUT frames without a trigger force one (R356). -/
  | capAutoTrigger (b : Nat)
  /-- After CAP_REARM frames the buffer enters FILLING, or FULL (R355). -/
  | rearmEnd (b : Nat)
  /-- A write of a sequence number frees a closed segment (R361). -/
  | capRelease (sess b : Nat) (seq : Int)
  /-- A deglitched rising edge of TRIG_IN is time-stamped (R349). -/
  | trigInEdge (x : Nat)
  /-- A trigger output pulse ends TRIG_OUT_WIDTH ticks after its last source event (R370). -/
  | trigOutPulseEnd (x : Nat)
  /-- A change of RING_LENGTH at the next scan boundary resets pointers and writes RING_RESET (R369). -/
  | ringLength (sess r : Nat) (v : Int)
  /-- A host write advances the ring read offset on a record boundary (R368). -/
  | ringRp (sess r : Nat) (v : Int)
  /-- A port gains or loses block lock, alignment or fault-free status, starting a hold timer (R375). -/
  | pcsLockChange (x : Nat) (report : PcsReport)
  /-- Loss held for LINK_DOWN_HOLD makes the link DOWN and may move PRIMARY (R375). -/
  | linkDown (x : Nat)
  /-- Lock held for LINK_UP_HOLD makes the link UP (R375). -/
  | linkUp (x : Nat)
  /-- Address announcements are repeated 10 ms and 20 ms after a fail-over (R382). -/
  | announcementRepeat
  /-- With REVERT set, the preferred port returns to PRIMARY after 10 s UP (R382). -/
  | portRevert
  /-- A write of 0 halts a port and flushes its queues (R405). -/
  | portEnable (sess x : Nat) (v : Int)
  /-- A received frame passes MAC checks, is parsed and classified by a first Gouge pass, and its leaf acts (R376). -/
  | frameReceive (x : Nat) (bytes : List Byte) (fcsOk tagOk : Bool)
  /-- A recirculated frame makes its second pass from the leaf's NEXT node (R389). -/
  | recirculationPass
  /-- A host verdict DROP discards held frames (R397). -/
  | classDecideDrop (sess seq rxClass : Nat) (through : Bool)
  /-- A host verdict EXVAN delivers held frames to the Exvan engine (R397). -/
  | classDecideExvan (sess seq rxClass : Nat) (through : Bool)
  /-- A host verdict PTP delivers held frames to the time subsystem (R397). -/
  | classDecidePtp (sess seq rxClass : Nat) (through : Bool)
  /-- A host verdict SLOW sends held frames to the slow path with reason 9 (R397). -/
  | classDecideSlow (sess seq rxClass : Nat) (through : Bool)
  /-- A write of 1 applies staged addressing and port mode at the next frame boundary (R380). -/
  | netApply (sess : Nat)
  /-- A write of 1 starts the check of the shadow rule bank (R392). -/
  | rulesApply (sess : Nat)
  /-- The check ends: the shadow bank becomes active, or the apply is rejected (R392). -/
  | rulesCheckDone
  /-- The retaining bank drains or 100 µs pass, and it becomes the shadow (R393). -/
  | rulesRetainEnd
  /-- A write of 1 stores the active rule bank to flash (R394). -/
  | rulesStore (sess : Nat)
  /-- A frame from a transmit source enters its egress queue, or is dropped (R402). -/
  | txEnqueue (x source len : Nat)
  /-- With the port idle, the head frame of the highest eligible queue starts (R407). -/
  | txFrameStart (x : Nat)
  /-- A frame ends transmission and the port becomes idle (R408). -/
  | txFrameEnd (x : Nat)
  /-- A write of shaper rate, burst or enable takes effect at the frame end and resets the bucket (R410). -/
  | shaperWrite (sess n which : Nat) (v : Int)
  /-- A write of 1 applies staged queue limits (R406). -/
  | txqApply (sess : Nat)
  /-- A gate list entry or cycle begins, opening and closing queues (R412). -/
  | gateEntryChange (x : Nat)
  /-- A write of 1 checks the staged gate list and schedules its change time (R416). -/
  | gateApply (sess x : Nat)
  /-- At the change time the new gate list becomes operational (R416). -/
  | gateListChanged (x : Nat)
  /-- At each multiple of QSAMPLE_PERIOD queue depths and delays are latched (R419). -/
  | qsample
  /-- A PTP message is checked and processed by the PTP engine (R430). -/
  | ptpMessage (msg : PtpMsg)
  /-- An offset measurement updates the servo and addend, or steps the counter at first lock (R436). `o` and `ts` name it: the
  offset, and the difference of the Syncs. -/
  | servoUpdate (o ts : Int)
  /-- At a randomised interval the module sends Delay_Req or Pdelay_Req (R433). -/
  | delayReqSend
  /-- Announce or Sync timeout loses the master; another is selected or HOLDOVER begins (R440). -/
  | masterLost (cause : Nat)
  /-- In host mode a write of the rate sets the addend at the next tick (R442). -/
  | timeRate (sess : Nat) (r : Int)
  /-- A write of 1 resets the time domain at the next tick (R443). -/
  | timeReset (sess : Nat)
  /-- A PPS_IN edge is stamped, validated and may update the holdover servo (R448). -/
  | ppsInEdge
  /-- Two seconds without a valid PPS_IN edge raise PPS_IN_LOST (R448). -/
  | ppsInLost
  /-- A write of 1 applies a pulse output's staged program (R447). -/
  | pulseApply (sess k : Nat)
  /-- A scheduled pulse edge occurs on a pulse output (R447). -/
  | pulseEdge (k : Nat)
  /-- A write of 1 schedules a launch entry (R446). -/
  | launchStart (sess l : Nat)
  /-- A write of 2 stops a launch entry (R446). -/
  | launchStop (sess l : Nat)
  /-- At its launch time a frame enters its queue (R446). -/
  | launchInstant (l : Nat)
  /-- An OPEN frame opens a session and derives its key (R458). -/
  | openSession (level : Nat) (nonce : List Byte) (source : Nat) (uart : Bool) (ip : List Byte) (origin : OpenOrigin)
  /-- A CLOSE closes the session after its ACK (R460). -/
  | closeSession (sess req : Nat)
  /-- An ECHO is answered with the same bytes (R455). -/
  | echo (sess req : Nat) (body : List Byte)
  /-- A READ returns the values of its entries (R467). -/
  | read (sess req : Nat) (entries : List ReadEntry)
  /-- A WRITE checks all entries then applies them in order (R468). -/
  | write (sess req : Nat) (entries : List WriteEntry)
  /-- A write to an object with no behaviour of its own is stored, staged or applied by its change class (R472). -/
  | objectWrite (sess addr sel : Nat) (v : Int)
  /-- A BLOCK_READ returns a chunk of an object (R469). -/
  | blockRead (sess req addr sel offset count : Nat)
  /-- A BLOCK_WRITE chunk opens, extends or completes a session's block write (R470). -/
  | blockWrite (sess req addr sel offset total : Nat) (bytes : List Byte)
  /-- A block write with no chunk for 10 s is abandoned (R470). -/
  | blockAbandoned (sess : Nat)
  /-- A SUBSCRIBE sets one of a session's event filters (R477). -/
  | subscribe (sess req filter : Nat) (enable : Bool) (code mask : Nat)
  /-- Matching event records are sent in an EVENT frame within 1 ms (R477). -/
  | eventFrameSend (sess : Nat)
  /-- A session with no authenticated frame for SESSION_TIMEOUT closes (R460). -/
  | sessionTimeout (sess : Nat)
  /-- A write of a session number closes it with reason 5 (R460). -/
  | sessionClose (sess : Nat) (target : Int)
  /-- A cached answer is discarded 10 s after it was stored (R465). -/
  | responseCacheExpiry (sess : Nat)
  /-- A write of a key number stores the staged key and increments its generation (R463). -/
  | keyApply (sess : Nat) (k : Int)
  /-- KEY_OVERLAP after a rotation the old generation lapses and derived sessions close (R460). -/
  | keyOverlapEnd (k : Nat)
  /-- A life record is written raising the group counter limit (R462). -/
  | groupSeqReservation
  /-- A burst missing a beat for BEAT_TIMEOUT is ended as if its initiator were reset (R494). -/
  | beatTimeout (i t written abandoned : Nat)
  /-- A locked sequence held past LOCK_LIMIT is broken (R493). -/
  | lockBroken (i holdNs : Nat)
  /-- Two disagreements of the arbitration copies make the target FIXED (R490). -/
  | matrixFault (t : Nat)
  /-- A write of 1 returns FIXED targets to weighted arbitration (R490). -/
  | arbReset (sess : Nat)
  /-- An uncorrectable HBM error has the consequence of its region (R499). -/
  | hbmUe (addr initiator : Nat)
  /-- The patrol scrub completes a pass (R500). -/
  | scrubDone (corrected : List Nat) (uncorrectable : Nat)
  /-- PARK applies the park image and returns to PARKED (R516). -/
  | park (sess : Nat)
  /-- DRAIN starts an orderly stop ending in SAFE (R516). -/
  | drain (sess : Nat)
  /-- RESUME leaves SAFE by applying the park image (R516). -/
  | resume (sess : Nat)
  /-- WARM_RESET schedules a warm reset 10 ms after its ACK (R516). -/
  | warmReset (sess : Nat)
  /-- COLD_RESET schedules a cold reset 10 ms after its ACK (R516). -/
  | coldReset (sess : Nat)
  /-- 10 ms after the command's ACK the warm or cold reset takes place (R522). -/
  | resetDelayEnd
  /-- A write of a slot stores its image in the park regions (R521). -/
  | parkStore (sess : Nat) (slot : Int)
  /-- A write of 1 erases both park regions (R521). -/
  | parkClear (sess : Nat)
  /-- A write of 1 stores changed configuration regions (R525). -/
  | configStore (sess : Nat)
  /-- A flash region program completes (R526). -/
  | flashRegionDone
  /-- Every 3,600 s the life record is written (R524). -/
  | lifeRecordTimer
  /-- A write of a bank number opens it for writing (R528). -/
  | fwLoadOpen (sess : Nat) (bank : Int)
  /-- A write of 1 checks the bank signature (R528). -/
  | fwVerify (sess : Nat) (sigOk : Bool)
  /-- A write of a VALID bank starts a firmware update (R529). -/
  | fwActivate (sess : Nat) (bank : Int)
  /-- A write of 1 confirms the TRIAL bank (R531). -/
  | fwConfirm (sess : Nat)
  /-- After FW_CONFIRM_TIME the TRIAL bank is confirmed (R531). -/
  | fwConfirmTimeEnd
  /-- A write of 1 rolls the update back (R530). -/
  | fwRollback (sess : Nat)
  /-- A trial lobe not STANDBY within 10 s rolls the update back (R530). -/
  | fwTrialTimeout (l : Nat)
  /-- When REFCLK edges resume after a loss, ticks resume, held bank writes take effect at the first tick and a LOCKED servo becomes TRACKING (R425). -/
  | refclkReturns
  /-- An uncorrectable error in a staging set, operand memory or other lobe-local memory is a self-diagnosis cause 3 of the lobe (R321). -/
  | lobeLocalMemoryError (l : Nat)
  /-- An uncorrectable SRAM error returns ERROR to the reader, is counted and reported, and fails the record, heartbeat or snapshot that holds it (R502). -/
  | sramUe (addr initiator : Nat)
  /-- An IEEE 1149.1 instruction shifted in on TCK, TMS and TDI is carried out, with SAMPLE/PRELOAD and EXTEST accepted only while RESET_N is low (R561). -/
  | testAccessPortInstruction (ir : Nat)
  deriving DecidableEq, Repr

end Sys2Proof
end

