-- ==== Sys2Proof/Decode.lean ====
section
/-!
DEFINITION. The decoder the host asks about. No row of spec/opcode_table.json gives a command any bits, so no word spells
a command: commands reach the block as terms, from frames, pins and engines.
-/

namespace Sys2Proof

/-- The command a table word spells: none, since no row of the table gives bits. -/
def decodeTableWord (_nbits _w : Nat) : Option Instr := none

end Sys2Proof
end

