-- ==== Sys2Proof/Machine/Bytes.lean ====
section
/-!
DEFINITION. Narrowing, bit fields, byte orders and signed readings: the helpers every other file of the machine uses.
-/

namespace Sys2Proof

/-- A value limited to a closed range. -/
def clampInt (lo hi v : Int) : Int := if v < lo then lo else if hi < v then hi else v

/-- Division rounding toward minus infinity, the `floor` of the spec's formulas, for a positive divisor. -/
def floorDiv (a b : Int) : Int := a.fdiv b

/-- One bit of a natural number, as 0 or 1 (R12). -/
def bitOf (v n : Nat) : Nat := (v >>> n) % 2

/-- The `n` bytes of a value, least significant byte first (HBM and flash order, R13). -/
def leBytes : Nat → Nat → List Byte
  | 0, _ => []
  | n + 1, v => BitVec.ofNat 8 (v % 256) :: leBytes n (v / 256)

/-- The value of bytes held least significant first (R13). -/
def ofLe : List Byte → Nat
  | [] => 0
  | b :: t => b.toNat + 256 * ofLe t

/-- The `n` bytes of a value, most significant byte first (network order, R13). -/
def beBytes (n v : Nat) : List Byte := (leBytes n v).reverse

/-- The value of bytes in network order (R13). -/
def ofBe (l : List Byte) : Nat := ofLe l.reverse

/-- `n` bytes of a list from an offset. -/
def slice (l : List Byte) (off n : Nat) : List Byte := (l.drop off).take n

/-- The value of `n` bytes in network order at an offset of a frame. -/
def be (l : List Byte) (off n : Nat) : Nat := ofBe (slice l off n)

/-- The value of `n` bytes, least significant first, at an offset of a structure. -/
def le (l : List Byte) (off n : Nat) : Nat := ofLe (slice l off n)

/-- Two's complement of a value on `n` bits. -/
def toUnsigned (n : Nat) (v : Int) : Nat := (v % (2 ^ n : Nat)).toNat

/-- The signed reading of an `n`-bit value. -/
def toSigned (n v : Nat) : Int := if 2 * (v % 2 ^ n) < 2 ^ n then (v % 2 ^ n : Nat) else (v % 2 ^ n : Nat) - (2 ^ n : Nat)

end Sys2Proof
end

