-- ==== Sys2Proof/Config.lean ====
section
/-!
DEFINITION. What the spec leaves open: factory values it names without stating numbers, random draws, choices among
several correct answers, and results whose rounding it does not state. Every one is an opaque constant: nothing can be
proved about its value, and every claim holds whatever it is.
-/

namespace Sys2Proof.Config

/-- The factory value of a numeric object at an address and selector (Default column 'Factory'). -/
opaque factory (addr sel : Nat) : Int
/-- The factory value of an OCTETS object. -/
opaque factoryOctets (addr sel : Nat) : List Byte
/-- The `n`-th fresh value of a source the spec does not fix (random draws, values called undefined). -/
opaque freeNat (n : Nat) : Nat
/-- Fresh bytes of a source the spec does not fix (DEVICE_NONCE of R458, derived keys). -/
opaque freeBytes (n : Nat) (len : Nat) : BitVec (8 * len)
/-- AES-128-CMAC of a message under a key (RFC 4493): the standard's function, whose definition lies outside the spec. -/
opaque aesCmac (key msg : List Byte) : BitVec 128
/-- A preference among routes that all satisfy R59 and R60: the spec says the router answers deterministically but
not which route it takes. -/
opaque routePref (plane input : Nat) (vector exclude : List Nat) (faults : List (Nat × Int)) (calGen : Nat) : Nat
/-- The last digit of 10 * log10 of a power ratio, whose rounding R66 does not state, and the whole of it where the ratio is not positive. -/
opaque logRatio (num den : Int) : Int
/-- A quotient of the spec whose rounding is not stated: `tag` names the formula. -/
opaque quotient (tag : Nat) (num den : Int) : Int
/-- A factory safe page code or span of a drive channel (R216). -/
opaque safePageCode (u : Nat) : Nat
opaque safePageSpan (u : Nat) : Nat
/-- The place in the order of addresses and selectors at which a configuration region begins (R525 gives the order, not the boundaries). -/
opaque regionStart (region : Nat) : Nat
/-- Which calibration region holds a value, which no rule states. -/
opaque storedRegion (addr sel : Nat) : Nat
/-- The 4 KiB page of HBM region C that holds a calibration value: the layout of the region is not stated. -/
opaque calibrationPage (addr sel : Nat) : Nat
/-- A measured analogue value that no rule computes: `tag` names the quantity, `k` its channel and `n` the occasion. -/
opaque analogue (tag k n : Nat) : Int
/-- Where Sorus keeps a segment of a capture buffer in HBM region P, or a telemetry ring in region G: the allocation is not stated. -/
opaque captureAt (buffer segment : Nat) : Nat
opaque ringAt (ring : Nat) : Nat
/-- The manufacturer field of the IDCODE, which R561 names without a number. -/
opaque manufacturer : Nat
/-- The latency correction in 0.1 ns of a port in the FEC mode that is not the default: only the present mode's value has an object, and it
is the factory's (R433, R449). -/
opaque latency (tx : Bool) (port : Nat) : Nat
/-- LENGTH and CRC of the n-th snapshot: the layout of its body is not stated (R329). -/
opaque snapshotLength (n : Nat) : Nat
opaque snapshotCrc (n scan length : Nat) : Nat
/-- The lowest or highest state-copy format of a factory firmware bank, or of the n-th image verified (R512). -/
opaque firmwareFormat (high : Bool) (n : Nat) : Nat

end Sys2Proof.Config
end

