-- ==== Sys2Proof/Machine/ObjTable.lean ====
section
/-!
DEFINITION. The object dictionary of the spec: every row of its object tables (R35, R70, R71, R101, R135, R166 and the
other tables named beside each part), with the address (index * 256 + subindex), the type code of Table 16.6, the
access level of R17, the change class of R17, the selector range (R471 check 2), the value range (check 6) and the
default. An OCTETS row gives its length range in the place of the value range.
-/

namespace Sys2Proof.Machine

namespace Obj


/-! Objects of spec/01_architecture.md. -/

abbrev FUNC_MODE : Nat := 0x101001
abbrev FALLBACK_HOLDOFF : Nat := 0x101009
abbrev LAST_FALLBACK : Nat := 0x10100A
abbrev LAST_FALLBACK_TIME : Nat := 0x10100B
abbrev FALLBACK_COUNT : Nat := 0x10100C
abbrev EFFECTIVE_MODE : Nat := 0x10100D

/-! Objects of spec/02_fabric.md. -/

abbrev PLANES : Nat := 0x200001
abbrev STAGES : Nat := 0x200002
abbrev CELLS_PER_STAGE : Nat := 0x200003
abbrev SPARE_STAGE : Nat := 0x200004
abbrev PORTS : Nat := 0x200005
abbrev FABRIC_ID : Nat := 0x200006
abbrev BAND_MIN : Nat := 0x200007
abbrev BAND_MAX : Nat := 0x200008
abbrev APPLIED_SOURCE : Nat := 0x203001
abbrev APPLIED_DEST : Nat := 0x203002
abbrev APPLIED_SLOT : Nat := 0x203003
abbrev APPLIED_ROUTE : Nat := 0x203004
abbrev FAULT_GEN : Nat := 0x201001
abbrev CELL_CLASS : Nat := 0x201002
abbrev ELEMENT_FAULT : Nat := 0x201003
abbrev FAULT_CELLS : Nat := 0x201004
abbrev FAULT_APPLY : Nat := 0x201005
abbrev FAULT_DISCARDS : Nat := 0x201006
abbrev AUTO_BLOCK : Nat := 0x201007
abbrev PIN_TEST_CELL : Nat := 0x202001
abbrev PIN_TEST_STATUS : Nat := 0x202002
abbrev PIN_TEST_STATE : Nat := 0x202003
abbrev PIN_TEST_EXTINCTION : Nat := 0x202004

/-! Objects of spec/03_images.md. -/

abbrev LIB_SLOTS : Nat := 0x210001
abbrev LIB_VALID : Nat := 0x210002
abbrev FORMAT_VERSION : Nat := 0x210003
abbrev SLOT_STATE : Nat := 0x210101
abbrev SLOT_HASH : Nat := 0x210102
abbrev SLOT_FAULT_GEN : Nat := 0x210103
abbrev SLOT_CAL_GEN : Nat := 0x210104
abbrev SLOT_REFINE_COUNT : Nat := 0x210105
abbrev SLOT_IN_USE : Nat := 0x210106
abbrev LOAD_SLOT : Nat := 0x211001
abbrev LOAD_DATA : Nat := 0x211002
abbrev LOAD_CLOSE : Nat := 0x211003
abbrev LOAD_STATUS : Nat := 0x211004
abbrev ERASE_SLOT : Nat := 0x211005
abbrev READ_SLOT : Nat := 0x211006
abbrev READ_DATA : Nat := 0x211007
abbrev REVALIDATE : Nat := 0x211008
abbrev FIND_HASH : Nat := 0x213001
abbrev FIND_RESULT : Nat := 0x213002
abbrev ROUTE_VECTOR : Nat := 0x212001
abbrev ROUTE_EXCLUDE : Nat := 0x212002
abbrev ROUTE_SLOT : Nat := 0x212003
abbrev ROUTE_APPLY : Nat := 0x212004
abbrev ROUTE_STATUS : Nat := 0x212005
abbrev ROUTE_TIME : Nat := 0x212006
abbrev ROUTE_SEQ : Nat := 0x212007
abbrev ROUTE_HOST_DEADLINE : Nat := 0x212008
abbrev REFINE_WEIGHT : Nat := 0x214001
abbrev REFINE_MAX_RATE : Nat := 0x214002
abbrev REFINE_QUEUED : Nat := 0x214003
abbrev REFINE_DONE : Nat := 0x214004
abbrev REFINE_SKIPPED : Nat := 0x214005
abbrev REFINE_DISCARDED : Nat := 0x214006
abbrev REFINE_HOST_DEADLINE : Nat := 0x214007
abbrev REFINE_BUF_SLOT : Nat := 0x214008
abbrev REFINE_DECIDE : Nat := 0x214009
abbrev REFINE_BUF_DATA : Nat := 0x21400A

/-! Objects of spec/04_commit.md. -/

abbrev WAVE_SPACING : Nat := 0x220001
abbrev MAX_WAVES : Nat := 0x220002
abbrev PREPARE_TIMEOUT : Nat := 0x220003
abbrev SETTLE_TIMEOUT : Nat := 0x220004
abbrev LATE_LIMIT : Nat := 0x220005
abbrev PEER_GROUP : Nat := 0x220006
abbrev STAGING_FREE : Nat := 0x220101
abbrev QUEUE_DEPTH : Nat := 0x220102
abbrev NEXT_T : Nat := 0x220103
abbrev COMMITS_DONE : Nat := 0x220104
abbrev COMMITS_ABANDONED : Nat := 0x220105
abbrev PEER_ABORTS_IGNORED : Nat := 0x220106
abbrev LOG_HEAD : Nat := 0x220201
abbrev LOG_ID : Nat := 0x220301
abbrev LOG_SLOT : Nat := 0x220302
abbrev LOG_T : Nat := 0x220303
abbrev LOG_STATE : Nat := 0x220304
abbrev LOG_OUTCOME : Nat := 0x220305
abbrev LOG_FLAGS : Nat := 0x220306
abbrev LOG_WAVES : Nat := 0x220307
abbrev LOG_SETTLE : Nat := 0x220308

/-! Objects of spec/05_loops.md. -/

abbrev STEP : Nat := 0x230001
abbrev ACQ_STEP : Nat := 0x230002
abbrev ACQ_STEP_MAX : Nat := 0x230003
abbrev BAND_OUT : Nat := 0x230004
abbrev BAND_IN : Nat := 0x230005
abbrev ACQ_BAND : Nat := 0x230006
abbrev LOCK_SCANS : Nat := 0x230007
abbrev DARK_LEVEL : Nat := 0x230008
abbrev SAT_SCANS : Nat := 0x230009
abbrev SAT_REPORT : Nat := 0x23000A
abbrev POCKELS_LIMIT : Nat := 0x23000B
abbrev TAP_DEAD_LEVEL : Nat := 0x23000C
abbrev OBS_MIN : Nat := 0x23000D
abbrev OUTER_PERIOD : Nat := 0x230101
abbrev OUTER_STEP : Nat := 0x230102
abbrev T_MIN : Nat := 0x230103
abbrev T_MAX : Nat := 0x230104
abbrev RESEED_STEP : Nat := 0x230105
abbrev SETPOINT_DEFAULT : Nat := 0x230106
abbrev SETPOINT_SLEW : Nat := 0x230107
abbrev OFFLOAD_OUTER : Nat := 0x230201
abbrev OFFLOAD_INNER : Nat := 0x230202
abbrev OFFLOAD_STEP : Nat := 0x230203
abbrev OFFLOAD_PERIOD : Nat := 0x230204
abbrev OFFLOAD_SHIFT : Nat := 0x230205
abbrev WRAP_ENABLE : Nat := 0x230206
abbrev WRAP_HIGH : Nat := 0x230207
abbrev WRAP_RATE : Nat := 0x230208
abbrev WRAP_JUMP : Nat := 0x230209
abbrev WRAP_MAX_ACTIVE : Nat := 0x23020A
abbrev WRAP_STALL : Nat := 0x23020B
abbrev VOA_PERIOD : Nat := 0x230301
abbrev VSTEP : Nat := 0x230302
abbrev VBAND_OUT : Nat := 0x230303
abbrev VBAND_IN : Nat := 0x230304
abbrev POWER_TARGET_DEFAULT : Nat := 0x230305
abbrev SOURCE_DEFAULT : Nat := 0x230306
abbrev TARGET_SLEW : Nat := 0x230307
abbrev SP_LOW : Nat := 0x230308
abbrev SP_HIGH : Nat := 0x230309
abbrev LOOP_STATE : Nat := 0x231001
abbrev SETPOINT : Nat := 0x231002
abbrev POCKELS_PHASE : Nat := 0x231003
abbrev LOOP_OFFSET : Nat := 0x231004
abbrev WRAP_CARRY : Nat := 0x231005
abbrev HEATER_PHASE : Nat := 0x231006
abbrev LOOP_ERROR : Nat := 0x231007
abbrev LOOP_STATUS : Nat := 0x231008
abbrev LOOP_ENABLE : Nat := 0x231009
abbrev EFFECTIVE_T : Nat := 0x23100A
abbrev VOA_STATE : Nat := 0x231101
abbrev VOA_TARGET : Nat := 0x231102
abbrev VOA_SOURCE : Nat := 0x231103
abbrev VOA_ATTEN : Nat := 0x231104
abbrev VOA_POWER : Nat := 0x231105
abbrev VOA_STATUS : Nat := 0x231106
abbrev VOA_ENABLE : Nat := 0x231107
abbrev OVERRUN_COUNT : Nat := 0x232001
abbrev DEGRADED : Nat := 0x232002
abbrev WRAPS_ACTIVE : Nat := 0x232003
abbrev LOCKED_COUNT : Nat := 0x232004
abbrev HOST_DRIVE : Nat := 0x233001
abbrev HOST_DEADLINE : Nat := 0x233002
abbrev HOST_BLOCKS : Nat := 0x233003
abbrev HOST_REFUSED : Nat := 0x233004

/-! Objects of spec/06_datapath.md. -/

abbrev DP_LANES : Nat := 0x240001
abbrev DP_APPLY : Nat := 0x240002
abbrev DP_GEN : Nat := 0x240003
abbrev CONV_OFFSET : Nat := 0x240101
abbrev CONV_GAIN : Nat := 0x240102
abbrev PD_GAIN : Nat := 0x240103
abbrev FILT_LEN : Nat := 0x240201
abbrev FILT_SET : Nat := 0x240202
abbrev FILT_COEF : Nat := 0x240203
abbrev AVG_PD : Nat := 0x241001
abbrev AVG_LEN : Nat := 0x241002
abbrev AVG_MEAN : Nat := 0x241003
abbrev AVG_SUM : Nat := 0x241004
abbrev AVG_TAG : Nat := 0x241005
abbrev AVG_SEQ : Nat := 0x241006
abbrev SAT_COUNT : Nat := 0x242001
abbrev GUARD_COUNT : Nat := 0x242002
abbrev INV_COUNT : Nat := 0x242003

/-! Objects of spec/07_drive.md. -/

abbrev FAST_CHANNELS : Nat := 0x250001
abbrev HEATER_CHANNELS : Nat := 0x250002
abbrev PRIV_CHANNELS : Nat := 0x250003
abbrev SPAN : Nat := 0x250101
abbrev SPAN_APPLY : Nat := 0x250102
abbrev SPAN_DWELL : Nat := 0x250103
abbrev SLEW_STEP : Nat := 0x250201
abbrev SLEW_PERIOD : Nat := 0x250202
abbrev PRIV_TARGET : Nat := 0x250301
abbrev DEGLITCH : Nat := 0x250302
abbrev OUT_CODE : Nat := 0x250401
abbrev OUT_TARGET : Nat := 0x250402
abbrev OUT_STATUS : Nat := 0x250403
abbrev READBACK : Nat := 0x250404
abbrev SPARE_MAP : Nat := 0x250601
abbrev READBACK_TOL : Nat := 0x250602
abbrev READBACK_BLANK : Nat := 0x250603
abbrev SUBSTITUTIONS : Nat := 0x250604
abbrev LANES_LOST : Nat := 0x250605
abbrev GEN_CHANNEL : Nat := 0x250701
abbrev GEN_SHAPE : Nat := 0x250702
abbrev GEN_MODE : Nat := 0x250703
abbrev GEN_AMPLITUDE : Nat := 0x250704
abbrev GEN_PERIOD : Nat := 0x250705
abbrev GEN_OFFSET : Nat := 0x250706
abbrev GEN_SEED : Nat := 0x250707
abbrev GEN_START : Nat := 0x250708
abbrev GEN_APPLY : Nat := 0x250709
abbrev SAFE_CODE : Nat := 0x250801
abbrev SAFE_SPAN : Nat := 0x250802
abbrev SAFE_STORE : Nat := 0x250803
abbrev SAFE_GEN : Nat := 0x250804
abbrev SAFE_SOURCE : Nat := 0x250805
abbrev SAFE_REVERT : Nat := 0x250806
abbrev HOLD_TIMEOUT : Nat := 0x250807
abbrev HOLD_STATE : Nat := 0x250808

/-! Objects of spec/08_monitor.md. -/

abbrev PD_COUNT : Nat := 0x260001
abbrev CONVERTERS : Nat := 0x260002
abbrev SCAN_COUNT : Nat := 0x260003
abbrev SCAN_TIME : Nat := 0x260004
abbrev GAIN_MODE : Nat := 0x260101
abbrev GAIN : Nat := 0x260102
abbrev RAW_SAMPLE : Nat := 0x260103
abbrev RANGE_HIGH : Nat := 0x260104
abbrev RANGE_LOW : Nat := 0x260105
abbrev RANGE_HOLD : Nat := 0x260106
abbrev INVALID_COUNT : Nat := 0x260201
abbrev OVER_RANGE_COUNT : Nat := 0x260202
abbrev GAIN_CHANGES : Nat := 0x260203
abbrev REF_ENABLE : Nat := 0x260301
abbrev REF_READY : Nat := 0x260302
abbrev BANK_POWER : Nat := 0x260303
abbrev CONV_SPARE : Nat := 0x260304
abbrev CONV_STATE : Nat := 0x260305
abbrev CHECK_INTERVAL : Nat := 0x260401
abbrev CHECK_TOL : Nat := 0x260402
abbrev CHECK_CODE : Nat := 0x260403
abbrev INJ_CONVERTER : Nat := 0x260501
abbrev INJ_SOURCE : Nat := 0x260502
abbrev INJ_APPLY : Nat := 0x260503
abbrev INJ_STATUS : Nat := 0x260504
abbrev INJ_RESULT : Nat := 0x260505
abbrev INJ_POINTER : Nat := 0x260506
abbrev FOCUS_INPUT : Nat := 0x260601
abbrev FOCUS_PAIR : Nat := 0x260602
abbrev FOCUS_SCANS : Nat := 0x260603
abbrev FOCUS_START : Nat := 0x260604
abbrev FOCUS_STATE : Nat := 0x260605
abbrev FOCUS_ACTIVE : Nat := 0x260606
abbrev SPA_SHIFT : Nat := 0x261001
abbrev SPA_LIMIT : Nat := 0x261002
abbrev SPA_RAW : Nat := 0x261003
abbrev SPA_VALUE : Nat := 0x261004
abbrev SPA_VALID : Nat := 0x261005
abbrev SPP_MODE : Nat := 0x261101
abbrev SPP_WIN : Nat := 0x261102
abbrev SPP_TIMEOUT : Nat := 0x261103
abbrev DUTY_LOW : Nat := 0x261104
abbrev DUTY_HIGH : Nat := 0x261105
abbrev FREQ_LOW : Nat := 0x261106
abbrev FREQ_HIGH : Nat := 0x261107
abbrev SPP_DUTY : Nat := 0x261108
abbrev SPP_FREQ : Nat := 0x261109
abbrev SPP_VALUE : Nat := 0x26110A
abbrev SPP_VALID : Nat := 0x26110B

/-! Objects of spec/09_calibration.md. -/

abbrev CAL_GEN : Nat := 0x270001
abbrev CAL_KIND : Nat := 0x270002
abbrev CAL_SELECTOR : Nat := 0x270003
abbrev CAL_APPLY : Nat := 0x270004
abbrev CAL_QUEUED : Nat := 0x270005
abbrev CAL_STATUS : Nat := 0x270006
abbrev CAL_LAST_SEQ : Nat := 0x270007
abbrev CAL_LAST_STATUS : Nat := 0x270008
abbrev CAL_LAST_QUALITY : Nat := 0x270009
abbrev CAL_LAST_FLAGS : Nat := 0x27000A
abbrev CAL_AUTO_ACCEPT : Nat := 0x27000B
abbrev CAL_ACCEPT : Nat := 0x27000C
abbrev CAL_ACCEPT_TIMEOUT : Nat := 0x27000D
abbrev CAL_GRANT_TIMEOUT : Nat := 0x27000E
abbrev CAL_ABORT : Nat := 0x27000F
abbrev CAL_STORE : Nat := 0x270010
abbrev CAL_STORE_INTERVAL : Nat := 0x270011
abbrev CAL_STORED_GEN : Nat := 0x270012
abbrev TARGET_BAR : Nat := 0x271001
abbrev TARGET_CROSS : Nat := 0x271002
abbrev FRINGE_SIGN : Nat := 0x271003
abbrev THERMAL_ALPHA : Nat := 0x271004
abbrev EXTINCTION : Nat := 0x271005
abbrev BAND_TRIM : Nat := 0x271006
abbrev TEMPLATE_BAR : Nat := 0x271007
abbrev TEMPLATE_CROSS : Nat := 0x271008
abbrev FAST_MAP : Nat := 0x271101
abbrev HEATER_MAP : Nat := 0x271102
abbrev VOA_MAP : Nat := 0x271103
abbrev HEATER_R : Nat := 0x271104
abbrev IN_TAP_REF : Nat := 0x271105
abbrev OUT_TAP_REF : Nat := 0x271106
abbrev CAL_VALUES_APPLY : Nat := 0x271107
abbrev TPL_A1 : Nat := 0x272001
abbrev TPL_A2 : Nat := 0x272002
abbrev TPL_D1 : Nat := 0x272003
abbrev TPL_D2 : Nat := 0x272004
abbrev TPL_RESIDUAL : Nat := 0x272005
abbrev ADAPT_MEAN : Nat := 0x272006
abbrev TEMPLATE_APPLY : Nat := 0x272007
abbrev TPL_SPAN : Nat := 0x272008
abbrev ADAPT_GAIN : Nat := 0x272101
abbrev ADAPT_COUNT : Nat := 0x272102
abbrev ADAPT_MIN : Nat := 0x272103
abbrev TEMPLATE_HOST_DEADLINE : Nat := 0x272104
abbrev LANE_OFFSET : Nat := 0x273001
abbrev LANE_GAIN : Nat := 0x273002
abbrev LANE_RESIDUAL : Nat := 0x273003
abbrev CHECK_EXPECT : Nat := 0x274001
abbrev CONV_RESIDUAL : Nat := 0x274002
abbrev SPARE_OFFSET : Nat := 0x274003
abbrev SPARE_GAIN : Nat := 0x274004
abbrev SPARE_EXPECT : Nat := 0x274005
abbrev REF_TRIM_CODE : Nat := 0x274006

/-! Objects of spec/10_power_thermal.md. -/

abbrev HEATER_BUDGET : Nat := 0x280001
abbrev LOOP_RESERVE : Nat := 0x280002
abbrev DRIVE_BUDGET : Nat := 0x280003
abbrev WRAP_CHARGE_MAX : Nat := 0x280004
abbrev HEATER_POWER : Nat := 0x280101
abbrev GRANTED_HEATER : Nat := 0x280102
abbrev HEADROOM : Nat := 0x280103
abbrev GRANT_WAITING : Nat := 0x280104
abbrev CEILING_ACTIVE : Nat := 0x280105
abbrev CEILING_SKIPS : Nat := 0x280106
abbrev GRANTS_ISSUED : Nat := 0x280107
abbrev GRANTS_REFUSED : Nat := 0x280108
abbrev WRAP_CHARGE_HELD : Nat := 0x280109
abbrev STEADY_STATE : Nat := 0x28010A
abbrev MISMATCH_COUNT : Nat := 0x28010B
abbrev STEADY_RESET : Nat := 0x28010C
abbrev GRANT_HOST_DEADLINE : Nat := 0x280201
abbrev GRANT_DECIDE : Nat := 0x280202
abbrev GREQ_HEAD : Nat := 0x280203
abbrev GREQ_SEQ : Nat := 0x280301
abbrev GREQ_KIND : Nat := 0x280302
abbrev GREQ_SOURCE : Nat := 0x280303
abbrev GREQ_HEATER : Nat := 0x280304
abbrev GREQ_CHARGE : Nat := 0x280305
abbrev GREQ_WAVES : Nat := 0x280306
abbrev GREQ_STATE : Nat := 0x280307
abbrev TEMP : Nat := 0x288001
abbrev SENSOR_STATE : Nat := 0x288002
abbrev WARN_LEVEL : Nat := 0x288101
abbrev THROTTLE_LEVEL : Nat := 0x288102
abbrev STOP_LEVEL : Nat := 0x288103
abbrev CUT_LEVEL : Nat := 0x288104
abbrev THERMAL_HYST : Nat := 0x288105
abbrev GROUP_TEMP : Nat := 0x288106
abbrev THERMAL_STATE : Nat := 0x288107
abbrev STOP_DRAIN : Nat := 0x288201
abbrev TDX_MODE : Nat := 0x288301
abbrev TDX_IDEALITY : Nat := 0x288302
abbrev NTC_R25 : Nat := 0x288303
abbrev NTC_BETA : Nat := 0x288304
abbrev CASE_SOURCE : Nat := 0x288401
abbrev CASE_TEMP : Nat := 0x288402
abbrev CASE_IN_RANGE : Nat := 0x288403
abbrev FLASH_WRITE_OK : Nat := 0x288404

/-! Objects of spec/11_lobes.md. -/

abbrev LOBE_ROLE : Nat := 0x290001
abbrev ACTIVE_LOBE : Nat := 0x290002
abbrev CLAIM : Nat := 0x290003
abbrev EPOCH : Nat := 0x290004
abbrev CLAIM_MAX : Nat := 0x290005
abbrev CLAIM_MIN : Nat := 0x290006
abbrev REDUNDANT : Nat := 0x290007
abbrev LOBE_STRAP : Nat := 0x290008
abbrev LOBE_HOLD_OFFLINE : Nat := 0x290009
abbrev LOBE_RESET : Nat := 0x29000A
abbrev DIAG_FAILS : Nat := 0x29000B
abbrev LOBE_HEALTH : Nat := 0x29000C
abbrev SWAP_ENABLE : Nat := 0x290101
abbrev SWAP_INTERVAL : Nat := 0x290102
abbrev SWAP_GUARD : Nat := 0x290103
abbrev SWAP_POSTPONE_MAX : Nat := 0x290104
abbrev SWAP_NOW : Nat := 0x290105
abbrev LAST_SWAP : Nat := 0x290106
abbrev NEXT_SWAP : Nat := 0x290107
abbrev HB_PATH_STATE : Nat := 0x290201
abbrev HB_MISSES : Nat := 0x290202
abbrev SNAP_SEQ : Nat := 0x290301
abbrev SNAP_AGE : Nat := 0x290302
abbrev SNAP_DISCARDS : Nat := 0x290303
abbrev XCMP_MISMATCHES : Nat := 0x290401
abbrev XCMP_EXCUSED : Nat := 0x290402
abbrev MISMATCH_LIMIT : Nat := 0x290403
abbrev KAT_INTERVAL : Nat := 0x290404
abbrev FAILOVERS : Nat := 0x290501
abbrev LAST_FAILOVER : Nat := 0x290502
abbrev LAST_FAILOVER_CAUSE : Nat := 0x290503
abbrev LAST_HOLD : Nat := 0x290504
abbrev RECONCILED : Nat := 0x290505

/-! Objects of spec/12_capture.md. -/

abbrev CAP_BUFFERS : Nat := 0x2A0001
abbrev CAP_RESERVED : Nat := 0x2A0002
abbrev PATH_SCAN_WORDS : Nat := 0x2A0003
abbrev PATH_STROBE_WORDS : Nat := 0x2A0004
abbrev CAP_HOST_DEADLINE : Nat := 0x2A0005
abbrev CAP_RATE : Nat := 0x2A0101
abbrev CAP_DECIM : Nat := 0x2A0102
abbrev CAP_CHANNELS : Nat := 0x2A0103
abbrev CAP_LENGTH : Nat := 0x2A0104
abbrev CAP_PRE : Nat := 0x2A0105
abbrev CAP_SEGMENTS : Nat := 0x2A0106
abbrev CAP_MODE : Nat := 0x2A0107
abbrev CAP_OVERWRITE : Nat := 0x2A0108
abbrev CAP_PRE_MODE : Nat := 0x2A0109
abbrev CAP_REARM : Nat := 0x2A010A
abbrev CAP_AUTO : Nat := 0x2A010B
abbrev CAP_AUTO_TIMEOUT : Nat := 0x2A010C
abbrev CAP_CARE : Nat := 0x2A010D
abbrev CAP_VALUE : Nat := 0x2A010E
abbrev CAP_COMMIT_ID : Nat := 0x2A010F
abbrev CAP_EVENT_CODE : Nat := 0x2A0110
abbrev CAP_EVENT_MASK : Nat := 0x2A0111
abbrev CAP_TRIG_TIME : Nat := 0x2A0112
abbrev CAP_LINK : Nat := 0x2A0113
abbrev CAP_MASK : Nat := 0x2A0114
abbrev CAP_MASK_ACTION : Nat := 0x2A0115
abbrev CAP_ARM : Nat := 0x2A0116
abbrev CAP_FORCE : Nat := 0x2A0117
abbrev CAP_STATE : Nat := 0x2A0118
abbrev CAP_SEQ : Nat := 0x2A0119
abbrev CAP_MISSED : Nat := 0x2A011A
abbrev CAP_EARLY : Nat := 0x2A011B
abbrev CAP_RELEASE : Nat := 0x2A011C
abbrev CAP_UNRELEASED : Nat := 0x2A011D
abbrev CAP_LEVEL : Nat := 0x2A0201
abbrev CAP_DIR : Nat := 0x2A0202
abbrev CAP_READ_BUF : Nat := 0x2A0301
abbrev CAP_READ_SEQ : Nat := 0x2A0302
abbrev CAP_DATA : Nat := 0x2A0303
abbrev RING_LENGTH : Nat := 0x2A1001
abbrev RING_CHANNELS : Nat := 0x2A1002
abbrev RING_DECIM : Nat := 0x2A1003
abbrev RING_EVENTS : Nat := 0x2A1004
abbrev RING_COMMITS : Nat := 0x2A1005
abbrev RING_POLICY : Nat := 0x2A1006
abbrev RING_ENABLE : Nat := 0x2A1007
abbrev RING_WP : Nat := 0x2A1008
abbrev RING_RP : Nat := 0x2A1009
abbrev RING_DROPPED : Nat := 0x2A100A
abbrev RING_DATA : Nat := 0x2A100B
abbrev TRIG_OUT_SRC : Nat := 0x2A2001
abbrev TRIG_OUT_WIDTH : Nat := 0x2A2002
abbrev TRIG_OUT_POL : Nat := 0x2A2003
abbrev TRIG_IN_EDGES : Nat := 0x2A2004

/-! Objects of spec/13_control_ports.md. -/

abbrev PORT_ENABLE : Nat := 0x300001
abbrev FEC_MODE : Nat := 0x300002
abbrev MAC_ADDR : Nat := 0x300003
abbrev MAX_FRAME : Nat := 0x300004
abbrev LINK_STATE : Nat := 0x300005
abbrev LINK_DOWN_HOLD : Nat := 0x300006
abbrev LINK_UP_HOLD : Nat := 0x300007
abbrev PORT_ROLE : Nat := 0x300008
abbrev LINK_FLAPS : Nat := 0x300009
abbrev PORT_MODE : Nat := 0x300101
abbrev PREFERRED_PORT : Nat := 0x300102
abbrev REVERT : Nat := 0x300103
abbrev NET_APPLY : Nat := 0x300104
abbrev IPV4_ADDR : Nat := 0x300201
abbrev IPV4_PREFIX : Nat := 0x300202
abbrev IPV4_GATEWAY : Nat := 0x300203
abbrev IPV6_ADDR : Nat := 0x300204
abbrev IPV6_PREFIX : Nat := 0x300205
abbrev IPV6_GATEWAY : Nat := 0x300206
abbrev MGMT_VID : Nat := 0x300207
abbrev GROUP_ADDR : Nat := 0x300301
abbrev ACCEPT_VID : Nat := 0x300302
abbrev RX_FRAMES : Nat := 0x301001
abbrev RX_BYTES : Nat := 0x301002
abbrev TX_FRAMES : Nat := 0x301003
abbrev TX_BYTES : Nat := 0x301004
abbrev RX_RUNT : Nat := 0x301005
abbrev RX_OVERSIZE : Nat := 0x301006
abbrev RX_FCS_ERRORS : Nat := 0x301007
abbrev RX_PAUSE : Nat := 0x301008
abbrev RX_ADDR_FILTERED : Nat := 0x301009
abbrev RX_VLAN_FILTERED : Nat := 0x30100A
abbrev RX_CHECKSUM_BAD : Nat := 0x30100B
abbrev FEC_CORRECTED : Nat := 0x30100C
abbrev FEC_UNCORRECTED : Nat := 0x30100D
abbrev RULES_GEN : Nat := 0x310001
abbrev RULES_ACTIVE_BANK : Nat := 0x310002
abbrev RULES_STATUS : Nat := 0x310003
abbrev RULES_APPLY : Nat := 0x310004
abbrev RULES_FAIL_NODE : Nat := 0x310005
abbrev RULES_FAIL_CHECK : Nat := 0x310006
abbrev RULES_STORE : Nat := 0x310007
abbrev RULES_SOURCE : Nat := 0x310008
abbrev RULES_GUARD : Nat := 0x310009
abbrev GUARD_OVERRIDES : Nat := 0x31000A
abbrev SHADOW_NODE : Nat := 0x310101
abbrev SHADOW_BANK : Nat := 0x310102
abbrev ACTIVE_NODE : Nat := 0x310103
abbrev LEAF_FRAMES : Nat := 0x311001
abbrev LEAF_BYTES : Nat := 0x311002
abbrev RECIRCULATED : Nat := 0x311003
abbrev RX_CLASS_DROPS : Nat := 0x311004
abbrev SLOW_RATE : Nat := 0x311101
abbrev SLOW_BURST : Nat := 0x311102
abbrev SLOW_FRAMES : Nat := 0x311103
abbrev SLOW_POLICED : Nat := 0x311104
abbrev SLOW_QUEUE_DROPS : Nat := 0x311105
abbrev CLASS_HOST_DEADLINE : Nat := 0x311201
abbrev CLASS_DECIDE : Nat := 0x311202
abbrev CLASS_HELD : Nat := 0x311203
abbrev CLASS_HOLD_DROPS : Nat := 0x311204
abbrev HELD_SEQ : Nat := 0x311301
abbrev HELD_KEY : Nat := 0x311302
abbrev HELD_FRAME : Nat := 0x311303
abbrev HELD_TIME : Nat := 0x311304

/-! Objects of spec/14_queues.md. -/

abbrev QUEUE_LIMIT : Nat := 0x320001
abbrev QUEUE_PCP : Nat := 0x320002
abbrev TXQ_APPLY : Nat := 0x320003
abbrev TX_CLASS_MAP : Nat := 0x320101
abbrev SHAPER_ENABLE : Nat := 0x320201
abbrev SHAPER_RATE : Nat := 0x320202
abbrev SHAPER_BURST : Nat := 0x320203
abbrev SHAPER_RESET_POLICY : Nat := 0x320204
abbrev SHAPER_TOKENS : Nat := 0x320205
abbrev QUEUE_FRAMES : Nat := 0x321001
abbrev QUEUE_BYTES : Nat := 0x321002
abbrev QUEUE_DROPS : Nat := 0x321003
abbrev QUEUE_FLUSHED : Nat := 0x321004
abbrev GATE_WAITS : Nat := 0x321005
abbrev GATE_OVERSIZE : Nat := 0x321006
abbrev GATE_ENABLE : Nat := 0x320401
abbrev GATE_BASE : Nat := 0x320402
abbrev GATE_CYCLE : Nat := 0x320403
abbrev GATE_LIST : Nat := 0x320404
abbrev GATE_LIST_LEN : Nat := 0x320405
abbrev GATE_APPLY : Nat := 0x320406
abbrev GATE_STATE : Nat := 0x320407
abbrev GATE_CHANGE_TIME : Nat := 0x320408
abbrev GATE_OPER_LIST : Nat := 0x320409
abbrev GATE_LONGEST : Nat := 0x32040A
abbrev POLICER_RATE : Nat := 0x320501
abbrev POLICER_BURST : Nat := 0x320502
abbrev POLICER_ACTION : Nat := 0x320503
abbrev POLICER_CONFORM : Nat := 0x320504
abbrev POLICER_EXCEED : Nat := 0x320505
abbrev QSAMPLE_PERIOD : Nat := 0x321101
abbrev QSAMPLE_SEQ : Nat := 0x321102
abbrev QSAMPLE_TIME : Nat := 0x321103
abbrev QDEPTH_BYTES : Nat := 0x321104
abbrev QDEPTH_FRAMES : Nat := 0x321105
abbrev QDELAY_HEAD : Nat := 0x321106
abbrev QDEPTH_MAX : Nat := 0x321107
abbrev QDELAY_MAX : Nat := 0x321108

/-! Objects of spec/15_time.md. -/

abbrev TIME_NOW : Nat := 0x330001
abbrev SERVO_STATE : Nat := 0x330002
abbrev TIME_RATE : Nat := 0x330003
abbrev ADDEND : Nat := 0x330004
abbrev TIME_OFFSET : Nat := 0x330005
abbrev TIME_OFFSET_SEQ : Nat := 0x330006
abbrev PATH_DELAY : Nat := 0x330007
abbrev TIME_RESET : Nat := 0x330008
abbrev TIME_DOMAIN_GEN : Nat := 0x330009
abbrev HOLDOVER_TIME : Nat := 0x33000A
abbrev UTC_OFFSET : Nat := 0x33000B
abbrev SERVO_KP : Nat := 0x330101
abbrev SERVO_KI : Nat := 0x330102
abbrev SERVO_LOCK_LIMIT : Nat := 0x330103
abbrev LOCK_COUNT : Nat := 0x330104
abbrev STEP_QUALIFY : Nat := 0x330105
abbrev OFFSET_ALARM : Nat := 0x330106
abbrev HOLDOVER_AVG : Nat := 0x330107
abbrev SERVO_HOST_DEADLINE : Nat := 0x330108
abbrev PTP_DOMAIN : Nat := 0x330201
abbrev PTP_DELAY_MECH : Nat := 0x330202
abbrev PTP_TRANSPORT : Nat := 0x330203
abbrev PTP_PORT : Nat := 0x330204
abbrev PDELAY_RESP_MODE : Nat := 0x330205
abbrev PTP_ENABLE : Nat := 0x330206
abbrev ANNOUNCE_TIMEOUT : Nat := 0x330207
abbrev PATH_DELAY_AVG : Nat := 0x330208
abbrev TS_RX_LATENCY : Nat := 0x330209
abbrev TS_TX_LATENCY : Nat := 0x33020A
abbrev MASTER_ID : Nat := 0x330301
abbrev FOREIGN_MASTERS : Nat := 0x330302
abbrev PTP_RX_DISCARDS : Nat := 0x330303
abbrev PULSE_MODE : Nat := 0x331001
abbrev PULSE_START : Nat := 0x331002
abbrev PULSE_PERIOD : Nat := 0x331003
abbrev PULSE_WIDTH : Nat := 0x331004
abbrev PULSE_POL : Nat := 0x331005
abbrev PULSE_QUAL : Nat := 0x331006
abbrev PULSE_APPLY : Nat := 0x331007
abbrev PPS_IN_MODE : Nat := 0x331101
abbrev PPS_IN_WINDOW : Nat := 0x331102
abbrev PPS_IN_OFFSET : Nat := 0x331103
abbrev PPS_IN_VALID : Nat := 0x331104
abbrev LAUNCH_FRAME : Nat := 0x331201
abbrev LAUNCH_SOURCE : Nat := 0x331202
abbrev LAUNCH_TIME : Nat := 0x331203
abbrev LAUNCH_PERIOD : Nat := 0x331204
abbrev LAUNCH_APPLY : Nat := 0x331205
abbrev LAUNCH_COUNT : Nat := 0x331206
abbrev LAUNCH_DROPS : Nat := 0x331207

/-! Objects of spec/16_exvan.md. -/

abbrev VENDOR : Nat := 0x100001
abbrev PART_NUMBER : Nat := 0x100002
abbrev GRADE : Nat := 0x100003
abbrev SERIAL : Nat := 0x100004
abbrev HW_ISSUE : Nat := 0x100005
abbrev FW_VERSION : Nat := 0x100006
abbrev PROTOCOL_VERSION : Nat := 0x100007
abbrev NODE_ID : Nat := 0x100008
abbrev MODULE_NAME : Nat := 0x100009
abbrev DEVICE_STATE : Nat := 0x100101
abbrev STATE_SINCE : Nat := 0x100102
abbrev EVENT_NEWEST : Nat := 0x110001
abbrev EVENT_OLDEST : Nat := 0x110002
abbrev EVENT_RECORD : Nat := 0x110003
abbrev SUB_FILTER : Nat := 0x111001
abbrev SESSION_TIMEOUT : Nat := 0x340001
abbrev SESSIONS_OPEN : Nat := 0x340002
abbrev OWN_SESSION : Nat := 0x340003
abbrev SESSION_ID : Nat := 0x340101
abbrev SESSION_LEVEL : Nat := 0x340102
abbrev SESSION_ADDR : Nat := 0x340103
abbrev SESSION_IDLE : Nat := 0x340104
abbrev SUB_DROPPED : Nat := 0x340105
abbrev SESSION_CLOSE : Nat := 0x340106
abbrev KEY_NEW : Nat := 0x341001
abbrev KEY_APPLY : Nat := 0x341002
abbrev KEY_GEN : Nat := 0x341003
abbrev KEY_OVERLAP : Nat := 0x341004
abbrev FORMAT_DROPS : Nat := 0x342001
abbrev DEST_DROPS : Nat := 0x342002
abbrev SESSION_DROPS : Nat := 0x342003
abbrev AUTH_FAILS : Nat := 0x342004
abbrev REPLAY_DROPS : Nat := 0x342005
abbrev RETRIES_SERVED : Nat := 0x342006
abbrev BLOCKS_ABANDONED : Nat := 0x342007

/-! Objects of spec/17_internal.md. -/

abbrev BEAT_TIMEOUT : Nat := 0x350001
abbrev MATRIX_LOCK_LIMIT : Nat := 0x350002
abbrev ARB_MISMATCHES : Nat := 0x350003
abbrev ARB_RESET : Nat := 0x350004
abbrev TARGET_WEIGHTS : Nat := 0x350101
abbrev PARK_INITIATOR : Nat := 0x350102
abbrev TARGET_ARB_STATE : Nat := 0x350103
abbrev TARGET_BUSY : Nat := 0x350104
abbrev INIT_BYTES : Nat := 0x350201
abbrev INIT_ABORTS : Nat := 0x350202
abbrev DECODE_ERRORS : Nat := 0x350203
abbrev LOCKS_BROKEN : Nat := 0x350204
abbrev HELD_BACK : Nat := 0x350205
abbrev HBM_STATE : Nat := 0x351001
abbrev HBM_CE_COUNT : Nat := 0x351002
abbrev HBM_UE_COUNT : Nat := 0x351003
abbrev HBM_LAST_UE_ADDR : Nat := 0x351004
abbrev SCRUB_PERIOD : Nat := 0x351005
abbrev SCRUB_PROGRESS : Nat := 0x351006
abbrev SRAM_CE_COUNT : Nat := 0x351101
abbrev SRAM_UE_COUNT : Nat := 0x351102
abbrev SRAM_LAST_UE_ADDR : Nat := 0x351103
abbrev SPIN_CAPACITY : Nat := 0x352001
abbrev SPIN_CAPACITY_MIN : Nat := 0x352002
abbrev SPEED_WARN : Nat := 0x352003
abbrev GOUGE_CAPACITY : Nat := 0x352004

/-! Objects of spec/18_lifecycle.md. -/

abbrev FW_BANK_STATE : Nat := 0x120001
abbrev FW_BANK_VERSION : Nat := 0x120002
abbrev FW_RUNNING_BANK : Nat := 0x120003
abbrev FW_LOAD_OPEN : Nat := 0x120004
abbrev FW_DATA : Nat := 0x120005
abbrev FW_VERIFY : Nat := 0x120006
abbrev FW_ACTIVATE : Nat := 0x120007
abbrev FW_CONFIRM : Nat := 0x120008
abbrev FW_ROLLBACK : Nat := 0x120009
abbrev FW_CONFIRM_TIME : Nat := 0x12000A
abbrev FW_UPDATE_STATE : Nat := 0x12000B
abbrev FLASH_BUSY : Nat := 0x120101
abbrev FLASH_WEAR : Nat := 0x120102
abbrev CONFIG_STORE : Nat := 0x120103
abbrev CONFIG_DIRTY : Nat := 0x120104
abbrev PARK_SLOT : Nat := 0x120105
abbrev PARK_STORE : Nat := 0x120106
abbrev PARK_CLEAR : Nat := 0x120107
abbrev PARK_SOURCE : Nat := 0x120108
abbrev DEVICE_COMMAND : Nat := 0x360001
abbrev FAULT_HOLD_CAUSE : Nat := 0x360002
abbrev SELFTEST_RESULT : Nat := 0x360003
abbrev RESET_CAUSE : Nat := 0x360004
abbrev BOOT_TIME : Nat := 0x360005
abbrev REFCLK_RESTORE_TIME : Nat := 0x360006
abbrev RAIL_VOLTAGE : Nat := 0x360101
abbrev RAIL_STATE : Nat := 0x360102
abbrev POWER_ON_HOURS : Nat := 0x360201
abbrev COLD_RESETS : Nat := 0x360202
abbrev LIFE_COMMITS : Nat := 0x360203
abbrev HOURS_JUNCTION_HOT : Nat := 0x360204
abbrev HOURS_CASE_HOT : Nat := 0x360205

end Obj

/-- Object rows of R35, R479 (spec/01_architecture.md, spec/16_exvan.md). -/
def objRows10_0 : List ObjDef := [
  ⟨Obj.FUNC_MODE, .enum8, 2, .live, none, 0, 1, .num 0⟩,
  ⟨Obj.FUNC_MODE + 1, .enum8, 2, .live, none, 0, 1, .num 0⟩,
  ⟨Obj.FUNC_MODE + 2, .enum8, 2, .live, none, 0, 1, .num 0⟩,
  ⟨Obj.FUNC_MODE + 3, .enum8, 2, .live, none, 0, 1, .num 0⟩,
  ⟨Obj.FUNC_MODE + 4, .enum8, 2, .live, none, 0, 1, .num 0⟩,
  ⟨Obj.FUNC_MODE + 5, .enum8, 2, .live, none, 0, 1, .num 0⟩,
  ⟨Obj.FUNC_MODE + 6, .enum8, 2, .live, none, 0, 1, .num 0⟩,
  ⟨Obj.FUNC_MODE + 7, .enum8, 2, .live, none, 0, 1, .num 0⟩,
  ⟨Obj.FALLBACK_HOLDOFF, .u32, 2, .live, none, 0, 60000, .num 1000⟩,
  ⟨Obj.LAST_FALLBACK, .u8, 0, .readOnly, none, 0, 255, .num 0⟩,
  ⟨Obj.LAST_FALLBACK_TIME, .time96, 0, .readOnly, none, 0, 18446744073709551615999999999, .num 0⟩,
  ⟨Obj.FALLBACK_COUNT, .u32, 0, .readOnly, some (1, 8), 0, 4294967295, .num 0⟩,
  ⟨Obj.EFFECTIVE_MODE, .enum8, 0, .readOnly, some (1, 8), 0, 255, .num 0⟩,
  ⟨Obj.VENDOR, .octets, 0, .readOnly, none, 21, 21, .factory⟩,
  ⟨Obj.PART_NUMBER, .octets, 0, .readOnly, none, 9, 9, .factory⟩,
  ⟨Obj.GRADE, .enum8, 0, .readOnly, none, 0, 1, .factory⟩,
  ⟨Obj.SERIAL, .octets, 0, .readOnly, none, 16, 16, .factory⟩,
  ⟨Obj.HW_ISSUE, .u16, 0, .readOnly, none, 0, 65535, .factory⟩,
  ⟨Obj.FW_VERSION, .u32, 0, .readOnly, none, 0, 4294967295, .num 0⟩,
  ⟨Obj.PROTOCOL_VERSION, .u8, 0, .readOnly, none, 0, 255, .num 1⟩,
  ⟨Obj.NODE_ID, .u16, 2, .live, none, 0, 1023, .num 0⟩,
  ⟨Obj.MODULE_NAME, .octets, 2, .live, none, 32, 32, .bytes 0⟩,
  ⟨Obj.DEVICE_STATE, .enum8, 0, .readOnly, none, 0, 255, .num 0⟩,
  ⟨Obj.STATE_SINCE, .time96, 0, .readOnly, none, 0, 18446744073709551615999999999, .num 0⟩]

/-- Object rows of R480 (spec/16_exvan.md). -/
def objRows11_0 : List ObjDef := [
  ⟨Obj.EVENT_NEWEST, .u32, 0, .readOnly, none, 0, 4294967295, .num 0⟩,
  ⟨Obj.EVENT_OLDEST, .u32, 0, .readOnly, none, 0, 4294967295, .num 0⟩,
  ⟨Obj.EVENT_RECORD, .octets, 0, .readOnly, some (0, 4294967295), 52, 52, .bytes 0⟩,
  ⟨Obj.SUB_FILTER, .octets, 0, .readOnly, some (0, 7), 8, 8, .bytes 0⟩]

/-- Object rows of R534 (spec/18_lifecycle.md). -/
def objRows12_0 : List ObjDef := [
  ⟨Obj.FW_BANK_STATE, .enum8, 0, .readOnly, some (0, 1), 0, 255, .num 0⟩,
  ⟨Obj.FW_BANK_VERSION, .u32, 0, .readOnly, some (0, 1), 0, 4294967295, .num 0⟩,
  ⟨Obj.FW_RUNNING_BANK, .u8, 0, .readOnly, some (0, 1), 0, 255, .num 0⟩,
  ⟨Obj.FW_LOAD_OPEN, .u8, 2, .live, none, 0, 1, .num 0⟩,
  ⟨Obj.FW_DATA, .octets, 2, .live, some (0, 127), 262144, 262144, .bytes 0⟩,
  ⟨Obj.FW_VERIFY, .u8, 2, .live, none, 1, 1, .num 0⟩,
  ⟨Obj.FW_ACTIVATE, .u8, 2, .live, none, 0, 1, .num 0⟩,
  ⟨Obj.FW_CONFIRM, .u8, 2, .live, none, 1, 1, .num 0⟩,
  ⟨Obj.FW_ROLLBACK, .u8, 2, .live, none, 1, 1, .num 0⟩,
  ⟨Obj.FW_CONFIRM_TIME, .u32, 2, .live, none, 60, 86400, .num 600⟩,
  ⟨Obj.FW_UPDATE_STATE, .enum8, 0, .readOnly, none, 0, 255, .num 0⟩,
  ⟨Obj.FLASH_BUSY, .bool, 0, .readOnly, none, 0, 1, .num 0⟩,
  ⟨Obj.FLASH_WEAR, .u16, 0, .readOnly, none, 0, 65535, .num 0⟩,
  ⟨Obj.CONFIG_STORE, .u8, 2, .live, none, 1, 1, .num 0⟩,
  ⟨Obj.CONFIG_DIRTY, .bool, 0, .readOnly, none, 0, 1, .num 0⟩,
  ⟨Obj.PARK_SLOT, .u32, 2, .live, none, 0, 262143, .num 262143⟩,
  ⟨Obj.PARK_STORE, .u32, 2, .live, none, 0, 262143, .num 0⟩,
  ⟨Obj.PARK_CLEAR, .u8, 2, .live, none, 1, 1, .num 0⟩,
  ⟨Obj.PARK_SOURCE, .enum8, 0, .readOnly, none, 0, 255, .num 0⟩]

/-- Object rows of R70, R71 (spec/02_fabric.md). -/
def objRows20_0 : List ObjDef := [
  ⟨Obj.PLANES, .u8, 0, .readOnly, none, 0, 255, .num 2⟩,
  ⟨Obj.STAGES, .u8, 0, .readOnly, none, 0, 255, .num 20⟩,
  ⟨Obj.CELLS_PER_STAGE, .u16, 0, .readOnly, none, 0, 65535, .num 512⟩,
  ⟨Obj.SPARE_STAGE, .u8, 0, .readOnly, none, 0, 255, .num 19⟩,
  ⟨Obj.PORTS, .u16, 0, .readOnly, none, 0, 65535, .num 1024⟩,
  ⟨Obj.FABRIC_ID, .octets, 0, .readOnly, none, 16, 16, .factory⟩,
  ⟨Obj.BAND_MIN, .u32, 0, .readOnly, none, 0, 4294967295, .num 1296000⟩,
  ⟨Obj.BAND_MAX, .u32, 0, .readOnly, none, 0, 4294967295, .num 1326000⟩,
  ⟨Obj.APPLIED_SOURCE, .u16, 0, .readOnly, some (0, 1023), 0, 65535, .num 65535⟩,
  ⟨Obj.APPLIED_DEST, .u16, 0, .readOnly, some (0, 1023), 0, 65535, .num 65535⟩,
  ⟨Obj.APPLIED_SLOT, .u32, 0, .readOnly, none, 0, 4294967295, .num 4294967295⟩,
  ⟨Obj.APPLIED_ROUTE, .u16, 0, .readOnly, some (0, 2047), 0, 65535, .num 65535⟩,
  ⟨Obj.FAULT_GEN, .u32, 0, .readOnly, none, 0, 4294967295, .num 1⟩,
  ⟨Obj.CELL_CLASS, .enum8, 2, .staged, some (0, 20479), 0, 3, .num 0⟩,
  ⟨Obj.ELEMENT_FAULT, .u8, 2, .staged, some (0, 40959), 0, 15, .num 0⟩,
  ⟨Obj.FAULT_CELLS, .u16, 0, .readOnly, none, 0, 65535, .num 0⟩,
  ⟨Obj.FAULT_APPLY, .u8, 2, .live, none, 1, 1, .num 0⟩,
  ⟨Obj.FAULT_DISCARDS, .u32, 0, .readOnly, none, 0, 4294967295, .num 0⟩,
  ⟨Obj.AUTO_BLOCK, .bool, 2, .live, none, 0, 1, .num 1⟩,
  ⟨Obj.PIN_TEST_CELL, .u16, 2, .live, none, 0, 20479, .num 0⟩,
  ⟨Obj.PIN_TEST_STATUS, .enum8, 0, .readOnly, none, 0, 255, .num 0⟩,
  ⟨Obj.PIN_TEST_STATE, .enum8, 0, .readOnly, none, 0, 255, .num 0⟩,
  ⟨Obj.PIN_TEST_EXTINCTION, .i16, 0, .readOnly, none, (-32768), 32767, .num 0⟩]

/-- Object rows of R101, R102 (spec/03_images.md). -/
def objRows21_0 : List ObjDef := [
  ⟨Obj.LIB_SLOTS, .u32, 0, .readOnly, none, 0, 4294967295, .num 262144⟩,
  ⟨Obj.LIB_VALID, .u32, 0, .readOnly, none, 0, 4294967295, .num 0⟩,
  ⟨Obj.FORMAT_VERSION, .u16, 0, .readOnly, none, 0, 65535, .num 1⟩,
  ⟨Obj.SLOT_STATE, .enum8, 0, .readOnly, some (0, 262143), 0, 255, .num 0⟩,
  ⟨Obj.SLOT_HASH, .u64, 0, .readOnly, some (0, 262143), 0, 18446744073709551615, .num 0⟩,
  ⟨Obj.SLOT_FAULT_GEN, .u32, 0, .readOnly, some (0, 262143), 0, 4294967295, .num 0⟩,
  ⟨Obj.SLOT_CAL_GEN, .u32, 0, .readOnly, some (0, 262143), 0, 4294967295, .num 0⟩,
  ⟨Obj.SLOT_REFINE_COUNT, .u32, 0, .readOnly, some (0, 262143), 0, 4294967295, .num 0⟩,
  ⟨Obj.SLOT_IN_USE, .bool, 0, .readOnly, some (0, 262143), 0, 1, .num 0⟩,
  ⟨Obj.LOAD_SLOT, .u32, 1, .live, none, 0, 262143, .num 0⟩,
  ⟨Obj.LOAD_DATA, .octets, 1, .live, none, 393216, 393216, .bytes 0⟩,
  ⟨Obj.LOAD_CLOSE, .u8, 1, .live, none, 1, 1, .num 0⟩,
  ⟨Obj.LOAD_STATUS, .enum8, 0, .readOnly, none, 0, 255, .num 0⟩,
  ⟨Obj.ERASE_SLOT, .u32, 1, .live, none, 0, 262143, .num 0⟩,
  ⟨Obj.READ_SLOT, .u32, 0, .live, none, 0, 262143, .num 0⟩,
  ⟨Obj.READ_DATA, .octets, 0, .readOnly, none, 393216, 393216, .bytes 0⟩,
  ⟨Obj.REVALIDATE, .u32, 1, .live, none, 0, 262143, .num 0⟩,
  ⟨Obj.FIND_HASH, .u64, 1, .live, none, 0, 18446744073709551615, .num 0⟩,
  ⟨Obj.FIND_RESULT, .u32, 0, .readOnly, none, 0, 4294967295, .num 4294967295⟩,
  ⟨Obj.ROUTE_VECTOR, .octets, 1, .staged, none, 2048, 2048, .bytes 255⟩,
  ⟨Obj.ROUTE_EXCLUDE, .octets, 1, .staged, none, 64, 64, .bytes 255⟩,
  ⟨Obj.ROUTE_SLOT, .u32, 1, .staged, none, 0, 262143, .num 0⟩,
  ⟨Obj.ROUTE_APPLY, .u8, 1, .live, none, 1, 1, .num 0⟩,
  ⟨Obj.ROUTE_STATUS, .enum8, 0, .readOnly, none, 0, 255, .num 0⟩]

/-- Object rows of R102 (spec/03_images.md). -/
def objRows21_1 : List ObjDef := [
  ⟨Obj.ROUTE_TIME, .u32, 0, .readOnly, none, 0, 4294967295, .num 0⟩,
  ⟨Obj.ROUTE_SEQ, .u32, 0, .readOnly, none, 0, 4294967295, .num 0⟩,
  ⟨Obj.ROUTE_HOST_DEADLINE, .u32, 2, .live, none, 1, 1000, .num 10⟩,
  ⟨Obj.REFINE_WEIGHT, .q15, 2, .live, none, 1, 32767, .num 16384⟩,
  ⟨Obj.REFINE_MAX_RATE, .u32, 2, .live, none, 0, 50000, .num 25000⟩,
  ⟨Obj.REFINE_QUEUED, .u8, 0, .readOnly, none, 0, 255, .num 0⟩,
  ⟨Obj.REFINE_DONE, .u32, 0, .readOnly, none, 0, 4294967295, .num 0⟩,
  ⟨Obj.REFINE_SKIPPED, .u32, 0, .readOnly, none, 0, 4294967295, .num 0⟩,
  ⟨Obj.REFINE_DISCARDED, .u32, 0, .readOnly, none, 0, 4294967295, .num 0⟩,
  ⟨Obj.REFINE_HOST_DEADLINE, .u32, 2, .live, none, 1, 10000, .num 50⟩,
  ⟨Obj.REFINE_BUF_SLOT, .u32, 0, .readOnly, some (0, 3), 0, 4294967295, .num 4294967295⟩,
  ⟨Obj.REFINE_DECIDE, .enum8, 1, .live, some (0, 3), 1, 2, .num 0⟩,
  ⟨Obj.REFINE_BUF_DATA, .octets, 0, .readOnly, some (0, 3), 335872, 335872, .bytes 0⟩]

/-- Object rows of R134 (spec/04_commit.md). -/
def objRows22_0 : List ObjDef := [
  ⟨Obj.WAVE_SPACING, .u8, 2, .live, none, 2, 90, .num 6⟩,
  ⟨Obj.MAX_WAVES, .u8, 2, .live, none, 1, 16, .num 16⟩,
  ⟨Obj.PREPARE_TIMEOUT, .u32, 1, .live, none, 1, 60000, .num 1000⟩,
  ⟨Obj.SETTLE_TIMEOUT, .u32, 2, .live, none, 100, 100000, .num 1000⟩,
  ⟨Obj.LATE_LIMIT, .u32, 2, .live, none, 0, 10000, .num 100⟩,
  ⟨Obj.PEER_GROUP, .octets, 2, .live, none, 16, 16, .bytes 0⟩,
  ⟨Obj.STAGING_FREE, .u8, 0, .readOnly, none, 0, 255, .num 64⟩,
  ⟨Obj.QUEUE_DEPTH, .u8, 0, .readOnly, none, 0, 255, .num 0⟩,
  ⟨Obj.NEXT_T, .time96, 0, .readOnly, none, 0, 18446744073709551615999999999, .num 0⟩,
  ⟨Obj.COMMITS_DONE, .u32, 0, .readOnly, none, 0, 4294967295, .num 0⟩,
  ⟨Obj.COMMITS_ABANDONED, .u32, 0, .readOnly, none, 0, 4294967295, .num 0⟩,
  ⟨Obj.PEER_ABORTS_IGNORED, .u32, 0, .readOnly, none, 0, 4294967295, .num 0⟩,
  ⟨Obj.LOG_HEAD, .u8, 0, .readOnly, none, 0, 255, .num 0⟩,
  ⟨Obj.LOG_ID, .u32, 0, .readOnly, some (0, 255), 0, 4294967295, .num 0⟩,
  ⟨Obj.LOG_SLOT, .u32, 0, .readOnly, some (0, 255), 0, 4294967295, .num 0⟩,
  ⟨Obj.LOG_T, .time96, 0, .readOnly, some (0, 255), 0, 18446744073709551615999999999, .num 0⟩,
  ⟨Obj.LOG_STATE, .enum8, 0, .readOnly, some (0, 255), 0, 255, .num 0⟩,
  ⟨Obj.LOG_OUTCOME, .enum8, 0, .readOnly, some (0, 255), 0, 255, .num 0⟩,
  ⟨Obj.LOG_FLAGS, .u8, 0, .readOnly, some (0, 255), 0, 255, .num 0⟩,
  ⟨Obj.LOG_WAVES, .u8, 0, .readOnly, some (0, 255), 0, 255, .num 0⟩,
  ⟨Obj.LOG_SETTLE, .u32, 0, .readOnly, some (0, 255), 0, 4294967295, .num 0⟩]

/-- Object rows of R165 (spec/05_loops.md). -/
def objRows23_0 : List ObjDef := [
  ⟨Obj.STEP, .q15, 2, .live, none, 1, 64, .num 4⟩,
  ⟨Obj.ACQ_STEP, .q15, 2, .live, none, 1, 4096, .num 32⟩,
  ⟨Obj.ACQ_STEP_MAX, .q15, 2, .live, none, 1, 4096, .num 1024⟩,
  ⟨Obj.BAND_OUT, .q15, 2, .live, none, 1, 3276, .num 131⟩,
  ⟨Obj.BAND_IN, .q15, 2, .live, none, 1, 3276, .num 33⟩,
  ⟨Obj.ACQ_BAND, .q15, 2, .live, none, 1, 16384, .num 1638⟩,
  ⟨Obj.LOCK_SCANS, .u8, 2, .live, none, 1, 32, .num 2⟩,
  ⟨Obj.DARK_LEVEL, .q15, 2, .live, none, 1, 3276, .num 33⟩,
  ⟨Obj.SAT_SCANS, .u8, 2, .live, none, 1, 64, .num 16⟩,
  ⟨Obj.SAT_REPORT, .u16, 2, .live, none, 64, 480, .num 480⟩,
  ⟨Obj.POCKELS_LIMIT, .q15, 2, .live, none, 1024, 20480, .num 19456⟩,
  ⟨Obj.TAP_DEAD_LEVEL, .q15, 2, .live, none, 1, 3276, .num 8⟩,
  ⟨Obj.OBS_MIN, .q15, 2, .live, none, 0, 16384, .num 3277⟩,
  ⟨Obj.OUTER_PERIOD, .enum8, 2, .live, none, 0, 3, .num 2⟩,
  ⟨Obj.OUTER_STEP, .q15, 2, .live, none, 1, 512, .num 16⟩,
  ⟨Obj.T_MIN, .q15, 2, .live, none, 0, 32767, .num 1024⟩,
  ⟨Obj.T_MAX, .q15, 2, .live, none, 0, 32767, .num 31743⟩,
  ⟨Obj.RESEED_STEP, .q15, 2, .live, none, 16, 8192, .num 328⟩,
  ⟨Obj.SETPOINT_DEFAULT, .q15, 2, .live, none, 0, 32767, .num 16384⟩,
  ⟨Obj.SETPOINT_SLEW, .q15, 2, .live, none, 1, 32767, .num 64⟩,
  ⟨Obj.OFFLOAD_OUTER, .q15, 2, .live, none, 0, 4096, .num 24⟩,
  ⟨Obj.OFFLOAD_INNER, .q15, 2, .live, none, 0, 4096, .num 8⟩,
  ⟨Obj.OFFLOAD_STEP, .q15, 2, .live, none, 1, 256, .num 8⟩,
  ⟨Obj.OFFLOAD_PERIOD, .u8, 2, .live, none, 4, 255, .num 16⟩]

/-- Object rows of R165, R166 (spec/05_loops.md). -/
def objRows23_1 : List ObjDef := [
  ⟨Obj.OFFLOAD_SHIFT, .u8, 2, .live, none, 6, 16, .num 12⟩,
  ⟨Obj.WRAP_ENABLE, .bool, 2, .live, none, 0, 1, .num 1⟩,
  ⟨Obj.WRAP_HIGH, .u16, 2, .live, none, 32768, 36864, .num 32768⟩,
  ⟨Obj.WRAP_RATE, .u8, 2, .live, none, 1, 64, .num 4⟩,
  ⟨Obj.WRAP_JUMP, .q15, 2, .live, none, 16384, 20480, .num 18432⟩,
  ⟨Obj.WRAP_MAX_ACTIVE, .u8, 2, .live, none, 1, 64, .num 8⟩,
  ⟨Obj.WRAP_STALL, .u32, 2, .live, none, 1, 60000, .num 100⟩,
  ⟨Obj.VOA_PERIOD, .enum8, 2, .live, none, 0, 3, .num 2⟩,
  ⟨Obj.VSTEP, .u16, 2, .live, none, 1, 1000, .num 50⟩,
  ⟨Obj.VBAND_OUT, .q15, 2, .live, none, 1, 16384, .num 1638⟩,
  ⟨Obj.VBAND_IN, .q15, 2, .live, none, 1, 16384, .num 655⟩,
  ⟨Obj.POWER_TARGET_DEFAULT, .i16, 2, .live, none, (-2000), 600, .num (-300)⟩,
  ⟨Obj.SOURCE_DEFAULT, .enum8, 2, .live, none, 0, 8, .num 0⟩,
  ⟨Obj.TARGET_SLEW, .u16, 2, .live, none, 1, 2500, .num 5⟩,
  ⟨Obj.SP_LOW, .i16, 2, .live, some (0, 7), (-2000), 600, .num (-2000)⟩,
  ⟨Obj.SP_HIGH, .i16, 2, .live, some (0, 7), (-2000), 600, .num 0⟩,
  ⟨Obj.LOOP_STATE, .enum8, 0, .readOnly, some (0, 40959), 0, 255, .num 0⟩,
  ⟨Obj.SETPOINT, .q15, 1, .live, some (0, 40959), 0, 32767, .num 16384⟩,
  ⟨Obj.POCKELS_PHASE, .q15, 0, .readOnly, some (0, 40959), (-32768), 32767, .num 0⟩,
  ⟨Obj.LOOP_OFFSET, .q15, 0, .readOnly, some (0, 40959), (-32768), 32767, .num 0⟩,
  ⟨Obj.WRAP_CARRY, .q15, 0, .readOnly, some (0, 40959), (-32768), 32767, .num 0⟩,
  ⟨Obj.HEATER_PHASE, .u16, 0, .readOnly, some (0, 40959), 0, 65535, .num 0⟩,
  ⟨Obj.LOOP_ERROR, .q15, 0, .readOnly, some (0, 40959), (-32768), 32767, .num 0⟩,
  ⟨Obj.LOOP_STATUS, .u8, 0, .readOnly, some (0, 40959), 0, 255, .num 0⟩]

/-- Object rows of R166 (spec/05_loops.md). -/
def objRows23_2 : List ObjDef := [
  ⟨Obj.LOOP_ENABLE, .bool, 2, .live, some (0, 40959), 0, 1, .num 1⟩,
  ⟨Obj.EFFECTIVE_T, .q15, 0, .readOnly, some (0, 40959), (-32768), 32767, .num 16384⟩,
  ⟨Obj.VOA_STATE, .enum8, 0, .readOnly, some (0, 1023), 0, 255, .num 0⟩,
  ⟨Obj.VOA_TARGET, .i16, 1, .live, some (0, 1023), (-2000), 600, .num (-300)⟩,
  ⟨Obj.VOA_SOURCE, .enum8, 1, .live, some (0, 1023), 0, 8, .num 0⟩,
  ⟨Obj.VOA_ATTEN, .u16, 0, .readOnly, some (0, 1023), 0, 65535, .num 0⟩,
  ⟨Obj.VOA_POWER, .i16, 0, .readOnly, some (0, 1023), (-32768), 32767, .num (-32768)⟩,
  ⟨Obj.VOA_STATUS, .u8, 0, .readOnly, some (0, 1023), 0, 255, .num 0⟩,
  ⟨Obj.VOA_ENABLE, .bool, 2, .live, some (0, 1023), 0, 1, .num 1⟩,
  ⟨Obj.OVERRUN_COUNT, .u32, 0, .readOnly, some (0, 41), 0, 4294967295, .num 0⟩,
  ⟨Obj.DEGRADED, .bool, 0, .readOnly, some (0, 41), 0, 1, .num 0⟩,
  ⟨Obj.WRAPS_ACTIVE, .u8, 0, .readOnly, some (0, 41), 0, 255, .num 0⟩,
  ⟨Obj.LOCKED_COUNT, .u16, 0, .readOnly, some (0, 41), 0, 65535, .num 0⟩,
  ⟨Obj.HOST_DRIVE, .octets, 1, .live, none, 0, 524288, .bytes 0⟩,
  ⟨Obj.HOST_DEADLINE, .u32, 2, .live, none, 1, 1000, .num 10⟩,
  ⟨Obj.HOST_BLOCKS, .u32, 0, .readOnly, none, 0, 4294967295, .num 0⟩,
  ⟨Obj.HOST_REFUSED, .u32, 0, .readOnly, none, 0, 4294967295, .num 0⟩]

/-- Object rows of R187, R188 (spec/06_datapath.md). -/
def objRows24_0 : List ObjDef := [
  ⟨Obj.DP_LANES, .u8, 0, .readOnly, none, 0, 255, .num 8⟩,
  ⟨Obj.DP_APPLY, .u8, 2, .live, none, 1, 1, .num 0⟩,
  ⟨Obj.DP_GEN, .u32, 0, .readOnly, none, 0, 4294967295, .num 1⟩,
  ⟨Obj.CONV_OFFSET, .i16, 2, .staged, some (0, 2623), (-512), 511, .num 0⟩,
  ⟨Obj.CONV_GAIN, .q15, 2, .staged, some (0, 2623), 8192, 24575, .num 16384⟩,
  ⟨Obj.PD_GAIN, .q15, 2, .staged, some (0, 83967), 8192, 24575, .num 16384⟩,
  ⟨Obj.FILT_LEN, .enum8, 2, .staged, some (0, 2623), 0, 4, .num 0⟩,
  ⟨Obj.FILT_SET, .u8, 2, .staged, some (0, 2623), 0, 7, .num 0⟩,
  ⟨Obj.FILT_COEF, .octets, 2, .staged, some (0, 7), 32, 32, .bytes 0⟩,
  ⟨Obj.AVG_PD, .u32, 1, .live, some (0, 671), 0, 83967, .special⟩,
  ⟨Obj.AVG_LEN, .u8, 1, .live, some (0, 671), 0, 12, .num 6⟩,
  ⟨Obj.AVG_MEAN, .q15, 0, .readOnly, some (0, 671), (-32768), 32767, .num 0⟩,
  ⟨Obj.AVG_SUM, .i32, 0, .readOnly, some (0, 671), (-2147483648), 2147483647, .num 0⟩,
  ⟨Obj.AVG_TAG, .u8, 0, .readOnly, some (0, 671), 0, 255, .num 0⟩,
  ⟨Obj.AVG_SEQ, .u32, 0, .readOnly, some (0, 671), 0, 4294967295, .num 0⟩,
  ⟨Obj.SAT_COUNT, .u32, 0, .readOnly, some (0, 41), 0, 4294967295, .num 0⟩,
  ⟨Obj.GUARD_COUNT, .u32, 0, .readOnly, some (0, 41), 0, 4294967295, .num 0⟩,
  ⟨Obj.INV_COUNT, .u32, 0, .readOnly, some (0, 41), 0, 4294967295, .num 0⟩]

/-- Object rows of R220, R221 (spec/07_drive.md). -/
def objRows25_0 : List ObjDef := [
  ⟨Obj.FAST_CHANNELS, .u32, 0, .readOnly, none, 0, 4294967295, .num 81920⟩,
  ⟨Obj.HEATER_CHANNELS, .u32, 0, .readOnly, none, 0, 4294967295, .num 41984⟩,
  ⟨Obj.PRIV_CHANNELS, .u8, 0, .readOnly, none, 0, 255, .num 64⟩,
  ⟨Obj.SPAN, .enum8, 2, .staged, some (0, 123967), 0, 1, .num 1⟩,
  ⟨Obj.SPAN_APPLY, .u8, 2, .live, none, 1, 1, .num 0⟩,
  ⟨Obj.SPAN_DWELL, .u8, 2, .live, none, 16, 255, .num 64⟩,
  ⟨Obj.SLEW_STEP, .u16, 2, .live, some (0, 123967), 1, 65535, .special⟩,
  ⟨Obj.SLEW_PERIOD, .u16, 2, .live, some (0, 123967), 1, 65535, .special⟩,
  ⟨Obj.PRIV_TARGET, .u16, 2, .live, some (0, 63), 0, 65535, .special⟩,
  ⟨Obj.DEGLITCH, .u8, 2, .live, some (0, 63), 1, 32, .num 4⟩,
  ⟨Obj.OUT_CODE, .u16, 0, .readOnly, some (0, 123967), 0, 65535, .num 0⟩,
  ⟨Obj.OUT_TARGET, .u16, 0, .readOnly, some (0, 123967), 0, 65535, .num 0⟩,
  ⟨Obj.OUT_STATUS, .u8, 0, .readOnly, some (0, 123967), 0, 255, .num 0⟩,
  ⟨Obj.READBACK, .u16, 0, .readOnly, some (0, 123967), 0, 65535, .num 0⟩,
  ⟨Obj.SPARE_MAP, .u16, 0, .readOnly, some (0, 3873), 0, 65535, .num 65535⟩,
  ⟨Obj.READBACK_TOL, .u16, 2, .live, some (0, 2), 4, 4096, .special⟩,
  ⟨Obj.READBACK_BLANK, .u8, 2, .live, none, 8, 255, .num 32⟩,
  ⟨Obj.SUBSTITUTIONS, .u32, 0, .readOnly, none, 0, 4294967295, .num 0⟩,
  ⟨Obj.LANES_LOST, .u32, 0, .readOnly, none, 0, 4294967295, .num 0⟩,
  ⟨Obj.GEN_CHANNEL, .u32, 2, .staged, some (0, 63), 0, 4294967295, .num 4294967295⟩,
  ⟨Obj.GEN_SHAPE, .enum8, 2, .staged, some (0, 63), 0, 3, .num 0⟩,
  ⟨Obj.GEN_MODE, .enum8, 2, .staged, some (0, 63), 0, 1, .num 0⟩,
  ⟨Obj.GEN_AMPLITUDE, .u16, 2, .staged, some (0, 63), 0, 32768, .num 0⟩,
  ⟨Obj.GEN_PERIOD, .u32, 2, .staged, some (0, 63), 2, 2147483648, .num 256⟩]

/-- Object rows of R221 (spec/07_drive.md). -/
def objRows25_1 : List ObjDef := [
  ⟨Obj.GEN_OFFSET, .u16, 2, .staged, some (0, 63), 0, 65535, .num 0⟩,
  ⟨Obj.GEN_SEED, .u32, 2, .staged, some (0, 63), 1, 8388607, .num 1⟩,
  ⟨Obj.GEN_START, .time96, 2, .staged, some (0, 63), 0, 18446744073709551615999999999, .num 0⟩,
  ⟨Obj.GEN_APPLY, .u8, 2, .live, none, 1, 1, .num 0⟩,
  ⟨Obj.SAFE_CODE, .u16, 2, .staged, some (0, 123967), 0, 65535, .special⟩,
  ⟨Obj.SAFE_SPAN, .enum8, 2, .staged, some (0, 123967), 0, 1, .special⟩,
  ⟨Obj.SAFE_STORE, .u8, 2, .live, none, 1, 1, .num 0⟩,
  ⟨Obj.SAFE_GEN, .u32, 0, .readOnly, none, 0, 4294967295, .num 0⟩,
  ⟨Obj.SAFE_SOURCE, .enum8, 0, .readOnly, none, 0, 255, .num 0⟩,
  ⟨Obj.SAFE_REVERT, .u8, 2, .live, none, 1, 1, .num 0⟩,
  ⟨Obj.HOLD_TIMEOUT, .u32, 2, .live, none, 1000, 100000, .num 5000⟩,
  ⟨Obj.HOLD_STATE, .enum8, 0, .readOnly, some (0, 3873), 0, 255, .num 0⟩]

/-- Object rows of R252, R253 (spec/08_monitor.md). -/
def objRows26_0 : List ObjDef := [
  ⟨Obj.PD_COUNT, .u32, 0, .readOnly, none, 0, 4294967295, .num 83968⟩,
  ⟨Obj.CONVERTERS, .u16, 0, .readOnly, none, 0, 65535, .num 2624⟩,
  ⟨Obj.SCAN_COUNT, .u64, 0, .readOnly, none, 0, 18446744073709551615, .num 0⟩,
  ⟨Obj.SCAN_TIME, .time96, 0, .readOnly, none, 0, 18446744073709551615999999999, .num 0⟩,
  ⟨Obj.GAIN_MODE, .enum8, 2, .live, some (0, 83967), 0, 4, .num 0⟩,
  ⟨Obj.GAIN, .u8, 0, .readOnly, some (0, 83967), 0, 255, .num 0⟩,
  ⟨Obj.RAW_SAMPLE, .u32, 0, .readOnly, some (0, 83967), 0, 4294967295, .num 0⟩,
  ⟨Obj.RANGE_HIGH, .u16, 2, .live, none, 2048, 4095, .num 3840⟩,
  ⟨Obj.RANGE_LOW, .u16, 2, .live, none, 1, 1023, .num 768⟩,
  ⟨Obj.RANGE_HOLD, .u8, 2, .live, none, 1, 255, .num 16⟩,
  ⟨Obj.INVALID_COUNT, .u32, 0, .readOnly, some (0, 2623), 0, 4294967295, .num 0⟩,
  ⟨Obj.OVER_RANGE_COUNT, .u32, 0, .readOnly, some (0, 2623), 0, 4294967295, .num 0⟩,
  ⟨Obj.GAIN_CHANGES, .u32, 0, .readOnly, some (0, 2623), 0, 4294967295, .num 0⟩,
  ⟨Obj.REF_ENABLE, .bool, 2, .live, some (0, 163), 0, 1, .num 1⟩,
  ⟨Obj.REF_READY, .bool, 0, .readOnly, some (0, 163), 0, 1, .num 0⟩,
  ⟨Obj.BANK_POWER, .bool, 2, .live, some (0, 163), 0, 1, .num 1⟩,
  ⟨Obj.CONV_SPARE, .u8, 0, .readOnly, some (0, 163), 0, 255, .num 255⟩,
  ⟨Obj.CONV_STATE, .enum8, 0, .readOnly, some (0, 2623), 0, 255, .num 0⟩,
  ⟨Obj.CHECK_INTERVAL, .u16, 2, .live, none, 32, 256, .num 256⟩,
  ⟨Obj.CHECK_TOL, .u16, 2, .live, none, 2, 64, .num 8⟩,
  ⟨Obj.CHECK_CODE, .u16, 0, .readOnly, some (0, 2623), 0, 65535, .num 0⟩,
  ⟨Obj.INJ_CONVERTER, .u16, 2, .staged, none, 0, 2623, .num 0⟩,
  ⟨Obj.INJ_SOURCE, .enum8, 2, .staged, none, 0, 33, .num 32⟩,
  ⟨Obj.INJ_APPLY, .u8, 2, .live, none, 1, 1, .num 0⟩]

/-- Object rows of R253, R254 (spec/08_monitor.md). -/
def objRows26_1 : List ObjDef := [
  ⟨Obj.INJ_STATUS, .enum8, 0, .readOnly, none, 0, 255, .num 0⟩,
  ⟨Obj.INJ_RESULT, .u32, 0, .readOnly, none, 0, 4294967295, .num 0⟩,
  ⟨Obj.INJ_POINTER, .u8, 0, .readOnly, some (0, 2623), 0, 255, .num 0⟩,
  ⟨Obj.FOCUS_INPUT, .u8, 1, .staged, some (0, 2623), 0, 31, .num 0⟩,
  ⟨Obj.FOCUS_PAIR, .bool, 1, .staged, some (0, 2623), 0, 1, .num 1⟩,
  ⟨Obj.FOCUS_SCANS, .u16, 1, .staged, some (0, 2623), 1, 4096, .num 64⟩,
  ⟨Obj.FOCUS_START, .u8, 1, .live, some (0, 2623), 1, 2, .num 0⟩,
  ⟨Obj.FOCUS_STATE, .enum8, 0, .readOnly, some (0, 2623), 0, 255, .num 0⟩,
  ⟨Obj.FOCUS_ACTIVE, .u8, 0, .readOnly, none, 0, 255, .num 0⟩,
  ⟨Obj.SPA_SHIFT, .u8, 2, .live, some (0, 3), 0, 10, .num 4⟩,
  ⟨Obj.SPA_LIMIT, .u16, 2, .live, some (0, 3), 3277, 4094, .num 3440⟩,
  ⟨Obj.SPA_RAW, .u16, 0, .readOnly, some (0, 3), 0, 65535, .num 0⟩,
  ⟨Obj.SPA_VALUE, .q15, 0, .readOnly, some (0, 3), (-32768), 32767, .num 0⟩,
  ⟨Obj.SPA_VALID, .bool, 0, .readOnly, some (0, 3), 0, 1, .num 0⟩,
  ⟨Obj.SPP_MODE, .enum8, 2, .live, some (0, 3), 0, 1, .num 0⟩,
  ⟨Obj.SPP_WIN, .u8, 2, .live, some (0, 3), 0, 12, .num 6⟩,
  ⟨Obj.SPP_TIMEOUT, .u32, 2, .live, some (0, 3), 1, 1000, .num 10⟩,
  ⟨Obj.DUTY_LOW, .q15, 2, .live, some (0, 3), 0, 32766, .num 1638⟩,
  ⟨Obj.DUTY_HIGH, .q15, 2, .live, some (0, 3), 1, 32767, .num 31130⟩,
  ⟨Obj.FREQ_LOW, .u32, 2, .live, some (0, 3), 1000, 999999, .num 10000⟩,
  ⟨Obj.FREQ_HIGH, .u32, 2, .live, some (0, 3), 1001, 1000000, .num 1000000⟩,
  ⟨Obj.SPP_DUTY, .q15, 0, .readOnly, some (0, 3), (-32768), 32767, .num 0⟩,
  ⟨Obj.SPP_FREQ, .u32, 0, .readOnly, some (0, 3), 0, 4294967295, .num 0⟩,
  ⟨Obj.SPP_VALUE, .q15, 0, .readOnly, some (0, 3), (-32768), 32767, .num 0⟩]

/-- Object rows of R254 (spec/08_monitor.md). -/
def objRows26_2 : List ObjDef := [
  ⟨Obj.SPP_VALID, .bool, 0, .readOnly, some (0, 3), 0, 1, .num 0⟩]

/-- Object rows of R281, R282 (spec/09_calibration.md). -/
def objRows27_0 : List ObjDef := [
  ⟨Obj.CAL_GEN, .u32, 0, .readOnly, none, 0, 4294967295, .num 1⟩,
  ⟨Obj.CAL_KIND, .enum8, 2, .staged, none, 1, 6, .num 1⟩,
  ⟨Obj.CAL_SELECTOR, .u32, 2, .staged, none, 0, 4294967295, .num 0⟩,
  ⟨Obj.CAL_APPLY, .u8, 2, .live, none, 1, 1, .num 0⟩,
  ⟨Obj.CAL_QUEUED, .u8, 0, .readOnly, none, 0, 255, .num 0⟩,
  ⟨Obj.CAL_STATUS, .enum8, 0, .readOnly, none, 0, 255, .num 0⟩,
  ⟨Obj.CAL_LAST_SEQ, .u32, 0, .readOnly, none, 0, 4294967295, .num 0⟩,
  ⟨Obj.CAL_LAST_STATUS, .enum8, 0, .readOnly, none, 0, 255, .num 0⟩,
  ⟨Obj.CAL_LAST_QUALITY, .i32, 0, .readOnly, none, (-2147483648), 2147483647, .num 0⟩,
  ⟨Obj.CAL_LAST_FLAGS, .u16, 0, .readOnly, none, 0, 65535, .num 0⟩,
  ⟨Obj.CAL_AUTO_ACCEPT, .bool, 2, .live, none, 0, 1, .num 1⟩,
  ⟨Obj.CAL_ACCEPT, .u8, 2, .live, none, 1, 2, .num 0⟩,
  ⟨Obj.CAL_ACCEPT_TIMEOUT, .u32, 2, .live, none, 1, 3600, .num 60⟩,
  ⟨Obj.CAL_GRANT_TIMEOUT, .u32, 2, .live, none, 10, 60000, .num 1000⟩,
  ⟨Obj.CAL_ABORT, .u8, 2, .live, none, 1, 1, .num 0⟩,
  ⟨Obj.CAL_STORE, .u8, 2, .live, none, 1, 1, .num 0⟩,
  ⟨Obj.CAL_STORE_INTERVAL, .u32, 2, .live, none, 60, 86400, .num 3600⟩,
  ⟨Obj.CAL_STORED_GEN, .u32, 0, .readOnly, none, 0, 4294967295, .num 1⟩,
  ⟨Obj.TARGET_BAR, .q15, 2, .staged, some (0, 40959), (-32768), 32767, .factory⟩,
  ⟨Obj.TARGET_CROSS, .q15, 2, .staged, some (0, 40959), (-32768), 32767, .factory⟩,
  ⟨Obj.FRINGE_SIGN, .u8, 2, .staged, some (0, 40959), 0, 3, .factory⟩,
  ⟨Obj.THERMAL_ALPHA, .q15, 2, .staged, some (0, 40959), 1, 32767, .num 4390⟩,
  ⟨Obj.EXTINCTION, .i16, 0, .readOnly, some (0, 40959), (-32768), 32767, .factory⟩,
  ⟨Obj.BAND_TRIM, .q15, 2, .staged, some (0, 40959), 16384, 32767, .num 16384⟩]

/-- Object rows of R282 (spec/09_calibration.md). -/
def objRows27_1 : List ObjDef := [
  ⟨Obj.TEMPLATE_BAR, .u8, 2, .staged, some (0, 40959), 0, 255, .factory⟩,
  ⟨Obj.TEMPLATE_CROSS, .u8, 2, .staged, some (0, 40959), 0, 255, .factory⟩,
  ⟨Obj.FAST_MAP, .octets, 2, .staged, some (0, 40959), 34, 34, .factory⟩,
  ⟨Obj.HEATER_MAP, .octets, 2, .staged, some (0, 40959), 34, 34, .factory⟩,
  ⟨Obj.VOA_MAP, .octets, 2, .staged, some (0, 1023), 52, 52, .factory⟩,
  ⟨Obj.HEATER_R, .u16, 0, .readOnly, some (0, 41983), 0, 65535, .factory⟩,
  ⟨Obj.IN_TAP_REF, .i16, 2, .staged, some (0, 1023), (-32768), 32767, .factory⟩,
  ⟨Obj.OUT_TAP_REF, .i16, 2, .staged, some (0, 1023), (-32768), 32767, .factory⟩,
  ⟨Obj.CAL_VALUES_APPLY, .u8, 2, .live, none, 1, 1, .num 0⟩,
  ⟨Obj.TPL_A1, .q15, 2, .staged, some (1, 255), (-32768), 32767, .factory⟩,
  ⟨Obj.TPL_A2, .q15, 2, .staged, some (1, 255), (-32768), 32767, .factory⟩,
  ⟨Obj.TPL_D1, .u8, 2, .staged, some (1, 255), 0, 160, .factory⟩,
  ⟨Obj.TPL_D2, .u8, 2, .staged, some (1, 255), 0, 160, .factory⟩,
  ⟨Obj.TPL_RESIDUAL, .u16, 0, .readOnly, some (1, 255), 0, 65535, .num 0⟩,
  ⟨Obj.ADAPT_MEAN, .q15, 0, .readOnly, some (1, 255), (-32768), 32767, .num 0⟩,
  ⟨Obj.TEMPLATE_APPLY, .u8, 2, .live, none, 1, 1, .num 0⟩,
  ⟨Obj.TPL_SPAN, .u8, 2, .live, none, 72, 160, .num 120⟩,
  ⟨Obj.ADAPT_GAIN, .q15, 2, .live, none, 0, 32767, .num 8192⟩,
  ⟨Obj.ADAPT_COUNT, .u16, 2, .live, none, 16, 65535, .num 1024⟩,
  ⟨Obj.ADAPT_MIN, .q15, 2, .live, none, 1, 16384, .num 2048⟩,
  ⟨Obj.TEMPLATE_HOST_DEADLINE, .u32, 2, .live, none, 10, 60000, .num 1000⟩,
  ⟨Obj.LANE_OFFSET, .i16, 2, .staged, some (0, 131647), (-2048), 2047, .factory⟩,
  ⟨Obj.LANE_GAIN, .q15, 2, .staged, some (0, 131647), 15565, 17203, .factory⟩,
  ⟨Obj.LANE_RESIDUAL, .u16, 0, .readOnly, some (0, 131647), 0, 65535, .factory⟩]

/-- Object rows of R282 (spec/09_calibration.md). -/
def objRows27_2 : List ObjDef := [
  ⟨Obj.CHECK_EXPECT, .u16, 0, .readOnly, some (0, 2623), 0, 65535, .factory⟩,
  ⟨Obj.CONV_RESIDUAL, .u16, 0, .readOnly, some (0, 2623), 0, 65535, .factory⟩,
  ⟨Obj.SPARE_OFFSET, .i16, 0, .readOnly, some (0, 163), (-32768), 32767, .factory⟩,
  ⟨Obj.SPARE_GAIN, .q15, 0, .readOnly, some (0, 163), (-32768), 32767, .factory⟩,
  ⟨Obj.SPARE_EXPECT, .u16, 0, .readOnly, some (0, 163), 0, 65535, .factory⟩,
  ⟨Obj.REF_TRIM_CODE, .u16, 0, .readOnly, some (0, 15), 0, 65535, .factory⟩]

/-- Object rows of R307 (spec/10_power_thermal.md). -/
def objRows28_0 : List ObjDef := [
  ⟨Obj.HEATER_BUDGET, .u32, 2, .live, none, 20000, 70000, .num 70000⟩,
  ⟨Obj.LOOP_RESERVE, .u32, 2, .live, none, 0, 10000, .num 2000⟩,
  ⟨Obj.DRIVE_BUDGET, .u16, 2, .live, none, 1000, 4000, .num 4000⟩,
  ⟨Obj.WRAP_CHARGE_MAX, .u16, 2, .live, none, 0, 1280, .num 640⟩,
  ⟨Obj.HEATER_POWER, .u32, 0, .readOnly, none, 0, 4294967295, .num 0⟩,
  ⟨Obj.GRANTED_HEATER, .u32, 0, .readOnly, none, 0, 4294967295, .num 0⟩,
  ⟨Obj.HEADROOM, .i32, 0, .readOnly, none, (-2147483648), 2147483647, .num 0⟩,
  ⟨Obj.GRANT_WAITING, .u16, 0, .readOnly, none, 0, 65535, .num 0⟩,
  ⟨Obj.CEILING_ACTIVE, .bool, 0, .readOnly, none, 0, 1, .num 0⟩,
  ⟨Obj.CEILING_SKIPS, .u32, 0, .readOnly, none, 0, 4294967295, .num 0⟩,
  ⟨Obj.GRANTS_ISSUED, .u32, 0, .readOnly, none, 0, 4294967295, .num 0⟩,
  ⟨Obj.GRANTS_REFUSED, .u32, 0, .readOnly, none, 0, 4294967295, .num 0⟩,
  ⟨Obj.WRAP_CHARGE_HELD, .u16, 0, .readOnly, none, 0, 65535, .num 0⟩,
  ⟨Obj.STEADY_STATE, .enum8, 0, .readOnly, none, 0, 255, .num 0⟩,
  ⟨Obj.MISMATCH_COUNT, .u32, 0, .readOnly, none, 0, 4294967295, .num 0⟩,
  ⟨Obj.STEADY_RESET, .u8, 2, .live, none, 1, 1, .num 0⟩,
  ⟨Obj.GRANT_HOST_DEADLINE, .u32, 2, .live, none, 100, 1000000, .num 2000⟩,
  ⟨Obj.GRANT_DECIDE, .octets, 1, .live, none, 8, 8, .bytes 0⟩,
  ⟨Obj.GREQ_HEAD, .u8, 0, .readOnly, none, 0, 255, .num 0⟩,
  ⟨Obj.GREQ_SEQ, .u32, 0, .readOnly, some (0, 63), 0, 4294967295, .num 0⟩,
  ⟨Obj.GREQ_KIND, .enum8, 0, .readOnly, some (0, 63), 0, 255, .num 0⟩,
  ⟨Obj.GREQ_SOURCE, .u32, 0, .readOnly, some (0, 63), 0, 4294967295, .num 0⟩,
  ⟨Obj.GREQ_HEATER, .u32, 0, .readOnly, some (0, 63), 0, 4294967295, .num 0⟩,
  ⟨Obj.GREQ_CHARGE, .u32, 0, .readOnly, some (0, 63), 0, 4294967295, .num 0⟩]

/-- Object rows of R307, R308 (spec/10_power_thermal.md). -/
def objRows28_1 : List ObjDef := [
  ⟨Obj.GREQ_WAVES, .u8, 0, .readOnly, some (0, 63), 0, 255, .num 0⟩,
  ⟨Obj.GREQ_STATE, .enum8, 0, .readOnly, some (0, 63), 0, 255, .num 0⟩,
  ⟨Obj.TEMP, .i16, 0, .readOnly, some (0, 42), (-32768), 32767, .num 0⟩,
  ⟨Obj.SENSOR_STATE, .enum8, 0, .readOnly, some (0, 42), 0, 255, .num 0⟩,
  ⟨Obj.WARN_LEVEL, .i16, 2, .live, some (0, 1), 5000, 32767, .special⟩,
  ⟨Obj.THROTTLE_LEVEL, .i16, 2, .live, some (0, 1), (-32768), 32767, .special⟩,
  ⟨Obj.STOP_LEVEL, .i16, 2, .live, some (0, 1), (-32768), 32767, .special⟩,
  ⟨Obj.CUT_LEVEL, .i16, 0, .readOnly, some (0, 1), (-32768), 32767, .special⟩,
  ⟨Obj.THERMAL_HYST, .u16, 2, .live, none, 100, 1000, .num 300⟩,
  ⟨Obj.GROUP_TEMP, .i16, 0, .readOnly, some (0, 1), (-32768), 32767, .num 0⟩,
  ⟨Obj.THERMAL_STATE, .enum8, 0, .readOnly, none, 0, 255, .num 0⟩,
  ⟨Obj.STOP_DRAIN, .u32, 2, .live, none, 0, 100000, .num 10000⟩,
  ⟨Obj.TDX_MODE, .enum8, 2, .live, some (0, 3), 0, 2, .num 0⟩,
  ⟨Obj.TDX_IDEALITY, .u16, 2, .live, some (0, 3), 9900, 10500, .num 10080⟩,
  ⟨Obj.NTC_R25, .u32, 2, .live, some (0, 3), 1000, 100000, .num 10000⟩,
  ⟨Obj.NTC_BETA, .u16, 2, .live, some (0, 3), 2500, 5000, .num 3435⟩,
  ⟨Obj.CASE_SOURCE, .enum8, 2, .live, none, 0, 4, .num 0⟩,
  ⟨Obj.CASE_TEMP, .i16, 0, .readOnly, none, (-32768), 32767, .num 0⟩,
  ⟨Obj.CASE_IN_RANGE, .bool, 0, .readOnly, none, 0, 1, .num 1⟩,
  ⟨Obj.FLASH_WRITE_OK, .bool, 0, .readOnly, none, 0, 1, .num 0⟩]

/-- Object rows of R341 (spec/11_lobes.md). -/
def objRows29_0 : List ObjDef := [
  ⟨Obj.LOBE_ROLE, .enum8, 0, .readOnly, some (0, 1), 0, 255, .num 0⟩,
  ⟨Obj.ACTIVE_LOBE, .enum8, 0, .readOnly, none, 0, 255, .num 255⟩,
  ⟨Obj.CLAIM, .u32, 0, .readOnly, some (0, 1), 0, 4294967295, .num 0⟩,
  ⟨Obj.EPOCH, .u32, 0, .readOnly, none, 0, 4294967295, .num 0⟩,
  ⟨Obj.CLAIM_MAX, .u32, 0, .readOnly, none, 0, 4294967295, .num 0⟩,
  ⟨Obj.CLAIM_MIN, .u32, 0, .readOnly, none, 0, 4294967295, .num 0⟩,
  ⟨Obj.REDUNDANT, .bool, 0, .readOnly, none, 0, 1, .num 0⟩,
  ⟨Obj.LOBE_STRAP, .bool, 0, .readOnly, some (0, 1), 0, 1, .num 0⟩,
  ⟨Obj.LOBE_HOLD_OFFLINE, .bool, 2, .live, some (0, 1), 0, 1, .num 0⟩,
  ⟨Obj.LOBE_RESET, .u8, 2, .live, some (0, 1), 1, 1, .num 0⟩,
  ⟨Obj.DIAG_FAILS, .u8, 0, .readOnly, some (0, 1), 0, 255, .num 0⟩,
  ⟨Obj.LOBE_HEALTH, .u16, 0, .readOnly, some (0, 1), 0, 65535, .num 0⟩,
  ⟨Obj.SWAP_ENABLE, .bool, 2, .live, none, 0, 1, .num 1⟩,
  ⟨Obj.SWAP_INTERVAL, .u32, 2, .live, none, 60, 604800, .num 21600⟩,
  ⟨Obj.SWAP_GUARD, .u32, 2, .live, none, 50, 10000, .num 200⟩,
  ⟨Obj.SWAP_POSTPONE_MAX, .u32, 2, .live, none, 1, 3600, .num 60⟩,
  ⟨Obj.SWAP_NOW, .u8, 2, .live, none, 1, 1, .num 0⟩,
  ⟨Obj.LAST_SWAP, .time96, 0, .readOnly, none, 0, 18446744073709551615999999999, .num 0⟩,
  ⟨Obj.NEXT_SWAP, .time96, 0, .readOnly, none, 0, 18446744073709551615999999999, .num 0⟩,
  ⟨Obj.HB_PATH_STATE, .enum8, 0, .readOnly, some (0, 1), 0, 255, .num 0⟩,
  ⟨Obj.HB_MISSES, .u32, 0, .readOnly, some (0, 1), 0, 4294967295, .num 0⟩,
  ⟨Obj.SNAP_SEQ, .u32, 0, .readOnly, none, 0, 4294967295, .num 0⟩,
  ⟨Obj.SNAP_AGE, .u32, 0, .readOnly, none, 0, 4294967295, .num 0⟩,
  ⟨Obj.SNAP_DISCARDS, .u32, 0, .readOnly, none, 0, 4294967295, .num 0⟩]

/-- Object rows of R341 (spec/11_lobes.md). -/
def objRows29_1 : List ObjDef := [
  ⟨Obj.XCMP_MISMATCHES, .u32, 0, .readOnly, some (0, 41), 0, 4294967295, .num 0⟩,
  ⟨Obj.XCMP_EXCUSED, .u32, 0, .readOnly, some (0, 41), 0, 4294967295, .num 0⟩,
  ⟨Obj.MISMATCH_LIMIT, .u8, 2, .live, none, 1, 32, .num 3⟩,
  ⟨Obj.KAT_INTERVAL, .u32, 2, .live, none, 100, 60000, .num 1000⟩,
  ⟨Obj.FAILOVERS, .u32, 0, .readOnly, none, 0, 4294967295, .num 0⟩,
  ⟨Obj.LAST_FAILOVER, .time96, 0, .readOnly, none, 0, 18446744073709551615999999999, .num 0⟩,
  ⟨Obj.LAST_FAILOVER_CAUSE, .enum8, 0, .readOnly, none, 0, 255, .num 0⟩,
  ⟨Obj.LAST_HOLD, .u32, 0, .readOnly, none, 0, 4294967295, .num 0⟩,
  ⟨Obj.RECONCILED, .u32, 0, .readOnly, none, 0, 4294967295, .num 0⟩]

/-- Object rows of R371 (spec/12_capture.md). -/
def objRows2A_0 : List ObjDef := [
  ⟨Obj.CAP_BUFFERS, .u8, 0, .readOnly, none, 0, 255, .num 8⟩,
  ⟨Obj.CAP_RESERVED, .u64, 0, .readOnly, none, 0, 18446744073709551615, .num 0⟩,
  ⟨Obj.PATH_SCAN_WORDS, .u16, 0, .readOnly, none, 0, 65535, .num 0⟩,
  ⟨Obj.PATH_STROBE_WORDS, .u8, 0, .readOnly, none, 0, 255, .num 0⟩,
  ⟨Obj.CAP_HOST_DEADLINE, .u32, 2, .live, none, 10, 60000, .num 1000⟩,
  ⟨Obj.CAP_RATE, .enum8, 1, .staged, some (0, 7), 0, 1, .num 0⟩,
  ⟨Obj.CAP_DECIM, .u16, 1, .staged, some (0, 7), 1, 65535, .num 1⟩,
  ⟨Obj.CAP_CHANNELS, .octets, 1, .staged, some (0, 7), 64, 64, .bytes 0⟩,
  ⟨Obj.CAP_LENGTH, .u32, 1, .staged, some (0, 7), 2, 67108864, .num 4096⟩,
  ⟨Obj.CAP_PRE, .u32, 1, .staged, some (0, 7), 0, 67108863, .num 1024⟩,
  ⟨Obj.CAP_SEGMENTS, .u16, 1, .staged, some (0, 7), 1, 65535, .num 1⟩,
  ⟨Obj.CAP_MODE, .enum8, 1, .staged, some (0, 7), 0, 1, .num 0⟩,
  ⟨Obj.CAP_OVERWRITE, .bool, 1, .staged, some (0, 7), 0, 1, .num 0⟩,
  ⟨Obj.CAP_PRE_MODE, .enum8, 1, .staged, some (0, 7), 0, 1, .num 0⟩,
  ⟨Obj.CAP_REARM, .u16, 1, .staged, some (0, 7), 1, 65535, .num 4⟩,
  ⟨Obj.CAP_AUTO, .bool, 1, .staged, some (0, 7), 0, 1, .num 0⟩,
  ⟨Obj.CAP_AUTO_TIMEOUT, .u32, 1, .staged, some (0, 7), 1, 2147483648, .num 65536⟩,
  ⟨Obj.CAP_CARE, .u64, 1, .staged, some (0, 7), 0, 18446744073709551615, .num 0⟩,
  ⟨Obj.CAP_VALUE, .u64, 1, .staged, some (0, 7), 0, 18446744073709551615, .num 0⟩,
  ⟨Obj.CAP_COMMIT_ID, .u32, 1, .staged, some (0, 7), 0, 4294967295, .num 0⟩,
  ⟨Obj.CAP_EVENT_CODE, .u16, 1, .staged, some (0, 7), 0, 65535, .num 0⟩,
  ⟨Obj.CAP_EVENT_MASK, .u16, 1, .staged, some (0, 7), 0, 65535, .num 0⟩,
  ⟨Obj.CAP_TRIG_TIME, .time96, 1, .staged, some (0, 7), 0, 18446744073709551615999999999, .num 0⟩,
  ⟨Obj.CAP_LINK, .u8, 1, .staged, some (0, 7), 0, 255, .num 255⟩]

/-- Object rows of R371, R372 (spec/12_capture.md). -/
def objRows2A_1 : List ObjDef := [
  ⟨Obj.CAP_MASK, .octets, 1, .staged, some (0, 7), 1280, 1280, .bytes 0⟩,
  ⟨Obj.CAP_MASK_ACTION, .enum8, 1, .staged, some (0, 7), 0, 1, .num 0⟩,
  ⟨Obj.CAP_ARM, .u8, 1, .live, some (0, 7), 1, 2, .num 0⟩,
  ⟨Obj.CAP_FORCE, .u8, 1, .live, some (0, 7), 1, 1, .num 0⟩,
  ⟨Obj.CAP_STATE, .enum8, 0, .readOnly, some (0, 7), 0, 255, .num 0⟩,
  ⟨Obj.CAP_SEQ, .u32, 0, .readOnly, some (0, 7), 0, 4294967295, .num 0⟩,
  ⟨Obj.CAP_MISSED, .u32, 0, .readOnly, some (0, 7), 0, 4294967295, .num 0⟩,
  ⟨Obj.CAP_EARLY, .u32, 0, .readOnly, some (0, 7), 0, 4294967295, .num 0⟩,
  ⟨Obj.CAP_RELEASE, .u32, 1, .live, some (0, 7), 0, 4294967295, .num 0⟩,
  ⟨Obj.CAP_UNRELEASED, .u16, 0, .readOnly, some (0, 7), 0, 65535, .num 0⟩,
  ⟨Obj.CAP_LEVEL, .i32, 1, .staged, some (0, 127), (-2147483648), 2147483647, .num 0⟩,
  ⟨Obj.CAP_DIR, .enum8, 1, .staged, some (0, 127), 0, 2, .num 0⟩,
  ⟨Obj.CAP_READ_BUF, .u8, 0, .live, none, 0, 7, .num 0⟩,
  ⟨Obj.CAP_READ_SEQ, .u32, 0, .live, none, 0, 4294967295, .num 0⟩,
  ⟨Obj.CAP_DATA, .octets, 0, .readOnly, none, 0, 524288, .bytes 0⟩,
  ⟨Obj.RING_LENGTH, .u32, 1, .live, some (0, 15), 0, 4194304, .num 0⟩,
  ⟨Obj.RING_CHANNELS, .octets, 1, .live, some (0, 15), 1024, 1024, .bytes 0⟩,
  ⟨Obj.RING_DECIM, .u16, 1, .live, some (0, 15), 1, 65535, .num 1⟩,
  ⟨Obj.RING_EVENTS, .bool, 1, .live, some (0, 15), 0, 1, .num 0⟩,
  ⟨Obj.RING_COMMITS, .bool, 1, .live, some (0, 15), 0, 1, .num 0⟩,
  ⟨Obj.RING_POLICY, .enum8, 1, .live, some (0, 15), 0, 1, .num 0⟩,
  ⟨Obj.RING_ENABLE, .bool, 1, .live, some (0, 15), 0, 1, .num 0⟩,
  ⟨Obj.RING_WP, .u32, 0, .readOnly, some (0, 15), 0, 4294967295, .num 0⟩,
  ⟨Obj.RING_RP, .u32, 1, .live, some (0, 15), 0, 4294967295, .num 0⟩]

/-- Object rows of R372 (spec/12_capture.md). -/
def objRows2A_2 : List ObjDef := [
  ⟨Obj.RING_DROPPED, .u32, 0, .readOnly, some (0, 15), 0, 4294967295, .num 0⟩,
  ⟨Obj.RING_DATA, .octets, 0, .readOnly, some (0, 15), 0, 524288, .bytes 0⟩,
  ⟨Obj.TRIG_OUT_SRC, .enum8, 1, .live, some (0, 1), 0, 17, .num 0⟩,
  ⟨Obj.TRIG_OUT_WIDTH, .u16, 1, .live, some (0, 1), 1, 65535, .num 16⟩,
  ⟨Obj.TRIG_OUT_POL, .enum8, 1, .live, some (0, 1), 0, 1, .num 0⟩,
  ⟨Obj.TRIG_IN_EDGES, .u32, 0, .readOnly, some (0, 1), 0, 4294967295, .num 0⟩]

/-- Object rows of R399 (spec/13_control_ports.md). -/
def objRows30_0 : List ObjDef := [
  ⟨Obj.PORT_ENABLE, .bool, 2, .live, some (0, 1), 0, 1, .num 1⟩,
  ⟨Obj.FEC_MODE, .enum8, 2, .held, some (0, 1), 0, 1, .num 1⟩,
  ⟨Obj.MAC_ADDR, .octets, 0, .readOnly, some (0, 1), 6, 6, .factory⟩,
  ⟨Obj.MAX_FRAME, .u16, 2, .live, some (0, 1), 1518, 9216, .num 9216⟩,
  ⟨Obj.LINK_STATE, .enum8, 0, .readOnly, some (0, 1), 0, 255, .num 0⟩,
  ⟨Obj.LINK_DOWN_HOLD, .u16, 2, .live, some (0, 1), 0, 10000, .num 1000⟩,
  ⟨Obj.LINK_UP_HOLD, .u16, 2, .live, some (0, 1), 1, 10000, .num 100⟩,
  ⟨Obj.PORT_ROLE, .enum8, 0, .readOnly, some (0, 1), 0, 255, .num 0⟩,
  ⟨Obj.LINK_FLAPS, .u32, 0, .readOnly, some (0, 1), 0, 4294967295, .num 0⟩,
  ⟨Obj.PORT_MODE, .enum8, 2, .staged, none, 0, 1, .num 0⟩,
  ⟨Obj.PREFERRED_PORT, .enum8, 2, .staged, none, 0, 1, .num 0⟩,
  ⟨Obj.REVERT, .bool, 2, .live, none, 0, 1, .num 0⟩,
  ⟨Obj.NET_APPLY, .u8, 2, .live, none, 1, 1, .num 0⟩,
  ⟨Obj.IPV4_ADDR, .u32, 2, .staged, some (0, 1), 0, 4294967295, .num 0⟩,
  ⟨Obj.IPV4_PREFIX, .u8, 2, .staged, some (0, 1), 8, 30, .num 24⟩,
  ⟨Obj.IPV4_GATEWAY, .u32, 2, .staged, some (0, 1), 0, 4294967295, .num 0⟩,
  ⟨Obj.IPV6_ADDR, .octets, 2, .staged, some (0, 1), 16, 16, .bytes 0⟩,
  ⟨Obj.IPV6_PREFIX, .u8, 2, .staged, some (0, 1), 16, 127, .num 64⟩,
  ⟨Obj.IPV6_GATEWAY, .octets, 2, .staged, some (0, 1), 16, 16, .bytes 0⟩,
  ⟨Obj.MGMT_VID, .u16, 2, .staged, some (0, 1), 0, 4094, .num 0⟩,
  ⟨Obj.GROUP_ADDR, .octets, 2, .staged, some (0, 15), 16, 16, .bytes 0⟩,
  ⟨Obj.ACCEPT_VID, .u16, 2, .live, some (0, 31), 0, 65535, .num 65535⟩,
  ⟨Obj.RX_FRAMES, .u64, 0, .readOnly, some (0, 1), 0, 18446744073709551615, .num 0⟩,
  ⟨Obj.RX_BYTES, .u64, 0, .readOnly, some (0, 1), 0, 18446744073709551615, .num 0⟩]

/-- Object rows of R399 (spec/13_control_ports.md). -/
def objRows30_1 : List ObjDef := [
  ⟨Obj.TX_FRAMES, .u64, 0, .readOnly, some (0, 1), 0, 18446744073709551615, .num 0⟩,
  ⟨Obj.TX_BYTES, .u64, 0, .readOnly, some (0, 1), 0, 18446744073709551615, .num 0⟩,
  ⟨Obj.RX_RUNT, .u64, 0, .readOnly, some (0, 1), 0, 18446744073709551615, .num 0⟩,
  ⟨Obj.RX_OVERSIZE, .u64, 0, .readOnly, some (0, 1), 0, 18446744073709551615, .num 0⟩,
  ⟨Obj.RX_FCS_ERRORS, .u64, 0, .readOnly, some (0, 1), 0, 18446744073709551615, .num 0⟩,
  ⟨Obj.RX_PAUSE, .u64, 0, .readOnly, some (0, 1), 0, 18446744073709551615, .num 0⟩,
  ⟨Obj.RX_ADDR_FILTERED, .u64, 0, .readOnly, some (0, 1), 0, 18446744073709551615, .num 0⟩,
  ⟨Obj.RX_VLAN_FILTERED, .u64, 0, .readOnly, some (0, 1), 0, 18446744073709551615, .num 0⟩,
  ⟨Obj.RX_CHECKSUM_BAD, .u64, 0, .readOnly, some (0, 1), 0, 18446744073709551615, .num 0⟩,
  ⟨Obj.FEC_CORRECTED, .u64, 0, .readOnly, some (0, 1), 0, 18446744073709551615, .num 0⟩,
  ⟨Obj.FEC_UNCORRECTED, .u64, 0, .readOnly, some (0, 1), 0, 18446744073709551615, .num 0⟩]

/-- Object rows of R400 (spec/13_control_ports.md). -/
def objRows31_0 : List ObjDef := [
  ⟨Obj.RULES_GEN, .u32, 0, .readOnly, none, 0, 4294967295, .num 1⟩,
  ⟨Obj.RULES_ACTIVE_BANK, .u8, 0, .readOnly, none, 0, 255, .num 0⟩,
  ⟨Obj.RULES_STATUS, .enum8, 0, .readOnly, none, 0, 255, .num 0⟩,
  ⟨Obj.RULES_APPLY, .u8, 2, .live, none, 1, 1, .num 0⟩,
  ⟨Obj.RULES_FAIL_NODE, .u16, 0, .readOnly, none, 0, 65535, .num 0⟩,
  ⟨Obj.RULES_FAIL_CHECK, .u8, 0, .readOnly, none, 0, 255, .num 0⟩,
  ⟨Obj.RULES_STORE, .u8, 2, .live, none, 1, 1, .num 0⟩,
  ⟨Obj.RULES_SOURCE, .enum8, 0, .readOnly, none, 0, 255, .num 0⟩,
  ⟨Obj.RULES_GUARD, .bool, 2, .live, none, 0, 1, .num 1⟩,
  ⟨Obj.GUARD_OVERRIDES, .u64, 0, .readOnly, none, 0, 18446744073709551615, .num 0⟩,
  ⟨Obj.SHADOW_NODE, .octets, 2, .staged, some (0, 4095), 16, 16, .bytes 0⟩,
  ⟨Obj.SHADOW_BANK, .octets, 2, .staged, none, 65536, 65536, .bytes 0⟩,
  ⟨Obj.ACTIVE_NODE, .octets, 0, .readOnly, some (0, 4095), 16, 16, .bytes 0⟩,
  ⟨Obj.LEAF_FRAMES, .u64, 0, .readOnly, some (0, 1023), 0, 18446744073709551615, .num 0⟩,
  ⟨Obj.LEAF_BYTES, .u64, 0, .readOnly, some (0, 1023), 0, 18446744073709551615, .num 0⟩,
  ⟨Obj.RECIRCULATED, .u64, 0, .readOnly, none, 0, 18446744073709551615, .num 0⟩,
  ⟨Obj.RX_CLASS_DROPS, .u64, 0, .readOnly, some (0, 7), 0, 18446744073709551615, .num 0⟩,
  ⟨Obj.SLOW_RATE, .u32, 2, .live, some (0, 10), 0, 100000, .num 2000⟩,
  ⟨Obj.SLOW_BURST, .u16, 2, .live, some (0, 10), 1, 256, .num 64⟩,
  ⟨Obj.SLOW_FRAMES, .u64, 0, .readOnly, some (0, 10), 0, 18446744073709551615, .num 0⟩,
  ⟨Obj.SLOW_POLICED, .u64, 0, .readOnly, some (0, 10), 0, 18446744073709551615, .num 0⟩,
  ⟨Obj.SLOW_QUEUE_DROPS, .u64, 0, .readOnly, none, 0, 18446744073709551615, .num 0⟩,
  ⟨Obj.CLASS_HOST_DEADLINE, .u32, 2, .live, none, 100, 1000000, .num 1000⟩,
  ⟨Obj.CLASS_DECIDE, .octets, 1, .live, none, 8, 8, .bytes 0⟩]

/-- Object rows of R400 (spec/13_control_ports.md). -/
def objRows31_1 : List ObjDef := [
  ⟨Obj.CLASS_HELD, .u16, 0, .readOnly, none, 0, 65535, .num 0⟩,
  ⟨Obj.CLASS_HOLD_DROPS, .u64, 0, .readOnly, none, 0, 18446744073709551615, .num 0⟩,
  ⟨Obj.HELD_SEQ, .u32, 0, .readOnly, some (0, 255), 0, 4294967295, .num 0⟩,
  ⟨Obj.HELD_KEY, .octets, 0, .readOnly, some (0, 255), 64, 64, .bytes 0⟩,
  ⟨Obj.HELD_FRAME, .octets, 0, .readOnly, some (0, 255), 0, 524288, .bytes 0⟩,
  ⟨Obj.HELD_TIME, .time96, 0, .readOnly, some (0, 255), 0, 18446744073709551615999999999, .num 0⟩]

/-- Object rows of R420, R421 (spec/14_queues.md). -/
def objRows32_0 : List ObjDef := [
  ⟨Obj.QUEUE_LIMIT, .u32, 2, .staged, some (0, 15), 2048, 1048576, .num 131072⟩,
  ⟨Obj.QUEUE_PCP, .u8, 2, .live, some (0, 15), 0, 7, .special⟩,
  ⟨Obj.TXQ_APPLY, .u8, 2, .live, none, 1, 1, .num 0⟩,
  ⟨Obj.TX_CLASS_MAP, .u8, 2, .live, some (0, 7), 0, 7, .special⟩,
  ⟨Obj.SHAPER_ENABLE, .bool, 2, .live, some (0, 15), 0, 1, .num 0⟩,
  ⟨Obj.SHAPER_RATE, .u32, 2, .live, some (0, 15), 1000, 25000000, .num 25000000⟩,
  ⟨Obj.SHAPER_BURST, .u32, 2, .live, some (0, 15), 64, 16777216, .num 16384⟩,
  ⟨Obj.SHAPER_RESET_POLICY, .enum8, 2, .live, some (0, 15), 0, 1, .num 0⟩,
  ⟨Obj.SHAPER_TOKENS, .i32, 0, .readOnly, some (0, 15), (-2147483648), 2147483647, .num 0⟩,
  ⟨Obj.QUEUE_FRAMES, .u64, 0, .readOnly, some (0, 15), 0, 18446744073709551615, .num 0⟩,
  ⟨Obj.QUEUE_BYTES, .u64, 0, .readOnly, some (0, 15), 0, 18446744073709551615, .num 0⟩,
  ⟨Obj.QUEUE_DROPS, .u64, 0, .readOnly, some (0, 15), 0, 18446744073709551615, .num 0⟩,
  ⟨Obj.QUEUE_FLUSHED, .u64, 0, .readOnly, some (0, 15), 0, 18446744073709551615, .num 0⟩,
  ⟨Obj.GATE_WAITS, .u64, 0, .readOnly, some (0, 15), 0, 18446744073709551615, .num 0⟩,
  ⟨Obj.GATE_OVERSIZE, .u64, 0, .readOnly, some (0, 15), 0, 18446744073709551615, .num 0⟩,
  ⟨Obj.GATE_ENABLE, .bool, 2, .staged, some (0, 1), 0, 1, .num 0⟩,
  ⟨Obj.GATE_BASE, .time96, 2, .staged, some (0, 1), 0, 18446744073709551615999999999, .num 0⟩,
  ⟨Obj.GATE_CYCLE, .u32, 2, .staged, some (0, 1), 1000, 1000000000, .num 1000000⟩,
  ⟨Obj.GATE_LIST, .octets, 2, .staged, some (0, 1), 2048, 2048, .bytes 0⟩,
  ⟨Obj.GATE_LIST_LEN, .u16, 2, .staged, some (0, 1), 1, 256, .num 1⟩,
  ⟨Obj.GATE_APPLY, .u8, 2, .live, some (0, 1), 1, 1, .num 0⟩,
  ⟨Obj.GATE_STATE, .enum8, 0, .readOnly, some (0, 1), 0, 255, .num 0⟩,
  ⟨Obj.GATE_CHANGE_TIME, .time96, 0, .readOnly, some (0, 1), 0, 18446744073709551615999999999, .num 0⟩,
  ⟨Obj.GATE_OPER_LIST, .octets, 0, .readOnly, some (0, 1), 2048, 2048, .bytes 0⟩]

/-- Object rows of R421 (spec/14_queues.md). -/
def objRows32_1 : List ObjDef := [
  ⟨Obj.GATE_LONGEST, .u32, 0, .readOnly, some (0, 15), 0, 4294967295, .num 4294967295⟩,
  ⟨Obj.POLICER_RATE, .u32, 2, .live, some (0, 63), 64, 25000000, .num 25000000⟩,
  ⟨Obj.POLICER_BURST, .u32, 2, .live, some (0, 63), 64, 16777216, .num 65536⟩,
  ⟨Obj.POLICER_ACTION, .enum8, 2, .live, some (0, 63), 0, 1, .num 0⟩,
  ⟨Obj.POLICER_CONFORM, .u64, 0, .readOnly, some (0, 63), 0, 18446744073709551615, .num 0⟩,
  ⟨Obj.POLICER_EXCEED, .u64, 0, .readOnly, some (0, 63), 0, 18446744073709551615, .num 0⟩,
  ⟨Obj.QSAMPLE_PERIOD, .u32, 2, .live, none, 10, 1000000, .num 1000⟩,
  ⟨Obj.QSAMPLE_SEQ, .u32, 0, .readOnly, none, 0, 4294967295, .num 0⟩,
  ⟨Obj.QSAMPLE_TIME, .time96, 0, .readOnly, none, 0, 18446744073709551615999999999, .num 0⟩,
  ⟨Obj.QDEPTH_BYTES, .u32, 0, .readOnly, some (0, 15), 0, 4294967295, .num 0⟩,
  ⟨Obj.QDEPTH_FRAMES, .u16, 0, .readOnly, some (0, 15), 0, 65535, .num 0⟩,
  ⟨Obj.QDELAY_HEAD, .u32, 0, .readOnly, some (0, 15), 0, 4294967295, .num 0⟩,
  ⟨Obj.QDEPTH_MAX, .u32, 0, .readOnly, some (0, 15), 0, 4294967295, .num 0⟩,
  ⟨Obj.QDELAY_MAX, .u32, 0, .readOnly, some (0, 15), 0, 4294967295, .num 0⟩]

/-- Object rows of R449 (spec/15_time.md). -/
def objRows33_0 : List ObjDef := [
  ⟨Obj.TIME_NOW, .time96, 0, .readOnly, none, 0, 18446744073709551615999999999, .num 0⟩,
  ⟨Obj.SERVO_STATE, .enum8, 0, .readOnly, none, 0, 255, .num 0⟩,
  ⟨Obj.TIME_RATE, .q30, 1, .live, none, (-1073741), 1073741, .num 0⟩,
  ⟨Obj.ADDEND, .u64, 0, .readOnly, none, 0, 18446744073709551615, .num 27487790694⟩,
  ⟨Obj.TIME_OFFSET, .i32, 0, .readOnly, none, (-2147483648), 2147483647, .num 0⟩,
  ⟨Obj.TIME_OFFSET_SEQ, .u32, 0, .readOnly, none, 0, 4294967295, .num 0⟩,
  ⟨Obj.PATH_DELAY, .u32, 0, .readOnly, none, 0, 4294967295, .num 0⟩,
  ⟨Obj.TIME_RESET, .u8, 2, .live, none, 1, 1, .num 0⟩,
  ⟨Obj.TIME_DOMAIN_GEN, .u32, 0, .readOnly, none, 0, 4294967295, .num 0⟩,
  ⟨Obj.HOLDOVER_TIME, .u32, 0, .readOnly, none, 0, 4294967295, .num 0⟩,
  ⟨Obj.UTC_OFFSET, .i16, 0, .readOnly, none, (-32768), 32767, .num 0⟩,
  ⟨Obj.SERVO_KP, .q15, 2, .live, none, 1, 32767, .num 22938⟩,
  ⟨Obj.SERVO_KI, .q15, 2, .live, none, 0, 32767, .num 9830⟩,
  ⟨Obj.SERVO_LOCK_LIMIT, .u32, 2, .live, none, 10, 1000000, .num 100⟩,
  ⟨Obj.LOCK_COUNT, .u8, 2, .live, none, 1, 64, .num 8⟩,
  ⟨Obj.STEP_QUALIFY, .u32, 2, .live, none, 100, 1000000, .num 1000⟩,
  ⟨Obj.OFFSET_ALARM, .u32, 2, .live, none, 1000, 1000000000, .num 1000000⟩,
  ⟨Obj.HOLDOVER_AVG, .u16, 2, .live, none, 1, 4096, .num 64⟩,
  ⟨Obj.SERVO_HOST_DEADLINE, .u32, 2, .live, none, 10, 60000, .num 1000⟩,
  ⟨Obj.PTP_DOMAIN, .u8, 2, .held, none, 0, 127, .num 0⟩,
  ⟨Obj.PTP_DELAY_MECH, .enum8, 2, .held, none, 0, 1, .num 0⟩,
  ⟨Obj.PTP_TRANSPORT, .enum8, 2, .held, none, 0, 2, .num 0⟩,
  ⟨Obj.PTP_PORT, .enum8, 2, .held, none, 0, 1, .num 0⟩,
  ⟨Obj.PDELAY_RESP_MODE, .enum8, 2, .held, none, 0, 1, .num 1⟩]

/-- Object rows of R449, R450 (spec/15_time.md). -/
def objRows33_1 : List ObjDef := [
  ⟨Obj.PTP_ENABLE, .bool, 2, .live, none, 0, 1, .num 1⟩,
  ⟨Obj.ANNOUNCE_TIMEOUT, .u8, 2, .live, none, 2, 255, .num 3⟩,
  ⟨Obj.PATH_DELAY_AVG, .u8, 2, .live, none, 1, 128, .num 16⟩,
  ⟨Obj.TS_RX_LATENCY, .u16, 0, .readOnly, some (0, 1), 0, 65535, .factory⟩,
  ⟨Obj.TS_TX_LATENCY, .u16, 0, .readOnly, some (0, 1), 0, 65535, .factory⟩,
  ⟨Obj.MASTER_ID, .octets, 0, .readOnly, none, 10, 10, .bytes 0⟩,
  ⟨Obj.FOREIGN_MASTERS, .u8, 0, .readOnly, none, 0, 255, .num 0⟩,
  ⟨Obj.PTP_RX_DISCARDS, .u64, 0, .readOnly, none, 0, 18446744073709551615, .num 0⟩,
  ⟨Obj.PULSE_MODE, .enum8, 1, .staged, some (0, 4), 0, 2, .special⟩,
  ⟨Obj.PULSE_START, .time96, 1, .staged, some (0, 4), 0, 18446744073709551615999999999, .num 0⟩,
  ⟨Obj.PULSE_PERIOD, .u32, 1, .staged, some (0, 4), 1000, 1000000000, .num 1000000000⟩,
  ⟨Obj.PULSE_WIDTH, .u32, 1, .staged, some (0, 4), 1, 156250000, .num 15625000⟩,
  ⟨Obj.PULSE_POL, .enum8, 1, .staged, some (0, 4), 0, 1, .num 0⟩,
  ⟨Obj.PULSE_QUAL, .enum8, 1, .staged, some (0, 4), 0, 1, .num 1⟩,
  ⟨Obj.PULSE_APPLY, .u8, 1, .live, some (0, 4), 1, 1, .num 0⟩,
  ⟨Obj.PPS_IN_MODE, .enum8, 2, .live, none, 0, 2, .num 0⟩,
  ⟨Obj.PPS_IN_WINDOW, .u32, 2, .live, none, 100, 100000000, .num 1000⟩,
  ⟨Obj.PPS_IN_OFFSET, .i32, 0, .readOnly, none, (-2147483648), 2147483647, .num 0⟩,
  ⟨Obj.PPS_IN_VALID, .bool, 0, .readOnly, none, 0, 1, .num 0⟩,
  ⟨Obj.LAUNCH_FRAME, .octets, 1, .staged, some (0, 15), 60, 9212, .bytes 0⟩,
  ⟨Obj.LAUNCH_SOURCE, .u8, 1, .staged, some (0, 15), 0, 7, .num 7⟩,
  ⟨Obj.LAUNCH_TIME, .time96, 1, .staged, some (0, 15), 0, 18446744073709551615999999999, .num 0⟩,
  ⟨Obj.LAUNCH_PERIOD, .u32, 1, .staged, some (0, 15), 0, 4000000000, .num 0⟩,
  ⟨Obj.LAUNCH_APPLY, .u8, 1, .live, some (0, 15), 1, 2, .num 0⟩]

/-- Object rows of R450 (spec/15_time.md). -/
def objRows33_2 : List ObjDef := [
  ⟨Obj.LAUNCH_COUNT, .u32, 0, .readOnly, some (0, 15), 0, 4294967295, .num 0⟩,
  ⟨Obj.LAUNCH_DROPS, .u32, 0, .readOnly, some (0, 15), 0, 4294967295, .num 0⟩]

/-- Object rows of R481 (spec/16_exvan.md). -/
def objRows34_0 : List ObjDef := [
  ⟨Obj.SESSION_TIMEOUT, .u32, 2, .live, none, 1000, 600000, .num 30000⟩,
  ⟨Obj.SESSIONS_OPEN, .u8, 0, .readOnly, none, 0, 255, .num 0⟩,
  ⟨Obj.OWN_SESSION, .u16, 0, .readOnly, none, 0, 65535, .num 0⟩,
  ⟨Obj.SESSION_ID, .u16, 0, .readOnly, some (0, 15), 0, 65535, .num 0⟩,
  ⟨Obj.SESSION_LEVEL, .u8, 0, .readOnly, some (0, 15), 0, 255, .num 0⟩,
  ⟨Obj.SESSION_ADDR, .octets, 0, .readOnly, some (0, 15), 16, 16, .bytes 0⟩,
  ⟨Obj.SESSION_IDLE, .u32, 0, .readOnly, some (0, 15), 0, 4294967295, .num 0⟩,
  ⟨Obj.SUB_DROPPED, .u32, 0, .readOnly, some (0, 15), 0, 4294967295, .num 0⟩,
  ⟨Obj.SESSION_CLOSE, .u16, 2, .live, none, 0, 65535, .num 0⟩,
  ⟨Obj.KEY_NEW, .octets, 2, .staged, some (0, 3), 16, 16, .bytes 0⟩,
  ⟨Obj.KEY_APPLY, .u8, 2, .live, none, 0, 3, .num 0⟩,
  ⟨Obj.KEY_GEN, .u32, 0, .readOnly, some (0, 3), 0, 4294967295, .num 1⟩,
  ⟨Obj.KEY_OVERLAP, .u32, 2, .live, none, 0, 86400, .num 600⟩,
  ⟨Obj.FORMAT_DROPS, .u64, 0, .readOnly, none, 0, 18446744073709551615, .num 0⟩,
  ⟨Obj.DEST_DROPS, .u64, 0, .readOnly, none, 0, 18446744073709551615, .num 0⟩,
  ⟨Obj.SESSION_DROPS, .u64, 0, .readOnly, none, 0, 18446744073709551615, .num 0⟩,
  ⟨Obj.AUTH_FAILS, .u64, 0, .readOnly, none, 0, 18446744073709551615, .num 0⟩,
  ⟨Obj.REPLAY_DROPS, .u64, 0, .readOnly, none, 0, 18446744073709551615, .num 0⟩,
  ⟨Obj.RETRIES_SERVED, .u64, 0, .readOnly, none, 0, 18446744073709551615, .num 0⟩,
  ⟨Obj.BLOCKS_ABANDONED, .u64, 0, .readOnly, none, 0, 18446744073709551615, .num 0⟩]

/-- Object rows of R505, R506 (spec/17_internal.md). -/
def objRows35_0 : List ObjDef := [
  ⟨Obj.BEAT_TIMEOUT, .u32, 2, .live, none, 100, 100000, .num 1000⟩,
  ⟨Obj.MATRIX_LOCK_LIMIT, .u32, 2, .live, none, 200, 20000, .num 2000⟩,
  ⟨Obj.ARB_MISMATCHES, .u32, 0, .readOnly, none, 0, 4294967295, .num 0⟩,
  ⟨Obj.ARB_RESET, .u8, 2, .live, none, 1, 1, .num 0⟩,
  ⟨Obj.TARGET_WEIGHTS, .octets, 2, .live, some (0, 10), 8, 8, .special⟩,
  ⟨Obj.PARK_INITIATOR, .u8, 2, .live, some (0, 10), 0, 255, .num 255⟩,
  ⟨Obj.TARGET_ARB_STATE, .enum8, 0, .readOnly, some (0, 10), 0, 255, .num 0⟩,
  ⟨Obj.TARGET_BUSY, .u16, 0, .readOnly, some (0, 10), 0, 65535, .num 0⟩,
  ⟨Obj.INIT_BYTES, .u64, 0, .readOnly, some (0, 6), 0, 18446744073709551615, .num 0⟩,
  ⟨Obj.INIT_ABORTS, .u32, 0, .readOnly, some (0, 6), 0, 4294967295, .num 0⟩,
  ⟨Obj.DECODE_ERRORS, .u32, 0, .readOnly, some (0, 6), 0, 4294967295, .num 0⟩,
  ⟨Obj.LOCKS_BROKEN, .u32, 0, .readOnly, some (0, 6), 0, 4294967295, .num 0⟩,
  ⟨Obj.HELD_BACK, .u64, 0, .readOnly, some (0, 6), 0, 18446744073709551615, .num 0⟩,
  ⟨Obj.HBM_STATE, .enum8, 0, .readOnly, some (0, 1), 0, 255, .num 0⟩,
  ⟨Obj.HBM_CE_COUNT, .u64, 0, .readOnly, some (0, 1), 0, 18446744073709551615, .num 0⟩,
  ⟨Obj.HBM_UE_COUNT, .u32, 0, .readOnly, some (0, 1), 0, 4294967295, .num 0⟩,
  ⟨Obj.HBM_LAST_UE_ADDR, .u64, 0, .readOnly, none, 0, 18446744073709551615, .num 18446744073709551615⟩,
  ⟨Obj.SCRUB_PERIOD, .u32, 2, .live, none, 3600, 604800, .num 86400⟩,
  ⟨Obj.SCRUB_PROGRESS, .u16, 0, .readOnly, none, 0, 65535, .num 0⟩,
  ⟨Obj.SRAM_CE_COUNT, .u64, 0, .readOnly, none, 0, 18446744073709551615, .num 0⟩,
  ⟨Obj.SRAM_UE_COUNT, .u32, 0, .readOnly, none, 0, 4294967295, .num 0⟩,
  ⟨Obj.SRAM_LAST_UE_ADDR, .u32, 0, .readOnly, none, 0, 4294967295, .num 4294967295⟩,
  ⟨Obj.SPIN_CAPACITY, .u16, 0, .readOnly, some (0, 83), 0, 65535, .num 0⟩,
  ⟨Obj.SPIN_CAPACITY_MIN, .u16, 0, .readOnly, some (0, 83), 0, 65535, .num 65535⟩]

/-- Object rows of R506 (spec/17_internal.md). -/
def objRows35_1 : List ObjDef := [
  ⟨Obj.SPEED_WARN, .u16, 2, .live, none, 661, 1000, .num 680⟩,
  ⟨Obj.GOUGE_CAPACITY, .u16, 0, .readOnly, none, 0, 65535, .num 0⟩]

/-- Object rows of R535 (spec/18_lifecycle.md). -/
def objRows36_0 : List ObjDef := [
  ⟨Obj.DEVICE_COMMAND, .enum8, 2, .live, none, 1, 5, .num 0⟩,
  ⟨Obj.FAULT_HOLD_CAUSE, .enum8, 0, .readOnly, none, 0, 255, .num 0⟩,
  ⟨Obj.SELFTEST_RESULT, .u8, 0, .readOnly, none, 0, 255, .num 0⟩,
  ⟨Obj.RESET_CAUSE, .enum8, 0, .readOnly, none, 0, 255, .num 0⟩,
  ⟨Obj.BOOT_TIME, .u32, 0, .readOnly, none, 0, 4294967295, .num 0⟩,
  ⟨Obj.REFCLK_RESTORE_TIME, .u32, 2, .live, none, 1, 1000, .num 10⟩,
  ⟨Obj.RAIL_VOLTAGE, .u16, 0, .readOnly, some (0, 6), 0, 65535, .num 0⟩,
  ⟨Obj.RAIL_STATE, .enum8, 0, .readOnly, some (0, 6), 0, 255, .num 0⟩,
  ⟨Obj.POWER_ON_HOURS, .u32, 0, .readOnly, none, 0, 4294967295, .num 0⟩,
  ⟨Obj.COLD_RESETS, .u32, 0, .readOnly, none, 0, 4294967295, .num 0⟩,
  ⟨Obj.LIFE_COMMITS, .u64, 0, .readOnly, none, 0, 18446744073709551615, .num 0⟩,
  ⟨Obj.HOURS_JUNCTION_HOT, .u32, 0, .readOnly, none, 0, 4294967295, .num 0⟩,
  ⟨Obj.HOURS_CASE_HOT, .u32, 0, .readOnly, none, 0, 4294967295, .num 0⟩]

/-- The rows of one index group (the upper byte of the index, R478). -/
def objGroup (g : Nat) : List ObjDef :=
  match g with
  | 0x10 => objRows10_0
  | 0x11 => objRows11_0
  | 0x12 => objRows12_0
  | 0x20 => objRows20_0
  | 0x21 => objRows21_0 ++ objRows21_1
  | 0x22 => objRows22_0
  | 0x23 => objRows23_0 ++ objRows23_1 ++ objRows23_2
  | 0x24 => objRows24_0
  | 0x25 => objRows25_0 ++ objRows25_1
  | 0x26 => objRows26_0 ++ objRows26_1 ++ objRows26_2
  | 0x27 => objRows27_0 ++ objRows27_1 ++ objRows27_2
  | 0x28 => objRows28_0 ++ objRows28_1
  | 0x29 => objRows29_0 ++ objRows29_1
  | 0x2A => objRows2A_0 ++ objRows2A_1 ++ objRows2A_2
  | 0x30 => objRows30_0 ++ objRows30_1
  | 0x31 => objRows31_0 ++ objRows31_1
  | 0x32 => objRows32_0 ++ objRows32_1
  | 0x33 => objRows33_0 ++ objRows33_1 ++ objRows33_2
  | 0x34 => objRows34_0
  | 0x35 => objRows35_0 ++ objRows35_1
  | 0x36 => objRows36_0
  | _ => []

/-- The definition of the object at an address, if there is one (R471 check 1). -/
def objDef (addr : Nat) : Option ObjDef := (objGroup (addr / 65536)).find? fun d => d.addr == addr

/-- Defaults that depend on the selector: R223 (Table 7.12), R186 (AVG_PD), R308 (two groups), R420 (QUEUE_PCP and
Table 14.1), R450 (PULSE_MODE). PRIV_TARGET, SAFE_CODE and SAFE_SPAN come from the safe page, which is not an object
of its own: their default is the factory page's value, a free value. -/
def objSpecial (addr sel : Nat) : Int :=
  if addr = Obj.SLEW_STEP then
    (if sel < 81920 then 1024 else if sel < 122880 then 64 else if sel < 123904 then 128 else 256)
  else if addr = Obj.SLEW_PERIOD then (if sel < 81920 then 1 else 256)
  else if addr = Obj.READBACK_TOL then (if sel = 0 then 64 else if sel = 1 then 32 else 256)
  else if addr = Obj.AVG_PD then
    (if sel / 16 < 40 then (2048 * (sel / 16) : Nat) else if sel / 16 = 40 then 81920 else 82944)
  else if addr = Obj.WARN_LEVEL then (if sel = 0 then 10000 else 8500)
  else if addr = Obj.THROTTLE_LEVEL then (if sel = 0 then 10300 else 9000)
  else if addr = Obj.STOP_LEVEL then (if sel = 0 then 10600 else 9500)
  else if addr = Obj.CUT_LEVEL then (if sel = 0 then 11200 else 10500)
  else if addr = Obj.QUEUE_PCP then ((sel % 8 : Nat) : Int)
  else if addr = Obj.TX_CLASS_MAP then
    (match sel with | 0 => 7 | 1 => 6 | 2 => 6 | 3 => 5 | 4 => 4 | 5 => 3 | 6 => 2 | _ => 0)
  else if addr = Obj.PULSE_MODE then (if sel = 0 then 2 else 0)
  else Config.factory addr sel

/-- The value of a numeric object at reset or when it is not stored (the Default column). -/
def objDefault (addr sel : Nat) : Int :=
  match objDef addr with
  | none => 0
  | some d =>
    match d.dflt with
    | .num v => v
    | .factory => clampInt d.lo d.hi (Config.factory addr sel)
    | .special => objSpecial addr sel
    | .bytes _ => 0

/-- A value brought to an object's least length with zeros and cut at its greatest. -/
def fitLength (lo hi : Nat) (b : List Byte) : List Byte := (b ++ List.replicate (lo - b.length) 0).take hi

/-- The default weight bytes of a target (R488): the two HBM interfaces have the weights the spec lists; the seven weights of every
other target are free values of 0 to 15. -/
def defaultWeights (t : Nat) : List Byte :=
  if t ≤ 1 then [2, 2, 8, 8, 4, 0, 1, 0]
  else (fitLength 7 7 (Config.factoryOctets Obj.TARGET_WEIGHTS t)).map (fun b => b &&& 15) ++ [0]

/-- The value of an OCTETS object at reset. A factory value has a length the object allows. -/
def octDefault (addr sel : Nat) : List Byte :=
  match objDef addr with
  | none => []
  | some d =>
    match d.dflt with
    | .bytes v => List.replicate d.lo.toNat (BitVec.ofNat 8 v)
    | .special => defaultWeights sel
    | .factory => fitLength d.lo.toNat d.hi.toNat (Config.factoryOctets addr sel)
    | .num _ => []

end Sys2Proof.Machine
end

