-- ==== Sys2Proof/Machine/SMap.lean ====
section
/-!
DEFINITION. Operations on sparse maps: one list of pairs with strictly rising keys, searched from the front.
-/

namespace Sys2Proof.Machine

variable {α : Type}

/-- The value under a key, if the map lists it. -/
def mfind : SMap α → Nat → Option α
  | [], _ => none
  | (a, x) :: t, k => if a = k then some x else mfind t k

/-- The value under a key, or the default. -/
def mget (d : α) (m : SMap α) (k : Nat) : α := (mfind m k).getD d

/-- Put a value under a key, keeping the keys in order. -/
def mset : SMap α → Nat → α → SMap α
  | [], k, v => [(k, v)]
  | (a, x) :: t, k, v =>
    if a = k then (k, v) :: t else if k < a then (k, v) :: (a, x) :: t else (a, x) :: mset t k v

/-- Remove a key. -/
def mdel : SMap α → Nat → SMap α
  | [], _ => []
  | (a, x) :: t, k => if a = k then mdel t k else (a, x) :: mdel t k

/-- Change every listed value. -/
def mmap (f : Nat → α → α) : SMap α → SMap α
  | [] => []
  | (a, x) :: t => (a, f a x) :: mmap f t

/-- The keys rise strictly: the canonical form of a sparse map. -/
def msorted : SMap α → Bool
  | [] => true
  | [_] => true
  | (a, _) :: (b, y) :: t => decide (a < b) && msorted ((b, y) :: t)

/-- The value under two keys of a two-level map, if it is listed. -/
def mfind2 (m : SMap (SMap α)) (i j : Nat) : Option α := (mfind m i).bind fun t => mfind t j

/-- Put a value under two keys. -/
def mset2 (m : SMap (SMap α)) (i j : Nat) (v : α) : SMap (SMap α) := mset m i (mset (mget [] m i) j v)

/-- Remove a value under two keys. -/
def mdel2 (m : SMap (SMap α)) (i j : Nat) : SMap (SMap α) :=
  match mfind m i with
  | none => m
  | some t => mset m i (mdel t j)

end Sys2Proof.Machine
end

