-- ==== Sys2Proof/Machine/State.lean ====
section
/-!
DEFINITION. The machine's state: every object value, and every register, buffer, queue, counter, mode and pin the spec
gives the block, as plain data. Numeric objects live in `objs` by address and selector, OCTETS objects in `octs`;
what the spec describes and shows through no plain object, or shows only in part, is in the records below. A read of an
object whose home is one of those records is made by `readValue` (Machine/Operands). Field defaults are the values
right after power-up.
-/

namespace Sys2Proof.Machine

/-- Why the block would stop with a fault. No command of the table does: every error the spec describes is an answer
or an effect on the state. -/
inductive Fault
  /-- Raised by nothing: the spec gives every command an effect. Safe. -/
  | none
  deriving DecidableEq, Repr

/-- Why a command would be refused by the model. -/
inductive Refusal
  /-- The command has no meaning in the model yet. Safe: the run stops. -/
  | notModelled (mnemonic : String)
  deriving DecidableEq, Repr

/-! ### Exvan (spec/16_exvan.md) -/

/-- An event filter of a session (R477). -/
structure Filter where
  enable : Bool := false
  code : Nat := 0
  mask : Nat := 0
  deriving DecidableEq, Repr

/-- A cached answer (R465) and the tick at which it was stored. -/
structure CacheEntry where
  req : Nat
  reply : Reply
  tick : Nat
  deriving DecidableEq, Repr

/-- The open block write of a session (R470). -/
structure BlockBuf where
  addr : Nat
  sel : Nat
  total : Nat
  bytes : List Byte
  tick : Nat
  deriving DecidableEq, Repr

/-- One entry of the session table (R458, R459, R464, R465, R466, R477). `origin` is where the latest authenticated frame came from, none
where no frame has told; `origins` the same for each REQ_ID not yet answered. -/
structure Session where
  num : Nat
  level : Nat
  source : Nat := 0
  uart : Bool := false
  ip : List Byte := []
  udpPort : Nat := 0
  keyGen : Nat := 1
  key : List Byte := []
  rxHigh : Nat := 0
  rxSeen : List Nat := []
  txSeq : Nat := 0
  lastFrame : Nat := 0
  objectLane : List Instr := []
  commitLane : List Instr := []
  cache : List CacheEntry := []
  filters : SMap Filter := []
  queue : List EvRec := []
  overflowed : Bool := false
  dropped : Nat := 0
  block : Option BlockBuf := none
  readSlot : Nat := 0
  loadStatus : Nat := 0
  origin : Option Origin := none
  origins : SMap Origin := []
  deriving DecidableEq, Repr

/-- A group replay window (R461): the source, the generation of K_G, the window of R459, and where its latest frame came from. -/
structure GroupWin where
  source : Nat
  gen : Nat
  high : Nat
  seen : List Nat
  origin : Option Origin := none
  deriving DecidableEq, Repr

/-- An answer that is owed at the completion of what was accepted (R464). -/
inductive OwedKind
  | safeStore | keyApply (k : Nat) | rulesApply | drain | park | resume
  | fwData (n : Nat) | calStore
  deriving DecidableEq, Repr

/-- How the block judges one object write: acknowledged now, refused, or acknowledged when something completes. -/
inductive Verdict
  | ack | nak (n : Nak) | owe (k : OwedKind)
  deriving DecidableEq, Repr

/-- An answer owed: to which session and request, and for which object. -/
structure Owed where
  kind : OwedKind
  sess : Nat
  req : Nat
  addr : Nat
  sel : Nat
  deriving DecidableEq, Repr

/-- An event whose cause arose while no lobe was ACTIVE (R536): raised by the first ACTIVE lobe with DEFERRED. -/
structure DeferredEv where
  code : Nat
  lobe : Nat
  time : Int
  data : List EvItem
  deriving DecidableEq, Repr

/-- The Exvan engine. `wire` holds the frames it has formed and not yet put into their egress queue, each with its transmit source
(Table 14.1) and port, oldest first, and `uart` the bytes it has sent on the maintenance UART. `prevKeys` holds, under 4 * generation + key, keys that a rotation has replaced and the tick of it, while
KEY_OVERLAP runs (R463). -/
structure Exvan where
  sessions : SMap Session := []
  nonces : SMap (List (List Byte)) := []
  groupWins : List GroupWin := []
  groupCounter : Nat := 1
  groupLimit : Nat := 1
  groupGen : Nat := 1
  groupReserved : Bool := false
  groupLowRaised : Bool := false
  groupExhausted : Bool := false
  keys : SMap (List Byte) := []
  prevKeys : SMap (List Byte × Nat) := []
  log : List EvRec := []
  logSeq : Nat := 0
  deferred : List DeferredEv := []
  rejected : SMap Nat := []
  rejectedAt : Option Nat := none
  out : List Answer := []
  wire : List (Nat × Nat × List Byte) := []
  uart : List Byte := []
  eventFrames : List (Nat × Nat × List EvRec) := []
  groupOut : List (Nat × List Byte) := []
  groupLane : List Instr := []
  groupWait : List Answer := []
  peerWait : List (Nat × Int × List Byte) := []
  owed : List Owed := []
  freeCount : Nat := 0
  deriving DecidableEq, Repr

/-! ### Device, flash and firmware (spec/18_lifecycle.md) -/

/-- What a flash store writes (Table 18.8). -/
inductive StoreKind
  | safePage | faultMap | rules | keys (k : Nat) | life | park (slot : Option Nat) | config | calibration
  | fwRegion (n : Nat) | bootRecords
  deriving DecidableEq, Repr

/-- A running flash store and the numbers of its regions still to be programmed, the first being programmed (R526). -/
structure FlashStore where
  kind : StoreKind
  regions : List Nat
  deriving DecidableEq, Repr

/-- A firmware bank (R512, R528). -/
structure FwBank where
  state : Nat := 0
  version : Nat := 0
  formatLow : Nat := 1
  formatHigh : Nat := 1
  data : SMap (List Byte) := []
  deriving DecidableEq, Repr

/-- The stages of FW_UPDATE_STATE (R534). -/
inductive FwStage
  | idle | firstRestart | swap | secondRestart | trial | rollingBack
  deriving DecidableEq, Repr

def FwStage.code : FwStage → Nat
  | .idle => 0 | .firstRestart => 1 | .swap => 2 | .secondRestart => 3 | .trial => 4 | .rollingBack => 5

/-- A safe page (R214 to R216): its head, codes and spans by drive selector where they differ from the factory page, the spare
maps by bank, its generation and the calibration generation it was written at. -/
structure SafePage where
  magic : Nat := 0x4F535346
  format : Nat := 1
  gen : Nat := 1
  calGen : Nat := 1
  codes : SMap Nat := []
  spans : SMap Nat := []
  spares : SMap Nat := []
  deriving DecidableEq, Repr

/-- The stored regions of the flash (Table 18.8). `lifeCopy` is the copy of the life record written latest; `bad` lists the
offsets of regions whose CRC fails. -/
structure Flash where
  confirmed : Nat := 0
  trial : Option Nat := none
  bootSeq : Nat := 1
  working : SafePage := {}
  faultGen : Nat := 1
  cellClass : SMap Int := []
  elementFault : SMap Int := []
  rules : Option (SMap (List Byte)) := none
  rulesGen : Nat := 1
  keys : SMap (List Byte) := []
  keyGens : SMap Nat := []
  groupLimit : Nat := 1
  groupGen : Nat := 1
  park : Option (List Byte) := none
  config : SMap (SMap Int) := []
  configOcts : SMap (SMap (List Byte)) := []
  cal : SMap (SMap Int) := []
  calOcts : SMap (SMap (List Byte)) := []
  calGen : Nat := 1
  banks : SMap FwBank := []
  erases : Nat := 0
  hours : Nat := 0
  coldResets : Nat := 0
  commits : Nat := 0
  hotHours : Nat := 0
  caseHours : Nat := 0
  lifeCopy : Nat := 0
  bad : List Nat := []
  deriving DecidableEq, Repr

/-- A park application accepted and waiting for its scan boundary (R520): the slot, and whether its image is the stored
one. -/
structure ParkRun where
  slot : Nat
  source : Nat
  deriving DecidableEq, Repr

/-- The device as a whole, its pins and its flash controller. `fwSince` is the tick of the latest reset of an update,
`fwBoth` the tick from which both lobes run the TRIAL bank, `boot` the CONFIRMED and TRIAL bank of boot records being
written, `fwFail` the stage and cause of a roll-back in progress, `parkDark` the slot and the CRC of the image that stood in PARK_SLOT
when the dark park was called for, `trstN` the level of TRST_N, `boundary` the cells of the boundary-scan register, and `tapData` what the
register that the latest instruction selected has captured. -/
structure Device where
  state : DevState := .off
  since : Int := 0
  cause : HoldCause := .none
  heldFrom : DevState := .off
  refclkLost : Bool := false
  refclkBack : Option Nat := none
  resetN : Bool := false
  pgood : Bool := false
  faults : List FaultCause := [.safeLoad]
  safeLoaded : Bool := false
  selfStep : Nat := 0
  selfFatal : Bool := false
  park : Option ParkRun := none
  parkDark : Option (Nat × Nat) := none
  parkRamp : Bool := false
  loopsDue : Bool := false
  lifeAt : Nat := 0
  resetDue : Option (ResetKind × Nat) := none
  draining : Option Nat := none
  store : Option FlashStore := none
  page : Option SafePage := none
  storeQueue : List StoreKind := []
  fwOpen : Option Nat := none
  fwStage : FwStage := .idle
  fwSince : Nat := 0
  fwLobe : Nat := 0
  fwBoth : Option Nat := none
  boot : Option (Nat × Option Nat) := none
  fwFail : Option (Nat × Nat) := none
  wearRaised : Bool := false
  tapInstruction : Nat := 0x2
  trstN : Bool := false
  boundary : List Bool := []
  tapData : Nat := 0
  flash : Flash := {}
  deriving DecidableEq, Repr

/-! ### Lobes and claims (spec/11_lobes.md) -/

/-- One value for each lobe. -/
structure Pair (α : Type) where
  a : α
  b : α
  deriving DecidableEq, Repr

/-- A bias wrap that has started (R150, R152). -/
structure Wrap where
  d : Int
  hStart : Int
  hEnd : Int
  hCmd : Int
  hModel : Int
  jumps : Int := 0
  paused : Bool := false
  deriving DecidableEq, Repr

/-- One lobe (R310 to R339). `bank` is the firmware bank it runs; `claiming` the cause of a claim not yet settled, with its
tick: 0 at start-up, else a cause of LAST_FAILOVER_CAUSE; `heardActive` the tick of the peer's last ACTIVE heartbeat, `hbAt` that of its
own last one, `lostAt` that at which a claim of its own lost to one of the same interval (R332), `copied` the scan with whose boundary its
state copy was captured (R336). -/
structure Lobe where
  role : Role := .offline
  claim : Nat := 0
  seenEpoch : Nat := 0
  strapHigh : Bool := true
  bank : Option Nat := none
  lastHb : Option Nat := none
  okSince : Option Nat := none
  heardActive : Option Nat := none
  claiming : Option (Nat × Nat) := none
  trialBoot : Bool := false
  noFirmware : Bool := false
  noReclaim : Bool := false
  linkLost : Bool := false
  health : Nat := 0
  diagFails : List Nat := []
  diagnosed : Bool := false
  retryAt : Option Nat := none
  since : Nat := 0
  cleanScans : Nat := 0
  copied : Option Nat := none
  katTurn : Nat := 0
  katPending : Bool := false
  katAt : Nat := 0
  offlineDue : Bool := false
  hbAt : Option Nat := none
  lostAt : Option Nat := none
  deriving DecidableEq, Repr

/-- What one lobe receives on a heartbeat path (R323): the tick of its last valid heartbeat, since when they have come
without a break, and how many missed intervals since the last one are counted already. -/
structure HbRx where
  last : Nat := 0
  since : Nat := 0
  miss : Nat := 0
  deriving DecidableEq, Repr

/-- One heartbeat path (R323), with the tick at which it became FAILED. -/
structure HbPath where
  failed : Bool := false
  failedAt : Nat := 0
  rx : Pair HbRx := ⟨{}, {}⟩
  deriving DecidableEq, Repr

/-! ### Network time (spec/15_time.md) -/

/-- A lobe's time counter (R423): whole nanoseconds since its epoch, and the 32-bit fraction. -/
structure Counter where
  ns : Int := 0
  frac : Nat := 0
  fault : Bool := false
  deriving DecidableEq, Repr

/-- Servo states (Table 15.2). -/
inductive Servo
  | unset | locked | tracking | holdover
  deriving DecidableEq, Repr

def Servo.code : Servo → Nat
  | .unset => 0 | .locked => 1 | .tracking => 2 | .holdover => 3

/-- A foreign master as its Announce messages describe it (R430, R440): `lastAnnounce` and `prevAnnounce` are the ticks of the
latest Announce and of the one before it. -/
structure Master where
  id : List Byte
  rank : List Nat
  prevAnnounce : Option Nat := none
  lastAnnounce : Nat := 0
  lastSync : Option Nat := none
  utc : Int := 0
  logAnnounce : Int := 0
  logSync : Int := 0
  deriving DecidableEq, Repr

/-- A pulse program in force (R447) and the instant of its next edge. -/
structure Pulse where
  mode : Nat
  start : Int
  period : Int
  width : Nat
  pol : Nat
  qual : Nat
  next : Option Int
  endTick : Option Nat := none
  deriving DecidableEq, Repr

/-- A launch entry in force (R446). `start` is the instant of its first launch. -/
structure Launch where
  frame : List Byte
  source : Nat
  start : Int
  period : Int
  next : Option Int
  deriving DecidableEq, Repr

/-- A delay message the engine has sent (R430, R433): its PTP type and sequence, whom an answer is for, and the timestamp and correction
it carries, in ns. -/
structure DelayOut where
  kind : Nat
  seq : Nat
  requesting : List Byte := []
  stamp : Int := 0
  correction : Int := 0
  deriving DecidableEq, Repr

/-- Network time: the counters, the servo, the PTP engine, pulses and launches. `rates` are the rates of the latest updates,
newest first; `pendingSync` a two-step Sync awaiting its Follow_Up (sequence, receive stamp, correction); `syncDiff` the
latest Sync's receive time less its origin; `pdelay` a Pdelay_Resp awaiting its Follow_Up; `meas` the latest measurement
formed (offset, ts, local time) and not yet taken by an update; `delaySent` the request sent (sequence, stamp); `delayOut` the delay messages
sent, newest first; `delayLog` the interval that the master's Delay_Resp gives and `delayNext` the tick of the next request (R433);
`hostStarted` says that the host's first rate deadline runs; `resyncs` lists the resynchronisations of the last hour, each with
the lobe it counts against and its tick. -/
structure Time where
  ctr : Pair Counter := ⟨{}, {}⟩
  servo : Servo := .unset
  integ : Int := 0
  pairs : List (Int × Int) := []
  lastOrigin : Option Int := none
  lockRun : Nat := 0
  unlockRun : Nat := 0
  alarmRun : Nat := 0
  alarmRaised : Bool := false
  rates : List Int := []
  delays : List Int := []
  freshDelay : Bool := false
  masters : List Master := []
  master : Option (List Byte) := none
  pendingSync : Option (Nat × Int × Int) := none
  syncDiff : Option Int := none
  pdelay : Option (Int × Int) := none
  meas : Option (Int × Int × Int) := none
  ptpSeq : Nat := 0
  delaySent : Option (Nat × Int) := none
  delayOut : List DelayOut := []
  delayLog : Int := 0
  delayNext : Nat := 0
  resyncs : List (Nat × Nat) := []
  resyncDue : Bool := false
  rateDeadline : Option Nat := none
  hostStarted : Bool := false
  holdoverAt : Option Nat := none
  ppsAt : Nat := 0
  pulses : SMap Pulse := []
  launches : SMap Launch := []
  deriving DecidableEq, Repr

/-! ### Sorus (spec/12_capture.md) -/

/-- One entry of a capture mask (Table 12.5). -/
structure MaskEntry where
  chan : Nat
  enable : Nat
  start : Int
  stop : Int
  low : Int
  high : Int
  deriving DecidableEq, Repr

/-- A recorded frame: its instant, one word per channel, whether the counter was in holdover, and whether no lobe was
ACTIVE (R346, R358). -/
structure CapFrame where
  time : Int
  words : List Nat
  hold : Bool := false
  fo : Bool := false
  deriving DecidableEq, Repr

/-- A buffer's configuration as taken at the arm (R353, R357). -/
structure CapCfg where
  rate : Nat := 0
  decim : Nat := 1
  chans : List Nat := []
  length : Nat := 4096
  pre : Nat := 1024
  segments : Nat := 1
  mode : Nat := 0
  overwrite : Bool := false
  preMode : Nat := 0
  rearm : Nat := 4
  auto : Bool := false
  autoTimeout : Nat := 65536
  care : Nat := 0
  value : Nat := 0
  commitId : Nat := 0
  evCode : Nat := 0
  evMask : Nat := 0
  trigTime : Int := 0
  link : Nat := 0xFF
  mask : List MaskEntry := []
  maskAction : Nat := 0
  levels : List Int := []
  dirs : List Nat := []
  deriving DecidableEq, Repr

/-- A segment (R360, Table 12.4). -/
structure Segment where
  seq : Nat
  forced : Bool := false
  manual : Bool := false
  preShort : Bool := false
  maskFail : Bool := false
  holdover : Bool := false
  failover : Bool := false
  placeFrac : Nat := 64
  placeBit : Nat := 0xFF
  cond : Nat := 0
  fresh : Nat := 0
  trigTime : Int := 0
  firstViolation : Nat := 0xFFFFFFFF
  preValid : Nat := 0
  frames : List CapFrame := []
  overlap : Nat := 0
  violations : Nat := 0
  cfg : CapCfg := {}
  readyAt : Option Nat := none
  deriving DecidableEq, Repr

/-- Capture buffer states (Table 12.3). -/
inductive CapState
  | idle | filling | armed | triggered | rearm | full | stopped
  deriving DecidableEq, Repr

def CapState.code : CapState → Nat
  | .idle => 0 | .filling => 1 | .armed => 2 | .triggered => 3 | .rearm => 4 | .full => 5 | .stopped => 6

/-- What happened since a buffer's last frame (Table 12.2). -/
structure CapAcc where
  edges : List (Nat × Int) := []
  commitT : List (Nat × Int) := []
  done : List Nat := []
  abandoned : List Nat := []
  lockLost : List Nat := []
  events : List Nat := []
  linked : List (Nat × Int) := []
  deriving DecidableEq, Repr

/-- A frame instant that has come and whose samples may still be missing (R344): what the frame takes at the instant itself. `words`
gives each channel selector its word; `waits` names the selectors that take the sample of a scan instead, with that scan. -/
structure CapInstant where
  time : Int
  tick : Nat
  words : List (Nat × Nat)
  waits : List (Nat × Nat)
  pins : Nat
  force : Bool
  hold : Bool
  fo : Bool
  acc : CapAcc
  deriving DecidableEq, Repr

/-- One capture buffer. `pre` is the pre-trigger memory, oldest first, `filled` the frames since the latest entry to
FILLING, `lastTick` the tick of the latest frame instant, `opens` the instants whose frames are still to be completed, oldest first,
`auto` an automatic trigger due at the coming frame, `host` whether the capture is a host-assisted one (R36). -/
structure CapBuf where
  cfg : CapCfg := {}
  state : CapState := .idle
  starting : Bool := false
  pre : List CapFrame := []
  filled : Nat := 0
  cur : Option Segment := none
  segs : List Segment := []
  nextSeq : Nat := 1
  lastTime : Int := 0
  lastTick : Option Nat := none
  lastWords : List Nat := []
  lastV : List (Option Int) := []
  lastLevel : List Bool := []
  lastC : Nat := 0
  lastMatch : Bool := true
  idleFrames : Nat := 0
  rearmLeft : Nat := 0
  force : Bool := false
  auto : Bool := false
  ending : Bool := false
  host : Bool := false
  opens : List CapInstant := []
  acc : CapAcc := {}
  reserved : Nat := 0
  deriving DecidableEq, Repr

/-- One telemetry ring (R366 to R369): the records between the host's and the device's offsets, the settings in effect since
the latest scan boundary, and the reason of a RING_RESET record still to be written. -/
structure Ring where
  recs : List (Nat × List Byte) := []
  rp : Nat := 0
  wp : Nat := 0
  seq : Nat := 0
  length : Nat := 0
  pendingLen : Option Nat := none
  gap : Nat := 0
  gapFirst : Nat := 0
  overflow : Bool := false
  scansLeft : Nat := 0
  enable : Bool := false
  events : Bool := false
  commits : Bool := false
  overwrite : Bool := false
  decim : Nat := 1
  chans : List Nat := []
  resetDue : Option Nat := none
  deriving DecidableEq, Repr

/-- Sorus: buffers, rings and trigger pins; `edgeAt` is the tick of the latest rising edge of each TRIG_IN. -/
structure Sorus where
  bufs : SMap CapBuf := []
  rings : SMap Ring := []
  edgeAt : SMap Nat := []
  pulseEnd : SMap Nat := []
  deriving DecidableEq, Repr

/-! ### Drive outputs (spec/07_drive.md) -/

/-- A fixed ramp or span sequence in progress on a channel (R199, R218, R520). -/
inductive Motion
  /-- Span sequence (R199): ramp to the zero code since `start`, the dwell, then the new span. -/
  | spanSeq (start fromCode newSpan : Nat)
  /-- A toggle of a TEMPLATE run: the code `kick` for `d1` ticks, then `hold` for `d2`, then the channel's code (R121, R270). -/
  | kick (start kick d1 hold d2 : Nat)
  /-- Fixed ramp to the safe code (R218) or of a park application (R520): `num` codes every `den` ticks from `start`. -/
  | ramp (start fromCode goal num den : Nat)
  deriving DecidableEq, Repr

/-- One drive channel: its limiter, span, motion, lane and readback (R194 to R213). `spare` is the spare on the lane's connection;
`passes` counts its passing comparisons there, and `placed` says that two have put it in place (Table 7.7). -/
structure Chan where
  out : Nat
  target : Nat
  taken : Nat
  accepted : Nat := 0
  direct : Option Nat := none
  reached : Bool := false
  span : Nat := 1
  motion : Option Motion := none
  held : Option (Nat × Nat) := none
  spare : Option Nat := none
  laneFailed : Bool := false
  lost : Bool := false
  loadFault : Bool := false
  readbackFail : Bool := false
  fails : Nat := 0
  changed : Nat := 0
  unchecked : Nat := 0
  sensed : Nat := 0
  switching : Option Nat := none
  passes : Nat := 0
  placed : Bool := false
  deriving DecidableEq, Repr

/-- A spare lane of a bank (R209, R211, R213). -/
inductive Spare
  | idle | lane (n : Nat) | failed
  deriving DecidableEq, Repr

/-- Hold states of a bank (R217). -/
inductive Hold
  | normal | holding | safe
  deriving DecidableEq, Repr

def Hold.code : Hold → Nat
  | .normal => 0 | .holding => 1 | .safe => 2

/-- One bank: its hold state and its spares (R208 to R213, R217). `holdTick` is the tick at which it entered HOLDING. `lastKeep` is set while its gate refuses keep-alives: the scan of
the last one it accepted since the safe load, if any. `commanded`: in hold state SAFE, the ACTIVE lobe has commanded the safe
transition too (R519). -/
structure Bank where
  hold : Hold := .normal
  holdTick : Nat := 0
  lastKeep : Option (Option Nat) := none
  spare32 : Spare := .idle
  spare33 : Spare := .idle
  fails32 : Nat := 0
  fails33 : Nat := 0
  safeStart : Option Nat := none
  commanded : Bool := false
  deriving DecidableEq, Repr

/-- A waveform generator in force (R205, R206, R207). -/
structure Gen where
  chan : Nat
  shape : Nat
  mode : Nat
  amp : Nat
  period : Nat
  offset : Nat
  seed : Nat
  start : Int
  startTick : Option Nat
  deriving DecidableEq, Repr

/-- All output stages. -/
structure Drive where
  chans : SMap Chan := []
  banks : SMap Bank := []
  keepScan : Option Nat := none
  gens : SMap Gen := []
  safeCodes : SMap Nat := []
  safeSpans : SMap Nat := []
  driven : Bool := false
  heatersOff : Bool := false
  fastOff : Bool := false
  privOff : Bool := false
  spareMapDue : Option Nat := none
  voaCodes : SMap Nat := []
  revertCheck : Nat := 0
  safeBanks : Nat := 0
  deriving DecidableEq, Repr

/-! ### Steady and temperature (spec/10_power_thermal.md) -/

/-- A grant held (R285): its heater amount in µW, the power of its channels when it was granted, its charge in 0.1 pC, and
the undrawn part found at the latest scan. The direction is a wrap's (R149). A grant whose requester has given it back while
Steady could not issue the release stays held (R296). -/
structure Grant where
  kind : GKind
  source : Nat
  heater : Int
  left : Int
  base : Int
  chans : List Nat
  charge : Nat
  dir : Int := 0
  released : Bool := false
  deriving DecidableEq, Repr

/-- A request waiting for Steady or for the host (R288, R293). -/
structure GReq where
  kind : GKind
  source : Nat
  heater : Int
  chans : List Nat
  charge : Nat
  waves : Nat := 0
  dir : Int := 0
  deriving DecidableEq, Repr

/-- Entries of the host's request ring, with the tick at which the host's time ends (R293, R295). -/
structure RingReq where
  seq : Nat
  req : GReq
  state : Nat
  due : Nat
  deriving DecidableEq, Repr

structure Steady where
  grants : List Grant := []
  queue : List GReq := []
  frozen : Bool := false
  ceiling : Bool := false
  ring : SMap RingReq := []
  overflow : List GReq := []
  nextSeq : Nat := 0
  pendingBudget : Bool := false
  newBudget : Bool := false
  budget : Int := 70000
  reserve : Int := 2000
  driveBudget : Int := 4000
  upsets : List Nat := []
  deriving DecidableEq, Repr

/-- A temperature site (R298, R300). -/
structure Sensor where
  last : List Int := []
  bad : Nat := 0
  good : Nat := 0
  failed : Bool := false
  unreported : Nat := 0
  cutRun : Nat := 0
  mode : Nat := 0
  deriving DecidableEq, Repr

structure Thermal where
  sensors : SMap Sensor := []
  levels : SMap Nat := []
  state : Nat := 0
  flashOk : Bool := false
  flashInSince : Option Nat := none
  cutTripped : Bool := false
  deriving DecidableEq, Repr

/-! ### Element and VOA loops (spec/05_loops.md) -/

/-- Element loop states (Table 5.2); a VOA loop uses the first three and the last (R157). -/
inductive LoopState
  | opened | acquire | locked | saturated | wrapping | disabled
  deriving DecidableEq, Repr

def LoopState.code : LoopState → Nat
  | .opened => 0 | .acquire => 1 | .locked => 2 | .saturated => 3 | .wrapping => 4 | .disabled => 5

/-- A conditioned sample word with its tag (R174). -/
structure Sample where
  p : Int := 0
  inv : Bool := false
  sat : Bool := false
  deriving DecidableEq, Repr

/-- An accumulator of a lane (R168, R169, R175): its value in units of 2^-30, the guard sign (0 while GUARD is clear) and the sticky INV
flag. -/
structure Acc where
  x : Int := 0
  guard : Int := 0
  inv : Bool := false
  deriving DecidableEq, Repr

/-- A datapath lane (R169): its accumulators and its operand memory by address, 0 to 8,191. -/
structure DpLane where
  acc0 : Acc := {}
  acc1 : Acc := {}
  mem : SMap Sample := []
  deriving DecidableEq, Repr

/-- What the outer loop of an element gathers over one outer period (R146, R183): the scan the period starts with, the samples summed,
the leak and the wanted tap, and whether each input line was lit or unlit in every one of those scans. -/
structure OuterSum where
  start : Nat := 0
  count : Nat := 0
  leak : Acc := {}
  wanted : Acc := {}
  lit0 : Bool := true
  lit1 : Bool := true
  unlit0 : Bool := true
  unlit1 : Bool := true
  deriving DecidableEq, Repr

/-- One element loop (R140 to R155). Phases are in Q15 units of 2π, `mean` carries 16 fractional bits (R148). `outer` and `outerDone` are
the sums of the present and the last outer period, `lockTick` the tick since which it has been LOCKED or WRAPPING where it is,
`enabling` a write of 1 to LOOP_ENABLE that takes an OPEN element to ACQUIRE at the next scan, `pendScan` the scan of the pending samples. -/
structure Elem where
  state : LoopState := .opened
  cross : Bool := false
  phiC : Int := 0
  phiL : Int := 0
  phiW : Int := 0
  theta : Int := 0
  t : Int := 16384
  target : Int := 16384
  tReached : Bool := false
  step : Int := 4
  run : Nat := 0
  lastSign : Int := 0
  stepping : Bool := false
  clipped : Bool := false
  dark : Bool := false
  unobserved : Bool := false
  bandRun : Nat := 0
  darkRun : Nat := 0
  unobsRun : Nat := 0
  clipRun : Nat := 0
  lossRun : Nat := 0
  satSince : Nat := 0
  deadA : Bool := true
  deadB : Bool := true
  mean : Int := 0
  offloading : Bool := false
  dir : Int := 1
  xLast : Option (Int × Int) := none
  outer : OuterSum := {}
  outerDone : OuterSum := {}
  lockTick : Nat := 0
  enabling : Bool := false
  ratio : Option (Int × Int) := none
  wrapAsk : Option Int := none
  wrap : Option Wrap := none
  idleSince : Nat := 0
  stallRaised : Bool := false
  suspended : Bool := false
  err : Int := 0
  sum : Int := 0
  pend : Option (Sample × Sample × Sample × Sample) := none
  pendScan : Nat := 0
  deriving DecidableEq, Repr

/-- One VOA loop (R156 to R158). -/
structure Voa where
  state : LoopState := .opened
  atten : Nat := 0
  eff : Int := -300
  tReached : Bool := false
  vstepping : Bool := false
  limited : Bool := false
  dark : Bool := false
  darkOut : Bool := false
  srcInvalid : Bool := false
  sum : Acc := {}
  count : Nat := 0
  mean : Int := 0
  fresh : Bool := false
  leaving : Bool := false
  deriving DecidableEq, Repr

/-- A column: its overruns (R160, R161), and the decisions of the present scan's evaluations by element (R319). `ended` is the scan whose
boundary was taken latest, `endDec` and `endOver` the decisions and the overrun of the scan that ended there. -/
structure Column where
  overRange : Bool := false
  overRun : Nat := 0
  cleanRun : Nat := 0
  degraded : Bool := false
  decisions : SMap Nat := []
  ended : Nat := 0
  endDec : SMap Nat := []
  endOver : Bool := false
  deriving DecidableEq, Repr

/-- The loops. `held` keeps, for a loop parameter written and perhaps not yet in force (R165), the value in force before and
the scan of the write; `modeFrom` is the scan from which the effective mode of the element loops counts (R36). -/
structure Loops where
  elems : SMap Elem := []
  voas : SMap Voa := []
  cols : SMap Column := []
  hostBlocks : List (List DriveRec) := []
  hostLast : Nat := 0
  sources : SMap Bool := []
  held : SMap (SMap (Int × Nat)) := []
  modeFrom : Nat := 0
  deriving DecidableEq, Repr

/-! ### Monitor inputs and datapath (spec/08_monitor.md, spec/06_datapath.md) -/

/-- One photodiode's front end, auto-range state and filter history (R225 to R227, R181). `raw` is the raw word of scan `at_`, `rawBefore` that of the scan before. Gain `g` holds from the hold of scan `gFrom`
on, `gOld` with `settleOld` before; `mode` is the GAIN_MODE taken at the boundary of scan `modeAt`. -/
structure Pd where
  g : Nat := 0
  gOld : Nat := 0
  gFrom : Nat := 0
  mode : Nat := 0
  modeAt : Nat := 0
  lowRun : Nat := 0
  settle : Nat := 0
  settleOld : Nat := 0
  overRun : Nat := 0
  clearRun : Nat := 0
  overRaised : Bool := false
  code : Nat := 0
  raw : Nat := 0
  rawBefore : Nat := 0
  hist : List Sample := []
  why : List Nat := []
  value : Sample := {}
  prev : Sample := {}
  at_ : Nat := 0
  deriving DecidableEq, Repr

/-- A queued injected conversion (R241, R242): its source, whether the host or the background check asked, and the scan
of the request. -/
structure Inj where
  source : Nat
  host : Bool
  scan : Nat
  cal : Bool := false
  deriving DecidableEq, Repr

/-- Focus of a converter (R244, R245) and the scan in which it was entered. -/
structure Focus where
  input : Nat
  pair : Bool
  scans : Nat
  start : Nat := 0
  deriving DecidableEq, Repr

/-- One converter (R229 to R247). State codes are those of CONV_STATE. `injAt` is the scan and pair of its latest
injected conversion, `muxScan` the first scan on a spare, `muxFirst` the scan whose first conversion follows a change of
focus, `filt` the scans whose filter outputs follow a filter change, `spareFrom` the scan since which `spare` says whether the spare
converts its inputs, `focusWas` the focus before the latest change and the scan in which it ended. -/
structure Conv where
  fails : Nat := 0
  state : Nat := 0
  spare : Bool := false
  spareFrom : Nat := 0
  pointer : Nat := 0
  queue : List Inj := []
  focus : Option Focus := none
  focusNext : Option Focus := none
  focusWas : Option (Focus × Nat) := none
  focusStop : Bool := false
  checkLate : Bool := false
  injAt : Option (Nat × Nat) := none
  muxScan : Option Nat := none
  muxFirst : Option Nat := none
  filt : Option (Nat × Nat) := none
  substituteDue : Bool := false
  lastCheck : Nat := 0
  deriving DecidableEq, Repr

/-- One monitor bank (R235 to R240). -/
structure MonBank where
  on : Bool := true
  ready : Bool := false
  timer : Option Nat := none
  readyAt : Nat := 0
  spareCheck : Nat := 0
  checkScan : Option Nat := none
  spareCv : Option Nat := none
  spareFailed : Bool := false
  spareFails : Nat := 0
  deriving DecidableEq, Repr

/-- A set-point input, analogue or pulse (R248 to R251). `lastEdge` is the earliest tick at which its last rising edge can have come,
`begun` the scan with which the present window of a pulse input began. -/
structure SetIn where
  y : Int := 0
  x : Int := 0
  badRun : Nat := 0
  goodRun : Nat := 0
  valid : Bool := false
  lastEdge : Nat := 0
  mode : Nat := 0
  win : Nat := 6
  begun : Nat := 0
  shift : Nat := 4
  deriving DecidableEq, Repr

/-- An averaging channel (R175, R184). Words of scan `since` on are summed; `due` holds the settings of
a change whose boundary has passed while the last word of the old window is still to come. -/
structure Avg where
  sum : Acc := {}
  count : Nat := 0
  pd : Option Nat := none
  len : Nat := 6
  change : Bool := false
  since : Nat := 0
  due : Option (Nat × Nat) := none
  deriving DecidableEq, Repr

/-- Guard-overflow reporting of a column (R189). -/
structure Guard where
  kernel : Nat := 0
  chan : Nat := 0
  count : Nat := 0
  last : Option Nat := none
  deriving DecidableEq, Repr

/-- Monitor inputs and the Spindles' datapaths. `lanes` are keyed by 8 * column + lane; `dpScan` is the scan at whose boundary
coefficients changed latest, and `dpOld`, `dpOldOct` their values before (R187). -/
structure Monitor where
  pds : SMap Pd := []
  lanes : SMap DpLane := []
  dpScan : Nat := 0
  dpOld : SMap (SMap Int) := []
  dpOldOct : SMap (SMap (List Byte)) := []
  gainPend : List Nat := []
  convs : SMap Conv := []
  banks : SMap MonBank := []
  spa : SMap SetIn := []
  spp : SMap SetIn := []
  avgs : SMap Avg := []
  guards : SMap Guard := []
  dpPending : Bool := false
  injHost : Option Nat := none
  rangePend : Bool := false
  rangeHigh : Nat := 3840
  rangeLow : Nat := 768
  rangeHold : Nat := 16
  deriving DecidableEq, Repr

/-! ### Calibration (spec/09_calibration.md) -/

/-- A queued calibration request (R261). -/
structure CalReq where
  seq : Nat
  kind : Nat
  sel : Nat
  deriving DecidableEq, Repr

/-- Where the request at the head of the queue stands (R263). -/
inductive CalPhase
  | queued | deferred | waitGrant | running | pending
  deriving DecidableEq, Repr

/-- The codes of CAL_STATUS that these phases show (Table 9.7). -/
def CalPhase.code : CalPhase → Nat
  | .queued => 1 | .deferred => 2 | .waitGrant => 3 | .running => 4 | .pending => 5

/-- One step of a run's sweep: its number, the wanted tap, Pa and Pb (R268, R269). -/
structure SweepStep where
  k : Nat
  want : Int
  pa : Int
  pb : Int
  deriving DecidableEq, Repr

/-- The request being carried out and the item of it in hand (R261). `due` says that the item has all it needs but its first step, which
waits for the end of APPLYING or for a scan boundary (R265, R267). `first` is the scan of its first step. `saved` are the codes to put
back, `coefs` the converter's own coefficients while its bank's spare stands in (R267), `lit` the lit input line and `sweep` what
ELEMENT and VOA runs have recorded; `sums`, `squares` and `count` are those of a BAND run (R271) or of injected conversions (R267). -/
structure CalRun where
  req : CalReq
  item : Nat := 0
  phase : CalPhase
  since : Nat
  due : Bool := false
  first : Nat := 0
  lane : Option Nat := none
  saved : List (Nat × Nat) := []
  coefs : Option (Int × Int) := none
  lit : Nat := 0
  sweep : List SweepStep := []
  sums : List Int := []
  squares : Int := 0
  count : Nat := 0
  clamped : Bool := false
  result : Option CalResult := none
  deriving DecidableEq, Repr

/-- The request as one for the item in hand. -/
def CalRun.one (r : CalRun) : CalReq := { r.req with sel := r.item }

/-- Whether the item in hand is being measured. -/
def CalRun.measures (r : CalRun) : Bool := decide (r.phase = .running) && !r.due

/-- Adaptive sums of a template (R273, R275). -/
structure Adapt where
  acc : Int := 0
  cnt : Nat := 0
  ready : Option Nat := none
  deriving DecidableEq, Repr

/-- Calibration. `back` is a lane whose hand-back waits for its trim or for the end of APPLYING (R265, R278). `missed` says that the host let the deadline of an ADAPT_READY pass and no PREPARE has come since (R275). -/
structure Cal where
  queue : List CalReq := []
  run : Option CalRun := none
  nextSeq : Nat := 1
  apply : Option (CalReq × CalResult) := none
  back : Option Nat := none
  valuesDue : Bool := false
  adapt : SMap Adapt := []
  unstored : Option Nat := none
  postponed : Bool := false
  missed : Bool := false
  deriving DecidableEq, Repr

/-! ### Fabric (spec/02_fabric.md) -/

/-- A staged fault-map write (R64): the object and selector, the value, and whether the device changed the entry since. -/
structure FaultWrite where
  addr : Nat
  sel : Nat
  value : Int
  void : Bool := false
  deriving DecidableEq, Repr

/-- A running pin test (R66). -/
structure PinTest where
  cell : Nat
  start : Nat
  aborted : Bool := false
  deriving DecidableEq, Repr

structure Fabric where
  staged : List FaultWrite := []
  applyPending : Bool := false
  pinTest : Option PinTest := none
  reported : Bool := false
  deriving DecidableEq, Repr

/-! ### Function modes (spec/01_architecture.md) -/

/-- A function of Table 1.5: the mode in effect, the accepted request not yet in effect, and whether it has fallen back (its
hold-off then runs from LAST_FALLBACK_TIME, R38). -/
structure Func where
  mode : Nat := 0
  pending : Option Nat := none
  fellBack : Bool := false
  deriving DecidableEq, Repr

/-! ### Library, router and refinement (spec/03_images.md) -/

/-- Slot states (Table 3.5). -/
inductive SlotState
  | empty | loading | valid | stale | invalid | routing | writing
  deriving DecidableEq, Repr

def SlotState.code : SlotState → Nat
  | .empty => 0 | .loading => 1 | .valid => 2 | .stale => 3 | .invalid => 4 | .routing => 5 | .writing => 6

/-- An open load (R85 to R87, R93): the session holding it, or none while the router holds it; its last write; how many
of the slot's bytes LOAD_DATA has delivered. -/
structure Load where
  slot : Nat
  session : Option Nat
  last : Nat
  received : Nat := 0
  forRoute : Bool := false
  deriving DecidableEq, Repr

/-- Values latched at DONE (R95): per element the Pockels phase and set-point, per VOA the attenuation. -/
structure Latch where
  slot : Nat
  elems : List (Nat × Int × Int)
  voas : List (Nat × Nat)
  deriving DecidableEq, Repr

/-- A route request being carried out (R90, R91, R93). What NO_ROUTE brings back: `prior` the slot's state before it, `load` the load
the requesting session held open on it, and, where the host was asked first (`hosted`), `before` the slot's contents. -/
structure Route where
  seq : Nat
  slot : Nat
  vector : List Nat
  exclude : List Nat
  prior : SlotState
  load : Option Load := none
  hosted : Bool := false
  before : List Host.Cell := []
  start : Nat
  waitHost : Bool := false
  due : Nat := 0
  deriving DecidableEq, Repr

/-- A refinement buffer awaiting the host's decision (R100). -/
structure RefineBuf where
  latch : Latch
  due : Nat
  deriving DecidableEq, Repr

structure Library where
  slots : SMap SlotState := []
  loads : List Load := []
  queue : List Latch := []
  writing : Option Latch := none
  lastWrite : Option Nat := none
  bufs : SMap RefineBuf := []
  route : Option Route := none
  search : Option Nat := none
  found : Nat := 0xFFFFFFFF
  writingFrom : SlotState := .valid
  deriving DecidableEq, Repr

/-! ### Commits (spec/04_commit.md) -/

/-- Commit states (Table 4.2). -/
inductive CommitState
  | idle | prepared | armed | applying | settling | done | abandoned
  deriving DecidableEq, Repr

def CommitState.code : CommitState → Nat
  | .idle => 0 | .prepared => 1 | .armed => 2 | .applying => 3 | .settling => 4 | .done => 5 | .abandoned => 6

/-- Outcomes of LOG_OUTCOME (Table 4.7). -/
inductive Outc
  | none | locked | unlocked | superseded | cancelled | prepareTimeout | stale | failover | late | peerAbort | deviceState
  deriving DecidableEq, Repr

def Outc.code : Outc → Nat
  | .none => 0 | .locked => 1 | .unlocked => 2 | .superseded => 3 | .cancelled => 16 | .prepareTimeout => 17
  | .stale => 18 | .failover => 19 | .late => 20 | .peerAbort => 21 | .deviceState => 22

/-- What a staging set holds of one element (R108): the final arm codes, the staged phase and set-point, the template
values in force at the PREPARE (R274), the record's flags and the element's wave, if it changed. -/
structure StagedElem where
  codeA : Nat
  codeB : Nat
  phase : Int
  setpoint : Int
  template : Nat
  a1 : Int
  a2 : Int
  d1 : Nat
  d2 : Nat
  cross : Bool
  hold : Bool
  noLight : Bool
  wave : Option Nat
  oldA : Nat := 8192
  oldB : Nat := 8192
  templPhase : Nat := 0
  began : Option Nat := none
  dphi : Int := 0
  deriving DecidableEq, Repr

/-- What a staging set holds of one VOA (R108). -/
structure StagedVoa where
  code : Nat
  atten : Nat
  target : Int
  source : Nat
  dark : Bool
  deriving DecidableEq, Repr

/-- One commit from its PREPARE to its end (R105 to R127). `charge` is that of its plan in 0.1 pC (R111), `lastScan` what it would latch
from the last scan that has ended since it began settling (R127). -/
structure Commit where
  id : Nat
  slot : Nat
  sess : Nat
  req : Nat
  state : CommitState
  noRefine : Bool := false
  peerAbort : Bool := false
  t : Int := 0
  preparedAt : Nat := 0
  logIndex : Nat := 0
  flags : Nat := 0
  pred : Nat := 0
  waves : Nat := 1
  changed : Nat := 0
  nextWave : Nat := 0
  elems : SMap StagedElem := []
  voas : SMap StagedVoa := []
  portMap : List Nat := []
  routes : List Nat := []
  spacing : Nat := 6
  budget : Nat := 4000
  heat : Int := 0
  tTick : Nat := 0
  lastEnd : Nat := 0
  serial : Nat := 0
  predSerial : Nat := 0
  hostTempl : Bool := false
  adopted : Nat := 0
  charge : Nat := 0
  lastScan : Option Latch := none
  deriving DecidableEq, Repr

/-- An entry of the commit log (R134). -/
structure LogEntry where
  id : Nat := 0
  slot : Nat := 0
  t : Int := 0
  state : CommitState := .idle
  outcome : Outc := .none
  flags : Nat := 0
  waves : Nat := 0
  settle : Nat := 0
  deriving DecidableEq, Repr

/-- A PREPARE or COMMIT that waits for the host's grant (R293). `immediate` says that the COMMIT carries T = 0. -/
structure HeldPrepare where
  sess : Nat
  req : Nat
  commit : Commit
  arm : Bool := false
  immediate : Bool := false
  deriving DecidableEq, Repr

structure Commits where
  live : List Commit := []
  log : SMap LogEntry := []
  head : Nat := 0
  logged : Nat := 0
  held : List HeldPrepare := []
  serial : Nat := 0
  appliedSerial : Nat := 0
  peerSent : List (Nat × Int × List Byte) := []
  deriving DecidableEq, Repr

/-! ### Snapshots and the pair of lobes (spec/11_lobes.md) -/

/-- The snapshot contents the model keeps of each element (Table 11.3, R326). -/
structure SnapElem where
  phiL : Int := 0
  phiW : Int := 0
  theta : Int := 0
  mean : Int := 0
  offloading : Bool := false
  wrap : Option Wrap := none
  ask : Option Int := none
  deriving DecidableEq, Repr

/-- A snapshot (R329): its header, the path it travels on (R323) and the items of Table 11.3. The body's layout is not stated, so LENGTH,
within its bound, and CRC are free. `timed` lists the ARMED commits with their T, and the host deadlines
travel as the fact that each runs afresh after a takeover (R40). -/
structure Snapshot where
  seq : Nat
  scan : Nat
  tick : Nat
  elems : SMap SnapElem
  attens : SMap Nat
  eventSeq : Nat
  funcs : SMap Func := []
  log : SMap LogEntry := []
  timed : List (Nat × Int) := []
  sessions : SMap Session := []
  length : Nat := 0
  crc : Nat := 0
  path : Nat := 0
  deriving DecidableEq, Repr

/-- Both lobes, the claim gates and what passes between the lobes. `gateBase` is HIGHEST of every gate but the faulty ones
of `gateStuck` and those of `gateHigh`, which an accepted write has raised further; `gatePrev` what it was before the latest broadcast
that raised it, at tick `gateAt`; `refused` the lobes and banks of REFUSED answers not yet dealt with; `katCols` the columns under test
after a mismatch; `compared` the scan at whose boundary digests were last compared; `lastCapture` the tick from which the next snapshot's
1 ms runs; `swapped` the lobe and claim of a swap that is yet to be reported; `handover` the scan a HANDOVER names; `lastWrite` the tick
of the last accepted write. -/
structure Lobes where
  each : Pair Lobe := ⟨{}, {}⟩
  gateBase : Nat := 0
  gatePrev : Nat := 0
  gateStuck : SMap Nat := []
  gateHigh : SMap Nat := []
  gateAt : Nat := 0
  refused : List (Nat × Nat) := []
  paths : Pair HbPath := ⟨{}, {}⟩
  sent : List Heartbeat := []
  lastActive : Nat := 0
  capture : Option Snapshot := none
  snap : Option Snapshot := none
  snapLate : Bool := false
  snapSeq : Nat := 0
  swapDue : Option Nat := none
  swapAsked : Bool := false
  lastTakeover : Nat := 0
  mismatches : SMap (List Nat) := []
  katCols : List Nat := []
  handover : Option Nat := none
  final : Option (Nat × Nat) := none
  compared : Nat := 0
  lastCapture : Option Nat := none
  swapped : Option (Nat × Nat) := none
  lastWrite : Nat := 0
  deriving DecidableEq, Repr

/-! ### Control ports, Gouge, queues (spec/13_control_ports.md, spec/14_queues.md) -/

/-- A control port's link (R375, R381) and the frame it is sending: queue selector, length and first tick. `tag` is the VID and
the PCP of the latest frame started, none where it carries no tag (R403). Roles: 0 PRIMARY, 1 BACKUP, 2 INDEPENDENT, 3 DOWN. -/
structure Port where
  lock : Bool := false
  lockSince : Nat := 0
  up : Bool := false
  upSince : Nat := 0
  role : Nat := 0
  busy : Option (Nat × Nat × Nat) := none
  tag : Option (Nat × Nat) := none
  deriving DecidableEq, Repr

/-- A frame on its way through the classifier: port, time stamp, bytes without FCS, whether an Exvan tag in it
verifies, the key words, the generation it is stamped with, the start of its second pass, and the receive class it was delivered in. Port 2
is the maintenance UART, whose bytes are the Exvan frame itself. -/
structure RxFrame where
  port : Nat
  stamp : Int
  bytes : List Byte
  tagOk : Bool := true
  key : List Nat
  gen : Nat := 0
  next : Nat := 0
  cls : Nat := 0
  deriving DecidableEq, Repr

/-- A frame held for the host's verdict (R397). -/
structure HeldFrame where
  seq : Nat
  frame : RxFrame
  due : Nat
  deriving DecidableEq, Repr

/-- A token bucket with the tick of its last refill (R395, R417). Tokens are exact: 1/156,250,000 of a frame in the
slow path, 1/1,250,000 of a byte in an ingress policer. -/
structure Bucket where
  tokens : Int
  last : Nat
  deriving DecidableEq, Repr

/-- A frame in an egress queue. -/
structure TxFrame where
  len : Nat
  entry : Nat
  source : Nat
  waited : Bool := false
  deriving DecidableEq, Repr

/-- An egress queue (R402 to R411, R419). The bucket is in 1/65,536 of a byte; `carry` is the part of its rise below that, in
1/78,125 of the unit; `rate`, `burst` and `enabled` are the shaper settings in effect. -/
structure Queue where
  frames : List TxFrame := []
  bucket : Int := 0
  carry : Nat := 0
  last : Nat := 0
  depthMax : Nat := 0
  delayMax : Nat := 0
  overAt : Option Nat := none
  shaperPending : Bool := false
  rate : Nat := 25000000
  burst : Nat := 16384
  enabled : Bool := false
  deriving DecidableEq, Repr

/-- A gate list (R412): base, cycle, entries of gate mask and interval, and the bytes they were read from. -/
structure GateList where
  base : Int := 0
  cycle : Nat := 1000000
  entries : List (Nat × Nat) := []
  bytes : List Byte := []
  deriving DecidableEq, Repr

/-- A port's operational list, a change of list with its time and GATE_ENABLE, the entry in force and its gates. -/
structure PortGates where
  oper : Option GateList := none
  next : Option (Int × Bool × GateList) := none
  entry : Nat := 0
  gates : Nat := 0xFF
  deriving DecidableEq, Repr

/-- The two banks by node, a node not listed being that of the factory set, and where a check (its tick) or a change (the
old generation and its tick) stands (R392, R393). -/
structure Rules where
  bank : SMap (List Byte) := []
  shadow : SMap (List Byte) := []
  retaining : Option (Nat × Nat) := none
  checking : Option Nat := none
  deriving DecidableEq, Repr

/-- Ports, classifier and queues. `announce` lists the ticks of address announcements still to be repeated, `announced`
counts those sent, `toSend` the frames the management cores have formed and not yet put into their egress queue, each with its
port, oldest first (R382, R396), `routers` the IPv6 router last advertised in each address set and `neighbours` the MAC addresses that
neighbours have told, under set and address (Table 13.2), `unreachables` counts the destination unreachable messages received (R378), `netWait` lists the
ports whose frame boundary NET_APPLY waits for, `heldMissed` says that the host has missed the deadline of a held frame since the
latest mode boundary (R398), `samplePeriod` and `sampleDue` are the sampling period in force and the instant a new one takes
effect (R419), `txqDue` lists the ports whose queue limits wait for a frame boundary, `exvanIn` and `ptpIn` are the
frames handed to the Exvan and PTP engines, newest first. -/
structure Network where
  ports : Pair Port := ⟨{}, {}⟩
  announce : List Nat := []
  announced : Nat := 0
  netWait : List Nat := []
  recirc : List RxFrame := []
  classes : SMap (List RxFrame) := []
  slow : List (Nat × Nat × RxFrame) := []
  toSend : List (Nat × List Byte) := []
  routers : SMap (List Byte) := []
  neighbours : List (Nat × List Byte × List Byte) := []
  unreachables : Nat := 0
  slowBuckets : SMap Bucket := []
  slowEvent : Option Nat := none
  policers : SMap Bucket := []
  policerEvent : SMap Nat := []
  held : List HeldFrame := []
  heldSeq : Nat := 0
  heldFull : Bool := false
  heldMissed : Bool := false
  rules : Rules := {}
  queues : SMap Queue := []
  txqDue : List Nat := []
  gates : SMap PortGates := []
  sampleAt : Int := 0
  samplePeriod : Nat := 1000
  sampleDue : Option Int := none
  exvanIn : List RxFrame := []
  ptpIn : List RxFrame := []
  deriving DecidableEq, Repr

/-! ### Internal fabric (spec/17_internal.md) -/

/-- The transactions of one initiator (R491, R492): those that have entered the core, oldest first, and those held back. -/
structure MatPort where
  out : List MatReq := []
  held : List MatReq := []
  deriving DecidableEq, Repr

/-- The weighted round robin of one target (R488): the initiator it stands at, the grants left to that initiator in this round,
and the weights of the round, none before the first. -/
structure MatArb where
  pos : Nat := 0
  left : Nat := 0
  weights : List Nat := []
  deriving DecidableEq, Repr

/-- The bus matrix and the memories. `errors` lists the refused transactions that were answered ERROR, newest first, with the zeros a refused
read returns (R485, R493); `grantAt` the tick of a target's latest grant; `scrubAt` the tick at which the present scrub pass began and
`scrubPeriod` its length in seconds (R500); `mailBad` and `transferBad` an uncorrectable error in a lobe mailbox or a snapshot transfer
buffer (R502); `speeds` the capacities of the latest scans of a Spindle or of Gouge, newest first (R503). `fixed` lists the targets under the fixed-order arbiter, `parked` the initiator each
target last parked on, `lock` the
holder of T2 and the tick it took it, `ports` the transactions at each initiator's port and `arbs` the arbitration of each
target, `refusedAt` the tick of an initiator's latest DECODE_ERROR; `badWords` are the start and length of HBM words with an uncorrectable error,
`ce` the corrected errors of a stack since its latest HBM_CE and the tick of that, `slotErr` slots in use whose error waits for their commit, `eventBad` the SEQ of unreadable records of the event log. -/
structure Matrix where
  fixed : List Nat := []
  parked : SMap Nat := []
  badWords : List (Nat × Nat) := []
  slotErr : List Nat := []
  eventBad : List Nat := []
  ports : SMap MatPort := []
  arbs : SMap MatArb := []
  refusedAt : SMap Nat := []
  lock : Option (Nat × Nat) := none
  hbmState : SMap Nat := []
  speedLow : List Nat := []
  speeds : SMap (List Nat) := []
  errors : List (Nat × MatReq × List Byte) := []
  grantAt : SMap Nat := []
  scrubAt : Nat := 0
  scrubPeriod : Nat := 86400
  mailBad : Bool := false
  transferBad : Bool := false
  ce : SMap (Nat × Option Nat) := []
  deriving DecidableEq, Repr

/-! ### The whole block -/

/-- The state of the block. `pending` is the queue of commands that wait, first in, first out. -/
structure State where
  pending : List Instr := []
  tick : Nat := 0
  objs : SMap (SMap Int) := []
  octs : SMap (SMap (List Byte)) := []
  staged : SMap (SMap Int) := []
  stagedOcts : SMap (SMap (List Byte)) := []
  hbm : List Host.Cell := []
  dev : Device := {}
  ex : Exvan := {}
  funcs : SMap Func := []
  lobes : Lobes := {}
  time : Time := {}
  sorus : Sorus := {}
  drv : Drive := {}
  steady : Steady := {}
  therm : Thermal := {}
  loops : Loops := {}
  mon : Monitor := {}
  cal : Cal := {}
  fab : Fabric := {}
  lib : Library := {}
  com : Commits := {}
  net : Network := {}
  mat : Matrix := {}
  deriving DecidableEq, Repr

/-- The block right after reset, while RESET_N is still low (R508, R515): device state OFF, nothing listed, no command
waiting. RESET_RELEASE starts it. -/
def State.reset : State := {}

end Sys2Proof.Machine
end

