-- ==== Sys2Proof/Machine/Wire.lean ====
section
/-!
DEFINITION. Frames as bytes: Ethernet, IP and UDP headers and their checksums (Table 13.2), the Exvan frame (Table 16.1), and the
delimiting of frames on the maintenance UART (R453). What the RFCs leave to the sender is a choice (log entry 193).
-/

namespace Sys2Proof.Machine

open Sys2Proof

/-! ### Reading a frame -/

/-- Bytes of 802.1Q tags at the front of a frame's type field (TPID 0x8100 or 0x88A8), counted in tags. -/
def tagCount : List Byte → Nat
  | a :: b :: _ :: _ :: t =>
    let e := 256 * a.toNat + b.toNat
    if e = 0x8100 ∨ e = 0x88A8 then 1 + tagCount t else 0
  | _ => 0

/-- A frame as the parser sees it: whether one C-tag is present, and what follows it. -/
structure Headers where
  tagged : Bool
  tci : Nat
  etype : Nat
  body : List Byte
  deriving DecidableEq, Repr

def headers (f : List Byte) : Headers :=
  if be f 12 2 = 0x8100 then { tagged := true, tci := be f 14 2, etype := be f 16 2, body := f.drop 18 }
  else { tagged := false, tci := 0, etype := be f 12 2, body := f.drop 14 }

def Headers.vid (h : Headers) : Nat := h.tci % 4096

/-- Whether an address of 16 bytes is an IPv4 address mapped into IPv6. -/
def mappedV4 (a : List Byte) : Bool := a.take 12 == List.replicate 10 0 ++ List.replicate 2 255

def mapV4 (a : List Byte) : List Byte := List.replicate 10 0 ++ List.replicate 2 255 ++ a

def allZero (a : List Byte) : Bool := a.all (· == 0)

/-- The link-local address formed from a MAC address by modified EUI-64 (Table 13.2). -/
def linkLocal (mac : List Byte) : List Byte :=
  [254, 128, 0, 0, 0, 0, 0, 0] ++ ((mac.take 1).map fun b => b ^^^ 2) ++ slice mac 1 2 ++ [255, 254] ++ slice mac 3 3

/-- The multicast MAC address of an IP group (RFC 1112, RFC 2464). -/
def groupMac (g : List Byte) : List Byte :=
  if mappedV4 g then [1, 0, 0x5E] ++ ((slice g 13 1).map fun b => b &&& 0x7F) ++ slice g 14 2
  else [0x33, 0x33] ++ slice g 12 4

def broadcastMac : List Byte := List.replicate 6 255

def ihl (b : List Byte) : Nat := be b 0 1 % 16

/-- The UDP datagram of a packet: its header and payload as the IP length bounds them. -/
def udpPart (h : Headers) : List Byte :=
  if h.etype = 0x0800 then (h.body.take (be h.body 2 2)).drop (4 * ihl h.body)
  else (h.body.drop 40).take (be h.body 4 2)

/-- Whether a packet carries a UDP header in this frame. -/
def isUdp (h : Headers) : Bool :=
  if h.etype = 0x0800 then be h.body 9 1 == 17 && be h.body 6 2 % 8192 == 0
  else h.etype == 0x86DD && be h.body 6 1 == 17

/-- Source and destination address of a frame as 16 bytes each, or nothing. -/
def addresses (h : Headers) : List Byte × List Byte :=
  let b := h.body
  if h.etype = 0x0800 then (mapV4 (slice b 12 4), mapV4 (slice b 16 4))
  else if h.etype = 0x86DD then (slice b 8 16, slice b 24 16)
  else if h.etype = 0x0806 then (mapV4 (slice b 14 4), mapV4 (slice b 24 4))
  else ([], [])

/-! ### Checksums -/

/-- One's complement sum of a list of bytes, in 16-bit words. -/
def sum16 : List Byte → Nat
  | [] => 0
  | [a] => 256 * a.toNat
  | a :: b :: t => 256 * a.toNat + b.toNat + sum16 t

/-! ### Forming a frame -/

/-- The checksum field that completes a one's complement sum. -/
def checksum16 (n : Nat) : Nat := 65535 - (if n = 0 then 0 else (n - 1) % 65535 + 1)

/-- A checksum put at an even offset of bytes that hold zero there; `rest` is the sum of a pseudo-header. -/
def withChecksum (off rest : Nat) (b : List Byte) : List Byte :=
  b.take off ++ beBytes 2 (checksum16 (rest + sum16 b)) ++ b.drop (off + 2)

/-- A frame without its FCS, padded with zeros to the least length. -/
def etherFrame (dst src : List Byte) (etype : Nat) (body : List Byte) : List Byte :=
  let f := dst ++ src ++ beBytes 2 etype ++ body
  f ++ List.replicate (60 - f.length) 0

/-- An IPv4 packet with a header of 20 bytes, or more with options. -/
def ipv4Packet (proto ttl : Nat) (src dst options payload : List Byte) : List Byte :=
  let words := 5 + options.length / 4
  withChecksum 10 0 ([BitVec.ofNat 8 (64 + words), 0] ++ beBytes 2 (4 * words + payload.length) ++ [0, 0, 0, 0] ++
    beBytes 1 ttl ++ beBytes 1 proto ++ [0, 0] ++ src ++ dst ++ options) ++ payload

/-- An IPv6 packet with its fixed header. -/
def ipv6Packet (next hops : Nat) (src dst payload : List Byte) : List Byte :=
  [0x60, 0, 0, 0] ++ beBytes 2 payload.length ++ beBytes 1 next ++ beBytes 1 hops ++ src ++ dst ++ payload

/-- The sum of the IPv6 pseudo-header of an ICMPv6 message. -/
def pseudo6 (src dst msg : List Byte) : Nat := sum16 (src ++ dst) + msg.length + 58

/-- An ICMPv6 packet. -/
def icmp6Packet (hops : Nat) (src dst msg : List Byte) : List Byte :=
  ipv6Packet 58 hops src dst (withChecksum 2 (pseudo6 src dst msg) msg)

/-- An IPv4 address of 16 bytes as its 4. -/
def v4Of (a : List Byte) : List Byte := a.drop 12

/-- A UDP datagram with its checksum, which is always sent (Table 13.2). -/
def udpDatagram (src dst : List Byte) (sp dp : Nat) (p : List Byte) : List Byte :=
  let ports := beBytes 2 sp ++ beBytes 2 dp
  let len := beBytes 2 (8 + p.length)
  let sum := checksum16 (sum16 (src ++ dst) + 17 + (8 + p.length) + sum16 (ports ++ len ++ [0, 0] ++ p))
  ports ++ len ++ beBytes 2 (if sum = 0 then 0xFFFF else sum) ++ p

/-- A UDP datagram in its packet and frame; the addresses are of 16 bytes. -/
def udpFrame (dstMac srcMac own ip : List Byte) (sp dp : Nat) (p : List Byte) : List Byte :=
  if mappedV4 ip then etherFrame dstMac srcMac 0x0800 (ipv4Packet 17 64 (v4Of own) (v4Of ip) [] (udpDatagram (v4Of own) (v4Of ip) sp dp p))
  else etherFrame dstMac srcMac 0x86DD (ipv6Packet 17 64 own ip (udpDatagram own ip sp dp p))

/-! ### The Exvan frame -/

/-- ASCII bytes. -/
def ascii (t : String) : List Byte := t.toList.map fun c => BitVec.ofNat 8 c.toNat

/-- A frame of Table 16.1 under a key: header, body and tag. -/
def frameBytes (key : List Byte) (op session flags keyGen seq req source dest : Nat) (body : List Byte) : List Byte :=
  let m := beBytes 2 0x4558 ++ [1] ++ beBytes 1 op ++ beBytes 2 session ++ beBytes 1 flags ++ beBytes 1 (keyGen % 256) ++
    beBytes 4 seq ++ beBytes 4 req ++ beBytes 2 source ++ beBytes 2 dest ++ beBytes 2 body.length ++ [0, 0] ++ body
  m ++ beBytes 16 (Config.aesCmac key m).toNat

/-- The OP and the body of an answer (Table 16.2), zeros padding it to a multiple of 4 bytes. -/
def replyBody : Reply → Nat × List Byte
  | .ack b => (0x40, b ++ List.replicate ((4 - b.length % 4) % 4) 0)
  | .nak n entry detail => (0x41, beBytes 1 n.code ++ beBytes 1 entry ++ [0, 0] ++ beBytes 4 detail)

/-! ### The UART (R453) -/

/-- One byte as RFC 1055 sends it: END and ESC are escaped. -/
def slipByte (b : Byte) : List Byte := if b = 0xC0 then [0xDB, 0xDC] else if b = 0xDB then [0xDB, 0xDD] else [b]

/-- A frame as RFC 1055 delimits it: an END before and after. -/
def slip (p : List Byte) : List Byte := [0xC0] ++ (p.map slipByte).flatten ++ [0xC0]

/-- The frames in bytes received (RFC 1055): `esc` says that an ESC came before, `got` holds the frame so far, last byte first. A frame
without bytes is none, and one whose END has not come is not complete. -/
def unslip : Bool → List Byte → List Byte → List (List Byte)
  | _, _, [] => []
  | esc, got, b :: t =>
    if b = 0xC0 then (if got.isEmpty then unslip false [] t else got.reverse :: unslip false [] t)
    else if esc then unslip false ((if b = 0xDC then 0xC0 else if b = 0xDD then 0xDB else b) :: got) t
    else if b = 0xDB then unslip true got t
    else unslip false (b :: got) t

end Sys2Proof.Machine
end

