-- ==== Sys2Proof/Machine/Ops.lean ====
section
/-!
DEFINITION. The named operations every meaning is written over: object values, time, events and rings, sessions and
answers, the write checks of Table 16.7, HBM, device state, FAULT_N and function modes.
-/

namespace Sys2Proof.Machine

open Sys2Proof

/-! ### How a command ends -/

/-- The state a command leaves: its effect on everything but the queue, the event log holding the newest 4,096 records
(R476). -/
def sealed (s s' : State) : State :=
  { s' with pending := s.pending, ex := { s'.ex with log := s'.ex.log.take 4096 } }

/-- A command's outcome: every command of the table completes. -/
def finish (s s' : State) : Host.Outcome State Fault Refusal := .next (sealed s s')

/-! ### Object values -/

/-- A numeric object's value (newest accepted for class L, in effect for class S, R473). -/
def State.obj (s : State) (addr sel : Nat) : Int := (mfind2 s.objs addr sel).getD (objDefault addr sel)

/-- The same as a natural number. -/
def State.objN (s : State) (addr sel : Nat) : Nat := (s.obj addr sel).toNat

def State.setObj (s : State) (addr sel : Nat) (v : Int) : State := { s with objs := mset2 s.objs addr sel v }

def State.setObjN (s : State) (addr sel v : Nat) : State := s.setObj addr sel (v : Int)

/-- An OCTETS object's bytes. -/
def State.oct (s : State) (addr sel : Nat) : List Byte := (mfind2 s.octs addr sel).getD (octDefault addr sel)

def State.setOct (s : State) (addr sel : Nat) (b : List Byte) : State := { s with octs := mset2 s.octs addr sel b }

/-- A counter that saturates at 0xFFFF_FFFF. -/
def State.incSat (s : State) (addr sel : Nat) (n : Nat := 1) : State :=
  s.setObjN addr sel (min u32Max (s.objN addr sel + n))

/-- A U32 counter that wraps to 0. -/
def State.incWrap (s : State) (addr sel : Nat) : State := s.setObjN addr sel ((s.objN addr sel + 1) % (u32Max + 1))

/-- A U64 counter that wraps to 0. -/
def State.inc64 (s : State) (addr sel : Nat) (n : Nat := 1) : State :=
  s.setObjN addr sel ((s.objN addr sel + n) % (u64Max + 1))

/-- A generation: 1 to 0xFFFF_FFFF, wrapping to 1, never 0 (R65, R279, R392). -/
def nextGen (g : Nat) : Nat := if g ≥ u32Max then 1 else g + 1

/-- A staged class S value, if one is staged (R472). -/
def State.stagedVal (s : State) (addr sel : Nat) : Option Int := mfind2 s.staged addr sel

def State.judgedOct (s : State) (addr sel : Nat) : List Byte := (mfind2 s.stagedOcts addr sel).getD (s.oct addr sel)

def State.stage (s : State) (addr sel : Nat) (v : Int) : State := { s with staged := mset2 s.staged addr sel v }

def State.stageOct (s : State) (addr sel : Nat) (b : List Byte) : State :=
  { s with stagedOcts := mset2 s.stagedOcts addr sel b }

/-- Drop the staged value of one object and selector. -/
def State.unstage (s : State) (addr sel : Nat) : State :=
  { s with staged := mdel2 s.staged addr sel, stagedOcts := mdel2 s.stagedOcts addr sel }

/-- The staged values of one object. -/
def State.stagedOf (s : State) (addr : Nat) : SMap Int := mget [] s.staged addr

def State.stagedOctsOf (s : State) (addr : Nat) : SMap (List Byte) := mget [] s.stagedOcts addr

/-- Take every staged value of one object into effect (R472). -/
def State.applyStaged (s : State) (addr : Nat) : State :=
  let s := (s.stagedOf addr).foldl (fun s e => s.setObj addr e.1 e.2) s
  let s := (s.stagedOctsOf addr).foldl (fun s e => s.setOct addr e.1 e.2) s
  { s with staged := mdel s.staged addr, stagedOcts := mdel s.stagedOcts addr }

/-- Take the staged values of one selector of an object. -/
def State.applyStagedAt (s : State) (addr sel : Nat) : State :=
  let s := match s.stagedVal addr sel with | some v => s.setObj addr sel v | none => s
  let s := match mfind2 s.stagedOcts addr sel with | some b => s.setOct addr sel b | none => s
  s.unstage addr sel

/-! ### One value for each lobe -/

def Pair.at {α : Type} (p : Pair α) (l : Nat) : α := if l = 0 then p.a else p.b

def Pair.put {α : Type} (p : Pair α) (l : Nat) (v : α) : Pair α := if l = 0 then { p with a := v } else { p with b := v }

def State.lobe (s : State) (l : Nat) : Lobe := s.lobes.each.at l

def State.setLobe (s : State) (l : Nat) (v : Lobe) : State :=
  { s with lobes := { s.lobes with each := s.lobes.each.put l v } }

/-- The ACTIVE lobe, if one is (R310). -/
def State.active (s : State) : Option Nat :=
  if s.lobes.each.a.role = .active then some 0 else if s.lobes.each.b.role = .active then some 1 else none

/-- The STANDBY lobe, if one is. -/
def State.standby (s : State) : Option Nat :=
  if s.lobes.each.a.role = .standby then some 0 else if s.lobes.each.b.role = .standby then some 1 else none

/-! ### Time -/

/-- Whether `ns` nanoseconds have passed since a tick (one tick is 6.4 ns, R15). -/
def State.elapsed (s : State) (since ns : Nat) : Bool := decide (5 * ns ≤ 32 * (s.tick - since))

/-- Whole milliseconds since a tick. -/
def State.msSince (s : State) (since : Nat) : Nat := (s.tick - since) / 156250

/-- SCAN_COUNT: scan n starts at the tick 256 * n (R228). -/
def State.scan (s : State) : Nat := s.tick / 256

/-- The number of scans of an OUTER_PERIOD or VOA_PERIOD code. -/
def periodScans (code : Nat) : Nat := 16 * 2 ^ (min code 3)

/-- Whether a loop parameter written in scan w is in force (R165): from the next scan; OUTER_PERIOD from the next outer period
and VOA parameters from the next VOA period, the periods counted with the code then in force. The scan at whose boundary
an outer or VOA period ends still closes it with the old period. -/
def State.lawTaken (s : State) (addr w outer voa : Nat) : Bool :=
  if addr = Obj.OUTER_PERIOD then decide (w / periodScans outer < (s.scan - 1) / periodScans outer)
  else if addr = Obj.VOA_PERIOD then decide (w / periodScans voa < (s.scan - 1) / periodScans voa)
  else if addr / 256 = Obj.VOA_PERIOD / 256 then decide (w / periodScans voa < s.scan / periodScans voa)
  else decide (w < s.scan)

/-- The period codes in force. -/
def State.periodCode (s : State) (addr : Nat) : Nat :=
  match mfind2 s.loops.held addr 0 with
  | some (old, w) => if s.lawTaken addr w old.toNat old.toNat then s.objN addr 0 else old.toNat
  | none => s.objN addr 0

/-- A loop parameter of Table 5.7 as the loops use it: the newest value once it has taken effect (R165). -/
def State.law (s : State) (addr sel : Nat) : Int :=
  match mfind2 s.loops.held addr sel with
  | some (old, w) =>
    if s.lawTaken addr w (s.periodCode Obj.OUTER_PERIOD) (s.periodCode Obj.VOA_PERIOD) then s.obj addr sel else old
  | none => s.obj addr sel

/-- The value a check of orders uses: the staged value where one is staged, otherwise the value in force (R471). -/
def State.judged (s : State) (addr sel : Nat) : Int := (s.stagedVal addr sel).getD (s.law addr sel)

def State.lawN (s : State) (addr sel : Nat) : Nat := (s.law addr sel).toNat

/-- Whether an object is a loop parameter of Table 5.7. -/
def isLaw (addr : Nat) : Bool := decide (0x2300 ≤ addr / 256 ∧ addr / 256 ≤ 0x2303)

/-- A write of a loop parameter: the value in force is kept until the new one takes effect. A write that comes while an earlier
one still waits waits with it. -/
def State.setLaw (s : State) (addr sel : Nat) (v : Int) : State :=
  let now := s.law addr sel
  let w := match mfind2 s.loops.held addr sel with
    | some (_, w) => if now = s.obj addr sel then s.scan else w
    | none => s.scan
  { s with loops := { s.loops with held := mset2 s.loops.held addr sel (now, w) } }.setObj addr sel v


/-- The counter in use (R427): the ACTIVE lobe's, else that of the lobe most recently ACTIVE, else the other's. -/
def State.counterLobe (s : State) : Nat :=
  match s.active with
  | some l => l
  | none => if (s.time.ctr.at s.lobes.lastActive).fault then 1 - s.lobes.lastActive else s.lobes.lastActive

/-- The network time in whole nanoseconds (R427). -/
def State.now (s : State) : Int := (s.time.ctr.at s.counterLobe).ns

/-- Seconds and nanoseconds of a TIME96, least significant byte first. -/
def time96Le (t : Int) : List Byte :=
  let n := t.toNat
  leBytes 8 (n / 1000000000) ++ leBytes 4 (n % 1000000000)

/-- The same in network order (R454). -/
def time96Be (t : Int) : List Byte :=
  let n := t.toNat
  beBytes 8 (n / 1000000000) ++ beBytes 4 (n % 1000000000)

/-! ### Free values -/

/-- The next fresh free value of an open choice of the spec (random draws, undefined contents). -/
def State.fresh (s : State) : Nat × State :=
  (Config.freeNat s.ex.freeCount, { s with ex := { s.ex with freeCount := s.ex.freeCount + 1 } })

/-! ### Events and rings -/

def le4 (v : Int) : List Byte := leBytes 4 (toUnsigned 32 v)

/-- The bytes of an event's data items, least significant first (R475). -/
def itemLe : EvItem → List Byte
  | .word v => le4 v
  | .long v => leBytes 8 v
  | .time t => time96Le t
  | .octets b => b ++ List.replicate ((4 - b.length % 4) % 4) 0

/-- The same in network order. -/
def itemBe : EvItem → List Byte
  | .word v => beBytes 4 (toUnsigned 32 v)
  | .long v => beBytes 8 v
  | .time t => time96Be t
  | .octets b => b ++ List.replicate ((4 - b.length % 4) % 4) 0

def padTo (n : Nat) (b : List Byte) : List Byte := (b ++ List.replicate (n - b.length) 0).take n

def evFlags (e : EvRec) : Nat := boolNat e.deferred + 2 * boolNat e.holdover

/-- An event record as memory holds it (Table 16.9). -/
def eventLe (e : EvRec) : List Byte :=
  let d := (e.data.map itemLe).flatten
  leBytes 4 e.seq ++ leBytes 2 e.code ++ leBytes 1 e.lobe ++ leBytes 1 (evFlags e) ++ time96Le e.time ++
    leBytes 1 d.length ++ leBytes 3 0 ++ padTo 28 d

/-- An event record as a frame carries it (Table 16.9). -/
def eventBe (e : EvRec) : List Byte :=
  let d := (e.data.map itemBe).flatten
  beBytes 4 e.seq ++ beBytes 2 e.code ++ beBytes 1 e.lobe ++ beBytes 1 (evFlags e) ++ time96Be e.time ++
    beBytes 1 d.length ++ beBytes 3 0 ++ padTo 28 d

def State.ring (s : State) (r : Nat) : Ring := mget {} s.sorus.rings r

def State.setRing (s : State) (r : Nat) (v : Ring) : State :=
  { s with sorus := { s.sorus with rings := mset s.sorus.rings r v } }

/-- Bytes a ring holds between its two offsets (R368). -/
def ringUsed (g : Ring) : Nat := if g.length = 0 then 0 else (g.wp + g.length - g.rp) % g.length

/-- Drop whole records from the host's side until `need` bytes fit (R368, OVERWRITE). -/
def ringMakeRoom (cap need : Nat) : List (Nat × List Byte) → Nat → List (Nat × List Byte) × Nat
  | [], used => ([], used)
  | (o, b) :: t, used => if used + need ≤ cap then ((o, b) :: t, used) else ringMakeRoom cap need t (used - b.length)

/-- The header of Table 12.7 and a body. -/
def ringRecord (kind flags seq : Nat) (time : Int) (scan : Nat) (body : List Byte) : List Byte :=
  leBytes 1 kind ++ leBytes 1 flags ++ leBytes 2 (24 + body.length) ++ leBytes 4 seq ++ time96Le time ++
    leBytes 4 (scan % (u32Max + 1)) ++ body

/-- FLAGS of a record written now: HOLDOVER, and FAILOVER while no lobe is ACTIVE (Table 12.7). -/
def State.ringFlags (s : State) : Nat := boolNat (decide (s.time.servo = .holdover)) + 2 * boolNat s.active.isNone

/-- Append one record that is known to fit. -/
def ringAppend (g : Ring) (b : List Byte) : Ring :=
  { g with recs := g.recs ++ [(g.wp, b)], wp := (g.wp + b.length) % g.length, seq := (g.seq + 1) % (u32Max + 1) }

/-- Write one record to a ring under its policy (R366 to R368). The second part says whether RING_OVERFLOW is due. -/
def ringPut (s : State) (r kind flags : Nat) (time : Int) (body : List Byte) : State × Bool :=
  let g := s.ring r
  if !g.enable || g.length == 0 || g.resetDue.isSome then (s, false) else
  let cap := g.length - 8
  let gapNeed := if g.gap > 0 then 32 else 0
  let need := 24 + body.length + gapNeed
  let fits := ringUsed g + need ≤ cap
  if fits then
    let g := if g.gap > 0 then
        { ringAppend g (ringRecord 5 flags g.seq time s.scan (leBytes 4 g.gap ++ leBytes 4 g.gapFirst)) with gap := 0 }
      else g
    (s.setRing r { ringAppend g (ringRecord kind flags g.seq time s.scan body) with overflow := false }, false)
  else if !g.overwrite then
    let s := s.incSat Obj.RING_DROPPED r
    (s.setRing r { g with gap := g.gap + 1, gapFirst := if g.gap = 0 then g.seq else g.gapFirst, overflow := true,
                          seq := (g.seq + 1) % (u32Max + 1) },
      !g.overflow)
  else
    let (recs, used) := ringMakeRoom cap need g.recs (ringUsed g)
    let g' := { g with recs := recs, rp := (g.wp + g.length - used) % g.length, overflow := true }
    let g' := if g'.gap > 0 then
        { ringAppend g' (ringRecord 5 flags g'.seq time s.scan (leBytes 4 g'.gap ++ leBytes 4 g'.gapFirst)) with gap := 0 }
      else g'
    (s.setRing r (ringAppend g' (ringRecord kind flags g'.seq time s.scan body)), !g.overflow)

/-- Note something in every capture buffer that evaluates its condition word (R347). -/
def State.capNote (s : State) (f : Nat → CapAcc → CapAcc) : State :=
  { s with sorus := { s.sorus with bufs := mmap (fun b x => { x with acc := f b x.acc }) s.sorus.bufs } }

/-- Whether a filter matches an event code (R477). -/
def Filter.hits (f : Filter) (code : Nat) : Bool := f.enable && (code &&& f.mask == f.code &&& f.mask)

/-- Deliver one record to a session's queue (R477). The second part says whether SUB_OVERFLOW is due. -/
def Session.deliver (x : Session) (e : EvRec) : Session × Bool :=
  if x.filters.any fun f => f.2.hits e.code then
    if x.queue.length < 256 then ({ x with queue := x.queue ++ [e] }, false)
    else ({ x with dropped := min u32Max (x.dropped + 1), overflowed := true }, !x.overflowed)
  else (x, false)

/-- The record of an event raised now (R475). -/
def State.eventRec (s : State) (code lobe : Nat) (deferred : Bool) (time : Int) (data : List EvItem) : EvRec :=
  { seq := if s.ex.logSeq ≥ u32Max then 1 else s.ex.logSeq + 1
    code, lobe, deferred, holdover := decide (s.time.servo = .holdover), time, data }

/-- A record enters the log, the sessions that subscribe to it and the capture buffers (R347, R476, R477). -/
def noteEvent (s : State) (e : EvRec) : State :=
  let s := { s with ex := { s.ex with logSeq := e.seq, log := (e :: s.ex.log).take 4096,
                                      sessions := mmap (fun _ x => (x.deliver e).1) s.ex.sessions } }
  s.capNote fun _ a => { a with events := e.code :: a.events }

/-- A record enters one ring that takes events (R366); RING_OVERFLOW joins the events still to be raised. -/
def ringEvent (e : EvRec) (p : State × List (Nat × List EvItem)) (r : Nat) : State × List (Nat × List EvItem) :=
  if (p.1.ring r).events then
    let q := ringPut p.1 r 2 (boolNat e.holdover + 2 * boolNat (e.deferred || p.1.active.isNone)) e.time (eventLe e)
    (q.1, if q.2 then p.2 ++ [(0x7005, [EvItem.word r, .word (q.1.obj Obj.RING_DROPPED r)])] else p.2)
  else p

/-- Enter one event into the log and hand it to sessions, rings and capture buffers. The second part lists the follow-up
events (code and data) this caused. -/
def logEvent (s : State) (code lobe : Nat) (deferred : Bool) (time : Int) (data : List EvItem) :
    State × List (Nat × List EvItem) :=
  let e := s.eventRec code lobe deferred time data
  let dueSub := (s.ex.sessions.filter fun p => (p.2.deliver e).2).map fun p =>
    (0x9005, [EvItem.word p.2.num, .word (min u32Max (p.2.dropped + 1))])
  (List.range 16).foldl (ringEvent e) (noteEvent s e, dueSub)

/-- Enter the events that an event has caused, and those that they cause in turn. Each session and each ring overflows once at most. -/
def logFollow (time : Int) : Nat → List (Nat × List EvItem) → State → State
  | n + 1, m :: t, s => let p := logEvent s m.1 0xFF false time m.2; logFollow time n (t ++ p.2) p.1
  | _, _, s => s

/-- Enter an event and the events it causes. -/
def logAll (s : State) (code lobe : Nat) (deferred : Bool) (time : Int) (data : List EvItem) : State :=
  let p := logEvent s code lobe deferred time data
  logFollow time 64 p.2 p.1

/-- Raise an event (R476). With no lobe ACTIVE it is kept for the first lobe to become ACTIVE (R222, R495, R536). -/
def raise (s : State) (code lobe : Nat) (data : List EvItem) : State :=
  match s.active with
  | some _ => logAll s code lobe false s.now data
  | none => { s with ex := { s.ex with deferred := s.ex.deferred ++ [{ code, lobe, time := s.now, data }] } }

/-- The lobe number an event of the ACTIVE lobe carries. -/
def State.evLobe (s : State) : Nat := s.active.getD 0xFF

/-- Raise an event of the ACTIVE lobe. -/
def raiseA (s : State) (code : Nat) (data : List EvItem) : State := raise s code s.evLobe data

/-- Raise an event of a shared block. -/
def raiseS (s : State) (code : Nat) (data : List EvItem) : State := raise s code 0xFF data

/-- Raise, with DEFERRED set, what arose while no lobe was ACTIVE (R536). -/
def flushDeferred (s : State) : State :=
  let d := s.ex.deferred
  d.foldl (fun s e => logAll s e.code e.lobe true e.time e.data) { s with ex := { s.ex with deferred := [] } }

/-! ### FAULT_N and the device state -/

/-- Assert FAULT_N for a cause. -/
def State.fault (s : State) (c : FaultCause) : State :=
  if c ∈ s.dev.faults then s else { s with dev := { s.dev with faults := s.dev.faults ++ [c] } }

/-- Release one cause of FAULT_N; the pin is released when none is left. -/
def State.unfault (s : State) (c : FaultCause) : State :=
  { s with dev := { s.dev with faults := s.dev.faults.filter (· ≠ c) } }

/-- Whether VIO is present. A reading of 0 mV is the absence of a rail (log entry 25). -/
def State.vio (s : State) : Bool := !(s.obj Obj.RAIL_STATE 3 == 1 && s.obj Obj.RAIL_VOLTAGE 3 == 0)

/-- Whether FAULT_N is asserted (low): some cause holds it, and VIO is present (R552). -/
def State.faultN (s : State) : Bool := !s.dev.faults.isEmpty && s.vio

/-- Change the device state (R515): DEVICE_STATE, STATE_SINCE and DEVICE_STATE_CHANGED. -/
def State.enter (s : State) (d : DevState) : State :=
  let old := s.dev.state
  let s := { s with dev := { s.dev with state := d, since := s.now } }
  raiseA s 0x1003 [.word old.code, .word d.code]

/-! ### Sessions and answers -/

/-- The session table entry with a SESSION number (R458). -/
def State.session (s : State) (num : Nat) : Option (Nat × Session) :=
  s.ex.sessions.find? fun p => p.2.num == num

def State.setSession (s : State) (i : Nat) (x : Session) : State :=
  { s with ex := { s.ex with sessions := mset s.ex.sessions i x } }

/-- A session's level; group frames act at Operate level (R461). -/
def State.levelOf (s : State) (sess : Nat) : Option Nat :=
  if sess ≥ 0x10000 then some 1 else (s.session sess).map fun p => p.2.level

/-! ### Sending (R402, R452 to R454) -/

/-- The addressing selector of a port (R380). -/
def State.setOf (s : State) (x : Nat) : Nat := if s.obj Obj.PORT_MODE 0 = 1 then x else 0

/-- The port that sends a frame of an address set (R402): the PRIMARY port, or the set's own in INDEPENDENT mode. -/
def State.txPort (s : State) (x : Nat) : Nat :=
  if s.obj Obj.PORT_MODE 0 = 1 then x
  else match (List.range 2).find? fun p => (s.net.ports.at p).up && (s.net.ports.at p).role == 0 with
    | some p => p
    | none => x

/-- The MAC address that frames of a set are sent from. -/
def State.txMac (s : State) (a : Nat) : List Byte := s.oct Obj.MAC_ADDR (s.txPort a)

/-- The loader's recovery mode (R513): neither lobe has firmware. -/
def State.recovery (s : State) : Bool :=
  s.dev.state == .boot && s.dev.faults.contains .recovery

/-- Whether Exvan is served: from step 2 of SELFTEST on, or in recovery mode (R513, R514). -/
def State.exvanServed (s : State) : Bool :=
  s.recovery || !(s.dev.state == .off || s.dev.state == .boot || (s.dev.state == .selftest && decide (s.dev.selfStep < 1)))

/-- A customer key of 16 bytes: as last stored, else the one the module left the factory with (R463). -/
def State.customerKey (s : State) (k : Nat) : List Byte :=
  fitLength 16 16 ((mfind (if s.recovery then s.dev.flash.keys else s.ex.keys) k).getD (Config.factoryOctets Obj.KEY_NEW k))

/-- Send an Exvan frame to where its receiver is: on the UART, or as a UDP datagram from port 0xBA7E that waits for its egress queue. Where
no frame has told where the receiver is, none is formed (log entry 201). -/
def sendTo (s : State) (source : Nat) (o : Option Origin) (p : List Byte) : State :=
  match o with
  | none => s
  | some o =>
    if o.uart then { s with ex := { s.ex with uart := s.ex.uart ++ slip p } }
    else
      let a := s.setOf o.port
      { s with ex := { s.ex with wire := s.ex.wire ++
          [(source, s.txPort a, udpFrame o.mac (s.txMac a) o.own o.ip 0xBA7E o.udpPort p)] } }

/-- Where the sender of a request is: as that request's frame came, else as the latest frame of its session or group source did. -/
def State.peerOf (s : State) (sess req : Nat) : Option Origin :=
  match s.session sess with
  | some (_, x) => (mfind x.origins req).orElse fun _ => x.origin
  | none => (s.ex.groupWins.find? fun w => 0x10000 + w.source == sess).bind fun w => w.origin

/-- The frame of an answer: to a session under its key, to the sender of a group frame under K_G (R458, R461). -/
def State.answerBytes (s : State) (a : Answer) : List Byte :=
  let (op, body) := replyBody a.reply
  let flags := if a.unsolicited then 2 else 0
  let own := s.objN Obj.NODE_ID 0
  match s.session a.sess with
  | some (_, x) => frameBytes x.key op x.num flags x.keyGen a.seq a.req own x.source body
  | none => frameBytes (s.customerKey 3) op 0xFFFE flags (s.objN Obj.KEY_GEN 3) a.seq a.req own (a.sess - 0x10000) body

/-- Send an answer as a frame of a transmit source (Table 14.1). -/
def sendAnswer (s : State) (source : Nat) (a : Answer) : State :=
  sendTo { s with ex := { s.ex with out := a :: s.ex.out } } source (s.peerOf a.sess a.req) (s.answerBytes a)

/-- What the group counter's value calls for (R462): GROUP_SEQ_LOW once when few SEQs are left, GROUP_SEQ_EXHAUSTED when none is. -/
def noteGroupSeq (s : State) : State :=
  let n := s.ex.groupCounter
  let low := decide (u32Max < n + 268435456) && !s.ex.groupLowRaised
  let s := { s with ex := { s.ex with groupLowRaised := s.ex.groupLowRaised || low } }
  let s := if low then raiseA s 0x9007 [.word n, .word s.ex.groupLimit, .word (s.obj Obj.KEY_GEN 3)] else s
  if u32Max ≤ n ∧ ¬ s.ex.groupExhausted then
    raiseA { s with ex := { s.ex with groupExhausted := true } } 0x9008 [.word (s.obj Obj.KEY_GEN 3)]
  else s

/-- Take the module's next group SEQ (R462). -/
def takeGroupSeq (s : State) : State :=
  noteGroupSeq { s with ex := { s.ex with groupCounter := s.ex.groupCounter + 1 } }

/-- Send a group frame: with the next group SEQ below the stored limit, later when the limit is reached, never when the
SEQs of the generation are spent (R461, R462). -/
def groupAnswer (s : State) (a : Answer) : State :=
  if s.ex.groupCounter < s.ex.groupLimit then
    takeGroupSeq (sendAnswer s 2 { a with seq := s.ex.groupCounter })
  else if s.ex.groupLimit < u32Max then { s with ex := { s.ex with groupWait := s.ex.groupWait ++ [a] } }
  else s

/-- Send an answer from a transmit source: it takes the session's next SEQ (R459) and, for a request that carries a REQ_ID, joins the
response cache of its last 64 answers (R465). -/
def answerFrom (source : Nat) (cached : Bool) (s : State) (sess req addr sel : Nat) (reply : Reply) : State :=
  match s.session sess with
  | some (i, x) =>
    let cache := if cached then ({ req, reply, tick := s.tick } :: x.cache).take 64 else x.cache
    (sendAnswer s source { sess, req, addr, sel, seq := x.txSeq + 1, unsolicited := false, reply }).setSession i
      { x with txSeq := x.txSeq + 1, cache, origins := mdel x.origins req }
  | none =>
    if sess ≥ 0x10000 then groupAnswer s { sess, req, addr, sel, seq := 0, unsolicited := false, reply } else s

/-- Answer a request of the object lane. One object write by itself names its object, and carries no REQ_ID. -/
def answer (s : State) (sess req addr sel : Nat) (reply : Reply) : State := answerFrom 3 (addr == 0) s sess req addr sel reply

/-- Keep an answer for the completion of what was accepted (R464). -/
def State.owe (s : State) (kind : OwedKind) (sess req addr sel : Nat) : State :=
  { s with ex := { s.ex with owed := s.ex.owed ++ [{ kind, sess, req, addr, sel }] } }

/-! ### Host writes -/

/-- Whether a value is one its type allows (R16). -/
def typeAllows : OType → Int → Bool
  | .bool, v => v == 0 || v == 1
  | .u8, v | .enum8, v => decide (0 ≤ v ∧ v ≤ 0xFF)
  | .u16, v => decide (0 ≤ v ∧ v ≤ 0xFFFF)
  | .u32, v => decide (0 ≤ v ∧ v ≤ 0xFFFFFFFF)
  | .u64, v => decide (0 ≤ v ∧ v ≤ 0xFFFFFFFFFFFFFFFF)
  | .i16, v | .q15, v => decide (-32768 ≤ v ∧ v ≤ 32767)
  | .i32, v | .q30, v => decide (-2147483648 ≤ v ∧ v ≤ 2147483647)
  | .time96, v => decide (0 ≤ v ∧ v < 18446744073709551616 * 1000000000)
  | .octets, _ => false

/-- Whether a selector lies in an object's selector range (R471 check 2). OVERRUN_COUNT and the other counters of
Spindles have no entry for column 40, which runs no loop. -/
def selOk (d : ObjDef) (sel : Nat) : Bool :=
  match d.sel with
  | none => sel == 0
  | some (lo, hi) => decide (lo ≤ sel ∧ sel ≤ hi) && !(d.addr == Obj.OVERRUN_COUNT && sel == 40)

/-- Orders between objects that their descriptions state (R471 check 6), each judged against staged values where
staged. `v` is the value written. A write of either side of an order that would break it is refused (R165). The effective limit that
bounds WRAP_JUMP is that of the ±5 V span, the only one in which a wrap runs (DESIGN CHOICE, log entry 195). -/
def orderOk (s : State) (addr sel : Nat) (v : Int) : Bool :=
  let j := fun a => s.judged a sel
  let o := fun a => s.judged a 0
  if addr = Obj.STEP then decide (v ≤ o Obj.ACQ_STEP)
  else if addr = Obj.ACQ_STEP then decide (o Obj.STEP ≤ v ∧ v ≤ o Obj.ACQ_STEP_MAX)
  else if addr = Obj.ACQ_STEP_MAX then decide (o Obj.ACQ_STEP ≤ v)
  else if addr = Obj.BAND_OUT then decide (o Obj.BAND_IN < v ∧ v < o Obj.ACQ_BAND)
  else if addr = Obj.BAND_IN then decide (v < o Obj.BAND_OUT)
  else if addr = Obj.ACQ_BAND then decide (o Obj.BAND_OUT < v)
  else if addr = Obj.DARK_LEVEL then decide (o Obj.TAP_DEAD_LEVEL ≤ v)
  else if addr = Obj.TAP_DEAD_LEVEL then decide (v ≤ o Obj.DARK_LEVEL)
  else if addr = Obj.T_MIN then decide (v < o Obj.T_MAX ∧ v ≤ o Obj.SETPOINT_DEFAULT)
  else if addr = Obj.T_MAX then decide (o Obj.T_MIN < v ∧ o Obj.SETPOINT_DEFAULT ≤ v)
  else if addr = Obj.POCKELS_LIMIT then decide (o Obj.WRAP_JUMP ≤ v)
  else if addr = Obj.SETPOINT_DEFAULT then decide (o Obj.T_MIN ≤ v ∧ v ≤ o Obj.T_MAX)
  else if addr = Obj.SETPOINT then decide (o Obj.T_MIN ≤ v ∧ v ≤ o Obj.T_MAX)
  else if addr = Obj.OFFLOAD_OUTER then decide (o Obj.OFFLOAD_INNER < v)
  else if addr = Obj.OFFLOAD_INNER then decide (v < o Obj.OFFLOAD_OUTER)
  else if addr = Obj.WRAP_JUMP then decide (v ≤ min (o Obj.POCKELS_LIMIT) 19456)
  else if addr = Obj.VBAND_OUT then decide (o Obj.VBAND_IN < v)
  else if addr = Obj.VBAND_IN then decide (v < o Obj.VBAND_OUT)
  else if addr = Obj.SLEW_STEP then decide (v ≤ (if sel < 81920 then 16383 else if sel < 123904 then 4095 else 65535))
  else if addr = Obj.SLEW_PERIOD then decide (sel < 123904 ∨ s.judged Obj.DEGLITCH (sel - 123904) + 2 ≤ v)
  else if addr = Obj.DEGLITCH then decide (v + 2 ≤ s.judged Obj.SLEW_PERIOD (123904 + sel))
  else if addr = Obj.GEN_AMPLITUDE then
    let c := j Obj.GEN_CHANNEL
    decide (v ≤ (if c < 81920 then 8192 else if c < 123904 then 2048 else 32768))
  else if addr = Obj.GEN_PERIOD then decide (j Obj.GEN_SHAPE ≠ 1 ∨ v % 2 = 0)
  else if addr = Obj.GEN_SHAPE then decide (v ≠ 1 ∨ j Obj.GEN_PERIOD % 2 = 0)
  else if addr = Obj.GEN_CHANNEL then
    decide (v = 0xFFFFFFFF ∨ v < 123968 ∧
      j Obj.GEN_AMPLITUDE ≤ (if v < 81920 then 8192 else if v < 123904 then 2048 else 32768))
  else if addr = Obj.SAFE_CODE then decide (¬ (122880 ≤ sel ∧ sel < 123904) ∧
      v ≤ (if sel < 81920 then 16383 else if sel < 123904 then 4095 else 65535))
  else if addr = Obj.SAFE_SPAN then decide (¬ (122880 ≤ sel ∧ sel < 123904))
  else if addr = Obj.RANGE_HIGH then decide (4 * o Obj.RANGE_LOW < v)
  else if addr = Obj.RANGE_LOW then decide (4 * v < o Obj.RANGE_HIGH)
  else if addr = Obj.DUTY_LOW then decide (v < j Obj.DUTY_HIGH)
  else if addr = Obj.DUTY_HIGH then decide (j Obj.DUTY_LOW < v)
  else if addr = Obj.FREQ_LOW then decide (v < j Obj.FREQ_HIGH)
  else if addr = Obj.FREQ_HIGH then decide (j Obj.FREQ_LOW < v)
  else if addr = Obj.DRIVE_BUDGET then decide (25 * o Obj.WRAP_CHARGE_MAX ≤ 8 * v)
  else if addr = Obj.WRAP_CHARGE_MAX then decide (25 * v ≤ 8 * o Obj.DRIVE_BUDGET)
  else if addr = Obj.WARN_LEVEL then decide (v ≤ j Obj.THROTTLE_LEVEL - 100)
  else if addr = Obj.THROTTLE_LEVEL then decide (j Obj.WARN_LEVEL ≤ v - 100 ∧ v < j Obj.STOP_LEVEL)
  else if addr = Obj.STOP_LEVEL then decide (j Obj.THROTTLE_LEVEL < v ∧ v < s.obj Obj.CUT_LEVEL sel - 200)
  else if addr = Obj.CAP_PRE then decide (v < j Obj.CAP_LENGTH)
  else if addr = Obj.CAP_LENGTH then decide (j Obj.CAP_PRE < v)
  else if addr = Obj.CAP_LINK then decide ((v < 8 ∧ v ≠ sel) ∨ v = 0xFF)
  else if addr = Obj.RING_LENGTH then decide (v = 0 ∨ (64 ≤ v ∧ v % 4 = 0))
  else if addr = Obj.ACCEPT_VID then decide ((1 ≤ v ∧ v ≤ 4094) ∨ v = 0xFFFF)
  else if addr = Obj.LAUNCH_PERIOD then decide (v = 0 ∨ 1000 ≤ v)
  else if addr = Obj.PARK_INITIATOR then decide (v ≤ 6 ∨ v = 0xFF)
  else if addr = Obj.SESSION_CLOSE then decide (1 ≤ v ∧ v ≤ 0xFFFD)
  else if addr = Obj.TIME_RATE then decide (-1073741 ≤ v ∧ v ≤ 1073741)
  else true

/-- Whether the block of a class H object is halted (R471 check 7): a port with PORT_ENABLE 0, the PTP engine with
PTP_ENABLE 0. -/
def haltedFor (s : State) (addr sel : Nat) : Bool :=
  if addr = Obj.FEC_MODE then s.obj Obj.PORT_ENABLE sel == 0 else s.obj Obj.PTP_ENABLE 0 == 0

/-- Whether SELFTEST lets an object be written (R514). -/
def selftestAllows (addr : Nat) : Bool :=
  let i := addr / 256
  decide ((0x1000 ≤ i ∧ i ≤ 0x12FF) ∨ (0x3000 ≤ i ∧ i ≤ 0x34FF) ∨ (0x3600 ≤ i ∧ i ≤ 0x36FF))

/-- Checks 1 to 4 of Table 16.7, and the object's row when they pass. -/
def accessCheck (level addr sel : Nat) : Except Nak ObjDef :=
  match objDef addr with
  | none => .error .noObject
  | some d =>
    if !selOk d sel then .error .range
    else if level < d.level then .error .access
    else if d.change = .readOnly then .error .readOnly
    else .ok d

/-- Checks 5 to 7 for a numeric value already of the object's type and size, then the rule of SELFTEST. -/
def valueCheck (s : State) (d : ObjDef) (addr sel : Nat) (v : Int) : Option Nak :=
  if d.type = .octets then some .type
  else if !(typeAllows d.type v && decide (d.lo ≤ v ∧ v ≤ d.hi) && orderOk s addr sel v) then some .range
  else if d.change = .held ∧ !haltedFor s addr sel then some .busy
  else if s.dev.state = .selftest ∧ !selftestAllows addr then some .state
  else none

/-- All generic checks of Table 16.7 on a numeric write. -/
def writeCheck (s : State) (level addr sel : Nat) (v : Int) : Option Nak :=
  match accessCheck level addr sel with
  | .error n => some n
  | .ok d => valueCheck s d addr sel v

/-! ### HBM (R497) -/

/-- What an unlisted byte of HBM reads as. DESIGN CHOICE, log entry 1. -/
def unlistedByte : Byte := 0

/-- The cells that hold `bytes` from an address, none for a byte equal to an unlisted one. -/
def cellsOf : Nat → List Byte → List Host.Cell
  | _, [] => []
  | a, b :: t => if b = unlistedByte then cellsOf (a + 1) t else (a, b) :: cellsOf (a + 1) t

/-- Write bytes from an address, keeping the canonical form. -/
def memWrite (m : List Host.Cell) (a : Nat) (bytes : List Byte) : List Host.Cell :=
  m.filter (fun c => c.1 < a) ++ cellsOf a bytes ++ m.filter (fun c => a + bytes.length ≤ c.1)

/-- The byte at an address. -/
def memByte (m : List Host.Cell) (a : Nat) : Byte :=
  match m.find? fun c => c.1 == a with
  | some c => c.2
  | none => unlistedByte

/-- `n` bytes from an address, walking the list once. -/
def memRead : Nat → Nat → List Host.Cell → List Byte
  | 0, _, _ => []
  | n + 1, a, m =>
    match m.dropWhile fun c => c.1 < a with
    | [] => List.replicate (n + 1) unlistedByte
    | (x, b) :: t => if x = a then b :: memRead n (a + 1) t else unlistedByte :: memRead n (a + 1) ((x, b) :: t)

/-- The canonical form: addresses rise strictly and no entry equals an unlisted byte. -/
def Memory.wf : List Host.Cell → Bool
  | [] => true
  | [(_, b)] => decide (b ≠ unlistedByte)
  | (a, b) :: (c, d) :: t => decide (a < c) && decide (b ≠ unlistedByte) && Memory.wf ((c, d) :: t)

/-! ### Function modes and fallbacks (R36 to R39) -/

def State.func (s : State) (n : Nat) : Func := mget {} s.funcs n

def State.setFunc (s : State) (n : Nat) (f : Func) : State := { s with funcs := mset s.funcs n f }

/-- Whether function `n` runs host-assisted (EFFECTIVE_MODE). -/
def State.hostMode (s : State) (n : Nat) : Bool := decide ((s.func n).mode = 1)

/-- The code of a function's fallback event (Table 1.5). -/
def fallbackCode (n : Nat) : Nat :=
  match n with
  | 1 => 0x30F1 | 2 => 0x20F2 | 3 => 0x20F3 | 4 => 0x40F4 | 5 => 0x50F5 | 6 => 0x80F6 | 7 => 0x70F7 | _ => 0x80F8

/-- Whether the evaluations on the samples of scan n are host-assisted: they finish in the mode of their scan (Table 1.7). -/
def State.hostIn (s : State) (n : Nat) : Bool := if n < s.loops.modeFrom then !s.hostMode 1 else s.hostMode 1

/-- A function's mode boundary (R36): an accepted request takes effect. -/
def atModeBoundary (s : State) (n : Nat) : State :=
  let f := s.func n
  match f.pending with
  | some m => s.setFunc n { f with mode := m, pending := none }
  | none => s

/-- The fallback of R37 with the discard of R39 and the event of R566. -/
def fallback (s : State) (n : Nat) : State :=
  let f := s.func n
  let s := s.setFunc n { mode := 0, pending := none, fellBack := true }
  let s := s.setObj (Obj.FUNC_MODE + (n - 1)) 0 0
  let s := s.setObjN Obj.LAST_FALLBACK 0 n
  let s := s.setObj Obj.LAST_FALLBACK_TIME 0 s.now
  let s := s.incSat Obj.FALLBACK_COUNT n
  raiseA s (fallbackCode n) [.word n, .word (boolNat f.pending.isSome)]

end Sys2Proof.Machine
end

