-- ==== Sys2Proof/Machine/Clock.lean ====
section
/-!
DEFINITION. The tick of the strobe (R15) and what every tick does to the two time counters (R423, R424, R426).
-/

namespace Sys2Proof.Machine

open Sys2Proof

/-- One tick of one counter: the Q32.32 addend is added to nanoseconds and fraction (R423). -/
def Counter.advance (c : Counter) (addend : Nat) : Counter :=
  let f := c.frac + addend
  { c with ns := c.ns + ((f / 4294967296 : Nat) : Int), frac := f % 4294967296 }

/-- Whether ticks are being counted: RESET_N has been released and REFCLK runs (R33, R423, R425). -/
def State.ticking (s : State) : Bool := !s.dev.refclkLost && decide (s.dev.state ≠ .off)

/-- One tick: the tick count and both lobes' counters advance (R426); nothing else happens at a tick by itself
(log entry 4). -/
def tickOnce (s : State) : State :=
  if s.ticking then
    let a := s.objN Obj.ADDEND 0
    { s with tick := s.tick + 1,
             time := { s.time with ctr := ⟨s.time.ctr.a.advance a, s.time.ctr.b.advance a⟩ } }
  else s

end Sys2Proof.Machine
end

