-- ==== Sys2Proof/Machine/Datapath.lean ====
section
/-!
DEFINITION. The Spindle datapath (spec/06_datapath.md): accumulators and their guard rule (R172, R175), the store law (R173), result
tags (R174, R177), and the operation steps of a lane on its operand memory (R169 to R172).
-/

namespace Sys2Proof.Machine

open Sys2Proof

/-! ### Accumulators -/

/-- An addition to an accumulator (R175, R177): the sum modulo 2^40, the guard sign of the first overflow since CLR, and INV where the
addend comes from an operand tagged INV. -/
def Acc.plus (a : Acc) (addend : Int) (inv : Bool) : Acc :=
  let v := a.x + addend
  let fits := decide (-549755813888 ≤ v ∧ v < 549755813888)
  { x := if fits then v else toSigned 40 (toUnsigned 40 v)
    guard := if fits || a.guard ≠ 0 then a.guard else if addend < 0 then -1 else 1
    inv := a.inv || inv }

def Acc.add (a : Acc) (o : Sample) : Acc := a.plus (o.p * 32768) o.inv
def Acc.sub (a : Acc) (o : Sample) : Acc := a.plus (-(o.p * 32768)) o.inv
def Acc.mac (a : Acc) (o q : Sample) : Acc := a.plus (o.p * q.p) (o.inv || q.inv)
def Acc.msub (a : Acc) (o q : Sample) : Acc := a.plus (-(o.p * q.p)) (o.inv || q.inv)

/-- floor(x * 2^n / 2^15) for a shift n. -/
def shiftStore (x n : Int) : Int :=
  if 0 ≤ n then floorDiv (x * (2 ^ n.toNat : Nat)) 32768 else floorDiv x (32768 * (2 ^ (-n).toNat : Nat) : Nat)

/-- The store law of R173 between two limits: the word and its tag. -/
def Acc.store (a : Acc) (n lo hi : Int) : Sample :=
  if a.guard ≠ 0 then { p := if 0 < a.guard then hi else lo, inv := true, sat := true }
  else
    let v := shiftStore a.x n
    { p := clampInt lo hi v, inv := a.inv, sat := decide (v < lo ∨ hi < v) }

/-- A store into a Q15 word. -/
def Acc.storeQ15 (a : Acc) (n : Int) : Sample := a.store n (-32768) 32767

/-- A store into an I32 result. -/
def Acc.storeI32 (a : Acc) (n : Int) : Sample := a.store n (-2147483648) 2147483647

/-- Whether an accumulator gives a condition: with GUARD or INV set, CMP and SIGN give none (R172). -/
def Acc.judges (a : Acc) : Bool := a.guard == 0 && !a.inv

/-- CMP on X and the other accumulator Y: |X| > Y, or no condition. -/
def Acc.cmp (x y : Acc) : Option Bool := if x.judges && y.judges then some (decide (y.x < (x.x.natAbs : Int))) else none

/-- SIGN on X, or no condition. -/
def Acc.sign (x : Acc) : Option Int := if x.judges then some (if x.x < 0 then -1 else if 0 < x.x then 1 else 0) else none

/-! ### Steps of a lane -/

/-- An operation of Table 6.2 with the addresses of its operands. -/
inductive DpOp
  | clr
  | add (a : Nat)
  | sub (a : Nat)
  | mac (a b : Nat)
  | msub (a b : Nat)
  | cmp
  | sign
  /-- A store with a shift through the store port to an address. -/
  | store (n : Int) (dst : Nat)
  deriving DecidableEq, Repr

/-- A step: the accumulator it is performed on, 0 or 1, and its operation. -/
abbrev DpStep := Nat × DpOp

/-- A word of the operand memory. -/
def DpLane.word (l : DpLane) (a : Nat) : Sample := mget {} l.mem a

def DpLane.acc (l : DpLane) (k : Nat) : Acc := if k = 0 then l.acc0 else l.acc1

def DpLane.setAcc (l : DpLane) (k : Nat) (a : Acc) : DpLane := if k = 0 then { l with acc0 := a } else { l with acc1 := a }

/-- One step (R170 to R172): both operands are read from the memory as it stands at the start of the step, and a word stored is there
from the next step on. The second part is the condition of a CMP (1 for true) or SIGN. -/
def DpLane.step (l : DpLane) (st : DpStep) : DpLane × Option Int :=
  let x := l.acc st.1
  match st.2 with
  | .clr => (l.setAcc st.1 {}, none)
  | .add a => (l.setAcc st.1 (x.add (l.word a)), none)
  | .sub a => (l.setAcc st.1 (x.sub (l.word a)), none)
  | .mac a b => (l.setAcc st.1 (x.mac (l.word a) (l.word b)), none)
  | .msub a b => (l.setAcc st.1 (x.msub (l.word a) (l.word b)), none)
  | .cmp => (l, (x.cmp (l.acc (1 - st.1))).map fun c => if c then 1 else 0)
  | .sign => (l, x.sign)
  | .store n dst => ({ l with mem := mset l.mem dst (x.storeQ15 n) }, none)

/-- The sample port and the loads of parameters, which write between steps (R171). -/
def DpLane.load (l : DpLane) (ws : List (Nat × Sample)) : DpLane :=
  { l with mem := ws.foldl (fun m w => mset m w.1 w.2) l.mem }

/-- A kernel: its steps in order; the second part is the conditions of its CMP and SIGN steps, in order. -/
def DpLane.run (l : DpLane) : List DpStep → DpLane × List (Option Int)
  | [] => (l, [])
  | st :: t =>
    let (l', c) := l.step st
    let (l'', cs) := l'.run t
    (l'', match st.2 with | .cmp | .sign => c :: cs | _ => cs)

/-- An untagged operand. -/
def opnd (v : Int) : Sample := { p := v }

/-! ### Kernels

The operand memory of a lane has 64 words for each of the 128 elements or VOAs it evaluates. The spec gives no addresses: these are the
model's (DESIGN CHOICE, log entry 18). -/

/-- The lane of an element or VOA (R169). -/
def laneNo (e : Nat) : Nat := e % 8

/-- The first of the 64 words of element e, or of VOA or input tap e of its column. -/
def laneBase (e : Nat) : Nat := 64 * (e % 1024 / 8)

/-- The loads and steps of conditioning (R179): y is word 34, p word 35. An invalid sample is loaded with its tag. -/
def conditionKernel (b : Nat) (code offset gain pdGain : Int) (g : Nat) (inv : Bool) : List (Nat × Sample) × List DpStep :=
  ([(b + 30, { p := code * 8, inv }), (b + 31, opnd gain), (b + 32, opnd offset), (b + 33, opnd pdGain)],
   [(0, .clr), (0, .mac (b + 30) (b + 31)), (0, .msub (b + 32) (b + 31)), (0, .store 1 (b + 34)),
    (0, .clr), (0, .mac (b + 34) (b + 33)), (0, .store (1 - 2 * (g : Int)) (b + 35))])

/-- The loads and steps of a filter of given samples, newest first, and coefficients (R181): the output is word 36. -/
def filterKernel (b : Nat) (xs : List Sample) (cs : List Int) : List (Nat × Sample) × List DpStep :=
  ((xs.zipIdx.map fun x => (b + x.2, x.1)) ++ (cs.zipIdx.map fun c => (b + 48 + c.2, opnd c.1)),
   [(1, .clr)] ++ ((List.range (min xs.length cs.length)).map fun j => (1, DpOp.mac (b + j) (b + 48 + j))) ++
     [(1, .store 0 (b + 36))])

/-- The loads and steps of an element's error and band tests (R182), with the test against ACQ_BAND. Conditions: out of band, out of the
inner band, out of the acquisition band, the sign of err; ACC0 keeps err. -/
def errorKernel (b : Nat) (pa pb : Sample) (t bandOut bandIn acq : Int) : List (Nat × Sample) × List DpStep :=
  ([(b + 37, pa), (b + 38, pb), (b + 39, opnd t), (b + 40, opnd bandOut), (b + 41, opnd bandIn), (b + 42, opnd acq)],
   [(0, .clr), (0, .add (b + 37)), (0, .msub (b + 39) (b + 37)), (0, .msub (b + 39) (b + 38)),
    (1, .clr), (1, .mac (b + 40) (b + 37)), (1, .mac (b + 40) (b + 38)), (0, .cmp),
    (1, .clr), (1, .mac (b + 41) (b + 37)), (1, .mac (b + 41) (b + 38)), (0, .cmp),
    (1, .clr), (1, .mac (b + 42) (b + 37)), (1, .mac (b + 42) (b + 38)), (0, .cmp), (0, .sign)])

/-- The loads and steps of the outer loop's comparison of two quotients (R183): the sign of leak * wanted' - wanted * leak'. -/
def ratioKernel (b : Nat) (leak wanted leak' wanted' : Sample) : List (Nat × Sample) × List DpStep :=
  ([(b + 43, leak), (b + 44, wanted), (b + 45, leak'), (b + 46, wanted')],
   [(0, .clr), (0, .mac (b + 43) (b + 46)), (0, .msub (b + 44) (b + 45)), (0, .sign)])

/-! ### Lanes of the machine -/

def State.lane (s : State) (col l : Nat) : DpLane := mget {} s.mon.lanes (8 * col + l)

def State.setLane (s : State) (col l : Nat) (x : DpLane) : State :=
  { s with mon := { s.mon with lanes := mset s.mon.lanes (8 * col + l) x } }

/-- Run a kernel on a lane: the state with the lane after it, the lane, and its conditions. -/
def runKernel (s : State) (col l : Nat) (k : List (Nat × Sample) × List DpStep) : State × DpLane × List (Option Int) :=
  let (x, cs) := ((s.lane col l).load k.1).run k.2
  (s.setLane col l x, x, cs)

/-- Count a store's tag in the columns that make it (R188). -/
def countStore (s : State) (cols : List Nat) (sat inv : Bool) : State :=
  cols.foldl (fun s c =>
    if inv then s.incSat Obj.INV_COUNT c else if sat then s.incSat Obj.SAT_COUNT c else s) s

/-! ### What held at the hold (R187, R226, R230, R245)

The words of pair 15 of a scan arrive after the boundary that ends it, at which coefficients, gains, focus and a spare may have changed. -/

/-- A coefficient as it held for the samples of scan n. -/
def State.coef (s : State) (n addr sel : Nat) : Int :=
  if n < s.mon.dpScan then (mfind2 s.mon.dpOld addr sel).getD (s.obj addr sel) else s.obj addr sel

def State.coefOct (s : State) (n addr sel : Nat) : List Byte :=
  if n < s.mon.dpScan then (mfind2 s.mon.dpOldOct addr sel).getD (s.oct addr sel) else s.oct addr sel

/-- Keep for the scan that ends the value that a coefficient has before it changes at a scan boundary. -/
def keepCoef (s : State) (addr sel : Nat) : State :=
  let s := if s.mon.dpScan = s.scan then s else { s with mon := { s.mon with dpScan := s.scan, dpOld := [], dpOldOct := [] } }
  if (mfind2 s.mon.dpOld addr sel).isSome then s
  else { s with mon := { s.mon with dpOld := mset2 s.mon.dpOld addr sel (s.obj addr sel) } }

/-- The same for an OCTETS coefficient. -/
def keepCoefOct (s : State) (addr sel : Nat) : State :=
  let s := if s.mon.dpScan = s.scan then s else { s with mon := { s.mon with dpScan := s.scan, dpOld := [], dpOldOct := [] } }
  if (mfind2 s.mon.dpOldOct addr sel).isSome then s
  else { s with mon := { s.mon with dpOldOct := mset2 s.mon.dpOldOct addr sel (s.oct addr sel) } }

/-- A coefficient changes at a scan boundary. -/
def setCoef (s : State) (addr sel : Nat) (v : Int) : State := (keepCoef s addr sel).setObj addr sel v

/-- The gain of a photodiode at its hold in scan n. -/
def Pd.gainAt (x : Pd) (n : Nat) : Nat := if n < x.gFrom then x.gOld else x.g

/-- Whether the photodiode is settling in scan n after a gain change. -/
def Pd.settling (x : Pd) (n : Nat) : Bool := decide (0 < if n < x.gFrom then x.settleOld else x.settle)

/-- A gain changes from the hold of scan n on: four scans are marked (R226). -/
def Pd.setGain (x : Pd) (g n : Nat) : Pd :=
  { x with gOld := x.g, settleOld := x.settle, g := g, gFrom := n, lowRun := 0, settle := 4 }

/-- Whether the spare of the bank converts the inputs of a converter in scan n. -/
def Conv.spareAt (c : Conv) (n : Nat) : Bool := if n < c.spareFrom then !c.spare else c.spare

/-- From scan n on the spare converts a converter's inputs, or gives them back. -/
def Conv.setSpare (c : Conv) (on : Bool) (n : Nat) : Conv :=
  if c.spare = on then c else { c with spare := on, spareFrom := n, muxScan := some n }

/-- The focus of a converter in scan n. -/
def Conv.focusAt (c : Conv) (n : Nat) : Option Focus :=
  match c.focusWas with
  | some (f, e) => if n < e then (if f.start ≤ n then some f else none) else c.focus.filter fun f => decide (f.start ≤ n)
  | none => c.focus.filter fun f => decide (f.start ≤ n)

/-! ### Guard overflows (R189) -/

/-- Raise DP_GUARD_OVERFLOW of a column when a second has passed since the last. One held back by that limit is raised at the first scan
boundary after the second (DESIGN CHOICE, log entry 175). -/
def guardFlush (s : State) (col : Nat) : State :=
  let g := mget ({} : Guard) s.mon.guards col
  let free : Bool := match g.last with | none => true | some t => s.elapsed t 1000000000
  if 0 < g.count ∧ free then
    let s := { s with mon := { s.mon with guards := mset s.mon.guards col { g with count := 0, last := some s.tick } } }
    raiseA s 0x4080 [.word col, .word g.kernel, .word g.chan, .word g.count]
  else s

/-- A result with guard overflow, of averaging channel n. -/
def guardOverflow (s : State) (col n : Nat) : State :=
  let g := mget ({} : Guard) s.mon.guards col
  let g := if g.count = 0 then { g with kernel := 4, chan := n, count := 1 } else { g with count := g.count + 1 }
  guardFlush ({ s with mon := { s.mon with guards := mset s.mon.guards col g } }.incSat Obj.GUARD_COUNT col) col

end Sys2Proof.Machine
end

