-- ==== Sys2Proof/Machine/Maps.lean ====
section
/-!
DEFINITION. Linearisation maps and their inverses (R258, R259, R326), and the conversion of phases, heater phases and
attenuations to drive codes.
-/

namespace Sys2Proof.Machine

open Sys2Proof

/-- A map of Table 9.2: its first input, its pitch, its breakpoints. -/
structure BpMap where
  x0 : Int
  dx : Int
  n : Nat
  bps : List Int
  deriving DecidableEq, Repr

def BpMap.bp (m : BpMap) (j : Nat) : Int := m.bps.getD j 0

/-- Map conversion of input x (R258). -/
def BpMap.conv (m : BpMap) (x : Int) : Int :=
  let j := (clampInt 0 (m.n - 2 : Nat) (floorDiv (x - m.x0) m.dx)).toNat
  m.bp j + floorDiv ((m.bp (j + 1) - m.bp j) * (x - m.x0 - (j : Int) * m.dx)) m.dx

/-- The segment in which the inverse of a value lies: the first whose upper breakpoint is at least the value. -/
def BpMap.segment (m : BpMap) (v : Int) : Nat → Nat → Nat
  | 0, j => j
  | f + 1, j => if v ≤ m.bp (j + 1) ∨ j + 2 ≥ m.n then j else m.segment v f (j + 1)

/-- The smallest input beyond breakpoint j, on a line that rises by d a segment, whose conversion gives at least the value. -/
def BpMap.onLine (m : BpMap) (j : Nat) (d v : Int) : Int := m.x0 + (j : Int) * m.dx + (-(floorDiv (-((v - m.bp j) * m.dx)) d))

/-- The smallest input whose conversion gives at least the value (R326), on the first or last segment's line beyond the breakpoints
(R258). Where such a line does not rise there is none: the end of the table is taken (log entry 12). -/
def BpMap.inv (m : BpMap) (v : Int) : Int :=
  let j := m.segment v m.n 0
  let d := m.bp (j + 1) - m.bp j
  if v ≤ m.bp 0 then (if m.bp 0 < m.bp 1 then m.onLine 0 (m.bp 1 - m.bp 0) v else m.x0)
  else if d ≤ 0 then m.x0 + (m.n - 1 : Nat) * m.dx
  else m.onLine j d v

/-- Breakpoints of two bytes each, in the network order of the frame that wrote them (R13). -/
def bpsI16 (n : Nat) (b : List Byte) : List Int := (List.range n).map fun j => toSigned 16 (be b (2 * j) 2)

def bpsU16 (n : Nat) (b : List Byte) : List Int := (List.range n).map fun j => ((be b (2 * j) 2 : Nat) : Int)

def fastMapOf (b : List Byte) : BpMap := { x0 := -20480, dx := 2560, n := 17, bps := bpsI16 17 b }
def heaterMapOf (b : List Byte) : BpMap := { x0 := 0, dx := 2304, n := 17, bps := bpsU16 17 b }
def voaMapOf (b : List Byte) : BpMap := { x0 := 0, dx := 1000, n := 26, bps := bpsU16 26 b }

def State.fastMap (s : State) (e : Nat) : BpMap := fastMapOf (s.oct Obj.FAST_MAP e)
def State.heaterMap (s : State) (e : Nat) : BpMap := heaterMapOf (s.oct Obj.HEATER_MAP e)
def State.voaMap (s : State) (o : Nat) : BpMap := voaMapOf (s.oct Obj.VOA_MAP o)

/-- The arm codes of a differential drive on a span (R259). -/
def armCodes (span : Nat) (d : Int) : Nat × Nat :=
  let d' := if span = 0 then 2 * d else d
  let a := 8192 + floorDiv d' 2
  ((clampInt 0 16383 a).toNat, (clampInt 0 16383 (a - d')).toNat)

/-- The heater code of a span-1 code (R259). -/
def heaterCode (span : Nat) (y : Int) : Nat := if span = 0 then (min (2 * y) 4095).toNat else y.toNat

/-- The span-1 value of a heater code read on a span, the least whose code of R259 is at least the read one. -/
def heaterUncode (span c : Nat) : Int := if span = 0 then ((c + 1) / 2 : Nat) else c

/-! ### Results whose rounding the spec leaves open -/

/-- A quotient whose rounding the spec does not state: exact where it is exact, else one of the two whole numbers about
it, which of them is free. A quotient by zero is free. -/
def openRound (tag : Nat) (num den : Int) : Int :=
  if den = 0 then Config.quotient tag num den
  else
    let q := floorDiv num den
    if q * den = num then q else q + Config.quotient tag num den % 2

/-- Whether `n / unit` is at most log10(num/den), for positive num and den. -/
def logAtMost (unit num den : Nat) (n : Int) : Bool :=
  if 0 ≤ n then decide (10 ^ n.toNat * den ^ unit ≤ num ^ unit) else decide (den ^ unit ≤ num ^ unit * 10 ^ (-n).toNat)

/-- The floor of unit * log10(num/den) within -32,768 to 32,767, found bit by bit. -/
def logFloor (unit num den : Nat) : Int :=
  ((List.range 16).map (15 - ·)).foldl (fun (n : Int) b => if logAtMost unit num den (n + 2 ^ b) then n + 2 ^ b else n) (-32768)

/-- 10 * log10(num/den) in 0.01 dB (`unit` 1,000) or 0.001 dB (10,000): exact where it is exact, else one of the two whole numbers about
it (log entry 50). A ratio that is not positive has no logarithm: free. -/
def ratioLog (unit : Nat) (num den : Int) : Int :=
  if num ≤ 0 ∨ den ≤ 0 then Config.logRatio num den
  else
    let n := logFloor unit num.toNat den.toNat
    if logAtMost unit den.toNat num.toNat (-n) then n else n + Config.logRatio num den % 2

/-- 10^12 * ln m for a quotient m = num/den of 1 up to 2, from the series of 2 * atanh((m - 1)/(m + 1)). -/
def lnSeries (num den : Nat) : Int :=
  let z : Int := floorDiv (1000000000000 * ((num : Int) - den)) (num + den)
  2 * ((List.range 12).foldl (fun (p : Int × Int) (i : Nat) =>
    (p.1 + floorDiv p.2 (2 * (i : Int) + 1), floorDiv (floorDiv (p.2 * z) 1000000000000 * z) 1000000000000)) (0, z)).1

/-- 10^12 * ln(num/den) for positive num and den, from the power of 2 in the quotient and `lnSeries`. -/
def lnScaled (num den : Nat) : Int :=
  let up := (List.range 64).filter fun k => decide (2 ^ (k + 1) * den ≤ num)
  let down := (List.range 64).filter fun k => decide (2 ^ k * num < den)
  693147180560 * ((up.length : Int) - down.length) + lnSeries (num * 2 ^ down.length) (den * 2 ^ up.length)

/-- Whether n is at most 1,024 * 10^(d/1,000). -/
def tapAtMost (d : Int) (n : Nat) : Bool :=
  if 0 ≤ d then decide (n ^ 1000 ≤ 1024 ^ 1000 * 10 ^ d.toNat) else decide (n ^ 1000 * 10 ^ (-d).toNat ≤ 1024 ^ 1000)

/-- pt = floor(1,024 * 10^(d/1,000)), limited to 1 to 32,767, for d = target - OUT_TAP_REF (R282): the greatest such
number, found bit by bit. -/
def tapPower (d : Int) : Nat :=
  max 1 (((List.range 15).map (14 - ·)).foldl (fun n b => if tapAtMost d (n + 2 ^ b) then n + 2 ^ b else n) 0)

end Sys2Proof.Machine
end

