-- ==== Sys2Proof/Machine/Channels.lean ====
section
/-!
DEFINITION. The drive channels: kinds, banks and lanes (R190 to R192), claim gates (R312 to R314), the slew limiter's
targets and direct writes (R194 to R198), motions, generators and the present output code.
-/

namespace Sys2Proof.Machine

open Sys2Proof

/-! ### Kinds, banks, zero codes -/

/-- 0 fast, 1 heater, 2 privileged (R190, R192). -/
def chanKind (u : Nat) : Nat := if u < 81920 then 0 else if u < 123904 then 1 else 2

def maxCode (u : Nat) : Nat := if u < 81920 then 16383 else if u < 123904 then 4095 else 65535

/-- The zero code of a channel on a span (R191). -/
def zeroCode (u span : Nat) : Nat :=
  if u < 81920 then 8192 else if u < 123904 then 0 else if span = 0 then 0 else 32768

/-- The bank selector of a channel (R192). -/
def bankOf (u : Nat) : Nat :=
  if u < 81920 then u / 32 else if u < 123904 then 2560 + (u - 81920) / 32 else 3872 + (u - 123904) / 32

def laneOf (u : Nat) : Nat := if u < 81920 then u % 32 else if u < 123904 then (u - 81920) % 32 else (u - 123904) % 32

/-- The channel of a bank's lane. -/
def chanOf (b lane : Nat) : Nat :=
  if b < 2560 then 32 * b + lane else if b < 3872 then 81920 + 32 * (b - 2560) + lane else 123904 + 32 * (b - 3872) + lane

/-- Drive selectors of element e's arms and trimmer and of output o's VOA (R8, R192). -/
def armA (e : Nat) : Nat := 2 * e
def armB (e : Nat) : Nat := 2 * e + 1
def trimmer (e : Nat) : Nat := 81920 + e
def voaChan (o : Nat) : Nat := 122880 + o

/-! ### Channel records -/

/-- The factory page's code (R215): its values for privileged channels are not stated. -/
def factoryCode (u : Nat) : Nat :=
  if u < 81920 then 8192 else if u < 122880 then 0
  else if u < 123904 then min 4095 (be (octDefault Obj.VOA_MAP (u - 122880)) 50 2)
  else Config.safePageCode u % 65536

def factorySpan (u : Nat) : Nat := if u < 123904 then 1 else Config.safePageSpan u % 2

def defaultChan (u : Nat) : Chan :=
  { out := factoryCode u, target := factoryCode u, taken := factoryCode u, span := factorySpan u }

def State.chan (s : State) (u : Nat) : Chan := mget (defaultChan u) s.drv.chans u

def State.setChan (s : State) (u : Nat) (c : Chan) : State :=
  { s with drv := { s.drv with chans := mset s.drv.chans u c } }

def State.bank (s : State) (b : Nat) : Bank := mget {} s.drv.banks b

def State.setBank (s : State) (b : Nat) (x : Bank) : State :=
  { s with drv := { s.drv with banks := mset s.drv.banks b x } }

/-- The safe code and span that the bank registers hold (R217). -/
def State.safeCode (s : State) (u : Nat) : Nat := mget (factoryCode u) s.drv.safeCodes u
def State.safeSpan (s : State) (u : Nat) : Nat := mget (factorySpan u) s.drv.safeSpans u

/-- What TOUTA_MID drives, in mV: 5.00 V from VHV once the safe load has enabled the privileged channels, else high impedance (R558). -/
def State.toutaMid (s : State) : Option Nat := if s.drv.driven && !s.drv.privOff then some 5000 else none

/-- Whether a channel's lane is driven: heater, fast and privileged lanes can be cut apart (R68, R202, R303, R509). -/
def State.drivenAt (s : State) (u : Nat) : Bool :=
  s.drv.driven && !(if u < 81920 then s.drv.fastOff else if u < 123904 then s.drv.heatersOff else s.drv.privOff)

/-! ### Claim gates -/

/-- HIGHEST of a bank's gate (R313). -/
def State.gate (s : State) (b : Nat) : Nat := mget (max s.lobes.gateBase (mget 0 s.lobes.gateHigh b)) s.lobes.gateStuck b

/-- The claim a lobe presents: epoch and lobe bit (R312). -/
def claimOf (epoch lobe : Nat) : Nat := 2 * epoch + (if lobe = 0 then 1 else 0)

/-- Whether a bank's gate accepts the ACTIVE lobe's writes (R313). A gate reported faulty accepts none (R314). -/
def State.gateOpen (s : State) (b : Nat) : Bool :=
  match s.active with
  | some l => decide (s.gate b ≤ (s.lobe l).claim) && (mfind s.lobes.gateStuck b).isNone
  | none => false

/-! ### Codes at a tick -/

/-- A fixed ramp after `dt` ticks at `num` codes every `den` ticks. -/
def rampAt (from_ goal num den dt : Nat) : Nat :=
  let k := num * (dt / den)
  if from_ ≤ goal then min goal (from_ + k) else max goal (from_ - k)

/-- The ramp rate of a span sequence in codes per tick (R199). -/
def spanRate (u : Nat) : Nat := if u < 81920 then 1024 else if u < 123904 then 512 else 4096

/-- Whether a channel's output no longer moves by itself at a tick: a toggle is over with its hold. -/
def Chan.still (c : Chan) (t : Nat) : Bool :=
  match c.motion with
  | none => true
  | some (.kick start _ d1 _ d2) => decide (start + d1 + d2 ≤ t)
  | some _ => false

/-- Whether a span sequence runs on a channel. -/
def Chan.spanning (c : Chan) : Bool := match c.motion with | some (.spanSeq ..) => true | _ => false

/-- The tick that a bank's motions and generators have reached: in HOLDING every output keeps its last code (R217). -/
def State.bankTick (s : State) (b : Nat) : Nat := if (s.bank b).hold = .holding then (s.bank b).holdTick else s.tick

/-- The limiter's output with any fixed ramp, as far as a tick has taken it. -/
def State.limiterAt (s : State) (u t : Nat) : Nat :=
  let c := s.chan u
  match c.motion with
  | none => c.out
  | some (.ramp start f goal num den) => rampAt f goal num den (t - start)
  | some (.spanSeq start f _) => rampAt f (zeroCode u c.span) (spanRate u) 1 (t - start)
  | some (.kick start a d1 b d2) => if t < start + d1 then a else if t < start + d1 + d2 then b else c.out

/-- The limiter's output at the present tick, with any fixed ramp. -/
def State.limiterOut (s : State) (u : Nat) : Nat := s.limiterAt u (s.bankTick (bankOf u))

/-- One step of the noise register (R206). -/
def lfsrStep (x : Nat) : Nat := (2 * x) % 8388608 + (bitOf x 22 + bitOf x 17) % 2

def lfsrIter : Nat → Nat → Nat
  | 0, x => x
  | n + 1, x => lfsrIter n (lfsrStep x)

/-- The generator value at phase n of its k-th cycle (R206). -/
def genAt (g : Gen) (t : Nat) : Int :=
  let n : Int := (t % g.period : Nat)
  let a : Int := g.amp
  let p : Int := g.period
  if g.shape = 2 then -a + floorDiv (2 * a * n) p
  else if g.shape = 1 then (if 2 * n < p then -a + floorDiv (4 * a * n) p else 3 * a - floorDiv (4 * a * n) p)
  else if g.shape = 3 then
    floorDiv (a * ((lfsrIter (t / g.period + 1) g.seed : Int) - 4194304)) 4194304
  else 0

/-- The running generator of a channel, if one runs. -/
def State.genOf (s : State) (u : Nat) : Option Gen :=
  (s.drv.gens.find? fun g => g.2.chan == u && g.2.startTick.isSome).map (·.2)

/-- The limiter output plus any generator value at a tick, saturated at the span limits (R207). -/
def State.sumAt (s : State) (u t : Nat) : Nat :=
  match s.genOf u with
  | none => s.limiterAt u t
  | some g =>
    let start := g.startTick.getD 0
    if t < start then s.limiterAt u t
    else
      let base : Int := if g.mode = 1 then g.offset else s.limiterAt u t
      (clampInt 0 (maxCode u) (base + genAt g (t - start))).toNat

/-- The limiter output plus any generator value at the present tick. -/
def State.genOut (s : State) (u : Nat) : Nat := s.sumAt u (s.bankTick (bankOf u))

/-- Whether a bank's outputs stand still: no tick occurs while REFCLK is lost (R194), and in HOLDING every output keeps its last code
(R217). -/
def State.bankStops (s : State) (b : Nat) : Bool := s.dev.refclkLost || (s.bank b).hold == .holding

/-- OUT_CODE: a privileged channel keeps its old code until its track closes (R203), any other one that is held while its bank stands
still. Codes that change on every tick, in a ramp or
under a generator, come out of the deglitcher 1 + DEGLITCH ticks after the tick that produces them (DESIGN CHOICE, log entry 24). -/
def State.outCode (s : State) (u : Nat) : Nat :=
  match (s.chan u).held with
  | some (old, _) => if chanKind u = 2 ∨ s.bankStops (bankOf u) then old else s.genOut u
  | none =>
    if chanKind u = 2 then s.sumAt u (s.bankTick (bankOf u) - (1 + s.objN Obj.DEGLITCH (u - 123904))) else s.genOut u

/-- The code of a channel changes otherwise than by its limiter: its lane counts as changed, a privileged channel's deglitcher
keeps the old value (R203, R208), and so does every channel of a bank that stands still (R194, R217). -/
def noteChange (s : State) (u : Nat) : State :=
  let held := if chanKind u = 2 then some (s.outCode u, s.tick + 1 + s.objN Obj.DEGLITCH (u - 123904))
    else if s.bankStops (bankOf u) then some (s.outCode u, s.tick) else none
  s.setChan u { s.chan u with changed := s.tick, held := held }

/-! ### Writes -/

/-- Accept a limiter target (R197, R198). The newest target accepted in an earlier tick stays the one a boundary of this
tick takes. -/
def Chan.accept (c : Chan) (tick code : Nat) : Chan :=
  { c with taken := if c.accepted < tick then c.target else c.taken, target := code, accepted := tick,
           reached := c.reached && c.target == code }

/-- The gates' claims after the gate of a bank accepts a write of the ACTIVE lobe: HIGHEST becomes the write's claim (R313). -/
def State.gatesAfter (s : State) (b : Nat) : List (Nat × Nat) :=
  match s.active with
  | some l => if s.gate b < (s.lobe l).claim then mset s.lobes.gateHigh b (s.lobe l).claim else s.lobes.gateHigh
  | none => s.lobes.gateHigh

/-- A write that the gate of bank b accepts; the held-output time of a takeover counts from the last one (R325). -/
def noteWrite (s : State) (b : Nat) : State :=
  { s with lobes := { s.lobes with gateHigh := s.gatesAfter b, lastWrite := s.tick } }

/-- A write that the gate of bank b refuses: REFUSED goes back to the ACTIVE lobe (R313). -/
def noteRefused (s : State) (b : Nat) : State :=
  match s.active with
  | some l => if s.lobes.refused.contains (l, b) then s else { s with lobes := { s.lobes with refused := s.lobes.refused ++ [(l, b)] } }
  | none => s

/-- Write a limiter target, saturated at the span limit (R201), through the bank's claim gate (R194). -/
def writeTarget (s : State) (u : Nat) (code : Int) : State :=
  if s.gateOpen (bankOf u) then
    (noteWrite s (bankOf u)).setChan u ((s.chan u).accept s.tick (clampInt 0 (maxCode u) code).toNat)
  else noteRefused s (bankOf u)

/-- Whether a channel takes a direct write only as its newest target: during a span sequence (R201) or while a
REPLACE generator drives it (R207). -/
def State.holdsWrites (s : State) (u : Nat) : Bool :=
  (s.chan u).spanning ||
    (match s.genOf u with | some g => g.mode == 1 | none => false)

/-- Write a code directly: the output and the limiter's target are set to it (Table 7.4). While REFCLK is lost the bank
holds it until its first tick (R194), and in HOLDING until it leaves that state (R217). -/
def writeDirect (s : State) (u : Nat) (code : Int) : State :=
  let n := (clampInt 0 (maxCode u) code).toNat
  if s.gateOpen (bankOf u) then
    let c := s.chan u
    let s := noteWrite s (bankOf u)
    if s.dev.refclkLost || (s.bank (bankOf u)).hold == .holding then
      s.setChan u { c with direct := some n, target := n, taken := n, reached := c.reached && c.target == n }
    else if s.holdsWrites u then s.setChan u (c.accept s.tick n)
    else s.setChan u { c with out := n, target := n, taken := n, accepted := s.tick, reached := c.reached && c.target == n,
                              motion := none, changed := if s.limiterOut u = n then c.changed else s.tick }
  else noteRefused s (bankOf u)

/-- A direct write that a bank held takes effect (R194, R217). -/
def releaseDirect (s : State) (u : Nat) : State :=
  let c := s.chan u
  match c.direct with
  | none => s
  | some n =>
    if s.holdsWrites u then s.setChan u { c.accept s.tick n with direct := none }
    else s.setChan u { c with direct := none, out := n, target := n, taken := n, motion := none,
                              reached := c.reached && c.target == n,
                              changed := if s.limiterOut u = n then c.changed else s.tick }

/-- An output that was held while its bank stood still follows what drives it again. -/
def releaseHeld (s : State) (u : Nat) : State :=
  if (s.chan u).held.isSome ∧ chanKind u ≠ 2 then s.setChan u { s.chan u with held := none, changed := s.tick } else s

/-- A motion goes on where it stood `d` ticks ago. -/
def Motion.delay (m : Motion) (d : Nat) : Motion :=
  match m with
  | .ramp start f g n k => .ramp (start + d) f g n k
  | .spanSeq start f n => .spanSeq (start + d) f n
  | .kick start a d1 b d2 => .kick (start + d) a d1 b d2

/-- A bank leaves HOLDING: what stood still goes on from there, and direct writes it accepted meanwhile take effect. -/
def leaveHolding (s : State) (b : Nat) : State :=
  let x := s.bank b
  if x.hold = .holding then
    let us := (s.drv.chans.filter fun c => bankOf c.1 == b && (c.2.motion.isSome || c.2.direct.isSome || c.2.held.isSome)).map (·.1)
    let s' := s.setBank b { x with hold := .normal }
    us.foldl (fun s u =>
      let s := releaseHeld s u
      releaseDirect (s.setChan u { s.chan u with motion := (s.chan u).motion.map fun m => m.delay (s.tick - x.holdTick) }) u) s'
  else s

/-- Set a channel undisturbed by any limiter: what the hardware itself does inside the bank (R211, R216, R218). -/
def forceCode (s : State) (u n : Nat) : State :=
  let c := s.chan u
  s.setChan u { c with out := n, target := n, taken := n, motion := none, changed := s.tick, reached := c.reached && c.target == n }

/-- The tick from which a motion counts that is to start at tick `start`: in a bank that stands still in HOLDING, as far after the tick
it stands at (R217). -/
def State.motionFrom (s : State) (u start : Nat) : Nat := s.bankTick (bankOf u) + (start - s.tick)

/-- Start a fixed ramp toward a code. -/
def startRamp (s : State) (u goal start num den : Nat) : State :=
  let c := s.chan u
  s.setChan u { c with target := goal, taken := goal, accepted := s.tick, reached := c.reached && c.target == goal,
                       motion := some (.ramp (s.motionFrom u start) (s.limiterOut u) goal num den), changed := s.tick }

/-- Stop the generator of a channel; GEN_SHAPE then reads OFF (R207). -/
def stopGen (s : State) (u : Nat) : State :=
  match s.drv.gens.find? fun g => g.2.chan == u with
  | some (g, _) =>
    let s := noteChange s u
    ({ s with drv := { s.drv with gens := mdel s.drv.gens g } }).setObj Obj.GEN_SHAPE g 0
  | none => s

/-- Start the span sequence of a channel (R199). -/
def startSpanSeq (s : State) (u newSpan start : Nat) : State :=
  let s := stopGen s u
  s.setChan u { s.chan u with motion := some (.spanSeq (s.motionFrom u start) (s.limiterOut u) newSpan), changed := s.tick }

/-- The tick at which a span sequence has dwelt: the ramp's ticks and SPAN_DWELL (R199). -/
def State.dwellEnd (s : State) (u start from_ : Nat) : Nat :=
  let z := zeroCode u (s.chan u).span
  let d := if from_ ≤ z then z - from_ else from_ - z
  start + (d + spanRate u - 1) / spanRate u + s.objN Obj.SPAN_DWELL 0

/-- Whether any span sequence runs. -/
def State.spanSeqRuns (s : State) : Bool :=
  s.drv.chans.any fun c => c.2.spanning

/-- A span sequence of a channel whose present span is the wanted one is given up where it stands; the deglitcher keeps the old code
of a privileged one (R203). -/
def stopSpanSeq (s : State) (u : Nat) : State :=
  if (s.chan u).spanning then
    let n := s.limiterOut u
    let s := noteChange s u
    s.setChan u { s.chan u with out := n, motion := none }
  else s

/-- The start of the safe ramp of a channel of a bank (R218). -/
def safeRamp (s : State) (u start : Nat) : State :=
  let goal := s.safeCode u
  if u < 81920 then startRamp s u goal (max s.tick (start + 6 * (bankOf u % 16))) 1 4
  else if u < 123904 then startRamp s u goal (max s.tick start) 1 1
  else
    let s := stopSpanSeq s u
    s.setChan u ((s.chan u).accept s.tick goal)

/-- The safe transition of one channel (R218): its generator stops, its limiter target becomes its safe code, and a
span that differs is changed first. -/
def safeChan (s : State) (start u : Nat) : State :=
  let s := stopGen s u
  if s.safeSpan u ≠ (s.chan u).span then
    let s := startSpanSeq s u (s.safeSpan u) s.tick
    let c := s.chan u
    let n := s.safeCode u
    s.setChan u { c with target := n, taken := n, accepted := s.tick, reached := c.reached && c.target == n }
  else safeRamp s u start

/-- The safe transition of one bank from a tick (R218). -/
def safeBank (s : State) (start b : Nat) : State :=
  let lanes := List.range 32
  let s := s.setBank b { s.bank b with safeStart := some start }
  lanes.foldl (fun s l => safeChan s start (chanOf b l)) s

/-- The channels that may stand away from their safe codes: every other one is at its factory code, which is its safe
code. -/
def State.movers (s : State) : List Nat :=
  (s.drv.chans.map (·.1) ++ s.drv.safeCodes.map (·.1) ++ s.drv.safeSpans.map (·.1)).eraseDups

/-- The banks whose gates refuse a write that every bank is sent with a claim, where HIGHEST of the others does not exceed it. -/
def State.shutBanks (s : State) (claim : Nat) : List Nat :=
  s.lobes.gateStuck.map (·.1) ++ (s.lobes.gateHigh.filter fun e => decide (claim < e.2)).map (·.1)

/-- A write of the ACTIVE lobe to every bank at once: the gates that are closed to it refuse it, the others take its claim (R313). -/
def writeBanks (s : State) : State :=
  match s.active with
  | none => s
  | some l =>
    let claim := (s.lobe l).claim
    if claim < s.lobes.gateBase then
      { s with lobes := { s.lobes with refused := s.lobes.refused.filter (·.1 ≠ l) ++ (List.range 3874).map fun b => (l, b) } }
    else
      let t := (s.shutBanks claim).foldl noteRefused s
      { t with lobes := { t.lobes with gateBase := claim, gateHigh := s.lobes.gateHigh.filter fun e => decide (claim < e.2),
                                       lastWrite := s.tick } }

/-- The commanded safe transition (R217, R218): a write of the ACTIVE lobe to every bank, which each bank whose gate accepts it runs.
A bank in hold state SAFE has it `commanded`, so that its return to NORMAL does not end it. -/
def safeAll (s : State) : State :=
  (s.movers.filter fun u => s.gateOpen (bankOf u)).foldl (fun s u =>
    let x := s.bank (bankOf u)
    safeChan (s.setBank (bankOf u) { x with safeStart := some s.tick, commanded := x.hold == .safe }) s.tick u) (writeBanks s)

end Sys2Proof.Machine
end

