-- ==== Sys2Proof/Machine/Steady.lean ====
section
/-!
DEFINITION. Steady: heater accounting, grants, the wait queue, the host's request ring, and what the two copies do when
they disagree (R284 to R297).
-/

namespace Sys2Proof.Machine

open Sys2Proof

/-! ### Accounting -/

/-- The channel whose lane a DRIVE_LANE run has put on its internal load, if any (R265, R284): a spare is then on the connection. -/
def State.loadLane (s : State) : Option Nat :=
  let lent := match s.cal.run with | some r => if r.measures then r.lane else none | none => none
  (match s.cal.back with | some u => some u | none => lent).filter fun u => (s.chan u).spare.isSome

def State.putRun (s : State) (r : CalRun) : State := { s with cal := { s.cal with run := some r } }

/-- HEATER_R in 0.1 Ω; 400 Ω on an internal load (R284). -/
def State.heaterR (s : State) (h : Nat) : Nat :=
  if s.loadLane = some (81920 + h) then 4000 else s.objN Obj.HEATER_R h

/-- I squared times c squared times R of a heater in units of 1/(10 * 4,096^2) µW (R284). -/
def heaterUnits (i c r : Nat) : Nat := i * i * c * c * r

def unitScale : Nat := 167772160

/-- The power of heater h at a code and span, in µW, truncated. -/
def State.powerAt (s : State) (h span c : Nat) : Nat :=
  heaterUnits (if span = 0 then 2 else 4) c (s.heaterR h) / unitScale

def State.unitsOf (s : State) (h : Nat) : Nat :=
  let u := 81920 + h
  if s.drivenAt u then heaterUnits (if (s.chan u).span = 0 then 2 else 4) (s.genOut u) (s.heaterR h) else 0

/-- P(h) in µW. -/
def State.power (s : State) (h : Nat) : Nat := s.unitsOf h / unitScale

/-- The heaters that can draw power: those with a record and the VOA heaters; every other trimmer stands at code 0. -/
def State.heaters (s : State) : List Nat :=
  ((s.drv.chans.filter fun c => 81920 ≤ c.1 ∧ c.1 < 122880).map fun c => c.1 - 81920) ++
    (List.range 1024).map (· + 40960)

/-- HEATER_POWER: the sum over all heater channels, truncated to µW (R284). -/
def State.heaterSum (s : State) : Nat :=
  if s.drv.driven && !s.drv.heatersOff then ((s.heaters.map s.unitsOf).foldl (· + ·) 0) / unitScale else 0

/-- GRANTED_HEATER: the undrawn parts of the grants held (R285). -/
def State.granted (s : State) : Int := (s.steady.grants.map (·.left)).foldl (· + ·) 0

/-- The headroom (R285), in µW. -/
def State.headroom (s : State) : Int :=
  1000 * s.steady.budget - 1000 * s.steady.reserve - s.obj Obj.HEATER_POWER 0 - s.granted

/-- The jump charge held by wraps, in 0.1 pC (R292). -/
def State.jumpCharge (s : State) : Nat :=
  ((s.steady.grants.filter fun g => g.kind == .wrap).map (·.charge)).foldl (· + ·) 0

/-- Whether the ceiling of R289 is in force; in FROZEN it always is (R296). -/
def State.ceiling (s : State) : Bool := s.steady.ceiling || s.steady.frozen

/-- Show the accounting in its objects. -/
def showSteady (s : State) : State :=
  let s := s.setObj Obj.GRANTED_HEATER 0 s.granted
  let s := s.setObj Obj.HEADROOM 0 s.headroom
  let s := s.setObjN Obj.WRAP_CHARGE_HELD 0 s.jumpCharge
  let s := s.setObjN Obj.GRANT_WAITING 0 s.steady.queue.length
  let s := s.setObjN Obj.CEILING_ACTIVE 0 (boolNat s.ceiling)
  s.setObjN Obj.STEADY_STATE 0 (boolNat s.steady.frozen)

/-! ### Decisions of the two copies (R296) -/

/-- One decision of a kind of Table 10.10. `upsets` lists the evaluations on which the copies disagree: one entry costs a
second evaluation, on which the copies agree and which counts in MISMATCH_COUNT; two put Steady in FROZEN. The second part says
whether the decision is issued. -/
def steadyDecides (s : State) (kind : Nat) : State × Bool :=
  if s.steady.frozen then (s, false)
  else
    let n := (s.steady.upsets.filter (· == kind)).length
    let drop := fun (s : State) k => { s with steady := { s.steady with
      upsets := (List.range k).foldl (fun l _ => l.erase kind) s.steady.upsets } }
    if n = 0 then (s, true)
    else if n = 1 then ((drop s 1).incSat Obj.MISMATCH_COUNT 0, true)
    else
      let s := drop s 2
      let s := { s with steady := { s.steady with frozen := true } }
      let s := raiseS s 0x5004 [.word kind, .word (s.obj Obj.MISMATCH_COUNT 0)]
      (showSteady (s.fault .steady), false)

/-! ### Grants -/

/-- Whether a heater amount fits (R285, R289). -/
def State.heaterFits (s : State) (heater : Int) : Bool :=
  decide (heater ≤ 0) || (!s.ceiling && decide (heater ≤ s.headroom))

/-- Whether the window of R114 is open: from the T of a commit to the end of its last template. -/
def State.windowOpen (s : State) : Bool := s.com.live.any fun c => c.state == .applying

/-- Whether a jump charge fits R292, outside every window of R114: of the requests here only wraps use VDRV. -/
def State.chargeFits (s : State) (r : GReq) : Bool :=
  r.kind ≠ .wrap || (!s.windowOpen && decide (s.jumpCharge + r.charge ≤ 10 * s.objN Obj.WRAP_CHARGE_MAX 0))

def State.reqFits (s : State) (r : GReq) : Bool := s.heaterFits r.heater && s.chargeFits r

/-- The power the granted channels draw now, from which the undrawn part is counted. -/
def State.basePower (s : State) (chans : List Nat) : Int :=
  ((chans.map fun u => ((s.power (u - 81920) : Nat) : Int))).foldl (· + ·) 0

/-- The state of a ring entry: 1 GRANTED, 2 REFUSED. -/
def closeReq (s : State) (n st : Nat) : State :=
  let s := match mfind s.steady.ring n with
    | some r => { s with steady := { s.steady with ring := mset s.steady.ring n { r with state := st } } }
    | none => s
  s.setObjN Obj.GREQ_STATE n st

/-- A ring entry is no longer asked of the host, its request not yet decided by Steady either: the host sees it UNDECIDED (R295). -/
def passReq (s : State) (n : Nat) : State := (closeReq s n 3).setObjN Obj.GREQ_STATE n 0

/-- A request that Steady's queue took over from the host's ring shows its grant there (R295). -/
def showPassed (s : State) (r : GReq) : State :=
  match s.steady.ring.find? fun e => e.2.state == 3 && e.2.req.kind == r.kind && e.2.req.source == r.source with
  | some e => closeReq s e.1 1
  | none => s

/-- Hold a grant. -/
def issueGrant (s : State) (r : GReq) : State :=
  let s := showPassed s r
  let g : Grant := { kind := r.kind, source := r.source, heater := r.heater, left := max 0 r.heater,
                     base := s.basePower r.chans, chans := r.chans, charge := r.charge, dir := r.dir }
  showSteady (({ s with steady := { s.steady with grants := s.steady.grants ++ [g] } }).incSat Obj.GRANTS_ISSUED 0)

/-- An immediate decision of Table 10.1 whose request holds a grant: issued, or refused and counted. -/
def grantNow (s : State) (r : GReq) : State × Bool :=
  let (s, ok) := steadyDecides s r.kind.code
  if ok && s.reqFits r then (issueGrant s r, true) else (s.incSat Obj.GRANTS_REFUSED 0, false)

/-- An immediate decision that holds no grant (SAFE_STORE). -/
def decideNow (s : State) (kind : Nat) (fits : State → Bool) : State × Bool :=
  let (s, ok) := steadyDecides s kind
  if ok && fits s then (s, true) else (s.incSat Obj.GRANTS_REFUSED 0, false)

/-- Whether a grant of a kind and source is held. -/
def State.holds (s : State) (k : GKind) (src : Nat) : Bool :=
  s.steady.grants.any fun g => g.kind == k && g.source == src && !g.released

/-- Drop a grant without serving the queue. -/
def dropGrant (s : State) (k : GKind) (src : Nat) : State :=
  showSteady { s with steady := { s.steady with grants := s.steady.grants.filter fun g => !(g.kind == k && g.source == src) } }

/-- A grant given back whose release is not issued: held until STEADY_RESET (R296). -/
def markReleased (s : State) (k : GKind) (src : Nat) : State :=
  { s with steady := { s.steady with grants := s.steady.grants.map fun g =>
      if g.kind == k && g.source == src then { g with released := true } else g } }

/-- Whether Steady may grant a waiting request: no calibration while THROTTLE or higher (R304). -/
def State.mayServe (s : State) (r : GReq) : Bool :=
  s.reqFits r && !(r.kind == .calibration && decide (2 ≤ s.therm.state))

/-- Serve the wait queue strictly in order (R288). -/
def serveList : List GReq → State → State
  | [], s => { s with steady := { s.steady with queue := [] } }
  | r :: t, s =>
    if s.mayServe r then
      let (s, ok) := steadyDecides s r.kind.code
      if ok then serveList t (issueGrant s r) else { s with steady := { s.steady with queue := r :: t } }
    else { s with steady := { s.steady with queue := r :: t } }

def serveQueue (s : State) : State :=
  if s.steady.frozen then s else showSteady (serveList s.steady.queue s)

/-- Release a grant and serve the queue (R288). In FROZEN held grants stay held (R296). -/
def releaseGrant (s : State) (k : GKind) (src : Nat) : State :=
  if s.holds k src then
    let (s, ok) := steadyDecides s 9
    if ok then serveQueue (dropGrant s k src) else markReleased s k src
  else s

/-- The undrawn parts of the grants at the present limiter outputs (R285): a fall in P(h) is no increase. -/
def drawGrants (s : State) : State :=
  { s with steady := { s.steady with grants := s.steady.grants.map fun g =>
      { g with left := max 0 (g.heater - max 0 (s.basePower g.chans - g.base)) } } }

/-! ### The host's ring (R293, R295) -/

/-- Write a request into the ring's next entry and raise GRANT_REQUEST. -/
def ringWrite (s : State) (n : Nat) (r : GReq) : State :=
  let seq := s.steady.nextSeq
  let s := { s with steady := { s.steady with
    ring := mset s.steady.ring n { seq, req := r, state := 0, due := s.tick + s.objN Obj.GRANT_HOST_DEADLINE 0 * 625 / 4 },
    nextSeq := (seq + 1) % (u32Max + 1) } }
  let s := s.setObjN Obj.GREQ_HEAD 0 n
  let s := s.setObjN Obj.GREQ_SEQ n seq
  let s := s.setObjN Obj.GREQ_KIND n r.kind.code
  let s := s.setObjN Obj.GREQ_SOURCE n r.source
  let s := s.setObj Obj.GREQ_HEATER n (max 0 r.heater)
  let s := s.setObjN Obj.GREQ_CHARGE n r.charge
  let s := s.setObjN Obj.GREQ_WAVES n r.waves
  let s := s.setObjN Obj.GREQ_STATE n 0
  raiseS s 0x5003 [.word seq, .word r.kind.code]

/-- Whether a ring entry is decided: one passed to Steady's queue is not, until the queue serves or drops it (R295). -/
def RingReq.closed (r : RingReq) : Bool := r.state != 0 && r.state != 3

/-- Whether ring entry n may be reused: it holds no undecided request. -/
def State.ringFree (s : State) (n : Nat) : Bool :=
  match mfind s.steady.ring n with
  | some r => r.closed
  | none => true

/-- The entry a new request takes: the first free one after GREQ_HEAD, from entry 0 before the first request; none while
all 64 hold undecided requests (R295). -/
def State.ringNext (s : State) : Option Nat :=
  let h := if s.steady.ring.isEmpty then 0 else s.objN Obj.GREQ_HEAD 0 + 1
  ((List.range 64).map fun i => (h + i) % 64).find? s.ringFree

/-- Requests that wait for an entry take those now free, in order of arrival. -/
def refillRing : List GReq → State → State
  | [], s => { s with steady := { s.steady with overflow := [] } }
  | r :: t, s =>
    match s.ringNext with
    | some n => refillRing t (ringWrite s n r)
    | none => { s with steady := { s.steady with overflow := r :: t } }

def refill (s : State) : State := refillRing s.steady.overflow s

/-- Make a request to the host, or let it wait for a free entry (R295). -/
def askHost (s : State) (r : GReq) : State :=
  refill { s with steady := { s.steady with overflow := s.steady.overflow ++ [r] } }

/-- How many requests ago a sequence number was given; the numbers wrap to 0. -/
def State.reqAge (s : State) (seq : Nat) : Nat := (s.steady.nextSeq + 2 * (u32Max + 1) - seq) % (u32Max + 1)

/-- Put a ring entry in its place by age, the oldest first. -/
def State.insertOld (s : State) (e : Nat × RingReq) : List (Nat × RingReq) → List (Nat × RingReq)
  | [] => [e]
  | x :: t => if s.reqAge x.2.seq ≤ s.reqAge e.2.seq then e :: x :: t else x :: s.insertOld e t

/-- Undecided ring entries, oldest first: ring order. -/
def State.undecided (s : State) : List (Nat × RingReq) :=
  (s.steady.ring.filter fun e => e.2.state == 0).foldl (fun l e => s.insertOld e l) []

/-- A request of the wait queue: to the host in host mode, else to the queue of 512 (R288). The second part says
whether it was taken. -/
def requestGrant (s : State) (r : GReq) : State × Bool :=
  if s.hostMode 5 then (askHost s r, true)
  else if s.steady.queue.length < 512 then
    (showSteady (serveQueue { s with steady := { s.steady with queue := s.steady.queue ++ [r] } }), true)
  else (s, false)

/-- Whether a request of a kind and source waits, with Steady or with the host. -/
def State.waits (s : State) (k : GKind) (src : Nat) : Bool :=
  (s.steady.queue.any fun r => r.kind == k && r.source == src) ||
  (s.steady.overflow.any fun r => r.kind == k && r.source == src) ||
  (s.steady.ring.any fun r => r.2.state == 0 && r.2.req.kind == k && r.2.req.source == src)

/-- The wrap requests that wait, with Steady or with the host: the element and the direction. -/
def State.wrapEntries (s : State) : List (Nat × Int) :=
  let rs := s.steady.queue ++ s.steady.overflow ++ (s.steady.ring.filter fun e => e.2.state == 0).map fun e => e.2.req
  (rs.filter fun r => r.kind == .wrap).map fun r => (r.source, r.dir)

/-- Take back a waiting request: its entry in the ring counts as refused, and is free again. -/
def withdraw (s : State) (k : GKind) (src : Nat) : State :=
  let keep := fun (r : GReq) => !(r.kind == k && r.source == src)
  let s := { s with steady := { s.steady with queue := s.steady.queue.filter keep, overflow := s.steady.overflow.filter keep } }
  let s := (s.steady.ring.filter fun e => !e.2.closed && !keep e.2.req).foldl (fun s e => closeReq s e.1 2) s
  showSteady (refill s)

/-! ### Once per scan -/

/-- Budgets written since the last scan boundary come into force (R290). -/
def takeBudgets (s : State) : State :=
  if s.steady.pendingBudget then
    { s with steady := { s.steady with pendingBudget := false, budget := s.obj Obj.HEATER_BUDGET 0,
                                       reserve := s.obj Obj.LOOP_RESERVE 0 } }
  else s

/-- The heater power, the undrawn parts and the ceiling, where the copies agree on the accounting (R284, R285, R289). -/
def accountScan (s : State) : State :=
  let p : Int := s.heaterSum
  let s := drawGrants (s.setObj Obj.HEATER_POWER 0 p)
  let total := p + s.granted
  let b := 1000 * s.steady.budget
  let was := s.steady.ceiling
  let now := if was then decide (b - 500000 ≤ total) else decide (b ≤ total)
  let s := { s with steady := { s.steady with ceiling := now } }
  if now && !was then raiseS s 0x5001 [.word p, .word s.granted] else s

/-- Heater accounting at a scan boundary (R284, R285, R289, R290). An accounting that is not issued leaves the last one
standing; a new HEATER_BUDGET below the power raises HEATER_OVER_BUDGET. -/
def heaterScan (s : State) : State :=
  let taken := s.steady.newBudget
  let s := takeBudgets { s with steady := { s.steady with newBudget := false } }
  let (s, ok) := steadyDecides s 8
  let s := if ok then accountScan s else s
  let p := s.obj Obj.HEATER_POWER 0
  let s := if taken && decide (1000 * s.steady.budget < p) then raiseS s 0x5002 [.word p, .word s.steady.budget] else s
  showSteady s

end Sys2Proof.Machine
end

