-- ==== Sys2Proof/Machine/LoopOps.lean ====
section
/-!
DEFINITION. What every meaning that touches a loop is written over: the geometry of cells and lines (R44, R45, R138), an
element's phase and drive (R140, R141), entering the states of Table 5.2, wraps (R150 to R152), and VOA loops (R156 to
R158).
-/

namespace Sys2Proof.Machine

open Sys2Proof

/-! ### Geometry -/

/-- The paired bit of a stage (Table 2.1). -/
def pairedBit (s : Nat) : Nat := if s = 19 then 0 else if s ≤ 8 then 9 - s else s - 9

/-- The position of the cell that carries line x at a stage with paired bit b (R45). -/
def cellPos (b x : Nat) : Nat := x / 2 ^ (b + 1) * 2 ^ b + x % 2 ^ b

/-- The line on input `idx` of the cell at position c (R45). -/
def lineAt (b c idx : Nat) : Nat := c / 2 ^ b * 2 ^ (b + 1) + idx * 2 ^ b + c % 2 ^ b

def cellIndex (p s c : Nat) : Nat := (p * 20 + s) * 512 + c

def planeOfCell (k : Nat) : Nat := k / 10240
def stageOfCell (k : Nat) : Nat := k / 512 % 20
def posOfCell (k : Nat) : Nat := k % 512

/-- The cell and the column of an element (R8). -/
def cellOf (e : Nat) : Nat := e / 2
def columnOf (e : Nat) : Nat := e / 1024

/-- The photodiode of the line that enters input `idx` of a cell, and whether its reading is halved (R138, R180). -/
def linePd (k idx : Nat) : Nat × Bool :=
  let s := stageOfCell k
  let x := lineAt (pairedBit s) (posOfCell k) idx
  if s = 19 then (81920 + x, true)
  else
    let s' := if s = 0 then 19 else s - 1
    let b' := pairedBit s'
    (4 * cellIndex (planeOfCell k) s' (cellPos b' x) + 2 + bitOf x b', false)

/-- The tap pair of an element (Table 5.1). -/
def tapPair (e : Nat) : Nat × Nat := if e % 2 = 0 then (2 * e, 2 * e + 1) else (2 * e, 2 * e + 1)

/-! ### Access -/

def State.elem (s : State) (e : Nat) : Elem := mget {} s.loops.elems e

/-- Put an element's record; an element that leaves LOCKED is noted for the capture buffers (R347). -/
def State.setElem (s : State) (e : Nat) (x : Elem) : State :=
  let left := (s.elem e).state == .locked && x.state != .locked
  let s := { s with loops := { s.loops with elems := mset s.loops.elems e x } }
  if left then s.capNote fun _ a => { a with lockLost := e :: a.lockLost } else s

/-- Whether a cell is in CROSS: the record of its element 0 says so (Table 3.3). -/
def State.cellCross (s : State) (k : Nat) : Bool := (s.elem (2 * k)).cross

def State.voa (s : State) (o : Nat) : Voa := mget {} s.loops.voas o

def State.setVoa (s : State) (o : Nat) (x : Voa) : State :=
  { s with loops := { s.loops with voas := mset s.loops.voas o x } }

def State.column (s : State) (c : Nat) : Column := mget {} s.loops.cols c

def State.setColumn (s : State) (c : Nat) (x : Column) : State :=
  { s with loops := { s.loops with cols := mset s.loops.cols c x } }

def State.pd (s : State) (p : Nat) : Pd := mget {} s.mon.pds p

def State.setPd (s : State) (p : Nat) (x : Pd) : State := { s with mon := { s.mon with pds := mset s.mon.pds p x } }

/-- A photodiode's word of the scan before scan n (R138). -/
def Pd.before (x : Pd) (n : Nat) : Sample := if x.at_ < n then x.value else x.prev

/-- A line's power in the scan before scan n, halved with truncation in the spare stage (R138, R180), with its tag. -/
def State.powerBefore (s : State) (n k idx : Nat) : Sample :=
  let (p, half) := linePd k idx
  let x := (s.pd p).before n
  if half then { x with p := floorDiv x.p 2 } else x

/-- A line's power in the scan before the present one. -/
def State.linePower (s : State) (k idx : Nat) : Sample := s.powerBefore s.scan k idx

/-- Ua and Ub of an element for an evaluation in scan n (Table 5.1). -/
def State.lines (s : State) (n e : Nat) : Sample × Sample :=
  let k := cellOf e
  if e % 2 = 0 then (s.powerBefore n k 0, s.powerBefore n k 1) else ((s.pd (4 * k)).before n, (s.pd (4 * k + 1)).before n)

/-- Whether the line powers of both elements of a cell are valid in a scan (R234): for element 1 they are the taps t = 0 and 1. -/
def State.linesValid (s : State) (n k : Nat) : Bool :=
  !(s.powerBefore n k 0).inv && !(s.powerBefore n k 1).inv && !((s.pd (4 * k)).before n).inv && !((s.pd (4 * k + 1)).before n).inv

/-- r = Ua/(Ua + Ub) of the cell as a quotient of the two line powers (R147). -/
def State.ratioNow (s : State) (e : Nat) : Option (Int × Int) :=
  let k := cellOf e
  let a := s.linePower k 0
  let b := s.linePower k 1
  if a.inv || b.inv then none else some (a.p, a.p + b.p)

/-- Record r as it is when t of a cell is set (R147): element 0 of the cell holds it. -/
def noteRatio (s : State) (k : Nat) : State := s.setElem (2 * k) { s.elem (2 * k) with ratio := s.ratioNow (2 * k) }

/-- The class of a cell in effect (Table 2.8): 3 is BLOCKED. -/
def State.cellClass (s : State) (k : Nat) : Nat := s.objN Obj.CELL_CLASS k

/-- The span a channel's conversions use: the new one from the apply on (R201). -/
def State.spanOf (s : State) (u : Nat) : Nat :=
  let c := s.chan u
  match c.motion with
  | some (.spanSeq _ _ n) => n
  | _ => c.span

/-- Whether a role computes the loops (Table 11.1). -/
def computesLoops (r : Role) : Bool := r == .syncing || r == .standby || r == .active

/-- Whether the device state runs loops (Table 18.4) and a lobe computes them (Table 11.1, R338). -/
def State.loopsRun (s : State) : Bool :=
  (s.dev.state == .parked || s.dev.state == .service || s.dev.state == .draining) &&
    (computesLoops s.lobes.each.a.role || computesLoops s.lobes.each.b.role)

/-- Whether a commit is applying or settling (R150). -/
def State.commitMoving (s : State) : Bool := s.com.live.any fun c => c.state == .applying || c.state == .settling

/-! ### Phase and drive -/

def Elem.phi (x : Elem) : Int := x.phiC + x.phiL + x.phiW

/-- The effective Pockels limit (R141). -/
def State.pockelsLimit (s : State) (e : Nat) : Int :=
  min (s.law Obj.POCKELS_LIMIT 0) (if s.spanOf (armA e) = 0 then 9728 else 19456)

/-- The arm codes of a phase of element e (R79, R259). -/
def State.codesOf (s : State) (e : Nat) (phi : Int) : Nat × Nat :=
  armCodes (s.spanOf (armA e)) ((s.fastMap e).conv phi)

/-- The phase of the present arm codes, through the inverse map of R326. -/
def State.phaseNow (s : State) (e : Nat) : Int :=
  let d : Int := (s.outCode (armA e) : Int) - s.outCode (armB e)
  (s.fastMap e).inv (if (s.chan (armA e)).span = 0 then floorDiv d 2 else d)

/-- Drive element e to its phase through the limiter; an arm whose code does not move is not written (R140). -/
def driveElem (s : State) (e : Nat) : State :=
  let (a, b) := s.codesOf e (s.elem e).phi
  let s := if (s.chan (armA e)).target = a then s else writeTarget s (armA e) a
  if (s.chan (armB e)).target = b then s else writeTarget s (armB e) b

/-- The heater code of a heater phase of element e. -/
def State.heaterCodeOf (s : State) (e : Nat) (theta : Int) : Nat :=
  heaterCode (s.spanOf (trimmer e)) ((s.heaterMap e).conv theta)

/-- Drive the trimmer to a heater phase through its limiter. -/
def driveTrimmer (s : State) (e : Nat) (theta : Int) : State := writeTarget s (trimmer e) (s.heaterCodeOf e theta)

/-- The VOA heater code of an attenuation. -/
def State.voaCodeOf (s : State) (o : Nat) (atten : Nat) : Nat :=
  heaterCode (s.spanOf (voaChan o)) ((s.voaMap o).conv atten)

/-- A VOA's calibrated maximum-attenuation code, bp(25) of its map (R259), for its present span. -/
def State.voaMaxCode (s : State) (o : Nat) : Nat := heaterCode (s.spanOf (voaChan o)) ((s.voaMap o).bp 25)

/-- The attenuation whose conversion gives at least a VOA's limiter target (R157, R326). -/
def State.voaAttenNow (s : State) (o : Nat) : Nat :=
  let c := s.chan (voaChan o)
  ((s.voaMap o).inv (heaterUncode c.span c.target)).toNat

/-! ### States of an element loop -/

/-- Entry to ACQUIRE (R141): the step becomes ACQ_STEP, run and last_sign 0. The counts of Table 5.3 start anew with the
state (DESIGN CHOICE, log entry 196). -/
def Elem.toAcquire (x : Elem) (acqStep : Int) : Elem :=
  { x with state := .acquire, step := acqStep, run := 0, lastSign := 0, bandRun := 0, darkRun := 0, unobsRun := 0,
           lossRun := 0, enabling := false }

/-- Entry to LOCKED (R144, R146): from WRAPPING the element has been LOCKED or WRAPPING all along. The count of lock losses starts anew
(DESIGN CHOICE, log entry 196). -/
def Elem.toLocked (x : Elem) (step : Int) (tick : Nat) : Elem :=
  { x with state := .locked, step := step, lossRun := 0, dir := 1, xLast := none,
           lockTick := if x.state = .wrapping then x.lockTick else tick }

/-- A wrap of an element is over: its heater phase, and WRAP_STALLED may be raised for the next (R152). -/
def Elem.endWrap (x : Elem) (theta : Int) : Elem :=
  { x with theta := theta, wrap := none, stallRaised := false }

/-- The wrap of an element pauses whenever the element leaves WRAPPING (R152). -/
def Elem.pauseWrap (x : Elem) (tick : Nat) : Elem :=
  match x.wrap with
  | some w => if w.paused then x else { x with wrap := some { w with paused := true }, idleSince := tick }
  | none => x

/-- Whether an element must be DISABLED (Table 5.3, first row). A LOOP_ENABLE written counts from the next scan boundary (R472). -/
def State.mustDisable (s : State) (e : Nat) : Bool :=
  s.cellClass (cellOf e) == 3 || s.objN Obj.ELEMENT_FAULT e != 0 || s.law Obj.LOOP_ENABLE e == 0

/-- Put an element in DISABLED; a running wrap pauses. -/
def disableElem (s : State) (e : Nat) : State :=
  let x := s.elem e
  if x.state = .disabled then s
  else s.setElem e { x.pauseWrap s.tick with state := .disabled, stepping := false, clipped := false, enabling := false }

/-- DISABLED to ACQUIRE (Table 5.3): from the present codes, a paused wrap ended with its heater command where it
stands. -/
def enableElem (s : State) (e : Nat) : State :=
  let x := s.elem e
  let theta := match x.wrap with | some w => w.hCmd | none => x.theta
  let had := x.wrap.isSome
  let x := { (if had then x.endWrap theta else x) with phiC := s.phaseNow e, phiL := 0, phiW := 0 }
  let s := s.setElem e (x.toAcquire (s.law Obj.ACQ_STEP 0))
  if had then releaseGrant s .wrap e else s

/-- ACQUIRE from the present codes with φl and φw 0, for a loop that restarts (R164, R518). -/
def reacquire (s : State) (e : Nat) : State :=
  let x := { s.elem e with phiC := s.phaseNow e, phiL := 0, phiW := 0 }
  s.setElem e (x.toAcquire (s.law Obj.ACQ_STEP 0))

/-- Every element that the state lists by name, and every element a loop must act on: all 40,960 (R8). -/
def allElems : List Nat := List.range 40960

/-- Put every loop OPEN (Table 18.4: SAFE, FAULT_HOLD, SELFTEST): a DISABLED one stays so, wraps pause, and a looped one is
marked so that it can go on under R518. -/
def openAll (s : State) : State :=
  let lost := (s.loops.elems.filter fun e => e.2.state == .locked).map (·.1)
  let s := s.capNote fun _ a => { a with lockLost := lost ++ a.lockLost }
  { s with loops := { s.loops with
      elems := mmap (fun _ x => if x.state = .disabled then x
        else { x.pauseWrap s.tick with state := .opened, stepping := false,
                                       suspended := x.suspended || x.state != .opened }) s.loops.elems
      voas := mmap (fun _ v => if v.state = .disabled then v else { v with state := .opened }) s.loops.voas } }

/-! ### The outer loop's sums (R146, R183) -/

/-- One scan of an outer period: the leak and the wanted word, and which input line was lit and which unlit. -/
def OuterSum.addScan (o : OuterSum) (leak wanted : Sample) (lit0 lit1 unlit0 unlit1 : Bool) : OuterSum :=
  { o with count := o.count + 1, leak := o.leak.add leak, wanted := o.wanted.add wanted
           lit0 := o.lit0 && lit0, lit1 := o.lit1 && lit1, unlit0 := o.unlit0 && unlit0, unlit1 := o.unlit1 && unlit1 }

/-- The output taps of cell k arrive with the words of scan n: both its elements sum them. The wanted tap is the cell output that carries
the lit line: the same index in BAR, the other in CROSS. -/
def outerAdd (s : State) (n k : Nat) : State :=
  let code := s.lawN Obj.OUTER_PERIOD 0
  let start := n / periodScans code * periodScans code
  let d := s.law Obj.DARK_LEVEL 0
  let l0 := s.powerBefore n k 0
  let l1 := s.powerBefore n k 1
  let lit := fun (l : Sample) => !l.inv && decide (d ≤ l.p)
  let unlit := fun (l : Sample) => !l.inv && decide (l.p < d)
  let t2 := (s.pd (4 * k + 2)).value
  let t3 := (s.pd (4 * k + 3)).value
  let wantOne := lit l1 != s.cellCross k
  let add := fun (s : State) (e : Nat) =>
    let x := s.elem e
    let x := if x.outer.start = start then x else { x with outerDone := x.outer, outer := { start } }
    s.setElem e { x with outer := x.outer.addScan (if wantOne then t2 else t3) (if wantOne then t3 else t2)
                                    (lit l0) (lit l1) (unlit l0) (unlit l1) }
  add (add s (2 * k)) (2 * k + 1)

/-! ### Wraps -/

/-- Wraps of a column running or paused (R150). -/
def State.wrapsActive (s : State) (col : Nat) : Nat :=
  (s.loops.elems.filter fun p => columnOf p.1 = col ∧ p.2.wrap.isSome).length

/-- Whether the spans of an element allow a wrap (R149, R201). -/
def State.wideSpans (s : State) (e : Nat) : Bool :=
  s.spanOf (armA e) == 1 && s.spanOf (armB e) == 1 && s.spanOf (trimmer e) == 1

/-- Whether an element can wrap at all (R149). -/
def State.canWrap (s : State) (e : Nat) : Bool := s.wideSpans e && s.law Obj.WRAP_ENABLE 0 == 1

/-- One scan of the thermal model and carry of a wrap (R150, R152): the heater command moves only while it runs. -/
def Wrap.advance (w : Wrap) (running : Bool) (rate alpha : Int) : Wrap :=
  let cmd := if running then
      (if w.d < 0 then max w.hEnd (w.hCmd - rate) else min w.hEnd (w.hCmd + rate)) else w.hCmd
  { w with hCmd := cmd, hModel := w.hModel + floorDiv ((cmd - w.hModel) * alpha) 32768 }

def Wrap.carry (w : Wrap) : Int := w.jumps - (w.hModel - w.hStart)

/-- Whether an element's drive follows its φ (R140): not in OPEN and DISABLED, which hold their codes (Table 5.2), and not while its
loop is suspended and the template of a commit writes them. -/
def Elem.drives (x : Elem) : Bool := x.state != .opened && x.state != .disabled && !x.suspended

/-- The codes of an element follow a φ that has changed. -/
def followPhi (s : State) (e : Nat) : State := if (s.elem e).drives then driveElem s e else s

/-- One scan of a wrap that runs or is paused, with its jump written directly (R151) and its end (R150). -/
def wrapScan (s : State) (e : Nat) : State :=
  let x := s.elem e
  match x.wrap with
  | none => s
  | some w =>
    let running := !w.paused && decide (x.state = .wrapping)
    let w := w.advance running (s.law Obj.WRAP_RATE 0) (s.obj Obj.THERMAL_ALPHA e)
    let at_ := x.phiC + x.phiL + w.carry
    let j := s.law Obj.WRAP_JUMP 0
    let jump : Int := if running && decide (j < at_) then -32768 else if running && decide (at_ < -j) then 32768 else 0
    let w := { w with jumps := w.jumps + jump }
    let s := if running then driveTrimmer s e w.hCmd else s
    let ended := running && w.hCmd == w.hEnd && decide ((w.hEnd - w.hModel).natAbs ≤ 1)
    let x := { x with phiW := w.carry, wrap := some w, theta := w.hCmd }
    let x := if ended then ({ x with phiL := x.phiL + x.phiW, phiW := 0 }.endWrap w.hEnd).toLocked (s.law Obj.STEP 0) s.tick else x
    let s := s.setElem e x
    let s := if jump ≠ 0 then
        let (a, b) := s.codesOf e x.phi
        writeDirect (writeDirect s (armA e) a) (armB e) b
      else followPhi s e
    if ended then releaseGrant s .wrap e else s

/-- A paused wrap resumes at the first scan with its element LOCKED and no commit moving (R152). -/
def wrapResume (s : State) (e : Nat) : State :=
  let x := s.elem e
  match x.wrap with
  | some w =>
    if w.paused && decide (x.state = .locked) && !x.suspended && !s.commitMoving && s.canWrap e && s.loopsRun && !s.hostMode 1 &&
        s.lobes.final.isNone then
      s.setElem e { x with state := .wrapping, wrap := some { w with paused := false } }
    else s
  | none => s

/-! ### VOA loops -/

/-- Whether a VOA's heater lane is lost (R212). -/
def State.voaLost (s : State) (o : Nat) : Bool := (s.chan (voaChan o)).lost

def State.voaMustDisable (s : State) (o : Nat) : Bool := s.obj Obj.VOA_ENABLE o == 0 || s.voaLost o

def disableVoa (s : State) (o : Nat) : State :=
  s.setVoa o { s.voa o with state := .disabled, vstepping := false, leaving := false }

/-- The input a VOA follows, if its source is one: 0-3 SPA, 4-7 SPP. -/
def State.voaInput (s : State) (o : Nat) : Option Nat :=
  let v := s.objN Obj.VOA_SOURCE o
  if v = 0 then none else some (v - 1)

/-- Whether a set-point input is valid. -/
def State.inputValid (s : State) (n : Nat) : Bool :=
  if n < 4 then (mget {} s.mon.spa n).valid else (mget {} s.mon.spp (n - 4)).valid

/-- The newest target of a VOA in 0.01 dBm (R158). -/
def State.voaNewest (s : State) (o : Nat) : Int :=
  match s.voaInput o with
  | none => s.obj Obj.VOA_TARGET o
  | some n =>
    let x := if n < 4 then s.obj Obj.SPA_VALUE n else s.obj Obj.SPP_VALUE (n - 4)
    s.law Obj.SP_LOW n + floorDiv ((s.law Obj.SP_HIGH n - s.law Obj.SP_LOW n) * x) 32768

/-- A write of a VOA's target or source, or a commit's: another target clears TARGET_REACHED (R155). -/
def voaRetarget (s : State) (o : Nat) : State :=
  let v := s.voa o
  s.setVoa o { v with tReached := v.tReached && decide (s.voaNewest o = v.eff) }

/-- A set-point slew step (R155). -/
def slewTo (present target limit : Int) : Int :=
  if present < target then min target (present + limit) else max target (present - limit)

/-- Power target in linear tap power of output o, through OUT_TAP_REF (R156, R282). -/
def State.tapTarget (s : State) (o : Nat) (dbm : Int) : Int := tapPower (dbm - s.obj Obj.OUT_TAP_REF o)

/-- Drive a VOA to its attenuation through its limiter, as a commit or a step writes it. -/
def driveVoa (s : State) (o : Nat) : State := writeTarget s (voaChan o) (s.voaCodeOf o (s.voa o).atten)

/-- What the ceiling of R289 lets pass: a step that would raise a heater code is skipped and counted. The second part
says whether the step is made. -/
def ceilingPass (s : State) (u : Nat) (code : Nat) : State × Bool :=
  if s.ceiling && decide ((s.chan u).target < code) then (s.incSat Obj.CEILING_SKIPS 0, false) else (s, true)

end Sys2Proof.Machine
end

