-- ==== Sys2Proof/Machine/Images.lean ====
section
/-!
DEFINITION. Images in library slots: their place and layout in HBM (R75, Tables 3.1 to 3.4), the checksum of R78, the
hash of R77, routes through a plane (R46), the checks of Table 3.6 and the revalidation rule of R80.
-/

namespace Sys2Proof.Machine

open Sys2Proof

/-! ### Place and fields -/

def slotBytes : Nat := 393216

/-- Region L: slot s begins at s * 393,216 (R497). -/
def slotBase (slot : Nat) : Nat := slot * slotBytes

/-- `n` bytes of a slot from an offset. -/
def State.slotRead (s : State) (slot off n : Nat) : List Byte := memRead n (slotBase slot + off) s.hbm

/-- A field of a slot, least significant byte first. -/
def State.slotField (s : State) (slot off n : Nat) : Nat := ofLe (s.slotRead slot off n)

/-- Write bytes of a slot, none of them beyond its end. A word that is written whole holds good data again (R498). -/
def State.slotWrite (s : State) (slot off : Nat) (b : List Byte) : State :=
  let a := slotBase slot + off
  let b := b.take (slotBytes - off)
  { s with hbm := memWrite s.hbm a b,
           mat := { s.mat with badWords := s.mat.badWords.filter fun w => !(decide (a ≤ w.1 ∧ w.1 + w.2 ≤ a + b.length)) } }

def State.slotHash (s : State) (slot : Nat) : Nat := s.slotField slot 0x008 8
def State.slotFaultGen (s : State) (slot : Nat) : Nat := s.slotField slot 0x010 4
def State.slotCalGen (s : State) (slot : Nat) : Nat := s.slotField slot 0x014 4
def State.slotRefineCount (s : State) (slot : Nat) : Nat := s.slotField slot 0x018 4

/-- PORT_MAP entries (R73). -/
def State.slotPortMap (s : State) (slot : Nat) : List Nat :=
  let b := s.slotRead slot 0x800 2048
  (List.range 1024).map fun i => le b (2 * i) 2

/-- Route table entries, n = p * 1,024 + i (R76). -/
def State.slotRoutes (s : State) (slot : Nat) : List Nat :=
  let b := s.slotRead slot 0x53000 4096
  (List.range 2048).map fun n => le b (2 * n) 2

/-- The 8 bytes of element record e (Table 3.3). -/
def State.elemRecord (s : State) (slot e : Nat) : List Byte := s.slotRead slot (0x1000 + 8 * e) 8

/-- The 8 bytes of VOA record o (Table 3.4). -/
def State.voaRecord (s : State) (slot o : Nat) : List Byte := s.slotRead slot (0x51000 + 8 * o) 8

/-! ### CRC-32C (R78) -/

/-- One bit of the reflected Castagnoli polynomial. -/
def crcBit (c : Nat) : Nat := if c % 2 = 1 then (c / 2) ^^^ 0x82F63B78 else c / 2

/-- One byte. -/
def crcByte (c b : Nat) : Nat :=
  crcBit (crcBit (crcBit (crcBit (crcBit (crcBit (crcBit (crcBit (c ^^^ b))))))))

/-- A linear map of 32-bit words, given by the images of the 32 bits. -/
def applyLin : List Nat → Nat → Nat
  | [], _ => 0
  | m :: t, v => (if v % 2 = 1 then m else 0) ^^^ applyLin t (v / 2)

/-- The maps that pass 1, 2, 4, ... zero bytes, `n` of them. -/
def zeroMaps : Nat → List Nat → List (List Nat)
  | 0, _ => []
  | n + 1, m => m :: zeroMaps n (m.map (applyLin m))

/-- The map that one zero byte makes on the running value. -/
def zeroByteMap : List Nat := (List.range 32).map fun i => crcByte (2 ^ i) 0

/-- Pass `n` zero bytes. -/
def passZeros : List (List Nat) → Nat → Nat → Nat
  | [], _, c => c
  | m :: t, n, c => passZeros t (n / 2) (if n % 2 = 1 then applyLin m c else c)

/-- The running value over the cells of a stretch of memory from `at_` to `end_`, unlisted bytes being zero. Each gap is
passed at once. -/
def crcCells (maps : List (List Nat)) : List Host.Cell → Nat → Nat → Nat → Nat
  | [], at_, end_, c => passZeros maps (end_ - at_) c
  | (a, b) :: t, at_, end_, c => crcCells maps t (a + 1) end_ (crcByte (passZeros maps (a - at_) c) b.toNat)

/-- CRC of bytes in order. -/
def crcBytes (c : Nat) : List Byte → Nat
  | [] => c
  | b :: t => crcBytes (crcByte c b.toNat) t

/-- CRC-32C of a list of bytes. -/
def crc32c (b : List Byte) : Nat := crcBytes 0xFFFFFFFF b ^^^ 0xFFFFFFFF

/-- CRC-32C of a slot with its four CRC bytes read as 0 (R78). -/
def State.slotCrc (s : State) (slot : Nat) : Nat :=
  let a := slotBase slot
  let cells := s.hbm.filter fun c => decide (a ≤ c.1 ∧ c.1 < a + slotBytes) && !decide (a + 0x1C ≤ c.1 ∧ c.1 < a + 0x20)
  crcCells (zeroMaps 20 zeroByteMap) cells a (a + slotBytes) 0xFFFFFFFF ^^^ 0xFFFFFFFF

/-- Write the CRC field last. -/
def State.slotSeal (s : State) (slot : Nat) : State := s.slotWrite slot 0x1C (leBytes 4 (s.slotCrc slot))

/-! ### PERM_HASH (R77) -/

def fnvStep (h : Nat) (b : Byte) : Nat := ((h ^^^ b.toNat) * 0x100000001B3) % 2 ^ 64

def permHash (portMap : List Byte) : Nat := portMap.foldl fnvStep 0xCBF29CE484222325

/-! ### Routes (R46) -/

def lightOrder : List Nat := [19, 0, 1, 2, 3, 4, 5, 6, 7, 8, 9, 10, 11, 12, 13, 14, 15, 16, 17, 18]

/-- The line after a stage for input i, middle line m, output o. -/
def lineAfter (i m o s : Nat) : Nat :=
  let l9 := m / 2 * 2 + o % 2
  if s = 19 then i / 2 * 2 + m % 2
  else if s ≤ 8 then
    let keep := 2 ^ (9 - s) - 2
    (m &&& (1023 ^^^ keep)) ||| (i &&& keep)
  else if s = 9 then l9
  else
    let low := 2 ^ (s - 8) - 1
    (l9 &&& (1023 ^^^ low)) ||| (o &&& low)

/-- The line entering a stage. -/
def lineBefore (i m o s : Nat) : Nat :=
  if s = 19 then i else if s = 0 then lineAfter i m o 19 else lineAfter i m o (s - 1)

/-- The cells a path crosses with their state, CROSS being true (R46). -/
def pathCells (p i m o : Nat) : List (Nat × Bool) :=
  lightOrder.map fun s =>
    let b := pairedBit s
    let x := lineBefore i m o s
    (cellIndex p s (cellPos b x), bitOf x b != bitOf (lineAfter i m o s) b)

/-- Every crossing of an image: plane, cell and state of each mapped path. -/
def crossings (portMap routes : List Nat) : List (Nat × Bool) :=
  ((List.range 2).map fun p => ((List.range 1024).map fun i =>
    let o := portMap.getD i 0xFFFF
    if o = 0xFFFF then [] else pathCells p i (routes.getD (p * 1024 + i) 0) o).flatten).flatten

/-! ### The vector (R73) -/

/-- Whether every entry is a port or 0xFFFF. -/
def vectorInRange (v : List Nat) : Bool := v.all fun x => x == 0xFFFF || decide (x ≤ 1023)

def usedOutputs (v : List Nat) : List Nat := v.filter (· ≠ 0xFFFF)

/-- Whether some output repeats. -/
def vectorRepeats (v : List Nat) : Bool := !(usedOutputs v).Nodup

/-- A vector's entries from the 2,048 bytes of ROUTE_VECTOR, in network order (R13). -/
def vectorOf (b : List Byte) : List Nat := (List.range 1024).map fun i => be b (2 * i) 2

/-! ### Load checks (Table 3.6) -/

/-- Whether every byte the layout marks 0 is 0 (check 4). -/
def State.slotZeros (s : State) (slot : Nat) : Bool :=
  let z := fun (b : List Byte) => b.all (· == 0)
  z (s.slotRead slot 0x006 2) && z (s.slotRead slot 0x022 2) && z (s.slotRead slot 0x03C 1988) &&
    z (s.slotRead slot 0x54000 49152) &&
    ((List.range 40960).all fun e => decide ((le (s.elemRecord slot e) 7 1) < 16)) &&
    ((List.range 1024).all fun o =>
      let r := s.voaRecord slot o
      decide (le r 5 1 < 4) && le r 6 2 == 0)

/-- Whether no two mapped paths of a plane claim one line at any stage and every route entry is in range. -/
def routesDisjoint (portMap routes : List Nat) : Bool :=
  (List.range 2).all fun p => lightOrder.all fun s =>
    (((List.range 1024).filter fun i => portMap.getD i 0xFFFF ≠ 0xFFFF).map fun i =>
      lineAfter i (routes.getD (p * 1024 + i) 0) (portMap.getD i 0) s).Nodup

/-- Whether route table, STATE, NO_LIGHT and DARK agree with PORT_MAP, and every ENUM8 is a listed value (check 7, R76). -/
def State.slotConsistent (s : State) (slot : Nat) : Bool :=
  let pm := s.slotPortMap slot
  let rt := s.slotRoutes slot
  let cr := crossings pm rt
  let entries := (List.range 2048).all fun n =>
    let i := n % 1024
    if pm.getD i 0xFFFF = 0xFFFF then rt.getD n 0 == 0xFFFF else decide (rt.getD n 0 ≤ 1023)
  let cells := (List.range 20480).all fun k =>
    let f0 := le (s.elemRecord slot (2 * k)) 7 1
    let f1 := le (s.elemRecord slot (2 * k + 1)) 7 1
    match cr.find? fun c => c.1 == k with
    | some (_, x) => bitOf f0 3 == 0 && bitOf f1 3 == 0 && bitOf f0 0 == boolNat x && bitOf f1 0 == 0 &&
        (cr.all fun c => !(c.1 == k) || c.2 == x)
    | none => bitOf f0 3 == 1 && bitOf f1 3 == 1 && bitOf f1 0 == 0
  let voas := (List.range 1024).all fun o =>
    let r := s.voaRecord slot o
    decide (le r 4 1 ≤ 8) && bitOf (le r 5 1) 1 == boolNat (!pm.contains o)
  entries && routesDisjoint pm rt && cells && voas

/-- The first failing check of Table 3.6, if one fails. -/
def State.loadFault (s : State) (slot : Nat) : Option Nat :=
  let pm := s.slotPortMap slot
  if s.slotField slot 0 4 ≠ 0x4F53494D then some 1
  else if s.slotField slot 4 2 ≠ 1 then some 2
  else if s.slotField slot 0x1C 4 ≠ s.slotCrc slot then some 3
  else if !s.slotZeros slot then some 4
  else if !vectorInRange pm || vectorRepeats pm || s.slotField slot 0x20 2 ≠ (usedOutputs pm).length then some 5
  else if s.slotHash slot ≠ permHash (s.slotRead slot 0x800 2048) then some 6
  else if !s.slotConsistent slot then some 7
  else none

/-! ### Revalidation (R80) -/

/-- Whether the mapped paths of an image cross only cells whose class allows their state. -/
def State.revalidates (s : State) (portMap routes : List Nat) : Bool :=
  (crossings portMap routes).all fun c =>
    match s.cellClass c.1 with
    | 0 => true
    | 1 => !c.2
    | 2 => c.2
    | _ => false

end Sys2Proof.Machine
end

