-- ==== Sys2Proof/Machine/LibraryOps.lean ====
section
/-!
DEFINITION. The library's shared operations: slot states (R83, R84), revalidation of a slot (R80, R81), the write-back
queue and its merge (R95 to R99), loads (R86, R87), and the router (R60, R90 to R92).
-/

namespace Sys2Proof.Machine

open Sys2Proof

/-! ### Slot states -/

def State.slotState (s : State) (slot : Nat) : SlotState := mget .empty s.lib.slots slot

def State.setSlot (s : State) (slot : Nat) (x : SlotState) : State :=
  { s with lib := { s.lib with slots := mset s.lib.slots slot x } }

/-- A slot is in use from the PREPARE that names it until its commit ends (R84). -/
def State.inUse (s : State) (slot : Nat) : Bool :=
  (s.com.live.any fun c => c.slot == slot) || (s.com.held.any fun h => h.commit.slot == slot)

/-- Whether an access to `n` bytes of HBM from `a` meets a word with an uncorrectable error (R499). -/
def State.hbmBad (s : State) (a n : Nat) : Bool := s.mat.badWords.any fun w => decide (w.1 < a + n ∧ a < w.1 + w.2)

def State.slotBad (s : State) (slot : Nat) : Bool := s.hbmBad (slotBase slot) slotBytes

/-- Make a slot INVALID for a reason and raise SLOT_INVALID (Table 3.6, R103). -/
def invalidate (s : State) (slot reason : Nat) : State :=
  raiseA (s.setSlot slot .invalid) 0x2010 [.word slot, .word reason]

/-- Revalidate a slot against the present fault map (R80, R81). The second part says whether it passed. -/
def revalidateSlot (s : State) (slot : Nat) : State × Bool :=
  if s.revalidates (s.slotPortMap slot) (s.slotRoutes slot) then
    let s := s.slotWrite slot 0x10 (leBytes 4 (s.objN Obj.FAULT_GEN 0))
    ((s.slotSeal slot).setSlot slot .valid, true)
  else if s.slotState slot = .stale then (s, false)
  else (raiseA (s.setSlot slot .stale) 0x2011 [.word slot, .word (s.obj Obj.FAULT_GEN 0)], false)

/-! ### Refinement -/

/-- The merge of one latched value (R96), with the operations and the Q15 store of R185. -/
def mergeField (count w field latched : Int) : Int :=
  if count = 0 then latched
  else ((((({} : Acc).add (opnd field)).mac (opnd latched) (opnd w)).msub (opnd field) (opnd w)).storeQ15 0).p

/-- Element record e of a slot with a latched phase and set-point merged and REFINED set. -/
def mergedElem (r : List Byte) (count w phase t : Int) : List Byte :=
  let f := mergeField count w (toSigned 16 (le r 2 2)) phase
  let p := mergeField count w (toSigned 16 (le r 4 2)) t
  slice r 0 2 ++ leBytes 2 (toUnsigned 16 f) ++ leBytes 2 (toUnsigned 16 p) ++ slice r 6 1 ++
    leBytes 1 (le r 7 1 ||| 2)

/-- VOA record with a latched attenuation merged. The field is a Q15 store of the datapath, whatever the attenuation's own range (R96,
R185). -/
def mergedVoa (r : List Byte) (count w : Int) (atten : Nat) : List Byte :=
  let f := mergeField count w ((le r 2 2 : Nat) : Int) atten
  slice r 0 2 ++ leBytes 2 (toUnsigned 16 f) ++ slice r 4 1 ++ leBytes 1 (le r 5 1 ||| 1) ++ slice r 6 2

/-- Write the merged records and the header of a latch back into its slot (R96, R98). -/
def mergeLatch (s : State) (l : Latch) : State :=
  let count : Int := s.slotRefineCount l.slot
  let w := s.obj Obj.REFINE_WEIGHT 0
  let n := s.slotRefineCount l.slot
  let s := l.elems.foldl (fun s x =>
    s.slotWrite l.slot (0x1000 + 8 * x.1) (mergedElem (s.elemRecord l.slot x.1) count w x.2.1 x.2.2)) s
  let s := l.voas.foldl (fun s x =>
    s.slotWrite l.slot (0x51000 + 8 * x.1) (mergedVoa (s.voaRecord l.slot x.1) count w x.2)) s
  let s := s.slotWrite l.slot 0x14 (leBytes 4 (s.objN Obj.CAL_GEN 0))
  let s := s.slotWrite l.slot 0x18 (leBytes 4 (min u32Max (n + 1)))
  let s := s.slotWrite l.slot 0x30 (time96Le s.now)
  s.slotSeal l.slot

/-- Start a write-back: the slot passes to WRITING (R98). -/
def startWriteBack (s : State) (l : Latch) : State :=
  let s := { s with lib := { s.lib with queue := s.lib.queue.filter (·.slot ≠ l.slot), writing := some l,
                                        lastWrite := some s.tick, writingFrom := s.slotState l.slot } }
  s.setSlot l.slot .writing

/-- End the write-back that runs (R98, R99): an uncorrectable error abandons it. -/
def finishWriteBack (s : State) : State :=
  match s.lib.writing with
  | none => s
  | some l =>
    let from_ := s.lib.writingFrom
    let s := { s with lib := { s.lib with writing := none } }
    if s.slotBad l.slot then invalidate s l.slot 8
    else ((mergeLatch s l).setSlot l.slot from_).incSat Obj.REFINE_DONE 0

/-- Let a write-back of this slot run to its end, as an operation that waits for it does (R81, R84, R89, R99). -/
def awaitWriteBack (s : State) (slot : Nat) : State :=
  match s.lib.writing with
  | some l => if l.slot = slot then finishWriteBack s else s
  | none => s

/-- Perform a queued write-back of this slot at once, after the write-back that runs, of whatever slot (R98, R99). -/
def promoteWriteBack (s : State) (slot : Nat) : State :=
  let s := finishWriteBack s
  match s.lib.queue.find? (·.slot == slot) with
  | some l => finishWriteBack (startWriteBack s l)
  | none => s

/-- The listed bytes of a slot. -/
def State.slotCells (s : State) (slot : Nat) : List Host.Cell :=
  s.hbm.filter fun c => decide (slotBase slot ≤ c.1 ∧ c.1 < slotBase slot + slotBytes)

/-- Discard queued and latched refinements of a slot, each counted (R89, R99). -/
def discardRefinement (s : State) (slot : Nat) : State :=
  let n := (s.lib.queue.filter (·.slot == slot)).length + (s.lib.bufs.filter fun b => b.2.latch.slot == slot).length
  let s := { s with lib := { s.lib with queue := s.lib.queue.filter (·.slot ≠ slot)
                                        bufs := s.lib.bufs.filter fun b => b.2.latch.slot ≠ slot } }
  s.incSat Obj.REFINE_DISCARDED 0 n

/-- Queue a latch for write-back; a slot already queued takes the latest values, a full queue skips (R97). -/
def queueLatch (s : State) (l : Latch) : State :=
  if s.lib.queue.any (·.slot == l.slot) then
    { s with lib := { s.lib with queue := s.lib.queue.map fun x => if x.slot = l.slot then l else x } }
  else if s.lib.queue.length < 64 then { s with lib := { s.lib with queue := s.lib.queue ++ [l] } }
  else
    let s := s.incSat Obj.REFINE_SKIPPED 0
    raiseA s 0x2015 [.word l.slot, .word (s.obj Obj.REFINE_SKIPPED 0)]

/-- A latch in host-assisted refinement takes a free buffer, or is skipped (R100). -/
def bufferLatch (s : State) (l : Latch) : State :=
  match (List.range 4).find? fun b => (mfind s.lib.bufs b).isNone with
  | some b =>
    let due := s.tick + s.objN Obj.REFINE_HOST_DEADLINE 0 * 156250
    let s := { s with lib := { s.lib with bufs := mset s.lib.bufs b { latch := l, due := due } } }
    raiseA s 0x2014 [.word b, .word l.slot]
  | none =>
    let s := s.incSat Obj.REFINE_SKIPPED 0
    raiseA s 0x2015 [.word l.slot, .word (s.obj Obj.REFINE_SKIPPED 0)]

/-- Hand a latch on in the mode in effect (R97, R100). -/
def takeLatch (s : State) (l : Latch) : State := if s.hostMode 3 then bufferLatch s l else queueLatch s l

/-- The rate in effect: 0 while the thermal state is THROTTLE or higher (R304). -/
def State.refineRate (s : State) : Nat := if 2 ≤ s.therm.state then 0 else s.objN Obj.REFINE_MAX_RATE 0

/-! ### Loads -/

def State.loadOf (s : State) (sess : Nat) : Option Load := s.lib.loads.find? fun l => l.session == some sess

def State.dropLoads (s : State) (keep : Load → Bool) : State :=
  { s with lib := { s.lib with loads := s.lib.loads.filter keep } }

/-- Abandon the open load of a session: its slot returns to EMPTY (R86); with `hold`, a load taken from the router's
hold goes back to it (R87). Without `hold` the slot of a route request becomes EMPTY like any other while the request goes on in
WAIT_HOST, and a later load of that slot does not end it (DESIGN CHOICE, log entry 16). -/
def abandonLoad (s : State) (sess : Nat) (hold : Bool) : State :=
  match s.loadOf sess with
  | none => s
  | some l =>
    let s := s.dropLoads fun x => !(x.session == some sess)
    if hold && l.forRoute && (s.lib.route.any fun r => r.waitHost) then
      { s with lib := { s.lib with loads := s.lib.loads ++ [{ l with session := none, received := 0 }] } }
    else s.setSlot l.slot .empty

/-! ### The router -/

/-- The faults the router sees: excluded cells count as BLOCKED for this request (R90). -/
def State.routeClass (s : State) (exclude : List Nat) (k : Nat) : Nat :=
  if exclude.contains k then 3 else s.cellClass k

def pathAllowed (cls : Nat → Nat) (cells : List (Nat × Bool)) : Bool :=
  cells.all fun c => match cls c.1 with | 0 => true | 1 => !c.2 | 2 => c.2 | _ => false

/-- The lines a path claims, one for each stage. -/
def pathLines (i m o : Nat) : List Nat := lightOrder.map fun s => lineAfter i m o s

def disjointLines : List Nat → List Nat → Bool
  | a :: s, b :: t => a != b && disjointLines s t
  | _, _ => true

/-- Route the inputs of a plane one after another, each over the middle lines in its order of preference. -/
def searchRoutes (p : Nat) (dest : Nat → Nat) (cls : Nat → Nat) (pref : Nat → Nat) :
    List Nat → List (List Nat) → List (Nat × Nat) → Option (List (Nat × Nat))
  | [], _, acc => some acc
  | i :: rest, taken, acc =>
    ((List.range 1024).map fun j => (pref i + j) % 1024).findSome? fun m =>
      let lines := pathLines i m (dest i)
      if pathAllowed cls (pathCells p i m (dest i)) && taken.all (disjointLines lines) then
        searchRoutes p dest cls pref rest (lines :: taken) ((i, m) :: acc)
      else none

/-- A route for a whole vector in both planes: the 2,048 entries of a route table, or none (R60, R91). -/
def State.findRoute (s : State) (v exclude : List Nat) : Option (List Nat) :=
  let used := (List.range 1024).filter fun i => v.getD i 0xFFFF ≠ 0xFFFF
  let faults := (mget [] s.objs Obj.CELL_CLASS).filter fun c => c.2 != 0
  let plane := fun p => searchRoutes p (fun i => v.getD i 0) (s.routeClass exclude)
    (fun i => Config.routePref p i v exclude faults (s.objN Obj.CAL_GEN 0)) used [] []
  match plane 0, plane 1 with
  | some a, some b =>
    let entry := fun (l : List (Nat × Nat)) i => match l.find? (·.1 == i) with | some x => x.2 | none => 0xFFFF
    some ((List.range 1024).map (entry a) ++ (List.range 1024).map (entry b))
  | _, _ => none

/-- The element record the router writes (R76, R92). `x` is the crossing of the cell, if one crosses it. -/
def State.routedElem (s : State) (e : Nat) (x : Option Bool) : List Byte :=
  let first := e % 2 == 0
  let cross := first && (match x with | some c => c | none => s.cellClass (cellOf e) == 2)
  let phase := s.obj (if cross then Obj.TARGET_CROSS else Obj.TARGET_BAR) e
  let templ := s.objN (if cross then Obj.TEMPLATE_CROSS else Obj.TEMPLATE_BAR) e
  let w := leBytes 2 (toUnsigned 16 phase)
  w ++ w ++ leBytes 2 (toUnsigned 16 (s.law Obj.SETPOINT_DEFAULT 0)) ++ leBytes 1 templ ++
    leBytes 1 (boolNat cross + (if x.isNone then 8 else 0))

def State.routedVoa (s : State) (dark : Bool) : List Byte :=
  leBytes 2 (toUnsigned 16 (s.law Obj.POWER_TARGET_DEFAULT 0)) ++ leBytes 2 0 ++
    leBytes 1 (s.lawN Obj.SOURCE_DEFAULT 0) ++ leBytes 1 (if dark then 2 else 0) ++ leBytes 2 0

/-- Write a routed image into a slot, its CRC last (R92). -/
def writeImage (s : State) (slot : Nat) (v routes : List Nat) : State :=
  let pm := (v.map (leBytes 2)).flatten
  let cr := crossings v routes
  let elems := ((List.range 40960).map fun e =>
    s.routedElem e ((cr.find? fun c => c.1 == cellOf e).map (·.2))).flatten
  let voas := ((List.range 1024).map fun o => s.routedVoa (!v.contains o)).flatten
  let head := leBytes 4 0x4F53494D ++ leBytes 2 1 ++ leBytes 2 0 ++ leBytes 8 (permHash pm) ++
    leBytes 4 (s.objN Obj.FAULT_GEN 0) ++ leBytes 4 (s.objN Obj.CAL_GEN 0) ++ leBytes 4 0 ++ leBytes 4 0 ++
    leBytes 2 (usedOutputs v).length ++ leBytes 2 0 ++ time96Le s.now ++ List.replicate 12 0 ++ List.replicate 1988 0 ++ pm
  let body := head ++ elems ++ voas ++ (routes.map (leBytes 2)).flatten ++ List.replicate 49152 0
  (s.slotWrite slot 0 body).slotSeal slot

/-- The vector in which every output is DARK (R520). -/
def darkVector : List Nat := List.replicate 1024 0xFFFF

/-- Write what a search found for a vector into a slot, which is then VALID. -/
def placeRoute (s : State) (slot : Nat) (v : List Nat) (found : Option (List Nat)) : State :=
  match found with
  | some r => (writeImage s slot v r).setSlot slot .valid
  | none => s

/-- Route a vector into a slot under R92, whatever its state: what the park application does (R520). -/
def routeDark (s : State) (slot : Nat) : State := placeRoute s slot darkVector (s.findRoute darkVector [])

end Sys2Proof.Machine
end

