-- ==== Sys2Proof/Machine/Host.lean ====
section
/-!
DEFINITION. How a host's request reaches the block (R455 to R468): its session, the response cache, the two lanes, the
checks of Table 16.7, and the answer. The frame that carries a request has passed the checks of Table 16.4 (log entry 6).
-/

namespace Sys2Proof.Machine

open Sys2Proof

/-! ### Sessions -/

/-- Close a session for a reason of Table 16.5: its load is abandoned, what it had queued goes, SESSION_CLOSED (R460). -/
def closeSession (s : State) (num reason : Nat) : State :=
  match s.session num with
  | none => s
  | some (i, _) =>
    let s := abandonLoad s num true
    let s := { s with ex := { s.ex with sessions := mdel s.ex.sessions i
                                        owed := s.ex.owed.filter fun o => o.sess ≠ num } }
    raiseA s 0x9002 [.word num, .word reason]

/-- Close every session whose transmit SEQ is spent (R459). -/
def closeSpent (s : State) : State :=
  (s.ex.sessions.filter fun p => decide (u32Max ≤ p.2.txSeq)).foldl (fun s p => closeSession s p.2.num 4) s

/-- Close a session whose transmit SEQ its last answer has spent (R459). -/
def closeIfSpent (s : State) (sess : Nat) : State :=
  match s.session sess with
  | some (_, x) => if u32Max ≤ x.txSeq then closeSession s sess 4 else s
  | none => s

/-- Drop a frame that fails a check of Table 16.4, count it, and raise FRAME_REJECTED at most once per second. -/
def rejectFrame (s : State) (counter check : Nat) : State :=
  let s := s.inc64 counter 0
  let n := mget 0 s.ex.rejected check + 1
  let due := match s.ex.rejectedAt with | none => true | some t => s.elapsed t 1000000000
  if due then raiseA { s with ex := { s.ex with rejected := [], rejectedAt := some s.tick } } 0x9003 [.word check, .word n]
  else { s with ex := { s.ex with rejected := mset s.ex.rejected check n } }

/-- A host frame that names no open session is dropped unanswered and counted (R457 check 3). -/
def dropSession (s : State) : State := if s.dev.state = .off then s else rejectFrame s Obj.SESSION_DROPS 3

/-! ### Answers that may take a session's last SEQ (R459) -/

/-- Answer a commit operation; the answer that takes the last SEQ ends the session. -/
def answerCommit (s : State) (sess req : Nat) (reply : Reply) : State :=
  closeIfSpent (answerFrom 2 true s sess req 0 0 reply) sess

/-- Send an unsolicited NAK for a commit (R454, R130). -/
def nakUnsolicited (s : State) (sess req : Nat) (n : Nak) (detail : Nat) : State :=
  let reply := Reply.nak n 0 detail
  match s.session sess with
  | some (i, x) =>
    closeIfSpent ((sendAnswer s 2 { sess, req, addr := 0, sel := 0, seq := x.txSeq + 1, unsolicited := true, reply }).setSession i
      { x with txSeq := x.txSeq + 1 }) sess
  | none => if sess ≥ 0x10000 then groupAnswer s { sess, req, addr := 0, sel := 0, seq := 0, unsolicited := true, reply } else s

/-- Send every answer owed for a completion. -/
def settleOwed (s : State) (kind : OwedKind) (reply : Reply) : State :=
  let due := s.ex.owed.filter fun o => o.kind == kind
  let s := { s with ex := { s.ex with owed := s.ex.owed.filter fun o => !(o.kind == kind) } }
  due.foldl (fun s o => closeIfSpent (answer s o.sess o.req o.addr o.sel reply) o.sess) s

/-! ### Lanes (R464, R465) -/

/-- The two lanes of a session. -/
inductive Lane
  | object | commit
  deriving DecidableEq, Repr

/-- The REQ_ID a request carries; one object write by itself carries none. -/
def reqOf : Instr → Option Nat
  | .prepare _ r .. | .commit _ r .. | .cancel _ r _ | .closeSession _ r | .echo _ r _ | .read _ r _ | .write _ r _
  | .blockRead _ r .. | .blockWrite _ r .. | .subscribe _ r .. => some r
  | _ => none

/-- The transmit source of a request's answer (Table 14.1). -/
def sourceOf (c : Instr) (lane : Lane) (reply : Reply) : Nat :=
  match lane, c, reply with
  | .commit, _, _ => 2
  | _, .blockRead .., .ack _ => 6
  | _, _, _ => 3

/-- Whether a request of the lane is being carried out, or no lobe is ACTIVE to carry one out (R390, R464). -/
def State.laneBusy (s : State) (lane : Lane) (sess : Nat) : Bool :=
  s.active.isNone ||
    match lane with
    | .object => s.ex.owed.any fun o => o.sess == sess
    | .commit => s.com.held.any fun h => h.sess == sess

def Session.waiting (x : Session) : Lane → List Instr
  | .object => x.objectLane
  | .commit => x.commitLane

def Session.enqueue (x : Session) (lane : Lane) (c : Instr) : Session :=
  match lane with
  | .object => { x with objectLane := x.objectLane ++ [c] }
  | .commit => { x with commitLane := x.commitLane ++ [c] }

/-- Whether a REQ_ID belongs to a request still in one of the session's lanes (R465). -/
def State.inLane (s : State) (x : Session) (req : Nat) : Bool :=
  (s.ex.owed.any fun o => o.sess == x.num && o.addr == 0 && o.req == req) || (s.com.held.any fun h => h.sess == x.num && h.req == req) ||
    (x.objectLane.any fun c => reqOf c == some req) || (x.commitLane.any fun c => reqOf c == some req)

/-- Serve a retry from the response cache, under a new SEQ (R465). -/
def serveRetry (s : State) (source : Nat) (x : Session) (e : CacheEntry) : State :=
  (answerFrom source false s x.num e.req 0 0 e.reply).inc64 Obj.RETRIES_SERVED 0

/-- Take a request of a session to its lane, and carry it out when it is its turn (R464 to R466). `carry` is given the
session's level; the answer that takes the last SEQ ends the session (R459). A group frame carries no request but of the
commit lane (R457, R461). -/
def request (s : State) (sess req : Nat) (lane : Lane) (c : Instr) (carry : State → Nat → State) : State :=
  match s.session sess with
  | none =>
    if sess ≥ 0x10000 ∧ lane = .commit then
      if s.active.isNone then { s with ex := { s.ex with groupLane := s.ex.groupLane ++ [c] } } else carry s 1
    else dropSession s
  | some (i, x) =>
    let x := { x with lastFrame := s.tick }
    let s := s.setSession i x
    let last := fun s => if u32Max ≤ x.txSeq + 1 then closeIfSpent s sess else s
    let known := (reqOf c).isSome
    match if known then x.cache.find? fun e => e.req == req && !s.elapsed e.tick 10000000000 else none with
    | some e => last (serveRetry s (sourceOf c lane e.reply) x e)
    | none =>
      if known && s.inLane x req then s
      else if s.recovery then last (carry s x.level)
      else if s.laneBusy lane sess || !(x.waiting lane).isEmpty then
        if (x.waiting lane).length < 16 then s.setSession i (x.enqueue lane c)
        else last (answerFrom (if lane = .commit then 2 else 3) known s sess req 0 0 (.nak .full 0 0))
      else last (carry s x.level)

/-! ### Object writes -/

/-- What recovery mode lets be written (R513). -/
def recoveryAllows (addr : Nat) (v : Int) : Bool :=
  addr == Obj.FW_LOAD_OPEN || addr == Obj.FW_DATA || addr == Obj.FW_VERIFY || (addr == Obj.DEVICE_COMMAND && v == 5)

/-- The DETAIL of a NAK to a write: the reason of LOAD_STATUS for a load whose slot fails at LOAD_CLOSE, 0 otherwise (R455). -/
def State.detailOf (s : State) (sess addr : Nat) (n : Nak) : Nat :=
  if addr = Obj.LOAD_CLOSE ∧ (n = .memory ∨ n = .crc ∨ n = .format) then
    match s.session sess with
    | some (_, x) => x.loadStatus
    | none => 0
  else 0

/-- Answer a write as its verdict says. -/
def conclude (sess req addr sel : Nat) : State × Verdict → State
  | (s, .ack) => answer s sess req addr sel (.ack [])
  | (s, .nak n) => answer s sess req addr sel (.nak n 0 (s.detailOf sess addr n))
  | (s, .owe k) => s.owe k sess req addr sel

/-- One write of a numeric object by a session: the checks of Table 16.7, then the owning chapter's further conditions
and effect (`eff`), and the answer. -/
def hostWrite (s : State) (sess addr sel : Nat) (v : Int) (eff : State → State × Verdict) : State :=
  request s sess 0 .object (.objectWrite sess addr sel v) fun s level =>
    conclude sess 0 addr sel <|
      match writeCheck s level addr sel v with
      | some n => (s, .nak n)
      | none => if s.recovery && !recoveryAllows addr v then (s, .nak .state) else eff s

/-- The checks of Table 16.7 that do not look at the value, for an OCTETS object. -/
def octetsCheck (s : State) (level addr sel : Nat) : Option Nak :=
  match accessCheck level addr sel with
  | .error n => some n
  | .ok d =>
    if d.type ≠ .octets then some .type
    else if s.dev.state = .selftest ∧ !selftestAllows addr then some .state
    else if s.recovery && !recoveryAllows addr 0 then some .state
    else none

/-- One write of an OCTETS object whose content the owning chapter judges. -/
def hostOctets (s : State) (c : Instr) (sess addr sel : Nat) (eff : State → State × Verdict) : State :=
  request s sess 0 .object c fun s level =>
    conclude sess 0 addr sel <|
      match octetsCheck s level addr sel with
      | some n => (s, .nak n)
      | none => eff s

end Sys2Proof.Machine
end

