-- ==== Sys2Proof/Machine/Trace.lean ====
section
/-!
DEFINITION. What commits and triggers show in Sorus: condition bits (R347), COMMIT records (R366, R367) and trigger output
pulses (R370).
-/

namespace Sys2Proof.Machine

open Sys2Proof

/-- A source event of the trigger outputs (R370): a pulse begins or is extended. -/
def trigSource (s : State) (src : Nat) : State :=
  (List.range 2).foldl (fun s x =>
    if s.objN Obj.TRIG_OUT_SRC x = src ∧ src ≠ 0 then
      { s with sorus := { s.sorus with pulseEnd := mset s.sorus.pulseEnd x (s.tick + s.objN Obj.TRIG_OUT_WIDTH x) } }
    else s) s

/-- Raise RING_OVERFLOW of a ring (R368). -/
def ringOverflow (s : State) (r : Nat) : State := raiseS s 0x7005 [.word r, .word (s.obj Obj.RING_DROPPED r)]

/-- Write a record to every ring that takes its kind. -/
def ringAll (s : State) (takes : Ring → Bool) (kind flags : Nat) (time : Int) (body : List Byte) : State :=
  (List.range 16).foldl (fun s r =>
    if !takes (s.ring r) then s else
      let (s, overRange) := ringPut s r kind flags time body
      if overRange then ringOverflow s r else s) s

/-- The body of a COMMIT record (Table 12.7). -/
def commitBody (e : LogEntry) : List Byte :=
  leBytes 4 e.id ++ leBytes 4 e.slot ++ time96Le e.t ++ leBytes 1 e.state.code ++ leBytes 1 e.outcome.code ++
    leBytes 1 e.flags ++ leBytes 1 e.waves ++ leBytes 4 e.settle

/-- Set entry n of the commit log (R134) and record the change in the rings (R366). -/
def setLog (s : State) (n : Nat) (e : LogEntry) : State :=
  let s := { s with com := { s.com with log := mset s.com.log n e } }
  ringAll s (·.commits) 3 s.ringFlags s.now (commitBody e)

/-- A change of a commit's log entry (R134): nothing where 256 later commits have taken its place in the ring. -/
def updateLog (s : State) (n : Nat) (e : LogEntry) : State :=
  if (mfind s.com.log n).all fun x => x.id == e.id then setLog s n e else s

end Sys2Proof.Machine
end

