-- ==== Sys2Proof/Machine/CalOps.lean ====
section
/-!
DEFINITION. How a calibration request ends and what that releases (R263, R264, R277 to R279).
-/

namespace Sys2Proof.Machine

open Sys2Proof

/-- The first unstored change starts CAL_STORE_INTERVAL (R280). -/
def noteUnstored (s : State) : State :=
  if s.cal.unstored.isSome then s else { s with cal := { s.cal with unstored := some s.tick } }

/-- CAL_GEN goes up by 1 (R279). -/
def bumpCalGen (s : State) : State := noteUnstored (s.setObjN Obj.CAL_GEN 0 (nextGen (s.objN Obj.CAL_GEN 0)))

/-- End the request at the head: its status, quality and flags are shown and CAL_ENDED is raised (R281, R283). Its grant
and any request for one are given back. -/
def endCal (s : State) (r : CalReq) (status : Nat) (quality : Int) (flags : Nat) : State :=
  let s := { s with cal := { s.cal with run := none } }
  let s := s.setObjN Obj.CAL_LAST_SEQ 0 r.seq
  let s := s.setObjN Obj.CAL_LAST_STATUS 0 status
  let s := s.setObj Obj.CAL_LAST_QUALITY 0 quality
  let s := s.setObjN Obj.CAL_LAST_FLAGS 0 flags
  let s := raiseA s 0x4040 [.word r.seq, .word r.kind, .word r.sel, .word status, .word quality, .word flags]
  releaseGrant (withdraw s .calibration r.seq) .calibration r.seq

/-- Put back the drive codes a run changed, where Table 9.4 says so. -/
def restoreCodes (s : State) (saved : List (Nat × Nat)) : State :=
  saved.foldl (fun s c => if c.1 < 81920 then writeDirect s c.1 c.2 else writeTarget s c.1 c.2) s

/-- Which spare of a bank serves a lane. -/
def Bank.spareOf (x : Bank) (lane : Nat) : Option Nat :=
  if x.spare32 = .lane lane then some 32 else if x.spare33 = .lane lane then some 33 else none

def Bank.setSpare (x : Bank) (k : Nat) (v : Spare) : Bank := if k = 32 then { x with spare32 := v } else { x with spare33 := v }

/-- The spare that a bank would use: 32 before 33 (R209). -/
def Bank.freeSpare (x : Bank) : Option Nat :=
  if x.spare32 = .idle then some 32 else if x.spare33 = .idle then some 33 else none

/-- A lane is on its channel's connection again and the spare that stood in is idle (R265). -/
def laneHome (s : State) (u : Nat) : State :=
  let b := bankOf u
  let s := { s with cal := { s.cal with back := none } }
  match (s.bank b).spareOf (laneOf u) with
  | some k => (s.setBank b ((s.bank b).setSpare k .idle)).setChan u
      { s.chan u with spare := none, switching := none, passes := 0, placed := false }
  | none => s

/-- A lane on its internal load is loaded with its channel's code, to return by the sequence of Table 7.7 (R265); one that has not
left its channel is back at once. -/
def returnLane (s : State) (u : Nat) : State :=
  if (s.chan u).spare = none then laneHome s u
  else if (s.chan u).switching.isSome then s
  else s.setChan u { s.chan u with switching := some s.tick }

/-- Converter cv takes its inputs back from its bank's spare at the next scan boundary, whose scan is marked MUX, with the
coefficients it had (R267). -/
def returnConv (s : State) (cv : Nat) (c : Int × Int) : State :=
  let x := mget ({} : Conv) s.mon.convs cv
  let b := mget ({} : MonBank) s.mon.banks (cv / 16)
  let s := { s with mon := { s.mon with
    convs := mset s.mon.convs cv (x.setSpare false (if s.tick % 256 = 0 then s.scan else s.scan + 1))
    banks := mset s.mon.banks (cv / 16) { b with spareCv := none } } }
  let s := setCoef (setCoef s Obj.CONV_OFFSET cv c.1) Obj.CONV_GAIN cv c.2
  s.setObjN Obj.DP_GEN 0 (nextGen (s.objN Obj.DP_GEN 0))

/-- The converter a run uses (R243, R264): the one it trims, or the one that watches the tap pair of a TEMPLATE run. -/
def calConv (q : CalReq) : Option Nat :=
  match q.kind with
  | 2 => some q.sel
  | 5 => some (2 * q.sel / 32)
  | _ => none

/-- The converter of a run that ends: its queued calibration injections are taken back, and the focus of a TEMPLATE run stops. -/
def returnFocus (s : State) (r : CalRun) : State :=
  match calConv r.one with
  | none => s
  | some cv =>
    let c := mget ({} : Conv) s.mon.convs cv
    let c := { c with queue := c.queue.filter fun i => !i.cal }
    let c := if r.req.kind = 5 ∧ r.measures then { c with focusNext := none, focusStop := c.focus.isSome } else c
    { s with mon := { s.mon with convs := mset s.mon.convs cv c } }

/-- The lane of a run that ends is to be handed back. -/
def lendBack (s : State) (r : CalRun) : State :=
  match r.lane with
  | some u => { s with cal := { s.cal with back := some u } }
  | none => s

/-- The lane, the inputs and the focus a run holds, given back: the lane follows as soon as it may. -/
def returnLanes (s : State) (r : CalRun) : State :=
  let s := lendBack s r
  let s := match r.coefs with | some c => returnConv s r.item c | none => s
  if r.measures then returnFocus s r else s

/-- A lane whose trim has been applied, or will not be, is handed back, its return begun once no commit is APPLYING (R265, R278); where a
fault needs the spare it is back at once (R264). -/
def returnBack (s : State) (now : Bool) : State :=
  match s.cal.back with
  | some u => if now then laneHome s u else if s.windowOpen then s else returnLane s u
  | none => s

/-- A request at the head ends ABORTED (R264): the codes from before the run are put back for the reasons that say so
(4 and 7). A PENDING result is not a running request and stays. -/
def abortCal (s : State) (reason : Nat) : State :=
  match s.cal.run with
  | none => s
  | some r =>
    if r.phase = .pending then s
    else
      let s := returnBack (returnLanes s r) (decide (reason = 2 ∨ reason = 3))
      let s := if reason = 4 ∨ reason = 7 then restoreCodes s r.saved else s
      endCal s r.req 9 0 reason

/-- The spare of a bank that a DRIVE_LANE run is trimming on its load (R265). -/
def State.trimSpare (s : State) (b : Nat) : Option Nat :=
  match s.cal.run with
  | some r => if r.measures ∧ r.req.kind = 1 ∧ r.item / 34 = b ∧ 32 ≤ r.item % 34 then some (r.item % 34) else none
  | none => none

/-- A lane of a bank fails while a lane of it that has been trimmed waits for its return: the spare returns at once where the failure
needs it (R264). -/
def backLaneFault (s : State) (b lane : Nat) : State :=
  match s.cal.back with
  | some u => if bankOf u = b ∧ (laneOf u = lane ∨ (s.bank b).freeSpare = none) then laneHome s u else s
  | none => s

/-- A lane of a bank fails: a DRIVE_LANE run ends that trims this lane, or that holds the spare the failure needs (R264, reason 3). -/
def calLaneFault (s : State) (b lane : Nat) : State :=
  let s := backLaneFault s b lane
  match s.cal.run with
  | some r =>
    let x := s.bank b
    let hit := if r.item % 34 < 32 then r.item % 34 == lane || (r.lane.isSome && x.freeSpare.isNone)
      else x.freeSpare == some (r.item % 34)
    if r.phase = .running ∧ r.req.kind = 1 ∧ r.item / 34 = b ∧ hit then abortCal s 3 else s
  | none => s

/-- Whether a commit writes a channel itself: an arm in one of its waves, or a VOA of its image. -/
def Commit.writes (c : Commit) (u : Nat) : Bool :=
  if u < 81920 then (match mfind c.elems (u / 2) with | some x => x.wave.isSome | none => false)
  else decide (122880 ≤ u) && c.voas.any fun v => v.1 == u - 122880

/-- A commit reaching T aborts an ELEMENT, VOA or TEMPLATE run (R264, reason 1). Its staged codes follow: those of its waves are written
there, and a channel that it does not write stood at its staged code before the run, which is put back. -/
def abortCalByCommit (s : State) (c : Commit) : State :=
  match s.cal.run with
  | some r =>
    if r.phase = .running ∧ (r.req.kind = 3 ∨ r.req.kind = 4 ∨ r.req.kind = 5) then
      restoreCodes (abortCal s 1) (r.saved.filter fun u => !c.writes u.1)
    else s
  | none => s

/-! ### Adaptive pre-emphasis (R273, R275) -/

def State.adapt (s : State) (n : Nat) : Adapt := mget {} s.cal.adapt n

def State.setAdapt (s : State) (n : Nat) (a : Adapt) : State :=
  { s with cal := { s.cal with adapt := mset s.cal.adapt n a } }

/-- Move TPL_A2 of a template by its mean (R273). -/
def moveA2 (s : State) (n : Nat) : State :=
  let mean := s.obj Obj.ADAPT_MEAN n
  s.setObj Obj.TPL_A2 n (clampInt (-16384) 16384 (s.obj Obj.TPL_A2 n + floorDiv (mean * s.obj Obj.ADAPT_GAIN 0) 32768))

/-- A template's count is full: mean and residual, then the update, or ADAPT_READY to the host (R275). An earlier ADAPT_READY
that is still unanswered keeps its deadline. -/
def adaptFull (s : State) (host : Bool) (n : Nat) (acc : Int) : State :=
  let mean := floorDiv acc (s.obj Obj.ADAPT_COUNT 0)
  let s := s.setObj Obj.ADAPT_MEAN n mean
  let res := mean.natAbs * 10000 / 32768
  let s := s.setObjN Obj.TPL_RESIDUAL n res
  if host then
    let due := (s.adapt n).ready.getD (s.tick + s.objN Obj.TEMPLATE_HOST_DEADLINE 0 * 156250)
    let s := s.setAdapt n { ready := some due }
    raiseA s 0x4042 [.word n, .word mean, .word res]
  else (moveA2 s n).setAdapt n {}

/-- One element's contribution to its template. -/
def adaptOne (s : State) (host : Bool) (n : Nat) (rho : Int) : State :=
  let a := s.adapt n
  let acc := a.acc + rho
  if a.cnt + 1 = s.objN Obj.ADAPT_COUNT 0 then adaptFull s host n acc
  else s.setAdapt n { a with acc := acc, cnt := a.cnt + 1 }

/-- Whether two states hold the same hold amplitudes. -/
def sameA2 (s t : State) : Bool := (List.range 256).all fun n => s.obj Obj.TPL_A2 n == t.obj Obj.TPL_A2 n

/-- The law of R273 over the elements of one commit: template, change of φc and latched loop offset. CAL_GEN goes up
once if any template value changed (R279). -/
def adaptAll (s : State) (host : Bool) (l : List (Nat × Int × Int)) : State :=
  let s' := l.foldl (fun s x =>
    adaptOne s host x.1 (clampInt (-32768) 32767 (floorDiv (x.2.2 * 32768) x.2.1))) s
  if sameA2 s s' then s' else bumpCalGen s'

/-- Whether the host has let the deadline of an ADAPT_READY pass (R275): noted, or found now. -/
def State.adaptLate (s : State) : Bool :=
  s.cal.missed || s.cal.adapt.any fun a => match a.2.ready with | some d => decide (d ≤ s.tick) | none => false

/-- The PREPARE boundary of pre-emphasis calibration (R37, R275): after a missed deadline the function falls back and every
unanswered ADAPT_READY gets the update of R273; otherwise an accepted request takes effect. -/
def adaptBoundary (s : State) : State :=
  if s.adaptLate then
    let due := (s.cal.adapt.filter fun a => a.2.ready.isSome).map (·.1)
    let s := fallback { s with cal := { s.cal with missed := false } } 4
    let s' := due.foldl (fun s n => (moveA2 s n).setAdapt n { s.adapt n with ready := none }) s
    if sameA2 s s' then s' else bumpCalGen s'
  else atModeBoundary s 4

end Sys2Proof.Machine
end

