-- ==== Sys2Proof/Machine/CommitOps.lean ====
section
/-!
DEFINITION. Commits: their log and how they end (R106, R130, R134), peer aborts (R119), wave plans and predecessors (R111
to R113), staging (R108), what T does to loops (R120 to R123, R154, R157), and reaching DONE (R95, R126, R127, R273).
-/

namespace Sys2Proof.Machine

open Sys2Proof

/-! ### The live commits and the log -/

def State.findCommit (s : State) (id : Nat) : Option Commit := s.com.live.find? fun c => c.id == id

/-- Replace the live commit of the same identifier. -/
def State.putCommit (s : State) (c : Commit) : State :=
  { s with com := { s.com with live := s.com.live.map fun x => if x.id = c.id then c else x } }

def State.dropCommit (s : State) (id : Nat) : State :=
  { s with com := { s.com with live := s.com.live.filter fun x => x.id ≠ id } }

def insertByT (c : Commit) : List Commit → List Commit
  | [] => [c]
  | d :: t => if c.t < d.t then c :: d :: t else d :: insertByT c t

/-- The queue of timed commits, in order of T (R116). -/
def State.armedQueue (s : State) : List Commit := (s.com.live.filter fun c => c.state == .armed).foldr insertByT []

/-- Free staging sets (R108): a commit holds one until APPLYING ends. -/
def State.stagingFree (s : State) : Nat :=
  64 - ((s.com.live.filter fun c => c.state == .prepared || c.state == .armed || c.state == .applying).length +
    (s.com.held.filter fun h => !h.arm).length)

/-- LOG_FLAGS of a commit. -/
def Commit.logFlags (c : Commit) : Nat := c.flags

/-- Add a flag of LOG_FLAGS: 1 LATE, 2 RESUMED, 4 HOLDOVER, 8 NO_REFINE, 16 PEER_ABORT_SENT. -/
def Commit.flag (c : Commit) (f : Nat) : Commit := { c with flags := c.flags ||| f }

/-- The log entry a commit writes. -/
def Commit.entry (c : Commit) (o : Outc) (settle : Nat) : LogEntry :=
  { id := c.id, slot := c.slot, t := c.t, state := c.state, outcome := o, flags := c.flags, waves := c.waves, settle }

/-- Update a live commit and its log entry (R134). -/
def State.stepCommit (s : State) (c : Commit) : State := updateLog (s.putCommit c) c.logIndex (c.entry .none 0)

/-- Write the first log entry of a commit that becomes PREPARED (R134). -/
def State.newLog (s : State) (c : Commit) : State :=
  let n := if s.com.logged = 0 then 0 else (s.com.head + 1) % 256
  let c := { c with logIndex := n, serial := s.com.serial + 1 }
  let s := { s with com := { s.com with head := n, logged := s.com.logged + 1, live := s.com.live ++ [c],
                                        serial := s.com.serial + 1 } }
  setLog s n (c.entry .none 0)

/-! ### Abandonment (R119, R130) -/

/-- Whether an address of 16 bytes is that of a group. -/
def groupAddr (a : List Byte) : Bool := if mappedV4 a then be a 12 1 / 16 == 14 else be a 0 1 == 0xFF

/-- The module's own address of the kind of a destination, in an address set; over IPv6 the link-local one where no other is set. -/
def State.ownAddr (s : State) (a : Nat) (dest : List Byte) : List Byte :=
  if mappedV4 dest then mapV4 (beBytes 4 (s.objN Obj.IPV4_ADDR a))
  else if allZero (s.oct Obj.IPV6_ADDR a) then linkLocal (s.txMac a) else s.oct Obj.IPV6_ADDR a

/-- Whether an address lies in the prefix of an address set. -/
def State.onLink (s : State) (a : Nat) (dest : List Byte) : Bool :=
  if mappedV4 dest then
    let n := 32 - s.objN Obj.IPV4_PREFIX a
    be dest 12 4 / 2 ^ n == s.objN Obj.IPV4_ADDR a / 2 ^ n
  else
    let n := 128 - s.objN Obj.IPV6_PREFIX a
    be dest 0 16 / 2 ^ n == be (s.oct Obj.IPV6_ADDR a) 0 16 / 2 ^ n || be dest 0 2 == 0xFE80

/-- The gateway of an address set for a destination: the one its object names; over IPv6, where that names none, the router last
advertised (Table 13.2). -/
def State.gateway (s : State) (a : Nat) (dest : List Byte) : List Byte :=
  if mappedV4 dest then mapV4 (beBytes 4 (s.objN Obj.IPV4_GATEWAY a))
  else if allZero (s.oct Obj.IPV6_GATEWAY a) then mget [] s.net.routers a else s.oct Obj.IPV6_GATEWAY a

/-- The MAC address for a destination that no frame has come from: a group's own, else as the neighbour or the gateway has told it. -/
def State.hopMac (s : State) (a : Nat) (dest : List Byte) : Option (List Byte) :=
  if groupAddr dest then some (groupMac dest)
  else
    let hop := if s.onLink a dest then dest else s.gateway a dest
    (s.net.neighbours.find? fun e => e.1 == a && e.2.1 == hop).map fun e => e.2.2

/-- The peer abort frame of a commit, under K_G and for every module (R119, R461). -/
def State.peerAbortBytes (s : State) (id : Nat) (t : Int) : List Byte :=
  frameBytes (s.customerKey 3) 0x21 0xFFFE 0 (s.objN Obj.KEY_GEN 3) s.ex.groupCounter 0 (s.objN Obj.NODE_ID 0) 0xFFFF
    (beBytes 4 id ++ time96Be t)

/-- Put a peer abort on the wire with the next group SEQ, to an address, from address set 0 (log entry 201). -/
def peerFrame (s : State) (id : Nat) (t : Int) (dest : List Byte) : State :=
  let to_ := (s.hopMac 0 dest).map fun mac => { mac, ip := dest, own := s.ownAddr 0 dest, udpPort := 0xBA7E : Origin }
  let s := sendTo s 2 to_ (s.peerAbortBytes id t)
  let s := { s with com := { s.com with peerSent := (id, t, dest) :: s.com.peerSent },
                    ex := { s.ex with groupOut := (s.ex.groupCounter, beBytes 4 id ++ time96Be t) :: s.ex.groupOut } }
  takeGroupSeq s

/-- Send one peer abort frame to PEER_GROUP (R119), at once or as soon as a group SEQ is free (R462); an address of zeros
sends none. The second part says whether one is sent. -/
def sendPeerAbort (s : State) (c : Commit) : State × Bool :=
  let dest := s.oct Obj.PEER_GROUP 0
  if dest.all (· == 0) then (s, false)
  else if s.ex.groupCounter < s.ex.groupLimit then (peerFrame s c.id c.t dest, true)
  else if s.ex.groupLimit < u32Max then ({ s with ex := { s.ex with peerWait := s.ex.peerWait ++ [(c.id, c.t, dest)] } }, true)
  else (s, false)

/-- Send what waited for a group SEQ (R462). -/
def flushGroup (s : State) : State :=
  let w := s.ex.groupWait
  let p := s.ex.peerWait
  let s := { s with ex := { s.ex with groupWait := [], peerWait := [] } }
  let s := p.foldl (fun s x => if s.ex.groupCounter < s.ex.groupLimit then peerFrame s x.1 x.2.1 x.2.2 else s) s
  w.foldl groupAnswer s

/-- The NAK an abandonment sends to the originator (Table 4.6); a timeout sends none, and a CANCEL is acknowledged. -/
def abandonNak : Outc → Option Nak
  | .peerAbort | .deviceState => some .aborted
  | .stale => some .stale
  | .failover => some .failover
  | .late => some .late
  | _ => none

/-- Take back a PREPARE or COMMIT that still waits for the host's grant; it is answered with a NAK. -/
def refuseHeld (s : State) (h : HeldPrepare) (n : Nak) : State :=
  let s := withdraw s .commit h.commit.id
  let s := { s with com := { s.com with held := s.com.held.erase h } }
  answerCommit s h.sess h.req (.nak n 0 h.commit.id)

/-- A slot whose uncorrectable error waited for its commit becomes INVALID when the commit is abandoned (Table 17.8). -/
def slotAfter (s : State) (slot : Nat) : State :=
  if s.mat.slotErr.contains slot ∧ ¬ s.inUse slot then
    invalidate { s with mat := { s.mat with slotErr := s.mat.slotErr.filter (· ≠ slot) } } slot 8
  else s

/-- Abandon a commit for a reason (R130): its staging set and slot are freed, its grant released, the event raised, the
originator told, and a peer abort sent for an armed commit that carries PEER_ABORT. A COMMIT of it that is still held for the
host's grant is answered NAK UNKNOWN (DESIGN CHOICE, log entry 17). -/
def abandon (s : State) (c : Commit) (why : Outc) : State :=
  let armed := decide (c.state = .armed)
  let s := s.dropCommit c.id
  let s := (s.com.held.filter fun h => h.arm && h.commit.id == c.id).foldl (fun s h => refuseHeld s h .unknown) s
  let (s, c) :=
    if armed && c.peerAbort && decide (why ≠ .cancelled ∧ why ≠ .peerAbort) then
      let (s, sent) := sendPeerAbort s c
      (s, if sent then c.flag 16 else c)
    else (s, c)
  let c := { c with state := .abandoned }
  let s := updateLog s c.logIndex (c.entry why 0)
  let s := releaseGrant s .commit c.id
  let s := s.incSat Obj.COMMITS_ABANDONED 0
  let s := s.capNote fun _ a => { a with abandoned := c.id :: a.abandoned }
  let s := raiseA s 0x2020 [.word c.id, .word c.slot, .word why.code]
  let s := slotAfter s c.slot
  match abandonNak why with
  | some n => nakUnsolicited s c.sess c.req n c.id
  | none => s

/-- A PREPARE or COMMIT still held for the host's grant when the device leaves PARKED and SERVICE is refused as in any other
state, with NAK STATE (R133, Table 10.6); it is no commit that Table 4.6 abandons (DEDUCED, log entry 17). -/
def refuseAllHeld (s : State) : State := s.com.held.foldl (fun s h => refuseHeld s h .state) s

/-- Every commit ends ABANDONED with reason DEVICE_STATE, as at the entry to SAFE or FAULT_HOLD (Table 4.6). One that is
applying or settling ends too. -/
def abandonAll (s : State) : State :=
  let s := refuseAllHeld s
  s.com.live.foldl (fun s c => abandon s c .deviceState) s

/-! ### Fault-map changes (R132) -/

/-- Whether a commit's T is less than 2 µs away. -/
def State.tooLate (s : State) (t : Int) : Bool := decide (t < s.now + 2000)

/-- Revalidate the image of a commit under R80, with all that this does to its slot. A slot lost meanwhile keeps its state, and the
image as staged is judged. -/
def revalidateImage (s : State) (c : Commit) : State × Bool :=
  match s.slotState c.slot with
  | .valid | .stale => revalidateSlot s c.slot
  | _ => (s, s.revalidates c.portMap c.routes)

/-- Revalidate PREPARED and ARMED commits after a change of FAULT_GEN, ARMED ones first in order of T (R132). The revalidation
takes up to 300 µs, so an armed commit nearer than 2 µs to its T is abandoned too. -/
def revalidateCommits (s : State) : State :=
  let todo := s.armedQueue ++ s.com.live.filter fun c => c.state == .prepared
  todo.foldl (fun s c =>
    match revalidateImage s c with
    | (s, ok) => if !ok || (c.state == .armed && s.tooLate c.t) then abandon s c .stale else s) s

/-! ### Staging (R108) -/

/-- Codes the wave plan and the template see of an element (R111): the staged ones of an armed predecessor, else those
of the present φc through the present map and span. -/
def State.predCodes (s : State) (pred : Option Commit) (e : Nat) : Nat × Nat :=
  match pred.bind fun c => mfind c.elems e with
  | some x => (x.codeA, x.codeB)
  | none => s.codesOf e (s.elem e).phiC

/-- Whether an element staged in this very step (`now`) is staged from the present φc, so that map and span make one code of both and
no code can differ. -/
def State.samePhase (s : State) (now : Bool) (pred : Option Commit) (e : Nat) (phase : Int) : Bool :=
  now && (pred.bind fun c => mfind c.elems e).isNone && decide ((s.elem e).phiC = phase)

/-- What a staging set takes of an element's record (R108, R274). The wave is not planned yet. -/
def State.stageElem (s : State) (slot e : Nat) : StagedElem :=
  let r := s.elemRecord slot e
  let f := le r 7 1
  let ph := toSigned 16 (le r 2 2)
  let (a, b) := s.codesOf e ph
  let n := le r 6 1
  let plain := decide (n = 0)
  { codeA := a, codeB := b, phase := ph, setpoint := toSigned 16 (le r 4 2), template := n,
    a1 := if plain then 0 else s.obj Obj.TPL_A1 n, a2 := if plain then 0 else s.obj Obj.TPL_A2 n,
    d1 := if plain then 0 else s.objN Obj.TPL_D1 n, d2 := if plain then 0 else s.objN Obj.TPL_D2 n,
    cross := bitOf f 0 == 1, hold := bitOf f 2 == 1, noLight := bitOf f 3 == 1, wave := none }

def State.stageVoa (s : State) (slot o : Nat) : StagedVoa :=
  let r := s.voaRecord slot o
  let dark := bitOf (le r 5 1) 1 == 1
  { code := if dark then s.voaMaxCode o else s.voaCodeOf o (le r 2 2), atten := if dark then 25000 else le r 2 2,
    target := toSigned 16 (le r 0 2), source := le r 4 1, dark := dark }

/-! ### Wave plan (R111, R112) -/

/-- Elements in light order: stage, plane, position, element. -/
def planOrder : List Nat :=
  (lightOrder.map fun st => ((List.range 2).map fun p => ((List.range 512).map fun c =>
    [2 * cellIndex p st c, 2 * cellIndex p st c + 1]).flatten).flatten).flatten

/-- The charge of an element's change in units of 1/(100 * 8,192 * 32,768) pC. -/
def chargeUnits (span : Nat) (dA dB : Nat) (a1 : Int) : Int :=
  12 * (if span = 0 then 25 else 50) * ((dA + dB : Nat) : Int) * (32768 + a1)

/-- Q_plan in the same units: 90 % of the budget in mA times 3.2 ns (R111, R291). -/
def planCap (milliamps : Nat) : Int := ((milliamps * 288 * 8192 * 32768 : Nat) : Int)

def absDiff (a b : Nat) : Nat := (a - b) + (b - a)

/-- A plan as it grows: the present wave, its load, how many elements change, the whole charge, the waves given. -/
structure PlanAcc where
  wave : Nat := 0
  load : Int := 0
  changed : Nat := 0
  total : Int := 0
  waves : List (Nat × Nat) := []
  deriving DecidableEq, Repr

/-- One element of the plan. -/
def planStep (cap : Int) (span : Nat) (a : PlanAcc) (e : Nat) (x : StagedElem) (old : Nat × Nat) : PlanAcc :=
  if x.codeA = old.1 ∧ x.codeB = old.2 then a
  else
    let q := chargeUnits span (absDiff x.codeA old.1) (absDiff x.codeB old.2) x.a1
    let next := decide (cap < a.load + q)
    let w := if next then a.wave + 1 else a.wave
    { wave := w, load := if next then q else a.load + q, changed := a.changed + 1, total := a.total + q,
      waves := (e, w) :: a.waves }

/-- The plan of a staged commit against a predecessor (R111): an element changes where a code differs. `now` says that the commit is
staged in this very step. -/
def State.plan (s : State) (now : Bool) (pred : Option Commit) (c : Commit) : PlanAcc :=
  let cap := planCap c.budget
  planOrder.foldl (fun a e =>
    match mfind c.elems e with
    | none => a
    | some x =>
      if s.samePhase now pred e x.phase then a
      else planStep cap (s.spanOf (armA e)) a e x (s.predCodes pred e)) {}

/-- Set the waves of a staged commit from its plan. Old codes are where each template starts from (R121). -/
def State.planned (s : State) (now : Bool) (pred : Option Commit) (c : Commit) : Commit :=
  let p := s.plan now pred c
  { c with waves := if p.changed = 0 then 1 else p.wave + 1, changed := p.changed,
           charge := (p.total / (10 * 8192 * 32768)).toNat,
           pred := match pred with | some q => q.id | none => 0
           predSerial := match pred with | some q => q.serial | none => s.com.appliedSerial
           elems := mmap (fun e x => { x with wave := (p.waves.find? fun w => w.1 == e).map (·.2) }) c.elems }

/-- The largest number of waves (R112). -/
def State.maxWaves (s : State) (spacing : Nat) : Nat := min (s.objN Obj.MAX_WAVES 0) (90 / spacing + 1)

/-- The ARMED commit with the latest T (R113). -/
def State.lastArmed (s : State) : Option Commit := s.armedQueue.getLast?

/-- The ARMED commit with the latest T before an instant. -/
def State.predOf (s : State) (t : Int) : Option Commit := (s.armedQueue.filter fun c => c.t < t).getLast?

/-- The ARMED commit that follows an instant. -/
def State.succOf (s : State) (t : Int) : Option Commit := (s.armedQueue.filter fun c => t < c.t).head?

/-- A PREPARE's heater request (R287): the rises of the VOA heaters. -/
def State.voaHeat (s : State) (voas : SMap StagedVoa) : Int :=
  (voas.map fun v => max 0 (((s.powerAt (40960 + v.1) (s.spanOf (voaChan v.1)) v.2.code : Nat) : Int) -
    ((s.power (40960 + v.1) : Nat) : Int))).foldl (· + ·) 0

/-- A commit staged from its slot, its waves planned against the predecessor in force. -/
def State.stageCommit (s : State) (sess req id slot : Nat) (noRefine : Bool) : Commit :=
  let c : Commit := {
    id := id, slot := slot, sess := sess, req := req, state := .prepared, noRefine := noRefine,
    preparedAt := s.tick, flags := if noRefine then 8 else 0,
    elems := (List.range 40960).map fun e => (e, s.stageElem slot e)
    voas := (List.range 1024).map fun o => (o, s.stageVoa slot o)
    hostTempl := s.hostMode 4,
    portMap := s.slotPortMap slot, routes := s.slotRoutes slot,
    spacing := s.objN Obj.WAVE_SPACING 0, budget := s.objN Obj.DRIVE_BUDGET 0 }
  let c := { c with heat := s.voaHeat c.voas }
  s.planned true s.lastArmed c

/-- The grant request of a commit: its heater amount and its plan's charge in 0.1 pC. -/
def State.commitReq (s : State) (c : Commit) : GReq :=
  { kind := .commit, source := c.id, heater := c.heat,
    chans := (c.voas.filter fun v => decide ((s.chan (voaChan v.1)).out < v.2.code)).map fun v => voaChan v.1,
    charge := c.charge,
    waves := c.waves }

/-- The body of a PREPARE ACK (Table 16.3). -/
def State.prepareAck (s : State) (c : Commit) : List Byte :=
  beBytes 1 c.waves ++ beBytes 3 0 ++ beBytes 4 c.changed ++ beBytes 4 c.pred ++ beBytes 1 s.stagingFree ++ beBytes 3 0

/-- A PREPARE is accepted: the commit is PREPARED, logged, and its ACK sent (R106, R109, R134). -/
def acceptPrepare (s : State) (c : Commit) : State :=
  let s := s.newLog { c with preparedAt := s.tick }
  answerCommit s c.sess c.req (.ack (s.prepareAck c))

/-! ### T (R120 to R123, R154, R157) -/

/-- Whether an element is looped in a commit: neither HOLD nor NO_LIGHT nor DISABLED. -/
def StagedElem.looped (x : StagedElem) (y : Elem) : Bool := !x.hold && !x.noLight && decide (y.state ≠ .disabled)

/-- R154: a changed, looped element with a wrap's carry keeps φc + φw within the effective limit by one jump. -/
def carryFit (lim phase : Int) (y : Elem) : Elem :=
  let at_ := phase + y.phiW
  let k : Int := if lim < at_ then -32768 else if at_ < -lim then 32768 else 0
  { y with phiW := y.phiW + k, wrap := y.wrap.map fun w => { w with jumps := w.jumps + k } }

/-- What T does to an element's loop (R122, R154). The hysteresis of the set-point is cleared, though no rule names it among what T
resets (DESIGN CHOICE, log entry 194). The second part is its staged record with the codes its template runs
toward and the codes it starts from. -/
def State.elemAtT (s : State) (e : Nat) (x : StagedElem) : Elem × StagedElem :=
  let y := s.elem e
  let y := { y with cross := if e % 2 = 0 then x.cross else y.cross }
  let old := (s.outCode (armA e), s.outCode (armB e))
  let blocked := s.cellClass (cellOf e) == 3
  let changed := x.wave.isSome
  let y := if y.state = .wrapping then y.pauseWrap s.tick else y
  if y.state = .disabled then
    if blocked then (y, { x with wave := none, oldA := old.1, oldB := old.2 })
    else ({ y with phiC := if changed then x.phase else y.phiC, phiL := if changed then 0 else y.phiL,
                   phiW := if changed then 0 else y.phiW },
          { x with oldA := old.1, oldB := old.2 })
  else if x.hold || x.noLight then
    let y := if changed then { y with phiC := x.phase, phiL := 0, phiW := 0 } else y
    ({ y with state := .opened, stepping := false, suspended := false }, { x with oldA := old.1, oldB := old.2 })
  else
    let y := { y with t := x.setpoint, target := x.setpoint, tReached := true, suspended := true, stepping := false }
    if changed then
      let x := { x with dphi := x.phase - y.phiC }
      let y := { y with phiC := x.phase, phiL := 0, step := s.law Obj.ACQ_STEP 0, offloading := false }
      let y := if y.phiW = 0 then y else carryFit (s.pockelsLimit e) x.phase y
      let (a, b) := if y.phiW = 0 then (x.codeA, x.codeB) else s.codesOf e y.phi
      (y, { x with codeA := a, codeB := b, oldA := old.1, oldB := old.2 })
    else (y, { x with oldA := old.1, oldB := old.2 })

/-- What T does to a VOA (R122, R157, R158): its staged code through the limiter, but not to a lost lane; its loop restarts
unless DISABLED. -/
def voaAtT (s : State) (o : Nat) (x : StagedVoa) : State :=
  let v := s.voa o
  let v := { v with atten := x.atten, darkOut := x.dark, vstepping := false, limited := false, fresh := false,
                    state := if v.state = .disabled then .disabled else .acquire }
  let s := (s.setObj Obj.VOA_TARGET o x.target).setObjN Obj.VOA_SOURCE o x.source
  let s := voaRetarget (s.setVoa o v) o
  if s.voaLost o then s else writeTarget s (voaChan o) x.code

/-- What T does to every staged element: loops, and the staged records with the codes the templates use. The staged
set-point of a looped element is the newest SETPOINT target (R154). -/
def elemsAtT (s : State) (c : Commit) : State × Commit :=
  let done := c.elems.map fun p => (p.1, s.elemAtT p.1 p.2)
  let s := done.foldl (fun s p =>
    let looped := p.2.2.looped (s.elem p.1)
    let s := s.setElem p.1 p.2.1
    if looped then noteRatio (s.setObj Obj.SETPOINT p.1 p.2.2.setpoint) (cellOf p.1) else s) s
  (s, { c with elems := done.map fun p => (p.1, p.2.2) })

/-- The applied mapping (R70, R123). -/
def applyMapping (s : State) (slot : Nat) (portMap routes : List Nat) : State :=
  let dest := (List.range 1024).filterMap fun i =>
    let o := portMap.getD i 0xFFFF
    if o = 0xFFFF then none else some (i, (o : Int))
  let src := (List.range 1024).filterMap fun o => (portMap.findIdx? (· == o)).map fun i => (o, (i : Int))
  let rt := (List.range 2048).filterMap fun n =>
    let m := routes.getD n 0xFFFF
    if m = 0xFFFF then none else some (n, (m : Int))
  let objs := mset (mset (mset s.objs Obj.APPLIED_DEST dest) Obj.APPLIED_SOURCE src) Obj.APPLIED_ROUTE rt
  { s with objs := objs }.setObjN Obj.APPLIED_SLOT 0 slot

/-! ### Waves and templates (R121) -/

/-- An arm code of a template: the amplitude of its phase 1 or 2, then the final code. -/
def templateCode (a final old : Int) : Int := final + floorDiv (a * (final - old)) 32768

/-- Write the arms of element e for the template phase reached: 1 the kick, 2 the hold, 3 the final codes. -/
def writePhase (s : State) (e : Nat) (x : StagedElem) (phase : Nat) : State :=
  let code := fun (final old : Nat) =>
    if phase = 1 then templateCode x.a1 final old else if phase = 2 then templateCode x.a2 final old else (final : Int)
  writeDirect (writeDirect s (armA e) (code x.codeA x.oldA)) (armB e) (code x.codeB x.oldB)

/-- The phase a template is in `dt` ticks after its start. -/
def StagedElem.phaseAt (x : StagedElem) (dt : Nat) : Nat := if dt < x.d1 then 1 else if dt < x.d1 + x.d2 then 2 else 3

/-- Bring an element's template to the phase of the present tick, writing its codes where the phase is new. -/
def advanceTemplate (s : State) (e : Nat) (x : StagedElem) : State × StagedElem :=
  match x.began with
  | none => (s, x)
  | some t =>
    let p := x.phaseAt (s.tick - t)
    if x.templPhase < p then (writePhase s e x p, { x with templPhase := p }) else (s, x)

/-- Start wave w of a commit: each of its elements begins its template. -/
def startWave (s : State) (c : Commit) (w : Nat) : State × Commit :=
  let r := c.elems.foldl (fun (p : State × SMap StagedElem) q =>
    if q.2.wave = some w then
      let (s, x) := advanceTemplate p.1 q.1 { q.2 with began := some p.1.tick }
      (s, p.2 ++ [(q.1, x)])
    else (p.1, p.2 ++ [q])) (s, [])
  (r.1, { c with elems := r.2, nextWave := w + 1 })

/-! ### DONE (R95, R126, R127) -/

/-- Values latched at DONE (R95): LOCKED elements without HOLD and NO_LIGHT, and LOCKED VOAs. -/
def State.latchOf (s : State) (c : Commit) : Latch :=
  { slot := c.slot
    elems := c.elems.filterMap fun p =>
      let y := s.elem p.1
      if !p.2.hold && !p.2.noLight && y.state == .locked && !y.suspended then some (p.1, y.phiC + y.phiL, y.t) else none
    voas := c.voas.filterMap fun p => if (s.voa p.1).state = .locked then some (p.1, (s.voa p.1).atten) else none }

/-- Loops that R126 counts and that are not LOCKED. -/
def State.notLocked (s : State) (c : Commit) : Nat :=
  (c.elems.filter fun p =>
    let y := s.elem p.1
    p.2.looped y && (y.state != .locked || y.suspended)).length +
  (c.voas.filter fun p => (s.voa p.1).state != .disabled && (s.voa p.1).state != .locked).length

/-- What the elements of a LOCKED commit teach their templates (R273). -/
def State.lessons (s : State) (c : Commit) : List (Nat × Int × Int) :=
  c.elems.filterMap fun p =>
    let y := s.elem p.1
    if p.2.wave.isSome && p.2.looped y && y.state == .locked && !y.suspended && p.2.template ≠ 0 &&
        decide (s.obj Obj.ADAPT_MIN 0 ≤ (p.2.dphi.natAbs : Int)) then some (p.2.template, p.2.dphi, y.phiL)
    else none

/-- What a commit that ends latches: from the scan that ends now, or, where a later commit supersedes it, from the last scan that
ended before (R95, R127). -/
def State.latchAt (s : State) (c : Commit) (o : Outc) : Latch :=
  if o = .superseded then c.lastScan.getD { slot := c.slot, elems := [], voas := [] } else s.latchOf c

/-- A scan ends: what each settling commit would latch from it (R127). -/
def keepLatches (s : State) : State :=
  (s.com.live.filter fun c => c.state == .settling).foldl (fun s c => s.putCommit { c with lastScan := some (s.latchOf c) }) s

/-- The latch of a commit that ends: handed on, or dropped and counted where its slot has met an uncorrectable error
(R97, R100, Table 17.8). -/
def latchDone (s : State) (c : Commit) (o : Outc) : State :=
  if s.mat.slotErr.contains c.slot then
    let s := { s with mat := { s.mat with slotErr := s.mat.slotErr.filter (· ≠ c.slot) } }
    (invalidate s c.slot 8).incSat Obj.REFINE_DISCARDED 0
  else if c.noRefine then s else takeLatch s (s.latchAt c o)

/-- A commit reaches DONE (R126, R127): log, counts, refinement, templates, its grant released. -/
def endDone (s : State) (c : Commit) (o : Outc) : State :=
  let s := atModeBoundary s 3
  let missing := s.notLocked c
  let c := { c with state := .done }
  let s := updateLog (s.dropCommit c.id) c.logIndex (c.entry o (s.now - c.t).toNat)
  let s := latchDone s c o
  let s := if o = .locked then adaptAll s c.hostTempl (s.lessons c) else s
  let s := releaseGrant s .commit c.id
  let s := (s.incSat Obj.COMMITS_DONE 0).inc64 Obj.LIFE_COMMITS 0
  let s := s.capNote fun _ a => { a with done := c.id :: a.done }
  if o = .unlocked then raiseA s 0x2021 [.word c.id, .word missing] else s

end Sys2Proof.Machine
end

