-- ==== Sys2Proof/Machine/FlashOps.lean ====
section
/-!
DEFINITION. The flash: which objects the configuration regions hold (R525), what a store writes and how it ends (R524 to
R527), wear (R533), and the queue of the stores the device makes by itself (R210, R280, R306).
-/

namespace Sys2Proof.Machine

open Sys2Proof

/-! ### What the regions hold -/

/-- Commands: objects that read 0 (R525). -/
def commandObjs : List Nat :=
  [Obj.FAULT_APPLY, Obj.DP_APPLY, Obj.SPAN_APPLY, Obj.GEN_APPLY, Obj.SAFE_STORE, Obj.SAFE_REVERT, Obj.INJ_APPLY,
   Obj.CAL_APPLY, Obj.CAL_ACCEPT, Obj.CAL_ABORT, Obj.CAL_STORE, Obj.CAL_VALUES_APPLY, Obj.TEMPLATE_APPLY] ++
  [Obj.STEADY_RESET, Obj.LOBE_RESET, Obj.SWAP_NOW, Obj.NET_APPLY, Obj.RULES_APPLY, Obj.RULES_STORE, Obj.TXQ_APPLY,
   Obj.GATE_APPLY, Obj.TIME_RESET, Obj.SESSION_CLOSE, Obj.KEY_APPLY, Obj.ARB_RESET] ++
  [Obj.FW_VERIFY, Obj.FW_ACTIVATE, Obj.FW_CONFIRM, Obj.FW_ROLLBACK, Obj.CONFIG_STORE, Obj.PARK_CLEAR, Obj.DEVICE_COMMAND]

/-- Objects the calibration regions hold: those of R280. -/
def calObjs : List Nat :=
  [Obj.CHECK_EXPECT, Obj.SPARE_OFFSET, Obj.SPARE_GAIN, Obj.SPARE_EXPECT, Obj.REF_TRIM_CODE, Obj.EXTINCTION,
   Obj.LANE_RESIDUAL, Obj.CONV_RESIDUAL] ++
  [Obj.CONV_OFFSET, Obj.CONV_GAIN, Obj.PD_GAIN, Obj.TARGET_BAR, Obj.TARGET_CROSS, Obj.FRINGE_SIGN, Obj.THERMAL_ALPHA,
   Obj.HEATER_R, Obj.BAND_TRIM, Obj.TEMPLATE_BAR, Obj.TEMPLATE_CROSS] ++
  [Obj.FAST_MAP, Obj.HEATER_MAP, Obj.VOA_MAP, Obj.IN_TAP_REF, Obj.OUT_TAP_REF, Obj.TPL_A1, Obj.TPL_A2, Obj.TPL_D1,
   Obj.TPL_D2, Obj.LANE_OFFSET, Obj.LANE_GAIN]

/-- Objects held in another region than the configuration (R525). -/
def otherRegion (addr : Nat) : Bool :=
  calObjs.contains addr ||
    [Obj.CELL_CLASS, Obj.ELEMENT_FAULT, Obj.SAFE_CODE, Obj.SAFE_SPAN, Obj.SHADOW_NODE, Obj.SHADOW_BANK].contains addr

/-- Whether the configuration regions hold an object (R525). -/
def configObj (addr : Nat) : Bool :=
  match objDef addr with
  | none => false
  | some d => d.level == 2 && d.change != .readOnly && !commandObjs.contains addr && addr != Obj.KEY_NEW &&
      !otherRegion addr && !(d.type == .octets && decide (4096 < d.hi))

/-- The part of a two-level map whose addresses a test selects. -/
def pick {α : Type} (f : Nat → Bool) (m : SMap (SMap α)) : SMap (SMap α) := m.filter fun e => f e.1

/-- A value listed in a stored region, else the object's default. -/
def storedVal (m : SMap (SMap Int)) (addr sel : Nat) : Int := (mfind2 m addr sel).getD (objDefault addr sel)

def storedOct (m : SMap (SMap (List Byte))) (addr sel : Nat) : List Byte := (mfind2 m addr sel).getD (octDefault addr sel)

/-- Addresses and selectors that a two-level map lists. -/
def listed {α : Type} (m : SMap (SMap α)) : List (Nat × Nat) := (m.map fun e => e.2.map fun x => (e.1, x.1)).flatten

/-- The addresses and selectors, among those a test selects, whose present value differs from the stored one. -/
def State.differs (s : State) (f : Nat → Bool) (m : SMap (SMap Int)) (mo : SMap (SMap (List Byte))) : List (Nat × Nat) :=
  let nums := (listed (pick f s.objs) ++ listed (pick f m)).eraseDups
  let octs := (listed (pick f s.octs) ++ listed (pick f mo)).eraseDups
  (nums.filter fun p => s.obj p.1 p.2 != storedVal m p.1 p.2) ++ (octs.filter fun p => s.oct p.1 p.2 != storedOct mo p.1 p.2)

/-- The numeric objects as they are stored: a span, which is of class S, at the one in effect (R525). -/
def State.storedObjs (s : State) : SMap (SMap Int) :=
  mset s.objs Obj.SPAN ((s.drv.chans.filter fun c => c.2.span != 1).map fun c => (c.1, (c.2.span : Int)))

def State.configDiff (s : State) : List (Nat × Nat) :=
  State.differs { s with objs := s.storedObjs } configObj s.dev.flash.config s.dev.flash.configOcts

def State.calDiff (s : State) : List (Nat × Nat) := s.differs calObjs.contains s.dev.flash.cal s.dev.flash.calOcts

/-- The configuration region of an address and selector: the 32 regions hold them in ascending order, and where the boundaries lie is free
(R525, log entry 13). -/
def configRegion (p : Nat × Nat) : Nat :=
  ((List.range 31).filter fun r => decide (Config.regionStart (r + 1) ≤ p.1 * 4294967296 + p.2)).length

/-- The calibration region of an address and selector (log entry 13). -/
def calRegion (p : Nat × Nat) : Nat := Config.storedRegion p.1 p.2 % 128

/-- The regions, of `n`, that a list of differing objects touches. -/
def regionsOf (n : Nat) (place : Nat × Nat → Nat) (l : List (Nat × Nat)) : List Nat :=
  (List.range n).filter fun r => l.any fun p => place p == r

/-! ### Regions -/

/-- The flash offset of region `i` of a store (Table 18.8). -/
def StoreKind.offset : StoreKind → Nat → Nat
  | .bootRecords, i => 0x40000 * i
  | .safePage, _ => 0xC0000
  | .faultMap, _ => 0x100000
  | .rules, _ => 0x140000
  | .keys _, _ => 0x180000
  | .life, i => 0x1C0000 + 0x40000 * i
  | .park _, i => 0x240000 + 0x40000 * i
  | .config, i => 0x1000000 + 0x40000 * i
  | .calibration, i => 0x2000000 + 0x40000 * i
  | .fwRegion n, _ => 0x8000000 + 0x40000 * n

/-- The regions a store programs, one at a time (Table 18.8, R526): of configuration and calibration those whose contents
differ from flash, one that fails its CRC among them. -/
def State.storeRegions (s : State) : StoreKind → List Nat
  | .bootRecords | .park _ => [0, 1]
  | .life => [1 - s.dev.flash.lifeCopy]
  | .config => (List.range 32).filter fun i =>
      (regionsOf 32 configRegion s.configDiff).contains i || s.dev.flash.bad.contains (StoreKind.config.offset i)
  | .calibration => (List.range 128).filter fun i =>
      (regionsOf 128 calRegion s.calDiff).contains i || s.dev.flash.bad.contains (StoreKind.calibration.offset i)
  | _ => [0]

/-- Whether a store runs: FLASH_BUSY (R526). -/
def State.flashBusy (s : State) : Bool := s.dev.store.isSome

/-- Flash writes are permitted (R306). -/
def State.flashOk (s : State) : Bool := s.therm.flashOk

def State.updFlash (s : State) (f : Flash → Flash) : State := { s with dev := { s.dev with flash := f s.dev.flash } }

/-- Put the present values of a region's objects into a stored map. -/
def keepRegion {α : Type} (place : Nat × Nat → Nat) (r : Nat) (f : Nat → Bool) (now old : SMap (SMap α)) : SMap (SMap α) :=
  let here := fun p : Nat × Nat => f p.1 && place p == r
  let old := ((listed old).filter here).foldl (fun m p => mdel2 m p.1 p.2) old
  ((listed now).filter here).foldl (fun m p => match mfind2 now p.1 p.2 with | some v => mset2 m p.1 p.2 v | none => m) old

/-- The counts of the life record (R462, R533). -/
def lifeContents (s : State) (f : Flash) : Flash :=
  { f with groupLimit := s.ex.groupLimit, groupGen := s.objN Obj.KEY_GEN 3,
           hours := s.objN Obj.POWER_ON_HOURS 0, coldResets := s.objN Obj.COLD_RESETS 0,
           commits := s.objN Obj.LIFE_COMMITS 0, hotHours := s.objN Obj.HOURS_JUNCTION_HOT 0,
           caseHours := s.objN Obj.HOURS_CASE_HOT 0 }

/-- What programming region `i` of a store leaves in flash: the contents at its end (log entry 13). The two boot records are
copies of one another, so the first one written decides (R512); the park image takes both its regions. -/
def regionContents (s : State) (i : Nat) : StoreKind → Flash → Flash
  | .safePage, f => { f with working := s.dev.page.getD f.working }
  | .faultMap, f => { f with faultGen := s.objN Obj.FAULT_GEN 0, cellClass := mget [] s.objs Obj.CELL_CLASS,
                             elementFault := mget [] s.objs Obj.ELEMENT_FAULT }
  | .rules, f => { f with rules := some s.net.rules.bank, rulesGen := s.objN Obj.RULES_GEN 0 }
  | .keys _, f => { f with keys := s.ex.keys, keyGens := (List.range 4).map fun k => (k, s.objN Obj.KEY_GEN k) }
  | .life, f => { lifeContents s f with lifeCopy := i }
  | .park none, f => { f with park := none }
  | .park (some slot), f => { f with park := some (s.slotRead slot 0 slotBytes) }
  | .config, f => { f with config := keepRegion configRegion i configObj s.storedObjs f.config,
                           configOcts := keepRegion configRegion i configObj s.octs f.configOcts }
  | .calibration, f => { f with cal := keepRegion calRegion i calObjs.contains s.objs f.cal,
                                calOcts := keepRegion calRegion i calObjs.contains s.octs f.calOcts }
  | .bootRecords, f =>
    match s.dev.boot with
    | some (c, t) => { f with confirmed := c, trial := t, bootSeq := f.bootSeq + (if i = 0 then 1 else 0) }
    | none => f
  | .fwRegion _, f => f

/-- A store of the calibration completes: CAL_STORED_GEN takes the generation stored, and CAL_STORED is raised (R280). -/
def calStored (s : State) : State :=
  let s := s.updFlash fun f => { f with calGen := s.objN Obj.CAL_GEN 0 }
  raiseA (s.setObj Obj.CAL_STORED_GEN 0 (s.obj Obj.CAL_GEN 0)) 0x4043 [.word (s.obj Obj.CAL_GEN 0)]

/-- Begin a store; one with no region to program is complete at once. A store of the calibration is no longer postponed. -/
def startStore (s : State) (k : StoreKind) : State :=
  let l := s.storeRegions k
  let s := if k = .calibration then { s with cal := { s.cal with postponed := false } } else s
  if l.isEmpty then (if k = .calibration then calStored s else s) else { s with dev := { s.dev with store := some { kind := k, regions := l } } }

/-- An automatic store of the calibration waits because flash writes are barred: CAL_STORE_POSTPONED, once (R280). -/
def notePostponed (s : State) : State :=
  if s.flashOk || s.cal.postponed || !s.dev.storeQueue.contains .calibration then s
  else raiseA { s with cal := { s.cal with postponed := true } } 0x4044 [.word (s.obj Obj.CAL_GEN 0)]

/-- Begin the first waiting store while none runs and flash writes are permitted. -/
def pumpStores (s : State) : State :=
  match s.dev.store, s.dev.storeQueue with
  | none, k :: t => if s.flashOk then startStore { s with dev := { s.dev with storeQueue := t } } k else s
  | _, _ => s

/-- A store the device makes by itself: at once where it may, else as soon as it may. -/
def autoStore (s : State) (k : StoreKind) : State :=
  if s.dev.storeQueue.contains k then s
  else notePostponed (pumpStores { s with dev := { s.dev with storeQueue := s.dev.storeQueue ++ [k] } })

/-- Share of the write budget in 0.01 %, saturating (R533). -/
def wearOf (erases : Nat) : Nat := min 10000 (erases * 10000 / 38400000)

/-- The group counter limit a completed reservation puts in force (R462): 16,777,216 further, at most 0xFFFF_FFFF. -/
def raiseGroupLimit (s : State) : State :=
  if s.ex.groupReserved then
    flushGroup { s with ex := { s.ex with groupReserved := false, groupLimit := min u32Max (s.ex.groupLimit + 16777216) } }
  else s

/-- Region `i` of a store has been programmed (R526, R533): its CRC is good, the wear rises, and FLASH_WEAR_HIGH is raised once
above 80 %. -/
def regionDone (s : State) (k : StoreKind) (i : Nat) : State :=
  let s := if k = .life then raiseGroupLimit s else s
  let f := regionContents s i k s.dev.flash
  let s := s.updFlash fun _ => { f with erases := f.erases + 1, bad := f.bad.filter (· ≠ k.offset i) }
  let w := wearOf s.dev.flash.erases
  if 8000 < w ∧ ¬ s.dev.wearRaised then raiseA { s with dev := { s.dev with wearRaised := true } } 0x100C [.word w] else s

/-- The last region of a store is complete. -/
def endStore (s : State) : State := { s with dev := { s.dev with store := none } }

end Sys2Proof.Machine
end

