-- ==== Sys2Proof/Machine/FaultOps.lean ====
section
/-!
DEFINITION. The fault map as the device changes it: reports of R62, what they do to staged host writes (R64), to loops
(R144), to prepared and armed commits (R132) and to flash (Table 18.8).
-/

namespace Sys2Proof.Machine

open Sys2Proof

/-- The cell whose entry a fault-map write touches (R64). -/
def FaultWrite.cell (w : FaultWrite) : Nat := if w.addr = Obj.CELL_CLASS then w.sel else w.sel / 2

/-- The entry of a cell: its class and the faults of its two elements (R64). -/
def State.faultEntry (s : State) (k : Nat) : Nat × Nat × Nat :=
  (s.cellClass k, s.objN Obj.ELEMENT_FAULT (2 * k), s.objN Obj.ELEMENT_FAULT (2 * k + 1))

/-- Every write staged to the entry of a cell before a device change of it is void (R64). -/
def voidStaged (s : State) (k : Nat) : State :=
  { s with fab := { s.fab with staged := s.fab.staged.map fun w => if w.cell = k then { w with void := true } else w } }

/-- Bring the loop of an element to where the fault map puts it: DISABLED now, or, no longer so, in ACQUIRE from the next scan on
(Table 5.3, `enableScan`). -/
def followFault (s : State) (e : Nat) : State := if s.mustDisable e then disableElem s e else s

def followCell (s : State) (k : Nat) : State := followFault (followFault s (2 * k)) (2 * k + 1)

/-- What every change of the fault map brings: the next generation, commits revalidated, the map stored. -/
def mapChanged (s : State) (bump : Bool) : State :=
  let s := if bump then s.setObjN Obj.FAULT_GEN 0 (nextGen (s.objN Obj.FAULT_GEN 0)) else s
  autoStore (revalidateCommits s) .faultMap

/-- A device report of faults of an element (R62): all reports of a scan share one increment of FAULT_GEN. Writes staged to the
entry are void where the report changes it; one that leaves it as it was is no change of the device (R64, DEDUCED, log
entry 15). -/
def reportFault (s : State) (e bits : Nat) : State :=
  let k := cellOf e
  let old := s.faultEntry k
  let s := s.setObjN Obj.ELEMENT_FAULT e (s.objN Obj.ELEMENT_FAULT e ||| bits)
  let s := if s.obj Obj.AUTO_BLOCK 0 = 1 then s.setObjN Obj.CELL_CLASS k 3 else s
  let s := followCell (if s.faultEntry k = old then s else voidStaged s k) k
  let bump := !s.fab.reported
  let s := mapChanged { s with fab := { s.fab with reported := true } } bump
  raiseA s 0x2001 [.word e, .word (s.obj Obj.ELEMENT_FAULT e), .word (s.cellClass k)]

end Sys2Proof.Machine
end

