-- ==== Sys2Proof/Machine/Fabric.lean ====
section
/-!
DEFINITION. The meanings of the fabric commands (spec/02_fabric.md): applying fault-map writes and the pin test.
-/

namespace Sys2Proof.Machine

open Sys2Proof

/-! ### Fault-map writes (R64) -/

/-- A write of CELL_CLASS or ELEMENT_FAULT is staged; it replaces an earlier one to the same selector (R472), but not one
that a device change has made void. -/
def effFaultStage (addr sel : Nat) (v : Int) (s : State) : State × Verdict :=
  let rest := s.fab.staged.filter fun w => w.void || !(w.addr == addr && w.sel == sel)
  ({ s with fab := { s.fab with staged := rest ++ [{ addr := addr, sel := sel, value := v }] } }, .ack)

/-- FAULT_APPLY: one apply at the next scan boundary, NAK BUSY while one waits. -/
def effFaultApply (s : State) : State × Verdict :=
  if s.fab.applyPending then (s, .nak .busy) else ({ s with fab := { s.fab with applyPending := true } }, .ack)

def execFaultApply (sess : Nat) (s : State) : Host.Outcome State Fault Refusal :=
  finish s (hostWrite s sess Obj.FAULT_APPLY 0 1 effFaultApply)

/-- Raise FAULT_STAGE_DISCARDED for each cell whose staged writes were discarded. -/
def discardEvents (s : State) (cells : List Nat) : State := cells.foldl (fun s (k : Nat) => raiseA s 0x2003 [.word k]) s

/-- Take every staged write at once: void ones are discarded and counted, the others applied in order. -/
def applyFaults (s : State) : State :=
  let keep := s.fab.staged.filter fun w => !w.void
  let voids := s.fab.staged.filter fun w => w.void
  let s0 := { s with fab := { s.fab with staged := [], applyPending := false } }
  let s1 := discardEvents (s0.incSat Obj.FAULT_DISCARDS 0 voids.length) (voids.map (·.cell)).eraseDups
  let s2 := keep.foldl (fun s w => s.setObj w.addr w.sel w.value) s1
  let changed := ((keep.map (·.cell)).eraseDups).filter fun k => s2.faultEntry k != s1.faultEntry k
  if changed.isEmpty then s2
  else
    let s3 := mapChanged (changed.foldl followCell s2) true
    raiseA s3 0x2002 [.word (s3.obj Obj.FAULT_GEN 0), .word changed.length]

/-- The scan boundary at which an accepted FAULT_APPLY takes effect (R64). -/
def execFaultMapApply (s : State) : Host.Outcome State Fault Refusal :=
  finish s (if s.fab.applyPending ∧ s.tick % 256 = 0 then applyFaults s else s)

/-! ### Pin test (R66, R67) -/

/-- The inputs of a cell that carry a mapped port in the applied image, by their index. -/
def State.litInputs (s : State) (k : Nat) : List Nat :=
  let p := planeOfCell k
  let st := stageOfCell k
  let b := pairedBit st
  let used := (mget [] s.objs Obj.APPLIED_DEST).filter fun d => d.2 ≠ 0xFFFF
  (used.filterMap fun d =>
    let x := lineBefore d.1 (s.objN Obj.APPLIED_ROUTE (p * 1024 + d.1)) d.2.toNat st
    if cellPos b x = posOfCell k then some (bitOf x b) else none).eraseDups

/-- The pin test ends with a status; PIN_TEST_DONE carries the extinction (R66, R72). What its item carries for a test without a
result is not stated: DESIGN CHOICE, the object's present value, that of the latest test with one (log entry 15). -/
def endPinTest (s : State) (k status : Nat) : State :=
  let s := { s with fab := { s.fab with pinTest := none } }
  raiseA (s.setObjN Obj.PIN_TEST_STATUS 0 status) 0x2004 [.word k, .word status, .word (s.obj Obj.PIN_TEST_EXTINCTION 0)]

/-- A commit that reaches APPLYING aborts a running test (Table 2.10). -/
def abortPinTest (s : State) : State :=
  match s.fab.pinTest with
  | some t => endPinTest s t.cell 5
  | none => s

def effPinTestCell (k : Int) (s : State) : State × Verdict :=
  if s.fab.pinTest.isSome || s.commitMoving then (s, .nak .busy)
  else
    let s := (s.setObj Obj.PIN_TEST_CELL 0 k).setObjN Obj.PIN_TEST_STATUS 0 1
    ({ s with fab := { s.fab with pinTest := some { cell := k.toNat, start := s.tick } } }, .ack)

def execPinTestCell (sess : Nat) (k : Int) (s : State) : Host.Outcome State Fault Refusal :=
  finish s (hostWrite s sess Obj.PIN_TEST_CELL 0 k (effPinTestCell k))

/-- The result of a test whose one lit input is `i`: the wanted output is i in BAR, the other in CROSS; the leak is the
output that is left. Which of the samples of the 64 scans give the extinction is not stated: DESIGN CHOICE, those of the last
scan that has ended, tagged INV or not (log entry 15). -/
def pinResult (s : State) (k i : Nat) : State :=
  let cross := (s.elem (2 * k)).cross
  let w := if cross then 1 - i else i
  let tap := fun t => ((s.pd (4 * k + 2 + t)).before s.scan).p
  let s := s.setObjN Obj.PIN_TEST_STATE 0 (boolNat cross)
  s.setObj Obj.PIN_TEST_EXTINCTION 0 (clampInt (-32768) 32767 (ratioLog 1000 (tap (1 - w)) (tap w)))

/-- After 64 scans the test reports (R66). -/
def execPinTestDone (s : State) : Host.Outcome State Fault Refusal :=
  finish s <|
    match s.fab.pinTest with
    | none => s
    | some t =>
      if s.tick - t.start < 64 * 256 then s
      else
        match s.litInputs t.cell with
        | [] => endPinTest s t.cell 3
        | [i] => endPinTest (pinResult s t.cell i) t.cell 2
        | _ => endPinTest s t.cell 4

end Sys2Proof.Machine
end

