-- ==== Sys2Proof/Machine/Library.lean ====
section
/-!
DEFINITION. The meanings of the library, router and refinement commands (spec/03_images.md).
-/

namespace Sys2Proof.Machine

open Sys2Proof

/-! ### Loading (R84 to R87) -/

/-- What a session's LOAD_STATUS reads (R87). -/
def State.setLoadStatus (s : State) (sess v : Nat) : State :=
  match s.session sess with
  | some (i, x) => s.setSession i { x with loadStatus := v }
  | none => s

/-- Whether a slot is held in LOADING by other than a session. -/
def State.loadingBy (s : State) (slot : Nat) : Option Load := s.lib.loads.find? fun l => l.slot == slot

/-- Open a load of a slot for a session; a load the router holds passes to the session (R87). -/
def openLoad (s : State) (sess slot : Nat) : State :=
  let held := (s.loadingBy slot).any fun l => l.forRoute
  let s := s.dropLoads fun l => l.slot != slot
  let s := (discardRefinement s slot).setSlot slot .loading
  { s with lib := { s.lib with loads := s.lib.loads ++ [{ slot, session := some sess, last := s.tick, forRoute := held }] } }

def effLoadSlot (sess : Nat) (v : Int) (s : State) : State × Verdict :=
  let slot := v.toNat
  let other := (s.loadingBy slot).any fun l => l.session != some sess && l.session.isSome
  if s.inUse slot || other || s.slotState slot == .routing then (s, .nak .busy)
  else
    let s := awaitWriteBack (s.setObj Obj.LOAD_SLOT 0 v) slot
    let s := if (s.loadOf sess).any fun l => l.slot != slot then abandonLoad s sess false else s
    (openLoad s sess slot, .ack)

def execLoadSlot (sess : Nat) (slot : Int) (s : State) : Host.Outcome State Fault Refusal :=
  finish s (hostWrite s sess Obj.LOAD_SLOT 0 slot (effLoadSlot sess slot))

/-- A route request ends (R91, R103): status, duration and ROUTE_DONE. -/
def endRoute (s : State) (slot status us : Nat) : State :=
  let s := { s with lib := { s.lib with route := none } }
  let s := (s.setObjN Obj.ROUTE_STATUS 0 status).setObjN Obj.ROUTE_TIME 0 us
  raiseA s 0x2012 [.word slot, .word status, .word us]

/-- Microseconds since a tick. -/
def State.usSince (s : State) (since : Nat) : Nat := (s.tick - since) * 32 / 5000

/-- A load ends with LOAD_CLOSE: a load for a route request ends the request too (R93). One that ends with reason 8, an HBM error, ends
it with CONFLICT like a failed check (DESIGN CHOICE, log entry 16). -/
def closeLoad (s : State) (sess : Nat) (l : Load) (state : SlotState) (reason : Nat) : State :=
  let s := (s.dropLoads fun x => !(x.session == some sess)).setLoadStatus sess reason
  let s := if state = .invalid then invalidate s l.slot reason else s.setSlot l.slot state
  match s.lib.route with
  | some r => if l.forRoute && r.waitHost then endRoute s r.slot (if state = .valid then 2 else 4) (s.usSince r.start) else s
  | none => s

/-- LOAD_CLOSE (R85): the checks of Table 3.6, and reason 8 where an uncorrectable word lies in the slot. -/
def effLoadClose (sess : Nat) (s : State) : State × Verdict :=
  match s.loadOf sess with
  | none => (s, .nak .state)
  | some l =>
    if l.received < slotBytes then (s, .nak .state)
    else if s.slotBad l.slot then (closeLoad s sess l .invalid 8, .nak .memory)
    else
      match s.loadFault l.slot with
      | none => (closeLoad s sess l .valid 0, .ack)
      | some r => (closeLoad s sess l .invalid r, .nak (if r = 3 then .crc else .format))

def execLoadClose (sess : Nat) (s : State) : Host.Outcome State Fault Refusal :=
  finish s (hostWrite s sess Obj.LOAD_CLOSE 0 1 (effLoadClose sess))

/-- A load without a LOAD_CLOSE lapses 10 s after its last write (R86). -/
def execLoadTimeout (sess : Nat) (s : State) : Host.Outcome State Fault Refusal :=
  finish s <|
    match s.loadOf sess with
    | some l => if s.elapsed l.last 10000000000 then abandonLoad s sess false else s
    | none => s

/-- ERASE_SLOT (R89): the running write-back ends first, then the slot is EMPTY and its refinements are discarded. -/
def effEraseSlot (sess : Nat) (v : Int) (s : State) : State × Verdict :=
  let slot := v.toNat
  let other := (s.loadingBy slot).any fun l => l.session != some sess
  if s.inUse slot || other || s.slotState slot == .routing then (s, .nak .busy)
  else
    let s := awaitWriteBack (s.setObj Obj.ERASE_SLOT 0 v) slot
    let s := (discardRefinement s slot).dropLoads fun l => l.slot != slot
    (s.setSlot slot .empty, .ack)

def execEraseSlot (sess : Nat) (slot : Int) (s : State) : Host.Outcome State Fault Refusal :=
  finish s (hostWrite s sess Obj.ERASE_SLOT 0 slot (effEraseSlot sess slot))

/-- REVALIDATE (R81). -/
def effRevalidate (v : Int) (s : State) : State × Verdict :=
  let slot := v.toNat
  let s0 := awaitWriteBack s slot
  match s0.slotState slot with
  | .valid | .stale =>
    if s0.slotBad slot then (invalidate s0 slot 8, .nak .memory)
    else ((revalidateSlot (s0.setObj Obj.REVALIDATE 0 v) slot).1, .ack)
  | _ => (s0, .nak .state)

def execRevalidate (sess : Nat) (slot : Int) (s : State) : Host.Outcome State Fault Refusal :=
  finish s (hostWrite s sess Obj.REVALIDATE 0 slot (effRevalidate slot))

/-! ### Search (R94) -/

/-- Examine slots in order: the first that is current or becomes current is the result. -/
def findFirst (s : State) : List Nat → State
  | [] => s
  | slot :: t =>
    let (s, ok) := if s.slotFaultGen slot = s.objN Obj.FAULT_GEN 0 then (s, true) else revalidateSlot s slot
    if ok then { s with lib := { s.lib with found := slot } } else findFirst s t

/-- A write of FIND_HASH (R94) starts a search; one still open is given up (DESIGN CHOICE, log entry 16). -/
def effFindHash (hash : Nat) (s : State) : State × Verdict :=
  let s := s.setObjN Obj.FIND_HASH 0 hash
  ({ s with lib := { s.lib with search := some hash, found := 0xFFFFFFFF } }, .ack)

def execFindHash (sess hash : Nat) (s : State) : Host.Outcome State Fault Refusal :=
  finish s (hostWrite s sess Obj.FIND_HASH 0 hash (effFindHash hash))

/-- The search over the VALID slots with the hash; FIND_RESULT then reads its result. -/
def execFindComplete (s : State) : Host.Outcome State Fault Refusal :=
  finish s <|
    match s.lib.search with
    | none => s
    | some h =>
      let slots := (s.lib.slots.filter fun x => x.2 == .valid && s.slotHash x.1 == h).map (·.1)
      let s := findFirst { s with lib := { s.lib with search := none, found := 0xFFFFFFFF } } slots
      s.setObjN Obj.FIND_RESULT 0 s.lib.found

/-! ### The router (R90 to R93) -/

/-- The request of a ROUTE_APPLY: vector, exclusion list and slot as staged. -/
def State.excludeOf (b : List Byte) : List Nat := ((List.range 16).map fun i => be b (4 * i) 4).filter (· ≠ 0xFFFFFFFF)

/-- Start a request of a session (R91), or in host mode ask the host (R93). -/
def startRoute (s : State) (sess slot : Nat) (vector exclude : List Nat) : State :=
  let s := atModeBoundary (awaitWriteBack s slot) 2
  let load := (s.loadOf sess).filter fun l => l.slot == slot
  let s := (discardRefinement s slot).dropLoads fun l => l.slot != slot
  let host := s.hostMode 2
  let seq := s.objN Obj.ROUTE_SEQ 0
  let r : Route := { seq, slot, vector, exclude, prior := s.slotState slot, load, hosted := host,
                     before := if host then s.slotCells slot else [], start := s.tick, waitHost := host,
                     due := s.tick + s.objN Obj.ROUTE_HOST_DEADLINE 0 * 156250 }
  let s := { s with lib := { s.lib with route := some r } }
  if host then
    let s := (s.setSlot slot .loading).setObjN Obj.ROUTE_STATUS 0 6
    let s := { s with lib := { s.lib with loads := s.lib.loads ++ [{ slot, session := none, last := s.tick, forRoute := true }] } }
    raiseA s 0x2013 [.word seq, .word slot]
  else (s.setSlot slot .routing).setObjN Obj.ROUTE_STATUS 0 1

/-- Take the staged request. -/
def takeRequest (s : State) : State :=
  ((s.applyStaged Obj.ROUTE_VECTOR).applyStaged Obj.ROUTE_EXCLUDE).applyStaged Obj.ROUTE_SLOT

/-- ROUTE_APPLY (R90, R91): the router first checks the vector under R73, then the slot under R84. A refused one leaves the staged
values in place (R472). ROUTE_SEQ goes up before the request bears it, so the first is 1, and a request that ends CONFLICT counts too
(DESIGN CHOICE, log entry 16). -/
def effRouteApply (sess : Nat) (s : State) : State × Verdict :=
  let slot := (s.judged Obj.ROUTE_SLOT 0).toNat
  let v := vectorOf (s.judgedOct Obj.ROUTE_VECTOR 0)
  let other := (s.loadingBy slot).any fun l => l.session != some sess
  if s.obj Obj.ROUTE_STATUS 0 = 1 ∨ s.obj Obj.ROUTE_STATUS 0 = 6 then (s, .nak .busy)
  else if !vectorInRange v then (s, .nak .range)
  else if vectorRepeats v then (endRoute (s.incWrap Obj.ROUTE_SEQ 0) slot 4 0, .nak .conflict)
  else if s.inUse slot || other || s.slotState slot == .routing then (s, .nak .busy)
  else
    let s := takeRequest (s.incWrap Obj.ROUTE_SEQ 0)
    (startRoute s sess slot v (State.excludeOf (s.oct Obj.ROUTE_EXCLUDE 0)), .ack)

def execRouteApply (sess : Nat) (s : State) : Host.Outcome State Fault Refusal :=
  finish s (hostWrite s sess Obj.ROUTE_APPLY 0 1 (effRouteApply sess))

/-- NO_ROUTE: the slot has the state and the contents it had before the request (Table 3.7). A load that the session held open on it
goes on, unless the session has ended or opened another since: then it is abandoned as R86 has it. -/
def unroute (s : State) (r : Route) : State :=
  let s := if r.hosted then s.slotWrite r.slot 0 (memRead slotBytes (slotBase r.slot) r.before) else s
  match r.load with
  | none => s.setSlot r.slot r.prior
  | some l =>
    if (l.session.any fun n => (s.session n).isSome && (s.loadOf n).isNone) then
      { s.setSlot r.slot r.prior with lib := { (s.setSlot r.slot r.prior).lib with loads := s.lib.loads ++ [l] } }
    else s.setSlot r.slot .empty

/-- The router ends its request, within 2 ms (R91): the image is written only once a route is found in both planes. -/
def execRouteDone (us : Nat) (s : State) : Host.Outcome State Fault Refusal :=
  finish s <|
    match s.lib.route with
    | none => s
    | some r =>
      if r.waitHost then s
      else
        match s.findRoute r.vector r.exclude with
        | some t => endRoute ((writeImage s r.slot r.vector t).setSlot r.slot .valid) r.slot 2 (min us 2000)
        | none => endRoute (unroute s r) r.slot 3 (min us 2000)

/-- The host's time for a route passes (R93): its load is abandoned and the device router takes the request. Its 2 ms run from here, and
ROUTE_TIME then counts from here too (DESIGN CHOICE, log entry 16). -/
def execFallbackImageGeneration (s : State) : Host.Outcome State Fault Refusal :=
  finish s <|
    match s.lib.route with
    | none => s
    | some r =>
      if r.waitHost ∧ s.hostMode 2 ∧ r.due ≤ s.tick then
        let s := fallback s 2
        let s := (s.dropLoads fun l => l.slot != r.slot).setSlot r.slot .routing
        ({ s with lib := { s.lib with route := some { r with waitHost := false, start := s.tick } } }).setObjN Obj.ROUTE_STATUS 0 1
      else s

/-! ### Refinement (R95 to R100) -/

/-- Whether REFINE_MAX_RATE lets a write-back start now: no more often than its rate per second. -/
def State.rateAllows (s : State) : Bool :=
  decide (0 < s.refineRate) &&
    match s.lib.lastWrite with
    | none => true
    | some t => decide (5000000000 ≤ 32 * (s.tick - t) * s.refineRate)

/-- A queued write-back starts (R97, R98). A STALE slot is written back too and stays STALE; an entry whose slot can no longer be
written, an INVALID one for instance, is discarded and counted at its turn (DESIGN CHOICE, log entry 16). -/
def execWriteBackStart (s : State) : Host.Outcome State Fault Refusal :=
  finish s <|
    match s.lib.queue with
    | [] => s
    | l :: _ =>
      if s.lib.writing.isNone && s.rateAllows then
        match s.slotState l.slot with
        | .valid | .stale => startWriteBack s l
        | _ => discardRefinement s l.slot
      else s

/-- A write-back ends (R98). -/
def execWriteBackDone (s : State) : Host.Outcome State Fault Refusal := finish s (finishWriteBack s)

def State.dropBuf (s : State) (b : Nat) : State := { s with lib := { s.lib with bufs := mdel s.lib.bufs b } }

/-- The host's decision on a refinement buffer (R100); NAK RANGE for a free one (R102). -/
def effRefineDecide (b : Nat) (v : Int) (s : State) : State × Verdict :=
  match mfind s.lib.bufs b with
  | none => (s, .nak .range)
  | some x =>
    let s := (s.dropBuf b).setObj Obj.REFINE_DECIDE b v
    if v = 1 then (queueLatch s x.latch, .ack) else (s.incSat Obj.REFINE_DISCARDED 0, .ack)

def execRefineDecideWrite (sess b : Nat) (s : State) : Host.Outcome State Fault Refusal :=
  finish s (hostWrite s sess Obj.REFINE_DECIDE b 1 (effRefineDecide b 1))

def execRefineDecideDiscard (sess b : Nat) (s : State) : Host.Outcome State Fault Refusal :=
  finish s (hostWrite s sess Obj.REFINE_DECIDE b 2 (effRefineDecide b 2))

/-- A buffer put in its place in a list of buffers by the end of the host's time, the earliest first. -/
def byDue (b : Nat × RefineBuf) : List (Nat × RefineBuf) → List (Nat × RefineBuf)
  | [] => [b]
  | c :: t => if b.2.due < c.2.due then b :: c :: t else c :: byDue b t

/-- Queue every occupied buffer (R100), in the order in which their host's time ends, so that of two latches of one slot the later wins
(DESIGN CHOICE, log entry 16). -/
def queueBuffers (s : State) : State :=
  (s.lib.bufs.foldr byDue []).foldl (fun s b => queueLatch (s.dropBuf b.1) b.2.latch) s

/-- The host's time for a buffer passes (R100). -/
def execFallbackRefinement (s : State) : Host.Outcome State Fault Refusal :=
  finish s (if s.lib.bufs.any (fun b => decide (b.2.due ≤ s.tick)) then queueBuffers (fallback s 3) else s)

end Sys2Proof.Machine
end

