-- ==== Sys2Proof/Machine/Commits.lean ====
section
/-!
DEFINITION. The meanings of the commit commands (spec/04_commit.md), and the fallback of pre-emphasis at a PREPARE (R275).
-/

namespace Sys2Proof.Machine

open Sys2Proof

/-! ### PREPARE (Table 4.3) -/

/-- Checks 1 to 5 of Table 4.3 on what is known before the slot is touched. -/
def State.prepareNak (s : State) (id slot flags : Nat) : Option Nak :=
  if s.dev.state ≠ .parked ∧ s.dev.state ≠ .service then some .state
  else if id = 0 ∨ u32Max < id ∨ 1 < flags then some .range
  else if (s.findCommit id).isSome || s.com.held.any (fun h => h.commit.id == id) then some .conflict
  else if 262143 < slot then some .range
  else
    match s.slotState slot with
    | .empty | .loading | .routing | .invalid => some .state
    | .stale => some .stale
    | .valid | .writing =>
      if s.inUse slot then some .busy else if s.stagingFree = 0 then some .full else none

/-- Check 6: the slot is current or passes revalidation, once any running write-back has ended (R81, R99). -/
def prepareCurrent (s : State) (slot : Nat) : State × Bool :=
  let s := awaitWriteBack s slot
  if s.slotFaultGen slot = s.objN Obj.FAULT_GEN 0 then (s, true) else revalidateSlot s slot

/-- Check 7: the slot as fetched, a queued write-back of it performed first (R99). -/
def prepareFetch (s : State) (slot : Nat) : State × Option Nak :=
  let s := promoteWriteBack s slot
  if s.slotBad slot then (if s.slotState slot = .invalid then s else invalidate s slot 8, some .memory)
  else if s.slotField slot 0x1C 4 ≠ s.slotCrc slot then (invalidate s slot 3, some .crc)
  else (s, none)

/-- Check 8 and the grant (R111, R287, R293): refused, accepted, or held for the host. -/
def prepareGrant (s : State) (c : Commit) : State :=
  let s := atModeBoundary s 5
  let refuse := fun (s : State) => answerCommit s c.sess c.req (.nak .budget 0 c.id)
  if s.maxWaves c.spacing < c.waves ∨ s.steady.frozen then refuse (s.incSat Obj.GRANTS_REFUSED 0)
  else if s.hostMode 5 then
    let s := { s with com := { s.com with held := s.com.held ++ [{ sess := c.sess, req := c.req, commit := c }] } }
    askHost s (s.commitReq c)
  else
    let (s, ok) := grantNow s (s.commitReq c)
    if ok then acceptPrepare s c else refuse s

/-- A PREPARE: the checks of Table 4.3 in order, the plan, the staging set, the ACK. -/
def prepareOp (s : State) (sess req id slot flags : Nat) : State :=
  let s := adaptBoundary s
  let refuse := fun (s : State) n => answerCommit s sess req (.nak n 0 id)
  match s.prepareNak id slot flags with
  | some n => refuse s n
  | none =>
    let (s, ok) := prepareCurrent s slot
    if !ok then refuse s .stale
    else
      match prepareFetch s slot with
      | (s, some n) => refuse s n
      | (s, none) => prepareGrant s (s.stageCommit sess req id slot (bitOf flags 0 == 1))

def execPrepare (sess req id slot flags : Nat) (s : State) : Host.Outcome State Fault Refusal :=
  finish s (request s sess req .commit (.prepare sess req id slot flags) fun s _ => prepareOp s sess req id slot flags)

/-! ### COMMIT (R113, R115, R116) -/

/-- The commits condition 4 looks at: those before T that are ARMED, APPLYING or SETTLING, and ARMED ones after it. -/
def State.spaced (s : State) (id : Nat) (t : Int) : Bool :=
  s.com.live.all fun d =>
    d.id == id || d.state == .prepared ||
      (if d.t ≤ t then decide (d.t + 5000 ≤ t) else d.state != .armed || decide (t + 5000 ≤ d.t))

/-- Ticks from now to the first tick whose counter value is at least an instant. -/
def State.ticksTo (s : State) (t : Int) : Nat :=
  let c := s.time.ctr.at s.counterLobe
  let a := max 1 (s.objN Obj.ADDEND 0)
  let want := (t - c.ns) * 4294967296 - c.frac
  if want ≤ 0 then 0 else ((want + a - 1) / a).toNat

/-- The counter value `k` ticks from now, in whole ns. -/
def State.valueAt (s : State) (k : Nat) : Int :=
  let c := s.time.ctr.at s.counterLobe
  c.ns + ((c.frac + k * s.objN Obj.ADDEND 0) / 4294967296 : Nat)

/-- The earliest tick value from an instant on that meets condition 4, one live commit moving it at most once. -/
def State.earliest (s : State) (id : Nat) : Nat → Int → Int
  | 0, t => t
  | n + 1, t =>
    let v := s.valueAt (s.ticksTo t)
    if s.spaced id v then v
    else
      let clash := s.com.live.filter fun d => d.id != id && d.state != .prepared &&
        decide (d.t - 5000 < v ∧ v < d.t + 5000)
      s.earliest id n (clash.foldl (fun m d => max m (d.t + 5000)) (t + 1))

/-- The time counter has locked at least once since the last time-domain reset. -/
def State.everLocked (s : State) : Bool := s.time.servo ≠ .unset

/-- Whether a COMMIT at T makes a different commit the predecessor of this one, or of the ARMED commit after it (R113). -/
def State.needsReplan (s : State) (c : Commit) (t : Int) : Bool :=
  let p := match s.predOf t with | some q => q.serial | none => s.com.appliedSerial
  p != c.predSerial || (match s.succOf t with | some d => d.predSerial != c.serial | none => false)

/-- Replan a commit against its new predecessor, and the ARMED commit that follows it; none if a plan does not fit. -/
def State.replan (s : State) (c : Commit) (t : Int) : Option (Commit × Option Commit) :=
  let c' := s.planned false (s.predOf t) c
  let d' := (s.succOf t).map fun d => s.planned false (some c') d
  let fits := fun (x : Commit) => decide (x.waves ≤ s.maxWaves x.spacing)
  if fits c' && (match d' with | some d => fits d | none => true) then some (c', d') else none

/-- Arm a commit (R116): it enters the queue of timed commits and its COMMIT is acknowledged with the T in force. -/
def armCommit (s : State) (sess req : Nat) (c : Commit) (t : Int) (peer : Bool) (next : Option Commit) : State :=
  let s := match next with | some d => s.stepCommit d | none => s
  let s := s.stepCommit { c with state := .armed, t := t, peerAbort := peer }
  answerCommit s sess req (.ack (time96Be t))

/-- The conditions of R115 before replanning. `t` is the T in force. -/
def State.commitNak (s : State) (id : Nat) (t : Int) (immediate : Bool) : Option Nak :=
  if !immediate && s.tooLate t then some .late
  else if !s.spaced id t then some .interval
  else if !immediate && !s.everLocked then some .time
  else none

/-- What becomes of a COMMIT whose replanning found a plan or none, by Steady or with the host's grant (R293). `immediate` says that
it carries T = 0. -/
def commitPlanned (s : State) (sess req id : Nat) (t : Int) (peer immediate : Bool) (plan : Option (Commit × Option Commit)) : State :=
  let refuse := fun (s : State) => answerCommit s sess req (.nak .budget 0 id)
  match plan with
  | none => refuse (s.incSat Obj.GRANTS_REFUSED 0)
  | some (c', d') =>
    if s.steady.frozen then refuse (s.incSat Obj.GRANTS_REFUSED 0)
    else if s.hostMode 5 then
      let h : HeldPrepare := { sess, req, commit := { c' with t := t, peerAbort := peer }, arm := true, immediate }
      askHost { s with com := { s.com with held := s.com.held ++ [h] } } { s.commitReq c' with heater := 0, chans := [] }
    else
      let (s, ok) := steadyDecides s 1
      if ok then armCommit (s.incSat Obj.GRANTS_ISSUED 0) sess req c' t peer d' else refuse (s.incSat Obj.GRANTS_REFUSED 0)

/-- The last condition of R115: replanning. -/
def commitPlan (s : State) (sess req : Nat) (c : Commit) (t : Int) (peer immediate : Bool) : State :=
  if !s.needsReplan c t then armCommit s sess req c t peer none
  else
    let s := atModeBoundary s 5
    commitPlanned s sess req c.id t peer immediate (s.replan c t)

/-- A COMMIT (R115). Its T is a TIME96 held in ns; a value no TIME96 has stands for one whose nanoseconds field is out of
range. -/
def commitOp (s : State) (sess req id : Nat) (t : Int) (flags : Nat) : State :=
  let refuse := fun n => answerCommit s sess req (.nak n 0 id)
  if s.dev.state ≠ .parked ∧ s.dev.state ≠ .service then refuse .state
  else
    match s.findCommit id with
    | none => refuse .unknown
    | some c =>
      if c.state ≠ .prepared then refuse .unknown
      else if !typeAllows .time96 t ∨ 1 < flags then refuse .range
      else
        let inForce := if t = 0 then s.earliest id 130 (s.now + 2000) else t
        match s.commitNak id inForce (t == 0) with
        | some n => refuse n
        | none => commitPlan s sess req c inForce (bitOf flags 0 == 1) (t == 0)

def execCommit (sess req id : Nat) (t : Int) (flags : Nat) (s : State) : Host.Outcome State Fault Refusal :=
  finish s (request s sess req .commit (.commit sess req id t flags) fun s _ => commitOp s sess req id t flags)

/-! ### CANCEL, timeout and peer abort (R110, R118, R119) -/

def cancelOp (s : State) (sess req id : Nat) : State :=
  match s.findCommit id with
  | none => answerCommit s sess req (.nak .unknown 0 id)
  | some c =>
    if c.state ≠ .prepared ∧ c.state ≠ .armed then answerCommit s sess req (.nak .unknown 0 id)
    else if c.state = .armed ∧ s.tooLate c.t then answerCommit s sess req (.nak .late 0 id)
    else answerCommit (abandon s c .cancelled) sess req (.ack [])

def execCancel (sess req id : Nat) (s : State) : Host.Outcome State Fault Refusal :=
  finish s (request s sess req .commit (.cancel sess req id) fun s _ => cancelOp s sess req id)

/-- A commit PREPARED for PREPARE_TIMEOUT is abandoned (R110). -/
def execPrepareTimeout (id : Nat) (s : State) : Host.Outcome State Fault Refusal :=
  finish s <|
    match s.findCommit id with
    | some c =>
      if c.state = .prepared ∧ s.elapsed c.preparedAt (1000000 * s.objN Obj.PREPARE_TIMEOUT 0) then
        abandon s c .prepareTimeout
      else s
    | none => s

/-- A peer abort (R119). -/
def execPeerAbort (id : Nat) (t : Int) (_source : Nat) (s : State) : Host.Outcome State Fault Refusal :=
  finish s <|
    match (s.findCommit id).filter fun c => c.state == .armed && c.t == t && !s.tooLate t with
    | some c => abandon s c .peerAbort
    | none =>
      raiseA (s.incSat Obj.PEER_ABORTS_IGNORED 0) 0x2024 [.word id, .time t.toNat, .time s.now.toNat]

/-! ### Application (R120 to R123) -/

/-- The present tick is the one nearest to T, ties going to the later tick (R120), or T has passed. -/
def State.atT (s : State) (t : Int) : Bool :=
  let c := s.time.ctr.at s.counterLobe
  decide (2 * t * 4294967296 < 2 * (c.ns * 4294967296 + c.frac) + s.objN Obj.ADDEND 0)

/-- What a superseded commit still owes of its final codes (R121): every element of its plan whose template has not ended takes
its final code. -/
def finishCodes (s : State) (d : Commit) : State :=
  d.elems.foldl (fun s p => if p.2.wave.isSome && decide (p.2.templPhase < 3) then writePhase s p.1 p.2 3 else s) s

/-- The commits still moving at a T end SUPERSEDED (R127). -/
def supersedeMoving (s : State) : State :=
  let s := (s.com.live.filter fun d => d.state == .applying).foldl finishCodes s
  (s.com.live.filter fun d => d.state == .settling || d.state == .applying).foldl (fun s d => endDone s d .superseded) s

/-- A commit begins to apply: commits still settling are superseded, the mapping and the VOA codes are taken, every loop
of the image is suspended and wave 0 starts. One still applying is superseded too: that happens only where a fail-over applies
several late commits at one tick, one after another in order of T; its final codes are then written at once (log entry 17). -/
def applyCommit (s : State) (c : Commit) : State :=
  let s := supersedeMoving s
  let s := if s.dev.state = .parked then s.enter .service else s
  let s := { s with com := { s.com with appliedSerial := c.serial } }
  let c := { c with state := .applying, tTick := s.tick, flags := c.flags ||| (if s.time.servo = .holdover then 4 else 0 : Nat) }
  let s := s.stepCommit c
  let s := applyMapping s c.slot c.portMap c.routes
  let s := c.voas.foldl (fun s v => voaAtT s v.1 v.2) s
  let (s, c) := elemsAtT s c
  let (s, c) := startWave s c 0
  let s := s.putCommit c
  let s := trigSource (abortPinTest (abortCalByCommit s c)) 17
  s.capNote fun _ a => { a with commitT := (c.id, c.t) :: a.commitT }

/-- T of a commit (R120), which the ACTIVE lobe applies; with none, the takeover decides (Table 4.6). -/
def execCommitT (id : Nat) (s : State) : Host.Outcome State Fault Refusal :=
  finish s <|
    match s.findCommit id with
    | some c => if c.state = .armed ∧ s.atT c.t ∧ s.active.isSome then applyCommit s c else s
    | none => s

/-- Wave w begins w * WAVE_SPACING ticks after wave 0 (R120, R121). With no lobe ACTIVE no code is written: the new one completes the
commit (R131). -/
def execWaveStart (id w : Nat) (s : State) : Host.Outcome State Fault Refusal :=
  finish s <|
    match s.findCommit id with
    | some c =>
      if c.state = .applying ∧ s.active.isSome ∧ w = c.nextWave ∧ w < c.waves ∧ c.tTick + w * c.spacing ≤ s.tick then
        let (s, c) := startWave s c w
        s.putCommit c
      else s
    | none => s

/-- A template passes to its next phase (R121). -/
def execTemplatePhaseEnd (id e : Nat) (s : State) : Host.Outcome State Fault Refusal :=
  finish s <|
    match s.findCommit id with
    | some c =>
      match mfind c.elems e with
      | some x =>
        if s.active.isSome then
          let (s, x) := advanceTemplate s e x
          s.putCommit { c with elems := mset c.elems e x }
        else s
      | none => s
    | none => s

/-- The template of the last wave has ended: every element of it holds its final codes. -/
def Commit.lastEnded (c : Commit) : Bool :=
  c.elems.all fun p => p.2.wave != some (c.waves - 1) || p.2.templPhase == 3

/-- APPLYING ends with the last wave's template (R106): SETTLING, and the staging set is free. -/
def execApplyingEnd (id : Nat) (s : State) : Host.Outcome State Fault Refusal :=
  finish s <|
    match s.findCommit id with
    | some c =>
      if c.state = .applying ∧ c.nextWave = c.waves ∧ c.lastEnded then
        s.stepCommit { c with state := .settling, lastEnd := s.tick }
      else s
    | none => s

/-- DONE at the end of a scan in which every counted loop is LOCKED (R126). -/
def execCommitDone (id : Nat) (s : State) : Host.Outcome State Fault Refusal :=
  finish s <|
    match s.findCommit id with
    | some c => if c.state = .settling ∧ s.tick % 256 = 0 ∧ s.notLocked c = 0 then endDone s c .locked else s
    | none => s

/-- DONE, UNLOCKED, at the end of the scan in which SETTLE_TIMEOUT passes since T (R126). -/
def execSettleTimeout (id : Nat) (s : State) : Host.Outcome State Fault Refusal :=
  finish s <|
    match s.findCommit id with
    | some c =>
      if c.state = .settling ∧ s.tick % 256 = 0 ∧ s.notLocked c ≠ 0 ∧ c.t + 1000 * s.obj Obj.SETTLE_TIMEOUT 0 ≤ s.now then
        endDone s c .unlocked
      else s
    | none => s

/-! ### Fallback of pre-emphasis (R275) -/

/-- FALLBACK_PRE_EMPHASIS (R275): a template deadline has passed. It stays missed whatever the host writes now, and the next
PREPARE falls back and applies the pending updates (`adaptBoundary`). -/
def execFallbackPreEmphasis (s : State) : Host.Outcome State Fault Refusal :=
  finish s (if s.adaptLate then { s with cal := { s.cal with missed := true } } else s)

end Sys2Proof.Machine
end

