-- ==== Sys2Proof/Machine/Loops.lean ====
section
/-!
DEFINITION. The meanings of the loop commands (spec/05_loops.md): evaluations, outer periods, offload, wraps, VOA periods,
the loop objects and the host's drive.
-/

namespace Sys2Proof.Machine

open Sys2Proof

/-! ### Bands -/

/-- The effective bands of an element (R272), of the values loaded at the last scan boundary: band_out below ACQ_BAND, band_in below
band_out. -/
def State.bands (s : State) (e : Nat) : Int × Int :=
  let tr := s.law Obj.BAND_TRIM e
  let acq := s.law Obj.ACQ_BAND 0
  let out := min (floorDiv (s.law Obj.BAND_OUT 0 * tr) 16384) (acq - 1)
  let inn := min (floorDiv (s.law Obj.BAND_IN 0 * tr) 16384) (out - 1)
  (inn, out)

/-- The sign of an integer, 0 for 0. -/
def sgn (v : Int) : Int := if v < 0 then -1 else if 0 < v then 1 else 0

/-- err in units of 2^-30, exact (R182): (1 - t) * Pa - t * Pb. -/
def errOf (t pa pb : Int) : Int := 32768 * pa - t * pa - t * pb

/-- Whether the host's time for a drive block has passed (R164). A block accepted later does not undo the miss (R37). -/
def State.driveLate (s : State) : Bool := s.hostMode 1 && s.elapsed s.loops.hostLast (1000000 * s.objN Obj.HOST_DEADLINE 0)

/-- UNOBSERVED (R142): both lines lit and nearly equal. A line reading that is not valid never makes it so (R139). -/
def State.unobservedBy (s : State) (ua ub : Sample) : Bool :=
  let d := s.law Obj.DARK_LEVEL 0
  !ua.inv && !ub.inv && decide (d ≤ ua.p ∧ d ≤ ub.p ∧
    32768 * ((ua.p - ub.p).natAbs : Int) < s.law Obj.OBS_MIN 0 * (ua.p + ub.p))

/-- The fringe sign of an element for its present cell state: bit clear is +1 (R141). -/
def State.fringe (s : State) (e : Nat) : Int :=
  let f := s.objN Obj.FRINGE_SIGN e
  if bitOf f (boolNat (s.cellCross (cellOf e))) = 0 then 1 else -1

/-! ### The inner loop -/

/-- The conditions of one evaluation (R182): out of the outer band, of the inner band and of ACQ_BAND, and the sign of err. -/
structure ErrTests where
  outBand : Bool
  outInner : Bool
  outAcq : Bool
  sign : Int
  deriving DecidableEq, Repr

/-- The error and band tests of an element in its lane. -/
def errTests (s : State) (e : Nat) (t : Int) (pa pb : Sample) : State × ErrTests :=
  let (bIn, bOut) := s.bands e
  let (s, _, cs) := runKernel s (columnOf e) (laneNo e) (errorKernel (laneBase e) pa pb t bOut bIn (s.law Obj.ACQ_BAND 0))
  let yes := fun (j : Nat) => cs.getD j none == some 1
  (s, { outBand := yes 0, outInner := yes 1, outAcq := yes 2, sign := (cs.getD 3 none).getD 0 })

/-- The part of the inner loop after err is known (R141): stepping, the step of ACQUIRE, the move of φl and clipping. The step of LOCKED
and WRAPPING is STEP. In host mode nothing moves, and clipping says that the host's value has reached the limit (R162). The second part
says whether this evaluation clipped. -/
def innerStep (s : State) (e : Nat) (x : Elem) (c : ErrTests) : Elem × Bool :=
  let lim := s.pockelsLimit e
  if s.hostIn x.pendScan then
    let clip := decide (lim ≤ ((x.phi.natAbs : Nat) : Int))
    ({ x with clipped := clip, stepping := false, lastSign := c.sign }, clip)
  else
    let stepping := if !x.stepping && c.outBand then true else if x.stepping && !c.outInner then false else x.stepping
    let x := { x with stepping := stepping }
    let x := if x.state = .locked ∨ x.state = .wrapping then { x with step := s.law Obj.STEP 0 } else x
    if stepping then
      let x :=
        if x.state = .acquire then
          if x.lastSign ≠ 0 ∧ c.sign ≠ x.lastSign then { x with step := max (x.step / 2) (s.law Obj.STEP 0), run := 0 }
          else if x.run + 1 = 8 then { x with step := min (2 * x.step) (s.law Obj.ACQ_STEP_MAX 0), run := 0 }
          else { x with run := x.run + 1 }
        else x
      let move := s.fringe e * c.sign * x.step
      let want := x.phiC + x.phiL - move + x.phiW
      if lim < (want.natAbs : Int) then ({ x with clipped := true, lastSign := c.sign }, true)
      else ({ x with phiL := x.phiL - move, clipped := false, lastSign := c.sign }, false)
    else ({ x with lastSign := c.sign }, false)

/-- The transitions of Table 5.3 at the end of an evaluation, the first that applies. -/
def transition (s : State) (e : Nat) (x : Elem) (clip live : Bool) : Elem :=
  let locks := s.lawN Obj.LOCK_SCANS 0
  if s.mustDisable e then { x.pauseWrap s.tick with state := .disabled, stepping := false, clipped := false, enabling := false }
  else if x.state = .acquire ∧ (locks ≤ x.bandRun ∨ locks ≤ x.darkRun ∨ locks ≤ x.unobsRun) then
    x.toLocked (s.law Obj.STEP 0) s.tick
  else if (x.state = .acquire ∨ x.state = .locked) ∧ s.lawN Obj.SAT_SCANS 0 ≤ x.clipRun then
    { x with state := .saturated, satSince := s.scan, deadA := true, deadB := true }
  else if x.state = .saturated ∧ live ∧ ¬ clip then x.toAcquire (s.law Obj.ACQ_STEP 0)
  else if x.state = .locked ∧ 2 ≤ x.lossRun then x.toAcquire (s.law Obj.ACQ_STEP 0)
  else if x.state = .wrapping ∧ 2 ≤ x.lossRun then (x.pauseWrap s.tick).toAcquire (s.law Obj.ACQ_STEP 0)
  else x

/-- The long-term mean of R148, in every evaluation that leaves the element LOCKED, neither dark nor UNOBSERVED. In
host-assisted mode it stands still with the offload (DESIGN CHOICE, log entry 196). -/
def meanUpdate (s : State) (x : Elem) : Elem :=
  if x.state = .locked ∧ ¬ x.dark ∧ ¬ x.unobserved ∧ ¬ s.hostIn x.pendScan then
    { x with mean := x.mean + floorDiv (65536 * x.phiL - x.mean) ((2 ^ s.lawN Obj.OFFLOAD_SHIFT 0 : Nat) : Int) }
  else x

/-- The flags that TAP_DEAD needs in every evaluation of a saturation (R153). -/
def deadFlags (s : State) (x : Elem) (pa pb ua ub : Sample) : Elem :=
  let d := s.law Obj.DARK_LEVEL 0
  let t := s.law Obj.TAP_DEAD_LEVEL 0
  let lit := !ua.inv && !ub.inv && decide (d ≤ ua.p ∧ d ≤ ub.p)
  { x with deadA := x.deadA && lit && decide (pa.p < t ∧ d ≤ pb.p),
           deadB := x.deadB && lit && decide (pb.p < t ∧ d ≤ pa.p) }

/-- A BAND run counts the evaluations, up to 1,024 within 4,096 scans, in which its element does not step: err/(Pa + Pb) in Q15 (R271). -/
def noteNoise (s : State) (e : Nat) (y : Elem) : State :=
  match s.cal.run with
  | none => s
  | some r =>
    if r.measures ∧ r.req.kind = 6 ∧ r.item = e ∧ r.count < 1024 ∧ s.scan < r.first + 4096 ∧ y.stepping = false ∧ 0 < y.sum then
      let v := floorDiv y.err y.sum
      s.putRun { r with sums := [r.sums.getD 0 0 + v], squares := r.squares + v * v, count := r.count + 1 }
    else s

/-- The inner law of one evaluation and its runs of scans: the element after it, and whether a step was clipped (R141, R143). A DARK or
UNOBSERVED element does not step. -/
def evalLaw (s : State) (e : Nat) (x : Elem) (pa pb : Sample) (dark unobs : Bool) : State × Elem × Bool :=
  if dark || unobs then
    let y : Elem := { x with darkRun := if dark then x.darkRun + 1 else 0, unobsRun := if unobs then x.unobsRun + 1 else 0,
                             bandRun := 0, clipRun := 0, lossRun := 0 }
    (s, y, false)
  else
    let (s, c) := errTests s e x.t pa pb
    let (y, clip) := innerStep s e x c
    let y : Elem := { y with darkRun := 0, unobsRun := 0, bandRun := if c.outInner then 0 else y.bandRun + 1,
                             clipRun := if clip then y.clipRun + 1 else 0, lossRun := if c.outAcq then y.lossRun + 1 else 0 }
    (s, y, clip)

/-- How an evaluation ends: the element is kept, its decision counts for the noise run, and the arms follow φ if it changed. -/
def evalEnd (s : State) (e : Nat) (old : Int) (stepped : Bool) (y : Elem) : State :=
  let s := s.setElem e y
  let s := if stepped then noteNoise s e y else s
  if y.phi ≠ old then followPhi s e else s

/-- One evaluation of an element on a pending sample set (R141 to R148). -/
def evaluate (s : State) (e : Nat) (pa pb ua ub : Sample) : State :=
  let x := { s.elem e with pend := none }
  if x.state = .opened ∨ x.state = .disabled then s.setElem e x
  else if pa.inv || pb.inv then s.setElem e x
  else
    let old := x.phi
    let sum := pa.p + pb.p
    let dark := decide (sum < s.law Obj.DARK_LEVEL 0)
    let unobs := !dark && s.unobservedBy ua ub
    let x := { x with dark := dark, unobserved := unobs, err := errOf x.t pa.p pb.p, sum := sum }
    let r := evalLaw s e x pa pb dark unobs
    let y := if r.2.1.state = .saturated then deadFlags r.1 r.2.1 pa pb ua ub else r.2.1
    evalEnd r.1 e old (!dark && !unobs) (meanUpdate r.1 (transition r.1 e y r.2.2 (!dark && !unobs)))

/-- Whether the latest step of φl was downward: it moves against the fringe sign times the sign of err (R141). -/
def State.stepsDown (s : State) (e : Nat) : Bool := decide (0 < s.fringe e * (s.elem e).lastSign)

/-- The state change of a decision (R319): 0 none, 1 into LOCKED, 2 out of LOCKED, 3 other. -/
def changeCode (new old : LoopState) : Nat := if new = old then 0 else if new = .locked then 1 else if old = .locked then 2 else 3

/-- The decision of an evaluation in four bits (R319): stepping, its direction (1 downward), and the state change in bits 3:2, 0 none,
1 into LOCKED, 2 out of LOCKED, 3 other (how the bits lie is a DESIGN CHOICE, log entry 43). -/
def Elem.decision (x : Elem) (down : Bool) (old : LoopState) : Nat :=
  boolNat x.stepping + 2 * boolNat down +
    4 * changeCode x.state old

/-- The decision of an evaluation joins those of its column's scan. -/
def noteDecision (s : State) (e : Nat) (old : LoopState) : State :=
  let c := s.column (columnOf e)
  s.setColumn (columnOf e) { c with decisions := mset c.decisions e ((s.elem e).decision (s.stepsDown e) old) }

/-- A Spindle evaluates an element on its pending samples (R141, R143, R144). -/
def execElementEvaluation (e : Nat) (s : State) : Host.Outcome State Fault Refusal :=
  finish s <|
    match (s.elem e).pend with
    | some (pa, pb, ua, ub) =>
      if s.loopsRun && !(s.elem e).suspended && !s.dev.refclkLost && decide (e < 40960) then
        noteDecision (evaluate s e pa pb ua ub) e (s.elem e).state
      else s.setElem e { s.elem e with pend := none }
    | none => s

/-! ### The outer loop -/

/-- The sums of the outer period that starts with scan `start`, if the element has them. -/
def Elem.outerOf (x : Elem) (start : Nat) : Option OuterSum :=
  if x.outer.start = start ∧ 0 < x.outer.count then some x.outer
  else if x.outerDone.start = start ∧ 0 < x.outerDone.count then some x.outerDone else none

/-- The means of leak and wanted of a period of n scans (R183), with their tags. -/
def OuterSum.means (o : OuterSum) (code : Nat) : Sample × Sample :=
  let k : Int := (4 + min code 3 : Nat)
  (o.leak.storeQ15 (-k), o.wanted.storeQ15 (-k))

/-- The outer law of an element that acts, on the means of its period (R146): x compared by cross-multiplication (R183). Without a
condition, that is where a mean is tagged INV, it does not act (R172, R174) and keeps no mean. After each entry to LOCKED x_last is its
largest value, which no quotient exceeds. -/
def outerLaw (s : State) (e : Nat) (leak want : Sample) : State :=
  let x := s.elem e
  let (l, w) := x.xLast.getD (32767, 0)
  let (s, _, cs) := runKernel s (columnOf e) (laneNo e) (ratioKernel (laneBase e) leak want (opnd l) (opnd w))
  let up := (cs.getD 0 none).map fun c => x.xLast.isSome && c == 1
  match up with
  | none => s
  | some up =>
    let dir := if up then -x.dir else x.dir
    let t := clampInt (s.law Obj.T_MIN 0) (s.law Obj.T_MAX 0) (x.t + dir * s.law Obj.OUTER_STEP 0)
    noteRatio (s.setElem e { x with dir := dir, t := t, target := if x.target = x.t then t else x.target,
                                    xLast := some (leak.p, want.p) }) (cellOf e)

/-- Whether an outer period of this element ends at the present scan: element 0 of a cell in even-numbered periods,
element 1 in odd-numbered ones, counted from reset (R146). -/
def State.outerDue (s : State) (e : Nat) : Bool :=
  let n := periodScans (s.lawN Obj.OUTER_PERIOD 0)
  s.scan % n == 0 && decide (0 < s.scan) && (s.scan / n - 1) % 2 == e % 2

/-- Whether the outer loop acts on the sums of a period of n scans (R142, R146, R234): every scan of it summed, the element LOCKED or
WRAPPING and one line alone lit throughout. -/
def State.outerActs (s : State) (e n : Nat) (o : OuterSum) : Bool :=
  let x := s.elem e
  (x.state == .locked || x.state == .wrapping) && !x.suspended && decide (x.lockTick ≤ 256 * o.start) && decide (o.count = n) &&
    ((o.lit0 && o.unlit1) || (o.lit1 && o.unlit0)) && x.t == x.target && !x.dark && !x.unobserved &&
    s.linesValid s.scan (cellOf e) && !s.hostIn (s.scan - 1)

/-- The end of an outer period (R146): the means are stored (R188), and the law acts on them. -/
def outerEnd (s : State) (e : Nat) : State :=
  let code := s.lawN Obj.OUTER_PERIOD 0
  let n := periodScans code
  match (s.elem e).outerOf (s.scan - n) with
  | none => s
  | some o =>
    let (leak, want) := o.means code
    let s := countStore (countStore s [columnOf e] leak.sat leak.inv) [columnOf e] want.sat want.inv
    if s.outerActs e n o then outerLaw s e leak want else s

def execOuterPeriodEnd (e : Nat) (s : State) : Host.Outcome State Fault Refusal :=
  finish s (if s.outerDue e && s.loopsRun && decide (e < 40960) then outerEnd s e else s)

/-! ### Offload and wraps -/

/-- Request a wrap in a direction (R149, R150): refused within the Spindle where the spans or WRAP_ENABLE do not allow
it; an upward wrap asks the heater increase to its end, and every wrap one jump charge of 9.6 pC. A request that Steady still
has is not made twice. -/
def requestWrap (s : State) (e : Nat) (d : Int) : State :=
  let x := s.elem e
  if !s.canWrap e || x.wrap.isSome || s.waits .wrap e || s.holds .wrap e then s
  else
    let s := atModeBoundary s 5
    let endPower := s.powerAt e (s.spanOf (trimmer e)) (s.heaterCodeOf e (x.theta + d * 32768))
    let inc : Int := if 0 < d then max 0 ((endPower : Int) - s.power e) else 0
    let r : GReq := { kind := .wrap, source := e, heater := inc, chans := [trimmer e], charge := 96, dir := d }
    let (s, _) := requestGrant s r
    s.setElem e { s.elem e with wrapAsk := some d, idleSince := if x.wrapAsk.isSome then x.idleSince else s.tick }

/-- The offload law once per OFFLOAD_PERIOD (R148). -/
def offload (s : State) (e : Nat) : State :=
  let x := s.elem e
  let a : Int := x.mean.natAbs
  let on := if !x.offloading && decide (65536 * s.law Obj.OFFLOAD_OUTER 0 < a) then true
    else if x.offloading && decide (a ≤ 65536 * s.law Obj.OFFLOAD_INNER 0) then false else x.offloading
  let s := s.setElem e { x with offloading := on }
  match x.wrapAsk with
  | some d => requestWrap s e d
  | none =>
  if on then
    let high := s.law Obj.WRAP_HIGH 0
    let want := x.theta + sgn x.mean * s.law Obj.OFFLOAD_STEP 0
    if high < want then requestWrap s e (-1)
    else if want < high - 32768 then requestWrap s e 1
    else
      let code := s.heaterCodeOf e want
      let (s, ok) := ceilingPass s (trimmer e) code
      if ok then driveTrimmer (s.setElem e { s.elem e with theta := want }) e want else s
  else s

/-- Once every OFFLOAD_PERIOD scans the offload law of a LOCKED element acts, unless it is dark or UNOBSERVED or its
wrap waits (R142, R143, R150). A STANDBY lobe cannot compute it (R317). -/
def execOffloadPeriodEnd (e : Nat) (s : State) : Host.Outcome State Fault Refusal :=
  finish s <|
    let x := s.elem e
    if s.scan % s.lawN Obj.OFFLOAD_PERIOD 0 = 0 ∧ s.loopsRun ∧ x.state = .locked ∧ ¬ x.suspended ∧ ¬ x.dark ∧ ¬ x.unobserved ∧
        x.wrap = none ∧ ¬ s.hostMode 1 ∧ s.active.isSome ∧ s.lobes.final = none ∧ e < 40960 then offload s e
    else s

/-- A granted wrap starts (R150, R292): the element LOCKED, no commit moving, the column below WRAP_MAX_ACTIVE, no window
of R114 open. -/
def execWrapStart (e : Nat) (s : State) : Host.Outcome State Fault Refusal :=
  finish s <|
    let x := s.elem e
    match x.wrapAsk with
    | none => s
    | some d =>
      if x.state = .locked ∧ ¬ x.suspended ∧ ¬ s.commitMoving ∧ s.wrapsActive (columnOf e) < s.lawN Obj.WRAP_MAX_ACTIVE 0 ∧
          s.holds .wrap e ∧ s.canWrap e ∧ s.loopsRun ∧ ¬ s.hostMode 1 ∧ s.active.isSome ∧ s.lobes.final = none ∧ e < 40960 then
        let w : Wrap := { d := d, hStart := x.theta, hEnd := x.theta + d * 32768, hCmd := x.theta, hModel := x.theta }
        s.setElem e { x with state := .wrapping, wrap := some w, wrapAsk := none, idleSince := s.tick }
      else s

/-- Whether an element's wrap is pending or paused. -/
def Elem.wrapIdle (x : Elem) : Bool :=
  x.wrapAsk.isSome || (match x.wrap with | some w => w.paused | none => false)

/-- A wrap that has not run for WRAP_STALL raises WRAP_STALLED once (R152). -/
def execWrapStalled (e : Nat) (s : State) : Host.Outcome State Fault Refusal :=
  finish s <|
    let x := s.elem e
    if x.wrapIdle ∧ ¬ x.stallRaised ∧ s.elapsed x.idleSince (1000000 * s.lawN Obj.WRAP_STALL 0) then
      raiseA (s.setElem e { x with stallRaised := true }) 0x3004 [.word e, .word x.theta]
    else s

/-! ### VOA loops -/

/-- VOA_SOURCE_LOST once per loss of validity of input n (R158), where a VOA follows it (DESIGN CHOICE, log entry 196). -/
def sourceLost (s : State) (n : Nat) : State :=
  if mget false s.loops.sources n then s
  else raiseA { s with loops := { s.loops with sources := mset s.loops.sources n true } } 0x3005 [.word n]

/-- The slewed target of a VOA's next period (R155, R158): held while its input is invalid. -/
def voaTargetStep (s : State) (o : Nat) (v : Voa) : State × Voa :=
  match s.voaInput o with
  | some n =>
    if s.inputValid n then
      let s := { s with loops := { s.loops with sources := mset s.loops.sources n false } }
      let goal := s.voaNewest o
      let eff := slewTo v.eff goal (s.law Obj.TARGET_SLEW 0)
      (s, { v with srcInvalid := false, eff := eff, tReached := decide (eff = goal) })
    else (sourceLost s n, { v with srcInvalid := true, tReached := false })
  | none =>
    let goal := s.voaNewest o
    let eff := slewTo v.eff goal (s.law Obj.TARGET_SLEW 0)
    (s, { v with srcInvalid := false, eff := eff, tReached := decide (eff = goal) })

/-- The VOA law of R156 in LOCKED on the mean tap power p of the period. -/
def voaLaw (s : State) (o : Nat) (v : Voa) (p : Int) : State :=
  let pt := s.tapTarget o v.eff
  let dark := decide (p < s.law Obj.DARK_LEVEL 0)
  if dark || v.darkOut || s.hostIn (s.scan - 1) then s.setVoa o v
  else
    let a : Int := 32768 * (p - pt).natAbs
    let st := if !v.vstepping && decide (s.law Obj.VBAND_OUT 0 * pt < a) then true
      else if v.vstepping && decide (a ≤ s.law Obj.VBAND_IN 0 * pt) then false else v.vstepping
    let step := s.lawN Obj.VSTEP 0
    let want := if st then (if pt < p then min (v.atten + step) 25000 else v.atten - step) else v.atten
    let code := s.voaCodeOf o want
    let (s, ok) := if want = v.atten then (s, true) else ceilingPass s (voaChan o) code
    let atten := if ok then want else v.atten
    let lim := st && ((decide (pt < p) && atten == 25000) || (decide (p < pt) && atten == 0))
    let s := s.setVoa o { v with vstepping := st, atten := atten, limited := lim }
    if atten = v.atten then s else writeTarget s (voaChan o) code

/-- The mean of a VOA's period (R183): none where a sample is missing, or where the sum holds one that is not valid. -/
def Voa.meanOf (v : Voa) (code : Nat) : Sample × Bool :=
  let m := v.sum.storeQ15 (-((4 + min code 3 : Nat) : Int))
  (m, v.fresh && decide (v.count = periodScans code) && !m.inv)

/-- The state a period boundary ends (R157): DISABLED where VOA_ENABLE is now 0 (R472), ACQUIRE once the slew limiter has reached the
staged code, DISABLED where it is left. -/
def State.voaEnters (s : State) (o : Nat) (v : Voa) : Voa :=
  if s.obj Obj.VOA_ENABLE o = 0 then { v with state := .disabled, vstepping := false, leaving := false }
  else if v.state = .acquire then (if (s.chan (voaChan o)).reached then { v with state := .locked } else v)
  else if v.state = .disabled ∧ v.leaving ∧ ¬ s.voaMustDisable o then
    { v with state := .locked, atten := s.voaAttenNow o, leaving := false, vstepping := false }
  else v

/-- The period of a VOA loop ends (R156 to R158): its mean is stored (R188), the target slews in every state, a LOCKED loop regulates,
and the states that a period boundary ends, end. The mean is judged against the target as slewed at the period's end (DESIGN CHOICE,
log entry 196). -/
def voaPeriod (s : State) (o : Nat) : State :=
  let v := s.voa o
  let (m, whole) := v.meanOf (s.lawN Obj.VOA_PERIOD 0)
  let s := if 0 < v.count then countStore s [41] m.sat m.inv else s
  let v := { v with sum := {}, count := 0, fresh := true }
  let v := if whole then { v with mean := m.p, dark := decide (m.p < s.law Obj.DARK_LEVEL 0) } else v
  let (s, v) := voaTargetStep s o v
  if v.state = .locked ∧ whole ∧ s.obj Obj.VOA_ENABLE o ≠ 0 then voaLaw s o v m.p else s.setVoa o (s.voaEnters o v)

/-- The decision of a VOA's evaluation joins those of column 41's scan, as an element's does: its step is one of attenuation. -/
def noteVoaDecision (s : State) (o : Nat) (old : Voa) : State :=
  let v := s.voa o
  let d := boolNat v.vstepping + 2 * boolNat (decide (v.atten < old.atten)) + 4 * changeCode v.state old.state
  s.setColumn 41 { s.column 41 with decisions := mset (s.column 41).decisions o d }

def execVoaPeriodEnd (o : Nat) (s : State) : Host.Outcome State Fault Refusal :=
  finish s <|
    if s.scan % periodScans (s.lawN Obj.VOA_PERIOD 0) = 0 ∧ s.loopsRun ∧ o < 1024 then noteVoaDecision (voaPeriod s o) o (s.voa o)
    else s

/-! ### Objects of the loops -/

/-- A write of the set-point target of an element (R155): it slews from the next scan. -/
def effSetpoint (e : Nat) (v : Int) (s : State) : State × Verdict :=
  let x := s.elem e
  let s := s.setObj Obj.SETPOINT e v
  (s.setElem e { x with target := v, tReached := x.tReached && x.target == v }, .ack)

def execSetpoint (sess e : Nat) (v : Int) (s : State) : Host.Outcome State Fault Refusal :=
  finish s (hostWrite s sess Obj.SETPOINT e v (effSetpoint e v))

/-- A write of LOOP_ENABLE (R144): it counts from the next scan boundary (R472), where `enableScan` disables the element, or lets a
DISABLED or OPEN one whose value was 0 enter ACQUIRE. -/
def effLoopEnable (e : Nat) (v : Int) (s : State) : State × Verdict :=
  let was := s.obj Obj.LOOP_ENABLE e
  let x := s.elem e
  let s := s.setLaw Obj.LOOP_ENABLE e v
  (s.setElem e { x with enabling := v != 0 && (x.enabling || (was == 0 && x.state == .opened)) }, .ack)

def execLoopEnable (sess e : Nat) (v : Int) (s : State) : Host.Outcome State Fault Refusal :=
  finish s (hostWrite s sess Obj.LOOP_ENABLE e v (effLoopEnable e v))

/-- A write of VOA_ENABLE (R157): it takes effect at the next VOA period boundary (R472). -/
def effVoaEnable (o : Nat) (v : Int) (s : State) : State × Verdict :=
  let s := s.setObj Obj.VOA_ENABLE o v
  if v = 0 then (s.setVoa o { s.voa o with leaving := false }, .ack)
  else if (s.voa o).state = .disabled ∧ ¬ s.voaLost o then (s.setVoa o { s.voa o with leaving := true }, .ack)
  else (s, .ack)

def execVoaEnable (sess o : Nat) (v : Int) (s : State) : Host.Outcome State Fault Refusal :=
  finish s (hostWrite s sess Obj.VOA_ENABLE o v (effVoaEnable o v))

/-! ### Host drive -/

/-- Whether a record of Table 5.5 is in range (R163). -/
def State.driveRecOk (s : State) (r : DriveRec) : Bool :=
  decide (r.last = 0) &&
    match r.kind with
    | 0 => decide (r.sel < 40960 ∧ ((toSigned 16 r.value).natAbs : Int) ≤ s.pockelsLimit r.sel)
    | 1 => decide (r.sel < 40960 ∧ (r.value : Int) ≤ s.law Obj.WRAP_HIGH 0)
    | 2 => decide (40960 ≤ r.sel ∧ r.sel < 41984 ∧ r.value ≤ 25000)
    | _ => false

/-- The heater increase a record asks for, in µW (Table 10.1). -/
def State.driveRecHeat (s : State) (r : DriveRec) : Int :=
  if r.kind = 1 then
    max 0 ((s.powerAt r.sel (s.spanOf (trimmer r.sel)) (s.heaterCodeOf r.sel r.value) : Int) - s.power r.sel)
  else if r.kind = 2 then
    let o := r.sel - 40960
    max 0 ((s.powerAt r.sel (s.spanOf (voaChan o)) (s.voaCodeOf o r.value) : Int) - s.power r.sel)
  else 0

/-- A refused block (R163): counted, and HOST_DRIVE_REFUSED with the code and the first failing record. -/
def driveRefused (s : State) (n : Nak) (idx : Nat) : State × Verdict :=
  (raiseA (s.incSat Obj.HOST_REFUSED 0) 0x3006 [.word n.code, .word idx], .nak n)

/-- A block of host drive records, judged whole (R163). Its grant is held until its heaters stand at their targets (R285; DESIGN
CHOICE, log entry 23). The first failing record of a block refused NAK BUDGET is taken to be the first that raises a heater (DESIGN
CHOICE, log entry 23). -/
def effHostDrive (recs : List DriveRec) (s : State) : State × Verdict :=
  if !s.hostMode 1 then (s, .nak .state)
  else
    match recs.findIdx? fun r => !s.driveRecOk r with
    | some i => driveRefused s .range i
    | none =>
      let heat := (recs.map s.driveRecHeat).foldl (· + ·) 0
      let up := (recs.filter fun r => decide (0 < s.driveRecHeat r)).map fun r => 81920 + r.sel
      let (s, ok) := grantNow s { kind := .hostDrive, source := s.objN Obj.HOST_BLOCKS 0 + 1, heater := heat, chans := up, charge := 0 }
      if ok then
        ({ s.incSat Obj.HOST_BLOCKS 0 with
            loops := { s.loops with hostBlocks := s.loops.hostBlocks ++ [recs]
                                    hostLast := if s.driveLate then s.loops.hostLast else s.tick } }, .ack)
      else driveRefused s .budget (recs.findIdx? (fun r => decide (0 < s.driveRecHeat r)) |>.getD 0)

def execHostDrive (sess : Nat) (recs : List DriveRec) (s : State) : Host.Outcome State Fault Refusal :=
  finish s (hostOctets s (.hostDrive sess recs) sess Obj.HOST_DRIVE 0 (effHostDrive recs))

/-- Apply one record (R163): a record for a DISABLED element only where its cell is not BLOCKED. The heater of a DISABLED VOA holds its
code (R157). -/
def applyRec (s : State) (r : DriveRec) : State :=
  if r.kind = 2 then
    let o := r.sel - 40960
    if (s.voa o).state = .disabled then s else driveVoa (s.setVoa o { s.voa o with atten := r.value }) o
  else
    let e := r.sel
    let x := s.elem e
    if x.state = .disabled ∧ s.cellClass (cellOf e) = 3 then s
    else if r.kind = 0 then
      driveElem (s.setElem e { x with phiC := toSigned 16 r.value, phiL := 0, phiW := 0 }) e
    else driveTrimmer (s.setElem e { x with theta := r.value }) e r.value

/-- Apply every block accepted since the last boundary, in order: the later block wins. -/
def applyBlocks (s : State) : State :=
  let s' := s.loops.hostBlocks.flatten.foldl applyRec s
  { s' with loops := { s'.loops with hostBlocks := [] } }

/-- Accepted host blocks are applied whole at the scan boundary (R163). -/
def execHostDriveApply (s : State) : Host.Outcome State Fault Refusal :=
  finish s (if s.hostMode 1 ∧ s.tick % 256 = 0 then applyBlocks s else s)

end Sys2Proof.Machine
end

