-- ==== Sys2Proof/Machine/Drive.lean ====
section
/-!
DEFINITION. The meanings of the drive commands (spec/07_drive.md): the slew limiter, spans, the deglitcher, generators,
readback and spare lanes, hold states and safe pages.
-/

namespace Sys2Proof.Machine

open Sys2Proof

/-! ### Limiter and deglitcher (R197, R203) -/

/-- The limiter law at a boundary. -/
def limiterStep (out step target : Nat) : Nat :=
  if out < target then min (out + step) target else max (out - step) target

/-- Whether a channel's limiter acts at the present tick (R197, R207, R217). -/
def State.limiterActs (s : State) (u : Nat) : Bool :=
  decide (u < 123968) && s.ticking && s.drivenAt u && decide (s.tick % max 1 (s.objN Obj.SLEW_PERIOD u) = 0) &&
    (s.chan u).still s.tick && decide ((s.bank (bankOf u)).hold ≠ .holding) &&
    (match s.genOf u with | some g => g.mode != 1 | none => true)

/-- One period boundary of a channel. TARGET_REACHED speaks of a target that the boundary has taken (R198). -/
def slewBoundary (s : State) (u : Nat) : State :=
  let c := s.chan u
  let goal := if c.accepted < s.tick then c.target else c.taken
  let out := limiterStep c.out (s.objN Obj.SLEW_STEP u) goal
  let held := if chanKind u = 2 ∧ out ≠ c.out then
      some (s.outCode u, s.tick + 1 + s.objN Obj.DEGLITCH (u - 123904)) else c.held
  s.setChan u { c with out := out, taken := goal, reached := decide (out = c.target) && (c.reached || decide (c.accepted < s.tick)), held := held,
                       changed := if out = c.out then c.changed else s.tick }

def execSlewPeriodBoundary (u : Nat) (s : State) : Host.Outcome State Fault Refusal :=
  finish s (if s.limiterActs u then slewBoundary s u else s)

/-- The track of a privileged channel closes (R203). -/
def execDeglitchEnd (n : Nat) (s : State) : Host.Outcome State Fault Refusal :=
  finish s <|
    let u := 123904 + n
    match (s.chan u).held with
    | some (_, t) => if t ≤ s.tick ∧ n < 64 ∧ (s.bank (bankOf u)).hold ≠ .holding then s.setChan u { s.chan u with held := none, changed := s.tick } else s
    | none => s

/-! ### Spans (R199 to R201) -/

/-- The span a channel has once the staged spans are applied. -/
def State.newSpan (s : State) (u : Nat) : Nat := ((s.stagedVal Obj.SPAN u).map Int.toNat).getD (s.chan u).span

/-- Whether the loop of a channel lets its span change (R200). -/
def State.spanBusy (s : State) (u : Nat) : Bool :=
  let busy := fun e => let t := (s.elem e).state; t != .disabled && t != .opened
  if u < 81920 then busy (u / 2)
  else if u < 122880 then busy (u - 81920)
  else if u < 123904 then (s.voa (u - 122880)).state != .disabled
  else false

/-- The newest target of a channel of a DISABLED loop through the maps with its new span (R201). An OPEN element holds its codes. -/
def reconvert (s : State) (u : Nat) : State :=
  if u < 81920 then (if (s.elem (u / 2)).state = .disabled then driveElem s (u / 2) else s)
  else if u < 122880 then
    (if (s.elem (u - 81920)).state = .disabled then driveTrimmer s (u - 81920) (s.elem (u - 81920)).theta else s)
  else if u < 123904 then driveVoa s (u - 122880)
  else s

/-- The element whose wraps need a channel's wide span (R149). -/
def wrapElem (u : Nat) : Option Nat := if u < 81920 then some (u / 2) else if u < 122880 then some (u - 81920) else none

/-- An element moved to a narrow span has its wraps ended, running, paused or pending (R201): the heater command stays where it
stands, and the carry becomes part of φc. -/
def spanEndsWrap (s : State) (e : Nat) : State :=
  let x := s.elem e
  let theta := match x.wrap with | some w => w.hCmd | none => x.theta
  if x.wrap.isSome || x.wrapAsk.isSome then
    let s := s.setElem e { x.endWrap theta with wrapAsk := none, phiC := x.phiC + x.phiW, phiW := 0 }
    releaseGrant (withdraw s .wrap e) .wrap e
  else s

/-- SPAN_APPLY. A bank whose claim gate is closed keeps its spans (R194). -/
def effSpanApply (s : State) : State × Verdict :=
  let asked := (s.stagedOf Obj.SPAN).filter fun e => decide (e.2.toNat ≠ (s.chan e.1).span)
  let moves := asked.filter fun e => s.gateOpen (bankOf e.1)
  if !s.com.live.isEmpty || s.spanSeqRuns then (s, .nak .busy)
  else if moves.any fun e => s.spanBusy e.1 then (s, .nak .busy)
  else if moves.any fun e => decide (e.1 < 81920) && s.newSpan (armA (e.1 / 2)) != s.newSpan (armB (e.1 / 2)) then
    (s, .nak .conflict)
  else
    let s := (asked.filter fun e => !s.gateOpen (bankOf e.1)).foldl (fun s e => noteRefused s (bankOf e.1)) s
    let s := (steadyDecides s 7).1
    let s := s.applyStaged Obj.SPAN
    let s := ((moves.filter fun e => e.2 == 0).filterMap fun e => wrapElem e.1).foldl spanEndsWrap s
    let s := moves.foldl (fun s e =>
      startSpanSeq (noteWrite s (bankOf e.1)) e.1 e.2.toNat (if e.1 < 81920 ∧ bankOf e.1 % 2 = 1 then s.tick + 8 else s.tick)) s
    let s := moves.foldl (fun s e => reconvert s e.1) s
    (raiseA s 0x4008 [.word moves.length], .ack)

def execSpanApply (sess : Nat) (s : State) : Host.Outcome State Fault Refusal :=
  finish s (hostWrite s sess Obj.SPAN_APPLY 0 1 effSpanApply)

/-- A span sequence has dwelt: the span switches, the output is the zero code of the new span (R199). A channel of a safe
transition then takes its fixed ramp (R218). -/
def execSpanDwellEnd (u : Nat) (s : State) : Host.Outcome State Fault Refusal :=
  finish s <|
    let c := s.chan u
    match c.motion with
    | some (.spanSeq start from_ n) =>
      if s.dwellEnd u start from_ ≤ s.tick ∧ s.ticking ∧ (s.bank (bankOf u)).hold ≠ .holding then
        let z := zeroCode u n
        let s := noteChange s u
        let s := s.setChan u { s.chan u with span := n, out := z, motion := none, changed := s.tick, target := min c.target (maxCode u) }
        match (s.bank (bankOf u)).safeStart with
        | some t => if c.target = s.safeCode u then safeRamp s u t else s
        | none => s
      else s
    | _ => s

/-! ### Generators (R205 to R207) -/

/-- The configuration of generator g that GEN_APPLY takes. -/
def State.genConfig (s : State) (g : Nat) : Gen :=
  let j := fun a => (s.judged a g).toNat
  { chan := j Obj.GEN_CHANNEL, shape := j Obj.GEN_SHAPE, mode := j Obj.GEN_MODE, amp := j Obj.GEN_AMPLITUDE,
    period := j Obj.GEN_PERIOD, offset := j Obj.GEN_OFFSET, seed := j Obj.GEN_SEED, start := s.judged Obj.GEN_START g,
    startTick := none }

def genObjs : List Nat :=
  [Obj.GEN_CHANNEL, Obj.GEN_SHAPE, Obj.GEN_MODE, Obj.GEN_AMPLITUDE, Obj.GEN_PERIOD, Obj.GEN_OFFSET, Obj.GEN_SEED, Obj.GEN_START]

/-- A configuration that drives a channel. -/
def Gen.on (g : Gen) : Bool := g.shape != 0 && decide (g.chan < 123968)

/-- Generators with something staged. -/
def State.genStaged (s : State) : List Nat := (List.range 64).filter fun g => genObjs.any fun a => (s.stagedVal a g).isSome

/-- Whether a REPLACE generator meets a loop that is not DISABLED (R207). -/
def State.genBusy (s : State) (g : Gen) : Bool :=
  g.on && g.mode == 1 &&
    (if g.chan < 81920 then (s.elem (g.chan / 2)).state != .disabled
     else if g.chan < 122880 then (s.elem (g.chan - 81920)).state != .disabled
     else if g.chan < 123904 then (s.voa (g.chan - 122880)).state != .disabled
     else false)

/-- The largest value of a waveform (R206). -/
def Gen.peak (g : Gen) : Int :=
  if g.shape = 2 then -(g.amp : Int) + floorDiv (2 * g.amp * ((g.period : Int) - 1)) g.period
  else if g.shape = 3 then floorDiv ((g.amp : Int) * 4194303) 4194304
  else g.amp

/-- The heater increase at the peak of a generator's waveform (R207, Table 10.1). -/
def State.genHeat (s : State) (g : Gen) : Int :=
  let u := g.chan
  if g.on ∧ chanKind u = 1 then
    let base : Int := if g.mode = 1 then g.offset else s.limiterOut u
    let code := (clampInt 0 4095 (base + g.peak)).toNat
    max 0 (((s.powerAt (u - 81920) (s.chan u).span code : Nat) : Int) - ((s.power (u - 81920) : Nat) : Int))
  else 0

/-- Whether the claim gates let the configuration of generator g change: that of the channel it leaves and that of the channel it
takes (R194, R312). -/
def State.genGate (s : State) (g : Nat) (c : Gen) : Bool :=
  (match mfind s.drv.gens g with | some old => s.gateOpen (bankOf old.chan) | none => true) && (!c.on || s.gateOpen (bankOf c.chan))

/-- The writes for the configuration of generator g that closed gates refuse (R313). -/
def State.genRefused (s : State) (g : Nat) (c : Gen) : State :=
  let t := match mfind s.drv.gens g with
    | some old => if s.gateOpen (bankOf old.chan) then s else noteRefused s (bankOf old.chan)
    | none => s
  if c.on && !s.gateOpen (bankOf c.chan) then noteRefused t (bankOf c.chan) else t

/-- The present generator of number g leaves its channel and gives its grant back; in FROZEN the grant stays held (R296). -/
def dropGen (s : State) (g : Nat) : State :=
  match mfind s.drv.gens g with
  | none => s
  | some old =>
    let s := noteWrite (noteChange s old.chan) (bankOf old.chan)
    let s := { s with drv := { s.drv with gens := mdel s.drv.gens g } }
    if s.holds .generator g then
      let (s, ok) := steadyDecides s 9
      if ok then dropGrant s .generator g else markReleased s .generator g
    else s

/-- Set up one generator of an apply; the second part says whether Steady grants its heater power. -/
def setGen (s : State) (g : Nat) (c : Gen) : State × Bool :=
  let c := { c with startTick := if c.start = 0 then some s.tick else none }
  let put := fun (s : State) =>
    let s := noteWrite (noteChange s c.chan) (bankOf c.chan)
    { s with drv := { s.drv with gens := mset s.drv.gens g c } }
  if !c.on then (s, true)
  else if chanKind c.chan = 1 then
    let (s, ok) := grantNow s { kind := .generator, source := g, heater := s.genHeat c, chans := [c.chan], charge := 0 }
    if ok then (put s, true) else (s, false)
  else (put s, true)

def setGens : List (Nat × Gen) → State → State × Bool
  | [], s => (s, true)
  | (g, c) :: t, s =>
    let (s, ok) := setGen s g c
    if ok then setGens t s else (s, false)

/-- The configuration that holds once an apply is done: the staged one where the claim gates let it change, or the one in force. -/
def State.genAfter (s : State) (g : Nat) : Gen :=
  if s.genStaged.contains g && s.genGate g (s.genConfig g) then s.genConfig g else mget
    { chan := 0xFFFFFFFF, shape := 0, mode := 0, amp := 0, period := 256, offset := 0, seed := 1, start := 0, startTick := none }
    s.drv.gens g

/-- Whether a staged configuration, even one that is OFF, names a channel that another generator holds (R205). -/
def State.genConflict (s : State) : Bool :=
  s.genStaged.any fun g =>
    let c := (s.genConfig g).chan
    decide (c < 123968) && (List.range 64).any fun h => h != g && (s.genAfter h).on && (s.genAfter h).chan == c

/-- An apply that Steady refuses: the generators and their grants as before; what its copies decided stands (R207, R296). -/
def undoGens (before s : State) : State :=
  let s := { s with drv := before.drv, lobes := before.lobes, steady := { s.steady with grants := before.steady.grants } }
  showSteady (s.setObj Obj.GRANTS_ISSUED 0 (before.obj Obj.GRANTS_ISSUED 0))

/-- GEN_APPLY (R205, R207). A generator whose channel's claim gate is closed stays as it was (R194). -/
def effGenApply (s : State) : State × Verdict :=
  let todo := s.genStaged.map fun g => (g, s.genConfig g)
  if s.genConflict then (s, .nak .conflict)
  else if todo.any fun e => s.genBusy e.2 then (s, .nak .busy)
  else
    let now := todo.filter fun e => s.genGate e.1 e.2
    let s := (todo.filter fun e => !s.genGate e.1 e.2).foldl (fun s e => s.genRefused e.1 e.2) s
    match setGens now (now.foldl (fun s e => dropGen s e.1) s) with
    | (s', false) => (undoGens s s', .nak .budget)
    | (s', true) => (serveQueue (genObjs.foldl (fun s a => s.applyStaged a) s'), .ack)

def execGenApply (sess : Nat) (s : State) : Host.Outcome State Fault Refusal :=
  finish s (hostWrite s sess Obj.GEN_APPLY 0 1 effGenApply)

/-- A generator's counter starts at GEN_START (R206): the tick nearest it (R445). One that is past at the apply starts at phase 0 at the
first such command (DESIGN CHOICE, log entry 197). -/
def execGenStartTime (g : Nat) (s : State) : Host.Outcome State Fault Refusal :=
  finish s <|
    match mfind s.drv.gens g with
    | some c =>
      if c.startTick = none ∧ s.atT c.start then
        let s := { s with drv := { s.drv with gens := mset s.drv.gens g { c with startTick := some s.tick } } }
        noteChange s c.chan
      else s
    | none => s

/-! ### Readback and spares (R208 to R213) -/

/-- A lane's sensed value differs from its code by more than the tolerance of its kind. -/
def State.readbackBad (s : State) (kind expected sensed : Nat) : Bool :=
  decide (s.objN Obj.READBACK_TOL kind < absDiff expected sensed)

/-- Whether a lane may be compared now: its code unchanged for READBACK_BLANK ticks. -/
def State.settled (s : State) (u : Nat) : Bool :=
  let c := s.chan u
  decide (s.objN Obj.READBACK_BLANK 0 ≤ s.tick - c.changed) && c.still s.tick && (s.genOf u).isNone

/-- The safe page is to be written for its spare map (R210). -/
def mapDue (s : State) : State :=
  if s.drv.spareMapDue.isSome then s else { s with drv := { s.drv with spareMapDue := some s.tick } }

/-- A channel lane is lost (R212): LANE_LOST, and the fault of its element or the end of its VOA loop. -/
def loseLane (s : State) (b lane u : Nat) (load : Bool) : State :=
  let s := s.setChan u { s.chan u with lost := true, loadFault := load, switching := none }
  let s := s.incSat Obj.LANES_LOST 0
  let s := raiseA s 0x4002 [.word b, .word lane, .word u, .word (boolNat load)]
  if u < 81920 then reportFault s (u / 2) (if u % 2 = 0 then 4 else 8)
  else if u < 122880 then reportFault s (u - 81920) 1
  else disableVoa s (u - 122880)

def Bank.spareState (x : Bank) (k : Nat) : Spare := if k = 32 then x.spare32 else x.spare33
def Bank.spareFails (x : Bank) (k : Nat) : Nat := if k = 32 then x.fails32 else x.fails33
def Bank.setSpareFails (x : Bank) (k n : Nat) : Bank := if k = 32 then { x with fails32 := n } else { x with fails33 := n }

/-- A spare is loaded with a lane's code; what it failed while idle no longer counts (Table 7.7). -/
def loadSpare (s : State) (b lane k : Nat) : State :=
  let u := chanOf b lane
  (s.setBank b (((s.bank b).setSpare k (.lane lane)).setSpareFails k 0)).setChan u
    { s.chan u with switching := some s.tick, passes := 0, placed := false }

/-- A channel lane has failed two comparisons (R209, R213). -/
def laneFails (s : State) (b lane u sensed : Nat) : State :=
  if chanKind u = 2 then
    raiseA (s.setChan u { s.chan u with readbackFail := true, fails := 0 }) 0x4004 [.word (u - 123904), .word sensed]
  else
    let s := calLaneFault s b lane
    let s := s.setChan u { s.chan u with laneFailed := true, fails := 0 }
    match (s.bank b).freeSpare with
    | some k => loadSpare s b lane k
    | none => loseLane s b lane u false

/-- One sense of a channel's own lane; a spare on the connection senses for it (R210). A lane that is not compared counts toward
UNCHECKED (R208). -/
def senseLane (s : State) (b lane sensed : Nat) : State :=
  let u := chanOf b lane
  if (s.chan u).spare.isSome then s
  else
    let c : Chan := { s.chan u with sensed := sensed }
    if c.lost || c.loadFault || c.laneFailed || decide (s.loadLane = some u) || !s.settled u then
      s.setChan u { c with unchecked := c.unchecked + 1 }
    else if s.readbackBad (chanKind u) (s.outCode u) sensed then
      let s := s.setChan u { c with unchecked := 0, fails := c.fails + 1 }
      if 2 ≤ c.fails + 1 then laneFails s b lane u sensed else s
    else s.setChan u { c with unchecked := 0, fails := 0 }

/-- A spare fails on the lane it stands in for: the load is at fault (R211). The spare map that records the substitution is then to be
written anew (DESIGN CHOICE, log entry 31). -/
def loadFails (s : State) (b lane k : Nat) : State :=
  let u := chanOf b lane
  let s := if (s.chan u).placed && (s.chan u).laneFailed then mapDue s else s
  let s := if s.cal.back = some u then laneHome s u else if s.loadLane = some u then abortCal s 3 else s
  let s := s.setBank b (((s.bank b).setSpare k .idle).setSpareFails k 0)
  let s := s.setChan u { s.chan u with laneFailed := false, spare := none, passes := 0, placed := false }
  loseLane (forceCode s u (zeroCode u (s.chan u).span)) b lane u true

/-- A spare passes a comparison on the lane's connection; the second one puts it in place. A spare lent to a DRIVE_LANE run is no
substitution (R265, Table 7.7). -/
def sparePasses (s : State) (b lane k : Nat) : State :=
  let u := chanOf b lane
  let c := s.chan u
  if c.placed then s
  else if c.passes = 0 then s.setChan u { c with passes := 1 }
  else
    let s := s.setChan u { c with placed := true }
    if c.laneFailed then raiseA (mapDue (s.incSat Obj.SUBSTITUTIONS 0)) 0x4001 [.word b, .word lane, .word k] else s

/-- One sense of a spare (R208, R210, R211, R213): on the connection of the lane it serves, for which it then reads back, or idle on
its internal load at the zero code of span 1 (log entry 14). -/
def senseSpare (s : State) (b k sensed : Nat) : State :=
  let x := s.bank b
  let kind := chanKind (chanOf b 0)
  match x.spareState k with
  | .failed => s
  | .lane n =>
    let u := chanOf b n
    let c : Chan := { s.chan u with sensed := sensed }
    if (s.chan u).spare ≠ some k then s
    else if !s.settled u then s.setChan u { c with unchecked := c.unchecked + 1 }
    else
      let s := s.setChan u { c with unchecked := 0 }
      if s.readbackBad kind (s.outCode u) sensed then
        let s := s.setChan u { s.chan u with passes := 0 }
        if 1 ≤ x.spareFails k then loadFails s b n k else s.setBank b (x.setSpareFails k 1)
      else sparePasses (s.setBank b (x.setSpareFails k 0)) b n k
  | .idle =>
    if s.trimSpare b = some k then s
    else if s.readbackBad kind (zeroCode (chanOf b 0) 1) sensed then
      if 1 ≤ x.spareFails k then
        raiseA (mapDue (s.setBank b ((x.setSpare k .failed).setSpareFails k 0))) 0x4003 [.word b, .word k]
      else s.setBank b (x.setSpareFails k 1)
    else s.setBank b (x.setSpareFails k 0)

/-- A lane that is not driven is not compared: it counts toward UNCHECKED (R208). -/
def skipLane (s : State) (u : Nat) : State := s.setChan u { s.chan u with unchecked := (s.chan u).unchecked + 1 }

def execReadbackComparison (b lane sensed : Nat) (s : State) : Host.Outcome State Fault Refusal :=
  finish s <|
    if 3874 ≤ b then s
    else if !s.drivenAt (chanOf b 0) then (if lane < 32 then skipLane s (chanOf b lane) else s)
    else if lane < 32 then senseLane s b lane sensed
    else if lane < 34 ∧ b < 3872 then senseSpare s b lane sensed
    else s

/-- The bond switch moves a lane's connection to its spare, 64 ticks after the spare was loaded, 1 µs for a heater
(R209). The hand-over of a DRIVE_LANE run waits for the end of a commit's APPLYING, and so does the hand-back, which is the same
switch the other way (R265). -/
def execSpareSwitchover (b lane : Nat) (s : State) : Host.Outcome State Fault Refusal :=
  finish s <|
    let u := chanOf b lane
    let c := s.chan u
    match c.switching, (s.bank b).spareOf lane with
    | some t, some k =>
      if t + (if chanKind u = 1 then 157 else 64) ≤ s.tick ∧ (c.laneFailed ∨ ¬ s.windowOpen) then
        if c.spare = some k ∧ ¬ c.laneFailed then laneHome s u
        else s.setChan u { c with spare := some k, switching := none, fails := 0, passes := 0, placed := false }
      else s
    | _, _ => s

/-! ### Safe pages (R210, R214 to R219) -/

/-- A bank's entry of the spare map (Table 7.8): a spare shows once it is in place (Table 7.7). A stored map leaves out a spare lent
to a DRIVE_LANE run, whose lane has not failed. -/
def State.mapCode (s : State) (b : Nat) (stored : Bool) : Nat :=
  let c := fun (v : Spare) => match v with
    | .idle => 0xFF
    | .lane n => let x := s.chan (chanOf b n); if x.placed && (x.laneFailed || !stored) then n else 0xFF
    | .failed => 0xFE
  c (s.bank b).spare32 + 256 * c (s.bank b).spare33

/-- The present spare maps, where they are not empty. -/
def State.spareMaps (s : State) : SMap Nat :=
  s.drv.banks.filterMap fun e => if s.mapCode e.1 true = 0xFFFF then none else some (e.1, s.mapCode e.1 true)

/-- One byte of a safe page as the flash stores it, with the CRC field read as 0 (Table 7.8, R214). -/
def SafePage.byte (p : SafePage) (o : Nat) : Byte :=
  let at_ := fun (base v : Nat) => BitVec.ofNat 8 (v / 256 ^ (o - base))
  let code := fun u => mget (factoryCode u) p.codes u
  let span := fun u => mget (factorySpan u) p.spans u
  if o < 0x4 then at_ 0x0 p.magic
  else if o < 0x6 then at_ 0x4 p.format
  else if o < 0x8 then 0
  else if o < 0xC then at_ 0x8 p.gen
  else if o < 0x10 then at_ 0xC p.calGen
  else if o < 0x100 then 0
  else if o < 0x28100 then
    let f := (o - 0x100) / 2
    at_ (0x100 + 2 * f) (code f + 16384 * span f)
  else if o < 0x3C900 then
    let h := (o - 0x28100) / 2
    at_ (0x28100 + 2 * h) (code (81920 + h) + 4096 * span (81920 + h))
  else if o < 0x3CA00 then
    let n := (o - 0x3C900) / 4
    at_ (0x3C900 + 4 * n) (code (123904 + n) + 65536 * span (123904 + n))
  else if o < 0x3E840 then
    let b := (o - 0x3CA00) / 2
    at_ (0x3CA00 + 2 * b) (mget 0xFFFF p.spares b)
  else 0

/-- The CRC-32C that a safe page carries at 0x10 (R214). -/
def SafePage.crc (p : SafePage) : Nat := crc32c ((List.range 262144).map p.byte)

/-- A page as a store writes it: the present spare maps and the VOA codes recalibrated since (R219). -/
def State.fillPage (s : State) (p : SafePage) : SafePage :=
  { p with codes := s.drv.voaCodes.foldl (fun m e => mset m e.1 e.2) p.codes
           calGen := if s.drv.voaCodes.isEmpty then p.calGen else s.objN Obj.CAL_GEN 0
           spares := s.spareMaps }

/-- Begin the store of a safe page. -/
def storePage (s : State) (p : SafePage) : State :=
  startStore { s with dev := { s.dev with page := some p }, drv := { s.drv with spareMapDue := none } } .safePage

/-- Heater power of a page's codes, exact, in the units of `heaterUnits` (R219, R284). -/
def State.pageHeat (s : State) (p : SafePage) : Nat :=
  let hs := (((p.codes.filter fun e => decide (81920 ≤ e.1 ∧ e.1 < 122880)).map fun e => e.1 - 81920) ++
    (List.range 1024).map (· + 40960))
  (hs.map fun h =>
    let u := 81920 + h
    heaterUnits (if mget (factorySpan u) p.spans u = 0 then 2 else 4) (mget (factoryCode u) p.codes u) (s.objN Obj.HEATER_R h)).foldl (· + ·) 0

/-- The refusals of SAFE_STORE and SAFE_REVERT, then the store of a page (R219, R221). -/
def pageCommand (s : State) (p : SafePage) : State × Verdict :=
  if s.flashBusy then (s, .nak .busy)
  else if !s.flashOk then (s, .nak .state)
  else
    let (s, ok) := decideNow s 6 fun s => decide ((s.pageHeat p : Int) ≤ 1000 * s.steady.budget * unitScale)
    if ok then (storePage s p, .owe .safeStore) else (s, .nak .budget)

/-- The page in force: the values of the bank registers under the present SAFE_GEN. After a reversion (R216) a store thus builds on the
factory page, not on the record that failed (DESIGN CHOICE, log entry 29). -/
def State.pageNow (s : State) : SafePage :=
  { gen := s.objN Obj.SAFE_GEN 0, calGen := s.dev.flash.working.calGen, codes := s.drv.safeCodes, spans := s.drv.safeSpans }

def effSafeStore (s : State) : State × Verdict :=
  let w := s.pageNow
  let merge := fun (m : SMap Nat) (l : SMap Int) => l.foldl (fun m e => mset m e.1 e.2.toNat) m
  let p := s.fillPage { w with gen := (w.gen + 1) % (u32Max + 1), codes := merge w.codes (s.stagedOf Obj.SAFE_CODE)
                               spans := merge w.spans (s.stagedOf Obj.SAFE_SPAN) }
  match pageCommand s p with
  | (s, .owe k) =>
    ({ s with staged := mdel (mdel s.staged Obj.SAFE_CODE) Obj.SAFE_SPAN }, .owe k)
  | r => r

def execSafeStore (sess : Nat) (s : State) : Host.Outcome State Fault Refusal :=
  finish s (hostWrite s sess Obj.SAFE_STORE 0 1 effSafeStore)

def effSafeRevert (s : State) : State × Verdict :=
  let w := s.pageNow
  let voa := w.codes.filter fun e => decide (122880 ≤ e.1 ∧ e.1 < 123904)
  pageCommand s (s.fillPage { gen := (w.gen + 1) % (u32Max + 1), calGen := w.calGen, codes := voa })

def execSafeRevert (sess : Nat) (s : State) : Host.Outcome State Fault Refusal :=
  finish s (hostWrite s sess Obj.SAFE_REVERT 0 1 effSafeRevert)

/-- The device writes the safe page for its spare map or its VOA codes, once flash writes are permitted (R210, R219). -/
def pageByDevice (s : State) : State :=
  if s.drv.spareMapDue.isSome && s.flashOk && !s.flashBusy && s.active.isSome then
    storePage s (s.fillPage s.pageNow) else s

def execSpareMapStore (s : State) : Host.Outcome State Fault Refusal := finish s (pageByDevice s)

/-- The registers of the banks take the codes and spans of a page (R217). -/
def loadRegisters (s : State) (p : SafePage) : State :=
  { s with drv := { s.drv with safeCodes := p.codes, safeSpans := p.spans } }

/-- A safe page store completes: registers, SAFE_PAGE_STORED, the answers it owed (R219). A VOA recalibrated while it ran keeps its code
for the next page. -/
def pageStored (s : State) : State :=
  match s.dev.store, s.dev.page with
  | some st, some p =>
    if st.kind = .safePage then
      let s := endStore (regionDone s .safePage 0)
      let s := { s with dev := { s.dev with page := none }, drv := { s.drv with
        voaCodes := s.drv.voaCodes.filter fun e => mget (factoryCode e.1) p.codes e.1 != e.2 } }
      let s := (loadRegisters s p).setObjN Obj.SAFE_GEN 0 p.gen
      let s := raiseA s 0x4007 [.word p.gen]
      pumpStores (settleOwed s .safeStore (.ack []))
    else s
  | _, _ => s

/-! ### Hold states (R217, R218) -/

/-- The scan of the last keep-alive a bank accepted, if it has accepted one since the safe load. -/
def State.lastKeepOf (s : State) (b : Nat) : Option Nat :=
  match (s.bank b).lastKeep with
  | some k => k
  | none => s.drv.keepScan

/-- 64 scans without a keep-alive (R217). -/
def execBankHolding (b : Nat) (s : State) : Host.Outcome State Fault Refusal :=
  finish s <|
    match s.lastKeepOf b with
    | some k => if k + 64 ≤ s.scan ∧ (s.bank b).hold = .normal ∧ b < 3874 then
        s.setBank b { s.bank b with hold := .holding, holdTick := s.tick } else s
    | none => s

/-- DRIVE_SAFE of a bank: banks that enter in the same tick share one event, kept for the first ACTIVE lobe while none is
(R222). -/
def raiseDriveSafe (s : State) : State :=
  let t := s.now
  if s.active.isSome then raiseS s 0x4005 [.word 1, .time t.toNat]
  else if s.ex.deferred.any fun d => d.code == 0x4005 && d.time == t then
    { s with ex := { s.ex with deferred := s.ex.deferred.map fun d =>
        if d.code = 0x4005 ∧ d.time = t then
          match d.data with
          | .word n :: r => { d with data := .word (n + 1) :: r }
          | _ => d
        else d } }
  else raiseS s 0x4005 [.word 1, .time t.toNat]

/-- HOLD_TIMEOUT without a keep-alive (R217). -/
def execDriveSafe (b : Nat) (s : State) : Host.Outcome State Fault Refusal :=
  finish s <|
    match s.lastKeepOf b with
    | some k =>
      if s.elapsed (256 * k) (1000 * s.objN Obj.HOLD_TIMEOUT 0) ∧ (s.bank b).hold ≠ .safe ∧ b < 3874 then
        let s := leaveHolding s b
        raiseDriveSafe (safeBank (s.setBank b { s.bank b with hold := .safe, commanded := false }) s.tick b)
      else s
    | none => s

/-- Whether any lane of a bank still moves by a fixed ramp or span sequence. -/
def State.bankMoves (s : State) (b : Nat) : Bool :=
  (List.range 32).any fun l => !(s.chan (chanOf b l)).still s.tick

/-- A fixed ramp has reached its code (R218). TARGET_REACHED waits for the next boundary of the limiter (R198). -/
def execSafeTransitionEnd (u : Nat) (s : State) : Host.Outcome State Fault Refusal :=
  finish s <|
    let c := s.chan u
    match c.motion with
    | some (.ramp _ _ goal _ _) =>
      if s.limiterOut u = goal ∧ (s.bank (bankOf u)).hold ≠ .holding then
        let s := s.setChan u { c with out := goal, motion := none, changed := s.tick }
        let b := bankOf u
        if s.bankMoves b then s else s.setBank b { s.bank b with safeStart := none }
      else s
    | _ => s

end Sys2Proof.Machine
end

