-- ==== Sys2Proof/Machine/MonitorOps.lean ====
section
/-!
DEFINITION. The monitor datapath (spec/06_datapath.md) and what marks a sample (spec/08_monitor.md): stores and their
tags (R173, R174), conditioning and filters (R179, R181), averaging (R175, R184), the causes of Table 8.4, auto-ranging
(R225, R226), and converters that fail (R238 to R240).
-/

namespace Sys2Proof.Machine

open Sys2Proof

/-! ### Places -/

/-- The Spindle column of a converter's own photodiodes (R235). -/
def colOfPd (pd : Nat) : Nat := if pd < 81920 then pd / 2048 else if pd < 82944 then 40 else 41

/-- The columns whose Spindles receive a photodiode's words: its own, the next in light order for the taps t = 2 and 3,
and columns 19 and 39 for the input taps (R138). -/
def receivers (pd : Nat) : List Nat :=
  if pd < 81920 then
    let c := pd / 2048
    let st := c % 20
    if pd % 4 < 2 ∨ st = 18 then [c] else [c, c - st + (if st = 19 then 0 else st + 1)]
  else if pd < 82944 then [40, 19, 39]
  else [41]

def State.conv (s : State) (cv : Nat) : Conv := mget {} s.mon.convs cv

def State.setConv (s : State) (cv : Nat) (x : Conv) : State := { s with mon := { s.mon with convs := mset s.mon.convs cv x } }

def State.monBank (s : State) (mb : Nat) : MonBank := mget {} s.mon.banks mb

def State.setMonBank (s : State) (mb : Nat) (x : MonBank) : State :=
  { s with mon := { s.mon with banks := mset s.mon.banks mb x } }

def State.avg (s : State) (n : Nat) : Avg := mget {} s.mon.avgs n

def State.setAvg (s : State) (n : Nat) (x : Avg) : State := { s with mon := { s.mon with avgs := mset s.mon.avgs n x } }

/-- The photodiode an averaging channel watches. -/
def State.avgPd (s : State) (n : Nat) : Nat := (s.avg n).pd.getD (s.objN Obj.AVG_PD n)

/-! ### Conditioning and filter (R179, R181) -/

/-- The lane and the words of a photodiode in the memory of a column that receives it: those of its element, VOA or input tap. -/
def pdIndex (pd : Nat) : Nat := if pd < 81920 then pd / 2 else if pd < 82944 then pd - 81920 else pd - 82944

/-- Condition a code in the lanes of every Spindle that receives it: the stored words y and p. -/
def condition (s : State) (n cv pd g code : Nat) (inv : Bool) : State × Sample × Sample :=
  let i := pdIndex pd
  let b := laneBase i
  let k := conditionKernel b code (s.coef n Obj.CONV_OFFSET cv) (s.coef n Obj.CONV_GAIN cv) (s.coef n Obj.PD_GAIN pd) g inv
  let s := (receivers pd).foldl (fun s c => (runKernel s c (laneNo i) k).1) s
  let l := s.lane (colOfPd pd) (laneNo i)
  (s, l.word (b + 34), l.word (b + 35))

def State.filtLen (s : State) (n cv : Nat) : Nat := 2 ^ min (s.coef n Obj.FILT_LEN cv).toNat 4

/-- Coefficient c(j) of a converter's set. -/
def State.filtCoef (s : State) (n cv j : Nat) : Int :=
  toSigned 16 (be (s.coefOct n Obj.FILT_COEF (s.coef n Obj.FILT_SET cv).toNat) (2 * j) 2)

/-- The filter's output over a history, newest first (R181): with length 1 the word passes unchanged, with no step. -/
def filterOut (s : State) (n cv pd : Nat) (hist : List Sample) : State × Sample :=
  let l := s.filtLen n cv
  if l = 1 then (s, hist.headD {})
  else
    let i := pdIndex pd
    let b := laneBase i
    let k := filterKernel b (hist.take l) ((List.range l).map (s.filtCoef n cv))
    let s := (receivers pd).foldl (fun s c => (runKernel s c (laneNo i) k).1) s
    (s, (s.lane (colOfPd pd) (laneNo i)).word (b + 36))

/-! ### Averaging (R184) -/

/-- A channel stores its result and starts again. -/
def avgStore (s : State) (n : Nat) : State :=
  let a := s.avg n
  let col := n / 16
  let mean := a.sum.storeQ15 (-(a.len : Int))
  let total := a.sum.storeI32 0
  let s := (s.setObj Obj.AVG_MEAN n mean.p).setObj Obj.AVG_SUM n total.p
  let s := s.setObjN Obj.AVG_TAG n (boolNat (mean.sat || total.sat) + 2 * boolNat mean.inv)
  let s := s.incWrap Obj.AVG_SEQ n
  let s := s.setAvg n { a with sum := {}, count := 0 }
  if a.sum.guard ≠ 0 then guardOverflow s col n else countStore s [col] (mean.sat || total.sat) mean.inv

/-- A channel takes the photodiode and the length of a scan boundary after a write of AVG_PD or AVG_LEN: a window that completes at that
boundary is stored first. A write made since waits for its own boundary. -/
def avgTake (s : State) (n pd len : Nat) : State :=
  let s := if 2 ^ (s.avg n).len ≤ (s.avg n).count then avgStore s n else s
  s.setAvg n { pd := some pd, len := len, since := s.scan, change := (s.avg n).change }

/-- The boundary of a change: the words of pair 15 of the scan that ends are still to come, and the change, as the settings stand at
the boundary, waits for them. -/
def avgBoundary (s : State) (n : Nat) : State :=
  let a := s.avg n
  let s := s.setAvg n { a with change := false }
  let pd := s.objN Obj.AVG_PD n
  let len := s.objN Obj.AVG_LEN n
  if s.avgPd n % 32 < 30 ∨ a.due.isSome then avgTake s n pd len else s.setAvg n { s.avg n with due := some (pd, len) }

/-- Add one sample of scan m to a channel; a window already full is stored first. A change whose boundary has passed then takes
effect. -/
def avgAdd (s : State) (m n : Nat) (x : Sample) : State :=
  if m < (s.avg n).since then s
  else
    let s := if 2 ^ (s.avg n).len ≤ (s.avg n).count then avgStore s n else s
    let a := s.avg n
    let s := s.setAvg n { a with sum := a.sum.add x, count := a.count + 1 }
    match a.due with
    | some (pd, len) => avgTake s n pd len
    | none => s

/-- Add a photodiode's word of scan m to every channel that watches it. -/
def avgDeliver (s : State) (m pd : Nat) (x : Sample) : State :=
  (List.range 672).foldl (fun s n => if s.avgPd n = pd then avgAdd s m n x else s) s

/-! ### Causes of invalid samples (Table 8.4) -/

/-- The scan of the sample of pair q whose words arrive now: a word arrives after its second strobe has ended. -/
def State.sampleScan (s : State) (q : Nat) : Nat := if s.tick % 256 < 16 * (q + 1) then s.scan - 1 else s.scan

/-- Whether the bank was ready at the hold of pair q in scan n (R236). -/
def State.readyAtHold (s : State) (mb q n : Nat) : Bool :=
  (s.monBank mb).ready && decide ((s.monBank mb).readyAt ≤ 256 * n + 16 * q)

/-- Whether scan n is one of the four that begin with the first hold after REF_READY (R236). -/
def State.readyScans (s : State) (mb q n : Nat) : Bool :=
  decide (n < ((s.monBank mb).readyAt - 16 * q + 255) / 256 + 4)

/-- Whether the checks of a converter's region are suspended (R238). -/
def State.unchecked (s : State) (cv : Nat) : Bool :=
  let r := cv / 164
  s.outCode (123904 + 40 + r) ≠ s.objN Obj.REF_TRIM_CODE r

/-- Whether a check at the head of a converter's queue waits in scan n: another converter of its bank is checked in that scan (R238). -/
def State.checkWaits (s : State) (cv n : Nat) (i : Inj) : Bool :=
  !i.host && !i.cal && (match (s.monBank (cv / 16)).checkScan with | some m => decide (n ≤ m) | none => false)

/-- Whether a queued check is not performed: the checks of its region are suspended (R238). -/
def State.droppedCheck (s : State) (cv : Nat) (i : Inj) : Bool := !i.host && !i.cal && s.unchecked cv

/-- Whether an injected conversion displaces pair q in scan n (R241): the latest did, or the first request of the queue that is
performed, made before this scan, is due in it. -/
def State.displaced (s : State) (cv q n : Nat) : Bool :=
  let x := s.conv cv
  x.injAt == some (n, q) ||
    (match x.queue.dropWhile (s.droppedCheck cv) with
     | i :: _ => x.focus.isNone && decide (i.scan < n) && x.pointer == q && !s.checkWaits cv n i &&
         (match x.injAt with | some (m, _) => decide (m < n) | none => true)
     | [] => false)

/-- Whether input j is outside the focus of its converter in scan n. -/
def Conv.unfocused (x : Conv) (n j : Nat) : Bool :=
  match x.focusAt n with
  | some f => !(j == f.input || (f.pair && j / 2 == f.input / 2))
  | none => false

/-- Whether a filter change marks the filter outputs of a converter in scan n. -/
def Conv.filtering (x : Conv) (n : Nat) : Bool := match x.filt with | some (a, b) => decide (a ≤ n ∧ n < b) | none => false

/-- The highest-numbered cause of Table 8.4, a filter change apart, that marks a conversion of input j at a strobe of scan n. Reasons:
0 GAIN, 1 MUX, 3 UNAVAILABLE. -/
def State.causeAt (s : State) (cv j strobe n : Nat) (settling overRange : Bool) : Option Nat :=
  let x := s.conv cv
  let mb := cv / 16
  let q := strobe / 2
  if !s.readyAtHold mb q n || x.state == 3 || overRange then some 3
  else if x.muxScan == some n || x.unfocused n j || s.displaced cv q n || (x.muxFirst == some n && strobe == 0) then some 1
  else if settling || s.readyScans mb q n then some 0
  else none

/-- The same for a scan sample: input j is converted at strobe j (R229). -/
def State.causeOf (s : State) (cv j n : Nat) (settling overRange : Bool) : Option Nat := s.causeAt cv j j n settling overRange

/-- The same with a filter change, reason 2 FILTER. -/
def State.markOf (s : State) (cv j n : Nat) (settling overRange : Bool) : Option Nat :=
  let c := s.causeOf cv j n settling overRange
  if (s.conv cv).filtering n && c != some 3 then some 2 else c

/-- The word of Table 8.3. -/
def rawWord (code gain : Nat) (overRange : Bool) (mark : Option Nat) (spare : Bool) (strobe : Nat) : Nat :=
  code + 4096 * gain + 16384 * boolNat overRange + 32768 * boolNat mark.isNone + 65536 * mark.getD 0 +
    262144 * boolNat spare + 524288 * strobe

/-! ### One sample -/

/-- A sample of scan n counts among the four that follow a gain change. -/
def Pd.settleOne (x : Pd) (n : Nat) : Pd :=
  if n < x.gFrom then { x with settleOld := x.settleOld - 1 } else { x with settle := x.settle - 1 }

/-- The auto-range law of R225 and the count of R226 on one scan sample that is converted, by the GAIN_MODE in force in its scan n. -/
def State.autoRange (s : State) (n : Nat) (x : Pd) (code : Nat) (overRange : Bool) (hint : Nat) : Pd :=
  if x.settling n then x.settleOne n
  else if x.mode ≠ 0 ∨ n < x.modeAt then x
  else
    let (g, run) :=
      if overRange ∨ s.mon.rangeHigh < code then (min hint 3, 0)
      else if code < s.mon.rangeLow then
        (if s.mon.rangeHold ≤ x.lowRun + 1 then (min hint 3, 0) else (x.g, x.lowRun + 1))
      else (x.g, 0)
    if g = x.g then { x with lowRun := run } else x.setGain g (n + 1)

/-- OVER_RANGE at gain ×1 on 64 consecutive scans (R227). -/
def overload (s : State) (pd : Nat) (overRange : Bool) (g : Nat) : State :=
  let x := s.pd pd
  if overRange then
    let run := if g = 0 then x.overRun + 1 else 0
    let due := decide (64 ≤ run) && !x.overRaised
    let s := s.setPd pd { x with overRun := run, clearRun := 0, overRaised := x.overRaised || due }
    if due then raiseA s 0x4023 [.word pd] else s
  else
    let clear := x.clearRun + 1
    s.setPd pd { x with overRun := 0, clearRun := clear, overRaised := x.overRaised && decide (clear < 64) }

/-- One sample of input j of a converter reaches the Spindles: marked, auto-ranged, conditioned, filtered and counted. The auto-range law
acts on samples of the input itself, and the raw word shows what R233 reports of the filter output (DESIGN CHOICE, log entry 198). -/
def deliverOne (s : State) (cv j code : Nat) (overRange : Bool) (hint : Nat) : State :=
  let pd := 32 * cv + j
  let n := s.sampleScan (j / 2)
  let c := s.conv cv
  let x := s.pd pd
  let g := x.gainAt n
  let ready := s.readyAtHold (cv / 16) (j / 2) n
  let moved := s.displaced cv (j / 2) n
  let seen := ready && !moved && !c.unfocused n j
  let overRange := seen && overRange
  let code := if !ready then 0 else if moved then x.code else if overRange then 4095 else min code 4095
  let own := s.causeOf cv j n (x.settling n) overRange
  let mark := s.markOf cv j n (x.settling n) overRange
  let (s, scaled, power) := condition s n cv pd g code own.isSome
  let hist := (power :: x.hist).take 16
  let why := (own.getD 4 :: x.why).take 16
  let (s, stored) := filterOut s n cv pd hist
  let out := { stored with inv := stored.inv || mark.isSome }
  let l := s.filtLen n cv
  let shown := match mark with
    | some m => some m
    | none => (why.take l).find? (· ≠ 4)
  let y := if !ready then x
    else if seen then s.autoRange n x code overRange hint
    else x.settleOne n
  let y := { y with code := code, hist := hist, why := why, value := out, at_ := n,
                    prev := if x.at_ < n then x.value else x.prev,
                    rawBefore := if x.at_ < n then x.raw else x.rawBefore
                    raw := rawWord code g overRange shown (c.spareAt n) j }
  let s := overload (s.setPd pd y) pd overRange g
  let s := if shown.isSome then s.incSat Obj.INVALID_COUNT cv else s
  let s := if overRange then s.incSat Obj.OVER_RANGE_COUNT cv else s
  let s := if y.g = x.g then s else s.incSat Obj.GAIN_CHANGES cv
  let cols := receivers pd
  let s := countStore (countStore s cols scaled.sat scaled.inv) cols power.sat power.inv
  let s := if l = 1 then s else countStore s cols (stored.sat && mark.isNone) stored.inv
  avgDeliver s n pd out

/-- Count the stores of spare-stage line powers in the two columns that form them from an input tap (R180, R188). -/
def halveStores (s : State) (pd : Nat) : State := countStore s [19, 39] false (s.pd pd).value.inv

/-- The pending sample set of an element with its cell's outer sums, or the period sum of a VOA (R146, R156, R160). -/
def deliverPair (s : State) (cv q : Nat) : State :=
  let p0 := 32 * cv + 2 * q
  if p0 < 81920 then
    let e := p0 / 2
    if !s.loopsRun then s
    else
      let s := if e % 2 = 1 then outerAdd s (s.sampleScan q) (cellOf e) else s
      let x := s.elem e
      let (ua, ub) := s.lines (s.sampleScan q) e
      let late := x.pend.isSome
      let s := s.setElem e { x with pend := some ((s.pd p0).value, (s.pd (p0 + 1)).value, ua, ub), pendScan := s.sampleScan q }
      if late then
        let col := columnOf e
        (s.incSat Obj.OVERRUN_COUNT col).setColumn col { s.column col with overRange := true }
      else s
  else if p0 < 82944 then halveStores (halveStores s p0) (p0 + 1)
  else
    [p0, p0 + 1].foldl (fun s pd =>
      let o := pd - 82944
      let v := s.voa o
      let x := (s.pd pd).value
      s.setVoa o (if s.loopsRun then { v with sum := v.sum.add x, count := v.count + 1 } else { v with sum := {}, count := 0 })) s

/-- Whether the words of converter cv's pair q are those of output tap o, held since the code of its VOA came to 0 (R264). -/
def State.tapAtZero (s : State) (cv q o : Nat) : Bool :=
  decide (32 * cv + 2 * q = (82944 + o) / 2 * 2) && s.outCode (voaChan o) == 0 &&
    decide ((s.chan (voaChan o)).changed ≤ 256 * s.sampleScan q + 16 * q)

/-- A light condition of Table 9.3 that fails during a run ends it (R264, reason 7); that of a VOA is judged on the words of its output's
tap alone. -/
def calLight (s : State) (cv q : Nat) : State :=
  match s.cal.run with
  | none => s
  | some r =>
    if !r.measures then s
    else
      let d := s.law Obj.DARK_LEVEL 0
      let sel := r.item
      let a := s.linePower (cellOf sel) 0
      let b := s.linePower (cellOf sel) 1
      let one := a.inv || b.inv || (decide (d ≤ a.p) != decide (d ≤ b.p))
      let tap := (s.pd (82944 + sel)).value
      let bad := match r.req.kind with
        | 3 | 5 => !one
        | 4 => s.tapAtZero cv q sel && !tap.inv && decide (tap.p < d)
        | 6 => (s.elem sel).dark || (s.elem sel).unobserved
        | _ => false
      if bad then abortCal s 7 else s

/-- The words of a sweep step are recorded: those of each of the 513 scans of an ELEMENT run and of the 64 in which its trimmer stands at
the step for π (R268), those of the last scan of each of the 65 holds of a VOA run (R269). -/
def calRecord (s : State) (cv q : Nat) : State :=
  match s.cal.run with
  | none => s
  | some r =>
    let n := s.sampleScan q
    let k := n - r.first
    let p0 := 32 * cv + 2 * q
    if !r.measures || decide (n < r.first) then s
    else if r.req.kind = 3 ∧ p0 = 2 * r.item ∧ k ≤ 576 then
      let a := (s.pd p0).value.p
      let b := (s.pd (p0 + 1)).value.p
      s.putRun { r with sweep := r.sweep ++ [{ k := k, want := if r.lit = 0 then a else b, pa := a, pb := b }] }
    else if r.req.kind = 4 ∧ p0 = (82944 + r.item) / 2 * 2 ∧ k % 256 = 255 ∧ k / 256 ≤ 64 then
      let p := (s.pd (82944 + r.item)).value.p
      s.putRun { r with sweep := r.sweep ++ [{ k := k / 256, want := p, pa := 0, pb := 0 }] }
    else s

/-! ### Converters that fail (R238 to R240) -/

/-- A converter fails: a CONVERTER run ends that trims it or holds the spare it needs, and a TEMPLATE run that watches with it
(R264, reason 3). -/
def calConvFault (s : State) (cv : Nat) : State :=
  match s.cal.run with
  | some r =>
    let hit := calConv r.one == some cv || (r.coefs.isSome && decide (r.item / 16 = cv / 16))
    if r.phase = .running ∧ hit then abortCal s 3 else s
  | none => s

/-- The 32 inputs of a converter are LOST (R240). -/
def loseConv (s : State) (cv : Nat) (standing : Bool) : State :=
  let s := s.setConv cv { s.conv cv with state := 3 }
  let s := raiseA s 0x4021 [.word cv, .word (boolNat standing)]
  (List.range 32).foldl (fun s j =>
    let pd := 32 * cv + j
    if pd < 81920 then (if pd % 2 = 0 then reportFault s (pd / 2) 2 else s)
    else if pd < 82944 then s
    else disableVoa s (pd - 82944)) s

/-- A converter's second consecutive failed check. -/
def convFails (s : State) (cv : Nat) : State :=
  let s := calConvFault s cv
  let c := s.conv cv
  let b := s.monBank (cv / 16)
  if c.spare then loseConv s cv true
  else if b.spareCv.isNone && !b.spareFailed then s.setConv cv { c with substituteDue := true, state := 1 }
  else loseConv s cv false

/-- The code of a REF check of a converter is compared with the expected one. -/
def judgeCheck (s : State) (cv code : Nat) : State :=
  let s := s.setObjN Obj.CHECK_CODE cv code
  let c := s.conv cv
  let want := if c.spare then s.objN Obj.SPARE_EXPECT (cv / 16) else s.objN Obj.CHECK_EXPECT cv
  if c.state = 3 ∨ c.substituteDue then s
  else if s.objN Obj.CHECK_TOL 0 < absDiff code want then
    if 1 ≤ c.fails then convFails (s.setConv cv { c with fails := 2 }) cv
    else s.setConv cv { c with fails := 1, state := if c.state = 0 then 1 else c.state }
  else s.setConv cv { c with fails := 0, state := if c.state = 1 then 0 else c.state }

/-- The code of a check of an idle spare. -/
def judgeSpare (s : State) (mb code : Nat) : State :=
  let b := s.monBank mb
  if s.objN Obj.CHECK_TOL 0 < absDiff code (s.objN Obj.SPARE_EXPECT mb) then
    if 1 ≤ b.spareFails then raiseA (s.setMonBank mb { b with spareFailed := true, spareFails := 0 }) 0x4022 [.word mb]
    else s.setMonBank mb { b with spareFails := 1 }
  else s.setMonBank mb { b with spareFails := 0 }

/-- The spare's coefficients load into a converter's objects without DP_APPLY, staged writes of them are dropped and
DP_GEN goes up (R239, R278). The second part says whether a staged write was dropped. -/
def loadCoefs (s : State) (cv : Nat) (offset gain : Int) : State × Bool :=
  let had := (s.stagedVal Obj.CONV_OFFSET cv).isSome || (s.stagedVal Obj.CONV_GAIN cv).isSome
  let s := (s.unstage Obj.CONV_OFFSET cv).unstage Obj.CONV_GAIN cv
  let s := setCoef (setCoef s Obj.CONV_OFFSET cv offset) Obj.CONV_GAIN cv gain
  (s.setObjN Obj.DP_GEN 0 (nextGen (s.objN Obj.DP_GEN 0)), had)

end Sys2Proof.Machine
end

