-- ==== Sys2Proof/Machine/Monitor.lean ====
section
/-!
DEFINITION. The meanings of the monitor and datapath commands (spec/08_monitor.md, spec/06_datapath.md) and of the report
of a saturated loop (R153).
-/

namespace Sys2Proof.Machine

open Sys2Proof

/-! ### Saturation (R153) -/

/-- An element SATURATED for SAT_REPORT scans is classed and reported (R153, R62). -/
def execLoopSaturated (e : Nat) (s : State) : Host.Outcome State Fault Refusal :=
  finish s <|
    let x := s.elem e
    if x.state = .saturated ∧ s.lawN Obj.SAT_REPORT 0 ≤ s.scan - x.satSince ∧ e < 40960 then
      let kind := if x.deadA ∨ x.deadB then 2 else 1
      raiseA (reportFault s e kind) 0x3003 [.word e, .word kind]
    else s

/-! ### Banks and references (R236, R237) -/

/-- A bank gets ready: the gains of its photodiodes in a fixed GAIN_MODE, which were not changed while its REF_READY was 0, are taken at
the next scan boundary (log entry 19). -/
def fixedGains (s : State) (mb : Nat) : State :=
  let due := (s.mon.pds.filter fun p => decide (p.1 / 512 = mb) && p.2.mode != 0 && p.2.mode - 1 != p.2.g &&
    !s.mon.gainPend.contains p.1).map (·.1)
  { s with mon := { s.mon with gainPend := s.mon.gainPend ++ due } }

/-- The reference timer of a bank has run out. -/
def execRefReady (mb : Nat) (s : State) : Host.Outcome State Fault Refusal :=
  finish s <|
    let b := s.monBank mb
    match b.timer with
    | some t =>
      if t ≤ s.tick ∧ mb < 164 then
        fixedGains ((s.setMonBank mb { b with ready := true, timer := none, readyAt := s.tick }).setObjN Obj.REF_READY mb 1) mb
      else s
    | none => s

/-- Clear REF_READY, or start its timer where the reference is enabled and the bank powered. -/
def refFollow (s : State) (mb : Nat) : State :=
  let b := s.monBank mb
  if s.obj Obj.REF_ENABLE mb = 1 ∧ s.obj Obj.BANK_POWER mb = 1 then
    if b.ready ∨ b.timer.isSome then s else s.setMonBank mb { b with timer := some (s.tick + 312500) }
  else (s.setMonBank mb { b with ready := false, timer := none }).setObjN Obj.REF_READY mb 0

def effRefEnable (mb : Nat) (v : Int) (s : State) : State × Verdict := (refFollow (s.setObj Obj.REF_ENABLE mb v) mb, .ack)

def execRefEnable (sess mb : Nat) (v : Int) (s : State) : Host.Outcome State Fault Refusal :=
  finish s (hostWrite s sess Obj.REF_ENABLE mb v (effRefEnable mb v))

/-- Whether a loop depends on a bank, or a converter of it is in focus or has a queued injection. -/
def State.bankInUse (s : State) (mb : Nat) : Bool :=
  let runs := fun (x : LoopState) => x != .opened && x != .disabled
  (decide (mb < 160) && s.loops.elems.any fun e => decide (e.1 / 256 = mb) && runs e.2.state) ||
    (decide (162 ≤ mb) && s.loops.voas.any fun o => decide (162 + o.1 / 512 = mb) && runs o.2.state) ||
    s.mon.convs.any fun c => decide (c.1 / 16 = mb) && (c.2.focus.isSome || !c.2.queue.isEmpty)

/-- Every AUTO photodiode of a bank starts at gain ×1 (R225, R237). -/
def resetGains (s : State) (mb : Nat) : State :=
  { s with mon := { s.mon with pds := mmap (fun pd x =>
      if pd / 512 = mb ∧ s.objN Obj.GAIN_MODE pd = 0 then { x with g := 0, gOld := 0, lowRun := 0, settle := 0, settleOld := 0 } else x) s.mon.pds } }

/-- A bank is switched: BANK_POWER_CHANGED, and at power-up every AUTO photodiode at gain ×1. -/
def powerBank (s : State) (mb : Nat) (v : Int) : State :=
  let s := s.setMonBank mb { s.monBank mb with on := v == 1 }
  raiseA (if v = 1 then resetGains s mb else s) 0x4024 [.word mb, .word v]

def effBankPower (mb : Nat) (v : Int) (s : State) : State × Verdict :=
  if v = s.obj Obj.BANK_POWER mb then (s, .ack)
  else if v = 0 ∧ s.bankInUse mb then (s, .nak .busy)
  else
    (refFollow (powerBank (s.setObj Obj.BANK_POWER mb v) mb v) mb, .ack)

def execBankPower (sess mb : Nat) (v : Int) (s : State) : Host.Outcome State Fault Refusal :=
  finish s (hostWrite s sess Obj.BANK_POWER mb v (effBankPower mb v))

/-- A write of GAIN_MODE, taken at the next scan boundary (R226). -/
def effGainMode (pd : Nat) (v : Int) (s : State) : State × Verdict :=
  let s := s.setObj Obj.GAIN_MODE pd v
  ({ s with mon := { s.mon with gainPend := if s.mon.gainPend.contains pd then s.mon.gainPend else s.mon.gainPend ++ [pd] } },
    .ack)

def execGainMode (sess pd : Nat) (v : Int) (s : State) : Host.Outcome State Fault Refusal :=
  finish s (hostWrite s sess Obj.GAIN_MODE pd v (effGainMode pd v))

/-! ### Checks, substitution, injections (R238 to R243) -/

/-- Whether converter cv, or the idle spare of bank cv - 2,624, may be checked in the present scan: its interval has
passed, or its check fell due in focus, and no other converter of the bank is checked in this scan. -/
def State.checkDue (s : State) (mb last : Nat) (late : Bool) : Bool :=
  (late || decide (last + s.objN Obj.CHECK_INTERVAL 0 ≤ s.scan)) && (s.monBank mb).checkScan != some s.scan &&
    s.readyAtHold mb 0 s.scan

/-- The background check of a converter. Where injected conversions wait before it, it takes its place among them and is
compared when INJECTION_DONE reaches it; where the converter is in focus it becomes due after focus (R247). -/
def convCheck (s : State) (cv code : Nat) : State :=
  let mb := cv / 16
  let c := s.conv cv
  if !s.checkDue mb c.lastCheck c.checkLate || s.unchecked cv then s
  else if c.focus.isSome then s.setConv cv { c with checkLate := true }
  else if c.queue.any fun i => !i.host && !i.cal then s
  else
    let c := { c with lastCheck := s.scan, checkLate := false }
    let used := match c.injAt with | some (n, _) => n == s.scan | none => false
    if c.queue.isEmpty && !used then
      let s := s.setMonBank mb { s.monBank mb with checkScan := some s.scan }
      let c := { c with injAt := some (s.scan, c.pointer), pointer := (c.pointer + 1) % 16 }
      judgeCheck ((s.setConv cv c).setObjN Obj.INJ_POINTER cv c.pointer) cv code
    else if c.queue.length < 4 then s.setConv cv { c with queue := c.queue ++ [{ source := 32, host := false, scan := s.scan }] }
    else s.setConv cv { c with checkLate := true }

/-- The background check of an idle spare. Its region is that of the first converter of its bank (DESIGN CHOICE, log entry 198). -/
def spareCheck (s : State) (mb code : Nat) : State :=
  let b := s.monBank mb
  if b.spareCv.isSome || b.spareFailed || !s.checkDue mb b.spareCheck false || s.unchecked (16 * mb) then s
  else judgeSpare (s.setMonBank mb { b with spareCheck := s.scan, checkScan := some s.scan }) mb code

def execConverterCheck (cv code : Nat) (s : State) : Host.Outcome State Fault Refusal :=
  finish s (if !s.ticking then s else if cv < 2624 then convCheck s cv code else if cv < 2788 then spareCheck s (cv - 2624) code else s)

/-- The spare of a bank takes a failed converter's inputs and coefficients at a scan boundary (R239); where the spare has
gone meanwhile the inputs are lost. -/
def execConvSubstituted (cv : Nat) (s : State) : Host.Outcome State Fault Refusal :=
  finish s <|
    let c := s.conv cv
    let mb := cv / 16
    let b := s.monBank mb
    if !c.substituteDue || s.tick % 256 ≠ 0 then s
    else if b.spareCv.isSome || b.spareFailed then loseConv (s.setConv cv { c with substituteDue := false }) cv false
    else
      let s := s.setConv cv { c.setSpare true s.scan with substituteDue := false, state := 2, fails := 0 }
      let s := s.setMonBank mb { b with spareCv := some cv }
      let (s, had) := loadCoefs s cv (s.obj Obj.SPARE_OFFSET mb) (s.obj Obj.SPARE_GAIN mb)
      raiseA s 0x4020 [.word cv, .word mb, .word (boolNat had)]

/-- INJ_APPLY (R242). -/
def effInjApply (s : State) : State × Verdict :=
  let cv := (s.judged Obj.INJ_CONVERTER 0).toNat
  let c := s.conv cv
  if s.obj Obj.INJ_STATUS 0 = 1 then (s, .nak .busy)
  else if 4 ≤ c.queue.length then (s, .nak .full)
  else if !(s.monBank (cv / 16)).ready then (s, .nak .notReady)
  else if c.focus.isSome then (s, .nak .busy)
  else
    let s := (s.applyStaged Obj.INJ_CONVERTER).applyStaged Obj.INJ_SOURCE
    let i : Inj := { source := s.objN Obj.INJ_SOURCE 0, host := true, scan := s.scan }
    let s := s.setConv cv { c with queue := c.queue ++ [i] }
    ({ s with mon := { s.mon with injHost := some cv } }.setObjN Obj.INJ_STATUS 0 1, .ack)

def execInjApply (sess : Nat) (s : State) : Host.Outcome State Fault Refusal :=
  finish s (hostWrite s sess Obj.INJ_APPLY 0 1 effInjApply)

/-- A conversion of a CONVERTER run that has no idle spare (R267): 16 of ZERO, 16 of REF and 16 of REF to verify, in consecutive
scans, each queued ahead of other requests when the one before it ends. -/
def calInjected (s : State) (cv code n : Nat) : State :=
  match s.cal.run with
  | none => s
  | some r =>
    let j := r.count / 16
    let r := { r with sums := (List.range 3).map fun i => r.sums.getD i 0 + (if i = j then (code : Int) else 0), count := r.count + 1 }
    let s := s.putRun r
    if r.count < 48 then
      let c := s.conv cv
      s.setConv cv { c with queue := { source := if r.count < 16 then 33 else 32, host := false, scan := n, cal := true } :: c.queue }
    else s

/-- A check of the queue has been performed in scan n: it is compared (R238, R242). -/
def queuedCheck (s : State) (cv code n : Nat) : State :=
  let mb := cv / 16
  judgeCheck (s.setMonBank mb { s.monBank mb with checkScan := some n }) cv code

/-- An injected conversion of converter cv ends with the second strobe of its pair slot (R241), in a scan that began
after its request, one a scan. A check that reaches the head while its region's checks are suspended is not performed (R238).
The raw word of REF and ZERO has GAIN 0, and an injected word is marked for over-range only (DESIGN CHOICE, log entry 198). -/
def execInjectionDone (cv code : Nat) (overRange : Bool) (s : State) : Host.Outcome State Fault Refusal :=
  finish s <|
    let c := s.conv cv
    match c.queue with
    | [] => s
    | i :: rest =>
      let n := s.sampleScan c.pointer
      let free := match c.injAt with | some (m, _) => decide (m < n) | none => true
      if !s.ticking || !free || decide (n ≤ i.scan) || c.focus.isSome || s.checkWaits cv n i then s
      else if s.droppedCheck cv i then s.setConv cv { c with queue := rest }
      else
        let p := c.pointer
        let s := s.setConv cv { c with queue := rest, injAt := some (n, p), pointer := (p + 1) % 16 }
        let s := s.setObjN Obj.INJ_POINTER cv ((p + 1) % 16)
        if i.cal then calInjected s cv (if overRange then 4095 else min code 4095) n
        else if i.host then
          let g := if i.source < 32 then (s.pd (32 * cv + i.source)).gainAt n else 0
          let w := rawWord (if overRange then 4095 else min code 4095) g overRange (if overRange then some 3 else none) (c.spareAt n) (2 * p + 1)
          let s := { s with mon := { s.mon with injHost := none } }
          (s.setObjN Obj.INJ_RESULT 0 w).setObjN Obj.INJ_STATUS 0 2
        else queuedCheck s cv (if overRange then 4095 else min code 4095) n

/-! ### Focus (R244 to R247) -/

/-- Converters in focus or about to enter it. -/
def State.focusCount (s : State) (but : Nat) : Nat :=
  (s.mon.convs.filter fun c => c.1 ≠ but && (c.2.focus.isSome || c.2.focusNext.isSome)).length

/-- FOCUS_START: 1 takes the staged focus, 2 ends the present one at the next scan boundary. -/
def effFocusStart (cv : Nat) (v : Int) (s : State) : State × Verdict :=
  let c := s.conv cv
  if v = 2 then
    (s.setConv cv { c with focusNext := none, focusStop := c.focus.isSome }, .ack)
  else if 2 ≤ s.therm.state then (s, .nak .state)
  else if 64 ≤ s.focusCount cv then (s, .nak .full)
  else if !c.queue.isEmpty || c.checkLate then (s, .nak .busy)
  else
    let s := [Obj.FOCUS_INPUT, Obj.FOCUS_PAIR, Obj.FOCUS_SCANS].foldl (fun s a => s.applyStagedAt a cv) s
    let f : Focus := { input := s.objN Obj.FOCUS_INPUT cv, pair := s.obj Obj.FOCUS_PAIR cv == 1,
                       scans := s.objN Obj.FOCUS_SCANS cv }
    (s.setConv cv { c with focusNext := some f, focusStop := false }, .ack)

def execFocusStart (sess cv : Nat) (s : State) : Host.Outcome State Fault Refusal :=
  finish s (hostWrite s sess Obj.FOCUS_START cv 1 (effFocusStart cv 1))

def execFocusStop (sess cv : Nat) (s : State) : Host.Outcome State Fault Refusal :=
  finish s (hostWrite s sess Obj.FOCUS_START cv 2 (effFocusStart cv 2))

/-- A converter enters focus, or changes its focus, at a scan boundary. -/
def execFocusEntry (cv : Nat) (s : State) : Host.Outcome State Fault Refusal :=
  finish s <|
    let c := s.conv cv
    match c.focusNext with
    | some f =>
      if s.tick % 256 = 0 then
        s.setConv cv { c with focus := some { f with start := s.scan }, focusNext := none, muxFirst := some s.scan
                              focusWas := c.focus.map fun f => (f, s.scan) }
      else s
    | none => s

/-- Focus ends at a scan boundary: after its scans, on request, or at THROTTLE (R245, R304). -/
def execFocusEnded (cv : Nat) (s : State) : Host.Outcome State Fault Refusal :=
  finish s <|
    let c := s.conv cv
    match c.focus with
    | some f =>
      if s.tick % 256 = 0 ∧ (f.start + f.scans ≤ s.scan ∨ c.focusStop ∨ 2 ≤ s.therm.state) then
        let s := s.setConv cv { c with focus := none, focusStop := false, muxFirst := some s.scan, focusWas := some (f, s.scan) }
        raiseA s 0x4025 [.word cv, .word (s.scan - f.start : Nat)]
      else s
    | none => s

/-! ### Set-point inputs (R248 to R251) -/

/-- Input n (0-3 SPA, 4-7 SPP) becomes invalid for a cause: the VOAs that follow it hold their targets (R158). -/
def inputLost (s : State) (n cause : Nat) : State :=
  let s := raiseA s 0x4026 [.word n, .word cause]
  let follow := fun (o : Nat) => s.objN Obj.VOA_SOURCE o == n + 1
  if (List.range 1024).any follow then
    let vs := (List.range 1024).filter follow
    sourceLost (vs.foldl (fun s o => s.setVoa o { s.voa o with srcInvalid := true }) s) n
  else s

/-- Input n becomes valid again. -/
def inputBack (s : State) (n : Nat) : State :=
  raiseA { s with loops := { s.loops with sources := mset s.loops.sources n false } } 0x4027 [.word n]

def execSpaSample (n code : Nat) (s : State) : Host.Outcome State Fault Refusal :=
  finish s <|
    if 4 ≤ n ∨ !s.ticking then s
    else
      let r := min code 4095
      let x := mget ({} : SetIn) s.mon.spa n
      let bad := decide (s.objN Obj.SPA_LIMIT n < r)
      let badRun := if bad then x.badRun + 1 else 0
      let goodRun := if bad then 0 else x.goodRun + 1
      let back := !x.valid && decide (64 ≤ goodRun)
      let lost := x.valid && decide (4 ≤ badRun)
      let y := if back then ((r * 16 : Nat) : Int)
        else x.y + floorDiv (((r * 16 : Nat) : Int) - x.y) (2 ^ x.shift : Nat)
      let v := min 32767 (floorDiv (y * 5) 8)
      let next : SetIn :=
        { x with y := y, x := v, badRun := badRun, goodRun := goodRun, valid := (x.valid || back) && !lost }
      let s := { s with mon := { s.mon with spa := mset s.mon.spa n next } }
      let s := (s.setObjN Obj.SPA_RAW n r).setObj Obj.SPA_VALUE n v
      let s := s.setObjN Obj.SPA_VALID n (boolNat ((x.valid || back) && !lost))
      if lost then inputLost s n 1 else if back then inputBack s n else s

/-- Change the validity of SPP input n. -/
def setSpp (s : State) (n : Nat) (x : SetIn) : State :=
  ({ s with mon := { s.mon with spp := mset s.mon.spp n x } }).setObjN Obj.SPP_VALID n (boolNat x.valid)

/-- The value of an SPP window (R250). -/
def State.sppValue (s : State) (n mode : Nat) (duty freq : Int) : Int :=
  let (v, lo, hi) := if mode = 0 then (duty, s.obj Obj.DUTY_LOW n, s.obj Obj.DUTY_HIGH n)
    else (freq, s.obj Obj.FREQ_LOW n, s.obj Obj.FREQ_HIGH n)
  clampInt 0 32767 (floorDiv (32768 * (v - lo)) (hi - lo))

/-- Scans of windows of a pulse input that have ended: windows of 2^SPP_WIN scans follow one another (R250). -/
def SetIn.ended (x : SetIn) (scan : Nat) : Nat := (scan - x.begun) / 2 ^ x.win * 2 ^ x.win

/-- The end of a window of 2^SPP_WIN scans: `edges` rising edges, `span` ticks from the first to the last, `high` of them high. A write
of SPP_MODE or SPP_WIN counts from the next window on. Nothing comes of counts before the window has ended, or of ones that no window
of its length can give. -/
def execSppWindowEnd (n edges span high : Nat) (s : State) : Host.Outcome State Fault Refusal :=
  finish s <|
    let x := mget ({} : SetIn) s.mon.spp n
    if 4 ≤ n ∨ !s.ticking ∨ x.ended s.scan = 0 ∨ 256 * 2 ^ x.win < span ∨ span < high then s
    else
      let next := { x with mode := s.objN Obj.SPP_MODE n, win := s.objN Obj.SPP_WIN n, begun := x.begun + x.ended s.scan,
                           lastEdge := if edges = 0 then x.lastEdge else 256 * (x.begun + x.ended s.scan - 2 ^ x.win) + span }
      if edges < 2 ∨ span = 0 then setSpp s n next
      else
        let freq := (edges - 1) * 156250000 / span
        let duty := min 32767 (32768 * high / span)
        let v := s.sppValue n x.mode duty freq
        let s := ((s.setObjN Obj.SPP_DUTY n duty).setObjN Obj.SPP_FREQ n freq).setObj Obj.SPP_VALUE n v
        if 1200000 < freq then
          let s := setSpp s n { next with x := v, valid := false }
          if x.valid then inputLost s (n + 4) 3 else s
        else
          let s := setSpp s n { next with x := v, valid := true }
          if x.valid then s else inputBack s (n + 4)

/-- SPP_TIMEOUT: the world says that no rising edge has come for SPP_TIMEOUT. It cannot be where the last window's own edges are nearer
than that. -/
def execSppTimeout (n : Nat) (s : State) : Host.Outcome State Fault Refusal :=
  finish s <|
    let x := mget ({} : SetIn) s.mon.spp n
    if n < 4 ∧ x.valid ∧ s.elapsed x.lastEdge (1000000 * s.objN Obj.SPP_TIMEOUT n) then
      inputLost (setSpp s n { x with valid := false }) (n + 4) 2
    else s

/-! ### Averaging and coefficients (R184, R187) -/

def execAvgWindowEnd (n : Nat) (s : State) : Host.Outcome State Fault Refusal :=
  finish s (if n < 672 ∧ 2 ^ (s.avg n).len ≤ (s.avg n).count then avgStore s n else s)

/-- A write of AVG_PD or AVG_LEN: it takes effect at the next scan boundary. -/
def effAvgConfig (n : Nat) (len : Bool) (v : Int) (s : State) : State × Verdict :=
  let s' := s.setAvg n { s.avg n with change := true, pd := some (s.avgPd n) }
  if len then (s'.setObj Obj.AVG_LEN n v, .ack)
  else if (receivers v.toNat).contains (n / 16) then (s'.setObj Obj.AVG_PD n v, .ack)
  else (s, .nak .range)

def execAvgConfig (sess n : Nat) (len : Bool) (v : Int) (s : State) : Host.Outcome State Fault Refusal :=
  finish s (hostWrite s sess (if len then Obj.AVG_LEN else Obj.AVG_PD) n v (effAvgConfig n len v))

def effDpApply (s : State) : State × Verdict :=
  if s.mon.dpPending then (s, .nak .busy) else ({ s with mon := { s.mon with dpPending := true } }, .ack)

def execDpApply (sess : Nat) (s : State) : Host.Outcome State Fault Refusal :=
  finish s (hostWrite s sess Obj.DP_APPLY 0 1 effDpApply)

/-- What a converter's filter is: its length, its set and that set's coefficients (R233). -/
def State.filterOf (s : State) (cv : Nat) : Nat × Nat × List Byte :=
  (s.objN Obj.FILT_LEN cv, s.objN Obj.FILT_SET cv, s.oct Obj.FILT_COEF (s.objN Obj.FILT_SET cv))

/-- Keep for the scan that ends what the staged values of an object replace. -/
def keepStaged (s : State) (addr : Nat) : State :=
  let s := (s.stagedOf addr).foldl (fun s e => keepCoef s addr e.1) s
  (s.stagedOctsOf addr).foldl (fun s e => keepCoefOct s addr e.1) s

def dpObjs : List Nat := [Obj.CONV_OFFSET, Obj.CONV_GAIN, Obj.PD_GAIN, Obj.FILT_LEN, Obj.FILT_SET, Obj.FILT_COEF]

/-- The scan boundary at which staged coefficients take effect; a changed filter marks its first L - 1 outputs. -/
def execDpApplied (s : State) : Host.Outcome State Fault Refusal :=
  finish s <|
    if s.mon.dpPending ∧ s.tick % 256 = 0 then
      let touched := !((s.stagedOf Obj.FILT_LEN).isEmpty && (s.stagedOf Obj.FILT_SET).isEmpty &&
        (s.stagedOctsOf Obj.FILT_COEF).isEmpty)
      let s' := dpObjs.foldl (fun s a => (keepStaged s a).applyStaged a) { s with mon := { s.mon with dpPending := false } }
      let changed := if touched then (List.range 2624).filter fun cv => s'.filterOf cv != s.filterOf cv else []
      let s' := changed.foldl (fun t cv =>
        t.setConv cv { t.conv cv with filt := some (s.scan, s.scan + t.filtLen s.scan cv - 1) }) s'
      let s' := if [Obj.CONV_OFFSET, Obj.CONV_GAIN, Obj.PD_GAIN].any fun a =>
          (s.stagedOf a).any fun e => s.obj a e.1 != e.2 then noteUnstored s' else s'
      let s' := s'.setObjN Obj.DP_GEN 0 (nextGen (s'.objN Obj.DP_GEN 0))
      raiseA s' 0x4081 [.word (s'.obj Obj.DP_GEN 0)]
    else s

end Sys2Proof.Machine
end

