-- ==== Sys2Proof/Machine/CalRuns.lean ====
section
/-!
DEFINITION. What a calibration run drives at the scan boundaries and what it computes from its readings (R257, R265 to R271,
R276, R277). Where a rule names a fit without stating it to the last digit, log entries 36 to 38 name the choice.
-/

namespace Sys2Proof.Machine

open Sys2Proof

/-- The addresses under which CAL_RUN_END brings readings: the sums Sz, Sr and Sv of a converter (R266), x as a Q15 value before each toggle of a TEMPLATE run, 1.5 µs after it and at its end, as the focus words of the
cell's tap pair give it (R270), and the sum of 64 senses at each of the five points of a lane (R265). -/
inductive CalTag
  | sz | sr | sv | start | mid | last | sense
  deriving DecidableEq, Repr

def CalTag.addr : CalTag → Nat
  | .sz => 0 | .sr => 1 | .sv => 2 | .start => 5 | .mid => 6 | .last => 7 | .sense => 8

def readAt (r : CalResult) (addr sel : Nat) : Option Int :=
  (r.values.find? fun v => v.1 == addr && v.2.1 == sel).map (·.2.2)

def readTag (r : CalResult) (t : CalTag) (sel : Nat) : Int := (readAt r t.addr sel).getD 0

/-! ### Limits (R277) -/

/-- A value limited to its object's range, and whether it was limited. -/
def calClamp (addr : Nat) (v : Int) : Int × Bool :=
  match objDef addr with
  | some d => (clampInt d.lo d.hi v, decide (v < d.lo ∨ d.hi < v))
  | none => (v, false)

/-- Limit every value. -/
def calLimit (vs : List (Nat × Nat × Int)) : List (Nat × Nat × Int) × Bool :=
  (vs.map fun v => (v.1, v.2.1, (calClamp v.1 v.2.2).1), vs.any fun v => (calClamp v.1 v.2.2).2)

/-- The bytes of a map's breakpoints, each limited to its range (Table 9.2), and whether one was limited. -/
def mapBytes (addr : Nat) (bps : List Int) : List Byte × Bool :=
  let lo : Int := if addr = Obj.FAST_MAP then -32768 else 0
  let hi : Int := if addr = Obj.FAST_MAP then 32767 else 4095
  ((bps.map fun v => beBytes 2 (toUnsigned 16 (clampInt lo hi v))).flatten, bps.any fun v => decide (v < lo ∨ hi < v))

/-! ### Lane trims (R257, R265) -/

/-- DAC input of a code under a trim, limited to the DAC's range (R257). -/
def dacCode (z hi : Nat) (gain offset : Int) (c : Nat) : Nat :=
  (clampInt 0 hi (z + floorDiv (((c : Int) - z) * gain * 16 + offset * 16384) 262144)).toNat

/-- The lane selector x of Table 9.3 of the lane that drives a channel: its own, or the spare on its connection. -/
def State.laneSel (s : State) (u : Nat) : Nat := 34 * bankOf u + (s.chan u).spare.getD (laneOf u)

/-- The DAC input of a channel for its present code, through the trim of the lane that drives it (R257). -/
def State.dacIn (s : State) (u : Nat) : Nat :=
  let x := s.laneSel u
  dacCode (zeroCode u (s.chan u).span) (maxCode u) (s.obj Obj.LANE_GAIN x) (s.obj Obj.LANE_OFFSET x) (s.outCode u)

/-- The zero code and the largest code of a lane, a spare being on span 1 (log entry 14). -/
def State.laneZero (s : State) (x : Nat) : Nat :=
  let u := chanOf (x / 34) (min 31 (x % 34))
  zeroCode u (if x % 34 < 32 then (s.chan u).span else 1)

/-- The codes of the five points: the zero code and 1/8, 3/8, 5/8 and 7/8 of the span. -/
def State.lanePoints (s : State) (x : Nat) : List Nat :=
  let n := maxCode (chanOf (x / 34) 0) + 1
  s.laneZero x :: [1, 3, 5, 7].map fun m => m * (n / 8)

/-- The least-squares line through the five points, from the sensed outputs to the DAC inputs that gave them: LANE_GAIN, LANE_OFFSET
and the largest deviation in 0.01 code of the output from its code once so trimmed (R276): the residual at the DAC input by the gain. -/
def State.laneFit (s : State) (x : Nat) (r : CalResult) : Int × Int × Int :=
  let z := s.laneZero x
  let ds := (s.lanePoints x).map fun c => (dacCode z (maxCode (chanOf (x / 34) 0)) (s.obj Obj.LANE_GAIN x) (s.obj Obj.LANE_OFFSET x) c : Int) - z
  let ys := (List.range 5).map fun (i : Nat) => readTag r .sense i - 64 * (z : Int)
  let ps := ys.zip ds
  let total := fun (l : List Int) => l.foldl (· + ·) 0
  let sx := total ys
  let sy := total ds
  let den := 5 * total (ps.map fun p => p.1 * p.1) - sx * sx
  let num := 5 * total (ps.map fun p => p.1 * p.2) - sx * sy
  let gain := openRound 265 (16384 * 64 * num) den
  let offset := openRound 265 (16 * (sy * den - num * sx)) (5 * den)
  let worst := ps.foldl (fun m p => max m (p.2 * 1048576 - p.1 * gain - offset * 65536).natAbs) 0
  (gain, offset, openRound 265 (100 * worst) (64 * gain.natAbs))

/-! ### Converters (R266) -/

/-- The residual, offset, gain and check code of a converter. A gain whose divisor is 0 has no stated value: free. -/
def converterFit (sz sr sv : Int) : Int × Int × Int × Int :=
  let offset := floorDiv (8 * sz) 16
  let d := floorDiv (8 * sr) 16 - offset
  let gain := if d = 0 then Config.quotient 266 (16384 * (3072 * 8)) 0 else floorDiv (16384 * (3072 * 8)) d
  let yv := floorDiv ((floorDiv (8 * sv) 16 - offset) * 2 * gain) 32768
  (floorDiv (((yv - 24576).natAbs : Int) * 100) 8, offset, gain, floorDiv (sr + 8) 16)

/-- The values of one converter's trim: the spare's own where its bank's spare serves it. -/
def State.converterValues (s : State) (cv : Nat) (sz sr sv : Int) : List (Nat × Nat × Int) × Int :=
  let (res, off, gain, exp) := converterFit sz sr sv
  let mb := cv / 16
  let own : List (Nat × Nat × Int) :=
    if (s.conv cv).state = 2 then [(Obj.SPARE_OFFSET, mb, off), (Obj.SPARE_GAIN, mb, gain), (Obj.SPARE_EXPECT, mb, exp)]
    else [(Obj.CHECK_EXPECT, cv, exp)]
  (own ++ [(Obj.CONV_OFFSET, cv, off), (Obj.CONV_GAIN, cv, gain), (Obj.CONV_RESIDUAL, cv, res),
    (Obj.REF_TRIM_CODE, cv / 164, ((s.outCode (123904 + 40 + cv / 164) : Nat) : Int))], res)

/-! ### Elements (R268) -/

/-- The phase of a sweep step: 512 equal steps from -POCKELS_LIMIT to +POCKELS_LIMIT. -/
def sweepPhase (lim : Int) (k : Nat) : Int := -lim + floorDiv (2 * lim * k) 512

/-- x = Pa/(Pa + Pb) of a sweep step as a Q15 value. -/
def SweepStep.x (p : SweepStep) : Int := if p.pa + p.pb = 0 then 0 else floorDiv (32768 * p.pa) (p.pa + p.pb)

/-- The first step at which a figure is largest. -/
def sweepMax (f : SweepStep → Int) : List SweepStep → Option SweepStep
  | [] => none
  | p :: t => match sweepMax f t with
    | some q => if f p < f q then some q else some p
    | none => some p

/-- The FRINGE_SIGN bit at a step: the sign of the change in x over the 16 points above it, as far as the sweep goes. A change of 0 has
no sign: free. -/
def fringeBit (sweep : List SweepStep) (k : Nat) : Int :=
  let at_ := fun (j : Nat) => ((sweep.find? fun p => p.k == j).map SweepStep.x).getD 0
  let d := at_ (min 512 (k + 16)) - at_ k
  if 0 < d then 0 else if d < 0 then 1 else Config.quotient 268 k 0 % 2

/-- The located extremum of x nearest a nominal phase: the step within a quarter turn at which x is farthest from the middle of its
range. -/
def locate (lim : Int) (sweep : List SweepStep) (nominal : Int) : Option SweepStep :=
  let hi := ((sweepMax SweepStep.x sweep).map SweepStep.x).getD 0
  let lo := ((sweepMax (fun p => -p.x) sweep).map SweepStep.x).getD 0
  sweepMax (fun p => (2 * p.x - hi - lo).natAbs) (sweep.filter fun p => decide ((sweepPhase lim p.k - nominal).natAbs ≤ 8192))

/-- The line through the two fitted points about an input, or beyond them the one through the last two. -/
def fitAt (pts : List (Int × Int)) (old : BpMap) (x : Int) : Int :=
  match pts with
  | [] => old.conv x
  | [p] => old.conv x + (p.2 - old.conv p.1)
  | p :: q :: t =>
    if x ≤ q.1 ∨ t.isEmpty then p.2 + openRound 268 ((q.2 - p.2) * (x - p.1)) (q.1 - p.1) else fitAt (q :: t) old x

/-- The breakpoints of the fitted FAST_MAP: the located extrema of x fall at their nominal phases, multiples of π, and the map is linear
between them. -/
def fastFit (lim : Int) (old : BpMap) (sweep : List SweepStep) : List Int :=
  let pts := [-16384, 0, 16384].filterMap fun n =>
    if (n : Int).natAbs ≤ lim then (locate lim sweep n).map fun p => (n, old.conv (sweepPhase lim p.k)) else none
  (List.range 17).map fun (j : Nat) => fitAt pts old (-20480 + 2560 * (j : Int))

/-- floor(4,095 * sqrt(j * 2,304 / full)): the greatest such code, found bit by bit; one above 4,095 stands for all of those. A phase
that is not above 0 gives no stated code: free. -/
def heaterBp (full : Int) (j : Nat) : Int :=
  if full ≤ 0 then Config.quotient 268 j full
  else
    (((List.range 13).map (12 - ·)).foldl (fun n b =>
      if (n + 2 ^ b) ^ 2 * full.toNat ≤ 4095 ^ 2 * (j * 2304) then n + 2 ^ b else n) 0 : Nat)

/-- The phase of the trimmed arm as tracked on x from one held scan to the next: that of the swept step, in the direction of the step
for π and within an eighth of a turn of the phase before it, at which x is nearest (DESIGN CHOICE, log entry 38). -/
def trackStep (lim : Int) (sweep : List SweepStep) (up : Bool) (p x : Int) : Int :=
  let places := sweep.flatMap fun q => [-32768, 0, 32768].map fun (m : Int) => (sweepPhase lim q.k + m, (q.x - x).natAbs)
  let ahead := places.filter fun q => let d := if up then q.1 - p else p - q.1; decide (0 ≤ d ∧ d ≤ 4096)
  match ahead with
  | [] => p
  | q :: t => (t.foldl (fun b c => if c.2 < b.2 then c else b) q).1

/-- The phases of the scans in which the trimmer stands at the step for π, tracked from the phase of the arms. -/
def trackPhases (lim : Int) (sweep : List SweepStep) (up : Bool) : Int → List Int → List Int
  | _, [] => []
  | p, x :: t => let q := trackStep lim sweep up p x; q :: trackPhases lim sweep up q t

/-- Whether the step for π of an element's trimmer goes up: where there is no room above it goes down. -/
def State.stepsUp (s : State) (e : Nat) : Bool := decide ((s.elem e).theta + 16384 ≤ 36864)

/-- θfull and THERMAL_ALPHA of an element (R268 step 5), from the phases θ(k) that the trimmer has added in the held scans. The phase
goes with the heater power, so with the square of the code, which gives θfull from the codes before and after the step. The response of
R150's model, h(k + 1) = h(k) + (h(end) − h(k))·α/2^15, summed over the held scans gives α (DESIGN CHOICE, log entry 38). -/
def State.trimmerFit (s : State) (e : Nat) (sweep : List SweepStep) : Int × Int :=
  let p0 := s.phaseNow e
  let thetas := (trackPhases (s.law Obj.POCKELS_LIMIT 0) (sweep.filter fun q => decide (q.k ≤ 512)) (s.stepsUp e) p0
    ((sweep.filter fun q => decide (512 < q.k)).map SweepStep.x)).map (· - p0)
  let last := thetas.getLast?.getD 0
  let before := (s.heaterMap e).conv (s.elem e).theta
  let after := heaterUncode (s.chan (trimmer e)).span (s.chan (trimmer e)).target
  let rest := ((0 :: thetas).dropLast.map fun t => last - t).foldl (· + ·) 0
  (openRound 268 (last * 4095 ^ 2) (after ^ 2 - before ^ 2), openRound 268 (32768 * last) rest)

/-- What an ELEMENT run finds for its element from its swept and held scans: values, maps, the extinction and whether a map was
limited. -/
def State.elementValues (s : State) (e : Nat) (held : List SweepStep) (r : CalResult) :
    List (Nat × Nat × Int) × List (Nat × Nat × List Byte) × Int × Bool :=
  let lim := s.law Obj.POCKELS_LIMIT 0
  let sweep := held.filter fun p => decide (p.k ≤ 512)
  let top := (sweepMax SweepStep.want sweep).getD { k := 0, want := 0, pa := 0, pb := 0 }
  let low := (sweepMax (fun p => -p.want) sweep).getD { k := 0, want := 0, pa := 0, pb := 0 }
  let bar := sweepPhase lim top.k
  let low' := if e % 2 = 0 then low else top
  let sign := fringeBit sweep top.k + 2 * fringeBit sweep low'.k
  let ext := ratioLog 1000 low.want top.want
  let (full, alpha) := s.trimmerFit e held
  let (fast, c1) := mapBytes Obj.FAST_MAP (fastFit lim (s.fastMap e) sweep)
  let (heat, c2) := mapBytes Obj.HEATER_MAP ((List.range 17).map (heaterBp full))
  ([(Obj.TARGET_BAR, e, bar), (Obj.TARGET_CROSS, e, sweepPhase lim low'.k), (Obj.FRINGE_SIGN, e, sign),
    (Obj.THERMAL_ALPHA, e, alpha), (Obj.HEATER_R, e, (readAt r Obj.HEATER_R e).getD 0),
    (Obj.EXTINCTION, e, ext)],
   [(Obj.FAST_MAP, e, fast), (Obj.HEATER_MAP, e, heat)], ext, c1 || c2)

/-! ### VOAs (R269) -/

/-- The heater code of hold k of a VOA run: 64 equal steps from 0. -/
def voaStep (k : Nat) : Nat := 4095 * k / 64

/-- The least code on the line through two neighbouring holds at which an attenuation is reached. -/
def voaBp (steps : List (Nat × Int)) (want : Int) : Option Int :=
  match steps with
  | p :: q :: t =>
    if want ≤ p.2 then some (voaStep p.1)
    else if want ≤ q.2 then some (voaStep p.1 + openRound 269 ((want - p.2) * ((voaStep q.1 : Int) - voaStep p.1)) (q.2 - p.2))
    else voaBp (q :: t) want
  | [p] => if want ≤ p.2 then some (voaStep p.1) else none
  | [] => none

/-- What a VOA run finds for its output: values, the map, the largest attenuation reached in 0.001 dB and whether 25 dB is out of
reach. -/
def State.voaValues (s : State) (o : Nat) (sweep : List SweepStep) (r : CalResult) :
    List (Nat × Nat × Int) × List (Nat × Nat × List Byte) × Int × Bool :=
  let p0 := ((sweep.find? fun p => p.k == 0).map SweepStep.want).getD 0
  let steps := sweep.map fun p => (p.k, if p.k = 0 then 0 else ratioLog 10000 p0 p.want)
  let most := steps.foldl (fun m p => max m p.2) 0
  let bps := (List.range 26).map fun (j : Nat) => match voaBp steps (1000 * (j : Int)) with
    | some c => heaterUncode (s.spanOf (voaChan o)) c.toNat
    | none => 4095
  let (bytes, c) := mapBytes Obj.VOA_MAP bps
  ([(Obj.HEATER_R, 40960 + o, (readAt r Obj.HEATER_R (40960 + o)).getD 0)], [(Obj.VOA_MAP, o, bytes)], most, c || decide (most < 25000))

/-! ### Templates (R270) -/

/-- Candidate i of a TEMPLATE run: A1 and D1, the smaller A1 first and then the smaller D1. -/
def candidate (i : Nat) : Int × Nat := (4096 * (i / 8 : Nat), 8 * (i % 8 + 1))

/-- ρ1 of toggle j, |x(1.5 µs) - x(end)| over |x(end) - x(start)|, as a fraction (R270). Where x did not move it has no stated value:
free. -/
def toggleRho (r : CalResult) (j : Nat) : Nat × Nat :=
  let a := (readTag r .mid j - readTag r .last j).natAbs
  let b := (readTag r .last j - readTag r .start j).natAbs
  if b = 0 then ((Config.quotient 270 a 0).natAbs, 1) else (a, b)

/-- The sum of ρ1 over some toggles, as a fraction. -/
def rhoSum (r : CalResult) (js : List Nat) : Nat × Nat :=
  js.foldl (fun p j => (p.1 * (toggleRho r j).2 + (toggleRho r j).1 * p.2, p.2 * (toggleRho r j).2)) (0, 1)

/-- The toggles of candidate i into CROSS and into BAR: two of each, in turn. -/
def crossToggles (i : Nat) : List Nat := [4 * i, 4 * i + 2]
def barToggles (i : Nat) : List Nat := [4 * i + 1, 4 * i + 3]

/-- The first of the 64 candidates whose score, a fraction, is least. -/
def bestCandidate (score : Nat → Nat × Nat) : Nat :=
  (List.range 64).foldl (fun best i =>
    if (score i).1 * (score best).2 < (score best).1 * (score i).2 then i else best) 0

/-- The mean of n values of ρ1 from their sum, in 0.01 %. -/
def rhoMean (sum : Nat × Nat) (n : Nat) : Int := openRound 270 (10000 * sum.1) (n * sum.2)

/-- The values a candidate gives a template; template 0 is never changed. -/
def State.templateValues (s : State) (n i : Nat) : List (Nat × Nat × Int) :=
  if n = 0 then []
  else
    let (a1, d1) := candidate i
    [(Obj.TPL_A1, n, a1), (Obj.TPL_D1, n, d1), (Obj.TPL_D2, n, s.obj Obj.TPL_SPAN 0 - d1)]

/-- What a TEMPLATE run finds: the values of its element's two templates, and the mean ρ1 of the chosen candidate, the larger where
two are chosen. -/
def State.templateFit (s : State) (e : Nat) (r : CalResult) : List (Nat × Nat × Int) × Int :=
  let nc := s.objN Obj.TEMPLATE_CROSS e
  let nb := s.objN Obj.TEMPLATE_BAR e
  let both := fun i => rhoSum r (crossToggles i ++ barToggles i)
  if nc = nb then
    let i := bestCandidate both
    (s.templateValues nc i, rhoMean (both i) 4)
  else
    let cross := fun i => rhoSum r (crossToggles i)
    let bar := fun i => rhoSum r (barToggles i)
    let i := bestCandidate cross
    let j := bestCandidate bar
    (s.templateValues nc i ++ s.templateValues nb j, max (rhoMean (cross i) 2) (rhoMean (bar j) 2))

/-! ### Bands (R271) -/

/-- The greatest n whose square is at most a, found bit by bit. -/
def rootFloor (a : Nat) : Nat := ((List.range 32).map (31 - ·)).foldl (fun n b => if (n + 2 ^ b) ^ 2 ≤ a then n + 2 ^ b else n) 0

/-- The root-mean-square noise about its mean of 1,024 evaluations: exact where it is exact, else one of the two whole numbers about
it (log entry 50). -/
def noiseOf (sum squares : Int) : Int :=
  let a := (1024 * squares - sum * sum).toNat
  let n := rootFloor a / 1024
  if (1024 * n) ^ 2 = a then n else n + Config.quotient 271 a 1024 % 2

/-- BAND_TRIM of a noise figure before its limits. -/
def State.bandTrim (s : State) (n : Int) : Int := floorDiv (16384 * 4 * n) (s.law Obj.BAND_IN 0)

/-! ### The result of a run -/

/-- What the item in hand gives: values, maps, quality and the CLAMPED flag (R276, R277). -/
def State.calCompute (s : State) (r : CalRun) (res : CalResult) : CalResult :=
  let e := r.item
  let pack := fun (vs : List (Nat × Nat × Int)) (ms : List (Nat × Nat × List Byte)) (q : Int) (clamped : Bool) =>
    let (vs, c) := calLimit vs
    ({ values := vs, maps := ms, quality := q, flags := if c || clamped then 256 else 0, aborted := none } : CalResult)
  match r.req.kind with
  | 1 =>
    let (gain, offset, dev) := s.laneFit e res
    pack [(Obj.LANE_GAIN, e, gain), (Obj.LANE_OFFSET, e, offset), (Obj.LANE_RESIDUAL, e, dev)] [] dev false
  | 2 =>
    let sum := fun (t : CalTag) (i : Nat) => if r.coefs.isSome then readTag res t e else r.sums.getD i 0
    let (vs, q) := s.converterValues e (sum .sz 0) (sum .sr 1) (sum .sv 2)
    pack vs [] q false
  | 3 => let (vs, ms, q, c) := s.elementValues e r.sweep res; pack vs ms q c
  | 4 => let (vs, ms, q, c) := s.voaValues e r.sweep res; pack vs ms q c
  | 5 => let (vs, q) := s.templateFit e res; pack vs [] q false
  | _ => let n := noiseOf (r.sums.getD 0 0) r.squares; pack [(Obj.BAND_TRIM, e, s.bandTrim n)] [] n false

/-- Whether the item in hand has taken its measurements: the time of its sequence has passed and its readings are here. -/
def State.runOver (s : State) (r : CalRun) (res : CalResult) : Bool :=
  let has := fun (a x : Nat) => (readAt res a x).isSome
  match r.req.kind with
  | 1 =>
    (match r.lane with | some u => (s.chan u).placed && !s.windowOpen | none => true) &&
      (List.range 5).all fun i => has CalTag.sense.addr i
  | 2 =>
    if r.coefs.isSome then decide (s.tick % 256 = 0 ∧ r.first + 2 ≤ s.scan) && (List.range 3).all fun t => has t r.item
    else decide (48 ≤ r.count)
  | 3 => decide (r.first + 577 ≤ s.scan) && has Obj.HEATER_R r.item
  | 4 => decide (r.first + 16640 ≤ s.scan) && has Obj.HEATER_R (40960 + r.item)
  | 5 => decide (r.first + 4096 ≤ s.scan) &&
      (List.range 256).all fun j => has CalTag.start.addr j && has CalTag.mid.addr j && has CalTag.last.addr j
  | _ => decide (1024 ≤ r.count ∨ r.first + 4096 ≤ s.scan)

/-! ### What a run drives at scan boundary k of its sequence -/

/-- An ELEMENT run sweeps its arms, then puts them back and steps its trimmer by the code for π, downward where there is no room
above. -/
def sweepElement (s : State) (r : CalRun) (k : Nat) : State :=
  let e := r.item
  if k ≤ 512 then
    let (a, b) := s.codesOf e (sweepPhase (s.law Obj.POCKELS_LIMIT 0) k)
    writeDirect (writeDirect s (armA e) a) (armB e) b
  else if k = 513 then
    let s := restoreCodes s (r.saved.filter fun c => decide (c.1 < 81920))
    let theta := (s.elem e).theta
    driveTrimmer s e (if s.stepsUp e then theta + 16384 else theta - 16384)
  else s

/-- A VOA run raises the heater code every 256 scans. -/
def sweepVoa (s : State) (r : CalRun) (k : Nat) : State :=
  if k % 256 = 0 ∧ k / 256 ≤ 64 then writeTarget s (voaChan r.item) (voaStep (k / 256)) else s

/-- One arm of a toggle, through the template of R121 with a candidate's values. -/
def kickArm (s : State) (u final : Nat) (a1 a2 : Int) (d1 d2 : Nat) : State :=
  let old := s.outCode u
  let code := fun (a : Int) => (clampInt 0 (maxCode u) (final + floorDiv (a * ((final : Int) - old)) 32768)).toNat
  let s := writeDirect s u final
  if s.gateOpen (bankOf u) && !s.holdsWrites u && !s.bankStops (bankOf u) then
    s.setChan u { s.chan u with motion := some (.kick s.tick (code a1) d1 (code a2) d2), changed := s.tick + d1 + d2 }
  else s

/-- The present A2 of a template; template 0 has none: it is the step without pre-emphasis. -/
def State.templateA2 (s : State) (n : Nat) : Int := if n = 0 then 0 else s.obj Obj.TPL_A2 n

/-- A TEMPLATE run toggles its element every 16 scans, into CROSS and into BAR in turn, twice for each candidate; A2 is the present one
of the template of the state it toggles into. -/
def toggleElement (s : State) (r : CalRun) (k : Nat) : State :=
  let e := r.item
  if k % 16 = 0 ∧ k < 4096 then
    let cross := k / 16 % 2 = 0
    let (a, b) := s.codesOf e (s.obj (if cross then Obj.TARGET_CROSS else Obj.TARGET_BAR) e)
    let (a1, d1) := candidate (k / 64)
    let a2 := s.templateA2 (s.objN (if cross then Obj.TEMPLATE_CROSS else Obj.TEMPLATE_BAR) e)
    let d2 := s.objN Obj.TPL_SPAN 0 - d1
    kickArm (kickArm s (armA e) a a1 a2 d1 d2) (armB e) b a1 a2 d1 d2
  else s

/-- What the run in hand drives at the present scan boundary. -/
def calScan (s : State) : State :=
  let s := if s.cal.apply.isNone then returnBack s false else s
  match s.cal.run with
  | none => s
  | some r =>
    if !r.measures || decide (s.scan < r.first) then s
    else
      let k := s.scan - r.first
      match r.req.kind with
      | 3 => sweepElement s r k
      | 4 => sweepVoa s r k
      | 5 => toggleElement s r k
      | _ => s

end Sys2Proof.Machine
end

