-- ==== Sys2Proof/Machine/Calibration.lean ====
section
/-!
DEFINITION. The meanings of the calibration commands (spec/09_calibration.md).
-/

namespace Sys2Proof.Machine

open Sys2Proof

/-! ### Requests (R261, R262) -/

def calAll : Nat := 0xFFFFFFFF

/-- Whether a selector is one of Table 9.3 for a kind. -/
def calSelOk (kind sel : Nat) : Bool :=
  match kind with
  | 1 => decide (sel < 131648) || sel == calAll
  | 2 => decide (sel < 2624) || sel == calAll
  | 3 => decide (sel < 40960)
  | 4 => decide (sel < 1024)
  | 5 => decide (sel < 40960 ∧ sel % 2 = 0)
  | 6 => decide (sel < 40960) || sel == calAll
  | _ => false

/-- Requests queued, the one at the head with them. -/
def State.calQueued (s : State) : Nat := s.cal.queue.length + (if s.cal.run.isSome then 1 else 0)

def State.calState (s : State) : Bool := s.dev.state == .parked || s.dev.state == .service

def effCalApply (s : State) : State × Verdict :=
  let kind := (s.judged Obj.CAL_KIND 0).toNat
  let sel := (s.judged Obj.CAL_SELECTOR 0).toNat
  if !s.calState then (s, .nak .state)
  else if !calSelOk kind sel then (s, .nak .range)
  else if 16 ≤ s.calQueued then (s, .nak .full)
  else if sel = calAll ∧ s.obj Obj.CAL_AUTO_ACCEPT 0 = 0 then (s, .nak .conflict)
  else
    let s := (s.applyStaged Obj.CAL_KIND).applyStaged Obj.CAL_SELECTOR
    let q : CalReq := { seq := s.cal.nextSeq, kind := kind, sel := sel }
    ({ s with cal := { s.cal with queue := s.cal.queue ++ [q], nextSeq := (s.cal.nextSeq + 1) % (u32Max + 1) } }, .ack)

def execCalApply (sess : Nat) (s : State) : Host.Outcome State Fault Refusal :=
  finish s (hostWrite s sess Obj.CAL_APPLY 0 1 effCalApply)

/-! ### The head of the queue (R262, R263) -/

/-- Whether exactly one input line of an element's cell is lit (Table 9.3). -/
def State.oneLit (s : State) (e : Nat) : Bool :=
  let d := s.law Obj.DARK_LEVEL 0
  let a := s.linePower (cellOf e) 0
  let b := s.linePower (cellOf e) 1
  !a.inv && !b.inv && (decide (d ≤ a.p) != decide (d ≤ b.p))

/-- Which needs of Table 9.3 one item fails: BUSY for a spare or for a converter in focus, STATE for a loop, its light or its trim
channel, FULL for the focus converters. The light of a VOA that does not stand at code 0 shows only once its run has driven it there
(log entry 37). -/
def State.calNeeds (s : State) (q : CalReq) : Option Nak :=
  match q.kind with
  | 1 =>
    let b := s.bank (q.sel / 34)
    if q.sel % 34 < 32 then (if b.freeSpare.isSome then none else some .busy)
    else if b.spareState (q.sel % 34) = .idle then none else some .busy
  | 2 => if (s.chan (123904 + 40 + q.sel / 164)).reached then none else some .state
  | 3 =>
    if (s.elem q.sel).state ≠ .disabled ∨ s.cellClass (cellOf q.sel) = 3 ∨ ¬ s.oneLit q.sel then some .state else none
  | 4 =>
    let x := (s.pd (82944 + q.sel)).value
    let dark := s.outCode (voaChan q.sel) = 0 ∧ (s.chan (voaChan q.sel)).changed + 512 ≤ s.tick ∧ x.p < s.law Obj.DARK_LEVEL 0
    if (s.voa q.sel).state ≠ .disabled ∨ x.inv ∨ dark then
      some .state else none
  | 5 =>
    let c := s.conv (2 * q.sel / 32)
    if (s.elem q.sel).state ≠ .disabled ∨ s.cellClass (cellOf q.sel) = 3 ∨ ¬ s.oneLit q.sel then some .state
    else if 64 ≤ s.focusCount 2624 then some .full
    else if c.focus.isSome ∨ c.focusNext.isSome then some .busy
    else none
  | _ =>
    let x := s.elem q.sel
    if x.state = .locked ∧ ¬ x.dark ∧ ¬ x.unobserved then none else some .state

/-- How many items a kind has (Table 9.3). -/
def calItems : Nat → Nat
  | 1 => 131648
  | 2 => 2624
  | _ => 40960

/-- The needs of a request at the head: those of its item, or of every item of its kind, the lowest failing one named. -/
def State.headNeeds (s : State) (q : CalReq) : Option Nak :=
  if q.sel = calAll then (List.range (calItems q.kind)).findSome? fun i => s.calNeeds { q with sel := i } else s.calNeeds q

/-- The heater power an item asks for in µW and the channels it is granted for, where it heats (Table 10.1). -/
def State.calHeat (s : State) (q : CalReq) : Option (Int × List Nat) :=
  let full := fun (h : Nat) =>
    ((16 * s.objN Obj.HEATER_R h / 10 : Nat) : Int) - ((s.power h : Nat) : Int)
  match q.kind with
  | 1 =>
    let b := q.sel / 34
    if b < 2560 then none
    else if q.sel % 34 < 32 then
      let h := chanOf b (q.sel % 34) - 81920
      some (6400 - ((s.power h : Nat) : Int), [81920 + h])
    else some (6400, [])
  | 3 => some (full q.sel, [trimmer q.sel])
  | 4 => some (full (40960 + q.sel), [voaChan q.sel])
  | _ => none

/-- The idle spare of a converter's bank takes over its inputs in the manner of R239 (R267). -/
def borrowConv (s : State) (cv : Nat) : State :=
  let mb := cv / 16
  let s := s.setConv cv ((s.conv cv).setSpare true s.scan)
  let s := s.setMonBank mb { s.monBank mb with spareCv := some cv }
  (loadCoefs s cv (s.obj Obj.SPARE_OFFSET mb) (s.obj Obj.SPARE_GAIN mb)).1

/-- Whether a bank's spare can stand in for a converter under trim. -/
def State.spareFree (s : State) (cv : Nat) : Bool :=
  let b := s.monBank (cv / 16)
  b.spareCv.isNone && !b.spareFailed

/-- An item starts: what it borrows, the codes it will put back, and what it drives first. A lane that does not drive its channel, FAILED
or lost, is on its load already and borrows no spare (DESIGN CHOICE, log entry 37). -/
def startRun (s : State) (r : CalRun) : State :=
  let q := r.one
  let r := { r with phase := .running, due := false, since := s.tick, first := s.scan + 1, lane := none, saved := [], coefs := none
                    sweep := [], sums := [], squares := 0, count := 0 }
  match q.kind with
  | 1 =>
    let b := q.sel / 34
    let u := chanOf b (q.sel % 34)
    match (s.bank b).freeSpare with
    | some k =>
      if q.sel % 34 < 32 ∧ ¬ (s.chan u).laneFailed ∧ ¬ (s.chan u).lost then (loadSpare s b (q.sel % 34) k).putRun { r with lane := some u }
      else s.putRun r
    | none => s.putRun r
  | 2 =>
    if s.spareFree q.sel then
      (borrowConv s q.sel).putRun { r with first := s.scan, coefs := some (s.obj Obj.CONV_OFFSET q.sel, s.obj Obj.CONV_GAIN q.sel) }
    else
      let c := s.conv q.sel
      (s.setConv q.sel { c with queue := { source := 33, host := false, scan := s.scan, cal := true } :: c.queue }).putRun r
  | 3 | 5 =>
    let r := { r with saved := [armA q.sel, armB q.sel, trimmer q.sel].map fun u => (u, s.outCode u)
                      lit := boolNat (decide ((s.linePower (cellOf q.sel) 0).p < s.law Obj.DARK_LEVEL 0)) }
    let cv := 2 * q.sel / 32
    let s := if q.kind = 5 then
        s.setConv cv { s.conv cv with focusNext := some { input := 2 * q.sel % 32, pair := true, scans := u32Max }, focusStop := false }
      else s
    s.putRun r
  | 4 => s.putRun { r with saved := [(voaChan q.sel, s.outCode (voaChan q.sel))] }
  | _ => s.putRun r

/-- Whether an item may take its first step now: a hand-over waits for the end of APPLYING (R265), the take-over of a converter's
inputs for a scan boundary (R267). -/
def State.startReady (s : State) (q : CalReq) : Bool :=
  match q.kind with
  | 1 => decide (32 ≤ q.sel % 34) || !s.windowOpen
  | 2 => !s.spareFree q.sel || decide (s.tick % 256 = 0)
  | _ => true

/-- An item that has all it needs starts, or is due to. -/
def calGo (s : State) (r : CalRun) : State :=
  if s.startReady r.one then startRun s r else s.putRun { r with phase := .running, due := true }

/-- Start the item in hand, as far as it can: refused, deferred, waiting for its grant, or running. A request for heater power that
Steady has already is not made again. -/
def calTry (s : State) (r : CalRun) : State :=
  let q := r.one
  match s.calNeeds q with
  | some n => endCal (s.putRun { r with phase := .queued }) r.req 8 0 n.code
  | none =>
    if (calConv q).any fun cv => !(s.conv cv).queue.isEmpty then s.putRun { r with phase := .deferred }
    else
      match s.calHeat q with
      | none => calGo s r
      | some (heat, chans) =>
        let s := if s.holds .calibration q.seq || s.waits .calibration q.seq then s
          else (requestGrant (atModeBoundary s 5)
            { kind := .calibration, source := q.seq, heater := max 0 heat, chans := chans, charge := 0 }).1
        if s.holds .calibration q.seq then calGo s r
        else s.putRun (if r.phase = .waitGrant then r else { r with phase := .waitGrant, since := s.tick })

/-- The request that reaches the head of the queue: its needs are checked again, all of them for every item (R262). -/
def calHead (s : State) (q : CalReq) : State :=
  let r : CalRun := { req := q, item := if q.sel = calAll then 0 else q.sel, phase := .queued, since := s.tick }
  match s.headNeeds q with
  | some n => endCal (s.putRun r) q 8 0 n.code
  | none => calTry s r

/-- The head of the queue is served while the device runs in PARKED or SERVICE and is not throttled (R262, R304), once the result
before it is applied and its lane back. -/
def execCalStart (s : State) : Host.Outcome State Fault Refusal :=
  finish s <|
    if !s.calState ∨ 2 ≤ s.therm.state ∨ s.cal.apply.isSome ∨ s.cal.back.isSome then s
    else
      match s.cal.run with
      | some r =>
        if r.phase = .pending ∨ r.measures then s
        else if r.due then (if s.startReady r.one then startRun s r else s)
        else calTry s r
      | none =>
        match s.cal.queue with
        | q :: t => calHead { s with cal := { s.cal with queue := t } } q
        | [] => s

/-- No grant within CAL_GRANT_TIMEOUT (R263). -/
def execCalGrantTimeout (s : State) : Host.Outcome State Fault Refusal :=
  finish s <|
    match s.cal.run with
    | some r =>
      if r.phase = .waitGrant ∧ s.elapsed r.since (1000000 * s.objN Obj.CAL_GRANT_TIMEOUT 0) ∧ ¬ s.holds .calibration r.req.seq then
        abortCal s 6 else s
    | none => s

/-! ### What a run gives (R276, R277) -/

/-- An item's result is to be applied; the next item of a request for every item follows, else the request is DONE. -/
def finishItem (s : State) (r : CalRun) (out : CalResult) : State :=
  let s := { s with cal := { s.cal with apply := some (r.one, out) } }
  let flags := if r.clamped then 256 else out.flags
  if r.req.sel = calAll ∧ r.item + 1 < calItems r.req.kind then
    let s := s.putRun { req := r.req, item := r.item + 1, phase := .queued, since := s.tick, clamped := decide (flags ≠ 0) }
    releaseGrant s .calibration r.req.seq
  else endCal s r.req 6 out.quality flags

/-- A run ends: its inputs and codes are put back; the result is to be applied, or held PENDING. A lane whose trim is to be applied
now is handed back after it (R278). -/
def calEnd (s : State) (r : CalRun) (res : CalResult) : State :=
  let out := s.calCompute r res
  let now := decide (s.obj Obj.CAL_AUTO_ACCEPT 0 = 1)
  let s := restoreCodes (returnLanes s r) r.saved
  if now then finishItem s r out
  else
    releaseGrant ((returnBack s false).putRun { req := r.req, item := r.item, phase := .pending, since := s.tick, clamped := r.clamped, result := some out })
      .calibration r.req.seq

/-- CAL_RUN_END, once the item in hand has been measured. A BAND run that has found fewer than 1,024 evaluations ends ABORTED with
reason LIGHT (R271). -/
def execCalRunEnd (result : CalResult) (s : State) : Host.Outcome State Fault Refusal :=
  finish s <|
    match s.cal.run with
    | some r =>
      if !r.measures then s
      else
        match result.aborted with
        | some why => abortCal s why
        | none =>
          if !s.runOver r result then s
          else if r.req.kind = 6 ∧ r.count < 1024 then abortCal s 7
          else calEnd s r result
    | none => s

/-! ### Application (R278, R279) -/

/-- Objects whose change makes a new calibration generation. -/
def genObjs9 : List Nat :=
  [Obj.FAST_MAP, Obj.HEATER_MAP, Obj.VOA_MAP, Obj.TARGET_BAR, Obj.TARGET_CROSS, Obj.FRINGE_SIGN, Obj.BAND_TRIM] ++
  [Obj.TEMPLATE_BAR, Obj.TEMPLATE_CROSS, Obj.TPL_A1, Obj.TPL_A2, Obj.TPL_D1, Obj.TPL_D2]

/-- Reconvert the codes of a channel whose map has changed, from its present phase or attenuation. -/
def remapCodes (s : State) (addr sel : Nat) : State :=
  if !s.loopsRun then s
  else if addr = Obj.FAST_MAP then driveElem s sel
  else if addr = Obj.HEATER_MAP then driveTrimmer s sel (s.elem sel).theta
  else if addr = Obj.VOA_MAP then driveVoa s sel
  else s

/-- A calibrated value takes effect; coefficients of conditioning keep for the scan that ends what they replace, and the bands of a new
BAND_TRIM are loaded at the scan boundary that follows (R272). -/
def setCal (s : State) (addr sel : Nat) (v : Int) : State :=
  if addr = Obj.BAND_TRIM then s.setLaw addr sel v
  else if addr = Obj.PD_GAIN ∨ addr = Obj.CONV_OFFSET ∨ addr = Obj.CONV_GAIN then setCoef s addr sel v else s.setObj addr sel v

/-- One application of values and maps: CAL_GEN goes up at most once (R279). -/
def applyValues (s : State) (vs : List (Nat × Nat × Int)) (ms : List (Nat × Nat × List Byte)) : State :=
  let vs' := vs.filter fun v => s.obj v.1 v.2.1 != v.2.2
  let ms' := ms.filter fun m => s.oct m.1 m.2.1 != m.2.2
  let gen := (vs'.any fun v => genObjs9.contains v.1) || ms'.any fun m => genObjs9.contains m.1
  let s := vs'.foldl (fun s v => setCal s v.1 v.2.1 v.2.2) s
  let s := ms'.foldl (fun s m => s.setOct m.1 m.2.1 m.2.2) s
  let s := ms'.foldl (fun s m => remapCodes s m.1 m.2.1) s
  if gen then bumpCalGen s else s

/-- An application of values that differ from the stored ones. -/
def applyCal (s : State) (vs : List (Nat × Nat × Int)) (ms : List (Nat × Nat × List Byte)) : State :=
  let same := vs.all (fun v => s.obj v.1 v.2.1 == v.2.2) && ms.all fun m => s.oct m.1 m.2.1 == m.2.2
  let s := applyValues s vs ms
  if same then s else noteUnstored s

/-- A converter's coefficients load as in R239. -/
def applyCoefs (s : State) (vs : List (Nat × Nat × Int)) : State :=
  (vs.filter fun v => v.1 = Obj.CONV_OFFSET).foldl (fun s v =>
    match vs.find? fun w => w.1 == Obj.CONV_GAIN && w.2.1 == v.2.1 with
    | some w => (loadCoefs s v.2.1 v.2.2 w.2.2).1
    | none => s) s

/-- A result is applied at one scan boundary in both lobes; a VOA run's new maximum-attenuation code is due for the safe
page (R269), and a lane goes back to its channel with its new trim (R278). -/
def applyResult (s : State) (q : CalReq) (r : CalResult) : State :=
  let coef := r.values.filter fun v => v.1 = Obj.CONV_OFFSET ∨ v.1 = Obj.CONV_GAIN
  let s := applyCoefs { s with cal := { s.cal with apply := none } } coef
  let s := if coef.isEmpty then s else noteUnstored s
  let s := applyCal s (r.values.filter fun v => v.1 ≠ Obj.CONV_OFFSET ∧ v.1 ≠ Obj.CONV_GAIN) r.maps
  let codes := (r.maps.filter fun m => m.1 = Obj.VOA_MAP).map fun m => (voaChan m.2.1, be m.2.2 50 2)
  let s := { s with drv := { s.drv with voaCodes := codes.foldl (fun m c => mset m c.1 (min 4095 c.2)) s.drv.voaCodes } }
  let s := if codes.isEmpty then s else mapDue s
  let s := returnBack s false
  raiseA s 0x4041 [.word q.seq, .word (s.obj Obj.CAL_GEN 0)]

def execCalResultApply (s : State) : Host.Outcome State Fault Refusal :=
  finish s <|
    match s.cal.apply with
    | some (q, r) => if s.tick % 256 = 0 then applyResult s q r else s
    | none => s

/-! ### Acceptance, abort (R264, R277) -/

/-- The PENDING result, if one is held. -/
def State.pendingCal (s : State) : Option (CalRun × CalResult) :=
  match s.cal.run with
  | some r => if r.phase = .pending then r.result.map fun x => (r, x) else none
  | none => none

def effCalAccept (v : Int) (s : State) : State × Verdict :=
  match s.pendingCal with
  | none => (s, .nak .state)
  | some (r, x) =>
    if v = 1 then (finishItem s r x, .ack)
    else (endCal s r.req 7 x.quality x.flags, .ack)

def execCalAccept (sess : Nat) (s : State) : Host.Outcome State Fault Refusal :=
  finish s (hostWrite s sess Obj.CAL_ACCEPT 0 1 (effCalAccept 1))

def execCalDiscard (sess : Nat) (s : State) : Host.Outcome State Fault Refusal :=
  finish s (hostWrite s sess Obj.CAL_ACCEPT 0 2 (effCalAccept 2))

def execCalAcceptTimeout (s : State) : Host.Outcome State Fault Refusal :=
  finish s <|
    match s.pendingCal with
    | some (r, x) =>
      if s.elapsed r.since (1000000000 * s.objN Obj.CAL_ACCEPT_TIMEOUT 0) then endCal s r.req 7 x.quality x.flags else s
    | none => s

def effCalAbort (s : State) : State × Verdict := (abortCal { s with cal := { s.cal with queue := [] } } 4, .ack)

def execCalAbort (sess : Nat) (s : State) : Host.Outcome State Fault Refusal :=
  finish s (hostWrite s sess Obj.CAL_ABORT 0 1 effCalAbort)

/-! ### Storage (R280) -/

def effCalStore (s : State) : State × Verdict :=
  if s.flashBusy then (s, .nak .busy)
  else if !s.flashOk then (s, .nak .state)
  else
    let s := startStore { s with cal := { s.cal with unstored := none } } .calibration
    (s, if s.flashBusy then .owe .calStore else .ack)

def execCalStore (sess : Nat) (s : State) : Host.Outcome State Fault Refusal :=
  finish s (hostWrite s sess Obj.CAL_STORE 0 1 effCalStore)

/-- An automatic store, postponed to the first moment flash writes are permitted (R306). -/
def execCalStoreIntervalEnd (s : State) : Host.Outcome State Fault Refusal :=
  finish s <|
    match s.cal.unstored with
    | some t =>
      if s.elapsed t (1000000000 * s.objN Obj.CAL_STORE_INTERVAL 0) then
        autoStore { s with cal := { s.cal with unstored := none } } .calibration
      else s
    | none => s

/-! ### Host writes of calibrated values (R274, R282) -/

/-- Objects of Table 9.8 that CAL_VALUES_APPLY takes. -/
def calValueObjs : List Nat :=
  [Obj.TARGET_BAR, Obj.TARGET_CROSS, Obj.FRINGE_SIGN, Obj.THERMAL_ALPHA, Obj.BAND_TRIM, Obj.TEMPLATE_BAR,
   Obj.TEMPLATE_CROSS] ++
  [Obj.FAST_MAP, Obj.HEATER_MAP, Obj.VOA_MAP, Obj.IN_TAP_REF, Obj.OUT_TAP_REF, Obj.LANE_OFFSET, Obj.LANE_GAIN]

def templateObjs : List Nat := [Obj.TPL_A1, Obj.TPL_A2, Obj.TPL_D1, Obj.TPL_D2]

/-- Whether an apply would leave the two targets of an element 1 unequal (Table 9.8). -/
def State.targetsUnequal (s : State) : Bool :=
  ((s.stagedOf Obj.TARGET_BAR ++ s.stagedOf Obj.TARGET_CROSS).map (·.1)).any fun e =>
    e % 2 == 1 && s.judged Obj.TARGET_BAR e != s.judged Obj.TARGET_CROSS e

/-- CAL_VALUES_APPLY: the values staged up to the next scan boundary are applied there (R278, R472). -/
def effCalValuesApply (s : State) : State × Verdict :=
  if s.targetsUnequal then (s, .nak .range) else ({ s with cal := { s.cal with valuesDue := true } }, .ack)

def execCalValuesApply (sess : Nat) (s : State) : Host.Outcome State Fault Refusal :=
  finish s (hostWrite s sess Obj.CAL_VALUES_APPLY 0 1 effCalValuesApply)

/-- The values and maps staged for a list of objects. -/
def State.stagedVals (s : State) (objs : List Nat) : List (Nat × Nat × Int) :=
  (objs.map fun a => (s.stagedOf a).map fun e => (a, e.1, e.2)).flatten

def State.stagedMaps (s : State) (objs : List Nat) : List (Nat × Nat × List Byte) :=
  (objs.map fun a => (s.stagedOctsOf a).map fun e => (a, e.1, e.2)).flatten

/-- Take the staged values of a list of objects as one application. -/
def takeCal (s : State) (objs : List Nat) : State :=
  let vs := s.stagedVals objs
  let ms := s.stagedMaps objs
  applyCal { s with staged := s.staged.filter fun e => !objs.contains e.1,
                    stagedOcts := s.stagedOcts.filter fun e => !objs.contains e.1 } vs ms

/-- The scan boundary at which an accepted CAL_VALUES_APPLY takes effect. -/
def calValuesScan (s : State) : State :=
  if s.cal.valuesDue then takeCal { s with cal := { s.cal with valuesDue := false } } calValueObjs else s

/-- Whether an apply would leave D1 + D2 above 160 for a template (R274). -/
def State.templatesTooLong (s : State) : Bool :=
  ((s.stagedOf Obj.TPL_D1 ++ s.stagedOf Obj.TPL_D2).map (·.1)).any fun n =>
    decide (160 < s.judged Obj.TPL_D1 n + s.judged Obj.TPL_D2 n)

/-- TEMPLATE_APPLY: the staged template values are in force for the next PREPARE, and every ADAPT_READY is answered
(R275). -/
def effTemplateApply (s : State) : State × Verdict :=
  if s.templatesTooLong then (s, .nak .range)
  else
    let s := takeCal s templateObjs
    ({ s with cal := { s.cal with adapt := mmap (fun _ a => { a with ready := none }) s.cal.adapt, missed := s.adaptLate } }, .ack)

def execTemplateApply (sess : Nat) (s : State) : Host.Outcome State Fault Refusal :=
  finish s (hostWrite s sess Obj.TEMPLATE_APPLY 0 1 effTemplateApply)

end Sys2Proof.Machine
end

