-- ==== Sys2Proof/Machine/StopOps.lean ====
section
/-!
DEFINITION. How the device leaves PARKED and SERVICE for DRAINING, SAFE or FAULT_HOLD (R303, R305, R510, R515, R518,
R519), and how a waiting request of Steady's ring is decided (R293 to R295).
-/

namespace Sys2Proof.Machine

open Sys2Proof

/-! ### Leaving service -/

/-- A calibration run ends when the device leaves PARKED and SERVICE (R264, reason 5). A PENDING result stays. -/
def stopCal (s : State) : State :=
  abortCal s 5

/-- What a device command was still owed is refused when a fault overtakes it (log entry 21). -/
def refuseCommands (s : State) : State :=
  settleOwed (settleOwed (settleOwed s .drain (.nak .state 0 0)) .park (.nak .state 0 0)) .resume (.nak .state 0 0)

/-- The start of an orderly stop at the present instant S (Table 10.6): DRAINING, PREPARED commits and ARMED ones later
than S + STOP_DRAIN abandoned, FAULT_N asserted. A PARK that still waits for its scan boundary is refused. -/
def beginDrain (s : State) : State :=
  let last := s.now + 1000 * s.obj Obj.STOP_DRAIN 0
  let s := (s.enter .draining).fault .thermalStop
  let s := { s with dev := { s.dev with draining := some s.tick, park := none } }
  let s := settleOwed s .park (.nak .state 0 0)
  let s := stopCal s
  let s := refuseAllHeld s
  (s.com.live.filter fun c => c.state == .prepared || (c.state == .armed && decide (last < c.t))).foldl
    (fun s c => abandon s c .deviceState) s

/-- Entry to SAFE (R305, R519): loops OPEN, commits abandoned, the commanded safe transition of R218. -/
def enterSafe (s : State) : State :=
  let s := s.enter .safe
  let s := { s with dev := { s.dev with draining := none, park := none, parkRamp := false, loopsDue := false } }
  safeAll (abandonAll (openAll (stopCal s)))

/-- Entry to FAULT_HOLD for a cause (R515, R517): loops OPEN, commits abandoned, no calibration run proceeds. A device
already there because of REFCLK takes the cause of a hard cut or a rail fault, which nothing but a cold reset ends. -/
def enterHold (s : State) (cause : HoldCause) : State :=
  match s.dev.state with
  | .off => s
  | .faultHold => if s.dev.cause = .refclk then { s with dev := { s.dev with cause := cause } } else s
  | old =>
    let s := { s with dev := { s.dev with cause := cause, heldFrom := old } }
    let s := s.enter .faultHold
    let s := { s with dev := { s.dev with draining := none, park := none, parkRamp := false, loopsDue := false } }
    refuseCommands (abandonAll (openAll (stopCal s)))

/-! ### Waiting requests of the ring -/

/-- The PREPARE or COMMIT that waits with a request. -/
def State.heldFor (s : State) (r : GReq) : Option HeldPrepare :=
  if r.kind = .commit then s.com.held.find? fun h => h.commit.id == r.source else none

def State.dropHeld (s : State) (h : HeldPrepare) : State :=
  { s with com := { s.com with held := s.com.held.erase h } }

/-- A PREPARE held for the host has its grant: it is accepted unless the fault map has overtaken it (R132). -/
def grantPrepare (s : State) (h : HeldPrepare) (r : GReq) : State :=
  if s.revalidates h.commit.portMap h.commit.routes then acceptPrepare (issueGrant s r) h.commit
  else answerCommit s h.sess h.req (.nak .stale 0 h.commit.id)

/-- The end of a held COMMIT, its T in it: armed on the plan found, its grant counted, or refused. The second part says whether the
grant is issued. -/
def armPlanned (s : State) (h : HeldPrepare) (plan : Option (Commit × Option Commit)) : State × Bool :=
  match plan with
  | some (c, d) => (armCommit (s.incSat Obj.GRANTS_ISSUED 0) h.sess h.req c h.commit.t h.commit.peerAbort d, true)
  | none => (answerCommit (s.incSat Obj.GRANTS_REFUSED 0) h.sess h.req (.nak .budget 0 h.commit.id), false)

/-- A held COMMIT that a condition of R115 may refuse. -/
def armUnless (s : State) (h : HeldPrepare) (nak : Option Nak) : State × Bool :=
  match nak with
  | some n => (answerCommit s h.sess h.req (.nak n 0 h.commit.id), true)
  | none => armPlanned s h (s.replan h.commit h.commit.t)

/-- The T of a held COMMIT that carries T = 0 is the earliest from now on; any other stays (R115). -/
def State.heldAtT (s : State) (h : HeldPrepare) : HeldPrepare :=
  if h.immediate then { h with commit := { h.commit with t := s.earliest h.commit.id 130 (s.now + 2000) } } else h

/-- The condition of R115 that a held COMMIT fails at this instant: it may have been armed meanwhile by another. -/
def State.heldNak (s : State) (h : HeldPrepare) : Option Nak :=
  match s.findCommit h.commit.id with
  | some c => if c.state = .prepared then s.commitNak h.commit.id h.commit.t h.immediate else some .unknown
  | none => some .unknown

/-- A COMMIT held for the host has its grant: the conditions of R115 are those of this instant. -/
def grantArm (s : State) (h : HeldPrepare) : State × Bool :=
  let h := s.heldAtT h
  armUnless s h (s.heldNak h)

/-- A request is granted: its requester goes on. The second part is false where a COMMIT's plan no longer fits, which refuses it. -/
def grantReq (s : State) (r : GReq) : State × Bool :=
  match s.heldFor r with
  | some h => if h.arm then grantArm (s.dropHeld h) h else (grantPrepare (s.dropHeld h) h r, true)
  | none => (if r.kind = .commit then s else issueGrant s r, true)

/-- A request is granted, as far as its own conditions still allow: the ring entry shows which. -/
def grantEntry (s : State) (n : Nat) (r : GReq) : State :=
  match grantReq s r with
  | (s, ok) => closeReq s n (if ok then 1 else 2)

/-- A request is refused (R294): NAK BUDGET, the wrap stays pending, the calibration run ends ABORTED. -/
def refuseReq (s : State) (r : GReq) : State :=
  let s := s.incSat Obj.GRANTS_REFUSED 0
  match s.heldFor r with
  | some h => answerCommit (s.dropHeld h) h.sess h.req (.nak .budget 0 h.commit.id)
  | none =>
    match s.cal.run with
    | some c => if r.kind = .calibration ∧ c.req.seq = r.source then abortCal s 6 else s
    | none => s

/-- Whether a host's GRANT keeps R289, R292 and the budget (R294). -/
def State.hostFits (s : State) (r : GReq) : Bool :=
  s.chargeFits r && (decide (r.heater ≤ 0) || (!s.ceiling &&
    decide (s.obj Obj.HEATER_POWER 0 + s.granted + r.heater ≤ 1000 * s.steady.budget)))

/-- Decide one undecided ring entry: `grant` is the host's word, and `fits` what limits a grant. -/
def decideReq (fits : State → GReq → Bool) (grant : Bool) (s : State) (n : Nat) (r : GReq) : State :=
  if grant then
    let (s, ok) := steadyDecides s r.kind.code
    if ok && fits s r then grantEntry (closeReq s n 1) n r else refuseReq (closeReq s n 2) r
  else refuseReq (closeReq s n 2) r

end Sys2Proof.Machine
end

