-- ==== Sys2Proof/Machine/Power.lean ====
section
/-!
DEFINITION. Power arbitration (spec/10_power_thermal.md): releases, the budgets, the host's decisions, the fallback of
arbitration and STEADY_RESET (R288, R290, R293 to R296).
-/

namespace Sys2Proof.Machine

open Sys2Proof

def execGrantRelease (kind : GKind) (source : Nat) (s : State) : Host.Outcome State Fault Refusal :=
  finish s (releaseGrant s kind source)

/-- HEATER_BUDGET or LOOP_RESERVE: in force from the next scan boundary (R290). -/
def effHeaterBudget (reserve : Bool) (v : Int) (s : State) : State × Verdict :=
  let s := s.setObj (if reserve then Obj.LOOP_RESERVE else Obj.HEATER_BUDGET) 0 v
  ({ s with steady := { s.steady with pendingBudget := true, newBudget := s.steady.newBudget || !reserve } }, .ack)

def execHeaterBudget (sess : Nat) (reserve : Bool) (v : Int) (s : State) : Host.Outcome State Fault Refusal :=
  finish s (hostWrite s sess (if reserve then Obj.LOOP_RESERVE else Obj.HEATER_BUDGET) 0 v (effHeaterBudget reserve v))

/-! ### GRANT_DECIDE (R293, R294) -/

/-- The ring entries a GRANT_DECIDE decides, oldest first; none where it names no request it can decide. -/
def State.decided (s : State) (seq : Nat) (through : Bool) : Option (List (Nat × RingReq)) :=
  if s.steady.ring.any fun e => e.2.seq == seq && (through || e.2.state == 0) then
    some (s.undecided.filter fun x => if through then decide (s.reqAge seq ≤ s.reqAge x.2.seq) else x.2.seq == seq)
  else none

def effGrantDecide (seq : Nat) (through grant : Bool) (s : State) : State × Verdict :=
  if !s.hostMode 5 then (s, .nak .state)
  else
    match s.decided seq through with
    | none => (s, .nak .unknown)
    | some l => (refill (l.foldl (fun s e => decideReq State.hostFits grant s e.1 e.2.req) s), .ack)

def execGrantDecideGrant (sess seq : Nat) (through : Bool) (s : State) : Host.Outcome State Fault Refusal :=
  finish s (hostOctets s (.grantDecideGrant sess seq through) sess Obj.GRANT_DECIDE 0 (effGrantDecide seq through true))

def execGrantDecideRefuse (sess seq : Nat) (through : Bool) (s : State) : Host.Outcome State Fault Refusal :=
  finish s (hostOctets s (.grantDecideRefuse sess seq through) sess Obj.GRANT_DECIDE 0 (effGrantDecide seq through false))

/-! ### Fallback (R295) -/

/-- Steady's own decision on a request that waited for the host: a PREPARE or COMMIT at once, a wrap or calibration
through the wait queue. -/
def steadyTakes (s : State) (r : GReq) : State :=
  if r.kind = .commit then
    let (s, ok) := steadyDecides s 1
    if ok && s.reqFits r then (grantReq s r).1 else refuseReq s r
  else (requestGrant s r).1

/-- The same for a request that has a ring entry: a PREPARE or COMMIT is decided as its kind and shown so; a wrap or calibration that
Steady's queue takes stays undecided there, no longer asked of the host. -/
def steadyTakesEntry (s : State) (n : Nat) (r : GReq) : State :=
  if r.kind = .commit then decideReq State.reqFits true s n r
  else (requestGrant (passReq s n) r).1

/-- Every undecided request in ring order, then every request that waits for an entry. -/
def steadyTakesAll (s : State) : State :=
  let overRange := s.steady.overflow
  let s := s.undecided.foldl (fun s e => steadyTakesEntry s e.1 e.2.req) s
  overRange.foldl steadyTakes { s with steady := { s.steady with overflow := [] } }

def State.grantLate (s : State) : Bool := s.undecided.any fun e => decide (e.2.due ≤ s.tick)

/-- GRANT_HOST_DEADLINE passes without a decision (R295): the function falls back, unless a write has put it in hardware mode already,
and Steady decides what is undecided. -/
def fallbackPower (s : State) : State :=
  if s.grantLate then steadyTakesAll (if s.hostMode 5 then fallback s 5 else atModeBoundary s 5) else s

/-! ### STEADY_RESET (R296) -/

/-- The accounting as the limiter outputs give it, and the grants given back in FROZEN no longer held. -/
def rebuildHeat (s : State) : State :=
  let s := s.setObj Obj.HEATER_POWER 0 s.heaterSum
  drawGrants { s with steady := { s.steady with grants := s.steady.grants.filter fun g => !g.released } }

def effSteadyReset (s : State) : State × Verdict :=
  if !s.steady.frozen then (s, .nak .state)
  else
    let cals := s.steady.queue.filter fun r => r.kind == .calibration
    let s := (s.steady.ring.filter fun e => e.2.state == 3).foldl (fun s e => closeReq s e.1 2) s
    let s := { s with steady := { s.steady with frozen := false, queue := [] } }
    let s := (rebuildHeat s).unfault .steady
    let s := cals.foldl (fun s r =>
      match s.cal.run with
      | some c => if c.req.seq = r.source then abortCal s 6 else s
      | none => s) s
    (showSteady (refill s), .ack)

def execSteadyReset (sess : Nat) (s : State) : Host.Outcome State Fault Refusal :=
  finish s (hostWrite s sess Obj.STEADY_RESET 0 1 effSteadyReset)

end Sys2Proof.Machine
end

