-- ==== Sys2Proof/Machine/Thermal.lean ====
section
/-!
DEFINITION. Temperature (spec/10_power_thermal.md): sensors and groups (R298 to R301), the thermal levels and the hard
cut (R302, R303), the orderly stop (R305) and the flash write interlock (R306).
-/

namespace Sys2Proof.Machine

open Sys2Proof

def State.sensor (s : State) (n : Nat) : Sensor := mget {} s.therm.sensors n

def State.setSensor (s : State) (n : Nat) (x : Sensor) : State :=
  { s with therm := { s.therm with sensors := mset s.therm.sensors n x } }

/-- SENSOR_STATE: 0 OK, 1 FAILED, 2 OFF (R300). -/
def State.sensorState (s : State) (n : Nat) : Nat :=
  if 39 ≤ n ∧ (s.sensor n).mode = 0 then 2 else if (s.sensor n).failed then 1 else 0

def junctionSensors : List Nat := List.range 36
def hbmSensors : List Nat := [36, 37]

/-- The largest TEMP of the OK sensors among some (R300); none where none is OK. -/
def State.hottest (s : State) (ns : List Nat) : Option Int :=
  (ns.filter fun n => s.sensorState n == 0).foldl (fun m n =>
    match m with
    | none => some (s.obj Obj.TEMP n)
    | some t => some (max t (s.obj Obj.TEMP n))) none

/-- The temperature a TDX input computes, in 0.01 °C (R299): in DIODE mode from ΔV in nV, with q/(k·ln 10) = 5,039.77818534 K/V; in
NTC mode from R in mΩ. -/
def State.tdxTemp (s : State) (x mode raw : Nat) : Int :=
  if mode = 1 then openRound 299 (503977818534 * raw) (100000000000 * s.obj Obj.TDX_IDEALITY x) - 27315
  else
    let b := 100000000000000 * s.obj Obj.NTC_BETA x
    openRound 299 (29815 * b) (b + 29815 * lnScaled (max 1 raw) (1000 * s.objN Obj.NTC_R25 x)) - 27315

/-- A conversion enters its sensor's means and counts. Those a TDX input makes right after a write of its mode are not
reported. More than 1.7 V between the pair counts as a conversion out of range (R559): in NTC mode a thermistor above 85 kΩ puts it there, in
DIODE mode a reading above 1.7 V in nV stands for it (log entry 204). -/
def takeReading (s : State) (n : Nat) (reading : Int) : State :=
  let x := s.sensor n
  let x := if 39 ≤ n then { x with mode := s.objN Obj.TDX_MODE (n - 39) } else x
  if 39 ≤ n ∧ x.mode = 0 then s.setSensor n { x with unreported := x.unreported - 1 }
  else
    let beyond := decide (39 ≤ n ∧ (if x.mode = 1 then 1700000000 else 85000000) < reading)
    let reading := if 39 ≤ n then s.tdxTemp (n - 39) x.mode reading.toNat else reading
    let out := decide (reading < -4000 ∨ 15000 < reading) || beyond
    let bad := if out then x.bad + 1 else 0
    let good := if out then 0 else x.good + 1
    let failed := if x.failed then decide (good < 64) else decide (8 ≤ bad)
    let last := (reading :: x.last).take 8
    let cut := if n < 38 ∧ s.obj Obj.CUT_LEVEL (if n < 36 then 0 else 1) ≤ reading then x.cutRun + 1 else 0
    let was := x.failed
    let quiet := decide (39 ≤ n ∧ 0 < x.unreported)
    let s := s.setSensor n { x with last := last, bad := bad, good := good, failed := failed, cutRun := cut,
                                    unreported := x.unreported - 1 }
    let s := if quiet then s else s.setObj Obj.TEMP n (openRound 298 (last.foldl (· + ·) 0) (max 1 (last.length : Int)))
    if failed && !was then raiseS s 0x5017 [.word n, .word reading] else s

/-! ### Levels (R302) -/

/-- Threshold of level 1 to 4 of a group. -/
def State.threshold (s : State) (g lv : Nat) : Int :=
  if lv = 1 then s.obj Obj.WARN_LEVEL g else if lv = 2 then s.obj Obj.THROTTLE_LEVEL g
  else if lv = 3 then s.obj Obj.STOP_LEVEL g else s.obj Obj.CUT_LEVEL g

/-- The highest level whose threshold a temperature reaches. -/
def State.levelReached (s : State) (g : Nat) (t : Int) : Nat :=
  if s.threshold g 4 ≤ t then 4 else if s.threshold g 3 ≤ t then 3 else if s.threshold g 2 ≤ t then 2
  else if s.threshold g 1 ≤ t then 1 else 0

/-- The level a group falls back to: it leaves a level once below its threshold by THERMAL_HYST. -/
def State.levelLeft (s : State) (g : Nat) (t : Int) : Nat → Nat
  | 0 => 0
  | lv + 1 => if t < s.threshold g (lv + 1) - s.obj Obj.THERMAL_HYST 0 then s.levelLeft g t lv else lv + 1

/-- The level of a group whose level was `old` and whose temperature is `t`. A group with no OK sensor is at its stop
level (R300). -/
def State.newLevel (s : State) (g old : Nat) (t : Option Int) : Nat :=
  match t with
  | none => 3
  | some t => max (s.levelReached g t) (s.levelLeft g t old)

def thermalOf (m : SMap Nat) : Nat := max (mget 0 m 0) (mget 0 m 1)

/-- The event of a level a group rises to; that of CUT names the site and the reading that brought it there. -/
def levelEvent (s : State) (g lv n : Nat) (reading : Int) : State :=
  let data := [EvItem.word g, .word (s.obj Obj.GROUP_TEMP g)]
  if lv = 1 then raiseS s 0x5010 data else if lv = 2 then raiseS s 0x5011 data
  else if lv = 3 then raiseS s 0x5012 data else raiseS s 0x5013 [.word n, .word reading]

/-- The thermal state follows its groups, and entry to STOP starts the orderly stop (R305). -/
def followThermal (s : State) : State :=
  let was := s.therm.state
  let st := thermalOf s.therm.levels
  let s := ({ s with therm := { s.therm with state := st } }).setObjN Obj.THERMAL_STATE 0 st
  if was < 3 ∧ 3 ≤ st ∧ (s.dev.state = .parked ∨ s.dev.state = .service) then beginDrain s else s

/-- Judge the level of a group after a reading of site n (R302). -/
def judgeGroup (s : State) (g n : Nat) (reading : Int) : State :=
  let t := s.hottest (if g = 0 then junctionSensors else hbmSensors)
  let s := match t with | some t => s.setObj Obj.GROUP_TEMP g t | none => s
  let old := mget 0 s.therm.levels g
  let lv := s.newLevel g old t
  let s := { s with therm := { s.therm with levels := mset s.therm.levels g lv } }
  if old < lv then followThermal (levelEvent s g lv n reading)
  else if lv < old then
    let s := followThermal s
    raiseS s 0x5014 [.word s.therm.state]
  else s

/-! ### Flash interlock (R306) -/

/-- The flash group's temperature: its own sensor, else the junction group's (R300). -/
def State.flashTemp (s : State) : Int :=
  match s.hottest [38] with
  | some t => t
  | none => (s.hottest junctionSensors).getD (s.obj Obj.STOP_LEVEL 0)

def judgeFlash (s : State) : State :=
  let t := s.flashTemp
  if s.therm.flashOk then
    if t < 0 ∨ 9500 < t then
      notePostponed (raiseS { s with therm := { s.therm with flashOk := false, flashInSince := none } } 0x5015 [.word t])
    else s
  else if 200 ≤ t ∧ t ≤ 9300 then
    match s.therm.flashInSince with
    | some _ => s
    | none => { s with therm := { s.therm with flashInSince := some s.tick } }
  else { s with therm := { s.therm with flashInSince := none } }

/-- Flash writes are permitted again after 1 s in range, and the postponed stores begin. -/
def execFlashWritePermitted (s : State) : Host.Outcome State Fault Refusal :=
  finish s <|
    match s.therm.flashInSince with
    | some t =>
      if !s.therm.flashOk && s.elapsed t 1000000000 then
        let s := { s with therm := { s.therm with flashOk := true, flashInSince := none } }
        pageByDevice (pumpStores (raiseS s 0x5016 [.word s.flashTemp]))
      else s
    | none => s

/-! ### The case (R301) -/

/-- The rated case temperatures of the grade (Table 0.1). -/
def State.caseRange (s : State) : Int × Int := if s.obj Obj.GRADE 0 = 0 then (1000, 6000) else (0, 7500)

/-- CASE_TEMP and CASE_IN_RANGE follow a conversion of the case source. -/
def judgeCase (s : State) : State :=
  let n := 38 + s.objN Obj.CASE_SOURCE 0
  let t := s.obj Obj.TEMP n
  let s := s.setObj Obj.CASE_TEMP 0 t
  let (lo, hi) := s.caseRange
  if s.obj Obj.CASE_IN_RANGE 0 = 1 then
    if t < lo ∨ hi < t then raiseS (s.setObj Obj.CASE_IN_RANGE 0 0) 0x5018 [.word t] else s
  else if lo + 100 ≤ t ∧ t ≤ hi - 100 then s.setObj Obj.CASE_IN_RANGE 0 1
  else s

/-- Whether the case has a source, and that source is OK. -/
def State.caseKnown (s : State) : Bool :=
  decide (s.obj Obj.CASE_SOURCE 0 ≠ 0) && s.sensorState (38 + s.objN Obj.CASE_SOURCE 0) == 0

/-- With no case source OK, CASE_IN_RANGE is 1: it goes to 0 anew once a source is OK and shows the case outside its range. -/
def caseRest (s : State) : State :=
  if s.caseKnown || s.obj Obj.CASE_IN_RANGE 0 == 1 then s else s.setObj Obj.CASE_IN_RANGE 0 1

/-- CASE_SOURCE (R301): another source is judged from its latest temperature. -/
def effCaseSource (v : Int) (s : State) : State × Verdict :=
  if v = s.obj Obj.CASE_SOURCE 0 then (s, .ack)
  else
    let s := (s.setObj Obj.CASE_SOURCE 0 v).setObj Obj.CASE_IN_RANGE 0 1
    (if s.caseKnown then judgeCase s else s, .ack)

/-- One conversion of a site. A TDX conversion that is not reported leaves TEMP and with it the case as they are (R299, R301). -/
def tempConversion (s : State) (n : Nat) (reading : Int) : State :=
  if 43 ≤ n then s
  else
    let told := decide ((s.sensor n).unreported = 0)
    let s := takeReading s n reading
    let s := if n < 36 then judgeGroup s 0 n reading else if n < 38 then judgeGroup s 1 n reading else s
    let s := if n ≤ 38 then judgeFlash s else s
    if n < 39 ∨ s.objN Obj.CASE_SOURCE 0 ≠ n - 38 then s
    else if s.sensorState n ≠ 0 then caseRest s
    else if told then judgeCase s else s

def execTempConversion (n : Nat) (reading : Int) (s : State) : Host.Outcome State Fault Refusal :=
  finish s (tempConversion s n reading)

/-- A TDX mode takes effect at the next conversion, and 8 conversions are not reported (R299). -/
def effTdxMode (x : Nat) (v : Int) (s : State) : State × Verdict :=
  let s := s.setObj Obj.TDX_MODE x v
  (caseRest (s.setSensor (39 + x) { s.sensor (39 + x) with unreported := 8 }), .ack)

def execTdxMode (sess x : Nat) (v : Int) (s : State) : Host.Outcome State Fault Refusal :=
  finish s (hostWrite s sess Obj.TDX_MODE x v (effTdxMode x v))

/-! ### Orderly stop and hard cut -/

/-- The orderly stop ends when STOP_DRAIN has passed and the last commit it let through has applied (Table 10.6). -/
def execStopDrainEnd (s : State) : Host.Outcome State Fault Refusal :=
  finish s <|
    match s.dev.draining with
    | some t =>
      if s.dev.state = .draining ∧ s.elapsed t (1000 * s.objN Obj.STOP_DRAIN 0) ∧
          ¬ s.com.live.any fun c => c.state == .armed || c.state == .applying then
        settleOwed (enterSafe s) .drain (.ack [])
      else s
    | none => s

/-- The hard cut (R303): heater lanes at zero current, fast and privileged lanes undriven, HBM in self-refresh. The group of the site
has reached CUT, whose event is raised where it had not been there (log entry 152). -/
def hardCut (s : State) (n : Nat) (reading : Int) : State :=
  let g := if n < 36 then 0 else 1
  let rises := decide (mget 0 s.therm.levels g < 4)
  let s := { s with therm := { s.therm with cutTripped := true, levels := mset s.therm.levels g 4 }
                    drv := { s.drv with heatersOff := true, fastOff := true, privOff := true }
                    mat := { s.mat with hbmState := mset (mset s.mat.hbmState 0 1) 1 1 } }
  let s := (s.setObjN Obj.HBM_STATE 0 1).setObjN Obj.HBM_STATE 1 1
  let s := s.fault .hardCut
  let s := if rises then levelEvent s g 4 n reading else s
  let s := ({ s with therm := { s.therm with state := 4 } }).setObjN Obj.THERMAL_STATE 0 4
  enterHold s .hardCut

/-- The comparator of a junction or HBM site trips on three consecutive conversions at the CUT level, this one being the
third or following it. -/
def execTempHardCut (n : Nat) (reading : Int) (s : State) : Host.Outcome State Fault Refusal :=
  finish s <|
    if n < 38 ∧ s.obj Obj.CUT_LEVEL (if n < 36 then 0 else 1) ≤ reading ∧ 2 ≤ (s.sensor n).cutRun ∧ ¬ s.therm.cutTripped ∧
        s.dev.state ≠ .off then
      hardCut s n reading
    else s

end Sys2Proof.Machine
end

