-- ==== Sys2Proof/Machine/MatOps.lean ====
section
/-!
DEFINITION. What the bus matrix does when an initiator is reset or stops (R494 to R496), and which initiators a lobe owns
(Table 17.1).
-/

namespace Sys2Proof.Machine

open Sys2Proof

/-- The bytes a transaction moves. -/
def reqSize (r : MatReq) : Nat := if r.beats = 1 then r.bytes else 64 * r.beats

/-- The address of a transaction's last byte. -/
def reqEnd (r : MatReq) : Nat := r.addr + (reqSize r - 1)

/-- INIT_ABORTS and INIT_ABORT of an initiator's burst (R495). Cause 1 RESET, 2 TIMEOUT. -/
def abortBurst (s : State) (i t written abandoned cause : Nat) : State :=
  let s := s.incSat Obj.INIT_ABORTS i
  raiseS s 0xA006 [.word i, .word t, .word written, .word abandoned, .word cause]

/-- Release T2 if an initiator holds it. -/
def releaseLock (s : State) (i : Nat) : State :=
  match s.mat.lock with
  | some (j, _) => if j = i then { s with mat := { s.mat with lock := none } } else s
  | none => s

/-- The transactions at an initiator's port. -/
def State.matPort (s : State) (i : Nat) : MatPort := mget {} s.mat.ports i

def State.setMatPort (s : State) (i : Nat) (p : MatPort) : State :=
  { s with mat := { s.mat with ports := mset s.mat.ports i p } }

/-- Whether a transaction is a write burst some of whose beats are still to come. -/
def openBurst (r : MatReq) : Bool := r.write && decide (1 < r.beats ∧ 0 < r.done ∧ r.done < r.beats)

/-- Everything at an initiator's port goes: open bursts are abandoned, data owed is discarded (R495). -/
def clearPort (s : State) (i : Nat) : State := { s with mat := { s.mat with ports := mdel s.mat.ports i } }

/-- Everything of an initiator ends for a cause (R494, R495): each of its open bursts is abandoned and reported, its lock released. -/
def initEnd (s : State) (i cause : Nat) : State :=
  let l := (s.matPort i).out.filter openBurst
  l.foldl (fun s r => abortBurst s i r.target r.done (r.beats - r.done) cause) (clearPort (releaseLock s i) i)

/-- An initiator is reset (R495). -/
def initReset (s : State) (i : Nat) : State := initEnd s i 1

/-- A transaction is answered ERROR; a read returns zeros with it (R485, R493). -/
def answerError (s : State) (i : Nat) (r : MatReq) : State :=
  { s with mat := { s.mat with errors := (i, r, if r.write then [] else List.replicate (reqSize r) 0) :: s.mat.errors } }

/-- The initiators that a per-lobe reset resets (Table 17.5). -/
def lobeInitiators (l : Nat) : List Nat := [l, 2 + l]

/-- Default parking of a target (Table 17.4); while no lobe is ACTIVE, the initiator it last parked on. -/
def State.defaultPark (s : State) (t : Nat) : Nat :=
  if t = 7 then 2 else if t = 8 then 3
  else
    match s.active with
    | some l => if t ≤ 1 then 2 + l else l
    | none => mget (if t ≤ 1 then 2 else 0) s.mat.parked t

/-- The initiator a target parks on (R489). -/
def State.parkOf (s : State) (t : Nat) : Nat :=
  let p := s.objN Obj.PARK_INITIATOR t
  if p = 0xFF then s.defaultPark t else p

/-- Every target takes its parking initiator: at each change of ACTIVE_LOBE. -/
def rePark (s : State) : State :=
  { s with mat := { s.mat with parked := (List.range 11).map fun t => (t, s.parkOf t) } }

/-! ### The connection table -/

/-- Whether the connection table joins an initiator to a target (Table 17.2). -/
def connected (i t : Nat) : Bool :=
  (if t ≤ 1 then [0, 1, 2, 3, 4, 6] else if t = 2 then [0, 1, 2, 3, 4, 5, 6] else if t = 7 then [0, 2, 5]
   else if t = 8 then [1, 3, 5] else [0, 1]).contains i

/-- The region of an HBM address (Table 17.7), as HBM_UE codes it: 0 L, 1 P, 2 C, 3 G, 4 F(A), 5 F(B). -/
def hbmRegion (a : Nat) : Nat :=
  if a < 0x1800000000 then 0 else if a < 0x1C00000000 then 1 else if a < 0x1E00000000 then 2
  else if a < 0x1F00000000 then 3 else if a < 0x1F80000000 then 4 else 5

/-- The stack that holds an HBM address: the two take 4 KiB pages in turn (R497). -/
def stackOf (a : Nat) : Nat := a / 4096 % 2

/-- Whether an initiator may make an access of a kind to an HBM region (Table 17.2). -/
def regionOpen (i region : Nat) (write : Bool) : Bool :=
  if i = 0 then region != 5
  else if i = 1 then region != 4
  else if i = 2 ∨ i = 3 then region == 0 || (region == 2 && !write)
  else if i = 4 then region == 1 || region == 3
  else if i = 6 then region == 2 || region == 4 || region == 5
  else false

/-- Whether the matrix takes a transaction of an initiator (R484, R485): a connected target, a marked region and access kind,
a lock only of T2 (R493), and in HBM the stack that holds the address, all of them for its last byte as well as its first. -/
def reqAllowed (i : Nat) (r : MatReq) : Bool :=
  connected i r.target && ((r.mark != 1 && r.mark != 2) || r.target == 2) &&
    (if r.target ≤ 1 then [r.addr, reqEnd r].all fun a =>
        decide (a < 0x2000000000) && stackOf a == r.target && regionOpen i (hbmRegion a) r.write
     else if r.target = 2 then decide (reqEnd r < 0x4000000) && (i ≠ 4 || !r.write)
     else if r.target = 7 ∨ r.target = 8 then i ≠ 5 || r.write
     else true)

/-! ### Requests at a port (R491, R492) -/

/-- The most transactions an initiator may have outstanding (Table 17.1). -/
def outLimit (i : Nat) : Nat := if i < 4 then 64 else if i < 6 then 32 else 16

/-- Whether a request is held back at its port (R492): the limit is reached, or it would pass an earlier request to the same
target or a FENCE (R491). A FENCE itself waits until all earlier transactions have completed. -/
def MatPort.mustHold (p : MatPort) (i : Nat) (r : MatReq) : Bool :=
  decide (outLimit i ≤ p.out.length) || p.held.any (fun q => q.target == r.target || q.mark == 3) ||
    (r.mark == 3 && !(p.out.isEmpty && p.held.isEmpty))

/-- Held-back requests enter in order as far as they may; a FENCE that enters is complete. -/
def takeIn (i : Nat) : List MatReq → MatPort → MatPort
  | [], p => p
  | r :: t, p =>
    if p.mustHold i r then takeIn i t { p with held := p.held ++ [r] }
    else if r.mark = 3 then takeIn i t p
    else takeIn i t { p with out := p.out ++ [r] }

end Sys2Proof.Machine
end

