-- ==== Sys2Proof/Machine/LobeOps.lean ====
section
/-!
DEFINITION. The lobes' shared operations: roles and what they raise (R310, R311, R339), claims and gates (R312 to R316),
per-lobe resets (R328, R496), yields (R322), snapshots (R329), reconciliation (R326), and what a new ACTIVE lobe does
(R325 to R327, R466, Table 4.6).
-/

namespace Sys2Proof.Machine

open Sys2Proof

/-- Three heartbeat intervals in ticks (R324). -/
def threeIntervals : Nat := 4689

def State.snapOn (s : State) : Bool := s.standby.isSome || s.lobes.each.a.role == .syncing || s.lobes.each.b.role == .syncing

/-! ### Roles -/

/-- What the failed lobe had received and not answered is lost; the host retries it (R466). -/
def loseRequests (s : State) : State :=
  { s with ex := { s.ex with owed := [], groupLane := [],
                             sessions := mmap (fun _ x => { x with objectLane := [], commitLane := [] }) s.ex.sessions }
           com := { s.com with held := [] } }

/-- FAULT_N for a lobe is released once both lobes are ACTIVE or STANDBY (R339). -/
def judgeLobes (s : State) : State :=
  let up := fun (r : Role) => r == .active || r == .standby
  if up s.lobes.each.a.role && up s.lobes.each.b.role then (s.unfault (.lobe 0)).unfault (.lobe 1) else s

/-- Change a lobe's role; LOBE_STATE is raised at every change (R311, R342). An ACTIVE lobe that fails takes what it had not answered with
it, at once: what comes while no lobe is ACTIVE waits for the next one. -/
def setRole (s : State) (l : Nat) (r : Role) : State :=
  let x := s.lobe l
  if x.role = r then s
  else
    let old := x.role
    let s := s.setLobe l { x with role := r, since := s.tick }
    let s := if old = .active then { s with lobes := { s.lobes with lastActive := l } } else s
    let s := if old = .active ∧ r ≠ .standby then loseRequests s else s
    judgeLobes (raise s 0x600B l [.word l, .word old.code, .word r.code])

/-- Whether a lobe may leave OFFLINE (Table 11.2). -/
def State.mayRun (s : State) (l : Nat) : Bool := (s.lobe l).strapHigh && s.obj Obj.LOBE_HOLD_OFFLINE l == 0

/-- A lobe that its pin or LOBE_HOLD_OFFLINE holds OFFLINE asserts FAULT_N no longer (R339). -/
def quietLobe (s : State) (l : Nat) : State :=
  ((s.setLobe l { s.lobe l with linkLost := false }).unfault (.lobe l)).unfault (.linkLost l)

/-- Whether a lobe has no firmware and will have none: its loader found no bank, or it is held OFFLINE before it could (R513). -/
def State.bare (s : State) (l : Nat) : Bool := (s.lobe l).noFirmware || ((s.lobe l).bank.isNone && !s.mayRun l)

/-- Lobe A's loader serves recovery mode when it has found no bank and neither lobe has firmware (R513). -/
def judgeRecovery (s : State) : State :=
  if s.dev.state = .boot ∧ (s.lobe 0).noFirmware ∧ s.bare 1 then s.fault .recovery else s

/-- A lobe goes OFFLINE for a reason of LOBE_OFFLINE: 1 strap, 2 object, 3 diagnosis. -/
def toOffline (s : State) (l reason : Nat) : State :=
  let s := if reason = 3 then s else quietLobe s l
  if (s.lobe l).role = .offline then s
  else
    let s := setRole s l .offline
    let s := s.setLobe l { s.lobe l with claim := 0, claiming := none, retryAt := none, diagnosed := false, offlineDue := false }
    raise s 0x600C l [.word l, .word reason]

/-- A lobe takes a role unless its pin or LOBE_HOLD_OFFLINE holds it OFFLINE, the first row of Table 11.2. -/
def takeRole (s : State) (l : Nat) (r : Role) : State :=
  if s.mayRun l then setRole s l r else toOffline s l (if (s.lobe l).strapHigh then 2 else 1)

/-- A per-lobe reset (R328, R341, R496, R522): the lobe's counter and memories are lost, its initiators are reset, and it
enters DIAGNOSING unless its pin or LOBE_HOLD_OFFLINE holds it. The time both lobes have run the TRIAL bank ends (R531). -/
def resetLobe (s : State) (l : Nat) (trial : Bool) : State :=
  let s := (lobeInitiators l).foldl initReset s
  let s := takeRole s l .diagnosing
  let s := { s with time := { s.time with ctr := s.time.ctr.put l {} }, dev := { s.dev with fwBoth := none } }
  s.setLobe l { s.lobe l with claim := 0, claiming := none, lastHb := none, heardActive := none, noReclaim := false, lostAt := none,
                              bank := none, diagnosed := false, retryAt := none, since := s.tick, cleanScans := 0, copied := none,
                              katPending := false, trialBoot := trial }

/-! ### Firmware roll-back (R530) -/

/-- Begin a roll-back for a cause of FW_UPDATE_FAILED: the boot records are rewritten with the TRIAL bank cleared. -/
def rollBack (s : State) (cause : Nat) : State :=
  if s.dev.fwStage = .idle ∨ s.dev.fwStage = .rollingBack then s
  else
    let s := { s with dev := { s.dev with fwFail := some (s.dev.fwStage.code, cause), fwStage := .rollingBack, fwBoth := none,
                                          boot := some (s.dev.flash.confirmed, none) } }
    autoStore s .bootRecords

/-- Whether a lobe runs the TRIAL bank of an update. -/
def State.runsTrial (s : State) (l : Nat) : Bool :=
  (s.lobe l).trialBoot && (s.lobe l).bank.isSome && (s.lobe l).bank != some s.dev.flash.confirmed

/-! ### Faulty lobes -/

/-- A lobe leaves for DIAGNOSING. FAULT_N is asserted where a cause of Table 11.4 sends it there (R339). -/
def toDiagnosing (s : State) (l : Nat) : State :=
  let s := takeRole s l .diagnosing
  s.setLobe l { s.lobe l with claim := 0, claiming := none, diagnosed := false, retryAt := none, since := s.tick }

/-- A lobe finds itself faulty (R322): an ACTIVE one lowers its claim and sends YIELD; LOBE_YIELDED. -/
def yieldLobe (s : State) (l cause : Nat) : State :=
  let x := s.lobe l
  if x.role ≠ .active ∧ x.role ≠ .standby ∧ x.role ≠ .syncing then s
  else
    let hb : Heartbeat := { lobe := l, role := .diagnosing, claim := 0, epoch := x.seenEpoch, snapSeq := s.lobes.snapSeq,
                            yield := some cause }
    let was := x.role
    let s := s.setLobe l { x with health := 2 ^ (cause - 1) }
    let s := toDiagnosing s l
    let s := if (s.lobe l).role = .diagnosing then s.fault (.lobe l) else s
    let s := if was = .active then
        { s with lobes := { s.lobes with sent := hb :: s.lobes.sent.filter fun h => h.lobe ≠ l } } else s
    let s := raise s 0x600A l [.word l, .word cause]
    if s.runsTrial l then rollBack s 3 else s

/-! ### Snapshots (R329) -/

/-- The path that snapshots, announcements, mirrored writes and digests travel on (R323). -/
def State.linkPath (s : State) : Nat := if (s.lobes.paths.at 0).failed then 1 else 0

/-- LENGTH of a snapshot: 1.5 MiB at most (R329). -/
def snapLength (seq : Nat) : Nat := min 1572864 (Config.snapshotLength seq)

/-- The snapshot items of Table 11.3, captured at the present scan boundary. -/
def State.snapshotNow (s : State) (seq : Nat) : Snapshot :=
  { seq := seq, scan := s.scan, tick := s.tick, path := s.linkPath
    length := snapLength seq, crc := Config.snapshotCrc seq s.scan (snapLength seq) % (u32Max + 1)
    elems := s.loops.elems.map fun e => (e.1, { phiL := e.2.phiL, mean := e.2.mean, offloading := e.2.offloading,
                                                wrap := e.2.wrap, ask := e.2.wrapAsk, phiW := e.2.phiW, theta := e.2.theta })
    attens := s.loops.voas.map fun v => (v.1, v.2.atten)
    eventSeq := s.ex.logSeq
    funcs := s.funcs
    log := s.com.log
    timed := (s.com.live.filter fun c => c.state == .armed).map fun c => (c.id, c.t)
    sessions := s.ex.sessions }

/-- The functions after a takeover (R40): each goes on in the mode it had in the snapshot, with its hold-off state; a request that the
mirrored FUNC_MODE shows and the snapshot's mode does not have waits for its boundary. -/
def restoreFuncs (s : State) (x : Snapshot) : State :=
  (List.range 8).foldl (fun s i =>
    let n := i + 1
    let f := mget ({} : Func) x.funcs n
    let want := s.objN (Obj.FUNC_MODE + i) 0
    s.setFunc n { mode := f.mode, pending := if want = f.mode then none else some want, fellBack := f.fellBack }) s

/-- The sessions after a takeover (R466): transmit SEQs, subscriptions and idle timers as the snapshot has them; a session opened since has
sent nothing the snapshot knows of. What else a session holds was mirrored. -/
def restoreSessions (s : State) (x : Snapshot) : State :=
  let one := fun (y : Session) =>
    match (x.sessions.map (·.2)).find? fun z => z.num == y.num && z.key == y.key && z.ip == y.ip && z.udpPort == y.udpPort with
    | some z => { y with txSeq := z.txSeq, filters := z.filters, lastFrame := z.lastFrame }
    | none => { y with txSeq := 0, filters := [] }
  { s with ex := { s.ex with sessions := mmap (fun _ y => one y) s.ex.sessions, logSeq := max s.ex.logSeq x.eventSeq } }

/-- A snapshot of this very boundary is complete at the partner: the one of a state copy. -/
def fullSnapshot (s : State) : State :=
  let n := s.lobes.snapSeq + 1
  { s with lobes := { s.lobes with snapSeq := n, snap := some (s.snapshotNow n), capture := none, snapLate := false } }

/-- The counter of a lobe is loaded from the ACTIVE lobe's (R429, R336); TIME_COUNTER_RESYNC where they differ. The second
part says whether they did. -/
def loadCounter (s : State) (l : Nat) : State × Bool :=
  match s.active with
  | none => (s, false)
  | some a =>
    let x := s.time.ctr.at a
    let y := s.time.ctr.at l
    if a = l ∨ (x.ns = y.ns ∧ x.frac = y.frac) then (s, false)
    else
      let s := { s with time := { s.time with ctr := s.time.ctr.put l { y with ns := x.ns, frac := x.frac } } }
      (raise s 0x8036 l [.word l, .word (y.ns - x.ns)], true)

/-- Entry to SYNCING (R336): the counter, and with the next scan boundary the full state copy and its snapshot. A lobe that has passed its
diagnosis has no counter fault any more. -/
def toSyncing (s : State) (l : Nat) : State :=
  let s := setRole s l .syncing
  let s := s.setLobe l { s.lobe l with cleanScans := 0, copied := none, since := s.tick, claiming := none }
  let s := (loadCounter s l).1
  { s with time := { s.time with ctr := s.time.ctr.put l { s.time.ctr.at l with fault := false } } }

/-- The scan boundary of a lobe in SYNCING that has no state copy yet (R336): the copy and the snapshot of that boundary. Until the device
leaves BOOT and SELFTEST, SYNCING has not begun to count: Table 18.2 counts it from the entry to PARKED (DEDUCED, log entry 200). -/
def syncLobe (s : State) (l : Nat) : State :=
  let x := s.lobe l
  if x.role ≠ .syncing ∨ x.copied.isSome ∨ s.active.isNone then s
  else if s.dev.state = .boot ∨ s.dev.state = .selftest then s.setLobe l { x with since := s.tick }
  else (fullSnapshot s).setLobe l { x with copied := some s.scan }

def syncScan (s : State) : State := syncLobe (syncLobe s 0) 1

/-! ### Claims and gates -/

/-- The claim summary: smallest and largest HIGHEST over all gates (R314). -/
def State.gateMax (s : State) : Nat := (s.lobes.gateStuck ++ s.lobes.gateHigh).foldl (fun m g => max m g.2) s.lobes.gateBase
def State.gateMin (s : State) : Nat := s.lobes.gateStuck.foldl (fun m g => min m g.2) s.lobes.gateBase

/-- A lobe reads the summary: CLAIM_MAX, CLAIM_MIN, and the highest epoch it has seen. -/
def readSummary (s : State) (l : Nat) : State :=
  let s := (s.setObjN Obj.CLAIM_MAX 0 s.gateMax).setObjN Obj.CLAIM_MIN 0 s.gateMin
  s.setLobe l { s.lobe l with seenEpoch := max (s.lobe l).seenEpoch (s.gateMax / 2) }

/-- A lobe takes a new claim: the epoch one above the highest it has seen (R316). `cause` as in LAST_FAILOVER_CAUSE, 0 at
start-up. -/
def takeClaim (s : State) (l cause : Nat) : State :=
  let x := s.lobe l
  let e := x.seenEpoch + 1
  s.setLobe l { x with claim := claimOf e l, seenEpoch := e, claiming := some (cause, s.tick) }

/-- The lobe out of control while both paths are silent (R324). -/
def linkLost (s : State) (l : Nat) : State :=
  if (s.lobe l).linkLost then s
  else
    let s := (s.setLobe l { s.lobe l with linkLost := true }).fault (.linkLost l)
    raise s 0x600D l [.word l]

/-- Whether a lobe has a claim of its own that it made within the last three intervals. -/
def State.claimsNow (s : State) (l : Nat) : Bool :=
  match (s.lobe l).claiming with
  | some (_, t) => decide (s.tick ≤ t + threeIntervals)
  | none => false

/-- Whether a lobe lost a claim of its own to one of the same interval within the last three intervals (R332). -/
def State.lostNow (s : State) (l : Nat) : Bool := (s.lobe l).lostAt.any fun t => decide (s.tick ≤ t + threeIntervals)

/-- A lobe learns that a higher claim has won (R315, R332): it lowers its own to 0 (R316). Where it had claimed in the same interval it
raises SPLIT_RESOLVED. It does not claim again on peer loss until the peer's heartbeats have come for 1 ms (R324). A lobe that had passed
its diagnosis enters SYNCING (R337). -/
def loseClaim (s : State) (l : Nat) : State :=
  let x := s.lobe l
  let split := s.claimsNow l
  let onLoss := match x.claiming with | some (c, _) => decide (c ≠ 0) | none => false
  let s := s.setLobe l { x with claim := 0, claiming := none, noReclaim := x.noReclaim || (split && onLoss)
                                lostAt := if split then some s.tick else x.lostAt }
  let s := if x.role = .active then loseRequests (takeRole s l .standby) else if x.role = .diagnosing ∧ x.diagnosed then toSyncing s l else s
  if split then
    let s := raise s 0x6002 l [.word (1 - s.gateMax % 2), .word s.gateMax]
    if onLoss && (s.lobe l).lastHb.isNone then linkLost s l else s
  else s

/-- A claim broadcast reaches every gate that works (R313, R314). One that raises no gate leaves what is known of the latest that did. -/
def broadcast (s : State) (l : Nat) : State :=
  let c := (s.lobe l).claim
  let s := if s.lobes.gateBase < c then
      { s with lobes := { s.lobes with gatePrev := s.lobes.gateBase, gateBase := c, gateAt := s.tick
                                       gateHigh := s.lobes.gateHigh.filter fun g => decide (c < g.2) } }
    else s
  readSummary s l

/-- A peer is declared lost (R324): the lobe claims, or, having lost such a claim, stays out of control. A lobe that claims already
goes on with that claim: the peer's YIELD comes on both paths. -/
def declareLost (s : State) (l cause : Nat) : State :=
  let x := s.lobe l
  if (x.role = .active ∨ x.role = .standby ∨ x.role = .syncing) ∧ x.claiming = none then
    let s := s.setLobe l { x with lastHb := none }
    if x.noReclaim then linkLost s l else takeClaim s l cause
  else s

/-! ### Reconciliation (R326) -/

/-- The trimmer phase at its limiter target: the smallest whose code is at least the target. -/
def State.thetaNow (s : State) (e : Nat) : Int :=
  let c := s.chan (trimmer e)
  (s.heaterMap e).inv (heaterUncode c.span c.target)

/-- The rule of R326 for one looped element, from the last complete snapshot. -/
def State.reconciled (s : State) (e : Nat) (y : Elem) (p : SnapElem) : Elem :=
  let read := s.phaseNow e
  let th := s.thetaNow e
  let w := p.wrap.map fun w => { w with hCmd := th }
  let phiW := match w with | some w => w.jumps - (w.hModel - w.hStart) | none => 0
  let r := read - y.phiC - phiW
  let k : Int := if 16384 < r - p.phiL then 32768 else if r - p.phiL < -16384 then -32768 else 0
  let w := w.map fun w => { w with jumps := w.jumps + k }
  let phiW := phiW + k
  { y with phiL := read - y.phiC - phiW, phiW := phiW, theta := th, mean := p.mean, offloading := p.offloading,
           wrap := w, wrapAsk := p.ask }

/-- Whether the loop of an element is running: neither OPEN nor DISABLED. -/
def Elem.isLooped (y : Elem) : Bool := y.state != .opened && y.state != .disabled

/-- Requests and grants of wraps that no element waits for or runs any more are given back. -/
def dropIdleWraps (s : State) : State :=
  let idle := fun e => (s.elem e).wrap.isNone && (s.elem e).wrapAsk.isNone
  let s := ((s.wrapEntries.map Prod.fst).filter idle).foldl (fun s e => withdraw s .wrap e) s
  (s.steady.grants.filter fun g => g.kind == .wrap && !g.released && idle g.source).foldl (fun s g => releaseGrant s .wrap g.source) s

/-- The new ACTIVE lobe's elements take over the wrap requests that Steady holds for those of the old one (R297): an element
without a wrap of its own waits for the one Steady has been asked for or has granted. -/
def adoptWraps (s : State) : State :=
  let held := (s.steady.grants.filter fun g => g.kind == .wrap && !g.released).map fun g => (g.source, g.dir)
  (held ++ s.wrapEntries).foldl (fun s e =>
    let x := s.elem e.1
    if x.wrap.isNone then s.setElem e.1 { x with wrapAsk := some e.2 } else s) s

/-- Reconciliation of all elements and VOAs by a lobe that takes over from STANDBY; RECONCILED counts the elements whose φl
moved by more than STEP. -/
def reconcileAll (s : State) (snap : Snapshot) : State :=
  let todo := s.loops.elems.filterMap fun e =>
    if e.2.isLooped then
      let p := mget ({} : SnapElem) snap.elems e.1
      some (e.1, s.reconciled e.1 e.2 p, p.phiL)
    else none
  let n := (todo.filter fun x => decide (s.law Obj.STEP 0 < ((x.2.1.phiL - x.2.2).natAbs : Int))).length
  let s := todo.foldl (fun s x => s.setElem x.1 x.2.1) s
  let s := s.loops.voas.foldl (fun s v => s.setVoa v.1 { v.2 with atten := s.voaAttenNow v.1 }) s
  dropIdleWraps (adoptWraps (s.setObjN Obj.RECONCILED 0 n))

/-- A lobe with no reliable loop state (R326, last paragraph): ACQUIRE and LOCKED from the read-back codes. -/
def restartLoops (s : State) : State :=
  let s := s.loops.elems.foldl (fun s e =>
    if e.2.isLooped then
      let s := if e.2.wrap.isSome then releaseGrant s .wrap e.1 else s
      let s := s.setElem e.1 { e.2.endWrap (s.thetaNow e.1) with wrapAsk := none }
      reacquire s e.1
    else s) s
  let s := s.loops.voas.foldl (fun s v =>
    s.setVoa v.1 { v.2 with atten := s.voaAttenNow v.1, state := if v.2.state = .disabled then .disabled else .locked }) s
  dropIdleWraps (adoptWraps (s.setObjN Obj.RECONCILED 0 0))

/-! ### What a takeover loses and settles (R327) -/

/-- A write-back cut short has written some first pages of the merged slot, how many is free, and `beats` beats of the next, free where
nothing tells them (R99, R495). The new ACTIVE lobe then checks the slot's CRC. -/
def cutWriteBack (s : State) (beats : Option Nat) : State :=
  match s.lib.writing with
  | none => s
  | some l =>
    let m := (mergeLatch s l).slotRead l.slot 0 slotBytes
    let (k, s) := s.fresh
    let k := min slotBytes (4096 * (k % 96) + 64 * beats.getD (k / 96 % 64))
    let old := s.slotRead l.slot 0 slotBytes
    let s := { s with lib := { s.lib with writing := none } }
    let s := s.slotWrite l.slot 0 ((m.take k).take 0x1C ++ (old.drop (min k 0x1C)).take (0x20 - min k 0x1C) ++
      (if k ≤ 0x20 then old.drop 0x20 else (m.take k).drop 0x20 ++ old.drop k))
    if s.slotField l.slot 0x1C 4 = s.slotCrc l.slot then s.setSlot l.slot .valid else invalidate s l.slot 3

/-- What only the failed lobe held is lost: calibration, refinement, a route request, and requests it had not answered
(R91, R99, R264, R327, R466). -/
def loseLocal (s : State) : State :=
  let s := abortCal s 2
  let s := returnBack s true
  let adapt := (s.cal.adapt.filter fun a => a.2.ready.isSome).map fun a => (a.1, { a.2 with acc := 0, cnt := 0 })
  let s := { s with cal := { s.cal with queue := [], run := none, apply := none, adapt := adapt } }
  let s := { s with lib := { s.lib with queue := [], bufs := [] } }
  let s := cutWriteBack s none
  match s.lib.route with
  | some r =>
    let s := (s.dropLoads fun l => l.slot != r.slot).setSlot r.slot .empty
    endRoute s r.slot 5 ((s.tick - r.start) * 32 / 5000)
  | none => s

/-- A new ACTIVE lobe keeps clear of every SEQ the old one sent (R466). -/
def advanceSeqs (s : State) : State :=
  let s := { s with ex := { s.ex with
    sessions := mmap (fun _ x => { x with txSeq := x.txSeq + 1048576 }) s.ex.sessions
    groupCounter := min u32Max (s.ex.groupCounter + 1048576) } }
  closeSpent (noteGroupSeq s)

/-- Every host deadline runs afresh (R40). -/
def freshDeadlines (s : State) : State :=
  let due := s.tick + s.objN Obj.GRANT_HOST_DEADLINE 0 * 625 / 4
  let answer := s.tick + s.objN Obj.TEMPLATE_HOST_DEADLINE 0 * 156250
  { s with loops := { s.loops with hostLast := s.tick }
           cal := { s.cal with missed := false, adapt := mmap (fun _ a => { a with ready := a.ready.map fun _ => answer }) s.cal.adapt }
           steady := { s.steady with ring := mmap (fun _ r => if r.state = 0 then { r with due := due } else r) s.steady.ring }
           time := { s.time with rateDeadline := s.time.rateDeadline.map fun _ => s.tick + s.objN Obj.SERVO_HOST_DEADLINE 0 * 156250 }
           net := { s.net with heldMissed := false, held := s.net.held.map fun h => { h with due := s.tick + s.objN Obj.CLASS_HOST_DEADLINE 0 * 625 / 4 } }
           sorus := { s.sorus with bufs := mmap (fun _ b => { b with segs := b.segs.map fun g =>
             { g with readyAt := g.readyAt.map fun _ => s.tick } }) s.sorus.bufs } }

/-- A commit found APPLYING is completed (R131): elements caught inside a template take their final code, waves not begun
follow from the first tick, COMMIT_RESUMED. The waves it counts as completed after the takeover are those not yet begun, not one
caught inside its template (DESIGN CHOICE, log entry 17). Every looped element it changes ends at φl = 0 (R154). -/
def resumeCommit (s : State) (c : Commit) : State :=
  let s := (c.elems.filter fun q => q.2.wave.isSome && (s.elem q.1).isLooped).foldl (fun s q =>
    s.setElem q.1 { s.elem q.1 with phiL := 0 }) s
  let r := c.elems.foldl (fun (p : State × SMap StagedElem) q =>
    if q.2.began.isSome then (writePhase p.1 q.1 q.2 3, p.2 ++ [(q.1, { q.2 with templPhase := 3 })])
    else (p.1, p.2 ++ [q])) (s, [])
  let c := ({ c with elems := r.2, tTick := s.tick + 1 - c.nextWave * c.spacing }).flag 2
  raiseA (r.1.stepCommit c) 0x2022 [.word c.id, .word (c.waves - c.nextWave)]

/-- The scan boundary of a new ACTIVE lobe's first writes (Table 11.5): the next from the takeover on. -/
def State.firstWrites (s : State) : Nat := (s.tick + 255) / 256 * 256

/-- An ARMED commit at a fail-over: its T is still to come, has passed by LATE_LIMIT or less, or by more (Table 4.6). Lateness
is measured from the instant of the new ACTIVE lobe's first writes (R327). -/
def settleArmed (s : State) (c : Commit) : State :=
  let late := s.now + ((32 * (s.firstWrites - s.tick) / 5 : Nat) : Int) - c.t
  if s.now < c.t ∨ late ≤ 0 then s
  else if late ≤ 1000 * s.obj Obj.LATE_LIMIT 0 then raiseA (applyCommit s (c.flag 1)) 0x2023 [.word c.id, .word late]
  else abandon s c .late

/-- The commits at a fail-over (Table 4.6), the ARMED ones in order of T (R116). -/
def settleCommits (s : State) : State :=
  let armed := s.armedQueue
  let s := s.com.live.foldl (fun s c =>
    match c.state with
    | .prepared => abandon s c .failover
    | .applying => resumeCommit s c
    | _ => s) s
  armed.foldl settleArmed s

/-! ### Becoming ACTIVE -/

/-- A lobe becomes ACTIVE: events kept for it are raised, FAULT_N is held from power-up no longer (R552), the matrix parks
anew. -/
def becomeActive (s : State) (l : Nat) : State :=
  let s := setRole s l .active
  let s := s.setLobe l { s.lobe l with claiming := none, noReclaim := false }
  let s := { s with lobes := { s.lobes with lastActive := l, lastTakeover := s.tick, lastCapture := some s.tick, swapDue := none,
                                            handover := none, final := none } }
  rePark (flushDeferred (s.unfault .safeLoad))

/-- Held-output time in ns: from the last accepted write to the first of the new ACTIVE lobe, at a given tick (R325, R334). -/
def State.heldNs (s : State) (first : Nat) : Nat := (first - s.lobes.lastWrite) * 32 / 5

/-- LAST_FAILOVER, its cause and LAST_HOLD. -/
def noteTakeover (s : State) (cause hold : Nat) : State :=
  let s := (s.setObj Obj.LAST_FAILOVER 0 s.now).setObjN Obj.LAST_FAILOVER_CAUSE 0 cause
  (s.setObjN Obj.LAST_HOLD 0 hold).setObj Obj.LAST_SWAP 0 s.now

/-- What a roll-back ends with once no lobe runs the TRIAL bank: FW_UPDATE_FAILED with its stage and cause (R530). -/
def endRollBack (s : State) : State :=
  match s.dev.fwFail with
  | some (stage, cause) =>
    if s.dev.fwStage = .rollingBack ∧ s.dev.boot = none ∧ ¬ s.runsTrial 0 ∧ ¬ s.runsTrial 1 then
      raiseA { s with dev := { s.dev with fwStage := .idle, fwFail := none } } 0x100A [.word stage, .word cause]
    else s
  | none => s

/-- The failed lobe is reset, FAULT_N asserted while it is in DIAGNOSING because of it (R328, R339), or a lobe that had claimed too
learns that it lost (R332). -/
def dealWithOther (s : State) (o : Nat) : State :=
  if s.claimsNow o then loseClaim s o
  else if (s.lobe o).role = .offline ∨ (s.lobe o).role ≠ .active ∧ s.lostNow o then s
  else
    let s := resetLobe s o false
    if (s.lobe o).role = .diagnosing then s.fault (.lobe o) else s

/-- A takeover after peer loss or yield by a lobe in STANDBY or SYNCING (R325 to R328). -/
def takeOver (s : State) (l cause : Nat) : State :=
  let hold := s.heldNs s.firstWrites
  let fromSync := decide ((s.lobe l).role = .syncing)
  let s := dealWithOther s (1 - l)
  let s := becomeActive s l
  let seq := match s.lobes.snap with | some x => x.seq | none => 0
  let s := match s.lobes.snap with
    | some x => restoreSessions (restoreFuncs (if fromSync then restartLoops s else reconcileAll s x) x) x
    | none => restartLoops s
  let s := freshDeadlines (loseLocal s)
  let s := settleCommits (advanceSeqs s)
  let s := noteTakeover (s.incSat Obj.FAILOVERS 0) cause hold
  endRollBack (raiseA s 0x6001 [.word l, .word cause, .word hold, .word seq])

/-- A lobe that entered SYNCING while no lobe was ACTIVE gets its state copy from the one that is now (R336, R337). -/
def copyToSyncing (s : State) (o : Nat) : State := if (s.lobe o).role = .syncing then toSyncing s o else s

/-- An ACTIVE lobe that has won its claim on the loss of its peer goes on; the lost lobe is reset and enters DIAGNOSING, which LOBE_STATE
reports (R328, R340). -/
def peerGone (s : State) (l : Nat) : State :=
  let s := s.setLobe l { s.lobe l with claiming := none }
  if (s.lobe (1 - l)).role = .diagnosing then s else dealWithOther s (1 - l)

/-- Both lobes were lost: what only they held is gone (Table 4.6, R466, R519). -/
def loseBoth (s : State) : State :=
  let s := loseLocal (loseRequests s)
  { s with com := { s.com with live := [], log := [], head := 0, logged := 0 }
           cal := { s.cal with adapt := [] }
           ex := { s.ex with sessions := [] }
           loops := { s.loops with elems := mmap (fun _ y =>
               { y with state := if y.state = .disabled then .disabled else .opened, wrap := none, stallRaised := false, wrapAsk := none }) s.loops.elems
                                   voas := mmap (fun _ v =>
               { v with state := if v.state = .disabled then .disabled else .opened }) s.loops.voas } }

/-- A lobe whose claim wins with no predecessor state (R337, R519): the first after power-up leads to SELFTEST; later ones
put the device in SAFE with FAULT_N asserted. -/
def startFirst (s : State) (l : Nat) : State :=
  let s := if (s.lobe (1 - l)).role = .active then dealWithOther s (1 - l) else s
  let s := becomeActive s l
  match s.dev.state with
  | .boot => s.enter .selftest
  | .parked | .service | .draining => enterSafe ((advanceSeqs (loseBoth s)).fault .noPredecessor)
  | .safe => safeAll ((advanceSeqs (loseBoth s)).fault .noPredecessor)
  | _ => advanceSeqs (loseBoth s)

/-- A planned swap at a scan boundary (R334): the partner's claim, the roles, reconciliation from the final snapshot. The old lobe lowers
its claim to 0 (R316). ROLE_SWAPPED follows with the new lobe's first snapshot. -/
def swapRoles (s : State) (forced : Bool) : State :=
  match s.active, s.standby with
  | some a, some b =>
    let hold := s.heldNs (s.tick + 256)
    let s := broadcast (takeClaim s b 4) b
    let s := setRole s a .standby
    let s := s.setLobe a { s.lobe a with claim := 0, claiming := none }
    let s := becomeActive s b
    let s := match s.lobes.snap with | some x => restoreSessions (reconcileAll s x) x | none => s
    let s := if forced then loseLocal s else s
    let s := noteTakeover (advanceSeqs s) 4 hold
    { s with lobes := { s.lobes with swapped := some (b, (s.lobe b).claim) } }
  | _, _ => s

end Sys2Proof.Machine
end

