-- ==== Sys2Proof/Machine/Lobes.lean ====
section
/-!
DEFINITION. The commands of the lobes (spec/11_lobes.md): heartbeats, claims, takeover, yields, cross-comparison,
diagnosis, snapshots, resynchronisation, role swaps and service disables.
-/

namespace Sys2Proof.Machine

open Sys2Proof

/-! ### Heartbeats (R323, R324) -/

/-- The first condition of R333 that fails, in list order, or none. -/
def State.swapBar (s : State) : Option Nat :=
  let partner := match s.standby with
    | some b => s.elapsed (s.lobe b).since 1000000000
    | none => false
  let fresh := match s.lobes.snap with | some x => !s.elapsed x.tick 2000001 | none => false
  let guard := s.now + 1000 * s.obj Obj.SWAP_GUARD 0
  if s.dev.state ≠ .parked ∧ s.dev.state ≠ .service then some 1
  else if !(partner && fresh) then some 2
  else if s.commitMoving || s.com.live.any (fun c => c.state == .armed && decide (c.t ≤ guard)) then some 3
  else if !s.cal.queue.isEmpty || s.cal.run.isSome then some 4
  else if !s.lib.queue.isEmpty || !s.lib.bufs.isEmpty then some 5
  else if s.lib.route.isSome then some 6
  else none

/-- A lobe that an object write holds OFFLINE once control has left it (R338). -/
def State.leaving (s : State) : Bool := match s.active with | some a => (s.lobe a).offlineDue | none => false

/-- Whether a swap may begin or go on: due with every condition of R333, or for LOBE_HOLD_OFFLINE without them (R338). -/
def State.maySwap (s : State) : Bool := s.standby.isSome && (s.leaving || (s.lobes.swapDue.isSome && s.swapBar.isNone))

/-- Whether the final snapshot of a swap is complete at the partner (Table 11.7). -/
def State.finalDone (s : State) : Bool :=
  s.lobes.final.any fun f => s.lobes.snap.any (fun x => x.seq == f.1) && decide (s.scan ≤ f.2 + 256)

/-- What a lobe's heartbeat says now. An ACTIVE lobe whose final snapshot is complete names the coming scan boundary in HANDOVER
(R334). -/
def State.heartbeatOf (s : State) (l : Nat) : Heartbeat :=
  let x := s.lobe l
  let go := decide (x.role = .active) && s.finalDone
  { lobe := l, role := x.role, claim := x.claim, epoch := x.seenEpoch, snapSeq := s.lobes.snapSeq,
    handover := if go then some (s.scan + 1) else none }

/-- Whether a lobe's next heartbeat is due: one every 1,563 ticks (R323). -/
def State.hbDue (s : State) (l : Nat) : Bool :=
  (s.lobe l).role != .offline && (match (s.lobe l).hbAt with | some t => decide (t + 1563 ≤ s.tick) | none => true)

/-- Each running lobe sends its heartbeat on both paths. -/
def execHeartbeatSend (l : Nat) (s : State) : Host.Outcome State Fault Refusal :=
  finish s <|
    if l < 2 ∧ s.hbDue l then
      let s' := s.setLobe l { s.lobe l with hbAt := some s.tick }
      { s' with lobes := { s'.lobes with sent := s.heartbeatOf l :: s.lobes.sent.filter fun h => h.lobe ≠ l } }
    else s

def State.hbPath (s : State) (q : Nat) : HbPath := s.lobes.paths.at q

def State.setHbPath (s : State) (q : Nat) (p : HbPath) : State :=
  { s with lobes := { s.lobes with paths := s.lobes.paths.put q p } }

/-- Two heartbeat intervals in ticks: a longer gap breaks a run of heartbeats. -/
def hbGap : Nat := 3126

/-- Whether lobe l has received valid heartbeats on a path for 100 intervals without a break since it became FAILED (R323). -/
def State.hbWhole (s : State) (q l : Nat) : Bool :=
  let p := s.hbPath q
  let x := p.rx.at l
  decide (s.tick < x.last + hbGap) && decide (max x.since p.failedAt + 100 * 1563 ≤ s.tick)

/-- A valid heartbeat reaches a lobe on a path: missed intervals are counted, and after 100 intervals without a break, at the other lobe
too if it runs, a FAILED path is OK again. -/
def hbOnPath (s : State) (l q : Nat) : State :=
  let p := s.hbPath q
  let x := p.rx.at l
  let gap := s.tick - x.last
  let missed := if x.last = 0 then 0 else (gap + 781) / 1563 - 1 - x.miss
  let since := if gap < hbGap then x.since else s.tick
  let s := s.setHbPath q { p with rx := p.rx.put l { last := s.tick, since := since, miss := 0 } }
  let s := s.incSat Obj.HB_MISSES q missed
  if p.failed ∧ s.hbWhole q l ∧ ((s.lobe (1 - l)).role = .offline ∨ s.hbWhole q (1 - l)) then
    raise (s.setHbPath q { s.hbPath q with failed := false }) 0x6006 l [.word q]
  else s

/-- Since when valid heartbeats have come without a break, on either path. -/
def State.hbSince (s : State) (l : Nat) : Nat :=
  let a := s.lobes.paths.a.rx.at l
  let b := s.lobes.paths.b.rx.at l
  if s.tick < a.last + hbGap then (if s.tick < b.last + hbGap then min a.since b.since else a.since) else b.since

/-- A fault of a lobe's time counter (R428): the lobe finds itself faulty. -/
def counterFault (s : State) (l : Nat) : State :=
  yieldLobe { s with time := { s.time with ctr := s.time.ctr.put l { s.time.ctr.at l with fault := true } } } l 5

/-- The counters are compared at every heartbeat on path 0 (R429): a difference is mended at the next scan boundary, and the third within an
hour is a fault of the counter that is not the ACTIVE lobe's. -/
def compareCounters (s : State) : State :=
  let a := s.time.ctr.a
  let b := s.time.ctr.b
  match s.active with
  | some l =>
    if (a.ns ≠ b.ns ∨ a.frac ≠ b.frac) ∧ (s.lobe (1 - l)).role ≠ .offline ∧ ¬ s.time.resyncDue then
      let old := s.time.resyncs.filter fun r => !s.elapsed r.2 3600000000000
      let s := { s with time := { s.time with resyncDue := true, resyncs := (1 - l, s.tick) :: old } }
      if 2 ≤ (old.filter fun r => r.1 == 1 - l).length then counterFault s (1 - l) else s
    else s
  | none => s

/-- Whether a lobe has passed its diagnosis and neither claims nor has heard an ACTIVE lobe (Table 11.2). -/
def Lobe.waitsDiagnosed (x : Lobe) : Bool := x.role == .diagnosing && x.diagnosed && x.claiming.isNone

/-- Whether a lobe has received an ACTIVE heartbeat within the last 3 intervals (R337). -/
def State.hearsActive (s : State) (l : Nat) : Bool :=
  (s.lobe l).heardActive.any fun t => decide (s.tick < t + threeIntervals)

/-- Whether a YIELD tells an ACTIVE lobe of a loss it has dealt with: the second path brings it after the takeover (R324). -/
def State.oldYield (s : State) (l : Nat) (hb : Heartbeat) : Bool :=
  (s.lobe l).role == .active && decide (hb.epoch < (s.lobe l).seenEpoch)

/-- Whether a lobe that has passed its diagnosis claims: no ACTIVE heartbeat for 3 intervals (R337). -/
def State.claimsFirst (s : State) (l : Nat) : Bool :=
  !s.hearsActive l && decide ((s.lobe l).since + threeIntervals ≤ s.tick)

/-- A valid heartbeat is dealt with: loss, epoch and link on either path, the counters by path 0 (R429). -/
def hbReceive (s : State) (l q : Nat) (hb : Heartbeat) : State :=
  let s := hbOnPath s l q
  let x := s.lobe l
  let s := s.setLobe l { x with lastHb := some s.tick, seenEpoch := max x.seenEpoch (max hb.epoch (hb.claim / 2)),
                                heardActive := if hb.role = .active then some s.tick else x.heardActive }
  let s := (s.setLobe l { s.lobe l with linkLost := false }).unfault (.linkLost l)
  let s := if s.hbSince l + 156250 ≤ s.tick then s.setLobe l { s.lobe l with noReclaim := false } else s
  let s := if q = 0 then compareCounters s else s
  let s := match hb.yield with | some _ => if s.oldYield l hb then s else declareLost s l 2 | none => s
  let s := if hb.role = .active ∧ (s.lobe l).waitsDiagnosed ∧ s.active.isSome then toSyncing s l else s
  match hb.handover with
  | some h => if (s.lobe l).role = .standby then { s with lobes := { s.lobes with handover := some h } } else s
  | none => s

/-- A heartbeat with a wrong CRC, one on path 1 whose mailbox has an uncorrectable error (R502), or one that claims to come from the receiving lobe, is not valid. -/
def execHeartbeatReceive (l path : Nat) (hb : Heartbeat) (crcOk : Bool) (s : State) : Host.Outcome State Fault Refusal :=
  finish s (if path = 1 ∧ s.mat.mailBad then { s with mat := { s.mat with mailBad := false } }
    else if l < 2 ∧ path < 2 ∧ crcOk ∧ hb.lobe = 1 - l ∧ (s.lobe l).role ≠ .offline then hbReceive s l path hb else s)

/-- Whether path q has been silent at lobe l for 3 intervals while the other path delivers. -/
def State.pathSilent (s : State) (q l : Nat) : Bool :=
  (s.lobe l).role != .offline && decide (((s.hbPath q).rx.at l).last + threeIntervals ≤ s.tick) &&
    decide (s.tick < ((s.hbPath (1 - q)).rx.at l).last + threeIntervals)

def execHbPathFailed (q : Nat) (s : State) : Host.Outcome State Fault Refusal :=
  finish s <|
    if q < 2 ∧ ¬ (s.hbPath q).failed ∧ (s.pathSilent q 0 ∨ s.pathSilent q 1) then
      let l := if s.pathSilent q 0 then 0 else 1
      let p := s.hbPath q
      let x := p.rx.at l
      let n := (s.tick - x.last) / 1563
      let s := s.setHbPath q { p with failed := true, failedAt := s.tick, rx := p.rx.put l { x with miss := n } }
      raise (s.incSat Obj.HB_MISSES q (n - x.miss)) 0x6005 l [.word q]
    else s

/-- Three intervals with no valid heartbeat on either path (R324). A lobe that has passed its diagnosis and hears no ACTIVE heartbeat
for as long claims (R337). -/
def execPeerLost (l : Nat) (s : State) : Host.Outcome State Fault Refusal :=
  finish s <|
    if l < 2 ∧ (s.lobe l).waitsDiagnosed then (if s.claimsFirst l then takeClaim s l 0 else s)
    else if l < 2 then
      match (s.lobe l).lastHb with
      | some t => if t + threeIntervals ≤ s.tick then declareLost s l 1 else s
      | none => s
    else s

/-! ### Claims (R314 to R316, R332) -/

/-- A lobe that claims broadcasts its claim and reads the summary; a higher claim found there has won. -/
def execClaimBroadcast (l : Nat) (s : State) : Host.Outcome State Fault Refusal :=
  finish s <|
    if l < 2 ∧ ((s.lobe l).claiming.isSome ∨ (s.lobe l).role = .active) then
      let s := broadcast s l
      if (s.lobe l).claim < s.gateMax then loseClaim s l else s
    else s

/-- A gate that did not take the latest broadcast (R314). -/
def gateFault (s : State) (b h : Nat) : State :=
  raiseS { s with lobes := { s.lobes with gateStuck := mset s.lobes.gateStuck b h } } 0x600E [.word b, .word h]

/-- Whether a lobe has won with the claim of the latest broadcast (R314). -/
def State.winner (s : State) : Bool :=
  [0, 1].any fun l => (s.lobe l).claim == s.gateMax && decide (s.lobes.gateBase = s.gateMax) &&
    ((s.lobe l).role == .active || (s.lobe l).claiming.isSome)

/-- Whether a gate can be found to have missed the latest broadcast: a claim has won by it 2 µs ago, and no accepted write has raised this
gate to it (R314). -/
def State.gateMisses (s : State) (b : Nat) : Bool :=
  decide (b < 3874 ∧ s.lobes.gatePrev < s.lobes.gateBase ∧ s.lobes.gateAt + 313 ≤ s.tick) && s.winner &&
    (mfind s.lobes.gateStuck b).isNone && decide (mget 0 s.lobes.gateHigh b < s.lobes.gateBase)

def execGateFault (b : Nat) (s : State) : Host.Outcome State Fault Refusal :=
  finish s (if s.gateMisses b then gateFault s b s.lobes.gatePrev else s)

/-- REFUSED (R315): the lobe reads the summary; a higher claim means it is out of control, otherwise the gate is faulty. -/
def execWriteRefused (l b : Nat) (s : State) : Host.Outcome State Fault Refusal :=
  finish s <|
    if l < 2 ∧ b < 3874 ∧ ((s.lobe l).role = .active ∨ (s.lobe l).claiming.isSome) then
      let s := { s with lobes := { s.lobes with refused := s.lobes.refused.filter (· ≠ (l, b)) } }
      let s := readSummary s l
      if (s.lobe l).claim < s.gateMax then loseClaim s l
      else if (mfind s.lobes.gateStuck b).isNone then gateFault s b (s.gate b) else s
    else s

/-- A lobe that has won its claim takes over (R325, R337): from STANDBY or SYNCING after its peer, or with no predecessor
state. An ACTIVE lobe that claimed anew goes on without the lost one. -/
def execLobeFailover (l : Nat) (s : State) : Host.Outcome State Fault Refusal :=
  finish s <|
    let x := s.lobe l
    match (if l < 2 then x.claiming else none) with
    | none => s
    | some (cause, _) =>
      if s.gateMax ≠ x.claim then s
      else if x.role = .active then peerGone s l
      else if x.role = .diagnosing then copyToSyncing (startFirst s l) (1 - l)
      else copyToSyncing (takeOver s l (if s.claimsNow (1 - l) || s.lostNow (1 - l) then 3 else cause)) (1 - l)

/-! ### Faults of a lobe (R320 to R322, R428) -/

def execLobeYielded (l cause : Nat) (s : State) : Host.Outcome State Fault Refusal :=
  finish s (if l < 2 ∧ cause = 5 then counterFault s l else if l < 2 ∧ 1 ≤ cause ∧ cause ≤ 5 then yieldLobe s l cause else s)

def execWatchdogExpiry (l core : Nat) (s : State) : Host.Outcome State Fault Refusal :=
  finish s (if l < 2 ∧ core < 4 then yieldLobe s l 2 else s)

def execLobeSupplyFault (l : Nat) (s : State) : Host.Outcome State Fault Refusal :=
  finish s (if l < 2 then yieldLobe s l 4 else s)

def execCounterFault (l : Nat) (s : State) : Host.Outcome State Fault Refusal :=
  finish s <|
    if l < 2 then counterFault s l else s

def execLobeLocalMemoryError (l : Nat) (s : State) : Host.Outcome State Fault Refusal :=
  finish s (if l < 2 then yieldLobe s l 3 else s)

/-! ### Cross-comparison (R319, R320) -/

/-- An unexcused mismatch of a column: counted, XCMP_MISMATCH raised, both lobes begin the known-answer test. The verdict
items of the event are free values: their coding is not stated (log entry 22). -/
def mismatch (s : State) (col : Nat) : State :=
  let s := s.incSat Obj.XCMP_MISMATCHES col
  let l := ((mget [] s.lobes.mismatches col).filter fun t => !s.elapsed t 1000000000) ++ [s.tick]
  let s := { s with lobes := { s.lobes with mismatches := mset s.lobes.mismatches col l,
                                            katCols := if s.lobes.katCols.contains col then s.lobes.katCols
                                              else s.lobes.katCols ++ [col] } }
  let (a, s) := s.fresh
  let (b, s) := s.fresh
  raiseA s 0x6009 [.word col, .word s.scan, .word a, .word b]

/-- The decisions of a column in the scan that ends, and whether it had an overrun there, before or after that boundary is taken. -/
def State.scanDecisions (s : State) (col : Nat) : SMap Nat :=
  let c := s.column col
  if c.ended = s.scan then c.endDec else c.decisions

def State.scanOverrun (s : State) (col : Nat) : Bool :=
  let c := s.column col
  if c.ended = s.scan then c.endOver else c.overRange

/-- A column whose digests differ; an overrun in it excuses the mismatch. -/
def compareColumn (s : State) (col : Nat) : State :=
  if s.scanOverrun col then s.incSat Obj.XCMP_EXCUSED col else mismatch s col

/-- A SYNCING lobe counts clean scans, from the one that its state copy begins on (R336). -/
def countClean (s : State) (dirty : Bool) : State :=
  (List.range 2).foldl (fun s l =>
    let x := s.lobe l
    if x.role = .syncing ∧ x.copied.any fun n => decide (n < s.scan) then s.setLobe l { x with cleanScans := if dirty then 0 else x.cleanScans + 1 } else s) s

/-- Half-bytes two to a byte, the first in the low half. -/
def packNibbles : List Nat → List Byte
  | [] => []
  | [a] => [BitVec.ofNat 8 a]
  | a :: b :: t => BitVec.ofNat 8 (a + 16 * b) :: packNibbles t

/-- The digest of a column (R319): the CRC-32C of the decisions of the scan's evaluations in element order. -/
def State.digestOf (s : State) (col : Nat) : Nat := crc32c (packNibbles ((s.scanDecisions col).map (·.2)))

/-- The digests of both lobes at the end of a scan, once for each: `peer` is the partner's for the columns it lists, and agrees elsewhere.
Only a STANDBY lobe is cross-compared; a SYNCING one counts. -/
def execDigestCompare (peer : List (Nat × Nat)) (s : State) : Host.Outcome State Fault Refusal :=
  finish s <|
    if s.tick % 256 ≠ 0 ∨ s.active.isNone ∨ s.scan ≤ s.lobes.compared then s
    else
      let s := { s with lobes := { s.lobes with compared := s.scan } }
      let cols := ((peer.filter fun c => decide (c.1 < 42) && c.2 != s.digestOf c.1).map (·.1)).eraseDups
      let dirty := cols.any fun c => !s.scanOverrun c
      let s := countClean s dirty
      if s.standby.isSome then cols.foldl compareColumn s else s

/-- The verdict of a known-answer test after a mismatch (R320), the lobe that is not ACTIVE being the one in STANDBY, as far as it still is.
With no lobe ACTIVE a lobe that failed leaves. -/
def katVerdict (s : State) (col : Nat) (passA passB : Bool) : State :=
  match s.active with
  | some a =>
    let b := 1 - a
    let okA := if a = 0 then passA else passB
    let okB := if a = 0 then passB else passA
    if okA && okB then
      let n := ((mget [] s.lobes.mismatches col).filter fun t => !s.elapsed t 1000000000).length
      if s.objN Obj.MISMATCH_LIMIT 0 ≤ n ∧ (s.lobe b).role = .standby then toDiagnosing s b else s
    else if okB then yieldLobe s a 1
    else if okA then yieldLobe s b 1
    else
      let (x, s) := s.fresh
      let (y, s) := s.fresh
      yieldLobe (raiseA s 0x6009 [.word col, .word s.scan, .word x, .word y]) b 1
  | none =>
    let s := if passA then s else yieldLobe s 0 1
    if passB then s else yieldLobe s 1 1

/-- The verdict of a lobe's periodic test. -/
def katPeriodic (s : State) (col : Nat) (l : Nat) (pass : Bool) : State :=
  let x := s.lobe l
  if x.katPending ∧ x.katTurn = col then
    let s := s.setLobe l { x with katPending := false, katTurn := (col + 1) % 42 }
    if pass then s else yieldLobe s l 1
  else s

def execKatDone (col : Nat) (passA passB : Bool) (s : State) : Host.Outcome State Fault Refusal :=
  finish s <|
    if s.lobes.katCols.contains col then
      katVerdict { s with lobes := { s.lobes with katCols := s.lobes.katCols.filter (· ≠ col) } } col passA passB
    else katPeriodic (katPeriodic s col 0 passA) col 1 passB

/-- Each lobe tests its next Spindle every KAT_INTERVAL. -/
def execKatIntervalEnd (l : Nat) (s : State) : Host.Outcome State Fault Refusal :=
  finish s <|
    let x := s.lobe l
    if l < 2 ∧ (x.role = .active ∨ x.role = .standby ∨ x.role = .syncing) ∧
        s.elapsed x.katAt (1000000 * s.objN Obj.KAT_INTERVAL 0) then
      s.setLobe l { x with katPending := true, katAt := s.tick }
    else s

/-! ### Diagnosis (R328, R337) -/

/-- Failures of a lobe's diagnosis in the last hour. -/
def State.diagFails (s : State) (l : Nat) : Nat := ((s.lobe l).diagFails.filter fun t => !s.elapsed t 3600000000000).length

/-- A failed diagnosis: a retry after 10 s, OFFLINE at the third failure within 1 h. -/
def diagFailed (s : State) (l : Nat) : State :=
  let x := s.lobe l
  let old := x.diagFails.filter fun t => !s.elapsed t 3600000000000
  let s := s.setLobe l { x with diagFails := old ++ [s.tick], retryAt := some (s.tick + 1562500000) }
  let s := (s.setObjN Obj.DIAG_FAILS l (min 255 (old.length + 1))).fault (.lobe l)
  let s := if s.runsTrial l then rollBack s 1 else s
  if 3 ≤ old.length + 1 then toOffline s l 3 else s

/-- A passed diagnosis leads to SYNCING under an ACTIVE lobe's heartbeats, otherwise, after three intervals without any, to a claim (R337).
The lobe reads the claim summary, for epochs from before a reset (R316). -/
def diagPassed (s : State) (l : Nat) : State :=
  let s := readSummary (s.setLobe l { s.lobe l with diagnosed := true, retryAt := none }) l
  if !s.mayRun l then takeRole s l .offline
  else if s.hearsActive l then (if s.active.isSome then toSyncing s l else s) else if s.claimsFirst l then takeClaim s l 0 else s

def execDiagnosisEnd (l : Nat) (pass : Bool) (s : State) : Host.Outcome State Fault Refusal :=
  finish s <|
    let x := s.lobe l
    if l < 2 ∧ x.role = .diagnosing ∧ x.bank.isSome ∧ x.retryAt = none ∧ x.claiming = none then
      if pass then diagPassed s l else diagFailed s l
    else s

def execDiagRetry (l : Nat) (s : State) : Host.Outcome State Fault Refusal :=
  finish s <|
    let x := s.lobe l
    match x.retryAt with
    | some t =>
      if l < 2 ∧ x.role = .diagnosing ∧ t ≤ s.tick then s.setLobe l { x with retryAt := none, diagnosed := false, since := s.tick } else s
    | none => s

def effLobeReset (l : Nat) (s : State) : State × Verdict :=
  if (s.lobe l).role = .active then (s, .nak .state) else (endRollBack (resetLobe s l false), .ack)

def execLobeReset (sess l : Nat) (s : State) : Host.Outcome State Fault Refusal :=
  finish s (hostWrite s sess Obj.LOBE_RESET l 1 (effLobeReset l))

/-! ### Snapshots (R329 to R331) -/

/-- Running wraps pause, as offload does, from the final snapshot of a swap on (Table 11.7). -/
def freezeWraps (s : State) : State :=
  (s.loops.elems.filter fun e => e.2.state == .wrapping).foldl (fun s e =>
    s.setElem e.1 { e.2.pauseWrap s.tick with state := .locked }) s

/-- Whether a snapshot may be captured now (R329): at a scan boundary, 1 ms after the one before it or, with a swap due and its conditions
met, at once as the final one. -/
def State.mayCapture (s : State) : Bool :=
  s.active.isSome && decide (s.tick % 256 = 0 ∧ s.lobes.final = none) &&
    (s.maySwap || (match s.lobes.lastCapture with | some t => s.elapsed t 1000000 | none => true))

/-- ROLE_SWAPPED comes with the first snapshot of the new ACTIVE lobe (Table 11.7). -/
def reportSwap (s : State) : State :=
  match s.lobes.swapped with
  | some (l, claim) => raiseA { s with lobes := { s.lobes with swapped := none } } 0x6003 [.word l, .word claim]
  | none => s

/-- The ACTIVE lobe captures a snapshot at a scan boundary, every 1 ms. With a swap due and its conditions met it is the final one. -/
def execSnapshotCapture (s : State) : Host.Outcome State Fault Refusal :=
  finish s <|
    if s.mayCapture then
      let n := s.lobes.snapSeq + 1
      let s := if s.maySwap then freezeWraps { s with lobes := { s.lobes with final := some (n, s.scan) } } else s
      reportSwap { s with lobes := { s.lobes with snapSeq := n, capture := some (s.snapshotNow n), lastCapture := some s.tick } }
    else s

/-- A snapshot has arrived: complete if its CRC matches and its SEQ is above that of the last complete one. None arrives while the link is
lost (R324). -/
def execSnapshotReceived (crcOk : Bool) (s : State) : Host.Outcome State Fault Refusal :=
  finish s <|
    match s.lobes.capture with
    | none => s
    | some x =>
      if !s.snapOn || (s.lobe 0).linkLost || (s.lobe 1).linkLost then s
      else
        let s := { s with lobes := { s.lobes with capture := none } }
        let bad := x.path == 1 && s.mat.transferBad
        let crcOk := crcOk && !bad
        let s := { s with mat := { s.mat with transferBad := s.mat.transferBad && !bad } }
        let newer := match s.lobes.snap with | some y => decide (y.seq < x.seq) | none => true
        if crcOk && newer then { s with lobes := { s.lobes with snap := some x, snapLate := false } }
        else raiseS (s.incSat Obj.SNAP_DISCARDS 0) 0x6007 [.word x.seq, .word (if crcOk then 2 else 1)]

/-- SNAP_AGE in µs (R330, R341). -/
def State.snapAge (s : State) : Nat := match s.lobes.snap with | some x => min u32Max ((s.tick - x.tick) * 32 / 5000) | none => 0

def execSnapshotLate (s : State) : Host.Outcome State Fault Refusal :=
  finish s <|
    match s.lobes.snap with
    | some x =>
      if s.snapOn ∧ ¬ s.lobes.snapLate ∧ 480000000 < 1024 * (s.tick - x.tick) then
        raiseS { s with lobes := { s.lobes with snapLate := true } } 0x6008 [.word s.snapAge]
      else s
    | none => s

/-! ### Resynchronisation (R336) -/

/-- What becoming STANDBY does for a firmware update: the next stage of Table 18.9. -/
def fwStandby (s : State) (l : Nat) : State :=
  match s.dev.fwStage with
  | .firstRestart =>
    if s.dev.fwLobe = l ∧ s.runsTrial l then
      let s := { s with dev := { s.dev with fwStage := .swap } }
      { s with lobes := { s.lobes with swapDue := some s.tick } }
    else s
  | .secondRestart =>
    if s.dev.fwLobe = l ∧ s.runsTrial l then
      let b := s.dev.flash.trial.getD 0
      raiseA { s with dev := { s.dev with fwStage := .trial } } 0x1009 [.word b, .word (mget {} s.dev.flash.banks b).version]
    else s
  | .rollingBack =>
    match s.active with
    | some a => if s.runsTrial a then { s with lobes := { s.lobes with swapDue := some s.tick } } else s
    | none => s
  | _ => s

def execResyncDone (l : Nat) (s : State) : Host.Outcome State Fault Refusal :=
  finish s <|
    let x := s.lobe l
    if l < 2 ∧ x.role = .syncing then
      if 64 ≤ x.cleanScans ∧ ¬ s.elapsed x.since 2000000001 then fwStandby (setRole s l .standby) l
      else if s.elapsed x.since 2000000000 then
        setRole (s.setLobe l { x with diagnosed := false }) l .diagnosing
      else s
    else s

/-! ### Role swaps (R333 to R335) -/

/-- SWAP_INTERVAL has passed since the last swap or takeover. -/
def execSwapDue (s : State) : Host.Outcome State Fault Refusal :=
  finish s <|
    if s.obj Obj.SWAP_ENABLE 0 = 1 ∧ s.lobes.swapDue = none ∧ s.active.isSome ∧
        s.elapsed s.lobes.lastTakeover (1000000000 * s.objN Obj.SWAP_INTERVAL 0) then
      { s with lobes := { s.lobes with swapDue := some s.tick } }
    else s

def effSwapNow (s : State) : State × Verdict :=
  if s.standby.isNone then (s, .nak .state)
  else ({ s with lobes := { s.lobes with swapDue := some s.tick, swapAsked := true } }, .ack)

def execSwapNow (sess : Nat) (s : State) : Host.Outcome State Fault Refusal :=
  finish s (hostWrite s sess Obj.SWAP_NOW 0 1 effSwapNow)

/-- After the swap of an update or a roll-back, the lobe that gave up control is restarted on the other bank. -/
def fwSwapped (s : State) (old : Nat) : State :=
  match s.dev.fwStage with
  | .swap =>
    let s := { s with dev := { s.dev with fwStage := .secondRestart, fwLobe := old, fwSince := s.tick } }
    resetLobe s old true
  | .rollingBack => if s.runsTrial old then resetLobe s old false else s
  | _ => s

/-- Whether a firmware update or its roll-back waits for a swap (R529, R530). -/
def State.updateSwaps (s : State) : Bool :=
  s.dev.fwStage == .swap || (s.dev.fwStage == .rollingBack && s.active.any fun a => s.runsTrial a)

/-- A swap is skipped, or abandoned before H (code 7): offload and wraps go on, and the next swap falls due SWAP_INTERVAL later (R333,
R335), that of a firmware update at once (DESIGN CHOICE, log entry 44). -/
def skipSwap (s : State) (code : Nat) : State :=
  let due := if s.updateSwaps then some s.tick else none
  raiseA { s with lobes := { s.lobes with swapDue := due, swapAsked := false, lastTakeover := s.tick, final := none, handover := none } }
    0x6004 [.word code]

/-- The swap at the scan boundary H that HANDOVER named, with every condition of R333, or without them for LOBE_HOLD_OFFLINE
(R338); abandoned where a condition has failed since the final snapshot (R335). -/
def execRoleSwapped (s : State) : Host.Outcome State Fault Refusal :=
  finish s <|
    match s.active, s.lobes.handover with
    | some a, some h =>
      let forced := s.leaving
      if s.tick % 256 = 0 ∧ h ≤ s.scan ∧ s.finalDone then
        if s.maySwap then
          let s := swapRoles { s with lobes := { s.lobes with swapAsked := false } } forced
          let s := if forced then toOffline s a 2 else s
          endRollBack (fwSwapped s a)
        else skipSwap s 7
      else s
    | _, _ => s

/-- A swap that its conditions have kept back for SWAP_POSTPONE_MAX is skipped (R333); one whose conditions fail after the final
snapshot is abandoned (R335). -/
def execSwapSkipped (s : State) : Host.Outcome State Fault Refusal :=
  finish s <|
    if s.lobes.final.isSome ∧ (¬ s.maySwap ∨ s.lobes.final.any fun f => decide (f.2 + 256 < s.scan)) then skipSwap s 7
    else
      match s.lobes.swapDue, s.swapBar with
      | some t, some n => if s.elapsed t (1000000000 * s.objN Obj.SWAP_POSTPONE_MAX 0) then skipSwap s n else s
      | _, _ => s

/-! ### Service disables (R338) -/

/-- A lobe leaves OFFLINE at the release of its reset. -/
def releaseLobe (s : State) (l : Nat) : State :=
  if (s.lobe l).role = .offline ∧ s.mayRun l ∧ s.dev.state ≠ .off then resetLobe s l false else s

/-- The deglitched level of a lobe's pin; a low acts at once, whatever the lobe's role. -/
def execLobeDisPin (l : Nat) (high : Bool) (s : State) : Host.Outcome State Fault Refusal :=
  finish s <|
    if l < 2 then
      let s := s.setLobe l { s.lobe l with strapHigh := high }
      if high then releaseLobe s l else judgeRecovery (toOffline s l 1)
    else s

def effHoldOffline (l : Nat) (v : Int) (s : State) : State × Verdict :=
  let x := s.lobe l
  if v = 0 then
    let s := (s.setObj Obj.LOBE_HOLD_OFFLINE l 0).setLobe l { x with offlineDue := false }
    (releaseLobe s l, .ack)
  else if x.role = .active then
    if s.standby.isNone then (s, .nak .state)
    else ((s.setObj Obj.LOBE_HOLD_OFFLINE l 1).setLobe l { x with offlineDue := true }, .ack)
  else (toOffline (s.setObj Obj.LOBE_HOLD_OFFLINE l 1) l 2, .ack)

def execLobeHoldOffline (sess l : Nat) (v : Int) (s : State) : Host.Outcome State Fault Refusal :=
  finish s (hostWrite s sess Obj.LOBE_HOLD_OFFLINE l v (effHoldOffline l v))

end Sys2Proof.Machine
end

