-- ==== Sys2Proof/Machine/CaptureOps.lean ====
section
/-!
DEFINITION. Sorus's operations: channel words (R343, R346), the condition word (R347, R348), placement (R351), the mask
test (R362, R363), segments (R355, R359, R360) and arming (R345, R350, R353, R359).
-/

namespace Sys2Proof.Machine

open Sys2Proof

def State.buf (s : State) (b : Nat) : CapBuf := mget {} s.sorus.bufs b

def State.setBuf (s : State) (b : Nat) (x : CapBuf) : State :=
  { s with sorus := { s.sorus with bufs := mset s.sorus.bufs b x } }

/-! ### Channels -/

def chanKindOf (c : Nat) : Nat := c / 0x10000000
def chanIndexOf (c : Nat) : Nat := c % 0x10000000

/-- Whether a channel selector is one of Table 12.1. -/
def chanSelOk (c : Nat) : Bool :=
  match chanKindOf c with
  | 0 => c == 0
  | 1 | 2 => decide (chanIndexOf c < 83968)
  | 3 => decide (chanIndexOf c < 123968)
  | 4 => decide (chanIndexOf c < 40960)
  | _ => false

/-- The selectors of a channel list before its first kind 0 selector. -/
def chanList (b : List Byte) (n : Nat) : List Nat :=
  ((List.range n).map fun j => be b (4 * j) 4).takeWhile fun c => chanKindOf c != 0

/-- The tag of Table 6.3 as two bits: INV the higher, SAT the lower (log entry 26). -/
def Sample.tag (x : Sample) : Nat := 2 * boolNat x.inv + boolNat x.sat

/-- The word of an element (Table 12.1, kind 4); φl moves against the fringe sign times the sign of err (R141). -/
def State.elemWord (s : State) (e : Nat) : Nat :=
  let x := s.elem e
  let down := s.stepsDown e
  x.state.code + 8 * boolNat x.stepping + 16 * boolNat down + 32 * boolNat x.clipped + 64 * boolNat x.dark +
    128 * boolNat x.unobserved + 65536 * toUnsigned 16 x.phi

/-- The newest word of a channel. With no lobe ACTIVE a kind 4 channel repeats its last word (R346). -/
def State.chanWord (s : State) (c last : Nat) : Nat :=
  let i := chanIndexOf c
  match chanKindOf c with
  | 1 => (s.pd i).raw
  | 2 => toUnsigned 16 (s.pd i).value.p + 65536 * (s.pd i).value.tag
  | 3 => s.outCode i + 65536 * boolNat (s.chan i).reached
  | _ => if s.active.isSome then s.elemWord i else last

/-- The word of a photodiode's scan sample of scan n: the newest one, unless that is of a later scan. -/
def State.scanWord (s : State) (c n : Nat) : Nat :=
  let x := s.pd (chanIndexOf c)
  if chanKindOf c = 1 then (if x.at_ ≤ n then x.raw else x.rawBefore)
  else let v := x.before (n + 1); toUnsigned 16 v.p + 65536 * v.tag

/-- The latest focus conversion of a photodiode by the present strobe (R244): its scan and strobe. A pair is held at every even strobe
and converted at that strobe and the next, the even input first as in scan order (DEDUCED, log entry 199). None while its converter is
not in focus, focuses another input, or has not converted it since focus was entered. -/
def State.focusLatest (s : State) (pd : Nat) : Option (Nat × Nat) :=
  let c := s.conv (pd / 32)
  match c.focus with
  | none => none
  | some f =>
    let strobe := s.tick % 256 / 8
    let at_ := if f.pair then strobe / 2 * 2 + pd % 2 else strobe
    if c.unfocused s.scan (pd % 32) ∨ s.scan < f.start then none
    else if at_ ≤ strobe then some (s.scan, at_)
    else if strobe < 2 && f.start == s.scan then none
    else some (if strobe < 2 then s.scan - 1 else s.scan, (at_ + 30) % 32)

/-- The word of a focus conversion at a strobe of scan n, other than the input's own, which is its scan sample (R245). Its code is the
world's: a free value of the photodiode and the tick of the conversion, as is whether the input is out of range (R231). -/
def State.focusWord (s : State) (pd n strobe : Nat) : Nat :=
  let cv := pd / 32
  let hold := 256 * n + 8 * strobe
  let beyond := Config.analogue 4 pd hold % 2 == 1
  let code := if beyond then 4095 else (Config.analogue 3 pd hold % 4096).toNat
  rawWord code ((s.pd pd).gainAt n) beyond (s.causeAt cv (pd % 32) strobe n ((s.pd pd).settling n) beyond) ((s.conv cv).spareAt n) strobe

/-- The scan whose sample a channel takes at a frame instant, if its newest word is or will be that sample: the one that a SCAN frame
begins, or that of a focus conversion at the input's own strobe, which is its scan sample (R344, R245). -/
def State.waitScan (s : State) (strobes : Bool) (c : Nat) : Option Nat :=
  match chanKindOf c, strobes with
  | 1, false | 2, false => some (s.tick / 256)
  | 1, true => (s.focusLatest (chanIndexOf c)).bind fun a => if a.2 = chanIndexOf c % 32 then some a.1 else none
  | _, _ => none

/-- The word of a channel at a frame instant: at STROBE rate a photodiode in focus gives its latest focus conversion (R344). -/
def State.frameWord (s : State) (strobes : Bool) (c last : Nat) : Nat :=
  match if strobes && chanKindOf c == 1 then s.focusLatest (chanIndexOf c) else none with
  | some a => s.focusWord (chanIndexOf c) a.1 a.2
  | none => s.chanWord c last

/-- The levels of the trigger pins at the present tick: high at the tick of a rising edge (R349), otherwise the world's. -/
def State.pinLevels (s : State) : Nat :=
  let level := fun x => if mfind s.sorus.edgeAt x = some s.tick then 1 else (Config.analogue 5 x s.tick % 2).toNat
  level 0 + 2 * level 1

/-- The comparison value of a word, none where it is invalid. -/
def wordValue (c w : Nat) : Option Int :=
  match chanKindOf c with
  | 1 => if bitOf w 15 = 1 then some (w % 4096 * 4 ^ (3 - w / 4096 % 4) : Nat) else none
  | 2 => if bitOf w 17 = 0 then some (toSigned 16 (w % 65536)) else none
  | 3 => some (w % 65536 : Nat)
  | _ => if w % 8 = 5 then none else some (toSigned 16 (w / 65536))

/-! ### Frames -/

/-- Ticks between frame opportunities: a scan or a strobe (R344). -/
def CapCfg.base (c : CapCfg) : Nat := if c.rate = 0 then 256 else 8

/-- The frame period in units of 0.2 ns. -/
def CapCfg.period5 (c : CapCfg) : Nat := 32 * c.base * c.decim

/-- Whether an instant fell after frame n − 1 and at or before frame n. -/
def within (t0 t1 t : Int) : Bool := decide (t0 < t ∧ t ≤ t1)

/-- The condition bits of a frame (Table 12.2), with the instants of the causes that R351 places. `pins` are the levels of
TRIG_IN at the frame instant. -/
structure Cond where
  word : Nat
  level : List Bool
  cross : List Bool
  causes : List (Nat × Int)
  deriving DecidableEq, Repr

def CapBuf.levelOf (x : CapBuf) (j : Nat) (v : Option Int) : Bool :=
  let l := x.cfg.levels.getD j 0
  match x.cfg.dirs.getD j 0, v with
  | 0, _ => false
  | _, none => x.lastLevel.getD j false
  | 1, some v => decide (l ≤ v)
  | _, some v => decide (v ≤ l)

def CapBuf.crossOf (x : CapBuf) (j : Nat) (v : Option Int) : Bool :=
  match x.lastV.getD j none, v with
  | some p, some v =>
    let l := x.cfg.levels.getD j 0
    match x.cfg.dirs.getD j 0 with
    | 1 => decide (p < l ∧ l ≤ v)
    | 2 => decide (l < p ∧ v ≤ l)
    | _ => false
  | _, _ => false

def bitsOf (l : List Bool) : Nat := (l.zipIdx.map fun p => boolNat p.1 * 2 ^ p.2).foldl (· + ·) 0

/-- Whether a commit counts for bits [38:36]. -/
def CapBuf.counts (x : CapBuf) (id : Nat) : Bool := x.cfg.commitId == 0 || x.cfg.commitId == id

/-- The instants of some causes under the number of the condition bit they set. -/
def causesOf (l : List (Nat × Int)) (bit : Nat) : List (Nat × Int) := l.map fun e => (bit, e.2)

def condOf (x : CapBuf) (a : CapAcc) (vs : List (Option Int)) (t : Int) (pins : Nat) : Cond :=
  let level := vs.zipIdx.map fun p => x.levelOf p.2 p.1
  let cross := vs.zipIdx.map fun p => x.crossOf p.2 p.1
  let edge := fun n => a.edges.any fun e => e.1 == n
  let commit := a.commitT.filter fun c => x.counts c.1
  let m := x.cfg.evMask
  let event := a.events.any fun c => (c &&& m) == (x.cfg.evCode &&& m)
  let watched := (x.cfg.chans.filter fun c => chanKindOf c == 4).map chanIndexOf
  let linked := a.linked.filter fun l => l.1 == x.cfg.link
  let time := within x.lastTime t x.cfg.trigTime
  { word := bitsOf level + 2 ^ 16 * bitsOf cross + 2 ^ 32 * (pins % 4) + 2 ^ 34 * boolNat (edge 0) + 2 ^ 35 * boolNat (edge 1) +
      2 ^ 36 * boolNat (!commit.isEmpty) + 2 ^ 37 * boolNat (a.done.any x.counts) +
      2 ^ 38 * boolNat (a.abandoned.any x.counts) + 2 ^ 39 * boolNat (a.lockLost.any fun e => watched.contains e) +
      2 ^ 40 * boolNat event + 2 ^ 41 * boolNat (!linked.isEmpty) + 2 ^ 42 * boolNat time
    level := level, cross := cross
    causes := causesOf (a.edges.filter fun e => e.1 == 0) 34 ++ causesOf (a.edges.filter fun e => e.1 == 1) 35 ++
      causesOf commit 36 ++ causesOf linked 41 ++ (if time then [(42, x.cfg.trigTime)] else []) }

/-- Whether a frame matches the trigger pattern (R350). -/
def CapCfg.matches (c : CapCfg) (w : Nat) : Bool := (w &&& c.care) == (c.value &&& c.care)

def ceilDiv (a b : Int) : Int := -(floorDiv (-a) b)

/-- The placement of one newly met bit (R351), the earliest instant of a cause counting. -/
def CapBuf.placeBit (x : CapBuf) (c : Cond) (vs : List (Option Int)) (bit : Nat) : Int :=
  let p5 : Int := x.cfg.period5
  if bitOf x.cfg.value bit = 0 then 64
  else if 16 ≤ bit ∧ bit < 32 then
    match x.lastV.getD (bit - 16) none, vs.getD (bit - 16) none with
    | some a, some v =>
      let num := x.cfg.levels.getD (bit - 16) 0 - a
      if 0 < v - a then ceilDiv (64 * num) (v - a) else ceilDiv (64 * -num) (a - v)
    | _, _ => 64
  else
    (c.causes.filter fun q => q.1 == bit).foldl (fun k q =>
      min k (clampInt 1 64 (ceilDiv (64 * 5 * (q.2 - x.lastTime)) p5))) 64

/-- The placement: k_best and bit_best over NEW in ascending order. -/
def CapBuf.place (x : CapBuf) (c : Cond) (vs : List (Option Int)) (fresh : Nat) : Int × Nat :=
  ((List.range 43).filter fun b => bitOf fresh b == 1).foldl (fun (best : Int × Nat) b =>
    let k := x.placeBit c vs b
    if k < best.1 then (k, b) else best) (65, 0xFF)

/-- TRIG_TIME of a placement k. -/
def CapBuf.trigTime (x : CapBuf) (k t : Int) : Int :=
  if x.lastWords.isEmpty then t else x.lastTime + floorDiv (k * x.cfg.period5) 320

/-! ### Mask test -/

/-- Whether a frame at an offset from the trigger frame violates the mask (R363). -/
def CapCfg.violates (c : CapCfg) (f : CapFrame) (off : Int) : Bool :=
  c.mask.any fun m =>
    m.enable == 1 && decide (m.start ≤ off ∧ off ≤ m.stop) &&
      match wordValue (c.chans.getD m.chan 0) (f.words.getD m.chan 0) with
      | some v => decide (v < m.low ∨ m.high < v)
      | none => false

/-- Test the frames of a segment from an index on, keeping the first violation and the count. -/
def Segment.test (g : Segment) (from_ : Nat) : Segment :=
  ((g.frames.drop from_).zipIdx from_).foldl (fun g p =>
    if g.cfg.violates p.1 ((p.2 : Int) - g.preValid) then
      { g with maskFail := true, violations := min 65535 (g.violations + 1),
               firstViolation := if g.firstViolation = 0xFFFFFFFF then p.2 else g.firstViolation }
    else g) g

/-- FLAGS of a segment header. -/
def Segment.flags (g : Segment) : Nat :=
  boolNat g.forced + 2 * boolNat g.manual + 4 * boolNat g.preShort + 8 * boolNat g.maskFail + 16 * boolNat g.holdover +
    32 * boolNat g.failover

/-- The segment as its host reads it: header, frames, CRC (R360). -/
def Segment.bytes (g : Segment) (b : Nat) : List Byte :=
  let c := g.cfg
  let head := leBytes 4 0x534F5253 ++ leBytes 1 b ++ leBytes 1 c.chans.length ++ leBytes 1 c.rate ++ leBytes 1 g.flags ++
    leBytes 4 g.seq ++ leBytes 2 c.decim ++ leBytes 1 g.placeFrac ++ leBytes 1 g.placeBit ++ leBytes 8 g.cond ++
    leBytes 8 g.fresh ++ time96Le g.trigTime ++ leBytes 4 g.firstViolation ++ leBytes 4 g.preValid ++
    leBytes 4 g.frames.length ++ leBytes 2 g.overlap ++ leBytes 2 g.violations
  let body := (g.frames.map fun f => (f.words.map (leBytes 4)).flatten).flatten
  let crc := crc32c (head ++ leBytes 4 0 ++ body)
  head ++ leBytes 4 crc ++ body

/-! ### Reservations and the capture path -/

/-- Bytes of a segment of a configuration (R359). -/
def CapCfg.segBytes (c : CapCfg) : Nat := (64 + 4 * c.chans.length * c.length + 4095) / 4096 * 4096

/-- Whether a buffer records frames, or is about to. -/
def CapBuf.live (x : CapBuf) : Bool :=
  x.starting || (x.state != .idle && x.state != .full && x.state != .stopped)

/-- Scan-rate words of the capture path: buffers and enabled rings (R345). `ringWords` gives each ring's channels. -/
def State.scanWords (s : State) (without : Nat) (ringWords : Nat → Nat) : Nat :=
  ((s.sorus.bufs.filter fun p => p.1 != without && p.2.live && p.2.cfg.rate == 0).map fun p => p.2.cfg.chans.length).foldl (· + ·) 0 +
    ((List.range 16).map ringWords).foldl (· + ·) 0

/-- Channels of a ring as its newest configuration counts them. -/
def State.ringWords (s : State) (r : Nat) : Nat :=
  if s.obj Obj.RING_ENABLE r = 0 then 0 else (chanList (s.oct Obj.RING_CHANNELS r) 256).length

def State.strobeWords (s : State) (without : Nat) : Nat :=
  ((s.sorus.bufs.filter fun p => p.1 != without && p.2.live && p.2.cfg.rate == 1).map fun p => p.2.cfg.chans.length).foldl (· + ·) 0

/-! ### Arming -/

/-- The class S objects of a buffer. -/
def capObjs : List Nat :=
  [Obj.CAP_RATE, Obj.CAP_DECIM, Obj.CAP_CHANNELS, Obj.CAP_LENGTH, Obj.CAP_PRE, Obj.CAP_SEGMENTS, Obj.CAP_MODE,
   Obj.CAP_OVERWRITE, Obj.CAP_PRE_MODE, Obj.CAP_REARM, Obj.CAP_AUTO, Obj.CAP_AUTO_TIMEOUT, Obj.CAP_CARE, Obj.CAP_VALUE,
   Obj.CAP_COMMIT_ID, Obj.CAP_EVENT_CODE, Obj.CAP_EVENT_MASK, Obj.CAP_TRIG_TIME, Obj.CAP_LINK, Obj.CAP_MASK,
   Obj.CAP_MASK_ACTION]

def maskOf (b : List Byte) : List MaskEntry :=
  (List.range 64).map fun i =>
    let o := 20 * i
    { chan := be b o 1, enable := be b (o + 1) 1, start := toSigned 32 (be b (o + 4) 4), stop := toSigned 32 (be b (o + 8) 4),
      low := toSigned 32 (be b (o + 12) 4), high := toSigned 32 (be b (o + 16) 4) }

/-- The configuration of a buffer with its staged values in place. -/
def State.capCfg (s : State) (b : Nat) : CapCfg :=
  let n := fun a => (s.judged a b).toNat
  { rate := n Obj.CAP_RATE, decim := n Obj.CAP_DECIM, chans := chanList (s.judgedOct Obj.CAP_CHANNELS b) 16,
    length := n Obj.CAP_LENGTH, pre := n Obj.CAP_PRE, segments := n Obj.CAP_SEGMENTS, mode := n Obj.CAP_MODE,
    overwrite := n Obj.CAP_OVERWRITE == 1, preMode := n Obj.CAP_PRE_MODE, rearm := n Obj.CAP_REARM,
    auto := n Obj.CAP_AUTO == 1, autoTimeout := n Obj.CAP_AUTO_TIMEOUT, care := n Obj.CAP_CARE, value := n Obj.CAP_VALUE,
    commitId := n Obj.CAP_COMMIT_ID, evCode := n Obj.CAP_EVENT_CODE, evMask := n Obj.CAP_EVENT_MASK,
    trigTime := s.judged Obj.CAP_TRIG_TIME b, link := n Obj.CAP_LINK, mask := maskOf (s.judgedOct Obj.CAP_MASK b),
    maskAction := n Obj.CAP_MASK_ACTION
    levels := (List.range 16).map fun j => s.judged Obj.CAP_LEVEL (16 * b + j)
    dirs := (List.range 16).map fun j => (s.judged Obj.CAP_DIR (16 * b + j)).toNat }

/-- The refusals of an arm (R345, R350, R359, R362). -/
def State.armNak (s : State) (b : Nat) (c : CapCfg) : Option Nak :=
  let n := c.chans.length
  if n = 0 ∨ 2 ^ 43 ≤ c.care ∨ (c.care = 0 ∧ c.auto = false) then some .range
  else if c.mask.any fun m => m.enable == 1 && decide (m.stop < m.start ∨ m.high < m.low ∨ n ≤ m.chan) then some .range
  else if c.rate = 0 ∧ 1024 < s.scanWords b s.ringWords + n then some .full
  else if c.rate = 1 ∧ 64 < s.strobeWords b + n then some .full
  else
    let held := ((s.sorus.bufs.filter fun p => p.1 != b && (p.2.live || p.2.state == .full || p.2.state == .stopped)).map
      fun p => p.2.reserved).foldl (· + ·) 0
    if 17179869184 < held + c.segments * c.segBytes then some .full else none

/-- Take the staged configuration of a buffer. -/
def takeCap (s : State) (b : Nat) : State :=
  let s := capObjs.foldl (fun s a => s.applyStagedAt a b) s
  (List.range 16).foldl (fun s j => (s.applyStagedAt Obj.CAP_LEVEL (16 * b + j)).applyStagedAt Obj.CAP_DIR (16 * b + j)) s

/-- A reservation is released once all segments are released in IDLE (R359). -/
def CapBuf.settle (x : CapBuf) : CapBuf :=
  if x.state = .idle ∧ x.segs.isEmpty ∧ ¬ x.starting then { x with reserved := 0 } else x

/-! ### Closing and re-arming -/

/-- Enter FILLING with an empty pre-trigger memory. -/
def CapBuf.fill (x : CapBuf) : CapBuf :=
  { x with state := if x.cfg.pre = 0 then .armed else .filling, pre := [], filled := 0, idleFrames := 0, auto := false }

/-- Whether the next segment in ring order still holds an unreleased one. -/
def CapBuf.nextHeld (x : CapBuf) : Bool :=
  x.segs.any fun g => (g.seq - 1) % max 1 x.cfg.segments == (x.nextSeq - 1) % max 1 x.cfg.segments

/-- The end of a segment (R355, R363, R364): the header is complete, events are raised, and the buffer goes on, to IDLE
where its host has ended the capture. The capture goes on in the mode it was armed in (R36). -/
def closeSegment (s : State) (b : Nat) (g : Segment) (ended : Bool) : State :=
  let host := (s.buf b).host
  let g := { g with holdover := g.frames.any (·.hold), failover := g.frames.any (·.fo),
                    readyAt := if host then some s.tick else none }
  let x := s.buf b
  let stop := !host && g.maskFail && x.cfg.maskAction == 1 && !ended
  let after := if ended then .idle else if stop then .stopped else if x.cfg.mode = 0 then .idle else .rearm
  let x := { x with cur := none, segs := x.segs ++ [g], nextSeq := nextGen x.nextSeq, state := after,
                    rearmLeft := x.cfg.rearm }
  let s := (s.setBuf b x.settle).setObjN Obj.CAP_SEQ b g.seq
  let s := if !host && g.maskFail then
      raiseS s 0x7002 [.word b, .word g.seq, .word g.firstViolation, .word g.violations] else s
  let s := if stop then raiseS s 0x7004 [.word b, .word g.seq] else s
  if host then raiseS s 0x7001 [.word b, .word g.seq, .word g.flags] else s

/-- What a list with an entry for each of some channels gives to each of others: the entry of the same place where the channel is the
same one. -/
def carryOver {α : Type} (before after : List Nat) (l : List α) (d : α) : List α :=
  after.zipIdx.map fun p => if before.getD p.2 0 = p.1 then l.getD p.2 d else d

/-- A buffer takes a configuration at a re-arm (R350, R357): frame n − 1 is compared with the new pattern, a channel that is another one
now has no earlier value, and a frame whose instant is not one of the new rate is dropped. -/
def CapBuf.renew (x : CapBuf) (c : CapCfg) : CapBuf :=
  { x with cfg := c, reserved := c.segments * c.segBytes, lastMatch := c.matches x.lastC
           lastV := carryOver x.cfg.chans c.chans x.lastV none, lastLevel := carryOver x.cfg.chans c.chans x.lastLevel false
           lastWords := carryOver x.cfg.chans c.chans x.lastWords 0
           opens := if c.rate = x.cfg.rate ∧ c.decim = x.cfg.decim then x.opens else [] }

/-- The next segment of a buffer is taken: one that it still holds is dropped, and FILLING begins, in the mode of the boundary that a
re-arm is (R357, Table 1.7). -/
def startNext (s : State) (b : Nat) (y : CapBuf) (take : Bool) : State :=
  let s := atModeBoundary s 7
  let s := if take then takeCap s b else s
  let slot := (y.nextSeq - 1) % max 1 y.cfg.segments
  s.setBuf b ({ y with host := s.hostMode 7, segs := y.segs.filter fun g => (g.seq - 1) % max 1 y.cfg.segments != slot }).fill

/-- After CAP_REARM frames (R355, R364): the next segment, FULL, or a wait in REARM for the host, neither of which is an arm. A re-arm
takes the staged configuration where it passes the checks of an arm (R357). A segment of a host-assisted capture is never overwritten
before its release, and whether the next one is taken is decided in the mode that the arm would be in (Table 1.7). -/
def rearm (s : State) (b : Nat) : State :=
  let c := s.capCfg b
  let x := s.buf b
  let ok := (s.armNak b c).isNone
  let y := if ok then x.renew c else x
  let slot := (y.nextSeq - 1) % max 1 y.cfg.segments
  let hosts := y.segs.any fun g => (g.seq - 1) % max 1 y.cfg.segments == slot && g.readyAt.isSome
  let f := s.func 7
  let host := decide (f.pending.getD f.mode = 1)
  if !y.nextHeld || (!host && y.cfg.overwrite && !hosts) then
    startNext s b y ok
  else if host || s.hostMode 7 then s
  else raiseS (s.setBuf b { x with state := .full }) 0x7003 [.word b, .word x.segs.length]

/-! ### One frame -/

/-- What a trigger at this frame opens (R351, R352, R354). -/
def CapBuf.opened (x : CapBuf) (c : Cond) (vs : List (Option Int)) (fresh : Nat) (cand force : Bool) (f : CapFrame) : Segment :=
  let (k, bit) := if cand then x.place c vs fresh else (64, 0xFF)
  let pre := x.pre.drop (x.pre.length - x.cfg.pre)
  { seq := x.nextSeq, forced := !cand, manual := force, preShort := decide (pre.length < x.cfg.pre),
    placeFrac := k.toNat, placeBit := bit, cond := c.word, fresh := if cand then fresh else 0, trigTime := x.trigTime k f.time,
    preValid := pre.length, frames := pre ++ [f], cfg := x.cfg }

/-- Close a segment once it holds its post-trigger frames. -/
def closeIfFull (s : State) (b : Nat) : State :=
  let x := s.buf b
  match x.cur with
  | some g => if x.cfg.length - x.cfg.pre ≤ g.frames.length - g.preValid then closeSegment s b g false else s
  | none => s

/-- Note something that came at a time in the first of the open frames whose interval takes it in. -/
def noteInstant (t : Int) (f : CapAcc → CapAcc) : List CapInstant → List CapInstant
  | [] => []
  | i :: r => if t ≤ i.time then { i with acc := f i.acc } :: r else i :: noteInstant t f r

/-- A buffer learns that another one triggered at a frame of time t: in the first of its frames that is not before it (R347). -/
def CapBuf.noteLink (x : CapBuf) (t : Int) (e : Nat × Int) : CapBuf :=
  let f := fun (a : CapAcc) => { a with linked := e :: a.linked }
  if x.opens.any fun i => decide (t ≤ i.time) then { x with opens := noteInstant t f x.opens } else { x with acc := f x.acc }

/-- A trigger is taken at a frame of time t: the segment opens, linked buffers and trigger outputs learn of it, the mask test begins. -/
def trigger (s : State) (b : Nat) (g : Segment) (t : Int) : State :=
  let x := s.buf b
  let g := if x.host then g else g.test 0
  let s := s.setBuf b { x with cur := some g, state := .triggered, pre := [], auto := false }
  let link := fun i (x : CapBuf) => if i = b then x else x.noteLink t (b, g.trigTime)
  let s := { s with sorus := { s.sorus with bufs := mmap link s.sorus.bufs } }
  let s := trigSource s (1 + b)
  let s := if g.maskFail then trigSource s (9 + b) else s
  closeIfFull s b

/-- A frame of a TRIGGERED buffer. -/
def postFrame (s : State) (b : Nat) (g : Segment) (f : CapFrame) (cand : Bool) : State :=
  let x := s.buf b
  let g := { g with frames := g.frames ++ [f], overlap := min 65535 (g.overlap + boolNat cand) }
  let bad := !x.host && g.cfg.violates f ((g.frames.length : Int) - 1 - g.preValid)
  let g := if x.host then g else g.test (g.frames.length - 1)
  let s := s.setBuf b { x with cur := some g }
  let s := if bad then trigSource s (9 + b) else s
  closeIfFull s b

/-- A frame of a buffer in FILLING or ARMED. -/
def preFrame (s : State) (b : Nat) (c : Cond) (vs : List (Option Int)) (fresh : Nat) (f : CapFrame) (cand force : Bool) : State :=
  let x := s.buf b
  let short := decide (x.state = .filling ∧ x.cfg.preMode = 1)
  if (cand || force || x.auto) && !short then trigger s b (x.opened c vs fresh cand force f) f.time
  else
    let s := if cand then s.incSat Obj.CAP_EARLY b else s
    let filled := x.filled + 1
    let counting := x.state == .armed || x.cfg.preMode == 0
    s.setBuf b { x with pre := (x.pre ++ [f]).drop (x.pre.length + 1 - x.cfg.pre), filled := filled
                        state := if x.cfg.pre ≤ filled then .armed else .filling
                        idleFrames := if counting then x.idleFrames + 1 else x.idleFrames }

/-- What remains of a buffer's frame once its state has acted: the values the next frame compares with. -/
def noteFrame (s : State) (b : Nat) (c : Cond) (vs : List (Option Int)) (words : List Nat) (t : Int) : State :=
  let x := s.buf b
  s.setBuf b { x with lastTime := t, lastWords := words, lastV := vs, lastLevel := c.level, lastC := c.word,
                      lastMatch := x.cfg.matches c.word }

/-- A frame instant: what the frame takes at once. Whatever comes after it counts toward the next frame. In REARM the words of the
channels of the next arm are taken too, whose first frame this may be (R357). -/
def openFrame (s : State) (b : Nat) : State :=
  let x := s.buf b
  let lasts := match x.opens.getLast? with | some i => i.words | none => x.cfg.chans.zip x.lastWords
  let chans := x.cfg.chans ++ if x.state = .rearm then (s.capCfg b).chans else []
  let strobes := x.cfg.rate == 1
  let i : CapInstant := { time := s.now, tick := s.tick, pins := s.pinLevels, force := x.force
                          words := chans.map fun c => (c, s.frameWord strobes c (mget 0 lasts c))
                          waits := chans.filterMap fun c => (s.waitScan strobes c).map fun n => (c, n)
                          hold := decide (s.time.servo = .holdover), fo := s.active.isNone, acc := x.acc }
  s.setBuf b { x with opens := x.opens ++ [i], acc := {}, force := false, lastTick := some s.tick }

/-- Whether the samples that a frame takes have come, or will come no more (R344). -/
def State.sampled (s : State) (x : CapBuf) (i : CapInstant) : Bool :=
  i.waits.all fun p => decide (p.2 + 2 ≤ s.scan) || !x.cfg.chans.contains p.1 || decide (p.2 ≤ (s.pd (chanIndexOf p.1)).at_)

/-- The word of a channel in a frame that is completed. -/
def State.closingWord (s : State) (i : CapInstant) (c : Nat) : Nat :=
  match mfind i.waits c, mfind i.words c with
  | some n, _ => s.scanWord c n
  | none, some w => w
  | none, none => s.chanWord c 0

/-- One frame of a recording buffer (R347, R350, Table 12.3), its samples there. -/
def closeFrame (s : State) (b : Nat) (i : CapInstant) : State :=
  let x := s.buf b
  let words := x.cfg.chans.map (s.closingWord i)
  let vs := (x.cfg.chans.zip words).map fun p => wordValue p.1 p.2
  let c := condOf x i.acc vs i.time i.pins
  let cand := x.cfg.matches c.word && !x.lastMatch
  let agree := fun w => x.cfg.care &&& (2 ^ 64 - 1 - ((w ^^^ x.cfg.value) &&& (2 ^ 64 - 1)))
  let fresh := agree c.word &&& (2 ^ 64 - 1 - agree x.lastC)
  let f : CapFrame := { time := i.time, words := words, hold := i.hold, fo := i.fo }
  let s := match x.state with
    | .filling | .armed => preFrame s b c vs fresh f cand i.force
    | .triggered => match x.cur with | some g => postFrame s b g f cand | none => s
    | .rearm =>
      let s := if cand then s.incSat Obj.CAP_MISSED b else s
      s.setBuf b { s.buf b with rearmLeft := x.rearmLeft - 1 }
    | _ => s
  noteFrame s b c vs words i.time

/-- Complete the oldest open frame, where its samples are there or `all` says that none is waited for. -/
def closeNext (s : State) (b : Nat) (all : Bool) : State :=
  let x := s.buf b
  match x.opens with
  | [] => s
  | i :: t => if all || s.sampled x i then closeFrame (s.setBuf b { x with opens := t }) b i else s

/-- Complete the open frames, oldest first. -/
def closeFrames (s : State) (b : Nat) (all : Bool) : State := (s.buf b).opens.foldl (fun s _ => closeNext s b all) s

/-- Complete the open frames of every buffer whose samples are there. -/
def closeBuffers (s : State) : State := (s.sorus.bufs.filter fun p => !p.2.opens.isEmpty).foldl (fun s p => closeFrames s p.1 false) s

/-- The end a write of 2 asked for, at the next frame (R353). -/
def endCapture (s : State) (b : Nat) : State :=
  let x := { s.buf b with ending := false, starting := false, force := false, auto := false }
  match x.cur with
  | some g => closeSegment (s.setBuf b x) b g true
  | none => s.setBuf b ({ x with state := .idle, pre := [] }).settle

end Sys2Proof.Machine
end

