-- ==== Sys2Proof/Machine/Capture.lean ====
section
/-!
DEFINITION. The commands of Sorus (spec/12_capture.md): arming, frames, releases, trigger pins and ring settings.
-/

namespace Sys2Proof.Machine

open Sys2Proof

/-! ### Buffers -/

/-- Whether a buffer's state is one of those in which it can be armed (R353). -/
def CapState.rests : CapState → Bool
  | .idle | .full | .stopped => true
  | .filling | .armed | .triggered | .rearm => false

/-- CAP_ARM 1 (R353): the staged configuration is taken and FILLING is entered at the next frame. What happens from the arm on counts
toward the first frame (DESIGN CHOICE, log entry 46). -/
def effCapArm (b : Nat) (s : State) : State × Verdict :=
  let x := s.buf b
  if !x.state.rests then (s, .nak .busy)
  else
    let c := s.capCfg b
    match s.armNak b c with
    | some n => (s, .nak n)
    | none =>
      let s := takeCap (atModeBoundary s 7) b
      (s.setBuf b { cfg := c, state := x.state, starting := true, reserved := c.segments * c.segBytes, lastC := c.value,
                    lastTime := s.now, host := s.hostMode 7 }, .ack)

def execCapArm (sess b : Nat) (s : State) : Host.Outcome State Fault Refusal :=
  finish s (hostWrite s sess Obj.CAP_ARM b 1 (effCapArm b))

/-- CAP_ARM 2 (R353): the capture ends at the next frame. -/
def effCapEnd (b : Nat) (s : State) : State × Verdict := (s.setBuf b { s.buf b with ending := true }, .ack)

def execCapEnd (sess b : Nat) (s : State) : Host.Outcome State Fault Refusal :=
  finish s (hostWrite s sess Obj.CAP_ARM b 2 (effCapEnd b))

/-- CAP_FORCE (R356). -/
def effCapForce (b : Nat) (s : State) : State × Verdict :=
  let x := s.buf b
  match x.state with
  | .triggered | .rearm => (s, .nak .busy)
  | .idle | .full | .stopped => (s, .nak .state)
  | .filling => if x.cfg.preMode = 1 then (s, .nak .notReady) else (s.setBuf b { x with force := true }, .ack)
  | .armed => (s.setBuf b { x with force := true }, .ack)

def execCapForce (sess b : Nat) (s : State) : Host.Outcome State Fault Refusal :=
  finish s (hostWrite s sess Obj.CAP_FORCE b 1 (effCapForce b))

/-- Whether the present tick is a frame instant of a buffer: a scan boundary or a strobe, CAP_DECIM of them after its
latest frame (R344). -/
def State.frameDue (s : State) (b : Nat) : Bool :=
  let x := s.buf b
  decide (s.tick % x.cfg.base = 0) &&
    match x.lastTick with
    | some t => decide (t + x.cfg.base * x.cfg.decim ≤ s.tick)
    | none => true

/-- A frame instant: an end asked for, an arm not yet begun, or the instant of a frame (R353). A frame that CAP_AUTO_TIMEOUT makes the
first after an arm stays the one that is forced (R356). -/
def captureFrame (s : State) (b : Nat) : State :=
  let x := s.buf b
  if x.ending then endCapture (closeFrames s b true) b
  else if x.starting then
    openFrame (s.setBuf b { ({ x with starting := false, lastMatch := true, lastC := x.cfg.value }).fill with auto := x.auto }) b
  else if x.live then openFrame s b
  else s

/-- CAPTURE_FRAME: at a frame instant of the buffer the frame begins, and it is complete once the samples of its scan are there: at the
same instant, or at the SAMPLE_DELIVERY that brings the last of them (R344, log entry 46). -/
def execCaptureFrame (b : Nat) (s : State) : Host.Outcome State Fault Refusal :=
  finish s (if b < 8 then closeFrames (if s.frameDue b then captureFrame s b else s) b false else s)

/-- CAP_AUTO_TIMEOUT frames pass with no trigger: the frame now due takes a forced one (R356). -/
def execCapAutoTrigger (b : Nat) (s : State) : Host.Outcome State Fault Refusal :=
  finish s <|
    let x := s.buf b
    let waits := if x.starting then x.cfg.preMode == 0 || x.cfg.pre == 0
      else x.state == .armed || (x.state == .filling && x.cfg.preMode == 0)
    let passed := if x.starting then 0 else x.idleFrames
    if b < 8 ∧ x.cfg.auto ∧ waits ∧ x.cfg.autoTimeout ≤ passed + 1 then s.setBuf b { x with auto := true } else s

def execRearmEnd (b : Nat) (s : State) : Host.Outcome State Fault Refusal :=
  finish s (if b < 8 ∧ (s.buf b).state = .rearm ∧ (s.buf b).rearmLeft = 0 then rearm s b else s)

/-- CAP_RELEASE (R361). -/
def effCapRelease (b : Nat) (seq : Int) (s : State) : State × Verdict :=
  let x := s.buf b
  if x.segs.any fun g => (g.seq : Int) == seq then
    ((s.setBuf b ({ x with segs := x.segs.filter fun g => (g.seq : Int) != seq }).settle).setObj Obj.CAP_RELEASE b seq, .ack)
  else (s, .nak .unknown)

def execCapRelease (sess b : Nat) (seq : Int) (s : State) : Host.Outcome State Fault Refusal :=
  finish s (hostWrite s sess Obj.CAP_RELEASE b seq (effCapRelease b seq))

/-- The mask test of an unreleased segment of a host-assisted capture, which then counts as recorded in hardware mode. -/
def Segment.testLate (g : Segment) : Segment := if g.readyAt.isSome then { g.test 0 with readyAt := none } else g

/-- CAP_HOST_DEADLINE passes with a segment unreleased (R365): every unreleased segment of a host-assisted capture is mask-tested and
counts as recorded in hardware mode, and buffers that wait in REARM go on. -/
def execFallbackCapture (s : State) : Host.Outcome State Fault Refusal :=
  finish s <|
    let late := s.sorus.bufs.any fun p => p.2.segs.any fun g =>
      match g.readyAt with
      | some t => s.elapsed t (1000000 * s.objN Obj.CAP_HOST_DEADLINE 0)
      | none => false
    if late then
      let s := fallback s 7
      let s := { s with sorus := { s.sorus with bufs := mmap (fun _ (x : CapBuf) =>
        { x with segs := x.segs.map Segment.testLate }) s.sorus.bufs } }
      (s.sorus.bufs.filter fun p => p.2.state == .rearm && p.2.rearmLeft == 0).foldl (fun s p => rearm s p.1) s
    else s

/-! ### Samples (R229, R160, R225, R227) -/

/-- The two words of a converter pair reach the Spindles of both lobes, and the frames that take them are completed (R344). -/
def execSampleDelivery (cv pair codeA : Nat) (overA : Bool) (hintA codeB : Nat) (overB : Bool) (hintB : Nat) (s : State) :
    Host.Outcome State Fault Refusal :=
  finish s <|
    if s.ticking && decide (cv < 2624 ∧ pair < 16) then
      let s := deliverOne (closeBuffers s) cv (2 * pair) codeA overA hintA
      let s := deliverOne s cv (2 * pair + 1) codeB overB hintB
      closeBuffers (calLight (calRecord (deliverPair s cv pair) cv pair) cv pair)
    else s

/-! ### Trigger pins (R349, R370) -/

/-- The counter `k` ticks ago, in whole ns. -/
def State.stampBack (s : State) (k : Nat) : Int :=
  let c := s.time.ctr.at s.counterLobe
  floorDiv (c.ns * 4294967296 + c.frac - (k * s.objN Obj.ADDEND 0 : Nat)) 4294967296

/-- A rising edge of TRIG_IN: stamped to the tick of its deglitched level, less 3 ticks. -/
def execTrigInEdge (x : Nat) (s : State) : Host.Outcome State Fault Refusal :=
  finish s <|
    if x < 2 then
      let t := s.stampBack 3
      let s := { s with sorus := { s.sorus with edgeAt := mset s.sorus.edgeAt x s.tick } }
      (s.incWrap Obj.TRIG_IN_EDGES x).capNote fun _ a => { a with edges := (x, t) :: a.edges }
    else s

/-- The level of a trigger output (R370, R552): active while a pulse runs, at the polarity of TRIG_OUT_POL. -/
def State.trigLevel (s : State) (x : Nat) : Bool := (mfind s.sorus.pulseEnd x).isSome != (s.obj Obj.TRIG_OUT_POL x == 1)

/-- A trigger output pulse ends TRIG_OUT_WIDTH ticks after its latest source event. -/
def execTrigOutPulseEnd (x : Nat) (s : State) : Host.Outcome State Fault Refusal :=
  finish s <|
    match mfind s.sorus.pulseEnd x with
    | some t => if t ≤ s.tick then { s with sorus := { s.sorus with pulseEnd := mdel s.sorus.pulseEnd x } } else s
    | none => s

/-! ### Rings (R366 to R369) -/

/-- A change of RING_LENGTH: taken at the next scan boundary (R369); all rings together hold at most 4 GiB (R366). -/
def effRingLength (r : Nat) (v : Int) (s : State) : State × Verdict :=
  let others := ((List.range 16).filter (· ≠ r)).foldl (fun n i => n + s.objN Obj.RING_LENGTH i) 0
  if 4194304 < (others : Int) + v then (s, .nak .full)
  else
    let s := s.setObj Obj.RING_LENGTH r v
    (s.setRing r { s.ring r with pendingLen := some v.toNat }, .ack)

def execRingLength (sess r : Nat) (v : Int) (s : State) : Host.Outcome State Fault Refusal :=
  finish s (hostWrite s sess Obj.RING_LENGTH r v (effRingLength r v))

/-- RING_RP: a record boundary from its present value up to RING_WP (R368). -/
def effRingRp (r : Nat) (v : Int) (s : State) : State × Verdict :=
  let g := s.ring r
  if v = g.wp then (s.setRing r { g with rp := g.wp, recs := [] }, .ack)
  else if g.recs.any fun x => (x.1 : Int) == v then
    (s.setRing r { g with rp := v.toNat, recs := g.recs.dropWhile fun x => (x.1 : Int) != v }, .ack)
  else (s, .nak .range)

def execRingRp (sess r : Nat) (v : Int) (s : State) : Host.Outcome State Fault Refusal :=
  finish s (hostWrite s sess Obj.RING_RP r v (effRingRp r v))

/-- Whether the capture path carries a ring's newest channels (R345). -/
def State.ringFits (s : State) : Bool := decide (s.scanWords 8 s.ringWords ≤ 1024)

/-- RING_ENABLE: refused while the ring has no length (Table 12.9). -/
def effRingEnable (r : Nat) (v : Int) (s : State) : State × Verdict :=
  if s.obj Obj.RING_LENGTH r = 0 then (s, .nak .state)
  else
    let s' := s.setObj Obj.RING_ENABLE r v
    if v = 1 ∧ ¬ s'.ringFits then (s, .nak .full) else (s', .ack)

/-- RING_CHANNELS: valid selectors that the capture path can carry. -/
def effRingChannels (r : Nat) (b : List Byte) (s : State) : State × Verdict :=
  if !((List.range 256).all fun j => chanSelOk (be b (4 * j) 4)) then (s, .nak .range)
  else
    let s' := s.setOct Obj.RING_CHANNELS r b
    if s'.ringFits then (s', .ack) else (s, .nak .full)

/-- One ring at a scan boundary: newest settings, a change of length, RING_RESET, and its SAMPLES record (R366, R369). -/
def ringScan (s : State) (r : Nat) : State :=
  let g := s.ring r
  let g := match g.pendingLen with
    | some n => { g with pendingLen := none, length := 1024 * n, rp := 0, wp := 0, recs := [], gap := 0, overflow := false,
                         resetDue := some (g.resetDue.getD 1) }
    | none => g
  let decim := s.objN Obj.RING_DECIM r
  let g := { g with enable := s.obj Obj.RING_ENABLE r == 1, events := s.obj Obj.RING_EVENTS r == 1,
                    commits := s.obj Obj.RING_COMMITS r == 1, overwrite := s.obj Obj.RING_POLICY r == 1,
                    decim := decim, scansLeft := decim - (g.decim - g.scansLeft), chans := chanList (s.oct Obj.RING_CHANNELS r) 256 }
  let s := match g.resetDue with
    | some why =>
      if g.enable && g.length != 0 then
        let s := s.setRing r { g with resetDue := none }
        let kib := g.length / 1024
        let (s, _) := ringPut s r 4 s.ringFlags s.now (leBytes 4 kib ++ leBytes 1 why ++ leBytes 3 0)
        raiseS s 0x7006 [.word r, .word kib, .word why]
      else s.setRing r g
    | none => s.setRing r g
  let g := s.ring r
  if !g.enable || g.length == 0 || g.chans.isEmpty then s
  else if 1 < g.scansLeft then s.setRing r { g with scansLeft := g.scansLeft - 1 }
  else
    let s := s.setRing r { g with scansLeft := g.decim }
    let body := (g.chans.map fun c => leBytes 4 (s.chanWord c (s.elemWord (chanIndexOf c)))).flatten
    let (s, overRange) := ringPut s r 1 s.ringFlags s.now body
    if overRange then ringOverflow s r else s

def ringsScan (s : State) : State := (List.range 16).foldl ringScan s

end Sys2Proof.Machine
end

