-- ==== Sys2Proof/Machine/GougeOps.lean ====
section
/-!
DEFINITION. The MAC checks of R376, the parser (R384, R385), checksums (R379), the Gouge trees and their checks (R386,
R392), and the factory rule set (R394).
-/

namespace Sys2Proof.Machine

open Sys2Proof

/-! ### The frame's headers -/

/-- The ports that carry an address set (R380). -/
def State.portsOf (s : State) (a : Nat) : List Nat := if s.obj Obj.PORT_MODE 0 = 1 then [a] else [0, 1]

/-- The module's IPv6 addresses in an address set. -/
def State.ipv6Own (s : State) (a : Nat) : List (List Byte) :=
  let g := s.oct Obj.IPV6_ADDR a
  ((s.portsOf a).map fun x => linkLocal (s.oct Obj.MAC_ADDR x)) ++ (if allZero g then [] else [g])

/-- The module addresses of a set, each as 16 bytes (R380). -/
def State.ownAddrs (s : State) (a : Nat) : List (List Byte) :=
  let v4 := s.objN Obj.IPV4_ADDR a
  s.ipv6Own a ++ (if v4 = 0 then [] else [mapV4 (beBytes 4 v4)])

/-- The groups the module listens to: GROUP_ADDR where used. -/
def State.groups (s : State) : List (List Byte) :=
  ((List.range 16).map fun n => s.oct Obj.GROUP_ADDR n).filter fun g => !allZero g

/-- Whether an address is a PTP group of IEEE 1588 (Annexes C and D). -/
def ptpGroup (a : List Byte) : Bool :=
  if mappedV4 a then a.drop 12 == [224, 0, 1, 129] || a.drop 12 == [224, 0, 0, 107]
  else (be a 0 1 == 0xFF && be a 1 1 < 16 && be a 2 14 == 0x181) || (be a 0 2 == 0xFF02 && be a 2 14 == 0x6B)

/-- The multicast MAC addresses accepted (R377). -/
def State.multicastMacs (s : State) : List (List Byte) :=
  s.groups.map groupMac ++
    (((if s.obj Obj.PORT_MODE 0 = 1 then [0, 1] else [0]).map fun a => s.ipv6Own a).flatten.map fun g => [0x33, 0x33, 0xFF] ++ slice g 13 3) ++
    [[1, 0x1B, 0x19, 0, 0, 0], [1, 0x80, 0xC2, 0, 0, 0x0E]] ++
    [[1, 0, 0x5E, 0, 1, 0x81], [1, 0, 0x5E, 0, 0, 0x6B], [0x33, 0x33, 0, 0, 1, 0x81], [0x33, 0x33, 0, 0, 0, 0x6B]]

/-- Whether a VID is accepted on a port (check 6 of Table 13.1). -/
def State.vidOk (s : State) (x vid : Nat) : Bool :=
  vid == 0 || vid == s.objN Obj.MGMT_VID (s.setOf x) ||
    (List.range 16).any fun j => s.objN Obj.ACCEPT_VID (16 * x + j) == vid

/-- The counter of the first MAC check a frame fails, in the order of Table 13.1. `f` is without its FCS. -/
def macCheck (s : State) (x : Nat) (f : List Byte) (fcsOk : Bool) : Option Nat :=
  let len := f.length + 4
  let h := headers f
  if len < 64 then some Obj.RX_RUNT
  else if s.objN Obj.MAX_FRAME x + 4 * tagCount (f.drop 12) < len then some Obj.RX_OVERSIZE
  else if !fcsOk then some Obj.RX_FCS_ERRORS
  else if be f 12 2 = 0x8808 then some Obj.RX_PAUSE
  else
    let d := f.take 6
    if !(d == broadcastMac || d == s.oct Obj.MAC_ADDR 0 || d == s.oct Obj.MAC_ADDR 1 || s.multicastMacs.contains d) then
      some Obj.RX_ADDR_FILTERED
    else if !s.vidOk x h.vid then some Obj.RX_VLAN_FILTERED
    else none

/-! ### Parse outcomes and checksums -/

/-- A checksum over data that includes the checksum field is right. -/
def sumOk (n : Nat) : Bool := decide (n % 65535 = 0 ∧ 0 < n)

def udpLenBad (h : Headers) : Bool :=
  isUdp h && (be (udpPart h) 4 2 != (udpPart h).length || decide ((udpPart h).length < 8))

/-- Condition 2 of Table 13.5. -/
def unparsable (h : Headers) : Bool :=
  let b := h.body
  (h.etype == 0x0800 && (be b 0 1 / 16 != 4 || decide (ihl b < 5) || decide (b.length < be b 2 2))) ||
    (h.etype == 0x86DD && (be b 0 1 / 16 != 6 || decide (b.length < 40 + be b 4 2))) || udpLenBad h ||
    (h.etype == 0x0806 && decide (b.length < 28))

/-- The reason for which a frame bypasses the trees (Table 13.5). -/
def parseOutcome (f : List Byte) : Option Nat :=
  let h := headers f
  let b := h.body
  let next := be b 6 1
  if be f 12 2 = 0x88A8 ∨ (h.tagged ∧ (h.etype = 0x8100 ∨ h.etype = 0x88A8)) then some 5
  else if unparsable h then some 1
  else if (h.etype = 0x0800 ∧ be b 6 2 % 16384 ≠ 0) ∨ (h.etype = 0x86DD ∧ next = 44) then some 2
  else if h.etype = 0x0800 ∧ 5 < ihl b then some 3
  else if h.etype = 0x86DD ∧ (next = 0 ∨ next = 43 ∨ next = 50 ∨ next = 51 ∨ next = 60) then some 4
  else none

/-- The IPv4 header checksum is wrong (R379). -/
def headerBad (h : Headers) : Bool :=
  h.etype == 0x0800 && be h.body 0 1 / 16 == 4 && decide (5 ≤ ihl h.body) && !sumOk (sum16 (h.body.take (4 * ihl h.body)))

/-- The UDP checksum is wrong, or absent over IPv6 (R379). -/
def udpBad (h : Headers) : Bool :=
  let d := udpPart h
  let addrs := if h.etype = 0x0800 then slice h.body 12 8 else slice h.body 8 32
  isUdp h && (if be d 6 2 = 0 then h.etype == 0x86DD else !sumOk (sum16 addrs + 17 + d.length + sum16 d))

/-- R379: the frame is dropped and counted in RX_CHECKSUM_BAD. A UDP datagram is judged wherever it stands whole in the frame,
behind IPv4 options too. -/
def checksumBad (f : List Byte) : Bool :=
  let h := headers f
  headerBad h || (((parseOutcome f).isNone || parseOutcome f == some 3) && udpBad h)

/-! ### The classification key (Table 13.4) -/

def l3Code (h : Headers) : Nat :=
  if h.etype = 0x0800 then 1 else if h.etype = 0x86DD then 2 else if h.etype = 0x0806 then 3 else 0

/-- The UDP destination port, if the frame has one. -/
def udpDst (h : Headers) : Option Nat := if isUdp h then some (be (udpPart h) 2 2) else none

/-- Word w0 of the key, PASS clear. -/
def keyFlags (s : State) (x : Nat) (f : List Byte) (h : Headers) : Nat :=
  let d := f.take 6
  let dst := (addresses h).2
  let ip := l3Code h != 0
  let port := udpDst h
  let bcast := d == broadcastMac
  x + 4 * boolNat (h.tagged && h.vid != 0) + 8 * l3Code h + 0x20 * boolNat (isUdp h) +
    0x40 * boolNat (d == s.oct Obj.MAC_ADDR 0 || d == s.oct Obj.MAC_ADDR 1) + 0x80 * boolNat bcast +
    0x100 * boolNat (!bcast && be d 0 1 % 2 == 1) +
    0x200 * boolNat (ip && (s.ownAddrs (s.setOf x)).contains dst) +
    0x400 * boolNat (ip && h.etype != 0x0806 && (s.groups.contains dst || ptpGroup dst)) +
    0x800 * boolNat (h.etype == 0x88F7 || port == some 319 || port == some 320) +
    0x1000 * boolNat (port == some 0xBA7E)

/-- Four key words of an address. -/
def addrWords (a : List Byte) : List Nat := (List.range 4).map fun i => be a (4 * i) 4

/-- The key w0 to w15 of a first pass. -/
def keyOf (s : State) (x : Nat) (f : List Byte) : List Nat :=
  let h := headers f
  let (src, dst) := addresses h
  let tos := if h.etype = 0x0800 then be h.body 1 1 else if h.etype = 0x86DD then be h.body 0 2 / 16 % 256 else 0
  let proto := if h.etype = 0x0800 then be h.body 9 1 else if h.etype = 0x86DD then be h.body 6 1 else 0
  let udp := if isUdp h then udpPart h else []
  let pay := padTo 8 (udp.drop 8)
  [keyFlags s x f h, h.etype + 0x10000 * h.vid + 0x10000000 * (h.tci / 8192) + 0x80000000 * (h.tci / 4096 % 2),
   be f 6 4, be f 10 2 + 0x10000 * tos + 0x1000000 * proto] ++ addrWords src ++ addrWords dst ++
    [be udp 0 4, be pay 0 4, be pay 4 4, 0]

def keyWord (k : List Nat) (n : Nat) : Nat := k.getD n 0

/-- A guard frame: DST_OWN, UDP and EXVAN are set (R391). -/
def guardKey (k : List Nat) : Bool := keyWord k 0 &&& 0x1220 == 0x1220

/-! ### Nodes and walks (R386) -/

/-- The bytes of a TEST node. -/
def testNode (op word mask value t f : Nat) : List Byte :=
  leBytes 1 0 ++ leBytes 1 op ++ leBytes 1 word ++ leBytes 1 0 ++ leBytes 4 mask ++ leBytes 4 value ++ leBytes 2 t ++ leBytes 2 f

/-- The bytes of a LEAF node that does not recirculate, with no policer. -/
def leafNode (action cls counter reason : Nat) : List Byte :=
  leBytes 1 1 ++ leBytes 1 action ++ leBytes 1 cls ++ leBytes 1 0xFF ++ leBytes 2 counter ++ leBytes 1 0 ++ leBytes 1 reason ++
    leBytes 8 0

/-- The factory rule set (Table 13.10): the outcomes are the spec's, their placing in nodes is a choice (log entry 27).
Every further node is the last outcome's leaf. -/
def factoryNode (n : Nat) : List Byte :=
  match n with
  | 0 => testNode 0 0 0x800 0x800 9 1
  | 1 => testNode 0 0 0x1220 0x1220 10 2
  | 2 => testNode 0 0 0x1420 0x1420 10 3
  | 3 => testNode 0 0 0x18 0x18 11 4
  | 4 => testNode 0 0 0x18 0x10 5 6
  | 5 => testNode 0 3 0xFF000000 0x3A000000 12 15
  | 6 => testNode 0 0 0x18 0x08 7 15
  | 7 => testNode 0 3 0xFF000000 0x01000000 13 8
  | 8 => testNode 0 3 0xFF000000 0x02000000 14 15
  | 9 => leafNode 2 7 1017 0
  | 10 => leafNode 1 6 1018 0
  | 11 => leafNode 3 5 1019 1
  | 12 => leafNode 3 5 1020 2
  | 13 => leafNode 3 5 1021 3
  | 14 => leafNode 3 5 1022 4
  | _ => leafNode 0 0 1023 0

def nodeOf (bank : SMap (List Byte)) (n : Nat) : List Byte := (mfind bank n).getD (factoryNode n)

/-- Whether a TEST node's test holds. -/
def testHolds (nd : List Byte) (k : List Nat) : Bool :=
  let v := keyWord k (le nd 2 1) &&& le nd 4 4
  match le nd 1 1 with
  | 0 => v == le nd 8 4
  | 1 => decide (v < le nd 8 4)
  | _ => decide (le nd 8 4 < v)

/-- Walk a bank from a node: at most 32 TEST nodes come before a LEAF (check 7 of Table 13.8). -/
def walk (bank : SMap (List Byte)) (k : List Nat) : Nat → Nat → List Byte
  | 0, _ => factoryNode 4095
  | fuel + 1, n =>
    let nd := nodeOf bank n
    if le nd 0 1 = 1 then nd else walk bank k fuel (if testHolds nd k then le nd 12 2 else le nd 14 2)

/-! ### The checks of a rule set (Table 13.8) -/

def isLeaf (nd : List Byte) : Bool := le nd 0 1 == 1

/-- Checks 1 to 6 of one node, 0 if it passes. -/
def nodeCheck (n : Nat) (nd : List Byte) : Nat :=
  let op := le nd 1 1
  let zeros := if isLeaf nd then le nd 6 1 < 2 ∧ le nd 14 2 = 0 else le nd 3 1 = 0
  if 1 < le nd 0 1 ∨ ¬ zeros then 1
  else if isLeaf nd then
    if 4 < op ∨ 7 < le nd 2 1 ∨ (63 < le nd 3 1 ∧ le nd 3 1 ≠ 0xFF) ∨ 1023 < le nd 4 2 then 5
    else if (op = 4 ∧ ¬ (1 ≤ le nd 12 2 ∧ le nd 12 2 ≤ 4095)) ∨ (op ≠ 4 ∧ le nd 12 2 ≠ 0) then 6
    else 0
  else if 15 < le nd 2 1 ∨ 2 < op then 2
  else if op = 0 ∧ le nd 8 4 &&& le nd 4 4 ≠ le nd 8 4 then 3
  else if le nd 12 2 ≤ n ∨ le nd 14 2 ≤ n ∨ 4095 < le nd 12 2 ∨ 4095 < le nd 14 2 then 4
  else 0

/-- The most TEST nodes on a walk from each node of 4,096, front to back. A walk is followed up to the first node that fails
checks 1 to 6, whose successors mean nothing. -/
def depths (bank : SMap (List Byte)) : List Nat :=
  (List.range 4096).foldr (fun n ds =>
    let nd := nodeOf bank n
    (if isLeaf nd then 0 else if nodeCheck n nd ≠ 0 then 1 else 1 + max (ds.getD (le nd 12 2 - n - 1) 0) (ds.getD (le nd 14 2 - n - 1) 0)) :: ds) []

/-- Where walks start: node 0 and the NEXT of every recirculating leaf. -/
def walkStarts (bank : SMap (List Byte)) : List Nat :=
  0 :: (((List.range 4096).map (nodeOf bank)).filter fun nd => isLeaf nd && le nd 1 1 == 4).map fun nd => le nd 12 2

/-- The first failing node of a bank and its check, in node order (R392). -/
def ruleFault (bank : SMap (List Byte)) : Option (Nat × Nat) :=
  let starts := walkStarts bank
  let deep := depths bank
  ((List.range 4096).map fun n =>
      let c := nodeCheck n (nodeOf bank n)
      (n, if c = 0 ∧ starts.contains n ∧ 32 < deep.getD n 0 then 7 else c)).find? fun p => p.2 != 0

end Sys2Proof.Machine
end

