-- ==== Sys2Proof/Machine/Protocols.lean ====
section
/-!
DEFINITION. The frames the management cores form under the protocols of Table 13.2: their answers to LEAF frames with REASON
1 to 4 (R378, R396), and the address announcements and group reports of R380 and R382. The layouts are those of the RFCs the
table names; what these leave to the sender is a choice (log entry 193). A frame stands here without tag and FCS.
-/

namespace Sys2Proof.Machine

open Sys2Proof

/-- FF02::1, FF02::16 and the solicited-node group of an address. -/
def allNodes : List Byte := [0xFF, 2, 0, 0, 0, 0, 0, 0, 0, 0, 0, 0, 0, 0, 0, 1]

def mldRouters : List Byte := [0xFF, 2, 0, 0, 0, 0, 0, 0, 0, 0, 0, 0, 0, 0, 0, 0x16]

def solicitedNode (a : List Byte) : List Byte := [0xFF, 2, 0, 0, 0, 0, 0, 0, 0, 0, 0, 1, 0xFF] ++ slice a 13 3

/-! ### The sending port -/

/-- The address sets in use (R380). -/
def State.sets (s : State) : List Nat := if s.obj Obj.PORT_MODE 0 = 1 then [0, 1] else [0]

/-- The IPv4 address of a set as 4 bytes. -/
def State.ownV4 (s : State) (a : Nat) : List Byte := beBytes 4 (s.objN Obj.IPV4_ADDR a)

/-- Leave a formed frame, if any, for its egress queue. -/
def sendOwn (s : State) (a : Nat) (f : List Byte) : State :=
  if f.isEmpty then s else { s with net := { s.net with toSend := s.net.toSend ++ [(s.txPort a, f)] } }

/-! ### Announcements and reports -/

def arpFrame (op : Nat) (dst src tha spa tpa : List Byte) : List Byte :=
  etherFrame dst src 0x0806 ([0, 1, 8, 0, 6, 4] ++ beBytes 2 op ++ src ++ spa ++ tha ++ tpa)

/-- The gratuitous ARP of a set: nothing while the set has no IPv4 address. -/
def State.gratuitousArp (s : State) (a : Nat) : List Byte :=
  if s.obj Obj.IPV4_ADDR a = 0 then []
  else arpFrame 1 broadcastMac (s.txMac a) (List.replicate 6 0) (s.ownV4 a) (s.ownV4 a)

/-- A neighbour advertisement for an address, solicited or not. -/
def State.advert (s : State) (a : Nat) (solicited : Bool) (dstMac dst target : List Byte) : List Byte :=
  let mac := s.txMac a
  etherFrame dstMac mac 0x86DD (icmp6Packet 255 target dst
    ([136, 0, 0, 0, (if solicited then 0x60 else 0x20), 0, 0, 0] ++ target ++ [2, 1] ++ mac))

/-- The probe of duplicate address detection for an address. -/
def State.probe (s : State) (a : Nat) (target : List Byte) : List Byte :=
  let g := solicitedNode target
  etherFrame (groupMac g) (s.txMac a) 0x86DD (icmp6Packet 255 (List.replicate 16 0) g ([135, 0, 0, 0, 0, 0, 0, 0] ++ target))

/-- Group records without sources. -/
def groupRecords (kind : Nat) (groups : List (List Byte)) : List Byte :=
  (groups.map fun g => beBytes 1 kind ++ [0, 0, 0] ++ g).flatten

/-- An IGMPv3 report of IPv4 groups: record 4 at a join, 2 on a query. -/
def State.igmpReport (s : State) (a kind : Nat) (groups : List (List Byte)) : List Byte :=
  let gs := (groups.filter mappedV4).map v4Of
  if gs.isEmpty ∨ s.obj Obj.IPV4_ADDR a = 0 then []
  else etherFrame [1, 0, 0x5E, 0, 0, 0x16] (s.txMac a) 0x0800 (ipv4Packet 2 1 (s.ownV4 a) [224, 0, 0, 22] [0x94, 4, 0, 0]
    (withChecksum 2 0 ([0x22, 0, 0, 0, 0, 0] ++ beBytes 2 gs.length ++ groupRecords kind gs)))

/-- An MLDv2 report of IPv6 groups, from the link-local address of the sending port, behind a router alert. -/
def State.mldReport (s : State) (a kind : Nat) (groups : List (List Byte)) : List Byte :=
  let gs := groups.filter fun g => !mappedV4 g
  let src := linkLocal (s.txMac a)
  let msg := [143, 0, 0, 0, 0, 0] ++ beBytes 2 gs.length ++ groupRecords kind gs
  if gs.isEmpty then []
  else etherFrame (groupMac mldRouters) (s.txMac a) 0x86DD (ipv6Packet 0 1 src mldRouters
    ([58, 0, 5, 2, 0, 0, 1, 0] ++ withChecksum 2 (pseudo6 src mldRouters msg) msg))

/-- The reports of some groups on one set. -/
def sendReports (s : State) (a kind : Nat) (groups : List (List Byte)) : State :=
  sendOwn (sendOwn s a (s.igmpReport a kind groups)) a (s.mldReport a kind groups)

/-- The announcements of one set (R382): ARP, an advertisement for each IPv6 address, reports for every group. -/
def announceSet (s : State) (a : Nat) : State :=
  let s := sendOwn s a (s.gratuitousArp a)
  let s := (s.ipv6Own a).foldl (fun s g => sendOwn s a (s.advert a false (groupMac allNodes) allNodes g)) s
  sendReports s a 4 s.groups

/-- The announcements of every set in use, sent once. -/
def announceAll (s : State) : State :=
  let s := s.sets.foldl announceSet s
  { s with net := { s.net with announced := s.net.announced + 1 } }

/-- The address announcements of Table 13.3: one now, repeated 10 ms and 20 ms later. -/
def announceNow (s : State) : State :=
  { announceAll s with net := { (announceAll s).net with announce := [s.tick + 1562500, s.tick + 3125000] } }

/-! ### Answers -/

/-- The answer to an ARP request for the set's IPv4 address. -/
def State.arpAnswer (s : State) (a : Nat) (b : List Byte) : List Byte :=
  if be b 0 2 = 1 ∧ be b 2 2 = 0x0800 ∧ be b 6 2 = 1 ∧ s.obj Obj.IPV4_ADDR a ≠ 0 ∧ slice b 24 4 = s.ownV4 a then
    arpFrame 2 (slice b 8 6) (s.txMac a) (slice b 8 6) (s.ownV4 a) (slice b 14 4)
  else []

/-- The answer to an ICMP echo request for the set's IPv4 address. -/
def State.echoAnswer (s : State) (a : Nat) (h : Headers) (src dst : List Byte) (asker : List Byte) : List Byte :=
  let m := (h.body.take (be h.body 2 2)).drop (4 * ihl h.body)
  if be m 0 1 = 8 ∧ sumOk (sum16 m) ∧ dst = s.ownV4 a then
    etherFrame asker (s.txMac a) 0x0800 (ipv4Packet 1 64 dst src [] (withChecksum 2 0 ([0, 0, 0, 0] ++ m.drop 4)))
  else []

/-- The answer to a neighbour solicitation or an ICMPv6 echo request. -/
def State.icmp6Answer (s : State) (a : Nat) (h : Headers) (m src dst asker : List Byte) : List Byte :=
  let target := slice m 8 16
  if !sumOk (sum16 m + pseudo6 src dst m) then []
  else if be m 0 1 = 135 ∧ be h.body 7 1 = 255 ∧ (s.ipv6Own a).contains target then
    if allZero src then s.advert a false (groupMac allNodes) allNodes target else s.advert a true asker src target
  else if be m 0 1 = 128 ∧ (s.ipv6Own a).contains dst then
    etherFrame asker (s.txMac a) 0x86DD (icmp6Packet 64 dst src ([129, 0, 0, 0] ++ m.drop 4))
  else []

/-- Port unreachable, for a UDP datagram to a module address that a leaf has sent here: the packet's first bytes come back. -/
def State.unreachable (s : State) (a : Nat) (h : Headers) (src dst asker : List Byte) : List Byte :=
  if !(s.ownAddrs a).contains dst then []
  else if h.etype = 0x0800 then
    etherFrame asker (s.txMac a) 0x0800 (ipv4Packet 1 64 (v4Of dst) (v4Of src) []
      (withChecksum 2 0 ([3, 3, 0, 0, 0, 0, 0, 0] ++ h.body.take (4 * ihl h.body + 8))))
  else
    etherFrame asker (s.txMac a) 0x86DD (icmp6Packet 64 dst src ([1, 4, 0, 0, 0, 0, 0, 0] ++ (h.body.take (40 + be h.body 4 2)).take 1232))

/-- The groups a query asks for: every one, or the one it names. -/
def askedGroups (q : List Byte) (groups : List (List Byte)) : List (List Byte) :=
  if allZero q then groups else groups.filter (· == (if q.length = 4 then mapV4 q else q))

/-- Note the MAC address a neighbour has told. -/
def learn (s : State) (a : Nat) (addr mac : List Byte) : State :=
  { s with net := { s.net with
      neighbours := (a, addr, mac) :: s.net.neighbours.filter fun e => !(e.1 == a && e.2.1 == addr) } }

/-- A neighbour advertisement tells its target's address, a router advertisement from a link-local address the gateway's (R378). -/
def heedAdvert (s : State) (a : Nat) (h : Headers) (m src asker : List Byte) : State :=
  if be h.body 7 1 ≠ 255 then s
  else if be m 0 1 = 136 ∧ 24 ≤ m.length then learn s a (slice m 8 16) asker
  else if be m 0 1 = 134 ∧ be src 0 2 / 64 = 0x3FA then
    learn { s with net := { s.net with routers := mset s.net.routers a src } } a src asker
  else s

/-- The management cores answer a frame (R396, Table 13.2); a destination unreachable is counted. -/
def answerFrame (s : State) (f : RxFrame) : State :=
  let h := headers f.bytes
  let a := s.setOf f.port
  let (src, dst) := addresses h
  let asker := slice f.bytes 6 6
  let count := fun (s : State) => { s with net := { s.net with unreachables := s.net.unreachables + 1 } }
  if h.etype = 0x0806 then
    if be h.body 6 2 = 2 then learn s a src (slice h.body 8 6) else sendOwn s a (s.arpAnswer a h.body)
  else if isUdp h then sendOwn s a (s.unreachable a h src dst asker)
  else if h.etype = 0x0800 ∧ be h.body 9 1 = 1 then
    if be h.body (4 * ihl h.body) 1 = 3 then count s else sendOwn s a (s.echoAnswer a h (v4Of src) (v4Of dst) asker)
  else if h.etype = 0x0800 ∧ be h.body 9 1 = 2 then
    let m := h.body.drop (4 * ihl h.body)
    if be m 0 1 = 0x11 then sendOwn s a (s.igmpReport a 2 (askedGroups (slice m 4 4) s.groups)) else s
  else if h.etype = 0x86DD ∧ be h.body 6 1 = 58 then
    let m := (h.body.drop 40).take (be h.body 4 2)
    if be m 0 1 = 1 then count s
    else if be m 0 1 = 130 then sendOwn s a (s.mldReport a 2 (askedGroups (slice m 8 16) s.groups))
    else sendOwn (heedAdvert s a h m src asker) a (s.icmp6Answer a h m src dst asker)
  else s

end Sys2Proof.Machine
end

