-- ==== Sys2Proof/Machine/Reception.lean ====
section
/-!
DEFINITION. What the Exvan engine does with a frame before its operation is carried out: the checks of Table 16.4, the
replay windows (R459, R461), and FRAME_REJECTED. The operation itself is a command of its own (log entry 6).
-/

namespace Sys2Proof.Machine

open Sys2Proof

/-- Check 1 of Table 16.4. -/
def frameFormatOk (p : List Byte) : Bool :=
  decide (40 ≤ p.length) && p.length == 40 + be p 20 2 && decide (be p 20 2 ≤ 8192) && be p 20 2 % 4 == 0 &&
    be p 0 2 == 0x4558 && be p 2 1 == 1 && be p 6 1 / 4 == 0 && be p 22 2 == 0

/-- Whether a SEQ passes a replay window (R459). -/
def windowOk (high : Nat) (seen : List Nat) (seq : Nat) : Bool :=
  decide (high < seq) || (decide (high < seq + 64) && !seen.contains seq)

/-- A window after a SEQ it accepts. -/
def windowTake (high : Nat) (seen : List Nat) (seq : Nat) : Nat × List Nat :=
  let h := max high seq
  (h, (seq :: seen).filter fun x => decide (h < x + 64))

/-- Whether a KEY_GEN byte names the current generation of a key, or the previous one within KEY_OVERLAP (check 4). -/
def State.keyGenOk (s : State) (k gen8 : Nat) : Bool :=
  let g := s.objN Obj.KEY_GEN k
  gen8 == g % 256 || ((mfind s.ex.prevKeys (4 * (g - 1) + k)).isSome && gen8 == (g - 1) % 256)

/-- The group replay window of a source, for a generation. -/
def State.groupWin (s : State) (source gen : Nat) : GroupWin :=
  (s.ex.groupWins.find? fun w => w.source == source && w.gen == gen).getD { source, gen, high := 0, seen := [] }

def State.setGroupWin (s : State) (w : GroupWin) : State :=
  { s with ex := { s.ex with groupWins := w :: s.ex.groupWins.filter fun v => !(v.source == w.source && v.gen == w.gen) } }

/-- The generation of K_G that a KEY_GEN byte names. -/
def State.groupGenOf (s : State) (gen8 : Nat) : Nat :=
  let g := s.objN Obj.KEY_GEN 3
  if gen8 = g % 256 then g else g - 1

/-! ### Malformed requests (R455, R456) -/

/-- The entries of a WRITE body (R468): whether they fill it, each with its value padded. -/
def writeEntriesOk : Nat → List Byte → Bool
  | _, [] => true
  | 0, _ => false
  | n + 1, b =>
    let len := be b 8 2
    let all := 12 + len + (4 - len % 4) % 4
    decide (12 ≤ b.length ∧ all ≤ b.length) && be b 10 2 == 0 && writeEntriesOk n (b.drop all)

/-- The COMMIT body (Table 16.3) keeps zero what Table 4.1 marks "—": a PREPARE has no T, a CANCEL only its COMMIT_ID, a COMMIT
no SLOT. -/
def commitBodyOk (b : List Byte) : Bool :=
  let form := be b 0 1
  b.length == 24 && be b 2 2 == 0 && decide (1 ≤ form ∧ form ≤ 3) &&
    (if form = 1 then be b 12 12 == 0 else be b 8 4 == 0) && (form != 3 || (be b 1 1 == 0 && be b 12 12 == 0))

/-- Whether a host may send an operation with a body (Table 16.2). -/
def bodyOk (op : Nat) (b : List Byte) : Bool :=
  match op with
  | 0x02 => b.isEmpty
  | 0x03 => decide (b.length ≤ 64)
  | 0x10 => decide (1 ≤ b.length / 8 ∧ b.length / 8 ≤ 64) && b.length % 8 == 0 && ((List.range (b.length / 8)).all fun i => be b (8 * i + 3) 1 == 0)
  | 0x11 => !b.isEmpty && writeEntriesOk 64 b
  | 0x12 => b.length == 16 && be b 3 1 == 0 && decide (1 ≤ be b 12 4 ∧ be b 12 4 ≤ 8192)
  | 0x13 => decide (16 < b.length) && be b 3 1 == 0
  | 0x14 => b.length == 8 && decide (be b 0 1 ≤ 7 ∧ be b 1 1 ≤ 1) && be b 6 2 == 0
  | 0x20 => commitBodyOk b
  | _ => false

/-- What stands in a lane for a request whose body is malformed: an ECHO of more than 64 bytes, which is answered NAK FORMAT. -/
def malformed (sess req : Nat) : Instr := .echo sess req (List.replicate 65 0)

/-- A malformed request is answered NAK FORMAT in its turn (R455), with its COMMIT_ID where it is a COMMIT that has one, and so is a peer
abort from a host; a well-formed request is carried out by its own command (log entry 6). `sess` is the session, or 0x10000 and the source for a group frame. -/
def answerMalformed (s : State) (sess : Nat) (p : List Byte) : State :=
  let op := be p 3 1
  let req := be p 12 4
  let body := (p.drop 24).take (be p 20 2)
  if (op = 0x21 ∧ 0x10000 ≤ sess ∧ sess < 0x18000) ∨ bodyOk op body then s
  else if op = 0x20 then
    request s sess req .commit (malformed sess req) fun s _ =>
      answerCommit s sess req (.nak .format 0 (if 8 ≤ body.length then be body 4 4 else 0))
  else if 0x10000 ≤ sess then answerCommit s sess req (.nak .format 0 0)
  else request s sess req .object (malformed sess req) fun s _ => answer s sess req 0 0 (.nak .format 0 0)

/-! ### Sessions and groups -/

/-- The Exvan frame that a received frame carries: on the UART the frame itself, else the payload of its datagram. -/
def RxFrame.exvan (f : RxFrame) : List Byte := if f.port = 2 then f.bytes else (udpPart (headers f.bytes)).drop 8

/-- Where a frame came from. One sent to a group is answered from the address of its kind. -/
def State.originOf (s : State) (f : RxFrame) : Origin :=
  if f.port = 2 then { uart := true }
  else
    let h := headers f.bytes
    let (src, dst) := addresses h
    let a := s.setOf f.port
    { port := f.port, mac := slice f.bytes 6 6, ip := src, own := if groupAddr dst then s.ownAddr a src else dst, udpPort := be (udpPart h) 0 2 }

/-- Checks 4 to 6 of a session's frame, and its effect on the session. -/
def receiveSession (s : State) (f : RxFrame) (p : List Byte) (i : Nat) (x : Session) : State :=
  let seq := be p 8 4
  if be p 7 1 ≠ x.keyGen % 256 ∨ ¬ s.keyGenOk x.level (be p 7 1) then rejectFrame s Obj.AUTH_FAILS 4
  else if !f.tagOk then rejectFrame s Obj.AUTH_FAILS 5
  else if !windowOk x.rxHigh x.rxSeen seq then rejectFrame s Obj.REPLAY_DROPS 6
  else
    let (h, seen) := windowTake x.rxHigh x.rxSeen seq
    let o := s.originOf f
    let x := { x with rxHigh := h, rxSeen := seen, lastFrame := s.tick, uart := o.uart, udpPort := o.udpPort
                      ip := if o.uart then List.replicate 16 0 else o.ip
                      origin := some o, origins := mset x.origins (be p 12 4) o }
    let s := s.setSession i x
    let s := answerMalformed { s with net := { s.net with exvanIn := f :: s.net.exvanIn } } x.num p
    if seq = u32Max then closeSession s x.num 4 else s

/-- Checks 4 to 6 of a group frame. -/
def receiveGroup (s : State) (f : RxFrame) (p : List Byte) : State :=
  let seq := be p 8 4
  if !s.keyGenOk 3 (be p 7 1) then rejectFrame s Obj.AUTH_FAILS 4
  else if !f.tagOk then rejectFrame s Obj.AUTH_FAILS 5
  else
    let w := s.groupWin (be p 16 2) (s.groupGenOf (be p 7 1))
    if !windowOk w.high w.seen seq then rejectFrame s Obj.REPLAY_DROPS 6
    else
      let (h, seen) := windowTake w.high w.seen seq
      let s := s.setGroupWin { w with high := h, seen, origin := some (s.originOf f) }
      answerMalformed { s with net := { s.net with exvanIn := f :: s.net.exvanIn } } (0x10000 + be p 16 2) p

/-- The generation and the key that a KEY_GEN byte names (check 4 of Table 16.4). -/
def State.keyNamed (s : State) (k gen8 : Nat) : Nat × List Byte :=
  let g := s.objN Obj.KEY_GEN k
  if gen8 = g % 256 then (g, s.customerKey k)
  else (g - 1, ((mfind s.ex.prevKeys (4 * (g - 1) + k)).map fun e => e.1).getD (s.customerKey k))

/-- Who sends an OPEN: its node, the generation and key of its level it used, and where it is. -/
structure Caller where
  node : Nat
  gen : Nat
  key : List Byte
  origin : Option Origin
  deriving DecidableEq, Repr

/-- Answer an OPEN, in a session or none, with SEQ 0 and under a key (R458, R459). -/
def openAnswer (s : State) (c : Caller) (sess : Nat) (key : List Byte) (req : Nat) (reply : Reply) : State :=
  let (op, body) := replyBody reply
  let s := { s with ex := { s.ex with out := { sess, req, addr := 0, sel := 0, seq := 0, unsolicited := false, reply } :: s.ex.out } }
  sendTo s 3 c.origin (frameBytes key op sess 0 c.gen 0 req (s.objN Obj.NODE_ID 0) c.node body)

/-- The sender of the OPEN that a frame carries. -/
def State.callerOf (s : State) (f : RxFrame) : Caller :=
  let p := f.exvan
  let (gen, key) := s.keyNamed (be p 24 1) (be p 7 1)
  { node := be p 16 2, gen, key, origin := some (s.originOf f) }

/-- Checks 4 to 6 of an OPEN; the nonce is judged when the OPEN is carried out (R458). One whose body is malformed is answered NAK
FORMAT. -/
def receiveOpen (s : State) (f : RxFrame) (p : List Byte) : State :=
  if !s.keyGenOk (be p 24 1) (be p 7 1) then rejectFrame s Obj.AUTH_FAILS 4
  else if !f.tagOk then rejectFrame s Obj.AUTH_FAILS 5
  else
    let s := { s with net := { s.net with exvanIn := f :: s.net.exvanIn } }
    if be p 20 2 = 12 ∧ be p 25 3 = 0 then s
    else
      let c := s.callerOf f
      openAnswer s c 0 c.key (be p 12 4) (.nak .format 0 0)

/-- Whether a source of a group frame is one R457 names. -/
def groupSource (n : Nat) : Bool := decide (n ≤ 1023 ∨ (0x8000 ≤ n ∧ n ≤ 0x800F))

/-- The Exvan engine takes a frame (R457). A frame on the UART passes every check but that of the address, and no group frame comes there
(R453, log entry 202). -/
def exvanReceive (s : State) (f : RxFrame) : State :=
  let p := f.exvan
  let op := be p 3 1
  let num := be p 4 2
  if !frameFormatOk p then rejectFrame s Obj.FORMAT_DROPS 1
  else if f.port ≠ 2 ∧ be p 18 2 ≠ s.objN Obj.NODE_ID 0 ∧ be p 18 2 ≠ 0xFFFF then rejectFrame s Obj.DEST_DROPS 2
  else if num = 0 then
    if op = 1 ∧ be p 24 1 ≤ 2 ∧ 0 < be p 20 2 ∧ be p 8 4 = 0 then receiveOpen s f p else rejectFrame s Obj.SESSION_DROPS 3
  else if num = 0xFFFE then
    if f.port ≠ 2 ∧ groupSource (be p 16 2) ∧ (op = 0x20 ∨ op = 0x21) then receiveGroup s f p else rejectFrame s Obj.SESSION_DROPS 3
  else
    match s.session num with
    | some (i, x) => if x.source = be p 16 2 then receiveSession s f p i x else rejectFrame s Obj.SESSION_DROPS 3
    | none => rejectFrame s Obj.SESSION_DROPS 3

end Sys2Proof.Machine
end

