-- ==== Sys2Proof/Machine/Gouge.lean ====
section
/-!
DEFINITION. Gouge at work: leaf actions (R388), the slow path (R395, R396), ingress policers (R417, R418), recirculation
(R389), the hold of host-assisted classification (R397, R398), and rule sets (R392 to R394).
-/

namespace Sys2Proof.Machine

open Sys2Proof

/-- Hand a frame to the time subsystem. -/
def toPtp (s : State) (f : RxFrame) : State := { s with net := { s.net with ptpIn := f :: s.net.ptpIn } }

/-! ### The slow path -/

/-- SLOW_POLICED_EVENT, at most once per second (R395). -/
def slowEvent (s : State) (r : Nat) : State :=
  let due := match s.net.slowEvent with | none => true | some t => s.elapsed t 1000000000
  if due then
    raiseS { s with net := { s.net with slowEvent := some s.tick } } 0x8015
      [.word r, .long (s.objN Obj.SLOW_POLICED r), .long (s.objN Obj.SLOW_QUEUE_DROPS 0)]
  else s

/-- One frame's worth of slow-path tokens. -/
def slowUnit : Int := 156250000

/-- A slow-path policer as its rate and burst leave it now (R395). Its content before its first frame is its burst. -/
def State.slowBucket (s : State) (r : Nat) : Int :=
  let cap := s.obj Obj.SLOW_BURST r * slowUnit
  match mfind s.net.slowBuckets r with
  | none => cap
  | some b => min cap (b.tokens + s.obj Obj.SLOW_RATE r * ((s.tick - b.last : Nat) : Int))

/-- A write of SLOW_RATE or SLOW_BURST (R395): the bucket is first brought up to now under the settings it has filled under. -/
def effSlowPolicer (addr r : Nat) (v : Int) (s : State) : State × Verdict :=
  let b : Bucket := { tokens := s.slowBucket r, last := s.tick }
  (({ s with net := { s.net with slowBuckets := mset s.net.slowBuckets r b } }).setObj addr r v, .ack)

/-- Whether the management cores answer a slow-path frame: LEAF with REASON 1 to 4 (R396). -/
def answered (e : Nat × Nat × RxFrame) : Bool := e.1 == 0 && decide (1 ≤ e.2.1 ∧ e.2.1 ≤ 4)

/-- The management cores take a frame of the slow path: it is counted, and answered where R396 says so. -/
def takeSlow (s : State) (e : Nat × Nat × RxFrame) : State :=
  let s := s.inc64 Obj.SLOW_FRAMES e.1
  if answered e then answerFrame s e.2.2 else s

/-- Serve what one receive class holds: to the Exvan engine, then of the slow path to the management cores (R390, R396). -/
def serveClass (exvan : SMap (List RxFrame)) (slow : List (Nat × Nat × RxFrame)) (s : State) (c : Nat) : State :=
  (slow.filter fun e => e.2.2.cls == c).foldl takeSlow ((mget [] exvan c).foldl exvanReceive s)

/-- While a lobe is ACTIVE, serve what the receive classes and the slow path hold, class 7 first (R390). A frame that no leaf has given
a class is of class 0 (log entry 203). -/
def serveClasses (s : State) : State :=
  match s.active with
  | none => s
  | some _ =>
    [7, 6, 5, 4, 3, 2, 1, 0].foldl (serveClass s.net.classes s.net.slow) { s with net := { s.net with classes := [], slow := [] } }

/-- Hand a frame on to the Exvan engine in a receive class, which holds it, up to 512 frames, until its turn comes (R390). -/
def toExvan (s : State) (f : RxFrame) (cls : Nat) : State :=
  let q := mget [] s.net.classes cls
  if q.length < 512 then serveClasses { s with net := { s.net with classes := mset s.net.classes cls (q ++ [{ f with cls }]) } }
  else s.inc64 Obj.RX_CLASS_DROPS cls

/-- Send a frame to the slow path for a reason of Table 13.11, with the leaf's REASON. -/
def toSlow (s : State) (r why : Nat) (f : RxFrame) : State :=
  let b := s.slowBucket r
  let put : Int → State := fun t => { s with net := { s.net with slowBuckets := mset s.net.slowBuckets r { tokens := t, last := s.tick } } }
  if b < slowUnit then slowEvent ((put b).inc64 Obj.SLOW_POLICED r) r
  else
    let s := put (b - slowUnit)
    if s.net.slow.length < 256 then serveClasses { s with net := { s.net with slow := s.net.slow ++ [(r, why, f)] } }
    else slowEvent (s.inc64 Obj.SLOW_QUEUE_DROPS 0) r

/-! ### Policers -/

/-- One byte's worth of policer tokens: a rate of 1 kbit/s adds one token per tick. -/
def byteUnit : Int := 1250000

/-- A policer's bucket now (R417); a changed or never used policer starts full (R418). -/
def State.policerBucket (s : State) (p : Nat) : Int :=
  let cap := s.obj Obj.POLICER_BURST p * byteUnit
  match mfind s.net.policers p with
  | none => cap
  | some b => min cap (b.tokens + s.obj Obj.POLICER_RATE p * ((s.tick - b.last : Nat) : Int))

/-- Police a frame of `len` bytes. The second part says whether it conforms. -/
def police (s : State) (p len : Nat) : State × Bool :=
  let b := s.policerBucket p
  let put : Int → State := fun t => { s with net := { s.net with policers := mset s.net.policers p { tokens := t, last := s.tick } } }
  let need : Int := len * byteUnit
  if need ≤ b then ((put (b - need)).inc64 Obj.POLICER_CONFORM p, true)
  else
    let s := (put b).inc64 Obj.POLICER_EXCEED p
    let due := match mfind s.net.policerEvent p with | none => true | some t => s.elapsed t 1000000000
    if due then
      (raiseS { s with net := { s.net with policerEvent := mset s.net.policerEvent p s.tick } } 0x8024
        [.word p, .long (s.objN Obj.POLICER_EXCEED p)], false)
    else (s, false)

/-! ### Leaves -/

/-- Carry out an action that ends a frame's last pass (Table 13.7). -/
def deliver (s : State) (f : RxFrame) (action cls reason why : Nat) : State :=
  match action with
  | 0 => s
  | 1 => toExvan s f cls
  | 2 => toPtp s f
  | _ => toSlow s reason why { f with cls }

/-- A frame's last pass ends at a leaf: its policer first (R388, R417). -/
def endPass (s : State) (f : RxFrame) (nd : List Byte) (action reason : Nat) : State :=
  let p := le nd 3 1
  let go := fun s cls => deliver s f action cls reason (le nd 7 1)
  if p = 0xFF then go s (le nd 2 1)
  else
    match police s p (f.bytes.length + 4) with
    | (s, true) => go s (le nd 2 1)
    | (s, false) => if s.obj Obj.POLICER_ACTION p = 0 then s else go s 0

/-- A leaf acts on a frame (R388, R389, R391). Every pass is one of hardware mode: a first pass is made in that mode only, and a
second pass finishes in the mode of its frame's first (Table 1.7). -/
def actLeaf (s : State) (f : RxFrame) (second : Bool) (nd : List Byte) : State :=
  let c := le nd 4 2
  let action := le nd 1 1
  let s := (s.inc64 Obj.LEAF_FRAMES c).inc64 Obj.LEAF_BYTES c (f.bytes.length + 4)
  let s := if le nd 6 1 = 1 then toSlow s 10 (le nd 7 1) f else s
  if s.obj Obj.RULES_GUARD 0 == 1 && guardKey f.key && action != 1 then
    toExvan (s.inc64 Obj.GUARD_OVERRIDES 0) f 7
  else if action = 4 then
    if second then endPass s f nd 3 7
    else if s.net.recirc.length < 64 then
      let key := (keyWord f.key 0 ||| 2) :: (f.key.drop 1).take 14 ++ [le nd 8 4]
      { s with net := { s.net with recirc := s.net.recirc ++ [{ f with key, next := le nd 12 2 }] } }
    else endPass s f nd 3 8
  else endPass s f nd action 0

/-- A first pass through the active bank, stamped with RULES_GEN (R386, R393). -/
def firstPass (s : State) (f : RxFrame) : State :=
  actLeaf s { f with gen := s.objN Obj.RULES_GEN 0 } false (walk s.net.rules.bank f.key 33 0)

/-! ### The hold -/

/-- A frame enters the hold (R397). -/
def holdFrame (s : State) (f : RxFrame) : State :=
  if s.net.held.length < 256 then
    let seq := s.net.heldSeq
    let due := s.tick + s.objN Obj.CLASS_HOST_DEADLINE 0 * 625 / 4
    let first := s.net.held.isEmpty
    let s := { s with net := { s.net with heldSeq := (seq + 1) % (u32Max + 1),
                                          held := s.net.held ++ [{ seq, frame := f, due }] } }
    if first then raiseS s 0x8016 [.word seq] else s
  else
    let s := s.inc64 Obj.CLASS_HOLD_DROPS 0
    if s.net.heldFull then s
    else raiseS { s with net := { s.net with heldFull := true } } 0x8017 [.long (s.objN Obj.CLASS_HOLD_DROPS 0)]

/-- Take frames out of the hold. -/
def State.keepHeld (s : State) (h : List HeldFrame) : State :=
  { s with net := { s.net with held := h, heldFull := s.net.heldFull && decide (256 ≤ h.length) } }

/-- Classify every held frame, in order, as a first pass (R398). -/
def classifyHeld (s : State) : State :=
  s.net.held.foldl (fun s h => firstPass s h.frame) (s.keepHeld [])

/-- Whether the host has missed the deadline of a held frame: one whose fallback is due, or one that waits now (R37, R398). -/
def State.heldLate (s : State) : Bool :=
  s.hostMode 8 && (s.net.heldMissed || s.net.held.any fun h => decide (h.due ≤ s.tick))

/-- A missed deadline stays missed, whatever becomes of its frame, until the function falls back at the next frame received. -/
def noteMissed (s : State) : State := { s with net := { s.net with heldMissed := s.heldLate } }

/-- The mode boundary of classification (Table 1.7): a missed deadline falls back, an accepted request takes effect; in
hardware mode no frame stays held (R398, log entry 28). -/
def classBoundary (s : State) : State :=
  let s := if s.heldLate then fallback s 8 else atModeBoundary s 8
  let s := { s with net := { s.net with heldMissed := false } }
  if s.hostMode 8 then s else classifyHeld s

/-- Decide held frames (R397): the named one, or with THROUGH every one up to it. -/
def decideHeld (s : State) (seq action cls : Nat) (through : Bool) : State :=
  let upto := s.net.held.takeWhile fun h => h.seq != seq
  let rest := (s.net.held.dropWhile fun h => h.seq != seq)
  match rest with
  | [] => s
  | h :: t =>
    let now := if through then upto ++ [h] else [h]
    let s := s.keepHeld (if through then t else upto ++ t)
    now.foldl (fun s h => deliver s h.frame action cls 9 0) s

/-- The further conditions of CLASS_DECIDE and its effect. -/
def effClassDecide (seq action cls flags : Nat) (s : State) : State × Verdict :=
  if 3 < action ∨ 7 < cls ∨ 1 < flags then (s, .nak .range)
  else if !s.hostMode 8 then (s, .nak .state)
  else if !s.net.held.any fun h => h.seq == seq then (s, .nak .unknown)
  else (decideHeld (noteMissed s) seq action cls (flags == 1), .ack)

def classDecide (s : State) (c : Instr) (sess seq action cls : Nat) (through : Bool) : State :=
  hostOctets s c sess Obj.CLASS_DECIDE 0 (effClassDecide seq action cls (boolNat through))

/-- CLASS_DECIDE with DROP (R397). -/
def execClassDecideDrop (sess seq cls : Nat) (through : Bool) (s : State) :=
  finish s (classDecide s (.classDecideDrop sess seq cls through) sess seq 0 cls through)

/-- CLASS_DECIDE with EXVAN (R397). -/
def execClassDecideExvan (sess seq cls : Nat) (through : Bool) (s : State) :=
  finish s (classDecide s (.classDecideExvan sess seq cls through) sess seq 1 cls through)

/-- CLASS_DECIDE with PTP (R397). -/
def execClassDecidePtp (sess seq cls : Nat) (through : Bool) (s : State) :=
  finish s (classDecide s (.classDecidePtp sess seq cls through) sess seq 2 cls through)

/-- CLASS_DECIDE with SLOW (R397). -/
def execClassDecideSlow (sess seq cls : Nat) (through : Bool) (s : State) :=
  finish s (classDecide s (.classDecideSlow sess seq cls through) sess seq 3 cls through)

/-- FALLBACK_CLASSIFICATION (R398): a deadline is missed, and the function falls back at the next frame received, which
FRAME_RECEIVE brings. -/
def execFallbackClassification (s : State) := finish s (noteMissed s)

/-! ### Frames -/

def State.port (s : State) (x : Nat) : Port := s.net.ports.at x

def State.setPort (s : State) (x : Nat) (p : Port) : State := { s with net := { s.net with ports := s.net.ports.put x p } }

/-- TS_TX_LATENCY or TS_RX_LATENCY of a port for its FEC mode, in 0.1 ns (R433). -/
def State.latency (s : State) (tx : Bool) (x : Nat) : Int :=
  if s.obj Obj.FEC_MODE x = 1 then s.obj (if tx then Obj.TS_TX_LATENCY else Obj.TS_RX_LATENCY) x else ((Config.latency tx x % 65536 : Nat) : Int)

/-- A stamp taken at a port's PCS, in ns, referred to the MDI on reception (R433). -/
def State.atMdi (s : State) (x : Nat) (stamp : Int) : Int := floorDiv (10 * stamp - s.latency false x) 10

/-- The receive time stamp of a port (R433). -/
def State.rxStamp (s : State) (x : Nat) : Int := s.atMdi x s.now

/-- Where a frame that passes R376 goes (R379, R385, R391, R397). -/
def classify (s : State) (f : RxFrame) : State :=
  if checksumBad f.bytes then s.inc64 Obj.RX_CHECKSUM_BAD f.port
  else
    match parseOutcome f.bytes with
    | some r => toSlow s r 0 f
    | none =>
      if s.hostMode 8 then (if guardKey f.key then toExvan s f 7 else holdFrame s f)
      else firstPass s f

/-- A frame arrives on a port (R376). -/
def frameIn (s : State) (x : Nat) (bytes : List Byte) (fcsOk tagOk : Bool) : State :=
  let s := classBoundary s
  match macCheck s x bytes fcsOk with
  | some c => s.inc64 c x
  | none =>
    let s := (s.inc64 Obj.RX_FRAMES x).inc64 Obj.RX_BYTES x (bytes.length + 4)
    classify s { port := x, stamp := s.rxStamp x, bytes, tagOk, key := keyOf s x bytes }

/-- A frame on the maintenance UART (R453): the Exvan engine takes it, in recovery mode too. Until a lobe is ACTIVE it waits in class 7
(log entry 202). -/
def uartFrame (s : State) (tagOk : Bool) (bytes : List Byte) : State :=
  let f : RxFrame := { port := 2, stamp := s.now, bytes, tagOk, key := [], cls := 7 }
  if s.recovery then exvanReceive s f else toExvan s f 7

/-- FRAME_RECEIVE (R376). Port 2 is the maintenance UART, whose bytes are as RFC 1055 delimits them (R453). -/
def execFrameReceive (x : Nat) (bytes : List Byte) (fcsOk tagOk : Bool) (s : State) :=
  finish s (if x = 2 then (if s.exvanServed then (unslip false [] bytes).foldl (fun s p => uartFrame s tagOk p) s else s)
    else if (s.port x).up ∧ x < 2 then frameIn s x bytes fcsOk tagOk else s)

/-! ### Rule sets -/

/-- Whether a frame in the recirculation queue is stamped with a generation. -/
def State.oldFrames (s : State) (g : Nat) : List RxFrame := s.net.recirc.filter fun f => f.gen == g

def State.setRules (s : State) (r : Rules) : State := { s with net := { s.net with rules := r } }

/-- The old bank stops RETAINING: at once when no frame of its generation remains, else 100 µs after the apply, the frames
left going to the slow path (R393). -/
def retainEnd (s : State) : State :=
  match s.net.rules.retaining with
  | none => s
  | some (g, t) =>
    let old := s.oldFrames g
    if old.isEmpty then s.setRules { s.net.rules with retaining := none }
    else if s.elapsed t 100000 then
      let s := s.setRules { s.net.rules with retaining := none }
      let s := { s with net := { s.net with recirc := s.net.recirc.filter fun f => f.gen != g } }
      raiseS (old.foldl (fun s f => toSlow s 6 0 f) s) 0x8012 [.word g, .word old.length]
    else s

/-- RULES_RETAIN_END (R393). -/
def execRulesRetainEnd (s : State) := finish s (retainEnd s)

/-- The second pass of the head of the recirculation queue (R389, R393). -/
def secondPass (s : State) : State :=
  match s.net.recirc with
  | [] => s
  | f :: t =>
    let s := { s with net := { s.net with recirc := t } }
    let bank := if f.gen = s.objN Obj.RULES_GEN 0 then s.net.rules.bank else s.net.rules.shadow
    let s := s.inc64 Obj.RECIRCULATED 0
    actLeaf s f true (walk bank f.key 33 f.next)

/-- Whether the time a bank is retained has passed. -/
def State.retainLate (s : State) : Bool :=
  match s.net.rules.retaining with
  | some (_, t) => s.elapsed t 100000
  | none => false

/-- RECIRCULATION_PASS (R389). -/
def execRecirculationPass (s : State) :=
  finish s (retainEnd (secondPass (if s.retainLate then retainEnd s else s)))

/-- RULES_APPLY (R392, R393): the check of the shadow bank begins. -/
def effRulesApply (s : State) : State × Verdict :=
  if s.net.rules.retaining.isSome ∨ s.net.rules.checking.isSome then (s, .nak .busy)
  else (s.setRules { s.net.rules with checking := some s.tick }, .owe .rulesApply)

/-- RULES_APPLY. -/
def execRulesApply (sess : Nat) (s : State) := finish s (hostWrite s sess Obj.RULES_APPLY 0 1 effRulesApply)

/-- The shadow bank becomes active (R392). -/
def swapBanks (s : State) : State :=
  let old := s.objN Obj.RULES_GEN 0
  let r := s.net.rules
  let s := s.setRules { r with bank := r.shadow, shadow := r.bank, checking := none, retaining := some (old, s.tick) }
  let s := (s.setObjN Obj.RULES_GEN 0 (nextGen old)).setObjN Obj.RULES_ACTIVE_BANK 0 (1 - s.objN Obj.RULES_ACTIVE_BANK 0)
  let s := (s.setObjN Obj.RULES_FAIL_NODE 0 0).setObjN Obj.RULES_FAIL_CHECK 0 0
  let s := raiseS s 0x8010 [.word (s.obj Obj.RULES_GEN 0), .word (s.obj Obj.RULES_ACTIVE_BANK 0)]
  retainEnd (settleOwed s .rulesApply (.ack []))

/-- RULES_CHECK_DONE (R392). -/
def execRulesCheckDone (s : State) :=
  finish s (match s.net.rules.checking with
    | none => s
    | some _ =>
      match ruleFault s.net.rules.shadow with
      | none => swapBanks s
      | some (n, c) =>
        let s := s.setRules { s.net.rules with checking := none }
        let s := (s.setObjN Obj.RULES_FAIL_NODE 0 n).setObjN Obj.RULES_FAIL_CHECK 0 c
        settleOwed (raiseS s 0x8011 [.word n, .word c]) .rulesApply (.nak .format 0 0))

/-- Further conditions of a write to the shadow bank (R393). -/
def State.shadowBusy (s : State) : Bool := s.net.rules.retaining.isSome || s.net.rules.checking.isSome

/-- A write of SHADOW_NODE (R392). -/
def effShadowNode (n : Nat) (b : List Byte) (s : State) : State × Verdict :=
  if s.shadowBusy then (s, .nak .busy)
  else (s.setRules { s.net.rules with shadow := mset s.net.rules.shadow n b }, .ack)

/-- A write of SHADOW_BANK (R392): the bytes of 4,096 nodes in order. -/
def effShadowBank (b : List Byte) (s : State) : State × Verdict :=
  if s.shadowBusy then (s, .nak .busy)
  else (s.setRules { s.net.rules with shadow := (List.range 4096).map fun n => (n, slice b (16 * n) 16) }, .ack)

/-- RULES_STORE (R394): refused while flash writes are barred or a store runs. -/
def effRulesStore (s : State) : State × Verdict :=
  if !s.flashOk then (s, .nak .state)
  else if s.flashBusy then (s, .nak .busy)
  else (startStore s .rules, .ack)

/-- RULES_STORE. -/
def execRulesStore (sess : Nat) (s : State) := finish s (hostWrite s sess Obj.RULES_STORE 0 1 effRulesStore)

end Sys2Proof.Machine
end

