-- ==== Sys2Proof/Machine/QueueOps.lean ====
section
/-!
DEFINITION. Egress queues and gate lists: buckets (R409 to R411), windows (R412 to R415), eligibility (R407), entry and
discard of frames (R402, R404, R405).
-/

namespace Sys2Proof.Machine

open Sys2Proof

/-! ### Queues and shapers -/

def State.queue (s : State) (n : Nat) : Queue := mget {} s.net.queues n

def State.setQueue (s : State) (n : Nat) (q : Queue) : State := { s with net := { s.net with queues := mset s.net.queues n q } }

/-- The port of a queue selector (R402). -/
def portOf (n : Nat) : Nat := n / 8

/-- Whether a queue holds a frame or is transmitting one (R409). -/
def State.queueBusy (s : State) (n : Nat) : Bool :=
  !(s.queue n).frames.isEmpty ||
    match (s.port (portOf n)).busy with
    | some (q, _) => q == n
    | none => false

/-- One byte's worth of shaper tokens: 16 fractional bits (R409). -/
def tokenUnit : Int := 65536

/-- What a queue's rate has added since its bucket was last brought up to date, in 1/78,125 of 1/65,536 byte: a rate of 1 kbit/s
adds 4,096 of these a tick. -/
def State.rise (s : State) (n : Nat) : Nat := (s.queue n).rate * 4096 * (s.tick - (s.queue n).last) + (s.queue n).carry

/-- A queue's bucket as time leaves it now (R409, R411). -/
def State.bucketNow (s : State) (n : Nat) : Int :=
  let q := s.queue n
  let grown := q.bucket + ((s.rise n / 78125 : Nat) : Int)
  if !q.enabled then 0
  else if s.queueBusy n then max q.bucket (min grown (q.burst * tokenUnit))
  else if q.bucket < 0 then min 0 grown
  else 0

/-- Bring a queue's bucket up to now, before anything changes what fills it. -/
def refillQueue (s : State) (n : Nat) : State :=
  s.setQueue n { s.queue n with bucket := s.bucketNow n, carry := s.rise n % 78125, last := s.tick }

/-- At the instant a queue stops being busy, credit is lost (R409). -/
def settleQueue (s : State) (n : Nat) : State :=
  let q := s.queue n
  if s.queueBusy n then s else s.setQueue n { q with bucket := min 0 q.bucket, last := s.tick }

/-- SHAPER_TOKENS: the bucket in whole bytes, truncated toward minus infinity. -/
def State.shaperTokens (s : State) (n : Nat) : Int := floorDiv (s.bucketNow n) tokenUnit

/-- Bytes waiting in a queue. -/
def Queue.depth (q : Queue) : Nat := (q.frames.map (·.len)).sum

/-- Take the newest shaper settings of a queue into effect (R410). -/
def takeShaper (s : State) (n : Nat) : State :=
  let enabled := s.obj Obj.SHAPER_ENABLE n == 1
  let burst := s.objN Obj.SHAPER_BURST n
  let full : Int := if s.obj Obj.SHAPER_RESET_POLICY n = 0 then burst * tokenUnit else 0
  let s := s.setQueue n { s.queue n with rate := s.objN Obj.SHAPER_RATE n, burst, enabled, shaperPending := false,
                                         bucket := if enabled then full else 0, carry := 0, last := s.tick }
  settleQueue s n

/-! ### Gate lists -/

def State.portGates (s : State) (x : Nat) : PortGates := mget {} s.net.gates x

def State.setPortGates (s : State) (x : Nat) (g : PortGates) : State :=
  { s with net := { s.net with gates := mset s.net.gates x g } }

/-- The segments of a cycle: start, end and mask of each entry, cut at the cycle end, the last one reaching to it (R412). -/
def segmentsFrom (cycle : Nat) : Nat → List (Nat × Nat) → List (Nat × Nat × Nat)
  | _, [] => []
  | t, [(m, _)] => if t < cycle then [(t, cycle, m)] else []
  | t, (m, i) :: rest => if t < cycle then (t, min cycle (t + i), m) :: segmentsFrom cycle (t + i) rest else []

def GateList.segments (g : GateList) : List (Nat × Nat × Nat) := segmentsFrom g.cycle 0 g.entries

/-- Where an instant lies in a list's cycle. -/
def GateList.pos (g : GateList) (t : Int) : Nat := ((t - g.base).emod g.cycle).toNat

/-- The index and mask of the entry in force at an instant. -/
def GateList.at_ (g : GateList) (t : Int) : Nat × Nat :=
  let p := g.pos t
  let segs := g.segments
  let i := segs.findIdx fun x => decide (p < x.2.1)
  match segs[i]? with
  | some x => (i, x.2.2)
  | none => (0, 0xFF)

/-- How long after an instant a gate closes: nothing where it is open in every entry (R414). -/
def GateList.closesIn (g : GateList) (q : Nat) (t : Int) : Option Nat :=
  let p := g.pos t
  let segs := g.segments
  let two := segs ++ segs.map fun x => (x.1 + g.cycle, x.2.1 + g.cycle, x.2.2)
  if segs.all fun x => bitOf x.2.2 q == 1 then none
  else (two.find? fun x => decide (p < x.2.1) && bitOf x.2.2 q == 0).map fun x => x.1 - p

/-- The longest open window of a gate over a cycle, windows across the cycle's end joined (R415). -/
def GateList.longest (g : GateList) (q : Nat) : Nat :=
  let segs := g.segments
  if segs.all fun x => bitOf x.2.2 q == 1 then u32Max
  else
    let runs := (segs ++ segs).foldl (fun (p : Nat × Nat) x =>
      if bitOf x.2.2 q = 1 then (p.1 + (x.2.1 - x.1), max p.2 (p.1 + (x.2.1 - x.1))) else (0, p.2)) (0, 0)
    runs.2

/-- The instant a queue's gate closes, counting a list change that is due (R414, R416): nothing where it never does. -/
def State.closing (s : State) (n : Nat) (t : Int) : Option Int :=
  let g := s.portGates (portOf n)
  let old := g.oper.bind fun l => (l.closesIn (n % 8) t).map fun d => t + d
  match g.next with
  | none => old
  | some (ct, on, l) =>
    let past := match old with | none => true | some c => decide (ct < c)
    if past then (if on then (l.closesIn (n % 8) ct).map fun d => ct + d else none) else old

/-- The wire length of a frame fits between an instant, in ns and 1/2^32 of it, and a closing (R408, R414). -/
def fitsWindow (len : Nat) (t : Int) (frac : Nat) (closing : Option Int) : Bool :=
  match closing with
  | none => true
  | some c => decide (8 * ((len : Int) + 20) * 4294967296 ≤ 25 * ((c - t) * 4294967296 - frac))

/-- Whether a queue's gate is open now (R407). -/
def State.gateIsOpen (s : State) (n : Nat) : Bool := bitOf (s.portGates (portOf n)).gates (n % 8) == 1

/-- The latest whole nanosecond whose nearest tick is not later than this one (R413, R445). -/
def State.tickTime (s : State) : Int :=
  let c := s.time.ctr.at s.counterLobe
  floorDiv (2 * (c.ns * 4294967296 + c.frac) + s.objN Obj.ADDEND 0 - 1) 8589934592

/-- The whole nanoseconds whose nearest tick is this one, latest first (R413). -/
def State.tickSpan (s : State) : List Int :=
  let c := s.time.ctr.at s.counterLobe
  let first := floorDiv (2 * (c.ns * 4294967296 + c.frac) - s.objN Obj.ADDEND 0 - 1) 8589934592 + 1
  ((List.range 8).map fun (i : Nat) => s.tickTime - i).filter fun t => decide (first ≤ t)

/-- Whether a queue's gate opens at an instant: it is closed the nanosecond before. -/
def State.opensAt (s : State) (n : Nat) (t : Int) : Bool := s.closing n (t - 1) == some (t - 1) && s.closing n t != some t

/-- Whether a queue's head frame fits in its window (R414), counted from the network time of this tick, or from the opening that is applied
at it (R413). -/
def State.headFits (s : State) (n : Nat) : Bool :=
  match (s.queue n).frames with
  | [] => false
  | f :: _ =>
    let c := s.time.ctr.at s.counterLobe
    fitsWindow f.len c.ns c.frac (s.closing n c.ns) ||
      s.tickSpan.any fun t => s.opensAt n t && fitsWindow f.len t 0 (s.closing n t)

/-- R407. -/
def State.eligible (s : State) (n : Nat) : Bool :=
  s.gateIsOpen n && s.headFits n && (!(s.queue n).enabled || decide (0 ≤ s.bucketNow n))

/-- Whether a frame is longer than the longest window of its queue (R415). -/
def State.oversize (s : State) (n len : Nat) : Bool :=
  let l := s.objN Obj.GATE_LONGEST n
  l != u32Max && decide (25 * l < 8 * (len + 20))

/-- Drop the head frames of a queue that fit in no window (R415). -/
def dropOversizeFrames (n : Nat) : List TxFrame → State → State
  | [], s => s
  | f :: t, s =>
    if s.oversize n f.len then
      let s := s.setQueue n { s.queue n with frames := t }
      let s := raiseS (s.inc64 Obj.GATE_OVERSIZE n) 0x8021 [.word n, .word f.len, .word (s.obj Obj.GATE_LONGEST n)]
      dropOversizeFrames n t s
    else s

def dropOversize (s : State) (n : Nat) : State :=
  settleQueue (dropOversizeFrames n (s.queue n).frames (refillQueue s n)) n

/-- Count the head frames of an idle port that wait for a window that fits them (R414). -/
def noteWaits (s : State) (x : Nat) : State :=
  if (s.port x).busy.isSome then s
  else (List.range 8).foldl (fun s q =>
    let n := 8 * x + q
    match (s.queue n).frames with
    | f :: t =>
      if s.gateIsOpen n && !s.headFits n && !f.waited then
        (s.setQueue n { s.queue n with frames := { f with waited := true } :: t }).inc64 Obj.GATE_WAITS n
      else s
    | [] => s) s

/-! ### Frames in and out -/

/-- QUEUE_OVERFLOW, at most once per second per queue (R404). -/
def queueDrop (s : State) (n : Nat) : State :=
  let s := s.inc64 Obj.QUEUE_DROPS n
  let q := s.queue n
  let due := match q.overAt with | none => true | some t => s.elapsed t 1000000000
  if due then raiseS (s.setQueue n { q with overAt := some s.tick }) 0x8020 [.word n, .long (s.objN Obj.QUEUE_DROPS n)] else s

/-- Put a frame into an egress queue, or drop it (R404, R405). The second part says whether it entered. -/
def enqueue (s : State) (n source len : Nat) : State × Bool :=
  if !(s.port (portOf n)).up then (s.inc64 Obj.QUEUE_FLUSHED n, false)
  else
    let q := s.queue n
    if s.objN Obj.QUEUE_LIMIT n < q.depth + len then (queueDrop s n, false)
    else
      let s := refillQueue s n
      let q := s.queue n
      let s := s.setQueue n { q with frames := q.frames ++ [{ len, entry := s.tick, source }], depthMax := max q.depthMax (q.depth + len) }
      (noteWaits (dropOversize s n) (portOf n), true)

/-- Discard every frame in a port's queues and empty its buckets (R405). -/
def flushPort (s : State) (x : Nat) : State :=
  (List.range 8).foldl (fun s i =>
    let n := 8 * x + i
    let q := s.queue n
    let s := s.inc64 Obj.QUEUE_FLUSHED n q.frames.length
    s.setQueue n { q with frames := [], bucket := 0, carry := 0, last := s.tick }) s

/-- The queue of a transmit source (R402). -/
def State.txQueue (s : State) (x source : Nat) : Nat := 8 * s.txPort x + s.objN Obj.TX_CLASS_MAP source

/-- Ticks enough for a time in ns, and the ns of a number of ticks, saturating. -/
def nsOfTicks (t : Nat) : Nat := min u32Max (32 * t / 5)

/-- The tag of a frame that leaves through a queue: MGMT_VID of the port's address set with QUEUE_PCP, none for MGMT_VID 0 (R403). -/
def State.tagOf (s : State) (n : Nat) : Option (Nat × Nat) :=
  let vid := s.objN Obj.MGMT_VID (s.setOf (portOf n))
  if vid = 0 then none else some (vid, s.objN Obj.QUEUE_PCP n)

/-- Start the head frame of the eligible queue with the highest number (R407, R409). -/
def startHead (s : State) (x : Nat) : State :=
  match ((List.range 8).map fun i => 8 * x + (7 - i)).find? fun n => s.eligible n with
  | none => s
  | some n =>
    let s := refillQueue s n
    let q := s.queue n
    match q.frames with
    | [] => s
    | f :: t =>
      let charge : Int := if q.enabled then (f.len + 20) * tokenUnit else 0
      let s := s.setQueue n { q with frames := t, bucket := q.bucket - charge, delayMax := max q.delayMax (nsOfTicks (s.tick - f.entry)) }
      let s := s.setPort x { s.port x with busy := some (n, f.len, s.tick), tag := s.tagOf n }
      dropOversize s n

end Sys2Proof.Machine
end

