-- ==== Sys2Proof/Machine/Queues.lean ====
section
/-!
DEFINITION. Commands of the egress queues, shapers, gate lists and queue sampling (spec/14_queues.md).
-/

namespace Sys2Proof.Machine

open Sys2Proof

/-- A frame of source 5 of Table 14.1 is the oldest one the management cores have formed, one of an Exvan source the oldest of that source
(R396, R402, log entry 47). -/
def takeOwn (s : State) (source : Nat) : State :=
  if source = 5 then { s with net := { s.net with toSend := s.net.toSend.drop 1 } }
  else { s with ex := { s.ex with wire := s.ex.wire.eraseP fun e => e.1 == source } }

/-- TX_ENQUEUE (R402): a frame of `len` bytes, FCS and tag included, enters the queue of its source. -/
def execTxEnqueue (x source len : Nat) (s : State) :=
  finish s (if x < 2 ∧ source < 8 then (enqueue (takeOwn s source) (s.txQueue x source) source len).1 else s)

/-- TX_FRAME_START (R407). -/
def execTxFrameStart (x : Nat) (s : State) :=
  finish s (if x < 2 ∧ (s.port x).up ∧ (s.port x).busy.isNone then startHead (noteWaits s x) x else s)

/-- What a frame boundary of a port lets take effect: queue limits (R406), shaper settings (R410). -/
def frameBoundary (s : State) (x : Nat) : State :=
  let s := if s.net.txqDue.contains x then
      let s := (List.range 8).foldl (fun s q => s.applyStagedAt Obj.QUEUE_LIMIT (8 * x + q)) s
      { s with net := { s.net with txqDue := s.net.txqDue.filter (· ≠ x) } }
    else s
  (List.range 8).foldl (fun s q => if (s.queue (8 * x + q)).shaperPending then takeShaper s (8 * x + q) else s) s

/-- Staged objects of Table 13.13 that NET_APPLY takes (R380). -/
def netObjs : List Nat :=
  [Obj.PORT_MODE, Obj.PREFERRED_PORT, Obj.IPV4_ADDR, Obj.IPV4_PREFIX, Obj.IPV4_GATEWAY, Obj.IPV6_ADDR, Obj.IPV6_PREFIX,
   Obj.IPV6_GATEWAY, Obj.MGMT_VID, Obj.GROUP_ADDR]

/-- How many staged values of an object differ from those in effect. -/
def State.changes (s : State) (addr : Nat) : Nat :=
  ((s.stagedOf addr).filter fun e => e.2 != s.obj addr e.1).length +
    ((s.stagedOctsOf addr).filter fun e => e.2 != s.oct addr e.1).length

/-- Give the ports their roles again (R381): `prefer` is PRIMARY if it is UP, else the other port. -/
def setRoles (s : State) (prefer : Nat) : State :=
  let up := fun x => (s.port x).up
  let role := fun x =>
    if !up x then 3 else if s.obj Obj.PORT_MODE 0 = 1 then 2 else if x = prefer ∨ ¬ up prefer then 0 else 1
  let r0 := role 0
  let r1 := role 1
  (s.setPort 0 { s.port 0 with role := r0 }).setPort 1 { s.port 1 with role := r1 }

/-- The sets whose IPv6 address a staged one replaces (R378: one probe). -/
def State.newV6 (s : State) : List Nat :=
  ((s.stagedOctsOf Obj.IPV6_ADDR).filter fun e => e.2 != s.oct Obj.IPV6_ADDR e.1 && !allZero e.2).map (·.1)

/-- The staged addressing takes effect (R380, R381). A change of an address is announced; else the groups joined are
reported (R378). A change of PORT_MODE changes which ports a set has, and so its addresses. -/
def applyNet (s : State) : State :=
  let n := (netObjs.map s.changes).sum
  let moved := ([Obj.PORT_MODE, Obj.IPV4_ADDR, Obj.IPV6_ADDR].map s.changes).sum
  let before := s.groups
  let probes := s.newV6
  let s := netObjs.foldl State.applyStaged { s with net := { s.net with netWait := [] } }
  let s := setRoles s (s.objN Obj.PREFERRED_PORT 0)
  let s := (s.sets.filter probes.contains).foldl (fun s a => sendOwn s a (s.probe a (s.oct Obj.IPV6_ADDR a))) s
  let joined := s.groups.filter fun g => !before.contains g
  let s := if moved = 0 then s.sets.foldl (fun s a => sendReports s a 4 joined) s else announceNow s
  raiseS s 0x8005 [.word n]

/-- A frame boundary of a port: the addressing takes effect once both ports have had theirs (R380). -/
def netBoundary (s : State) (x : Nat) : State :=
  let left := s.net.netWait.filter (· ≠ x)
  if s.net.netWait.isEmpty then s
  else if left.isEmpty then applyNet s
  else { s with net := { s.net with netWait := left } }

/-- TX_FRAME_END (R408): the wire length has passed since the frame's start. -/
def execTxFrameEnd (x : Nat) (s : State) :=
  finish s (match (s.port x).busy with
    | none => s
    | some (n, len, t) =>
      if len + 20 ≤ 20 * (s.tick - t) ∧ x < 2 then
        let s := refillQueue s n
        let s := s.setPort x { s.port x with busy := none }
        let s := settleQueue s n
        let s := (s.inc64 Obj.QUEUE_FRAMES n).inc64 Obj.QUEUE_BYTES n len
        let s := (s.inc64 Obj.TX_FRAMES x).inc64 Obj.TX_BYTES x len
        let s := frameBoundary s x
        noteWaits (netBoundary s x) x
      else s)

/-- The object of a shaper setting: rate, burst, enable. -/
def shaperObj (which : Nat) : Nat :=
  if which = 0 then Obj.SHAPER_RATE else if which = 1 then Obj.SHAPER_BURST else Obj.SHAPER_ENABLE

/-- A write of a shaper setting takes effect at the end of the frame the port transmits, or at once (R410). -/
def effShaper (n which : Nat) (v : Int) (s : State) : State × Verdict :=
  let s := s.setObj (shaperObj which) n v
  if (s.port (portOf n)).busy.isSome then (s.setQueue n { s.queue n with shaperPending := true }, .ack)
  else (takeShaper s n, .ack)

/-- SHAPER_WRITE (R410). -/
def execShaperWrite (sess n which : Nat) (v : Int) (s : State) :=
  finish s (hostWrite s sess (shaperObj which) n v (effShaper n which v))

/-- TXQ_APPLY (R406). -/
def effTxqApply (s : State) : State × Verdict :=
  let total := fun x => ((List.range 8).map fun q => s.judged Obj.QUEUE_LIMIT (8 * x + q)).sum
  if 1048576 < total 0 ∨ 1048576 < total 1 then (s, .nak .range)
  else
    let s := { s with net := { s.net with txqDue := [0, 1] } }
    ((List.range 2).foldl (fun s x => if (s.port x).busy.isSome then s else frameBoundary s x) s, .ack)

/-- TXQ_APPLY. -/
def execTxqApply (sess : Nat) (s : State) := finish s (hostWrite s sess Obj.TXQ_APPLY 0 1 effTxqApply)

/-! ### Gate lists -/

/-- Put the gates of a port where its operational list has them now (R412). -/
def setGates (s : State) (x : Nat) : State :=
  let g := s.portGates x
  let (entry, gates) := match g.oper with | none => (0, 0xFF) | some l => l.at_ s.tickTime
  noteWaits (s.setPortGates x { g with entry, gates }) x

/-- GATE_ENTRY_CHANGE (R412, R413). -/
def execGateEntryChange (x : Nat) (s : State) := finish s (if x < 2 then setGates s x else s)

/-- The first `n` entries of GATE_LIST bytes. -/
def gateEntries (b : List Byte) (n : Nat) : List (Nat × Nat) := (List.range n).map fun i => (le b (8 * i) 1, le b (8 * i + 4) 4)

/-- Table 14.2. -/
def gateEntriesOk (b : List Byte) (n cycle : Nat) : Bool :=
  (List.range n).all fun i => le b (8 * i + 1) 3 == 0 && decide (64 ≤ le b (8 * i + 4) 4 ∧ le b (8 * i + 4) 4 ≤ cycle)

/-- The staged objects of a gate list. -/
def gateObjs : List Nat := [Obj.GATE_ENABLE, Obj.GATE_BASE, Obj.GATE_CYCLE, Obj.GATE_LIST, Obj.GATE_LIST_LEN]

/-- GATE_APPLY (R416). -/
def effGateApply (x : Nat) (s : State) : State × Verdict :=
  let cycle := (s.judged Obj.GATE_CYCLE x).toNat
  let len := (s.judged Obj.GATE_LIST_LEN x).toNat
  let bytes := s.judgedOct Obj.GATE_LIST x
  let base := s.judged Obj.GATE_BASE x
  if (s.portGates x).next.isSome then (s, .nak .busy)
  else if !gateEntriesOk bytes len cycle then (s, .nak .range)
  else if s.time.servo = .unset then (s, .nak .time)
  else
    let k := -floorDiv (base - (s.now + 1000)) cycle
    let ct := base + k * cycle
    let l : GateList := { base, cycle, entries := gateEntries bytes len, bytes }
    let on := s.judged Obj.GATE_ENABLE x == 1
    let s := gateObjs.foldl (fun s a => s.unstage a x) s
    ((s.setPortGates x { s.portGates x with next := some (ct, on, l) }).setObj Obj.GATE_CHANGE_TIME x ct, .ack)

/-- GATE_APPLY. -/
def execGateApply (sess x : Nat) (s : State) := finish s (hostWrite s sess Obj.GATE_APPLY x 1 (effGateApply x))

/-- The values of a gate list that comes into effect. -/
def takeGateObjs (s : State) (x : Nat) (on : Bool) (l : GateList) : State :=
  let s := (s.setObjN Obj.GATE_ENABLE x (boolNat on)).setObj Obj.GATE_BASE x l.base
  let s := (s.setObjN Obj.GATE_CYCLE x l.cycle).setObjN Obj.GATE_LIST_LEN x l.entries.length
  s.setOct Obj.GATE_LIST x l.bytes

/-- GATE_LONGEST of a port's queues under its operational list (R415). -/
def setLongest (s : State) (x : Nat) : State :=
  (List.range 8).foldl (fun s q =>
    let w := match (s.portGates x).oper with | none => u32Max | some l => l.longest q
    dropOversize (s.setObjN Obj.GATE_LONGEST (8 * x + q) w) (8 * x + q)) s

/-- GATE_LIST_CHANGED (R416). -/
def execGateListChanged (x : Nat) (s : State) :=
  finish s (match (s.portGates x).next with
    | none => s
    | some (ct, on, l) =>
      if s.atT ct ∧ x < 2 then
        let s := takeGateObjs s x on l
        let s := s.setPortGates x { s.portGates x with oper := if on then some l else none, next := none }
        let s := raiseS (setLongest s x) 0x8022 [.word x, .time ct.toNat]
        setGates s x
      else s)

/-- Remove the gate lists of both ports (R413). -/
def clearGates (s : State) : State :=
  (List.range 2).foldl (fun s x =>
    let s := setLongest (s.setPortGates x {}) x
    raiseS (setGates s x) 0x8023 [.word x]) s

/-! ### Queue sampling -/

/-- Latch one queue's depths and delays and restart its maxima (R419). -/
def sampleQueue (s : State) (n : Nat) : State :=
  let q := s.queue n
  let head := match q.frames with | [] => 0 | f :: _ => nsOfTicks (s.tick - f.entry)
  let s := (s.setObjN Obj.QDEPTH_BYTES n q.depth).setObjN Obj.QDEPTH_FRAMES n (min 65535 q.frames.length)
  let s := (s.setObjN Obj.QDELAY_HEAD n head).setObjN Obj.QDEPTH_MAX n q.depthMax
  let s := s.setObjN Obj.QDELAY_MAX n q.delayMax
  s.setQueue n { q with depthMax := q.depth, delayMax := 0 }

/-- The latest multiple of a period in ns at or before this tick. -/
def State.multiple (s : State) (p : Int) : Int := floorDiv s.tickTime p * p

/-- A period written takes effect at the next multiple of it (R419). -/
def takePeriod (s : State) : State :=
  match s.net.sampleDue with
  | some t => if t ≤ s.tickTime then { s with net := { s.net with samplePeriod := s.objN Obj.QSAMPLE_PERIOD 0, sampleDue := none } } else s
  | none => s

/-- A sample at a multiple of the period in force later than the latest one (R419). -/
def sampleNow (s : State) : State :=
  let t := s.multiple (1000 * s.net.samplePeriod)
  if s.net.sampleAt < t then
    let s := (List.range 16).foldl sampleQueue { s with net := { s.net with sampleAt := t } }
    (s.incWrap Obj.QSAMPLE_SEQ 0).setObj Obj.QSAMPLE_TIME 0 t
  else s

/-- QSAMPLE (R419). -/
def execQsample (s : State) :=
  finish s (sampleNow (takePeriod s))

/-- A write of QSAMPLE_PERIOD (R419): until the next multiple of the new period the old one goes on. -/
def effQsamplePeriod (v : Int) (s : State) : State × Verdict :=
  let s := takePeriod s
  (({ s with net := { s.net with sampleDue := some (s.multiple (1000 * v) + 1000 * v) } }).setObj Obj.QSAMPLE_PERIOD 0 v, .ack)

end Sys2Proof.Machine
end

