-- ==== Sys2Proof/Machine/Ports.lean ====
section
/-!
DEFINITION. Links, port roles and addressing (R375, R380 to R383, R405).
-/

namespace Sys2Proof.Machine

open Sys2Proof

/-- PTP waits for a new path delay on the port it has moved to: nothing measured on the old port completes it (R431). -/
def ptpMoved (s : State) : State :=
  { s with time := { s.time with freshDelay := false, syncDiff := none, pendingSync := none, delaySent := none, pdelay := none } }

/-- A port's lock changes, which starts a hold timer (R375). A port held in reset has no lock. -/
def lockChange (s : State) (x : Nat) (ok : Bool) : State :=
  let p := s.port x
  let ok := ok && s.obj Obj.PORT_ENABLE x == 1 && decide (2 ≤ s.dev.selfStep)
  if p.lock = ok then s else s.setPort x { p with lock := ok, lockSince := s.tick }

/-- The RS-FEC codewords a port reports, counted while RS-FEC is selected and the PCS is out of reset (R399). -/
def countFec (s : State) (x corrected uncorrected : Nat) : State :=
  if s.obj Obj.FEC_MODE x = 1 ∧ s.obj Obj.PORT_ENABLE x = 1 then
    (s.inc64 Obj.FEC_CORRECTED x corrected).inc64 Obj.FEC_UNCORRECTED x uncorrected
  else s

/-- PCS_LOCK_CHANGE (R375, R399). -/
def execPcsLockChange (x : Nat) (report : PcsReport) (s : State) :=
  finish s (if x < 2 ∧ s.ticking then lockChange (countFec s x report.corrected report.uncorrected) x report.ok else s)

/-- A port goes DOWN (R375, R382, R383, R405). -/
def portDown (s : State) (x : Nat) : State :=
  let primary := (s.port x).role == 0
  let other := 1 - x
  let s := s.setPort x { s.port x with up := false, role := 3 }
  let s := raiseS (flushPort (s.incSat Obj.LINK_FLAPS x) x) 0x8001 [.word x]
  if (s.port other).up then
    if primary ∧ s.obj Obj.PORT_MODE 0 = 0 then
      let s := s.setPort other { s.port other with role := 0 }
      announceNow (ptpMoved (raiseS s 0x8003 [.word other, .word 1]))
    else s
  else raiseS s 0x8004 []

/-- LINK_DOWN (R375). -/
def execLinkDown (x : Nat) (s : State) :=
  let p := s.port x
  finish s (if x < 2 ∧ p.up ∧ ¬ p.lock ∧ s.elapsed p.lockSince (1000 * s.objN Obj.LINK_DOWN_HOLD x) then portDown s x else s)

/-- A port comes UP (R375, R381). -/
def portUp (s : State) (x : Nat) : State :=
  let other := (s.port (1 - x)).up
  let role := if s.obj Obj.PORT_MODE 0 = 1 then 2 else if other then 1 else 0
  let s := s.setPort x { s.port x with up := true, upSince := s.tick, role }
  let s := if other then s else s.setPort (1 - x) { s.port (1 - x) with role := 3 }
  raiseS s 0x8002 [.word x]

/-- LINK_UP (R375). -/
def execLinkUp (x : Nat) (s : State) :=
  let p := s.port x
  finish s (if x < 2 ∧ ¬ p.up ∧ p.lock ∧ s.elapsed p.lockSince (1000000 * s.objN Obj.LINK_UP_HOLD x) then portUp s x else s)

/-- ANNOUNCEMENT_REPEAT (R382). -/
def execAnnouncementRepeat (s : State) :=
  finish s (match s.net.announce with
    | t :: rest =>
      if t ≤ s.tick then announceAll { s with net := { s.net with announce := rest } } else s
    | [] => s)

/-- PORT_REVERT (R382): the preferred port has been UP for 10 s. -/
def execPortRevert (s : State) :=
  let x := s.objN Obj.PREFERRED_PORT 0
  let p := s.port x
  finish s (if s.obj Obj.REVERT 0 = 1 ∧ s.obj Obj.PORT_MODE 0 = 0 ∧ p.up ∧ p.role ≠ 0 ∧ s.elapsed p.upSince 10000000000 then
      announceNow (ptpMoved (raiseS (setRoles s x) 0x8003 [.word x, .word 2]))
    else s)

/-- A write of PORT_ENABLE (R405): 0 holds the PCS in reset and flushes the port's queues. -/
def effPortEnable (x : Nat) (v : Int) (s : State) : State × Verdict :=
  let s := s.setObj Obj.PORT_ENABLE x v
  (if v = 0 then lockChange (flushPort s x) x false else s, .ack)

/-- PORT_ENABLE. -/
def execPortEnable (sess x : Nat) (v : Int) (s : State) :=
  finish s (hostWrite s sess Obj.PORT_ENABLE x v (effPortEnable x v))

/-! ### Addressing -/

/-- Whether an IPv4 unicast address is one that R380 refuses: multicast, broadcast or loopback. 0 stands for none. -/
def badV4 (a prefix_ : Nat) : Bool :=
  decide (a ≠ 0) && (a / 0x10000000 == 14 || a == 0xFFFFFFFF || a / 0x1000000 == 127 || a % 2 ^ (32 - prefix_) == 2 ^ (32 - prefix_) - 1)

/-- The same for IPv6. All zero stands for none. -/
def badV6 (a : List Byte) : Bool := be a 0 1 == 0xFF || be a 0 16 == 1

/-- The leading bits of two addresses agree. -/
def samePrefix (width prefix_ a b : Nat) : Bool := a / 2 ^ (width - prefix_) == b / 2 ^ (width - prefix_)

/-- Whether the staged addressing of one set is refused (R380). -/
def State.addrBad (s : State) (a : Nat) : Bool :=
  let v4 := (s.judged Obj.IPV4_ADDR a).toNat
  let p4 := (s.judged Obj.IPV4_PREFIX a).toNat
  let g4 := (s.judged Obj.IPV4_GATEWAY a).toNat
  let v6 := s.judgedOct Obj.IPV6_ADDR a
  let p6 := (s.judged Obj.IPV6_PREFIX a).toNat
  let g6 := s.judgedOct Obj.IPV6_GATEWAY a
  badV4 v4 p4 || badV4 g4 p4 || (g4 != 0 && !samePrefix 32 p4 v4 g4) || badV6 v6 || badV6 g6 ||
    (!allZero g6 && !samePrefix 128 p6 (be v6 0 16) (be g6 0 16))

/-- NET_APPLY (R380): refused with NAK RANGE, else taken once every port that is sending has ended its frame. -/
def effNetApply (s : State) : State × Verdict :=
  if s.addrBad 0 ∨ s.addrBad 1 then (s, .nak .range)
  else if (s.port 0).busy.isSome ∨ (s.port 1).busy.isSome then
    ({ s with net := { s.net with netWait := (List.range 2).filter fun x => (s.port x).busy.isSome } }, .ack)
  else (applyNet s, .ack)

/-- NET_APPLY. -/
def execNetApply (sess : Nat) (s : State) := finish s (hostWrite s sess Obj.NET_APPLY 0 1 effNetApply)

end Sys2Proof.Machine
end

