-- ==== Sys2Proof/Machine/TimeOps.lean ====
section
/-!
DEFINITION. The servo (R434 to R442), the first step (R436, R437, R444), and the PTP engine's masters and measurements
(R430 to R435, R440).
-/

namespace Sys2Proof.Machine

open Sys2Proof

def State.updTime (s : State) (f : Time → Time) : State := { s with time := f s.time }

/-! ### Rate -/

/-- The nominal addend (R424). -/
def addendNominal : Int := 27487790694

/-- A rate limited to its range (R424). -/
def clampRate (r : Int) : Int := clampInt (-1073741) 1073741 r

/-- Put a rate in force: the addend of the ticks to come (R424). -/
def setRate (s : State) (r : Int) : State :=
  (s.setObj Obj.TIME_RATE 0 r).setObj Obj.ADDEND 0 (addendNominal + floorDiv (addendNominal * r) 1073741824)

/-- Change the servo state (R434). -/
def setServo (s : State) (v : Servo) : State :=
  let old := s.time.servo
  if old = v then s else
    let s := s.updTime fun t => { t with servo := v, lockRun := 0, unlockRun := 0,
                                         holdoverAt := if v = .holdover then some s.tick else none }
    raiseA (s.setObjN Obj.SERVO_STATE 0 v.code) 0x8033 [.word old.code, .word v.code]

/-! ### The step -/

/-- Sums over pairs (x, y): of x, of y, of x*x and of x*y. -/
def sumsOf (l : List (Int × Int)) : Int × Int × Int × Int :=
  l.foldl (fun a p => (a.1 + p.1, a.2.1 + p.2, a.2.2.1 + p.1 * p.1, a.2.2.2 + p.1 * p.2)) (0, 0, 0, 0)

/-- The least-squares line of pairs: slope = b / d and intercept = a / (n * d), over the number of pairs n. -/
structure Line where
  n : Int
  d : Int
  b : Int
  a : Int
  deriving DecidableEq, Repr

def lineOf (l : List (Int × Int)) : Line :=
  let (sx, sy, sxx, sxy) := sumsOf l
  let n : Int := l.length
  let d := n * sxx - sx * sx
  let b := n * sxy - sx * sy
  { n, d, b, a := sy * d - b * sx }

/-- Every residual is within a limit of the line (R436). -/
def Line.fits (k : Line) (limit : Int) (l : List (Int × Int)) : Bool :=
  decide (0 < k.d) && l.all fun p => decide ((k.n * k.d * p.2 - k.a - k.n * k.b * p.1).natAbs ≤ (limit * k.n * k.d).natAbs)

/-- A counter moved by a number of 2^-32 ns. -/
def Counter.move (c : Counter) (d : Int) : Counter :=
  let v := c.ns * 4294967296 + c.frac + d
  { c with ns := floorDiv v 4294967296, frac := (v.emod 4294967296).toNat }

/-- Whether any commit is ARMED. -/
def State.anyArmed (s : State) : Bool := s.com.live.any fun c => c.state == .armed

/-- The first instant of a periodic series that is not before `t`. -/
def firstFrom (start period t : Int) : Int := start + -floorDiv (start - t) period * period

/-- Periodic series resume at their first instant after the step, a launch no earlier than its first one; single instants are
reached by themselves (R444). -/
def resumeSeries (s : State) : State :=
  let now := s.now
  let s := s.updTime fun t => { t with
    pulses := mmap (fun _ p => if p.mode = 2 then { p with next := p.next.map fun _ => firstFrom p.start p.period now } else p) t.pulses
    launches := mmap (fun _ l => if l.period = 0 then l else { l with next := l.next.map fun _ => max l.start (firstFrom l.start l.period now) }) t.launches }
  { s with net := { s.net with sampleAt := s.tickTime } }

/-- The step at first lock (R436, R437): the counters of both lobes lose the value of the line at the next tick. -/
def stepCounters (s : State) (k : Line) : State :=
  let c := s.time.ctr.at s.counterLobe
  let x := c.ns * 4294967296 + c.frac + s.obj Obj.ADDEND 0
  let d := -(openRound 1501 (k.a * 4294967296 + k.n * k.b * x) (k.n * k.d))
  let s := s.updTime fun t => { t with ctr := ⟨t.ctr.a.move d, t.ctr.b.move d⟩, integ := floorDiv (k.b * 1073741824) k.d, pairs := [] }
  let s := resumeSeries s
  raiseA s 0x8032 [.long (toUnsigned 64 (floorDiv d 4294967296)), .time s.now.toNat]

/-- Remember the rate an update has set, for HOLDOVER (R440). -/
def noteRate (s : State) : State := s.updTime fun t => { t with rates := (s.obj Obj.TIME_RATE 0 :: t.rates).take 4096 }

/-- An update of an UNSET servo (R436): `at_` is the local time at which the offset was measured. -/
def fitUpdate (s : State) (at_ o : Int) : State :=
  let pairs := ((at_, o) :: s.time.pairs).take 8
  let s := s.updTime fun t => { t with pairs }
  let k := lineOf pairs
  if pairs.length = 8 ∧ k.fits (s.obj Obj.STEP_QUALIFY 0) pairs ∧ ¬ s.anyArmed then
    let s := setServo (stepCounters s k) .locked
    noteRate (if s.hostMode 6 then s else setRate s (clampRate (-s.time.integ)))
  else s

/-! ### Updates -/

/-- The servo law (R436). -/
def servoLaw (s : State) (o ts : Int) : State :=
  let e := if ts = 0 then Config.quotient 1502 (o * 1073741824) 0 else floorDiv (o * 1073741824) ts
  let integ := clampRate (s.time.integ + floorDiv (e * s.obj Obj.SERVO_KI 0) 32768)
  let r := clampRate (-(floorDiv (e * s.obj Obj.SERVO_KP 0) 32768 + integ))
  setRate (s.updTime fun t => { t with integ }) r

/-- Runs of good and bad measurements and what they lead to (R434). -/
def judgeLock (s : State) (o : Int) (held : Bool) : State :=
  let good := decide ((o.natAbs : Int) ≤ s.obj Obj.SERVO_LOCK_LIMIT 0)
  let s := if s.time.servo = .holdover ∧ ¬ held ∧ s.time.master.isSome then setServo s .tracking else s
  let s := s.updTime fun t => { t with lockRun := if good then t.lockRun + 1 else 0, unlockRun := if good then 0 else t.unlockRun + 1 }
  match s.time.servo with
  | .locked => if 4 ≤ s.time.unlockRun then setServo s .tracking else s
  | .tracking => if s.objN Obj.LOCK_COUNT 0 ≤ s.time.lockRun then setServo s .locked else s
  | _ => s

/-- TIME_OFFSET_LARGE after 16 consecutive large offsets, once (R438). -/
def judgeAlarm (s : State) (o : Int) : State :=
  if (o.natAbs : Int) ≤ s.obj Obj.OFFSET_ALARM 0 then s.updTime fun t => { t with alarmRun := 0, alarmRaised := false }
  else
    let s := s.updTime fun t => { t with alarmRun := t.alarmRun + 1 }
    if 16 ≤ s.time.alarmRun ∧ ¬ s.time.alarmRaised then
      raiseA (s.updTime fun t => { t with alarmRaised := true }) 0x8034 [.word (s.obj Obj.TIME_OFFSET 0)]
    else s

/-- Whether the host's rate is overdue (R442): the update at the instant of the deadline already falls back (R37). -/
def State.rateLate (s : State) : Bool :=
  s.hostMode 6 && match s.time.rateDeadline with | some d => decide (d ≤ s.tick) | none => false

def State.rateDue (s : State) : Nat := s.tick + s.objN Obj.SERVO_HOST_DEADLINE 0 * 156250

/-- The mode boundary of the time servo, which every update is (R435, R442): `hostStarted` says that the latest update was
in host mode. -/
def servoBoundary (s : State) : State :=
  let s := if s.rateLate then fallback s 6 else atModeBoundary s 6
  let was := s.time.hostStarted
  let host := s.hostMode 6
  if was && !host then
    s.updTime fun t => { t with integ := -s.obj Obj.TIME_RATE 0, rateDeadline := none, hostStarted := false }
  else if host && !was then s.updTime fun t => { t with rateDeadline := none, hostStarted := true }
  else if host && s.time.rateDeadline.isNone then s.updTime fun t => { t with rateDeadline := some s.rateDue }
  else s

/-- One servo update with an offset measured at a local time (R435, R436, R438). `held` says that the measurement is an edge of
PPS_IN in HOLDOVER (R441). -/
def servoUpdate (s : State) (o ts at_ : Int) (held : Bool) : State :=
  let s := (s.setObj Obj.TIME_OFFSET 0 (clampInt (-2147483647) 2147483647 o)).incWrap Obj.TIME_OFFSET_SEQ 0
  let s := servoBoundary s
  if s.time.servo = .unset then fitUpdate s at_ o
  else
    let s := judgeAlarm (judgeLock s o held) o
    noteRate (if s.hostMode 6 then s else servoLaw s o ts)

/-! ### Masters (R430, R440) -/

/-- The ns of a PTP interval, 2 to the power `l` seconds. -/
def intervalNs (l : Int) : Nat := if 0 ≤ l then 1000000000 * 2 ^ l.toNat else 1000000000 / 2 ^ l.natAbs

/-- Ranks are compared item by item, the lower being the better. -/
def rankBefore : List Nat → List Nat → Bool
  | [], _ => false
  | _ :: _, [] => false
  | a :: t, b :: u => if a < b then true else if b < a then false else rankBefore t u

/-- A foreign master qualifies with two Announces within the latest four intervals (IEEE 1588-2019); the selected one stays
qualified until it is lost (R440). -/
def State.qualified (s : State) (m : Master) : Bool :=
  s.time.master == some m.id ||
    match m.prevAnnounce with
    | some t => !s.elapsed t (4 * intervalNs m.logAnnounce)
    | none => false

/-- The qualified foreign masters. -/
def State.qualifiedMasters (s : State) : List Master := s.time.masters.filter s.qualified

/-- The better of two masters. -/
def betterMaster (best : Option Master) (m : Master) : Option Master :=
  match best with
  | none => some m
  | some b => if rankBefore m.rank b.rank then some m else some b

/-- Select the best qualified master (R430): MASTER_SELECTED when it is another one, whose UTC offset is then reported (R425). -/
def selectMaster (s : State) : State :=
  match s.qualifiedMasters.foldl betterMaster none with
  | none => s
  | some m =>
    if s.time.master = some m.id then s
    else
      let keep := s.obj Obj.PTP_DELAY_MECH 0 == 1
      let s := s.updTime fun t => { t with master := some m.id, pendingSync := none, syncDiff := none,
                                           freshDelay := t.freshDelay && keep, delays := if keep then t.delays else [] }
      raiseA ((s.setOct Obj.MASTER_ID 0 m.id).setObj Obj.UTC_OFFSET 0 m.utc) 0x8030 [.octets m.id]

/-- The foreign master of a port identity. -/
def State.masterOf (s : State) (id : List Byte) : Option Master := s.time.masters.find? fun m => m.id == id

/-- Keep what is known of a foreign master: of up to 8, a new one takes the place of the first that is not qualified (R430). -/
def State.putMaster (s : State) (m : Master) : State :=
  let l := s.time.masters
  let new := if l.any (fun x => x.id == m.id) then l.map fun x => if x.id = m.id then m else x
    else if l.length < 8 then l ++ [m]
    else match l.find? fun x => !s.qualified x with
      | some y => (l.filter fun x => x.id != y.id) ++ [m]
      | none => l
  s.updTime fun t => { t with masters := new }

/-- An Announce message (R430, R440, R425). -/
def announceIn (s : State) (m : PtpMsg) : State :=
  let x : Master := match s.masterOf m.src with
    | some old => { old with prevAnnounce := some old.lastAnnounce }
    | none => { id := m.src, rank := m.rank }
  let s := s.putMaster { x with rank := m.rank, lastAnnounce := s.tick, utc := m.utc, logAnnounce := m.interval }
  let s := selectMaster s
  if s.time.master = some m.src then s.setObj Obj.UTC_OFFSET 0 m.utc else s

/-- The mean path or link delay in force: that of the measurements held (R433), which PATH_DELAY shows as far as a U32 can. -/
def State.pathDelay (s : State) : Int := openRound 1504 s.time.delays.sum s.time.delays.length

/-- A Sync's origin, receive stamp and corrections are known: the measurement, once a path delay is known (R435). Its ts is the
difference to the Sync before it, of whatever master, 0 for the first of all (R436). -/
def measure (s : State) (origin stamp corr : Int) : State :=
  let diff := stamp - origin - corr
  let ts := match s.time.lastOrigin with | some p => origin - p | none => 0
  s.updTime fun t => { t with syncDiff := some diff, lastOrigin := some origin,
                              meas := if t.freshDelay then some (diff - s.pathDelay, ts, stamp) else t.meas }

/-- Sync, one-step or two-step (R430, R435). -/
def syncIn (s : State) (m : PtpMsg) : State :=
  let s := match s.masterOf m.src with
    | some x => s.putMaster { x with lastSync := some s.tick, logSync := m.interval }
    | none => s
  if s.time.master ≠ some m.src then s
  else if m.twoStep then s.updTime fun t => { t with pendingSync := some (m.seq, m.stamp, m.correction) }
  else measure s m.origin m.stamp m.correction

/-- Follow_Up (R435). -/
def followUp (s : State) (m : PtpMsg) : State :=
  match s.time.pendingSync with
  | some (q, stamp, corr) =>
    if s.time.master = some m.src ∧ q = m.seq then
      measure (s.updTime fun t => { t with pendingSync := none }) m.origin stamp (corr + m.correction)
    else s
  | none => s

/-- A path-delay measurement joins the mean of the last PATH_DELAY_AVG (R433). -/
def delayMeasured (s : State) (twice : Int) : State :=
  let d := (openRound 1503 twice 2 :: s.time.delays).take (s.objN Obj.PATH_DELAY_AVG 0)
  let s := s.updTime fun t => { t with delays := d, freshDelay := true, delaySent := none, pdelay := none }
  s.setObjN Obj.PATH_DELAY 0 (min u32Max s.pathDelay.toNat)

/-- The module's own PTP portIdentity: the clockIdentity of its first MAC address and port 1 (log entry 176). -/
def State.ptpIdentity (s : State) : List Byte :=
  let mac := s.oct Obj.MAC_ADDR 0
  mac.take 3 ++ [0xFF, 0xFE] ++ mac.drop 3 ++ [0, 1]

/-- Delay_Resp to this module's request: the four timestamps of the delay request-response mechanism, and the interval for the requests
to come (R433, R435). -/
def delayResp (s : State) (m : PtpMsg) : State :=
  match s.time.delaySent, s.time.syncDiff with
  | some (q, t3), some d =>
    if s.time.master = some m.src ∧ q = m.seq ∧ m.requesting = s.ptpIdentity ∧ s.obj Obj.PTP_DELAY_MECH 0 = 0 then
      delayMeasured (s.updTime fun t => { t with delayLog := m.interval }) (d + (m.origin - t3 - m.correction))
    else s
  | _, _ => s

/-- Pdelay_Resp to this module's request: the peer's receive stamp, and with one step its turnaround in the correction (R430). -/
def pdelayResp (s : State) (m : PtpMsg) : State :=
  match s.time.delaySent with
  | some (q, t1) =>
    if q = m.seq ∧ m.requesting = s.ptpIdentity ∧ s.obj Obj.PTP_DELAY_MECH 0 = 1 then
      if m.twoStep then s.updTime fun t => { t with pdelay := some (m.origin, m.stamp - t1 - m.correction) }
      else delayMeasured s (m.stamp - t1 - m.correction)
    else s
  | none => s

/-- Pdelay_Resp_Follow_Up: the peer's transmit stamp. -/
def pdelayFollowUp (s : State) (m : PtpMsg) : State :=
  match s.time.delaySent, s.time.pdelay with
  | some (q, _), some (t2, d) =>
    if q = m.seq ∧ m.requesting = s.ptpIdentity then delayMeasured s (d - (m.origin - t2) - m.correction) else s
  | _, _ => s

/-- The stamp of a message sent on a port, referred to the MDI (R433). -/
def State.txStamp (s : State) (x : Nat) : Int := floorDiv (10 * s.now + s.latency true x) 10

/-- What answers a Pdelay_Req (Table 15.1): with two steps its receive stamp and, in a Follow_Up, the transmit stamp of the answer, with
one step the turnaround in the correction, as IEEE 1588-2019 has it. -/
def State.pdelayAnswer (s : State) (m : PtpMsg) : List DelayOut :=
  let t3 := s.txStamp m.port
  if s.obj Obj.PDELAY_RESP_MODE 0 = 1 then
    [{ kind := 10, seq := m.seq, requesting := m.src, stamp := t3, correction := m.correction },
     { kind := 3, seq := m.seq, requesting := m.src, stamp := m.stamp }]
  else [{ kind := 3, seq := m.seq, requesting := m.src, correction := m.correction + (t3 - m.stamp) }]

/-- Pdelay_Req: the module answers it as PDELAY_RESP_MODE says (Table 15.1). -/
def pdelayReq (s : State) (m : PtpMsg) : State :=
  if s.obj Obj.PTP_DELAY_MECH 0 = 1 then s.updTime fun t => { t with delayOut := s.pdelayAnswer m ++ t.delayOut } else s

/-- The port on which PTP runs (R431). -/
def State.ptpPort (s : State) : Option Nat :=
  if s.obj Obj.PORT_MODE 0 = 1 then some (s.objN Obj.PTP_PORT 0)
  else (List.range 2).find? fun p => (s.port p).up && (s.port p).role == 0

/-- Whether a message's interval lies in Table 15.1. -/
def intervalOk (m : PtpMsg) : Bool :=
  match m.kind with
  | 0 | 8 => decide (-7 ≤ m.interval ∧ m.interval ≤ 4)
  | 11 => decide (-3 ≤ m.interval ∧ m.interval ≤ 4)
  | 9 => decide (-7 ≤ m.interval ∧ m.interval ≤ 5)
  | _ => true

/-- Messages that are discarded and counted (R430, R431). -/
def State.ptpDiscards (s : State) (m : PtpMsg) : Bool :=
  s.ptpPort != some m.port || decide (m.domain ≠ s.objN Obj.PTP_DOMAIN 0) || decide (m.sdo ≠ 0) || decide (m.version ≠ 2) ||
    !intervalOk m

/-- What the engine does with a message of each type. -/
def ptpTake (s : State) (m : PtpMsg) : State :=
  match m.kind with
  | 0 => syncIn s m
  | 2 => pdelayReq s m
  | 3 => pdelayResp s m
  | 8 => followUp s m
  | 9 => delayResp s m
  | 10 => pdelayFollowUp s m
  | 11 => announceIn s m
  | _ => s

end Sys2Proof.Machine
end

