-- ==== Sys2Proof/Machine/Time.lean ====
section
/-!
DEFINITION. Commands of network time (spec/15_time.md): PTP, the servo, the time-domain reset, pulses, PPS_IN and launches.
-/

namespace Sys2Proof.Machine

open Sys2Proof

/-- The frame that brings a message: the oldest of its port that the classifier has handed to the engine. -/
def State.ptpFrame (s : State) (m : PtpMsg) : Option RxFrame := s.net.ptpIn.reverse.find? fun f => f.port == m.port

/-- A message with its receive stamp referred to the MDI (R433): that of its frame, or, where it is not followed from its frame on, of the
stamp it brings. -/
def State.stamped (s : State) (m : PtpMsg) : PtpMsg :=
  { m with stamp := match s.ptpFrame m with | some f => f.stamp | none => s.atMdi m.port m.stamp }

/-- The engine takes the frame of a message. -/
def takeFrame (s : State) (m : PtpMsg) : State :=
  match s.ptpFrame m with
  | some f => { s with net := { s.net with ptpIn := (s.net.ptpIn.reverse.erase f).reverse } }
  | none => s

/-- PTP_MESSAGE (R430): checked, then taken by the engine. -/
def execPtpMessage (m : PtpMsg) (s : State) :=
  finish s (if s.obj Obj.PTP_ENABLE 0 = 0 ∨ ¬ s.ticking then s
    else if s.ptpDiscards m then (takeFrame s m).inc64 Obj.PTP_RX_DISCARDS 0
    else if m.transport ≠ s.objN Obj.PTP_TRANSPORT 0 then takeFrame s m
    else ptpTake (takeFrame s m) (s.stamped m))

/-- The servo takes the measurement that the PTP engine has formed and no update has taken yet. -/
def takeMeasurement (s : State) : State :=
  match s.time.meas with
  | some (o, ts, at_) => servoUpdate (s.updTime fun t => { t with meas := none }) o ts at_ false
  | none => s

/-- SERVO_UPDATE (R435, R436): the measurement it names, if that is the one the engine has formed. -/
def execServoUpdate (o ts : Int) (s : State) :=
  finish s (if s.ticking ∧ s.time.meas.map (fun m => (m.1, m.2.1)) = some (o, ts) then takeMeasurement s else s)

/-- FALLBACK_TIME_SERVO (R442): the first update after a missed deadline. -/
def execFallbackTimeServo (s : State) := finish s (if s.ticking ∧ s.rateLate then takeMeasurement s else s)

/-- The wait in ticks from one request to the next: anything up to twice the interval of the master's Delay_Resp, as IEEE 1588-2019 has it
(R433, log entry 176). -/
def State.delayWait (s : State) (n : Nat) : Nat := n % (2 * intervalNs s.time.delayLog * 5 / 32 + 1)

/-- DELAY_REQ_SEND (R433): Delay_Req needs a master, Pdelay_Req does not. -/
def execDelayReqSend (s : State) :=
  finish s (match s.ptpPort with
    | none => s
    | some x =>
      let peer := s.obj Obj.PTP_DELAY_MECH 0 == 1
      if s.obj Obj.PTP_ENABLE 0 = 1 ∧ (s.port x).up ∧ (peer ∨ s.time.master.isSome) ∧ s.time.delayNext ≤ s.tick then
        let q := (s.time.ptpSeq + 1) % 65536
        let stamp := s.txStamp x
        let (n, s) := s.fresh
        s.updTime fun t => { t with ptpSeq := q, delaySent := some (q, stamp), pdelay := none, delayNext := s.tick + s.delayWait n
                                    delayOut := { kind := if peer then 2 else 1, seq := q, stamp := stamp } :: t.delayOut }
      else s)

/-- Whether the selected master's Announces (cause 1) or Syncs (cause 2) have stopped (R440). -/
def State.masterSilent (s : State) (m : Master) (cause : Nat) : Bool :=
  let n := s.objN Obj.ANNOUNCE_TIMEOUT 0
  if cause = 1 then s.elapsed m.lastAnnounce (n * intervalNs m.logAnnounce)
  else match m.lastSync with
    | some t => s.elapsed t (n * intervalNs m.logSync)
    | none => false

/-- The rate held in HOLDOVER: the mean of the last HOLDOVER_AVG updates (R440). -/
def holdRate (s : State) : State :=
  let l := s.time.rates.take (s.objN Obj.HOLDOVER_AVG 0)
  if l.isEmpty ∨ s.hostMode 6 then s else setRate s (clampRate (openRound 1505 l.sum l.length))

/-- The selected master is lost (R440): another one is selected, or the servo holds over. A measurement not yet taken was of its time
(Table 15.2). -/
def loseMaster (s : State) (m : Master) (cause : Nat) : State :=
  let s := s.updTime fun t => { t with masters := t.masters.filter (fun x => x.id ≠ m.id), master := none, pendingSync := none,
                                       syncDiff := none, meas := none }
  let s := raiseA s 0x8031 [.octets m.id, .word cause]
  let s := selectMaster s
  if s.time.master.isSome then s
  else
    let s := s.setOct Obj.MASTER_ID 0 (List.replicate 10 0)
    if s.time.servo = .locked ∨ s.time.servo = .tracking then holdRate (setServo s .holdover) else s

/-- MASTER_LOST (R440). -/
def execMasterLost (cause : Nat) (s : State) :=
  finish s (match s.time.masters.find? fun m => some m.id == s.time.master with
    | some m => if s.masterSilent m cause then loseMaster s m cause else s
    | none => s)

/-- A write of TIME_RATE (R442): host-assisted mode only. A write that comes too late does not undo the miss (R37). -/
def effTimeRate (r : Int) (s : State) : State × Verdict :=
  if !s.hostMode 6 then (s, .nak .state)
  else ((setRate s r).updTime fun t => { t with rateDeadline := if s.rateLate then t.rateDeadline else some s.rateDue }, .ack)

/-- TIME_RATE. -/
def execTimeRate (sess : Nat) (r : Int) (s : State) := finish s (hostWrite s sess Obj.TIME_RATE 0 r (effTimeRate r))

/-- The time-domain reset (R443). -/
def domainReset (s : State) : State :=
  let s := setServo s .unset
  let s := s.updTime fun t => { t with pairs := [], alarmRun := 0, alarmRaised := false, pulses := [], launches := [] }
  let s := (List.range 5).foldl (fun s k => s.setObjN Obj.PULSE_MODE k 0) s
  let s := clearGates (s.incWrap Obj.TIME_DOMAIN_GEN 0)
  raiseA s 0x8035 [.word (s.obj Obj.TIME_DOMAIN_GEN 0)]

/-- TIME_RESET (R443). -/
def effTimeReset (s : State) : State × Verdict :=
  if s.anyArmed then (s, .nak .busy) else (domainReset s, .ack)

/-- TIME_RESET. -/
def execTimeReset (sess : Nat) (s : State) := finish s (hostWrite s sess Obj.TIME_RESET 0 1 effTimeReset)

/-! ### PPS_IN -/

/-- The stamp of an edge of PPS_IN: three ticks before the deglitched level changes (R448). -/
def State.ppsStamp (s : State) : Int :=
  let c := s.time.ctr.at s.counterLobe
  floorDiv (c.ns * 4294967296 + c.frac - 3 * s.obj Obj.ADDEND 0) 4294967296

/-- The offset of an instant from the nearest whole second. -/
def secondOffset (t : Int) : Int :=
  let r := t.emod 1000000000
  if 2 * r < 1000000000 then r else r - 1000000000

/-- An edge of PPS_IN (R448, R441). -/
def ppsEdge (s : State) : State :=
  let off := secondOffset s.ppsStamp
  if s.time.servo = .unset ∨ s.obj Obj.PPS_IN_WINDOW 0 < off.natAbs then s
  else
    let s := (s.setObj Obj.PPS_IN_OFFSET 0 off).updTime fun t => { t with ppsAt := s.tick }
    let s := if s.obj Obj.PPS_IN_VALID 0 = 1 then s else raiseA (s.setObj Obj.PPS_IN_VALID 0 1) 0x8038 [.word off]
    if s.obj Obj.PPS_IN_MODE 0 = 2 ∧ s.time.servo = .holdover then servoUpdate s off 1000000000 s.ppsStamp true else s

/-- PPS_IN_EDGE (R448). -/
def execPpsInEdge (s : State) := finish s (if s.obj Obj.PPS_IN_MODE 0 = 0 ∨ ¬ s.ticking then s else ppsEdge s)

/-- PPS_IN_LOST (R448): 2 s without a valid edge. -/
def execPpsInLost (s : State) :=
  finish s (if s.obj Obj.PPS_IN_VALID 0 = 1 ∧ s.elapsed s.time.ppsAt 2000000000 then raiseA (s.setObj Obj.PPS_IN_VALID 0 0) 0x8037 []
    else s)

/-! ### Pulses -/

/-- The class S objects of a pulse output. -/
def pulseObjs : List Nat :=
  [Obj.PULSE_MODE, Obj.PULSE_START, Obj.PULSE_PERIOD, Obj.PULSE_WIDTH, Obj.PULSE_POL, Obj.PULSE_QUAL]

/-- The program that a pulse output's objects in effect describe, from an instant at which it is applied (R447). -/
def State.pulseProgram (s : State) (k : Nat) : Pulse :=
  let mode := s.objN Obj.PULSE_MODE k
  let start := s.obj Obj.PULSE_START k
  let period := s.obj Obj.PULSE_PERIOD k
  { mode, start, period, width := s.objN Obj.PULSE_WIDTH k, pol := s.objN Obj.PULSE_POL k, qual := s.objN Obj.PULSE_QUAL k,
    next := if mode = 1 then some start else some (firstFrom start period (s.now + 2000)) }

/-- Put the program of a pulse output in force. -/
def startPulse (s : State) (k : Nat) : State :=
  let p := s.pulseProgram k
  s.updTime fun t => { t with pulses := if p.mode = 0 then mdel t.pulses k else mset t.pulses k p }

/-- PULSE_APPLY (R447). -/
def effPulseApply (k : Nat) (s : State) : State × Verdict :=
  if 5 * s.judged Obj.PULSE_PERIOD k ≤ 32 * s.judged Obj.PULSE_WIDTH k then (s, .nak .range)
  else if s.judged Obj.PULSE_MODE k = 1 ∧ s.judged Obj.PULSE_START k < s.now + 2000 then (s, .nak .late)
  else (startPulse (pulseObjs.foldl (fun s a => s.applyStagedAt a k) s) k, .ack)

/-- PULSE_APPLY. -/
def execPulseApply (sess k : Nat) (s : State) := finish s (hostWrite s sess Obj.PULSE_APPLY k 1 (effPulseApply k))

/-- A pulse edge that is due: the trailing edge, else the leading one, suppressed while UNSET where PULSE_QUAL says so. -/
def pulseEdge (s : State) (p : Pulse) : Pulse :=
  let p := match p.endTick with
    | some e => if e ≤ s.tick then { p with endTick := none } else p
    | none => p
  match p.next with
  | some t =>
    if s.atT t then
      let quiet := p.qual = 1 ∧ s.time.servo = .unset
      { p with next := if p.mode = 2 then some (t + p.period) else none
               endTick := if quiet then p.endTick else some (s.tick + p.width) }
    else p
  | none => p

/-- PULSE_EDGE (R447). -/
def execPulseEdge (k : Nat) (s : State) :=
  finish s (match mfind s.time.pulses k with
    | some p => s.updTime fun t => { t with pulses := mset t.pulses k (pulseEdge s p) }
    | none => s)

/-- The level of a pulse output (R447). -/
def State.pulseLevel (s : State) (k : Nat) : Bool :=
  match mfind s.time.pulses k with
  | some p => p.endTick.isSome != (p.pol == 1)
  | none => s.obj Obj.PULSE_POL k == 1

/-! ### Launches -/

/-- The class S objects of a launch entry. -/
def launchObjs : List Nat := [Obj.LAUNCH_FRAME, Obj.LAUNCH_SOURCE, Obj.LAUNCH_TIME, Obj.LAUNCH_PERIOD]

/-- LAUNCH_APPLY with 1 (R446). -/
def effLaunchStart (l : Nat) (s : State) : State × Verdict :=
  let period := s.judged Obj.LAUNCH_PERIOD l
  if s.judged Obj.LAUNCH_TIME l < s.now + 2000 then (s, .nak .late)
  else if 1 ≤ period ∧ period ≤ 999 then (s, .nak .range)
  else
    let s := launchObjs.foldl (fun s a => s.applyStagedAt a l) s
    let first := s.obj Obj.LAUNCH_TIME l
    let e : Launch := { frame := s.oct Obj.LAUNCH_FRAME l, source := s.objN Obj.LAUNCH_SOURCE l, period, start := first,
                        next := some first }
    (s.updTime fun t => { t with launches := mset t.launches l e }, .ack)

/-- LAUNCH_APPLY with 2. -/
def effLaunchStop (l : Nat) (s : State) : State × Verdict :=
  (s.updTime fun t => { t with launches := mdel t.launches l }, .ack)

/-- LAUNCH_START (R446). -/
def execLaunchStart (sess l : Nat) (s : State) := finish s (hostWrite s sess Obj.LAUNCH_APPLY l 1 (effLaunchStart l))

/-- LAUNCH_STOP (R446). -/
def execLaunchStop (sess l : Nat) (s : State) := finish s (hostWrite s sess Obj.LAUNCH_APPLY l 2 (effLaunchStop l))

/-- Put a launched frame into its queue (R446, R402): in INDEPENDENT mode on the port whose MAC it carries as its source. -/
def launchNow (s : State) (l : Nat) (e : Launch) (t : Int) : State :=
  let x := if slice e.frame 6 6 = s.oct Obj.MAC_ADDR 1 then 1 else 0
  let up := (s.port (s.txPort x)).up
  let (s, entered) := enqueue s (s.txQueue x e.source) e.source (e.frame.length + 4)
  let s := s.incWrap Obj.LAUNCH_COUNT l
  let s := if entered ∨ ¬ up then s else s.incSat Obj.LAUNCH_DROPS l
  s.updTime fun u => { u with launches := if e.period = 0 then mdel u.launches l
                                          else mset u.launches l { e with next := some (t + e.period) } }

/-- LAUNCH_INSTANT (R446). -/
def execLaunchInstant (l : Nat) (s : State) :=
  finish s (match mfind s.time.launches l with
    | some e =>
      match e.next with
      | some t => if s.atT t then launchNow s l e t else s
      | none => s
    | none => s)

end Sys2Proof.Machine
end

