-- ==== Sys2Proof/Machine/Internal.lean ====
section
/-!
DEFINITION. Commands of the internal fabric (spec/17_internal.md): stalled bursts, broken locks, arbitration faults and
memory errors.
-/

namespace Sys2Proof.Machine

open Sys2Proof

/-- Whether the fetcher of the ACTIVE lobe has a write-back burst open, which is not held at the port (R98, log entry 40). -/
def State.fetchBurst (s : State) (i t : Nat) : Bool :=
  s.lib.writing.isSome && decide (t ≤ 1) && s.active.any fun l => i == 2 + l

/-- A burst that missed a beat: its initiator ends as if it had been reset (R494, R495). A write-back of the fetcher, which is not held at
the port, stops after the beats it has written. -/
def endBurst (s : State) (i t written abandoned : Nat) : State :=
  if s.fetchBurst i t then cutWriteBack (abortBurst (initEnd s i 2) i t written abandoned 2) (some written)
  else initEnd s i 2

/-- Whether an initiator's burst at a target has waited for a beat since a tick, where it has one open (R494). -/
def State.beatSince (s : State) (i t : Nat) : Option Nat :=
  match (s.matPort i).out.find? fun r => openBurst r && r.target == t with
  | some r => some r.last
  | none => if s.fetchBurst i t then s.lib.lastWrite else none

/-- BEAT_TIMEOUT (R494): the time of that name has passed since the latest beat of an open write burst. Of a burst that stands in the port,
the port counts the beats. -/
def execBeatTimeout (i t written abandoned : Nat) (s : State) :=
  finish s (if i < 7 ∧ (s.beatSince i t).any (fun n => s.elapsed n (s.objN Obj.BEAT_TIMEOUT 0)) then endBurst s i t written abandoned
    else s)

/-- What is left of a locked sequence among transactions in order, and the rest: the sequence ends with its UNLOCK, and a FENCE is no
member of it. -/
def cutSequence : Bool → List MatReq → List MatReq × List MatReq × Bool
  | on, [] => ([], [], on)
  | on, r :: l =>
    let (cut, rest, on') := cutSequence (on && !(r.target == 2 && r.mark == 2)) l
    if on && r.target == 2 && r.mark != 3 then (r :: cut, rest, on') else (cut, r :: rest, on')

/-- A lock held too long is broken (R493): what the sequence has completed stands, the rest of it is refused with ERROR, and what it held
back enters. -/
def breakLock (s : State) (i holdNs : Nat) : State :=
  let p := s.matPort i
  let (cutOut, out, on) := cutSequence true p.out
  let (cutHeld, held, _) := cutSequence on p.held
  let s := s.setMatPort i (takeIn i held { out })
  let s := (cutOut ++ cutHeld).foldl (fun s r => answerError s i r) s
  raiseS (releaseLock (s.incSat Obj.LOCKS_BROKEN i) i) 0xA005 [.word i, .word holdNs]

/-- LOCK_BROKEN (R493): a lock held for longer than LOCK_LIMIT. -/
def execLockBroken (i holdNs : Nat) (s : State) :=
  finish s (if s.mat.lock.any (·.1 == i) ∧ s.objN Obj.MATRIX_LOCK_LIMIT 0 < holdNs then breakLock s i holdNs else s)

/-- The copies of a target's arbitration disagree twice (R490): the fixed-order arbiter takes the target over. -/
def fixTarget (s : State) (t : Nat) : State :=
  if s.mat.fixed.contains t then s
  else
    let s := { s with mat := { s.mat with fixed := s.mat.fixed ++ [t] } }
    raiseS ((s.setObjN Obj.TARGET_ARB_STATE t 1).fault (.matrix t)) 0xA007 [.word t, .word (s.obj Obj.ARB_MISMATCHES 0)]

/-- MATRIX_FAULT (R490). -/
def execMatrixFault (t : Nat) (s : State) := finish s (if t < 11 then fixTarget s t else s)

/-- ARB_RESET (R490): every FIXED target returns to weighted arbitration. -/
def effArbReset (s : State) : State × Verdict :=
  if s.mat.fixed.isEmpty then (s, .nak .state)
  else
    let s := s.mat.fixed.foldl (fun s t => (s.setObjN Obj.TARGET_ARB_STATE t 0).unfault (.matrix t)) s
    ({ s with mat := { s.mat with fixed := [], arbs := s.mat.fixed.foldl (fun m t => mdel m t) s.mat.arbs } }, .ack)

/-- ARB_RESET. -/
def execArbReset (sess : Nat) (s : State) := finish s (hostWrite s sess Obj.ARB_RESET 0 1 effArbReset)

/-! ### Memory errors -/

/-- An error in the image of a slot (Table 17.8): the slot is INVALID now, or when the commit that uses it ends. One that a fetch meets
stands until its PREPARE, which is refused with NAK MEMORY and makes the slot INVALID. -/
def slotError (s : State) (slot initiator : Nat) : State :=
  if s.slotState slot = .empty ∨ s.slotState slot = .loading ∨ s.slotState slot = .routing then s
  else if s.inUse slot then
    { s with mat := { s.mat with slotErr := if s.mat.slotErr.contains slot then s.mat.slotErr else slot :: s.mat.slotErr } }
  else if s.lib.writing.any (fun l => l.slot == slot) then finishWriteBack s
  else if initiator = 2 ∨ initiator = 3 then s
  else invalidate s slot 8

/-- An error in region C (Table 17.8): the page's values return to the stored ones, which counts as an application (R279). -/
def pageReload (s : State) (page : Nat) : State :=
  let l := s.calDiff.filter fun p => Config.calibrationPage p.1 p.2 == page
  let isMap := fun (p : Nat × Nat) => (mfind2 s.octs p.1 p.2).isSome || (mfind2 s.dev.flash.calOcts p.1 p.2).isSome
  applyValues s ((l.filter fun p => !isMap p).map fun p => (p.1, p.2, storedVal s.dev.flash.cal p.1 p.2))
    ((l.filter isMap).map fun p => (p.1, p.2, storedOct s.dev.flash.calOcts p.1 p.2))

/-- What an uncorrectable error at an address leads to (R498, R499). An initiator above 6 stands for the patrol scrub. -/
def hbmError (s : State) (addr initiator : Nat) : State :=
  let word := addr / 32 * 32
  let region := hbmRegion addr
  let s := (s.incSat Obj.HBM_UE_COUNT (stackOf addr)).setObjN Obj.HBM_LAST_UE_ADDR 0 word
  let s := raiseS s 0xA002 [.long word, .word initiator, .word (if 6 < initiator then 6 else region)]
  let mark := { s with mat := { s.mat with badWords := if s.mat.badWords.contains (word, 32) then s.mat.badWords
                                                        else (word, 32) :: s.mat.badWords } }
  match region with
  | 0 => slotError mark (addr / slotBytes) initiator
  | 1 => mark
  | 2 => pageReload s ((addr - 0x1C00000000) / 4096)
  | 3 => mark
  | r => yieldLobe s (r - 4) 3

/-- HBM_UE (R499). -/
def execHbmUe (addr initiator : Nat) (s : State) :=
  finish s (if addr < 0x2000000000 ∧ s.dev.state ≠ .off then hbmError s addr initiator else s)

/-- An uncorrectable SRAM error (R502, Table 17.9): counted and reported; every event record that its 64-bit word holds a part of is
unreadable, and a heartbeat in a mailbox or a snapshot in a transfer buffer will fail its CRC. -/
def sramError (s : State) (addr initiator : Nat) : State :=
  let s := (s.incSat Obj.SRAM_UE_COUNT 0).setObjN Obj.SRAM_LAST_UE_ADDR 0 addr
  let word := addr / 8 * 8
  let bad := (s.ex.log.filter fun e =>
    let r := (e.seq + 4095) % 4096
    decide (52 * r < word + 8 ∧ word < 52 * r + 52)).map (·.seq)
  let s :=
    if addr < 4096 * 52 then { s with mat := { s.mat with eventBad := bad ++ s.mat.eventBad } }
    else if 0x40000 ≤ addr ∧ addr < 0x80000 then { s with mat := { s.mat with mailBad := true } }
    else if 0x100000 ≤ addr ∧ addr < 0x400000 then { s with mat := { s.mat with transferBad := true } }
    else s
  raiseS s 0xA003 [.word addr, .word initiator]

/-- SRAM_UE (R502). -/
def execSramUe (addr initiator : Nat) (s : State) :=
  finish s (if addr < 0x4000000 ∧ s.dev.state ≠ .off then sramError s addr initiator else s)

/-- Corrected errors of one stack (R498): counted, and reported at most once per second. -/
def correctedIn (s : State) (addrs : List Nat) (k : Nat) : State :=
  let l := addrs.filter fun a => stackOf a == k
  match l.getLast? with
  | none => s
  | some a =>
    let s := s.inc64 Obj.HBM_CE_COUNT k l.length
    let (n, last) := mget (0, none) s.mat.ce k
    let n := n + l.length
    let due := match last with | some t => s.elapsed t 1000000000 | none => true
    if due then
      raiseS { s with mat := { s.mat with ce := mset s.mat.ce k (0, some s.tick) } } 0xA001 [.word k, .word n, .long (a / 32 * 32)]
    else { s with mat := { s.mat with ce := mset s.mat.ce k (n, last) } }

/-- A scrub pass ends and the next begins, with the period now written. -/
def nextScrub (s : State) : State := { s with mat := { s.mat with scrubAt := s.tick, scrubPeriod := s.objN Obj.SCRUB_PERIOD 0 } }

/-- SCRUB_DONE (R500): a pass that has taken its period ends; `corrected` lists the HBM addresses of the words corrected in it, in
order. -/
def execScrubDone (corrected : List Nat) (uncorrectable : Nat) (s : State) :=
  finish s (if s.dev.state ≠ .off ∧ s.elapsed s.mat.scrubAt (1000000000 * s.mat.scrubPeriod) then
      let s := correctedIn (correctedIn (nextScrub s) corrected 0) corrected 1
      raiseS s 0xA00A [.word corrected.length, .word uncorrectable]
    else s)

end Sys2Proof.Machine
end

