-- ==== Sys2Proof/Machine/Traffic.lean ====
section
/-!
DEFINITION. The traffic of the bus matrix during a scan (spec/17_internal.md R483 to R493): requests at the ports, hold-back,
weighted round robin, the double computation of each grant, locked sequences and fences. The transactions carry no data here:
what the manual's own operations move is the effect of their commands (log entry 40).
-/

namespace Sys2Proof.Machine

open Sys2Proof

/-- A refused transaction (R485): answered ERROR, counted, and reported at most once per second per initiator. -/
def decodeError (s : State) (i : Nat) (r : MatReq) : State :=
  let s := (answerError s i r).incSat Obj.DECODE_ERRORS i
  if (mfind s.mat.refusedAt i).all fun t => s.elapsed t 1000000000 then
    raiseS { s with mat := { s.mat with refusedAt := mset s.mat.refusedAt i s.tick } } 0xA004 [.word i, .word r.target, .long r.addr]
  else s

/-- An initiator presents a transaction (R485, R492, R493): while it holds a lock, one to another target is refused, not held
back. -/
def presentReq (s : State) (i : Nat) (r : MatReq) : State :=
  if r.mark ≠ 3 ∧ ¬ reqAllowed i r then decodeError s i r
  else if r.mark ≠ 3 ∧ s.mat.lock.any (·.1 == i) ∧ r.target ≠ 2 then answerError s i r
  else
    let p := s.matPort i
    let s := if p.mustHold i r then s.inc64 Obj.HELD_BACK i else s
    s.setMatPort i (takeIn i [r] p)

/-- Whether an initiator's oldest transaction at a target can be granted: its beat is ready and no other holds the lock. -/
def State.requests (s : State) (t : Nat) (idle : List Nat) (i : Nat) : Bool :=
  (s.matPort i).out.any (·.target == t) && !idle.contains i && (t ≠ 2 || s.mat.lock.all (·.1 == i))

/-- The next initiator of the weighted round robin (R488): from where the arbiter stands to the end of the round, then from the
start of the next, whose weights are those now written. An initiator of weight 0 is served when no other requests. -/
def MatArb.next (a : MatArb) (weights : List Nat) (req : Nat → Bool) : Option (Nat × MatArb) :=
  let here := fun (w : List Nat) (from_ left : Nat) => (List.range 7).find? fun i =>
    req i && decide (from_ ≤ i) && decide (0 < if i = from_ then left else w.getD i 0)
  let take := fun (w : List Nat) (i left : Nat) => some (i, { pos := i, left := left - 1, weights := w : MatArb })
  match here a.weights a.pos a.left with
  | some i => take a.weights i (if i = a.pos then a.left else a.weights.getD i 0)
  | none =>
    match here weights 0 (weights.getD 0 0) with
    | some i => take weights i (weights.getD i 0)
    | none => ((List.range 7).find? req).map fun i => (i, { pos := 7, left := 0, weights := weights })

/-- The weights written for a target. -/
def State.matWeights (s : State) (t : Nat) : List Nat := (s.oct Obj.TARGET_WEIGHTS t).map (·.toNat)

/-- The first transaction of a list at a target after one beat or one access of it at a tick, and the list without it once it is whole. -/
def serveFirst (t tick : Nat) : List MatReq → Option (MatReq × List MatReq)
  | [] => none
  | r :: l =>
    if r.target = t then
      let r := { r with done := r.done + 1, last := tick }
      some (r, if r.done < r.beats then r :: l else l)
    else (serveFirst t tick l).map fun q => (q.1, r :: q.2)

/-- One grant to an initiator (R488): one beat or one access; the bytes are counted, a LOCK or UNLOCK takes effect, and held-back
requests of the port enter. -/
def serveReq (s : State) (t i : Nat) : State :=
  let p := s.matPort i
  match serveFirst t s.tick p.out with
  | none => s
  | some (r, l) =>
    let s := { s with mat := { s.mat with grantAt := mset s.mat.grantAt t s.tick } }
    let s := s.inc64 Obj.INIT_BYTES i (if r.beats = 1 then r.bytes else 64)
    let s := s.setMatPort i (takeIn i p.held { out := l })
    if r.mark = 1 then { s with mat := { s.mat with lock := some (i, s.tick) } }
    else if r.mark = 2 then releaseLock s i
    else s

/-- A target with no request pending parks (R489). -/
def parkIdle (s : State) (t : Nat) : State :=
  if (List.range 7).any fun i => (s.matPort i).out.any (·.target == t) then s
  else { s with mat := { s.mat with parked := mset s.mat.parked t (s.parkOf t) } }

/-- The copies of a target's arbitration compute a grant (R490): one disagreement costs a second evaluation and is counted, two
hand the target to the fixed-order arbiter. -/
def matGrant (s : State) (t : Nat) (idle : List Nat) (differ : Nat) : State :=
  let req := s.requests t idle
  let s := if s.mat.fixed.contains t then s
    else if 2 ≤ differ then fixTarget s t
    else if differ = 1 then s.incSat Obj.ARB_MISMATCHES 0
    else s
  if s.mat.fixed.contains t then
    match (List.range 7).find? req with
    | some i => parkIdle (serveReq s t i) t
    | none => s
  else
    match (mget {} s.mat.arbs t).next (s.matWeights t) req with
    | some (i, a) => parkIdle (serveReq { s with mat := { s.mat with arbs := mset s.mat.arbs t a } } t i) t
    | none => parkIdle s t

/-- One step of the matrix. -/
def matStep (s : State) : MatStep → State
  | .present i r => presentReq s i r
  | .grant t idle differ => matGrant s t idle differ
  | .hbmCorrected a => correctedIn s [a] (stackOf a)
  | .sramCorrected _ => s.inc64 Obj.SRAM_CE_COUNT 0

/-- The traffic of a scan. -/
def matTraffic (s : State) (l : List MatStep) : State := if s.dev.state = .off then s else l.foldl matStep s

end Sys2Proof.Machine
end

