-- ==== Sys2Proof/Machine/LifeOps.lean ====
section
/-!
DEFINITION. What start-up, resets, the park application and firmware updates are written over (spec/18_lifecycle.md): the
state a cold or warm reset leaves (R522, R523), the safe load (R216), the stored regions at self-test (R514, R524), the
park ramp (R520), and the ends of flash stores (R526, R530, R531).
-/

namespace Sys2Proof.Machine

open Sys2Proof

/-! ### Resets (R509, R522) -/

/-- A flash program in progress stops where it stands: the region being programmed fails its CRC from then on (R509, R527). -/
def Device.cutFlash (d : Device) : Flash :=
  match d.store with
  | some st =>
    match st.regions.head? with
    | some i => { d.flash with bad := if d.flash.bad.contains (st.kind.offset i) then d.flash.bad
                                      else st.kind.offset i :: d.flash.bad }
    | none => d.flash
  | none => d.flash

/-- What a cold reset leaves (Table 18.7): the flash, the pins, the test port and the clock input; device state OFF. -/
def coldReset (s : State) (cause : Nat) : State :=
  let fresh : State := {
    pending := s.pending
    dev := { refclkLost := s.dev.refclkLost, resetN := s.dev.resetN, pgood := s.dev.pgood,
             wearRaised := s.dev.wearRaised, tapInstruction := s.dev.tapInstruction, trstN := s.dev.trstN
             boundary := s.dev.boundary, tapData := s.dev.tapData, flash := s.dev.cutFlash }
    lobes := { each := ⟨{ strapHigh := s.lobes.each.a.strapHigh }, { strapHigh := s.lobes.each.b.strapHigh }⟩ }
    ex := { freeCount := s.ex.freeCount } }
  fresh.setObjN Obj.RESET_CAUSE 0 cause

/-- The counts of the life record, which firmware reads at start-up (R533, R462). -/
def loadLife (s : State) : State :=
  let f := s.dev.flash
  let s := (s.setObjN Obj.POWER_ON_HOURS 0 f.hours).setObjN Obj.COLD_RESETS 0 f.coldResets
  let s := (s.setObjN Obj.LIFE_COMMITS 0 f.commits).setObjN Obj.HOURS_JUNCTION_HOT 0 f.hotHours
  { s.setObjN Obj.HOURS_CASE_HOT 0 f.caseHours with dev := { s.dev with lifeAt := s.tick } }

/-- Start the reference timer of every monitor bank (R236, R511). -/
def startReferences (s : State) : State := (List.range 164).foldl (fun s mb => refFollow s mb) s

/-- With both boot records failed, bank 0 is CONFIRMED (Table 18.8). -/
def bootRecords (f : Flash) : Flash :=
  if f.bad.contains 0 ∧ f.bad.contains 0x40000 then { f with confirmed := 0, trial := none } else f

/-- Instant Z of Table 18.2: BOOT, the strobe and the counters at zero, the references enabled, the safe load begun. -/
def bootStart (s : State) : State :=
  let s := { s with tick := 0, dev := { s.dev with safeLoaded := false, selfStep := 0 } }
  let s := loadLife (s.updFlash fun f => bootRecords { f with coldResets := min u32Max (f.coldResets + 1) })
  startReferences (s.enter .boot)

/-- A slot at a warm reset: one that was LOADING, ROUTING or WRITING becomes INVALID (R523). -/
def warmSlot (x : SlotState) : SlotState :=
  match x with
  | .loading | .routing | .writing => .invalid
  | _ => x

/-- What a warm reset keeps of the monitor inputs: front ends, gains, references, converters and their spares (Table 18.7). -/
def warmMonitor (m : Monitor) : Monitor :=
  { pds := mmap (fun _ x => { g := x.g, gOld := x.gOld, gFrom := x.gFrom, mode := x.mode, modeAt := x.modeAt, lowRun := x.lowRun
                              settle := x.settle, settleOld := x.settleOld, code := x.code }) m.pds
    banks := m.banks
    convs := mmap (fun _ x => { fails := x.fails, state := x.state, spare := x.spare, spareFrom := x.spareFrom, muxScan := x.muxScan
                                substituteDue := x.substituteDue }) m.convs }

/-- Objects that a warm reset keeps: those of kept blocks, and the stored value of HOLD_TIMEOUT, which the kept banks go by (R473, R522). -/
def keptObjs (stored m : SMap (SMap Int)) : SMap (SMap Int) :=
  mset (m.filter fun e => [Obj.REF_READY, Obj.SAFE_GEN, Obj.SAFE_SOURCE].contains e.1) Obj.HOLD_TIMEOUT (mget [] stored Obj.HOLD_TIMEOUT)

/-- Whether a hard cut or a rail fault holds the device until a cold reset (R517). -/
def State.heldForGood (s : State) : Bool :=
  decide (s.dev.state = .faultHold) && (s.dev.cause == .hardCut || s.dev.cause == .rail)

/-! ### The safe load (R216) -/

/-- The check that the working page fails (R216, Table 7.12): 1 MAGIC, 2 FORMAT, 3 CRC, 0 none. Which of them meets a page whose
store was cut is open: `k` decides. -/
def State.pageCheck (s : State) (k : Nat) : Nat :=
  let p := s.dev.flash.working
  if s.dev.flash.bad.contains 0xC0000 then k % 3 + 1
  else if p.magic ≠ 0x4F535346 then 1
  else if p.format ≠ 1 then 2
  else 0

/-- The page the sequencer loads: the working page, else the factory page, else none. -/
def State.pageToLoad (s : State) (check : Nat) : Option SafePage :=
  if check = 0 then some s.dev.flash.working
  else if !s.dev.flash.bad.contains 0x80000 then some { gen := 0 }
  else none

/-- The spares of a bank as its entry of the spare map sets them (Table 7.8). -/
def spareOfCode (c : Nat) : Spare := if c = 0xFF then .idle else if c < 32 then .lane c else .failed

/-- Set a bank's spares and the lanes they stand in for. -/
def loadSpares (s : State) (b code : Nat) : State :=
  let put := fun (s : State) (k : Nat) (x : Spare) =>
    let s := s.setBank b ((s.bank b).setSpare k x)
    match x with
    | .lane n => s.setChan (chanOf b n) { s.chan (chanOf b n) with laneFailed := true, spare := some k, placed := true }
    | _ => s
  put (put s 32 (spareOfCode (code % 256))) 33 (spareOfCode (code / 256 % 256))

/-- Every channel at its safe code and span: the outputs as the sequencer leaves them. -/
def loadPage (s : State) (p : SafePage) : State :=
  let s := loadRegisters s p
  let s := { s with drv := { s.drv with driven := true } }
  let us := (p.codes.map (·.1) ++ p.spans.map (·.1)).eraseDups
  let s := us.foldl (fun s u =>
    let n := s.safeCode u
    s.setChan u { s.chan u with out := n, target := n, taken := n, span := s.safeSpan u, changed := s.tick }) s
  p.spares.foldl (fun s e => loadSpares s e.1 e.2) s

/-- The safe load completes. With both pages failed every output stays undriven and the device stays in BOOT. -/
def safeLoad (s : State) : State :=
  let (k, s) := if s.dev.flash.bad.contains 0xC0000 then s.fresh else (0, s)
  let check := s.pageCheck k
  match s.pageToLoad check with
  | none => s
  | some p =>
    let s := (loadPage s p).setObjN Obj.SAFE_GEN 0 p.gen
    let s := s.setObjN Obj.SAFE_SOURCE 0 (boolNat (check != 0))
    let s := { s with dev := { s.dev with safeLoaded := true } }
    if check ≠ 0 then raiseS s 0x4006 [.word check] else s

/-! ### Firmware banks (R512, R513) -/

/-- A bank as the flash holds it; one never written holds what the factory put there, an image in bank 0, the bank CONFIRMED first. -/
def State.fwBank (s : State) (b : Nat) : FwBank :=
  match mfind s.dev.flash.banks b with
  | some x => x
  | none =>
    { state := if b = 0 then 2 else 0
      version := if b = 0 then (Config.factory Obj.FW_VERSION 0).toNat % (u32Max + 1) else 0
      formatLow := Config.firmwareFormat false b, formatHigh := Config.firmwareFormat true b }

def State.setFwBank (s : State) (b : Nat) (x : FwBank) : State :=
  s.updFlash fun f => { f with banks := mset f.banks b x }

/-- The regions of a firmware bank that fail their CRC. -/
def State.badFirmware (s : State) (b : Nat) : List Nat :=
  s.dev.flash.bad.filter fun o => decide (0x8000000 + 0x2000000 * b ≤ o ∧ o < 0x8000000 + 0x2000000 * (b + 1))

/-- Whether a region of a bank fails its CRC: such a bank is INVALID and not booted (Table 18.8). -/
def State.bankBad (s : State) (b : Nat) : Bool := !(s.badFirmware b).isEmpty

/-- FW_BANK_STATE: INVALID where a region fails its CRC and the bank is not being written, then 5 CONFIRMED and 4 TRIAL before what
the bank itself holds. -/
def State.fwBankState (s : State) (b : Nat) : Nat :=
  if s.bankBad b && ((s.fwBank b).state != 1 || s.dev.fwOpen != some b) then 3
  else if s.dev.flash.confirmed = b then 5 else if s.dev.flash.trial = some b then 4 else (s.fwBank b).state

/-- The bank a loader boots, and whether it fell back to the other one: the TRIAL bank at a per-lobe reset issued by an
update, otherwise the CONFIRMED one (R512). -/
def State.bootBank (s : State) (l : Nat) (ok0 ok1 : Bool) : Option (Nat × Bool) :=
  let f := s.dev.flash
  let want := if (s.lobe l).trialBoot then f.trial.getD f.confirmed else f.confirmed
  let passes := fun b => (if b = 0 then ok0 else ok1) && !s.bankBad b
  if passes want then some (want, false) else if passes (1 - want) then some (1 - want, true) else none

/-- A lobe runs the firmware of a bank: DIAGNOSING, BOOTED. The tick from which both lobes run the TRIAL bank is noted. -/
def bootLobe (s : State) (l b : Nat) (other : Bool) : State :=
  let s := s.setLobe l { s.lobe l with bank := some b, noFirmware := false }
  let s := setRole s l .diagnosing
  let s := s.setLobe l { s.lobe l with since := s.tick }
  let s := s.unfault .recovery
  let s := raise s 0x1004 l [.word l, .word b, .word (s.fwBank b).version, .word (boolNat other)]
  if s.runsTrial 0 && s.runsTrial 1 && s.dev.fwBoth.isNone then { s with dev := { s.dev with fwBoth := some s.tick } } else s

/-- A loader finds no bank that passes (R513): the lobe counts as OFFLINE; with neither lobe running, recovery mode. -/
def noFirmware (s : State) (l : Nat) : State :=
  let s := setRole s l .offline
  let s := s.setLobe l { s.lobe l with noFirmware := true }
  judgeRecovery s

/-! ### Stored regions at self-test (Table 18.3, Table 18.8) -/

/-- The addresses of the objects that a configuration region holds, in order (R525). -/
def regionAddrs (r : Nat) : List Nat :=
  (((List.range 0x28).map fun i => objGroup (0x10 + i)).flatten.filter fun d => configObj d.addr &&
    (let (lo, hi) := d.sel.getD (0, 0)
     decide (configRegion (d.addr, lo) ≤ r ∧ r ≤ configRegion (d.addr, hi)))).map fun d => d.addr

/-- A region whose CRC fails: it reverts, and REGION_REVERTED names it and, for configuration, its first and last object. -/
def revertRegion (s : State) (offset : Nat) : State :=
  let r := (offset - 0x1000000) / 0x40000
  let config := decide (0x1000000 ≤ offset ∧ offset < 0x1800000)
  let held := if config then regionAddrs r else []
  let s := raiseA s 0x1007 [.word offset, .word (held.head?.getD 0), .word (held.getLast?.getD 0)]
  s.setObjN Obj.SELFTEST_RESULT 0 (s.objN Obj.SELFTEST_RESULT 0 ||| 128)

/-- Drop the stored values of the regions that a test names. -/
def dropRegions {α : Type} (place : Nat × Nat → Nat) (lost : Nat → Bool) (m : SMap (SMap α)) : SMap (SMap α) :=
  ((listed m).filter fun p => lost (place p)).foldl (fun m p => mdel2 m p.1 p.2) m

/-- Put stored values into the objects. -/
def putObjs (s : State) (m : SMap (SMap Int)) : State :=
  { s with objs := m.foldl (fun o e => e.2.foldl (fun o x => mset2 o e.1 x.1 x.2) o) s.objs }

def putOcts (s : State) (m : SMap (SMap (List Byte))) : State :=
  { s with octs := m.foldl (fun o e => e.2.foldl (fun o x => mset2 o e.1 x.1 x.2) o) s.octs }

/-- Restored values of REF_ENABLE and BANK_POWER act as writes of them where they differ from what holds (R236). -/
def followBanks (s : State) : State :=
  (List.range 164).foldl (fun s mb =>
    let v := s.obj Obj.BANK_POWER mb
    let s := if (v == 1) == (s.monBank mb).on then s else powerBank s mb v
    refFollow s mb) s

/-- Restored GAIN_MODEs are taken at the next scan boundary (R226). -/
def followGains (s : State) : State :=
  let set := ((mget [] s.objs Obj.GAIN_MODE).filter fun p => p.2 != ((s.pd p.1).mode : Int)).map (·.1)
  let back := (s.mon.pds.filter fun p => p.2.mode != s.objN Obj.GAIN_MODE p.1 && !set.contains p.1).map (·.1)
  { s with mon := { s.mon with gainPend := set ++ back } }

/-- What a stored object brings into effect beside its value: budgets, auto-range limits, shapers, the sampling period, ring lengths,
function modes, lobes held OFFLINE, pulses. -/
def followConfig (s : State) : State :=
  let s := followGains (followBanks s)
  let s := { s with steady := { s.steady with pendingBudget := true, newBudget := true }, mon := { s.mon with rangePend := true } }
  let s := (List.range 16).foldl takeShaper s
  let s := if s.objN Obj.QSAMPLE_PERIOD 0 = s.net.samplePeriod then s else (effQsamplePeriod (s.obj Obj.QSAMPLE_PERIOD 0) s).1
  let s := (List.range 16).foldl (fun s r =>
    if 1024 * s.objN Obj.RING_LENGTH r = (s.ring r).length then s
    else s.setRing r { s.ring r with pendingLen := some (s.objN Obj.RING_LENGTH r), resetDue := some 2 }) s
  let s := (List.range 8).foldl (fun s i =>
    if s.obj (Obj.FUNC_MODE + i) 0 = 1 then s.setFunc (i + 1) { s.func (i + 1) with pending := some 1 } else s) s
  let s := (List.range 2).foldl (fun s l =>
    if s.obj Obj.LOBE_HOLD_OFFLINE l = 1 then
      (if (s.lobe l).role = .active then s.setLobe l { s.lobe l with offlineDue := true } else toOffline s l 2)
    else s) s
  rePark ((List.range 5).foldl startPulse s)

/-- The configuration regions (R525). -/
def loadConfig (s : State) (lost : Nat → Bool) : State :=
  let s := s.updFlash fun f => { f with config := dropRegions configRegion lost f.config, configOcts := dropRegions configRegion lost f.configOcts }
  followConfig (putOcts (putObjs s s.dev.flash.config) s.dev.flash.configOcts)

/-- The fault map (R62). A lost one: all cells GOOD, FAULT_GEN 1. -/
def loadFaults (s : State) (lost : Bool) : State :=
  let s := if lost then s.updFlash fun f => { f with faultGen := 1, cellClass := [], elementFault := [] } else s
  let f := s.dev.flash
  let s := { s with objs := mset (mset s.objs Obj.CELL_CLASS f.cellClass) Obj.ELEMENT_FAULT f.elementFault }
  s.setObjN Obj.FAULT_GEN 0 f.faultGen

/-- The keys and their generations (R463), the group counter (R462) and its new reservation. -/
def loadKeys (s : State) (lost : Bool) : State :=
  let s := if lost then s.updFlash fun f => { f with keys := [], keyGens := [] } else s
  let f := s.dev.flash
  let s := { s with ex := { s.ex with keys := f.keys } }
  let s := (List.range 4).foldl (fun s k => s.setObjN Obj.KEY_GEN k (mget 1 f.keyGens k)) s
  let g := s.objN Obj.KEY_GEN 3
  let c := if f.groupGen = g then f.groupLimit else 1
  autoStore (noteGroupSeq { s with ex := { s.ex with groupCounter := c, groupLimit := c, groupGen := g, groupReserved := true } }) .life

/-- The rule set (R394): loaded into bank 0 and checked, the shadow bank a copy; RULES_GEN is 1 after every start-up. -/
def loadRules (s : State) (lost : Bool) : State :=
  let stored := s.dev.flash.rules
  let fails := match stored with | some b => (ruleFault b).isSome | none => false
  let use := match stored with | some b => if lost || fails then [] else b | none => []
  let s := { s with net := { s.net with rules := { bank := use, shadow := use } } }
  let s := (s.setObjN Obj.RULES_GEN 0 1).setObjN Obj.RULES_SOURCE 0 (boolNat (stored.isSome && !lost && !fails))
  if lost then raiseS s 0x8014 [.word 1] else if fails then raiseS s 0x8014 [.word 2] else s

/-- An update that a reset has cut short: the TRIAL bank is cleared, FW_UPDATE_FAILED with cause RESET follows (R530). -/
def clearTrial (s : State) : State :=
  if s.dev.flash.trial.isSome ∧ s.dev.fwStage = .idle then
    autoStore { s with dev := { s.dev with fwStage := .rollingBack, fwFail := some (0, 5), boot := some (s.dev.flash.confirmed, none) } }
      .bootRecords
  else s

/-- Step 1 of Table 18.3. `failed` adds regions found bad: bit 0 the fault map, 1 the rules, 2 the keys, 3 + i
configuration region i. -/
def loadStored (s : State) (failed : Nat) : State :=
  let bad := fun (bit off : Nat) => bitOf failed bit == 1 || s.dev.flash.bad.contains off
  let lostF := bad 0 0x100000
  let lostR := bad 1 0x140000
  let lostK := bad 2 0x180000
  let lost := fun i => bad (3 + i) (StoreKind.config.offset i)
  let plain := [0, 0x40000, 0x80000, 0xC0000].filter s.dev.flash.bad.contains
  let late := [0x1C0000, 0x200000].filter s.dev.flash.bad.contains
  let offs := plain ++ (if lostF then [0x100000] else []) ++ (if lostR then [0x140000] else []) ++
    (if lostK then [0x180000] else []) ++ late ++ ((List.range 32).filter lost).map (StoreKind.config.offset ·) ++
    s.badFirmware 0 ++ s.badFirmware 1
  let s := offs.foldl revertRegion s
  clearTrial (loadKeys (loadRules (loadFaults (loadConfig s lost) lostF) lostR) lostK)

/-- Step 5: the calibration, a lost region reverting to the factory one (R280). CAL_GEN takes CAL_STORED_GEN. -/
def loadCalibration (s : State) (failed : Nat) : State :=
  let lost := fun i => bitOf failed i == 1 || s.dev.flash.bad.contains (StoreKind.calibration.offset i)
  let s := ((List.range 128).filter lost).foldl (fun s i => revertRegion s (StoreKind.calibration.offset i)) s
  let s := s.updFlash fun f => { f with cal := dropRegions calRegion lost f.cal, calOcts := dropRegions calRegion lost f.calOcts }
  let s := putOcts (putObjs s s.dev.flash.cal) s.dev.flash.calOcts
  (s.setObjN Obj.CAL_GEN 0 s.dev.flash.calGen).setObjN Obj.CAL_STORED_GEN 0 s.dev.flash.calGen

/-- The bit of SELFTEST_RESULT that a step sets on a failure, and whether that is fatal. -/
def selftestBit (step failed : Nat) : Nat × Bool :=
  if step = 3 then (failed % 4, true) else if step = 4 then (4, true) else if step = 8 then (8, true)
  else if step = 6 then (32, false) else if step = 7 then (64, false) else if step = 9 then (16, false) else (128, false)

/-- A failure of a step (R514). -/
def selftestFail (s : State) (step failed : Nat) : State :=
  let (bit, fatal) := selftestBit step failed
  let s := s.setObjN Obj.SELFTEST_RESULT 0 (s.objN Obj.SELFTEST_RESULT 0 ||| bit)
  if fatal then
    let s := { s with dev := { s.dev with selfFatal := true } }.fault .selftest
    raiseA s 0x1005 [.word (s.obj Obj.SELFTEST_RESULT 0)]
  else s

/-- The dark park is called for: the image that stands in PARK_SLOT now is not taken (R514, R521, log entry 41). -/
def callDark (s : State) : State :=
  let slot := s.objN Obj.PARK_SLOT 0
  { s with dev := { s.dev with parkDark := some (slot, s.slotField slot 0x1C 4) } }

/-- Step 9: the stored park image goes into PARK_SLOT and is checked; a region that fails leads to the dark park. The
second part says whether it failed. A cleared park image is no failure (log entry 41). -/
def loadPark (s : State) : State × Bool :=
  let slot := s.objN Obj.PARK_SLOT 0
  let bad := [0x240000, 0x280000].filter s.dev.flash.bad.contains
  let s := bad.foldl revertRegion s
  match s.dev.flash.park with
  | none => (callDark s, false)
  | some b =>
    if !bad.isEmpty then (callDark s, true)
    else
      let s := s.slotWrite slot 0 b
      match s.loadFault slot with
      | some r => (invalidate s slot r, true)
      | none =>
        let (s, ok) := revalidateSlot (s.setSlot slot .valid) slot
        (s, !ok)

/-- HBM after step 3: out of self-refresh, or trained; a stack that fails reads FAILED (R501, R523). -/
def trainHbm (s : State) (failed : Nat) : State :=
  (List.range 2).foldl (fun s k =>
    let v := if bitOf failed k = 1 then 2 else 0
    ({ s with mat := { s.mat with hbmState := mset s.mat.hbmState k v } }).setObjN Obj.HBM_STATE k v) s

/-- One step of Table 18.3 (R514). -/
def selftestStep (s : State) (step failed : Nat) : State :=
  let s := { s with dev := { s.dev with selfStep := step } }
  if step = 1 then loadStored s failed
  else if step = 3 then
    let s := trainHbm s failed
    if failed % 4 = 0 then s else selftestFail s 3 failed
  else if step = 5 then loadCalibration s failed
  else if step = 8 then if failed = 0 ∧ s.lobes.gateStuck.isEmpty then s else selftestFail s 8 failed
  else if step = 9 then
    let (s, bad) := loadPark s
    if bad ∨ failed ≠ 0 then selftestFail (callDark s) 9 failed else s
  else if step = 2 ∨ failed = 0 then s
  else selftestFail s step failed

/-! ### The park application (R520) -/

/-- The image a park application takes: that of PARK_SLOT if it is VALID, passes revalidation and the dark park is not called for in its
place, else the dark park, which the router writes there. -/
def chooseParkImage (s : State) : State :=
  let slot := s.objN Obj.PARK_SLOT 0
  let s := promoteWriteBack s slot
  let dark := s.dev.parkDark == some (slot, s.slotField slot 0x1C 4)
  let (s, ok) := if s.slotState slot = .valid ∧ ¬ dark then revalidateSlot s slot else (s, false)
  let s := if ok then s else routeDark (discardRefinement s slot) slot
  { s with dev := { s.dev with park := some { slot := slot, source := boolNat ok } } }

/-- Ramp one fast lane to its staged code, where its bank's gate accepts the write. In a span sequence it is the newest target, which
the limiter takes when the sequence is over (R201). -/
def parkLane (s : State) (u code : Nat) : State :=
  if (s.chan u).spanning then writeTarget s u code
  else if s.gateOpen (bankOf u) then startRamp (noteWrite s (bankOf u)) u code (s.tick + 6 * (bankOf u % 16)) 1 4
  else noteRefused s (bankOf u)

/-- What a park application makes of an element's loop until the ramps end: OPEN at the staged phase, marked to enter
ACQUIRE if it is looped, or DISABLED. A paused wrap ends with its heater command held. -/
def parkedElem (disabled : Bool) (x : StagedElem) (y : Elem) : Elem :=
  let theta := match y.wrap with | some w => w.hCmd | none => y.theta
  { y with state := if disabled then .disabled else .opened, cross := x.cross, phiC := x.phase, phiL := 0, phiW := 0,
           theta := theta, wrap := none, stallRaised := false, wrapAsk := none, t := x.setpoint, target := x.setpoint, tReached := true,
           stepping := false, suspended := !disabled && !x.hold && !x.noLight }

/-- Stage and start one element of the park image. -/
def parkElem (slot : Nat) (s : State) (e : Nat) : State :=
  let x := s.stageElem slot e
  let s := s.setElem e (parkedElem (s.mustDisable e) x (s.elem e))
  let s := if x.hold || x.noLight then s else noteRatio (s.setObj Obj.SETPOINT e x.setpoint) (cellOf e)
  parkLane (parkLane s (armA e) x.codeA) (armB e) x.codeB

/-- Write one VOA of the park image through its limiter; its loop starts with the others. Without a grant no heater rises (R41):
a VOA whose code would rise keeps the code and the attenuation it has. -/
def parkVoa (granted : Bool) (s : State) (v : Nat × StagedVoa) : State :=
  let out := (s.chan (voaChan v.1)).out
  let x := if granted || decide (v.2.code ≤ out) then v.2 else { v.2 with code := out, atten := (s.voa v.1).atten }
  let s := voaAtT s v.1 x
  if s.voaMustDisable v.1 then disableVoa s v.1 else s.setVoa v.1 { s.voa v.1 with state := .opened }

/-- The source of the heater grant of a park application, apart from every commit identifier. -/
def parkSource : Nat := 0x100000000

/-- The park ramp starts at a scan boundary (R520). -/
def parkStart (s : State) : State :=
  match s.dev.park with
  | none => s
  | some p =>
    let was := s.dev.state
    let voas := (List.range 1024).map fun o => (o, s.stageVoa p.slot o)
    let heat := s.voaHeat voas
    let rising := (voas.filter fun v => decide ((s.chan (voaChan v.1)).out < v.2.code)).map fun v => voaChan v.1
    let (s, granted) := grantNow s { kind := .commit, source := parkSource, heater := heat, chans := rising, charge := 0 }
    let s := applyMapping s p.slot (s.slotPortMap p.slot) (s.slotRoutes p.slot)
    let s := allElems.foldl (parkElem p.slot) s
    let s := voas.foldl (parkVoa granted) s
    let s := dropIdleWraps { s with dev := { s.dev with park := none, parkRamp := true, loopsDue := false } }
    let s := raiseA (s.setObjN Obj.PARK_SOURCE 0 p.source) 0x1008 [.word p.source, .word p.slot]
    let s := ((s.enter .parked).unfault .thermalStop).unfault .noPredecessor
    let s := if was = .selftest ∧ s.obj Obj.RESET_CAUSE 0 ≠ 3 then s.setObjN Obj.BOOT_TIME 0 (s.tick / 156250) else s
    settleOwed (settleOwed s .park (.ack [])) .resume (.ack [])

/-- Begin a park application: the image is chosen now, and the ramp starts at the scan boundary, which may be this one. -/
def parkRequest (s : State) : State :=
  let s := if s.dev.park.isSome then s else chooseParkImage s
  if s.tick % 256 = 0 then parkStart s else s

/-- Whether any fast lane still moves by a fixed ramp. -/
def State.fastMoves (s : State) : Bool :=
  s.drv.chans.any fun c => decide (c.1 < 81920) && c.2.motion.isSome && decide (s.limiterOut c.1 ≠ c.2.target)

/-! ### Firmware updates (R528 to R531) -/

/-- A lobe on the TRIAL bank is restarted on the CONFIRMED one, an ACTIVE one after a swap (R530). -/
def rollBackLobe (s : State) (l : Nat) : State :=
  if (s.lobe l).role = .active then
    (if s.runsTrial l then { s with lobes := { s.lobes with swapDue := if s.standby.isSome then some s.tick else none } } else s)
  else if (s.lobe l).trialBoot then resetLobe s l false
  else s

/-- The boot records are written (R529 to R531): the first restart, the end of a roll-back, or the confirmation. -/
def bootWritten (s : State) : State :=
  match s.dev.boot with
  | none => s
  | some (c, t) =>
    let s := { s with dev := { s.dev with boot := none } }
    match t, s.dev.fwStage with
    | some _, .firstRestart => resetLobe { s with dev := { s.dev with fwSince := s.tick } } s.dev.fwLobe true
    | some _, _ => s
    | none, .rollingBack => endRollBack (rollBackLobe (rollBackLobe s 0) 1)
    | none, _ =>
      raiseA { s with dev := { s.dev with fwStage := .idle, fwBoth := none } } 0x100B [.word c, .word (s.fwBank c).version]

/-- The TRIAL bank becomes CONFIRMED: the boot records are rewritten (R531). -/
def confirmTrial (s : State) : State :=
  match s.dev.flash.trial with
  | none => s
  | some b => autoStore { s with dev := { s.dev with boot := some (b, none), fwBoth := none } } .bootRecords

/-! ### The ends of stores (R526) -/

/-- What follows the last region of a store. -/
def storeEnded (s : State) (k : StoreKind) : State :=
  match k with
  | .rules => raiseS s 0x8013 [.word (s.obj Obj.RULES_GEN 0)]
  | .keys n => settleOwed s (.keyApply n) (.ack [])
  | .calibration => settleOwed (calStored s) .calStore (.ack [])
  | .fwRegion n => settleOwed s (.fwData n) (.ack [])
  | .bootRecords => bootWritten s
  | .park none => callDark s
  | .park (some _) => { s with dev := { s.dev with parkDark := none } }
  | _ => s

/-- The region being programmed is complete: the store goes on with the next, or ends. -/
def storeRegionDone (s : State) : State :=
  match s.dev.store with
  | none => s
  | some st =>
    match st.regions with
    | [] => pumpStores (endStore s)
    | i :: rest =>
      let s := regionDone s st.kind i
      if rest.isEmpty then pumpStores (storeEnded (endStore s) st.kind)
      else { s with dev := { s.dev with store := some { st with regions := rest } } }

/-! ### Warm resets (R523) -/

/-- A store that runs at a warm reset is carried to its end by the flash controller, which that reset does not touch (log
entry 42). -/
def runOutStore (s : State) : State :=
  match s.dev.store with
  | none => s
  | some st => if st.kind = .safePage then pageStored s else (List.range st.regions.length).foldl (fun s _ => storeRegionDone s) s

/-- A warm reset (Table 18.7, R523): both lobes' initiators are reset; HBM, the event log, banks and gates, and the monitor
front ends stay; the stacks go into self-refresh; the device passes to BOOT, or stays in FAULT_HOLD under R517. -/
def warmReset (s : State) : State :=
  let s := (lobeInitiators 0 ++ lobeInitiators 1).foldl initReset (runOutStore s)
  let hold := s.heldForGood
  let cut := s.lib.slots.filter fun e => warmSlot e.2 != e.2
  let s' : State := {
    pending := s.pending, tick := s.tick, hbm := s.hbm, objs := keptObjs s.dev.flash.config s.objs
    dev := { state := s.dev.state, since := s.dev.since, cause := if hold then s.dev.cause else .none
             faults := if hold then s.dev.faults else [], resetN := s.dev.resetN, pgood := s.dev.pgood, safeLoaded := true
             wearRaised := s.dev.wearRaised, tapInstruction := s.dev.tapInstruction, trstN := s.dev.trstN
             boundary := s.dev.boundary, tapData := s.dev.tapData, flash := s.dev.flash }
    ex := { log := s.ex.log, logSeq := s.ex.logSeq, deferred := s.ex.deferred, freeCount := s.ex.freeCount }
    lobes := { each := ⟨{ strapHigh := s.lobes.each.a.strapHigh }, { strapHigh := s.lobes.each.b.strapHigh }⟩
               gateBase := s.lobes.gateBase, gatePrev := s.lobes.gatePrev, gateStuck := s.lobes.gateStuck
               gateHigh := s.lobes.gateHigh, gateAt := s.lobes.gateAt
               lastWrite := s.lobes.lastWrite }
    therm := if hold then s.therm else {}
    drv := s.drv, mon := warmMonitor s.mon
    lib := { slots := mmap (fun _ x => warmSlot x) s.lib.slots }
    mat := { badWords := s.mat.badWords, eventBad := s.mat.eventBad, hbmState := [(0, 1), (1, 1)], scrubAt := s.tick } }
  let s' := (s'.setObjN Obj.HBM_STATE 0 1).setObjN Obj.HBM_STATE 1 1
  let s' := loadLife (s'.setObjN Obj.RESET_CAUSE 0 3)
  let s' := if hold then s' else s'.enter .boot
  cut.foldl (fun s e => raiseS s 0x2010 [.word e.1, .word 3]) s'

/-- Carry out a reset that no pin causes: RESET_N stays high, so BOOT follows at once. -/
def resetNow (s : State) (k : ResetKind) (cause : Nat) : State :=
  match k with
  | .warm => warmReset s
  | .cold => bootStart (coldReset s cause)

end Sys2Proof.Machine
end

