-- ==== Sys2Proof/Machine/Lifecycle.lean ====
section
/-!
DEFINITION. Commands of start-up, device states, resets, flash and firmware updates (spec/18_lifecycle.md), of the function
modes (spec/01_architecture.md), and of the test access port (spec/19_package.md).
-/

namespace Sys2Proof.Machine

open Sys2Proof

/-! ### Power-up (R508 to R513) -/

/-- RESET_RELEASE (R511). EXTEST ends at the deglitched edge (R561). -/
def execResetRelease (s : State) :=
  finish s (if s.dev.state = .off ∧ ¬ s.dev.refclkLost then
      bootStart { s with dev := { s.dev with resetN := true, pgood := true
                                             tapInstruction := if s.dev.tapInstruction = 0 then 2 else s.dev.tapInstruction } }
    else s)

/-- COLD_RESET_INPUT (R509): pin 0 is PGOOD_IN, pin 1 RESET_N. -/
def execColdResetInput (pin : Nat) (s : State) :=
  finish s (if pin < 2 then
      let s := if s.dev.state = .off then s else coldReset s pin
      { s with dev := { s.dev with resetN := s.dev.resetN && pin != 1, pgood := s.dev.pgood && pin != 0 } }
    else s)

/-- SAFE_LOAD_COMPLETE (R216). -/
def execSafeLoadComplete (s : State) :=
  finish s (if (s.dev.state = .boot ∨ s.dev.state = .faultHold ∧ s.dev.heldFrom = .boot) ∧ ¬ s.dev.safeLoaded then safeLoad s else s)

/-- BOOTED (R512, R513): `ok0` and `ok1` say whether each bank passes its signature and length check. -/
def execBooted (l : Nat) (ok0 ok1 : Bool) (s : State) :=
  finish s (if l < 2 ∧ s.dev.state ≠ .off ∧ s.dev.safeLoaded ∧ s.mayRun l ∧ (s.lobe l).bank = none then
      match s.bootBank l ok0 ok1 with
      | some (b, other) => bootLobe s l b other
      | none => noFirmware s l
    else s)

/-! ### Self-test (R514) -/

/-- SELFTEST_STEP_DONE (R514): the steps run in order, and none after a fatal failure. -/
def execSelftestStepDone (step failed : Nat) (s : State) :=
  finish s (if s.dev.state = .selftest ∧ ¬ s.dev.selfFatal ∧ step = s.dev.selfStep + 1 ∧ step ≤ 9 then selftestStep s step failed
    else s)

/-- SELFTEST_DONE (R514, R520). -/
def execSelftestDone (s : State) :=
  finish s (if s.dev.state = .selftest ∧ ¬ s.dev.selfFatal ∧ s.dev.selfStep = 9 then parkRequest s else s)

/-- PARK_RAMP_END (R520): the loops enter ACQUIRE at the next scan; the heater grant has been drawn. -/
def execParkRampEnd (s : State) :=
  finish s (if s.dev.parkRamp ∧ ¬ s.fastMoves then
      releaseGrant { s with dev := { s.dev with parkRamp := false, loopsDue := true } } .commit parkSource
    else s)

/-! ### Rails and clock (R510, R518) -/

/-- The window of a rail in mV (Table 18.1). -/
def railWindow (n : Nat) : Nat × Nat :=
  match n with
  | 0 => (710, 800) | 1 => (1050, 1160) | 2 => (1710, 1890) | 3 => (1140, 1260) | 4 => (4750, 5250) | 5 => (3130, 3470)
  | _ => (9500, 10500)

/-- The drives that a rail reading 0 mV leaves without supply: every element drive and VOA for VCORE, VDRV and VHTR (R68), the
privileged outputs for VHV (R202) and VCORE. -/
def railAbsent (rail : Nat) (d : Drive) : Drive :=
  { d with fastOff := d.fastOff || [0, 4, 5].contains rail
           heatersOff := d.heatersOff || [0, 4, 5].contains rail
           privOff := d.privOff || [0, 6].contains rail }

/-- RAIL_FAULT (R510). A reading of 0 mV is the absence that R68 and R202 speak of (DESIGN CHOICE, log entry 25). -/
def execRailFault (rail mv : Nat) (s : State) :=
  finish s (
    let w := railWindow rail
    if rail < 7 ∧ (mv < w.1 ∨ w.2 < mv) ∧ s.dev.state ≠ .off then
      let s := (s.setObjN Obj.RAIL_STATE rail (if mv < w.1 then 1 else 2)).setObjN Obj.RAIL_VOLTAGE rail mv
      let s := if mv = 0 then { s with drv := railAbsent rail s.drv } else s
      enterHold (raiseS (s.fault (.rail rail)) 0x1006 [.word rail, .word mv]) .rail
    else s)

/-- REFCLK_LOST (R33, R518). -/
def execRefclkLost (s : State) :=
  finish s (if s.dev.refclkLost then s
    else
      let s := { s with dev := { s.dev with refclkLost := true, refclkBack := none } }
      if s.dev.state = .off then s
      else
        let s := raiseS (s.fault .refclk) 0x1001 [.word (s.scan % (u32Max + 1))]
        if s.dev.state = .faultHold then s else enterHold s .refclk)

/-- What a bank held while no tick occurred takes effect (R194). -/
def releaseWrites (s : State) : State :=
  let moved := (s.drv.chans.filter fun c => (c.2.direct.isSome || c.2.held.isSome) && (s.bank (bankOf c.1)).hold != .holding).map (·.1)
  moved.foldl (fun s u => releaseDirect (releaseHeld s u) u) s

/-- REFCLK_RETURNS (R425, R194). -/
def execRefclkReturns (s : State) :=
  finish s (if s.dev.refclkLost then
      let s := { s with dev := { s.dev with refclkLost := false } }
      if s.dev.state = .off then s
      else
        let s := releaseWrites { s with dev := { s.dev with refclkBack := some s.tick } }
        if s.time.servo = .locked then setServo s .tracking else s
    else s)

/-- A loop that was running when the clock was lost goes on from its present codes (R518); a paused wrap ends with its
heater command held. -/
def refclkElem (s : State) (e : Nat) : State :=
  let x := s.elem e
  if x.suspended && x.state == .opened then
    let theta := match x.wrap with | some w => w.hCmd | none => x.theta
    reacquire (s.setElem e { x.endWrap theta with suspended := false, wrapAsk := none }) e
  else s

/-- The device returns to the state it left (R518). -/
def refclkReturn (s : State) : State :=
  let d := s.dev.heldFrom
  let s := { s with dev := { s.dev with cause := .none } }
  match d with
  | .parked | .service =>
    let s := s.enter d
    let s := s.loops.elems.foldl (fun s e => refclkElem s e.1) s
    let s := s.loops.voas.foldl (fun s v =>
      if v.2.state = .disabled then s else s.setVoa v.1 { v.2 with state := .locked, fresh := false }) s
    dropIdleWraps s
  | .boot | .selftest => resetNow s .cold 4
  | _ => enterSafe s

/-- REFCLK_RESTORED (R518). -/
def execRefclkRestored (lossNs : Nat) (s : State) :=
  finish s (match s.dev.refclkBack with
    | none => s
    | some t =>
      if s.elapsed t (1000000 * s.objN Obj.REFCLK_RESTORE_TIME 0) ∧ s.tick % 256 = 0 then
        let s := { s with dev := { s.dev with refclkBack := none } }
        let s := raiseS (s.unfault .refclk) 0x1002 [.word (min u32Max lossNs)]
        if s.dev.state = .faultHold ∧ s.dev.cause = .refclk then refclkReturn s else s
      else s)

/-! ### Device commands (R516) -/

/-- A calibration run that bars PARK: an ELEMENT, VOA or TEMPLATE run in progress. -/
def State.calBarsPark (s : State) : Bool :=
  s.cal.run.any fun r => r.phase == .running && decide (3 ≤ r.req.kind ∧ r.req.kind ≤ 5)

/-- PARK (R516). -/
def effPark (s : State) : State × Verdict :=
  if s.dev.state ≠ .service then (s, .nak .state)
  else if !s.com.live.isEmpty || s.calBarsPark then (s, .nak .busy)
  else (s, .owe .park)

/-- DRAIN (R516). -/
def effDrain (s : State) : State × Verdict :=
  if s.dev.state = .parked ∨ s.dev.state = .service then (beginDrain s, .owe .drain) else (s, .nak .state)

/-- RESUME (R516). -/
def effResume (s : State) : State × Verdict :=
  if s.dev.state = .safe ∧ s.therm.state < 2 then (s, .owe .resume) else (s, .nak .state)

/-- A park application begins for the commands that wait for one, so that their answers are owed before they are due. -/
def parkOwed (s : State) : State :=
  if s.ex.owed.any fun o => o.kind == .park || o.kind == .resume then parkRequest s else s

/-- WARM_RESET and COLD_RESET (R516). -/
def effReset (k : ResetKind) (s : State) : State × Verdict :=
  if s.active.isNone ∧ ¬ (s.recovery ∧ k = .cold) then (s, .nak .state)
  else if s.flashBusy then (s, .nak .busy)
  else ({ s with dev := { s.dev with resetDue := some (k, s.tick) } }, .ack)

/-- A write of DEVICE_COMMAND (Table 18.6). -/
def effDeviceCommand (v : Int) (s : State) : State × Verdict :=
  if v = 1 then effPark s else if v = 2 then effDrain s else if v = 3 then effResume s
  else if v = 4 then effReset .warm s else effReset .cold s

def execPark (sess : Nat) (s : State) := finish s (parkOwed (hostWrite s sess Obj.DEVICE_COMMAND 0 1 effPark))

def execDrain (sess : Nat) (s : State) := finish s (hostWrite s sess Obj.DEVICE_COMMAND 0 2 effDrain)

def execResume (sess : Nat) (s : State) := finish s (parkOwed (hostWrite s sess Obj.DEVICE_COMMAND 0 3 effResume))

def execWarmReset (sess : Nat) (s : State) := finish s (hostWrite s sess Obj.DEVICE_COMMAND 0 4 (effReset .warm))

def execColdReset (sess : Nat) (s : State) := finish s (hostWrite s sess Obj.DEVICE_COMMAND 0 5 (effReset .cold))

/-- RESET_DELAY_END (R516, R522): 10 ms after the ACK. -/
def execResetDelayEnd (s : State) :=
  finish s (match s.dev.resetDue with
    | some (k, t) => if s.elapsed t 10000000 then resetNow s k 2 else s
    | none => s)

/-! ### Park image and flash (R521, R525, R526, R533) -/

/-- PARK_STORE (R521). -/
def effParkStore (v : Int) (s : State) : State × Verdict :=
  if !s.flashOk || s.slotState v.toNat != .valid then (s, .nak .state)
  else (autoStore (s.setObj Obj.PARK_STORE 0 v) (.park (some v.toNat)), .ack)

def execParkStore (sess : Nat) (slot : Int) (s : State) := finish s (hostWrite s sess Obj.PARK_STORE 0 slot (effParkStore slot))

/-- PARK_CLEAR (R521). -/
def effParkClear (s : State) : State × Verdict := (autoStore s (.park none), .ack)

def execParkClear (sess : Nat) (s : State) := finish s (hostWrite s sess Obj.PARK_CLEAR 0 1 effParkClear)

/-- CONFIG_STORE (R525). -/
def effConfigStore (s : State) : State × Verdict :=
  if !s.flashOk then (s, .nak .state) else if s.flashBusy then (s, .nak .busy) else (startStore s .config, .ack)

def execConfigStore (sess : Nat) (s : State) := finish s (hostWrite s sess Obj.CONFIG_STORE 0 1 effConfigStore)

/-- FLASH_REGION_DONE (R526). The page of a safe store ends by SAFE_PAGE_STORED. -/
def execFlashRegionDone (s : State) :=
  finish s (match s.dev.store with
    | some st => if st.kind = .safePage then s else storeRegionDone s
    | none => s)

/-- SAFE_PAGE_STORED (R219). -/
def execSafePageStored (s : State) := finish s (pageStored s)

/-- One hour more in the counts of R533. -/
def countHour (s : State) : State :=
  let hot := match s.hottest junctionSensors with | some t => decide (10000 ≤ t) | none => false
  let n := 38 + s.objN Obj.CASE_SOURCE 0
  let warm := decide (s.objN Obj.CASE_SOURCE 0 ≠ 0) && s.sensorState n == 0 && decide (5000 < s.obj Obj.CASE_TEMP 0)
  let s := s.incSat Obj.POWER_ON_HOURS 0
  (s.incSat Obj.HOURS_JUNCTION_HOT 0 (boolNat hot)).incSat Obj.HOURS_CASE_HOT 0 (boolNat warm)

/-- LIFE_RECORD_TIMER (R524, R533). -/
def execLifeRecordTimer (s : State) :=
  finish s (if s.dev.state ≠ .off ∧ s.elapsed s.dev.lifeAt 3600000000000 then
      autoStore (countHour { s with dev := { s.dev with lifeAt := s.tick } }) .life
    else s)

/-! ### Firmware (R528 to R531) -/

/-- FW_LOAD_OPEN (R528). -/
def effFwLoadOpen (v : Int) (s : State) : State × Verdict :=
  let b := v.toNat
  if !s.flashOk then (s, .nak .state)
  else if s.dev.flash.confirmed = b ∨ (s.lobe 0).bank = some b ∨ (s.lobe 1).bank = some b then (s, .nak .busy)
  else
    let s := (s.setObj Obj.FW_LOAD_OPEN 0 v).setFwBank b { s.fwBank b with state := 1, version := 0, data := [] }
    ({ s with dev := { s.dev with fwOpen := some b } }, .ack)

def execFwLoadOpen (sess : Nat) (bank : Int) (s : State) := finish s (hostWrite s sess Obj.FW_LOAD_OPEN 0 bank (effFwLoadOpen bank))

/-- A region of the open bank is written: programmed when its last chunk arrives, acknowledged when that ends (R528). -/
def effFwData (n : Nat) (bytes : List Byte) (s : State) : State × Verdict :=
  match s.dev.fwOpen with
  | none => (s, .nak .state)
  | some b =>
    if !s.flashOk then (s, .nak .state)
    else
      let x := s.fwBank b
      let s := s.setFwBank b { x with data := mset x.data n bytes }
      (autoStore s (.fwRegion (128 * b + n)), .owe (.fwData (128 * b + n)))

/-- FW_VERIFY (R512, R528): the signature decides; what version and formats the header names is a free value. -/
def effFwVerify (sigOk : Bool) (s : State) : State × Verdict :=
  match s.dev.fwOpen with
  | none => (s, .nak .state)
  | some b =>
    if !s.flashOk then (s, .nak .state)
    else
      let s := { s with dev := { s.dev with fwOpen := none } }
      if sigOk && !s.bankBad b then
        let (n, s) := s.fresh
        (s.setFwBank b { s.fwBank b with state := 2, version := n % (u32Max + 1)
                                         formatLow := Config.firmwareFormat false (2 + s.ex.freeCount)
                                         formatHigh := Config.firmwareFormat true (2 + s.ex.freeCount) }, .ack)
      else (s.setFwBank b { s.fwBank b with state := 3 }, .nak .format)

def execFwVerify (sess : Nat) (sigOk : Bool) (s : State) := finish s (hostWrite s sess Obj.FW_VERIFY 0 1 (effFwVerify sigOk))

/-- Each of two versions accepts a state-copy format the other produces (R512, R529). -/
def formatsMeet (a b : FwBank) : Bool := decide (a.formatLow ≤ b.formatHigh ∧ b.formatLow ≤ a.formatHigh)

/-- FW_ACTIVATE (R529). -/
def effFwActivate (v : Int) (s : State) : State × Verdict :=
  let b := v.toNat
  match s.standby with
  | none => (s, .nak .state)
  | some l =>
    if s.active.isNone ∨ (s.dev.state ≠ .parked ∧ s.dev.state ≠ .service) ∨ ¬ s.flashOk then (s, .nak .state)
    else if s.dev.fwStage ≠ .idle then (s, .nak .busy)
    else if s.fwBankState b ≠ 2 then (s, .nak .state)
    else if !formatsMeet (s.fwBank s.dev.flash.confirmed) (s.fwBank b) then (s, .nak .conflict)
    else
      let d := { s.dev with fwStage := .firstRestart, fwLobe := l, fwSince := s.tick, fwBoth := none
                            boot := some (s.dev.flash.confirmed, some b) }
      (autoStore { s with dev := d } .bootRecords, .ack)

def execFwActivate (sess : Nat) (bank : Int) (s : State) := finish s (hostWrite s sess Obj.FW_ACTIVATE 0 bank (effFwActivate bank))

/-- Whether a TRIAL bank stands, with no roll-back of it in progress. -/
def State.onTrial (s : State) : Bool := s.dev.flash.trial.isSome && s.dev.fwStage != .rollingBack

/-- FW_CONFIRM (R531). -/
def effFwConfirm (s : State) : State × Verdict := if s.onTrial then (confirmTrial s, .ack) else (s, .nak .state)

def execFwConfirm (sess : Nat) (s : State) := finish s (hostWrite s sess Obj.FW_CONFIRM 0 1 effFwConfirm)

/-- FW_CONFIRM_TIME_END (R531): both lobes have run the TRIAL bank for FW_CONFIRM_TIME. -/
def execFwConfirmTimeEnd (s : State) :=
  finish s (match s.dev.fwBoth with
    | some t => if s.onTrial ∧ s.elapsed t (1000000000 * s.objN Obj.FW_CONFIRM_TIME 0) then confirmTrial s else s
    | none => s)

/-- FW_ROLLBACK (R530). -/
def effFwRollback (s : State) : State × Verdict := if s.onTrial then (rollBack s 4, .ack) else (s, .nak .state)

def execFwRollback (sess : Nat) (s : State) := finish s (hostWrite s sess Obj.FW_ROLLBACK 0 1 effFwRollback)

/-- FW_TRIAL_TIMEOUT (R530): a lobe restarted on the TRIAL bank is not STANDBY 10 s after its reset. -/
def execFwTrialTimeout (l : Nat) (s : State) :=
  finish s (if (s.dev.fwStage = .firstRestart ∨ s.dev.fwStage = .secondRestart) ∧ s.dev.fwLobe = l ∧ s.dev.boot = none ∧
        (s.lobe l).role ≠ .standby ∧ s.elapsed s.dev.fwSince 10000000000 then rollBack s 2
    else s)

/-! ### Function modes (R34 to R39) -/

/-- Whether the hold-off of a function that has fallen back still runs. It counts from LAST_FALLBACK_TIME, which a later fallback
of another function moves too (R38, Table 1.6). -/
def State.heldOff (s : State) (n : Nat) : Bool :=
  (s.func n).fellBack && decide (s.now < s.obj Obj.LAST_FALLBACK_TIME 0 + 1000000 * s.obj Obj.FALLBACK_HOLDOFF 0)

/-- FUNC_MODE (R36, R38). -/
def effFuncMode (n : Nat) (v : Int) (s : State) : State × Verdict :=
  let f := s.func n
  if v = 1 && s.heldOff n then (s, .nak .busy)
  else ((s.setObj (Obj.FUNC_MODE + (n - 1)) 0 v).setFunc n { f with pending := some v.toNat }, .ack)

def execFuncMode (sess n : Nat) (v : Int) (s : State) :=
  finish s (hostWrite s sess (Obj.FUNC_MODE + (n - 1)) 0 v (effFuncMode n v))

/-- A wrap in progress when the element loops pass to the host: its heater command holds, its carry becomes part of φc
(R162). -/
def foldWrap (s : State) (e : Nat) : State :=
  let x := s.elem e
  match x.wrap with
  | none => s
  | some w =>
    let st := if x.state = .wrapping then .locked else x.state
    releaseGrant (s.setElem e { x.endWrap w.hCmd with state := st, phiC := x.phiC + x.phiW, phiW := 0 }) .wrap e

/-- The fallback of the element loops at their mode boundary (R164). -/
def loopsFallback (s : State) : State :=
  let s := fallback s 1
  let s := s.loops.elems.foldl (fun s e => if e.2.isLooped then reacquire s e.1 else s) s
  s.loops.voas.foldl (fun s v => if v.2.state = .disabled then s else s.setVoa v.1 { v.2 with state := .locked, fresh := false })
    { s with loops := { s.loops with hostBlocks := [], modeFrom := s.scan } }

/-- The mode boundary of the element loops: a scan boundary with no commit moving (Table 1.7). -/
def loopsBoundary (s : State) : State :=
  if s.tick % 256 = 0 ∧ ¬ s.commitMoving then
    if s.driveLate then loopsFallback s else
    let was := s.hostMode 1
    let s := atModeBoundary s 1
    let s := if s.hostMode 1 = was then s else { s with loops := { s.loops with modeFrom := s.scan } }
    if s.hostMode 1 && !was then
      let s := s.loops.elems.foldl (fun s e => foldWrap s e.1) s
      { s with loops := { s.loops with hostLast := s.tick, hostBlocks := [] } }
    else s
  else s

/-- MODE_BOUNDARY (R36): the boundary of a function at which an accepted request takes effect. That of the element loops is a scan
boundary. Those of functions 2 to 8 are made by the commands Table 1.7 names (a route request, a commit reaching DONE, a PREPARE, a
grant request, a servo update, an arm, a frame, a deadline), which take the request in the same step: no such boundary is
left to this command. -/
def execModeBoundary (n : Nat) (s : State) := finish s (if n = 1 then loopsBoundary s else s)

/-- FALLBACK_ELEMENT_LOOPS (R164). -/
def execFallbackElementLoops (s : State) := finish s (if s.driveLate then loopsBoundary s else s)

/-- FALLBACK_POWER_ARBITRATION (R295). -/
def execFallbackPowerArbitration (s : State) := finish s (fallbackPower s)

/-! ### Test access port (R561) -/

/-- The IDCODE register (R561): version from the hardware issue, part number, manufacturer, 1. -/
def State.idcode (s : State) : Nat :=
  s.objN Obj.HW_ISSUE 0 % 16 * 0x10000000 + 0x4F10 * 0x1000 + Config.manufacturer % 2048 * 2 + 1

/-- The digital lands of Table 19.5 that are not the port's own, in its order: the cells of the boundary-scan register. -/
inductive Land
  | ppsIn | ppsOut | tout (k : Nat) | trigIn (x : Nat) | trigOut (x : Nat) | spp (i : Nat) | faultN | pgoodIn | resetN
  | lobeDisN (l : Nat) | uartTxd | uartRxd
  deriving DecidableEq, Repr

def lands : List Land :=
  [.ppsIn, .ppsOut, .tout 0, .tout 1, .tout 2, .tout 3, .trigIn 0, .trigIn 1, .trigOut 0, .trigOut 1, .spp 0, .spp 1, .spp 2, .spp 3, .faultN,
   .pgoodIn, .resetN, .lobeDisN 0, .lobeDisN 1, .uartTxd, .uartRxd]

/-- What a land carries by its function (R447, R370, R552): PPS_OUT is pulse output 0 and TOUTk pulse output k + 1. The level of an input
that no state holds is free (log entry 205). -/
def State.landLevel (s : State) : Land → Bool
  | .ppsOut => s.pulseLevel 0
  | .tout k => s.pulseLevel (k + 1)
  | .trigOut x => s.trigLevel x
  | .faultN => !s.faultN
  | .pgoodIn => s.dev.pgood
  | .resetN => s.dev.resetN
  | .lobeDisN l => (s.lobe l).strapHigh
  | .uartTxd => true
  | .ppsIn => Config.analogue 561 0 s.tick % 2 == 1
  | .trigIn x => Config.analogue 561 (1 + x) s.tick % 2 == 1
  | .spp i => Config.analogue 561 (3 + i) s.tick % 2 == 1
  | .uartRxd => Config.analogue 561 7 s.tick % 2 == 1

/-- Whether a land is an output. -/
def Land.isOut : Land → Bool
  | .ppsOut | .tout _ | .trigOut _ | .faultN | .uartTxd => true
  | _ => false

/-- What the module drives on an output: nothing while VIO is absent, the cell of the boundary-scan register under EXTEST, else what its
function gives; FAULT_N is only pulled low (R552, R561). -/
def State.driven (s : State) (l : Land) : Option Bool :=
  if !l.isOut || !s.vio then none
  else
    let v := if s.dev.tapInstruction = 0 then s.dev.boundary.getD (lands.idxOf l) (s.landLevel l) else s.landLevel l
    if l = .faultN ∧ v then none else some v

/-- What the register selected by an instruction captures: the IDCODE, the boundary-scan cells, first land least significant, or the 0 of
BYPASS. -/
def State.captured (s : State) (ir : Nat) : Nat :=
  if ir = 2 then s.idcode else if ir < 2 then bitsOf s.dev.boundary else 0

/-- The instruction that the port carries out: SAMPLE/PRELOAD and EXTEST only while RESET_N is low, any other but IDCODE is BYPASS. -/
def State.tapTakes (s : State) (ir : Nat) : Nat := if ir = 2 then 2 else if ir < 2 ∧ ¬ s.dev.resetN then ir else 3

/-- TEST_ACCESS_PORT_INSTRUCTION: 0 EXTEST, 1 SAMPLE/PRELOAD, 2 IDCODE, 3 BYPASS; any other loads BYPASS. A tester that shifts one in holds
TRST_N high. SAMPLE/PRELOAD takes the levels of the lands into the cells, which EXTEST then drives (log entry 205). -/
def execTestAccessPortInstruction (ir : Nat) (s : State) :=
  let k := s.tapTakes ir
  let s' : State := { s with dev := { s.dev with tapInstruction := k, trstN := true
                                                 boundary := if k = 1 then lands.map s.landLevel else s.dev.boundary } }
  finish s { s' with dev := { s'.dev with tapData := s'.captured k } }

end Sys2Proof.Machine
end

