-- ==== Sys2Proof/Machine/Flags.lean ====
section
/-!
DEFINITION. The status words the block shows: one byte of flags for a drive channel, an element loop and a VOA loop, and
the words of a lobe and of a port, each computed from the state it reports.
-/

namespace Sys2Proof.Machine

open Sys2Proof

/-- A byte of flags, the first being bit 0. -/
def flagByte (l : List Bool) : Nat := bitsOf l

/-- OUT_STATUS of a drive channel (R220): TARGET_REACHED, SPAN_SEQ, GEN, SPARE, LOAD_FAULT, LOST, UNCHECKED after 64 scans
without a comparison (R208), READBACK_FAIL. -/
def State.outStatus (s : State) (u : Nat) : Nat :=
  let c := s.chan u
  let seq := match c.motion with | some (.spanSeq ..) => true | _ => false
  flagByte [c.reached, seq, (s.genOf u).isSome, c.spare.isSome, c.loadFault, c.lost, decide (64 ≤ c.unchecked), c.readbackFail]

/-- LOOP_STATUS of an element (R166): DARK, WRAP_PENDING, WRAP_PAUSED, CLIPPED, TARGET_REACHED, UNOBSERVED, HOST_DRIVEN. -/
def State.loopStatus (s : State) (e : Nat) : Nat :=
  let x := s.elem e
  let paused := match x.wrap with | some w => w.paused | none => false
  flagByte [x.dark, x.wrapAsk.isSome, paused, x.clipped, x.tReached, x.unobserved, s.hostMode 1]

/-- VOA_STATUS of an output (R166): DARK, TARGET_LIMIT, TARGET_REACHED, SOURCE_INVALID, HOST_DRIVEN. -/
def State.voaStatus (s : State) (o : Nat) : Nat :=
  let v := s.voa o
  flagByte [v.dark, v.limited, v.tReached, v.srcInvalid, s.hostMode 1]

/-- LOBE_HEALTH (R341): the causes of Table 11.4 last seen, and LINK_LOST in bit 5. -/
def State.lobeHealth (s : State) (l : Nat) : Nat := (s.lobe l).health % 32 + 32 * boolNat (s.lobe l).linkLost

/-- GATE_STATE of a port (R421): OFF, RUNNING, or a change that waits for its time. -/
def State.gateState (s : State) (x : Nat) : Nat :=
  let g := s.portGates x
  if g.next.isSome then 2 else if g.oper.isSome then 1 else 0

/-- RULES_STATUS (R400): IDLE, CHECKING, RETAINING. -/
def State.rulesStatus (s : State) : Nat :=
  if s.net.rules.checking.isSome then 1 else if s.net.rules.retaining.isSome then 2 else 0

/-- CAL_STATUS (R281): where the request at the head of the queue stands. -/
def State.calStatus (s : State) : Nat :=
  match s.cal.run with
  | some r => r.phase.code
  | none => if s.cal.queue.isEmpty then 0 else 1

/-- CONV_SPARE of a monitor bank (R253): the converter its spare serves, 0xFF none, 0xFE the spare FAILED. -/
def State.convSpare (s : State) (mb : Nat) : Nat :=
  let b := s.monBank mb
  if b.spareFailed then 0xFE else match b.spareCv with | some cv => cv % 16 | none => 0xFF

/-- REDUNDANT (R339). -/
def State.redundant (s : State) : Bool := s.active.isSome && s.standby.isSome

end Sys2Proof.Machine
end

