-- ==== Sys2Proof/Machine/Operands.lean ====
section
/-!
DEFINITION. The operand forms of object accesses: how a value of each type is laid out in a frame (Table 0.5, R454), what
a read of each object returns (R473), and what a write of each object does once it has passed checks 1 to 7 of Table 16.7.
-/

namespace Sys2Proof.Machine

open Sys2Proof

/-! ### Values in frames -/

/-- The type codes of Table 16.6. -/
def typeCode : OType → Nat
  | .bool => 1 | .u8 => 2 | .u16 => 3 | .u32 => 4 | .u64 => 5 | .i16 => 6 | .i32 => 7 | .q15 => 8 | .q30 => 9
  | .time96 => 10 | .octets => 11 | .enum8 => 12

/-- Bytes of a value of a type (Table 0.5); OCTETS have no fixed size. -/
def typeSize : OType → Nat
  | .bool | .u8 | .enum8 => 1
  | .u16 | .i16 | .q15 => 2
  | .u32 | .i32 | .q30 => 4
  | .u64 => 8
  | .time96 => 12
  | .octets => 0

/-- The bytes of a numeric value in network order (R13, R454). -/
def valueBytes (t : OType) (v : Int) : List Byte :=
  match t with
  | .time96 => time96Be v
  | .octets => []
  | _ => beBytes (typeSize t) (toUnsigned (8 * typeSize t) v)

/-- The value that bytes of a type's size hold. A TIME96 whose nanoseconds are out of range is read as -1, which check 6
refuses (R16). -/
def valueOf (t : OType) (b : List Byte) : Int :=
  match t with
  | .i16 | .q15 => toSigned 16 (ofBe b)
  | .i32 | .q30 => toSigned 32 (ofBe b)
  | .time96 => if 999999999 < be b 8 4 then -1 else (be b 0 8 * 1000000000 + be b 8 4 : Nat)
  | _ => (ofBe b : Nat)

/-! ### Numeric objects with a home of their own -/

/-- Identity, device state, event log (chapter 16) and function modes (R35). -/
def State.readDevice (s : State) (addr sel : Nat) : Option Int :=
  if addr = Obj.EFFECTIVE_MODE then some (s.func sel).mode
  else if addr = Obj.FW_VERSION then
    some (match s.active.bind fun l => (s.lobe l).bank with | some b => (s.fwBank b).version | none => 0)
  else if addr = Obj.DEVICE_STATE then some s.dev.state.code
  else if addr = Obj.STATE_SINCE then some s.dev.since
  else none

def State.readEvents (s : State) (addr : Nat) : Option Int :=
  if addr = Obj.EVENT_NEWEST then some (match s.ex.log.head? with | some e => e.seq | none => 0)
  else if addr = Obj.EVENT_OLDEST then some (match s.ex.log.getLast? with | some e => e.seq | none => 0)
  else none

/-- Whether a bank's firmware may be run: VALID, TRIAL or CONFIRMED. -/
def fwHolds (st : Nat) : Bool := st == 2 || st == 4 || st == 5

/-- Flash and firmware (R534). -/
def State.readFlash (s : State) (addr sel : Nat) : Option Int :=
  if addr = Obj.FW_BANK_STATE then some (s.fwBankState sel)
  else if addr = Obj.FW_BANK_VERSION then some (if fwHolds (s.fwBankState sel) then (s.fwBank sel).version else 0)
  else if addr = Obj.FW_RUNNING_BANK then some ((s.lobe sel).bank.getD 0xFF)
  else if addr = Obj.FW_UPDATE_STATE then some s.dev.fwStage.code
  else if addr = Obj.FLASH_BUSY then some (boolNat s.flashBusy)
  else if addr = Obj.FLASH_WEAR then some (wearOf s.dev.flash.erases)
  else if addr = Obj.CONFIG_DIRTY then some (boolNat !s.configDiff.isEmpty)
  else none

/-- Fabric (R70). -/
def State.readFabric (s : State) (addr : Nat) : Option Int :=
  if addr = Obj.FAULT_CELLS then some ((mget [] s.objs Obj.CELL_CLASS).filter fun e => e.2 ≠ 0).length else none

/-- Library and images (R101, R102). LOAD_STATUS is that of the reading session. SLOT_FAULT_GEN, SLOT_CAL_GEN and SLOT_REFINE_COUNT of an
EMPTY slot read the header bytes left in it (DESIGN CHOICE, log entry 16). -/
def State.readLibrary (s : State) (sess addr sel : Nat) : Option Int :=
  if addr = Obj.LIB_VALID then some (s.lib.slots.filter fun e => e.2 == .valid).length
  else if addr = Obj.SLOT_STATE then some (s.slotState sel).code
  else if addr = Obj.SLOT_HASH then some (if s.slotState sel = .empty then 0 else s.slotHash sel)
  else if addr = Obj.SLOT_FAULT_GEN then some (s.slotFaultGen sel)
  else if addr = Obj.SLOT_CAL_GEN then some (s.slotCalGen sel)
  else if addr = Obj.SLOT_REFINE_COUNT then some (s.slotRefineCount sel)
  else if addr = Obj.SLOT_IN_USE then some (boolNat (s.inUse sel))
  else if addr = Obj.LOAD_STATUS then some (match s.session sess with | some (_, x) => x.loadStatus | none => 0)
  else if addr = Obj.READ_SLOT then some (match s.session sess with | some (_, x) => x.readSlot | none => 0)
  else if addr = Obj.REFINE_QUEUED then some s.lib.queue.length
  else if addr = Obj.REFINE_BUF_SLOT then some (match mfind s.lib.bufs sel with | some b => b.latch.slot | none => 0xFFFFFFFF)
  else none

/-- Commits and their log (R135). -/
def State.readCommit (s : State) (addr sel : Nat) : Option Int :=
  let e := mget {} s.com.log sel
  if addr = Obj.STAGING_FREE then some s.stagingFree
  else if addr = Obj.QUEUE_DEPTH then some s.armedQueue.length
  else if addr = Obj.NEXT_T then some (match s.armedQueue.head? with | some c => c.t | none => 0)
  else if addr = Obj.LOG_HEAD then some s.com.head
  else if addr = Obj.LOG_ID then some e.id
  else if addr = Obj.LOG_SLOT then some e.slot
  else if addr = Obj.LOG_T then some e.t
  else if addr = Obj.LOG_STATE then some e.state.code
  else if addr = Obj.LOG_OUTCOME then some e.outcome.code
  else if addr = Obj.LOG_FLAGS then some e.flags
  else if addr = Obj.LOG_WAVES then some e.waves
  else if addr = Obj.LOG_SETTLE then some e.settle
  else none

/-- Loops (R166). The rounding of LOOP_ERROR and of VOA_POWER is not stated (log entry 50). -/
def State.readLoops (s : State) (addr sel : Nat) : Option Int :=
  let x := s.elem sel
  let v := s.voa sel
  if addr = Obj.LOOP_STATE then some x.state.code
  else if addr = Obj.POCKELS_PHASE then some x.phi
  else if addr = Obj.LOOP_OFFSET then some x.phiL
  else if addr = Obj.WRAP_CARRY then some x.phiW
  else if addr = Obj.HEATER_PHASE then some x.theta
  else if addr = Obj.LOOP_ERROR then
    some (if x.err = 0 then 0 else clampInt (-32768) 32767 (openRound 506 x.err x.sum))
  else if addr = Obj.LOOP_STATUS then some (s.loopStatus sel)
  else if addr = Obj.EFFECTIVE_T then some x.t
  else if addr = Obj.VOA_STATE then some v.state.code
  else if addr = Obj.VOA_ATTEN then some v.atten
  else if addr = Obj.VOA_POWER then
    some (if v.dark ∨ v.mean ≤ 0 then -32768
          else clampInt (-32768) 32767 (s.obj Obj.OUT_TAP_REF sel + ratioLog 1000 v.mean 1024))
  else if addr = Obj.VOA_STATUS then some (s.voaStatus sel)
  else if addr = Obj.DEGRADED then some (boolNat (s.column sel).degraded)
  else if addr = Obj.WRAPS_ACTIVE then some (s.wrapsActive sel)
  else if addr = Obj.LOCKED_COUNT then
    some (if sel = 41 then (s.loops.voas.filter fun e => e.2.state == .locked).length
          else (s.loops.elems.filter fun e => columnOf e.1 == sel && (e.2.state == .locked || e.2.state == .wrapping)).length)
  else none

/-- Drive outputs (R220, R221). -/
def State.readDrive (s : State) (addr sel : Nat) : Option Int :=
  let c := s.chan sel
  if addr = Obj.SPAN then some c.span
  else if addr = Obj.OUT_CODE then some (s.outCode sel)
  else if addr = Obj.OUT_TARGET then some c.target
  else if addr = Obj.OUT_STATUS then some (s.outStatus sel)
  else if addr = Obj.READBACK then some c.sensed
  else if addr = Obj.SPARE_MAP then some (if 3872 ≤ sel then 0xFFFF else s.mapCode sel false)
  else if addr = Obj.SAFE_CODE then some (s.safeCode sel)
  else if addr = Obj.SAFE_SPAN then some (s.safeSpan sel)
  else if addr = Obj.HOLD_STATE then some (s.bank sel).hold.code
  else none

/-- Monitor inputs (R252 to R256). -/
def State.readMonitor (s : State) (addr sel : Nat) : Option Int :=
  if addr = Obj.SCAN_COUNT then some s.scan
  else if addr = Obj.GAIN then some (s.pd sel).g
  else if addr = Obj.RAW_SAMPLE then some (s.pd sel).raw
  else if addr = Obj.CONV_SPARE then some (s.convSpare sel)
  else if addr = Obj.CONV_STATE then some (if s.unchecked sel then 4 else (s.conv sel).state)
  else if addr = Obj.FOCUS_STATE then some (boolNat (s.conv sel).focus.isSome)
  else if addr = Obj.FOCUS_ACTIVE then some (s.mon.convs.filter fun e => e.2.focus.isSome).length
  else none

/-- Calibration (R281) and temperatures (R308). -/
def State.readCal (s : State) (addr : Nat) : Option Int :=
  if addr = Obj.CAL_QUEUED then some s.calQueued else if addr = Obj.CAL_STATUS then some s.calStatus else none

def State.readThermal (s : State) (addr sel : Nat) : Option Int :=
  if addr = Obj.SENSOR_STATE then some (s.sensorState sel)
  else if addr = Obj.FLASH_WRITE_OK then some (boolNat s.flashOk)
  else if addr = Obj.CASE_TEMP then
    some (if s.obj Obj.CASE_SOURCE 0 = 0 then 0 else s.obj Obj.TEMP (38 + s.objN Obj.CASE_SOURCE 0))
  else if addr = Obj.CASE_IN_RANGE ∧ (s.obj Obj.CASE_SOURCE 0 = 0 ∨ s.sensorState (38 + s.objN Obj.CASE_SOURCE 0) ≠ 0) then
    some 1
  else none

/-- The network time at a tick, counted at the nominal rate. -/
def State.timeAt (s : State) (t : Nat) : Int :=
  if t ≤ s.tick then s.now - ((32 * (s.tick - t) / 5 : Nat) : Int) else s.now + ((32 * (t - s.tick) / 5 : Nat) : Int)

/-- NEXT_SWAP (R333): the due time of the next swap, 0 while swaps are disabled or no lobe is ACTIVE (log entry 51). -/
def State.nextSwap (s : State) : Int :=
  if s.obj Obj.SWAP_ENABLE 0 = 0 then 0
  else match s.lobes.swapDue with
  | some t => s.timeAt t
  | none =>
    if s.active.isNone then 0
    else s.timeAt (s.lobes.lastTakeover + s.objN Obj.SWAP_INTERVAL 0 * 156250000)

/-- Lobes (R341). -/
def State.readLobes (s : State) (addr sel : Nat) : Option Int :=
  let x := s.lobe sel
  if addr = Obj.LOBE_ROLE then some x.role.code
  else if addr = Obj.ACTIVE_LOBE then some (s.active.getD 0xFF)
  else if addr = Obj.CLAIM then some x.claim
  else if addr = Obj.EPOCH then
    some (match s.active with | some l => (s.lobe l).seenEpoch | none => max (s.lobe 0).seenEpoch (s.lobe 1).seenEpoch)
  else if addr = Obj.REDUNDANT then some (boolNat s.redundant)
  else if addr = Obj.LOBE_STRAP then some (boolNat x.strapHigh)
  else if addr = Obj.DIAG_FAILS then some (s.diagFails sel)
  else if addr = Obj.LOBE_HEALTH then some (s.lobeHealth sel)
  else if addr = Obj.NEXT_SWAP then some s.nextSwap
  else if addr = Obj.HB_PATH_STATE then some (boolNat (s.hbPath sel).failed)
  else if addr = Obj.SNAP_SEQ then some (match s.lobes.snap with | some x => x.seq | none => 0)
  else if addr = Obj.SNAP_AGE then some s.snapAge
  else none

/-- Capture (R371). -/
def State.readCapture (s : State) (addr sel : Nat) : Option Int :=
  if addr = Obj.CAP_RESERVED then some ((s.sorus.bufs.map fun e => e.2.reserved).sum)
  else if addr = Obj.PATH_SCAN_WORDS then some (s.scanWords 8 s.ringWords)
  else if addr = Obj.PATH_STROBE_WORDS then some (s.strobeWords 8)
  else if addr = Obj.CAP_STATE then some (s.buf sel).state.code
  else if addr = Obj.CAP_UNRELEASED then some (s.buf sel).segs.length
  else if addr = Obj.RING_WP then some (s.ring sel).wp
  else if addr = Obj.RING_RP then some (s.ring sel).rp
  else none

/-- Control ports and classifier (R399, R400). -/
def State.readPorts (s : State) (addr sel : Nat) : Option Int :=
  if addr = Obj.LINK_STATE then some (boolNat (s.port sel).up)
  else if addr = Obj.PORT_ROLE then some (s.port sel).role
  else none

/-- The frames in the hold by entry: the oldest is entry 0 (log entry 52). -/
def State.heldAt (s : State) (h : Nat) : Option HeldFrame := s.net.held[h]?

def State.readClassifier (s : State) (addr sel : Nat) : Option Int :=
  if addr = Obj.RULES_STATUS then some s.rulesStatus
  else if addr = Obj.CLASS_HELD then some s.net.held.length
  else if addr = Obj.HELD_SEQ then some (match s.heldAt sel with | some h => h.seq | none => 0)
  else if addr = Obj.HELD_TIME then some (match s.heldAt sel with | some h => h.frame.stamp | none => 0)
  else none

/-- Queues and time (R420, R421, R449). -/
def State.readQueues (s : State) (addr sel : Nat) : Option Int :=
  if addr = Obj.SHAPER_TOKENS then some (s.shaperTokens sel)
  else if addr = Obj.GATE_STATE then some (s.gateState sel)
  else none

def State.readTime (s : State) (addr sel : Nat) : Option Int :=
  if addr = Obj.TIME_NOW then some s.now
  else if addr = Obj.FOREIGN_MASTERS then some (s.qualifiedMasters.length : Int)
  else if addr = Obj.HOLDOVER_TIME then
    some (match s.time.holdoverAt with | some t => (min u32Max (s.msSince t) : Nat) | none => 0)
  else if addr = Obj.TS_RX_LATENCY then some (s.latency false sel)
  else if addr = Obj.TS_TX_LATENCY then some (s.latency true sel)
  else none

/-- Sessions (R481). -/
def State.readSessions (s : State) (sess addr sel : Nat) : Option Int :=
  let x := mfind s.ex.sessions sel
  if addr = Obj.SESSIONS_OPEN then some s.ex.sessions.length
  else if addr = Obj.OWN_SESSION then some sess
  else if addr = Obj.SESSION_ID then some (match x with | some y => y.num | none => 0)
  else if addr = Obj.SESSION_LEVEL then some (match x with | some y => y.level | none => 0)
  else if addr = Obj.SESSION_IDLE then some (match x with | some y => (min u32Max (s.msSince y.lastFrame) : Nat) | none => 0)
  else if addr = Obj.SUB_DROPPED then some (match x with | some y => y.dropped | none => 0)
  else none

/-- The internal fabric (R505, R506). The share of the latest ms that TARGET_BUSY gives is measured, so it is free between 0 and 100 % where
a grant fell into that ms (log entry 40). -/
def State.readMatrix (s : State) (addr sel : Nat) : Option Int :=
  if s.dev.state = .off then none
  else if addr = Obj.TARGET_BUSY then
    some (if (mfind s.mat.grantAt sel).any fun t => decide (s.tick < t + 156250) then Config.analogue 0 sel s.tick % 10001 else 0)
  else if addr = Obj.SCRUB_PROGRESS then some (min 10000 (64 * (s.tick - s.mat.scrubAt) / (1000000 * s.mat.scrubPeriod) : Nat))
  else none

/-- Rails and start-up (R535): RAIL_VOLTAGE is measured, so it is free within the rail's window while the rail is OK, and the reading
of its fault afterwards (log entry 56). -/
def State.readLife (s : State) (addr sel : Nat) : Option Int :=
  if addr = Obj.FAULT_HOLD_CAUSE then some s.dev.cause.code
  else if addr = Obj.RAIL_VOLTAGE ∧ s.obj Obj.RAIL_STATE sel = 0 then
    let w := railWindow sel
    some (w.1 + Config.analogue 2 sel s.tick % (w.2 - w.1 + 1))
  else none

/-- The value of a numeric object whose home is a record of State, by the chapter its index belongs to (Table 16.11). -/
def State.readHome (s : State) (sess addr sel : Nat) : Option Int :=
  match addr / 65536 with
  | 0x10 => s.readDevice addr sel
  | 0x11 => s.readEvents addr
  | 0x12 => s.readFlash addr sel
  | 0x20 => s.readFabric addr
  | 0x21 => s.readLibrary sess addr sel
  | 0x22 => s.readCommit addr sel
  | 0x23 => s.readLoops addr sel
  | 0x25 => s.readDrive addr sel
  | 0x26 => s.readMonitor addr sel
  | 0x27 => s.readCal addr
  | 0x28 => s.readThermal addr sel
  | 0x29 => s.readLobes addr sel
  | 0x2A => s.readCapture addr sel
  | 0x30 => s.readPorts addr sel
  | 0x31 => s.readClassifier addr sel
  | 0x32 => s.readQueues addr sel
  | 0x33 => s.readTime addr sel
  | 0x34 => s.readSessions sess addr sel
  | 0x35 => s.readMatrix addr sel
  | 0x36 => s.readLife addr sel
  | _ => none

/-- Command objects below Maintain level, which read 0 like those of `commandObjs` (R565). -/
def operateCommands : List Nat :=
  [Obj.LOAD_CLOSE, Obj.ROUTE_APPLY, Obj.FOCUS_START, Obj.CAP_ARM, Obj.CAP_FORCE, Obj.PULSE_APPLY, Obj.LAUNCH_APPLY]

/-- The value a read of a numeric object returns to a session (R473). -/
def State.readNum (s : State) (sess addr sel : Nat) : Int :=
  if commandObjs.contains addr || operateCommands.contains addr then 0
  else (s.readHome sess addr sel).getD (s.obj addr sel)

/-! ### OCTETS objects with a home of their own -/

/-- EVENT_RECORD (R480): unreadable where its memory is lost (Table 17.8), unknown where the log does not hold it. -/
def State.readEvent (s : State) (q : Nat) : Except Nak (List Byte) :=
  match s.ex.log.find? fun e => e.seq == q with
  | none => .error .unknown
  | some e => if s.mat.eventBad.contains q then .error .memory else .ok (eventBe e)

/-- SUB_FILTER (R480): the SUBSCRIBE body of a filter of the reading session. -/
def State.readFilter (s : State) (sess f : Nat) : List Byte :=
  match (s.session sess).bind fun p => mfind p.2.filters f with
  | none => List.replicate 8 0
  | some x => beBytes 1 f ++ beBytes 1 (boolNat x.enable) ++ beBytes 2 x.code ++ beBytes 2 x.mask ++ [0, 0]

/-- The slot the reading session has selected (R87). -/
def State.readSlotOf (s : State) (sess : Nat) : Nat :=
  match s.session sess with | some (_, x) => x.readSlot | none => 0

/-- REFINE_BUF_DATA (R102): the records of a buffer as they would be written; of a free buffer, zeros (DESIGN CHOICE, log
entry 16). -/
def State.readRefineBuf (s : State) (b : Nat) : List Byte :=
  match mfind s.lib.bufs b with
  | some x => (mergeLatch s x.latch).slotRead x.latch.slot 0x1000 335872
  | none => List.replicate 335872 0

/-- CAP_DATA (R361): the selected segment. -/
def State.readSegment (s : State) : Except Nak (List Byte) :=
  let b := s.objN Obj.CAP_READ_BUF 0
  let q := s.objN Obj.CAP_READ_SEQ 0
  let x := s.buf b
  if x.cur.any fun g => g.seq == q then .error .busy
  else match x.segs.find? fun g => g.seq == q with
    | some g => .ok (g.bytes b)
    | none => .error .unknown

/-- The bytes a read of an OCTETS object returns, and the NAKs its chapter states for a read. -/
def State.readOct (s : State) (sess addr sel : Nat) : Except Nak (List Byte) :=
  if addr = Obj.VENDOR then .ok (ascii "Getrisum Microsystems")
  else if addr = Obj.PART_NUMBER then .ok (ascii (if s.obj Obj.GRADE 0 = 0 then "OS1024-TA" else "OS1024-TE"))
  else if addr = Obj.EVENT_RECORD then s.readEvent sel
  else if addr = Obj.SUB_FILTER then .ok (s.readFilter sess sel)
  else if addr = Obj.READ_DATA then .ok (s.slotRead (s.readSlotOf sess) 0 slotBytes)
  else if addr = Obj.REFINE_BUF_DATA then .ok (s.readRefineBuf sel)
  else if addr = Obj.CAP_DATA then s.readSegment
  else if addr = Obj.RING_DATA then .ok ((s.ring sel).recs.map (·.2)).flatten
  else if addr = Obj.ACTIVE_NODE then .ok (nodeOf s.net.rules.bank sel)
  else if addr = Obj.SHADOW_NODE then .ok (nodeOf s.net.rules.shadow sel)
  else if addr = Obj.SHADOW_BANK then .ok ((List.range 4096).map fun n => nodeOf s.net.rules.shadow n).flatten
  else if addr = Obj.HELD_KEY then
    .ok (match s.heldAt sel with | some h => (h.frame.key.map (beBytes 4)).flatten | none => List.replicate 64 0)
  else if addr = Obj.HELD_FRAME then
    .ok (match s.heldAt sel with | some h => padTo 128 h.frame.bytes | none => List.replicate 128 0)
  else if addr = Obj.GATE_OPER_LIST then
    .ok (match (s.portGates sel).oper with | some l => padTo 2048 l.bytes | none => List.replicate 2048 0)
  else if addr = Obj.SESSION_ADDR then
    .ok (match mfind s.ex.sessions sel with | some x => padTo 16 x.ip | none => List.replicate 16 0)
  else if addr = Obj.FW_DATA then
    .ok (match s.dev.fwOpen with | some b => padTo 262144 (mget [] (s.fwBank b).data sel) | none => List.replicate 262144 0)
  else .ok (s.oct addr sel)

/-- Checks 1 to 3 of Table 16.7 on a read; a key object is never read (R471). -/
def readCheck (level addr sel : Nat) : Except Nak ObjDef :=
  match objDef addr with
  | none => .error .noObject
  | some d =>
    if !selOk d sel then .error .range
    else if level < d.level ∨ addr = Obj.KEY_NEW then .error .access
    else .ok d

/-- A read: the object's type and the bytes of its value in network order. FIND_RESULT is BUSY while a search runs (R94). -/
def State.readValue (s : State) (sess level addr sel : Nat) : Except Nak (OType × List Byte) :=
  match readCheck level addr sel with
  | .error n => .error n
  | .ok d =>
    if d.type = .octets then
      match s.readOct sess addr sel with
      | .error n => .error n
      | .ok b => .ok (.octets, b)
    else if addr = Obj.FIND_RESULT ∧ s.lib.search.isSome then .error .busy
    else .ok (d.type, valueBytes d.type (s.readNum sess addr sel))

end Sys2Proof.Machine
end

