-- ==== Sys2Proof/Machine/Sessions.lean ====
section
/-!
DEFINITION. Sessions, subscriptions and keys (spec/16_exvan.md): OPEN, CLOSE, ECHO, SUBSCRIBE, EVENT frames, the closures of
Table 16.5, the response cache, key rotation and the group counter.
-/

namespace Sys2Proof.Machine

open Sys2Proof

/-! ### Opening (R458) -/

/-- The session key of R458. -/
def sessionKey (levelKey hostNonce deviceNonce : List Byte) (num : Nat) : List Byte :=
  beBytes 16 (Config.aesCmac levelKey ([1] ++ ascii "EXVAN" ++ [0] ++ hostNonce ++ deviceNonce ++ beBytes 2 num ++ [0x00, 0x80])).toNat

/-- A SESSION value not in use, 1 to 0xFFFD: which one is open. -/
def State.freeSession (s : State) (n : Nat) : Nat :=
  ((List.range 17).map fun i => (n + i) % 0xFFFD + 1).find? (fun k => (s.session k).isNone) |>.getD 1

/-- A free entry of the session table: which one is open. -/
def State.freeEntry (s : State) (n : Nat) : Nat :=
  ((List.range 16).map fun i => (n + i) % 16).find? (fun i => (mfind s.ex.sessions i).isNone) |>.getD 0

/-- The sender of an OPEN: as the frame of its nonce tells; where none has come, the operands, and the present generation of the key. -/
def State.caller (s : State) (level : Nat) (nonce : List Byte) (source : Nat) (uart : Bool) : Caller :=
  match s.net.exvanIn.find? fun f => be f.exvan 3 1 == 1 && be f.exvan 24 1 == level && slice f.exvan 28 8 == nonce with
  | some f => s.callerOf f
  | none => { node := source, gen := s.objN Obj.KEY_GEN level, key := s.customerKey level
              origin := if uart then some { uart } else none }

/-- Accept an OPEN: the nonce is remembered, the entry made, SESSION_OPENED raised and the ACK sent. -/
def openAccept (s : State) (c : Caller) (level : Nat) (nonce : List Byte) (source : Nat) (uart : Bool) (ip : List Byte) (udpPort req : Nat) :
    State :=
  let (n, s) := s.fresh
  let num := s.freeSession n
  let i := s.freeEntry (n / 65536)
  let dev := beBytes 8 (Config.freeBytes n 8).toNat
  let addr := if uart then List.replicate 16 0 else if ip.length = 4 then mapV4 ip else padTo 16 ip
  let key := sessionKey c.key nonce dev num
  let x : Session := { num, level, source, uart, ip := addr, udpPort, keyGen := c.gen, key, rxSeen := [0], lastFrame := s.tick
                       origin := c.origin }
  let seen := (nonce :: mget [] s.ex.nonces level).take 64
  let s := { s with ex := { s.ex with nonces := mset s.ex.nonces level seen } }
  let s := raiseA (s.setSession i x) 0x9001 [.word num, .word level, .octets addr]
  openAnswer s c num key req (.ack (beBytes 2 num ++ [0, 0] ++ dev ++ beBytes 4 (s.objN Obj.SESSION_TIMEOUT 0)))

/-- Carry out an OPEN that has passed the checks of Table 16.4. Recovery mode takes only a Maintain OPEN on the UART. A nonce used before
fails check 6 and is answered CONFLICT (R457, R458). -/
def openNow (s : State) (level : Nat) (nonce : List Byte) (source : Nat) (uart : Bool) (ip : List Byte) (udpPort req : Nat) : State :=
  let c := s.caller level nonce source uart
  let nak := fun (s : State) n => openAnswer s c 0 c.key req (.nak n 0 0)
  if s.recovery ∧ ¬ uart then s
  else if s.recovery ∧ level ≠ 2 then nak s .state
  else if (mget [] s.ex.nonces level).contains nonce then nak (rejectFrame s Obj.REPLAY_DROPS 6) .conflict
  else if 16 ≤ s.ex.sessions.length then nak s .full
  else openAccept s c level nonce source uart ip udpPort req

/-- OPEN (R458). A level above 2 fails check 3 of Table 16.4. While no lobe is ACTIVE the frame waits (R390). -/
def execOpenSession (level : Nat) (nonce : List Byte) (source : Nat) (uart : Bool) (ip : List Byte) (origin : OpenOrigin) (s : State) :=
  finish s (if 2 < level then dropSession s
    else if !s.exvanServed then s
    else if s.active.isNone && !s.recovery then
      { s with ex := { s.ex with groupLane := s.ex.groupLane ++ [.openSession level nonce source uart ip origin] } }
    else openNow s level nonce source uart ip origin.udpPort origin.req)

/-! ### Requests of a session other than object accesses -/

/-- Recovery mode answers an operation it does not accept with NAK FORMAT (R513, R474). -/
def unlessRecovery (sess req : Nat) (f : State → State) (s : State) : State :=
  if s.recovery then answer s sess req 0 0 (.nak .format 0 0) else f s

/-- CLOSE (R460): the ACK, then the closure with reason 1. -/
def execCloseSession (sess req : Nat) (s : State) :=
  finish s (request s sess req .object (.closeSession sess req) fun s _ =>
    unlessRecovery sess req (fun s => closeSession (answer s sess req 0 0 (.ack [])) sess 1) s)

/-- ECHO (R455). -/
def execEcho (sess req : Nat) (body : List Byte) (s : State) :=
  finish s (request s sess req .object (.echo sess req body) fun s _ =>
    unlessRecovery sess req
      (fun s => answer s sess req 0 0 (if body.length ≤ 64 then .ack body else .nak .format 0 0)) s)

/-- Set one of a session's event filters (R477). -/
def setFilter (s : State) (sess filter : Nat) (f : Filter) : State :=
  match s.session sess with
  | some (i, x) => s.setSession i { x with filters := mset x.filters filter f }
  | none => s

/-- SUBSCRIBE (R477). -/
def execSubscribe (sess req filter : Nat) (enable : Bool) (code mask : Nat) (s : State) :=
  finish s (request s sess req .object (.subscribe sess req filter enable code mask) fun s _ =>
    unlessRecovery sess req (fun s =>
      if 7 < filter then answer s sess req 0 0 (.nak .format 0 0)
      else answer (setFilter s sess filter { enable, code, mask }) sess req 0 0 (.ack [])) s)

/-- EVENT_FRAME_SEND (R477): the oldest records, up to 16, in one frame under the session's next SEQ (R459). -/
def sendEvents (s : State) (sess : Nat) : State :=
  match s.session sess with
  | none => s
  | some (i, x) =>
    if x.queue.isEmpty then s
    else
      let recs := x.queue.take 16
      let s := sendTo s 4 x.origin (frameBytes x.key 0x30 x.num 0 x.keyGen (x.txSeq + 1) 0 (s.objN Obj.NODE_ID 0) x.source
        (recs.map eventBe).flatten)
      let s := s.setSession i { x with queue := x.queue.drop 16, overflowed := false, txSeq := x.txSeq + 1 }
      closeIfSpent { s with ex := { s.ex with eventFrames := (sess, x.txSeq + 1, recs) :: s.ex.eventFrames } } sess

def execEventFrameSend (sess : Nat) (s : State) := finish s (if s.active.isSome then sendEvents s sess else s)

/-! ### Closures (Table 16.5) -/

/-- SESSION_TIMEOUT (R460). -/
def execSessionTimeout (sess : Nat) (s : State) :=
  finish s (match s.session sess with
    | some (_, x) =>
      if s.exvanServed ∧ s.elapsed x.lastFrame (1000000 * s.objN Obj.SESSION_TIMEOUT 0) then closeSession s sess 2 else s
    | none => s)

/-- A write of SESSION_CLOSE: a session that closes itself is answered first. -/
def effSessionClose (sess req addr target : Nat) (s : State) : State × Verdict :=
  if (s.session target).isNone then (s, .nak .unknown)
  else if target = sess then (closeSession (answer s sess req addr 0 (.ack [])) sess 5, .ack)
  else (closeSession s target 5, .ack)

/-- SESSION_CLOSE (R460). -/
def execSessionClose (sess : Nat) (target : Int) (s : State) :=
  finish s (hostWrite s sess Obj.SESSION_CLOSE 0 target (effSessionClose sess 0 Obj.SESSION_CLOSE target.toNat))

/-- RESPONSE_CACHE_EXPIRY (R465): answers cached 10 s ago are discarded. -/
def expireCache (s : State) (x : Session) : Session :=
  { x with cache := x.cache.filter fun e => !s.elapsed e.tick 10000000000 }

def execResponseCacheExpiry (sess : Nat) (s : State) :=
  finish s (match s.session sess with
    | some (i, x) => s.setSession i (expireCache s x)
    | none => s)

/-- BLOCK_ABANDONED (R470): 10 s without a chunk. -/
def abandonBlock (s : State) (i : Nat) (x : Session) (b : BlockBuf) : State :=
  let s := (s.setSession i { x with block := none }).inc64 Obj.BLOCKS_ABANDONED 0
  raiseA s 0x9006 [.word x.num, .word b.addr, .word b.bytes.length]

def execBlockAbandoned (sess : Nat) (s : State) :=
  finish s (match s.session sess with
    | some (i, x) =>
      match x.block with
      | some b => if s.elapsed b.tick 10000000000 then abandonBlock s i x b else s
      | none => s
    | none => s)

/-! ### Keys (R463) and the group counter (R462) -/

/-- The group counter at a rotation of K_G: from 1 again, with a reservation of its own. -/
def restartGroup (s : State) : State :=
  autoStore { s with ex := { s.ex with groupCounter := 1, groupLimit := 1, groupGen := s.objN Obj.KEY_GEN 3, groupReserved := true
                                       groupLowRaised := false, groupExhausted := false } } .life

/-- Put a new key in force: the old generation stays accepted while KEY_OVERLAP runs. -/
def rotateKey (s : State) (k : Nat) (key : List Byte) : State :=
  let g := s.objN Obj.KEY_GEN k
  let s := { s with ex := { s.ex with prevKeys := mset s.ex.prevKeys (4 * g + k) (s.customerKey k, s.tick)
                                      keys := mset s.ex.keys k key } }
  let s := (s.unstage Obj.KEY_NEW k).setObjN Obj.KEY_GEN k (nextGen g)
  let s := raiseA s 0x9004 [.word k, .word (s.obj Obj.KEY_GEN k)]
  if k = 3 then restartGroup s else s

/-- A write of KEY_APPLY: acknowledged when the store completes. -/
def effKeyApply (k : Nat) (s : State) : State × Verdict :=
  match mfind2 s.stagedOcts Obj.KEY_NEW k with
  | none => (s, .nak .state)
  | some key =>
    if !s.flashOk then (s, .nak .state)
    else if key.all (· == 0) then (s, .nak .range)
    else (autoStore (rotateKey s k key) (.keys k), .owe (.keyApply k))

/-- KEY_APPLY (R463). -/
def execKeyApply (sess : Nat) (k : Int) (s : State) := finish s (hostWrite s sess Obj.KEY_APPLY 0 k (effKeyApply k.toNat))

/-- Whether KEY_OVERLAP has passed since a key was replaced. -/
def State.overlapEnded (s : State) (since : Nat) : Bool := s.elapsed since (1000000000 * s.objN Obj.KEY_OVERLAP 0)

/-- KEY_OVERLAP_END (R460, R463): the lapsed generations of key k are accepted no longer, and the sessions derived from them
close with reason 3. -/
def endOverlap (s : State) (k : Nat) : State :=
  let lapsed := (s.ex.prevKeys.filter fun e => e.1 % 4 == k && s.overlapEnded e.2.2).map (·.1)
  let gone := s.ex.sessions.filter fun e => e.2.level == k && lapsed.contains (4 * e.2.keyGen + k)
  let s := { s with ex := { s.ex with prevKeys := s.ex.prevKeys.filter fun e => !lapsed.contains e.1 } }
  gone.foldl (fun s e => closeSession s e.2.num 3) s

def execKeyOverlapEnd (k : Nat) (s : State) := finish s (endOverlap s k)

/-- GROUP_SEQ_RESERVATION (R462): within 4,194,304 of the stored limit a life record with a higher one is written. -/
def execGroupSeqReservation (s : State) :=
  finish s (if s.active.isSome ∧ ¬ s.ex.groupReserved ∧ s.ex.groupLimit < u32Max ∧ s.ex.groupLimit ≤ s.ex.groupCounter + 4194304 then
      autoStore { s with ex := { s.ex with groupReserved := true } } .life
    else s)

end Sys2Proof.Machine
end

