-- ==== Sys2Proof/Machine/Access.lean ====
section
/-!
DEFINITION. Object accesses (spec/16_exvan.md): what a write of each object does after checks 1 to 7 of Table 16.7, and the
operations READ, WRITE, BLOCK_READ and BLOCK_WRITE over them.
-/

namespace Sys2Proof.Machine

open Sys2Proof

/-! ### Writes of numeric objects whose owning chapter gives them an effect of their own

Each chapter's function answers none for an object that is only kept or staged. -/

def effFlash (addr : Nat) (v : Int) (s : State) : Option (State × Verdict) :=
  if addr = Obj.FW_LOAD_OPEN then some (effFwLoadOpen v s)
  else if addr = Obj.FW_VERIFY then
    let (n, t) := s.fresh
    some (effFwVerify (n % 2 == 0) t)
  else if addr = Obj.FW_ACTIVATE then some (effFwActivate v s)
  else if addr = Obj.FW_CONFIRM then some (effFwConfirm s)
  else if addr = Obj.FW_ROLLBACK then some (effFwRollback s)
  else if addr = Obj.CONFIG_STORE then some (effConfigStore s)
  else if addr = Obj.PARK_STORE then some (effParkStore v s)
  else if addr = Obj.PARK_CLEAR then some (effParkClear s)
  else none

def effFabric (addr sel : Nat) (v : Int) (s : State) : Option (State × Verdict) :=
  if addr = Obj.CELL_CLASS ∨ addr = Obj.ELEMENT_FAULT then some (effFaultStage addr sel v s)
  else if addr = Obj.FAULT_APPLY then some (effFaultApply s)
  else if addr = Obj.PIN_TEST_CELL then some (effPinTestCell v s)
  else none

/-- READ_SLOT is kept for the writing session (R87). -/
def effReadSlot (sess : Nat) (v : Int) (s : State) : State × Verdict :=
  (match s.session sess with
    | some (i, x) => s.setSession i { x with readSlot := v.toNat }
    | none => s, .ack)

def effLibrary (sess addr sel : Nat) (v : Int) (s : State) : Option (State × Verdict) :=
  if addr = Obj.LOAD_SLOT then some (effLoadSlot sess v s)
  else if addr = Obj.LOAD_CLOSE then some (effLoadClose sess s)
  else if addr = Obj.ERASE_SLOT then some (effEraseSlot sess v s)
  else if addr = Obj.READ_SLOT then some (effReadSlot sess v s)
  else if addr = Obj.REVALIDATE then some (effRevalidate v s)
  else if addr = Obj.FIND_HASH then some (effFindHash v.toNat s)
  else if addr = Obj.ROUTE_APPLY then some (effRouteApply sess s)
  else if addr = Obj.REFINE_DECIDE then some (effRefineDecide sel v s)
  else none

def effLoops (addr sel : Nat) (v : Int) (s : State) : Option (State × Verdict) :=
  if addr = Obj.SETPOINT then some (effSetpoint sel v s)
  else if addr = Obj.LOOP_ENABLE then some (effLoopEnable sel v s)
  else if addr = Obj.VOA_ENABLE then some (effVoaEnable sel v s)
  else if addr = Obj.VOA_TARGET ∨ addr = Obj.VOA_SOURCE then some (voaRetarget (s.setObj addr sel v) sel, .ack)
  else none

def effDatapath (addr sel : Nat) (v : Int) (s : State) : Option (State × Verdict) :=
  if addr = Obj.DP_APPLY then some (effDpApply s)
  else if addr = Obj.AVG_PD then some (effAvgConfig sel false v s)
  else if addr = Obj.AVG_LEN then some (effAvgConfig sel true v s)
  else none

/-- A write of PRIV_TARGET (R202): the limiter of the privileged channel takes it, where its claim gate accepts the write. -/
def effPrivTarget (n : Nat) (v : Int) (s : State) : State × Verdict :=
  (writeTarget (s.setObj Obj.PRIV_TARGET n v) (123904 + n) v, .ack)

def effDrive (addr sel : Nat) (v : Int) (s : State) : Option (State × Verdict) :=
  if addr = Obj.SPAN_APPLY then some (effSpanApply s)
  else if addr = Obj.GEN_APPLY then some (effGenApply s)
  else if addr = Obj.SAFE_STORE then some (effSafeStore s)
  else if addr = Obj.SAFE_REVERT then some (effSafeRevert s)
  else if addr = Obj.PRIV_TARGET then some (effPrivTarget sel v s)
  else none

/-- A change of auto-ranging, taken at the next scan boundary. -/
def effRange (addr : Nat) (v : Int) (s : State) : State × Verdict :=
  let s := s.setObj addr 0 v
  ({ s with mon := { s.mon with rangePend := true } }, .ack)

def effMonitor (addr sel : Nat) (v : Int) (s : State) : Option (State × Verdict) :=
  if addr = Obj.GAIN_MODE then some (effGainMode sel v s)
  else if addr = Obj.RANGE_HIGH ∨ addr = Obj.RANGE_LOW ∨ addr = Obj.RANGE_HOLD then some (effRange addr v s)
  else if addr = Obj.REF_ENABLE then some (effRefEnable sel v s)
  else if addr = Obj.BANK_POWER then some (effBankPower sel v s)
  else if addr = Obj.INJ_APPLY then some (effInjApply s)
  else if addr = Obj.FOCUS_START then some (effFocusStart sel v s)
  else none

def effCal (addr : Nat) (v : Int) (s : State) : Option (State × Verdict) :=
  if addr = Obj.CAL_APPLY then some (effCalApply s)
  else if addr = Obj.CAL_ACCEPT then some (effCalAccept v s)
  else if addr = Obj.CAL_ABORT then some (effCalAbort s)
  else if addr = Obj.CAL_STORE then some (effCalStore s)
  else if addr = Obj.CAL_VALUES_APPLY then some (effCalValuesApply s)
  else if addr = Obj.TEMPLATE_APPLY then some (effTemplateApply s)
  else none

def effSteady (addr sel : Nat) (v : Int) (s : State) : Option (State × Verdict) :=
  if addr = Obj.HEATER_BUDGET then some (effHeaterBudget false v s)
  else if addr = Obj.LOOP_RESERVE then some (effHeaterBudget true v s)
  else if addr = Obj.STEADY_RESET then some (effSteadyReset s)
  else if addr = Obj.TDX_MODE then some (effTdxMode sel v s)
  else if addr = Obj.CASE_SOURCE then some (effCaseSource v s)
  else none

def effLobes (addr sel : Nat) (v : Int) (s : State) : Option (State × Verdict) :=
  if addr = Obj.LOBE_HOLD_OFFLINE then some (effHoldOffline sel v s)
  else if addr = Obj.LOBE_RESET then some (effLobeReset sel s)
  else if addr = Obj.SWAP_NOW then some (effSwapNow s)
  else none

def effCapture (addr sel : Nat) (v : Int) (s : State) : Option (State × Verdict) :=
  if addr = Obj.CAP_ARM then some (if v = 1 then effCapArm sel s else effCapEnd sel s)
  else if addr = Obj.CAP_FORCE then some (effCapForce sel s)
  else if addr = Obj.CAP_RELEASE then some (effCapRelease sel v s)
  else if addr = Obj.RING_LENGTH then some (effRingLength sel v s)
  else if addr = Obj.RING_RP then some (effRingRp sel v s)
  else if addr = Obj.RING_ENABLE then some (effRingEnable sel v s)
  else none

def effPorts (addr sel : Nat) (v : Int) (s : State) : Option (State × Verdict) :=
  if addr = Obj.PORT_ENABLE then some (effPortEnable sel v s)
  else if addr = Obj.NET_APPLY then some (effNetApply s)
  else none

def effClassifier (addr sel : Nat) (v : Int) (s : State) : Option (State × Verdict) :=
  if addr = Obj.RULES_APPLY then some (effRulesApply s)
  else if addr = Obj.RULES_STORE then some (effRulesStore s)
  else if addr = Obj.SLOW_RATE ∨ addr = Obj.SLOW_BURST then some (effSlowPolicer addr sel v s)
  else none

/-- A changed policer starts again with a full bucket (R418). -/
def effPolicer (addr p : Nat) (v : Int) (s : State) : State × Verdict :=
  let s := s.setObj addr p v
  ({ s with net := { s.net with policers := mdel s.net.policers p } }, .ack)

def effQueues (addr sel : Nat) (v : Int) (s : State) : Option (State × Verdict) :=
  if addr = Obj.SHAPER_RATE then some (effShaper sel 0 v s)
  else if addr = Obj.SHAPER_BURST then some (effShaper sel 1 v s)
  else if addr = Obj.SHAPER_ENABLE then some (effShaper sel 2 v s)
  else if addr = Obj.TXQ_APPLY then some (effTxqApply s)
  else if addr = Obj.GATE_APPLY then some (effGateApply sel s)
  else if addr = Obj.POLICER_RATE ∨ addr = Obj.POLICER_BURST then some (effPolicer addr sel v s)
  else if addr = Obj.QSAMPLE_PERIOD then some (effQsamplePeriod v s)
  else none

def effTime (addr sel : Nat) (v : Int) (s : State) : Option (State × Verdict) :=
  if addr = Obj.TIME_RATE then some (effTimeRate v s)
  else if addr = Obj.TIME_RESET then some (effTimeReset s)
  else if addr = Obj.PULSE_APPLY then some (effPulseApply sel s)
  else if addr = Obj.LAUNCH_APPLY then some (if v = 1 then effLaunchStart sel s else effLaunchStop sel s)
  else none

def effExvan (sess req addr : Nat) (v : Int) (s : State) : Option (State × Verdict) :=
  if addr = Obj.SESSION_CLOSE then some (effSessionClose sess req (if req = 0 then addr else 0) v.toNat s)
  else if addr = Obj.KEY_APPLY then some (effKeyApply v.toNat s)
  else none

/-- PARK_INITIATOR (R489): a connected initiator only. -/
def effParkInitiator (t : Nat) (v : Int) (s : State) : State × Verdict :=
  if v ≠ 0xFF ∧ ¬ connected v.toNat t then (s, .nak .range) else (rePark (s.setObj Obj.PARK_INITIATOR t v), .ack)

def effMatrix (addr sel : Nat) (v : Int) (s : State) : Option (State × Verdict) :=
  if addr = Obj.ARB_RESET then some (effArbReset s)
  else if addr = Obj.PARK_INITIATOR then some (effParkInitiator sel v s)
  else none

/-- The effect an object's own chapter gives a write of it, if it gives one (Table 16.11). -/
def effOwn (sess req addr sel : Nat) (v : Int) (s : State) : Option (State × Verdict) :=
  match addr / 65536 with
  | 0x10 =>
    if 0x101001 ≤ addr ∧ addr ≤ 0x101008 then some (effFuncMode (addr - 0x101000) v s) else none
  | 0x12 => effFlash addr v s
  | 0x20 => effFabric addr sel v s
  | 0x21 => effLibrary sess addr sel v s
  | 0x23 => effLoops addr sel v s
  | 0x24 => effDatapath addr sel v s
  | 0x25 => effDrive addr sel v s
  | 0x26 => effMonitor addr sel v s
  | 0x27 => effCal addr v s
  | 0x28 => effSteady addr sel v s
  | 0x29 => effLobes addr sel v s
  | 0x2A => effCapture addr sel v s
  | 0x30 => effPorts addr sel v s
  | 0x31 => effClassifier addr sel v s
  | 0x32 => effQueues addr sel v s
  | 0x33 => effTime addr sel v s
  | 0x34 => effExvan sess req addr v s
  | 0x35 => effMatrix addr sel v s
  | 0x36 => if addr = Obj.DEVICE_COMMAND then some (effDeviceCommand v s) else none
  | _ => none

/-- A write of a numeric object after checks 1 to 7 (R472): its chapter's effect, or the value staged or kept. -/
def effNumber (sess req addr sel : Nat) (v : Int) (s : State) : State × Verdict :=
  match effOwn sess req addr sel v s with
  | some r => r
  | none =>
    match objDef addr with
    | some d => if d.change = .staged then (s.stage addr sel v, .ack)
      else if isLaw addr then (s.setLaw addr sel v, .ack) else (s.setObj addr sel v, .ack)
    | none => (s, .nak .noObject)

/-! ### Writes of OCTETS objects -/

/-- Whether 16-bit breakpoints rise from each to the next (R260). -/
def risingBps (strict : Bool) : List Int → Bool
  | a :: b :: t => decide (if strict then a < b else a ≤ b) && risingBps strict (b :: t)
  | _ => true

/-- Check 6 of Table 16.7 on the content of an OCTETS value, as its object's description states it. -/
def octetsOk (addr : Nat) (b : List Byte) : Bool :=
  if addr = Obj.FAST_MAP then risingBps true (bpsI16 17 b)
  else if addr = Obj.HEATER_MAP then risingBps false (bpsU16 17 b) && (bpsU16 17 b).all fun x => decide (x ≤ 4095)
  else if addr = Obj.VOA_MAP then risingBps false (bpsU16 26 b) && (bpsU16 26 b).all fun x => decide (x ≤ 4095)
  else if addr = Obj.CAP_CHANNELS then
    ((List.range 16).all fun j => chanSelOk (be b (4 * j) 4)) && !(chanList b 16).isEmpty
  else if addr = Obj.ROUTE_EXCLUDE then
    (List.range 16).all fun j => decide (be b (4 * j) 4 < 20480) || be b (4 * j) 4 == 0xFFFFFFFF
  else if addr = Obj.ROUTE_VECTOR then vectorInRange (vectorOf b)
  else if addr = Obj.TARGET_WEIGHTS then ((b.take 7).all fun x => decide (x.toNat ≤ 15)) && le b 7 1 == 0
  else if addr = Obj.GRANT_DECIDE then (le b 4 1 == 1 || le b 4 1 == 2) && decide (le b 5 1 ≤ 1) && le b 6 2 == 0
  else if addr = Obj.CAP_MASK then (List.range 64).all fun i => decide (be b (20 * i + 1) 1 ≤ 1)
  else if addr = Obj.CLASS_DECIDE then decide (le b 4 1 ≤ 3 ∧ le b 5 1 ≤ 7 ∧ le b 6 1 ≤ 1) && le b 7 1 == 0
  else true

/-- A length that an OCTETS object allows (check 5); HOST_DRIVE takes whole records. -/
def lengthOk (d : ObjDef) (n : Nat) : Bool :=
  decide (d.lo ≤ (n : Int) ∧ (n : Int) ≤ d.hi) && !(d.addr == Obj.HOST_DRIVE && n % 8 != 0)

/-- The records of a HOST_DRIVE block (Table 5.5). -/
def driveRecs (b : List Byte) : List DriveRec :=
  (List.range (b.length / 8)).map fun i =>
    { sel := le b (8 * i) 4, value := le b (8 * i + 4) 2, kind := le b (8 * i + 6) 1, last := le b (8 * i + 7) 1 }

/-- The bytes of LOAD_DATA reach the slot the session holds open (R85, R87). The object itself keeps none and reads zeros (DESIGN CHOICE,
log entry 65). -/
def effLoadData (sess : Nat) (b : List Byte) (s : State) : State × Verdict :=
  match s.loadOf sess with
  | none => (s, .nak .state)
  | some l =>
    let loads := s.lib.loads.map fun x => if x.session == some sess then { x with last := s.tick, received := b.length } else x
    let s := { s with lib := { s.lib with loads := loads } }
    (s.slotWrite l.slot 0 b, .ack)

/-- The value an accepted write of a class L OCTETS object leaves to be read. -/
def keepOct (addr sel : Nat) (b : List Byte) : State × Verdict → State × Verdict
  | (s, .nak n) => (s, .nak n)
  | (s, r) => (s.setOct addr sel b, r)

/-- A write of an OCTETS object after checks 1 to 7. -/
def effBytes (sess addr sel : Nat) (b : List Byte) (s : State) : State × Verdict :=
  if addr = Obj.LOAD_DATA then effLoadData sess b s
  else if addr = Obj.FW_DATA then effFwData sel b s
  else if addr = Obj.HOST_DRIVE then keepOct addr sel b (effHostDrive (driveRecs b) s)
  else if addr = Obj.GRANT_DECIDE then
    keepOct addr sel b (effGrantDecide (le b 0 4) (le b 5 1 == 1) (le b 4 1 == 1) s)
  else if addr = Obj.CLASS_DECIDE then keepOct addr sel b (effClassDecide (le b 0 4) (le b 4 1) (le b 5 1) (le b 6 1) s)
  else if addr = Obj.SHADOW_NODE then effShadowNode sel b s
  else if addr = Obj.SHADOW_BANK then effShadowBank b s
  else if addr = Obj.RING_CHANNELS then effRingChannels sel b s
  else
    match objDef addr with
    | some d => if d.change = .staged then (s.stageOct addr sel b, .ack) else (s.setOct addr sel b, .ack)
    | none => (s, .nak .noObject)

/-! ### One write, checked and carried out -/

/-- Checks 5 to 7 of Table 16.7 on bytes, the type code having been compared, then the rules of SELFTEST and of recovery. -/
def bytesCheck (s : State) (d : ObjDef) (addr sel : Nat) (b : List Byte) : Option Nak :=
  if d.type = .octets then
    if !lengthOk d b.length then some .type
    else if !octetsOk addr b then some .range
    else if s.dev.state = .selftest ∧ !selftestAllows addr then some .state
    else if s.recovery && !recoveryAllows addr 0 then some .state
    else none
  else if b.length ≠ typeSize d.type then some .type
  else
    match valueCheck s d addr sel (valueOf d.type b) with
    | some n => some n
    | none => if s.recovery && !recoveryAllows addr (valueOf d.type b) then some .state else none

/-- All checks of Table 16.7 on one write: `type` is its type code, none in a block write. -/
def entryCheck (s : State) (level addr sel : Nat) (type : Option Nat) (b : List Byte) : Option Nak :=
  match accessCheck level addr sel with
  | .error n => some n
  | .ok d => if type.any fun t => t != typeCode d.type then some .type else bytesCheck s d addr sel b

/-- The effect of one write that has passed checks 1 to 7. -/
def writeValue (sess req addr sel : Nat) (b : List Byte) (s : State) : State × Verdict :=
  match objDef addr with
  | none => (s, .nak .noObject)
  | some d => if d.type = .octets then effBytes sess addr sel b s else effNumber sess req addr sel (valueOf d.type b) s

/-- OBJECT_WRITE (R472): one write of a numeric object. -/
def execObjectWrite (sess addr sel : Nat) (v : Int) (s : State) :=
  finish s (parkOwed (hostWrite s sess addr sel v (effNumber sess 0 addr sel v)))

/-! ### WRITE (R468) -/

/-- What becomes of a WRITE: the last completion it waits for, or the failing entry, its NAK, and the state a refused write
of that entry alone would leave. -/
inductive WriteEnd
  | done (s : State) (owe : Option OwedKind)
  | failed (s : State) (entry : Nat) (n : Nak) (detail : Nat)

/-- Check every entry against the state before the WRITE, and carry them out in order as they pass; nothing is kept where one
fails (R468, log entry 54). -/
def writeEntries (s0 : State) (sess req level : Nat) : List WriteEntry → Nat → Option OwedKind → State → WriteEnd
  | [], _, k, s => .done s k
  | e :: t, i, k, s =>
    match entryCheck s0 level e.addr e.sel (some e.type) e.value with
    | some n => .failed s0 i n 0
    | none =>
      match writeValue sess req e.addr e.sel e.value s with
      | (s', .ack) => writeEntries s0 sess req level t (i + 1) k s'
      | (s', .owe k') => writeEntries s0 sess req level t (i + 1) (some k') s'
      | (_, .nak n) =>
        match writeValue sess req e.addr e.sel e.value s0 with
        | (s1, .nak _) => .failed s1 i n (s1.detailOf sess e.addr n)
        | _ => .failed s0 i n 0

def writeNow (s : State) (sess req level : Nat) (entries : List WriteEntry) : State :=
  if entries.isEmpty ∨ 64 < entries.length then answer s sess req 0 0 (.nak .format 0 0)
  else
    match writeEntries s sess req level entries 0 none s with
    | .done s none => answer s sess req 0 0 (.ack [])
    | .done s (some k) => s.owe k sess req 0 0
    | .failed s i n d => answer s sess req 0 0 (.nak n i d)

/-- WRITE. -/
def execWrite (sess req : Nat) (entries : List WriteEntry) (s : State) :=
  finish s (parkOwed (request s sess req .object (.write sess req entries) fun s level => writeNow s sess req level entries))

/-! ### READ (R467) -/

/-- Zeros that pad a value to a multiple of 4 bytes. -/
def pad4 (b : List Byte) : List Byte := b ++ List.replicate ((4 - b.length % 4) % 4) 0

/-- The HBM address and the length of each stretch that a chunk of READ_DATA, CAP_DATA or RING_DATA covers, with its place in the
value (R97, R359, R366). -/
def State.chunkCells (s : State) (sess addr sel offset n : Nat) : List (Nat × Nat × Nat) :=
  if addr = Obj.READ_DATA then [(slotBase (s.readSlotOf sess) + offset, n, offset)]
  else if addr = Obj.CAP_DATA then
    let b := s.objN Obj.CAP_READ_BUF 0
    let q := s.objN Obj.CAP_READ_SEQ 0
    match (s.buf b).segs.find? fun g => g.seq == q with
    | some g => [(0x1800000000 + Config.captureAt b ((q - 1) % max 1 g.cfg.segments) % 0x400000000 + offset, n, offset)]
    | none => []
  else if addr = Obj.RING_DATA then
    let g := s.ring sel
    let at_ := (g.rp + offset) % max 1 g.length
    let first := min n (g.length - at_)
    let base := 0x1E00000000 + Config.ringAt sel % 0x100000000
    [(base + at_, first, offset), (base, n - first, offset + first)]
  else []

/-- The place in the value of the first word with an uncorrectable error that a chunk meets (Table 17.8). -/
def State.chunkBad (s : State) (sess addr sel offset n : Nat) : Option Nat :=
  ((s.mat.badWords.map fun w => (s.chunkCells sess addr sel offset n).filterMap fun c =>
    if w.1 < c.1 + c.2.1 ∧ c.1 < w.1 + w.2 then some (c.2.2 + (w.1 - c.1)) else none).flatten).head?

/-- The result of one entry. Recovery mode reads the objects of 1000-10FF and 1200-12FF (R513). -/
def readResult (s : State) (sess level : Nat) (e : ReadEntry) : List Byte :=
  let barred := s.recovery && !(e.addr / 65536 == 0x10 || e.addr / 65536 == 0x12)
  let fail := fun (n : Nak) => beBytes 1 n.code ++ [0, 0, 0]
  if barred then fail .state
  else
    match s.readValue sess level e.addr e.sel with
    | .error n => fail n
    | .ok (t, b) =>
      if t = .octets ∧ 1024 < b.length then fail .type
      else if (s.chunkBad sess e.addr e.sel 0 b.length).isSome then fail .memory
      else [0] ++ beBytes 1 (typeCode t) ++ beBytes 2 b.length ++ pad4 b

/-- Bytes of a frame on a control port beside the Exvan body: Ethernet, IP, UDP, Exvan header and tag, FCS. -/
def frameOverhead (ip : List Byte) : Nat := 14 + (if mappedV4 ip then 20 else 40) + 8 + 24 + 16 + 4

/-- Whether an answer of `n` bytes exceeds MAX_FRAME of the sending port (R402, R467, R469): that of the request's address set, or of set 0
where no frame has told it (log entry 55). A UART has no such limit. -/
def State.tooLong (s : State) (sess req n : Nat) : Bool :=
  match s.session sess with
  | none => false
  | some (_, x) =>
    let o := (s.peerOf sess req).getD { uart := x.uart, ip := x.ip }
    !o.uart && decide (s.objN Obj.MAX_FRAME (s.txPort (s.setOf o.port)) < n + frameOverhead o.ip)

def readNow (s : State) (sess req level : Nat) (entries : List ReadEntry) : State :=
  let body := (entries.map (readResult s sess level)).flatten
  if entries.isEmpty ∨ 64 < entries.length then answer s sess req 0 0 (.nak .format 0 0)
  else if s.tooLong sess req body.length ∨ 8192 < body.length then answer s sess req 0 0 (.nak .full 0 0)
  else answer s sess req 0 0 (.ack body)

/-- READ. -/
def execRead (sess req : Nat) (entries : List ReadEntry) (s : State) :=
  finish s (request s sess req .object (.read sess req entries) fun s level => readNow s sess req level entries)

/-! ### BLOCK_READ (R469) -/

/-- A chunk that memory cannot give: of RING_DATA, DETAIL tells the byte offset. -/
def badChunk (s : State) (sess req addr at_ : Nat) : State :=
  answer s sess req 0 0 (.nak .memory 0 (if addr = Obj.RING_DATA then at_ else 0))

def blockReadNow (s : State) (sess req level addr sel offset count : Nat) : State :=
  if count = 0 ∨ 8192 < count then answer s sess req 0 0 (.nak .format 0 0)
  else
    match s.readValue sess level addr sel with
    | .error n => answer s sess req 0 0 (.nak n 0 0)
    | .ok (_, b) =>
      let part := slice b offset count
      if b.length < offset ∨ s.tooLong sess req (4 + part.length) then answer s sess req 0 0 (.nak .range 0 0)
      else
        match s.chunkBad sess addr sel offset part.length with
        | some at_ => badChunk s sess req addr at_
        | none => answerFrom 6 true s sess req 0 0 (.ack (beBytes 4 b.length ++ part))

/-- BLOCK_READ. -/
def execBlockRead (sess req addr sel offset count : Nat) (s : State) :=
  finish s (request s sess req .object (.blockRead sess req addr sel offset count) fun s level =>
    unlessRecovery sess req (fun s => blockReadNow s sess req level addr sel offset count) s)

/-! ### BLOCK_WRITE (R470) -/

/-- Whether TOTAL is one the object allows: its length where that is fixed, and at most the buffer. -/
def totalOk (addr total : Nat) : Bool :=
  decide (total ≤ 524288) &&
    match objDef addr with
    | some d => if d.type = .octets then (d.lo ≠ d.hi || decide ((total : Int) = d.hi)) else total == typeSize d.type
    | none => true

/-- The whole value of a block write passes R471 as one write. -/
def blockWhole (s : State) (sess req level addr sel : Nat) (b : List Byte) : State :=
  match entryCheck s level addr sel none b with
  | some n => answer s sess req 0 0 (.nak n 0 0)
  | none =>
    match writeValue sess req addr sel b s with
    | (s, .ack) => answer s sess req 0 0 (.ack [])
    | (s, .nak n) => answer s sess req 0 0 (.nak n 0 (s.detailOf sess addr n))
    | (s, .owe k) => s.owe k sess req 0 0

/-- A chunk to LOAD_DATA is a write to it, from which the 10 s of R86 run. -/
def touchLoad (s : State) (sess addr : Nat) : State :=
  if addr = Obj.LOAD_DATA then
    let loads := s.lib.loads.map fun x => if x.session == some sess then { x with last := s.tick } else x
    { s with lib := { s.lib with loads := loads } }
  else s

/-- Store a chunk: acknowledged, or, where it is the last, answered as the whole write is. -/
def storeChunk (s : State) (sess req level : Nat) (b : BlockBuf) : State :=
  match s.session sess with
  | none => s
  | some (i, x) =>
    if b.bytes.length < b.total then
      answer (touchLoad (s.setSession i { x with block := some { b with tick := s.tick } }) sess b.addr) sess req 0 0 (.ack [])
    else blockWhole (touchLoad (s.setSession i { x with block := none }) sess b.addr) sess req level b.addr b.sel b.bytes

def blockWriteNow (s : State) (sess req level addr sel offset total : Nat) (bytes : List Byte) : State :=
  let nak := fun (s : State) n => answer s sess req 0 0 (.nak n 0 0)
  match s.session sess with
  | none => s
  | some (i, x) =>
    if bytes.isEmpty ∨ 8192 < bytes.length then nak s .format
    else if offset = 0 then
      let s := s.setSession i { x with block := none }
      if !totalOk addr total then nak s .type
      else if total < bytes.length then nak s .range
      else storeChunk s sess req level { addr, sel, total, bytes, tick := s.tick }
    else
      match x.block with
      | none => nak s .range
      | some b =>
        if b.addr = addr ∧ b.sel = sel ∧ b.total = total ∧ b.bytes.length = offset ∧ offset + bytes.length ≤ total then
          storeChunk s sess req level { b with bytes := b.bytes ++ bytes }
        else nak s .range

/-- BLOCK_WRITE. -/
def execBlockWrite (sess req addr sel offset total : Nat) (bytes : List Byte) (s : State) :=
  finish s (parkOwed (request s sess req .object (.blockWrite sess req addr sel offset total bytes) fun s level =>
    blockWriteNow s sess req level addr sel offset total bytes))

end Sys2Proof.Machine
end

