-- ==== Sys2Proof/Machine/Scan.lean ====
section
/-!
DEFINITION. SCAN_BOUNDARY (R228): what ends with a scan and what begins with the next.
-/

namespace Sys2Proof.Machine

open Sys2Proof

/-! ### The scan that ends -/

/-- Overruns of a column (R161): DEGRADED after 16 consecutive scans with one, cleared after 64 without. -/
def overrunScan (s : State) (col : Nat) : State :=
  let c := s.column col
  let c := { c with overRange := false, decisions := [], ended := s.scan, endDec := c.decisions, endOver := c.overRange, overRun := if c.overRange then c.overRun + 1 else 0, cleanRun := if c.overRange then 0 else c.cleanRun + 1 }
  if !c.degraded && decide (16 ≤ c.overRun) then
    raiseA ((s.setColumn col { c with degraded := true }).setObjN Obj.DEGRADED col 1) 0x3001 [.word col]
  else if c.degraded && decide (64 ≤ c.cleanRun) then
    raiseA ((s.setColumn col { c with degraded := false }).setObjN Obj.DEGRADED col 0) 0x3002
      [.word col, .word (s.obj Obj.OVERRUN_COUNT col)]
  else s.setColumn col c

/-- Move the set-point of an element by a reseed, at once and within T_MIN to T_MAX (R147). -/
def reseedElem (s : State) (d : Int) (e : Nat) : State :=
  let x := s.elem e
  let t := clampInt (s.law Obj.T_MIN 0) (s.law Obj.T_MAX 0) (x.t + d)
  s.setElem e { x with t := t, target := if x.target = x.t then t else x.target }

/-- Reseeding of a cell (R147): not in a scan in which a line power of one of its elements is invalid (R234). How Δr is rounded to the
word of t is not stated and is free; that it exceeds RESEED_STEP is exact. A cell whose ratio was not known when its set-point was set
takes the present one as its base. -/
def reseedCell (s : State) (k : Nat) : State :=
  let d := s.law Obj.DARK_LEVEL 0
  if s.linesValid s.scan k && decide (d ≤ (s.linePower k 0).p) && decide (d ≤ (s.linePower k 1).p) then
    match s.ratioNow (2 * k), (s.elem (2 * k)).ratio with
    | some (a, b), some (a', b') =>
      let num := a * b' - a' * b
      if 0 < b ∧ 0 < b' ∧ s.law Obj.RESEED_STEP 0 * (b * b') < 32768 * num.natAbs then
        let dr := openRound 147 (32768 * num) (b * b')
        let dr := if s.cellCross k then -dr else dr
        noteRatio (reseedElem (reseedElem s dr (2 * k)) dr (2 * k + 1)) k
      else s
    | some _, none => noteRatio s k
    | none, _ => s
  else s

/-- Every cell whose elements have left their reset state. -/
def reseedScan (s : State) : State :=
  if s.loopsRun then (s.loops.elems.filter fun e => e.1 % 2 == 0).foldl (fun s e => reseedCell s (cellOf e.1)) s else s

/-! ### Values taken -/

/-- A write of GAIN_MODE is taken (R226). While REF_READY of its bank is 0 the gain stays (R236), and the write is taken up again. -/
def takeGain (s : State) (pd : Nat) : State :=
  let m := s.objN Obj.GAIN_MODE pd
  let x := s.pd pd
  let x := if x.mode = m then x else { x with mode := m, modeAt := s.scan }
  if m = 0 ∨ x.g = m - 1 ∨ !(s.monBank (pd / 512)).ready then s.setPd pd x
  else (s.setPd pd (x.setGain (m - 1) s.scan)).incSat Obj.GAIN_CHANGES (pd / 32)

/-- What the monitor takes at a scan boundary: gain modes, the range limits, and the averaging channels' settings. -/
def monitorTake (s : State) : State :=
  let s := s.mon.gainPend.foldl takeGain { s with mon := { s.mon with gainPend := [] } }
  let s := if s.mon.rangePend then
      { s with mon := { s.mon with rangePend := false, rangeHigh := s.objN Obj.RANGE_HIGH 0, rangeLow := s.objN Obj.RANGE_LOW 0,
                                   rangeHold := s.objN Obj.RANGE_HOLD 0 } } else s
  let s := { s with mon := { s.mon with spa := (List.range 4).foldl (fun m n =>
    mset m n { mget ({} : SetIn) m n with shift := s.objN Obj.SPA_SHIFT n }) s.mon.spa } }
  let s := (s.mon.avgs.filter fun a => a.2.change).foldl (fun s a => avgBoundary s a.1) s
  s.mon.guards.foldl (fun s g => guardFlush s g.1) s

/-- One scan of the set-point slew of an element (R155); a set-point that moves takes the present ratio as its base (R147). -/
def slewElem (s : State) (e : Nat) : State :=
  let x := s.elem e
  let t := slewTo x.t x.target (s.law Obj.SETPOINT_SLEW 0)
  let s' := s.setElem e { x with t := t, tReached := decide (t = x.target) }
  if t = x.t then s' else noteRatio s' (cellOf e)

/-- Elements whose LOOP_ENABLE is now 0 are DISABLED; DISABLED elements that nothing keeps so, and OPEN ones whose LOOP_ENABLE was set to
1, enter ACQUIRE (Table 5.3). -/
def enableScan (s : State) : State :=
  let s := (s.loops.elems.filter fun e => s.law Obj.LOOP_ENABLE e.1 == 0).foldl (fun s e => disableElem s e.1) s
  if s.loopsRun then
    (s.loops.elems.filter fun e => (e.2.state == .disabled || e.2.enabling) && !s.mustDisable e.1).foldl (fun s e =>
      if e.2.state = .disabled then enableElem s e.1
      else if e.2.state = .opened then reacquire s e.1
      else s.setElem e.1 { e.2 with enabling := false }) s
  else s

/-- The set-points and the wraps of every element, while a lobe computes the loops (R310). What wraps do follows the ACTIVE lobe alone
(R317). -/
def elemsScan (s : State) : State :=
  let s := enableScan s
  if !s.loopsRun then s else
  let s := (s.loops.elems.filter fun e => e.2.t != e.2.target || !e.2.tReached).foldl (fun s e => slewElem s e.1) s
  if s.active.isNone then s else
  let ws := s.loops.elems.filter fun e => e.2.wrap.isSome
  ws.foldl (fun s e => wrapResume (wrapScan s e.1) e.1) s

/-! ### Keep-alives (R217) -/

/-- A bank that returns from SAFE keeps the codes it then holds. -/
def keepCodes (s : State) (b : Nat) : State :=
  (List.range 32).foldl (fun s l =>
    let u := chanOf b l
    let n := s.limiterOut u
    let s := if (s.chan u).motion.isSome then noteChange s u else s
    let c := s.chan u
    s.setChan u { c with out := n, target := n, taken := n, accepted := s.tick, motion := none, reached := c.reached && c.target == n })
    (s.setBank b { s.bank b with safeStart := none })

/-- A bank accepts a keep-alive (R217); a safe transition that the ACTIVE lobe commanded while it was SAFE runs on (R519). -/
def acceptKeep (s : State) (b : Nat) : State :=
  let x := s.bank b
  let s := leaveHolding s b
  let s := s.setBank b { s.bank b with hold := .normal, lastKeep := none, commanded := false }
  if x.hold = .safe && !x.commanded then keepCodes s b else s

/-- The ACTIVE lobe's keep-alive write to every bank: the gates that are closed to it refuse it, the others take its claim (R313). -/
def keepAlive (s : State) : State :=
  match s.active with
  | none => s
  | some l =>
    let claim := (s.lobe l).claim
    if claim < s.lobes.gateBase then writeBanks s
    else
      let shut := s.shutBanks claim
      let s := shut.foldl (fun s b =>
        if (s.bank b).lastKeep.isNone then s.setBank b { s.bank b with lastKeep := some s.drv.keepScan } else s) (writeBanks s)
      let s := { s with drv := { s.drv with keepScan := some s.scan } }
      (s.drv.banks.filter fun b => !shut.contains b.1 && (b.2.hold != .normal || b.2.lastKeep.isSome)).foldl
        (fun s b => acceptKeep s b.1) s

/-! ### Loops that resume (R122) -/

/-- Whether a commit no longer keeps an element suspended: its template, or for an element in no wave that of the last wave,
has ended. -/
def Commit.frees (c : Commit) (tick e : Nat) : Bool :=
  match mfind c.elems e with
  | some x =>
    if x.wave.isSome then x.began.any fun b => decide (b + x.d1 + x.d2 ≤ tick)
    else c.state == .settling || (decide (c.nextWave = c.waves) && c.elems.all fun p =>
      p.2.wave != some (c.waves - 1) || p.2.began.any fun b => decide (b + p.2.d1 + p.2.d2 ≤ tick))
  | none => true

/-- Suspended loops enter ACQUIRE; after a park application the VOA loops start with them (R122, R520). -/
def resumeScan (s : State) : State :=
  if s.loopsRun && !s.dev.parkRamp && s.dev.park.isNone then
    let moving := s.com.live.filter fun c => c.state == .applying || c.state == .settling
    let s := (s.loops.elems.filter fun e => e.2.suspended && moving.all fun c => c.frees s.tick e.1).foldl (fun s e =>
      let x : Elem := { s.elem e.1 with suspended := false }
      if x.state = .disabled then s.setElem e.1 x
      else
        let s := s.setElem e.1 (x.toAcquire (s.law Obj.ACQ_STEP 0))
        if x.wrap.isSome then driveElem s e.1 else s) s
    if s.dev.loopsDue then
      (s.loops.voas.filter fun v => v.2.state == .opened).foldl (fun s v => s.setVoa v.1 { v.2 with state := .acquire })
        { s with dev := { s.dev with loopsDue := false } }
    else s
  else s

/-! ### Clockless speed (R503, R504) -/

/-- The capacity of a Spindle (0 to 83) or of Gouge (84) in the scan that ends, and its mean over the latest 1,024 scans (R503, R504). -/
def speedScan (s : State) (n now : Nat) : State :=
  if 84 < n then s
  else
    let l := (now :: mget [] s.mat.speeds n).take 1024
    let s := { s with mat := { s.mat with speeds := mset s.mat.speeds n l } }
    let cap := (openRound 1701 (l.sum : Nat) (l.length : Nat)).toNat
    let s := if n = 84 then s.setObjN Obj.GOUGE_CAPACITY 0 cap
      else (s.setObjN Obj.SPIN_CAPACITY n cap).setObjN Obj.SPIN_CAPACITY_MIN n (min cap (s.objN Obj.SPIN_CAPACITY_MIN n))
    let low := s.mat.speedLow.contains n
    let warn := s.objN Obj.SPEED_WARN 0
    if !low && decide (cap < warn) then
      raiseS { s with mat := { s.mat with speedLow := n :: s.mat.speedLow } } 0xA008 [.word n, .word cap]
    else if low && decide (warn + 10 ≤ cap) then
      raiseS { s with mat := { s.mat with speedLow := s.mat.speedLow.erase n } } 0xA009 [.word n, .word cap]
    else s

/-! ### The boundary -/

/-- The counter of the lobe that is not ACTIVE is loaded at the boundary after a difference (R429). -/
def resyncScan (s : State) : State :=
  if s.time.resyncDue then
    let s := { s with time := { s.time with resyncDue := false } }
    match s.active with
    | some l => (loadCounter s (1 - l)).1
    | none => s
  else s

/-- Grants of generators that have stopped are given back. -/
def generatorGrants (s : State) : State :=
  (s.steady.grants.filter fun g => g.kind == .generator && !g.released && (mfind s.drv.gens g.source).isNone).foldl
    (fun s g => releaseGrant s .generator g.source) s

/-- Grants of host blocks that have been applied, whose heaters stand at their targets, are given back. -/
def hostDriveGrants (s : State) : State :=
  (s.steady.grants.filter fun g => g.kind == .hostDrive && !g.released && s.loops.hostBlocks.isEmpty &&
      g.chans.all fun u => (s.chan u).reached).foldl
    (fun s g => releaseGrant s .hostDrive g.source) s

/-- The first part of a scan boundary: the end of the last scan, what the bus matrix did in it, and what the monitor takes. -/
def scanOpen (s : State) (upsets : List Nat) (traffic : List MatStep) : State :=
  let s := matTraffic (keepLatches s) traffic
  let s := s.loops.cols.foldl (fun s c => overrunScan s c.1) s
  let s := resyncScan (reseedScan s)
  let s := { s with fab := { s.fab with reported := false }, steady := { s.steady with upsets := upsets } }
  monitorTake (s.setObj Obj.SCAN_TIME 0 s.now)

/-- The last part of a scan boundary, when the elements have had theirs: keep-alives, calibration, the heater accounting and the
grants, modes, loops that resume, a park application, the speed sensors and the rings. -/
def scanClose (s : State) (caps : List (Nat × Nat)) : State :=
  let s := generatorGrants (calScan (calValuesScan (keepAlive s)))
  let s := serveQueue (hostDriveGrants (heaterScan s))
  let s := parkStart (resumeScan (loopsBoundary s))
  let s := caps.foldl (fun s c => speedScan s c.1 c.2) s
  closeSpent (ringsScan (syncScan s))

/-- A scan boundary; `traffic` is what the bus matrix did in the scan that ends. -/
def scanBegin (s : State) (caps : List (Nat × Nat)) (upsets : List Nat) (traffic : List MatStep) : State :=
  scanClose (elemsScan (scanOpen s upsets traffic)) caps

/-- SCAN_BOUNDARY. -/
def execScanBoundary (caps : List (Nat × Nat)) (report : ScanReport) (s : State) : Host.Outcome State Fault Refusal :=
  finish s (if s.ticking ∧ s.tick % 256 = 0 then scanBegin s caps report.upsets report.traffic else s)

end Sys2Proof.Machine
end

