-- ==== Sys2Proof/Machine/Dispatch.lean ====
section
/-!
DEFINITION. One arm for every command: each is one direct call of its meaning.
-/

namespace Sys2Proof.Machine

open Sys2Proof

/-- The effect of a command on everything but the queue. -/
def exec (i : Instr) (s : State) : Host.Outcome State Fault Refusal :=
  match i with
  | .resetRelease => Sys2Proof.Machine.execResetRelease s
  | .coldResetInput pin => Sys2Proof.Machine.execColdResetInput pin s
  | .railFault rail mv => Sys2Proof.Machine.execRailFault rail mv s
  | .refclkLost => Sys2Proof.Machine.execRefclkLost s
  | .refclkRestored lossNs => Sys2Proof.Machine.execRefclkRestored lossNs s
  | .safeLoadComplete => Sys2Proof.Machine.execSafeLoadComplete s
  | .booted lobe ok0 ok1 => Sys2Proof.Machine.execBooted lobe ok0 ok1 s
  | .selftestStepDone step failed => Sys2Proof.Machine.execSelftestStepDone step failed s
  | .selftestDone => Sys2Proof.Machine.execSelftestDone s
  | .parkRampEnd => Sys2Proof.Machine.execParkRampEnd s
  | .scanBoundary caps report => Sys2Proof.Machine.execScanBoundary caps report s
  | .sampleDelivery cv pair codeA overA hintA codeB overB hintB => Sys2Proof.Machine.execSampleDelivery cv pair codeA overA hintA codeB overB hintB s
  | .elementEvaluation e => Sys2Proof.Machine.execElementEvaluation e s
  | .outerPeriodEnd e => Sys2Proof.Machine.execOuterPeriodEnd e s
  | .offloadPeriodEnd e => Sys2Proof.Machine.execOffloadPeriodEnd e s
  | .wrapStart e => Sys2Proof.Machine.execWrapStart e s
  | .wrapStalled e => Sys2Proof.Machine.execWrapStalled e s
  | .loopSaturated e => Sys2Proof.Machine.execLoopSaturated e s
  | .voaPeriodEnd o => Sys2Proof.Machine.execVoaPeriodEnd o s
  | .setpoint sess e v => Sys2Proof.Machine.execSetpoint sess e v s
  | .loopEnable sess e v => Sys2Proof.Machine.execLoopEnable sess e v s
  | .voaEnable sess o v => Sys2Proof.Machine.execVoaEnable sess o v s
  | .hostDrive sess recs => Sys2Proof.Machine.execHostDrive sess recs s
  | .hostDriveApply => Sys2Proof.Machine.execHostDriveApply s
  | .funcMode sess n v => Sys2Proof.Machine.execFuncMode sess n v s
  | .modeBoundary n => Sys2Proof.Machine.execModeBoundary n s
  | .fallbackElementLoops => Sys2Proof.Machine.execFallbackElementLoops s
  | .fallbackImageGeneration => Sys2Proof.Machine.execFallbackImageGeneration s
  | .fallbackRefinement => Sys2Proof.Machine.execFallbackRefinement s
  | .fallbackPreEmphasis => Sys2Proof.Machine.execFallbackPreEmphasis s
  | .fallbackPowerArbitration => Sys2Proof.Machine.execFallbackPowerArbitration s
  | .fallbackTimeServo => Sys2Proof.Machine.execFallbackTimeServo s
  | .fallbackCapture => Sys2Proof.Machine.execFallbackCapture s
  | .fallbackClassification => Sys2Proof.Machine.execFallbackClassification s
  | .faultApply sess => Sys2Proof.Machine.execFaultApply sess s
  | .faultMapApply => Sys2Proof.Machine.execFaultMapApply s
  | .pinTestCell sess k => Sys2Proof.Machine.execPinTestCell sess k s
  | .pinTestDone => Sys2Proof.Machine.execPinTestDone s
  | .loadSlot sess slot => Sys2Proof.Machine.execLoadSlot sess slot s
  | .loadClose sess => Sys2Proof.Machine.execLoadClose sess s
  | .loadTimeout sess => Sys2Proof.Machine.execLoadTimeout sess s
  | .eraseSlot sess slot => Sys2Proof.Machine.execEraseSlot sess slot s
  | .revalidate sess slot => Sys2Proof.Machine.execRevalidate sess slot s
  | .findHash sess hash => Sys2Proof.Machine.execFindHash sess hash s
  | .findComplete => Sys2Proof.Machine.execFindComplete s
  | .routeApply sess => Sys2Proof.Machine.execRouteApply sess s
  | .routeDone us => Sys2Proof.Machine.execRouteDone us s
  | .writeBackStart => Sys2Proof.Machine.execWriteBackStart s
  | .writeBackDone => Sys2Proof.Machine.execWriteBackDone s
  | .refineDecideWrite sess b => Sys2Proof.Machine.execRefineDecideWrite sess b s
  | .refineDecideDiscard sess b => Sys2Proof.Machine.execRefineDecideDiscard sess b s
  | .prepare sess req id slot flags => Sys2Proof.Machine.execPrepare sess req id slot flags s
  | .commit sess req id t flags => Sys2Proof.Machine.execCommit sess req id t flags s
  | .cancel sess req id => Sys2Proof.Machine.execCancel sess req id s
  | .prepareTimeout id => Sys2Proof.Machine.execPrepareTimeout id s
  | .commitT id => Sys2Proof.Machine.execCommitT id s
  | .waveStart id w => Sys2Proof.Machine.execWaveStart id w s
  | .templatePhaseEnd id e => Sys2Proof.Machine.execTemplatePhaseEnd id e s
  | .applyingEnd id => Sys2Proof.Machine.execApplyingEnd id s
  | .commitDone id => Sys2Proof.Machine.execCommitDone id s
  | .settleTimeout id => Sys2Proof.Machine.execSettleTimeout id s
  | .peerAbort id t source => Sys2Proof.Machine.execPeerAbort id t source s
  | .slewPeriodBoundary u => Sys2Proof.Machine.execSlewPeriodBoundary u s
  | .spanApply sess => Sys2Proof.Machine.execSpanApply sess s
  | .spanDwellEnd u => Sys2Proof.Machine.execSpanDwellEnd u s
  | .deglitchEnd n => Sys2Proof.Machine.execDeglitchEnd n s
  | .genApply sess => Sys2Proof.Machine.execGenApply sess s
  | .genStartTime g => Sys2Proof.Machine.execGenStartTime g s
  | .readbackComparison b lane sensed => Sys2Proof.Machine.execReadbackComparison b lane sensed s
  | .spareSwitchover b lane => Sys2Proof.Machine.execSpareSwitchover b lane s
  | .spareMapStore => Sys2Proof.Machine.execSpareMapStore s
  | .bankHolding b => Sys2Proof.Machine.execBankHolding b s
  | .driveSafe b => Sys2Proof.Machine.execDriveSafe b s
  | .safeTransitionEnd u => Sys2Proof.Machine.execSafeTransitionEnd u s
  | .safeStore sess => Sys2Proof.Machine.execSafeStore sess s
  | .safeRevert sess => Sys2Proof.Machine.execSafeRevert sess s
  | .safePageStored => Sys2Proof.Machine.execSafePageStored s
  | .refReady mb => Sys2Proof.Machine.execRefReady mb s
  | .refEnable sess mb v => Sys2Proof.Machine.execRefEnable sess mb v s
  | .bankPower sess mb v => Sys2Proof.Machine.execBankPower sess mb v s
  | .gainMode sess pd v => Sys2Proof.Machine.execGainMode sess pd v s
  | .converterCheck cv code => Sys2Proof.Machine.execConverterCheck cv code s
  | .convSubstituted cv => Sys2Proof.Machine.execConvSubstituted cv s
  | .injApply sess => Sys2Proof.Machine.execInjApply sess s
  | .injectionDone cv code overRange => Sys2Proof.Machine.execInjectionDone cv code overRange s
  | .focusStart sess cv => Sys2Proof.Machine.execFocusStart sess cv s
  | .focusStop sess cv => Sys2Proof.Machine.execFocusStop sess cv s
  | .focusEntry cv => Sys2Proof.Machine.execFocusEntry cv s
  | .focusEnded cv => Sys2Proof.Machine.execFocusEnded cv s
  | .spaSample n code => Sys2Proof.Machine.execSpaSample n code s
  | .sppWindowEnd n edges span high => Sys2Proof.Machine.execSppWindowEnd n edges span high s
  | .sppTimeout n => Sys2Proof.Machine.execSppTimeout n s
  | .avgWindowEnd n => Sys2Proof.Machine.execAvgWindowEnd n s
  | .avgConfig sess n len v => Sys2Proof.Machine.execAvgConfig sess n len v s
  | .dpApply sess => Sys2Proof.Machine.execDpApply sess s
  | .dpApplied => Sys2Proof.Machine.execDpApplied s
  | .calApply sess => Sys2Proof.Machine.execCalApply sess s
  | .calStart => Sys2Proof.Machine.execCalStart s
  | .calGrantTimeout => Sys2Proof.Machine.execCalGrantTimeout s
  | .calRunEnd result => Sys2Proof.Machine.execCalRunEnd result s
  | .calResultApply => Sys2Proof.Machine.execCalResultApply s
  | .calAccept sess => Sys2Proof.Machine.execCalAccept sess s
  | .calDiscard sess => Sys2Proof.Machine.execCalDiscard sess s
  | .calAcceptTimeout => Sys2Proof.Machine.execCalAcceptTimeout s
  | .calAbort sess => Sys2Proof.Machine.execCalAbort sess s
  | .calStore sess => Sys2Proof.Machine.execCalStore sess s
  | .calStoreIntervalEnd => Sys2Proof.Machine.execCalStoreIntervalEnd s
  | .calValuesApply sess => Sys2Proof.Machine.execCalValuesApply sess s
  | .templateApply sess => Sys2Proof.Machine.execTemplateApply sess s
  | .grantRelease kind source => Sys2Proof.Machine.execGrantRelease kind source s
  | .heaterBudget sess reserve v => Sys2Proof.Machine.execHeaterBudget sess reserve v s
  | .grantDecideGrant sess seq through => Sys2Proof.Machine.execGrantDecideGrant sess seq through s
  | .grantDecideRefuse sess seq through => Sys2Proof.Machine.execGrantDecideRefuse sess seq through s
  | .steadyReset sess => Sys2Proof.Machine.execSteadyReset sess s
  | .tempConversion n reading => Sys2Proof.Machine.execTempConversion n reading s
  | .stopDrainEnd => Sys2Proof.Machine.execStopDrainEnd s
  | .tempHardCut n reading => Sys2Proof.Machine.execTempHardCut n reading s
  | .flashWritePermitted => Sys2Proof.Machine.execFlashWritePermitted s
  | .tdxMode sess x v => Sys2Proof.Machine.execTdxMode sess x v s
  | .heartbeatSend l => Sys2Proof.Machine.execHeartbeatSend l s
  | .heartbeatReceive l path hb crcOk => Sys2Proof.Machine.execHeartbeatReceive l path hb crcOk s
  | .hbPathFailed q => Sys2Proof.Machine.execHbPathFailed q s
  | .peerLost l => Sys2Proof.Machine.execPeerLost l s
  | .claimBroadcast l => Sys2Proof.Machine.execClaimBroadcast l s
  | .gateFault b => Sys2Proof.Machine.execGateFault b s
  | .writeRefused l b => Sys2Proof.Machine.execWriteRefused l b s
  | .lobeFailover l => Sys2Proof.Machine.execLobeFailover l s
  | .lobeYielded l cause => Sys2Proof.Machine.execLobeYielded l cause s
  | .watchdogExpiry l core => Sys2Proof.Machine.execWatchdogExpiry l core s
  | .lobeSupplyFault l => Sys2Proof.Machine.execLobeSupplyFault l s
  | .counterFault l => Sys2Proof.Machine.execCounterFault l s
  | .digestCompare peer => Sys2Proof.Machine.execDigestCompare peer s
  | .katDone col passA passB => Sys2Proof.Machine.execKatDone col passA passB s
  | .katIntervalEnd l => Sys2Proof.Machine.execKatIntervalEnd l s
  | .diagnosisEnd l pass => Sys2Proof.Machine.execDiagnosisEnd l pass s
  | .diagRetry l => Sys2Proof.Machine.execDiagRetry l s
  | .lobeReset sess l => Sys2Proof.Machine.execLobeReset sess l s
  | .snapshotCapture => Sys2Proof.Machine.execSnapshotCapture s
  | .snapshotReceived crcOk => Sys2Proof.Machine.execSnapshotReceived crcOk s
  | .snapshotLate => Sys2Proof.Machine.execSnapshotLate s
  | .resyncDone l => Sys2Proof.Machine.execResyncDone l s
  | .swapDue => Sys2Proof.Machine.execSwapDue s
  | .swapNow sess => Sys2Proof.Machine.execSwapNow sess s
  | .roleSwapped => Sys2Proof.Machine.execRoleSwapped s
  | .swapSkipped => Sys2Proof.Machine.execSwapSkipped s
  | .lobeDisPin l high => Sys2Proof.Machine.execLobeDisPin l high s
  | .lobeHoldOffline sess l v => Sys2Proof.Machine.execLobeHoldOffline sess l v s
  | .capArm sess b => Sys2Proof.Machine.execCapArm sess b s
  | .capEnd sess b => Sys2Proof.Machine.execCapEnd sess b s
  | .capForce sess b => Sys2Proof.Machine.execCapForce sess b s
  | .captureFrame b => Sys2Proof.Machine.execCaptureFrame b s
  | .capAutoTrigger b => Sys2Proof.Machine.execCapAutoTrigger b s
  | .rearmEnd b => Sys2Proof.Machine.execRearmEnd b s
  | .capRelease sess b seq => Sys2Proof.Machine.execCapRelease sess b seq s
  | .trigInEdge x => Sys2Proof.Machine.execTrigInEdge x s
  | .trigOutPulseEnd x => Sys2Proof.Machine.execTrigOutPulseEnd x s
  | .ringLength sess r v => Sys2Proof.Machine.execRingLength sess r v s
  | .ringRp sess r v => Sys2Proof.Machine.execRingRp sess r v s
  | .pcsLockChange x report => Sys2Proof.Machine.execPcsLockChange x report s
  | .linkDown x => Sys2Proof.Machine.execLinkDown x s
  | .linkUp x => Sys2Proof.Machine.execLinkUp x s
  | .announcementRepeat => Sys2Proof.Machine.execAnnouncementRepeat s
  | .portRevert => Sys2Proof.Machine.execPortRevert s
  | .portEnable sess x v => Sys2Proof.Machine.execPortEnable sess x v s
  | .frameReceive x bytes fcsOk tagOk => Sys2Proof.Machine.execFrameReceive x bytes fcsOk tagOk s
  | .recirculationPass => Sys2Proof.Machine.execRecirculationPass s
  | .classDecideDrop sess seq rxClass through => Sys2Proof.Machine.execClassDecideDrop sess seq rxClass through s
  | .classDecideExvan sess seq rxClass through => Sys2Proof.Machine.execClassDecideExvan sess seq rxClass through s
  | .classDecidePtp sess seq rxClass through => Sys2Proof.Machine.execClassDecidePtp sess seq rxClass through s
  | .classDecideSlow sess seq rxClass through => Sys2Proof.Machine.execClassDecideSlow sess seq rxClass through s
  | .netApply sess => Sys2Proof.Machine.execNetApply sess s
  | .rulesApply sess => Sys2Proof.Machine.execRulesApply sess s
  | .rulesCheckDone => Sys2Proof.Machine.execRulesCheckDone s
  | .rulesRetainEnd => Sys2Proof.Machine.execRulesRetainEnd s
  | .rulesStore sess => Sys2Proof.Machine.execRulesStore sess s
  | .txEnqueue x source len => Sys2Proof.Machine.execTxEnqueue x source len s
  | .txFrameStart x => Sys2Proof.Machine.execTxFrameStart x s
  | .txFrameEnd x => Sys2Proof.Machine.execTxFrameEnd x s
  | .shaperWrite sess n which v => Sys2Proof.Machine.execShaperWrite sess n which v s
  | .txqApply sess => Sys2Proof.Machine.execTxqApply sess s
  | .gateEntryChange x => Sys2Proof.Machine.execGateEntryChange x s
  | .gateApply sess x => Sys2Proof.Machine.execGateApply sess x s
  | .gateListChanged x => Sys2Proof.Machine.execGateListChanged x s
  | .qsample => Sys2Proof.Machine.execQsample s
  | .ptpMessage msg => Sys2Proof.Machine.execPtpMessage msg s
  | .servoUpdate o ts => Sys2Proof.Machine.execServoUpdate o ts s
  | .delayReqSend => Sys2Proof.Machine.execDelayReqSend s
  | .masterLost cause => Sys2Proof.Machine.execMasterLost cause s
  | .timeRate sess r => Sys2Proof.Machine.execTimeRate sess r s
  | .timeReset sess => Sys2Proof.Machine.execTimeReset sess s
  | .ppsInEdge => Sys2Proof.Machine.execPpsInEdge s
  | .ppsInLost => Sys2Proof.Machine.execPpsInLost s
  | .pulseApply sess k => Sys2Proof.Machine.execPulseApply sess k s
  | .pulseEdge k => Sys2Proof.Machine.execPulseEdge k s
  | .launchStart sess l => Sys2Proof.Machine.execLaunchStart sess l s
  | .launchStop sess l => Sys2Proof.Machine.execLaunchStop sess l s
  | .launchInstant l => Sys2Proof.Machine.execLaunchInstant l s
  | .openSession level nonce source uart ip origin => Sys2Proof.Machine.execOpenSession level nonce source uart ip origin s
  | .closeSession sess req => Sys2Proof.Machine.execCloseSession sess req s
  | .echo sess req body => Sys2Proof.Machine.execEcho sess req body s
  | .read sess req entries => Sys2Proof.Machine.execRead sess req entries s
  | .write sess req entries => Sys2Proof.Machine.execWrite sess req entries s
  | .objectWrite sess addr sel v => Sys2Proof.Machine.execObjectWrite sess addr sel v s
  | .blockRead sess req addr sel offset count => Sys2Proof.Machine.execBlockRead sess req addr sel offset count s
  | .blockWrite sess req addr sel offset total bytes => Sys2Proof.Machine.execBlockWrite sess req addr sel offset total bytes s
  | .blockAbandoned sess => Sys2Proof.Machine.execBlockAbandoned sess s
  | .subscribe sess req filter enable code mask => Sys2Proof.Machine.execSubscribe sess req filter enable code mask s
  | .eventFrameSend sess => Sys2Proof.Machine.execEventFrameSend sess s
  | .sessionTimeout sess => Sys2Proof.Machine.execSessionTimeout sess s
  | .sessionClose sess target => Sys2Proof.Machine.execSessionClose sess target s
  | .responseCacheExpiry sess => Sys2Proof.Machine.execResponseCacheExpiry sess s
  | .keyApply sess k => Sys2Proof.Machine.execKeyApply sess k s
  | .keyOverlapEnd k => Sys2Proof.Machine.execKeyOverlapEnd k s
  | .groupSeqReservation => Sys2Proof.Machine.execGroupSeqReservation s
  | .beatTimeout n t written abandoned => Sys2Proof.Machine.execBeatTimeout n t written abandoned s
  | .lockBroken n holdNs => Sys2Proof.Machine.execLockBroken n holdNs s
  | .matrixFault t => Sys2Proof.Machine.execMatrixFault t s
  | .arbReset sess => Sys2Proof.Machine.execArbReset sess s
  | .hbmUe addr initiator => Sys2Proof.Machine.execHbmUe addr initiator s
  | .scrubDone corrected uncorrectable => Sys2Proof.Machine.execScrubDone corrected uncorrectable s
  | .park sess => Sys2Proof.Machine.execPark sess s
  | .drain sess => Sys2Proof.Machine.execDrain sess s
  | .resume sess => Sys2Proof.Machine.execResume sess s
  | .warmReset sess => Sys2Proof.Machine.execWarmReset sess s
  | .coldReset sess => Sys2Proof.Machine.execColdReset sess s
  | .resetDelayEnd => Sys2Proof.Machine.execResetDelayEnd s
  | .parkStore sess slot => Sys2Proof.Machine.execParkStore sess slot s
  | .parkClear sess => Sys2Proof.Machine.execParkClear sess s
  | .configStore sess => Sys2Proof.Machine.execConfigStore sess s
  | .flashRegionDone => Sys2Proof.Machine.execFlashRegionDone s
  | .lifeRecordTimer => Sys2Proof.Machine.execLifeRecordTimer s
  | .fwLoadOpen sess bank => Sys2Proof.Machine.execFwLoadOpen sess bank s
  | .fwVerify sess sigOk => Sys2Proof.Machine.execFwVerify sess sigOk s
  | .fwActivate sess bank => Sys2Proof.Machine.execFwActivate sess bank s
  | .fwConfirm sess => Sys2Proof.Machine.execFwConfirm sess s
  | .fwConfirmTimeEnd => Sys2Proof.Machine.execFwConfirmTimeEnd s
  | .fwRollback sess => Sys2Proof.Machine.execFwRollback sess s
  | .fwTrialTimeout l => Sys2Proof.Machine.execFwTrialTimeout l s
  | .refclkReturns => Sys2Proof.Machine.execRefclkReturns s
  | .lobeLocalMemoryError l => Sys2Proof.Machine.execLobeLocalMemoryError l s
  | .sramUe addr initiator => Sys2Proof.Machine.execSramUe addr initiator s
  | .testAccessPortInstruction ir => Sys2Proof.Machine.execTestAccessPortInstruction ir s

end Sys2Proof.Machine
end

