-- ==== Sys2Proof/Machine/Lanes.lean ====
section
/-!
DEFINITION. What an idle step does: one tick of the strobe, and the requests that waited for their turn in a lane (R464) or for
an ACTIVE lobe (R390, R461) (log entries 4 and 53).
-/

namespace Sys2Proof.Machine

open Sys2Proof

/-- The commands that wait in lanes: those that a session or a group frame sends (R464). -/
def requested (c : Instr) : Bool :=
  match c with
  | .objectWrite .. | .hostDrive .. | .grantDecideGrant .. | .grantDecideRefuse .. | .classDecideDrop .. | .classDecideExvan ..
  | .classDecidePtp .. | .classDecideSlow .. | .openSession .. => true
  | c => (reqOf c).isSome

/-- The state after a command that waited in a lane. -/
def runWaiting (c : Instr) (s : State) : State :=
  match requested c, exec c s with
  | true, .next t => t
  | _, _ => s

/-- A session with a lane replaced. -/
def Session.putLane (x : Session) (lane : Lane) (l : List Instr) : Session :=
  match lane with
  | .object => { x with objectLane := l }
  | .commit => { x with commitLane := l }

/-- Carry out the oldest request of a lane of session entry i, if the lane is free. The time of the session's last frame stays
that of its frames. -/
def serveLane (s : State) (i : Nat) (lane : Lane) : State :=
  match mfind s.ex.sessions i with
  | none => s
  | some x =>
    match x.waiting lane with
    | [] => s
    | c :: rest =>
      if s.laneBusy lane x.num then s
      else
        let t := runWaiting c (s.setSession i (x.putLane lane []))
        match mfind t.ex.sessions i with
        | some y =>
          if y.num = x.num then t.setSession i { y.putLane lane (y.waiting lane ++ rest) with lastFrame := x.lastFrame } else t
        | none => t

/-- Carry out the oldest request of the lane of group requests and openings, once a lobe is ACTIVE. -/
def serveGroupLane (s : State) : State :=
  match s.ex.groupLane with
  | [] => s
  | c :: rest =>
    if s.active.isNone then s
    else
      let t := runWaiting c { s with ex := { s.ex with groupLane := [] } }
      { t with ex := { t.ex with groupLane := t.ex.groupLane ++ rest } }

/-- Every lane, one request each. -/
def serveLanes (s : State) : State :=
  let s := s.ex.sessions.foldl (fun s p => serveLane (serveLane s p.1 .object) p.1 .commit) s
  serveGroupLane s

/-- What the block does by itself in one tick of the strobe. -/
def idleTick (s : State) : State :=
  serveLanes (serveClasses (tickOnce s))

end Sys2Proof.Machine
end

