-- ==== Sys2Proof/Machine/Parts.lean ====
section
/-!
DEFINITION. Which components of State a command may change: the components by name, the relation Frame, and for every command the
list of its own.
-/

namespace Sys2Proof.Machine

open Sys2Proof

/-- HBM is in its canonical form: addresses rise strictly, and no listed byte equals what an unlisted one reads as. -/
def State.memOk (s : State) : Prop := Memory.wf s.hbm = true

/-- The components of State beside the queue of waiting commands, and the event log (part of `ex`) on its own. -/
inductive Comp
  | tick | objs | octs | staged | stagedOcts | hbm | dev | ex | funcs | lobes | time | sorus
  | drv | steady | therm | loops | mon | cal | fab | lib | com | net | mat | log
  deriving DecidableEq, Repr

/-- The log of the second state is the newest 4,096 of some added records and the log of the first (R476). -/
def State.logged (s t : State) : Prop := s.ex.log.length ≤ 4096 → ∃ added, t.ex.log = (added ++ s.ex.log).take 4096

/-- A component is the same in two states; the event log at most gains records and keeps its newest. -/
def Comp.same (s t : State) : Comp → Prop
  | .tick => t.tick = s.tick
  | .objs => t.objs = s.objs
  | .octs => t.octs = s.octs
  | .staged => t.staged = s.staged
  | .stagedOcts => t.stagedOcts = s.stagedOcts
  | .hbm => t.hbm = s.hbm
  | .dev => t.dev = s.dev
  | .ex => t.ex = s.ex
  | .funcs => t.funcs = s.funcs
  | .lobes => t.lobes = s.lobes
  | .time => t.time = s.time
  | .sorus => t.sorus = s.sorus
  | .drv => t.drv = s.drv
  | .steady => t.steady = s.steady
  | .therm => t.therm = s.therm
  | .loops => t.loops = s.loops
  | .mon => t.mon = s.mon
  | .cal => t.cal = s.cal
  | .fab => t.fab = s.fab
  | .lib => t.lib = s.lib
  | .com => t.com = s.com
  | .net => t.net = s.net
  | .mat => t.mat = s.mat
  | .log => s.logged t

/-- All components. -/
def Comp.all : List Comp :=
  [.tick, .objs, .octs, .staged, .stagedOcts, .hbm, .dev, .ex, .funcs, .lobes, .time, .sorus,
   .drv, .steady, .therm, .loops, .mon, .cal, .fab, .lib, .com, .net, .mat, .log]

/-- All components but those named. -/
def Comp.allBut (l : List Comp) : List Comp := Comp.all.filter fun c => !l.contains c

/-- From the first state to the second at most the components named change, and the log only gains records unless it is named. -/
def Frame (m : List Comp) (s t : State) : Prop := ∀ c, c ∈ m ∨ c.same s t

/-- Every byte of HBM reads the same. -/
def sameMemory (s t : State) : Prop := ∀ a, memByte t.hbm a = memByte s.hbm a

/-- Every byte of HBM outside these slots reads the same. -/
def sameOutside (slots : List Nat) (s t : State) : Prop :=
  ∀ a, (∀ n ∈ slots, a < slotBase n ∨ slotBase n + slotBytes ≤ a) → memByte t.hbm a = memByte s.hbm a

/-- The slot whose write-back runs. -/
def State.writingSlot (s : State) : List Nat := (s.lib.writing.map (·.slot)).toList

/-- The slots a park application may store to: PARK_SLOT, and that of the write-back it waits for (R99, R520). -/
def State.parkSlots (s : State) : List Nat := s.objN Obj.PARK_SLOT 0 :: s.writingSlot

/-- The slot that a write of an object names, where its effect may store to that slot. -/
def slotNamed (addr : Nat) (v : Int) : List Nat :=
  if addr = Obj.LOAD_SLOT ∨ addr = Obj.ERASE_SLOT ∨ addr = Obj.REVALIDATE ∨ addr = Obj.PARK_SLOT then [v.toNat] else []

/-- The bytes of a block write so far, with those of one more chunk. -/
def State.blockSoFar (s : State) (sess offset : Nat) (bytes : List Byte) : List Byte :=
  if offset = 0 then bytes else (((s.session sess).bind (·.2.block)).map (·.bytes)).getD [] ++ bytes

/-- The slot named by the value that bytes give an object. -/
def slotOfBytes (addr : Nat) (b : List Byte) : List Nat :=
  match objDef addr with
  | some d => slotNamed addr (valueOf d.type b)
  | none => []

/-- The slots a command may store to: those of the commits it revalidates (R132), of the write-back it ends (R99) and of the load,
the search, the route request, the PREPARE or the park application it carries on. -/
def storeSlots (c : Instr) (s : State) : List Nat :=
  match c with
  | .loadSlot .. | .eraseSlot .. | .routeApply .. | .writeBackDone | .beatTimeout .. | .hbmUe .. | .lobeFailover .. | .roleSwapped => s.writingSlot
  | .revalidate _ slot => [slot.toNat]
  | .findComplete => s.lib.slots.map (·.1)
  | .routeDone _ => (s.lib.route.map (·.slot)).toList
  | .prepare _ _ _ slot _ => slot :: s.writingSlot
  | .selftestStepDone .. | .selftestDone | .park .. | .resume .. => s.parkSlots
  | .readbackComparison .. | .converterCheck .. | .injectionDone .. | .convSubstituted .. | .loopSaturated .. | .faultMapApply =>
    s.com.live.map (·.slot)
  | .objectWrite _ addr _ v => slotNamed addr v ++ s.parkSlots
  | .write _ _ entries =>
    (entries.flatMap fun e => slotOfBytes e.addr e.value) ++ s.lib.loads.map (·.slot) ++ s.parkSlots
  | .blockWrite sess _ addr _ offset _ bytes =>
    slotOfBytes addr (s.blockSoFar sess offset bytes) ++ s.lib.loads.map (·.slot) ++ s.parkSlots
  | _ => []

/-- What a write may change beside the components of `writeTouches`, by the chapter of the object's address (Table 16.11). -/
def groupTouches (addr : Nat) : List Comp :=
  match addr / 65536 with
  | 0x10 | 0x21 | 0x2A => [.funcs]
  | 0x12 | 0x25 | 0x34 => [.cal]
  | 0x20 => [.fab]
  | 0x24 | 0x26 => [.mon]
  | 0x27 => [.mon, .cal]
  | 0x28 => [.therm, .mon, .cal, .com]
  | 0x29 => [.time, .com]
  | 0x30 | 0x32 => [.net]
  | 0x31 => [.cal, .net]
  | 0x33 => [.time, .net]
  | 0x36 => [.mon, .cal, .com]
  | _ => []

/-- What a write of an object may change: objects, the answer and its events, the image store and a park application that an
owed command waits for, and what its chapter owns. -/
def writeTouches (addr : Nat) : List Comp :=
  [.objs, .octs, .staged, .stagedOcts, .hbm, .dev, .ex, .lobes, .sorus, .drv, .steady, .loops, .lib, .mat] ++ groupTouches addr

/-- The components a command may change: its unit's own, and those of what it calls on (events, answers, grants, stores). A
command whose list lacks `.hbm` stores nothing in HBM. -/
def touches (i : Instr) : List Comp :=
  match i with
  | .resetRelease =>
    [.tick, .objs, .dev, .ex, .sorus, .mon]
  | .coldResetInput .. | .refclkRestored .. | .resetDelayEnd =>
    Comp.all
  | .railFault .. | .refclkLost | .stopDrainEnd =>
    [.objs, .dev, .ex, .lobes, .sorus, .drv, .steady, .loops, .mon, .cal, .lib, .com, .mat]
  | .safeLoadComplete =>
    [.objs, .dev, .ex, .sorus, .drv]
  | .booted .. | .resyncDone .. =>
    [.objs, .dev, .ex, .lobes, .sorus, .com]
  | .selftestStepDone .. =>
    [.objs, .octs, .hbm, .dev, .ex, .funcs, .lobes, .time, .sorus, .steady, .mon, .cal, .lib, .com, .net, .mat]
  | .selftestDone | .park .. | .resume .. =>
    [.objs, .hbm, .dev, .ex, .lobes, .sorus, .drv, .steady, .loops, .lib, .mat]
  | .parkRampEnd | .grantRelease .. =>
    [.objs, .dev, .ex, .sorus, .steady]
  | .scanBoundary .. =>
    Comp.allBut [.tick, .hbm, .therm, .net, .log]
  | .sampleDelivery .. =>
    [.objs, .dev, .ex, .lobes, .sorus, .drv, .steady, .loops, .mon, .cal]
  | .elementEvaluation .. =>
    [.ex, .lobes, .sorus, .drv, .loops, .mon, .cal]
  | .outerPeriodEnd .. | .spaSample .. | .sppWindowEnd .. | .sppTimeout .. =>
    [.objs, .ex, .sorus, .loops, .mon]
  | .offloadPeriodEnd .. =>
    [.objs, .dev, .ex, .funcs, .lobes, .sorus, .drv, .steady, .loops]
  | .wrapStart .. =>
    [.ex, .sorus, .loops]
  | .wrapStalled .. =>
    [.objs, .ex, .sorus, .loops]
  | .loopSaturated .. | .faultMapApply =>
    [.objs, .hbm, .dev, .ex, .sorus, .steady, .loops, .cal, .fab, .lib, .com, .mat]
  | .voaPeriodEnd .. =>
    [.objs, .ex, .lobes, .sorus, .drv, .loops]
  | .setpoint .. | .loopEnable .. | .voaEnable .. =>
    [.objs, .ex, .sorus, .loops, .lib]
  | .hostDrive .. =>
    [.objs, .dev, .ex, .sorus, .steady, .loops, .lib]
  | .hostDriveApply =>
    [.ex, .lobes, .sorus, .drv, .loops]
  | .funcMode .. | .fallbackImageGeneration | .fallbackRefinement =>
    [.objs, .ex, .funcs, .sorus, .lib]
  | .modeBoundary .. | .fallbackElementLoops =>
    [.objs, .dev, .ex, .funcs, .sorus, .steady, .loops]
  | .fallbackPreEmphasis =>
    [.ex, .cal]
  | .fallbackPowerArbitration =>
    [.objs, .dev, .ex, .funcs, .lobes, .sorus, .drv, .steady, .mon, .cal, .lib, .com]
  | .fallbackTimeServo | .servoUpdate .. | .ppsInEdge =>
    [.objs, .ex, .funcs, .time, .sorus, .net]
  | .fallbackCapture | .rearmEnd .. =>
    [.objs, .octs, .staged, .stagedOcts, .ex, .funcs, .sorus]
  | .fallbackClassification | .announcementRepeat =>
    [.ex, .net]
  | .faultApply .. | .pinTestCell .. =>
    [.objs, .ex, .sorus, .fab, .lib]
  | .pinTestDone =>
    [.objs, .ex, .sorus, .fab]
  | .loadSlot .. | .eraseSlot .. | .revalidate .. | .findComplete | .routeDone .. | .writeBackDone | .beatTimeout .. =>
    [.objs, .hbm, .ex, .sorus, .lib, .mat]
  | .loadClose .. | .findHash .. | .refineDecideWrite .. | .refineDecideDiscard .. | .capEnd .. | .capForce ..
  | .capRelease .. | .ringLength .. | .ringRp .. | .closeSession .. | .echo .. | .read .. | .blockRead .. | .subscribe ..
  | .eventFrameSend .. | .sessionTimeout .. | .sessionClose .. | .keyOverlapEnd .. =>
    [.objs, .ex, .sorus, .lib]
  | .loadTimeout .. =>
    [.ex, .lib]
  | .routeApply .. =>
    [.objs, .octs, .staged, .stagedOcts, .hbm, .ex, .funcs, .sorus, .lib, .mat]
  | .writeBackStart =>
    [.objs, .ex, .lib]
  | .prepare .. =>
    [.objs, .hbm, .dev, .ex, .funcs, .sorus, .steady, .cal, .lib, .com, .mat]
  | .commit .. =>
    [.objs, .dev, .ex, .funcs, .sorus, .steady, .lib, .com]
  | .cancel .. | .prepareTimeout .. | .peerAbort .. =>
    [.objs, .dev, .ex, .sorus, .steady, .lib, .com, .mat]
  | .commitT .. =>
    [.objs, .dev, .ex, .funcs, .lobes, .sorus, .drv, .steady, .loops, .mon, .cal, .fab, .lib, .com, .mat]
  | .waveStart .. | .templatePhaseEnd .. =>
    [.ex, .lobes, .drv, .com]
  | .applyingEnd .. =>
    [.objs, .ex, .sorus, .com]
  | .commitDone .. | .settleTimeout .. =>
    [.objs, .dev, .ex, .funcs, .sorus, .steady, .cal, .lib, .com, .mat]
  | .slewPeriodBoundary .. | .spanDwellEnd .. | .deglitchEnd .. | .genStartTime .. | .bankHolding .. | .safeTransitionEnd .. =>
    [.ex, .drv]
  | .spanApply .. =>
    [.objs, .octs, .staged, .stagedOcts, .dev, .ex, .lobes, .sorus, .drv, .steady, .loops, .lib]
  | .genApply .. =>
    [.objs, .octs, .staged, .stagedOcts, .dev, .ex, .lobes, .sorus, .drv, .steady, .lib]
  | .readbackComparison .. | .converterCheck .. | .injectionDone .. =>
    [.objs, .hbm, .dev, .ex, .lobes, .sorus, .drv, .steady, .loops, .mon, .cal, .fab, .lib, .com, .mat]
  | .spareSwitchover .. =>
    [.ex, .drv, .cal]
  | .spareMapStore =>
    [.objs, .dev, .ex, .sorus, .drv, .cal]
  | .driveSafe .. =>
    [.objs, .ex, .sorus, .drv]
  | .safeStore .. =>
    [.objs, .staged, .dev, .ex, .sorus, .drv, .steady, .cal, .lib]
  | .safeRevert .. =>
    [.objs, .dev, .ex, .sorus, .drv, .steady, .cal, .lib]
  | .safePageStored =>
    [.objs, .dev, .ex, .sorus, .drv, .cal, .lib, .com]
  | .refReady .. =>
    [.objs, .ex, .mon]
  | .refEnable .. | .bankPower .. | .gainMode .. | .avgConfig .. | .dpApply .. =>
    [.objs, .ex, .sorus, .mon, .lib]
  | .convSubstituted .. =>
    [.objs, .staged, .stagedOcts, .hbm, .dev, .ex, .sorus, .steady, .loops, .mon, .cal, .fab, .lib, .com, .mat]
  | .injApply .. | .focusStart .. | .focusStop .. =>
    [.objs, .octs, .staged, .stagedOcts, .ex, .sorus, .mon, .lib]
  | .focusEntry .. =>
    [.ex, .mon]
  | .focusEnded .. | .avgWindowEnd .. =>
    [.objs, .ex, .sorus, .mon]
  | .dpApplied =>
    [.objs, .octs, .staged, .stagedOcts, .ex, .sorus, .mon, .cal]
  | .calApply .. =>
    [.objs, .octs, .staged, .stagedOcts, .ex, .sorus, .cal, .lib]
  | .calStart =>
    [.objs, .staged, .stagedOcts, .dev, .ex, .funcs, .sorus, .drv, .steady, .mon, .cal]
  | .calGrantTimeout | .calRunEnd .. =>
    [.objs, .dev, .ex, .lobes, .sorus, .drv, .steady, .mon, .cal]
  | .calResultApply =>
    [.objs, .octs, .staged, .stagedOcts, .ex, .lobes, .sorus, .drv, .loops, .mon, .cal]
  | .calAccept .. | .calDiscard .. =>
    [.objs, .dev, .ex, .sorus, .steady, .cal, .lib]
  | .calAcceptTimeout =>
    [.objs, .dev, .ex, .sorus, .steady, .cal]
  | .calAbort .. | .steadyReset .. =>
    [.objs, .dev, .ex, .lobes, .sorus, .drv, .steady, .mon, .cal, .lib]
  | .calStore .. | .rulesStore .. | .parkStore .. | .parkClear .. | .configStore .. | .fwActivate .. | .fwConfirm ..
  | .fwRollback .. =>
    [.objs, .dev, .ex, .sorus, .cal, .lib]
  | .calStoreIntervalEnd | .groupSeqReservation | .lifeRecordTimer | .fwConfirmTimeEnd | .fwTrialTimeout .. =>
    [.objs, .dev, .ex, .sorus, .cal]
  | .calValuesApply .. =>
    [.objs, .ex, .sorus, .cal, .lib]
  | .templateApply .. =>
    [.objs, .octs, .staged, .stagedOcts, .ex, .lobes, .sorus, .drv, .loops, .mon, .cal, .lib]
  | .heaterBudget .. =>
    [.objs, .ex, .sorus, .steady, .lib]
  | .grantDecideGrant .. | .grantDecideRefuse .. =>
    [.objs, .dev, .ex, .lobes, .sorus, .drv, .steady, .mon, .cal, .lib, .com]
  | .tempConversion .. =>
    [.objs, .dev, .ex, .lobes, .sorus, .drv, .steady, .therm, .mon, .cal, .lib, .com, .mat]
  | .tempHardCut .. =>
    [.objs, .dev, .ex, .lobes, .sorus, .drv, .steady, .therm, .loops, .mon, .cal, .lib, .com, .mat]
  | .flashWritePermitted =>
    [.objs, .dev, .ex, .sorus, .drv, .therm, .cal]
  | .tdxMode .. =>
    [.objs, .ex, .sorus, .therm, .lib]
  | .heartbeatSend .. | .katIntervalEnd .. | .diagRetry .. | .swapDue =>
    [.ex, .lobes]
  | .heartbeatReceive .. =>
    [.objs, .dev, .ex, .lobes, .time, .sorus, .cal, .com, .mat]
  | .hbPathFailed .. | .gateFault .. | .digestCompare .. | .snapshotLate | .swapSkipped =>
    [.objs, .ex, .lobes, .sorus]
  | .peerLost .. =>
    [.objs, .dev, .ex, .lobes, .sorus]
  | .claimBroadcast .. | .writeRefused .. =>
    [.objs, .dev, .ex, .lobes, .time, .sorus, .com]
  | .lobeFailover .. =>
    Comp.allBut [.tick, .octs, .staged, .stagedOcts, .therm, .log]
  | .lobeYielded .. | .counterFault .. | .diagnosisEnd .. =>
    [.objs, .dev, .ex, .lobes, .time, .sorus, .cal, .com]
  | .watchdogExpiry .. | .lobeSupplyFault .. | .katDone .. | .lobeLocalMemoryError .. =>
    [.objs, .dev, .ex, .lobes, .sorus, .cal, .com]
  | .lobeReset .. | .lobeHoldOffline .. =>
    [.objs, .dev, .ex, .lobes, .time, .sorus, .lib, .com, .mat]
  | .snapshotCapture =>
    [.objs, .ex, .lobes, .sorus, .loops]
  | .snapshotReceived .. =>
    [.objs, .ex, .lobes, .sorus, .mat]
  | .swapNow .. =>
    [.objs, .ex, .lobes, .sorus, .lib]
  | .roleSwapped =>
    [.objs, .hbm, .dev, .ex, .lobes, .time, .sorus, .drv, .steady, .loops, .mon, .cal, .lib, .com, .mat]
  | .lobeDisPin .. =>
    [.objs, .dev, .ex, .lobes, .time, .sorus, .com, .mat]
  | .capArm .. =>
    [.objs, .octs, .staged, .stagedOcts, .ex, .funcs, .sorus, .lib]
  | .captureFrame .. | .trigInEdge .. | .ppsInLost | .openSession .. | .blockAbandoned .. =>
    [.objs, .ex, .sorus]
  | .capAutoTrigger .. | .trigOutPulseEnd .. =>
    [.ex, .sorus]
  | .pcsLockChange .. | .gateEntryChange .. | .qsample =>
    [.objs, .ex, .net]
  | .linkDown .. | .portRevert | .launchInstant .. =>
    [.objs, .ex, .time, .sorus, .net]
  | .linkUp .. | .txEnqueue .. | .txFrameStart .. =>
    [.objs, .ex, .sorus, .net]
  | .portEnable .. | .recirculationPass | .classDecideDrop .. | .classDecideExvan .. | .classDecidePtp ..
  | .classDecideSlow .. | .rulesApply .. | .rulesCheckDone | .rulesRetainEnd | .shaperWrite .. =>
    [.objs, .ex, .sorus, .lib, .net]
  | .frameReceive .. =>
    [.objs, .ex, .funcs, .sorus, .lib, .net]
  | .netApply .. | .txqApply .. =>
    [.objs, .octs, .staged, .stagedOcts, .ex, .sorus, .lib, .net]
  | .txFrameEnd .. =>
    [.objs, .octs, .staged, .stagedOcts, .ex, .sorus, .net]
  | .gateApply .. =>
    [.objs, .staged, .stagedOcts, .ex, .sorus, .lib, .net]
  | .gateListChanged .. =>
    [.objs, .octs, .ex, .sorus, .net]
  | .ptpMessage .. =>
    [.objs, .octs, .ex, .time, .sorus, .net]
  | .delayReqSend | .pulseEdge .. =>
    [.ex, .time]
  | .masterLost .. =>
    [.objs, .octs, .ex, .time, .sorus]
  | .timeRate .. | .launchStop .. =>
    [.objs, .ex, .time, .sorus, .lib]
  | .timeReset .. =>
    [.objs, .ex, .time, .sorus, .lib, .net]
  | .pulseApply .. | .launchStart .. =>
    [.objs, .octs, .staged, .stagedOcts, .ex, .time, .sorus, .lib]
  | .responseCacheExpiry .. =>
    [.ex]
  | .keyApply .. =>
    [.objs, .staged, .stagedOcts, .dev, .ex, .sorus, .cal, .lib]
  | .lockBroken .. | .scrubDone .. | .sramUe .. =>
    [.objs, .ex, .sorus, .mat]
  | .matrixFault .. =>
    [.objs, .dev, .ex, .sorus, .mat]
  | .arbReset .. =>
    [.objs, .dev, .ex, .sorus, .lib, .mat]
  | .hbmUe .. =>
    [.objs, .octs, .hbm, .dev, .ex, .lobes, .sorus, .drv, .loops, .mon, .cal, .lib, .com, .mat]
  | .drain .. =>
    [.objs, .dev, .ex, .lobes, .sorus, .drv, .steady, .mon, .cal, .lib, .com, .mat]
  | .warmReset .. | .coldReset .. | .fwLoadOpen .. | .fwVerify .. =>
    [.objs, .dev, .ex, .sorus, .lib]
  | .flashRegionDone =>
    [.objs, .dev, .ex, .lobes, .time, .sorus, .cal, .lib, .com, .mat]
  | .refclkReturns =>
    [.objs, .dev, .ex, .time, .sorus, .drv]
  | .testAccessPortInstruction .. =>
    [.dev, .ex]
  | .objectWrite _ addr _ _ | .blockWrite _ _ addr _ _ _ _ =>
    writeTouches addr
  | .write _ _ entries =>
    writeTouches 0 ++ entries.flatMap fun e => groupTouches e.addr

end Sys2Proof.Machine
end

