-- ==== Sys2Proof/Safety.lean ====
section
/-!
DEFINITION. The words the statements use: what a safe run of the block keeps, when the block takes a host's request at once, and what it answers.
-/

namespace Sys2Proof.Machine

open Sys2Proof

/-- The event log never holds more than its newest 4,096 records (R476). -/
def State.logBounded (s : State) : Prop := s.ex.log.length ≤ 4096

/-- The outcome of a step is a next state. -/
def advances (o : Host.Outcome State Fault Refusal) : Prop := ∃ t, o = .next t

/-! ### Host requests -/

/-- A session whose next request is carried out at once (R464, R390): open, nothing waiting or owed in its object lane, SEQs
left, a lobe ACTIVE, and the device not in recovery mode. -/
def State.ready (s : State) (sess : Nat) : Bool :=
  match s.session sess with
  | some (_, x) =>
    x.objectLane.isEmpty && decide (x.txSeq + 1 < u32Max) && s.active.isSome && !(s.ex.owed.any fun o => o.sess == sess) &&
      !s.recovery
  | none => false

/-- The same for the commit lane. -/
def State.readyCommit (s : State) (sess : Nat) : Bool :=
  match s.session sess with
  | some (_, x) =>
    x.commitLane.isEmpty && decide (x.txSeq + 1 < u32Max) && s.active.isSome && !(s.com.held.any fun h => h.sess == sess) &&
      !s.recovery
  | none => false

/-- A REQ_ID that neither the response cache nor a lane of the session holds (R465). -/
def State.newReq (s : State) (sess req : Nat) : Bool :=
  match s.session sess with
  | some (_, x) => !(x.cache.any fun e => e.req == req) && !s.inLane x req
  | none => false

/-- A write of a numeric object that a ready session sends and that passes the checks of Table 16.7 (R471). -/
def State.accepts (s : State) (sess addr sel : Nat) (v : Int) : Bool :=
  s.ready sess && match s.session sess with
    | some (_, x) => (writeCheck s x.level addr sel v).isNone
    | none => false

/-- The same for an OCTETS object. -/
def State.acceptsOctets (s : State) (sess addr sel : Nat) : Bool :=
  s.ready sess && match s.session sess with
    | some (_, x) => (octetsCheck s x.level addr sel).isNone
    | none => false

/-- The newest answer sent is this one, under some SEQ. -/
def State.answered (s : State) (sess req addr sel : Nat) (r : Reply) : Prop :=
  ∃ seq, s.ex.out.head? = some { sess, req, addr, sel, seq, unsolicited := false, reply := r }

/-- A store of the flash runs or waits for its turn (R526). -/
def State.storing (s : State) (k : StoreKind) : Prop :=
  (∃ st, s.dev.store = some st ∧ st.kind = k) ∨ k ∈ s.dev.storeQueue

/-- A park application waits for its scan boundary, with the slot its image is in, or at a boundary has begun: device state PARKED,
ramps running (R520). -/
def parkUnderway (s t : State) : Prop :=
  (s.tick % 256 ≠ 0 → ∃ p, t.dev.park = some p ∧ p.slot = s.objN Obj.PARK_SLOT 0) ∧
  (s.tick % 256 = 0 → t.dev.state = .parked ∧ t.dev.parkRamp = true ∧ t.dev.park = none)

/-- The commit log's ring holds no newer commit's entry in the place of this one (R134). -/
def State.inLog (s : State) (c : Commit) : Bool := (mfind s.com.log c.logIndex).all fun e => e.id == c.id

/-- The newest record of the event log has this code and carries these items. -/
def State.lastEvent (s : State) (code : Nat) (data : List EvItem) : Prop :=
  ∃ e, s.ex.log.head? = some e ∧ e.code = code ∧ e.data = data

end Sys2Proof.Machine
end

