-- ==== Sys2Proof/Certificates/Slice0/Obligations.lean ====
section
/-!
DEFINITION. The statements about the model, for the provers. Each says in its docstring which rule of spec/ it formalises, or which
log entry a clause of it rests on. A clause about a command ends in the next state the command answers and what that state holds.
-/

open Sys2Proof Sys2Proof.Machine

/-- A step runs the command at the front of the queue on the state with the rest of the queue. -/
def Obligations.StepRunsFront : Prop :=
  ∀ (c : Instr) (rest : List Instr) (s : State),
    step { s with pending := c :: rest } = exec c { s with pending := rest }

/-- Every command completes: it answers a next state, whose queue is the one it was given. -/
def Obligations.EveryCommandCompletes : Prop :=
  ∀ (c : Instr) (s : State), ∃ t, exec c s = .next t ∧ t.pending = s.pending

/-- With no command waiting a step is one tick of the strobe (the model's choice, log entry 4): where no lobe is ACTIVE, or no
session is open and nothing waits in the group lane, the receive classes and the slow path (log entry 53), only the tick count and
the time counters change: while the clock runs and the device is not OFF the tick count rises by one and each lobe's counter by
ADDEND (R423, R426), and the rest of the time record is as it was. -/
def Obligations.IdleStepIsATick : Prop :=
  ∀ s : State, s.pending = [] →
    (s.active = none ∨ (s.ex.sessions = [] ∧ s.ex.groupLane = [] ∧ s.net.classes = [] ∧ s.net.slow = [])) →
    ∃ t, step s = .next t ∧ t.tick = (if s.dev.refclkLost = true ∨ s.dev.state = .off then s.tick else s.tick + 1) ∧
      t.time = { s.time with ctr := if s.dev.refclkLost = true ∨ s.dev.state = .off then s.time.ctr else
        ⟨s.time.ctr.a.advance (s.objN Obj.ADDEND 0), s.time.ctr.b.advance (s.objN Obj.ADDEND 0)⟩ } ∧
      t.pending = [] ∧ Frame [.tick, .time] s t

/-- Each command changes only the components of State that `touches` names for it, for every state and operands: a write of an object
those that its chapter owns (`writeTouches`). Where that names a cold reset: RESET_DELAY_END changes nothing but by a reset that is due,
and REFCLK_RESTORED, for a device held from no state before PARKED, keeps its tick, its image store, its network side and its functions. -/
def Obligations.CommandsTouchOnlyTheirParts : Prop :=
  (∀ (c : Instr) (s t : State), exec c s = .next t → Frame (touches c) s t) ∧
  (∀ (s t : State), (∀ k t0, s.dev.resetDue = some (k, t0) → s.elapsed t0 10000000 = false) → exec .resetDelayEnd s = .next t →
    Frame [.ex] s t) ∧
  (∀ (lossNs : Nat) (s t : State), s.dev.heldFrom ≠ .boot → s.dev.heldFrom ≠ .selftest → exec (.refclkRestored lossNs) s = .next t →
    Frame [.objs, .dev, .ex, .lobes, .sorus, .drv, .steady, .loops, .mon, .cal, .lib, .com, .mat] s t)

/-- A command whose list of components lacks HBM leaves every byte of HBM as it was; every other but a cold reset leaves as it was
every byte outside the slots that `storeSlots` computes for it. -/
def Obligations.StorelessCommandsKeepMemory : Prop :=
  (∀ (c : Instr) (s t : State), .hbm ∉ touches c → exec c s = .next t → sameMemory s t) ∧
  (∀ (c : Instr) (s t : State), .log ∉ touches c → exec c s = .next t → sameOutside (storeSlots c s) s t)

/-- After reset HBM has its canonical form, every byte reading as an unlisted one (log entry 1), and the event log is empty. -/
def Obligations.ResetMeetsInvariants : Prop :=
  State.reset.memOk ∧ State.reset.ex.log = [] ∧ ∀ a, memByte State.reset.hbm a = unlistedByte

/-- Every step keeps HBM in its canonical form: addresses rise strictly and no entry equals an unlisted byte. -/
def Obligations.StepKeepsMemoryForm : Prop :=
  ∀ s t : State, s.memOk → step s = .next t → t.memOk

/-- The event log holds its newest 4,096 records (R476): after every command but a cold reset, and after a step that takes none, it is
the newest 4,096 of the records added and those before; a cold reset by a pin leaves it empty. -/
def Obligations.LogHoldsNewest : Prop :=
  (∀ (c : Instr) (s t : State), exec c s = .next t → t.logBounded) ∧
  (∀ (c : Instr) (s t : State), .log ∉ touches c → s.logBounded → exec c s = .next t →
    ∃ added, t.ex.log = (added ++ s.ex.log).take 4096) ∧
  (∀ (s t : State), s.pending = [] → s.logBounded → step s = .next t →
    ∃ added, t.ex.log = (added ++ s.ex.log).take 4096) ∧
  (∀ (s t : State), s.logBounded → step s = .next t → t.logBounded) ∧
  (∀ (pin : Nat) (s t : State), pin < 2 → s.dev.state ≠ .off → exec (.coldResetInput pin) s = .next t → t.ex.log = [])

/-- A byte of HBM just written reads back, and every byte outside the ones written reads as before. -/
def Obligations.MemoryReadAfterWrite : Prop :=
  ∀ (m : List Host.Cell) (a : Nat) (b : List Byte),
    (∀ i (h : i < b.length), memByte (memWrite m a b) (a + i) = b[i]) ∧
    (∀ x, x < a ∨ a + b.length ≤ x → memByte (memWrite m a b) x = memByte m x)

/-- Power and pins (R511, R509, R561). RESET_RELEASE from OFF with the clock running enters BOOT at tick 0, counts one more cold
reset, and the safe load is still to come. A deglitched low on RESET_N or PGOOD_IN puts the device OFF with its lanes undriven and
HBM, sessions and commits lost, RESET_CAUSE naming the pin, and the flash as the reset found it, its pins and the test port kept; with
the device OFF already it changes the pin alone. A test-port instruction loads EXTEST or SAMPLE/PRELOAD only while
RESET_N is low, IDCODE at any time, and BYPASS otherwise; TRST_N is then high (log entry 205), SAMPLE/PRELOAD takes the levels of the
lands into the boundary cells, and the register selected captures the IDCODE, the cells or 0.
What HBM reads after a cold reset and how an unknown test-port instruction is taken are the model's choices (log entries 1 and 83). -/
def Obligations.PowerAndPins : Prop :=
  (∀ s : State, s.dev.state = .off → s.dev.refclkLost = false →
    ∃ t, exec .resetRelease s = .next t ∧ t.dev.state = .boot ∧ t.tick = 0 ∧ t.dev.resetN = true ∧ t.dev.pgood = true ∧
      t.dev.safeLoaded = false ∧ t.dev.flash.coldResets = min u32Max (s.dev.flash.coldResets + 1)) ∧
  (∀ (pin : Nat) (s : State), pin < 2 → s.dev.state ≠ .off →
    ∃ t, exec (.coldResetInput pin) s = .next t ∧ t.dev.state = .off ∧ t.dev.resetN = (s.dev.resetN && pin != 1) ∧
      t.dev.pgood = (s.dev.pgood && pin != 0) ∧ t.obj Obj.RESET_CAUSE 0 = pin ∧ t.drv.driven = false ∧ t.hbm = [] ∧
      t.ex.sessions = [] ∧ t.com.live = [] ∧ t.dev.store = none ∧ t.dev.flash = s.dev.cutFlash ∧
      t.dev.refclkLost = s.dev.refclkLost ∧ t.dev.tapInstruction = s.dev.tapInstruction ∧ t.dev.boundary = s.dev.boundary) ∧
  (∀ (pin : Nat) (s : State), pin < 2 → s.dev.state = .off →
    ∃ t, exec (.coldResetInput pin) s = .next t ∧
      t.dev = { s.dev with resetN := s.dev.resetN && pin != 1, pgood := s.dev.pgood && pin != 0 } ∧ Frame [.dev, .ex] s t) ∧
  (∀ (ir k : Nat) (s : State), k = (if ir = 2 then 2 else if ir < 2 ∧ s.dev.resetN = false then ir else 3) →
    ∃ t, exec (.testAccessPortInstruction ir) s = .next t ∧
      t.dev.boundary = (if k = 1 then lands.map s.landLevel else s.dev.boundary) ∧
      t.dev = { s.dev with tapInstruction := k, trstN := true, boundary := t.dev.boundary,
                           tapData := if k = 2 then s.idcode else if k < 2 then bitsOf t.dev.boundary else 0 } ∧
      Frame [.dev, .ex] s t)

/-- The safe load and the loader (R216, R512). With a working safe page whose CRC, MAGIC and FORMAT hold the load ends with the lanes driven
and SAFE_GEN and SAFE_SOURCE saying so; where one of the three fails the factory page is loaded, generation 0. A lobe that may run boots the CONFIRMED
bank where that passes and no update asked for the other, and enters DIAGNOSING. -/
def Obligations.SafeLoadAndBoot : Prop :=
  (∀ s : State, s.dev.state = .boot → s.dev.safeLoaded = false → 0xC0000 ∉ s.dev.flash.bad →
    s.dev.flash.working.magic = 0x4F535346 → s.dev.flash.working.format = 1 →
    ∃ t, exec .safeLoadComplete s = .next t ∧ t.dev.safeLoaded = true ∧ t.drv.driven = true ∧
      t.obj Obj.SAFE_GEN 0 = s.dev.flash.working.gen ∧ t.obj Obj.SAFE_SOURCE 0 = 0) ∧
  (∀ s : State, s.dev.state = .boot → s.dev.safeLoaded = false →
    (0xC0000 ∈ s.dev.flash.bad ∨ s.dev.flash.working.magic ≠ 0x4F535346 ∨ s.dev.flash.working.format ≠ 1) →
    0x80000 ∉ s.dev.flash.bad →
    ∃ t, exec .safeLoadComplete s = .next t ∧ t.dev.safeLoaded = true ∧ t.drv.driven = true ∧ t.obj Obj.SAFE_GEN 0 = 0 ∧
      t.obj Obj.SAFE_SOURCE 0 = 1) ∧
  (∀ (l : Nat) (ok0 ok1 : Bool) (s : State), l < 2 → s.dev.state ≠ .off → s.dev.safeLoaded = true → s.mayRun l = true →
    (s.lobe l).bank = none → (s.lobe l).trialBoot = false →
    (if s.dev.flash.confirmed = 0 then ok0 else ok1) = true → s.bankBad s.dev.flash.confirmed = false →
    ∃ t, exec (.booted l ok0 ok1) s = .next t ∧ (t.lobe l).role = .diagnosing ∧
      (t.lobe l).bank = some s.dev.flash.confirmed ∧ (t.lobe l).noFirmware = false)

/-- Self-test and the park application (R514, R520). A step that passes is the last one done; a failure of step 4 is fatal and
stands in SELFTEST_RESULT bit 2. After step 9 the park image is chosen, and at a scan boundary the ramp starts and the device is
PARKED. When the ramps have ended the loops are due.
When the image of a park application is chosen and what a self-test step reports are the model's choices (log entries 71 and 74). -/
def Obligations.SelfTestAndPark : Prop :=
  (∀ (step : Nat) (s : State), s.dev.state = .selftest → s.dev.selfFatal = false → step = s.dev.selfStep + 1 →
    (step = 2 ∨ step = 4 ∨ step = 6 ∨ step = 7) →
    ∃ t, exec (.selftestStepDone step 0) s = .next t ∧ t.dev = { s.dev with selfStep := step } ∧ t.objs = s.objs) ∧
  (∀ (failed : Nat) (s : State), s.dev.state = .selftest → s.dev.selfFatal = false → s.dev.selfStep = 3 → failed ≠ 0 →
    ∃ t, exec (.selftestStepDone 4 failed) s = .next t ∧ t.dev.selfStep = 4 ∧ t.dev.selfFatal = true ∧
      FaultCause.selftest ∈ t.dev.faults ∧ t.objN Obj.SELFTEST_RESULT 0 = s.objN Obj.SELFTEST_RESULT 0 ||| 4) ∧
  (∀ s : State, s.dev.state = .selftest → s.dev.selfFatal = false → s.dev.selfStep = 9 → s.dev.park = none →
    ∃ t, exec .selftestDone s = .next t ∧ parkUnderway s t) ∧
  (∀ s : State, s.dev.parkRamp = true → s.fastMoves = false →
    ∃ t, exec .parkRampEnd s = .next t ∧ t.dev.parkRamp = false ∧ t.dev.loopsDue = true)

/-- Supply and clock faults (R510, R68, R202, R33, R518, R425). A rail out of its window, outside OFF and FAULT_HOLD, is reported with its
voltage and holds the device in FAULT_HOLD with cause RAIL; one that reads 0 mV, which the model takes as the rail's absence (log entry
25), leaves the drives it supplies undriven; so does the loss of REFCLK with cause REFCLK. When edges resume ticks go
on, and a LOCKED servo is TRACKING; after REFCLK_RESTORE_TIME, at a scan boundary, a device held from PARKED or SERVICE returns
there. -/
def Obligations.SupplyAndClockFaults : Prop :=
  (∀ (rail mv : Nat) (s : State), rail < 7 → (mv < (railWindow rail).1 ∨ (railWindow rail).2 < mv) → s.dev.state ≠ .off →
    s.dev.state ≠ .faultHold →
    ∃ t, exec (.railFault rail mv) s = .next t ∧ t.dev.state = .faultHold ∧ t.dev.cause = .rail ∧ t.dev.heldFrom = s.dev.state ∧
      FaultCause.rail rail ∈ t.dev.faults ∧ t.objN Obj.RAIL_VOLTAGE rail = mv ∧
      t.objN Obj.RAIL_STATE rail = (if mv < (railWindow rail).1 then 1 else 2)) ∧
  (∀ (rail : Nat) (s : State), rail < 7 → s.dev.state ≠ .off →
    ∃ t, exec (.railFault rail 0) s = .next t ∧ ((rail = 0 ∨ rail = 4 ∨ rail = 5) → t.drv.fastOff = true ∧ t.drv.heatersOff = true) ∧
      ((rail = 0 ∨ rail = 6) → t.drv.privOff = true)) ∧
  (∀ s : State, s.dev.refclkLost = false → s.dev.state ≠ .off → s.dev.state ≠ .faultHold →
    ∃ t, exec .refclkLost s = .next t ∧ t.dev.refclkLost = true ∧ t.dev.state = .faultHold ∧ t.dev.cause = .refclk ∧
      t.dev.heldFrom = s.dev.state ∧ FaultCause.refclk ∈ t.dev.faults) ∧
  (∀ s : State, s.dev.refclkLost = true → s.dev.state ≠ .off →
    ∃ t, exec .refclkReturns s = .next t ∧ t.dev.refclkLost = false ∧ t.dev.refclkBack = some s.tick ∧
      t.time.servo = (if s.time.servo = .locked then .tracking else s.time.servo)) ∧
  (∀ (lossNs t0 : Nat) (s : State), s.dev.refclkBack = some t0 →
    s.elapsed t0 (1000000 * s.objN Obj.REFCLK_RESTORE_TIME 0) = true → s.tick % 256 = 0 → s.dev.state = .faultHold →
    s.dev.cause = .refclk → (s.dev.heldFrom = .parked ∨ s.dev.heldFrom = .service) →
    ∃ t, exec (.refclkRestored lossNs) s = .next t ∧ t.dev.state = s.dev.heldFrom ∧ t.dev.cause = .none ∧ t.dev.refclkBack = none)

/-- Device commands (R516, R522, R305). PARK from SERVICE with no commit live and RESUME from SAFE with the thermal state below THROTTLE begin a
park application; DRAIN from PARKED or SERVICE enters DRAINING at this instant and asserts FAULT_N; WARM_RESET and COLD_RESET are
acknowledged and due 10 ms later, and then the device passes to BOOT.
What a park application waits for, and what a reset leaves of HBM, are the model's choices (log entries 1, 71 and 74). -/
def Obligations.DeviceCommands : Prop :=
  (∀ (sess : Nat) (s : State), s.accepts sess Obj.DEVICE_COMMAND 0 1 = true → s.dev.state = .service → s.com.live = [] →
    s.calBarsPark = false → s.dev.park = none → ∃ t, exec (.park sess) s = .next t ∧ parkUnderway s t) ∧
  (∀ (sess : Nat) (s : State), s.accepts sess Obj.DEVICE_COMMAND 0 3 = true → s.dev.state = .safe → s.therm.state < 2 →
    s.dev.park = none → ∃ t, exec (.resume sess) s = .next t ∧ parkUnderway s t) ∧
  (∀ (sess : Nat) (s : State), s.accepts sess Obj.DEVICE_COMMAND 0 2 = true → (s.dev.state = .parked ∨ s.dev.state = .service) →
    ∃ t, exec (.drain sess) s = .next t ∧ t.dev.state = .draining ∧ t.dev.draining = some s.tick ∧
      FaultCause.thermalStop ∈ t.dev.faults) ∧
  (∀ (sess : Nat) (s : State), s.accepts sess Obj.DEVICE_COMMAND 0 4 = true → s.flashBusy = false →
    ∃ t, exec (.warmReset sess) s = .next t ∧ t.dev = { s.dev with resetDue := some (.warm, s.tick) } ∧
      t.answered sess 0 Obj.DEVICE_COMMAND 0 (.ack []) ∧ Frame [.dev, .ex] s t) ∧
  (∀ (sess : Nat) (s : State), s.accepts sess Obj.DEVICE_COMMAND 0 5 = true → s.flashBusy = false →
    ∃ t, exec (.coldReset sess) s = .next t ∧ t.dev = { s.dev with resetDue := some (.cold, s.tick) } ∧
      t.answered sess 0 Obj.DEVICE_COMMAND 0 (.ack []) ∧ Frame [.dev, .ex] s t) ∧
  (∀ (t0 : Nat) (s : State), s.dev.resetDue = some (.cold, t0) → s.elapsed t0 10000000 = true →
    ∃ t, exec .resetDelayEnd s = .next t ∧ t.dev.state = .boot ∧ t.tick = 0 ∧ t.hbm = [] ∧ t.dev.resetDue = none) ∧
  (∀ (t0 : Nat) (s : State), s.dev.resetDue = some (.warm, t0) → s.elapsed t0 10000000 = true → s.dev.state ≠ .faultHold →
    s.dev.store = none →
    ∃ t, exec .resetDelayEnd s = .next t ∧ t.dev.state = .boot ∧ t.drv = s.drv ∧ sameMemory s t)

/-- Flash stores (R521, R525, R526, R219, R533). PARK_STORE of a VALID slot, PARK_CLEAR, CONFIG_STORE and the hourly life record
begin a store or put it in the queue; a region that ends leads to the next, and the last one ends the store; the safe page that ends
is the working page, with its generation.
Which stores queue behind another one and which are refused is deduced (log entry 85). -/
def Obligations.FlashStores : Prop :=
  (∀ (sess : Nat) (slot : Int) (s : State), s.accepts sess Obj.PARK_STORE 0 slot = true → s.flashOk = true →
    s.slotState slot.toNat = .valid →
    ∃ t, exec (.parkStore sess slot) s = .next t ∧ t.answered sess 0 Obj.PARK_STORE 0 (.ack []) ∧
      t.storing (.park (some slot.toNat))) ∧
  (∀ (sess : Nat) (s : State), s.accepts sess Obj.PARK_CLEAR 0 1 = true →
    ∃ t, exec (.parkClear sess) s = .next t ∧ t.answered sess 0 Obj.PARK_CLEAR 0 (.ack []) ∧ t.storing (.park none)) ∧
  (∀ (sess : Nat) (s : State), s.accepts sess Obj.CONFIG_STORE 0 1 = true → s.flashOk = true → s.flashBusy = false →
    s.storeRegions .config ≠ [] →
    ∃ t, exec (.configStore sess) s = .next t ∧ t.answered sess 0 Obj.CONFIG_STORE 0 (.ack []) ∧
      t.dev = { s.dev with store := some { kind := .config, regions := s.storeRegions .config } } ∧ Frame [.dev, .ex] s t) ∧
  (∀ (i j : Nat) (rest : List Nat) (s : State), s.dev.store = some { kind := .config, regions := i :: j :: rest } →
    ∃ t, exec .flashRegionDone s = .next t ∧ t.dev.store = some { kind := .config, regions := j :: rest } ∧
      t.dev.flash.erases = s.dev.flash.erases + 1) ∧
  (∀ (i : Nat) (s : State), s.dev.store = some { kind := .config, regions := [i] } → s.dev.storeQueue = [] →
    ∃ t, exec .flashRegionDone s = .next t ∧ t.dev.store = none ∧ t.dev.flash.erases = s.dev.flash.erases + 1) ∧
  (∀ s : State, s.dev.state ≠ .off → s.elapsed s.dev.lifeAt 3600000000000 = true →
    ∃ t, exec .lifeRecordTimer s = .next t ∧ t.dev.lifeAt = s.tick ∧ t.storing .life) ∧
  (∀ (p : SafePage) (r : List Nat) (s : State), s.dev.store = some { kind := .safePage, regions := r } → s.dev.page = some p →
    ∃ t, exec .safePageStored s = .next t ∧ t.dev.page = none ∧ t.dev.flash.working = p)

/-- Firmware updates (R528 to R531). FW_LOAD_OPEN opens a bank that is neither CONFIRMED nor run by a lobe and empties it;
FW_VERIFY closes it VALID where the signature and every region's CRC hold and INVALID with NAK FORMAT where one fails; FW_ACTIVATE of a VALID bank with a
STANDBY lobe there writes the boot records with that bank on TRIAL; FW_CONFIRM, or its time, writes the TRIAL bank CONFIRMED;
FW_ROLLBACK and a lobe that is late write the boot records with TRIAL cleared. -/
def Obligations.FirmwareUpdates : Prop :=
  (∀ (sess : Nat) (bank : Int) (s : State), s.accepts sess Obj.FW_LOAD_OPEN 0 bank = true → s.flashOk = true →
    s.dev.flash.confirmed ≠ bank.toNat → (s.lobe 0).bank ≠ some bank.toNat → (s.lobe 1).bank ≠ some bank.toNat →
    ∃ t, exec (.fwLoadOpen sess bank) s = .next t ∧ t.answered sess 0 Obj.FW_LOAD_OPEN 0 (.ack []) ∧
      t.dev.fwOpen = some bank.toNat ∧ (t.fwBank bank.toNat).state = 1 ∧ (t.fwBank bank.toNat).data = []) ∧
  (∀ (sess b : Nat) (s : State), s.accepts sess Obj.FW_VERIFY 0 1 = true → s.flashOk = true → s.dev.fwOpen = some b →
    s.bankBad b = false →
    ∃ t, exec (.fwVerify sess true) s = .next t ∧ t.answered sess 0 Obj.FW_VERIFY 0 (.ack []) ∧ t.dev.fwOpen = none ∧
      (t.fwBank b).state = 2) ∧
  (∀ (sess b : Nat) (ok : Bool) (s : State), s.accepts sess Obj.FW_VERIFY 0 1 = true → s.flashOk = true → s.dev.fwOpen = some b →
    (ok = false ∨ s.bankBad b = true) →
    ∃ t, exec (.fwVerify sess ok) s = .next t ∧ t.answered sess 0 Obj.FW_VERIFY 0 (.nak .format 0 0) ∧ t.dev.fwOpen = none ∧
      (t.fwBank b).state = 3) ∧
  (∀ (sess l : Nat) (bank : Int) (s : State), s.accepts sess Obj.FW_ACTIVATE 0 bank = true → s.standby = some l →
    (s.dev.state = .parked ∨ s.dev.state = .service) → s.flashOk = true → s.fwBankState bank.toNat = 2 → s.dev.fwStage = .idle →
    formatsMeet (s.fwBank s.dev.flash.confirmed) (s.fwBank bank.toNat) = true →
    ∃ t, exec (.fwActivate sess bank) s = .next t ∧ t.answered sess 0 Obj.FW_ACTIVATE 0 (.ack []) ∧
      t.dev.fwStage = .firstRestart ∧ t.dev.fwLobe = l ∧ t.dev.boot = some (s.dev.flash.confirmed, some bank.toNat) ∧
      t.storing .bootRecords) ∧
  (∀ (sess b : Nat) (s : State), s.accepts sess Obj.FW_CONFIRM 0 1 = true → s.dev.flash.trial = some b →
    s.dev.fwStage ≠ .rollingBack →
    ∃ t, exec (.fwConfirm sess) s = .next t ∧ t.answered sess 0 Obj.FW_CONFIRM 0 (.ack []) ∧ t.dev.boot = some (b, none) ∧
      t.storing .bootRecords) ∧
  (∀ (t0 b : Nat) (s : State), s.dev.fwBoth = some t0 → s.dev.flash.trial = some b → s.dev.fwStage ≠ .rollingBack →
    s.elapsed t0 (1000000000 * s.objN Obj.FW_CONFIRM_TIME 0) = true →
    ∃ t, exec .fwConfirmTimeEnd s = .next t ∧ t.dev.boot = some (b, none) ∧ t.dev.fwBoth = none ∧ t.storing .bootRecords) ∧
  (∀ (sess b : Nat) (s : State), s.accepts sess Obj.FW_ROLLBACK 0 1 = true → s.dev.flash.trial = some b →
    s.dev.fwStage ≠ .rollingBack → s.dev.fwStage ≠ .idle →
    ∃ t, exec (.fwRollback sess) s = .next t ∧ t.answered sess 0 Obj.FW_ROLLBACK 0 (.ack []) ∧ t.dev.fwStage = .rollingBack ∧
      t.dev.fwFail = some (s.dev.fwStage.code, 4) ∧ t.dev.boot = some (s.dev.flash.confirmed, none) ∧ t.storing .bootRecords) ∧
  (∀ (l : Nat) (s : State), (s.dev.fwStage = .firstRestart ∨ s.dev.fwStage = .secondRestart) → s.dev.fwLobe = l →
    s.dev.boot = none → (s.lobe l).role ≠ .standby → s.elapsed s.dev.fwSince 10000000000 = true →
    ∃ t, exec (.fwTrialTimeout l) s = .next t ∧ t.dev.fwStage = .rollingBack ∧ t.dev.fwFail = some (s.dev.fwStage.code, 2) ∧
      t.storing .bootRecords)

/-- Function modes (R36, R38). HARDWARE is accepted always, and HOST_ASSISTED unless the function has fallen back and
FALLBACK_HOLDOFF since LAST_FALLBACK_TIME still runs, when it is refused BUSY. A mode accepted is pending until the function's boundary,
where it takes effect, for the element loops at a scan boundary while no commit moves and no deadline of the host has passed. The
boundaries of the other functions are events of their own rows (Table 1.7): MODE_BOUNDARY completes and changes nothing for them (the
model's reading, log entry 28), and there a pending mode takes effect. -/
def Obligations.FunctionModes : Prop :=
  (∀ (sess n : Nat) (v : Int) (s : State), 1 ≤ n → n ≤ 8 → s.accepts sess (Obj.FUNC_MODE + (n - 1)) 0 v = true →
    (v = 1 → (s.func n).fellBack = true →
      s.obj Obj.LAST_FALLBACK_TIME 0 + 1000000 * s.obj Obj.FALLBACK_HOLDOFF 0 ≤ s.now) →
    ∃ t, exec (.funcMode sess n v) s = .next t ∧ t.answered sess 0 (Obj.FUNC_MODE + (n - 1)) 0 (.ack []) ∧
      t.func n = { s.func n with pending := some v.toNat } ∧ t.obj (Obj.FUNC_MODE + (n - 1)) 0 = v ∧
      Frame [.objs, .ex, .funcs] s t) ∧
  (∀ (sess n : Nat) (s : State), 1 ≤ n → n ≤ 8 → s.accepts sess (Obj.FUNC_MODE + (n - 1)) 0 1 = true →
    (s.func n).fellBack = true → s.now < s.obj Obj.LAST_FALLBACK_TIME 0 + 1000000 * s.obj Obj.FALLBACK_HOLDOFF 0 →
    ∃ t, exec (.funcMode sess n 1) s = .next t ∧ t.answered sess 0 (Obj.FUNC_MODE + (n - 1)) 0 (.nak .busy 0 0) ∧
      Frame [.ex] s t) ∧
  (∀ (n : Nat) (s : State), 2 ≤ n → n ≤ 8 → ∃ t, exec (.modeBoundary n) s = .next t ∧ t.func = s.func ∧ Frame [.ex] s t) ∧
  (∀ (n m : Nat) (s : State), (s.func n).pending = some m →
    (atModeBoundary s n).func n = { s.func n with mode := m, pending := none } ∧
    (∀ k, k ≠ n → (atModeBoundary s n).func k = s.func k) ∧ Frame [.funcs] s (atModeBoundary s n)) ∧
  (∀ s : State, s.tick % 256 ≠ 0 ∨ s.commitMoving = true →
    ∃ t, exec (.modeBoundary 1) s = .next t ∧ t.func = s.func ∧ Frame [.ex] s t) ∧
  (∀ (m : Nat) (s : State), (s.func 1).pending = some m → s.tick % 256 = 0 → s.commitMoving = false →
    s.driveLate = false →
    ∃ t, exec (.modeBoundary 1) s = .next t ∧ t.func 1 = { s.func 1 with mode := m, pending := none })

/-- Fallbacks (R37, R39, R566). A function that falls back is device-run again, its pending request discarded, and its hold-off runs;
FUNC_MODE reads 0, and LAST_FALLBACK, LAST_FALLBACK_TIME and FALLBACK_COUNT say so. With a lobe ACTIVE and no more sessions than the
table holds, the event log has the function's event of Table 1.9, with its number and whether a request was discarded. -/
def Obligations.FallbackNoted : Prop :=
  ∀ (s : State) (n : Nat), 1 ≤ n → n ≤ 8 →
    (fallback s n).func n = { mode := 0, pending := none, fellBack := true } ∧
    (∀ m, m ≠ n → (fallback s n).func m = s.func m) ∧ (fallback s n).obj (Obj.FUNC_MODE + (n - 1)) 0 = 0 ∧
    (fallback s n).obj Obj.LAST_FALLBACK 0 = n ∧ (fallback s n).obj Obj.LAST_FALLBACK_TIME 0 = s.now ∧
    (fallback s n).obj Obj.FALLBACK_COUNT n = min u32Max (s.objN Obj.FALLBACK_COUNT n + 1) ∧
    (s.active.isSome = true → s.ex.sessions.length ≤ 16 → ∃ e ∈ (fallback s n).ex.log,
      [0x30F1, 0x20F2, 0x20F3, 0x40F4, 0x50F5, 0x80F6, 0x70F7, 0x80F8][n - 1]? = some e.code ∧
        e.data = [.word n, .word (if (s.func n).pending.isSome = true then 1 else 0)]) ∧
    Frame [.objs, .ex, .funcs, .sorus] s (fallback s n)

/-- Each function falls back when its host is late (R164, R93, R100, R275, R295, R398, R365, R442): the deadline of its oldest
item has passed. Where a write has put power arbitration in hardware mode already, Steady takes up an undecided request at its deadline
all the same, and grants it or lets it wait in its queue. The time servo falls back at the first update after it, pre-emphasis at the first PREPARE after it, classification at
the first frame received after it (Table 1.7): until then the miss is noted and stays. -/
def Obligations.FunctionsFallBack : Prop :=
  (∀ s : State, s.hostMode 1 = true → s.driveLate = true → s.tick % 256 = 0 → s.commitMoving = false →
    ∃ t, exec .fallbackElementLoops s = .next t ∧ t.func 1 = { mode := 0, pending := none, fellBack := true } ∧
      t.loops.hostBlocks = []) ∧
  (∀ (r : Route) (s : State), s.lib.route = some r → r.waitHost = true → s.hostMode 2 = true → r.due ≤ s.tick →
    ∃ t, exec .fallbackImageGeneration s = .next t ∧ t.func 2 = { mode := 0, pending := none, fellBack := true } ∧
      t.lib.route = some { r with waitHost := false, start := s.tick } ∧ t.slotState r.slot = .routing) ∧
  (∀ s : State, (s.lib.bufs.any fun b => decide (b.2.due ≤ s.tick)) = true →
    ∃ t, exec .fallbackRefinement s = .next t ∧ t.func 3 = { mode := 0, pending := none, fellBack := true }) ∧
  (∀ s : State, s.adaptLate = true →
    ∃ t, exec .fallbackPreEmphasis s = .next t ∧ t.cal = { s.cal with missed := true } ∧ t.adaptLate = true ∧ Frame [.cal, .ex] s t) ∧
  (∀ s : State, s.adaptLate = true →
    (adaptBoundary s).func 4 = { mode := 0, pending := none, fellBack := true } ∧ (adaptBoundary s).cal.missed = false) ∧
  (∀ s : State, s.hostMode 5 = true → s.grantLate = true →
    ∃ t, exec .fallbackPowerArbitration s = .next t ∧ t.func 5 = { mode := 0, pending := none, fellBack := true }) ∧
  (∀ (n : Nat) (q : RingReq) (s : State), s.hostMode 5 = false → (s.func 5).pending = none → s.undecided = [(n, q)] →
    q.due ≤ s.tick → q.req.kind ≠ .commit → s.steady.overflow = [] → mfind s.steady.ring n = some q → s.steady.queue = [] →
    ∃ t, exec .fallbackPowerArbitration s = .next t ∧ t.func = s.func ∧
      if s.steady.frozen = true ∨ s.mayServe q.req = false then
        t.steady.queue = [q.req] ∧ mfind t.steady.ring n = some { q with state := 3 }
      else s.steady.upsets = [] →
        t.steady.queue = [] ∧ t.holds q.req.kind q.req.source = true ∧ ∃ u, mfind t.steady.ring n = some u ∧ u.req = q.req ∧ u.state ≠ 0) ∧
  (∀ s : State, s.heldLate = true →
    ∃ t, exec .fallbackClassification s = .next t ∧ t.net = { s.net with heldMissed := true } ∧ t.heldLate = true ∧
      Frame [.net, .ex] s t) ∧
  (∀ s : State, s.heldLate = true →
    (classBoundary s).func 8 = { mode := 0, pending := none, fellBack := true } ∧ (classBoundary s).heldLate = false) ∧
  (∀ s : State, (s.sorus.bufs.any fun p => p.2.segs.any fun g =>
      match g.readyAt with
      | some t => s.elapsed t (1000000 * s.objN Obj.CAP_HOST_DEADLINE 0)
      | none => false) = true →
    ∃ t, exec .fallbackCapture s = .next t ∧ t.func 7 = { mode := 0, pending := none, fellBack := true }) ∧
  (∀ (o ts at_ : Int) (s : State), s.ticking = true → s.rateLate = true → s.time.meas = some (o, ts, at_) →
    ∃ t, exec .fallbackTimeServo s = .next t ∧ t.time.meas = none ∧ t.func 6 = { mode := 0, pending := none, fellBack := true })

/-- Scan boundaries and samples (R228, R62, R155, R160, R161, R310). SCAN_BOUNDARY at a tick that is a multiple of 256 begins a scan, in
three parts: the end of the last scan (`scanOpen`), the elements (`elemsScan`) and the rest (`scanClose`). SCAN_TIME is
the counter's value, reports of faults share a new increment, no load of a counter stays due, and every column whose sixteenth consecutive
scan with an overrun ends is DEGRADED. Each element's set-point slews by at most SETPOINT_SLEW in a scan and
stops at its target, while a lobe computes the loops. SAMPLE_DELIVERY gives both photodiodes of the pair a word of their scan, and gives the element
whose taps they are a pending sample set of those words and its line powers; one that finds the last set not evaluated is an overrun of
its column. The words of an output pair join the period sums of their VOAs, which stay empty while no lobe computes the loops. Both set-points of a
cell with both lines lit whose ratio r has moved by more than RESEED_STEP since t was set move with it, up in BAR and down in CROSS, within
T_MIN to T_MAX; a move of at most RESEED_STEP changes nothing (how the move is rounded is free). -/
def Obligations.ScansAndSamples : Prop :=
  (∀ (k : Nat) (a b a' b' dr : Int) (s : State), s.linesValid s.scan k = true → s.law Obj.DARK_LEVEL 0 ≤ (s.linePower k 0).p →
    s.law Obj.DARK_LEVEL 0 ≤ (s.linePower k 1).p → s.ratioNow (2 * k) = some (a, b) → (s.elem (2 * k)).ratio = some (a', b') →
    0 < b → 0 < b' → dr = openRound 147 (32768 * (a * b' - a' * b)) (b * b') →
    if s.law Obj.RESEED_STEP 0 * (b * b') < 32768 * ((a * b' - a' * b).natAbs : Int) then
      (∀ e, (e = 2 * k ∨ e = 2 * k + 1) →
        ((reseedCell s k).elem e).t = clampInt (s.law Obj.T_MIN 0) (s.law Obj.T_MAX 0)
          ((s.elem e).t + if s.cellCross k = true then -dr else dr)) ∧
        ((reseedCell s k).elem (2 * k)).ratio = some (a, b)
    else reseedCell s k = s) ∧
  (∀ (caps : List (Nat × Nat)) (upsets : List Nat) (traffic : List MatStep) (s : State), s.ticking = true → s.tick % 256 = 0 →
    ∃ t, exec (.scanBoundary caps ⟨upsets, traffic⟩) s = .next t ∧
      t = sealed s (scanClose (elemsScan (scanOpen s upsets traffic)) caps) ∧
      t.fab = { s.fab with reported := false } ∧ t.time.resyncDue = false ∧ t.tick = s.tick ∧
      (s.time.resyncDue = false → t.obj Obj.SCAN_TIME 0 = s.now)) ∧
  (∀ (col : Nat) (upsets : List Nat) (traffic : List MatStep) (s : State), col ∈ s.loops.cols.map (·.1) →
    (s.loops.cols.map (·.1)).Nodup → (s.column col).overRange = true → (s.column col).overRun = 15 → (s.column col).degraded = false →
    ((scanOpen s upsets traffic).column col).degraded = true ∧ ((scanOpen s upsets traffic).column col).overRange = false) ∧
  (∀ (col : Nat) (s : State), (s.column col).overRange = true → (s.column col).overRun = 15 → (s.column col).degraded = false →
    (overrunScan s col).obj Obj.DEGRADED col = 1) ∧
  (∀ (e : Nat) (s : State), s.loopsRun = true → 0 < s.law Obj.SETPOINT_SLEW 0 → (s.loops.elems.map (·.1)).Nodup →
    e ∈ s.loops.elems.map (·.1) →
    ((elemsScan s).elem e).t = slewTo (s.elem e).t (s.elem e).target (s.law Obj.SETPOINT_SLEW 0) ∧
    (((elemsScan s).elem e).t - (s.elem e).t).natAbs ≤ (s.law Obj.SETPOINT_SLEW 0).natAbs ∧
    (((s.elem e).target - (s.elem e).t).natAbs ≤ (s.law Obj.SETPOINT_SLEW 0).natAbs →
      ((elemsScan s).elem e).t = (s.elem e).target)) ∧
  (∀ (e : Nat) (s : State), s.loopsRun = false → ((elemsScan s).elem e).t = (s.elem e).t) ∧
  (∀ (cv pair a ha b hb : Nat) (oa ob : Bool) (s : State), s.ticking = true → cv < 2624 → pair < 16 →
    ∃ t, exec (.sampleDelivery cv pair a oa ha b ob hb) s = .next t ∧
      (t.pd (32 * cv + 2 * pair)).at_ = s.sampleScan pair ∧ (t.pd (32 * cv + 2 * pair + 1)).at_ = s.sampleScan pair) ∧
  (∀ (cv pair a ha b hb : Nat) (oa ob : Bool) (s : State), s.ticking = true → pair < 16 → 32 * cv + 2 * pair < 81920 →
    s.loopsRun = true →
    ∃ t, exec (.sampleDelivery cv pair a oa ha b ob hb) s = .next t ∧
      (t.elem (16 * cv + pair)).pend = some ((t.pd (32 * cv + 2 * pair)).value, (t.pd (32 * cv + 2 * pair + 1)).value,
        (t.lines (s.sampleScan pair) (16 * cv + pair)).1, (t.lines (s.sampleScan pair) (16 * cv + pair)).2) ∧
      ((s.elem (16 * cv + pair)).pend.isSome = true → (t.column (columnOf (16 * cv + pair))).overRange = true)) ∧
  (∀ (cv pair a ha b hb : Nat) (oa ob : Bool) (s : State), s.ticking = true → cv < 2624 → pair < 16 → 82944 ≤ 32 * cv + 2 * pair →
    s.loopsRun = true →
    ∃ t, exec (.sampleDelivery cv pair a oa ha b ob hb) s = .next t ∧
      (t.voa (32 * cv + 2 * pair - 82944)).count = (s.voa (32 * cv + 2 * pair - 82944)).count + 1 ∧
      (t.voa (32 * cv + 2 * pair - 82944)).sum =
        (s.voa (32 * cv + 2 * pair - 82944)).sum.add (t.pd (32 * cv + 2 * pair)).value) ∧
  (∀ (cv pair a ha b hb : Nat) (oa ob : Bool) (s : State), s.ticking = true → cv < 2624 → pair < 16 → 82944 ≤ 32 * cv + 2 * pair →
    s.loopsRun = false →
    ∃ t, exec (.sampleDelivery cv pair a oa ha b ob hb) s = .next t ∧
      (t.voa (32 * cv + 2 * pair - 82944)).count = 0 ∧ (t.voa (32 * cv + 2 * pair - 82944)).sum = {})

/-- Evaluations (R141, R142, R139). A pending set whose sum is below DARK_LEVEL makes the element dark and moves nothing, and a lit one
whose lines are nearly equal makes it UNOBSERVED and moves nothing; a lit one that is observed gives the error (1 − t)·Pa − t·Pb and its
sum, and a LOCKED element that steps moves φl by STEP against the fringe sign and the sign of the error, unless φ would pass the Pockels
limit; a set of a scan of host-assisted mode moves nothing; a set with an invalid sample, and one for an OPEN element, is discarded. -/
def Obligations.ElementEvaluations : Prop :=
  (∀ (e : Nat) (pa pb ua ub : Sample) (s : State), e < 40960 → (s.elem e).pend = some (pa, pb, ua, ub) → s.loopsRun = true →
    (s.elem e).suspended = false → s.dev.refclkLost = false → pa.inv = false → pb.inv = false →
    (s.elem e).state ≠ .opened → (s.elem e).state ≠ .disabled → pa.p + pb.p < s.law Obj.DARK_LEVEL 0 →
    ∃ t, exec (.elementEvaluation e) s = .next t ∧ (t.elem e).pend = none ∧ (t.elem e).dark = true ∧ t.drv = s.drv ∧
      (t.elem e).phi = (s.elem e).phi ∧ Frame [.ex, .sorus, .loops] s t) ∧
  (∀ (e : Nat) (pa pb ua ub : Sample) (s : State), e < 40960 → (s.elem e).pend = some (pa, pb, ua, ub) → s.loopsRun = true →
    (s.elem e).suspended = false → s.dev.refclkLost = false → pa.inv = false → pb.inv = false →
    (s.elem e).state ≠ .opened → (s.elem e).state ≠ .disabled → s.law Obj.DARK_LEVEL 0 ≤ pa.p + pb.p →
    s.unobservedBy ua ub = false →
    ∃ t, exec (.elementEvaluation e) s = .next t ∧ (t.elem e).pend = none ∧ (t.elem e).dark = false ∧
      (t.elem e).err = errOf (s.elem e).t pa.p pb.p ∧ (t.elem e).sum = pa.p + pb.p) ∧
  (∀ (e : Nat) (pa pb ua ub : Sample) (s : State), e < 40960 → (s.elem e).pend = some (pa, pb, ua, ub) → s.loopsRun = true →
    (s.elem e).suspended = false → s.dev.refclkLost = false → pa.inv = false → pb.inv = false →
    (s.elem e).state ≠ .opened → (s.elem e).state ≠ .disabled → s.law Obj.DARK_LEVEL 0 ≤ pa.p + pb.p →
    s.unobservedBy ua ub = true →
    ∃ t, exec (.elementEvaluation e) s = .next t ∧ (t.elem e).pend = none ∧ (t.elem e).dark = false ∧
      (t.elem e).unobserved = true ∧ (t.elem e).phi = (s.elem e).phi ∧ t.drv = s.drv) ∧
  (∀ (e : Nat) (pa pb ua ub : Sample) (c : ErrTests) (s : State), e < 40960 → (s.elem e).pend = some (pa, pb, ua, ub) →
    s.loopsRun = true → (s.elem e).suspended = false → s.dev.refclkLost = false → pa.inv = false → pb.inv = false →
    (s.elem e).state = .locked → (s.elem e).wrap = none → s.law Obj.DARK_LEVEL 0 ≤ pa.p + pb.p → s.unobservedBy ua ub = false →
    s.mustDisable e = false → c = (errTests s e (s.elem e).t pa pb).2 →
    (s.hostIn (s.elem e).pendScan = false → c.outBand = true → c.outInner = true →
      (((s.elem e).phiC + (s.elem e).phiL - s.fringe e * c.sign * s.law Obj.STEP 0 + (s.elem e).phiW).natAbs : Int) ≤
        s.pockelsLimit e →
      ∃ t, exec (.elementEvaluation e) s = .next t ∧
        (t.elem e).phiL = (s.elem e).phiL - s.fringe e * c.sign * s.law Obj.STEP 0 ∧ (t.elem e).stepping = true) ∧
    (s.hostIn (s.elem e).pendScan = true →
      ∃ t, exec (.elementEvaluation e) s = .next t ∧ (t.elem e).phi = (s.elem e).phi ∧ (t.elem e).stepping = false ∧ t.drv = s.drv)) ∧
  (∀ (e : Nat) (pa pb ua ub : Sample) (s : State), e < 40960 → (s.elem e).pend = some (pa, pb, ua, ub) → s.loopsRun = true →
    (s.elem e).suspended = false → s.dev.refclkLost = false → (s.elem e).state ≠ .disabled →
    ((s.elem e).state = .opened ∨ pa.inv = true ∨ pb.inv = true) →
    ∃ t, exec (.elementEvaluation e) s = .next t ∧ t.elem e = { s.elem e with pend := none } ∧ t.drv = s.drv)

/-- The outer loop and the offload (R146, R183, R148, R149). At the end of its period an element whose outer loop acts moves its set-point
by OUTER_STEP, the other way where x rose since the last move and on otherwise, within T_MIN to T_MAX, and one whose loop does not act,
or whose means rest on an invalid word (R174), keeps it. A LOCKED element whose mean is outside the band moves its heater phase by OFFLOAD_STEP towards it, asks for a wrap down where that
would pass WRAP_HIGH and for a wrap up where it would pass one turn below it, and one inside the band keeps it. -/
def Obligations.OuterLoopAndOffload : Prop :=
  (∀ (e : Nat) (o : OuterSum) (s : State), s.outerDue e = true → s.loopsRun = true → e < 40960 →
    (s.elem e).outerOf (s.scan - periodScans (s.lawN Obj.OUTER_PERIOD 0)) = some o →
    s.outerActs e (periodScans (s.lawN Obj.OUTER_PERIOD 0)) o = true → (s.elem e).xLast = none →
    (o.means (s.lawN Obj.OUTER_PERIOD 0)).1.inv = false → (o.means (s.lawN Obj.OUTER_PERIOD 0)).2.inv = false →
    ∃ t, exec (.outerPeriodEnd e) s = .next t ∧
      (t.elem e).t = clampInt (s.law Obj.T_MIN 0) (s.law Obj.T_MAX 0) ((s.elem e).t + (s.elem e).dir * s.law Obj.OUTER_STEP 0) ∧
      (t.elem e).dir = (s.elem e).dir ∧ (t.elem e).xLast =
        some ((o.means (s.lawN Obj.OUTER_PERIOD 0)).1.p, (o.means (s.lawN Obj.OUTER_PERIOD 0)).2.p)) ∧
  (∀ (e : Nat) (o : OuterSum) (leak want : Sample) (l w : Int) (s : State), s.outerDue e = true → s.loopsRun = true → e < 40960 →
    (s.elem e).outerOf (s.scan - periodScans (s.lawN Obj.OUTER_PERIOD 0)) = some o →
    s.outerActs e (periodScans (s.lawN Obj.OUTER_PERIOD 0)) o = true → (s.elem e).xLast = some (l, w) →
    o.means (s.lawN Obj.OUTER_PERIOD 0) = (leak, want) → leak.inv = false → want.inv = false →
    -32768 ≤ l → l ≤ 32767 → -32768 ≤ w → w ≤ 32767 →
    ∃ t, exec (.outerPeriodEnd e) s = .next t ∧
      (t.elem e).dir = (if want.p * l < leak.p * w then -(s.elem e).dir else (s.elem e).dir) ∧
      (t.elem e).t = clampInt (s.law Obj.T_MIN 0) (s.law Obj.T_MAX 0) ((s.elem e).t + (t.elem e).dir * s.law Obj.OUTER_STEP 0) ∧
      (t.elem e).xLast = some (leak.p, want.p)) ∧
  (∀ (e : Nat) (o : OuterSum) (s : State), s.outerDue e = true → s.loopsRun = true → e < 40960 →
    (s.elem e).outerOf (s.scan - periodScans (s.lawN Obj.OUTER_PERIOD 0)) = some o →
    s.outerActs e (periodScans (s.lawN Obj.OUTER_PERIOD 0)) o = true →
    ((o.means (s.lawN Obj.OUTER_PERIOD 0)).1.inv = true ∨ (o.means (s.lawN Obj.OUTER_PERIOD 0)).2.inv = true) →
    ∃ t, exec (.outerPeriodEnd e) s = .next t ∧ t.loops = s.loops) ∧
  (∀ (e : Nat) (s : State), s.outerDue e = true → s.loopsRun = true → e < 40960 →
    (∀ o, (s.elem e).outerOf (s.scan - periodScans (s.lawN Obj.OUTER_PERIOD 0)) = some o →
      s.outerActs e (periodScans (s.lawN Obj.OUTER_PERIOD 0)) o = false) →
    ∃ t, exec (.outerPeriodEnd e) s = .next t ∧ t.loops = s.loops) ∧
  (∀ (e : Nat) (s : State), s.scan % s.lawN Obj.OFFLOAD_PERIOD 0 = 0 → s.loopsRun = true → (s.elem e).state = .locked →
    (s.elem e).suspended = false → (s.elem e).dark = false → (s.elem e).unobserved = false → (s.elem e).wrap = none →
    (s.elem e).wrapAsk = none → s.hostMode 1 = false → s.active.isSome = true → s.lobes.final = none → e < 40960 →
    s.law Obj.OFFLOAD_INNER 0 < s.law Obj.OFFLOAD_OUTER 0 →
    (s.ceiling = false → 65536 * s.law Obj.OFFLOAD_OUTER 0 < ((s.elem e).mean.natAbs : Int) →
      (s.elem e).theta + sgn (s.elem e).mean * s.law Obj.OFFLOAD_STEP 0 ≤ s.law Obj.WRAP_HIGH 0 →
      s.law Obj.WRAP_HIGH 0 - 32768 ≤ (s.elem e).theta + sgn (s.elem e).mean * s.law Obj.OFFLOAD_STEP 0 →
      ∃ t, exec (.offloadPeriodEnd e) s = .next t ∧
        (t.elem e).theta = (s.elem e).theta + sgn (s.elem e).mean * s.law Obj.OFFLOAD_STEP 0 ∧ (t.elem e).offloading = true) ∧
    (65536 * s.law Obj.OFFLOAD_OUTER 0 < ((s.elem e).mean.natAbs : Int) →
      s.law Obj.WRAP_HIGH 0 < (s.elem e).theta + sgn (s.elem e).mean * s.law Obj.OFFLOAD_STEP 0 →
      s.canWrap e = true → s.waits .wrap e = false → s.holds .wrap e = false →
      ∃ t, exec (.offloadPeriodEnd e) s = .next t ∧ (t.elem e).theta = (s.elem e).theta ∧ (t.elem e).wrapAsk = some (-1)) ∧
    (65536 * s.law Obj.OFFLOAD_OUTER 0 < ((s.elem e).mean.natAbs : Int) →
      (s.elem e).theta + sgn (s.elem e).mean * s.law Obj.OFFLOAD_STEP 0 < s.law Obj.WRAP_HIGH 0 - 32768 →
      s.canWrap e = true → s.waits .wrap e = false → s.holds .wrap e = false →
      ∃ t, exec (.offloadPeriodEnd e) s = .next t ∧ (t.elem e).theta = (s.elem e).theta ∧ (t.elem e).wrapAsk = some 1) ∧
    (((s.elem e).mean.natAbs : Int) ≤ 65536 * s.law Obj.OFFLOAD_INNER 0 →
      ∃ t, exec (.offloadPeriodEnd e) s = .next t ∧ (t.elem e).theta = (s.elem e).theta ∧ (t.elem e).offloading = false ∧
        t.drv = s.drv))

/-- Wraps and saturation (R150, R152, R153, R62). A granted wrap of a LOCKED element whose spans are wide, with WRAP_ENABLE 1, starts, its heater end one
wrap away, when no commit moves and its column has room. In each scan of a wrap that runs (`wrapScan`, in `elemsScan`) its heater command moves by
WRAP_RATE towards its end, the thermal model follows by THERMAL_ALPHA, φ jumps by one turn where it would pass WRAP_JUMP, and at the end the element is
LOCKED with its heater phase there. A wrap that has waited for WRAP_STALL is marked as reported. An element SATURATED for
SAT_REPORT is reported: its loop is DISABLED and the fault map is stored. -/
def Obligations.WrapsAndSaturation : Prop :=
  (∀ (e : Nat) (d : Int) (s : State), (s.elem e).wrapAsk = some d → (s.elem e).state = .locked → s.commitMoving = false →
    s.wrapsActive (columnOf e) < s.lawN Obj.WRAP_MAX_ACTIVE 0 → s.holds .wrap e = true → s.loopsRun = true →
    s.hostMode 1 = false → s.active.isSome = true → (s.elem e).suspended = false → s.canWrap e = true → s.lobes.final = none →
    e < 40960 →
    ∃ t, exec (.wrapStart e) s = .next t ∧ (t.elem e).state = .wrapping ∧ (t.elem e).wrapAsk = none ∧
      (t.elem e).wrap = some { d := d, hStart := (s.elem e).theta, hEnd := (s.elem e).theta + d * 32768,
                               hCmd := (s.elem e).theta, hModel := (s.elem e).theta } ∧ t.drv = s.drv) ∧
  (∀ (e : Nat) (w v : Wrap) (s : State), (s.elem e).wrap = some w → w.paused = false → (s.elem e).state = .wrapping →
    v = w.advance true (s.law Obj.WRAP_RATE 0) (s.obj Obj.THERMAL_ALPHA e) →
    ((v.hCmd ≠ v.hEnd ∨ 1 < (v.hEnd - v.hModel).natAbs) →
      ∃ u, ((wrapScan s e).elem e).wrap = some u ∧ u.hCmd = v.hCmd ∧ u.hModel = v.hModel ∧ u.hEnd = w.hEnd ∧
        u.jumps = w.jumps + (if s.law Obj.WRAP_JUMP 0 < (s.elem e).phiC + (s.elem e).phiL + v.carry then -32768
          else if (s.elem e).phiC + (s.elem e).phiL + v.carry < -s.law Obj.WRAP_JUMP 0 then 32768 else 0) ∧
        ((wrapScan s e).elem e).theta = v.hCmd ∧ ((wrapScan s e).elem e).phiW = u.carry ∧
        ((wrapScan s e).elem e).state = .wrapping) ∧
    (v.hCmd = v.hEnd → (v.hEnd - v.hModel).natAbs ≤ 1 →
      ((wrapScan s e).elem e).wrap = none ∧ ((wrapScan s e).elem e).theta = w.hEnd ∧ ((wrapScan s e).elem e).phiW = 0 ∧
        ((wrapScan s e).elem e).state = .locked)) ∧
  (∀ (e : Nat) (s : State), (s.elem e).wrapIdle = true → (s.elem e).stallRaised = false →
    s.elapsed (s.elem e).idleSince (1000000 * s.lawN Obj.WRAP_STALL 0) = true →
    ∃ t, exec (.wrapStalled e) s = .next t ∧ (t.elem e) = { s.elem e with stallRaised := true } ∧ t.drv = s.drv) ∧
  (∀ (e : Nat) (s : State), (s.elem e).state = .saturated → s.lawN Obj.SAT_REPORT 0 ≤ s.scan - (s.elem e).satSince → e < 40960 →
    ∃ t, exec (.loopSaturated e) s = .next t ∧ (t.elem e).state = .disabled ∧ t.fab.reported = true ∧ t.storing .faultMap)

/-- Objects of the loops (R155, R144, R156, R157). A SETPOINT written is the element's new target. LOOP_ENABLE acts at the next scan
boundary, on every listed element: at 0 it is DISABLED there, and at 1 a DISABLED one that nothing else holds enters ACQUIRE from its present codes.
VOA_ENABLE acts at the next boundary of the VOA's period: at 0 it is DISABLED there, and at 1 a DISABLED VOA enters LOCKED from the code it has; a VOA in
ACQUIRE whose code has been reached enters LOCKED. A LOCKED VOA whose
lit power is outside the outer band moves its attenuation by VSTEP towards the target, up to 25 dB and down to 0; its power is judged
against the target as slewed at the period's end (the model's choice, log entry 196). -/
def Obligations.LoopObjects : Prop :=
  (∀ (sess e : Nat) (v : Int) (s : State), s.accepts sess Obj.SETPOINT e v = true →
    ∃ t, exec (.setpoint sess e v) s = .next t ∧ t.answered sess 0 Obj.SETPOINT e (.ack []) ∧ t.obj Obj.SETPOINT e = v ∧
      (t.elem e).target = v ∧ (t.elem e).t = (s.elem e).t ∧ t.drv = s.drv) ∧
  (∀ (sess e : Nat) (s : State), s.accepts sess Obj.LOOP_ENABLE e 0 = true →
    ∃ t, exec (.loopEnable sess e 0) s = .next t ∧ t.answered sess 0 Obj.LOOP_ENABLE e (.ack []) ∧ t.obj Obj.LOOP_ENABLE e = 0 ∧
      t.law Obj.LOOP_ENABLE e = s.law Obj.LOOP_ENABLE e ∧ t.elem e = { s.elem e with enabling := false } ∧ t.drv = s.drv ∧
      Frame [.objs, .ex, .loops] s t) ∧
  (∀ (e : Nat) (s : State), (s.loops.elems.map (·.1)).Nodup → e ∈ s.loops.elems.map (·.1) → s.law Obj.LOOP_ENABLE e = 0 →
    ((elemsScan s).elem e).state = .disabled) ∧
  (∀ (e : Nat) (s : State), ((disableElem s e).elem e).state = .disabled ∧ ((disableElem s e).elem e).phi = (s.elem e).phi ∧
    (disableElem s e).drv = s.drv) ∧
  (∀ (sess e : Nat) (s : State), s.accepts sess Obj.LOOP_ENABLE e 1 = true → (s.elem e).state = .disabled →
    ∃ t, exec (.loopEnable sess e 1) s = .next t ∧ t.answered sess 0 Obj.LOOP_ENABLE e (.ack []) ∧ t.obj Obj.LOOP_ENABLE e = 1 ∧
      t.law Obj.LOOP_ENABLE e = s.law Obj.LOOP_ENABLE e ∧ t.elem e = s.elem e ∧ t.drv = s.drv) ∧
  (∀ (e : Nat) (s : State), s.loopsRun = true → (s.loops.elems.map (·.1)).Nodup → e ∈ s.loops.elems.map (·.1) →
    (s.elem e).state = .disabled → s.mustDisable e = false →
    ((elemsScan s).elem e).state = .acquire ∧ ((elemsScan s).elem e).wrap = none) ∧
  (∀ (e : Nat) (s : State), ((enableElem s e).elem e).state = .acquire ∧ ((enableElem s e).elem e).phi = s.phaseNow e ∧
    ((enableElem s e).elem e).wrap = none ∧ (enableElem s e).drv = s.drv) ∧
  (∀ (sess o : Nat) (s : State), s.accepts sess Obj.VOA_ENABLE o 0 = true →
    ∃ t, exec (.voaEnable sess o 0) s = .next t ∧ t.answered sess 0 Obj.VOA_ENABLE o (.ack []) ∧ t.obj Obj.VOA_ENABLE o = 0 ∧
      t.voa o = { s.voa o with leaving := false } ∧ t.drv = s.drv) ∧
  (∀ (sess o : Nat) (s : State), s.accepts sess Obj.VOA_ENABLE o 1 = true → (s.voa o).state = .disabled → s.voaLost o = false →
    ∃ t, exec (.voaEnable sess o 1) s = .next t ∧ t.answered sess 0 Obj.VOA_ENABLE o (.ack []) ∧ (t.voa o).leaving = true) ∧
  (∀ (o : Nat) (s : State), s.scan % periodScans (s.lawN Obj.VOA_PERIOD 0) = 0 → s.loopsRun = true → o < 1024 →
    s.obj Obj.VOA_ENABLE o = 0 →
    ∃ t, exec (.voaPeriodEnd o) s = .next t ∧ (t.voa o).state = .disabled ∧ t.drv = s.drv) ∧
  (∀ (o : Nat) (s : State), s.scan % periodScans (s.lawN Obj.VOA_PERIOD 0) = 0 → s.loopsRun = true → o < 1024 →
    s.obj Obj.VOA_ENABLE o ≠ 0 →
    ((s.voa o).state = .acquire → (s.chan (voaChan o)).reached = true →
      ∃ t, exec (.voaPeriodEnd o) s = .next t ∧ (t.voa o).state = .locked ∧ (t.voa o).sum = {} ∧ (t.voa o).count = 0 ∧ t.drv = s.drv) ∧
    ((s.voa o).state = .disabled → (s.voa o).leaving = true → s.voaMustDisable o = false →
      ∃ t, exec (.voaPeriodEnd o) s = .next t ∧ (t.voa o).state = .locked ∧ (t.voa o).leaving = false ∧
        (t.voa o).atten = s.voaAttenNow o ∧ t.drv = s.drv)) ∧
  (∀ (o : Nat) (m : Sample) (pt : Int) (s : State), s.scan % periodScans (s.lawN Obj.VOA_PERIOD 0) = 0 → s.loopsRun = true → o < 1024 →
    s.obj Obj.VOA_ENABLE o ≠ 0 → (s.voa o).state = .locked → s.voaInput o = none →
    (s.voa o).meanOf (s.lawN Obj.VOA_PERIOD 0) = (m, true) → s.law Obj.DARK_LEVEL 0 ≤ m.p → (s.voa o).darkOut = false →
    s.hostIn (s.scan - 1) = false → s.ceiling = false →
    pt = s.tapTarget o (slewTo (s.voa o).eff (s.voaNewest o) (s.law Obj.TARGET_SLEW 0)) →
    s.law Obj.VBAND_OUT 0 * pt < 32768 * ((m.p - pt).natAbs : Int) → s.law Obj.VBAND_IN 0 * pt < 32768 * ((m.p - pt).natAbs : Int) →
    ∃ t, exec (.voaPeriodEnd o) s = .next t ∧
      (t.voa o).atten = if pt < m.p then min ((s.voa o).atten + s.lawN Obj.VSTEP 0) 25000 else (s.voa o).atten - s.lawN Obj.VSTEP 0)

/-- The host's drive (R163, R41). In host-assisted mode a block of in-range records whose heater increases fit is accepted and waits, and
its heater power is granted; at the next scan boundary every record of the accepted blocks is applied, in their order, so that the later
wins: a Pockels value becomes φ of its element, a heater value its heater phase, an attenuation that of its VOA unless that is DISABLED (R157),
each driven through its limiter. A block with a record out of range is refused RANGE, one that does not fit BUDGET, and nothing of it is applied. -/
def Obligations.HostDriveBlocks : Prop :=
  (∀ (sess : Nat) (recs : List DriveRec) (s : State), s.acceptsOctets sess Obj.HOST_DRIVE 0 = true → s.hostMode 1 = true →
    (∀ r ∈ recs, s.driveRecOk r = true) → s.steady.frozen = false → s.steady.upsets = [] →
    s.heaterFits ((recs.map s.driveRecHeat).foldl (· + ·) 0) = true →
    ∃ t, exec (.hostDrive sess recs) s = .next t ∧ t.answered sess 0 Obj.HOST_DRIVE 0 (.ack []) ∧
      t.loops = { s.loops with hostBlocks := s.loops.hostBlocks ++ [recs]
                               hostLast := if s.driveLate then s.loops.hostLast else s.tick } ∧
      t.objN Obj.HOST_BLOCKS 0 = min u32Max (s.objN Obj.HOST_BLOCKS 0 + 1) ∧
      t.holds .hostDrive (s.objN Obj.HOST_BLOCKS 0 + 1) = true ∧ t.drv = s.drv) ∧
  (∀ (sess : Nat) (recs : List DriveRec) (s : State), s.acceptsOctets sess Obj.HOST_DRIVE 0 = true → s.hostMode 1 = true →
    (∀ r ∈ recs, s.driveRecOk r = true) → s.steady.frozen = false → s.steady.upsets = [] →
    s.heaterFits ((recs.map s.driveRecHeat).foldl (· + ·) 0) = false →
    ∃ t, exec (.hostDrive sess recs) s = .next t ∧ t.answered sess 0 Obj.HOST_DRIVE 0 (.nak .budget 0 0) ∧ t.loops = s.loops ∧
      t.objN Obj.HOST_REFUSED 0 = min u32Max (s.objN Obj.HOST_REFUSED 0 + 1)) ∧
  (∀ (sess : Nat) (recs : List DriveRec) (s : State), s.acceptsOctets sess Obj.HOST_DRIVE 0 = true → s.hostMode 1 = true →
    (∃ r ∈ recs, s.driveRecOk r = false) →
    ∃ t, exec (.hostDrive sess recs) s = .next t ∧ t.answered sess 0 Obj.HOST_DRIVE 0 (.nak .range 0 0) ∧ t.loops = s.loops ∧
      t.objN Obj.HOST_REFUSED 0 = min u32Max (s.objN Obj.HOST_REFUSED 0 + 1)) ∧
  (∀ s : State, s.hostMode 1 = true → s.tick % 256 = 0 →
    ∃ t, exec .hostDriveApply s = .next t ∧ t.loops.hostBlocks = [] ∧ t.drv = (s.loops.hostBlocks.flatten.foldl applyRec s).drv ∧
      t.elem = (s.loops.hostBlocks.flatten.foldl applyRec s).elem ∧ t.voa = (s.loops.hostBlocks.flatten.foldl applyRec s).voa ∧
      Frame [.ex, .lobes, .sorus, .drv, .loops] s t) ∧
  (∀ (e v : Nat) (s : State), ¬ ((s.elem e).state = .disabled ∧ s.cellClass (cellOf e) = 3) →
    (applyRec s ⟨e, v, 0, 0⟩).elem e = { s.elem e with phiC := toSigned 16 v, phiL := 0, phiW := 0 } ∧
    (applyRec s ⟨e, v, 0, 0⟩).drv =
      (driveElem (s.setElem e { s.elem e with phiC := toSigned 16 v, phiL := 0, phiW := 0 }) e).drv ∧
    (applyRec s ⟨e, v, 1, 0⟩).elem e = { s.elem e with theta := v } ∧
    (applyRec s ⟨e, v, 1, 0⟩).drv = (driveTrimmer (s.setElem e { s.elem e with theta := v }) e v).drv) ∧
  (∀ (e v : Nat) (s : State), (s.elem e).state = .disabled → s.cellClass (cellOf e) = 3 →
    applyRec s ⟨e, v, 0, 0⟩ = s ∧ applyRec s ⟨e, v, 1, 0⟩ = s) ∧
  (∀ (o v : Nat) (s : State), (s.voa o).state = .disabled → applyRec s ⟨40960 + o, v, 2, 0⟩ = s) ∧
  (∀ (o v : Nat) (s : State), (s.voa o).state ≠ .disabled →
    (applyRec s ⟨40960 + o, v, 2, 0⟩).voa o = { s.voa o with atten := v } ∧
    (applyRec s ⟨40960 + o, v, 2, 0⟩).drv = (driveVoa (s.setVoa o { s.voa o with atten := v }) o).drv)

/-- Fault-map writes (R64, R65). FAULT_APPLY is accepted once and refused BUSY while it waits. At the next scan boundary every staged write
takes effect, of several to one entry the last, and FAULT_GEN moves once to its next value where an entry changes; writes to entries that
the device has changed since are discarded and counted. Pin tests (R66, R67). PIN_TEST_CELL starts a test of the cell, and is refused BUSY while a test runs or a commit is
APPLYING or SETTLING. After 64 scans the test ends with the status of Table 2.10: NO_LIGHT without a lit input, DONE with one, AMBIGUOUS
with two. -/
def Obligations.FaultMapAndPinTests : Prop :=
  (∀ (sess : Nat) (s : State), s.accepts sess Obj.FAULT_APPLY 0 1 = true → s.fab.applyPending = false →
    ∃ t, exec (.faultApply sess) s = .next t ∧ t.answered sess 0 Obj.FAULT_APPLY 0 (.ack []) ∧
      t.fab = { s.fab with applyPending := true } ∧ Frame [.ex, .fab] s t) ∧
  (∀ (sess : Nat) (s : State), s.accepts sess Obj.FAULT_APPLY 0 1 = true → s.fab.applyPending = true →
    ∃ t, exec (.faultApply sess) s = .next t ∧ t.answered sess 0 Obj.FAULT_APPLY 0 (.nak .busy 0 0) ∧ Frame [.ex] s t) ∧
  (∀ (keep voids : List FaultWrite) (s : State), s.fab.applyPending = true → s.tick % 256 = 0 →
    (∀ w ∈ s.fab.staged, w.addr = Obj.CELL_CLASS ∨ w.addr = Obj.ELEMENT_FAULT) →
    keep = s.fab.staged.filter (fun w => !w.void) → voids = s.fab.staged.filter (fun w => w.void) →
    ∃ t, exec .faultMapApply s = .next t ∧ t.fab.staged = [] ∧ t.fab.applyPending = false ∧
      t.objN Obj.FAULT_DISCARDS 0 = min u32Max (s.objN Obj.FAULT_DISCARDS 0 + voids.length) ∧
      (∀ addr sel, addr = Obj.CELL_CLASS ∨ addr = Obj.ELEMENT_FAULT →
        t.obj addr sel = ((keep.reverse.find? fun w => w.addr == addr && w.sel == sel).map (·.value)).getD (s.obj addr sel)) ∧
      t.objN Obj.FAULT_GEN 0 = (if (keep.any fun w => t.faultEntry w.cell != s.faultEntry w.cell) = true
        then nextGen (s.objN Obj.FAULT_GEN 0) else s.objN Obj.FAULT_GEN 0)) ∧
  (∀ (sess : Nat) (k : Int) (s : State), s.accepts sess Obj.PIN_TEST_CELL 0 k = true → s.fab.pinTest = none →
    s.commitMoving = false →
    ∃ t, exec (.pinTestCell sess k) s = .next t ∧ t.answered sess 0 Obj.PIN_TEST_CELL 0 (.ack []) ∧
      t.fab = { s.fab with pinTest := some { cell := k.toNat, start := s.tick } } ∧ t.obj Obj.PIN_TEST_STATUS 0 = 1 ∧
      t.obj Obj.PIN_TEST_CELL 0 = k ∧ Frame [.objs, .ex, .fab] s t) ∧
  (∀ (sess : Nat) (k : Int) (s : State), s.accepts sess Obj.PIN_TEST_CELL 0 k = true →
    (s.fab.pinTest.isSome = true ∨ s.commitMoving = true) →
    ∃ t, exec (.pinTestCell sess k) s = .next t ∧ t.answered sess 0 Obj.PIN_TEST_CELL 0 (.nak .busy 0 0) ∧ Frame [.ex] s t) ∧
  (∀ (p : PinTest) (s : State), s.fab.pinTest = some p → 64 * 256 ≤ s.tick - p.start →
    ∃ t, exec .pinTestDone s = .next t ∧ t.fab = { s.fab with pinTest := none } ∧
      t.obj Obj.PIN_TEST_STATUS 0 = (match (s.litInputs p.cell).length with | 0 => 3 | 1 => 2 | _ => 4) ∧
      Frame [.objs, .ex, .sorus, .fab] s t) ∧
  (∀ (p : PinTest) (s : State), s.fab.pinTest = some p → s.tick - p.start < 64 * 256 →
    ∃ t, exec .pinTestDone s = .next t ∧ Frame [.ex] s t)

/-- Loads (R84 to R86). LOAD_SLOT of a slot that is free puts it in LOADING for the session and abandons the load of another slot that the
session had open; a slot in use is refused BUSY. LOAD_CLOSE before all bytes have come is refused STATE and changes nothing; after them it
makes the slot VALID, or INVALID with NAK FORMAT, or CRC where the CRC fails, or MEMORY where an uncorrectable word lies in it, the DETAIL being the
reason. A chunk of LOAD_DATA that is not the last is kept and stores nothing; the last one stores all bytes in the slot, and every
byte of HBM outside the slot stays. A load without LOAD_CLOSE lapses after 10 s. -/
def Obligations.ImageLoads : Prop :=
  (∀ (sess : Nat) (slot : Int) (s : State), s.accepts sess Obj.LOAD_SLOT 0 slot = true → s.inUse slot.toNat = false →
    s.loadingBy slot.toNat = none → s.slotState slot.toNat ≠ .routing →
    ∃ t, exec (.loadSlot sess slot) s = .next t ∧ t.answered sess 0 Obj.LOAD_SLOT 0 (.ack []) ∧
      t.slotState slot.toNat = .loading ∧
      (∃ l ∈ t.lib.loads, l.slot = slot.toNat ∧ l.session = some sess ∧ l.last = s.tick ∧ l.received = 0) ∧
      (∀ l, s.loadOf sess = some l → t.slotState l.slot = .empty)) ∧
  (∀ (sess : Nat) (slot : Int) (s : State), s.accepts sess Obj.LOAD_SLOT 0 slot = true → s.inUse slot.toNat = true →
    ∃ t, exec (.loadSlot sess slot) s = .next t ∧ t.answered sess 0 Obj.LOAD_SLOT 0 (.nak .busy 0 0) ∧ Frame [.ex] s t) ∧
  (∀ (sess : Nat) (l : Load) (s : State), s.accepts sess Obj.LOAD_CLOSE 0 1 = true → s.loadOf sess = some l →
    l.received < slotBytes →
    ∃ t, exec (.loadClose sess) s = .next t ∧ t.answered sess 0 Obj.LOAD_CLOSE 0 (.nak .state 0 0) ∧ Frame [.ex] s t) ∧
  (∀ (sess : Nat) (l : Load) (s : State), s.accepts sess Obj.LOAD_CLOSE 0 1 = true → s.loadOf sess = some l →
    slotBytes ≤ l.received → s.slotBad l.slot = false →
    ∃ t, exec (.loadClose sess) s = .next t ∧ t.loadOf sess = none ∧ sameMemory s t ∧
      match s.loadFault l.slot with
      | none => t.answered sess 0 Obj.LOAD_CLOSE 0 (.ack []) ∧ t.slotState l.slot = .valid
      | some r => t.answered sess 0 Obj.LOAD_CLOSE 0 (.nak (if r = 3 then .crc else .format) 0 r) ∧
          t.slotState l.slot = .invalid) ∧
  (∀ (sess : Nat) (l : Load) (s : State), s.accepts sess Obj.LOAD_CLOSE 0 1 = true → s.loadOf sess = some l →
    slotBytes ≤ l.received → s.slotBad l.slot = true →
    ∃ t, exec (.loadClose sess) s = .next t ∧ t.answered sess 0 Obj.LOAD_CLOSE 0 (.nak .memory 0 8) ∧ t.loadOf sess = none ∧
      t.slotState l.slot = .invalid ∧ sameMemory s t) ∧
  (∀ (sess req offset : Nat) (held bytes : List Byte) (tick0 : Nat) (l : Load) (s : State),
    s.acceptsOctets sess Obj.LOAD_DATA 0 = true → s.newReq sess req = true → s.loadOf sess = some l →
    (s.session sess).bind (·.2.block) = some { addr := Obj.LOAD_DATA, sel := 0, total := slotBytes, bytes := held, tick := tick0 } →
    held.length = offset → 0 < offset → 0 < bytes.length → bytes.length ≤ 8192 →
    (s.ex.owed.any fun o => o.kind == .park || o.kind == .resume) = false →
    (offset + bytes.length < slotBytes →
      ∃ t, exec (.blockWrite sess req Obj.LOAD_DATA 0 offset slotBytes bytes) s = .next t ∧ t.answered sess req 0 0 (.ack []) ∧
        ((t.session sess).bind (·.2.block)).map (·.bytes) = some (held ++ bytes) ∧ sameMemory s t) ∧
    (offset + bytes.length = slotBytes →
      ∃ t, exec (.blockWrite sess req Obj.LOAD_DATA 0 offset slotBytes bytes) s = .next t ∧ t.answered sess req 0 0 (.ack []) ∧
        (t.loadOf sess).map (·.received) = some slotBytes ∧
        (∀ i, i < slotBytes → memByte t.hbm (slotBase l.slot + i) = (held ++ bytes).getD i 0) ∧ sameOutside [l.slot] s t)) ∧
  (∀ (sess : Nat) (l : Load) (s : State), s.loadOf sess = some l → s.elapsed l.last 10000000000 = true →
    ∃ t, exec (.loadTimeout sess) s = .next t ∧ t.slotState l.slot = .empty ∧ t.loadOf sess = none ∧ Frame [.ex, .lib] s t)

/-- Slots erased, revalidated and searched (R89, R80, R81, R94). ERASE_SLOT makes the slot EMPTY and drops its queued refinements.
REVALIDATE of a VALID or STALE slot makes it VALID with the present FAULT_GEN in its header, or STALE; of an EMPTY one it is refused
STATE. FIND_HASH starts a search, which ends at the first VALID slot with the hash where that is current, and with all ones where none is.
-/
def Obligations.SlotCommands : Prop :=
  (∀ (sess : Nat) (slot : Int) (s : State), s.accepts sess Obj.ERASE_SLOT 0 slot = true → s.inUse slot.toNat = false →
    s.loadingBy slot.toNat = none → s.slotState slot.toNat ≠ .routing →
    ∃ t, exec (.eraseSlot sess slot) s = .next t ∧ t.answered sess 0 Obj.ERASE_SLOT 0 (.ack []) ∧
      t.slotState slot.toNat = .empty ∧ (∀ l ∈ t.lib.queue, l.slot ≠ slot.toNat) ∧
      (∀ k, k ≠ slot.toNat → t.slotState k = s.slotState k)) ∧
  (∀ (sess : Nat) (slot : Int) (s : State), s.accepts sess Obj.REVALIDATE 0 slot = true → s.memOk → s.lib.writing = none →
    (s.slotState slot.toNat = .valid ∨ s.slotState slot.toNat = .stale) → s.slotBad slot.toNat = false →
    s.objN Obj.FAULT_GEN 0 ≤ u32Max →
    ∃ t, exec (.revalidate sess slot) s = .next t ∧ t.answered sess 0 Obj.REVALIDATE 0 (.ack []) ∧
      if s.revalidates (s.slotPortMap slot.toNat) (s.slotRoutes slot.toNat) then
        t.slotState slot.toNat = .valid ∧ t.slotFaultGen slot.toNat = s.objN Obj.FAULT_GEN 0
      else t.slotState slot.toNat = .stale ∧ sameMemory s t) ∧
  (∀ (sess : Nat) (slot : Int) (s : State), s.accepts sess Obj.REVALIDATE 0 slot = true → s.lib.writing = none →
    s.slotState slot.toNat = .empty →
    ∃ t, exec (.revalidate sess slot) s = .next t ∧ t.answered sess 0 Obj.REVALIDATE 0 (.nak .state 0 0) ∧ Frame [.ex] s t) ∧
  (∀ (sess hash : Nat) (s : State), s.accepts sess Obj.FIND_HASH 0 hash = true →
    ∃ t, exec (.findHash sess hash) s = .next t ∧ t.answered sess 0 Obj.FIND_HASH 0 (.ack []) ∧ t.lib.search = some hash ∧
      t.obj Obj.FIND_HASH 0 = hash ∧ Frame [.objs, .ex, .lib] s t) ∧
  (∀ (h : Nat) (s : State), s.lib.search = some h → (∀ x ∈ s.lib.slots, x.2 = .valid → s.slotHash x.1 ≠ h) →
    ∃ t, exec .findComplete s = .next t ∧ t.lib.search = none ∧ t.obj Obj.FIND_RESULT 0 = 0xFFFFFFFF ∧ sameMemory s t) ∧
  (∀ (h k : Nat) (rest : SMap SlotState) (s : State), s.lib.search = some h → s.lib.slots = (k, .valid) :: rest →
    s.slotHash k = h → s.slotFaultGen k = s.objN Obj.FAULT_GEN 0 →
    ∃ t, exec .findComplete s = .next t ∧ t.lib.search = none ∧ t.obj Obj.FIND_RESULT 0 = k ∧ sameMemory s t)

/-- Route requests (R73, R90 to R92). ROUTE_APPLY of a vector that R73 allows puts a free slot in ROUTING and holds the request; a vector
with an entry out of range is refused RANGE and changes nothing; one that repeats an output is refused CONFLICT, ends the request with
CONFLICT, and neither the slot nor the staged request is touched; a slot in use, or a request that still runs, is refused BUSY. The router ends with DONE and the slot
VALID, or with NO_ROUTE: the slot's state, the load its host held open and, where a host had written into it, its bytes are as before the
request. -/
def Obligations.RouteRequests : Prop :=
  (∀ (sess slot : Nat) (v : List Nat) (s : State), s.accepts sess Obj.ROUTE_APPLY 0 1 = true →
    s.obj Obj.ROUTE_STATUS 0 ≠ 1 → s.obj Obj.ROUTE_STATUS 0 ≠ 6 → slot = (s.judged Obj.ROUTE_SLOT 0).toNat →
    v = vectorOf (s.judgedOct Obj.ROUTE_VECTOR 0) → vectorInRange v = true → vectorRepeats v = false → s.inUse slot = false →
    (∀ l, s.loadingBy slot = some l → l.session = some sess) → s.slotState slot ≠ .routing → (s.func 2).pending = none →
    s.hostMode 2 = false →
    ∃ t, exec (.routeApply sess) s = .next t ∧ t.answered sess 0 Obj.ROUTE_APPLY 0 (.ack []) ∧ t.slotState slot = .routing ∧
      t.obj Obj.ROUTE_STATUS 0 = 1 ∧ (∃ r, t.lib.route = some r ∧ r.slot = slot ∧ r.vector = v ∧ r.waitHost = false)) ∧
  (∀ (sess slot : Nat) (v : List Nat) (s : State), s.accepts sess Obj.ROUTE_APPLY 0 1 = true →
    s.obj Obj.ROUTE_STATUS 0 ≠ 1 → s.obj Obj.ROUTE_STATUS 0 ≠ 6 → slot = (s.judged Obj.ROUTE_SLOT 0).toNat →
    v = vectorOf (s.judgedOct Obj.ROUTE_VECTOR 0) →
    (vectorInRange v = false →
      ∃ t, exec (.routeApply sess) s = .next t ∧ t.answered sess 0 Obj.ROUTE_APPLY 0 (.nak .range 0 0) ∧ Frame [.ex] s t) ∧
    (vectorInRange v = true → vectorRepeats v = true →
      ∃ t, exec (.routeApply sess) s = .next t ∧ t.answered sess 0 Obj.ROUTE_APPLY 0 (.nak .conflict 0 0) ∧
        t.staged = s.staged ∧ t.stagedOcts = s.stagedOcts ∧ t.lib.slots = s.lib.slots ∧ t.obj Obj.ROUTE_STATUS 0 = 4 ∧ t.lib.route = none ∧ sameMemory s t) ∧
    (vectorInRange v = true → vectorRepeats v = false → s.inUse slot = true →
      ∃ t, exec (.routeApply sess) s = .next t ∧ t.answered sess 0 Obj.ROUTE_APPLY 0 (.nak .busy 0 0) ∧ Frame [.ex] s t)) ∧
  (∀ (sess : Nat) (s : State), s.accepts sess Obj.ROUTE_APPLY 0 1 = true →
    (s.obj Obj.ROUTE_STATUS 0 = 1 ∨ s.obj Obj.ROUTE_STATUS 0 = 6) →
    ∃ t, exec (.routeApply sess) s = .next t ∧ t.answered sess 0 Obj.ROUTE_APPLY 0 (.nak .busy 0 0) ∧ Frame [.ex] s t) ∧
  (∀ (us : Nat) (r : Route) (s : State), s.lib.route = some r → r.waitHost = false →
    ∃ t, exec (.routeDone us) s = .next t ∧ t.lib.route = none ∧
      match s.findRoute r.vector r.exclude with
      | some _ => t.slotState r.slot = .valid ∧ t.obj Obj.ROUTE_STATUS 0 = 2
      | none => t.obj Obj.ROUTE_STATUS 0 = 3 ∧ (r.load = none → t.slotState r.slot = r.prior) ∧
          (∀ l n, r.load = some l → l.session = some n → (s.session n).isSome = true → s.loadOf n = none →
            t.slotState r.slot = r.prior ∧ t.loadOf n = some l) ∧
          (r.hosted = false → sameMemory s t) ∧
          (r.hosted = true → Memory.wf r.before = true →
            (∀ a, slotBase r.slot ≤ a → a < slotBase r.slot + slotBytes → memByte t.hbm a = memByte r.before a) ∧
            (∀ a, a < slotBase r.slot ∨ slotBase r.slot + slotBytes ≤ a → memByte t.hbm a = memByte s.hbm a)))

/-- Refinement (R96 to R100). A queued write-back starts when the rate allows, the slot then WRITING and out of the queue. When it ends
the slot is VALID again with one more refinement counted, in its header and in REFINE_DONE, and no byte outside the slot has changed; an
uncorrectable error makes the slot INVALID instead. The host's WRITE queues a buffer and its DISCARD counts it. -/
def Obligations.Refinement : Prop :=
  (∀ (l : Latch) (rest : List Latch) (s : State), s.lib.queue = l :: rest → s.lib.writing = none → s.rateAllows = true →
    s.slotState l.slot = .valid →
    ∃ t, exec .writeBackStart s = .next t ∧ t.slotState l.slot = .writing ∧ t.lib.writing = some l ∧
      t.lib.lastWrite = some s.tick ∧ (∀ x ∈ t.lib.queue, x.slot ≠ l.slot) ∧ Frame [.ex, .lib] s t) ∧
  (∀ s : State, s.refineRate = 0 → ∃ t, exec .writeBackStart s = .next t ∧ Frame [.ex] s t) ∧
  (∀ (l : Latch) (s : State), s.lib.writing = some l → s.slotBad l.slot = false → s.lib.writingFrom = .valid → s.memOk →
    (∀ x ∈ l.elems, x.1 < 40960) → (∀ x ∈ l.voas, x.1 < 1024) →
    ∃ t, exec .writeBackDone s = .next t ∧ t.slotState l.slot = .valid ∧ t.lib.writing = none ∧
      t.objN Obj.REFINE_DONE 0 = min u32Max (s.objN Obj.REFINE_DONE 0 + 1) ∧
      t.slotRefineCount l.slot = min u32Max (s.slotRefineCount l.slot + 1) ∧
      (∀ a, a < slotBase l.slot ∨ slotBase l.slot + slotBytes ≤ a → memByte t.hbm a = memByte s.hbm a)) ∧
  (∀ (l : Latch) (s : State), s.lib.writing = some l → s.slotBad l.slot = true →
    ∃ t, exec .writeBackDone s = .next t ∧ t.slotState l.slot = .invalid ∧ t.lib.writing = none ∧ sameMemory s t) ∧
  (∀ (sess b : Nat) (x : RefineBuf) (s : State), s.accepts sess Obj.REFINE_DECIDE b 1 = true → mfind s.lib.bufs b = some x →
    s.lib.queue.length < 64 → (∀ l ∈ s.lib.queue, l.slot ≠ x.latch.slot) →
    ∃ t, exec (.refineDecideWrite sess b) s = .next t ∧ t.answered sess 0 Obj.REFINE_DECIDE b (.ack []) ∧
      t.lib.queue = s.lib.queue ++ [x.latch] ∧ mfind t.lib.bufs b = none) ∧
  (∀ (sess b : Nat) (x : RefineBuf) (s : State), s.accepts sess Obj.REFINE_DECIDE b 2 = true → mfind s.lib.bufs b = some x →
    ∃ t, exec (.refineDecideDiscard sess b) s = .next t ∧ t.answered sess 0 Obj.REFINE_DECIDE b (.ack []) ∧
      t.lib.queue = s.lib.queue ∧ mfind t.lib.bufs b = none ∧
      t.objN Obj.REFINE_DISCARDED 0 = min u32Max (s.objN Obj.REFINE_DISCARDED 0 + 1)) ∧
  (∀ (sess b : Nat) (s : State), s.accepts sess Obj.REFINE_DECIDE b 1 = true → mfind s.lib.bufs b = none →
    ∃ t, exec (.refineDecideWrite sess b) s = .next t ∧ t.answered sess 0 Obj.REFINE_DECIDE b (.nak .range 0 0) ∧
      Frame [.ex] s t)

/-- PREPARE (R107, R108). A PREPARE that a check of Table 4.3 refuses is answered with that NAK and leaves commits, drive outputs and
memory as they were. One whose slot is VALID and current, under Steady, is refused MEMORY where an uncorrectable word lies
in it, CRC where its checksum fails and BUDGET where its plan
needs too many waves or its heaters do not fit; otherwise a commit is PREPARED with what its slot stages, its grant is held and it is
acknowledged. No light moves in any case. -/
def Obligations.CommitsPrepared : Prop :=
  (∀ (sess req id slot flags : Nat) (n : Nak) (s : State), s.readyCommit sess = true → s.newReq sess req = true →
    s.prepareNak id slot flags = some n →
    ∃ t, exec (.prepare sess req id slot flags) s = .next t ∧ t.answered sess req 0 0 (.nak n 0 id) ∧ t.com = s.com ∧
      t.drv = s.drv ∧ sameMemory s t) ∧
  (∀ (sess req id slot flags : Nat) (c : Commit) (s : State), s.readyCommit sess = true → s.newReq sess req = true →
    s.prepareNak id slot flags = none → s.slotFaultGen slot = s.objN Obj.FAULT_GEN 0 → s.lib.writing = none →
    (∀ l ∈ s.lib.queue, l.slot ≠ slot) → s.slotBad slot = false → s.adaptLate = false → (s.func 4).pending = none →
    (s.func 5).pending = none →
    s.hostMode 5 = false → s.steady.frozen = false → s.steady.upsets = [] →
    c = s.stageCommit sess req id slot (bitOf flags 0 == 1) →
    ∃ t, exec (.prepare sess req id slot flags) s = .next t ∧ t.drv = s.drv ∧ sameMemory s t ∧
      if s.slotField slot 0x1C 4 ≠ s.slotCrc slot then
        t.answered sess req 0 0 (.nak .crc 0 id) ∧ t.com = s.com ∧ t.slotState slot = .invalid
      else if s.maxWaves c.spacing < c.waves ∨ s.heaterFits c.heat = false then
        t.answered sess req 0 0 (.nak .budget 0 id) ∧ t.com = s.com
      else
        (∃ body, t.answered sess req 0 0 (.ack body)) ∧ t.holds .commit id = true ∧
          ∃ d, t.com.live = s.com.live ++ [d] ∧ d.id = id ∧ d.slot = slot ∧ d.state = .prepared ∧ d.elems = c.elems ∧
            d.voas = c.voas ∧ d.waves = c.waves) ∧
  (∀ (sess req id slot flags : Nat) (s : State), s.readyCommit sess = true → s.newReq sess req = true →
    s.prepareNak id slot flags = none → s.slotFaultGen slot = s.objN Obj.FAULT_GEN 0 → s.lib.writing = none →
    (∀ l ∈ s.lib.queue, l.slot ≠ slot) → s.slotBad slot = true → s.adaptLate = false → (s.func 4).pending = none →
    ∃ t, exec (.prepare sess req id slot flags) s = .next t ∧ t.answered sess req 0 0 (.nak .memory 0 id) ∧ t.com = s.com ∧
      t.drv = s.drv ∧ t.slotState slot = .invalid ∧ sameMemory s t)

/-- COMMIT (R115, R116). Outside PARKED and SERVICE it is refused STATE. A PREPARED commit at a T at least 2 µs ahead, 5 µs from every
other, the counter once locked and no replanning needed, becomes ARMED at that T, with its PEER_ABORT flag, and is acknowledged with T;
where a condition fails it is refused with that condition's NAK and stays as it is. -/
def Obligations.CommitsArmed : Prop :=
  (∀ (sess req id : Nat) (T : Int) (flags : Nat) (s : State), s.readyCommit sess = true → s.newReq sess req = true →
    s.dev.state ≠ .parked → s.dev.state ≠ .service →
    ∃ t, exec (.commit sess req id T flags) s = .next t ∧ t.answered sess req 0 0 (.nak .state 0 id) ∧ Frame [.ex] s t) ∧
  (∀ (sess req id : Nat) (T : Int) (flags : Nat) (c : Commit) (s : State), s.readyCommit sess = true →
    s.newReq sess req = true → (s.dev.state = .parked ∨ s.dev.state = .service) → s.findCommit id = some c →
    c.state = .prepared → flags ≤ 1 → T ≠ 0 → typeAllows .time96 T = true → s.now + 2000 ≤ T → s.spaced id T = true →
    s.time.servo ≠ .unset → s.needsReplan c T = false →
    ∃ t, exec (.commit sess req id T flags) s = .next t ∧ t.answered sess req 0 0 (.ack (time96Be T)) ∧
      t.findCommit id = some { c with state := .armed, t := T, peerAbort := bitOf flags 0 == 1 } ∧ t.drv = s.drv ∧
      t.loops = s.loops) ∧
  (∀ (sess req id : Nat) (T : Int) (flags : Nat) (c : Commit) (n : Nak) (s : State), s.readyCommit sess = true →
    s.newReq sess req = true → (s.dev.state = .parked ∨ s.dev.state = .service) → s.findCommit id = some c →
    c.state = .prepared → flags ≤ 1 → T ≠ 0 → typeAllows .time96 T = true → s.commitNak id T false = some n →
    ∃ t, exec (.commit sess req id T flags) s = .next t ∧ t.answered sess req 0 0 (.nak n 0 id) ∧ Frame [.ex] s t)

/-- How a commit is abandoned (R110, R118, R119, R130). CANCEL of a PREPARED commit, or of an ARMED one at least 2 µs before its T,
PREPARE_TIMEOUT, and a peer abort that names an ARMED commit and its T in time, end the commit: it is no longer live, its log entry, where
the ring still holds it, says why, COMMITS_ABANDONED counts it, and no light moves. A later CANCEL is refused LATE, and a peer abort of no such commit is counted and
ignored. -/
def Obligations.CommitsAbandoned : Prop :=
  (∀ (sess req id : Nat) (c : Commit) (s : State), s.readyCommit sess = true → s.newReq sess req = true →
    s.findCommit id = some c → (c.state = .prepared ∨ c.state = .armed ∧ s.now + 2000 ≤ c.t) → s.inLog c = true →
    ∃ t, exec (.cancel sess req id) s = .next t ∧ t.answered sess req 0 0 (.ack []) ∧ t.findCommit id = none ∧
      (∃ e, mfind t.com.log c.logIndex = some e ∧ e.id = id ∧ e.state = .abandoned ∧ e.outcome = .cancelled) ∧
      t.objN Obj.COMMITS_ABANDONED 0 = min u32Max (s.objN Obj.COMMITS_ABANDONED 0 + 1) ∧ t.drv = s.drv) ∧
  (∀ (sess req id : Nat) (c : Commit) (s : State), s.readyCommit sess = true → s.newReq sess req = true →
    s.findCommit id = some c → c.state = .armed → c.t < s.now + 2000 →
    ∃ t, exec (.cancel sess req id) s = .next t ∧ t.answered sess req 0 0 (.nak .late 0 id) ∧ Frame [.ex] s t) ∧
  (∀ (id : Nat) (c : Commit) (s : State), s.findCommit id = some c → c.state = .prepared →
    s.elapsed c.preparedAt (1000000 * s.objN Obj.PREPARE_TIMEOUT 0) = true → s.inLog c = true →
    ∃ t, exec (.prepareTimeout id) s = .next t ∧ t.findCommit id = none ∧
      (∃ e, mfind t.com.log c.logIndex = some e ∧ e.id = id ∧ e.state = .abandoned ∧ e.outcome = .prepareTimeout) ∧
      t.objN Obj.COMMITS_ABANDONED 0 = min u32Max (s.objN Obj.COMMITS_ABANDONED 0 + 1) ∧ t.drv = s.drv) ∧
  (∀ (id source : Nat) (c : Commit) (s : State), s.findCommit id = some c → c.state = .armed → s.now + 2000 ≤ c.t → s.inLog c = true →
    ∃ t, exec (.peerAbort id c.t source) s = .next t ∧ t.findCommit id = none ∧
      (∃ e, mfind t.com.log c.logIndex = some e ∧ e.id = id ∧ e.state = .abandoned ∧ e.outcome = .peerAbort) ∧
      t.objN Obj.COMMITS_ABANDONED 0 = min u32Max (s.objN Obj.COMMITS_ABANDONED 0 + 1) ∧ t.drv = s.drv) ∧
  (∀ (id source : Nat) (T : Int) (s : State), s.findCommit id = none →
    ∃ t, exec (.peerAbort id T source) s = .next t ∧ t.com = s.com ∧ t.drv = s.drv ∧
      t.objN Obj.PEER_ABORTS_IGNORED 0 = min u32Max (s.objN Obj.PEER_ABORTS_IGNORED 0 + 1))

/-- How a commit is applied (R106, R120, R121, R123). At T an ARMED commit is APPLYING, its wave 0 begun, APPLIED_SLOT and APPLIED_DEST
hold its image, and a PARKED device is in SERVICE. A later wave begins the templates of its elements at WAVE_SPACING. With no lobe ACTIVE
neither happens (R325). A template that has
run its kick and hold leaves the staged code on its arm. When the last template has ended the commit is SETTLING. How a commit reaches
DONE (R126, R134): at the end of a scan in which no counted loop is other than LOCKED, with outcome LOCKED; at the end of the scan in
which SETTLE_TIMEOUT has passed since T, with outcome UNLOCKED. Its log entry says so, COMMITS_DONE counts it, and before that nothing
changes. -/
def Obligations.CommitsAppliedAndDone : Prop :=
  (∀ (id : Nat) (c : Commit) (s : State), s.findCommit id = some c → c.state = .armed → s.atT c.t = true → s.active.isSome = true →
    (∀ d ∈ s.com.live, d.id = id → d.state = .armed) →
    ∃ t d, exec (.commitT id) s = .next t ∧ t.findCommit id = some d ∧ d.state = .applying ∧ d.nextWave = 1 ∧
      d.tTick = s.tick ∧ t.obj Obj.APPLIED_SLOT 0 = c.slot ∧
      (∀ i < 1024, t.objN Obj.APPLIED_DEST i = c.portMap.getD i 0xFFFF) ∧ (s.dev.state = .parked → t.dev.state = .service)) ∧
  (∀ (id w : Nat) (c : Commit) (s : State), s.findCommit id = some c → c.state = .applying → w = c.nextWave → w < c.waves →
    c.tTick + w * c.spacing ≤ s.tick → s.active.isSome = true →
    ∃ t d, exec (.waveStart id w) s = .next t ∧ t.findCommit id = some d ∧ d.nextWave = w + 1 ∧
      (∀ e x, mfind c.elems e = some x → x.wave = some w → ∃ y, mfind d.elems e = some y ∧ y.began = some s.tick) ∧
      (∀ e x, mfind c.elems e = some x → x.wave ≠ some w → mfind d.elems e = some x)) ∧
  (∀ (id e b : Nat) (c : Commit) (x : StagedElem) (s : State), s.findCommit id = some c → mfind c.elems e = some x →
    x.began = some b → x.templPhase < 3 → x.d1 + x.d2 ≤ s.tick - b → s.gateOpen (bankOf (armA e)) = true → e < 40960 →
    s.dev.refclkLost = false → (s.bank (bankOf (armA e))).hold ≠ .holding → s.holdsWrites (armA e) = false → x.codeA ≤ 16383 →
    s.active.isSome = true →
    ∃ t d y, exec (.templatePhaseEnd id e) s = .next t ∧ t.findCommit id = some d ∧ mfind d.elems e = some y ∧
      y.templPhase = 3 ∧ (t.chan (armA e)).out = x.codeA ∧ t.loops = s.loops) ∧
  (∀ (id : Nat) (c : Commit) (s : State), s.findCommit id = some c → c.state = .applying → c.nextWave = c.waves →
    c.lastEnded = true →
    ∃ t, exec (.applyingEnd id) s = .next t ∧ t.findCommit id = some { c with state := .settling, lastEnd := s.tick } ∧
      t.drv = s.drv ∧ t.loops = s.loops) ∧
  (∀ (id : Nat) (c : Commit) (s : State), s.findCommit id = some c → c.state = .settling → s.tick % 256 = 0 →
    s.notLocked c = 0 → s.inLog c = true →
    ∃ t, exec (.commitDone id) s = .next t ∧ t.findCommit id = none ∧
      (∃ e, mfind t.com.log c.logIndex = some e ∧ e.id = id ∧ e.slot = c.slot ∧ e.state = .done ∧ e.outcome = .locked) ∧
      t.objN Obj.COMMITS_DONE 0 = min u32Max (s.objN Obj.COMMITS_DONE 0 + 1) ∧ t.drv = s.drv ∧ t.loops = s.loops) ∧
  (∀ (id : Nat) (c : Commit) (s : State), s.findCommit id = some c → c.state = .settling → s.tick % 256 = 0 →
    s.notLocked c ≠ 0 → c.t + 1000 * s.obj Obj.SETTLE_TIMEOUT 0 ≤ s.now → s.inLog c = true →
    ∃ t, exec (.settleTimeout id) s = .next t ∧ t.findCommit id = none ∧
      (∃ e, mfind t.com.log c.logIndex = some e ∧ e.id = id ∧ e.slot = c.slot ∧ e.state = .done ∧ e.outcome = .unlocked) ∧
      t.objN Obj.COMMITS_DONE 0 = min u32Max (s.objN Obj.COMMITS_DONE 0 + 1) ∧ t.drv = s.drv ∧ t.loops = s.loops) ∧
  (∀ (id : Nat) (c : Commit) (s : State), s.findCommit id = some c → c.state = .settling → s.notLocked c ≠ 0 →
    ∃ t, exec (.commitDone id) s = .next t ∧ Frame [.ex] s t) ∧
  (∀ (id w : Nat) (s : State), s.active = none →
    (∃ t, exec (.commitT id) s = .next t ∧ Frame [.ex] s t) ∧ ∃ t, exec (.waveStart id w) s = .next t ∧ Frame [.ex] s t)

/-- The slew limiter and the deglitcher (R197, R198, R203). At a period boundary a channel's output moves one step toward the newest
target accepted in an earlier tick, and not past it, and TARGET_REACHED says whether it is there; no other channel changes. A privileged
channel keeps its old output until one tick and DEGLITCH ticks later, when its track closes; then a channel that nothing else moves shows
its limiter's output. -/
def Obligations.SlewLimiter : Prop :=
  (∀ (u : Nat) (s : State), s.limiterActs u = true → (s.chan u).accepted < s.tick →
    ∃ t, exec (.slewPeriodBoundary u) s = .next t ∧
      (t.chan u).out = (if (s.chan u).out < (s.chan u).target
        then min ((s.chan u).out + s.objN Obj.SLEW_STEP u) (s.chan u).target
        else max ((s.chan u).out - s.objN Obj.SLEW_STEP u) (s.chan u).target) ∧
      (t.chan u).target = (s.chan u).target ∧ (t.chan u).reached = decide ((t.chan u).out = (s.chan u).target) ∧
      (chanKind u = 2 → (t.chan u).out ≠ (s.chan u).out →
        (t.chan u).held = some (s.outCode u, s.tick + 1 + s.objN Obj.DEGLITCH (u - 123904))) ∧
      (∀ v, v ≠ u → t.chan v = s.chan v) ∧ Frame [.ex, .drv] s t) ∧
  (∀ (u : Nat) (s : State), s.limiterActs u = true → s.tick ≤ (s.chan u).accepted →
    ∃ t, exec (.slewPeriodBoundary u) s = .next t ∧
      (t.chan u).out = limiterStep (s.chan u).out (s.objN Obj.SLEW_STEP u) (s.chan u).taken ∧
      (t.chan u).target = (s.chan u).target) ∧
  (∀ (u : Nat) (s : State), s.limiterActs u = false →
    ∃ t, exec (.slewPeriodBoundary u) s = .next t ∧ Frame [.ex] s t) ∧
  (∀ (n old k : Nat) (s : State), (s.chan (123904 + n)).held = some (old, k) → k ≤ s.tick → n < 64 →
    (s.bank (bankOf (123904 + n))).hold ≠ .holding →
    ∃ t, exec (.deglitchEnd n) s = .next t ∧ (t.chan (123904 + n)).held = none ∧
      ((s.chan (123904 + n)).motion = none → s.genOf (123904 + n) = none →
        t.outCode (123904 + n) = (s.chan (123904 + n)).out) ∧ (∀ v, v ≠ 123904 + n → t.chan v = s.chan v) ∧ Frame [.ex, .drv] s t) ∧
  (∀ (n old k : Nat) (s : State), (s.chan (123904 + n)).held = some (old, k) → s.tick < k →
    ∃ t, exec (.deglitchEnd n) s = .next t ∧ t.outCode (123904 + n) = old ∧ Frame [.ex] s t)

/-- Spans and generators (R194, R199, R200, R205, R206). SPAN_APPLY starts the span sequence of every channel whose staged span differs and
whose bank's gate is open, from its present output, and is refused BUSY while a commit is live. When the sequence has dwelt, the channel has its new span and that span's
zero code. GEN_APPLY puts the staged configuration of a generator in force, its counter started at once where GEN_START is 0 and otherwise at
the tick nearest that instant (R445), which for an instant already past at the apply is the model's choice (log entry 197); a channel that two generators would drive is refused CONFLICT. -/
def Obligations.SpansAndGenerators : Prop :=
  (∀ (sess : Nat) (s : State), s.accepts sess Obj.SPAN_APPLY 0 1 = true → s.com.live = [] → s.spanSeqRuns = false →
    msorted (s.stagedOf Obj.SPAN) = true →
    (∀ p ∈ s.stagedOf Obj.SPAN, s.spanBusy p.1 = false ∧ (p.1 < 81920 → s.newSpan (armA (p.1 / 2)) = s.newSpan (armB (p.1 / 2)))) →
    ∃ t, exec (.spanApply sess) s = .next t ∧ t.answered sess 0 Obj.SPAN_APPLY 0 (.ack []) ∧
      ∀ p ∈ s.stagedOf Obj.SPAN, p.2.toNat ≠ (s.chan p.1).span → s.gateOpen (bankOf p.1) = true →
        ∃ start, s.tick ≤ start ∧
          (t.chan p.1).motion = some (.spanSeq (s.motionFrom p.1 start) (s.limiterOut p.1) p.2.toNat)) ∧
  (∀ (sess : Nat) (s : State), s.accepts sess Obj.SPAN_APPLY 0 1 = true → s.com.live ≠ [] →
    ∃ t, exec (.spanApply sess) s = .next t ∧ t.answered sess 0 Obj.SPAN_APPLY 0 (.nak .busy 0 0) ∧ Frame [.ex] s t) ∧
  (∀ (u start from_ n : Nat) (s : State), (s.chan u).motion = some (.spanSeq start from_ n) → s.dwellEnd u start from_ ≤ s.tick →
    s.ticking = true → (s.bank (bankOf u)).safeStart = none → (s.bank (bankOf u)).hold ≠ .holding →
    ∃ t, exec (.spanDwellEnd u) s = .next t ∧ (t.chan u).span = n ∧ (t.chan u).out = zeroCode u n ∧ (t.chan u).motion = none ∧
      (∀ v, v ≠ u → t.chan v = s.chan v) ∧ Frame [.ex, .drv] s t) ∧
  (∀ (sess g : Nat) (s : State), s.accepts sess Obj.GEN_APPLY 0 1 = true → s.genStaged = [g] → s.genConflict = false →
    (s.genConfig g).on = true → chanKind (s.genConfig g).chan ≠ 1 → s.genBusy (s.genConfig g) = false →
    s.genGate g (s.genConfig g) = true →
    ∃ t, exec (.genApply sess) s = .next t ∧ t.answered sess 0 Obj.GEN_APPLY 0 (.ack []) ∧
      mfind t.drv.gens g = some { s.genConfig g with startTick := if (s.genConfig g).start = 0 then some s.tick else none } ∧
      (∀ k, k ≠ g → mfind t.drv.gens k = mfind s.drv.gens k)) ∧
  (∀ (sess : Nat) (s : State), s.accepts sess Obj.GEN_APPLY 0 1 = true → s.genConflict = true →
    ∃ t, exec (.genApply sess) s = .next t ∧ t.answered sess 0 Obj.GEN_APPLY 0 (.nak .conflict 0 0) ∧ Frame [.ex] s t) ∧
  (∀ (g : Nat) (c : Gen) (s : State), mfind s.drv.gens g = some c → c.startTick = none → s.atT c.start = true →
    ∃ t, exec (.genStartTime g) s = .next t ∧ mfind t.drv.gens g = some { c with startTick := some s.tick } ∧
      Frame [.ex, .drv] s t)

/-- Readback and spare lanes (R208 to R210, Table 7.7). A settled lane that agrees with its code has no failure counted, and one that differs by more
than READBACK_TOL has one; at the second in a row of a fast or heater lane an idle spare 32 is set to the lane, which is marked FAILED.
When the spare has settled it is switched to the lane's connection; the second comparison it passes there puts it in place, the
substitution is counted and the safe page is to be stored. That store begins once flash writes are permitted. -/
def Obligations.SpareLanes : Prop :=
  (∀ (b lane sensed : Nat) (s : State), s.drivenAt (chanOf b 0) = true → b < 3874 → lane < 32 →
    (s.chan (chanOf b lane)).lost = false → (s.chan (chanOf b lane)).loadFault = false →
    (s.chan (chanOf b lane)).laneFailed = false → (s.chan (chanOf b lane)).spare = none → s.loadLane ≠ some (chanOf b lane) →
    s.settled (chanOf b lane) = true →
    absDiff (s.outCode (chanOf b lane)) sensed ≤ s.objN Obj.READBACK_TOL (chanKind (chanOf b lane)) →
    ∃ t, exec (.readbackComparison b lane sensed) s = .next t ∧
      t.chan (chanOf b lane) = { s.chan (chanOf b lane) with sensed := sensed, unchecked := 0, fails := 0 } ∧
      Frame [.ex, .drv] s t) ∧
  (∀ (b lane sensed : Nat) (s : State), s.drivenAt (chanOf b 0) = true → b < 3872 → lane < 32 →
    (s.chan (chanOf b lane)).lost = false → (s.chan (chanOf b lane)).loadFault = false →
    (s.chan (chanOf b lane)).laneFailed = false → (s.chan (chanOf b lane)).spare = none → s.loadLane ≠ some (chanOf b lane) →
    s.settled (chanOf b lane) = true →
    s.objN Obj.READBACK_TOL (chanKind (chanOf b lane)) < absDiff (s.outCode (chanOf b lane)) sensed →
    (s.bank b).spare32 = .idle → s.cal.run = none → s.cal.back = none →
    ∃ t, exec (.readbackComparison b lane sensed) s = .next t ∧
      if (s.chan (chanOf b lane)).fails = 0 then
        (t.chan (chanOf b lane)).fails = 1 ∧ (t.chan (chanOf b lane)).laneFailed = false ∧ t.bank b = s.bank b
      else
        (t.chan (chanOf b lane)).laneFailed = true ∧ (t.chan (chanOf b lane)).switching = some s.tick ∧
          (t.bank b).spare32 = .lane lane) ∧
  (∀ (b lane k t0 : Nat) (s : State), (s.chan (chanOf b lane)).switching = some t0 → (s.bank b).spareOf lane = some k →
    t0 + (if chanKind (chanOf b lane) = 1 then 157 else 64) ≤ s.tick → (s.chan (chanOf b lane)).laneFailed = true →
    ∃ t, exec (.spareSwitchover b lane) s = .next t ∧ (t.chan (chanOf b lane)).spare = some k ∧
      (t.chan (chanOf b lane)).switching = none ∧ (t.chan (chanOf b lane)).passes = 0 ∧ (t.chan (chanOf b lane)).placed = false ∧
      (t.chan (chanOf b lane)).out = (s.chan (chanOf b lane)).out ∧ Frame [.ex, .drv] s t) ∧
  (∀ (b lane k sensed : Nat) (s : State), s.drivenAt (chanOf b 0) = true → b < 3872 → (k = 32 ∨ k = 33) →
    (s.bank b).spareState k = .lane lane → (s.chan (chanOf b lane)).spare = some k → (s.chan (chanOf b lane)).placed = false →
    (s.chan (chanOf b lane)).laneFailed = true → s.settled (chanOf b lane) = true →
    absDiff (s.outCode (chanOf b lane)) sensed ≤ s.objN Obj.READBACK_TOL (chanKind (chanOf b 0)) →
    ∃ t, exec (.readbackComparison b k sensed) s = .next t ∧ (t.chan (chanOf b lane)).sensed = sensed ∧
      if (s.chan (chanOf b lane)).passes = 0 then
        (t.chan (chanOf b lane)).passes = 1 ∧ (t.chan (chanOf b lane)).placed = false ∧ Frame [.ex, .drv] s t
      else
        (t.chan (chanOf b lane)).placed = true ∧ t.drv.spareMapDue.isSome = true ∧
          t.objN Obj.SUBSTITUTIONS 0 = min u32Max (s.objN Obj.SUBSTITUTIONS 0 + 1)) ∧
  (∀ s : State, s.drv.spareMapDue.isSome = true → s.flashOk = true → s.flashBusy = false → s.active.isSome = true →
    ∃ t, exec .spareMapStore s = .next t ∧ t.storing .safePage ∧ t.drv.spareMapDue = none ∧
      t.dev.page = some (s.fillPage s.pageNow))

/-- Hold states and safe pages (R217 to R219, R221). A NORMAL bank that has accepted no keep-alive for 64 scans is HOLDING, its codes
kept; after HOLD_TIMEOUT it is SAFE, the limiter target of each of its channels being that channel's safe code. A fixed ramp that has
reached its code ends there. SAFE_STORE and SAFE_REVERT begin the store of a page of the next generation, to be answered at its
completion, where its heaters fit the budget, and are refused BUDGET where they do not and STATE while flash writes are barred. The keep-alive of
the ACTIVE lobe, which every SCAN_BOUNDARY sends (`scanClose`), returns each HOLDING or SAFE bank whose gate takes its claim to NORMAL; a bank
that comes back from SAFE, no safe transition being commanded, keeps the codes it then holds.
What a SAFE_STORE writes for channels with nothing staged is the model's choice (log entry 29). -/
def Obligations.SafeValues : Prop :=
  (∀ (b l : Nat) (s : State), s.active = some l → s.lobes.gateBase ≤ (s.lobe l).claim → b ∉ s.shutBanks (s.lobe l).claim →
    msorted s.drv.banks = true → (s.bank b).hold ≠ .normal → b < 3874 →
    ((keepAlive s).bank b).hold = .normal ∧ (keepAlive s).drv.keepScan = some s.scan ∧ (keepAlive s).lastKeepOf b = some s.scan ∧
      ((s.bank b).hold = .safe → (s.bank b).commanded = false →
        ∀ i < 32, ((keepAlive s).chan (chanOf b i)).out = s.limiterOut (chanOf b i) ∧
          ((keepAlive s).chan (chanOf b i)).target = s.limiterOut (chanOf b i) ∧
          ((keepAlive s).chan (chanOf b i)).motion = none)) ∧
  (∀ (b l : Nat) (s : State), s.active = some l → b ∈ s.shutBanks (s.lobe l).claim →
    (keepAlive s).bank b = (if s.lobes.gateBase ≤ (s.lobe l).claim ∧ (s.bank b).lastKeep = none
      then { s.bank b with lastKeep := some s.drv.keepScan } else s.bank b)) ∧
  (∀ (b k : Nat) (s : State), s.lastKeepOf b = some k → k + 64 ≤ s.scan → (s.bank b).hold = .normal → b < 3874 →
    ∃ t, exec (.bankHolding b) s = .next t ∧ (t.bank b).hold = .holding ∧ (t.bank b).holdTick = s.tick ∧
      t.drv.chans = s.drv.chans ∧ Frame [.ex, .drv] s t) ∧
  (∀ (b k : Nat) (s : State), s.lastKeepOf b = some k → s.elapsed (256 * k) (1000 * s.objN Obj.HOLD_TIMEOUT 0) = true →
    (s.bank b).hold ≠ .safe → b < 3874 →
    ∃ t, exec (.driveSafe b) s = .next t ∧ (t.bank b).hold = .safe ∧ (t.bank b).safeStart = some s.tick ∧
      (∀ l < 32, (t.chan (chanOf b l)).target = s.safeCode (chanOf b l))) ∧
  (∀ (u start from_ goal num den : Nat) (s : State), (s.chan u).motion = some (.ramp start from_ goal num den) →
    s.limiterOut u = goal → (s.bank (bankOf u)).hold ≠ .holding →
    ∃ t, exec (.safeTransitionEnd u) s = .next t ∧ (t.chan u).out = goal ∧ (t.chan u).motion = none ∧
      (∀ v, v ≠ u → t.chan v = s.chan v) ∧ Frame [.ex, .drv] s t) ∧
  (∀ (sess : Nat) (p : SafePage) (s : State), s.accepts sess Obj.SAFE_STORE 0 1 = true → s.flashBusy = false → s.flashOk = true →
    s.stagedOf Obj.SAFE_CODE = [] → s.stagedOf Obj.SAFE_SPAN = [] → s.steady.frozen = false → s.steady.upsets = [] →
    p = s.fillPage { s.pageNow with gen := (s.pageNow.gen + 1) % 0x100000000 } →
    ∃ t, exec (.safeStore sess) s = .next t ∧
      if (s.pageHeat p : Int) ≤ 1000 * s.steady.budget * unitScale then
        t.storing .safePage ∧ t.dev.page = some p ∧ (∃ o ∈ t.ex.owed, o.kind = .safeStore ∧ o.sess = sess)
      else t.answered sess 0 Obj.SAFE_STORE 0 (.nak .budget 0 0) ∧ t.dev = s.dev) ∧
  (∀ (sess : Nat) (s : State), s.accepts sess Obj.SAFE_STORE 0 1 = true → s.flashBusy = false → s.flashOk = false →
    ∃ t, exec (.safeStore sess) s = .next t ∧ t.answered sess 0 Obj.SAFE_STORE 0 (.nak .state 0 0) ∧ Frame [.ex] s t) ∧
  (∀ (sess : Nat) (p : SafePage) (s : State), s.accepts sess Obj.SAFE_REVERT 0 1 = true → s.flashBusy = false → s.flashOk = true →
    s.steady.frozen = false → s.steady.upsets = [] →
    p = s.fillPage { gen := (s.pageNow.gen + 1) % 0x100000000, calGen := s.pageNow.calGen,
                     codes := s.pageNow.codes.filter fun e => decide (122880 ≤ e.1 ∧ e.1 < 123904) } →
    ∃ t, exec (.safeRevert sess) s = .next t ∧
      if (s.pageHeat p : Int) ≤ 1000 * s.steady.budget * unitScale then
        t.storing .safePage ∧ t.dev.page = some p ∧ (∃ o ∈ t.ex.owed, o.kind = .safeStore ∧ o.sess = sess)
      else t.answered sess 0 Obj.SAFE_REVERT 0 (.nak .budget 0 0) ∧ t.dev = s.dev)

/-- Banks, references and gain modes (R226, R236, R237). REF_READY is set when its timer has run, and not before. REF_ENABLE starts the
timer of a powered bank, 312,500 ticks, and clears REF_READY at once when cleared. BANK_POWER off is refused BUSY while the bank is in use
and otherwise clears REF_READY; on, every AUTO photodiode of the bank starts at gain 1 and the others keep theirs. A write of GAIN_MODE
leaves every gain as it is and is noted for the next scan boundary; taken there, a fixed mode of a bank that is ready sets the gain, four
scans of the photodiode are to be marked, and GAIN_CHANGES of its converter counts it. -/
def Obligations.BanksAndReferences : Prop :=
  (∀ (mb k : Nat) (s : State), (s.monBank mb).timer = some k → mb < 164 →
    ∃ t, exec (.refReady mb) s = .next t ∧
      if k ≤ s.tick then
        (t.monBank mb).ready = true ∧ (t.monBank mb).timer = none ∧ (t.monBank mb).readyAt = s.tick ∧ t.objN Obj.REF_READY mb = 1 ∧
          (∀ b, b ≠ mb → t.monBank b = s.monBank b) ∧ Frame [.objs, .ex, .mon] s t
      else Frame [.ex] s t) ∧
  (∀ (sess mb : Nat) (s : State), s.accepts sess Obj.REF_ENABLE mb 1 = true → s.obj Obj.BANK_POWER mb = 1 →
    (s.monBank mb).ready = false → (s.monBank mb).timer = none →
    ∃ t, exec (.refEnable sess mb 1) s = .next t ∧ t.answered sess 0 Obj.REF_ENABLE mb (.ack []) ∧ t.obj Obj.REF_ENABLE mb = 1 ∧
      t.monBank mb = { s.monBank mb with timer := some (s.tick + 312500) } ∧ (∀ b, b ≠ mb → t.monBank b = s.monBank b)) ∧
  (∀ (sess mb : Nat) (s : State), s.accepts sess Obj.REF_ENABLE mb 0 = true →
    ∃ t, exec (.refEnable sess mb 0) s = .next t ∧ t.answered sess 0 Obj.REF_ENABLE mb (.ack []) ∧ t.obj Obj.REF_ENABLE mb = 0 ∧
      (t.monBank mb).ready = false ∧ (t.monBank mb).timer = none ∧ t.obj Obj.REF_READY mb = 0 ∧
      (∀ b, b ≠ mb → t.monBank b = s.monBank b)) ∧
  (∀ (sess mb : Nat) (s : State), s.accepts sess Obj.BANK_POWER mb 0 = true → s.obj Obj.BANK_POWER mb = 1 →
    ∃ t, exec (.bankPower sess mb 0) s = .next t ∧
      if s.bankInUse mb = true then t.answered sess 0 Obj.BANK_POWER mb (.nak .busy 0 0) ∧ Frame [.ex] s t
      else
        t.answered sess 0 Obj.BANK_POWER mb (.ack []) ∧ t.obj Obj.BANK_POWER mb = 0 ∧ (t.monBank mb).on = false ∧
          (t.monBank mb).ready = false ∧
          (t.monBank mb).timer = none ∧ t.obj Obj.REF_READY mb = 0 ∧ t.mon.pds = s.mon.pds) ∧
  (∀ (sess mb : Nat) (s : State), s.accepts sess Obj.BANK_POWER mb 1 = true → s.obj Obj.BANK_POWER mb = 0 →
    ∃ t, exec (.bankPower sess mb 1) s = .next t ∧ t.answered sess 0 Obj.BANK_POWER mb (.ack []) ∧ t.obj Obj.BANK_POWER mb = 1 ∧
      (t.monBank mb).on = true ∧
      ∀ pd, if pd / 512 = mb ∧ s.objN Obj.GAIN_MODE pd = 0 then (t.pd pd).g = 0 ∧ (t.pd pd).settle = 0 else t.pd pd = s.pd pd) ∧
  (∀ (sess pd : Nat) (v : Int) (s : State), s.accepts sess Obj.GAIN_MODE pd v = true →
    ∃ t, exec (.gainMode sess pd v) s = .next t ∧ t.answered sess 0 Obj.GAIN_MODE pd (.ack []) ∧ t.obj Obj.GAIN_MODE pd = v ∧
      pd ∈ t.mon.gainPend ∧ t.mon.pds = s.mon.pds) ∧
  (∀ (pd g : Nat) (s : State), s.objN Obj.GAIN_MODE pd = g + 1 → (s.pd pd).g ≠ g → (s.monBank (pd / 512)).ready = true →
    ((takeGain s pd).pd pd).g = g ∧ ((takeGain s pd).pd pd).settle = 4 ∧ ((takeGain s pd).pd pd).gFrom = s.scan ∧
      (∀ k, k ≠ pd → (takeGain s pd).pd k = s.pd k) ∧
      (takeGain s pd).objN Obj.GAIN_CHANGES (pd / 32) = min u32Max (s.objN Obj.GAIN_CHANGES (pd / 32) + 1))

/-- Background checks and substitution (R238 to R240). A check that is due, of a converter with nothing queued and outside focus, advances
the slot pointer and compares: within CHECK_TOL no failure is counted, beyond it one is, and at the second in a row a converter whose bank
has a usable spare is to be substituted. At the scan boundary the spare stands in with its calibrated coefficients, staged writes of them
are discarded and DP_GEN increments. While the strobe does not tick nothing is checked. -/
def Obligations.ConverterChecks : Prop :=
  (∀ (cv code : Nat) (s : State), s.ticking = true → cv < 2624 → s.checkDue (cv / 16) (s.conv cv).lastCheck (s.conv cv).checkLate = true →
    s.unchecked cv = false → (s.conv cv).focus = none → (s.conv cv).queue = [] → (∀ q, (s.conv cv).injAt ≠ some (s.scan, q)) →
    (s.conv cv).spare = false → (s.conv cv).state ≠ 3 → (s.conv cv).substituteDue = false → (s.monBank (cv / 16)).spareCv = none →
    (s.monBank (cv / 16)).spareFailed = false → s.cal.run = none →
    ∃ t, exec (.converterCheck cv code) s = .next t ∧ t.objN Obj.CHECK_CODE cv = code ∧
      t.objN Obj.INJ_POINTER cv = ((s.conv cv).pointer + 1) % 16 ∧ (t.conv cv).pointer = ((s.conv cv).pointer + 1) % 16 ∧
      (t.conv cv).lastCheck = s.scan ∧ (t.monBank (cv / 16)).checkScan = some s.scan ∧ (t.conv cv).spare = false ∧
      (if absDiff code (s.objN Obj.CHECK_EXPECT cv) ≤ s.objN Obj.CHECK_TOL 0 then
        (t.conv cv).fails = 0 ∧ (t.conv cv).substituteDue = false
      else if (s.conv cv).fails = 0 then (t.conv cv).fails = 1 ∧ (t.conv cv).substituteDue = false
      else (t.conv cv).substituteDue = true) ∧
      (∀ k, k ≠ cv → t.conv k = s.conv k)) ∧
  (∀ (cv code : Nat) (s : State), s.ticking = false →
    ∃ t, exec (.converterCheck cv code) s = .next t ∧ Frame [.ex] s t) ∧
  (∀ (cv : Nat) (s : State), (s.conv cv).substituteDue = true → s.tick % 256 = 0 → (s.monBank (cv / 16)).spareCv = none →
    (s.monBank (cv / 16)).spareFailed = false →
    ∃ t, exec (.convSubstituted cv) s = .next t ∧ (t.conv cv).spare = true ∧ (t.conv cv).state = 2 ∧
      (t.conv cv).substituteDue = false ∧ (t.monBank (cv / 16)).spareCv = some cv ∧
      t.obj Obj.CONV_OFFSET cv = s.obj Obj.SPARE_OFFSET (cv / 16) ∧ t.obj Obj.CONV_GAIN cv = s.obj Obj.SPARE_GAIN (cv / 16) ∧
      t.stagedVal Obj.CONV_OFFSET cv = none ∧ t.stagedVal Obj.CONV_GAIN cv = none ∧
      t.objN Obj.DP_GEN 0 = nextGen (s.objN Obj.DP_GEN 0)) ∧
  (∀ (cv : Nat) (s : State), (s.conv cv).substituteDue = false →
    ∃ t, exec (.convSubstituted cv) s = .next t ∧ Frame [.ex] s t)

/-- Injected conversions and focus (R241, R242, R244 to R247). INJ_APPLY joins the converter's queue, or is refused FULL, NOT_READY or
BUSY in focus; the conversion the host asked for completes with its word in INJ_RESULT and the slot pointer one further. FOCUS_START takes
the staged focus for the next scan boundary, is refused FULL with 64 converters in focus and BUSY with an injection queued or a check
owed; at the boundary the converter is in focus, and after its scans, or when stopped, it is not. -/
def Obligations.InjectionsAndFocus : Prop :=
  (∀ (sess cv : Nat) (s : State), s.accepts sess Obj.INJ_APPLY 0 1 = true → cv = (s.judged Obj.INJ_CONVERTER 0).toNat →
    s.obj Obj.INJ_STATUS 0 ≠ 1 →
    ∃ t, exec (.injApply sess) s = .next t ∧
      if 4 ≤ (s.conv cv).queue.length then t.answered sess 0 Obj.INJ_APPLY 0 (.nak .full 0 0) ∧ Frame [.ex] s t
      else if (s.monBank (cv / 16)).ready = false then t.answered sess 0 Obj.INJ_APPLY 0 (.nak .notReady 0 0) ∧ Frame [.ex] s t
      else if (s.conv cv).focus.isSome then t.answered sess 0 Obj.INJ_APPLY 0 (.nak .busy 0 0) ∧ Frame [.ex] s t
      else
        t.answered sess 0 Obj.INJ_APPLY 0 (.ack []) ∧ t.objN Obj.INJ_STATUS 0 = 1 ∧
          t.conv cv = { s.conv cv with
            queue := (s.conv cv).queue ++ [{ source := t.objN Obj.INJ_SOURCE 0, host := true, scan := s.scan }] } ∧
          (∀ k, k ≠ cv → t.conv k = s.conv k)) ∧
  (∀ (cv code n source scan p : Nat) (ov : Bool) (rest : List Inj) (s : State), s.ticking = true →
    (s.conv cv).queue = { source := source, host := true, scan := scan } :: rest → p = (s.conv cv).pointer → n = s.sampleScan p →
    scan < n → (∀ m q, (s.conv cv).injAt = some (m, q) → m < n) → (s.conv cv).focus = none →
    ∃ t, exec (.injectionDone cv code ov) s = .next t ∧ t.objN Obj.INJ_STATUS 0 = 2 ∧
      t.objN Obj.INJ_RESULT 0 = rawWord (if ov then 4095 else min code 4095)
        (if source < 32 then (s.pd (32 * cv + source)).gainAt n else 0) ov (if ov then some 3 else none)
        ((s.conv cv).spareAt n) (2 * p + 1) ∧
      t.conv cv = { s.conv cv with queue := rest, injAt := some (n, p), pointer := (p + 1) % 16 } ∧
      t.objN Obj.INJ_POINTER cv = (p + 1) % 16 ∧ (∀ k, k ≠ cv → t.conv k = s.conv k)) ∧
  (∀ (sess cv : Nat) (s : State), s.accepts sess Obj.FOCUS_START cv 1 = true → s.therm.state < 2 →
    ∃ t, exec (.focusStart sess cv) s = .next t ∧
      if 64 ≤ s.focusCount cv then t.answered sess 0 Obj.FOCUS_START cv (.nak .full 0 0) ∧ Frame [.ex] s t
      else if (s.conv cv).queue ≠ [] ∨ (s.conv cv).checkLate = true then
        t.answered sess 0 Obj.FOCUS_START cv (.nak .busy 0 0) ∧ Frame [.ex] s t
      else
        t.answered sess 0 Obj.FOCUS_START cv (.ack []) ∧
          t.conv cv = { s.conv cv with
            focusStop := false,
            focusNext := some ⟨t.objN Obj.FOCUS_INPUT cv, t.obj Obj.FOCUS_PAIR cv == 1, t.objN Obj.FOCUS_SCANS cv, 0⟩ } ∧
          t.obj Obj.FOCUS_INPUT cv = s.judged Obj.FOCUS_INPUT cv ∧ t.obj Obj.FOCUS_PAIR cv = s.judged Obj.FOCUS_PAIR cv ∧
          t.obj Obj.FOCUS_SCANS cv = s.judged Obj.FOCUS_SCANS cv) ∧
  (∀ (sess cv : Nat) (s : State), s.accepts sess Obj.FOCUS_START cv 2 = true →
    ∃ t, exec (.focusStop sess cv) s = .next t ∧ t.answered sess 0 Obj.FOCUS_START cv (.ack []) ∧
      t.conv cv = { s.conv cv with focusNext := none, focusStop := (s.conv cv).focus.isSome } ∧ Frame [.ex, .mon] s t) ∧
  (∀ (cv : Nat) (f : Focus) (s : State), (s.conv cv).focusNext = some f → s.tick % 256 = 0 →
    ∃ t, exec (.focusEntry cv) s = .next t ∧ (t.conv cv).focus = some { f with start := s.scan } ∧ (t.conv cv).focusNext = none ∧
      (t.conv cv).muxFirst = some s.scan ∧ (∀ k, k ≠ cv → t.conv k = s.conv k) ∧ Frame [.ex, .mon] s t) ∧
  (∀ (cv : Nat) (f : Focus) (s : State), (s.conv cv).focus = some f → s.tick % 256 = 0 →
    ∃ t, exec (.focusEnded cv) s = .next t ∧
      if f.start + f.scans ≤ s.scan ∨ (s.conv cv).focusStop = true ∨ 2 ≤ s.therm.state then
        (t.conv cv).focus = none ∧ (t.conv cv).focusStop = false ∧ (t.conv cv).muxFirst = some s.scan ∧
          (∀ k, k ≠ cv → t.conv k = s.conv k)
      else Frame [.ex] s t)

/-- Set-point inputs (R248 to R251). Each scan an SPA code moves the filter, by the SPA_SHIFT in force in the scan, and the value of R158
with it; after 4 codes in a row above
SPA_LIMIT the input is invalid, and after 64 at or below it is valid again with its filter at that code. A window of an SPP input with 2
or more edges, of 2^SPP_WIN scans and not before they have passed, gives frequency, duty and value, and leaves the input valid up to 1,200,000 Hz and invalid above; a window with fewer leaves
them; after SPP_TIMEOUT without an edge the input is invalid. Averaging channels and conditioning coefficients (R184, R187, R189). A full
window stores its mean, its sum and a tag, counts AVG_SEQ on and starts again; a window not yet full stores nothing. A write of AVG_PD or
AVG_LEN waits for the scan boundary, and a photodiode the channel's Spindle does not receive is refused RANGE. DP_APPLY is refused BUSY
while one is pending; at the next scan boundary everything staged takes effect and DP_GEN increments. -/
def Obligations.SetPointsAndAverages : Prop :=
  (∀ (n code : Nat) (x : SetIn) (y : Int) (s : State), n < 4 → s.ticking = true → x = mget {} s.mon.spa n → x.valid = true →
    y = x.y + floorDiv (((min code 4095 * 16 : Nat) : Int) - x.y) (2 ^ x.shift : Nat) →
    ∃ t, exec (.spaSample n code) s = .next t ∧ (mget {} t.mon.spa n).y = y ∧ t.objN Obj.SPA_RAW n = min code 4095 ∧
      t.obj Obj.SPA_VALUE n = min 32767 (floorDiv (y * 5) 8) ∧
      if min code 4095 ≤ s.objN Obj.SPA_LIMIT n then
        (mget {} t.mon.spa n).valid = true ∧ t.objN Obj.SPA_VALID n = 1 ∧ t.loops = s.loops
      else if x.badRun < 3 then
        (mget {} t.mon.spa n).valid = true ∧ (mget {} t.mon.spa n).badRun = x.badRun + 1 ∧ t.objN Obj.SPA_VALID n = 1
      else (mget {} t.mon.spa n).valid = false ∧ t.objN Obj.SPA_VALID n = 0) ∧
  (∀ (n code : Nat) (x : SetIn) (s : State), n < 4 → s.ticking = true → x = mget {} s.mon.spa n → x.valid = false →
    min code 4095 ≤ s.objN Obj.SPA_LIMIT n →
    ∃ t, exec (.spaSample n code) s = .next t ∧
      if 63 ≤ x.goodRun then
        (mget {} t.mon.spa n).valid = true ∧ (mget {} t.mon.spa n).y = 16 * (min code 4095 : Nat) ∧ t.objN Obj.SPA_VALID n = 1
      else (mget {} t.mon.spa n).valid = false ∧ (mget {} t.mon.spa n).goodRun = x.goodRun + 1 ∧ t.objN Obj.SPA_VALID n = 0) ∧
  (∀ (n edges span high freq duty : Nat) (s : State), n < 4 → s.ticking = true → 2 ≤ edges → 0 < span →
    0 < (mget {} s.mon.spp n).ended s.scan → span ≤ 256 * 2 ^ (mget {} s.mon.spp n).win → high ≤ span →
    freq = (edges - 1) * 156250000 / span → duty = min 32767 (32768 * high / span) →
    ∃ t, exec (.sppWindowEnd n edges span high) s = .next t ∧ t.objN Obj.SPP_FREQ n = freq ∧ t.objN Obj.SPP_DUTY n = duty ∧
      t.obj Obj.SPP_VALUE n = s.sppValue n (mget {} s.mon.spp n).mode duty freq ∧
      t.objN Obj.SPP_VALID n = (if freq ≤ 1200000 then 1 else 0) ∧
      (mget {} t.mon.spp n).valid = decide (freq ≤ 1200000)) ∧
  (∀ (n edges span high : Nat) (s : State), (mget {} s.mon.spp n).ended s.scan = 0 →
    ∃ t, exec (.sppWindowEnd n edges span high) s = .next t ∧ Frame [.ex] s t) ∧
  (∀ (n edges span high : Nat) (s : State), n < 4 → s.ticking = true → edges < 2 →
    ∃ t, exec (.sppWindowEnd n edges span high) s = .next t ∧ (mget {} t.mon.spp n).valid = (mget {} s.mon.spp n).valid ∧
      (mget {} t.mon.spp n).x = (mget {} s.mon.spp n).x ∧ t.obj Obj.SPP_FREQ n = s.obj Obj.SPP_FREQ n ∧
      t.obj Obj.SPP_DUTY n = s.obj Obj.SPP_DUTY n ∧ t.obj Obj.SPP_VALUE n = s.obj Obj.SPP_VALUE n ∧ t.loops = s.loops) ∧
  (∀ (n : Nat) (s : State), n < 4 → (mget {} s.mon.spp n).valid = true →
    ∃ t, exec (.sppTimeout n) s = .next t ∧
      if s.elapsed (mget {} s.mon.spp n).lastEdge (1000000 * s.objN Obj.SPP_TIMEOUT n) = true then
        (mget {} t.mon.spp n).valid = false ∧ t.objN Obj.SPP_VALID n = 0
      else Frame [.ex] s t) ∧
  (∀ (n : Nat) (a : Avg) (s : State), n < 672 → a = s.avg n →
    ∃ t, exec (.avgWindowEnd n) s = .next t ∧
      if 2 ^ a.len ≤ a.count then
        t.obj Obj.AVG_MEAN n = (if a.sum.guard = 0 then clampInt (-32768) 32767 (floorDiv a.sum.x (32768 * 2 ^ a.len : Nat))
          else if 0 < a.sum.guard then 32767 else -32768) ∧
        t.obj Obj.AVG_SUM n = (if a.sum.guard = 0 then clampInt (-2147483648) 2147483647 (floorDiv a.sum.x 32768)
          else if 0 < a.sum.guard then 2147483647 else -2147483648) ∧
        t.objN Obj.AVG_TAG n = boolNat ((a.sum.storeQ15 (-(a.len : Int))).sat || (a.sum.storeI32 0).sat) +
          2 * boolNat (a.sum.storeQ15 (-(a.len : Int))).inv ∧
        t.objN Obj.AVG_SEQ n = (s.objN Obj.AVG_SEQ n + 1) % 0x100000000 ∧
        t.avg n = { a with sum := {}, count := 0 } ∧ (∀ k, k ≠ n → t.avg k = s.avg k)
      else Frame [.ex] s t) ∧
  (∀ (sess n : Nat) (v : Int) (s : State), s.accepts sess Obj.AVG_LEN n v = true →
    ∃ t, exec (.avgConfig sess n true v) s = .next t ∧ t.answered sess 0 Obj.AVG_LEN n (.ack []) ∧ t.obj Obj.AVG_LEN n = v ∧
      t.avg n = { s.avg n with change := true, pd := some (s.avgPd n) } ∧ (∀ k, k ≠ n → t.avg k = s.avg k)) ∧
  (∀ (sess n : Nat) (v : Int) (s : State), s.accepts sess Obj.AVG_PD n v = true →
    ∃ t, exec (.avgConfig sess n false v) s = .next t ∧
      if n / 16 ∈ receivers v.toNat then
        t.answered sess 0 Obj.AVG_PD n (.ack []) ∧ t.obj Obj.AVG_PD n = v ∧ t.avgPd n = s.avgPd n ∧ (t.avg n).change = true ∧
          (t.avg n).sum = (s.avg n).sum
      else t.answered sess 0 Obj.AVG_PD n (.nak .range 0 0) ∧ Frame [.ex] s t) ∧
  (∀ (sess : Nat) (s : State), s.accepts sess Obj.DP_APPLY 0 1 = true →
    ∃ t, exec (.dpApply sess) s = .next t ∧
      if s.mon.dpPending = true then t.answered sess 0 Obj.DP_APPLY 0 (.nak .busy 0 0) ∧ Frame [.ex] s t
      else t.answered sess 0 Obj.DP_APPLY 0 (.ack []) ∧ t.mon = { s.mon with dpPending := true } ∧ Frame [.ex, .mon] s t) ∧
  (∀ s : State, s.mon.dpPending = true → s.tick % 256 = 0 →
    ∃ t, exec .dpApplied s = .next t ∧ t.mon.dpPending = false ∧ t.objN Obj.DP_GEN 0 = nextGen (s.objN Obj.DP_GEN 0) ∧
      (∀ a ∈ [Obj.CONV_OFFSET, Obj.CONV_GAIN, Obj.PD_GAIN, Obj.FILT_LEN, Obj.FILT_SET], msorted (s.stagedOf a) = true →
        t.stagedOf a = [] ∧ ∀ p ∈ s.stagedOf a, t.obj a p.1 = p.2)) ∧
  (∀ s : State, (s.mon.dpPending = false ∨ s.tick % 256 ≠ 0) → ∃ t, exec .dpApplied s = .next t ∧ Frame [.ex] s t)

/-- Calibration requests and runs (R261 to R264, R277). CAL_APPLY joins the staged request to the queue, or is refused STATE, RANGE, FULL
or CONFLICT, in that order. The head of the queue starts when the device is in PARKED or SERVICE below THROTTLE: a request that fails a
need of Table 9.3 ends REFUSED with that NAK code, a request for every item where one of them fails its own; one whose converter has an
injection pending is DEFERRED, one that heats waits until its grant is held, and one that heats nothing runs, its first step taken as soon
as it may be. No grant in time ends it ABORTED with reason 6. A run whose measurement is complete is applied or held PENDING as
CAL_AUTO_ACCEPT says, and the next item follows where the request is for every one; a run that is cut short ends ABORTED with its reason,
and CAL_ABORT ends it with reason 4 and empties the queue.
The needs of a request for every item and the code of a need that fails are the model's reading (log entries 37 and 142). -/
def Obligations.CalibrationRuns : Prop :=
  (∀ (sess kind sel : Nat) (s : State), s.accepts sess Obj.CAL_APPLY 0 1 = true → kind = (s.judged Obj.CAL_KIND 0).toNat →
    sel = (s.judged Obj.CAL_SELECTOR 0).toNat →
    ∃ t, exec (.calApply sess) s = .next t ∧
      if s.dev.state ≠ .parked ∧ s.dev.state ≠ .service then t.answered sess 0 Obj.CAL_APPLY 0 (.nak .state 0 0) ∧ Frame [.ex] s t
      else if calSelOk kind sel = false then t.answered sess 0 Obj.CAL_APPLY 0 (.nak .range 0 0) ∧ Frame [.ex] s t
      else if 16 ≤ s.calQueued then t.answered sess 0 Obj.CAL_APPLY 0 (.nak .full 0 0) ∧ Frame [.ex] s t
      else if sel = 0xFFFFFFFF ∧ s.obj Obj.CAL_AUTO_ACCEPT 0 = 0 then
        t.answered sess 0 Obj.CAL_APPLY 0 (.nak .conflict 0 0) ∧ Frame [.ex] s t
      else
        t.answered sess 0 Obj.CAL_APPLY 0 (.ack []) ∧ t.cal.queue = s.cal.queue ++ [{ seq := s.cal.nextSeq, kind, sel }] ∧
          t.cal.nextSeq = (s.cal.nextSeq + 1) % 0x100000000 ∧ t.cal.run = s.cal.run) ∧
  (∀ (q q1 : CalReq) (rest : List CalReq) (s : State), s.calState = true → s.therm.state < 2 → s.cal.apply = none →
    s.cal.back = none → s.cal.run = none → s.cal.queue = q :: rest →
    q1 = { q with sel := if q.sel = 0xFFFFFFFF then 0 else q.sel } →
    ∃ t, exec .calStart s = .next t ∧ t.cal.queue = rest ∧
      match s.headNeeds q with
      | some n =>
        t.cal.run = none ∧ t.objN Obj.CAL_LAST_SEQ 0 = q.seq ∧ t.objN Obj.CAL_LAST_STATUS 0 = 8 ∧ t.objN Obj.CAL_LAST_FLAGS 0 = n.code
      | none =>
        ∃ r, t.cal.run = some r ∧ r.req = q ∧ r.item = q1.sel ∧
          r.phase = (if ((calConv q1).any fun cv => !(s.conv cv).queue.isEmpty) = true then .deferred
            else if s.calHeat q1 = none ∨ t.holds .calibration q.seq = true then .running else .waitGrant) ∧
          r.due = (decide (r.phase = .running) && !s.startReady q1)) ∧
  (∀ (r : CalRun) (s : State), s.cal.run = some r → r.phase = .waitGrant →
    ∃ t, exec .calGrantTimeout s = .next t ∧
      if s.elapsed r.since (1000000 * s.objN Obj.CAL_GRANT_TIMEOUT 0) = true ∧ s.holds .calibration r.req.seq = false then
        t.cal.run = none ∧ t.objN Obj.CAL_LAST_SEQ 0 = r.req.seq ∧ t.objN Obj.CAL_LAST_STATUS 0 = 9 ∧ t.objN Obj.CAL_LAST_FLAGS 0 = 6
      else Frame [.ex] s t) ∧
  (∀ (r : CalRun) (why : Nat) (res : CalResult) (s : State), s.cal.run = some r → r.measures = true → res.aborted = some why →
    ∃ t, exec (.calRunEnd res) s = .next t ∧ t.cal.run = none ∧ t.cal.apply = s.cal.apply ∧
      t.objN Obj.CAL_LAST_SEQ 0 = r.req.seq ∧ t.objN Obj.CAL_LAST_STATUS 0 = 9 ∧ t.objN Obj.CAL_LAST_FLAGS 0 = why) ∧
  (∀ (r : CalRun) (res out : CalResult) (s : State), s.cal.run = some r → r.measures = true → res.aborted = none →
    s.runOver r res = true → (r.req.kind = 6 → 1024 ≤ r.count) → out = s.calCompute r res →
    ∃ t, exec (.calRunEnd res) s = .next t ∧
      if s.obj Obj.CAL_AUTO_ACCEPT 0 = 1 then
        t.cal.apply = some (r.one, out) ∧
        if r.req.sel = 0xFFFFFFFF ∧ r.item + 1 < calItems r.req.kind then
          ∃ n, t.cal.run = some n ∧ n.req = r.req ∧ n.item = r.item + 1 ∧ n.phase = .queued
        else
          t.cal.run = none ∧ t.objN Obj.CAL_LAST_SEQ 0 = r.req.seq ∧ t.objN Obj.CAL_LAST_STATUS 0 = 6 ∧
            t.obj Obj.CAL_LAST_QUALITY 0 = out.quality ∧ t.objN Obj.CAL_LAST_FLAGS 0 = (if r.clamped then 256 else out.flags)
      else
        t.cal.run = some { req := r.req, item := r.item, phase := .pending, since := s.tick, clamped := r.clamped, result := some out } ∧
          t.cal.apply = s.cal.apply) ∧
  (∀ (r : CalRun) (res : CalResult) (s : State), s.cal.run = some r → r.measures = true → res.aborted = none →
    s.runOver r res = false → ∃ t, exec (.calRunEnd res) s = .next t ∧ Frame [.ex] s t) ∧
  (∀ (sess : Nat) (s : State), s.accepts sess Obj.CAL_ABORT 0 1 = true →
    ∃ t, exec (.calAbort sess) s = .next t ∧ t.answered sess 0 Obj.CAL_ABORT 0 (.ack []) ∧ t.cal.queue = [] ∧
      match s.cal.run with
      | none => t.cal.run = none ∧ Frame [.ex, .cal] s t
      | some r =>
        if r.phase = .pending then t.cal.run = some r ∧ Frame [.ex, .cal] s t
        else t.cal.run = none ∧ t.objN Obj.CAL_LAST_SEQ 0 = r.req.seq ∧ t.objN Obj.CAL_LAST_STATUS 0 = 9 ∧
          t.objN Obj.CAL_LAST_FLAGS 0 = 4)

/-- Calibration results and values (R274, R277 to R280). A PENDING result is to be applied after CAL_ACCEPT 1, and is discarded by CAL_ACCEPT 2
and at CAL_ACCEPT_TIMEOUT; with none held CAL_ACCEPT is refused STATE. At a scan boundary a result's values are in force, and CAL_GEN increments
once where one of R279 changes. CAL_STORE begins the store, or is refused BUSY while a store runs and STATE while flash writes are barred;
the automatic store is made when its interval ends. CAL_VALUES_APPLY and TEMPLATE_APPLY take the staged values, or are refused RANGE.
When values applied count is deduced (log entry 143). -/
def Obligations.CalibrationValues : Prop :=
  (∀ (sess : Nat) (s : State), s.accepts sess Obj.CAL_ACCEPT 0 1 = true →
    ∃ t, exec (.calAccept sess) s = .next t ∧
      match s.pendingCal with
      | none => t.answered sess 0 Obj.CAL_ACCEPT 0 (.nak .state 0 0) ∧ Frame [.ex] s t
      | some (r, x) =>
        t.answered sess 0 Obj.CAL_ACCEPT 0 (.ack []) ∧ t.cal.apply = some (r.one, x) ∧
          if r.req.sel = 0xFFFFFFFF ∧ r.item + 1 < calItems r.req.kind then
            ∃ n, t.cal.run = some n ∧ n.req = r.req ∧ n.item = r.item + 1 ∧ n.phase = .queued
          else
            t.cal.run = none ∧ t.objN Obj.CAL_LAST_SEQ 0 = r.req.seq ∧ t.objN Obj.CAL_LAST_STATUS 0 = 6 ∧
              t.obj Obj.CAL_LAST_QUALITY 0 = x.quality) ∧
  (∀ (sess : Nat) (s : State), s.accepts sess Obj.CAL_ACCEPT 0 2 = true →
    ∃ t, exec (.calDiscard sess) s = .next t ∧
      match s.pendingCal with
      | none => t.answered sess 0 Obj.CAL_ACCEPT 0 (.nak .state 0 0) ∧ Frame [.ex] s t
      | some (r, x) =>
        t.answered sess 0 Obj.CAL_ACCEPT 0 (.ack []) ∧ t.cal.run = none ∧ t.objN Obj.CAL_LAST_SEQ 0 = r.req.seq ∧
          t.objN Obj.CAL_LAST_STATUS 0 = 7 ∧ t.obj Obj.CAL_LAST_QUALITY 0 = x.quality ∧ t.cal.apply = s.cal.apply) ∧
  (∀ (r : CalRun) (x : CalResult) (s : State), s.pendingCal = some (r, x) →
    ∃ t, exec .calAcceptTimeout s = .next t ∧
      if s.elapsed r.since (1000000000 * s.objN Obj.CAL_ACCEPT_TIMEOUT 0) = true then
        t.cal.run = none ∧ t.objN Obj.CAL_LAST_SEQ 0 = r.req.seq ∧ t.objN Obj.CAL_LAST_STATUS 0 = 7 ∧ t.cal.apply = s.cal.apply
      else Frame [.ex] s t) ∧
  (∀ s : State, s.pendingCal = none → ∃ t, exec .calAcceptTimeout s = .next t ∧ Frame [.ex] s t) ∧
  (∀ (q : CalReq) (r : CalResult) (s : State), s.cal.apply = some (q, r) → s.tick % 256 = 0 →
    (r.maps.map fun m => (m.1, m.2.1)).Nodup →
    ∃ t, exec .calResultApply s = .next t ∧ t.cal.apply = none ∧ (∀ m ∈ r.maps, t.oct m.1 m.2.1 = m.2.2)) ∧
  (∀ s : State, s.cal.apply = none ∨ s.tick % 256 ≠ 0 → ∃ t, exec .calResultApply s = .next t ∧ Frame [.ex] s t) ∧
  (∀ (q : CalReq) (r : CalResult) (s : State), s.cal.apply = some (q, r) → s.tick % 256 = 0 → r.maps = [] →
    (r.values.map fun v => (v.1, v.2.1)).Nodup →
    (∀ v ∈ r.values, v.1 ∈ [Obj.TARGET_BAR, Obj.TARGET_CROSS, Obj.FRINGE_SIGN, Obj.THERMAL_ALPHA, Obj.BAND_TRIM, Obj.HEATER_R,
      Obj.EXTINCTION, Obj.LANE_OFFSET, Obj.LANE_GAIN, Obj.LANE_RESIDUAL, Obj.TPL_A1, Obj.TPL_D1]) →
    ∃ t, exec .calResultApply s = .next t ∧ t.cal.apply = none ∧ (∀ v ∈ r.values, t.obj v.1 v.2.1 = v.2.2) ∧
      t.objN Obj.CAL_GEN 0 =
        (if ∃ v ∈ r.values, s.obj v.1 v.2.1 ≠ v.2.2 ∧
            v.1 ∈ [Obj.TARGET_BAR, Obj.TARGET_CROSS, Obj.FRINGE_SIGN, Obj.BAND_TRIM, Obj.TPL_A1, Obj.TPL_D1] then
          nextGen (s.objN Obj.CAL_GEN 0) else s.objN Obj.CAL_GEN 0)) ∧
  (∀ (sess : Nat) (s : State), s.accepts sess Obj.CAL_STORE 0 1 = true →
    ∃ t, exec (.calStore sess) s = .next t ∧
      if s.flashBusy = true then t.answered sess 0 Obj.CAL_STORE 0 (.nak .busy 0 0) ∧ Frame [.ex] s t
      else if s.flashOk = false then t.answered sess 0 Obj.CAL_STORE 0 (.nak .state 0 0) ∧ Frame [.ex] s t
      else
        t.cal.unstored = none ∧
          if s.storeRegions .calibration = [] then
            t.answered sess 0 Obj.CAL_STORE 0 (.ack []) ∧ t.obj Obj.CAL_STORED_GEN 0 = s.obj Obj.CAL_GEN 0
          else
            t.dev.store = some { kind := .calibration, regions := s.storeRegions .calibration } ∧
              ∃ o ∈ t.ex.owed, o.kind = .calStore ∧ o.sess = sess) ∧
  (∀ (t0 : Nat) (s : State), s.cal.unstored = some t0 →
    ∃ t, exec .calStoreIntervalEnd s = .next t ∧
      if s.elapsed t0 (1000000000 * s.objN Obj.CAL_STORE_INTERVAL 0) = true then
        t.cal.unstored = none ∧
          (s.flashOk = false → .calibration ∈ t.dev.storeQueue) ∧
          (s.flashOk = true → s.dev.store = none → s.dev.storeQueue = [] → s.storeRegions .calibration ≠ [] →
            t.dev.store = some { kind := .calibration, regions := s.storeRegions .calibration })
      else Frame [.ex] s t) ∧
  (∀ s : State, s.cal.unstored = none → ∃ t, exec .calStoreIntervalEnd s = .next t ∧ Frame [.ex] s t) ∧
  (∀ (sess : Nat) (s : State), s.accepts sess Obj.CAL_VALUES_APPLY 0 1 = true →
    ∃ t, exec (.calValuesApply sess) s = .next t ∧
      if s.targetsUnequal = true then t.answered sess 0 Obj.CAL_VALUES_APPLY 0 (.nak .range 0 0) ∧ Frame [.ex] s t
      else t.answered sess 0 Obj.CAL_VALUES_APPLY 0 (.ack []) ∧ t.cal = { s.cal with valuesDue := true } ∧ Frame [.ex, .cal] s t) ∧
  (∀ (sess : Nat) (s : State), s.accepts sess Obj.TEMPLATE_APPLY 0 1 = true →
    (∀ a ∈ [Obj.TPL_A1, Obj.TPL_A2, Obj.TPL_D1, Obj.TPL_D2], msorted (s.stagedOf a) = true) →
    ∃ t, exec (.templateApply sess) s = .next t ∧
      if s.templatesTooLong = true then t.answered sess 0 Obj.TEMPLATE_APPLY 0 (.nak .range 0 0) ∧ Frame [.ex] s t
      else
        t.answered sess 0 Obj.TEMPLATE_APPLY 0 (.ack []) ∧ (∀ n, (t.adapt n).ready = none) ∧
          (∀ a ∈ [Obj.TPL_A1, Obj.TPL_A2, Obj.TPL_D1, Obj.TPL_D2],
            t.stagedOf a = [] ∧ ∀ p ∈ s.stagedOf a, t.obj a p.1 = p.2) ∧
          ((∃ a ∈ [Obj.TPL_A1, Obj.TPL_A2, Obj.TPL_D1, Obj.TPL_D2], ∃ p ∈ s.stagedOf a, s.obj a p.1 ≠ p.2) →
            t.objN Obj.CAL_GEN 0 = nextGen (s.objN Obj.CAL_GEN 0)))

/-- Grants, budgets and the host's decisions (R285, R288, R290, R293, R294, R296). A release takes the grant away and serves the head of
the queue if it then fits; in FROZEN its heater power and its charge stay held. A write of a budget waits for the scan boundary and keeps every
grant. The host's decision is refused STATE
outside host mode and UNKNOWN for a request that does not wait; a GRANT that fits holds the grant, and one that does not fit, like a
REFUSE, is a refusal, which is counted. STEADY_RESET ends FROZEN with an empty queue, the accounting
rebuilt, and only the grants that were not given back meanwhile. At every SCAN_BOUNDARY (`scanClose`) HEATER_POWER becomes the sum over
the heater channels, GRANTED_HEATER what the grants have not drawn, and the heater ceiling is in force from a total at the budget on until
one below it by more than 500 mW.
What a grant given back in FROZEN leaves is deduced (log entry 32). -/
def Obligations.PowerArbitration : Prop :=
  (∀ s t : State, t = heaterScan s → s.steady.frozen = false → s.steady.upsets = [] →
    t.obj Obj.HEATER_POWER 0 = s.heaterSum ∧ t.granted = (drawGrants s).granted ∧ t.obj Obj.GRANTED_HEATER 0 = t.granted ∧
      t.steady.budget = (if s.steady.pendingBudget = true then s.obj Obj.HEATER_BUDGET 0 else s.steady.budget) ∧
      t.steady.ceiling = (if s.steady.ceiling = true then decide (1000 * t.steady.budget - 500000 ≤ s.heaterSum + t.granted)
        else decide (1000 * t.steady.budget ≤ s.heaterSum + t.granted)) ∧
      t.objN Obj.CEILING_ACTIVE 0 = boolNat t.steady.ceiling) ∧
  (∀ (k : GKind) (src : Nat) (s : State), s.holds k src = true → s.steady.frozen = false → s.steady.upsets = [] →
    ∃ t, exec (.grantRelease k src) s = .next t ∧
      match s.steady.queue with
      | [] =>
        t.steady.grants = (s.steady.grants.filter fun g => !(g.kind == k && g.source == src)) ∧ t.steady.queue = [] ∧
          t.obj Obj.GRANTED_HEATER 0 = t.granted
      | r :: rest =>
        if (dropGrant s k src).mayServe r = true then t.holds r.kind r.source = true
        else t.steady.queue = r :: rest ∧ t.holds k src = false) ∧
  (∀ (k : GKind) (src : Nat) (s : State), s.holds k src = true → s.steady.frozen = true →
    ∃ t, exec (.grantRelease k src) s = .next t ∧ t.holds k src = false ∧ t.granted = s.granted ∧ t.jumpCharge = s.jumpCharge ∧
      t.steady.queue = s.steady.queue ∧ Frame [.ex, .steady] s t) ∧
  (∀ (k : GKind) (src : Nat) (s : State), s.holds k src = false →
    ∃ t, exec (.grantRelease k src) s = .next t ∧ Frame [.ex] s t) ∧
  (∀ (sess addr : Nat) (reserve : Bool) (v : Int) (s : State), addr = (if reserve then Obj.LOOP_RESERVE else Obj.HEATER_BUDGET) →
    s.accepts sess addr 0 v = true →
    ∃ t, exec (.heaterBudget sess reserve v) s = .next t ∧ t.answered sess 0 addr 0 (.ack []) ∧ t.obj addr 0 = v ∧
      t.steady = { s.steady with pendingBudget := true, newBudget := s.steady.newBudget || !reserve } ∧
      Frame [.objs, .ex, .steady] s t) ∧
  (∀ (sess seq : Nat) (through : Bool) (s : State), s.acceptsOctets sess Obj.GRANT_DECIDE 0 = true →
    s.hostMode 5 = false ∨ s.decided seq through = none →
    (∃ t, exec (.grantDecideGrant sess seq through) s = .next t ∧ Frame [.ex] s t ∧
      t.answered sess 0 Obj.GRANT_DECIDE 0 (.nak (if s.hostMode 5 = true then .unknown else .state) 0 0)) ∧
    ∃ t, exec (.grantDecideRefuse sess seq through) s = .next t ∧ Frame [.ex] s t ∧
      t.answered sess 0 Obj.GRANT_DECIDE 0 (.nak (if s.hostMode 5 = true then .unknown else .state) 0 0)) ∧
  (∀ (sess seq n : Nat) (through : Bool) (e : RingReq) (s : State),
    s.acceptsOctets sess Obj.GRANT_DECIDE 0 = true → s.hostMode 5 = true → s.decided seq through = some [(n, e)] →
    e.req.kind ≠ .commit → s.steady.overflow = [] → s.steady.frozen = false → s.steady.upsets = [] → s.cal.run = none →
    ∃ t, exec (.grantDecideGrant sess seq through) s = .next t ∧ t.answered sess 0 Obj.GRANT_DECIDE 0 (.ack []) ∧
      if s.hostFits e.req = true then
        t.objN Obj.GREQ_STATE n = 1 ∧ t.holds e.req.kind e.req.source = true
      else
        t.objN Obj.GREQ_STATE n = 2 ∧ t.steady.grants = s.steady.grants ∧
          t.objN Obj.GRANTS_REFUSED 0 = min u32Max (s.objN Obj.GRANTS_REFUSED 0 + 1)) ∧
  (∀ (sess seq n : Nat) (through : Bool) (e : RingReq) (s : State),
    s.acceptsOctets sess Obj.GRANT_DECIDE 0 = true → s.hostMode 5 = true → s.decided seq through = some [(n, e)] →
    e.req.kind ≠ .commit → s.steady.overflow = [] → s.cal.run = none →
    ∃ t, exec (.grantDecideRefuse sess seq through) s = .next t ∧ t.answered sess 0 Obj.GRANT_DECIDE 0 (.ack []) ∧
      t.objN Obj.GREQ_STATE n = 2 ∧ t.steady.grants = s.steady.grants ∧
      t.objN Obj.GRANTS_REFUSED 0 = min u32Max (s.objN Obj.GRANTS_REFUSED 0 + 1)) ∧
  (∀ (sess : Nat) (s : State), s.accepts sess Obj.STEADY_RESET 0 1 = true → (∀ r ∈ s.steady.queue, r.kind ≠ .calibration) →
    ∃ t, exec (.steadyReset sess) s = .next t ∧
      if s.steady.frozen = true then
        t.answered sess 0 Obj.STEADY_RESET 0 (.ack []) ∧ t.steady.frozen = false ∧ t.steady.queue = [] ∧
          t.objN Obj.HEATER_POWER 0 = s.heaterSum ∧ .steady ∉ t.dev.faults ∧ t.objN Obj.STEADY_STATE 0 = 0 ∧
          t.steady.grants.map (·.source) = (s.steady.grants.filter fun g => !g.released).map (·.source)
      else t.answered sess 0 Obj.STEADY_RESET 0 (.nak .state 0 0) ∧ Frame [.ex] s t)

/-- Temperature (R298 to R306). TEMP of a site is the mean of its last 8 conversions, for a TDX input that is on of the temperatures it computes
from its readings; the level of the junction or HBM group follows, and
with it the thermal state; a rise to STOP in PARKED or SERVICE starts the orderly stop. A site that does not exist changes nothing. The
third conversion at or above CUT trips the hard cut: heaters at zero, fast and privileged lanes undriven, HBM in self-refresh, FAULT_N,
FAULT_HOLD. The orderly stop ends in SAFE when STOP_DRAIN has passed and no commit is left; flash writes are permitted again after 1 s in
range; a change of TDX_MODE leaves the input's next 8 conversions unreported.
The reading of a TDX input and the rounding of a mean are the model's choices (log entries 45 and 150). -/
def Obligations.ThermalProtection : Prop :=
  (∀ (n g : Nat) (reading : Int) (u : State) (last : List Int) (s : State), n < 38 → g = (if n < 36 then 0 else 1) →
    u = takeReading s n reading → last = (reading :: (s.sensor n).last).take 8 →
    ∃ t, exec (.tempConversion n reading) s = .next t ∧ t.obj Obj.TEMP n = openRound 298 (last.foldl (· + ·) 0) last.length ∧
      mget 0 t.therm.levels g =
        u.newLevel g (mget 0 s.therm.levels g) (u.hottest (if n < 36 then List.range 36 else [36, 37])) ∧
      (mget 0 t.therm.levels g ≠ mget 0 s.therm.levels g →
        t.therm.state = max (mget 0 t.therm.levels 0) (mget 0 t.therm.levels 1) ∧ t.objN Obj.THERMAL_STATE 0 = t.therm.state ∧
          (s.therm.state < 3 → 3 ≤ t.therm.state → mget 0 s.therm.levels g < mget 0 t.therm.levels g →
            s.dev.state = .parked ∨ s.dev.state = .service →
            t.dev.state = .draining ∧ t.dev.draining = some s.tick ∧ .thermalStop ∈ t.dev.faults))) ∧
  (∀ (n : Nat) (reading : Int) (last : List Int) (s : State), n < 43 →
    (39 ≤ n → s.objN Obj.TDX_MODE (n - 39) ≠ 0 ∧ (s.sensor n).unreported = 0) →
    last = ((if 39 ≤ n then s.tdxTemp (n - 39) (s.objN Obj.TDX_MODE (n - 39)) reading.toNat else reading) :: (s.sensor n).last).take 8 →
    ∃ t, exec (.tempConversion n reading) s = .next t ∧ t.obj Obj.TEMP n = openRound 298 (last.foldl (· + ·) 0) last.length) ∧
  (∀ (n : Nat) (reading : Int) (s : State), 43 ≤ n →
    ∃ t, exec (.tempConversion n reading) s = .next t ∧ Frame [.ex] s t) ∧
  (∀ (n : Nat) (reading : Int) (s : State), n < 38 → s.obj Obj.CUT_LEVEL (if n < 36 then 0 else 1) ≤ reading →
    s.therm.cutTripped = false → s.dev.state ≠ .off →
    ∃ t, exec (.tempHardCut n reading) s = .next t ∧
      if 2 ≤ (s.sensor n).cutRun then
        t.dev.state = .faultHold ∧ .hardCut ∈ t.dev.faults ∧ t.therm.cutTripped = true ∧ t.objN Obj.THERMAL_STATE 0 = 4 ∧
          t.drv.heatersOff = true ∧ t.drv.fastOff = true ∧ t.drv.privOff = true ∧ mget 0 t.mat.hbmState 0 = 1 ∧ mget 0 t.mat.hbmState 1 = 1
      else Frame [.ex] s t) ∧
  (∀ (t0 : Nat) (s : State), s.dev.draining = some t0 → s.dev.state = .draining →
    (s.com.live.any fun c => c.state == .armed || c.state == .applying) = false →
    ∃ t, exec .stopDrainEnd s = .next t ∧
      if s.elapsed t0 (1000 * s.objN Obj.STOP_DRAIN 0) = true then t.dev.state = .safe ∧ t.dev.draining = none
      else Frame [.ex] s t) ∧
  (∀ (t0 : Nat) (s : State), s.therm.flashInSince = some t0 → s.therm.flashOk = false →
    ∃ t, exec .flashWritePermitted s = .next t ∧
      if s.elapsed t0 1000000000 = true then
        t.therm.flashOk = true ∧ t.therm.flashInSince = none ∧ (s.dev.store = none → s.dev.storeQueue = [.life] →
          t.dev.store = some { kind := .life, regions := [1 - s.dev.flash.lifeCopy] })
      else Frame [.ex] s t) ∧
  (∀ (sess x : Nat) (v : Int) (s : State), s.accepts sess Obj.TDX_MODE x v = true →
    ∃ t, exec (.tdxMode sess x v) s = .next t ∧ t.answered sess 0 Obj.TDX_MODE x (.ack []) ∧ t.obj Obj.TDX_MODE x = v ∧
      t.sensor (39 + x) = { s.sensor (39 + x) with unreported := 8 } ∧ (∀ n, n ≠ 39 + x → t.sensor n = s.sensor n))

/-- Heartbeats and loss of the peer (R323, R324, R334, R337, R429). Every 1,563 ticks a running lobe sends its role, claim, epoch and snapshot number, and in
HANDOVER the coming scan boundary where the final snapshot of a swap is complete; an OFFLINE one sends nothing. A valid heartbeat is noted on
its path, raises the epoch seen and ends LINK_LOST; a YIELD in it makes the lobe claim at once, once for a loss, a HANDOVER is kept by a
STANDBY lobe, and an ACTIVE one takes a lobe that has passed its diagnosis to SYNCING; one on path 0 compares the counters; one with a wrong CRC or from the receiving lobe itself changes nothing, nor does the next one on path 1 after an
uncorrectable error in the mailbox (R502). A path silent for three intervals while
the other delivers is FAILED. Three intervals, 4,689 ticks, without any valid heartbeat make a running lobe that does not claim already claim with the next epoch, or,
where it has lost such a claim, raise LINK_LOST; a lobe that has passed its diagnosis claims without an ACTIVE heartbeat for as long. -/
def Obligations.Heartbeats : Prop :=
  (∀ (l : Nat) (s : State), l < 2 → (s.lobe l).role ≠ .offline → (∀ k, (s.lobe l).hbAt = some k → k + 1563 ≤ s.tick) →
    ∃ t h, exec (.heartbeatSend l) s = .next t ∧ t.lobes.sent.head? = some h ∧ h.lobe = l ∧ h.role = (s.lobe l).role ∧
      h.claim = (s.lobe l).claim ∧ h.epoch = (s.lobe l).seenEpoch ∧ h.snapSeq = s.lobes.snapSeq ∧ h.yield = none ∧
      h.handover = (if (s.lobe l).role = .active ∧ s.finalDone = true then some (s.scan + 1) else none) ∧
      t.lobe l = { s.lobe l with hbAt := some s.tick } ∧ t.lobe (1 - l) = s.lobe (1 - l) ∧ Frame [.ex, .lobes] s t) ∧
  (∀ (l : Nat) (s : State), (s.lobe l).role = .offline ∨ (∃ k, (s.lobe l).hbAt = some k ∧ s.tick < k + 1563) →
    ∃ t, exec (.heartbeatSend l) s = .next t ∧ Frame [.ex] s t) ∧
  (∀ (l q : Nat) (hb : Heartbeat) (s : State), l < 2 → q < 2 → hb.lobe = 1 - l → (s.lobe l).role ≠ .offline → hb.yield = none →
    (q = 1 → s.mat.mailBad = false) →
    ∃ t, exec (.heartbeatReceive l q hb true) s = .next t ∧ (t.lobe l).lastHb = some s.tick ∧
      ((t.hbPath q).rx.at l).last = s.tick ∧ ((t.hbPath q).rx.at l).miss = 0 ∧
      (t.lobe l).seenEpoch = max (s.lobe l).seenEpoch (max hb.epoch (hb.claim / 2)) ∧
      (t.lobe l).linkLost = false ∧ (hb.role = .active → (t.lobe l).heardActive = some s.tick) ∧
      (s.time.ctr.a.ns = s.time.ctr.b.ns → s.time.ctr.a.frac = s.time.ctr.b.frac →
        (t.lobe l).role = (if hb.role = .active ∧ (s.lobe l).waitsDiagnosed = true ∧ s.active.isSome = true then .syncing
          else (s.lobe l).role) ∧ t.lobe (1 - l) = s.lobe (1 - l) ∧
        t.lobes.handover = (if (s.lobe l).role = .standby ∧ hb.handover.isSome = true then hb.handover else s.lobes.handover)) ∧
      (q = 0 → s.time.ctr.a.ns ≠ s.time.ctr.b.ns → s.active = some l → (s.lobe (1 - l)).role ≠ .offline →
        t.time.resyncDue = true)) ∧
  (∀ (l cause : Nat) (hb : Heartbeat) (s : State), l < 2 → hb.lobe = 1 - l → (s.lobe l).role ≠ .offline →
    (s.lobe l).claiming.isSome = true ∨ (s.lobe l).role = .active ∧ hb.epoch < (s.lobe l).seenEpoch → hb.yield = some cause →
    s.mat.mailBad = false →
    ∃ t, exec (.heartbeatReceive l 1 hb true) s = .next t ∧ (t.lobe l).claiming = (s.lobe l).claiming ∧
      (t.lobe l).claim = (s.lobe l).claim ∧ (t.lobe l).role = (s.lobe l).role) ∧
  (∀ (l q cause : Nat) (hb : Heartbeat) (s : State), l < 2 → q < 2 → hb.lobe = 1 - l → hb.yield = some cause →
    (q = 1 → s.mat.mailBad = false) →
    (s.lobe l).role = .active ∨ (s.lobe l).role = .standby ∨ (s.lobe l).role = .syncing → (s.lobe l).noReclaim = false →
    (s.lobe l).claiming = none → ((s.lobe l).role = .active → max (s.lobe l).seenEpoch (hb.claim / 2) ≤ hb.epoch) →
    s.time.ctr.a.ns = s.time.ctr.b.ns → s.time.ctr.a.frac = s.time.ctr.b.frac →
    ∃ t, exec (.heartbeatReceive l q hb true) s = .next t ∧ (t.lobe l).claiming = some (2, s.tick) ∧
      (t.lobe l).claim = claimOf (max (s.lobe l).seenEpoch (max hb.epoch (hb.claim / 2)) + 1) l) ∧
  (∀ (l q : Nat) (hb : Heartbeat) (crcOk : Bool) (s : State), crcOk = false ∨ hb.lobe ≠ 1 - l → (q = 1 → s.mat.mailBad = false) →
    ∃ t, exec (.heartbeatReceive l q hb crcOk) s = .next t ∧ Frame [.ex] s t) ∧
  (∀ (l : Nat) (hb : Heartbeat) (crcOk : Bool) (s : State), s.mat.mailBad = true →
    ∃ t, exec (.heartbeatReceive l 1 hb crcOk) s = .next t ∧ t.mat = { s.mat with mailBad := false } ∧ Frame [.ex, .mat] s t) ∧
  (∀ (q : Nat) (s : State), q < 2 → (s.hbPath q).failed = false →
    ∃ t, exec (.hbPathFailed q) s = .next t ∧
      if s.pathSilent q 0 = true ∨ s.pathSilent q 1 = true then
        (t.hbPath q).failed = true ∧ t.hbPath (1 - q) = s.hbPath (1 - q) ∧ t.lobes.each = s.lobes.each
      else Frame [.ex] s t) ∧
  (∀ (l k : Nat) (s : State), l < 2 → (s.lobe l).lastHb = some k →
    (s.lobe l).role = .active ∨ (s.lobe l).role = .standby ∨ (s.lobe l).role = .syncing →
    ∃ t, exec (.peerLost l) s = .next t ∧ t.lobe (1 - l) = s.lobe (1 - l) ∧ (t.lobe l).role = (s.lobe l).role ∧
      if s.tick < k + 4689 ∨ (s.lobe l).claiming.isSome = true then Frame [.ex] s t
      else if (s.lobe l).noReclaim = true then (t.lobe l).linkLost = true ∧ (t.lobe l).claim = (s.lobe l).claim
      else (t.lobe l).claim = claimOf ((s.lobe l).seenEpoch + 1) l ∧ (t.lobe l).seenEpoch = (s.lobe l).seenEpoch + 1 ∧
        (t.lobe l).claiming = some (1, s.tick) ∧ (t.lobe l).lastHb = none) ∧
  (∀ (l : Nat) (s : State), l < 2 → (s.lobe l).waitsDiagnosed = true →
    ∃ t, exec (.peerLost l) s = .next t ∧
      if s.hearsActive l = true ∨ s.tick < (s.lobe l).since + 4689 then Frame [.ex] s t
      else (t.lobe l).claiming = some (0, s.tick) ∧ (t.lobe l).claim = claimOf ((s.lobe l).seenEpoch + 1) l ∧
        t.lobe (1 - l) = s.lobe (1 - l) ∧ Frame [.ex, .lobes] s t)

/-- Claims, gates and takeover (R311 to R316, R325, R332, R337). A broadcast raises every working gate to the claim; a lobe that reads a
higher claim has lost, lowers its own to 0 and, if ACTIVE, takes STANDBY, or OFFLINE where its pin or LOBE_HOLD_OFFLINE holds it. A gate that misses a broadcast whose claim has won keeps its
HIGHEST. A refused write means a higher claim, or a faulty gate. A lobe whose claim is the highest takes over: from STANDBY or SYNCING it is
ACTIVE, the other lobe is not, FAILOVERS and the cause count; from DIAGNOSING at power-up the device goes to SELFTEST; an ACTIVE lobe goes
on, and the lobe it has lost is reset and enters DIAGNOSING.
When a broadcast counts and that a takeover is one step are deduced (log entry 161). -/
def Obligations.ClaimsAndTakeover : Prop :=
  (∀ (l : Nat) (s : State), l < 2 → (s.lobe l).claiming.isSome = true ∨ (s.lobe l).role = .active →
    ∃ t, exec (.claimBroadcast l) s = .next t ∧ t.lobes.gateBase = max s.lobes.gateBase (s.lobe l).claim ∧
      t.lobes.gateStuck = s.lobes.gateStuck ∧ t.objN Obj.CLAIM_MAX 0 = t.gateMax ∧ t.objN Obj.CLAIM_MIN 0 = t.gateMin ∧
      t.lobe (1 - l) = s.lobe (1 - l) ∧ (t.lobe l).seenEpoch = max (s.lobe l).seenEpoch (t.gateMax / 2) ∧
      if (s.lobe l).claim < t.gateMax then
        (t.lobe l).claiming = none ∧ (t.lobe l).claim = 0 ∧ ((s.lobe l).role = .active →
          (t.lobe l).role = if s.mayRun l = true then .standby else .offline)
      else (t.lobe l).role = (s.lobe l).role ∧ (t.lobe l).claiming = (s.lobe l).claiming) ∧
  (∀ (b : Nat) (s : State), b < 3874 → s.lobes.gatePrev < s.lobes.gateBase → s.lobes.gateAt + 313 ≤ s.tick → s.winner = true →
    mget 0 s.lobes.gateHigh b < s.lobes.gateBase →
    ∃ t, exec (.gateFault b) s = .next t ∧
      match mfind s.lobes.gateStuck b with
      | some _ => Frame [.ex] s t
      | none =>
        mfind t.lobes.gateStuck b = some s.lobes.gatePrev ∧ t.lobes.gateBase = s.lobes.gateBase ∧
          ∀ k, k ≠ b → mfind t.lobes.gateStuck k = mfind s.lobes.gateStuck k) ∧
  (∀ (b : Nat) (s : State), s.gateMisses b = false → ∃ t, exec (.gateFault b) s = .next t ∧ Frame [.ex] s t) ∧
  (∀ (l b : Nat) (s : State), l < 2 → b < 3874 → (s.lobe l).role = .active →
    ∃ t, exec (.writeRefused l b) s = .next t ∧ t.objN Obj.CLAIM_MAX 0 = s.gateMax ∧
      if (s.lobe l).claim < s.gateMax then
        (t.lobe l).role = (if s.mayRun l = true then .standby else .offline) ∧ t.lobes.gateStuck = s.lobes.gateStuck
      else (t.lobe l).role = .active ∧ mfind t.lobes.gateStuck b =
        some ((mfind s.lobes.gateStuck b).getD (s.gate b)) ∧ (l, b) ∉ t.lobes.refused) ∧
  (∀ (l cause k : Nat) (s : State), l < 2 → (s.lobe l).claiming = some (cause, k) → s.gateMax = (s.lobe l).claim →
    (s.lobe l).role = .standby ∨ (s.lobe l).role = .syncing →
    ∃ t, exec (.lobeFailover l) s = .next t ∧ (t.lobe l).role = .active ∧ (t.lobe (1 - l)).role ≠ .active ∧
      (t.lobe l).claim = (s.lobe l).claim ∧ (t.lobe l).claiming = none ∧ t.lobes.lastTakeover = s.tick ∧
      t.objN Obj.FAILOVERS 0 = min u32Max (s.objN Obj.FAILOVERS 0 + 1) ∧
      t.objN Obj.LAST_FAILOVER_CAUSE 0 = (if s.claimsNow (1 - l) = true ∨ s.lostNow (1 - l) = true then 3 else cause) ∧
      ((s.lobe (1 - l)).role = .active → t.ex.owed = []) ∧ t.cal.run = none) ∧
  (∀ (l cause k : Nat) (s : State), l < 2 → (s.lobe l).claiming = some (cause, k) → s.gateMax = (s.lobe l).claim →
    (s.lobe l).role = .diagnosing → s.dev.state = .boot → (s.lobe (1 - l)).role ≠ .active →
    ∃ t, exec (.lobeFailover l) s = .next t ∧ (t.lobe l).role = .active ∧ t.dev.state = .selftest) ∧
  (∀ (l : Nat) (s : State), (s.lobe l).claiming = none ∨ s.gateMax ≠ (s.lobe l).claim →
    ∃ t, exec (.lobeFailover l) s = .next t ∧ Frame [.ex] s t) ∧
  (∀ (l cause k : Nat) (s : State), l < 2 → (s.lobe l).claiming = some (cause, k) → s.gateMax = (s.lobe l).claim →
    (s.lobe l).role = .active →
    ∃ t, exec (.lobeFailover l) s = .next t ∧ t.lobe l = { s.lobe l with claiming := none } ∧
      if (s.lobe (1 - l)).role = .diagnosing ∨ (s.lobe (1 - l)).role = .offline ∧ s.claimsNow (1 - l) = false then
        t.lobe (1 - l) = s.lobe (1 - l)
      else s.claimsNow (1 - l) = false → s.lostNow (1 - l) = false →
        (t.lobe (1 - l)).role = (if s.mayRun (1 - l) = true then .diagnosing else .offline) ∧ (t.lobe (1 - l)).claim = 0 ∧
          (s.mayRun (1 - l) = true → .lobe (1 - l) ∈ t.dev.faults))

/-- Faults of a lobe and cross-comparison (R319 to R322, R428). A running lobe that finds itself faulty enters DIAGNOSING with claim 0,
the cause in its health mask and FAULT_N asserted (OFFLINE where its pin or LOBE_HOLD_OFFLINE holds it, without FAULT_N); if ACTIVE it sends YIELD with the cause. Once a scan the digest of a column, the CRC-32C of the decisions of its evaluations, is compared; one of the partner that differs counts a mismatch and begins the known-answer test, unless an overrun excuses it, and one that
agrees changes nothing; with no STANDBY lobe a scan without a mismatch that no overrun excuses adds to the clean scans of a SYNCING lobe that has its state copy. The test's verdict takes out of service the lobe that failed, the STANDBY lobe
where both failed or the limit of mismatches is reached; a periodic test falls due every KAT_INTERVAL and moves on to the next Spindle. -/
def Obligations.LobeFaults : Prop :=
  (∀ (l cause : Nat) (c : Instr) (s : State), l < 2 →
    (c = .lobeYielded l cause ∧ 1 ≤ cause ∧ cause ≤ 5) ∨ ((∃ core, core < 4 ∧ c = .watchdogExpiry l core) ∧ cause = 2) ∨
      (c = .lobeLocalMemoryError l ∧ cause = 3) ∨ (c = .lobeSupplyFault l ∧ cause = 4) ∨ (c = .counterFault l ∧ cause = 5) →
    ∃ t, exec c s = .next t ∧ t.lobe (1 - l) = s.lobe (1 - l) ∧ (c = .counterFault l → (t.time.ctr.at l).fault = true) ∧
      if (s.lobe l).role = .active ∨ (s.lobe l).role = .standby ∨ (s.lobe l).role = .syncing then
        (t.lobe l).role = (if s.mayRun l = true then .diagnosing else .offline) ∧ (t.lobe l).claim = 0 ∧
          (t.lobe l).health = 2 ^ (cause - 1) ∧ (s.mayRun l = true → .lobe l ∈ t.dev.faults) ∧
          ((s.lobe l).role = .active → ∃ h, t.lobes.sent.head? = some h ∧ h.lobe = l ∧ h.claim = 0 ∧ h.yield = some cause)
      else (t.lobe l) = s.lobe l ∧ t.dev = s.dev) ∧
  (∀ (col d : Nat) (s : State), col < 42 → s.tick % 256 = 0 → s.active.isSome = true → s.standby.isSome = true →
    s.lobes.compared < s.scan →
    ∃ t, exec (.digestCompare [(col, d)]) s = .next t ∧ t.lobes.each = s.lobes.each ∧
      if d = crc32c (packNibbles ((s.scanDecisions col).map (·.2))) then
        t.lobes = { s.lobes with compared := s.scan } ∧ Frame [.ex, .lobes] s t
      else if s.scanOverrun col = true then
        t.objN Obj.XCMP_EXCUSED col = min u32Max (s.objN Obj.XCMP_EXCUSED col + 1) ∧ t.lobes = { s.lobes with compared := s.scan }
      else
        t.objN Obj.XCMP_MISMATCHES col = min u32Max (s.objN Obj.XCMP_MISMATCHES col + 1) ∧ col ∈ t.lobes.katCols ∧
          s.tick ∈ mget [] t.lobes.mismatches col) ∧
  (∀ (l col d n : Nat) (s : State), l < 2 → col < 42 → s.tick % 256 = 0 → s.active.isSome = true → (s.lobe l).role = .syncing →
    s.standby = none → s.lobes.compared < s.scan → (s.lobe l).copied = some n → n < s.scan →
    ∃ t, exec (.digestCompare [(col, d)]) s = .next t ∧ Frame [.ex, .lobes] s t ∧
      (t.lobe l).cleanScans = (if d = s.digestOf col ∨ s.scanOverrun col = true then (s.lobe l).cleanScans + 1 else 0)) ∧
  (∀ (peer : List (Nat × Nat)) (s : State), s.tick % 256 ≠ 0 ∨ s.scan ≤ s.lobes.compared →
    ∃ t, exec (.digestCompare peer) s = .next t ∧ Frame [.ex] s t) ∧
  (∀ (col a b : Nat) (passA passB okA okB : Bool) (s : State), col ∈ s.lobes.katCols → s.active = some a → s.standby = some b →
    okA = (if a = 0 then passA else passB) → okB = (if a = 0 then passB else passA) →
    ∃ t, exec (.katDone col passA passB) s = .next t ∧ col ∉ t.lobes.katCols ∧
      (t.lobe a).role = (if okA = false ∧ okB = true then (if s.mayRun a = true then .diagnosing else .offline) else .active) ∧
      (t.lobe b).role =
        (if okB = false then (if s.mayRun b = true then .diagnosing else .offline)
         else if okA = true ∧ s.objN Obj.MISMATCH_LIMIT 0 ≤
            ((mget [] s.lobes.mismatches col).filter fun k => !s.elapsed k 1000000000).length then
           (if s.mayRun b = true then .diagnosing else .offline)
         else .standby)) ∧
  (∀ (col l : Nat) (passA passB ok : Bool) (s : State), col ∉ s.lobes.katCols → l < 2 → ok = (if l = 0 then passA else passB) →
    (s.lobe l).katPending = true → (s.lobe l).katTurn = col → (s.lobe l).role = .active ∨ (s.lobe l).role = .standby →
    ∃ t, exec (.katDone col passA passB) s = .next t ∧ (t.lobe l).katPending = false ∧ (t.lobe l).katTurn = (col + 1) % 42 ∧
      (t.lobe l).role = (if ok = true then (s.lobe l).role else if s.mayRun l = true then .diagnosing else .offline)) ∧
  (∀ (l : Nat) (s : State), l < 2 →
    ∃ t, exec (.katIntervalEnd l) s = .next t ∧
      if ((s.lobe l).role = .active ∨ (s.lobe l).role = .standby ∨ (s.lobe l).role = .syncing) ∧
          s.elapsed (s.lobe l).katAt (1000000 * s.objN Obj.KAT_INTERVAL 0) = true then
        t.lobe l = { s.lobe l with katPending := true, katAt := s.tick } ∧ t.lobe (1 - l) = s.lobe (1 - l) ∧ Frame [.ex, .lobes] s t
      else Frame [.ex] s t)

/-- Diagnosis, resynchronisation and per-lobe reset (R311, R328, R336, R337, R341). A lobe that passes its diagnosis enters SYNCING under
an ACTIVE lobe's heartbeats and after three intervals without them claims, with an epoch above that of the claim summary (R316); one that fails waits 10 s, with FAULT_N asserted, and is OFFLINE at the third failure
within an hour; the retry begins a new diagnosis. A SYNCING lobe is STANDBY after 64 clean scans within 2 s and in DIAGNOSING after 2 s without them.
LOBE_RESET is refused STATE for the ACTIVE lobe and otherwise resets the other: claim 0, counter cleared, DIAGNOSING unless held OFFLINE.
Lobes held OFFLINE (R311, R338). A low pin takes its lobe OFFLINE at once, whatever its role; a high pin lets an OFFLINE lobe that
LOBE_HOLD_OFFLINE does not hold go to DIAGNOSING. LOBE_HOLD_OFFLINE 1 takes a lobe that is not ACTIVE OFFLINE, waits for the swap where it
is ACTIVE with a STANDBY partner, and is refused STATE with none; 0 lets the lobe go again. At the swap boundary,
its final snapshot complete, a lobe so awaited goes OFFLINE and its partner becomes ACTIVE.
That no lobe has a bank between a reset and its BOOTED, and when a counter fault is cleared, are deduced (log entries 160 and 165). -/
def Obligations.DiagnosisAndHold : Prop :=
  (∀ (l : Nat) (s : State), l < 2 → (s.lobe l).role = .diagnosing → (s.lobe l).bank.isSome = true → (s.lobe l).retryAt = none →
    (s.lobe l).claiming = none →
    ∃ t, exec (.diagnosisEnd l true) s = .next t ∧
      if s.mayRun l = false then (t.lobe l).role = .offline
      else if s.hearsActive l = true ∧ s.active.isSome = true then
        (t.lobe l).role = .syncing ∧ (t.lobe l).cleanScans = 0 ∧ (t.time.ctr.at l).fault = false
      else if s.hearsActive l = true ∨ s.tick < (s.lobe l).since + 4689 then
        t.lobe l = { s.lobe l with diagnosed := true, retryAt := none, seenEpoch := max (s.lobe l).seenEpoch (s.gateMax / 2) }
      else
        (t.lobe l).role = .diagnosing ∧ (t.lobe l).claiming = some (0, s.tick) ∧
          (t.lobe l).claim = claimOf (max (s.lobe l).seenEpoch (s.gateMax / 2) + 1) l) ∧
  (∀ (l n : Nat) (s : State), l < 2 → (s.lobe l).role = .diagnosing → (s.lobe l).bank.isSome = true → (s.lobe l).retryAt = none →
    (s.lobe l).claiming = none → n = ((s.lobe l).diagFails.filter fun k => !s.elapsed k 3600000000000).length →
    ∃ t, exec (.diagnosisEnd l false) s = .next t ∧ t.objN Obj.DIAG_FAILS l = min 255 (n + 1) ∧ .lobe l ∈ t.dev.faults ∧
      if n < 2 then (t.lobe l).role = .diagnosing ∧ (t.lobe l).retryAt = some (s.tick + 1562500000)
      else (t.lobe l).role = .offline) ∧
  (∀ (l k : Nat) (s : State), l < 2 → (s.lobe l).role = .diagnosing → (s.lobe l).retryAt = some k →
    ∃ t, exec (.diagRetry l) s = .next t ∧
      if k ≤ s.tick then
        t.lobe l = { s.lobe l with retryAt := none, diagnosed := false, since := s.tick } ∧ t.lobe (1 - l) = s.lobe (1 - l) ∧
          Frame [.ex, .lobes] s t
      else Frame [.ex] s t) ∧
  (∀ (l : Nat) (s : State), l < 2 → (s.lobe l).role = .syncing →
    ∃ t, exec (.resyncDone l) s = .next t ∧
      if 64 ≤ (s.lobe l).cleanScans ∧ s.elapsed (s.lobe l).since 2000000001 = false then (t.lobe l).role = .standby
      else if s.elapsed (s.lobe l).since 2000000000 = true then (t.lobe l).role = .diagnosing
      else Frame [.ex] s t) ∧
  (∀ (sess l : Nat) (s : State), l < 2 → s.accepts sess Obj.LOBE_RESET l 1 = true →
    ∃ t, exec (.lobeReset sess l) s = .next t ∧
      if (s.lobe l).role = .active then t.answered sess 0 Obj.LOBE_RESET l (.nak .state 0 0) ∧ Frame [.ex] s t
      else
        t.answered sess 0 Obj.LOBE_RESET l (.ack []) ∧ t.lobe (1 - l) = s.lobe (1 - l) ∧
          (t.lobe l).role = (if s.mayRun l = true then .diagnosing else .offline) ∧ (t.lobe l).claim = 0 ∧
          (t.lobe l).bank = none ∧ t.time.ctr.at l = {}) ∧
  (∀ (l : Nat) (s : State), l < 2 →
    ∃ t, exec (.lobeDisPin l false) s = .next t ∧ (t.lobe l).role = .offline ∧ (t.lobe l).strapHigh = false ∧
      t.lobe (1 - l) = s.lobe (1 - l)) ∧
  (∀ (l : Nat) (s : State), l < 2 →
    ∃ t, exec (.lobeDisPin l true) s = .next t ∧ (t.lobe l).strapHigh = true ∧ t.lobe (1 - l) = s.lobe (1 - l) ∧
      (t.lobe l).role =
        (if (s.lobe l).role = .offline ∧ s.obj Obj.LOBE_HOLD_OFFLINE l = 0 ∧ s.dev.state ≠ .off then .diagnosing else (s.lobe l).role)) ∧
  (∀ (sess l : Nat) (s : State), l < 2 → s.accepts sess Obj.LOBE_HOLD_OFFLINE l 1 = true →
    ∃ t, exec (.lobeHoldOffline sess l 1) s = .next t ∧
      if (s.lobe l).role = .active ∧ s.standby = none then
        t.answered sess 0 Obj.LOBE_HOLD_OFFLINE l (.nak .state 0 0) ∧ Frame [.ex] s t
      else
        t.answered sess 0 Obj.LOBE_HOLD_OFFLINE l (.ack []) ∧ t.obj Obj.LOBE_HOLD_OFFLINE l = 1 ∧
          if (s.lobe l).role = .active then t.lobe l = { s.lobe l with offlineDue := true } else (t.lobe l).role = .offline) ∧
  (∀ (sess l : Nat) (s : State), l < 2 → s.accepts sess Obj.LOBE_HOLD_OFFLINE l 0 = true →
    ∃ t, exec (.lobeHoldOffline sess l 0) s = .next t ∧ t.answered sess 0 Obj.LOBE_HOLD_OFFLINE l (.ack []) ∧
      t.obj Obj.LOBE_HOLD_OFFLINE l = 0 ∧ (t.lobe l).offlineDue = false ∧
      (t.lobe l).role = (if (s.lobe l).role = .offline ∧ (s.lobe l).strapHigh = true ∧ s.dev.state ≠ .off then .diagnosing
        else (s.lobe l).role)) ∧
  (∀ (a b h : Nat) (s : State), s.active = some a → s.standby = some b → s.leaving = true → s.tick % 256 = 0 →
    s.lobes.handover = some h → h ≤ s.scan → s.finalDone = true → s.dev.fwStage = .idle →
    ∃ t, exec .roleSwapped s = .next t ∧ (t.lobe b).role = .active ∧ (t.lobe a).role = .offline ∧
      (t.lobe a).offlineDue = false)

/-- Snapshots and role swaps (R329, R330, R333 to R335, R338). At a scan boundary 1 ms after the last one the ACTIVE lobe captures a snapshot under the next number; with
a swap due and its conditions met it is the final one, and running wraps pause. One that arrives with a good CRC, no uncorrectable error of the transfer buffer in it, and a higher number is the last complete one, any other is discarded and counted; SNAPSHOT_LATE is due
once past 3 ms. A swap falls due after SWAP_INTERVAL or by SWAP_NOW, which is refused STATE without a STANDBY lobe. At the scan boundary that
HANDOVER named, the final snapshot complete, the lobes change roles where the conditions still hold; where one has failed since, the swap is
abandoned. One that its conditions keep back for SWAP_POSTPONE_MAX is skipped.
When a snapshot is taken and the code of an abandoned swap are deduced (log entries 44 and 162). -/
def Obligations.SnapshotsAndSwaps : Prop :=
  (∀ s : State,
    ∃ t, exec .snapshotCapture s = .next t ∧
      if s.active.isSome = true ∧ s.tick % 256 = 0 ∧ s.lobes.final = none ∧
          (s.maySwap = true ∨ ∀ k, s.lobes.lastCapture = some k → s.elapsed k 1000000 = true) then
        t.lobes.snapSeq = s.lobes.snapSeq + 1 ∧ t.lobes.snap = s.lobes.snap ∧ t.lobes.lastCapture = some s.tick ∧
          t.lobes.swapped = none ∧
        if s.maySwap = true then
          t.lobes.final = some (s.lobes.snapSeq + 1, s.scan) ∧ Frame [.objs, .ex, .lobes, .sorus, .loops] s t ∧
          (∀ e, (s.elem e).state = .wrapping → (t.elem e).state = .locked) ∧
          ∃ x, t.lobes.capture = some x ∧ x.seq = s.lobes.snapSeq + 1 ∧ x.scan = s.scan ∧ x.tick = s.tick ∧ x.funcs = s.funcs
        else
          t.lobes.final = none ∧ t.lobes.capture = some (s.snapshotNow (s.lobes.snapSeq + 1)) ∧ Frame [.objs, .ex, .lobes, .sorus] s t
      else Frame [.ex] s t) ∧
  (∀ (x : Snapshot) (crcOk : Bool) (s : State), s.lobes.capture = some x → s.snapOn = true →
    (s.lobe 0).linkLost = false → (s.lobe 1).linkLost = false →
    ∃ t, exec (.snapshotReceived crcOk) s = .next t ∧ t.lobes.capture = none ∧
      if crcOk = true ∧ (x.path = 1 → s.mat.transferBad = false) ∧ (∀ y, s.lobes.snap = some y → y.seq < x.seq) then t.lobes.snap = some x ∧ t.lobes.snapLate = false
      else t.lobes.snap = s.lobes.snap ∧ t.objN Obj.SNAP_DISCARDS 0 = min u32Max (s.objN Obj.SNAP_DISCARDS 0 + 1)) ∧
  (∀ (x : Snapshot) (s : State), s.lobes.snap = some x → s.snapOn = true → s.lobes.snapLate = false →
    ∃ t, exec .snapshotLate s = .next t ∧
      if 480000000 < 1024 * (s.tick - x.tick) then t.lobes = { s.lobes with snapLate := true } else Frame [.ex] s t) ∧
  (∀ s : State, s.obj Obj.SWAP_ENABLE 0 = 1 → s.lobes.swapDue = none → s.active.isSome = true →
    ∃ t, exec .swapDue s = .next t ∧
      if s.elapsed s.lobes.lastTakeover (1000000000 * s.objN Obj.SWAP_INTERVAL 0) = true then
        t.lobes = { s.lobes with swapDue := some s.tick } ∧ Frame [.ex, .lobes] s t
      else Frame [.ex] s t) ∧
  (∀ (sess : Nat) (s : State), s.accepts sess Obj.SWAP_NOW 0 1 = true →
    ∃ t, exec (.swapNow sess) s = .next t ∧
      if s.standby.isSome = true then
        t.answered sess 0 Obj.SWAP_NOW 0 (.ack []) ∧ t.lobes = { s.lobes with swapDue := some s.tick, swapAsked := true } ∧
          Frame [.ex, .lobes] s t
      else t.answered sess 0 Obj.SWAP_NOW 0 (.nak .state 0 0) ∧ Frame [.ex] s t) ∧
  (∀ (a b h : Nat) (s : State), s.active = some a → s.standby = some b → s.leaving = false → s.lobes.handover = some h →
    s.tick % 256 = 0 → h ≤ s.scan → s.finalDone = true → s.dev.fwStage = .idle →
    ∃ t, exec .roleSwapped s = .next t ∧
      if s.lobes.swapDue.isSome = true ∧ s.swapBar = none then
        (t.lobe b).role = .active ∧ (t.lobe a).role = .standby ∧ t.lobes.swapDue = none ∧ t.lobes.lastTakeover = s.tick ∧
          t.objN Obj.LAST_FAILOVER_CAUSE 0 = 4 ∧ (t.lobe b).claim = claimOf ((s.lobe b).seenEpoch + 1) b ∧ (t.lobe a).claim = 0 ∧
          t.lobes.swapped = some (b, (t.lobe b).claim)
      else
        t.lobes = { s.lobes with swapDue := none, swapAsked := false, lastTakeover := s.tick, final := none, handover := none }) ∧
  (∀ s : State, s.lobes.handover = none ∨ s.tick % 256 ≠ 0 ∨ s.finalDone = false →
    ∃ t, exec .roleSwapped s = .next t ∧ Frame [.ex] s t) ∧
  (∀ (f : Nat × Nat) (s : State), s.lobes.final = some f → s.maySwap = false ∨ f.2 + 256 < s.scan → s.dev.fwStage = .idle →
    ∃ t, exec .swapSkipped s = .next t ∧
      t.lobes = { s.lobes with swapDue := none, swapAsked := false, lastTakeover := s.tick, final := none, handover := none }) ∧
  (∀ (k n : Nat) (s : State), s.lobes.swapDue = some k → s.swapBar = some n → s.lobes.final = none → s.dev.fwStage = .idle →
    ∃ t, exec .swapSkipped s = .next t ∧
      if s.elapsed k (1000000000 * s.objN Obj.SWAP_POSTPONE_MAX 0) = true then
        t.lobes = { s.lobes with swapDue := none, swapAsked := false, lastTakeover := s.tick, handover := none }
      else Frame [.ex] s t)

/-- Capture buffers, trigger pins and rings (R345, R349, R353 to R357, R361, R364, R366 to R370). CAP_ARM takes the staged configuration
for the coming frame, or is refused BUSY while the buffer is in a recording state and by the checks of R345, R350, R359 and R362; CAP_ARM 2
ends the capture at the next frame. CAP_FORCE is refused BUSY, NOT_READY or STATE as the buffer's state stands. A frame begins at its
instant and is complete once the samples of its scan are there: it begins the filling, or where it is forced opens a segment. An automatic
trigger waits for its timeout, a re-arm for its frames. A segment is released by its number. A trigger edge
is counted and stamped; a pulse ends at its tick. A change of RING_LENGTH waits for the scan boundary and is refused FULL above 4 GiB;
RING_RP moves to a record boundary or is refused RANGE, and RING_ENABLE is refused STATE while the ring has no length. An enabled ring
writes a SAMPLES record of its RING_CHANNELS once every RING_DECIM scans, at the SCAN_BOUNDARY (`scanClose`). When a frame takes the samples of
its scan, and that a ring's configuration is the newest at the boundary, are the model's choices (log entries 46 and 150). -/
def Obligations.Captures : Prop :=
  (∀ (r decim left : Nat) (body : List Byte) (g : Ring) (s : State), g = s.ring r → s.obj Obj.RING_ENABLE r = 1 → g.pendingLen = none →
    g.resetDue = none → 0 < g.length → chanList (s.oct Obj.RING_CHANNELS r) 256 ≠ [] → decim = s.objN Obj.RING_DECIM r →
    left = decim - (g.decim - g.scansLeft) →
    body = ((chanList (s.oct Obj.RING_CHANNELS r) 256).map fun c => leBytes 4 (s.chanWord c (s.elemWord (chanIndexOf c)))).flatten →
    if 1 < left then
      ((ringScan s r).ring r).recs = g.recs ∧ ((ringScan s r).ring r).wp = g.wp ∧ ((ringScan s r).ring r).scansLeft = left - 1
    else ((ringScan s r).ring r).scansLeft = decim ∧ (g.gap = 0 → ringUsed g + (24 + body.length) ≤ g.length - 8 →
      ((ringScan s r).ring r).recs = g.recs ++ [(g.wp, ringRecord 1 s.ringFlags g.seq s.now s.scan body)] ∧
      ((ringScan s r).ring r).wp = (g.wp + (24 + body.length)) % g.length ∧
      ((ringScan s r).ring r).seq = (g.seq + 1) % 0x100000000)) ∧
  (∀ (sess r : Nat) (v : Int) (s : State), s.accepts sess Obj.RING_ENABLE r v = true → s.obj Obj.RING_LENGTH r = 0 →
    (s.ex.owed.any fun o => o.kind == .park || o.kind == .resume) = false →
    ∃ t, exec (.objectWrite sess Obj.RING_ENABLE r v) s = .next t ∧ t.answered sess 0 Obj.RING_ENABLE r (.nak .state 0 0) ∧ Frame [.ex] s t) ∧
  (∀ (sess b : Nat) (c : CapCfg) (s : State), s.accepts sess Obj.CAP_ARM b 1 = true → (s.func 7).pending = none → c = s.capCfg b →
    ∃ t, exec (.capArm sess b) s = .next t ∧
      if (s.buf b).state ∉ [.idle, .full, .stopped] then
        t.answered sess 0 Obj.CAP_ARM b (.nak .busy 0 0) ∧ Frame [.ex] s t
      else
        match s.armNak b c with
        | some n => t.answered sess 0 Obj.CAP_ARM b (.nak n 0 0) ∧ Frame [.ex] s t
        | none =>
          t.answered sess 0 Obj.CAP_ARM b (.ack []) ∧ (t.buf b).cfg = c ∧ (t.buf b).starting = true ∧
            (t.buf b).state = (s.buf b).state ∧ (t.buf b).segs = [] ∧ (t.buf b).reserved = c.segments * c.segBytes ∧
            (t.buf b).host = s.hostMode 7 ∧
            (∀ k, k ≠ b → t.buf k = s.buf k)) ∧
  (∀ (sess b : Nat) (s : State), s.accepts sess Obj.CAP_ARM b 2 = true →
    ∃ t, exec (.capEnd sess b) s = .next t ∧ t.answered sess 0 Obj.CAP_ARM b (.ack []) ∧
      t.buf b = { s.buf b with ending := true } ∧ (∀ k, k ≠ b → t.buf k = s.buf k) ∧ Frame [.ex, .sorus] s t) ∧
  (∀ (sess b : Nat) (x : CapBuf) (s : State), s.accepts sess Obj.CAP_FORCE b 1 = true → x = s.buf b →
    ∃ t, exec (.capForce sess b) s = .next t ∧
      if x.state = .triggered ∨ x.state = .rearm then
        t.answered sess 0 Obj.CAP_FORCE b (.nak .busy 0 0) ∧ Frame [.ex] s t
      else if x.state = .idle ∨ x.state = .full ∨ x.state = .stopped then
        t.answered sess 0 Obj.CAP_FORCE b (.nak .state 0 0) ∧ Frame [.ex] s t
      else if x.cfg.preMode = 1 ∧ x.state = .filling then
        t.answered sess 0 Obj.CAP_FORCE b (.nak .notReady 0 0) ∧ Frame [.ex] s t
      else t.answered sess 0 Obj.CAP_FORCE b (.ack []) ∧ t.buf b = { x with force := true } ∧ Frame [.ex, .sorus] s t) ∧
  (∀ (b : Nat) (s : State), 8 ≤ b ∨ (s.frameDue b = false ∧ (s.buf b).opens = []) →
    ∃ t, exec (.captureFrame b) s = .next t ∧ Frame [.ex] s t) ∧
  (∀ (b : Nat) (x : CapBuf) (there : Prop) (s : State), b < 8 → s.frameDue b = true → x = s.buf b → x.opens = [] →
    (there ↔ ∀ c ∈ x.cfg.chans, ∀ n, s.waitScan (x.cfg.rate == 1) c = some n → n + 2 ≤ s.scan ∨ n ≤ (s.pd (chanIndexOf c)).at_) →
    ∃ t, exec (.captureFrame b) s = .next t ∧
      (x.ending = true → x.cur = none → (t.buf b).state = .idle ∧ (t.buf b).ending = false ∧ (t.buf b).segs = x.segs) ∧
      (x.ending = false → x.starting = true → x.cfg.preMode = 1 → 0 < x.cfg.pre →
        (t.buf b).starting = false ∧ (t.buf b).lastTick = some s.tick ∧
          (there → (t.buf b).filled = 1 ∧ (t.buf b).state = (if x.cfg.pre ≤ 1 then .armed else .filling) ∧ (t.buf b).opens = []) ∧
          (¬ there → (t.buf b).filled = 0 ∧ (t.buf b).state = .filling ∧ ∃ i, (t.buf b).opens = [i] ∧ i.time = s.now)) ∧
      (x.ending = false → x.starting = false → x.state = .armed → x.force = true → x.cfg.pre + 1 < x.cfg.length →
        (t.buf b).force = false ∧ (t.buf b).lastTick = some s.tick ∧
          (there → (t.buf b).state = .triggered ∧ ∃ g, (t.buf b).cur = some g ∧ g.seq = x.nextSeq ∧ g.manual = true) ∧
          (¬ there → (t.buf b).state = .armed ∧ ∃ i, (t.buf b).opens = [i] ∧ i.force = true ∧ i.time = s.now))) ∧
  (∀ (b : Nat) (x : CapBuf) (i : CapInstant) (s : State), b < 8 → s.frameDue b = false → x = s.buf b → x.opens = [i] →
    ∃ t, exec (.captureFrame b) s = .next t ∧
      (s.sampled x i = false → Frame [.ex] s t) ∧
      (s.sampled x i = true → (t.buf b).opens = [] ∧ (t.buf b).lastTime = i.time ∧
        (x.state = .filling → x.cfg.preMode = 1 → (t.buf b).filled = x.filled + 1))) ∧
  (∀ (b : Nat) (x : CapBuf) (s : State), b < 8 → x = s.buf b → x.cfg.auto = true →
    (x.starting = true ∧ (x.cfg.preMode = 0 ∨ x.cfg.pre = 0)) ∨
      (x.starting = false ∧ (x.state = .armed ∨ (x.state = .filling ∧ x.cfg.preMode = 0))) →
    ∃ t, exec (.capAutoTrigger b) s = .next t ∧
      if x.cfg.autoTimeout ≤ (if x.starting = true then 0 else x.idleFrames) + 1 then t.buf b = { x with auto := true } ∧ (∀ k, k ≠ b → t.buf k = s.buf k)
      else Frame [.ex] s t) ∧
  (∀ (b : Nat) (s : State), b < 8 → (s.buf b).state = .rearm → (s.buf b).segs = [] →
    ∃ t, exec (.rearmEnd b) s = .next t ∧
      if (s.buf b).rearmLeft = 0 then
        (t.buf b).state = (if (t.buf b).cfg.pre = 0 then .armed else .filling) ∧ (t.buf b).filled = 0 ∧ (t.buf b).pre = [] ∧
          (t.buf b).host = t.hostMode 7
      else Frame [.ex] s t) ∧
  (∀ (sess b seq : Nat) (s : State), s.accepts sess Obj.CAP_RELEASE b seq = true →
    ∃ t, exec (.capRelease sess b seq) s = .next t ∧
      if ∃ g ∈ (s.buf b).segs, g.seq = seq then
        t.answered sess 0 Obj.CAP_RELEASE b (.ack []) ∧ (t.buf b).segs = ((s.buf b).segs.filter fun g => g.seq ≠ seq) ∧
          (∀ k, k ≠ b → t.buf k = s.buf k)
      else t.answered sess 0 Obj.CAP_RELEASE b (.nak .unknown 0 0) ∧ Frame [.ex] s t) ∧
  (∀ (x : Nat) (s : State), x < 2 →
    ∃ t, exec (.trigInEdge x) s = .next t ∧
      t.objN Obj.TRIG_IN_EDGES x = (s.objN Obj.TRIG_IN_EDGES x + 1) % 0x100000000 ∧ mfind t.sorus.edgeAt x = some s.tick ∧
      ∀ b y, mfind s.sorus.bufs b = some y → (t.buf b).acc.edges = (x, s.stampBack 3) :: y.acc.edges) ∧
  (∀ (x k : Nat) (s : State), mfind s.sorus.pulseEnd x = some k →
    ∃ t, exec (.trigOutPulseEnd x) s = .next t ∧
      if k ≤ s.tick then mfind t.sorus.pulseEnd x = none ∧ t.sorus.bufs = s.sorus.bufs else Frame [.ex] s t) ∧
  (∀ (sess r : Nat) (v : Int) (s : State), s.accepts sess Obj.RING_LENGTH r v = true →
    ∃ t, exec (.ringLength sess r v) s = .next t ∧
      if 4194304 < (((((List.range 16).filter (· ≠ r)).map fun i => s.objN Obj.RING_LENGTH i).sum : Nat) : Int) + v then
        t.answered sess 0 Obj.RING_LENGTH r (.nak .full 0 0) ∧ Frame [.ex] s t
      else
        t.answered sess 0 Obj.RING_LENGTH r (.ack []) ∧ t.obj Obj.RING_LENGTH r = v ∧
          t.ring r = { s.ring r with pendingLen := some v.toNat }) ∧
  (∀ (sess r : Nat) (v : Int) (s : State), s.accepts sess Obj.RING_RP r v = true →
    ∃ t, exec (.ringRp sess r v) s = .next t ∧
      if v = (s.ring r).wp then
        t.answered sess 0 Obj.RING_RP r (.ack []) ∧ t.ring r = { s.ring r with rp := (s.ring r).wp, recs := [] }
      else if ∃ x ∈ (s.ring r).recs, (x.1 : Int) = v then
        t.answered sess 0 Obj.RING_RP r (.ack []) ∧ (t.ring r).rp = v.toNat ∧ (t.ring r).wp = (s.ring r).wp ∧
          (t.ring r).recs.head?.map (·.1) = some v.toNat
      else t.answered sess 0 Obj.RING_RP r (.nak .range 0 0) ∧ Frame [.ex] s t)

/-- Ports and addressing (R375, R380 to R383, R399, R405). A change of lock starts its hold timer, and the RS-FEC codewords reported with it
count while RS-FEC is selected and the PCS is out of reset. A port that has been without lock for
LINK_DOWN_HOLD is DOWN, its flap counted and its queues flushed, and outside INDEPENDENT mode its partner takes over as PRIMARY; one with
lock for LINK_UP_HOLD is UP in its role. An announcement is repeated at its instant: an ARP for each IPv4 address in use and an
advertisement for each IPv6 address wait for an egress queue; the preferred port takes PRIMARY back after 10 s.
PORT_ENABLE 0 takes the lock away. NET_APPLY is refused RANGE for an address R380 bars, waits for every frame being sent, and otherwise
takes the staged addressing.
The addressing of 0 and the frames an announcement forms are the model's choices (log entries 47 and 193). -/
def Obligations.Ports : Prop :=
  (∀ (x corrected uncorrected : Nat) (ok lock : Bool) (s : State), x < 2 → s.ticking = true →
    lock = (ok && decide (s.obj Obj.PORT_ENABLE x = 1) && decide (2 ≤ s.dev.selfStep)) →
    ∃ t, exec (.pcsLockChange x ⟨ok, corrected, uncorrected⟩) s = .next t ∧ (t.port x).lock = lock ∧ (t.port x).up = (s.port x).up ∧
      (t.port x).lockSince = (if (s.port x).lock = lock then (s.port x).lockSince else s.tick) ∧ t.port (1 - x) = s.port (1 - x) ∧
      Frame [.objs, .ex, .net] s t ∧
      if s.obj Obj.FEC_MODE x = 1 ∧ s.obj Obj.PORT_ENABLE x = 1 then
        t.objN Obj.FEC_CORRECTED x = (s.objN Obj.FEC_CORRECTED x + corrected) % 2 ^ 64 ∧
          t.objN Obj.FEC_UNCORRECTED x = (s.objN Obj.FEC_UNCORRECTED x + uncorrected) % 2 ^ 64
      else t.objs = s.objs) ∧
  (∀ (x : Nat) (s : State), x < 2 → (s.port x).up = true → (s.port x).lock = false →
    ∃ t, exec (.linkDown x) s = .next t ∧
      if s.elapsed (s.port x).lockSince (1000 * s.objN Obj.LINK_DOWN_HOLD x) = true then
        (t.port x).up = false ∧ (t.port x).role = 3 ∧ t.objN Obj.LINK_FLAPS x = min u32Max (s.objN Obj.LINK_FLAPS x + 1) ∧
          (∀ i < 8, (t.queue (8 * x + i)).frames = []) ∧
          (t.port (1 - x)).role = (if (s.port (1 - x)).up = true ∧ (s.port x).role = 0 ∧ s.obj Obj.PORT_MODE 0 = 0 then 0
            else (s.port (1 - x)).role)
      else Frame [.ex] s t) ∧
  (∀ (x : Nat) (s : State), x < 2 → (s.port x).up = false → (s.port x).lock = true →
    ∃ t, exec (.linkUp x) s = .next t ∧
      if s.elapsed (s.port x).lockSince (1000000 * s.objN Obj.LINK_UP_HOLD x) = true then
        (t.port x).up = true ∧ (t.port x).upSince = s.tick ∧ (t.port (1 - x)).up = (s.port (1 - x)).up ∧
          (t.port x).role = (if s.obj Obj.PORT_MODE 0 = 1 then 2 else if (s.port (1 - x)).up = true then 1 else 0)
      else Frame [.ex] s t) ∧
  (∀ (k : Nat) (rest : List Nat) (s : State), s.net.announce = k :: rest →
    ∃ t, exec .announcementRepeat s = .next t ∧
      if k ≤ s.tick then
        t.net = { s.net with announce := rest, announced := s.net.announced + 1, toSend := t.net.toSend } ∧ Frame [.ex, .net] s t ∧
          ∃ fs, t.net.toSend = s.net.toSend ++ fs ∧ ∀ a, a = 0 ∨ (a = 1 ∧ s.obj Obj.PORT_MODE 0 = 1) →
            (s.obj Obj.IPV4_ADDR a ≠ 0 → (s.txPort a, s.gratuitousArp a) ∈ fs) ∧
            ∀ g ∈ s.ipv6Own a, (s.txPort a, s.advert a false (groupMac allNodes) allNodes g) ∈ fs
      else Frame [.ex] s t) ∧
  (∀ (x : Nat) (s : State), x < 2 → x = s.objN Obj.PREFERRED_PORT 0 → s.obj Obj.REVERT 0 = 1 → s.obj Obj.PORT_MODE 0 = 0 →
    (s.port x).up = true → (s.port x).role ≠ 0 →
    ∃ t, exec .portRevert s = .next t ∧
      if s.elapsed (s.port x).upSince 10000000000 = true then
        (t.port x).role = 0 ∧ (t.port (1 - x)).role = (if (s.port (1 - x)).up = true then 1 else 3) ∧
          t.net.announced = s.net.announced + 1 ∧ t.time.freshDelay = false
      else Frame [.ex] s t) ∧
  (∀ (sess x : Nat) (v : Int) (s : State), x < 2 → s.accepts sess Obj.PORT_ENABLE x v = true →
    ∃ t, exec (.portEnable sess x v) s = .next t ∧ t.answered sess 0 Obj.PORT_ENABLE x (.ack []) ∧ t.obj Obj.PORT_ENABLE x = v ∧
      t.port (1 - x) = s.port (1 - x) ∧
      if v = 0 then (t.port x).lock = false ∧ (∀ i < 8, (t.queue (8 * x + i)).frames = []) else t.net = s.net) ∧
  (∀ (sess : Nat) (s : State), s.accepts sess Obj.NET_APPLY 0 1 = true →
    ∃ t, exec (.netApply sess) s = .next t ∧
      if s.addrBad 0 = true ∨ s.addrBad 1 = true then t.answered sess 0 Obj.NET_APPLY 0 (.nak .range 0 0) ∧ Frame [.ex] s t
      else
        t.answered sess 0 Obj.NET_APPLY 0 (.ack []) ∧
          if (s.port 0).busy.isSome = true ∨ (s.port 1).busy.isSome = true then
            t.net = { s.net with netWait := (List.range 2).filter fun x => (s.port x).busy.isSome } ∧ Frame [.ex, .net] s t
          else
            t.net.netWait = [] ∧
              ∀ a ∈ [Obj.PORT_MODE, Obj.PREFERRED_PORT, Obj.IPV4_ADDR, Obj.IPV4_PREFIX, Obj.IPV4_GATEWAY, Obj.MGMT_VID],
                msorted (s.stagedOf a) = true → t.stagedOf a = [] ∧ ∀ p ∈ s.stagedOf a, t.obj a p.1 = p.2)

/-- Reception and classification (R376, R379, R386 to R389, R392 to R398). A frame on a port that is not UP is not received; what comes on the
maintenance UART is delimited as R453 says, and a frame there whose format is wrong is counted; one that
fails a MAC check is counted in that check's counter alone; one with a bad checksum is counted and dropped; one that passes is walked
through the active bank to its leaf, which counts it and drops it or hands it on, or in host-assisted mode is held. A recirculated frame
makes its second pass. CLASS_DECIDE is refused RANGE, STATE or UNKNOWN, or takes the frame out of the hold, with THROUGH every frame
before it too, and hands it on. A new rule set is checked and then either becomes the active bank under the next generation or is refused
FORMAT; the old bank is retained until its frames are done or 100 µs have passed.
The order of the hold and when RULES_APPLY and RULES_STORE answer are the model's choices (log entries 47, 94 and 203). -/
def Obligations.Classification : Prop :=
  (∀ (x : Nat) (bytes : List Byte) (fcsOk tagOk : Bool) (s : State),
    2 < x ∨ (x < 2 ∧ (s.port x).up = false) ∨ (x = 2 ∧ s.exvanServed = false) →
    ∃ t, exec (.frameReceive x bytes fcsOk tagOk) s = .next t ∧ Frame [.ex] s t) ∧
  (∀ p : List Byte, p ≠ [] → unslip false [] (slip p) = [p]) ∧
  (∀ (p : List Byte) (fcsOk tagOk : Bool) (s : State), p ≠ [] → s.recovery = true → frameFormatOk p = false →
    ∃ t, exec (.frameReceive 2 (slip p) fcsOk tagOk) s = .next t ∧
      t.objN Obj.FORMAT_DROPS 0 = (s.objN Obj.FORMAT_DROPS 0 + 1) % 2 ^ 64 ∧ t.ex.out = s.ex.out) ∧
  (∀ (x c : Nat) (bytes : List Byte) (fcsOk tagOk : Bool) (s : State), x < 2 → (s.port x).up = true → (s.func 8).pending = none →
    s.hostMode 8 = false → s.net.held = [] → macCheck s x bytes fcsOk = some c →
    ∃ t, exec (.frameReceive x bytes fcsOk tagOk) s = .next t ∧ t.objN c x = (s.objN c x + 1) % 2 ^ 64 ∧
      t.obj Obj.RX_FRAMES x = s.obj Obj.RX_FRAMES x ∧ t.net.ptpIn = s.net.ptpIn ∧ t.net.exvanIn = s.net.exvanIn) ∧
  (∀ (x : Nat) (bytes : List Byte) (fcsOk tagOk : Bool) (s : State), x < 2 → (s.port x).up = true → (s.func 8).pending = none →
    s.hostMode 8 = false → s.net.held = [] → macCheck s x bytes fcsOk = none → checksumBad bytes = true →
    ∃ t, exec (.frameReceive x bytes fcsOk tagOk) s = .next t ∧
      t.objN Obj.RX_FRAMES x = (s.objN Obj.RX_FRAMES x + 1) % 2 ^ 64 ∧
      t.objN Obj.RX_BYTES x = (s.objN Obj.RX_BYTES x + (bytes.length + 4)) % 2 ^ 64 ∧
      t.objN Obj.RX_CHECKSUM_BAD x = (s.objN Obj.RX_CHECKSUM_BAD x + 1) % 2 ^ 64 ∧ t.net.ptpIn = s.net.ptpIn ∧
      t.net.exvanIn = s.net.exvanIn) ∧
  (∀ (x : Nat) (bytes nd : List Byte) (fcsOk tagOk : Bool) (f : RxFrame) (s : State), x < 2 → (s.port x).up = true →
    (s.func 8).pending = none → s.hostMode 8 = false → s.net.held = [] → macCheck s x bytes fcsOk = none → checksumBad bytes = false →
    parseOutcome bytes = none → guardKey (keyOf s x bytes) = false →
    f = { port := x, stamp := s.rxStamp x, bytes, tagOk, key := keyOf s x bytes, gen := s.objN Obj.RULES_GEN 0 } →
    nd = walk s.net.rules.bank f.key 33 0 → le nd 1 1 = 0 ∨ le nd 1 1 = 2 → le nd 3 1 = 0xFF → le nd 6 1 = 0 →
    ∃ t, exec (.frameReceive x bytes fcsOk tagOk) s = .next t ∧
      t.objN Obj.LEAF_FRAMES (le nd 4 2) = (s.objN Obj.LEAF_FRAMES (le nd 4 2) + 1) % 2 ^ 64 ∧
      t.objN Obj.LEAF_BYTES (le nd 4 2) = (s.objN Obj.LEAF_BYTES (le nd 4 2) + (bytes.length + 4)) % 2 ^ 64 ∧
      t.net.ptpIn = (if le nd 1 1 = 2 then f :: s.net.ptpIn else s.net.ptpIn)) ∧
  (∀ (x : Nat) (bytes : List Byte) (fcsOk tagOk : Bool) (s : State), x < 2 → (s.port x).up = true → (s.func 8).pending = none →
    s.hostMode 8 = true → s.heldLate = false → s.net.held.length < 256 → macCheck s x bytes fcsOk = none →
    checksumBad bytes = false → parseOutcome bytes = none → guardKey (keyOf s x bytes) = false →
    ∃ t, exec (.frameReceive x bytes fcsOk tagOk) s = .next t ∧ ∃ h, t.net.held = s.net.held ++ [h] ∧ h.seq = s.net.heldSeq ∧
      h.frame.bytes = bytes ∧ h.due = s.tick + s.objN Obj.CLASS_HOST_DEADLINE 0 * 625 / 4) ∧
  (∀ (f : RxFrame) (rest : List RxFrame) (nd : List Byte) (s : State), s.net.recirc = f :: rest → s.net.rules.retaining = none →
    guardKey f.key = false →
    nd = walk (if f.gen = s.objN Obj.RULES_GEN 0 then s.net.rules.bank else s.net.rules.shadow) f.key 33 f.next →
    le nd 1 1 = 0 ∨ le nd 1 1 = 2 → le nd 3 1 = 0xFF → le nd 6 1 = 0 →
    ∃ t, exec .recirculationPass s = .next t ∧ t.net.recirc = rest ∧
      t.objN Obj.RECIRCULATED 0 = (s.objN Obj.RECIRCULATED 0 + 1) % 2 ^ 64 ∧
      t.objN Obj.LEAF_FRAMES (le nd 4 2) = (s.objN Obj.LEAF_FRAMES (le nd 4 2) + 1) % 2 ^ 64 ∧
      t.net.ptpIn = (if le nd 1 1 = 2 then f :: s.net.ptpIn else s.net.ptpIn)) ∧
  (∀ (sess seq cls : Nat) (through : Bool) (c : Instr) (s : State), s.acceptsOctets sess Obj.CLASS_DECIDE 0 = true →
    c ∈ [.classDecideDrop sess seq cls through, .classDecideExvan sess seq cls through, .classDecidePtp sess seq cls through,
      .classDecideSlow sess seq cls through] →
    7 < cls ∨ s.hostMode 8 = false ∨ (∀ h ∈ s.net.held, h.seq ≠ seq) →
    ∃ t, exec c s = .next t ∧ Frame [.ex] s t ∧ t.answered sess 0 Obj.CLASS_DECIDE 0
      (.nak (if 7 < cls then .range else if s.hostMode 8 = true then .unknown else .state) 0 0)) ∧
  (∀ (sess cls : Nat) (through : Bool) (h : HeldFrame) (a b : List HeldFrame) (s : State),
    s.acceptsOctets sess Obj.CLASS_DECIDE 0 = true → cls ≤ 7 → s.hostMode 8 = true → s.net.held = a ++ h :: b →
    (∀ x ∈ a, x.seq ≠ h.seq) →
    (∃ t, exec (.classDecideDrop sess h.seq cls through) s = .next t ∧ t.answered sess 0 Obj.CLASS_DECIDE 0 (.ack []) ∧
      t.net.held = (if through then b else a ++ b) ∧ t.net.ptpIn = s.net.ptpIn ∧ t.net.exvanIn = s.net.exvanIn) ∧
    (∃ t, exec (.classDecidePtp sess h.seq cls through) s = .next t ∧ t.answered sess 0 Obj.CLASS_DECIDE 0 (.ack []) ∧
      t.net.held = (if through then b else a ++ b) ∧
      t.net.ptpIn = (if through then h.frame :: (a.map (·.frame)).reverse else [h.frame]) ++ s.net.ptpIn) ∧
    (∃ t, exec (.classDecideSlow sess h.seq cls through) s = .next t ∧
      ((∀ i < 8, mget [] s.net.classes i = []) → t.answered sess 0 Obj.CLASS_DECIDE 0 (.ack [])) ∧ t.net.held = (if through then b else a ++ b) ∧
      (a = [] → s.net.slow = [] → 156250000 ≤ s.slowBucket 9 →
        t.objN Obj.SLOW_FRAMES 9 = (s.objN Obj.SLOW_FRAMES 9 + 1) % 2 ^ 64 ∧ t.slowBucket 9 = s.slowBucket 9 - 156250000)) ∧
    (∃ t, exec (.classDecideExvan sess h.seq cls through) s = .next t ∧ t.net.held = (if through then b else a ++ b) ∧
      ∀ p, p = (udpPart (headers h.frame.bytes)).drop 8 → a = [] → (∀ i < 8, mget [] s.net.classes i = []) →
        h.frame.port < 2 → h.frame.tagOk = true → frameFormatOk p = true →
        be p 18 2 = s.objN Obj.NODE_ID 0 ∨ be p 18 2 = 0xFFFF → be p 4 2 = 0 → be p 3 1 = 1 → be p 24 1 ≤ 2 → 0 < be p 20 2 →
        be p 8 4 = 0 → s.keyGenOk (be p 24 1) (be p 7 1) = true →
        t.answered sess 0 Obj.CLASS_DECIDE 0 (.ack []) ∧ t.net.exvanIn = { h.frame with cls } :: s.net.exvanIn)) ∧
  (∀ (sess : Nat) (s : State), s.accepts sess Obj.RULES_APPLY 0 1 = true →
    ∃ t, exec (.rulesApply sess) s = .next t ∧
      if s.net.rules.retaining.isSome = true ∨ s.net.rules.checking.isSome = true then
        t.answered sess 0 Obj.RULES_APPLY 0 (.nak .busy 0 0) ∧ Frame [.ex] s t
      else
        t.net.rules = { s.net.rules with checking := some s.tick } ∧ (∃ o ∈ t.ex.owed, o.kind = .rulesApply ∧ o.sess = sess) ∧
          Frame [.ex, .net] s t) ∧
  (∀ (k old : Nat) (s : State), s.net.rules.checking = some k → old = s.objN Obj.RULES_GEN 0 →
    ∃ t, exec .rulesCheckDone s = .next t ∧ t.net.rules.checking = none ∧
      match ruleFault s.net.rules.shadow with
      | none =>
        t.net.rules.bank = s.net.rules.shadow ∧ t.net.rules.shadow = s.net.rules.bank ∧ t.objN Obj.RULES_GEN 0 = nextGen old ∧
          t.objN Obj.RULES_ACTIVE_BANK 0 = 1 - s.objN Obj.RULES_ACTIVE_BANK 0 ∧
          t.net.rules.retaining = (if s.oldFrames old = [] then none else some (old, s.tick))
      | some (n, c) =>
        t.net.rules.bank = s.net.rules.bank ∧ t.net.rules.shadow = s.net.rules.shadow ∧
          t.obj Obj.RULES_GEN 0 = s.obj Obj.RULES_GEN 0 ∧ t.objN Obj.RULES_FAIL_NODE 0 = n ∧ t.objN Obj.RULES_FAIL_CHECK 0 = c) ∧
  (∀ (g k : Nat) (s : State), s.net.rules.retaining = some (g, k) →
    ∃ t, exec .rulesRetainEnd s = .next t ∧
      if s.oldFrames g = [] then t.net.rules = { s.net.rules with retaining := none } ∧ t.net.recirc = s.net.recirc
      else if s.elapsed k 100000 = true then
        t.net.rules = { s.net.rules with retaining := none } ∧ t.net.recirc = (s.net.recirc.filter fun f => f.gen ≠ g)
      else Frame [.ex] s t) ∧
  (∀ (sess : Nat) (s : State), s.accepts sess Obj.RULES_STORE 0 1 = true →
    ∃ t, exec (.rulesStore sess) s = .next t ∧
      if s.flashOk = false then t.answered sess 0 Obj.RULES_STORE 0 (.nak .state 0 0) ∧ Frame [.ex] s t
      else if s.flashBusy = true then t.answered sess 0 Obj.RULES_STORE 0 (.nak .busy 0 0) ∧ Frame [.ex] s t
      else t.answered sess 0 Obj.RULES_STORE 0 (.ack []) ∧ t.dev.store = some { kind := .rules, regions := [0] })

/-- Egress queues, shapers, gate lists and sampling (R402 to R419). A frame enters the queue of its source, or is counted as flushed while
the port is DOWN, dropped above QUEUE_LIMIT, or oversize for every window. An idle port sends the head of its highest eligible queue, with
the tag of R403, and charges the shaper; when its wire length has passed, the frame and its bytes are counted, and addressing that waited
for the last such end takes effect. Shaper settings and queue limits wait for the frame being sent. GATE_APPLY is refused BUSY, RANGE or TIME, or names a change at the first cycle start at least 1 µs ahead; at that
instant the list is in force. A sample at a multiple of the period in force latches depths and delays and restarts the maxima.
The fractions of a shaper's bucket, and which frame enters a queue, are the model's choices (log entry 47). -/
def Obligations.EgressQueues : Prop :=
  (∀ (x source len n : Nat) (s : State), x < 2 → source < 8 → n = s.txQueue x source →
    ∃ t, exec (.txEnqueue x source len) s = .next t ∧
      if (s.port (n / 8)).up = false then
        t.objN Obj.QUEUE_FLUSHED n = (s.objN Obj.QUEUE_FLUSHED n + 1) % 2 ^ 64 ∧
          t.net = { s.net with toSend := if source = 5 then s.net.toSend.drop 1 else s.net.toSend }
      else if s.objN Obj.QUEUE_LIMIT n < (s.queue n).depth + len then
        t.objN Obj.QUEUE_DROPS n = (s.objN Obj.QUEUE_DROPS n + 1) % 2 ^ 64 ∧ (t.queue n).frames = (s.queue n).frames
      else
        (s.objN Obj.GATE_LONGEST n = u32Max → (s.portGates (n / 8)).oper = none → (s.portGates (n / 8)).next = none →
          (t.queue n).frames = (s.queue n).frames ++ [{ len, entry := s.tick, source }] ∧
          (t.queue n).depthMax = max (s.queue n).depthMax ((s.queue n).depth + len)) ∧
        ((s.queue n).frames = [] → s.oversize n len = true →
          (t.queue n).frames = [] ∧ t.objN Obj.GATE_OVERSIZE n = (s.objN Obj.GATE_OVERSIZE n + 1) % 2 ^ 64)) ∧
  (∀ (x i n : Nat) (f : TxFrame) (rest : List TxFrame) (s : State), x < 2 → i < 8 → n = 8 * x + i → (s.port x).up = true →
    (s.port x).busy = none → (s.portGates x).oper = none → (s.portGates x).next = none → s.objN Obj.GATE_LONGEST n = u32Max →
    s.eligible n = true → (∀ j, i < j → j < 8 → s.eligible (8 * x + j) = false) → (s.queue n).frames = f :: rest →
    ∃ t, exec (.txFrameStart x) s = .next t ∧ (t.port x).busy = some (n, f.len, s.tick) ∧ (t.port x).tag = s.tagOf n ∧
      (t.queue n).frames = rest ∧
      (t.queue n).bucket = (if (s.queue n).enabled = true then s.bucketNow n - (f.len + 20) * 65536 else 0)) ∧
  (∀ (x : Nat) (s : State), (s.port x).up = false ∨ (s.port x).busy.isSome = true →
    ∃ t, exec (.txFrameStart x) s = .next t ∧ Frame [.ex] s t) ∧
  (∀ (x n len k : Nat) (s : State), x < 2 → (s.port x).busy = some (n, len, k) →
    ∃ t, exec (.txFrameEnd x) s = .next t ∧
      if len + 20 ≤ 20 * (s.tick - k) then
        (t.port x).busy = none ∧ t.net.netWait = (s.net.netWait.filter fun y => y ≠ x) ∧
          (s.net.netWait = [x] → ∀ a ∈ [Obj.PORT_MODE, Obj.PREFERRED_PORT, Obj.IPV4_ADDR, Obj.IPV4_PREFIX, Obj.IPV4_GATEWAY, Obj.MGMT_VID],
            msorted (s.stagedOf a) = true → t.stagedOf a = [] ∧ ∀ p ∈ s.stagedOf a, t.obj a p.1 = p.2) ∧
          t.objN Obj.QUEUE_FRAMES n = (s.objN Obj.QUEUE_FRAMES n + 1) % 2 ^ 64 ∧
          t.objN Obj.QUEUE_BYTES n = (s.objN Obj.QUEUE_BYTES n + len) % 2 ^ 64 ∧
          t.objN Obj.TX_FRAMES x = (s.objN Obj.TX_FRAMES x + 1) % 2 ^ 64 ∧
          t.objN Obj.TX_BYTES x = (s.objN Obj.TX_BYTES x + len) % 2 ^ 64
      else Frame [.ex] s t) ∧
  (∀ (sess n which addr : Nat) (v : Int) (s : State),
    addr = (if which = 0 then Obj.SHAPER_RATE else if which = 1 then Obj.SHAPER_BURST else Obj.SHAPER_ENABLE) →
    s.accepts sess addr n v = true →
    ∃ t, exec (.shaperWrite sess n which v) s = .next t ∧ t.answered sess 0 addr n (.ack []) ∧ t.obj addr n = v ∧
      (t.queue n).frames = (s.queue n).frames ∧
      if (s.port (n / 8)).busy.isSome = true then
        (t.queue n).shaperPending = true ∧ (t.queue n).rate = (s.queue n).rate ∧ (t.queue n).enabled = (s.queue n).enabled
      else
        (t.queue n).shaperPending = false ∧ (t.queue n).rate = t.objN Obj.SHAPER_RATE n ∧
          (t.queue n).burst = t.objN Obj.SHAPER_BURST n ∧ (t.queue n).enabled = decide (t.obj Obj.SHAPER_ENABLE n = 1)) ∧
  (∀ (sess : Nat) (s : State), s.accepts sess Obj.TXQ_APPLY 0 1 = true →
    ∃ t, exec (.txqApply sess) s = .next t ∧
      if 1048576 < (((List.range 8).map fun q => s.judged Obj.QUEUE_LIMIT q).sum) ∨
          1048576 < (((List.range 8).map fun q => s.judged Obj.QUEUE_LIMIT (8 + q)).sum) then
        t.answered sess 0 Obj.TXQ_APPLY 0 (.nak .range 0 0) ∧ Frame [.ex] s t
      else
        t.answered sess 0 Obj.TXQ_APPLY 0 (.ack []) ∧ ∀ x < 2,
          if (s.port x).busy.isSome = true then
            x ∈ t.net.txqDue ∧ ∀ q < 8, t.obj Obj.QUEUE_LIMIT (8 * x + q) = s.obj Obj.QUEUE_LIMIT (8 * x + q)
          else ∀ q < 8, t.obj Obj.QUEUE_LIMIT (8 * x + q) = s.judged Obj.QUEUE_LIMIT (8 * x + q)) ∧
  (∀ (x : Nat) (s : State), x < 2 →
    ∃ t, exec (.gateEntryChange x) s = .next t ∧ (t.portGates x).oper = (s.portGates x).oper ∧
      ((t.portGates x).entry, (t.portGates x).gates) =
        match (s.portGates x).oper with
        | none => (0, 0xFF)
        | some l => l.at_ s.tickTime) ∧
  (∀ (sess x cycle len : Nat) (s : State), s.accepts sess Obj.GATE_APPLY x 1 = true → cycle = (s.judged Obj.GATE_CYCLE x).toNat →
    len = (s.judged Obj.GATE_LIST_LEN x).toNat → 0 < cycle →
    ∃ t, exec (.gateApply sess x) s = .next t ∧
      if (s.portGates x).next.isSome = true then t.answered sess 0 Obj.GATE_APPLY x (.nak .busy 0 0) ∧ Frame [.ex] s t
      else if gateEntriesOk (s.judgedOct Obj.GATE_LIST x) len cycle = false then
        t.answered sess 0 Obj.GATE_APPLY x (.nak .range 0 0) ∧ Frame [.ex] s t
      else if s.time.servo = .unset then t.answered sess 0 Obj.GATE_APPLY x (.nak .time 0 0) ∧ Frame [.ex] s t
      else
        t.answered sess 0 Obj.GATE_APPLY x (.ack []) ∧ t.stagedVal Obj.GATE_CYCLE x = none ∧
          ∃ (ct k : Int) (l : GateList), (t.portGates x).next = some (ct, decide (s.judged Obj.GATE_ENABLE x = 1), l) ∧
            l.cycle = cycle ∧ l.base = s.judged Obj.GATE_BASE x ∧ l.entries.length = len ∧ ct = l.base + k * cycle ∧
            s.now + 1000 ≤ ct ∧ ct < s.now + 1000 + cycle ∧ t.obj Obj.GATE_CHANGE_TIME x = ct ∧
            (t.portGates x).oper = (s.portGates x).oper) ∧
  (∀ (x : Nat) (ct : Int) (on : Bool) (l : GateList) (s : State), x < 2 → (s.portGates x).next = some (ct, on, l) →
    ∃ t, exec (.gateListChanged x) s = .next t ∧
      if s.atT ct = true then
        (t.portGates x).oper = (if on = true then some l else none) ∧ (t.portGates x).next = none ∧
          t.objN Obj.GATE_ENABLE x = (if on = true then 1 else 0) ∧ t.obj Obj.GATE_BASE x = l.base ∧
          t.objN Obj.GATE_CYCLE x = l.cycle
      else Frame [.ex] s t) ∧
  (∀ (p : Nat) (at_ : Int) (s : State),
    p = (if s.net.sampleDue.any (fun d => decide (d ≤ s.tickTime)) = true then s.objN Obj.QSAMPLE_PERIOD 0 else s.net.samplePeriod) →
    at_ = floorDiv s.tickTime (1000 * p) * (1000 * p) →
    ∃ t, exec .qsample s = .next t ∧ t.net.samplePeriod = p ∧
      if s.net.sampleAt < at_ then
        t.obj Obj.QSAMPLE_TIME 0 = at_ ∧ t.net.sampleAt = at_ ∧
          t.objN Obj.QSAMPLE_SEQ 0 = (s.objN Obj.QSAMPLE_SEQ 0 + 1) % 0x100000000 ∧
          ∀ n < 16, t.objN Obj.QDEPTH_BYTES n = (s.queue n).depth ∧
            t.objN Obj.QDEPTH_FRAMES n = min 65535 (s.queue n).frames.length ∧
            t.objN Obj.QDELAY_MAX n = (s.queue n).delayMax ∧
            t.queue n = { s.queue n with depthMax := (s.queue n).depth, delayMax := 0 }
      else Frame [.ex, .net] s t ∧ t.net.queues = s.net.queues ∧ t.net.sampleAt = s.net.sampleAt)

/-- Time (R424, R425, R430 to R443, R448). PTP messages are ignored while PTP is off, discarded and counted where R430 says so, and
otherwise taken: an Announce lists its master, and the selected one's gives the UTC offset; a one-step Sync of the selected master forms a
measurement once a path delay is known, a Delay_Resp to this module gives the path delay, one to another leaves everything. The servo takes
the measurement an update names, once: it moves the rate by the servo law, or joins the pairs of an UNSET servo under the local time of its
Sync. A delay request takes the next sequence number, and the next one waits at most twice the interval. A master that falls silent is lost,
with its measurement. TIME_RATE is refused STATE in hardware mode and otherwise sets
the rate and, where it does not come too late, the next deadline; TIME_RESET is refused BUSY while a
commit is ARMED and otherwise unsets the servo and removes every pulse, launch and gate list. A PPS_IN edge within its window is measured;
2 s without one end its validity.
How masters qualify, what TIME_RESET stops, the host's first deadline, what a measurement is and when delay requests leave are the model's choices (log entries 48, 103, 105, 107 and 176). -/
def Obligations.NetworkTime : Prop :=
  (∀ (m : PtpMsg) (s : State), s.obj Obj.PTP_ENABLE 0 = 0 ∨ s.ticking = false →
    ∃ t, exec (.ptpMessage m) s = .next t ∧ Frame [.ex] s t) ∧
  (∀ (m : PtpMsg) (s : State), s.obj Obj.PTP_ENABLE 0 ≠ 0 → s.ticking = true → s.ptpDiscards m = true →
    ∃ t, exec (.ptpMessage m) s = .next t ∧
      t.objN Obj.PTP_RX_DISCARDS 0 = (s.objN Obj.PTP_RX_DISCARDS 0 + 1) % 2 ^ 64 ∧ Frame [.ex, .objs, .net] s t ∧
      (s.ptpFrame m = none → t.net = s.net) ∧
      ∀ f, s.ptpFrame m = some f → t.net = { s.net with ptpIn := (s.net.ptpIn.reverse.erase f).reverse }) ∧
  (∀ (m : PtpMsg) (stamp : Int) (s : State), stamp = (s.stamped m).stamp → s.obj Obj.PTP_ENABLE 0 ≠ 0 → s.ticking = true → s.ptpDiscards m = false →
    m.transport = s.objN Obj.PTP_TRANSPORT 0 →
    ∃ t, exec (.ptpMessage m) s = .next t ∧
      (m.kind = 11 → s.masterOf m.src = none → s.time.masters.length < 8 →
        t.time.masters = s.time.masters ++ [⟨m.src, m.rank, none, s.tick, none, m.utc, m.interval, 0⟩]) ∧
      (m.kind = 11 → t.time.master = some m.src → t.obj Obj.UTC_OFFSET 0 = m.utc) ∧
      (m.kind = 0 → s.time.master = some m.src → m.twoStep = false →
        t.time.syncDiff = some (stamp - m.origin - m.correction) ∧ t.time.lastOrigin = some m.origin ∧
          ∀ p, s.time.lastOrigin = some p →
            t.time.meas = (if s.time.freshDelay = true then
                some (stamp - m.origin - m.correction - s.pathDelay, m.origin - p, stamp) else s.time.meas)) ∧
      (m.kind = 9 → m.requesting ≠ s.ptpIdentity → t.time = s.time) ∧
      (∀ t3 d, m.kind = 9 → s.time.delaySent = some (m.seq, t3) → s.time.syncDiff = some d → s.time.master = some m.src →
        m.requesting = s.ptpIdentity → s.obj Obj.PTP_DELAY_MECH 0 = 0 →
        t.time.freshDelay = true ∧ t.time.delaySent = none ∧ t.time.delayLog = m.interval ∧
          t.time.delays = (openRound 1503 (d + (m.origin - t3 - m.correction)) 2 :: s.time.delays).take (s.objN Obj.PATH_DELAY_AVG 0) ∧
          t.objN Obj.PATH_DELAY 0 = min u32Max (openRound 1504 t.time.delays.sum t.time.delays.length).toNat)) ∧
  (∀ (o ts : Int) (s : State), s.time.meas.map (fun m => (m.1, m.2.1)) ≠ some (o, ts) → ∃ t, exec (.servoUpdate o ts) s = .next t ∧ Frame [.ex] s t) ∧
  (∀ (o ts a e i r : Int) (s : State), s.ticking = true → s.time.meas = some (o, ts, a) → s.time.servo ≠ .unset → ts ≠ 0 → s.hostMode 6 = false →
    (s.func 6).pending = none → s.time.hostStarted = false → e = floorDiv (o * 1073741824) ts →
    i = clampRate (s.time.integ + floorDiv (e * s.obj Obj.SERVO_KI 0) 32768) →
    r = clampRate (-(floorDiv (e * s.obj Obj.SERVO_KP 0) 32768 + i)) →
    ∃ t, exec (.servoUpdate o ts) s = .next t ∧ t.time.meas = none ∧ t.obj Obj.TIME_OFFSET 0 = clampInt (-2147483647) 2147483647 o ∧
      t.objN Obj.TIME_OFFSET_SEQ 0 = (s.objN Obj.TIME_OFFSET_SEQ 0 + 1) % 0x100000000 ∧ t.time.integ = i ∧
      t.obj Obj.TIME_RATE 0 = r ∧ t.obj Obj.ADDEND 0 = addendNominal + floorDiv (addendNominal * r) 1073741824 ∧
      t.time.rates = (r :: s.time.rates).take 4096) ∧
  (∀ (o ts a : Int) (s : State), s.ticking = true → s.time.meas = some (o, ts, a) → s.time.servo = .unset → s.time.pairs.length < 7 → s.hostMode 6 = false →
    (s.func 6).pending = none →
    ∃ t, exec (.servoUpdate o ts) s = .next t ∧ t.time.pairs = (a, o) :: s.time.pairs ∧ t.time.servo = .unset ∧
      t.obj Obj.TIME_RATE 0 = s.obj Obj.TIME_RATE 0) ∧
  (∀ (x q : Nat) (s : State), s.ptpPort = some x → s.obj Obj.PTP_ENABLE 0 = 1 → (s.port x).up = true →
    s.obj Obj.PTP_DELAY_MECH 0 = 1 ∨ s.time.master.isSome = true → q = (s.time.ptpSeq + 1) % 65536 →
    ∃ t, exec .delayReqSend s = .next t ∧
      if s.time.delayNext ≤ s.tick then
        t.time.ptpSeq = q ∧ t.time.delaySent = some (q, s.txStamp x) ∧
          (s.obj Obj.FEC_MODE x = 1 → s.txStamp x = floorDiv (10 * s.now + s.obj Obj.TS_TX_LATENCY x) 10) ∧
          t.time.delayOut = { kind := if s.obj Obj.PTP_DELAY_MECH 0 = 1 then 2 else 1, seq := q, stamp := s.txStamp x } ::
            s.time.delayOut ∧
          s.tick ≤ t.time.delayNext ∧ t.time.delayNext ≤ s.tick + 2 * intervalNs s.time.delayLog * 5 / 32 ∧ Frame [.ex, .time] s t
      else Frame [.ex] s t) ∧
  (∀ (cause : Nat) (m : Master) (s : State), s.time.masters.find? (fun m => some m.id == s.time.master) = some m →
    ∃ t, exec (.masterLost cause) s = .next t ∧
      if s.masterSilent m cause = true then
        (∀ x ∈ t.time.masters, x ∈ s.time.masters ∧ x.id ≠ m.id) ∧ t.time.pairs = s.time.pairs ∧ t.time.meas = none ∧
          ((∀ x ∈ s.time.masters, x.id ≠ m.id → s.qualified x = false) → t.time.master = none ∧
            (s.time.servo = .locked ∨ s.time.servo = .tracking → t.time.servo = .holdover ∧ t.objN Obj.SERVO_STATE 0 = 3))
      else Frame [.ex] s t) ∧
  (∀ (sess : Nat) (r : Int) (s : State), s.accepts sess Obj.TIME_RATE 0 r = true →
    ∃ t, exec (.timeRate sess r) s = .next t ∧
      if s.hostMode 6 = false then t.answered sess 0 Obj.TIME_RATE 0 (.nak .state 0 0) ∧ Frame [.ex] s t
      else
        t.answered sess 0 Obj.TIME_RATE 0 (.ack []) ∧ t.obj Obj.TIME_RATE 0 = r ∧
          t.obj Obj.ADDEND 0 = addendNominal + floorDiv (addendNominal * r) 1073741824 ∧
          t.time = { s.time with rateDeadline := if s.rateLate = true then s.time.rateDeadline
                                                 else some (s.tick + s.objN Obj.SERVO_HOST_DEADLINE 0 * 156250) } ∧
          Frame [.ex, .objs, .time] s t) ∧
  (∀ (sess : Nat) (s : State), s.accepts sess Obj.TIME_RESET 0 1 = true →
    ∃ t, exec (.timeReset sess) s = .next t ∧
      if s.anyArmed = true then t.answered sess 0 Obj.TIME_RESET 0 (.nak .busy 0 0) ∧ Frame [.ex] s t
      else
        t.answered sess 0 Obj.TIME_RESET 0 (.ack []) ∧ t.time.servo = .unset ∧ t.time.pairs = [] ∧ t.time.pulses = [] ∧
          t.time.launches = [] ∧ t.objN Obj.TIME_DOMAIN_GEN 0 = (s.objN Obj.TIME_DOMAIN_GEN 0 + 1) % 0x100000000 ∧
          (∀ k < 5, t.obj Obj.PULSE_MODE k = 0) ∧
          ∀ x < 2, (t.portGates x).oper = none ∧ (t.portGates x).next = none ∧ (t.portGates x).gates = 0xFF) ∧
  (∀ (off : Int) (s : State), off = secondOffset s.ppsStamp →
    ∃ t, exec .ppsInEdge s = .next t ∧
      if s.obj Obj.PPS_IN_MODE 0 = 0 ∨ s.ticking = false ∨ s.time.servo = .unset ∨ s.obj Obj.PPS_IN_WINDOW 0 < off.natAbs then
        Frame [.ex] s t
      else
        t.obj Obj.PPS_IN_OFFSET 0 = off ∧ t.obj Obj.PPS_IN_VALID 0 = 1 ∧ t.time.ppsAt = s.tick ∧ t.time.meas = s.time.meas) ∧
  (∀ s : State, s.obj Obj.PPS_IN_VALID 0 = 1 →
    ∃ t, exec .ppsInLost s = .next t ∧
      if s.elapsed s.time.ppsAt 2000000000 = true then t.obj Obj.PPS_IN_VALID 0 = 0 else Frame [.ex] s t)

/-- Pulses and launches (R445 to R447). PULSE_APPLY is refused RANGE where the width fills the period and LATE less than 2 µs ahead, and
otherwise puts the staged program in force, or with mode 0 none. An edge starts a pulse of its width. LAUNCH_APPLY 1 is refused LATE or
RANGE, and otherwise takes the staged frame for its instant; with 2 it removes the launch. At its instant the launch is counted and, if
periodic, set for its next instant. -/
def Obligations.PulsesAndLaunches : Prop :=
  (∀ (sess k : Nat) (s : State), s.accepts sess Obj.PULSE_APPLY k 1 = true →
    ∃ t, exec (.pulseApply sess k) s = .next t ∧
      if 5 * s.judged Obj.PULSE_PERIOD k ≤ 32 * s.judged Obj.PULSE_WIDTH k then
        t.answered sess 0 Obj.PULSE_APPLY k (.nak .range 0 0) ∧ Frame [.ex] s t
      else if s.judged Obj.PULSE_MODE k = 1 ∧ s.judged Obj.PULSE_START k < s.now + 2000 then
        t.answered sess 0 Obj.PULSE_APPLY k (.nak .late 0 0) ∧ Frame [.ex] s t
      else
        t.answered sess 0 Obj.PULSE_APPLY k (.ack []) ∧ t.obj Obj.PULSE_MODE k = s.judged Obj.PULSE_MODE k ∧
          t.stagedVal Obj.PULSE_MODE k = none ∧
          mfind t.time.pulses k = (if s.judged Obj.PULSE_MODE k ≤ 0 then none else some
            ⟨(s.judged Obj.PULSE_MODE k).toNat, s.judged Obj.PULSE_START k, s.judged Obj.PULSE_PERIOD k,
              (s.judged Obj.PULSE_WIDTH k).toNat, (s.judged Obj.PULSE_POL k).toNat, (s.judged Obj.PULSE_QUAL k).toNat,
              some (if s.judged Obj.PULSE_MODE k = 1 then s.judged Obj.PULSE_START k
                else firstFrom (s.judged Obj.PULSE_START k) (s.judged Obj.PULSE_PERIOD k) (s.now + 2000)), none⟩)) ∧
  (∀ (k : Nat) (p : Pulse) (n : Int) (s : State), mfind s.time.pulses k = some p → p.next = some n →
    ∃ t q, exec (.pulseEdge k) s = .next t ∧ mfind t.time.pulses k = some q ∧ Frame [.ex, .time] s t ∧
      if s.atT n = true then
        q.next = (if p.mode = 2 then some (n + p.period) else none) ∧
          (p.qual ≠ 1 ∨ s.time.servo ≠ .unset → q.endTick = some (s.tick + p.width))
      else q.next = some n ∧ ∀ e, p.endTick = some e → q.endTick = (if e ≤ s.tick then none else some e)) ∧
  (∀ (sess l : Nat) (s : State), s.accepts sess Obj.LAUNCH_APPLY l 1 = true →
    ∃ t, exec (.launchStart sess l) s = .next t ∧
      if s.judged Obj.LAUNCH_TIME l < s.now + 2000 then t.answered sess 0 Obj.LAUNCH_APPLY l (.nak .late 0 0) ∧ Frame [.ex] s t
      else if 1 ≤ s.judged Obj.LAUNCH_PERIOD l ∧ s.judged Obj.LAUNCH_PERIOD l ≤ 999 then
        t.answered sess 0 Obj.LAUNCH_APPLY l (.nak .range 0 0) ∧ Frame [.ex] s t
      else
        t.answered sess 0 Obj.LAUNCH_APPLY l (.ack []) ∧
          mfind t.time.launches l = some ⟨s.judgedOct Obj.LAUNCH_FRAME l, (s.judged Obj.LAUNCH_SOURCE l).toNat,
            s.judged Obj.LAUNCH_TIME l, s.judged Obj.LAUNCH_PERIOD l, some (s.judged Obj.LAUNCH_TIME l)⟩) ∧
  (∀ (sess l : Nat) (s : State), s.accepts sess Obj.LAUNCH_APPLY l 2 = true →
    ∃ t, exec (.launchStop sess l) s = .next t ∧ t.answered sess 0 Obj.LAUNCH_APPLY l (.ack []) ∧ mfind t.time.launches l = none ∧
      (∀ k, k ≠ l → mfind t.time.launches k = mfind s.time.launches k) ∧ Frame [.ex, .time] s t) ∧
  (∀ (l : Nat) (e : Launch) (n : Int) (s : State), mfind s.time.launches l = some e → e.next = some n →
    ∃ t, exec (.launchInstant l) s = .next t ∧
      if s.atT n = true then
        t.objN Obj.LAUNCH_COUNT l = (s.objN Obj.LAUNCH_COUNT l + 1) % 0x100000000 ∧
          mfind t.time.launches l = (if e.period = 0 then none else some { e with next := some (n + e.period) })
      else Frame [.ex] s t)

/-- Sessions and keys (R390, R457 to R463, R477). An OPEN of a served module is refused CONFLICT for a nonce in use, which counts in REPLAY_DROPS, FULL with 16
sessions, and otherwise makes a session of a fresh number and answers it. ECHO returns up to 64 bytes. SUBSCRIBE sets one of eight
filters. An EVENT frame takes the 16 oldest records and the next SEQ. CLOSE, SESSION_TIMEOUT and SESSION_CLOSE end a session. KEY_APPLY is
refused STATE or RANGE and otherwise puts the staged key in force under the next generation, kept in flash; the old generation lapses with
KEY_OVERLAP. A group reservation is stored when it is due. -/
def Obligations.Sessions : Prop :=
  (∀ (level source udpPort req : Nat) (uart : Bool) (nonce ip : List Byte) (s : State), 2 < level ∨ s.exvanServed = false →
    ∃ t, exec (.openSession level nonce source uart ip ⟨udpPort, req⟩) s = .next t ∧ t.ex.sessions.map (·.1) = s.ex.sessions.map (·.1) ∧
      t.ex.out = s.ex.out ∧ (2 < level → s.dev.state ≠ .off → t.objN Obj.SESSION_DROPS 0 = (s.objN Obj.SESSION_DROPS 0 + 1) % 2 ^ 64)) ∧
  (∀ (level source udpPort req : Nat) (uart : Bool) (nonce ip : List Byte) (s : State), level ≤ 2 → s.exvanServed = true →
    s.recovery = false → s.active.isSome = true →
    ∃ t, exec (.openSession level nonce source uart ip ⟨udpPort, req⟩) s = .next t ∧
      if nonce ∈ mget [] s.ex.nonces level then
        t.ex.out = ⟨0, req, 0, 0, 0, false, .nak .conflict 0 0⟩ :: s.ex.out ∧
          t.ex.sessions.map (·.1) = s.ex.sessions.map (·.1) ∧ t.objN Obj.REPLAY_DROPS 0 = (s.objN Obj.REPLAY_DROPS 0 + 1) % 2 ^ 64
      else if 16 ≤ s.ex.sessions.length then
        t.ex.out = ⟨0, req, 0, 0, 0, false, .nak .full 0 0⟩ :: s.ex.out ∧ t.ex.sessions = s.ex.sessions
      else
        ∃ num i x dev, mfind t.ex.sessions i = some x ∧ x.num = num ∧ 1 ≤ num ∧ num ≤ 0xFFFD ∧ s.session num = none ∧
          x.level = level ∧ x.source = source ∧ x.uart = uart ∧ x.udpPort = udpPort ∧ x.keyGen = (s.caller level nonce source uart).gen ∧
          x.lastFrame = s.tick ∧ x.txSeq = 0 ∧ nonce ∈ mget [] t.ex.nonces level ∧
          t.ex.out.head? = some ⟨num, req, 0, 0, 0, false,
            .ack (beBytes 2 num ++ [0, 0] ++ dev ++ beBytes 4 (s.objN Obj.SESSION_TIMEOUT 0))⟩) ∧
  (∀ (level source udpPort req : Nat) (uart : Bool) (nonce ip : List Byte) (s : State), level ≤ 2 → s.exvanServed = true →
    s.recovery = false → s.active = none →
    ∃ t, exec (.openSession level nonce source uart ip ⟨udpPort, req⟩) s = .next t ∧
      t.ex.groupLane = s.ex.groupLane ++ [.openSession level nonce source uart ip ⟨udpPort, req⟩] ∧ Frame [.ex] s t) ∧
  (∀ (sess req : Nat) (body : List Byte) (s : State), s.ready sess = true → s.newReq sess req = true →
    ∃ t, exec (.echo sess req body) s = .next t ∧ Frame [.ex] s t ∧
      t.answered sess req 0 0 (if body.length ≤ 64 then .ack body else .nak .format 0 0)) ∧
  (∀ (sess req filter code mask : Nat) (enable : Bool) (s : State), s.ready sess = true → s.newReq sess req = true →
    ∃ t, exec (.subscribe sess req filter enable code mask) s = .next t ∧ Frame [.ex] s t ∧
      if 7 < filter then t.answered sess req 0 0 (.nak .format 0 0)
      else t.answered sess req 0 0 (.ack []) ∧ ∃ i x, t.session sess = some (i, x) ∧ mfind x.filters filter = some { enable, code, mask }) ∧
  (∀ (sess i : Nat) (x : Session) (s : State), s.active.isSome = true → s.session sess = some (i, x) → x.queue ≠ [] →
    x.txSeq + 1 < u32Max →
    ∃ t, exec (.eventFrameSend sess) s = .next t ∧ t.ex.eventFrames = (sess, x.txSeq + 1, x.queue.take 16) :: s.ex.eventFrames ∧ Frame [.ex] s t ∧
      ∃ y, mfind t.ex.sessions i = some y ∧ y.queue = x.queue.drop 16 ∧ y.txSeq = x.txSeq + 1 ∧ y.overflowed = false) ∧
  (∀ (sess req i : Nat) (x : Session) (s : State), s.ready sess = true → s.newReq sess req = true → s.session sess = some (i, x) →
    ∃ t, exec (.closeSession sess req) s = .next t ∧ t.answered sess req 0 0 (.ack []) ∧ mfind t.ex.sessions i = none) ∧
  (∀ (sess i : Nat) (x : Session) (s : State), s.session sess = some (i, x) →
    ∃ t, exec (.sessionTimeout sess) s = .next t ∧
      if s.exvanServed = true ∧ s.elapsed x.lastFrame (1000000 * s.objN Obj.SESSION_TIMEOUT 0) = true then
        mfind t.ex.sessions i = none ∧ ∀ o ∈ t.ex.owed, o.sess ≠ sess
      else Frame [.ex] s t ∧ t.ex.sessions = s.ex.sessions) ∧
  (∀ (sess target : Nat) (s : State), s.accepts sess Obj.SESSION_CLOSE 0 target = true → msorted s.ex.sessions = true →
    ∃ t, exec (.sessionClose sess target) s = .next t ∧
      match s.session target with
      | none => t.answered sess 0 Obj.SESSION_CLOSE 0 (.nak .unknown 0 0) ∧ Frame [.ex] s t
      | some (j, _) => t.answered sess 0 Obj.SESSION_CLOSE 0 (.ack []) ∧ mfind t.ex.sessions j = none) ∧
  (∀ (sess k : Nat) (s : State), s.accepts sess Obj.KEY_APPLY 0 k = true →
    ∃ t, exec (.keyApply sess k) s = .next t ∧
      match mfind2 s.stagedOcts Obj.KEY_NEW k with
      | none => t.answered sess 0 Obj.KEY_APPLY 0 (.nak .state 0 0) ∧ Frame [.ex] s t
      | some key =>
        if s.flashOk = false then t.answered sess 0 Obj.KEY_APPLY 0 (.nak .state 0 0) ∧ Frame [.ex] s t
        else if key.all (· == 0) = true then t.answered sess 0 Obj.KEY_APPLY 0 (.nak .range 0 0) ∧ Frame [.ex] s t
        else
          t.objN Obj.KEY_GEN k = nextGen (s.objN Obj.KEY_GEN k) ∧ mfind t.ex.keys k = some key ∧
            mfind t.ex.prevKeys (4 * s.objN Obj.KEY_GEN k + k) = some (s.customerKey k, s.tick) ∧
            mfind2 t.stagedOcts Obj.KEY_NEW k = none ∧ t.storing (.keys k) ∧ (∃ o ∈ t.ex.owed, o.kind = .keyApply k ∧ o.sess = sess) ∧
            (k = 3 → t.ex.groupCounter = 1 ∧ t.ex.groupReserved = true)) ∧
  (∀ (k : Nat) (s : State), k < 4 →
    ∃ t, exec (.keyOverlapEnd k) s = .next t ∧
      (∀ e ∈ t.ex.prevKeys, e ∈ s.ex.prevKeys ∧ ¬ (e.1 % 4 = k ∧ s.overlapEnded e.2.2 = true)) ∧
      (∀ e ∈ s.ex.prevKeys, e.1 % 4 ≠ k → e ∈ t.ex.prevKeys) ∧
      ((∀ e ∈ s.ex.prevKeys, e.1 % 4 = k → s.overlapEnded e.2.2 = false) → Frame [.ex] s t ∧ t.ex.sessions = s.ex.sessions)) ∧
  (∀ s : State, s.active.isSome = true → s.ex.groupLimit < u32Max →
    ∃ t, exec .groupSeqReservation s = .next t ∧
      if s.ex.groupReserved = false ∧ s.ex.groupLimit ≤ s.ex.groupCounter + 4194304 then
        t.ex.groupReserved = true ∧ t.storing .life
      else Frame [.ex] s t ∧ t.ex.groupReserved = s.ex.groupReserved)

/-- Object accesses (R395, R419, R465, R467 to R473). A write of a plain object puts its value in force, of a class S object stages it, of a
loop parameter keeps it; one of SLOW_RATE finds the bucket full as the old rate left it, one of QSAMPLE_PERIOD leaves the period in force. A WRITE of one such object does the same; one with no or more than 64 entries is refused FORMAT, one with a failing
entry is refused whole, the entry named. READ answers every entry in order or is refused FORMAT or FULL. BLOCK_READ answers a part of a
value or its refusal. BLOCK_WRITE gathers chunks of one value in order and writes it with the last. Ten seconds without a chunk abandon
the value; answers ten seconds old leave the response cache.
That blocks carry numeric objects too, and the port whose MAX_FRAME counts, are the model's reading (log entries 55 and 60). -/
def Obligations.ObjectAccess : Prop :=
  (∀ (sess addr sel : Nat) (v : Int) (s : State), s.accepts sess addr sel v = true →
    (s.ex.owed.any fun o => o.kind == .park || o.kind == .resume) = false →
    ∃ t, exec (.objectWrite sess addr sel v) s = .next t ∧
      (addr ∈ [Obj.SERVO_KP, Obj.SERVO_KI, Obj.SESSION_TIMEOUT, Obj.KEY_OVERLAP, Obj.TRIG_OUT_WIDTH, Obj.LINK_UP_HOLD, Obj.SWAP_INTERVAL] →
        t.answered sess 0 addr sel (.ack []) ∧ t.obj addr sel = v ∧ Frame [.ex, .objs] s t) ∧
      (addr ∈ [Obj.PULSE_START, Obj.GATE_BASE, Obj.LAUNCH_TIME, Obj.CAP_PRE, Obj.IPV4_ADDR, Obj.GEN_PERIOD] →
        t.answered sess 0 addr sel (.ack []) ∧ t.stagedVal addr sel = some v ∧ Frame [.ex, .staged] s t) ∧
      (addr ∈ [Obj.STEP, Obj.BAND_IN, Obj.VBAND_IN, Obj.DARK_LEVEL] →
        t.answered sess 0 addr sel (.ack []) ∧ t.obj addr sel = v ∧ Frame [.ex, .objs, .loops] s t) ∧
      (addr = Obj.SLOW_RATE → t.obj addr sel = v ∧ t.slowBucket sel = s.slowBucket sel ∧ Frame [.ex, .objs, .net] s t) ∧
      (addr = Obj.QSAMPLE_PERIOD → s.net.sampleDue = none → t.obj addr sel = v ∧ t.net.samplePeriod = s.net.samplePeriod)) ∧
  (∀ (sess req : Nat) (entries : List WriteEntry) (s : State), s.ready sess = true → s.newReq sess req = true →
    (s.ex.owed.any fun o => o.kind == .park || o.kind == .resume) = false → entries = [] ∨ 64 < entries.length →
    ∃ t, exec (.write sess req entries) s = .next t ∧ t.answered sess req 0 0 (.nak .format 0 0) ∧ Frame [.ex] s t) ∧
  (∀ (sess req i : Nat) (x : Session) (d : ObjDef) (e : WriteEntry) (s : State), s.ready sess = true → s.newReq sess req = true →
    (s.ex.owed.any fun o => o.kind == .park || o.kind == .resume) = false → s.session sess = some (i, x) →
    entryCheck s x.level e.addr e.sel (some e.type) e.value = none → objDef e.addr = some d →
    e.addr ∈ [Obj.SERVO_KP, Obj.SERVO_KI, Obj.SESSION_TIMEOUT, Obj.KEY_OVERLAP, Obj.TRIG_OUT_WIDTH, Obj.LINK_UP_HOLD, Obj.SWAP_INTERVAL] →
    (∃ t, exec (.write sess req [e]) s = .next t ∧ t.answered sess req 0 0 (.ack []) ∧ t.obj e.addr e.sel = valueOf d.type e.value ∧
      Frame [.ex, .objs] s t) ∧
    (∀ (f : WriteEntry) (n : Nak), entryCheck s x.level f.addr f.sel (some f.type) f.value = some n →
      ∃ t, exec (.write sess req [e, f]) s = .next t ∧ t.answered sess req 0 0 (.nak n 1 0) ∧ Frame [.ex] s t)) ∧
  (∀ (sess req i : Nat) (x : Session) (entries : List ReadEntry) (body : List Byte) (s u : State), s.ready sess = true →
    s.newReq sess req = true → s.session sess = some (i, x) → u = s.setSession i { x with lastFrame := s.tick } →
    body = (entries.map (readResult u sess x.level)).flatten →
    ∃ t, exec (.read sess req entries) s = .next t ∧ Frame [.ex] s t ∧
      t.answered sess req 0 0
        (if entries = [] ∨ 64 < entries.length then .nak .format 0 0
        else if s.tooLong sess req body.length = true ∨ 8192 < body.length then .nak .full 0 0
        else .ack body)) ∧
  (∀ (sess req i addr sel offset count : Nat) (x : Session) (s u : State), s.ready sess = true →
    s.newReq sess req = true → s.session sess = some (i, x) → u = s.setSession i { x with lastFrame := s.tick } →
    ∃ t, exec (.blockRead sess req addr sel offset count) s = .next t ∧ Frame [.ex] s t ∧
      t.answered sess req 0 0
        (if count = 0 ∨ 8192 < count then .nak .format 0 0
        else match u.readValue sess x.level addr sel with
          | .error n => .nak n 0 0
          | .ok (_, b) =>
            if b.length < offset ∨ s.tooLong sess req (4 + (slice b offset count).length) = true then .nak .range 0 0
            else match u.chunkBad sess addr sel offset (slice b offset count).length with
              | some place => .nak .memory 0 (if addr = Obj.RING_DATA then place else 0)
              | none => .ack (beBytes 4 b.length ++ slice b offset count))) ∧
  (∀ (sess req i addr sel total : Nat) (bytes : List Byte) (x : Session) (s : State), s.ready sess = true → s.newReq sess req = true →
    s.session sess = some (i, x) → (s.ex.owed.any fun o => o.kind == .park || o.kind == .resume) = false → addr ≠ Obj.LOAD_DATA →
    bytes = [] ∨ 8192 < bytes.length ∨ bytes.length ≠ total →
    ∃ t, exec (.blockWrite sess req addr sel 0 total bytes) s = .next t ∧ Frame [.ex] s t ∧
      if bytes = [] ∨ 8192 < bytes.length then t.answered sess req 0 0 (.nak .format 0 0)
      else if totalOk addr total = false then t.answered sess req 0 0 (.nak .type 0 0)
      else if total < bytes.length then t.answered sess req 0 0 (.nak .range 0 0)
      else t.answered sess req 0 0 (.ack []) ∧ ∃ y, mfind t.ex.sessions i = some y ∧ y.block = some ⟨addr, sel, total, bytes, s.tick⟩) ∧
  (∀ (sess req i addr sel offset total : Nat) (bytes : List Byte) (b : BlockBuf) (d : ObjDef) (x : Session) (s : State),
    s.ready sess = true → s.newReq sess req = true → s.session sess = some (i, x) → x.block = some b →
    (s.ex.owed.any fun o => o.kind == .park || o.kind == .resume) = false → 0 < offset → bytes ≠ [] → bytes.length ≤ 8192 →
    objDef addr = some d →
    addr ∈ [Obj.SERVO_KP, Obj.SERVO_KI, Obj.SESSION_TIMEOUT, Obj.KEY_OVERLAP, Obj.TRIG_OUT_WIDTH, Obj.LINK_UP_HOLD, Obj.SWAP_INTERVAL] →
    ∃ t, exec (.blockWrite sess req addr sel offset total bytes) s = .next t ∧
      if b.addr = addr ∧ b.sel = sel ∧ b.total = total ∧ b.bytes.length = offset ∧ offset + bytes.length ≤ total then
        if offset + bytes.length < total then
          t.answered sess req 0 0 (.ack []) ∧ Frame [.ex] s t ∧
            ∃ y, mfind t.ex.sessions i = some y ∧ y.block = some ⟨addr, sel, total, b.bytes ++ bytes, s.tick⟩
        else
          match entryCheck s x.level addr sel none (b.bytes ++ bytes) with
          | some n => t.answered sess req 0 0 (.nak n 0 0) ∧ Frame [.ex] s t
          | none =>
            t.answered sess req 0 0 (.ack []) ∧ t.obj addr sel = valueOf d.type (b.bytes ++ bytes) ∧ Frame [.ex, .objs] s t
      else t.answered sess req 0 0 (.nak .range 0 0) ∧ Frame [.ex] s t) ∧
  (∀ (sess i : Nat) (x : Session) (b : BlockBuf) (s : State), s.session sess = some (i, x) → x.block = some b →
    ∃ t, exec (.blockAbandoned sess) s = .next t ∧
      if s.elapsed b.tick 10000000000 = true then
        t.objN Obj.BLOCKS_ABANDONED 0 = (s.objN Obj.BLOCKS_ABANDONED 0 + 1) % 2 ^ 64 ∧
          ∃ y, mfind t.ex.sessions i = some y ∧ y.block = none ∧ y.num = x.num
      else Frame [.ex] s t ∧ t.ex.sessions = s.ex.sessions) ∧
  (∀ (sess i : Nat) (x : Session) (s : State), s.session sess = some (i, x) →
    ∃ t y, exec (.responseCacheExpiry sess) s = .next t ∧ mfind t.ex.sessions i = some y ∧ Frame [.ex] s t ∧
      y = { x with cache := x.cache.filter fun e => !s.elapsed e.tick 10000000000 })

/-- The internal fabric (R490, R492 to R495, R498 to R502). In the traffic of a scan a request that must be held back is counted and waits at
its port, any other that is allowed enters; and one that no map allows is answered ERROR, a read with zeros; a disagreement of a target's arbiter copies is counted, and a second one
makes it FIXED. An open write burst without a beat for BEAT_TIMEOUT ends, with every burst and the lock of its initiator and the write-back it
made; of a sequence whose lock is broken nothing of target 2 is left but a FENCE, and every other request stays. A target whose arbiter copies disagree twice is FIXED and asserts FAULT_N; ARB_RESET is refused STATE with
none FIXED and otherwise releases all. An uncorrectable HBM error is counted with its word, which stays bad in the rings and the capture
memory, and marks a slot in use, or waits for its PREPARE where a fetcher meets it; an SRAM error is counted and loses every event record that
its 64-bit word touches. A scrub pass that has taken its period counts its corrections by stack, and the next one takes SCRUB_PERIOD.
That transactions carry no data is the model's choice (log entry 40). -/
def Obligations.InternalFabric : Prop :=
  (∀ (i : Nat) (r : MatReq) (s : State), r.mark ≠ 3 → reqAllowed i r = true → s.mat.lock.any (·.1 == i) = false ∨ r.target = 2 →
    if (s.matPort i).mustHold i r = true then
      (matStep s (.present i r)).objN Obj.HELD_BACK i = (s.objN Obj.HELD_BACK i + 1) % 2 ^ 64 ∧
        (matStep s (.present i r)).matPort i = { s.matPort i with held := (s.matPort i).held ++ [r] }
    else
      (matStep s (.present i r)).objs = s.objs ∧
        (matStep s (.present i r)).matPort i = { s.matPort i with out := (s.matPort i).out ++ [r] }) ∧
  (∀ (i : Nat) (r : MatReq) (s : State), r.mark ≠ 3 → reqAllowed i r = false →
    (matStep s (.present i r)).objN Obj.DECODE_ERRORS i = min u32Max (s.objN Obj.DECODE_ERRORS i + 1) ∧
      (matStep s (.present i r)).mat.ports = s.mat.ports ∧
      (matStep s (.present i r)).mat.errors = (i, r, if r.write = true then [] else List.replicate (reqSize r) 0) :: s.mat.errors) ∧
  (∀ (i : Nat) (r : MatReq), reqAllowed i r = true → r.target ≤ 1 →
    r.addr < 0x2000000000 ∧ stackOf r.addr = r.target ∧ regionOpen i (hbmRegion r.addr) r.write = true ∧
      reqEnd r < 0x2000000000 ∧ stackOf (reqEnd r) = r.target ∧ regionOpen i (hbmRegion (reqEnd r)) r.write = true) ∧
  (∀ (x differ : Nat) (idle : List Nat) (s : State), x ∉ s.mat.fixed →
    (differ = 1 → (matStep s (.grant x idle differ)).objN Obj.ARB_MISMATCHES 0 = min u32Max (s.objN Obj.ARB_MISMATCHES 0 + 1)) ∧
    ((matStep s (.grant x idle differ)).mat.fixed = if 2 ≤ differ then s.mat.fixed ++ [x] else s.mat.fixed)) ∧
  (∀ (i k written abandoned n : Nat) (s : State), i < 7 → s.beatSince i k = some n →
    ∃ t, exec (.beatTimeout i k written abandoned) s = .next t ∧
      if s.elapsed n (s.objN Obj.BEAT_TIMEOUT 0) = true then
        t.matPort i = {} ∧ (∀ n, t.mat.lock ≠ some (i, n)) ∧
          t.objN Obj.INIT_ABORTS i = min u32Max (s.objN Obj.INIT_ABORTS i + ((s.matPort i).out.filter openBurst).length +
            (if s.fetchBurst i k = true then 1 else 0)) ∧
          (s.fetchBurst i k = false → t.lib = s.lib ∧ t.hbm = s.hbm)
      else Frame [.ex] s t) ∧
  (∀ (i k written abandoned : Nat) (s : State), 7 ≤ i ∨ s.beatSince i k = none →
    ∃ t, exec (.beatTimeout i k written abandoned) s = .next t ∧ Frame [.ex] s t) ∧
  (∀ (i ns : Nat) (s : State), i < 7 →
    ∃ t, exec (.lockBroken i ns) s = .next t ∧
      if s.mat.lock.any (·.1 == i) = true ∧ s.objN Obj.MATRIX_LOCK_LIMIT 0 < ns then
        t.objN Obj.LOCKS_BROKEN i = min u32Max (s.objN Obj.LOCKS_BROKEN i + 1) ∧ t.mat.lock = none ∧
          ((∀ r ∈ (s.matPort i).out ++ (s.matPort i).held, r.target = 2 → r.mark ≠ 2) →
            ∀ r ∈ (t.matPort i).out ++ (t.matPort i).held, r.target = 2 → r.mark = 3) ∧
          (∀ r ∈ (s.matPort i).out ++ (s.matPort i).held, r.target ≠ 2 → r.mark ≠ 3 →
            r ∈ (t.matPort i).out ++ (t.matPort i).held)
      else Frame [.ex] s t) ∧
  (∀ (x : Nat) (s : State), x < 11 →
    ∃ t, exec (.matrixFault x) s = .next t ∧
      if x ∈ s.mat.fixed then Frame [.ex] s t
      else t.mat.fixed = s.mat.fixed ++ [x] ∧ t.obj Obj.TARGET_ARB_STATE x = 1 ∧ .matrix x ∈ t.dev.faults ∧ t.faultN = true) ∧
  (∀ (sess : Nat) (s : State), s.accepts sess Obj.ARB_RESET 0 1 = true →
    ∃ t, exec (.arbReset sess) s = .next t ∧
      if s.mat.fixed = [] then t.answered sess 0 Obj.ARB_RESET 0 (.nak .state 0 0) ∧ Frame [.ex] s t
      else
        t.answered sess 0 Obj.ARB_RESET 0 (.ack []) ∧ t.mat.fixed = [] ∧ t.mat.parked = s.mat.parked ∧ t.mat.ports = s.mat.ports ∧
          (∀ x ∈ s.mat.fixed, mfind t.mat.arbs x = none) ∧
          (∀ x ∈ s.mat.fixed, t.obj Obj.TARGET_ARB_STATE x = 0 ∧ .matrix x ∉ t.dev.faults) ∧
          ∀ c ∈ s.dev.faults, (∀ x ∈ s.mat.fixed, c ≠ .matrix x) → c ∈ t.dev.faults) ∧
  (∀ (a initiator word : Nat) (s : State), a < 0x2000000000 → word = a / 32 * 32 →
    ∃ t, exec (.hbmUe a initiator) s = .next t ∧
      (s.dev.state = .off → Frame [.ex] s t) ∧
      (s.dev.state ≠ .off → hbmRegion a = 1 ∨ hbmRegion a = 3 →
        t.objN Obj.HBM_UE_COUNT (stackOf a) = min u32Max (s.objN Obj.HBM_UE_COUNT (stackOf a) + 1) ∧
          t.objN Obj.HBM_LAST_UE_ADDR 0 = word ∧ (word, 32) ∈ t.mat.badWords ∧ sameMemory s t) ∧
      (s.dev.state ≠ .off → hbmRegion a = 0 → s.inUse (a / slotBytes) = true →
        s.slotState (a / slotBytes) = .valid ∨ s.slotState (a / slotBytes) = .stale →
        (word, 32) ∈ t.mat.badWords ∧ a / slotBytes ∈ t.mat.slotErr ∧ t.lib.slots = s.lib.slots) ∧
      (s.dev.state ≠ .off → hbmRegion a = 0 → s.inUse (a / slotBytes) = false → s.lib.writing = none →
        initiator = 2 ∨ initiator = 3 → (word, 32) ∈ t.mat.badWords ∧ t.lib.slots = s.lib.slots)) ∧
  (∀ (a initiator : Nat) (s : State), a < 0x4000000 →
    ∃ t, exec (.sramUe a initiator) s = .next t ∧
      if s.dev.state = .off then Frame [.ex] s t
      else
        t.objN Obj.SRAM_UE_COUNT 0 = min u32Max (s.objN Obj.SRAM_UE_COUNT 0 + 1) ∧ t.objN Obj.SRAM_LAST_UE_ADDR 0 = a ∧
          (∀ e ∈ s.ex.log, a < 4096 * 52 → 52 * ((e.seq + 4095) % 4096) < a / 8 * 8 + 8 →
            a / 8 * 8 < 52 * ((e.seq + 4095) % 4096) + 52 → e.seq ∈ t.mat.eventBad) ∧
          (0x40000 ≤ a → a < 0x80000 → t.mat.mailBad = true) ∧ (0x100000 ≤ a → a < 0x400000 → t.mat.transferBad = true)) ∧
  (∀ (corrected : List Nat) (uncorrectable : Nat) (s : State),
    ∃ t, exec (.scrubDone corrected uncorrectable) s = .next t ∧
      if s.dev.state = .off ∨ s.elapsed s.mat.scrubAt (1000000000 * s.mat.scrubPeriod) = false then Frame [.ex] s t
      else
        Frame [.objs, .ex, .sorus, .mat] s t ∧ t.mat.scrubAt = s.tick ∧ t.mat.scrubPeriod = s.objN Obj.SCRUB_PERIOD 0 ∧
          ∀ k < 2, ∀ n, n = (corrected.filter fun a => stackOf a == k).length →
            (n = 0 → t.objN Obj.HBM_CE_COUNT k = s.objN Obj.HBM_CE_COUNT k) ∧
            (0 < n → t.objN Obj.HBM_CE_COUNT k = (s.objN Obj.HBM_CE_COUNT k + n) % 2 ^ 64))
end

