-- ==== Sys2Proof/Laws/Maps.lean ====
section
/-!
SUPPORT. Sparse maps: what is read after a value was put, removed or changed, and that a rising map stays rising.
-/

namespace Sys2Proof.Laws

open Sys2Proof Sys2Proof.Machine

variable {α : Type}

@[simp] theorem mfind_mset_self (m : SMap α) (k : Nat) (v : α) : mfind (mset m k v) k = some v := by
  induction m with
  | nil => simp [mset, mfind]
  | cons p t ih =>
    obtain ⟨a, x⟩ := p
    simp only [mset]
    split
    · simp [mfind]
    · split
      · simp [mfind]
      · simp [mfind, *]

theorem mfind_mset_other (m : SMap α) {k j : Nat} (v : α) (h : j ≠ k) : mfind (mset m k v) j = mfind m j := by
  induction m with
  | nil => simp [mset, mfind, Ne.symm h]
  | cons p t ih =>
    obtain ⟨a, x⟩ := p
    simp only [mset]
    split
    · next e => subst e; simp [mfind, Ne.symm h]
    · split
      · simp [mfind, Ne.symm h]
      · simp [mfind, ih]

theorem mfind_mset (m : SMap α) (k j : Nat) (v : α) : mfind (mset m k v) j = if j = k then some v else mfind m j := by
  split
  · next h => subst h; simp
  · next h => exact mfind_mset_other m v h

@[simp] theorem mget_mset_self (d : α) (m : SMap α) (k : Nat) (v : α) : mget d (mset m k v) k = v := by simp [mget]

theorem mget_mset_other (d : α) (m : SMap α) {k j : Nat} (v : α) (h : j ≠ k) : mget d (mset m k v) j = mget d m j := by
  simp [mget, mfind_mset_other m v h]

@[simp] theorem mfind2_mset2_self (m : SMap (SMap α)) (i j : Nat) (v : α) : mfind2 (mset2 m i j v) i j = some v := by
  simp [mfind2, mset2]

theorem mfind2_mset2_other (m : SMap (SMap α)) {i j i' j' : Nat} (v : α) (h : ¬ (i' = i ∧ j' = j)) :
    mfind2 (mset2 m i j v) i' j' = mfind2 m i' j' := by
  by_cases hi : i' = i
  · subst hi
    have hj : j' ≠ j := fun e => h ⟨rfl, e⟩
    simp only [mfind2, mset2, mfind_mset_self, Option.bind_some, mfind_mset_other _ v hj, mget]
    cases mfind m i' <;> simp [mfind]
  · simp [mfind2, mset2, mfind_mset_other _ _ hi]

@[simp] theorem mfind_mdel_self (m : SMap α) (k : Nat) : mfind (mdel m k) k = none := by
  induction m with
  | nil => rfl
  | cons p t ih =>
    obtain ⟨a, x⟩ := p
    simp only [mdel]
    split
    · exact ih
    · simp [mfind, *]

theorem mfind_mdel_other (m : SMap α) {k j : Nat} (h : j ≠ k) : mfind (mdel m k) j = mfind m j := by
  induction m with
  | nil => rfl
  | cons p t ih =>
    obtain ⟨a, x⟩ := p
    simp only [mdel]
    split
    · next e => subst e; simp [mfind, Ne.symm h, ih]
    · simp [mfind, ih]

@[simp] theorem mfind_mmap (f : Nat → α → α) (m : SMap α) (k : Nat) : mfind (mmap f m) k = (mfind m k).map (f k) := by
  induction m with
  | nil => rfl
  | cons p t ih =>
    obtain ⟨a, x⟩ := p
    simp only [mmap, mfind]
    split
    · next e => subst e; rfl
    · exact ih

/-- The keys of a rising map, as one statement about its tail. -/
theorem msorted_cons (a : Nat) (x : α) (t : SMap α) :
    msorted ((a, x) :: t) = true ↔ (∀ p ∈ t.head?, a < p.1) ∧ msorted t = true := by
  cases t with
  | nil => simp [msorted]
  | cons p t => obtain ⟨b, y⟩ := p; simp [msorted]

theorem mset_head (m : SMap α) (k : Nat) (v : α) (a : Nat) (ha : a < k) (h : ∀ p ∈ m.head?, a < p.1) :
    ∀ p ∈ (mset m k v).head?, a < p.1 := by
  cases m with
  | nil => simpa [mset] using ha
  | cons q t =>
    obtain ⟨b, x⟩ := q
    simp only [mset]
    split
    · simpa using ha
    · split
      · simpa using ha
      · simpa using h

theorem msorted_mset (m : SMap α) (k : Nat) (v : α) (h : msorted m = true) : msorted (mset m k v) = true := by
  induction m with
  | nil => rfl
  | cons p t ih =>
    obtain ⟨a, x⟩ := p
    rw [msorted_cons] at h
    simp only [mset]
    split
    · next e => subst e; rw [msorted_cons]; exact h
    · split
      · next hlt => rw [msorted_cons, msorted_cons]; exact ⟨by simpa using hlt, h⟩
      · rw [msorted_cons]; exact ⟨mset_head t k v a (by omega) h.1, ih h.2⟩

end Sys2Proof.Laws
end

