-- ==== Sys2Proof/Laws/State.lean ====
section
/-!
SUPPORT. What the updates of State leave alone: one lemma per field per update, so that no proof unfolds a record update.
-/

namespace Sys2Proof.Laws

open Sys2Proof Sys2Proof.Machine


/-! ### Objects -/

@[simp] theorem setObj_pending (s : State) (a k : Nat) (v : Int) : (s.setObj a k v).pending = s.pending := rfl
@[simp] theorem setObj_tick (s : State) (a k : Nat) (v : Int) : (s.setObj a k v).tick = s.tick := rfl
@[simp] theorem setObj_octs (s : State) (a k : Nat) (v : Int) : (s.setObj a k v).octs = s.octs := rfl
@[simp] theorem setObj_staged (s : State) (a k : Nat) (v : Int) : (s.setObj a k v).staged = s.staged := rfl
@[simp] theorem setObj_stagedOcts (s : State) (a k : Nat) (v : Int) : (s.setObj a k v).stagedOcts = s.stagedOcts := rfl
@[simp] theorem setObj_hbm (s : State) (a k : Nat) (v : Int) : (s.setObj a k v).hbm = s.hbm := rfl
@[simp] theorem setObj_dev (s : State) (a k : Nat) (v : Int) : (s.setObj a k v).dev = s.dev := rfl
@[simp] theorem setObj_ex (s : State) (a k : Nat) (v : Int) : (s.setObj a k v).ex = s.ex := rfl
@[simp] theorem setObj_funcs (s : State) (a k : Nat) (v : Int) : (s.setObj a k v).funcs = s.funcs := rfl
@[simp] theorem setObj_lobes (s : State) (a k : Nat) (v : Int) : (s.setObj a k v).lobes = s.lobes := rfl
@[simp] theorem setObj_time (s : State) (a k : Nat) (v : Int) : (s.setObj a k v).time = s.time := rfl
@[simp] theorem setObj_sorus (s : State) (a k : Nat) (v : Int) : (s.setObj a k v).sorus = s.sorus := rfl
@[simp] theorem setObj_drv (s : State) (a k : Nat) (v : Int) : (s.setObj a k v).drv = s.drv := rfl
@[simp] theorem setObj_steady (s : State) (a k : Nat) (v : Int) : (s.setObj a k v).steady = s.steady := rfl
@[simp] theorem setObj_therm (s : State) (a k : Nat) (v : Int) : (s.setObj a k v).therm = s.therm := rfl
@[simp] theorem setObj_loops (s : State) (a k : Nat) (v : Int) : (s.setObj a k v).loops = s.loops := rfl
@[simp] theorem setObj_mon (s : State) (a k : Nat) (v : Int) : (s.setObj a k v).mon = s.mon := rfl
@[simp] theorem setObj_cal (s : State) (a k : Nat) (v : Int) : (s.setObj a k v).cal = s.cal := rfl
@[simp] theorem setObj_fab (s : State) (a k : Nat) (v : Int) : (s.setObj a k v).fab = s.fab := rfl
@[simp] theorem setObj_lib (s : State) (a k : Nat) (v : Int) : (s.setObj a k v).lib = s.lib := rfl
@[simp] theorem setObj_com (s : State) (a k : Nat) (v : Int) : (s.setObj a k v).com = s.com := rfl
@[simp] theorem setObj_net (s : State) (a k : Nat) (v : Int) : (s.setObj a k v).net = s.net := rfl
@[simp] theorem setObj_mat (s : State) (a k : Nat) (v : Int) : (s.setObj a k v).mat = s.mat := rfl
@[simp] theorem setObj_active (s : State) (a k : Nat) (v : Int) : (s.setObj a k v).active = s.active := rfl
@[simp] theorem setObj_recovery (s : State) (a k : Nat) (v : Int) : (s.setObj a k v).recovery = s.recovery := rfl
@[simp] theorem setObj_scan (s : State) (a k : Nat) (v : Int) : (s.setObj a k v).scan = s.scan := rfl
@[simp] theorem setObj_ticking (s : State) (a k : Nat) (v : Int) : (s.setObj a k v).ticking = s.ticking := rfl
@[simp] theorem setObj_now (s : State) (a k : Nat) (v : Int) : (s.setObj a k v).now = s.now := rfl
@[simp] theorem setObjN_pending (s : State) (a k : Nat) (v : Nat) : (s.setObjN a k v).pending = s.pending := rfl
@[simp] theorem setObjN_tick (s : State) (a k : Nat) (v : Nat) : (s.setObjN a k v).tick = s.tick := rfl
@[simp] theorem setObjN_octs (s : State) (a k : Nat) (v : Nat) : (s.setObjN a k v).octs = s.octs := rfl
@[simp] theorem setObjN_staged (s : State) (a k : Nat) (v : Nat) : (s.setObjN a k v).staged = s.staged := rfl
@[simp] theorem setObjN_stagedOcts (s : State) (a k : Nat) (v : Nat) : (s.setObjN a k v).stagedOcts = s.stagedOcts := rfl
@[simp] theorem setObjN_hbm (s : State) (a k : Nat) (v : Nat) : (s.setObjN a k v).hbm = s.hbm := rfl
@[simp] theorem setObjN_dev (s : State) (a k : Nat) (v : Nat) : (s.setObjN a k v).dev = s.dev := rfl
@[simp] theorem setObjN_ex (s : State) (a k : Nat) (v : Nat) : (s.setObjN a k v).ex = s.ex := rfl
@[simp] theorem setObjN_funcs (s : State) (a k : Nat) (v : Nat) : (s.setObjN a k v).funcs = s.funcs := rfl
@[simp] theorem setObjN_lobes (s : State) (a k : Nat) (v : Nat) : (s.setObjN a k v).lobes = s.lobes := rfl
@[simp] theorem setObjN_time (s : State) (a k : Nat) (v : Nat) : (s.setObjN a k v).time = s.time := rfl
@[simp] theorem setObjN_sorus (s : State) (a k : Nat) (v : Nat) : (s.setObjN a k v).sorus = s.sorus := rfl
@[simp] theorem setObjN_drv (s : State) (a k : Nat) (v : Nat) : (s.setObjN a k v).drv = s.drv := rfl
@[simp] theorem setObjN_steady (s : State) (a k : Nat) (v : Nat) : (s.setObjN a k v).steady = s.steady := rfl
@[simp] theorem setObjN_therm (s : State) (a k : Nat) (v : Nat) : (s.setObjN a k v).therm = s.therm := rfl
@[simp] theorem setObjN_loops (s : State) (a k : Nat) (v : Nat) : (s.setObjN a k v).loops = s.loops := rfl
@[simp] theorem setObjN_mon (s : State) (a k : Nat) (v : Nat) : (s.setObjN a k v).mon = s.mon := rfl
@[simp] theorem setObjN_cal (s : State) (a k : Nat) (v : Nat) : (s.setObjN a k v).cal = s.cal := rfl
@[simp] theorem setObjN_fab (s : State) (a k : Nat) (v : Nat) : (s.setObjN a k v).fab = s.fab := rfl
@[simp] theorem setObjN_lib (s : State) (a k : Nat) (v : Nat) : (s.setObjN a k v).lib = s.lib := rfl
@[simp] theorem setObjN_com (s : State) (a k : Nat) (v : Nat) : (s.setObjN a k v).com = s.com := rfl
@[simp] theorem setObjN_net (s : State) (a k : Nat) (v : Nat) : (s.setObjN a k v).net = s.net := rfl
@[simp] theorem setObjN_mat (s : State) (a k : Nat) (v : Nat) : (s.setObjN a k v).mat = s.mat := rfl
@[simp] theorem setObjN_active (s : State) (a k : Nat) (v : Nat) : (s.setObjN a k v).active = s.active := rfl
@[simp] theorem setObjN_recovery (s : State) (a k : Nat) (v : Nat) : (s.setObjN a k v).recovery = s.recovery := rfl
@[simp] theorem setObjN_scan (s : State) (a k : Nat) (v : Nat) : (s.setObjN a k v).scan = s.scan := rfl
@[simp] theorem setObjN_ticking (s : State) (a k : Nat) (v : Nat) : (s.setObjN a k v).ticking = s.ticking := rfl
@[simp] theorem setObjN_now (s : State) (a k : Nat) (v : Nat) : (s.setObjN a k v).now = s.now := rfl
@[simp] theorem setOct_pending (s : State) (a k : Nat) (b : List Byte) : (s.setOct a k b).pending = s.pending := rfl
@[simp] theorem setOct_tick (s : State) (a k : Nat) (b : List Byte) : (s.setOct a k b).tick = s.tick := rfl
@[simp] theorem setOct_objs (s : State) (a k : Nat) (b : List Byte) : (s.setOct a k b).objs = s.objs := rfl
@[simp] theorem setOct_staged (s : State) (a k : Nat) (b : List Byte) : (s.setOct a k b).staged = s.staged := rfl
@[simp] theorem setOct_stagedOcts (s : State) (a k : Nat) (b : List Byte) : (s.setOct a k b).stagedOcts = s.stagedOcts := rfl
@[simp] theorem setOct_hbm (s : State) (a k : Nat) (b : List Byte) : (s.setOct a k b).hbm = s.hbm := rfl
@[simp] theorem setOct_dev (s : State) (a k : Nat) (b : List Byte) : (s.setOct a k b).dev = s.dev := rfl
@[simp] theorem setOct_ex (s : State) (a k : Nat) (b : List Byte) : (s.setOct a k b).ex = s.ex := rfl
@[simp] theorem setOct_funcs (s : State) (a k : Nat) (b : List Byte) : (s.setOct a k b).funcs = s.funcs := rfl
@[simp] theorem setOct_lobes (s : State) (a k : Nat) (b : List Byte) : (s.setOct a k b).lobes = s.lobes := rfl
@[simp] theorem setOct_time (s : State) (a k : Nat) (b : List Byte) : (s.setOct a k b).time = s.time := rfl
@[simp] theorem setOct_sorus (s : State) (a k : Nat) (b : List Byte) : (s.setOct a k b).sorus = s.sorus := rfl
@[simp] theorem setOct_drv (s : State) (a k : Nat) (b : List Byte) : (s.setOct a k b).drv = s.drv := rfl
@[simp] theorem setOct_steady (s : State) (a k : Nat) (b : List Byte) : (s.setOct a k b).steady = s.steady := rfl
@[simp] theorem setOct_therm (s : State) (a k : Nat) (b : List Byte) : (s.setOct a k b).therm = s.therm := rfl
@[simp] theorem setOct_loops (s : State) (a k : Nat) (b : List Byte) : (s.setOct a k b).loops = s.loops := rfl
@[simp] theorem setOct_mon (s : State) (a k : Nat) (b : List Byte) : (s.setOct a k b).mon = s.mon := rfl
@[simp] theorem setOct_cal (s : State) (a k : Nat) (b : List Byte) : (s.setOct a k b).cal = s.cal := rfl
@[simp] theorem setOct_fab (s : State) (a k : Nat) (b : List Byte) : (s.setOct a k b).fab = s.fab := rfl
@[simp] theorem setOct_lib (s : State) (a k : Nat) (b : List Byte) : (s.setOct a k b).lib = s.lib := rfl
@[simp] theorem setOct_com (s : State) (a k : Nat) (b : List Byte) : (s.setOct a k b).com = s.com := rfl
@[simp] theorem setOct_net (s : State) (a k : Nat) (b : List Byte) : (s.setOct a k b).net = s.net := rfl
@[simp] theorem setOct_mat (s : State) (a k : Nat) (b : List Byte) : (s.setOct a k b).mat = s.mat := rfl
@[simp] theorem setOct_active (s : State) (a k : Nat) (b : List Byte) : (s.setOct a k b).active = s.active := rfl
@[simp] theorem setOct_recovery (s : State) (a k : Nat) (b : List Byte) : (s.setOct a k b).recovery = s.recovery := rfl
@[simp] theorem setOct_scan (s : State) (a k : Nat) (b : List Byte) : (s.setOct a k b).scan = s.scan := rfl
@[simp] theorem setOct_ticking (s : State) (a k : Nat) (b : List Byte) : (s.setOct a k b).ticking = s.ticking := rfl
@[simp] theorem setOct_now (s : State) (a k : Nat) (b : List Byte) : (s.setOct a k b).now = s.now := rfl
@[simp] theorem incSat_pending (s : State) (a k : Nat) (n : Nat) : (s.incSat a k n).pending = s.pending := rfl
@[simp] theorem incSat_tick (s : State) (a k : Nat) (n : Nat) : (s.incSat a k n).tick = s.tick := rfl
@[simp] theorem incSat_octs (s : State) (a k : Nat) (n : Nat) : (s.incSat a k n).octs = s.octs := rfl
@[simp] theorem incSat_staged (s : State) (a k : Nat) (n : Nat) : (s.incSat a k n).staged = s.staged := rfl
@[simp] theorem incSat_stagedOcts (s : State) (a k : Nat) (n : Nat) : (s.incSat a k n).stagedOcts = s.stagedOcts := rfl
@[simp] theorem incSat_hbm (s : State) (a k : Nat) (n : Nat) : (s.incSat a k n).hbm = s.hbm := rfl
@[simp] theorem incSat_dev (s : State) (a k : Nat) (n : Nat) : (s.incSat a k n).dev = s.dev := rfl
@[simp] theorem incSat_ex (s : State) (a k : Nat) (n : Nat) : (s.incSat a k n).ex = s.ex := rfl
@[simp] theorem incSat_funcs (s : State) (a k : Nat) (n : Nat) : (s.incSat a k n).funcs = s.funcs := rfl
@[simp] theorem incSat_lobes (s : State) (a k : Nat) (n : Nat) : (s.incSat a k n).lobes = s.lobes := rfl
@[simp] theorem incSat_time (s : State) (a k : Nat) (n : Nat) : (s.incSat a k n).time = s.time := rfl
@[simp] theorem incSat_sorus (s : State) (a k : Nat) (n : Nat) : (s.incSat a k n).sorus = s.sorus := rfl
@[simp] theorem incSat_drv (s : State) (a k : Nat) (n : Nat) : (s.incSat a k n).drv = s.drv := rfl
@[simp] theorem incSat_steady (s : State) (a k : Nat) (n : Nat) : (s.incSat a k n).steady = s.steady := rfl
@[simp] theorem incSat_therm (s : State) (a k : Nat) (n : Nat) : (s.incSat a k n).therm = s.therm := rfl
@[simp] theorem incSat_loops (s : State) (a k : Nat) (n : Nat) : (s.incSat a k n).loops = s.loops := rfl
@[simp] theorem incSat_mon (s : State) (a k : Nat) (n : Nat) : (s.incSat a k n).mon = s.mon := rfl
@[simp] theorem incSat_cal (s : State) (a k : Nat) (n : Nat) : (s.incSat a k n).cal = s.cal := rfl
@[simp] theorem incSat_fab (s : State) (a k : Nat) (n : Nat) : (s.incSat a k n).fab = s.fab := rfl
@[simp] theorem incSat_lib (s : State) (a k : Nat) (n : Nat) : (s.incSat a k n).lib = s.lib := rfl
@[simp] theorem incSat_com (s : State) (a k : Nat) (n : Nat) : (s.incSat a k n).com = s.com := rfl
@[simp] theorem incSat_net (s : State) (a k : Nat) (n : Nat) : (s.incSat a k n).net = s.net := rfl
@[simp] theorem incSat_mat (s : State) (a k : Nat) (n : Nat) : (s.incSat a k n).mat = s.mat := rfl
@[simp] theorem incSat_active (s : State) (a k : Nat) (n : Nat) : (s.incSat a k n).active = s.active := rfl
@[simp] theorem incSat_recovery (s : State) (a k : Nat) (n : Nat) : (s.incSat a k n).recovery = s.recovery := rfl
@[simp] theorem incSat_scan (s : State) (a k : Nat) (n : Nat) : (s.incSat a k n).scan = s.scan := rfl
@[simp] theorem incSat_ticking (s : State) (a k : Nat) (n : Nat) : (s.incSat a k n).ticking = s.ticking := rfl
@[simp] theorem incSat_now (s : State) (a k : Nat) (n : Nat) : (s.incSat a k n).now = s.now := rfl
@[simp] theorem inc64_pending (s : State) (a k : Nat) (n : Nat) : (s.inc64 a k n).pending = s.pending := rfl
@[simp] theorem inc64_tick (s : State) (a k : Nat) (n : Nat) : (s.inc64 a k n).tick = s.tick := rfl
@[simp] theorem inc64_octs (s : State) (a k : Nat) (n : Nat) : (s.inc64 a k n).octs = s.octs := rfl
@[simp] theorem inc64_staged (s : State) (a k : Nat) (n : Nat) : (s.inc64 a k n).staged = s.staged := rfl
@[simp] theorem inc64_stagedOcts (s : State) (a k : Nat) (n : Nat) : (s.inc64 a k n).stagedOcts = s.stagedOcts := rfl
@[simp] theorem inc64_hbm (s : State) (a k : Nat) (n : Nat) : (s.inc64 a k n).hbm = s.hbm := rfl
@[simp] theorem inc64_dev (s : State) (a k : Nat) (n : Nat) : (s.inc64 a k n).dev = s.dev := rfl
@[simp] theorem inc64_ex (s : State) (a k : Nat) (n : Nat) : (s.inc64 a k n).ex = s.ex := rfl
@[simp] theorem inc64_funcs (s : State) (a k : Nat) (n : Nat) : (s.inc64 a k n).funcs = s.funcs := rfl
@[simp] theorem inc64_lobes (s : State) (a k : Nat) (n : Nat) : (s.inc64 a k n).lobes = s.lobes := rfl
@[simp] theorem inc64_time (s : State) (a k : Nat) (n : Nat) : (s.inc64 a k n).time = s.time := rfl
@[simp] theorem inc64_sorus (s : State) (a k : Nat) (n : Nat) : (s.inc64 a k n).sorus = s.sorus := rfl
@[simp] theorem inc64_drv (s : State) (a k : Nat) (n : Nat) : (s.inc64 a k n).drv = s.drv := rfl
@[simp] theorem inc64_steady (s : State) (a k : Nat) (n : Nat) : (s.inc64 a k n).steady = s.steady := rfl
@[simp] theorem inc64_therm (s : State) (a k : Nat) (n : Nat) : (s.inc64 a k n).therm = s.therm := rfl
@[simp] theorem inc64_loops (s : State) (a k : Nat) (n : Nat) : (s.inc64 a k n).loops = s.loops := rfl
@[simp] theorem inc64_mon (s : State) (a k : Nat) (n : Nat) : (s.inc64 a k n).mon = s.mon := rfl
@[simp] theorem inc64_cal (s : State) (a k : Nat) (n : Nat) : (s.inc64 a k n).cal = s.cal := rfl
@[simp] theorem inc64_fab (s : State) (a k : Nat) (n : Nat) : (s.inc64 a k n).fab = s.fab := rfl
@[simp] theorem inc64_lib (s : State) (a k : Nat) (n : Nat) : (s.inc64 a k n).lib = s.lib := rfl
@[simp] theorem inc64_com (s : State) (a k : Nat) (n : Nat) : (s.inc64 a k n).com = s.com := rfl
@[simp] theorem inc64_net (s : State) (a k : Nat) (n : Nat) : (s.inc64 a k n).net = s.net := rfl
@[simp] theorem inc64_mat (s : State) (a k : Nat) (n : Nat) : (s.inc64 a k n).mat = s.mat := rfl
@[simp] theorem inc64_active (s : State) (a k : Nat) (n : Nat) : (s.inc64 a k n).active = s.active := rfl
@[simp] theorem inc64_recovery (s : State) (a k : Nat) (n : Nat) : (s.inc64 a k n).recovery = s.recovery := rfl
@[simp] theorem inc64_scan (s : State) (a k : Nat) (n : Nat) : (s.inc64 a k n).scan = s.scan := rfl
@[simp] theorem inc64_ticking (s : State) (a k : Nat) (n : Nat) : (s.inc64 a k n).ticking = s.ticking := rfl
@[simp] theorem inc64_now (s : State) (a k : Nat) (n : Nat) : (s.inc64 a k n).now = s.now := rfl
@[simp] theorem incWrap_pending (s : State) (a k : Nat) : (s.incWrap a k).pending = s.pending := rfl
@[simp] theorem incWrap_tick (s : State) (a k : Nat) : (s.incWrap a k).tick = s.tick := rfl
@[simp] theorem incWrap_octs (s : State) (a k : Nat) : (s.incWrap a k).octs = s.octs := rfl
@[simp] theorem incWrap_staged (s : State) (a k : Nat) : (s.incWrap a k).staged = s.staged := rfl
@[simp] theorem incWrap_stagedOcts (s : State) (a k : Nat) : (s.incWrap a k).stagedOcts = s.stagedOcts := rfl
@[simp] theorem incWrap_hbm (s : State) (a k : Nat) : (s.incWrap a k).hbm = s.hbm := rfl
@[simp] theorem incWrap_dev (s : State) (a k : Nat) : (s.incWrap a k).dev = s.dev := rfl
@[simp] theorem incWrap_ex (s : State) (a k : Nat) : (s.incWrap a k).ex = s.ex := rfl
@[simp] theorem incWrap_funcs (s : State) (a k : Nat) : (s.incWrap a k).funcs = s.funcs := rfl
@[simp] theorem incWrap_lobes (s : State) (a k : Nat) : (s.incWrap a k).lobes = s.lobes := rfl
@[simp] theorem incWrap_time (s : State) (a k : Nat) : (s.incWrap a k).time = s.time := rfl
@[simp] theorem incWrap_sorus (s : State) (a k : Nat) : (s.incWrap a k).sorus = s.sorus := rfl
@[simp] theorem incWrap_drv (s : State) (a k : Nat) : (s.incWrap a k).drv = s.drv := rfl
@[simp] theorem incWrap_steady (s : State) (a k : Nat) : (s.incWrap a k).steady = s.steady := rfl
@[simp] theorem incWrap_therm (s : State) (a k : Nat) : (s.incWrap a k).therm = s.therm := rfl
@[simp] theorem incWrap_loops (s : State) (a k : Nat) : (s.incWrap a k).loops = s.loops := rfl
@[simp] theorem incWrap_mon (s : State) (a k : Nat) : (s.incWrap a k).mon = s.mon := rfl
@[simp] theorem incWrap_cal (s : State) (a k : Nat) : (s.incWrap a k).cal = s.cal := rfl
@[simp] theorem incWrap_fab (s : State) (a k : Nat) : (s.incWrap a k).fab = s.fab := rfl
@[simp] theorem incWrap_lib (s : State) (a k : Nat) : (s.incWrap a k).lib = s.lib := rfl
@[simp] theorem incWrap_com (s : State) (a k : Nat) : (s.incWrap a k).com = s.com := rfl
@[simp] theorem incWrap_net (s : State) (a k : Nat) : (s.incWrap a k).net = s.net := rfl
@[simp] theorem incWrap_mat (s : State) (a k : Nat) : (s.incWrap a k).mat = s.mat := rfl
@[simp] theorem incWrap_active (s : State) (a k : Nat) : (s.incWrap a k).active = s.active := rfl
@[simp] theorem incWrap_recovery (s : State) (a k : Nat) : (s.incWrap a k).recovery = s.recovery := rfl
@[simp] theorem incWrap_scan (s : State) (a k : Nat) : (s.incWrap a k).scan = s.scan := rfl
@[simp] theorem incWrap_ticking (s : State) (a k : Nat) : (s.incWrap a k).ticking = s.ticking := rfl
@[simp] theorem incWrap_now (s : State) (a k : Nat) : (s.incWrap a k).now = s.now := rfl
@[simp] theorem stage_pending (s : State) (a k : Nat) (v : Int) : (s.stage a k v).pending = s.pending := rfl
@[simp] theorem stage_tick (s : State) (a k : Nat) (v : Int) : (s.stage a k v).tick = s.tick := rfl
@[simp] theorem stage_objs (s : State) (a k : Nat) (v : Int) : (s.stage a k v).objs = s.objs := rfl
@[simp] theorem stage_octs (s : State) (a k : Nat) (v : Int) : (s.stage a k v).octs = s.octs := rfl
@[simp] theorem stage_stagedOcts (s : State) (a k : Nat) (v : Int) : (s.stage a k v).stagedOcts = s.stagedOcts := rfl
@[simp] theorem stage_hbm (s : State) (a k : Nat) (v : Int) : (s.stage a k v).hbm = s.hbm := rfl
@[simp] theorem stage_dev (s : State) (a k : Nat) (v : Int) : (s.stage a k v).dev = s.dev := rfl
@[simp] theorem stage_ex (s : State) (a k : Nat) (v : Int) : (s.stage a k v).ex = s.ex := rfl
@[simp] theorem stage_funcs (s : State) (a k : Nat) (v : Int) : (s.stage a k v).funcs = s.funcs := rfl
@[simp] theorem stage_lobes (s : State) (a k : Nat) (v : Int) : (s.stage a k v).lobes = s.lobes := rfl
@[simp] theorem stage_time (s : State) (a k : Nat) (v : Int) : (s.stage a k v).time = s.time := rfl
@[simp] theorem stage_sorus (s : State) (a k : Nat) (v : Int) : (s.stage a k v).sorus = s.sorus := rfl
@[simp] theorem stage_drv (s : State) (a k : Nat) (v : Int) : (s.stage a k v).drv = s.drv := rfl
@[simp] theorem stage_steady (s : State) (a k : Nat) (v : Int) : (s.stage a k v).steady = s.steady := rfl
@[simp] theorem stage_therm (s : State) (a k : Nat) (v : Int) : (s.stage a k v).therm = s.therm := rfl
@[simp] theorem stage_loops (s : State) (a k : Nat) (v : Int) : (s.stage a k v).loops = s.loops := rfl
@[simp] theorem stage_mon (s : State) (a k : Nat) (v : Int) : (s.stage a k v).mon = s.mon := rfl
@[simp] theorem stage_cal (s : State) (a k : Nat) (v : Int) : (s.stage a k v).cal = s.cal := rfl
@[simp] theorem stage_fab (s : State) (a k : Nat) (v : Int) : (s.stage a k v).fab = s.fab := rfl
@[simp] theorem stage_lib (s : State) (a k : Nat) (v : Int) : (s.stage a k v).lib = s.lib := rfl
@[simp] theorem stage_com (s : State) (a k : Nat) (v : Int) : (s.stage a k v).com = s.com := rfl
@[simp] theorem stage_net (s : State) (a k : Nat) (v : Int) : (s.stage a k v).net = s.net := rfl
@[simp] theorem stage_mat (s : State) (a k : Nat) (v : Int) : (s.stage a k v).mat = s.mat := rfl
@[simp] theorem stage_active (s : State) (a k : Nat) (v : Int) : (s.stage a k v).active = s.active := rfl
@[simp] theorem stage_recovery (s : State) (a k : Nat) (v : Int) : (s.stage a k v).recovery = s.recovery := rfl
@[simp] theorem stage_scan (s : State) (a k : Nat) (v : Int) : (s.stage a k v).scan = s.scan := rfl
@[simp] theorem stage_ticking (s : State) (a k : Nat) (v : Int) : (s.stage a k v).ticking = s.ticking := rfl
@[simp] theorem stage_now (s : State) (a k : Nat) (v : Int) : (s.stage a k v).now = s.now := rfl
@[simp] theorem stageOct_pending (s : State) (a k : Nat) (b : List Byte) : (s.stageOct a k b).pending = s.pending := rfl
@[simp] theorem stageOct_tick (s : State) (a k : Nat) (b : List Byte) : (s.stageOct a k b).tick = s.tick := rfl
@[simp] theorem stageOct_objs (s : State) (a k : Nat) (b : List Byte) : (s.stageOct a k b).objs = s.objs := rfl
@[simp] theorem stageOct_octs (s : State) (a k : Nat) (b : List Byte) : (s.stageOct a k b).octs = s.octs := rfl
@[simp] theorem stageOct_staged (s : State) (a k : Nat) (b : List Byte) : (s.stageOct a k b).staged = s.staged := rfl
@[simp] theorem stageOct_hbm (s : State) (a k : Nat) (b : List Byte) : (s.stageOct a k b).hbm = s.hbm := rfl
@[simp] theorem stageOct_dev (s : State) (a k : Nat) (b : List Byte) : (s.stageOct a k b).dev = s.dev := rfl
@[simp] theorem stageOct_ex (s : State) (a k : Nat) (b : List Byte) : (s.stageOct a k b).ex = s.ex := rfl
@[simp] theorem stageOct_funcs (s : State) (a k : Nat) (b : List Byte) : (s.stageOct a k b).funcs = s.funcs := rfl
@[simp] theorem stageOct_lobes (s : State) (a k : Nat) (b : List Byte) : (s.stageOct a k b).lobes = s.lobes := rfl
@[simp] theorem stageOct_time (s : State) (a k : Nat) (b : List Byte) : (s.stageOct a k b).time = s.time := rfl
@[simp] theorem stageOct_sorus (s : State) (a k : Nat) (b : List Byte) : (s.stageOct a k b).sorus = s.sorus := rfl
@[simp] theorem stageOct_drv (s : State) (a k : Nat) (b : List Byte) : (s.stageOct a k b).drv = s.drv := rfl
@[simp] theorem stageOct_steady (s : State) (a k : Nat) (b : List Byte) : (s.stageOct a k b).steady = s.steady := rfl
@[simp] theorem stageOct_therm (s : State) (a k : Nat) (b : List Byte) : (s.stageOct a k b).therm = s.therm := rfl
@[simp] theorem stageOct_loops (s : State) (a k : Nat) (b : List Byte) : (s.stageOct a k b).loops = s.loops := rfl
@[simp] theorem stageOct_mon (s : State) (a k : Nat) (b : List Byte) : (s.stageOct a k b).mon = s.mon := rfl
@[simp] theorem stageOct_cal (s : State) (a k : Nat) (b : List Byte) : (s.stageOct a k b).cal = s.cal := rfl
@[simp] theorem stageOct_fab (s : State) (a k : Nat) (b : List Byte) : (s.stageOct a k b).fab = s.fab := rfl
@[simp] theorem stageOct_lib (s : State) (a k : Nat) (b : List Byte) : (s.stageOct a k b).lib = s.lib := rfl
@[simp] theorem stageOct_com (s : State) (a k : Nat) (b : List Byte) : (s.stageOct a k b).com = s.com := rfl
@[simp] theorem stageOct_net (s : State) (a k : Nat) (b : List Byte) : (s.stageOct a k b).net = s.net := rfl
@[simp] theorem stageOct_mat (s : State) (a k : Nat) (b : List Byte) : (s.stageOct a k b).mat = s.mat := rfl
@[simp] theorem stageOct_active (s : State) (a k : Nat) (b : List Byte) : (s.stageOct a k b).active = s.active := rfl
@[simp] theorem stageOct_recovery (s : State) (a k : Nat) (b : List Byte) : (s.stageOct a k b).recovery = s.recovery := rfl
@[simp] theorem stageOct_scan (s : State) (a k : Nat) (b : List Byte) : (s.stageOct a k b).scan = s.scan := rfl
@[simp] theorem stageOct_ticking (s : State) (a k : Nat) (b : List Byte) : (s.stageOct a k b).ticking = s.ticking := rfl
@[simp] theorem stageOct_now (s : State) (a k : Nat) (b : List Byte) : (s.stageOct a k b).now = s.now := rfl
@[simp] theorem setLaw_pending (s : State) (a k : Nat) (v : Int) : (s.setLaw a k v).pending = s.pending := rfl
@[simp] theorem setLaw_tick (s : State) (a k : Nat) (v : Int) : (s.setLaw a k v).tick = s.tick := rfl
@[simp] theorem setLaw_octs (s : State) (a k : Nat) (v : Int) : (s.setLaw a k v).octs = s.octs := rfl
@[simp] theorem setLaw_staged (s : State) (a k : Nat) (v : Int) : (s.setLaw a k v).staged = s.staged := rfl
@[simp] theorem setLaw_stagedOcts (s : State) (a k : Nat) (v : Int) : (s.setLaw a k v).stagedOcts = s.stagedOcts := rfl
@[simp] theorem setLaw_hbm (s : State) (a k : Nat) (v : Int) : (s.setLaw a k v).hbm = s.hbm := rfl
@[simp] theorem setLaw_dev (s : State) (a k : Nat) (v : Int) : (s.setLaw a k v).dev = s.dev := rfl
@[simp] theorem setLaw_ex (s : State) (a k : Nat) (v : Int) : (s.setLaw a k v).ex = s.ex := rfl
@[simp] theorem setLaw_funcs (s : State) (a k : Nat) (v : Int) : (s.setLaw a k v).funcs = s.funcs := rfl
@[simp] theorem setLaw_lobes (s : State) (a k : Nat) (v : Int) : (s.setLaw a k v).lobes = s.lobes := rfl
@[simp] theorem setLaw_time (s : State) (a k : Nat) (v : Int) : (s.setLaw a k v).time = s.time := rfl
@[simp] theorem setLaw_sorus (s : State) (a k : Nat) (v : Int) : (s.setLaw a k v).sorus = s.sorus := rfl
@[simp] theorem setLaw_drv (s : State) (a k : Nat) (v : Int) : (s.setLaw a k v).drv = s.drv := rfl
@[simp] theorem setLaw_steady (s : State) (a k : Nat) (v : Int) : (s.setLaw a k v).steady = s.steady := rfl
@[simp] theorem setLaw_therm (s : State) (a k : Nat) (v : Int) : (s.setLaw a k v).therm = s.therm := rfl
@[simp] theorem setLaw_mon (s : State) (a k : Nat) (v : Int) : (s.setLaw a k v).mon = s.mon := rfl
@[simp] theorem setLaw_cal (s : State) (a k : Nat) (v : Int) : (s.setLaw a k v).cal = s.cal := rfl
@[simp] theorem setLaw_fab (s : State) (a k : Nat) (v : Int) : (s.setLaw a k v).fab = s.fab := rfl
@[simp] theorem setLaw_lib (s : State) (a k : Nat) (v : Int) : (s.setLaw a k v).lib = s.lib := rfl
@[simp] theorem setLaw_com (s : State) (a k : Nat) (v : Int) : (s.setLaw a k v).com = s.com := rfl
@[simp] theorem setLaw_net (s : State) (a k : Nat) (v : Int) : (s.setLaw a k v).net = s.net := rfl
@[simp] theorem setLaw_mat (s : State) (a k : Nat) (v : Int) : (s.setLaw a k v).mat = s.mat := rfl
@[simp] theorem setLaw_active (s : State) (a k : Nat) (v : Int) : (s.setLaw a k v).active = s.active := rfl
@[simp] theorem setLaw_recovery (s : State) (a k : Nat) (v : Int) : (s.setLaw a k v).recovery = s.recovery := rfl
@[simp] theorem setLaw_scan (s : State) (a k : Nat) (v : Int) : (s.setLaw a k v).scan = s.scan := rfl
@[simp] theorem setLaw_ticking (s : State) (a k : Nat) (v : Int) : (s.setLaw a k v).ticking = s.ticking := rfl
@[simp] theorem setLaw_now (s : State) (a k : Nat) (v : Int) : (s.setLaw a k v).now = s.now := rfl

/-! ### Units -/

@[simp] theorem setLobe_pending (s : State) (n : Nat) (v : Lobe) : (s.setLobe n v).pending = s.pending := rfl
@[simp] theorem setLobe_tick (s : State) (n : Nat) (v : Lobe) : (s.setLobe n v).tick = s.tick := rfl
@[simp] theorem setLobe_objs (s : State) (n : Nat) (v : Lobe) : (s.setLobe n v).objs = s.objs := rfl
@[simp] theorem setLobe_octs (s : State) (n : Nat) (v : Lobe) : (s.setLobe n v).octs = s.octs := rfl
@[simp] theorem setLobe_staged (s : State) (n : Nat) (v : Lobe) : (s.setLobe n v).staged = s.staged := rfl
@[simp] theorem setLobe_stagedOcts (s : State) (n : Nat) (v : Lobe) : (s.setLobe n v).stagedOcts = s.stagedOcts := rfl
@[simp] theorem setLobe_hbm (s : State) (n : Nat) (v : Lobe) : (s.setLobe n v).hbm = s.hbm := rfl
@[simp] theorem setLobe_dev (s : State) (n : Nat) (v : Lobe) : (s.setLobe n v).dev = s.dev := rfl
@[simp] theorem setLobe_ex (s : State) (n : Nat) (v : Lobe) : (s.setLobe n v).ex = s.ex := rfl
@[simp] theorem setLobe_funcs (s : State) (n : Nat) (v : Lobe) : (s.setLobe n v).funcs = s.funcs := rfl
@[simp] theorem setLobe_time (s : State) (n : Nat) (v : Lobe) : (s.setLobe n v).time = s.time := rfl
@[simp] theorem setLobe_sorus (s : State) (n : Nat) (v : Lobe) : (s.setLobe n v).sorus = s.sorus := rfl
@[simp] theorem setLobe_drv (s : State) (n : Nat) (v : Lobe) : (s.setLobe n v).drv = s.drv := rfl
@[simp] theorem setLobe_steady (s : State) (n : Nat) (v : Lobe) : (s.setLobe n v).steady = s.steady := rfl
@[simp] theorem setLobe_therm (s : State) (n : Nat) (v : Lobe) : (s.setLobe n v).therm = s.therm := rfl
@[simp] theorem setLobe_loops (s : State) (n : Nat) (v : Lobe) : (s.setLobe n v).loops = s.loops := rfl
@[simp] theorem setLobe_mon (s : State) (n : Nat) (v : Lobe) : (s.setLobe n v).mon = s.mon := rfl
@[simp] theorem setLobe_cal (s : State) (n : Nat) (v : Lobe) : (s.setLobe n v).cal = s.cal := rfl
@[simp] theorem setLobe_fab (s : State) (n : Nat) (v : Lobe) : (s.setLobe n v).fab = s.fab := rfl
@[simp] theorem setLobe_lib (s : State) (n : Nat) (v : Lobe) : (s.setLobe n v).lib = s.lib := rfl
@[simp] theorem setLobe_com (s : State) (n : Nat) (v : Lobe) : (s.setLobe n v).com = s.com := rfl
@[simp] theorem setLobe_net (s : State) (n : Nat) (v : Lobe) : (s.setLobe n v).net = s.net := rfl
@[simp] theorem setLobe_mat (s : State) (n : Nat) (v : Lobe) : (s.setLobe n v).mat = s.mat := rfl
@[simp] theorem setLobe_recovery (s : State) (n : Nat) (v : Lobe) : (s.setLobe n v).recovery = s.recovery := rfl
@[simp] theorem setLobe_scan (s : State) (n : Nat) (v : Lobe) : (s.setLobe n v).scan = s.scan := rfl
@[simp] theorem setLobe_ticking (s : State) (n : Nat) (v : Lobe) : (s.setLobe n v).ticking = s.ticking := rfl
@[simp] theorem setRing_pending (s : State) (n : Nat) (v : Ring) : (s.setRing n v).pending = s.pending := rfl
@[simp] theorem setRing_tick (s : State) (n : Nat) (v : Ring) : (s.setRing n v).tick = s.tick := rfl
@[simp] theorem setRing_objs (s : State) (n : Nat) (v : Ring) : (s.setRing n v).objs = s.objs := rfl
@[simp] theorem setRing_octs (s : State) (n : Nat) (v : Ring) : (s.setRing n v).octs = s.octs := rfl
@[simp] theorem setRing_staged (s : State) (n : Nat) (v : Ring) : (s.setRing n v).staged = s.staged := rfl
@[simp] theorem setRing_stagedOcts (s : State) (n : Nat) (v : Ring) : (s.setRing n v).stagedOcts = s.stagedOcts := rfl
@[simp] theorem setRing_hbm (s : State) (n : Nat) (v : Ring) : (s.setRing n v).hbm = s.hbm := rfl
@[simp] theorem setRing_dev (s : State) (n : Nat) (v : Ring) : (s.setRing n v).dev = s.dev := rfl
@[simp] theorem setRing_ex (s : State) (n : Nat) (v : Ring) : (s.setRing n v).ex = s.ex := rfl
@[simp] theorem setRing_funcs (s : State) (n : Nat) (v : Ring) : (s.setRing n v).funcs = s.funcs := rfl
@[simp] theorem setRing_lobes (s : State) (n : Nat) (v : Ring) : (s.setRing n v).lobes = s.lobes := rfl
@[simp] theorem setRing_time (s : State) (n : Nat) (v : Ring) : (s.setRing n v).time = s.time := rfl
@[simp] theorem setRing_drv (s : State) (n : Nat) (v : Ring) : (s.setRing n v).drv = s.drv := rfl
@[simp] theorem setRing_steady (s : State) (n : Nat) (v : Ring) : (s.setRing n v).steady = s.steady := rfl
@[simp] theorem setRing_therm (s : State) (n : Nat) (v : Ring) : (s.setRing n v).therm = s.therm := rfl
@[simp] theorem setRing_loops (s : State) (n : Nat) (v : Ring) : (s.setRing n v).loops = s.loops := rfl
@[simp] theorem setRing_mon (s : State) (n : Nat) (v : Ring) : (s.setRing n v).mon = s.mon := rfl
@[simp] theorem setRing_cal (s : State) (n : Nat) (v : Ring) : (s.setRing n v).cal = s.cal := rfl
@[simp] theorem setRing_fab (s : State) (n : Nat) (v : Ring) : (s.setRing n v).fab = s.fab := rfl
@[simp] theorem setRing_lib (s : State) (n : Nat) (v : Ring) : (s.setRing n v).lib = s.lib := rfl
@[simp] theorem setRing_com (s : State) (n : Nat) (v : Ring) : (s.setRing n v).com = s.com := rfl
@[simp] theorem setRing_net (s : State) (n : Nat) (v : Ring) : (s.setRing n v).net = s.net := rfl
@[simp] theorem setRing_mat (s : State) (n : Nat) (v : Ring) : (s.setRing n v).mat = s.mat := rfl
@[simp] theorem setRing_active (s : State) (n : Nat) (v : Ring) : (s.setRing n v).active = s.active := rfl
@[simp] theorem setRing_recovery (s : State) (n : Nat) (v : Ring) : (s.setRing n v).recovery = s.recovery := rfl
@[simp] theorem setRing_scan (s : State) (n : Nat) (v : Ring) : (s.setRing n v).scan = s.scan := rfl
@[simp] theorem setRing_ticking (s : State) (n : Nat) (v : Ring) : (s.setRing n v).ticking = s.ticking := rfl
@[simp] theorem setRing_now (s : State) (n : Nat) (v : Ring) : (s.setRing n v).now = s.now := rfl
@[simp] theorem capNote_pending (s : State) (f : Nat → CapAcc → CapAcc) : (s.capNote f).pending = s.pending := rfl
@[simp] theorem capNote_tick (s : State) (f : Nat → CapAcc → CapAcc) : (s.capNote f).tick = s.tick := rfl
@[simp] theorem capNote_objs (s : State) (f : Nat → CapAcc → CapAcc) : (s.capNote f).objs = s.objs := rfl
@[simp] theorem capNote_octs (s : State) (f : Nat → CapAcc → CapAcc) : (s.capNote f).octs = s.octs := rfl
@[simp] theorem capNote_staged (s : State) (f : Nat → CapAcc → CapAcc) : (s.capNote f).staged = s.staged := rfl
@[simp] theorem capNote_stagedOcts (s : State) (f : Nat → CapAcc → CapAcc) : (s.capNote f).stagedOcts = s.stagedOcts := rfl
@[simp] theorem capNote_hbm (s : State) (f : Nat → CapAcc → CapAcc) : (s.capNote f).hbm = s.hbm := rfl
@[simp] theorem capNote_dev (s : State) (f : Nat → CapAcc → CapAcc) : (s.capNote f).dev = s.dev := rfl
@[simp] theorem capNote_ex (s : State) (f : Nat → CapAcc → CapAcc) : (s.capNote f).ex = s.ex := rfl
@[simp] theorem capNote_funcs (s : State) (f : Nat → CapAcc → CapAcc) : (s.capNote f).funcs = s.funcs := rfl
@[simp] theorem capNote_lobes (s : State) (f : Nat → CapAcc → CapAcc) : (s.capNote f).lobes = s.lobes := rfl
@[simp] theorem capNote_time (s : State) (f : Nat → CapAcc → CapAcc) : (s.capNote f).time = s.time := rfl
@[simp] theorem capNote_drv (s : State) (f : Nat → CapAcc → CapAcc) : (s.capNote f).drv = s.drv := rfl
@[simp] theorem capNote_steady (s : State) (f : Nat → CapAcc → CapAcc) : (s.capNote f).steady = s.steady := rfl
@[simp] theorem capNote_therm (s : State) (f : Nat → CapAcc → CapAcc) : (s.capNote f).therm = s.therm := rfl
@[simp] theorem capNote_loops (s : State) (f : Nat → CapAcc → CapAcc) : (s.capNote f).loops = s.loops := rfl
@[simp] theorem capNote_mon (s : State) (f : Nat → CapAcc → CapAcc) : (s.capNote f).mon = s.mon := rfl
@[simp] theorem capNote_cal (s : State) (f : Nat → CapAcc → CapAcc) : (s.capNote f).cal = s.cal := rfl
@[simp] theorem capNote_fab (s : State) (f : Nat → CapAcc → CapAcc) : (s.capNote f).fab = s.fab := rfl
@[simp] theorem capNote_lib (s : State) (f : Nat → CapAcc → CapAcc) : (s.capNote f).lib = s.lib := rfl
@[simp] theorem capNote_com (s : State) (f : Nat → CapAcc → CapAcc) : (s.capNote f).com = s.com := rfl
@[simp] theorem capNote_net (s : State) (f : Nat → CapAcc → CapAcc) : (s.capNote f).net = s.net := rfl
@[simp] theorem capNote_mat (s : State) (f : Nat → CapAcc → CapAcc) : (s.capNote f).mat = s.mat := rfl
@[simp] theorem capNote_active (s : State) (f : Nat → CapAcc → CapAcc) : (s.capNote f).active = s.active := rfl
@[simp] theorem capNote_recovery (s : State) (f : Nat → CapAcc → CapAcc) : (s.capNote f).recovery = s.recovery := rfl
@[simp] theorem capNote_scan (s : State) (f : Nat → CapAcc → CapAcc) : (s.capNote f).scan = s.scan := rfl
@[simp] theorem capNote_ticking (s : State) (f : Nat → CapAcc → CapAcc) : (s.capNote f).ticking = s.ticking := rfl
@[simp] theorem capNote_now (s : State) (f : Nat → CapAcc → CapAcc) : (s.capNote f).now = s.now := rfl
@[simp] theorem setSession_pending (s : State) (n : Nat) (x : Session) : (s.setSession n x).pending = s.pending := rfl
@[simp] theorem setSession_tick (s : State) (n : Nat) (x : Session) : (s.setSession n x).tick = s.tick := rfl
@[simp] theorem setSession_objs (s : State) (n : Nat) (x : Session) : (s.setSession n x).objs = s.objs := rfl
@[simp] theorem setSession_octs (s : State) (n : Nat) (x : Session) : (s.setSession n x).octs = s.octs := rfl
@[simp] theorem setSession_staged (s : State) (n : Nat) (x : Session) : (s.setSession n x).staged = s.staged := rfl
@[simp] theorem setSession_stagedOcts (s : State) (n : Nat) (x : Session) : (s.setSession n x).stagedOcts = s.stagedOcts := rfl
@[simp] theorem setSession_hbm (s : State) (n : Nat) (x : Session) : (s.setSession n x).hbm = s.hbm := rfl
@[simp] theorem setSession_dev (s : State) (n : Nat) (x : Session) : (s.setSession n x).dev = s.dev := rfl
@[simp] theorem setSession_funcs (s : State) (n : Nat) (x : Session) : (s.setSession n x).funcs = s.funcs := rfl
@[simp] theorem setSession_lobes (s : State) (n : Nat) (x : Session) : (s.setSession n x).lobes = s.lobes := rfl
@[simp] theorem setSession_time (s : State) (n : Nat) (x : Session) : (s.setSession n x).time = s.time := rfl
@[simp] theorem setSession_sorus (s : State) (n : Nat) (x : Session) : (s.setSession n x).sorus = s.sorus := rfl
@[simp] theorem setSession_drv (s : State) (n : Nat) (x : Session) : (s.setSession n x).drv = s.drv := rfl
@[simp] theorem setSession_steady (s : State) (n : Nat) (x : Session) : (s.setSession n x).steady = s.steady := rfl
@[simp] theorem setSession_therm (s : State) (n : Nat) (x : Session) : (s.setSession n x).therm = s.therm := rfl
@[simp] theorem setSession_loops (s : State) (n : Nat) (x : Session) : (s.setSession n x).loops = s.loops := rfl
@[simp] theorem setSession_mon (s : State) (n : Nat) (x : Session) : (s.setSession n x).mon = s.mon := rfl
@[simp] theorem setSession_cal (s : State) (n : Nat) (x : Session) : (s.setSession n x).cal = s.cal := rfl
@[simp] theorem setSession_fab (s : State) (n : Nat) (x : Session) : (s.setSession n x).fab = s.fab := rfl
@[simp] theorem setSession_lib (s : State) (n : Nat) (x : Session) : (s.setSession n x).lib = s.lib := rfl
@[simp] theorem setSession_com (s : State) (n : Nat) (x : Session) : (s.setSession n x).com = s.com := rfl
@[simp] theorem setSession_net (s : State) (n : Nat) (x : Session) : (s.setSession n x).net = s.net := rfl
@[simp] theorem setSession_mat (s : State) (n : Nat) (x : Session) : (s.setSession n x).mat = s.mat := rfl
@[simp] theorem setSession_active (s : State) (n : Nat) (x : Session) : (s.setSession n x).active = s.active := rfl
@[simp] theorem setSession_recovery (s : State) (n : Nat) (x : Session) : (s.setSession n x).recovery = s.recovery := rfl
@[simp] theorem setSession_scan (s : State) (n : Nat) (x : Session) : (s.setSession n x).scan = s.scan := rfl
@[simp] theorem setSession_ticking (s : State) (n : Nat) (x : Session) : (s.setSession n x).ticking = s.ticking := rfl
@[simp] theorem setSession_now (s : State) (n : Nat) (x : Session) : (s.setSession n x).now = s.now := rfl
@[simp] theorem setFunc_pending (s : State) (n : Nat) (f : Func) : (s.setFunc n f).pending = s.pending := rfl
@[simp] theorem setFunc_tick (s : State) (n : Nat) (f : Func) : (s.setFunc n f).tick = s.tick := rfl
@[simp] theorem setFunc_objs (s : State) (n : Nat) (f : Func) : (s.setFunc n f).objs = s.objs := rfl
@[simp] theorem setFunc_octs (s : State) (n : Nat) (f : Func) : (s.setFunc n f).octs = s.octs := rfl
@[simp] theorem setFunc_staged (s : State) (n : Nat) (f : Func) : (s.setFunc n f).staged = s.staged := rfl
@[simp] theorem setFunc_stagedOcts (s : State) (n : Nat) (f : Func) : (s.setFunc n f).stagedOcts = s.stagedOcts := rfl
@[simp] theorem setFunc_hbm (s : State) (n : Nat) (f : Func) : (s.setFunc n f).hbm = s.hbm := rfl
@[simp] theorem setFunc_dev (s : State) (n : Nat) (f : Func) : (s.setFunc n f).dev = s.dev := rfl
@[simp] theorem setFunc_ex (s : State) (n : Nat) (f : Func) : (s.setFunc n f).ex = s.ex := rfl
@[simp] theorem setFunc_lobes (s : State) (n : Nat) (f : Func) : (s.setFunc n f).lobes = s.lobes := rfl
@[simp] theorem setFunc_time (s : State) (n : Nat) (f : Func) : (s.setFunc n f).time = s.time := rfl
@[simp] theorem setFunc_sorus (s : State) (n : Nat) (f : Func) : (s.setFunc n f).sorus = s.sorus := rfl
@[simp] theorem setFunc_drv (s : State) (n : Nat) (f : Func) : (s.setFunc n f).drv = s.drv := rfl
@[simp] theorem setFunc_steady (s : State) (n : Nat) (f : Func) : (s.setFunc n f).steady = s.steady := rfl
@[simp] theorem setFunc_therm (s : State) (n : Nat) (f : Func) : (s.setFunc n f).therm = s.therm := rfl
@[simp] theorem setFunc_loops (s : State) (n : Nat) (f : Func) : (s.setFunc n f).loops = s.loops := rfl
@[simp] theorem setFunc_mon (s : State) (n : Nat) (f : Func) : (s.setFunc n f).mon = s.mon := rfl
@[simp] theorem setFunc_cal (s : State) (n : Nat) (f : Func) : (s.setFunc n f).cal = s.cal := rfl
@[simp] theorem setFunc_fab (s : State) (n : Nat) (f : Func) : (s.setFunc n f).fab = s.fab := rfl
@[simp] theorem setFunc_lib (s : State) (n : Nat) (f : Func) : (s.setFunc n f).lib = s.lib := rfl
@[simp] theorem setFunc_com (s : State) (n : Nat) (f : Func) : (s.setFunc n f).com = s.com := rfl
@[simp] theorem setFunc_net (s : State) (n : Nat) (f : Func) : (s.setFunc n f).net = s.net := rfl
@[simp] theorem setFunc_mat (s : State) (n : Nat) (f : Func) : (s.setFunc n f).mat = s.mat := rfl
@[simp] theorem setFunc_active (s : State) (n : Nat) (f : Func) : (s.setFunc n f).active = s.active := rfl
@[simp] theorem setFunc_recovery (s : State) (n : Nat) (f : Func) : (s.setFunc n f).recovery = s.recovery := rfl
@[simp] theorem setFunc_scan (s : State) (n : Nat) (f : Func) : (s.setFunc n f).scan = s.scan := rfl
@[simp] theorem setFunc_ticking (s : State) (n : Nat) (f : Func) : (s.setFunc n f).ticking = s.ticking := rfl
@[simp] theorem setFunc_now (s : State) (n : Nat) (f : Func) : (s.setFunc n f).now = s.now := rfl
@[simp] theorem setChan_pending (s : State) (n : Nat) (c : Chan) : (s.setChan n c).pending = s.pending := rfl
@[simp] theorem setChan_tick (s : State) (n : Nat) (c : Chan) : (s.setChan n c).tick = s.tick := rfl
@[simp] theorem setChan_objs (s : State) (n : Nat) (c : Chan) : (s.setChan n c).objs = s.objs := rfl
@[simp] theorem setChan_octs (s : State) (n : Nat) (c : Chan) : (s.setChan n c).octs = s.octs := rfl
@[simp] theorem setChan_staged (s : State) (n : Nat) (c : Chan) : (s.setChan n c).staged = s.staged := rfl
@[simp] theorem setChan_stagedOcts (s : State) (n : Nat) (c : Chan) : (s.setChan n c).stagedOcts = s.stagedOcts := rfl
@[simp] theorem setChan_hbm (s : State) (n : Nat) (c : Chan) : (s.setChan n c).hbm = s.hbm := rfl
@[simp] theorem setChan_dev (s : State) (n : Nat) (c : Chan) : (s.setChan n c).dev = s.dev := rfl
@[simp] theorem setChan_ex (s : State) (n : Nat) (c : Chan) : (s.setChan n c).ex = s.ex := rfl
@[simp] theorem setChan_funcs (s : State) (n : Nat) (c : Chan) : (s.setChan n c).funcs = s.funcs := rfl
@[simp] theorem setChan_lobes (s : State) (n : Nat) (c : Chan) : (s.setChan n c).lobes = s.lobes := rfl
@[simp] theorem setChan_time (s : State) (n : Nat) (c : Chan) : (s.setChan n c).time = s.time := rfl
@[simp] theorem setChan_sorus (s : State) (n : Nat) (c : Chan) : (s.setChan n c).sorus = s.sorus := rfl
@[simp] theorem setChan_steady (s : State) (n : Nat) (c : Chan) : (s.setChan n c).steady = s.steady := rfl
@[simp] theorem setChan_therm (s : State) (n : Nat) (c : Chan) : (s.setChan n c).therm = s.therm := rfl
@[simp] theorem setChan_loops (s : State) (n : Nat) (c : Chan) : (s.setChan n c).loops = s.loops := rfl
@[simp] theorem setChan_mon (s : State) (n : Nat) (c : Chan) : (s.setChan n c).mon = s.mon := rfl
@[simp] theorem setChan_cal (s : State) (n : Nat) (c : Chan) : (s.setChan n c).cal = s.cal := rfl
@[simp] theorem setChan_fab (s : State) (n : Nat) (c : Chan) : (s.setChan n c).fab = s.fab := rfl
@[simp] theorem setChan_lib (s : State) (n : Nat) (c : Chan) : (s.setChan n c).lib = s.lib := rfl
@[simp] theorem setChan_com (s : State) (n : Nat) (c : Chan) : (s.setChan n c).com = s.com := rfl
@[simp] theorem setChan_net (s : State) (n : Nat) (c : Chan) : (s.setChan n c).net = s.net := rfl
@[simp] theorem setChan_mat (s : State) (n : Nat) (c : Chan) : (s.setChan n c).mat = s.mat := rfl
@[simp] theorem setChan_active (s : State) (n : Nat) (c : Chan) : (s.setChan n c).active = s.active := rfl
@[simp] theorem setChan_recovery (s : State) (n : Nat) (c : Chan) : (s.setChan n c).recovery = s.recovery := rfl
@[simp] theorem setChan_scan (s : State) (n : Nat) (c : Chan) : (s.setChan n c).scan = s.scan := rfl
@[simp] theorem setChan_ticking (s : State) (n : Nat) (c : Chan) : (s.setChan n c).ticking = s.ticking := rfl
@[simp] theorem setChan_now (s : State) (n : Nat) (c : Chan) : (s.setChan n c).now = s.now := rfl
@[simp] theorem setBank_pending (s : State) (n : Nat) (x : Bank) : (s.setBank n x).pending = s.pending := rfl
@[simp] theorem setBank_tick (s : State) (n : Nat) (x : Bank) : (s.setBank n x).tick = s.tick := rfl
@[simp] theorem setBank_objs (s : State) (n : Nat) (x : Bank) : (s.setBank n x).objs = s.objs := rfl
@[simp] theorem setBank_octs (s : State) (n : Nat) (x : Bank) : (s.setBank n x).octs = s.octs := rfl
@[simp] theorem setBank_staged (s : State) (n : Nat) (x : Bank) : (s.setBank n x).staged = s.staged := rfl
@[simp] theorem setBank_stagedOcts (s : State) (n : Nat) (x : Bank) : (s.setBank n x).stagedOcts = s.stagedOcts := rfl
@[simp] theorem setBank_hbm (s : State) (n : Nat) (x : Bank) : (s.setBank n x).hbm = s.hbm := rfl
@[simp] theorem setBank_dev (s : State) (n : Nat) (x : Bank) : (s.setBank n x).dev = s.dev := rfl
@[simp] theorem setBank_ex (s : State) (n : Nat) (x : Bank) : (s.setBank n x).ex = s.ex := rfl
@[simp] theorem setBank_funcs (s : State) (n : Nat) (x : Bank) : (s.setBank n x).funcs = s.funcs := rfl
@[simp] theorem setBank_lobes (s : State) (n : Nat) (x : Bank) : (s.setBank n x).lobes = s.lobes := rfl
@[simp] theorem setBank_time (s : State) (n : Nat) (x : Bank) : (s.setBank n x).time = s.time := rfl
@[simp] theorem setBank_sorus (s : State) (n : Nat) (x : Bank) : (s.setBank n x).sorus = s.sorus := rfl
@[simp] theorem setBank_steady (s : State) (n : Nat) (x : Bank) : (s.setBank n x).steady = s.steady := rfl
@[simp] theorem setBank_therm (s : State) (n : Nat) (x : Bank) : (s.setBank n x).therm = s.therm := rfl
@[simp] theorem setBank_loops (s : State) (n : Nat) (x : Bank) : (s.setBank n x).loops = s.loops := rfl
@[simp] theorem setBank_mon (s : State) (n : Nat) (x : Bank) : (s.setBank n x).mon = s.mon := rfl
@[simp] theorem setBank_cal (s : State) (n : Nat) (x : Bank) : (s.setBank n x).cal = s.cal := rfl
@[simp] theorem setBank_fab (s : State) (n : Nat) (x : Bank) : (s.setBank n x).fab = s.fab := rfl
@[simp] theorem setBank_lib (s : State) (n : Nat) (x : Bank) : (s.setBank n x).lib = s.lib := rfl
@[simp] theorem setBank_com (s : State) (n : Nat) (x : Bank) : (s.setBank n x).com = s.com := rfl
@[simp] theorem setBank_net (s : State) (n : Nat) (x : Bank) : (s.setBank n x).net = s.net := rfl
@[simp] theorem setBank_mat (s : State) (n : Nat) (x : Bank) : (s.setBank n x).mat = s.mat := rfl
@[simp] theorem setBank_active (s : State) (n : Nat) (x : Bank) : (s.setBank n x).active = s.active := rfl
@[simp] theorem setBank_recovery (s : State) (n : Nat) (x : Bank) : (s.setBank n x).recovery = s.recovery := rfl
@[simp] theorem setBank_scan (s : State) (n : Nat) (x : Bank) : (s.setBank n x).scan = s.scan := rfl
@[simp] theorem setBank_ticking (s : State) (n : Nat) (x : Bank) : (s.setBank n x).ticking = s.ticking := rfl
@[simp] theorem setBank_now (s : State) (n : Nat) (x : Bank) : (s.setBank n x).now = s.now := rfl
@[simp] theorem noteWrite_pending (s : State) (b : Nat) : (noteWrite s b).pending = s.pending := rfl
@[simp] theorem noteWrite_tick (s : State) (b : Nat) : (noteWrite s b).tick = s.tick := rfl
@[simp] theorem noteWrite_objs (s : State) (b : Nat) : (noteWrite s b).objs = s.objs := rfl
@[simp] theorem noteWrite_octs (s : State) (b : Nat) : (noteWrite s b).octs = s.octs := rfl
@[simp] theorem noteWrite_staged (s : State) (b : Nat) : (noteWrite s b).staged = s.staged := rfl
@[simp] theorem noteWrite_stagedOcts (s : State) (b : Nat) : (noteWrite s b).stagedOcts = s.stagedOcts := rfl
@[simp] theorem noteWrite_hbm (s : State) (b : Nat) : (noteWrite s b).hbm = s.hbm := rfl
@[simp] theorem noteWrite_dev (s : State) (b : Nat) : (noteWrite s b).dev = s.dev := rfl
@[simp] theorem noteWrite_ex (s : State) (b : Nat) : (noteWrite s b).ex = s.ex := rfl
@[simp] theorem noteWrite_funcs (s : State) (b : Nat) : (noteWrite s b).funcs = s.funcs := rfl
@[simp] theorem noteWrite_time (s : State) (b : Nat) : (noteWrite s b).time = s.time := rfl
@[simp] theorem noteWrite_sorus (s : State) (b : Nat) : (noteWrite s b).sorus = s.sorus := rfl
@[simp] theorem noteWrite_drv (s : State) (b : Nat) : (noteWrite s b).drv = s.drv := rfl
@[simp] theorem noteWrite_steady (s : State) (b : Nat) : (noteWrite s b).steady = s.steady := rfl
@[simp] theorem noteWrite_therm (s : State) (b : Nat) : (noteWrite s b).therm = s.therm := rfl
@[simp] theorem noteWrite_loops (s : State) (b : Nat) : (noteWrite s b).loops = s.loops := rfl
@[simp] theorem noteWrite_mon (s : State) (b : Nat) : (noteWrite s b).mon = s.mon := rfl
@[simp] theorem noteWrite_cal (s : State) (b : Nat) : (noteWrite s b).cal = s.cal := rfl
@[simp] theorem noteWrite_fab (s : State) (b : Nat) : (noteWrite s b).fab = s.fab := rfl
@[simp] theorem noteWrite_lib (s : State) (b : Nat) : (noteWrite s b).lib = s.lib := rfl
@[simp] theorem noteWrite_com (s : State) (b : Nat) : (noteWrite s b).com = s.com := rfl
@[simp] theorem noteWrite_net (s : State) (b : Nat) : (noteWrite s b).net = s.net := rfl
@[simp] theorem noteWrite_mat (s : State) (b : Nat) : (noteWrite s b).mat = s.mat := rfl
@[simp] theorem setVoa_pending (s : State) (n : Nat) (x : Voa) : (s.setVoa n x).pending = s.pending := rfl
@[simp] theorem setVoa_tick (s : State) (n : Nat) (x : Voa) : (s.setVoa n x).tick = s.tick := rfl
@[simp] theorem setVoa_objs (s : State) (n : Nat) (x : Voa) : (s.setVoa n x).objs = s.objs := rfl
@[simp] theorem setVoa_octs (s : State) (n : Nat) (x : Voa) : (s.setVoa n x).octs = s.octs := rfl
@[simp] theorem setVoa_staged (s : State) (n : Nat) (x : Voa) : (s.setVoa n x).staged = s.staged := rfl
@[simp] theorem setVoa_stagedOcts (s : State) (n : Nat) (x : Voa) : (s.setVoa n x).stagedOcts = s.stagedOcts := rfl
@[simp] theorem setVoa_hbm (s : State) (n : Nat) (x : Voa) : (s.setVoa n x).hbm = s.hbm := rfl
@[simp] theorem setVoa_dev (s : State) (n : Nat) (x : Voa) : (s.setVoa n x).dev = s.dev := rfl
@[simp] theorem setVoa_ex (s : State) (n : Nat) (x : Voa) : (s.setVoa n x).ex = s.ex := rfl
@[simp] theorem setVoa_funcs (s : State) (n : Nat) (x : Voa) : (s.setVoa n x).funcs = s.funcs := rfl
@[simp] theorem setVoa_lobes (s : State) (n : Nat) (x : Voa) : (s.setVoa n x).lobes = s.lobes := rfl
@[simp] theorem setVoa_time (s : State) (n : Nat) (x : Voa) : (s.setVoa n x).time = s.time := rfl
@[simp] theorem setVoa_sorus (s : State) (n : Nat) (x : Voa) : (s.setVoa n x).sorus = s.sorus := rfl
@[simp] theorem setVoa_drv (s : State) (n : Nat) (x : Voa) : (s.setVoa n x).drv = s.drv := rfl
@[simp] theorem setVoa_steady (s : State) (n : Nat) (x : Voa) : (s.setVoa n x).steady = s.steady := rfl
@[simp] theorem setVoa_therm (s : State) (n : Nat) (x : Voa) : (s.setVoa n x).therm = s.therm := rfl
@[simp] theorem setVoa_mon (s : State) (n : Nat) (x : Voa) : (s.setVoa n x).mon = s.mon := rfl
@[simp] theorem setVoa_cal (s : State) (n : Nat) (x : Voa) : (s.setVoa n x).cal = s.cal := rfl
@[simp] theorem setVoa_fab (s : State) (n : Nat) (x : Voa) : (s.setVoa n x).fab = s.fab := rfl
@[simp] theorem setVoa_lib (s : State) (n : Nat) (x : Voa) : (s.setVoa n x).lib = s.lib := rfl
@[simp] theorem setVoa_com (s : State) (n : Nat) (x : Voa) : (s.setVoa n x).com = s.com := rfl
@[simp] theorem setVoa_net (s : State) (n : Nat) (x : Voa) : (s.setVoa n x).net = s.net := rfl
@[simp] theorem setVoa_mat (s : State) (n : Nat) (x : Voa) : (s.setVoa n x).mat = s.mat := rfl
@[simp] theorem setVoa_active (s : State) (n : Nat) (x : Voa) : (s.setVoa n x).active = s.active := rfl
@[simp] theorem setVoa_recovery (s : State) (n : Nat) (x : Voa) : (s.setVoa n x).recovery = s.recovery := rfl
@[simp] theorem setVoa_scan (s : State) (n : Nat) (x : Voa) : (s.setVoa n x).scan = s.scan := rfl
@[simp] theorem setVoa_ticking (s : State) (n : Nat) (x : Voa) : (s.setVoa n x).ticking = s.ticking := rfl
@[simp] theorem setVoa_now (s : State) (n : Nat) (x : Voa) : (s.setVoa n x).now = s.now := rfl
@[simp] theorem setColumn_pending (s : State) (n : Nat) (x : Column) : (s.setColumn n x).pending = s.pending := rfl
@[simp] theorem setColumn_tick (s : State) (n : Nat) (x : Column) : (s.setColumn n x).tick = s.tick := rfl
@[simp] theorem setColumn_objs (s : State) (n : Nat) (x : Column) : (s.setColumn n x).objs = s.objs := rfl
@[simp] theorem setColumn_octs (s : State) (n : Nat) (x : Column) : (s.setColumn n x).octs = s.octs := rfl
@[simp] theorem setColumn_staged (s : State) (n : Nat) (x : Column) : (s.setColumn n x).staged = s.staged := rfl
@[simp] theorem setColumn_stagedOcts (s : State) (n : Nat) (x : Column) : (s.setColumn n x).stagedOcts = s.stagedOcts := rfl
@[simp] theorem setColumn_hbm (s : State) (n : Nat) (x : Column) : (s.setColumn n x).hbm = s.hbm := rfl
@[simp] theorem setColumn_dev (s : State) (n : Nat) (x : Column) : (s.setColumn n x).dev = s.dev := rfl
@[simp] theorem setColumn_ex (s : State) (n : Nat) (x : Column) : (s.setColumn n x).ex = s.ex := rfl
@[simp] theorem setColumn_funcs (s : State) (n : Nat) (x : Column) : (s.setColumn n x).funcs = s.funcs := rfl
@[simp] theorem setColumn_lobes (s : State) (n : Nat) (x : Column) : (s.setColumn n x).lobes = s.lobes := rfl
@[simp] theorem setColumn_time (s : State) (n : Nat) (x : Column) : (s.setColumn n x).time = s.time := rfl
@[simp] theorem setColumn_sorus (s : State) (n : Nat) (x : Column) : (s.setColumn n x).sorus = s.sorus := rfl
@[simp] theorem setColumn_drv (s : State) (n : Nat) (x : Column) : (s.setColumn n x).drv = s.drv := rfl
@[simp] theorem setColumn_steady (s : State) (n : Nat) (x : Column) : (s.setColumn n x).steady = s.steady := rfl
@[simp] theorem setColumn_therm (s : State) (n : Nat) (x : Column) : (s.setColumn n x).therm = s.therm := rfl
@[simp] theorem setColumn_mon (s : State) (n : Nat) (x : Column) : (s.setColumn n x).mon = s.mon := rfl
@[simp] theorem setColumn_cal (s : State) (n : Nat) (x : Column) : (s.setColumn n x).cal = s.cal := rfl
@[simp] theorem setColumn_fab (s : State) (n : Nat) (x : Column) : (s.setColumn n x).fab = s.fab := rfl
@[simp] theorem setColumn_lib (s : State) (n : Nat) (x : Column) : (s.setColumn n x).lib = s.lib := rfl
@[simp] theorem setColumn_com (s : State) (n : Nat) (x : Column) : (s.setColumn n x).com = s.com := rfl
@[simp] theorem setColumn_net (s : State) (n : Nat) (x : Column) : (s.setColumn n x).net = s.net := rfl
@[simp] theorem setColumn_mat (s : State) (n : Nat) (x : Column) : (s.setColumn n x).mat = s.mat := rfl
@[simp] theorem setColumn_active (s : State) (n : Nat) (x : Column) : (s.setColumn n x).active = s.active := rfl
@[simp] theorem setColumn_recovery (s : State) (n : Nat) (x : Column) : (s.setColumn n x).recovery = s.recovery := rfl
@[simp] theorem setColumn_scan (s : State) (n : Nat) (x : Column) : (s.setColumn n x).scan = s.scan := rfl
@[simp] theorem setColumn_ticking (s : State) (n : Nat) (x : Column) : (s.setColumn n x).ticking = s.ticking := rfl
@[simp] theorem setColumn_now (s : State) (n : Nat) (x : Column) : (s.setColumn n x).now = s.now := rfl
@[simp] theorem setPd_pending (s : State) (n : Nat) (x : Pd) : (s.setPd n x).pending = s.pending := rfl
@[simp] theorem setPd_tick (s : State) (n : Nat) (x : Pd) : (s.setPd n x).tick = s.tick := rfl
@[simp] theorem setPd_objs (s : State) (n : Nat) (x : Pd) : (s.setPd n x).objs = s.objs := rfl
@[simp] theorem setPd_octs (s : State) (n : Nat) (x : Pd) : (s.setPd n x).octs = s.octs := rfl
@[simp] theorem setPd_staged (s : State) (n : Nat) (x : Pd) : (s.setPd n x).staged = s.staged := rfl
@[simp] theorem setPd_stagedOcts (s : State) (n : Nat) (x : Pd) : (s.setPd n x).stagedOcts = s.stagedOcts := rfl
@[simp] theorem setPd_hbm (s : State) (n : Nat) (x : Pd) : (s.setPd n x).hbm = s.hbm := rfl
@[simp] theorem setPd_dev (s : State) (n : Nat) (x : Pd) : (s.setPd n x).dev = s.dev := rfl
@[simp] theorem setPd_ex (s : State) (n : Nat) (x : Pd) : (s.setPd n x).ex = s.ex := rfl
@[simp] theorem setPd_funcs (s : State) (n : Nat) (x : Pd) : (s.setPd n x).funcs = s.funcs := rfl
@[simp] theorem setPd_lobes (s : State) (n : Nat) (x : Pd) : (s.setPd n x).lobes = s.lobes := rfl
@[simp] theorem setPd_time (s : State) (n : Nat) (x : Pd) : (s.setPd n x).time = s.time := rfl
@[simp] theorem setPd_sorus (s : State) (n : Nat) (x : Pd) : (s.setPd n x).sorus = s.sorus := rfl
@[simp] theorem setPd_drv (s : State) (n : Nat) (x : Pd) : (s.setPd n x).drv = s.drv := rfl
@[simp] theorem setPd_steady (s : State) (n : Nat) (x : Pd) : (s.setPd n x).steady = s.steady := rfl
@[simp] theorem setPd_therm (s : State) (n : Nat) (x : Pd) : (s.setPd n x).therm = s.therm := rfl
@[simp] theorem setPd_loops (s : State) (n : Nat) (x : Pd) : (s.setPd n x).loops = s.loops := rfl
@[simp] theorem setPd_cal (s : State) (n : Nat) (x : Pd) : (s.setPd n x).cal = s.cal := rfl
@[simp] theorem setPd_fab (s : State) (n : Nat) (x : Pd) : (s.setPd n x).fab = s.fab := rfl
@[simp] theorem setPd_lib (s : State) (n : Nat) (x : Pd) : (s.setPd n x).lib = s.lib := rfl
@[simp] theorem setPd_com (s : State) (n : Nat) (x : Pd) : (s.setPd n x).com = s.com := rfl
@[simp] theorem setPd_net (s : State) (n : Nat) (x : Pd) : (s.setPd n x).net = s.net := rfl
@[simp] theorem setPd_mat (s : State) (n : Nat) (x : Pd) : (s.setPd n x).mat = s.mat := rfl
@[simp] theorem setPd_active (s : State) (n : Nat) (x : Pd) : (s.setPd n x).active = s.active := rfl
@[simp] theorem setPd_recovery (s : State) (n : Nat) (x : Pd) : (s.setPd n x).recovery = s.recovery := rfl
@[simp] theorem setPd_scan (s : State) (n : Nat) (x : Pd) : (s.setPd n x).scan = s.scan := rfl
@[simp] theorem setPd_ticking (s : State) (n : Nat) (x : Pd) : (s.setPd n x).ticking = s.ticking := rfl
@[simp] theorem setPd_now (s : State) (n : Nat) (x : Pd) : (s.setPd n x).now = s.now := rfl
@[simp] theorem setElem_pending (s : State) (n : Nat) (x : Elem) : (s.setElem n x).pending = s.pending := by unfold State.setElem; dsimp only; split <;> rfl
@[simp] theorem setElem_tick (s : State) (n : Nat) (x : Elem) : (s.setElem n x).tick = s.tick := by unfold State.setElem; dsimp only; split <;> rfl
@[simp] theorem setElem_objs (s : State) (n : Nat) (x : Elem) : (s.setElem n x).objs = s.objs := by unfold State.setElem; dsimp only; split <;> rfl
@[simp] theorem setElem_octs (s : State) (n : Nat) (x : Elem) : (s.setElem n x).octs = s.octs := by unfold State.setElem; dsimp only; split <;> rfl
@[simp] theorem setElem_staged (s : State) (n : Nat) (x : Elem) : (s.setElem n x).staged = s.staged := by unfold State.setElem; dsimp only; split <;> rfl
@[simp] theorem setElem_stagedOcts (s : State) (n : Nat) (x : Elem) : (s.setElem n x).stagedOcts = s.stagedOcts := by unfold State.setElem; dsimp only; split <;> rfl
@[simp] theorem setElem_hbm (s : State) (n : Nat) (x : Elem) : (s.setElem n x).hbm = s.hbm := by unfold State.setElem; dsimp only; split <;> rfl
@[simp] theorem setElem_dev (s : State) (n : Nat) (x : Elem) : (s.setElem n x).dev = s.dev := by unfold State.setElem; dsimp only; split <;> rfl
@[simp] theorem setElem_ex (s : State) (n : Nat) (x : Elem) : (s.setElem n x).ex = s.ex := by unfold State.setElem; dsimp only; split <;> rfl
@[simp] theorem setElem_funcs (s : State) (n : Nat) (x : Elem) : (s.setElem n x).funcs = s.funcs := by unfold State.setElem; dsimp only; split <;> rfl
@[simp] theorem setElem_lobes (s : State) (n : Nat) (x : Elem) : (s.setElem n x).lobes = s.lobes := by unfold State.setElem; dsimp only; split <;> rfl
@[simp] theorem setElem_time (s : State) (n : Nat) (x : Elem) : (s.setElem n x).time = s.time := by unfold State.setElem; dsimp only; split <;> rfl
@[simp] theorem setElem_drv (s : State) (n : Nat) (x : Elem) : (s.setElem n x).drv = s.drv := by unfold State.setElem; dsimp only; split <;> rfl
@[simp] theorem setElem_steady (s : State) (n : Nat) (x : Elem) : (s.setElem n x).steady = s.steady := by unfold State.setElem; dsimp only; split <;> rfl
@[simp] theorem setElem_therm (s : State) (n : Nat) (x : Elem) : (s.setElem n x).therm = s.therm := by unfold State.setElem; dsimp only; split <;> rfl
@[simp] theorem setElem_mon (s : State) (n : Nat) (x : Elem) : (s.setElem n x).mon = s.mon := by unfold State.setElem; dsimp only; split <;> rfl
@[simp] theorem setElem_cal (s : State) (n : Nat) (x : Elem) : (s.setElem n x).cal = s.cal := by unfold State.setElem; dsimp only; split <;> rfl
@[simp] theorem setElem_fab (s : State) (n : Nat) (x : Elem) : (s.setElem n x).fab = s.fab := by unfold State.setElem; dsimp only; split <;> rfl
@[simp] theorem setElem_lib (s : State) (n : Nat) (x : Elem) : (s.setElem n x).lib = s.lib := by unfold State.setElem; dsimp only; split <;> rfl
@[simp] theorem setElem_com (s : State) (n : Nat) (x : Elem) : (s.setElem n x).com = s.com := by unfold State.setElem; dsimp only; split <;> rfl
@[simp] theorem setElem_net (s : State) (n : Nat) (x : Elem) : (s.setElem n x).net = s.net := by unfold State.setElem; dsimp only; split <;> rfl
@[simp] theorem setElem_mat (s : State) (n : Nat) (x : Elem) : (s.setElem n x).mat = s.mat := by unfold State.setElem; dsimp only; split <;> rfl
@[simp] theorem fault_pending (s : State) (c : FaultCause) : (s.fault c).pending = s.pending := by unfold State.fault; split <;> rfl
@[simp] theorem fault_tick (s : State) (c : FaultCause) : (s.fault c).tick = s.tick := by unfold State.fault; split <;> rfl
@[simp] theorem fault_objs (s : State) (c : FaultCause) : (s.fault c).objs = s.objs := by unfold State.fault; split <;> rfl
@[simp] theorem fault_octs (s : State) (c : FaultCause) : (s.fault c).octs = s.octs := by unfold State.fault; split <;> rfl
@[simp] theorem fault_staged (s : State) (c : FaultCause) : (s.fault c).staged = s.staged := by unfold State.fault; split <;> rfl
@[simp] theorem fault_stagedOcts (s : State) (c : FaultCause) : (s.fault c).stagedOcts = s.stagedOcts := by unfold State.fault; split <;> rfl
@[simp] theorem fault_hbm (s : State) (c : FaultCause) : (s.fault c).hbm = s.hbm := by unfold State.fault; split <;> rfl
@[simp] theorem fault_ex (s : State) (c : FaultCause) : (s.fault c).ex = s.ex := by unfold State.fault; split <;> rfl
@[simp] theorem fault_funcs (s : State) (c : FaultCause) : (s.fault c).funcs = s.funcs := by unfold State.fault; split <;> rfl
@[simp] theorem fault_lobes (s : State) (c : FaultCause) : (s.fault c).lobes = s.lobes := by unfold State.fault; split <;> rfl
@[simp] theorem fault_time (s : State) (c : FaultCause) : (s.fault c).time = s.time := by unfold State.fault; split <;> rfl
@[simp] theorem fault_sorus (s : State) (c : FaultCause) : (s.fault c).sorus = s.sorus := by unfold State.fault; split <;> rfl
@[simp] theorem fault_drv (s : State) (c : FaultCause) : (s.fault c).drv = s.drv := by unfold State.fault; split <;> rfl
@[simp] theorem fault_steady (s : State) (c : FaultCause) : (s.fault c).steady = s.steady := by unfold State.fault; split <;> rfl
@[simp] theorem fault_therm (s : State) (c : FaultCause) : (s.fault c).therm = s.therm := by unfold State.fault; split <;> rfl
@[simp] theorem fault_loops (s : State) (c : FaultCause) : (s.fault c).loops = s.loops := by unfold State.fault; split <;> rfl
@[simp] theorem fault_mon (s : State) (c : FaultCause) : (s.fault c).mon = s.mon := by unfold State.fault; split <;> rfl
@[simp] theorem fault_cal (s : State) (c : FaultCause) : (s.fault c).cal = s.cal := by unfold State.fault; split <;> rfl
@[simp] theorem fault_fab (s : State) (c : FaultCause) : (s.fault c).fab = s.fab := by unfold State.fault; split <;> rfl
@[simp] theorem fault_lib (s : State) (c : FaultCause) : (s.fault c).lib = s.lib := by unfold State.fault; split <;> rfl
@[simp] theorem fault_com (s : State) (c : FaultCause) : (s.fault c).com = s.com := by unfold State.fault; split <;> rfl
@[simp] theorem fault_net (s : State) (c : FaultCause) : (s.fault c).net = s.net := by unfold State.fault; split <;> rfl
@[simp] theorem fault_mat (s : State) (c : FaultCause) : (s.fault c).mat = s.mat := by unfold State.fault; split <;> rfl
@[simp] theorem unfault_pending (s : State) (c : FaultCause) : (s.unfault c).pending = s.pending := rfl
@[simp] theorem unfault_tick (s : State) (c : FaultCause) : (s.unfault c).tick = s.tick := rfl
@[simp] theorem unfault_objs (s : State) (c : FaultCause) : (s.unfault c).objs = s.objs := rfl
@[simp] theorem unfault_octs (s : State) (c : FaultCause) : (s.unfault c).octs = s.octs := rfl
@[simp] theorem unfault_staged (s : State) (c : FaultCause) : (s.unfault c).staged = s.staged := rfl
@[simp] theorem unfault_stagedOcts (s : State) (c : FaultCause) : (s.unfault c).stagedOcts = s.stagedOcts := rfl
@[simp] theorem unfault_hbm (s : State) (c : FaultCause) : (s.unfault c).hbm = s.hbm := rfl
@[simp] theorem unfault_ex (s : State) (c : FaultCause) : (s.unfault c).ex = s.ex := rfl
@[simp] theorem unfault_funcs (s : State) (c : FaultCause) : (s.unfault c).funcs = s.funcs := rfl
@[simp] theorem unfault_lobes (s : State) (c : FaultCause) : (s.unfault c).lobes = s.lobes := rfl
@[simp] theorem unfault_time (s : State) (c : FaultCause) : (s.unfault c).time = s.time := rfl
@[simp] theorem unfault_sorus (s : State) (c : FaultCause) : (s.unfault c).sorus = s.sorus := rfl
@[simp] theorem unfault_drv (s : State) (c : FaultCause) : (s.unfault c).drv = s.drv := rfl
@[simp] theorem unfault_steady (s : State) (c : FaultCause) : (s.unfault c).steady = s.steady := rfl
@[simp] theorem unfault_therm (s : State) (c : FaultCause) : (s.unfault c).therm = s.therm := rfl
@[simp] theorem unfault_loops (s : State) (c : FaultCause) : (s.unfault c).loops = s.loops := rfl
@[simp] theorem unfault_mon (s : State) (c : FaultCause) : (s.unfault c).mon = s.mon := rfl
@[simp] theorem unfault_cal (s : State) (c : FaultCause) : (s.unfault c).cal = s.cal := rfl
@[simp] theorem unfault_fab (s : State) (c : FaultCause) : (s.unfault c).fab = s.fab := rfl
@[simp] theorem unfault_lib (s : State) (c : FaultCause) : (s.unfault c).lib = s.lib := rfl
@[simp] theorem unfault_com (s : State) (c : FaultCause) : (s.unfault c).com = s.com := rfl
@[simp] theorem unfault_net (s : State) (c : FaultCause) : (s.unfault c).net = s.net := rfl
@[simp] theorem unfault_mat (s : State) (c : FaultCause) : (s.unfault c).mat = s.mat := rfl
@[simp] theorem unfault_active (s : State) (c : FaultCause) : (s.unfault c).active = s.active := rfl
@[simp] theorem unfault_scan (s : State) (c : FaultCause) : (s.unfault c).scan = s.scan := rfl
@[simp] theorem unfault_now (s : State) (c : FaultCause) : (s.unfault c).now = s.now := rfl
@[simp] theorem owe_pending (s : State) (k : OwedKind) (a b c d : Nat) : (s.owe k a b c d).pending = s.pending := rfl
@[simp] theorem owe_tick (s : State) (k : OwedKind) (a b c d : Nat) : (s.owe k a b c d).tick = s.tick := rfl
@[simp] theorem owe_objs (s : State) (k : OwedKind) (a b c d : Nat) : (s.owe k a b c d).objs = s.objs := rfl
@[simp] theorem owe_octs (s : State) (k : OwedKind) (a b c d : Nat) : (s.owe k a b c d).octs = s.octs := rfl
@[simp] theorem owe_staged (s : State) (k : OwedKind) (a b c d : Nat) : (s.owe k a b c d).staged = s.staged := rfl
@[simp] theorem owe_stagedOcts (s : State) (k : OwedKind) (a b c d : Nat) : (s.owe k a b c d).stagedOcts = s.stagedOcts := rfl
@[simp] theorem owe_hbm (s : State) (k : OwedKind) (a b c d : Nat) : (s.owe k a b c d).hbm = s.hbm := rfl
@[simp] theorem owe_dev (s : State) (k : OwedKind) (a b c d : Nat) : (s.owe k a b c d).dev = s.dev := rfl
@[simp] theorem owe_funcs (s : State) (k : OwedKind) (a b c d : Nat) : (s.owe k a b c d).funcs = s.funcs := rfl
@[simp] theorem owe_lobes (s : State) (k : OwedKind) (a b c d : Nat) : (s.owe k a b c d).lobes = s.lobes := rfl
@[simp] theorem owe_time (s : State) (k : OwedKind) (a b c d : Nat) : (s.owe k a b c d).time = s.time := rfl
@[simp] theorem owe_sorus (s : State) (k : OwedKind) (a b c d : Nat) : (s.owe k a b c d).sorus = s.sorus := rfl
@[simp] theorem owe_drv (s : State) (k : OwedKind) (a b c d : Nat) : (s.owe k a b c d).drv = s.drv := rfl
@[simp] theorem owe_steady (s : State) (k : OwedKind) (a b c d : Nat) : (s.owe k a b c d).steady = s.steady := rfl
@[simp] theorem owe_therm (s : State) (k : OwedKind) (a b c d : Nat) : (s.owe k a b c d).therm = s.therm := rfl
@[simp] theorem owe_loops (s : State) (k : OwedKind) (a b c d : Nat) : (s.owe k a b c d).loops = s.loops := rfl
@[simp] theorem owe_mon (s : State) (k : OwedKind) (a b c d : Nat) : (s.owe k a b c d).mon = s.mon := rfl
@[simp] theorem owe_cal (s : State) (k : OwedKind) (a b c d : Nat) : (s.owe k a b c d).cal = s.cal := rfl
@[simp] theorem owe_fab (s : State) (k : OwedKind) (a b c d : Nat) : (s.owe k a b c d).fab = s.fab := rfl
@[simp] theorem owe_lib (s : State) (k : OwedKind) (a b c d : Nat) : (s.owe k a b c d).lib = s.lib := rfl
@[simp] theorem owe_com (s : State) (k : OwedKind) (a b c d : Nat) : (s.owe k a b c d).com = s.com := rfl
@[simp] theorem owe_net (s : State) (k : OwedKind) (a b c d : Nat) : (s.owe k a b c d).net = s.net := rfl
@[simp] theorem owe_mat (s : State) (k : OwedKind) (a b c d : Nat) : (s.owe k a b c d).mat = s.mat := rfl
@[simp] theorem owe_active (s : State) (k : OwedKind) (a b c d : Nat) : (s.owe k a b c d).active = s.active := rfl
@[simp] theorem owe_recovery (s : State) (k : OwedKind) (a b c d : Nat) : (s.owe k a b c d).recovery = s.recovery := rfl
@[simp] theorem owe_scan (s : State) (k : OwedKind) (a b c d : Nat) : (s.owe k a b c d).scan = s.scan := rfl
@[simp] theorem owe_ticking (s : State) (k : OwedKind) (a b c d : Nat) : (s.owe k a b c d).ticking = s.ticking := rfl
@[simp] theorem owe_now (s : State) (k : OwedKind) (a b c d : Nat) : (s.owe k a b c d).now = s.now := rfl
@[simp] theorem showSteady_pending (s : State) : (showSteady s).pending = s.pending := rfl
@[simp] theorem showSteady_tick (s : State) : (showSteady s).tick = s.tick := rfl
@[simp] theorem showSteady_octs (s : State) : (showSteady s).octs = s.octs := rfl
@[simp] theorem showSteady_staged (s : State) : (showSteady s).staged = s.staged := rfl
@[simp] theorem showSteady_stagedOcts (s : State) : (showSteady s).stagedOcts = s.stagedOcts := rfl
@[simp] theorem showSteady_hbm (s : State) : (showSteady s).hbm = s.hbm := rfl
@[simp] theorem showSteady_dev (s : State) : (showSteady s).dev = s.dev := rfl
@[simp] theorem showSteady_ex (s : State) : (showSteady s).ex = s.ex := rfl
@[simp] theorem showSteady_funcs (s : State) : (showSteady s).funcs = s.funcs := rfl
@[simp] theorem showSteady_lobes (s : State) : (showSteady s).lobes = s.lobes := rfl
@[simp] theorem showSteady_time (s : State) : (showSteady s).time = s.time := rfl
@[simp] theorem showSteady_sorus (s : State) : (showSteady s).sorus = s.sorus := rfl
@[simp] theorem showSteady_drv (s : State) : (showSteady s).drv = s.drv := rfl
@[simp] theorem showSteady_steady (s : State) : (showSteady s).steady = s.steady := rfl
@[simp] theorem showSteady_therm (s : State) : (showSteady s).therm = s.therm := rfl
@[simp] theorem showSteady_loops (s : State) : (showSteady s).loops = s.loops := rfl
@[simp] theorem showSteady_mon (s : State) : (showSteady s).mon = s.mon := rfl
@[simp] theorem showSteady_cal (s : State) : (showSteady s).cal = s.cal := rfl
@[simp] theorem showSteady_fab (s : State) : (showSteady s).fab = s.fab := rfl
@[simp] theorem showSteady_lib (s : State) : (showSteady s).lib = s.lib := rfl
@[simp] theorem showSteady_com (s : State) : (showSteady s).com = s.com := rfl
@[simp] theorem showSteady_net (s : State) : (showSteady s).net = s.net := rfl
@[simp] theorem showSteady_mat (s : State) : (showSteady s).mat = s.mat := rfl
@[simp] theorem showSteady_active (s : State) : (showSteady s).active = s.active := rfl
@[simp] theorem showSteady_recovery (s : State) : (showSteady s).recovery = s.recovery := rfl
@[simp] theorem showSteady_scan (s : State) : (showSteady s).scan = s.scan := rfl
@[simp] theorem showSteady_ticking (s : State) : (showSteady s).ticking = s.ticking := rfl
@[simp] theorem showSteady_now (s : State) : (showSteady s).now = s.now := rfl

/-! ### The end of a command -/

@[simp] theorem sealed_tick (s t : State) : (sealed s t).tick = t.tick := rfl
@[simp] theorem sealed_objs (s t : State) : (sealed s t).objs = t.objs := rfl
@[simp] theorem sealed_octs (s t : State) : (sealed s t).octs = t.octs := rfl
@[simp] theorem sealed_staged (s t : State) : (sealed s t).staged = t.staged := rfl
@[simp] theorem sealed_stagedOcts (s t : State) : (sealed s t).stagedOcts = t.stagedOcts := rfl
@[simp] theorem sealed_hbm (s t : State) : (sealed s t).hbm = t.hbm := rfl
@[simp] theorem sealed_dev (s t : State) : (sealed s t).dev = t.dev := rfl
@[simp] theorem sealed_funcs (s t : State) : (sealed s t).funcs = t.funcs := rfl
@[simp] theorem sealed_lobes (s t : State) : (sealed s t).lobes = t.lobes := rfl
@[simp] theorem sealed_time (s t : State) : (sealed s t).time = t.time := rfl
@[simp] theorem sealed_sorus (s t : State) : (sealed s t).sorus = t.sorus := rfl
@[simp] theorem sealed_drv (s t : State) : (sealed s t).drv = t.drv := rfl
@[simp] theorem sealed_steady (s t : State) : (sealed s t).steady = t.steady := rfl
@[simp] theorem sealed_therm (s t : State) : (sealed s t).therm = t.therm := rfl
@[simp] theorem sealed_loops (s t : State) : (sealed s t).loops = t.loops := rfl
@[simp] theorem sealed_mon (s t : State) : (sealed s t).mon = t.mon := rfl
@[simp] theorem sealed_cal (s t : State) : (sealed s t).cal = t.cal := rfl
@[simp] theorem sealed_fab (s t : State) : (sealed s t).fab = t.fab := rfl
@[simp] theorem sealed_lib (s t : State) : (sealed s t).lib = t.lib := rfl
@[simp] theorem sealed_com (s t : State) : (sealed s t).com = t.com := rfl
@[simp] theorem sealed_net (s t : State) : (sealed s t).net = t.net := rfl
@[simp] theorem sealed_mat (s t : State) : (sealed s t).mat = t.mat := rfl
@[simp] theorem sealed_active (s t : State) : (sealed s t).active = t.active := rfl
@[simp] theorem sealed_recovery (s t : State) : (sealed s t).recovery = t.recovery := rfl
@[simp] theorem sealed_scan (s t : State) : (sealed s t).scan = t.scan := rfl
@[simp] theorem sealed_ticking (s t : State) : (sealed s t).ticking = t.ticking := rfl
@[simp] theorem sealed_now (s t : State) : (sealed s t).now = t.now := rfl
@[simp] theorem sealed_pending (s t : State) : (sealed s t).pending = s.pending := rfl

end Sys2Proof.Laws
end

