-- ==== Sys2Proof/Laws/Events.lean ====
section
/-!
SUPPORT. What raising an event can do: it changes the event side of the Exvan engine, the rings and capture notes, and the ring
objects; nothing else.
-/

namespace Sys2Proof.Laws

open Sys2Proof Sys2Proof.Machine

/-- The second state differs from the first at most in what events touch. -/
def EventsOnly (s t : State) : Prop :=
  ∃ x so ob, t = { s with ex := x, sorus := so, objs := ob }

theorem EventsOnly.refl (s : State) : EventsOnly s s := ⟨s.ex, s.sorus, s.objs, rfl⟩

theorem EventsOnly.trans {s t u : State} (h : EventsOnly s t) (k : EventsOnly t u) : EventsOnly s u := by
  obtain ⟨x, so, ob, rfl⟩ := h
  obtain ⟨y, so', ob', rfl⟩ := k
  exact ⟨y, so', ob', rfl⟩

theorem EventsOnly.foldl {β : Type} (f : State → β → State) (hf : ∀ s b, EventsOnly s (f s b)) (l : List β) (s : State) :
    EventsOnly s (l.foldl f s) := by
  induction l generalizing s with
  | nil => exact .refl s
  | cons b t ih => exact (hf s b).trans (ih _)

theorem EventsOnly.foldl_fst {β γ : Type} (f : State × γ → β → State × γ) (hf : ∀ p b, EventsOnly p.1 (f p b).1)
    (l : List β) (p : State × γ) : EventsOnly p.1 (l.foldl f p).1 := by
  induction l generalizing p with
  | nil => exact .refl p.1
  | cons b t ih => exact (hf p b).trans (ih _)

theorem ringPut_events (s : State) (r kind flags : Nat) (time : Int) (body : List Byte) :
    EventsOnly s (ringPut s r kind flags time body).1 := by
  unfold ringPut
  extract_lets g cap gapNeed need fits
  split
  · exact .refl s
  · split
    · exact ⟨s.ex, _, s.objs, rfl⟩
    · split
      · exact ⟨s.ex, _, _, rfl⟩
      · exact ⟨s.ex, _, s.objs, rfl⟩

theorem ringEvent_events (e : EvRec) (p : State × List (Nat × List EvItem)) (r : Nat) : EventsOnly p.1 (ringEvent e p r).1 := by
  unfold ringEvent
  split
  · exact ringPut_events _ _ _ _ _ _
  · exact .refl _

theorem noteEvent_events (s : State) (e : EvRec) : EventsOnly s (noteEvent s e) := by
  unfold noteEvent State.capNote
  exact ⟨_, _, _, rfl⟩

theorem logEvent_events (s : State) (code lobe : Nat) (d : Bool) (t : Int) (data : List EvItem) :
    EventsOnly s (logEvent s code lobe d t data).1 := by
  unfold logEvent
  extract_lets e due
  have h := EventsOnly.foldl_fst (ringEvent e) (ringEvent_events e) (List.range 16) (noteEvent s e, due)
  exact (noteEvent_events s e).trans h

theorem logFollow_events (time : Int) (n : Nat) (l : List (Nat × List EvItem)) (s : State) :
    EventsOnly s (logFollow time n l s) := by
  induction n generalizing l s with
  | zero => cases l <;> exact .refl s
  | succ n ih =>
    cases l with
    | nil => exact .refl s
    | cons m t => exact (logEvent_events s m.1 0xFF false time m.2).trans (ih _ _)

theorem logAll_events (s : State) (code lobe : Nat) (d : Bool) (t : Int) (data : List EvItem) :
    EventsOnly s (logAll s code lobe d t data) :=
  (logEvent_events s code lobe d t data).trans (logFollow_events t 64 _ _)

theorem raise_events (s : State) (code lobe : Nat) (data : List EvItem) : EventsOnly s (raise s code lobe data) := by
  unfold raise
  split
  · exact logAll_events s code lobe false _ data
  · exact ⟨_, s.sorus, s.objs, rfl⟩

theorem noteGroupSeq_events (s : State) : EventsOnly s (noteGroupSeq s) := by
  have hi : ∀ (p : Prop) [Decidable p] (t : State) (c : Nat) (d : List EvItem),
      EventsOnly s t → EventsOnly s (if p then raiseA t c d else t) := fun p _ t c d ht => by
    split
    · exact ht.trans (raise_events _ _ _ _)
    · exact ht
  unfold noteGroupSeq
  extract_lets n low x t u
  have ht : EventsOnly s t := ⟨_, s.sorus, s.objs, rfl⟩
  have hu : EventsOnly s u := hi _ _ _ _ ht
  split
  · exact hu.trans (.trans ⟨_, u.sorus, u.objs, rfl⟩ (raise_events _ _ _ _))
  · exact hu

theorem takeGroupSeq_events (s : State) : EventsOnly s (takeGroupSeq s) :=
  .trans ⟨_, s.sorus, s.objs, rfl⟩ (noteGroupSeq_events _)

theorem sendTo_events (s : State) (source : Nat) (o : Option Origin) (p : List Byte) : EventsOnly s (sendTo s source o p) := by
  unfold sendTo
  split
  · exact .refl s
  · split
    · exact ⟨_, s.sorus, s.objs, rfl⟩
    · exact ⟨_, s.sorus, s.objs, rfl⟩

theorem sendAnswer_events (s : State) (source : Nat) (a : Answer) : EventsOnly s (sendAnswer s source a) :=
  .trans ⟨_, s.sorus, s.objs, rfl⟩ (sendTo_events _ _ _ _)

theorem groupAnswer_events (s : State) (a : Answer) : EventsOnly s (groupAnswer s a) := by
  unfold groupAnswer
  split
  · exact (sendAnswer_events _ _ _).trans (takeGroupSeq_events _)
  · split
    · exact ⟨_, s.sorus, s.objs, rfl⟩
    · exact .refl s

theorem answerFrom_events (k : Nat) (c : Bool) (s : State) (sess req a l : Nat) (r : Reply) :
    EventsOnly s (answerFrom k c s sess req a l r) := by
  unfold answerFrom
  split
  · exact (sendAnswer_events _ _ _).trans ⟨_, _, _, rfl⟩
  · split
    · exact groupAnswer_events _ _
    · exact .refl s

theorem answer_events (s : State) (sess req a k : Nat) (r : Reply) : EventsOnly s (answer s sess req a k r) :=
  answerFrom_events 3 _ s sess req a k r


/-! ### What an event leaves alone -/

@[simp] theorem raise_pending (s : State) (c l : Nat) (d : List EvItem) : (raise s c l d).pending = s.pending := by
  obtain ⟨_, _, _, h⟩ := raise_events s c l d; rw [h]
@[simp] theorem raise_tick (s : State) (c l : Nat) (d : List EvItem) : (raise s c l d).tick = s.tick := by
  obtain ⟨_, _, _, h⟩ := raise_events s c l d; rw [h]
@[simp] theorem raise_octs (s : State) (c l : Nat) (d : List EvItem) : (raise s c l d).octs = s.octs := by
  obtain ⟨_, _, _, h⟩ := raise_events s c l d; rw [h]
@[simp] theorem raise_staged (s : State) (c l : Nat) (d : List EvItem) : (raise s c l d).staged = s.staged := by
  obtain ⟨_, _, _, h⟩ := raise_events s c l d; rw [h]
@[simp] theorem raise_stagedOcts (s : State) (c l : Nat) (d : List EvItem) : (raise s c l d).stagedOcts = s.stagedOcts := by
  obtain ⟨_, _, _, h⟩ := raise_events s c l d; rw [h]
@[simp] theorem raise_hbm (s : State) (c l : Nat) (d : List EvItem) : (raise s c l d).hbm = s.hbm := by
  obtain ⟨_, _, _, h⟩ := raise_events s c l d; rw [h]
@[simp] theorem raise_dev (s : State) (c l : Nat) (d : List EvItem) : (raise s c l d).dev = s.dev := by
  obtain ⟨_, _, _, h⟩ := raise_events s c l d; rw [h]
@[simp] theorem raise_funcs (s : State) (c l : Nat) (d : List EvItem) : (raise s c l d).funcs = s.funcs := by
  obtain ⟨_, _, _, h⟩ := raise_events s c l d; rw [h]
@[simp] theorem raise_lobes (s : State) (c l : Nat) (d : List EvItem) : (raise s c l d).lobes = s.lobes := by
  obtain ⟨_, _, _, h⟩ := raise_events s c l d; rw [h]
@[simp] theorem raise_time (s : State) (c l : Nat) (d : List EvItem) : (raise s c l d).time = s.time := by
  obtain ⟨_, _, _, h⟩ := raise_events s c l d; rw [h]
@[simp] theorem raise_drv (s : State) (c l : Nat) (d : List EvItem) : (raise s c l d).drv = s.drv := by
  obtain ⟨_, _, _, h⟩ := raise_events s c l d; rw [h]
@[simp] theorem raise_steady (s : State) (c l : Nat) (d : List EvItem) : (raise s c l d).steady = s.steady := by
  obtain ⟨_, _, _, h⟩ := raise_events s c l d; rw [h]
@[simp] theorem raise_therm (s : State) (c l : Nat) (d : List EvItem) : (raise s c l d).therm = s.therm := by
  obtain ⟨_, _, _, h⟩ := raise_events s c l d; rw [h]
@[simp] theorem raise_loops (s : State) (c l : Nat) (d : List EvItem) : (raise s c l d).loops = s.loops := by
  obtain ⟨_, _, _, h⟩ := raise_events s c l d; rw [h]
@[simp] theorem raise_mon (s : State) (c l : Nat) (d : List EvItem) : (raise s c l d).mon = s.mon := by
  obtain ⟨_, _, _, h⟩ := raise_events s c l d; rw [h]
@[simp] theorem raise_cal (s : State) (c l : Nat) (d : List EvItem) : (raise s c l d).cal = s.cal := by
  obtain ⟨_, _, _, h⟩ := raise_events s c l d; rw [h]
@[simp] theorem raise_fab (s : State) (c l : Nat) (d : List EvItem) : (raise s c l d).fab = s.fab := by
  obtain ⟨_, _, _, h⟩ := raise_events s c l d; rw [h]
@[simp] theorem raise_lib (s : State) (c l : Nat) (d : List EvItem) : (raise s c l d).lib = s.lib := by
  obtain ⟨_, _, _, h⟩ := raise_events s c l d; rw [h]
@[simp] theorem raise_com (s : State) (c l : Nat) (d : List EvItem) : (raise s c l d).com = s.com := by
  obtain ⟨_, _, _, h⟩ := raise_events s c l d; rw [h]
@[simp] theorem raise_net (s : State) (c l : Nat) (d : List EvItem) : (raise s c l d).net = s.net := by
  obtain ⟨_, _, _, h⟩ := raise_events s c l d; rw [h]
@[simp] theorem raise_mat (s : State) (c l : Nat) (d : List EvItem) : (raise s c l d).mat = s.mat := by
  obtain ⟨_, _, _, h⟩ := raise_events s c l d; rw [h]
@[simp] theorem raise_active (s : State) (c l : Nat) (d : List EvItem) : (raise s c l d).active = s.active := by
  obtain ⟨_, _, _, h⟩ := raise_events s c l d; rw [h]; rfl
@[simp] theorem raise_recovery (s : State) (c l : Nat) (d : List EvItem) : (raise s c l d).recovery = s.recovery := by
  obtain ⟨_, _, _, h⟩ := raise_events s c l d; rw [h]; rfl
@[simp] theorem raise_scan (s : State) (c l : Nat) (d : List EvItem) : (raise s c l d).scan = s.scan := by
  obtain ⟨_, _, _, h⟩ := raise_events s c l d; rw [h]; rfl
@[simp] theorem raise_ticking (s : State) (c l : Nat) (d : List EvItem) : (raise s c l d).ticking = s.ticking := by
  obtain ⟨_, _, _, h⟩ := raise_events s c l d; rw [h]; rfl
@[simp] theorem raise_now (s : State) (c l : Nat) (d : List EvItem) : (raise s c l d).now = s.now := by
  obtain ⟨_, _, _, h⟩ := raise_events s c l d; rw [h]; rfl
@[simp] theorem raiseA_pending (s : State) (c : Nat) (d : List EvItem) : (raiseA s c d).pending = s.pending := raise_pending s c s.evLobe d
@[simp] theorem raiseA_tick (s : State) (c : Nat) (d : List EvItem) : (raiseA s c d).tick = s.tick := raise_tick s c s.evLobe d
@[simp] theorem raiseA_octs (s : State) (c : Nat) (d : List EvItem) : (raiseA s c d).octs = s.octs := raise_octs s c s.evLobe d
@[simp] theorem raiseA_staged (s : State) (c : Nat) (d : List EvItem) : (raiseA s c d).staged = s.staged := raise_staged s c s.evLobe d
@[simp] theorem raiseA_stagedOcts (s : State) (c : Nat) (d : List EvItem) : (raiseA s c d).stagedOcts = s.stagedOcts := raise_stagedOcts s c s.evLobe d
@[simp] theorem raiseA_hbm (s : State) (c : Nat) (d : List EvItem) : (raiseA s c d).hbm = s.hbm := raise_hbm s c s.evLobe d
@[simp] theorem raiseA_dev (s : State) (c : Nat) (d : List EvItem) : (raiseA s c d).dev = s.dev := raise_dev s c s.evLobe d
@[simp] theorem raiseA_funcs (s : State) (c : Nat) (d : List EvItem) : (raiseA s c d).funcs = s.funcs := raise_funcs s c s.evLobe d
@[simp] theorem raiseA_lobes (s : State) (c : Nat) (d : List EvItem) : (raiseA s c d).lobes = s.lobes := raise_lobes s c s.evLobe d
@[simp] theorem raiseA_time (s : State) (c : Nat) (d : List EvItem) : (raiseA s c d).time = s.time := raise_time s c s.evLobe d
@[simp] theorem raiseA_drv (s : State) (c : Nat) (d : List EvItem) : (raiseA s c d).drv = s.drv := raise_drv s c s.evLobe d
@[simp] theorem raiseA_steady (s : State) (c : Nat) (d : List EvItem) : (raiseA s c d).steady = s.steady := raise_steady s c s.evLobe d
@[simp] theorem raiseA_therm (s : State) (c : Nat) (d : List EvItem) : (raiseA s c d).therm = s.therm := raise_therm s c s.evLobe d
@[simp] theorem raiseA_loops (s : State) (c : Nat) (d : List EvItem) : (raiseA s c d).loops = s.loops := raise_loops s c s.evLobe d
@[simp] theorem raiseA_mon (s : State) (c : Nat) (d : List EvItem) : (raiseA s c d).mon = s.mon := raise_mon s c s.evLobe d
@[simp] theorem raiseA_cal (s : State) (c : Nat) (d : List EvItem) : (raiseA s c d).cal = s.cal := raise_cal s c s.evLobe d
@[simp] theorem raiseA_fab (s : State) (c : Nat) (d : List EvItem) : (raiseA s c d).fab = s.fab := raise_fab s c s.evLobe d
@[simp] theorem raiseA_lib (s : State) (c : Nat) (d : List EvItem) : (raiseA s c d).lib = s.lib := raise_lib s c s.evLobe d
@[simp] theorem raiseA_com (s : State) (c : Nat) (d : List EvItem) : (raiseA s c d).com = s.com := raise_com s c s.evLobe d
@[simp] theorem raiseA_net (s : State) (c : Nat) (d : List EvItem) : (raiseA s c d).net = s.net := raise_net s c s.evLobe d
@[simp] theorem raiseA_mat (s : State) (c : Nat) (d : List EvItem) : (raiseA s c d).mat = s.mat := raise_mat s c s.evLobe d
@[simp] theorem raiseA_active (s : State) (c : Nat) (d : List EvItem) : (raiseA s c d).active = s.active := raise_active s c s.evLobe d
@[simp] theorem raiseA_recovery (s : State) (c : Nat) (d : List EvItem) : (raiseA s c d).recovery = s.recovery := raise_recovery s c s.evLobe d
@[simp] theorem raiseA_scan (s : State) (c : Nat) (d : List EvItem) : (raiseA s c d).scan = s.scan := raise_scan s c s.evLobe d
@[simp] theorem raiseA_ticking (s : State) (c : Nat) (d : List EvItem) : (raiseA s c d).ticking = s.ticking := raise_ticking s c s.evLobe d
@[simp] theorem raiseA_now (s : State) (c : Nat) (d : List EvItem) : (raiseA s c d).now = s.now := raise_now s c s.evLobe d
@[simp] theorem raiseS_pending (s : State) (c : Nat) (d : List EvItem) : (raiseS s c d).pending = s.pending := raise_pending s c 0xFF d
@[simp] theorem raiseS_tick (s : State) (c : Nat) (d : List EvItem) : (raiseS s c d).tick = s.tick := raise_tick s c 0xFF d
@[simp] theorem raiseS_octs (s : State) (c : Nat) (d : List EvItem) : (raiseS s c d).octs = s.octs := raise_octs s c 0xFF d
@[simp] theorem raiseS_staged (s : State) (c : Nat) (d : List EvItem) : (raiseS s c d).staged = s.staged := raise_staged s c 0xFF d
@[simp] theorem raiseS_stagedOcts (s : State) (c : Nat) (d : List EvItem) : (raiseS s c d).stagedOcts = s.stagedOcts := raise_stagedOcts s c 0xFF d
@[simp] theorem raiseS_hbm (s : State) (c : Nat) (d : List EvItem) : (raiseS s c d).hbm = s.hbm := raise_hbm s c 0xFF d
@[simp] theorem raiseS_dev (s : State) (c : Nat) (d : List EvItem) : (raiseS s c d).dev = s.dev := raise_dev s c 0xFF d
@[simp] theorem raiseS_funcs (s : State) (c : Nat) (d : List EvItem) : (raiseS s c d).funcs = s.funcs := raise_funcs s c 0xFF d
@[simp] theorem raiseS_lobes (s : State) (c : Nat) (d : List EvItem) : (raiseS s c d).lobes = s.lobes := raise_lobes s c 0xFF d
@[simp] theorem raiseS_time (s : State) (c : Nat) (d : List EvItem) : (raiseS s c d).time = s.time := raise_time s c 0xFF d
@[simp] theorem raiseS_drv (s : State) (c : Nat) (d : List EvItem) : (raiseS s c d).drv = s.drv := raise_drv s c 0xFF d
@[simp] theorem raiseS_steady (s : State) (c : Nat) (d : List EvItem) : (raiseS s c d).steady = s.steady := raise_steady s c 0xFF d
@[simp] theorem raiseS_therm (s : State) (c : Nat) (d : List EvItem) : (raiseS s c d).therm = s.therm := raise_therm s c 0xFF d
@[simp] theorem raiseS_loops (s : State) (c : Nat) (d : List EvItem) : (raiseS s c d).loops = s.loops := raise_loops s c 0xFF d
@[simp] theorem raiseS_mon (s : State) (c : Nat) (d : List EvItem) : (raiseS s c d).mon = s.mon := raise_mon s c 0xFF d
@[simp] theorem raiseS_cal (s : State) (c : Nat) (d : List EvItem) : (raiseS s c d).cal = s.cal := raise_cal s c 0xFF d
@[simp] theorem raiseS_fab (s : State) (c : Nat) (d : List EvItem) : (raiseS s c d).fab = s.fab := raise_fab s c 0xFF d
@[simp] theorem raiseS_lib (s : State) (c : Nat) (d : List EvItem) : (raiseS s c d).lib = s.lib := raise_lib s c 0xFF d
@[simp] theorem raiseS_com (s : State) (c : Nat) (d : List EvItem) : (raiseS s c d).com = s.com := raise_com s c 0xFF d
@[simp] theorem raiseS_net (s : State) (c : Nat) (d : List EvItem) : (raiseS s c d).net = s.net := raise_net s c 0xFF d
@[simp] theorem raiseS_mat (s : State) (c : Nat) (d : List EvItem) : (raiseS s c d).mat = s.mat := raise_mat s c 0xFF d
@[simp] theorem raiseS_active (s : State) (c : Nat) (d : List EvItem) : (raiseS s c d).active = s.active := raise_active s c 0xFF d
@[simp] theorem raiseS_recovery (s : State) (c : Nat) (d : List EvItem) : (raiseS s c d).recovery = s.recovery := raise_recovery s c 0xFF d
@[simp] theorem raiseS_scan (s : State) (c : Nat) (d : List EvItem) : (raiseS s c d).scan = s.scan := raise_scan s c 0xFF d
@[simp] theorem raiseS_ticking (s : State) (c : Nat) (d : List EvItem) : (raiseS s c d).ticking = s.ticking := raise_ticking s c 0xFF d
@[simp] theorem raiseS_now (s : State) (c : Nat) (d : List EvItem) : (raiseS s c d).now = s.now := raise_now s c 0xFF d

/-! ### What an answer leaves alone -/

@[simp] theorem answer_pending (s : State) (n r a k : Nat) (p : Reply) : (answer s n r a k p).pending = s.pending := by
  obtain ⟨_, _, _, h⟩ := answer_events s n r a k p; rw [h]
@[simp] theorem answer_tick (s : State) (n r a k : Nat) (p : Reply) : (answer s n r a k p).tick = s.tick := by
  obtain ⟨_, _, _, h⟩ := answer_events s n r a k p; rw [h]
@[simp] theorem answer_octs (s : State) (n r a k : Nat) (p : Reply) : (answer s n r a k p).octs = s.octs := by
  obtain ⟨_, _, _, h⟩ := answer_events s n r a k p; rw [h]
@[simp] theorem answer_staged (s : State) (n r a k : Nat) (p : Reply) : (answer s n r a k p).staged = s.staged := by
  obtain ⟨_, _, _, h⟩ := answer_events s n r a k p; rw [h]
@[simp] theorem answer_stagedOcts (s : State) (n r a k : Nat) (p : Reply) : (answer s n r a k p).stagedOcts = s.stagedOcts := by
  obtain ⟨_, _, _, h⟩ := answer_events s n r a k p; rw [h]
@[simp] theorem answer_hbm (s : State) (n r a k : Nat) (p : Reply) : (answer s n r a k p).hbm = s.hbm := by
  obtain ⟨_, _, _, h⟩ := answer_events s n r a k p; rw [h]
@[simp] theorem answer_dev (s : State) (n r a k : Nat) (p : Reply) : (answer s n r a k p).dev = s.dev := by
  obtain ⟨_, _, _, h⟩ := answer_events s n r a k p; rw [h]
@[simp] theorem answer_funcs (s : State) (n r a k : Nat) (p : Reply) : (answer s n r a k p).funcs = s.funcs := by
  obtain ⟨_, _, _, h⟩ := answer_events s n r a k p; rw [h]
@[simp] theorem answer_lobes (s : State) (n r a k : Nat) (p : Reply) : (answer s n r a k p).lobes = s.lobes := by
  obtain ⟨_, _, _, h⟩ := answer_events s n r a k p; rw [h]
@[simp] theorem answer_time (s : State) (n r a k : Nat) (p : Reply) : (answer s n r a k p).time = s.time := by
  obtain ⟨_, _, _, h⟩ := answer_events s n r a k p; rw [h]
@[simp] theorem answer_drv (s : State) (n r a k : Nat) (p : Reply) : (answer s n r a k p).drv = s.drv := by
  obtain ⟨_, _, _, h⟩ := answer_events s n r a k p; rw [h]
@[simp] theorem answer_steady (s : State) (n r a k : Nat) (p : Reply) : (answer s n r a k p).steady = s.steady := by
  obtain ⟨_, _, _, h⟩ := answer_events s n r a k p; rw [h]
@[simp] theorem answer_therm (s : State) (n r a k : Nat) (p : Reply) : (answer s n r a k p).therm = s.therm := by
  obtain ⟨_, _, _, h⟩ := answer_events s n r a k p; rw [h]
@[simp] theorem answer_loops (s : State) (n r a k : Nat) (p : Reply) : (answer s n r a k p).loops = s.loops := by
  obtain ⟨_, _, _, h⟩ := answer_events s n r a k p; rw [h]
@[simp] theorem answer_mon (s : State) (n r a k : Nat) (p : Reply) : (answer s n r a k p).mon = s.mon := by
  obtain ⟨_, _, _, h⟩ := answer_events s n r a k p; rw [h]
@[simp] theorem answer_cal (s : State) (n r a k : Nat) (p : Reply) : (answer s n r a k p).cal = s.cal := by
  obtain ⟨_, _, _, h⟩ := answer_events s n r a k p; rw [h]
@[simp] theorem answer_fab (s : State) (n r a k : Nat) (p : Reply) : (answer s n r a k p).fab = s.fab := by
  obtain ⟨_, _, _, h⟩ := answer_events s n r a k p; rw [h]
@[simp] theorem answer_lib (s : State) (n r a k : Nat) (p : Reply) : (answer s n r a k p).lib = s.lib := by
  obtain ⟨_, _, _, h⟩ := answer_events s n r a k p; rw [h]
@[simp] theorem answer_com (s : State) (n r a k : Nat) (p : Reply) : (answer s n r a k p).com = s.com := by
  obtain ⟨_, _, _, h⟩ := answer_events s n r a k p; rw [h]
@[simp] theorem answer_net (s : State) (n r a k : Nat) (p : Reply) : (answer s n r a k p).net = s.net := by
  obtain ⟨_, _, _, h⟩ := answer_events s n r a k p; rw [h]
@[simp] theorem answer_mat (s : State) (n r a k : Nat) (p : Reply) : (answer s n r a k p).mat = s.mat := by
  obtain ⟨_, _, _, h⟩ := answer_events s n r a k p; rw [h]
@[simp] theorem answer_active (s : State) (n r a k : Nat) (p : Reply) : (answer s n r a k p).active = s.active := by
  obtain ⟨_, _, _, h⟩ := answer_events s n r a k p; rw [h]; rfl
@[simp] theorem answer_recovery (s : State) (n r a k : Nat) (p : Reply) : (answer s n r a k p).recovery = s.recovery := by
  obtain ⟨_, _, _, h⟩ := answer_events s n r a k p; rw [h]; rfl
@[simp] theorem answer_scan (s : State) (n r a k : Nat) (p : Reply) : (answer s n r a k p).scan = s.scan := by
  obtain ⟨_, _, _, h⟩ := answer_events s n r a k p; rw [h]; rfl
@[simp] theorem answer_ticking (s : State) (n r a k : Nat) (p : Reply) : (answer s n r a k p).ticking = s.ticking := by
  obtain ⟨_, _, _, h⟩ := answer_events s n r a k p; rw [h]; rfl
@[simp] theorem answer_now (s : State) (n r a k : Nat) (p : Reply) : (answer s n r a k p).now = s.now := by
  obtain ⟨_, _, _, h⟩ := answer_events s n r a k p; rw [h]; rfl

end Sys2Proof.Laws
end

