-- ==== Sys2Proof/Laws/Frame.lean ====
section
/-!
SUPPORT. How the relation Frame is built up and used: by an operation's own frame, and by what a record update names.
-/

namespace Sys2Proof.Machine

open Sys2Proof

variable {m n : List Comp} {s t u : State}

theorem State.logged_refl (s : State) : s.logged s := fun h => ⟨[], by simpa using (List.take_of_length_le h).symm⟩

theorem State.logged_trans (h : s.logged t) (k : t.logged u) : s.logged u := fun hs => by
  obtain ⟨a, ha⟩ := h hs
  obtain ⟨b, hb⟩ := k (by rw [ha, List.length_take]; omega)
  refine ⟨b ++ a, ?_⟩
  rw [hb, ha, List.append_assoc, List.take_append, List.take_append (l₁ := b), List.take_take]
  congr 2
  omega

/-- The same log. -/
theorem State.logged_upd (h : s.logged t) (e : u.ex.log = t.ex.log) : s.logged u := fun hs => by rw [e]; exact h hs

/-- The log cut at its newest records. -/
theorem State.logged_cut (h : s.logged t) (e : u.ex.log = t.ex.log.take 4096) : s.logged u := fun hs => by
  obtain ⟨a, ha⟩ := h hs
  exact ⟨a, by rw [e, ha, List.take_take, Nat.min_self]⟩

theorem Frame.refl (s : State) : Frame m s s := fun c => .inr (by cases c <;> first | rfl | exact State.logged_refl s)

theorem Frame.trans (h : Frame m s t) (k : Frame m t u) : Frame m s u := by
  intro c
  rcases h c with h | h
  · exact .inl h
  · rcases k c with k | k
    · exact .inl k
    · exact .inr (by cases c <;> first | exact k.trans h | exact State.logged_trans h k)

def sub (n m : List Comp) : Bool := n.all fun c => m.contains c

theorem Frame.mono (h : Frame n s t) (hs : sub n m = true) : Frame m s t := by
  intro c
  rcases h c with h | h
  · exact .inl (by simpa using List.all_eq_true.mp hs c h)
  · exact .inr h

/-- Through one more operation whose own frame is known. -/
theorem Frame.step (k : Frame n t u) (hs : sub n m = true) (h : Frame m s t) : Frame m s u := h.trans (k.mono hs)

theorem Frame.ite {p : Prop} [Decidable p] (h : Frame m s t) (k : Frame m s u) : Frame m s (if p then t else u) := by
  split <;> assumption

theorem Frame.foldl {β : Type} {f : State → β → State} {l : List β} (hf : ∀ s b, Frame m s (f s b)) (h : Frame m s t) :
    Frame m s (l.foldl f t) := by
  induction l generalizing t with
  | nil => exact h
  | cons b l ih => exact ih (h.trans (hf t b))

/-- The same of an operation that answers something beside the state. -/
def Frame1 {α : Type} (m : List Comp) (s : State) (p : State × α) : Prop := Frame m s p.1

/-- The same of an operation that answers a state second. -/
def Frame2 {α : Type} (m : List Comp) (s : State) (p : α × State) : Prop := Frame m s p.2

theorem Frame2.ite {α : Type} {p : Prop} [Decidable p] {t u : α × State} (h : Frame2 m s t) (k : Frame2 m s u) :
    Frame2 m s (if p then t else u) := by
  split <;> assumption

theorem Frame1.step {α : Type} {p : State × α} (k : Frame1 n t p) (hs : sub n m = true) (h : Frame m s t) : Frame1 m s p :=
  Frame.step k hs h

theorem Frame2.step {α : Type} {p : α × State} (k : Frame2 n t p) (hs : sub n m = true) (h : Frame m s t) : Frame2 m s p :=
  Frame.step k hs h

theorem Frame1.ite {α : Type} {p : Prop} [Decidable p] {t u : State × α} (h : Frame1 m s t) (k : Frame1 m s u) :
    Frame1 m s (if p then t else u) := by
  split <;> assumption

theorem Frame1.pair {α : Type} {a : α} (h : Frame m s t) : Frame1 m s (t, a) := h

theorem Frame2.pair {α : Type} {a : α} (h : Frame m s t) : Frame2 m s (a, t) := h

theorem Frame.of1 {α : Type} {p : State × α} (h : Frame1 m s p) : Frame m s p.1 := h

theorem Frame.of2 {α : Type} {p : α × State} (h : Frame2 m s p) : Frame m s p.2 := h

theorem Frame.step1 {α : Type} {p : State × α} (k : Frame1 n t p) (hs : sub n m = true) (h : Frame m s t) : Frame m s p.1 :=
  Frame.step k hs h

theorem Frame.step2 {α : Type} {p : α × State} (k : Frame2 n t p) (hs : sub n m = true) (h : Frame m s t) : Frame m s p.2 :=
  Frame.step k hs h

theorem Frame1.foldl {β γ : Type} {f : State × γ → β → State × γ} {l : List β} {p : State × γ}
    (hf : ∀ p b, Frame1 m p.1 (f p b)) (h : Frame1 m s p) : Frame1 m s (l.foldl f p) := by
  induction l generalizing p with
  | nil => exact h
  | cons b l ih => exact ih (Frame.trans h (hf p b))

theorem Frame.fold1 {β γ : Type} {f : State × γ → β → State × γ} {l : List β} {p : State × γ}
    (hf : ∀ p b, Frame1 m p.1 (f p b)) (h : Frame1 m s p) : Frame m s (l.foldl f p).1 := Frame1.foldl hf h

/-- Through a pair taken apart. -/
theorem Frame.fst {α : Type} {p : State × α} {a : α} (e : p = (t, a)) (h : Frame1 m s p) : Frame m s t := by
  subst e; exact h

theorem Frame.snd {α : Type} {p : α × State} {a : α} (e : p = (a, t)) (h : Frame2 m s p) : Frame m s t := by
  subst e; exact h

theorem Frame.tick (h : Frame m s t) (hm : m.contains .tick = false) : t.tick = s.tick := by
  rcases h .tick with h | h
  · simp_all
  · exact h

theorem Frame.set_tick {v} (hm : m.contains .tick = true) (h : Frame m s t) : Frame m s { t with tick := v } := by
  intro c
  by_cases e : c = .tick
  · subst e; exact .inl (by simpa using hm)
  · rcases h c with h | h
    · exact .inl h
    · exact .inr (by cases c <;> first | exact h | exact absurd rfl e)

theorem Frame.objs (h : Frame m s t) (hm : m.contains .objs = false) : t.objs = s.objs := by
  rcases h .objs with h | h
  · simp_all
  · exact h

theorem Frame.set_objs {v} (hm : m.contains .objs = true) (h : Frame m s t) : Frame m s { t with objs := v } := by
  intro c
  by_cases e : c = .objs
  · subst e; exact .inl (by simpa using hm)
  · rcases h c with h | h
    · exact .inl h
    · exact .inr (by cases c <;> first | exact h | exact absurd rfl e)

theorem Frame.octs (h : Frame m s t) (hm : m.contains .octs = false) : t.octs = s.octs := by
  rcases h .octs with h | h
  · simp_all
  · exact h

theorem Frame.set_octs {v} (hm : m.contains .octs = true) (h : Frame m s t) : Frame m s { t with octs := v } := by
  intro c
  by_cases e : c = .octs
  · subst e; exact .inl (by simpa using hm)
  · rcases h c with h | h
    · exact .inl h
    · exact .inr (by cases c <;> first | exact h | exact absurd rfl e)

theorem Frame.staged (h : Frame m s t) (hm : m.contains .staged = false) : t.staged = s.staged := by
  rcases h .staged with h | h
  · simp_all
  · exact h

theorem Frame.set_staged {v} (hm : m.contains .staged = true) (h : Frame m s t) : Frame m s { t with staged := v } := by
  intro c
  by_cases e : c = .staged
  · subst e; exact .inl (by simpa using hm)
  · rcases h c with h | h
    · exact .inl h
    · exact .inr (by cases c <;> first | exact h | exact absurd rfl e)

theorem Frame.stagedOcts (h : Frame m s t) (hm : m.contains .stagedOcts = false) : t.stagedOcts = s.stagedOcts := by
  rcases h .stagedOcts with h | h
  · simp_all
  · exact h

theorem Frame.set_stagedOcts {v} (hm : m.contains .stagedOcts = true) (h : Frame m s t) : Frame m s { t with stagedOcts := v } := by
  intro c
  by_cases e : c = .stagedOcts
  · subst e; exact .inl (by simpa using hm)
  · rcases h c with h | h
    · exact .inl h
    · exact .inr (by cases c <;> first | exact h | exact absurd rfl e)

theorem Frame.hbm (h : Frame m s t) (hm : m.contains .hbm = false) : t.hbm = s.hbm := by
  rcases h .hbm with h | h
  · simp_all
  · exact h

theorem Frame.set_hbm {v} (hm : m.contains .hbm = true) (h : Frame m s t) : Frame m s { t with hbm := v } := by
  intro c
  by_cases e : c = .hbm
  · subst e; exact .inl (by simpa using hm)
  · rcases h c with h | h
    · exact .inl h
    · exact .inr (by cases c <;> first | exact h | exact absurd rfl e)

theorem Frame.dev (h : Frame m s t) (hm : m.contains .dev = false) : t.dev = s.dev := by
  rcases h .dev with h | h
  · simp_all
  · exact h

theorem Frame.set_dev {v} (hm : m.contains .dev = true) (h : Frame m s t) : Frame m s { t with dev := v } := by
  intro c
  by_cases e : c = .dev
  · subst e; exact .inl (by simpa using hm)
  · rcases h c with h | h
    · exact .inl h
    · exact .inr (by cases c <;> first | exact h | exact absurd rfl e)

theorem Frame.ex (h : Frame m s t) (hm : m.contains .ex = false) : t.ex = s.ex := by
  rcases h .ex with h | h
  · simp_all
  · exact h

theorem Frame.set_ex {v : Exvan} (hm : m.contains .ex = true) (h : Frame m s t) (el : v.log = t.ex.log := by rfl) : Frame m s { t with ex := v } := by
  intro c
  by_cases e : c = .ex
  · subst e; exact .inl (by simpa using hm)
  · rcases h c with h | h
    · exact .inl h
    · exact .inr (by cases c <;> first | exact h | exact State.logged_upd h el | exact absurd rfl e)

theorem Frame.funcs (h : Frame m s t) (hm : m.contains .funcs = false) : t.funcs = s.funcs := by
  rcases h .funcs with h | h
  · simp_all
  · exact h

theorem Frame.set_funcs {v} (hm : m.contains .funcs = true) (h : Frame m s t) : Frame m s { t with funcs := v } := by
  intro c
  by_cases e : c = .funcs
  · subst e; exact .inl (by simpa using hm)
  · rcases h c with h | h
    · exact .inl h
    · exact .inr (by cases c <;> first | exact h | exact absurd rfl e)

theorem Frame.lobes (h : Frame m s t) (hm : m.contains .lobes = false) : t.lobes = s.lobes := by
  rcases h .lobes with h | h
  · simp_all
  · exact h

theorem Frame.set_lobes {v} (hm : m.contains .lobes = true) (h : Frame m s t) : Frame m s { t with lobes := v } := by
  intro c
  by_cases e : c = .lobes
  · subst e; exact .inl (by simpa using hm)
  · rcases h c with h | h
    · exact .inl h
    · exact .inr (by cases c <;> first | exact h | exact absurd rfl e)

theorem Frame.time (h : Frame m s t) (hm : m.contains .time = false) : t.time = s.time := by
  rcases h .time with h | h
  · simp_all
  · exact h

theorem Frame.set_time {v} (hm : m.contains .time = true) (h : Frame m s t) : Frame m s { t with time := v } := by
  intro c
  by_cases e : c = .time
  · subst e; exact .inl (by simpa using hm)
  · rcases h c with h | h
    · exact .inl h
    · exact .inr (by cases c <;> first | exact h | exact absurd rfl e)

theorem Frame.sorus (h : Frame m s t) (hm : m.contains .sorus = false) : t.sorus = s.sorus := by
  rcases h .sorus with h | h
  · simp_all
  · exact h

theorem Frame.set_sorus {v} (hm : m.contains .sorus = true) (h : Frame m s t) : Frame m s { t with sorus := v } := by
  intro c
  by_cases e : c = .sorus
  · subst e; exact .inl (by simpa using hm)
  · rcases h c with h | h
    · exact .inl h
    · exact .inr (by cases c <;> first | exact h | exact absurd rfl e)

theorem Frame.drv (h : Frame m s t) (hm : m.contains .drv = false) : t.drv = s.drv := by
  rcases h .drv with h | h
  · simp_all
  · exact h

theorem Frame.set_drv {v} (hm : m.contains .drv = true) (h : Frame m s t) : Frame m s { t with drv := v } := by
  intro c
  by_cases e : c = .drv
  · subst e; exact .inl (by simpa using hm)
  · rcases h c with h | h
    · exact .inl h
    · exact .inr (by cases c <;> first | exact h | exact absurd rfl e)

theorem Frame.steady (h : Frame m s t) (hm : m.contains .steady = false) : t.steady = s.steady := by
  rcases h .steady with h | h
  · simp_all
  · exact h

theorem Frame.set_steady {v} (hm : m.contains .steady = true) (h : Frame m s t) : Frame m s { t with steady := v } := by
  intro c
  by_cases e : c = .steady
  · subst e; exact .inl (by simpa using hm)
  · rcases h c with h | h
    · exact .inl h
    · exact .inr (by cases c <;> first | exact h | exact absurd rfl e)

theorem Frame.therm (h : Frame m s t) (hm : m.contains .therm = false) : t.therm = s.therm := by
  rcases h .therm with h | h
  · simp_all
  · exact h

theorem Frame.set_therm {v} (hm : m.contains .therm = true) (h : Frame m s t) : Frame m s { t with therm := v } := by
  intro c
  by_cases e : c = .therm
  · subst e; exact .inl (by simpa using hm)
  · rcases h c with h | h
    · exact .inl h
    · exact .inr (by cases c <;> first | exact h | exact absurd rfl e)

theorem Frame.loops (h : Frame m s t) (hm : m.contains .loops = false) : t.loops = s.loops := by
  rcases h .loops with h | h
  · simp_all
  · exact h

theorem Frame.set_loops {v} (hm : m.contains .loops = true) (h : Frame m s t) : Frame m s { t with loops := v } := by
  intro c
  by_cases e : c = .loops
  · subst e; exact .inl (by simpa using hm)
  · rcases h c with h | h
    · exact .inl h
    · exact .inr (by cases c <;> first | exact h | exact absurd rfl e)

theorem Frame.mon (h : Frame m s t) (hm : m.contains .mon = false) : t.mon = s.mon := by
  rcases h .mon with h | h
  · simp_all
  · exact h

theorem Frame.set_mon {v} (hm : m.contains .mon = true) (h : Frame m s t) : Frame m s { t with mon := v } := by
  intro c
  by_cases e : c = .mon
  · subst e; exact .inl (by simpa using hm)
  · rcases h c with h | h
    · exact .inl h
    · exact .inr (by cases c <;> first | exact h | exact absurd rfl e)

theorem Frame.cal (h : Frame m s t) (hm : m.contains .cal = false) : t.cal = s.cal := by
  rcases h .cal with h | h
  · simp_all
  · exact h

theorem Frame.set_cal {v} (hm : m.contains .cal = true) (h : Frame m s t) : Frame m s { t with cal := v } := by
  intro c
  by_cases e : c = .cal
  · subst e; exact .inl (by simpa using hm)
  · rcases h c with h | h
    · exact .inl h
    · exact .inr (by cases c <;> first | exact h | exact absurd rfl e)

theorem Frame.fab (h : Frame m s t) (hm : m.contains .fab = false) : t.fab = s.fab := by
  rcases h .fab with h | h
  · simp_all
  · exact h

theorem Frame.set_fab {v} (hm : m.contains .fab = true) (h : Frame m s t) : Frame m s { t with fab := v } := by
  intro c
  by_cases e : c = .fab
  · subst e; exact .inl (by simpa using hm)
  · rcases h c with h | h
    · exact .inl h
    · exact .inr (by cases c <;> first | exact h | exact absurd rfl e)

theorem Frame.lib (h : Frame m s t) (hm : m.contains .lib = false) : t.lib = s.lib := by
  rcases h .lib with h | h
  · simp_all
  · exact h

theorem Frame.set_lib {v} (hm : m.contains .lib = true) (h : Frame m s t) : Frame m s { t with lib := v } := by
  intro c
  by_cases e : c = .lib
  · subst e; exact .inl (by simpa using hm)
  · rcases h c with h | h
    · exact .inl h
    · exact .inr (by cases c <;> first | exact h | exact absurd rfl e)

theorem Frame.com (h : Frame m s t) (hm : m.contains .com = false) : t.com = s.com := by
  rcases h .com with h | h
  · simp_all
  · exact h

theorem Frame.set_com {v} (hm : m.contains .com = true) (h : Frame m s t) : Frame m s { t with com := v } := by
  intro c
  by_cases e : c = .com
  · subst e; exact .inl (by simpa using hm)
  · rcases h c with h | h
    · exact .inl h
    · exact .inr (by cases c <;> first | exact h | exact absurd rfl e)

theorem Frame.net (h : Frame m s t) (hm : m.contains .net = false) : t.net = s.net := by
  rcases h .net with h | h
  · simp_all
  · exact h

theorem Frame.set_net {v} (hm : m.contains .net = true) (h : Frame m s t) : Frame m s { t with net := v } := by
  intro c
  by_cases e : c = .net
  · subst e; exact .inl (by simpa using hm)
  · rcases h c with h | h
    · exact .inl h
    · exact .inr (by cases c <;> first | exact h | exact absurd rfl e)

theorem Frame.mat (h : Frame m s t) (hm : m.contains .mat = false) : t.mat = s.mat := by
  rcases h .mat with h | h
  · simp_all
  · exact h

theorem Frame.set_mat {v} (hm : m.contains .mat = true) (h : Frame m s t) : Frame m s { t with mat := v } := by
  intro c
  by_cases e : c = .mat
  · subst e; exact .inl (by simpa using hm)
  · rcases h c with h | h
    · exact .inl h
    · exact .inr (by cases c <;> first | exact h | exact absurd rfl e)

theorem Frame.set_pending {v} (h : Frame m s t) : Frame m s { t with pending := v } := by
  intro c
  rcases h c with h | h
  · exact .inl h
  · exact .inr (by cases c <;> exact h)

theorem Frame.set_tick_time {m : List Comp} {s t : State} {v0} {v1} (h0 : m.contains .tick = true) (h1 : m.contains .time = true)
    (h : Frame m s t) : Frame m s { t with tick := v0, time := v1 } := by
  intro c
  by_cases e : c = .tick ∨ c = .time
  · rcases e with rfl | rfl <;> exact .inl (by simp_all)
  · rcases h c with h | h
    · exact .inl h
    · exact .inr (by cases c <;> first | exact h | simp at e)

theorem Frame.set_steady_mon {m : List Comp} {s t : State} {v0} {v1} (h0 : m.contains .steady = true) (h1 : m.contains .mon = true)
    (h : Frame m s t) : Frame m s { t with steady := v0, mon := v1 } := by
  intro c
  by_cases e : c = .steady ∨ c = .mon
  · rcases e with rfl | rfl <;> exact .inl (by simp_all)
  · rcases h c with h | h
    · exact .inl h
    · exact .inr (by cases c <;> first | exact h | simp at e)

theorem Frame.set_steady_fab {m : List Comp} {s t : State} {v0} {v1} (h0 : m.contains .steady = true) (h1 : m.contains .fab = true)
    (h : Frame m s t) : Frame m s { t with steady := v0, fab := v1 } := by
  intro c
  by_cases e : c = .steady ∨ c = .fab
  · rcases e with rfl | rfl <;> exact .inl (by simp_all)
  · rcases h c with h | h
    · exact .inl h
    · exact .inr (by cases c <;> first | exact h | simp at e)

theorem Frame.set_drv_therm_mat {m : List Comp} {s t : State} {v0} {v1} {v2} (h0 : m.contains .drv = true) (h1 : m.contains .therm = true) (h2 : m.contains .mat = true)
    (h : Frame m s t) : Frame m s { t with drv := v0, therm := v1, mat := v2 } := by
  intro c
  by_cases e : c = .drv ∨ c = .therm ∨ c = .mat
  · rcases e with rfl | rfl | rfl <;> exact .inl (by simp_all)
  · rcases h c with h | h
    · exact .inl h
    · exact .inr (by cases c <;> first | exact h | simp at e)

theorem Frame.set_ex_loops_com {m : List Comp} {s t : State} {v0 : Exvan} {v1} {v2} (h0 : m.contains .ex = true) (h1 : m.contains .loops = true) (h2 : m.contains .com = true)
    (h : Frame m s t) (el : v0.log = t.ex.log := by rfl) : Frame m s { t with ex := v0, loops := v1, com := v2 } := by
  intro c
  by_cases e : c = .ex ∨ c = .loops ∨ c = .com
  · rcases e with rfl | rfl | rfl <;> exact .inl (by simp_all)
  · rcases h c with h | h
    · exact .inl h
    · exact .inr (by cases c <;> first | exact h | exact State.logged_upd h el | simp at e)

theorem Frame.set_ex_com {m : List Comp} {s t : State} {v0 : Exvan} {v1} (h0 : m.contains .ex = true) (h1 : m.contains .com = true)
    (h : Frame m s t) (el : v0.log = t.ex.log := by rfl) : Frame m s { t with ex := v0, com := v1 } := by
  intro c
  by_cases e : c = .ex ∨ c = .com
  · rcases e with rfl | rfl <;> exact .inl (by simp_all)
  · rcases h c with h | h
    · exact .inl h
    · exact .inr (by cases c <;> first | exact h | exact State.logged_upd h el | simp at e)

theorem Frame.set_objs_octs_staged_stagedOcts_dev_ex_funcs_lobes_time_sorus_steady_therm_loops_mon_cal_fab_lib_com_net_mat {m : List Comp} {s t : State} {v0} {v1} {v2} {v3} {v4} {v5 : Exvan} {v6} {v7} {v8} {v9} {v10} {v11} {v12} {v13} {v14} {v15} {v16} {v17} {v18} {v19} (h0 : m.contains .objs = true) (h1 : m.contains .octs = true) (h2 : m.contains .staged = true) (h3 : m.contains .stagedOcts = true) (h4 : m.contains .dev = true) (h5 : m.contains .ex = true) (h6 : m.contains .funcs = true) (h7 : m.contains .lobes = true) (h8 : m.contains .time = true) (h9 : m.contains .sorus = true) (h10 : m.contains .steady = true) (h11 : m.contains .therm = true) (h12 : m.contains .loops = true) (h13 : m.contains .mon = true) (h14 : m.contains .cal = true) (h15 : m.contains .fab = true) (h16 : m.contains .lib = true) (h17 : m.contains .com = true) (h18 : m.contains .net = true) (h19 : m.contains .mat = true)
    (h : Frame m s t) (el : v5.log = t.ex.log := by rfl) : Frame m s { t with objs := v0, octs := v1, staged := v2, stagedOcts := v3, dev := v4, ex := v5, funcs := v6, lobes := v7, time := v8, sorus := v9, steady := v10, therm := v11, loops := v12, mon := v13, cal := v14, fab := v15, lib := v16, com := v17, net := v18, mat := v19 } := by
  intro c
  by_cases e : c = .objs ∨ c = .octs ∨ c = .staged ∨ c = .stagedOcts ∨ c = .dev ∨ c = .ex ∨ c = .funcs ∨ c = .lobes ∨ c = .time ∨ c = .sorus ∨ c = .steady ∨ c = .therm ∨ c = .loops ∨ c = .mon ∨ c = .cal ∨ c = .fab ∨ c = .lib ∨ c = .com ∨ c = .net ∨ c = .mat
  · rcases e with rfl | rfl | rfl | rfl | rfl | rfl | rfl | rfl | rfl | rfl | rfl | rfl | rfl | rfl | rfl | rfl | rfl | rfl | rfl | rfl <;> exact .inl (by simp_all)
  · rcases h c with h | h
    · exact .inl h
    · exact .inr (by cases c <;> first | exact h | exact State.logged_upd h el | simp at e)

theorem Frame.set_dev_drv {m : List Comp} {s t : State} {v0} {v1} (h0 : m.contains .dev = true) (h1 : m.contains .drv = true)
    (h : Frame m s t) : Frame m s { t with dev := v0, drv := v1 } := by
  intro c
  by_cases e : c = .dev ∨ c = .drv
  · rcases e with rfl | rfl <;> exact .inl (by simp_all)
  · rcases h c with h | h
    · exact .inl h
    · exact .inr (by cases c <;> first | exact h | simp at e)

theorem Frame.set_tick_dev {m : List Comp} {s t : State} {v0} {v1} (h0 : m.contains .tick = true) (h1 : m.contains .dev = true)
    (h : Frame m s t) : Frame m s { t with tick := v0, dev := v1 } := by
  intro c
  by_cases e : c = .tick ∨ c = .dev
  · rcases e with rfl | rfl <;> exact .inl (by simp_all)
  · rcases h c with h | h
    · exact .inl h
    · exact .inr (by cases c <;> first | exact h | simp at e)

theorem Frame.set_staged_stagedOcts {m : List Comp} {s t : State} {v0} {v1} (h0 : m.contains .staged = true) (h1 : m.contains .stagedOcts = true)
    (h : Frame m s t) : Frame m s { t with staged := v0, stagedOcts := v1 } := by
  intro c
  by_cases e : c = .staged ∨ c = .stagedOcts
  · rcases e with rfl | rfl <;> exact .inl (by simp_all)
  · rcases h c with h | h
    · exact .inl h
    · exact .inr (by cases c <;> first | exact h | simp at e)

theorem Frame.set_hbm_mat {m : List Comp} {s t : State} {v0} {v1} (h0 : m.contains .hbm = true) (h1 : m.contains .mat = true)
    (h : Frame m s t) : Frame m s { t with hbm := v0, mat := v1 } := by
  intro c
  by_cases e : c = .hbm ∨ c = .mat
  · rcases e with rfl | rfl <;> exact .inl (by simp_all)
  · rcases h c with h | h
    · exact .inl h
    · exact .inr (by cases c <;> first | exact h | simp at e)

theorem Frame.set_lobes_drv_steady {m : List Comp} {s t : State} {v0} {v1} {v2} (h0 : m.contains .lobes = true) (h1 : m.contains .drv = true) (h2 : m.contains .steady = true)
    (h : Frame m s t) : Frame m s { t with lobes := v0, drv := v1, steady := v2 } := by
  intro c
  by_cases e : c = .lobes ∨ c = .drv ∨ c = .steady
  · rcases e with rfl | rfl | rfl <;> exact .inl (by simp_all)
  · rcases h c with h | h
    · exact .inl h
    · exact .inr (by cases c <;> first | exact h | simp at e)

theorem Frame.set_time_sorus_steady_loops_cal_net {m : List Comp} {s t : State} {v0} {v1} {v2} {v3} {v4} {v5} (h0 : m.contains .time = true) (h1 : m.contains .sorus = true) (h2 : m.contains .steady = true) (h3 : m.contains .loops = true) (h4 : m.contains .cal = true) (h5 : m.contains .net = true)
    (h : Frame m s t) : Frame m s { t with time := v0, sorus := v1, steady := v2, loops := v3, cal := v4, net := v5 } := by
  intro c
  by_cases e : c = .time ∨ c = .sorus ∨ c = .steady ∨ c = .loops ∨ c = .cal ∨ c = .net
  · rcases e with rfl | rfl | rfl | rfl | rfl | rfl <;> exact .inl (by simp_all)
  · rcases h c with h | h
    · exact .inl h
    · exact .inr (by cases c <;> first | exact h | simp at e)

theorem Frame.set_ex_loops_cal_com {m : List Comp} {s t : State} {v0 : Exvan} {v1} {v2} {v3} (h0 : m.contains .ex = true) (h1 : m.contains .loops = true) (h2 : m.contains .cal = true) (h3 : m.contains .com = true)
    (h : Frame m s t) (el : v0.log = t.ex.log := by rfl) : Frame m s { t with ex := v0, loops := v1, cal := v2, com := v3 } := by
  intro c
  by_cases e : c = .ex ∨ c = .loops ∨ c = .cal ∨ c = .com
  · rcases e with rfl | rfl | rfl | rfl <;> exact .inl (by simp_all)
  · rcases h c with h | h
    · exact .inl h
    · exact .inr (by cases c <;> first | exact h | exact State.logged_upd h el | simp at e)

theorem Frame.set_lobes_drv {m : List Comp} {s t : State} {v0} {v1} (h0 : m.contains .lobes = true) (h1 : m.contains .drv = true)
    (h : Frame m s t) : Frame m s { t with lobes := v0, drv := v1 } := by
  intro c
  by_cases e : c = .lobes ∨ c = .drv
  · rcases e with rfl | rfl <;> exact .inl (by simp_all)
  · rcases h c with h | h
    · exact .inl h
    · exact .inr (by cases c <;> first | exact h | simp at e)

theorem Frame.set_dev_time {m : List Comp} {s t : State} {v0} {v1} (h0 : m.contains .dev = true) (h1 : m.contains .time = true)
    (h : Frame m s t) : Frame m s { t with dev := v0, time := v1 } := by
  intro c
  by_cases e : c = .dev ∨ c = .time
  · rcases e with rfl | rfl <;> exact .inl (by simp_all)
  · rcases h c with h | h
    · exact .inl h
    · exact .inr (by cases c <;> first | exact h | simp at e)

/-- The frame of a command from that of its effect: the queue is kept and the log cut at its newest records. -/
theorem finish_frame {m : List Comp} {s t u : State} (h : finish s u = .next t) (k : Frame m s u)
    (hm : m.contains .ex = true := by decide) : Frame m s t := by
  cases h
  intro c
  by_cases e : c = .ex
  · subst e; exact .inl (by simpa using hm)
  · rcases k c with h | h
    · exact .inl h
    · exact .inr (by cases c <;> first | exact h | exact State.logged_cut h rfl | exact absurd rfl e)

end Sys2Proof.Machine
end

