-- ==== Sys2Proof/Laws/Frames.lean ====
section
/-!
SUPPORT. For each operation and each command, the components of State it can change. Each proof follows the definition: one
line per operation it calls or field it sets.
-/

-- One proof at a time: side by side they ask for more threads than the memory limit of a check allows.
set_option Elab.async false

namespace Sys2Proof.Laws

open Sys2Proof Sys2Proof.Machine

theorem State.setObj_frame (s : State) (addr : Nat) (sel : Nat) (v : Int) : Frame [.objs] s (State.setObj s addr sel v) := by
  unfold State.setObj
  refine .set_objs (by decide) ?_
  exact .refl _

theorem State.setObjN_frame (s : State) (addr : Nat) (sel : Nat) (v : Nat) : Frame [.objs] s (State.setObjN s addr sel v) := by
  unfold State.setObjN
  refine .step (State.setObj_frame _ _ _ _) (by decide) ?_
  exact .refl _

theorem State.setOct_frame (s : State) (addr : Nat) (sel : Nat) (b : List Byte) :
    Frame [.octs] s (State.setOct s addr sel b) := by
  unfold State.setOct
  refine .set_octs (by decide) ?_
  exact .refl _

theorem State.incSat_frame (s : State) (addr : Nat) (sel : Nat) (n : optParam Nat 1) :
    Frame [.objs] s (State.incSat s addr sel n) := by
  unfold State.incSat
  refine .step (State.setObjN_frame _ _ _ _) (by decide) ?_
  exact .refl _

theorem State.incWrap_frame (s : State) (addr : Nat) (sel : Nat) : Frame [.objs] s (State.incWrap s addr sel) := by
  unfold State.incWrap
  refine .step (State.setObjN_frame _ _ _ _) (by decide) ?_
  exact .refl _

theorem State.inc64_frame (s : State) (addr : Nat) (sel : Nat) (n : optParam Nat 1) :
    Frame [.objs] s (State.inc64 s addr sel n) := by
  unfold State.inc64
  refine .step (State.setObjN_frame _ _ _ _) (by decide) ?_
  exact .refl _

theorem State.stage_frame (s : State) (addr : Nat) (sel : Nat) (v : Int) : Frame [.staged] s (State.stage s addr sel v) := by
  unfold State.stage
  refine .set_staged (by decide) ?_
  exact .refl _

theorem State.stageOct_frame (s : State) (addr : Nat) (sel : Nat) (b : List Byte) :
    Frame [.stagedOcts] s (State.stageOct s addr sel b) := by
  unfold State.stageOct
  refine .set_stagedOcts (by decide) ?_
  exact .refl _

theorem State.unstage_frame (s : State) (addr : Nat) (sel : Nat) : Frame [.staged, .stagedOcts] s (State.unstage s addr sel) := by
  unfold State.unstage
  refine .set_staged_stagedOcts (by decide) (by decide) ?_
  exact .refl _

theorem State.applyStaged_frame (s : State) (addr : Nat) :
    Frame [.objs, .octs, .staged, .stagedOcts] s (State.applyStaged s addr) := by
  unfold State.applyStaged
  refine .set_staged_stagedOcts (by decide) (by decide) ?_
  refine .foldl (fun _ _ => ?_) ?_
  · refine .step (State.setOct_frame _ _ _ _) (by decide) ?_
    exact .refl _
  · refine .foldl (fun _ _ => ?_) ?_
    · refine .step (State.setObj_frame _ _ _ _) (by decide) ?_
      exact .refl _
    · exact .refl _

theorem State.applyStagedAt_frame (s : State) (addr : Nat) (sel : Nat) :
    Frame [.objs, .octs, .staged, .stagedOcts] s (State.applyStagedAt s addr sel) := by
  unfold State.applyStagedAt
  refine .step (State.unstage_frame _ _ _) (by decide) ?_
  split
  · refine .step (State.setOct_frame _ _ _ _) (by decide) ?_
    split
    · refine .step (State.setObj_frame _ _ _ _) (by decide) ?_
      exact .refl _
    · exact .refl _
  · split
    · refine .step (State.setObj_frame _ _ _ _) (by decide) ?_
      exact .refl _
    · exact .refl _

theorem State.setLobe_frame (s : State) (l : Nat) (v : Lobe) : Frame [.lobes] s (State.setLobe s l v) := by
  unfold State.setLobe
  refine .set_lobes (by decide) ?_
  exact .refl _

theorem State.setLaw_frame (s : State) (addr : Nat) (sel : Nat) (v : Int) :
    Frame [.objs, .loops] s (State.setLaw s addr sel v) := by
  unfold State.setLaw
  refine .step (State.setObj_frame _ _ _ _) (by decide) ?_
  refine .set_loops (by decide) ?_
  exact .refl _

theorem State.fresh_frame (s : State) : Frame2 [.ex] s (State.fresh s) := by
  unfold State.fresh
  refine .pair ?_
  refine .set_ex (by decide) ?_
  exact .refl _

theorem State.setRing_frame (s : State) (r : Nat) (v : Ring) : Frame [.sorus] s (State.setRing s r v) := by
  unfold State.setRing
  refine .set_sorus (by decide) ?_
  exact .refl _

theorem ringPut_frame (s : State) (r : Nat) (kind : Nat) (flags : Nat) (time : Int) (body : List Byte) :
    Frame1 [.objs, .sorus] s (ringPut s r kind flags time body) := by
  unfold ringPut
  refine .ite ?_ ?_
  · refine .pair ?_
    exact .refl _
  · refine .ite ?_ ?_
    · refine .pair ?_
      refine .step (State.setRing_frame _ _ _) (by decide) ?_
      exact .refl _
    · refine .ite ?_ ?_
      · refine .pair ?_
        refine .step (State.setRing_frame _ _ _) (by decide) ?_
        refine .step (State.incSat_frame _ _ _ _) (by decide) ?_
        exact .refl _
      · conv => zeta
        split
        refine .pair ?_
        refine .step (State.setRing_frame _ _ _) (by decide) ?_
        exact .refl _

theorem State.capNote_frame (s : State) (f : Nat → CapAcc → CapAcc) : Frame [.sorus] s (State.capNote s f) := by
  unfold State.capNote
  refine .set_sorus (by decide) ?_
  exact .refl _

theorem noteEvent_frame (s : State) (e : EvRec) : Frame [.ex, .sorus] s (noteEvent s e) := by
  refine .step (State.capNote_frame _ _) (by decide) (s := s) fun c => ?_
  cases c <;> first | exact .inl (by decide) | exact .inr rfl | exact .inr fun _ => ⟨[e], rfl⟩

theorem ringEvent_frame (e : EvRec) (p : State × List (Nat × List EvItem)) (r : Nat) :
    Frame1 [.objs, .sorus] p.1 (ringEvent e p r) := by
  unfold ringEvent
  refine .ite ?_ ?_
  · refine .pair ?_
    refine .of1 ?_
    refine .step (ringPut_frame _ _ _ _ _ _) (by decide) ?_
    exact .refl _
  · exact Frame.refl p.1

theorem logEvent_frame (s : State) (code : Nat) (lobe : Nat) (deferred : Bool) (time : Int) (data : List EvItem) :
    Frame1 [.objs, .ex, .sorus] s (logEvent s code lobe deferred time data) := by
  unfold logEvent
  refine .foldl (fun p b => Frame.mono (ringEvent_frame _ p b) (by decide)) ?_
  refine .pair ?_
  refine .step (noteEvent_frame _ _) (by decide) ?_
  exact .refl _

theorem logFollow_frame (time : Int) (n : Nat) (l : List (Nat × List EvItem)) (s : State) :
    Frame [.objs, .ex, .sorus] s (logFollow time n l s) := by
  induction n generalizing l s with
  | zero => cases l <;> exact .refl _
  | succ n ih =>
    cases l with
    | nil => exact .refl _
    | cons m t => exact .trans (.of1 (logEvent_frame _ _ _ _ _ _)) (ih _ _)

theorem logAll_frame (s : State) (code : Nat) (lobe : Nat) (deferred : Bool) (time : Int) (data : List EvItem) :
    Frame [.objs, .ex, .sorus] s (logAll s code lobe deferred time data) := by
  unfold logAll
  refine .step (logFollow_frame _ _ _ _) (by decide) ?_
  refine .of1 ?_
  refine .step (logEvent_frame _ _ _ _ _ _) (by decide) ?_
  exact .refl _

theorem raise_frame (s : State) (code : Nat) (lobe : Nat) (data : List EvItem) :
    Frame [.objs, .ex, .sorus] s (raise s code lobe data) := by
  unfold raise
  conv => zeta
  split
  · refine .step (logAll_frame _ _ _ _ _ _) (by decide) ?_
    exact .refl _
  · refine .set_ex (by decide) ?_
    exact .refl _

theorem raiseA_frame (s : State) (code : Nat) (data : List EvItem) : Frame [.objs, .ex, .sorus] s (raiseA s code data) := by
  unfold raiseA
  refine .step (raise_frame _ _ _ _) (by decide) ?_
  exact .refl _

theorem raiseS_frame (s : State) (code : Nat) (data : List EvItem) : Frame [.objs, .ex, .sorus] s (raiseS s code data) := by
  unfold raiseS
  refine .step (raise_frame _ _ _ _) (by decide) ?_
  exact .refl _

theorem flushDeferred_frame (s : State) : Frame [.objs, .ex, .sorus] s (flushDeferred s) := by
  unfold flushDeferred
  refine .foldl (fun _ _ => ?_) ?_
  · refine .step (logAll_frame _ _ _ _ _ _) (by decide) ?_
    exact .refl _
  · refine .set_ex (by decide) ?_
    exact .refl _

theorem State.fault_frame (s : State) (c : FaultCause) : Frame [.dev] s (State.fault s c) := by
  unfold State.fault
  refine .ite ?_ ?_
  · exact .refl _
  · refine .set_dev (by decide) ?_
    exact .refl _

theorem State.unfault_frame (s : State) (c : FaultCause) : Frame [.dev] s (State.unfault s c) := by
  unfold State.unfault
  refine .set_dev (by decide) ?_
  exact .refl _

theorem State.enter_frame (s : State) (d : DevState) : Frame [.objs, .dev, .ex, .sorus] s (State.enter s d) := by
  unfold State.enter
  refine .step (raiseA_frame _ _ _) (by decide) ?_
  refine .set_dev (by decide) ?_
  exact .refl _

theorem State.setSession_frame (s : State) (i : Nat) (x : Session) : Frame [.ex] s (State.setSession s i x) := by
  unfold State.setSession
  refine .set_ex (by decide) ?_
  exact .refl _

theorem sendTo_frame (s : State) (source : Nat) (o : Option Origin) (p : List Byte) : Frame [.ex] s (sendTo s source o p) := by
  unfold sendTo
  conv => zeta
  split
  · exact .refl _
  · refine .ite ?_ ?_
    · refine .set_ex (by decide) ?_
      exact .refl _
    · refine .set_ex (by decide) ?_
      exact .refl _

theorem sendAnswer_frame (s : State) (source : Nat) (a : Answer) : Frame [.ex] s (sendAnswer s source a) := by
  unfold sendAnswer
  refine .step (sendTo_frame _ _ _ _) (by decide) ?_
  refine .set_ex (by decide) ?_
  exact .refl _

theorem noteGroupSeq_frame (s : State) : Frame [.objs, .ex, .sorus] s (noteGroupSeq s) := by
  have hi : ∀ (p : Prop) [Decidable p] (t : State) (c : Nat) (d : List EvItem),
      Frame [.objs, .ex, .sorus] s t → Frame [.objs, .ex, .sorus] s (if p then raiseA t c d else t) := fun p _ t c d ht =>
    .ite (.step (raiseA_frame _ _ _) (by decide) ht) ht
  have hl : ∀ (b : Bool) (t : State), Frame [.objs, .ex, .sorus] s t →
      Frame [.objs, .ex, .sorus] s { t with ex := { t.ex with groupLowRaised := b } } := fun _ _ ht => .set_ex (by decide) ht
  have he : ∀ (b : Bool) (t : State), Frame [.objs, .ex, .sorus] s t →
      Frame [.objs, .ex, .sorus] s { t with ex := { t.ex with groupExhausted := b } } := fun _ _ ht => .set_ex (by decide) ht
  unfold noteGroupSeq
  extract_lets n low x t u
  have hu : Frame [.objs, .ex, .sorus] s u := hi _ _ _ _ (hl _ _ (.refl s))
  clear_value u
  exact .ite (.step (raiseA_frame _ _ _) (by decide) (he _ _ hu)) hu

theorem takeGroupSeq_frame (s : State) : Frame [.objs, .ex, .sorus] s (takeGroupSeq s) := by
  unfold takeGroupSeq
  refine .step (noteGroupSeq_frame _) (by decide) ?_
  refine .set_ex (by decide) ?_
  exact .refl _

theorem groupAnswer_frame (s : State) (a : Answer) : Frame [.objs, .ex, .sorus] s (groupAnswer s a) := by
  unfold groupAnswer
  refine .ite ?_ ?_
  · refine .step (takeGroupSeq_frame _) (by decide) ?_
    refine .step (sendAnswer_frame _ _ _) (by decide) ?_
    exact .refl _
  · refine .ite ?_ ?_
    · refine .set_ex (by decide) ?_
      exact .refl _
    · exact .refl _

theorem answerFrom_frame (source : Nat) (cached : Bool) (s : State) (sess : Nat) (req : Nat) (addr : Nat) (sel : Nat) (reply : Reply) :
    Frame [.objs, .ex, .sorus] s (answerFrom source cached s sess req addr sel reply) := by
  unfold answerFrom
  conv => zeta
  split
  · refine .step (State.setSession_frame _ _ _) (by decide) ?_
    refine .step (sendAnswer_frame _ _ _) (by decide) ?_
    exact .refl _
  · refine .ite ?_ ?_
    · refine .step (groupAnswer_frame _ _) (by decide) ?_
      exact .refl _
    · exact .refl _

theorem answer_frame (s : State) (sess : Nat) (req : Nat) (addr : Nat) (sel : Nat) (reply : Reply) :
    Frame [.objs, .ex, .sorus] s (answer s sess req addr sel reply) := by
  unfold answer
  refine .step (answerFrom_frame _ _ _ _ _ _ _ _) (by decide) ?_
  exact .refl _

theorem State.owe_frame (s : State) (kind : OwedKind) (sess : Nat) (req : Nat) (addr : Nat) (sel : Nat) :
    Frame [.ex] s (State.owe s kind sess req addr sel) := by
  unfold State.owe
  refine .set_ex (by decide) ?_
  exact .refl _

theorem State.setFunc_frame (s : State) (n : Nat) (f : Func) : Frame [.funcs] s (State.setFunc s n f) := by
  unfold State.setFunc
  refine .set_funcs (by decide) ?_
  exact .refl _

theorem atModeBoundary_frame (s : State) (n : Nat) : Frame [.funcs] s (atModeBoundary s n) := by
  unfold atModeBoundary
  conv => zeta
  split
  · refine .step (State.setFunc_frame _ _ _) (by decide) ?_
    exact .refl _
  · exact .refl _

theorem fallback_frame (s : State) (n : Nat) : Frame [.objs, .ex, .funcs, .sorus] s (fallback s n) := by
  unfold fallback
  refine .step (raiseA_frame _ _ _) (by decide) ?_
  refine .step (State.incSat_frame _ _ _ _) (by decide) ?_
  refine .step (State.setObj_frame _ _ _ _) (by decide) ?_
  refine .step (State.setObjN_frame _ _ _ _) (by decide) ?_
  refine .step (State.setObj_frame _ _ _ _) (by decide) ?_
  refine .step (State.setFunc_frame _ _ _) (by decide) ?_
  exact .refl _

theorem State.setLane_frame (s : State) (col : Nat) (l : Nat) (x : DpLane) : Frame [.mon] s (State.setLane s col l x) := by
  unfold State.setLane
  refine .set_mon (by decide) ?_
  exact .refl _

theorem runKernel_frame (s : State) (col : Nat) (l : Nat) (k : List (Nat × Sample) × List DpStep) :
    Frame1 [.mon] s (runKernel s col l k) := by
  unfold runKernel
  split
  refine .pair ?_
  refine .step (State.setLane_frame _ _ _ _) (by decide) ?_
  exact .refl _

theorem countStore_frame (s : State) (cols : List Nat) (sat : Bool) (inv : Bool) :
    Frame [.objs] s (countStore s cols sat inv) := by
  unfold countStore
  refine .foldl (fun _ _ => ?_) ?_
  · refine .ite ?_ ?_
    · refine .step (State.incSat_frame _ _ _ _) (by decide) ?_
      exact .refl _
    · refine .ite ?_ ?_
      · refine .step (State.incSat_frame _ _ _ _) (by decide) ?_
        exact .refl _
      · exact .refl _
  · exact .refl _

theorem keepCoef_frame (s : State) (addr : Nat) (sel : Nat) : Frame [.mon] s (keepCoef s addr sel) := by
  unfold keepCoef
  refine .ite ?_ ?_
  · refine .ite ?_ ?_
    · exact .refl _
    · refine .set_mon (by decide) ?_
      exact .refl _
  · refine .set_mon (by decide) ?_
    refine .ite ?_ ?_
    · exact .refl _
    · refine .set_mon (by decide) ?_
      exact .refl _

theorem keepCoefOct_frame (s : State) (addr : Nat) (sel : Nat) : Frame [.mon] s (keepCoefOct s addr sel) := by
  unfold keepCoefOct
  refine .ite ?_ ?_
  · refine .ite ?_ ?_
    · exact .refl _
    · refine .set_mon (by decide) ?_
      exact .refl _
  · refine .set_mon (by decide) ?_
    refine .ite ?_ ?_
    · exact .refl _
    · refine .set_mon (by decide) ?_
      exact .refl _

theorem setCoef_frame (s : State) (addr : Nat) (sel : Nat) (v : Int) : Frame [.objs, .mon] s (setCoef s addr sel v) := by
  unfold setCoef
  refine .step (State.setObj_frame _ _ _ _) (by decide) ?_
  refine .step (keepCoef_frame _ _ _) (by decide) ?_
  exact .refl _

theorem guardFlush_frame (s : State) (col : Nat) : Frame [.objs, .ex, .sorus, .mon] s (guardFlush s col) := by
  unfold guardFlush
  refine .ite ?_ ?_
  · refine .step (raiseA_frame _ _ _) (by decide) ?_
    refine .set_mon (by decide) ?_
    exact .refl _
  · exact .refl _

theorem guardOverflow_frame (s : State) (col : Nat) (n : Nat) : Frame [.objs, .ex, .sorus, .mon] s (guardOverflow s col n) := by
  unfold guardOverflow
  refine .step (guardFlush_frame _ _) (by decide) ?_
  refine .step (State.incSat_frame _ _ _ _) (by decide) ?_
  refine .set_mon (by decide) ?_
  exact .refl _

theorem State.setChan_frame (s : State) (u : Nat) (c : Chan) : Frame [.drv] s (State.setChan s u c) := by
  unfold State.setChan
  refine .set_drv (by decide) ?_
  exact .refl _

theorem State.setBank_frame (s : State) (b : Nat) (x : Bank) : Frame [.drv] s (State.setBank s b x) := by
  unfold State.setBank
  refine .set_drv (by decide) ?_
  exact .refl _

theorem noteChange_frame (s : State) (u : Nat) : Frame [.drv] s (noteChange s u) := by
  unfold noteChange
  refine .step (State.setChan_frame _ _ _) (by decide) ?_
  exact .refl _

theorem noteWrite_frame (s : State) (b : Nat) : Frame [.lobes] s (noteWrite s b) := by
  unfold noteWrite
  refine .set_lobes (by decide) ?_
  exact .refl _

theorem noteRefused_frame (s : State) (b : Nat) : Frame [.lobes] s (noteRefused s b) := by
  unfold noteRefused
  conv => zeta
  split
  · refine .ite ?_ ?_
    · exact .refl _
    · refine .set_lobes (by decide) ?_
      exact .refl _
  · exact .refl _

theorem writeTarget_frame (s : State) (u : Nat) (code : Int) : Frame [.lobes, .drv] s (writeTarget s u code) := by
  unfold writeTarget
  refine .ite ?_ ?_
  · refine .step (State.setChan_frame _ _ _) (by decide) ?_
    refine .step (noteWrite_frame _ _) (by decide) ?_
    exact .refl _
  · refine .step (noteRefused_frame _ _) (by decide) ?_
    exact .refl _

theorem writeDirect_frame (s : State) (u : Nat) (code : Int) : Frame [.lobes, .drv] s (writeDirect s u code) := by
  unfold writeDirect
  refine .ite ?_ ?_
  · refine .ite ?_ ?_
    · refine .step (State.setChan_frame _ _ _) (by decide) ?_
      refine .step (noteWrite_frame _ _) (by decide) ?_
      exact .refl _
    · refine .ite ?_ ?_
      · refine .step (State.setChan_frame _ _ _) (by decide) ?_
        refine .step (noteWrite_frame _ _) (by decide) ?_
        exact .refl _
      · refine .step (State.setChan_frame _ _ _) (by decide) ?_
        refine .step (noteWrite_frame _ _) (by decide) ?_
        exact .refl _
  · refine .step (noteRefused_frame _ _) (by decide) ?_
    exact .refl _

theorem releaseDirect_frame (s : State) (u : Nat) : Frame [.drv] s (releaseDirect s u) := by
  unfold releaseDirect
  conv => zeta
  split
  · exact .refl _
  · refine .ite ?_ ?_
    · refine .step (State.setChan_frame _ _ _) (by decide) ?_
      exact .refl _
    · refine .step (State.setChan_frame _ _ _) (by decide) ?_
      exact .refl _

theorem releaseHeld_frame (s : State) (u : Nat) : Frame [.drv] s (releaseHeld s u) := by
  unfold releaseHeld
  refine .ite ?_ ?_
  · refine .step (State.setChan_frame _ _ _) (by decide) ?_
    exact .refl _
  · exact .refl _

theorem leaveHolding_frame (s : State) (b : Nat) : Frame [.drv] s (leaveHolding s b) := by
  unfold leaveHolding
  refine .ite ?_ ?_
  · refine .foldl (fun _ _ => ?_) ?_
    · refine .step (releaseDirect_frame _ _) (by decide) ?_
      refine .step (State.setChan_frame _ _ _) (by decide) ?_
      refine .step (releaseHeld_frame _ _) (by decide) ?_
      exact .refl _
    · refine .step (State.setBank_frame _ _ _) (by decide) ?_
      exact .refl _
  · exact .refl _

theorem forceCode_frame (s : State) (u : Nat) (n : Nat) : Frame [.drv] s (forceCode s u n) := by
  unfold forceCode
  refine .step (State.setChan_frame _ _ _) (by decide) ?_
  exact .refl _

theorem startRamp_frame (s : State) (u : Nat) (goal : Nat) (start : Nat) (num : Nat) (den : Nat) :
    Frame [.drv] s (startRamp s u goal start num den) := by
  unfold startRamp
  refine .step (State.setChan_frame _ _ _) (by decide) ?_
  exact .refl _

theorem stopGen_frame (s : State) (u : Nat) : Frame [.objs, .drv] s (stopGen s u) := by
  unfold stopGen
  conv => zeta
  split
  · refine .step (State.setObj_frame _ _ _ _) (by decide) ?_
    refine .set_drv (by decide) ?_
    refine .step (noteChange_frame _ _) (by decide) ?_
    exact .refl _
  · exact .refl _

theorem startSpanSeq_frame (s : State) (u : Nat) (newSpan : Nat) (start : Nat) :
    Frame [.objs, .drv] s (startSpanSeq s u newSpan start) := by
  unfold startSpanSeq
  refine .step (State.setChan_frame _ _ _) (by decide) ?_
  refine .step (stopGen_frame _ _) (by decide) ?_
  exact .refl _

theorem stopSpanSeq_frame (s : State) (u : Nat) : Frame [.drv] s (stopSpanSeq s u) := by
  unfold stopSpanSeq
  refine .ite ?_ ?_
  · refine .step (State.setChan_frame _ _ _) (by decide) ?_
    refine .step (noteChange_frame _ _) (by decide) ?_
    exact .refl _
  · exact .refl _

theorem safeRamp_frame (s : State) (u : Nat) (start : Nat) : Frame [.drv] s (safeRamp s u start) := by
  unfold safeRamp
  refine .ite ?_ ?_
  · refine .step (startRamp_frame _ _ _ _ _ _) (by decide) ?_
    exact .refl _
  · refine .ite ?_ ?_
    · refine .step (startRamp_frame _ _ _ _ _ _) (by decide) ?_
      exact .refl _
    · refine .step (State.setChan_frame _ _ _) (by decide) ?_
      refine .step (stopSpanSeq_frame _ _) (by decide) ?_
      exact .refl _

theorem safeChan_frame (s : State) (start : Nat) (u : Nat) : Frame [.objs, .drv] s (safeChan s start u) := by
  unfold safeChan
  refine .ite ?_ ?_
  · refine .step (State.setChan_frame _ _ _) (by decide) ?_
    refine .step (startSpanSeq_frame _ _ _ _) (by decide) ?_
    refine .step (stopGen_frame _ _) (by decide) ?_
    exact .refl _
  · refine .step (safeRamp_frame _ _ _) (by decide) ?_
    refine .step (stopGen_frame _ _) (by decide) ?_
    exact .refl _

theorem safeBank_frame (s : State) (start : Nat) (b : Nat) : Frame [.objs, .drv] s (safeBank s start b) := by
  unfold safeBank
  refine .foldl (fun _ _ => ?_) ?_
  · refine .step (safeChan_frame _ _ _) (by decide) ?_
    exact .refl _
  · refine .step (State.setBank_frame _ _ _) (by decide) ?_
    exact .refl _

theorem writeBanks_frame (s : State) : Frame [.lobes] s (writeBanks s) := by
  unfold writeBanks
  conv => zeta
  split
  · exact .refl _
  · refine .ite ?_ ?_
    · refine .set_lobes (by decide) ?_
      exact .refl _
    · refine .set_lobes (by decide) ?_
      refine .foldl (fun _ _ => ?_) ?_
      · refine .step (noteRefused_frame _ _) (by decide) ?_
        exact .refl _
      · exact .refl _

theorem safeAll_frame (s : State) : Frame [.objs, .lobes, .drv] s (safeAll s) := by
  unfold safeAll
  refine .foldl (fun _ _ => ?_) ?_
  · refine .step (safeChan_frame _ _ _) (by decide) ?_
    refine .step (State.setBank_frame _ _ _) (by decide) ?_
    exact .refl _
  · refine .step (writeBanks_frame _) (by decide) ?_
    exact .refl _

theorem State.putRun_frame (s : State) (r : CalRun) : Frame [.cal] s (State.putRun s r) := by
  unfold State.putRun
  refine .set_cal (by decide) ?_
  exact .refl _

theorem showSteady_frame (s : State) : Frame [.objs] s (showSteady s) := by
  unfold showSteady
  refine .step (State.setObjN_frame _ _ _ _) (by decide) ?_
  refine .step (State.setObjN_frame _ _ _ _) (by decide) ?_
  refine .step (State.setObjN_frame _ _ _ _) (by decide) ?_
  refine .step (State.setObjN_frame _ _ _ _) (by decide) ?_
  refine .step (State.setObj_frame _ _ _ _) (by decide) ?_
  refine .step (State.setObj_frame _ _ _ _) (by decide) ?_
  exact .refl _

theorem steadyDecides_frame (s : State) (kind : Nat) : Frame1 [.objs, .dev, .ex, .sorus, .steady] s (steadyDecides s kind) := by
  unfold steadyDecides
  refine .ite ?_ ?_
  · refine .pair ?_
    exact .refl _
  · refine .ite ?_ ?_
    · refine .pair ?_
      exact .refl _
    · refine .ite ?_ ?_
      · refine .pair ?_
        refine .step (State.incSat_frame _ _ _ _) (by decide) ?_
        refine .set_steady (by decide) ?_
        exact .refl _
      · refine .pair ?_
        refine .step (showSteady_frame _) (by decide) ?_
        refine .step (State.fault_frame _ _) (by decide) ?_
        refine .step (raiseS_frame _ _ _) (by decide) ?_
        refine .set_steady (by decide) ?_
        refine .set_steady (by decide) ?_
        exact .refl _

theorem closeReq_frame (s : State) (n : Nat) (st : Nat) : Frame [.objs, .steady] s (closeReq s n st) := by
  unfold closeReq
  refine .step (State.setObjN_frame _ _ _ _) (by decide) ?_
  conv => zeta
  split
  · refine .set_steady (by decide) ?_
    exact .refl _
  · exact .refl _

theorem passReq_frame (s : State) (n : Nat) : Frame [.objs, .steady] s (passReq s n) := by
  unfold passReq
  refine .step (State.setObjN_frame _ _ _ _) (by decide) ?_
  refine .step (closeReq_frame _ _ _) (by decide) ?_
  exact .refl _

theorem showPassed_frame (s : State) (r : GReq) : Frame [.objs, .steady] s (showPassed s r) := by
  unfold showPassed
  split
  · refine .step (closeReq_frame _ _ _) (by decide) ?_
    exact .refl _
  · exact .refl _

theorem issueGrant_frame (s : State) (r : GReq) : Frame [.objs, .steady] s (issueGrant s r) := by
  unfold issueGrant
  refine .step (showSteady_frame _) (by decide) ?_
  refine .step (State.incSat_frame _ _ _ _) (by decide) ?_
  refine .set_steady (by decide) ?_
  refine .step (showPassed_frame _ _) (by decide) ?_
  exact .refl _

theorem grantNow_frame (s : State) (r : GReq) : Frame1 [.objs, .dev, .ex, .sorus, .steady] s (grantNow s r) := by
  unfold grantNow
  split
  refine .ite ?_ ?_
  · refine .pair ?_
    refine .step (issueGrant_frame _ _) (by decide) ?_
    refine .fst (by assumption) ?_
    refine .step (steadyDecides_frame _ _) (by decide) ?_
    exact .refl _
  · refine .pair ?_
    refine .step (State.incSat_frame _ _ _ _) (by decide) ?_
    refine .fst (by assumption) ?_
    refine .step (steadyDecides_frame _ _) (by decide) ?_
    exact .refl _

theorem decideNow_frame (s : State) (kind : Nat) (fits : State → Bool) :
    Frame1 [.objs, .dev, .ex, .sorus, .steady] s (decideNow s kind fits) := by
  unfold decideNow
  split
  refine .ite ?_ ?_
  · refine .pair ?_
    refine .fst (by assumption) ?_
    refine .step (steadyDecides_frame _ _) (by decide) ?_
    exact .refl _
  · refine .pair ?_
    refine .step (State.incSat_frame _ _ _ _) (by decide) ?_
    refine .fst (by assumption) ?_
    refine .step (steadyDecides_frame _ _) (by decide) ?_
    exact .refl _

theorem dropGrant_frame (s : State) (k : GKind) (src : Nat) : Frame [.objs, .steady] s (dropGrant s k src) := by
  unfold dropGrant
  refine .step (showSteady_frame _) (by decide) ?_
  refine .set_steady (by decide) ?_
  exact .refl _

theorem markReleased_frame (s : State) (k : GKind) (src : Nat) : Frame [.steady] s (markReleased s k src) := by
  unfold markReleased
  refine .set_steady (by decide) ?_
  exact .refl _

theorem serveList_frame (l : List GReq) (s : State) : Frame [.objs, .dev, .ex, .sorus, .steady] s (serveList l s) := by
  induction l generalizing s with
  | nil => exact .set_steady (by decide) (.refl _)
  | cons r t ih =>
    unfold serveList
    refine .ite ?_ (.set_steady (by decide) (.refl _))
    split
    have h : Frame [.objs, .dev, .ex, .sorus, .steady] s _ :=
      .fst (by assumption) (.step (steadyDecides_frame _ _) (by decide) (.refl _))
    exact .ite (.trans (.step (issueGrant_frame _ _) (by decide) h) (ih _)) (.set_steady (by decide) h)

theorem serveQueue_frame (s : State) : Frame [.objs, .dev, .ex, .sorus, .steady] s (serveQueue s) := by
  unfold serveQueue
  refine .ite ?_ ?_
  · exact .refl _
  · refine .step (showSteady_frame _) (by decide) ?_
    refine .step (serveList_frame _ _) (by decide) ?_
    exact .refl _

theorem releaseGrant_frame (s : State) (k : GKind) (src : Nat) :
    Frame [.objs, .dev, .ex, .sorus, .steady] s (releaseGrant s k src) := by
  unfold releaseGrant
  refine .ite ?_ ?_
  · split
    refine .ite ?_ ?_
    · refine .step (serveQueue_frame _) (by decide) ?_
      refine .step (dropGrant_frame _ _ _) (by decide) ?_
      refine .fst (by assumption) ?_
      refine .step (steadyDecides_frame _ _) (by decide) ?_
      exact .refl _
    · refine .step (markReleased_frame _ _ _) (by decide) ?_
      refine .fst (by assumption) ?_
      refine .step (steadyDecides_frame _ _) (by decide) ?_
      exact .refl _
  · exact .refl _

theorem drawGrants_frame (s : State) : Frame [.steady] s (drawGrants s) := by
  unfold drawGrants
  refine .set_steady (by decide) ?_
  exact .refl _

theorem ringWrite_frame (s : State) (n : Nat) (r : GReq) : Frame [.objs, .ex, .sorus, .steady] s (ringWrite s n r) := by
  unfold ringWrite
  refine .step (raiseS_frame _ _ _) (by decide) ?_
  refine .step (State.setObjN_frame _ _ _ _) (by decide) ?_
  refine .step (State.setObjN_frame _ _ _ _) (by decide) ?_
  refine .step (State.setObjN_frame _ _ _ _) (by decide) ?_
  refine .step (State.setObj_frame _ _ _ _) (by decide) ?_
  refine .step (State.setObjN_frame _ _ _ _) (by decide) ?_
  refine .step (State.setObjN_frame _ _ _ _) (by decide) ?_
  refine .step (State.setObjN_frame _ _ _ _) (by decide) ?_
  refine .step (State.setObjN_frame _ _ _ _) (by decide) ?_
  refine .set_steady (by decide) ?_
  exact .refl _

theorem refillRing_frame (l : List GReq) (s : State) : Frame [.objs, .ex, .sorus, .steady] s (refillRing l s) := by
  induction l generalizing s with
  | nil => exact .set_steady (by decide) (.refl _)
  | cons r t ih =>
    unfold refillRing
    split
    · exact .trans (.step (ringWrite_frame _ _ _) (by decide) (.refl _)) (ih _)
    · exact .set_steady (by decide) (.refl _)

theorem refill_frame (s : State) : Frame [.objs, .ex, .sorus, .steady] s (refill s) := by
  unfold refill
  refine .step (refillRing_frame _ _) (by decide) ?_
  exact .refl _

theorem askHost_frame (s : State) (r : GReq) : Frame [.objs, .ex, .sorus, .steady] s (askHost s r) := by
  unfold askHost
  refine .step (refill_frame _) (by decide) ?_
  refine .set_steady (by decide) ?_
  exact .refl _

theorem requestGrant_frame (s : State) (r : GReq) : Frame1 [.objs, .dev, .ex, .sorus, .steady] s (requestGrant s r) := by
  unfold requestGrant
  refine .ite ?_ ?_
  · refine .pair ?_
    refine .step (askHost_frame _ _) (by decide) ?_
    exact .refl _
  · refine .ite ?_ ?_
    · refine .pair ?_
      refine .step (showSteady_frame _) (by decide) ?_
      refine .step (serveQueue_frame _) (by decide) ?_
      refine .set_steady (by decide) ?_
      exact .refl _
    · refine .pair ?_
      exact .refl _

theorem withdraw_frame (s : State) (k : GKind) (src : Nat) : Frame [.objs, .ex, .sorus, .steady] s (withdraw s k src) := by
  unfold withdraw
  refine .step (showSteady_frame _) (by decide) ?_
  refine .step (refill_frame _) (by decide) ?_
  refine .foldl (fun _ _ => ?_) ?_
  · refine .step (closeReq_frame _ _ _) (by decide) ?_
    exact .refl _
  · refine .set_steady (by decide) ?_
    exact .refl _

theorem takeBudgets_frame (s : State) : Frame [.steady] s (takeBudgets s) := by
  unfold takeBudgets
  refine .ite ?_ ?_
  · refine .set_steady (by decide) ?_
    exact .refl _
  · exact .refl _

theorem accountScan_frame (s : State) : Frame [.objs, .ex, .sorus, .steady] s (accountScan s) := by
  unfold accountScan
  refine .ite ?_ ?_
  · refine .step (raiseS_frame _ _ _) (by decide) ?_
    refine .set_steady (by decide) ?_
    refine .step (drawGrants_frame _) (by decide) ?_
    refine .step (State.setObj_frame _ _ _ _) (by decide) ?_
    exact .refl _
  · refine .set_steady (by decide) ?_
    refine .step (drawGrants_frame _) (by decide) ?_
    refine .step (State.setObj_frame _ _ _ _) (by decide) ?_
    exact .refl _

theorem heaterScan_frame (s : State) : Frame [.objs, .dev, .ex, .sorus, .steady] s (heaterScan s) := by
  unfold heaterScan
  conv => zeta
  split
  refine .step (showSteady_frame _) (by decide) ?_
  refine .ite ?_ ?_
  · refine .step (raiseS_frame _ _ _) (by decide) ?_
    refine .ite ?_ ?_
    · refine .step (accountScan_frame _) (by decide) ?_
      refine .fst (by assumption) ?_
      refine .step (steadyDecides_frame _ _) (by decide) ?_
      refine .step (takeBudgets_frame _) (by decide) ?_
      refine .set_steady (by decide) ?_
      exact .refl _
    · refine .fst (by assumption) ?_
      refine .step (steadyDecides_frame _ _) (by decide) ?_
      refine .step (takeBudgets_frame _) (by decide) ?_
      refine .set_steady (by decide) ?_
      exact .refl _
  · refine .ite ?_ ?_
    · refine .step (accountScan_frame _) (by decide) ?_
      refine .fst (by assumption) ?_
      refine .step (steadyDecides_frame _ _) (by decide) ?_
      refine .step (takeBudgets_frame _) (by decide) ?_
      refine .set_steady (by decide) ?_
      exact .refl _
    · refine .fst (by assumption) ?_
      refine .step (steadyDecides_frame _ _) (by decide) ?_
      refine .step (takeBudgets_frame _) (by decide) ?_
      refine .set_steady (by decide) ?_
      exact .refl _

theorem State.setElem_frame (s : State) (e : Nat) (x : Elem) : Frame [.sorus, .loops] s (State.setElem s e x) := by
  unfold State.setElem
  refine .ite ?_ ?_
  · refine .step (State.capNote_frame _ _) (by decide) ?_
    refine .set_loops (by decide) ?_
    exact .refl _
  · refine .set_loops (by decide) ?_
    exact .refl _

theorem State.setVoa_frame (s : State) (o : Nat) (x : Voa) : Frame [.loops] s (State.setVoa s o x) := by
  unfold State.setVoa
  refine .set_loops (by decide) ?_
  exact .refl _

theorem State.setColumn_frame (s : State) (c : Nat) (x : Column) : Frame [.loops] s (State.setColumn s c x) := by
  unfold State.setColumn
  refine .set_loops (by decide) ?_
  exact .refl _

theorem State.setPd_frame (s : State) (p : Nat) (x : Pd) : Frame [.mon] s (State.setPd s p x) := by
  unfold State.setPd
  refine .set_mon (by decide) ?_
  exact .refl _

theorem noteRatio_frame (s : State) (k : Nat) : Frame [.sorus, .loops] s (noteRatio s k) := by
  unfold noteRatio
  refine .step (State.setElem_frame _ _ _) (by decide) ?_
  exact .refl _

theorem driveElem_frame (s : State) (e : Nat) : Frame [.lobes, .drv] s (driveElem s e) := by
  unfold driveElem
  conv => zeta
  split
  refine .ite ?_ ?_
  · refine .ite ?_ ?_
    · exact .refl _
    · refine .step (writeTarget_frame _ _ _) (by decide) ?_
      exact .refl _
  · refine .step (writeTarget_frame _ _ _) (by decide) ?_
    refine .ite ?_ ?_
    · exact .refl _
    · refine .step (writeTarget_frame _ _ _) (by decide) ?_
      exact .refl _

theorem driveTrimmer_frame (s : State) (e : Nat) (theta : Int) : Frame [.lobes, .drv] s (driveTrimmer s e theta) := by
  unfold driveTrimmer
  refine .step (writeTarget_frame _ _ _) (by decide) ?_
  exact .refl _

theorem disableElem_frame (s : State) (e : Nat) : Frame [.sorus, .loops] s (disableElem s e) := by
  unfold disableElem
  refine .ite ?_ ?_
  · exact .refl _
  · refine .step (State.setElem_frame _ _ _) (by decide) ?_
    exact .refl _

theorem enableElem_frame (s : State) (e : Nat) : Frame [.objs, .dev, .ex, .sorus, .steady, .loops] s (enableElem s e) := by
  unfold enableElem
  refine .ite ?_ ?_
  · refine .step (releaseGrant_frame _ _ _) (by decide) ?_
    refine .step (State.setElem_frame _ _ _) (by decide) ?_
    exact .refl _
  · refine .step (State.setElem_frame _ _ _) (by decide) ?_
    exact .refl _

theorem reacquire_frame (s : State) (e : Nat) : Frame [.sorus, .loops] s (reacquire s e) := by
  unfold reacquire
  refine .step (State.setElem_frame _ _ _) (by decide) ?_
  exact .refl _

theorem openAll_frame (s : State) : Frame [.sorus, .loops] s (openAll s) := by
  unfold openAll
  refine .set_loops (by decide) ?_
  refine .step (State.capNote_frame _ _) (by decide) ?_
  exact .refl _

theorem outerAdd_frame (s : State) (n : Nat) (k : Nat) : Frame [.sorus, .loops] s (outerAdd s n k) := by
  unfold outerAdd
  refine .step (State.setElem_frame _ _ _) (by decide) ?_
  refine .step (State.setElem_frame _ _ _) (by decide) ?_
  exact .refl _

theorem followPhi_frame (s : State) (e : Nat) : Frame [.lobes, .drv] s (followPhi s e) := by
  unfold followPhi
  refine .ite ?_ ?_
  · refine .step (driveElem_frame _ _) (by decide) ?_
    exact .refl _
  · exact .refl _

theorem wrapScan_frame (s : State) (e : Nat) :
    Frame [.objs, .dev, .ex, .lobes, .sorus, .drv, .steady, .loops] s (wrapScan s e) := by
  unfold wrapScan
  conv => zeta
  split
  · exact .refl _
  · refine .ite ?_ ?_
    · refine .step (releaseGrant_frame _ _ _) (by decide) ?_
      refine .ite ?_ ?_
      · split
        refine .step (writeDirect_frame _ _ _) (by decide) ?_
        refine .step (writeDirect_frame _ _ _) (by decide) ?_
        refine .step (State.setElem_frame _ _ _) (by decide) ?_
        refine .ite ?_ ?_
        · refine .step (driveTrimmer_frame _ _ _) (by decide) ?_
          exact .refl _
        · exact .refl _
      · refine .step (followPhi_frame _ _) (by decide) ?_
        refine .step (State.setElem_frame _ _ _) (by decide) ?_
        refine .ite ?_ ?_
        · refine .step (driveTrimmer_frame _ _ _) (by decide) ?_
          exact .refl _
        · exact .refl _
    · refine .ite ?_ ?_
      · split
        refine .step (writeDirect_frame _ _ _) (by decide) ?_
        refine .step (writeDirect_frame _ _ _) (by decide) ?_
        refine .step (State.setElem_frame _ _ _) (by decide) ?_
        refine .ite ?_ ?_
        · refine .step (driveTrimmer_frame _ _ _) (by decide) ?_
          exact .refl _
        · exact .refl _
      · refine .step (followPhi_frame _ _) (by decide) ?_
        refine .step (State.setElem_frame _ _ _) (by decide) ?_
        refine .ite ?_ ?_
        · refine .step (driveTrimmer_frame _ _ _) (by decide) ?_
          exact .refl _
        · exact .refl _

theorem wrapResume_frame (s : State) (e : Nat) : Frame [.sorus, .loops] s (wrapResume s e) := by
  unfold wrapResume
  conv => zeta
  split
  · refine .ite ?_ ?_
    · refine .step (State.setElem_frame _ _ _) (by decide) ?_
      exact .refl _
    · exact .refl _
  · exact .refl _

theorem disableVoa_frame (s : State) (o : Nat) : Frame [.loops] s (disableVoa s o) := by
  unfold disableVoa
  refine .step (State.setVoa_frame _ _ _) (by decide) ?_
  exact .refl _

theorem voaRetarget_frame (s : State) (o : Nat) : Frame [.loops] s (voaRetarget s o) := by
  unfold voaRetarget
  refine .step (State.setVoa_frame _ _ _) (by decide) ?_
  exact .refl _

theorem driveVoa_frame (s : State) (o : Nat) : Frame [.lobes, .drv] s (driveVoa s o) := by
  unfold driveVoa
  refine .step (writeTarget_frame _ _ _) (by decide) ?_
  exact .refl _

theorem ceilingPass_frame (s : State) (u : Nat) (code : Nat) : Frame1 [.objs] s (ceilingPass s u code) := by
  unfold ceilingPass
  refine .ite ?_ ?_
  · refine .pair ?_
    refine .step (State.incSat_frame _ _ _ _) (by decide) ?_
    exact .refl _
  · refine .pair ?_
    exact .refl _

theorem State.slotWrite_frame (s : State) (slot : Nat) (off : Nat) (b : List Byte) :
    Frame [.hbm, .mat] s (State.slotWrite s slot off b) := by
  unfold State.slotWrite
  refine .set_hbm_mat (by decide) (by decide) ?_
  exact .refl _

theorem State.slotSeal_frame (s : State) (slot : Nat) : Frame [.hbm, .mat] s (State.slotSeal s slot) := by
  unfold State.slotSeal
  refine .step (State.slotWrite_frame _ _ _ _) (by decide) ?_
  exact .refl _

theorem State.setSlot_frame (s : State) (slot : Nat) (x : SlotState) : Frame [.lib] s (State.setSlot s slot x) := by
  unfold State.setSlot
  refine .set_lib (by decide) ?_
  exact .refl _

theorem invalidate_frame (s : State) (slot : Nat) (reason : Nat) :
    Frame [.objs, .ex, .sorus, .lib] s (invalidate s slot reason) := by
  unfold invalidate
  refine .step (raiseA_frame _ _ _) (by decide) ?_
  refine .step (State.setSlot_frame _ _ _) (by decide) ?_
  exact .refl _

theorem revalidateSlot_frame (s : State) (slot : Nat) :
    Frame1 [.objs, .hbm, .ex, .sorus, .lib, .mat] s (revalidateSlot s slot) := by
  unfold revalidateSlot
  refine .ite ?_ ?_
  · refine .pair ?_
    refine .step (State.setSlot_frame _ _ _) (by decide) ?_
    refine .step (State.slotSeal_frame _ _) (by decide) ?_
    refine .step (State.slotWrite_frame _ _ _ _) (by decide) ?_
    exact .refl _
  · refine .ite ?_ ?_
    · refine .pair ?_
      exact .refl _
    · refine .pair ?_
      refine .step (raiseA_frame _ _ _) (by decide) ?_
      refine .step (State.setSlot_frame _ _ _) (by decide) ?_
      exact .refl _

theorem mergeLatch_frame (s : State) (l : Latch) : Frame [.hbm, .mat] s (mergeLatch s l) := by
  unfold mergeLatch
  refine .step (State.slotSeal_frame _ _) (by decide) ?_
  refine .step (State.slotWrite_frame _ _ _ _) (by decide) ?_
  refine .step (State.slotWrite_frame _ _ _ _) (by decide) ?_
  refine .step (State.slotWrite_frame _ _ _ _) (by decide) ?_
  refine .foldl (fun _ _ => ?_) ?_
  · refine .step (State.slotWrite_frame _ _ _ _) (by decide) ?_
    exact .refl _
  · refine .foldl (fun _ _ => ?_) ?_
    · refine .step (State.slotWrite_frame _ _ _ _) (by decide) ?_
      exact .refl _
    · exact .refl _

theorem startWriteBack_frame (s : State) (l : Latch) : Frame [.lib] s (startWriteBack s l) := by
  unfold startWriteBack
  refine .step (State.setSlot_frame _ _ _) (by decide) ?_
  refine .set_lib (by decide) ?_
  exact .refl _

theorem finishWriteBack_frame (s : State) : Frame [.objs, .hbm, .ex, .sorus, .lib, .mat] s (finishWriteBack s) := by
  unfold finishWriteBack
  conv => zeta
  split
  · exact .refl _
  · refine .ite ?_ ?_
    · refine .step (invalidate_frame _ _ _) (by decide) ?_
      refine .set_lib (by decide) ?_
      exact .refl _
    · refine .step (State.incSat_frame _ _ _ _) (by decide) ?_
      refine .step (State.setSlot_frame _ _ _) (by decide) ?_
      refine .step (mergeLatch_frame _ _) (by decide) ?_
      refine .set_lib (by decide) ?_
      exact .refl _

theorem awaitWriteBack_frame (s : State) (slot : Nat) :
    Frame [.objs, .hbm, .ex, .sorus, .lib, .mat] s (awaitWriteBack s slot) := by
  unfold awaitWriteBack
  split
  · refine .ite ?_ ?_
    · refine .step (finishWriteBack_frame _) (by decide) ?_
      exact .refl _
    · exact .refl _
  · exact .refl _

theorem promoteWriteBack_frame (s : State) (slot : Nat) :
    Frame [.objs, .hbm, .ex, .sorus, .lib, .mat] s (promoteWriteBack s slot) := by
  unfold promoteWriteBack
  conv => zeta
  split
  · refine .step (finishWriteBack_frame _) (by decide) ?_
    refine .step (startWriteBack_frame _ _) (by decide) ?_
    refine .step (finishWriteBack_frame _) (by decide) ?_
    exact .refl _
  · refine .step (finishWriteBack_frame _) (by decide) ?_
    exact .refl _

theorem discardRefinement_frame (s : State) (slot : Nat) : Frame [.objs, .lib] s (discardRefinement s slot) := by
  unfold discardRefinement
  refine .step (State.incSat_frame _ _ _ _) (by decide) ?_
  refine .set_lib (by decide) ?_
  exact .refl _

theorem queueLatch_frame (s : State) (l : Latch) : Frame [.objs, .ex, .sorus, .lib] s (queueLatch s l) := by
  unfold queueLatch
  refine .ite ?_ ?_
  · refine .set_lib (by decide) ?_
    exact .refl _
  · refine .ite ?_ ?_
    · refine .set_lib (by decide) ?_
      exact .refl _
    · refine .step (raiseA_frame _ _ _) (by decide) ?_
      refine .step (State.incSat_frame _ _ _ _) (by decide) ?_
      exact .refl _

theorem bufferLatch_frame (s : State) (l : Latch) : Frame [.objs, .ex, .sorus, .lib] s (bufferLatch s l) := by
  unfold bufferLatch
  conv => zeta
  split
  · refine .step (raiseA_frame _ _ _) (by decide) ?_
    refine .set_lib (by decide) ?_
    exact .refl _
  · refine .step (raiseA_frame _ _ _) (by decide) ?_
    refine .step (State.incSat_frame _ _ _ _) (by decide) ?_
    exact .refl _

theorem takeLatch_frame (s : State) (l : Latch) : Frame [.objs, .ex, .sorus, .lib] s (takeLatch s l) := by
  unfold takeLatch
  refine .ite ?_ ?_
  · refine .step (bufferLatch_frame _ _) (by decide) ?_
    exact .refl _
  · refine .step (queueLatch_frame _ _) (by decide) ?_
    exact .refl _

theorem State.dropLoads_frame (s : State) (keep : Load → Bool) : Frame [.lib] s (State.dropLoads s keep) := by
  unfold State.dropLoads
  refine .set_lib (by decide) ?_
  exact .refl _

theorem abandonLoad_frame (s : State) (sess : Nat) (hold : Bool) : Frame [.lib] s (abandonLoad s sess hold) := by
  unfold abandonLoad
  conv => zeta
  split
  · exact .refl _
  · refine .ite ?_ ?_
    · refine .set_lib (by decide) ?_
      refine .step (State.dropLoads_frame _ _) (by decide) ?_
      exact .refl _
    · refine .step (State.setSlot_frame _ _ _) (by decide) ?_
      refine .step (State.dropLoads_frame _ _) (by decide) ?_
      exact .refl _

theorem writeImage_frame (s : State) (slot : Nat) (v : List Nat) (routes : List Nat) :
    Frame [.hbm, .mat] s (writeImage s slot v routes) := by
  unfold writeImage
  refine .step (State.slotSeal_frame _ _) (by decide) ?_
  refine .step (State.slotWrite_frame _ _ _ _) (by decide) ?_
  exact .refl _

theorem placeRoute_frame (s : State) (slot : Nat) (v : List Nat) (found : Option (List Nat)) :
    Frame [.hbm, .lib, .mat] s (placeRoute s slot v found) := by
  unfold placeRoute
  split
  · refine .step (State.setSlot_frame _ _ _) (by decide) ?_
    refine .step (writeImage_frame _ _ _ _) (by decide) ?_
    exact .refl _
  · exact .refl _

theorem routeDark_frame (s : State) (slot : Nat) : Frame [.hbm, .lib, .mat] s (routeDark s slot) := by
  unfold routeDark
  refine .step (placeRoute_frame _ _ _ _) (by decide) ?_
  exact .refl _

theorem closeSession_frame (s : State) (num : Nat) (reason : Nat) :
    Frame [.objs, .ex, .sorus, .lib] s (closeSession s num reason) := by
  unfold closeSession
  conv => zeta
  split
  · exact .refl _
  · refine .step (raiseA_frame _ _ _) (by decide) ?_
    refine .set_ex (by decide) ?_
    refine .step (abandonLoad_frame _ _ _) (by decide) ?_
    exact .refl _

theorem closeSpent_frame (s : State) : Frame [.objs, .ex, .sorus, .lib] s (closeSpent s) := by
  unfold closeSpent
  refine .foldl (fun _ _ => ?_) ?_
  · refine .step (closeSession_frame _ _ _) (by decide) ?_
    exact .refl _
  · exact .refl _

theorem closeIfSpent_frame (s : State) (sess : Nat) : Frame [.objs, .ex, .sorus, .lib] s (closeIfSpent s sess) := by
  unfold closeIfSpent
  split
  · refine .ite ?_ ?_
    · refine .step (closeSession_frame _ _ _) (by decide) ?_
      exact .refl _
    · exact .refl _
  · exact .refl _

theorem rejectFrame_frame (s : State) (counter : Nat) (check : Nat) :
    Frame [.objs, .ex, .sorus] s (rejectFrame s counter check) := by
  unfold rejectFrame
  refine .ite ?_ ?_
  · refine .step (raiseA_frame _ _ _) (by decide) ?_
    refine .set_ex (by decide) ?_
    refine .step (State.inc64_frame _ _ _ _) (by decide) ?_
    exact .refl _
  · refine .set_ex (by decide) ?_
    refine .step (State.inc64_frame _ _ _ _) (by decide) ?_
    exact .refl _

theorem dropSession_frame (s : State) : Frame [.objs, .ex, .sorus] s (dropSession s) := by
  unfold dropSession
  refine .ite ?_ ?_
  · exact .refl _
  · refine .step (rejectFrame_frame _ _ _) (by decide) ?_
    exact .refl _

theorem answerCommit_frame (s : State) (sess : Nat) (req : Nat) (reply : Reply) :
    Frame [.objs, .ex, .sorus, .lib] s (answerCommit s sess req reply) := by
  unfold answerCommit
  refine .step (closeIfSpent_frame _ _) (by decide) ?_
  refine .step (answerFrom_frame _ _ _ _ _ _ _ _) (by decide) ?_
  exact .refl _

theorem nakUnsolicited_frame (s : State) (sess : Nat) (req : Nat) (n : Nak) (detail : Nat) :
    Frame [.objs, .ex, .sorus, .lib] s (nakUnsolicited s sess req n detail) := by
  unfold nakUnsolicited
  conv => zeta
  split
  · refine .step (closeIfSpent_frame _ _) (by decide) ?_
    refine .step (State.setSession_frame _ _ _) (by decide) ?_
    refine .step (sendAnswer_frame _ _ _) (by decide) ?_
    exact .refl _
  · refine .ite ?_ ?_
    · refine .step (groupAnswer_frame _ _) (by decide) ?_
      exact .refl _
    · exact .refl _

theorem settleOwed_frame (s : State) (kind : OwedKind) (reply : Reply) :
    Frame [.objs, .ex, .sorus, .lib] s (settleOwed s kind reply) := by
  unfold settleOwed
  refine .foldl (fun _ _ => ?_) ?_
  · refine .step (closeIfSpent_frame _ _) (by decide) ?_
    refine .step (answer_frame _ _ _ _ _ _) (by decide) ?_
    exact .refl _
  · refine .set_ex (by decide) ?_
    exact .refl _

theorem serveRetry_frame (s : State) (source : Nat) (x : Session) (e : CacheEntry) :
    Frame [.objs, .ex, .sorus] s (serveRetry s source x e) := by
  unfold serveRetry
  refine .step (State.inc64_frame _ _ _ _) (by decide) ?_
  refine .step (answerFrom_frame _ _ _ _ _ _ _ _) (by decide) ?_
  exact .refl _

theorem request_frame {m : List Comp} {s t : State} {sess req : Nat} {lane : Lane} {c : Instr} {carry : State → Nat → State}
    (hs : sub [.objs, .ex, .sorus, .lib] m = true) (hc : ∀ s l, Frame m s (carry s l)) (h : Frame m s t) :
    Frame m s (request t sess req lane c carry) := by
  have he : m.contains .ex = true := by simp_all [sub]
  have hx : ∀ (u : State) (i : Nat) (x : Session), Frame m s u → Frame m s (u.setSession i x) := fun u i x hu =>
    .step (State.setSession_frame _ _ _) (by simp_all [sub]) hu
  have hl : ∀ (p : Prop) [Decidable p] (u : State), Frame m s u → Frame m s (if p then closeIfSpent u sess else u) := fun p _ u hu =>
    .ite (.step (closeIfSpent_frame _ _) (by simp_all [sub]) hu) hu
  have ha : ∀ (u : State) (k : Nat) (b : Bool) (r : Reply), Frame m s u → Frame m s (answerFrom k b u sess req 0 0 r) :=
    fun u k b r hu => .step (answerFrom_frame _ _ _ _ _ _ _ _) (by simp_all [sub]) hu
  unfold request
  conv => zeta
  split
  · refine .ite (.ite ?_ ?_) ?_
    · exact .set_ex he h
    · exact h.trans (hc _ _)
    · exact .step (dropSession_frame _) (by simp_all [sub]) h
  · split
    · exact hl _ _ (.step (serveRetry_frame _ _ _ _) (by simp_all [sub]) (hx _ _ _ h))
    · exact .ite (hx _ _ _ h) (.ite (hl _ _ ((hx _ _ _ h).trans (hc _ _)))
        (.ite (.ite (hx _ _ _ (hx _ _ _ h)) (hl _ _ (ha _ _ _ _ (hx _ _ _ h)))) (hl _ _ ((hx _ _ _ h).trans (hc _ _)))))

theorem conclude_frame {m : List Comp} {s : State} (sess req addr sel : Nat) {p : State × Verdict} (hs : sub [.objs, .ex, .sorus] m = true)
    (h : Frame1 m s p) : Frame m s (conclude sess req addr sel p) := by
  obtain ⟨t, v⟩ := p
  cases v
  · exact .step (answer_frame _ _ _ _ _ _) hs h
  · exact .step (answer_frame _ _ _ _ _ _) hs h
  · exact .step (State.owe_frame _ _ _ _ _ _) (by simp_all [sub]) h

theorem hostWrite_frame {m : List Comp} {s t : State} {sess addr sel : Nat} {v : Int} {eff : State → State × Verdict}
    (hs : sub [.objs, .ex, .sorus, .lib] m = true) (he : ∀ s, Frame1 m s (eff s)) (h : Frame m s t) :
    Frame m s (hostWrite t sess addr sel v eff) := by
  unfold hostWrite
  refine request_frame hs (fun u l => ?_) h
  refine conclude_frame _ _ _ _ (by simp_all [sub]) ?_
  split
  · exact .pair (.refl _)
  · exact .ite (.pair (.refl _)) (he _)

theorem hostOctets_frame {m : List Comp} {s t : State} {c : Instr} {sess addr sel : Nat} {eff : State → State × Verdict}
    (hs : sub [.objs, .ex, .sorus, .lib] m = true) (he : ∀ s, Frame1 m s (eff s)) (h : Frame m s t) :
    Frame m s (hostOctets t c sess addr sel eff) := by
  unfold hostOctets
  refine request_frame hs (fun u l => ?_) h
  refine conclude_frame _ _ _ _ (by simp_all [sub]) ?_
  split
  · exact .pair (.refl _)
  · exact he _

theorem errTests_frame (s : State) (e : Nat) (t : Int) (pa : Sample) (pb : Sample) : Frame1 [.mon] s (errTests s e t pa pb) := by
  unfold errTests
  conv => zeta
  split
  split
  refine .pair ?_
  refine .fst (by assumption) ?_
  refine .step (runKernel_frame _ _ _ _) (by decide) ?_
  exact .refl _

theorem noteNoise_frame (s : State) (e : Nat) (y : Elem) : Frame [.cal] s (noteNoise s e y) := by
  unfold noteNoise
  conv => zeta
  split
  · exact .refl _
  · refine .ite ?_ ?_
    · refine .step (State.putRun_frame _ _) (by decide) ?_
      exact .refl _
    · exact .refl _

theorem evalLaw_frame (s : State) (e : Nat) (x : Elem) (pa : Sample) (pb : Sample) (dark : Bool) (unobs : Bool) :
    Frame1 [.mon] s (evalLaw s e x pa pb dark unobs) := by
  unfold evalLaw
  refine .ite ?_ ?_
  · refine .pair ?_
    exact .refl _
  · conv => zeta
    split
    split
    refine .pair ?_
    refine .fst (by assumption) ?_
    refine .step (errTests_frame _ _ _ _ _) (by decide) ?_
    exact .refl _

theorem evalEnd_frame (s : State) (e : Nat) (old : Int) (stepped : Bool) (y : Elem) :
    Frame [.lobes, .sorus, .drv, .loops, .cal] s (evalEnd s e old stepped y) := by
  unfold evalEnd
  refine .ite ?_ ?_
  · refine .step (followPhi_frame _ _) (by decide) ?_
    refine .ite ?_ ?_
    · refine .step (noteNoise_frame _ _ _) (by decide) ?_
      refine .step (State.setElem_frame _ _ _) (by decide) ?_
      exact .refl _
    · refine .step (State.setElem_frame _ _ _) (by decide) ?_
      exact .refl _
  · refine .ite ?_ ?_
    · refine .step (noteNoise_frame _ _ _) (by decide) ?_
      refine .step (State.setElem_frame _ _ _) (by decide) ?_
      exact .refl _
    · refine .step (State.setElem_frame _ _ _) (by decide) ?_
      exact .refl _

theorem evaluate_frame (s : State) (e : Nat) (pa : Sample) (pb : Sample) (ua : Sample) (ub : Sample) :
    Frame [.lobes, .sorus, .drv, .loops, .mon, .cal] s (evaluate s e pa pb ua ub) := by
  unfold evaluate
  refine .ite ?_ ?_
  · refine .step (State.setElem_frame _ _ _) (by decide) ?_
    exact .refl _
  · refine .ite ?_ ?_
    · refine .step (State.setElem_frame _ _ _) (by decide) ?_
      exact .refl _
    · refine .step (evalEnd_frame _ _ _ _ _) (by decide) ?_
      refine .of1 ?_
      refine .step (evalLaw_frame _ _ _ _ _ _ _) (by decide) ?_
      exact .refl _

theorem noteDecision_frame (s : State) (e : Nat) (old : LoopState) : Frame [.loops] s (noteDecision s e old) := by
  unfold noteDecision
  refine .step (State.setColumn_frame _ _ _) (by decide) ?_
  exact .refl _

theorem execElementEvaluation_frame (e : Nat) (s : State) (s' : State) (h : execElementEvaluation e s = .next s') :
    Frame [.ex, .lobes, .sorus, .drv, .loops, .mon, .cal] s s' := by
  unfold execElementEvaluation at h
  refine finish_frame h ?_
  conv => zeta
  split
  · refine .ite ?_ ?_
    · refine .step (noteDecision_frame _ _ _) (by decide) ?_
      refine .step (evaluate_frame _ _ _ _ _ _) (by decide) ?_
      exact .refl _
    · refine .step (State.setElem_frame _ _ _) (by decide) ?_
      exact .refl _
  · exact .refl _

theorem outerLaw_frame (s : State) (e : Nat) (leak : Sample) (want : Sample) :
    Frame [.sorus, .loops, .mon] s (outerLaw s e leak want) := by
  unfold outerLaw
  conv => zeta
  split
  split
  split
  · refine .fst (by assumption) ?_
    refine .step (runKernel_frame _ _ _ _) (by decide) ?_
    exact .refl _
  · refine .step (noteRatio_frame _ _) (by decide) ?_
    refine .step (State.setElem_frame _ _ _) (by decide) ?_
    refine .fst (by assumption) ?_
    refine .step (runKernel_frame _ _ _ _) (by decide) ?_
    exact .refl _

theorem outerEnd_frame (s : State) (e : Nat) : Frame [.objs, .sorus, .loops, .mon] s (outerEnd s e) := by
  unfold outerEnd
  conv => zeta
  split
  · exact .refl _
  · split
    refine .ite ?_ ?_
    · refine .step (outerLaw_frame _ _ _ _) (by decide) ?_
      refine .step (countStore_frame _ _ _ _) (by decide) ?_
      refine .step (countStore_frame _ _ _ _) (by decide) ?_
      exact .refl _
    · refine .step (countStore_frame _ _ _ _) (by decide) ?_
      refine .step (countStore_frame _ _ _ _) (by decide) ?_
      exact .refl _

theorem execOuterPeriodEnd_frame (e : Nat) (s : State) (s' : State) (h : execOuterPeriodEnd e s = .next s') :
    Frame [.objs, .ex, .sorus, .loops, .mon] s s' := by
  unfold execOuterPeriodEnd at h
  refine finish_frame h ?_
  refine .ite ?_ ?_
  · refine .step (outerEnd_frame _ _) (by decide) ?_
    exact .refl _
  · exact .refl _

theorem requestWrap_frame (s : State) (e : Nat) (d : Int) :
    Frame [.objs, .dev, .ex, .funcs, .sorus, .steady, .loops] s (requestWrap s e d) := by
  unfold requestWrap
  refine .ite ?_ ?_
  · exact .refl _
  · conv => zeta
    split
    refine .step (State.setElem_frame _ _ _) (by decide) ?_
    refine .fst (by assumption) ?_
    refine .step (requestGrant_frame _ _) (by decide) ?_
    refine .step (atModeBoundary_frame _ _) (by decide) ?_
    exact .refl _

theorem offload_frame (s : State) (e : Nat) :
    Frame [.objs, .dev, .ex, .funcs, .lobes, .sorus, .drv, .steady, .loops] s (offload s e) := by
  unfold offload
  conv => zeta
  split
  · refine .step (requestWrap_frame _ _ _) (by decide) ?_
    refine .step (State.setElem_frame _ _ _) (by decide) ?_
    exact .refl _
  · refine .ite ?_ ?_
    · refine .ite ?_ ?_
      · refine .step (requestWrap_frame _ _ _) (by decide) ?_
        refine .step (State.setElem_frame _ _ _) (by decide) ?_
        exact .refl _
      · refine .ite ?_ ?_
        · refine .step (requestWrap_frame _ _ _) (by decide) ?_
          refine .step (State.setElem_frame _ _ _) (by decide) ?_
          exact .refl _
        · split
          refine .ite ?_ ?_
          · refine .step (driveTrimmer_frame _ _ _) (by decide) ?_
            refine .step (State.setElem_frame _ _ _) (by decide) ?_
            refine .fst (by assumption) ?_
            refine .step (ceilingPass_frame _ _ _) (by decide) ?_
            refine .step (State.setElem_frame _ _ _) (by decide) ?_
            exact .refl _
          · refine .fst (by assumption) ?_
            refine .step (ceilingPass_frame _ _ _) (by decide) ?_
            refine .step (State.setElem_frame _ _ _) (by decide) ?_
            exact .refl _
    · refine .step (State.setElem_frame _ _ _) (by decide) ?_
      exact .refl _

theorem execOffloadPeriodEnd_frame (e : Nat) (s : State) (s' : State) (h : execOffloadPeriodEnd e s = .next s') :
    Frame [.objs, .dev, .ex, .funcs, .lobes, .sorus, .drv, .steady, .loops] s s' := by
  unfold execOffloadPeriodEnd at h
  refine finish_frame h ?_
  refine .ite ?_ ?_
  · refine .step (offload_frame _ _) (by decide) ?_
    exact .refl _
  · exact .refl _

theorem execWrapStart_frame (e : Nat) (s : State) (s' : State) (h : execWrapStart e s = .next s') :
    Frame [.ex, .sorus, .loops] s s' := by
  unfold execWrapStart at h
  refine finish_frame h ?_
  conv => zeta
  split
  · exact .refl _
  · refine .ite ?_ ?_
    · refine .step (State.setElem_frame _ _ _) (by decide) ?_
      exact .refl _
    · exact .refl _

theorem execWrapStalled_frame (e : Nat) (s : State) (s' : State) (h : execWrapStalled e s = .next s') :
    Frame [.objs, .ex, .sorus, .loops] s s' := by
  unfold execWrapStalled at h
  refine finish_frame h ?_
  refine .ite ?_ ?_
  · refine .step (raiseA_frame _ _ _) (by decide) ?_
    refine .step (State.setElem_frame _ _ _) (by decide) ?_
    exact .refl _
  · exact .refl _

theorem sourceLost_frame (s : State) (n : Nat) : Frame [.objs, .ex, .sorus, .loops] s (sourceLost s n) := by
  unfold sourceLost
  refine .ite ?_ ?_
  · exact .refl _
  · refine .step (raiseA_frame _ _ _) (by decide) ?_
    refine .set_loops (by decide) ?_
    exact .refl _

theorem voaTargetStep_frame (s : State) (o : Nat) (v : Voa) : Frame1 [.objs, .ex, .sorus, .loops] s (voaTargetStep s o v) := by
  unfold voaTargetStep
  conv => zeta
  split
  · refine .ite ?_ ?_
    · refine .pair ?_
      refine .set_loops (by decide) ?_
      exact .refl _
    · refine .pair ?_
      refine .step (sourceLost_frame _ _) (by decide) ?_
      exact .refl _
  · refine .pair ?_
    exact .refl _

theorem voaLaw_frame (s : State) (o : Nat) (v : Voa) (p : Int) : Frame [.objs, .lobes, .drv, .loops] s (voaLaw s o v p) := by
  unfold voaLaw
  refine .ite ?_ ?_
  · refine .step (State.setVoa_frame _ _ _) (by decide) ?_
    exact .refl _
  · conv => zeta
    split
    refine .ite ?_ ?_
    · refine .step (State.setVoa_frame _ _ _) (by decide) ?_
      refine .fst (by assumption) ?_
      refine .ite ?_ ?_
      · refine .pair ?_
        exact .refl _
      · refine .step (ceilingPass_frame _ _ _) (by decide) ?_
        exact .refl _
    · refine .step (writeTarget_frame _ _ _) (by decide) ?_
      refine .step (State.setVoa_frame _ _ _) (by decide) ?_
      refine .fst (by assumption) ?_
      refine .ite ?_ ?_
      · refine .pair ?_
        exact .refl _
      · refine .step (ceilingPass_frame _ _ _) (by decide) ?_
        exact .refl _

theorem voaPeriod_frame (s : State) (o : Nat) : Frame [.objs, .ex, .lobes, .sorus, .drv, .loops] s (voaPeriod s o) := by
  unfold voaPeriod
  conv => zeta
  split
  split
  refine .ite ?_ ?_
  · refine .step (voaLaw_frame _ _ _ _) (by decide) ?_
    refine .fst (by assumption) ?_
    refine .step (voaTargetStep_frame _ _ _) (by decide) ?_
    refine .ite ?_ ?_
    · refine .step (countStore_frame _ _ _ _) (by decide) ?_
      exact .refl _
    · exact .refl _
  · refine .step (State.setVoa_frame _ _ _) (by decide) ?_
    refine .fst (by assumption) ?_
    refine .step (voaTargetStep_frame _ _ _) (by decide) ?_
    refine .ite ?_ ?_
    · refine .step (countStore_frame _ _ _ _) (by decide) ?_
      exact .refl _
    · exact .refl _

theorem noteVoaDecision_frame (s : State) (o : Nat) (old : Voa) : Frame [.loops] s (noteVoaDecision s o old) := by
  unfold noteVoaDecision
  refine .step (State.setColumn_frame _ _ _) (by decide) ?_
  exact .refl _

theorem execVoaPeriodEnd_frame (o : Nat) (s : State) (s' : State) (h : execVoaPeriodEnd o s = .next s') :
    Frame [.objs, .ex, .lobes, .sorus, .drv, .loops] s s' := by
  unfold execVoaPeriodEnd at h
  refine finish_frame h ?_
  refine .ite ?_ ?_
  · refine .step (noteVoaDecision_frame _ _ _) (by decide) ?_
    refine .step (voaPeriod_frame _ _) (by decide) ?_
    exact .refl _
  · exact .refl _

theorem effSetpoint_frame (e : Nat) (v : Int) (s : State) : Frame1 [.objs, .sorus, .loops] s (effSetpoint e v s) := by
  unfold effSetpoint
  refine .pair ?_
  refine .step (State.setElem_frame _ _ _) (by decide) ?_
  refine .step (State.setObj_frame _ _ _ _) (by decide) ?_
  exact .refl _

theorem execSetpoint_frame (sess : Nat) (e : Nat) (v : Int) (s : State) (s' : State) (h : execSetpoint sess e v s = .next s') :
    Frame [.objs, .ex, .sorus, .loops, .lib] s s' := by
  unfold execSetpoint at h
  refine finish_frame h ?_
  refine hostWrite_frame (by decide) (fun _ => ?_) ?_ 
  · refine .step (effSetpoint_frame _ _ _) (by decide) ?_
    exact .refl _
  · exact .refl _

theorem effLoopEnable_frame (e : Nat) (v : Int) (s : State) : Frame1 [.objs, .sorus, .loops] s (effLoopEnable e v s) := by
  unfold effLoopEnable
  refine .pair ?_
  refine .step (State.setElem_frame _ _ _) (by decide) ?_
  refine .step (State.setLaw_frame _ _ _ _) (by decide) ?_
  exact .refl _

theorem execLoopEnable_frame (sess : Nat) (e : Nat) (v : Int) (s : State) (s' : State) (h : execLoopEnable sess e v s = .next s') :
    Frame [.objs, .ex, .sorus, .loops, .lib] s s' := by
  unfold execLoopEnable at h
  refine finish_frame h ?_
  refine hostWrite_frame (by decide) (fun _ => ?_) ?_ 
  · refine .step (effLoopEnable_frame _ _ _) (by decide) ?_
    exact .refl _
  · exact .refl _

theorem effVoaEnable_frame (o : Nat) (v : Int) (s : State) : Frame1 [.objs, .loops] s (effVoaEnable o v s) := by
  unfold effVoaEnable
  refine .ite ?_ ?_
  · refine .pair ?_
    refine .step (State.setVoa_frame _ _ _) (by decide) ?_
    refine .step (State.setObj_frame _ _ _ _) (by decide) ?_
    exact .refl _
  · refine .ite ?_ ?_
    · refine .pair ?_
      refine .step (State.setVoa_frame _ _ _) (by decide) ?_
      refine .step (State.setObj_frame _ _ _ _) (by decide) ?_
      exact .refl _
    · refine .pair ?_
      refine .step (State.setObj_frame _ _ _ _) (by decide) ?_
      exact .refl _

theorem execVoaEnable_frame (sess : Nat) (o : Nat) (v : Int) (s : State) (s' : State) (h : execVoaEnable sess o v s = .next s') :
    Frame [.objs, .ex, .sorus, .loops, .lib] s s' := by
  unfold execVoaEnable at h
  refine finish_frame h ?_
  refine hostWrite_frame (by decide) (fun _ => ?_) ?_ 
  · refine .step (effVoaEnable_frame _ _ _) (by decide) ?_
    exact .refl _
  · exact .refl _

theorem driveRefused_frame (s : State) (n : Nak) (idx : Nat) : Frame1 [.objs, .ex, .sorus] s (driveRefused s n idx) := by
  unfold driveRefused
  refine .pair ?_
  refine .step (raiseA_frame _ _ _) (by decide) ?_
  refine .step (State.incSat_frame _ _ _ _) (by decide) ?_
  exact .refl _

theorem effHostDrive_frame (recs : List DriveRec) (s : State) :
    Frame1 [.objs, .dev, .ex, .sorus, .steady, .loops] s (effHostDrive recs s) := by
  unfold effHostDrive
  refine .ite ?_ ?_
  · refine .pair ?_
    exact .refl _
  · conv => zeta
    split
    · refine .step (driveRefused_frame _ _ _) (by decide) ?_
      exact .refl _
    · split
      refine .ite ?_ ?_
      · refine .pair ?_
        refine .set_loops (by decide) ?_
        refine .step (State.incSat_frame _ _ _ _) (by decide) ?_
        refine .fst (by assumption) ?_
        refine .step (grantNow_frame _ _) (by decide) ?_
        exact .refl _
      · refine .step (driveRefused_frame _ _ _) (by decide) ?_
        refine .fst (by assumption) ?_
        refine .step (grantNow_frame _ _) (by decide) ?_
        exact .refl _

theorem execHostDrive_frame (sess : Nat) (recs : List DriveRec) (s : State) (s' : State) (h : execHostDrive sess recs s = .next s') :
    Frame [.objs, .dev, .ex, .sorus, .steady, .loops, .lib] s s' := by
  unfold execHostDrive at h
  refine finish_frame h ?_
  refine hostOctets_frame (by decide) (fun _ => ?_) ?_ 
  · refine .step (effHostDrive_frame _ _) (by decide) ?_
    exact .refl _
  · exact .refl _

theorem applyRec_frame (s : State) (r : DriveRec) : Frame [.lobes, .sorus, .drv, .loops] s (applyRec s r) := by
  unfold applyRec
  refine .ite ?_ ?_
  · refine .ite ?_ ?_
    · exact .refl _
    · refine .step (driveVoa_frame _ _) (by decide) ?_
      refine .step (State.setVoa_frame _ _ _) (by decide) ?_
      exact .refl _
  · refine .ite ?_ ?_
    · exact .refl _
    · refine .ite ?_ ?_
      · refine .step (driveElem_frame _ _) (by decide) ?_
        refine .step (State.setElem_frame _ _ _) (by decide) ?_
        exact .refl _
      · refine .step (driveTrimmer_frame _ _ _) (by decide) ?_
        refine .step (State.setElem_frame _ _ _) (by decide) ?_
        exact .refl _

theorem applyBlocks_frame (s : State) : Frame [.lobes, .sorus, .drv, .loops] s (applyBlocks s) := by
  unfold applyBlocks
  refine .set_loops (by decide) ?_
  refine .foldl (fun _ _ => ?_) ?_
  · refine .step (applyRec_frame _ _) (by decide) ?_
    exact .refl _
  · exact .refl _

theorem execHostDriveApply_frame (s : State) (s' : State) (h : execHostDriveApply s = .next s') :
    Frame [.ex, .lobes, .sorus, .drv, .loops] s s' := by
  unfold execHostDriveApply at h
  refine finish_frame h ?_
  refine .ite ?_ ?_
  · refine .step (applyBlocks_frame _) (by decide) ?_
    exact .refl _
  · exact .refl _

theorem tickOnce_frame (s : State) : Frame [.tick, .time] s (tickOnce s) := by
  unfold tickOnce
  refine .ite ?_ ?_
  · refine .set_tick_time (by decide) (by decide) ?_
    exact .refl _
  · exact .refl _

theorem trigSource_frame (s : State) (src : Nat) : Frame [.sorus] s (trigSource s src) := by
  unfold trigSource
  refine .foldl (fun _ _ => ?_) ?_
  · refine .ite ?_ ?_
    · refine .set_sorus (by decide) ?_
      exact .refl _
    · exact .refl _
  · exact .refl _

theorem ringOverflow_frame (s : State) (r : Nat) : Frame [.objs, .ex, .sorus] s (ringOverflow s r) := by
  unfold ringOverflow
  refine .step (raiseS_frame _ _ _) (by decide) ?_
  exact .refl _

theorem ringAll_frame (s : State) (takes : Ring → Bool) (kind : Nat) (flags : Nat) (time : Int) (body : List Byte) :
    Frame [.objs, .ex, .sorus] s (ringAll s takes kind flags time body) := by
  unfold ringAll
  refine .foldl (fun _ _ => ?_) ?_
  · refine .ite ?_ ?_
    · exact .refl _
    · split
      refine .ite ?_ ?_
      · refine .step (ringOverflow_frame _ _) (by decide) ?_
        refine .fst (by assumption) ?_
        refine .step (ringPut_frame _ _ _ _ _ _) (by decide) ?_
        exact .refl _
      · refine .fst (by assumption) ?_
        refine .step (ringPut_frame _ _ _ _ _ _) (by decide) ?_
        exact .refl _
  · exact .refl _

theorem setLog_frame (s : State) (n : Nat) (e : LogEntry) : Frame [.objs, .ex, .sorus, .com] s (setLog s n e) := by
  unfold setLog
  refine .step (ringAll_frame _ _ _ _ _ _) (by decide) ?_
  refine .set_com (by decide) ?_
  exact .refl _

theorem updateLog_frame (s : State) (n : Nat) (e : LogEntry) : Frame [.objs, .ex, .sorus, .com] s (updateLog s n e) := by
  unfold updateLog
  refine .ite ?_ ?_
  · refine .step (setLog_frame _ _ _) (by decide) ?_
    exact .refl _
  · exact .refl _

theorem noteUnstored_frame (s : State) : Frame [.cal] s (noteUnstored s) := by
  unfold noteUnstored
  refine .ite ?_ ?_
  · exact .refl _
  · refine .set_cal (by decide) ?_
    exact .refl _

theorem bumpCalGen_frame (s : State) : Frame [.objs, .cal] s (bumpCalGen s) := by
  unfold bumpCalGen
  refine .step (noteUnstored_frame _) (by decide) ?_
  refine .step (State.setObjN_frame _ _ _ _) (by decide) ?_
  exact .refl _

theorem endCal_frame (s : State) (r : CalReq) (status : Nat) (quality : Int) (flags : Nat) :
    Frame [.objs, .dev, .ex, .sorus, .steady, .cal] s (endCal s r status quality flags) := by
  unfold endCal
  refine .step (releaseGrant_frame _ _ _) (by decide) ?_
  refine .step (withdraw_frame _ _ _) (by decide) ?_
  refine .step (raiseA_frame _ _ _) (by decide) ?_
  refine .step (State.setObjN_frame _ _ _ _) (by decide) ?_
  refine .step (State.setObj_frame _ _ _ _) (by decide) ?_
  refine .step (State.setObjN_frame _ _ _ _) (by decide) ?_
  refine .step (State.setObjN_frame _ _ _ _) (by decide) ?_
  refine .set_cal (by decide) ?_
  exact .refl _

theorem restoreCodes_frame (s : State) (saved : List (Nat × Nat)) : Frame [.lobes, .drv] s (restoreCodes s saved) := by
  unfold restoreCodes
  refine .foldl (fun _ _ => ?_) ?_
  · refine .ite ?_ ?_
    · refine .step (writeDirect_frame _ _ _) (by decide) ?_
      exact .refl _
    · refine .step (writeTarget_frame _ _ _) (by decide) ?_
      exact .refl _
  · exact .refl _

theorem laneHome_frame (s : State) (u : Nat) : Frame [.drv, .cal] s (laneHome s u) := by
  unfold laneHome
  conv => zeta
  split
  · refine .step (State.setChan_frame _ _ _) (by decide) ?_
    refine .step (State.setBank_frame _ _ _) (by decide) ?_
    refine .set_cal (by decide) ?_
    exact .refl _
  · refine .set_cal (by decide) ?_
    exact .refl _

theorem returnLane_frame (s : State) (u : Nat) : Frame [.drv, .cal] s (returnLane s u) := by
  unfold returnLane
  refine .ite ?_ ?_
  · refine .step (laneHome_frame _ _) (by decide) ?_
    exact .refl _
  · refine .ite ?_ ?_
    · exact .refl _
    · refine .step (State.setChan_frame _ _ _) (by decide) ?_
      exact .refl _

theorem returnConv_frame (s : State) (cv : Nat) (c : Int × Int) : Frame [.objs, .mon] s (returnConv s cv c) := by
  unfold returnConv
  refine .step (State.setObjN_frame _ _ _ _) (by decide) ?_
  refine .step (setCoef_frame _ _ _ _) (by decide) ?_
  refine .step (setCoef_frame _ _ _ _) (by decide) ?_
  refine .set_mon (by decide) ?_
  exact .refl _

theorem returnFocus_frame (s : State) (r : CalRun) : Frame [.mon] s (returnFocus s r) := by
  unfold returnFocus
  conv => zeta
  split
  · exact .refl _
  · refine .set_mon (by decide) ?_
    exact .refl _

theorem lendBack_frame (s : State) (r : CalRun) : Frame [.cal] s (lendBack s r) := by
  unfold lendBack
  conv => zeta
  split
  · refine .set_cal (by decide) ?_
    exact .refl _
  · exact .refl _

theorem returnLanes_frame (s : State) (r : CalRun) : Frame [.objs, .mon, .cal] s (returnLanes s r) := by
  unfold returnLanes
  refine .ite ?_ ?_
  · refine .step (returnFocus_frame _ _) (by decide) ?_
    split
    · refine .step (returnConv_frame _ _ _) (by decide) ?_
      refine .step (lendBack_frame _ _) (by decide) ?_
      exact .refl _
    · refine .step (lendBack_frame _ _) (by decide) ?_
      exact .refl _
  · split
    · refine .step (returnConv_frame _ _ _) (by decide) ?_
      refine .step (lendBack_frame _ _) (by decide) ?_
      exact .refl _
    · refine .step (lendBack_frame _ _) (by decide) ?_
      exact .refl _

theorem returnBack_frame (s : State) (now : Bool) : Frame [.drv, .cal] s (returnBack s now) := by
  unfold returnBack
  split
  · refine .ite ?_ ?_
    · refine .step (laneHome_frame _ _) (by decide) ?_
      exact .refl _
    · refine .ite ?_ ?_
      · exact .refl _
      · refine .step (returnLane_frame _ _) (by decide) ?_
        exact .refl _
  · exact .refl _

theorem abortCal_frame (s : State) (reason : Nat) :
    Frame [.objs, .dev, .ex, .lobes, .sorus, .drv, .steady, .mon, .cal] s (abortCal s reason) := by
  unfold abortCal
  conv => zeta
  split
  · exact .refl _
  · refine .ite ?_ ?_
    · exact .refl _
    · refine .step (endCal_frame _ _ _ _ _) (by decide) ?_
      refine .ite ?_ ?_
      · refine .step (restoreCodes_frame _ _) (by decide) ?_
        refine .step (returnBack_frame _ _) (by decide) ?_
        refine .step (returnLanes_frame _ _) (by decide) ?_
        exact .refl _
      · refine .step (returnBack_frame _ _) (by decide) ?_
        refine .step (returnLanes_frame _ _) (by decide) ?_
        exact .refl _

theorem backLaneFault_frame (s : State) (b : Nat) (lane : Nat) : Frame [.drv, .cal] s (backLaneFault s b lane) := by
  unfold backLaneFault
  split
  · refine .ite ?_ ?_
    · refine .step (laneHome_frame _ _) (by decide) ?_
      exact .refl _
    · exact .refl _
  · exact .refl _

theorem calLaneFault_frame (s : State) (b : Nat) (lane : Nat) :
    Frame [.objs, .dev, .ex, .lobes, .sorus, .drv, .steady, .mon, .cal] s (calLaneFault s b lane) := by
  unfold calLaneFault
  conv => zeta
  split
  · refine .ite ?_ ?_
    · refine .step (abortCal_frame _ _) (by decide) ?_
      refine .step (backLaneFault_frame _ _ _) (by decide) ?_
      exact .refl _
    · refine .step (backLaneFault_frame _ _ _) (by decide) ?_
      exact .refl _
  · refine .step (backLaneFault_frame _ _ _) (by decide) ?_
    exact .refl _

theorem abortCalByCommit_frame (s : State) (c : Commit) :
    Frame [.objs, .dev, .ex, .lobes, .sorus, .drv, .steady, .mon, .cal] s (abortCalByCommit s c) := by
  unfold abortCalByCommit
  split
  · refine .ite ?_ ?_
    · refine .step (restoreCodes_frame _ _) (by decide) ?_
      refine .step (abortCal_frame _ _) (by decide) ?_
      exact .refl _
    · exact .refl _
  · exact .refl _

theorem State.setAdapt_frame (s : State) (n : Nat) (a : Adapt) : Frame [.cal] s (State.setAdapt s n a) := by
  unfold State.setAdapt
  refine .set_cal (by decide) ?_
  exact .refl _

theorem moveA2_frame (s : State) (n : Nat) : Frame [.objs] s (moveA2 s n) := by
  unfold moveA2
  refine .step (State.setObj_frame _ _ _ _) (by decide) ?_
  exact .refl _

theorem adaptFull_frame (s : State) (host : Bool) (n : Nat) (acc : Int) :
    Frame [.objs, .ex, .sorus, .cal] s (adaptFull s host n acc) := by
  unfold adaptFull
  refine .ite ?_ ?_
  · refine .step (raiseA_frame _ _ _) (by decide) ?_
    refine .step (State.setAdapt_frame _ _ _) (by decide) ?_
    refine .step (State.setObjN_frame _ _ _ _) (by decide) ?_
    refine .step (State.setObj_frame _ _ _ _) (by decide) ?_
    exact .refl _
  · refine .step (State.setAdapt_frame _ _ _) (by decide) ?_
    refine .step (moveA2_frame _ _) (by decide) ?_
    refine .step (State.setObjN_frame _ _ _ _) (by decide) ?_
    refine .step (State.setObj_frame _ _ _ _) (by decide) ?_
    exact .refl _

theorem adaptOne_frame (s : State) (host : Bool) (n : Nat) (rho : Int) :
    Frame [.objs, .ex, .sorus, .cal] s (adaptOne s host n rho) := by
  unfold adaptOne
  refine .ite ?_ ?_
  · refine .step (adaptFull_frame _ _ _ _) (by decide) ?_
    exact .refl _
  · refine .step (State.setAdapt_frame _ _ _) (by decide) ?_
    exact .refl _

theorem adaptAll_frame (s : State) (host : Bool) (l : List (Nat × Int × Int)) :
    Frame [.objs, .ex, .sorus, .cal] s (adaptAll s host l) := by
  unfold adaptAll
  refine .ite ?_ ?_
  · refine .foldl (fun _ _ => ?_) ?_
    · refine .step (adaptOne_frame _ _ _ _) (by decide) ?_
      exact .refl _
    · exact .refl _
  · refine .step (bumpCalGen_frame _) (by decide) ?_
    refine .foldl (fun _ _ => ?_) ?_
    · refine .step (adaptOne_frame _ _ _ _) (by decide) ?_
      exact .refl _
    · exact .refl _

theorem adaptBoundary_frame (s : State) : Frame [.objs, .ex, .funcs, .sorus, .cal] s (adaptBoundary s) := by
  unfold adaptBoundary
  refine .ite ?_ ?_
  · refine .ite ?_ ?_
    · refine .foldl (fun _ _ => ?_) ?_
      · refine .step (State.setAdapt_frame _ _ _) (by decide) ?_
        refine .step (moveA2_frame _ _) (by decide) ?_
        exact .refl _
      · refine .step (fallback_frame _ _) (by decide) ?_
        refine .set_cal (by decide) ?_
        exact .refl _
    · refine .step (bumpCalGen_frame _) (by decide) ?_
      refine .foldl (fun _ _ => ?_) ?_
      · refine .step (State.setAdapt_frame _ _ _) (by decide) ?_
        refine .step (moveA2_frame _ _) (by decide) ?_
        exact .refl _
      · refine .step (fallback_frame _ _) (by decide) ?_
        refine .set_cal (by decide) ?_
        exact .refl _
  · refine .step (atModeBoundary_frame _ _) (by decide) ?_
    exact .refl _

theorem State.putCommit_frame (s : State) (c : Commit) : Frame [.com] s (State.putCommit s c) := by
  unfold State.putCommit
  refine .set_com (by decide) ?_
  exact .refl _

theorem State.dropCommit_frame (s : State) (id : Nat) : Frame [.com] s (State.dropCommit s id) := by
  unfold State.dropCommit
  refine .set_com (by decide) ?_
  exact .refl _

theorem State.stepCommit_frame (s : State) (c : Commit) : Frame [.objs, .ex, .sorus, .com] s (State.stepCommit s c) := by
  unfold State.stepCommit
  refine .step (updateLog_frame _ _ _) (by decide) ?_
  refine .step (State.putCommit_frame _ _) (by decide) ?_
  exact .refl _

theorem State.newLog_frame (s : State) (c : Commit) : Frame [.objs, .ex, .sorus, .com] s (State.newLog s c) := by
  unfold State.newLog
  refine .step (setLog_frame _ _ _) (by decide) ?_
  refine .set_com (by decide) ?_
  exact .refl _

theorem peerFrame_frame (s : State) (id : Nat) (t : Int) (dest : List Byte) :
    Frame [.objs, .ex, .sorus, .com] s (peerFrame s id t dest) := by
  unfold peerFrame
  refine .step (takeGroupSeq_frame _) (by decide) ?_
  refine .set_ex_com (by decide) (by decide) ?_
  refine .step (sendTo_frame _ _ _ _) (by decide) ?_
  exact .refl _

theorem sendPeerAbort_frame (s : State) (c : Commit) : Frame1 [.objs, .ex, .sorus, .com] s (sendPeerAbort s c) := by
  unfold sendPeerAbort
  refine .ite ?_ ?_
  · refine .pair ?_
    exact .refl _
  · refine .ite ?_ ?_
    · refine .pair ?_
      refine .step (peerFrame_frame _ _ _ _) (by decide) ?_
      exact .refl _
    · refine .ite ?_ ?_
      · refine .pair ?_
        refine .set_ex (by decide) ?_
        exact .refl _
      · refine .pair ?_
        exact .refl _

theorem flushGroup_frame (s : State) : Frame [.objs, .ex, .sorus, .com] s (flushGroup s) := by
  unfold flushGroup
  refine .foldl (fun _ _ => ?_) ?_
  · refine .step (groupAnswer_frame _ _) (by decide) ?_
    exact .refl _
  · refine .foldl (fun _ _ => ?_) ?_
    · refine .ite ?_ ?_
      · refine .step (peerFrame_frame _ _ _ _) (by decide) ?_
        exact .refl _
      · exact .refl _
    · refine .set_ex (by decide) ?_
      exact .refl _

theorem refuseHeld_frame (s : State) (h : HeldPrepare) (n : Nak) :
    Frame [.objs, .ex, .sorus, .steady, .lib, .com] s (refuseHeld s h n) := by
  unfold refuseHeld
  refine .step (answerCommit_frame _ _ _ _) (by decide) ?_
  refine .set_com (by decide) ?_
  refine .step (withdraw_frame _ _ _) (by decide) ?_
  exact .refl _

theorem slotAfter_frame (s : State) (slot : Nat) : Frame [.objs, .ex, .sorus, .lib, .mat] s (slotAfter s slot) := by
  unfold slotAfter
  refine .ite ?_ ?_
  · refine .step (invalidate_frame _ _ _) (by decide) ?_
    refine .set_mat (by decide) ?_
    exact .refl _
  · exact .refl _

theorem abandon_frame (s : State) (c : Commit) (why : Outc) :
    Frame [.objs, .dev, .ex, .sorus, .steady, .lib, .com, .mat] s (abandon s c why) := by
  unfold abandon
  conv => zeta
  split
  split
  · refine .step (nakUnsolicited_frame _ _ _ _ _) (by decide) ?_
    refine .step (slotAfter_frame _ _) (by decide) ?_
    refine .step (raiseA_frame _ _ _) (by decide) ?_
    refine .step (State.capNote_frame _ _) (by decide) ?_
    refine .step (State.incSat_frame _ _ _ _) (by decide) ?_
    refine .step (releaseGrant_frame _ _ _) (by decide) ?_
    refine .step (updateLog_frame _ _ _) (by decide) ?_
    refine .fst (by assumption) ?_
    refine .ite ?_ ?_
    · split
      refine .pair ?_
      refine .fst (by assumption) ?_
      refine .step (sendPeerAbort_frame _ _) (by decide) ?_
      refine .foldl (fun _ _ => ?_) ?_
      · refine .step (refuseHeld_frame _ _ _) (by decide) ?_
        exact .refl _
      · refine .step (State.dropCommit_frame _ _) (by decide) ?_
        exact .refl _
    · refine .pair ?_
      refine .foldl (fun _ _ => ?_) ?_
      · refine .step (refuseHeld_frame _ _ _) (by decide) ?_
        exact .refl _
      · refine .step (State.dropCommit_frame _ _) (by decide) ?_
        exact .refl _
  · refine .step (slotAfter_frame _ _) (by decide) ?_
    refine .step (raiseA_frame _ _ _) (by decide) ?_
    refine .step (State.capNote_frame _ _) (by decide) ?_
    refine .step (State.incSat_frame _ _ _ _) (by decide) ?_
    refine .step (releaseGrant_frame _ _ _) (by decide) ?_
    refine .step (updateLog_frame _ _ _) (by decide) ?_
    refine .fst (by assumption) ?_
    refine .ite ?_ ?_
    · split
      refine .pair ?_
      refine .fst (by assumption) ?_
      refine .step (sendPeerAbort_frame _ _) (by decide) ?_
      refine .foldl (fun _ _ => ?_) ?_
      · refine .step (refuseHeld_frame _ _ _) (by decide) ?_
        exact .refl _
      · refine .step (State.dropCommit_frame _ _) (by decide) ?_
        exact .refl _
    · refine .pair ?_
      refine .foldl (fun _ _ => ?_) ?_
      · refine .step (refuseHeld_frame _ _ _) (by decide) ?_
        exact .refl _
      · refine .step (State.dropCommit_frame _ _) (by decide) ?_
        exact .refl _

theorem refuseAllHeld_frame (s : State) : Frame [.objs, .ex, .sorus, .steady, .lib, .com] s (refuseAllHeld s) := by
  unfold refuseAllHeld
  refine .foldl (fun _ _ => ?_) ?_
  · refine .step (refuseHeld_frame _ _ _) (by decide) ?_
    exact .refl _
  · exact .refl _

theorem abandonAll_frame (s : State) : Frame [.objs, .dev, .ex, .sorus, .steady, .lib, .com, .mat] s (abandonAll s) := by
  unfold abandonAll
  refine .foldl (fun _ _ => ?_) ?_
  · refine .step (abandon_frame _ _ _) (by decide) ?_
    exact .refl _
  · refine .step (refuseAllHeld_frame _) (by decide) ?_
    exact .refl _

theorem revalidateImage_frame (s : State) (c : Commit) :
    Frame1 [.objs, .hbm, .ex, .sorus, .lib, .mat] s (revalidateImage s c) := by
  unfold revalidateImage
  split
  · refine .step (revalidateSlot_frame _ _) (by decide) ?_
    exact .refl _
  · refine .step (revalidateSlot_frame _ _) (by decide) ?_
    exact .refl _
  · refine .pair ?_
    exact .refl _

theorem revalidateCommits_frame (s : State) :
    Frame [.objs, .hbm, .dev, .ex, .sorus, .steady, .lib, .com, .mat] s (revalidateCommits s) := by
  unfold revalidateCommits
  refine .foldl (fun _ _ => ?_) ?_
  · split
    refine .ite ?_ ?_
    · refine .step (abandon_frame _ _ _) (by decide) ?_
      refine .fst (by assumption) ?_
      refine .step (revalidateImage_frame _ _) (by decide) ?_
      exact .refl _
    · refine .fst (by assumption) ?_
      refine .step (revalidateImage_frame _ _) (by decide) ?_
      exact .refl _
  · exact .refl _

theorem acceptPrepare_frame (s : State) (c : Commit) : Frame [.objs, .ex, .sorus, .lib, .com] s (acceptPrepare s c) := by
  unfold acceptPrepare
  refine .step (answerCommit_frame _ _ _ _) (by decide) ?_
  refine .step (State.newLog_frame _ _) (by decide) ?_
  exact .refl _

theorem voaAtT_frame (s : State) (o : Nat) (x : StagedVoa) : Frame [.objs, .lobes, .drv, .loops] s (voaAtT s o x) := by
  unfold voaAtT
  refine .ite ?_ ?_
  · refine .step (voaRetarget_frame _ _) (by decide) ?_
    refine .step (State.setVoa_frame _ _ _) (by decide) ?_
    refine .step (State.setObjN_frame _ _ _ _) (by decide) ?_
    refine .step (State.setObj_frame _ _ _ _) (by decide) ?_
    exact .refl _
  · refine .step (writeTarget_frame _ _ _) (by decide) ?_
    refine .step (voaRetarget_frame _ _) (by decide) ?_
    refine .step (State.setVoa_frame _ _ _) (by decide) ?_
    refine .step (State.setObjN_frame _ _ _ _) (by decide) ?_
    refine .step (State.setObj_frame _ _ _ _) (by decide) ?_
    exact .refl _

theorem elemsAtT_frame (s : State) (c : Commit) : Frame1 [.objs, .sorus, .loops] s (elemsAtT s c) := by
  unfold elemsAtT
  refine .pair ?_
  refine .foldl (fun _ _ => ?_) ?_
  · refine .ite ?_ ?_
    · refine .step (noteRatio_frame _ _) (by decide) ?_
      refine .step (State.setObj_frame _ _ _ _) (by decide) ?_
      refine .step (State.setElem_frame _ _ _) (by decide) ?_
      exact .refl _
    · refine .step (State.setElem_frame _ _ _) (by decide) ?_
      exact .refl _
  · exact .refl _

theorem applyMapping_frame (s : State) (slot : Nat) (portMap : List Nat) (routes : List Nat) :
    Frame [.objs] s (applyMapping s slot portMap routes) := by
  unfold applyMapping
  refine .step (State.setObjN_frame _ _ _ _) (by decide) ?_
  refine .set_objs (by decide) ?_
  exact .refl _

theorem writePhase_frame (s : State) (e : Nat) (x : StagedElem) (phase : Nat) :
    Frame [.lobes, .drv] s (writePhase s e x phase) := by
  unfold writePhase
  refine .step (writeDirect_frame _ _ _) (by decide) ?_
  refine .step (writeDirect_frame _ _ _) (by decide) ?_
  exact .refl _

theorem advanceTemplate_frame (s : State) (e : Nat) (x : StagedElem) : Frame1 [.lobes, .drv] s (advanceTemplate s e x) := by
  unfold advanceTemplate
  conv => zeta
  split
  · refine .pair ?_
    exact .refl _
  · refine .ite ?_ ?_
    · refine .pair ?_
      refine .step (writePhase_frame _ _ _ _) (by decide) ?_
      exact .refl _
    · refine .pair ?_
      exact .refl _

theorem startWave_frame (s : State) (c : Commit) (w : Nat) : Frame1 [.lobes, .drv] s (startWave s c w) := by
  unfold startWave
  refine .pair ?_
  refine .fold1 (fun _ _ => ?_) ?_
  · refine .ite ?_ ?_
    · conv => zeta
      split
      refine .pair ?_
      refine .fst (by assumption) ?_
      refine .step (advanceTemplate_frame _ _ _) (by decide) ?_
      exact .refl _
    · refine .pair ?_
      exact .refl _
  · refine .pair ?_
    exact .refl _

theorem keepLatches_frame (s : State) : Frame [.com] s (keepLatches s) := by
  unfold keepLatches
  refine .foldl (fun _ _ => ?_) ?_
  · refine .step (State.putCommit_frame _ _) (by decide) ?_
    exact .refl _
  · exact .refl _

theorem latchDone_frame (s : State) (c : Commit) (o : Outc) : Frame [.objs, .ex, .sorus, .lib, .mat] s (latchDone s c o) := by
  unfold latchDone
  refine .ite ?_ ?_
  · refine .step (State.incSat_frame _ _ _ _) (by decide) ?_
    refine .step (invalidate_frame _ _ _) (by decide) ?_
    refine .set_mat (by decide) ?_
    exact .refl _
  · refine .ite ?_ ?_
    · exact .refl _
    · refine .step (takeLatch_frame _ _) (by decide) ?_
      exact .refl _

theorem endDone_frame (s : State) (c : Commit) (o : Outc) :
    Frame [.objs, .dev, .ex, .funcs, .sorus, .steady, .cal, .lib, .com, .mat] s (endDone s c o) := by
  unfold endDone
  refine .ite ?_ ?_
  · refine .step (raiseA_frame _ _ _) (by decide) ?_
    refine .step (State.capNote_frame _ _) (by decide) ?_
    refine .step (State.inc64_frame _ _ _ _) (by decide) ?_
    refine .step (State.incSat_frame _ _ _ _) (by decide) ?_
    refine .step (releaseGrant_frame _ _ _) (by decide) ?_
    refine .ite ?_ ?_
    · refine .step (adaptAll_frame _ _ _) (by decide) ?_
      refine .step (latchDone_frame _ _ _) (by decide) ?_
      refine .step (updateLog_frame _ _ _) (by decide) ?_
      refine .step (State.dropCommit_frame _ _) (by decide) ?_
      refine .step (atModeBoundary_frame _ _) (by decide) ?_
      exact .refl _
    · refine .step (latchDone_frame _ _ _) (by decide) ?_
      refine .step (updateLog_frame _ _ _) (by decide) ?_
      refine .step (State.dropCommit_frame _ _) (by decide) ?_
      refine .step (atModeBoundary_frame _ _) (by decide) ?_
      exact .refl _
  · refine .step (State.capNote_frame _ _) (by decide) ?_
    refine .step (State.inc64_frame _ _ _ _) (by decide) ?_
    refine .step (State.incSat_frame _ _ _ _) (by decide) ?_
    refine .step (releaseGrant_frame _ _ _) (by decide) ?_
    refine .ite ?_ ?_
    · refine .step (adaptAll_frame _ _ _) (by decide) ?_
      refine .step (latchDone_frame _ _ _) (by decide) ?_
      refine .step (updateLog_frame _ _ _) (by decide) ?_
      refine .step (State.dropCommit_frame _ _) (by decide) ?_
      refine .step (atModeBoundary_frame _ _) (by decide) ?_
      exact .refl _
    · refine .step (latchDone_frame _ _ _) (by decide) ?_
      refine .step (updateLog_frame _ _ _) (by decide) ?_
      refine .step (State.dropCommit_frame _ _) (by decide) ?_
      refine .step (atModeBoundary_frame _ _) (by decide) ?_
      exact .refl _

theorem State.updFlash_frame (s : State) (f : Flash → Flash) : Frame [.dev] s (State.updFlash s f) := by
  unfold State.updFlash
  refine .set_dev (by decide) ?_
  exact .refl _

theorem calStored_frame (s : State) : Frame [.objs, .dev, .ex, .sorus] s (calStored s) := by
  unfold calStored
  refine .step (raiseA_frame _ _ _) (by decide) ?_
  refine .step (State.setObj_frame _ _ _ _) (by decide) ?_
  refine .step (State.updFlash_frame _ _) (by decide) ?_
  exact .refl _

theorem startStore_frame (s : State) (k : StoreKind) : Frame [.objs, .dev, .ex, .sorus, .cal] s (startStore s k) := by
  unfold startStore
  refine .ite ?_ ?_
  · refine .ite ?_ ?_
    · refine .step (calStored_frame _) (by decide) ?_
      refine .ite ?_ ?_
      · refine .set_cal (by decide) ?_
        exact .refl _
      · exact .refl _
    · refine .ite ?_ ?_
      · refine .set_cal (by decide) ?_
        exact .refl _
      · exact .refl _
  · refine .set_dev (by decide) ?_
    refine .ite ?_ ?_
    · refine .set_cal (by decide) ?_
      exact .refl _
    · exact .refl _

theorem notePostponed_frame (s : State) : Frame [.objs, .ex, .sorus, .cal] s (notePostponed s) := by
  unfold notePostponed
  refine .ite ?_ ?_
  · exact .refl _
  · refine .step (raiseA_frame _ _ _) (by decide) ?_
    refine .set_cal (by decide) ?_
    exact .refl _

theorem pumpStores_frame (s : State) : Frame [.objs, .dev, .ex, .sorus, .cal] s (pumpStores s) := by
  unfold pumpStores
  conv => zeta
  split
  · refine .ite ?_ ?_
    · refine .step (startStore_frame _ _) (by decide) ?_
      refine .set_dev (by decide) ?_
      exact .refl _
    · exact .refl _
  · exact .refl _

theorem autoStore_frame (s : State) (k : StoreKind) : Frame [.objs, .dev, .ex, .sorus, .cal] s (autoStore s k) := by
  unfold autoStore
  refine .ite ?_ ?_
  · exact .refl _
  · refine .step (notePostponed_frame _) (by decide) ?_
    refine .step (pumpStores_frame _) (by decide) ?_
    refine .set_dev (by decide) ?_
    exact .refl _

theorem raiseGroupLimit_frame (s : State) : Frame [.objs, .ex, .sorus, .com] s (raiseGroupLimit s) := by
  unfold raiseGroupLimit
  refine .ite ?_ ?_
  · refine .step (flushGroup_frame _) (by decide) ?_
    refine .set_ex (by decide) ?_
    exact .refl _
  · exact .refl _

theorem regionDone_frame (s : State) (k : StoreKind) (i : Nat) : Frame [.objs, .dev, .ex, .sorus, .com] s (regionDone s k i) := by
  unfold regionDone
  refine .ite ?_ ?_
  · refine .step (raiseA_frame _ _ _) (by decide) ?_
    refine .set_dev (by decide) ?_
    refine .step (State.updFlash_frame _ _) (by decide) ?_
    refine .ite ?_ ?_
    · refine .step (raiseGroupLimit_frame _) (by decide) ?_
      exact .refl _
    · exact .refl _
  · refine .step (State.updFlash_frame _ _) (by decide) ?_
    refine .ite ?_ ?_
    · refine .step (raiseGroupLimit_frame _) (by decide) ?_
      exact .refl _
    · exact .refl _

theorem endStore_frame (s : State) : Frame [.dev] s (endStore s) := by
  unfold endStore
  refine .set_dev (by decide) ?_
  exact .refl _

theorem voidStaged_frame (s : State) (k : Nat) : Frame [.fab] s (voidStaged s k) := by
  unfold voidStaged
  refine .set_fab (by decide) ?_
  exact .refl _

theorem followFault_frame (s : State) (e : Nat) : Frame [.sorus, .loops] s (followFault s e) := by
  unfold followFault
  refine .ite ?_ ?_
  · refine .step (disableElem_frame _ _) (by decide) ?_
    exact .refl _
  · exact .refl _

theorem followCell_frame (s : State) (k : Nat) : Frame [.sorus, .loops] s (followCell s k) := by
  unfold followCell
  refine .step (followFault_frame _ _) (by decide) ?_
  refine .step (followFault_frame _ _) (by decide) ?_
  exact .refl _

theorem mapChanged_frame (s : State) (bump : Bool) :
    Frame [.objs, .hbm, .dev, .ex, .sorus, .steady, .cal, .lib, .com, .mat] s (mapChanged s bump) := by
  unfold mapChanged
  refine .step (autoStore_frame _ _) (by decide) ?_
  refine .step (revalidateCommits_frame _) (by decide) ?_
  refine .ite ?_ ?_
  · refine .step (State.setObjN_frame _ _ _ _) (by decide) ?_
    exact .refl _
  · exact .refl _

theorem reportFault_frame (s : State) (e : Nat) (bits : Nat) :
    Frame [.objs, .hbm, .dev, .ex, .sorus, .steady, .loops, .cal, .fab, .lib, .com, .mat] s (reportFault s e bits) := by
  unfold reportFault
  refine .step (raiseA_frame _ _ _) (by decide) ?_
  refine .step (mapChanged_frame _ _) (by decide) ?_
  refine .set_fab (by decide) ?_
  refine .step (followCell_frame _ _) (by decide) ?_
  refine .ite ?_ ?_
  · refine .ite ?_ ?_
    · refine .step (State.setObjN_frame _ _ _ _) (by decide) ?_
      refine .step (State.setObjN_frame _ _ _ _) (by decide) ?_
      exact .refl _
    · refine .step (State.setObjN_frame _ _ _ _) (by decide) ?_
      exact .refl _
  · refine .step (voidStaged_frame _ _) (by decide) ?_
    refine .ite ?_ ?_
    · refine .step (State.setObjN_frame _ _ _ _) (by decide) ?_
      refine .step (State.setObjN_frame _ _ _ _) (by decide) ?_
      exact .refl _
    · refine .step (State.setObjN_frame _ _ _ _) (by decide) ?_
      exact .refl _

theorem effFaultStage_frame (addr : Nat) (sel : Nat) (v : Int) (s : State) : Frame1 [.fab] s (effFaultStage addr sel v s) := by
  unfold effFaultStage
  refine .pair ?_
  refine .set_fab (by decide) ?_
  exact .refl _

theorem effFaultApply_frame (s : State) : Frame1 [.fab] s (effFaultApply s) := by
  unfold effFaultApply
  refine .ite ?_ ?_
  · refine .pair ?_
    exact .refl _
  · refine .pair ?_
    refine .set_fab (by decide) ?_
    exact .refl _

theorem execFaultApply_frame (sess : Nat) (s : State) (s' : State) (h : execFaultApply sess s = .next s') :
    Frame [.objs, .ex, .sorus, .fab, .lib] s s' := by
  unfold execFaultApply at h
  refine finish_frame h ?_
  refine hostWrite_frame (by decide) (fun _ => ?_) ?_ 
  · refine .step (effFaultApply_frame _) (by decide) ?_
    exact .refl _
  · exact .refl _

theorem discardEvents_frame (s : State) (cells : List Nat) : Frame [.objs, .ex, .sorus] s (discardEvents s cells) := by
  unfold discardEvents
  refine .foldl (fun _ _ => ?_) ?_
  · refine .step (raiseA_frame _ _ _) (by decide) ?_
    exact .refl _
  · exact .refl _

theorem applyFaults_frame (s : State) :
    Frame [.objs, .hbm, .dev, .ex, .sorus, .steady, .loops, .cal, .fab, .lib, .com, .mat] s (applyFaults s) := by
  unfold applyFaults
  refine .ite ?_ ?_
  · refine .foldl (fun _ _ => ?_) ?_
    · refine .step (State.setObj_frame _ _ _ _) (by decide) ?_
      exact .refl _
    · refine .step (discardEvents_frame _ _) (by decide) ?_
      refine .step (State.incSat_frame _ _ _ _) (by decide) ?_
      refine .set_fab (by decide) ?_
      exact .refl _
  · refine .step (raiseA_frame _ _ _) (by decide) ?_
    refine .step (mapChanged_frame _ _) (by decide) ?_
    refine .foldl (fun _ _ => ?_) ?_
    · refine .step (followCell_frame _ _) (by decide) ?_
      exact .refl _
    · refine .foldl (fun _ _ => ?_) ?_
      · refine .step (State.setObj_frame _ _ _ _) (by decide) ?_
        exact .refl _
      · refine .step (discardEvents_frame _ _) (by decide) ?_
        refine .step (State.incSat_frame _ _ _ _) (by decide) ?_
        refine .set_fab (by decide) ?_
        exact .refl _

theorem execFaultMapApply_frame (s : State) (s' : State) (h : execFaultMapApply s = .next s') :
    Frame [.objs, .hbm, .dev, .ex, .sorus, .steady, .loops, .cal, .fab, .lib, .com, .mat] s s' := by
  unfold execFaultMapApply at h
  refine finish_frame h ?_
  refine .ite ?_ ?_
  · refine .step (applyFaults_frame _) (by decide) ?_
    exact .refl _
  · exact .refl _

theorem endPinTest_frame (s : State) (k : Nat) (status : Nat) : Frame [.objs, .ex, .sorus, .fab] s (endPinTest s k status) := by
  unfold endPinTest
  refine .step (raiseA_frame _ _ _) (by decide) ?_
  refine .step (State.setObjN_frame _ _ _ _) (by decide) ?_
  refine .set_fab (by decide) ?_
  exact .refl _

theorem abortPinTest_frame (s : State) : Frame [.objs, .ex, .sorus, .fab] s (abortPinTest s) := by
  unfold abortPinTest
  split
  · refine .step (endPinTest_frame _ _ _) (by decide) ?_
    exact .refl _
  · exact .refl _

theorem effPinTestCell_frame (k : Int) (s : State) : Frame1 [.objs, .fab] s (effPinTestCell k s) := by
  unfold effPinTestCell
  refine .ite ?_ ?_
  · refine .pair ?_
    exact .refl _
  · refine .pair ?_
    refine .set_fab (by decide) ?_
    refine .step (State.setObjN_frame _ _ _ _) (by decide) ?_
    refine .step (State.setObj_frame _ _ _ _) (by decide) ?_
    exact .refl _

theorem execPinTestCell_frame (sess : Nat) (k : Int) (s : State) (s' : State) (h : execPinTestCell sess k s = .next s') :
    Frame [.objs, .ex, .sorus, .fab, .lib] s s' := by
  unfold execPinTestCell at h
  refine finish_frame h ?_
  refine hostWrite_frame (by decide) (fun _ => ?_) ?_ 
  · refine .step (effPinTestCell_frame _ _) (by decide) ?_
    exact .refl _
  · exact .refl _

theorem pinResult_frame (s : State) (k : Nat) (i : Nat) : Frame [.objs] s (pinResult s k i) := by
  unfold pinResult
  refine .step (State.setObj_frame _ _ _ _) (by decide) ?_
  refine .step (State.setObjN_frame _ _ _ _) (by decide) ?_
  exact .refl _

theorem execPinTestDone_frame (s : State) (s' : State) (h : execPinTestDone s = .next s') :
    Frame [.objs, .ex, .sorus, .fab] s s' := by
  unfold execPinTestDone at h
  refine finish_frame h ?_
  split
  · exact .refl _
  · refine .ite ?_ ?_
    · exact .refl _
    · split
      · refine .step (endPinTest_frame _ _ _) (by decide) ?_
        exact .refl _
      · refine .step (endPinTest_frame _ _ _) (by decide) ?_
        refine .step (pinResult_frame _ _ _) (by decide) ?_
        exact .refl _
      · refine .step (endPinTest_frame _ _ _) (by decide) ?_
        exact .refl _

theorem State.setLoadStatus_frame (s : State) (sess : Nat) (v : Nat) : Frame [.ex] s (State.setLoadStatus s sess v) := by
  unfold State.setLoadStatus
  split
  · refine .step (State.setSession_frame _ _ _) (by decide) ?_
    exact .refl _
  · exact .refl _

theorem openLoad_frame (s : State) (sess : Nat) (slot : Nat) : Frame [.objs, .lib] s (openLoad s sess slot) := by
  unfold openLoad
  refine .set_lib (by decide) ?_
  refine .step (State.setSlot_frame _ _ _) (by decide) ?_
  refine .step (discardRefinement_frame _ _) (by decide) ?_
  refine .step (State.dropLoads_frame _ _) (by decide) ?_
  exact .refl _

theorem effLoadSlot_frame (sess : Nat) (v : Int) (s : State) :
    Frame1 [.objs, .hbm, .ex, .sorus, .lib, .mat] s (effLoadSlot sess v s) := by
  unfold effLoadSlot
  refine .ite ?_ ?_
  · refine .pair ?_
    exact .refl _
  · refine .pair ?_
    refine .step (openLoad_frame _ _ _) (by decide) ?_
    refine .ite ?_ ?_
    · refine .step (abandonLoad_frame _ _ _) (by decide) ?_
      refine .step (awaitWriteBack_frame _ _) (by decide) ?_
      refine .step (State.setObj_frame _ _ _ _) (by decide) ?_
      exact .refl _
    · refine .step (awaitWriteBack_frame _ _) (by decide) ?_
      refine .step (State.setObj_frame _ _ _ _) (by decide) ?_
      exact .refl _

theorem execLoadSlot_frame (sess : Nat) (slot : Int) (s : State) (s' : State) (h : execLoadSlot sess slot s = .next s') :
    Frame [.objs, .hbm, .ex, .sorus, .lib, .mat] s s' := by
  unfold execLoadSlot at h
  refine finish_frame h ?_
  refine hostWrite_frame (by decide) (fun _ => ?_) ?_ 
  · refine .step (effLoadSlot_frame _ _ _) (by decide) ?_
    exact .refl _
  · exact .refl _

theorem endRoute_frame (s : State) (slot : Nat) (status : Nat) (us : Nat) :
    Frame [.objs, .ex, .sorus, .lib] s (endRoute s slot status us) := by
  unfold endRoute
  refine .step (raiseA_frame _ _ _) (by decide) ?_
  refine .step (State.setObjN_frame _ _ _ _) (by decide) ?_
  refine .step (State.setObjN_frame _ _ _ _) (by decide) ?_
  refine .set_lib (by decide) ?_
  exact .refl _

theorem closeLoad_frame (s : State) (sess : Nat) (l : Load) (state : SlotState) (reason : Nat) :
    Frame [.objs, .ex, .sorus, .lib] s (closeLoad s sess l state reason) := by
  unfold closeLoad
  conv => zeta
  split
  · refine .ite ?_ ?_
    · refine .step (endRoute_frame _ _ _ _) (by decide) ?_
      refine .ite ?_ ?_
      · refine .step (invalidate_frame _ _ _) (by decide) ?_
        refine .step (State.setLoadStatus_frame _ _ _) (by decide) ?_
        refine .step (State.dropLoads_frame _ _) (by decide) ?_
        exact .refl _
      · refine .step (State.setSlot_frame _ _ _) (by decide) ?_
        refine .step (State.setLoadStatus_frame _ _ _) (by decide) ?_
        refine .step (State.dropLoads_frame _ _) (by decide) ?_
        exact .refl _
    · refine .ite ?_ ?_
      · refine .step (invalidate_frame _ _ _) (by decide) ?_
        refine .step (State.setLoadStatus_frame _ _ _) (by decide) ?_
        refine .step (State.dropLoads_frame _ _) (by decide) ?_
        exact .refl _
      · refine .step (State.setSlot_frame _ _ _) (by decide) ?_
        refine .step (State.setLoadStatus_frame _ _ _) (by decide) ?_
        refine .step (State.dropLoads_frame _ _) (by decide) ?_
        exact .refl _
  · refine .ite ?_ ?_
    · refine .step (invalidate_frame _ _ _) (by decide) ?_
      refine .step (State.setLoadStatus_frame _ _ _) (by decide) ?_
      refine .step (State.dropLoads_frame _ _) (by decide) ?_
      exact .refl _
    · refine .step (State.setSlot_frame _ _ _) (by decide) ?_
      refine .step (State.setLoadStatus_frame _ _ _) (by decide) ?_
      refine .step (State.dropLoads_frame _ _) (by decide) ?_
      exact .refl _

theorem effLoadClose_frame (sess : Nat) (s : State) : Frame1 [.objs, .ex, .sorus, .lib] s (effLoadClose sess s) := by
  unfold effLoadClose
  split
  · refine .pair ?_
    exact .refl _
  · refine .ite ?_ ?_
    · refine .pair ?_
      exact .refl _
    · refine .ite ?_ ?_
      · refine .pair ?_
        refine .step (closeLoad_frame _ _ _ _ _) (by decide) ?_
        exact .refl _
      · split
        · refine .pair ?_
          refine .step (closeLoad_frame _ _ _ _ _) (by decide) ?_
          exact .refl _
        · refine .pair ?_
          refine .step (closeLoad_frame _ _ _ _ _) (by decide) ?_
          exact .refl _

theorem execLoadClose_frame (sess : Nat) (s : State) (s' : State) (h : execLoadClose sess s = .next s') :
    Frame [.objs, .ex, .sorus, .lib] s s' := by
  unfold execLoadClose at h
  refine finish_frame h ?_
  refine hostWrite_frame (by decide) (fun _ => ?_) ?_ 
  · refine .step (effLoadClose_frame _ _) (by decide) ?_
    exact .refl _
  · exact .refl _

theorem execLoadTimeout_frame (sess : Nat) (s : State) (s' : State) (h : execLoadTimeout sess s = .next s') :
    Frame [.ex, .lib] s s' := by
  unfold execLoadTimeout at h
  refine finish_frame h ?_
  split
  · refine .ite ?_ ?_
    · refine .step (abandonLoad_frame _ _ _) (by decide) ?_
      exact .refl _
    · exact .refl _
  · exact .refl _

theorem effEraseSlot_frame (sess : Nat) (v : Int) (s : State) :
    Frame1 [.objs, .hbm, .ex, .sorus, .lib, .mat] s (effEraseSlot sess v s) := by
  unfold effEraseSlot
  refine .ite ?_ ?_
  · refine .pair ?_
    exact .refl _
  · refine .pair ?_
    refine .step (State.setSlot_frame _ _ _) (by decide) ?_
    refine .step (State.dropLoads_frame _ _) (by decide) ?_
    refine .step (discardRefinement_frame _ _) (by decide) ?_
    refine .step (awaitWriteBack_frame _ _) (by decide) ?_
    refine .step (State.setObj_frame _ _ _ _) (by decide) ?_
    exact .refl _

theorem execEraseSlot_frame (sess : Nat) (slot : Int) (s : State) (s' : State) (h : execEraseSlot sess slot s = .next s') :
    Frame [.objs, .hbm, .ex, .sorus, .lib, .mat] s s' := by
  unfold execEraseSlot at h
  refine finish_frame h ?_
  refine hostWrite_frame (by decide) (fun _ => ?_) ?_ 
  · refine .step (effEraseSlot_frame _ _ _) (by decide) ?_
    exact .refl _
  · exact .refl _

theorem effRevalidate_frame (v : Int) (s : State) : Frame1 [.objs, .hbm, .ex, .sorus, .lib, .mat] s (effRevalidate v s) := by
  unfold effRevalidate
  conv => zeta
  split
  · refine .ite ?_ ?_
    · refine .pair ?_
      refine .step (invalidate_frame _ _ _) (by decide) ?_
      refine .step (awaitWriteBack_frame _ _) (by decide) ?_
      exact .refl _
    · refine .pair ?_
      refine .of1 ?_
      refine .step (revalidateSlot_frame _ _) (by decide) ?_
      refine .step (State.setObj_frame _ _ _ _) (by decide) ?_
      refine .step (awaitWriteBack_frame _ _) (by decide) ?_
      exact .refl _
  · refine .ite ?_ ?_
    · refine .pair ?_
      refine .step (invalidate_frame _ _ _) (by decide) ?_
      refine .step (awaitWriteBack_frame _ _) (by decide) ?_
      exact .refl _
    · refine .pair ?_
      refine .of1 ?_
      refine .step (revalidateSlot_frame _ _) (by decide) ?_
      refine .step (State.setObj_frame _ _ _ _) (by decide) ?_
      refine .step (awaitWriteBack_frame _ _) (by decide) ?_
      exact .refl _
  · refine .pair ?_
    refine .step (awaitWriteBack_frame _ _) (by decide) ?_
    exact .refl _

theorem execRevalidate_frame (sess : Nat) (slot : Int) (s : State) (s' : State) (h : execRevalidate sess slot s = .next s') :
    Frame [.objs, .hbm, .ex, .sorus, .lib, .mat] s s' := by
  unfold execRevalidate at h
  refine finish_frame h ?_
  refine hostWrite_frame (by decide) (fun _ => ?_) ?_ 
  · refine .step (effRevalidate_frame _ _) (by decide) ?_
    exact .refl _
  · exact .refl _

theorem findFirst_frame (s : State) (l : List Nat) :
    Frame [.objs, .hbm, .ex, .sorus, .lib, .mat] s (findFirst s l) := by
  induction l generalizing s with
  | nil => exact .refl _
  | cons slot t ih =>
    unfold findFirst
    split
    have h : Frame [.objs, .hbm, .ex, .sorus, .lib, .mat] s _ := .fst (by assumption) (by
      split
      · exact .pair (.refl _)
      · exact .step (revalidateSlot_frame _ _) (by decide) (.refl _))
    exact .ite (.set_lib (by decide) h) (.trans h (ih _))

theorem effFindHash_frame (hash : Nat) (s : State) : Frame1 [.objs, .lib] s (effFindHash hash s) := by
  unfold effFindHash
  refine .pair ?_
  refine .set_lib (by decide) ?_
  refine .step (State.setObjN_frame _ _ _ _) (by decide) ?_
  exact .refl _

theorem execFindHash_frame (sess : Nat) (hash : Nat) (s : State) (s' : State) (h : execFindHash sess hash s = .next s') :
    Frame [.objs, .ex, .sorus, .lib] s s' := by
  unfold execFindHash at h
  refine finish_frame h ?_
  refine hostWrite_frame (by decide) (fun _ => ?_) ?_ 
  · refine .step (effFindHash_frame _ _) (by decide) ?_
    exact .refl _
  · exact .refl _

theorem execFindComplete_frame (s : State) (s' : State) (h : execFindComplete s = .next s') :
    Frame [.objs, .hbm, .ex, .sorus, .lib, .mat] s s' := by
  unfold execFindComplete at h
  refine finish_frame h ?_
  conv => zeta
  split
  · exact .refl _
  · refine .step (State.setObjN_frame _ _ _ _) (by decide) ?_
    refine .step (findFirst_frame _ _) (by decide) ?_
    refine .set_lib (by decide) ?_
    exact .refl _

theorem startRoute_frame (s : State) (sess : Nat) (slot : Nat) (vector : List Nat) (exclude : List Nat) :
    Frame [.objs, .hbm, .ex, .funcs, .sorus, .lib, .mat] s (startRoute s sess slot vector exclude) := by
  unfold startRoute
  refine .ite ?_ ?_
  · refine .step (raiseA_frame _ _ _) (by decide) ?_
    refine .set_lib (by decide) ?_
    refine .step (State.setObjN_frame _ _ _ _) (by decide) ?_
    refine .step (State.setSlot_frame _ _ _) (by decide) ?_
    refine .set_lib (by decide) ?_
    refine .step (State.dropLoads_frame _ _) (by decide) ?_
    refine .step (discardRefinement_frame _ _) (by decide) ?_
    refine .step (atModeBoundary_frame _ _) (by decide) ?_
    refine .step (awaitWriteBack_frame _ _) (by decide) ?_
    exact .refl _
  · refine .step (State.setObjN_frame _ _ _ _) (by decide) ?_
    refine .step (State.setSlot_frame _ _ _) (by decide) ?_
    refine .set_lib (by decide) ?_
    refine .step (State.dropLoads_frame _ _) (by decide) ?_
    refine .step (discardRefinement_frame _ _) (by decide) ?_
    refine .step (atModeBoundary_frame _ _) (by decide) ?_
    refine .step (awaitWriteBack_frame _ _) (by decide) ?_
    exact .refl _

theorem takeRequest_frame (s : State) : Frame [.objs, .octs, .staged, .stagedOcts] s (takeRequest s) := by
  unfold takeRequest
  refine .step (State.applyStaged_frame _ _) (by decide) ?_
  refine .step (State.applyStaged_frame _ _) (by decide) ?_
  refine .step (State.applyStaged_frame _ _) (by decide) ?_
  exact .refl _

theorem effRouteApply_frame (sess : Nat) (s : State) :
    Frame1 [.objs, .octs, .staged, .stagedOcts, .hbm, .ex, .funcs, .sorus, .lib, .mat] s (effRouteApply sess s) := by
  unfold effRouteApply
  refine .ite ?_ ?_
  · refine .pair ?_
    exact .refl _
  · refine .ite ?_ ?_
    · refine .pair ?_
      exact .refl _
    · refine .ite ?_ ?_
      · refine .pair ?_
        refine .step (endRoute_frame _ _ _ _) (by decide) ?_
        refine .step (State.incWrap_frame _ _ _) (by decide) ?_
        exact .refl _
      · refine .ite ?_ ?_
        · refine .pair ?_
          exact .refl _
        · refine .pair ?_
          refine .step (startRoute_frame _ _ _ _ _) (by decide) ?_
          refine .step (takeRequest_frame _) (by decide) ?_
          refine .step (State.incWrap_frame _ _ _) (by decide) ?_
          exact .refl _

theorem execRouteApply_frame (sess : Nat) (s : State) (s' : State) (h : execRouteApply sess s = .next s') :
    Frame [.objs, .octs, .staged, .stagedOcts, .hbm, .ex, .funcs, .sorus, .lib, .mat] s s' := by
  unfold execRouteApply at h
  refine finish_frame h ?_
  refine hostWrite_frame (by decide) (fun _ => ?_) ?_ 
  · refine .step (effRouteApply_frame _ _) (by decide) ?_
    exact .refl _
  · exact .refl _

theorem unroute_frame (s : State) (r : Route) : Frame [.hbm, .lib, .mat] s (unroute s r) := by
  unfold unroute
  conv => zeta
  split
  · refine .step (State.setSlot_frame _ _ _) (by decide) ?_
    refine .ite ?_ ?_
    · refine .step (State.slotWrite_frame _ _ _ _) (by decide) ?_
      exact .refl _
    · exact .refl _
  · refine .ite ?_ ?_
    · refine .set_lib (by decide) ?_
      refine .step (State.setSlot_frame _ _ _) (by decide) ?_
      refine .ite ?_ ?_
      · refine .step (State.slotWrite_frame _ _ _ _) (by decide) ?_
        exact .refl _
      · exact .refl _
    · refine .step (State.setSlot_frame _ _ _) (by decide) ?_
      refine .ite ?_ ?_
      · refine .step (State.slotWrite_frame _ _ _ _) (by decide) ?_
        exact .refl _
      · exact .refl _

theorem execRouteDone_frame (us : Nat) (s : State) (s' : State) (h : execRouteDone us s = .next s') :
    Frame [.objs, .hbm, .ex, .sorus, .lib, .mat] s s' := by
  unfold execRouteDone at h
  refine finish_frame h ?_
  split
  · exact .refl _
  · refine .ite ?_ ?_
    · exact .refl _
    · split
      · refine .step (endRoute_frame _ _ _ _) (by decide) ?_
        refine .step (State.setSlot_frame _ _ _) (by decide) ?_
        refine .step (writeImage_frame _ _ _ _) (by decide) ?_
        exact .refl _
      · refine .step (endRoute_frame _ _ _ _) (by decide) ?_
        refine .step (unroute_frame _ _) (by decide) ?_
        exact .refl _

theorem execFallbackImageGeneration_frame (s : State) (s' : State) (h : execFallbackImageGeneration s = .next s') :
    Frame [.objs, .ex, .funcs, .sorus, .lib] s s' := by
  unfold execFallbackImageGeneration at h
  refine finish_frame h ?_
  conv => zeta
  split
  · exact .refl _
  · refine .ite ?_ ?_
    · refine .step (State.setObjN_frame _ _ _ _) (by decide) ?_
      refine .set_lib (by decide) ?_
      refine .step (State.setSlot_frame _ _ _) (by decide) ?_
      refine .step (State.dropLoads_frame _ _) (by decide) ?_
      refine .step (fallback_frame _ _) (by decide) ?_
      exact .refl _
    · exact .refl _

theorem execWriteBackStart_frame (s : State) (s' : State) (h : execWriteBackStart s = .next s') :
    Frame [.objs, .ex, .lib] s s' := by
  unfold execWriteBackStart at h
  refine finish_frame h ?_
  split
  · exact .refl _
  · refine .ite ?_ ?_
    · split
      · refine .step (startWriteBack_frame _ _) (by decide) ?_
        exact .refl _
      · refine .step (startWriteBack_frame _ _) (by decide) ?_
        exact .refl _
      · refine .step (discardRefinement_frame _ _) (by decide) ?_
        exact .refl _
    · exact .refl _

theorem execWriteBackDone_frame (s : State) (s' : State) (h : execWriteBackDone s = .next s') :
    Frame [.objs, .hbm, .ex, .sorus, .lib, .mat] s s' := by
  unfold execWriteBackDone at h
  refine finish_frame h ?_
  refine .step (finishWriteBack_frame _) (by decide) ?_
  exact .refl _

theorem State.dropBuf_frame (s : State) (b : Nat) : Frame [.lib] s (State.dropBuf s b) := by
  unfold State.dropBuf
  refine .set_lib (by decide) ?_
  exact .refl _

theorem effRefineDecide_frame (b : Nat) (v : Int) (s : State) : Frame1 [.objs, .ex, .sorus, .lib] s (effRefineDecide b v s) := by
  unfold effRefineDecide
  conv => zeta
  split
  · refine .pair ?_
    exact .refl _
  · refine .ite ?_ ?_
    · refine .pair ?_
      refine .step (queueLatch_frame _ _) (by decide) ?_
      refine .step (State.setObj_frame _ _ _ _) (by decide) ?_
      refine .step (State.dropBuf_frame _ _) (by decide) ?_
      exact .refl _
    · refine .pair ?_
      refine .step (State.incSat_frame _ _ _ _) (by decide) ?_
      refine .step (State.setObj_frame _ _ _ _) (by decide) ?_
      refine .step (State.dropBuf_frame _ _) (by decide) ?_
      exact .refl _

theorem execRefineDecideWrite_frame (sess : Nat) (b : Nat) (s : State) (s' : State) (h : execRefineDecideWrite sess b s = .next s') :
    Frame [.objs, .ex, .sorus, .lib] s s' := by
  unfold execRefineDecideWrite at h
  refine finish_frame h ?_
  refine hostWrite_frame (by decide) (fun _ => ?_) ?_ 
  · refine .step (effRefineDecide_frame _ _ _) (by decide) ?_
    exact .refl _
  · exact .refl _

theorem execRefineDecideDiscard_frame (sess : Nat) (b : Nat) (s : State) (s' : State) (h : execRefineDecideDiscard sess b s = .next s') :
    Frame [.objs, .ex, .sorus, .lib] s s' := by
  unfold execRefineDecideDiscard at h
  refine finish_frame h ?_
  refine hostWrite_frame (by decide) (fun _ => ?_) ?_ 
  · refine .step (effRefineDecide_frame _ _ _) (by decide) ?_
    exact .refl _
  · exact .refl _

theorem queueBuffers_frame (s : State) : Frame [.objs, .ex, .sorus, .lib] s (queueBuffers s) := by
  unfold queueBuffers
  refine .foldl (fun _ _ => ?_) ?_
  · refine .step (queueLatch_frame _ _) (by decide) ?_
    refine .step (State.dropBuf_frame _ _) (by decide) ?_
    exact .refl _
  · exact .refl _

theorem execFallbackRefinement_frame (s : State) (s' : State) (h : execFallbackRefinement s = .next s') :
    Frame [.objs, .ex, .funcs, .sorus, .lib] s s' := by
  unfold execFallbackRefinement at h
  refine finish_frame h ?_
  refine .ite ?_ ?_
  · refine .step (queueBuffers_frame _) (by decide) ?_
    refine .step (fallback_frame _ _) (by decide) ?_
    exact .refl _
  · exact .refl _

theorem prepareCurrent_frame (s : State) (slot : Nat) :
    Frame1 [.objs, .hbm, .ex, .sorus, .lib, .mat] s (prepareCurrent s slot) := by
  unfold prepareCurrent
  refine .ite ?_ ?_
  · refine .pair ?_
    refine .step (awaitWriteBack_frame _ _) (by decide) ?_
    exact .refl _
  · refine .step (revalidateSlot_frame _ _) (by decide) ?_
    refine .step (awaitWriteBack_frame _ _) (by decide) ?_
    exact .refl _

theorem prepareFetch_frame (s : State) (slot : Nat) : Frame1 [.objs, .hbm, .ex, .sorus, .lib, .mat] s (prepareFetch s slot) := by
  unfold prepareFetch
  refine .ite ?_ ?_
  · refine .pair ?_
    refine .ite ?_ ?_
    · refine .step (promoteWriteBack_frame _ _) (by decide) ?_
      exact .refl _
    · refine .step (invalidate_frame _ _ _) (by decide) ?_
      refine .step (promoteWriteBack_frame _ _) (by decide) ?_
      exact .refl _
  · refine .ite ?_ ?_
    · refine .pair ?_
      refine .step (invalidate_frame _ _ _) (by decide) ?_
      refine .step (promoteWriteBack_frame _ _) (by decide) ?_
      exact .refl _
    · refine .pair ?_
      refine .step (promoteWriteBack_frame _ _) (by decide) ?_
      exact .refl _

theorem prepareGrant_frame (s : State) (c : Commit) :
    Frame [.objs, .dev, .ex, .funcs, .sorus, .steady, .lib, .com] s (prepareGrant s c) := by
  unfold prepareGrant
  refine .ite ?_ ?_
  · refine .step (answerCommit_frame _ _ _ _) (by decide) ?_
    refine .step (State.incSat_frame _ _ _ _) (by decide) ?_
    refine .step (atModeBoundary_frame _ _) (by decide) ?_
    exact .refl _
  · refine .ite ?_ ?_
    · refine .step (askHost_frame _ _) (by decide) ?_
      refine .set_com (by decide) ?_
      refine .step (atModeBoundary_frame _ _) (by decide) ?_
      exact .refl _
    · split
      refine .ite ?_ ?_
      · refine .step (acceptPrepare_frame _ _) (by decide) ?_
        refine .fst (by assumption) ?_
        refine .step (grantNow_frame _ _) (by decide) ?_
        refine .step (atModeBoundary_frame _ _) (by decide) ?_
        exact .refl _
      · refine .step (answerCommit_frame _ _ _ _) (by decide) ?_
        refine .fst (by assumption) ?_
        refine .step (grantNow_frame _ _) (by decide) ?_
        refine .step (atModeBoundary_frame _ _) (by decide) ?_
        exact .refl _

theorem prepareOp_frame (s : State) (sess : Nat) (req : Nat) (id : Nat) (slot : Nat) (flags : Nat) :
    Frame [.objs, .hbm, .dev, .ex, .funcs, .sorus, .steady, .cal, .lib, .com, .mat] s (prepareOp s sess req id slot flags) := by
  unfold prepareOp
  conv => zeta
  split
  · refine .step (answerCommit_frame _ _ _ _) (by decide) ?_
    refine .step (adaptBoundary_frame _) (by decide) ?_
    exact .refl _
  · split
    refine .ite ?_ ?_
    · refine .step (answerCommit_frame _ _ _ _) (by decide) ?_
      refine .fst (by assumption) ?_
      refine .step (prepareCurrent_frame _ _) (by decide) ?_
      refine .step (adaptBoundary_frame _) (by decide) ?_
      exact .refl _
    · split
      · refine .step (answerCommit_frame _ _ _ _) (by decide) ?_
        refine .fst (by assumption) ?_
        refine .step (prepareFetch_frame _ _) (by decide) ?_
        refine .fst (by assumption) ?_
        refine .step (prepareCurrent_frame _ _) (by decide) ?_
        refine .step (adaptBoundary_frame _) (by decide) ?_
        exact .refl _
      · refine .step (prepareGrant_frame _ _) (by decide) ?_
        refine .fst (by assumption) ?_
        refine .step (prepareFetch_frame _ _) (by decide) ?_
        refine .fst (by assumption) ?_
        refine .step (prepareCurrent_frame _ _) (by decide) ?_
        refine .step (adaptBoundary_frame _) (by decide) ?_
        exact .refl _

theorem execPrepare_frame (sess : Nat) (req : Nat) (id : Nat) (slot : Nat) (flags : Nat) (s : State) (s' : State) (h : execPrepare sess req id slot flags s = .next s') :
    Frame [.objs, .hbm, .dev, .ex, .funcs, .sorus, .steady, .cal, .lib, .com, .mat] s s' := by
  unfold execPrepare at h
  refine finish_frame h ?_
  refine request_frame (by decide) (fun _ _ => ?_) ?_ 
  · refine .step (prepareOp_frame _ _ _ _ _ _) (by decide) ?_
    exact .refl _
  · exact .refl _

theorem armCommit_frame (s : State) (sess : Nat) (req : Nat) (c : Commit) (t : Int) (peer : Bool) (next : Option Commit) :
    Frame [.objs, .ex, .sorus, .lib, .com] s (armCommit s sess req c t peer next) := by
  unfold armCommit
  refine .step (answerCommit_frame _ _ _ _) (by decide) ?_
  refine .step (State.stepCommit_frame _ _) (by decide) ?_
  split
  · refine .step (State.stepCommit_frame _ _) (by decide) ?_
    exact .refl _
  · exact .refl _

theorem commitPlanned_frame (s : State) (sess : Nat) (req : Nat) (id : Nat) (t : Int) (peer : Bool) (immediate : Bool) (plan : Option (Commit × Option Commit)) :
    Frame [.objs, .dev, .ex, .sorus, .steady, .lib, .com] s (commitPlanned s sess req id t peer immediate plan) := by
  unfold commitPlanned
  conv => zeta
  split
  · refine .step (answerCommit_frame _ _ _ _) (by decide) ?_
    refine .step (State.incSat_frame _ _ _ _) (by decide) ?_
    exact .refl _
  · refine .ite ?_ ?_
    · refine .step (answerCommit_frame _ _ _ _) (by decide) ?_
      refine .step (State.incSat_frame _ _ _ _) (by decide) ?_
      exact .refl _
    · refine .ite ?_ ?_
      · refine .step (askHost_frame _ _) (by decide) ?_
        refine .set_com (by decide) ?_
        exact .refl _
      · split
        refine .ite ?_ ?_
        · refine .step (armCommit_frame _ _ _ _ _ _ _) (by decide) ?_
          refine .step (State.incSat_frame _ _ _ _) (by decide) ?_
          refine .fst (by assumption) ?_
          refine .step (steadyDecides_frame _ _) (by decide) ?_
          exact .refl _
        · refine .step (answerCommit_frame _ _ _ _) (by decide) ?_
          refine .step (State.incSat_frame _ _ _ _) (by decide) ?_
          refine .fst (by assumption) ?_
          refine .step (steadyDecides_frame _ _) (by decide) ?_
          exact .refl _

theorem commitPlan_frame (s : State) (sess : Nat) (req : Nat) (c : Commit) (t : Int) (peer : Bool) (immediate : Bool) :
    Frame [.objs, .dev, .ex, .funcs, .sorus, .steady, .lib, .com] s (commitPlan s sess req c t peer immediate) := by
  unfold commitPlan
  refine .ite ?_ ?_
  · refine .step (armCommit_frame _ _ _ _ _ _ _) (by decide) ?_
    exact .refl _
  · refine .step (commitPlanned_frame _ _ _ _ _ _ _ _) (by decide) ?_
    refine .step (atModeBoundary_frame _ _) (by decide) ?_
    exact .refl _

theorem commitOp_frame (s : State) (sess : Nat) (req : Nat) (id : Nat) (t : Int) (flags : Nat) :
    Frame [.objs, .dev, .ex, .funcs, .sorus, .steady, .lib, .com] s (commitOp s sess req id t flags) := by
  unfold commitOp
  refine .ite ?_ ?_
  · refine .step (answerCommit_frame _ _ _ _) (by decide) ?_
    exact .refl _
  · conv => zeta
    split
    · refine .step (answerCommit_frame _ _ _ _) (by decide) ?_
      exact .refl _
    · refine .ite ?_ ?_
      · refine .step (answerCommit_frame _ _ _ _) (by decide) ?_
        exact .refl _
      · refine .ite ?_ ?_
        · refine .step (answerCommit_frame _ _ _ _) (by decide) ?_
          exact .refl _
        · split
          · refine .step (answerCommit_frame _ _ _ _) (by decide) ?_
            exact .refl _
          · refine .step (commitPlan_frame _ _ _ _ _ _ _) (by decide) ?_
            exact .refl _

theorem execCommit_frame (sess : Nat) (req : Nat) (id : Nat) (t : Int) (flags : Nat) (s : State) (s' : State) (h : execCommit sess req id t flags s = .next s') :
    Frame [.objs, .dev, .ex, .funcs, .sorus, .steady, .lib, .com] s s' := by
  unfold execCommit at h
  refine finish_frame h ?_
  refine request_frame (by decide) (fun _ _ => ?_) ?_ 
  · refine .step (commitOp_frame _ _ _ _ _ _) (by decide) ?_
    exact .refl _
  · exact .refl _

theorem cancelOp_frame (s : State) (sess : Nat) (req : Nat) (id : Nat) :
    Frame [.objs, .dev, .ex, .sorus, .steady, .lib, .com, .mat] s (cancelOp s sess req id) := by
  unfold cancelOp
  split
  · refine .step (answerCommit_frame _ _ _ _) (by decide) ?_
    exact .refl _
  · refine .ite ?_ ?_
    · refine .step (answerCommit_frame _ _ _ _) (by decide) ?_
      exact .refl _
    · refine .ite ?_ ?_
      · refine .step (answerCommit_frame _ _ _ _) (by decide) ?_
        exact .refl _
      · refine .step (answerCommit_frame _ _ _ _) (by decide) ?_
        refine .step (abandon_frame _ _ _) (by decide) ?_
        exact .refl _

theorem execCancel_frame (sess : Nat) (req : Nat) (id : Nat) (s : State) (s' : State) (h : execCancel sess req id s = .next s') :
    Frame [.objs, .dev, .ex, .sorus, .steady, .lib, .com, .mat] s s' := by
  unfold execCancel at h
  refine finish_frame h ?_
  refine request_frame (by decide) (fun _ _ => ?_) ?_ 
  · refine .step (cancelOp_frame _ _ _ _) (by decide) ?_
    exact .refl _
  · exact .refl _

theorem execPrepareTimeout_frame (id : Nat) (s : State) (s' : State) (h : execPrepareTimeout id s = .next s') :
    Frame [.objs, .dev, .ex, .sorus, .steady, .lib, .com, .mat] s s' := by
  unfold execPrepareTimeout at h
  refine finish_frame h ?_
  split
  · refine .ite ?_ ?_
    · refine .step (abandon_frame _ _ _) (by decide) ?_
      exact .refl _
    · exact .refl _
  · exact .refl _

theorem execPeerAbort_frame (id : Nat) (t : Int) (_source : Nat) (s : State) (s' : State) (h : execPeerAbort id t _source s = .next s') :
    Frame [.objs, .dev, .ex, .sorus, .steady, .lib, .com, .mat] s s' := by
  unfold execPeerAbort at h
  refine finish_frame h ?_
  split
  · refine .step (abandon_frame _ _ _) (by decide) ?_
    exact .refl _
  · refine .step (raiseA_frame _ _ _) (by decide) ?_
    refine .step (State.incSat_frame _ _ _ _) (by decide) ?_
    exact .refl _

theorem finishCodes_frame (s : State) (d : Commit) : Frame [.lobes, .drv] s (finishCodes s d) := by
  unfold finishCodes
  refine .foldl (fun _ _ => ?_) ?_
  · refine .ite ?_ ?_
    · refine .step (writePhase_frame _ _ _ _) (by decide) ?_
      exact .refl _
    · exact .refl _
  · exact .refl _

theorem supersedeMoving_frame (s : State) :
    Frame [.objs, .dev, .ex, .funcs, .lobes, .sorus, .drv, .steady, .cal, .lib, .com, .mat] s (supersedeMoving s) := by
  unfold supersedeMoving
  refine .foldl (fun _ _ => ?_) ?_
  · refine .step (endDone_frame _ _ _) (by decide) ?_
    exact .refl _
  · refine .foldl (fun _ _ => ?_) ?_
    · refine .step (finishCodes_frame _ _) (by decide) ?_
      exact .refl _
    · exact .refl _

theorem applyCommit_frame (s : State) (c : Commit) :
    Frame [.objs, .dev, .ex, .funcs, .lobes, .sorus, .drv, .steady, .loops, .mon, .cal, .fab, .lib, .com, .mat] s (applyCommit s c) := by
  unfold applyCommit
  conv => zeta
  split
  split
  refine .step (State.capNote_frame _ _) (by decide) ?_
  refine .step (trigSource_frame _ _) (by decide) ?_
  refine .step (abortPinTest_frame _) (by decide) ?_
  refine .step (abortCalByCommit_frame _ _) (by decide) ?_
  refine .step (State.putCommit_frame _ _) (by decide) ?_
  refine .fst (by assumption) ?_
  refine .step (startWave_frame _ _ _) (by decide) ?_
  refine .fst (by assumption) ?_
  refine .step (elemsAtT_frame _ _) (by decide) ?_
  refine .foldl (fun _ _ => ?_) ?_
  · refine .step (voaAtT_frame _ _ _) (by decide) ?_
    exact .refl _
  · refine .step (applyMapping_frame _ _ _ _) (by decide) ?_
    refine .step (State.stepCommit_frame _ _) (by decide) ?_
    refine .set_com (by decide) ?_
    refine .ite ?_ ?_
    · refine .step (State.enter_frame _ _) (by decide) ?_
      refine .step (supersedeMoving_frame _) (by decide) ?_
      exact .refl _
    · refine .step (supersedeMoving_frame _) (by decide) ?_
      exact .refl _

theorem execCommitT_frame (id : Nat) (s : State) (s' : State) (h : execCommitT id s = .next s') :
    Frame [.objs, .dev, .ex, .funcs, .lobes, .sorus, .drv, .steady, .loops, .mon, .cal, .fab, .lib, .com, .mat] s s' := by
  unfold execCommitT at h
  refine finish_frame h ?_
  split
  · refine .ite ?_ ?_
    · refine .step (applyCommit_frame _ _) (by decide) ?_
      exact .refl _
    · exact .refl _
  · exact .refl _

theorem execWaveStart_frame (id : Nat) (w : Nat) (s : State) (s' : State) (h : execWaveStart id w s = .next s') :
    Frame [.ex, .lobes, .drv, .com] s s' := by
  unfold execWaveStart at h
  refine finish_frame h ?_
  split
  · refine .ite ?_ ?_
    · split
      refine .step (State.putCommit_frame _ _) (by decide) ?_
      refine .fst (by assumption) ?_
      refine .step (startWave_frame _ _ _) (by decide) ?_
      exact .refl _
    · exact .refl _
  · exact .refl _

theorem execTemplatePhaseEnd_frame (id : Nat) (e : Nat) (s : State) (s' : State) (h : execTemplatePhaseEnd id e s = .next s') :
    Frame [.ex, .lobes, .drv, .com] s s' := by
  unfold execTemplatePhaseEnd at h
  refine finish_frame h ?_
  split
  · split
    · refine .ite ?_ ?_
      · split
        refine .step (State.putCommit_frame _ _) (by decide) ?_
        refine .fst (by assumption) ?_
        refine .step (advanceTemplate_frame _ _ _) (by decide) ?_
        exact .refl _
      · exact .refl _
    · exact .refl _
  · exact .refl _

theorem execApplyingEnd_frame (id : Nat) (s : State) (s' : State) (h : execApplyingEnd id s = .next s') :
    Frame [.objs, .ex, .sorus, .com] s s' := by
  unfold execApplyingEnd at h
  refine finish_frame h ?_
  split
  · refine .ite ?_ ?_
    · refine .step (State.stepCommit_frame _ _) (by decide) ?_
      exact .refl _
    · exact .refl _
  · exact .refl _

theorem execCommitDone_frame (id : Nat) (s : State) (s' : State) (h : execCommitDone id s = .next s') :
    Frame [.objs, .dev, .ex, .funcs, .sorus, .steady, .cal, .lib, .com, .mat] s s' := by
  unfold execCommitDone at h
  refine finish_frame h ?_
  split
  · refine .ite ?_ ?_
    · refine .step (endDone_frame _ _ _) (by decide) ?_
      exact .refl _
    · exact .refl _
  · exact .refl _

theorem execSettleTimeout_frame (id : Nat) (s : State) (s' : State) (h : execSettleTimeout id s = .next s') :
    Frame [.objs, .dev, .ex, .funcs, .sorus, .steady, .cal, .lib, .com, .mat] s s' := by
  unfold execSettleTimeout at h
  refine finish_frame h ?_
  split
  · refine .ite ?_ ?_
    · refine .step (endDone_frame _ _ _) (by decide) ?_
      exact .refl _
    · exact .refl _
  · exact .refl _

theorem execFallbackPreEmphasis_frame (s : State) (s' : State) (h : execFallbackPreEmphasis s = .next s') :
    Frame [.ex, .cal] s s' := by
  unfold execFallbackPreEmphasis at h
  refine finish_frame h ?_
  refine .ite ?_ ?_
  · refine .set_cal (by decide) ?_
    exact .refl _
  · exact .refl _

theorem slewBoundary_frame (s : State) (u : Nat) : Frame [.drv] s (slewBoundary s u) := by
  unfold slewBoundary
  refine .step (State.setChan_frame _ _ _) (by decide) ?_
  exact .refl _

theorem execSlewPeriodBoundary_frame (u : Nat) (s : State) (s' : State) (h : execSlewPeriodBoundary u s = .next s') :
    Frame [.ex, .drv] s s' := by
  unfold execSlewPeriodBoundary at h
  refine finish_frame h ?_
  refine .ite ?_ ?_
  · refine .step (slewBoundary_frame _ _) (by decide) ?_
    exact .refl _
  · exact .refl _

theorem execDeglitchEnd_frame (n : Nat) (s : State) (s' : State) (h : execDeglitchEnd n s = .next s') :
    Frame [.ex, .drv] s s' := by
  unfold execDeglitchEnd at h
  refine finish_frame h ?_
  conv => zeta
  split
  · refine .ite ?_ ?_
    · refine .step (State.setChan_frame _ _ _) (by decide) ?_
      exact .refl _
    · exact .refl _
  · exact .refl _

theorem reconvert_frame (s : State) (u : Nat) : Frame [.lobes, .drv] s (reconvert s u) := by
  unfold reconvert
  refine .ite ?_ ?_
  · refine .ite ?_ ?_
    · refine .step (driveElem_frame _ _) (by decide) ?_
      exact .refl _
    · exact .refl _
  · refine .ite ?_ ?_
    · refine .ite ?_ ?_
      · refine .step (driveTrimmer_frame _ _ _) (by decide) ?_
        exact .refl _
      · exact .refl _
    · refine .ite ?_ ?_
      · refine .step (driveVoa_frame _ _) (by decide) ?_
        exact .refl _
      · exact .refl _

theorem spanEndsWrap_frame (s : State) (e : Nat) : Frame [.objs, .dev, .ex, .sorus, .steady, .loops] s (spanEndsWrap s e) := by
  unfold spanEndsWrap
  refine .ite ?_ ?_
  · refine .step (releaseGrant_frame _ _ _) (by decide) ?_
    refine .step (withdraw_frame _ _ _) (by decide) ?_
    refine .step (State.setElem_frame _ _ _) (by decide) ?_
    exact .refl _
  · exact .refl _

theorem effSpanApply_frame (s : State) :
    Frame1 [.objs, .octs, .staged, .stagedOcts, .dev, .ex, .lobes, .sorus, .drv, .steady, .loops] s (effSpanApply s) := by
  unfold effSpanApply
  refine .ite ?_ ?_
  · refine .pair ?_
    exact .refl _
  · refine .ite ?_ ?_
    · refine .pair ?_
      exact .refl _
    · refine .ite ?_ ?_
      · refine .pair ?_
        exact .refl _
      · refine .pair ?_
        refine .step (raiseA_frame _ _ _) (by decide) ?_
        refine .foldl (fun _ _ => ?_) ?_
        · refine .step (reconvert_frame _ _) (by decide) ?_
          exact .refl _
        · refine .foldl (fun _ _ => ?_) ?_
          · refine .step (startSpanSeq_frame _ _ _ _) (by decide) ?_
            refine .step (noteWrite_frame _ _) (by decide) ?_
            exact .refl _
          · refine .foldl (fun _ _ => ?_) ?_
            · refine .step (spanEndsWrap_frame _ _) (by decide) ?_
              exact .refl _
            · refine .step (State.applyStaged_frame _ _) (by decide) ?_
              refine .of1 ?_
              refine .step (steadyDecides_frame _ _) (by decide) ?_
              refine .foldl (fun _ _ => ?_) ?_
              · refine .step (noteRefused_frame _ _) (by decide) ?_
                exact .refl _
              · exact .refl _

theorem execSpanApply_frame (sess : Nat) (s : State) (s' : State) (h : execSpanApply sess s = .next s') :
    Frame [.objs, .octs, .staged, .stagedOcts, .dev, .ex, .lobes, .sorus, .drv, .steady, .loops, .lib] s s' := by
  unfold execSpanApply at h
  refine finish_frame h ?_
  refine hostWrite_frame (by decide) (fun _ => ?_) ?_ 
  · refine .step (effSpanApply_frame _) (by decide) ?_
    exact .refl _
  · exact .refl _

theorem execSpanDwellEnd_frame (u : Nat) (s : State) (s' : State) (h : execSpanDwellEnd u s = .next s') :
    Frame [.ex, .drv] s s' := by
  unfold execSpanDwellEnd at h
  refine finish_frame h ?_
  conv => zeta
  split
  · refine .ite ?_ ?_
    · split
      · refine .ite ?_ ?_
        · refine .step (safeRamp_frame _ _ _) (by decide) ?_
          refine .step (State.setChan_frame _ _ _) (by decide) ?_
          refine .step (noteChange_frame _ _) (by decide) ?_
          exact .refl _
        · refine .step (State.setChan_frame _ _ _) (by decide) ?_
          refine .step (noteChange_frame _ _) (by decide) ?_
          exact .refl _
      · refine .step (State.setChan_frame _ _ _) (by decide) ?_
        refine .step (noteChange_frame _ _) (by decide) ?_
        exact .refl _
    · exact .refl _
  · exact .refl _

theorem State.genRefused_frame (s : State) (g : Nat) (c : Gen) : Frame [.lobes] s (State.genRefused s g c) := by
  unfold State.genRefused
  refine .ite ?_ ?_
  · refine .step (noteRefused_frame _ _) (by decide) ?_
    split
    · refine .ite ?_ ?_
      · exact .refl _
      · refine .step (noteRefused_frame _ _) (by decide) ?_
        exact .refl _
    · exact .refl _
  · split
    · refine .ite ?_ ?_
      · exact .refl _
      · refine .step (noteRefused_frame _ _) (by decide) ?_
        exact .refl _
    · exact .refl _

theorem dropGen_frame (s : State) (g : Nat) : Frame [.objs, .dev, .ex, .lobes, .sorus, .drv, .steady] s (dropGen s g) := by
  unfold dropGen
  conv => zeta
  split
  · exact .refl _
  · refine .ite ?_ ?_
    · split
      refine .ite ?_ ?_
      · refine .step (dropGrant_frame _ _ _) (by decide) ?_
        refine .fst (by assumption) ?_
        refine .step (steadyDecides_frame _ _) (by decide) ?_
        refine .set_drv (by decide) ?_
        refine .step (noteWrite_frame _ _) (by decide) ?_
        refine .step (noteChange_frame _ _) (by decide) ?_
        exact .refl _
      · refine .step (markReleased_frame _ _ _) (by decide) ?_
        refine .fst (by assumption) ?_
        refine .step (steadyDecides_frame _ _) (by decide) ?_
        refine .set_drv (by decide) ?_
        refine .step (noteWrite_frame _ _) (by decide) ?_
        refine .step (noteChange_frame _ _) (by decide) ?_
        exact .refl _
    · refine .set_drv (by decide) ?_
      refine .step (noteWrite_frame _ _) (by decide) ?_
      refine .step (noteChange_frame _ _) (by decide) ?_
      exact .refl _

theorem setGen_frame (s : State) (g : Nat) (c : Gen) :
    Frame1 [.objs, .dev, .ex, .lobes, .sorus, .drv, .steady] s (setGen s g c) := by
  unfold setGen
  refine .ite ?_ ?_
  · refine .pair ?_
    exact .refl _
  · refine .ite ?_ ?_
    · conv => zeta
      split
      refine .ite ?_ ?_
      · refine .pair ?_
        refine .set_drv (by decide) ?_
        refine .step (noteWrite_frame _ _) (by decide) ?_
        refine .step (noteChange_frame _ _) (by decide) ?_
        refine .fst (by assumption) ?_
        refine .step (grantNow_frame _ _) (by decide) ?_
        exact .refl _
      · refine .pair ?_
        refine .fst (by assumption) ?_
        refine .step (grantNow_frame _ _) (by decide) ?_
        exact .refl _
    · refine .pair ?_
      refine .set_drv (by decide) ?_
      refine .step (noteWrite_frame _ _) (by decide) ?_
      refine .step (noteChange_frame _ _) (by decide) ?_
      exact .refl _

theorem setGens_frame (l : List (Nat × Gen)) (s : State) :
    Frame1 [.objs, .dev, .ex, .lobes, .sorus, .drv, .steady] s (setGens l s) := by
  induction l generalizing s with
  | nil => exact .pair (.refl _)
  | cons e t ih =>
    obtain ⟨g, c⟩ := e
    unfold setGens
    split
    have h : Frame [.objs, .dev, .ex, .lobes, .sorus, .drv, .steady] s _ :=
      .fst (by assumption) (.step (setGen_frame _ _ _) (by decide) (.refl _))
    exact .ite (h.trans (ih _)) (.pair h)

theorem undoGens_frame (before : State) (s : State) : Frame [.objs, .lobes, .drv, .steady] s (undoGens before s) := by
  unfold undoGens
  refine .step (showSteady_frame _) (by decide) ?_
  refine .step (State.setObj_frame _ _ _ _) (by decide) ?_
  refine .set_lobes_drv_steady (by decide) (by decide) (by decide) ?_
  exact .refl _

theorem effGenApply_frame (s : State) :
    Frame1 [.objs, .octs, .staged, .stagedOcts, .dev, .ex, .lobes, .sorus, .drv, .steady] s (effGenApply s) := by
  unfold effGenApply
  refine .ite ?_ ?_
  · refine .pair ?_
    exact .refl _
  · refine .ite ?_ ?_
    · refine .pair ?_
      exact .refl _
    · conv => zeta
      split
      · refine .pair ?_
        refine .step (undoGens_frame _ _) (by decide) ?_
        refine .fst (by assumption) ?_
        refine .step (setGens_frame _ _) (by decide) ?_
        refine .foldl (fun _ _ => ?_) ?_
        · refine .step (dropGen_frame _ _) (by decide) ?_
          exact .refl _
        · refine .foldl (fun _ _ => ?_) ?_
          · refine .step (State.genRefused_frame _ _ _) (by decide) ?_
            exact .refl _
          · exact .refl _
      · refine .pair ?_
        refine .step (serveQueue_frame _) (by decide) ?_
        refine .foldl (fun _ _ => ?_) ?_
        · refine .step (State.applyStaged_frame _ _) (by decide) ?_
          exact .refl _
        · refine .fst (by assumption) ?_
          refine .step (setGens_frame _ _) (by decide) ?_
          refine .foldl (fun _ _ => ?_) ?_
          · refine .step (dropGen_frame _ _) (by decide) ?_
            exact .refl _
          · refine .foldl (fun _ _ => ?_) ?_
            · refine .step (State.genRefused_frame _ _ _) (by decide) ?_
              exact .refl _
            · exact .refl _

theorem execGenApply_frame (sess : Nat) (s : State) (s' : State) (h : execGenApply sess s = .next s') :
    Frame [.objs, .octs, .staged, .stagedOcts, .dev, .ex, .lobes, .sorus, .drv, .steady, .lib] s s' := by
  unfold execGenApply at h
  refine finish_frame h ?_
  refine hostWrite_frame (by decide) (fun _ => ?_) ?_ 
  · refine .step (effGenApply_frame _) (by decide) ?_
    exact .refl _
  · exact .refl _

theorem execGenStartTime_frame (g : Nat) (s : State) (s' : State) (h : execGenStartTime g s = .next s') :
    Frame [.ex, .drv] s s' := by
  unfold execGenStartTime at h
  refine finish_frame h ?_
  conv => zeta
  split
  · refine .ite ?_ ?_
    · refine .step (noteChange_frame _ _) (by decide) ?_
      refine .set_drv (by decide) ?_
      exact .refl _
    · exact .refl _
  · exact .refl _

theorem mapDue_frame (s : State) : Frame [.drv] s (mapDue s) := by
  unfold mapDue
  refine .ite ?_ ?_
  · exact .refl _
  · refine .set_drv (by decide) ?_
    exact .refl _

theorem loseLane_frame (s : State) (b : Nat) (lane : Nat) (u : Nat) (load : Bool) :
    Frame [.objs, .hbm, .dev, .ex, .sorus, .drv, .steady, .loops, .cal, .fab, .lib, .com, .mat] s (loseLane s b lane u load) := by
  unfold loseLane
  refine .ite ?_ ?_
  · refine .step (reportFault_frame _ _ _) (by decide) ?_
    refine .step (raiseA_frame _ _ _) (by decide) ?_
    refine .step (State.incSat_frame _ _ _ _) (by decide) ?_
    refine .step (State.setChan_frame _ _ _) (by decide) ?_
    exact .refl _
  · refine .ite ?_ ?_
    · refine .step (reportFault_frame _ _ _) (by decide) ?_
      refine .step (raiseA_frame _ _ _) (by decide) ?_
      refine .step (State.incSat_frame _ _ _ _) (by decide) ?_
      refine .step (State.setChan_frame _ _ _) (by decide) ?_
      exact .refl _
    · refine .step (disableVoa_frame _ _) (by decide) ?_
      refine .step (raiseA_frame _ _ _) (by decide) ?_
      refine .step (State.incSat_frame _ _ _ _) (by decide) ?_
      refine .step (State.setChan_frame _ _ _) (by decide) ?_
      exact .refl _

theorem loadSpare_frame (s : State) (b : Nat) (lane : Nat) (k : Nat) : Frame [.drv] s (loadSpare s b lane k) := by
  unfold loadSpare
  refine .step (State.setChan_frame _ _ _) (by decide) ?_
  refine .step (State.setBank_frame _ _ _) (by decide) ?_
  exact .refl _

theorem laneFails_frame (s : State) (b : Nat) (lane : Nat) (u : Nat) (sensed : Nat) :
    Frame [.objs, .hbm, .dev, .ex, .lobes, .sorus, .drv, .steady, .loops, .mon, .cal, .fab, .lib, .com, .mat] s (laneFails s b lane u sensed) := by
  unfold laneFails
  refine .ite ?_ ?_
  · refine .step (raiseA_frame _ _ _) (by decide) ?_
    refine .step (State.setChan_frame _ _ _) (by decide) ?_
    exact .refl _
  · conv => zeta
    split
    · refine .step (loadSpare_frame _ _ _ _) (by decide) ?_
      refine .step (State.setChan_frame _ _ _) (by decide) ?_
      refine .step (calLaneFault_frame _ _ _) (by decide) ?_
      exact .refl _
    · refine .step (loseLane_frame _ _ _ _ _) (by decide) ?_
      refine .step (State.setChan_frame _ _ _) (by decide) ?_
      refine .step (calLaneFault_frame _ _ _) (by decide) ?_
      exact .refl _

theorem senseLane_frame (s : State) (b : Nat) (lane : Nat) (sensed : Nat) :
    Frame [.objs, .hbm, .dev, .ex, .lobes, .sorus, .drv, .steady, .loops, .mon, .cal, .fab, .lib, .com, .mat] s (senseLane s b lane sensed) := by
  unfold senseLane
  refine .ite ?_ ?_
  · exact .refl _
  · refine .ite ?_ ?_
    · refine .step (State.setChan_frame _ _ _) (by decide) ?_
      exact .refl _
    · refine .ite ?_ ?_
      · refine .ite ?_ ?_
        · refine .step (laneFails_frame _ _ _ _ _) (by decide) ?_
          refine .step (State.setChan_frame _ _ _) (by decide) ?_
          exact .refl _
        · refine .step (State.setChan_frame _ _ _) (by decide) ?_
          exact .refl _
      · refine .step (State.setChan_frame _ _ _) (by decide) ?_
        exact .refl _

theorem loadFails_frame (s : State) (b : Nat) (lane : Nat) (k : Nat) :
    Frame [.objs, .hbm, .dev, .ex, .lobes, .sorus, .drv, .steady, .loops, .mon, .cal, .fab, .lib, .com, .mat] s (loadFails s b lane k) := by
  unfold loadFails
  refine .step (loseLane_frame _ _ _ _ _) (by decide) ?_
  refine .step (forceCode_frame _ _ _) (by decide) ?_
  refine .step (State.setChan_frame _ _ _) (by decide) ?_
  refine .step (State.setBank_frame _ _ _) (by decide) ?_
  refine .ite ?_ ?_
  · refine .step (laneHome_frame _ _) (by decide) ?_
    refine .ite ?_ ?_
    · refine .step (mapDue_frame _) (by decide) ?_
      exact .refl _
    · exact .refl _
  · refine .ite ?_ ?_
    · refine .step (abortCal_frame _ _) (by decide) ?_
      refine .ite ?_ ?_
      · refine .step (mapDue_frame _) (by decide) ?_
        exact .refl _
      · exact .refl _
    · refine .ite ?_ ?_
      · refine .step (mapDue_frame _) (by decide) ?_
        exact .refl _
      · exact .refl _

theorem sparePasses_frame (s : State) (b : Nat) (lane : Nat) (k : Nat) :
    Frame [.objs, .ex, .sorus, .drv] s (sparePasses s b lane k) := by
  unfold sparePasses
  refine .ite ?_ ?_
  · exact .refl _
  · refine .ite ?_ ?_
    · refine .step (State.setChan_frame _ _ _) (by decide) ?_
      exact .refl _
    · refine .ite ?_ ?_
      · refine .step (raiseA_frame _ _ _) (by decide) ?_
        refine .step (mapDue_frame _) (by decide) ?_
        refine .step (State.incSat_frame _ _ _ _) (by decide) ?_
        refine .step (State.setChan_frame _ _ _) (by decide) ?_
        exact .refl _
      · refine .step (State.setChan_frame _ _ _) (by decide) ?_
        exact .refl _

theorem senseSpare_frame (s : State) (b : Nat) (k : Nat) (sensed : Nat) :
    Frame [.objs, .hbm, .dev, .ex, .lobes, .sorus, .drv, .steady, .loops, .mon, .cal, .fab, .lib, .com, .mat] s (senseSpare s b k sensed) := by
  unfold senseSpare
  conv => zeta
  split
  · exact .refl _
  · refine .ite ?_ ?_
    · exact .refl _
    · refine .ite ?_ ?_
      · refine .step (State.setChan_frame _ _ _) (by decide) ?_
        exact .refl _
      · refine .ite ?_ ?_
        · refine .ite ?_ ?_
          · refine .step (loadFails_frame _ _ _ _) (by decide) ?_
            refine .step (State.setChan_frame _ _ _) (by decide) ?_
            refine .step (State.setChan_frame _ _ _) (by decide) ?_
            exact .refl _
          · refine .step (State.setBank_frame _ _ _) (by decide) ?_
            refine .step (State.setChan_frame _ _ _) (by decide) ?_
            refine .step (State.setChan_frame _ _ _) (by decide) ?_
            exact .refl _
        · refine .step (sparePasses_frame _ _ _ _) (by decide) ?_
          refine .step (State.setBank_frame _ _ _) (by decide) ?_
          refine .step (State.setChan_frame _ _ _) (by decide) ?_
          exact .refl _
  · refine .ite ?_ ?_
    · exact .refl _
    · refine .ite ?_ ?_
      · refine .ite ?_ ?_
        · refine .step (raiseA_frame _ _ _) (by decide) ?_
          refine .step (mapDue_frame _) (by decide) ?_
          refine .step (State.setBank_frame _ _ _) (by decide) ?_
          exact .refl _
        · refine .step (State.setBank_frame _ _ _) (by decide) ?_
          exact .refl _
      · refine .step (State.setBank_frame _ _ _) (by decide) ?_
        exact .refl _

theorem skipLane_frame (s : State) (u : Nat) : Frame [.drv] s (skipLane s u) := by
  unfold skipLane
  refine .step (State.setChan_frame _ _ _) (by decide) ?_
  exact .refl _

theorem execReadbackComparison_frame (b : Nat) (lane : Nat) (sensed : Nat) (s : State) (s' : State) (h : execReadbackComparison b lane sensed s = .next s') :
    Frame [.objs, .hbm, .dev, .ex, .lobes, .sorus, .drv, .steady, .loops, .mon, .cal, .fab, .lib, .com, .mat] s s' := by
  unfold execReadbackComparison at h
  refine finish_frame h ?_
  refine .ite ?_ ?_
  · exact .refl _
  · refine .ite ?_ ?_
    · refine .ite ?_ ?_
      · refine .step (skipLane_frame _ _) (by decide) ?_
        exact .refl _
      · exact .refl _
    · refine .ite ?_ ?_
      · refine .step (senseLane_frame _ _ _ _) (by decide) ?_
        exact .refl _
      · refine .ite ?_ ?_
        · refine .step (senseSpare_frame _ _ _ _) (by decide) ?_
          exact .refl _
        · exact .refl _

theorem execSpareSwitchover_frame (b : Nat) (lane : Nat) (s : State) (s' : State) (h : execSpareSwitchover b lane s = .next s') :
    Frame [.ex, .drv, .cal] s s' := by
  unfold execSpareSwitchover at h
  refine finish_frame h ?_
  conv => zeta
  split
  · refine .ite ?_ ?_
    · refine .ite ?_ ?_
      · refine .step (laneHome_frame _ _) (by decide) ?_
        exact .refl _
      · refine .step (State.setChan_frame _ _ _) (by decide) ?_
        exact .refl _
    · exact .refl _
  · exact .refl _

theorem storePage_frame (s : State) (p : SafePage) : Frame [.objs, .dev, .ex, .sorus, .drv, .cal] s (storePage s p) := by
  unfold storePage
  refine .step (startStore_frame _ _) (by decide) ?_
  refine .set_dev_drv (by decide) (by decide) ?_
  exact .refl _

theorem pageCommand_frame (s : State) (p : SafePage) :
    Frame1 [.objs, .dev, .ex, .sorus, .drv, .steady, .cal] s (pageCommand s p) := by
  unfold pageCommand
  refine .ite ?_ ?_
  · refine .pair ?_
    exact .refl _
  · refine .ite ?_ ?_
    · refine .pair ?_
      exact .refl _
    · split
      refine .ite ?_ ?_
      · refine .pair ?_
        refine .step (storePage_frame _ _) (by decide) ?_
        refine .fst (by assumption) ?_
        refine .step (decideNow_frame _ _ _) (by decide) ?_
        exact .refl _
      · refine .pair ?_
        refine .fst (by assumption) ?_
        refine .step (decideNow_frame _ _ _) (by decide) ?_
        exact .refl _

theorem effSafeStore_frame (s : State) : Frame1 [.objs, .staged, .dev, .ex, .sorus, .drv, .steady, .cal] s (effSafeStore s) := by
  unfold effSafeStore
  conv => zeta
  split
  · refine .pair ?_
    refine .set_staged (by decide) ?_
    refine .fst (by assumption) ?_
    refine .step (pageCommand_frame _ _) (by decide) ?_
    exact .refl _
  · refine .step (pageCommand_frame _ _) (by decide) ?_
    exact .refl _

theorem execSafeStore_frame (sess : Nat) (s : State) (s' : State) (h : execSafeStore sess s = .next s') :
    Frame [.objs, .staged, .dev, .ex, .sorus, .drv, .steady, .cal, .lib] s s' := by
  unfold execSafeStore at h
  refine finish_frame h ?_
  refine hostWrite_frame (by decide) (fun _ => ?_) ?_ 
  · refine .step (effSafeStore_frame _) (by decide) ?_
    exact .refl _
  · exact .refl _

theorem effSafeRevert_frame (s : State) : Frame1 [.objs, .dev, .ex, .sorus, .drv, .steady, .cal] s (effSafeRevert s) := by
  unfold effSafeRevert
  refine .step (pageCommand_frame _ _) (by decide) ?_
  exact .refl _

theorem execSafeRevert_frame (sess : Nat) (s : State) (s' : State) (h : execSafeRevert sess s = .next s') :
    Frame [.objs, .dev, .ex, .sorus, .drv, .steady, .cal, .lib] s s' := by
  unfold execSafeRevert at h
  refine finish_frame h ?_
  refine hostWrite_frame (by decide) (fun _ => ?_) ?_ 
  · refine .step (effSafeRevert_frame _) (by decide) ?_
    exact .refl _
  · exact .refl _

theorem pageByDevice_frame (s : State) : Frame [.objs, .dev, .ex, .sorus, .drv, .cal] s (pageByDevice s) := by
  unfold pageByDevice
  refine .ite ?_ ?_
  · refine .step (storePage_frame _ _) (by decide) ?_
    exact .refl _
  · exact .refl _

theorem execSpareMapStore_frame (s : State) (s' : State) (h : execSpareMapStore s = .next s') :
    Frame [.objs, .dev, .ex, .sorus, .drv, .cal] s s' := by
  unfold execSpareMapStore at h
  refine finish_frame h ?_
  refine .step (pageByDevice_frame _) (by decide) ?_
  exact .refl _

theorem loadRegisters_frame (s : State) (p : SafePage) : Frame [.drv] s (loadRegisters s p) := by
  unfold loadRegisters
  refine .set_drv (by decide) ?_
  exact .refl _

theorem pageStored_frame (s : State) : Frame [.objs, .dev, .ex, .sorus, .drv, .cal, .lib, .com] s (pageStored s) := by
  unfold pageStored
  conv => zeta
  split
  · refine .ite ?_ ?_
    · refine .step (pumpStores_frame _) (by decide) ?_
      refine .step (settleOwed_frame _ _ _) (by decide) ?_
      refine .step (raiseA_frame _ _ _) (by decide) ?_
      refine .step (State.setObjN_frame _ _ _ _) (by decide) ?_
      refine .step (loadRegisters_frame _ _) (by decide) ?_
      refine .set_dev_drv (by decide) (by decide) ?_
      refine .step (endStore_frame _) (by decide) ?_
      refine .step (regionDone_frame _ _ _) (by decide) ?_
      exact .refl _
    · exact .refl _
  · exact .refl _

theorem execBankHolding_frame (b : Nat) (s : State) (s' : State) (h : execBankHolding b s = .next s') :
    Frame [.ex, .drv] s s' := by
  unfold execBankHolding at h
  refine finish_frame h ?_
  conv => zeta
  split
  · refine .ite ?_ ?_
    · refine .step (State.setBank_frame _ _ _) (by decide) ?_
      exact .refl _
    · exact .refl _
  · exact .refl _

theorem raiseDriveSafe_frame (s : State) : Frame [.objs, .ex, .sorus] s (raiseDriveSafe s) := by
  unfold raiseDriveSafe
  refine .ite ?_ ?_
  · refine .step (raiseS_frame _ _ _) (by decide) ?_
    exact .refl _
  · refine .ite ?_ ?_
    · refine .set_ex (by decide) ?_
      exact .refl _
    · refine .step (raiseS_frame _ _ _) (by decide) ?_
      exact .refl _

theorem execDriveSafe_frame (b : Nat) (s : State) (s' : State) (h : execDriveSafe b s = .next s') :
    Frame [.objs, .ex, .sorus, .drv] s s' := by
  unfold execDriveSafe at h
  refine finish_frame h ?_
  conv => zeta
  split
  · refine .ite ?_ ?_
    · refine .step (raiseDriveSafe_frame _) (by decide) ?_
      refine .step (safeBank_frame _ _ _) (by decide) ?_
      refine .step (State.setBank_frame _ _ _) (by decide) ?_
      refine .step (leaveHolding_frame _ _) (by decide) ?_
      exact .refl _
    · exact .refl _
  · exact .refl _

theorem execSafeTransitionEnd_frame (u : Nat) (s : State) (s' : State) (h : execSafeTransitionEnd u s = .next s') :
    Frame [.ex, .drv] s s' := by
  unfold execSafeTransitionEnd at h
  refine finish_frame h ?_
  conv => zeta
  split
  · refine .ite ?_ ?_
    · refine .ite ?_ ?_
      · refine .step (State.setChan_frame _ _ _) (by decide) ?_
        exact .refl _
      · refine .step (State.setBank_frame _ _ _) (by decide) ?_
        refine .step (State.setChan_frame _ _ _) (by decide) ?_
        exact .refl _
    · exact .refl _
  · exact .refl _

theorem State.setConv_frame (s : State) (cv : Nat) (x : Conv) : Frame [.mon] s (State.setConv s cv x) := by
  unfold State.setConv
  refine .set_mon (by decide) ?_
  exact .refl _

theorem State.setMonBank_frame (s : State) (mb : Nat) (x : MonBank) : Frame [.mon] s (State.setMonBank s mb x) := by
  unfold State.setMonBank
  refine .set_mon (by decide) ?_
  exact .refl _

theorem State.setAvg_frame (s : State) (n : Nat) (x : Avg) : Frame [.mon] s (State.setAvg s n x) := by
  unfold State.setAvg
  refine .set_mon (by decide) ?_
  exact .refl _

theorem condition_frame (s : State) (n : Nat) (cv : Nat) (pd : Nat) (g : Nat) (code : Nat) (inv : Bool) :
    Frame1 [.mon] s (condition s n cv pd g code inv) := by
  unfold condition
  refine .pair ?_
  refine .foldl (fun _ _ => ?_) ?_
  · refine .of1 ?_
    refine .step (runKernel_frame _ _ _ _) (by decide) ?_
    exact .refl _
  · exact .refl _

theorem filterOut_frame (s : State) (n : Nat) (cv : Nat) (pd : Nat) (hist : List Sample) :
    Frame1 [.mon] s (filterOut s n cv pd hist) := by
  unfold filterOut
  refine .ite ?_ ?_
  · refine .pair ?_
    exact .refl _
  · refine .pair ?_
    refine .foldl (fun _ _ => ?_) ?_
    · refine .of1 ?_
      refine .step (runKernel_frame _ _ _ _) (by decide) ?_
      exact .refl _
    · exact .refl _

theorem avgStore_frame (s : State) (n : Nat) : Frame [.objs, .ex, .sorus, .mon] s (avgStore s n) := by
  unfold avgStore
  refine .ite ?_ ?_
  · refine .step (guardOverflow_frame _ _ _) (by decide) ?_
    refine .step (State.setAvg_frame _ _ _) (by decide) ?_
    refine .step (State.incWrap_frame _ _ _) (by decide) ?_
    refine .step (State.setObjN_frame _ _ _ _) (by decide) ?_
    refine .step (State.setObj_frame _ _ _ _) (by decide) ?_
    refine .step (State.setObj_frame _ _ _ _) (by decide) ?_
    exact .refl _
  · refine .step (countStore_frame _ _ _ _) (by decide) ?_
    refine .step (State.setAvg_frame _ _ _) (by decide) ?_
    refine .step (State.incWrap_frame _ _ _) (by decide) ?_
    refine .step (State.setObjN_frame _ _ _ _) (by decide) ?_
    refine .step (State.setObj_frame _ _ _ _) (by decide) ?_
    refine .step (State.setObj_frame _ _ _ _) (by decide) ?_
    exact .refl _

theorem avgTake_frame (s : State) (n : Nat) (pd : Nat) (len : Nat) : Frame [.objs, .ex, .sorus, .mon] s (avgTake s n pd len) := by
  unfold avgTake
  refine .step (State.setAvg_frame _ _ _) (by decide) ?_
  refine .ite ?_ ?_
  · refine .step (avgStore_frame _ _) (by decide) ?_
    exact .refl _
  · exact .refl _

theorem avgBoundary_frame (s : State) (n : Nat) : Frame [.objs, .ex, .sorus, .mon] s (avgBoundary s n) := by
  unfold avgBoundary
  refine .ite ?_ ?_
  · refine .step (avgTake_frame _ _ _ _) (by decide) ?_
    refine .step (State.setAvg_frame _ _ _) (by decide) ?_
    exact .refl _
  · refine .step (State.setAvg_frame _ _ _) (by decide) ?_
    refine .step (State.setAvg_frame _ _ _) (by decide) ?_
    exact .refl _

theorem avgAdd_frame (s : State) (m : Nat) (n : Nat) (x : Sample) : Frame [.objs, .ex, .sorus, .mon] s (avgAdd s m n x) := by
  unfold avgAdd
  refine .ite ?_ ?_
  · exact .refl _
  · conv => zeta
    split
    · refine .step (avgTake_frame _ _ _ _) (by decide) ?_
      refine .step (State.setAvg_frame _ _ _) (by decide) ?_
      refine .ite ?_ ?_
      · refine .step (avgStore_frame _ _) (by decide) ?_
        exact .refl _
      · exact .refl _
    · refine .step (State.setAvg_frame _ _ _) (by decide) ?_
      refine .ite ?_ ?_
      · refine .step (avgStore_frame _ _) (by decide) ?_
        exact .refl _
      · exact .refl _

theorem avgDeliver_frame (s : State) (m : Nat) (pd : Nat) (x : Sample) :
    Frame [.objs, .ex, .sorus, .mon] s (avgDeliver s m pd x) := by
  unfold avgDeliver
  refine .foldl (fun _ _ => ?_) ?_
  · refine .ite ?_ ?_
    · refine .step (avgAdd_frame _ _ _ _) (by decide) ?_
      exact .refl _
    · exact .refl _
  · exact .refl _

theorem overload_frame (s : State) (pd : Nat) (overRange : Bool) (g : Nat) :
    Frame [.objs, .ex, .sorus, .mon] s (overload s pd overRange g) := by
  unfold overload
  refine .ite ?_ ?_
  · refine .ite ?_ ?_
    · refine .step (raiseA_frame _ _ _) (by decide) ?_
      refine .step (State.setPd_frame _ _ _) (by decide) ?_
      exact .refl _
    · refine .step (State.setPd_frame _ _ _) (by decide) ?_
      exact .refl _
  · refine .step (State.setPd_frame _ _ _) (by decide) ?_
    exact .refl _

theorem deliverOne_frame (s : State) (cv : Nat) (j : Nat) (code : Nat) (overRange : Bool) (hint : Nat) :
    Frame [.objs, .ex, .sorus, .mon] s (deliverOne s cv j code overRange hint) := by
  unfold deliverOne
  conv => zeta
  split
  split
  refine .step (avgDeliver_frame _ _ _ _) (by decide) ?_
  refine .ite ?_ ?_
  · refine .step (countStore_frame _ _ _ _) (by decide) ?_
    refine .step (countStore_frame _ _ _ _) (by decide) ?_
    refine .ite ?_ ?_
    · refine .ite ?_ ?_
      · refine .step (State.incSat_frame _ _ _ _) (by decide) ?_
        refine .ite ?_ ?_
        · refine .step (State.incSat_frame _ _ _ _) (by decide) ?_
          refine .step (overload_frame _ _ _ _) (by decide) ?_
          refine .step (State.setPd_frame _ _ _) (by decide) ?_
          refine .fst (by assumption) ?_
          refine .step (filterOut_frame _ _ _ _ _) (by decide) ?_
          refine .fst (by assumption) ?_
          refine .step (condition_frame _ _ _ _ _ _ _) (by decide) ?_
          exact .refl _
        · refine .step (overload_frame _ _ _ _) (by decide) ?_
          refine .step (State.setPd_frame _ _ _) (by decide) ?_
          refine .fst (by assumption) ?_
          refine .step (filterOut_frame _ _ _ _ _) (by decide) ?_
          refine .fst (by assumption) ?_
          refine .step (condition_frame _ _ _ _ _ _ _) (by decide) ?_
          exact .refl _
      · refine .ite ?_ ?_
        · refine .step (State.incSat_frame _ _ _ _) (by decide) ?_
          refine .step (overload_frame _ _ _ _) (by decide) ?_
          refine .step (State.setPd_frame _ _ _) (by decide) ?_
          refine .fst (by assumption) ?_
          refine .step (filterOut_frame _ _ _ _ _) (by decide) ?_
          refine .fst (by assumption) ?_
          refine .step (condition_frame _ _ _ _ _ _ _) (by decide) ?_
          exact .refl _
        · refine .step (overload_frame _ _ _ _) (by decide) ?_
          refine .step (State.setPd_frame _ _ _) (by decide) ?_
          refine .fst (by assumption) ?_
          refine .step (filterOut_frame _ _ _ _ _) (by decide) ?_
          refine .fst (by assumption) ?_
          refine .step (condition_frame _ _ _ _ _ _ _) (by decide) ?_
          exact .refl _
    · refine .step (State.incSat_frame _ _ _ _) (by decide) ?_
      refine .ite ?_ ?_
      · refine .step (State.incSat_frame _ _ _ _) (by decide) ?_
        refine .ite ?_ ?_
        · refine .step (State.incSat_frame _ _ _ _) (by decide) ?_
          refine .step (overload_frame _ _ _ _) (by decide) ?_
          refine .step (State.setPd_frame _ _ _) (by decide) ?_
          refine .fst (by assumption) ?_
          refine .step (filterOut_frame _ _ _ _ _) (by decide) ?_
          refine .fst (by assumption) ?_
          refine .step (condition_frame _ _ _ _ _ _ _) (by decide) ?_
          exact .refl _
        · refine .step (overload_frame _ _ _ _) (by decide) ?_
          refine .step (State.setPd_frame _ _ _) (by decide) ?_
          refine .fst (by assumption) ?_
          refine .step (filterOut_frame _ _ _ _ _) (by decide) ?_
          refine .fst (by assumption) ?_
          refine .step (condition_frame _ _ _ _ _ _ _) (by decide) ?_
          exact .refl _
      · refine .ite ?_ ?_
        · refine .step (State.incSat_frame _ _ _ _) (by decide) ?_
          refine .step (overload_frame _ _ _ _) (by decide) ?_
          refine .step (State.setPd_frame _ _ _) (by decide) ?_
          refine .fst (by assumption) ?_
          refine .step (filterOut_frame _ _ _ _ _) (by decide) ?_
          refine .fst (by assumption) ?_
          refine .step (condition_frame _ _ _ _ _ _ _) (by decide) ?_
          exact .refl _
        · refine .step (overload_frame _ _ _ _) (by decide) ?_
          refine .step (State.setPd_frame _ _ _) (by decide) ?_
          refine .fst (by assumption) ?_
          refine .step (filterOut_frame _ _ _ _ _) (by decide) ?_
          refine .fst (by assumption) ?_
          refine .step (condition_frame _ _ _ _ _ _ _) (by decide) ?_
          exact .refl _
  · refine .step (countStore_frame _ _ _ _) (by decide) ?_
    refine .step (countStore_frame _ _ _ _) (by decide) ?_
    refine .step (countStore_frame _ _ _ _) (by decide) ?_
    refine .ite ?_ ?_
    · refine .ite ?_ ?_
      · refine .step (State.incSat_frame _ _ _ _) (by decide) ?_
        refine .ite ?_ ?_
        · refine .step (State.incSat_frame _ _ _ _) (by decide) ?_
          refine .step (overload_frame _ _ _ _) (by decide) ?_
          refine .step (State.setPd_frame _ _ _) (by decide) ?_
          refine .fst (by assumption) ?_
          refine .step (filterOut_frame _ _ _ _ _) (by decide) ?_
          refine .fst (by assumption) ?_
          refine .step (condition_frame _ _ _ _ _ _ _) (by decide) ?_
          exact .refl _
        · refine .step (overload_frame _ _ _ _) (by decide) ?_
          refine .step (State.setPd_frame _ _ _) (by decide) ?_
          refine .fst (by assumption) ?_
          refine .step (filterOut_frame _ _ _ _ _) (by decide) ?_
          refine .fst (by assumption) ?_
          refine .step (condition_frame _ _ _ _ _ _ _) (by decide) ?_
          exact .refl _
      · refine .ite ?_ ?_
        · refine .step (State.incSat_frame _ _ _ _) (by decide) ?_
          refine .step (overload_frame _ _ _ _) (by decide) ?_
          refine .step (State.setPd_frame _ _ _) (by decide) ?_
          refine .fst (by assumption) ?_
          refine .step (filterOut_frame _ _ _ _ _) (by decide) ?_
          refine .fst (by assumption) ?_
          refine .step (condition_frame _ _ _ _ _ _ _) (by decide) ?_
          exact .refl _
        · refine .step (overload_frame _ _ _ _) (by decide) ?_
          refine .step (State.setPd_frame _ _ _) (by decide) ?_
          refine .fst (by assumption) ?_
          refine .step (filterOut_frame _ _ _ _ _) (by decide) ?_
          refine .fst (by assumption) ?_
          refine .step (condition_frame _ _ _ _ _ _ _) (by decide) ?_
          exact .refl _
    · refine .step (State.incSat_frame _ _ _ _) (by decide) ?_
      refine .ite ?_ ?_
      · refine .step (State.incSat_frame _ _ _ _) (by decide) ?_
        refine .ite ?_ ?_
        · refine .step (State.incSat_frame _ _ _ _) (by decide) ?_
          refine .step (overload_frame _ _ _ _) (by decide) ?_
          refine .step (State.setPd_frame _ _ _) (by decide) ?_
          refine .fst (by assumption) ?_
          refine .step (filterOut_frame _ _ _ _ _) (by decide) ?_
          refine .fst (by assumption) ?_
          refine .step (condition_frame _ _ _ _ _ _ _) (by decide) ?_
          exact .refl _
        · refine .step (overload_frame _ _ _ _) (by decide) ?_
          refine .step (State.setPd_frame _ _ _) (by decide) ?_
          refine .fst (by assumption) ?_
          refine .step (filterOut_frame _ _ _ _ _) (by decide) ?_
          refine .fst (by assumption) ?_
          refine .step (condition_frame _ _ _ _ _ _ _) (by decide) ?_
          exact .refl _
      · refine .ite ?_ ?_
        · refine .step (State.incSat_frame _ _ _ _) (by decide) ?_
          refine .step (overload_frame _ _ _ _) (by decide) ?_
          refine .step (State.setPd_frame _ _ _) (by decide) ?_
          refine .fst (by assumption) ?_
          refine .step (filterOut_frame _ _ _ _ _) (by decide) ?_
          refine .fst (by assumption) ?_
          refine .step (condition_frame _ _ _ _ _ _ _) (by decide) ?_
          exact .refl _
        · refine .step (overload_frame _ _ _ _) (by decide) ?_
          refine .step (State.setPd_frame _ _ _) (by decide) ?_
          refine .fst (by assumption) ?_
          refine .step (filterOut_frame _ _ _ _ _) (by decide) ?_
          refine .fst (by assumption) ?_
          refine .step (condition_frame _ _ _ _ _ _ _) (by decide) ?_
          exact .refl _

theorem halveStores_frame (s : State) (pd : Nat) : Frame [.objs] s (halveStores s pd) := by
  unfold halveStores
  refine .step (countStore_frame _ _ _ _) (by decide) ?_
  exact .refl _

theorem deliverPair_frame (s : State) (cv : Nat) (q : Nat) : Frame [.objs, .sorus, .loops] s (deliverPair s cv q) := by
  unfold deliverPair
  refine .ite ?_ ?_
  · refine .ite ?_ ?_
    · exact .refl _
    · conv => zeta
      split
      refine .ite ?_ ?_
      · refine .step (State.setColumn_frame _ _ _) (by decide) ?_
        refine .step (State.incSat_frame _ _ _ _) (by decide) ?_
        refine .step (State.setElem_frame _ _ _) (by decide) ?_
        refine .ite ?_ ?_
        · refine .step (outerAdd_frame _ _ _) (by decide) ?_
          exact .refl _
        · exact .refl _
      · refine .step (State.setElem_frame _ _ _) (by decide) ?_
        refine .ite ?_ ?_
        · refine .step (outerAdd_frame _ _ _) (by decide) ?_
          exact .refl _
        · exact .refl _
  · refine .ite ?_ ?_
    · refine .step (halveStores_frame _ _) (by decide) ?_
      refine .step (halveStores_frame _ _) (by decide) ?_
      exact .refl _
    · refine .foldl (fun _ _ => ?_) ?_
      · refine .step (State.setVoa_frame _ _ _) (by decide) ?_
        exact .refl _
      · exact .refl _

theorem calLight_frame (s : State) (cv : Nat) (q : Nat) :
    Frame [.objs, .dev, .ex, .lobes, .sorus, .drv, .steady, .mon, .cal] s (calLight s cv q) := by
  unfold calLight
  conv => zeta
  split
  · exact .refl _
  · refine .ite ?_ ?_
    · exact .refl _
    · refine .ite ?_ ?_
      · refine .step (abortCal_frame _ _) (by decide) ?_
        exact .refl _
      · exact .refl _

theorem calRecord_frame (s : State) (cv : Nat) (q : Nat) : Frame [.cal] s (calRecord s cv q) := by
  unfold calRecord
  conv => zeta
  split
  · exact .refl _
  · refine .ite ?_ ?_
    · exact .refl _
    · refine .ite ?_ ?_
      · refine .step (State.putRun_frame _ _) (by decide) ?_
        exact .refl _
      · refine .ite ?_ ?_
        · refine .step (State.putRun_frame _ _) (by decide) ?_
          exact .refl _
        · exact .refl _

theorem calConvFault_frame (s : State) (cv : Nat) :
    Frame [.objs, .dev, .ex, .lobes, .sorus, .drv, .steady, .mon, .cal] s (calConvFault s cv) := by
  unfold calConvFault
  conv => zeta
  split
  · refine .ite ?_ ?_
    · refine .step (abortCal_frame _ _) (by decide) ?_
      exact .refl _
    · exact .refl _
  · exact .refl _

theorem loseConv_frame (s : State) (cv : Nat) (standing : Bool) :
    Frame [.objs, .hbm, .dev, .ex, .sorus, .steady, .loops, .mon, .cal, .fab, .lib, .com, .mat] s (loseConv s cv standing) := by
  unfold loseConv
  refine .foldl (fun _ _ => ?_) ?_
  · refine .ite ?_ ?_
    · refine .ite ?_ ?_
      · refine .step (reportFault_frame _ _ _) (by decide) ?_
        exact .refl _
      · exact .refl _
    · refine .ite ?_ ?_
      · exact .refl _
      · refine .step (disableVoa_frame _ _) (by decide) ?_
        exact .refl _
  · refine .step (raiseA_frame _ _ _) (by decide) ?_
    refine .step (State.setConv_frame _ _ _) (by decide) ?_
    exact .refl _

theorem convFails_frame (s : State) (cv : Nat) :
    Frame [.objs, .hbm, .dev, .ex, .lobes, .sorus, .drv, .steady, .loops, .mon, .cal, .fab, .lib, .com, .mat] s (convFails s cv) := by
  unfold convFails
  refine .ite ?_ ?_
  · refine .step (loseConv_frame _ _ _) (by decide) ?_
    refine .step (calConvFault_frame _ _) (by decide) ?_
    exact .refl _
  · refine .ite ?_ ?_
    · refine .step (State.setConv_frame _ _ _) (by decide) ?_
      refine .step (calConvFault_frame _ _) (by decide) ?_
      exact .refl _
    · refine .step (loseConv_frame _ _ _) (by decide) ?_
      refine .step (calConvFault_frame _ _) (by decide) ?_
      exact .refl _

theorem judgeCheck_frame (s : State) (cv : Nat) (code : Nat) :
    Frame [.objs, .hbm, .dev, .ex, .lobes, .sorus, .drv, .steady, .loops, .mon, .cal, .fab, .lib, .com, .mat] s (judgeCheck s cv code) := by
  unfold judgeCheck
  refine .ite ?_ ?_
  · refine .step (State.setObjN_frame _ _ _ _) (by decide) ?_
    exact .refl _
  · refine .ite ?_ ?_
    · refine .ite ?_ ?_
      · refine .step (convFails_frame _ _) (by decide) ?_
        refine .step (State.setConv_frame _ _ _) (by decide) ?_
        refine .step (State.setObjN_frame _ _ _ _) (by decide) ?_
        exact .refl _
      · refine .step (State.setConv_frame _ _ _) (by decide) ?_
        refine .step (State.setObjN_frame _ _ _ _) (by decide) ?_
        exact .refl _
    · refine .step (State.setConv_frame _ _ _) (by decide) ?_
      refine .step (State.setObjN_frame _ _ _ _) (by decide) ?_
      exact .refl _

theorem judgeSpare_frame (s : State) (mb : Nat) (code : Nat) : Frame [.objs, .ex, .sorus, .mon] s (judgeSpare s mb code) := by
  unfold judgeSpare
  refine .ite ?_ ?_
  · refine .ite ?_ ?_
    · refine .step (raiseA_frame _ _ _) (by decide) ?_
      refine .step (State.setMonBank_frame _ _ _) (by decide) ?_
      exact .refl _
    · refine .step (State.setMonBank_frame _ _ _) (by decide) ?_
      exact .refl _
  · refine .step (State.setMonBank_frame _ _ _) (by decide) ?_
    exact .refl _

theorem loadCoefs_frame (s : State) (cv : Nat) (offset : Int) (gain : Int) :
    Frame1 [.objs, .staged, .stagedOcts, .mon] s (loadCoefs s cv offset gain) := by
  unfold loadCoefs
  refine .pair ?_
  refine .step (State.setObjN_frame _ _ _ _) (by decide) ?_
  refine .step (setCoef_frame _ _ _ _) (by decide) ?_
  refine .step (setCoef_frame _ _ _ _) (by decide) ?_
  refine .step (State.unstage_frame _ _ _) (by decide) ?_
  refine .step (State.unstage_frame _ _ _) (by decide) ?_
  exact .refl _

theorem execLoopSaturated_frame (e : Nat) (s : State) (s' : State) (h : execLoopSaturated e s = .next s') :
    Frame [.objs, .hbm, .dev, .ex, .sorus, .steady, .loops, .cal, .fab, .lib, .com, .mat] s s' := by
  unfold execLoopSaturated at h
  refine finish_frame h ?_
  refine .ite ?_ ?_
  · refine .step (raiseA_frame _ _ _) (by decide) ?_
    refine .step (reportFault_frame _ _ _) (by decide) ?_
    exact .refl _
  · exact .refl _

theorem fixedGains_frame (s : State) (mb : Nat) : Frame [.mon] s (fixedGains s mb) := by
  unfold fixedGains
  refine .set_mon (by decide) ?_
  exact .refl _

theorem execRefReady_frame (mb : Nat) (s : State) (s' : State) (h : execRefReady mb s = .next s') :
    Frame [.objs, .ex, .mon] s s' := by
  unfold execRefReady at h
  refine finish_frame h ?_
  conv => zeta
  split
  · refine .ite ?_ ?_
    · refine .step (fixedGains_frame _ _) (by decide) ?_
      refine .step (State.setObjN_frame _ _ _ _) (by decide) ?_
      refine .step (State.setMonBank_frame _ _ _) (by decide) ?_
      exact .refl _
    · exact .refl _
  · exact .refl _

theorem refFollow_frame (s : State) (mb : Nat) : Frame [.objs, .mon] s (refFollow s mb) := by
  unfold refFollow
  refine .ite ?_ ?_
  · refine .ite ?_ ?_
    · exact .refl _
    · refine .step (State.setMonBank_frame _ _ _) (by decide) ?_
      exact .refl _
  · refine .step (State.setObjN_frame _ _ _ _) (by decide) ?_
    refine .step (State.setMonBank_frame _ _ _) (by decide) ?_
    exact .refl _

theorem effRefEnable_frame (mb : Nat) (v : Int) (s : State) : Frame1 [.objs, .mon] s (effRefEnable mb v s) := by
  unfold effRefEnable
  refine .pair ?_
  refine .step (refFollow_frame _ _) (by decide) ?_
  refine .step (State.setObj_frame _ _ _ _) (by decide) ?_
  exact .refl _

theorem execRefEnable_frame (sess : Nat) (mb : Nat) (v : Int) (s : State) (s' : State) (h : execRefEnable sess mb v s = .next s') :
    Frame [.objs, .ex, .sorus, .mon, .lib] s s' := by
  unfold execRefEnable at h
  refine finish_frame h ?_
  refine hostWrite_frame (by decide) (fun _ => ?_) ?_ 
  · refine .step (effRefEnable_frame _ _ _) (by decide) ?_
    exact .refl _
  · exact .refl _

theorem resetGains_frame (s : State) (mb : Nat) : Frame [.mon] s (resetGains s mb) := by
  unfold resetGains
  refine .set_mon (by decide) ?_
  exact .refl _

theorem powerBank_frame (s : State) (mb : Nat) (v : Int) : Frame [.objs, .ex, .sorus, .mon] s (powerBank s mb v) := by
  unfold powerBank
  refine .step (raiseA_frame _ _ _) (by decide) ?_
  refine .ite ?_ ?_
  · refine .step (resetGains_frame _ _) (by decide) ?_
    refine .step (State.setMonBank_frame _ _ _) (by decide) ?_
    exact .refl _
  · refine .step (State.setMonBank_frame _ _ _) (by decide) ?_
    exact .refl _

theorem effBankPower_frame (mb : Nat) (v : Int) (s : State) : Frame1 [.objs, .ex, .sorus, .mon] s (effBankPower mb v s) := by
  unfold effBankPower
  refine .ite ?_ ?_
  · refine .pair ?_
    exact .refl _
  · refine .ite ?_ ?_
    · refine .pair ?_
      exact .refl _
    · refine .pair ?_
      refine .step (refFollow_frame _ _) (by decide) ?_
      refine .step (powerBank_frame _ _ _) (by decide) ?_
      refine .step (State.setObj_frame _ _ _ _) (by decide) ?_
      exact .refl _

theorem execBankPower_frame (sess : Nat) (mb : Nat) (v : Int) (s : State) (s' : State) (h : execBankPower sess mb v s = .next s') :
    Frame [.objs, .ex, .sorus, .mon, .lib] s s' := by
  unfold execBankPower at h
  refine finish_frame h ?_
  refine hostWrite_frame (by decide) (fun _ => ?_) ?_ 
  · refine .step (effBankPower_frame _ _ _) (by decide) ?_
    exact .refl _
  · exact .refl _

theorem effGainMode_frame (pd : Nat) (v : Int) (s : State) : Frame1 [.objs, .mon] s (effGainMode pd v s) := by
  unfold effGainMode
  refine .pair ?_
  refine .set_mon (by decide) ?_
  refine .step (State.setObj_frame _ _ _ _) (by decide) ?_
  exact .refl _

theorem execGainMode_frame (sess : Nat) (pd : Nat) (v : Int) (s : State) (s' : State) (h : execGainMode sess pd v s = .next s') :
    Frame [.objs, .ex, .sorus, .mon, .lib] s s' := by
  unfold execGainMode at h
  refine finish_frame h ?_
  refine hostWrite_frame (by decide) (fun _ => ?_) ?_ 
  · refine .step (effGainMode_frame _ _ _) (by decide) ?_
    exact .refl _
  · exact .refl _

theorem convCheck_frame (s : State) (cv : Nat) (code : Nat) :
    Frame [.objs, .hbm, .dev, .ex, .lobes, .sorus, .drv, .steady, .loops, .mon, .cal, .fab, .lib, .com, .mat] s (convCheck s cv code) := by
  unfold convCheck
  refine .ite ?_ ?_
  · exact .refl _
  · refine .ite ?_ ?_
    · refine .step (State.setConv_frame _ _ _) (by decide) ?_
      exact .refl _
    · refine .ite ?_ ?_
      · exact .refl _
      · refine .ite ?_ ?_
        · refine .step (judgeCheck_frame _ _ _) (by decide) ?_
          refine .step (State.setObjN_frame _ _ _ _) (by decide) ?_
          refine .step (State.setConv_frame _ _ _) (by decide) ?_
          refine .step (State.setMonBank_frame _ _ _) (by decide) ?_
          exact .refl _
        · refine .ite ?_ ?_
          · refine .step (State.setConv_frame _ _ _) (by decide) ?_
            exact .refl _
          · refine .step (State.setConv_frame _ _ _) (by decide) ?_
            exact .refl _

theorem spareCheck_frame (s : State) (mb : Nat) (code : Nat) : Frame [.objs, .ex, .sorus, .mon] s (spareCheck s mb code) := by
  unfold spareCheck
  refine .ite ?_ ?_
  · exact .refl _
  · refine .step (judgeSpare_frame _ _ _) (by decide) ?_
    refine .step (State.setMonBank_frame _ _ _) (by decide) ?_
    exact .refl _

theorem execConverterCheck_frame (cv : Nat) (code : Nat) (s : State) (s' : State) (h : execConverterCheck cv code s = .next s') :
    Frame [.objs, .hbm, .dev, .ex, .lobes, .sorus, .drv, .steady, .loops, .mon, .cal, .fab, .lib, .com, .mat] s s' := by
  unfold execConverterCheck at h
  refine finish_frame h ?_
  refine .ite ?_ ?_
  · exact .refl _
  · refine .ite ?_ ?_
    · refine .step (convCheck_frame _ _ _) (by decide) ?_
      exact .refl _
    · refine .ite ?_ ?_
      · refine .step (spareCheck_frame _ _ _) (by decide) ?_
        exact .refl _
      · exact .refl _

theorem execConvSubstituted_frame (cv : Nat) (s : State) (s' : State) (h : execConvSubstituted cv s = .next s') :
    Frame [.objs, .staged, .stagedOcts, .hbm, .dev, .ex, .sorus, .steady, .loops, .mon, .cal, .fab, .lib, .com, .mat] s s' := by
  unfold execConvSubstituted at h
  refine finish_frame h ?_
  refine .ite ?_ ?_
  · exact .refl _
  · refine .ite ?_ ?_
    · refine .step (loseConv_frame _ _ _) (by decide) ?_
      refine .step (State.setConv_frame _ _ _) (by decide) ?_
      exact .refl _
    · conv => zeta
      split
      refine .step (raiseA_frame _ _ _) (by decide) ?_
      refine .fst (by assumption) ?_
      refine .step (loadCoefs_frame _ _ _ _) (by decide) ?_
      refine .step (State.setMonBank_frame _ _ _) (by decide) ?_
      refine .step (State.setConv_frame _ _ _) (by decide) ?_
      exact .refl _

theorem effInjApply_frame (s : State) : Frame1 [.objs, .octs, .staged, .stagedOcts, .mon] s (effInjApply s) := by
  unfold effInjApply
  refine .ite ?_ ?_
  · refine .pair ?_
    exact .refl _
  · refine .ite ?_ ?_
    · refine .pair ?_
      exact .refl _
    · refine .ite ?_ ?_
      · refine .pair ?_
        exact .refl _
      · refine .ite ?_ ?_
        · refine .pair ?_
          exact .refl _
        · refine .pair ?_
          refine .step (State.setObjN_frame _ _ _ _) (by decide) ?_
          refine .set_mon (by decide) ?_
          refine .step (State.setConv_frame _ _ _) (by decide) ?_
          refine .step (State.applyStaged_frame _ _) (by decide) ?_
          refine .step (State.applyStaged_frame _ _) (by decide) ?_
          exact .refl _

theorem execInjApply_frame (sess : Nat) (s : State) (s' : State) (h : execInjApply sess s = .next s') :
    Frame [.objs, .octs, .staged, .stagedOcts, .ex, .sorus, .mon, .lib] s s' := by
  unfold execInjApply at h
  refine finish_frame h ?_
  refine hostWrite_frame (by decide) (fun _ => ?_) ?_ 
  · refine .step (effInjApply_frame _) (by decide) ?_
    exact .refl _
  · exact .refl _

theorem calInjected_frame (s : State) (cv : Nat) (code : Nat) (n : Nat) : Frame [.mon, .cal] s (calInjected s cv code n) := by
  unfold calInjected
  conv => zeta
  split
  · exact .refl _
  · refine .ite ?_ ?_
    · refine .step (State.setConv_frame _ _ _) (by decide) ?_
      refine .step (State.putRun_frame _ _) (by decide) ?_
      exact .refl _
    · refine .step (State.putRun_frame _ _) (by decide) ?_
      exact .refl _

theorem queuedCheck_frame (s : State) (cv : Nat) (code : Nat) (n : Nat) :
    Frame [.objs, .hbm, .dev, .ex, .lobes, .sorus, .drv, .steady, .loops, .mon, .cal, .fab, .lib, .com, .mat] s (queuedCheck s cv code n) := by
  unfold queuedCheck
  refine .step (judgeCheck_frame _ _ _) (by decide) ?_
  refine .step (State.setMonBank_frame _ _ _) (by decide) ?_
  exact .refl _

theorem execInjectionDone_frame (cv : Nat) (code : Nat) (overRange : Bool) (s : State) (s' : State) (h : execInjectionDone cv code overRange s = .next s') :
    Frame [.objs, .hbm, .dev, .ex, .lobes, .sorus, .drv, .steady, .loops, .mon, .cal, .fab, .lib, .com, .mat] s s' := by
  unfold execInjectionDone at h
  refine finish_frame h ?_
  conv => zeta
  split
  · exact .refl _
  · refine .ite ?_ ?_
    · exact .refl _
    · refine .ite ?_ ?_
      · refine .step (State.setConv_frame _ _ _) (by decide) ?_
        exact .refl _
      · refine .ite ?_ ?_
        · refine .step (calInjected_frame _ _ _ _) (by decide) ?_
          refine .step (State.setObjN_frame _ _ _ _) (by decide) ?_
          refine .step (State.setConv_frame _ _ _) (by decide) ?_
          exact .refl _
        · refine .ite ?_ ?_
          · refine .step (State.setObjN_frame _ _ _ _) (by decide) ?_
            refine .step (State.setObjN_frame _ _ _ _) (by decide) ?_
            refine .set_mon (by decide) ?_
            refine .step (State.setObjN_frame _ _ _ _) (by decide) ?_
            refine .step (State.setConv_frame _ _ _) (by decide) ?_
            exact .refl _
          · refine .step (queuedCheck_frame _ _ _ _) (by decide) ?_
            refine .step (State.setObjN_frame _ _ _ _) (by decide) ?_
            refine .step (State.setConv_frame _ _ _) (by decide) ?_
            exact .refl _

theorem effFocusStart_frame (cv : Nat) (v : Int) (s : State) :
    Frame1 [.objs, .octs, .staged, .stagedOcts, .mon] s (effFocusStart cv v s) := by
  unfold effFocusStart
  refine .ite ?_ ?_
  · refine .pair ?_
    refine .step (State.setConv_frame _ _ _) (by decide) ?_
    exact .refl _
  · refine .ite ?_ ?_
    · refine .pair ?_
      exact .refl _
    · refine .ite ?_ ?_
      · refine .pair ?_
        exact .refl _
      · refine .ite ?_ ?_
        · refine .pair ?_
          exact .refl _
        · refine .pair ?_
          refine .step (State.setConv_frame _ _ _) (by decide) ?_
          refine .foldl (fun _ _ => ?_) ?_
          · refine .step (State.applyStagedAt_frame _ _ _) (by decide) ?_
            exact .refl _
          · exact .refl _

theorem execFocusStart_frame (sess : Nat) (cv : Nat) (s : State) (s' : State) (h : execFocusStart sess cv s = .next s') :
    Frame [.objs, .octs, .staged, .stagedOcts, .ex, .sorus, .mon, .lib] s s' := by
  unfold execFocusStart at h
  refine finish_frame h ?_
  refine hostWrite_frame (by decide) (fun _ => ?_) ?_ 
  · refine .step (effFocusStart_frame _ _ _) (by decide) ?_
    exact .refl _
  · exact .refl _

theorem execFocusStop_frame (sess : Nat) (cv : Nat) (s : State) (s' : State) (h : execFocusStop sess cv s = .next s') :
    Frame [.objs, .octs, .staged, .stagedOcts, .ex, .sorus, .mon, .lib] s s' := by
  unfold execFocusStop at h
  refine finish_frame h ?_
  refine hostWrite_frame (by decide) (fun _ => ?_) ?_ 
  · refine .step (effFocusStart_frame _ _ _) (by decide) ?_
    exact .refl _
  · exact .refl _

theorem execFocusEntry_frame (cv : Nat) (s : State) (s' : State) (h : execFocusEntry cv s = .next s') :
    Frame [.ex, .mon] s s' := by
  unfold execFocusEntry at h
  refine finish_frame h ?_
  conv => zeta
  split
  · refine .ite ?_ ?_
    · refine .step (State.setConv_frame _ _ _) (by decide) ?_
      exact .refl _
    · exact .refl _
  · exact .refl _

theorem execFocusEnded_frame (cv : Nat) (s : State) (s' : State) (h : execFocusEnded cv s = .next s') :
    Frame [.objs, .ex, .sorus, .mon] s s' := by
  unfold execFocusEnded at h
  refine finish_frame h ?_
  conv => zeta
  split
  · refine .ite ?_ ?_
    · refine .step (raiseA_frame _ _ _) (by decide) ?_
      refine .step (State.setConv_frame _ _ _) (by decide) ?_
      exact .refl _
    · exact .refl _
  · exact .refl _

theorem inputLost_frame (s : State) (n : Nat) (cause : Nat) : Frame [.objs, .ex, .sorus, .loops] s (inputLost s n cause) := by
  unfold inputLost
  refine .ite ?_ ?_
  · refine .step (sourceLost_frame _ _) (by decide) ?_
    refine .foldl (fun _ _ => ?_) ?_
    · refine .step (State.setVoa_frame _ _ _) (by decide) ?_
      exact .refl _
    · refine .step (raiseA_frame _ _ _) (by decide) ?_
      exact .refl _
  · refine .step (raiseA_frame _ _ _) (by decide) ?_
    exact .refl _

theorem inputBack_frame (s : State) (n : Nat) : Frame [.objs, .ex, .sorus, .loops] s (inputBack s n) := by
  unfold inputBack
  refine .step (raiseA_frame _ _ _) (by decide) ?_
  refine .set_loops (by decide) ?_
  exact .refl _

theorem execSpaSample_frame (n : Nat) (code : Nat) (s : State) (s' : State) (h : execSpaSample n code s = .next s') :
    Frame [.objs, .ex, .sorus, .loops, .mon] s s' := by
  unfold execSpaSample at h
  refine finish_frame h ?_
  refine .ite ?_ ?_
  · exact .refl _
  · refine .ite ?_ ?_
    · refine .step (inputLost_frame _ _ _) (by decide) ?_
      refine .step (State.setObjN_frame _ _ _ _) (by decide) ?_
      refine .step (State.setObj_frame _ _ _ _) (by decide) ?_
      refine .step (State.setObjN_frame _ _ _ _) (by decide) ?_
      refine .set_mon (by decide) ?_
      exact .refl _
    · refine .ite ?_ ?_
      · refine .step (inputBack_frame _ _) (by decide) ?_
        refine .step (State.setObjN_frame _ _ _ _) (by decide) ?_
        refine .step (State.setObj_frame _ _ _ _) (by decide) ?_
        refine .step (State.setObjN_frame _ _ _ _) (by decide) ?_
        refine .set_mon (by decide) ?_
        exact .refl _
      · refine .step (State.setObjN_frame _ _ _ _) (by decide) ?_
        refine .step (State.setObj_frame _ _ _ _) (by decide) ?_
        refine .step (State.setObjN_frame _ _ _ _) (by decide) ?_
        refine .set_mon (by decide) ?_
        exact .refl _

theorem setSpp_frame (s : State) (n : Nat) (x : SetIn) : Frame [.objs, .mon] s (setSpp s n x) := by
  unfold setSpp
  refine .step (State.setObjN_frame _ _ _ _) (by decide) ?_
  refine .set_mon (by decide) ?_
  exact .refl _

theorem execSppWindowEnd_frame (n : Nat) (edges : Nat) (span : Nat) (high : Nat) (s : State) (s' : State) (h : execSppWindowEnd n edges span high s = .next s') :
    Frame [.objs, .ex, .sorus, .loops, .mon] s s' := by
  unfold execSppWindowEnd at h
  refine finish_frame h ?_
  refine .ite ?_ ?_
  · exact .refl _
  · refine .ite ?_ ?_
    · refine .step (setSpp_frame _ _ _) (by decide) ?_
      exact .refl _
    · refine .ite ?_ ?_
      · refine .ite ?_ ?_
        · refine .step (inputLost_frame _ _ _) (by decide) ?_
          refine .step (setSpp_frame _ _ _) (by decide) ?_
          refine .step (State.setObj_frame _ _ _ _) (by decide) ?_
          refine .step (State.setObjN_frame _ _ _ _) (by decide) ?_
          refine .step (State.setObjN_frame _ _ _ _) (by decide) ?_
          exact .refl _
        · refine .step (setSpp_frame _ _ _) (by decide) ?_
          refine .step (State.setObj_frame _ _ _ _) (by decide) ?_
          refine .step (State.setObjN_frame _ _ _ _) (by decide) ?_
          refine .step (State.setObjN_frame _ _ _ _) (by decide) ?_
          exact .refl _
      · refine .ite ?_ ?_
        · refine .step (setSpp_frame _ _ _) (by decide) ?_
          refine .step (State.setObj_frame _ _ _ _) (by decide) ?_
          refine .step (State.setObjN_frame _ _ _ _) (by decide) ?_
          refine .step (State.setObjN_frame _ _ _ _) (by decide) ?_
          exact .refl _
        · refine .step (inputBack_frame _ _) (by decide) ?_
          refine .step (setSpp_frame _ _ _) (by decide) ?_
          refine .step (State.setObj_frame _ _ _ _) (by decide) ?_
          refine .step (State.setObjN_frame _ _ _ _) (by decide) ?_
          refine .step (State.setObjN_frame _ _ _ _) (by decide) ?_
          exact .refl _

theorem execSppTimeout_frame (n : Nat) (s : State) (s' : State) (h : execSppTimeout n s = .next s') :
    Frame [.objs, .ex, .sorus, .loops, .mon] s s' := by
  unfold execSppTimeout at h
  refine finish_frame h ?_
  refine .ite ?_ ?_
  · refine .step (inputLost_frame _ _ _) (by decide) ?_
    refine .step (setSpp_frame _ _ _) (by decide) ?_
    exact .refl _
  · exact .refl _

theorem execAvgWindowEnd_frame (n : Nat) (s : State) (s' : State) (h : execAvgWindowEnd n s = .next s') :
    Frame [.objs, .ex, .sorus, .mon] s s' := by
  unfold execAvgWindowEnd at h
  refine finish_frame h ?_
  refine .ite ?_ ?_
  · refine .step (avgStore_frame _ _) (by decide) ?_
    exact .refl _
  · exact .refl _

theorem effAvgConfig_frame (n : Nat) (len : Bool) (v : Int) (s : State) : Frame1 [.objs, .mon] s (effAvgConfig n len v s) := by
  unfold effAvgConfig
  refine .ite ?_ ?_
  · refine .pair ?_
    refine .step (State.setObj_frame _ _ _ _) (by decide) ?_
    refine .step (State.setAvg_frame _ _ _) (by decide) ?_
    exact .refl _
  · refine .ite ?_ ?_
    · refine .pair ?_
      refine .step (State.setObj_frame _ _ _ _) (by decide) ?_
      refine .step (State.setAvg_frame _ _ _) (by decide) ?_
      exact .refl _
    · refine .pair ?_
      exact .refl _

theorem execAvgConfig_frame (sess : Nat) (n : Nat) (len : Bool) (v : Int) (s : State) (s' : State) (h : execAvgConfig sess n len v s = .next s') :
    Frame [.objs, .ex, .sorus, .mon, .lib] s s' := by
  unfold execAvgConfig at h
  refine finish_frame h ?_
  refine hostWrite_frame (by decide) (fun _ => ?_) ?_ 
  · refine .step (effAvgConfig_frame _ _ _ _) (by decide) ?_
    exact .refl _
  · exact .refl _

theorem effDpApply_frame (s : State) : Frame1 [.mon] s (effDpApply s) := by
  unfold effDpApply
  refine .ite ?_ ?_
  · refine .pair ?_
    exact .refl _
  · refine .pair ?_
    refine .set_mon (by decide) ?_
    exact .refl _

theorem execDpApply_frame (sess : Nat) (s : State) (s' : State) (h : execDpApply sess s = .next s') :
    Frame [.objs, .ex, .sorus, .mon, .lib] s s' := by
  unfold execDpApply at h
  refine finish_frame h ?_
  refine hostWrite_frame (by decide) (fun _ => ?_) ?_ 
  · refine .step (effDpApply_frame _) (by decide) ?_
    exact .refl _
  · exact .refl _

theorem keepStaged_frame (s : State) (addr : Nat) : Frame [.mon] s (keepStaged s addr) := by
  unfold keepStaged
  refine .foldl (fun _ _ => ?_) ?_
  · refine .step (keepCoefOct_frame _ _ _) (by decide) ?_
    exact .refl _
  · refine .foldl (fun _ _ => ?_) ?_
    · refine .step (keepCoef_frame _ _ _) (by decide) ?_
      exact .refl _
    · exact .refl _

theorem execDpApplied_frame (s : State) (s' : State) (h : execDpApplied s = .next s') :
    Frame [.objs, .octs, .staged, .stagedOcts, .ex, .sorus, .mon, .cal] s s' := by
  unfold execDpApplied at h
  refine finish_frame h ?_
  refine .ite ?_ ?_
  · refine .step (raiseA_frame _ _ _) (by decide) ?_
    refine .step (State.setObjN_frame _ _ _ _) (by decide) ?_
    refine .ite ?_ ?_
    · refine .step (noteUnstored_frame _) (by decide) ?_
      refine .foldl (fun _ _ => ?_) ?_
      · refine .step (State.setConv_frame _ _ _) (by decide) ?_
        exact .refl _
      · refine .foldl (fun _ _ => ?_) ?_
        · refine .step (State.applyStaged_frame _ _) (by decide) ?_
          refine .step (keepStaged_frame _ _) (by decide) ?_
          exact .refl _
        · refine .set_mon (by decide) ?_
          exact .refl _
    · refine .foldl (fun _ _ => ?_) ?_
      · refine .step (State.setConv_frame _ _ _) (by decide) ?_
        exact .refl _
      · refine .foldl (fun _ _ => ?_) ?_
        · refine .step (State.applyStaged_frame _ _) (by decide) ?_
          refine .step (keepStaged_frame _ _) (by decide) ?_
          exact .refl _
        · refine .set_mon (by decide) ?_
          exact .refl _
  · exact .refl _

theorem sweepElement_frame (s : State) (r : CalRun) (k : Nat) : Frame [.lobes, .drv] s (sweepElement s r k) := by
  unfold sweepElement
  refine .ite ?_ ?_
  · split
    refine .step (writeDirect_frame _ _ _) (by decide) ?_
    refine .step (writeDirect_frame _ _ _) (by decide) ?_
    exact .refl _
  · refine .ite ?_ ?_
    · refine .step (driveTrimmer_frame _ _ _) (by decide) ?_
      refine .step (restoreCodes_frame _ _) (by decide) ?_
      exact .refl _
    · exact .refl _

theorem sweepVoa_frame (s : State) (r : CalRun) (k : Nat) : Frame [.lobes, .drv] s (sweepVoa s r k) := by
  unfold sweepVoa
  refine .ite ?_ ?_
  · refine .step (writeTarget_frame _ _ _) (by decide) ?_
    exact .refl _
  · exact .refl _

theorem kickArm_frame (s : State) (u : Nat) (final : Nat) (a1 : Int) (a2 : Int) (d1 : Nat) (d2 : Nat) :
    Frame [.lobes, .drv] s (kickArm s u final a1 a2 d1 d2) := by
  unfold kickArm
  refine .ite ?_ ?_
  · refine .step (State.setChan_frame _ _ _) (by decide) ?_
    refine .step (writeDirect_frame _ _ _) (by decide) ?_
    exact .refl _
  · refine .step (writeDirect_frame _ _ _) (by decide) ?_
    exact .refl _

theorem toggleElement_frame (s : State) (r : CalRun) (k : Nat) : Frame [.lobes, .drv] s (toggleElement s r k) := by
  unfold toggleElement
  refine .ite ?_ ?_
  · conv => zeta
    split
    split
    refine .step (kickArm_frame _ _ _ _ _ _ _) (by decide) ?_
    refine .step (kickArm_frame _ _ _ _ _ _ _) (by decide) ?_
    exact .refl _
  · exact .refl _

theorem calScan_frame (s : State) : Frame [.lobes, .drv, .cal] s (calScan s) := by
  unfold calScan
  conv => zeta
  split
  · refine .ite ?_ ?_
    · refine .step (returnBack_frame _ _) (by decide) ?_
      exact .refl _
    · exact .refl _
  · refine .ite ?_ ?_
    · refine .ite ?_ ?_
      · refine .step (returnBack_frame _ _) (by decide) ?_
        exact .refl _
      · exact .refl _
    · split
      · refine .step (sweepElement_frame _ _ _) (by decide) ?_
        refine .ite ?_ ?_
        · refine .step (returnBack_frame _ _) (by decide) ?_
          exact .refl _
        · exact .refl _
      · refine .step (sweepVoa_frame _ _ _) (by decide) ?_
        refine .ite ?_ ?_
        · refine .step (returnBack_frame _ _) (by decide) ?_
          exact .refl _
        · exact .refl _
      · refine .step (toggleElement_frame _ _ _) (by decide) ?_
        refine .ite ?_ ?_
        · refine .step (returnBack_frame _ _) (by decide) ?_
          exact .refl _
        · exact .refl _
      · refine .ite ?_ ?_
        · refine .step (returnBack_frame _ _) (by decide) ?_
          exact .refl _
        · exact .refl _

theorem effCalApply_frame (s : State) : Frame1 [.objs, .octs, .staged, .stagedOcts, .cal] s (effCalApply s) := by
  unfold effCalApply
  refine .ite ?_ ?_
  · refine .pair ?_
    exact .refl _
  · refine .ite ?_ ?_
    · refine .pair ?_
      exact .refl _
    · refine .ite ?_ ?_
      · refine .pair ?_
        exact .refl _
      · refine .ite ?_ ?_
        · refine .pair ?_
          exact .refl _
        · refine .pair ?_
          refine .set_cal (by decide) ?_
          refine .step (State.applyStaged_frame _ _) (by decide) ?_
          refine .step (State.applyStaged_frame _ _) (by decide) ?_
          exact .refl _

theorem execCalApply_frame (sess : Nat) (s : State) (s' : State) (h : execCalApply sess s = .next s') :
    Frame [.objs, .octs, .staged, .stagedOcts, .ex, .sorus, .cal, .lib] s s' := by
  unfold execCalApply at h
  refine finish_frame h ?_
  refine hostWrite_frame (by decide) (fun _ => ?_) ?_ 
  · refine .step (effCalApply_frame _) (by decide) ?_
    exact .refl _
  · exact .refl _

theorem borrowConv_frame (s : State) (cv : Nat) : Frame [.objs, .staged, .stagedOcts, .mon] s (borrowConv s cv) := by
  unfold borrowConv
  refine .of1 ?_
  refine .step (loadCoefs_frame _ _ _ _) (by decide) ?_
  refine .step (State.setMonBank_frame _ _ _) (by decide) ?_
  refine .step (State.setConv_frame _ _ _) (by decide) ?_
  exact .refl _

theorem startRun_frame (s : State) (r : CalRun) : Frame [.objs, .staged, .stagedOcts, .drv, .mon, .cal] s (startRun s r) := by
  unfold startRun
  conv => zeta
  split
  · split
    · refine .ite ?_ ?_
      · refine .step (State.putRun_frame _ _) (by decide) ?_
        refine .step (loadSpare_frame _ _ _ _) (by decide) ?_
        exact .refl _
      · refine .step (State.putRun_frame _ _) (by decide) ?_
        exact .refl _
    · refine .step (State.putRun_frame _ _) (by decide) ?_
      exact .refl _
  · refine .ite ?_ ?_
    · refine .step (State.putRun_frame _ _) (by decide) ?_
      refine .step (borrowConv_frame _ _) (by decide) ?_
      exact .refl _
    · refine .step (State.putRun_frame _ _) (by decide) ?_
      refine .step (State.setConv_frame _ _ _) (by decide) ?_
      exact .refl _
  · refine .step (State.putRun_frame _ _) (by decide) ?_
    refine .ite ?_ ?_
    · refine .step (State.setConv_frame _ _ _) (by decide) ?_
      exact .refl _
    · exact .refl _
  · refine .step (State.putRun_frame _ _) (by decide) ?_
    refine .ite ?_ ?_
    · refine .step (State.setConv_frame _ _ _) (by decide) ?_
      exact .refl _
    · exact .refl _
  · refine .step (State.putRun_frame _ _) (by decide) ?_
    exact .refl _
  · refine .step (State.putRun_frame _ _) (by decide) ?_
    exact .refl _

theorem calGo_frame (s : State) (r : CalRun) : Frame [.objs, .staged, .stagedOcts, .drv, .mon, .cal] s (calGo s r) := by
  unfold calGo
  refine .ite ?_ ?_
  · refine .step (startRun_frame _ _) (by decide) ?_
    exact .refl _
  · refine .step (State.putRun_frame _ _) (by decide) ?_
    exact .refl _

theorem calTry_frame (s : State) (r : CalRun) :
    Frame [.objs, .staged, .stagedOcts, .dev, .ex, .funcs, .sorus, .drv, .steady, .mon, .cal] s (calTry s r) := by
  unfold calTry
  conv => zeta
  split
  · refine .step (endCal_frame _ _ _ _ _) (by decide) ?_
    refine .step (State.putRun_frame _ _) (by decide) ?_
    exact .refl _
  · refine .ite ?_ ?_
    · refine .step (State.putRun_frame _ _) (by decide) ?_
      exact .refl _
    · split
      · refine .step (calGo_frame _ _) (by decide) ?_
        exact .refl _
      · refine .ite ?_ ?_
        · refine .step (calGo_frame _ _) (by decide) ?_
          refine .ite ?_ ?_
          · exact .refl _
          · refine .of1 ?_
            refine .step (requestGrant_frame _ _) (by decide) ?_
            refine .step (atModeBoundary_frame _ _) (by decide) ?_
            exact .refl _
        · refine .step (State.putRun_frame _ _) (by decide) ?_
          refine .ite ?_ ?_
          · exact .refl _
          · refine .of1 ?_
            refine .step (requestGrant_frame _ _) (by decide) ?_
            refine .step (atModeBoundary_frame _ _) (by decide) ?_
            exact .refl _

theorem calHead_frame (s : State) (q : CalReq) :
    Frame [.objs, .staged, .stagedOcts, .dev, .ex, .funcs, .sorus, .drv, .steady, .mon, .cal] s (calHead s q) := by
  unfold calHead
  conv => zeta
  split
  · refine .step (endCal_frame _ _ _ _ _) (by decide) ?_
    refine .step (State.putRun_frame _ _) (by decide) ?_
    exact .refl _
  · refine .step (calTry_frame _ _) (by decide) ?_
    exact .refl _

theorem execCalStart_frame (s : State) (s' : State) (h : execCalStart s = .next s') :
    Frame [.objs, .staged, .stagedOcts, .dev, .ex, .funcs, .sorus, .drv, .steady, .mon, .cal] s s' := by
  unfold execCalStart at h
  refine finish_frame h ?_
  refine .ite ?_ ?_
  · exact .refl _
  · conv => zeta
    split
    · refine .ite ?_ ?_
      · exact .refl _
      · refine .ite ?_ ?_
        · refine .ite ?_ ?_
          · refine .step (startRun_frame _ _) (by decide) ?_
            exact .refl _
          · exact .refl _
        · refine .step (calTry_frame _ _) (by decide) ?_
          exact .refl _
    · split
      · refine .step (calHead_frame _ _) (by decide) ?_
        refine .set_cal (by decide) ?_
        exact .refl _
      · exact .refl _

theorem execCalGrantTimeout_frame (s : State) (s' : State) (h : execCalGrantTimeout s = .next s') :
    Frame [.objs, .dev, .ex, .lobes, .sorus, .drv, .steady, .mon, .cal] s s' := by
  unfold execCalGrantTimeout at h
  refine finish_frame h ?_
  split
  · refine .ite ?_ ?_
    · refine .step (abortCal_frame _ _) (by decide) ?_
      exact .refl _
    · exact .refl _
  · exact .refl _

theorem finishItem_frame (s : State) (r : CalRun) (out : CalResult) :
    Frame [.objs, .dev, .ex, .sorus, .steady, .cal] s (finishItem s r out) := by
  unfold finishItem
  refine .ite ?_ ?_
  · refine .step (releaseGrant_frame _ _ _) (by decide) ?_
    refine .step (State.putRun_frame _ _) (by decide) ?_
    refine .set_cal (by decide) ?_
    exact .refl _
  · refine .step (endCal_frame _ _ _ _ _) (by decide) ?_
    refine .set_cal (by decide) ?_
    exact .refl _

theorem calEnd_frame (s : State) (r : CalRun) (res : CalResult) :
    Frame [.objs, .dev, .ex, .lobes, .sorus, .drv, .steady, .mon, .cal] s (calEnd s r res) := by
  unfold calEnd
  refine .ite ?_ ?_
  · refine .step (finishItem_frame _ _ _) (by decide) ?_
    refine .step (restoreCodes_frame _ _) (by decide) ?_
    refine .step (returnLanes_frame _ _) (by decide) ?_
    exact .refl _
  · refine .step (releaseGrant_frame _ _ _) (by decide) ?_
    refine .step (State.putRun_frame _ _) (by decide) ?_
    refine .step (returnBack_frame _ _) (by decide) ?_
    refine .step (restoreCodes_frame _ _) (by decide) ?_
    refine .step (returnLanes_frame _ _) (by decide) ?_
    exact .refl _

theorem execCalRunEnd_frame (result : CalResult) (s : State) (s' : State) (h : execCalRunEnd result s = .next s') :
    Frame [.objs, .dev, .ex, .lobes, .sorus, .drv, .steady, .mon, .cal] s s' := by
  unfold execCalRunEnd at h
  refine finish_frame h ?_
  split
  · refine .ite ?_ ?_
    · exact .refl _
    · split
      · refine .step (abortCal_frame _ _) (by decide) ?_
        exact .refl _
      · refine .ite ?_ ?_
        · exact .refl _
        · refine .ite ?_ ?_
          · refine .step (abortCal_frame _ _) (by decide) ?_
            exact .refl _
          · refine .step (calEnd_frame _ _ _) (by decide) ?_
            exact .refl _
  · exact .refl _

theorem remapCodes_frame (s : State) (addr : Nat) (sel : Nat) : Frame [.lobes, .drv] s (remapCodes s addr sel) := by
  unfold remapCodes
  refine .ite ?_ ?_
  · exact .refl _
  · refine .ite ?_ ?_
    · refine .step (driveElem_frame _ _) (by decide) ?_
      exact .refl _
    · refine .ite ?_ ?_
      · refine .step (driveTrimmer_frame _ _ _) (by decide) ?_
        exact .refl _
      · refine .ite ?_ ?_
        · refine .step (driveVoa_frame _ _) (by decide) ?_
          exact .refl _
        · exact .refl _

theorem setCal_frame (s : State) (addr : Nat) (sel : Nat) (v : Int) : Frame [.objs, .loops, .mon] s (setCal s addr sel v) := by
  unfold setCal
  refine .ite ?_ ?_
  · refine .step (State.setLaw_frame _ _ _ _) (by decide) ?_
    exact .refl _
  · refine .ite ?_ ?_
    · refine .step (setCoef_frame _ _ _ _) (by decide) ?_
      exact .refl _
    · refine .step (State.setObj_frame _ _ _ _) (by decide) ?_
      exact .refl _

theorem applyValues_frame (s : State) (vs : List (Nat × Nat × Int)) (ms : List (Nat × Nat × List Byte)) :
    Frame [.objs, .octs, .lobes, .drv, .loops, .mon, .cal] s (applyValues s vs ms) := by
  unfold applyValues
  refine .ite ?_ ?_
  · refine .step (bumpCalGen_frame _) (by decide) ?_
    refine .foldl (fun _ _ => ?_) ?_
    · refine .step (remapCodes_frame _ _ _) (by decide) ?_
      exact .refl _
    · refine .foldl (fun _ _ => ?_) ?_
      · refine .step (State.setOct_frame _ _ _ _) (by decide) ?_
        exact .refl _
      · refine .foldl (fun _ _ => ?_) ?_
        · refine .step (setCal_frame _ _ _ _) (by decide) ?_
          exact .refl _
        · exact .refl _
  · refine .foldl (fun _ _ => ?_) ?_
    · refine .step (remapCodes_frame _ _ _) (by decide) ?_
      exact .refl _
    · refine .foldl (fun _ _ => ?_) ?_
      · refine .step (State.setOct_frame _ _ _ _) (by decide) ?_
        exact .refl _
      · refine .foldl (fun _ _ => ?_) ?_
        · refine .step (setCal_frame _ _ _ _) (by decide) ?_
          exact .refl _
        · exact .refl _

theorem applyCal_frame (s : State) (vs : List (Nat × Nat × Int)) (ms : List (Nat × Nat × List Byte)) :
    Frame [.objs, .octs, .lobes, .drv, .loops, .mon, .cal] s (applyCal s vs ms) := by
  unfold applyCal
  refine .ite ?_ ?_
  · refine .step (applyValues_frame _ _ _) (by decide) ?_
    exact .refl _
  · refine .step (noteUnstored_frame _) (by decide) ?_
    refine .step (applyValues_frame _ _ _) (by decide) ?_
    exact .refl _

theorem applyCoefs_frame (s : State) (vs : List (Nat × Nat × Int)) :
    Frame [.objs, .staged, .stagedOcts, .mon] s (applyCoefs s vs) := by
  unfold applyCoefs
  refine .foldl (fun _ _ => ?_) ?_
  · split
    · refine .of1 ?_
      refine .step (loadCoefs_frame _ _ _ _) (by decide) ?_
      exact .refl _
    · exact .refl _
  · exact .refl _

theorem applyResult_frame (s : State) (q : CalReq) (r : CalResult) :
    Frame [.objs, .octs, .staged, .stagedOcts, .ex, .lobes, .sorus, .drv, .loops, .mon, .cal] s (applyResult s q r) := by
  unfold applyResult
  refine .step (raiseA_frame _ _ _) (by decide) ?_
  refine .step (returnBack_frame _ _) (by decide) ?_
  refine .ite ?_ ?_
  · refine .set_drv (by decide) ?_
    refine .step (applyCal_frame _ _ _) (by decide) ?_
    refine .ite ?_ ?_
    · refine .step (applyCoefs_frame _ _) (by decide) ?_
      refine .set_cal (by decide) ?_
      exact .refl _
    · refine .step (noteUnstored_frame _) (by decide) ?_
      refine .step (applyCoefs_frame _ _) (by decide) ?_
      refine .set_cal (by decide) ?_
      exact .refl _
  · refine .step (mapDue_frame _) (by decide) ?_
    refine .set_drv (by decide) ?_
    refine .step (applyCal_frame _ _ _) (by decide) ?_
    refine .ite ?_ ?_
    · refine .step (applyCoefs_frame _ _) (by decide) ?_
      refine .set_cal (by decide) ?_
      exact .refl _
    · refine .step (noteUnstored_frame _) (by decide) ?_
      refine .step (applyCoefs_frame _ _) (by decide) ?_
      refine .set_cal (by decide) ?_
      exact .refl _

theorem execCalResultApply_frame (s : State) (s' : State) (h : execCalResultApply s = .next s') :
    Frame [.objs, .octs, .staged, .stagedOcts, .ex, .lobes, .sorus, .drv, .loops, .mon, .cal] s s' := by
  unfold execCalResultApply at h
  refine finish_frame h ?_
  split
  · refine .ite ?_ ?_
    · refine .step (applyResult_frame _ _ _) (by decide) ?_
      exact .refl _
    · exact .refl _
  · exact .refl _

theorem effCalAccept_frame (v : Int) (s : State) : Frame1 [.objs, .dev, .ex, .sorus, .steady, .cal] s (effCalAccept v s) := by
  unfold effCalAccept
  split
  · refine .pair ?_
    exact .refl _
  · refine .ite ?_ ?_
    · refine .pair ?_
      refine .step (finishItem_frame _ _ _) (by decide) ?_
      exact .refl _
    · refine .pair ?_
      refine .step (endCal_frame _ _ _ _ _) (by decide) ?_
      exact .refl _

theorem execCalAccept_frame (sess : Nat) (s : State) (s' : State) (h : execCalAccept sess s = .next s') :
    Frame [.objs, .dev, .ex, .sorus, .steady, .cal, .lib] s s' := by
  unfold execCalAccept at h
  refine finish_frame h ?_
  refine hostWrite_frame (by decide) (fun _ => ?_) ?_ 
  · refine .step (effCalAccept_frame _ _) (by decide) ?_
    exact .refl _
  · exact .refl _

theorem execCalDiscard_frame (sess : Nat) (s : State) (s' : State) (h : execCalDiscard sess s = .next s') :
    Frame [.objs, .dev, .ex, .sorus, .steady, .cal, .lib] s s' := by
  unfold execCalDiscard at h
  refine finish_frame h ?_
  refine hostWrite_frame (by decide) (fun _ => ?_) ?_ 
  · refine .step (effCalAccept_frame _ _) (by decide) ?_
    exact .refl _
  · exact .refl _

theorem execCalAcceptTimeout_frame (s : State) (s' : State) (h : execCalAcceptTimeout s = .next s') :
    Frame [.objs, .dev, .ex, .sorus, .steady, .cal] s s' := by
  unfold execCalAcceptTimeout at h
  refine finish_frame h ?_
  split
  · refine .ite ?_ ?_
    · refine .step (endCal_frame _ _ _ _ _) (by decide) ?_
      exact .refl _
    · exact .refl _
  · exact .refl _

theorem effCalAbort_frame (s : State) :
    Frame1 [.objs, .dev, .ex, .lobes, .sorus, .drv, .steady, .mon, .cal] s (effCalAbort s) := by
  unfold effCalAbort
  refine .pair ?_
  refine .step (abortCal_frame _ _) (by decide) ?_
  refine .set_cal (by decide) ?_
  exact .refl _

theorem execCalAbort_frame (sess : Nat) (s : State) (s' : State) (h : execCalAbort sess s = .next s') :
    Frame [.objs, .dev, .ex, .lobes, .sorus, .drv, .steady, .mon, .cal, .lib] s s' := by
  unfold execCalAbort at h
  refine finish_frame h ?_
  refine hostWrite_frame (by decide) (fun _ => ?_) ?_ 
  · refine .step (effCalAbort_frame _) (by decide) ?_
    exact .refl _
  · exact .refl _

theorem effCalStore_frame (s : State) : Frame1 [.objs, .dev, .ex, .sorus, .cal] s (effCalStore s) := by
  unfold effCalStore
  refine .ite ?_ ?_
  · refine .pair ?_
    exact .refl _
  · refine .ite ?_ ?_
    · refine .pair ?_
      exact .refl _
    · refine .pair ?_
      refine .step (startStore_frame _ _) (by decide) ?_
      refine .set_cal (by decide) ?_
      exact .refl _

theorem execCalStore_frame (sess : Nat) (s : State) (s' : State) (h : execCalStore sess s = .next s') :
    Frame [.objs, .dev, .ex, .sorus, .cal, .lib] s s' := by
  unfold execCalStore at h
  refine finish_frame h ?_
  refine hostWrite_frame (by decide) (fun _ => ?_) ?_ 
  · refine .step (effCalStore_frame _) (by decide) ?_
    exact .refl _
  · exact .refl _

theorem execCalStoreIntervalEnd_frame (s : State) (s' : State) (h : execCalStoreIntervalEnd s = .next s') :
    Frame [.objs, .dev, .ex, .sorus, .cal] s s' := by
  unfold execCalStoreIntervalEnd at h
  refine finish_frame h ?_
  conv => zeta
  split
  · refine .ite ?_ ?_
    · refine .step (autoStore_frame _ _) (by decide) ?_
      refine .set_cal (by decide) ?_
      exact .refl _
    · exact .refl _
  · exact .refl _

theorem effCalValuesApply_frame (s : State) : Frame1 [.cal] s (effCalValuesApply s) := by
  unfold effCalValuesApply
  refine .ite ?_ ?_
  · refine .pair ?_
    exact .refl _
  · refine .pair ?_
    refine .set_cal (by decide) ?_
    exact .refl _

theorem execCalValuesApply_frame (sess : Nat) (s : State) (s' : State) (h : execCalValuesApply sess s = .next s') :
    Frame [.objs, .ex, .sorus, .cal, .lib] s s' := by
  unfold execCalValuesApply at h
  refine finish_frame h ?_
  refine hostWrite_frame (by decide) (fun _ => ?_) ?_ 
  · refine .step (effCalValuesApply_frame _) (by decide) ?_
    exact .refl _
  · exact .refl _

theorem takeCal_frame (s : State) (objs : List Nat) :
    Frame [.objs, .octs, .staged, .stagedOcts, .lobes, .drv, .loops, .mon, .cal] s (takeCal s objs) := by
  unfold takeCal
  refine .step (applyCal_frame _ _ _) (by decide) ?_
  refine .set_staged_stagedOcts (by decide) (by decide) ?_
  exact .refl _

theorem calValuesScan_frame (s : State) :
    Frame [.objs, .octs, .staged, .stagedOcts, .lobes, .drv, .loops, .mon, .cal] s (calValuesScan s) := by
  unfold calValuesScan
  refine .ite ?_ ?_
  · refine .step (takeCal_frame _ _) (by decide) ?_
    refine .set_cal (by decide) ?_
    exact .refl _
  · exact .refl _

theorem effTemplateApply_frame (s : State) :
    Frame1 [.objs, .octs, .staged, .stagedOcts, .lobes, .drv, .loops, .mon, .cal] s (effTemplateApply s) := by
  unfold effTemplateApply
  refine .ite ?_ ?_
  · refine .pair ?_
    exact .refl _
  · refine .pair ?_
    refine .set_cal (by decide) ?_
    refine .step (takeCal_frame _ _) (by decide) ?_
    exact .refl _

theorem execTemplateApply_frame (sess : Nat) (s : State) (s' : State) (h : execTemplateApply sess s = .next s') :
    Frame [.objs, .octs, .staged, .stagedOcts, .ex, .lobes, .sorus, .drv, .loops, .mon, .cal, .lib] s s' := by
  unfold execTemplateApply at h
  refine finish_frame h ?_
  refine hostWrite_frame (by decide) (fun _ => ?_) ?_ 
  · refine .step (effTemplateApply_frame _) (by decide) ?_
    exact .refl _
  · exact .refl _

theorem stopCal_frame (s : State) : Frame [.objs, .dev, .ex, .lobes, .sorus, .drv, .steady, .mon, .cal] s (stopCal s) := by
  unfold stopCal
  refine .step (abortCal_frame _ _) (by decide) ?_
  exact .refl _

theorem refuseCommands_frame (s : State) : Frame [.objs, .ex, .sorus, .lib] s (refuseCommands s) := by
  unfold refuseCommands
  refine .step (settleOwed_frame _ _ _) (by decide) ?_
  refine .step (settleOwed_frame _ _ _) (by decide) ?_
  refine .step (settleOwed_frame _ _ _) (by decide) ?_
  exact .refl _

theorem beginDrain_frame (s : State) :
    Frame [.objs, .dev, .ex, .lobes, .sorus, .drv, .steady, .mon, .cal, .lib, .com, .mat] s (beginDrain s) := by
  unfold beginDrain
  refine .foldl (fun _ _ => ?_) ?_
  · refine .step (abandon_frame _ _ _) (by decide) ?_
    exact .refl _
  · refine .step (refuseAllHeld_frame _) (by decide) ?_
    refine .step (stopCal_frame _) (by decide) ?_
    refine .step (settleOwed_frame _ _ _) (by decide) ?_
    refine .set_dev (by decide) ?_
    refine .step (State.fault_frame _ _) (by decide) ?_
    refine .step (State.enter_frame _ _) (by decide) ?_
    exact .refl _

theorem enterSafe_frame (s : State) :
    Frame [.objs, .dev, .ex, .lobes, .sorus, .drv, .steady, .loops, .mon, .cal, .lib, .com, .mat] s (enterSafe s) := by
  unfold enterSafe
  refine .step (safeAll_frame _) (by decide) ?_
  refine .step (abandonAll_frame _) (by decide) ?_
  refine .step (openAll_frame _) (by decide) ?_
  refine .step (stopCal_frame _) (by decide) ?_
  refine .set_dev (by decide) ?_
  refine .step (State.enter_frame _ _) (by decide) ?_
  exact .refl _

theorem enterHold_frame (s : State) (cause : HoldCause) :
    Frame [.objs, .dev, .ex, .lobes, .sorus, .drv, .steady, .loops, .mon, .cal, .lib, .com, .mat] s (enterHold s cause) := by
  unfold enterHold
  conv => zeta
  split
  · exact .refl _
  · refine .ite ?_ ?_
    · refine .set_dev (by decide) ?_
      exact .refl _
    · exact .refl _
  · refine .step (refuseCommands_frame _) (by decide) ?_
    refine .step (abandonAll_frame _) (by decide) ?_
    refine .step (openAll_frame _) (by decide) ?_
    refine .step (stopCal_frame _) (by decide) ?_
    refine .set_dev (by decide) ?_
    refine .step (State.enter_frame _ _) (by decide) ?_
    refine .set_dev (by decide) ?_
    exact .refl _

theorem State.dropHeld_frame (s : State) (h : HeldPrepare) : Frame [.com] s (State.dropHeld s h) := by
  unfold State.dropHeld
  refine .set_com (by decide) ?_
  exact .refl _

theorem grantPrepare_frame (s : State) (h : HeldPrepare) (r : GReq) :
    Frame [.objs, .ex, .sorus, .steady, .lib, .com] s (grantPrepare s h r) := by
  unfold grantPrepare
  refine .ite ?_ ?_
  · refine .step (acceptPrepare_frame _ _) (by decide) ?_
    refine .step (issueGrant_frame _ _) (by decide) ?_
    exact .refl _
  · refine .step (answerCommit_frame _ _ _ _) (by decide) ?_
    exact .refl _

theorem armPlanned_frame (s : State) (h : HeldPrepare) (plan : Option (Commit × Option Commit)) :
    Frame1 [.objs, .ex, .sorus, .lib, .com] s (armPlanned s h plan) := by
  unfold armPlanned
  split
  · refine .pair ?_
    refine .step (armCommit_frame _ _ _ _ _ _ _) (by decide) ?_
    refine .step (State.incSat_frame _ _ _ _) (by decide) ?_
    exact .refl _
  · refine .pair ?_
    refine .step (answerCommit_frame _ _ _ _) (by decide) ?_
    refine .step (State.incSat_frame _ _ _ _) (by decide) ?_
    exact .refl _

theorem armUnless_frame (s : State) (h : HeldPrepare) (nak : Option Nak) :
    Frame1 [.objs, .ex, .sorus, .lib, .com] s (armUnless s h nak) := by
  unfold armUnless
  split
  · refine .pair ?_
    refine .step (answerCommit_frame _ _ _ _) (by decide) ?_
    exact .refl _
  · refine .step (armPlanned_frame _ _ _) (by decide) ?_
    exact .refl _

theorem grantArm_frame (s : State) (h : HeldPrepare) : Frame1 [.objs, .ex, .sorus, .lib, .com] s (grantArm s h) := by
  unfold grantArm
  refine .step (armUnless_frame _ _ _) (by decide) ?_
  exact .refl _

theorem grantReq_frame (s : State) (r : GReq) : Frame1 [.objs, .ex, .sorus, .steady, .lib, .com] s (grantReq s r) := by
  unfold grantReq
  split
  · refine .ite ?_ ?_
    · refine .step (grantArm_frame _ _) (by decide) ?_
      refine .step (State.dropHeld_frame _ _) (by decide) ?_
      exact .refl _
    · refine .pair ?_
      refine .step (grantPrepare_frame _ _ _) (by decide) ?_
      refine .step (State.dropHeld_frame _ _) (by decide) ?_
      exact .refl _
  · refine .pair ?_
    refine .ite ?_ ?_
    · exact .refl _
    · refine .step (issueGrant_frame _ _) (by decide) ?_
      exact .refl _

theorem grantEntry_frame (s : State) (n : Nat) (r : GReq) :
    Frame [.objs, .ex, .sorus, .steady, .lib, .com] s (grantEntry s n r) := by
  unfold grantEntry
  split
  refine .step (closeReq_frame _ _ _) (by decide) ?_
  refine .fst (by assumption) ?_
  refine .step (grantReq_frame _ _) (by decide) ?_
  exact .refl _

theorem refuseReq_frame (s : State) (r : GReq) :
    Frame [.objs, .dev, .ex, .lobes, .sorus, .drv, .steady, .mon, .cal, .lib, .com] s (refuseReq s r) := by
  unfold refuseReq
  conv => zeta
  split
  · refine .step (answerCommit_frame _ _ _ _) (by decide) ?_
    refine .step (State.dropHeld_frame _ _) (by decide) ?_
    refine .step (State.incSat_frame _ _ _ _) (by decide) ?_
    exact .refl _
  · split
    · refine .ite ?_ ?_
      · refine .step (abortCal_frame _ _) (by decide) ?_
        refine .step (State.incSat_frame _ _ _ _) (by decide) ?_
        exact .refl _
      · refine .step (State.incSat_frame _ _ _ _) (by decide) ?_
        exact .refl _
    · refine .step (State.incSat_frame _ _ _ _) (by decide) ?_
      exact .refl _

theorem decideReq_frame (fits : State → GReq → Bool) (grant : Bool) (s : State) (n : Nat) (r : GReq) :
    Frame [.objs, .dev, .ex, .lobes, .sorus, .drv, .steady, .mon, .cal, .lib, .com] s (decideReq fits grant s n r) := by
  unfold decideReq
  refine .ite ?_ ?_
  · split
    refine .ite ?_ ?_
    · refine .step (grantEntry_frame _ _ _) (by decide) ?_
      refine .step (closeReq_frame _ _ _) (by decide) ?_
      refine .fst (by assumption) ?_
      refine .step (steadyDecides_frame _ _) (by decide) ?_
      exact .refl _
    · refine .step (refuseReq_frame _ _) (by decide) ?_
      refine .step (closeReq_frame _ _ _) (by decide) ?_
      refine .fst (by assumption) ?_
      refine .step (steadyDecides_frame _ _) (by decide) ?_
      exact .refl _
  · refine .step (refuseReq_frame _ _) (by decide) ?_
    refine .step (closeReq_frame _ _ _) (by decide) ?_
    exact .refl _

theorem execGrantRelease_frame (kind : GKind) (source : Nat) (s : State) (s' : State) (h : execGrantRelease kind source s = .next s') :
    Frame [.objs, .dev, .ex, .sorus, .steady] s s' := by
  unfold execGrantRelease at h
  refine finish_frame h ?_
  refine .step (releaseGrant_frame _ _ _) (by decide) ?_
  exact .refl _

theorem effHeaterBudget_frame (reserve : Bool) (v : Int) (s : State) :
    Frame1 [.objs, .steady] s (effHeaterBudget reserve v s) := by
  unfold effHeaterBudget
  refine .pair ?_
  refine .set_steady (by decide) ?_
  refine .step (State.setObj_frame _ _ _ _) (by decide) ?_
  exact .refl _

theorem execHeaterBudget_frame (sess : Nat) (reserve : Bool) (v : Int) (s : State) (s' : State) (h : execHeaterBudget sess reserve v s = .next s') :
    Frame [.objs, .ex, .sorus, .steady, .lib] s s' := by
  unfold execHeaterBudget at h
  refine finish_frame h ?_
  refine hostWrite_frame (by decide) (fun _ => ?_) ?_ 
  · refine .step (effHeaterBudget_frame _ _ _) (by decide) ?_
    exact .refl _
  · exact .refl _

theorem effGrantDecide_frame (seq : Nat) (through : Bool) (grant : Bool) (s : State) :
    Frame1 [.objs, .dev, .ex, .lobes, .sorus, .drv, .steady, .mon, .cal, .lib, .com] s (effGrantDecide seq through grant s) := by
  unfold effGrantDecide
  refine .ite ?_ ?_
  · refine .pair ?_
    exact .refl _
  · split
    · refine .pair ?_
      exact .refl _
    · refine .pair ?_
      refine .step (refill_frame _) (by decide) ?_
      refine .foldl (fun _ _ => ?_) ?_
      · refine .step (decideReq_frame _ _ _ _ _) (by decide) ?_
        exact .refl _
      · exact .refl _

theorem execGrantDecideGrant_frame (sess : Nat) (seq : Nat) (through : Bool) (s : State) (s' : State) (h : execGrantDecideGrant sess seq through s = .next s') :
    Frame [.objs, .dev, .ex, .lobes, .sorus, .drv, .steady, .mon, .cal, .lib, .com] s s' := by
  unfold execGrantDecideGrant at h
  refine finish_frame h ?_
  refine hostOctets_frame (by decide) (fun _ => ?_) ?_ 
  · refine .step (effGrantDecide_frame _ _ _ _) (by decide) ?_
    exact .refl _
  · exact .refl _

theorem execGrantDecideRefuse_frame (sess : Nat) (seq : Nat) (through : Bool) (s : State) (s' : State) (h : execGrantDecideRefuse sess seq through s = .next s') :
    Frame [.objs, .dev, .ex, .lobes, .sorus, .drv, .steady, .mon, .cal, .lib, .com] s s' := by
  unfold execGrantDecideRefuse at h
  refine finish_frame h ?_
  refine hostOctets_frame (by decide) (fun _ => ?_) ?_ 
  · refine .step (effGrantDecide_frame _ _ _ _) (by decide) ?_
    exact .refl _
  · exact .refl _

theorem steadyTakes_frame (s : State) (r : GReq) :
    Frame [.objs, .dev, .ex, .lobes, .sorus, .drv, .steady, .mon, .cal, .lib, .com] s (steadyTakes s r) := by
  unfold steadyTakes
  refine .ite ?_ ?_
  · split
    refine .ite ?_ ?_
    · refine .of1 ?_
      refine .step (grantReq_frame _ _) (by decide) ?_
      refine .fst (by assumption) ?_
      refine .step (steadyDecides_frame _ _) (by decide) ?_
      exact .refl _
    · refine .step (refuseReq_frame _ _) (by decide) ?_
      refine .fst (by assumption) ?_
      refine .step (steadyDecides_frame _ _) (by decide) ?_
      exact .refl _
  · refine .of1 ?_
    refine .step (requestGrant_frame _ _) (by decide) ?_
    exact .refl _

theorem steadyTakesEntry_frame (s : State) (n : Nat) (r : GReq) :
    Frame [.objs, .dev, .ex, .lobes, .sorus, .drv, .steady, .mon, .cal, .lib, .com] s (steadyTakesEntry s n r) := by
  unfold steadyTakesEntry
  refine .ite ?_ ?_
  · refine .step (decideReq_frame _ _ _ _ _) (by decide) ?_
    exact .refl _
  · refine .of1 ?_
    refine .step (requestGrant_frame _ _) (by decide) ?_
    refine .step (passReq_frame _ _) (by decide) ?_
    exact .refl _

theorem steadyTakesAll_frame (s : State) :
    Frame [.objs, .dev, .ex, .lobes, .sorus, .drv, .steady, .mon, .cal, .lib, .com] s (steadyTakesAll s) := by
  unfold steadyTakesAll
  refine .foldl (fun _ _ => ?_) ?_
  · refine .step (steadyTakes_frame _ _) (by decide) ?_
    exact .refl _
  · refine .set_steady (by decide) ?_
    refine .foldl (fun _ _ => ?_) ?_
    · refine .step (steadyTakesEntry_frame _ _ _) (by decide) ?_
      exact .refl _
    · exact .refl _

theorem fallbackPower_frame (s : State) :
    Frame [.objs, .dev, .ex, .funcs, .lobes, .sorus, .drv, .steady, .mon, .cal, .lib, .com] s (fallbackPower s) := by
  unfold fallbackPower
  refine .ite ?_ ?_
  · refine .step (steadyTakesAll_frame _) (by decide) ?_
    refine .ite ?_ ?_
    · refine .step (fallback_frame _ _) (by decide) ?_
      exact .refl _
    · refine .step (atModeBoundary_frame _ _) (by decide) ?_
      exact .refl _
  · exact .refl _

theorem rebuildHeat_frame (s : State) : Frame [.objs, .steady] s (rebuildHeat s) := by
  unfold rebuildHeat
  refine .step (drawGrants_frame _) (by decide) ?_
  refine .set_steady (by decide) ?_
  refine .step (State.setObj_frame _ _ _ _) (by decide) ?_
  exact .refl _

theorem effSteadyReset_frame (s : State) :
    Frame1 [.objs, .dev, .ex, .lobes, .sorus, .drv, .steady, .mon, .cal] s (effSteadyReset s) := by
  unfold effSteadyReset
  refine .ite ?_ ?_
  · refine .pair ?_
    exact .refl _
  · refine .pair ?_
    refine .step (showSteady_frame _) (by decide) ?_
    refine .step (refill_frame _) (by decide) ?_
    refine .foldl (fun _ _ => ?_) ?_
    · split
      · refine .ite ?_ ?_
        · refine .step (abortCal_frame _ _) (by decide) ?_
          exact .refl _
        · exact .refl _
      · exact .refl _
    · refine .step (State.unfault_frame _ _) (by decide) ?_
      refine .step (rebuildHeat_frame _) (by decide) ?_
      refine .set_steady (by decide) ?_
      refine .foldl (fun _ _ => ?_) ?_
      · refine .step (closeReq_frame _ _ _) (by decide) ?_
        exact .refl _
      · exact .refl _

theorem execSteadyReset_frame (sess : Nat) (s : State) (s' : State) (h : execSteadyReset sess s = .next s') :
    Frame [.objs, .dev, .ex, .lobes, .sorus, .drv, .steady, .mon, .cal, .lib] s s' := by
  unfold execSteadyReset at h
  refine finish_frame h ?_
  refine hostWrite_frame (by decide) (fun _ => ?_) ?_ 
  · refine .step (effSteadyReset_frame _) (by decide) ?_
    exact .refl _
  · exact .refl _

theorem State.setSensor_frame (s : State) (n : Nat) (x : Sensor) : Frame [.therm] s (State.setSensor s n x) := by
  unfold State.setSensor
  refine .set_therm (by decide) ?_
  exact .refl _

theorem takeReading_frame (s : State) (n : Nat) (reading : Int) :
    Frame [.objs, .ex, .sorus, .therm] s (takeReading s n reading) := by
  unfold takeReading
  refine .ite ?_ ?_
  · refine .step (State.setSensor_frame _ _ _) (by decide) ?_
    exact .refl _
  · refine .ite ?_ ?_
    · refine .step (raiseS_frame _ _ _) (by decide) ?_
      refine .ite ?_ ?_
      · refine .step (State.setSensor_frame _ _ _) (by decide) ?_
        exact .refl _
      · refine .step (State.setObj_frame _ _ _ _) (by decide) ?_
        refine .step (State.setSensor_frame _ _ _) (by decide) ?_
        exact .refl _
    · refine .ite ?_ ?_
      · refine .step (State.setSensor_frame _ _ _) (by decide) ?_
        exact .refl _
      · refine .step (State.setObj_frame _ _ _ _) (by decide) ?_
        refine .step (State.setSensor_frame _ _ _) (by decide) ?_
        exact .refl _

theorem levelEvent_frame (s : State) (g : Nat) (lv : Nat) (n : Nat) (reading : Int) :
    Frame [.objs, .ex, .sorus] s (levelEvent s g lv n reading) := by
  unfold levelEvent
  refine .ite ?_ ?_
  · refine .step (raiseS_frame _ _ _) (by decide) ?_
    exact .refl _
  · refine .ite ?_ ?_
    · refine .step (raiseS_frame _ _ _) (by decide) ?_
      exact .refl _
    · refine .ite ?_ ?_
      · refine .step (raiseS_frame _ _ _) (by decide) ?_
        exact .refl _
      · refine .step (raiseS_frame _ _ _) (by decide) ?_
        exact .refl _

theorem followThermal_frame (s : State) :
    Frame [.objs, .dev, .ex, .lobes, .sorus, .drv, .steady, .therm, .mon, .cal, .lib, .com, .mat] s (followThermal s) := by
  unfold followThermal
  refine .ite ?_ ?_
  · refine .step (beginDrain_frame _) (by decide) ?_
    refine .step (State.setObjN_frame _ _ _ _) (by decide) ?_
    refine .set_therm (by decide) ?_
    exact .refl _
  · refine .step (State.setObjN_frame _ _ _ _) (by decide) ?_
    refine .set_therm (by decide) ?_
    exact .refl _

theorem judgeGroup_frame (s : State) (g : Nat) (n : Nat) (reading : Int) :
    Frame [.objs, .dev, .ex, .lobes, .sorus, .drv, .steady, .therm, .mon, .cal, .lib, .com, .mat] s (judgeGroup s g n reading) := by
  unfold judgeGroup
  refine .ite ?_ ?_
  · refine .step (followThermal_frame _) (by decide) ?_
    refine .step (levelEvent_frame _ _ _ _ _) (by decide) ?_
    refine .set_therm (by decide) ?_
    split
    · refine .step (State.setObj_frame _ _ _ _) (by decide) ?_
      exact .refl _
    · exact .refl _
  · refine .ite ?_ ?_
    · refine .step (raiseS_frame _ _ _) (by decide) ?_
      refine .step (followThermal_frame _) (by decide) ?_
      refine .set_therm (by decide) ?_
      split
      · refine .step (State.setObj_frame _ _ _ _) (by decide) ?_
        exact .refl _
      · exact .refl _
    · refine .set_therm (by decide) ?_
      split
      · refine .step (State.setObj_frame _ _ _ _) (by decide) ?_
        exact .refl _
      · exact .refl _

theorem judgeFlash_frame (s : State) : Frame [.objs, .ex, .sorus, .therm, .cal] s (judgeFlash s) := by
  unfold judgeFlash
  refine .ite ?_ ?_
  · refine .ite ?_ ?_
    · refine .step (notePostponed_frame _) (by decide) ?_
      refine .step (raiseS_frame _ _ _) (by decide) ?_
      refine .set_therm (by decide) ?_
      exact .refl _
    · exact .refl _
  · refine .ite ?_ ?_
    · conv => zeta
      split
      · exact .refl _
      · refine .set_therm (by decide) ?_
        exact .refl _
    · refine .set_therm (by decide) ?_
      exact .refl _

theorem execFlashWritePermitted_frame (s : State) (s' : State) (h : execFlashWritePermitted s = .next s') :
    Frame [.objs, .dev, .ex, .sorus, .drv, .therm, .cal] s s' := by
  unfold execFlashWritePermitted at h
  refine finish_frame h ?_
  conv => zeta
  split
  · refine .ite ?_ ?_
    · refine .step (pageByDevice_frame _) (by decide) ?_
      refine .step (pumpStores_frame _) (by decide) ?_
      refine .step (raiseS_frame _ _ _) (by decide) ?_
      refine .set_therm (by decide) ?_
      exact .refl _
    · exact .refl _
  · exact .refl _

theorem judgeCase_frame (s : State) : Frame [.objs, .ex, .sorus] s (judgeCase s) := by
  unfold judgeCase
  conv => zeta
  split
  refine .ite ?_ ?_
  · refine .ite ?_ ?_
    · refine .step (raiseS_frame _ _ _) (by decide) ?_
      refine .step (State.setObj_frame _ _ _ _) (by decide) ?_
      refine .step (State.setObj_frame _ _ _ _) (by decide) ?_
      exact .refl _
    · refine .step (State.setObj_frame _ _ _ _) (by decide) ?_
      exact .refl _
  · refine .ite ?_ ?_
    · refine .step (State.setObj_frame _ _ _ _) (by decide) ?_
      refine .step (State.setObj_frame _ _ _ _) (by decide) ?_
      exact .refl _
    · refine .step (State.setObj_frame _ _ _ _) (by decide) ?_
      exact .refl _

theorem caseRest_frame (s : State) : Frame [.objs] s (caseRest s) := by
  unfold caseRest
  refine .ite ?_ ?_
  · exact .refl _
  · refine .step (State.setObj_frame _ _ _ _) (by decide) ?_
    exact .refl _

theorem effCaseSource_frame (v : Int) (s : State) : Frame1 [.objs, .ex, .sorus] s (effCaseSource v s) := by
  unfold effCaseSource
  refine .ite ?_ ?_
  · refine .pair ?_
    exact .refl _
  · refine .pair ?_
    refine .ite ?_ ?_
    · refine .step (judgeCase_frame _) (by decide) ?_
      refine .step (State.setObj_frame _ _ _ _) (by decide) ?_
      refine .step (State.setObj_frame _ _ _ _) (by decide) ?_
      exact .refl _
    · refine .step (State.setObj_frame _ _ _ _) (by decide) ?_
      refine .step (State.setObj_frame _ _ _ _) (by decide) ?_
      exact .refl _

theorem tempConversion_frame (s : State) (n : Nat) (reading : Int) :
    Frame [.objs, .dev, .ex, .lobes, .sorus, .drv, .steady, .therm, .mon, .cal, .lib, .com, .mat] s (tempConversion s n reading) := by
  unfold tempConversion
  refine .ite ?_ ?_
  · exact .refl _
  · refine .ite ?_ ?_
    · refine .ite ?_ ?_
      · refine .step (judgeFlash_frame _) (by decide) ?_
        refine .ite ?_ ?_
        · refine .step (judgeGroup_frame _ _ _ _) (by decide) ?_
          refine .step (takeReading_frame _ _ _) (by decide) ?_
          exact .refl _
        · refine .ite ?_ ?_
          · refine .step (judgeGroup_frame _ _ _ _) (by decide) ?_
            refine .step (takeReading_frame _ _ _) (by decide) ?_
            exact .refl _
          · refine .step (takeReading_frame _ _ _) (by decide) ?_
            exact .refl _
      · refine .ite ?_ ?_
        · refine .step (judgeGroup_frame _ _ _ _) (by decide) ?_
          refine .step (takeReading_frame _ _ _) (by decide) ?_
          exact .refl _
        · refine .ite ?_ ?_
          · refine .step (judgeGroup_frame _ _ _ _) (by decide) ?_
            refine .step (takeReading_frame _ _ _) (by decide) ?_
            exact .refl _
          · refine .step (takeReading_frame _ _ _) (by decide) ?_
            exact .refl _
    · refine .ite ?_ ?_
      · refine .step (caseRest_frame _) (by decide) ?_
        refine .ite ?_ ?_
        · refine .step (judgeFlash_frame _) (by decide) ?_
          refine .ite ?_ ?_
          · refine .step (judgeGroup_frame _ _ _ _) (by decide) ?_
            refine .step (takeReading_frame _ _ _) (by decide) ?_
            exact .refl _
          · refine .ite ?_ ?_
            · refine .step (judgeGroup_frame _ _ _ _) (by decide) ?_
              refine .step (takeReading_frame _ _ _) (by decide) ?_
              exact .refl _
            · refine .step (takeReading_frame _ _ _) (by decide) ?_
              exact .refl _
        · refine .ite ?_ ?_
          · refine .step (judgeGroup_frame _ _ _ _) (by decide) ?_
            refine .step (takeReading_frame _ _ _) (by decide) ?_
            exact .refl _
          · refine .ite ?_ ?_
            · refine .step (judgeGroup_frame _ _ _ _) (by decide) ?_
              refine .step (takeReading_frame _ _ _) (by decide) ?_
              exact .refl _
            · refine .step (takeReading_frame _ _ _) (by decide) ?_
              exact .refl _
      · refine .ite ?_ ?_
        · refine .step (judgeCase_frame _) (by decide) ?_
          refine .ite ?_ ?_
          · refine .step (judgeFlash_frame _) (by decide) ?_
            refine .ite ?_ ?_
            · refine .step (judgeGroup_frame _ _ _ _) (by decide) ?_
              refine .step (takeReading_frame _ _ _) (by decide) ?_
              exact .refl _
            · refine .ite ?_ ?_
              · refine .step (judgeGroup_frame _ _ _ _) (by decide) ?_
                refine .step (takeReading_frame _ _ _) (by decide) ?_
                exact .refl _
              · refine .step (takeReading_frame _ _ _) (by decide) ?_
                exact .refl _
          · refine .ite ?_ ?_
            · refine .step (judgeGroup_frame _ _ _ _) (by decide) ?_
              refine .step (takeReading_frame _ _ _) (by decide) ?_
              exact .refl _
            · refine .ite ?_ ?_
              · refine .step (judgeGroup_frame _ _ _ _) (by decide) ?_
                refine .step (takeReading_frame _ _ _) (by decide) ?_
                exact .refl _
              · refine .step (takeReading_frame _ _ _) (by decide) ?_
                exact .refl _
        · refine .ite ?_ ?_
          · refine .step (judgeFlash_frame _) (by decide) ?_
            refine .ite ?_ ?_
            · refine .step (judgeGroup_frame _ _ _ _) (by decide) ?_
              refine .step (takeReading_frame _ _ _) (by decide) ?_
              exact .refl _
            · refine .ite ?_ ?_
              · refine .step (judgeGroup_frame _ _ _ _) (by decide) ?_
                refine .step (takeReading_frame _ _ _) (by decide) ?_
                exact .refl _
              · refine .step (takeReading_frame _ _ _) (by decide) ?_
                exact .refl _
          · refine .ite ?_ ?_
            · refine .step (judgeGroup_frame _ _ _ _) (by decide) ?_
              refine .step (takeReading_frame _ _ _) (by decide) ?_
              exact .refl _
            · refine .ite ?_ ?_
              · refine .step (judgeGroup_frame _ _ _ _) (by decide) ?_
                refine .step (takeReading_frame _ _ _) (by decide) ?_
                exact .refl _
              · refine .step (takeReading_frame _ _ _) (by decide) ?_
                exact .refl _

theorem execTempConversion_frame (n : Nat) (reading : Int) (s : State) (s' : State) (h : execTempConversion n reading s = .next s') :
    Frame [.objs, .dev, .ex, .lobes, .sorus, .drv, .steady, .therm, .mon, .cal, .lib, .com, .mat] s s' := by
  unfold execTempConversion at h
  refine finish_frame h ?_
  refine .step (tempConversion_frame _ _ _) (by decide) ?_
  exact .refl _

theorem effTdxMode_frame (x : Nat) (v : Int) (s : State) : Frame1 [.objs, .therm] s (effTdxMode x v s) := by
  unfold effTdxMode
  refine .pair ?_
  refine .step (caseRest_frame _) (by decide) ?_
  refine .step (State.setSensor_frame _ _ _) (by decide) ?_
  refine .step (State.setObj_frame _ _ _ _) (by decide) ?_
  exact .refl _

theorem execTdxMode_frame (sess : Nat) (x : Nat) (v : Int) (s : State) (s' : State) (h : execTdxMode sess x v s = .next s') :
    Frame [.objs, .ex, .sorus, .therm, .lib] s s' := by
  unfold execTdxMode at h
  refine finish_frame h ?_
  refine hostWrite_frame (by decide) (fun _ => ?_) ?_ 
  · refine .step (effTdxMode_frame _ _ _) (by decide) ?_
    exact .refl _
  · exact .refl _

theorem execStopDrainEnd_frame (s : State) (s' : State) (h : execStopDrainEnd s = .next s') :
    Frame [.objs, .dev, .ex, .lobes, .sorus, .drv, .steady, .loops, .mon, .cal, .lib, .com, .mat] s s' := by
  unfold execStopDrainEnd at h
  refine finish_frame h ?_
  split
  · refine .ite ?_ ?_
    · refine .step (settleOwed_frame _ _ _) (by decide) ?_
      refine .step (enterSafe_frame _) (by decide) ?_
      exact .refl _
    · exact .refl _
  · exact .refl _

theorem hardCut_frame (s : State) (n : Nat) (reading : Int) :
    Frame [.objs, .dev, .ex, .lobes, .sorus, .drv, .steady, .therm, .loops, .mon, .cal, .lib, .com, .mat] s (hardCut s n reading) := by
  unfold hardCut
  refine .step (enterHold_frame _ _) (by decide) ?_
  refine .step (State.setObjN_frame _ _ _ _) (by decide) ?_
  refine .set_therm (by decide) ?_
  refine .ite ?_ ?_
  · refine .step (levelEvent_frame _ _ _ _ _) (by decide) ?_
    refine .step (State.fault_frame _ _) (by decide) ?_
    refine .step (State.setObjN_frame _ _ _ _) (by decide) ?_
    refine .step (State.setObjN_frame _ _ _ _) (by decide) ?_
    refine .set_drv_therm_mat (by decide) (by decide) (by decide) ?_
    exact .refl _
  · refine .step (State.fault_frame _ _) (by decide) ?_
    refine .step (State.setObjN_frame _ _ _ _) (by decide) ?_
    refine .step (State.setObjN_frame _ _ _ _) (by decide) ?_
    refine .set_drv_therm_mat (by decide) (by decide) (by decide) ?_
    exact .refl _

theorem execTempHardCut_frame (n : Nat) (reading : Int) (s : State) (s' : State) (h : execTempHardCut n reading s = .next s') :
    Frame [.objs, .dev, .ex, .lobes, .sorus, .drv, .steady, .therm, .loops, .mon, .cal, .lib, .com, .mat] s s' := by
  unfold execTempHardCut at h
  refine finish_frame h ?_
  refine .ite ?_ ?_
  · refine .step (hardCut_frame _ _ _) (by decide) ?_
    exact .refl _
  · exact .refl _

theorem abortBurst_frame (s : State) (i : Nat) (t : Nat) (written : Nat) (abandoned : Nat) (cause : Nat) :
    Frame [.objs, .ex, .sorus] s (abortBurst s i t written abandoned cause) := by
  unfold abortBurst
  refine .step (raiseS_frame _ _ _) (by decide) ?_
  refine .step (State.incSat_frame _ _ _ _) (by decide) ?_
  exact .refl _

theorem releaseLock_frame (s : State) (i : Nat) : Frame [.mat] s (releaseLock s i) := by
  unfold releaseLock
  conv => zeta
  split
  · refine .ite ?_ ?_
    · refine .set_mat (by decide) ?_
      exact .refl _
    · exact .refl _
  · exact .refl _

theorem State.setMatPort_frame (s : State) (i : Nat) (p : MatPort) : Frame [.mat] s (State.setMatPort s i p) := by
  unfold State.setMatPort
  refine .set_mat (by decide) ?_
  exact .refl _

theorem clearPort_frame (s : State) (i : Nat) : Frame [.mat] s (clearPort s i) := by
  unfold clearPort
  refine .set_mat (by decide) ?_
  exact .refl _

theorem initEnd_frame (s : State) (i : Nat) (cause : Nat) : Frame [.objs, .ex, .sorus, .mat] s (initEnd s i cause) := by
  unfold initEnd
  refine .foldl (fun _ _ => ?_) ?_
  · refine .step (abortBurst_frame _ _ _ _ _ _) (by decide) ?_
    exact .refl _
  · refine .step (clearPort_frame _ _) (by decide) ?_
    refine .step (releaseLock_frame _ _) (by decide) ?_
    exact .refl _

theorem initReset_frame (s : State) (i : Nat) : Frame [.objs, .ex, .sorus, .mat] s (initReset s i) := by
  unfold initReset
  refine .step (initEnd_frame _ _ _) (by decide) ?_
  exact .refl _

theorem answerError_frame (s : State) (i : Nat) (r : MatReq) : Frame [.mat] s (answerError s i r) := by
  unfold answerError
  refine .set_mat (by decide) ?_
  exact .refl _

theorem rePark_frame (s : State) : Frame [.mat] s (rePark s) := by
  unfold rePark
  refine .set_mat (by decide) ?_
  exact .refl _

theorem loseRequests_frame (s : State) : Frame [.ex, .com] s (loseRequests s) := by
  unfold loseRequests
  refine .set_ex_com (by decide) (by decide) ?_
  exact .refl _

theorem judgeLobes_frame (s : State) : Frame [.dev] s (judgeLobes s) := by
  unfold judgeLobes
  refine .ite ?_ ?_
  · refine .step (State.unfault_frame _ _) (by decide) ?_
    refine .step (State.unfault_frame _ _) (by decide) ?_
    exact .refl _
  · exact .refl _

theorem setRole_frame (s : State) (l : Nat) (r : Role) : Frame [.objs, .dev, .ex, .lobes, .sorus, .com] s (setRole s l r) := by
  unfold setRole
  refine .ite ?_ ?_
  · exact .refl _
  · refine .step (judgeLobes_frame _) (by decide) ?_
    refine .step (raise_frame _ _ _ _) (by decide) ?_
    refine .ite ?_ ?_
    · refine .step (loseRequests_frame _) (by decide) ?_
      refine .ite ?_ ?_
      · refine .set_lobes (by decide) ?_
        refine .step (State.setLobe_frame _ _ _) (by decide) ?_
        exact .refl _
      · refine .step (State.setLobe_frame _ _ _) (by decide) ?_
        exact .refl _
    · refine .ite ?_ ?_
      · refine .set_lobes (by decide) ?_
        refine .step (State.setLobe_frame _ _ _) (by decide) ?_
        exact .refl _
      · refine .step (State.setLobe_frame _ _ _) (by decide) ?_
        exact .refl _

theorem quietLobe_frame (s : State) (l : Nat) : Frame [.dev, .lobes] s (quietLobe s l) := by
  unfold quietLobe
  refine .step (State.unfault_frame _ _) (by decide) ?_
  refine .step (State.unfault_frame _ _) (by decide) ?_
  refine .step (State.setLobe_frame _ _ _) (by decide) ?_
  exact .refl _

theorem judgeRecovery_frame (s : State) : Frame [.dev] s (judgeRecovery s) := by
  unfold judgeRecovery
  refine .ite ?_ ?_
  · refine .step (State.fault_frame _ _) (by decide) ?_
    exact .refl _
  · exact .refl _

theorem toOffline_frame (s : State) (l : Nat) (reason : Nat) :
    Frame [.objs, .dev, .ex, .lobes, .sorus, .com] s (toOffline s l reason) := by
  unfold toOffline
  refine .ite ?_ ?_
  · refine .ite ?_ ?_
    · exact .refl _
    · refine .step (quietLobe_frame _ _) (by decide) ?_
      exact .refl _
  · refine .step (raise_frame _ _ _ _) (by decide) ?_
    refine .step (State.setLobe_frame _ _ _) (by decide) ?_
    refine .step (setRole_frame _ _ _) (by decide) ?_
    refine .ite ?_ ?_
    · exact .refl _
    · refine .step (quietLobe_frame _ _) (by decide) ?_
      exact .refl _

theorem takeRole_frame (s : State) (l : Nat) (r : Role) : Frame [.objs, .dev, .ex, .lobes, .sorus, .com] s (takeRole s l r) := by
  unfold takeRole
  refine .ite ?_ ?_
  · refine .step (setRole_frame _ _ _) (by decide) ?_
    exact .refl _
  · refine .step (toOffline_frame _ _ _) (by decide) ?_
    exact .refl _

theorem resetLobe_frame (s : State) (l : Nat) (trial : Bool) :
    Frame [.objs, .dev, .ex, .lobes, .time, .sorus, .com, .mat] s (resetLobe s l trial) := by
  unfold resetLobe
  refine .step (State.setLobe_frame _ _ _) (by decide) ?_
  refine .set_dev_time (by decide) (by decide) ?_
  refine .step (takeRole_frame _ _ _) (by decide) ?_
  refine .foldl (fun _ _ => ?_) ?_
  · refine .step (initReset_frame _ _) (by decide) ?_
    exact .refl _
  · exact .refl _

theorem rollBack_frame (s : State) (cause : Nat) : Frame [.objs, .dev, .ex, .sorus, .cal] s (rollBack s cause) := by
  unfold rollBack
  refine .ite ?_ ?_
  · exact .refl _
  · refine .step (autoStore_frame _ _) (by decide) ?_
    refine .set_dev (by decide) ?_
    exact .refl _

theorem toDiagnosing_frame (s : State) (l : Nat) : Frame [.objs, .dev, .ex, .lobes, .sorus, .com] s (toDiagnosing s l) := by
  unfold toDiagnosing
  refine .step (State.setLobe_frame _ _ _) (by decide) ?_
  refine .step (takeRole_frame _ _ _) (by decide) ?_
  exact .refl _

theorem yieldLobe_frame (s : State) (l : Nat) (cause : Nat) :
    Frame [.objs, .dev, .ex, .lobes, .sorus, .cal, .com] s (yieldLobe s l cause) := by
  unfold yieldLobe
  refine .ite ?_ ?_
  · exact .refl _
  · refine .ite ?_ ?_
    · refine .step (rollBack_frame _ _) (by decide) ?_
      refine .step (raise_frame _ _ _ _) (by decide) ?_
      refine .ite ?_ ?_
      · refine .set_lobes (by decide) ?_
        refine .ite ?_ ?_
        · refine .step (State.fault_frame _ _) (by decide) ?_
          refine .step (toDiagnosing_frame _ _) (by decide) ?_
          refine .step (State.setLobe_frame _ _ _) (by decide) ?_
          exact .refl _
        · refine .step (toDiagnosing_frame _ _) (by decide) ?_
          refine .step (State.setLobe_frame _ _ _) (by decide) ?_
          exact .refl _
      · refine .ite ?_ ?_
        · refine .step (State.fault_frame _ _) (by decide) ?_
          refine .step (toDiagnosing_frame _ _) (by decide) ?_
          refine .step (State.setLobe_frame _ _ _) (by decide) ?_
          exact .refl _
        · refine .step (toDiagnosing_frame _ _) (by decide) ?_
          refine .step (State.setLobe_frame _ _ _) (by decide) ?_
          exact .refl _
    · refine .step (raise_frame _ _ _ _) (by decide) ?_
      refine .ite ?_ ?_
      · refine .set_lobes (by decide) ?_
        refine .ite ?_ ?_
        · refine .step (State.fault_frame _ _) (by decide) ?_
          refine .step (toDiagnosing_frame _ _) (by decide) ?_
          refine .step (State.setLobe_frame _ _ _) (by decide) ?_
          exact .refl _
        · refine .step (toDiagnosing_frame _ _) (by decide) ?_
          refine .step (State.setLobe_frame _ _ _) (by decide) ?_
          exact .refl _
      · refine .ite ?_ ?_
        · refine .step (State.fault_frame _ _) (by decide) ?_
          refine .step (toDiagnosing_frame _ _) (by decide) ?_
          refine .step (State.setLobe_frame _ _ _) (by decide) ?_
          exact .refl _
        · refine .step (toDiagnosing_frame _ _) (by decide) ?_
          refine .step (State.setLobe_frame _ _ _) (by decide) ?_
          exact .refl _

theorem restoreFuncs_frame (s : State) (x : Snapshot) : Frame [.funcs] s (restoreFuncs s x) := by
  unfold restoreFuncs
  refine .foldl (fun _ _ => ?_) ?_
  · refine .step (State.setFunc_frame _ _ _) (by decide) ?_
    exact .refl _
  · exact .refl _

theorem restoreSessions_frame (s : State) (x : Snapshot) : Frame [.ex] s (restoreSessions s x) := by
  unfold restoreSessions
  refine .set_ex (by decide) ?_
  exact .refl _

theorem fullSnapshot_frame (s : State) : Frame [.lobes] s (fullSnapshot s) := by
  unfold fullSnapshot
  refine .set_lobes (by decide) ?_
  exact .refl _

theorem loadCounter_frame (s : State) (l : Nat) : Frame1 [.objs, .ex, .time, .sorus] s (loadCounter s l) := by
  unfold loadCounter
  conv => zeta
  split
  · refine .pair ?_
    exact .refl _
  · refine .ite ?_ ?_
    · refine .pair ?_
      exact .refl _
    · refine .pair ?_
      refine .step (raise_frame _ _ _ _) (by decide) ?_
      refine .set_time (by decide) ?_
      exact .refl _

theorem toSyncing_frame (s : State) (l : Nat) : Frame [.objs, .dev, .ex, .lobes, .time, .sorus, .com] s (toSyncing s l) := by
  unfold toSyncing
  refine .set_time (by decide) ?_
  refine .of1 ?_
  refine .step (loadCounter_frame _ _) (by decide) ?_
  refine .step (State.setLobe_frame _ _ _) (by decide) ?_
  refine .step (setRole_frame _ _ _) (by decide) ?_
  exact .refl _

theorem syncLobe_frame (s : State) (l : Nat) : Frame [.lobes] s (syncLobe s l) := by
  unfold syncLobe
  refine .ite ?_ ?_
  · exact .refl _
  · refine .ite ?_ ?_
    · refine .step (State.setLobe_frame _ _ _) (by decide) ?_
      exact .refl _
    · refine .step (State.setLobe_frame _ _ _) (by decide) ?_
      refine .step (fullSnapshot_frame _) (by decide) ?_
      exact .refl _

theorem syncScan_frame (s : State) : Frame [.lobes] s (syncScan s) := by
  unfold syncScan
  refine .step (syncLobe_frame _ _) (by decide) ?_
  refine .step (syncLobe_frame _ _) (by decide) ?_
  exact .refl _

theorem readSummary_frame (s : State) (l : Nat) : Frame [.objs, .lobes] s (readSummary s l) := by
  unfold readSummary
  refine .step (State.setLobe_frame _ _ _) (by decide) ?_
  refine .step (State.setObjN_frame _ _ _ _) (by decide) ?_
  refine .step (State.setObjN_frame _ _ _ _) (by decide) ?_
  exact .refl _

theorem takeClaim_frame (s : State) (l : Nat) (cause : Nat) : Frame [.lobes] s (takeClaim s l cause) := by
  unfold takeClaim
  refine .step (State.setLobe_frame _ _ _) (by decide) ?_
  exact .refl _

theorem linkLost_frame (s : State) (l : Nat) : Frame [.objs, .dev, .ex, .lobes, .sorus] s (linkLost s l) := by
  unfold linkLost
  refine .ite ?_ ?_
  · exact .refl _
  · refine .step (raise_frame _ _ _ _) (by decide) ?_
    refine .step (State.fault_frame _ _) (by decide) ?_
    refine .step (State.setLobe_frame _ _ _) (by decide) ?_
    exact .refl _

theorem loseClaim_frame (s : State) (l : Nat) : Frame [.objs, .dev, .ex, .lobes, .time, .sorus, .com] s (loseClaim s l) := by
  unfold loseClaim
  refine .ite ?_ ?_
  · refine .ite ?_ ?_
    · refine .step (linkLost_frame _ _) (by decide) ?_
      refine .step (raise_frame _ _ _ _) (by decide) ?_
      refine .ite ?_ ?_
      · refine .step (loseRequests_frame _) (by decide) ?_
        refine .step (takeRole_frame _ _ _) (by decide) ?_
        refine .step (State.setLobe_frame _ _ _) (by decide) ?_
        exact .refl _
      · refine .ite ?_ ?_
        · refine .step (toSyncing_frame _ _) (by decide) ?_
          refine .step (State.setLobe_frame _ _ _) (by decide) ?_
          exact .refl _
        · refine .step (State.setLobe_frame _ _ _) (by decide) ?_
          exact .refl _
    · refine .step (raise_frame _ _ _ _) (by decide) ?_
      refine .ite ?_ ?_
      · refine .step (loseRequests_frame _) (by decide) ?_
        refine .step (takeRole_frame _ _ _) (by decide) ?_
        refine .step (State.setLobe_frame _ _ _) (by decide) ?_
        exact .refl _
      · refine .ite ?_ ?_
        · refine .step (toSyncing_frame _ _) (by decide) ?_
          refine .step (State.setLobe_frame _ _ _) (by decide) ?_
          exact .refl _
        · refine .step (State.setLobe_frame _ _ _) (by decide) ?_
          exact .refl _
  · refine .ite ?_ ?_
    · refine .step (loseRequests_frame _) (by decide) ?_
      refine .step (takeRole_frame _ _ _) (by decide) ?_
      refine .step (State.setLobe_frame _ _ _) (by decide) ?_
      exact .refl _
    · refine .ite ?_ ?_
      · refine .step (toSyncing_frame _ _) (by decide) ?_
        refine .step (State.setLobe_frame _ _ _) (by decide) ?_
        exact .refl _
      · refine .step (State.setLobe_frame _ _ _) (by decide) ?_
        exact .refl _

theorem broadcast_frame (s : State) (l : Nat) : Frame [.objs, .lobes] s (broadcast s l) := by
  unfold broadcast
  refine .step (readSummary_frame _ _) (by decide) ?_
  refine .ite ?_ ?_
  · refine .set_lobes (by decide) ?_
    exact .refl _
  · exact .refl _

theorem declareLost_frame (s : State) (l : Nat) (cause : Nat) :
    Frame [.objs, .dev, .ex, .lobes, .sorus] s (declareLost s l cause) := by
  unfold declareLost
  refine .ite ?_ ?_
  · refine .ite ?_ ?_
    · refine .step (linkLost_frame _ _) (by decide) ?_
      refine .step (State.setLobe_frame _ _ _) (by decide) ?_
      exact .refl _
    · refine .step (takeClaim_frame _ _ _) (by decide) ?_
      refine .step (State.setLobe_frame _ _ _) (by decide) ?_
      exact .refl _
  · exact .refl _

theorem dropIdleWraps_frame (s : State) : Frame [.objs, .dev, .ex, .sorus, .steady] s (dropIdleWraps s) := by
  unfold dropIdleWraps
  refine .foldl (fun _ _ => ?_) ?_
  · refine .step (releaseGrant_frame _ _ _) (by decide) ?_
    exact .refl _
  · refine .foldl (fun _ _ => ?_) ?_
    · refine .step (withdraw_frame _ _ _) (by decide) ?_
      exact .refl _
    · exact .refl _

theorem adoptWraps_frame (s : State) : Frame [.sorus, .loops] s (adoptWraps s) := by
  unfold adoptWraps
  refine .foldl (fun _ _ => ?_) ?_
  · refine .ite ?_ ?_
    · refine .step (State.setElem_frame _ _ _) (by decide) ?_
      exact .refl _
    · exact .refl _
  · exact .refl _

theorem reconcileAll_frame (s : State) (snap : Snapshot) :
    Frame [.objs, .dev, .ex, .sorus, .steady, .loops] s (reconcileAll s snap) := by
  unfold reconcileAll
  refine .step (dropIdleWraps_frame _) (by decide) ?_
  refine .step (adoptWraps_frame _) (by decide) ?_
  refine .step (State.setObjN_frame _ _ _ _) (by decide) ?_
  refine .foldl (fun _ _ => ?_) ?_
  · refine .step (State.setVoa_frame _ _ _) (by decide) ?_
    exact .refl _
  · refine .foldl (fun _ _ => ?_) ?_
    · refine .step (State.setElem_frame _ _ _) (by decide) ?_
      exact .refl _
    · exact .refl _

theorem restartLoops_frame (s : State) : Frame [.objs, .dev, .ex, .sorus, .steady, .loops] s (restartLoops s) := by
  unfold restartLoops
  refine .step (dropIdleWraps_frame _) (by decide) ?_
  refine .step (adoptWraps_frame _) (by decide) ?_
  refine .step (State.setObjN_frame _ _ _ _) (by decide) ?_
  refine .foldl (fun _ _ => ?_) ?_
  · refine .step (State.setVoa_frame _ _ _) (by decide) ?_
    exact .refl _
  · refine .foldl (fun _ _ => ?_) ?_
    · refine .ite ?_ ?_
      · refine .step (reacquire_frame _ _) (by decide) ?_
        refine .step (State.setElem_frame _ _ _) (by decide) ?_
        refine .ite ?_ ?_
        · refine .step (releaseGrant_frame _ _ _) (by decide) ?_
          exact .refl _
        · exact .refl _
      · exact .refl _
    · exact .refl _

theorem cutWriteBack_frame (s : State) (beats : Option Nat) :
    Frame [.objs, .hbm, .ex, .sorus, .lib, .mat] s (cutWriteBack s beats) := by
  unfold cutWriteBack
  conv => zeta
  split
  · exact .refl _
  · split
    refine .ite ?_ ?_
    · refine .step (State.setSlot_frame _ _ _) (by decide) ?_
      refine .step (State.slotWrite_frame _ _ _ _) (by decide) ?_
      refine .set_lib (by decide) ?_
      refine .snd (by assumption) ?_
      refine .step (State.fresh_frame _) (by decide) ?_
      exact .refl _
    · refine .step (invalidate_frame _ _ _) (by decide) ?_
      refine .step (State.slotWrite_frame _ _ _ _) (by decide) ?_
      refine .set_lib (by decide) ?_
      refine .snd (by assumption) ?_
      refine .step (State.fresh_frame _) (by decide) ?_
      exact .refl _

theorem loseLocal_frame (s : State) :
    Frame [.objs, .hbm, .dev, .ex, .lobes, .sorus, .drv, .steady, .mon, .cal, .lib, .mat] s (loseLocal s) := by
  unfold loseLocal
  conv => zeta
  split
  · refine .step (endRoute_frame _ _ _ _) (by decide) ?_
    refine .step (State.setSlot_frame _ _ _) (by decide) ?_
    refine .step (State.dropLoads_frame _ _) (by decide) ?_
    refine .step (cutWriteBack_frame _ _) (by decide) ?_
    refine .set_lib (by decide) ?_
    refine .set_cal (by decide) ?_
    refine .step (returnBack_frame _ _) (by decide) ?_
    refine .step (abortCal_frame _ _) (by decide) ?_
    exact .refl _
  · refine .step (cutWriteBack_frame _ _) (by decide) ?_
    refine .set_lib (by decide) ?_
    refine .set_cal (by decide) ?_
    refine .step (returnBack_frame _ _) (by decide) ?_
    refine .step (abortCal_frame _ _) (by decide) ?_
    exact .refl _

theorem advanceSeqs_frame (s : State) : Frame [.objs, .ex, .sorus, .lib] s (advanceSeqs s) := by
  unfold advanceSeqs
  refine .step (closeSpent_frame _) (by decide) ?_
  refine .step (noteGroupSeq_frame _) (by decide) ?_
  refine .set_ex (by decide) ?_
  exact .refl _

theorem freshDeadlines_frame (s : State) : Frame [.time, .sorus, .steady, .loops, .cal, .net] s (freshDeadlines s) := by
  unfold freshDeadlines
  refine .set_time_sorus_steady_loops_cal_net (by decide) (by decide) (by decide) (by decide) (by decide) (by decide) ?_
  exact .refl _

theorem resumeCommit_frame (s : State) (c : Commit) :
    Frame [.objs, .ex, .lobes, .sorus, .drv, .loops, .com] s (resumeCommit s c) := by
  unfold resumeCommit
  refine .step (raiseA_frame _ _ _) (by decide) ?_
  refine .step (State.stepCommit_frame _ _) (by decide) ?_
  refine .fold1 (fun _ _ => ?_) ?_
  · refine .ite ?_ ?_
    · refine .pair ?_
      refine .step (writePhase_frame _ _ _ _) (by decide) ?_
      exact .refl _
    · refine .pair ?_
      exact .refl _
  · refine .pair ?_
    refine .foldl (fun _ _ => ?_) ?_
    · refine .step (State.setElem_frame _ _ _) (by decide) ?_
      exact .refl _
    · exact .refl _

theorem settleArmed_frame (s : State) (c : Commit) :
    Frame [.objs, .dev, .ex, .funcs, .lobes, .sorus, .drv, .steady, .loops, .mon, .cal, .fab, .lib, .com, .mat] s (settleArmed s c) := by
  unfold settleArmed
  refine .ite ?_ ?_
  · exact .refl _
  · refine .ite ?_ ?_
    · refine .step (raiseA_frame _ _ _) (by decide) ?_
      refine .step (applyCommit_frame _ _) (by decide) ?_
      exact .refl _
    · refine .step (abandon_frame _ _ _) (by decide) ?_
      exact .refl _

theorem settleCommits_frame (s : State) :
    Frame [.objs, .dev, .ex, .funcs, .lobes, .sorus, .drv, .steady, .loops, .mon, .cal, .fab, .lib, .com, .mat] s (settleCommits s) := by
  unfold settleCommits
  refine .foldl (fun _ _ => ?_) ?_
  · refine .step (settleArmed_frame _ _) (by decide) ?_
    exact .refl _
  · refine .foldl (fun _ _ => ?_) ?_
    · split
      · refine .step (abandon_frame _ _ _) (by decide) ?_
        exact .refl _
      · refine .step (resumeCommit_frame _ _) (by decide) ?_
        exact .refl _
      · exact .refl _
    · exact .refl _

theorem becomeActive_frame (s : State) (l : Nat) : Frame [.objs, .dev, .ex, .lobes, .sorus, .com, .mat] s (becomeActive s l) := by
  unfold becomeActive
  refine .step (rePark_frame _) (by decide) ?_
  refine .step (flushDeferred_frame _) (by decide) ?_
  refine .step (State.unfault_frame _ _) (by decide) ?_
  refine .set_lobes (by decide) ?_
  refine .step (State.setLobe_frame _ _ _) (by decide) ?_
  refine .step (setRole_frame _ _ _) (by decide) ?_
  exact .refl _

theorem noteTakeover_frame (s : State) (cause : Nat) (hold : Nat) : Frame [.objs] s (noteTakeover s cause hold) := by
  unfold noteTakeover
  refine .step (State.setObj_frame _ _ _ _) (by decide) ?_
  refine .step (State.setObjN_frame _ _ _ _) (by decide) ?_
  refine .step (State.setObjN_frame _ _ _ _) (by decide) ?_
  refine .step (State.setObj_frame _ _ _ _) (by decide) ?_
  exact .refl _

theorem endRollBack_frame (s : State) : Frame [.objs, .dev, .ex, .sorus] s (endRollBack s) := by
  unfold endRollBack
  conv => zeta
  split
  · refine .ite ?_ ?_
    · refine .step (raiseA_frame _ _ _) (by decide) ?_
      refine .set_dev (by decide) ?_
      exact .refl _
    · exact .refl _
  · exact .refl _

theorem dealWithOther_frame (s : State) (o : Nat) :
    Frame [.objs, .dev, .ex, .lobes, .time, .sorus, .com, .mat] s (dealWithOther s o) := by
  unfold dealWithOther
  refine .ite ?_ ?_
  · refine .step (loseClaim_frame _ _) (by decide) ?_
    exact .refl _
  · refine .ite ?_ ?_
    · exact .refl _
    · refine .ite ?_ ?_
      · refine .step (State.fault_frame _ _) (by decide) ?_
        refine .step (resetLobe_frame _ _ _) (by decide) ?_
        exact .refl _
      · refine .step (resetLobe_frame _ _ _) (by decide) ?_
        exact .refl _

theorem takeOver_frame (s : State) (l : Nat) (cause : Nat) :
    Frame [.objs, .hbm, .dev, .ex, .funcs, .lobes, .time, .sorus, .drv, .steady, .loops, .mon, .cal, .fab, .lib, .com, .net, .mat] s (takeOver s l cause) := by
  unfold takeOver
  refine .step (endRollBack_frame _) (by decide) ?_
  refine .step (raiseA_frame _ _ _) (by decide) ?_
  refine .step (noteTakeover_frame _ _ _) (by decide) ?_
  refine .step (State.incSat_frame _ _ _ _) (by decide) ?_
  refine .step (settleCommits_frame _) (by decide) ?_
  refine .step (advanceSeqs_frame _) (by decide) ?_
  refine .step (freshDeadlines_frame _) (by decide) ?_
  refine .step (loseLocal_frame _) (by decide) ?_
  split
  · refine .step (restoreSessions_frame _ _) (by decide) ?_
    refine .step (restoreFuncs_frame _ _) (by decide) ?_
    refine .ite ?_ ?_
    · refine .step (restartLoops_frame _) (by decide) ?_
      refine .step (becomeActive_frame _ _) (by decide) ?_
      refine .step (dealWithOther_frame _ _) (by decide) ?_
      exact .refl _
    · refine .step (reconcileAll_frame _ _) (by decide) ?_
      refine .step (becomeActive_frame _ _) (by decide) ?_
      refine .step (dealWithOther_frame _ _) (by decide) ?_
      exact .refl _
  · refine .step (restartLoops_frame _) (by decide) ?_
    refine .step (becomeActive_frame _ _) (by decide) ?_
    refine .step (dealWithOther_frame _ _) (by decide) ?_
    exact .refl _

theorem copyToSyncing_frame (s : State) (o : Nat) :
    Frame [.objs, .dev, .ex, .lobes, .time, .sorus, .com] s (copyToSyncing s o) := by
  unfold copyToSyncing
  refine .ite ?_ ?_
  · refine .step (toSyncing_frame _ _) (by decide) ?_
    exact .refl _
  · exact .refl _

theorem peerGone_frame (s : State) (l : Nat) : Frame [.objs, .dev, .ex, .lobes, .time, .sorus, .com, .mat] s (peerGone s l) := by
  unfold peerGone
  refine .ite ?_ ?_
  · refine .step (State.setLobe_frame _ _ _) (by decide) ?_
    exact .refl _
  · refine .step (dealWithOther_frame _ _) (by decide) ?_
    refine .step (State.setLobe_frame _ _ _) (by decide) ?_
    exact .refl _

theorem loseBoth_frame (s : State) :
    Frame [.objs, .hbm, .dev, .ex, .lobes, .sorus, .drv, .steady, .loops, .mon, .cal, .lib, .com, .mat] s (loseBoth s) := by
  unfold loseBoth
  refine .set_ex_loops_cal_com (by decide) (by decide) (by decide) (by decide) ?_
  refine .step (loseLocal_frame _) (by decide) ?_
  refine .step (loseRequests_frame _) (by decide) ?_
  exact .refl _

theorem startFirst_frame (s : State) (l : Nat) :
    Frame [.objs, .hbm, .dev, .ex, .lobes, .time, .sorus, .drv, .steady, .loops, .mon, .cal, .lib, .com, .mat] s (startFirst s l) := by
  unfold startFirst
  conv => zeta
  split
  · refine .step (State.enter_frame _ _) (by decide) ?_
    refine .step (becomeActive_frame _ _) (by decide) ?_
    refine .ite ?_ ?_
    · refine .step (dealWithOther_frame _ _) (by decide) ?_
      exact .refl _
    · exact .refl _
  · refine .step (enterSafe_frame _) (by decide) ?_
    refine .step (State.fault_frame _ _) (by decide) ?_
    refine .step (advanceSeqs_frame _) (by decide) ?_
    refine .step (loseBoth_frame _) (by decide) ?_
    refine .step (becomeActive_frame _ _) (by decide) ?_
    refine .ite ?_ ?_
    · refine .step (dealWithOther_frame _ _) (by decide) ?_
      exact .refl _
    · exact .refl _
  · refine .step (enterSafe_frame _) (by decide) ?_
    refine .step (State.fault_frame _ _) (by decide) ?_
    refine .step (advanceSeqs_frame _) (by decide) ?_
    refine .step (loseBoth_frame _) (by decide) ?_
    refine .step (becomeActive_frame _ _) (by decide) ?_
    refine .ite ?_ ?_
    · refine .step (dealWithOther_frame _ _) (by decide) ?_
      exact .refl _
    · exact .refl _
  · refine .step (enterSafe_frame _) (by decide) ?_
    refine .step (State.fault_frame _ _) (by decide) ?_
    refine .step (advanceSeqs_frame _) (by decide) ?_
    refine .step (loseBoth_frame _) (by decide) ?_
    refine .step (becomeActive_frame _ _) (by decide) ?_
    refine .ite ?_ ?_
    · refine .step (dealWithOther_frame _ _) (by decide) ?_
      exact .refl _
    · exact .refl _
  · refine .step (safeAll_frame _) (by decide) ?_
    refine .step (State.fault_frame _ _) (by decide) ?_
    refine .step (advanceSeqs_frame _) (by decide) ?_
    refine .step (loseBoth_frame _) (by decide) ?_
    refine .step (becomeActive_frame _ _) (by decide) ?_
    refine .ite ?_ ?_
    · refine .step (dealWithOther_frame _ _) (by decide) ?_
      exact .refl _
    · exact .refl _
  · refine .step (advanceSeqs_frame _) (by decide) ?_
    refine .step (loseBoth_frame _) (by decide) ?_
    refine .step (becomeActive_frame _ _) (by decide) ?_
    refine .ite ?_ ?_
    · refine .step (dealWithOther_frame _ _) (by decide) ?_
      exact .refl _
    · exact .refl _

theorem swapRoles_frame (s : State) (forced : Bool) :
    Frame [.objs, .hbm, .dev, .ex, .lobes, .sorus, .drv, .steady, .loops, .mon, .cal, .lib, .com, .mat] s (swapRoles s forced) := by
  unfold swapRoles
  conv => zeta
  split
  · refine .set_lobes (by decide) ?_
    refine .step (noteTakeover_frame _ _ _) (by decide) ?_
    refine .step (advanceSeqs_frame _) (by decide) ?_
    refine .ite ?_ ?_
    · refine .step (loseLocal_frame _) (by decide) ?_
      split
      · refine .step (restoreSessions_frame _ _) (by decide) ?_
        refine .step (reconcileAll_frame _ _) (by decide) ?_
        refine .step (becomeActive_frame _ _) (by decide) ?_
        refine .step (State.setLobe_frame _ _ _) (by decide) ?_
        refine .step (setRole_frame _ _ _) (by decide) ?_
        refine .step (broadcast_frame _ _) (by decide) ?_
        refine .step (takeClaim_frame _ _ _) (by decide) ?_
        exact .refl _
      · refine .step (becomeActive_frame _ _) (by decide) ?_
        refine .step (State.setLobe_frame _ _ _) (by decide) ?_
        refine .step (setRole_frame _ _ _) (by decide) ?_
        refine .step (broadcast_frame _ _) (by decide) ?_
        refine .step (takeClaim_frame _ _ _) (by decide) ?_
        exact .refl _
    · split
      · refine .step (restoreSessions_frame _ _) (by decide) ?_
        refine .step (reconcileAll_frame _ _) (by decide) ?_
        refine .step (becomeActive_frame _ _) (by decide) ?_
        refine .step (State.setLobe_frame _ _ _) (by decide) ?_
        refine .step (setRole_frame _ _ _) (by decide) ?_
        refine .step (broadcast_frame _ _) (by decide) ?_
        refine .step (takeClaim_frame _ _ _) (by decide) ?_
        exact .refl _
      · refine .step (becomeActive_frame _ _) (by decide) ?_
        refine .step (State.setLobe_frame _ _ _) (by decide) ?_
        refine .step (setRole_frame _ _ _) (by decide) ?_
        refine .step (broadcast_frame _ _) (by decide) ?_
        refine .step (takeClaim_frame _ _ _) (by decide) ?_
        exact .refl _
  · exact .refl _

theorem execHeartbeatSend_frame (l : Nat) (s : State) (s' : State) (h : execHeartbeatSend l s = .next s') :
    Frame [.ex, .lobes] s s' := by
  unfold execHeartbeatSend at h
  refine finish_frame h ?_
  refine .ite ?_ ?_
  · refine .set_lobes (by decide) ?_
    refine .step (State.setLobe_frame _ _ _) (by decide) ?_
    exact .refl _
  · exact .refl _

theorem State.setHbPath_frame (s : State) (q : Nat) (p : HbPath) : Frame [.lobes] s (State.setHbPath s q p) := by
  unfold State.setHbPath
  refine .set_lobes (by decide) ?_
  exact .refl _

theorem hbOnPath_frame (s : State) (l : Nat) (q : Nat) : Frame [.objs, .ex, .lobes, .sorus] s (hbOnPath s l q) := by
  unfold hbOnPath
  refine .ite ?_ ?_
  · refine .step (raise_frame _ _ _ _) (by decide) ?_
    refine .step (State.setHbPath_frame _ _ _) (by decide) ?_
    refine .step (State.incSat_frame _ _ _ _) (by decide) ?_
    refine .step (State.setHbPath_frame _ _ _) (by decide) ?_
    exact .refl _
  · refine .step (State.incSat_frame _ _ _ _) (by decide) ?_
    refine .step (State.setHbPath_frame _ _ _) (by decide) ?_
    exact .refl _

theorem counterFault_frame (s : State) (l : Nat) :
    Frame [.objs, .dev, .ex, .lobes, .time, .sorus, .cal, .com] s (counterFault s l) := by
  unfold counterFault
  refine .step (yieldLobe_frame _ _ _) (by decide) ?_
  refine .set_time (by decide) ?_
  exact .refl _

theorem compareCounters_frame (s : State) :
    Frame [.objs, .dev, .ex, .lobes, .time, .sorus, .cal, .com] s (compareCounters s) := by
  unfold compareCounters
  conv => zeta
  split
  · refine .ite ?_ ?_
    · refine .ite ?_ ?_
      · refine .step (counterFault_frame _ _) (by decide) ?_
        refine .set_time (by decide) ?_
        exact .refl _
      · refine .set_time (by decide) ?_
        exact .refl _
    · exact .refl _
  · exact .refl _

theorem hbReceive_frame (s : State) (l : Nat) (q : Nat) (hb : Heartbeat) :
    Frame [.objs, .dev, .ex, .lobes, .time, .sorus, .cal, .com] s (hbReceive s l q hb) := by
  unfold hbReceive
  conv => zeta
  split
  · refine .ite ?_ ?_
    · refine .set_lobes (by decide) ?_
      refine .ite ?_ ?_
      · refine .step (toSyncing_frame _ _) (by decide) ?_
        split
        · refine .ite ?_ ?_
          · refine .ite ?_ ?_
            · refine .step (compareCounters_frame _) (by decide) ?_
              refine .ite ?_ ?_
              · refine .step (State.setLobe_frame _ _ _) (by decide) ?_
                refine .step (State.unfault_frame _ _) (by decide) ?_
                refine .step (State.setLobe_frame _ _ _) (by decide) ?_
                refine .step (State.setLobe_frame _ _ _) (by decide) ?_
                refine .step (hbOnPath_frame _ _ _) (by decide) ?_
                exact .refl _
              · refine .step (State.unfault_frame _ _) (by decide) ?_
                refine .step (State.setLobe_frame _ _ _) (by decide) ?_
                refine .step (State.setLobe_frame _ _ _) (by decide) ?_
                refine .step (hbOnPath_frame _ _ _) (by decide) ?_
                exact .refl _
            · refine .ite ?_ ?_
              · refine .step (State.setLobe_frame _ _ _) (by decide) ?_
                refine .step (State.unfault_frame _ _) (by decide) ?_
                refine .step (State.setLobe_frame _ _ _) (by decide) ?_
                refine .step (State.setLobe_frame _ _ _) (by decide) ?_
                refine .step (hbOnPath_frame _ _ _) (by decide) ?_
                exact .refl _
              · refine .step (State.unfault_frame _ _) (by decide) ?_
                refine .step (State.setLobe_frame _ _ _) (by decide) ?_
                refine .step (State.setLobe_frame _ _ _) (by decide) ?_
                refine .step (hbOnPath_frame _ _ _) (by decide) ?_
                exact .refl _
          · refine .step (declareLost_frame _ _ _) (by decide) ?_
            refine .ite ?_ ?_
            · refine .step (compareCounters_frame _) (by decide) ?_
              refine .ite ?_ ?_
              · refine .step (State.setLobe_frame _ _ _) (by decide) ?_
                refine .step (State.unfault_frame _ _) (by decide) ?_
                refine .step (State.setLobe_frame _ _ _) (by decide) ?_
                refine .step (State.setLobe_frame _ _ _) (by decide) ?_
                refine .step (hbOnPath_frame _ _ _) (by decide) ?_
                exact .refl _
              · refine .step (State.unfault_frame _ _) (by decide) ?_
                refine .step (State.setLobe_frame _ _ _) (by decide) ?_
                refine .step (State.setLobe_frame _ _ _) (by decide) ?_
                refine .step (hbOnPath_frame _ _ _) (by decide) ?_
                exact .refl _
            · refine .ite ?_ ?_
              · refine .step (State.setLobe_frame _ _ _) (by decide) ?_
                refine .step (State.unfault_frame _ _) (by decide) ?_
                refine .step (State.setLobe_frame _ _ _) (by decide) ?_
                refine .step (State.setLobe_frame _ _ _) (by decide) ?_
                refine .step (hbOnPath_frame _ _ _) (by decide) ?_
                exact .refl _
              · refine .step (State.unfault_frame _ _) (by decide) ?_
                refine .step (State.setLobe_frame _ _ _) (by decide) ?_
                refine .step (State.setLobe_frame _ _ _) (by decide) ?_
                refine .step (hbOnPath_frame _ _ _) (by decide) ?_
                exact .refl _
        · refine .ite ?_ ?_
          · refine .step (compareCounters_frame _) (by decide) ?_
            refine .ite ?_ ?_
            · refine .step (State.setLobe_frame _ _ _) (by decide) ?_
              refine .step (State.unfault_frame _ _) (by decide) ?_
              refine .step (State.setLobe_frame _ _ _) (by decide) ?_
              refine .step (State.setLobe_frame _ _ _) (by decide) ?_
              refine .step (hbOnPath_frame _ _ _) (by decide) ?_
              exact .refl _
            · refine .step (State.unfault_frame _ _) (by decide) ?_
              refine .step (State.setLobe_frame _ _ _) (by decide) ?_
              refine .step (State.setLobe_frame _ _ _) (by decide) ?_
              refine .step (hbOnPath_frame _ _ _) (by decide) ?_
              exact .refl _
          · refine .ite ?_ ?_
            · refine .step (State.setLobe_frame _ _ _) (by decide) ?_
              refine .step (State.unfault_frame _ _) (by decide) ?_
              refine .step (State.setLobe_frame _ _ _) (by decide) ?_
              refine .step (State.setLobe_frame _ _ _) (by decide) ?_
              refine .step (hbOnPath_frame _ _ _) (by decide) ?_
              exact .refl _
            · refine .step (State.unfault_frame _ _) (by decide) ?_
              refine .step (State.setLobe_frame _ _ _) (by decide) ?_
              refine .step (State.setLobe_frame _ _ _) (by decide) ?_
              refine .step (hbOnPath_frame _ _ _) (by decide) ?_
              exact .refl _
      · split
        · refine .ite ?_ ?_
          · refine .ite ?_ ?_
            · refine .step (compareCounters_frame _) (by decide) ?_
              refine .ite ?_ ?_
              · refine .step (State.setLobe_frame _ _ _) (by decide) ?_
                refine .step (State.unfault_frame _ _) (by decide) ?_
                refine .step (State.setLobe_frame _ _ _) (by decide) ?_
                refine .step (State.setLobe_frame _ _ _) (by decide) ?_
                refine .step (hbOnPath_frame _ _ _) (by decide) ?_
                exact .refl _
              · refine .step (State.unfault_frame _ _) (by decide) ?_
                refine .step (State.setLobe_frame _ _ _) (by decide) ?_
                refine .step (State.setLobe_frame _ _ _) (by decide) ?_
                refine .step (hbOnPath_frame _ _ _) (by decide) ?_
                exact .refl _
            · refine .ite ?_ ?_
              · refine .step (State.setLobe_frame _ _ _) (by decide) ?_
                refine .step (State.unfault_frame _ _) (by decide) ?_
                refine .step (State.setLobe_frame _ _ _) (by decide) ?_
                refine .step (State.setLobe_frame _ _ _) (by decide) ?_
                refine .step (hbOnPath_frame _ _ _) (by decide) ?_
                exact .refl _
              · refine .step (State.unfault_frame _ _) (by decide) ?_
                refine .step (State.setLobe_frame _ _ _) (by decide) ?_
                refine .step (State.setLobe_frame _ _ _) (by decide) ?_
                refine .step (hbOnPath_frame _ _ _) (by decide) ?_
                exact .refl _
          · refine .step (declareLost_frame _ _ _) (by decide) ?_
            refine .ite ?_ ?_
            · refine .step (compareCounters_frame _) (by decide) ?_
              refine .ite ?_ ?_
              · refine .step (State.setLobe_frame _ _ _) (by decide) ?_
                refine .step (State.unfault_frame _ _) (by decide) ?_
                refine .step (State.setLobe_frame _ _ _) (by decide) ?_
                refine .step (State.setLobe_frame _ _ _) (by decide) ?_
                refine .step (hbOnPath_frame _ _ _) (by decide) ?_
                exact .refl _
              · refine .step (State.unfault_frame _ _) (by decide) ?_
                refine .step (State.setLobe_frame _ _ _) (by decide) ?_
                refine .step (State.setLobe_frame _ _ _) (by decide) ?_
                refine .step (hbOnPath_frame _ _ _) (by decide) ?_
                exact .refl _
            · refine .ite ?_ ?_
              · refine .step (State.setLobe_frame _ _ _) (by decide) ?_
                refine .step (State.unfault_frame _ _) (by decide) ?_
                refine .step (State.setLobe_frame _ _ _) (by decide) ?_
                refine .step (State.setLobe_frame _ _ _) (by decide) ?_
                refine .step (hbOnPath_frame _ _ _) (by decide) ?_
                exact .refl _
              · refine .step (State.unfault_frame _ _) (by decide) ?_
                refine .step (State.setLobe_frame _ _ _) (by decide) ?_
                refine .step (State.setLobe_frame _ _ _) (by decide) ?_
                refine .step (hbOnPath_frame _ _ _) (by decide) ?_
                exact .refl _
        · refine .ite ?_ ?_
          · refine .step (compareCounters_frame _) (by decide) ?_
            refine .ite ?_ ?_
            · refine .step (State.setLobe_frame _ _ _) (by decide) ?_
              refine .step (State.unfault_frame _ _) (by decide) ?_
              refine .step (State.setLobe_frame _ _ _) (by decide) ?_
              refine .step (State.setLobe_frame _ _ _) (by decide) ?_
              refine .step (hbOnPath_frame _ _ _) (by decide) ?_
              exact .refl _
            · refine .step (State.unfault_frame _ _) (by decide) ?_
              refine .step (State.setLobe_frame _ _ _) (by decide) ?_
              refine .step (State.setLobe_frame _ _ _) (by decide) ?_
              refine .step (hbOnPath_frame _ _ _) (by decide) ?_
              exact .refl _
          · refine .ite ?_ ?_
            · refine .step (State.setLobe_frame _ _ _) (by decide) ?_
              refine .step (State.unfault_frame _ _) (by decide) ?_
              refine .step (State.setLobe_frame _ _ _) (by decide) ?_
              refine .step (State.setLobe_frame _ _ _) (by decide) ?_
              refine .step (hbOnPath_frame _ _ _) (by decide) ?_
              exact .refl _
            · refine .step (State.unfault_frame _ _) (by decide) ?_
              refine .step (State.setLobe_frame _ _ _) (by decide) ?_
              refine .step (State.setLobe_frame _ _ _) (by decide) ?_
              refine .step (hbOnPath_frame _ _ _) (by decide) ?_
              exact .refl _
    · refine .ite ?_ ?_
      · refine .step (toSyncing_frame _ _) (by decide) ?_
        split
        · refine .ite ?_ ?_
          · refine .ite ?_ ?_
            · refine .step (compareCounters_frame _) (by decide) ?_
              refine .ite ?_ ?_
              · refine .step (State.setLobe_frame _ _ _) (by decide) ?_
                refine .step (State.unfault_frame _ _) (by decide) ?_
                refine .step (State.setLobe_frame _ _ _) (by decide) ?_
                refine .step (State.setLobe_frame _ _ _) (by decide) ?_
                refine .step (hbOnPath_frame _ _ _) (by decide) ?_
                exact .refl _
              · refine .step (State.unfault_frame _ _) (by decide) ?_
                refine .step (State.setLobe_frame _ _ _) (by decide) ?_
                refine .step (State.setLobe_frame _ _ _) (by decide) ?_
                refine .step (hbOnPath_frame _ _ _) (by decide) ?_
                exact .refl _
            · refine .ite ?_ ?_
              · refine .step (State.setLobe_frame _ _ _) (by decide) ?_
                refine .step (State.unfault_frame _ _) (by decide) ?_
                refine .step (State.setLobe_frame _ _ _) (by decide) ?_
                refine .step (State.setLobe_frame _ _ _) (by decide) ?_
                refine .step (hbOnPath_frame _ _ _) (by decide) ?_
                exact .refl _
              · refine .step (State.unfault_frame _ _) (by decide) ?_
                refine .step (State.setLobe_frame _ _ _) (by decide) ?_
                refine .step (State.setLobe_frame _ _ _) (by decide) ?_
                refine .step (hbOnPath_frame _ _ _) (by decide) ?_
                exact .refl _
          · refine .step (declareLost_frame _ _ _) (by decide) ?_
            refine .ite ?_ ?_
            · refine .step (compareCounters_frame _) (by decide) ?_
              refine .ite ?_ ?_
              · refine .step (State.setLobe_frame _ _ _) (by decide) ?_
                refine .step (State.unfault_frame _ _) (by decide) ?_
                refine .step (State.setLobe_frame _ _ _) (by decide) ?_
                refine .step (State.setLobe_frame _ _ _) (by decide) ?_
                refine .step (hbOnPath_frame _ _ _) (by decide) ?_
                exact .refl _
              · refine .step (State.unfault_frame _ _) (by decide) ?_
                refine .step (State.setLobe_frame _ _ _) (by decide) ?_
                refine .step (State.setLobe_frame _ _ _) (by decide) ?_
                refine .step (hbOnPath_frame _ _ _) (by decide) ?_
                exact .refl _
            · refine .ite ?_ ?_
              · refine .step (State.setLobe_frame _ _ _) (by decide) ?_
                refine .step (State.unfault_frame _ _) (by decide) ?_
                refine .step (State.setLobe_frame _ _ _) (by decide) ?_
                refine .step (State.setLobe_frame _ _ _) (by decide) ?_
                refine .step (hbOnPath_frame _ _ _) (by decide) ?_
                exact .refl _
              · refine .step (State.unfault_frame _ _) (by decide) ?_
                refine .step (State.setLobe_frame _ _ _) (by decide) ?_
                refine .step (State.setLobe_frame _ _ _) (by decide) ?_
                refine .step (hbOnPath_frame _ _ _) (by decide) ?_
                exact .refl _
        · refine .ite ?_ ?_
          · refine .step (compareCounters_frame _) (by decide) ?_
            refine .ite ?_ ?_
            · refine .step (State.setLobe_frame _ _ _) (by decide) ?_
              refine .step (State.unfault_frame _ _) (by decide) ?_
              refine .step (State.setLobe_frame _ _ _) (by decide) ?_
              refine .step (State.setLobe_frame _ _ _) (by decide) ?_
              refine .step (hbOnPath_frame _ _ _) (by decide) ?_
              exact .refl _
            · refine .step (State.unfault_frame _ _) (by decide) ?_
              refine .step (State.setLobe_frame _ _ _) (by decide) ?_
              refine .step (State.setLobe_frame _ _ _) (by decide) ?_
              refine .step (hbOnPath_frame _ _ _) (by decide) ?_
              exact .refl _
          · refine .ite ?_ ?_
            · refine .step (State.setLobe_frame _ _ _) (by decide) ?_
              refine .step (State.unfault_frame _ _) (by decide) ?_
              refine .step (State.setLobe_frame _ _ _) (by decide) ?_
              refine .step (State.setLobe_frame _ _ _) (by decide) ?_
              refine .step (hbOnPath_frame _ _ _) (by decide) ?_
              exact .refl _
            · refine .step (State.unfault_frame _ _) (by decide) ?_
              refine .step (State.setLobe_frame _ _ _) (by decide) ?_
              refine .step (State.setLobe_frame _ _ _) (by decide) ?_
              refine .step (hbOnPath_frame _ _ _) (by decide) ?_
              exact .refl _
      · split
        · refine .ite ?_ ?_
          · refine .ite ?_ ?_
            · refine .step (compareCounters_frame _) (by decide) ?_
              refine .ite ?_ ?_
              · refine .step (State.setLobe_frame _ _ _) (by decide) ?_
                refine .step (State.unfault_frame _ _) (by decide) ?_
                refine .step (State.setLobe_frame _ _ _) (by decide) ?_
                refine .step (State.setLobe_frame _ _ _) (by decide) ?_
                refine .step (hbOnPath_frame _ _ _) (by decide) ?_
                exact .refl _
              · refine .step (State.unfault_frame _ _) (by decide) ?_
                refine .step (State.setLobe_frame _ _ _) (by decide) ?_
                refine .step (State.setLobe_frame _ _ _) (by decide) ?_
                refine .step (hbOnPath_frame _ _ _) (by decide) ?_
                exact .refl _
            · refine .ite ?_ ?_
              · refine .step (State.setLobe_frame _ _ _) (by decide) ?_
                refine .step (State.unfault_frame _ _) (by decide) ?_
                refine .step (State.setLobe_frame _ _ _) (by decide) ?_
                refine .step (State.setLobe_frame _ _ _) (by decide) ?_
                refine .step (hbOnPath_frame _ _ _) (by decide) ?_
                exact .refl _
              · refine .step (State.unfault_frame _ _) (by decide) ?_
                refine .step (State.setLobe_frame _ _ _) (by decide) ?_
                refine .step (State.setLobe_frame _ _ _) (by decide) ?_
                refine .step (hbOnPath_frame _ _ _) (by decide) ?_
                exact .refl _
          · refine .step (declareLost_frame _ _ _) (by decide) ?_
            refine .ite ?_ ?_
            · refine .step (compareCounters_frame _) (by decide) ?_
              refine .ite ?_ ?_
              · refine .step (State.setLobe_frame _ _ _) (by decide) ?_
                refine .step (State.unfault_frame _ _) (by decide) ?_
                refine .step (State.setLobe_frame _ _ _) (by decide) ?_
                refine .step (State.setLobe_frame _ _ _) (by decide) ?_
                refine .step (hbOnPath_frame _ _ _) (by decide) ?_
                exact .refl _
              · refine .step (State.unfault_frame _ _) (by decide) ?_
                refine .step (State.setLobe_frame _ _ _) (by decide) ?_
                refine .step (State.setLobe_frame _ _ _) (by decide) ?_
                refine .step (hbOnPath_frame _ _ _) (by decide) ?_
                exact .refl _
            · refine .ite ?_ ?_
              · refine .step (State.setLobe_frame _ _ _) (by decide) ?_
                refine .step (State.unfault_frame _ _) (by decide) ?_
                refine .step (State.setLobe_frame _ _ _) (by decide) ?_
                refine .step (State.setLobe_frame _ _ _) (by decide) ?_
                refine .step (hbOnPath_frame _ _ _) (by decide) ?_
                exact .refl _
              · refine .step (State.unfault_frame _ _) (by decide) ?_
                refine .step (State.setLobe_frame _ _ _) (by decide) ?_
                refine .step (State.setLobe_frame _ _ _) (by decide) ?_
                refine .step (hbOnPath_frame _ _ _) (by decide) ?_
                exact .refl _
        · refine .ite ?_ ?_
          · refine .step (compareCounters_frame _) (by decide) ?_
            refine .ite ?_ ?_
            · refine .step (State.setLobe_frame _ _ _) (by decide) ?_
              refine .step (State.unfault_frame _ _) (by decide) ?_
              refine .step (State.setLobe_frame _ _ _) (by decide) ?_
              refine .step (State.setLobe_frame _ _ _) (by decide) ?_
              refine .step (hbOnPath_frame _ _ _) (by decide) ?_
              exact .refl _
            · refine .step (State.unfault_frame _ _) (by decide) ?_
              refine .step (State.setLobe_frame _ _ _) (by decide) ?_
              refine .step (State.setLobe_frame _ _ _) (by decide) ?_
              refine .step (hbOnPath_frame _ _ _) (by decide) ?_
              exact .refl _
          · refine .ite ?_ ?_
            · refine .step (State.setLobe_frame _ _ _) (by decide) ?_
              refine .step (State.unfault_frame _ _) (by decide) ?_
              refine .step (State.setLobe_frame _ _ _) (by decide) ?_
              refine .step (State.setLobe_frame _ _ _) (by decide) ?_
              refine .step (hbOnPath_frame _ _ _) (by decide) ?_
              exact .refl _
            · refine .step (State.unfault_frame _ _) (by decide) ?_
              refine .step (State.setLobe_frame _ _ _) (by decide) ?_
              refine .step (State.setLobe_frame _ _ _) (by decide) ?_
              refine .step (hbOnPath_frame _ _ _) (by decide) ?_
              exact .refl _
  · refine .ite ?_ ?_
    · refine .step (toSyncing_frame _ _) (by decide) ?_
      split
      · refine .ite ?_ ?_
        · refine .ite ?_ ?_
          · refine .step (compareCounters_frame _) (by decide) ?_
            refine .ite ?_ ?_
            · refine .step (State.setLobe_frame _ _ _) (by decide) ?_
              refine .step (State.unfault_frame _ _) (by decide) ?_
              refine .step (State.setLobe_frame _ _ _) (by decide) ?_
              refine .step (State.setLobe_frame _ _ _) (by decide) ?_
              refine .step (hbOnPath_frame _ _ _) (by decide) ?_
              exact .refl _
            · refine .step (State.unfault_frame _ _) (by decide) ?_
              refine .step (State.setLobe_frame _ _ _) (by decide) ?_
              refine .step (State.setLobe_frame _ _ _) (by decide) ?_
              refine .step (hbOnPath_frame _ _ _) (by decide) ?_
              exact .refl _
          · refine .ite ?_ ?_
            · refine .step (State.setLobe_frame _ _ _) (by decide) ?_
              refine .step (State.unfault_frame _ _) (by decide) ?_
              refine .step (State.setLobe_frame _ _ _) (by decide) ?_
              refine .step (State.setLobe_frame _ _ _) (by decide) ?_
              refine .step (hbOnPath_frame _ _ _) (by decide) ?_
              exact .refl _
            · refine .step (State.unfault_frame _ _) (by decide) ?_
              refine .step (State.setLobe_frame _ _ _) (by decide) ?_
              refine .step (State.setLobe_frame _ _ _) (by decide) ?_
              refine .step (hbOnPath_frame _ _ _) (by decide) ?_
              exact .refl _
        · refine .step (declareLost_frame _ _ _) (by decide) ?_
          refine .ite ?_ ?_
          · refine .step (compareCounters_frame _) (by decide) ?_
            refine .ite ?_ ?_
            · refine .step (State.setLobe_frame _ _ _) (by decide) ?_
              refine .step (State.unfault_frame _ _) (by decide) ?_
              refine .step (State.setLobe_frame _ _ _) (by decide) ?_
              refine .step (State.setLobe_frame _ _ _) (by decide) ?_
              refine .step (hbOnPath_frame _ _ _) (by decide) ?_
              exact .refl _
            · refine .step (State.unfault_frame _ _) (by decide) ?_
              refine .step (State.setLobe_frame _ _ _) (by decide) ?_
              refine .step (State.setLobe_frame _ _ _) (by decide) ?_
              refine .step (hbOnPath_frame _ _ _) (by decide) ?_
              exact .refl _
          · refine .ite ?_ ?_
            · refine .step (State.setLobe_frame _ _ _) (by decide) ?_
              refine .step (State.unfault_frame _ _) (by decide) ?_
              refine .step (State.setLobe_frame _ _ _) (by decide) ?_
              refine .step (State.setLobe_frame _ _ _) (by decide) ?_
              refine .step (hbOnPath_frame _ _ _) (by decide) ?_
              exact .refl _
            · refine .step (State.unfault_frame _ _) (by decide) ?_
              refine .step (State.setLobe_frame _ _ _) (by decide) ?_
              refine .step (State.setLobe_frame _ _ _) (by decide) ?_
              refine .step (hbOnPath_frame _ _ _) (by decide) ?_
              exact .refl _
      · refine .ite ?_ ?_
        · refine .step (compareCounters_frame _) (by decide) ?_
          refine .ite ?_ ?_
          · refine .step (State.setLobe_frame _ _ _) (by decide) ?_
            refine .step (State.unfault_frame _ _) (by decide) ?_
            refine .step (State.setLobe_frame _ _ _) (by decide) ?_
            refine .step (State.setLobe_frame _ _ _) (by decide) ?_
            refine .step (hbOnPath_frame _ _ _) (by decide) ?_
            exact .refl _
          · refine .step (State.unfault_frame _ _) (by decide) ?_
            refine .step (State.setLobe_frame _ _ _) (by decide) ?_
            refine .step (State.setLobe_frame _ _ _) (by decide) ?_
            refine .step (hbOnPath_frame _ _ _) (by decide) ?_
            exact .refl _
        · refine .ite ?_ ?_
          · refine .step (State.setLobe_frame _ _ _) (by decide) ?_
            refine .step (State.unfault_frame _ _) (by decide) ?_
            refine .step (State.setLobe_frame _ _ _) (by decide) ?_
            refine .step (State.setLobe_frame _ _ _) (by decide) ?_
            refine .step (hbOnPath_frame _ _ _) (by decide) ?_
            exact .refl _
          · refine .step (State.unfault_frame _ _) (by decide) ?_
            refine .step (State.setLobe_frame _ _ _) (by decide) ?_
            refine .step (State.setLobe_frame _ _ _) (by decide) ?_
            refine .step (hbOnPath_frame _ _ _) (by decide) ?_
            exact .refl _
    · split
      · refine .ite ?_ ?_
        · refine .ite ?_ ?_
          · refine .step (compareCounters_frame _) (by decide) ?_
            refine .ite ?_ ?_
            · refine .step (State.setLobe_frame _ _ _) (by decide) ?_
              refine .step (State.unfault_frame _ _) (by decide) ?_
              refine .step (State.setLobe_frame _ _ _) (by decide) ?_
              refine .step (State.setLobe_frame _ _ _) (by decide) ?_
              refine .step (hbOnPath_frame _ _ _) (by decide) ?_
              exact .refl _
            · refine .step (State.unfault_frame _ _) (by decide) ?_
              refine .step (State.setLobe_frame _ _ _) (by decide) ?_
              refine .step (State.setLobe_frame _ _ _) (by decide) ?_
              refine .step (hbOnPath_frame _ _ _) (by decide) ?_
              exact .refl _
          · refine .ite ?_ ?_
            · refine .step (State.setLobe_frame _ _ _) (by decide) ?_
              refine .step (State.unfault_frame _ _) (by decide) ?_
              refine .step (State.setLobe_frame _ _ _) (by decide) ?_
              refine .step (State.setLobe_frame _ _ _) (by decide) ?_
              refine .step (hbOnPath_frame _ _ _) (by decide) ?_
              exact .refl _
            · refine .step (State.unfault_frame _ _) (by decide) ?_
              refine .step (State.setLobe_frame _ _ _) (by decide) ?_
              refine .step (State.setLobe_frame _ _ _) (by decide) ?_
              refine .step (hbOnPath_frame _ _ _) (by decide) ?_
              exact .refl _
        · refine .step (declareLost_frame _ _ _) (by decide) ?_
          refine .ite ?_ ?_
          · refine .step (compareCounters_frame _) (by decide) ?_
            refine .ite ?_ ?_
            · refine .step (State.setLobe_frame _ _ _) (by decide) ?_
              refine .step (State.unfault_frame _ _) (by decide) ?_
              refine .step (State.setLobe_frame _ _ _) (by decide) ?_
              refine .step (State.setLobe_frame _ _ _) (by decide) ?_
              refine .step (hbOnPath_frame _ _ _) (by decide) ?_
              exact .refl _
            · refine .step (State.unfault_frame _ _) (by decide) ?_
              refine .step (State.setLobe_frame _ _ _) (by decide) ?_
              refine .step (State.setLobe_frame _ _ _) (by decide) ?_
              refine .step (hbOnPath_frame _ _ _) (by decide) ?_
              exact .refl _
          · refine .ite ?_ ?_
            · refine .step (State.setLobe_frame _ _ _) (by decide) ?_
              refine .step (State.unfault_frame _ _) (by decide) ?_
              refine .step (State.setLobe_frame _ _ _) (by decide) ?_
              refine .step (State.setLobe_frame _ _ _) (by decide) ?_
              refine .step (hbOnPath_frame _ _ _) (by decide) ?_
              exact .refl _
            · refine .step (State.unfault_frame _ _) (by decide) ?_
              refine .step (State.setLobe_frame _ _ _) (by decide) ?_
              refine .step (State.setLobe_frame _ _ _) (by decide) ?_
              refine .step (hbOnPath_frame _ _ _) (by decide) ?_
              exact .refl _
      · refine .ite ?_ ?_
        · refine .step (compareCounters_frame _) (by decide) ?_
          refine .ite ?_ ?_
          · refine .step (State.setLobe_frame _ _ _) (by decide) ?_
            refine .step (State.unfault_frame _ _) (by decide) ?_
            refine .step (State.setLobe_frame _ _ _) (by decide) ?_
            refine .step (State.setLobe_frame _ _ _) (by decide) ?_
            refine .step (hbOnPath_frame _ _ _) (by decide) ?_
            exact .refl _
          · refine .step (State.unfault_frame _ _) (by decide) ?_
            refine .step (State.setLobe_frame _ _ _) (by decide) ?_
            refine .step (State.setLobe_frame _ _ _) (by decide) ?_
            refine .step (hbOnPath_frame _ _ _) (by decide) ?_
            exact .refl _
        · refine .ite ?_ ?_
          · refine .step (State.setLobe_frame _ _ _) (by decide) ?_
            refine .step (State.unfault_frame _ _) (by decide) ?_
            refine .step (State.setLobe_frame _ _ _) (by decide) ?_
            refine .step (State.setLobe_frame _ _ _) (by decide) ?_
            refine .step (hbOnPath_frame _ _ _) (by decide) ?_
            exact .refl _
          · refine .step (State.unfault_frame _ _) (by decide) ?_
            refine .step (State.setLobe_frame _ _ _) (by decide) ?_
            refine .step (State.setLobe_frame _ _ _) (by decide) ?_
            refine .step (hbOnPath_frame _ _ _) (by decide) ?_
            exact .refl _

theorem execHeartbeatReceive_frame (l : Nat) (path : Nat) (hb : Heartbeat) (crcOk : Bool) (s : State) (s' : State) (h : execHeartbeatReceive l path hb crcOk s = .next s') :
    Frame [.objs, .dev, .ex, .lobes, .time, .sorus, .cal, .com, .mat] s s' := by
  unfold execHeartbeatReceive at h
  refine finish_frame h ?_
  refine .ite ?_ ?_
  · refine .set_mat (by decide) ?_
    exact .refl _
  · refine .ite ?_ ?_
    · refine .step (hbReceive_frame _ _ _ _) (by decide) ?_
      exact .refl _
    · exact .refl _

theorem execHbPathFailed_frame (q : Nat) (s : State) (s' : State) (h : execHbPathFailed q s = .next s') :
    Frame [.objs, .ex, .lobes, .sorus] s s' := by
  unfold execHbPathFailed at h
  refine finish_frame h ?_
  refine .ite ?_ ?_
  · refine .step (raise_frame _ _ _ _) (by decide) ?_
    refine .step (State.incSat_frame _ _ _ _) (by decide) ?_
    refine .step (State.setHbPath_frame _ _ _) (by decide) ?_
    exact .refl _
  · exact .refl _

theorem execPeerLost_frame (l : Nat) (s : State) (s' : State) (h : execPeerLost l s = .next s') :
    Frame [.objs, .dev, .ex, .lobes, .sorus] s s' := by
  unfold execPeerLost at h
  refine finish_frame h ?_
  refine .ite ?_ ?_
  · refine .ite ?_ ?_
    · refine .step (takeClaim_frame _ _ _) (by decide) ?_
      exact .refl _
    · exact .refl _
  · refine .ite ?_ ?_
    · split
      · refine .ite ?_ ?_
        · refine .step (declareLost_frame _ _ _) (by decide) ?_
          exact .refl _
        · exact .refl _
      · exact .refl _
    · exact .refl _

theorem execClaimBroadcast_frame (l : Nat) (s : State) (s' : State) (h : execClaimBroadcast l s = .next s') :
    Frame [.objs, .dev, .ex, .lobes, .time, .sorus, .com] s s' := by
  unfold execClaimBroadcast at h
  refine finish_frame h ?_
  refine .ite ?_ ?_
  · refine .ite ?_ ?_
    · refine .step (loseClaim_frame _ _) (by decide) ?_
      refine .step (broadcast_frame _ _) (by decide) ?_
      exact .refl _
    · refine .step (broadcast_frame _ _) (by decide) ?_
      exact .refl _
  · exact .refl _

theorem gateFault_frame (s : State) (b : Nat) (h : Nat) : Frame [.objs, .ex, .lobes, .sorus] s (gateFault s b h) := by
  unfold gateFault
  refine .step (raiseS_frame _ _ _) (by decide) ?_
  refine .set_lobes (by decide) ?_
  exact .refl _

theorem execGateFault_frame (b : Nat) (s : State) (s' : State) (h : execGateFault b s = .next s') :
    Frame [.objs, .ex, .lobes, .sorus] s s' := by
  unfold execGateFault at h
  refine finish_frame h ?_
  refine .ite ?_ ?_
  · refine .step (gateFault_frame _ _ _) (by decide) ?_
    exact .refl _
  · exact .refl _

theorem execWriteRefused_frame (l : Nat) (b : Nat) (s : State) (s' : State) (h : execWriteRefused l b s = .next s') :
    Frame [.objs, .dev, .ex, .lobes, .time, .sorus, .com] s s' := by
  unfold execWriteRefused at h
  refine finish_frame h ?_
  refine .ite ?_ ?_
  · refine .ite ?_ ?_
    · refine .step (loseClaim_frame _ _) (by decide) ?_
      refine .step (readSummary_frame _ _) (by decide) ?_
      refine .set_lobes (by decide) ?_
      exact .refl _
    · refine .ite ?_ ?_
      · refine .step (gateFault_frame _ _ _) (by decide) ?_
        refine .step (readSummary_frame _ _) (by decide) ?_
        refine .set_lobes (by decide) ?_
        exact .refl _
      · refine .step (readSummary_frame _ _) (by decide) ?_
        refine .set_lobes (by decide) ?_
        exact .refl _
  · exact .refl _

theorem execLobeFailover_frame (l : Nat) (s : State) (s' : State) (h : execLobeFailover l s = .next s') :
    Frame [.objs, .hbm, .dev, .ex, .funcs, .lobes, .time, .sorus, .drv, .steady, .loops, .mon, .cal, .fab, .lib, .com, .net, .mat] s s' := by
  unfold execLobeFailover at h
  refine finish_frame h ?_
  conv => zeta
  split
  · exact .refl _
  · refine .ite ?_ ?_
    · exact .refl _
    · refine .ite ?_ ?_
      · refine .step (peerGone_frame _ _) (by decide) ?_
        exact .refl _
      · refine .ite ?_ ?_
        · refine .step (copyToSyncing_frame _ _) (by decide) ?_
          refine .step (startFirst_frame _ _) (by decide) ?_
          exact .refl _
        · refine .step (copyToSyncing_frame _ _) (by decide) ?_
          refine .step (takeOver_frame _ _ _) (by decide) ?_
          exact .refl _

theorem execLobeYielded_frame (l : Nat) (cause : Nat) (s : State) (s' : State) (h : execLobeYielded l cause s = .next s') :
    Frame [.objs, .dev, .ex, .lobes, .time, .sorus, .cal, .com] s s' := by
  unfold execLobeYielded at h
  refine finish_frame h ?_
  refine .ite ?_ ?_
  · refine .step (counterFault_frame _ _) (by decide) ?_
    exact .refl _
  · refine .ite ?_ ?_
    · refine .step (yieldLobe_frame _ _ _) (by decide) ?_
      exact .refl _
    · exact .refl _

theorem execWatchdogExpiry_frame (l : Nat) (core : Nat) (s : State) (s' : State) (h : execWatchdogExpiry l core s = .next s') :
    Frame [.objs, .dev, .ex, .lobes, .sorus, .cal, .com] s s' := by
  unfold execWatchdogExpiry at h
  refine finish_frame h ?_
  refine .ite ?_ ?_
  · refine .step (yieldLobe_frame _ _ _) (by decide) ?_
    exact .refl _
  · exact .refl _

theorem execLobeSupplyFault_frame (l : Nat) (s : State) (s' : State) (h : execLobeSupplyFault l s = .next s') :
    Frame [.objs, .dev, .ex, .lobes, .sorus, .cal, .com] s s' := by
  unfold execLobeSupplyFault at h
  refine finish_frame h ?_
  refine .ite ?_ ?_
  · refine .step (yieldLobe_frame _ _ _) (by decide) ?_
    exact .refl _
  · exact .refl _

theorem execCounterFault_frame (l : Nat) (s : State) (s' : State) (h : execCounterFault l s = .next s') :
    Frame [.objs, .dev, .ex, .lobes, .time, .sorus, .cal, .com] s s' := by
  unfold execCounterFault at h
  refine finish_frame h ?_
  refine .ite ?_ ?_
  · refine .step (counterFault_frame _ _) (by decide) ?_
    exact .refl _
  · exact .refl _

theorem execLobeLocalMemoryError_frame (l : Nat) (s : State) (s' : State) (h : execLobeLocalMemoryError l s = .next s') :
    Frame [.objs, .dev, .ex, .lobes, .sorus, .cal, .com] s s' := by
  unfold execLobeLocalMemoryError at h
  refine finish_frame h ?_
  refine .ite ?_ ?_
  · refine .step (yieldLobe_frame _ _ _) (by decide) ?_
    exact .refl _
  · exact .refl _

theorem mismatch_frame (s : State) (col : Nat) : Frame [.objs, .ex, .lobes, .sorus] s (mismatch s col) := by
  unfold mismatch
  conv => zeta
  split
  split
  refine .step (raiseA_frame _ _ _) (by decide) ?_
  refine .snd (by assumption) ?_
  refine .step (State.fresh_frame _) (by decide) ?_
  refine .snd (by assumption) ?_
  refine .step (State.fresh_frame _) (by decide) ?_
  refine .set_lobes (by decide) ?_
  refine .step (State.incSat_frame _ _ _ _) (by decide) ?_
  exact .refl _

theorem compareColumn_frame (s : State) (col : Nat) : Frame [.objs, .ex, .lobes, .sorus] s (compareColumn s col) := by
  unfold compareColumn
  refine .ite ?_ ?_
  · refine .step (State.incSat_frame _ _ _ _) (by decide) ?_
    exact .refl _
  · refine .step (mismatch_frame _ _) (by decide) ?_
    exact .refl _

theorem countClean_frame (s : State) (dirty : Bool) : Frame [.lobes] s (countClean s dirty) := by
  unfold countClean
  refine .foldl (fun _ _ => ?_) ?_
  · refine .ite ?_ ?_
    · refine .step (State.setLobe_frame _ _ _) (by decide) ?_
      exact .refl _
    · exact .refl _
  · exact .refl _

theorem execDigestCompare_frame (peer : List (Nat × Nat)) (s : State) (s' : State) (h : execDigestCompare peer s = .next s') :
    Frame [.objs, .ex, .lobes, .sorus] s s' := by
  unfold execDigestCompare at h
  refine finish_frame h ?_
  refine .ite ?_ ?_
  · exact .refl _
  · refine .ite ?_ ?_
    · refine .foldl (fun _ _ => ?_) ?_
      · refine .step (compareColumn_frame _ _) (by decide) ?_
        exact .refl _
      · refine .step (countClean_frame _ _) (by decide) ?_
        refine .set_lobes (by decide) ?_
        exact .refl _
    · refine .step (countClean_frame _ _) (by decide) ?_
      refine .set_lobes (by decide) ?_
      exact .refl _

theorem katVerdict_frame (s : State) (col : Nat) (passA : Bool) (passB : Bool) :
    Frame [.objs, .dev, .ex, .lobes, .sorus, .cal, .com] s (katVerdict s col passA passB) := by
  unfold katVerdict
  conv => zeta
  split
  · refine .ite ?_ ?_
    · refine .ite ?_ ?_
      · refine .step (toDiagnosing_frame _ _) (by decide) ?_
        exact .refl _
      · exact .refl _
    · refine .ite ?_ ?_
      · refine .step (yieldLobe_frame _ _ _) (by decide) ?_
        exact .refl _
      · refine .ite ?_ ?_
        · refine .step (yieldLobe_frame _ _ _) (by decide) ?_
          exact .refl _
        · split
          split
          refine .step (yieldLobe_frame _ _ _) (by decide) ?_
          refine .step (raiseA_frame _ _ _) (by decide) ?_
          refine .snd (by assumption) ?_
          refine .step (State.fresh_frame _) (by decide) ?_
          refine .snd (by assumption) ?_
          refine .step (State.fresh_frame _) (by decide) ?_
          exact .refl _
  · refine .ite ?_ ?_
    · refine .ite ?_ ?_
      · exact .refl _
      · refine .step (yieldLobe_frame _ _ _) (by decide) ?_
        exact .refl _
    · refine .step (yieldLobe_frame _ _ _) (by decide) ?_
      refine .ite ?_ ?_
      · exact .refl _
      · refine .step (yieldLobe_frame _ _ _) (by decide) ?_
        exact .refl _

theorem katPeriodic_frame (s : State) (col : Nat) (l : Nat) (pass : Bool) :
    Frame [.objs, .dev, .ex, .lobes, .sorus, .cal, .com] s (katPeriodic s col l pass) := by
  unfold katPeriodic
  refine .ite ?_ ?_
  · refine .ite ?_ ?_
    · refine .step (State.setLobe_frame _ _ _) (by decide) ?_
      exact .refl _
    · refine .step (yieldLobe_frame _ _ _) (by decide) ?_
      refine .step (State.setLobe_frame _ _ _) (by decide) ?_
      exact .refl _
  · exact .refl _

theorem execKatDone_frame (col : Nat) (passA : Bool) (passB : Bool) (s : State) (s' : State) (h : execKatDone col passA passB s = .next s') :
    Frame [.objs, .dev, .ex, .lobes, .sorus, .cal, .com] s s' := by
  unfold execKatDone at h
  refine finish_frame h ?_
  refine .ite ?_ ?_
  · refine .step (katVerdict_frame _ _ _ _) (by decide) ?_
    refine .set_lobes (by decide) ?_
    exact .refl _
  · refine .step (katPeriodic_frame _ _ _ _) (by decide) ?_
    refine .step (katPeriodic_frame _ _ _ _) (by decide) ?_
    exact .refl _

theorem execKatIntervalEnd_frame (l : Nat) (s : State) (s' : State) (h : execKatIntervalEnd l s = .next s') :
    Frame [.ex, .lobes] s s' := by
  unfold execKatIntervalEnd at h
  refine finish_frame h ?_
  refine .ite ?_ ?_
  · refine .step (State.setLobe_frame _ _ _) (by decide) ?_
    exact .refl _
  · exact .refl _

theorem diagFailed_frame (s : State) (l : Nat) : Frame [.objs, .dev, .ex, .lobes, .sorus, .cal, .com] s (diagFailed s l) := by
  unfold diagFailed
  refine .ite ?_ ?_
  · refine .step (toOffline_frame _ _ _) (by decide) ?_
    refine .ite ?_ ?_
    · refine .step (rollBack_frame _ _) (by decide) ?_
      refine .step (State.fault_frame _ _) (by decide) ?_
      refine .step (State.setObjN_frame _ _ _ _) (by decide) ?_
      refine .step (State.setLobe_frame _ _ _) (by decide) ?_
      exact .refl _
    · refine .step (State.fault_frame _ _) (by decide) ?_
      refine .step (State.setObjN_frame _ _ _ _) (by decide) ?_
      refine .step (State.setLobe_frame _ _ _) (by decide) ?_
      exact .refl _
  · refine .ite ?_ ?_
    · refine .step (rollBack_frame _ _) (by decide) ?_
      refine .step (State.fault_frame _ _) (by decide) ?_
      refine .step (State.setObjN_frame _ _ _ _) (by decide) ?_
      refine .step (State.setLobe_frame _ _ _) (by decide) ?_
      exact .refl _
    · refine .step (State.fault_frame _ _) (by decide) ?_
      refine .step (State.setObjN_frame _ _ _ _) (by decide) ?_
      refine .step (State.setLobe_frame _ _ _) (by decide) ?_
      exact .refl _

theorem diagPassed_frame (s : State) (l : Nat) : Frame [.objs, .dev, .ex, .lobes, .time, .sorus, .com] s (diagPassed s l) := by
  unfold diagPassed
  refine .ite ?_ ?_
  · refine .step (takeRole_frame _ _ _) (by decide) ?_
    refine .step (readSummary_frame _ _) (by decide) ?_
    refine .step (State.setLobe_frame _ _ _) (by decide) ?_
    exact .refl _
  · refine .ite ?_ ?_
    · refine .ite ?_ ?_
      · refine .step (toSyncing_frame _ _) (by decide) ?_
        refine .step (readSummary_frame _ _) (by decide) ?_
        refine .step (State.setLobe_frame _ _ _) (by decide) ?_
        exact .refl _
      · refine .step (readSummary_frame _ _) (by decide) ?_
        refine .step (State.setLobe_frame _ _ _) (by decide) ?_
        exact .refl _
    · refine .ite ?_ ?_
      · refine .step (takeClaim_frame _ _ _) (by decide) ?_
        refine .step (readSummary_frame _ _) (by decide) ?_
        refine .step (State.setLobe_frame _ _ _) (by decide) ?_
        exact .refl _
      · refine .step (readSummary_frame _ _) (by decide) ?_
        refine .step (State.setLobe_frame _ _ _) (by decide) ?_
        exact .refl _

theorem execDiagnosisEnd_frame (l : Nat) (pass : Bool) (s : State) (s' : State) (h : execDiagnosisEnd l pass s = .next s') :
    Frame [.objs, .dev, .ex, .lobes, .time, .sorus, .cal, .com] s s' := by
  unfold execDiagnosisEnd at h
  refine finish_frame h ?_
  refine .ite ?_ ?_
  · refine .ite ?_ ?_
    · refine .step (diagPassed_frame _ _) (by decide) ?_
      exact .refl _
    · refine .step (diagFailed_frame _ _) (by decide) ?_
      exact .refl _
  · exact .refl _

theorem execDiagRetry_frame (l : Nat) (s : State) (s' : State) (h : execDiagRetry l s = .next s') :
    Frame [.ex, .lobes] s s' := by
  unfold execDiagRetry at h
  refine finish_frame h ?_
  conv => zeta
  split
  · refine .ite ?_ ?_
    · refine .step (State.setLobe_frame _ _ _) (by decide) ?_
      exact .refl _
    · exact .refl _
  · exact .refl _

theorem effLobeReset_frame (l : Nat) (s : State) :
    Frame1 [.objs, .dev, .ex, .lobes, .time, .sorus, .com, .mat] s (effLobeReset l s) := by
  unfold effLobeReset
  refine .ite ?_ ?_
  · refine .pair ?_
    exact .refl _
  · refine .pair ?_
    refine .step (endRollBack_frame _) (by decide) ?_
    refine .step (resetLobe_frame _ _ _) (by decide) ?_
    exact .refl _

theorem execLobeReset_frame (sess : Nat) (l : Nat) (s : State) (s' : State) (h : execLobeReset sess l s = .next s') :
    Frame [.objs, .dev, .ex, .lobes, .time, .sorus, .lib, .com, .mat] s s' := by
  unfold execLobeReset at h
  refine finish_frame h ?_
  refine hostWrite_frame (by decide) (fun _ => ?_) ?_ 
  · refine .step (effLobeReset_frame _ _) (by decide) ?_
    exact .refl _
  · exact .refl _

theorem freezeWraps_frame (s : State) : Frame [.sorus, .loops] s (freezeWraps s) := by
  unfold freezeWraps
  refine .foldl (fun _ _ => ?_) ?_
  · refine .step (State.setElem_frame _ _ _) (by decide) ?_
    exact .refl _
  · exact .refl _

theorem reportSwap_frame (s : State) : Frame [.objs, .ex, .lobes, .sorus] s (reportSwap s) := by
  unfold reportSwap
  conv => zeta
  split
  · refine .step (raiseA_frame _ _ _) (by decide) ?_
    refine .set_lobes (by decide) ?_
    exact .refl _
  · exact .refl _

theorem execSnapshotCapture_frame (s : State) (s' : State) (h : execSnapshotCapture s = .next s') :
    Frame [.objs, .ex, .lobes, .sorus, .loops] s s' := by
  unfold execSnapshotCapture at h
  refine finish_frame h ?_
  refine .ite ?_ ?_
  · refine .step (reportSwap_frame _) (by decide) ?_
    refine .set_lobes (by decide) ?_
    refine .ite ?_ ?_
    · refine .step (freezeWraps_frame _) (by decide) ?_
      refine .set_lobes (by decide) ?_
      exact .refl _
    · exact .refl _
  · exact .refl _

theorem execSnapshotReceived_frame (crcOk : Bool) (s : State) (s' : State) (h : execSnapshotReceived crcOk s = .next s') :
    Frame [.objs, .ex, .lobes, .sorus, .mat] s s' := by
  unfold execSnapshotReceived at h
  refine finish_frame h ?_
  conv => zeta
  split
  · exact .refl _
  · refine .ite ?_ ?_
    · exact .refl _
    · refine .ite ?_ ?_
      · refine .set_lobes (by decide) ?_
        refine .set_mat (by decide) ?_
        refine .set_lobes (by decide) ?_
        exact .refl _
      · refine .step (raiseS_frame _ _ _) (by decide) ?_
        refine .step (State.incSat_frame _ _ _ _) (by decide) ?_
        refine .set_mat (by decide) ?_
        refine .set_lobes (by decide) ?_
        exact .refl _

theorem execSnapshotLate_frame (s : State) (s' : State) (h : execSnapshotLate s = .next s') :
    Frame [.objs, .ex, .lobes, .sorus] s s' := by
  unfold execSnapshotLate at h
  refine finish_frame h ?_
  conv => zeta
  split
  · refine .ite ?_ ?_
    · refine .step (raiseS_frame _ _ _) (by decide) ?_
      refine .set_lobes (by decide) ?_
      exact .refl _
    · exact .refl _
  · exact .refl _

theorem fwStandby_frame (s : State) (l : Nat) : Frame [.objs, .dev, .ex, .lobes, .sorus] s (fwStandby s l) := by
  unfold fwStandby
  conv => zeta
  split
  · refine .ite ?_ ?_
    · refine .set_lobes (by decide) ?_
      refine .set_dev (by decide) ?_
      exact .refl _
    · exact .refl _
  · refine .ite ?_ ?_
    · refine .step (raiseA_frame _ _ _) (by decide) ?_
      refine .set_dev (by decide) ?_
      exact .refl _
    · exact .refl _
  · split
    · refine .ite ?_ ?_
      · refine .set_lobes (by decide) ?_
        exact .refl _
      · exact .refl _
    · exact .refl _
  · exact .refl _

theorem execResyncDone_frame (l : Nat) (s : State) (s' : State) (h : execResyncDone l s = .next s') :
    Frame [.objs, .dev, .ex, .lobes, .sorus, .com] s s' := by
  unfold execResyncDone at h
  refine finish_frame h ?_
  refine .ite ?_ ?_
  · refine .ite ?_ ?_
    · refine .step (fwStandby_frame _ _) (by decide) ?_
      refine .step (setRole_frame _ _ _) (by decide) ?_
      exact .refl _
    · refine .ite ?_ ?_
      · refine .step (setRole_frame _ _ _) (by decide) ?_
        refine .step (State.setLobe_frame _ _ _) (by decide) ?_
        exact .refl _
      · exact .refl _
  · exact .refl _

theorem execSwapDue_frame (s : State) (s' : State) (h : execSwapDue s = .next s') :
    Frame [.ex, .lobes] s s' := by
  unfold execSwapDue at h
  refine finish_frame h ?_
  refine .ite ?_ ?_
  · refine .set_lobes (by decide) ?_
    exact .refl _
  · exact .refl _

theorem effSwapNow_frame (s : State) : Frame1 [.lobes] s (effSwapNow s) := by
  unfold effSwapNow
  refine .ite ?_ ?_
  · refine .pair ?_
    exact .refl _
  · refine .pair ?_
    refine .set_lobes (by decide) ?_
    exact .refl _

theorem execSwapNow_frame (sess : Nat) (s : State) (s' : State) (h : execSwapNow sess s = .next s') :
    Frame [.objs, .ex, .lobes, .sorus, .lib] s s' := by
  unfold execSwapNow at h
  refine finish_frame h ?_
  refine hostWrite_frame (by decide) (fun _ => ?_) ?_ 
  · refine .step (effSwapNow_frame _) (by decide) ?_
    exact .refl _
  · exact .refl _

theorem fwSwapped_frame (s : State) (old : Nat) :
    Frame [.objs, .dev, .ex, .lobes, .time, .sorus, .com, .mat] s (fwSwapped s old) := by
  unfold fwSwapped
  conv => zeta
  split
  · refine .step (resetLobe_frame _ _ _) (by decide) ?_
    refine .set_dev (by decide) ?_
    exact .refl _
  · refine .ite ?_ ?_
    · refine .step (resetLobe_frame _ _ _) (by decide) ?_
      exact .refl _
    · exact .refl _
  · exact .refl _

theorem skipSwap_frame (s : State) (code : Nat) : Frame [.objs, .ex, .lobes, .sorus] s (skipSwap s code) := by
  unfold skipSwap
  refine .step (raiseA_frame _ _ _) (by decide) ?_
  refine .set_lobes (by decide) ?_
  exact .refl _

theorem execRoleSwapped_frame (s : State) (s' : State) (h : execRoleSwapped s = .next s') :
    Frame [.objs, .hbm, .dev, .ex, .lobes, .time, .sorus, .drv, .steady, .loops, .mon, .cal, .lib, .com, .mat] s s' := by
  unfold execRoleSwapped at h
  refine finish_frame h ?_
  conv => zeta
  split
  · refine .ite ?_ ?_
    · refine .ite ?_ ?_
      · refine .step (endRollBack_frame _) (by decide) ?_
        refine .step (fwSwapped_frame _ _) (by decide) ?_
        refine .ite ?_ ?_
        · refine .step (toOffline_frame _ _ _) (by decide) ?_
          refine .step (swapRoles_frame _ _) (by decide) ?_
          refine .set_lobes (by decide) ?_
          exact .refl _
        · refine .step (swapRoles_frame _ _) (by decide) ?_
          refine .set_lobes (by decide) ?_
          exact .refl _
      · refine .step (skipSwap_frame _ _) (by decide) ?_
        exact .refl _
    · exact .refl _
  · exact .refl _

theorem execSwapSkipped_frame (s : State) (s' : State) (h : execSwapSkipped s = .next s') :
    Frame [.objs, .ex, .lobes, .sorus] s s' := by
  unfold execSwapSkipped at h
  refine finish_frame h ?_
  refine .ite ?_ ?_
  · refine .step (skipSwap_frame _ _) (by decide) ?_
    exact .refl _
  · split
    · refine .ite ?_ ?_
      · refine .step (skipSwap_frame _ _) (by decide) ?_
        exact .refl _
      · exact .refl _
    · exact .refl _

theorem releaseLobe_frame (s : State) (l : Nat) :
    Frame [.objs, .dev, .ex, .lobes, .time, .sorus, .com, .mat] s (releaseLobe s l) := by
  unfold releaseLobe
  refine .ite ?_ ?_
  · refine .step (resetLobe_frame _ _ _) (by decide) ?_
    exact .refl _
  · exact .refl _

theorem execLobeDisPin_frame (l : Nat) (high : Bool) (s : State) (s' : State) (h : execLobeDisPin l high s = .next s') :
    Frame [.objs, .dev, .ex, .lobes, .time, .sorus, .com, .mat] s s' := by
  unfold execLobeDisPin at h
  refine finish_frame h ?_
  refine .ite ?_ ?_
  · refine .ite ?_ ?_
    · refine .step (releaseLobe_frame _ _) (by decide) ?_
      refine .step (State.setLobe_frame _ _ _) (by decide) ?_
      exact .refl _
    · refine .step (judgeRecovery_frame _) (by decide) ?_
      refine .step (toOffline_frame _ _ _) (by decide) ?_
      refine .step (State.setLobe_frame _ _ _) (by decide) ?_
      exact .refl _
  · exact .refl _

theorem effHoldOffline_frame (l : Nat) (v : Int) (s : State) :
    Frame1 [.objs, .dev, .ex, .lobes, .time, .sorus, .com, .mat] s (effHoldOffline l v s) := by
  unfold effHoldOffline
  refine .ite ?_ ?_
  · refine .pair ?_
    refine .step (releaseLobe_frame _ _) (by decide) ?_
    refine .step (State.setLobe_frame _ _ _) (by decide) ?_
    refine .step (State.setObj_frame _ _ _ _) (by decide) ?_
    exact .refl _
  · refine .ite ?_ ?_
    · refine .ite ?_ ?_
      · refine .pair ?_
        exact .refl _
      · refine .pair ?_
        refine .step (State.setLobe_frame _ _ _) (by decide) ?_
        refine .step (State.setObj_frame _ _ _ _) (by decide) ?_
        exact .refl _
    · refine .pair ?_
      refine .step (toOffline_frame _ _ _) (by decide) ?_
      refine .step (State.setObj_frame _ _ _ _) (by decide) ?_
      exact .refl _

theorem execLobeHoldOffline_frame (sess : Nat) (l : Nat) (v : Int) (s : State) (s' : State) (h : execLobeHoldOffline sess l v s = .next s') :
    Frame [.objs, .dev, .ex, .lobes, .time, .sorus, .lib, .com, .mat] s s' := by
  unfold execLobeHoldOffline at h
  refine finish_frame h ?_
  refine hostWrite_frame (by decide) (fun _ => ?_) ?_ 
  · refine .step (effHoldOffline_frame _ _ _) (by decide) ?_
    exact .refl _
  · exact .refl _

theorem State.setBuf_frame (s : State) (b : Nat) (x : CapBuf) : Frame [.sorus] s (State.setBuf s b x) := by
  unfold State.setBuf
  refine .set_sorus (by decide) ?_
  exact .refl _

theorem takeCap_frame (s : State) (b : Nat) : Frame [.objs, .octs, .staged, .stagedOcts] s (takeCap s b) := by
  unfold takeCap
  refine .foldl (fun _ _ => ?_) ?_
  · refine .step (State.applyStagedAt_frame _ _ _) (by decide) ?_
    refine .step (State.applyStagedAt_frame _ _ _) (by decide) ?_
    exact .refl _
  · refine .foldl (fun _ _ => ?_) ?_
    · refine .step (State.applyStagedAt_frame _ _ _) (by decide) ?_
      exact .refl _
    · exact .refl _

theorem closeSegment_frame (s : State) (b : Nat) (g : Segment) (ended : Bool) :
    Frame [.objs, .ex, .sorus] s (closeSegment s b g ended) := by
  unfold closeSegment
  refine .ite ?_ ?_
  · refine .step (raiseS_frame _ _ _) (by decide) ?_
    refine .ite ?_ ?_
    · refine .step (raiseS_frame _ _ _) (by decide) ?_
      refine .ite ?_ ?_
      · refine .step (raiseS_frame _ _ _) (by decide) ?_
        refine .step (State.setObjN_frame _ _ _ _) (by decide) ?_
        refine .step (State.setBuf_frame _ _ _) (by decide) ?_
        exact .refl _
      · refine .step (State.setObjN_frame _ _ _ _) (by decide) ?_
        refine .step (State.setBuf_frame _ _ _) (by decide) ?_
        exact .refl _
    · refine .ite ?_ ?_
      · refine .step (raiseS_frame _ _ _) (by decide) ?_
        refine .step (State.setObjN_frame _ _ _ _) (by decide) ?_
        refine .step (State.setBuf_frame _ _ _) (by decide) ?_
        exact .refl _
      · refine .step (State.setObjN_frame _ _ _ _) (by decide) ?_
        refine .step (State.setBuf_frame _ _ _) (by decide) ?_
        exact .refl _
  · refine .ite ?_ ?_
    · refine .step (raiseS_frame _ _ _) (by decide) ?_
      refine .ite ?_ ?_
      · refine .step (raiseS_frame _ _ _) (by decide) ?_
        refine .step (State.setObjN_frame _ _ _ _) (by decide) ?_
        refine .step (State.setBuf_frame _ _ _) (by decide) ?_
        exact .refl _
      · refine .step (State.setObjN_frame _ _ _ _) (by decide) ?_
        refine .step (State.setBuf_frame _ _ _) (by decide) ?_
        exact .refl _
    · refine .ite ?_ ?_
      · refine .step (raiseS_frame _ _ _) (by decide) ?_
        refine .step (State.setObjN_frame _ _ _ _) (by decide) ?_
        refine .step (State.setBuf_frame _ _ _) (by decide) ?_
        exact .refl _
      · refine .step (State.setObjN_frame _ _ _ _) (by decide) ?_
        refine .step (State.setBuf_frame _ _ _) (by decide) ?_
        exact .refl _

theorem startNext_frame (s : State) (b : Nat) (y : CapBuf) (take : Bool) :
    Frame [.objs, .octs, .staged, .stagedOcts, .funcs, .sorus] s (startNext s b y take) := by
  unfold startNext
  refine .step (State.setBuf_frame _ _ _) (by decide) ?_
  refine .ite ?_ ?_
  · refine .step (takeCap_frame _ _) (by decide) ?_
    refine .step (atModeBoundary_frame _ _) (by decide) ?_
    exact .refl _
  · refine .step (atModeBoundary_frame _ _) (by decide) ?_
    exact .refl _

theorem rearm_frame (s : State) (b : Nat) : Frame [.objs, .octs, .staged, .stagedOcts, .ex, .funcs, .sorus] s (rearm s b) := by
  unfold rearm
  refine .ite ?_ ?_
  · refine .step (startNext_frame _ _ _ _) (by decide) ?_
    exact .refl _
  · refine .ite ?_ ?_
    · exact .refl _
    · refine .step (raiseS_frame _ _ _) (by decide) ?_
      refine .step (State.setBuf_frame _ _ _) (by decide) ?_
      exact .refl _

theorem closeIfFull_frame (s : State) (b : Nat) : Frame [.objs, .ex, .sorus] s (closeIfFull s b) := by
  unfold closeIfFull
  conv => zeta
  split
  · refine .ite ?_ ?_
    · refine .step (closeSegment_frame _ _ _ _) (by decide) ?_
      exact .refl _
    · exact .refl _
  · exact .refl _

theorem trigger_frame (s : State) (b : Nat) (g : Segment) (t : Int) : Frame [.objs, .ex, .sorus] s (trigger s b g t) := by
  unfold trigger
  refine .step (closeIfFull_frame _ _) (by decide) ?_
  refine .ite ?_ ?_
  · refine .step (trigSource_frame _ _) (by decide) ?_
    refine .step (trigSource_frame _ _) (by decide) ?_
    refine .set_sorus (by decide) ?_
    refine .step (State.setBuf_frame _ _ _) (by decide) ?_
    exact .refl _
  · refine .step (trigSource_frame _ _) (by decide) ?_
    refine .set_sorus (by decide) ?_
    refine .step (State.setBuf_frame _ _ _) (by decide) ?_
    exact .refl _

theorem postFrame_frame (s : State) (b : Nat) (g : Segment) (f : CapFrame) (cand : Bool) :
    Frame [.objs, .ex, .sorus] s (postFrame s b g f cand) := by
  unfold postFrame
  refine .step (closeIfFull_frame _ _) (by decide) ?_
  refine .ite ?_ ?_
  · refine .step (trigSource_frame _ _) (by decide) ?_
    refine .step (State.setBuf_frame _ _ _) (by decide) ?_
    exact .refl _
  · refine .step (State.setBuf_frame _ _ _) (by decide) ?_
    exact .refl _

theorem preFrame_frame (s : State) (b : Nat) (c : Cond) (vs : List (Option Int)) (fresh : Nat) (f : CapFrame) (cand : Bool) (force : Bool) :
    Frame [.objs, .ex, .sorus] s (preFrame s b c vs fresh f cand force) := by
  unfold preFrame
  refine .ite ?_ ?_
  · refine .step (trigger_frame _ _ _ _) (by decide) ?_
    exact .refl _
  · refine .step (State.setBuf_frame _ _ _) (by decide) ?_
    refine .ite ?_ ?_
    · refine .step (State.incSat_frame _ _ _ _) (by decide) ?_
      exact .refl _
    · exact .refl _

theorem noteFrame_frame (s : State) (b : Nat) (c : Cond) (vs : List (Option Int)) (words : List Nat) (t : Int) :
    Frame [.sorus] s (noteFrame s b c vs words t) := by
  unfold noteFrame
  refine .step (State.setBuf_frame _ _ _) (by decide) ?_
  exact .refl _

theorem openFrame_frame (s : State) (b : Nat) : Frame [.sorus] s (openFrame s b) := by
  unfold openFrame
  refine .step (State.setBuf_frame _ _ _) (by decide) ?_
  exact .refl _

theorem closeFrame_frame (s : State) (b : Nat) (i : CapInstant) : Frame [.objs, .ex, .sorus] s (closeFrame s b i) := by
  unfold closeFrame
  refine .step (noteFrame_frame _ _ _ _ _ _) (by decide) ?_
  conv => zeta
  split
  · refine .step (preFrame_frame _ _ _ _ _ _ _ _) (by decide) ?_
    exact .refl _
  · refine .step (preFrame_frame _ _ _ _ _ _ _ _) (by decide) ?_
    exact .refl _
  · split
    · refine .step (postFrame_frame _ _ _ _ _) (by decide) ?_
      exact .refl _
    · exact .refl _
  · refine .step (State.setBuf_frame _ _ _) (by decide) ?_
    refine .ite ?_ ?_
    · refine .step (State.incSat_frame _ _ _ _) (by decide) ?_
      exact .refl _
    · exact .refl _
  · exact .refl _

theorem closeNext_frame (s : State) (b : Nat) (all : Bool) : Frame [.objs, .ex, .sorus] s (closeNext s b all) := by
  unfold closeNext
  conv => zeta
  split
  · exact .refl _
  · refine .ite ?_ ?_
    · refine .step (closeFrame_frame _ _ _) (by decide) ?_
      refine .step (State.setBuf_frame _ _ _) (by decide) ?_
      exact .refl _
    · exact .refl _

theorem closeFrames_frame (s : State) (b : Nat) (all : Bool) : Frame [.objs, .ex, .sorus] s (closeFrames s b all) := by
  unfold closeFrames
  refine .foldl (fun _ _ => ?_) ?_
  · refine .step (closeNext_frame _ _ _) (by decide) ?_
    exact .refl _
  · exact .refl _

theorem closeBuffers_frame (s : State) : Frame [.objs, .ex, .sorus] s (closeBuffers s) := by
  unfold closeBuffers
  refine .foldl (fun _ _ => ?_) ?_
  · refine .step (closeFrames_frame _ _ _) (by decide) ?_
    exact .refl _
  · exact .refl _

theorem endCapture_frame (s : State) (b : Nat) : Frame [.objs, .ex, .sorus] s (endCapture s b) := by
  unfold endCapture
  conv => zeta
  split
  · refine .step (closeSegment_frame _ _ _ _) (by decide) ?_
    refine .step (State.setBuf_frame _ _ _) (by decide) ?_
    exact .refl _
  · refine .step (State.setBuf_frame _ _ _) (by decide) ?_
    exact .refl _

theorem effCapArm_frame (b : Nat) (s : State) :
    Frame1 [.objs, .octs, .staged, .stagedOcts, .funcs, .sorus] s (effCapArm b s) := by
  unfold effCapArm
  refine .ite ?_ ?_
  · refine .pair ?_
    exact .refl _
  · conv => zeta
    split
    · refine .pair ?_
      exact .refl _
    · refine .pair ?_
      refine .step (State.setBuf_frame _ _ _) (by decide) ?_
      refine .step (takeCap_frame _ _) (by decide) ?_
      refine .step (atModeBoundary_frame _ _) (by decide) ?_
      exact .refl _

theorem execCapArm_frame (sess : Nat) (b : Nat) (s : State) (s' : State) (h : execCapArm sess b s = .next s') :
    Frame [.objs, .octs, .staged, .stagedOcts, .ex, .funcs, .sorus, .lib] s s' := by
  unfold execCapArm at h
  refine finish_frame h ?_
  refine hostWrite_frame (by decide) (fun _ => ?_) ?_ 
  · refine .step (effCapArm_frame _ _) (by decide) ?_
    exact .refl _
  · exact .refl _

theorem effCapEnd_frame (b : Nat) (s : State) : Frame1 [.sorus] s (effCapEnd b s) := by
  unfold effCapEnd
  refine .pair ?_
  refine .step (State.setBuf_frame _ _ _) (by decide) ?_
  exact .refl _

theorem execCapEnd_frame (sess : Nat) (b : Nat) (s : State) (s' : State) (h : execCapEnd sess b s = .next s') :
    Frame [.objs, .ex, .sorus, .lib] s s' := by
  unfold execCapEnd at h
  refine finish_frame h ?_
  refine hostWrite_frame (by decide) (fun _ => ?_) ?_ 
  · refine .step (effCapEnd_frame _ _) (by decide) ?_
    exact .refl _
  · exact .refl _

theorem effCapForce_frame (b : Nat) (s : State) : Frame1 [.sorus] s (effCapForce b s) := by
  unfold effCapForce
  conv => zeta
  split
  · refine .pair ?_
    exact .refl _
  · refine .pair ?_
    exact .refl _
  · refine .pair ?_
    exact .refl _
  · refine .pair ?_
    exact .refl _
  · refine .pair ?_
    exact .refl _
  · refine .ite ?_ ?_
    · refine .pair ?_
      exact .refl _
    · refine .pair ?_
      refine .step (State.setBuf_frame _ _ _) (by decide) ?_
      exact .refl _
  · refine .pair ?_
    refine .step (State.setBuf_frame _ _ _) (by decide) ?_
    exact .refl _

theorem execCapForce_frame (sess : Nat) (b : Nat) (s : State) (s' : State) (h : execCapForce sess b s = .next s') :
    Frame [.objs, .ex, .sorus, .lib] s s' := by
  unfold execCapForce at h
  refine finish_frame h ?_
  refine hostWrite_frame (by decide) (fun _ => ?_) ?_ 
  · refine .step (effCapForce_frame _ _) (by decide) ?_
    exact .refl _
  · exact .refl _

theorem captureFrame_frame (s : State) (b : Nat) : Frame [.objs, .ex, .sorus] s (captureFrame s b) := by
  unfold captureFrame
  refine .ite ?_ ?_
  · refine .step (endCapture_frame _ _) (by decide) ?_
    refine .step (closeFrames_frame _ _ _) (by decide) ?_
    exact .refl _
  · refine .ite ?_ ?_
    · refine .step (openFrame_frame _ _) (by decide) ?_
      refine .step (State.setBuf_frame _ _ _) (by decide) ?_
      exact .refl _
    · refine .ite ?_ ?_
      · refine .step (openFrame_frame _ _) (by decide) ?_
        exact .refl _
      · exact .refl _

theorem execCaptureFrame_frame (b : Nat) (s : State) (s' : State) (h : execCaptureFrame b s = .next s') :
    Frame [.objs, .ex, .sorus] s s' := by
  unfold execCaptureFrame at h
  refine finish_frame h ?_
  refine .ite ?_ ?_
  · refine .step (closeFrames_frame _ _ _) (by decide) ?_
    refine .ite ?_ ?_
    · refine .step (captureFrame_frame _ _) (by decide) ?_
      exact .refl _
    · exact .refl _
  · exact .refl _

theorem execCapAutoTrigger_frame (b : Nat) (s : State) (s' : State) (h : execCapAutoTrigger b s = .next s') :
    Frame [.ex, .sorus] s s' := by
  unfold execCapAutoTrigger at h
  refine finish_frame h ?_
  refine .ite ?_ ?_
  · refine .step (State.setBuf_frame _ _ _) (by decide) ?_
    exact .refl _
  · exact .refl _

theorem execRearmEnd_frame (b : Nat) (s : State) (s' : State) (h : execRearmEnd b s = .next s') :
    Frame [.objs, .octs, .staged, .stagedOcts, .ex, .funcs, .sorus] s s' := by
  unfold execRearmEnd at h
  refine finish_frame h ?_
  refine .ite ?_ ?_
  · refine .step (rearm_frame _ _) (by decide) ?_
    exact .refl _
  · exact .refl _

theorem effCapRelease_frame (b : Nat) (seq : Int) (s : State) : Frame1 [.objs, .sorus] s (effCapRelease b seq s) := by
  unfold effCapRelease
  refine .ite ?_ ?_
  · refine .pair ?_
    refine .step (State.setObj_frame _ _ _ _) (by decide) ?_
    refine .step (State.setBuf_frame _ _ _) (by decide) ?_
    exact .refl _
  · refine .pair ?_
    exact .refl _

theorem execCapRelease_frame (sess : Nat) (b : Nat) (seq : Int) (s : State) (s' : State) (h : execCapRelease sess b seq s = .next s') :
    Frame [.objs, .ex, .sorus, .lib] s s' := by
  unfold execCapRelease at h
  refine finish_frame h ?_
  refine hostWrite_frame (by decide) (fun _ => ?_) ?_ 
  · refine .step (effCapRelease_frame _ _ _) (by decide) ?_
    exact .refl _
  · exact .refl _

theorem execFallbackCapture_frame (s : State) (s' : State) (h : execFallbackCapture s = .next s') :
    Frame [.objs, .octs, .staged, .stagedOcts, .ex, .funcs, .sorus] s s' := by
  unfold execFallbackCapture at h
  refine finish_frame h ?_
  refine .ite ?_ ?_
  · refine .foldl (fun _ _ => ?_) ?_
    · refine .step (rearm_frame _ _) (by decide) ?_
      exact .refl _
    · refine .set_sorus (by decide) ?_
      refine .step (fallback_frame _ _) (by decide) ?_
      exact .refl _
  · exact .refl _

theorem execSampleDelivery_frame (cv : Nat) (pair : Nat) (codeA : Nat) (overA : Bool) (hintA : Nat) (codeB : Nat) (overB : Bool) (hintB : Nat) (s : State) (s' : State) (h : execSampleDelivery cv pair codeA overA hintA codeB overB hintB s = .next s') :
    Frame [.objs, .dev, .ex, .lobes, .sorus, .drv, .steady, .loops, .mon, .cal] s s' := by
  unfold execSampleDelivery at h
  refine finish_frame h ?_
  refine .ite ?_ ?_
  · refine .step (closeBuffers_frame _) (by decide) ?_
    refine .step (calLight_frame _ _ _) (by decide) ?_
    refine .step (calRecord_frame _ _ _) (by decide) ?_
    refine .step (deliverPair_frame _ _ _) (by decide) ?_
    refine .step (deliverOne_frame _ _ _ _ _ _) (by decide) ?_
    refine .step (deliverOne_frame _ _ _ _ _ _) (by decide) ?_
    refine .step (closeBuffers_frame _) (by decide) ?_
    exact .refl _
  · exact .refl _

theorem execTrigInEdge_frame (x : Nat) (s : State) (s' : State) (h : execTrigInEdge x s = .next s') :
    Frame [.objs, .ex, .sorus] s s' := by
  unfold execTrigInEdge at h
  refine finish_frame h ?_
  refine .ite ?_ ?_
  · refine .step (State.capNote_frame _ _) (by decide) ?_
    refine .step (State.incWrap_frame _ _ _) (by decide) ?_
    refine .set_sorus (by decide) ?_
    exact .refl _
  · exact .refl _

theorem execTrigOutPulseEnd_frame (x : Nat) (s : State) (s' : State) (h : execTrigOutPulseEnd x s = .next s') :
    Frame [.ex, .sorus] s s' := by
  unfold execTrigOutPulseEnd at h
  refine finish_frame h ?_
  conv => zeta
  split
  · refine .ite ?_ ?_
    · refine .set_sorus (by decide) ?_
      exact .refl _
    · exact .refl _
  · exact .refl _

theorem effRingLength_frame (r : Nat) (v : Int) (s : State) : Frame1 [.objs, .sorus] s (effRingLength r v s) := by
  unfold effRingLength
  refine .ite ?_ ?_
  · refine .pair ?_
    exact .refl _
  · refine .pair ?_
    refine .step (State.setRing_frame _ _ _) (by decide) ?_
    refine .step (State.setObj_frame _ _ _ _) (by decide) ?_
    exact .refl _

theorem execRingLength_frame (sess : Nat) (r : Nat) (v : Int) (s : State) (s' : State) (h : execRingLength sess r v s = .next s') :
    Frame [.objs, .ex, .sorus, .lib] s s' := by
  unfold execRingLength at h
  refine finish_frame h ?_
  refine hostWrite_frame (by decide) (fun _ => ?_) ?_ 
  · refine .step (effRingLength_frame _ _ _) (by decide) ?_
    exact .refl _
  · exact .refl _

theorem effRingRp_frame (r : Nat) (v : Int) (s : State) : Frame1 [.sorus] s (effRingRp r v s) := by
  unfold effRingRp
  refine .ite ?_ ?_
  · refine .pair ?_
    refine .step (State.setRing_frame _ _ _) (by decide) ?_
    exact .refl _
  · refine .ite ?_ ?_
    · refine .pair ?_
      refine .step (State.setRing_frame _ _ _) (by decide) ?_
      exact .refl _
    · refine .pair ?_
      exact .refl _

theorem execRingRp_frame (sess : Nat) (r : Nat) (v : Int) (s : State) (s' : State) (h : execRingRp sess r v s = .next s') :
    Frame [.objs, .ex, .sorus, .lib] s s' := by
  unfold execRingRp at h
  refine finish_frame h ?_
  refine hostWrite_frame (by decide) (fun _ => ?_) ?_ 
  · refine .step (effRingRp_frame _ _ _) (by decide) ?_
    exact .refl _
  · exact .refl _

theorem effRingEnable_frame (r : Nat) (v : Int) (s : State) : Frame1 [.objs] s (effRingEnable r v s) := by
  unfold effRingEnable
  refine .ite ?_ ?_
  · refine .pair ?_
    exact .refl _
  · refine .ite ?_ ?_
    · refine .pair ?_
      exact .refl _
    · refine .pair ?_
      refine .step (State.setObj_frame _ _ _ _) (by decide) ?_
      exact .refl _

theorem effRingChannels_frame (r : Nat) (b : List Byte) (s : State) : Frame1 [.octs] s (effRingChannels r b s) := by
  unfold effRingChannels
  refine .ite ?_ ?_
  · refine .pair ?_
    exact .refl _
  · refine .ite ?_ ?_
    · refine .pair ?_
      refine .step (State.setOct_frame _ _ _ _) (by decide) ?_
      exact .refl _
    · refine .pair ?_
      exact .refl _

theorem ringScan_frame (s : State) (r : Nat) : Frame [.objs, .ex, .sorus] s (ringScan s r) := by
  unfold ringScan
  refine .ite ?_ ?_
  · conv => zeta
    split
    · refine .ite ?_ ?_
      · split
        refine .step (raiseS_frame _ _ _) (by decide) ?_
        refine .fst (by assumption) ?_
        refine .step (ringPut_frame _ _ _ _ _ _) (by decide) ?_
        refine .step (State.setRing_frame _ _ _) (by decide) ?_
        exact .refl _
      · refine .step (State.setRing_frame _ _ _) (by decide) ?_
        exact .refl _
    · refine .step (State.setRing_frame _ _ _) (by decide) ?_
      exact .refl _
  · refine .ite ?_ ?_
    · refine .step (State.setRing_frame _ _ _) (by decide) ?_
      conv => zeta
      split
      · refine .ite ?_ ?_
        · split
          refine .step (raiseS_frame _ _ _) (by decide) ?_
          refine .fst (by assumption) ?_
          refine .step (ringPut_frame _ _ _ _ _ _) (by decide) ?_
          refine .step (State.setRing_frame _ _ _) (by decide) ?_
          exact .refl _
        · refine .step (State.setRing_frame _ _ _) (by decide) ?_
          exact .refl _
      · refine .step (State.setRing_frame _ _ _) (by decide) ?_
        exact .refl _
    · conv => zeta
      split
      refine .ite ?_ ?_
      · refine .step (ringOverflow_frame _ _) (by decide) ?_
        refine .fst (by assumption) ?_
        refine .step (ringPut_frame _ _ _ _ _ _) (by decide) ?_
        refine .step (State.setRing_frame _ _ _) (by decide) ?_
        split
        · refine .ite ?_ ?_
          · split
            refine .step (raiseS_frame _ _ _) (by decide) ?_
            refine .fst (by assumption) ?_
            refine .step (ringPut_frame _ _ _ _ _ _) (by decide) ?_
            refine .step (State.setRing_frame _ _ _) (by decide) ?_
            exact .refl _
          · refine .step (State.setRing_frame _ _ _) (by decide) ?_
            exact .refl _
        · refine .step (State.setRing_frame _ _ _) (by decide) ?_
          exact .refl _
      · refine .fst (by assumption) ?_
        refine .step (ringPut_frame _ _ _ _ _ _) (by decide) ?_
        refine .step (State.setRing_frame _ _ _) (by decide) ?_
        split
        · refine .ite ?_ ?_
          · split
            refine .step (raiseS_frame _ _ _) (by decide) ?_
            refine .fst (by assumption) ?_
            refine .step (ringPut_frame _ _ _ _ _ _) (by decide) ?_
            refine .step (State.setRing_frame _ _ _) (by decide) ?_
            exact .refl _
          · refine .step (State.setRing_frame _ _ _) (by decide) ?_
            exact .refl _
        · refine .step (State.setRing_frame _ _ _) (by decide) ?_
          exact .refl _

theorem ringsScan_frame (s : State) : Frame [.objs, .ex, .sorus] s (ringsScan s) := by
  unfold ringsScan
  refine .foldl (fun _ _ => ?_) ?_
  · refine .step (ringScan_frame _ _) (by decide) ?_
    exact .refl _
  · exact .refl _

theorem State.setGroupWin_frame (s : State) (w : GroupWin) : Frame [.ex] s (State.setGroupWin s w) := by
  unfold State.setGroupWin
  refine .set_ex (by decide) ?_
  exact .refl _

theorem answerMalformed_frame (s : State) (sess : Nat) (p : List Byte) :
    Frame [.objs, .ex, .sorus, .lib] s (answerMalformed s sess p) := by
  unfold answerMalformed
  refine .ite ?_ ?_
  · exact .refl _
  · refine .ite ?_ ?_
    · refine request_frame (by decide) (fun _ _ => ?_) ?_ 
      · refine .step (answerCommit_frame _ _ _ _) (by decide) ?_
        exact .refl _
      · exact .refl _
    · refine .ite ?_ ?_
      · refine .step (answerCommit_frame _ _ _ _) (by decide) ?_
        exact .refl _
      · refine request_frame (by decide) (fun _ _ => ?_) ?_ 
        · refine .step (answer_frame _ _ _ _ _ _) (by decide) ?_
          exact .refl _
        · exact .refl _

theorem receiveSession_frame (s : State) (f : RxFrame) (p : List Byte) (i : Nat) (x : Session) :
    Frame [.objs, .ex, .sorus, .lib, .net] s (receiveSession s f p i x) := by
  unfold receiveSession
  refine .ite ?_ ?_
  · refine .step (rejectFrame_frame _ _ _) (by decide) ?_
    exact .refl _
  · refine .ite ?_ ?_
    · refine .step (rejectFrame_frame _ _ _) (by decide) ?_
      exact .refl _
    · refine .ite ?_ ?_
      · refine .step (rejectFrame_frame _ _ _) (by decide) ?_
        exact .refl _
      · conv => zeta
        split
        refine .ite ?_ ?_
        · refine .step (closeSession_frame _ _ _) (by decide) ?_
          refine .step (answerMalformed_frame _ _ _) (by decide) ?_
          refine .set_net (by decide) ?_
          refine .step (State.setSession_frame _ _ _) (by decide) ?_
          exact .refl _
        · refine .step (answerMalformed_frame _ _ _) (by decide) ?_
          refine .set_net (by decide) ?_
          refine .step (State.setSession_frame _ _ _) (by decide) ?_
          exact .refl _

theorem receiveGroup_frame (s : State) (f : RxFrame) (p : List Byte) :
    Frame [.objs, .ex, .sorus, .lib, .net] s (receiveGroup s f p) := by
  unfold receiveGroup
  refine .ite ?_ ?_
  · refine .step (rejectFrame_frame _ _ _) (by decide) ?_
    exact .refl _
  · refine .ite ?_ ?_
    · refine .step (rejectFrame_frame _ _ _) (by decide) ?_
      exact .refl _
    · refine .ite ?_ ?_
      · refine .step (rejectFrame_frame _ _ _) (by decide) ?_
        exact .refl _
      · conv => zeta
        split
        refine .step (answerMalformed_frame _ _ _) (by decide) ?_
        refine .set_net (by decide) ?_
        refine .step (State.setGroupWin_frame _ _) (by decide) ?_
        exact .refl _

theorem openAnswer_frame (s : State) (c : Caller) (sess : Nat) (key : List Byte) (req : Nat) (reply : Reply) :
    Frame [.ex] s (openAnswer s c sess key req reply) := by
  unfold openAnswer
  conv => zeta
  split
  refine .step (sendTo_frame _ _ _ _) (by decide) ?_
  refine .set_ex (by decide) ?_
  exact .refl _

theorem receiveOpen_frame (s : State) (f : RxFrame) (p : List Byte) : Frame [.objs, .ex, .sorus, .net] s (receiveOpen s f p) := by
  unfold receiveOpen
  refine .ite ?_ ?_
  · refine .step (rejectFrame_frame _ _ _) (by decide) ?_
    exact .refl _
  · refine .ite ?_ ?_
    · refine .step (rejectFrame_frame _ _ _) (by decide) ?_
      exact .refl _
    · refine .ite ?_ ?_
      · refine .set_net (by decide) ?_
        exact .refl _
      · refine .step (openAnswer_frame _ _ _ _ _ _) (by decide) ?_
        refine .set_net (by decide) ?_
        exact .refl _

theorem exvanReceive_frame (s : State) (f : RxFrame) : Frame [.objs, .ex, .sorus, .lib, .net] s (exvanReceive s f) := by
  unfold exvanReceive
  refine .ite ?_ ?_
  · refine .step (rejectFrame_frame _ _ _) (by decide) ?_
    exact .refl _
  · refine .ite ?_ ?_
    · refine .step (rejectFrame_frame _ _ _) (by decide) ?_
      exact .refl _
    · refine .ite ?_ ?_
      · refine .ite ?_ ?_
        · refine .step (receiveOpen_frame _ _ _) (by decide) ?_
          exact .refl _
        · refine .step (rejectFrame_frame _ _ _) (by decide) ?_
          exact .refl _
      · refine .ite ?_ ?_
        · refine .ite ?_ ?_
          · refine .step (receiveGroup_frame _ _ _) (by decide) ?_
            exact .refl _
          · refine .step (rejectFrame_frame _ _ _) (by decide) ?_
            exact .refl _
        · split
          · refine .ite ?_ ?_
            · refine .step (receiveSession_frame _ _ _ _ _) (by decide) ?_
              exact .refl _
            · refine .step (rejectFrame_frame _ _ _) (by decide) ?_
              exact .refl _
          · refine .step (rejectFrame_frame _ _ _) (by decide) ?_
            exact .refl _

theorem sendOwn_frame (s : State) (a : Nat) (f : List Byte) : Frame [.net] s (sendOwn s a f) := by
  unfold sendOwn
  refine .ite ?_ ?_
  · exact .refl _
  · refine .set_net (by decide) ?_
    exact .refl _

theorem sendReports_frame (s : State) (a : Nat) (kind : Nat) (groups : List (List Byte)) :
    Frame [.net] s (sendReports s a kind groups) := by
  unfold sendReports
  refine .step (sendOwn_frame _ _ _) (by decide) ?_
  refine .step (sendOwn_frame _ _ _) (by decide) ?_
  exact .refl _

theorem announceSet_frame (s : State) (a : Nat) : Frame [.net] s (announceSet s a) := by
  unfold announceSet
  refine .step (sendReports_frame _ _ _ _) (by decide) ?_
  refine .foldl (fun _ _ => ?_) ?_
  · refine .step (sendOwn_frame _ _ _) (by decide) ?_
    exact .refl _
  · refine .step (sendOwn_frame _ _ _) (by decide) ?_
    exact .refl _

theorem announceAll_frame (s : State) : Frame [.net] s (announceAll s) := by
  unfold announceAll
  refine .set_net (by decide) ?_
  refine .foldl (fun _ _ => ?_) ?_
  · refine .step (announceSet_frame _ _) (by decide) ?_
    exact .refl _
  · exact .refl _

theorem announceNow_frame (s : State) : Frame [.net] s (announceNow s) := by
  unfold announceNow
  refine .set_net (by decide) ?_
  refine .step (announceAll_frame _) (by decide) ?_
  exact .refl _

theorem learn_frame (s : State) (a : Nat) (addr : List Byte) (mac : List Byte) : Frame [.net] s (learn s a addr mac) := by
  unfold learn
  refine .set_net (by decide) ?_
  exact .refl _

theorem heedAdvert_frame (s : State) (a : Nat) (h : Headers) (m : List Byte) (src : List Byte) (asker : List Byte) :
    Frame [.net] s (heedAdvert s a h m src asker) := by
  unfold heedAdvert
  refine .ite ?_ ?_
  · exact .refl _
  · refine .ite ?_ ?_
    · refine .step (learn_frame _ _ _ _) (by decide) ?_
      exact .refl _
    · refine .ite ?_ ?_
      · refine .step (learn_frame _ _ _ _) (by decide) ?_
        refine .set_net (by decide) ?_
        exact .refl _
      · exact .refl _

theorem answerFrame_frame (s : State) (f : RxFrame) : Frame [.net] s (answerFrame s f) := by
  unfold answerFrame
  conv => zeta
  split
  refine .ite ?_ ?_
  · refine .ite ?_ ?_
    · refine .step (learn_frame _ _ _ _) (by decide) ?_
      exact .refl _
    · refine .step (sendOwn_frame _ _ _) (by decide) ?_
      exact .refl _
  · refine .ite ?_ ?_
    · refine .step (sendOwn_frame _ _ _) (by decide) ?_
      exact .refl _
    · refine .ite ?_ ?_
      · refine .ite ?_ ?_
        · refine .set_net (by decide) ?_
          exact .refl _
        · refine .step (sendOwn_frame _ _ _) (by decide) ?_
          exact .refl _
      · refine .ite ?_ ?_
        · refine .ite ?_ ?_
          · refine .step (sendOwn_frame _ _ _) (by decide) ?_
            exact .refl _
          · exact .refl _
        · refine .ite ?_ ?_
          · refine .ite ?_ ?_
            · refine .set_net (by decide) ?_
              exact .refl _
            · refine .ite ?_ ?_
              · refine .step (sendOwn_frame _ _ _) (by decide) ?_
                exact .refl _
              · refine .step (sendOwn_frame _ _ _) (by decide) ?_
                refine .step (heedAdvert_frame _ _ _ _ _ _) (by decide) ?_
                exact .refl _
          · exact .refl _

theorem toPtp_frame (s : State) (f : RxFrame) : Frame [.net] s (toPtp s f) := by
  unfold toPtp
  refine .set_net (by decide) ?_
  exact .refl _

theorem slowEvent_frame (s : State) (r : Nat) : Frame [.objs, .ex, .sorus, .net] s (slowEvent s r) := by
  unfold slowEvent
  refine .ite ?_ ?_
  · refine .step (raiseS_frame _ _ _) (by decide) ?_
    refine .set_net (by decide) ?_
    exact .refl _
  · exact .refl _

theorem effSlowPolicer_frame (addr : Nat) (r : Nat) (v : Int) (s : State) :
    Frame1 [.objs, .net] s (effSlowPolicer addr r v s) := by
  unfold effSlowPolicer
  refine .pair ?_
  refine .step (State.setObj_frame _ _ _ _) (by decide) ?_
  refine .set_net (by decide) ?_
  exact .refl _

theorem takeSlow_frame (s : State) (e : Nat × Nat × RxFrame) : Frame [.objs, .net] s (takeSlow s e) := by
  unfold takeSlow
  refine .ite ?_ ?_
  · refine .step (answerFrame_frame _ _) (by decide) ?_
    refine .step (State.inc64_frame _ _ _ _) (by decide) ?_
    exact .refl _
  · refine .step (State.inc64_frame _ _ _ _) (by decide) ?_
    exact .refl _

theorem serveClass_frame (exvan : SMap (List RxFrame)) (slow : List (Nat × Nat × RxFrame)) (s : State) (c : Nat) :
    Frame [.objs, .ex, .sorus, .lib, .net] s (serveClass exvan slow s c) := by
  unfold serveClass
  refine .foldl (fun _ _ => ?_) ?_
  · refine .step (takeSlow_frame _ _) (by decide) ?_
    exact .refl _
  · refine .foldl (fun _ _ => ?_) ?_
    · refine .step (exvanReceive_frame _ _) (by decide) ?_
      exact .refl _
    · exact .refl _

theorem serveClasses_frame (s : State) : Frame [.objs, .ex, .sorus, .lib, .net] s (serveClasses s) := by
  unfold serveClasses
  conv => zeta
  split
  · exact .refl _
  · refine .foldl (fun _ _ => ?_) ?_
    · refine .step (serveClass_frame _ _ _ _) (by decide) ?_
      exact .refl _
    · refine .set_net (by decide) ?_
      exact .refl _

theorem toExvan_frame (s : State) (f : RxFrame) (cls : Nat) : Frame [.objs, .ex, .sorus, .lib, .net] s (toExvan s f cls) := by
  unfold toExvan
  refine .ite ?_ ?_
  · refine .step (serveClasses_frame _) (by decide) ?_
    refine .set_net (by decide) ?_
    exact .refl _
  · refine .step (State.inc64_frame _ _ _ _) (by decide) ?_
    exact .refl _

theorem toSlow_frame (s : State) (r : Nat) (why : Nat) (f : RxFrame) :
    Frame [.objs, .ex, .sorus, .lib, .net] s (toSlow s r why f) := by
  unfold toSlow
  refine .ite ?_ ?_
  · refine .step (slowEvent_frame _ _) (by decide) ?_
    refine .step (State.inc64_frame _ _ _ _) (by decide) ?_
    refine .set_net (by decide) ?_
    exact .refl _
  · refine .ite ?_ ?_
    · refine .step (serveClasses_frame _) (by decide) ?_
      refine .set_net (by decide) ?_
      refine .set_net (by decide) ?_
      exact .refl _
    · refine .step (slowEvent_frame _ _) (by decide) ?_
      refine .step (State.inc64_frame _ _ _ _) (by decide) ?_
      refine .set_net (by decide) ?_
      exact .refl _

theorem police_frame (s : State) (p : Nat) (len : Nat) : Frame1 [.objs, .ex, .sorus, .net] s (police s p len) := by
  unfold police
  refine .ite ?_ ?_
  · refine .pair ?_
    refine .step (State.inc64_frame _ _ _ _) (by decide) ?_
    refine .set_net (by decide) ?_
    exact .refl _
  · refine .ite ?_ ?_
    · refine .pair ?_
      refine .step (raiseS_frame _ _ _) (by decide) ?_
      refine .set_net (by decide) ?_
      refine .step (State.inc64_frame _ _ _ _) (by decide) ?_
      refine .set_net (by decide) ?_
      exact .refl _
    · refine .pair ?_
      refine .step (State.inc64_frame _ _ _ _) (by decide) ?_
      refine .set_net (by decide) ?_
      exact .refl _

theorem deliver_frame (s : State) (f : RxFrame) (action : Nat) (cls : Nat) (reason : Nat) (why : Nat) :
    Frame [.objs, .ex, .sorus, .lib, .net] s (deliver s f action cls reason why) := by
  unfold deliver
  split
  · exact .refl _
  · refine .step (toExvan_frame _ _ _) (by decide) ?_
    exact .refl _
  · refine .step (toPtp_frame _ _) (by decide) ?_
    exact .refl _
  · refine .step (toSlow_frame _ _ _ _) (by decide) ?_
    exact .refl _

theorem endPass_frame (s : State) (f : RxFrame) (nd : List Byte) (action : Nat) (reason : Nat) :
    Frame [.objs, .ex, .sorus, .lib, .net] s (endPass s f nd action reason) := by
  unfold endPass
  refine .ite ?_ ?_
  · refine .step (deliver_frame _ _ _ _ _ _) (by decide) ?_
    exact .refl _
  · split
    · refine .step (deliver_frame _ _ _ _ _ _) (by decide) ?_
      refine .fst (by assumption) ?_
      refine .step (police_frame _ _ _) (by decide) ?_
      exact .refl _
    · refine .ite ?_ ?_
      · refine .fst (by assumption) ?_
        refine .step (police_frame _ _ _) (by decide) ?_
        exact .refl _
      · refine .step (deliver_frame _ _ _ _ _ _) (by decide) ?_
        refine .fst (by assumption) ?_
        refine .step (police_frame _ _ _) (by decide) ?_
        exact .refl _

theorem actLeaf_frame (s : State) (f : RxFrame) (second : Bool) (nd : List Byte) :
    Frame [.objs, .ex, .sorus, .lib, .net] s (actLeaf s f second nd) := by
  unfold actLeaf
  refine .ite ?_ ?_
  · refine .step (toExvan_frame _ _ _) (by decide) ?_
    refine .step (State.inc64_frame _ _ _ _) (by decide) ?_
    refine .ite ?_ ?_
    · refine .step (toSlow_frame _ _ _ _) (by decide) ?_
      refine .step (State.inc64_frame _ _ _ _) (by decide) ?_
      refine .step (State.inc64_frame _ _ _ _) (by decide) ?_
      exact .refl _
    · refine .step (State.inc64_frame _ _ _ _) (by decide) ?_
      refine .step (State.inc64_frame _ _ _ _) (by decide) ?_
      exact .refl _
  · refine .ite ?_ ?_
    · refine .ite ?_ ?_
      · refine .step (endPass_frame _ _ _ _ _) (by decide) ?_
        refine .ite ?_ ?_
        · refine .step (toSlow_frame _ _ _ _) (by decide) ?_
          refine .step (State.inc64_frame _ _ _ _) (by decide) ?_
          refine .step (State.inc64_frame _ _ _ _) (by decide) ?_
          exact .refl _
        · refine .step (State.inc64_frame _ _ _ _) (by decide) ?_
          refine .step (State.inc64_frame _ _ _ _) (by decide) ?_
          exact .refl _
      · refine .ite ?_ ?_
        · refine .set_net (by decide) ?_
          refine .ite ?_ ?_
          · refine .step (toSlow_frame _ _ _ _) (by decide) ?_
            refine .step (State.inc64_frame _ _ _ _) (by decide) ?_
            refine .step (State.inc64_frame _ _ _ _) (by decide) ?_
            exact .refl _
          · refine .step (State.inc64_frame _ _ _ _) (by decide) ?_
            refine .step (State.inc64_frame _ _ _ _) (by decide) ?_
            exact .refl _
        · refine .step (endPass_frame _ _ _ _ _) (by decide) ?_
          refine .ite ?_ ?_
          · refine .step (toSlow_frame _ _ _ _) (by decide) ?_
            refine .step (State.inc64_frame _ _ _ _) (by decide) ?_
            refine .step (State.inc64_frame _ _ _ _) (by decide) ?_
            exact .refl _
          · refine .step (State.inc64_frame _ _ _ _) (by decide) ?_
            refine .step (State.inc64_frame _ _ _ _) (by decide) ?_
            exact .refl _
    · refine .step (endPass_frame _ _ _ _ _) (by decide) ?_
      refine .ite ?_ ?_
      · refine .step (toSlow_frame _ _ _ _) (by decide) ?_
        refine .step (State.inc64_frame _ _ _ _) (by decide) ?_
        refine .step (State.inc64_frame _ _ _ _) (by decide) ?_
        exact .refl _
      · refine .step (State.inc64_frame _ _ _ _) (by decide) ?_
        refine .step (State.inc64_frame _ _ _ _) (by decide) ?_
        exact .refl _

theorem firstPass_frame (s : State) (f : RxFrame) : Frame [.objs, .ex, .sorus, .lib, .net] s (firstPass s f) := by
  unfold firstPass
  refine .step (actLeaf_frame _ _ _ _) (by decide) ?_
  exact .refl _

theorem holdFrame_frame (s : State) (f : RxFrame) : Frame [.objs, .ex, .sorus, .net] s (holdFrame s f) := by
  unfold holdFrame
  refine .ite ?_ ?_
  · refine .ite ?_ ?_
    · refine .step (raiseS_frame _ _ _) (by decide) ?_
      refine .set_net (by decide) ?_
      exact .refl _
    · refine .set_net (by decide) ?_
      exact .refl _
  · refine .ite ?_ ?_
    · refine .step (State.inc64_frame _ _ _ _) (by decide) ?_
      exact .refl _
    · refine .step (raiseS_frame _ _ _) (by decide) ?_
      refine .set_net (by decide) ?_
      refine .step (State.inc64_frame _ _ _ _) (by decide) ?_
      exact .refl _

theorem State.keepHeld_frame (s : State) (h : List HeldFrame) : Frame [.net] s (State.keepHeld s h) := by
  unfold State.keepHeld
  refine .set_net (by decide) ?_
  exact .refl _

theorem classifyHeld_frame (s : State) : Frame [.objs, .ex, .sorus, .lib, .net] s (classifyHeld s) := by
  unfold classifyHeld
  refine .foldl (fun _ _ => ?_) ?_
  · refine .step (firstPass_frame _ _) (by decide) ?_
    exact .refl _
  · refine .step (State.keepHeld_frame _ _) (by decide) ?_
    exact .refl _

theorem noteMissed_frame (s : State) : Frame [.net] s (noteMissed s) := by
  unfold noteMissed
  refine .set_net (by decide) ?_
  exact .refl _

theorem classBoundary_frame (s : State) : Frame [.objs, .ex, .funcs, .sorus, .lib, .net] s (classBoundary s) := by
  unfold classBoundary
  refine .ite ?_ ?_
  · refine .set_net (by decide) ?_
    refine .ite ?_ ?_
    · refine .step (fallback_frame _ _) (by decide) ?_
      exact .refl _
    · refine .step (atModeBoundary_frame _ _) (by decide) ?_
      exact .refl _
  · refine .step (classifyHeld_frame _) (by decide) ?_
    refine .set_net (by decide) ?_
    refine .ite ?_ ?_
    · refine .step (fallback_frame _ _) (by decide) ?_
      exact .refl _
    · refine .step (atModeBoundary_frame _ _) (by decide) ?_
      exact .refl _

theorem decideHeld_frame (s : State) (seq : Nat) (action : Nat) (cls : Nat) (through : Bool) :
    Frame [.objs, .ex, .sorus, .lib, .net] s (decideHeld s seq action cls through) := by
  unfold decideHeld
  conv => zeta
  split
  · exact .refl _
  · refine .foldl (fun _ _ => ?_) ?_
    · refine .step (deliver_frame _ _ _ _ _ _) (by decide) ?_
      exact .refl _
    · refine .step (State.keepHeld_frame _ _) (by decide) ?_
      exact .refl _

theorem effClassDecide_frame (seq : Nat) (action : Nat) (cls : Nat) (flags : Nat) (s : State) :
    Frame1 [.objs, .ex, .sorus, .lib, .net] s (effClassDecide seq action cls flags s) := by
  unfold effClassDecide
  refine .ite ?_ ?_
  · refine .pair ?_
    exact .refl _
  · refine .ite ?_ ?_
    · refine .pair ?_
      exact .refl _
    · refine .ite ?_ ?_
      · refine .pair ?_
        exact .refl _
      · refine .pair ?_
        refine .step (decideHeld_frame _ _ _ _ _) (by decide) ?_
        refine .step (noteMissed_frame _) (by decide) ?_
        exact .refl _

theorem classDecide_frame (s : State) (c : Instr) (sess : Nat) (seq : Nat) (action : Nat) (cls : Nat) (through : Bool) :
    Frame [.objs, .ex, .sorus, .lib, .net] s (classDecide s c sess seq action cls through) := by
  unfold classDecide
  refine hostOctets_frame (by decide) (fun _ => ?_) ?_ 
  · refine .step (effClassDecide_frame _ _ _ _ _) (by decide) ?_
    exact .refl _
  · exact .refl _

theorem execClassDecideDrop_frame (sess : Nat) (seq : Nat) (cls : Nat) (through : Bool) (s : State) (s' : State) (h : execClassDecideDrop sess seq cls through s = .next s') :
    Frame [.objs, .ex, .sorus, .lib, .net] s s' := by
  unfold execClassDecideDrop at h
  refine finish_frame h ?_
  refine .step (classDecide_frame _ _ _ _ _ _ _) (by decide) ?_
  exact .refl _

theorem execClassDecideExvan_frame (sess : Nat) (seq : Nat) (cls : Nat) (through : Bool) (s : State) (s' : State) (h : execClassDecideExvan sess seq cls through s = .next s') :
    Frame [.objs, .ex, .sorus, .lib, .net] s s' := by
  unfold execClassDecideExvan at h
  refine finish_frame h ?_
  refine .step (classDecide_frame _ _ _ _ _ _ _) (by decide) ?_
  exact .refl _

theorem execClassDecidePtp_frame (sess : Nat) (seq : Nat) (cls : Nat) (through : Bool) (s : State) (s' : State) (h : execClassDecidePtp sess seq cls through s = .next s') :
    Frame [.objs, .ex, .sorus, .lib, .net] s s' := by
  unfold execClassDecidePtp at h
  refine finish_frame h ?_
  refine .step (classDecide_frame _ _ _ _ _ _ _) (by decide) ?_
  exact .refl _

theorem execClassDecideSlow_frame (sess : Nat) (seq : Nat) (cls : Nat) (through : Bool) (s : State) (s' : State) (h : execClassDecideSlow sess seq cls through s = .next s') :
    Frame [.objs, .ex, .sorus, .lib, .net] s s' := by
  unfold execClassDecideSlow at h
  refine finish_frame h ?_
  refine .step (classDecide_frame _ _ _ _ _ _ _) (by decide) ?_
  exact .refl _

theorem execFallbackClassification_frame (s : State) (s' : State) (h : execFallbackClassification s = .next s') :
    Frame [.ex, .net] s s' := by
  unfold execFallbackClassification at h
  refine finish_frame h ?_
  refine .step (noteMissed_frame _) (by decide) ?_
  exact .refl _

theorem State.setPort_frame (s : State) (x : Nat) (p : Port) : Frame [.net] s (State.setPort s x p) := by
  unfold State.setPort
  refine .set_net (by decide) ?_
  exact .refl _

theorem classify_frame (s : State) (f : RxFrame) : Frame [.objs, .ex, .sorus, .lib, .net] s (classify s f) := by
  unfold classify
  refine .ite ?_ ?_
  · refine .step (State.inc64_frame _ _ _ _) (by decide) ?_
    exact .refl _
  · split
    · refine .step (toSlow_frame _ _ _ _) (by decide) ?_
      exact .refl _
    · refine .ite ?_ ?_
      · refine .ite ?_ ?_
        · refine .step (toExvan_frame _ _ _) (by decide) ?_
          exact .refl _
        · refine .step (holdFrame_frame _ _) (by decide) ?_
          exact .refl _
      · refine .step (firstPass_frame _ _) (by decide) ?_
        exact .refl _

theorem frameIn_frame (s : State) (x : Nat) (bytes : List Byte) (fcsOk : Bool) (tagOk : Bool) :
    Frame [.objs, .ex, .funcs, .sorus, .lib, .net] s (frameIn s x bytes fcsOk tagOk) := by
  unfold frameIn
  conv => zeta
  split
  · refine .step (State.inc64_frame _ _ _ _) (by decide) ?_
    refine .step (classBoundary_frame _) (by decide) ?_
    exact .refl _
  · refine .step (classify_frame _ _) (by decide) ?_
    refine .step (State.inc64_frame _ _ _ _) (by decide) ?_
    refine .step (State.inc64_frame _ _ _ _) (by decide) ?_
    refine .step (classBoundary_frame _) (by decide) ?_
    exact .refl _

theorem uartFrame_frame (s : State) (tagOk : Bool) (bytes : List Byte) :
    Frame [.objs, .ex, .sorus, .lib, .net] s (uartFrame s tagOk bytes) := by
  unfold uartFrame
  refine .ite ?_ ?_
  · refine .step (exvanReceive_frame _ _) (by decide) ?_
    exact .refl _
  · refine .step (toExvan_frame _ _ _) (by decide) ?_
    exact .refl _

theorem execFrameReceive_frame (x : Nat) (bytes : List Byte) (fcsOk : Bool) (tagOk : Bool) (s : State) (s' : State) (h : execFrameReceive x bytes fcsOk tagOk s = .next s') :
    Frame [.objs, .ex, .funcs, .sorus, .lib, .net] s s' := by
  unfold execFrameReceive at h
  refine finish_frame h ?_
  refine .ite ?_ ?_
  · refine .ite ?_ ?_
    · refine .foldl (fun _ _ => ?_) ?_
      · refine .step (uartFrame_frame _ _ _) (by decide) ?_
        exact .refl _
      · exact .refl _
    · exact .refl _
  · refine .ite ?_ ?_
    · refine .step (frameIn_frame _ _ _ _ _) (by decide) ?_
      exact .refl _
    · exact .refl _

theorem State.setRules_frame (s : State) (r : Rules) : Frame [.net] s (State.setRules s r) := by
  unfold State.setRules
  refine .set_net (by decide) ?_
  exact .refl _

theorem retainEnd_frame (s : State) : Frame [.objs, .ex, .sorus, .lib, .net] s (retainEnd s) := by
  unfold retainEnd
  conv => zeta
  split
  · exact .refl _
  · refine .ite ?_ ?_
    · refine .step (State.setRules_frame _ _) (by decide) ?_
      exact .refl _
    · refine .ite ?_ ?_
      · refine .step (raiseS_frame _ _ _) (by decide) ?_
        refine .foldl (fun _ _ => ?_) ?_
        · refine .step (toSlow_frame _ _ _ _) (by decide) ?_
          exact .refl _
        · refine .set_net (by decide) ?_
          refine .step (State.setRules_frame _ _) (by decide) ?_
          exact .refl _
      · exact .refl _

theorem execRulesRetainEnd_frame (s : State) (s' : State) (h : execRulesRetainEnd s = .next s') :
    Frame [.objs, .ex, .sorus, .lib, .net] s s' := by
  unfold execRulesRetainEnd at h
  refine finish_frame h ?_
  refine .step (retainEnd_frame _) (by decide) ?_
  exact .refl _

theorem secondPass_frame (s : State) : Frame [.objs, .ex, .sorus, .lib, .net] s (secondPass s) := by
  unfold secondPass
  conv => zeta
  split
  · exact .refl _
  · refine .step (actLeaf_frame _ _ _ _) (by decide) ?_
    refine .step (State.inc64_frame _ _ _ _) (by decide) ?_
    refine .set_net (by decide) ?_
    exact .refl _

theorem execRecirculationPass_frame (s : State) (s' : State) (h : execRecirculationPass s = .next s') :
    Frame [.objs, .ex, .sorus, .lib, .net] s s' := by
  unfold execRecirculationPass at h
  refine finish_frame h ?_
  refine .step (retainEnd_frame _) (by decide) ?_
  refine .step (secondPass_frame _) (by decide) ?_
  refine .ite ?_ ?_
  · refine .step (retainEnd_frame _) (by decide) ?_
    exact .refl _
  · exact .refl _

theorem effRulesApply_frame (s : State) : Frame1 [.net] s (effRulesApply s) := by
  unfold effRulesApply
  refine .ite ?_ ?_
  · refine .pair ?_
    exact .refl _
  · refine .pair ?_
    refine .step (State.setRules_frame _ _) (by decide) ?_
    exact .refl _

theorem execRulesApply_frame (sess : Nat) (s : State) (s' : State) (h : execRulesApply sess s = .next s') :
    Frame [.objs, .ex, .sorus, .lib, .net] s s' := by
  unfold execRulesApply at h
  refine finish_frame h ?_
  refine hostWrite_frame (by decide) (fun _ => ?_) ?_ 
  · refine .step (effRulesApply_frame _) (by decide) ?_
    exact .refl _
  · exact .refl _

theorem swapBanks_frame (s : State) : Frame [.objs, .ex, .sorus, .lib, .net] s (swapBanks s) := by
  unfold swapBanks
  refine .step (retainEnd_frame _) (by decide) ?_
  refine .step (settleOwed_frame _ _ _) (by decide) ?_
  refine .step (raiseS_frame _ _ _) (by decide) ?_
  refine .step (State.setObjN_frame _ _ _ _) (by decide) ?_
  refine .step (State.setObjN_frame _ _ _ _) (by decide) ?_
  refine .step (State.setObjN_frame _ _ _ _) (by decide) ?_
  refine .step (State.setObjN_frame _ _ _ _) (by decide) ?_
  refine .step (State.setRules_frame _ _) (by decide) ?_
  exact .refl _

theorem execRulesCheckDone_frame (s : State) (s' : State) (h : execRulesCheckDone s = .next s') :
    Frame [.objs, .ex, .sorus, .lib, .net] s s' := by
  unfold execRulesCheckDone at h
  refine finish_frame h ?_
  conv => zeta
  split
  · exact .refl _
  · split
    · refine .step (swapBanks_frame _) (by decide) ?_
      exact .refl _
    · refine .step (settleOwed_frame _ _ _) (by decide) ?_
      refine .step (raiseS_frame _ _ _) (by decide) ?_
      refine .step (State.setObjN_frame _ _ _ _) (by decide) ?_
      refine .step (State.setObjN_frame _ _ _ _) (by decide) ?_
      refine .step (State.setRules_frame _ _) (by decide) ?_
      exact .refl _

theorem effShadowNode_frame (n : Nat) (b : List Byte) (s : State) : Frame1 [.net] s (effShadowNode n b s) := by
  unfold effShadowNode
  refine .ite ?_ ?_
  · refine .pair ?_
    exact .refl _
  · refine .pair ?_
    refine .step (State.setRules_frame _ _) (by decide) ?_
    exact .refl _

theorem effShadowBank_frame (b : List Byte) (s : State) : Frame1 [.net] s (effShadowBank b s) := by
  unfold effShadowBank
  refine .ite ?_ ?_
  · refine .pair ?_
    exact .refl _
  · refine .pair ?_
    refine .step (State.setRules_frame _ _) (by decide) ?_
    exact .refl _

theorem effRulesStore_frame (s : State) : Frame1 [.objs, .dev, .ex, .sorus, .cal] s (effRulesStore s) := by
  unfold effRulesStore
  refine .ite ?_ ?_
  · refine .pair ?_
    exact .refl _
  · refine .ite ?_ ?_
    · refine .pair ?_
      exact .refl _
    · refine .pair ?_
      refine .step (startStore_frame _ _) (by decide) ?_
      exact .refl _

theorem execRulesStore_frame (sess : Nat) (s : State) (s' : State) (h : execRulesStore sess s = .next s') :
    Frame [.objs, .dev, .ex, .sorus, .cal, .lib] s s' := by
  unfold execRulesStore at h
  refine finish_frame h ?_
  refine hostWrite_frame (by decide) (fun _ => ?_) ?_ 
  · refine .step (effRulesStore_frame _) (by decide) ?_
    exact .refl _
  · exact .refl _

theorem State.setQueue_frame (s : State) (n : Nat) (q : Queue) : Frame [.net] s (State.setQueue s n q) := by
  unfold State.setQueue
  refine .set_net (by decide) ?_
  exact .refl _

theorem refillQueue_frame (s : State) (n : Nat) : Frame [.net] s (refillQueue s n) := by
  unfold refillQueue
  refine .step (State.setQueue_frame _ _ _) (by decide) ?_
  exact .refl _

theorem settleQueue_frame (s : State) (n : Nat) : Frame [.net] s (settleQueue s n) := by
  unfold settleQueue
  refine .ite ?_ ?_
  · exact .refl _
  · refine .step (State.setQueue_frame _ _ _) (by decide) ?_
    exact .refl _

theorem takeShaper_frame (s : State) (n : Nat) : Frame [.net] s (takeShaper s n) := by
  unfold takeShaper
  refine .step (settleQueue_frame _ _) (by decide) ?_
  refine .step (State.setQueue_frame _ _ _) (by decide) ?_
  exact .refl _

theorem State.setPortGates_frame (s : State) (x : Nat) (g : PortGates) : Frame [.net] s (State.setPortGates s x g) := by
  unfold State.setPortGates
  refine .set_net (by decide) ?_
  exact .refl _

theorem dropOversizeFrames_frame (n : Nat) (l : List TxFrame) (s : State) :
    Frame [.objs, .ex, .sorus, .net] s (dropOversizeFrames n l s) := by
  induction l generalizing s with
  | nil => exact .refl _
  | cons f t ih =>
    unfold dropOversizeFrames
    refine .ite (.trans ?_ (ih _)) (.refl _)
    exact .step (raiseS_frame _ _ _) (by decide) (.step (State.inc64_frame _ _ _ _) (by decide)
      (.step (State.setQueue_frame _ _ _) (by decide) (.refl _)))

theorem dropOversize_frame (s : State) (n : Nat) : Frame [.objs, .ex, .sorus, .net] s (dropOversize s n) := by
  unfold dropOversize
  refine .step (settleQueue_frame _ _) (by decide) ?_
  refine .step (dropOversizeFrames_frame _ _ _) (by decide) ?_
  refine .step (refillQueue_frame _ _) (by decide) ?_
  exact .refl _

theorem noteWaits_frame (s : State) (x : Nat) : Frame [.objs, .net] s (noteWaits s x) := by
  unfold noteWaits
  refine .ite ?_ ?_
  · exact .refl _
  · refine .foldl (fun _ _ => ?_) ?_
    · conv => zeta
      split
      · refine .ite ?_ ?_
        · refine .step (State.inc64_frame _ _ _ _) (by decide) ?_
          refine .step (State.setQueue_frame _ _ _) (by decide) ?_
          exact .refl _
        · exact .refl _
      · exact .refl _
    · exact .refl _

theorem queueDrop_frame (s : State) (n : Nat) : Frame [.objs, .ex, .sorus, .net] s (queueDrop s n) := by
  unfold queueDrop
  refine .ite ?_ ?_
  · refine .step (raiseS_frame _ _ _) (by decide) ?_
    refine .step (State.setQueue_frame _ _ _) (by decide) ?_
    refine .step (State.inc64_frame _ _ _ _) (by decide) ?_
    exact .refl _
  · refine .step (State.inc64_frame _ _ _ _) (by decide) ?_
    exact .refl _

theorem enqueue_frame (s : State) (n : Nat) (source : Nat) (len : Nat) :
    Frame1 [.objs, .ex, .sorus, .net] s (enqueue s n source len) := by
  unfold enqueue
  refine .ite ?_ ?_
  · refine .pair ?_
    refine .step (State.inc64_frame _ _ _ _) (by decide) ?_
    exact .refl _
  · refine .ite ?_ ?_
    · refine .pair ?_
      refine .step (queueDrop_frame _ _) (by decide) ?_
      exact .refl _
    · refine .pair ?_
      refine .step (noteWaits_frame _ _) (by decide) ?_
      refine .step (dropOversize_frame _ _) (by decide) ?_
      refine .step (State.setQueue_frame _ _ _) (by decide) ?_
      refine .step (refillQueue_frame _ _) (by decide) ?_
      exact .refl _

theorem flushPort_frame (s : State) (x : Nat) : Frame [.objs, .net] s (flushPort s x) := by
  unfold flushPort
  refine .foldl (fun _ _ => ?_) ?_
  · refine .step (State.setQueue_frame _ _ _) (by decide) ?_
    refine .step (State.inc64_frame _ _ _ _) (by decide) ?_
    exact .refl _
  · exact .refl _

theorem startHead_frame (s : State) (x : Nat) : Frame [.objs, .ex, .sorus, .net] s (startHead s x) := by
  unfold startHead
  conv => zeta
  split
  · exact .refl _
  · split
    · refine .step (refillQueue_frame _ _) (by decide) ?_
      exact .refl _
    · refine .step (dropOversize_frame _ _) (by decide) ?_
      refine .step (State.setPort_frame _ _ _) (by decide) ?_
      refine .step (State.setQueue_frame _ _ _) (by decide) ?_
      refine .step (refillQueue_frame _ _) (by decide) ?_
      exact .refl _

theorem takeOwn_frame (s : State) (source : Nat) : Frame [.ex, .net] s (takeOwn s source) := by
  unfold takeOwn
  refine .ite ?_ ?_
  · refine .set_net (by decide) ?_
    exact .refl _
  · refine .set_ex (by decide) ?_
    exact .refl _

theorem execTxEnqueue_frame (x : Nat) (source : Nat) (len : Nat) (s : State) (s' : State) (h : execTxEnqueue x source len s = .next s') :
    Frame [.objs, .ex, .sorus, .net] s s' := by
  unfold execTxEnqueue at h
  refine finish_frame h ?_
  refine .ite ?_ ?_
  · refine .of1 ?_
    refine .step (enqueue_frame _ _ _ _) (by decide) ?_
    refine .step (takeOwn_frame _ _) (by decide) ?_
    exact .refl _
  · exact .refl _

theorem execTxFrameStart_frame (x : Nat) (s : State) (s' : State) (h : execTxFrameStart x s = .next s') :
    Frame [.objs, .ex, .sorus, .net] s s' := by
  unfold execTxFrameStart at h
  refine finish_frame h ?_
  refine .ite ?_ ?_
  · refine .step (startHead_frame _ _) (by decide) ?_
    refine .step (noteWaits_frame _ _) (by decide) ?_
    exact .refl _
  · exact .refl _

theorem frameBoundary_frame (s : State) (x : Nat) : Frame [.objs, .octs, .staged, .stagedOcts, .net] s (frameBoundary s x) := by
  unfold frameBoundary
  refine .foldl (fun _ _ => ?_) ?_
  · refine .ite ?_ ?_
    · refine .step (takeShaper_frame _ _) (by decide) ?_
      exact .refl _
    · exact .refl _
  · refine .ite ?_ ?_
    · refine .set_net (by decide) ?_
      refine .foldl (fun _ _ => ?_) ?_
      · refine .step (State.applyStagedAt_frame _ _ _) (by decide) ?_
        exact .refl _
      · exact .refl _
    · exact .refl _

theorem setRoles_frame (s : State) (prefer : Nat) : Frame [.net] s (setRoles s prefer) := by
  unfold setRoles
  refine .step (State.setPort_frame _ _ _) (by decide) ?_
  refine .step (State.setPort_frame _ _ _) (by decide) ?_
  exact .refl _

theorem applyNet_frame (s : State) : Frame [.objs, .octs, .staged, .stagedOcts, .ex, .sorus, .net] s (applyNet s) := by
  unfold applyNet
  refine .step (raiseS_frame _ _ _) (by decide) ?_
  refine .ite ?_ ?_
  · refine .foldl (fun _ _ => ?_) ?_
    · refine .step (sendReports_frame _ _ _ _) (by decide) ?_
      exact .refl _
    · refine .foldl (fun _ _ => ?_) ?_
      · refine .step (sendOwn_frame _ _ _) (by decide) ?_
        exact .refl _
      · refine .step (setRoles_frame _ _) (by decide) ?_
        refine .foldl (fun _ _ => ?_) ?_
        · refine .step (State.applyStaged_frame _ _) (by decide) ?_
          exact .refl _
        · refine .set_net (by decide) ?_
          exact .refl _
  · refine .step (announceNow_frame _) (by decide) ?_
    refine .foldl (fun _ _ => ?_) ?_
    · refine .step (sendOwn_frame _ _ _) (by decide) ?_
      exact .refl _
    · refine .step (setRoles_frame _ _) (by decide) ?_
      refine .foldl (fun _ _ => ?_) ?_
      · refine .step (State.applyStaged_frame _ _) (by decide) ?_
        exact .refl _
      · refine .set_net (by decide) ?_
        exact .refl _

theorem netBoundary_frame (s : State) (x : Nat) :
    Frame [.objs, .octs, .staged, .stagedOcts, .ex, .sorus, .net] s (netBoundary s x) := by
  unfold netBoundary
  refine .ite ?_ ?_
  · exact .refl _
  · refine .ite ?_ ?_
    · refine .step (applyNet_frame _) (by decide) ?_
      exact .refl _
    · refine .set_net (by decide) ?_
      exact .refl _

theorem execTxFrameEnd_frame (x : Nat) (s : State) (s' : State) (h : execTxFrameEnd x s = .next s') :
    Frame [.objs, .octs, .staged, .stagedOcts, .ex, .sorus, .net] s s' := by
  unfold execTxFrameEnd at h
  refine finish_frame h ?_
  conv => zeta
  split
  · exact .refl _
  · refine .ite ?_ ?_
    · refine .step (noteWaits_frame _ _) (by decide) ?_
      refine .step (netBoundary_frame _ _) (by decide) ?_
      refine .step (frameBoundary_frame _ _) (by decide) ?_
      refine .step (State.inc64_frame _ _ _ _) (by decide) ?_
      refine .step (State.inc64_frame _ _ _ _) (by decide) ?_
      refine .step (State.inc64_frame _ _ _ _) (by decide) ?_
      refine .step (State.inc64_frame _ _ _ _) (by decide) ?_
      refine .step (settleQueue_frame _ _) (by decide) ?_
      refine .step (State.setPort_frame _ _ _) (by decide) ?_
      refine .step (refillQueue_frame _ _) (by decide) ?_
      exact .refl _
    · exact .refl _

theorem effShaper_frame (n : Nat) (which : Nat) (v : Int) (s : State) : Frame1 [.objs, .net] s (effShaper n which v s) := by
  unfold effShaper
  refine .ite ?_ ?_
  · refine .pair ?_
    refine .step (State.setQueue_frame _ _ _) (by decide) ?_
    refine .step (State.setObj_frame _ _ _ _) (by decide) ?_
    exact .refl _
  · refine .pair ?_
    refine .step (takeShaper_frame _ _) (by decide) ?_
    refine .step (State.setObj_frame _ _ _ _) (by decide) ?_
    exact .refl _

theorem execShaperWrite_frame (sess : Nat) (n : Nat) (which : Nat) (v : Int) (s : State) (s' : State) (h : execShaperWrite sess n which v s = .next s') :
    Frame [.objs, .ex, .sorus, .lib, .net] s s' := by
  unfold execShaperWrite at h
  refine finish_frame h ?_
  refine hostWrite_frame (by decide) (fun _ => ?_) ?_ 
  · refine .step (effShaper_frame _ _ _ _) (by decide) ?_
    exact .refl _
  · exact .refl _

theorem effTxqApply_frame (s : State) : Frame1 [.objs, .octs, .staged, .stagedOcts, .net] s (effTxqApply s) := by
  unfold effTxqApply
  refine .ite ?_ ?_
  · refine .pair ?_
    exact .refl _
  · refine .pair ?_
    refine .foldl (fun _ _ => ?_) ?_
    · refine .ite ?_ ?_
      · exact .refl _
      · refine .step (frameBoundary_frame _ _) (by decide) ?_
        exact .refl _
    · refine .set_net (by decide) ?_
      exact .refl _

theorem execTxqApply_frame (sess : Nat) (s : State) (s' : State) (h : execTxqApply sess s = .next s') :
    Frame [.objs, .octs, .staged, .stagedOcts, .ex, .sorus, .lib, .net] s s' := by
  unfold execTxqApply at h
  refine finish_frame h ?_
  refine hostWrite_frame (by decide) (fun _ => ?_) ?_ 
  · refine .step (effTxqApply_frame _) (by decide) ?_
    exact .refl _
  · exact .refl _

theorem setGates_frame (s : State) (x : Nat) : Frame [.objs, .net] s (setGates s x) := by
  unfold setGates
  conv => zeta
  split
  refine .step (noteWaits_frame _ _) (by decide) ?_
  refine .step (State.setPortGates_frame _ _ _) (by decide) ?_
  exact .refl _

theorem execGateEntryChange_frame (x : Nat) (s : State) (s' : State) (h : execGateEntryChange x s = .next s') :
    Frame [.objs, .ex, .net] s s' := by
  unfold execGateEntryChange at h
  refine finish_frame h ?_
  refine .ite ?_ ?_
  · refine .step (setGates_frame _ _) (by decide) ?_
    exact .refl _
  · exact .refl _

theorem effGateApply_frame (x : Nat) (s : State) : Frame1 [.objs, .staged, .stagedOcts, .net] s (effGateApply x s) := by
  unfold effGateApply
  refine .ite ?_ ?_
  · refine .pair ?_
    exact .refl _
  · refine .ite ?_ ?_
    · refine .pair ?_
      exact .refl _
    · refine .ite ?_ ?_
      · refine .pair ?_
        exact .refl _
      · refine .pair ?_
        refine .step (State.setObj_frame _ _ _ _) (by decide) ?_
        refine .step (State.setPortGates_frame _ _ _) (by decide) ?_
        refine .foldl (fun _ _ => ?_) ?_
        · refine .step (State.unstage_frame _ _ _) (by decide) ?_
          exact .refl _
        · exact .refl _

theorem execGateApply_frame (sess : Nat) (x : Nat) (s : State) (s' : State) (h : execGateApply sess x s = .next s') :
    Frame [.objs, .staged, .stagedOcts, .ex, .sorus, .lib, .net] s s' := by
  unfold execGateApply at h
  refine finish_frame h ?_
  refine hostWrite_frame (by decide) (fun _ => ?_) ?_ 
  · refine .step (effGateApply_frame _ _) (by decide) ?_
    exact .refl _
  · exact .refl _

theorem takeGateObjs_frame (s : State) (x : Nat) (on : Bool) (l : GateList) : Frame [.objs, .octs] s (takeGateObjs s x on l) := by
  unfold takeGateObjs
  refine .step (State.setOct_frame _ _ _ _) (by decide) ?_
  refine .step (State.setObjN_frame _ _ _ _) (by decide) ?_
  refine .step (State.setObjN_frame _ _ _ _) (by decide) ?_
  refine .step (State.setObj_frame _ _ _ _) (by decide) ?_
  refine .step (State.setObjN_frame _ _ _ _) (by decide) ?_
  exact .refl _

theorem setLongest_frame (s : State) (x : Nat) : Frame [.objs, .ex, .sorus, .net] s (setLongest s x) := by
  unfold setLongest
  refine .foldl (fun _ _ => ?_) ?_
  · refine .step (dropOversize_frame _ _) (by decide) ?_
    refine .step (State.setObjN_frame _ _ _ _) (by decide) ?_
    exact .refl _
  · exact .refl _

theorem execGateListChanged_frame (x : Nat) (s : State) (s' : State) (h : execGateListChanged x s = .next s') :
    Frame [.objs, .octs, .ex, .sorus, .net] s s' := by
  unfold execGateListChanged at h
  refine finish_frame h ?_
  conv => zeta
  split
  · exact .refl _
  · refine .ite ?_ ?_
    · refine .step (setGates_frame _ _) (by decide) ?_
      refine .step (raiseS_frame _ _ _) (by decide) ?_
      refine .step (setLongest_frame _ _) (by decide) ?_
      refine .step (State.setPortGates_frame _ _ _) (by decide) ?_
      refine .step (takeGateObjs_frame _ _ _ _) (by decide) ?_
      exact .refl _
    · exact .refl _

theorem clearGates_frame (s : State) : Frame [.objs, .ex, .sorus, .net] s (clearGates s) := by
  unfold clearGates
  refine .foldl (fun _ _ => ?_) ?_
  · refine .step (raiseS_frame _ _ _) (by decide) ?_
    refine .step (setGates_frame _ _) (by decide) ?_
    refine .step (setLongest_frame _ _) (by decide) ?_
    refine .step (State.setPortGates_frame _ _ _) (by decide) ?_
    exact .refl _
  · exact .refl _

theorem sampleQueue_frame (s : State) (n : Nat) : Frame [.objs, .net] s (sampleQueue s n) := by
  unfold sampleQueue
  refine .step (State.setQueue_frame _ _ _) (by decide) ?_
  refine .step (State.setObjN_frame _ _ _ _) (by decide) ?_
  refine .step (State.setObjN_frame _ _ _ _) (by decide) ?_
  refine .step (State.setObjN_frame _ _ _ _) (by decide) ?_
  refine .step (State.setObjN_frame _ _ _ _) (by decide) ?_
  refine .step (State.setObjN_frame _ _ _ _) (by decide) ?_
  exact .refl _

theorem takePeriod_frame (s : State) : Frame [.net] s (takePeriod s) := by
  unfold takePeriod
  conv => zeta
  split
  · refine .ite ?_ ?_
    · refine .set_net (by decide) ?_
      exact .refl _
    · exact .refl _
  · exact .refl _

theorem sampleNow_frame (s : State) : Frame [.objs, .net] s (sampleNow s) := by
  unfold sampleNow
  refine .ite ?_ ?_
  · refine .step (State.setObj_frame _ _ _ _) (by decide) ?_
    refine .step (State.incWrap_frame _ _ _) (by decide) ?_
    refine .foldl (fun _ _ => ?_) ?_
    · refine .step (sampleQueue_frame _ _) (by decide) ?_
      exact .refl _
    · refine .set_net (by decide) ?_
      exact .refl _
  · exact .refl _

theorem execQsample_frame (s : State) (s' : State) (h : execQsample s = .next s') :
    Frame [.objs, .ex, .net] s s' := by
  unfold execQsample at h
  refine finish_frame h ?_
  refine .step (sampleNow_frame _) (by decide) ?_
  refine .step (takePeriod_frame _) (by decide) ?_
  exact .refl _

theorem effQsamplePeriod_frame (v : Int) (s : State) : Frame1 [.objs, .net] s (effQsamplePeriod v s) := by
  unfold effQsamplePeriod
  refine .pair ?_
  refine .step (State.setObj_frame _ _ _ _) (by decide) ?_
  refine .set_net (by decide) ?_
  refine .step (takePeriod_frame _) (by decide) ?_
  exact .refl _

theorem ptpMoved_frame (s : State) : Frame [.time] s (ptpMoved s) := by
  unfold ptpMoved
  refine .set_time (by decide) ?_
  exact .refl _

theorem lockChange_frame (s : State) (x : Nat) (ok : Bool) : Frame [.net] s (lockChange s x ok) := by
  unfold lockChange
  refine .ite ?_ ?_
  · exact .refl _
  · refine .step (State.setPort_frame _ _ _) (by decide) ?_
    exact .refl _

theorem countFec_frame (s : State) (x : Nat) (corrected : Nat) (uncorrected : Nat) :
    Frame [.objs] s (countFec s x corrected uncorrected) := by
  unfold countFec
  refine .ite ?_ ?_
  · refine .step (State.inc64_frame _ _ _ _) (by decide) ?_
    refine .step (State.inc64_frame _ _ _ _) (by decide) ?_
    exact .refl _
  · exact .refl _

theorem execPcsLockChange_frame (x : Nat) (report : PcsReport) (s : State) (s' : State) (h : execPcsLockChange x report s = .next s') :
    Frame [.objs, .ex, .net] s s' := by
  unfold execPcsLockChange at h
  refine finish_frame h ?_
  refine .ite ?_ ?_
  · refine .step (lockChange_frame _ _ _) (by decide) ?_
    refine .step (countFec_frame _ _ _ _) (by decide) ?_
    exact .refl _
  · exact .refl _

theorem portDown_frame (s : State) (x : Nat) : Frame [.objs, .ex, .time, .sorus, .net] s (portDown s x) := by
  unfold portDown
  refine .ite ?_ ?_
  · refine .ite ?_ ?_
    · refine .step (announceNow_frame _) (by decide) ?_
      refine .step (ptpMoved_frame _) (by decide) ?_
      refine .step (raiseS_frame _ _ _) (by decide) ?_
      refine .step (State.setPort_frame _ _ _) (by decide) ?_
      refine .step (raiseS_frame _ _ _) (by decide) ?_
      refine .step (flushPort_frame _ _) (by decide) ?_
      refine .step (State.incSat_frame _ _ _ _) (by decide) ?_
      refine .step (State.setPort_frame _ _ _) (by decide) ?_
      exact .refl _
    · refine .step (raiseS_frame _ _ _) (by decide) ?_
      refine .step (flushPort_frame _ _) (by decide) ?_
      refine .step (State.incSat_frame _ _ _ _) (by decide) ?_
      refine .step (State.setPort_frame _ _ _) (by decide) ?_
      exact .refl _
  · refine .step (raiseS_frame _ _ _) (by decide) ?_
    refine .step (raiseS_frame _ _ _) (by decide) ?_
    refine .step (flushPort_frame _ _) (by decide) ?_
    refine .step (State.incSat_frame _ _ _ _) (by decide) ?_
    refine .step (State.setPort_frame _ _ _) (by decide) ?_
    exact .refl _

theorem execLinkDown_frame (x : Nat) (s : State) (s' : State) (h : execLinkDown x s = .next s') :
    Frame [.objs, .ex, .time, .sorus, .net] s s' := by
  unfold execLinkDown at h
  refine finish_frame h ?_
  refine .ite ?_ ?_
  · refine .step (portDown_frame _ _) (by decide) ?_
    exact .refl _
  · exact .refl _

theorem portUp_frame (s : State) (x : Nat) : Frame [.objs, .ex, .sorus, .net] s (portUp s x) := by
  unfold portUp
  refine .step (raiseS_frame _ _ _) (by decide) ?_
  refine .ite ?_ ?_
  · refine .step (State.setPort_frame _ _ _) (by decide) ?_
    exact .refl _
  · refine .step (State.setPort_frame _ _ _) (by decide) ?_
    refine .step (State.setPort_frame _ _ _) (by decide) ?_
    exact .refl _

theorem execLinkUp_frame (x : Nat) (s : State) (s' : State) (h : execLinkUp x s = .next s') :
    Frame [.objs, .ex, .sorus, .net] s s' := by
  unfold execLinkUp at h
  refine finish_frame h ?_
  refine .ite ?_ ?_
  · refine .step (portUp_frame _ _) (by decide) ?_
    exact .refl _
  · exact .refl _

theorem execAnnouncementRepeat_frame (s : State) (s' : State) (h : execAnnouncementRepeat s = .next s') :
    Frame [.ex, .net] s s' := by
  unfold execAnnouncementRepeat at h
  refine finish_frame h ?_
  conv => zeta
  split
  · refine .ite ?_ ?_
    · refine .step (announceAll_frame _) (by decide) ?_
      refine .set_net (by decide) ?_
      exact .refl _
    · exact .refl _
  · exact .refl _

theorem execPortRevert_frame (s : State) (s' : State) (h : execPortRevert s = .next s') :
    Frame [.objs, .ex, .time, .sorus, .net] s s' := by
  unfold execPortRevert at h
  refine finish_frame h ?_
  refine .ite ?_ ?_
  · refine .step (announceNow_frame _) (by decide) ?_
    refine .step (ptpMoved_frame _) (by decide) ?_
    refine .step (raiseS_frame _ _ _) (by decide) ?_
    refine .step (setRoles_frame _ _) (by decide) ?_
    exact .refl _
  · exact .refl _

theorem effPortEnable_frame (x : Nat) (v : Int) (s : State) : Frame1 [.objs, .net] s (effPortEnable x v s) := by
  unfold effPortEnable
  refine .pair ?_
  refine .ite ?_ ?_
  · refine .step (lockChange_frame _ _ _) (by decide) ?_
    refine .step (flushPort_frame _ _) (by decide) ?_
    refine .step (State.setObj_frame _ _ _ _) (by decide) ?_
    exact .refl _
  · refine .step (State.setObj_frame _ _ _ _) (by decide) ?_
    exact .refl _

theorem execPortEnable_frame (sess : Nat) (x : Nat) (v : Int) (s : State) (s' : State) (h : execPortEnable sess x v s = .next s') :
    Frame [.objs, .ex, .sorus, .lib, .net] s s' := by
  unfold execPortEnable at h
  refine finish_frame h ?_
  refine hostWrite_frame (by decide) (fun _ => ?_) ?_ 
  · refine .step (effPortEnable_frame _ _ _) (by decide) ?_
    exact .refl _
  · exact .refl _

theorem effNetApply_frame (s : State) : Frame1 [.objs, .octs, .staged, .stagedOcts, .ex, .sorus, .net] s (effNetApply s) := by
  unfold effNetApply
  refine .ite ?_ ?_
  · refine .pair ?_
    exact .refl _
  · refine .ite ?_ ?_
    · refine .pair ?_
      refine .set_net (by decide) ?_
      exact .refl _
    · refine .pair ?_
      refine .step (applyNet_frame _) (by decide) ?_
      exact .refl _

theorem execNetApply_frame (sess : Nat) (s : State) (s' : State) (h : execNetApply sess s = .next s') :
    Frame [.objs, .octs, .staged, .stagedOcts, .ex, .sorus, .lib, .net] s s' := by
  unfold execNetApply at h
  refine finish_frame h ?_
  refine hostWrite_frame (by decide) (fun _ => ?_) ?_ 
  · refine .step (effNetApply_frame _) (by decide) ?_
    exact .refl _
  · exact .refl _

theorem State.updTime_frame (s : State) (f : Time → Time) : Frame [.time] s (State.updTime s f) := by
  unfold State.updTime
  refine .set_time (by decide) ?_
  exact .refl _

theorem setRate_frame (s : State) (r : Int) : Frame [.objs] s (setRate s r) := by
  unfold setRate
  refine .step (State.setObj_frame _ _ _ _) (by decide) ?_
  refine .step (State.setObj_frame _ _ _ _) (by decide) ?_
  exact .refl _

theorem setServo_frame (s : State) (v : Servo) : Frame [.objs, .ex, .time, .sorus] s (setServo s v) := by
  unfold setServo
  refine .ite ?_ ?_
  · exact .refl _
  · refine .step (raiseA_frame _ _ _) (by decide) ?_
    refine .step (State.setObjN_frame _ _ _ _) (by decide) ?_
    refine .step (State.updTime_frame _ _) (by decide) ?_
    exact .refl _

theorem resumeSeries_frame (s : State) : Frame [.time, .net] s (resumeSeries s) := by
  unfold resumeSeries
  refine .set_net (by decide) ?_
  refine .step (State.updTime_frame _ _) (by decide) ?_
  exact .refl _

theorem stepCounters_frame (s : State) (k : Line) : Frame [.objs, .ex, .time, .sorus, .net] s (stepCounters s k) := by
  unfold stepCounters
  refine .step (raiseA_frame _ _ _) (by decide) ?_
  refine .step (resumeSeries_frame _) (by decide) ?_
  refine .step (State.updTime_frame _ _) (by decide) ?_
  exact .refl _

theorem noteRate_frame (s : State) : Frame [.time] s (noteRate s) := by
  unfold noteRate
  refine .step (State.updTime_frame _ _) (by decide) ?_
  exact .refl _

theorem fitUpdate_frame (s : State) (at_ : Int) (o : Int) : Frame [.objs, .ex, .time, .sorus, .net] s (fitUpdate s at_ o) := by
  unfold fitUpdate
  refine .ite ?_ ?_
  · refine .step (noteRate_frame _) (by decide) ?_
    refine .ite ?_ ?_
    · refine .step (setServo_frame _ _) (by decide) ?_
      refine .step (stepCounters_frame _ _) (by decide) ?_
      refine .step (State.updTime_frame _ _) (by decide) ?_
      exact .refl _
    · refine .step (setRate_frame _ _) (by decide) ?_
      refine .step (setServo_frame _ _) (by decide) ?_
      refine .step (stepCounters_frame _ _) (by decide) ?_
      refine .step (State.updTime_frame _ _) (by decide) ?_
      exact .refl _
  · refine .step (State.updTime_frame _ _) (by decide) ?_
    exact .refl _

theorem servoLaw_frame (s : State) (o : Int) (ts : Int) : Frame [.objs, .time] s (servoLaw s o ts) := by
  unfold servoLaw
  refine .step (setRate_frame _ _) (by decide) ?_
  refine .step (State.updTime_frame _ _) (by decide) ?_
  exact .refl _

theorem judgeLock_frame (s : State) (o : Int) (held : Bool) : Frame [.objs, .ex, .time, .sorus] s (judgeLock s o held) := by
  unfold judgeLock
  conv => zeta
  split
  · refine .ite ?_ ?_
    · refine .step (setServo_frame _ _) (by decide) ?_
      refine .step (State.updTime_frame _ _) (by decide) ?_
      refine .ite ?_ ?_
      · refine .step (setServo_frame _ _) (by decide) ?_
        exact .refl _
      · exact .refl _
    · refine .step (State.updTime_frame _ _) (by decide) ?_
      refine .ite ?_ ?_
      · refine .step (setServo_frame _ _) (by decide) ?_
        exact .refl _
      · exact .refl _
  · refine .ite ?_ ?_
    · refine .step (setServo_frame _ _) (by decide) ?_
      refine .step (State.updTime_frame _ _) (by decide) ?_
      refine .ite ?_ ?_
      · refine .step (setServo_frame _ _) (by decide) ?_
        exact .refl _
      · exact .refl _
    · refine .step (State.updTime_frame _ _) (by decide) ?_
      refine .ite ?_ ?_
      · refine .step (setServo_frame _ _) (by decide) ?_
        exact .refl _
      · exact .refl _
  · refine .step (State.updTime_frame _ _) (by decide) ?_
    refine .ite ?_ ?_
    · refine .step (setServo_frame _ _) (by decide) ?_
      exact .refl _
    · exact .refl _

theorem judgeAlarm_frame (s : State) (o : Int) : Frame [.objs, .ex, .time, .sorus] s (judgeAlarm s o) := by
  unfold judgeAlarm
  refine .ite ?_ ?_
  · refine .step (State.updTime_frame _ _) (by decide) ?_
    exact .refl _
  · refine .ite ?_ ?_
    · refine .step (raiseA_frame _ _ _) (by decide) ?_
      refine .step (State.updTime_frame _ _) (by decide) ?_
      refine .step (State.updTime_frame _ _) (by decide) ?_
      exact .refl _
    · refine .step (State.updTime_frame _ _) (by decide) ?_
      exact .refl _

theorem servoBoundary_frame (s : State) : Frame [.objs, .ex, .funcs, .time, .sorus] s (servoBoundary s) := by
  unfold servoBoundary
  refine .ite ?_ ?_
  · refine .step (State.updTime_frame _ _) (by decide) ?_
    refine .ite ?_ ?_
    · refine .step (fallback_frame _ _) (by decide) ?_
      exact .refl _
    · refine .step (atModeBoundary_frame _ _) (by decide) ?_
      exact .refl _
  · refine .ite ?_ ?_
    · refine .step (State.updTime_frame _ _) (by decide) ?_
      refine .ite ?_ ?_
      · refine .step (fallback_frame _ _) (by decide) ?_
        exact .refl _
      · refine .step (atModeBoundary_frame _ _) (by decide) ?_
        exact .refl _
    · refine .ite ?_ ?_
      · refine .step (State.updTime_frame _ _) (by decide) ?_
        refine .ite ?_ ?_
        · refine .step (fallback_frame _ _) (by decide) ?_
          exact .refl _
        · refine .step (atModeBoundary_frame _ _) (by decide) ?_
          exact .refl _
      · refine .ite ?_ ?_
        · refine .step (fallback_frame _ _) (by decide) ?_
          exact .refl _
        · refine .step (atModeBoundary_frame _ _) (by decide) ?_
          exact .refl _

theorem servoUpdate_frame (s : State) (o : Int) (ts : Int) (at_ : Int) (held : Bool) :
    Frame [.objs, .ex, .funcs, .time, .sorus, .net] s (servoUpdate s o ts at_ held) := by
  unfold servoUpdate
  refine .ite ?_ ?_
  · refine .step (fitUpdate_frame _ _ _) (by decide) ?_
    refine .step (servoBoundary_frame _) (by decide) ?_
    refine .step (State.incWrap_frame _ _ _) (by decide) ?_
    refine .step (State.setObj_frame _ _ _ _) (by decide) ?_
    exact .refl _
  · refine .step (noteRate_frame _) (by decide) ?_
    refine .ite ?_ ?_
    · refine .step (judgeAlarm_frame _ _) (by decide) ?_
      refine .step (judgeLock_frame _ _ _) (by decide) ?_
      refine .step (servoBoundary_frame _) (by decide) ?_
      refine .step (State.incWrap_frame _ _ _) (by decide) ?_
      refine .step (State.setObj_frame _ _ _ _) (by decide) ?_
      exact .refl _
    · refine .step (servoLaw_frame _ _ _) (by decide) ?_
      refine .step (judgeAlarm_frame _ _) (by decide) ?_
      refine .step (judgeLock_frame _ _ _) (by decide) ?_
      refine .step (servoBoundary_frame _) (by decide) ?_
      refine .step (State.incWrap_frame _ _ _) (by decide) ?_
      refine .step (State.setObj_frame _ _ _ _) (by decide) ?_
      exact .refl _

theorem selectMaster_frame (s : State) : Frame [.objs, .octs, .ex, .time, .sorus] s (selectMaster s) := by
  unfold selectMaster
  conv => zeta
  split
  · exact .refl _
  · refine .ite ?_ ?_
    · exact .refl _
    · refine .step (raiseA_frame _ _ _) (by decide) ?_
      refine .step (State.setObj_frame _ _ _ _) (by decide) ?_
      refine .step (State.setOct_frame _ _ _ _) (by decide) ?_
      refine .step (State.updTime_frame _ _) (by decide) ?_
      exact .refl _

theorem State.putMaster_frame (s : State) (m : Master) : Frame [.time] s (State.putMaster s m) := by
  unfold State.putMaster
  refine .step (State.updTime_frame _ _) (by decide) ?_
  exact .refl _

theorem announceIn_frame (s : State) (m : PtpMsg) : Frame [.objs, .octs, .ex, .time, .sorus] s (announceIn s m) := by
  unfold announceIn
  refine .ite ?_ ?_
  · refine .step (State.setObj_frame _ _ _ _) (by decide) ?_
    refine .step (selectMaster_frame _) (by decide) ?_
    refine .step (State.putMaster_frame _ _) (by decide) ?_
    exact .refl _
  · refine .step (selectMaster_frame _) (by decide) ?_
    refine .step (State.putMaster_frame _ _) (by decide) ?_
    exact .refl _

theorem measure_frame (s : State) (origin : Int) (stamp : Int) (corr : Int) :
    Frame [.time] s (Machine.measure s origin stamp corr) := by
  unfold Machine.measure
  refine .step (State.updTime_frame _ _) (by decide) ?_
  exact .refl _

theorem syncIn_frame (s : State) (m : PtpMsg) : Frame [.time] s (syncIn s m) := by
  unfold syncIn
  refine .ite ?_ ?_
  · split
    · refine .step (State.putMaster_frame _ _) (by decide) ?_
      exact .refl _
    · exact .refl _
  · refine .ite ?_ ?_
    · refine .step (State.updTime_frame _ _) (by decide) ?_
      split
      · refine .step (State.putMaster_frame _ _) (by decide) ?_
        exact .refl _
      · exact .refl _
    · refine .step (measure_frame _ _ _ _) (by decide) ?_
      split
      · refine .step (State.putMaster_frame _ _) (by decide) ?_
        exact .refl _
      · exact .refl _

theorem followUp_frame (s : State) (m : PtpMsg) : Frame [.time] s (followUp s m) := by
  unfold followUp
  split
  · refine .ite ?_ ?_
    · refine .step (measure_frame _ _ _ _) (by decide) ?_
      refine .step (State.updTime_frame _ _) (by decide) ?_
      exact .refl _
    · exact .refl _
  · exact .refl _

theorem delayMeasured_frame (s : State) (twice : Int) : Frame [.objs, .time] s (delayMeasured s twice) := by
  unfold delayMeasured
  refine .step (State.setObjN_frame _ _ _ _) (by decide) ?_
  refine .step (State.updTime_frame _ _) (by decide) ?_
  exact .refl _

theorem delayResp_frame (s : State) (m : PtpMsg) : Frame [.objs, .time] s (delayResp s m) := by
  unfold delayResp
  split
  · refine .ite ?_ ?_
    · refine .step (delayMeasured_frame _ _) (by decide) ?_
      refine .step (State.updTime_frame _ _) (by decide) ?_
      exact .refl _
    · exact .refl _
  · exact .refl _

theorem pdelayResp_frame (s : State) (m : PtpMsg) : Frame [.objs, .time] s (pdelayResp s m) := by
  unfold pdelayResp
  split
  · refine .ite ?_ ?_
    · refine .ite ?_ ?_
      · refine .step (State.updTime_frame _ _) (by decide) ?_
        exact .refl _
      · refine .step (delayMeasured_frame _ _) (by decide) ?_
        exact .refl _
    · exact .refl _
  · exact .refl _

theorem pdelayFollowUp_frame (s : State) (m : PtpMsg) : Frame [.objs, .time] s (pdelayFollowUp s m) := by
  unfold pdelayFollowUp
  split
  · refine .ite ?_ ?_
    · refine .step (delayMeasured_frame _ _) (by decide) ?_
      exact .refl _
    · exact .refl _
  · exact .refl _

theorem pdelayReq_frame (s : State) (m : PtpMsg) : Frame [.time] s (pdelayReq s m) := by
  unfold pdelayReq
  refine .ite ?_ ?_
  · refine .step (State.updTime_frame _ _) (by decide) ?_
    exact .refl _
  · exact .refl _

theorem ptpTake_frame (s : State) (m : PtpMsg) : Frame [.objs, .octs, .ex, .time, .sorus] s (ptpTake s m) := by
  unfold ptpTake
  split
  · refine .step (syncIn_frame _ _) (by decide) ?_
    exact .refl _
  · refine .step (pdelayReq_frame _ _) (by decide) ?_
    exact .refl _
  · refine .step (pdelayResp_frame _ _) (by decide) ?_
    exact .refl _
  · refine .step (followUp_frame _ _) (by decide) ?_
    exact .refl _
  · refine .step (delayResp_frame _ _) (by decide) ?_
    exact .refl _
  · refine .step (pdelayFollowUp_frame _ _) (by decide) ?_
    exact .refl _
  · refine .step (announceIn_frame _ _) (by decide) ?_
    exact .refl _
  · exact .refl _

theorem takeFrame_frame (s : State) (m : PtpMsg) : Frame [.net] s (takeFrame s m) := by
  unfold takeFrame
  conv => zeta
  split
  · refine .set_net (by decide) ?_
    exact .refl _
  · exact .refl _

theorem execPtpMessage_frame (m : PtpMsg) (s : State) (s' : State) (h : execPtpMessage m s = .next s') :
    Frame [.objs, .octs, .ex, .time, .sorus, .net] s s' := by
  unfold execPtpMessage at h
  refine finish_frame h ?_
  refine .ite ?_ ?_
  · exact .refl _
  · refine .ite ?_ ?_
    · refine .step (State.inc64_frame _ _ _ _) (by decide) ?_
      refine .step (takeFrame_frame _ _) (by decide) ?_
      exact .refl _
    · refine .ite ?_ ?_
      · refine .step (takeFrame_frame _ _) (by decide) ?_
        exact .refl _
      · refine .step (ptpTake_frame _ _) (by decide) ?_
        refine .step (takeFrame_frame _ _) (by decide) ?_
        exact .refl _

theorem takeMeasurement_frame (s : State) : Frame [.objs, .ex, .funcs, .time, .sorus, .net] s (takeMeasurement s) := by
  unfold takeMeasurement
  split
  · refine .step (servoUpdate_frame _ _ _ _ _) (by decide) ?_
    refine .step (State.updTime_frame _ _) (by decide) ?_
    exact .refl _
  · exact .refl _

theorem execServoUpdate_frame (o : Int) (ts : Int) (s : State) (s' : State) (h : execServoUpdate o ts s = .next s') :
    Frame [.objs, .ex, .funcs, .time, .sorus, .net] s s' := by
  unfold execServoUpdate at h
  refine finish_frame h ?_
  refine .ite ?_ ?_
  · refine .step (takeMeasurement_frame _) (by decide) ?_
    exact .refl _
  · exact .refl _

theorem execFallbackTimeServo_frame (s : State) (s' : State) (h : execFallbackTimeServo s = .next s') :
    Frame [.objs, .ex, .funcs, .time, .sorus, .net] s s' := by
  unfold execFallbackTimeServo at h
  refine finish_frame h ?_
  refine .ite ?_ ?_
  · refine .step (takeMeasurement_frame _) (by decide) ?_
    exact .refl _
  · exact .refl _

theorem execDelayReqSend_frame (s : State) (s' : State) (h : execDelayReqSend s = .next s') :
    Frame [.ex, .time] s s' := by
  unfold execDelayReqSend at h
  refine finish_frame h ?_
  conv => zeta
  split
  · exact .refl _
  · refine .ite ?_ ?_
    · split
      refine .step (State.updTime_frame _ _) (by decide) ?_
      refine .snd (by assumption) ?_
      refine .step (State.fresh_frame _) (by decide) ?_
      exact .refl _
    · exact .refl _

theorem holdRate_frame (s : State) : Frame [.objs] s (holdRate s) := by
  unfold holdRate
  refine .ite ?_ ?_
  · exact .refl _
  · refine .step (setRate_frame _ _) (by decide) ?_
    exact .refl _

theorem loseMaster_frame (s : State) (m : Master) (cause : Nat) :
    Frame [.objs, .octs, .ex, .time, .sorus] s (loseMaster s m cause) := by
  unfold loseMaster
  refine .ite ?_ ?_
  · refine .step (selectMaster_frame _) (by decide) ?_
    refine .step (raiseA_frame _ _ _) (by decide) ?_
    refine .step (State.updTime_frame _ _) (by decide) ?_
    exact .refl _
  · refine .ite ?_ ?_
    · refine .step (holdRate_frame _) (by decide) ?_
      refine .step (setServo_frame _ _) (by decide) ?_
      refine .step (State.setOct_frame _ _ _ _) (by decide) ?_
      refine .step (selectMaster_frame _) (by decide) ?_
      refine .step (raiseA_frame _ _ _) (by decide) ?_
      refine .step (State.updTime_frame _ _) (by decide) ?_
      exact .refl _
    · refine .step (State.setOct_frame _ _ _ _) (by decide) ?_
      refine .step (selectMaster_frame _) (by decide) ?_
      refine .step (raiseA_frame _ _ _) (by decide) ?_
      refine .step (State.updTime_frame _ _) (by decide) ?_
      exact .refl _

theorem execMasterLost_frame (cause : Nat) (s : State) (s' : State) (h : execMasterLost cause s = .next s') :
    Frame [.objs, .octs, .ex, .time, .sorus] s s' := by
  unfold execMasterLost at h
  refine finish_frame h ?_
  split
  · refine .ite ?_ ?_
    · refine .step (loseMaster_frame _ _ _) (by decide) ?_
      exact .refl _
    · exact .refl _
  · exact .refl _

theorem effTimeRate_frame (r : Int) (s : State) : Frame1 [.objs, .time] s (effTimeRate r s) := by
  unfold effTimeRate
  refine .ite ?_ ?_
  · refine .pair ?_
    exact .refl _
  · refine .pair ?_
    refine .step (State.updTime_frame _ _) (by decide) ?_
    refine .step (setRate_frame _ _) (by decide) ?_
    exact .refl _

theorem execTimeRate_frame (sess : Nat) (r : Int) (s : State) (s' : State) (h : execTimeRate sess r s = .next s') :
    Frame [.objs, .ex, .time, .sorus, .lib] s s' := by
  unfold execTimeRate at h
  refine finish_frame h ?_
  refine hostWrite_frame (by decide) (fun _ => ?_) ?_ 
  · refine .step (effTimeRate_frame _ _) (by decide) ?_
    exact .refl _
  · exact .refl _

theorem domainReset_frame (s : State) : Frame [.objs, .ex, .time, .sorus, .net] s (domainReset s) := by
  unfold domainReset
  refine .step (raiseA_frame _ _ _) (by decide) ?_
  refine .step (clearGates_frame _) (by decide) ?_
  refine .step (State.incWrap_frame _ _ _) (by decide) ?_
  refine .foldl (fun _ _ => ?_) ?_
  · refine .step (State.setObjN_frame _ _ _ _) (by decide) ?_
    exact .refl _
  · refine .step (State.updTime_frame _ _) (by decide) ?_
    refine .step (setServo_frame _ _) (by decide) ?_
    exact .refl _

theorem effTimeReset_frame (s : State) : Frame1 [.objs, .ex, .time, .sorus, .net] s (effTimeReset s) := by
  unfold effTimeReset
  refine .ite ?_ ?_
  · refine .pair ?_
    exact .refl _
  · refine .pair ?_
    refine .step (domainReset_frame _) (by decide) ?_
    exact .refl _

theorem execTimeReset_frame (sess : Nat) (s : State) (s' : State) (h : execTimeReset sess s = .next s') :
    Frame [.objs, .ex, .time, .sorus, .lib, .net] s s' := by
  unfold execTimeReset at h
  refine finish_frame h ?_
  refine hostWrite_frame (by decide) (fun _ => ?_) ?_ 
  · refine .step (effTimeReset_frame _) (by decide) ?_
    exact .refl _
  · exact .refl _

theorem ppsEdge_frame (s : State) : Frame [.objs, .ex, .funcs, .time, .sorus, .net] s (ppsEdge s) := by
  unfold ppsEdge
  refine .ite ?_ ?_
  · exact .refl _
  · refine .ite ?_ ?_
    · refine .step (servoUpdate_frame _ _ _ _ _) (by decide) ?_
      refine .ite ?_ ?_
      · refine .step (State.updTime_frame _ _) (by decide) ?_
        refine .step (State.setObj_frame _ _ _ _) (by decide) ?_
        exact .refl _
      · refine .step (raiseA_frame _ _ _) (by decide) ?_
        refine .step (State.setObj_frame _ _ _ _) (by decide) ?_
        refine .step (State.updTime_frame _ _) (by decide) ?_
        refine .step (State.setObj_frame _ _ _ _) (by decide) ?_
        exact .refl _
    · refine .ite ?_ ?_
      · refine .step (State.updTime_frame _ _) (by decide) ?_
        refine .step (State.setObj_frame _ _ _ _) (by decide) ?_
        exact .refl _
      · refine .step (raiseA_frame _ _ _) (by decide) ?_
        refine .step (State.setObj_frame _ _ _ _) (by decide) ?_
        refine .step (State.updTime_frame _ _) (by decide) ?_
        refine .step (State.setObj_frame _ _ _ _) (by decide) ?_
        exact .refl _

theorem execPpsInEdge_frame (s : State) (s' : State) (h : execPpsInEdge s = .next s') :
    Frame [.objs, .ex, .funcs, .time, .sorus, .net] s s' := by
  unfold execPpsInEdge at h
  refine finish_frame h ?_
  refine .ite ?_ ?_
  · exact .refl _
  · refine .step (ppsEdge_frame _) (by decide) ?_
    exact .refl _

theorem execPpsInLost_frame (s : State) (s' : State) (h : execPpsInLost s = .next s') :
    Frame [.objs, .ex, .sorus] s s' := by
  unfold execPpsInLost at h
  refine finish_frame h ?_
  refine .ite ?_ ?_
  · refine .step (raiseA_frame _ _ _) (by decide) ?_
    refine .step (State.setObj_frame _ _ _ _) (by decide) ?_
    exact .refl _
  · exact .refl _

theorem startPulse_frame (s : State) (k : Nat) : Frame [.time] s (startPulse s k) := by
  unfold startPulse
  refine .step (State.updTime_frame _ _) (by decide) ?_
  exact .refl _

theorem effPulseApply_frame (k : Nat) (s : State) : Frame1 [.objs, .octs, .staged, .stagedOcts, .time] s (effPulseApply k s) := by
  unfold effPulseApply
  refine .ite ?_ ?_
  · refine .pair ?_
    exact .refl _
  · refine .ite ?_ ?_
    · refine .pair ?_
      exact .refl _
    · refine .pair ?_
      refine .step (startPulse_frame _ _) (by decide) ?_
      refine .foldl (fun _ _ => ?_) ?_
      · refine .step (State.applyStagedAt_frame _ _ _) (by decide) ?_
        exact .refl _
      · exact .refl _

theorem execPulseApply_frame (sess : Nat) (k : Nat) (s : State) (s' : State) (h : execPulseApply sess k s = .next s') :
    Frame [.objs, .octs, .staged, .stagedOcts, .ex, .time, .sorus, .lib] s s' := by
  unfold execPulseApply at h
  refine finish_frame h ?_
  refine hostWrite_frame (by decide) (fun _ => ?_) ?_ 
  · refine .step (effPulseApply_frame _ _) (by decide) ?_
    exact .refl _
  · exact .refl _

theorem execPulseEdge_frame (k : Nat) (s : State) (s' : State) (h : execPulseEdge k s = .next s') :
    Frame [.ex, .time] s s' := by
  unfold execPulseEdge at h
  refine finish_frame h ?_
  split
  · refine .step (State.updTime_frame _ _) (by decide) ?_
    exact .refl _
  · exact .refl _

theorem effLaunchStart_frame (l : Nat) (s : State) :
    Frame1 [.objs, .octs, .staged, .stagedOcts, .time] s (effLaunchStart l s) := by
  unfold effLaunchStart
  refine .ite ?_ ?_
  · refine .pair ?_
    exact .refl _
  · refine .ite ?_ ?_
    · refine .pair ?_
      exact .refl _
    · refine .pair ?_
      refine .step (State.updTime_frame _ _) (by decide) ?_
      refine .foldl (fun _ _ => ?_) ?_
      · refine .step (State.applyStagedAt_frame _ _ _) (by decide) ?_
        exact .refl _
      · exact .refl _

theorem effLaunchStop_frame (l : Nat) (s : State) : Frame1 [.time] s (effLaunchStop l s) := by
  unfold effLaunchStop
  refine .pair ?_
  refine .step (State.updTime_frame _ _) (by decide) ?_
  exact .refl _

theorem execLaunchStart_frame (sess : Nat) (l : Nat) (s : State) (s' : State) (h : execLaunchStart sess l s = .next s') :
    Frame [.objs, .octs, .staged, .stagedOcts, .ex, .time, .sorus, .lib] s s' := by
  unfold execLaunchStart at h
  refine finish_frame h ?_
  refine hostWrite_frame (by decide) (fun _ => ?_) ?_ 
  · refine .step (effLaunchStart_frame _ _) (by decide) ?_
    exact .refl _
  · exact .refl _

theorem execLaunchStop_frame (sess : Nat) (l : Nat) (s : State) (s' : State) (h : execLaunchStop sess l s = .next s') :
    Frame [.objs, .ex, .time, .sorus, .lib] s s' := by
  unfold execLaunchStop at h
  refine finish_frame h ?_
  refine hostWrite_frame (by decide) (fun _ => ?_) ?_ 
  · refine .step (effLaunchStop_frame _ _) (by decide) ?_
    exact .refl _
  · exact .refl _

theorem launchNow_frame (s : State) (l : Nat) (e : Launch) (t : Int) :
    Frame [.objs, .ex, .time, .sorus, .net] s (launchNow s l e t) := by
  unfold launchNow
  conv => zeta
  split
  refine .step (State.updTime_frame _ _) (by decide) ?_
  refine .ite ?_ ?_
  · refine .step (State.incWrap_frame _ _ _) (by decide) ?_
    refine .fst (by assumption) ?_
    refine .step (enqueue_frame _ _ _ _) (by decide) ?_
    exact .refl _
  · refine .step (State.incSat_frame _ _ _ _) (by decide) ?_
    refine .step (State.incWrap_frame _ _ _) (by decide) ?_
    refine .fst (by assumption) ?_
    refine .step (enqueue_frame _ _ _ _) (by decide) ?_
    exact .refl _

theorem execLaunchInstant_frame (l : Nat) (s : State) (s' : State) (h : execLaunchInstant l s = .next s') :
    Frame [.objs, .ex, .time, .sorus, .net] s s' := by
  unfold execLaunchInstant at h
  refine finish_frame h ?_
  split
  · split
    · refine .ite ?_ ?_
      · refine .step (launchNow_frame _ _ _ _) (by decide) ?_
        exact .refl _
      · exact .refl _
    · exact .refl _
  · exact .refl _

theorem endBurst_frame (s : State) (i : Nat) (t : Nat) (written : Nat) (abandoned : Nat) :
    Frame [.objs, .hbm, .ex, .sorus, .lib, .mat] s (endBurst s i t written abandoned) := by
  unfold endBurst
  refine .ite ?_ ?_
  · refine .step (cutWriteBack_frame _ _) (by decide) ?_
    refine .step (abortBurst_frame _ _ _ _ _ _) (by decide) ?_
    refine .step (initEnd_frame _ _ _) (by decide) ?_
    exact .refl _
  · refine .step (initEnd_frame _ _ _) (by decide) ?_
    exact .refl _

theorem execBeatTimeout_frame (i : Nat) (t : Nat) (written : Nat) (abandoned : Nat) (s : State) (s' : State) (h : execBeatTimeout i t written abandoned s = .next s') :
    Frame [.objs, .hbm, .ex, .sorus, .lib, .mat] s s' := by
  unfold execBeatTimeout at h
  refine finish_frame h ?_
  refine .ite ?_ ?_
  · refine .step (endBurst_frame _ _ _ _ _) (by decide) ?_
    exact .refl _
  · exact .refl _

theorem breakLock_frame (s : State) (i : Nat) (holdNs : Nat) : Frame [.objs, .ex, .sorus, .mat] s (breakLock s i holdNs) := by
  unfold breakLock
  conv => zeta
  split
  split
  refine .step (raiseS_frame _ _ _) (by decide) ?_
  refine .step (releaseLock_frame _ _) (by decide) ?_
  refine .step (State.incSat_frame _ _ _ _) (by decide) ?_
  refine .foldl (fun _ _ => ?_) ?_
  · refine .step (answerError_frame _ _ _) (by decide) ?_
    exact .refl _
  · refine .step (State.setMatPort_frame _ _ _) (by decide) ?_
    exact .refl _

theorem execLockBroken_frame (i : Nat) (holdNs : Nat) (s : State) (s' : State) (h : execLockBroken i holdNs s = .next s') :
    Frame [.objs, .ex, .sorus, .mat] s s' := by
  unfold execLockBroken at h
  refine finish_frame h ?_
  refine .ite ?_ ?_
  · refine .step (breakLock_frame _ _ _) (by decide) ?_
    exact .refl _
  · exact .refl _

theorem fixTarget_frame (s : State) (t : Nat) : Frame [.objs, .dev, .ex, .sorus, .mat] s (fixTarget s t) := by
  unfold fixTarget
  refine .ite ?_ ?_
  · exact .refl _
  · refine .step (raiseS_frame _ _ _) (by decide) ?_
    refine .step (State.fault_frame _ _) (by decide) ?_
    refine .step (State.setObjN_frame _ _ _ _) (by decide) ?_
    refine .set_mat (by decide) ?_
    exact .refl _

theorem execMatrixFault_frame (t : Nat) (s : State) (s' : State) (h : execMatrixFault t s = .next s') :
    Frame [.objs, .dev, .ex, .sorus, .mat] s s' := by
  unfold execMatrixFault at h
  refine finish_frame h ?_
  refine .ite ?_ ?_
  · refine .step (fixTarget_frame _ _) (by decide) ?_
    exact .refl _
  · exact .refl _

theorem effArbReset_frame (s : State) : Frame1 [.objs, .dev, .mat] s (effArbReset s) := by
  unfold effArbReset
  refine .ite ?_ ?_
  · refine .pair ?_
    exact .refl _
  · refine .pair ?_
    refine .set_mat (by decide) ?_
    refine .foldl (fun _ _ => ?_) ?_
    · refine .step (State.unfault_frame _ _) (by decide) ?_
      refine .step (State.setObjN_frame _ _ _ _) (by decide) ?_
      exact .refl _
    · exact .refl _

theorem execArbReset_frame (sess : Nat) (s : State) (s' : State) (h : execArbReset sess s = .next s') :
    Frame [.objs, .dev, .ex, .sorus, .lib, .mat] s s' := by
  unfold execArbReset at h
  refine finish_frame h ?_
  refine hostWrite_frame (by decide) (fun _ => ?_) ?_ 
  · refine .step (effArbReset_frame _) (by decide) ?_
    exact .refl _
  · exact .refl _

theorem slotError_frame (s : State) (slot : Nat) (initiator : Nat) :
    Frame [.objs, .hbm, .ex, .sorus, .lib, .mat] s (slotError s slot initiator) := by
  unfold slotError
  refine .ite ?_ ?_
  · exact .refl _
  · refine .ite ?_ ?_
    · refine .set_mat (by decide) ?_
      exact .refl _
    · refine .ite ?_ ?_
      · refine .step (finishWriteBack_frame _) (by decide) ?_
        exact .refl _
      · refine .ite ?_ ?_
        · exact .refl _
        · refine .step (invalidate_frame _ _ _) (by decide) ?_
          exact .refl _

theorem pageReload_frame (s : State) (page : Nat) :
    Frame [.objs, .octs, .lobes, .drv, .loops, .mon, .cal] s (pageReload s page) := by
  unfold pageReload
  refine .step (applyValues_frame _ _ _) (by decide) ?_
  exact .refl _

theorem hbmError_frame (s : State) (addr : Nat) (initiator : Nat) :
    Frame [.objs, .octs, .hbm, .dev, .ex, .lobes, .sorus, .drv, .loops, .mon, .cal, .lib, .com, .mat] s (hbmError s addr initiator) := by
  unfold hbmError
  conv => zeta
  split
  · refine .step (slotError_frame _ _ _) (by decide) ?_
    refine .set_mat (by decide) ?_
    refine .step (raiseS_frame _ _ _) (by decide) ?_
    refine .step (State.setObjN_frame _ _ _ _) (by decide) ?_
    refine .step (State.incSat_frame _ _ _ _) (by decide) ?_
    exact .refl _
  · refine .set_mat (by decide) ?_
    refine .step (raiseS_frame _ _ _) (by decide) ?_
    refine .step (State.setObjN_frame _ _ _ _) (by decide) ?_
    refine .step (State.incSat_frame _ _ _ _) (by decide) ?_
    exact .refl _
  · refine .step (pageReload_frame _ _) (by decide) ?_
    refine .step (raiseS_frame _ _ _) (by decide) ?_
    refine .step (State.setObjN_frame _ _ _ _) (by decide) ?_
    refine .step (State.incSat_frame _ _ _ _) (by decide) ?_
    exact .refl _
  · refine .set_mat (by decide) ?_
    refine .step (raiseS_frame _ _ _) (by decide) ?_
    refine .step (State.setObjN_frame _ _ _ _) (by decide) ?_
    refine .step (State.incSat_frame _ _ _ _) (by decide) ?_
    exact .refl _
  · refine .step (yieldLobe_frame _ _ _) (by decide) ?_
    refine .step (raiseS_frame _ _ _) (by decide) ?_
    refine .step (State.setObjN_frame _ _ _ _) (by decide) ?_
    refine .step (State.incSat_frame _ _ _ _) (by decide) ?_
    exact .refl _

theorem execHbmUe_frame (addr : Nat) (initiator : Nat) (s : State) (s' : State) (h : execHbmUe addr initiator s = .next s') :
    Frame [.objs, .octs, .hbm, .dev, .ex, .lobes, .sorus, .drv, .loops, .mon, .cal, .lib, .com, .mat] s s' := by
  unfold execHbmUe at h
  refine finish_frame h ?_
  refine .ite ?_ ?_
  · refine .step (hbmError_frame _ _ _) (by decide) ?_
    exact .refl _
  · exact .refl _

theorem sramError_frame (s : State) (addr : Nat) (initiator : Nat) :
    Frame [.objs, .ex, .sorus, .mat] s (sramError s addr initiator) := by
  unfold sramError
  refine .step (raiseS_frame _ _ _) (by decide) ?_
  refine .ite ?_ ?_
  · refine .set_mat (by decide) ?_
    refine .step (State.setObjN_frame _ _ _ _) (by decide) ?_
    refine .step (State.incSat_frame _ _ _ _) (by decide) ?_
    exact .refl _
  · refine .ite ?_ ?_
    · refine .set_mat (by decide) ?_
      refine .step (State.setObjN_frame _ _ _ _) (by decide) ?_
      refine .step (State.incSat_frame _ _ _ _) (by decide) ?_
      exact .refl _
    · refine .ite ?_ ?_
      · refine .set_mat (by decide) ?_
        refine .step (State.setObjN_frame _ _ _ _) (by decide) ?_
        refine .step (State.incSat_frame _ _ _ _) (by decide) ?_
        exact .refl _
      · refine .step (State.setObjN_frame _ _ _ _) (by decide) ?_
        refine .step (State.incSat_frame _ _ _ _) (by decide) ?_
        exact .refl _

theorem execSramUe_frame (addr : Nat) (initiator : Nat) (s : State) (s' : State) (h : execSramUe addr initiator s = .next s') :
    Frame [.objs, .ex, .sorus, .mat] s s' := by
  unfold execSramUe at h
  refine finish_frame h ?_
  refine .ite ?_ ?_
  · refine .step (sramError_frame _ _ _) (by decide) ?_
    exact .refl _
  · exact .refl _

theorem correctedIn_frame (s : State) (addrs : List Nat) (k : Nat) :
    Frame [.objs, .ex, .sorus, .mat] s (correctedIn s addrs k) := by
  unfold correctedIn
  conv => zeta
  split
  · exact .refl _
  · split
    refine .ite ?_ ?_
    · refine .step (raiseS_frame _ _ _) (by decide) ?_
      refine .set_mat (by decide) ?_
      refine .step (State.inc64_frame _ _ _ _) (by decide) ?_
      exact .refl _
    · refine .set_mat (by decide) ?_
      refine .step (State.inc64_frame _ _ _ _) (by decide) ?_
      exact .refl _

theorem nextScrub_frame (s : State) : Frame [.mat] s (nextScrub s) := by
  unfold nextScrub
  refine .set_mat (by decide) ?_
  exact .refl _

theorem execScrubDone_frame (corrected : List Nat) (uncorrectable : Nat) (s : State) (s' : State) (h : execScrubDone corrected uncorrectable s = .next s') :
    Frame [.objs, .ex, .sorus, .mat] s s' := by
  unfold execScrubDone at h
  refine finish_frame h ?_
  refine .ite ?_ ?_
  · refine .step (raiseS_frame _ _ _) (by decide) ?_
    refine .step (correctedIn_frame _ _ _) (by decide) ?_
    refine .step (correctedIn_frame _ _ _) (by decide) ?_
    refine .step (nextScrub_frame _) (by decide) ?_
    exact .refl _
  · exact .refl _

theorem decodeError_frame (s : State) (i : Nat) (r : MatReq) : Frame [.objs, .ex, .sorus, .mat] s (decodeError s i r) := by
  unfold decodeError
  refine .ite ?_ ?_
  · refine .step (raiseS_frame _ _ _) (by decide) ?_
    refine .set_mat (by decide) ?_
    refine .step (State.incSat_frame _ _ _ _) (by decide) ?_
    refine .step (answerError_frame _ _ _) (by decide) ?_
    exact .refl _
  · refine .step (State.incSat_frame _ _ _ _) (by decide) ?_
    refine .step (answerError_frame _ _ _) (by decide) ?_
    exact .refl _

theorem presentReq_frame (s : State) (i : Nat) (r : MatReq) : Frame [.objs, .ex, .sorus, .mat] s (presentReq s i r) := by
  unfold presentReq
  refine .ite ?_ ?_
  · refine .step (decodeError_frame _ _ _) (by decide) ?_
    exact .refl _
  · refine .ite ?_ ?_
    · refine .step (answerError_frame _ _ _) (by decide) ?_
      exact .refl _
    · refine .step (State.setMatPort_frame _ _ _) (by decide) ?_
      refine .ite ?_ ?_
      · refine .step (State.inc64_frame _ _ _ _) (by decide) ?_
        exact .refl _
      · exact .refl _

theorem serveReq_frame (s : State) (t : Nat) (i : Nat) : Frame [.objs, .mat] s (serveReq s t i) := by
  unfold serveReq
  conv => zeta
  split
  · exact .refl _
  · refine .ite ?_ ?_
    · refine .set_mat (by decide) ?_
      refine .step (State.setMatPort_frame _ _ _) (by decide) ?_
      refine .step (State.inc64_frame _ _ _ _) (by decide) ?_
      refine .set_mat (by decide) ?_
      exact .refl _
    · refine .ite ?_ ?_
      · refine .step (releaseLock_frame _ _) (by decide) ?_
        refine .step (State.setMatPort_frame _ _ _) (by decide) ?_
        refine .step (State.inc64_frame _ _ _ _) (by decide) ?_
        refine .set_mat (by decide) ?_
        exact .refl _
      · refine .step (State.setMatPort_frame _ _ _) (by decide) ?_
        refine .step (State.inc64_frame _ _ _ _) (by decide) ?_
        refine .set_mat (by decide) ?_
        exact .refl _

theorem parkIdle_frame (s : State) (t : Nat) : Frame [.mat] s (parkIdle s t) := by
  unfold parkIdle
  refine .ite ?_ ?_
  · exact .refl _
  · refine .set_mat (by decide) ?_
    exact .refl _

theorem matGrant_frame (s : State) (t : Nat) (idle : List Nat) (differ : Nat) :
    Frame [.objs, .dev, .ex, .sorus, .mat] s (matGrant s t idle differ) := by
  unfold matGrant
  refine .ite ?_ ?_
  · split
    · refine .step (parkIdle_frame _ _) (by decide) ?_
      refine .step (serveReq_frame _ _ _) (by decide) ?_
      refine .ite ?_ ?_
      · exact .refl _
      · refine .ite ?_ ?_
        · refine .step (fixTarget_frame _ _) (by decide) ?_
          exact .refl _
        · refine .ite ?_ ?_
          · refine .step (State.incSat_frame _ _ _ _) (by decide) ?_
            exact .refl _
          · exact .refl _
    · refine .ite ?_ ?_
      · exact .refl _
      · refine .ite ?_ ?_
        · refine .step (fixTarget_frame _ _) (by decide) ?_
          exact .refl _
        · refine .ite ?_ ?_
          · refine .step (State.incSat_frame _ _ _ _) (by decide) ?_
            exact .refl _
          · exact .refl _
  · conv => zeta
    split
    · refine .step (parkIdle_frame _ _) (by decide) ?_
      refine .step (serveReq_frame _ _ _) (by decide) ?_
      refine .set_mat (by decide) ?_
      refine .ite ?_ ?_
      · exact .refl _
      · refine .ite ?_ ?_
        · refine .step (fixTarget_frame _ _) (by decide) ?_
          exact .refl _
        · refine .ite ?_ ?_
          · refine .step (State.incSat_frame _ _ _ _) (by decide) ?_
            exact .refl _
          · exact .refl _
    · refine .step (parkIdle_frame _ _) (by decide) ?_
      refine .ite ?_ ?_
      · exact .refl _
      · refine .ite ?_ ?_
        · refine .step (fixTarget_frame _ _) (by decide) ?_
          exact .refl _
        · refine .ite ?_ ?_
          · refine .step (State.incSat_frame _ _ _ _) (by decide) ?_
            exact .refl _
          · exact .refl _

theorem matStep_frame (s : State) (x1 : MatStep) : Frame [.objs, .dev, .ex, .sorus, .mat] s (matStep s x1) := by
  unfold matStep
  split
  · refine .step (presentReq_frame _ _ _) (by decide) ?_
    exact .refl _
  · refine .step (matGrant_frame _ _ _ _) (by decide) ?_
    exact .refl _
  · refine .step (correctedIn_frame _ _ _) (by decide) ?_
    exact .refl _
  · refine .step (State.inc64_frame _ _ _ _) (by decide) ?_
    exact .refl _

theorem matTraffic_frame (s : State) (l : List MatStep) : Frame [.objs, .dev, .ex, .sorus, .mat] s (matTraffic s l) := by
  unfold matTraffic
  refine .ite ?_ ?_
  · exact .refl _
  · refine .foldl (fun _ _ => ?_) ?_
    · refine .step (matStep_frame _ _) (by decide) ?_
      exact .refl _
    · exact .refl _

theorem coldReset_frame (s : State) (cause : Nat) : Frame Comp.all s (coldReset s cause) :=
  fun c => .inl (by cases c <;> decide)

theorem loadLife_frame (s : State) : Frame [.objs, .dev] s (loadLife s) := by
  unfold loadLife
  refine .set_dev (by decide) ?_
  refine .step (State.setObjN_frame _ _ _ _) (by decide) ?_
  refine .step (State.setObjN_frame _ _ _ _) (by decide) ?_
  refine .step (State.setObjN_frame _ _ _ _) (by decide) ?_
  refine .step (State.setObjN_frame _ _ _ _) (by decide) ?_
  refine .step (State.setObjN_frame _ _ _ _) (by decide) ?_
  exact .refl _

theorem startReferences_frame (s : State) : Frame [.objs, .mon] s (startReferences s) := by
  unfold startReferences
  refine .foldl (fun _ _ => ?_) ?_
  · refine .step (refFollow_frame _ _) (by decide) ?_
    exact .refl _
  · exact .refl _

theorem bootStart_frame (s : State) : Frame [.tick, .objs, .dev, .ex, .sorus, .mon] s (bootStart s) := by
  unfold bootStart
  refine .step (startReferences_frame _) (by decide) ?_
  refine .step (State.enter_frame _ _) (by decide) ?_
  refine .step (loadLife_frame _) (by decide) ?_
  refine .step (State.updFlash_frame _ _) (by decide) ?_
  refine .set_tick_dev (by decide) (by decide) ?_
  exact .refl _

theorem loadSpares_frame (s : State) (b : Nat) (code : Nat) : Frame [.drv] s (loadSpares s b code) := by
  unfold loadSpares
  conv => zeta
  split
  · refine .step (State.setChan_frame _ _ _) (by decide) ?_
    refine .step (State.setBank_frame _ _ _) (by decide) ?_
    split
    · refine .step (State.setChan_frame _ _ _) (by decide) ?_
      refine .step (State.setBank_frame _ _ _) (by decide) ?_
      exact .refl _
    · refine .step (State.setBank_frame _ _ _) (by decide) ?_
      exact .refl _
  · refine .step (State.setBank_frame _ _ _) (by decide) ?_
    split
    · refine .step (State.setChan_frame _ _ _) (by decide) ?_
      refine .step (State.setBank_frame _ _ _) (by decide) ?_
      exact .refl _
    · refine .step (State.setBank_frame _ _ _) (by decide) ?_
      exact .refl _

theorem loadPage_frame (s : State) (p : SafePage) : Frame [.drv] s (loadPage s p) := by
  unfold loadPage
  refine .foldl (fun _ _ => ?_) ?_
  · refine .step (loadSpares_frame _ _ _) (by decide) ?_
    exact .refl _
  · refine .foldl (fun _ _ => ?_) ?_
    · refine .step (State.setChan_frame _ _ _) (by decide) ?_
      exact .refl _
    · refine .set_drv (by decide) ?_
      refine .step (loadRegisters_frame _ _) (by decide) ?_
      exact .refl _

theorem safeLoad_frame (s : State) : Frame [.objs, .dev, .ex, .sorus, .drv] s (safeLoad s) := by
  unfold safeLoad
  conv => zeta
  split
  split
  · refine .snd (by assumption) ?_
    refine .ite ?_ ?_
    · refine .step (State.fresh_frame _) (by decide) ?_
      exact .refl _
    · refine .pair ?_
      exact .refl _
  · refine .ite ?_ ?_
    · refine .step (raiseS_frame _ _ _) (by decide) ?_
      refine .set_dev (by decide) ?_
      refine .step (State.setObjN_frame _ _ _ _) (by decide) ?_
      refine .step (State.setObjN_frame _ _ _ _) (by decide) ?_
      refine .step (loadPage_frame _ _) (by decide) ?_
      refine .snd (by assumption) ?_
      refine .ite ?_ ?_
      · refine .step (State.fresh_frame _) (by decide) ?_
        exact .refl _
      · refine .pair ?_
        exact .refl _
    · refine .set_dev (by decide) ?_
      refine .step (State.setObjN_frame _ _ _ _) (by decide) ?_
      refine .step (State.setObjN_frame _ _ _ _) (by decide) ?_
      refine .step (loadPage_frame _ _) (by decide) ?_
      refine .snd (by assumption) ?_
      refine .ite ?_ ?_
      · refine .step (State.fresh_frame _) (by decide) ?_
        exact .refl _
      · refine .pair ?_
        exact .refl _

theorem State.setFwBank_frame (s : State) (b : Nat) (x : FwBank) : Frame [.dev] s (State.setFwBank s b x) := by
  unfold State.setFwBank
  refine .step (State.updFlash_frame _ _) (by decide) ?_
  exact .refl _

theorem bootLobe_frame (s : State) (l : Nat) (b : Nat) (other : Bool) :
    Frame [.objs, .dev, .ex, .lobes, .sorus, .com] s (bootLobe s l b other) := by
  unfold bootLobe
  refine .ite ?_ ?_
  · refine .set_dev (by decide) ?_
    refine .step (raise_frame _ _ _ _) (by decide) ?_
    refine .step (State.unfault_frame _ _) (by decide) ?_
    refine .step (State.setLobe_frame _ _ _) (by decide) ?_
    refine .step (setRole_frame _ _ _) (by decide) ?_
    refine .step (State.setLobe_frame _ _ _) (by decide) ?_
    exact .refl _
  · refine .step (raise_frame _ _ _ _) (by decide) ?_
    refine .step (State.unfault_frame _ _) (by decide) ?_
    refine .step (State.setLobe_frame _ _ _) (by decide) ?_
    refine .step (setRole_frame _ _ _) (by decide) ?_
    refine .step (State.setLobe_frame _ _ _) (by decide) ?_
    exact .refl _

theorem noFirmware_frame (s : State) (l : Nat) : Frame [.objs, .dev, .ex, .lobes, .sorus, .com] s (noFirmware s l) := by
  unfold noFirmware
  refine .step (judgeRecovery_frame _) (by decide) ?_
  refine .step (State.setLobe_frame _ _ _) (by decide) ?_
  refine .step (setRole_frame _ _ _) (by decide) ?_
  exact .refl _

theorem revertRegion_frame (s : State) (offset : Nat) : Frame [.objs, .ex, .sorus] s (revertRegion s offset) := by
  unfold revertRegion
  refine .step (State.setObjN_frame _ _ _ _) (by decide) ?_
  refine .step (raiseA_frame _ _ _) (by decide) ?_
  exact .refl _

theorem putObjs_frame (s : State) (m : SMap (SMap Int)) : Frame [.objs] s (putObjs s m) := by
  unfold putObjs
  refine .set_objs (by decide) ?_
  exact .refl _

theorem putOcts_frame (s : State) (m : SMap (SMap (List Byte))) : Frame [.octs] s (putOcts s m) := by
  unfold putOcts
  refine .set_octs (by decide) ?_
  exact .refl _

theorem followBanks_frame (s : State) : Frame [.objs, .ex, .sorus, .mon] s (followBanks s) := by
  unfold followBanks
  refine .foldl (fun _ _ => ?_) ?_
  · refine .step (refFollow_frame _ _) (by decide) ?_
    refine .ite ?_ ?_
    · exact .refl _
    · refine .step (powerBank_frame _ _ _) (by decide) ?_
      exact .refl _
  · exact .refl _

theorem followGains_frame (s : State) : Frame [.mon] s (followGains s) := by
  unfold followGains
  refine .set_mon (by decide) ?_
  exact .refl _

theorem followConfig_frame (s : State) :
    Frame [.objs, .dev, .ex, .funcs, .lobes, .time, .sorus, .steady, .mon, .com, .net, .mat] s (followConfig s) := by
  unfold followConfig
  refine .step (rePark_frame _) (by decide) ?_
  refine .foldl (fun _ _ => ?_) ?_
  · refine .step (startPulse_frame _ _) (by decide) ?_
    exact .refl _
  · refine .foldl (fun _ _ => ?_) ?_
    · refine .ite ?_ ?_
      · refine .ite ?_ ?_
        · refine .step (State.setLobe_frame _ _ _) (by decide) ?_
          exact .refl _
        · refine .step (toOffline_frame _ _ _) (by decide) ?_
          exact .refl _
      · exact .refl _
    · refine .foldl (fun _ _ => ?_) ?_
      · refine .ite ?_ ?_
        · refine .step (State.setFunc_frame _ _ _) (by decide) ?_
          exact .refl _
        · exact .refl _
      · refine .foldl (fun _ _ => ?_) ?_
        · refine .ite ?_ ?_
          · exact .refl _
          · refine .step (State.setRing_frame _ _ _) (by decide) ?_
            exact .refl _
        · refine .ite ?_ ?_
          · refine .foldl (fun _ _ => ?_) ?_
            · refine .step (takeShaper_frame _ _) (by decide) ?_
              exact .refl _
            · refine .set_steady_mon (by decide) (by decide) ?_
              refine .step (followGains_frame _) (by decide) ?_
              refine .step (followBanks_frame _) (by decide) ?_
              exact .refl _
          · refine .of1 ?_
            refine .step (effQsamplePeriod_frame _ _) (by decide) ?_
            refine .foldl (fun _ _ => ?_) ?_
            · refine .step (takeShaper_frame _ _) (by decide) ?_
              exact .refl _
            · refine .set_steady_mon (by decide) (by decide) ?_
              refine .step (followGains_frame _) (by decide) ?_
              refine .step (followBanks_frame _) (by decide) ?_
              exact .refl _

theorem loadConfig_frame (s : State) (lost : Nat → Bool) :
    Frame [.objs, .octs, .dev, .ex, .funcs, .lobes, .time, .sorus, .steady, .mon, .com, .net, .mat] s (loadConfig s lost) := by
  unfold loadConfig
  refine .step (followConfig_frame _) (by decide) ?_
  refine .step (putOcts_frame _ _) (by decide) ?_
  refine .step (putObjs_frame _ _) (by decide) ?_
  refine .step (State.updFlash_frame _ _) (by decide) ?_
  exact .refl _

theorem loadFaults_frame (s : State) (lost : Bool) : Frame [.objs, .dev] s (loadFaults s lost) := by
  unfold loadFaults
  refine .step (State.setObjN_frame _ _ _ _) (by decide) ?_
  refine .set_objs (by decide) ?_
  refine .ite ?_ ?_
  · refine .step (State.updFlash_frame _ _) (by decide) ?_
    exact .refl _
  · exact .refl _

theorem loadKeys_frame (s : State) (lost : Bool) : Frame [.objs, .dev, .ex, .sorus, .cal] s (loadKeys s lost) := by
  unfold loadKeys
  refine .step (autoStore_frame _ _) (by decide) ?_
  refine .step (noteGroupSeq_frame _) (by decide) ?_
  refine .set_ex (by decide) ?_
  refine .foldl (fun _ _ => ?_) ?_
  · refine .step (State.setObjN_frame _ _ _ _) (by decide) ?_
    exact .refl _
  · refine .set_ex (by decide) ?_
    refine .ite ?_ ?_
    · refine .step (State.updFlash_frame _ _) (by decide) ?_
      exact .refl _
    · exact .refl _

theorem loadRules_frame (s : State) (lost : Bool) : Frame [.objs, .ex, .sorus, .net] s (loadRules s lost) := by
  unfold loadRules
  refine .ite ?_ ?_
  · refine .step (raiseS_frame _ _ _) (by decide) ?_
    refine .step (State.setObjN_frame _ _ _ _) (by decide) ?_
    refine .step (State.setObjN_frame _ _ _ _) (by decide) ?_
    refine .set_net (by decide) ?_
    exact .refl _
  · refine .ite ?_ ?_
    · refine .step (raiseS_frame _ _ _) (by decide) ?_
      refine .step (State.setObjN_frame _ _ _ _) (by decide) ?_
      refine .step (State.setObjN_frame _ _ _ _) (by decide) ?_
      refine .set_net (by decide) ?_
      exact .refl _
    · refine .step (State.setObjN_frame _ _ _ _) (by decide) ?_
      refine .step (State.setObjN_frame _ _ _ _) (by decide) ?_
      refine .set_net (by decide) ?_
      exact .refl _

theorem clearTrial_frame (s : State) : Frame [.objs, .dev, .ex, .sorus, .cal] s (clearTrial s) := by
  unfold clearTrial
  refine .ite ?_ ?_
  · refine .step (autoStore_frame _ _) (by decide) ?_
    refine .set_dev (by decide) ?_
    exact .refl _
  · exact .refl _

theorem loadStored_frame (s : State) (failed : Nat) :
    Frame [.objs, .octs, .dev, .ex, .funcs, .lobes, .time, .sorus, .steady, .mon, .cal, .com, .net, .mat] s (loadStored s failed) := by
  unfold loadStored
  refine .step (clearTrial_frame _) (by decide) ?_
  refine .step (loadKeys_frame _ _) (by decide) ?_
  refine .step (loadRules_frame _ _) (by decide) ?_
  refine .step (loadFaults_frame _ _) (by decide) ?_
  refine .step (loadConfig_frame _ _) (by decide) ?_
  refine .foldl (fun _ _ => ?_) ?_
  · refine .step (revertRegion_frame _ _) (by decide) ?_
    exact .refl _
  · exact .refl _

theorem loadCalibration_frame (s : State) (failed : Nat) :
    Frame [.objs, .octs, .dev, .ex, .sorus] s (loadCalibration s failed) := by
  unfold loadCalibration
  refine .step (State.setObjN_frame _ _ _ _) (by decide) ?_
  refine .step (State.setObjN_frame _ _ _ _) (by decide) ?_
  refine .step (putOcts_frame _ _) (by decide) ?_
  refine .step (putObjs_frame _ _) (by decide) ?_
  refine .step (State.updFlash_frame _ _) (by decide) ?_
  refine .foldl (fun _ _ => ?_) ?_
  · refine .step (revertRegion_frame _ _) (by decide) ?_
    exact .refl _
  · exact .refl _

theorem selftestFail_frame (s : State) (step : Nat) (failed : Nat) :
    Frame [.objs, .dev, .ex, .sorus] s (selftestFail s step failed) := by
  unfold selftestFail
  conv => zeta
  split
  refine .ite ?_ ?_
  · refine .step (raiseA_frame _ _ _) (by decide) ?_
    refine .step (State.fault_frame _ _) (by decide) ?_
    refine .set_dev (by decide) ?_
    refine .step (State.setObjN_frame _ _ _ _) (by decide) ?_
    exact .refl _
  · refine .step (State.setObjN_frame _ _ _ _) (by decide) ?_
    exact .refl _

theorem callDark_frame (s : State) : Frame [.dev] s (callDark s) := by
  unfold callDark
  refine .set_dev (by decide) ?_
  exact .refl _

theorem loadPark_frame (s : State) : Frame1 [.objs, .hbm, .dev, .ex, .sorus, .lib, .mat] s (loadPark s) := by
  unfold loadPark
  conv => zeta
  split
  · refine .pair ?_
    refine .step (callDark_frame _) (by decide) ?_
    refine .foldl (fun _ _ => ?_) ?_
    · refine .step (revertRegion_frame _ _) (by decide) ?_
      exact .refl _
    · exact .refl _
  · refine .ite ?_ ?_
    · refine .pair ?_
      refine .step (callDark_frame _) (by decide) ?_
      refine .foldl (fun _ _ => ?_) ?_
      · refine .step (revertRegion_frame _ _) (by decide) ?_
        exact .refl _
      · exact .refl _
    · split
      · refine .pair ?_
        refine .step (invalidate_frame _ _ _) (by decide) ?_
        refine .step (State.slotWrite_frame _ _ _ _) (by decide) ?_
        refine .foldl (fun _ _ => ?_) ?_
        · refine .step (revertRegion_frame _ _) (by decide) ?_
          exact .refl _
        · exact .refl _
      · split
        refine .pair ?_
        refine .fst (by assumption) ?_
        refine .step (revalidateSlot_frame _ _) (by decide) ?_
        refine .step (State.setSlot_frame _ _ _) (by decide) ?_
        refine .step (State.slotWrite_frame _ _ _ _) (by decide) ?_
        refine .foldl (fun _ _ => ?_) ?_
        · refine .step (revertRegion_frame _ _) (by decide) ?_
          exact .refl _
        · exact .refl _

theorem trainHbm_frame (s : State) (failed : Nat) : Frame [.objs, .mat] s (trainHbm s failed) := by
  unfold trainHbm
  refine .foldl (fun _ _ => ?_) ?_
  · refine .step (State.setObjN_frame _ _ _ _) (by decide) ?_
    refine .set_mat (by decide) ?_
    exact .refl _
  · exact .refl _

theorem selftestStep_frame (s : State) (step : Nat) (failed : Nat) :
    Frame [.objs, .octs, .hbm, .dev, .ex, .funcs, .lobes, .time, .sorus, .steady, .mon, .cal, .lib, .com, .net, .mat] s (selftestStep s step failed) := by
  unfold selftestStep
  refine .ite ?_ ?_
  · refine .step (loadStored_frame _ _) (by decide) ?_
    refine .set_dev (by decide) ?_
    exact .refl _
  · refine .ite ?_ ?_
    · refine .ite ?_ ?_
      · refine .step (trainHbm_frame _ _) (by decide) ?_
        refine .set_dev (by decide) ?_
        exact .refl _
      · refine .step (selftestFail_frame _ _ _) (by decide) ?_
        refine .step (trainHbm_frame _ _) (by decide) ?_
        refine .set_dev (by decide) ?_
        exact .refl _
    · refine .ite ?_ ?_
      · refine .step (loadCalibration_frame _ _) (by decide) ?_
        refine .set_dev (by decide) ?_
        exact .refl _
      · refine .ite ?_ ?_
        · refine .ite ?_ ?_
          · refine .set_dev (by decide) ?_
            exact .refl _
          · refine .step (selftestFail_frame _ _ _) (by decide) ?_
            refine .set_dev (by decide) ?_
            exact .refl _
        · refine .ite ?_ ?_
          · conv => zeta
            split
            refine .ite ?_ ?_
            · refine .step (selftestFail_frame _ _ _) (by decide) ?_
              refine .step (callDark_frame _) (by decide) ?_
              refine .fst (by assumption) ?_
              refine .step (loadPark_frame _) (by decide) ?_
              refine .set_dev (by decide) ?_
              exact .refl _
            · refine .fst (by assumption) ?_
              refine .step (loadPark_frame _) (by decide) ?_
              refine .set_dev (by decide) ?_
              exact .refl _
          · refine .ite ?_ ?_
            · refine .set_dev (by decide) ?_
              exact .refl _
            · refine .step (selftestFail_frame _ _ _) (by decide) ?_
              refine .set_dev (by decide) ?_
              exact .refl _

theorem chooseParkImage_frame (s : State) : Frame [.objs, .hbm, .dev, .ex, .sorus, .lib, .mat] s (chooseParkImage s) := by
  unfold chooseParkImage
  conv => zeta
  split
  refine .set_dev (by decide) ?_
  refine .ite ?_ ?_
  · refine .fst (by assumption) ?_
    refine .ite ?_ ?_
    · refine .step (revalidateSlot_frame _ _) (by decide) ?_
      refine .step (promoteWriteBack_frame _ _) (by decide) ?_
      exact .refl _
    · refine .pair ?_
      refine .step (promoteWriteBack_frame _ _) (by decide) ?_
      exact .refl _
  · refine .step (routeDark_frame _ _) (by decide) ?_
    refine .step (discardRefinement_frame _ _) (by decide) ?_
    refine .fst (by assumption) ?_
    refine .ite ?_ ?_
    · refine .step (revalidateSlot_frame _ _) (by decide) ?_
      refine .step (promoteWriteBack_frame _ _) (by decide) ?_
      exact .refl _
    · refine .pair ?_
      refine .step (promoteWriteBack_frame _ _) (by decide) ?_
      exact .refl _

theorem parkLane_frame (s : State) (u : Nat) (code : Nat) : Frame [.lobes, .drv] s (parkLane s u code) := by
  unfold parkLane
  refine .ite ?_ ?_
  · refine .step (writeTarget_frame _ _ _) (by decide) ?_
    exact .refl _
  · refine .ite ?_ ?_
    · refine .step (startRamp_frame _ _ _ _ _ _) (by decide) ?_
      refine .step (noteWrite_frame _ _) (by decide) ?_
      exact .refl _
    · refine .step (noteRefused_frame _ _) (by decide) ?_
      exact .refl _

theorem parkElem_frame (slot : Nat) (s : State) (e : Nat) :
    Frame [.objs, .lobes, .sorus, .drv, .loops] s (parkElem slot s e) := by
  unfold parkElem
  refine .step (parkLane_frame _ _ _) (by decide) ?_
  refine .step (parkLane_frame _ _ _) (by decide) ?_
  refine .ite ?_ ?_
  · refine .step (State.setElem_frame _ _ _) (by decide) ?_
    exact .refl _
  · refine .step (noteRatio_frame _ _) (by decide) ?_
    refine .step (State.setObj_frame _ _ _ _) (by decide) ?_
    refine .step (State.setElem_frame _ _ _) (by decide) ?_
    exact .refl _

theorem parkVoa_frame (granted : Bool) (s : State) (v : Nat × StagedVoa) :
    Frame [.objs, .lobes, .drv, .loops] s (parkVoa granted s v) := by
  unfold parkVoa
  refine .ite ?_ ?_
  · refine .step (disableVoa_frame _ _) (by decide) ?_
    refine .step (voaAtT_frame _ _ _) (by decide) ?_
    exact .refl _
  · refine .step (State.setVoa_frame _ _ _) (by decide) ?_
    refine .step (voaAtT_frame _ _ _) (by decide) ?_
    exact .refl _

theorem parkStart_frame (s : State) : Frame [.objs, .dev, .ex, .lobes, .sorus, .drv, .steady, .loops, .lib] s (parkStart s) := by
  unfold parkStart
  conv => zeta
  split
  · exact .refl _
  · split
    refine .step (settleOwed_frame _ _ _) (by decide) ?_
    refine .step (settleOwed_frame _ _ _) (by decide) ?_
    refine .ite ?_ ?_
    · refine .step (State.setObjN_frame _ _ _ _) (by decide) ?_
      refine .step (State.unfault_frame _ _) (by decide) ?_
      refine .step (State.unfault_frame _ _) (by decide) ?_
      refine .step (State.enter_frame _ _) (by decide) ?_
      refine .step (raiseA_frame _ _ _) (by decide) ?_
      refine .step (State.setObjN_frame _ _ _ _) (by decide) ?_
      refine .step (dropIdleWraps_frame _) (by decide) ?_
      refine .set_dev (by decide) ?_
      refine .foldl (fun _ _ => ?_) ?_
      · refine .step (parkVoa_frame _ _ _) (by decide) ?_
        exact .refl _
      · refine .foldl (fun _ _ => ?_) ?_
        · refine .step (parkElem_frame _ _ _) (by decide) ?_
          exact .refl _
        · refine .step (applyMapping_frame _ _ _ _) (by decide) ?_
          refine .fst (by assumption) ?_
          refine .step (grantNow_frame _ _) (by decide) ?_
          exact .refl _
    · refine .step (State.unfault_frame _ _) (by decide) ?_
      refine .step (State.unfault_frame _ _) (by decide) ?_
      refine .step (State.enter_frame _ _) (by decide) ?_
      refine .step (raiseA_frame _ _ _) (by decide) ?_
      refine .step (State.setObjN_frame _ _ _ _) (by decide) ?_
      refine .step (dropIdleWraps_frame _) (by decide) ?_
      refine .set_dev (by decide) ?_
      refine .foldl (fun _ _ => ?_) ?_
      · refine .step (parkVoa_frame _ _ _) (by decide) ?_
        exact .refl _
      · refine .foldl (fun _ _ => ?_) ?_
        · refine .step (parkElem_frame _ _ _) (by decide) ?_
          exact .refl _
        · refine .step (applyMapping_frame _ _ _ _) (by decide) ?_
          refine .fst (by assumption) ?_
          refine .step (grantNow_frame _ _) (by decide) ?_
          exact .refl _

theorem parkRequest_frame (s : State) :
    Frame [.objs, .hbm, .dev, .ex, .lobes, .sorus, .drv, .steady, .loops, .lib, .mat] s (parkRequest s) := by
  unfold parkRequest
  refine .ite ?_ ?_
  · refine .step (parkStart_frame _) (by decide) ?_
    refine .ite ?_ ?_
    · exact .refl _
    · refine .step (chooseParkImage_frame _) (by decide) ?_
      exact .refl _
  · refine .ite ?_ ?_
    · exact .refl _
    · refine .step (chooseParkImage_frame _) (by decide) ?_
      exact .refl _

theorem rollBackLobe_frame (s : State) (l : Nat) :
    Frame [.objs, .dev, .ex, .lobes, .time, .sorus, .com, .mat] s (rollBackLobe s l) := by
  unfold rollBackLobe
  refine .ite ?_ ?_
  · refine .ite ?_ ?_
    · refine .set_lobes (by decide) ?_
      exact .refl _
    · exact .refl _
  · refine .ite ?_ ?_
    · refine .step (resetLobe_frame _ _ _) (by decide) ?_
      exact .refl _
    · exact .refl _

theorem bootWritten_frame (s : State) : Frame [.objs, .dev, .ex, .lobes, .time, .sorus, .com, .mat] s (bootWritten s) := by
  unfold bootWritten
  conv => zeta
  split
  · exact .refl _
  · split
    · refine .step (resetLobe_frame _ _ _) (by decide) ?_
      refine .set_dev (by decide) ?_
      refine .set_dev (by decide) ?_
      exact .refl _
    · refine .set_dev (by decide) ?_
      exact .refl _
    · refine .step (endRollBack_frame _) (by decide) ?_
      refine .step (rollBackLobe_frame _ _) (by decide) ?_
      refine .step (rollBackLobe_frame _ _) (by decide) ?_
      refine .set_dev (by decide) ?_
      exact .refl _
    · refine .step (raiseA_frame _ _ _) (by decide) ?_
      refine .set_dev (by decide) ?_
      refine .set_dev (by decide) ?_
      exact .refl _

theorem confirmTrial_frame (s : State) : Frame [.objs, .dev, .ex, .sorus, .cal] s (confirmTrial s) := by
  unfold confirmTrial
  conv => zeta
  split
  · exact .refl _
  · refine .step (autoStore_frame _ _) (by decide) ?_
    refine .set_dev (by decide) ?_
    exact .refl _

theorem storeEnded_frame (s : State) (k : StoreKind) :
    Frame [.objs, .dev, .ex, .lobes, .time, .sorus, .lib, .com, .mat] s (storeEnded s k) := by
  unfold storeEnded
  conv => zeta
  split
  · refine .step (raiseS_frame _ _ _) (by decide) ?_
    exact .refl _
  · refine .step (settleOwed_frame _ _ _) (by decide) ?_
    exact .refl _
  · refine .step (settleOwed_frame _ _ _) (by decide) ?_
    refine .step (calStored_frame _) (by decide) ?_
    exact .refl _
  · refine .step (settleOwed_frame _ _ _) (by decide) ?_
    exact .refl _
  · refine .step (bootWritten_frame _) (by decide) ?_
    exact .refl _
  · refine .step (callDark_frame _) (by decide) ?_
    exact .refl _
  · refine .set_dev (by decide) ?_
    exact .refl _
  · exact .refl _

theorem storeRegionDone_frame (s : State) :
    Frame [.objs, .dev, .ex, .lobes, .time, .sorus, .cal, .lib, .com, .mat] s (storeRegionDone s) := by
  unfold storeRegionDone
  conv => zeta
  split
  · exact .refl _
  · split
    · refine .step (pumpStores_frame _) (by decide) ?_
      refine .step (endStore_frame _) (by decide) ?_
      exact .refl _
    · refine .ite ?_ ?_
      · refine .step (pumpStores_frame _) (by decide) ?_
        refine .step (storeEnded_frame _ _) (by decide) ?_
        refine .step (endStore_frame _) (by decide) ?_
        refine .step (regionDone_frame _ _ _) (by decide) ?_
        exact .refl _
      · refine .set_dev (by decide) ?_
        refine .step (regionDone_frame _ _ _) (by decide) ?_
        exact .refl _

theorem runOutStore_frame (s : State) :
    Frame [.objs, .dev, .ex, .lobes, .time, .sorus, .drv, .cal, .lib, .com, .mat] s (runOutStore s) := by
  unfold runOutStore
  split
  · exact .refl _
  · refine .ite ?_ ?_
    · refine .step (pageStored_frame _) (by decide) ?_
      exact .refl _
    · refine .foldl (fun _ _ => ?_) ?_
      · refine .step (storeRegionDone_frame _) (by decide) ?_
        exact .refl _
      · exact .refl _

theorem warmReset_frame (s : State) :
    Frame [.objs, .octs, .staged, .stagedOcts, .dev, .ex, .funcs, .lobes, .time, .sorus, .drv, .steady, .therm, .loops, .mon, .cal, .fab, .lib, .com,
      .net, .mat]
      s (warmReset s) := by
  unfold warmReset
  extract_lets s1 hold cut s2 s3 s4 s5
  have h1 : Frame [.objs, .ex, .sorus, .mat, .cal, .lib, .drv, .dev, .lobes, .time, .com] s s1 :=
    .foldl (fun _ _ => .step (initReset_frame _ _) (by decide) (.refl _)) (.step (runOutStore_frame _) (by decide) (.refl _))
  clear_value s1
  have h2 : Frame [.objs, .octs, .staged, .stagedOcts, .dev, .ex, .funcs, .lobes, .time, .sorus, .drv, .steady, .therm, .loops, .mon, .cal, .fab, .lib, .com,
      .net, .mat]
      s s2 := by
    intro c
    cases c
    case tick => exact .inr (h1.tick (by decide))
    case hbm => exact .inr (h1.hbm (by decide))
    case log => exact .inr (State.logged_upd ((h1 .log).resolve_left (by decide)) rfl)
    all_goals exact .inl (by decide)
  clear_value s2
  have h4 : Frame [.objs, .octs, .staged, .stagedOcts, .dev, .ex, .funcs, .lobes, .time, .sorus, .drv, .steady, .therm, .loops, .mon, .cal, .fab, .lib, .com,
      .net, .mat]
      s s4 := .step (loadLife_frame _) (by decide) (.step (State.setObjN_frame _ _ _ _) (by decide)
    (.step (State.setObjN_frame _ _ _ _) (by decide) (.step (State.setObjN_frame _ _ _ _) (by decide) h2)))
  exact .foldl (fun _ _ => .step (raiseS_frame _ _ _) (by decide) (.refl _)) (.ite h4 (.step (State.enter_frame _ _) (by decide) h4))

theorem resetNow_frame (s : State) (k : ResetKind) (cause : Nat) :
    Frame [.tick, .objs, .octs, .staged, .stagedOcts, .hbm, .dev, .ex, .funcs, .lobes, .time, .sorus, .drv, .steady, .therm, .loops, .mon, .cal, .fab, .lib, .com, .net, .mat, .log] s (resetNow s k cause) := by
  unfold resetNow
  split
  · refine .step (warmReset_frame _) (by decide) ?_
    exact .refl _
  · refine .step (bootStart_frame _) (by decide) ?_
    refine .step (coldReset_frame _ _) (by decide) ?_
    exact .refl _

theorem execResetRelease_frame (s : State) (s' : State) (h : execResetRelease s = .next s') :
    Frame [.tick, .objs, .dev, .ex, .sorus, .mon] s s' := by
  unfold execResetRelease at h
  refine finish_frame h ?_
  refine .ite ?_ ?_
  · refine .step (bootStart_frame _) (by decide) ?_
    refine .set_dev (by decide) ?_
    exact .refl _
  · exact .refl _

theorem execColdResetInput_frame (pin : Nat) (s : State) (s' : State) (h : execColdResetInput pin s = .next s') :
    Frame [.tick, .objs, .octs, .staged, .stagedOcts, .hbm, .dev, .ex, .funcs, .lobes, .time, .sorus, .drv, .steady, .therm, .loops, .mon, .cal, .fab, .lib, .com, .net, .mat, .log] s s' := by
  unfold execColdResetInput at h
  refine finish_frame h ?_
  refine .ite ?_ ?_
  · refine .set_dev (by decide) ?_
    refine .ite ?_ ?_
    · exact .refl _
    · refine .step (coldReset_frame _ _) (by decide) ?_
      exact .refl _
  · exact .refl _

theorem execSafeLoadComplete_frame (s : State) (s' : State) (h : execSafeLoadComplete s = .next s') :
    Frame [.objs, .dev, .ex, .sorus, .drv] s s' := by
  unfold execSafeLoadComplete at h
  refine finish_frame h ?_
  refine .ite ?_ ?_
  · refine .step (safeLoad_frame _) (by decide) ?_
    exact .refl _
  · exact .refl _

theorem execBooted_frame (l : Nat) (ok0 : Bool) (ok1 : Bool) (s : State) (s' : State) (h : execBooted l ok0 ok1 s = .next s') :
    Frame [.objs, .dev, .ex, .lobes, .sorus, .com] s s' := by
  unfold execBooted at h
  refine finish_frame h ?_
  refine .ite ?_ ?_
  · split
    · refine .step (bootLobe_frame _ _ _ _) (by decide) ?_
      exact .refl _
    · refine .step (noFirmware_frame _ _) (by decide) ?_
      exact .refl _
  · exact .refl _

theorem execSelftestStepDone_frame (step : Nat) (failed : Nat) (s : State) (s' : State) (h : execSelftestStepDone step failed s = .next s') :
    Frame [.objs, .octs, .hbm, .dev, .ex, .funcs, .lobes, .time, .sorus, .steady, .mon, .cal, .lib, .com, .net, .mat] s s' := by
  unfold execSelftestStepDone at h
  refine finish_frame h ?_
  refine .ite ?_ ?_
  · refine .step (selftestStep_frame _ _ _) (by decide) ?_
    exact .refl _
  · exact .refl _

theorem execSelftestDone_frame (s : State) (s' : State) (h : execSelftestDone s = .next s') :
    Frame [.objs, .hbm, .dev, .ex, .lobes, .sorus, .drv, .steady, .loops, .lib, .mat] s s' := by
  unfold execSelftestDone at h
  refine finish_frame h ?_
  refine .ite ?_ ?_
  · refine .step (parkRequest_frame _) (by decide) ?_
    exact .refl _
  · exact .refl _

theorem execParkRampEnd_frame (s : State) (s' : State) (h : execParkRampEnd s = .next s') :
    Frame [.objs, .dev, .ex, .sorus, .steady] s s' := by
  unfold execParkRampEnd at h
  refine finish_frame h ?_
  refine .ite ?_ ?_
  · refine .step (releaseGrant_frame _ _ _) (by decide) ?_
    refine .set_dev (by decide) ?_
    exact .refl _
  · exact .refl _

theorem execRailFault_frame (rail : Nat) (mv : Nat) (s : State) (s' : State) (h : execRailFault rail mv s = .next s') :
    Frame [.objs, .dev, .ex, .lobes, .sorus, .drv, .steady, .loops, .mon, .cal, .lib, .com, .mat] s s' := by
  unfold execRailFault at h
  refine finish_frame h ?_
  refine .ite ?_ ?_
  · refine .step (enterHold_frame _ _) (by decide) ?_
    refine .step (raiseS_frame _ _ _) (by decide) ?_
    refine .step (State.fault_frame _ _) (by decide) ?_
    refine .ite ?_ ?_
    · refine .set_drv (by decide) ?_
      refine .step (State.setObjN_frame _ _ _ _) (by decide) ?_
      refine .step (State.setObjN_frame _ _ _ _) (by decide) ?_
      exact .refl _
    · refine .step (State.setObjN_frame _ _ _ _) (by decide) ?_
      refine .step (State.setObjN_frame _ _ _ _) (by decide) ?_
      exact .refl _
  · exact .refl _

theorem execRefclkLost_frame (s : State) (s' : State) (h : execRefclkLost s = .next s') :
    Frame [.objs, .dev, .ex, .lobes, .sorus, .drv, .steady, .loops, .mon, .cal, .lib, .com, .mat] s s' := by
  unfold execRefclkLost at h
  refine finish_frame h ?_
  refine .ite ?_ ?_
  · exact .refl _
  · refine .ite ?_ ?_
    · refine .set_dev (by decide) ?_
      exact .refl _
    · refine .ite ?_ ?_
      · refine .step (raiseS_frame _ _ _) (by decide) ?_
        refine .step (State.fault_frame _ _) (by decide) ?_
        refine .set_dev (by decide) ?_
        exact .refl _
      · refine .step (enterHold_frame _ _) (by decide) ?_
        refine .step (raiseS_frame _ _ _) (by decide) ?_
        refine .step (State.fault_frame _ _) (by decide) ?_
        refine .set_dev (by decide) ?_
        exact .refl _

theorem releaseWrites_frame (s : State) : Frame [.drv] s (releaseWrites s) := by
  unfold releaseWrites
  refine .foldl (fun _ _ => ?_) ?_
  · refine .step (releaseDirect_frame _ _) (by decide) ?_
    refine .step (releaseHeld_frame _ _) (by decide) ?_
    exact .refl _
  · exact .refl _

theorem execRefclkReturns_frame (s : State) (s' : State) (h : execRefclkReturns s = .next s') :
    Frame [.objs, .dev, .ex, .time, .sorus, .drv] s s' := by
  unfold execRefclkReturns at h
  refine finish_frame h ?_
  refine .ite ?_ ?_
  · refine .ite ?_ ?_
    · refine .set_dev (by decide) ?_
      exact .refl _
    · refine .ite ?_ ?_
      · refine .step (setServo_frame _ _) (by decide) ?_
        refine .step (releaseWrites_frame _) (by decide) ?_
        refine .set_dev (by decide) ?_
        refine .set_dev (by decide) ?_
        exact .refl _
      · refine .step (releaseWrites_frame _) (by decide) ?_
        refine .set_dev (by decide) ?_
        refine .set_dev (by decide) ?_
        exact .refl _
  · exact .refl _

theorem refclkElem_frame (s : State) (e : Nat) : Frame [.sorus, .loops] s (refclkElem s e) := by
  unfold refclkElem
  refine .ite ?_ ?_
  · refine .step (reacquire_frame _ _) (by decide) ?_
    refine .step (State.setElem_frame _ _ _) (by decide) ?_
    exact .refl _
  · exact .refl _

theorem refclkReturn_frame (s : State) :
    Frame [.tick, .objs, .octs, .staged, .stagedOcts, .hbm, .dev, .ex, .funcs, .lobes, .time, .sorus, .drv, .steady, .therm, .loops, .mon, .cal, .fab, .lib, .com, .net, .mat, .log] s (refclkReturn s) := by
  unfold refclkReturn
  conv => zeta
  split
  · refine .step (dropIdleWraps_frame _) (by decide) ?_
    refine .foldl (fun _ _ => ?_) ?_
    · refine .ite ?_ ?_
      · exact .refl _
      · refine .step (State.setVoa_frame _ _ _) (by decide) ?_
        exact .refl _
    · refine .foldl (fun _ _ => ?_) ?_
      · refine .step (refclkElem_frame _ _) (by decide) ?_
        exact .refl _
      · refine .step (State.enter_frame _ _) (by decide) ?_
        refine .set_dev (by decide) ?_
        exact .refl _
  · refine .step (dropIdleWraps_frame _) (by decide) ?_
    refine .foldl (fun _ _ => ?_) ?_
    · refine .ite ?_ ?_
      · exact .refl _
      · refine .step (State.setVoa_frame _ _ _) (by decide) ?_
        exact .refl _
    · refine .foldl (fun _ _ => ?_) ?_
      · refine .step (refclkElem_frame _ _) (by decide) ?_
        exact .refl _
      · refine .step (State.enter_frame _ _) (by decide) ?_
        refine .set_dev (by decide) ?_
        exact .refl _
  · refine .step (resetNow_frame _ _ _) (by decide) ?_
    refine .set_dev (by decide) ?_
    exact .refl _
  · refine .step (resetNow_frame _ _ _) (by decide) ?_
    refine .set_dev (by decide) ?_
    exact .refl _
  · refine .step (enterSafe_frame _) (by decide) ?_
    refine .set_dev (by decide) ?_
    exact .refl _

theorem execRefclkRestored_frame (lossNs : Nat) (s : State) (s' : State) (h : execRefclkRestored lossNs s = .next s') :
    Frame [.tick, .objs, .octs, .staged, .stagedOcts, .hbm, .dev, .ex, .funcs, .lobes, .time, .sorus, .drv, .steady, .therm, .loops, .mon, .cal, .fab, .lib, .com, .net, .mat, .log] s s' := by
  unfold execRefclkRestored at h
  refine finish_frame h ?_
  conv => zeta
  split
  · exact .refl _
  · refine .ite ?_ ?_
    · refine .ite ?_ ?_
      · refine .step (refclkReturn_frame _) (by decide) ?_
        refine .step (raiseS_frame _ _ _) (by decide) ?_
        refine .step (State.unfault_frame _ _) (by decide) ?_
        refine .set_dev (by decide) ?_
        exact .refl _
      · refine .step (raiseS_frame _ _ _) (by decide) ?_
        refine .step (State.unfault_frame _ _) (by decide) ?_
        refine .set_dev (by decide) ?_
        exact .refl _
    · exact .refl _

theorem effPark_frame (s : State) : Frame1 [] s (effPark s) := by
  unfold effPark
  refine .ite ?_ ?_
  · refine .pair ?_
    exact .refl _
  · refine .ite ?_ ?_
    · refine .pair ?_
      exact .refl _
    · refine .pair ?_
      exact .refl _

theorem effDrain_frame (s : State) :
    Frame1 [.objs, .dev, .ex, .lobes, .sorus, .drv, .steady, .mon, .cal, .lib, .com, .mat] s (effDrain s) := by
  unfold effDrain
  refine .ite ?_ ?_
  · refine .pair ?_
    refine .step (beginDrain_frame _) (by decide) ?_
    exact .refl _
  · refine .pair ?_
    exact .refl _

theorem effResume_frame (s : State) : Frame1 [] s (effResume s) := by
  unfold effResume
  refine .ite ?_ ?_
  · refine .pair ?_
    exact .refl _
  · refine .pair ?_
    exact .refl _

theorem parkOwed_frame (s : State) :
    Frame [.objs, .hbm, .dev, .ex, .lobes, .sorus, .drv, .steady, .loops, .lib, .mat] s (parkOwed s) := by
  unfold parkOwed
  refine .ite ?_ ?_
  · refine .step (parkRequest_frame _) (by decide) ?_
    exact .refl _
  · exact .refl _

theorem effReset_frame (k : ResetKind) (s : State) : Frame1 [.dev] s (effReset k s) := by
  unfold effReset
  refine .ite ?_ ?_
  · refine .pair ?_
    exact .refl _
  · refine .ite ?_ ?_
    · refine .pair ?_
      exact .refl _
    · refine .pair ?_
      refine .set_dev (by decide) ?_
      exact .refl _

theorem effDeviceCommand_frame (v : Int) (s : State) :
    Frame1 [.objs, .dev, .ex, .lobes, .sorus, .drv, .steady, .mon, .cal, .lib, .com, .mat] s (effDeviceCommand v s) := by
  unfold effDeviceCommand
  refine .ite ?_ ?_
  · refine .step (effPark_frame _) (by decide) ?_
    exact .refl _
  · refine .ite ?_ ?_
    · refine .step (effDrain_frame _) (by decide) ?_
      exact .refl _
    · refine .ite ?_ ?_
      · refine .step (effResume_frame _) (by decide) ?_
        exact .refl _
      · refine .ite ?_ ?_
        · refine .step (effReset_frame _ _) (by decide) ?_
          exact .refl _
        · refine .step (effReset_frame _ _) (by decide) ?_
          exact .refl _

theorem execPark_frame (sess : Nat) (s : State) (s' : State) (h : execPark sess s = .next s') :
    Frame [.objs, .hbm, .dev, .ex, .lobes, .sorus, .drv, .steady, .loops, .lib, .mat] s s' := by
  unfold execPark at h
  refine finish_frame h ?_
  refine .step (parkOwed_frame _) (by decide) ?_
  refine hostWrite_frame (by decide) (fun _ => ?_) ?_ 
  · refine .step (effPark_frame _) (by decide) ?_
    exact .refl _
  · exact .refl _

theorem execDrain_frame (sess : Nat) (s : State) (s' : State) (h : execDrain sess s = .next s') :
    Frame [.objs, .dev, .ex, .lobes, .sorus, .drv, .steady, .mon, .cal, .lib, .com, .mat] s s' := by
  unfold execDrain at h
  refine finish_frame h ?_
  refine hostWrite_frame (by decide) (fun _ => ?_) ?_ 
  · refine .step (effDrain_frame _) (by decide) ?_
    exact .refl _
  · exact .refl _

theorem execResume_frame (sess : Nat) (s : State) (s' : State) (h : execResume sess s = .next s') :
    Frame [.objs, .hbm, .dev, .ex, .lobes, .sorus, .drv, .steady, .loops, .lib, .mat] s s' := by
  unfold execResume at h
  refine finish_frame h ?_
  refine .step (parkOwed_frame _) (by decide) ?_
  refine hostWrite_frame (by decide) (fun _ => ?_) ?_ 
  · refine .step (effResume_frame _) (by decide) ?_
    exact .refl _
  · exact .refl _

theorem execWarmReset_frame (sess : Nat) (s : State) (s' : State) (h : execWarmReset sess s = .next s') :
    Frame [.objs, .dev, .ex, .sorus, .lib] s s' := by
  unfold execWarmReset at h
  refine finish_frame h ?_
  refine hostWrite_frame (by decide) (fun _ => ?_) ?_ 
  · refine .step (effReset_frame _ _) (by decide) ?_
    exact .refl _
  · exact .refl _

theorem execColdReset_frame (sess : Nat) (s : State) (s' : State) (h : execColdReset sess s = .next s') :
    Frame [.objs, .dev, .ex, .sorus, .lib] s s' := by
  unfold execColdReset at h
  refine finish_frame h ?_
  refine hostWrite_frame (by decide) (fun _ => ?_) ?_ 
  · refine .step (effReset_frame _ _) (by decide) ?_
    exact .refl _
  · exact .refl _

theorem execResetDelayEnd_frame (s : State) (s' : State) (h : execResetDelayEnd s = .next s') :
    Frame [.tick, .objs, .octs, .staged, .stagedOcts, .hbm, .dev, .ex, .funcs, .lobes, .time, .sorus, .drv, .steady, .therm, .loops, .mon, .cal, .fab, .lib, .com, .net, .mat, .log] s s' := by
  unfold execResetDelayEnd at h
  refine finish_frame h ?_
  split
  · refine .ite ?_ ?_
    · refine .step (resetNow_frame _ _ _) (by decide) ?_
      exact .refl _
    · exact .refl _
  · exact .refl _

theorem effParkStore_frame (v : Int) (s : State) : Frame1 [.objs, .dev, .ex, .sorus, .cal] s (effParkStore v s) := by
  unfold effParkStore
  refine .ite ?_ ?_
  · refine .pair ?_
    exact .refl _
  · refine .pair ?_
    refine .step (autoStore_frame _ _) (by decide) ?_
    refine .step (State.setObj_frame _ _ _ _) (by decide) ?_
    exact .refl _

theorem execParkStore_frame (sess : Nat) (slot : Int) (s : State) (s' : State) (h : execParkStore sess slot s = .next s') :
    Frame [.objs, .dev, .ex, .sorus, .cal, .lib] s s' := by
  unfold execParkStore at h
  refine finish_frame h ?_
  refine hostWrite_frame (by decide) (fun _ => ?_) ?_ 
  · refine .step (effParkStore_frame _ _) (by decide) ?_
    exact .refl _
  · exact .refl _

theorem effParkClear_frame (s : State) : Frame1 [.objs, .dev, .ex, .sorus, .cal] s (effParkClear s) := by
  unfold effParkClear
  refine .pair ?_
  refine .step (autoStore_frame _ _) (by decide) ?_
  exact .refl _

theorem execParkClear_frame (sess : Nat) (s : State) (s' : State) (h : execParkClear sess s = .next s') :
    Frame [.objs, .dev, .ex, .sorus, .cal, .lib] s s' := by
  unfold execParkClear at h
  refine finish_frame h ?_
  refine hostWrite_frame (by decide) (fun _ => ?_) ?_ 
  · refine .step (effParkClear_frame _) (by decide) ?_
    exact .refl _
  · exact .refl _

theorem effConfigStore_frame (s : State) : Frame1 [.objs, .dev, .ex, .sorus, .cal] s (effConfigStore s) := by
  unfold effConfigStore
  refine .ite ?_ ?_
  · refine .pair ?_
    exact .refl _
  · refine .ite ?_ ?_
    · refine .pair ?_
      exact .refl _
    · refine .pair ?_
      refine .step (startStore_frame _ _) (by decide) ?_
      exact .refl _

theorem execConfigStore_frame (sess : Nat) (s : State) (s' : State) (h : execConfigStore sess s = .next s') :
    Frame [.objs, .dev, .ex, .sorus, .cal, .lib] s s' := by
  unfold execConfigStore at h
  refine finish_frame h ?_
  refine hostWrite_frame (by decide) (fun _ => ?_) ?_ 
  · refine .step (effConfigStore_frame _) (by decide) ?_
    exact .refl _
  · exact .refl _

theorem execFlashRegionDone_frame (s : State) (s' : State) (h : execFlashRegionDone s = .next s') :
    Frame [.objs, .dev, .ex, .lobes, .time, .sorus, .cal, .lib, .com, .mat] s s' := by
  unfold execFlashRegionDone at h
  refine finish_frame h ?_
  split
  · refine .ite ?_ ?_
    · exact .refl _
    · refine .step (storeRegionDone_frame _) (by decide) ?_
      exact .refl _
  · exact .refl _

theorem execSafePageStored_frame (s : State) (s' : State) (h : execSafePageStored s = .next s') :
    Frame [.objs, .dev, .ex, .sorus, .drv, .cal, .lib, .com] s s' := by
  unfold execSafePageStored at h
  refine finish_frame h ?_
  refine .step (pageStored_frame _) (by decide) ?_
  exact .refl _

theorem countHour_frame (s : State) : Frame [.objs] s (countHour s) := by
  unfold countHour
  refine .step (State.incSat_frame _ _ _ _) (by decide) ?_
  refine .step (State.incSat_frame _ _ _ _) (by decide) ?_
  refine .step (State.incSat_frame _ _ _ _) (by decide) ?_
  exact .refl _

theorem execLifeRecordTimer_frame (s : State) (s' : State) (h : execLifeRecordTimer s = .next s') :
    Frame [.objs, .dev, .ex, .sorus, .cal] s s' := by
  unfold execLifeRecordTimer at h
  refine finish_frame h ?_
  refine .ite ?_ ?_
  · refine .step (autoStore_frame _ _) (by decide) ?_
    refine .step (countHour_frame _) (by decide) ?_
    refine .set_dev (by decide) ?_
    exact .refl _
  · exact .refl _

theorem effFwLoadOpen_frame (v : Int) (s : State) : Frame1 [.objs, .dev] s (effFwLoadOpen v s) := by
  unfold effFwLoadOpen
  refine .ite ?_ ?_
  · refine .pair ?_
    exact .refl _
  · refine .ite ?_ ?_
    · refine .pair ?_
      exact .refl _
    · refine .pair ?_
      refine .set_dev (by decide) ?_
      refine .step (State.setFwBank_frame _ _ _) (by decide) ?_
      refine .step (State.setObj_frame _ _ _ _) (by decide) ?_
      exact .refl _

theorem execFwLoadOpen_frame (sess : Nat) (bank : Int) (s : State) (s' : State) (h : execFwLoadOpen sess bank s = .next s') :
    Frame [.objs, .dev, .ex, .sorus, .lib] s s' := by
  unfold execFwLoadOpen at h
  refine finish_frame h ?_
  refine hostWrite_frame (by decide) (fun _ => ?_) ?_ 
  · refine .step (effFwLoadOpen_frame _ _) (by decide) ?_
    exact .refl _
  · exact .refl _

theorem effFwData_frame (n : Nat) (bytes : List Byte) (s : State) :
    Frame1 [.objs, .dev, .ex, .sorus, .cal] s (effFwData n bytes s) := by
  unfold effFwData
  conv => zeta
  split
  · refine .pair ?_
    exact .refl _
  · refine .ite ?_ ?_
    · refine .pair ?_
      exact .refl _
    · refine .pair ?_
      refine .step (autoStore_frame _ _) (by decide) ?_
      refine .step (State.setFwBank_frame _ _ _) (by decide) ?_
      exact .refl _

theorem effFwVerify_frame (sigOk : Bool) (s : State) : Frame1 [.dev, .ex] s (effFwVerify sigOk s) := by
  unfold effFwVerify
  conv => zeta
  split
  · refine .pair ?_
    exact .refl _
  · refine .ite ?_ ?_
    · refine .pair ?_
      exact .refl _
    · refine .ite ?_ ?_
      · split
        refine .pair ?_
        refine .step (State.setFwBank_frame _ _ _) (by decide) ?_
        refine .snd (by assumption) ?_
        refine .step (State.fresh_frame _) (by decide) ?_
        refine .set_dev (by decide) ?_
        exact .refl _
      · refine .pair ?_
        refine .step (State.setFwBank_frame _ _ _) (by decide) ?_
        refine .set_dev (by decide) ?_
        exact .refl _

theorem execFwVerify_frame (sess : Nat) (sigOk : Bool) (s : State) (s' : State) (h : execFwVerify sess sigOk s = .next s') :
    Frame [.objs, .dev, .ex, .sorus, .lib] s s' := by
  unfold execFwVerify at h
  refine finish_frame h ?_
  refine hostWrite_frame (by decide) (fun _ => ?_) ?_ 
  · refine .step (effFwVerify_frame _ _) (by decide) ?_
    exact .refl _
  · exact .refl _

theorem effFwActivate_frame (v : Int) (s : State) : Frame1 [.objs, .dev, .ex, .sorus, .cal] s (effFwActivate v s) := by
  unfold effFwActivate
  conv => zeta
  split
  · refine .pair ?_
    exact .refl _
  · refine .ite ?_ ?_
    · refine .pair ?_
      exact .refl _
    · refine .ite ?_ ?_
      · refine .pair ?_
        exact .refl _
      · refine .ite ?_ ?_
        · refine .pair ?_
          exact .refl _
        · refine .ite ?_ ?_
          · refine .pair ?_
            exact .refl _
          · refine .pair ?_
            refine .step (autoStore_frame _ _) (by decide) ?_
            refine .set_dev (by decide) ?_
            exact .refl _

theorem execFwActivate_frame (sess : Nat) (bank : Int) (s : State) (s' : State) (h : execFwActivate sess bank s = .next s') :
    Frame [.objs, .dev, .ex, .sorus, .cal, .lib] s s' := by
  unfold execFwActivate at h
  refine finish_frame h ?_
  refine hostWrite_frame (by decide) (fun _ => ?_) ?_ 
  · refine .step (effFwActivate_frame _ _) (by decide) ?_
    exact .refl _
  · exact .refl _

theorem effFwConfirm_frame (s : State) : Frame1 [.objs, .dev, .ex, .sorus, .cal] s (effFwConfirm s) := by
  unfold effFwConfirm
  refine .ite ?_ ?_
  · refine .pair ?_
    refine .step (confirmTrial_frame _) (by decide) ?_
    exact .refl _
  · refine .pair ?_
    exact .refl _

theorem execFwConfirm_frame (sess : Nat) (s : State) (s' : State) (h : execFwConfirm sess s = .next s') :
    Frame [.objs, .dev, .ex, .sorus, .cal, .lib] s s' := by
  unfold execFwConfirm at h
  refine finish_frame h ?_
  refine hostWrite_frame (by decide) (fun _ => ?_) ?_ 
  · refine .step (effFwConfirm_frame _) (by decide) ?_
    exact .refl _
  · exact .refl _

theorem execFwConfirmTimeEnd_frame (s : State) (s' : State) (h : execFwConfirmTimeEnd s = .next s') :
    Frame [.objs, .dev, .ex, .sorus, .cal] s s' := by
  unfold execFwConfirmTimeEnd at h
  refine finish_frame h ?_
  split
  · refine .ite ?_ ?_
    · refine .step (confirmTrial_frame _) (by decide) ?_
      exact .refl _
    · exact .refl _
  · exact .refl _

theorem effFwRollback_frame (s : State) : Frame1 [.objs, .dev, .ex, .sorus, .cal] s (effFwRollback s) := by
  unfold effFwRollback
  refine .ite ?_ ?_
  · refine .pair ?_
    refine .step (rollBack_frame _ _) (by decide) ?_
    exact .refl _
  · refine .pair ?_
    exact .refl _

theorem execFwRollback_frame (sess : Nat) (s : State) (s' : State) (h : execFwRollback sess s = .next s') :
    Frame [.objs, .dev, .ex, .sorus, .cal, .lib] s s' := by
  unfold execFwRollback at h
  refine finish_frame h ?_
  refine hostWrite_frame (by decide) (fun _ => ?_) ?_ 
  · refine .step (effFwRollback_frame _) (by decide) ?_
    exact .refl _
  · exact .refl _

theorem execFwTrialTimeout_frame (l : Nat) (s : State) (s' : State) (h : execFwTrialTimeout l s = .next s') :
    Frame [.objs, .dev, .ex, .sorus, .cal] s s' := by
  unfold execFwTrialTimeout at h
  refine finish_frame h ?_
  refine .ite ?_ ?_
  · refine .step (rollBack_frame _ _) (by decide) ?_
    exact .refl _
  · exact .refl _

theorem effFuncMode_frame (n : Nat) (v : Int) (s : State) : Frame1 [.objs, .funcs] s (effFuncMode n v s) := by
  unfold effFuncMode
  refine .ite ?_ ?_
  · refine .pair ?_
    exact .refl _
  · refine .pair ?_
    refine .step (State.setFunc_frame _ _ _) (by decide) ?_
    refine .step (State.setObj_frame _ _ _ _) (by decide) ?_
    exact .refl _

theorem execFuncMode_frame (sess : Nat) (n : Nat) (v : Int) (s : State) (s' : State) (h : execFuncMode sess n v s = .next s') :
    Frame [.objs, .ex, .funcs, .sorus, .lib] s s' := by
  unfold execFuncMode at h
  refine finish_frame h ?_
  refine hostWrite_frame (by decide) (fun _ => ?_) ?_ 
  · refine .step (effFuncMode_frame _ _ _) (by decide) ?_
    exact .refl _
  · exact .refl _

theorem foldWrap_frame (s : State) (e : Nat) : Frame [.objs, .dev, .ex, .sorus, .steady, .loops] s (foldWrap s e) := by
  unfold foldWrap
  conv => zeta
  split
  · exact .refl _
  · refine .step (releaseGrant_frame _ _ _) (by decide) ?_
    refine .step (State.setElem_frame _ _ _) (by decide) ?_
    exact .refl _

theorem loopsFallback_frame (s : State) : Frame [.objs, .ex, .funcs, .sorus, .loops] s (loopsFallback s) := by
  unfold loopsFallback
  refine .foldl (fun _ _ => ?_) ?_
  · refine .ite ?_ ?_
    · exact .refl _
    · refine .step (State.setVoa_frame _ _ _) (by decide) ?_
      exact .refl _
  · refine .set_loops (by decide) ?_
    refine .foldl (fun _ _ => ?_) ?_
    · refine .ite ?_ ?_
      · refine .step (reacquire_frame _ _) (by decide) ?_
        exact .refl _
      · exact .refl _
    · refine .step (fallback_frame _ _) (by decide) ?_
      exact .refl _

theorem loopsBoundary_frame (s : State) : Frame [.objs, .dev, .ex, .funcs, .sorus, .steady, .loops] s (loopsBoundary s) := by
  unfold loopsBoundary
  refine .ite ?_ ?_
  · refine .ite ?_ ?_
    · refine .step (loopsFallback_frame _) (by decide) ?_
      exact .refl _
    · refine .ite ?_ ?_
      · refine .set_loops (by decide) ?_
        refine .foldl (fun _ _ => ?_) ?_
        · refine .step (foldWrap_frame _ _) (by decide) ?_
          exact .refl _
        · refine .ite ?_ ?_
          · refine .step (atModeBoundary_frame _ _) (by decide) ?_
            exact .refl _
          · refine .set_loops (by decide) ?_
            refine .step (atModeBoundary_frame _ _) (by decide) ?_
            exact .refl _
      · refine .ite ?_ ?_
        · refine .step (atModeBoundary_frame _ _) (by decide) ?_
          exact .refl _
        · refine .set_loops (by decide) ?_
          refine .step (atModeBoundary_frame _ _) (by decide) ?_
          exact .refl _
  · exact .refl _

theorem execModeBoundary_frame (n : Nat) (s : State) (s' : State) (h : execModeBoundary n s = .next s') :
    Frame [.objs, .dev, .ex, .funcs, .sorus, .steady, .loops] s s' := by
  unfold execModeBoundary at h
  refine finish_frame h ?_
  refine .ite ?_ ?_
  · refine .step (loopsBoundary_frame _) (by decide) ?_
    exact .refl _
  · exact .refl _

theorem execFallbackElementLoops_frame (s : State) (s' : State) (h : execFallbackElementLoops s = .next s') :
    Frame [.objs, .dev, .ex, .funcs, .sorus, .steady, .loops] s s' := by
  unfold execFallbackElementLoops at h
  refine finish_frame h ?_
  refine .ite ?_ ?_
  · refine .step (loopsBoundary_frame _) (by decide) ?_
    exact .refl _
  · exact .refl _

theorem execFallbackPowerArbitration_frame (s : State) (s' : State) (h : execFallbackPowerArbitration s = .next s') :
    Frame [.objs, .dev, .ex, .funcs, .lobes, .sorus, .drv, .steady, .mon, .cal, .lib, .com] s s' := by
  unfold execFallbackPowerArbitration at h
  refine finish_frame h ?_
  refine .step (fallbackPower_frame _) (by decide) ?_
  exact .refl _

theorem execTestAccessPortInstruction_frame (ir : Nat) (s : State) (s' : State) (h : execTestAccessPortInstruction ir s = .next s') :
    Frame [.dev, .ex] s s' := by
  unfold execTestAccessPortInstruction at h
  refine finish_frame h ?_
  refine .set_dev (by decide) ?_
  refine .set_dev (by decide) ?_
  exact .refl _

theorem openAccept_frame (s : State) (c : Caller) (level : Nat) (nonce : List Byte) (source : Nat) (uart : Bool) (ip : List Byte) (udpPort : Nat) (req : Nat) :
    Frame [.objs, .ex, .sorus] s (openAccept s c level nonce source uart ip udpPort req) := by
  unfold openAccept
  conv => zeta
  split
  refine .step (openAnswer_frame _ _ _ _ _ _) (by decide) ?_
  refine .step (raiseA_frame _ _ _) (by decide) ?_
  refine .step (State.setSession_frame _ _ _) (by decide) ?_
  refine .set_ex (by decide) ?_
  refine .snd (by assumption) ?_
  refine .step (State.fresh_frame _) (by decide) ?_
  exact .refl _

theorem openNow_frame (s : State) (level : Nat) (nonce : List Byte) (source : Nat) (uart : Bool) (ip : List Byte) (udpPort : Nat) (req : Nat) :
    Frame [.objs, .ex, .sorus] s (openNow s level nonce source uart ip udpPort req) := by
  unfold openNow
  refine .ite ?_ ?_
  · exact .refl _
  · refine .ite ?_ ?_
    · refine .step (openAnswer_frame _ _ _ _ _ _) (by decide) ?_
      exact .refl _
    · refine .ite ?_ ?_
      · refine .step (openAnswer_frame _ _ _ _ _ _) (by decide) ?_
        refine .step (rejectFrame_frame _ _ _) (by decide) ?_
        exact .refl _
      · refine .ite ?_ ?_
        · refine .step (openAnswer_frame _ _ _ _ _ _) (by decide) ?_
          exact .refl _
        · refine .step (openAccept_frame _ _ _ _ _ _ _ _ _) (by decide) ?_
          exact .refl _

theorem execOpenSession_frame (level : Nat) (nonce : List Byte) (source : Nat) (uart : Bool) (ip : List Byte) (origin : OpenOrigin) (s : State) (s' : State) (h : execOpenSession level nonce source uart ip origin s = .next s') :
    Frame [.objs, .ex, .sorus] s s' := by
  unfold execOpenSession at h
  refine finish_frame h ?_
  refine .ite ?_ ?_
  · refine .step (dropSession_frame _) (by decide) ?_
    exact .refl _
  · refine .ite ?_ ?_
    · exact .refl _
    · refine .ite ?_ ?_
      · refine .set_ex (by decide) ?_
        exact .refl _
      · refine .step (openNow_frame _ _ _ _ _ _ _ _) (by decide) ?_
        exact .refl _

theorem unlessRecovery_frame {m : List Comp} {s t : State} {sess req : Nat} {f : State → State}
    (hs : sub [.objs, .ex, .sorus] m = true) (hf : ∀ s, Frame m s (f s)) (h : Frame m s t) :
    Frame m s (unlessRecovery sess req f t) := by
  unfold unlessRecovery
  exact .ite (.step (answer_frame _ _ _ _ _ _) hs h) (h.trans (hf _))

theorem execCloseSession_frame (sess : Nat) (req : Nat) (s : State) (s' : State) (h : execCloseSession sess req s = .next s') :
    Frame [.objs, .ex, .sorus, .lib] s s' := by
  unfold execCloseSession at h
  refine finish_frame h ?_
  refine request_frame (by decide) (fun _ _ => ?_) ?_ 
  · refine unlessRecovery_frame (by decide) (fun _ => ?_) ?_ 
    · refine .step (closeSession_frame _ _ _) (by decide) ?_
      refine .step (answer_frame _ _ _ _ _ _) (by decide) ?_
      exact .refl _
    · exact .refl _
  · exact .refl _

theorem execEcho_frame (sess : Nat) (req : Nat) (body : List Byte) (s : State) (s' : State) (h : execEcho sess req body s = .next s') :
    Frame [.objs, .ex, .sorus, .lib] s s' := by
  unfold execEcho at h
  refine finish_frame h ?_
  refine request_frame (by decide) (fun _ _ => ?_) ?_ 
  · refine unlessRecovery_frame (by decide) (fun _ => ?_) ?_ 
    · refine .step (answer_frame _ _ _ _ _ _) (by decide) ?_
      exact .refl _
    · exact .refl _
  · exact .refl _

theorem setFilter_frame (s : State) (sess : Nat) (filter : Nat) (f : Filter) : Frame [.ex] s (setFilter s sess filter f) := by
  unfold setFilter
  split
  · refine .step (State.setSession_frame _ _ _) (by decide) ?_
    exact .refl _
  · exact .refl _

theorem execSubscribe_frame (sess : Nat) (req : Nat) (filter : Nat) (enable : Bool) (code : Nat) (mask : Nat) (s : State) (s' : State) (h : execSubscribe sess req filter enable code mask s = .next s') :
    Frame [.objs, .ex, .sorus, .lib] s s' := by
  unfold execSubscribe at h
  refine finish_frame h ?_
  refine request_frame (by decide) (fun _ _ => ?_) ?_ 
  · refine unlessRecovery_frame (by decide) (fun _ => ?_) ?_ 
    · refine .ite ?_ ?_
      · refine .step (answer_frame _ _ _ _ _ _) (by decide) ?_
        exact .refl _
      · refine .step (answer_frame _ _ _ _ _ _) (by decide) ?_
        refine .step (setFilter_frame _ _ _ _) (by decide) ?_
        exact .refl _
    · exact .refl _
  · exact .refl _

theorem sendEvents_frame (s : State) (sess : Nat) : Frame [.objs, .ex, .sorus, .lib] s (sendEvents s sess) := by
  unfold sendEvents
  conv => zeta
  split
  · exact .refl _
  · refine .ite ?_ ?_
    · exact .refl _
    · refine .step (closeIfSpent_frame _ _) (by decide) ?_
      refine .set_ex (by decide) ?_
      refine .step (State.setSession_frame _ _ _) (by decide) ?_
      refine .step (sendTo_frame _ _ _ _) (by decide) ?_
      exact .refl _

theorem execEventFrameSend_frame (sess : Nat) (s : State) (s' : State) (h : execEventFrameSend sess s = .next s') :
    Frame [.objs, .ex, .sorus, .lib] s s' := by
  unfold execEventFrameSend at h
  refine finish_frame h ?_
  refine .ite ?_ ?_
  · refine .step (sendEvents_frame _ _) (by decide) ?_
    exact .refl _
  · exact .refl _

theorem execSessionTimeout_frame (sess : Nat) (s : State) (s' : State) (h : execSessionTimeout sess s = .next s') :
    Frame [.objs, .ex, .sorus, .lib] s s' := by
  unfold execSessionTimeout at h
  refine finish_frame h ?_
  split
  · refine .ite ?_ ?_
    · refine .step (closeSession_frame _ _ _) (by decide) ?_
      exact .refl _
    · exact .refl _
  · exact .refl _

theorem effSessionClose_frame (sess : Nat) (req : Nat) (addr : Nat) (target : Nat) (s : State) :
    Frame1 [.objs, .ex, .sorus, .lib] s (effSessionClose sess req addr target s) := by
  unfold effSessionClose
  refine .ite ?_ ?_
  · refine .pair ?_
    exact .refl _
  · refine .ite ?_ ?_
    · refine .pair ?_
      refine .step (closeSession_frame _ _ _) (by decide) ?_
      refine .step (answer_frame _ _ _ _ _ _) (by decide) ?_
      exact .refl _
    · refine .pair ?_
      refine .step (closeSession_frame _ _ _) (by decide) ?_
      exact .refl _

theorem execSessionClose_frame (sess : Nat) (target : Int) (s : State) (s' : State) (h : execSessionClose sess target s = .next s') :
    Frame [.objs, .ex, .sorus, .lib] s s' := by
  unfold execSessionClose at h
  refine finish_frame h ?_
  refine hostWrite_frame (by decide) (fun _ => ?_) ?_ 
  · refine .step (effSessionClose_frame _ _ _ _ _) (by decide) ?_
    exact .refl _
  · exact .refl _

theorem execResponseCacheExpiry_frame (sess : Nat) (s : State) (s' : State) (h : execResponseCacheExpiry sess s = .next s') :
    Frame [.ex] s s' := by
  unfold execResponseCacheExpiry at h
  refine finish_frame h ?_
  split
  · refine .step (State.setSession_frame _ _ _) (by decide) ?_
    exact .refl _
  · exact .refl _

theorem abandonBlock_frame (s : State) (i : Nat) (x : Session) (b : BlockBuf) :
    Frame [.objs, .ex, .sorus] s (abandonBlock s i x b) := by
  unfold abandonBlock
  refine .step (raiseA_frame _ _ _) (by decide) ?_
  refine .step (State.inc64_frame _ _ _ _) (by decide) ?_
  refine .step (State.setSession_frame _ _ _) (by decide) ?_
  exact .refl _

theorem execBlockAbandoned_frame (sess : Nat) (s : State) (s' : State) (h : execBlockAbandoned sess s = .next s') :
    Frame [.objs, .ex, .sorus] s s' := by
  unfold execBlockAbandoned at h
  refine finish_frame h ?_
  split
  · split
    · refine .ite ?_ ?_
      · refine .step (abandonBlock_frame _ _ _ _) (by decide) ?_
        exact .refl _
      · exact .refl _
    · exact .refl _
  · exact .refl _

theorem restartGroup_frame (s : State) : Frame [.objs, .dev, .ex, .sorus, .cal] s (restartGroup s) := by
  unfold restartGroup
  refine .step (autoStore_frame _ _) (by decide) ?_
  refine .set_ex (by decide) ?_
  exact .refl _

theorem rotateKey_frame (s : State) (k : Nat) (key : List Byte) :
    Frame [.objs, .staged, .stagedOcts, .dev, .ex, .sorus, .cal] s (rotateKey s k key) := by
  unfold rotateKey
  refine .ite ?_ ?_
  · refine .step (restartGroup_frame _) (by decide) ?_
    refine .step (raiseA_frame _ _ _) (by decide) ?_
    refine .step (State.setObjN_frame _ _ _ _) (by decide) ?_
    refine .step (State.unstage_frame _ _ _) (by decide) ?_
    refine .set_ex (by decide) ?_
    exact .refl _
  · refine .step (raiseA_frame _ _ _) (by decide) ?_
    refine .step (State.setObjN_frame _ _ _ _) (by decide) ?_
    refine .step (State.unstage_frame _ _ _) (by decide) ?_
    refine .set_ex (by decide) ?_
    exact .refl _

theorem effKeyApply_frame (k : Nat) (s : State) :
    Frame1 [.objs, .staged, .stagedOcts, .dev, .ex, .sorus, .cal] s (effKeyApply k s) := by
  unfold effKeyApply
  split
  · refine .pair ?_
    exact .refl _
  · refine .ite ?_ ?_
    · refine .pair ?_
      exact .refl _
    · refine .ite ?_ ?_
      · refine .pair ?_
        exact .refl _
      · refine .pair ?_
        refine .step (autoStore_frame _ _) (by decide) ?_
        refine .step (rotateKey_frame _ _ _) (by decide) ?_
        exact .refl _

theorem execKeyApply_frame (sess : Nat) (k : Int) (s : State) (s' : State) (h : execKeyApply sess k s = .next s') :
    Frame [.objs, .staged, .stagedOcts, .dev, .ex, .sorus, .cal, .lib] s s' := by
  unfold execKeyApply at h
  refine finish_frame h ?_
  refine hostWrite_frame (by decide) (fun _ => ?_) ?_ 
  · refine .step (effKeyApply_frame _ _) (by decide) ?_
    exact .refl _
  · exact .refl _

theorem endOverlap_frame (s : State) (k : Nat) : Frame [.objs, .ex, .sorus, .lib] s (endOverlap s k) := by
  unfold endOverlap
  refine .foldl (fun _ _ => ?_) ?_
  · refine .step (closeSession_frame _ _ _) (by decide) ?_
    exact .refl _
  · refine .set_ex (by decide) ?_
    exact .refl _

theorem execKeyOverlapEnd_frame (k : Nat) (s : State) (s' : State) (h : execKeyOverlapEnd k s = .next s') :
    Frame [.objs, .ex, .sorus, .lib] s s' := by
  unfold execKeyOverlapEnd at h
  refine finish_frame h ?_
  refine .step (endOverlap_frame _ _) (by decide) ?_
  exact .refl _

theorem execGroupSeqReservation_frame (s : State) (s' : State) (h : execGroupSeqReservation s = .next s') :
    Frame [.objs, .dev, .ex, .sorus, .cal] s s' := by
  unfold execGroupSeqReservation at h
  refine finish_frame h ?_
  refine .ite ?_ ?_
  · refine .step (autoStore_frame _ _) (by decide) ?_
    refine .set_ex (by decide) ?_
    exact .refl _
  · exact .refl _

theorem effReadSlot_frame (sess : Nat) (v : Int) (s : State) : Frame1 [.ex] s (effReadSlot sess v s) := by
  unfold effReadSlot
  refine .pair ?_
  split
  · refine .step (State.setSession_frame _ _ _) (by decide) ?_
    exact .refl _
  · exact .refl _

theorem effPrivTarget_frame (n : Nat) (v : Int) (s : State) : Frame1 [.objs, .lobes, .drv] s (effPrivTarget n v s) := by
  unfold effPrivTarget
  refine .pair ?_
  refine .step (writeTarget_frame _ _ _) (by decide) ?_
  refine .step (State.setObj_frame _ _ _ _) (by decide) ?_
  exact .refl _

theorem effRange_frame (addr : Nat) (v : Int) (s : State) : Frame1 [.objs, .mon] s (effRange addr v s) := by
  unfold effRange
  refine .pair ?_
  refine .set_mon (by decide) ?_
  refine .step (State.setObj_frame _ _ _ _) (by decide) ?_
  exact .refl _

theorem effPolicer_frame (addr : Nat) (p : Nat) (v : Int) (s : State) : Frame1 [.objs, .net] s (effPolicer addr p v s) := by
  unfold effPolicer
  refine .pair ?_
  refine .set_net (by decide) ?_
  refine .step (State.setObj_frame _ _ _ _) (by decide) ?_
  exact .refl _

theorem effParkInitiator_frame (t : Nat) (v : Int) (s : State) : Frame1 [.objs, .mat] s (effParkInitiator t v s) := by
  unfold effParkInitiator
  refine .ite ?_ ?_
  · refine .pair ?_
    exact .refl _
  · refine .pair ?_
    refine .step (rePark_frame _) (by decide) ?_
    refine .step (State.setObj_frame _ _ _ _) (by decide) ?_
    exact .refl _

theorem effLoadData_frame (sess : Nat) (b : List Byte) (s : State) : Frame1 [.hbm, .lib, .mat] s (effLoadData sess b s) := by
  unfold effLoadData
  conv => zeta
  split
  · refine .pair ?_
    exact .refl _
  · refine .pair ?_
    refine .step (State.slotWrite_frame _ _ _ _) (by decide) ?_
    refine .set_lib (by decide) ?_
    exact .refl _

theorem keepOct_frame {m : List Comp} {s : State} (addr sel : Nat) (b : List Byte) {p : State × Verdict} (hs : m.contains .octs = true)
    (h : Frame1 m s p) : Frame1 m s (keepOct addr sel b p) := by
  obtain ⟨t, v⟩ := p
  cases v
  · exact .step (State.setOct_frame _ _ _ _) (by simp_all [sub]) h
  · exact h
  · exact .step (State.setOct_frame _ _ _ _) (by simp_all [sub]) h

theorem effBytes_frame (sess : Nat) (addr : Nat) (sel : Nat) (b : List Byte) (s : State) :
    Frame1 [.objs, .octs, .stagedOcts, .hbm, .dev, .ex, .lobes, .sorus, .drv, .steady, .loops, .mon, .cal, .lib, .com, .net, .mat] s (effBytes sess addr sel b s) := by
  unfold effBytes
  refine .ite ?_ ?_
  · refine .step (effLoadData_frame _ _ _) (by decide) ?_
    exact .refl _
  · refine .ite ?_ ?_
    · refine .step (effFwData_frame _ _ _) (by decide) ?_
      exact .refl _
    · refine .ite ?_ ?_
      · refine keepOct_frame _ _ _ (by decide) ?_ 
        refine .step (effHostDrive_frame _ _) (by decide) ?_
        exact .refl _
      · refine .ite ?_ ?_
        · refine keepOct_frame _ _ _ (by decide) ?_ 
          refine .step (effGrantDecide_frame _ _ _ _) (by decide) ?_
          exact .refl _
        · refine .ite ?_ ?_
          · refine keepOct_frame _ _ _ (by decide) ?_ 
            refine .step (effClassDecide_frame _ _ _ _ _) (by decide) ?_
            exact .refl _
          · refine .ite ?_ ?_
            · refine .step (effShadowNode_frame _ _ _) (by decide) ?_
              exact .refl _
            · refine .ite ?_ ?_
              · refine .step (effShadowBank_frame _ _) (by decide) ?_
                exact .refl _
              · refine .ite ?_ ?_
                · refine .step (effRingChannels_frame _ _ _) (by decide) ?_
                  exact .refl _
                · split
                  · refine .ite ?_ ?_
                    · refine .pair ?_
                      refine .step (State.stageOct_frame _ _ _ _) (by decide) ?_
                      exact .refl _
                    · refine .pair ?_
                      refine .step (State.setOct_frame _ _ _ _) (by decide) ?_
                      exact .refl _
                  · refine .pair ?_
                    exact .refl _

theorem readNow_frame (s : State) (sess : Nat) (req : Nat) (level : Nat) (entries : List ReadEntry) :
    Frame [.objs, .ex, .sorus] s (readNow s sess req level entries) := by
  unfold readNow
  refine .ite ?_ ?_
  · refine .step (answer_frame _ _ _ _ _ _) (by decide) ?_
    exact .refl _
  · refine .ite ?_ ?_
    · refine .step (answer_frame _ _ _ _ _ _) (by decide) ?_
      exact .refl _
    · refine .step (answer_frame _ _ _ _ _ _) (by decide) ?_
      exact .refl _

theorem execRead_frame (sess : Nat) (req : Nat) (entries : List ReadEntry) (s : State) (s' : State) (h : execRead sess req entries s = .next s') :
    Frame [.objs, .ex, .sorus, .lib] s s' := by
  unfold execRead at h
  refine finish_frame h ?_
  refine request_frame (by decide) (fun _ _ => ?_) ?_ 
  · refine .step (readNow_frame _ _ _ _ _) (by decide) ?_
    exact .refl _
  · exact .refl _

theorem badChunk_frame (s : State) (sess : Nat) (req : Nat) (addr : Nat) (at_ : Nat) :
    Frame [.objs, .ex, .sorus] s (badChunk s sess req addr at_) := by
  unfold badChunk
  refine .step (answer_frame _ _ _ _ _ _) (by decide) ?_
  exact .refl _

theorem blockReadNow_frame (s : State) (sess : Nat) (req : Nat) (level : Nat) (addr : Nat) (sel : Nat) (offset : Nat) (count : Nat) :
    Frame [.objs, .ex, .sorus] s (blockReadNow s sess req level addr sel offset count) := by
  unfold blockReadNow
  refine .ite ?_ ?_
  · refine .step (answer_frame _ _ _ _ _ _) (by decide) ?_
    exact .refl _
  · conv => zeta
    split
    · refine .step (answer_frame _ _ _ _ _ _) (by decide) ?_
      exact .refl _
    · refine .ite ?_ ?_
      · refine .step (answer_frame _ _ _ _ _ _) (by decide) ?_
        exact .refl _
      · split
        · refine .step (badChunk_frame _ _ _ _ _) (by decide) ?_
          exact .refl _
        · refine .step (answerFrom_frame _ _ _ _ _ _ _ _) (by decide) ?_
          exact .refl _

theorem execBlockRead_frame (sess : Nat) (req : Nat) (addr : Nat) (sel : Nat) (offset : Nat) (count : Nat) (s : State) (s' : State) (h : execBlockRead sess req addr sel offset count s = .next s') :
    Frame [.objs, .ex, .sorus, .lib] s s' := by
  unfold execBlockRead at h
  refine finish_frame h ?_
  refine request_frame (by decide) (fun _ _ => ?_) ?_ 
  · refine unlessRecovery_frame (by decide) (fun _ => ?_) ?_ 
    · refine .step (blockReadNow_frame _ _ _ _ _ _ _ _) (by decide) ?_
      exact .refl _
    · exact .refl _
  · exact .refl _

theorem touchLoad_frame (s : State) (sess : Nat) (addr : Nat) : Frame [.lib] s (touchLoad s sess addr) := by
  unfold touchLoad
  refine .ite ?_ ?_
  · refine .set_lib (by decide) ?_
    exact .refl _
  · exact .refl _

theorem overrunScan_frame (s : State) (col : Nat) : Frame [.objs, .ex, .sorus, .loops] s (overrunScan s col) := by
  unfold overrunScan
  refine .ite ?_ ?_
  · refine .step (raiseA_frame _ _ _) (by decide) ?_
    refine .step (State.setObjN_frame _ _ _ _) (by decide) ?_
    refine .step (State.setColumn_frame _ _ _) (by decide) ?_
    exact .refl _
  · refine .ite ?_ ?_
    · refine .step (raiseA_frame _ _ _) (by decide) ?_
      refine .step (State.setObjN_frame _ _ _ _) (by decide) ?_
      refine .step (State.setColumn_frame _ _ _) (by decide) ?_
      exact .refl _
    · refine .step (State.setColumn_frame _ _ _) (by decide) ?_
      exact .refl _

theorem reseedElem_frame (s : State) (d : Int) (e : Nat) : Frame [.sorus, .loops] s (reseedElem s d e) := by
  unfold reseedElem
  refine .step (State.setElem_frame _ _ _) (by decide) ?_
  exact .refl _

theorem reseedCell_frame (s : State) (k : Nat) : Frame [.sorus, .loops] s (reseedCell s k) := by
  unfold reseedCell
  refine .ite ?_ ?_
  · conv => zeta
    split
    · refine .ite ?_ ?_
      · refine .step (noteRatio_frame _ _) (by decide) ?_
        refine .step (reseedElem_frame _ _ _) (by decide) ?_
        refine .step (reseedElem_frame _ _ _) (by decide) ?_
        exact .refl _
      · exact .refl _
    · refine .step (noteRatio_frame _ _) (by decide) ?_
      exact .refl _
    · exact .refl _
  · exact .refl _

theorem reseedScan_frame (s : State) : Frame [.sorus, .loops] s (reseedScan s) := by
  unfold reseedScan
  refine .ite ?_ ?_
  · refine .foldl (fun _ _ => ?_) ?_
    · refine .step (reseedCell_frame _ _) (by decide) ?_
      exact .refl _
    · exact .refl _
  · exact .refl _

theorem takeGain_frame (s : State) (pd : Nat) : Frame [.objs, .mon] s (takeGain s pd) := by
  unfold takeGain
  refine .ite ?_ ?_
  · refine .step (State.setPd_frame _ _ _) (by decide) ?_
    exact .refl _
  · refine .step (State.incSat_frame _ _ _ _) (by decide) ?_
    refine .step (State.setPd_frame _ _ _) (by decide) ?_
    exact .refl _

theorem monitorTake_frame (s : State) : Frame [.objs, .ex, .sorus, .mon] s (monitorTake s) := by
  unfold monitorTake
  refine .foldl (fun _ _ => ?_) ?_
  · refine .step (guardFlush_frame _ _) (by decide) ?_
    exact .refl _
  · refine .foldl (fun _ _ => ?_) ?_
    · refine .step (avgBoundary_frame _ _) (by decide) ?_
      exact .refl _
    · refine .set_mon (by decide) ?_
      refine .ite ?_ ?_
      · refine .set_mon (by decide) ?_
        refine .foldl (fun _ _ => ?_) ?_
        · refine .step (takeGain_frame _ _) (by decide) ?_
          exact .refl _
        · refine .set_mon (by decide) ?_
          exact .refl _
      · refine .foldl (fun _ _ => ?_) ?_
        · refine .step (takeGain_frame _ _) (by decide) ?_
          exact .refl _
        · refine .set_mon (by decide) ?_
          exact .refl _

theorem slewElem_frame (s : State) (e : Nat) : Frame [.sorus, .loops] s (slewElem s e) := by
  unfold slewElem
  refine .ite ?_ ?_
  · refine .step (State.setElem_frame _ _ _) (by decide) ?_
    exact .refl _
  · refine .step (noteRatio_frame _ _) (by decide) ?_
    refine .step (State.setElem_frame _ _ _) (by decide) ?_
    exact .refl _

theorem enableScan_frame (s : State) : Frame [.objs, .dev, .ex, .sorus, .steady, .loops] s (enableScan s) := by
  unfold enableScan
  refine .ite ?_ ?_
  · refine .foldl (fun _ _ => ?_) ?_
    · refine .ite ?_ ?_
      · refine .step (enableElem_frame _ _) (by decide) ?_
        exact .refl _
      · refine .ite ?_ ?_
        · refine .step (reacquire_frame _ _) (by decide) ?_
          exact .refl _
        · refine .step (State.setElem_frame _ _ _) (by decide) ?_
          exact .refl _
    · refine .foldl (fun _ _ => ?_) ?_
      · refine .step (disableElem_frame _ _) (by decide) ?_
        exact .refl _
      · exact .refl _
  · refine .foldl (fun _ _ => ?_) ?_
    · refine .step (disableElem_frame _ _) (by decide) ?_
      exact .refl _
    · exact .refl _

theorem elemsScan_frame (s : State) : Frame [.objs, .dev, .ex, .lobes, .sorus, .drv, .steady, .loops] s (elemsScan s) := by
  unfold elemsScan
  refine .ite ?_ ?_
  · refine .step (enableScan_frame _) (by decide) ?_
    exact .refl _
  · refine .ite ?_ ?_
    · refine .foldl (fun _ _ => ?_) ?_
      · refine .step (slewElem_frame _ _) (by decide) ?_
        exact .refl _
      · refine .step (enableScan_frame _) (by decide) ?_
        exact .refl _
    · refine .foldl (fun _ _ => ?_) ?_
      · refine .step (wrapResume_frame _ _) (by decide) ?_
        refine .step (wrapScan_frame _ _) (by decide) ?_
        exact .refl _
      · refine .foldl (fun _ _ => ?_) ?_
        · refine .step (slewElem_frame _ _) (by decide) ?_
          exact .refl _
        · refine .step (enableScan_frame _) (by decide) ?_
          exact .refl _

theorem keepCodes_frame (s : State) (b : Nat) : Frame [.drv] s (keepCodes s b) := by
  unfold keepCodes
  refine .foldl (fun _ _ => ?_) ?_
  · refine .step (State.setChan_frame _ _ _) (by decide) ?_
    refine .ite ?_ ?_
    · refine .step (noteChange_frame _ _) (by decide) ?_
      exact .refl _
    · exact .refl _
  · refine .step (State.setBank_frame _ _ _) (by decide) ?_
    exact .refl _

theorem acceptKeep_frame (s : State) (b : Nat) : Frame [.drv] s (acceptKeep s b) := by
  unfold acceptKeep
  refine .ite ?_ ?_
  · refine .step (keepCodes_frame _ _) (by decide) ?_
    refine .step (State.setBank_frame _ _ _) (by decide) ?_
    refine .step (leaveHolding_frame _ _) (by decide) ?_
    exact .refl _
  · refine .step (State.setBank_frame _ _ _) (by decide) ?_
    refine .step (leaveHolding_frame _ _) (by decide) ?_
    exact .refl _

theorem keepAlive_frame (s : State) : Frame [.lobes, .drv] s (keepAlive s) := by
  unfold keepAlive
  conv => zeta
  split
  · exact .refl _
  · refine .ite ?_ ?_
    · refine .step (writeBanks_frame _) (by decide) ?_
      exact .refl _
    · refine .foldl (fun _ _ => ?_) ?_
      · refine .step (acceptKeep_frame _ _) (by decide) ?_
        exact .refl _
      · refine .set_drv (by decide) ?_
        refine .foldl (fun _ _ => ?_) ?_
        · refine .ite ?_ ?_
          · refine .step (State.setBank_frame _ _ _) (by decide) ?_
            exact .refl _
          · exact .refl _
        · refine .step (writeBanks_frame _) (by decide) ?_
          exact .refl _

theorem resumeScan_frame (s : State) : Frame [.dev, .lobes, .sorus, .drv, .loops] s (resumeScan s) := by
  unfold resumeScan
  refine .ite ?_ ?_
  · refine .ite ?_ ?_
    · refine .foldl (fun _ _ => ?_) ?_
      · refine .step (State.setVoa_frame _ _ _) (by decide) ?_
        exact .refl _
      · refine .set_dev (by decide) ?_
        refine .foldl (fun _ _ => ?_) ?_
        · refine .ite ?_ ?_
          · refine .step (State.setElem_frame _ _ _) (by decide) ?_
            exact .refl _
          · refine .ite ?_ ?_
            · refine .step (driveElem_frame _ _) (by decide) ?_
              refine .step (State.setElem_frame _ _ _) (by decide) ?_
              exact .refl _
            · refine .step (State.setElem_frame _ _ _) (by decide) ?_
              exact .refl _
        · exact .refl _
    · refine .foldl (fun _ _ => ?_) ?_
      · refine .ite ?_ ?_
        · refine .step (State.setElem_frame _ _ _) (by decide) ?_
          exact .refl _
        · refine .ite ?_ ?_
          · refine .step (driveElem_frame _ _) (by decide) ?_
            refine .step (State.setElem_frame _ _ _) (by decide) ?_
            exact .refl _
          · refine .step (State.setElem_frame _ _ _) (by decide) ?_
            exact .refl _
      · exact .refl _
  · exact .refl _

theorem speedScan_frame (s : State) (n : Nat) (now : Nat) : Frame [.objs, .ex, .sorus, .mat] s (speedScan s n now) := by
  unfold speedScan
  refine .ite ?_ ?_
  · exact .refl _
  · refine .ite ?_ ?_
    · refine .step (raiseS_frame _ _ _) (by decide) ?_
      refine .set_mat (by decide) ?_
      refine .ite ?_ ?_
      · refine .step (State.setObjN_frame _ _ _ _) (by decide) ?_
        refine .set_mat (by decide) ?_
        exact .refl _
      · refine .step (State.setObjN_frame _ _ _ _) (by decide) ?_
        refine .step (State.setObjN_frame _ _ _ _) (by decide) ?_
        refine .set_mat (by decide) ?_
        exact .refl _
    · refine .ite ?_ ?_
      · refine .step (raiseS_frame _ _ _) (by decide) ?_
        refine .set_mat (by decide) ?_
        refine .ite ?_ ?_
        · refine .step (State.setObjN_frame _ _ _ _) (by decide) ?_
          refine .set_mat (by decide) ?_
          exact .refl _
        · refine .step (State.setObjN_frame _ _ _ _) (by decide) ?_
          refine .step (State.setObjN_frame _ _ _ _) (by decide) ?_
          refine .set_mat (by decide) ?_
          exact .refl _
      · refine .ite ?_ ?_
        · refine .step (State.setObjN_frame _ _ _ _) (by decide) ?_
          refine .set_mat (by decide) ?_
          exact .refl _
        · refine .step (State.setObjN_frame _ _ _ _) (by decide) ?_
          refine .step (State.setObjN_frame _ _ _ _) (by decide) ?_
          refine .set_mat (by decide) ?_
          exact .refl _

theorem resyncScan_frame (s : State) : Frame [.objs, .ex, .time, .sorus] s (resyncScan s) := by
  unfold resyncScan
  refine .ite ?_ ?_
  · conv => zeta
    split
    · refine .of1 ?_
      refine .step (loadCounter_frame _ _) (by decide) ?_
      refine .set_time (by decide) ?_
      exact .refl _
    · refine .set_time (by decide) ?_
      exact .refl _
  · exact .refl _

theorem generatorGrants_frame (s : State) : Frame [.objs, .dev, .ex, .sorus, .steady] s (generatorGrants s) := by
  unfold generatorGrants
  refine .foldl (fun _ _ => ?_) ?_
  · refine .step (releaseGrant_frame _ _ _) (by decide) ?_
    exact .refl _
  · exact .refl _

theorem hostDriveGrants_frame (s : State) : Frame [.objs, .dev, .ex, .sorus, .steady] s (hostDriveGrants s) := by
  unfold hostDriveGrants
  refine .foldl (fun _ _ => ?_) ?_
  · refine .step (releaseGrant_frame _ _ _) (by decide) ?_
    exact .refl _
  · exact .refl _

theorem scanOpen_frame (s : State) (upsets : List Nat) (traffic : List MatStep) :
    Frame [.objs, .dev, .ex, .time, .sorus, .steady, .loops, .mon, .fab, .com, .mat] s (scanOpen s upsets traffic) := by
  unfold scanOpen
  refine .step (monitorTake_frame _) (by decide) ?_
  refine .step (State.setObj_frame _ _ _ _) (by decide) ?_
  refine .set_steady_fab (by decide) (by decide) ?_
  refine .step (resyncScan_frame _) (by decide) ?_
  refine .step (reseedScan_frame _) (by decide) ?_
  refine .foldl (fun _ _ => ?_) ?_
  · refine .step (overrunScan_frame _ _) (by decide) ?_
    exact .refl _
  · refine .step (matTraffic_frame _ _) (by decide) ?_
    refine .step (keepLatches_frame _) (by decide) ?_
    exact .refl _

theorem scanClose_frame (s : State) (caps : List (Nat × Nat)) :
    Frame [.objs, .octs, .staged, .stagedOcts, .dev, .ex, .funcs, .lobes, .sorus, .drv, .steady, .loops, .mon, .cal, .lib, .mat] s (scanClose s caps) := by
  unfold scanClose
  refine .step (closeSpent_frame _) (by decide) ?_
  refine .step (ringsScan_frame _) (by decide) ?_
  refine .step (syncScan_frame _) (by decide) ?_
  refine .foldl (fun _ _ => ?_) ?_
  · refine .step (speedScan_frame _ _ _) (by decide) ?_
    exact .refl _
  · refine .step (parkStart_frame _) (by decide) ?_
    refine .step (resumeScan_frame _) (by decide) ?_
    refine .step (loopsBoundary_frame _) (by decide) ?_
    refine .step (serveQueue_frame _) (by decide) ?_
    refine .step (hostDriveGrants_frame _) (by decide) ?_
    refine .step (heaterScan_frame _) (by decide) ?_
    refine .step (generatorGrants_frame _) (by decide) ?_
    refine .step (calScan_frame _) (by decide) ?_
    refine .step (calValuesScan_frame _) (by decide) ?_
    refine .step (keepAlive_frame _) (by decide) ?_
    exact .refl _

theorem scanBegin_frame (s : State) (caps : List (Nat × Nat)) (upsets : List Nat) (traffic : List MatStep) :
    Frame [.objs, .octs, .staged, .stagedOcts, .dev, .ex, .funcs, .lobes, .time, .sorus, .drv, .steady, .loops, .mon, .cal, .fab, .lib, .com, .mat] s (scanBegin s caps upsets traffic) := by
  unfold scanBegin
  refine .step (scanClose_frame _ _) (by decide) ?_
  refine .step (elemsScan_frame _) (by decide) ?_
  refine .step (scanOpen_frame _ _ _) (by decide) ?_
  exact .refl _

theorem execScanBoundary_frame (caps : List (Nat × Nat)) (report : ScanReport) (s : State) (s' : State) (h : execScanBoundary caps report s = .next s') :
    Frame [.objs, .octs, .staged, .stagedOcts, .dev, .ex, .funcs, .lobes, .time, .sorus, .drv, .steady, .loops, .mon, .cal, .fab, .lib, .com, .mat] s s' := by
  unfold execScanBoundary at h
  refine finish_frame h ?_
  refine .ite ?_ ?_
  · refine .step (scanBegin_frame _ _ _ _) (by decide) ?_
    exact .refl _
  · exact .refl _

end Sys2Proof.Laws
end

