-- ==== Sys2Proof/Laws/Held.lean ====
section
/-!
SUPPORT. The operations that touch the device record only by asserting FAULT_N for one more cause: grants, commits,
calibration runs and loops on their way out of service.
-/

-- One proof at a time: side by side they ask for more threads than the memory limit of a check allows.
set_option Elab.async false

namespace Sys2Proof.Laws

open Sys2Proof Sys2Proof.Machine


/-- The device record is the same but for more causes of FAULT_N. -/
def Held (s t : State) : Prop := t.dev = { s.dev with faults := t.dev.faults } ∧ ∀ c ∈ s.dev.faults, c ∈ t.dev.faults

def Held1 {α : Type} (s : State) (p : State × α) : Prop := Held s p.1

def Held2 {α : Type} (s : State) (p : α × State) : Prop := Held s p.2

section

variable {s t u : State}

theorem Held.refl (s : State) : Held s s := ⟨rfl, fun _ h => h⟩

theorem Held.trans (h : Held s t) (k : Held t u) : Held s u :=
  ⟨by rw [k.1, h.1], fun c hc => k.2 c (h.2 c hc)⟩

theorem Held.step (k : Held t u) (h : Held s t) : Held s u := h.trans k

theorem Held.frame {m : List Comp} (k : Frame m t u) (hm : m.contains .dev = false) (h : Held s t) : Held s u :=
  h.trans (by rw [Held, k.dev hm]; exact ⟨rfl, fun _ h => h⟩)

theorem Held.ite {p : Prop} [Decidable p] (h : Held s t) (k : Held s u) : Held s (if p then t else u) := by
  split <;> assumption

theorem Held.foldl {β : Type} {f : State → β → State} {l : List β} (hf : ∀ s b, Held s (f s b)) (h : Held s t) :
    Held s (l.foldl f t) := by
  induction l generalizing t with
  | nil => exact h
  | cons b l ih => exact ih (h.trans (hf t b))

theorem Held1.step {α : Type} {p : State × α} (k : Held1 t p) (h : Held s t) : Held1 s p := Held.trans h k

theorem Held1.frame {α : Type} {p : State × α} {m : List Comp} (k : Frame1 m t p) (hm : m.contains .dev = false) (h : Held s t) :
    Held1 s p := Held.frame k hm h

theorem Held2.frame {α : Type} {p : α × State} {m : List Comp} (k : Frame2 m t p) (hm : m.contains .dev = false) (h : Held s t) :
    Held2 s p := Held.frame k hm h

theorem Held1.ite {α : Type} {p : Prop} [Decidable p] {t u : State × α} (h : Held1 s t) (k : Held1 s u) :
    Held1 s (if p then t else u) := by
  split <;> assumption

theorem Held1.pair {α : Type} {a : α} (h : Held s t) : Held1 s (t, a) := h

theorem Held.of1 {α : Type} {p : State × α} (h : Held1 s p) : Held s p.1 := h

theorem Held.of2 {α : Type} {p : α × State} (h : Held2 s p) : Held s p.2 := h

theorem Held.fst {α : Type} {p : State × α} {a : α} (e : p = (t, a)) (h : Held1 s p) : Held s t := by
  subst e; exact h

theorem Held.snd {α : Type} {p : α × State} {a : α} (e : p = (a, t)) (h : Held2 s p) : Held s t := by
  subst e; exact h

theorem Held.set_steady {v0} (h : Held s t) : Held s { t with steady := v0 } := h

theorem Held.set_loops {v0} (h : Held s t) : Held s { t with loops := v0 } := h

theorem Held.set_com {v0} (h : Held s t) : Held s { t with com := v0 } := h

theorem Held.set_ex_loops_com {v0} {v1} {v2} (h : Held s t) : Held s { t with ex := v0, loops := v1, com := v2 } := h

theorem Held.set_cal {v0} (h : Held s t) : Held s { t with cal := v0 } := h

theorem Held.set_lib {v0} (h : Held s t) : Held s { t with lib := v0 } := h

theorem Held.state (h : Held s t) : t.dev.state = s.dev.state := by rw [h.1]

theorem Held.cause (h : Held s t) : t.dev.cause = s.dev.cause := by rw [h.1]

theorem Held.set_drv {v0} (h : Held s t) : Held s { t with drv := v0 } := h

theorem Held.set_ex_loops_cal_com {v0} {v1} {v2} {v3} (h : Held s t) : Held s { t with ex := v0, loops := v1, cal := v2, com := v3 } := h

theorem Held.set_fab {v0} (h : Held s t) : Held s { t with fab := v0 } := h

theorem Held.set_lobes {v0} (h : Held s t) : Held s { t with lobes := v0 } := h

theorem Held.set_mat {v0} (h : Held s t) : Held s { t with mat := v0 } := h

theorem Held.set_objs {v0} (h : Held s t) : Held s { t with objs := v0 } := h

theorem Held.set_sorus {v0} (h : Held s t) : Held s { t with sorus := v0 } := h

theorem Held.set_staged {v0} (h : Held s t) : Held s { t with staged := v0 } := h

theorem Held.set_time {v0} (h : Held s t) : Held s { t with time := v0 } := h

theorem Held.set_steady_fab {v0} {v1} (h : Held s t) : Held s { t with steady := v0, fab := v1 } := h

end

theorem State.fault_held (s : State) (c : FaultCause) : Held s (State.fault s c) := by
  unfold State.fault
  split
  · exact .refl _
  · exact ⟨rfl, fun x hx => List.mem_append_left _ hx⟩

theorem steadyDecides_held (s : State) (kind : Nat) : Held1 s (steadyDecides s kind) := by
  unfold steadyDecides
  refine .ite ?_ ?_
  · refine .pair ?_
    exact .refl _
  · refine .ite ?_ ?_
    · refine .pair ?_
      exact .refl _
    · refine .ite ?_ ?_
      · refine .pair ?_
        refine .frame (State.incSat_frame _ _ _ _) (by decide) ?_
        refine .set_steady ?_
        exact .refl _
      · refine .pair ?_
        refine .frame (showSteady_frame _) (by decide) ?_
        refine .step (State.fault_held _ _) ?_
        refine .frame (raiseS_frame _ _ _) (by decide) ?_
        refine .set_steady ?_
        refine .set_steady ?_
        exact .refl _

theorem grantNow_held (s : State) (r : GReq) : Held1 s (grantNow s r) := by
  unfold grantNow
  split
  refine .ite ?_ ?_
  · refine .pair ?_
    refine .frame (issueGrant_frame _ _) (by decide) ?_
    refine .fst (by assumption) ?_
    refine .step (steadyDecides_held _ _) ?_
    exact .refl _
  · refine .pair ?_
    refine .frame (State.incSat_frame _ _ _ _) (by decide) ?_
    refine .fst (by assumption) ?_
    refine .step (steadyDecides_held _ _) ?_
    exact .refl _

theorem decideNow_held (s : State) (kind : Nat) (fits : State → Bool) : Held1 s (decideNow s kind fits) := by
  unfold decideNow
  split
  refine .ite ?_ ?_
  · refine .pair ?_
    refine .fst (by assumption) ?_
    refine .step (steadyDecides_held _ _) ?_
    exact .refl _
  · refine .pair ?_
    refine .frame (State.incSat_frame _ _ _ _) (by decide) ?_
    refine .fst (by assumption) ?_
    refine .step (steadyDecides_held _ _) ?_
    exact .refl _

theorem serveList_held (l : List GReq) (s : State) : Held s (serveList l s) := by
  induction l generalizing s with
  | nil => exact .set_steady (.refl _)
  | cons r t ih =>
    unfold serveList
    refine .ite ?_ (.set_steady (.refl _))
    split
    have h : Held s _ := .fst (by assumption) (.step (steadyDecides_held _ _) (.refl _))
    exact .ite (.trans (.frame (issueGrant_frame _ _) (by decide) h) (ih _)) (.set_steady h)

theorem serveQueue_held (s : State) : Held s (serveQueue s) := by
  unfold serveQueue
  refine .ite ?_ ?_
  · exact .refl _
  · refine .frame (showSteady_frame _) (by decide) ?_
    refine .step (serveList_held _ _) ?_
    exact .refl _

theorem releaseGrant_held (s : State) (k : GKind) (src : Nat) : Held s (releaseGrant s k src) := by
  unfold releaseGrant
  refine .ite ?_ ?_
  · split
    refine .ite ?_ ?_
    · refine .step (serveQueue_held _) ?_
      refine .frame (dropGrant_frame _ _ _) (by decide) ?_
      refine .fst (by assumption) ?_
      refine .step (steadyDecides_held _ _) ?_
      exact .refl _
    · refine .frame (markReleased_frame _ _ _) (by decide) ?_
      refine .fst (by assumption) ?_
      refine .step (steadyDecides_held _ _) ?_
      exact .refl _
  · exact .refl _

theorem requestGrant_held (s : State) (r : GReq) : Held1 s (requestGrant s r) := by
  unfold requestGrant
  refine .ite ?_ ?_
  · refine .pair ?_
    refine .frame (askHost_frame _ _) (by decide) ?_
    exact .refl _
  · refine .ite ?_ ?_
    · refine .pair ?_
      refine .frame (showSteady_frame _) (by decide) ?_
      refine .step (serveQueue_held _) ?_
      refine .set_steady ?_
      exact .refl _
    · refine .pair ?_
      exact .refl _

theorem heaterScan_held (s : State) : Held s (heaterScan s) := by
  unfold heaterScan
  conv => zeta
  split
  refine .frame (showSteady_frame _) (by decide) ?_
  refine .ite ?_ ?_
  · refine .frame (raiseS_frame _ _ _) (by decide) ?_
    refine .ite ?_ ?_
    · refine .frame (accountScan_frame _) (by decide) ?_
      refine .fst (by assumption) ?_
      refine .step (steadyDecides_held _ _) ?_
      refine .frame (takeBudgets_frame _) (by decide) ?_
      refine .set_steady ?_
      exact .refl _
    · refine .fst (by assumption) ?_
      refine .step (steadyDecides_held _ _) ?_
      refine .frame (takeBudgets_frame _) (by decide) ?_
      refine .set_steady ?_
      exact .refl _
  · refine .ite ?_ ?_
    · refine .frame (accountScan_frame _) (by decide) ?_
      refine .fst (by assumption) ?_
      refine .step (steadyDecides_held _ _) ?_
      refine .frame (takeBudgets_frame _) (by decide) ?_
      refine .set_steady ?_
      exact .refl _
    · refine .fst (by assumption) ?_
      refine .step (steadyDecides_held _ _) ?_
      refine .frame (takeBudgets_frame _) (by decide) ?_
      refine .set_steady ?_
      exact .refl _

theorem enableElem_held (s : State) (e : Nat) : Held s (enableElem s e) := by
  unfold enableElem
  refine .ite ?_ ?_
  · refine .step (releaseGrant_held _ _ _) ?_
    refine .frame (State.setElem_frame _ _ _) (by decide) ?_
    exact .refl _
  · refine .frame (State.setElem_frame _ _ _) (by decide) ?_
    exact .refl _

theorem wrapScan_held (s : State) (e : Nat) : Held s (wrapScan s e) := by
  unfold wrapScan
  conv => zeta
  split
  · exact .refl _
  · refine .ite ?_ ?_
    · refine .step (releaseGrant_held _ _ _) ?_
      refine .ite ?_ ?_
      · split
        refine .frame (writeDirect_frame _ _ _) (by decide) ?_
        refine .frame (writeDirect_frame _ _ _) (by decide) ?_
        refine .frame (State.setElem_frame _ _ _) (by decide) ?_
        refine .ite ?_ ?_
        · refine .frame (driveTrimmer_frame _ _ _) (by decide) ?_
          exact .refl _
        · exact .refl _
      · refine .frame (followPhi_frame _ _) (by decide) ?_
        refine .frame (State.setElem_frame _ _ _) (by decide) ?_
        refine .ite ?_ ?_
        · refine .frame (driveTrimmer_frame _ _ _) (by decide) ?_
          exact .refl _
        · exact .refl _
    · refine .ite ?_ ?_
      · split
        refine .frame (writeDirect_frame _ _ _) (by decide) ?_
        refine .frame (writeDirect_frame _ _ _) (by decide) ?_
        refine .frame (State.setElem_frame _ _ _) (by decide) ?_
        refine .ite ?_ ?_
        · refine .frame (driveTrimmer_frame _ _ _) (by decide) ?_
          exact .refl _
        · exact .refl _
      · refine .frame (followPhi_frame _ _) (by decide) ?_
        refine .frame (State.setElem_frame _ _ _) (by decide) ?_
        refine .ite ?_ ?_
        · refine .frame (driveTrimmer_frame _ _ _) (by decide) ?_
          exact .refl _
        · exact .refl _

theorem requestWrap_held (s : State) (e : Nat) (d : Int) : Held s (requestWrap s e d) := by
  unfold requestWrap
  refine .ite ?_ ?_
  · exact .refl _
  · conv => zeta
    split
    refine .frame (State.setElem_frame _ _ _) (by decide) ?_
    refine .fst (by assumption) ?_
    refine .step (requestGrant_held _ _) ?_
    refine .frame (atModeBoundary_frame _ _) (by decide) ?_
    exact .refl _

theorem offload_held (s : State) (e : Nat) : Held s (offload s e) := by
  unfold offload
  conv => zeta
  split
  · refine .step (requestWrap_held _ _ _) ?_
    refine .frame (State.setElem_frame _ _ _) (by decide) ?_
    exact .refl _
  · refine .ite ?_ ?_
    · refine .ite ?_ ?_
      · refine .step (requestWrap_held _ _ _) ?_
        refine .frame (State.setElem_frame _ _ _) (by decide) ?_
        exact .refl _
      · refine .ite ?_ ?_
        · refine .step (requestWrap_held _ _ _) ?_
          refine .frame (State.setElem_frame _ _ _) (by decide) ?_
          exact .refl _
        · split
          refine .ite ?_ ?_
          · refine .frame (driveTrimmer_frame _ _ _) (by decide) ?_
            refine .frame (State.setElem_frame _ _ _) (by decide) ?_
            refine .fst (by assumption) ?_
            refine .frame (ceilingPass_frame _ _ _) (by decide) ?_
            refine .frame (State.setElem_frame _ _ _) (by decide) ?_
            exact .refl _
          · refine .fst (by assumption) ?_
            refine .frame (ceilingPass_frame _ _ _) (by decide) ?_
            refine .frame (State.setElem_frame _ _ _) (by decide) ?_
            exact .refl _
    · refine .frame (State.setElem_frame _ _ _) (by decide) ?_
      exact .refl _

theorem effHostDrive_held (recs : List DriveRec) (s : State) : Held1 s (effHostDrive recs s) := by
  unfold effHostDrive
  refine .ite ?_ ?_
  · refine .pair ?_
    exact .refl _
  · conv => zeta
    split
    · refine .frame (driveRefused_frame _ _ _) (by decide) ?_
      exact .refl _
    · split
      refine .ite ?_ ?_
      · refine .pair ?_
        refine .set_loops ?_
        refine .frame (State.incSat_frame _ _ _ _) (by decide) ?_
        refine .fst (by assumption) ?_
        refine .step (grantNow_held _ _) ?_
        exact .refl _
      · refine .frame (driveRefused_frame _ _ _) (by decide) ?_
        refine .fst (by assumption) ?_
        refine .step (grantNow_held _ _) ?_
        exact .refl _

theorem endCal_held (s : State) (r : CalReq) (status : Nat) (quality : Int) (flags : Nat) :
    Held s (endCal s r status quality flags) := by
  unfold endCal
  refine .step (releaseGrant_held _ _ _) ?_
  refine .frame (withdraw_frame _ _ _) (by decide) ?_
  refine .frame (raiseA_frame _ _ _) (by decide) ?_
  refine .frame (State.setObjN_frame _ _ _ _) (by decide) ?_
  refine .frame (State.setObj_frame _ _ _ _) (by decide) ?_
  refine .frame (State.setObjN_frame _ _ _ _) (by decide) ?_
  refine .frame (State.setObjN_frame _ _ _ _) (by decide) ?_
  refine .set_cal ?_
  exact .refl _

theorem abortCal_held (s : State) (reason : Nat) : Held s (abortCal s reason) := by
  unfold abortCal
  conv => zeta
  split
  · exact .refl _
  · refine .ite ?_ ?_
    · exact .refl _
    · refine .step (endCal_held _ _ _ _ _) ?_
      refine .ite ?_ ?_
      · refine .frame (restoreCodes_frame _ _) (by decide) ?_
        refine .frame (returnBack_frame _ _) (by decide) ?_
        refine .frame (returnLanes_frame _ _) (by decide) ?_
        exact .refl _
      · refine .frame (returnBack_frame _ _) (by decide) ?_
        refine .frame (returnLanes_frame _ _) (by decide) ?_
        exact .refl _

theorem calLaneFault_held (s : State) (b : Nat) (lane : Nat) : Held s (calLaneFault s b lane) := by
  unfold calLaneFault
  conv => zeta
  split
  · refine .ite ?_ ?_
    · refine .step (abortCal_held _ _) ?_
      refine .frame (backLaneFault_frame _ _ _) (by decide) ?_
      exact .refl _
    · refine .frame (backLaneFault_frame _ _ _) (by decide) ?_
      exact .refl _
  · refine .frame (backLaneFault_frame _ _ _) (by decide) ?_
    exact .refl _

theorem abortCalByCommit_held (s : State) (c : Commit) : Held s (abortCalByCommit s c) := by
  unfold abortCalByCommit
  split
  · refine .ite ?_ ?_
    · refine .frame (restoreCodes_frame _ _) (by decide) ?_
      refine .step (abortCal_held _ _) ?_
      exact .refl _
    · exact .refl _
  · exact .refl _

theorem abandon_held (s : State) (c : Commit) (why : Outc) : Held s (abandon s c why) := by
  unfold abandon
  conv => zeta
  split
  split
  · refine .frame (nakUnsolicited_frame _ _ _ _ _) (by decide) ?_
    refine .frame (slotAfter_frame _ _) (by decide) ?_
    refine .frame (raiseA_frame _ _ _) (by decide) ?_
    refine .frame (State.capNote_frame _ _) (by decide) ?_
    refine .frame (State.incSat_frame _ _ _ _) (by decide) ?_
    refine .step (releaseGrant_held _ _ _) ?_
    refine .frame (updateLog_frame _ _ _) (by decide) ?_
    refine .fst (by assumption) ?_
    refine .ite ?_ ?_
    · split
      refine .pair ?_
      refine .fst (by assumption) ?_
      refine .frame (sendPeerAbort_frame _ _) (by decide) ?_
      refine .foldl (fun _ _ => ?_) ?_
      · refine .frame (refuseHeld_frame _ _ _) (by decide) ?_
        exact .refl _
      · refine .frame (State.dropCommit_frame _ _) (by decide) ?_
        exact .refl _
    · refine .pair ?_
      refine .foldl (fun _ _ => ?_) ?_
      · refine .frame (refuseHeld_frame _ _ _) (by decide) ?_
        exact .refl _
      · refine .frame (State.dropCommit_frame _ _) (by decide) ?_
        exact .refl _
  · refine .frame (slotAfter_frame _ _) (by decide) ?_
    refine .frame (raiseA_frame _ _ _) (by decide) ?_
    refine .frame (State.capNote_frame _ _) (by decide) ?_
    refine .frame (State.incSat_frame _ _ _ _) (by decide) ?_
    refine .step (releaseGrant_held _ _ _) ?_
    refine .frame (updateLog_frame _ _ _) (by decide) ?_
    refine .fst (by assumption) ?_
    refine .ite ?_ ?_
    · split
      refine .pair ?_
      refine .fst (by assumption) ?_
      refine .frame (sendPeerAbort_frame _ _) (by decide) ?_
      refine .foldl (fun _ _ => ?_) ?_
      · refine .frame (refuseHeld_frame _ _ _) (by decide) ?_
        exact .refl _
      · refine .frame (State.dropCommit_frame _ _) (by decide) ?_
        exact .refl _
    · refine .pair ?_
      refine .foldl (fun _ _ => ?_) ?_
      · refine .frame (refuseHeld_frame _ _ _) (by decide) ?_
        exact .refl _
      · refine .frame (State.dropCommit_frame _ _) (by decide) ?_
        exact .refl _

theorem abandonAll_held (s : State) : Held s (abandonAll s) := by
  unfold abandonAll
  refine .foldl (fun _ _ => ?_) ?_
  · refine .step (abandon_held _ _ _) ?_
    exact .refl _
  · refine .frame (refuseAllHeld_frame _) (by decide) ?_
    exact .refl _

theorem revalidateCommits_held (s : State) : Held s (revalidateCommits s) := by
  unfold revalidateCommits
  refine .foldl (fun _ _ => ?_) ?_
  · split
    refine .ite ?_ ?_
    · refine .step (abandon_held _ _ _) ?_
      refine .fst (by assumption) ?_
      refine .frame (revalidateImage_frame _ _) (by decide) ?_
      exact .refl _
    · refine .fst (by assumption) ?_
      refine .frame (revalidateImage_frame _ _) (by decide) ?_
      exact .refl _
  · exact .refl _

theorem endDone_held (s : State) (c : Commit) (o : Outc) : Held s (endDone s c o) := by
  unfold endDone
  refine .ite ?_ ?_
  · refine .frame (raiseA_frame _ _ _) (by decide) ?_
    refine .frame (State.capNote_frame _ _) (by decide) ?_
    refine .frame (State.inc64_frame _ _ _ _) (by decide) ?_
    refine .frame (State.incSat_frame _ _ _ _) (by decide) ?_
    refine .step (releaseGrant_held _ _ _) ?_
    refine .ite ?_ ?_
    · refine .frame (adaptAll_frame _ _ _) (by decide) ?_
      refine .frame (latchDone_frame _ _ _) (by decide) ?_
      refine .frame (updateLog_frame _ _ _) (by decide) ?_
      refine .frame (State.dropCommit_frame _ _) (by decide) ?_
      refine .frame (atModeBoundary_frame _ _) (by decide) ?_
      exact .refl _
    · refine .frame (latchDone_frame _ _ _) (by decide) ?_
      refine .frame (updateLog_frame _ _ _) (by decide) ?_
      refine .frame (State.dropCommit_frame _ _) (by decide) ?_
      refine .frame (atModeBoundary_frame _ _) (by decide) ?_
      exact .refl _
  · refine .frame (State.capNote_frame _ _) (by decide) ?_
    refine .frame (State.inc64_frame _ _ _ _) (by decide) ?_
    refine .frame (State.incSat_frame _ _ _ _) (by decide) ?_
    refine .step (releaseGrant_held _ _ _) ?_
    refine .ite ?_ ?_
    · refine .frame (adaptAll_frame _ _ _) (by decide) ?_
      refine .frame (latchDone_frame _ _ _) (by decide) ?_
      refine .frame (updateLog_frame _ _ _) (by decide) ?_
      refine .frame (State.dropCommit_frame _ _) (by decide) ?_
      refine .frame (atModeBoundary_frame _ _) (by decide) ?_
      exact .refl _
    · refine .frame (latchDone_frame _ _ _) (by decide) ?_
      refine .frame (updateLog_frame _ _ _) (by decide) ?_
      refine .frame (State.dropCommit_frame _ _) (by decide) ?_
      refine .frame (atModeBoundary_frame _ _) (by decide) ?_
      exact .refl _

theorem prepareGrant_held (s : State) (c : Commit) : Held s (prepareGrant s c) := by
  unfold prepareGrant
  refine .ite ?_ ?_
  · refine .frame (answerCommit_frame _ _ _ _) (by decide) ?_
    refine .frame (State.incSat_frame _ _ _ _) (by decide) ?_
    refine .frame (atModeBoundary_frame _ _) (by decide) ?_
    exact .refl _
  · refine .ite ?_ ?_
    · refine .frame (askHost_frame _ _) (by decide) ?_
      refine .set_com ?_
      refine .frame (atModeBoundary_frame _ _) (by decide) ?_
      exact .refl _
    · split
      refine .ite ?_ ?_
      · refine .frame (acceptPrepare_frame _ _) (by decide) ?_
        refine .fst (by assumption) ?_
        refine .step (grantNow_held _ _) ?_
        refine .frame (atModeBoundary_frame _ _) (by decide) ?_
        exact .refl _
      · refine .frame (answerCommit_frame _ _ _ _) (by decide) ?_
        refine .fst (by assumption) ?_
        refine .step (grantNow_held _ _) ?_
        refine .frame (atModeBoundary_frame _ _) (by decide) ?_
        exact .refl _

theorem prepareOp_held (s : State) (sess : Nat) (req : Nat) (id : Nat) (slot : Nat) (flags : Nat) :
    Held s (prepareOp s sess req id slot flags) := by
  unfold prepareOp
  conv => zeta
  split
  · refine .frame (answerCommit_frame _ _ _ _) (by decide) ?_
    refine .frame (adaptBoundary_frame _) (by decide) ?_
    exact .refl _
  · split
    refine .ite ?_ ?_
    · refine .frame (answerCommit_frame _ _ _ _) (by decide) ?_
      refine .fst (by assumption) ?_
      refine .frame (prepareCurrent_frame _ _) (by decide) ?_
      refine .frame (adaptBoundary_frame _) (by decide) ?_
      exact .refl _
    · split
      · refine .frame (answerCommit_frame _ _ _ _) (by decide) ?_
        refine .fst (by assumption) ?_
        refine .frame (prepareFetch_frame _ _) (by decide) ?_
        refine .fst (by assumption) ?_
        refine .frame (prepareCurrent_frame _ _) (by decide) ?_
        refine .frame (adaptBoundary_frame _) (by decide) ?_
        exact .refl _
      · refine .step (prepareGrant_held _ _) ?_
        refine .fst (by assumption) ?_
        refine .frame (prepareFetch_frame _ _) (by decide) ?_
        refine .fst (by assumption) ?_
        refine .frame (prepareCurrent_frame _ _) (by decide) ?_
        refine .frame (adaptBoundary_frame _) (by decide) ?_
        exact .refl _

theorem commitPlanned_held (s : State) (sess : Nat) (req : Nat) (id : Nat) (t : Int) (peer : Bool) (immediate : Bool) (plan : Option (Commit × Option Commit)) :
    Held s (commitPlanned s sess req id t peer immediate plan) := by
  unfold commitPlanned
  conv => zeta
  split
  · refine .frame (answerCommit_frame _ _ _ _) (by decide) ?_
    refine .frame (State.incSat_frame _ _ _ _) (by decide) ?_
    exact .refl _
  · refine .ite ?_ ?_
    · refine .frame (answerCommit_frame _ _ _ _) (by decide) ?_
      refine .frame (State.incSat_frame _ _ _ _) (by decide) ?_
      exact .refl _
    · refine .ite ?_ ?_
      · refine .frame (askHost_frame _ _) (by decide) ?_
        refine .set_com ?_
        exact .refl _
      · split
        refine .ite ?_ ?_
        · refine .frame (armCommit_frame _ _ _ _ _ _ _) (by decide) ?_
          refine .frame (State.incSat_frame _ _ _ _) (by decide) ?_
          refine .fst (by assumption) ?_
          refine .step (steadyDecides_held _ _) ?_
          exact .refl _
        · refine .frame (answerCommit_frame _ _ _ _) (by decide) ?_
          refine .frame (State.incSat_frame _ _ _ _) (by decide) ?_
          refine .fst (by assumption) ?_
          refine .step (steadyDecides_held _ _) ?_
          exact .refl _

theorem commitPlan_held (s : State) (sess : Nat) (req : Nat) (c : Commit) (t : Int) (peer : Bool) (immediate : Bool) :
    Held s (commitPlan s sess req c t peer immediate) := by
  unfold commitPlan
  refine .ite ?_ ?_
  · refine .frame (armCommit_frame _ _ _ _ _ _ _) (by decide) ?_
    exact .refl _
  · refine .step (commitPlanned_held _ _ _ _ _ _ _ _) ?_
    refine .frame (atModeBoundary_frame _ _) (by decide) ?_
    exact .refl _

theorem commitOp_held (s : State) (sess : Nat) (req : Nat) (id : Nat) (t : Int) (flags : Nat) :
    Held s (commitOp s sess req id t flags) := by
  unfold commitOp
  refine .ite ?_ ?_
  · refine .frame (answerCommit_frame _ _ _ _) (by decide) ?_
    exact .refl _
  · conv => zeta
    split
    · refine .frame (answerCommit_frame _ _ _ _) (by decide) ?_
      exact .refl _
    · refine .ite ?_ ?_
      · refine .frame (answerCommit_frame _ _ _ _) (by decide) ?_
        exact .refl _
      · refine .ite ?_ ?_
        · refine .frame (answerCommit_frame _ _ _ _) (by decide) ?_
          exact .refl _
        · split
          · refine .frame (answerCommit_frame _ _ _ _) (by decide) ?_
            exact .refl _
          · refine .step (commitPlan_held _ _ _ _ _ _ _) ?_
            exact .refl _

theorem cancelOp_held (s : State) (sess : Nat) (req : Nat) (id : Nat) : Held s (cancelOp s sess req id) := by
  unfold cancelOp
  split
  · refine .frame (answerCommit_frame _ _ _ _) (by decide) ?_
    exact .refl _
  · refine .ite ?_ ?_
    · refine .frame (answerCommit_frame _ _ _ _) (by decide) ?_
      exact .refl _
    · refine .ite ?_ ?_
      · refine .frame (answerCommit_frame _ _ _ _) (by decide) ?_
        exact .refl _
      · refine .frame (answerCommit_frame _ _ _ _) (by decide) ?_
        refine .step (abandon_held _ _ _) ?_
        exact .refl _

theorem spanEndsWrap_held (s : State) (e : Nat) : Held s (spanEndsWrap s e) := by
  unfold spanEndsWrap
  refine .ite ?_ ?_
  · refine .step (releaseGrant_held _ _ _) ?_
    refine .frame (withdraw_frame _ _ _) (by decide) ?_
    refine .frame (State.setElem_frame _ _ _) (by decide) ?_
    exact .refl _
  · exact .refl _

theorem effSpanApply_held (s : State) : Held1 s (effSpanApply s) := by
  unfold effSpanApply
  refine .ite ?_ ?_
  · refine .pair ?_
    exact .refl _
  · refine .ite ?_ ?_
    · refine .pair ?_
      exact .refl _
    · refine .ite ?_ ?_
      · refine .pair ?_
        exact .refl _
      · refine .pair ?_
        refine .frame (raiseA_frame _ _ _) (by decide) ?_
        refine .foldl (fun _ _ => ?_) ?_
        · refine .frame (reconvert_frame _ _) (by decide) ?_
          exact .refl _
        · refine .foldl (fun _ _ => ?_) ?_
          · refine .frame (startSpanSeq_frame _ _ _ _) (by decide) ?_
            refine .frame (noteWrite_frame _ _) (by decide) ?_
            exact .refl _
          · refine .foldl (fun _ _ => ?_) ?_
            · refine .step (spanEndsWrap_held _ _) ?_
              exact .refl _
            · refine .frame (State.applyStaged_frame _ _) (by decide) ?_
              refine .of1 ?_
              refine .step (steadyDecides_held _ _) ?_
              refine .foldl (fun _ _ => ?_) ?_
              · refine .frame (noteRefused_frame _ _) (by decide) ?_
                exact .refl _
              · exact .refl _

theorem calLight_held (s : State) (cv : Nat) (q : Nat) : Held s (calLight s cv q) := by
  unfold calLight
  conv => zeta
  split
  · exact .refl _
  · refine .ite ?_ ?_
    · exact .refl _
    · refine .ite ?_ ?_
      · refine .step (abortCal_held _ _) ?_
        exact .refl _
      · exact .refl _

theorem calConvFault_held (s : State) (cv : Nat) : Held s (calConvFault s cv) := by
  unfold calConvFault
  conv => zeta
  split
  · refine .ite ?_ ?_
    · refine .step (abortCal_held _ _) ?_
      exact .refl _
    · exact .refl _
  · exact .refl _

theorem calTry_held (s : State) (r : CalRun) : Held s (calTry s r) := by
  unfold calTry
  conv => zeta
  split
  · refine .step (endCal_held _ _ _ _ _) ?_
    refine .frame (State.putRun_frame _ _) (by decide) ?_
    exact .refl _
  · refine .ite ?_ ?_
    · refine .frame (State.putRun_frame _ _) (by decide) ?_
      exact .refl _
    · split
      · refine .frame (calGo_frame _ _) (by decide) ?_
        exact .refl _
      · refine .ite ?_ ?_
        · refine .frame (calGo_frame _ _) (by decide) ?_
          refine .ite ?_ ?_
          · exact .refl _
          · refine .of1 ?_
            refine .step (requestGrant_held _ _) ?_
            refine .frame (atModeBoundary_frame _ _) (by decide) ?_
            exact .refl _
        · refine .frame (State.putRun_frame _ _) (by decide) ?_
          refine .ite ?_ ?_
          · exact .refl _
          · refine .of1 ?_
            refine .step (requestGrant_held _ _) ?_
            refine .frame (atModeBoundary_frame _ _) (by decide) ?_
            exact .refl _

theorem finishItem_held (s : State) (r : CalRun) (out : CalResult) : Held s (finishItem s r out) := by
  unfold finishItem
  refine .ite ?_ ?_
  · refine .step (releaseGrant_held _ _ _) ?_
    refine .frame (State.putRun_frame _ _) (by decide) ?_
    refine .set_cal ?_
    exact .refl _
  · refine .step (endCal_held _ _ _ _ _) ?_
    refine .set_cal ?_
    exact .refl _

theorem calEnd_held (s : State) (r : CalRun) (res : CalResult) : Held s (calEnd s r res) := by
  unfold calEnd
  refine .ite ?_ ?_
  · refine .step (finishItem_held _ _ _) ?_
    refine .frame (restoreCodes_frame _ _) (by decide) ?_
    refine .frame (returnLanes_frame _ _) (by decide) ?_
    exact .refl _
  · refine .step (releaseGrant_held _ _ _) ?_
    refine .frame (State.putRun_frame _ _) (by decide) ?_
    refine .frame (returnBack_frame _ _) (by decide) ?_
    refine .frame (restoreCodes_frame _ _) (by decide) ?_
    refine .frame (returnLanes_frame _ _) (by decide) ?_
    exact .refl _

theorem effCalAccept_held (v : Int) (s : State) : Held1 s (effCalAccept v s) := by
  unfold effCalAccept
  split
  · refine .pair ?_
    exact .refl _
  · refine .ite ?_ ?_
    · refine .pair ?_
      refine .step (finishItem_held _ _ _) ?_
      exact .refl _
    · refine .pair ?_
      refine .step (endCal_held _ _ _ _ _) ?_
      exact .refl _

theorem effCalAbort_held (s : State) : Held1 s (effCalAbort s) := by
  unfold effCalAbort
  refine .pair ?_
  refine .step (abortCal_held _ _) ?_
  refine .set_cal ?_
  exact .refl _

theorem stopCal_held (s : State) : Held s (stopCal s) := by
  unfold stopCal
  refine .step (abortCal_held _ _) ?_
  exact .refl _

theorem refuseReq_held (s : State) (r : GReq) : Held s (refuseReq s r) := by
  unfold refuseReq
  conv => zeta
  split
  · refine .frame (answerCommit_frame _ _ _ _) (by decide) ?_
    refine .frame (State.dropHeld_frame _ _) (by decide) ?_
    refine .frame (State.incSat_frame _ _ _ _) (by decide) ?_
    exact .refl _
  · split
    · refine .ite ?_ ?_
      · refine .step (abortCal_held _ _) ?_
        refine .frame (State.incSat_frame _ _ _ _) (by decide) ?_
        exact .refl _
      · refine .frame (State.incSat_frame _ _ _ _) (by decide) ?_
        exact .refl _
    · refine .frame (State.incSat_frame _ _ _ _) (by decide) ?_
      exact .refl _

theorem decideReq_held (fits : State → GReq → Bool) (grant : Bool) (s : State) (n : Nat) (r : GReq) :
    Held s (decideReq fits grant s n r) := by
  unfold decideReq
  refine .ite ?_ ?_
  · split
    refine .ite ?_ ?_
    · refine .frame (grantEntry_frame _ _ _) (by decide) ?_
      refine .frame (closeReq_frame _ _ _) (by decide) ?_
      refine .fst (by assumption) ?_
      refine .step (steadyDecides_held _ _) ?_
      exact .refl _
    · refine .step (refuseReq_held _ _) ?_
      refine .frame (closeReq_frame _ _ _) (by decide) ?_
      refine .fst (by assumption) ?_
      refine .step (steadyDecides_held _ _) ?_
      exact .refl _
  · refine .step (refuseReq_held _ _) ?_
    refine .frame (closeReq_frame _ _ _) (by decide) ?_
    exact .refl _

theorem effGrantDecide_held (seq : Nat) (through : Bool) (grant : Bool) (s : State) :
    Held1 s (effGrantDecide seq through grant s) := by
  unfold effGrantDecide
  refine .ite ?_ ?_
  · refine .pair ?_
    exact .refl _
  · split
    · refine .pair ?_
      exact .refl _
    · refine .pair ?_
      refine .frame (refill_frame _) (by decide) ?_
      refine .foldl (fun _ _ => ?_) ?_
      · refine .step (decideReq_held _ _ _ _ _) ?_
        exact .refl _
      · exact .refl _

theorem steadyTakes_held (s : State) (r : GReq) : Held s (steadyTakes s r) := by
  unfold steadyTakes
  refine .ite ?_ ?_
  · split
    refine .ite ?_ ?_
    · refine .of1 ?_
      refine .frame (grantReq_frame _ _) (by decide) ?_
      refine .fst (by assumption) ?_
      refine .step (steadyDecides_held _ _) ?_
      exact .refl _
    · refine .step (refuseReq_held _ _) ?_
      refine .fst (by assumption) ?_
      refine .step (steadyDecides_held _ _) ?_
      exact .refl _
  · refine .of1 ?_
    refine .step (requestGrant_held _ _) ?_
    exact .refl _

theorem steadyTakesEntry_held (s : State) (n : Nat) (r : GReq) : Held s (steadyTakesEntry s n r) := by
  unfold steadyTakesEntry
  refine .ite ?_ ?_
  · refine .step (decideReq_held _ _ _ _ _) ?_
    exact .refl _
  · refine .of1 ?_
    refine .step (requestGrant_held _ _) ?_
    refine .frame (passReq_frame _ _) (by decide) ?_
    exact .refl _

theorem steadyTakesAll_held (s : State) : Held s (steadyTakesAll s) := by
  unfold steadyTakesAll
  refine .foldl (fun _ _ => ?_) ?_
  · refine .step (steadyTakes_held _ _) ?_
    exact .refl _
  · refine .set_steady ?_
    refine .foldl (fun _ _ => ?_) ?_
    · refine .step (steadyTakesEntry_held _ _ _) ?_
      exact .refl _
    · exact .refl _

theorem fallbackPower_held (s : State) : Held s (fallbackPower s) := by
  unfold fallbackPower
  refine .ite ?_ ?_
  · refine .step (steadyTakesAll_held _) ?_
    refine .ite ?_ ?_
    · refine .frame (fallback_frame _ _) (by decide) ?_
      exact .refl _
    · refine .frame (atModeBoundary_frame _ _) (by decide) ?_
      exact .refl _
  · exact .refl _

theorem linkLost_held (s : State) (l : Nat) : Held s (linkLost s l) := by
  unfold linkLost
  refine .ite ?_ ?_
  · exact .refl _
  · refine .frame (raise_frame _ _ _ _) (by decide) ?_
    refine .step (State.fault_held _ _) ?_
    refine .frame (State.setLobe_frame _ _ _) (by decide) ?_
    exact .refl _

theorem declareLost_held (s : State) (l : Nat) (cause : Nat) : Held s (declareLost s l cause) := by
  unfold declareLost
  refine .ite ?_ ?_
  · refine .ite ?_ ?_
    · refine .step (linkLost_held _ _) ?_
      refine .frame (State.setLobe_frame _ _ _) (by decide) ?_
      exact .refl _
    · refine .frame (takeClaim_frame _ _ _) (by decide) ?_
      refine .frame (State.setLobe_frame _ _ _) (by decide) ?_
      exact .refl _
  · exact .refl _

theorem dropIdleWraps_held (s : State) : Held s (dropIdleWraps s) := by
  unfold dropIdleWraps
  refine .foldl (fun _ _ => ?_) ?_
  · refine .step (releaseGrant_held _ _ _) ?_
    exact .refl _
  · refine .foldl (fun _ _ => ?_) ?_
    · refine .frame (withdraw_frame _ _ _) (by decide) ?_
      exact .refl _
    · exact .refl _

theorem reconcileAll_held (s : State) (snap : Snapshot) : Held s (reconcileAll s snap) := by
  unfold reconcileAll
  refine .step (dropIdleWraps_held _) ?_
  refine .frame (adoptWraps_frame _) (by decide) ?_
  refine .frame (State.setObjN_frame _ _ _ _) (by decide) ?_
  refine .foldl (fun _ _ => ?_) ?_
  · refine .frame (State.setVoa_frame _ _ _) (by decide) ?_
    exact .refl _
  · refine .foldl (fun _ _ => ?_) ?_
    · refine .frame (State.setElem_frame _ _ _) (by decide) ?_
      exact .refl _
    · exact .refl _

theorem restartLoops_held (s : State) : Held s (restartLoops s) := by
  unfold restartLoops
  refine .step (dropIdleWraps_held _) ?_
  refine .frame (adoptWraps_frame _) (by decide) ?_
  refine .frame (State.setObjN_frame _ _ _ _) (by decide) ?_
  refine .foldl (fun _ _ => ?_) ?_
  · refine .frame (State.setVoa_frame _ _ _) (by decide) ?_
    exact .refl _
  · refine .foldl (fun _ _ => ?_) ?_
    · refine .ite ?_ ?_
      · refine .frame (reacquire_frame _ _) (by decide) ?_
        refine .frame (State.setElem_frame _ _ _) (by decide) ?_
        refine .ite ?_ ?_
        · refine .step (releaseGrant_held _ _ _) ?_
          exact .refl _
        · exact .refl _
      · exact .refl _
    · exact .refl _

theorem loseLocal_held (s : State) : Held s (loseLocal s) := by
  unfold loseLocal
  conv => zeta
  split
  · refine .frame (endRoute_frame _ _ _ _) (by decide) ?_
    refine .frame (State.setSlot_frame _ _ _) (by decide) ?_
    refine .frame (State.dropLoads_frame _ _) (by decide) ?_
    refine .frame (cutWriteBack_frame _ _) (by decide) ?_
    refine .set_lib ?_
    refine .set_cal ?_
    refine .frame (returnBack_frame _ _) (by decide) ?_
    refine .step (abortCal_held _ _) ?_
    exact .refl _
  · refine .frame (cutWriteBack_frame _ _) (by decide) ?_
    refine .set_lib ?_
    refine .set_cal ?_
    refine .frame (returnBack_frame _ _) (by decide) ?_
    refine .step (abortCal_held _ _) ?_
    exact .refl _

theorem loseBoth_held (s : State) : Held s (loseBoth s) := by
  unfold loseBoth
  refine .set_ex_loops_cal_com ?_
  refine .step (loseLocal_held _) ?_
  refine .frame (loseRequests_frame _) (by decide) ?_
  exact .refl _

theorem foldWrap_held (s : State) (e : Nat) : Held s (foldWrap s e) := by
  unfold foldWrap
  conv => zeta
  split
  · exact .refl _
  · refine .step (releaseGrant_held _ _ _) ?_
    refine .frame (State.setElem_frame _ _ _) (by decide) ?_
    exact .refl _

theorem loopsBoundary_held (s : State) : Held s (loopsBoundary s) := by
  unfold loopsBoundary
  refine .ite ?_ ?_
  · refine .ite ?_ ?_
    · refine .frame (loopsFallback_frame _) (by decide) ?_
      exact .refl _
    · refine .ite ?_ ?_
      · refine .set_loops ?_
        refine .foldl (fun _ _ => ?_) ?_
        · refine .step (foldWrap_held _ _) ?_
          exact .refl _
        · refine .ite ?_ ?_
          · refine .frame (atModeBoundary_frame _ _) (by decide) ?_
            exact .refl _
          · refine .set_loops ?_
            refine .frame (atModeBoundary_frame _ _) (by decide) ?_
            exact .refl _
      · refine .ite ?_ ?_
        · refine .frame (atModeBoundary_frame _ _) (by decide) ?_
          exact .refl _
        · refine .set_loops ?_
          refine .frame (atModeBoundary_frame _ _) (by decide) ?_
          exact .refl _
  · exact .refl _

theorem enableScan_held (s : State) : Held s (enableScan s) := by
  unfold enableScan
  refine .ite ?_ ?_
  · refine .foldl (fun _ _ => ?_) ?_
    · refine .ite ?_ ?_
      · refine .step (enableElem_held _ _) ?_
        exact .refl _
      · refine .ite ?_ ?_
        · refine .frame (reacquire_frame _ _) (by decide) ?_
          exact .refl _
        · refine .frame (State.setElem_frame _ _ _) (by decide) ?_
          exact .refl _
    · refine .foldl (fun _ _ => ?_) ?_
      · refine .frame (disableElem_frame _ _) (by decide) ?_
        exact .refl _
      · exact .refl _
  · refine .foldl (fun _ _ => ?_) ?_
    · refine .frame (disableElem_frame _ _) (by decide) ?_
      exact .refl _
    · exact .refl _

theorem elemsScan_held (s : State) : Held s (elemsScan s) := by
  unfold elemsScan
  refine .ite ?_ ?_
  · refine .step (enableScan_held _) ?_
    exact .refl _
  · refine .ite ?_ ?_
    · refine .foldl (fun _ _ => ?_) ?_
      · refine .frame (slewElem_frame _ _) (by decide) ?_
        exact .refl _
      · refine .step (enableScan_held _) ?_
        exact .refl _
    · refine .foldl (fun _ _ => ?_) ?_
      · refine .frame (wrapResume_frame _ _) (by decide) ?_
        refine .step (wrapScan_held _ _) ?_
        exact .refl _
      · refine .foldl (fun _ _ => ?_) ?_
        · refine .frame (slewElem_frame _ _) (by decide) ?_
          exact .refl _
        · refine .step (enableScan_held _) ?_
          exact .refl _

theorem generatorGrants_held (s : State) : Held s (generatorGrants s) := by
  unfold generatorGrants
  refine .foldl (fun _ _ => ?_) ?_
  · refine .step (releaseGrant_held _ _ _) ?_
    exact .refl _
  · exact .refl _

end Sys2Proof.Laws
end

