-- ==== Sys2Proof/Laws/Host.lean ====
section
/-!
SUPPORT. What becomes of a host's request that the block takes at once: the frame is noted in its session, the owning chapter's
effect runs, and its verdict is answered.
-/

namespace Sys2Proof.Laws

open Sys2Proof Sys2Proof.Machine

/-- The state once a frame of a session has been noted. -/
def seen (s : State) (sess : Nat) : State :=
  match s.session sess with
  | some (i, x) => s.setSession i { x with lastFrame := s.tick }
  | none => s

theorem seen_frame (s : State) (sess : Nat) : Frame [.ex] s (seen s sess) := by
  unfold seen
  split
  · exact .step (State.setSession_frame _ _ _) (by decide) (.refl _)
  · exact .refl _

theorem session_num {s : State} {n i : Nat} {x : Session} (h : s.session n = some (i, x)) : x.num = n := by
  unfold State.session at h
  simpa using List.find?_some h

/-- A session set in its own entry, its number kept, is found by that number. -/
theorem find_mset (l : SMap Session) {n i : Nat} {x y : Session} (h : l.find? (fun p => p.2.num == n) = some (i, x))
    (hy : y.num = n) : ∃ j, (mset l i y).find? (fun p => p.2.num == n) = some (j, y) := by
  induction l with
  | nil => simp at h
  | cons p t ih =>
    obtain ⟨j, z⟩ := p
    unfold mset
    by_cases hz : z.num = n
    · rw [List.find?_cons_of_pos (by simpa using hz)] at h
      cases h
      simp [hy]
    · rw [List.find?_cons_of_neg (by simpa using hz)] at h
      split
      · exact ⟨i, by rw [List.find?_cons_of_pos (by simpa using hy)]⟩
      · split
        · exact ⟨i, by rw [List.find?_cons_of_pos (by simpa using hy)]⟩
        · obtain ⟨k, hk⟩ := ih h
          exact ⟨k, by rw [List.find?_cons_of_neg (by simpa using hz), hk]⟩

theorem session_setSession {s : State} {n i : Nat} {x y : Session} (h : s.session n = some (i, x)) (hy : y.num = n) :
    ∃ j, (s.setSession i y).session n = some (j, y) := find_mset _ h hy

theorem session_seen {s : State} {n i : Nat} {x : Session} (h : s.session n = some (i, x)) :
    ∃ j, (seen s n).session n = some (j, { x with lastFrame := s.tick }) := by
  unfold seen
  simp only [h]
  exact session_setSession h (by simpa using session_num h)

/-- The newest answer after one is sent is that one. -/
theorem sendAnswer_newest (s : State) (source : Nat) (a : Answer) : (sendAnswer s source a).ex.out.head? = some a := by
  unfold sendAnswer sendTo
  split
  · rfl
  · split <;> rfl

/-- Answering a session that is open sends the answer. -/
theorem answer_answered {s : State} {n i : Nat} {x : Session} (h : s.session n = some (i, x)) (req addr sel : Nat) (r : Reply) :
    (answer s n req addr sel r).answered n req addr sel r := by
  unfold answer answerFrom
  simp only [h]
  exact ⟨_, sendAnswer_newest s 3 _⟩

theorem session_of_ex {s t : State} (h : t.ex = s.ex) (n : Nat) : t.session n = s.session n := by
  simp [State.session, h]

section

variable {s : State} {sess addr sel : Nat} {v : Int}

/-- What the checks of Table 16.7 look at. -/
theorem writeCheck_congr {t : State} (ho : t.objs = s.objs) (hs : t.staged = s.staged) (hd : t.dev = s.dev)
    (hl : t.loops = s.loops) (ht : t.tick = s.tick) (level : Nat) :
    writeCheck t level addr sel v = writeCheck s level addr sel v := by
  have h1 : ∀ a b, t.obj a b = s.obj a b := fun a b => by simp [State.obj, ho]
  have hk : ∀ a w o v, t.lawTaken a w o v = s.lawTaken a w o v := fun a w o v => by unfold State.lawTaken State.scan; rw [ht]
  have hp : ∀ a, t.periodCode a = s.periodCode a := fun a => by unfold State.periodCode State.objN; simp only [h1, hl, hk]
  have h0 : ∀ a b, t.law a b = s.law a b := fun a b => by unfold State.law; simp only [h1, hl, hk, hp]
  have h2 : ∀ a b, t.judged a b = s.judged a b := fun a b => by simp [State.judged, State.stagedVal, h0, hs]
  have h3 : orderOk t addr sel v = orderOk s addr sel v := by
    unfold orderOk
    simp only [h1, h2]
  have h4 : haltedFor t addr sel = haltedFor s addr sel := by simp [haltedFor, h1]
  unfold writeCheck valueCheck
  simp only [h3, h4, hd]

theorem State.ready_iff :
    s.ready sess = true ↔ ∃ i x, s.session sess = some (i, x) ∧ x.objectLane = [] ∧ x.txSeq + 1 < u32Max ∧
      s.active.isSome = true ∧ (s.ex.owed.any fun o => o.sess == sess) = false ∧ s.recovery = false := by
  unfold State.ready
  split
  · rename_i i x h
    constructor
    · intro hr
      simp only [Bool.and_eq_true, List.isEmpty_iff, decide_eq_true_eq, Bool.not_eq_true'] at hr
      exact ⟨i, x, h, hr.1.1.1.1, hr.1.1.1.2, hr.1.1.2, hr.1.2, hr.2⟩
    · rintro ⟨i', x', h', a, b, c, d, e⟩
      rw [h] at h'
      cases h'
      simp [a, b, c, d, e]
  · rename_i h
    constructor
    · simp
    · rintro ⟨i', x', h', -⟩
      simp [h] at h'

/-- A request of a ready session is carried out at once, on the state with the frame noted. -/
theorem request_ready (hr : s.ready sess = true) {req : Nat} (c : Instr) (hq : reqOf c = none ∨ s.newReq sess req = true)
    (carry : State → Nat → State) :
    ∃ i x, s.session sess = some (i, x) ∧ request s sess req .object c carry = carry (seen s sess) x.level := by
  obtain ⟨i, x, hs, hl, hq2, ha, ho, hv⟩ := State.ready_iff.mp hr
  refine ⟨i, x, hs, ?_⟩
  have hnum := session_num hs
  have hact : (s.setSession i { x with lastFrame := s.tick }).active = s.active := rfl
  have hrec : (s.setSession i { x with lastFrame := s.tick }).recovery = s.recovery := rfl
  have hbusy : (s.setSession i { x with lastFrame := s.tick }).laneBusy .object sess = false := by
    simp only [State.laneBusy, hact, Bool.or_eq_false_iff]
    exact ⟨by cases h : s.active <;> simp_all, ho⟩
  unfold request seen
  simp only [hs]
  have hcache : (if (reqOf c).isSome = true then
      x.cache.find? fun e => e.req == req && !(s.setSession i { x with lastFrame := s.tick }).elapsed e.tick 10000000000
      else none) = none := by
    rcases hq with hq | hq
    · simp [hq]
    · split
      · unfold State.newReq at hq
        simp only [hs, Bool.and_eq_true, Bool.not_eq_true'] at hq
        refine List.find?_eq_none.mpr fun e he => ?_
        have := List.any_eq_false.mp hq.1 e he
        simp_all
      · rfl
  rw [hcache]
  have hin : ¬ ((reqOf c).isSome && (s.setSession i { x with lastFrame := s.tick }).inLane { x with lastFrame := s.tick } req) = true := by
    rcases hq with hq | hq
    · simp [hq]
    · unfold State.newReq at hq
      simp only [hs, Bool.and_eq_true, Bool.not_eq_true'] at hq
      have h2 : (s.setSession i { x with lastFrame := s.tick }).inLane { x with lastFrame := s.tick } req = s.inLane x req := by
        simp [State.inLane, State.setSession]
      simp [h2, hq.2]
  have hlast : ¬ u32Max ≤ x.txSeq + 1 := by omega
  rw [if_neg hin, if_neg (by simp [hrec, hv]), if_neg (by rw [hbusy]; simp [Session.waiting, hl]), if_neg hlast]

/-- A write a ready session sends, once it passes the checks, has its effect and its verdict is answered. -/
theorem hostWrite_accepts (h : s.accepts sess addr sel v = true) (eff : State → State × Verdict) :
    hostWrite s sess addr sel v eff = conclude sess 0 addr sel (eff (seen s sess)) := by
  unfold State.accepts at h
  rw [Bool.and_eq_true] at h
  obtain ⟨hr, hw⟩ := h
  obtain ⟨i, x, hs, he⟩ := request_ready hr (req := 0) (.objectWrite sess addr sel v) (.inl rfl) (fun s level =>
      conclude sess 0 addr sel <|
        match writeCheck s level addr sel v with
        | some n => (s, .nak n)
        | none => if s.recovery && !recoveryAllows addr v then (s, .nak .state) else eff s)
  obtain ⟨-, -, -, -, -, -, -, hv⟩ := State.ready_iff.mp hr
  unfold hostWrite
  refine he.trans ?_
  have f := seen_frame s sess
  rw [writeCheck_congr (f.objs (by decide)) (f.staged (by decide)) (f.dev (by decide)) (f.loops (by decide)) (f.tick (by decide))]
  simp only [hs, Option.isNone_iff_eq_none] at hw
  have hv' : (seen s sess).recovery = false := by
    rw [← hv]
    simp [State.recovery, f.dev (by decide)]
  rw [hw]
  simp [hv']

/-- The same for an OCTETS object. -/
theorem hostOctets_accepts (h : s.acceptsOctets sess addr sel = true) {c : Instr} (hc : reqOf c = none) (eff : State → State × Verdict) :
    hostOctets s c sess addr sel eff = conclude sess 0 addr sel (eff (seen s sess)) := by
  unfold State.acceptsOctets at h
  rw [Bool.and_eq_true] at h
  obtain ⟨hr, hw⟩ := h
  obtain ⟨i, x, hs, he⟩ := request_ready hr (req := 0) c (.inl hc) (fun s level =>
      conclude sess 0 addr sel <|
        match octetsCheck s level addr sel with
        | some n => (s, .nak n)
        | none => eff s)
  unfold hostOctets
  refine he.trans ?_
  have f := seen_frame s sess
  have ho : octetsCheck (seen s sess) x.level addr sel = octetsCheck s x.level addr sel := by
    simp [octetsCheck, State.recovery, f.dev (by decide)]
  simp only [hs, Option.isNone_iff_eq_none] at hw
  rw [ho, hw]

/-- The answer to an accepted write whose effect leaves the sessions as they are. -/
theorem conclude_ack {t : State} (h : s.ready sess = true) (ht : t.ex = (seen s sess).ex) :
    (conclude sess 0 addr sel (t, .ack)).answered sess 0 addr sel (.ack []) := by
  obtain ⟨i, x, hs, -⟩ := State.ready_iff.mp h
  obtain ⟨j, hj⟩ := session_seen hs
  exact answer_answered ((session_of_ex ht sess).trans hj) 0 addr sel (.ack [])

end

/-! ### What settling a held request leaves alone -/

@[simp] theorem settleOwed_tick (s : State) (k : OwedKind) (p : Reply) : (settleOwed s k p).tick = s.tick :=
  (settleOwed_frame s k p).tick rfl
@[simp] theorem settleOwed_octs (s : State) (k : OwedKind) (p : Reply) : (settleOwed s k p).octs = s.octs :=
  (settleOwed_frame s k p).octs rfl
@[simp] theorem settleOwed_staged (s : State) (k : OwedKind) (p : Reply) : (settleOwed s k p).staged = s.staged :=
  (settleOwed_frame s k p).staged rfl
@[simp] theorem settleOwed_stagedOcts (s : State) (k : OwedKind) (p : Reply) : (settleOwed s k p).stagedOcts = s.stagedOcts :=
  (settleOwed_frame s k p).stagedOcts rfl
@[simp] theorem settleOwed_hbm (s : State) (k : OwedKind) (p : Reply) : (settleOwed s k p).hbm = s.hbm :=
  (settleOwed_frame s k p).hbm rfl
@[simp] theorem settleOwed_dev (s : State) (k : OwedKind) (p : Reply) : (settleOwed s k p).dev = s.dev :=
  (settleOwed_frame s k p).dev rfl
@[simp] theorem settleOwed_funcs (s : State) (k : OwedKind) (p : Reply) : (settleOwed s k p).funcs = s.funcs :=
  (settleOwed_frame s k p).funcs rfl
@[simp] theorem settleOwed_lobes (s : State) (k : OwedKind) (p : Reply) : (settleOwed s k p).lobes = s.lobes :=
  (settleOwed_frame s k p).lobes rfl
@[simp] theorem settleOwed_time (s : State) (k : OwedKind) (p : Reply) : (settleOwed s k p).time = s.time :=
  (settleOwed_frame s k p).time rfl
@[simp] theorem settleOwed_drv (s : State) (k : OwedKind) (p : Reply) : (settleOwed s k p).drv = s.drv :=
  (settleOwed_frame s k p).drv rfl
@[simp] theorem settleOwed_steady (s : State) (k : OwedKind) (p : Reply) : (settleOwed s k p).steady = s.steady :=
  (settleOwed_frame s k p).steady rfl
@[simp] theorem settleOwed_therm (s : State) (k : OwedKind) (p : Reply) : (settleOwed s k p).therm = s.therm :=
  (settleOwed_frame s k p).therm rfl
@[simp] theorem settleOwed_loops (s : State) (k : OwedKind) (p : Reply) : (settleOwed s k p).loops = s.loops :=
  (settleOwed_frame s k p).loops rfl
@[simp] theorem settleOwed_mon (s : State) (k : OwedKind) (p : Reply) : (settleOwed s k p).mon = s.mon :=
  (settleOwed_frame s k p).mon rfl
@[simp] theorem settleOwed_cal (s : State) (k : OwedKind) (p : Reply) : (settleOwed s k p).cal = s.cal :=
  (settleOwed_frame s k p).cal rfl
@[simp] theorem settleOwed_fab (s : State) (k : OwedKind) (p : Reply) : (settleOwed s k p).fab = s.fab :=
  (settleOwed_frame s k p).fab rfl
@[simp] theorem settleOwed_com (s : State) (k : OwedKind) (p : Reply) : (settleOwed s k p).com = s.com :=
  (settleOwed_frame s k p).com rfl
@[simp] theorem settleOwed_net (s : State) (k : OwedKind) (p : Reply) : (settleOwed s k p).net = s.net :=
  (settleOwed_frame s k p).net rfl
@[simp] theorem settleOwed_mat (s : State) (k : OwedKind) (p : Reply) : (settleOwed s k p).mat = s.mat :=
  (settleOwed_frame s k p).mat rfl

end Sys2Proof.Laws
end

