-- ==== Sys2Proof/Laws/Memory.lean ====
section
/-!
SUPPORT. HBM as a list of cells in canonical form: a write keeps the form, a byte just written reads back, and every other byte
reads as before.
-/

namespace Sys2Proof.Laws

open Sys2Proof Sys2Proof.Machine

/-- The canonical form, said of every cell and of every neighbour. -/
theorem memory_wf_iff (m : List Host.Cell) :
    Memory.wf m = true ↔ m.Pairwise (fun a b => a.1 < b.1) ∧ ∀ c ∈ m, c.2 ≠ unlistedByte := by
  induction m with
  | nil => simp [Memory.wf]
  | cons c t ih =>
    obtain ⟨a, b⟩ := c
    cases t with
    | nil => simp [Memory.wf]
    | cons d t =>
      obtain ⟨a', b'⟩ := d
      simp only [Memory.wf, Bool.and_eq_true, decide_eq_true_eq, ih]
      constructor
      · rintro ⟨⟨hab, hb⟩, hp, hm⟩
        refine ⟨List.pairwise_cons.mpr ⟨fun x hx => ?_, hp⟩, ?_⟩
        · rcases List.mem_cons.mp hx with rfl | hx
          · exact hab
          · exact Nat.lt_trans hab ((List.pairwise_cons.mp hp).1 x hx)
        · intro x hx
          rcases List.mem_cons.mp hx with rfl | hx
          · exact hb
          · exact hm x hx
      · rintro ⟨hp, hm⟩
        have h := List.pairwise_cons.mp hp
        exact ⟨⟨h.1 _ (List.mem_cons_self ..), hm _ (List.mem_cons_self ..)⟩, h.2, fun x hx => hm x (List.mem_cons_of_mem _ hx)⟩

theorem cellsOf_range (bytes : List Byte) (a : Nat) :
    ∀ c ∈ cellsOf a bytes, a ≤ c.1 ∧ c.1 < a + bytes.length ∧ c.2 ≠ unlistedByte := by
  induction bytes generalizing a with
  | nil => simp [cellsOf]
  | cons b t ih =>
    intro c hc
    unfold cellsOf at hc
    split at hc
    · obtain ⟨h1, h2, h3⟩ := ih (a + 1) c hc
      simp only [List.length_cons]
      exact ⟨by omega, by omega, h3⟩
    · rename_i hb
      rcases List.mem_cons.mp hc with rfl | hc
      · simp [hb]
      · obtain ⟨h1, h2, h3⟩ := ih (a + 1) c hc
        simp only [List.length_cons]
        exact ⟨by omega, by omega, h3⟩

theorem cellsOf_sorted (bytes : List Byte) (a : Nat) : (cellsOf a bytes).Pairwise fun x y => x.1 < y.1 := by
  induction bytes generalizing a with
  | nil => simp [cellsOf]
  | cons b t ih =>
    unfold cellsOf
    split
    · exact ih _
    · refine List.pairwise_cons.mpr ⟨fun c hc => ?_, ih _⟩
      have := (cellsOf_range t (a + 1) c hc).1
      simp only
      omega

/-- A write keeps the canonical form. -/
theorem memWrite_wf (m : List Host.Cell) (a : Nat) (bytes : List Byte) (h : Memory.wf m = true) :
    Memory.wf (memWrite m a bytes) = true := by
  rw [memory_wf_iff] at h ⊢
  unfold memWrite
  have hr := cellsOf_range bytes a
  refine ⟨?_, ?_⟩
  · refine List.pairwise_append.mpr ⟨List.pairwise_append.mpr ⟨h.1.filter _, cellsOf_sorted bytes a, ?_⟩, h.1.filter _, ?_⟩
    · intro x hx y hy
      have := (List.mem_filter.mp hx).2
      have := hr y hy
      simp only [decide_eq_true_eq] at *
      omega
    · intro x hx y hy
      have hy' := (List.mem_filter.mp hy).2
      simp only [decide_eq_true_eq] at hy'
      rcases List.mem_append.mp hx with hx | hx
      · have := (List.mem_filter.mp hx).2
        simp only [decide_eq_true_eq] at this
        omega
      · have := hr x hx
        omega
  · intro c hc
    rcases List.mem_append.mp hc with hc | hc
    · rcases List.mem_append.mp hc with hc | hc
      · exact h.2 c (List.mem_filter.mp hc).1
      · exact (hr c hc).2.2
    · exact h.2 c (List.mem_filter.mp hc).1

/-- A byte outside the bytes written reads as before. -/
theorem memByte_memWrite_other (m : List Host.Cell) (a : Nat) (bytes : List Byte) {x : Nat}
    (h : x < a ∨ a + bytes.length ≤ x) : memByte (memWrite m a bytes) x = memByte m x := by
  have hf : (memWrite m a bytes).find? (fun c => c.1 == x) = m.find? (fun c => c.1 == x) := by
    unfold memWrite
    have hc : (cellsOf a bytes).find? (fun c => c.1 == x) = none := by
      refine List.find?_eq_none.mpr fun c hc => ?_
      have := cellsOf_range bytes a c hc
      simp only [beq_iff_eq]
      omega
    rcases h with h | h
    · have h2 : (m.filter fun c => decide (a + bytes.length ≤ c.1)).find? (fun c => c.1 == x) = none := by
        refine List.find?_eq_none.mpr fun c hc => ?_
        have := (List.mem_filter.mp hc).2
        simp only [decide_eq_true_eq] at this
        simp only [beq_iff_eq]
        omega
      rw [List.find?_append, List.find?_append, hc, h2, Option.or_none, Option.or_none, List.find?_filter]
      congr 1
      funext c
      by_cases e : c.1 = x
      · simp [e, h]
      · simp [e]
    · have h1 : (m.filter fun c => decide (c.1 < a)).find? (fun c => c.1 == x) = none := by
        refine List.find?_eq_none.mpr fun c hc => ?_
        have := (List.mem_filter.mp hc).2
        simp only [decide_eq_true_eq] at this
        simp only [beq_iff_eq]
        omega
      rw [List.find?_append, List.find?_append, h1, hc, Option.none_or, Option.none_or, List.find?_filter]
      congr 1
      funext c
      by_cases e : c.1 = x
      · simp [e, h]
      · simp [e]
  unfold memByte
  rw [hf]

theorem find_cellsOf (bytes : List Byte) (a i : Nat) (h : i < bytes.length) :
    (match (cellsOf a bytes).find? fun c => c.1 == a + i with
      | some c => c.2
      | none => unlistedByte) = bytes[i] := by
  induction bytes generalizing a i with
  | nil => simp at h
  | cons b t ih =>
    have hs : b = unlistedByte → cellsOf a (b :: t) = cellsOf (a + 1) t := fun hb => by rw [cellsOf, if_pos hb]
    have hn : b ≠ unlistedByte → cellsOf a (b :: t) = (a, b) :: cellsOf (a + 1) t := fun hb => by rw [cellsOf, if_neg hb]
    cases i with
    | zero =>
      by_cases hb : b = unlistedByte
      · have : (cellsOf (a + 1) t).find? (fun c => c.1 == a + 0) = none := by
          refine List.find?_eq_none.mpr fun c hc => ?_
          have := (cellsOf_range t (a + 1) c hc).1
          simp only [beq_iff_eq]
          omega
        rw [hs hb, this]
        simp [hb]
      · rw [hn hb]
        simp
    | succ i =>
      have hi : i < t.length := by simpa using h
      have e : a + (i + 1) = a + 1 + i := by omega
      rw [e]
      by_cases hb : b = unlistedByte
      · rw [hs hb]
        simpa using ih (a + 1) i hi
      · rw [hn hb, List.find?_cons_of_neg (by simp; omega)]
        simpa using ih (a + 1) i hi

/-- A byte just written reads back. -/
theorem memByte_memWrite_self (m : List Host.Cell) (a : Nat) (bytes : List Byte) {i : Nat} (h : i < bytes.length) :
    memByte (memWrite m a bytes) (a + i) = bytes[i] := by
  have h1 : (m.filter fun c => decide (c.1 < a)).find? (fun c => c.1 == a + i) = none := by
    refine List.find?_eq_none.mpr fun c hc => ?_
    have := (List.mem_filter.mp hc).2
    simp only [decide_eq_true_eq] at this
    simp only [beq_iff_eq]
    omega
  have h2 : (m.filter fun c => decide (a + bytes.length ≤ c.1)).find? (fun c => c.1 == a + i) = none := by
    refine List.find?_eq_none.mpr fun c hc => ?_
    have := (List.mem_filter.mp hc).2
    simp only [decide_eq_true_eq] at this
    simp only [beq_iff_eq]
    omega
  unfold memByte memWrite
  rw [List.find?_append, List.find?_append, h1, h2, Option.none_or, Option.or_none]
  exact find_cellsOf bytes a i h

end Sys2Proof.Laws
end

