-- ==== Sys2Proof/Laws/MemoryKept.lean ====
section
/-!
SUPPORT. Every operation and every command keeps HBM in its canonical form: those that write it do so by memWrite, and the
others by their frame.
-/

-- One proof at a time: side by side they ask for more threads than the memory limit of a check allows.
set_option Elab.async false

namespace Sys2Proof.Laws

open Sys2Proof Sys2Proof.Machine


/-- The canonical form is kept. -/
def Mem (s t : State) : Prop := s.memOk → t.memOk

def Mem1 {α : Type} (s : State) (p : State × α) : Prop := Mem s p.1

def Mem2 {α : Type} (s : State) (p : α × State) : Prop := Mem s p.2

section

variable {s t u : State}

theorem Mem.refl (s : State) : Mem s s := id

theorem Mem.trans (h : Mem s t) (k : Mem t u) : Mem s u := k ∘ h

theorem Mem.step (k : Mem t u) (h : Mem s t) : Mem s u := k ∘ h

theorem Mem.frame {m : List Comp} (k : Frame m t u) (hm : m.contains .hbm = false) (h : Mem s t) : Mem s u := fun hs => by
  have := k.hbm hm
  have := h hs
  simp_all [State.memOk]

theorem Mem.upd (e : u.hbm = t.hbm) (h : Mem s t) : Mem s u := fun hs => by
  have := h hs
  simp_all [State.memOk]

theorem Mem.ite {p : Prop} [Decidable p] (h : Mem s t) (k : Mem s u) : Mem s (if p then t else u) := by
  split <;> assumption

theorem Mem.foldl {β : Type} {f : State → β → State} {l : List β} (hf : ∀ s b, Mem s (f s b)) (h : Mem s t) :
    Mem s (l.foldl f t) := by
  induction l generalizing t with
  | nil => exact h
  | cons b l ih => exact ih (h.trans (hf t b))

theorem Mem1.step {α : Type} {p : State × α} (k : Mem1 t p) (h : Mem s t) : Mem1 s p := Mem.trans h k

theorem Mem1.frame {α : Type} {p : State × α} {m : List Comp} (k : Frame1 m t p) (hm : m.contains .hbm = false) (h : Mem s t) :
    Mem1 s p := Mem.frame k hm h

theorem Mem2.frame {α : Type} {p : α × State} {m : List Comp} (k : Frame2 m t p) (hm : m.contains .hbm = false) (h : Mem s t) :
    Mem2 s p := Mem.frame k hm h

theorem Mem1.ite {α : Type} {p : Prop} [Decidable p] {t u : State × α} (h : Mem1 s t) (k : Mem1 s u) :
    Mem1 s (if p then t else u) := by
  split <;> assumption

theorem Mem1.pair {α : Type} {a : α} (h : Mem s t) : Mem1 s (t, a) := h

theorem Mem.of1 {α : Type} {p : State × α} (h : Mem1 s p) : Mem s p.1 := h

theorem Mem.of2 {α : Type} {p : α × State} (h : Mem2 s p) : Mem s p.2 := h

theorem Mem.fst {α : Type} {p : State × α} {a : α} (e : p = (t, a)) (h : Mem1 s p) : Mem s t := by
  subst e; exact h

theorem Mem.snd {α : Type} {p : α × State} {a : α} (e : p = (a, t)) (h : Mem2 s p) : Mem s t := by
  subst e; exact h

theorem Mem.set_ex {v0} (h : Mem s t) : Mem s { t with ex := v0 } := h

theorem Mem.set_dev {v0} (h : Mem s t) : Mem s { t with dev := v0 } := h

theorem Mem.set_lib {v0} (h : Mem s t) : Mem s { t with lib := v0 } := h

theorem Mem.set_ex_loops_com {v0} {v1} {v2} (h : Mem s t) : Mem s { t with ex := v0, loops := v1, com := v2 } := h

theorem Mem.set_lobes {v0} (h : Mem s t) : Mem s { t with lobes := v0 } := h

theorem Mem.set_cal {v0} (h : Mem s t) : Mem s { t with cal := v0 } := h

theorem Mem.set_mat {v0} (h : Mem s t) : Mem s { t with mat := v0 } := h

theorem Mem.set_dev_time {v0} {v1} (h : Mem s t) : Mem s { t with dev := v0, time := v1 } := h

theorem Mem.set_ex_loops_cal_com {v0} {v1} {v2} {v3} (h : Mem s t) : Mem s { t with ex := v0, loops := v1, cal := v2, com := v3 } := h

theorem Mem.set_fab {v0} (h : Mem s t) : Mem s { t with fab := v0 } := h

theorem Mem.set_mon {v0} (h : Mem s t) : Mem s { t with mon := v0 } := h

theorem Mem.set_sorus {v0} (h : Mem s t) : Mem s { t with sorus := v0 } := h

end

theorem finish_mem {s t u : State} (h : finish s u = .next t) (k : Mem s u) : Mem s t := by
  cases h
  exact .upd rfl k

theorem conclude_mem {s : State} (sess req addr sel : Nat) {p : State × Verdict} (h : Mem1 s p) :
    Mem s (conclude sess req addr sel p) := by
  obtain ⟨t, v⟩ := p
  cases v
  · exact .frame (answer_frame _ _ _ _ _ _) (by decide) h
  · exact .frame (answer_frame _ _ _ _ _ _) (by decide) h
  · exact .frame (State.owe_frame _ _ _ _ _ _) (by decide) h

theorem keepOct_mem {s : State} (addr sel : Nat) (b : List Byte) {p : State × Verdict} (h : Mem1 s p) :
    Mem1 s (keepOct addr sel b p) := by
  obtain ⟨t, v⟩ := p
  cases v
  · exact .frame (State.setOct_frame _ _ _ _) (by decide) h
  · exact h
  · exact .frame (State.setOct_frame _ _ _ _) (by decide) h

theorem request_mem {s t : State} {sess req : Nat} {lane : Lane} {c : Instr} {carry : State → Nat → State}
    (hc : ∀ s l, Mem s (carry s l)) (h : Mem s t) : Mem s (request t sess req lane c carry) := by
  have hx : ∀ (u : State) (i : Nat) (x : Session), Mem s u → Mem s (u.setSession i x) := fun u i x hu =>
    .frame (State.setSession_frame _ _ _) (by decide) hu
  have hl : ∀ {p : Prop} [Decidable p] (u : State), Mem s u → Mem s (if p then closeIfSpent u sess else u) := fun u hu =>
    .ite (.frame (closeIfSpent_frame _ _) (by decide) hu) hu
  unfold request
  conv => zeta
  split
  · refine .ite (.ite (.upd rfl h) (h.trans (hc _ _))) ?_
    exact .frame (dropSession_frame _) (by decide) h
  · split
    · exact hl _ (.frame (serveRetry_frame _ _ _ _) (by decide) (hx _ _ _ h))
    · exact .ite (hx _ _ _ h) (.ite (hl _ ((hx _ _ _ h).trans (hc _ _)))
        (.ite (.ite (hx _ _ _ (hx _ _ _ h)) (hl _ (.frame (answerFrom_frame _ _ _ _ _ _ _ _) (by decide) (hx _ _ _ h))))
          (hl _ ((hx _ _ _ h).trans (hc _ _)))))

theorem hostWrite_mem {s t : State} {sess addr sel : Nat} {v : Int} {eff : State → State × Verdict}
    (he : ∀ s, Mem1 s (eff s)) (h : Mem s t) : Mem s (hostWrite t sess addr sel v eff) := by
  unfold hostWrite
  refine request_mem (fun u l => ?_) h
  refine conclude_mem _ _ _ _ ?_
  split
  · exact .pair (.refl _)
  · exact .ite (.pair (.refl _)) (he _)

theorem unlessRecovery_mem {s t : State} {sess req : Nat} {f : State → State} (hf : ∀ s, Mem s (f s)) (h : Mem s t) :
    Mem s (unlessRecovery sess req f t) := by
  unfold unlessRecovery
  exact .ite (.frame (answer_frame _ _ _ _ _ _) (by decide) h) (h.trans (hf _))

theorem State.slotWrite_mem (s : State) (slot off : Nat) (b : List Byte) : Mem s (State.slotWrite s slot off b) :=
  fun h => memWrite_wf _ _ _ h

theorem State.slotSeal_mem (s : State) (slot : Nat) : Mem s (State.slotSeal s slot) := by
  unfold State.slotSeal
  refine .step (State.slotWrite_mem _ _ _ _) ?_
  exact .refl _

theorem revalidateSlot_mem (s : State) (slot : Nat) : Mem1 s (revalidateSlot s slot) := by
  unfold revalidateSlot
  refine .ite ?_ ?_
  · refine .pair ?_
    refine .frame (State.setSlot_frame _ _ _) (by decide) ?_
    refine .step (State.slotSeal_mem _ _) ?_
    refine .step (State.slotWrite_mem _ _ _ _) ?_
    exact .refl _
  · refine .ite ?_ ?_
    · refine .pair ?_
      exact .refl _
    · refine .pair ?_
      refine .frame (raiseA_frame _ _ _) (by decide) ?_
      refine .frame (State.setSlot_frame _ _ _) (by decide) ?_
      exact .refl _

theorem mergeLatch_mem (s : State) (l : Latch) : Mem s (mergeLatch s l) := by
  unfold mergeLatch
  refine .step (State.slotSeal_mem _ _) ?_
  refine .step (State.slotWrite_mem _ _ _ _) ?_
  refine .step (State.slotWrite_mem _ _ _ _) ?_
  refine .step (State.slotWrite_mem _ _ _ _) ?_
  refine .foldl (fun _ _ => ?_) ?_
  · refine .step (State.slotWrite_mem _ _ _ _) ?_
    exact .refl _
  · refine .foldl (fun _ _ => ?_) ?_
    · refine .step (State.slotWrite_mem _ _ _ _) ?_
      exact .refl _
    · exact .refl _

theorem finishWriteBack_mem (s : State) : Mem s (finishWriteBack s) := by
  unfold finishWriteBack
  conv => zeta
  split
  · exact .refl _
  · refine .ite ?_ ?_
    · refine .frame (invalidate_frame _ _ _) (by decide) ?_
      refine .set_lib ?_
      exact .refl _
    · refine .frame (State.incSat_frame _ _ _ _) (by decide) ?_
      refine .frame (State.setSlot_frame _ _ _) (by decide) ?_
      refine .step (mergeLatch_mem _ _) ?_
      refine .set_lib ?_
      exact .refl _

theorem awaitWriteBack_mem (s : State) (slot : Nat) : Mem s (awaitWriteBack s slot) := by
  unfold awaitWriteBack
  split
  · refine .ite ?_ ?_
    · refine .step (finishWriteBack_mem _) ?_
      exact .refl _
    · exact .refl _
  · exact .refl _

theorem promoteWriteBack_mem (s : State) (slot : Nat) : Mem s (promoteWriteBack s slot) := by
  unfold promoteWriteBack
  conv => zeta
  split
  · refine .step (finishWriteBack_mem _) ?_
    refine .frame (startWriteBack_frame _ _) (by decide) ?_
    refine .step (finishWriteBack_mem _) ?_
    exact .refl _
  · refine .step (finishWriteBack_mem _) ?_
    exact .refl _

theorem writeImage_mem (s : State) (slot : Nat) (v : List Nat) (routes : List Nat) : Mem s (writeImage s slot v routes) := by
  unfold writeImage
  refine .step (State.slotSeal_mem _ _) ?_
  refine .step (State.slotWrite_mem _ _ _ _) ?_
  exact .refl _

theorem placeRoute_mem (s : State) (slot : Nat) (v : List Nat) (found : Option (List Nat)) :
    Mem s (placeRoute s slot v found) := by
  unfold placeRoute
  split
  · refine .frame (State.setSlot_frame _ _ _) (by decide) ?_
    refine .step (writeImage_mem _ _ _ _) ?_
    exact .refl _
  · exact .refl _

theorem routeDark_mem (s : State) (slot : Nat) : Mem s (routeDark s slot) := by
  unfold routeDark
  refine .step (placeRoute_mem _ _ _ _) ?_
  exact .refl _

theorem revalidateImage_mem (s : State) (c : Commit) : Mem1 s (revalidateImage s c) := by
  unfold revalidateImage
  split
  · refine .step (revalidateSlot_mem _ _) ?_
    exact .refl _
  · refine .step (revalidateSlot_mem _ _) ?_
    exact .refl _
  · refine .pair ?_
    exact .refl _

theorem revalidateCommits_mem (s : State) : Mem s (revalidateCommits s) := by
  unfold revalidateCommits
  refine .foldl (fun _ _ => ?_) ?_
  · split
    refine .ite ?_ ?_
    · refine .frame (abandon_frame _ _ _) (by decide) ?_
      refine .fst (by assumption) ?_
      refine .step (revalidateImage_mem _ _) ?_
      exact .refl _
    · refine .fst (by assumption) ?_
      refine .step (revalidateImage_mem _ _) ?_
      exact .refl _
  · exact .refl _

theorem mapChanged_mem (s : State) (bump : Bool) : Mem s (mapChanged s bump) := by
  unfold mapChanged
  refine .frame (autoStore_frame _ _) (by decide) ?_
  refine .step (revalidateCommits_mem _) ?_
  refine .ite ?_ ?_
  · refine .frame (State.setObjN_frame _ _ _ _) (by decide) ?_
    exact .refl _
  · exact .refl _

theorem reportFault_mem (s : State) (e : Nat) (bits : Nat) : Mem s (reportFault s e bits) := by
  unfold reportFault
  refine .frame (raiseA_frame _ _ _) (by decide) ?_
  refine .step (mapChanged_mem _ _) ?_
  refine .set_fab ?_
  refine .frame (followCell_frame _ _) (by decide) ?_
  refine .ite ?_ ?_
  · refine .ite ?_ ?_
    · refine .frame (State.setObjN_frame _ _ _ _) (by decide) ?_
      refine .frame (State.setObjN_frame _ _ _ _) (by decide) ?_
      exact .refl _
    · refine .frame (State.setObjN_frame _ _ _ _) (by decide) ?_
      exact .refl _
  · refine .frame (voidStaged_frame _ _) (by decide) ?_
    refine .ite ?_ ?_
    · refine .frame (State.setObjN_frame _ _ _ _) (by decide) ?_
      refine .frame (State.setObjN_frame _ _ _ _) (by decide) ?_
      exact .refl _
    · refine .frame (State.setObjN_frame _ _ _ _) (by decide) ?_
      exact .refl _

theorem applyFaults_mem (s : State) : Mem s (applyFaults s) := by
  unfold applyFaults
  refine .ite ?_ ?_
  · refine .foldl (fun _ _ => ?_) ?_
    · refine .frame (State.setObj_frame _ _ _ _) (by decide) ?_
      exact .refl _
    · refine .frame (discardEvents_frame _ _) (by decide) ?_
      refine .frame (State.incSat_frame _ _ _ _) (by decide) ?_
      refine .set_fab ?_
      exact .refl _
  · refine .frame (raiseA_frame _ _ _) (by decide) ?_
    refine .step (mapChanged_mem _ _) ?_
    refine .foldl (fun _ _ => ?_) ?_
    · refine .frame (followCell_frame _ _) (by decide) ?_
      exact .refl _
    · refine .foldl (fun _ _ => ?_) ?_
      · refine .frame (State.setObj_frame _ _ _ _) (by decide) ?_
        exact .refl _
      · refine .frame (discardEvents_frame _ _) (by decide) ?_
        refine .frame (State.incSat_frame _ _ _ _) (by decide) ?_
        refine .set_fab ?_
        exact .refl _

theorem execFaultMapApply_mem (s : State) (s' : State) (h : execFaultMapApply s = .next s') :
    Mem s s' := by
  unfold execFaultMapApply at h
  refine finish_mem h ?_
  refine .ite ?_ ?_
  · refine .step (applyFaults_mem _) ?_
    exact .refl _
  · exact .refl _

theorem effLoadSlot_mem (sess : Nat) (v : Int) (s : State) : Mem1 s (effLoadSlot sess v s) := by
  unfold effLoadSlot
  refine .ite ?_ ?_
  · refine .pair ?_
    exact .refl _
  · refine .pair ?_
    refine .frame (openLoad_frame _ _ _) (by decide) ?_
    refine .ite ?_ ?_
    · refine .frame (abandonLoad_frame _ _ _) (by decide) ?_
      refine .step (awaitWriteBack_mem _ _) ?_
      refine .frame (State.setObj_frame _ _ _ _) (by decide) ?_
      exact .refl _
    · refine .step (awaitWriteBack_mem _ _) ?_
      refine .frame (State.setObj_frame _ _ _ _) (by decide) ?_
      exact .refl _

theorem execLoadSlot_mem (sess : Nat) (slot : Int) (s : State) (s' : State) (h : execLoadSlot sess slot s = .next s') :
    Mem s s' := by
  unfold execLoadSlot at h
  refine finish_mem h ?_
  refine hostWrite_mem (fun _ => ?_) ?_
  · refine .step (effLoadSlot_mem _ _ _) ?_
    exact .refl _
  · exact .refl _

theorem effEraseSlot_mem (sess : Nat) (v : Int) (s : State) : Mem1 s (effEraseSlot sess v s) := by
  unfold effEraseSlot
  refine .ite ?_ ?_
  · refine .pair ?_
    exact .refl _
  · refine .pair ?_
    refine .frame (State.setSlot_frame _ _ _) (by decide) ?_
    refine .frame (State.dropLoads_frame _ _) (by decide) ?_
    refine .frame (discardRefinement_frame _ _) (by decide) ?_
    refine .step (awaitWriteBack_mem _ _) ?_
    refine .frame (State.setObj_frame _ _ _ _) (by decide) ?_
    exact .refl _

theorem execEraseSlot_mem (sess : Nat) (slot : Int) (s : State) (s' : State) (h : execEraseSlot sess slot s = .next s') :
    Mem s s' := by
  unfold execEraseSlot at h
  refine finish_mem h ?_
  refine hostWrite_mem (fun _ => ?_) ?_
  · refine .step (effEraseSlot_mem _ _ _) ?_
    exact .refl _
  · exact .refl _

theorem effRevalidate_mem (v : Int) (s : State) : Mem1 s (effRevalidate v s) := by
  unfold effRevalidate
  conv => zeta
  split
  · refine .ite ?_ ?_
    · refine .pair ?_
      refine .frame (invalidate_frame _ _ _) (by decide) ?_
      refine .step (awaitWriteBack_mem _ _) ?_
      exact .refl _
    · refine .pair ?_
      refine .of1 ?_
      refine .step (revalidateSlot_mem _ _) ?_
      refine .frame (State.setObj_frame _ _ _ _) (by decide) ?_
      refine .step (awaitWriteBack_mem _ _) ?_
      exact .refl _
  · refine .ite ?_ ?_
    · refine .pair ?_
      refine .frame (invalidate_frame _ _ _) (by decide) ?_
      refine .step (awaitWriteBack_mem _ _) ?_
      exact .refl _
    · refine .pair ?_
      refine .of1 ?_
      refine .step (revalidateSlot_mem _ _) ?_
      refine .frame (State.setObj_frame _ _ _ _) (by decide) ?_
      refine .step (awaitWriteBack_mem _ _) ?_
      exact .refl _
  · refine .pair ?_
    refine .step (awaitWriteBack_mem _ _) ?_
    exact .refl _

theorem execRevalidate_mem (sess : Nat) (slot : Int) (s : State) (s' : State) (h : execRevalidate sess slot s = .next s') :
    Mem s s' := by
  unfold execRevalidate at h
  refine finish_mem h ?_
  refine hostWrite_mem (fun _ => ?_) ?_
  · refine .step (effRevalidate_mem _ _) ?_
    exact .refl _
  · exact .refl _

theorem findFirst_mem (s : State) (l : List Nat) : Mem s (findFirst s l) := by
  induction l generalizing s with
  | nil => exact .refl _
  | cons slot t ih =>
    unfold findFirst
    split
    have h : Mem s _ := .fst (by assumption) (by
      split
      · exact .pair (.refl _)
      · exact .step (revalidateSlot_mem _ _) (.refl _))
    exact .ite (.set_lib h) (.trans h (ih _))

theorem execFindComplete_mem (s : State) (s' : State) (h : execFindComplete s = .next s') :
    Mem s s' := by
  unfold execFindComplete at h
  refine finish_mem h ?_
  conv => zeta
  split
  · exact .refl _
  · refine .frame (State.setObjN_frame _ _ _ _) (by decide) ?_
    refine .step (findFirst_mem _ _) ?_
    refine .set_lib ?_
    exact .refl _

theorem startRoute_mem (s : State) (sess : Nat) (slot : Nat) (vector : List Nat) (exclude : List Nat) :
    Mem s (startRoute s sess slot vector exclude) := by
  unfold startRoute
  refine .ite ?_ ?_
  · refine .frame (raiseA_frame _ _ _) (by decide) ?_
    refine .set_lib ?_
    refine .frame (State.setObjN_frame _ _ _ _) (by decide) ?_
    refine .frame (State.setSlot_frame _ _ _) (by decide) ?_
    refine .set_lib ?_
    refine .frame (State.dropLoads_frame _ _) (by decide) ?_
    refine .frame (discardRefinement_frame _ _) (by decide) ?_
    refine .frame (atModeBoundary_frame _ _) (by decide) ?_
    refine .step (awaitWriteBack_mem _ _) ?_
    exact .refl _
  · refine .frame (State.setObjN_frame _ _ _ _) (by decide) ?_
    refine .frame (State.setSlot_frame _ _ _) (by decide) ?_
    refine .set_lib ?_
    refine .frame (State.dropLoads_frame _ _) (by decide) ?_
    refine .frame (discardRefinement_frame _ _) (by decide) ?_
    refine .frame (atModeBoundary_frame _ _) (by decide) ?_
    refine .step (awaitWriteBack_mem _ _) ?_
    exact .refl _

theorem effRouteApply_mem (sess : Nat) (s : State) : Mem1 s (effRouteApply sess s) := by
  unfold effRouteApply
  refine .ite ?_ ?_
  · refine .pair ?_
    exact .refl _
  · refine .ite ?_ ?_
    · refine .pair ?_
      exact .refl _
    · refine .ite ?_ ?_
      · refine .pair ?_
        refine .frame (endRoute_frame _ _ _ _) (by decide) ?_
        refine .frame (State.incWrap_frame _ _ _) (by decide) ?_
        exact .refl _
      · refine .ite ?_ ?_
        · refine .pair ?_
          exact .refl _
        · refine .pair ?_
          refine .step (startRoute_mem _ _ _ _ _) ?_
          refine .frame (takeRequest_frame _) (by decide) ?_
          refine .frame (State.incWrap_frame _ _ _) (by decide) ?_
          exact .refl _

theorem execRouteApply_mem (sess : Nat) (s : State) (s' : State) (h : execRouteApply sess s = .next s') :
    Mem s s' := by
  unfold execRouteApply at h
  refine finish_mem h ?_
  refine hostWrite_mem (fun _ => ?_) ?_
  · refine .step (effRouteApply_mem _ _) ?_
    exact .refl _
  · exact .refl _

theorem unroute_mem (s : State) (r : Route) : Mem s (unroute s r) := by
  unfold unroute
  conv => zeta
  split
  · refine .frame (State.setSlot_frame _ _ _) (by decide) ?_
    refine .ite ?_ ?_
    · refine .step (State.slotWrite_mem _ _ _ _) ?_
      exact .refl _
    · exact .refl _
  · refine .ite ?_ ?_
    · refine .set_lib ?_
      refine .frame (State.setSlot_frame _ _ _) (by decide) ?_
      refine .ite ?_ ?_
      · refine .step (State.slotWrite_mem _ _ _ _) ?_
        exact .refl _
      · exact .refl _
    · refine .frame (State.setSlot_frame _ _ _) (by decide) ?_
      refine .ite ?_ ?_
      · refine .step (State.slotWrite_mem _ _ _ _) ?_
        exact .refl _
      · exact .refl _

theorem execRouteDone_mem (us : Nat) (s : State) (s' : State) (h : execRouteDone us s = .next s') :
    Mem s s' := by
  unfold execRouteDone at h
  refine finish_mem h ?_
  split
  · exact .refl _
  · refine .ite ?_ ?_
    · exact .refl _
    · split
      · refine .frame (endRoute_frame _ _ _ _) (by decide) ?_
        refine .frame (State.setSlot_frame _ _ _) (by decide) ?_
        refine .step (writeImage_mem _ _ _ _) ?_
        exact .refl _
      · refine .frame (endRoute_frame _ _ _ _) (by decide) ?_
        refine .step (unroute_mem _ _) ?_
        exact .refl _

theorem execWriteBackDone_mem (s : State) (s' : State) (h : execWriteBackDone s = .next s') :
    Mem s s' := by
  unfold execWriteBackDone at h
  refine finish_mem h ?_
  refine .step (finishWriteBack_mem _) ?_
  exact .refl _

theorem prepareCurrent_mem (s : State) (slot : Nat) : Mem1 s (prepareCurrent s slot) := by
  unfold prepareCurrent
  refine .ite ?_ ?_
  · refine .pair ?_
    refine .step (awaitWriteBack_mem _ _) ?_
    exact .refl _
  · refine .step (revalidateSlot_mem _ _) ?_
    refine .step (awaitWriteBack_mem _ _) ?_
    exact .refl _

theorem prepareFetch_mem (s : State) (slot : Nat) : Mem1 s (prepareFetch s slot) := by
  unfold prepareFetch
  refine .ite ?_ ?_
  · refine .pair ?_
    refine .ite ?_ ?_
    · refine .step (promoteWriteBack_mem _ _) ?_
      exact .refl _
    · refine .frame (invalidate_frame _ _ _) (by decide) ?_
      refine .step (promoteWriteBack_mem _ _) ?_
      exact .refl _
  · refine .ite ?_ ?_
    · refine .pair ?_
      refine .frame (invalidate_frame _ _ _) (by decide) ?_
      refine .step (promoteWriteBack_mem _ _) ?_
      exact .refl _
    · refine .pair ?_
      refine .step (promoteWriteBack_mem _ _) ?_
      exact .refl _

theorem prepareOp_mem (s : State) (sess : Nat) (req : Nat) (id : Nat) (slot : Nat) (flags : Nat) :
    Mem s (prepareOp s sess req id slot flags) := by
  unfold prepareOp
  conv => zeta
  split
  · refine .frame (answerCommit_frame _ _ _ _) (by decide) ?_
    refine .frame (adaptBoundary_frame _) (by decide) ?_
    exact .refl _
  · split
    refine .ite ?_ ?_
    · refine .frame (answerCommit_frame _ _ _ _) (by decide) ?_
      refine .fst (by assumption) ?_
      refine .step (prepareCurrent_mem _ _) ?_
      refine .frame (adaptBoundary_frame _) (by decide) ?_
      exact .refl _
    · split
      · refine .frame (answerCommit_frame _ _ _ _) (by decide) ?_
        refine .fst (by assumption) ?_
        refine .step (prepareFetch_mem _ _) ?_
        refine .fst (by assumption) ?_
        refine .step (prepareCurrent_mem _ _) ?_
        refine .frame (adaptBoundary_frame _) (by decide) ?_
        exact .refl _
      · refine .frame (prepareGrant_frame _ _) (by decide) ?_
        refine .fst (by assumption) ?_
        refine .step (prepareFetch_mem _ _) ?_
        refine .fst (by assumption) ?_
        refine .step (prepareCurrent_mem _ _) ?_
        refine .frame (adaptBoundary_frame _) (by decide) ?_
        exact .refl _

theorem execPrepare_mem (sess : Nat) (req : Nat) (id : Nat) (slot : Nat) (flags : Nat) (s : State) (s' : State) (h : execPrepare sess req id slot flags s = .next s') :
    Mem s s' := by
  unfold execPrepare at h
  refine finish_mem h ?_
  refine request_mem (fun _ _ => ?_) ?_
  · refine .step (prepareOp_mem _ _ _ _ _ _) ?_
    exact .refl _
  · exact .refl _

theorem loseLane_mem (s : State) (b : Nat) (lane : Nat) (u : Nat) (load : Bool) : Mem s (loseLane s b lane u load) := by
  unfold loseLane
  refine .ite ?_ ?_
  · refine .step (reportFault_mem _ _ _) ?_
    refine .frame (raiseA_frame _ _ _) (by decide) ?_
    refine .frame (State.incSat_frame _ _ _ _) (by decide) ?_
    refine .frame (State.setChan_frame _ _ _) (by decide) ?_
    exact .refl _
  · refine .ite ?_ ?_
    · refine .step (reportFault_mem _ _ _) ?_
      refine .frame (raiseA_frame _ _ _) (by decide) ?_
      refine .frame (State.incSat_frame _ _ _ _) (by decide) ?_
      refine .frame (State.setChan_frame _ _ _) (by decide) ?_
      exact .refl _
    · refine .frame (disableVoa_frame _ _) (by decide) ?_
      refine .frame (raiseA_frame _ _ _) (by decide) ?_
      refine .frame (State.incSat_frame _ _ _ _) (by decide) ?_
      refine .frame (State.setChan_frame _ _ _) (by decide) ?_
      exact .refl _

theorem laneFails_mem (s : State) (b : Nat) (lane : Nat) (u : Nat) (sensed : Nat) : Mem s (laneFails s b lane u sensed) := by
  unfold laneFails
  refine .ite ?_ ?_
  · refine .frame (raiseA_frame _ _ _) (by decide) ?_
    refine .frame (State.setChan_frame _ _ _) (by decide) ?_
    exact .refl _
  · conv => zeta
    split
    · refine .frame (loadSpare_frame _ _ _ _) (by decide) ?_
      refine .frame (State.setChan_frame _ _ _) (by decide) ?_
      refine .frame (calLaneFault_frame _ _ _) (by decide) ?_
      exact .refl _
    · refine .step (loseLane_mem _ _ _ _ _) ?_
      refine .frame (State.setChan_frame _ _ _) (by decide) ?_
      refine .frame (calLaneFault_frame _ _ _) (by decide) ?_
      exact .refl _

theorem senseLane_mem (s : State) (b : Nat) (lane : Nat) (sensed : Nat) : Mem s (senseLane s b lane sensed) := by
  unfold senseLane
  refine .ite ?_ ?_
  · exact .refl _
  · refine .ite ?_ ?_
    · refine .frame (State.setChan_frame _ _ _) (by decide) ?_
      exact .refl _
    · refine .ite ?_ ?_
      · refine .ite ?_ ?_
        · refine .step (laneFails_mem _ _ _ _ _) ?_
          refine .frame (State.setChan_frame _ _ _) (by decide) ?_
          exact .refl _
        · refine .frame (State.setChan_frame _ _ _) (by decide) ?_
          exact .refl _
      · refine .frame (State.setChan_frame _ _ _) (by decide) ?_
        exact .refl _

theorem loadFails_mem (s : State) (b : Nat) (lane : Nat) (k : Nat) : Mem s (loadFails s b lane k) := by
  unfold loadFails
  refine .step (loseLane_mem _ _ _ _ _) ?_
  refine .frame (forceCode_frame _ _ _) (by decide) ?_
  refine .frame (State.setChan_frame _ _ _) (by decide) ?_
  refine .frame (State.setBank_frame _ _ _) (by decide) ?_
  refine .ite ?_ ?_
  · refine .frame (laneHome_frame _ _) (by decide) ?_
    refine .ite ?_ ?_
    · refine .frame (mapDue_frame _) (by decide) ?_
      exact .refl _
    · exact .refl _
  · refine .ite ?_ ?_
    · refine .frame (abortCal_frame _ _) (by decide) ?_
      refine .ite ?_ ?_
      · refine .frame (mapDue_frame _) (by decide) ?_
        exact .refl _
      · exact .refl _
    · refine .ite ?_ ?_
      · refine .frame (mapDue_frame _) (by decide) ?_
        exact .refl _
      · exact .refl _

theorem senseSpare_mem (s : State) (b : Nat) (k : Nat) (sensed : Nat) : Mem s (senseSpare s b k sensed) := by
  unfold senseSpare
  conv => zeta
  split
  · exact .refl _
  · refine .ite ?_ ?_
    · exact .refl _
    · refine .ite ?_ ?_
      · refine .frame (State.setChan_frame _ _ _) (by decide) ?_
        exact .refl _
      · refine .ite ?_ ?_
        · refine .ite ?_ ?_
          · refine .step (loadFails_mem _ _ _ _) ?_
            refine .frame (State.setChan_frame _ _ _) (by decide) ?_
            refine .frame (State.setChan_frame _ _ _) (by decide) ?_
            exact .refl _
          · refine .frame (State.setBank_frame _ _ _) (by decide) ?_
            refine .frame (State.setChan_frame _ _ _) (by decide) ?_
            refine .frame (State.setChan_frame _ _ _) (by decide) ?_
            exact .refl _
        · refine .frame (sparePasses_frame _ _ _ _) (by decide) ?_
          refine .frame (State.setBank_frame _ _ _) (by decide) ?_
          refine .frame (State.setChan_frame _ _ _) (by decide) ?_
          exact .refl _
  · refine .ite ?_ ?_
    · exact .refl _
    · refine .ite ?_ ?_
      · refine .ite ?_ ?_
        · refine .frame (raiseA_frame _ _ _) (by decide) ?_
          refine .frame (mapDue_frame _) (by decide) ?_
          refine .frame (State.setBank_frame _ _ _) (by decide) ?_
          exact .refl _
        · refine .frame (State.setBank_frame _ _ _) (by decide) ?_
          exact .refl _
      · refine .frame (State.setBank_frame _ _ _) (by decide) ?_
        exact .refl _

theorem execReadbackComparison_mem (b : Nat) (lane : Nat) (sensed : Nat) (s : State) (s' : State) (h : execReadbackComparison b lane sensed s = .next s') :
    Mem s s' := by
  unfold execReadbackComparison at h
  refine finish_mem h ?_
  refine .ite ?_ ?_
  · exact .refl _
  · refine .ite ?_ ?_
    · refine .ite ?_ ?_
      · refine .frame (skipLane_frame _ _) (by decide) ?_
        exact .refl _
      · exact .refl _
    · refine .ite ?_ ?_
      · refine .step (senseLane_mem _ _ _ _) ?_
        exact .refl _
      · refine .ite ?_ ?_
        · refine .step (senseSpare_mem _ _ _ _) ?_
          exact .refl _
        · exact .refl _

theorem loseConv_mem (s : State) (cv : Nat) (standing : Bool) : Mem s (loseConv s cv standing) := by
  unfold loseConv
  refine .foldl (fun _ _ => ?_) ?_
  · refine .ite ?_ ?_
    · refine .ite ?_ ?_
      · refine .step (reportFault_mem _ _ _) ?_
        exact .refl _
      · exact .refl _
    · refine .ite ?_ ?_
      · exact .refl _
      · refine .frame (disableVoa_frame _ _) (by decide) ?_
        exact .refl _
  · refine .frame (raiseA_frame _ _ _) (by decide) ?_
    refine .frame (State.setConv_frame _ _ _) (by decide) ?_
    exact .refl _

theorem convFails_mem (s : State) (cv : Nat) : Mem s (convFails s cv) := by
  unfold convFails
  refine .ite ?_ ?_
  · refine .step (loseConv_mem _ _ _) ?_
    refine .frame (calConvFault_frame _ _) (by decide) ?_
    exact .refl _
  · refine .ite ?_ ?_
    · refine .frame (State.setConv_frame _ _ _) (by decide) ?_
      refine .frame (calConvFault_frame _ _) (by decide) ?_
      exact .refl _
    · refine .step (loseConv_mem _ _ _) ?_
      refine .frame (calConvFault_frame _ _) (by decide) ?_
      exact .refl _

theorem judgeCheck_mem (s : State) (cv : Nat) (code : Nat) : Mem s (judgeCheck s cv code) := by
  unfold judgeCheck
  refine .ite ?_ ?_
  · refine .frame (State.setObjN_frame _ _ _ _) (by decide) ?_
    exact .refl _
  · refine .ite ?_ ?_
    · refine .ite ?_ ?_
      · refine .step (convFails_mem _ _) ?_
        refine .frame (State.setConv_frame _ _ _) (by decide) ?_
        refine .frame (State.setObjN_frame _ _ _ _) (by decide) ?_
        exact .refl _
      · refine .frame (State.setConv_frame _ _ _) (by decide) ?_
        refine .frame (State.setObjN_frame _ _ _ _) (by decide) ?_
        exact .refl _
    · refine .frame (State.setConv_frame _ _ _) (by decide) ?_
      refine .frame (State.setObjN_frame _ _ _ _) (by decide) ?_
      exact .refl _

theorem execLoopSaturated_mem (e : Nat) (s : State) (s' : State) (h : execLoopSaturated e s = .next s') :
    Mem s s' := by
  unfold execLoopSaturated at h
  refine finish_mem h ?_
  refine .ite ?_ ?_
  · refine .frame (raiseA_frame _ _ _) (by decide) ?_
    refine .step (reportFault_mem _ _ _) ?_
    exact .refl _
  · exact .refl _

theorem convCheck_mem (s : State) (cv : Nat) (code : Nat) : Mem s (convCheck s cv code) := by
  unfold convCheck
  refine .ite ?_ ?_
  · exact .refl _
  · refine .ite ?_ ?_
    · refine .frame (State.setConv_frame _ _ _) (by decide) ?_
      exact .refl _
    · refine .ite ?_ ?_
      · exact .refl _
      · refine .ite ?_ ?_
        · refine .step (judgeCheck_mem _ _ _) ?_
          refine .frame (State.setObjN_frame _ _ _ _) (by decide) ?_
          refine .frame (State.setConv_frame _ _ _) (by decide) ?_
          refine .frame (State.setMonBank_frame _ _ _) (by decide) ?_
          exact .refl _
        · refine .ite ?_ ?_
          · refine .frame (State.setConv_frame _ _ _) (by decide) ?_
            exact .refl _
          · refine .frame (State.setConv_frame _ _ _) (by decide) ?_
            exact .refl _

theorem execConverterCheck_mem (cv : Nat) (code : Nat) (s : State) (s' : State) (h : execConverterCheck cv code s = .next s') :
    Mem s s' := by
  unfold execConverterCheck at h
  refine finish_mem h ?_
  refine .ite ?_ ?_
  · exact .refl _
  · refine .ite ?_ ?_
    · refine .step (convCheck_mem _ _ _) ?_
      exact .refl _
    · refine .ite ?_ ?_
      · refine .frame (spareCheck_frame _ _ _) (by decide) ?_
        exact .refl _
      · exact .refl _

theorem execConvSubstituted_mem (cv : Nat) (s : State) (s' : State) (h : execConvSubstituted cv s = .next s') :
    Mem s s' := by
  unfold execConvSubstituted at h
  refine finish_mem h ?_
  refine .ite ?_ ?_
  · exact .refl _
  · refine .ite ?_ ?_
    · refine .step (loseConv_mem _ _ _) ?_
      refine .frame (State.setConv_frame _ _ _) (by decide) ?_
      exact .refl _
    · conv => zeta
      split
      refine .frame (raiseA_frame _ _ _) (by decide) ?_
      refine .fst (by assumption) ?_
      refine .frame (loadCoefs_frame _ _ _ _) (by decide) ?_
      refine .frame (State.setMonBank_frame _ _ _) (by decide) ?_
      refine .frame (State.setConv_frame _ _ _) (by decide) ?_
      exact .refl _

theorem queuedCheck_mem (s : State) (cv : Nat) (code : Nat) (n : Nat) : Mem s (queuedCheck s cv code n) := by
  unfold queuedCheck
  refine .step (judgeCheck_mem _ _ _) ?_
  refine .frame (State.setMonBank_frame _ _ _) (by decide) ?_
  exact .refl _

theorem execInjectionDone_mem (cv : Nat) (code : Nat) (overRange : Bool) (s : State) (s' : State) (h : execInjectionDone cv code overRange s = .next s') :
    Mem s s' := by
  unfold execInjectionDone at h
  refine finish_mem h ?_
  conv => zeta
  split
  · exact .refl _
  · refine .ite ?_ ?_
    · exact .refl _
    · refine .ite ?_ ?_
      · refine .frame (State.setConv_frame _ _ _) (by decide) ?_
        exact .refl _
      · refine .ite ?_ ?_
        · refine .frame (calInjected_frame _ _ _ _) (by decide) ?_
          refine .frame (State.setObjN_frame _ _ _ _) (by decide) ?_
          refine .frame (State.setConv_frame _ _ _) (by decide) ?_
          exact .refl _
        · refine .ite ?_ ?_
          · refine .frame (State.setObjN_frame _ _ _ _) (by decide) ?_
            refine .frame (State.setObjN_frame _ _ _ _) (by decide) ?_
            refine .set_mon ?_
            refine .frame (State.setObjN_frame _ _ _ _) (by decide) ?_
            refine .frame (State.setConv_frame _ _ _) (by decide) ?_
            exact .refl _
          · refine .step (queuedCheck_mem _ _ _ _) ?_
            refine .frame (State.setObjN_frame _ _ _ _) (by decide) ?_
            refine .frame (State.setConv_frame _ _ _) (by decide) ?_
            exact .refl _

theorem cutWriteBack_mem (s : State) (beats : Option Nat) : Mem s (cutWriteBack s beats) := by
  unfold cutWriteBack
  conv => zeta
  split
  · exact .refl _
  · split
    refine .ite ?_ ?_
    · refine .frame (State.setSlot_frame _ _ _) (by decide) ?_
      refine .step (State.slotWrite_mem _ _ _ _) ?_
      refine .set_lib ?_
      refine .snd (by assumption) ?_
      refine .frame (State.fresh_frame _) (by decide) ?_
      exact .refl _
    · refine .frame (invalidate_frame _ _ _) (by decide) ?_
      refine .step (State.slotWrite_mem _ _ _ _) ?_
      refine .set_lib ?_
      refine .snd (by assumption) ?_
      refine .frame (State.fresh_frame _) (by decide) ?_
      exact .refl _

theorem loseLocal_mem (s : State) : Mem s (loseLocal s) := by
  unfold loseLocal
  conv => zeta
  split
  · refine .frame (endRoute_frame _ _ _ _) (by decide) ?_
    refine .frame (State.setSlot_frame _ _ _) (by decide) ?_
    refine .frame (State.dropLoads_frame _ _) (by decide) ?_
    refine .step (cutWriteBack_mem _ _) ?_
    refine .set_lib ?_
    refine .set_cal ?_
    refine .frame (returnBack_frame _ _) (by decide) ?_
    refine .frame (abortCal_frame _ _) (by decide) ?_
    exact .refl _
  · refine .step (cutWriteBack_mem _ _) ?_
    refine .set_lib ?_
    refine .set_cal ?_
    refine .frame (returnBack_frame _ _) (by decide) ?_
    refine .frame (abortCal_frame _ _) (by decide) ?_
    exact .refl _

theorem takeOver_mem (s : State) (l : Nat) (cause : Nat) : Mem s (takeOver s l cause) := by
  unfold takeOver
  refine .frame (endRollBack_frame _) (by decide) ?_
  refine .frame (raiseA_frame _ _ _) (by decide) ?_
  refine .frame (noteTakeover_frame _ _ _) (by decide) ?_
  refine .frame (State.incSat_frame _ _ _ _) (by decide) ?_
  refine .frame (settleCommits_frame _) (by decide) ?_
  refine .frame (advanceSeqs_frame _) (by decide) ?_
  refine .frame (freshDeadlines_frame _) (by decide) ?_
  refine .step (loseLocal_mem _) ?_
  split
  · refine .frame (restoreSessions_frame _ _) (by decide) ?_
    refine .frame (restoreFuncs_frame _ _) (by decide) ?_
    refine .ite ?_ ?_
    · refine .frame (restartLoops_frame _) (by decide) ?_
      refine .frame (becomeActive_frame _ _) (by decide) ?_
      refine .frame (dealWithOther_frame _ _) (by decide) ?_
      exact .refl _
    · refine .frame (reconcileAll_frame _ _) (by decide) ?_
      refine .frame (becomeActive_frame _ _) (by decide) ?_
      refine .frame (dealWithOther_frame _ _) (by decide) ?_
      exact .refl _
  · refine .frame (restartLoops_frame _) (by decide) ?_
    refine .frame (becomeActive_frame _ _) (by decide) ?_
    refine .frame (dealWithOther_frame _ _) (by decide) ?_
    exact .refl _

theorem loseBoth_mem (s : State) : Mem s (loseBoth s) := by
  unfold loseBoth
  refine .set_ex_loops_cal_com ?_
  refine .step (loseLocal_mem _) ?_
  refine .frame (loseRequests_frame _) (by decide) ?_
  exact .refl _

theorem startFirst_mem (s : State) (l : Nat) : Mem s (startFirst s l) := by
  unfold startFirst
  conv => zeta
  split
  · refine .frame (State.enter_frame _ _) (by decide) ?_
    refine .frame (becomeActive_frame _ _) (by decide) ?_
    refine .ite ?_ ?_
    · refine .frame (dealWithOther_frame _ _) (by decide) ?_
      exact .refl _
    · exact .refl _
  · refine .frame (enterSafe_frame _) (by decide) ?_
    refine .frame (State.fault_frame _ _) (by decide) ?_
    refine .frame (advanceSeqs_frame _) (by decide) ?_
    refine .step (loseBoth_mem _) ?_
    refine .frame (becomeActive_frame _ _) (by decide) ?_
    refine .ite ?_ ?_
    · refine .frame (dealWithOther_frame _ _) (by decide) ?_
      exact .refl _
    · exact .refl _
  · refine .frame (enterSafe_frame _) (by decide) ?_
    refine .frame (State.fault_frame _ _) (by decide) ?_
    refine .frame (advanceSeqs_frame _) (by decide) ?_
    refine .step (loseBoth_mem _) ?_
    refine .frame (becomeActive_frame _ _) (by decide) ?_
    refine .ite ?_ ?_
    · refine .frame (dealWithOther_frame _ _) (by decide) ?_
      exact .refl _
    · exact .refl _
  · refine .frame (enterSafe_frame _) (by decide) ?_
    refine .frame (State.fault_frame _ _) (by decide) ?_
    refine .frame (advanceSeqs_frame _) (by decide) ?_
    refine .step (loseBoth_mem _) ?_
    refine .frame (becomeActive_frame _ _) (by decide) ?_
    refine .ite ?_ ?_
    · refine .frame (dealWithOther_frame _ _) (by decide) ?_
      exact .refl _
    · exact .refl _
  · refine .frame (safeAll_frame _) (by decide) ?_
    refine .frame (State.fault_frame _ _) (by decide) ?_
    refine .frame (advanceSeqs_frame _) (by decide) ?_
    refine .step (loseBoth_mem _) ?_
    refine .frame (becomeActive_frame _ _) (by decide) ?_
    refine .ite ?_ ?_
    · refine .frame (dealWithOther_frame _ _) (by decide) ?_
      exact .refl _
    · exact .refl _
  · refine .frame (advanceSeqs_frame _) (by decide) ?_
    refine .step (loseBoth_mem _) ?_
    refine .frame (becomeActive_frame _ _) (by decide) ?_
    refine .ite ?_ ?_
    · refine .frame (dealWithOther_frame _ _) (by decide) ?_
      exact .refl _
    · exact .refl _

theorem swapRoles_mem (s : State) (forced : Bool) : Mem s (swapRoles s forced) := by
  unfold swapRoles
  conv => zeta
  split
  · refine .set_lobes ?_
    refine .frame (noteTakeover_frame _ _ _) (by decide) ?_
    refine .frame (advanceSeqs_frame _) (by decide) ?_
    refine .ite ?_ ?_
    · refine .step (loseLocal_mem _) ?_
      split
      · refine .frame (restoreSessions_frame _ _) (by decide) ?_
        refine .frame (reconcileAll_frame _ _) (by decide) ?_
        refine .frame (becomeActive_frame _ _) (by decide) ?_
        refine .frame (State.setLobe_frame _ _ _) (by decide) ?_
        refine .frame (setRole_frame _ _ _) (by decide) ?_
        refine .frame (broadcast_frame _ _) (by decide) ?_
        refine .frame (takeClaim_frame _ _ _) (by decide) ?_
        exact .refl _
      · refine .frame (becomeActive_frame _ _) (by decide) ?_
        refine .frame (State.setLobe_frame _ _ _) (by decide) ?_
        refine .frame (setRole_frame _ _ _) (by decide) ?_
        refine .frame (broadcast_frame _ _) (by decide) ?_
        refine .frame (takeClaim_frame _ _ _) (by decide) ?_
        exact .refl _
    · split
      · refine .frame (restoreSessions_frame _ _) (by decide) ?_
        refine .frame (reconcileAll_frame _ _) (by decide) ?_
        refine .frame (becomeActive_frame _ _) (by decide) ?_
        refine .frame (State.setLobe_frame _ _ _) (by decide) ?_
        refine .frame (setRole_frame _ _ _) (by decide) ?_
        refine .frame (broadcast_frame _ _) (by decide) ?_
        refine .frame (takeClaim_frame _ _ _) (by decide) ?_
        exact .refl _
      · refine .frame (becomeActive_frame _ _) (by decide) ?_
        refine .frame (State.setLobe_frame _ _ _) (by decide) ?_
        refine .frame (setRole_frame _ _ _) (by decide) ?_
        refine .frame (broadcast_frame _ _) (by decide) ?_
        refine .frame (takeClaim_frame _ _ _) (by decide) ?_
        exact .refl _
  · exact .refl _

theorem execLobeFailover_mem (l : Nat) (s : State) (s' : State) (h : execLobeFailover l s = .next s') :
    Mem s s' := by
  unfold execLobeFailover at h
  refine finish_mem h ?_
  conv => zeta
  split
  · exact .refl _
  · refine .ite ?_ ?_
    · exact .refl _
    · refine .ite ?_ ?_
      · refine .frame (peerGone_frame _ _) (by decide) ?_
        exact .refl _
      · refine .ite ?_ ?_
        · refine .frame (copyToSyncing_frame _ _) (by decide) ?_
          refine .step (startFirst_mem _ _) ?_
          exact .refl _
        · refine .frame (copyToSyncing_frame _ _) (by decide) ?_
          refine .step (takeOver_mem _ _ _) ?_
          exact .refl _

theorem execRoleSwapped_mem (s : State) (s' : State) (h : execRoleSwapped s = .next s') :
    Mem s s' := by
  unfold execRoleSwapped at h
  refine finish_mem h ?_
  conv => zeta
  split
  · refine .ite ?_ ?_
    · refine .ite ?_ ?_
      · refine .frame (endRollBack_frame _) (by decide) ?_
        refine .frame (fwSwapped_frame _ _) (by decide) ?_
        refine .ite ?_ ?_
        · refine .frame (toOffline_frame _ _ _) (by decide) ?_
          refine .step (swapRoles_mem _ _) ?_
          refine .set_lobes ?_
          exact .refl _
        · refine .step (swapRoles_mem _ _) ?_
          refine .set_lobes ?_
          exact .refl _
      · refine .frame (skipSwap_frame _ _) (by decide) ?_
        exact .refl _
    · exact .refl _
  · exact .refl _

theorem endBurst_mem (s : State) (i : Nat) (t : Nat) (written : Nat) (abandoned : Nat) :
    Mem s (endBurst s i t written abandoned) := by
  unfold endBurst
  refine .ite ?_ ?_
  · refine .step (cutWriteBack_mem _ _) ?_
    refine .frame (abortBurst_frame _ _ _ _ _ _) (by decide) ?_
    refine .frame (initEnd_frame _ _ _) (by decide) ?_
    exact .refl _
  · refine .frame (initEnd_frame _ _ _) (by decide) ?_
    exact .refl _

theorem execBeatTimeout_mem (i : Nat) (t : Nat) (written : Nat) (abandoned : Nat) (s : State) (s' : State) (h : execBeatTimeout i t written abandoned s = .next s') :
    Mem s s' := by
  unfold execBeatTimeout at h
  refine finish_mem h ?_
  refine .ite ?_ ?_
  · refine .step (endBurst_mem _ _ _ _ _) ?_
    exact .refl _
  · exact .refl _

theorem slotError_mem (s : State) (slot : Nat) (initiator : Nat) : Mem s (slotError s slot initiator) := by
  unfold slotError
  refine .ite ?_ ?_
  · exact .refl _
  · refine .ite ?_ ?_
    · refine .set_mat ?_
      exact .refl _
    · refine .ite ?_ ?_
      · refine .step (finishWriteBack_mem _) ?_
        exact .refl _
      · refine .ite ?_ ?_
        · exact .refl _
        · refine .frame (invalidate_frame _ _ _) (by decide) ?_
          exact .refl _

theorem hbmError_mem (s : State) (addr : Nat) (initiator : Nat) : Mem s (hbmError s addr initiator) := by
  unfold hbmError
  conv => zeta
  split
  · refine .step (slotError_mem _ _ _) ?_
    refine .set_mat ?_
    refine .frame (raiseS_frame _ _ _) (by decide) ?_
    refine .frame (State.setObjN_frame _ _ _ _) (by decide) ?_
    refine .frame (State.incSat_frame _ _ _ _) (by decide) ?_
    exact .refl _
  · refine .set_mat ?_
    refine .frame (raiseS_frame _ _ _) (by decide) ?_
    refine .frame (State.setObjN_frame _ _ _ _) (by decide) ?_
    refine .frame (State.incSat_frame _ _ _ _) (by decide) ?_
    exact .refl _
  · refine .frame (pageReload_frame _ _) (by decide) ?_
    refine .frame (raiseS_frame _ _ _) (by decide) ?_
    refine .frame (State.setObjN_frame _ _ _ _) (by decide) ?_
    refine .frame (State.incSat_frame _ _ _ _) (by decide) ?_
    exact .refl _
  · refine .set_mat ?_
    refine .frame (raiseS_frame _ _ _) (by decide) ?_
    refine .frame (State.setObjN_frame _ _ _ _) (by decide) ?_
    refine .frame (State.incSat_frame _ _ _ _) (by decide) ?_
    exact .refl _
  · refine .frame (yieldLobe_frame _ _ _) (by decide) ?_
    refine .frame (raiseS_frame _ _ _) (by decide) ?_
    refine .frame (State.setObjN_frame _ _ _ _) (by decide) ?_
    refine .frame (State.incSat_frame _ _ _ _) (by decide) ?_
    exact .refl _

theorem execHbmUe_mem (addr : Nat) (initiator : Nat) (s : State) (s' : State) (h : execHbmUe addr initiator s = .next s') :
    Mem s s' := by
  unfold execHbmUe at h
  refine finish_mem h ?_
  refine .ite ?_ ?_
  · refine .step (hbmError_mem _ _ _) ?_
    exact .refl _
  · exact .refl _

theorem coldReset_mem (s : State) (cause : Nat) : Mem s (coldReset s cause) := fun _ => rfl

theorem loadPark_mem (s : State) : Mem1 s (loadPark s) := by
  unfold loadPark
  conv => zeta
  split
  · refine .pair ?_
    refine .frame (callDark_frame _) (by decide) ?_
    refine .foldl (fun _ _ => ?_) ?_
    · refine .frame (revertRegion_frame _ _) (by decide) ?_
      exact .refl _
    · exact .refl _
  · refine .ite ?_ ?_
    · refine .pair ?_
      refine .frame (callDark_frame _) (by decide) ?_
      refine .foldl (fun _ _ => ?_) ?_
      · refine .frame (revertRegion_frame _ _) (by decide) ?_
        exact .refl _
      · exact .refl _
    · split
      · refine .pair ?_
        refine .frame (invalidate_frame _ _ _) (by decide) ?_
        refine .step (State.slotWrite_mem _ _ _ _) ?_
        refine .foldl (fun _ _ => ?_) ?_
        · refine .frame (revertRegion_frame _ _) (by decide) ?_
          exact .refl _
        · exact .refl _
      · split
        refine .pair ?_
        refine .fst (by assumption) ?_
        refine .step (revalidateSlot_mem _ _) ?_
        refine .frame (State.setSlot_frame _ _ _) (by decide) ?_
        refine .step (State.slotWrite_mem _ _ _ _) ?_
        refine .foldl (fun _ _ => ?_) ?_
        · refine .frame (revertRegion_frame _ _) (by decide) ?_
          exact .refl _
        · exact .refl _

theorem selftestStep_mem (s : State) (step : Nat) (failed : Nat) : Mem s (selftestStep s step failed) := by
  unfold selftestStep
  refine .ite ?_ ?_
  · refine .frame (loadStored_frame _ _) (by decide) ?_
    refine .set_dev ?_
    exact .refl _
  · refine .ite ?_ ?_
    · refine .ite ?_ ?_
      · refine .frame (trainHbm_frame _ _) (by decide) ?_
        refine .set_dev ?_
        exact .refl _
      · refine .frame (selftestFail_frame _ _ _) (by decide) ?_
        refine .frame (trainHbm_frame _ _) (by decide) ?_
        refine .set_dev ?_
        exact .refl _
    · refine .ite ?_ ?_
      · refine .frame (loadCalibration_frame _ _) (by decide) ?_
        refine .set_dev ?_
        exact .refl _
      · refine .ite ?_ ?_
        · refine .ite ?_ ?_
          · refine .set_dev ?_
            exact .refl _
          · refine .frame (selftestFail_frame _ _ _) (by decide) ?_
            refine .set_dev ?_
            exact .refl _
        · refine .ite ?_ ?_
          · conv => zeta
            split
            refine .ite ?_ ?_
            · refine .frame (selftestFail_frame _ _ _) (by decide) ?_
              refine .frame (callDark_frame _) (by decide) ?_
              refine .fst (by assumption) ?_
              refine .step (loadPark_mem _) ?_
              refine .set_dev ?_
              exact .refl _
            · refine .fst (by assumption) ?_
              refine .step (loadPark_mem _) ?_
              refine .set_dev ?_
              exact .refl _
          · refine .ite ?_ ?_
            · refine .set_dev ?_
              exact .refl _
            · refine .frame (selftestFail_frame _ _ _) (by decide) ?_
              refine .set_dev ?_
              exact .refl _

theorem chooseParkImage_mem (s : State) : Mem s (chooseParkImage s) := by
  unfold chooseParkImage
  conv => zeta
  split
  refine .set_dev ?_
  refine .ite ?_ ?_
  · refine .fst (by assumption) ?_
    refine .ite ?_ ?_
    · refine .step (revalidateSlot_mem _ _) ?_
      refine .step (promoteWriteBack_mem _ _) ?_
      exact .refl _
    · refine .pair ?_
      refine .step (promoteWriteBack_mem _ _) ?_
      exact .refl _
  · refine .step (routeDark_mem _ _) ?_
    refine .frame (discardRefinement_frame _ _) (by decide) ?_
    refine .fst (by assumption) ?_
    refine .ite ?_ ?_
    · refine .step (revalidateSlot_mem _ _) ?_
      refine .step (promoteWriteBack_mem _ _) ?_
      exact .refl _
    · refine .pair ?_
      refine .step (promoteWriteBack_mem _ _) ?_
      exact .refl _

theorem parkRequest_mem (s : State) : Mem s (parkRequest s) := by
  unfold parkRequest
  refine .ite ?_ ?_
  · refine .frame (parkStart_frame _) (by decide) ?_
    refine .ite ?_ ?_
    · exact .refl _
    · refine .step (chooseParkImage_mem _) ?_
      exact .refl _
  · refine .ite ?_ ?_
    · exact .refl _
    · refine .step (chooseParkImage_mem _) ?_
      exact .refl _

theorem resetNow_mem (s : State) (k : ResetKind) (cause : Nat) : Mem s (resetNow s k cause) := by
  unfold resetNow
  split
  · refine .frame (warmReset_frame _) (by decide) ?_
    exact .refl _
  · refine .frame (bootStart_frame _) (by decide) ?_
    refine .step (coldReset_mem _ _) ?_
    exact .refl _

theorem execColdResetInput_mem (pin : Nat) (s : State) (s' : State) (h : execColdResetInput pin s = .next s') :
    Mem s s' := by
  unfold execColdResetInput at h
  refine finish_mem h ?_
  refine .ite ?_ ?_
  · refine .set_dev ?_
    refine .ite ?_ ?_
    · exact .refl _
    · refine .step (coldReset_mem _ _) ?_
      exact .refl _
  · exact .refl _

theorem execSelftestStepDone_mem (step : Nat) (failed : Nat) (s : State) (s' : State) (h : execSelftestStepDone step failed s = .next s') :
    Mem s s' := by
  unfold execSelftestStepDone at h
  refine finish_mem h ?_
  refine .ite ?_ ?_
  · refine .step (selftestStep_mem _ _ _) ?_
    exact .refl _
  · exact .refl _

theorem execSelftestDone_mem (s : State) (s' : State) (h : execSelftestDone s = .next s') :
    Mem s s' := by
  unfold execSelftestDone at h
  refine finish_mem h ?_
  refine .ite ?_ ?_
  · refine .step (parkRequest_mem _) ?_
    exact .refl _
  · exact .refl _

theorem refclkReturn_mem (s : State) : Mem s (refclkReturn s) := by
  unfold refclkReturn
  conv => zeta
  split
  · refine .frame (dropIdleWraps_frame _) (by decide) ?_
    refine .foldl (fun _ _ => ?_) ?_
    · refine .ite ?_ ?_
      · exact .refl _
      · refine .frame (State.setVoa_frame _ _ _) (by decide) ?_
        exact .refl _
    · refine .foldl (fun _ _ => ?_) ?_
      · refine .frame (refclkElem_frame _ _) (by decide) ?_
        exact .refl _
      · refine .frame (State.enter_frame _ _) (by decide) ?_
        refine .set_dev ?_
        exact .refl _
  · refine .frame (dropIdleWraps_frame _) (by decide) ?_
    refine .foldl (fun _ _ => ?_) ?_
    · refine .ite ?_ ?_
      · exact .refl _
      · refine .frame (State.setVoa_frame _ _ _) (by decide) ?_
        exact .refl _
    · refine .foldl (fun _ _ => ?_) ?_
      · refine .frame (refclkElem_frame _ _) (by decide) ?_
        exact .refl _
      · refine .frame (State.enter_frame _ _) (by decide) ?_
        refine .set_dev ?_
        exact .refl _
  · refine .step (resetNow_mem _ _ _) ?_
    refine .set_dev ?_
    exact .refl _
  · refine .step (resetNow_mem _ _ _) ?_
    refine .set_dev ?_
    exact .refl _
  · refine .frame (enterSafe_frame _) (by decide) ?_
    refine .set_dev ?_
    exact .refl _

theorem execRefclkRestored_mem (lossNs : Nat) (s : State) (s' : State) (h : execRefclkRestored lossNs s = .next s') :
    Mem s s' := by
  unfold execRefclkRestored at h
  refine finish_mem h ?_
  conv => zeta
  split
  · exact .refl _
  · refine .ite ?_ ?_
    · refine .ite ?_ ?_
      · refine .step (refclkReturn_mem _) ?_
        refine .frame (raiseS_frame _ _ _) (by decide) ?_
        refine .frame (State.unfault_frame _ _) (by decide) ?_
        refine .set_dev ?_
        exact .refl _
      · refine .frame (raiseS_frame _ _ _) (by decide) ?_
        refine .frame (State.unfault_frame _ _) (by decide) ?_
        refine .set_dev ?_
        exact .refl _
    · exact .refl _

theorem parkOwed_mem (s : State) : Mem s (parkOwed s) := by
  unfold parkOwed
  refine .ite ?_ ?_
  · refine .step (parkRequest_mem _) ?_
    exact .refl _
  · exact .refl _

theorem execPark_mem (sess : Nat) (s : State) (s' : State) (h : execPark sess s = .next s') :
    Mem s s' := by
  unfold execPark at h
  refine finish_mem h ?_
  refine .step (parkOwed_mem _) ?_
  refine hostWrite_mem (fun _ => ?_) ?_
  · refine .frame (effPark_frame _) (by decide) ?_
    exact .refl _
  · exact .refl _

theorem execResume_mem (sess : Nat) (s : State) (s' : State) (h : execResume sess s = .next s') :
    Mem s s' := by
  unfold execResume at h
  refine finish_mem h ?_
  refine .step (parkOwed_mem _) ?_
  refine hostWrite_mem (fun _ => ?_) ?_
  · refine .frame (effResume_frame _) (by decide) ?_
    exact .refl _
  · exact .refl _

theorem execResetDelayEnd_mem (s : State) (s' : State) (h : execResetDelayEnd s = .next s') :
    Mem s s' := by
  unfold execResetDelayEnd at h
  refine finish_mem h ?_
  split
  · refine .ite ?_ ?_
    · refine .step (resetNow_mem _ _ _) ?_
      exact .refl _
    · exact .refl _
  · exact .refl _

theorem effFlash_mem {r : State × Verdict} (addr : Nat) (v : Int) (s : State) (h : effFlash addr v s = some r) : Mem1 s r := by
  unfold effFlash at h
  repeat' split at h
  all_goals first
    | contradiction
    | cases h
  · exact .frame (effFwLoadOpen_frame _ _) (by decide) (.refl _)
  · first
    | exact .frame (effParkClear_frame _) (by decide) (.refl _)
    | exact .frame (effParkStore_frame _ _) (by decide) (.refl _)
    | exact .frame (effConfigStore_frame _) (by decide) (.refl _)
    | exact .frame (effFwRollback_frame _) (by decide) (.refl _)
    | exact .frame (effFwConfirm_frame _) (by decide) (.refl _)
    | exact .frame (effFwActivate_frame _ _) (by decide) (.refl _)
    | exact .frame (effFwVerify_frame _ _) (by decide) (.refl _)
    | exact .frame (effFwLoadOpen_frame _ _) (by decide) (.refl _)
    | exact .frame (effFwVerify_frame _ _) (by decide) (.snd (by assumption) (.frame (State.fresh_frame _) (by decide) (.refl _)))
  · exact .frame (effFwActivate_frame _ _) (by decide) (.refl _)
  · exact .frame (effFwConfirm_frame _) (by decide) (.refl _)
  · exact .frame (effFwRollback_frame _) (by decide) (.refl _)
  · exact .frame (effConfigStore_frame _) (by decide) (.refl _)
  · exact .frame (effParkStore_frame _ _) (by decide) (.refl _)
  · exact .frame (effParkClear_frame _) (by decide) (.refl _)

theorem effFabric_mem {r : State × Verdict} (addr sel : Nat) (v : Int) (s : State) (h : effFabric addr sel v s = some r) : Mem1 s r := by
  unfold effFabric at h
  repeat' split at h
  all_goals first
    | contradiction
    | cases h
  · exact .frame (effFaultStage_frame _ _ _ _) (by decide) (.refl _)
  · exact .frame (effFaultApply_frame _) (by decide) (.refl _)
  · exact .frame (effPinTestCell_frame _ _) (by decide) (.refl _)

theorem effLibrary_mem {r : State × Verdict} (sess addr sel : Nat) (v : Int) (s : State) (h : effLibrary sess addr sel v s = some r) : Mem1 s r := by
  unfold effLibrary at h
  repeat' split at h
  all_goals first
    | contradiction
    | cases h
  · exact .step (effLoadSlot_mem _ _ _) (.refl _)
  · exact .frame (effLoadClose_frame _ _) (by decide) (.refl _)
  · exact .step (effEraseSlot_mem _ _ _) (.refl _)
  · exact .frame (effReadSlot_frame _ _ _) (by decide) (.refl _)
  · exact .step (effRevalidate_mem _ _) (.refl _)
  · exact .frame (effFindHash_frame _ _) (by decide) (.refl _)
  · exact .step (effRouteApply_mem _ _) (.refl _)
  · exact .frame (effRefineDecide_frame _ _ _) (by decide) (.refl _)

theorem effLoops_mem {r : State × Verdict} (addr sel : Nat) (v : Int) (s : State) (h : effLoops addr sel v s = some r) : Mem1 s r := by
  unfold effLoops at h
  repeat' split at h
  all_goals first
    | contradiction
    | cases h
  · exact .frame (effSetpoint_frame _ _ _) (by decide) (.refl _)
  · exact .frame (effLoopEnable_frame _ _ _) (by decide) (.refl _)
  · exact .frame (effVoaEnable_frame _ _ _) (by decide) (.refl _)
  · exact .pair (.frame (voaRetarget_frame _ _) (by decide) (.frame (State.setObj_frame _ _ _ _) (by decide) (.refl _)))

theorem effDatapath_mem {r : State × Verdict} (addr sel : Nat) (v : Int) (s : State) (h : effDatapath addr sel v s = some r) : Mem1 s r := by
  unfold effDatapath at h
  repeat' split at h
  all_goals first
    | contradiction
    | cases h
  · exact .frame (effDpApply_frame _) (by decide) (.refl _)
  · exact .frame (effAvgConfig_frame _ _ _ _) (by decide) (.refl _)
  · exact .frame (effAvgConfig_frame _ _ _ _) (by decide) (.refl _)

theorem effDrive_mem {r : State × Verdict} (addr sel : Nat) (v : Int) (s : State) (h : effDrive addr sel v s = some r) : Mem1 s r := by
  unfold effDrive at h
  repeat' split at h
  all_goals first
    | contradiction
    | cases h
  · exact .frame (effSpanApply_frame _) (by decide) (.refl _)
  · exact .frame (effGenApply_frame _) (by decide) (.refl _)
  · exact .frame (effSafeStore_frame _) (by decide) (.refl _)
  · exact .frame (effSafeRevert_frame _) (by decide) (.refl _)
  · exact .frame (effPrivTarget_frame _ _ _) (by decide) (.refl _)

theorem effMonitor_mem {r : State × Verdict} (addr sel : Nat) (v : Int) (s : State) (h : effMonitor addr sel v s = some r) : Mem1 s r := by
  unfold effMonitor at h
  repeat' split at h
  all_goals first
    | contradiction
    | cases h
  · exact .frame (effGainMode_frame _ _ _) (by decide) (.refl _)
  · exact .frame (effRange_frame _ _ _) (by decide) (.refl _)
  · exact .frame (effRefEnable_frame _ _ _) (by decide) (.refl _)
  · exact .frame (effBankPower_frame _ _ _) (by decide) (.refl _)
  · exact .frame (effInjApply_frame _) (by decide) (.refl _)
  · exact .frame (effFocusStart_frame _ _ _) (by decide) (.refl _)

theorem effCal_mem {r : State × Verdict} (addr : Nat) (v : Int) (s : State) (h : effCal addr v s = some r) : Mem1 s r := by
  unfold effCal at h
  repeat' split at h
  all_goals first
    | contradiction
    | cases h
  · exact .frame (effCalApply_frame _) (by decide) (.refl _)
  · exact .frame (effCalAccept_frame _ _) (by decide) (.refl _)
  · exact .frame (effCalAbort_frame _) (by decide) (.refl _)
  · exact .frame (effCalStore_frame _) (by decide) (.refl _)
  · exact .frame (effCalValuesApply_frame _) (by decide) (.refl _)
  · exact .frame (effTemplateApply_frame _) (by decide) (.refl _)

theorem effSteady_mem {r : State × Verdict} (addr sel : Nat) (v : Int) (s : State) (h : effSteady addr sel v s = some r) : Mem1 s r := by
  unfold effSteady at h
  repeat' split at h
  all_goals first
    | contradiction
    | cases h
  · exact .frame (effHeaterBudget_frame _ _ _) (by decide) (.refl _)
  · exact .frame (effHeaterBudget_frame _ _ _) (by decide) (.refl _)
  · exact .frame (effSteadyReset_frame _) (by decide) (.refl _)
  · exact .frame (effTdxMode_frame _ _ _) (by decide) (.refl _)
  · exact .frame (effCaseSource_frame _ _) (by decide) (.refl _)

theorem effLobes_mem {r : State × Verdict} (addr sel : Nat) (v : Int) (s : State) (h : effLobes addr sel v s = some r) : Mem1 s r := by
  unfold effLobes at h
  repeat' split at h
  all_goals first
    | contradiction
    | cases h
  · exact .frame (effHoldOffline_frame _ _ _) (by decide) (.refl _)
  · exact .frame (effLobeReset_frame _ _) (by decide) (.refl _)
  · exact .frame (effSwapNow_frame _) (by decide) (.refl _)

theorem effCapture_mem {r : State × Verdict} (addr sel : Nat) (v : Int) (s : State) (h : effCapture addr sel v s = some r) : Mem1 s r := by
  unfold effCapture at h
  repeat' split at h
  all_goals first
    | contradiction
    | cases h
  all_goals first
    | with_reducible exact .frame (effRingEnable_frame _ _ _) (by decide) (.refl _)
    | with_reducible exact .frame (effRingRp_frame _ _ _) (by decide) (.refl _)
    | with_reducible exact .frame (effRingLength_frame _ _ _) (by decide) (.refl _)
    | with_reducible exact .frame (effCapRelease_frame _ _ _) (by decide) (.refl _)
    | with_reducible exact .frame (effCapForce_frame _ _) (by decide) (.refl _)
    | with_reducible exact .frame (effCapEnd_frame _ _) (by decide) (.refl _)
    | with_reducible exact .frame (effCapArm_frame _ _) (by decide) (.refl _)

theorem effPorts_mem {r : State × Verdict} (addr sel : Nat) (v : Int) (s : State) (h : effPorts addr sel v s = some r) : Mem1 s r := by
  unfold effPorts at h
  repeat' split at h
  all_goals first
    | contradiction
    | cases h
  · exact .frame (effPortEnable_frame _ _ _) (by decide) (.refl _)
  · exact .frame (effNetApply_frame _) (by decide) (.refl _)

theorem effClassifier_mem {r : State × Verdict} (addr sel : Nat) (v : Int) (s : State) (h : effClassifier addr sel v s = some r) :
    Mem1 s r := by
  unfold effClassifier at h
  repeat' split at h
  all_goals first
    | contradiction
    | cases h
  · exact .frame (effRulesApply_frame _) (by decide) (.refl _)
  · exact .frame (effRulesStore_frame _) (by decide) (.refl _)
  · exact .frame (effSlowPolicer_frame _ _ _ _) (by decide) (.refl _)

theorem effQueues_mem {r : State × Verdict} (addr sel : Nat) (v : Int) (s : State) (h : effQueues addr sel v s = some r) : Mem1 s r := by
  unfold effQueues at h
  repeat' split at h
  all_goals first
    | contradiction
    | cases h
  · exact .frame (effShaper_frame _ _ _ _) (by decide) (.refl _)
  · exact .frame (effShaper_frame _ _ _ _) (by decide) (.refl _)
  · exact .frame (effShaper_frame _ _ _ _) (by decide) (.refl _)
  · exact .frame (effTxqApply_frame _) (by decide) (.refl _)
  · exact .frame (effGateApply_frame _ _) (by decide) (.refl _)
  · exact .frame (effPolicer_frame _ _ _ _) (by decide) (.refl _)
  · exact .frame (effQsamplePeriod_frame _ _) (by decide) (.refl _)

theorem effTime_mem {r : State × Verdict} (addr sel : Nat) (v : Int) (s : State) (h : effTime addr sel v s = some r) : Mem1 s r := by
  unfold effTime at h
  repeat' split at h
  all_goals first
    | contradiction
    | cases h
  all_goals first
    | with_reducible exact .frame (effLaunchStop_frame _ _) (by decide) (.refl _)
    | with_reducible exact .frame (effLaunchStart_frame _ _) (by decide) (.refl _)
    | with_reducible exact .frame (effPulseApply_frame _ _) (by decide) (.refl _)
    | with_reducible exact .frame (effTimeReset_frame _) (by decide) (.refl _)
    | with_reducible exact .frame (effTimeRate_frame _ _) (by decide) (.refl _)

theorem effExvan_mem {r : State × Verdict} (sess req addr : Nat) (v : Int) (s : State) (h : effExvan sess req addr v s = some r) : Mem1 s r := by
  unfold effExvan at h
  repeat' split at h
  all_goals first
    | contradiction
    | cases h
  all_goals first
    | with_reducible exact .frame (effKeyApply_frame _ _) (by decide) (.refl _)
    | with_reducible exact .frame (effSessionClose_frame _ _ _ _ _) (by decide) (.refl _)

theorem effMatrix_mem {r : State × Verdict} (addr sel : Nat) (v : Int) (s : State) (h : effMatrix addr sel v s = some r) : Mem1 s r := by
  unfold effMatrix at h
  repeat' split at h
  all_goals first
    | contradiction
    | cases h
  · exact .frame (effArbReset_frame _) (by decide) (.refl _)
  · exact .frame (effParkInitiator_frame _ _ _) (by decide) (.refl _)

theorem effOwn_mem {r : State × Verdict} (sess req addr sel : Nat) (v : Int) (s : State) (h : effOwn sess req addr sel v s = some r) :
    Mem1 s r := by
  unfold effOwn at h
  split at h
  · split at h
    · cases h
      exact .frame (effFuncMode_frame _ _ _) (by decide) (.refl _)
    · contradiction
  · exact effFlash_mem _ _ _  h
  · exact effFabric_mem _ _ _ _  h
  · exact effLibrary_mem _ _ _ _ _  h
  · exact effLoops_mem _ _ _ _  h
  · exact effDatapath_mem _ _ _ _  h
  · exact effDrive_mem _ _ _ _  h
  · exact effMonitor_mem _ _ _ _  h
  · exact effCal_mem _ _ _  h
  · exact effSteady_mem _ _ _ _  h
  · exact effLobes_mem _ _ _ _  h
  · exact effCapture_mem _ _ _ _  h
  · exact effPorts_mem _ _ _ _  h
  · exact effClassifier_mem _ _ _ _  h
  · exact effQueues_mem _ _ _ _  h
  · exact effTime_mem _ _ _ _  h
  · exact effExvan_mem _ _ _ _ _  h
  · exact effMatrix_mem _ _ _ _  h
  · split at h
    · cases h
      exact .frame (effDeviceCommand_frame _ _) (by decide) (.refl _)
    · contradiction
  · contradiction

theorem effNumber_mem (sess req addr sel : Nat) (v : Int) (s : State) : Mem1 s (effNumber sess req addr sel v s) := by
  unfold effNumber
  split
  · exact effOwn_mem _ _ _ _ _ _ (by assumption)
  · split
    · refine .ite ?_ (.ite ?_ ?_)
      · exact .pair (.frame (State.stage_frame _ _ _ _) (by decide) (.refl _))
      · exact .pair (.frame (State.setLaw_frame _ _ _ _) (by decide) (.refl _))
      · exact .pair (.frame (State.setObj_frame _ _ _ _) (by decide) (.refl _))
    · exact .pair (.refl _)

theorem effLoadData_mem (sess : Nat) (b : List Byte) (s : State) : Mem1 s (effLoadData sess b s) := by
  unfold effLoadData
  conv => zeta
  split
  · refine .pair ?_
    exact .refl _
  · refine .pair ?_
    refine .step (State.slotWrite_mem _ _ _ _) ?_
    refine .set_lib ?_
    exact .refl _

theorem effBytes_mem (sess : Nat) (addr : Nat) (sel : Nat) (b : List Byte) (s : State) : Mem1 s (effBytes sess addr sel b s) := by
  unfold effBytes
  refine .ite ?_ ?_
  · refine .step (effLoadData_mem _ _ _) ?_
    exact .refl _
  · refine .ite ?_ ?_
    · refine .frame (effFwData_frame _ _ _) (by decide) ?_
      exact .refl _
    · refine .ite ?_ ?_
      · refine keepOct_mem _ _ _ ?_
        refine .frame (effHostDrive_frame _ _) (by decide) ?_
        exact .refl _
      · refine .ite ?_ ?_
        · refine keepOct_mem _ _ _ ?_
          refine .frame (effGrantDecide_frame _ _ _ _) (by decide) ?_
          exact .refl _
        · refine .ite ?_ ?_
          · refine keepOct_mem _ _ _ ?_
            refine .frame (effClassDecide_frame _ _ _ _ _) (by decide) ?_
            exact .refl _
          · refine .ite ?_ ?_
            · refine .frame (effShadowNode_frame _ _ _) (by decide) ?_
              exact .refl _
            · refine .ite ?_ ?_
              · refine .frame (effShadowBank_frame _ _) (by decide) ?_
                exact .refl _
              · refine .ite ?_ ?_
                · refine .frame (effRingChannels_frame _ _ _) (by decide) ?_
                  exact .refl _
                · split
                  · refine .ite ?_ ?_
                    · refine .pair ?_
                      refine .frame (State.stageOct_frame _ _ _ _) (by decide) ?_
                      exact .refl _
                    · refine .pair ?_
                      refine .frame (State.setOct_frame _ _ _ _) (by decide) ?_
                      exact .refl _
                  · refine .pair ?_
                    exact .refl _

theorem writeValue_mem (sess req addr sel : Nat) (b : List Byte) (s : State) : Mem1 s (writeValue sess req addr sel b s) := by
  unfold writeValue
  split
  · exact .pair (.refl _)
  · refine .ite ?_ ?_
    · exact .step (effBytes_mem _ _ _ _ _) (.refl _)
    · exact .step (effNumber_mem _ _ _ _ _ _) (.refl _)

theorem execObjectWrite_mem (sess addr sel : Nat) (v : Int) (s s' : State) (h : execObjectWrite sess addr sel v s = .next s') :
    Mem s s' :=
  finish_mem h (.step (parkOwed_mem _) (hostWrite_mem (fun _ => effNumber_mem _ _ _ _ _ _) (.refl _)))

/-- The state an end of a WRITE carries. -/
def endState : WriteEnd → State
  | .done s _ => s
  | .failed s _ _ _ => s

theorem writeEntries_mem (s0 : State) (sess req level : Nat) (l : List WriteEntry) (i : Nat) (k : Option OwedKind) (s : State)
    (h : s.memOk) (h0 : s0.memOk) : (endState (writeEntries s0 sess req level l i k s)).memOk := by
  induction l generalizing i k s with
  | nil => exact h
  | cons e l ih =>
    unfold writeEntries
    split
    · exact h0
    · have hw := writeValue_mem sess req e.addr e.sel e.value s h
      have hw0 := writeValue_mem sess req e.addr e.sel e.value s0 h0
      split
      · rename_i t e1
        rw [e1] at hw
        exact ih _ _ _ hw
      · rename_i t k' e1
        rw [e1] at hw
        exact ih _ _ _ hw
      · split
        · rename_i t n' e2
          rw [e2] at hw0
          exact hw0
        · exact h0

theorem writeNow_mem (s : State) (sess req level : Nat) (entries : List WriteEntry) : Mem s (writeNow s sess req level entries) := by
  intro h
  unfold writeNow
  split
  · exact Mem.frame (answer_frame _ _ _ _ _ _) (by decide) (.refl _) h
  · have hw := writeEntries_mem s sess req level entries 0 none s h h
    split <;> rename_i e1 <;> rw [e1] at hw
    · exact Mem.frame (answer_frame _ _ _ _ _ _) (by decide) (.refl _) hw
    · exact Mem.frame (State.owe_frame _ _ _ _ _ _) (by decide) (.refl _) hw
    · exact Mem.frame (answer_frame _ _ _ _ _ _) (by decide) (.refl _) hw

theorem execWrite_mem (sess req : Nat) (entries : List WriteEntry) (s s' : State) (h : execWrite sess req entries s = .next s') :
    Mem s s' :=
  finish_mem h (.step (parkOwed_mem _) (request_mem (fun _ _ => writeNow_mem _ _ _ _ _) (.refl _)))

theorem blockWhole_mem (s : State) (sess req level addr sel : Nat) (b : List Byte) :
    Mem s (blockWhole s sess req level addr sel b) := by
  unfold blockWhole
  split
  · exact .frame (answer_frame _ _ _ _ _ _) (by decide) (.refl _)
  · have hw := writeValue_mem sess req addr sel b s
    split <;> rename_i e1 <;> rw [e1] at hw
    · exact .frame (answer_frame _ _ _ _ _ _) (by decide) hw
    · exact .frame (answer_frame _ _ _ _ _ _) (by decide) hw
    · exact .frame (State.owe_frame _ _ _ _ _ _) (by decide) hw

theorem touchLoad_mem (s : State) (sess addr : Nat) : Mem s (touchLoad s sess addr) :=
  .frame (touchLoad_frame _ _ _) (by decide) (.refl _)

theorem storeChunk_mem (s : State) (sess req level : Nat) (b : BlockBuf) : Mem s (storeChunk s sess req level b) := by
  unfold storeChunk
  split
  · exact .refl _
  · refine .ite ?_ ?_
    · exact .frame (answer_frame _ _ _ _ _ _) (by decide)
        (.step (touchLoad_mem _ _ _) (.frame (State.setSession_frame _ _ _) (by decide) (.refl _)))
    · exact .step (blockWhole_mem _ _ _ _ _ _ _)
        (.step (touchLoad_mem _ _ _) (.frame (State.setSession_frame _ _ _) (by decide) (.refl _)))

theorem blockWriteNow_mem (s : State) (sess req level addr sel offset total : Nat) (bytes : List Byte) :
    Mem s (blockWriteNow s sess req level addr sel offset total bytes) := by
  have ha : ∀ u n, Mem s u → Mem s (answer u sess req 0 0 (.nak n 0 0)) := fun u n hu =>
    .frame (answer_frame _ _ _ _ _ _) (by decide) hu
  unfold blockWriteNow
  conv => zeta
  split
  · exact .refl _
  · have hx : ∀ i x, Mem s (s.setSession i x) := fun i x => .frame (State.setSession_frame _ _ _) (by decide) (.refl _)
    refine .ite (ha _ _ (.refl _)) (.ite (.ite (ha _ _ (hx _ _)) (.ite (ha _ _ (hx _ _)) ?_)) ?_)
    · exact .step (storeChunk_mem _ _ _ _ _) (hx _ _)
    · split
      · exact ha _ _ (.refl _)
      · exact .ite (.step (storeChunk_mem _ _ _ _ _) (.refl _)) (ha _ _ (.refl _))

theorem execBlockWrite_mem (sess req addr sel offset total : Nat) (bytes : List Byte) (s s' : State)
    (h : execBlockWrite sess req addr sel offset total bytes s = .next s') : Mem s s' :=
  finish_mem h (.step (parkOwed_mem _) (request_mem (fun _ _ => blockWriteNow_mem _ _ _ _ _ _ _ _ _) (.refl _)))

theorem serveLane_mem (hr : ∀ c s, Mem s (runWaiting c s)) (s : State) (i : Nat) (lane : Lane) : Mem s (serveLane s i lane) := by
  have hx : ∀ u i x, Mem s u → Mem s (u.setSession i x) := fun u i x hu => .frame (State.setSession_frame _ _ _) (by decide) hu
  unfold serveLane
  split
  · exact .refl _
  · split
    · exact .refl _
    · refine .ite (.refl _) ?_
      conv => zeta
      split
      · exact .ite (hx _ _ _ (.step (hr _ _) (hx _ _ _ (.refl _)))) (.step (hr _ _) (hx _ _ _ (.refl _)))
      · exact .step (hr _ _) (hx _ _ _ (.refl _))

theorem serveGroupLane_mem (hr : ∀ c s, Mem s (runWaiting c s)) (s : State) : Mem s (serveGroupLane s) := by
  unfold serveGroupLane
  split
  · exact .refl _
  · exact .ite (.refl _) (.set_ex (.step (hr _ _) (.set_ex (.refl _))))

theorem serveLanes_mem (hr : ∀ c s, Mem s (runWaiting c s)) (s : State) : Mem s (serveLanes s) := by
  unfold serveLanes
  refine .step (serveGroupLane_mem hr _) (.foldl (fun _ _ => ?_) (.refl _))
  exact .step (serveLane_mem hr _ _ _) (.step (serveLane_mem hr _ _ _) (.refl _))

end Sys2Proof.Laws
end

