-- ==== Sys2Proof/Laws/Objects.lean ====
section
/-!
SUPPORT. Object values: a value just set reads back, the others read as before, and events change none but RING_DROPPED.
-/

namespace Sys2Proof.Laws

open Sys2Proof Sys2Proof.Machine

variable {s t : State} {a b a' b' : Nat}

@[simp] theorem obj_setObj (s : State) (a b : Nat) (v : Int) : (s.setObj a b v).obj a b = v := by simp [State.obj, State.setObj]

theorem obj_setObj_other (v : Int) (h : ¬ (a' = a ∧ b' = b)) : (s.setObj a b v).obj a' b' = s.obj a' b' := by
  simp [State.obj, State.setObj, mfind2_mset2_other _ _ h]

@[simp] theorem obj_setObjN (s : State) (a b v : Nat) : (s.setObjN a b v).obj a b = v := by simp [State.setObjN]

theorem obj_setObjN_other (v : Nat) (h : ¬ (a' = a ∧ b' = b)) : (s.setObjN a b v).obj a' b' = s.obj a' b' := by
  simp [State.setObjN, obj_setObj_other _ h]

theorem obj_of_objs (h : t.objs = s.objs) (a b : Nat) : t.obj a b = s.obj a b := by simp [State.obj, h]

theorem obj_incSat_other (n : Nat) (h : ¬ (a' = a ∧ b' = b)) : (s.incSat a b n).obj a' b' = s.obj a' b' := by
  simp [State.incSat, obj_setObjN_other _ h]

theorem obj_inc64_other (n : Nat) (h : ¬ (a' = a ∧ b' = b)) : (s.inc64 a b n).obj a' b' = s.obj a' b' := by
  simp [State.inc64, obj_setObjN_other _ h]

/-- The second state reads every object but RING_DROPPED as the first does. -/
def ObjsKept (s t : State) : Prop := ∀ a b, a ≠ Obj.RING_DROPPED → t.obj a b = s.obj a b

theorem ObjsKept.refl (s : State) : ObjsKept s s := fun _ _ _ => rfl

theorem ObjsKept.trans {u : State} (h : ObjsKept s t) (k : ObjsKept t u) : ObjsKept s u := fun a b n => (k a b n).trans (h a b n)

theorem ObjsKept.of_objs (h : t.objs = s.objs) : ObjsKept s t := fun a b _ => obj_of_objs h a b

theorem ObjsKept.foldl {β : Type} {f : State → β → State} (hf : ∀ s b, ObjsKept s (f s b)) (l : List β) (s : State) :
    ObjsKept s (l.foldl f s) := by
  induction l generalizing s with
  | nil => exact .refl s
  | cons b t ih => exact (hf s b).trans (ih _)

theorem ringPut_objs (s : State) (r kind flags : Nat) (time : Int) (body : List Byte) :
    ObjsKept s (ringPut s r kind flags time body).1 := by
  unfold ringPut
  extract_lets g cap gapNeed need fits
  split
  · exact .refl s
  · split
    · exact .of_objs rfl
    · split
      · exact fun a b h => (obj_of_objs (s := s.incSat Obj.RING_DROPPED r) rfl a b).trans
          (obj_incSat_other 1 fun e => h e.1)
      · exact .of_objs rfl

theorem logEvent_objs (s : State) (code lobe : Nat) (d : Bool) (time : Int) (data : List EvItem) :
    ObjsKept s (logEvent s code lobe d time data).1 := by
  unfold logEvent
  extract_lets e due
  have : ∀ (l : List Nat) (p : State × List (Nat × List EvItem)), ObjsKept p.1 (l.foldl (ringEvent e) p).1 := by
    intro l
    induction l with
    | nil => exact fun p => .refl _
    | cons r t ih =>
      intro p
      refine .trans ?_ (ih _)
      unfold ringEvent
      split
      · exact ringPut_objs _ _ _ _ _ _
      · exact .refl _
  exact (ObjsKept.of_objs (t := noteEvent s e) rfl).trans (this _ _)

theorem logFollow_objs (time : Int) (n : Nat) (l : List (Nat × List EvItem)) (s : State) : ObjsKept s (logFollow time n l s) := by
  induction n generalizing l s with
  | zero => cases l <;> exact .refl s
  | succ n ih =>
    cases l with
    | nil => exact .refl s
    | cons m t => exact (logEvent_objs s m.1 0xFF false time m.2).trans (ih _ _)

theorem raise_objs (s : State) (code lobe : Nat) (data : List EvItem) : ObjsKept s (raise s code lobe data) := by
  unfold raise
  split
  · exact (logEvent_objs _ _ _ _ _ _).trans (logFollow_objs _ _ _ _)
  · exact .of_objs rfl

/-- An event leaves every object but RING_DROPPED as it reads. -/
theorem raise_obj (h : a ≠ Obj.RING_DROPPED) (s : State) (code lobe : Nat) (data : List EvItem) :
    (raise s code lobe data).obj a b = s.obj a b := raise_objs s code lobe data a b h

theorem raiseA_obj (h : a ≠ Obj.RING_DROPPED) (s : State) (code : Nat) (data : List EvItem) :
    (raiseA s code data).obj a b = s.obj a b := raise_obj h _ _ _ _

theorem raiseS_obj (h : a ≠ Obj.RING_DROPPED) (s : State) (code : Nat) (data : List EvItem) :
    (raiseS s code data).obj a b = s.obj a b := raise_obj h _ _ _ _

theorem ObjsKept.ite {u : State} {p : Prop} [Decidable p] (h : ObjsKept s t) (k : ObjsKept s u) :
    ObjsKept s (if p then t else u) := by
  split <;> assumption

theorem ObjsKept.exSet {x : Exvan} (h : ObjsKept s t) : ObjsKept s { t with ex := x } := h

theorem ObjsKept.raiseA {code : Nat} {data : List EvItem} (h : ObjsKept s t) : ObjsKept s (raiseA t code data) :=
  h.trans (raise_objs _ _ _ _)

theorem noteGroupSeq_objs (s : State) : ObjsKept s (noteGroupSeq s) := by
  have hi : ∀ (p : Prop) [Decidable p] (t : State) (c : Nat) (d : List EvItem),
      ObjsKept s t → ObjsKept s (if p then Machine.raiseA t c d else t) := fun p _ t c d ht => .ite ht.raiseA ht
  unfold noteGroupSeq
  extract_lets n low x t u
  have hu : ObjsKept s u := hi _ _ _ _ (.exSet (.refl s))
  exact .ite (.raiseA (.exSet hu)) hu

theorem takeGroupSeq_objs (s : State) : ObjsKept s (takeGroupSeq s) :=
  .trans (.exSet (.refl s)) (noteGroupSeq_objs _)

theorem sendTo_objs (s : State) (source : Nat) (o : Option Origin) (p : List Byte) : ObjsKept s (sendTo s source o p) := by
  unfold sendTo
  split
  · exact .refl s
  · exact .ite (.exSet (.refl s)) (.exSet (.refl s))

theorem sendAnswer_objs (s : State) (source : Nat) (a : Answer) : ObjsKept s (sendAnswer s source a) :=
  .trans (.exSet (.refl s)) (sendTo_objs _ _ _ _)

/-- An answer leaves every object but RING_DROPPED as it reads. -/
theorem answerFrom_objs (k : Nat) (c : Bool) (s : State) (sess req addr sel : Nat) (r : Reply) :
    ObjsKept s (answerFrom k c s sess req addr sel r) := by
  unfold answerFrom
  split
  · exact .trans (sendAnswer_objs _ _ _) (.of_objs rfl)
  · refine .ite ?_ (.refl _)
    unfold groupAnswer
    exact .ite (.trans (sendAnswer_objs _ _ _) (takeGroupSeq_objs _)) (.ite (.exSet (.refl s)) (.refl s))

theorem answer_objs (s : State) (sess req addr sel : Nat) (r : Reply) : ObjsKept s (answer s sess req addr sel r) :=
  answerFrom_objs 3 _ s sess req addr sel r

end Sys2Proof.Laws
end

