-- ==== Sys2Proof/Laws/Opens.lean ====
section
/-!
SUPPORT. The operations that leave every open session open, so that what they acknowledge is answered: events, grants, stores and
what the commands do on their way to an answer.
-/

-- One proof at a time: side by side they ask for more threads than the memory limit of a check allows.
set_option Elab.async false

namespace Sys2Proof.Laws

open Sys2Proof Sys2Proof.Machine


/-- A session with this number is open. -/
def openIn (s : State) (n : Nat) : Prop := ∃ p ∈ s.ex.sessions, p.2.num = n

/-- Every session open in the first state is open in the second. -/
def Opens (s t : State) : Prop := ∀ n, openIn s n → openIn t n

def Opens1 {α : Type} (s : State) (p : State × α) : Prop := Opens s p.1

def Opens2 {α : Type} (s : State) (p : α × State) : Prop := Opens s p.2

section

variable {s t u : State}

theorem Opens.refl (s : State) : Opens s s := fun _ h => h

theorem Opens.trans (h : Opens s t) (k : Opens t u) : Opens s u := fun n hn => k n (h n hn)

theorem Opens.step (k : Opens t u) (h : Opens s t) : Opens s u := h.trans k

theorem Opens.upd (e : u.ex.sessions = t.ex.sessions) (h : Opens s t) : Opens s u := by
  intro n hn
  obtain ⟨p, hp, k⟩ := h n hn
  exact ⟨p, by rw [e]; exact hp, k⟩

theorem Opens.frame {m : List Comp} (k : Frame m t u) (hm : m.contains .ex = false) (h : Opens s t) : Opens s u :=
  .upd (by rw [k.ex hm]) h

theorem Opens.ite {p : Prop} [Decidable p] (h : Opens s t) (k : Opens s u) : Opens s (if p then t else u) := by
  split <;> assumption

theorem Opens.foldl {β : Type} {f : State → β → State} {l : List β} (hf : ∀ s b, Opens s (f s b)) (h : Opens s t) :
    Opens s (l.foldl f t) := by
  induction l generalizing t with
  | nil => exact h
  | cons b l ih => exact ih (h.trans (hf t b))

theorem Opens1.step {α : Type} {p : State × α} (k : Opens1 t p) (h : Opens s t) : Opens1 s p := Opens.trans h k

theorem Opens1.frame {α : Type} {p : State × α} {m : List Comp} (k : Frame1 m t p) (hm : m.contains .ex = false) (h : Opens s t) :
    Opens1 s p := Opens.frame k hm h

theorem Opens2.frame {α : Type} {p : α × State} {m : List Comp} (k : Frame2 m t p) (hm : m.contains .ex = false) (h : Opens s t) :
    Opens2 s p := Opens.frame k hm h

theorem Opens1.ite {α : Type} {p : Prop} [Decidable p] {t u : State × α} (h : Opens1 s t) (k : Opens1 s u) :
    Opens1 s (if p then t else u) := by
  split <;> assumption

theorem Opens1.pair {α : Type} {a : α} (h : Opens s t) : Opens1 s (t, a) := h

theorem Opens2.ite {α : Type} {p : Prop} [Decidable p] {t u : α × State} (h : Opens2 s t) (k : Opens2 s u) :
    Opens2 s (if p then t else u) := by
  split <;> assumption

theorem Opens2.pair {α : Type} {a : α} (h : Opens s t) : Opens2 s (a, t) := h

theorem Opens.of1 {α : Type} {p : State × α} (h : Opens1 s p) : Opens s p.1 := h

theorem Opens.of2 {α : Type} {p : α × State} (h : Opens2 s p) : Opens s p.2 := h

theorem Opens.fst {α : Type} {p : State × α} {a : α} (e : p = (t, a)) (h : Opens1 s p) : Opens s t := by
  subst e; exact h

theorem Opens.snd {α : Type} {p : α × State} {a : α} (e : p = (a, t)) (h : Opens2 s p) : Opens s t := by
  subst e; exact h

theorem Opens.set_net {v0} (h : Opens s t) : Opens s { t with net := v0 } := h

theorem Opens.set_dev {v0} (h : Opens s t) : Opens s { t with dev := v0 } := h

theorem Opens.set_steady {v0} (h : Opens s t) : Opens s { t with steady := v0 } := h

theorem Opens.set_mat {v0} (h : Opens s t) : Opens s { t with mat := v0 } := h

theorem Opens.set_loops {v0} (h : Opens s t) : Opens s { t with loops := v0 } := h

theorem Opens.set_lobes {v0} (h : Opens s t) : Opens s { t with lobes := v0 } := h

theorem Opens.set_cal {v0} (h : Opens s t) : Opens s { t with cal := v0 } := h

theorem Opens.set_lib {v0} (h : Opens s t) : Opens s { t with lib := v0 } := h

theorem Opens.set_dev_drv {v0} {v1} (h : Opens s t) : Opens s { t with dev := v0, drv := v1 } := h

theorem Opens.set_com {v0} (h : Opens s t) : Opens s { t with com := v0 } := h

theorem Opens.set_dev_time {v0} {v1} (h : Opens s t) : Opens s { t with dev := v0, time := v1 } := h

theorem Opens.set_drv {v0} (h : Opens s t) : Opens s { t with drv := v0 } := h

theorem Opens.set_ex {v0 : Exvan} (e : v0.sessions = t.ex.sessions) (h : Opens s t) : Opens s { t with ex := v0 } := .upd e h

theorem Opens.set_ex_com {v0 : Exvan} {v1} (e : v0.sessions = t.ex.sessions) (h : Opens s t) : Opens s { t with ex := v0, com := v1 } := .upd e h

theorem Opens.set_ex_loops_cal_com {v0 : Exvan} {v1} {v2} {v3} (e : v0.sessions = t.ex.sessions) (h : Opens s t) : Opens s { t with ex := v0, loops := v1, cal := v2, com := v3 } := .upd e h

theorem Opens.set_fab {v0} (h : Opens s t) : Opens s { t with fab := v0 } := h

theorem Opens.set_mon {v0} (h : Opens s t) : Opens s { t with mon := v0 } := h

theorem Opens.set_sorus {v0} (h : Opens s t) : Opens s { t with sorus := v0 } := h

theorem Opens.set_staged {v0} (h : Opens s t) : Opens s { t with staged := v0 } := h

theorem Opens.set_steady_mon {v0} {v1} (h : Opens s t) : Opens s { t with steady := v0, mon := v1 } := h

theorem Opens.set_therm {v0} (h : Opens s t) : Opens s { t with therm := v0 } := h

theorem Opens.set_tick_dev {v0} {v1} (h : Opens s t) : Opens s { t with tick := v0, dev := v1 } := h

theorem Opens.set_time {v0} (h : Opens s t) : Opens s { t with time := v0 } := h

theorem Opens.set_steady_fab {v0} {v1} (h : Opens s t) : Opens s { t with steady := v0, fab := v1 } := h

end

theorem openIn_iff (s : State) (n : Nat) : openIn s n ↔ ∃ i x, s.session n = some (i, x) := by
  unfold State.session openIn
  constructor
  · rintro ⟨p, hp, hn⟩
    cases h : s.ex.sessions.find? fun p => p.2.num == n with
    | none => exact absurd hn (by simpa using List.find?_eq_none.mp h p hp)
    | some q => exact ⟨q.1, q.2, rfl⟩
  · rintro ⟨i, x, h⟩
    exact ⟨(i, x), List.mem_of_find?_eq_some h, by simpa using List.find?_some h⟩

theorem openIn_mmap {s t : State} {f : Nat → Session → Session} (hf : ∀ i x, (f i x).num = x.num)
    (h : t.ex.sessions = mmap f s.ex.sessions) : Opens s t := by
  have hm : ∀ (l : SMap Session) (p : Nat × Session), p ∈ l → (p.1, f p.1 p.2) ∈ mmap f l := by
    intro l
    induction l with
    | nil => intro p hp; cases hp
    | cons q l ih =>
      intro p hp
      rcases List.mem_cons.mp hp with rfl | hp
      · exact List.mem_cons_self ..
      · exact List.mem_cons_of_mem _ (ih p hp)
  rintro n ⟨p, hp, hn⟩
  exact ⟨(p.1, f p.1 p.2), by rw [h]; exact hm _ p hp, by rw [hf]; exact hn⟩

theorem State.fresh_opens (s : State) : Opens2 s (State.fresh s) := by
  unfold State.fresh
  refine .pair ?_
  refine .set_ex rfl ?_
  exact .refl _

theorem noteEvent_opens (s : State) (e : EvRec) : Opens s (noteEvent s e) :=
  openIn_mmap (fun i x => by
    unfold Session.deliver
    split
    · split <;> rfl
    · rfl) rfl

theorem logEvent_opens (s : State) (code lobe : Nat) (d : Bool) (time : Int) (data : List EvItem) :
    Opens1 s (logEvent s code lobe d time data) := by
  unfold logEvent
  refine .frame (t := noteEvent s (s.eventRec code lobe d time data)) (m := [.objs, .sorus]) ?_ (by decide) (noteEvent_opens _ _)
  refine Frame.of1 (Frame1.foldl (fun p b => ringEvent_frame _ p b) (.refl _))

theorem logFollow_opens (time : Int) (n : Nat) (l : List (Nat × List EvItem)) (s : State) : Opens s (logFollow time n l s) := by
  induction n generalizing l s with
  | zero => cases l <;> exact .refl _
  | succ n ih =>
    cases l with
    | nil => exact .refl _
    | cons m t => exact .trans (.of1 (logEvent_opens _ _ _ _ _ _)) (ih _ _)

theorem logAll_opens (s : State) (code lobe : Nat) (d : Bool) (time : Int) (data : List EvItem) :
    Opens s (logAll s code lobe d time data) :=
  .trans (.of1 (logEvent_opens _ _ _ _ _ _)) (logFollow_opens _ _ _ _)

theorem raise_opens (s : State) (code lobe : Nat) (data : List EvItem) : Opens s (raise s code lobe data) := by
  unfold raise
  split
  · exact logAll_opens _ _ _ _ _ _
  · exact .upd rfl (.refl _)

theorem raiseA_opens (s : State) (code : Nat) (data : List EvItem) : Opens s (raiseA s code data) := by
  unfold raiseA
  refine .step (raise_opens _ _ _ _) ?_
  exact .refl _

theorem raiseS_opens (s : State) (code : Nat) (data : List EvItem) : Opens s (raiseS s code data) := by
  unfold raiseS
  refine .step (raise_opens _ _ _ _) ?_
  exact .refl _

theorem fallback_opens (s : State) (n : Nat) : Opens s (fallback s n) := by
  unfold fallback
  refine .step (raiseA_opens _ _ _) ?_
  refine .frame (State.incSat_frame _ _ _ _) (by decide) ?_
  refine .frame (State.setObj_frame _ _ _ _) (by decide) ?_
  refine .frame (State.setObjN_frame _ _ _ _) (by decide) ?_
  refine .frame (State.setObj_frame _ _ _ _) (by decide) ?_
  refine .frame (State.setFunc_frame _ _ _) (by decide) ?_
  exact .refl _

theorem steadyDecides_opens (s : State) (kind : Nat) : Opens1 s (steadyDecides s kind) := by
  unfold steadyDecides
  refine .ite ?_ ?_
  · refine .pair ?_
    exact .refl _
  · refine .ite ?_ ?_
    · refine .pair ?_
      exact .refl _
    · refine .ite ?_ ?_
      · refine .pair ?_
        refine .frame (State.incSat_frame _ _ _ _) (by decide) ?_
        refine .set_steady ?_
        exact .refl _
      · refine .pair ?_
        refine .frame (showSteady_frame _) (by decide) ?_
        refine .frame (State.fault_frame _ _) (by decide) ?_
        refine .step (raiseS_opens _ _ _) ?_
        refine .set_steady ?_
        refine .set_steady ?_
        exact .refl _

theorem grantNow_opens (s : State) (r : GReq) : Opens1 s (grantNow s r) := by
  unfold grantNow
  split
  refine .ite ?_ ?_
  · refine .pair ?_
    refine .frame (issueGrant_frame _ _) (by decide) ?_
    refine .fst (by assumption) ?_
    refine .step (steadyDecides_opens _ _) ?_
    exact .refl _
  · refine .pair ?_
    refine .frame (State.incSat_frame _ _ _ _) (by decide) ?_
    refine .fst (by assumption) ?_
    refine .step (steadyDecides_opens _ _) ?_
    exact .refl _

theorem decideNow_opens (s : State) (kind : Nat) (fits : State → Bool) : Opens1 s (decideNow s kind fits) := by
  unfold decideNow
  split
  refine .ite ?_ ?_
  · refine .pair ?_
    refine .fst (by assumption) ?_
    refine .step (steadyDecides_opens _ _) ?_
    exact .refl _
  · refine .pair ?_
    refine .frame (State.incSat_frame _ _ _ _) (by decide) ?_
    refine .fst (by assumption) ?_
    refine .step (steadyDecides_opens _ _) ?_
    exact .refl _

theorem serveList_opens (l : List GReq) (s : State) : Opens s (serveList l s) := by
  induction l generalizing s with
  | nil => exact .upd rfl (.refl _)
  | cons r t ih =>
    unfold serveList
    refine .ite ?_ (.upd rfl (.refl _))
    split
    have h : Opens s _ := .fst (by assumption) (.step (steadyDecides_opens _ _) (.refl _))
    exact .ite (.trans (.frame (issueGrant_frame _ _) (by decide) h) (ih _)) (.upd rfl h)

theorem serveQueue_opens (s : State) : Opens s (serveQueue s) := by
  unfold serveQueue
  refine .ite ?_ ?_
  · exact .refl _
  · refine .frame (showSteady_frame _) (by decide) ?_
    refine .step (serveList_opens _ _) ?_
    exact .refl _

theorem releaseGrant_opens (s : State) (k : GKind) (src : Nat) : Opens s (releaseGrant s k src) := by
  unfold releaseGrant
  refine .ite ?_ ?_
  · split
    refine .ite ?_ ?_
    · refine .step (serveQueue_opens _) ?_
      refine .frame (dropGrant_frame _ _ _) (by decide) ?_
      refine .fst (by assumption) ?_
      refine .step (steadyDecides_opens _ _) ?_
      exact .refl _
    · refine .frame (markReleased_frame _ _ _) (by decide) ?_
      refine .fst (by assumption) ?_
      refine .step (steadyDecides_opens _ _) ?_
      exact .refl _
  · exact .refl _

theorem ringWrite_opens (s : State) (n : Nat) (r : GReq) : Opens s (ringWrite s n r) := by
  unfold ringWrite
  refine .step (raiseS_opens _ _ _) ?_
  refine .frame (State.setObjN_frame _ _ _ _) (by decide) ?_
  refine .frame (State.setObjN_frame _ _ _ _) (by decide) ?_
  refine .frame (State.setObjN_frame _ _ _ _) (by decide) ?_
  refine .frame (State.setObj_frame _ _ _ _) (by decide) ?_
  refine .frame (State.setObjN_frame _ _ _ _) (by decide) ?_
  refine .frame (State.setObjN_frame _ _ _ _) (by decide) ?_
  refine .frame (State.setObjN_frame _ _ _ _) (by decide) ?_
  refine .frame (State.setObjN_frame _ _ _ _) (by decide) ?_
  refine .set_steady ?_
  exact .refl _

theorem refillRing_opens (l : List GReq) (s : State) : Opens s (refillRing l s) := by
  induction l generalizing s with
  | nil => exact .upd rfl (.refl _)
  | cons r t ih =>
    unfold refillRing
    split
    · exact .trans (.step (ringWrite_opens _ _ _) (.refl _)) (ih _)
    · exact .upd rfl (.refl _)

theorem refill_opens (s : State) : Opens s (refill s) := by
  unfold refill
  refine .step (refillRing_opens _ _) ?_
  exact .refl _

theorem withdraw_opens (s : State) (k : GKind) (src : Nat) : Opens s (withdraw s k src) := by
  unfold withdraw
  refine .frame (showSteady_frame _) (by decide) ?_
  refine .step (refill_opens _) ?_
  refine .foldl (fun _ _ => ?_) ?_
  · refine .frame (closeReq_frame _ _ _) (by decide) ?_
    exact .refl _
  · refine .set_steady ?_
    exact .refl _

theorem enableElem_opens (s : State) (e : Nat) : Opens s (enableElem s e) := by
  unfold enableElem
  refine .ite ?_ ?_
  · refine .step (releaseGrant_opens _ _ _) ?_
    refine .frame (State.setElem_frame _ _ _) (by decide) ?_
    exact .refl _
  · refine .frame (State.setElem_frame _ _ _) (by decide) ?_
    exact .refl _

theorem invalidate_opens (s : State) (slot : Nat) (reason : Nat) : Opens s (invalidate s slot reason) := by
  unfold invalidate
  refine .step (raiseA_opens _ _ _) ?_
  refine .frame (State.setSlot_frame _ _ _) (by decide) ?_
  exact .refl _

theorem revalidateSlot_opens (s : State) (slot : Nat) : Opens1 s (revalidateSlot s slot) := by
  unfold revalidateSlot
  refine .ite ?_ ?_
  · refine .pair ?_
    refine .frame (State.setSlot_frame _ _ _) (by decide) ?_
    refine .frame (State.slotSeal_frame _ _) (by decide) ?_
    refine .frame (State.slotWrite_frame _ _ _ _) (by decide) ?_
    exact .refl _
  · refine .ite ?_ ?_
    · refine .pair ?_
      exact .refl _
    · refine .pair ?_
      refine .step (raiseA_opens _ _ _) ?_
      refine .frame (State.setSlot_frame _ _ _) (by decide) ?_
      exact .refl _

theorem finishWriteBack_opens (s : State) : Opens s (finishWriteBack s) := by
  unfold finishWriteBack
  conv => zeta
  split
  · exact .refl _
  · refine .ite ?_ ?_
    · refine .step (invalidate_opens _ _ _) ?_
      refine .set_lib ?_
      exact .refl _
    · refine .frame (State.incSat_frame _ _ _ _) (by decide) ?_
      refine .frame (State.setSlot_frame _ _ _) (by decide) ?_
      refine .frame (mergeLatch_frame _ _) (by decide) ?_
      refine .set_lib ?_
      exact .refl _

theorem awaitWriteBack_opens (s : State) (slot : Nat) : Opens s (awaitWriteBack s slot) := by
  unfold awaitWriteBack
  split
  · refine .ite ?_ ?_
    · refine .step (finishWriteBack_opens _) ?_
      exact .refl _
    · exact .refl _
  · exact .refl _

theorem queueLatch_opens (s : State) (l : Latch) : Opens s (queueLatch s l) := by
  unfold queueLatch
  refine .ite ?_ ?_
  · refine .set_lib ?_
    exact .refl _
  · refine .ite ?_ ?_
    · refine .set_lib ?_
      exact .refl _
    · refine .step (raiseA_opens _ _ _) ?_
      refine .frame (State.incSat_frame _ _ _ _) (by decide) ?_
      exact .refl _

theorem driveRefused_opens (s : State) (n : Nak) (idx : Nat) : Opens1 s (driveRefused s n idx) := by
  unfold driveRefused
  refine .pair ?_
  refine .step (raiseA_opens _ _ _) ?_
  refine .frame (State.incSat_frame _ _ _ _) (by decide) ?_
  exact .refl _

theorem effHostDrive_opens (recs : List DriveRec) (s : State) : Opens1 s (effHostDrive recs s) := by
  unfold effHostDrive
  refine .ite ?_ ?_
  · refine .pair ?_
    exact .refl _
  · conv => zeta
    split
    · refine .step (driveRefused_opens _ _ _) ?_
      exact .refl _
    · split
      refine .ite ?_ ?_
      · refine .pair ?_
        refine .set_loops ?_
        refine .frame (State.incSat_frame _ _ _ _) (by decide) ?_
        refine .fst (by assumption) ?_
        refine .step (grantNow_opens _ _) ?_
        exact .refl _
      · refine .step (driveRefused_opens _ _ _) ?_
        refine .fst (by assumption) ?_
        refine .step (grantNow_opens _ _) ?_
        exact .refl _

theorem endCal_opens (s : State) (r : CalReq) (status : Nat) (quality : Int) (flags : Nat) :
    Opens s (endCal s r status quality flags) := by
  unfold endCal
  refine .step (releaseGrant_opens _ _ _) ?_
  refine .step (withdraw_opens _ _ _) ?_
  refine .step (raiseA_opens _ _ _) ?_
  refine .frame (State.setObjN_frame _ _ _ _) (by decide) ?_
  refine .frame (State.setObj_frame _ _ _ _) (by decide) ?_
  refine .frame (State.setObjN_frame _ _ _ _) (by decide) ?_
  refine .frame (State.setObjN_frame _ _ _ _) (by decide) ?_
  refine .set_cal ?_
  exact .refl _

theorem abortCal_opens (s : State) (reason : Nat) : Opens s (abortCal s reason) := by
  unfold abortCal
  conv => zeta
  split
  · exact .refl _
  · refine .ite ?_ ?_
    · exact .refl _
    · refine .step (endCal_opens _ _ _ _ _) ?_
      refine .ite ?_ ?_
      · refine .frame (restoreCodes_frame _ _) (by decide) ?_
        refine .frame (returnBack_frame _ _) (by decide) ?_
        refine .frame (returnLanes_frame _ _) (by decide) ?_
        exact .refl _
      · refine .frame (returnBack_frame _ _) (by decide) ?_
        refine .frame (returnLanes_frame _ _) (by decide) ?_
        exact .refl _

theorem calStored_opens (s : State) : Opens s (calStored s) := by
  unfold calStored
  refine .step (raiseA_opens _ _ _) ?_
  refine .frame (State.setObj_frame _ _ _ _) (by decide) ?_
  refine .frame (State.updFlash_frame _ _) (by decide) ?_
  exact .refl _

theorem startStore_opens (s : State) (k : StoreKind) : Opens s (startStore s k) := by
  unfold startStore
  refine .ite ?_ ?_
  · refine .ite ?_ ?_
    · refine .step (calStored_opens _) ?_
      refine .ite ?_ ?_
      · refine .set_cal ?_
        exact .refl _
      · exact .refl _
    · refine .ite ?_ ?_
      · refine .set_cal ?_
        exact .refl _
      · exact .refl _
  · refine .set_dev ?_
    refine .ite ?_ ?_
    · refine .set_cal ?_
      exact .refl _
    · exact .refl _

theorem notePostponed_opens (s : State) : Opens s (notePostponed s) := by
  unfold notePostponed
  refine .ite ?_ ?_
  · exact .refl _
  · refine .step (raiseA_opens _ _ _) ?_
    refine .set_cal ?_
    exact .refl _

theorem pumpStores_opens (s : State) : Opens s (pumpStores s) := by
  unfold pumpStores
  conv => zeta
  split
  · refine .ite ?_ ?_
    · refine .step (startStore_opens _ _) ?_
      refine .set_dev ?_
      exact .refl _
    · exact .refl _
  · exact .refl _

theorem autoStore_opens (s : State) (k : StoreKind) : Opens s (autoStore s k) := by
  unfold autoStore
  refine .ite ?_ ?_
  · exact .refl _
  · refine .step (notePostponed_opens _) ?_
    refine .step (pumpStores_opens _) ?_
    refine .set_dev ?_
    exact .refl _

theorem effLoadSlot_opens (sess : Nat) (v : Int) (s : State) : Opens1 s (effLoadSlot sess v s) := by
  unfold effLoadSlot
  refine .ite ?_ ?_
  · refine .pair ?_
    exact .refl _
  · refine .pair ?_
    refine .frame (openLoad_frame _ _ _) (by decide) ?_
    refine .ite ?_ ?_
    · refine .frame (abandonLoad_frame _ _ _) (by decide) ?_
      refine .step (awaitWriteBack_opens _ _) ?_
      refine .frame (State.setObj_frame _ _ _ _) (by decide) ?_
      exact .refl _
    · refine .step (awaitWriteBack_opens _ _) ?_
      refine .frame (State.setObj_frame _ _ _ _) (by decide) ?_
      exact .refl _

theorem endRoute_opens (s : State) (slot : Nat) (status : Nat) (us : Nat) : Opens s (endRoute s slot status us) := by
  unfold endRoute
  refine .step (raiseA_opens _ _ _) ?_
  refine .frame (State.setObjN_frame _ _ _ _) (by decide) ?_
  refine .frame (State.setObjN_frame _ _ _ _) (by decide) ?_
  refine .set_lib ?_
  exact .refl _

theorem effEraseSlot_opens (sess : Nat) (v : Int) (s : State) : Opens1 s (effEraseSlot sess v s) := by
  unfold effEraseSlot
  refine .ite ?_ ?_
  · refine .pair ?_
    exact .refl _
  · refine .pair ?_
    refine .frame (State.setSlot_frame _ _ _) (by decide) ?_
    refine .frame (State.dropLoads_frame _ _) (by decide) ?_
    refine .frame (discardRefinement_frame _ _) (by decide) ?_
    refine .step (awaitWriteBack_opens _ _) ?_
    refine .frame (State.setObj_frame _ _ _ _) (by decide) ?_
    exact .refl _

theorem effRevalidate_opens (v : Int) (s : State) : Opens1 s (effRevalidate v s) := by
  unfold effRevalidate
  conv => zeta
  split
  · refine .ite ?_ ?_
    · refine .pair ?_
      refine .step (invalidate_opens _ _ _) ?_
      refine .step (awaitWriteBack_opens _ _) ?_
      exact .refl _
    · refine .pair ?_
      refine .of1 ?_
      refine .step (revalidateSlot_opens _ _) ?_
      refine .frame (State.setObj_frame _ _ _ _) (by decide) ?_
      refine .step (awaitWriteBack_opens _ _) ?_
      exact .refl _
  · refine .ite ?_ ?_
    · refine .pair ?_
      refine .step (invalidate_opens _ _ _) ?_
      refine .step (awaitWriteBack_opens _ _) ?_
      exact .refl _
    · refine .pair ?_
      refine .of1 ?_
      refine .step (revalidateSlot_opens _ _) ?_
      refine .frame (State.setObj_frame _ _ _ _) (by decide) ?_
      refine .step (awaitWriteBack_opens _ _) ?_
      exact .refl _
  · refine .pair ?_
    refine .step (awaitWriteBack_opens _ _) ?_
    exact .refl _

theorem startRoute_opens (s : State) (sess : Nat) (slot : Nat) (vector : List Nat) (exclude : List Nat) :
    Opens s (startRoute s sess slot vector exclude) := by
  unfold startRoute
  refine .ite ?_ ?_
  · refine .step (raiseA_opens _ _ _) ?_
    refine .set_lib ?_
    refine .frame (State.setObjN_frame _ _ _ _) (by decide) ?_
    refine .frame (State.setSlot_frame _ _ _) (by decide) ?_
    refine .set_lib ?_
    refine .frame (State.dropLoads_frame _ _) (by decide) ?_
    refine .frame (discardRefinement_frame _ _) (by decide) ?_
    refine .frame (atModeBoundary_frame _ _) (by decide) ?_
    refine .step (awaitWriteBack_opens _ _) ?_
    exact .refl _
  · refine .frame (State.setObjN_frame _ _ _ _) (by decide) ?_
    refine .frame (State.setSlot_frame _ _ _) (by decide) ?_
    refine .set_lib ?_
    refine .frame (State.dropLoads_frame _ _) (by decide) ?_
    refine .frame (discardRefinement_frame _ _) (by decide) ?_
    refine .frame (atModeBoundary_frame _ _) (by decide) ?_
    refine .step (awaitWriteBack_opens _ _) ?_
    exact .refl _

theorem effRouteApply_opens (sess : Nat) (s : State) : Opens1 s (effRouteApply sess s) := by
  unfold effRouteApply
  refine .ite ?_ ?_
  · refine .pair ?_
    exact .refl _
  · refine .ite ?_ ?_
    · refine .pair ?_
      exact .refl _
    · refine .ite ?_ ?_
      · refine .pair ?_
        refine .step (endRoute_opens _ _ _ _) ?_
        refine .frame (State.incWrap_frame _ _ _) (by decide) ?_
        exact .refl _
      · refine .ite ?_ ?_
        · refine .pair ?_
          exact .refl _
        · refine .pair ?_
          refine .step (startRoute_opens _ _ _ _ _) ?_
          refine .frame (takeRequest_frame _) (by decide) ?_
          refine .frame (State.incWrap_frame _ _ _) (by decide) ?_
          exact .refl _

theorem effRefineDecide_opens (b : Nat) (v : Int) (s : State) : Opens1 s (effRefineDecide b v s) := by
  unfold effRefineDecide
  conv => zeta
  split
  · refine .pair ?_
    exact .refl _
  · refine .ite ?_ ?_
    · refine .pair ?_
      refine .step (queueLatch_opens _ _) ?_
      refine .frame (State.setObj_frame _ _ _ _) (by decide) ?_
      refine .frame (State.dropBuf_frame _ _) (by decide) ?_
      exact .refl _
    · refine .pair ?_
      refine .frame (State.incSat_frame _ _ _ _) (by decide) ?_
      refine .frame (State.setObj_frame _ _ _ _) (by decide) ?_
      refine .frame (State.dropBuf_frame _ _) (by decide) ?_
      exact .refl _

theorem spanEndsWrap_opens (s : State) (e : Nat) : Opens s (spanEndsWrap s e) := by
  unfold spanEndsWrap
  refine .ite ?_ ?_
  · refine .step (releaseGrant_opens _ _ _) ?_
    refine .step (withdraw_opens _ _ _) ?_
    refine .frame (State.setElem_frame _ _ _) (by decide) ?_
    exact .refl _
  · exact .refl _

theorem effSpanApply_opens (s : State) : Opens1 s (effSpanApply s) := by
  unfold effSpanApply
  refine .ite ?_ ?_
  · refine .pair ?_
    exact .refl _
  · refine .ite ?_ ?_
    · refine .pair ?_
      exact .refl _
    · refine .ite ?_ ?_
      · refine .pair ?_
        exact .refl _
      · refine .pair ?_
        refine .step (raiseA_opens _ _ _) ?_
        refine .foldl (fun _ _ => ?_) ?_
        · refine .frame (reconvert_frame _ _) (by decide) ?_
          exact .refl _
        · refine .foldl (fun _ _ => ?_) ?_
          · refine .frame (startSpanSeq_frame _ _ _ _) (by decide) ?_
            refine .frame (noteWrite_frame _ _) (by decide) ?_
            exact .refl _
          · refine .foldl (fun _ _ => ?_) ?_
            · refine .step (spanEndsWrap_opens _ _) ?_
              exact .refl _
            · refine .frame (State.applyStaged_frame _ _) (by decide) ?_
              refine .of1 ?_
              refine .step (steadyDecides_opens _ _) ?_
              refine .foldl (fun _ _ => ?_) ?_
              · refine .frame (noteRefused_frame _ _) (by decide) ?_
                exact .refl _
              · exact .refl _

theorem storePage_opens (s : State) (p : SafePage) : Opens s (storePage s p) := by
  unfold storePage
  refine .step (startStore_opens _ _) ?_
  refine .set_dev_drv ?_
  exact .refl _

theorem pageCommand_opens (s : State) (p : SafePage) : Opens1 s (pageCommand s p) := by
  unfold pageCommand
  refine .ite ?_ ?_
  · refine .pair ?_
    exact .refl _
  · refine .ite ?_ ?_
    · refine .pair ?_
      exact .refl _
    · split
      refine .ite ?_ ?_
      · refine .pair ?_
        refine .step (storePage_opens _ _) ?_
        refine .fst (by assumption) ?_
        refine .step (decideNow_opens _ _ _) ?_
        exact .refl _
      · refine .pair ?_
        refine .fst (by assumption) ?_
        refine .step (decideNow_opens _ _ _) ?_
        exact .refl _

theorem effSafeRevert_opens (s : State) : Opens1 s (effSafeRevert s) := by
  unfold effSafeRevert
  refine .step (pageCommand_opens _ _) ?_
  exact .refl _

theorem powerBank_opens (s : State) (mb : Nat) (v : Int) : Opens s (powerBank s mb v) := by
  unfold powerBank
  refine .step (raiseA_opens _ _ _) ?_
  refine .ite ?_ ?_
  · refine .frame (resetGains_frame _ _) (by decide) ?_
    refine .frame (State.setMonBank_frame _ _ _) (by decide) ?_
    exact .refl _
  · refine .frame (State.setMonBank_frame _ _ _) (by decide) ?_
    exact .refl _

theorem effBankPower_opens (mb : Nat) (v : Int) (s : State) : Opens1 s (effBankPower mb v s) := by
  unfold effBankPower
  refine .ite ?_ ?_
  · refine .pair ?_
    exact .refl _
  · refine .ite ?_ ?_
    · refine .pair ?_
      exact .refl _
    · refine .pair ?_
      refine .frame (refFollow_frame _ _) (by decide) ?_
      refine .step (powerBank_opens _ _ _) ?_
      refine .frame (State.setObj_frame _ _ _ _) (by decide) ?_
      exact .refl _

theorem finishItem_opens (s : State) (r : CalRun) (out : CalResult) : Opens s (finishItem s r out) := by
  unfold finishItem
  refine .ite ?_ ?_
  · refine .step (releaseGrant_opens _ _ _) ?_
    refine .frame (State.putRun_frame _ _) (by decide) ?_
    refine .set_cal ?_
    exact .refl _
  · refine .step (endCal_opens _ _ _ _ _) ?_
    refine .set_cal ?_
    exact .refl _

theorem effCalAccept_opens (v : Int) (s : State) : Opens1 s (effCalAccept v s) := by
  unfold effCalAccept
  split
  · refine .pair ?_
    exact .refl _
  · refine .ite ?_ ?_
    · refine .pair ?_
      refine .step (finishItem_opens _ _ _) ?_
      exact .refl _
    · refine .pair ?_
      refine .step (endCal_opens _ _ _ _ _) ?_
      exact .refl _

theorem effCalAbort_opens (s : State) : Opens1 s (effCalAbort s) := by
  unfold effCalAbort
  refine .pair ?_
  refine .step (abortCal_opens _ _) ?_
  refine .set_cal ?_
  exact .refl _

theorem effCalStore_opens (s : State) : Opens1 s (effCalStore s) := by
  unfold effCalStore
  refine .ite ?_ ?_
  · refine .pair ?_
    exact .refl _
  · refine .ite ?_ ?_
    · refine .pair ?_
      exact .refl _
    · refine .pair ?_
      refine .step (startStore_opens _ _) ?_
      refine .set_cal ?_
      exact .refl _

theorem effSteadyReset_opens (s : State) : Opens1 s (effSteadyReset s) := by
  unfold effSteadyReset
  refine .ite ?_ ?_
  · refine .pair ?_
    exact .refl _
  · refine .pair ?_
    refine .frame (showSteady_frame _) (by decide) ?_
    refine .step (refill_opens _) ?_
    refine .foldl (fun _ _ => ?_) ?_
    · split
      · refine .ite ?_ ?_
        · refine .step (abortCal_opens _ _) ?_
          exact .refl _
        · exact .refl _
      · exact .refl _
    · refine .frame (State.unfault_frame _ _) (by decide) ?_
      refine .frame (rebuildHeat_frame _) (by decide) ?_
      refine .set_steady ?_
      refine .foldl (fun _ _ => ?_) ?_
      · refine .frame (closeReq_frame _ _ _) (by decide) ?_
        exact .refl _
      · exact .refl _

theorem abortBurst_opens (s : State) (i : Nat) (t : Nat) (written : Nat) (abandoned : Nat) (cause : Nat) :
    Opens s (abortBurst s i t written abandoned cause) := by
  unfold abortBurst
  refine .step (raiseS_opens _ _ _) ?_
  refine .frame (State.incSat_frame _ _ _ _) (by decide) ?_
  exact .refl _

theorem initEnd_opens (s : State) (i : Nat) (cause : Nat) : Opens s (initEnd s i cause) := by
  unfold initEnd
  refine .foldl (fun _ _ => ?_) ?_
  · refine .step (abortBurst_opens _ _ _ _ _ _) ?_
    exact .refl _
  · refine .frame (clearPort_frame _ _) (by decide) ?_
    refine .frame (releaseLock_frame _ _) (by decide) ?_
    exact .refl _

theorem initReset_opens (s : State) (i : Nat) : Opens s (initReset s i) := by
  unfold initReset
  refine .step (initEnd_opens _ _ _) ?_
  exact .refl _

theorem loseRequests_opens (s : State) : Opens s (loseRequests s) :=
  openIn_mmap (f := fun _ x => { x with objectLane := [], commitLane := [] }) (fun _ _ => rfl) rfl

theorem setRole_opens (s : State) (l : Nat) (r : Role) : Opens s (setRole s l r) := by
  unfold setRole
  refine .ite ?_ ?_
  · exact .refl _
  · refine .frame (judgeLobes_frame _) (by decide) ?_
    refine .step (raise_opens _ _ _ _) ?_
    refine .ite ?_ ?_
    · refine .step (loseRequests_opens _) ?_
      refine .ite ?_ ?_
      · refine .set_lobes ?_
        refine .frame (State.setLobe_frame _ _ _) (by decide) ?_
        exact .refl _
      · refine .frame (State.setLobe_frame _ _ _) (by decide) ?_
        exact .refl _
    · refine .ite ?_ ?_
      · refine .set_lobes ?_
        refine .frame (State.setLobe_frame _ _ _) (by decide) ?_
        exact .refl _
      · refine .frame (State.setLobe_frame _ _ _) (by decide) ?_
        exact .refl _

theorem toOffline_opens (s : State) (l : Nat) (reason : Nat) : Opens s (toOffline s l reason) := by
  unfold toOffline
  refine .ite ?_ ?_
  · refine .ite ?_ ?_
    · exact .refl _
    · refine .frame (quietLobe_frame _ _) (by decide) ?_
      exact .refl _
  · refine .step (raise_opens _ _ _ _) ?_
    refine .frame (State.setLobe_frame _ _ _) (by decide) ?_
    refine .step (setRole_opens _ _ _) ?_
    refine .ite ?_ ?_
    · exact .refl _
    · refine .frame (quietLobe_frame _ _) (by decide) ?_
      exact .refl _

theorem rollBack_opens (s : State) (cause : Nat) : Opens s (rollBack s cause) := by
  unfold rollBack
  refine .ite ?_ ?_
  · exact .refl _
  · refine .step (autoStore_opens _ _) ?_
    refine .set_dev ?_
    exact .refl _

theorem effRulesStore_opens (s : State) : Opens1 s (effRulesStore s) := by
  unfold effRulesStore
  refine .ite ?_ ?_
  · refine .pair ?_
    exact .refl _
  · refine .ite ?_ ?_
    · refine .pair ?_
      exact .refl _
    · refine .pair ?_
      refine .step (startStore_opens _ _) ?_
      exact .refl _

theorem applyNet_opens (s : State) : Opens s (applyNet s) := by
  unfold applyNet
  refine .step (raiseS_opens _ _ _) ?_
  refine .ite ?_ ?_
  · refine .foldl (fun _ _ => ?_) ?_
    · refine .frame (sendReports_frame _ _ _ _) (by decide) ?_
      exact .refl _
    · refine .foldl (fun _ _ => ?_) ?_
      · refine .frame (sendOwn_frame _ _ _) (by decide) ?_
        exact .refl _
      · refine .frame (setRoles_frame _ _) (by decide) ?_
        refine .foldl (fun _ _ => ?_) ?_
        · refine .frame (State.applyStaged_frame _ _) (by decide) ?_
          exact .refl _
        · refine .set_net ?_
          exact .refl _
  · refine .frame (announceNow_frame _) (by decide) ?_
    refine .foldl (fun _ _ => ?_) ?_
    · refine .frame (sendOwn_frame _ _ _) (by decide) ?_
      exact .refl _
    · refine .frame (setRoles_frame _ _) (by decide) ?_
      refine .foldl (fun _ _ => ?_) ?_
      · refine .frame (State.applyStaged_frame _ _) (by decide) ?_
        exact .refl _
      · refine .set_net ?_
        exact .refl _

theorem effNetApply_opens (s : State) : Opens1 s (effNetApply s) := by
  unfold effNetApply
  refine .ite ?_ ?_
  · refine .pair ?_
    exact .refl _
  · refine .ite ?_ ?_
    · refine .pair ?_
      refine .set_net ?_
      exact .refl _
    · refine .pair ?_
      refine .step (applyNet_opens _) ?_
      exact .refl _

theorem setServo_opens (s : State) (v : Servo) : Opens s (setServo s v) := by
  unfold setServo
  refine .ite ?_ ?_
  · exact .refl _
  · refine .step (raiseA_opens _ _ _) ?_
    refine .frame (State.setObjN_frame _ _ _ _) (by decide) ?_
    refine .frame (State.updTime_frame _ _) (by decide) ?_
    exact .refl _

theorem confirmTrial_opens (s : State) : Opens s (confirmTrial s) := by
  unfold confirmTrial
  conv => zeta
  split
  · exact .refl _
  · refine .step (autoStore_opens _ _) ?_
    refine .set_dev ?_
    exact .refl _

theorem effParkStore_opens (v : Int) (s : State) : Opens1 s (effParkStore v s) := by
  unfold effParkStore
  refine .ite ?_ ?_
  · refine .pair ?_
    exact .refl _
  · refine .pair ?_
    refine .step (autoStore_opens _ _) ?_
    refine .frame (State.setObj_frame _ _ _ _) (by decide) ?_
    exact .refl _

theorem effParkClear_opens (s : State) : Opens1 s (effParkClear s) := by
  unfold effParkClear
  refine .pair ?_
  refine .step (autoStore_opens _ _) ?_
  exact .refl _

theorem effConfigStore_opens (s : State) : Opens1 s (effConfigStore s) := by
  unfold effConfigStore
  refine .ite ?_ ?_
  · refine .pair ?_
    exact .refl _
  · refine .ite ?_ ?_
    · refine .pair ?_
      exact .refl _
    · refine .pair ?_
      refine .step (startStore_opens _ _) ?_
      exact .refl _

theorem effFwData_opens (n : Nat) (bytes : List Byte) (s : State) : Opens1 s (effFwData n bytes s) := by
  unfold effFwData
  conv => zeta
  split
  · refine .pair ?_
    exact .refl _
  · refine .ite ?_ ?_
    · refine .pair ?_
      exact .refl _
    · refine .pair ?_
      refine .step (autoStore_opens _ _) ?_
      refine .frame (State.setFwBank_frame _ _ _) (by decide) ?_
      exact .refl _

theorem effFwVerify_opens (sigOk : Bool) (s : State) : Opens1 s (effFwVerify sigOk s) := by
  unfold effFwVerify
  conv => zeta
  split
  · refine .pair ?_
    exact .refl _
  · refine .ite ?_ ?_
    · refine .pair ?_
      exact .refl _
    · refine .ite ?_ ?_
      · split
        refine .pair ?_
        refine .frame (State.setFwBank_frame _ _ _) (by decide) ?_
        refine .snd (by assumption) ?_
        refine .step (State.fresh_opens _) ?_
        refine .set_dev ?_
        exact .refl _
      · refine .pair ?_
        refine .frame (State.setFwBank_frame _ _ _) (by decide) ?_
        refine .set_dev ?_
        exact .refl _

theorem effFwActivate_opens (v : Int) (s : State) : Opens1 s (effFwActivate v s) := by
  unfold effFwActivate
  conv => zeta
  split
  · refine .pair ?_
    exact .refl _
  · refine .ite ?_ ?_
    · refine .pair ?_
      exact .refl _
    · refine .ite ?_ ?_
      · refine .pair ?_
        exact .refl _
      · refine .ite ?_ ?_
        · refine .pair ?_
          exact .refl _
        · refine .ite ?_ ?_
          · refine .pair ?_
            exact .refl _
          · refine .pair ?_
            refine .step (autoStore_opens _ _) ?_
            refine .set_dev ?_
            exact .refl _

theorem effFwConfirm_opens (s : State) : Opens1 s (effFwConfirm s) := by
  unfold effFwConfirm
  refine .ite ?_ ?_
  · refine .pair ?_
    refine .step (confirmTrial_opens _) ?_
    exact .refl _
  · refine .pair ?_
    exact .refl _

theorem effFwRollback_opens (s : State) : Opens1 s (effFwRollback s) := by
  unfold effFwRollback
  refine .ite ?_ ?_
  · refine .pair ?_
    refine .step (rollBack_opens _ _) ?_
    exact .refl _
  · refine .pair ?_
    exact .refl _

theorem restartGroup_opens (s : State) : Opens s (restartGroup s) := by
  unfold restartGroup
  refine .step (autoStore_opens _ _) ?_
  refine .set_ex rfl ?_
  exact .refl _

theorem rotateKey_opens (s : State) (k : Nat) (key : List Byte) : Opens s (rotateKey s k key) := by
  unfold rotateKey
  refine .ite ?_ ?_
  · refine .step (restartGroup_opens _) ?_
    refine .step (raiseA_opens _ _ _) ?_
    refine .frame (State.setObjN_frame _ _ _ _) (by decide) ?_
    refine .frame (State.unstage_frame _ _ _) (by decide) ?_
    refine .set_ex rfl ?_
    exact .refl _
  · refine .step (raiseA_opens _ _ _) ?_
    refine .frame (State.setObjN_frame _ _ _ _) (by decide) ?_
    refine .frame (State.unstage_frame _ _ _) (by decide) ?_
    refine .set_ex rfl ?_
    exact .refl _

theorem effKeyApply_opens (k : Nat) (s : State) : Opens1 s (effKeyApply k s) := by
  unfold effKeyApply
  split
  · refine .pair ?_
    exact .refl _
  · refine .ite ?_ ?_
    · refine .pair ?_
      exact .refl _
    · refine .ite ?_ ?_
      · refine .pair ?_
        exact .refl _
      · refine .pair ?_
        refine .step (autoStore_opens _ _) ?_
        refine .step (rotateKey_opens _ _ _) ?_
        exact .refl _

/-! ### Answers -/

theorem openIn_seen {s : State} {sess : Nat} (h : s.ready sess = true) : openIn (seen s sess) sess := by
  obtain ⟨i, x, hs, -⟩ := State.ready_iff.mp h
  obtain ⟨j, hj⟩ := session_seen hs
  exact (openIn_iff _ _).mpr ⟨j, _, hj⟩

theorem answer_open {s : State} {n : Nat} (h : openIn s n) (req addr sel : Nat) (r : Reply) :
    (answer s n req addr sel r).answered n req addr sel r ∧ Frame [.ex] s (answer s n req addr sel r) := by
  obtain ⟨i, x, hx⟩ := (openIn_iff _ _).mp h
  refine ⟨answer_answered hx req addr sel r, ?_⟩
  unfold answer answerFrom
  simp only [hx]
  exact .step (State.setSession_frame _ _ _) (by decide) (.step (sendAnswer_frame _ _ _) (by decide) (.refl _))

/-- An accepted write whose effect is an acknowledgement: it is answered ACK, and answering changes the sessions' side alone. -/
theorem hostWrite_ack {s u : State} {sess addr sel : Nat} {v : Int} {eff : State → State × Verdict}
    (h : s.accepts sess addr sel v = true) (he : eff (seen s sess) = (u, .ack)) (ho : Opens (seen s sess) u) :
    (hostWrite s sess addr sel v eff).answered sess 0 addr sel (.ack []) ∧ Frame [.ex] u (hostWrite s sess addr sel v eff) := by
  rw [hostWrite_accepts h, he]
  refine answer_open (ho _ (openIn_seen ?_)) 0 addr sel (.ack [])
  unfold State.accepts at h
  exact (Bool.and_eq_true _ _ ▸ h).1

/-- The same of a refusal. -/
theorem hostWrite_nak {s u : State} {sess addr sel : Nat} {v : Int} {eff : State → State × Verdict} {n : Nak}
    (h : s.accepts sess addr sel v = true) (he : eff (seen s sess) = (u, .nak n)) (ho : Opens (seen s sess) u) :
    (hostWrite s sess addr sel v eff).answered sess 0 addr sel (.nak n 0 (u.detailOf sess addr n)) ∧
      Frame [.ex] u (hostWrite s sess addr sel v eff) := by
  rw [hostWrite_accepts h, he]
  refine answer_open (ho _ (openIn_seen ?_)) 0 addr sel (.nak n 0 (u.detailOf sess addr n))
  unfold State.accepts at h
  exact (Bool.and_eq_true _ _ ▸ h).1

/-- An accepted write of an OCTETS object that is acknowledged. -/
theorem hostOctets_ack {s u : State} {sess addr sel : Nat} {eff : State → State × Verdict} {c : Instr}
    (hc : reqOf c = none) (h : s.acceptsOctets sess addr sel = true) (he : eff (seen s sess) = (u, .ack)) (ho : Opens (seen s sess) u) :
    (hostOctets s c sess addr sel eff).answered sess 0 addr sel (.ack []) ∧
      Frame [.ex] u (hostOctets s c sess addr sel eff) := by
  rw [hostOctets_accepts h hc, he]
  refine answer_open (ho _ (openIn_seen ?_)) 0 addr sel (.ack [])
  unfold State.acceptsOctets at h
  exact (Bool.and_eq_true _ _ ▸ h).1

/-- With a completion owed nothing is answered yet. -/
theorem hostWrite_owe {s u : State} {sess addr sel : Nat} {v : Int} {eff : State → State × Verdict} {k : OwedKind}
    (h : s.accepts sess addr sel v = true) (he : eff (seen s sess) = (u, .owe k)) :
    hostWrite s sess addr sel v eff = u.owe k sess 0 addr sel := by
  rw [hostWrite_accepts h, he]
  rfl

end Sys2Proof.Laws
end

