-- ==== Sys2Proof/Laws/Updates.lean ====
section
/-!
SUPPORT. What the updates of one record of a unit leave alone: one lemma per field per update, so that no proof unfolds them.
-/

namespace Sys2Proof.Laws

open Sys2Proof Sys2Proof.Machine

@[simp] theorem putRun_pending (s : State) (r : CalRun) : (s.putRun r).pending = s.pending := rfl
@[simp] theorem putRun_tick (s : State) (r : CalRun) : (s.putRun r).tick = s.tick := rfl
@[simp] theorem putRun_objs (s : State) (r : CalRun) : (s.putRun r).objs = s.objs := rfl
@[simp] theorem putRun_octs (s : State) (r : CalRun) : (s.putRun r).octs = s.octs := rfl
@[simp] theorem putRun_staged (s : State) (r : CalRun) : (s.putRun r).staged = s.staged := rfl
@[simp] theorem putRun_stagedOcts (s : State) (r : CalRun) : (s.putRun r).stagedOcts = s.stagedOcts := rfl
@[simp] theorem putRun_hbm (s : State) (r : CalRun) : (s.putRun r).hbm = s.hbm := rfl
@[simp] theorem putRun_dev (s : State) (r : CalRun) : (s.putRun r).dev = s.dev := rfl
@[simp] theorem putRun_ex (s : State) (r : CalRun) : (s.putRun r).ex = s.ex := rfl
@[simp] theorem putRun_funcs (s : State) (r : CalRun) : (s.putRun r).funcs = s.funcs := rfl
@[simp] theorem putRun_lobes (s : State) (r : CalRun) : (s.putRun r).lobes = s.lobes := rfl
@[simp] theorem putRun_time (s : State) (r : CalRun) : (s.putRun r).time = s.time := rfl
@[simp] theorem putRun_sorus (s : State) (r : CalRun) : (s.putRun r).sorus = s.sorus := rfl
@[simp] theorem putRun_drv (s : State) (r : CalRun) : (s.putRun r).drv = s.drv := rfl
@[simp] theorem putRun_steady (s : State) (r : CalRun) : (s.putRun r).steady = s.steady := rfl
@[simp] theorem putRun_therm (s : State) (r : CalRun) : (s.putRun r).therm = s.therm := rfl
@[simp] theorem putRun_loops (s : State) (r : CalRun) : (s.putRun r).loops = s.loops := rfl
@[simp] theorem putRun_mon (s : State) (r : CalRun) : (s.putRun r).mon = s.mon := rfl
@[simp] theorem putRun_fab (s : State) (r : CalRun) : (s.putRun r).fab = s.fab := rfl
@[simp] theorem putRun_lib (s : State) (r : CalRun) : (s.putRun r).lib = s.lib := rfl
@[simp] theorem putRun_com (s : State) (r : CalRun) : (s.putRun r).com = s.com := rfl
@[simp] theorem putRun_net (s : State) (r : CalRun) : (s.putRun r).net = s.net := rfl
@[simp] theorem putRun_mat (s : State) (r : CalRun) : (s.putRun r).mat = s.mat := rfl
@[simp] theorem putRun_active (s : State) (r : CalRun) : (s.putRun r).active = s.active := rfl
@[simp] theorem putRun_recovery (s : State) (r : CalRun) : (s.putRun r).recovery = s.recovery := rfl
@[simp] theorem putRun_scan (s : State) (r : CalRun) : (s.putRun r).scan = s.scan := rfl
@[simp] theorem putRun_ticking (s : State) (r : CalRun) : (s.putRun r).ticking = s.ticking := rfl
@[simp] theorem putRun_now (s : State) (r : CalRun) : (s.putRun r).now = s.now := rfl

@[simp] theorem setLane_pending (s : State) (c l : Nat) (x : DpLane) : (s.setLane c l x).pending = s.pending := rfl
@[simp] theorem setLane_tick (s : State) (c l : Nat) (x : DpLane) : (s.setLane c l x).tick = s.tick := rfl
@[simp] theorem setLane_objs (s : State) (c l : Nat) (x : DpLane) : (s.setLane c l x).objs = s.objs := rfl
@[simp] theorem setLane_octs (s : State) (c l : Nat) (x : DpLane) : (s.setLane c l x).octs = s.octs := rfl
@[simp] theorem setLane_staged (s : State) (c l : Nat) (x : DpLane) : (s.setLane c l x).staged = s.staged := rfl
@[simp] theorem setLane_stagedOcts (s : State) (c l : Nat) (x : DpLane) : (s.setLane c l x).stagedOcts = s.stagedOcts := rfl
@[simp] theorem setLane_hbm (s : State) (c l : Nat) (x : DpLane) : (s.setLane c l x).hbm = s.hbm := rfl
@[simp] theorem setLane_dev (s : State) (c l : Nat) (x : DpLane) : (s.setLane c l x).dev = s.dev := rfl
@[simp] theorem setLane_ex (s : State) (c l : Nat) (x : DpLane) : (s.setLane c l x).ex = s.ex := rfl
@[simp] theorem setLane_funcs (s : State) (c l : Nat) (x : DpLane) : (s.setLane c l x).funcs = s.funcs := rfl
@[simp] theorem setLane_lobes (s : State) (c l : Nat) (x : DpLane) : (s.setLane c l x).lobes = s.lobes := rfl
@[simp] theorem setLane_time (s : State) (c l : Nat) (x : DpLane) : (s.setLane c l x).time = s.time := rfl
@[simp] theorem setLane_sorus (s : State) (c l : Nat) (x : DpLane) : (s.setLane c l x).sorus = s.sorus := rfl
@[simp] theorem setLane_drv (s : State) (c l : Nat) (x : DpLane) : (s.setLane c l x).drv = s.drv := rfl
@[simp] theorem setLane_steady (s : State) (c l : Nat) (x : DpLane) : (s.setLane c l x).steady = s.steady := rfl
@[simp] theorem setLane_therm (s : State) (c l : Nat) (x : DpLane) : (s.setLane c l x).therm = s.therm := rfl
@[simp] theorem setLane_loops (s : State) (c l : Nat) (x : DpLane) : (s.setLane c l x).loops = s.loops := rfl
@[simp] theorem setLane_cal (s : State) (c l : Nat) (x : DpLane) : (s.setLane c l x).cal = s.cal := rfl
@[simp] theorem setLane_fab (s : State) (c l : Nat) (x : DpLane) : (s.setLane c l x).fab = s.fab := rfl
@[simp] theorem setLane_lib (s : State) (c l : Nat) (x : DpLane) : (s.setLane c l x).lib = s.lib := rfl
@[simp] theorem setLane_com (s : State) (c l : Nat) (x : DpLane) : (s.setLane c l x).com = s.com := rfl
@[simp] theorem setLane_net (s : State) (c l : Nat) (x : DpLane) : (s.setLane c l x).net = s.net := rfl
@[simp] theorem setLane_mat (s : State) (c l : Nat) (x : DpLane) : (s.setLane c l x).mat = s.mat := rfl
@[simp] theorem setLane_active (s : State) (c l : Nat) (x : DpLane) : (s.setLane c l x).active = s.active := rfl
@[simp] theorem setLane_recovery (s : State) (c l : Nat) (x : DpLane) : (s.setLane c l x).recovery = s.recovery := rfl
@[simp] theorem setLane_scan (s : State) (c l : Nat) (x : DpLane) : (s.setLane c l x).scan = s.scan := rfl
@[simp] theorem setLane_ticking (s : State) (c l : Nat) (x : DpLane) : (s.setLane c l x).ticking = s.ticking := rfl
@[simp] theorem setLane_now (s : State) (c l : Nat) (x : DpLane) : (s.setLane c l x).now = s.now := rfl

@[simp] theorem setConv_pending (s : State) (c : Nat) (x : Conv) : (s.setConv c x).pending = s.pending := rfl
@[simp] theorem setConv_tick (s : State) (c : Nat) (x : Conv) : (s.setConv c x).tick = s.tick := rfl
@[simp] theorem setConv_objs (s : State) (c : Nat) (x : Conv) : (s.setConv c x).objs = s.objs := rfl
@[simp] theorem setConv_octs (s : State) (c : Nat) (x : Conv) : (s.setConv c x).octs = s.octs := rfl
@[simp] theorem setConv_staged (s : State) (c : Nat) (x : Conv) : (s.setConv c x).staged = s.staged := rfl
@[simp] theorem setConv_stagedOcts (s : State) (c : Nat) (x : Conv) : (s.setConv c x).stagedOcts = s.stagedOcts := rfl
@[simp] theorem setConv_hbm (s : State) (c : Nat) (x : Conv) : (s.setConv c x).hbm = s.hbm := rfl
@[simp] theorem setConv_dev (s : State) (c : Nat) (x : Conv) : (s.setConv c x).dev = s.dev := rfl
@[simp] theorem setConv_ex (s : State) (c : Nat) (x : Conv) : (s.setConv c x).ex = s.ex := rfl
@[simp] theorem setConv_funcs (s : State) (c : Nat) (x : Conv) : (s.setConv c x).funcs = s.funcs := rfl
@[simp] theorem setConv_lobes (s : State) (c : Nat) (x : Conv) : (s.setConv c x).lobes = s.lobes := rfl
@[simp] theorem setConv_time (s : State) (c : Nat) (x : Conv) : (s.setConv c x).time = s.time := rfl
@[simp] theorem setConv_sorus (s : State) (c : Nat) (x : Conv) : (s.setConv c x).sorus = s.sorus := rfl
@[simp] theorem setConv_drv (s : State) (c : Nat) (x : Conv) : (s.setConv c x).drv = s.drv := rfl
@[simp] theorem setConv_steady (s : State) (c : Nat) (x : Conv) : (s.setConv c x).steady = s.steady := rfl
@[simp] theorem setConv_therm (s : State) (c : Nat) (x : Conv) : (s.setConv c x).therm = s.therm := rfl
@[simp] theorem setConv_loops (s : State) (c : Nat) (x : Conv) : (s.setConv c x).loops = s.loops := rfl
@[simp] theorem setConv_cal (s : State) (c : Nat) (x : Conv) : (s.setConv c x).cal = s.cal := rfl
@[simp] theorem setConv_fab (s : State) (c : Nat) (x : Conv) : (s.setConv c x).fab = s.fab := rfl
@[simp] theorem setConv_lib (s : State) (c : Nat) (x : Conv) : (s.setConv c x).lib = s.lib := rfl
@[simp] theorem setConv_com (s : State) (c : Nat) (x : Conv) : (s.setConv c x).com = s.com := rfl
@[simp] theorem setConv_net (s : State) (c : Nat) (x : Conv) : (s.setConv c x).net = s.net := rfl
@[simp] theorem setConv_mat (s : State) (c : Nat) (x : Conv) : (s.setConv c x).mat = s.mat := rfl
@[simp] theorem setConv_active (s : State) (c : Nat) (x : Conv) : (s.setConv c x).active = s.active := rfl
@[simp] theorem setConv_recovery (s : State) (c : Nat) (x : Conv) : (s.setConv c x).recovery = s.recovery := rfl
@[simp] theorem setConv_scan (s : State) (c : Nat) (x : Conv) : (s.setConv c x).scan = s.scan := rfl
@[simp] theorem setConv_ticking (s : State) (c : Nat) (x : Conv) : (s.setConv c x).ticking = s.ticking := rfl
@[simp] theorem setConv_now (s : State) (c : Nat) (x : Conv) : (s.setConv c x).now = s.now := rfl

@[simp] theorem setMonBank_pending (s : State) (b : Nat) (x : MonBank) : (s.setMonBank b x).pending = s.pending := rfl
@[simp] theorem setMonBank_tick (s : State) (b : Nat) (x : MonBank) : (s.setMonBank b x).tick = s.tick := rfl
@[simp] theorem setMonBank_objs (s : State) (b : Nat) (x : MonBank) : (s.setMonBank b x).objs = s.objs := rfl
@[simp] theorem setMonBank_octs (s : State) (b : Nat) (x : MonBank) : (s.setMonBank b x).octs = s.octs := rfl
@[simp] theorem setMonBank_staged (s : State) (b : Nat) (x : MonBank) : (s.setMonBank b x).staged = s.staged := rfl
@[simp] theorem setMonBank_stagedOcts (s : State) (b : Nat) (x : MonBank) : (s.setMonBank b x).stagedOcts = s.stagedOcts := rfl
@[simp] theorem setMonBank_hbm (s : State) (b : Nat) (x : MonBank) : (s.setMonBank b x).hbm = s.hbm := rfl
@[simp] theorem setMonBank_dev (s : State) (b : Nat) (x : MonBank) : (s.setMonBank b x).dev = s.dev := rfl
@[simp] theorem setMonBank_ex (s : State) (b : Nat) (x : MonBank) : (s.setMonBank b x).ex = s.ex := rfl
@[simp] theorem setMonBank_funcs (s : State) (b : Nat) (x : MonBank) : (s.setMonBank b x).funcs = s.funcs := rfl
@[simp] theorem setMonBank_lobes (s : State) (b : Nat) (x : MonBank) : (s.setMonBank b x).lobes = s.lobes := rfl
@[simp] theorem setMonBank_time (s : State) (b : Nat) (x : MonBank) : (s.setMonBank b x).time = s.time := rfl
@[simp] theorem setMonBank_sorus (s : State) (b : Nat) (x : MonBank) : (s.setMonBank b x).sorus = s.sorus := rfl
@[simp] theorem setMonBank_drv (s : State) (b : Nat) (x : MonBank) : (s.setMonBank b x).drv = s.drv := rfl
@[simp] theorem setMonBank_steady (s : State) (b : Nat) (x : MonBank) : (s.setMonBank b x).steady = s.steady := rfl
@[simp] theorem setMonBank_therm (s : State) (b : Nat) (x : MonBank) : (s.setMonBank b x).therm = s.therm := rfl
@[simp] theorem setMonBank_loops (s : State) (b : Nat) (x : MonBank) : (s.setMonBank b x).loops = s.loops := rfl
@[simp] theorem setMonBank_cal (s : State) (b : Nat) (x : MonBank) : (s.setMonBank b x).cal = s.cal := rfl
@[simp] theorem setMonBank_fab (s : State) (b : Nat) (x : MonBank) : (s.setMonBank b x).fab = s.fab := rfl
@[simp] theorem setMonBank_lib (s : State) (b : Nat) (x : MonBank) : (s.setMonBank b x).lib = s.lib := rfl
@[simp] theorem setMonBank_com (s : State) (b : Nat) (x : MonBank) : (s.setMonBank b x).com = s.com := rfl
@[simp] theorem setMonBank_net (s : State) (b : Nat) (x : MonBank) : (s.setMonBank b x).net = s.net := rfl
@[simp] theorem setMonBank_mat (s : State) (b : Nat) (x : MonBank) : (s.setMonBank b x).mat = s.mat := rfl
@[simp] theorem setMonBank_active (s : State) (b : Nat) (x : MonBank) : (s.setMonBank b x).active = s.active := rfl
@[simp] theorem setMonBank_recovery (s : State) (b : Nat) (x : MonBank) : (s.setMonBank b x).recovery = s.recovery := rfl
@[simp] theorem setMonBank_scan (s : State) (b : Nat) (x : MonBank) : (s.setMonBank b x).scan = s.scan := rfl
@[simp] theorem setMonBank_ticking (s : State) (b : Nat) (x : MonBank) : (s.setMonBank b x).ticking = s.ticking := rfl
@[simp] theorem setMonBank_now (s : State) (b : Nat) (x : MonBank) : (s.setMonBank b x).now = s.now := rfl

@[simp] theorem setAvg_pending (s : State) (n : Nat) (x : Avg) : (s.setAvg n x).pending = s.pending := rfl
@[simp] theorem setAvg_tick (s : State) (n : Nat) (x : Avg) : (s.setAvg n x).tick = s.tick := rfl
@[simp] theorem setAvg_objs (s : State) (n : Nat) (x : Avg) : (s.setAvg n x).objs = s.objs := rfl
@[simp] theorem setAvg_octs (s : State) (n : Nat) (x : Avg) : (s.setAvg n x).octs = s.octs := rfl
@[simp] theorem setAvg_staged (s : State) (n : Nat) (x : Avg) : (s.setAvg n x).staged = s.staged := rfl
@[simp] theorem setAvg_stagedOcts (s : State) (n : Nat) (x : Avg) : (s.setAvg n x).stagedOcts = s.stagedOcts := rfl
@[simp] theorem setAvg_hbm (s : State) (n : Nat) (x : Avg) : (s.setAvg n x).hbm = s.hbm := rfl
@[simp] theorem setAvg_dev (s : State) (n : Nat) (x : Avg) : (s.setAvg n x).dev = s.dev := rfl
@[simp] theorem setAvg_ex (s : State) (n : Nat) (x : Avg) : (s.setAvg n x).ex = s.ex := rfl
@[simp] theorem setAvg_funcs (s : State) (n : Nat) (x : Avg) : (s.setAvg n x).funcs = s.funcs := rfl
@[simp] theorem setAvg_lobes (s : State) (n : Nat) (x : Avg) : (s.setAvg n x).lobes = s.lobes := rfl
@[simp] theorem setAvg_time (s : State) (n : Nat) (x : Avg) : (s.setAvg n x).time = s.time := rfl
@[simp] theorem setAvg_sorus (s : State) (n : Nat) (x : Avg) : (s.setAvg n x).sorus = s.sorus := rfl
@[simp] theorem setAvg_drv (s : State) (n : Nat) (x : Avg) : (s.setAvg n x).drv = s.drv := rfl
@[simp] theorem setAvg_steady (s : State) (n : Nat) (x : Avg) : (s.setAvg n x).steady = s.steady := rfl
@[simp] theorem setAvg_therm (s : State) (n : Nat) (x : Avg) : (s.setAvg n x).therm = s.therm := rfl
@[simp] theorem setAvg_loops (s : State) (n : Nat) (x : Avg) : (s.setAvg n x).loops = s.loops := rfl
@[simp] theorem setAvg_cal (s : State) (n : Nat) (x : Avg) : (s.setAvg n x).cal = s.cal := rfl
@[simp] theorem setAvg_fab (s : State) (n : Nat) (x : Avg) : (s.setAvg n x).fab = s.fab := rfl
@[simp] theorem setAvg_lib (s : State) (n : Nat) (x : Avg) : (s.setAvg n x).lib = s.lib := rfl
@[simp] theorem setAvg_com (s : State) (n : Nat) (x : Avg) : (s.setAvg n x).com = s.com := rfl
@[simp] theorem setAvg_net (s : State) (n : Nat) (x : Avg) : (s.setAvg n x).net = s.net := rfl
@[simp] theorem setAvg_mat (s : State) (n : Nat) (x : Avg) : (s.setAvg n x).mat = s.mat := rfl
@[simp] theorem setAvg_active (s : State) (n : Nat) (x : Avg) : (s.setAvg n x).active = s.active := rfl
@[simp] theorem setAvg_recovery (s : State) (n : Nat) (x : Avg) : (s.setAvg n x).recovery = s.recovery := rfl
@[simp] theorem setAvg_scan (s : State) (n : Nat) (x : Avg) : (s.setAvg n x).scan = s.scan := rfl
@[simp] theorem setAvg_ticking (s : State) (n : Nat) (x : Avg) : (s.setAvg n x).ticking = s.ticking := rfl
@[simp] theorem setAvg_now (s : State) (n : Nat) (x : Avg) : (s.setAvg n x).now = s.now := rfl

@[simp] theorem setMatPort_pending (s : State) (i : Nat) (p : MatPort) : (s.setMatPort i p).pending = s.pending := rfl
@[simp] theorem setMatPort_tick (s : State) (i : Nat) (p : MatPort) : (s.setMatPort i p).tick = s.tick := rfl
@[simp] theorem setMatPort_objs (s : State) (i : Nat) (p : MatPort) : (s.setMatPort i p).objs = s.objs := rfl
@[simp] theorem setMatPort_octs (s : State) (i : Nat) (p : MatPort) : (s.setMatPort i p).octs = s.octs := rfl
@[simp] theorem setMatPort_staged (s : State) (i : Nat) (p : MatPort) : (s.setMatPort i p).staged = s.staged := rfl
@[simp] theorem setMatPort_stagedOcts (s : State) (i : Nat) (p : MatPort) : (s.setMatPort i p).stagedOcts = s.stagedOcts := rfl
@[simp] theorem setMatPort_hbm (s : State) (i : Nat) (p : MatPort) : (s.setMatPort i p).hbm = s.hbm := rfl
@[simp] theorem setMatPort_dev (s : State) (i : Nat) (p : MatPort) : (s.setMatPort i p).dev = s.dev := rfl
@[simp] theorem setMatPort_ex (s : State) (i : Nat) (p : MatPort) : (s.setMatPort i p).ex = s.ex := rfl
@[simp] theorem setMatPort_funcs (s : State) (i : Nat) (p : MatPort) : (s.setMatPort i p).funcs = s.funcs := rfl
@[simp] theorem setMatPort_lobes (s : State) (i : Nat) (p : MatPort) : (s.setMatPort i p).lobes = s.lobes := rfl
@[simp] theorem setMatPort_time (s : State) (i : Nat) (p : MatPort) : (s.setMatPort i p).time = s.time := rfl
@[simp] theorem setMatPort_sorus (s : State) (i : Nat) (p : MatPort) : (s.setMatPort i p).sorus = s.sorus := rfl
@[simp] theorem setMatPort_drv (s : State) (i : Nat) (p : MatPort) : (s.setMatPort i p).drv = s.drv := rfl
@[simp] theorem setMatPort_steady (s : State) (i : Nat) (p : MatPort) : (s.setMatPort i p).steady = s.steady := rfl
@[simp] theorem setMatPort_therm (s : State) (i : Nat) (p : MatPort) : (s.setMatPort i p).therm = s.therm := rfl
@[simp] theorem setMatPort_loops (s : State) (i : Nat) (p : MatPort) : (s.setMatPort i p).loops = s.loops := rfl
@[simp] theorem setMatPort_mon (s : State) (i : Nat) (p : MatPort) : (s.setMatPort i p).mon = s.mon := rfl
@[simp] theorem setMatPort_cal (s : State) (i : Nat) (p : MatPort) : (s.setMatPort i p).cal = s.cal := rfl
@[simp] theorem setMatPort_fab (s : State) (i : Nat) (p : MatPort) : (s.setMatPort i p).fab = s.fab := rfl
@[simp] theorem setMatPort_lib (s : State) (i : Nat) (p : MatPort) : (s.setMatPort i p).lib = s.lib := rfl
@[simp] theorem setMatPort_com (s : State) (i : Nat) (p : MatPort) : (s.setMatPort i p).com = s.com := rfl
@[simp] theorem setMatPort_net (s : State) (i : Nat) (p : MatPort) : (s.setMatPort i p).net = s.net := rfl
@[simp] theorem setMatPort_active (s : State) (i : Nat) (p : MatPort) : (s.setMatPort i p).active = s.active := rfl
@[simp] theorem setMatPort_recovery (s : State) (i : Nat) (p : MatPort) : (s.setMatPort i p).recovery = s.recovery := rfl
@[simp] theorem setMatPort_scan (s : State) (i : Nat) (p : MatPort) : (s.setMatPort i p).scan = s.scan := rfl
@[simp] theorem setMatPort_ticking (s : State) (i : Nat) (p : MatPort) : (s.setMatPort i p).ticking = s.ticking := rfl
@[simp] theorem setMatPort_now (s : State) (i : Nat) (p : MatPort) : (s.setMatPort i p).now = s.now := rfl

@[simp] theorem setSlot_pending (s : State) (n : Nat) (x : SlotState) : (s.setSlot n x).pending = s.pending := rfl
@[simp] theorem setSlot_tick (s : State) (n : Nat) (x : SlotState) : (s.setSlot n x).tick = s.tick := rfl
@[simp] theorem setSlot_objs (s : State) (n : Nat) (x : SlotState) : (s.setSlot n x).objs = s.objs := rfl
@[simp] theorem setSlot_octs (s : State) (n : Nat) (x : SlotState) : (s.setSlot n x).octs = s.octs := rfl
@[simp] theorem setSlot_staged (s : State) (n : Nat) (x : SlotState) : (s.setSlot n x).staged = s.staged := rfl
@[simp] theorem setSlot_stagedOcts (s : State) (n : Nat) (x : SlotState) : (s.setSlot n x).stagedOcts = s.stagedOcts := rfl
@[simp] theorem setSlot_hbm (s : State) (n : Nat) (x : SlotState) : (s.setSlot n x).hbm = s.hbm := rfl
@[simp] theorem setSlot_dev (s : State) (n : Nat) (x : SlotState) : (s.setSlot n x).dev = s.dev := rfl
@[simp] theorem setSlot_ex (s : State) (n : Nat) (x : SlotState) : (s.setSlot n x).ex = s.ex := rfl
@[simp] theorem setSlot_funcs (s : State) (n : Nat) (x : SlotState) : (s.setSlot n x).funcs = s.funcs := rfl
@[simp] theorem setSlot_lobes (s : State) (n : Nat) (x : SlotState) : (s.setSlot n x).lobes = s.lobes := rfl
@[simp] theorem setSlot_time (s : State) (n : Nat) (x : SlotState) : (s.setSlot n x).time = s.time := rfl
@[simp] theorem setSlot_sorus (s : State) (n : Nat) (x : SlotState) : (s.setSlot n x).sorus = s.sorus := rfl
@[simp] theorem setSlot_drv (s : State) (n : Nat) (x : SlotState) : (s.setSlot n x).drv = s.drv := rfl
@[simp] theorem setSlot_steady (s : State) (n : Nat) (x : SlotState) : (s.setSlot n x).steady = s.steady := rfl
@[simp] theorem setSlot_therm (s : State) (n : Nat) (x : SlotState) : (s.setSlot n x).therm = s.therm := rfl
@[simp] theorem setSlot_loops (s : State) (n : Nat) (x : SlotState) : (s.setSlot n x).loops = s.loops := rfl
@[simp] theorem setSlot_mon (s : State) (n : Nat) (x : SlotState) : (s.setSlot n x).mon = s.mon := rfl
@[simp] theorem setSlot_cal (s : State) (n : Nat) (x : SlotState) : (s.setSlot n x).cal = s.cal := rfl
@[simp] theorem setSlot_fab (s : State) (n : Nat) (x : SlotState) : (s.setSlot n x).fab = s.fab := rfl
@[simp] theorem setSlot_com (s : State) (n : Nat) (x : SlotState) : (s.setSlot n x).com = s.com := rfl
@[simp] theorem setSlot_net (s : State) (n : Nat) (x : SlotState) : (s.setSlot n x).net = s.net := rfl
@[simp] theorem setSlot_mat (s : State) (n : Nat) (x : SlotState) : (s.setSlot n x).mat = s.mat := rfl
@[simp] theorem setSlot_active (s : State) (n : Nat) (x : SlotState) : (s.setSlot n x).active = s.active := rfl
@[simp] theorem setSlot_recovery (s : State) (n : Nat) (x : SlotState) : (s.setSlot n x).recovery = s.recovery := rfl
@[simp] theorem setSlot_scan (s : State) (n : Nat) (x : SlotState) : (s.setSlot n x).scan = s.scan := rfl
@[simp] theorem setSlot_ticking (s : State) (n : Nat) (x : SlotState) : (s.setSlot n x).ticking = s.ticking := rfl
@[simp] theorem setSlot_now (s : State) (n : Nat) (x : SlotState) : (s.setSlot n x).now = s.now := rfl

@[simp] theorem putCommit_pending (s : State) (c : Commit) : (s.putCommit c).pending = s.pending := rfl
@[simp] theorem putCommit_tick (s : State) (c : Commit) : (s.putCommit c).tick = s.tick := rfl
@[simp] theorem putCommit_objs (s : State) (c : Commit) : (s.putCommit c).objs = s.objs := rfl
@[simp] theorem putCommit_octs (s : State) (c : Commit) : (s.putCommit c).octs = s.octs := rfl
@[simp] theorem putCommit_staged (s : State) (c : Commit) : (s.putCommit c).staged = s.staged := rfl
@[simp] theorem putCommit_stagedOcts (s : State) (c : Commit) : (s.putCommit c).stagedOcts = s.stagedOcts := rfl
@[simp] theorem putCommit_hbm (s : State) (c : Commit) : (s.putCommit c).hbm = s.hbm := rfl
@[simp] theorem putCommit_dev (s : State) (c : Commit) : (s.putCommit c).dev = s.dev := rfl
@[simp] theorem putCommit_ex (s : State) (c : Commit) : (s.putCommit c).ex = s.ex := rfl
@[simp] theorem putCommit_funcs (s : State) (c : Commit) : (s.putCommit c).funcs = s.funcs := rfl
@[simp] theorem putCommit_lobes (s : State) (c : Commit) : (s.putCommit c).lobes = s.lobes := rfl
@[simp] theorem putCommit_time (s : State) (c : Commit) : (s.putCommit c).time = s.time := rfl
@[simp] theorem putCommit_sorus (s : State) (c : Commit) : (s.putCommit c).sorus = s.sorus := rfl
@[simp] theorem putCommit_drv (s : State) (c : Commit) : (s.putCommit c).drv = s.drv := rfl
@[simp] theorem putCommit_steady (s : State) (c : Commit) : (s.putCommit c).steady = s.steady := rfl
@[simp] theorem putCommit_therm (s : State) (c : Commit) : (s.putCommit c).therm = s.therm := rfl
@[simp] theorem putCommit_loops (s : State) (c : Commit) : (s.putCommit c).loops = s.loops := rfl
@[simp] theorem putCommit_mon (s : State) (c : Commit) : (s.putCommit c).mon = s.mon := rfl
@[simp] theorem putCommit_cal (s : State) (c : Commit) : (s.putCommit c).cal = s.cal := rfl
@[simp] theorem putCommit_fab (s : State) (c : Commit) : (s.putCommit c).fab = s.fab := rfl
@[simp] theorem putCommit_lib (s : State) (c : Commit) : (s.putCommit c).lib = s.lib := rfl
@[simp] theorem putCommit_net (s : State) (c : Commit) : (s.putCommit c).net = s.net := rfl
@[simp] theorem putCommit_mat (s : State) (c : Commit) : (s.putCommit c).mat = s.mat := rfl
@[simp] theorem putCommit_active (s : State) (c : Commit) : (s.putCommit c).active = s.active := rfl
@[simp] theorem putCommit_recovery (s : State) (c : Commit) : (s.putCommit c).recovery = s.recovery := rfl
@[simp] theorem putCommit_scan (s : State) (c : Commit) : (s.putCommit c).scan = s.scan := rfl
@[simp] theorem putCommit_ticking (s : State) (c : Commit) : (s.putCommit c).ticking = s.ticking := rfl
@[simp] theorem putCommit_now (s : State) (c : Commit) : (s.putCommit c).now = s.now := rfl

@[simp] theorem setAdapt_pending (s : State) (n : Nat) (a : Adapt) : (s.setAdapt n a).pending = s.pending := rfl
@[simp] theorem setAdapt_tick (s : State) (n : Nat) (a : Adapt) : (s.setAdapt n a).tick = s.tick := rfl
@[simp] theorem setAdapt_objs (s : State) (n : Nat) (a : Adapt) : (s.setAdapt n a).objs = s.objs := rfl
@[simp] theorem setAdapt_octs (s : State) (n : Nat) (a : Adapt) : (s.setAdapt n a).octs = s.octs := rfl
@[simp] theorem setAdapt_staged (s : State) (n : Nat) (a : Adapt) : (s.setAdapt n a).staged = s.staged := rfl
@[simp] theorem setAdapt_stagedOcts (s : State) (n : Nat) (a : Adapt) : (s.setAdapt n a).stagedOcts = s.stagedOcts := rfl
@[simp] theorem setAdapt_hbm (s : State) (n : Nat) (a : Adapt) : (s.setAdapt n a).hbm = s.hbm := rfl
@[simp] theorem setAdapt_dev (s : State) (n : Nat) (a : Adapt) : (s.setAdapt n a).dev = s.dev := rfl
@[simp] theorem setAdapt_ex (s : State) (n : Nat) (a : Adapt) : (s.setAdapt n a).ex = s.ex := rfl
@[simp] theorem setAdapt_funcs (s : State) (n : Nat) (a : Adapt) : (s.setAdapt n a).funcs = s.funcs := rfl
@[simp] theorem setAdapt_lobes (s : State) (n : Nat) (a : Adapt) : (s.setAdapt n a).lobes = s.lobes := rfl
@[simp] theorem setAdapt_time (s : State) (n : Nat) (a : Adapt) : (s.setAdapt n a).time = s.time := rfl
@[simp] theorem setAdapt_sorus (s : State) (n : Nat) (a : Adapt) : (s.setAdapt n a).sorus = s.sorus := rfl
@[simp] theorem setAdapt_drv (s : State) (n : Nat) (a : Adapt) : (s.setAdapt n a).drv = s.drv := rfl
@[simp] theorem setAdapt_steady (s : State) (n : Nat) (a : Adapt) : (s.setAdapt n a).steady = s.steady := rfl
@[simp] theorem setAdapt_therm (s : State) (n : Nat) (a : Adapt) : (s.setAdapt n a).therm = s.therm := rfl
@[simp] theorem setAdapt_loops (s : State) (n : Nat) (a : Adapt) : (s.setAdapt n a).loops = s.loops := rfl
@[simp] theorem setAdapt_mon (s : State) (n : Nat) (a : Adapt) : (s.setAdapt n a).mon = s.mon := rfl
@[simp] theorem setAdapt_fab (s : State) (n : Nat) (a : Adapt) : (s.setAdapt n a).fab = s.fab := rfl
@[simp] theorem setAdapt_lib (s : State) (n : Nat) (a : Adapt) : (s.setAdapt n a).lib = s.lib := rfl
@[simp] theorem setAdapt_com (s : State) (n : Nat) (a : Adapt) : (s.setAdapt n a).com = s.com := rfl
@[simp] theorem setAdapt_net (s : State) (n : Nat) (a : Adapt) : (s.setAdapt n a).net = s.net := rfl
@[simp] theorem setAdapt_mat (s : State) (n : Nat) (a : Adapt) : (s.setAdapt n a).mat = s.mat := rfl
@[simp] theorem setAdapt_active (s : State) (n : Nat) (a : Adapt) : (s.setAdapt n a).active = s.active := rfl
@[simp] theorem setAdapt_recovery (s : State) (n : Nat) (a : Adapt) : (s.setAdapt n a).recovery = s.recovery := rfl
@[simp] theorem setAdapt_scan (s : State) (n : Nat) (a : Adapt) : (s.setAdapt n a).scan = s.scan := rfl
@[simp] theorem setAdapt_ticking (s : State) (n : Nat) (a : Adapt) : (s.setAdapt n a).ticking = s.ticking := rfl
@[simp] theorem setAdapt_now (s : State) (n : Nat) (a : Adapt) : (s.setAdapt n a).now = s.now := rfl

@[simp] theorem setPort_pending (s : State) (n : Nat) (p : Port) : (s.setPort n p).pending = s.pending := rfl
@[simp] theorem setPort_tick (s : State) (n : Nat) (p : Port) : (s.setPort n p).tick = s.tick := rfl
@[simp] theorem setPort_objs (s : State) (n : Nat) (p : Port) : (s.setPort n p).objs = s.objs := rfl
@[simp] theorem setPort_octs (s : State) (n : Nat) (p : Port) : (s.setPort n p).octs = s.octs := rfl
@[simp] theorem setPort_staged (s : State) (n : Nat) (p : Port) : (s.setPort n p).staged = s.staged := rfl
@[simp] theorem setPort_stagedOcts (s : State) (n : Nat) (p : Port) : (s.setPort n p).stagedOcts = s.stagedOcts := rfl
@[simp] theorem setPort_hbm (s : State) (n : Nat) (p : Port) : (s.setPort n p).hbm = s.hbm := rfl
@[simp] theorem setPort_dev (s : State) (n : Nat) (p : Port) : (s.setPort n p).dev = s.dev := rfl
@[simp] theorem setPort_ex (s : State) (n : Nat) (p : Port) : (s.setPort n p).ex = s.ex := rfl
@[simp] theorem setPort_funcs (s : State) (n : Nat) (p : Port) : (s.setPort n p).funcs = s.funcs := rfl
@[simp] theorem setPort_lobes (s : State) (n : Nat) (p : Port) : (s.setPort n p).lobes = s.lobes := rfl
@[simp] theorem setPort_time (s : State) (n : Nat) (p : Port) : (s.setPort n p).time = s.time := rfl
@[simp] theorem setPort_sorus (s : State) (n : Nat) (p : Port) : (s.setPort n p).sorus = s.sorus := rfl
@[simp] theorem setPort_drv (s : State) (n : Nat) (p : Port) : (s.setPort n p).drv = s.drv := rfl
@[simp] theorem setPort_steady (s : State) (n : Nat) (p : Port) : (s.setPort n p).steady = s.steady := rfl
@[simp] theorem setPort_therm (s : State) (n : Nat) (p : Port) : (s.setPort n p).therm = s.therm := rfl
@[simp] theorem setPort_loops (s : State) (n : Nat) (p : Port) : (s.setPort n p).loops = s.loops := rfl
@[simp] theorem setPort_mon (s : State) (n : Nat) (p : Port) : (s.setPort n p).mon = s.mon := rfl
@[simp] theorem setPort_cal (s : State) (n : Nat) (p : Port) : (s.setPort n p).cal = s.cal := rfl
@[simp] theorem setPort_fab (s : State) (n : Nat) (p : Port) : (s.setPort n p).fab = s.fab := rfl
@[simp] theorem setPort_lib (s : State) (n : Nat) (p : Port) : (s.setPort n p).lib = s.lib := rfl
@[simp] theorem setPort_com (s : State) (n : Nat) (p : Port) : (s.setPort n p).com = s.com := rfl
@[simp] theorem setPort_mat (s : State) (n : Nat) (p : Port) : (s.setPort n p).mat = s.mat := rfl
@[simp] theorem setPort_active (s : State) (n : Nat) (p : Port) : (s.setPort n p).active = s.active := rfl
@[simp] theorem setPort_recovery (s : State) (n : Nat) (p : Port) : (s.setPort n p).recovery = s.recovery := rfl
@[simp] theorem setPort_scan (s : State) (n : Nat) (p : Port) : (s.setPort n p).scan = s.scan := rfl
@[simp] theorem setPort_ticking (s : State) (n : Nat) (p : Port) : (s.setPort n p).ticking = s.ticking := rfl
@[simp] theorem setPort_now (s : State) (n : Nat) (p : Port) : (s.setPort n p).now = s.now := rfl

@[simp] theorem setQueue_pending (s : State) (n : Nat) (q : Queue) : (s.setQueue n q).pending = s.pending := rfl
@[simp] theorem setQueue_tick (s : State) (n : Nat) (q : Queue) : (s.setQueue n q).tick = s.tick := rfl
@[simp] theorem setQueue_objs (s : State) (n : Nat) (q : Queue) : (s.setQueue n q).objs = s.objs := rfl
@[simp] theorem setQueue_octs (s : State) (n : Nat) (q : Queue) : (s.setQueue n q).octs = s.octs := rfl
@[simp] theorem setQueue_staged (s : State) (n : Nat) (q : Queue) : (s.setQueue n q).staged = s.staged := rfl
@[simp] theorem setQueue_stagedOcts (s : State) (n : Nat) (q : Queue) : (s.setQueue n q).stagedOcts = s.stagedOcts := rfl
@[simp] theorem setQueue_hbm (s : State) (n : Nat) (q : Queue) : (s.setQueue n q).hbm = s.hbm := rfl
@[simp] theorem setQueue_dev (s : State) (n : Nat) (q : Queue) : (s.setQueue n q).dev = s.dev := rfl
@[simp] theorem setQueue_ex (s : State) (n : Nat) (q : Queue) : (s.setQueue n q).ex = s.ex := rfl
@[simp] theorem setQueue_funcs (s : State) (n : Nat) (q : Queue) : (s.setQueue n q).funcs = s.funcs := rfl
@[simp] theorem setQueue_lobes (s : State) (n : Nat) (q : Queue) : (s.setQueue n q).lobes = s.lobes := rfl
@[simp] theorem setQueue_time (s : State) (n : Nat) (q : Queue) : (s.setQueue n q).time = s.time := rfl
@[simp] theorem setQueue_sorus (s : State) (n : Nat) (q : Queue) : (s.setQueue n q).sorus = s.sorus := rfl
@[simp] theorem setQueue_drv (s : State) (n : Nat) (q : Queue) : (s.setQueue n q).drv = s.drv := rfl
@[simp] theorem setQueue_steady (s : State) (n : Nat) (q : Queue) : (s.setQueue n q).steady = s.steady := rfl
@[simp] theorem setQueue_therm (s : State) (n : Nat) (q : Queue) : (s.setQueue n q).therm = s.therm := rfl
@[simp] theorem setQueue_loops (s : State) (n : Nat) (q : Queue) : (s.setQueue n q).loops = s.loops := rfl
@[simp] theorem setQueue_mon (s : State) (n : Nat) (q : Queue) : (s.setQueue n q).mon = s.mon := rfl
@[simp] theorem setQueue_cal (s : State) (n : Nat) (q : Queue) : (s.setQueue n q).cal = s.cal := rfl
@[simp] theorem setQueue_fab (s : State) (n : Nat) (q : Queue) : (s.setQueue n q).fab = s.fab := rfl
@[simp] theorem setQueue_lib (s : State) (n : Nat) (q : Queue) : (s.setQueue n q).lib = s.lib := rfl
@[simp] theorem setQueue_com (s : State) (n : Nat) (q : Queue) : (s.setQueue n q).com = s.com := rfl
@[simp] theorem setQueue_mat (s : State) (n : Nat) (q : Queue) : (s.setQueue n q).mat = s.mat := rfl
@[simp] theorem setQueue_active (s : State) (n : Nat) (q : Queue) : (s.setQueue n q).active = s.active := rfl
@[simp] theorem setQueue_recovery (s : State) (n : Nat) (q : Queue) : (s.setQueue n q).recovery = s.recovery := rfl
@[simp] theorem setQueue_scan (s : State) (n : Nat) (q : Queue) : (s.setQueue n q).scan = s.scan := rfl
@[simp] theorem setQueue_ticking (s : State) (n : Nat) (q : Queue) : (s.setQueue n q).ticking = s.ticking := rfl
@[simp] theorem setQueue_now (s : State) (n : Nat) (q : Queue) : (s.setQueue n q).now = s.now := rfl

@[simp] theorem setSensor_pending (s : State) (n : Nat) (x : Sensor) : (s.setSensor n x).pending = s.pending := rfl
@[simp] theorem setSensor_tick (s : State) (n : Nat) (x : Sensor) : (s.setSensor n x).tick = s.tick := rfl
@[simp] theorem setSensor_objs (s : State) (n : Nat) (x : Sensor) : (s.setSensor n x).objs = s.objs := rfl
@[simp] theorem setSensor_octs (s : State) (n : Nat) (x : Sensor) : (s.setSensor n x).octs = s.octs := rfl
@[simp] theorem setSensor_staged (s : State) (n : Nat) (x : Sensor) : (s.setSensor n x).staged = s.staged := rfl
@[simp] theorem setSensor_stagedOcts (s : State) (n : Nat) (x : Sensor) : (s.setSensor n x).stagedOcts = s.stagedOcts := rfl
@[simp] theorem setSensor_hbm (s : State) (n : Nat) (x : Sensor) : (s.setSensor n x).hbm = s.hbm := rfl
@[simp] theorem setSensor_dev (s : State) (n : Nat) (x : Sensor) : (s.setSensor n x).dev = s.dev := rfl
@[simp] theorem setSensor_ex (s : State) (n : Nat) (x : Sensor) : (s.setSensor n x).ex = s.ex := rfl
@[simp] theorem setSensor_funcs (s : State) (n : Nat) (x : Sensor) : (s.setSensor n x).funcs = s.funcs := rfl
@[simp] theorem setSensor_lobes (s : State) (n : Nat) (x : Sensor) : (s.setSensor n x).lobes = s.lobes := rfl
@[simp] theorem setSensor_time (s : State) (n : Nat) (x : Sensor) : (s.setSensor n x).time = s.time := rfl
@[simp] theorem setSensor_sorus (s : State) (n : Nat) (x : Sensor) : (s.setSensor n x).sorus = s.sorus := rfl
@[simp] theorem setSensor_drv (s : State) (n : Nat) (x : Sensor) : (s.setSensor n x).drv = s.drv := rfl
@[simp] theorem setSensor_steady (s : State) (n : Nat) (x : Sensor) : (s.setSensor n x).steady = s.steady := rfl
@[simp] theorem setSensor_loops (s : State) (n : Nat) (x : Sensor) : (s.setSensor n x).loops = s.loops := rfl
@[simp] theorem setSensor_mon (s : State) (n : Nat) (x : Sensor) : (s.setSensor n x).mon = s.mon := rfl
@[simp] theorem setSensor_cal (s : State) (n : Nat) (x : Sensor) : (s.setSensor n x).cal = s.cal := rfl
@[simp] theorem setSensor_fab (s : State) (n : Nat) (x : Sensor) : (s.setSensor n x).fab = s.fab := rfl
@[simp] theorem setSensor_lib (s : State) (n : Nat) (x : Sensor) : (s.setSensor n x).lib = s.lib := rfl
@[simp] theorem setSensor_com (s : State) (n : Nat) (x : Sensor) : (s.setSensor n x).com = s.com := rfl
@[simp] theorem setSensor_net (s : State) (n : Nat) (x : Sensor) : (s.setSensor n x).net = s.net := rfl
@[simp] theorem setSensor_mat (s : State) (n : Nat) (x : Sensor) : (s.setSensor n x).mat = s.mat := rfl
@[simp] theorem setSensor_active (s : State) (n : Nat) (x : Sensor) : (s.setSensor n x).active = s.active := rfl
@[simp] theorem setSensor_recovery (s : State) (n : Nat) (x : Sensor) : (s.setSensor n x).recovery = s.recovery := rfl
@[simp] theorem setSensor_scan (s : State) (n : Nat) (x : Sensor) : (s.setSensor n x).scan = s.scan := rfl
@[simp] theorem setSensor_ticking (s : State) (n : Nat) (x : Sensor) : (s.setSensor n x).ticking = s.ticking := rfl
@[simp] theorem setSensor_now (s : State) (n : Nat) (x : Sensor) : (s.setSensor n x).now = s.now := rfl

end Sys2Proof.Laws
end

