-- ==== Sys2Proof/Laws/Writes.lean ====
section
/-!
SUPPORT. What the write of an object may change, chapter by chapter, and that it is no more than `writeTouches` names.
-/

-- One proof at a time: side by side they ask for more threads than the memory limit of a check allows.
set_option Elab.async false

namespace Sys2Proof.Laws

open Sys2Proof Sys2Proof.Machine

theorem Frame1.mono {α : Type} {m n : List Comp} {s : State} {p : State × α} (h : Frame1 n s p) (hs : sub n m = true) :
    Frame1 m s p := Frame.mono h hs

theorem effFlash_frame {r : State × Verdict} (addr : Nat) (v : Int) (s : State) (h : effFlash addr v s = some r) :
    Frame1 [.objs, .dev, .ex, .sorus, .cal] s r := by
  unfold effFlash at h
  repeat' split at h
  all_goals first
    | contradiction
    | cases h
  all_goals first
    | with_reducible exact Frame1.mono (effFwLoadOpen_frame _ _) (by decide)
    | with_reducible exact Frame1.mono (effParkClear_frame _) (by decide)
    | with_reducible exact Frame1.mono (effParkStore_frame _ _) (by decide)
    | with_reducible exact Frame1.mono (effConfigStore_frame _) (by decide)
    | with_reducible exact Frame1.mono (effFwRollback_frame _) (by decide)
    | with_reducible exact Frame1.mono (effFwConfirm_frame _) (by decide)
    | with_reducible exact Frame1.mono (effFwActivate_frame _ _) (by decide)
    | with_reducible exact Frame1.mono (effFwVerify_frame _ _) (by decide)
    | with_reducible exact .step (effFwVerify_frame _ _) (by decide) (.snd (by assumption) (.step (State.fresh_frame _) (by decide) (.refl _)))

theorem effFabric_frame {r : State × Verdict} (addr sel : Nat) (v : Int) (s : State) (h : effFabric addr sel v s = some r) :
    Frame1 [.objs, .fab] s r := by
  unfold effFabric at h
  repeat' split at h
  all_goals first
    | contradiction
    | cases h
  all_goals first
    | with_reducible exact Frame1.mono (effFaultStage_frame _ _ _ _) (by decide)
    | with_reducible exact Frame1.mono (effFaultApply_frame _) (by decide)
    | with_reducible exact Frame1.mono (effPinTestCell_frame _ _) (by decide)

theorem effLibrary_frame {r : State × Verdict} (sess addr sel : Nat) (v : Int) (s : State) (h : effLibrary sess addr sel v s = some r) :
    Frame1 [.objs, .octs, .staged, .stagedOcts, .hbm, .ex, .funcs, .sorus, .lib, .mat] s r := by
  unfold effLibrary at h
  repeat' split at h
  all_goals first
    | contradiction
    | cases h
  all_goals first
    | with_reducible exact Frame1.mono (effLoadSlot_frame _ _ _) (by decide)
    | with_reducible exact Frame1.mono (effLoadClose_frame _ _) (by decide)
    | with_reducible exact Frame1.mono (effEraseSlot_frame _ _ _) (by decide)
    | with_reducible exact Frame1.mono (effReadSlot_frame _ _ _) (by decide)
    | with_reducible exact Frame1.mono (effRevalidate_frame _ _) (by decide)
    | with_reducible exact Frame1.mono (effFindHash_frame _ _) (by decide)
    | with_reducible exact Frame1.mono (effRouteApply_frame _ _) (by decide)
    | with_reducible exact Frame1.mono (effRefineDecide_frame _ _ _) (by decide)

theorem effLoops_frame {r : State × Verdict} (addr sel : Nat) (v : Int) (s : State) (h : effLoops addr sel v s = some r) :
    Frame1 [.objs, .sorus, .loops] s r := by
  unfold effLoops at h
  repeat' split at h
  all_goals first
    | contradiction
    | cases h
  all_goals first
    | with_reducible exact Frame1.mono (effSetpoint_frame _ _ _) (by decide)
    | with_reducible exact Frame1.mono (effLoopEnable_frame _ _ _) (by decide)
    | with_reducible exact Frame1.mono (effVoaEnable_frame _ _ _) (by decide)
    | with_reducible exact .pair (.step (voaRetarget_frame _ _) (by decide) (.step (State.setObj_frame _ _ _ _) (by decide) (.refl _)))

theorem effDatapath_frame {r : State × Verdict} (addr sel : Nat) (v : Int) (s : State) (h : effDatapath addr sel v s = some r) :
    Frame1 [.objs, .mon] s r := by
  unfold effDatapath at h
  repeat' split at h
  all_goals first
    | contradiction
    | cases h
  all_goals first
    | with_reducible exact Frame1.mono (effDpApply_frame _) (by decide)
    | with_reducible exact Frame1.mono (effAvgConfig_frame _ _ _ _) (by decide)

theorem effDrive_frame {r : State × Verdict} (addr sel : Nat) (v : Int) (s : State) (h : effDrive addr sel v s = some r) :
    Frame1 [.objs, .octs, .staged, .stagedOcts, .dev, .ex, .lobes, .sorus, .drv, .steady, .loops, .cal] s r := by
  unfold effDrive at h
  repeat' split at h
  all_goals first
    | contradiction
    | cases h
  all_goals first
    | with_reducible exact Frame1.mono (effSpanApply_frame _) (by decide)
    | with_reducible exact Frame1.mono (effGenApply_frame _) (by decide)
    | with_reducible exact Frame1.mono (effSafeStore_frame _) (by decide)
    | with_reducible exact Frame1.mono (effSafeRevert_frame _) (by decide)
    | with_reducible exact Frame1.mono (effPrivTarget_frame _ _ _) (by decide)

theorem effMonitor_frame {r : State × Verdict} (addr sel : Nat) (v : Int) (s : State) (h : effMonitor addr sel v s = some r) :
    Frame1 [.objs, .octs, .staged, .stagedOcts, .ex, .sorus, .mon] s r := by
  unfold effMonitor at h
  repeat' split at h
  all_goals first
    | contradiction
    | cases h
  all_goals first
    | with_reducible exact Frame1.mono (effGainMode_frame _ _ _) (by decide)
    | with_reducible exact Frame1.mono (effRange_frame _ _ _) (by decide)
    | with_reducible exact Frame1.mono (effRefEnable_frame _ _ _) (by decide)
    | with_reducible exact Frame1.mono (effBankPower_frame _ _ _) (by decide)
    | with_reducible exact Frame1.mono (effInjApply_frame _) (by decide)
    | with_reducible exact Frame1.mono (effFocusStart_frame _ _ _) (by decide)

theorem effCal_frame {r : State × Verdict} (addr : Nat) (v : Int) (s : State) (h : effCal addr v s = some r) :
    Frame1 [.objs, .octs, .staged, .stagedOcts, .dev, .ex, .lobes, .sorus, .drv, .steady, .loops, .mon, .cal] s r := by
  unfold effCal at h
  repeat' split at h
  all_goals first
    | contradiction
    | cases h
  all_goals first
    | with_reducible exact Frame1.mono (effCalApply_frame _) (by decide)
    | with_reducible exact Frame1.mono (effCalAccept_frame _ _) (by decide)
    | with_reducible exact Frame1.mono (effCalAbort_frame _) (by decide)
    | with_reducible exact Frame1.mono (effCalStore_frame _) (by decide)
    | with_reducible exact Frame1.mono (effCalValuesApply_frame _) (by decide)
    | with_reducible exact Frame1.mono (effTemplateApply_frame _) (by decide)

theorem effSteady_frame {r : State × Verdict} (addr sel : Nat) (v : Int) (s : State) (h : effSteady addr sel v s = some r) :
    Frame1 [.objs, .dev, .ex, .lobes, .sorus, .drv, .steady, .therm, .mon, .cal] s r := by
  unfold effSteady at h
  repeat' split at h
  all_goals first
    | contradiction
    | cases h
  all_goals first
    | with_reducible exact Frame1.mono (effHeaterBudget_frame _ _ _) (by decide)
    | with_reducible exact Frame1.mono (effSteadyReset_frame _) (by decide)
    | with_reducible exact Frame1.mono (effTdxMode_frame _ _ _) (by decide)
    | with_reducible exact Frame1.mono (effCaseSource_frame _ _) (by decide)

theorem effLobes_frame {r : State × Verdict} (addr sel : Nat) (v : Int) (s : State) (h : effLobes addr sel v s = some r) :
    Frame1 [.objs, .dev, .ex, .lobes, .time, .sorus, .com, .mat] s r := by
  unfold effLobes at h
  repeat' split at h
  all_goals first
    | contradiction
    | cases h
  all_goals first
    | with_reducible exact Frame1.mono (effHoldOffline_frame _ _ _) (by decide)
    | with_reducible exact Frame1.mono (effLobeReset_frame _ _) (by decide)
    | with_reducible exact Frame1.mono (effSwapNow_frame _) (by decide)

theorem effCapture_frame {r : State × Verdict} (addr sel : Nat) (v : Int) (s : State) (h : effCapture addr sel v s = some r) :
    Frame1 [.objs, .octs, .staged, .stagedOcts, .funcs, .sorus] s r := by
  unfold effCapture at h
  repeat' split at h
  all_goals first
    | contradiction
    | cases h
  all_goals first
    | with_reducible exact Frame1.mono (effRingEnable_frame _ _ _) (by decide)
    | with_reducible exact Frame1.mono (effRingRp_frame _ _ _) (by decide)
    | with_reducible exact Frame1.mono (effRingLength_frame _ _ _) (by decide)
    | with_reducible exact Frame1.mono (effCapRelease_frame _ _ _) (by decide)
    | with_reducible exact Frame1.mono (effCapForce_frame _ _) (by decide)
    | with_reducible exact Frame1.mono (effCapEnd_frame _ _) (by decide)
    | with_reducible exact Frame1.mono (effCapArm_frame _ _) (by decide)

theorem effPorts_frame {r : State × Verdict} (addr sel : Nat) (v : Int) (s : State) (h : effPorts addr sel v s = some r) :
    Frame1 [.objs, .octs, .staged, .stagedOcts, .ex, .sorus, .net] s r := by
  unfold effPorts at h
  repeat' split at h
  all_goals first
    | contradiction
    | cases h
  all_goals first
    | with_reducible exact Frame1.mono (effPortEnable_frame _ _ _) (by decide)
    | with_reducible exact Frame1.mono (effNetApply_frame _) (by decide)

theorem effClassifier_frame {r : State × Verdict} (addr sel : Nat) (v : Int) (s : State) (h : effClassifier addr sel v s = some r) :
    Frame1 [.objs, .dev, .ex, .sorus, .cal, .net] s r := by
  unfold effClassifier at h
  repeat' split at h
  all_goals first
    | contradiction
    | cases h
  all_goals first
    | with_reducible exact Frame1.mono (effRulesApply_frame _) (by decide)
    | with_reducible exact Frame1.mono (effRulesStore_frame _) (by decide)
    | with_reducible exact Frame1.mono (effSlowPolicer_frame _ _ _ _) (by decide)

theorem effQueues_frame {r : State × Verdict} (addr sel : Nat) (v : Int) (s : State) (h : effQueues addr sel v s = some r) :
    Frame1 [.objs, .octs, .staged, .stagedOcts, .net] s r := by
  unfold effQueues at h
  repeat' split at h
  all_goals first
    | contradiction
    | cases h
  all_goals first
    | with_reducible exact Frame1.mono (effShaper_frame _ _ _ _) (by decide)
    | with_reducible exact Frame1.mono (effTxqApply_frame _) (by decide)
    | with_reducible exact Frame1.mono (effGateApply_frame _ _) (by decide)
    | with_reducible exact Frame1.mono (effPolicer_frame _ _ _ _) (by decide)
    | with_reducible exact Frame1.mono (effQsamplePeriod_frame _ _) (by decide)

theorem effTime_frame {r : State × Verdict} (addr sel : Nat) (v : Int) (s : State) (h : effTime addr sel v s = some r) :
    Frame1 [.objs, .octs, .staged, .stagedOcts, .ex, .time, .sorus, .net] s r := by
  unfold effTime at h
  repeat' split at h
  all_goals first
    | contradiction
    | cases h
  all_goals first
    | with_reducible exact Frame1.mono (effLaunchStop_frame _ _) (by decide)
    | with_reducible exact Frame1.mono (effLaunchStart_frame _ _) (by decide)
    | with_reducible exact Frame1.mono (effPulseApply_frame _ _) (by decide)
    | with_reducible exact Frame1.mono (effTimeReset_frame _) (by decide)
    | with_reducible exact Frame1.mono (effTimeRate_frame _ _) (by decide)

theorem effExvan_frame {r : State × Verdict} (sess req addr : Nat) (v : Int) (s : State) (h : effExvan sess req addr v s = some r) :
    Frame1 [.objs, .staged, .stagedOcts, .dev, .ex, .sorus, .cal, .lib] s r := by
  unfold effExvan at h
  repeat' split at h
  all_goals first
    | contradiction
    | cases h
  all_goals first
    | with_reducible exact Frame1.mono (effKeyApply_frame _ _) (by decide)
    | with_reducible exact Frame1.mono (effSessionClose_frame _ _ _ _ _) (by decide)

theorem effMatrix_frame {r : State × Verdict} (addr sel : Nat) (v : Int) (s : State) (h : effMatrix addr sel v s = some r) :
    Frame1 [.objs, .dev, .mat] s r := by
  unfold effMatrix at h
  repeat' split at h
  all_goals first
    | contradiction
    | cases h
  all_goals first
    | with_reducible exact Frame1.mono (effArbReset_frame _) (by decide)
    | with_reducible exact Frame1.mono (effParkInitiator_frame _ _ _) (by decide)

theorem effOwn_frame {r : State × Verdict} (sess req addr sel : Nat) (v : Int) (s : State) (h : effOwn sess req addr sel v s = some r) :
    Frame1 (writeTouches addr) s r := by
  have hw : ∀ {l : List Comp} (m : List Comp) {r : State × Verdict}, groupTouches addr = m →
      sub l ([.objs, .octs, .staged, .stagedOcts, .hbm, .dev, .ex, .lobes, .sorus, .drv, .steady, .loops, .lib, .mat] ++ m) = true →
      Frame1 l s r → Frame1 (writeTouches addr) s r := fun m _ e hs f => by
    rw [writeTouches, e]; exact Frame.mono f hs
  unfold effOwn at h
  split at h <;> rename_i hg
  · split at h
    · cases h
      exact hw [.funcs] (by simp only [groupTouches, hg]) (by decide) (effFuncMode_frame _ _ _)
    · contradiction
  · exact hw [.cal] (by simp only [groupTouches, hg]) (by decide) (effFlash_frame _ _ _ h)
  · exact hw [.fab] (by simp only [groupTouches, hg]) (by decide) (effFabric_frame _ _ _ _ h)
  · exact hw [.funcs] (by simp only [groupTouches, hg]) (by decide) (effLibrary_frame _ _ _ _ _ h)
  · exact hw [] (by simp only [groupTouches, hg]) (by decide) (effLoops_frame _ _ _ _ h)
  · exact hw [.mon] (by simp only [groupTouches, hg]) (by decide) (effDatapath_frame _ _ _ _ h)
  · exact hw [.cal] (by simp only [groupTouches, hg]) (by decide) (effDrive_frame _ _ _ _ h)
  · exact hw [.mon] (by simp only [groupTouches, hg]) (by decide) (effMonitor_frame _ _ _ _ h)
  · exact hw [.mon, .cal] (by simp only [groupTouches, hg]) (by decide) (effCal_frame _ _ _ h)
  · exact hw [.therm, .mon, .cal, .com] (by simp only [groupTouches, hg]) (by decide) (effSteady_frame _ _ _ _ h)
  · exact hw [.time, .com] (by simp only [groupTouches, hg]) (by decide) (effLobes_frame _ _ _ _ h)
  · exact hw [.funcs] (by simp only [groupTouches, hg]) (by decide) (effCapture_frame _ _ _ _ h)
  · exact hw [.net] (by simp only [groupTouches, hg]) (by decide) (effPorts_frame _ _ _ _ h)
  · exact hw [.cal, .net] (by simp only [groupTouches, hg]) (by decide) (effClassifier_frame _ _ _ _ h)
  · exact hw [.net] (by simp only [groupTouches, hg]) (by decide) (effQueues_frame _ _ _ _ h)
  · exact hw [.time, .net] (by simp only [groupTouches, hg]) (by decide) (effTime_frame _ _ _ _ h)
  · exact hw [.cal] (by simp only [groupTouches, hg]) (by decide) (effExvan_frame _ _ _ _ _ h)
  · exact hw [] (by simp only [groupTouches, hg]) (by decide) (effMatrix_frame _ _ _ _ h)
  · split at h
    · cases h
      exact hw [.mon, .cal, .com] (by simp only [groupTouches, hg]) (by decide) (effDeviceCommand_frame _ _)
    · contradiction
  · contradiction

/-- An alternative taken with its condition. -/
theorem Frame1.ite' {α : Type} {m : List Comp} {s : State} {p : Prop} [Decidable p] {t u : State × α} (h : p → Frame1 m s t)
    (k : ¬p → Frame1 m s u) : Frame1 m s (if p then t else u) := by
  split <;> rename_i e
  · exact h e
  · exact k e

/-- A component of every write. -/
theorem writeTouches_base (addr : Nat) {l : List Comp}
    (hs : sub l [.objs, .octs, .staged, .stagedOcts, .hbm, .dev, .ex, .lobes, .sorus, .drv, .steady, .loops, .lib, .mat] = true) :
    sub l (writeTouches addr) = true := by
  simp only [sub, List.all_eq_true, List.contains_iff_mem, writeTouches, List.mem_append] at *
  exact fun c hc => .inl (hs c hc)

theorem effNumber_frame (sess req addr sel : Nat) (v : Int) (s : State) :
    Frame1 (writeTouches addr) s (effNumber sess req addr sel v s) := by
  unfold effNumber
  split
  · exact effOwn_frame _ _ _ _ _ _ (by assumption)
  · split
    · refine .ite ?_ (.ite ?_ ?_)
      · exact .pair (.step (State.stage_frame _ _ _ _) (writeTouches_base _ (by decide)) (.refl _))
      · exact .pair (.step (State.setLaw_frame _ _ _ _) (writeTouches_base _ (by decide)) (.refl _))
      · exact .pair (.step (State.setObj_frame _ _ _ _) (writeTouches_base _ (by decide)) (.refl _))
    · exact .pair (.refl _)

theorem effBytes_touches (sess addr sel : Nat) (b : List Byte) (s : State) :
    Frame1 (writeTouches addr) s (effBytes sess addr sel b s) := by
  have hw : ∀ {a : Nat} {l : List Comp} {p : State × Verdict}, addr = a → sub l (writeTouches a) = true → Frame1 l s p →
      Frame1 (writeTouches addr) s p := fun e hs k => by subst e; exact Frame.mono k hs
  have hk : ∀ {a : Nat} {p : State × Verdict}, addr = a → Frame1 (writeTouches a) s p → Frame1 (writeTouches addr) s (keepOct addr sel b p) :=
    fun e k => by subst e; exact keepOct_frame _ _ _ (by simp [writeTouches]) k
  unfold effBytes
  refine Frame1.ite' (fun e => hw e (by decide) (effLoadData_frame _ _ _)) fun _ => ?_
  refine Frame1.ite' (fun e => hw e (by decide) (effFwData_frame _ _ _)) fun _ => ?_
  refine Frame1.ite' (fun e => hk e (Frame.mono (effHostDrive_frame _ _) (by decide))) fun _ => ?_
  refine Frame1.ite' (fun e => hk e (Frame.mono (effGrantDecide_frame _ _ _ _) (by decide))) fun _ => ?_
  refine Frame1.ite' (fun e => hk e (Frame.mono (effClassDecide_frame _ _ _ _ _) (by decide))) fun _ => ?_
  refine Frame1.ite' (fun e => hw e (by decide) (effShadowNode_frame _ _ _)) fun _ => ?_
  refine Frame1.ite' (fun e => hw e (by decide) (effShadowBank_frame _ _)) fun _ => ?_
  refine Frame1.ite' (fun e => hw e (by decide) (effRingChannels_frame _ _ _)) fun _ => ?_
  split
  · refine .ite ?_ ?_
    · exact .pair (.step (State.stageOct_frame _ _ _ _) (writeTouches_base _ (by decide)) (.refl _))
    · exact .pair (.step (State.setOct_frame _ _ _ _) (writeTouches_base _ (by decide)) (.refl _))
  · exact .pair (.refl _)

theorem writeValue_frame (sess req addr sel : Nat) (b : List Byte) (s : State) :
    Frame1 (writeTouches addr) s (writeValue sess req addr sel b s) := by
  unfold writeValue
  split
  · exact .pair (.refl _)
  · exact .ite (effBytes_touches _ _ _ _ _) (effNumber_frame _ _ _ _ _ _)

end Sys2Proof.Laws
end

