-- ==== Sys2Proof/WellFormed.lean ====
section
/-!
DEFINITION. Which commands can occur: operands within the widths and selectors the spec gives them. A host's value may be any
value its wire type carries, for the block itself judges it; what an engine or a pin reports names a unit that exists.
-/

namespace Sys2Proof

/-- An unsigned operand of so many bits. -/
def fits (bits x : Nat) : Bool := decide (x < 2 ^ bits)

/-- One of n units, counted from 0. -/
def unit (n x : Nat) : Bool := decide (x < n)

/-- A SESSION value of a host's own frames (R458). -/
def hostSess (s : Nat) : Bool := decide (1 ≤ s ∧ s ≤ 0xFFFD)

/-- The same, or a group frame's source above 0xFFFF (R461, log entry 6). -/
def anySess (s : Nat) : Bool := hostSess s || decide (0x10000 ≤ s ∧ s < 0x10000 + 2 ^ 32)

/-- A value some object type carries: I32 from below, TIME96 in ns from above. -/
def wireInt (v : Int) : Bool := decide (-2147483648 ≤ v ∧ v < 18446744073709551616 * 1000000000)

/-- A network time in ns. -/
def timeNs (t : Int) : Bool := decide (0 ≤ t ∧ t < 18446744073709551616 * 1000000000)

/-- A signed offset or interval in ns. -/
def spanNs (t : Int) : Bool := decide (-9223372036854775808 ≤ t ∧ t < 9223372036854775808)

/-- A heartbeat's fields (R323). -/
def Heartbeat.wf (h : Heartbeat) : Bool :=
  unit 2 h.lobe && fits 32 h.claim && fits 32 h.epoch && fits 32 h.snapSeq &&
    (match h.yield with | some c => decide (1 ≤ c ∧ c ≤ 5) | none => true)

def DriveRec.wf (r : DriveRec) : Bool := fits 32 r.sel && fits 16 r.value && fits 8 r.kind && fits 8 r.last

def CalResult.wf (r : CalResult) : Bool :=
  fits 8 r.flags && (match r.aborted with | some a => decide (1 ≤ a ∧ a ≤ 255) | none => true)

/-- A PTP message's fields (R430, R433). -/
def PtpMsg.wf (m : PtpMsg) : Bool :=
  unit 2 m.port && fits 4 m.kind && fits 8 m.domain && fits 12 m.sdo && fits 4 m.version && fits 16 m.seq &&
    m.src.length == 10 && (m.requesting.isEmpty || m.requesting.length == 10) && decide (-128 ≤ m.interval ∧ m.interval ≤ 127) && timeNs m.stamp

/-- A transaction of R486: a single access of 1 to 64 bytes, 8 or less at T3 to T10, or a burst of 2 to 64 beats within one
aligned 4 KiB page of T0 to T2. A fresh request has no beat served. -/
def MatReq.wf (r : MatReq) : Bool :=
  unit 11 r.target && unit 4 r.mark && r.done == 0 && r.last == 0 &&
    (if r.beats = 1 then decide (1 ≤ r.bytes ∧ r.bytes ≤ (if r.target ≤ 2 then 64 else 8))
     else decide (r.target ≤ 2 ∧ 2 ≤ r.beats ∧ r.beats ≤ 64 ∧ r.addr / 4096 = (r.addr + 64 * r.beats - 1) / 4096))

def MatStep.wf : MatStep → Bool
  | .present i r => unit 7 i && r.wf
  | .grant t idle _ => unit 11 t && idle.all (unit 7)
  | .hbmCorrected a => unit 0x2000000000 a
  | .sramCorrected a => unit 0x4000000 a

def ReadEntry.wf (e : ReadEntry) : Bool := fits 24 e.addr && fits 32 e.sel

def WriteEntry.wf (e : WriteEntry) : Bool := fits 24 e.addr && fits 8 e.type && fits 32 e.sel && fits 16 e.value.length

/-- Whether a command can occur. -/
def Instr.wf : Instr → Bool
  | .resetRelease | .refclkLost | .safeLoadComplete | .selftestDone | .parkRampEnd | .hostDriveApply
  | .fallbackElementLoops | .fallbackImageGeneration | .fallbackRefinement | .fallbackPreEmphasis
  | .fallbackPowerArbitration | .fallbackTimeServo | .fallbackCapture | .fallbackClassification | .faultMapApply
  | .pinTestDone | .findComplete | .writeBackStart | .writeBackDone | .spareMapStore | .safePageStored | .dpApplied
  | .calStart | .calGrantTimeout | .calResultApply | .calAcceptTimeout | .calStoreIntervalEnd | .stopDrainEnd
  | .flashWritePermitted | .snapshotCapture | .snapshotLate | .swapDue | .roleSwapped | .swapSkipped
  | .announcementRepeat | .portRevert | .recirculationPass | .rulesCheckDone | .rulesRetainEnd | .qsample
  | .servoUpdate .. | .delayReqSend | .ppsInEdge | .ppsInLost | .groupSeqReservation | .resetDelayEnd | .flashRegionDone
  | .lifeRecordTimer | .fwConfirmTimeEnd | .refclkReturns | .snapshotReceived _ => true
  | .coldResetInput p => unit 2 p
  | .railFault r mv => unit 7 r && fits 16 mv
  | .refclkRestored ns => fits 64 ns
  | .booted l _ _ => unit 2 l
  | .selftestStepDone st failed => decide (1 ≤ st ∧ st ≤ 9) && fits 32 failed
  | .scanBoundary caps ⟨upsets, traffic⟩ => (caps.all fun c => unit 85 c.1 && fits 16 c.2) &&
      (upsets.all fun k => decide (1 ≤ k ∧ k ≤ 9)) && traffic.all MatStep.wf
  | .sampleDelivery cv p a _ ha b _ hb => unit 2624 cv && unit 16 p && fits 12 a && unit 4 ha && fits 12 b && unit 4 hb
  | .elementEvaluation e | .outerPeriodEnd e | .offloadPeriodEnd e | .wrapStart e | .wrapStalled e | .loopSaturated e => unit 40960 e
  | .voaPeriodEnd o => unit 1024 o
  | .setpoint s e v | .loopEnable s e v => hostSess s && unit 40960 e && wireInt v
  | .voaEnable s o v => hostSess s && unit 1024 o && wireInt v
  | .hostDrive s recs => hostSess s && recs.all DriveRec.wf
  | .funcMode s n v => hostSess s && decide (1 ≤ n ∧ n ≤ 8) && wireInt v
  | .modeBoundary n => decide (1 ≤ n ∧ n ≤ 8)
  | .faultApply s | .loadClose s | .loadTimeout s | .routeApply s | .spanApply s | .genApply s | .safeStore s | .safeRevert s
  | .injApply s | .dpApply s | .calApply s | .calAccept s | .calDiscard s | .calAbort s | .calStore s | .calValuesApply s
  | .templateApply s | .steadyReset s | .swapNow s | .netApply s | .rulesApply s | .rulesStore s | .txqApply s | .timeReset s
  | .blockAbandoned s | .eventFrameSend s | .sessionTimeout s | .responseCacheExpiry s | .arbReset s | .park s | .drain s
  | .resume s | .warmReset s | .coldReset s | .parkClear s | .configStore s | .fwConfirm s | .fwRollback s => hostSess s
  | .pinTestCell s k => hostSess s && wireInt k
  | .loadSlot s v | .eraseSlot s v | .revalidate s v | .parkStore s v | .fwLoadOpen s v | .fwActivate s v | .keyApply s v
  | .sessionClose s v => hostSess s && wireInt v
  | .fwVerify s _ => hostSess s
  | .findHash s h => hostSess s && fits 32 h
  | .routeDone us => fits 32 us
  | .refineDecideWrite s b | .refineDecideDiscard s b => hostSess s && unit 4 b
  | .prepare s r i sl f => anySess s && fits 32 r && fits 32 i && fits 32 sl && fits 8 f
  | .commit s r i t f => anySess s && fits 32 r && fits 32 i && timeNs t && fits 8 f
  | .cancel s r i => anySess s && fits 32 r && fits 32 i
  | .prepareTimeout i | .commitT i | .applyingEnd i | .commitDone i | .settleTimeout i => fits 32 i
  | .waveStart i w => fits 32 i && unit 16 w
  | .templatePhaseEnd i e => fits 32 i && unit 40960 e
  | .peerAbort i t src => fits 32 i && timeNs t && fits 48 src
  | .slewPeriodBoundary u | .spanDwellEnd u | .safeTransitionEnd u => unit 123968 u
  | .deglitchEnd n => unit 64 n
  | .genStartTime g => unit 64 g
  | .readbackComparison b lane v => unit 3874 b && unit 34 lane && fits 16 v
  | .spareSwitchover b lane => unit 3874 b && unit 32 lane
  | .bankHolding b | .driveSafe b | .gateFault b => unit 3874 b
  | .refReady mb => unit 164 mb
  | .refEnable s mb v | .bankPower s mb v => hostSess s && unit 164 mb && wireInt v
  | .gainMode s pd v => hostSess s && unit 83968 pd && wireInt v
  | .converterCheck cv c => unit 2788 cv && fits 12 c
  | .convSubstituted cv | .focusEntry cv | .focusEnded cv => unit 2624 cv
  | .injectionDone cv c _ => unit 2624 cv && fits 12 c
  | .focusStart s cv | .focusStop s cv => hostSess s && unit 2624 cv
  | .spaSample n c => unit 4 n && fits 12 c
  | .sppWindowEnd n e sp h => unit 4 n && fits 32 e && fits 32 sp && fits 32 h
  | .sppTimeout n => unit 4 n
  | .avgWindowEnd n => unit 672 n
  | .avgConfig s n _ v => hostSess s && unit 672 n && wireInt v
  | .calRunEnd r => r.wf
  | .grantRelease _ src => fits 33 src
  | .heaterBudget s _ v => hostSess s && wireInt v
  | .grantDecideGrant s q _ | .grantDecideRefuse s q _ => hostSess s && fits 32 q
  | .tempConversion n r => unit 43 n && (if n < 39 then decide (-32768 ≤ r ∧ r ≤ 32767) else decide (0 ≤ r ∧ r < 4294967296))
  | .tempHardCut n r => unit 43 n && decide (-32768 ≤ r ∧ r ≤ 32767)
  | .tdxMode s x v => hostSess s && unit 4 x && wireInt v
  | .heartbeatSend l | .peerLost l | .claimBroadcast l | .lobeFailover l | .lobeSupplyFault l | .counterFault l
  | .katIntervalEnd l | .diagRetry l | .resyncDone l | .fwTrialTimeout l | .lobeLocalMemoryError l => unit 2 l
  | .heartbeatReceive l q h _ => unit 2 l && unit 2 q && h.wf
  | .hbPathFailed q => unit 2 q
  | .writeRefused l b => unit 2 l && unit 3874 b
  | .lobeYielded l c => unit 2 l && decide (1 ≤ c ∧ c ≤ 5)
  | .watchdogExpiry l c => unit 2 l && unit 4 c
  | .digestCompare d => d.all fun c => unit 42 c.1 && fits 32 c.2
  | .katDone c _ _ => unit 42 c
  | .diagnosisEnd l _ | .lobeDisPin l _ => unit 2 l
  | .lobeReset s l => hostSess s && unit 2 l
  | .lobeHoldOffline s l v => hostSess s && unit 2 l && wireInt v
  | .capArm s b | .capEnd s b | .capForce s b => hostSess s && unit 8 b
  | .captureFrame b | .capAutoTrigger b | .rearmEnd b => unit 8 b
  | .capRelease s b v => hostSess s && unit 8 b && wireInt v
  | .trigInEdge x | .trigOutPulseEnd x => unit 2 x
  | .ringLength s r v | .ringRp s r v => hostSess s && unit 16 r && wireInt v
  | .pcsLockChange x ⟨_, c, u⟩ => unit 2 x && fits 32 c && fits 32 u
  | .linkDown x | .linkUp x | .txFrameStart x | .txFrameEnd x | .gateEntryChange x | .gateListChanged x => unit 2 x
  | .portEnable s x v => hostSess s && unit 2 x && wireInt v
  | .frameReceive x b _ _ => unit 3 x && fits 16 b.length
  | .classDecideDrop s q c _ | .classDecideExvan s q c _ | .classDecidePtp s q c _ | .classDecideSlow s q c _ =>
    hostSess s && fits 32 q && fits 8 c
  | .txEnqueue x src n => unit 2 x && unit 8 src && fits 16 n
  | .shaperWrite s n w v => hostSess s && unit 16 n && unit 3 w && wireInt v
  | .gateApply s x => hostSess s && unit 2 x
  | .ptpMessage m => m.wf
  | .masterLost c => decide (1 ≤ c ∧ c ≤ 2)
  | .timeRate s r => hostSess s && wireInt r
  | .pulseApply s k => hostSess s && unit 5 k
  | .pulseEdge k => unit 5 k
  | .launchStart s l | .launchStop s l => hostSess s && unit 16 l
  | .launchInstant l => unit 16 l
  | .openSession lv n src _ ip ⟨port, r⟩ =>
    fits 8 lv && n.length == 8 && fits 32 src && (ip.length == 4 || ip.length == 16) && fits 16 port && fits 32 r
  | .closeSession s r => hostSess s && fits 32 r
  | .echo s r b => hostSess s && fits 32 r && b.length % 4 == 0
  | .read s r l => hostSess s && fits 32 r && l.all ReadEntry.wf
  | .write s r l => hostSess s && fits 32 r && l.all WriteEntry.wf
  | .objectWrite s a sl v => hostSess s && fits 24 a && fits 32 sl && wireInt v
  | .blockRead s r a sl o c => hostSess s && fits 32 r && fits 24 a && fits 32 sl && fits 32 o && fits 32 c
  | .blockWrite s r a sl o t b => hostSess s && fits 32 r && fits 24 a && fits 32 sl && fits 32 o && fits 32 t && fits 16 b.length
  | .subscribe s r f _ c m => hostSess s && fits 32 r && fits 8 f && fits 16 c && fits 16 m
  | .keyOverlapEnd k => unit 4 k
  | .beatTimeout i t w a => unit 7 i && unit 11 t && fits 16 w && fits 16 a
  | .lockBroken i ns => unit 7 i && fits 32 ns
  | .matrixFault t => unit 11 t
  | .hbmUe a i => decide (a < 0x2000000000) && fits 8 i
  | .scrubDone c u => (c.all fun a => decide (a < 0x2000000000)) && fits 32 u
  | .sramUe a i => decide (a < 0x4000000) && fits 8 i
  | .testAccessPortInstruction ir => fits 8 ir

end Sys2Proof
end

