-- ==== Sys2Proof/Tests/Slice0.lean ====
section
/-!
SUPPORT. Tests: for every clause of every statement a state and operands that meet its hypotheses, with the answer where it
evaluates on small states; and for every check of WellFormed a command that it refuses. Each theorem is about one command.
-/

open Sys2Proof Sys2Proof.Machine

set_option Elab.async false

namespace Sys2Proof.Tests

/-! ### States for the tests -/

/-- A device in SERVICE at a scan boundary, lobe A ACTIVE and lobe B STANDBY, with one session, number 5, of level 2. -/
def base : State :=
  { tick := 25600
    dev := { state := .service, resetN := true, pgood := true, safeLoaded := true, faults := [] }
    ex := { sessions := [(0, { num := 5, level := 2 })] }
    lobes := { each := ⟨{ role := .active }, { role := .standby }⟩ }
    drv := { driven := true } }

/-- Whether a command answers a next state with a property. -/
def runs (c : Instr) (s : State) (p : State → Bool) : Bool :=
  match exec c s with
  | .next t => p t
  | _ => false

/-- Whether the newest answer is this one, to session 5. -/
def said (t : State) (addr sel : Nat) (r : Reply) : Bool :=
  t.ex.out.head?.map (fun a => (a.sess, a.addr, a.sel, a.unsolicited, a.reply)) == some (5, addr, sel, false, r)

/-! ### Fault map and pin test -/

def stagedClass (void : Bool) : State :=
  { base with fab := { applyPending := true, staged := [{ addr := Obj.CELL_CLASS, sel := 7, value := 3, void := void }] } }

theorem witness_FaultMapAndPinTests_1 : base.accepts 5 Obj.FAULT_APPLY 0 1 = true ∧ base.fab.applyPending = false ∧
    runs (.faultApply 5) base (fun t => said t Obj.FAULT_APPLY 0 (.ack []) && t.fab.applyPending) = true := by decide

theorem witness_FaultMapAndPinTests_2 : (stagedClass false).accepts 5 Obj.FAULT_APPLY 0 1 = true ∧
    (stagedClass false).fab.applyPending = true ∧
    runs (.faultApply 5) (stagedClass false) (fun t => said t Obj.FAULT_APPLY 0 (.nak .busy 0 0)) = true := by decide

theorem witness_FaultMapAndPinTests_3 : (stagedClass false).tick % 256 = 0 ∧ 0 ≤ (stagedClass false).obj Obj.CELL_CLASS 7 ∧
    runs .faultMapApply (stagedClass false) (fun t => t.fab == { } && t.obj Obj.CELL_CLASS 7 == 3 &&
      t.objN Obj.FAULT_GEN 0 == 2) = true := by decide

theorem witness_FaultMapAndPinTests_4 : (stagedClass true).fab.applyPending = true ∧
    runs .faultMapApply (stagedClass true) (fun t => t.fab == { } && t.obj Obj.CELL_CLASS 7 == 0 &&
      t.objN Obj.FAULT_GEN 0 == 1 && t.objN Obj.FAULT_DISCARDS 0 == 1) = true := by decide

/-- A pin test of cell 3 that began 64 scans ago. -/
def pinTested : State := { base with fab := { pinTest := some { cell := 3, start := 25600 - 64 * 256 } } }

theorem witness_FaultMapAndPinTests_5 : base.accepts 5 Obj.PIN_TEST_CELL 0 20479 = true ∧ base.commitMoving = false ∧
    runs (.pinTestCell 5 20479) base (fun t => said t Obj.PIN_TEST_CELL 0 (.ack []) && t.obj Obj.PIN_TEST_STATUS 0 == 1 &&
      t.fab.pinTest == some { cell := 20479, start := 25600 }) = true := by decide

theorem witness_FaultMapAndPinTests_6 : pinTested.accepts 5 Obj.PIN_TEST_CELL 0 0 = true ∧ pinTested.fab.pinTest.isSome = true ∧
    runs (.pinTestCell 5 0) pinTested (fun t => said t Obj.PIN_TEST_CELL 0 (.nak .busy 0 0)) = true := by decide

theorem witness_FaultMapAndPinTests_7 : 64 * 256 ≤ pinTested.tick - (25600 - 64 * 256) ∧
    runs .pinTestDone pinTested (fun t => t.fab.pinTest.isNone && t.obj Obj.PIN_TEST_STATUS 0 == 3) = true := by decide

theorem witness_FaultMapAndPinTests_8 : ({ pinTested with tick := 25599 }).tick - (25600 - 64 * 256) < 64 * 256 ∧
    runs .pinTestDone { pinTested with tick := 25599 } (fun t => t.fab.pinTest.isSome) = true := by decide

/-! ### Library, router and refinement -/

/-- The base with one slot in a state, and the session's load of another. -/
def slotted (k : Nat) (x : SlotState) : State :=
  { base with lib := { slots := [(k, x)], loads := [{ slot := 9, session := some 5, last := 3 }] } }

theorem witness_ImageLoads_1 : (slotted 4 .valid).accepts 5 Obj.LOAD_SLOT 0 4 = true ∧ (slotted 4 .valid).inUse 4 = false ∧
    (slotted 4 .valid).loadingBy 4 = none ∧ (slotted 4 .valid).slotState 4 ≠ .routing ∧
    runs (.loadSlot 5 4) (slotted 4 .valid) (fun t => said t Obj.LOAD_SLOT 0 (.ack []) && t.slotState 4 == .loading &&
      t.slotState 9 == .empty && t.lib.loads == [{ slot := 4, session := some 5, last := 25600 }]) = true := by decide

/-- Slot 4 named by a live commit. -/
def used : State := { slotted 4 .valid with
  com := { live := [{ id := 1, slot := 4, sess := 5, req := 9, state := .prepared }] } }

theorem witness_ImageLoads_2 : used.accepts 5 Obj.LOAD_SLOT 0 4 = true ∧ used.inUse 4 = true ∧
    runs (.loadSlot 5 4) used (fun t => said t Obj.LOAD_SLOT 0 (.nak .busy 0 0)) = true := by decide

theorem witness_ImageLoads_3 : (slotted 9 .loading).accepts 5 Obj.LOAD_CLOSE 0 1 = true ∧
    ((slotted 9 .loading).loadOf 5).isSome = true ∧
    runs (.loadClose 5) (slotted 9 .loading) (fun t => said t Obj.LOAD_CLOSE 0 (.nak .state 0 0) &&
      t.slotState 9 == .loading) = true := by decide

/-- A load that has delivered every byte, all of them zero: check 1 of Table 3.6 fails. -/
def loaded : State := { slotted 9 .loading with
  lib := { slots := [(9, .loading)], loads := [{ slot := 9, session := some 5, last := 3, received := 393216 }] } }

theorem witness_ImageLoads_4 : loaded.accepts 5 Obj.LOAD_CLOSE 0 1 = true ∧ loaded.slotBad 9 = false ∧
    loaded.loadOf 5 = some { slot := 9, session := some 5, last := 3, received := 393216 } ∧
    runs (.loadClose 5) loaded (fun t => said t Obj.LOAD_CLOSE 0 (.nak .format 0 1) && t.slotState 9 == .invalid) = true := by
  decide

theorem witness_ImageLoads_5 : ({ loaded with tick := 1562500003 }).elapsed 3 10000000000 = true ∧
    runs (.loadTimeout 5) { loaded with tick := 1562500003 } (fun t => t.slotState 9 == .empty && t.lib.loads == []) = true := by
  decide

theorem witness_SlotCommands_1 : (slotted 4 .stale).accepts 5 Obj.ERASE_SLOT 0 4 = true ∧
    (slotted 4 .stale).inUse 4 = false ∧ (slotted 4 .stale).loadingBy 4 = none ∧ (slotted 4 .stale).slotState 4 ≠ .routing ∧
    runs (.eraseSlot 5 4) (slotted 4 .stale) (fun t => said t Obj.ERASE_SLOT 0 (.ack []) && t.slotState 4 == .empty) = true := by
  decide

theorem witness_SlotCommands_2 : (slotted 4 .stale).accepts 5 Obj.REVALIDATE 0 4 = true ∧ Memory.wf (slotted 4 .stale).hbm = true ∧
    (slotted 4 .stale).lib.writing = none ∧ (slotted 4 .stale).slotState 4 = .stale ∧ (slotted 4 .stale).slotBad 4 = false ∧
    (slotted 4 .stale).objN Obj.FAULT_GEN 0 ≤ u32Max := by decide

theorem witness_SlotCommands_3 : (slotted 4 .empty).accepts 5 Obj.REVALIDATE 0 4 = true ∧ (slotted 4 .empty).lib.writing = none ∧
    runs (.revalidate 5 4) (slotted 4 .empty) (fun t => said t Obj.REVALIDATE 0 (.nak .state 0 0)) = true := by decide

theorem witness_SlotCommands_4 : base.accepts 5 Obj.FIND_HASH 0 (7 : Nat) = true ∧
    runs (.findHash 5 7) base (fun t => said t Obj.FIND_HASH 0 (.ack []) && t.lib.search == some 7) = true := by decide

/-- A search for a hash among slots, slot 4 VALID and zero but for its FAULT_GEN, which is current. -/
def searched (h : Nat) : State :=
  { slotted 4 .valid with hbm := [(4 * 393216 + 0x10, 1)], lib := { slots := [(4, .valid)], search := some h } }

theorem witness_SlotCommands_5 : (searched 8).lib.search = some 8 ∧
    (∀ x ∈ (searched 8).lib.slots, x.2 = .valid → (searched 8).slotHash x.1 ≠ 8) ∧
    runs .findComplete (searched 8) (fun t => t.lib.search.isNone && t.obj Obj.FIND_RESULT 0 == 0xFFFFFFFF) = true := by decide

theorem witness_SlotCommands_6 : (searched 0).slotHash 4 = 0 ∧
    (searched 0).slotFaultGen 4 = (searched 0).objN Obj.FAULT_GEN 0 ∧
    runs .findComplete (searched 0) (fun t => t.lib.search.isNone && t.obj Obj.FIND_RESULT 0 == 4) = true := by decide

theorem vectorOf_replicate (n : Nat) (hn : n = 2048) (b : Byte) : ∀ x ∈ vectorOf (List.replicate n b), x = 257 * b.toNat := by
  intro x hx
  obtain ⟨i, hi, rfl⟩ := List.mem_map.mp hx
  have hi' : i < 1024 := List.mem_range.mp hi
  have : min 2 (n - 2 * i) = 2 := by omega
  simp only [be, slice, List.drop_replicate, List.take_replicate, this]
  simp [List.replicate, ofBe, ofLe]
  omega

theorem allowed_of_unused {v : List Nat} (h : ∀ x ∈ v, x = 0xFFFF) : vectorInRange v = true ∧ vectorRepeats v = false := by
  have hu : usedOutputs v = [] := List.filter_eq_nil_iff.mpr fun x hx => by simp [h x hx]
  exact ⟨List.all_eq_true.mpr fun x hx => by simp [h x hx], by simp [vectorRepeats, hu]⟩

theorem repeats_of_zero {v : List Nat} (h : ∀ x ∈ v, x = 0) (hl : 1 < v.length) : vectorRepeats v = true := by
  have hu : usedOutputs v = v := List.filter_eq_self.mpr fun x hx => by simp [h x hx]
  obtain ⟨n, rfl⟩ : ∃ n, v = List.replicate n 0 := ⟨_, List.eq_replicate_iff.mpr ⟨rfl, h⟩⟩
  simp [vectorRepeats, hu, List.nodup_replicate] at hl ⊢
  omega

theorem outOfRange_of {v : List Nat} (n : Nat) (h : ∀ x ∈ v, x = n) (hl : 0 < v.length) (hn : 1024 ≤ n) (hu : n ≠ 0xFFFF) :
    vectorInRange v = false := by
  match v, hl with
  | x :: r, _ =>
    have hx := h x (List.mem_cons_self ..)
    subst hx
    simp [vectorInRange, hu]
    omega

theorem vectorOf_length (b : List Byte) : (vectorOf b).length = 1024 := by simp [vectorOf]

/-- A route request for slot 4: its vector every byte the same. -/
def routed (b : Byte) : State :=
  { base with objs := [(Obj.ROUTE_SLOT, [(0, 4)])], octs := [(Obj.ROUTE_VECTOR, [(0, List.replicate 2048 b)])] }

theorem routed_vector (b : Byte) : (routed b).judgedOct Obj.ROUTE_VECTOR 0 = List.replicate 2048 b := rfl

/-- No output is mapped, which R73 allows. -/
theorem witness_RouteRequests_1 : ((routed 0xFF).accepts 5 Obj.ROUTE_APPLY 0 1 = true ∧
    (routed 0xFF).obj Obj.ROUTE_STATUS 0 ≠ 1 ∧ (routed 0xFF).obj Obj.ROUTE_STATUS 0 ≠ 6 ∧
    4 = ((routed 0xFF).judged Obj.ROUTE_SLOT 0).toNat ∧ (routed 0xFF).inUse 4 = false ∧ (routed 0xFF).loadingBy 4 = none ∧
    (routed 0xFF).slotState 4 ≠ .routing ∧ ((routed 0xFF).func 2).pending = none ∧ (routed 0xFF).hostMode 2 = false) ∧
    vectorInRange (vectorOf ((routed 0xFF).judgedOct Obj.ROUTE_VECTOR 0)) = true ∧
    vectorRepeats (vectorOf ((routed 0xFF).judgedOct Obj.ROUTE_VECTOR 0)) = false := by
  rw [routed_vector 0xFF]
  exact ⟨by decide, allowed_of_unused (vectorOf_replicate _ rfl 0xFF)⟩

/-- The same for a slot that a commit names. -/
def routedUsed : State := { routed 0xFF with com := { live := [{ id := 1, slot := 4, sess := 5, req := 9, state := .prepared }] } }

theorem routedUsed_vector : routedUsed.judgedOct Obj.ROUTE_VECTOR 0 = List.replicate 2048 0xFF := rfl

/-- Every input asks for output 0, which R73 forbids; every entry is 0x0404 = 1,028, out of range; and the slot is in use. -/
theorem witness_RouteRequests_2 : ((routed 0).accepts 5 Obj.ROUTE_APPLY 0 1 = true ∧
    (routed 0).obj Obj.ROUTE_STATUS 0 ≠ 1 ∧ (routed 0).obj Obj.ROUTE_STATUS 0 ≠ 6 ∧
    4 = ((routed 0).judged Obj.ROUTE_SLOT 0).toNat) ∧ vectorInRange (vectorOf ((routed 0).judgedOct Obj.ROUTE_VECTOR 0)) = true ∧
    vectorRepeats (vectorOf ((routed 0).judgedOct Obj.ROUTE_VECTOR 0)) = true ∧
    (routed 4).accepts 5 Obj.ROUTE_APPLY 0 1 = true ∧
    vectorInRange (vectorOf ((routed 4).judgedOct Obj.ROUTE_VECTOR 0)) = false ∧
    routedUsed.accepts 5 Obj.ROUTE_APPLY 0 1 = true ∧ routedUsed.inUse 4 = true ∧
    vectorInRange (vectorOf (routedUsed.judgedOct Obj.ROUTE_VECTOR 0)) = true ∧
    vectorRepeats (vectorOf (routedUsed.judgedOct Obj.ROUTE_VECTOR 0)) = false := by
  rw [routed_vector 0, routed_vector 4, routedUsed_vector]
  have h0 := vectorOf_replicate 2048 rfl 0
  have hu := allowed_of_unused (vectorOf_replicate 2048 rfl 0xFF)
  exact ⟨by decide, List.all_eq_true.mpr fun x hx => by simp [h0 x hx],
    repeats_of_zero h0 (by rw [vectorOf_length]; decide), by decide,
    outOfRange_of 1028 (vectorOf_replicate 2048 rfl 4) (by rw [vectorOf_length]; decide) (by decide) (by decide), by decide, by decide,
    hu.1, hu.2⟩

/-- A router request for slot 4 that runs: of a device's or of a host's writing, the load its session held there, and the bytes before. -/
def routeOf (load : Option Load) (hosted : Bool) : Route :=
  { seq := 1, slot := 4, vector := [], exclude := [], prior := .loading, load, hosted, before := [(4 * 393216, 9)], start := 25599 }

def routing : State :=
  { slotted 4 .routing with
    objs := [(Obj.ROUTE_STATUS, [(0, 1)])], lib := { slots := [(4, .routing)], route := some (routeOf none false) } }

theorem witness_RouteRequests_3 : routing.accepts 5 Obj.ROUTE_APPLY 0 1 = true ∧ routing.obj Obj.ROUTE_STATUS 0 = 1 ∧
    runs (.routeApply 5) routing (fun t => said t Obj.ROUTE_APPLY 0 (.nak .busy 0 0)) = true := by decide

theorem witness_RouteRequests_4 : routing.lib.route.any (fun r => !r.waitHost) = true ∧ (routing.session 5).isSome = true ∧
    routing.loadOf 5 = none ∧ Memory.wf (routeOf none true).before = true := by decide

/-- A load that session 5 held on slot 4 when it asked for the route. -/
def held4 : Load := { slot := 4, session := some 5, last := 7 }

/-- NO_ROUTE gives back the state, the load and the bytes. -/
theorem witness_RouteRequests_4_prior : (unroute routing (routeOf none false)).slotState 4 = .loading ∧
    (unroute routing (routeOf (some held4) false)).slotState 4 = .loading ∧
    (unroute routing (routeOf (some held4) false)).loadOf 5 = some held4 := by decide

/-! ### Refinement -/

/-- A latch of slot 4 with one element and one VOA. -/
def latch : Latch := { slot := 4, elems := [(40959, 5240, 15990)], voas := [(1023, 100)] }

def queued : State := { base with lib := { slots := [(4, .valid)], queue := [latch], bufs := [(3, { latch := { latch with slot := 6 }, due := 0 })] } }

theorem witness_Refinement_1 : queued.rateAllows = true ∧ queued.lib.writing = none ∧ queued.slotState 4 = .valid ∧
    runs .writeBackStart queued (fun t => t.slotState 4 == .writing && t.lib.writing == some latch && t.lib.queue == []) = true := by
  decide

theorem witness_Refinement_2 : ({ queued with therm := { state := 2 } }).refineRate = 0 ∧
    runs .writeBackStart { queued with therm := { state := 2 } } (fun t => t.lib == queued.lib) = true := by decide

/-- A write-back of slot 4 in progress. -/
def writing (bad : Bool) : State :=
  { base with
    lib := { slots := [(4, .writing)], writing := some latch }
    mat := { badWords := if bad then [(4 * 393216, 32)] else [] } }

theorem witness_Refinement_3 : (writing false).slotBad 4 = false ∧ (writing false).lib.writingFrom = .valid ∧
    Memory.wf (writing false).hbm = true ∧ (∀ x ∈ latch.elems, x.1 < 40960) ∧ (∀ x ∈ latch.voas, x.1 < 1024) := by decide

theorem witness_Refinement_4 : (writing true).slotBad 4 = true ∧
    runs .writeBackDone (writing true) (fun t => t.slotState 4 == .invalid && t.lib.writing.isNone) = true := by decide

theorem witness_Refinement_5 : queued.accepts 5 Obj.REFINE_DECIDE 3 1 = true ∧ (mfind queued.lib.bufs 3).isSome = true ∧
    runs (.refineDecideWrite 5 3) queued (fun t => said t Obj.REFINE_DECIDE 3 (.ack []) &&
      t.lib.queue == [latch, { latch with slot := 6 }] && t.lib.bufs == []) = true := by decide

theorem witness_Refinement_6 : queued.accepts 5 Obj.REFINE_DECIDE 3 2 = true ∧
    runs (.refineDecideDiscard 5 3) queued (fun t => said t Obj.REFINE_DECIDE 3 (.ack []) && t.lib.bufs == [] &&
      t.objN Obj.REFINE_DISCARDED 0 == 1) = true := by decide

theorem witness_Refinement_7 : queued.accepts 5 Obj.REFINE_DECIDE 0 1 = true ∧ mfind queued.lib.bufs 0 = none ∧
    runs (.refineDecideWrite 5 0) queued (fun t => said t Obj.REFINE_DECIDE 0 (.nak .range 0 0)) = true := by decide

/-! ### Commits -/

/-- The base with live commits, its counter locked. -/
def withLive (l : List Commit) : State := { base with time := { servo := .locked }, com := { live := l } }

/-- Commit 1 of slot 4, PREPARED by session 5 at the tick 100, two elements and a VOA staged. -/
def commit1 (x : CommitState) : Commit :=
  { id := 1, slot := 4, sess := 5, req := 9, state := x, preparedAt := 100, t := 5000, logIndex := 3, portMap := [1, 0xFFFF],
    routes := [], waves := 2, nextWave := 1, tTick := 25594,
    elems := [(0, { codeA := 9000, codeB := 8000, phase := 7, setpoint := 16000, template := 0, a1 := 0, a2 := 0, d1 := 0, d2 := 0,
                    cross := true, hold := false, noLight := false, wave := some 1 })]
    voas := [(2, { code := 50, atten := 100, target := -300, source := 0, dark := false })] }

theorem witness_CommitsPrepared_1 : base.readyCommit 5 = true ∧ base.newReq 5 7 = true ∧
    base.prepareNak 1 262143 0 = some .state ∧
    runs (.prepare 5 7 1 262143 0) base (fun t => said t 0 0 (.nak .state 0 1) && t.com == base.com) = true := by decide

/-- Slot 4 VALID and current. -/
def preparable : State := { base with hbm := [(4 * 393216 + 0x10, 1)], lib := { slots := [(4, .valid)] } }

theorem witness_CommitsPrepared_2 : preparable.readyCommit 5 = true ∧ preparable.newReq 5 7 = true ∧
    preparable.prepareNak 1 4 1 = none ∧ preparable.slotFaultGen 4 = preparable.objN Obj.FAULT_GEN 0 ∧
    preparable.lib.writing = none ∧ (∀ l ∈ preparable.lib.queue, l.slot ≠ 4) ∧ preparable.slotBad 4 = false ∧
    preparable.adaptLate = false ∧ (preparable.func 4).pending = none ∧ (preparable.func 5).pending = none ∧ preparable.hostMode 5 = false ∧
    preparable.steady.frozen = false ∧ preparable.steady.upsets = [] := by decide

theorem witness_CommitsArmed_1 : ({ base with dev := { state := .safe } }).readyCommit 5 = true ∧
    runs (.commit 5 7 1 9000 0) { base with dev := { state := .safe } } (fun t => said t 0 0 (.nak .state 0 1)) = true := by decide

theorem witness_CommitsArmed_2 : (withLive [commit1 .prepared]).readyCommit 5 = true ∧ (withLive [commit1 .prepared]).newReq 5 7 = true ∧
    (withLive [commit1 .prepared]).findCommit 1 = some (commit1 .prepared) ∧ typeAllows .time96 9000 = true ∧
    (withLive [commit1 .prepared]).now + 2000 ≤ 9000 ∧ (withLive [commit1 .prepared]).spaced 1 9000 = true ∧
    (withLive [commit1 .prepared]).needsReplan (commit1 .prepared) 9000 = false ∧
    runs (.commit 5 7 1 9000 1) (withLive [commit1 .prepared]) (fun t => said t 0 0 (.ack (time96Be 9000)) &&
      t.findCommit 1 == some { commit1 .prepared with state := .armed, t := 9000, peerAbort := true }) = true := by decide

theorem witness_CommitsArmed_3 : (withLive [commit1 .prepared]).commitNak 1 1999 false = some .late ∧
    runs (.commit 5 7 1 1999 1) (withLive [commit1 .prepared]) (fun t => said t 0 0 (.nak .late 0 1) &&
      t.com == (withLive [commit1 .prepared]).com) = true := by decide

theorem witness_CommitsAbandoned_1 : (withLive [commit1 .armed]).readyCommit 5 = true ∧ (withLive [commit1 .armed]).newReq 5 7 = true ∧
    (withLive [commit1 .armed]).findCommit 1 = some (commit1 .armed) ∧ (withLive [commit1 .armed]).now + 2000 ≤ (commit1 .armed).t ∧
    (withLive [commit1 .armed]).inLog (commit1 .armed) = true ∧
    runs (.cancel 5 7 1) (withLive [commit1 .armed]) (fun t => said t 0 0 (.ack []) && t.com.live == [] &&
      (mget {} t.com.log 3).outcome == .cancelled && t.objN Obj.COMMITS_ABANDONED 0 == 1) = true := by decide +kernel

def lateCommit : State := { withLive [commit1 .armed] with time := { servo := .locked, ctr := ⟨{ ns := 3001 }, {}⟩ } }

theorem witness_CommitsAbandoned_2 : lateCommit.readyCommit 5 = true ∧ lateCommit.newReq 5 7 = true ∧
    lateCommit.findCommit 1 = some (commit1 .armed) ∧ (commit1 .armed).t < lateCommit.now + 2000 ∧
    runs (.cancel 5 7 1) lateCommit (fun t => said t 0 0 (.nak .late 0 1)) = true := by decide

def overdue : State := { withLive [commit1 .prepared] with tick := 10000000000 }

theorem witness_CommitsAbandoned_3 : overdue.findCommit 1 = some (commit1 .prepared) ∧ overdue.inLog (commit1 .prepared) = true ∧
    overdue.elapsed 100 (1000000 * overdue.objN Obj.PREPARE_TIMEOUT 0) = true ∧
    runs (.prepareTimeout 1) overdue (fun t => t.com.live == [] && (mget {} t.com.log 3).outcome == .prepareTimeout) = true := by
  decide

theorem witness_CommitsAbandoned_4 : (withLive [commit1 .armed]).now + 2000 ≤ (commit1 .armed).t ∧
    runs (.peerAbort 1 5000 12) (withLive [commit1 .armed]) (fun t => t.com.live == [] &&
      (mget {} t.com.log 3).outcome == .peerAbort) = true := by decide

theorem witness_CommitsAbandoned_5 : base.findCommit 1 = none ∧
    runs (.peerAbort 1 5000 12) base (fun t => t.objN Obj.PEER_ABORTS_IGNORED 0 == 1) = true := by decide

/-- Commit 1 at its T, the device PARKED. -/
def atItsT : State :=
  { withLive [commit1 .armed] with
    time := { servo := .locked, ctr := ⟨{ ns := 5000 }, {}⟩ }, dev := { base.dev with state := .parked } }

theorem witness_CommitsAppliedAndDone_1 : atItsT.active.isSome = true ∧ atItsT.findCommit 1 = some (commit1 .armed) ∧ atItsT.atT (commit1 .armed).t = true ∧
    (∀ d ∈ atItsT.com.live, d.id = 1 → d.state = .armed) ∧
    runs (.commitT 1) atItsT (fun t => t.obj Obj.APPLIED_SLOT 0 == 4 && t.objN Obj.APPLIED_DEST 0 == 1 &&
      t.objN Obj.APPLIED_DEST 1 == 0xFFFF && t.dev.state == .service &&
      (t.findCommit 1).any fun d => d.state == .applying && d.nextWave == 1) = true := by decide +kernel

theorem witness_CommitsAppliedAndDone_2 : (withLive [commit1 .applying]).findCommit 1 = some (commit1 .applying) ∧
    (commit1 .applying).tTick + 1 * (commit1 .applying).spacing ≤ (withLive [commit1 .applying]).tick ∧
    runs (.waveStart 1 1) (withLive [commit1 .applying]) (fun t => (t.findCommit 1).any fun d => d.nextWave == 2 &&
      d.elems.map (fun e => (e.1, e.2.began)) == [(0, some 25600)]) = true := by decide

/-- Commit 1 with its element's template begun at tick 25,590 and its last wave started. -/
def begun (phase : Nat) : Commit :=
  { commit1 .applying with
    nextWave := 2, elems := (commit1 .applying).elems.map fun e => (e.1, { e.2 with began := some 25590, templPhase := phase }) }

theorem witness_CommitsAppliedAndDone_3 : (withLive [begun 1]).gateOpen (bankOf (armA 0)) = true ∧
    (withLive [begun 1]).holdsWrites (armA 0) = false ∧ ((withLive [begun 1]).bank (bankOf (armA 0))).hold ≠ .holding ∧
    runs (.templatePhaseEnd 1 0) (withLive [begun 1]) (fun t => (t.chan 0).out == 9000 && (t.chan 1).out == 8000 &&
      (t.findCommit 1).any fun d => d.lastEnded) = true := by decide

theorem witness_CommitsAppliedAndDone_4 : (begun 3).nextWave = (begun 3).waves ∧ (begun 3).lastEnded = true ∧
    runs (.applyingEnd 1) (withLive [begun 3]) (fun t => t.findCommit 1 == some { begun 3 with state := .settling, lastEnd := 25600 }) =
      true := by decide

/-- Commit 1 SETTLING, its element in a state and its VOA LOCKED. -/
def settling (x : LoopState) : State :=
  { withLive [commit1 .settling] with loops := { elems := [(0, { state := x })], voas := [(2, { state := .locked })] } }

/-- The same when SETTLE_TIMEOUT has passed since its T by the counter. -/
def settleLate : State := { settling .acquire with time := { servo := .locked, ctr := ⟨{ ns := 2000000000 }, {}⟩ } }

/-- The evaluation is of the commit without its elements, with every template amplitude given. -/
theorem witness_CommitsAppliedAndDone_5 : (settling .locked).findCommit 1 = some (commit1 .settling) ∧
    (settling .locked).tick % 256 = 0 ∧ (settling .locked).notLocked (commit1 .settling) = 0 ∧
    (settling .locked).inLog (commit1 .settling) = true ∧ settleLate.inLog (commit1 .settling) = true ∧
    runs (.commitDone 1) 
      { settling .locked with com := { live := [{ commit1 .settling with elems := [] }] },
                              objs := [(Obj.TPL_A2, (List.range 256).map fun n => (n, 0))] } (fun t => t.com.live == [] && (mget {} t.com.log 3).outcome == .locked &&
      t.objN Obj.COMMITS_DONE 0 == 1) = true := by decide +kernel

theorem witness_CommitsAppliedAndDone_6 : settleLate.notLocked (commit1 .settling) ≠ 0 ∧ settleLate.tick % 256 = 0 ∧
    (commit1 .settling).t + 1000 * settleLate.obj Obj.SETTLE_TIMEOUT 0 ≤ settleLate.now ∧
    runs (.settleTimeout 1) settleLate (fun t => t.com.live == [] && (mget {} t.com.log 3).outcome == .unlocked) = true := by decide

theorem witness_CommitsAppliedAndDone_7 : (settling .acquire).notLocked (commit1 .settling) ≠ 0 ∧
    runs (.commitDone 1) (settling .acquire) (fun t => t.com == (settling .acquire).com) = true := by decide

/-- With no lobe ACTIVE nothing of a commit begins. -/
theorem witness_CommitsAppliedAndDone_8 : ({ atItsT with lobes := {} } : State).active = none ∧
    runs (.commitT 1) { atItsT with lobes := {} } (fun t => t.com == atItsT.com) = true ∧
    runs (.waveStart 1 1) { withLive [commit1 .applying] with lobes := {} } (fun t => t.com == (withLive [commit1 .applying]).com) = true := by decide

/-! ### Drive outputs -/

/-- The base with one channel's record. -/
def withChan (u : Nat) (c : Chan) : State := { base with drv := { driven := true, chans := [(u, c)] } }

theorem witness_SlewLimiter_1 : (withChan 123180 { out := 1256, target := 1100, taken := 1500 }).limiterActs 123180 = true ∧
    ((withChan 123180 { out := 1256, target := 1100, taken := 1500 }).chan 123180).accepted < 25600 ∧
    runs (.slewPeriodBoundary 123180) (withChan 123180 { out := 1256, target := 1100, taken := 1500 })
      (fun t => (t.chan 123180).out == 1128 && !(t.chan 123180).reached) = true := by decide

/-- Privileged channel 63 moves by its step of 256 and holds its old output. -/
theorem witness_SlewLimiter_1_privileged : chanKind 123967 = 2 ∧
    runs (.slewPeriodBoundary 123967) (withChan 123967 { out := 1000, target := 5000, taken := 1000 })
      (fun t => (t.chan 123967).out == 1256 && (t.chan 123967).held == some (1000, 25605)) = true := by decide

theorem witness_SlewLimiter_2 : (withChan 5 { out := 10, target := 99, taken := 20, accepted := 25600 }).limiterActs 5 = true ∧
    25600 ≤ ((withChan 5 { out := 10, target := 99, taken := 20, accepted := 25600 }).chan 5).accepted ∧
    runs (.slewPeriodBoundary 5) (withChan 5 { out := 10, target := 99, taken := 20, accepted := 25600 })
      (fun t => (t.chan 5).out == 20 && (t.chan 5).target == 99) = true := by decide

theorem witness_SlewLimiter_3 : base.limiterActs 123968 = false ∧
    runs (.slewPeriodBoundary 123968) base (fun t => t.drv == base.drv) = true := by decide

theorem witness_SlewLimiter_4 : (base.bank (bankOf 123967)).hold ≠ .holding ∧
    ((withChan 123967 { out := 9, target := 9, taken := 9, held := some (8, 25600) }).chan (123904 + 63)).held = some (8, 25600) ∧
    runs (.deglitchEnd 63) (withChan 123967 { out := 9, target := 9, taken := 9, held := some (8, 25600) })
      (fun t => t.outCode 123967 == 9 && (t.chan 123967).held.isNone) = true := by decide

theorem witness_SlewLimiter_5 : (25600 : Nat) < 25601 ∧
    runs (.deglitchEnd 0) (withChan 123904 { out := 9, target := 9, taken := 9, held := some (8, 25601) })
      (fun t => t.outCode 123904 == 8) = true := by decide

/-- Both arms of element 0 staged to span 0. -/
def spanned : State :=
  { base with staged := [(Obj.SPAN, [(0, 0), (1, 0)])], loops := { elems := [(0, { state := .disabled })] } }

theorem witness_SpansAndGenerators_1 : spanned.accepts 5 Obj.SPAN_APPLY 0 1 = true ∧ spanned.com.live = [] ∧
    spanned.spanSeqRuns = false ∧ msorted (spanned.stagedOf Obj.SPAN) = true ∧
    (∀ p ∈ spanned.stagedOf Obj.SPAN, spanned.spanBusy p.1 = false ∧
      (p.1 < 81920 → spanned.newSpan (armA (p.1 / 2)) = spanned.newSpan (armB (p.1 / 2)))) ∧
    (∃ p ∈ spanned.stagedOf Obj.SPAN, p.2.toNat ≠ (spanned.chan p.1).span ∧ spanned.gateOpen (bankOf p.1) = true) := by decide

theorem witness_SpansAndGenerators_2 : (withLive [commit1 .prepared]).accepts 5 Obj.SPAN_APPLY 0 1 = true ∧
    runs (.spanApply 5) (withLive [commit1 .prepared]) (fun t => said t Obj.SPAN_APPLY 0 (.nak .busy 0 0)) = true := by decide

theorem witness_SpansAndGenerators_3 : (base.bank (bankOf 4)).hold ≠ .holding ∧
    (withChan 4 { out := 8000, target := 9000, taken := 9000, motion := some (.spanSeq 25535 8192 0) }).dwellEnd 4 25535 8192 ≤ 25600 ∧
    ((withChan 4 { out := 8000, target := 9000, taken := 9000 }).bank (bankOf 4)).safeStart = none ∧ base.ticking = true ∧
    runs (.spanDwellEnd 4) (withChan 4 { out := 8000, target := 9000, taken := 9000, motion := some (.spanSeq 25535 8192 0) })
      (fun t => (t.chan 4).span == 0 && (t.chan 4).out == 8192 && (t.chan 4).motion.isNone) = true := by decide

/-- Generator 63 staged for fast channel 7, starting at an instant. -/
def generated (start : Int) : State :=
  { base with staged := [(Obj.GEN_CHANNEL, [(63, 7)]), (Obj.GEN_SHAPE, [(63, 2)]), (Obj.GEN_START, [(63, start)])] }

theorem witness_SpansAndGenerators_4 : (generated 0).accepts 5 Obj.GEN_APPLY 0 1 = true ∧ (generated 0).genStaged = [63] ∧
    (generated 0).genConflict = false ∧ ((generated 0).genConfig 63).on = true ∧ chanKind ((generated 0).genConfig 63).chan ≠ 1 ∧
    (generated 0).genBusy ((generated 0).genConfig 63) = false ∧ (generated 0).genGate 63 ((generated 0).genConfig 63) = true ∧
    runs (.genApply 5) (generated 0) (fun t => said t Obj.GEN_APPLY 0 (.ack []) &&
      (mfind t.drv.gens 63).any fun c => c.chan == 7 && c.startTick == some 25600) = true := by decide +kernel

/-- The same while generator 2 drives channel 7. -/
def conflicted : State :=
  { generated 0 with
    drv := { driven := true, gens := [(2, ⟨7, 1, 0, 1, 4, 0, 1, 99, none⟩)] } }

theorem witness_SpansAndGenerators_5 : conflicted.accepts 5 Obj.GEN_APPLY 0 1 = true ∧ conflicted.genConflict = true ∧
    runs (.genApply 5) conflicted (fun t => said t Obj.GEN_APPLY 0 (.nak .conflict 0 0) && t.drv == conflicted.drv) = true := by
  decide +kernel

def startDue : State := { conflicted with time := { ctr := ⟨{ ns := 99 }, {}⟩ } }

theorem witness_SpansAndGenerators_6 : (99 : Int) ≤ startDue.now ∧
    runs (.genStartTime 2) startDue (fun t => (mfind t.drv.gens 2).any fun c => c.startTick == some 25600) = true := by decide

/-- Fast channel 63, lane 31 of bank 1, with a number of failures. -/
def lane31 (n : Nat) : State := withChan 63 { out := 8192, target := 8192, taken := 8192, fails := n }

theorem witness_SpareLanes_1 : (lane31 1).drivenAt (chanOf 1 0) = true ∧ chanOf 1 31 = 63 ∧ (lane31 1).loadLane ≠ some 63 ∧
    (lane31 1).settled 63 = true ∧ absDiff ((lane31 1).outCode 63) 8256 ≤ (lane31 1).objN Obj.READBACK_TOL (chanKind 63) ∧
    runs (.readbackComparison 1 31 8256) (lane31 1) (fun t => (t.chan 63).fails == 0 && (t.chan 63).sensed == 8256) = true := by
  decide

theorem witness_SpareLanes_2 : (lane31 1).objN Obj.READBACK_TOL (chanKind 63) < absDiff ((lane31 1).outCode 63) 8257 ∧
    ((lane31 1).bank 1).spare32 = .idle ∧ (lane31 1).cal.run = none ∧ (lane31 1).cal.back = none ∧
    runs (.readbackComparison 1 31 8257) (lane31 1) (fun t => (t.chan 63).laneFailed && (t.chan 63).switching == some 25600 &&
      (t.bank 1).spare32 == .lane 31) = true ∧
    runs (.readbackComparison 1 31 8257) (lane31 0) (fun t => (t.chan 63).fails == 1 && !(t.chan 63).laneFailed) = true := by decide

/-- Lane 31 of bank 1 failed, spare 32 its, with that lane's record. -/
def switched (c : Chan) : State :=
  { base with drv := { driven := true, chans := [(63, { c with laneFailed := true })], banks := [(1, { spare32 := .lane 31 })] } }

/-- The spare has settled since it was set to the lane's code; then it stands at the lane's connection and passes comparisons. -/
def settled31 (k : Nat) : Chan := { out := 8192, target := 8192, taken := 8192, switching := some k }

def standing (passes : Nat) : Chan := { out := 8192, target := 8192, taken := 8192, spare := some 32, passes }

theorem witness_SpareLanes_3 : ((switched (settled31 25536)).bank 1).spareOf 31 = some 32 ∧ chanKind (chanOf 1 31) = 0 ∧
    runs (.spareSwitchover 1 31) (switched (settled31 25536)) (fun t => (t.chan 63).spare == some 32 &&
      (t.chan 63).switching.isNone && !(t.chan 63).placed && t.objN Obj.SUBSTITUTIONS 0 == 0) = true ∧
    runs (.spareSwitchover 1 31) (switched (settled31 25537)) (fun t => (t.chan 63).spare.isNone) = true := by decide

theorem witness_SpareLanes_4 : (switched (standing 0)).drivenAt (chanOf 1 0) = true ∧ (switched (standing 0)).settled 63 = true ∧
    ((switched (standing 0)).bank 1).spareState 32 = .lane 31 ∧
    runs (.readbackComparison 1 32 8192) (switched (standing 0)) (fun t => (t.chan 63).passes == 1 && !(t.chan 63).placed) = true ∧
    runs (.readbackComparison 1 32 8192) (switched (standing 1)) (fun t => (t.chan 63).placed && t.drv.spareMapDue.isSome &&
      t.objN Obj.SUBSTITUTIONS 0 == 1 && (t.chan 63).sensed == 8192) = true := by decide

/-- Flash writes permitted, and the spare map to be stored: lane 31 of bank 1 on spare 32. -/
def mapStore : State :=
  let s := switched { standing 2 with placed := true }
  { s with drv := { s.drv with spareMapDue := some 3 }, therm := { flashOk := true } }

theorem witness_SpareLanes_5 : mapStore.flashOk = true ∧ mapStore.flashBusy = false ∧ mapStore.active.isSome = true ∧
    runs .spareMapStore mapStore (fun t => t.dev.store == some { kind := .safePage, regions := [0] } &&
      t.dev.page.any fun p => p.spares == [(1, 0xFF1F)]) = true := by decide

/-- The last keep-alive of every bank was accepted at a scan. -/
def kept (k tick : Nat) : State := { base with tick := tick, drv := { driven := true, keepScan := some k } }

theorem witness_SafeValues_1 : (kept 36 25600).lastKeepOf 3873 = some 36 ∧ 36 + 64 ≤ (kept 36 25600).scan ∧
    runs (.bankHolding 3873) (kept 36 25600) (fun t => (t.bank 3873).hold == .holding &&
      (t.bank 3873).holdTick == 25600) = true := by decide

theorem witness_SafeValues_2 : (kept 0 781250).elapsed (256 * 0) (1000 * (kept 0 781250).objN Obj.HOLD_TIMEOUT 0) = true ∧
    runs (.driveSafe 2559) (kept 0 781250) (fun t => (t.bank 2559).hold == .safe && (t.chan 81919).target == 8192 &&
      (t.chan 81919).motion.isSome) = true := by decide +kernel

/-- Fast channel 9 at the end of its ramp. -/
def ramped : State :=
  withChan 9 { out := 8000, target := 8192, taken := 8192, motion := some (.ramp 24832 8000 8192 1 4) }

theorem witness_SafeValues_3 : ramped.limiterOut 9 = 8192 ∧ (ramped.bank (bankOf 9)).hold ≠ .holding ∧
    runs (.safeTransitionEnd 9) ramped (fun t => (t.chan 9).out == 8192 && (t.chan 9).motion.isNone) = true := by decide

/-- Flash writes permitted or barred, nothing staged. -/
def safeStorable (ok : Bool) : State := { base with therm := { flashOk := ok } }

theorem witness_SafeValues_4 : (safeStorable true).accepts 5 Obj.SAFE_STORE 0 1 = true ∧ (safeStorable true).flashBusy = false ∧
    (safeStorable true).flashOk = true ∧ (safeStorable true).stagedOf Obj.SAFE_CODE = [] ∧
    (safeStorable true).stagedOf Obj.SAFE_SPAN = [] ∧ (safeStorable true).steady.frozen = false ∧
    (safeStorable true).steady.upsets = [] := by decide

theorem witness_SafeValues_5 : (safeStorable false).accepts 5 Obj.SAFE_STORE 0 1 = true ∧ (safeStorable false).flashOk = false ∧
    runs (.safeStore 5) (safeStorable false) (fun t => said t Obj.SAFE_STORE 0 (.nak .state 0 0)) = true := by decide

theorem witness_SafeValues_6 : (safeStorable true).accepts 5 Obj.SAFE_REVERT 0 1 = true ∧ (safeStorable true).flashBusy = false ∧
    (safeStorable true).flashOk = true := by decide

/-! ### Monitor and datapath -/

/-- The base with monitor bank 163, the last, in a given record. -/
def withBank (b : MonBank) : State := { base with mon := { banks := [(163, b)] } }

theorem witness_BanksAndReferences_1 :
    runs (.refReady 163) (withBank { timer := some 25600 }) (fun t => (t.monBank 163).ready && t.objN Obj.REF_READY 163 == 1) = true ∧
    runs (.refReady 163) (withBank { timer := some 25601 }) (fun t => !(t.monBank 163).ready) = true := by decide

theorem witness_BanksAndReferences_2 : (withBank {}).accepts 5 Obj.REF_ENABLE 163 1 = true ∧ (withBank {}).obj Obj.BANK_POWER 163 = 1 ∧
    runs (.refEnable 5 163 1) (withBank {}) (fun t => said t Obj.REF_ENABLE 163 (.ack []) &&
      (t.monBank 163).timer == some 338100) = true := by decide

theorem witness_BanksAndReferences_3 : (withBank { ready := true }).accepts 5 Obj.REF_ENABLE 163 0 = true ∧
    runs (.refEnable 5 163 0) (withBank { ready := true }) (fun t => said t Obj.REF_ENABLE 163 (.ack []) &&
      !(t.monBank 163).ready && t.obj Obj.REF_READY 163 == 0) = true := by decide

theorem witness_BanksAndReferences_4 : (withBank { ready := true }).accepts 5 Obj.BANK_POWER 163 0 = true ∧
    runs (.bankPower 5 163 0) (withBank { ready := true }) (fun t => said t Obj.BANK_POWER 163 (.ack []) &&
      !(t.monBank 163).ready && t.obj Obj.BANK_POWER 163 == 0) = true ∧
    runs (.bankPower 5 0 0) { base with loops := { elems := [(255, { state := .locked })] } }
      (fun t => said t Obj.BANK_POWER 0 (.nak .busy 0 0)) = true := by decide

/-- Bank 0 off, with an AUTO photodiode at gain 3. -/
def poweredOff : State := { base with objs := [(Obj.BANK_POWER, [(0, 0)])], mon := { pds := [(511, { g := 3 })] } }

theorem witness_BanksAndReferences_5 : poweredOff.accepts 5 Obj.BANK_POWER 0 1 = true ∧ poweredOff.obj Obj.BANK_POWER 0 = 0 ∧
    runs (.bankPower 5 0 1) poweredOff (fun t => said t Obj.BANK_POWER 0 (.ack []) && (t.pd 511).g == 0 &&
      t.obj Obj.BANK_POWER 0 == 1 && (t.monBank 0).timer == some 338100) = true := by decide

theorem witness_BanksAndReferences_6 : base.accepts 5 Obj.GAIN_MODE 83967 4 = true ∧
    runs (.gainMode 5 83967 4) base (fun t => said t Obj.GAIN_MODE 83967 (.ack []) && t.obj Obj.GAIN_MODE 83967 == 4 &&
      t.mon.gainPend == [83967]) = true := by decide

/-- Photodiode 83,967 written to the fixed mode of gain 3, its bank ready. -/
def gainDue : State := { withBank { ready := true } with objs := [(Obj.GAIN_MODE, [(83967, 4)])] }

theorem witness_BanksAndReferences_7 : gainDue.objN Obj.GAIN_MODE 83967 = 3 + 1 ∧ (gainDue.pd 83967).g ≠ 3 ∧
    (gainDue.monBank (83967 / 512)).ready = true ∧ ((takeGain gainDue 83967).pd 83967).g = 3 := by decide +kernel

/-- The base with a record of converter 2,623, its region's trim channel at the code of the expected codes, and bank 163 ready. -/
def withConv (c : Conv) : State :=
  { base with mon := { convs := [(2623, c)], banks := [(163, { ready := true })] }, objs := [(Obj.CHECK_EXPECT, [(2623, 3072)]), (Obj.REF_TRIM_CODE, [(15, 2000)])],
              drv := { driven := true, chans := [(123959, { out := 2000, target := 2000, taken := 2000 })] } }

theorem witness_ConverterChecks_1 : (withConv { pointer := 15 }).ticking = true ∧
    (withConv { pointer := 15 }).checkDue 163 0 true = true ∧ (withConv { checkLate := true }).unchecked 2623 = false ∧
    runs (.converterCheck 2623 3072) (withConv { pointer := 15, fails := 1, state := 1, checkLate := true })
      (fun t => (t.conv 2623).fails == 0 && (t.conv 2623).pointer == 0) = true ∧
    runs (.converterCheck 2623 (3073 + (withConv {}).objN Obj.CHECK_TOL 0)) (withConv { checkLate := true })
      (fun t => (t.conv 2623).fails == 1 && (t.conv 2623).state == 1) = true ∧
    runs (.converterCheck 2623 (3073 + (withConv {}).objN Obj.CHECK_TOL 0))
      (withConv { fails := 1, state := 1, checkLate := true }) (fun t => (t.conv 2623).substituteDue) = true := by decide +kernel

theorem witness_ConverterChecks_2 : ({} : State).ticking = false := by decide

theorem witness_ConverterChecks_3 : runs (.convSubstituted 2623)
    { withConv { substituteDue := true, state := 1 } with staged := [(Obj.CONV_GAIN, [(2623, 9000)])] }
    (fun t => (t.conv 2623).spare && (t.monBank 163).spareCv == some 2623 && (t.stagedVal Obj.CONV_GAIN 2623).isNone &&
      t.objN Obj.DP_GEN 0 == 2) = true := by decide +kernel

theorem witness_ConverterChecks_4 : runs (.convSubstituted 2623) (withConv { state := 1 }) (fun t => !(t.conv 2623).spare) = true := by
  decide +kernel

/-- Converter 2,623 and source 33 staged for an injection. -/
def injecting (c : Conv) (ready : Bool) : State :=
  { withConv c with staged := [(Obj.INJ_CONVERTER, [(0, 2623)]), (Obj.INJ_SOURCE, [(0, 33)])],
                    mon := { convs := [(2623, c)], banks := [(163, { ready })] } }

theorem witness_InjectionsAndFocus_1 : (injecting {} true).accepts 5 Obj.INJ_APPLY 0 1 = true ∧
    (injecting {} true).judged Obj.INJ_CONVERTER 0 = 2623 ∧ (injecting {} true).obj Obj.INJ_STATUS 0 ≠ 1 ∧
    runs (.injApply 5) (injecting {} true) (fun t => said t Obj.INJ_APPLY 0 (.ack []) &&
      (t.conv 2623).queue == [{ source := 33, host := true, scan := 100 }] && t.objN Obj.INJ_STATUS 0 == 1) = true ∧
    runs (.injApply 5) (injecting { queue := List.replicate 4 { source := 33, host := true, scan := 100 } } true)
      (fun t => said t Obj.INJ_APPLY 0 (.nak .full 0 0)) = true ∧
    runs (.injApply 5) (injecting {} false) (fun t => said t Obj.INJ_APPLY 0 (.nak .notReady 0 0)) = true ∧
    runs (.injApply 5) (injecting { focus := some ⟨0, true, 9, 0⟩ } true) (fun t => said t Obj.INJ_APPLY 0 (.nak .busy 0 0)) = true := by
  decide +kernel

theorem witness_InjectionsAndFocus_2 : (withConv {}).sampleScan 9 = 99 ∧
    runs (.injectionDone 2623 4096 false) (withConv { pointer := 9, queue := [{ source := 32, host := true, scan := 98 }] })
      (fun t => t.objN Obj.INJ_STATUS 0 == 2 && t.objN Obj.INJ_RESULT 0 == 4095 + 32768 + 524288 * 19 &&
        (t.conv 2623).pointer == 10 && (t.conv 2623).queue == []) = true := by decide +kernel

/-- Converters 0 to 63 in focus. -/
def focused64 : State :=
  { base with mon := { convs := (List.range 64).map fun cv => (cv, { focus := some ⟨0, true, 9, 0⟩ }) } }

theorem witness_InjectionsAndFocus_3 : base.accepts 5 Obj.FOCUS_START 2623 1 = true ∧ base.therm.state < 2 ∧
    runs (.focusStart 5 2623) base (fun t => said t Obj.FOCUS_START 2623 (.ack []) && (t.conv 2623).focusNext.isSome) = true ∧
    runs (.focusStart 5 2623) (withConv { checkLate := true }) (fun t => said t Obj.FOCUS_START 2623 (.nak .busy 0 0)) = true ∧
    runs (.focusStart 5 2623) focused64 (fun t => said t Obj.FOCUS_START 2623 (.nak .full 0 0)) = true ∧
    runs (.focusStart 5 0) focused64 (fun t => said t Obj.FOCUS_START 0 (.ack [])) = true := by decide +kernel

theorem witness_InjectionsAndFocus_4 : base.accepts 5 Obj.FOCUS_START 0 2 = true ∧
    runs (.focusStop 5 0) focused64 (fun t => said t Obj.FOCUS_START 0 (.ack []) && (t.conv 0).focusStop) = true := by decide +kernel

theorem witness_InjectionsAndFocus_5 : runs (.focusEntry 2623) (withConv { focusNext := some ⟨31, true, 9, 0⟩ })
    (fun t => (t.conv 2623).focus == some ⟨31, true, 9, 100⟩) = true := by decide +kernel

theorem witness_InjectionsAndFocus_6 :
    runs (.focusEnded 2623) (withConv { focus := some ⟨31, true, 9, 91⟩ }) (fun t => (t.conv 2623).focus.isNone) = true ∧
    runs (.focusEnded 2623) (withConv { focus := some ⟨31, true, 9, 92⟩ }) (fun t => (t.conv 2623).focus.isSome) = true := by
  decide +kernel

/-- Set-point input 3 of a kind with a record. -/
def withSpa (x : SetIn) : State := { base with mon := { spa := [(3, x)] } }

def withSpp (x : SetIn) : State := { base with mon := { spp := [(3, x)] } }

/-- The example of R248: a steady 0.6 V gives r = 1,966, y = 31,456 and x = 19,660. -/
theorem witness_SetPointsAndAverages_1 :
    runs (.spaSample 3 1966) (withSpa { y := 31456, valid := true }) (fun t => t.obj Obj.SPA_VALUE 3 == 19660 &&
      (mget {} t.mon.spa 3).valid && t.objN Obj.SPA_RAW 3 == 1966) = true ∧
    runs (.spaSample 3 4095) (withSpa { valid := true, badRun := 2 }) (fun t => (mget {} t.mon.spa 3).valid) = true ∧
    runs (.spaSample 3 4095) (withSpa { valid := true, badRun := 3 }) (fun t => !(mget {} t.mon.spa 3).valid) = true := by
  decide +kernel

theorem witness_SetPointsAndAverages_2 :
    runs (.spaSample 3 1966) (withSpa { goodRun := 63 }) (fun t => t.obj Obj.SPA_VALUE 3 == 19660 && t.objN Obj.SPA_VALID 3 == 1) = true ∧
    runs (.spaSample 3 1966) (withSpa { goodRun := 62 }) (fun t => t.objN Obj.SPA_VALID 3 == 0) = true := by decide +kernel

/-- 1,200,000 Hz is valid, 1,201,923 Hz is not. -/
theorem witness_SetPointsAndAverages_3 :
    runs (.sppWindowEnd 3 97 12500 6250) (withSpp { mode := 0 }) (fun t => t.objN Obj.SPP_FREQ 3 == 1200000 &&
      t.objN Obj.SPP_DUTY 3 == 16384 && t.objN Obj.SPP_VALID 3 == 1) = true ∧
    runs (.sppWindowEnd 3 2 130 130) (withSpp { valid := true }) (fun t => t.objN Obj.SPP_FREQ 3 == 1201923 &&
      t.objN Obj.SPP_DUTY 3 == 32767 && t.objN Obj.SPP_VALID 3 == 0) = true := by decide +kernel

theorem witness_SetPointsAndAverages_4 : runs (.sppWindowEnd 3 1 0 0) (withSpp { valid := true, x := 7 })
    (fun t => (mget {} t.mon.spp 3).valid && (mget {} t.mon.spp 3).x == 7) = true := by decide +kernel

theorem witness_SetPointsAndAverages_5 :
    runs (.sppTimeout 3) { withSpp { valid := true } with tick := 156250000 } (fun t => t.objN Obj.SPP_VALID 3 == 0) = true ∧
    runs (.sppTimeout 3) (withSpp { valid := true, lastEdge := 25600 }) (fun t => (mget {} t.mon.spp 3).valid) = true := by decide +kernel

theorem witness_SetPointsAndAverages_6 :
    runs (.avgWindowEnd 671) { base with mon := { avgs := [(671, { sum := { x := 640000 * 32768 }, count := 64 })] } }
      (fun t => t.obj Obj.AVG_MEAN 671 == 10000 && t.obj Obj.AVG_SUM 671 == 640000 && t.objN Obj.AVG_SEQ 671 == 1 &&
        (t.avg 671).count == 0) = true ∧
    runs (.avgWindowEnd 671) { base with mon := { avgs := [(671, { sum := { x := 5 }, count := 63 })] } } (fun t => (t.avg 671).sum.x == 5) = true ∧
    runs (.avgWindowEnd 671) { base with mon := { avgs := [(671, { sum := { x := 5, guard := 1, inv := true }, count := 64 })] } }
      (fun t => t.obj Obj.AVG_MEAN 671 == 32767 && t.objN Obj.AVG_TAG 671 == 3) = true := by
  decide +kernel

theorem witness_SetPointsAndAverages_7 : base.accepts 5 Obj.AVG_LEN 671 12 = true ∧
    runs (.avgConfig 5 671 true 12) base (fun t => said t Obj.AVG_LEN 671 (.ack []) && (t.avg 671).change &&
      t.obj Obj.AVG_LEN 671 == 12) = true := by decide +kernel

/-- Channel 655 runs in column 40, which receives output tap 81,920 but not photodiode 0. -/
theorem witness_SetPointsAndAverages_8 : base.accepts 5 Obj.AVG_PD 655 81920 = true ∧
    runs (.avgConfig 5 655 false 81920) base (fun t => said t Obj.AVG_PD 655 (.ack [])) = true ∧
    runs (.avgConfig 5 655 false 0) base (fun t => said t Obj.AVG_PD 655 (.nak .range 0 0)) = true := by decide +kernel

theorem witness_SetPointsAndAverages_9 : base.accepts 5 Obj.DP_APPLY 0 1 = true ∧
    runs (.dpApply 5) base (fun t => said t Obj.DP_APPLY 0 (.ack []) && t.mon.dpPending) = true ∧
    runs (.dpApply 5) { base with mon := { dpPending := true } } (fun t => said t Obj.DP_APPLY 0 (.nak .busy 0 0)) = true := by
  decide +kernel

theorem witness_SetPointsAndAverages_10 :
    runs .dpApplied { base with mon := { dpPending := true }, staged := [(Obj.CONV_GAIN, [(0, 8192), (2623, 24575)])] }
      (fun t => !t.mon.dpPending && t.obj Obj.CONV_GAIN 2623 == 24575 && t.stagedOf Obj.CONV_GAIN == [] &&
        t.objN Obj.DP_GEN 0 == 2) = true := by decide +kernel

theorem witness_SetPointsAndAverages_11 : base.mon.dpPending = false ∧
    runs .dpApplied base (fun t => t.mon == base.mon) = true := by decide +kernel

/-! ### Calibration, power and temperature -/

/-- The base with a calibration request staged. -/
def calStaged (kind sel : Int) (c : Cal) : State :=
  { base with staged := [(Obj.CAL_KIND, [(0, kind)]), (Obj.CAL_SELECTOR, [(0, sel)])], cal := c }

theorem witness_CalibrationRuns_1 : (calStaged 2 2623 {}).accepts 5 Obj.CAL_APPLY 0 1 = true ∧
    runs (.calApply 5) (calStaged 2 2623 {}) (fun t => said t Obj.CAL_APPLY 0 (.ack []) && t.cal.queue == [⟨1, 2, 2623⟩]) = true ∧
    runs (.calApply 5) (calStaged 2 2624 {}) (fun t => said t Obj.CAL_APPLY 0 (.nak .range 0 0)) = true ∧
    runs (.calApply 5) (calStaged 2 2623 { queue := List.replicate 16 ⟨1, 2, 0⟩ })
      (fun t => said t Obj.CAL_APPLY 0 (.nak .full 0 0)) = true ∧
    runs (.calApply 5) { calStaged 2 0xFFFFFFFF {} with objs := [(Obj.CAL_AUTO_ACCEPT, [(0, 0)])] }
      (fun t => said t Obj.CAL_APPLY 0 (.nak .conflict 0 0)) = true ∧
    runs (.calApply 5) { calStaged 2 0 {} with dev := { state := .safe, resetN := true, safeLoaded := true } }
      (fun t => said t Obj.CAL_APPLY 0 (.nak .state 0 0)) = true := by decide +kernel

/-- A BAND run of element 0, whose loop is in a given state, at the head of the queue. -/
def calHead (x : LoopState) : State :=
  { base with loops := { elems := [(0, { state := x })] }, cal := { queue := [⟨7, 6, 0⟩, ⟨8, 6, 1⟩] } }

theorem witness_CalibrationRuns_2 : (calHead .locked).calState = true ∧ (calHead .locked).calHeat ⟨7, 6, 0⟩ = none ∧
    (calHead .locked).calNeeds ⟨7, 6, 0⟩ = none ∧ (calHead .disabled).calNeeds ⟨7, 6, 0⟩ = some .state ∧
    runs .calStart (calHead .locked) (fun t => t.cal.queue == [⟨8, 6, 1⟩] &&
      t.cal.run.any fun r => r.phase == .running && r.req == ⟨7, 6, 0⟩) = true ∧
    runs .calStart (calHead .disabled) (fun t => t.cal.run.isNone && t.objN Obj.CAL_LAST_SEQ 0 == 7 &&
      t.objN Obj.CAL_LAST_STATUS 0 == 8 && t.objN Obj.CAL_LAST_FLAGS 0 == Nak.state.code) = true := by decide +kernel

/-- A BAND run in a phase since tick 0, 1,024 evaluations taken, every one 8. -/
def calRun (p : CalPhase) : State :=
  { base with cal := { run := some { req := ⟨7, 6, 0⟩, phase := p, since := 0, count := 1024, sums := [8192], squares := 65536 } } }

/-- The same run of every element, at its item 0. -/
def calRunAll (p : CalPhase) : State :=
  { base with cal := { run := some { req := ⟨7, 6, 0xFFFFFFFF⟩, phase := p, since := 0, count := 1024, sums := [8192], squares := 65536 } } }

theorem witness_CalibrationRuns_3 :
    runs .calGrantTimeout { calRun .waitGrant with tick := 156250000 } (fun t => t.cal.run.isNone &&
      t.objN Obj.CAL_LAST_FLAGS 0 == 6) = true ∧
    runs .calGrantTimeout { calRun .waitGrant with tick := 156249999 } (fun t => t.cal.run.isSome) = true := by decide +kernel

theorem witness_CalibrationRuns_4 : (calRun .running).cal.run.any (fun r => r.measures && (calRun .running).runOver r ⟨5, 0, none, [], []⟩) = true ∧
    runs (.calRunEnd ⟨5, 0, none, [], []⟩) (calRun .running) (fun t => t.cal.run.isNone && t.objN Obj.CAL_LAST_STATUS 0 == 6 &&
      t.cal.apply.isSome) = true ∧
    runs (.calRunEnd ⟨5, 0, none, [], []⟩) (calRunAll .running) (fun t => t.cal.apply.isSome &&
      t.cal.run.any fun r => r.item == 1 && r.phase == .queued) = true ∧
    runs (.calRunEnd ⟨5, 0, some 7, [], []⟩) (calRun .running) (fun t => t.cal.run.isNone && t.objN Obj.CAL_LAST_STATUS 0 == 9 &&
      t.objN Obj.CAL_LAST_FLAGS 0 == 7) = true ∧
    runs (.calRunEnd ⟨5, 0, none, [], []⟩) { calRun .running with objs := [(Obj.CAL_AUTO_ACCEPT, [(0, 0)])] }
      (fun t => t.cal.run.any fun r => r.phase == .pending && r.since == 25600) = true := by decide +kernel

/-- A run of element 0 that has only begun is not over. -/
theorem witness_CalibrationRuns_4_short : runs (.calRunEnd ⟨5, 0, none, [], []⟩)
    { base with cal := { run := some { req := ⟨7, 6, 0⟩, phase := .running, since := 0, first := 100 } } }
    (fun t => t.cal.run.any fun r => r.phase == .running) = true := by decide +kernel

theorem witness_CalibrationRuns_5 : (calRun .running).accepts 5 Obj.CAL_ABORT 0 1 = true ∧
    runs (.calAbort 5) (calRun .running) (fun t => said t Obj.CAL_ABORT 0 (.ack []) && t.cal.run.isNone &&
      t.objN Obj.CAL_LAST_FLAGS 0 == 4) = true ∧
    runs (.calAbort 5) (calRun .pending) (fun t => said t Obj.CAL_ABORT 0 (.ack []) && t.cal.run.isSome) = true ∧
    runs (.calAbort 5) (calHead .locked) (fun t => t.cal.queue == []) = true := by decide +kernel

/-- A PENDING result since tick 0. -/
def calPending : State :=
  { base with cal := { run := some { req := ⟨7, 6, 0⟩, phase := .pending, since := 0, result := some ⟨5, 0, none, [], []⟩ } } }

theorem witness_CalibrationValues_1 : calPending.accepts 5 Obj.CAL_ACCEPT 0 1 = true ∧ calPending.accepts 5 Obj.CAL_ACCEPT 0 2 = true ∧
    calPending.pendingCal.isSome = true ∧
    runs (.calAccept 5) calPending (fun t => said t Obj.CAL_ACCEPT 0 (.ack []) && t.cal.apply.isSome && t.cal.run.isNone) = true ∧
    runs (.calDiscard 5) calPending (fun t => said t Obj.CAL_ACCEPT 0 (.ack []) && t.cal.apply.isNone &&
      t.objN Obj.CAL_LAST_STATUS 0 == 7) = true ∧
    runs (.calAccept 5) base (fun t => said t Obj.CAL_ACCEPT 0 (.nak .state 0 0)) = true := by decide +kernel

/-- A PENDING result of a run of every element. -/
def calPendingAll : State :=
  { base with cal := { run := some { req := ⟨7, 6, 0xFFFFFFFF⟩, phase := .pending, since := 0, result := some ⟨5, 0, none, [], []⟩ } } }

theorem witness_CalibrationValues_1_all : calPendingAll.accepts 5 Obj.CAL_ACCEPT 0 1 = true ∧ 0 + 1 < calItems 6 ∧
    runs (.calAccept 5) calPendingAll (fun t => t.cal.apply.isSome && t.cal.run.any fun r => r.item == 1) = true := by decide +kernel

theorem witness_CalibrationValues_2 :
    runs .calAcceptTimeout { calPending with tick := 60 * 156250000 } (fun t => t.cal.run.isNone && t.objN Obj.CAL_LAST_STATUS 0 == 7) = true ∧
    runs .calAcceptTimeout { calPending with tick := 60 * 156250000 - 1 } (fun t => t.cal.run.isSome) = true := by decide +kernel

/-- A result to apply: a band trim of element 40,959. -/
def calDone (v : Int) : State := { base with cal := { apply := some (⟨7, 6, 40959⟩, ⟨0, 0, none, [(Obj.BAND_TRIM, 40959, v)], []⟩) } }

theorem witness_CalibrationValues_3 :
    runs .calResultApply (calDone 20000) (fun t => t.cal.apply.isNone && t.obj Obj.BAND_TRIM 40959 == 20000 && t.objN Obj.CAL_GEN 0 == 2) = true ∧
    runs .calResultApply (calDone 16384) (fun t => t.cal.apply.isNone && t.objN Obj.CAL_GEN 0 == 1) = true := by decide +kernel

theorem witness_CalibrationValues_3_maps :
    runs .calResultApply { base with dev := { state := .safe }, octs := [(Obj.VOA_MAP, [(3, [0, 0])])],
                                     cal := { apply := some (⟨7, 6, 40959⟩, ⟨0, 0, none, [], [(Obj.VOA_MAP, 3, [1, 2])]⟩) } }
      (fun t => t.cal.apply.isNone && t.oct Obj.VOA_MAP 3 == [1, 2]) = true ∧
    base.cal.apply = none ∧ base.pendingCal = none ∧ base.cal.unstored = none ∧
    runs .calResultApply base (fun t => t.objs == base.objs) = true ∧
    runs .calResultApply { calDone 20000 with tick := 25601 } (fun t => t.cal.apply.isSome) = true ∧
    runs .calAcceptTimeout base (fun t => t.cal == base.cal) = true ∧
    runs .calStoreIntervalEnd base (fun t => t.dev == base.dev) = true := by decide +kernel

/-- The base with flash writes permitted or barred. -/
def flashPermit (ok : Bool) : State := { base with therm := { flashOk := ok } }

theorem witness_CalibrationValues_4 : (flashPermit true).accepts 5 Obj.CAL_STORE 0 1 = true ∧ (flashPermit true).flashBusy = false ∧
    runs (.calStore 5) (flashPermit false) (fun t => said t Obj.CAL_STORE 0 (.nak .state 0 0)) = true ∧
    runs (.calStore 5) { flashPermit true with dev := { state := .service, resetN := true, safeLoaded := true, store := some ⟨.life, [0]⟩ } }
      (fun t => said t Obj.CAL_STORE 0 (.nak .busy 0 0)) = true := by decide +kernel

theorem witness_CalibrationValues_5 :
    runs .calStoreIntervalEnd { flashPermit false with tick := 3600 * 156250000, cal := { unstored := some 0 } }
      (fun t => t.cal.unstored.isNone && t.dev.storeQueue == [.calibration]) = true ∧
    runs .calStoreIntervalEnd { flashPermit false with cal := { unstored := some 0 } } (fun t => t.cal.unstored == some 0) = true := by
  decide +kernel

/-- Unequal targets staged for element 1. -/
def calUnequal : State := { base with staged := [(Obj.TARGET_BAR, [(1, 5)]), (Obj.TARGET_CROSS, [(1, 6)])] }

theorem witness_CalibrationValues_6 : calUnequal.accepts 5 Obj.CAL_VALUES_APPLY 0 1 = true ∧
    runs (.calValuesApply 5) calUnequal (fun t => said t Obj.CAL_VALUES_APPLY 0 (.nak .range 0 0)) = true ∧
    runs (.calValuesApply 5) base (fun t => said t Obj.CAL_VALUES_APPLY 0 (.ack []) && t.cal.valuesDue) = true := by decide +kernel

/-- Template 255 staged with D1 and D2. -/
def templates (d1 d2 : Int) : State :=
  { base with staged := [(Obj.TPL_D1, [(255, d1)]), (Obj.TPL_D2, [(255, d2)])], objs := [(Obj.TPL_D1, [(255, 1)]), (Obj.TPL_D2, [(255, 1)])],
              cal := { adapt := [(255, { ready := some 9 })] } }

theorem witness_CalibrationValues_7 : (templates 80 80).accepts 5 Obj.TEMPLATE_APPLY 0 1 = true ∧
    (∀ a ∈ [Obj.TPL_A1, Obj.TPL_A2, Obj.TPL_D1, Obj.TPL_D2], msorted ((templates 80 80).stagedOf a) = true) ∧
    runs (.templateApply 5) (templates 80 80) (fun t => said t Obj.TEMPLATE_APPLY 0 (.ack []) && t.obj Obj.TPL_D1 255 == 80 &&
      t.objN Obj.CAL_GEN 0 == 2 && (t.adapt 255).ready.isNone && t.stagedOf Obj.TPL_D2 == []) = true ∧
    runs (.templateApply 5) (templates 80 81) (fun t => said t Obj.TEMPLATE_APPLY 0 (.nak .range 0 0)) = true := by decide +kernel

/-- A wrap of element 3 holds a grant, and another request waits. -/
def granting (q : List GReq) : State :=
  { base with steady := { queue := q,
                           grants := [{ kind := .wrap, source := 3, heater := 5000, left := 5000, base := 0, chans := [], charge := 96 },
                                      { kind := .wrap, source := 4, heater := 0, left := 0, base := 0, chans := [], charge := 96 }] } }

/-- A request of a wrap of element 9. -/
def wrapReq (heater : Int) (charge : Nat) : GReq := { kind := .wrap, source := 9, heater, chans := [], charge }

theorem witness_PowerArbitration_1 : (granting []).holds .wrap 3 = true ∧
    runs (.grantRelease .wrap 3) (granting []) (fun t => !t.holds .wrap 3 && t.holds .wrap 4 && t.obj Obj.GRANTED_HEATER 0 == 0) = true ∧
    runs (.grantRelease .wrap 3) (granting [wrapReq 0 96]) (fun t => t.holds .wrap 9 && t.steady.queue == []) = true ∧
    runs (.grantRelease .wrap 3) (granting [wrapReq 0 6305]) (fun t => !t.holds .wrap 9 && t.steady.queue.length == 1) = true := by
  decide +kernel

theorem witness_PowerArbitration_1_frozen :
    runs (.grantRelease .wrap 3) { granting [] with steady := { (granting []).steady with frozen := true } }
      (fun t => !t.holds .wrap 3 && t.granted == 5000) = true := by decide +kernel

theorem witness_PowerArbitration_2 : (granting []).holds .wrap 5 = false := by decide

theorem witness_PowerArbitration_3 : base.accepts 5 Obj.HEATER_BUDGET 0 20000 = true ∧ base.accepts 5 Obj.LOOP_RESERVE 0 0 = true ∧
    runs (.heaterBudget 5 false 20000) (granting []) (fun t => said t Obj.HEATER_BUDGET 0 (.ack []) && t.steady.pendingBudget && t.steady.newBudget &&
      t.steady.budget == 70000 && t.obj Obj.HEATER_BUDGET 0 == 20000) = true := by decide +kernel

/-- Power arbitration in host mode, a wrap request of element 9 waiting in ring entry 63. -/
def hostArbitrates (heater : Int) : State :=
  { base with funcs := [(5, { mode := 1 })], objs := [(Obj.GREQ_HEAD, [(0, 63)])],
              steady := { ring := [(63, ⟨12, wrapReq heater 96, 0, 99999⟩)] } }

theorem witness_PowerArbitration_4 : base.acceptsOctets 5 Obj.GRANT_DECIDE 0 = true ∧ base.hostMode 5 = false ∧
    (hostArbitrates 0).decided 13 false = none ∧
    runs (.grantDecideGrant 5 12 true) base (fun t => said t Obj.GRANT_DECIDE 0 (.nak .state 0 0)) = true ∧
    runs (.grantDecideRefuse 5 13 false) (hostArbitrates 0) (fun t => said t Obj.GRANT_DECIDE 0 (.nak .unknown 0 0)) = true := by
  decide +kernel

theorem witness_PowerArbitration_5 : (hostArbitrates 0).hostMode 5 = true ∧
    (hostArbitrates 0).decided 12 true = some [(63, ⟨12, wrapReq 0 96, 0, 99999⟩)] ∧
    runs (.grantDecideGrant 5 12 true) (hostArbitrates 70000000) (fun t => said t Obj.GRANT_DECIDE 0 (.ack []) &&
      t.objN Obj.GREQ_STATE 63 == 1 && t.holds .wrap 9) = true ∧
    runs (.grantDecideGrant 5 12 false) (hostArbitrates 70000001) (fun t => said t Obj.GRANT_DECIDE 0 (.ack []) &&
      t.objN Obj.GREQ_STATE 63 == 2 && !t.holds .wrap 9 && t.objN Obj.GRANTS_REFUSED 0 == 1) = true ∧
    runs (.grantDecideRefuse 5 12 false) (hostArbitrates 0) (fun t => t.objN Obj.GREQ_STATE 63 == 2) = true := by decide +kernel

/-- Steady FROZEN with a waiting wrap. -/
def frozenSteady : State :=
  { base with drv := {}, dev := { state := .service, resetN := true, safeLoaded := true, faults := [.steady, .thermalStop] },
              steady := { frozen := true, queue := [wrapReq 0 96] } }

theorem witness_PowerArbitration_6 : frozenSteady.accepts 5 Obj.STEADY_RESET 0 1 = true ∧
    runs (.steadyReset 5) frozenSteady (fun t => said t Obj.STEADY_RESET 0 (.ack []) && !t.steady.frozen && t.steady.queue == [] &&
      t.dev.faults == [.thermalStop]) = true ∧
    runs (.steadyReset 5) base (fun t => said t Obj.STEADY_RESET 0 (.nak .state 0 0)) = true := by decide +kernel

/-- Every site with eight conversions at 25 °C, and site 37, or 36, with its own record. -/
def warm (l : SMap Nat) (x : Sensor) : State :=
  { base with therm := { sensors := [(36, { failed := true }), (37, x)], levels := l, flashOk := true, state := 0 },
              objs := [(Obj.TEMP, [(37, 2500), (38, 2500)])] }

/-- HBM sensor 37 reaches STOP at 95.00 °C: the device drains. At 94.99 °C it throttles. -/
theorem witness_ThermalProtection_1 :
    runs (.tempConversion 37 9500) (warm [] {}) (fun t => t.obj Obj.TEMP 37 == 9500 && mget 0 t.therm.levels 1 == 3 &&
      t.therm.state == 3 && t.dev.state == .draining) = true ∧
    runs (.tempConversion 37 9499) (warm [] {}) (fun t => t.therm.state == 2 && t.dev.state == .service) = true := by decide +kernel

theorem witness_ThermalProtection_2 : runs (.tempConversion 43 9500) base (fun t => t.therm == base.therm) = true := by decide

theorem witness_ThermalProtection_3 : base.obj Obj.CUT_LEVEL 1 = 10500 ∧
    runs (.tempHardCut 37 10500) (warm [] { cutRun := 2 }) (fun t => t.dev.state == .faultHold && t.drv.heatersOff &&
      t.objN Obj.THERMAL_STATE 0 == 4 && t.dev.faults.contains .hardCut) = true ∧
    runs (.tempHardCut 37 10500) (warm [] { cutRun := 1 }) (fun t => t.dev.state == .service) = true := by decide +kernel

/-- An orderly stop since tick 0. -/
def draining (tick : Nat) : State :=
  { base with tick := tick, drv := {}, dev := { state := .draining, draining := some 0, resetN := true, safeLoaded := true } }

theorem witness_ThermalProtection_4 :
    ((draining 9).com.live.any fun c => c.state == .armed || c.state == .applying) = false ∧
    (draining 1562500).elapsed 0 (1000 * (draining 1562500).objN Obj.STOP_DRAIN 0) = true ∧
    runs .stopDrainEnd (draining 1562499) (fun t => t.dev.state == .draining) = true := by decide +kernel

theorem witness_ThermalProtection_5 :
    runs .flashWritePermitted { base with tick := 156250000, therm := { flashInSince := some 0 }, dev := { state := .service, storeQueue := [.life] } }
      (fun t => t.therm.flashOk && t.dev.store == some ⟨.life, [1]⟩) = true ∧
    runs .flashWritePermitted { base with tick := 156249999, therm := { flashInSince := some 0 } } (fun t => !t.therm.flashOk) = true := by
  decide +kernel

theorem witness_ThermalProtection_6 : base.accepts 5 Obj.TDX_MODE 3 2 = true ∧
    runs (.tdxMode 5 3 2) base (fun t => said t Obj.TDX_MODE 3 (.ack []) && (t.sensor 42).unreported == 8 &&
      t.obj Obj.TDX_MODE 3 == 2) = true := by decide +kernel

/-! ### Lobes -/

/-- The base with the records of both lobes. -/
def lobes (a b : Lobe) : State := { base with lobes := { each := ⟨a, b⟩, gateBase := 7 } }

theorem witness_Heartbeats_1 : runs (.heartbeatSend 0) (lobes { role := .active, claim := 7, seenEpoch := 3 } { role := .standby })
    (fun t => t.lobes.sent.head?.map (·.claim) == some 7 && (t.lobe 0).hbAt == some 25600) = true ∧
    runs (.heartbeatSend 0) { base with lobes := { base.lobes with final := some (4, 99), snap := some (base.snapshotNow 4) } }
      (fun t => t.lobes.sent.head?.map (·.handover) == some (some 101)) = true := by decide +kernel

theorem witness_Heartbeats_2 : ((lobes { role := .active } {}).lobe 1).role = .offline ∧
    runs (.heartbeatSend 0) (lobes { role := .active, hbAt := some 24038 } {}) (fun t => t.lobes.sent.isEmpty) = true := by decide +kernel

/-- A heartbeat of the ACTIVE lobe A. -/
def beat : Heartbeat := { lobe := 0, role := .active, claim := 9, epoch := 3, snapSeq := 1, handover := some 101 }

theorem witness_Heartbeats_3 : runs (.heartbeatReceive 1 1 beat true) base (fun t => (t.lobe 1).seenEpoch == 4 &&
    (t.lobe 1).lastHb == some 25600 && t.lobes.handover == some 101 && ((t.hbPath 1).rx.at 1).last == 25600) = true ∧
    runs (.heartbeatReceive 0 0 { beat with lobe := 1, role := .standby } true) { base with time := { ctr := ⟨{ ns := 1 }, {}⟩ } }
      (fun t => t.time.resyncDue) = true := by decide +kernel

theorem witness_Heartbeats_4 : runs (.heartbeatReceive 1 0 { beat with yield := some 5 } true) base
    (fun t => (t.lobe 1).claiming == some (2, 25600) && (t.lobe 1).claim == 10) = true := by decide +kernel

/-- The second path brings the YIELD again: the lobe claims already, or is ACTIVE under a higher epoch. -/
theorem witness_Heartbeats_4_again :
    runs (.heartbeatReceive 1 1 { beat with yield := some 5 } true) (lobes {} { role := .standby, claim := 10, claiming := some (2, 25000) })
      (fun t => (t.lobe 1).claiming == some (2, 25000) && (t.lobe 1).claim == 10) = true ∧
    runs (.heartbeatReceive 1 1 { beat with yield := some 5 } true) (lobes {} { role := .active, claim := 10, seenEpoch := 5 })
      (fun t => (t.lobe 1).claiming.isNone && (t.lobe 1).claim == 10) = true := by decide +kernel

theorem witness_Heartbeats_5 : runs (.heartbeatReceive 1 0 beat false) base (fun t => t.lobes == base.lobes) = true ∧
    runs (.heartbeatReceive 0 0 beat true) base (fun t => t.lobes == base.lobes) = true := by decide +kernel

theorem witness_Heartbeats_6 :
    runs (.hbPathFailed 0) { base with lobes := { base.lobes with paths := ⟨{}, { rx := ⟨{ last := 25599 }, {}⟩ }⟩ } }
      (fun t => (t.hbPath 0).failed) = true ∧
    runs (.hbPathFailed 0) base (fun t => !(t.hbPath 0).failed) = true := by decide +kernel

theorem witness_Heartbeats_7 :
    runs (.peerLost 1) (lobes { role := .active } { role := .standby, lastHb := some (25600 - 4689), seenEpoch := 3 })
      (fun t => (t.lobe 1).claim == 8 && (t.lobe 1).claiming == some (1, 25600)) = true ∧
    runs (.peerLost 1) (lobes { role := .active } { role := .standby, lastHb := some (25601 - 4689) })
      (fun t => (t.lobe 1).claiming.isNone) = true ∧
    runs (.peerLost 1) (lobes { role := .active } { role := .standby, lastHb := some 9, claiming := some (2, 9) })
      (fun t => (t.lobe 1).claiming == some (2, 9)) = true ∧
    runs (.peerLost 0) (lobes { role := .active, lastHb := some 1, noReclaim := true } {}) (fun t => (t.lobe 0).linkLost) = true := by
  decide +kernel

/-- Lobe B has passed its diagnosis and waits: an ACTIVE heartbeat takes it to SYNCING, and without one it claims. -/
def waitsB (heard : Option Nat) : State :=
  lobes { role := .active } { role := .diagnosing, bank := some 0, diagnosed := true, heardActive := heard, seenEpoch := 3 }

theorem witness_Heartbeats_8 : ((waitsB none).lobe 1).waitsDiagnosed = true ∧
    runs (.heartbeatReceive 1 0 beat true) (waitsB none) (fun t => (t.lobe 1).role == .syncing) = true ∧
    runs (.peerLost 1) (waitsB (some 20912)) (fun t => (t.lobe 1).claiming.isNone) = true ∧
    runs (.peerLost 1) (lobes {} { role := .diagnosing, bank := some 0, diagnosed := true, since := 20912 }) (fun t => (t.lobe 1).claiming.isNone) =
      true ∧
    runs (.peerLost 1) (waitsB (some 20911)) (fun t => (t.lobe 1).claiming == some (0, 25600) && (t.lobe 1).claim == 8) = true := by
  decide +kernel

/-- The claims of R332's example: lobe B with 0x66 meets lobe A's 0x67. -/
theorem witness_ClaimsAndTakeover_1 :
    runs (.claimBroadcast 1) { lobes {} { role := .active, claim := 0x66 } with
        lobes := { each := ⟨{}, { role := .active, claim := 0x66 }⟩, gateBase := 0x67 } }
      (fun t => (t.lobe 1).role == .standby && t.objN Obj.CLAIM_MAX 0 == 0x67) = true ∧
    runs (.claimBroadcast 0) (lobes { role := .active, claim := 9 } {}) (fun t => (t.lobe 0).role == .active &&
      t.lobes.gateBase == 9 && (t.lobe 0).seenEpoch == 4) = true := by decide +kernel

/-- Lobe A's claim 7 has won its broadcast over claim 3. -/
def broadcastWon : State :=
  { lobes { role := .active, claim := 7 } {} with lobes := { each := ⟨{ role := .active, claim := 7 }, {}⟩, gateBase := 7, gatePrev := 3 } }

theorem witness_ClaimsAndTakeover_2 : broadcastWon.winner = true ∧ mget 0 broadcastWon.lobes.gateHigh 3873 < broadcastWon.lobes.gateBase ∧
    runs (.gateFault 3873) broadcastWon (fun t => mfind t.lobes.gateStuck 3873 == some 3) = true ∧
    base.gateMisses 3873 = false ∧ runs (.gateFault 3873) base (fun t => t.lobes == base.lobes) = true := by decide +kernel

theorem witness_ClaimsAndTakeover_3 :
    runs (.writeRefused 0 3873) (lobes { role := .active, claim := 6 } {}) (fun t => (t.lobe 0).role == .standby) = true ∧
    runs (.writeRefused 0 3873) (lobes { role := .active, claim := 7 } {}) (fun t => (t.lobe 0).role == .active &&
      mfind t.lobes.gateStuck 3873 == some 7) = true ∧
    runs (.writeRefused 0 3873) { broadcastWon with lobes := { broadcastWon.lobes with refused := [(0, 3873)] } }
      (fun t => t.lobes.refused == []) = true := by decide +kernel

theorem witness_ClaimsAndTakeover_4 :
    runs (.lobeFailover 1) (lobes { role := .active, claim := 5 } { role := .standby, claim := 7, claiming := some (1, 25000) })
      (fun t => (t.lobe 1).role == .active && (t.lobe 0).role == .diagnosing && t.objN Obj.FAILOVERS 0 == 1 &&
        t.objN Obj.LAST_FAILOVER_CAUSE 0 == 1) = true ∧
    runs (.lobeFailover 0) (lobes { role := .syncing, claim := 7, claiming := some (1, 25000) } { role := .active, claiming := some (1, 25000) })
      (fun t => (t.lobe 0).role == .active && (t.lobe 1).role == .standby && t.objN Obj.LAST_FAILOVER_CAUSE 0 == 3) = true ∧
    runs (.lobeFailover 0) (lobes { role := .standby, claim := 7, claiming := some (1, 25000) } { role := .standby, lostAt := some 25000 })
      (fun t => (t.lobe 0).role == .active && (t.lobe 1).role == .standby && t.objN Obj.LAST_FAILOVER_CAUSE 0 == 3) = true := by
  decide +kernel

theorem witness_ClaimsAndTakeover_5 :
    runs (.lobeFailover 0) { lobes { role := .diagnosing, claim := 7, claiming := some (0, 1) } {} with dev := { state := .boot } }
      (fun t => (t.lobe 0).role == .active && t.dev.state == .selftest) = true := by decide +kernel

theorem witness_ClaimsAndTakeover_6 :
    runs (.lobeFailover 0) (lobes { role := .active, claim := 7, claiming := some (1, 1) } {}) (fun t => (t.lobe 0).role == .active &&
      (t.lobe 0).claiming.isNone) = true ∧
    runs (.lobeFailover 0) (lobes { role := .active, claim := 7, claiming := some (1, 1) } { role := .standby, claim := 4 })
      (fun t => (t.lobe 1).role == .diagnosing && (t.lobe 1).claim == 0 && t.dev.faults.contains (.lobe 1)) = true ∧
    runs (.lobeFailover 0) (lobes { role := .active, claim := 7, claiming := some (1, 1) } { role := .diagnosing })
      (fun t => (t.lobe 1).role == .diagnosing && !t.dev.faults.contains (.lobe 1)) = true ∧
    runs (.lobeFailover 0) (lobes { role := .active, claim := 7 } {}) (fun t => (t.lobe 0).role == .active) = true ∧
    runs (.lobeFailover 0) (lobes { role := .standby, claim := 6, claiming := some (1, 1) } {}) (fun t => (t.lobe 0).role == .standby) = true := by
  decide +kernel

theorem witness_LobeFaults_1 :
    runs (.lobeYielded 0 5) (lobes { role := .active, claim := 7 } { role := .standby }) (fun t => (t.lobe 0).role == .diagnosing &&
      (t.lobe 0).health == 16 && (t.lobe 1).role == .standby && t.dev.faults.contains (.lobe 0) &&
      t.lobes.sent.head?.any fun h => h.yield == some 5) = true ∧
    runs (.watchdogExpiry 1 3) base (fun t => (t.lobe 1).role == .diagnosing && (t.lobe 1).health == 2) = true ∧
    runs (.lobeLocalMemoryError 1) base (fun t => (t.lobe 1).health == 4) = true ∧
    runs (.lobeSupplyFault 1) base (fun t => (t.lobe 1).health == 8) = true ∧
    runs (.counterFault 1) (lobes { role := .active } {}) (fun t => t.time.ctr.b.fault && (t.lobe 1).role == .offline) = true := by
  decide +kernel

theorem witness_LobeFaults_2 : base.active.isSome = true ∧ base.standby.isSome = true ∧
    runs (.digestCompare [(41, 1)]) base (fun t => t.objN Obj.XCMP_MISMATCHES 41 == 1 && t.lobes.katCols == [41]) = true ∧
    base.lobes.compared < base.scan ∧ base.scanDecisions 41 = [] ∧
    runs (.digestCompare [(41, 0)]) base (fun t => t.objN Obj.XCMP_MISMATCHES 41 == 0 && t.lobes == { base.lobes with compared := 100 }) = true ∧
    runs (.digestCompare [(41, 1)]) { base with loops := { cols := [(41, { ended := 100, endOver := true })] } }
      (fun t => t.objN Obj.XCMP_EXCUSED 41 == 1) = true ∧
    runs (.digestCompare [(41, 1)]) { base with loops := { cols := [(41, { overRange := true })] } }
      (fun t => t.objN Obj.XCMP_EXCUSED 41 == 1) = true := by decide +kernel

/-- Lobe B SYNCING after five clean scans, its state copied a scan ago. -/
def syncingB : State := lobes { role := .active } { role := .syncing, cleanScans := 5, copied := some 99 }

theorem witness_LobeFaults_2_syncing : syncingB.active.isSome = true ∧ syncingB.standby = none ∧ syncingB.digestOf 41 = 0 ∧
    runs (.digestCompare [(41, 0)]) syncingB (fun t => (t.lobe 1).cleanScans == 6) = true ∧
    runs (.digestCompare [(41, 1)]) syncingB (fun t => (t.lobe 1).cleanScans == 0) = true := by decide +kernel

theorem witness_LobeFaults_3 : runs (.digestCompare [(41, 1)]) { base with tick := 25601 } (fun t => t.lobes == base.lobes) = true ∧
    runs (.digestCompare [(41, 1)]) { base with lobes := { base.lobes with compared := 100 } } (fun t => t.lobes.katCols == []) = true := by
  decide +kernel

/-- A known-answer test of column 41 to be judged, after a number of mismatches. -/
def testing (n : Nat) : State :=
  { base with lobes := { base.lobes with katCols := [41], mismatches := [(41, List.replicate n 25600)] } }

theorem witness_LobeFaults_4 : (testing 2).active = some 0 ∧ (testing 2).standby = some 1 ∧
    runs (.katDone 41 true true) (testing 2) (fun t => (t.lobe 1).role == .standby && t.lobes.katCols == []) = true ∧
    runs (.katDone 41 true true) (testing 3) (fun t => (t.lobe 1).role == .diagnosing) = true ∧
    runs (.katDone 41 false true) (testing 3) (fun t => (t.lobe 0).role == .diagnosing && (t.lobe 1).role == .standby) = true ∧
    runs (.katDone 41 false false) (testing 1) (fun t => (t.lobe 0).role == .active && (t.lobe 1).role == .diagnosing) = true := by
  decide +kernel

theorem witness_LobeFaults_5 :
    runs (.katDone 41 true true) (lobes { role := .active } { role := .standby, katPending := true, katTurn := 41 })
      (fun t => (t.lobe 1).katTurn == 0 && (t.lobe 1).role == .standby) = true ∧
    runs (.katDone 41 true false) (lobes { role := .active } { role := .standby, katPending := true, katTurn := 41 })
      (fun t => (t.lobe 1).role == .diagnosing) = true := by decide +kernel

theorem witness_LobeFaults_6 : 
    runs (.katIntervalEnd 1) { base with tick := 156250000 } (fun t => (t.lobe 1).katPending &&
      (t.lobe 1).katAt == 156250000) = true ∧
    runs (.katIntervalEnd 1) { base with tick := 156249999 } (fun t => !(t.lobe 1).katPending) = true := by decide +kernel

/-- A lobe A in diagnosis under an ACTIVE lobe B, whose heartbeat came at a tick, after some failures. -/
def diagnosing (k : Nat) (fails : List Nat) : State :=
  lobes { role := .diagnosing, bank := some 0, heardActive := some k, diagFails := fails, seenEpoch := 3 } { role := .active }

theorem witness_DiagnosisAndHold_1 :
    runs (.diagnosisEnd 0 true) (diagnosing 20912 []) (fun t => (t.lobe 0).role == .syncing) = true ∧
    runs (.diagnosisEnd 0 true) (diagnosing 20911 []) (fun t => (t.lobe 0).role == .diagnosing && (t.lobe 0).claim == 9) = true ∧
    runs (.diagnosisEnd 0 true) (lobes { role := .diagnosing, bank := some 0, seenEpoch := 1 } {})
      (fun t => (t.lobe 0).claim == 9 && (t.lobe 0).claiming == some (0, 25600)) = true ∧
    runs (.diagnosisEnd 0 true) (lobes { role := .diagnosing, bank := some 0, since := 20912, seenEpoch := 1 } {})
      (fun t => (t.lobe 0).claim == 0 && (t.lobe 0).diagnosed && (t.lobe 0).seenEpoch == 3) = true ∧
    runs (.diagnosisEnd 0 true) (lobes { role := .diagnosing, bank := some 0, heardActive := some 20912 } {})
      (fun t => (t.lobe 0).role == .diagnosing && (t.lobe 0).diagnosed) = true := by
  decide +kernel

theorem witness_DiagnosisAndHold_2 :
    runs (.diagnosisEnd 0 false) (diagnosing 1 [25000]) (fun t => t.objN Obj.DIAG_FAILS 0 == 2 && (t.lobe 0).role == .diagnosing &&
      (t.lobe 0).retryAt == some 1562525600) = true ∧
    runs (.diagnosisEnd 0 false) (diagnosing 1 [25000, 25001]) (fun t => t.objN Obj.DIAG_FAILS 0 == 3 && (t.lobe 0).role == .offline &&
      t.dev.faults.contains (.lobe 0)) = true := by decide +kernel

theorem witness_DiagnosisAndHold_3 :
    runs (.diagRetry 0) (lobes { role := .diagnosing, retryAt := some 25600 } {}) (fun t => (t.lobe 0).retryAt.isNone) = true ∧
    runs (.diagRetry 0) (lobes { role := .diagnosing, retryAt := some 25601 } {}) (fun t => (t.lobe 0).retryAt.isSome) = true := by
  decide +kernel

theorem witness_DiagnosisAndHold_4 :
    runs (.resyncDone 1) (lobes { role := .active } { role := .syncing, cleanScans := 64 }) (fun t => (t.lobe 1).role == .standby) = true ∧
    runs (.resyncDone 1) { lobes { role := .active } { role := .syncing, cleanScans := 64 } with tick := 312500001 }
      (fun t => (t.lobe 1).role == .diagnosing) = true ∧
    runs (.resyncDone 1) { lobes { role := .active } { role := .syncing, cleanScans := 63 } with tick := 312500000 }
      (fun t => (t.lobe 1).role == .diagnosing) = true ∧
    runs (.resyncDone 1) (lobes { role := .active } { role := .syncing, cleanScans := 63 }) (fun t => (t.lobe 1).role == .syncing) = true := by
  decide +kernel

theorem witness_DiagnosisAndHold_5 : base.accepts 5 Obj.LOBE_RESET 1 1 = true ∧ base.accepts 5 Obj.LOBE_RESET 0 1 = true ∧
    runs (.lobeReset 5 1) base (fun t => said t Obj.LOBE_RESET 1 (.ack []) && (t.lobe 1).role == .diagnosing) = true ∧
    runs (.lobeReset 5 0) base (fun t => said t Obj.LOBE_RESET 0 (.nak .state 0 0)) = true := by decide +kernel

theorem witness_SnapshotsAndSwaps_1 :
    runs .snapshotCapture base (fun t => t.lobes.snapSeq == 1 && t.lobes.capture.any fun x => x.seq == 1 && x.scan == 100) = true ∧
    runs .snapshotCapture { base with tick := 25601 } (fun t => t.lobes.capture.isNone) = true ∧
    runs .snapshotCapture { base with tick := 156416, lobes := { base.lobes with lastCapture := some 256 } } (fun t => t.lobes.capture.isNone) = true ∧
    runs .snapshotCapture { base with tick := 156672, lobes := { base.lobes with lastCapture := some 256 } }
      (fun t => t.lobes.capture.isSome && t.lobes.lastCapture == some 156672) = true := by decide +kernel

/-- An ACTIVE lobe that is to leave: its next snapshot is the final one, and element 3's wrap pauses. -/
def leavingA : State :=
  { lobes { role := .active, offlineDue := true } { role := .standby } with
    loops := { elems := [(3, { state := .wrapping, wrap := some { d := 1, hStart := 0, hEnd := 32768, hCmd := 0, hModel := 0 } })] } }

theorem witness_SnapshotsAndSwaps_1_final : leavingA.maySwap = true ∧ leavingA.lobes.final = none ∧
    runs .snapshotCapture leavingA (fun t => t.lobes.final == some (1, 100) && (t.elem 3).state == .locked &&
      t.lobes.capture.any fun x => x.seq == 1) = true := by decide +kernel

/-- Snapshot n captured, snapshot m the last complete one. -/
def captured (n m : Nat) : State :=
  { base with lobes := { base.lobes with capture := some (base.snapshotNow n), snap := some { base.snapshotNow m with tick := 0 } } }

theorem witness_SnapshotsAndSwaps_2 : (captured 2 1).snapOn = true ∧ ((captured 2 1).lobe 0).linkLost = false ∧
    ((captured 2 1).lobe 1).linkLost = false ∧
    runs (.snapshotReceived true) (captured 2 1) (fun t => t.lobes.snap.any fun x => x.seq == 2) = true ∧
    runs (.snapshotReceived false) (captured 2 1) (fun t => t.objN Obj.SNAP_DISCARDS 0 == 1 && t.lobes.snap.any fun x => x.seq == 1) = true ∧
    runs (.snapshotReceived true) (captured 2 2) (fun t => t.objN Obj.SNAP_DISCARDS 0 == 1) = true := by decide +kernel

theorem witness_SnapshotsAndSwaps_3 :
    runs .snapshotLate { captured 2 1 with tick := 468751 } (fun t => t.lobes.snapLate) = true ∧
    runs .snapshotLate { captured 2 1 with tick := 468750 } (fun t => !t.lobes.snapLate) = true := by decide +kernel

theorem witness_SnapshotsAndSwaps_4 : base.obj Obj.SWAP_ENABLE 0 = 1 ∧
    runs .swapDue { base with tick := 21600 * 156250000 } (fun t => t.lobes.swapDue.isSome) = true ∧
    runs .swapDue base (fun t => t.lobes.swapDue.isNone) = true := by decide +kernel

theorem witness_SnapshotsAndSwaps_5 : base.accepts 5 Obj.SWAP_NOW 0 1 = true ∧
    runs (.swapNow 5) base (fun t => said t Obj.SWAP_NOW 0 (.ack []) && t.lobes.swapAsked) = true ∧
    runs (.swapNow 5) (lobes { role := .active } { role := .syncing }) (fun t => said t Obj.SWAP_NOW 0 (.nak .state 0 0)) = true := by
  decide +kernel

/-- A swap is due, the partner STANDBY for a second and the snapshot fresh; the boundary that HANDOVER named has come, the final
snapshot, 7, complete. -/
def swapping (l : Lobes) : State :=
  { base with tick := 156250112, lobes := { l with each := base.lobes.each, swapDue := some 0, final := some (7, 610351),
                                                   snap := some { base.snapshotNow 7 with tick := 156250000 } } }

def handed : State := swapping { handover := some 610352 }

/-- A calibration waits, so that a swap may not be. -/
def barred (s : State) : State := { s with cal := { queue := [⟨1, 6, 0⟩] } }

theorem witness_SnapshotsAndSwaps_6 : handed.swapBar = none ∧ handed.tick % 256 = 0 ∧ handed.leaving = false ∧ handed.scan = 610352 ∧
    handed.finalDone = true ∧
    runs .roleSwapped handed (fun t => (t.lobe 1).role == .active && (t.lobe 0).role == .standby && t.lobes.swapDue.isNone &&
      (t.lobe 0).claim == 0 && t.lobes.swapped == some (1, (t.lobe 1).claim) &&
      t.objN Obj.LAST_FAILOVER_CAUSE 0 == 4) = true ∧
    runs .roleSwapped (barred handed) (fun t => (t.lobe 0).role == .active && t.lobes.final.isNone && t.lobes.handover.isNone &&
      t.lobes.swapDue.isNone) = true := by decide +kernel

theorem witness_SnapshotsAndSwaps_7 : (swapping {}).lobes.handover = none ∧
    runs .roleSwapped (swapping {}) (fun t => t.lobes.each == base.lobes.each && t.lobes.swapDue == some 0 && t.lobes.final.isSome) = true := by
  decide +kernel

/-- The conditions fail once the final snapshot is taken: the swap is abandoned. -/
theorem witness_SnapshotsAndSwaps_8 : (barred (swapping {})).maySwap = false ∧
    runs .swapSkipped (barred (swapping {})) (fun t => t.lobes.final.isNone && t.lobes.swapDue.isNone) = true := by decide +kernel

/-- A swap due with no final snapshot. -/
def waitsSwap (tick : Nat) : State :=
  { base with tick := tick, lobes := { each := base.lobes.each, swapDue := some 0, snap := some { base.snapshotNow 7 with tick := 156250000 } } }

theorem witness_SnapshotsAndSwaps_9 : (barred (waitsSwap 156250112)).swapBar = some 4 ∧
    runs .swapSkipped (barred (waitsSwap 156250112)) (fun t => t.lobes.swapDue == some 0) = true ∧
    (barred (waitsSwap (60 * 156250000))).swapBar = some 2 ∧
    runs .swapSkipped (barred (waitsSwap (60 * 156250000))) (fun t => t.lobes.swapDue.isNone && t.lobes.lastTakeover == 9375000000) =
      true := by
  decide +kernel

theorem witness_DiagnosisAndHold_6 : runs (.lobeDisPin 0 false) base (fun t => (t.lobe 0).role == .offline && (t.lobe 1).role == .standby) = true := by
  decide +kernel

theorem witness_DiagnosisAndHold_7 :
    runs (.lobeDisPin 1 true) (lobes { role := .active } { strapHigh := false }) (fun t => (t.lobe 1).role == .diagnosing) = true ∧
    runs (.lobeDisPin 0 true) base (fun t => (t.lobe 0).role == .active) = true := by decide +kernel

theorem witness_DiagnosisAndHold_8 : base.accepts 5 Obj.LOBE_HOLD_OFFLINE 0 1 = true ∧
    runs (.lobeHoldOffline 5 0 1) base (fun t => said t Obj.LOBE_HOLD_OFFLINE 0 (.ack []) && (t.lobe 0).offlineDue &&
      (t.lobe 0).role == .active) = true ∧
    runs (.lobeHoldOffline 5 1 1) base (fun t => said t Obj.LOBE_HOLD_OFFLINE 1 (.ack []) && (t.lobe 1).role == .offline) = true ∧
    runs (.lobeHoldOffline 5 0 1) (lobes { role := .active } {}) (fun t => said t Obj.LOBE_HOLD_OFFLINE 0 (.nak .state 0 0)) = true := by
  decide +kernel

/-- Lobe B held OFFLINE by its object. -/
def heldOffline : State := { lobes { role := .active } {} with objs := [(Obj.LOBE_HOLD_OFFLINE, [(1, 1)])] }

theorem witness_DiagnosisAndHold_9 : heldOffline.accepts 5 Obj.LOBE_HOLD_OFFLINE 1 0 = true ∧
    runs (.lobeHoldOffline 5 1 0) heldOffline (fun t => said t Obj.LOBE_HOLD_OFFLINE 1 (.ack []) && (t.lobe 1).role == .diagnosing) = true := by
  decide +kernel

/-- A lobe to leave, the boundary of its hand-over come. -/
def leaveNow : State :=
  { leavingA with lobes := { leavingA.lobes with final := some (7, 99), handover := some 100, snap := some (base.snapshotNow 7) } }

theorem witness_DiagnosisAndHold_10 : leaveNow.leaving = true ∧ leaveNow.finalDone = true ∧
    runs .roleSwapped leaveNow
      (fun t => (t.lobe 1).role == .active && (t.lobe 0).role == .offline) = true := by decide +kernel

/-! ### Capture -/

/-- Buffer 2 in a given record, an automatic trigger and one photodiode channel set for it. -/
def capture (x : CapBuf) : State :=
  { base with sorus := { bufs := [(2, x)] }, objs := [(Obj.CAP_AUTO, [(2, 1)])],
              octs := [(Obj.CAP_CHANNELS, [(2, beBytes 4 0x10000000 ++ List.replicate 60 0)]), (Obj.CAP_MASK, [(2, List.replicate 1280 0)])] }

theorem witness_Captures_1 : (capture {}).accepts 5 Obj.CAP_ARM 2 1 = true ∧ ((capture {}).func 7).pending = none ∧
    (capture {}).armNak 2 ((capture {}).capCfg 2) = none ∧ base.accepts 5 Obj.CAP_ARM 0 1 = true ∧
    runs (.capArm 5 2) (capture {}) (fun t => said t Obj.CAP_ARM 2 (.ack []) && (t.buf 2).starting) = true ∧
    runs (.capArm 5 2) (capture { state := .armed }) (fun t => said t Obj.CAP_ARM 2 (.nak .busy 0 0)) = true ∧
    runs (.capArm 5 2) { capture {} with objs := [] } (fun t => said t Obj.CAP_ARM 2 (.nak .range 0 0)) = true := by decide +kernel

theorem witness_Captures_2 : base.accepts 5 Obj.CAP_ARM 7 2 = true ∧
    runs (.capEnd 5 7) base (fun t => said t Obj.CAP_ARM 7 (.ack []) && (t.buf 7).ending) = true := by decide +kernel

theorem witness_Captures_3 : (capture { state := .armed }).accepts 5 Obj.CAP_FORCE 2 1 = true ∧
    runs (.capForce 5 2) (capture { state := .armed }) (fun t => said t Obj.CAP_FORCE 2 (.ack []) && (t.buf 2).force) = true ∧
    runs (.capForce 5 2) (capture { state := .triggered }) (fun t => said t Obj.CAP_FORCE 2 (.nak .busy 0 0)) = true ∧
    runs (.capForce 5 2) (capture {}) (fun t => said t Obj.CAP_FORCE 2 (.nak .state 0 0)) = true ∧
    runs (.capForce 5 2) (capture { state := .filling, cfg := { preMode := 1 } }) (fun t => said t Obj.CAP_FORCE 2 (.nak .notReady 0 0)) = true := by
  decide +kernel

theorem witness_Captures_4 : (capture { lastTick := some 25345 }).frameDue 2 = false ∧ ((capture { lastTick := some 25345 }).buf 2).opens = [] ∧
    runs (.captureFrame 2) (capture { state := .armed, lastTick := some 25345 }) (fun t => (t.buf 2).lastTick == some 25345) = true := by
  decide +kernel

/-- Buffer 2 with short segments, at a frame instant. -/
def framed (x : CapBuf) : State := capture { x with cfg := { chans := [0x10000000], length := 8, pre := 2, preMode := 1 }, lastTick := some 25344 }

theorem witness_Captures_5 : (framed {}).frameDue 2 = true ∧ ((framed { ending := true }).buf 2).cur = none ∧
    runs (.captureFrame 2) (framed { ending := true, state := .armed }) (fun t => (t.buf 2).state == .idle && !(t.buf 2).ending) = true ∧
    runs (.captureFrame 2) (framed { starting := true }) (fun t => !(t.buf 2).starting && (t.buf 2).filled == 0 && (t.buf 2).state == .filling &&
      (t.buf 2).opens.map (·.tick) == [25600]) = true ∧
    runs (.captureFrame 2) (framed { state := .armed, force := true }) (fun t => (t.buf 2).state == .armed && !(t.buf 2).force &&
      (t.buf 2).opens.map (·.force) == [true]) = true := by decide +kernel

/-- The sample of channel 0 of the scan of the frame instant has come. -/
def sampleThere (x : CapBuf) : State := { framed x with mon := { pds := [(0, { at_ := 100 })] } }

theorem witness_Captures_5_there :
    (∀ c ∈ ((sampleThere { starting := true }).buf 2).cfg.chans, (sampleThere { starting := true }).waitScan false c = some 100 ∧
      100 ≤ ((sampleThere { starting := true }).pd (chanIndexOf c)).at_) ∧
    ((sampleThere { starting := true }).buf 2).cfg.pre = 2 ∧ ((sampleThere { state := .armed, force := true }).buf 2).cfg.length = 8 ∧
    (sampleThere { state := .armed, force := true }).frameDue 2 = true := by decide +kernel

/-- An instant of a frame that waits for its samples. -/
def opened : CapInstant := { time := 9, tick := 25344, words := [(0x10000000, 0)], waits := [(0x10000000, 99)], pins := 0, force := false, hold := false, fo := false, acc := {} }

/-- Buffer 2 with that frame, the newest sample of its channel one of a scan, between two frame instants. -/
def openedBuf (n : Nat) : State :=
  { capture { state := .filling, opens := [opened], cfg := { chans := [0x10000000], length := 8, pre := 3, preMode := 1 }, lastTick := some 25345 } with
    mon := { pds := [(0, { at_ := n })] } }

theorem witness_Captures_5_closing : (openedBuf 99).frameDue 2 = false ∧ (openedBuf 99).sampled ((openedBuf 99).buf 2) opened = true ∧
    runs (.captureFrame 2) (openedBuf 99) (fun t => (t.buf 2).opens.isEmpty && (t.buf 2).filled == 1 && (t.buf 2).lastTime == 9) = true ∧
    runs (.captureFrame 2) (openedBuf 98) (fun t => (t.buf 2).opens.length == 1) = true := by decide +kernel

theorem witness_Captures_6 :
    runs (.capAutoTrigger 2) (capture { state := .armed, cfg := { auto := true }, idleFrames := 65535 }) (fun t => (t.buf 2).auto) = true ∧
    runs (.capAutoTrigger 2) (capture { starting := true, cfg := { auto := true, autoTimeout := 1 } }) (fun t => (t.buf 2).auto) = true ∧
    runs (.capAutoTrigger 2) (capture { state := .armed, cfg := { auto := true }, idleFrames := 65534 }) (fun t => !(t.buf 2).auto) = true := by
  decide +kernel

theorem witness_Captures_7 :
    runs (.rearmEnd 2) (capture { state := .rearm, filled := 7 }) (fun t => (t.buf 2).filled == 0 && (t.buf 2).state == .filling) = true ∧
    runs (.rearmEnd 2) (capture { state := .rearm, filled := 7, rearmLeft := 1 }) (fun t => (t.buf 2).filled == 7) = true := by decide +kernel

theorem witness_Captures_8 : (capture {}).accepts 5 Obj.CAP_RELEASE 2 9 = true ∧
    runs (.capRelease 5 2 9) (capture { segs := [{ seq := 8 }, { seq := 9 }] })
      (fun t => said t Obj.CAP_RELEASE 2 (.ack []) && (t.buf 2).segs.map (·.seq) == [8]) = true ∧
    runs (.capRelease 5 2 9) (capture {}) (fun t => said t Obj.CAP_RELEASE 2 (.nak .unknown 0 0)) = true := by decide +kernel

theorem witness_Captures_9 : runs (.trigInEdge 1) { capture {} with time := { ctr := ⟨{ ns := 1000 }, {}⟩ } }
    (fun t => t.objN Obj.TRIG_IN_EDGES 1 == 1 && (t.buf 2).acc.edges == [(1, 980)] &&
      mfind t.sorus.edgeAt 1 == some 25600) = true := by decide +kernel

theorem witness_Captures_10 :
    runs (.trigOutPulseEnd 1) { base with sorus := { pulseEnd := [(0, 30000), (1, 25600)] } } (fun t => t.sorus.pulseEnd == [(0, 30000)]) = true ∧
    runs (.trigOutPulseEnd 0) { base with sorus := { pulseEnd := [(0, 30000)] } } (fun t => t.sorus.pulseEnd == [(0, 30000)]) = true := by
  decide +kernel

theorem witness_Captures_11 : base.accepts 5 Obj.RING_LENGTH 15 4194304 = true ∧
    runs (.ringLength 5 15 4194304) base (fun t => said t Obj.RING_LENGTH 15 (.ack []) && (t.ring 15).pendingLen == some 4194304) = true ∧
    runs (.ringLength 5 15 4194304) { base with objs := [(Obj.RING_LENGTH, [(0, 64)])] }
      (fun t => said t Obj.RING_LENGTH 15 (.nak .full 0 0)) = true := by decide +kernel

/-- Ring 3 with two records. -/
def ringed : State := { base with sorus := { rings := [(3, { recs := [(0, [1]), (32, [2])], wp := 64, length := 65536 })] } }

theorem witness_Captures_12 : ringed.accepts 5 Obj.RING_RP 3 32 = true ∧
    runs (.ringRp 5 3 32) ringed (fun t => said t Obj.RING_RP 3 (.ack []) && (t.ring 3).rp == 32) = true ∧
    runs (.ringRp 5 3 64) ringed (fun t => said t Obj.RING_RP 3 (.ack []) && (t.ring 3).recs.isEmpty) = true ∧
    runs (.ringRp 5 3 31) ringed (fun t => said t Obj.RING_RP 3 (.nak .range 0 0)) = true := by decide +kernel

/-! ### Ports, classification and queues -/

/-- The base with two ports, port 1 preferred, MAC addresses given and SELFTEST past its ports. -/
def ported (a b : Port) : State :=
  { base with net := { ports := ⟨a, b⟩ }, dev := { base.dev with selfStep := 9 },
              octs := [(Obj.MAC_ADDR, [(0, [2, 0, 0, 0, 0, 1]), (1, [2, 0, 0, 0, 0, 2])])] }

theorem witness_Ports_1 : base.ticking = true ∧
    runs (.pcsLockChange 1 ⟨true, 3, 2⟩) { ported {} {} with objs := [(Obj.FEC_MODE, [(1, 1)])] } (fun t => (t.port 1).lock &&
      (t.port 1).lockSince == 25600 && t.objN Obj.FEC_CORRECTED 1 == 3 && t.objN Obj.FEC_UNCORRECTED 1 == 2) = true ∧
    runs (.pcsLockChange 1 ⟨true, 3, 2⟩) { ported {} {} with objs := [(Obj.FEC_MODE, [(1, 0)])] } (fun t => t.objN Obj.FEC_CORRECTED 1 == 0) =
      true ∧
    runs (.pcsLockChange 1 ⟨true, 0, 0⟩) base (fun t => !(t.port 1).lock) = true := by decide +kernel

theorem witness_Ports_2 :
    runs (.linkDown 0) { ported { up := true } { up := true, role := 1 } with tick := 300000 }
      (fun t => !(t.port 0).up && (t.port 0).role == 3 && (t.port 1).role == 0 && t.objN Obj.LINK_FLAPS 0 == 1) = true ∧
    runs (.linkDown 0) (ported { up := true, lockSince := 25600 } {}) (fun t => (t.port 0).up) = true := by decide +kernel

theorem witness_Ports_3 :
    runs (.linkUp 1) { ported { up := true } { lock := true } with tick := 1000000000 } (fun t => (t.port 1).up && (t.port 1).role == 1) = true ∧
    runs (.linkUp 1) (ported {} { lock := true, lockSince := 25600 }) (fun t => !(t.port 1).up) = true := by decide +kernel

theorem witness_Ports_4 :
    runs .announcementRepeat { base with net := { announce := [25600, 30000], announced := 1 } }
      (fun t => t.net.announced == 2 && t.net.announce == [30000]) = true ∧
    runs .announcementRepeat { ported { up := true } {} with net := { ports := ⟨{ up := true }, {}⟩, announce := [25600] }, objs := [(Obj.IPV4_ADDR, [(0, 9)])] }
      (fun t => t.net.toSend.map (fun e => (e.1, be e.2 12 2)) == [(0, 0x0806), (0, 0x86DD), (0, 0x86DD)]) = true ∧
    runs .announcementRepeat { base with net := { announce := [30000] } } (fun t => t.net.announced == 0) = true := by decide +kernel

/-- Port 1 preferred, secondary and UP, with REVERT. -/
def reverting : State :=
  { ported { up := true } { up := true, role := 1 } with objs := [(Obj.PREFERRED_PORT, [(0, 1)]), (Obj.REVERT, [(0, 1)])] }

theorem witness_Ports_5 : reverting.objN Obj.PREFERRED_PORT 0 = 1 ∧ reverting.obj Obj.REVERT 0 = 1 ∧ reverting.obj Obj.PORT_MODE 0 = 0 ∧
    runs .portRevert { reverting with tick := 1562500000 } (fun t => (t.port 1).role == 0 && (t.port 0).role == 1) = true ∧
    runs .portRevert { reverting with tick := 1562499999 } (fun t => (t.port 1).role == 1) = true := by decide +kernel

theorem witness_Ports_6 : base.accepts 5 Obj.PORT_ENABLE 1 0 = true ∧
    runs (.portEnable 5 1 0) { ported {} { lock := true } with net := { ports := ⟨{}, { lock := true }⟩, queues := [(9, { frames := [⟨64, 0, 0, false⟩] })] } }
      (fun t => said t Obj.PORT_ENABLE 1 (.ack []) && !(t.port 1).lock && (t.queue 9).frames.isEmpty) = true ∧
    runs (.portEnable 5 1 1) (ported {} { lock := true }) (fun t => (t.port 1).lock) = true := by decide +kernel

/-- An address staged, and port 0 sending or not. -/
def readdressed (a : Int) (sending : Bool) : State :=
  { ported { up := true, busy := if sending then some (0, 64, 25600) else none } {} with staged := [(Obj.IPV4_ADDR, [(0, a)])] }

theorem witness_Ports_7 : (readdressed 0x0A000001 false).accepts 5 Obj.NET_APPLY 0 1 = true ∧
    runs (.netApply 5) (readdressed 0x0A000001 false) (fun t => said t Obj.NET_APPLY 0 (.ack []) && t.obj Obj.IPV4_ADDR 0 == 0x0A000001 &&
      (t.stagedOf Obj.IPV4_ADDR).isEmpty) = true ∧
    runs (.netApply 5) (readdressed 0x0A000001 true) (fun t => t.net.netWait == [0] && t.obj Obj.IPV4_ADDR 0 == 0) = true ∧
    runs (.netApply 5) (readdressed 0x7F000001 false) (fun t => said t Obj.NET_APPLY 0 (.nak .range 0 0)) = true := by decide +kernel

/-- A broadcast frame of a type field and the bytes after it, without FCS. -/
def castFrame (etype : Nat) (body : List Byte) : List Byte :=
  padTo 60 (broadcastMac ++ [2, 0, 0, 0, 0, 9] ++ beBytes 2 etype ++ body)

/-- Both ports UP, classification in a mode. -/
def classing (host : Bool) (net : Network) : State :=
  { ported { up := true } { up := true } with net := { net with ports := ⟨{ up := true }, { up := true }⟩ }, funcs := [(8, { mode := boolNat host })] }

theorem witness_Classification_1 : runs (.frameReceive 0 (castFrame 0x1234 []) true true) (ported {} {}) (fun t => t.net == (ported {} {}).net) = true ∧
    runs (.frameReceive 2 (castFrame 0x1234 []) true true) (ported {} {}) (fun t => t.net == (ported {} {}).net) = true := by decide +kernel

theorem witness_Classification_2 : ((classing false {}).func 8).pending = none ∧ (classing false {}).hostMode 8 = false ∧
    macCheck (classing false {}) 1 (castFrame 0x1234 []) false = some Obj.RX_FCS_ERRORS ∧
    macCheck (classing false {}) 1 (broadcastMac) true = some Obj.RX_RUNT ∧
    runs (.frameReceive 1 (castFrame 0x1234 []) false true) (classing false {}) (fun t => t.objN Obj.RX_FCS_ERRORS 1 == 1) = true := by
  decide +kernel

theorem witness_Classification_3 : macCheck (classing false {}) 1 (castFrame 0x0800 [0x45]) true = none ∧
    checksumBad (castFrame 0x0800 [0x45]) = true ∧
    runs (.frameReceive 1 (castFrame 0x0800 [0x45]) true true) (classing false {}) (fun t => t.objN Obj.RX_CHECKSUM_BAD 1 == 1 &&
      t.objN Obj.RX_FRAMES 1 == 1 && t.objN Obj.RX_BYTES 1 == 64) = true := by decide +kernel

theorem witness_Classification_4 : macCheck (classing false {}) 1 (castFrame 0x88F7 []) true = none ∧
    checksumBad (castFrame 0x88F7 []) = false ∧ parseOutcome (castFrame 0x88F7 []) = none ∧
    guardKey (keyOf (classing false {}) 1 (castFrame 0x88F7 [])) = false ∧
    walk (classing false {}).net.rules.bank (keyOf (classing false {}) 1 (castFrame 0x88F7 [])) 33 0 = leafNode 2 7 1017 0 ∧
    runs (.frameReceive 1 (castFrame 0x88F7 []) true true) (classing false {}) (fun t => t.net.ptpIn.length == 1 &&
      t.objN Obj.LEAF_FRAMES 1017 == 1 && t.objN Obj.LEAF_BYTES 1017 == 64) = true ∧
    runs (.frameReceive 1 (castFrame 0x1234 []) true true) (classing false {}) (fun t => t.net.ptpIn.isEmpty &&
      t.objN Obj.LEAF_FRAMES 1023 == 1) = true := by decide +kernel

theorem witness_Classification_5 : (classing true {}).hostMode 8 = true ∧ (classing true {}).heldLate = false ∧
    runs (.frameReceive 0 (castFrame 0x1234 []) true true) (classing true { heldSeq := 4 }) (fun t => t.net.held.map (·.seq) == [4]) = true := by
  decide +kernel

/-- A frame waiting for its second pass. -/
def recircFrame : RxFrame := { port := 1, stamp := 0, bytes := castFrame 0x1234 [], key := List.replicate 16 0, gen := 1, next := 15 }

theorem witness_Classification_6 : guardKey recircFrame.key = false ∧ (classing false {}).objN Obj.RULES_GEN 0 = 1 ∧
    walk [] recircFrame.key 33 15 = leafNode 0 0 1023 0 ∧
    runs .recirculationPass (classing false { recirc := [recircFrame] }) (fun t => t.net.recirc.isEmpty &&
      t.objN Obj.RECIRCULATED 0 == 1 && t.objN Obj.LEAF_FRAMES 1023 == 1) = true := by decide +kernel

/-- An Exvan OPEN for any node, in a broadcast UDP datagram. -/
def openFrame : List Byte :=
  broadcastMac ++ [2, 0, 0, 0, 0, 9, 8, 0] ++ ([0x45, 0] ++ beBytes 2 72 ++ [0, 0, 0, 0, 64, 17, 0, 0] ++ List.replicate 8 1) ++
    (beBytes 2 5000 ++ beBytes 2 0xBA7E ++ beBytes 2 52 ++ [0, 0]) ++
    ([0x45, 0x58, 1, 1, 0, 0, 0, 1] ++ List.replicate 10 0 ++ [255, 255, 0, 4, 0, 0] ++ List.replicate 20 0)

/-- A held frame of a SEQ. -/
def heldFrame (n : Nat) : HeldFrame := { seq := n, frame := { recircFrame with bytes := openFrame, stamp := n }, due := 99999 }

/-- Three frames held. -/
def holding : State := classing true { held := [heldFrame 7, heldFrame 8, heldFrame 9] }

theorem witness_Classification_7 : holding.acceptsOctets 5 Obj.CLASS_DECIDE 0 = true ∧
    runs (.classDecideDrop 5 7 8 false) holding (fun t => said t Obj.CLASS_DECIDE 0 (.nak .range 0 0)) = true ∧
    runs (.classDecidePtp 5 7 0 false) (classing false {}) (fun t => said t Obj.CLASS_DECIDE 0 (.nak .state 0 0)) = true ∧
    runs (.classDecideSlow 5 6 0 false) holding (fun t => said t Obj.CLASS_DECIDE 0 (.nak .unknown 0 0)) = true := by decide +kernel

theorem witness_Classification_8 : holding.net.held = [heldFrame 7] ++ heldFrame 8 :: [heldFrame 9] ∧
    runs (.classDecideDrop 5 8 0 true) holding (fun t => said t Obj.CLASS_DECIDE 0 (.ack []) && t.net.held == [heldFrame 9]) = true ∧
    runs (.classDecidePtp 5 8 0 true) holding (fun t => t.net.ptpIn == [(heldFrame 8).frame, (heldFrame 7).frame]) = true ∧
    156250000 ≤ holding.slowBucket 9 ∧
    runs (.classDecideSlow 5 7 0 false) holding (fun t => t.net.held == [heldFrame 8, heldFrame 9] && t.objN Obj.SLOW_FRAMES 9 == 1) = true ∧
    frameFormatOk ((udpPart (headers openFrame)).drop 8) = true ∧ holding.keyGenOk 0 1 = true ∧
    (∀ i < 8, mget [] holding.net.classes i = []) ∧
    runs (.classDecideExvan 5 7 0 false) holding (fun t => said t Obj.CLASS_DECIDE 0 (.ack []) && t.net.exvanIn == [(heldFrame 7).frame]) = true := by
  decide +kernel

theorem witness_Classification_9 : base.accepts 5 Obj.RULES_APPLY 0 1 = true ∧
    runs (.rulesApply 5) base (fun t => t.net.rules.checking == some 25600 && !t.ex.owed.isEmpty) = true ∧
    runs (.rulesApply 5) (classing false { rules := { checking := some 0 } }) (fun t => said t Obj.RULES_APPLY 0 (.nak .busy 0 0)) = true := by
  decide +kernel

theorem witness_Classification_10 : ({ base with net := { rules := { checking := some 7 } } } : State).net.rules.checking = some 7 := rfl

theorem witness_Classification_11 :
    runs .rulesRetainEnd (classing false { rules := { retaining := some (1, 25600) } }) (fun t => t.net.rules.retaining.isNone) = true ∧
    runs .rulesRetainEnd (classing false { rules := { retaining := some (1, 25600) }, recirc := [recircFrame] })
      (fun t => t.net.rules.retaining.isSome) = true ∧
    runs .rulesRetainEnd { classing false { rules := { retaining := some (1, 0) }, recirc := [recircFrame] } with tick := 15625 }
      (fun t => t.net.rules.retaining.isNone && t.net.recirc.isEmpty) = true := by decide +kernel

theorem witness_Classification_12 : base.accepts 5 Obj.RULES_STORE 0 1 = true ∧
    runs (.rulesStore 5) base (fun t => t.ex.out.length == 1) = true := by decide +kernel

/-- Both ports UP with some queues. -/
def inQueues (q : SMap Queue) : State := classing false { queues := q }

theorem witness_EgressQueues_1 :
    runs (.txEnqueue 1 0 100) (inQueues []) (fun t => (t.queue (t.txQueue 1 0)).frames == [⟨100, 25600, 0, false⟩]) = true ∧
    runs (.txEnqueue 1 0 100) (ported {} {}) (fun t => t.objN Obj.QUEUE_FLUSHED (t.txQueue 1 0) == 1) = true ∧
    runs (.txEnqueue 1 5 100) { ported {} {} with net := { toSend := [(1, [5]), (0, [6])] } } (fun t => t.net.toSend == [(0, [6])]) = true ∧
    runs (.txEnqueue 1 0 2000000) (inQueues []) (fun t => t.objN Obj.QUEUE_DROPS (t.txQueue 1 0) == 1) = true := by decide +kernel

theorem witness_EgressQueues_2 : (inQueues [(9, { frames := [⟨100, 0, 0, false⟩] })]).eligible 9 = true ∧
    (inQueues [(9, { frames := [⟨100, 0, 0, false⟩] })]).objN Obj.GATE_LONGEST 9 = u32Max ∧
    runs (.txFrameStart 1) (inQueues [(9, { frames := [⟨100, 0, 0, false⟩] })])
      (fun t => (t.port 1).busy == some (9, 100, 25600) && (t.queue 9).frames.isEmpty) = true := by decide +kernel

theorem witness_EgressQueues_3 : runs (.txFrameStart 0) (ported {} {}) (fun t => t.net == (ported {} {}).net) = true ∧
    runs (.txFrameStart 0) (ported { up := true, busy := some (0, 64, 0) } {}) (fun t => (t.port 0).busy == some (0, 64, 0)) = true := by
  decide +kernel

theorem witness_EgressQueues_4 :
    runs (.txFrameEnd 0) (ported { up := true, busy := some (3, 180, 25590) } {}) (fun t => (t.port 0).busy.isNone && t.objN Obj.QUEUE_BYTES 3 == 180 &&
      t.objN Obj.TX_FRAMES 0 == 1) = true ∧
    runs (.txFrameEnd 0) { readdressed 0x0A000001 true with net := { ports := ⟨{ up := true, busy := some (0, 64, 0) }, {}⟩, netWait := [0] } }
      (fun t => t.net.netWait.isEmpty && t.obj Obj.IPV4_ADDR 0 == 0x0A000001) = true ∧
    runs (.txFrameEnd 0) { readdressed 0x0A000001 true with net := { ports := ⟨{ up := true, busy := some (0, 64, 0) }, {}⟩, netWait := [0, 1] } }
      (fun t => t.net.netWait == [1] && t.obj Obj.IPV4_ADDR 0 == 0) = true ∧
    runs (.txFrameEnd 0) (ported { up := true, busy := some (3, 181, 25590) } {}) (fun t => (t.port 0).busy.isSome) = true := by decide +kernel

theorem witness_EgressQueues_5 : base.accepts 5 Obj.SHAPER_ENABLE 15 1 = true ∧ base.accepts 5 Obj.SHAPER_RATE 0 1000 = true ∧
    base.accepts 5 Obj.SHAPER_BURST 0 4096 = true ∧
    runs (.shaperWrite 5 15 2 1) base (fun t => said t Obj.SHAPER_ENABLE 15 (.ack []) && (t.queue 15).enabled) = true ∧
    runs (.shaperWrite 5 0 0 1000) (ported { busy := some (0, 64, 0) } {}) (fun t => (t.queue 0).shaperPending &&
      t.obj Obj.SHAPER_RATE 0 == 1000 && (t.queue 0).rate == 25000000) = true := by decide +kernel

theorem witness_EgressQueues_6 : base.accepts 5 Obj.TXQ_APPLY 0 1 = true ∧
    runs (.txqApply 5) { ported { busy := some (0, 64, 0) } {} with staged := [(Obj.QUEUE_LIMIT, [(0, 5000), (9, 6000)])] }
      (fun t => said t Obj.TXQ_APPLY 0 (.ack []) && t.net.txqDue == [0] && t.obj Obj.QUEUE_LIMIT 9 == 6000 &&
        t.stagedVal Obj.QUEUE_LIMIT 0 == some 5000) = true ∧
    runs (.txqApply 5) { base with staged := [(Obj.QUEUE_LIMIT, [(8, 1048577)])] } (fun t => said t Obj.TXQ_APPLY 0 (.nak .range 0 0)) = true := by
  decide +kernel

/-- A list of two entries, and the time. -/
def gated (g : PortGates) : State :=
  { classing false { gates := [(1, g)] } with time := { ctr := ⟨{ ns := 1500 }, {}⟩, servo := .locked } }

def twoGates : GateList := { base := 0, cycle := 2000, entries := [(1, 1000), (2, 1000)] }

theorem witness_EgressQueues_7 :
    runs (.gateEntryChange 1) (gated { oper := some twoGates }) (fun t => (t.portGates 1).gates == 2 && (t.portGates 1).entry == 1) = true ∧
    runs (.gateEntryChange 0) (gated {}) (fun t => (t.portGates 0).gates == 255) = true := by decide +kernel

/-- A list of one entry staged for port 1. -/
def gateStaged : State :=
  { gated {} with staged := [(Obj.GATE_CYCLE, [(1, 2000)]), (Obj.GATE_ENABLE, [(1, 1)]), (Obj.GATE_LIST_LEN, [(1, 1)])],
                  stagedOcts := [(Obj.GATE_LIST, [(1, [1, 0, 0, 0, 0xD0, 7, 0, 0])])] }

theorem witness_EgressQueues_8 : gateStaged.accepts 5 Obj.GATE_APPLY 1 1 = true ∧ (gateStaged.judged Obj.GATE_CYCLE 1).toNat = 2000 ∧
    runs (.gateApply 5 1) gateStaged (fun t => said t Obj.GATE_APPLY 1 (.ack []) && t.obj Obj.GATE_CHANGE_TIME 1 == 4000) = true ∧
    runs (.gateApply 5 1) { gateStaged with time := {} } (fun t => said t Obj.GATE_APPLY 1 (.nak .time 0 0)) = true ∧
    runs (.gateApply 5 1) { gateStaged with stagedOcts := [(Obj.GATE_LIST, [(1, [1, 0, 0, 0, 63, 0, 0, 0])])] }
      (fun t => said t Obj.GATE_APPLY 1 (.nak .range 0 0)) = true := by decide +kernel

theorem witness_EgressQueues_9 :
    runs (.gateListChanged 1) (gated { next := some (1500, true, twoGates) }) (fun t => (t.portGates 1).oper == some twoGates &&
      (t.portGates 1).next.isNone && t.obj Obj.GATE_ENABLE 1 == 1) = true ∧
    runs (.gateListChanged 1) (gated { next := some (1600, true, twoGates) }) (fun t => (t.portGates 1).oper.isNone) = true := by decide +kernel

theorem witness_EgressQueues_10 :
    runs .qsample { inQueues [(15, { frames := [⟨100, 0, 0, false⟩] })] with time := { ctr := ⟨{ ns := 5000000000 }, {}⟩ } }
      (fun t => t.objN Obj.QDEPTH_BYTES 15 == 100 && t.objN Obj.QSAMPLE_SEQ 0 == 1) = true ∧
    runs .qsample (inQueues []) (fun t => t.objN Obj.QSAMPLE_SEQ 0 == 0) = true ∧
    runs .qsample { inQueues [] with net := { sampleDue := some 0 }, objs := [(Obj.QSAMPLE_PERIOD, [(0, 7)])] } (fun t => t.net.samplePeriod == 7) = true ∧
    runs .qsample { inQueues [] with net := { sampleDue := some 99 }, objs := [(Obj.QSAMPLE_PERIOD, [(0, 7)])] } (fun t => t.net.samplePeriod != 7) = true := by
  decide +kernel

/-! ### Time -/

/-- The base with PTP on, port 0 PRIMARY, a time and no session but the base's. -/
def timed (x : Time) : State :=
  { base with net := { ports := ⟨{ up := true }, {}⟩ }, time := x, objs := [(Obj.PTP_ENABLE, [(0, 1)]), (Obj.ADDEND, [(0, 27487790694)])],
              octs := [(Obj.MAC_ADDR, [(0, [2, 0, 0, 0, 0, 1]), (1, [2, 0, 0, 0, 0, 2])])] }

/-- The same with a frame for the PTP engine, stamped 900. -/
def stamped (x : Time) : State :=
  { timed x with net := { ports := ⟨{ up := true }, {}⟩, ptpIn := [{ port := 0, stamp := 900, bytes := [], key := [] }] } }

/-- A message of a kind from master [1]. -/
def message (kind : Nat) : PtpMsg :=
  { port := 0, kind, domain := 0, sdo := 0, version := 2, transport := 0, src := [1], seq := 7, interval := 0, stamp := 900, origin := 500,
    correction := 100, twoStep := false, rank := [128], utc := 37, requesting := [2, 0, 0, 0xFF, 0xFE, 0, 0, 1, 0, 1] }

/-- A master [1], silent since tick 0. -/
def master1 : Master := { id := [1], rank := [128], prevAnnounce := some 0, logAnnounce := -7 }

theorem witness_NetworkTime_1 : ({} : State).ticking = false ∧
    runs (.ptpMessage (message 11)) { base with objs := [(Obj.PTP_ENABLE, [(0, 0)])] } (fun t => t.time.masters.isEmpty) = true := by decide +kernel

theorem witness_NetworkTime_2 : (timed {}).ptpDiscards { message 0 with version := 1 } = true ∧ (timed {}).ticking = true ∧
    runs (.ptpMessage { message 0 with version := 1 }) (timed {}) (fun t => t.objN Obj.PTP_RX_DISCARDS 0 == 1) = true ∧
    runs (.ptpMessage { message 0 with version := 1 }) (stamped {}) (fun t => t.net.ptpIn.isEmpty) = true := by decide +kernel

theorem witness_NetworkTime_3 : (timed {}).obj Obj.PTP_ENABLE 0 ≠ 0 ∧ (timed {}).ptpDiscards (message 11) = false ∧
    (timed {}).objN Obj.PTP_TRANSPORT 0 = (message 11).transport ∧
    runs (.ptpMessage (message 11)) (timed {}) (fun t => t.time.masters.map (fun m => (m.prevAnnounce, m.lastAnnounce)) == [(none, 25600)]) = true ∧
    runs (.ptpMessage (message 11)) (timed { master := some [1], masters := [master1] })
      (fun t => t.time.master == some [1] && t.obj Obj.UTC_OFFSET 0 == 37) = true ∧
    ((stamped {}).stamped (message 0)).stamp = 900 ∧
    runs (.ptpMessage (message 0)) (stamped { master := some [1], lastOrigin := some 200, freshDelay := true, delays := [-20] })
      (fun t => t.time.meas == some (320, 300, 900) && t.time.lastOrigin == some 500 && t.net.ptpIn.isEmpty) = true ∧
    runs (.ptpMessage (message 0)) (stamped { master := some [1], lastOrigin := some 200 }) (fun t => t.time.meas == none) = true := by decide +kernel

theorem witness_NetworkTime_3_delay : (timed {}).ptpDiscards (message 9) = false ∧ (timed {}).obj Obj.PTP_DELAY_MECH 0 = 0 ∧
    runs (.ptpMessage (message 9)) (timed { master := some [1], delaySent := some (7, 100), syncDiff := some 300 })
      (fun t => t.time.freshDelay && t.time.delaySent.isNone) = true ∧
    runs (.ptpMessage { message 9 with requesting := [9] }) (timed { master := some [1], delaySent := some (7, 100), syncDiff := some 300 })
      (fun t => t.time.delaySent == some (7, 100)) = true := by decide +kernel

theorem witness_NetworkTime_4 : (timed { servo := .locked }).hostMode 6 = false ∧ ((timed {}).func 6).pending = none ∧
    (timed { servo := .locked }).time.hostStarted = false ∧
    runs (.servoUpdate 1000 1000000000) (timed { servo := .locked, meas := some (1000, 1000000000, 900) })
      (fun t => t.time.meas.isNone && t.obj Obj.TIME_OFFSET 0 == 1000 && t.objN Obj.TIME_OFFSET_SEQ 0 == 1 && decide (t.obj Obj.TIME_RATE 0 < 0)) = true := by
  decide +kernel

theorem witness_NetworkTime_4_none : (timed {}).time.meas = none ∧
    runs (.servoUpdate 0 0) (timed {}) (fun t => t.time == (timed {}).time) = true := by decide +kernel

theorem witness_NetworkTime_5 :
    runs (.servoUpdate 1000 1) (timed { meas := some (1000, 1, 900), pairs := [(0, 0), (1, 1), (2, 2), (3, 3), (4, 4), (5, 5)] })
      (fun t => t.time.pairs.length == 7 && t.time.pairs.head? == some (900, 1000) && t.time.servo == .unset) = true := by decide +kernel

theorem witness_NetworkTime_6 : (timed {}).ptpPort = some 0 ∧
    runs .delayReqSend (timed { master := some [1], ptpSeq := 65535 }) (fun t => t.time.ptpSeq == 0 &&
      t.time.delayOut.map (fun d => (d.kind, d.seq)) == [(1, 0)]) = true ∧
    runs .delayReqSend (timed { master := some [1], delayNext := 25601 }) (fun t => t.time.delayOut.isEmpty) = true ∧
    runs .delayReqSend { timed { master := some [1] } with objs := [(Obj.PTP_ENABLE, [(0, 1)]), (Obj.FEC_MODE, [(0, 1)]), (Obj.TS_TX_LATENCY, [(0, 20)])] }
      (fun t => t.time.delaySent == some (1, 2)) = true ∧
    runs .delayReqSend { timed {} with objs := [(Obj.PTP_ENABLE, [(0, 1)]), (Obj.PTP_DELAY_MECH, [(0, 1)])] }
      (fun t => t.time.delayOut.map (fun d => (d.kind, d.seq)) == [(2, 1)]) = true := by decide +kernel

theorem witness_NetworkTime_7 :
    (timed { masters := [master1], master := some [1] }).time.masters.find? (fun m => some m.id == some [1]) = some master1 ∧
    runs (.masterLost 1) { timed { masters := [master1], master := some [1], servo := .locked, meas := some (5, 6, 7) } with funcs := [(6, { mode := 1 })], tick := 156250000 }
      (fun t => t.time.master.isNone && t.time.masters.isEmpty && t.time.meas.isNone && t.time.servo == .holdover && t.objN Obj.SERVO_STATE 0 == 3) = true ∧
    runs (.masterLost 2) (timed { masters := [master1], master := some [1] }) (fun t => t.time.master == some [1]) = true := by decide +kernel

theorem witness_NetworkTime_8 : (timed {}).accepts 5 Obj.TIME_RATE 0 (-1073741) = true ∧
    runs (.timeRate 5 (-1073741)) { timed {} with funcs := [(6, { mode := 1 })] } (fun t => said t Obj.TIME_RATE 0 (.ack []) &&
      t.obj Obj.TIME_RATE 0 == -1073741 && t.time.rateDeadline.isSome) = true ∧
    runs (.timeRate 5 7) { timed { rateDeadline := some 25599 } with funcs := [(6, { mode := 1 })] } (fun t => said t Obj.TIME_RATE 0 (.ack []) &&
      t.time.rateDeadline == some 25599) = true ∧
    runs (.timeRate 5 7) (timed {}) (fun t => said t Obj.TIME_RATE 0 (.nak .state 0 0)) = true := by decide +kernel

theorem witness_NetworkTime_9 : (timed {}).accepts 5 Obj.TIME_RESET 0 1 = true ∧ (timed {}).anyArmed = false ∧
    runs (.timeReset 5) { timed { servo := .locked, pulses := [(4, ⟨1, 0, 0, 1, 0, 0, none, none⟩)] } with
        net := { gates := [(1, { oper := some {} })] } } (fun t => said t Obj.TIME_RESET 0 (.ack []) && t.time.servo == .unset &&
      t.time.pulses.isEmpty && t.objN Obj.TIME_DOMAIN_GEN 0 == 1 && (t.portGates 1).oper.isNone) = true := by decide +kernel

theorem witness_NetworkTime_10 : (timed {}).obj Obj.PPS_IN_MODE 0 = 0 ∧
    runs .ppsInEdge { timed { ctr := ⟨{ ns := 5000000519 }, {}⟩, servo := .locked } with objs := [(Obj.PPS_IN_MODE, [(0, 1)]), (Obj.ADDEND, [(0, 27487790694)])] }
      (fun t => t.obj Obj.PPS_IN_OFFSET 0 == 499 && t.obj Obj.PPS_IN_VALID 0 == 1) = true := by decide +kernel

theorem witness_NetworkTime_11 :
    runs .ppsInLost { base with objs := [(Obj.PPS_IN_VALID, [(0, 1)])], tick := 312500000 } (fun t => t.obj Obj.PPS_IN_VALID 0 == 0) = true ∧
    runs .ppsInLost { base with objs := [(Obj.PPS_IN_VALID, [(0, 1)])], tick := 312499999 } (fun t => t.obj Obj.PPS_IN_VALID 0 == 1) = true := by
  decide +kernel

/-- A program staged for pulse output 4. -/
def pulsing (mode start period : Int) : State :=
  { base with staged := [(Obj.PULSE_MODE, [(4, mode)]), (Obj.PULSE_START, [(4, start)]), (Obj.PULSE_PERIOD, [(4, period)]), (Obj.PULSE_WIDTH, [(4, 10)])] }

theorem witness_PulsesAndLaunches_1 : (pulsing 1 2000 1000).accepts 5 Obj.PULSE_APPLY 4 1 = true ∧
    runs (.pulseApply 5 4) (pulsing 1 2000 1000) (fun t => said t Obj.PULSE_APPLY 4 (.ack []) &&
      (mfind t.time.pulses 4).any fun p => p.mode == 1 && p.next == some 2000) = true ∧
    runs (.pulseApply 5 4) (pulsing 2 300 1000) (fun t => (mfind t.time.pulses 4).any fun p => p.next == some 2300) = true ∧
    runs (.pulseApply 5 4) (pulsing 0 300 1000) (fun t => (mfind t.time.pulses 4).isNone) = true ∧
    runs (.pulseApply 5 4) (pulsing 1 1999 1000) (fun t => said t Obj.PULSE_APPLY 4 (.nak .late 0 0)) = true ∧
    runs (.pulseApply 5 4) (pulsing 1 2000 64) (fun t => said t Obj.PULSE_APPLY 4 (.nak .range 0 0)) = true := by decide +kernel

theorem witness_PulsesAndLaunches_2 :
    runs (.pulseEdge 4) (timed { ctr := ⟨{ ns := 1000 }, {}⟩, pulses := [(4, ⟨2, 0, 500, 10, 0, 0, some 1000, none⟩)] })
      (fun t => (mfind t.time.pulses 4).any fun p => p.next == some 1500 && p.endTick == some 25610) = true ∧
    runs (.pulseEdge 4) (timed { pulses := [(4, ⟨2, 0, 500, 10, 0, 0, some 1000, some 25600⟩)] })
      (fun t => (mfind t.time.pulses 4).any fun p => p.next == some 1000 && p.endTick.isNone) = true := by decide +kernel

/-- A launch staged in entry 0. -/
def launching (at_ period : Int) : State :=
  { base with staged := [(Obj.LAUNCH_TIME, [(0, at_)]), (Obj.LAUNCH_PERIOD, [(0, period)])], stagedOcts := [(Obj.LAUNCH_FRAME, [(0, List.replicate 60 1)])] }

theorem witness_PulsesAndLaunches_3 : (launching 2000 0).accepts 5 Obj.LAUNCH_APPLY 0 1 = true ∧
    runs (.launchStart 5 0) (launching 2000 0) (fun t => said t Obj.LAUNCH_APPLY 0 (.ack []) &&
      (mfind t.time.launches 0).any fun e => e.next == some 2000 && e.frame.length == 60) = true ∧
    runs (.launchStart 5 0) (launching 1999 0) (fun t => said t Obj.LAUNCH_APPLY 0 (.nak .late 0 0)) = true ∧
    runs (.launchStart 5 0) (launching 2000 999) (fun t => said t Obj.LAUNCH_APPLY 0 (.nak .range 0 0)) = true := by decide +kernel

/-- A launch in force. -/
def launched (at_ period : Int) : State :=
  { timed { launches := [(0, ⟨List.replicate 60 1, 0, at_, period, some at_⟩)] } with octs := [(Obj.MAC_ADDR, [(0, [2]), (1, [3])])] }

theorem witness_PulsesAndLaunches_4 : (launched 0 0).accepts 5 Obj.LAUNCH_APPLY 0 2 = true ∧
    runs (.launchStop 5 0) (launched 0 0) (fun t => said t Obj.LAUNCH_APPLY 0 (.ack []) && t.time.launches.isEmpty) = true := by decide +kernel

theorem witness_PulsesAndLaunches_5 :
    runs (.launchInstant 0) (launched 0 1000) (fun t => t.objN Obj.LAUNCH_COUNT 0 == 1 && (mfind t.time.launches 0).any fun e => e.next == some 1000) = true ∧
    runs (.launchInstant 0) (launched 0 0) (fun t => (mfind t.time.launches 0).isNone) = true ∧
    runs (.launchInstant 0) (launched 100 0) (fun t => t.objN Obj.LAUNCH_COUNT 0 == 0) = true := by decide +kernel

/-! ### Sessions and object accesses -/

/-- The base with the session in a given record. -/
def withSession (x : Session) : State := { base with ex := { sessions := [(0, x)] } }

/-- An event record of a SEQ. -/
def eventOf (n : Nat) : EvRec := { seq := n, code := 0x1003, lobe := 0, deferred := false, holdover := false, time := 0, data := [] }

theorem witness_Sessions_1 :
    runs (.openSession 3 [1] 9 false [] ⟨0, 7⟩) base (fun t => t.objN Obj.SESSION_DROPS 0 == 1) = true ∧
    ({} : State).exvanServed = false := by decide +kernel

theorem witness_Sessions_2 : base.exvanServed = true ∧ base.recovery = false ∧ base.active.isSome = true ∧
    runs (.openSession 2 [1] 9 false [] ⟨0, 7⟩) { base with ex := { nonces := [(2, [[1]])] } }
      (fun t => t.ex.out.map (fun a => (a.req, a.reply)) == [(7, .nak .conflict 0 0)]) = true ∧
    runs (.openSession 2 [1] 9 false [] ⟨0, 7⟩) { base with ex := { sessions := (List.range 16).map fun i => (i, { num := i + 1, level := 0 }) } }
      (fun t => t.ex.out.map (·.reply) == [.nak .full 0 0]) = true := by decide +kernel

theorem witness_Sessions_3 : (lobes {} {}).exvanServed = true ∧ (lobes {} {}).active = none ∧
    runs (.openSession 0 [1] 9 false [] ⟨0, 7⟩) (lobes {} {}) (fun t => t.ex.groupLane.length == 1) = true := by decide +kernel

theorem witness_Sessions_4 : base.ready 5 = true ∧ base.newReq 5 77 = true ∧
    runs (.echo 5 77 (List.replicate 64 1)) base (fun t => t.ex.out.map (·.reply) == [.ack (List.replicate 64 1)]) = true ∧
    runs (.echo 5 77 (List.replicate 65 1)) base (fun t => t.ex.out.map (·.reply) == [.nak .format 0 0]) = true := by decide +kernel

theorem witness_Sessions_5 :
    runs (.subscribe 5 77 7 true 0x1000 0xF000) base (fun t => (t.session 5).any fun p => p.2.filters.length == 1) = true ∧
    runs (.subscribe 5 77 8 true 0x1000 0xF000) base (fun t => t.ex.out.map (·.reply) == [.nak .format 0 0]) = true := by decide +kernel

theorem witness_Sessions_6 : runs (.eventFrameSend 5) (withSession { num := 5, level := 2, queue := (List.range 17).map eventOf })
    (fun t => (t.ex.eventFrames.map fun f => (f.1, f.2.1, f.2.2.length)) == [(5, 1, 16)] && (t.session 5).any fun p => p.2.queue.length == 1 && p.2.txSeq == 1) = true := by
  decide +kernel

theorem witness_Sessions_7 : base.session 5 = some (0, { num := 5, level := 2 }) ∧
    runs (.closeSession 5 77) base (fun t => t.ex.sessions.isEmpty && t.ex.out.map (·.reply) == [.ack []]) = true := by decide +kernel

theorem witness_Sessions_8 :
    runs (.sessionTimeout 5) { base with tick := 4687500000 } (fun t => t.ex.sessions.isEmpty) = true ∧
    runs (.sessionTimeout 5) { base with tick := 4687499999 } (fun t => t.ex.sessions.length == 1) = true := by decide +kernel

/-- Two sessions, 5 and 6. -/
def twoSessions : State := { base with ex := { sessions := [(0, { num := 5, level := 2 }), (1, { num := 6, level := 0 })] } }

theorem witness_Sessions_9 : twoSessions.accepts 5 Obj.SESSION_CLOSE 0 6 = true ∧ msorted twoSessions.ex.sessions = true ∧
    runs (.sessionClose 5 6) twoSessions (fun t => said t Obj.SESSION_CLOSE 0 (.ack []) && t.ex.sessions.map (·.1) == [0]) = true ∧
    runs (.sessionClose 5 5) twoSessions (fun t => said t Obj.SESSION_CLOSE 0 (.ack []) && t.ex.sessions.map (·.1) == [1]) = true ∧
    runs (.sessionClose 5 7) twoSessions (fun t => said t Obj.SESSION_CLOSE 0 (.nak .unknown 0 0)) = true := by decide +kernel

/-- A key staged for a generation, flash writes permitted or not. -/
def keyStaged (k : Nat) (b : Byte) (ok : Bool) : State :=
  { base with stagedOcts := [(Obj.KEY_NEW, [(k, List.replicate 16 b)])], therm := { flashOk := ok }, ex := { base.ex with keys := [(k, [9])] } }

theorem witness_Sessions_10 : (keyStaged 3 7 true).accepts 5 Obj.KEY_APPLY 0 3 = true ∧
    runs (.keyApply 5 3) (keyStaged 3 7 true) (fun t => t.objN Obj.KEY_GEN 3 == 2 && t.ex.owed.length == 1 && t.ex.groupReserved) = true ∧
    runs (.keyApply 5 2) (keyStaged 2 7 false) (fun t => said t Obj.KEY_APPLY 0 (.nak .state 0 0)) = true ∧
    runs (.keyApply 5 0) (keyStaged 0 0 true) (fun t => said t Obj.KEY_APPLY 0 (.nak .range 0 0)) = true ∧
    runs (.keyApply 5 1) (keyStaged 0 0 true) (fun t => said t Obj.KEY_APPLY 0 (.nak .state 0 0)) = true := by decide +kernel

theorem witness_Sessions_11 :
    runs (.keyOverlapEnd 3) { base with tick := 10 ^ 15, ex := { base.ex with prevKeys := [(6, ([1], 0)), (7, ([2], 0))] } }
      (fun t => t.ex.prevKeys.map (·.1) == [6]) = true ∧
    runs (.keyOverlapEnd 3) { base with ex := { base.ex with prevKeys := [(7, ([2], 25600))] } } (fun t => t.ex.prevKeys.map (·.1) == [7]) = true := by
  decide +kernel

theorem witness_Sessions_12 :
    runs .groupSeqReservation base (fun t => t.ex.groupReserved && (t.dev.store.isSome || !t.dev.storeQueue.isEmpty)) = true ∧
    runs .groupSeqReservation { base with ex := { base.ex with groupLimit := 4194306 } } (fun t => !t.ex.groupReserved) = true := by decide +kernel

/-- The reply of the newest answer. -/
def replied (t : State) (r : Reply) : Bool := t.ex.out.head?.map (·.reply) == some r

theorem witness_ObjectAccess_1 : base.accepts 5 Obj.SERVO_KP 0 32767 = true ∧ base.accepts 5 Obj.PULSE_START 4 9 = true ∧
    base.accepts 5 Obj.STEP 0 8 = true ∧ (base.ex.owed.any fun o => o.kind == .park || o.kind == .resume) = false ∧
    runs (.objectWrite 5 Obj.SERVO_KP 0 32767) base (fun t => replied t (.ack []) && t.obj Obj.SERVO_KP 0 == 32767) = true ∧
    runs (.objectWrite 5 Obj.PULSE_START 4 9) base (fun t => replied t (.ack []) && t.stagedVal Obj.PULSE_START 4 == some 9 &&
      t.obj Obj.PULSE_START 4 == 0) = true ∧
    runs (.objectWrite 5 Obj.STEP 0 8) base (fun t => replied t (.ack []) && t.obj Obj.STEP 0 == 8 && t.law Obj.STEP 0 == 4) = true := by
  decide +kernel

theorem witness_ObjectAccess_1b : base.accepts 5 Obj.SLOW_RATE 3 0 = true ∧ base.accepts 5 Obj.QSAMPLE_PERIOD 0 2000 = true ∧
    base.net.sampleDue = none ∧
    runs (.objectWrite 5 Obj.SLOW_RATE 3 0) base (fun t => replied t (.ack []) && t.obj Obj.SLOW_RATE 3 == 0 &&
      t.slowBucket 3 == base.slowBucket 3) = true ∧
    runs (.objectWrite 5 Obj.QSAMPLE_PERIOD 0 2000) base (fun t => replied t (.ack []) && t.obj Obj.QSAMPLE_PERIOD 0 == 2000 &&
      t.net.samplePeriod == base.net.samplePeriod && t.net.sampleDue.isSome) = true := by
  decide +kernel

theorem witness_ObjectAccess_2 :
    runs (.write 5 77 []) base (fun t => replied t (.nak .format 0 0)) = true ∧
    runs (.write 5 77 (List.replicate 65 ⟨Obj.SERVO_KP, 8, 0, [0, 1]⟩)) base (fun t => replied t (.nak .format 0 0)) = true := by decide +kernel

theorem witness_ObjectAccess_3 :
    entryCheck base 2 Obj.SERVO_KP 0 (some 8) [0, 1] = none ∧ entryCheck base 2 Obj.SERVO_KI 0 (some 2) [1] = some .type ∧
    (objDef Obj.SERVO_KP).isSome = true ∧
    runs (.write 5 77 [⟨Obj.SERVO_KP, 8, 0, [1, 2]⟩]) base (fun t => replied t (.ack []) && t.obj Obj.SERVO_KP 0 == 258) = true ∧
    runs (.write 5 77 [⟨Obj.SERVO_KP, 8, 0, [1, 2]⟩, ⟨Obj.SERVO_KI, 2, 0, [1]⟩]) base
      (fun t => replied t (.nak .type 1 0) && t.objs.isEmpty) = true := by decide +kernel

theorem witness_ObjectAccess_4 :
    runs (.read 5 77 [⟨Obj.SERVO_KP, 0⟩, ⟨1, 0⟩]) base (fun t => t.ex.out.head?.any fun a =>
      match a.reply with | .ack b => b.take 6 == [0, 8, 0, 2, 0x59, 0x9A] && b.length == 12 | _ => false) = true ∧
    runs (.read 5 77 []) base (fun t => replied t (.nak .format 0 0)) = true := by decide +kernel

theorem witness_ObjectAccess_5 :
    runs (.blockRead 5 77 Obj.SERVO_KP 0 1 8) base (fun t => replied t (.ack [0, 0, 0, 2, 0x9A])) = true ∧
    runs (.blockRead 5 77 Obj.SERVO_KP 0 3 8) base (fun t => replied t (.nak .range 0 0)) = true ∧
    runs (.blockRead 5 77 Obj.SERVO_KP 0 0 0) base (fun t => replied t (.nak .format 0 0)) = true := by decide +kernel

theorem witness_ObjectAccess_6 :
    runs (.blockWrite 5 77 Obj.SERVO_KP 0 0 2 [1]) base (fun t => replied t (.ack []) && (t.session 5).any fun p => p.2.block.isSome) = true ∧
    runs (.blockWrite 5 77 Obj.SERVO_KP 0 0 3 [1]) base (fun t => replied t (.nak .type 0 0)) = true ∧
    runs (.blockWrite 5 77 Obj.SERVO_KP 0 0 2 [1, 2, 3]) base (fun t => replied t (.nak .range 0 0)) = true ∧
    runs (.blockWrite 5 77 Obj.SERVO_KP 0 0 2 []) base (fun t => replied t (.nak .format 0 0)) = true := by decide +kernel

/-- A block write of SERVO_KP with its first byte stored. -/
def blocked : State := withSession { num := 5, level := 2, block := some ⟨Obj.SERVO_KP, 0, 2, [1], 25600⟩ }

theorem witness_ObjectAccess_7 : blocked.ready 5 = true ∧ blocked.newReq 5 77 = true ∧
    runs (.blockWrite 5 77 Obj.SERVO_KP 0 1 2 [2]) blocked (fun t => replied t (.ack []) && t.obj Obj.SERVO_KP 0 == 258) = true ∧
    runs (.blockWrite 5 77 Obj.SERVO_KP 0 2 2 [2]) blocked (fun t => replied t (.nak .range 0 0)) = true ∧
    runs (.blockWrite 5 77 Obj.SERVO_KP 0 1 2 [2]) (withSession { num := 5, level := 2, block := some ⟨Obj.SERVO_KP, 0, 2, [0xFF], 0⟩ })
      (fun t => replied t (.nak .range 0 0) && t.objs.isEmpty) = true := by decide +kernel

theorem witness_ObjectAccess_8 :
    runs (.blockAbandoned 5) { blocked with tick := 1562525600 } (fun t => t.objN Obj.BLOCKS_ABANDONED 0 == 1) = true ∧
    runs (.blockAbandoned 5) { blocked with tick := 1562525599 } (fun t => t.objN Obj.BLOCKS_ABANDONED 0 == 0) = true := by decide +kernel

theorem witness_ObjectAccess_9 :
    runs (.responseCacheExpiry 5) { withSession { num := 5, level := 2, cache := [⟨1, .ack [], 1⟩, ⟨2, .ack [], 0⟩] } with tick := 1562500000 }
      (fun t => (t.session 5).any fun p => p.2.cache.map (·.req) == [1]) = true := by decide +kernel

/-! ### Internal fabric -/

/-- The base with the matrix in a given record. -/
def withMatrix (m : Matrix) : State := { base with mat := m }

/-- A write of one word to the SRAM, and a burst of 64 beats to HBM of which five are served. -/
def sramWrite : MatReq := { target := 2, write := true, addr := 0 }

def hbmBurst : MatReq := { target := 0, write := true, addr := 0x1C00000000, beats := 64, done := 5 }

/-- 16 transactions outstanding at initiator 6 reach its limit. -/
theorem witness_InternalFabric_1_present : reqAllowed 6 sramWrite = true ∧ ((base.matPort 6).mustHold 6 sramWrite) = false ∧
    ((matStep base (.present 6 sramWrite)).matPort 6).out = [sramWrite] ∧
    ((withMatrix { ports := [(6, { out := List.replicate 16 sramWrite })] }).matPort 6).mustHold 6 sramWrite = true ∧
    (matStep (withMatrix { ports := [(6, { out := List.replicate 16 sramWrite })] }) (.present 6 sramWrite)).objN Obj.HELD_BACK 6 = 1 := by
  decide +kernel

theorem witness_InternalFabric_1_grant : (matStep base (.grant 10 [] 1)).objN Obj.ARB_MISMATCHES 0 = 1 ∧
    (matStep base (.grant 10 [] 2)).mat.fixed = [10] ∧ (matStep base (.grant 10 [] 0)).mat.fixed = [] := by decide +kernel

theorem witness_InternalFabric_1 : runs (.beatTimeout 6 0 1 2) (withMatrix { ports := [(6, { out := [hbmBurst] })], lock := some (6, 0) })
    (fun t => t.matPort 6 == {} && t.mat.lock.isNone && t.objN Obj.INIT_ABORTS 6 == 1) = true := by decide +kernel

theorem witness_InternalFabric_2 :
    runs (.lockBroken 6 (base.objN Obj.MATRIX_LOCK_LIMIT 0 + 1)) 
      (withMatrix { lock := some (6, 0), ports := [(6, { out := [sramWrite], held := [sramWrite] })] })
      (fun t => t.mat.lock.isNone && (t.matPort 6).out.isEmpty && (t.matPort 6).held.isEmpty && t.objN Obj.LOCKS_BROKEN 6 == 1) = true ∧
    runs (.lockBroken 6 (base.objN Obj.MATRIX_LOCK_LIMIT 0 + 1)) base (fun t => t.mat == base.mat) = true ∧
    runs (.lockBroken 6 (base.objN Obj.MATRIX_LOCK_LIMIT 0)) (withMatrix { lock := some (6, 0) }) (fun t => t.mat.lock.isSome) =
      true := by
  decide +kernel

theorem witness_InternalFabric_3 : runs (.matrixFault 10) base (fun t => t.mat.fixed == [10] && t.faultN) = true ∧
    runs (.matrixFault 10) (withMatrix { fixed := [10] }) (fun t => t.mat.fixed == [10] && !t.faultN) = true := by decide +kernel

theorem witness_InternalFabric_4 : (withMatrix { fixed := [10], arbs := [(10, {})] }).accepts 5 Obj.ARB_RESET 0 1 = true ∧
    runs (.arbReset 5) { withMatrix { fixed := [10], arbs := [(10, {})] } with dev := { base.dev with faults := [.matrix 10] } }
      (fun t => said t Obj.ARB_RESET 0 (.ack []) && t.mat.fixed.isEmpty && t.mat.arbs.isEmpty && !t.faultN) = true ∧
    runs (.arbReset 5) base (fun t => said t Obj.ARB_RESET 0 (.nak .state 0 0)) = true := by decide +kernel

theorem witness_InternalFabric_5 : hbmRegion 0x1FFFFFFFFF = 5 ∧ hbmRegion 0x1800000000 = 1 ∧ hbmRegion 0x1E00000000 = 3 ∧ hbmRegion 0x17FFFFFFFF = 0 ∧
    runs (.hbmUe 0x1E0000103F 7) base (fun t => t.mat.badWords == [(0x1E00001020, 32)] && t.objN Obj.HBM_UE_COUNT 1 == 1 &&
      t.objN Obj.HBM_LAST_UE_ADDR 0 == 0x1E00001020) = true := by decide +kernel

theorem witness_InternalFabric_5_slot : used.inUse 4 = true ∧ used.slotState 4 = .valid ∧
    runs (.hbmUe (4 * 393216) 0) used (fun t => t.mat.slotErr == [4] && t.slotState 4 == .valid) = true := by decide +kernel

theorem witness_InternalFabric_6 :
    runs (.sramUe 52 0) { base with ex := { base.ex with log := [eventOf 2, eventOf 1] } } (fun t => t.mat.eventBad == [2, 1] &&
      t.objN Obj.SRAM_UE_COUNT 0 == 1 && t.objN Obj.SRAM_LAST_UE_ADDR 0 == 52) = true ∧
    runs (.sramUe 0x3FFFFFF 0) base (fun t => t.mat.eventBad.isEmpty) = true := by decide +kernel

theorem witness_InternalFabric_7 :
    runs (.scrubDone [0, 4096, 32] 0) (withMatrix { scrubPeriod := 0 }) (fun t => t.objN Obj.HBM_CE_COUNT 0 == 2 && t.objN Obj.HBM_CE_COUNT 1 == 1) = true ∧
    runs (.scrubDone [0] 0) { base with dev := {} } (fun t => t.objN Obj.HBM_CE_COUNT 0 == 0) = true := by decide +kernel

/-! ### Steps, memory, power, pins and the device -/

theorem witness_CommandsTouchOnlyTheirParts_1 :
    runs (.testAccessPortInstruction 0) base (fun t => t.dev.tapInstruction == 3 && t.drv == base.drv && t.objs == base.objs) = true := by
  decide +kernel

theorem witness_StorelessCommandsKeepMemory_1 : Comp.hbm ∉ touches .refclkLost ∧
    runs .refclkLost { base with hbm := [(7, 1)] } (fun t => t.hbm == [(7, 1)]) = true := by decide +kernel

theorem witness_StepRunsFront_1 :
    (match step { base with pending := [.testAccessPortInstruction 2, .resetRelease] } with
      | .next t => t.dev.tapInstruction == 2 && t.pending == [.resetRelease] | _ => false) = true := by decide +kernel

theorem witness_IdleStepIsATick_1 : base.pending = [] ∧ base.active ≠ none ∧ (lobes {} {}).active = none ∧
    ({ base with ex := {} } : State).ex.sessions = [] ∧
    (match step (lobes {} {}) with | .next t => t.tick == 25601 && t.dev == base.dev | _ => false) = true ∧
    (match step { lobes {} {} with dev := { base.dev with refclkLost := true } } with | .next t => t.tick == 25600 | _ => false) = true := by
  decide +kernel

theorem witness_ResetMeetsInvariants_1 : Memory.wf State.reset.hbm = true ∧ State.reset.ex.log = [] := by decide

theorem witness_StepKeepsMemoryForm_1 : Memory.wf ({ base with hbm := [(7, 1), (9, 2)] } : State).hbm = true ∧
    (match step { base with hbm := [(7, 1), (9, 2)] } with | .next t => t.hbm.length == 2 | _ => false) = true := by decide +kernel

theorem witness_LogHoldsNewest_1 :
    runs .refclkLost base (fun t => decide (0 < t.ex.log.length ∧ t.ex.log.length ≤ 4096)) = true := by decide +kernel

theorem witness_MemoryReadAfterWrite_1 : memByte (memWrite [(4, 9)] 4 [5, 0]) 4 = 5 ∧ memByte (memWrite [(5, 9)] 4 [5, 0]) 5 = 0 := by decide

theorem witness_MemoryReadAfterWrite_2 : memByte (memWrite [(3, 9), (5, 8), (6, 7)] 4 [5, 0]) 3 = 9 ∧
    memByte (memWrite [(3, 9), (5, 8), (6, 7)] 4 [5, 0]) 6 = 7 := by decide

theorem witness_PowerAndPins_1 : runs .resetRelease { base with dev := { state := .off } }
    (fun t => t.dev.state == .boot && t.tick == 0 && t.dev.resetN && t.dev.flash.coldResets == 1) = true := by decide +kernel

theorem witness_PowerAndPins_2 :
    runs (.coldResetInput 1) base (fun t => t.dev.state == .off && !t.dev.resetN && t.dev.pgood && t.ex.sessions.isEmpty &&
      t.obj Obj.RESET_CAUSE 0 == 1 && !t.drv.driven) = true ∧
    runs (.coldResetInput 0) base (fun t => t.dev.state == .off && t.dev.resetN && !t.dev.pgood && t.obj Obj.RESET_CAUSE 0 == 0) = true := by
  decide +kernel

theorem witness_PowerAndPins_3 :
    runs (.testAccessPortInstruction 1) State.reset (fun t => t.dev.tapInstruction == 1) = true ∧
    runs (.testAccessPortInstruction 1) base (fun t => t.dev.tapInstruction == 3) = true ∧
    runs (.testAccessPortInstruction 2) base (fun t => t.dev.tapInstruction == 2) = true := by decide +kernel

/-- A device in BOOT with a flash, the safe load still to come or done. -/
def booting (done : Bool) (bad : List Nat) : State :=
  { dev := { state := .boot, resetN := true, safeLoaded := done, flash := { bad, working := { magic := 0x4F535346, format := 1 } } } }

theorem witness_SafeLoadAndBoot_1 : (booting false []).dev.state = .boot ∧ (booting false []).dev.safeLoaded = false ∧
    0xC0000 ∉ (booting false []).dev.flash.bad ∧ (booting false []).dev.flash.working.magic = 0x4F535346 ∧
    (booting false []).dev.flash.working.format = 1 := by decide

/-- A working page of another format, its CRC good. -/
def otherFormat : State := { booting false [] with dev := { (booting false []).dev with flash := { working := { format := 2 } } } }

theorem witness_SafeLoadAndBoot_2_format : otherFormat.dev.flash.working.format ≠ 1 ∧ 0x80000 ∉ otherFormat.dev.flash.bad := by decide

theorem witness_SafeLoadAndBoot_2 : (booting false [0xC0000]).dev.state = .boot ∧ (booting false [0xC0000]).dev.safeLoaded = false ∧
    0xC0000 ∈ (booting false [0xC0000]).dev.flash.bad ∧ 0x80000 ∉ (booting false [0xC0000]).dev.flash.bad := by decide

theorem witness_SafeLoadAndBoot_3 : (booting true []).mayRun 1 = true ∧ (booting true []).bankBad 0 = false ∧
    runs (.booted 1 true false) (booting true []) (fun t => (t.lobe 1).role == .diagnosing && (t.lobe 1).bank == some 0) = true := by
  decide +kernel

/-- A device in SELFTEST with so many steps done. -/
def atStep (n : Nat) : State := { base with dev := { base.dev with state := .selftest, selfStep := n } }

theorem witness_SelfTestAndPark_1 : ∀ n ∈ [2, 4, 6, 7], runs (.selftestStepDone n 0) (atStep (n - 1)) (fun t => t.dev.selfStep == n) = true := by
  decide +kernel

theorem witness_SelfTestAndPark_2 : runs (.selftestStepDone 4 3) (atStep 3) (fun t => t.dev.selfFatal &&
    t.dev.faults.contains .selftest && t.objN Obj.SELFTEST_RESULT 0 == 4) = true := by decide +kernel

theorem witness_SelfTestAndPark_3 : (atStep 9).dev.selfStep = 9 ∧ (atStep 9).dev.park = none := by decide

theorem witness_SelfTestAndPark_4 :
    runs .parkRampEnd { base with dev := { base.dev with parkRamp := true } } (fun t => !t.dev.parkRamp && t.dev.loopsDue) = true := by
  decide +kernel

theorem witness_SupplyAndClockFaults_1 : (railWindow 6).2 < 65535 ∧
    runs (.railFault 6 65535) base (fun t => t.dev.state == .faultHold && t.dev.cause == .rail && t.dev.heldFrom == .service &&
      t.objN Obj.RAIL_VOLTAGE 6 == 65535 && t.objN Obj.RAIL_STATE 6 == 2) = true ∧
    runs (.railFault 0 0) base (fun t => t.dev.faults.contains (.rail 0) && t.drv.fastOff && t.drv.heatersOff && t.drv.privOff) = true ∧
    runs (.railFault 6 0) base (fun t => t.drv.privOff && !t.drv.fastOff) = true := by decide +kernel

theorem witness_SupplyAndClockFaults_2 : runs .refclkLost base (fun t => t.dev.refclkLost && t.dev.state == .faultHold) = true := by
  decide +kernel

theorem witness_SupplyAndClockFaults_3 :
    runs .refclkReturns { base with dev := { base.dev with refclkLost := true }, time := { servo := .locked } }
      (fun t => !t.dev.refclkLost && t.time.servo == .tracking && t.dev.refclkBack == some 25600) = true := by decide +kernel

/-- Held for the loss of REFCLK, whose edges have come again long ago. -/
def clockHeld : State := { base with
  tick := 256 * 10000, dev := { base.dev with state := .faultHold, cause := .refclk, heldFrom := .parked, refclkBack := some 5 } }

theorem witness_SupplyAndClockFaults_4 : clockHeld.elapsed 5 (1000000 * clockHeld.objN Obj.REFCLK_RESTORE_TIME 0) = true ∧
    runs (.refclkRestored 80) clockHeld (fun t => t.dev.state == .parked && t.dev.cause == .none && t.dev.refclkBack.isNone) = true := by
  decide +kernel

theorem witness_DeviceCommands_1 : base.accepts 5 Obj.DEVICE_COMMAND 0 1 = true ∧ base.calBarsPark = false ∧
    base.com.live = [] ∧ base.dev.park = none := by decide +kernel

/-- The base in another device state. -/
def inState (d : DevState) : State := { base with dev := { base.dev with state := d } }

theorem witness_DeviceCommands_2 : (inState .safe).accepts 5 Obj.DEVICE_COMMAND 0 3 = true ∧ (inState .safe).therm.state < 2 ∧
    (inState .safe).dev.park = none := by decide +kernel

theorem witness_DeviceCommands_3 : (inState .parked).accepts 5 Obj.DEVICE_COMMAND 0 2 = true ∧
    runs (.drain 5) (inState .parked) (fun t => t.dev.state == .draining && t.dev.draining == some 25600 &&
      t.dev.faults.contains .thermalStop) = true := by decide +kernel

theorem witness_DeviceCommands_4 : base.accepts 5 Obj.DEVICE_COMMAND 0 4 = true ∧ base.flashBusy = false ∧
    runs (.warmReset 5) base (fun t => t.dev.resetDue == some (.warm, 25600) && said t Obj.DEVICE_COMMAND 0 (.ack [])) = true := by
  decide +kernel

theorem witness_DeviceCommands_5 : base.accepts 5 Obj.DEVICE_COMMAND 0 5 = true ∧ base.flashBusy = false ∧
    runs (.coldReset 5) base (fun t => t.dev.resetDue == some (.cold, 25600) && said t Obj.DEVICE_COMMAND 0 (.ack [])) = true := by
  decide +kernel

/-- A reset due since tick 5. -/
def resetting (k : ResetKind) : State := { base with tick := 1562505, dev := { base.dev with resetDue := some (k, 5) } }

theorem witness_DeviceCommands_6 : (resetting .cold).elapsed 5 10000000 = true ∧
    runs .resetDelayEnd (resetting .cold) (fun t => t.dev.state == .boot && t.tick == 0 && t.dev.resetDue.isNone) = true := by decide +kernel

theorem witness_DeviceCommands_7 : (resetting .warm).elapsed 5 10000000 = true ∧ (resetting .warm).dev.store = none ∧
    (resetting .warm).dev.state ≠ .faultHold := by decide +kernel

/-- The base with flash writes permitted. -/
def writable : State := { base with therm := { flashOk := true } }

theorem witness_FlashStores_1 :
    ({ writable with lib := { slots := [(4, .valid)] } } : State).accepts 5 Obj.PARK_STORE 0 4 = true ∧
    ({ writable with lib := { slots := [(4, .valid)] } } : State).slotState 4 = .valid ∧ writable.flashOk = true ∧
    runs (.parkStore 5 4) { writable with lib := { slots := [(4, .valid)] } } (fun t => said t Obj.PARK_STORE 0 (.ack []) &&
      (t.dev.store.map (·.kind) == some (.park (some 4)) || t.dev.storeQueue.contains (.park (some 4)))) = true := by decide +kernel

theorem witness_FlashStores_2 : writable.accepts 5 Obj.PARK_CLEAR 0 1 = true ∧
    runs (.parkClear 5) writable (fun t => said t Obj.PARK_CLEAR 0 (.ack []) &&
      (t.dev.store.map (·.kind) == some (.park none) || t.dev.storeQueue.contains (.park none))) = true := by decide +kernel

/-- The first configuration region of the flash reads badly. -/
def configBad : State := { writable with dev := { writable.dev with flash := { bad := [StoreKind.config.offset 0] } } }

theorem witness_FlashStores_3 : configBad.accepts 5 Obj.CONFIG_STORE 0 1 = true ∧ configBad.flashOk = true ∧
    configBad.flashBusy = false ∧ configBad.storeRegions .config ≠ [] := by decide +kernel

/-- A store that has these regions still to program. -/
def programming (k : StoreKind) (r : List Nat) : State := { writable with dev := { writable.dev with store := some { kind := k, regions := r } } }

theorem witness_FlashStores_4 : runs .flashRegionDone (programming .config [3, 4]) (fun t =>
    t.dev.store == some { kind := .config, regions := [4] } && t.dev.flash.erases == 1) = true := by decide +kernel

theorem witness_FlashStores_5 : (programming .config [3]).dev.storeQueue = [] ∧
    runs .flashRegionDone (programming .config [3]) (fun t => t.dev.store.isNone && t.dev.flash.erases == 1) = true := by decide +kernel

theorem witness_FlashStores_6 : ({ writable with tick := 562500000000 } : State).elapsed 0 3600000000000 = true ∧
    runs .lifeRecordTimer { writable with tick := 562500000000 } (fun t => t.dev.lifeAt == 562500000000 &&
      (t.dev.store.map (·.kind) == some .life || t.dev.storeQueue.contains .life)) = true := by decide +kernel

theorem witness_FlashStores_7 : ({ programming .safePage [0] with dev := { (programming .safePage [0]).dev with page := some { gen := 3 } } } :
      State).dev.page = some { gen := 3 } ∧
    runs .safePageStored { programming .safePage [0] with dev := { (programming .safePage [0]).dev with page := some { gen := 3 } } }
      (fun t => t.dev.page.isNone && t.dev.flash.working.gen == 3) = true := by decide +kernel

/-- Lobe A ACTIVE on bank 0 and lobe B STANDBY on bank b, flash writes permitted. -/
def running (b : Nat) (d : Device) : State :=
  { writable with lobes := { each := ⟨{ role := .active, bank := some 0 }, { role := .standby, bank := some b }⟩ }
                  dev := { d with state := .service, safeLoaded := true, faults := [] } }

theorem witness_FirmwareUpdates_1 : (running 0 {}).accepts 5 Obj.FW_LOAD_OPEN 0 1 = true ∧ (running 0 {}).flashOk = true ∧
    (running 0 {}).dev.flash.confirmed ≠ 1 ∧ ((running 0 {}).lobe 0).bank ≠ some 1 ∧ ((running 0 {}).lobe 1).bank ≠ some 1 ∧
    runs (.fwLoadOpen 5 1) (running 0 {}) (fun t => said t Obj.FW_LOAD_OPEN 0 (.ack []) && t.dev.fwOpen == some 1 &&
      (t.fwBank 1).state == 1) = true := by decide +kernel

theorem witness_FirmwareUpdates_2 : (running 0 { fwOpen := some 1 }).accepts 5 Obj.FW_VERIFY 0 1 = true ∧
    runs (.fwVerify 5 true) (running 0 { fwOpen := some 1 }) (fun t => said t Obj.FW_VERIFY 0 (.ack []) && t.dev.fwOpen.isNone &&
      (t.fwBank 1).state == 2) = true := by decide +kernel

theorem witness_FirmwareUpdates_3 : runs (.fwVerify 5 false) (running 0 { fwOpen := some 1 })
    (fun t => said t Obj.FW_VERIFY 0 (.nak .format 0 0) && t.dev.fwOpen.isNone && (t.fwBank 1).state == 3) = true ∧
    (running 0 { fwOpen := some 1 }).bankBad 1 = false := by decide +kernel

/-- Bank 1 VALID, or on TRIAL. -/
def bank1 (trial : Bool) : Flash := { banks := [(0, { state := 2 }), (1, { state := 2 })], trial := if trial then some 1 else none }

theorem witness_FirmwareUpdates_4 : (running 0 { flash := bank1 false }).accepts 5 Obj.FW_ACTIVATE 0 1 = true ∧
    (running 0 { flash := bank1 false }).standby = some 1 ∧ (running 0 { flash := bank1 false }).fwBankState 1 = 2 ∧
    formatsMeet ((running 0 { flash := bank1 false }).fwBank 0) ((running 0 { flash := bank1 false }).fwBank 1) = true ∧
    runs (.fwActivate 5 1) (running 0 { flash := bank1 false }) (fun t => said t Obj.FW_ACTIVATE 0 (.ack []) &&
      t.dev.fwStage == .firstRestart && t.dev.fwLobe == 1 && t.dev.boot == some (0, some 1)) = true := by decide +kernel

theorem witness_FirmwareUpdates_5 : (running 1 { flash := bank1 true, fwStage := .trial }).accepts 5 Obj.FW_CONFIRM 0 1 = true ∧
    runs (.fwConfirm 5) (running 1 { flash := bank1 true, fwStage := .trial }) (fun t => said t Obj.FW_CONFIRM 0 (.ack []) &&
      t.dev.boot == some (1, none)) = true := by decide +kernel

theorem witness_FirmwareUpdates_6 :
    ({ running 1 { flash := bank1 true, fwStage := .trial, fwBoth := some 5 } with tick := 10 ^ 12 } : State).elapsed 5
      (1000000000 * base.objN Obj.FW_CONFIRM_TIME 0) = true ∧
    runs .fwConfirmTimeEnd { running 1 { flash := bank1 true, fwStage := .trial, fwBoth := some 5 } with tick := 10 ^ 12 }
      (fun t => t.dev.boot == some (1, none) && t.dev.fwBoth.isNone) = true := by decide +kernel

theorem witness_FirmwareUpdates_7 : (running 1 { flash := bank1 true, fwStage := .swap }).accepts 5 Obj.FW_ROLLBACK 0 1 = true ∧
    runs (.fwRollback 5) (running 1 { flash := bank1 true, fwStage := .swap }) (fun t => said t Obj.FW_ROLLBACK 0 (.ack []) &&
      t.dev.fwStage == .rollingBack && t.dev.fwFail == some (2, 4)) = true := by decide +kernel

/-- An update whose lobe has been DIAGNOSING for too long. -/
def lateLobe : State := { lobes { role := .active, bank := some 0 } { role := .diagnosing } with
  tick := 1562500005, dev := { base.dev with fwStage := .firstRestart, fwLobe := 1, fwSince := 5, flash := bank1 true } }

theorem witness_FirmwareUpdates_8 : lateLobe.elapsed 5 10000000000 = true ∧ (lateLobe.lobe 1).role ≠ .standby ∧
    runs (.fwTrialTimeout 1) lateLobe (fun t => t.dev.fwStage == .rollingBack && t.dev.fwFail == some (1, 2)) = true := by decide +kernel

/-! ### Function modes, fallbacks and loops -/

/-- The base with function n in a given record. -/
def withFunc (n : Nat) (f : Func) : State := { base with funcs := [(n, f)] }

theorem witness_FunctionModes_1 : base.accepts 5 (Obj.FUNC_MODE + 7) 0 1 = true ∧
    runs (.funcMode 5 8 1) ({ withFunc 8 { fellBack := true } with time := { ctr := ⟨{ ns := 1000000000000 }, {}⟩ } }) (fun t => said t (Obj.FUNC_MODE + 7) 0 (.ack [])) = true ∧
    runs (.funcMode 5 8 0) (withFunc 8 { fellBack := true }) (fun t => said t (Obj.FUNC_MODE + 7) 0 (.ack [])) = true ∧
    runs (.funcMode 5 8 1) base (fun t => said t (Obj.FUNC_MODE + 7) 0 (.ack []) && t.func 8 == { pending := some 1 } &&
      t.obj (Obj.FUNC_MODE + 7) 0 == 1) = true := by decide +kernel

theorem witness_FunctionModes_2 : (withFunc 2 { fellBack := true }).accepts 5 (Obj.FUNC_MODE + 1) 0 1 = true ∧
    (withFunc 2 { fellBack := true }).now < (withFunc 2 { fellBack := true }).obj Obj.LAST_FALLBACK_TIME 0 + 1000000 * (withFunc 2 { fellBack := true }).obj Obj.FALLBACK_HOLDOFF 0 ∧
    runs (.funcMode 5 2 1) (withFunc 2 { fellBack := true }) (fun t => said t (Obj.FUNC_MODE + 1) 0 (.nak .busy 0 0)) = true := by
  decide +kernel

theorem witness_FunctionModes_3 :
    runs (.modeBoundary 8) (withFunc 8 { pending := some 1 }) (fun t => t.func 8 == { mode := 0, pending := some 1 }) = true ∧
    runs (.modeBoundary 2) (withFunc 2 { mode := 1, pending := some 0 }) (fun t => t.func 2 == { mode := 1, pending := some 0 }) = true ∧
    (atModeBoundary (withFunc 8 { pending := some 1 }) 8).func 8 = { mode := 1, pending := none } ∧
    runs (.modeBoundary 1) { withFunc 1 { pending := some 1 } with tick := 25601 } (fun t => (t.func 1).pending == some 1) = true := by
  decide +kernel

theorem witness_FunctionModes_4 :
    runs (.modeBoundary 1) (withFunc 1 { pending := some 1 }) (fun t => t.func 1 == { mode := 1, pending := none }) = true := by decide +kernel

theorem witness_FallbackNoted_1 : (withFunc 8 { mode := 1, pending := some 0 }).active.isSome = true ∧
    (withFunc 8 { mode := 1, pending := some 0 }).ex.sessions.length ≤ 16 ∧
    (fallback (withFunc 8 { mode := 1, pending := some 0 }) 8).func 8 = { mode := 0, pending := none, fellBack := true } ∧
    ((fallback (withFunc 8 { mode := 1, pending := some 0 }) 8).ex.log.map fun e => (e.code, e.data)) =
      [(0x80F8, [.word 8, .word 1])] := by decide +kernel

/-- The base with function n host-assisted. -/
def hosted (n : Nat) : State := withFunc n { mode := 1 }

/-- Whether a function fell back at this instant. -/
def fell (t : State) (n : Nat) : Bool := t.func n == { mode := 0, pending := none, fellBack := true }

theorem witness_FunctionsFallBack_1 : ({ hosted 1 with tick := 2560000 } : State).driveLate = true ∧
    runs .fallbackElementLoops { hosted 1 with tick := 2560000, loops := { hostBlocks := [[]] } }
      (fun t => (t.func 1).mode == 0 && t.loops.hostBlocks == []) = true := by decide +kernel

/-- A route that waits for the host, due at the present tick. -/
def routeWait : Route := { seq := 1, slot := 4, vector := [], exclude := [], prior := .empty, start := 3, waitHost := true, due := 25600 }

theorem witness_FunctionsFallBack_2 :
    runs .fallbackImageGeneration { hosted 2 with lib := { route := some routeWait } } (fun t => fell t 2 &&
      t.lib.route == some { routeWait with waitHost := false, start := 25600 } && t.slotState 4 == .routing) = true := by decide +kernel

theorem witness_FunctionsFallBack_3 :
    runs .fallbackRefinement { hosted 3 with lib := { bufs := [(0, ⟨⟨4, [], []⟩, 25600⟩)] } } (fun t => fell t 3) = true := by decide +kernel

/-- A template whose ADAPT_READY the host has left unanswered. -/
def adaptDue : State := { hosted 4 with cal := { adapt := [(2, { ready := some 25600 })] } }

theorem witness_FunctionsFallBack_4 : adaptDue.adaptLate = true ∧
    runs .fallbackPreEmphasis adaptDue (fun t => t.cal.missed && t.adaptLate && (t.func 4).mode == 1) = true := by decide +kernel

/-- A request of the host's ring that has waited for its time. -/
def ringLate : RingReq := { seq := 0, req := { kind := .wrap, source := 3, heater := 0, chans := [], charge := 0 }, state := 0, due := 25600 }

theorem witness_FunctionsFallBack_5 : ({ hosted 5 with steady := { ring := [(0, ringLate)] } } : State).grantLate = true ∧
    runs .fallbackPowerArbitration { hosted 5 with steady := { ring := [(0, ringLate)] } } (fun t => fell t 5) = true := by decide +kernel

theorem witness_FunctionsFallBack_6 :
    ({ hosted 8 with net := { held := [⟨1, { port := 0, stamp := 0, bytes := [], key := [] }, 25600⟩] } } : State).heldLate = true ∧
    ({ hosted 8 with net := { heldMissed := true } } : State).heldLate = true ∧
    (classBoundary { hosted 8 with net := { heldMissed := true } }).heldLate = false ∧
    runs .fallbackClassification { hosted 8 with net := { held := [⟨1, { port := 0, stamp := 0, bytes := [], key := [] }, 25600⟩] } }
      (fun t => t.net.heldMissed && t.heldLate && (t.func 8).mode == 1) = true := by decide +kernel

theorem witness_FunctionsFallBack_7 :
    runs .fallbackCapture { hosted 7 with tick := 156250000, sorus := { bufs := [(2, { segs := [{ seq := 1, readyAt := some 0 }] })] } }
      (fun t => (t.func 7).mode == 0) = true := by decide +kernel

theorem witness_FunctionsFallBack_8 : base.ticking = true ∧ ({ hosted 6 with time := { rateDeadline := some 25599, meas := some (5, 6, 7) } } : State).rateLate = true ∧
    runs .fallbackTimeServo { hosted 6 with time := { rateDeadline := some 25599, meas := some (5, 6, 7) } } (fun t => fell t 6 && t.time.meas.isNone) =
      true := by decide +kernel

theorem witness_ScansAndSamples_1 : base.ticking = true ∧ base.tick % 256 = 0 := by decide

/-- The base with element e in a given record. -/
def withElem (e : Nat) (x : Elem) : State := { base with loops := { elems := [(e, x)] } }

/-- A valid sample of a power. -/
def pw (p : Int) : Sample := { p }

theorem witness_ScansAndSamples_2 : base.loopsRun = true ∧ base.ticking = true ∧ 32 * 2559 + 2 * 15 < 81920 ∧
    ((withElem 0 { pend := some (pw 1, pw 1, pw 1, pw 1) }).elem (16 * 0 + 0)).pend.isSome = true := by decide +kernel

theorem witness_ScansAndSamples_4 :
    ∃ s : State, (s.column 4).overRange = true ∧ (s.column 4).overRun = 15 ∧ (s.column 4).degraded = false ∧
      ((overrunScan s 4).column 4).degraded = true ∧ (overrunScan s 4).objN Obj.DEGRADED 4 = 1 :=
  ⟨{ base with loops := { cols := [(4, { overRange := true, overRun := 15 })] } }, by decide +kernel⟩

theorem witness_ScansAndSamples_5 : base.ticking = true ∧ 2623 < 2624 ∧ 15 < 16 ∧ 82944 ≤ 32 * 2623 + 2 * 15 := by decide

theorem witness_ScansAndSamples_3 : base.law Obj.SETPOINT_SLEW 0 = 64 ∧
    ((slewElem (withElem 3 { t := 1000, target := 1064 }) 3).elem 3).t = 1064 ∧
    ((slewElem (withElem 3 { t := 1000, target := 0 }) 3).elem 3).t = 936 := by decide +kernel

/-- An element with a pending set. -/
def sampled (st : LoopState) (pa pb : Int) : State := withElem 7 { state := st, phiL := 5, pend := some (pw pa, pw pb, pw 0, pw 0) }

theorem witness_ElementEvaluations_1 : base.law Obj.DARK_LEVEL 0 = 33 ∧
    runs (.elementEvaluation 7) (sampled .locked 16 16) (fun t => (t.elem 7).pend.isNone && (t.elem 7).dark && (t.elem 7).phi == 5) = true := by
  decide +kernel

theorem witness_ElementEvaluations_2 : base.unobservedBy (pw 0) (pw 0) = false ∧ (sampled .locked 17 16).loopsRun = true ∧
    base.law Obj.DARK_LEVEL 0 ≤ 17 + 16 := by decide +kernel

theorem witness_ElementEvaluations_4 : base.unobservedBy (pw 10000) (pw 10001) = true ∧
    runs (.elementEvaluation 7) (withElem 7 { state := .locked, phiL := 5, pend := some (pw 17, pw 16, pw 10000, pw 10001) })
      (fun t => (t.elem 7).pend.isNone && (t.elem 7).unobserved && !(t.elem 7).dark && (t.elem 7).phi == 5) = true := by decide +kernel

/-- An observation out of every band, its sign positive. -/
def outOfBand : ErrTests := ⟨true, true, true, 1⟩

theorem witness_ElementEvaluations_5 :
    ∃ s : State, s.hostMode 1 = false ∧ (0 : Int) ≤ s.pockelsLimit 7 ∧
      ((-(s.fringe 7 * 1 * s.law Obj.STEP 0)).natAbs : Int) ≤ s.pockelsLimit 7 ∧
      (innerStep s 7 { state := .locked } outOfBand).1.phiL = -(s.fringe 7 * s.law Obj.STEP 0) ∧
      (innerStep s 7 { state := .locked } outOfBand).1.stepping = true :=
  ⟨{ base with objs := [(Obj.FRINGE_SIGN, [(7, 0)])] }, by decide +kernel⟩

theorem witness_ElementEvaluations_3 :
    runs (.elementEvaluation 7) (sampled .opened 20000 16) (fun t => t.elem 7 == { state := .opened, phiL := 5 } && t.drv == base.drv) = true ∧
    runs (.elementEvaluation 7) (withElem 7 { state := .locked, pend := some ({ p := 9, inv := true }, pw 9, pw 0, pw 0) })
      (fun t => t.elem 7 == { state := .locked } && t.drv == base.drv) = true := by decide +kernel

/-- Sums of a whole period of 64 scans from scan 64, input line 0 alone lit. -/
def summed : OuterSum :=
  { start := 64, count := 64, leak := { x := 640 * 32768 }, wanted := { x := 64000 * 32768 }, lit0 := true, unlit1 := true
    lit1 := false, unlit0 := false }

/-- Element 7 at the end of the outer period that ends in scan 128. -/
def outer (x : Elem) : State := { withElem 7 x with tick := 128 * 256 }

theorem witness_OuterLoopAndOffload_1 :
    ∃ x : Elem, (outer x).outerDue 7 = true ∧ x.outerOf ((outer x).scan - periodScans ((outer x).lawN Obj.OUTER_PERIOD 0)) = some summed ∧
      (outer x).outerActs 7 (periodScans ((outer x).lawN Obj.OUTER_PERIOD 0)) summed = true ∧ (outer x).loopsRun = true ∧ x.xLast = none ∧
      (outer x).law Obj.T_MIN 0 ≤ (outer x).law Obj.T_MAX 0 ∧
      (summed.means ((outer x).lawN Obj.OUTER_PERIOD 0)).1.inv = false ∧ (summed.means ((outer x).lawN Obj.OUTER_PERIOD 0)).2.inv = false ∧
      runs (.outerPeriodEnd 7) (outer x) (fun t => (t.elem 7).t == 16400 && (t.elem 7).xLast == some (10, 1000)) = true :=
  ⟨{ state := .locked, outerDone := summed }, by decide +kernel⟩

theorem witness_OuterLoopAndOffload_2 :
    ∃ x : Elem, (outer x).outerDue 7 = true ∧ x.outerOf ((outer x).scan - periodScans ((outer x).lawN Obj.OUTER_PERIOD 0)) = some summed ∧
      (outer x).outerActs 7 (periodScans ((outer x).lawN Obj.OUTER_PERIOD 0)) summed = true ∧ x.xLast = some (1, 200) ∧
      summed.means ((outer x).lawN Obj.OUTER_PERIOD 0) = ({ p := 10 }, { p := 1000 }) ∧
      runs (.outerPeriodEnd 7) (outer x) (fun t => (t.elem 7).dir == -1 && (t.elem 7).t == 16368 &&
        (t.elem 7).xLast == some (10, 1000)) = true :=
  ⟨{ state := .locked, outerDone := summed, xLast := some (1, 200) }, by decide +kernel⟩

/-- The same with one word of the leak tagged INV: the loop does not act. -/
def tainted : OuterSum := { summed with leak := { x := 640 * 32768, inv := true } }

theorem witness_OuterLoopAndOffload_2_inv :
    ∃ x : Elem, (outer x).outerDue 7 = true ∧ x.outerOf ((outer x).scan - periodScans ((outer x).lawN Obj.OUTER_PERIOD 0)) = some tainted ∧
      (outer x).outerActs 7 (periodScans ((outer x).lawN Obj.OUTER_PERIOD 0)) tainted = true ∧
      (tainted.means ((outer x).lawN Obj.OUTER_PERIOD 0)).1.inv = true ∧ runs (.outerPeriodEnd 7) (outer x) (fun t => t.loops == (outer x).loops) = true :=
  ⟨{ state := .locked, outerDone := tainted }, by decide +kernel⟩

theorem witness_OuterLoopAndOffload_3 : (outer { state := .acquire }).outerDue 7 = true ∧
    ({ state := .acquire } : Elem).outerOf 64 = none ∧
    (outer { state := .acquire, outer := summed }).outerActs 7 64 summed = false ∧
    runs (.outerPeriodEnd 7) (outer { state := .acquire, outer := summed })
      (fun t => t.loops == (outer { state := .acquire, outer := summed }).loops) = true := by
  decide +kernel

/-- A LOCKED element with a mean, at the end of an offload period. -/
def offloaded (m : Int) : State := { withElem 7 { state := .locked, theta := 1000, mean := m } with tick := 256 * 32 }

theorem witness_OuterLoopAndOffload_4 : (offloaded 1572865).scan % base.lawN Obj.OFFLOAD_PERIOD 0 = 0 ∧ base.ceiling = false ∧
    65536 * base.law Obj.OFFLOAD_OUTER 0 < ((1572865 : Int).natAbs : Int) ∧
    base.law Obj.OFFLOAD_INNER 0 < base.law Obj.OFFLOAD_OUTER 0 ∧
    (1000 : Int) + sgn 1572865 * base.law Obj.OFFLOAD_STEP 0 ≤ base.law Obj.WRAP_HIGH 0 ∧
    base.law Obj.WRAP_HIGH 0 - 32768 ≤ (1000 : Int) + sgn 1572865 * base.law Obj.OFFLOAD_STEP 0 := by decide +kernel

theorem witness_OuterLoopAndOffload_5 :
    runs (.offloadPeriodEnd 7) (offloaded 524288) (fun t => (t.elem 7).theta == 1000 && !(t.elem 7).offloading && t.drv == base.drv) = true := by
  decide +kernel

theorem witness_OuterLoopAndOffload_6 :
    ∃ s : State, (s.elem 7).theta = base.law Obj.WRAP_HIGH 0 ∧ s.canWrap 7 = true ∧ s.waits .wrap 7 = false ∧ s.holds .wrap 7 = false ∧
      s.lobes.final = none ∧ s.hostMode 1 = false ∧ 65536 * s.law Obj.OFFLOAD_OUTER 0 < ((s.elem 7).mean.natAbs : Int) ∧
      s.law Obj.WRAP_HIGH 0 < (s.elem 7).theta + sgn (s.elem 7).mean * s.law Obj.OFFLOAD_STEP 0 ∧
      runs (.offloadPeriodEnd 7) s (fun t => (t.elem 7).theta == (s.elem 7).theta && (t.elem 7).wrapAsk == some (-1)) = true :=
  ⟨{ withElem 7 { state := .locked, theta := base.law Obj.WRAP_HIGH 0, mean := 1572865 } with tick := 256 * 32 }, by decide +kernel⟩

/-- An element that has asked for a wrap, with its grant. -/
def granted : State := { withElem 7 { state := .locked, theta := 1000, wrapAsk := some (1 : Int) } with
  steady := { grants := [{ kind := .wrap, source := 7, heater := 0, left := 0, base := 0, chans := [], charge := 0 }] } }

theorem witness_WrapsAndSaturation_1 : granted.holds .wrap 7 = true ∧ granted.canWrap 7 = true ∧ granted.lobes.final = none ∧
    granted.wrapsActive 0 < granted.lawN Obj.WRAP_MAX_ACTIVE 0 ∧
    runs (.wrapStart 7) granted (fun t => (t.elem 7).state == .wrapping && (t.elem 7).wrapAsk.isNone &&
      (t.elem 7).wrap.map (·.hEnd) == some 33768) = true := by decide +kernel

/-- An element whose wrap has waited since tick 0. -/
def stalled : Elem := { state := .locked, wrapAsk := some 1 }

theorem witness_WrapsAndSaturation_2 : stalled.wrapIdle = true ∧
    runs (.wrapStalled 7) { withElem 7 stalled with tick := 15625000 } (fun t => t.elem 7 == { stalled with stallRaised := true }) = true := by
  decide +kernel

theorem witness_WrapsAndSaturation_3 : base.lawN Obj.SAT_REPORT 0 = 480 ∧
    runs (.loopSaturated 7) { withElem 7 { state := .saturated } with tick := 480 * 256 } (fun t => (t.elem 7).state == .disabled && t.fab.reported &&
      (t.dev.store.map (·.kind) == some .faultMap || t.dev.storeQueue.contains .faultMap)) = true := by decide +kernel

theorem witness_LoopObjects_1 : base.accepts 5 Obj.SETPOINT 40959 31743 = true ∧
    runs (.setpoint 5 40959 31743) base (fun t => said t Obj.SETPOINT 40959 (.ack []) && (t.elem 40959).target == 31743 &&
      (t.elem 40959).t == 16384) = true := by decide +kernel

theorem witness_LoopObjects_2 : base.accepts 5 Obj.LOOP_ENABLE 7 0 = true ∧
    runs (.loopEnable 5 7 0) base (fun t => said t Obj.LOOP_ENABLE 7 (.ack []) && (t.elem 7).state == (base.elem 7).state &&
      t.obj Obj.LOOP_ENABLE 7 == 0 && t.law Obj.LOOP_ENABLE 7 == base.law Obj.LOOP_ENABLE 7) = true := by decide +kernel

/-- Element 7 with LOOP_ENABLE 0 at a scan boundary. -/
def switchedOff : State := { withElem 7 { state := .locked, phiL := 9 } with objs := [(Obj.LOOP_ENABLE, [(7, 0)])] }

theorem witness_LoopObjects_2_scan : switchedOff.law Obj.LOOP_ENABLE 7 = 0 ∧ switchedOff.loops.elems = [(7, { state := .locked, phiL := 9 })] ∧
    ((enableScan switchedOff).elem 7).state = .disabled ∧ ((disableElem switchedOff 7).elem 7).phi = 9 := by decide +kernel

theorem witness_LoopObjects_3 : ({ withElem 7 { state := .disabled } with objs := [(Obj.LOOP_ENABLE, [(7, 0)])] } : State).accepts 5 Obj.LOOP_ENABLE 7 1 = true ∧
    runs (.loopEnable 5 7 1) { withElem 7 { state := .disabled } with objs := [(Obj.LOOP_ENABLE, [(7, 0)])] }
      (fun t => said t Obj.LOOP_ENABLE 7 (.ack []) && t.obj Obj.LOOP_ENABLE 7 == 1 && (t.elem 7).state == .disabled) = true ∧
    (withElem 7 { state := .disabled }).mustDisable 7 = false ∧ (withElem 7 { state := .disabled }).loopsRun = true ∧
    (withElem 7 { state := .disabled }).loops.elems = [(7, { state := .disabled })] := by decide +kernel

theorem witness_LoopObjects_4 : base.accepts 5 Obj.VOA_ENABLE 1023 0 = true ∧
    runs (.voaEnable 5 1023 0) base (fun t => said t Obj.VOA_ENABLE 1023 (.ack []) && t.obj Obj.VOA_ENABLE 1023 == 0 && (t.voa 1023) == base.voa 1023) = true := by decide +kernel

/-- A VOA in a given record, its channel at a known code. -/
def withVoa (x : Voa) (c : Chan) : State := { base with loops := { voas := [(9, x)] }, drv := { base.drv with chans := [(122889, c)] } }

/-- A channel that has reached code 100. -/
def there : Chan := { out := 100, target := 100, taken := 100, reached := true }

theorem witness_LoopObjects_5 : (withVoa { state := .disabled } there).accepts 5 Obj.VOA_ENABLE 9 1 = true ∧
    runs (.voaEnable 5 9 1) (withVoa { state := .disabled } there) (fun t => said t Obj.VOA_ENABLE 9 (.ack []) && (t.voa 9).leaving) = true := by
  decide +kernel

theorem witness_LoopObjects_6 :
    runs (.voaPeriodEnd 9) { withVoa { state := .acquire, sum := { x := 5 } } there with tick := 128 * 256 }
      (fun t => (t.voa 9).state == .locked && (t.voa 9).sum == {}) = true := by decide +kernel

/-- The base with the tap reference of output 9 at 0.00 dB. -/
def tapped : State := { base with objs := [(Obj.OUT_TAP_REF, [(9, 0)])] }

theorem witness_LoopObjects_7 : tapped.law Obj.DARK_LEVEL 0 ≤ 2000 ∧ tapped.hostMode 1 = false ∧ tapped.ceiling = false ∧
    tapped.tapTarget 9 0 = 1024 ∧ tapped.law Obj.VBAND_OUT 0 * 1024 < 32768 * 976 ∧ tapped.law Obj.VBAND_IN 0 * 1024 < 32768 * 976 ∧
    ({} : Voa).darkOut = false := by decide +kernel

/-- A record that gives element 7 the bias phase 0. -/
def zeroRec : DriveRec := { sel := 7, kind := 0, value := 0, last := 0 }

theorem witness_HostDriveBlocks_1 : (hosted 1).steady.frozen = false ∧ (hosted 1).steady.upsets = [] ∧ (hosted 1).acceptsOctets 5 Obj.HOST_DRIVE 0 = true ∧ (hosted 1).driveRecOk zeroRec = true ∧
    (hosted 1).heaterFits (([zeroRec].map (hosted 1).driveRecHeat).foldl (· + ·) 0) = true ∧
    runs (.hostDrive 5 [zeroRec]) (hosted 1) (fun t => said t Obj.HOST_DRIVE 0 (.ack []) && t.loops.hostBlocks == [[zeroRec]] &&
      t.loops.hostLast == 25600 && t.holds .hostDrive 1) = true := by decide +kernel

theorem witness_HostDriveBlocks_2 :
    runs .hostDriveApply { hosted 1 with loops := { hostBlocks := [[]] } } (fun t => t.loops.hostBlocks == []) = true := by decide +kernel

theorem witness_HostDriveBlocks_3 : (hosted 1).driveRecOk { zeroRec with kind := 3 } = false ∧
    runs (.hostDrive 5 [zeroRec, { zeroRec with kind := 3 }]) (hosted 1) (fun t => said t Obj.HOST_DRIVE 0 (.nak .range 0 0) &&
      t.loops == (hosted 1).loops && t.objN Obj.HOST_REFUSED 0 == 1) = true := by decide +kernel

/-- Element 7 with a heater map and a resistance, under the ceiling of R289. -/
def hot : State :=
  { hosted 1 with
    octs := [(Obj.HEATER_MAP, [(7, ((List.range 17).map fun j => [j.toUInt8.toBitVec, 0#8]).flatten)])]
    objs := [(Obj.HEATER_R, [(7, 1000)])]
    steady := { ceiling := true } }

/-- A record that raises the heater phase of element 7. -/
def hotRec : DriveRec := { sel := 7, kind := 1, value := 20000, last := 0 }

theorem witness_HostDriveBlocks_4 : hot.acceptsOctets 5 Obj.HOST_DRIVE 0 = true ∧ hot.driveRecOk hotRec = true ∧
    hot.heaterFits (([hotRec].map hot.driveRecHeat).foldl (· + ·) 0) = false ∧
    runs (.hostDrive 5 [hotRec]) hot (fun t => said t Obj.HOST_DRIVE 0 (.nak .budget 0 0) && t.loops == hot.loops &&
      t.objN Obj.HOST_REFUSED 0 == 1) = true := by decide +kernel

theorem witness_HostDriveBlocks_5 :
    ({ hosted 1 with loops := { elems := [(7, { state := .disabled })] }, objs := [(Obj.CELL_CLASS, [(3, 3)])] } : State).cellClass (cellOf 7) = 3 ∧
    (applyRec { hosted 1 with loops := { voas := [(9, { state := .disabled, atten := 77 })] } } ⟨40969, 5, 2, 0⟩).loops.voas = [(9, { state := .disabled, atten := 77 })] ∧
    ((hosted 1).voa 9).state ≠ .disabled ∧ ((hosted 1).elem 7).state ≠ .disabled ∧ ((hosted 1).cellClass (cellOf 7)) ≠ 3 := by decide +kernel

/-! ### Steps, pins, scan boundaries and loops -/

/-- With a session open and nothing waiting for it a tick advances both counters by ADDEND. -/
theorem witness_IdleStepIsATick_1_counters :
    (match step (lobes {} {}) with
      | .next t => t.time == { (lobes {} {}).time with
          ctr := ⟨base.time.ctr.a.advance (base.objN Obj.ADDEND 0), base.time.ctr.b.advance (base.objN Obj.ADDEND 0)⟩ }
      | _ => false) = true ∧ base.objN Obj.ADDEND 0 ≠ 0 := by decide +kernel

/-- A reset that is due in 10 ms, and a clock restored to a device held in SERVICE. -/
theorem witness_CommandsTouchOnlyTheirParts_2 :
    ({ base with dev := { base.dev with resetDue := some (.warm, 25600) } } : State).elapsed 25600 10000000 = false ∧
    runs .resetDelayEnd { base with dev := { base.dev with resetDue := some (.warm, 25600) } } (fun t => t.dev.resetDue == some (.warm, 25600)) = true ∧
    base.dev.heldFrom ≠ .boot ∧ base.dev.heldFrom ≠ .selftest ∧ runs (.refclkRestored 9) base (fun t => t.tick == 25600) = true := by
  decide +kernel

theorem witness_LogHoldsNewest_2 : Comp.log ∉ touches .refclkLost ∧ base.ex.log.length ≤ 4096 ∧
    runs .refclkLost { base with ex := { base.ex with log := [eventOf 1] } } (fun t => 1 < t.ex.log.length && t.ex.log.getLast? == some (eventOf 1)) = true ∧
    (match step { base with ex := { base.ex with log := [eventOf 1] } } with | .next t => t.ex.log == [eventOf 1] | _ => false) = true ∧
    base.dev.state ≠ .off ∧ runs (.coldResetInput 1) { base with ex := { base.ex with log := [eventOf 1] } } (fun t => t.ex.log == []) = true := by
  decide +kernel

theorem witness_PowerAndPins_4 : ({ base with dev := { state := .off, resetN := true, pgood := true } } : State).dev.state = .off ∧
    runs (.coldResetInput 0) { base with dev := { state := .off, resetN := true, pgood := true } }
      (fun t => t.dev == { state := .off, resetN := true, pgood := false }) = true ∧
    runs (.testAccessPortInstruction 2) base (fun t => t.dev.tapInstruction == 2 && t.dev.trstN && t.dev.boundary == base.dev.boundary) = true ∧
    runs (.testAccessPortInstruction 7) base (fun t => t.dev.tapInstruction == 3 && t.dev.tapData == 0) = true ∧
    runs (.testAccessPortInstruction 1) State.reset (fun t => t.dev.boundary.length == lands.length) = true := by decide +kernel

theorem witness_FunctionsFallBack_5_mode : base.hostMode 5 = false ∧ (base.func 5).pending = none ∧
    ({ base with steady := { ring := [(0, ringLate)] } } : State).undecided = [(0, ringLate)] ∧ ringLate.due ≤ base.tick ∧
    ringLate.req.kind ≠ .commit ∧
    base.mayServe ringLate.req = true ∧
    runs .fallbackPowerArbitration { base with steady := { ring := [(0, ringLate)] } }
      (fun t => t.funcs == base.funcs && t.steady.ring == [(0, { ringLate with state := 1 })] && t.holds .wrap 3) = true ∧
    runs .fallbackPowerArbitration { base with steady := { ring := [(0, ringLate)], frozen := true } }
      (fun t => t.steady.ring == [(0, { ringLate with state := 3 })] && t.steady.queue == [ringLate.req]) = true := by decide +kernel

/-- Both elements of cell 0 in BAR, the two lines lit at powers a and b, and r set when they were equal. -/
def reseeding (a b : Int) : State :=
  { base with loops := { elems := [(0, { ratio := some (1, 2) }), (1, {})] }
              mon := { pds := [(0, { value := pw 9 }), (1, { value := pw 9 }), (38914, { value := pw a }), (39938, { value := pw b })] } }

theorem witness_ScansAndSamples_6 : (reseeding 30000 10000).linesValid 100 0 = true ∧
    base.law Obj.DARK_LEVEL 0 ≤ ((reseeding 30000 10000).linePower 0 0).p ∧ base.law Obj.DARK_LEVEL 0 ≤ ((reseeding 30000 10000).linePower 0 1).p ∧
    (reseeding 30000 10000).ratioNow 0 = some (30000, 40000) ∧
    ((reseedCell (reseeding 30000 10000) 0).elem 1).t = 24576 ∧ ((reseedCell (reseeding 30000 10000) 0).elem 0).ratio = some (30000, 40000) ∧
    base.law Obj.RESEED_STEP 0 = 328 ∧ reseedCell (reseeding 10100 9900) 0 = reseeding 10100 9900 := by decide +kernel

/-- Column 4 at the sixteenth scan in a row with an overrun, beside another column. -/
theorem witness_ScansAndSamples_7 :
    ∃ s : State, 4 ∈ s.loops.cols.map (·.1) ∧ (s.loops.cols.map (·.1)).Nodup ∧ (s.column 4).overRange = true ∧ (s.column 4).overRun = 15 ∧
      (s.column 4).degraded = false ∧ ((scanOpen s [] []).column 4).degraded = true ∧ ((scanOpen s [] []).column 7).degraded = false :=
  ⟨{ base with loops := { cols := [(4, { overRange := true, overRun := 15 }), (7, {})] } }, by decide +kernel⟩

/-- Two elements, the second moving its set-point. -/
def slewing : State := { base with loops := { elems := [(2, {}), (3, { t := 1000, target := 1064 })] } }

theorem witness_ScansAndSamples_8 : slewing.loopsRun = true ∧ 0 < slewing.law Obj.SETPOINT_SLEW 0 ∧ (slewing.loops.elems.map (·.1)).Nodup ∧
    3 ∈ slewing.loops.elems.map (·.1) ∧ ((elemsScan slewing).elem 3).t = 1064 ∧
    ({ slewing with lobes := {} } : State).loopsRun = false ∧ ((elemsScan { slewing with lobes := {} }).elem 3).t = 1000 := by decide +kernel

theorem witness_ScansAndSamples_9 : ({ base with lobes := {} } : State).loopsRun = false ∧ ({ base with lobes := {} } : State).ticking = true := by
  decide +kernel

/-- A state with the maps, the fringe sign and the heater of element 7 known. -/
def mapped (s : State) : State :=
  { s with octs := [(Obj.FAST_MAP, [(7, List.replicate 34 0)]), (Obj.HEATER_MAP, [(7, List.replicate 34 0)])]
           objs := [(Obj.FRINGE_SIGN, [(7, 0)]), (Obj.HEATER_R, [(7, 1000)])] }

/-- An element far from its target at t = 1/2 with a pending set of the scan before. -/
def stepping7 : State := mapped (withElem 7 { state := .locked, pend := some (pw 20000, pw 10, pw 0, pw 0), pendScan := 99 })

theorem witness_ElementEvaluations_5_step : stepping7.hostIn 99 = false ∧ (errTests stepping7 7 16384 (pw 20000) (pw 10)).2.outBand = true ∧
    (errTests stepping7 7 16384 (pw 20000) (pw 10)).2.outInner = true ∧ stepping7.mustDisable 7 = false ∧
    ((-(stepping7.fringe 7 * (errTests stepping7 7 16384 (pw 20000) (pw 10)).2.sign * stepping7.law Obj.STEP 0)).natAbs : Int) ≤ stepping7.pockelsLimit 7 ∧
    runs (.elementEvaluation 7) stepping7 (fun t => (t.elem 7).stepping && (t.elem 7).phiL ==
      -(stepping7.fringe 7 * (errTests stepping7 7 16384 (pw 20000) (pw 10)).2.sign * stepping7.law Obj.STEP 0)) = true := by decide +kernel

/-- The same set taken in a scan of host-assisted mode. -/
theorem witness_ElementEvaluations_5_host : ({ stepping7 with funcs := (hosted 1).funcs } : State).hostIn 99 = true ∧
    runs (.elementEvaluation 7) { stepping7 with funcs := (hosted 1).funcs } (fun t => (t.elem 7).phi == 0 && !(t.elem 7).stepping) = true := by
  decide +kernel

theorem witness_OuterLoopAndOffload_7 :
    ∃ s : State, s.active.isSome = true ∧ s.canWrap 7 = true ∧ s.waits .wrap 7 = false ∧ s.holds .wrap 7 = false ∧
      65536 * s.law Obj.OFFLOAD_OUTER 0 < ((s.elem 7).mean.natAbs : Int) ∧
      (s.elem 7).theta + sgn (s.elem 7).mean * s.law Obj.OFFLOAD_STEP 0 < s.law Obj.WRAP_HIGH 0 - 32768 ∧
      runs (.offloadPeriodEnd 7) s (fun t => (t.elem 7).theta == 3 && (t.elem 7).wrapAsk == some 1) = true :=
  ⟨{ mapped (withElem 7 { state := .locked, theta := 3, mean := -1572865 }) with tick := 256 * 32 }, by decide +kernel⟩

/-- A running wrap up of element 7, its heater command and model at given phases. -/
def wrapping (cmd model phiL : Int) : State :=
  mapped <| withElem 7 { state := .wrapping, theta := cmd, phiL := phiL, wrap := some { d := 1, hStart := 0, hEnd := 32768, hCmd := cmd, hModel := model } }

theorem witness_WrapsAndSaturation_4 : (wrapping 0 0 0).law Obj.WRAP_RATE 0 = 4 ∧
    ((wrapScan (wrapping 0 0 0) 7).elem 7).wrap = some { d := 1, hStart := 0, hEnd := 32768, hCmd := 4, hModel := 0 } ∧
    ((wrapScan (wrapping 0 0 0) 7).elem 7).theta = 4 ∧ ((wrapScan (wrapping 0 0 0) 7).elem 7).state = .wrapping ∧
    ((elemsScan (wrapping 0 0 0)).elem 7).theta = 4 := by decide +kernel

theorem witness_WrapsAndSaturation_5 :
    ({ d := 1, hStart := 0, hEnd := 32768, hCmd := 32768, hModel := 32767 } : Wrap).advance true 4 4390 =
      { d := 1, hStart := 0, hEnd := 32768, hCmd := 32768, hModel := 32767 } ∧
    ((wrapScan (wrapping 32768 32767 0) 7).elem 7).wrap = none ∧ ((wrapScan (wrapping 32768 32767 0) 7).elem 7).theta = 32768 ∧
    ((wrapScan (wrapping 32768 32767 0) 7).elem 7).state = .locked ∧ ((wrapScan (wrapping 32768 32767 0) 7).elem 7).phiW = 0 := by decide +kernel

/-- Two elements at a scan boundary, the second DISABLED, LOOP_ENABLE of the first 0. -/
def switching : State := { base with loops := { elems := [(6, { state := .locked }), (7, { state := .disabled })] }, objs := [(Obj.LOOP_ENABLE, [(6, 0)])] }

theorem witness_LoopObjects_8 : switching.law Obj.LOOP_ENABLE 6 = 0 ∧ switching.mustDisable 7 = false ∧ (switching.loops.elems.map (·.1)).Nodup ∧
    ((elemsScan switching).elem 6).state = .disabled ∧ ((elemsScan switching).elem 7).state = .acquire ∧ ((elemsScan switching).elem 7).wrap = none := by
  decide +kernel

theorem witness_LoopObjects_9 : ∃ s : State, s.obj Obj.VOA_ENABLE 9 = 0 ∧ s.scan % periodScans (s.lawN Obj.VOA_PERIOD 0) = 0 ∧ s.loopsRun = true ∧
    runs (.voaPeriodEnd 9) s (fun t => (t.voa 9).state == .disabled) = true :=
  ⟨{ withVoa { state := .locked } there with tick := 128 * 256, objs := [(Obj.VOA_ENABLE, [(9, 0)])] }, by decide +kernel⟩

theorem witness_LoopObjects_10 : ∃ s : State, s.obj Obj.VOA_ENABLE 9 ≠ 0 ∧ (s.voa 9).state = .disabled ∧ (s.voa 9).leaving = true ∧
    s.voaMustDisable 9 = false ∧ s.scan % periodScans (s.lawN Obj.VOA_PERIOD 0) = 0 ∧
    runs (.voaPeriodEnd 9) s (fun t => (t.voa 9).state == .locked && !(t.voa 9).leaving && (t.voa 9).atten == s.voaAttenNow 9) = true :=
  ⟨{ withVoa { state := .disabled, leaving := true } there with tick := 128 * 256, octs := [(Obj.VOA_MAP, [(9, (List.range 50).map fun j => (j / 2).toUInt8.toBitVec)])] }, by decide +kernel⟩

/-- VOA 9 LOCKED at the end of a period whose mean is 2,000, its target −3.00 dB of the tap power 1,024. -/
def leveling (p : Int) : State :=
  { withVoa { state := .locked, atten := 500, sum := { x := p * 32768 * 64 }, count := 64, fresh := true } there with
    tick := 128 * 256, objs := [(Obj.OUT_TAP_REF, [(9, 0)])]
    octs := [(Obj.VOA_MAP, [(9, (List.range 50).map fun j => (j / 2).toUInt8.toBitVec)])] }

theorem witness_LoopObjects_11 : (leveling 2000).voaInput 9 = none ∧ ((leveling 2000).voa 9).meanOf ((leveling 2000).lawN Obj.VOA_PERIOD 0) = (pw 2000, true) ∧
    (leveling 2000).hostIn 127 = false ∧ (leveling 2000).ceiling = false ∧ (leveling 2000).law Obj.DARK_LEVEL 0 ≤ 2000 ∧
    (leveling 2000).tapTarget 9 (slewTo ((leveling 2000).voa 9).eff ((leveling 2000).voaNewest 9) ((leveling 2000).law Obj.TARGET_SLEW 0)) = 513 ∧ (leveling 2000).law Obj.VBAND_OUT 0 * 513 < 32768 * (2000 - 513) ∧
    runs (.voaPeriodEnd 9) (leveling 2000) (fun t => (t.voa 9).atten == 500 + base.lawN Obj.VSTEP 0) = true := by decide +kernel

/-! ### Images, commits, drive and power -/

/-- Three staged writes, two to one entry and one void. -/
def stagedMany : State :=
  { base with fab := { applyPending := true, staged :=
      [{ addr := Obj.CELL_CLASS, sel := 7, value := 3, void := false }, { addr := Obj.CELL_CLASS, sel := 8, value := 2, void := true },
       { addr := Obj.CELL_CLASS, sel := 7, value := 1, void := false }] } }

theorem witness_FaultMapAndPinTests_9 : stagedMany.fab.applyPending = true ∧ stagedMany.tick % 256 = 0 ∧
    (∀ w ∈ stagedMany.fab.staged, w.addr = Obj.CELL_CLASS ∨ w.addr = Obj.ELEMENT_FAULT) ∧
    runs .faultMapApply stagedMany (fun t => t.fab == { } && t.obj Obj.CELL_CLASS 7 == 1 && t.obj Obj.CELL_CLASS 8 == 0 &&
      t.objN Obj.FAULT_GEN 0 == 2 && t.objN Obj.FAULT_DISCARDS 0 == 1) = true := by decide +kernel

theorem witness_ImageLoads_6 : ({ loaded with mat := { badWords := [(9 * 393216 + 64, 32)] } } : State).slotBad 9 = true ∧
    runs (.loadClose 5) { loaded with mat := { badWords := [(9 * 393216 + 64, 32)] } }
      (fun t => said t Obj.LOAD_CLOSE 0 (.nak .memory 0 8) && t.slotState 9 == .invalid && (t.loadOf 5).isNone) = true := by decide +kernel

/-- A load of slot 9 whose value stands at n bytes in session 5. -/
def delivering (n : Nat) : State :=
  { slotted 9 .loading with
    ex := { sessions := [(0, { num := 5, level := 2, block := some ⟨Obj.LOAD_DATA, 0, slotBytes, List.replicate n 0, 25600⟩ })] } }

theorem witness_ImageLoads_7 : (delivering 2).acceptsOctets 5 Obj.LOAD_DATA 0 = true ∧ (delivering 2).newReq 5 77 = true ∧
    ((delivering 2).loadOf 5).isSome = true ∧ ((delivering 2).ex.owed.any fun o => o.kind == .park || o.kind == .resume) = false ∧
    runs (.blockWrite 5 77 Obj.LOAD_DATA 0 2 slotBytes [7, 8]) (delivering 2) (fun t => replied t (.ack []) && t.hbm == [] &&
      ((t.session 5).bind (·.2.block)).map (·.bytes) == some [0, 0, 7, 8]) = true := by decide +kernel

/-- The last chunk of the value. -/
theorem witness_ImageLoads_8 : (delivering 393200).acceptsOctets 5 Obj.LOAD_DATA 0 = true ∧ (delivering 393200).newReq 5 77 = true ∧
    (delivering 393200).loadOf 5 = some { slot := 9, session := some 5, last := 3 } ∧
    ((delivering 393200).session 5).bind (·.2.block) =
      some { addr := Obj.LOAD_DATA, sel := 0, total := slotBytes, bytes := List.replicate 393200 0, tick := 25600 } ∧
    (List.replicate 393200 (0 : Byte)).length + (List.replicate 16 (1 : Byte)).length = slotBytes :=
  ⟨by decide +kernel, by decide +kernel, by decide +kernel, rfl, by rw [List.length_replicate, List.length_replicate]; rfl⟩

theorem witness_StorelessCommandsKeepMemory_2 : Comp.log ∉ touches (.revalidate 5 4) ∧ storeSlots (.revalidate 5 4) base = [4] ∧
    memByte ({ base with hbm := [(5 * slotBytes, 3)] } : State).hbm (5 * slotBytes) = 3 ∧
    runs (.revalidate 5 4) { base with hbm := [(5 * slotBytes, 3)] } (fun t => memByte t.hbm (5 * slotBytes) == 3) = true := by decide +kernel

theorem witness_CommitsPrepared_3 : ({ preparable with mat := { badWords := [(4 * 393216, 32)] } } : State).slotBad 4 = true ∧
    ({ preparable with mat := { badWords := [(4 * 393216, 32)] } } : State).prepareNak 1 4 1 = none ∧
    runs (.prepare 5 7 1 4 1) { preparable with mat := { badWords := [(4 * 393216, 32)] } } (fun t => said t 0 0 (.nak .memory 0 1) &&
      t.com == base.com && t.slotState 4 == .invalid) = true := by decide +kernel

theorem witness_SpansAndGenerators_7 : startDue.atT 99 = true ∧ ({ startDue with time := { ctr := ⟨{ ns := 90 }, {}⟩ } } : State).atT 99 = false := by
  decide +kernel

/-- Lobe A ACTIVE with the claim of the gates, bank 9 SAFE with a ramp of its channel 288, bank 10's gate under a higher claim. -/
def held9 (commanded : Bool) : State :=
  { lobes { role := .active, claim := 7 } { role := .standby } with
    lobes := { each := ⟨{ role := .active, claim := 7 }, { role := .standby }⟩, gateBase := 7, gateHigh := [(10, 9)] }
    drv := { driven := true, keepScan := some 3, banks := [(9, { hold := .safe, commanded }), (10, { hold := .holding })],
             chans := [(288, { out := 8000, target := 8192, taken := 8192, motion := some (.ramp 25344 8000 8192 1 256) })] } }

theorem witness_SafeValues_7 : (held9 false).active = some 0 ∧ (held9 false).lobes.gateBase ≤ ((held9 false).lobe 0).claim ∧
    9 ∉ (held9 false).shutBanks ((held9 false).lobe 0).claim ∧ msorted (held9 false).drv.banks = true ∧
    ((keepAlive (held9 false)).bank 9).hold = .normal ∧ (keepAlive (held9 false)).lastKeepOf 9 = some 100 ∧
    ((keepAlive (held9 false)).chan 288).motion = none ∧ ((keepAlive (held9 false)).chan 288).out = (held9 false).limiterOut 288 ∧
    ((keepAlive (held9 false)).chan 288).target = (held9 false).limiterOut 288 ∧
    ((keepAlive (held9 true)).bank 9).hold = .normal ∧ ((keepAlive (held9 true)).chan 288).target = 8192 := by decide +kernel

theorem witness_SafeValues_8 : 10 ∈ (held9 false).shutBanks ((held9 false).lobe 0).claim ∧
    (keepAlive (held9 false)).bank 10 = { hold := .holding, lastKeep := some (some 3) } := by decide +kernel

theorem witness_SetPointsAndAverages_12 : 0 < (mget {} (withSpp { mode := 0 }).mon.spp 3).ended 100 ∧
    12500 ≤ 256 * 2 ^ (mget {} (withSpp { mode := 0 }).mon.spp 3).win ∧
    (mget {} (withSpp { begun := 99 }).mon.spp 3).ended 100 = 0 ∧
    runs (.sppWindowEnd 3 97 12500 6250) (withSpp { begun := 99 }) (fun t => t.mon == (withSpp { begun := 99 }).mon && t.objs == []) = true := by
  decide +kernel

/-- The grants of `granting` with the lanes undriven, their draw therefore nothing. -/
def accounted (budget : Nat) (ceiling : Bool) : State :=
  { granting [] with drv := {}, steady := { (granting []).steady with budget, ceiling } }

theorem witness_PowerArbitration_7 : (accounted 70000 false).steady.frozen = false ∧ (accounted 70000 false).steady.upsets = [] ∧
    (heaterScan (accounted 70000 false)).obj Obj.HEATER_POWER 0 = (accounted 70000 false).heaterSum ∧
    (heaterScan (accounted 70000 false)).obj Obj.GRANTED_HEATER 0 = 5000 ∧ (heaterScan (accounted 70000 false)).steady.ceiling = false ∧
    (heaterScan (accounted 5 false)).steady.ceiling = true ∧ (heaterScan (accounted 505 true)).steady.ceiling = true ∧
    (heaterScan (accounted 506 true)).steady.ceiling = false := by decide +kernel

/-! ### Lobes, rings, frames and the internal fabric -/

/-- A heartbeat on path 1 after an uncorrectable error of the mailbox fails, and the next does not. -/
theorem witness_Heartbeats_9 : base.mat.mailBad = false ∧
    runs (.heartbeatReceive 1 1 beat true) { base with mat := { mailBad := true } }
      (fun t => !t.mat.mailBad && t.lobes == base.lobes) = true := by decide +kernel

/-- A lobe that its object holds OFFLINE goes there, and nowhere else, wherever it would leave a role. -/
def barredA (a b : Lobe) : State := { lobes a b with objs := [(Obj.LOBE_HOLD_OFFLINE, [(0, 1)])] }

theorem witness_ClaimsAndTakeover_7 : (barredA {} {}).mayRun 0 = false ∧ base.mayRun 0 = true ∧
    runs (.claimBroadcast 0) (barredA { role := .active, claim := 6 } {}) (fun t => (t.lobe 0).role == .offline && (t.lobe 0).claim == 0) = true ∧
    runs (.writeRefused 0 3873) (barredA { role := .active, claim := 6 } {}) (fun t => (t.lobe 0).role == .offline) = true := by decide +kernel

theorem witness_LobeFaults_7 :
    runs (.lobeYielded 0 5) (barredA { role := .active, claim := 7 } { role := .standby }) (fun t => (t.lobe 0).role == .offline &&
      (t.lobe 0).health == 16 && (t.lobe 0).claim == 0 && t.lobes.sent.head?.any fun h => h.yield == some 5) = true ∧
    runs (.katDone 41 false true) { testing 3 with objs := [(Obj.LOBE_HOLD_OFFLINE, [(0, 1)])] } (fun t => (t.lobe 0).role == .offline) = true ∧
    runs (.katDone 41 false true) (barredA { role := .standby, katPending := true, katTurn := 41 } { role := .active })
      (fun t => (t.lobe 0).role == .offline && (t.lobe 0).katTurn == 0) = true := by decide +kernel

theorem witness_DiagnosisAndHold_11 :
    runs (.diagnosisEnd 0 true) (barredA { role := .diagnosing, bank := some 0 } { role := .active }) (fun t => (t.lobe 0).role == .offline) = true := by
  decide +kernel

theorem witness_SnapshotsAndSwaps_10 : (captured 2 1).lobes.capture.map (·.path) = some 0 ∧
    runs (.snapshotReceived true)
      { captured 2 1 with mat := { transferBad := true }, lobes := { (captured 2 1).lobes with capture := some { base.snapshotNow 2 with path := 1 } } }
      (fun t => t.objN Obj.SNAP_DISCARDS 0 == 1 && t.lobes.snap.any fun x => x.seq == 1) = true := by decide +kernel

/-- Ring 3 enabled, with photodiode 5 in its channels, some scans before its next record. -/
def sampling (left : Nat) : State :=
  { base with sorus := { rings := [(3, { length := 65536, decim := 4, scansLeft := left, seq := 9, wp := 64, rp := 64 })] }
              mon := { pds := [(5, { raw := 0x1234 })] }
              objs := [(Obj.RING_ENABLE, [(3, 1)]), (Obj.RING_DECIM, [(3, 4)]), (Obj.RING_LENGTH, [(3, 64)])]
              octs := [(Obj.RING_CHANNELS, [(3, beBytes 4 0x10000005)])] }

theorem witness_Captures_13 : chanList ((sampling 2).oct Obj.RING_CHANNELS 3) 256 = [0x10000005] ∧ (sampling 2).obj Obj.RING_ENABLE 3 = 1 ∧
    (sampling 2).objN Obj.RING_DECIM 3 = 4 ∧ ((ringScan (sampling 2) 3).ring 3).recs = [] ∧ ((ringScan (sampling 2) 3).ring 3).scansLeft = 1 ∧
    ((ringScan (sampling 1) 3).ring 3).recs = [(64, ringRecord 1 0 9 (sampling 1).now 100 [0x34, 0x12, 0, 0])] ∧
    ((ringScan (sampling 1) 3).ring 3).wp = 92 ∧ ((ringScan (sampling 1) 3).ring 3).seq = 10 ∧ ((ringScan (sampling 1) 3).ring 3).scansLeft = 4 := by
  decide +kernel

theorem witness_Captures_14 : base.accepts 5 Obj.RING_ENABLE 15 0 = true ∧ base.obj Obj.RING_LENGTH 15 = 0 ∧
    (base.ex.owed.any fun o => o.kind == .park || o.kind == .resume) = false ∧
    runs (.objectWrite 5 Obj.RING_ENABLE 15 0) base (fun t => said t Obj.RING_ENABLE 15 (.nak .state 0 0)) = true ∧
    runs (.objectWrite 5 Obj.RING_ENABLE 3 0) (sampling 1) (fun t => said t Obj.RING_ENABLE 3 (.ack []) && t.obj Obj.RING_ENABLE 3 == 0) = true := by
  decide +kernel

/-- The UART in recovery. -/
def recovering : State := { base with dev := { base.dev with state := .boot, faults := [.recovery] }, lobes := {} }

theorem witness_Classification_13 : recovering.recovery = true ∧ frameFormatOk [1, 2] = false ∧
    runs (.frameReceive 2 (slip [1, 2]) true true) recovering (fun t => t.objN Obj.FORMAT_DROPS 0 == 1 && t.ex.out == []) = true ∧ unslip false [] (slip [0xC0, 1, 0xDB]) = [[0xC0, 1, 0xDB]] ∧ slip [0xC0] = [0xC0, 0xDB, 0xDC, 0xC0] ∧
    ({} : State).exvanServed = false ∧ runs (.frameReceive 2 (slip [1, 2]) true true) {} (fun t => t.objs == []) = true ∧
    runs (.frameReceive 3 [] true true) (ported {} {}) (fun t => t.net == (ported {} {}).net) = true := by decide +kernel

theorem witness_Sessions_13 :
    runs (.openSession 2 [1] 9 false [] ⟨0, 7⟩) { base with ex := { nonces := [(2, [[1]])] } } (fun t => t.objN Obj.REPLAY_DROPS 0 == 1) = true := by
  decide +kernel

/-- A burst to the HBM whose fetcher holds none, and a request that no map allows. -/
theorem witness_InternalFabric_8 : reqAllowed 6 { sramWrite with target := 0, write := false, addr := 0, bytes := 8 } = false ∧
    ((matStep base (.present 6 { sramWrite with target := 0, write := false, addr := 0, bytes := 8 })).objN Obj.DECODE_ERRORS 6 == 1) = true ∧
    ((matStep base (.present 6 { sramWrite with target := 0, write := false, addr := 0, bytes := 8 })).mat.errors.map (·.2.2)) = [List.replicate 8 0] ∧
    reqAllowed 6 { hbmBurst with done := 0 } = true ∧ hbmBurst.target ≤ 1 := by decide +kernel

theorem witness_InternalFabric_9 : (withMatrix { ports := [(6, { out := [hbmBurst] })] }).beatSince 6 0 = some 0 ∧ base.beatSince 6 0 = none ∧
    (withMatrix { ports := [(6, { out := [{ hbmBurst with last := 25600 }] })] }).elapsed 25600
      ((withMatrix { ports := [(6, { out := [{ hbmBurst with last := 25600 }] })] }).objN Obj.BEAT_TIMEOUT 0) = false ∧
    runs (.beatTimeout 6 0 0 0) (withMatrix { ports := [(6, { out := [{ hbmBurst with last := 25600 }] })] })
      (fun t => (t.matPort 6).out.length == 1 && t.objN Obj.INIT_ABORTS 6 == 0) = true := by decide +kernel

/-- What stands behind a broken lock and is not of target 2 stays, as does a FENCE. -/
theorem witness_InternalFabric_10 :
    runs (.lockBroken 6 (base.objN Obj.MATRIX_LOCK_LIMIT 0 + 1))
      (withMatrix { lock := some (6, 0), ports := [(6, { out := [hbmBurst, sramWrite, { sramWrite with mark := 3 }], held := [sramWrite] })] })
      (fun t => (t.matPort 6).out ++ (t.matPort 6).held == [hbmBurst, { sramWrite with mark := 3 }]) = true := by decide +kernel

theorem witness_InternalFabric_11 : base.inUse 4 = false ∧ base.lib.writing = none ∧
    runs (.hbmUe (4 * 393216) 2) { base with lib := { slots := [(4, .valid)] } } (fun t => t.mat.badWords == [(4 * 393216, 32)] &&
      t.slotState 4 == .valid) = true ∧
    runs (.sramUe 0x40000 0) base (fun t => t.mat.mailBad && !t.mat.transferBad) = true ∧
    runs (.sramUe 0x3FFFFF 0) base (fun t => t.mat.transferBad && !t.mat.mailBad) = true ∧
    runs (.scrubDone [0] 0) base (fun t => t.mat == base.mat && t.objs == []) = true ∧
    runs (.scrubDone [] 0) (withMatrix { scrubPeriod := 0 }) (fun t => t.mat.scrubAt == 25600 && t.mat.scrubPeriod == base.objN Obj.SCRUB_PERIOD 0) =
      true := by decide +kernel

theorem witness_NetworkTime_12 :
    runs (.masterLost 1) { timed { masters := [master1], master := some [1], pairs := [(1, 2)] } with tick := 156250000 }
      (fun t => t.time.master.isNone && t.time.pairs == [(1, 2)]) = true := by decide +kernel

/-! ### Well-formed commands: every check refuses an ill-formed term -/

/-- A PTP Sync of port 0. -/
def sync : PtpMsg :=
  ⟨0, 0, 0, 0, 2, 0, List.replicate 10 1, 7, 0, 5, 0, 0, false, [], 0, []⟩

/-- A claimless heartbeat of lobe 1. -/
def quiet : Heartbeat := ⟨1, .standby, 0, 3, 1, none, none⟩

theorem test_wf_accepts : ([.resetRelease, .coldResetInput 1, .railFault 6 65535, .booted 1 true true, .selftestStepDone 9 0,
    .scanBoundary [(84, 65535)] ⟨[1, 9], [.present 6 sramWrite, .grant 10 [6] 1, .hbmCorrected 0x1FFFFFFFFF, .sramCorrected 0x3FFFFFF]⟩, .sampleDelivery 2623 15 4095 true 3 0 false 0, .elementEvaluation 40959, .voaPeriodEnd 1023,
    .setpoint 0xFFFD 40959 (-2147483648), .funcMode 1 8 0, .prepare 0x10000 1 1 1 0, .commit 1 1 1 0 0, .slewPeriodBoundary 123967,
    .readbackComparison 3871 33 0, .digestCompare [(41, 0xFFFFFFFF)], .pcsLockChange 1 ⟨true, 0, 0⟩, .cancel 1 0xFFFFFFFF 0, .tempConversion 42 4294967295, .calRunEnd ⟨0, 0, some 1, [], []⟩, .heartbeatReceive 1 1 quiet true, .katDone 41 true true,
    .frameReceive 1 [] true true, .ptpMessage sync, .openSession 2 (List.replicate 8 0) 0 false [1, 2, 3, 4] ⟨5, 6⟩, .echo 1 0 [1, 2, 3, 4],
    .beatTimeout 6 10 0 0, .hbmUe 0x1FFFFFFFFF 0, .testAccessPortInstruction 255] : List Instr).all Instr.wf = true := by decide +kernel

theorem test_wf_refuses_lifecycle : ([.coldResetInput 2, .railFault 7 0, .railFault 0 65536, .refclkRestored (2 ^ 64), .booted 2 true true,
    .selftestStepDone 0 0, .selftestStepDone 10 0, .selftestStepDone 1 (2 ^ 32), .lobeReset 1 2, .fwTrialTimeout 2, .park 0, .drain 0xFFFE,
    .lobeLocalMemoryError 2, .parkStore 0 1, .fwVerify 0 true, .testAccessPortInstruction 256] : List Instr).all (!·.wf) = true := by decide +kernel

theorem test_wf_refuses_loops : ([.scanBoundary [(85, 0)] ⟨[], []⟩, .scanBoundary [(0, 65536)] ⟨[], []⟩, .scanBoundary [] ⟨[0], []⟩, .scanBoundary [] ⟨[10], []⟩,
    .scanBoundary [] ⟨[], [.present 7 sramWrite]⟩, .scanBoundary [] ⟨[], [.present 0 { sramWrite with target := 11 }]⟩,
    .scanBoundary [] ⟨[], [.present 0 { sramWrite with mark := 4 }]⟩, .scanBoundary [] ⟨[], [.present 0 { sramWrite with done := 1 }]⟩,
    .scanBoundary [] ⟨[], [.present 0 { sramWrite with bytes := 0 }]⟩, .scanBoundary [] ⟨[], [.present 0 { sramWrite with target := 3, bytes := 9 }]⟩,
    .scanBoundary [] ⟨[], [.present 0 { sramWrite with beats := 65 }]⟩, .scanBoundary [] ⟨[], [.present 0 { sramWrite with beats := 2, addr := 4032 }]⟩,
    .scanBoundary [] ⟨[], [.grant 11 [] 0]⟩, .scanBoundary [] ⟨[], [.grant 0 [7] 0]⟩, .scanBoundary [] ⟨[], [.hbmCorrected 0x2000000000]⟩,
    .scanBoundary [] ⟨[], [.sramCorrected 0x4000000]⟩,
    .sampleDelivery 2624 0 0 false 0 0 false 0, .sampleDelivery 0 16 0 false 0 0 false 0, .sampleDelivery 0 0 4096 false 0 0 false 0,
    .sampleDelivery 0 0 0 false 4 0 false 0, .sampleDelivery 0 0 0 false 0 4096 false 0, .sampleDelivery 0 0 0 false 0 0 false 4,
    .elementEvaluation 40960, .voaPeriodEnd 1024, .setpoint 0 0 0, .setpoint 1 40960 0, .setpoint 1 0 (-2147483649),
    .loopEnable 1 0 (2 ^ 64 * 10 ^ 9), .voaEnable 1 1024 0, .hostDrive 1 [⟨2 ^ 32, 0, 0, 0⟩], .hostDrive 1 [⟨0, 65536, 0, 0⟩],
    .hostDrive 1 [⟨0, 0, 256, 0⟩], .hostDrive 1 [⟨0, 0, 0, 256⟩], .funcMode 1 0 0, .funcMode 1 9 0, .modeBoundary 0, .modeBoundary 9] : List Instr).all
    (!·.wf) = true := by decide +kernel

theorem test_wf_refuses_images_and_commits : ([.pinTestCell 0 0, .loadSlot 0 0, .findHash 1 (2 ^ 32), .routeDone (2 ^ 32), .refineDecideWrite 1 4,
    .refineDecideDiscard 1 4, .prepare 0xFFFE 0 0 0 0, .prepare (0x10000 + 2 ^ 32) 0 0 0 0, .prepare 1 (2 ^ 32) 0 0 0, .prepare 1 0 (2 ^ 32) 0 0,
    .prepare 1 0 0 (2 ^ 32) 0, .prepare 1 0 0 0 256, .commit 1 0 0 (-1) 0, .commit 1 0 0 0 256, .commit 0 0 0 0 0, .cancel 1 (2 ^ 32) 0,
    .cancel 1 0 (2 ^ 32), .commitT (2 ^ 32), .waveStart 0 16, .templatePhaseEnd 0 40960, .peerAbort 0 0 (2 ^ 48), .peerAbort 0 (-1) 0] :
    List Instr).all (!·.wf) = true := by decide +kernel

theorem test_wf_refuses_drive_and_monitor : ([.slewPeriodBoundary 123968, .deglitchEnd 64, .genStartTime 64, .readbackComparison 3874 0 0,
    .readbackComparison 0 34 0, .readbackComparison 0 0 65536, .spareSwitchover 3874 0, .spareSwitchover 0 32, .bankHolding 3874,
    .refReady 164, .refEnable 1 164 0, .gainMode 1 83968 0, .converterCheck 2788 0, .converterCheck 0 4096, .convSubstituted 2624,
    .injectionDone 2624 0 false, .injectionDone 0 4096 false, .focusStart 1 2624, .spaSample 4 0, .spaSample 0 4096, .sppWindowEnd 4 0 0 0,
    .sppWindowEnd 0 (2 ^ 32) 0 0, .sppWindowEnd 0 0 (2 ^ 32) 0, .sppWindowEnd 0 0 0 (2 ^ 32), .sppTimeout 4, .avgWindowEnd 672,
    .avgConfig 1 672 true 0] : List Instr).all (!·.wf) = true := by decide +kernel

theorem test_wf_refuses_calibration_and_power : ([.calRunEnd ⟨0, 256, none, [], []⟩, .calRunEnd ⟨0, 0, some 0, [], []⟩,
    .calRunEnd ⟨0, 0, some 256, [], []⟩, .calAccept 0, .grantRelease .wrap (2 ^ 33), .heaterBudget 0 true 0, .grantDecideGrant 1 (2 ^ 32) true,
    .tempConversion 43 0, .tempConversion 0 32768, .tempConversion 39 (-1), .tempConversion 39 4294967296, .tempHardCut 0 (-32769), .tdxMode 1 4 0] : List Instr).all (!·.wf) = true := by decide +kernel

theorem test_wf_refuses_lobes_and_capture : ([.heartbeatSend 2, .heartbeatReceive 2 0 quiet true, .heartbeatReceive 0 2 quiet true,
    .heartbeatReceive 0 0 { quiet with lobe := 2 } true, .heartbeatReceive 0 0 { quiet with claim := 2 ^ 32 } true,
    .heartbeatReceive 0 0 { quiet with epoch := 2 ^ 32 } true, .heartbeatReceive 0 0 { quiet with snapSeq := 2 ^ 32 } true,
    .heartbeatReceive 0 0 { quiet with yield := some 0 } true, .heartbeatReceive 0 0 { quiet with yield := some 6 } true, .hbPathFailed 2,
    .writeRefused 2 0, .writeRefused 0 3874, .lobeYielded 0 0, .lobeYielded 0 6, .watchdogExpiry 0 4, .digestCompare [(42, 0)], .digestCompare [(0, 2 ^ 32)], .katDone 42 true true,
    .diagnosisEnd 2 true, .lobeHoldOffline 1 2 0, .capArm 1 8, .captureFrame 8, .capRelease 1 8 0, .trigInEdge 2, .ringLength 1 16 0] :
    List Instr).all (!·.wf) = true := by decide +kernel

theorem test_wf_refuses_ports_and_time : ([.linkUp 2, .pcsLockChange 2 ⟨true, 0, 0⟩, .pcsLockChange 0 ⟨true, (2 ^ 32), 0⟩, .pcsLockChange 0 ⟨true, 0, (2 ^ 32)⟩, .portEnable 1 2 0, .frameReceive 3 [] true true, .classDecideDrop 1 (2 ^ 32) 0 true,
    .classDecideSlow 1 0 256 true, .txEnqueue 2 0 0, .txEnqueue 0 8 0, .txEnqueue 0 0 65536, .shaperWrite 1 16 0 0, .shaperWrite 1 0 3 0,
    .gateApply 1 2, .ptpMessage { sync with port := 2 }, .ptpMessage { sync with kind := 16 }, .ptpMessage { sync with domain := 256 },
    .ptpMessage { sync with sdo := 4096 }, .ptpMessage { sync with version := 16 }, .ptpMessage { sync with seq := 65536 },
    .ptpMessage { sync with src := [] }, .ptpMessage { sync with requesting := [1] }, .ptpMessage { sync with interval := 128 }, .ptpMessage { sync with stamp := -1 },
    .masterLost 0, .masterLost 3, .timeRate 0 0, .pulseApply 1 5, .pulseEdge 5,
    .launchStart 1 16, .launchInstant 16] : List Instr).all (!·.wf) = true := by decide +kernel

theorem test_wf_refuses_sessions_and_fabric : ([.openSession 256 (List.replicate 8 0) 0 false [1, 2, 3, 4] ⟨0, 1⟩,
    .openSession 0 (List.replicate 7 0) 0 false [1, 2, 3, 4] ⟨0, 1⟩, .openSession 0 (List.replicate 8 0) (2 ^ 32) false [1, 2, 3, 4] ⟨0, 1⟩,
    .openSession 0 (List.replicate 8 0) 0 false [1, 2, 3, 4, 5] ⟨0, 1⟩, .openSession 0 (List.replicate 8 0) 0 false [1, 2, 3, 4] ⟨65536, 1⟩,
    .openSession 0 (List.replicate 8 0) 0 false [1, 2, 3, 4] ⟨0, (2 ^ 32)⟩, .closeSession 1 (2 ^ 32), .echo 1 0 [1, 2, 3], .read 1 0 [⟨2 ^ 24, 0⟩], .read 1 0 [⟨0, 2 ^ 32⟩], .write 1 0 [⟨2 ^ 24, 0, 0, []⟩],
    .write 1 0 [⟨0, 256, 0, []⟩], .write 1 0 [⟨0, 0, 2 ^ 32, []⟩], .objectWrite 1 (2 ^ 24) 0 0, .objectWrite 1 0 (2 ^ 32) 0,
    .blockRead 1 0 (2 ^ 24) 0 0 0, .blockRead 1 0 0 0 (2 ^ 32) 0, .blockRead 1 0 0 0 0 (2 ^ 32), .blockWrite 1 0 0 0 0 (2 ^ 32) [],
    .subscribe 1 0 256 true 0 0, .subscribe 1 0 0 true 65536 0, .subscribe 1 0 0 true 0 65536, .keyOverlapEnd 4, .beatTimeout 7 0 0 0,
    .beatTimeout 0 11 0 0, .beatTimeout 0 0 65536 0, .beatTimeout 0 0 0 65536, .lockBroken 7 0, .lockBroken 0 (2 ^ 32), .matrixFault 11,
    .hbmUe 0x2000000000 0, .hbmUe 0 256, .scrubDone [0x2000000000] 0, .scrubDone [] (2 ^ 32), .sramUe 0x4000000 0, .sramUe 0 256] :
    List Instr).all (!·.wf) = true := by decide +kernel

/-- No row of the table gives bits, so a word spells no command. -/
theorem test_no_row_has_bits : decodeTableWord 16 0 = none := by decide

end Sys2Proof.Tests
end

/-!
SUPPORT. The proofs of chapter 1 (spec/01_architecture.md): what an event raised with a lobe ACTIVE leaves in the log, and what a
fallback sets, discards and records.
-/

namespace Sys2Proof.Proofs

open Sys2Proof Sys2Proof.Machine Sys2Proof.Laws

/-! ### A raised event stays in the log (R476) -/

theorem noteEvent_log (s : State) (e : EvRec) : (noteEvent s e).ex.log = (e :: s.ex.log).take 4096 := rfl

/-- The rings take their copies of an event without touching the log. -/
theorem logEvent_log (s : State) (code lobe : Nat) (d : Bool) (time : Int) (data : List EvItem) :
    (logEvent s code lobe d time data).1.ex.log = (s.eventRec code lobe d time data :: s.ex.log).take 4096 := by
  unfold logEvent
  extract_lets e due
  have hrings : Frame [.objs, .sorus] (noteEvent s e) ((List.range 16).foldl (ringEvent e) (noteEvent s e, due)).1 :=
    .fold1 (ringEvent_frame e) (.pair (.refl _))
  rw [hrings.ex rfl, noteEvent_log]

/-- Each event that follows moves a record one place towards the old end of the log. -/
theorem mem_logFollow_log (time : Int) {e : EvRec} {n k : Nat} (q : List (Nat × List EvItem)) (s : State)
    (he : e ∈ s.ex.log.take k) (hk : k + n ≤ 4096) : e ∈ (logFollow time n q s).ex.log := by
  induction n generalizing k q s with
  | zero => cases q <;> exact List.mem_of_mem_take he
  | succ n ih =>
    cases q with
    | nil => exact List.mem_of_mem_take he
    | cons m q =>
      refine ih (k := k + 1) _ _ ?_ (by omega)
      rw [logEvent_log, List.take_take, Nat.min_eq_left (by omega), List.take_succ_cons]
      exact List.mem_cons_of_mem _ he

theorem eventRec_mem_logAll (s : State) (code lobe : Nat) (d : Bool) (time : Int) (data : List EvItem) :
    s.eventRec code lobe d time data ∈ (logAll s code lobe d time data).ex.log := by
  unfold logAll
  extract_lets p
  have hp : s.eventRec code lobe d time data ∈ p.1.ex.log.take 1 := by simp [p, logEvent_log]
  exact mem_logFollow_log time p.2 p.1 hp (by decide)

theorem eventRec_mem_raise {s : State} (ha : s.active.isSome = true) (code lobe : Nat) (data : List EvItem) :
    s.eventRec code lobe false s.now data ∈ (raise s code lobe data).ex.log := by
  obtain ⟨l, hl⟩ := Option.isSome_iff_exists.mp ha
  simp only [raise, hl]
  exact eventRec_mem_logAll _ _ _ _ _ _

/-! ### Fallbacks (R37 to R39, R566) -/

@[simp] theorem func_setFunc_self (s : State) (n : Nat) (f : Func) : (s.setFunc n f).func n = f := by
  simp [State.func, State.setFunc]

theorem func_setFunc_other (s : State) {n m : Nat} (f : Func) (h : m ≠ n) : (s.setFunc n f).func m = s.func m := by
  simp [State.func, State.setFunc, mget_mset_other _ _ _ h]

theorem func_of_funcs {s t : State} (h : t.funcs = s.funcs) (n : Nat) : t.func n = s.func n := by simp [State.func, h]

theorem obj_incSat_self (s : State) (a b n : Nat) : (s.incSat a b n).obj a b = (min u32Max (s.objN a b + n) : Nat) := by
  simp [State.incSat]

/-- The state of a fallback before its event is raised. -/
def fallbackSets (s : State) (n : Nat) : State :=
  ((((s.setFunc n { mode := 0, pending := none, fellBack := true }).setObj (Obj.FUNC_MODE + (n - 1)) 0 0).setObjN
    Obj.LAST_FALLBACK 0 n).setObj Obj.LAST_FALLBACK_TIME 0 s.now).incSat Obj.FALLBACK_COUNT n

theorem fallback_eq (s : State) (n : Nat) : fallback s n =
    raiseA (fallbackSets s n) (fallbackCode n) [.word n, .word (boolNat (s.func n).pending.isSome)] := rfl

theorem fallback_func (s : State) (n m : Nat) :
    (fallback s n).func m = (s.setFunc n { mode := 0, pending := none, fellBack := true }).func m := by
  rw [fallback_eq]
  exact func_of_funcs (raiseA_funcs _ _ _) m

theorem fallback_obj (s : State) (n b : Nat) {a : Nat} (h : a ≠ Obj.RING_DROPPED) :
    (fallback s n).obj a b = (fallbackSets s n).obj a b := by
  rw [fallback_eq, raiseA_obj h]

/-- FUNC_MODE lies below the other mode objects. -/
theorem funcMode_ne {n a : Nat} (hn : n ≤ 8) (ha : Obj.FALLBACK_HOLDOFF ≤ a) : Obj.FUNC_MODE + (n - 1) ≠ a := by
  simp only [Obj.FUNC_MODE, Obj.FALLBACK_HOLDOFF] at *
  omega

section
variable (s : State) {n : Nat}

theorem fallbackSets_funcMode (hn : n ≤ 8) : (fallbackSets s n).obj (Obj.FUNC_MODE + (n - 1)) 0 = 0 := by
  unfold fallbackSets
  rw [obj_incSat_other _ fun h => funcMode_ne hn (by decide) h.1, obj_setObj_other _ fun h => funcMode_ne hn (by decide) h.1,
    obj_setObjN_other _ fun h => funcMode_ne hn (by decide) h.1, obj_setObj]

theorem fallbackSets_lastFallback : (fallbackSets s n).obj Obj.LAST_FALLBACK 0 = n := by
  unfold fallbackSets
  rw [obj_incSat_other _ (by simp), obj_setObj_other _ (by simp), obj_setObjN]

theorem fallbackSets_lastFallbackTime : (fallbackSets s n).obj Obj.LAST_FALLBACK_TIME 0 = s.now := by
  unfold fallbackSets
  rw [obj_incSat_other _ (by simp), obj_setObj]

theorem fallbackSets_fallbackCount (hn : n ≤ 8) :
    (fallbackSets s n).obj Obj.FALLBACK_COUNT n = (min u32Max (s.objN Obj.FALLBACK_COUNT n + 1) : Nat) := by
  unfold fallbackSets
  rw [obj_incSat_self, State.objN, obj_setObj_other _ (by simp), obj_setObjN_other _ (by simp),
    obj_setObj_other _ fun h => funcMode_ne hn (by decide) h.1.symm]
  rfl

end

/-- The codes of Table 1.9. -/
theorem getElem?_fallbackCodes {n : Nat} (h1 : 1 ≤ n) (h8 : n ≤ 8) :
    [0x30F1, 0x20F2, 0x20F3, 0x40F4, 0x50F5, 0x80F6, 0x70F7, 0x80F8][n - 1]? = some (fallbackCode n) := by
  interval_cases n <;> rfl

/-- The record of R566 stands in the log, whatever the sessions and rings make follow it. -/
theorem exists_mem_fallback_log {s : State} (ha : s.active.isSome = true) (n : Nat) : ∃ e ∈ (fallback s n).ex.log,
    e.code = fallbackCode n ∧ e.data = [.word n, .word (boolNat (s.func n).pending.isSome)] := by
  have hsets : (fallbackSets s n).active.isSome = true := ha
  exact ⟨_, eventRec_mem_raise hsets _ _ _, rfl, rfl⟩

/-- Settles O18: the values are set before the event is raised and raising keeps them, and at most 64 events follow the record of the
fallback into a log of 4,096. -/
theorem fallbackNoted : Obligations.FallbackNoted := by
  unfold Obligations.FallbackNoted
  intro s n h1 h8
  refine ⟨?func, ?others, ?mode, ?last, ?time, ?count, ?event, fallback_frame s n⟩
  case func => rw [fallback_func, func_setFunc_self]
  case others => exact fun m hm => by rw [fallback_func, func_setFunc_other s _ hm]
  case mode => rw [fallback_obj s n 0 (funcMode_ne h8 (by decide)), fallbackSets_funcMode s h8]
  case last => rw [fallback_obj s n 0 (by decide), fallbackSets_lastFallback]
  case time => rw [fallback_obj s n 0 (by decide), fallbackSets_lastFallbackTime]
  case count => rw [fallback_obj s n n (by decide), fallbackSets_fallbackCount s h8]
  case event =>
    intro ha _
    obtain ⟨e, he, hcode, hdata⟩ := exists_mem_fallback_log ha n
    refine ⟨e, he, hcode ▸ getElem?_fallbackCodes h1 h8, hdata.trans ?_⟩
    cases (s.func n).pending <;> rfl

end Sys2Proof.Proofs

/-!
SUPPORT. Which objects an operation can change, by their addresses: events, answers, Steady's grants, the commits' log and abandonment,
and the stores of flash.
-/

namespace Sys2Proof.Proofs

open Sys2Proof Sys2Proof.Machine Sys2Proof.Laws

/-! ### The relation -/

/-- From the first state to the second at most the objects at these addresses change their values. -/
def ObjsOnly (l : List Nat) (s t : State) : Prop := ∀ a b, a ∉ l → t.obj a b = s.obj a b

section

variable {l m : List Nat} {s t u : State}

theorem ObjsOnly.refl (s : State) : ObjsOnly l s s := fun _ _ _ => rfl

theorem ObjsOnly.trans (h : ObjsOnly l s t) (k : ObjsOnly l t u) : ObjsOnly l s u := fun a b n => (k a b n).trans (h a b n)

theorem ObjsOnly.mono (h : ObjsOnly l s t) (hs : l ⊆ m) : ObjsOnly m s t := fun a b n => h a b fun e => n (hs e)

/-- Through one more operation whose own objects are known. -/
theorem ObjsOnly.step (k : ObjsOnly l t u) (hs : l ⊆ m) (h : ObjsOnly m s t) : ObjsOnly m s u := h.trans (k.mono hs)

/-- Through an operation that changes no object. -/
theorem ObjsOnly.frame {c : List Comp} (k : Frame c t u) (hc : c.contains .objs = false) (h : ObjsOnly l s t) : ObjsOnly l s u :=
  h.trans fun a b _ => obj_of_objs (k.objs hc) a b

/-- Through an operation that changes no object but the rings' counts of dropped records. -/
theorem ObjsOnly.kept (k : ObjsKept t u) (hr : Obj.RING_DROPPED ∈ l) (h : ObjsOnly l s t) : ObjsOnly l s u :=
  h.trans fun a b n => k a b fun e => n (e ▸ hr)

theorem ObjsOnly.setObj {a b : Nat} {v : Int} (ha : a ∈ l) (h : ObjsOnly l s t) : ObjsOnly l s (t.setObj a b v) :=
  h.trans fun _ _ n => obj_setObj_other v fun e => n (e.1 ▸ ha)

theorem ObjsOnly.setObjN {a b v : Nat} (ha : a ∈ l) (h : ObjsOnly l s t) : ObjsOnly l s (t.setObjN a b v) := h.setObj ha

theorem ObjsOnly.incSat {a b n : Nat} (ha : a ∈ l) (h : ObjsOnly l s t) : ObjsOnly l s (t.incSat a b n) := h.setObj ha

theorem ObjsOnly.ite {p : Prop} [Decidable p] (h : ObjsOnly l s t) (k : ObjsOnly l s u) : ObjsOnly l s (if p then t else u) := by
  split <;> assumption

theorem ObjsOnly.foldl {β : Type} {f : State → β → State} {q : List β} (hf : ∀ s b, ObjsOnly l s (f s b)) (h : ObjsOnly l s t) :
    ObjsOnly l s (q.foldl f t) := by
  induction q generalizing t with
  | nil => exact h
  | cons b q ih => exact ih (h.trans (hf t b))

/-- Through a pair taken apart. -/
theorem ObjsOnly.fst {α : Type} {p : State × α} {a : α} (e : p = (t, a)) (h : ObjsOnly l s p.1) : ObjsOnly l s t := by
  subst e; exact h

theorem ObjsOnly.set_ex {v} (h : ObjsOnly l s t) : ObjsOnly l s { t with ex := v } := h
theorem ObjsOnly.set_dev {v} (h : ObjsOnly l s t) : ObjsOnly l s { t with dev := v } := h
theorem ObjsOnly.set_steady {v} (h : ObjsOnly l s t) : ObjsOnly l s { t with steady := v } := h
theorem ObjsOnly.set_cal {v} (h : ObjsOnly l s t) : ObjsOnly l s { t with cal := v } := h
theorem ObjsOnly.set_com {v} (h : ObjsOnly l s t) : ObjsOnly l s { t with com := v } := h
theorem ObjsOnly.set_mat {v} (h : ObjsOnly l s t) : ObjsOnly l s { t with mat := v } := h
theorem ObjsOnly.set_ex_com {v w} (h : ObjsOnly l s t) : ObjsOnly l s { t with ex := v, com := w } := h

end

/-! ### Events, answers and the commits' log -/

section

variable {l : List Nat} {s t : State}

theorem ObjsOnly.raiseA {code : Nat} {data : List EvItem} (hr : Obj.RING_DROPPED ∈ l) (h : ObjsOnly l s t) :
    ObjsOnly l s (raiseA t code data) := .kept (raise_objs _ _ _ _) hr h

theorem ObjsOnly.raiseS {code : Nat} {data : List EvItem} (hr : Obj.RING_DROPPED ∈ l) (h : ObjsOnly l s t) :
    ObjsOnly l s (raiseS t code data) := .kept (raise_objs _ _ _ _) hr h

end

/-- What events and answers change: a ring's count of dropped records. -/
def eventObjs : List Nat := [Obj.RING_DROPPED]

theorem groupAnswer_objs (s : State) (a : Answer) : ObjsOnly eventObjs s (groupAnswer s a) := by
  unfold groupAnswer
  refine .ite ?send (.ite (.set_ex (.refl s)) (.refl s))
  case send => exact .kept (takeGroupSeq_objs _) (by decide) (.kept (sendAnswer_objs _ _ _) (by decide) (.refl s))

theorem closeSession_objs (s : State) (num reason : Nat) : ObjsOnly eventObjs s (closeSession s num reason) := by
  unfold closeSession
  conv => zeta
  split
  · exact .refl s
  · exact .raiseA (by decide) (.set_ex (.frame (abandonLoad_frame s num true) (by decide) (.refl s)))

theorem closeIfSpent_objs (s : State) (sess : Nat) : ObjsOnly eventObjs s (closeIfSpent s sess) := by
  unfold closeIfSpent
  split
  · exact .ite (closeSession_objs s sess 4) (.refl s)
  · exact .refl s

theorem answerCommit_objs (s : State) (sess req : Nat) (r : Reply) : ObjsOnly eventObjs s (answerCommit s sess req r) :=
  (ObjsOnly.kept (answerFrom_objs _ _ _ _ _ _ _ _) (by decide) (.refl s)).trans (closeIfSpent_objs _ sess)

theorem nakUnsolicited_objs (s : State) (sess req : Nat) (n : Nak) (detail : Nat) :
    ObjsOnly eventObjs s (nakUnsolicited s sess req n detail) := by
  unfold nakUnsolicited
  extract_lets reply
  split
  · refine .trans (.frame (State.setSession_frame _ _ _) (by decide) ?_) (closeIfSpent_objs _ sess)
    exact .kept (sendAnswer_objs s 2 _) (by decide) (.refl s)
  · exact .ite (groupAnswer_objs s _) (.refl s)

theorem peerFrame_objs (s : State) (id : Nat) (t : Int) (dest : List Byte) : ObjsOnly eventObjs s (peerFrame s id t dest) := by
  unfold peerFrame
  extract_lets to_ s1
  exact .kept (takeGroupSeq_objs _) (by decide) (.set_ex_com (.kept (sendTo_objs s 2 _ _) (by decide) (.refl s)))

theorem sendPeerAbort_objs (s : State) (c : Commit) : ObjsOnly eventObjs s (sendPeerAbort s c).1 := by
  unfold sendPeerAbort
  extract_lets dest
  split_ifs
  · exact .refl s
  · exact peerFrame_objs s c.id c.t dest
  · exact .set_ex (.refl s)
  · exact .refl s

theorem ringAll_objs (s : State) (takes : Ring → Bool) (kind flags : Nat) (time : Int) (body : List Byte) :
    ObjsOnly eventObjs s (ringAll s takes kind flags time body) := by
  refine .foldl (fun s r => .ite (.refl s) ?_) (.refl s)
  have hput : ObjsOnly eventObjs s (ringPut s r kind flags time body).1 :=
    .kept (ringPut_objs s r kind flags time body) (by decide) (.refl s)
  exact .ite (.raiseS (by decide) hput) hput

theorem updateLog_objs (s : State) (n : Nat) (e : LogEntry) : ObjsOnly eventObjs s (updateLog s n e) :=
  .ite ((ObjsOnly.set_com (.refl s)).trans (ringAll_objs _ _ _ _ _ _)) (.refl s)

/-! ### Grants (chapter 10) -/

/-- What Steady's decisions, grants and ring change. -/
def steadyObjs : List Nat :=
  [Obj.RING_DROPPED, Obj.GRANTED_HEATER, Obj.HEADROOM, Obj.WRAP_CHARGE_HELD, Obj.GRANT_WAITING, Obj.CEILING_ACTIVE, Obj.STEADY_STATE,
   Obj.MISMATCH_COUNT, Obj.GRANTS_ISSUED, Obj.GREQ_HEAD, Obj.GREQ_SEQ, Obj.GREQ_KIND, Obj.GREQ_SOURCE, Obj.GREQ_HEATER,
   Obj.GREQ_CHARGE, Obj.GREQ_WAVES, Obj.GREQ_STATE]

theorem ObjsOnly.showSteady {s t : State} (h : ObjsOnly steadyObjs s t) : ObjsOnly steadyObjs s (showSteady t) := by
  unfold Machine.showSteady
  exact .setObjN (by decide) (.setObjN (by decide) (.setObjN (by decide) (.setObjN (by decide)
    (.setObj (by decide) (.setObj (by decide) h)))))

theorem steadyDecides_objs (s : State) (kind : Nat) : ObjsOnly steadyObjs s (steadyDecides s kind).1 := by
  unfold steadyDecides
  extract_lets n drop s1 s2 s3
  split_ifs
  · exact .refl s
  · exact .refl s
  · exact .incSat (by decide) (.set_steady (.refl s))
  · exact .showSteady (.frame (State.fault_frame _ _) (by decide) (.raiseS (by decide) (.set_steady (.refl s))))

theorem closeReq_objs (s : State) (n st : Nat) : ObjsOnly steadyObjs s (closeReq s n st) := by
  unfold closeReq
  refine .setObjN (by decide) ?_
  split
  · exact .set_steady (.refl s)
  · exact .refl s

theorem showPassed_objs (s : State) (r : GReq) : ObjsOnly steadyObjs s (showPassed s r) := by
  unfold showPassed
  split
  · exact closeReq_objs _ _ _
  · exact .refl s

theorem issueGrant_objs (s : State) (r : GReq) : ObjsOnly steadyObjs s (issueGrant s r) :=
  .showSteady (.incSat (by decide) (.set_steady (showPassed_objs s r)))

theorem serveList_objs (q : List GReq) (s : State) : ObjsOnly steadyObjs s (serveList q s) := by
  induction q generalizing s with
  | nil => exact .set_steady (.refl s)
  | cons r q ih =>
    unfold serveList
    have hd := steadyDecides_objs s r.kind.code
    exact .ite (.ite ((hd.trans (issueGrant_objs _ r)).trans (ih _)) (.set_steady hd)) (.set_steady (.refl s))

theorem serveQueue_objs (s : State) : ObjsOnly steadyObjs s (serveQueue s) :=
  .ite (.refl s) (.showSteady (serveList_objs _ s))

theorem releaseGrant_objs (s : State) (k : GKind) (src : Nat) : ObjsOnly steadyObjs s (releaseGrant s k src) := by
  have hd := steadyDecides_objs s 9
  exact .ite (.ite (.trans (.showSteady (.set_steady hd)) (serveQueue_objs _)) (.set_steady hd)) (.refl s)

theorem ringWrite_objs (s : State) (n : Nat) (r : GReq) : ObjsOnly steadyObjs s (ringWrite s n r) := by
  unfold ringWrite
  exact .raiseS (by decide) (.setObjN (by decide) (.setObjN (by decide) (.setObjN (by decide) (.setObj (by decide)
    (.setObjN (by decide) (.setObjN (by decide) (.setObjN (by decide) (.setObjN (by decide) (.set_steady (.refl s))))))))))

theorem refillRing_objs (q : List GReq) (s : State) : ObjsOnly steadyObjs s (refillRing q s) := by
  induction q generalizing s with
  | nil => exact .set_steady (.refl s)
  | cons r q ih =>
    unfold refillRing
    split
    · exact (ringWrite_objs s _ r).trans (ih _)
    · exact .set_steady (.refl s)

theorem withdraw_objs (s : State) (k : GKind) (src : Nat) : ObjsOnly steadyObjs s (withdraw s k src) := by
  unfold withdraw
  refine .showSteady (.trans ?_ (refillRing_objs _ _))
  exact .foldl (fun s e => closeReq_objs s e.1 2) (.set_steady (.refl s))

/-! ### Abandoned commits (chapter 4) -/

/-- What abandoning a commit changes: what its grant and its requests of one change, and the count of abandoned commits. -/
def abandonObjs : List Nat := Obj.COMMITS_ABANDONED :: steadyObjs

theorem refuseHeld_objs (s : State) (h : HeldPrepare) (n : Nak) : ObjsOnly steadyObjs s (refuseHeld s h n) :=
  .step (answerCommit_objs _ _ _ _) (by decide) (.set_com (withdraw_objs s .commit h.commit.id))

theorem invalidate_objs (s : State) (slot reason : Nat) : ObjsOnly eventObjs s (invalidate s slot reason) :=
  .raiseA (by decide) (.frame (State.setSlot_frame s slot .invalid) (by decide) (.refl s))

theorem slotAfter_objs (s : State) (slot : Nat) : ObjsOnly eventObjs s (slotAfter s slot) := by
  unfold slotAfter
  exact .ite (.trans (.set_mat (.refl s)) (invalidate_objs _ _ _)) (.refl s)

/-- The end of a commit in its log entry, its grant, its count, its event and its slot. -/
theorem ObjsOnly.ended {s t : State} {n id code slot : Nat} {e : LogEntry} {f : Nat → CapAcc → CapAcc} {data : List EvItem}
    (h : ObjsOnly abandonObjs s t) :
    ObjsOnly abandonObjs s (slotAfter (Machine.raiseA
      (((releaseGrant (updateLog t n e) .commit id).incSat Obj.COMMITS_ABANDONED 0).capNote f) code data) slot) := by
  refine .step (slotAfter_objs _ _) (by decide) (.raiseA (by decide) (.frame (State.capNote_frame _ _) (by decide) ?_))
  exact .incSat (by decide) (.step (releaseGrant_objs _ _ _) (by decide) (.step (updateLog_objs _ _ _) (by decide) h))

theorem abandon_objs (s : State) (c : Commit) (why : Outc) : ObjsOnly abandonObjs s (abandon s c why) := by
  unfold abandon
  extract_lets armed s1 s2
  have h2 : ObjsOnly abandonObjs s s2 := .foldl (fun s h => (refuseHeld_objs s h .unknown).mono (by decide))
    (.frame (State.dropCommit_frame s c.id) (by decide) (.refl s))
  split
  next s3 c3 e =>
  have h3 : ObjsOnly abandonObjs s s3 := by
    refine .fst e ?_
    split_ifs
    · exact .step (sendPeerAbort_objs _ _) (by decide) h2
    · exact h2
  split
  · exact .step (nakUnsolicited_objs _ _ _ _ _) (by decide) h3.ended
  · exact h3.ended

/-! ### Changes of the fault map (R65, R132) -/

theorem revalidateSlot_objs (s : State) (slot : Nat) : ObjsOnly eventObjs s (revalidateSlot s slot).1 := by
  unfold revalidateSlot
  split_ifs
  · exact .frame (State.setSlot_frame _ _ _) (by decide)
      (.frame (State.slotSeal_frame _ _) (by decide) (.frame (State.slotWrite_frame _ _ _ _) (by decide) (.refl s)))
  · exact .refl s
  · exact .raiseA (by decide) (.frame (State.setSlot_frame _ _ _) (by decide) (.refl s))

theorem revalidateImage_objs (s : State) (c : Commit) : ObjsOnly eventObjs s (revalidateImage s c).1 := by
  unfold revalidateImage
  split
  · exact revalidateSlot_objs s c.slot
  · exact revalidateSlot_objs s c.slot
  · exact .refl s

theorem revalidateCommits_objs (s : State) : ObjsOnly abandonObjs s (revalidateCommits s) := by
  refine .foldl (fun s c => ?_) (.refl s)
  have hi : ObjsOnly abandonObjs s (revalidateImage s c).1 := (revalidateImage_objs s c).mono (by decide)
  exact .ite (hi.trans (abandon_objs _ c .stale)) hi

/-- What a store that the device makes by itself changes at once. -/
def storeObjs : List Nat := [Obj.RING_DROPPED, Obj.CAL_STORED_GEN]

theorem calStored_objs (s : State) : ObjsOnly storeObjs s (calStored s) :=
  .raiseA (by decide) (.setObj (by decide) (.frame (State.updFlash_frame s _) (by decide) (.refl s)))

theorem startStore_objs (s : State) (k : StoreKind) : ObjsOnly storeObjs s (startStore s k) := by
  unfold startStore
  have hk : ObjsOnly storeObjs s (if k = .calibration then { s with cal := { s.cal with postponed := false } } else s) :=
    .ite (.set_cal (.refl s)) (.refl s)
  exact .ite (.ite (hk.trans (calStored_objs _)) hk) (.set_dev hk)

theorem notePostponed_objs (s : State) : ObjsOnly storeObjs s (notePostponed s) :=
  .ite (.refl s) (.raiseA (by decide) (.set_cal (.refl s)))

theorem pumpStores_objs (s : State) : ObjsOnly storeObjs s (pumpStores s) := by
  unfold pumpStores
  split
  · exact .ite (.trans (.set_dev (.refl s)) (startStore_objs _ _)) (.refl s)
  · exact .refl s

theorem autoStore_objs (s : State) (k : StoreKind) : ObjsOnly storeObjs s (autoStore s k) :=
  .ite (.refl s) (.trans (.trans (.set_dev (.refl s)) (pumpStores_objs _)) (notePostponed_objs _))

/-- What follows a change of the fault map beside its generation. -/
def mapObjs : List Nat := Obj.CAL_STORED_GEN :: abandonObjs

/-- A change of the fault map moves FAULT_GEN to its next value, whatever it makes of commits and stores. -/
theorem mapChanged_objs (s : State) :
    ObjsOnly mapObjs (s.setObjN Obj.FAULT_GEN 0 (nextGen (s.objN Obj.FAULT_GEN 0))) (mapChanged s true) :=
  .step (autoStore_objs _ .faultMap) (by decide) (.step (revalidateCommits_objs _) (by decide) (.refl _))

end Sys2Proof.Proofs

/-!
SUPPORT. The proofs of chapter 2 (spec/02_fabric.md): what the application of staged fault-map writes leaves in the map, its generation and
its count of discards, and how pin tests start and end.
-/

namespace Sys2Proof.Proofs

open Sys2Proof Sys2Proof.Machine Sys2Proof.Laws

/-! ### The stages of a fault-map apply (R64, R65) -/

/-- The staged writes that a FAULT_APPLY applies. -/
def keptWrites (s : State) : List FaultWrite := s.fab.staged.filter fun w => !w.void

/-- The staged writes that it discards. -/
def voidWrites (s : State) : List FaultWrite := s.fab.staged.filter fun w => w.void

/-- The state once the void writes have been discarded, counted and told. -/
def discarded (s : State) : State :=
  discardEvents ({ s with fab := { s.fab with staged := [], applyPending := false } }.incSat Obj.FAULT_DISCARDS 0 (voidWrites s).length)
    ((voidWrites s).map (·.cell)).eraseDups

def writeFault (s : State) (w : FaultWrite) : State := s.setObj w.addr w.sel w.value

theorem writeFault_frame (s : State) (w : FaultWrite) : Frame [.objs] s (writeFault s w) := State.setObj_frame _ _ _ _

/-- The state once the other writes are in the map. -/
def mapWritten (s : State) : State := (keptWrites s).foldl writeFault (discarded s)

/-- The cells whose entry the writes have changed. -/
def changedCells (s : State) : List Nat :=
  ((keptWrites s).map (·.cell)).eraseDups.filter fun k => (mapWritten s).faultEntry k != (discarded s).faultEntry k

/-- The state once the loops, the commits and the flash have followed the changed map. -/
def mapFollowed (s : State) : State := mapChanged ((changedCells s).foldl followCell (mapWritten s)) true

theorem applyFaults_eq (s : State) : applyFaults s =
    if (changedCells s).isEmpty then mapWritten s
    else raiseA (mapFollowed s) 0x2002 [.word ((mapFollowed s).obj Obj.FAULT_GEN 0), .word (changedCells s).length] := rfl

/-! ### The map after the writes -/

theorem discardEvents_objs (s : State) (cells : List Nat) : ObjsOnly eventObjs s (discardEvents s cells) :=
  .foldl (fun s k => .raiseA (data := [.word k]) (by decide) (.refl s)) (.refl s)

theorem discarded_objs (s : State) : ObjsOnly [Obj.RING_DROPPED, Obj.FAULT_DISCARDS] s (discarded s) :=
  .step (discardEvents_objs _ _) (by decide) (.incSat (by decide) (.refl s))

theorem discarded_discards (s : State) :
    (discarded s).obj Obj.FAULT_DISCARDS 0 = (min u32Max (s.objN Obj.FAULT_DISCARDS 0 + (voidWrites s).length) : Nat) := by
  unfold discarded
  rw [discardEvents_objs _ _ _ _ (by decide), obj_incSat_self]
  rfl

/-- Of several writes to one entry the last stands. -/
theorem obj_foldl_writeFault (q : List FaultWrite) (s : State) (a b : Nat) : (q.foldl writeFault s).obj a b =
    ((q.reverse.find? fun w => w.addr == a && w.sel == b).map (·.value)).getD (s.obj a b) := by
  induction q generalizing s with
  | nil => rfl
  | cons w q ih =>
    rw [List.foldl_cons, ih, List.reverse_cons, List.find?_append]
    cases q.reverse.find? fun w => w.addr == a && w.sel == b with
    | some x => rfl
    | none =>
      by_cases h : w.addr = a ∧ w.sel = b
      · obtain ⟨rfl, rfl⟩ := h
        simp [writeFault]
      · have hne : (w.addr == a && w.sel == b) = false := by simpa using h
        have hother : (writeFault s w).obj a b = s.obj a b := obj_setObj_other _ fun e => h ⟨e.1.symm, e.2.symm⟩
        simp [hne, hother]

/-- Whether an address is that of one of the map's two tables. -/
def inMap (a : Nat) : Prop := a = Obj.CELL_CLASS ∨ a = Obj.ELEMENT_FAULT

theorem mapWritten_inMap (s : State) {a : Nat} (ha : inMap a) (b : Nat) : (mapWritten s).obj a b =
    (((keptWrites s).reverse.find? fun w => w.addr == a && w.sel == b).map (·.value)).getD (s.obj a b) := by
  rw [mapWritten, obj_foldl_writeFault, discarded_objs s a b (by rcases ha with rfl | rfl <;> decide)]

/-- Writes to the map's tables change nothing beside them. -/
theorem mapWritten_other {s : State} (hw : ∀ w ∈ s.fab.staged, inMap w.addr) {a : Nat} (ha : ¬ inMap a) (b : Nat) :
    (mapWritten s).obj a b = (discarded s).obj a b := by
  have hnone : ((keptWrites s).reverse.find? fun w => w.addr == a && w.sel == b) = none :=
    List.find?_eq_none.mpr fun w hm hp => by
      have hstaged : w ∈ s.fab.staged := List.mem_of_mem_filter (List.mem_reverse.mp hm)
      have haddr : w.addr = a := by simp_all
      exact ha (haddr ▸ hw w hstaged)
  rw [mapWritten, obj_foldl_writeFault, hnone]
  rfl

theorem faultEntry_congr {s t : State} (h : ∀ a, inMap a → ∀ b, t.obj a b = s.obj a b) (k : Nat) : t.faultEntry k = s.faultEntry k := by
  simp only [State.faultEntry, State.cellClass, State.objN, h _ (.inl rfl), h _ (.inr rfl)]

/-! ### What follows the writes -/

theorem foldl_followCell_objs {l : List Nat} (q : List Nat) (s : State) : ObjsOnly l s (q.foldl followCell s) :=
  .foldl (fun s k => .frame (followCell_frame s k) (by decide) (.refl s)) (.refl s)

theorem mapFollowed_objs (s : State) : ObjsOnly (Obj.FAULT_GEN :: mapObjs) (mapWritten s) (mapFollowed s) :=
  .step (mapChanged_objs _) (by decide) (.setObjN (by decide) (foldl_followCell_objs _ _))

theorem mapFollowed_faultGen (s : State) :
    (mapFollowed s).objN Obj.FAULT_GEN 0 = nextGen ((mapWritten s).objN Obj.FAULT_GEN 0) := by
  have hgen : ((changedCells s).foldl followCell (mapWritten s)).objN Obj.FAULT_GEN 0 = (mapWritten s).objN Obj.FAULT_GEN 0 :=
    congrArg Int.toNat (foldl_followCell_objs (l := []) _ _ _ _ (by decide))
  rw [mapFollowed, State.objN, mapChanged_objs _ _ _ (by decide), obj_setObjN, hgen]
  rfl

theorem applyFaults_objs (s : State) : ObjsOnly (Obj.FAULT_GEN :: mapObjs) (mapWritten s) (applyFaults s) := by
  rw [applyFaults_eq]
  exact .ite (.refl _) (.raiseA (by decide) (mapFollowed_objs s))

theorem applyFaults_inMap (s : State) {a : Nat} (ha : inMap a) (b : Nat) : (applyFaults s).obj a b = (mapWritten s).obj a b :=
  applyFaults_objs s a b (by rcases ha with rfl | rfl <;> decide)

theorem applyFaults_discards {s : State} (hw : ∀ w ∈ s.fab.staged, inMap w.addr) :
    (applyFaults s).objN Obj.FAULT_DISCARDS 0 = min u32Max (s.objN Obj.FAULT_DISCARDS 0 + (voidWrites s).length) := by
  rw [State.objN, applyFaults_objs s _ _ (by decide), mapWritten_other hw (by unfold inMap; decide), discarded_discards]
  rfl

/-- A kept write whose cell's entry is not what it was makes its cell one of the changed ones. -/
theorem changedCells_isEmpty (s : State) : (changedCells s).isEmpty =
    !(keptWrites s).any fun w => (applyFaults s).faultEntry w.cell != s.faultEntry w.cell := by
  have hbefore := faultEntry_congr (s := s) (t := discarded s) fun a ha b =>
    discarded_objs s a b (by rcases ha with rfl | rfl <;> decide)
  have hafter := faultEntry_congr fun a ha b => applyFaults_inMap s (a := a) ha b
  rw [Bool.eq_iff_iff, changedCells, List.isEmpty_iff, List.filter_eq_nil_iff]
  simp only [List.mem_eraseDups, List.forall_mem_map, Bool.not_eq_true', List.any_eq_false, hbefore, hafter]

theorem applyFaults_faultGen {s : State} (hw : ∀ w ∈ s.fab.staged, inMap w.addr) : (applyFaults s).objN Obj.FAULT_GEN 0 =
    if ((keptWrites s).any fun w => (applyFaults s).faultEntry w.cell != s.faultEntry w.cell) = true
    then nextGen (s.objN Obj.FAULT_GEN 0) else s.objN Obj.FAULT_GEN 0 := by
  have hgen : (mapWritten s).objN Obj.FAULT_GEN 0 = s.objN Obj.FAULT_GEN 0 := by
    rw [State.objN, mapWritten_other hw (by unfold inMap; decide), discarded_objs s _ _ (by decide)]
    rfl
  have hcells := changedCells_isEmpty s
  by_cases hc : (changedCells s).isEmpty = true
  · have happly : applyFaults s = mapWritten s := by rw [applyFaults_eq, if_pos hc]
    rw [if_neg (by simpa [hc] using hcells), happly, hgen]
  · have happly : (applyFaults s).objN Obj.FAULT_GEN 0 = (mapFollowed s).objN Obj.FAULT_GEN 0 := by
      rw [applyFaults_eq, if_neg hc, State.objN, raiseA_obj (by decide)]
      rfl
    rw [if_pos (by simpa [hc] using hcells), happly, mapFollowed_faultGen, hgen]

theorem applyFaults_fab (s : State) : (applyFaults s).fab = { s.fab with staged := [], applyPending := false } := by
  have hd : (discarded s).fab = { s.fab with staged := [], applyPending := false } :=
    (discardEvents_frame _ _).fab rfl
  have hw : (mapWritten s).fab = (discarded s).fab :=
    (Frame.foldl writeFault_frame (.refl _)).fab rfl
  have hf : ((changedCells s).foldl followCell (mapWritten s)).fab = (mapWritten s).fab :=
    (Frame.foldl followCell_frame (.refl _)).fab rfl
  have hm : (mapFollowed s).fab = (mapWritten s).fab := ((mapChanged_frame _ true).fab rfl).trans hf
  rw [applyFaults_eq]
  split
  · exact hw.trans hd
  · rw [raiseA_fab, hm, hw, hd]

/-! ### Host writes of this chapter -/

theorem frame_sealed {m : List Comp} {s t : State} (h : Frame m s t) (hm : m.contains .ex = true := by decide) :
    Frame m s (sealed s t) := finish_frame rfl h hm

/-- A write refused with no effect is answered with its NAK, and changes the sessions' side alone. -/
theorem hostWrite_refused {s : State} {sess addr sel : Nat} {v : Int} {eff : State → State × Verdict} {n : Nak}
    (h : s.accepts sess addr sel v = true) (he : eff (seen s sess) = (seen s sess, .nak n)) (ha : addr ≠ Obj.LOAD_CLOSE) :
    (hostWrite s sess addr sel v eff).answered sess 0 addr sel (.nak n 0 0) ∧ Frame [.ex] s (hostWrite s sess addr sel v eff) := by
  obtain ⟨hans, hframe⟩ := hostWrite_nak h he fun _ => id
  have hdetail : (seen s sess).detailOf sess addr n = 0 := if_neg fun e => ha e.1
  exact ⟨hdetail ▸ hans, (seen_frame s sess).trans hframe⟩

theorem effFaultApply_seen (s : State) (sess : Nat) : effFaultApply (seen s sess) =
    if s.fab.applyPending = true then (seen s sess, .nak .busy)
    else ({ seen s sess with fab := { s.fab with applyPending := true } }, .ack) := by
  unfold effFaultApply
  rw [(seen_frame s sess).fab rfl]

/-- The state with a pin test of a cell started. -/
def pinStarted (s : State) (k : Int) : State :=
  { (s.setObj Obj.PIN_TEST_CELL 0 k).setObjN Obj.PIN_TEST_STATUS 0 1 with
    fab := { s.fab with pinTest := some { cell := k.toNat, start := s.tick } } }

theorem effPinTestCell_eq (k : Int) (s : State) : effPinTestCell k s =
    if (s.fab.pinTest.isSome || s.commitMoving) = true then (s, .nak .busy) else (pinStarted s k, .ack) := rfl

theorem pinStarted_frame (s : State) (k : Int) : Frame [.objs, .fab] s (pinStarted s k) :=
  .set_fab (by decide) (.step (State.setObjN_frame _ _ _ _) (by decide) (.step (State.setObj_frame _ _ _ _) (by decide) (.refl s)))

/-- Noting a request's frame leaves what makes a pin test refuse the request. -/
theorem pinBusy_seen (s : State) (sess : Nat) :
    ((seen s sess).fab.pinTest.isSome || (seen s sess).commitMoving) = (s.fab.pinTest.isSome || s.commitMoving) := by
  have hs := seen_frame s sess
  simp only [State.commitMoving, hs.fab rfl, hs.com rfl]

/-! ### The end of a pin test (R66) -/

theorem endPinTest_fab (s : State) (k status : Nat) : (endPinTest s k status).fab = { s.fab with pinTest := none } :=
  raiseA_fab _ _ _

theorem endPinTest_status (s : State) (k status : Nat) : (endPinTest s k status).obj Obj.PIN_TEST_STATUS 0 = status := by
  unfold endPinTest
  rw [raiseA_obj (by decide), obj_setObjN]

/-- The status of Table 2.10 by the number of lit inputs: NO_LIGHT, DONE, or the one for two. -/
def lightStatus : Nat → Nat
  | 0 => 3
  | 1 => 2
  | _ => 4

/-- A test that has run for 64 scans ends by the number of lit inputs, its result in the objects. -/
theorem execPinTestDone_ended {s : State} {p : PinTest} (hp : s.fab.pinTest = some p) (ht : 64 * 256 ≤ s.tick - p.start) :
    ∃ u, Frame [.objs] s u ∧ execPinTestDone s = finish s (endPinTest u p.cell (lightStatus (s.litInputs p.cell).length)) := by
  have hdue : ¬ s.tick - p.start < 64 * 256 := Nat.not_lt.mpr ht
  unfold execPinTestDone
  simp only [hp, if_neg hdue]
  rcases hl : s.litInputs p.cell with _ | ⟨i, _ | ⟨j, q⟩⟩
  · exact ⟨s, .refl s, rfl⟩
  · exact ⟨pinResult s p.cell i, pinResult_frame s p.cell i, rfl⟩
  · exact ⟨s, .refl s, rfl⟩

theorem execPinTestDone_waits {s : State} {p : PinTest} (hp : s.fab.pinTest = some p) (ht : s.tick - p.start < 64 * 256) :
    execPinTestDone s = finish s s := by
  unfold execPinTestDone
  simp only [hp, if_pos ht]

/-- Settles O26: an accepted write is answered by its effect on the state with its frame noted; of an apply's stages only the writes touch
the map's tables, so its entries compare as the apply itself compares them, and what follows keeps the map and its generation. -/
theorem faultMapAndPinTests : Obligations.FaultMapAndPinTests := by
  unfold Obligations.FaultMapAndPinTests
  refine ⟨?applyAccepted, ?applyBusy, ?applied, ?pinStarts, ?pinBusy, ?pinEnds, ?pinRuns⟩
  case applyAccepted =>
    intro sess s h hp
    have he := (effFaultApply_seen s sess).trans (if_neg (by simp [hp]))
    obtain ⟨hans, hframe⟩ := hostWrite_ack h he fun _ => id
    refine ⟨_, rfl, hans, hframe.fab rfl, frame_sealed (.step hframe (by decide) (.set_fab (by decide) ?_))⟩
    exact (seen_frame s sess).mono (by decide)
  case applyBusy =>
    intro sess s h hp
    obtain ⟨hans, hframe⟩ := hostWrite_refused h ((effFaultApply_seen s sess).trans (if_pos hp)) (by decide)
    exact ⟨_, rfl, hans, frame_sealed hframe⟩
  case applied =>
    rintro keep voids s hp ht hw rfl rfl
    have he : execFaultMapApply s = finish s (applyFaults s) := congrArg (finish s) (if_pos ⟨hp, ht⟩)
    have hfab := applyFaults_fab s
    refine ⟨_, he, congrArg Fabric.staged hfab, congrArg Fabric.applyPending hfab, applyFaults_discards hw, ?_,
      applyFaults_faultGen hw⟩
    exact fun addr sel ha => (applyFaults_inMap s ha sel).trans (mapWritten_inMap s ha sel)
  case pinStarts =>
    intro sess k s h hnone hmoving
    have hs := seen_frame s sess
    have he := (effPinTestCell_eq k (seen s sess)).trans (if_neg (by simp [pinBusy_seen, hnone, hmoving]))
    obtain ⟨hans, hframe⟩ := hostWrite_ack h he fun _ => id
    have hobj := obj_of_objs (hframe.objs rfl)
    refine ⟨_, rfl, hans, (hframe.fab rfl).trans ?fab, (hobj _ _).trans ?status, (hobj _ _).trans ?cell, frame_sealed ?frame⟩
    case fab => simp only [pinStarted, hs.fab rfl, hs.tick rfl]
    case status => exact obj_setObjN _ _ _ _
    case cell => exact (obj_setObjN_other _ (by decide)).trans (obj_setObj _ _ _ _)
    case frame => exact .step hframe (by decide) (.step (pinStarted_frame _ k) (by decide) (hs.mono (by decide)))
  case pinBusy =>
    intro sess k s h hbusy
    have he := (effPinTestCell_eq k (seen s sess)).trans (if_pos (by simpa [pinBusy_seen] using hbusy))
    obtain ⟨hans, hframe⟩ := hostWrite_refused h he (by decide)
    exact ⟨_, rfl, hans, frame_sealed hframe⟩
  case pinEnds =>
    intro p s hp ht
    obtain ⟨u, hu, he⟩ := execPinTestDone_ended hp ht
    refine ⟨_, he, (endPinTest_fab u _ _).trans (by rw [hu.fab rfl]), (endPinTest_status u _ _).trans ?status,
      frame_sealed (.step (endPinTest_frame u _ _) (by decide) (hu.mono (by decide)))⟩
    case status => rcases (s.litInputs p.cell).length with _ | _ | n <;> rfl
  case pinRuns =>
    intro p s hp ht
    exact ⟨_, execPinTestDone_waits hp ht, frame_sealed (.refl s)⟩

end Sys2Proof.Proofs

/-!
SUPPORT. The table of sessions: events open and close none, and an answer to one session leaves the others open where the table's
entries are in order.
-/

namespace Sys2Proof.Proofs

open Sys2Proof Sys2Proof.Machine Sys2Proof.Laws

/-! ### The session table through events and answers -/

/-- The entries of a sparse map stand in the order of their keys. -/
def rising {α : Type} (m : SMap α) : Prop := m.Pairwise fun p q => p.1 < q.1

section

variable {α β : Type} {m : SMap α}

theorem rising_of_msorted (h : msorted m = true) : rising m := by
  induction m with
  | nil => exact .nil
  | cons p t ih =>
    obtain ⟨a, x⟩ := p
    obtain ⟨hhead, htail⟩ := (msorted_cons a x t).mp h
    have ht := ih htail
    refine .cons (fun q hq => ?_) ht
    cases t with
    | nil => cases hq
    | cons r t =>
      have hr : a < r.1 := hhead r rfl
      rcases List.mem_cons.mp hq with rfl | hq
      · exact hr
      · exact hr.trans (List.rel_of_pairwise_cons ht hq)

theorem rising.eq_of_mem (h : rising m) {p q : Nat × α} (hp : p ∈ m) (hq : q ∈ m) (hk : p.1 = q.1) : p = q :=
  List.inj_on_of_nodup_map (List.pairwise_map.mpr (h.imp fun hlt => hlt.ne)) hp hq hk

/-- Putting a value under a listed key changes nothing of what the two values agree on. -/
theorem map_mset_of_mem (g : Nat × α → β) {i : Nat} {x y : α} (hm : rising m) (hx : (i, x) ∈ m) (hg : g (i, y) = g (i, x)) :
    (mset m i y).map g = m.map g := by
  induction m with
  | nil => cases hx
  | cons p t ih =>
    obtain ⟨a, z⟩ := p
    obtain ⟨hhead, htail⟩ := List.pairwise_cons.mp hm
    rcases List.mem_cons.mp hx with he | ht
    · cases he
      simp [mset, hg]
    · have hlt : a < i := hhead _ ht
      simp [mset, hlt.ne, hlt.not_gt, ih htail ht]

theorem mdel_eq_filter (m : SMap α) (k : Nat) : mdel m k = m.filter fun p => p.1 ≠ k := by
  induction m with
  | nil => rfl
  | cons p t ih =>
    obtain ⟨a, x⟩ := p
    by_cases h : a = k <;> simp [mdel, h, ih]

end

/-- The entries of the session table in use, each with its session's number. -/
def sessionTable (s : State) : SMap Nat := s.ex.sessions.map fun p => (p.1, p.2.num)

theorem sessionTable_mmap {s t : State} {f : Nat → Session → Session} (hf : ∀ i x, (f i x).num = x.num)
    (h : t.ex.sessions = mmap f s.ex.sessions) : sessionTable t = sessionTable s := by
  have hmap : ∀ l : SMap Session, (mmap f l).map (fun p => (p.1, p.2.num)) = l.map fun p => (p.1, p.2.num) := fun l => by
    induction l with
    | nil => rfl
    | cons p l ih => simp [mmap, hf, ih]
  rw [sessionTable, h, hmap]
  rfl

/-- From the first state to the second no session opens or closes and nothing is answered. -/
def Quiet (s t : State) : Prop := sessionTable t = sessionTable s ∧ t.ex.out = s.ex.out

section

variable {s t u : State}

theorem Quiet.refl (s : State) : Quiet s s := ⟨rfl, rfl⟩

theorem Quiet.trans (h : Quiet s t) (k : Quiet t u) : Quiet s u := ⟨k.1.trans h.1, k.2.trans h.2⟩

theorem Quiet.of_ex (e : t.ex = s.ex) : Quiet s t := by simp [Quiet, sessionTable, e]

theorem Quiet.frame {c : List Comp} (k : Frame c t u) (hc : c.contains .ex = false) (h : Quiet s t) : Quiet s u :=
  h.trans (.of_ex (k.ex hc))

theorem Quiet.ite {p : Prop} [Decidable p] (h : Quiet s t) (k : Quiet s u) : Quiet s (if p then t else u) := by
  split <;> assumption

theorem Quiet.foldl {β : Type} {f : State → β → State} {q : List β} (hf : ∀ s b, Quiet s (f s b)) (h : Quiet s t) :
    Quiet s (q.foldl f t) := by
  induction q generalizing t with
  | nil => exact h
  | cons b q ih => exact ih (h.trans (hf t b))

end

theorem noteEvent_quiet (s : State) (e : EvRec) : Quiet s (noteEvent s e) := by
  have hnum : ∀ (_ : Nat) (x : Session), (x.deliver e).1.num = x.num := fun _ x => by
    unfold Session.deliver
    split_ifs <;> rfl
  exact ⟨sessionTable_mmap hnum rfl, rfl⟩

theorem logEvent_quiet (s : State) (code lobe : Nat) (d : Bool) (time : Int) (data : List EvItem) :
    Quiet s (logEvent s code lobe d time data).1 := by
  unfold logEvent
  extract_lets e due
  have hrings : Frame [.objs, .sorus] (noteEvent s e) ((List.range 16).foldl (ringEvent e) (noteEvent s e, due)).1 :=
    .fold1 (ringEvent_frame e) (.pair (.refl _))
  exact .frame hrings (by decide) (noteEvent_quiet s e)

theorem logFollow_quiet (time : Int) (n : Nat) (q : List (Nat × List EvItem)) (s : State) : Quiet s (logFollow time n q s) := by
  induction n generalizing q s with
  | zero => cases q <;> exact .refl s
  | succ n ih =>
    cases q with
    | nil => exact .refl s
    | cons m q => exact (logEvent_quiet s m.1 0xFF false time m.2).trans (ih _ _)

theorem raise_quiet (s : State) (code lobe : Nat) (data : List EvItem) : Quiet s (raise s code lobe data) := by
  unfold raise
  split
  · exact (logEvent_quiet _ _ _ _ _ _).trans (logFollow_quiet _ _ _ _)
  · exact ⟨rfl, rfl⟩

theorem Quiet.raiseA {s t : State} {code : Nat} {data : List EvItem} (h : Quiet s t) : Quiet s (raiseA t code data) :=
  h.trans (raise_quiet _ _ _ _)

theorem Quiet.raiseS {s t : State} {code : Nat} {data : List EvItem} (h : Quiet s t) : Quiet s (raiseS t code data) :=
  h.trans (raise_quiet _ _ _ _)

theorem ringWrite_quiet (s : State) (n : Nat) (r : GReq) : Quiet s (ringWrite s n r) := by
  unfold ringWrite
  exact .raiseS (.of_ex (by simp))

theorem refillRing_quiet (q : List GReq) (s : State) : Quiet s (refillRing q s) := by
  induction q generalizing s with
  | nil => exact .refl s
  | cons r q ih =>
    unfold refillRing
    split
    · exact (ringWrite_quiet s _ r).trans (ih _)
    · exact .refl s

theorem withdraw_quiet (s : State) (k : GKind) (src : Nat) : Quiet s (withdraw s k src) := by
  unfold withdraw
  refine .frame (showSteady_frame _) (by decide) (.trans ?_ (refillRing_quiet _ _))
  exact .foldl (fun s e => .frame (closeReq_frame s e.1 2) (by decide) (.refl s)) ⟨rfl, rfl⟩

theorem noteGroupSeq_quiet (s : State) : Quiet s (noteGroupSeq s) := by
  have hlow : ∀ b t, Quiet s t → Quiet s { t with ex := { t.ex with groupLowRaised := b } } := fun _ _ h => h.trans ⟨rfl, rfl⟩
  have hspent : ∀ b t, Quiet s t → Quiet s { t with ex := { t.ex with groupExhausted := b } } := fun _ _ h => h.trans ⟨rfl, rfl⟩
  have hraise : ∀ (p : Prop) [Decidable p] t c d, Quiet s t → Quiet s (if p then raiseA t c d else t) :=
    fun _ _ _ _ _ h => .ite h.raiseA h
  unfold noteGroupSeq
  extract_lets n low x t u
  have hu : Quiet s u := hraise _ _ _ _ (hlow _ _ (.refl s))
  clear_value u
  exact .ite (hspent _ _ hu).raiseA hu

theorem sendAnswer_sessions (s : State) (source : Nat) (a : Answer) : (sendAnswer s source a).ex.sessions = s.ex.sessions := by
  unfold sendAnswer sendTo
  split
  · rfl
  · split_ifs <;> rfl

theorem sendAnswer_table (s : State) (source : Nat) (a : Answer) : sessionTable (sendAnswer s source a) = sessionTable s := by
  rw [sessionTable, sendAnswer_sessions]
  rfl

theorem groupAnswer_table (s : State) (a : Answer) : sessionTable (groupAnswer s a) = sessionTable s := by
  unfold groupAnswer
  split_ifs
  · exact ((noteGroupSeq_quiet _).1.trans rfl).trans (sendAnswer_table _ _ _)
  · rfl
  · rfl

/-! ### A session that stays -/

/-- A session with this number is open, and the table's entries are in order. -/
def Seated (n : Nat) (s : State) : Prop := rising (sessionTable s) ∧ ∃ i, (i, n) ∈ sessionTable s

section

variable {n m : Nat} {s t : State}

theorem Seated.of_table (e : sessionTable t = sessionTable s) (h : Seated n s) : Seated n t := by
  unfold Seated
  rwa [e]

theorem Seated.openIn (h : Seated n s) : openIn s n := by
  obtain ⟨-, i, hi⟩ := h
  obtain ⟨p, hp, he⟩ := List.mem_map.mp hi
  exact ⟨p, hp, congrArg Prod.snd he⟩

theorem Seated.sessions (h : Seated n s) : rising s.ex.sessions := by
  obtain ⟨hr, -⟩ := h
  unfold Proofs.rising sessionTable at hr
  exact (List.pairwise_map (f := fun p : Nat × Session => (p.1, p.2.num))).mp hr

theorem seated_of_msorted (hs : msorted s.ex.sessions = true) (ho : Laws.openIn s n) : Seated n s := by
  obtain ⟨p, hp, rfl⟩ := ho
  exact ⟨List.pairwise_map.mpr (rising_of_msorted hs), p.1, List.mem_map.mpr ⟨p, hp, rfl⟩⟩

theorem Seated.setSession {i : Nat} {x y : Session} (h : Seated n s) (hx : s.session m = some (i, x)) (hy : y.num = x.num) :
    Seated n (s.setSession i y) :=
  h.of_table (map_mset_of_mem _ h.sessions (List.mem_of_find?_eq_some hx) (congrArg (i, ·) hy))

/-- Without the entry of another session the table still holds this one. -/
theorem Seated.of_mdel {i : Nat} {x : Session} (h : Seated n s) (hx : s.session m = some (i, x)) (hm : m ≠ n)
    (ht : t.ex.sessions = mdel s.ex.sessions i) : Seated n t := by
  have htable : sessionTable t = (sessionTable s).filter fun p => p.1 ≠ i := by
    rw [sessionTable, ht, mdel_eq_filter, sessionTable, List.filter_map]
    rfl
  obtain ⟨hr, j, hj⟩ := h
  have hi : (i, m) ∈ sessionTable s := List.mem_map.mpr ⟨(i, x), List.mem_of_find?_eq_some hx, by rw [session_num hx]⟩
  have hji : j ≠ i := fun e => hm (congrArg Prod.snd (hr.eq_of_mem hi hj e.symm))
  unfold Seated
  rw [htable]
  exact ⟨hr.filter _, j, List.mem_filter.mpr ⟨hj, by simpa using hji⟩⟩

/-- Closing one session leaves the others open. -/
theorem Seated.closeSession (h : Seated n s) (hm : m ≠ n) (reason : Nat) : Seated n (closeSession s m reason) := by
  unfold Machine.closeSession
  split
  · exact h
  next i x hx =>
    have hload : (abandonLoad s m true).ex = s.ex := (abandonLoad_frame s m true).ex rfl
    exact .of_table (raise_quiet _ _ _ _).1 (h.of_mdel hx hm (by simp only [hload]))

theorem Seated.answerFrom (h : Seated n s) (source : Nat) (cached : Bool) (sess req addr sel : Nat) (r : Reply) :
    Seated n (answerFrom source cached s sess req addr sel r) := by
  unfold Machine.answerFrom
  split
  next i x hx =>
    refine (h.of_table (sendAnswer_table s source _)).setSession (m := sess) (i := i) (x := x) ?_ rfl
    rw [State.session, sendAnswer_sessions]
    exact hx
  · split_ifs
    · exact h.of_table (groupAnswer_table s _)
    · exact h

theorem Seated.closeIfSpent (h : Seated n s) (hm : m ≠ n) : Seated n (closeIfSpent s m) := by
  unfold Machine.closeIfSpent
  split
  · split_ifs
    · exact h.closeSession hm 4
    · exact h
  · exact h

/-- The NAK of a held request leaves the other sessions open. -/
theorem Seated.refuseHeld (h : Seated n s) {q : HeldPrepare} (hq : q.sess ≠ n) (k : Nak) : Seated n (refuseHeld s q k) := by
  unfold Machine.refuseHeld answerCommit
  extract_lets u com v
  have hv : Seated n v := h.of_table (withdraw_quiet s .commit q.commit.id).1
  exact (hv.answerFrom _ _ _ _ _ _ _).closeIfSpent hq

end

end Sys2Proof.Proofs

/-!
SUPPORT. The proofs of chapter 4 (spec/04_commit.md): how a commit is abandoned, and a state in which the CANCEL that abandons one is
not answered.
-/

namespace Sys2Proof.Proofs

open Sys2Proof Sys2Proof.Machine Sys2Proof.Laws

/-! ### The stages of an abandonment (R130) -/

/-- The state once the commit is no longer live and the COMMITs of it that waited for the host's grant are refused. -/
def abandonFreed (s : State) (c : Commit) : State :=
  ((s.dropCommit c.id).com.held.filter fun h => h.arm && h.commit.id == c.id).foldl (fun s h => refuseHeld s h .unknown)
    (s.dropCommit c.id)

/-- The state once the peers are warned of it, and the commit with the flag that says so. -/
def abandonWarned (s : State) (c : Commit) (why : Outc) : State × Commit :=
  if decide (c.state = .armed) && c.peerAbort && decide (why ≠ .cancelled ∧ why ≠ .peerAbort) then
    let p := sendPeerAbort (abandonFreed s c) c
    (p.1, if p.2 then c.flag 16 else c)
  else (abandonFreed s c, c)

/-- The last log entry of an abandoned commit. -/
def abandonEntry (c : Commit) (why : Outc) : LogEntry := { c with state := .abandoned }.entry why 0

/-- The state once the commit's log entry says why it has ended. -/
def abandonNoted (s : State) (c : Commit) (why : Outc) : State :=
  updateLog (abandonWarned s c why).1 (abandonWarned s c why).2.logIndex (abandonEntry (abandonWarned s c why).2 why)

/-- The state once its grant and its slot are free, its end is counted and COMMIT_ABANDONED is raised. -/
def abandonSettled (s : State) (c : Commit) (why : Outc) : State :=
  let d := (abandonWarned s c why).2
  slotAfter (raiseA (((releaseGrant (abandonNoted s c why) .commit d.id).incSat Obj.COMMITS_ABANDONED 0).capNote fun _ a =>
    { a with abandoned := d.id :: a.abandoned }) 0x2020 [.word d.id, .word d.slot, .word why.code]) d.slot

theorem abandon_eq (s : State) (c : Commit) (why : Outc) : abandon s c why =
    match abandonNak why with
    | some n =>
      let d := (abandonWarned s c why).2
      nakUnsolicited (abandonSettled s c why) d.sess d.req n d.id
    | none => abandonSettled s c why := rfl

/-- From the first state to the second no commit begins, moves or ends, and the log stays. -/
def SameCommits (s t : State) : Prop := t.com.live = s.com.live ∧ t.com.log = s.com.log

section

variable {s t u : State}

theorem SameCommits.trans (h : SameCommits s t) (k : SameCommits t u) : SameCommits s u := ⟨k.1.trans h.1, k.2.trans h.2⟩

theorem SameCommits.of_com (e : t.com = s.com) : SameCommits s t := by simp [SameCommits, e]

theorem SameCommits.foldl {β : Type} {f : State → β → State} {q : List β} (hf : ∀ s b, SameCommits s (f s b)) (s : State) :
    SameCommits s (q.foldl f s) := by
  induction q generalizing s with
  | nil => exact .of_com rfl
  | cons b q ih => exact (hf s b).trans (ih _)

end

theorem refuseHeld_sameCommits (s : State) (h : HeldPrepare) (n : Nak) : SameCommits s (refuseHeld s h n) := by
  unfold refuseHeld
  extract_lets u com v
  have hv : SameCommits u v := ⟨rfl, rfl⟩
  exact .trans (.of_com ((withdraw_frame s .commit h.commit.id).com rfl)) (hv.trans (.of_com ((answerCommit_frame v _ _ _).com rfl)))

theorem peerFrame_sameCommits (s : State) (id : Nat) (t : Int) (dest : List Byte) : SameCommits s (peerFrame s id t dest) := by
  unfold peerFrame
  extract_lets to_ u com ex v
  have hu : u.com = s.com := (sendTo_frame s 2 to_ _).com rfl
  have hv : SameCommits u v := ⟨rfl, rfl⟩
  exact .trans (.of_com hu) (hv.trans (.of_com ((takeGroupSeq_frame v).com rfl)))

theorem sendPeerAbort_sameCommits (s : State) (c : Commit) : SameCommits s (sendPeerAbort s c).1 := by
  unfold sendPeerAbort
  extract_lets dest
  split_ifs
  · exact .of_com rfl
  · exact peerFrame_sameCommits s c.id c.t dest
  · exact .of_com rfl
  · exact .of_com rfl

section

variable (s : State) (c : Commit) (why : Outc)

theorem abandonFreed_sameCommits : SameCommits (s.dropCommit c.id) (abandonFreed s c) :=
  .foldl (fun s h => refuseHeld_sameCommits s h .unknown) _

theorem abandonFreed_objs : ObjsOnly steadyObjs s (abandonFreed s c) :=
  .foldl (fun s h => refuseHeld_objs s h .unknown) (.frame (State.dropCommit_frame s c.id) (by decide) (.refl s))

theorem abandonWarned_sameCommits : SameCommits (s.dropCommit c.id) (abandonWarned s c why).1 := by
  refine (abandonFreed_sameCommits s c).trans ?_
  unfold abandonWarned
  split
  · exact sendPeerAbort_sameCommits _ _
  · exact .of_com rfl

theorem abandonWarned_objs : ObjsOnly steadyObjs s (abandonWarned s c why).1 := by
  refine (abandonFreed_objs s c).trans ?_
  unfold abandonWarned
  split
  · exact (sendPeerAbort_objs _ _).mono (by decide)
  · exact .refl _

/-- The flag of a warned commit changes neither its number nor its place in the log. -/
theorem abandonWarned_commit : (abandonWarned s c why).2.id = c.id ∧ (abandonWarned s c why).2.logIndex = c.logIndex := by
  unfold abandonWarned
  extract_lets p
  split_ifs <;> exact ⟨rfl, rfl⟩

theorem setLog_com (n : Nat) (e : LogEntry) : (setLog s n e).com = { s.com with log := mset s.com.log n e } :=
  (ringAll_frame _ _ _ _ _ _).com rfl

theorem updateLog_live (n : Nat) (e : LogEntry) : (updateLog s n e).com.live = s.com.live := by
  unfold updateLog
  split
  · rw [setLog_com]
  · rfl

theorem abandonNoted_live : (abandonNoted s c why).com.live = (s.dropCommit c.id).com.live :=
  (updateLog_live _ _ _).trans (abandonWarned_sameCommits s c why).1

theorem updateLog_entry {n : Nat} {e : LogEntry} (h : ((mfind s.com.log n).all fun x => x.id == e.id) = true) :
    mfind (updateLog s n e).com.log n = some e := by
  unfold updateLog
  rw [if_pos h, setLog_com]
  exact mfind_mset_self _ _ _

theorem abandonNoted_entry (h : s.inLog c = true) :
    mfind (abandonNoted s c why).com.log c.logIndex = some (abandonEntry (abandonWarned s c why).2 why) := by
  obtain ⟨hid, hindex⟩ := abandonWarned_commit s c why
  obtain ⟨-, hlog⟩ := abandonWarned_sameCommits s c why
  unfold abandonNoted
  rw [hindex]
  refine updateLog_entry _ ?_
  rw [hlog, show (abandonEntry (abandonWarned s c why).2 why).id = c.id from hid]
  exact h

theorem abandon_com : (abandon s c why).com = (abandonNoted s c why).com := by
  have hsettled : Frame [.objs, .dev, .ex, .sorus, .steady, .lib, .mat] (abandonNoted s c why) (abandonSettled s c why) :=
    .step (slotAfter_frame _ _) (by decide) (.step (raiseA_frame _ _ _) (by decide) (.step (State.capNote_frame _ _) (by decide)
      (.step (State.incSat_frame _ _ _ _) (by decide) ((releaseGrant_frame _ _ _).mono (by decide)))))
  rw [abandon_eq]
  split
  · exact ((nakUnsolicited_frame _ _ _ _ _).com rfl).trans (hsettled.com rfl)
  · exact hsettled.com rfl

theorem abandonSettled_count : (abandonSettled s c why).obj Obj.COMMITS_ABANDONED 0 =
    (min u32Max (s.objN Obj.COMMITS_ABANDONED 0 + 1) : Nat) := by
  have hbefore : ObjsOnly steadyObjs s (releaseGrant (abandonNoted s c why) .commit (abandonWarned s c why).2.id) :=
    .step (releaseGrant_objs _ _ _) (by decide) (.step (updateLog_objs _ _ _) (by decide) (abandonWarned_objs s c why))
  unfold abandonSettled
  extract_lets d
  rw [slotAfter_objs _ _ _ _ (by decide), raiseA_obj (by decide)]
  refine (obj_incSat_self _ _ _ _).trans ?_
  rw [State.objN, hbefore _ _ (by decide)]
  rfl

theorem abandon_count : (abandon s c why).objN Obj.COMMITS_ABANDONED 0 = min u32Max (s.objN Obj.COMMITS_ABANDONED 0 + 1) := by
  refine congrArg Int.toNat (.trans ?_ (abandonSettled_count s c why))
  rw [abandon_eq]
  split
  · exact nakUnsolicited_objs _ _ _ _ _ _ _ (by decide)
  · rfl

end

/-- What the end of a commit for a reason leaves, from the state it was live in to the state after. -/
structure Abandoned (s t : State) (c : Commit) (why : Outc) : Prop where
  gone : t.findCommit c.id = none
  entry : s.inLog c = true → ∃ e, mfind t.com.log c.logIndex = some e ∧ e.id = c.id ∧ e.state = .abandoned ∧ e.outcome = why
  count : t.objN Obj.COMMITS_ABANDONED 0 = min u32Max (s.objN Obj.COMMITS_ABANDONED 0 + 1)
  drv : t.drv = s.drv

theorem abandon_abandoned (s : State) (c : Commit) (why : Outc) : Abandoned s (abandon s c why) c why where
  gone := by
    unfold State.findCommit
    rw [abandon_com, abandonNoted_live]
    simp [State.dropCommit]
  entry h := by
    rw [abandon_com]
    exact ⟨_, abandonNoted_entry s c why h, (abandonWarned_commit s c why).1, rfl, rfl⟩
  count := abandon_count s c why
  drv := (abandon_frame s c why).drv rfl

/-- The end stands through what changes neither commits nor drive outputs nor the count. -/
theorem Abandoned.through {s t u : State} {c : Commit} {why : Outc} (h : Abandoned s t c why) (hcom : u.com = t.com)
    (hdrv : u.drv = t.drv) (hobjs : ObjsOnly eventObjs t u) : Abandoned s u c why where
  gone := by simpa [State.findCommit, hcom] using h.gone
  entry hin := by simpa [hcom] using h.entry hin
  count := (congrArg Int.toNat (hobjs _ _ (by decide))).trans h.count
  drv := hdrv.trans h.drv

theorem Abandoned.sealed {s s' t : State} {c : Commit} {why : Outc} (h : Abandoned s t c why) :
    Abandoned s (sealed s' t) c why := h.through rfl rfl (.refl _)

theorem Abandoned.answerCommit {s t : State} {c : Commit} {why : Outc} (h : Abandoned s t c why) (sess req : Nat) (r : Reply) :
    Abandoned s (answerCommit t sess req r) c why :=
  have k := answerCommit_frame t sess req r
  h.through (k.com rfl) (k.drv rfl) (answerCommit_objs t sess req r)

theorem Abandoned.of_seen {s t : State} {c : Commit} {why : Outc} {sess : Nat} (h : Abandoned (seen s sess) t c why) :
    Abandoned s t c why where
  gone := h.gone
  entry hin := h.entry (by simpa [State.inLog, (seen_frame s sess).com rfl] using hin)
  count := h.count.trans (by rw [State.objN, obj_of_objs ((seen_frame s sess).objs rfl)]; rfl)
  drv := h.drv.trans ((seen_frame s sess).drv rfl)

/-! ### PREPARE_TIMEOUT and peer aborts (R110, R119) -/

theorem prepareTimeout_abandons {s : State} {id : Nat} {c : Commit} (hc : s.findCommit id = some c) (hp : c.state = .prepared)
    (ht : s.elapsed c.preparedAt (1000000 * s.objN Obj.PREPARE_TIMEOUT 0) = true) :
    ∃ t, exec (.prepareTimeout id) s = .next t ∧ Abandoned s t c .prepareTimeout := by
  refine ⟨sealed s (abandon s c .prepareTimeout), ?_, (abandon_abandoned s c _).sealed⟩
  change execPrepareTimeout id s = _
  simp only [execPrepareTimeout, hc, hp, ht, and_self, if_true]
  rfl

theorem peerAbort_abandons {s : State} {id source : Nat} {c : Commit} (hc : s.findCommit id = some c) (ha : c.state = .armed)
    (ht : s.now + 2000 ≤ c.t) : ∃ t, exec (.peerAbort id c.t source) s = .next t ∧ Abandoned s t c .peerAbort := by
  refine ⟨sealed s (abandon s c .peerAbort), ?_, (abandon_abandoned s c _).sealed⟩
  have hearly : s.tooLate c.t = false := decide_eq_false (by omega)
  have hmeant : (s.findCommit id).filter (fun d => d.state == .armed && d.t == c.t && !s.tooLate c.t) = some c := by
    simp [hc, ha, hearly, Option.filter]
  change execPeerAbort id c.t source s = _
  rw [execPeerAbort, hmeant]
  rfl

theorem peerAbort_ignored {s : State} {id source : Nat} (T : Int) (hc : s.findCommit id = none) :
    ∃ t, exec (.peerAbort id T source) s = .next t ∧ t.com = s.com ∧ t.drv = s.drv ∧
      t.objN Obj.PEER_ABORTS_IGNORED 0 = min u32Max (s.objN Obj.PEER_ABORTS_IGNORED 0 + 1) := by
  refine ⟨sealed s (raiseA (s.incSat Obj.PEER_ABORTS_IGNORED 0) 0x2024 [.word id, .time T.toNat, .time s.now.toNat]), ?_,
    raiseA_com _ _ _, raiseA_drv _ _ _, ?_⟩
  · change execPeerAbort id T source s = _
    simp [execPeerAbort, hc, finish]
  · exact congrArg Int.toNat (.trans (raiseA_obj (by decide) _ _ _) (obj_incSat_self _ _ _ _))

/-! ### CANCEL (R118) -/

theorem readyCommit_iff {s : State} {sess : Nat} :
    s.readyCommit sess = true ↔ ∃ i x, s.session sess = some (i, x) ∧ x.commitLane = [] ∧ x.txSeq + 1 < u32Max ∧
      s.active.isSome = true ∧ (∀ h ∈ s.com.held, h.sess ≠ sess) ∧ s.recovery = false := by
  unfold State.readyCommit
  cases s.session sess with
  | none => simp
  | some p =>
    obtain ⟨i, x⟩ := p
    simp [and_assoc]

/-- A commit request of a ready session is carried out at once, on the state with the frame noted. -/
theorem request_readyCommit {s : State} {sess req : Nat} {c : Instr} (hc : reqOf c = some req) (hr : s.readyCommit sess = true)
    (hq : s.newReq sess req = true) (carry : State → Nat → State) :
    ∃ level, request s sess req .commit c carry = carry (seen s sess) level := by
  obtain ⟨i, x, hx, hlane, hseq, hactive, hheld, hrec⟩ := readyCommit_iff.mp hr
  have hseen : s.setSession i { x with lastFrame := s.tick } = seen s sess := by simp [seen, hx]
  have hnew : (x.cache.any fun e => e.req == req) = false ∧ s.inLane x req = false := by simpa [State.newReq, hx] using hq
  obtain ⟨hcache, hlanes⟩ := hnew
  have hmiss : (x.cache.find? fun e => e.req == req && !(seen s sess).elapsed e.tick 10000000000) = none :=
    List.find?_eq_none.mpr fun e he => by simp [List.any_eq_false.mp hcache e he]
  have hin : (seen s sess).inLane { x with lastFrame := s.tick } req = false := by rw [← hseen]; exact hlanes
  have hrecovery : (seen s sess).recovery = false := by rw [← hseen]; exact hrec
  have hbusy : (seen s sess).laneBusy .commit sess = false := by
    rw [← hseen]
    simpa [State.laneBusy, ← Option.not_isSome, hactive] using hheld
  have hempty : x.commitLane.isEmpty = true := by simp [hlane]
  refine ⟨x.level, ?_⟩
  unfold request
  simp [hx, hc, hseen, hmiss, hin, hrecovery, hbusy, Session.waiting, hempty, Nat.not_le.mpr hseq, -List.isEmpty_iff]

theorem cancelOp_late {s : State} {id : Nat} {c : Commit} (hc : s.findCommit id = some c) (ha : c.state = .armed)
    (ht : c.t < s.now + 2000) (sess req : Nat) : cancelOp s sess req id = answerCommit s sess req (.nak .late 0 id) := by
  have hlate : s.tooLate c.t = true := decide_eq_true ht
  simp [cancelOp, hc, ha, hlate]

theorem cancelOp_abandons {s : State} {id : Nat} {c : Commit} (hc : s.findCommit id = some c)
    (hs : c.state = .prepared ∨ c.state = .armed ∧ s.now + 2000 ≤ c.t) (sess req : Nat) :
    cancelOp s sess req id = answerCommit (abandon s c .cancelled) sess req (.ack []) := by
  rcases hs with hp | ⟨ha, ht⟩
  · simp [cancelOp, hc, hp]
  · have hearly : s.tooLate c.t = false := decide_eq_false (by omega)
    simp [cancelOp, hc, ha, hearly]

theorem closeSession_out (s : State) (num reason : Nat) : (closeSession s num reason).ex.out = s.ex.out := by
  unfold closeSession
  split
  · rfl
  · have hload : (abandonLoad s num true).ex = s.ex := (abandonLoad_frame s num true).ex rfl
    exact (raise_quiet _ _ _ _).2.trans (show (abandonLoad s num true).ex.out = s.ex.out by rw [hload])

theorem closeIfSpent_out (s : State) (sess : Nat) : (closeIfSpent s sess).ex.out = s.ex.out := by
  unfold closeIfSpent
  split
  · split_ifs
    · exact closeSession_out s sess 4
    · rfl
  · rfl

theorem answerCommit_answered {s : State} {sess : Nat} (h : openIn s sess) (req : Nat) (r : Reply) :
    (answerCommit s sess req r).answered sess req 0 0 r := by
  obtain ⟨i, x, hx⟩ := (openIn_iff s sess).mp h
  unfold State.answered answerCommit
  rw [closeIfSpent_out]
  unfold answerFrom
  simp only [hx]
  exact ⟨_, sendAnswer_newest s 2 _⟩

/-- Answering an open session takes its next SEQ and changes the sessions' side alone. -/
theorem answerFrom_open {s : State} {sess i : Nat} {x : Session} (hx : s.session sess = some (i, x)) (source : Nat) (cached : Bool)
    (req addr sel : Nat) (r : Reply) : Frame [.ex] s (answerFrom source cached s sess req addr sel r) ∧
      ∃ j y, (answerFrom source cached s sess req addr sel r).session sess = some (j, y) ∧ y.txSeq = x.txSeq + 1 := by
  unfold answerFrom
  simp only [hx]
  refine ⟨.step (State.setSession_frame _ _ _) (by decide) (.step (sendAnswer_frame _ _ _) (by decide) (.refl s)), ?_⟩
  have hsent : ∀ a, (sendAnswer s source a).session sess = some (i, x) := fun a => by rwa [State.session, sendAnswer_sessions]
  have hnum : x.num = sess := session_num hx
  exact Exists.imp (fun j hj => ⟨_, hj, rfl⟩) (session_setSession (hsent _) hnum)

/-- An answer that does not take the session's last SEQ leaves it open. -/
theorem answerCommit_frame_ex {s : State} {sess i : Nat} {x : Session} (hx : s.session sess = some (i, x)) (hseq : x.txSeq + 1 < u32Max)
    (req : Nat) (r : Reply) : Frame [.ex] s (answerCommit s sess req r) := by
  obtain ⟨hframe, j, y, hy, hnext⟩ := answerFrom_open hx 2 true req 0 0 r
  unfold answerCommit closeIfSpent
  simp only [hy, hnext, if_neg (Nat.not_le.mpr hseq)]
  exact hframe

/-! ### CANCEL of a ready session -/

theorem foldl_refuseHeld_seated {n : Nat} {q : List HeldPrepare} (hq : ∀ h ∈ q, h.sess ≠ n) (k : Nak) {s : State} (hs : Seated n s) :
    Seated n (q.foldl (fun s h => refuseHeld s h k) s) := by
  induction q generalizing s with
  | nil => exact hs
  | cons h q ih =>
    exact ih (fun g hg => hq g (List.mem_cons_of_mem _ hg)) (hs.refuseHeld (hq h List.mem_cons_self) k)

theorem updateLog_opens (s : State) (n : Nat) (e : LogEntry) : Opens s (updateLog s n e) := by
  refine .ite (.foldl (fun s r => .ite (.refl s) ?_) (.set_com (.refl s))) (.refl s)
  have hput := fun kind flags time body => Opens.frame (ringPut_frame s r kind flags time body) (by decide) (.refl s)
  exact .ite (.step (raiseS_opens _ _ _) (hput _ _ _ _)) (hput _ _ _ _)

theorem slotAfter_opens (s : State) (slot : Nat) : Opens s (slotAfter s slot) :=
  .ite (.step (invalidate_opens _ _ _) (.set_mat (.refl s))) (.refl s)

/-- Abandoning a commit on its CANCEL leaves open every session but those whose COMMIT of it waited. -/
theorem abandon_open {n : Nat} {s : State} {c : Commit} (hs : Seated n s) (hheld : ∀ h ∈ s.com.held, h.sess ≠ n) :
    openIn (abandon s c .cancelled) n := by
  have hfreed : Seated n (abandonFreed s c) :=
    foldl_refuseHeld_seated (fun h hh => hheld h (List.mem_of_mem_filter hh)) .unknown (hs.of_table rfl)
  have hwarned : abandonWarned s c .cancelled = (abandonFreed s c, c) := by simp [abandonWarned]
  have hsettled : Opens (abandonFreed s c) (abandonSettled s c .cancelled) := by
    unfold abandonSettled abandonNoted
    rw [hwarned]
    refine .step (slotAfter_opens _ _) (.step (raiseA_opens _ _ _) (.frame (State.capNote_frame _ _) (by decide) ?_))
    exact .frame (State.incSat_frame _ _ _ _) (by decide) (.step (releaseGrant_opens _ _ _) (updateLog_opens _ _ _))
  rw [abandon_eq]
  exact hsettled n hfreed.openIn

theorem answered_sealed {s t : State} {sess req addr sel : Nat} {r : Reply} (h : t.answered sess req addr sel r) :
    (sealed s t).answered sess req addr sel r := h

theorem seen_now (s : State) (sess : Nat) : (seen s sess).now = s.now := by
  unfold seen
  split <;> rfl

theorem findCommit_seen (s : State) (sess id : Nat) : (seen s sess).findCommit id = s.findCommit id := by
  rw [State.findCommit, (seen_frame s sess).com rfl]
  rfl

section

variable {s : State} {sess req : Nat}

theorem execCancel_ready (hr : s.readyCommit sess = true) (hq : s.newReq sess req = true) (id : Nat) :
    exec (.cancel sess req id) s = .next (sealed s (cancelOp (seen s sess) sess req id)) := by
  obtain ⟨level, hreq⟩ := request_readyCommit (c := .cancel sess req id) rfl hr hq fun s _ => cancelOp s sess req id
  exact congrArg (finish s) hreq

theorem cancel_abandons {id : Nat} {c : Commit} (hr : s.readyCommit sess = true) (hq : s.newReq sess req = true)
    (hsorted : msorted s.ex.sessions = true) (hc : s.findCommit id = some c)
    (hs : c.state = .prepared ∨ c.state = .armed ∧ s.now + 2000 ≤ c.t) :
    ∃ t, exec (.cancel sess req id) s = .next t ∧ t.answered sess req 0 0 (.ack []) ∧ Abandoned s t c .cancelled := by
  obtain ⟨i, x, hx, -, -, -, hheld, -⟩ := readyCommit_iff.mp hr
  have hseat : Seated sess (seen s sess) := by
    have hopen : openIn s sess := (openIn_iff s sess).mpr ⟨i, x, hx⟩
    unfold seen
    simp only [hx]
    exact (seated_of_msorted hsorted hopen).setSession hx rfl
  have hopen : openIn (abandon (seen s sess) c .cancelled) sess := abandon_open hseat (by rwa [(seen_frame s sess).com rfl])
  have hop := cancelOp_abandons ((findCommit_seen s sess id).trans hc) (by rwa [seen_now]) sess req
  refine ⟨_, execCancel_ready hr hq id, ?_, ?_⟩
  · rw [hop]
    exact answered_sealed (answerCommit_answered hopen req _)
  · rw [hop]
    exact ((abandon_abandoned _ c .cancelled).answerCommit sess req _).sealed.of_seen

theorem cancel_late {id : Nat} {c : Commit} (hr : s.readyCommit sess = true) (hq : s.newReq sess req = true)
    (hc : s.findCommit id = some c) (ha : c.state = .armed) (ht : c.t < s.now + 2000) :
    ∃ t, exec (.cancel sess req id) s = .next t ∧ t.answered sess req 0 0 (.nak .late 0 id) ∧ Frame [.ex] s t := by
  obtain ⟨i, x, hx, -, hseq, -, -, -⟩ := readyCommit_iff.mp hr
  obtain ⟨j, hj⟩ := session_seen hx
  have hop := cancelOp_late ((findCommit_seen s sess id).trans hc) ha (by rwa [seen_now]) sess req
  refine ⟨_, execCancel_ready hr hq id, ?_, ?_⟩
  · rw [hop]
    exact answered_sealed (answerCommit_answered ((openIn_iff _ sess).mpr ⟨j, _, hj⟩) req _)
  · rw [hop]
    exact frame_sealed ((seen_frame s sess).trans (answerCommit_frame_ex hj hseq req _))

end

/-! ### Two sessions under one entry -/

/-- Commit 1, PREPARED by session 5. -/
def preparedCommit : Commit := { id := 1, slot := 4, sess := 5, req := 1, state := .prepared }

/-- A session table whose entry 0 holds session 5 and session 6, while a COMMIT of commit 1 by session 6 waits for the host's grant. -/
def sharedEntry : State :=
  { dev := { state := .service }
    lobes := { each := ⟨{ role := .active }, { role := .standby }⟩ }
    ex := { sessions := [(0, { num := 5, level := 2 }), (0, { num := 6, level := 2 })] }
    com := { live := [preparedCommit], held := [{ sess := 6, req := 1, commit := preparedCommit, arm := true }] } }

/-- The session that the newest answer goes to. -/
def newestReceiver : Host.Outcome State Fault Refusal → Option Nat
  | .next t => t.ex.out.head?.map (·.sess)
  | _ => none

/-- The NAK of the held COMMIT writes session 6 over session 5, so that nobody is left to acknowledge the CANCEL to. -/
theorem sharedEntry_cancel : newestReceiver (exec (.cancel 5 7 1) sharedEntry) = some 6 := by decide

theorem newestReceiver_of_answered {t : State} {sess req addr sel : Nat} {r : Reply} (h : t.answered sess req addr sel r) :
    newestReceiver (.next t) = some sess := by
  obtain ⟨_, hout⟩ := h
  simp [newestReceiver, hout]

/-- Refutes O33: its CANCEL clause takes any state, also one whose session table has two sessions under one entry, where answering one of
them overwrites the other. OPEN takes an entry not in use (log entry 67). With the premise `msorted s.ex.sessions = true` the clause is
`cancel_abandons`; the other clauses are `cancel_late`, `prepareTimeout_abandons`, `peerAbort_abandons` and `peerAbort_ignored`. -/
theorem not_commitsAbandoned : ¬ Obligations.CommitsAbandoned := by
  unfold Obligations.CommitsAbandoned
  rintro ⟨hcancel, -⟩
  obtain ⟨t, hexec, hans, -⟩ := hcancel 5 7 1 preparedCommit sharedEntry (by decide) (by decide) (by decide) (.inl rfl) (by decide)
  have hsix := sharedEntry_cancel
  rw [hexec, newestReceiver_of_answered hans] at hsix
  exact absurd hsix (by decide)

end Sys2Proof.Proofs

/-!
SUPPORT. The statements about every command at once: what each touches, that HBM keeps its canonical form, which slots a command
stores to, and what the event log holds.
-/

namespace Sys2Proof.Proofs

open Sys2Proof Sys2Proof.Machine Sys2Proof.Laws

/-! ### What a command touches -/

theorem sub_iff {l m : List Comp} : sub l m = true ↔ l ⊆ m := by simp [sub, List.subset_def]

/-- What every write of an object may change. -/
theorem writeTouches_zero_subset (addr : Nat) : writeTouches 0 ⊆ writeTouches addr := by
  have hzero : groupTouches 0 = [] := rfl
  simp [writeTouches, hzero]

/-- A park application that an owed command waits for changes no more than a write of an object may. -/
theorem parkOwed_touches {m : List Comp} (hm : writeTouches 0 ⊆ m) {s t : State} (h : Frame m s t) : Frame m s (parkOwed t) :=
  .step (parkOwed_frame t) (sub_iff.mpr fun _ hc => hm (sub_iff.mp (writeTouches_base 0 (by decide)) hc)) h

section

variable {m : List Comp} {s t : State} {sess req : Nat}

/-- An operation whose components every write may change. -/
theorem frame_base {n : List Comp} {u : State} (k : Frame n t u) (hn : sub n (writeTouches 0) = true)
    (hm : writeTouches 0 ⊆ m) (h : Frame m s t) : Frame m s u :=
  .step k (sub_iff.mpr fun _ hc => hm (sub_iff.mp hn hc)) h

theorem writeEntries_frame {s0 u : State} {level : Nat} {l : List WriteEntry} {i : Nat} {k : Option OwedKind}
    (hl : ∀ e ∈ l, writeTouches e.addr ⊆ m) (h0 : Frame m u s0) (h : Frame m u s) :
    Frame m u (endState (writeEntries s0 sess req level l i k s)) := by
  induction l generalizing i k s with
  | nil => exact h
  | cons e l ih =>
    have he := hl e List.mem_cons_self
    have hrest : ∀ {i k v}, Frame m u v → Frame m u (endState (writeEntries s0 sess req level l i k v)) := fun hv =>
      ih (fun x hx => hl x (List.mem_cons_of_mem _ hx)) hv
    have hw : ∀ {v}, Frame m u v → Frame m u (writeValue sess req e.addr e.sel e.value v).1 := fun hv =>
      .step (writeValue_frame sess req e.addr e.sel e.value _) (sub_iff.mpr he) hv
    unfold writeEntries
    split
    · exact h0
    · split
      next t e1 => exact hrest (.fst e1 (hw h))
      next t k' e1 => exact hrest (.fst e1 (hw h))
      next =>
        split
        next t n e2 => exact .fst e2 (hw h0)
        next => exact h0

theorem writeNow_frame {level : Nat} {entries : List WriteEntry} (hm : writeTouches 0 ⊆ m)
    (hl : ∀ e ∈ entries, writeTouches e.addr ⊆ m) : Frame m s (writeNow s sess req level entries) := by
  unfold writeNow
  refine .ite (frame_base (answer_frame _ _ _ _ _ _) (by decide) hm (.refl s)) ?_
  have hw : Frame m s (endState (writeEntries s sess req level entries 0 none s)) := writeEntries_frame hl (.refl s) (.refl s)
  split
  next e => rw [e] at hw; exact frame_base (answer_frame _ _ _ _ _ _) (by decide) hm hw
  next e => rw [e] at hw; exact frame_base (State.owe_frame _ _ _ _ _ _) (by decide) hm hw
  next e => rw [e] at hw; exact frame_base (answer_frame _ _ _ _ _ _) (by decide) hm hw

theorem blockWhole_frame (s : State) (sess req level addr sel : Nat) (b : List Byte) :
    Frame (writeTouches addr) s (blockWhole s sess req level addr sel b) := by
  have hm := writeTouches_zero_subset addr
  have hw := writeValue_frame sess req addr sel b s
  unfold blockWhole
  split
  · exact frame_base (answer_frame _ _ _ _ _ _) (by decide) hm (.refl s)
  · split
    next e => exact frame_base (answer_frame _ _ _ _ _ _) (by decide) hm (.fst e hw)
    next e => exact frame_base (answer_frame _ _ _ _ _ _) (by decide) hm (.fst e hw)
    next e => exact frame_base (State.owe_frame _ _ _ _ _ _) (by decide) hm (.fst e hw)

theorem storeChunk_frame (s : State) (sess req level : Nat) (b : BlockBuf) :
    Frame (writeTouches b.addr) s (storeChunk s sess req level b) := by
  have hm := writeTouches_zero_subset b.addr
  have ht : ∀ i x, Frame (writeTouches b.addr) s (touchLoad (s.setSession i x) sess b.addr) := fun i x =>
    frame_base (touchLoad_frame _ _ _) (by decide) hm (frame_base (State.setSession_frame _ _ _) (by decide) hm (.refl s))
  unfold storeChunk
  split
  · exact .refl s
  · exact .ite (frame_base (answer_frame _ _ _ _ _ _) (by decide) hm (ht _ _)) ((ht _ _).trans (blockWhole_frame _ _ _ _ _ _ _))

theorem blockWriteNow_frame (s : State) (sess req level addr sel offset total : Nat) (bytes : List Byte) :
    Frame (writeTouches addr) s (blockWriteNow s sess req level addr sel offset total bytes) := by
  have hm := writeTouches_zero_subset addr
  have hnak : ∀ u n, Frame (writeTouches addr) s u → Frame (writeTouches addr) s (answer u sess req 0 0 (.nak n 0 0)) :=
    fun u n hu => frame_base (answer_frame _ _ _ _ _ _) (by decide) hm hu
  have hset : ∀ i x, Frame (writeTouches addr) s (s.setSession i x) := fun i x =>
    frame_base (State.setSession_frame _ _ _) (by decide) hm (.refl s)
  unfold blockWriteNow
  conv => zeta
  split
  · exact .refl s
  refine .ite (hnak _ _ (.refl s)) (.ite ?first ?next)
  case first =>
    exact .ite (hnak _ _ (hset _ _)) (.ite (hnak _ _ (hset _ _)) ((hset _ _).trans (storeChunk_frame _ sess req level { addr, sel, total, bytes, tick := s.tick })))
  case next =>
    split
    · exact hnak _ _ (.refl s)
    next b _ =>
      split
      next hb => exact hb.1 ▸ storeChunk_frame s sess req level { b with bytes := b.bytes ++ bytes }
      next => exact hnak _ _ (.refl s)

end

theorem request_touches {m : List Comp} (hm : writeTouches 0 ⊆ m) {s t : State} {sess req : Nat} {c : Instr}
    {carry : State → Nat → State} (hc : ∀ s l, Frame m s (carry s l)) (h : finish s (parkOwed (request s sess req .object c carry)) = .next t) :
    Frame m s t :=
  have hbase : sub [.objs, .ex, .sorus, .lib] m = true := sub_iff.mpr fun _ hx => hm (sub_iff.mp (by decide) hx)
  finish_frame h (parkOwed_touches hm (request_frame hbase hc (.refl s))) (List.contains_iff_mem.mpr (hm (by decide)))

theorem execObjectWrite_touches (sess addr sel : Nat) (v : Int) (s t : State) (h : execObjectWrite sess addr sel v s = .next t) :
    Frame (writeTouches addr) s t :=
  have hm := writeTouches_zero_subset addr
  finish_frame h (parkOwed_touches hm (hostWrite_frame (writeTouches_base addr (by decide))
    (fun _ => effNumber_frame sess 0 addr sel v _) (.refl s))) (List.contains_iff_mem.mpr (hm (by decide)))

theorem execWrite_touches (sess req : Nat) (entries : List WriteEntry) (s t : State) (h : execWrite sess req entries s = .next t) :
    Frame (touches (.write sess req entries)) s t := by
  have hm : writeTouches 0 ⊆ touches (.write sess req entries) := List.subset_append_left _ _
  refine request_touches hm (fun u l => writeNow_frame hm fun e he => ?_) h
  refine List.append_subset.mpr ⟨fun c hc => hm (List.mem_append_left _ hc), fun c hc => ?_⟩
  exact List.mem_append_right _ (List.mem_flatMap.mpr ⟨e, he, hc⟩)

theorem execBlockWrite_touches (sess req addr sel offset total : Nat) (bytes : List Byte) (s t : State)
    (h : execBlockWrite sess req addr sel offset total bytes s = .next t) : Frame (writeTouches addr) s t :=
  request_touches (writeTouches_zero_subset addr) (fun _ _ => blockWriteNow_frame _ _ _ _ _ _ _ _ _) h

/-- Each command changes at most the components that `touches` names for it. -/
theorem exec_frame {c : Instr} {s t : State} (h : exec c s = .next t) : Frame (touches c) s t := by
  cases c with
  | resetRelease => exact execResetRelease_frame s t h
  | coldResetInput pin => exact execColdResetInput_frame pin s t h
  | railFault rail mv => exact execRailFault_frame rail mv s t h
  | refclkLost => exact execRefclkLost_frame s t h
  | refclkRestored lossNs => exact execRefclkRestored_frame lossNs s t h
  | safeLoadComplete => exact execSafeLoadComplete_frame s t h
  | booted lobe ok0 ok1 => exact execBooted_frame lobe ok0 ok1 s t h
  | selftestStepDone step failed => exact execSelftestStepDone_frame step failed s t h
  | selftestDone => exact execSelftestDone_frame s t h
  | parkRampEnd => exact execParkRampEnd_frame s t h
  | scanBoundary caps report => exact execScanBoundary_frame caps report s t h
  | sampleDelivery cv pair codeA overA hintA codeB overB hintB => exact execSampleDelivery_frame cv pair codeA overA hintA codeB overB hintB s t h
  | elementEvaluation e => exact execElementEvaluation_frame e s t h
  | outerPeriodEnd e => exact execOuterPeriodEnd_frame e s t h
  | offloadPeriodEnd e => exact execOffloadPeriodEnd_frame e s t h
  | wrapStart e => exact execWrapStart_frame e s t h
  | wrapStalled e => exact execWrapStalled_frame e s t h
  | loopSaturated e => exact execLoopSaturated_frame e s t h
  | voaPeriodEnd o => exact execVoaPeriodEnd_frame o s t h
  | setpoint sess e v => exact execSetpoint_frame sess e v s t h
  | loopEnable sess e v => exact execLoopEnable_frame sess e v s t h
  | voaEnable sess o v => exact execVoaEnable_frame sess o v s t h
  | hostDrive sess recs => exact execHostDrive_frame sess recs s t h
  | hostDriveApply => exact execHostDriveApply_frame s t h
  | funcMode sess n v => exact execFuncMode_frame sess n v s t h
  | modeBoundary n => exact execModeBoundary_frame n s t h
  | fallbackElementLoops => exact execFallbackElementLoops_frame s t h
  | fallbackImageGeneration => exact execFallbackImageGeneration_frame s t h
  | fallbackRefinement => exact execFallbackRefinement_frame s t h
  | fallbackPreEmphasis => exact execFallbackPreEmphasis_frame s t h
  | fallbackPowerArbitration => exact execFallbackPowerArbitration_frame s t h
  | fallbackTimeServo => exact execFallbackTimeServo_frame s t h
  | fallbackCapture => exact execFallbackCapture_frame s t h
  | fallbackClassification => exact execFallbackClassification_frame s t h
  | faultApply sess => exact execFaultApply_frame sess s t h
  | faultMapApply => exact execFaultMapApply_frame s t h
  | pinTestCell sess k => exact execPinTestCell_frame sess k s t h
  | pinTestDone => exact execPinTestDone_frame s t h
  | loadSlot sess slot => exact execLoadSlot_frame sess slot s t h
  | loadClose sess => exact execLoadClose_frame sess s t h
  | loadTimeout sess => exact execLoadTimeout_frame sess s t h
  | eraseSlot sess slot => exact execEraseSlot_frame sess slot s t h
  | revalidate sess slot => exact execRevalidate_frame sess slot s t h
  | findHash sess hash => exact execFindHash_frame sess hash s t h
  | findComplete => exact execFindComplete_frame s t h
  | routeApply sess => exact execRouteApply_frame sess s t h
  | routeDone us => exact execRouteDone_frame us s t h
  | writeBackStart => exact execWriteBackStart_frame s t h
  | writeBackDone => exact execWriteBackDone_frame s t h
  | refineDecideWrite sess b => exact execRefineDecideWrite_frame sess b s t h
  | refineDecideDiscard sess b => exact execRefineDecideDiscard_frame sess b s t h
  | prepare sess req id slot flags => exact execPrepare_frame sess req id slot flags s t h
  | commit sess req id t' flags => exact execCommit_frame sess req id t' flags s t h
  | cancel sess req id => exact execCancel_frame sess req id s t h
  | prepareTimeout id => exact execPrepareTimeout_frame id s t h
  | commitT id => exact execCommitT_frame id s t h
  | waveStart id w => exact execWaveStart_frame id w s t h
  | templatePhaseEnd id e => exact execTemplatePhaseEnd_frame id e s t h
  | applyingEnd id => exact execApplyingEnd_frame id s t h
  | commitDone id => exact execCommitDone_frame id s t h
  | settleTimeout id => exact execSettleTimeout_frame id s t h
  | peerAbort id t' source => exact execPeerAbort_frame id t' source s t h
  | slewPeriodBoundary u => exact execSlewPeriodBoundary_frame u s t h
  | spanApply sess => exact execSpanApply_frame sess s t h
  | spanDwellEnd u => exact execSpanDwellEnd_frame u s t h
  | deglitchEnd n => exact execDeglitchEnd_frame n s t h
  | genApply sess => exact execGenApply_frame sess s t h
  | genStartTime g => exact execGenStartTime_frame g s t h
  | readbackComparison b lane sensed => exact execReadbackComparison_frame b lane sensed s t h
  | spareSwitchover b lane => exact execSpareSwitchover_frame b lane s t h
  | spareMapStore => exact execSpareMapStore_frame s t h
  | bankHolding b => exact execBankHolding_frame b s t h
  | driveSafe b => exact execDriveSafe_frame b s t h
  | safeTransitionEnd u => exact execSafeTransitionEnd_frame u s t h
  | safeStore sess => exact execSafeStore_frame sess s t h
  | safeRevert sess => exact execSafeRevert_frame sess s t h
  | safePageStored => exact execSafePageStored_frame s t h
  | refReady mb => exact execRefReady_frame mb s t h
  | refEnable sess mb v => exact execRefEnable_frame sess mb v s t h
  | bankPower sess mb v => exact execBankPower_frame sess mb v s t h
  | gainMode sess pd v => exact execGainMode_frame sess pd v s t h
  | converterCheck cv code => exact execConverterCheck_frame cv code s t h
  | convSubstituted cv => exact execConvSubstituted_frame cv s t h
  | injApply sess => exact execInjApply_frame sess s t h
  | injectionDone cv code overRange => exact execInjectionDone_frame cv code overRange s t h
  | focusStart sess cv => exact execFocusStart_frame sess cv s t h
  | focusStop sess cv => exact execFocusStop_frame sess cv s t h
  | focusEntry cv => exact execFocusEntry_frame cv s t h
  | focusEnded cv => exact execFocusEnded_frame cv s t h
  | spaSample n code => exact execSpaSample_frame n code s t h
  | sppWindowEnd n edges span high => exact execSppWindowEnd_frame n edges span high s t h
  | sppTimeout n => exact execSppTimeout_frame n s t h
  | avgWindowEnd n => exact execAvgWindowEnd_frame n s t h
  | avgConfig sess n len v => exact execAvgConfig_frame sess n len v s t h
  | dpApply sess => exact execDpApply_frame sess s t h
  | dpApplied => exact execDpApplied_frame s t h
  | calApply sess => exact execCalApply_frame sess s t h
  | calStart => exact execCalStart_frame s t h
  | calGrantTimeout => exact execCalGrantTimeout_frame s t h
  | calRunEnd result => exact execCalRunEnd_frame result s t h
  | calResultApply => exact execCalResultApply_frame s t h
  | calAccept sess => exact execCalAccept_frame sess s t h
  | calDiscard sess => exact execCalDiscard_frame sess s t h
  | calAcceptTimeout => exact execCalAcceptTimeout_frame s t h
  | calAbort sess => exact execCalAbort_frame sess s t h
  | calStore sess => exact execCalStore_frame sess s t h
  | calStoreIntervalEnd => exact execCalStoreIntervalEnd_frame s t h
  | calValuesApply sess => exact execCalValuesApply_frame sess s t h
  | templateApply sess => exact execTemplateApply_frame sess s t h
  | grantRelease kind source => exact execGrantRelease_frame kind source s t h
  | heaterBudget sess reserve v => exact execHeaterBudget_frame sess reserve v s t h
  | grantDecideGrant sess seq through => exact execGrantDecideGrant_frame sess seq through s t h
  | grantDecideRefuse sess seq through => exact execGrantDecideRefuse_frame sess seq through s t h
  | steadyReset sess => exact execSteadyReset_frame sess s t h
  | tempConversion n reading => exact execTempConversion_frame n reading s t h
  | stopDrainEnd => exact execStopDrainEnd_frame s t h
  | tempHardCut n reading => exact execTempHardCut_frame n reading s t h
  | flashWritePermitted => exact execFlashWritePermitted_frame s t h
  | tdxMode sess x v => exact execTdxMode_frame sess x v s t h
  | heartbeatSend l => exact execHeartbeatSend_frame l s t h
  | heartbeatReceive l path hb crcOk => exact execHeartbeatReceive_frame l path hb crcOk s t h
  | hbPathFailed q => exact execHbPathFailed_frame q s t h
  | peerLost l => exact execPeerLost_frame l s t h
  | claimBroadcast l => exact execClaimBroadcast_frame l s t h
  | gateFault b => exact execGateFault_frame b s t h
  | writeRefused l b => exact execWriteRefused_frame l b s t h
  | lobeFailover l => exact execLobeFailover_frame l s t h
  | lobeYielded l cause => exact execLobeYielded_frame l cause s t h
  | watchdogExpiry l core => exact execWatchdogExpiry_frame l core s t h
  | lobeSupplyFault l => exact execLobeSupplyFault_frame l s t h
  | counterFault l => exact execCounterFault_frame l s t h
  | digestCompare peer => exact execDigestCompare_frame peer s t h
  | katDone col passA passB => exact execKatDone_frame col passA passB s t h
  | katIntervalEnd l => exact execKatIntervalEnd_frame l s t h
  | diagnosisEnd l pass => exact execDiagnosisEnd_frame l pass s t h
  | diagRetry l => exact execDiagRetry_frame l s t h
  | lobeReset sess l => exact execLobeReset_frame sess l s t h
  | snapshotCapture => exact execSnapshotCapture_frame s t h
  | snapshotReceived crcOk => exact execSnapshotReceived_frame crcOk s t h
  | snapshotLate => exact execSnapshotLate_frame s t h
  | resyncDone l => exact execResyncDone_frame l s t h
  | swapDue => exact execSwapDue_frame s t h
  | swapNow sess => exact execSwapNow_frame sess s t h
  | roleSwapped => exact execRoleSwapped_frame s t h
  | swapSkipped => exact execSwapSkipped_frame s t h
  | lobeDisPin l high => exact execLobeDisPin_frame l high s t h
  | lobeHoldOffline sess l v => exact execLobeHoldOffline_frame sess l v s t h
  | capArm sess b => exact execCapArm_frame sess b s t h
  | capEnd sess b => exact execCapEnd_frame sess b s t h
  | capForce sess b => exact execCapForce_frame sess b s t h
  | captureFrame b => exact execCaptureFrame_frame b s t h
  | capAutoTrigger b => exact execCapAutoTrigger_frame b s t h
  | rearmEnd b => exact execRearmEnd_frame b s t h
  | capRelease sess b seq => exact execCapRelease_frame sess b seq s t h
  | trigInEdge x => exact execTrigInEdge_frame x s t h
  | trigOutPulseEnd x => exact execTrigOutPulseEnd_frame x s t h
  | ringLength sess r v => exact execRingLength_frame sess r v s t h
  | ringRp sess r v => exact execRingRp_frame sess r v s t h
  | pcsLockChange x report => exact execPcsLockChange_frame x report s t h
  | linkDown x => exact execLinkDown_frame x s t h
  | linkUp x => exact execLinkUp_frame x s t h
  | announcementRepeat => exact execAnnouncementRepeat_frame s t h
  | portRevert => exact execPortRevert_frame s t h
  | portEnable sess x v => exact execPortEnable_frame sess x v s t h
  | frameReceive x bytes fcsOk tagOk => exact execFrameReceive_frame x bytes fcsOk tagOk s t h
  | recirculationPass => exact execRecirculationPass_frame s t h
  | classDecideDrop sess seq rxClass through => exact execClassDecideDrop_frame sess seq rxClass through s t h
  | classDecideExvan sess seq rxClass through => exact execClassDecideExvan_frame sess seq rxClass through s t h
  | classDecidePtp sess seq rxClass through => exact execClassDecidePtp_frame sess seq rxClass through s t h
  | classDecideSlow sess seq rxClass through => exact execClassDecideSlow_frame sess seq rxClass through s t h
  | netApply sess => exact execNetApply_frame sess s t h
  | rulesApply sess => exact execRulesApply_frame sess s t h
  | rulesCheckDone => exact execRulesCheckDone_frame s t h
  | rulesRetainEnd => exact execRulesRetainEnd_frame s t h
  | rulesStore sess => exact execRulesStore_frame sess s t h
  | txEnqueue x source len => exact execTxEnqueue_frame x source len s t h
  | txFrameStart x => exact execTxFrameStart_frame x s t h
  | txFrameEnd x => exact execTxFrameEnd_frame x s t h
  | shaperWrite sess n which v => exact execShaperWrite_frame sess n which v s t h
  | txqApply sess => exact execTxqApply_frame sess s t h
  | gateEntryChange x => exact execGateEntryChange_frame x s t h
  | gateApply sess x => exact execGateApply_frame sess x s t h
  | gateListChanged x => exact execGateListChanged_frame x s t h
  | qsample => exact execQsample_frame s t h
  | ptpMessage msg => exact execPtpMessage_frame msg s t h
  | servoUpdate o ts => exact execServoUpdate_frame o ts s t h
  | delayReqSend => exact execDelayReqSend_frame s t h
  | masterLost cause => exact execMasterLost_frame cause s t h
  | timeRate sess r => exact execTimeRate_frame sess r s t h
  | timeReset sess => exact execTimeReset_frame sess s t h
  | ppsInEdge => exact execPpsInEdge_frame s t h
  | ppsInLost => exact execPpsInLost_frame s t h
  | pulseApply sess k => exact execPulseApply_frame sess k s t h
  | pulseEdge k => exact execPulseEdge_frame k s t h
  | launchStart sess l => exact execLaunchStart_frame sess l s t h
  | launchStop sess l => exact execLaunchStop_frame sess l s t h
  | launchInstant l => exact execLaunchInstant_frame l s t h
  | openSession level nonce source uart ip origin => exact execOpenSession_frame level nonce source uart ip origin s t h
  | closeSession sess req => exact execCloseSession_frame sess req s t h
  | echo sess req body => exact execEcho_frame sess req body s t h
  | read sess req entries => exact execRead_frame sess req entries s t h
  | write sess req entries => exact execWrite_touches sess req entries s t h
  | objectWrite sess addr sel v => exact execObjectWrite_touches sess addr sel v s t h
  | blockRead sess req addr sel offset count => exact execBlockRead_frame sess req addr sel offset count s t h
  | blockWrite sess req addr sel offset total bytes => exact execBlockWrite_touches sess req addr sel offset total bytes s t h
  | blockAbandoned sess => exact execBlockAbandoned_frame sess s t h
  | subscribe sess req filter enable code mask => exact execSubscribe_frame sess req filter enable code mask s t h
  | eventFrameSend sess => exact execEventFrameSend_frame sess s t h
  | sessionTimeout sess => exact execSessionTimeout_frame sess s t h
  | sessionClose sess target => exact execSessionClose_frame sess target s t h
  | responseCacheExpiry sess => exact execResponseCacheExpiry_frame sess s t h
  | keyApply sess k => exact execKeyApply_frame sess k s t h
  | keyOverlapEnd k => exact execKeyOverlapEnd_frame k s t h
  | groupSeqReservation => exact execGroupSeqReservation_frame s t h
  | beatTimeout n t' written abandoned => exact execBeatTimeout_frame n t' written abandoned s t h
  | lockBroken n holdNs => exact execLockBroken_frame n holdNs s t h
  | matrixFault t' => exact execMatrixFault_frame t' s t h
  | arbReset sess => exact execArbReset_frame sess s t h
  | hbmUe addr initiator => exact execHbmUe_frame addr initiator s t h
  | scrubDone corrected uncorrectable => exact execScrubDone_frame corrected uncorrectable s t h
  | park sess => exact execPark_frame sess s t h
  | drain sess => exact execDrain_frame sess s t h
  | resume sess => exact execResume_frame sess s t h
  | warmReset sess => exact execWarmReset_frame sess s t h
  | coldReset sess => exact execColdReset_frame sess s t h
  | resetDelayEnd => exact execResetDelayEnd_frame s t h
  | parkStore sess slot => exact execParkStore_frame sess slot s t h
  | parkClear sess => exact execParkClear_frame sess s t h
  | configStore sess => exact execConfigStore_frame sess s t h
  | flashRegionDone => exact execFlashRegionDone_frame s t h
  | lifeRecordTimer => exact execLifeRecordTimer_frame s t h
  | fwLoadOpen sess bank => exact execFwLoadOpen_frame sess bank s t h
  | fwVerify sess sigOk => exact execFwVerify_frame sess sigOk s t h
  | fwActivate sess bank => exact execFwActivate_frame sess bank s t h
  | fwConfirm sess => exact execFwConfirm_frame sess s t h
  | fwConfirmTimeEnd => exact execFwConfirmTimeEnd_frame s t h
  | fwRollback sess => exact execFwRollback_frame sess s t h
  | fwTrialTimeout l => exact execFwTrialTimeout_frame l s t h
  | refclkReturns => exact execRefclkReturns_frame s t h
  | lobeLocalMemoryError l => exact execLobeLocalMemoryError_frame l s t h
  | sramUe addr initiator => exact execSramUe_frame addr initiator s t h
  | testAccessPortInstruction ir => exact execTestAccessPortInstruction_frame ir s t h

theorem resetDelayEnd_early {s t : State} (hd : ∀ k t0, s.dev.resetDue = some (k, t0) → s.elapsed t0 10000000 = false)
    (h : exec .resetDelayEnd s = .next t) : Frame [.ex] s t := by
  refine finish_frame h ?_
  split
  next k t0 hdue => rw [hd k t0 hdue]; exact .refl s
  next => exact .refl s

/-- What the return from FAULT_HOLD changes in a device that passes no cold reset. -/
def returnTouches : List Comp := [.objs, .dev, .ex, .lobes, .sorus, .drv, .steady, .loops, .mon, .cal, .lib, .com, .mat]

theorem refclkReturn_returns {s : State} (hboot : s.dev.heldFrom ≠ .boot) (htest : s.dev.heldFrom ≠ .selftest) :
    Frame returnTouches s (refclkReturn s) := by
  unfold refclkReturn
  conv => zeta
  split
  case h_3 => contradiction
  case h_4 => contradiction
  case h_5 => exact .step (enterSafe_frame _) (by decide) (.set_dev (by decide) (.refl s))
  all_goals
    refine .step (dropIdleWraps_frame _) (by decide) (.foldl (fun _ _ => .ite (.refl _) ?_) (.foldl (fun _ _ => ?_) ?_))
    · exact .step (State.setVoa_frame _ _ _) (by decide) (.refl _)
    · exact .step (refclkElem_frame _ _) (by decide) (.refl _)
    · exact .step (State.enter_frame _ _) (by decide) (.set_dev (by decide) (.refl s))

theorem refclkRestored_returns {lossNs : Nat} {s t : State} (hboot : s.dev.heldFrom ≠ .boot) (htest : s.dev.heldFrom ≠ .selftest)
    (h : exec (.refclkRestored lossNs) s = .next t) : Frame returnTouches s t := by
  refine finish_frame h ?_
  conv => zeta
  split
  · exact .refl s
  · have hnoted : Frame returnTouches s (raiseS (({ s with dev := { s.dev with refclkBack := none } } : State).unfault .refclk) 0x1002
        [.word (min u32Max lossNs)]) :=
      .step (raiseS_frame _ _ _) (by decide) (.step (State.unfault_frame _ _) (by decide) (.set_dev (by decide) (.refl s)))
    refine .ite (.ite (hnoted.trans (refclkReturn_returns ?_ ?_)) hnoted) (.refl s)
    · rwa [raiseS_dev]
    · rwa [raiseS_dev]

/-- Settles O4: each command by its own frame, and a write of an object by the effect its chapter gives it. -/
theorem commandsTouchOnlyTheirParts : Obligations.CommandsTouchOnlyTheirParts :=
  ⟨fun _ _ _ h => exec_frame h, fun _ _ hd h => resetDelayEnd_early hd h,
    fun _ _ _ hboot htest h => refclkRestored_returns hboot htest h⟩

end Sys2Proof.Proofs

namespace Sys2Proof.Proofs

open Sys2Proof Sys2Proof.Machine Sys2Proof.Laws

/-! ### Every command completes -/

theorem exec_finish (c : Instr) (s : State) : ∃ u, exec c s = finish s u := by
  cases c <;> exact ⟨_, rfl⟩

/-- Settles O2: every command ends in `finish`, which puts the queue back. -/
theorem everyCommandCompletes : Obligations.EveryCommandCompletes := by
  intro c s
  obtain ⟨u, hu⟩ := exec_finish c s
  exact ⟨_, hu, rfl⟩

/-- Settles O1. -/
theorem stepRunsFront : Obligations.StepRunsFront := fun _ _ _ => rfl

/-! ### HBM keeps its canonical form -/

/-- A command whose components lack HBM keeps its form by its frame. -/
theorem exec_mem {c : Instr} {s t : State} (h : exec c s = .next t) : Mem s t := by
  by_cases hc : (touches c).contains .hbm = false
  · exact .frame (exec_frame h) hc (.refl s)
  · cases c with
    | coldResetInput pin => exact execColdResetInput_mem pin s t h
    | refclkRestored lossNs => exact execRefclkRestored_mem lossNs s t h
    | selftestStepDone step failed => exact execSelftestStepDone_mem step failed s t h
    | selftestDone => exact execSelftestDone_mem s t h
    | loopSaturated e => exact execLoopSaturated_mem e s t h
    | faultMapApply => exact execFaultMapApply_mem s t h
    | loadSlot sess slot => exact execLoadSlot_mem sess slot s t h
    | eraseSlot sess slot => exact execEraseSlot_mem sess slot s t h
    | revalidate sess slot => exact execRevalidate_mem sess slot s t h
    | findComplete => exact execFindComplete_mem s t h
    | routeApply sess => exact execRouteApply_mem sess s t h
    | routeDone us => exact execRouteDone_mem us s t h
    | writeBackDone => exact execWriteBackDone_mem s t h
    | prepare sess req id slot flags => exact execPrepare_mem sess req id slot flags s t h
    | readbackComparison b lane sensed => exact execReadbackComparison_mem b lane sensed s t h
    | converterCheck cv code => exact execConverterCheck_mem cv code s t h
    | convSubstituted cv => exact execConvSubstituted_mem cv s t h
    | injectionDone cv code overRange => exact execInjectionDone_mem cv code overRange s t h
    | lobeFailover l => exact execLobeFailover_mem l s t h
    | roleSwapped => exact execRoleSwapped_mem s t h
    | write sess req entries => exact execWrite_mem sess req entries s t h
    | objectWrite sess addr sel v => exact execObjectWrite_mem sess addr sel v s t h
    | blockWrite sess req addr sel offset total bytes => exact execBlockWrite_mem sess req addr sel offset total bytes s t h
    | beatTimeout n t' written abandoned => exact execBeatTimeout_mem n t' written abandoned s t h
    | hbmUe addr initiator => exact execHbmUe_mem addr initiator s t h
    | park sess => exact execPark_mem sess s t h
    | resume sess => exact execResume_mem sess s t h
    | resetDelayEnd => exact execResetDelayEnd_mem s t h
    | _ => exact absurd rfl hc

theorem runWaiting_mem (c : Instr) (s : State) : Mem s (runWaiting c s) := by
  unfold runWaiting
  split
  next h => exact exec_mem h
  next => exact .refl s

theorem idleTick_mem (s : State) : Mem s (idleTick s) :=
  .step (serveLanes_mem runWaiting_mem _)
    (.frame (serveClasses_frame _) (by decide) (.frame (tickOnce_frame s) (by decide) (.refl s)))

/-- Settles O7: HBM is written by `memWrite` alone, which keeps the form. -/
theorem stepKeepsMemoryForm : Obligations.StepKeepsMemoryForm := by
  intro s t hs h
  unfold step at h
  split at h
  case h_1 => cases h; exact idleTick_mem s hs
  case h_2 => exact exec_mem h hs

/-- Settles O6: reset leaves HBM and the event log empty. -/
theorem resetMeetsInvariants : Obligations.ResetMeetsInvariants := ⟨rfl, rfl, fun _ => rfl⟩

/-- Settles O9: a write parts the cells by address, those before, those written and those after. -/
theorem memoryReadAfterWrite : Obligations.MemoryReadAfterWrite := fun m a b =>
  ⟨fun _ h => memByte_memWrite_self m a b h, fun _ h => memByte_memWrite_other m a b h⟩

/-! ### The event log (R476) -/

theorem not_log_groupTouches (addr : Nat) : .log ∉ groupTouches addr := by
  unfold groupTouches
  split <;> decide

theorem not_log_writeTouches (addr : Nat) : .log ∉ writeTouches addr := by
  simp [writeTouches, not_log_groupTouches]

/-- A request that waits in a lane is no cold reset. -/
theorem not_log_touches_of_requested {c : Instr} (h : requested c = true) : .log ∉ touches c := by
  cases c with
  | write => simp [touches, not_log_writeTouches, not_log_groupTouches]
  | objectWrite => exact not_log_writeTouches _
  | blockWrite => exact not_log_writeTouches _
  | coldResetInput => exact absurd h Bool.false_ne_true
  | refclkRestored => exact absurd h Bool.false_ne_true
  | resetDelayEnd => exact absurd h Bool.false_ne_true
  | _ => simp [touches, Comp.allBut]

/-- Everything but the log, which at most gains records. -/
theorem touches_allBut_log {l : List Comp} (h : .log ∉ l) : sub l (Comp.allBut [.log]) = true := by
  refine sub_iff.mpr fun c hc => ?_
  have hne : c ≠ .log := fun e => h (e ▸ hc)
  revert hne
  cases c <;> decide

theorem exec_logged {c : Instr} {s t : State} (hc : .log ∉ touches c) (h : exec c s = .next t) :
    Frame (Comp.allBut [.log]) s t := (exec_frame h).mono (touches_allBut_log hc)

theorem runWaiting_logged (c : Instr) (s : State) : Frame (Comp.allBut [.log]) s (runWaiting c s) := by
  unfold runWaiting
  split
  next hc h => exact exec_logged (not_log_touches_of_requested hc) h
  next => exact .refl s

section

variable {m : List Comp} (hm : m.contains .ex = true) (hr : ∀ c s, Frame m s (runWaiting c s))
include hm hr

theorem serveLane_frame (s : State) (i : Nat) (lane : Lane) : Frame m s (serveLane s i lane) := by
  have hx : ∀ {t} i x, Frame m s t → Frame m s (t.setSession i x) := fun i x ht =>
    .step (State.setSession_frame _ i x) (by simpa [sub] using hm) ht
  have hrun : ∀ c i x, Frame m s (runWaiting c (s.setSession i x)) := fun c i x => (hx i x (.refl s)).trans (hr c _)
  unfold serveLane
  split
  · exact .refl s
  · split
    · exact .refl s
    · refine .ite (.refl s) ?_
      conv => zeta
      split
      · exact .ite (hx _ _ (hrun _ _ _)) (hrun _ _ _)
      · exact hrun _ _ _

theorem serveLanes_frame (s : State) : Frame m s (serveLanes s) := by
  have hgroup : ∀ u, Frame m u (serveGroupLane u) := fun u => by
    unfold serveGroupLane
    split
    · exact .refl u
    · exact .ite (.refl u) (.set_ex hm ((Frame.set_ex hm (.refl u)).trans (hr _ _)))
  exact .trans (.foldl (fun u p => (serveLane_frame hm hr u _ _).trans (serveLane_frame hm hr _ _ _)) (.refl s)) (hgroup _)

end

theorem idleTick_logged (s : State) : Frame (Comp.allBut [.log]) s (idleTick s) :=
  .trans (.step (serveClasses_frame _) (by decide) (.step (tickOnce_frame s) (by decide) (.refl s)))
    (serveLanes_frame (by decide) runWaiting_logged _)

theorem logged_of_frame {m : List Comp} {s t : State} (h : Frame m s t) (hm : .log ∉ m) (hs : s.logBounded) :
    ∃ added, t.ex.log = (added ++ s.ex.log).take 4096 := (h .log).resolve_left hm hs

theorem exec_logBounded {c : Instr} {s t : State} (h : exec c s = .next t) : t.logBounded := by
  obtain ⟨u, hu⟩ := exec_finish c s
  cases hu.symm.trans h
  exact List.length_take_le _ _

theorem coldResetInput_log {pin : Nat} {s t : State} (hp : pin < 2) (hs : s.dev.state ≠ .off)
    (h : exec (.coldResetInput pin) s = .next t) : t.ex.log = [] := by
  change execColdResetInput pin s = _ at h
  simp only [execColdResetInput, if_pos hp, if_neg hs] at h
  cases h
  rfl

/-- Settles O8: `finish` cuts the log at its newest records, and by the frame of every command but a cold reset the log only gains
some. -/
theorem logHoldsNewest : Obligations.LogHoldsNewest := by
  unfold Obligations.LogHoldsNewest
  have hidle : ∀ s t : State, s.pending = [] → s.logBounded → step s = .next t → ∃ added, t.ex.log = (added ++ s.ex.log).take 4096 := by
    intro s t hp hs h
    rw [step, hp] at h
    cases h
    exact logged_of_frame (idleTick_logged s) (by decide) hs
  refine ⟨fun _ _ _ h => exec_logBounded h, fun _ _ _ hc hs h => logged_of_frame (exec_frame h) hc hs, hidle, fun s t hs h => ?_,
    fun _ _ _ hp hs h => coldResetInput_log hp hs h⟩
  cases hp : s.pending with
  | nil =>
    obtain ⟨added, hlog⟩ := hidle s t hp hs h
    rw [State.logBounded, hlog]
    exact List.length_take_le _ _
  | cons c rest =>
    rw [step, hp] at h
    exact exec_logBounded h

end Sys2Proof.Proofs

namespace Sys2Proof.Proofs

open Sys2Proof Sys2Proof.Machine Sys2Proof.Laws

/-! ### An idle step -/

theorem tickOnce_active (s : State) : (tickOnce s).active = s.active :=
  congrArg (fun l : Lobes => if l.each.a.role = .active then some 0 else if l.each.b.role = .active then some 1 else none)
    ((tickOnce_frame s).lobes rfl)

theorem not_ticking_iff (s : State) : s.ticking = false ↔ s.dev.refclkLost = true ∨ s.dev.state = .off := by
  cases h : s.dev.refclkLost <;> simp [State.ticking, h]

section

variable {s : State}

theorem serveClasses_inactive (h : s.active = none) : serveClasses s = s := by
  unfold serveClasses
  rw [h]

theorem serveClasses_empty (hc : s.net.classes = []) (hs : s.net.slow = []) : serveClasses s = s := by
  have hone : ∀ u c, serveClass [] [] u c = u := fun _ _ => rfl
  have hnet : { s.net with classes := [], slow := [] } = s.net := by rw [← hc, ← hs]
  unfold serveClasses
  split
  · rfl
  · simp [hc, hs, hone, hnet]

theorem serveLane_inactive (h : s.active = none) (i : Nat) (lane : Lane) : serveLane s i lane = s := by
  have hbusy : ∀ n, s.laneBusy lane n = true := fun n => by simp [State.laneBusy, h]
  unfold serveLane
  split
  · rfl
  · split
    · rfl
    · rw [if_pos (hbusy _)]

theorem serveLanes_inactive (h : s.active = none) : serveLanes s = s := by
  have hfold : ∀ l : SMap Session, l.foldl (fun s p => serveLane (serveLane s p.1 .object) p.1 .commit) s = s := fun l => by
    induction l with
    | nil => rfl
    | cons p l ih => rw [List.foldl_cons, serveLane_inactive h, serveLane_inactive h, ih]
  simp only [serveLanes, hfold]
  unfold serveGroupLane
  split
  · rfl
  · simp [h]

theorem serveLanes_empty (hs : s.ex.sessions = []) (hg : s.ex.groupLane = []) : serveLanes s = s := by
  simp [serveLanes, serveGroupLane, hs, hg]

/-- With no lobe ACTIVE or nobody waiting an idle step is its tick alone. -/
theorem idleTick_quiet (h : s.active = none ∨ (s.ex.sessions = [] ∧ s.ex.groupLane = [] ∧ s.net.classes = [] ∧ s.net.slow = [])) :
    idleTick s = tickOnce s := by
  have hf := tickOnce_frame s
  unfold idleTick
  rcases h with h | ⟨hsess, hgroup, hclasses, hslow⟩
  · have ha : (tickOnce s).active = none := (tickOnce_active s).trans h
    rw [serveClasses_inactive ha, serveLanes_inactive ha]
  · rw [serveClasses_empty (by rwa [hf.net rfl]) (by rwa [hf.net rfl]), serveLanes_empty (by rwa [hf.ex rfl]) (by rwa [hf.ex rfl])]

end

/-- Settles O3: with nobody to serve an idle step is `tickOnce`. -/
theorem idleStepIsATick : Obligations.IdleStepIsATick := by
  unfold Obligations.IdleStepIsATick
  intro s hp hquiet
  refine ⟨tickOnce s, by rw [step, hp, idleTick_quiet hquiet], ?_⟩
  have hf := tickOnce_frame s
  simp only [← not_ticking_iff]
  cases ht : s.ticking <;> simp [tickOnce, ht] at hf ⊢ <;> exact ⟨hp, hf⟩

end Sys2Proof.Proofs

/-!
SUPPORT. The proofs of power-up, pins and the test access port (spec/18_lifecycle.md, spec/19_package.md).
-/

namespace Sys2Proof.Proofs

open Sys2Proof Sys2Proof.Machine Sys2Proof.Laws

/-- Entering a device state changes of the device record the state and its time. -/
theorem enter_dev (s : State) (d : DevState) : (s.enter d).dev = { s.dev with state := d, since := s.now } := raiseA_dev _ _ _

/-! ### Power-up (R511) -/

/-- The device record at instant Z. -/
theorem bootStart_dev (s : State) : (bootStart s).dev =
    { s.dev with
      safeLoaded := false, selfStep := 0, lifeAt := 0, state := .boot, since := (bootStart s).dev.since
      flash := bootRecords { s.dev.flash with coldResets := min u32Max (s.dev.flash.coldResets + 1) } } := by
  unfold bootStart
  rw [(startReferences_frame _).dev rfl, enter_dev]
  rfl

theorem bootStart_tick (s : State) : (bootStart s).tick = 0 := by
  unfold bootStart
  rw [(startReferences_frame _).tick rfl, (State.enter_frame _ _).tick rfl]
  rfl

theorem bootRecords_coldResets (f : Flash) : (bootRecords f).coldResets = f.coldResets := by
  unfold bootRecords
  split <;> rfl

theorem resetRelease_boots {s : State} (hoff : s.dev.state = .off) (hclk : s.dev.refclkLost = false) :
    ∃ t, exec .resetRelease s = .next t ∧ t.dev.state = .boot ∧ t.tick = 0 ∧ t.dev.resetN = true ∧ t.dev.pgood = true ∧
      t.dev.safeLoaded = false ∧ t.dev.flash.coldResets = min u32Max (s.dev.flash.coldResets + 1) := by
  refine ⟨_, rfl, ?_⟩
  have hcond : s.dev.state = .off ∧ ¬ s.dev.refclkLost = true := ⟨hoff, by simp [hclk]⟩
  simp only [if_pos hcond, sealed_dev, sealed_tick]
  refine ⟨?_, bootStart_tick _, ?_, ?_, ?_, ?_⟩ <;> rw [bootStart_dev]
  exact bootRecords_coldResets _

/-! ### The reset pins (R509) -/

theorem coldResetInput_resets {pin : Nat} {s : State} (hp : pin < 2) (hs : s.dev.state ≠ .off) :
    exec (.coldResetInput pin) s = .next (sealed s
      (let u := coldReset s pin
       { u with dev := { u.dev with resetN := u.dev.resetN && pin != 1, pgood := u.dev.pgood && pin != 0 } })) := by
  change execColdResetInput pin s = _
  simp only [execColdResetInput, if_pos hp, if_neg hs]
  rfl

theorem coldResetInput_off {pin : Nat} {s : State} (hp : pin < 2) (hs : s.dev.state = .off) :
    exec (.coldResetInput pin) s = .next (sealed s
      { s with dev := { s.dev with resetN := s.dev.resetN && pin != 1, pgood := s.dev.pgood && pin != 0 } }) := by
  change execColdResetInput pin s = _
  simp only [execColdResetInput, if_pos hp, if_pos hs]
  rfl

/-! ### The test access port (R561) -/

theorem testAccessPort_captures (ir : Nat) (s : State) : ∃ t, exec (.testAccessPortInstruction ir) s = .next t ∧
    t.dev.boundary = (if s.tapTakes ir = 1 then lands.map s.landLevel else s.dev.boundary) ∧
    t.dev = { s.dev with tapInstruction := s.tapTakes ir, trstN := true, boundary := t.dev.boundary,
                         tapData := if s.tapTakes ir = 2 then s.idcode else if s.tapTakes ir < 2 then bitsOf t.dev.boundary else 0 } ∧
    Frame [.dev, .ex] s t :=
  ⟨_, rfl, rfl, rfl, exec_frame (c := .testAccessPortInstruction ir) rfl⟩

/-- Settles O10: instant Z, the two pins, and the registers of the port. -/
theorem powerAndPins : Obligations.PowerAndPins := by
  unfold Obligations.PowerAndPins
  refine ⟨fun s hoff hclk => resetRelease_boots hoff hclk, fun pin s hp hs => ?_, fun pin s hp hs => ?_, fun ir k s hk => ?_⟩
  · exact ⟨_, coldResetInput_resets hp hs, rfl, rfl, rfl, obj_setObjN _ _ _ _, rfl, rfl, rfl, rfl, rfl, rfl, rfl, rfl, rfl⟩
  · exact ⟨_, coldResetInput_off hp hs, rfl, finish_frame rfl (.set_dev (by decide) (.refl s))⟩
  · have htakes : k = s.tapTakes ir := by simpa [State.tapTakes] using hk
    exact htakes ▸ testAccessPort_captures ir s

end Sys2Proof.Proofs

/-!
SUPPORT. The lobes' records through the operations that set a lobe or its role.
-/

namespace Sys2Proof.Proofs

open Sys2Proof Sys2Proof.Machine Sys2Proof.Laws

theorem lobe_of_lobes {s t : State} (h : t.lobes = s.lobes) (l : Nat) : t.lobe l = s.lobe l := by simp [State.lobe, h]

@[simp] theorem lobe_setLobe (s : State) (l : Nat) (x : Lobe) : (s.setLobe l x).lobe l = x := by
  simp only [State.lobe, State.setLobe, Pair.at, Pair.put]
  split <;> rfl

theorem lobe_setLobe_other (s : State) {l m : Nat} (x : Lobe) (h : (l = 0) ≠ (m = 0)) : (s.setLobe l x).lobe m = s.lobe m := by
  simp only [State.lobe, State.setLobe, Pair.at, Pair.put]
  split_ifs with hm hl <;> simp_all

theorem setRole_each {s : State} {l : Nat} {r : Role} (h : (s.lobe l).role ≠ r) :
    (setRole s l r).lobes.each = s.lobes.each.put l { s.lobe l with role := r, since := s.tick } := by
  have hjudge : ∀ u d, (judgeLobes (raise u 0x600B l d)).lobes = u.lobes := fun u d =>
    ((judgeLobes_frame _).lobes rfl).trans (raise_lobes _ _ _ _)
  have hlose : ∀ (p : Prop) [Decidable p] u, (if p then loseRequests u else u).lobes = u.lobes := fun p _ u => by split <;> rfl
  unfold setRole
  rw [if_neg h]
  conv => zeta
  rw [hjudge, hlose]
  split <;> rfl

/-- The record of a lobe whose role has been set. -/
theorem setRole_lobe (s : State) (l : Nat) (r : Role) : (setRole s l r).lobe l =
    { s.lobe l with role := r, since := if (s.lobe l).role = r then (s.lobe l).since else s.tick } := by
  by_cases h : (s.lobe l).role = r
  · rw [setRole, if_pos h]
    simp [← h]
  · rw [State.lobe, setRole_each h, if_neg h]
    exact lobe_setLobe s l _

theorem setRole_lobe_other (s : State) {l m : Nat} (r : Role) (h : (l = 0) ≠ (m = 0)) : (setRole s l r).lobe m = s.lobe m := by
  by_cases hr : (s.lobe l).role = r
  · rw [setRole, if_pos hr]
  · rw [State.lobe, setRole_each hr]
    exact lobe_setLobe_other s _ h

end Sys2Proof.Proofs

/-!
SUPPORT. The proofs of the safe load and the loader (spec/07_drive.md, spec/18_lifecycle.md).
-/

namespace Sys2Proof.Proofs

open Sys2Proof Sys2Proof.Machine Sys2Proof.Laws

/-! ### The safe load (R216) -/

/-- Setting channels and spares leaves the lanes driven or undriven. -/
theorem loadSpares_driven (s : State) (b code : Nat) : (loadSpares s b code).drv.driven = s.drv.driven := by
  unfold loadSpares
  extract_lets put
  have hput : ∀ u k x, (put u k x).drv.driven = u.drv.driven := fun u k x => by
    simp only [put]
    split <;> rfl
  rw [hput, hput]

theorem foldl_keeps {α β : Type} {f : State → β → State} {g : State → α} (hf : ∀ s b, g (f s b) = g s) (l : List β) (s : State) :
    g (l.foldl f s) = g s := by
  induction l generalizing s with
  | nil => rfl
  | cons b l ih => exact (ih _).trans (hf s b)

theorem loadPage_driven (s : State) (p : SafePage) : (loadPage s p).drv.driven = true := by
  unfold loadPage
  extract_lets u v us w
  refine (foldl_keeps (g := fun s => s.drv.driven) (fun s (e : Nat × Nat) => loadSpares_driven s e.1 e.2) _ _).trans ?_
  refine Eq.trans (foldl_keeps (g := fun s => s.drv.driven) ?_ _ _) rfl
  exact fun _ _ => rfl

/-- The state in which the sequencer picks its page, and the free number that says which check a cut page fails. -/
def loadDraw (s : State) : Nat × State := if s.dev.flash.bad.contains 0xC0000 then s.fresh else (0, s)

theorem loadDraw_dev (s : State) : (loadDraw s).2.dev = s.dev := by
  unfold loadDraw
  split <;> rfl

theorem pageCheck_dev {s t : State} (h : t.dev = s.dev) (k : Nat) : t.pageCheck k = s.pageCheck k := by simp [State.pageCheck, h]

/-- The state once the page that a check leaves is loaded. -/
def pageLoaded (s : State) (check : Nat) (p : SafePage) : State :=
  let u := ((loadPage s p).setObjN Obj.SAFE_GEN 0 p.gen).setObjN Obj.SAFE_SOURCE 0 (boolNat (check != 0))
  let u := { u with dev := { u.dev with safeLoaded := true } }
  if check ≠ 0 then raiseS u 0x4006 [.word check] else u

theorem safeLoad_eq (s : State) : safeLoad s =
    match (loadDraw s).2.pageToLoad ((loadDraw s).2.pageCheck (loadDraw s).1) with
    | none => (loadDraw s).2
    | some p => pageLoaded (loadDraw s).2 ((loadDraw s).2.pageCheck (loadDraw s).1) p := rfl

theorem pageLoaded_loads (s : State) (k : Nat) (p : SafePage) : (pageLoaded s k p).dev.safeLoaded = true ∧
    (pageLoaded s k p).drv.driven = true ∧ (pageLoaded s k p).obj Obj.SAFE_GEN 0 = p.gen ∧
    (pageLoaded s k p).obj Obj.SAFE_SOURCE 0 = boolNat (k != 0) := by
  unfold pageLoaded
  extract_lets u d v
  have hgen : v.obj Obj.SAFE_GEN 0 = p.gen := (obj_setObjN_other _ (by decide)).trans (obj_setObjN _ _ _ _)
  have hsource : v.obj Obj.SAFE_SOURCE 0 = boolNat (k != 0) := obj_setObjN _ _ _ _
  have hdriven : v.drv.driven = true := loadPage_driven s p
  split
  · rw [raiseS_dev, raiseS_drv, raiseS_obj (by decide), raiseS_obj (by decide)]
    exact ⟨rfl, hdriven, hgen, hsource⟩
  · exact ⟨rfl, hdriven, hgen, hsource⟩

/-- A load that finds a page ends with the lanes driven and the page named. -/
theorem safeLoad_loads {s : State} {p : SafePage} {k : Nat} (hk : s.pageCheck (loadDraw s).1 = k) (hp : s.pageToLoad k = some p) :
    safeLoad s = pageLoaded (loadDraw s).2 k p := by
  have hd := loadDraw_dev s
  have hpage : (loadDraw s).2.pageToLoad k = some p := by rw [← hp]; simp [State.pageToLoad, hd]
  rw [safeLoad_eq, (pageCheck_dev hd _).trans hk, hpage]

theorem safeLoadComplete_exec {s : State} (hs : s.dev.state = .boot) (hl : s.dev.safeLoaded = false) :
    exec .safeLoadComplete s = .next (sealed s (safeLoad s)) := by
  have hcond : (s.dev.state = .boot ∨ s.dev.state = .faultHold ∧ s.dev.heldFrom = .boot) ∧ ¬ s.dev.safeLoaded = true :=
    ⟨.inl hs, by simp [hl]⟩
  change execSafeLoadComplete s = _
  rw [execSafeLoadComplete, if_pos hcond]
  rfl

/-! ### The loader (R512) -/

theorem bootLobe_lobe (s : State) (l b : Nat) (other : Bool) : (bootLobe s l b other).lobe l =
    { s.lobe l with role := .diagnosing, bank := some b, noFirmware := false, since := s.tick } := by
  unfold bootLobe
  extract_lets x u v y w w' w''
  have hv : v.lobe l = { u.lobe l with role := .diagnosing, since := (v.lobe l).since } := by simp [v, setRole_lobe]
  have hlast : w''.lobe l = { v.lobe l with since := s.tick } := by
    have htick : v.tick = s.tick := (setRole_frame u l .diagnosing).tick rfl
    have hraise : w''.lobes = w.lobes := (raise_lobes _ _ _ _).trans ((State.unfault_frame w .recovery).lobes rfl)
    rw [lobe_of_lobes hraise, ← htick]
    exact lobe_setLobe v l _
  have hu : u.lobe l = { s.lobe l with bank := some b, noFirmware := false } := lobe_setLobe s l _
  split
  all_goals
    refine Eq.trans ?_ (hlast.trans (by rw [hv, hu]))
    rfl

theorem bootBank_confirmed {s : State} {l : Nat} {ok0 ok1 : Bool} (ht : (s.lobe l).trialBoot = false)
    (hok : (if s.dev.flash.confirmed = 0 then ok0 else ok1) = true) (hbad : s.bankBad s.dev.flash.confirmed = false) :
    s.bootBank l ok0 ok1 = some (s.dev.flash.confirmed, false) := by
  simp [State.bootBank, ht, hok, hbad]

theorem booted_exec {l : Nat} {ok0 ok1 other : Bool} {b : Nat} {s : State} (hl : l < 2) (hs : s.dev.state ≠ .off)
    (hsafe : s.dev.safeLoaded = true) (hrun : s.mayRun l = true) (hbank : (s.lobe l).bank = none)
    (hboot : s.bootBank l ok0 ok1 = some (b, other)) : exec (.booted l ok0 ok1) s = .next (sealed s (bootLobe s l b other)) := by
  change execBooted l ok0 ok1 s = _
  rw [execBooted, if_pos ⟨hl, hs, hsafe, hrun, hbank⟩, hboot]
  rfl

/-- Settles O11: the page that the checks leave, and the bank that the loader boots. -/
theorem safeLoadAndBoot : Obligations.SafeLoadAndBoot := by
  unfold Obligations.SafeLoadAndBoot
  refine ⟨fun s hs hl hcrc hmagic hformat => ?working, fun s hs hl hfails hfactory => ?factory,
    fun l ok0 ok1 s hl hs hsafe hrun hbank ht hok hbad => ?boots⟩
  case working =>
    have hcheck : ∀ k, s.pageCheck k = 0 := fun k => by simp [State.pageCheck, hcrc, hmagic, hformat]
    have hload := safeLoad_loads (hcheck (loadDraw s).1) rfl
    exact ⟨_, safeLoadComplete_exec hs hl, hload ▸ pageLoaded_loads _ _ _⟩
  case factory =>
    have hcheck : ∀ k, s.pageCheck k ≠ 0 := fun k => by
      unfold State.pageCheck
      extract_lets p
      split_ifs with hbad hm hf
      · omega
      · decide
      · decide
      · rcases hfails with h | h | h
        · exact absurd (List.contains_iff_mem.mpr h) hbad
        · exact absurd h hm
        · exact absurd h hf
    have hpage : s.pageToLoad (s.pageCheck (loadDraw s).1) = some { gen := 0 } := by simp [State.pageToLoad, hcheck, hfactory]
    have hload := safeLoad_loads rfl hpage
    obtain ⟨hloaded, hdriven, hgen, hsource⟩ := hload ▸ pageLoaded_loads _ _ _
    refine ⟨_, safeLoadComplete_exec hs hl, hloaded, hdriven, hgen, hsource.trans ?_⟩
    simp [boolNat, hcheck]
  case boots =>
    have hboot := bootLobe_lobe s l s.dev.flash.confirmed false
    refine ⟨_, booted_exec hl hs hsafe hrun hbank (bootBank_confirmed ht hok hbad), ?_, ?_, ?_⟩
    all_goals rw [lobe_of_lobes (sealed_lobes _ _), hboot]

end Sys2Proof.Proofs

/-!
SUPPORT. The proofs of self-test and the park application (spec/18_lifecycle.md, Self-test, The park image).
-/

namespace Sys2Proof.Proofs

open Sys2Proof Sys2Proof.Machine Sys2Proof.Laws

theorem objN_eq {s : State} {a b n : Nat} (h : s.obj a b = (n : Nat)) : s.objN a b = n := by simp [State.objN, h]

/-! ### Self-test (R514) -/

theorem selftestStepDone_exec {step failed : Nat} {s : State} (hs : s.dev.state = .selftest) (hf : s.dev.selfFatal = false)
    (hstep : step = s.dev.selfStep + 1) (h9 : step ≤ 9) :
    exec (.selftestStepDone step failed) s = .next (sealed s (selftestStep s step failed)) := by
  have hcond : s.dev.state = .selftest ∧ ¬ s.dev.selfFatal = true ∧ step = s.dev.selfStep + 1 ∧ step ≤ 9 := ⟨hs, by simp [hf], hstep, h9⟩
  change execSelftestStepDone step failed s = _
  rw [execSelftestStepDone, if_pos hcond]
  rfl

theorem selftestStep_passes {step : Nat} (h : step = 2 ∨ step = 4 ∨ step = 6 ∨ step = 7) (s : State) :
    selftestStep s step 0 = { s with dev := { s.dev with selfStep := step } } := by
  rcases h with rfl | rfl | rfl | rfl <;> rfl

/-- A failure of step 4, PLL lock, is fatal. -/
theorem selftestStep_pll {failed : Nat} (h : failed ≠ 0) (s : State) : selftestStep s 4 failed =
    let u := ({ s with dev := { s.dev with selfStep := 4 } } : State).setObjN Obj.SELFTEST_RESULT 0
      (s.objN Obj.SELFTEST_RESULT 0 ||| 4)
    let u := ({ u with dev := { u.dev with selfFatal := true } } : State).fault .selftest
    raiseA u 0x1005 [.word (u.obj Obj.SELFTEST_RESULT 0)] := by
  simp [selftestStep, h, selftestFail, selftestBit]
  rfl

theorem mem_fault (s : State) (c : FaultCause) : c ∈ (s.fault c).dev.faults := by
  unfold State.fault
  split
  · assumption
  · simp

theorem fault_dev (s : State) (c : FaultCause) : (s.fault c).dev = { s.dev with faults := (s.fault c).dev.faults } := by
  unfold State.fault
  split <;> rfl

/-! ### The park application (R520) -/

/-- The end of the start of a park ramp: the device is PARKED and what waited for it is answered. -/
def parkEntered (v : State) (p : ParkRun) (was : DevState) : State :=
  let u := dropIdleWraps { v with dev := { v.dev with park := none, parkRamp := true, loopsDue := false } }
  let u := raiseA (u.setObjN Obj.PARK_SOURCE 0 p.source) 0x1008 [.word p.source, .word p.slot]
  let u := ((u.enter .parked).unfault .thermalStop).unfault .noPredecessor
  let u := if was = .selftest ∧ u.obj Obj.RESET_CAUSE 0 ≠ 3 then u.setObjN Obj.BOOT_TIME 0 (u.tick / 156250) else u
  settleOwed (settleOwed u .park (.ack [])) .resume (.ack [])

theorem parkStart_eq {s : State} {p : ParkRun} (h : s.dev.park = some p) : ∃ v, parkStart s = parkEntered v p s.dev.state := by
  unfold parkStart
  rw [h]
  exact ⟨_, rfl⟩

theorem parkEntered_dev (v : State) (p : ParkRun) (was : DevState) : (parkEntered v p was).dev.state = .parked ∧
    (parkEntered v p was).dev.parkRamp = true ∧ (parkEntered v p was).dev.park = none := by
  have hif : ∀ (c : Prop) [Decidable c] (u : State) n, (if c then u.setObjN Obj.BOOT_TIME 0 n else u).dev = u.dev := fun c _ u n => by
    split <;> rfl
  unfold parkEntered
  extract_lets d u u1 u2 u3
  obtain ⟨hdev, -⟩ : Held { v with dev := { v.dev with park := none, parkRamp := true, loopsDue := false } } u := dropIdleWraps_held _
  have hu1 : u1.dev = u.dev := raiseA_dev _ _ _
  have hu2 : u2.dev.state = .parked ∧ u2.dev.parkRamp = true ∧ u2.dev.park = none := by
    simp only [u2, State.unfault, enter_dev, hu1]
    rw [hdev]
    trivial
  rwa [settleOwed_dev, settleOwed_dev, hif]

theorem chooseParkImage_park (s : State) :
    ∃ p, (chooseParkImage s).dev.park = some p ∧ p.slot = s.objN Obj.PARK_SLOT 0 := by
  unfold chooseParkImage
  exact ⟨_, rfl, rfl⟩

theorem parkRequest_underway {s : State} (h : s.dev.park = none) : parkUnderway s (parkRequest s) := by
  have htick : (chooseParkImage s).tick = s.tick := (chooseParkImage_frame s).tick rfl
  obtain ⟨p, hp, hslot⟩ := chooseParkImage_park s
  unfold parkRequest
  simp only [h, Option.isSome_none, Bool.false_eq_true, if_false, htick]
  refine ⟨fun hne => ?_, fun he => ?_⟩
  · rw [if_neg hne]
    exact ⟨p, hp, hslot⟩
  · obtain ⟨v, hv⟩ := parkStart_eq hp
    rw [if_pos he, hv]
    exact parkEntered_dev v p _

/-- Being under way says no more of the states than their device records, tick and PARK_SLOT. -/
theorem parkUnderway_congr {s s' t t' : State} (h : parkUnderway s t) (htick : s'.tick = s.tick)
    (hslot : s'.objN Obj.PARK_SLOT 0 = s.objN Obj.PARK_SLOT 0) (hdev : t'.dev = t.dev) : parkUnderway s' t' := by
  unfold parkUnderway at *
  rwa [htick, hslot, hdev]

theorem selftestDone_parks {s : State} (hs : s.dev.state = .selftest) (hf : s.dev.selfFatal = false) (h9 : s.dev.selfStep = 9)
    (hp : s.dev.park = none) : ∃ t, exec .selftestDone s = .next t ∧ parkUnderway s t := by
  have hcond : s.dev.state = .selftest ∧ ¬ s.dev.selfFatal = true ∧ s.dev.selfStep = 9 := ⟨hs, by simp [hf], h9⟩
  refine ⟨sealed s (parkRequest s), ?_, parkUnderway_congr (parkRequest_underway hp) rfl rfl rfl⟩
  change execSelftestDone s = _
  rw [execSelftestDone, if_pos hcond]
  rfl

theorem parkRampEnd_ends {s : State} (hr : s.dev.parkRamp = true) (hm : s.fastMoves = false) :
    ∃ t, exec .parkRampEnd s = .next t ∧ t.dev.parkRamp = false ∧ t.dev.loopsDue = true := by
  have hcond : s.dev.parkRamp = true ∧ ¬ s.fastMoves = true := ⟨hr, by simp [hm]⟩
  have hrun : exec .parkRampEnd s = .next (sealed s
      (releaseGrant { s with dev := { s.dev with parkRamp := false, loopsDue := true } } .commit parkSource)) := by
    change execParkRampEnd s = _
    rw [execParkRampEnd, if_pos hcond]
    rfl
  obtain ⟨hdev, -⟩ := releaseGrant_held { s with dev := { s.dev with parkRamp := false, loopsDue := true } } .commit parkSource
  refine ⟨_, hrun, ?_, ?_⟩ <;> rw [sealed_dev, hdev]

/-- Settles O12: the two ends of a step, and the park application by the stages of its start. -/
theorem selfTestAndPark : Obligations.SelfTestAndPark := by
  unfold Obligations.SelfTestAndPark
  refine ⟨fun step s hs hf hstep hpass => ?passes, fun failed s hs hf hstep hfail => ?fails,
    fun s hs hf h9 hp => selftestDone_parks hs hf h9 hp, fun s hr hm => parkRampEnd_ends hr hm⟩
  case passes =>
    exact ⟨_, selftestStepDone_exec hs hf hstep (by omega), by rw [selftestStep_passes hpass]; exact ⟨rfl, rfl⟩⟩
  case fails =>
    refine ⟨_, selftestStepDone_exec hs hf (by rw [hstep]) (by decide), ?_⟩
    rw [selftestStep_pll hfail]
    extract_lets d u d' v
    have hv : v.dev = { d' with selfFatal := true, faults := v.dev.faults } := fault_dev _ _
    have hobjs : v.objs = u.objs := (State.fault_frame _ _).objs rfl
    rw [sealed_dev, raiseA_dev, hv]
    refine ⟨rfl, rfl, mem_fault _ _, objN_eq ?_⟩
    rw [obj_of_objs (sealed_objs _ _), raiseA_obj (by decide), obj_of_objs hobjs]
    exact obj_setObjN _ _ _ _

end Sys2Proof.Proofs

/-!
SUPPORT. The operations by which the device leaves service: what they leave of the objects and of the drive record.
-/

namespace Sys2Proof.Proofs

open Sys2Proof Sys2Proof.Machine Sys2Proof.Laws

/-! ### The drive record but for channels and banks -/

/-- From the first state to the second the drive record changes in its channels and banks alone. -/
def LanesOnly (s t : State) : Prop := t.drv = { s.drv with chans := t.drv.chans, banks := t.drv.banks }

section

variable {s t u : State}

theorem LanesOnly.refl (s : State) : LanesOnly s s := rfl

theorem LanesOnly.trans (h : LanesOnly s t) (k : LanesOnly t u) : LanesOnly s u := by
  unfold LanesOnly at *
  rw [k, h]

theorem LanesOnly.frame {c : List Comp} (k : Frame c t u) (hc : c.contains .drv = false) (h : LanesOnly s t) : LanesOnly s u :=
  h.trans (by rw [LanesOnly, k.drv hc])

theorem LanesOnly.of_drv (h : t.drv = s.drv) : LanesOnly s t := by rw [LanesOnly, h]

theorem LanesOnly.setChan {n : Nat} {c : Chan} (h : LanesOnly s t) : LanesOnly s (t.setChan n c) := h.trans rfl

theorem LanesOnly.setBank {n : Nat} {x : Bank} (h : LanesOnly s t) : LanesOnly s (t.setBank n x) := h.trans rfl

theorem LanesOnly.ite {p : Prop} [Decidable p] (h : LanesOnly s t) (k : LanesOnly s u) : LanesOnly s (if p then t else u) := by
  split <;> assumption

end

theorem laneHome_lanesOnly (s : State) (u : Nat) : LanesOnly s (laneHome s u) := by
  unfold laneHome
  extract_lets b c t
  split
  · exact .setChan (.setBank (.of_drv rfl))
  · exact .of_drv rfl

theorem returnLane_lanesOnly (s : State) (u : Nat) : LanesOnly s (returnLane s u) := by
  unfold returnLane
  exact .ite (laneHome_lanesOnly s u) (.ite (.refl s) (.setChan (.refl s)))

theorem returnBack_lanesOnly (s : State) (now : Bool) : LanesOnly s (returnBack s now) := by
  unfold returnBack
  split
  · exact .ite (laneHome_lanesOnly _ _) (.ite (.refl s) (returnLane_lanesOnly _ _))
  · exact .refl s

/-- A run cut short as the device leaves service puts no code back. -/
theorem stopCal_lanesOnly (s : State) : LanesOnly s (stopCal s) := by
  unfold stopCal abortCal
  split
  · exact .refl s
  next r _ =>
    refine .ite (.refl s) ?_
    conv => zeta
    rw [if_neg (by decide)]
    exact .frame (endCal_frame _ _ _ _ _) (by decide)
      ((LanesOnly.frame (returnLanes_frame s r) (by decide) (.refl s)).trans (returnBack_lanesOnly _ _))

/-- The device in FAULT_HOLD before its loops open and its commits and commands end. -/
def holdEntered (s : State) (cause : HoldCause) : State :=
  let u := ({ s with dev := { s.dev with cause := cause, heldFrom := s.dev.state } } : State).enter .faultHold
  { u with dev := { u.dev with draining := none, park := none, parkRamp := false, loopsDue := false } }

theorem holdEntered_frame (s : State) (cause : HoldCause) : Frame [.objs, .dev, .ex, .sorus] s (holdEntered s cause) :=
  .set_dev (by decide) (.step (State.enter_frame _ _) (by decide) (.set_dev (by decide) (.refl s)))

theorem enterHold_eq {s : State} (hoff : s.dev.state ≠ .off) (hhold : s.dev.state ≠ .faultHold) (cause : HoldCause) :
    enterHold s cause = refuseCommands (abandonAll (openAll (stopCal (holdEntered s cause)))) := by
  unfold enterHold
  split
  next h => exact absurd h hoff
  next h => exact absurd h hhold
  next => rfl

theorem enterHold_lanesOnly (s : State) (cause : HoldCause) : LanesOnly s (enterHold s cause) := by
  by_cases hoff : s.dev.state = .off
  · simp only [enterHold, hoff]
    exact .refl s
  by_cases hhold : s.dev.state = .faultHold
  · simp only [enterHold, hhold]
    exact .ite (.of_drv rfl) (.refl s)
  · rw [enterHold_eq hoff hhold]
    exact .frame (refuseCommands_frame _) (by decide) (.frame (abandonAll_frame _) (by decide) (.frame (openAll_frame _) (by decide)
      ((LanesOnly.frame (holdEntered_frame s cause) (by decide) (.refl s)).trans (stopCal_lanesOnly _))))

/-! ### The objects -/

/-- What the end of a calibration run changes. -/
def calEndObjs : List Nat :=
  [Obj.CAL_LAST_SEQ, Obj.CAL_LAST_STATUS, Obj.CAL_LAST_QUALITY, Obj.CAL_LAST_FLAGS] ++ steadyObjs

theorem endCal_objs (s : State) (r : CalReq) (status : Nat) (quality : Int) (flags : Nat) :
    ObjsOnly calEndObjs s (endCal s r status quality flags) := by
  unfold endCal
  refine .step (releaseGrant_objs _ _ _) (by decide) (.step (withdraw_objs _ _ _) (by decide) (.raiseA (by decide) ?_))
  exact .setObjN (by decide) (.setObj (by decide) (.setObjN (by decide) (.setObjN (by decide) (.set_cal (.refl s)))))

/-- What the lane, the inputs and the coefficients given back change. -/
def returnObjs : List Nat := [Obj.CONV_OFFSET, Obj.CONV_GAIN, Obj.DP_GEN]

theorem returnLanes_objs (s : State) (r : CalRun) : ObjsOnly returnObjs s (returnLanes s r) := by
  have hcoef : ∀ {u v a b x}, a ∈ returnObjs → ObjsOnly returnObjs u v → ObjsOnly returnObjs u (setCoef v a b x) := fun ha h =>
    .setObj ha (.frame (keepCoef_frame _ _ _) (by decide) h)
  have hlend : ObjsOnly returnObjs s (lendBack s r) := by
    unfold lendBack
    split
    · exact .set_cal (.refl s)
    · exact .refl s
  have hconv : ∀ u cv c, ObjsOnly returnObjs s u → ObjsOnly returnObjs s (returnConv u cv c) := fun u cv c h =>
    .setObjN (by decide) (hcoef (by decide) (hcoef (by decide) (h.trans fun _ _ _ => rfl)))
  have hfocus : ∀ u, ObjsOnly returnObjs s u → ObjsOnly returnObjs s (returnFocus u r) := fun u h => by
    unfold returnFocus
    split
    · exact h
    · exact h.trans fun _ _ _ => rfl
  have hback : ObjsOnly returnObjs s (match r.coefs with | some c => returnConv (lendBack s r) r.item c | none => lendBack s r) := by
    split
    · exact hconv _ _ _ hlend
    · exact hlend
  exact .ite (hfocus _ hback) hback

/-- What leaving service changes. -/
def stopObjs : List Nat := Obj.COMMITS_ABANDONED :: (returnObjs ++ calEndObjs)

theorem stopCal_objs (s : State) : ObjsOnly stopObjs s (stopCal s) := by
  unfold stopCal abortCal
  split
  · exact .refl s
  next r _ =>
    refine .ite (.refl s) ?_
    conv => zeta
    rw [if_neg (by decide)]
    exact .step (endCal_objs _ _ _ _ _) (by decide) (.frame (returnBack_frame _ _) (by decide)
      ((returnLanes_objs s r).mono (by decide)))

theorem refuseAllHeld_objs (s : State) : ObjsOnly steadyObjs s (refuseAllHeld s) :=
  .foldl (fun s h => refuseHeld_objs s h .state) (.refl s)

theorem abandonAll_objs (s : State) : ObjsOnly abandonObjs s (abandonAll s) :=
  .foldl (fun s c => abandon_objs s c .deviceState) ((refuseAllHeld_objs s).mono (by decide))

theorem settleOwed_objs (s : State) (k : OwedKind) (r : Reply) : ObjsOnly eventObjs s (settleOwed s k r) := by
  unfold settleOwed
  extract_lets due u
  exact .foldl (fun s o => .trans (.kept (answer_objs s _ _ _ _ _) (by decide) (.refl s)) (closeIfSpent_objs _ _)) (.set_ex (.refl s))

theorem refuseCommands_objs (s : State) : ObjsOnly eventObjs s (refuseCommands s) :=
  ((settleOwed_objs _ _ _).trans (settleOwed_objs _ _ _)).trans (settleOwed_objs _ _ _)

theorem enter_objs (s : State) (d : DevState) : ObjsOnly eventObjs s (s.enter d) := .raiseA (by decide) (.set_dev (.refl s))

theorem enterHold_objs (s : State) (cause : HoldCause) : ObjsOnly stopObjs s (enterHold s cause) := by
  by_cases hoff : s.dev.state = .off
  · simp only [enterHold, hoff]
    exact .refl s
  by_cases hhold : s.dev.state = .faultHold
  · simp only [enterHold, hhold]
    exact .ite (.set_dev (.refl s)) (.refl s)
  · have hentered : ObjsOnly eventObjs s (holdEntered s cause) := .set_dev ((ObjsOnly.set_dev (.refl s)).trans (enter_objs _ _))
    rw [enterHold_eq hoff hhold]
    exact .step (refuseCommands_objs _) (by decide) (.step (abandonAll_objs _) (by decide) (.frame (openAll_frame _) (by decide)
      (.trans (hentered.mono (by decide)) (stopCal_objs _))))

/-! ### The device record -/

theorem holdEntered_dev (s : State) (cause : HoldCause) : (holdEntered s cause).dev =
    { s.dev with cause := cause, heldFrom := s.dev.state, state := .faultHold, since := s.now, draining := none, park := none,
                 parkRamp := false, loopsDue := false } := by
  simp only [holdEntered, enter_dev]
  rfl

/-- After the entry to FAULT_HOLD the device record is as it was there but for more causes of FAULT_N. -/
theorem enterHold_held {s : State} (hoff : s.dev.state ≠ .off) (hhold : s.dev.state ≠ .faultHold) (cause : HoldCause) :
    Held (holdEntered s cause) (enterHold s cause) := by
  rw [enterHold_eq hoff hhold]
  exact .frame (refuseCommands_frame _) (by decide) (.step (abandonAll_held _) (.frame (openAll_frame _) (by decide) (stopCal_held _)))

theorem enterHold_dev {s : State} (hoff : s.dev.state ≠ .off) (hhold : s.dev.state ≠ .faultHold) (cause : HoldCause) :
    (enterHold s cause).dev.state = .faultHold ∧ (enterHold s cause).dev.cause = cause ∧
      (enterHold s cause).dev.heldFrom = s.dev.state ∧ (enterHold s cause).dev.refclkLost = s.dev.refclkLost ∧
      ∀ c ∈ s.dev.faults, c ∈ (enterHold s cause).dev.faults := by
  obtain ⟨hdev, hfaults⟩ := enterHold_held hoff hhold cause
  rw [holdEntered_dev] at hdev hfaults
  rw [hdev]
  exact ⟨rfl, rfl, rfl, rfl, hfaults⟩

end Sys2Proof.Proofs

/-!
SUPPORT. The proofs of rails and the clock (spec/18_lifecycle.md, Rails, PGOOD_IN and RESET_N; Device states).
-/

namespace Sys2Proof.Proofs

open Sys2Proof Sys2Proof.Machine Sys2Proof.Laws

/-! ### Rail faults (R510, R68, R202) -/

/-- The state in which a rail fault is reported, before the device enters FAULT_HOLD. -/
def railNoted (rail mv : Nat) (s : State) : State :=
  let u := (s.setObjN Obj.RAIL_STATE rail (if mv < (railWindow rail).1 then 1 else 2)).setObjN Obj.RAIL_VOLTAGE rail mv
  let u := if mv = 0 then { u with drv := railAbsent rail u.drv } else u
  raiseS (u.fault (.rail rail)) 0x1006 [.word rail, .word mv]

theorem railFault_exec {rail mv : Nat} {s : State} (hr : rail < 7) (hmv : mv < (railWindow rail).1 ∨ (railWindow rail).2 < mv)
    (hs : s.dev.state ≠ .off) : exec (.railFault rail mv) s = .next (sealed s (enterHold (railNoted rail mv s) .rail)) := by
  have hcond : rail < 7 ∧ (mv < (railWindow rail).1 ∨ (railWindow rail).2 < mv) ∧ s.dev.state ≠ .off := ⟨hr, hmv, hs⟩
  change execRailFault rail mv s = _
  simp only [execRailFault, if_pos hcond]
  rfl

theorem railNoted_dev (rail mv : Nat) (s : State) :
    (railNoted rail mv s).dev = { s.dev with faults := (s.fault (.rail rail)).dev.faults } := by
  have hif : ∀ (p : Prop) [Decidable p] (u : State) d, (if p then { u with drv := d } else u).dev = u.dev := fun p _ u d => by
    split <;> rfl
  have hfault : ∀ u : State, u.dev = s.dev → (u.fault (.rail rail)).dev = (s.fault (.rail rail)).dev := fun u h => by
    unfold State.fault
    rw [h]
    split
    · exact h
    · rfl
  unfold railNoted
  extract_lets u v
  rw [raiseS_dev, hfault v (hif _ _ _), fault_dev]

theorem railNoted_obj (rail mv : Nat) (s : State) : (railNoted rail mv s).objN Obj.RAIL_VOLTAGE rail = mv ∧
    (railNoted rail mv s).objN Obj.RAIL_STATE rail = if mv < (railWindow rail).1 then 1 else 2 := by
  have hif : ∀ (p : Prop) [Decidable p] (u : State) d, (if p then { u with drv := d } else u).objs = u.objs := fun p _ u d => by
    split <;> rfl
  have hnoted : ∀ a b, a ≠ Obj.RING_DROPPED → (railNoted rail mv s).obj a b = ((s.setObjN Obj.RAIL_STATE rail
      (if mv < (railWindow rail).1 then 1 else 2)).setObjN Obj.RAIL_VOLTAGE rail mv).obj a b := fun a b ha => by
    unfold railNoted
    extract_lets u v
    rw [raiseS_obj ha, obj_of_objs ((State.fault_frame v _).objs rfl), obj_of_objs (hif _ _ _)]
  constructor
  · exact objN_eq ((hnoted _ _ (by decide)).trans (obj_setObjN _ _ _ _))
  · refine objN_eq ((hnoted _ _ (by decide)).trans ?_)
    rw [obj_setObjN_other _ (by simp), obj_setObjN]

/-- A rail that reads 0 mV is absent. -/
theorem railNoted_drv (rail : Nat) (s : State) : (railNoted rail 0 s).drv = railAbsent rail s.drv := by
  unfold railNoted
  rw [raiseS_drv, (State.fault_frame _ _).drv rfl]
  rfl

theorem railAbsent_flags {rail : Nat} (d : Drive) :
    ((rail = 0 ∨ rail = 4 ∨ rail = 5) → (railAbsent rail d).fastOff = true ∧ (railAbsent rail d).heatersOff = true) ∧
      ((rail = 0 ∨ rail = 6) → (railAbsent rail d).privOff = true) := by
  constructor
  · rintro (rfl | rfl | rfl) <;> simp [railAbsent]
  · rintro (rfl | rfl) <;> simp [railAbsent]

/-- 0 mV is below every window. -/
theorem zero_lt_railWindow (rail : Nat) : 0 < (railWindow rail).1 := by
  unfold railWindow
  split <;> decide

/-! ### Loss and return of REFCLK (R33, R425, R518) -/

/-- The state in which the loss of the clock is reported. -/
def clockLost (s : State) : State :=
  let u : State := { s with dev := { s.dev with refclkLost := true, refclkBack := none } }
  raiseS (u.fault .refclk) 0x1001 [.word (u.scan % (u32Max + 1))]

theorem clockLost_dev (s : State) : ∃ l, FaultCause.refclk ∈ l ∧
    (clockLost s).dev = { s.dev with refclkLost := true, refclkBack := none, faults := l } := by
  refine ⟨_, mem_fault { s with dev := { s.dev with refclkLost := true, refclkBack := none } } _, ?_⟩
  unfold clockLost
  rw [raiseS_dev, fault_dev]

theorem refclkLost_exec {s : State} (hl : s.dev.refclkLost = false) (hoff : s.dev.state ≠ .off) (hhold : s.dev.state ≠ .faultHold) :
    exec .refclkLost s = .next (sealed s (enterHold (clockLost s) .refclk)) := by
  obtain ⟨_, _, hdev⟩ := clockLost_dev s
  have hstate : (clockLost s).dev.state ≠ .faultHold := by rwa [hdev]
  have hlost : ¬ s.dev.refclkLost = true := by simp [hl]
  change execRefclkLost s = _
  have hrun : execRefclkLost s = finish s (if (clockLost s).dev.state = .faultHold then clockLost s else enterHold (clockLost s) .refclk) := by
    unfold execRefclkLost
    rw [if_neg hlost]
    conv => zeta
    rw [if_neg hoff]
    rfl
  rw [hrun, if_neg hstate]
  rfl

theorem setServo_servo (s : State) (v : Servo) : (setServo s v).time.servo = v := by
  unfold setServo
  extract_lets old u
  split
  · assumption
  · rw [raiseA_time]
    rfl

theorem refclkReturns_exec {s : State} (hl : s.dev.refclkLost = true) (hoff : s.dev.state ≠ .off) :
    exec .refclkReturns s = .next (sealed s
      (let u := releaseWrites { s with dev := { s.dev with refclkLost := false, refclkBack := some s.tick } }
       if u.time.servo = .locked then setServo u .tracking else u)) := by
  change execRefclkReturns s = _
  unfold execRefclkReturns
  rw [if_pos hl]
  conv => zeta
  rw [if_neg hoff]
  rfl

theorem refclkReturns_ticks {s : State} (hl : s.dev.refclkLost = true) (hoff : s.dev.state ≠ .off) :
    ∃ t, exec .refclkReturns s = .next t ∧ t.dev.refclkLost = false ∧ t.dev.refclkBack = some s.tick ∧
      t.time.servo = if s.time.servo = .locked then .tracking else s.time.servo := by
  refine ⟨_, refclkReturns_exec hl hoff, ?_⟩
  extract_lets d u
  have hdev : u.dev = { s.dev with refclkLost := false, refclkBack := some s.tick } := (releaseWrites_frame _).dev rfl
  have htime : u.time = s.time := (releaseWrites_frame _).time rfl
  rw [sealed_dev, sealed_time, htime]
  split
  · rw [(setServo_frame u .tracking).dev rfl, hdev, setServo_servo]
    exact ⟨rfl, rfl, rfl⟩
  · rw [hdev, htime]
    exact ⟨rfl, rfl, rfl⟩

/-- The device goes back to where the loss of the clock found it. -/
theorem refclkReturn_dev {s : State} (h : s.dev.heldFrom = .parked ∨ s.dev.heldFrom = .service) :
    (refclkReturn s).dev.state = s.dev.heldFrom ∧ (refclkReturn s).dev.cause = .none ∧
      (refclkReturn s).dev.refclkBack = s.dev.refclkBack := by
  have hfold : ∀ (d : DevState), let u := ({ s with dev := { s.dev with cause := .none } } : State).enter d
      let v := u.loops.elems.foldl (fun s e => refclkElem s e.1) u
      let w := v.loops.voas.foldl (fun s v =>
        if v.2.state = .disabled then s else s.setVoa v.1 { v.2 with state := .locked, fresh := false }) v
      Held u (dropIdleWraps w) := fun d => by
    extract_lets _ u v w
    have hv : Held u v := .foldl (fun s e => .frame (refclkElem_frame s e.1) (by decide) (.refl s)) (.refl u)
    have hw : Held u w := hv.trans (.foldl (fun s x => .ite (.refl s) (.frame (State.setVoa_frame _ _ _) (by decide) (.refl s))) (.refl v))
    exact hw.trans (dropIdleWraps_held w)
  have hdev : ∀ d w, Held (({ s with dev := { s.dev with cause := .none } } : State).enter d) w →
      w.dev.state = d ∧ w.dev.cause = .none ∧ w.dev.refclkBack = s.dev.refclkBack := fun d w hw => by
    obtain ⟨he, -⟩ := hw
    rw [he, enter_dev]
    exact ⟨rfl, rfl, rfl⟩
  unfold refclkReturn
  rcases h with h | h
  all_goals
    rw [h]
    exact hdev _ _ (hfold _)

theorem refclkRestored_exec {lossNs t0 : Nat} {s : State} (hb : s.dev.refclkBack = some t0)
    (ht : s.elapsed t0 (1000000 * s.objN Obj.REFCLK_RESTORE_TIME 0) = true) (hscan : s.tick % 256 = 0)
    (hs : s.dev.state = .faultHold) (hc : s.dev.cause = .refclk) :
    exec (.refclkRestored lossNs) s = .next (sealed s (refclkReturn
      (raiseS (({ s with dev := { s.dev with refclkBack := none } } : State).unfault .refclk) 0x1002 [.word (min u32Max lossNs)]))) := by
  have hhold : ∀ u : State, u.dev.state = s.dev.state → u.dev.cause = s.dev.cause → (u.dev.state = .faultHold ∧ u.dev.cause = .refclk) :=
    fun u h k => ⟨h.trans hs, k.trans hc⟩
  change execRefclkRestored lossNs s = _
  unfold execRefclkRestored
  rw [hb]
  conv => zeta
  simp only [if_pos (And.intro ht hscan)]
  rw [if_pos (hhold _ (by rw [raiseS_dev]; rfl) (by rw [raiseS_dev]; rfl))]
  rfl

/-- Settles O13: what is noted before the entry to FAULT_HOLD, and what that entry keeps. -/
theorem supplyAndClockFaults : Obligations.SupplyAndClockFaults := by
  unfold Obligations.SupplyAndClockFaults
  refine ⟨fun rail mv s hr hmv hoff hhold => ?rail, fun rail s hr hoff => ?absent, fun s hl hoff hhold => ?lost,
    fun s hl hoff => refclkReturns_ticks hl hoff, fun lossNs t0 s hb ht hscan hs hc hfrom => ?restored⟩
  case rail =>
    have hdev := railNoted_dev rail mv s
    obtain ⟨hvolt, hstate⟩ := railNoted_obj rail mv s
    obtain ⟨h1, h2, h3, -, h5⟩ := enterHold_dev (s := railNoted rail mv s) (by rwa [hdev]) (by rwa [hdev]) .rail
    have hobj := enterHold_objs (railNoted rail mv s) .rail
    rw [hdev] at h3 h5
    refine ⟨_, railFault_exec hr hmv hoff, h1, h2, h3, h5 _ (mem_fault s _), ?_, ?_⟩
    · exact (congrArg Int.toNat (hobj _ _ (by decide))).trans hvolt
    · exact (congrArg Int.toNat (hobj _ _ (by decide))).trans hstate
  case absent =>
    have hlow : 0 < (railWindow rail).1 ∨ (railWindow rail).2 < 0 := .inl (zero_lt_railWindow rail)
    have hdrv : LanesOnly (railNoted rail 0 s) (enterHold (railNoted rail 0 s) .rail) := enterHold_lanesOnly _ _
    obtain ⟨hfast, hpriv⟩ := railAbsent_flags (rail := rail) s.drv
    refine ⟨_, railFault_exec hr hlow hoff, ?_, ?_⟩
    all_goals rw [sealed_drv, hdrv, railNoted_drv]; assumption
  case lost =>
    obtain ⟨l, hl', hdev⟩ := clockLost_dev s
    obtain ⟨h1, h2, h3, h4, h5⟩ := enterHold_dev (s := clockLost s) (by rwa [hdev]) (by rwa [hdev]) .refclk
    rw [hdev] at h3 h4 h5
    exact ⟨_, refclkLost_exec hl hoff hhold, h4, h1, h2, h3, h5 _ hl'⟩
  case restored =>
    refine ⟨_, refclkRestored_exec hb ht hscan hs hc, ?_⟩
    have := refclkReturn_dev (s := raiseS (({ s with dev := { s.dev with refclkBack := none } } : State).unfault .refclk) 0x1002
      [.word (min u32Max lossNs)]) (by rwa [raiseS_dev])
    rwa [raiseS_dev] at this

end Sys2Proof.Proofs

/-!
SUPPORT. The proofs of the device commands and the resets they ask for (spec/18_lifecycle.md, Device states, Resets).
-/

namespace Sys2Proof.Proofs

open Sys2Proof Sys2Proof.Machine Sys2Proof.Laws

/-! ### PARK and RESUME (R516, R520) -/

/-- A command that waits for a park application begins one. -/
theorem parkOwed_owe {s : State} {k : OwedKind} (h : k = .park ∨ k = .resume) (hp : s.dev.park = none) (sess addr sel : Nat) :
    parkUnderway s (parkOwed (s.owe k sess 0 addr sel)) := by
  have howed : ((s.owe k sess 0 addr sel).ex.owed.any fun o => o.kind == .park || o.kind == .resume) = true := by
    rcases h with rfl | rfl <;> simp [State.owe]
  unfold parkOwed
  rw [if_pos howed]
  exact parkUnderway_congr (parkRequest_underway (s := s.owe k sess 0 addr sel) hp) rfl rfl rfl

/-- Noting a request's frame leaves what a park application goes by. -/
theorem parkUnderway_seen {s t : State} {sess : Nat} (h : parkUnderway (seen s sess) t) : parkUnderway s t := by
  have hs := seen_frame s sess
  refine parkUnderway_congr h (hs.tick rfl).symm ?_ rfl
  rw [State.objN, State.objN, obj_of_objs (hs.objs rfl)]

theorem calBarsPark_seen (s : State) (sess : Nat) : (seen s sess).calBarsPark = s.calBarsPark := by
  unfold State.calBarsPark
  rw [(seen_frame s sess).cal rfl]

section

variable {s : State} {sess : Nat}

theorem park_underway (h : s.accepts sess Obj.DEVICE_COMMAND 0 1 = true) (hs : s.dev.state = .service) (hlive : s.com.live = [])
    (hcal : s.calBarsPark = false) (hp : s.dev.park = none) : ∃ t, exec (.park sess) s = .next t ∧ parkUnderway s t := by
  have hseen := seen_frame s sess
  have heff : effPark (seen s sess) = (seen s sess, .owe .park) := by
    simp [effPark, hseen.dev rfl, hseen.com rfl, hs, hlive, calBarsPark_seen, hcal]
  have hpark := parkOwed_owe (s := seen s sess) (.inl rfl) (by rwa [hseen.dev rfl]) sess Obj.DEVICE_COMMAND 0
  refine ⟨_, rfl, ?_⟩
  rw [hostWrite_owe h heff]
  exact parkUnderway_congr (parkUnderway_seen hpark) rfl rfl rfl

theorem resume_underway (h : s.accepts sess Obj.DEVICE_COMMAND 0 3 = true) (hs : s.dev.state = .safe) (ht : s.therm.state < 2)
    (hp : s.dev.park = none) : ∃ t, exec (.resume sess) s = .next t ∧ parkUnderway s t := by
  have hseen := seen_frame s sess
  have heff : effResume (seen s sess) = (seen s sess, .owe .resume) := by
    simp [effResume, hseen.dev rfl, hseen.therm rfl, hs, ht]
  have hpark := parkOwed_owe (s := seen s sess) (.inr rfl) (by rwa [hseen.dev rfl]) sess Obj.DEVICE_COMMAND 0
  refine ⟨_, rfl, ?_⟩
  rw [hostWrite_owe h heff]
  exact parkUnderway_congr (parkUnderway_seen hpark) rfl rfl rfl

/-! ### DRAIN (R305) -/

/-- The device as DRAINING begins. -/
def drainEntered (s : State) : State :=
  let u := (s.enter .draining).fault .thermalStop
  { u with dev := { u.dev with draining := some u.tick, park := none } }

theorem beginDrain_held (s : State) : Held (drainEntered s) (beginDrain s) := by
  unfold beginDrain
  conv => zeta
  refine .foldl (fun s c => abandon_held s c .deviceState) (.frame (refuseAllHeld_frame _) (by decide) (.step (stopCal_held _) ?_))
  exact .frame (settleOwed_frame _ _ _) (by decide) (.refl _)

theorem beginDrain_dev (s : State) : (beginDrain s).dev.state = .draining ∧ (beginDrain s).dev.draining = some s.tick ∧
    FaultCause.thermalStop ∈ (beginDrain s).dev.faults := by
  obtain ⟨hdev, hfaults⟩ := beginDrain_held s
  have htick : ((s.enter .draining).fault .thermalStop).tick = s.tick :=
    ((State.fault_frame _ _).tick rfl).trans ((State.enter_frame _ _).tick rfl)
  have hentered : (drainEntered s).dev.state = .draining ∧ (drainEntered s).dev.draining = some s.tick := by
    refine ⟨?_, congrArg some htick⟩
    change ((s.enter .draining).fault .thermalStop).dev.state = _
    rw [fault_dev, enter_dev]
  refine ⟨?_, ?_, hfaults _ (mem_fault (s.enter .draining) .thermalStop)⟩ <;> rw [hdev]
  · exact hentered.1
  · exact hentered.2

theorem drain_drains (h : s.accepts sess Obj.DEVICE_COMMAND 0 2 = true) (hs : s.dev.state = .parked ∨ s.dev.state = .service) :
    ∃ t, exec (.drain sess) s = .next t ∧ t.dev.state = .draining ∧ t.dev.draining = some s.tick ∧
      FaultCause.thermalStop ∈ t.dev.faults := by
  have hseen := seen_frame s sess
  have heff : effDrain (seen s sess) = (beginDrain (seen s sess), .owe .drain) := if_pos (by rwa [hseen.dev rfl])
  have hdev : (hostWrite s sess Obj.DEVICE_COMMAND 0 2 effDrain).dev = (beginDrain (seen s sess)).dev := by
    rw [hostWrite_owe h heff]
    exact (State.owe_frame _ _ _ _ _ _).dev rfl
  have hdrain := beginDrain_dev (seen s sess)
  rw [← hdev, hseen.tick rfl] at hdrain
  exact ⟨sealed s (hostWrite s sess Obj.DEVICE_COMMAND 0 2 effDrain), rfl, hdrain⟩

/-! ### WARM_RESET and COLD_RESET (R516) -/

theorem effReset_seen (hr : s.ready sess = true) (hb : s.flashBusy = false) (k : ResetKind) :
    effReset k (seen s sess) = ({ seen s sess with dev := { s.dev with resetDue := some (k, s.tick) } }, .ack) := by
  have hseen := seen_frame s sess
  obtain ⟨-, -, -, -, -, ha, -, -⟩ := State.ready_iff.mp hr
  have hactive : (seen s sess).active.isNone = false := by
    rw [State.active, hseen.lobes rfl]
    exact Option.isNone_eq_false_iff.mpr ha
  have hbusy : (seen s sess).flashBusy = false := by rwa [State.flashBusy, hseen.dev rfl]
  simp [effReset, hactive, hbusy, hseen.dev rfl, hseen.tick rfl]

theorem ready_of_accepts {addr sel : Nat} {v : Int} (h : s.accepts sess addr sel v = true) : s.ready sess = true := by
  unfold State.accepts at h
  rw [Bool.and_eq_true] at h
  exact h.1

theorem hostReset_due {v : Int} (h : s.accepts sess Obj.DEVICE_COMMAND 0 v = true) (hb : s.flashBusy = false) (k : ResetKind) :
    let t := sealed s (hostWrite s sess Obj.DEVICE_COMMAND 0 v (effReset k))
    t.dev = { s.dev with resetDue := some (k, s.tick) } ∧ t.answered sess 0 Obj.DEVICE_COMMAND 0 (.ack []) ∧ Frame [.dev, .ex] s t := by
  obtain ⟨hans, hframe⟩ := hostWrite_ack h (effReset_seen (ready_of_accepts h) hb k) fun _ => id
  refine ⟨hframe.dev rfl, hans, frame_sealed (.step hframe (by decide) (.set_dev (by decide) ?_)) (by decide)⟩
  exact (seen_frame s sess).mono (by decide)

end

/-! ### The resets (R522) -/

theorem resetDelayEnd_exec {s : State} {k : ResetKind} {t0 : Nat} (hd : s.dev.resetDue = some (k, t0))
    (ht : s.elapsed t0 10000000 = true) : exec .resetDelayEnd s = .next (sealed s (resetNow s k 2)) := by
  change execResetDelayEnd s = _
  unfold execResetDelayEnd
  simp only [hd, if_pos ht]
  rfl

theorem coldReset_boots {s : State} {t0 : Nat} (hd : s.dev.resetDue = some (.cold, t0)) (ht : s.elapsed t0 10000000 = true) :
    ∃ t, exec .resetDelayEnd s = .next t ∧ t.dev.state = .boot ∧ t.tick = 0 ∧ t.hbm = [] ∧ t.dev.resetDue = none := by
  have hboot : ∀ u, resetNow s .cold 2 = u → bootStart (coldReset s 2) = u := fun _ h => h
  have hdev := bootStart_dev (coldReset s 2)
  have hhbm : (bootStart (coldReset s 2)).hbm = [] := (bootStart_frame (coldReset s 2)).hbm rfl
  have htick := bootStart_tick (coldReset s 2)
  refine ⟨_, resetDelayEnd_exec hd ht, ?_⟩
  rw [sealed_dev, sealed_tick, sealed_hbm, ← hboot _ rfl, hdev]
  exact ⟨rfl, htick, hhbm, rfl⟩


/-- Noting the banks a warm reset cuts changes neither the device, nor its drives, nor HBM. -/
theorem cutNoted_frame (l : List (Nat × SlotState)) (u : State) :
    Frame [.objs, .ex, .sorus] u (l.foldl (fun s e => raiseS s 0x2010 [.word e.1, .word 3]) u) :=
  .foldl (fun s _ => raiseS_frame s _ _) (.refl u)

/-- What a warm reset keeps: the state it begins with, before it names the reset's cause and enters BOOT. -/
theorem initResets_keep (s : State) :
    Frame [.objs, .ex, .sorus, .mat] s ((lobeInitiators 0 ++ lobeInitiators 1).foldl initReset s) :=
  .foldl (fun s i => initReset_frame s i) (.refl s)

theorem heldForGood_of_state {s : State} (hs : s.dev.state ≠ .faultHold) : s.heldForGood = false := by
  unfold State.heldForGood
  rw [decide_eq_false hs, Bool.false_and]

theorem runOutStore_idle {s : State} (h : s.dev.store = none) : runOutStore s = s := by
  simp [runOutStore, h]

/-- A warm reset with no store running keeps the drive outputs and HBM, and passes the device to BOOT unless it is held for good. -/
theorem warmReset_keeps {s : State} (hs : s.dev.state ≠ .faultHold) (hstore : s.dev.store = none) :
    (warmReset s).dev.state = .boot ∧ (warmReset s).drv = s.drv ∧ (warmReset s).hbm = s.hbm := by
  have hreset := initResets_keep s
  have hgood : ((lobeInitiators 0 ++ lobeInitiators 1).foldl initReset s).heldForGood = false :=
    heldForGood_of_state (by rwa [hreset.dev rfl])
  unfold warmReset
  rw [runOutStore_idle hstore]
  generalize (lobeInitiators 0 ++ lobeInitiators 1).foldl initReset s = u at hreset hgood ⊢
  extract_lets u0 hold cut m v w x
  have hv : Frame [.objs] m v := .step (State.setObjN_frame _ _ _ _) (by decide) (State.setObjN_frame _ _ _ _)
  have hw : Frame [.objs, .dev] v w := .step (loadLife_frame _) (by decide) ((State.setObjN_frame _ _ _ _).mono (by decide))
  have hx : x = w.enter .boot := if_neg (by simpa [hold, u0] using hgood)
  have hend := cutNoted_frame cut x
  have hboot := State.enter_frame w .boot
  rw [hend.dev rfl, hend.drv rfl, hend.hbm rfl, hx, hboot.drv rfl, hboot.hbm rfl, hw.drv rfl, hw.hbm rfl, hv.drv rfl, hv.hbm rfl]
  exact ⟨congrArg Device.state (enter_dev w .boot), hreset.drv rfl, hreset.hbm rfl⟩


theorem warmReset_boots {s : State} {t0 : Nat} (hd : s.dev.resetDue = some (.warm, t0)) (ht : s.elapsed t0 10000000 = true)
    (hs : s.dev.state ≠ .faultHold) (hstore : s.dev.store = none) :
    ∃ t, exec .resetDelayEnd s = .next t ∧ t.dev.state = .boot ∧ t.drv = s.drv ∧ sameMemory s t := by
  obtain ⟨hstate, hdrv, hhbm⟩ := warmReset_keeps hs hstore
  refine ⟨_, resetDelayEnd_exec hd ht, ?_⟩
  rw [resetNow]
  generalize warmReset s = u at hstate hdrv hhbm ⊢
  exact ⟨hstate, hdrv, fun a => congrArg (memByte · a) hhbm⟩

/-- Settles O14: what each device command begins, and what the reset it asks for leaves. -/
theorem deviceCommands : Obligations.DeviceCommands := by
  unfold Obligations.DeviceCommands
  refine ⟨fun _ _ => park_underway, fun _ _ => resume_underway, fun _ _ => drain_drains, fun _ s h hb => ⟨_, rfl, hostReset_due h hb .warm⟩,
    fun _ s h hb => ⟨_, rfl, hostReset_due h hb .cold⟩, fun _ _ => coldReset_boots, fun _ _ => warmReset_boots⟩

end Sys2Proof.Proofs

/-!
SUPPORT. The proofs of the flash stores: how they begin, go on and end (spec/18_lifecycle.md, Stored regions and power loss).
-/

namespace Sys2Proof.Proofs

open Sys2Proof Sys2Proof.Machine Sys2Proof.Laws

/-! ### What beginning a store changes of the device's record -/

/-- Of the device's record, at most the store that runs, the stores that wait and the generation of the stored calibration differ. -/
def StoresOnly (s t : State) : Prop :=
  t.dev = { s.dev with store := t.dev.store, storeQueue := t.dev.storeQueue, flash := { s.dev.flash with calGen := t.dev.flash.calGen } }

theorem StoresOnly.refl (s : State) : StoresOnly s s := rfl

theorem StoresOnly.trans {s t u : State} (h : StoresOnly s t) (h' : StoresOnly t u) : StoresOnly s u := by
  unfold StoresOnly at *
  rw [h', h]

theorem StoresOnly.of_dev {s t : State} (h : t.dev = s.dev) : StoresOnly s t := by
  unfold StoresOnly
  rw [h]

theorem calStored_dev (s : State) :
    (calStored s).dev = { s.dev with flash := { s.dev.flash with calGen := s.objN Obj.CAL_GEN 0 } } := by
  unfold calStored
  rw [raiseA_dev]
  rfl

/-- Beginning a store leaves alone those that wait. -/
theorem startStore_dev (s : State) (k : StoreKind) : ∃ st gen,
    (startStore s k).dev = { s.dev with store := st, flash := { s.dev.flash with calGen := gen } } := by
  unfold startStore
  extract_lets l c u
  have hu : u.dev = s.dev := by
    simp only [u]
    split <;> rfl
  split
  · split
    · exact ⟨s.dev.store, _, (calStored_dev u).trans (by rw [hu])⟩
    · exact ⟨s.dev.store, s.dev.flash.calGen, hu⟩
  · exact ⟨some ⟨k, l⟩, s.dev.flash.calGen, congrArg (fun d : Device => { d with store := some ⟨k, l⟩ }) hu⟩

theorem startStore_stores (s : State) (k : StoreKind) : StoresOnly s (startStore s k) := by
  obtain ⟨st, gen, h⟩ := startStore_dev s k
  unfold StoresOnly
  rw [h]

theorem startStore_queue (s : State) (k : StoreKind) : (startStore s k).dev.storeQueue = s.dev.storeQueue := by
  obtain ⟨st, gen, h⟩ := startStore_dev s k
  rw [h]

theorem pumpStores_stores (s : State) : StoresOnly s (pumpStores s) := by
  unfold pumpStores
  split
  · split
    · exact .trans (t := { s with dev := { s.dev with storeQueue := _ } }) rfl (startStore_stores _ _)
    · exact .refl s
  · exact .refl s

theorem notePostponed_dev (s : State) : (notePostponed s).dev = s.dev := by
  unfold notePostponed
  split
  · rfl
  · exact raiseA_dev _ _ _

theorem autoStore_stores (s : State) (k : StoreKind) : StoresOnly s (autoStore s k) := by
  unfold autoStore
  split
  · exact .refl s
  · refine .trans ?_ (.of_dev (notePostponed_dev _))
    exact .trans (t := { s with dev := { s.dev with storeQueue := _ } }) rfl (pumpStores_stores _)

/-! ### Beginning a store -/

theorem startStore_runs {s : State} {k : StoreKind} (hk : k ≠ .calibration) (h : s.storeRegions k ≠ []) :
    startStore s k = { s with dev := { s.dev with store := some { kind := k, regions := s.storeRegions k } } } := by
  simp [startStore, hk, h]

/-- A store that programs a region whatever the state. -/
def alwaysPrograms (k : StoreKind) : Prop := k ≠ .calibration ∧ ∀ s : State, s.storeRegions k ≠ []

theorem alwaysPrograms_park (slot : Option Nat) : alwaysPrograms (.park slot) := ⟨by simp, fun _ => List.cons_ne_nil _ _⟩

theorem alwaysPrograms_life : alwaysPrograms .life := ⟨by simp, fun _ => List.cons_ne_nil _ _⟩

theorem alwaysPrograms_bootRecords : alwaysPrograms .bootRecords := ⟨by simp, fun _ => List.cons_ne_nil _ _⟩

theorem storing_congr {s t : State} {k : StoreKind} (hd : t.dev = s.dev) (h : s.storing k) : t.storing k := by
  unfold State.storing at h ⊢
  rwa [hd]

/-- Where the first waiting store begins, one that waited runs or waits still. -/
theorem pumpStores_storing {s : State} {k : StoreKind} (hk : alwaysPrograms k) (hmem : k ∈ s.dev.storeQueue) :
    (pumpStores s).storing k := by
  unfold pumpStores
  split
  case h_2 => exact .inr hmem
  case h_1 j q _ hq =>
    split
    case isFalse => exact .inr hmem
    case isTrue =>
      rw [hq] at hmem
      rcases List.mem_cons.mp hmem with rfl | hwaits
      · rw [startStore_runs hk.1 (hk.2 _)]
        exact .inl ⟨_, rfl, rfl⟩
      · refine .inr ?_
        rwa [startStore_queue]

theorem autoStore_storing (s : State) {k : StoreKind} (hk : alwaysPrograms k) : (autoStore s k).storing k := by
  unfold autoStore
  split
  case isTrue h => exact .inr (List.contains_iff_mem.mp h)
  case isFalse => exact storing_congr (notePostponed_dev _) (pumpStores_storing hk (List.mem_append_right _ (List.mem_singleton_self k)))

section

variable {s : State} {sess : Nat}

theorem parkStore_stores {slot : Int} (h : s.accepts sess Obj.PARK_STORE 0 slot = true) (hf : s.flashOk = true)
    (hv : s.slotState slot.toNat = .valid) :
    ∃ t, exec (.parkStore sess slot) s = .next t ∧ t.answered sess 0 Obj.PARK_STORE 0 (.ack []) ∧
      t.storing (.park (some slot.toNat)) := by
  have hseen := seen_frame s sess
  have hflash : (seen s sess).flashOk = true := by rwa [State.flashOk, hseen.therm rfl]
  have hslot : (seen s sess).slotState slot.toNat = .valid := by rwa [State.slotState, hseen.lib rfl]
  have heff : effParkStore slot (seen s sess) = (autoStore ((seen s sess).setObj Obj.PARK_STORE 0 slot) (.park (some slot.toNat)), .ack) := by
    simp [effParkStore, hflash, hslot]
  have hopens := (autoStore_opens ((seen s sess).setObj Obj.PARK_STORE 0 slot) (.park (some slot.toNat)))
  obtain ⟨hans, hframe⟩ := hostWrite_ack h heff (.trans (.frame (State.setObj_frame _ _ _ _) (by decide) (.refl _)) hopens)
  exact ⟨_, rfl, hans, storing_congr (hframe.dev rfl) (autoStore_storing _ (alwaysPrograms_park _))⟩

theorem parkClear_stores (h : s.accepts sess Obj.PARK_CLEAR 0 1 = true) :
    ∃ t, exec (.parkClear sess) s = .next t ∧ t.answered sess 0 Obj.PARK_CLEAR 0 (.ack []) ∧ t.storing (.park none) := by
  have heff : effParkClear (seen s sess) = (autoStore (seen s sess) (.park none), .ack) := rfl
  obtain ⟨hans, hframe⟩ := hostWrite_ack h heff (autoStore_opens _ _)
  exact ⟨_, rfl, hans, storing_congr (hframe.dev rfl) (autoStore_storing _ (alwaysPrograms_park _))⟩

/-- Noting a request's frame changes the sessions' side alone. -/
theorem seen_eq (s : State) (sess : Nat) : seen s sess = { s with ex := (seen s sess).ex } := by
  unfold seen
  split <;> rfl

theorem configStore_stores (h : s.accepts sess Obj.CONFIG_STORE 0 1 = true) (hf : s.flashOk = true) (hb : s.flashBusy = false)
    (hr : s.storeRegions .config ≠ []) :
    ∃ t, exec (.configStore sess) s = .next t ∧ t.answered sess 0 Obj.CONFIG_STORE 0 (.ack []) ∧
      t.dev = { s.dev with store := some { kind := .config, regions := s.storeRegions .config } } ∧ Frame [.dev, .ex] s t := by
  have hseen := seen_frame s sess
  have hflash : (seen s sess).flashOk = true := by rwa [State.flashOk, hseen.therm rfl]
  have hbusy : (seen s sess).flashBusy = false := by rwa [State.flashBusy, hseen.dev rfl]
  have hregions : (seen s sess).storeRegions .config = s.storeRegions .config := by
    rw [seen_eq]
    rfl
  have heff : effConfigStore (seen s sess) =
      ({ seen s sess with dev := { s.dev with store := some ⟨.config, s.storeRegions .config⟩ } }, .ack) := by
    rw [effConfigStore, hflash, hbusy, startStore_runs (by simp) (by rwa [hregions]), hregions, hseen.dev rfl]
    rfl
  obtain ⟨hans, hframe⟩ := hostWrite_ack h heff fun _ => id
  refine ⟨_, rfl, hans, hframe.dev rfl, frame_sealed (.step hframe (by decide) (.set_dev (by decide) ?_)) (by decide)⟩
  exact hseen.mono (by decide)

end

/-! ### How a store goes on and ends -/

theorem regionDone_dev {s : State} {k : StoreKind} (hk : k ≠ .life) (i : Nat) :
    (regionDone s k i).dev = { s.dev with
      wearRaised := (regionDone s k i).dev.wearRaised
      flash := { regionContents s i k s.dev.flash with
        erases := (regionContents s i k s.dev.flash).erases + 1
        bad := (regionContents s i k s.dev.flash).bad.filter (· ≠ k.offset i) } } := by
  unfold regionDone
  rw [if_neg hk]
  extract_lets f u w
  split
  · rw [raiseA_dev]
    rfl
  · rfl

theorem configRegion_next {i j : Nat} {rest : List Nat} {s : State} (h : s.dev.store = some { kind := .config, regions := i :: j :: rest }) :
    ∃ t, exec .flashRegionDone s = .next t ∧ t.dev.store = some { kind := .config, regions := j :: rest } ∧
      t.dev.flash.erases = s.dev.flash.erases + 1 := by
  have hdev := regionDone_dev (s := s) (k := .config) (by simp) i
  have hrun : storeRegionDone s = { regionDone s .config i with dev :=
      { (regionDone s .config i).dev with store := some { kind := .config, regions := j :: rest } } } := by
    simp [storeRegionDone, h]
  have hexec : exec .flashRegionDone s = .next (sealed s (storeRegionDone s)) := by
    change execFlashRegionDone s = _
    unfold execFlashRegionDone
    rw [h]
    rfl
  refine ⟨_, hexec, ?_, ?_⟩ <;> rw [sealed_dev, hrun]
  rw [hdev]
  rfl

theorem configRegion_last {i : Nat} {s : State} (h : s.dev.store = some { kind := .config, regions := [i] }) (hq : s.dev.storeQueue = []) :
    ∃ t, exec .flashRegionDone s = .next t ∧ t.dev.store = none ∧ t.dev.flash.erases = s.dev.flash.erases + 1 := by
  have hdev := regionDone_dev (s := s) (k := .config) (by simp) i
  have hqueue : (endStore (regionDone s .config i)).dev.storeQueue = [] := (congrArg Device.storeQueue hdev).trans hq
  have hrun : storeRegionDone s = endStore (regionDone s .config i) := by
    simp [storeRegionDone, h, storeEnded, pumpStores, hqueue]
  have hexec : exec .flashRegionDone s = .next (sealed s (storeRegionDone s)) := by
    change execFlashRegionDone s = _
    unfold execFlashRegionDone
    rw [h]
    rfl
  refine ⟨_, hexec, ?_, ?_⟩ <;> rw [sealed_dev, hrun]
  · rfl
  · exact congrArg (·.flash.erases) hdev

theorem lifeRecord_stores {s : State} (hs : s.dev.state ≠ .off) (ht : s.elapsed s.dev.lifeAt 3600000000000 = true) :
    ∃ t, exec .lifeRecordTimer s = .next t ∧ t.dev.lifeAt = s.tick ∧ t.storing .life := by
  refine ⟨_, congrArg (finish s) (if_pos ⟨hs, ht⟩), ?_, storing_congr (sealed_dev _ _) (autoStore_storing _ alwaysPrograms_life)⟩
  rw [sealed_dev, autoStore_stores _ .life, (countHour_frame _).dev rfl]

theorem safePage_stored {p : SafePage} {r : List Nat} {s : State} (h : s.dev.store = some { kind := .safePage, regions := r })
    (hp : s.dev.page = some p) : ∃ t, exec .safePageStored s = .next t ∧ t.dev.page = none ∧ t.dev.flash.working = p := by
  have hdev := regionDone_dev (s := s) (k := .safePage) (by simp) 0
  have hend : (pageStored s).dev.page = none ∧ (pageStored s).dev.flash.working = p := by
    unfold pageStored
    simp only [h, hp, if_true]
    rw [pumpStores_stores]
    simp only [settleOwed_dev, raiseA_dev]
    refine ⟨rfl, (congrArg (·.flash.working) hdev).trans ?_⟩
    simp [regionContents, hp]
  exact ⟨_, rfl, hend⟩

/-- Settles O15: how each flash store begins, goes on and ends. -/
theorem flashStores : Obligations.FlashStores := by
  unfold Obligations.FlashStores
  exact ⟨fun _ _ _ => parkStore_stores, fun _ _ => parkClear_stores, fun _ _ => configStore_stores, fun _ _ _ _ => configRegion_next,
    fun _ _ => configRegion_last, fun _ => lifeRecord_stores, fun _ _ _ => safePage_stored⟩

end Sys2Proof.Proofs

/-!
SUPPORT. The answer to an accepted write, by the verdict of its effect.
-/

namespace Sys2Proof.Proofs

open Sys2Proof Sys2Proof.Machine Sys2Proof.Laws

/-- An effect that leaves the sessions' side alone keeps every session open. -/
theorem opens_of_frame {m : List Comp} {s : State} {r : State × Verdict} (h : Frame1 m s r) (hm : m.contains .ex = false) :
    Opens1 s r :=
  .frame h hm (.refl s)

/-- Of a state that answers an effect, all but the sessions' side and the queue is what the effect left. -/
theorem sealed_eq {u w : State} (s : State) (h : Frame [.ex] u w) : sealed s w = { u with pending := s.pending, ex := (sealed s w).ex } := by
  simp only [sealed, h.tick rfl, h.objs rfl, h.octs rfl, h.staged rfl, h.stagedOcts rfl, h.hbm rfl, h.dev rfl, h.funcs rfl, h.lobes rfl,
    h.time rfl, h.sorus rfl, h.drv rfl, h.steady rfl, h.therm rfl, h.loops rfl, h.mon rfl, h.cal rfl, h.fab rfl, h.lib rfl, h.com rfl,
    h.net rfl, h.mat rfl]

section

variable {s : State} {sess addr sel : Nat} {v : Int} {eff : State → State × Verdict}

/-- An accepted write whose effect acknowledges it is answered ACK, and answering changes the sessions' side alone. -/
theorem hostWrite_acks (h : s.accepts sess addr sel v = true) (hv : (eff (seen s sess)).2 = .ack)
    (ho : Opens1 (seen s sess) (eff (seen s sess))) :
    (hostWrite s sess addr sel v eff).answered sess 0 addr sel (.ack []) ∧
      Frame [.ex] (eff (seen s sess)).1 (hostWrite s sess addr sel v eff) :=
  hostWrite_ack h (Prod.ext rfl hv) ho

/-- An accepted write whose effect refuses it is answered with that NAK. -/
theorem hostWrite_naks {n : Nak} (h : s.accepts sess addr sel v = true) (ha : addr ≠ Obj.LOAD_CLOSE)
    (hv : (eff (seen s sess)).2 = .nak n) (ho : Opens1 (seen s sess) (eff (seen s sess))) :
    (hostWrite s sess addr sel v eff).answered sess 0 addr sel (.nak n 0 0) ∧
      Frame [.ex] (eff (seen s sess)).1 (hostWrite s sess addr sel v eff) := by
  obtain ⟨hans, hframe⟩ := hostWrite_nak h (Prod.ext rfl hv) ho
  have hdetail : (eff (seen s sess)).1.detailOf sess addr n = 0 := if_neg fun e => ha e.1
  rw [hdetail] at hans
  exact ⟨hans, hframe⟩

end

end Sys2Proof.Proofs

/-!
SUPPORT. The proofs of the firmware updates (spec/18_lifecycle.md, In-service update).
-/

namespace Sys2Proof.Proofs

open Sys2Proof Sys2Proof.Machine Sys2Proof.Laws

/-! ### A bank and its entry -/

theorem fwBank_of_banks {s : State} {b : Nat} {x : FwBank} {m : SMap FwBank} (h : s.dev.flash.banks = mset m b x) : s.fwBank b = x := by
  unfold State.fwBank
  rw [h, mfind_mset_self]

/-- A store that the device makes by itself leaves the update in progress as it is. -/
theorem autoStore_update (s : State) (k : StoreKind) : (autoStore s k).dev.boot = s.dev.boot ∧
    (autoStore s k).dev.fwStage = s.dev.fwStage ∧ (autoStore s k).dev.fwLobe = s.dev.fwLobe ∧
    (autoStore s k).dev.fwBoth = s.dev.fwBoth ∧ (autoStore s k).dev.fwFail = s.dev.fwFail := by
  rw [autoStore_stores s k]
  exact ⟨rfl, rfl, rfl, rfl, rfl⟩

theorem confirmTrial_confirms {s : State} {b : Nat} (h : s.dev.flash.trial = some b) :
    (confirmTrial s).dev.boot = some (b, none) ∧ (confirmTrial s).dev.fwBoth = none ∧ (confirmTrial s).storing .bootRecords := by
  unfold confirmTrial
  simp only [h]
  obtain ⟨hboot, -, -, hboth, -⟩ := autoStore_update { s with dev := { s.dev with boot := some (b, none), fwBoth := none } } .bootRecords
  exact ⟨hboot, hboth, autoStore_storing _ alwaysPrograms_bootRecords⟩

theorem rollBack_begins {s : State} (h : s.dev.fwStage ≠ .idle) (h' : s.dev.fwStage ≠ .rollingBack) (cause : Nat) :
    (rollBack s cause).dev.fwStage = .rollingBack ∧ (rollBack s cause).dev.fwFail = some (s.dev.fwStage.code, cause) ∧
      (rollBack s cause).dev.boot = some (s.dev.flash.confirmed, none) ∧ (rollBack s cause).storing .bootRecords := by
  have hstages : ¬ (s.dev.fwStage = .idle ∨ s.dev.fwStage = .rollingBack) := not_or.mpr ⟨h, h'⟩
  unfold rollBack
  rw [if_neg hstages]
  generalize hu : ({ s with dev := _ } : State) = u
  obtain ⟨hboot, hstage, -, -, hfail⟩ := autoStore_update u .bootRecords
  subst hu
  exact ⟨hstage, hfail, hboot, autoStore_storing _ alwaysPrograms_bootRecords⟩

/-! ### The effects of the objects -/

theorem effFwLoadOpen_acks {s : State} {bank : Int} (hf : s.flashOk = true) (hc : s.dev.flash.confirmed ≠ bank.toNat)
    (h0 : (s.lobe 0).bank ≠ some bank.toNat) (h1 : (s.lobe 1).bank ≠ some bank.toNat) :
    let r := effFwLoadOpen bank s
    r.2 = .ack ∧ r.1.dev.fwOpen = some bank.toNat ∧ (r.1.fwBank bank.toNat).state = 1 ∧ (r.1.fwBank bank.toNat).data = [] := by
  have hfree : ¬ (s.dev.flash.confirmed = bank.toNat ∨ (s.lobe 0).bank = some bank.toNat ∨ (s.lobe 1).bank = some bank.toNat) := by
    simp [hc, h0, h1]
  unfold effFwLoadOpen
  simp only [hf, Bool.not_true, Bool.false_eq_true, if_false, if_neg hfree]
  refine ⟨trivial, trivial, ?_, ?_⟩ <;> rw [fwBank_of_banks rfl]

theorem effFwVerify_acks {s : State} {b : Nat} (hf : s.flashOk = true) (ho : s.dev.fwOpen = some b) (hb : s.bankBad b = false) :
    let r := effFwVerify true s
    r.2 = .ack ∧ r.1.dev.fwOpen = none ∧ (r.1.fwBank b).state = 2 := by
  have hgood : (true && !({ s with dev := { s.dev with fwOpen := none } } : State).bankBad b) = true := by
    change (true && !s.bankBad b) = true
    rw [hb]
    rfl
  unfold effFwVerify
  simp only [hf, ho, hgood, Bool.not_true, Bool.false_eq_true, if_false, if_true]
  refine ⟨trivial, rfl, ?_⟩
  rw [fwBank_of_banks rfl]

theorem effFwVerify_naks {s : State} {b : Nat} {ok : Bool} (hf : s.flashOk = true) (ho : s.dev.fwOpen = some b)
    (hb : ok = false ∨ s.bankBad b = true) :
    let r := effFwVerify ok s
    r.2 = .nak .format ∧ r.1.dev.fwOpen = none ∧ (r.1.fwBank b).state = 3 := by
  have hbad : (ok && !({ s with dev := { s.dev with fwOpen := none } } : State).bankBad b) = false := by
    change (ok && !s.bankBad b) = false
    rcases hb with hb | hb <;> simp [hb]
  unfold effFwVerify
  simp only [hf, ho, hbad, Bool.not_true, Bool.false_eq_true, if_false]
  refine ⟨trivial, rfl, ?_⟩
  rw [fwBank_of_banks rfl]

theorem effFwActivate_acks {s : State} {l : Nat} {bank : Int} (ha : s.active.isSome = true) (hl : s.standby = some l)
    (hs : s.dev.state = .parked ∨ s.dev.state = .service) (hf : s.flashOk = true) (hb : s.fwBankState bank.toNat = 2)
    (hi : s.dev.fwStage = .idle) (hm : formatsMeet (s.fwBank s.dev.flash.confirmed) (s.fwBank bank.toNat) = true) :
    let r := effFwActivate bank s
    r.2 = .ack ∧ r.1.dev.fwStage = .firstRestart ∧ r.1.dev.fwLobe = l ∧ r.1.dev.boot = some (s.dev.flash.confirmed, some bank.toNat) ∧
      r.1.storing .bootRecords := by
  have hready : ¬ (s.active.isNone ∨ (s.dev.state ≠ .parked ∧ s.dev.state ≠ .service) ∨ ¬ s.flashOk) := by
    have hn : s.active.isNone = false := Option.isNone_eq_false_iff.mpr ha
    rcases hs with hs | hs <;> simp [hn, hs, hf]
  unfold effFwActivate
  simp only [hl, if_neg hready, hi, hb, hm, ne_eq, not_true_eq_false, if_false, Bool.not_true, Bool.false_eq_true]
  generalize hu : ({ s with dev := _ } : State) = u
  obtain ⟨hboot, hstage, hlobe, -, -⟩ := autoStore_update u .bootRecords
  subst hu
  exact ⟨trivial, hstage, hlobe, hboot, autoStore_storing _ alwaysPrograms_bootRecords⟩

section

variable {s : State} {sess : Nat}

theorem fwLoadOpen_opens {bank : Int} (h : s.accepts sess Obj.FW_LOAD_OPEN 0 bank = true) (hf : s.flashOk = true)
    (hc : s.dev.flash.confirmed ≠ bank.toNat) (h0 : (s.lobe 0).bank ≠ some bank.toNat) (h1 : (s.lobe 1).bank ≠ some bank.toNat) :
    ∃ t, exec (.fwLoadOpen sess bank) s = .next t ∧ t.answered sess 0 Obj.FW_LOAD_OPEN 0 (.ack []) ∧
      t.dev.fwOpen = some bank.toNat ∧ (t.fwBank bank.toNat).state = 1 ∧ (t.fwBank bank.toNat).data = [] := by
  obtain ⟨hv, ho, hst, hdata⟩ := effFwLoadOpen_acks (s := seen s sess) (bank := bank) (by rw [seen_eq]; exact hf) (by rw [seen_eq]; exact hc)
    (by rw [seen_eq]; exact h0) (by rw [seen_eq]; exact h1)
  obtain ⟨hans, hframe⟩ := hostWrite_acks h hv (opens_of_frame (effFwLoadOpen_frame bank _) (by decide))
  refine ⟨_, rfl, hans, ?_⟩
  rw [sealed_eq s hframe]
  exact ⟨ho, hst, hdata⟩

theorem fwVerify_verifies {b : Nat} (h : s.accepts sess Obj.FW_VERIFY 0 1 = true) (hf : s.flashOk = true)
    (ho : s.dev.fwOpen = some b) (hb : s.bankBad b = false) :
    ∃ t, exec (.fwVerify sess true) s = .next t ∧ t.answered sess 0 Obj.FW_VERIFY 0 (.ack []) ∧ t.dev.fwOpen = none ∧
      (t.fwBank b).state = 2 := by
  obtain ⟨hv, hc, hst⟩ := effFwVerify_acks (s := seen s sess) (b := b) (by rw [seen_eq]; exact hf) (by rw [seen_eq]; exact ho)
    (by rw [seen_eq]; exact hb)
  obtain ⟨hans, hframe⟩ := hostWrite_acks h hv (effFwVerify_opens true _)
  refine ⟨_, rfl, hans, ?_⟩
  rw [sealed_eq s hframe]
  exact ⟨hc, hst⟩

theorem fwVerify_fails {b : Nat} {ok : Bool} (h : s.accepts sess Obj.FW_VERIFY 0 1 = true) (hf : s.flashOk = true)
    (ho : s.dev.fwOpen = some b) (hb : ok = false ∨ s.bankBad b = true) :
    ∃ t, exec (.fwVerify sess ok) s = .next t ∧ t.answered sess 0 Obj.FW_VERIFY 0 (.nak .format 0 0) ∧ t.dev.fwOpen = none ∧
      (t.fwBank b).state = 3 := by
  obtain ⟨hv, hc, hst⟩ := effFwVerify_naks (s := seen s sess) (b := b) (ok := ok) (by rw [seen_eq]; exact hf)
    (by rw [seen_eq]; exact ho) (by rw [seen_eq]; exact hb)
  obtain ⟨hans, hframe⟩ := hostWrite_naks h (by decide) hv (effFwVerify_opens ok _)
  refine ⟨_, rfl, hans, ?_⟩
  rw [sealed_eq s hframe]
  exact ⟨hc, hst⟩

/-! ### FW_ACTIVATE (R529) -/

theorem fwActivate_activates {l : Nat} {bank : Int} (h : s.accepts sess Obj.FW_ACTIVATE 0 bank = true) (hl : s.standby = some l)
    (hs : s.dev.state = .parked ∨ s.dev.state = .service) (hf : s.flashOk = true) (hb : s.fwBankState bank.toNat = 2)
    (hi : s.dev.fwStage = .idle) (hm : formatsMeet (s.fwBank s.dev.flash.confirmed) (s.fwBank bank.toNat) = true) :
    ∃ t, exec (.fwActivate sess bank) s = .next t ∧ t.answered sess 0 Obj.FW_ACTIVATE 0 (.ack []) ∧
      t.dev.fwStage = .firstRestart ∧ t.dev.fwLobe = l ∧ t.dev.boot = some (s.dev.flash.confirmed, some bank.toNat) ∧
      t.storing .bootRecords := by
  obtain ⟨-, -, -, -, -, ha, -, -⟩ := State.ready_iff.mp (ready_of_accepts h)
  have hkeep : (seen s sess).dev = s.dev := (seen_frame s sess).dev rfl
  obtain ⟨hv, hstage, hlobe, hboot, hstoring⟩ := effFwActivate_acks (s := seen s sess) (l := l) (bank := bank)
    (by rw [seen_eq]; exact ha) (by rw [seen_eq]; exact hl) (by rwa [hkeep]) (by rw [seen_eq]; exact hf)
    (by rw [seen_eq]; exact hb) (by rwa [hkeep]) (by rw [seen_eq]; exact hm)
  obtain ⟨hans, hframe⟩ := hostWrite_acks h hv (effFwActivate_opens bank _)
  rw [hkeep] at hboot
  refine ⟨_, rfl, hans, ?_⟩
  rw [sealed_eq s hframe]
  exact ⟨hstage, hlobe, hboot, hstoring⟩

/-! ### FW_CONFIRM and FW_ROLLBACK (R530, R531) -/

theorem onTrial_of {b : Nat} (h : s.dev.flash.trial = some b) (hr : s.dev.fwStage ≠ .rollingBack) : s.onTrial = true := by
  simp [State.onTrial, h, hr]

theorem fwConfirm_confirms {b : Nat} (h : s.accepts sess Obj.FW_CONFIRM 0 1 = true) (ht : s.dev.flash.trial = some b)
    (hr : s.dev.fwStage ≠ .rollingBack) :
    ∃ t, exec (.fwConfirm sess) s = .next t ∧ t.answered sess 0 Obj.FW_CONFIRM 0 (.ack []) ∧ t.dev.boot = some (b, none) ∧
      t.storing .bootRecords := by
  have htrial : (seen s sess).onTrial = true := by rw [seen_eq]; exact onTrial_of ht hr
  have heff : effFwConfirm (seen s sess) = (confirmTrial (seen s sess), .ack) := if_pos htrial
  obtain ⟨hans, hframe⟩ := hostWrite_ack h heff (confirmTrial_opens _)
  obtain ⟨hboot, -, hstoring⟩ := confirmTrial_confirms (s := seen s sess) (b := b) (by rw [seen_eq]; exact ht)
  refine ⟨_, rfl, hans, ?_⟩
  rw [sealed_eq s hframe]
  exact ⟨hboot, hstoring⟩

theorem fwConfirmTimeEnd_confirms {t0 b : Nat} (h : s.dev.fwBoth = some t0) (ht : s.dev.flash.trial = some b)
    (hr : s.dev.fwStage ≠ .rollingBack) (hel : s.elapsed t0 (1000000000 * s.objN Obj.FW_CONFIRM_TIME 0) = true) :
    ∃ t, exec .fwConfirmTimeEnd s = .next t ∧ t.dev.boot = some (b, none) ∧ t.dev.fwBoth = none ∧ t.storing .bootRecords := by
  have hrun : exec .fwConfirmTimeEnd s = .next (sealed s (confirmTrial s)) := by
    change execFwConfirmTimeEnd s = _
    simp only [execFwConfirmTimeEnd, h, if_pos (And.intro (onTrial_of ht hr) hel)]
    rfl
  exact ⟨_, hrun, confirmTrial_confirms ht⟩

theorem fwRollback_rollsBack {b : Nat} (h : s.accepts sess Obj.FW_ROLLBACK 0 1 = true) (ht : s.dev.flash.trial = some b)
    (hr : s.dev.fwStage ≠ .rollingBack) (hi : s.dev.fwStage ≠ .idle) :
    ∃ t, exec (.fwRollback sess) s = .next t ∧ t.answered sess 0 Obj.FW_ROLLBACK 0 (.ack []) ∧ t.dev.fwStage = .rollingBack ∧
      t.dev.fwFail = some (s.dev.fwStage.code, 4) ∧ t.dev.boot = some (s.dev.flash.confirmed, none) ∧ t.storing .bootRecords := by
  have hkeep : (seen s sess).dev = s.dev := (seen_frame s sess).dev rfl
  have htrial : (seen s sess).onTrial = true := by rw [seen_eq]; exact onTrial_of ht hr
  have heff : effFwRollback (seen s sess) = (rollBack (seen s sess) 4, .ack) := if_pos htrial
  obtain ⟨hans, hframe⟩ := hostWrite_ack h heff (rollBack_opens _ _)
  obtain ⟨hstage, hfail, hboot, hstoring⟩ := rollBack_begins (s := seen s sess) (by rwa [hkeep]) (by rwa [hkeep]) 4
  rw [hkeep] at hfail hboot
  refine ⟨_, rfl, hans, ?_⟩
  rw [sealed_eq s hframe]
  exact ⟨hstage, hfail, hboot, hstoring⟩

theorem fwTrialTimeout_rollsBack {l : Nat} (hs : s.dev.fwStage = .firstRestart ∨ s.dev.fwStage = .secondRestart) (hl : s.dev.fwLobe = l)
    (hb : s.dev.boot = none) (hr : (s.lobe l).role ≠ .standby) (hel : s.elapsed s.dev.fwSince 10000000000 = true) :
    ∃ t, exec (.fwTrialTimeout l) s = .next t ∧ t.dev.fwStage = .rollingBack ∧ t.dev.fwFail = some (s.dev.fwStage.code, 2) ∧
      t.storing .bootRecords := by
  have hrun : exec (.fwTrialTimeout l) s = .next (sealed s (rollBack s 2)) := congrArg (finish s) (if_pos ⟨hs, hl, hb, hr, hel⟩)
  have hstage : s.dev.fwStage ≠ .idle ∧ s.dev.fwStage ≠ .rollingBack := by rcases hs with h | h <;> simp [h]
  obtain ⟨hback, hfail, -, hstoring⟩ := rollBack_begins hstage.1 hstage.2 2
  exact ⟨_, hrun, hback, hfail, hstoring⟩

end

/-- Settles O16: what each object and event of a firmware update does. -/
theorem firmwareUpdates : Obligations.FirmwareUpdates := by
  unfold Obligations.FirmwareUpdates
  exact ⟨fun _ _ _ => fwLoadOpen_opens, fun _ _ _ => fwVerify_verifies, fun _ _ _ _ => fwVerify_fails,
    fun _ _ _ _ => fwActivate_activates, fun _ _ _ => fwConfirm_confirms, fun _ _ _ => fwConfirmTimeEnd_confirms,
    fun _ _ _ => fwRollback_rollsBack, fun _ _ => fwTrialTimeout_rollsBack⟩

end Sys2Proof.Proofs

/-!
SUPPORT. The proofs of FUNC_MODE and the mode boundaries (spec/01_architecture.md, Function modes).
-/

namespace Sys2Proof.Proofs

open Sys2Proof Sys2Proof.Machine Sys2Proof.Laws

/-! ### FUNC_MODE (R36, R38) -/

theorem funcMode_ne_loadClose {n : Nat} (h : n ≤ 8) : Obj.FUNC_MODE + (n - 1) ≠ Obj.LOAD_CLOSE := by
  simp only [Obj.FUNC_MODE, Obj.LOAD_CLOSE]
  omega

theorem heldOff_iff (s : State) (n : Nat) : s.heldOff n = true ↔
    (s.func n).fellBack = true ∧ s.now < s.obj Obj.LAST_FALLBACK_TIME 0 + 1000000 * s.obj Obj.FALLBACK_HOLDOFF 0 := by
  simp [State.heldOff]

section

variable {s : State} {sess n : Nat}

theorem funcMode_accepts {v : Int} (h : s.accepts sess (Obj.FUNC_MODE + (n - 1)) 0 v = true)
    (hv : v = 1 → (s.func n).fellBack = true → s.obj Obj.LAST_FALLBACK_TIME 0 + 1000000 * s.obj Obj.FALLBACK_HOLDOFF 0 ≤ s.now) :
    ∃ t, exec (.funcMode sess n v) s = .next t ∧ t.answered sess 0 (Obj.FUNC_MODE + (n - 1)) 0 (.ack []) ∧
      t.func n = { s.func n with pending := some v.toNat } ∧ t.obj (Obj.FUNC_MODE + (n - 1)) 0 = v ∧ Frame [.objs, .ex, .funcs] s t := by
  have hfree : ¬ (v = 1 && (seen s sess).heldOff n) = true := by
    rw [Bool.and_eq_true, decide_eq_true_eq, seen_eq]
    intro ⟨hone, hheld⟩
    obtain ⟨hf, hlt⟩ := (heldOff_iff s n).mp hheld
    exact absurd hlt (not_lt.mpr (hv hone hf))
  have heff : effFuncMode n v (seen s sess) =
      (((seen s sess).setObj (Obj.FUNC_MODE + (n - 1)) 0 v).setFunc n { (seen s sess).func n with pending := some v.toNat }, .ack) :=
    if_neg hfree
  have hframe := State.setFunc_frame ((seen s sess).setObj (Obj.FUNC_MODE + (n - 1)) 0 v) n { (seen s sess).func n with pending := some v.toNat }
  obtain ⟨hans, hrest⟩ := hostWrite_ack h heff fun _ => id
  refine ⟨_, rfl, hans, ?_, ?_, frame_sealed ?_ (by decide)⟩
  · rw [sealed_eq s hrest]
    exact (func_setFunc_self _ _ _).trans (by rw [seen_eq]; rfl)
  · rw [sealed_eq s hrest]
    exact obj_setObj _ _ _ _
  · exact .step hrest (by decide) (.step hframe (by decide) (.step (State.setObj_frame _ _ _ _) (by decide) ((seen_frame s sess).mono (by decide))))

theorem funcMode_refuses (hn : n ≤ 8) (h : s.accepts sess (Obj.FUNC_MODE + (n - 1)) 0 1 = true)
    (hf : (s.func n).fellBack = true) (hlt : s.now < s.obj Obj.LAST_FALLBACK_TIME 0 + 1000000 * s.obj Obj.FALLBACK_HOLDOFF 0) :
    ∃ t, exec (.funcMode sess n 1) s = .next t ∧ t.answered sess 0 (Obj.FUNC_MODE + (n - 1)) 0 (.nak .busy 0 0) ∧ Frame [.ex] s t := by
  have hheld : (decide ((1 : Int) = 1) && (seen s sess).heldOff n) = true := by
    rw [seen_eq]
    exact (heldOff_iff s n).mpr ⟨hf, hlt⟩
  have heff : effFuncMode n 1 (seen s sess) = (seen s sess, .nak .busy) := if_pos hheld
  obtain ⟨hans, hframe⟩ := hostWrite_refused h heff (funcMode_ne_loadClose hn)
  exact ⟨_, rfl, hans, frame_sealed hframe (by decide)⟩

end

/-! ### Mode boundaries (R36) -/

theorem atModeBoundary_takes {s : State} {n m : Nat} (h : (s.func n).pending = some m) :
    (atModeBoundary s n).func n = { s.func n with mode := m, pending := none } ∧
    (∀ k, k ≠ n → (atModeBoundary s n).func k = s.func k) ∧ Frame [.funcs] s (atModeBoundary s n) := by
  refine ⟨?_, fun k hk => ?_, atModeBoundary_frame s n⟩ <;> simp only [atModeBoundary, h]
  · rw [func_setFunc_self]
  · exact func_setFunc_other s _ hk

theorem modeBoundary_other {s : State} {n : Nat} (hn : 2 ≤ n) :
    ∃ t, exec (.modeBoundary n) s = .next t ∧ t.func = s.func ∧ Frame [.ex] s t :=
  ⟨_, congrArg (finish s) (if_neg (by omega)), funext (func_of_funcs rfl), frame_sealed (.refl s) (by decide)⟩

theorem loopsBoundary_not_due {s : State} (h : s.tick % 256 ≠ 0 ∨ s.commitMoving = true) :
    ∃ t, exec (.modeBoundary 1) s = .next t ∧ t.func = s.func ∧ Frame [.ex] s t := by
  have hnone : loopsBoundary s = s := if_neg (by rintro ⟨htick, hmoves⟩; rcases h with h | h <;> contradiction)
  have hrun : exec (.modeBoundary 1) s = .next (sealed s s) := congrArg (finish s) hnone
  exact ⟨_, hrun, funext (func_of_funcs rfl), frame_sealed (.refl s) (by decide)⟩

theorem loopsBoundary_takes {s : State} {m : Nat} (h : (s.func 1).pending = some m) (ht : s.tick % 256 = 0)
    (hc : s.commitMoving = false) (hd : s.driveLate = false) :
    ∃ t, exec (.modeBoundary 1) s = .next t ∧ t.func 1 = { s.func 1 with mode := m, pending := none } := by
  have hkeep : (loopsBoundary s).funcs = (atModeBoundary s 1).funcs := by
    unfold loopsBoundary
    rw [if_pos ⟨ht, by simp [hc]⟩, hd]
    extract_lets was u l v
    have hv : Frame [.loops] u v := .ite (.refl u) (.set_loops (by decide) (.refl u))
    have hw (l : List (Nat × Elem)) : Frame [.objs, .dev, .ex, .sorus, .steady, .loops] v (l.foldl (fun s e => foldWrap s e.1) v) :=
      .foldl (fun s _ => foldWrap_frame s _) (.refl v)
    rw [if_neg (by decide)]
    split
    · exact ((hw _).funcs rfl).trans (hv.funcs rfl)
    · exact hv.funcs rfl
  refine ⟨_, rfl, ?_⟩
  rw [if_pos rfl]
  exact (func_of_funcs hkeep 1).trans (atModeBoundary_takes h).1

/-- Settles O17: FUNC_MODE, the hold-off after a fallback and the mode boundaries. -/
theorem functionModes : Obligations.FunctionModes := by
  unfold Obligations.FunctionModes
  exact ⟨fun _ _ _ _ _ _ => funcMode_accepts, fun _ _ _ _ => funcMode_refuses, fun _ _ h _ => modeBoundary_other h,
    fun _ _ _ => atModeBoundary_takes, fun _ => loopsBoundary_not_due, fun _ _ => loopsBoundary_takes⟩

end Sys2Proof.Proofs

/-!
SUPPORT. Rules of shared operations: the state of a slot, an event and the measurement of the servo, a decision of Steady with no upset,
and what a boundary with no pending mode leaves.
-/

namespace Sys2Proof.Proofs

open Sys2Proof Sys2Proof.Machine Sys2Proof.Laws

/-! ### Slots -/

@[simp] theorem slotState_setSlot (s : State) (slot : Nat) (x : SlotState) : (s.setSlot slot x).slotState slot = x := by
  simp [State.slotState, State.setSlot]

theorem slotState_setSlot_other (s : State) {slot n : Nat} (x : SlotState) (h : n ≠ slot) :
    (s.setSlot slot x).slotState n = s.slotState n := by
  simp [State.slotState, State.setSlot, mget_mset_other _ _ _ h]

/-! ### Decisions of Steady -/

theorem steadyDecides_sound {s : State} (hf : s.steady.frozen = false) (hu : s.steady.upsets = []) (kind : Nat) :
    steadyDecides s kind = (s, true) := by
  simp [steadyDecides, hf, hu]

theorem issueGrant_holds (s : State) (r : GReq) : (issueGrant s r).holds r.kind r.source = true := by
  simp [issueGrant, State.holds, State.incSat]

/-! ### Mode boundaries and fallbacks -/

theorem atModeBoundary_idle {s : State} {n : Nat} (h : (s.func n).pending = none) : atModeBoundary s n = s := by
  simp [atModeBoundary, h]

theorem fallback_func_self (s : State) (n : Nat) : (fallback s n).func n = { mode := 0, pending := none, fellBack := true } := by
  rw [fallback_func, func_setFunc_self]

theorem not_hostMode_fallback (s : State) (n : Nat) : (fallback s n).hostMode n = false := by
  simp [State.hostMode, fallback_func_self]

/-! ### The measurement of the servo -/

theorem setServo_meas (s : State) (v : Servo) : (setServo s v).time.meas = s.time.meas := by
  unfold setServo
  extract_lets old u
  split
  · rfl
  · rw [raiseA_time]
    rfl

theorem stepCounters_meas (s : State) (k : Line) : (stepCounters s k).time.meas = s.time.meas := by
  unfold stepCounters
  rw [raiseA_time]
  rfl

theorem fitUpdate_meas (s : State) (at_ o : Int) : (fitUpdate s at_ o).time.meas = s.time.meas := by
  unfold fitUpdate
  extract_lets pairs u k v
  have hv : v.time.meas = s.time.meas := (setServo_meas _ _).trans (stepCounters_meas _ _)
  split
  · split <;> exact hv
  · rfl

theorem judgeLock_meas (s : State) (o : Int) (held : Bool) : (judgeLock s o held).time.meas = s.time.meas := by
  unfold judgeLock
  extract_lets good u v
  have hu : u.time.meas = s.time.meas := by
    simp only [u]
    split
    · exact setServo_meas s _
    · rfl
  have hv : v.time.meas = s.time.meas := hu
  split
  · split
    · exact (setServo_meas v _).trans hv
    · exact hv
  · split
    · exact (setServo_meas v _).trans hv
    · exact hv
  · exact hv

theorem judgeAlarm_meas (s : State) (o : Int) : (judgeAlarm s o).time.meas = s.time.meas := by
  unfold judgeAlarm
  split
  · rfl
  · extract_lets u
    split
    · rw [raiseA_time]
      rfl
    · rfl

theorem servoBoundary_meas (s : State) : (servoBoundary s).time.meas = s.time.meas := by
  unfold servoBoundary
  extract_lets u was host
  have hu : u.time.meas = s.time.meas := by
    simp only [u]
    split
    · rw [(fallback_frame s 6).time rfl]
    · rw [(atModeBoundary_frame s 6).time rfl]
  split
  · exact hu
  · split
    · exact hu
    · split <;> exact hu

theorem servoUpdate_meas (s : State) (o ts at_ : Int) (held : Bool) : (servoUpdate s o ts at_ held).time.meas = s.time.meas := by
  unfold servoUpdate
  extract_lets u v w
  have hv : v.time.meas = s.time.meas := servoBoundary_meas u
  have hw : w.time.meas = s.time.meas := (judgeAlarm_meas _ _).trans ((judgeLock_meas _ _ _).trans hv)
  split
  · exact (fitUpdate_meas v _ _).trans hv
  · split <;> exact hw

end Sys2Proof.Proofs

/-!
SUPPORT. The proofs of the fallbacks, function by function.
-/

namespace Sys2Proof.Proofs

open Sys2Proof Sys2Proof.Machine Sys2Proof.Laws

/-- What a function is once it has fallen back, whatever a later step leaves of the functions' side as it is. -/
theorem fellBack_of {s t : State} {n : Nat} {m : List Comp} (h : Frame m (fallback s n) t) (hm : m.contains .funcs = false) :
    t.func n = { mode := 0, pending := none, fellBack := true } :=
  (func_of_funcs (h.funcs hm) n).trans (fallback_func_self s n)

/-! ### Element loops (R164) -/

theorem loopsFallback_fallsBack (s : State) : (loopsFallback s).func 1 = { mode := 0, pending := none, fellBack := true } ∧
    (loopsFallback s).loops.hostBlocks = [] := by
  unfold loopsFallback
  extract_lets u v l
  have hv : Frame [.sorus, .loops] u v := .foldl (fun s e => .ite (reacquire_frame s e.1) (.refl s)) (.refl u)
  have hvoas (t : State) (e : List (Nat × Voa)) :
      let r := e.foldl (fun s v => if v.2.state = .disabled then s else s.setVoa v.1 { v.2 with state := .locked, fresh := false }) t
      Frame [.loops] t r ∧ r.loops.hostBlocks = t.loops.hostBlocks := by
    refine ⟨.foldl (fun s e => .ite (.refl s) (State.setVoa_frame s _ _)) (.refl t), foldl_keeps (g := (·.loops.hostBlocks)) (fun s b => ?_) e t⟩
    dsimp only
    split <;> rfl
  obtain ⟨hframe, hblocks⟩ := hvoas { v with loops := { v.loops with hostBlocks := [], modeFrom := v.scan } } v.loops.voas
  exact ⟨fellBack_of (m := [.sorus, .loops]) (.step hframe (by decide) (.set_loops (by decide) (hv.mono (by decide)))) (by decide), hblocks⟩

theorem elementLoops_fallBack {s : State} (hd : s.driveLate = true) (ht : s.tick % 256 = 0) (hc : s.commitMoving = false) :
    ∃ t, exec .fallbackElementLoops s = .next t ∧ t.func 1 = { mode := 0, pending := none, fellBack := true } ∧
      t.loops.hostBlocks = [] := by
  have hrun : loopsBoundary s = loopsFallback s := by
    unfold loopsBoundary
    rw [if_pos ⟨ht, by simp [hc]⟩, if_pos hd]
  have hexec : exec .fallbackElementLoops s = .next (sealed s (loopsFallback s)) :=
    congrArg (finish s) ((if_pos hd).trans hrun)
  exact ⟨_, hexec, loopsFallback_fallsBack s⟩

/-! ### Image generation and refinement (R93, R100) -/

theorem imageGeneration_fallsBack {r : Route} {s : State} (hr : s.lib.route = some r) (hw : r.waitHost = true)
    (hm : s.hostMode 2 = true) (hd : r.due ≤ s.tick) :
    ∃ t, exec .fallbackImageGeneration s = .next t ∧ t.func 2 = { mode := 0, pending := none, fellBack := true } ∧
      t.lib.route = some { r with waitHost := false, start := s.tick } ∧ t.slotState r.slot = .routing := by
  refine ⟨_, rfl, ?_⟩
  simp only [hr, hw, hm, hd, and_self, if_true]
  generalize hu : State.dropLoads (fallback s 2) (fun l => l.slot != r.slot) = u
  have hdrop : Frame [.lib] (fallback s 2) u := hu ▸ State.dropLoads_frame _ _
  have htick : (u.setSlot r.slot .routing).tick = s.tick := (hdrop.tick rfl).trans ((fallback_frame s 2).tick rfl)
  refine ⟨(func_of_funcs (hdrop.funcs rfl) 2).trans (fallback_func_self s 2), ?_, slotState_setSlot u r.slot .routing⟩
  rw [sealed_lib, setObjN_lib, htick]

theorem refinement_fallsBack {s : State} (h : (s.lib.bufs.any fun b => decide (b.2.due ≤ s.tick)) = true) :
    ∃ t, exec .fallbackRefinement s = .next t ∧ t.func 3 = { mode := 0, pending := none, fellBack := true } := by
  have hrun : exec .fallbackRefinement s = .next (sealed s (queueBuffers (fallback s 3))) := congrArg (finish s) (if_pos h)
  have hfunc := fellBack_of (queueBuffers_frame (fallback s 3)) (by decide)
  exact ⟨_, hrun, hfunc⟩

/-! ### Pre-emphasis (R275) -/

theorem preEmphasis_noted {s : State} (h : s.adaptLate = true) :
    ∃ t, exec .fallbackPreEmphasis s = .next t ∧ t.cal = { s.cal with missed := true } ∧ t.adaptLate = true ∧ Frame [.cal, .ex] s t := by
  have hrun : exec .fallbackPreEmphasis s = .next (sealed s { s with cal := { s.cal with missed := true } }) :=
    congrArg (finish s) (if_pos h)
  exact ⟨_, hrun, rfl, rfl, frame_sealed (.set_cal (by decide) (.refl s)) (by decide)⟩

theorem bumpCalGen_missed (s : State) : (bumpCalGen s).cal.missed = s.cal.missed := by
  unfold bumpCalGen noteUnstored
  split <;> rfl

theorem adaptBoundary_fallsBack {s : State} (h : s.adaptLate = true) :
    (adaptBoundary s).func 4 = { mode := 0, pending := none, fellBack := true } ∧ (adaptBoundary s).cal.missed = false := by
  unfold adaptBoundary
  rw [if_pos h]
  extract_lets due c u v
  have hv : Frame [.objs, .cal] u v :=
    .foldl (fun s n => .step (State.setAdapt_frame _ _ _) (by decide) ((moveA2_frame s n).mono (by decide))) (.refl u)
  have hmissed : v.cal.missed = false := by
    have hu : u.cal.missed = false := congrArg (·.missed) ((fallback_frame _ 4).cal rfl)
    have hstep (s : State) (n : Nat) : ((moveA2 s n).setAdapt n { s.adapt n with ready := none }).cal.missed = s.cal.missed := rfl
    exact (foldl_keeps (g := (·.cal.missed)) hstep due u).trans hu
  split
  · exact ⟨fellBack_of hv (by decide), hmissed⟩
  · exact ⟨fellBack_of (m := [.objs, .cal]) (.step (bumpCalGen_frame v) (by decide) hv) (by decide), (bumpCalGen_missed v).trans hmissed⟩

/-! ### Power arbitration (R295) -/

theorem powerArbitration_fallsBack {s : State} (hm : s.hostMode 5 = true) (hl : s.grantLate = true) :
    ∃ t, exec .fallbackPowerArbitration s = .next t ∧ t.func 5 = { mode := 0, pending := none, fellBack := true } := by
  have hrun : fallbackPower s = steadyTakesAll (fallback s 5) := by
    unfold fallbackPower
    rw [if_pos hl, if_pos hm]
  have hexec : exec .fallbackPowerArbitration s = .next (sealed s (steadyTakesAll (fallback s 5))) := congrArg (finish s) hrun
  have hfunc := fellBack_of (steadyTakesAll_frame (fallback s 5)) (by decide)
  exact ⟨_, hexec, hfunc⟩

/-! ### Classification (R398) -/

theorem classification_noted {s : State} (h : s.heldLate = true) :
    ∃ t, exec .fallbackClassification s = .next t ∧ t.net = { s.net with heldMissed := true } ∧ t.heldLate = true ∧
      Frame [.net, .ex] s t := by
  obtain ⟨hmode, -⟩ := (Bool.and_eq_true _ _).mp (h : (s.hostMode 8 && _) = true)
  have hlate : ({ s with net := { s.net with heldMissed := true } } : State).heldLate = true := by
    change (s.hostMode 8 && true) = true
    rw [hmode]
    rfl
  have hrun : exec .fallbackClassification s = .next (sealed s { s with net := { s.net with heldMissed := true } }) := by
    change finish s (noteMissed s) = _
    rw [noteMissed, h]
    rfl
  exact ⟨_, hrun, rfl, hlate, frame_sealed (.set_net (by decide) (.refl s)) (by decide)⟩

theorem classBoundary_fallsBack {s : State} (h : s.heldLate = true) :
    (classBoundary s).func 8 = { mode := 0, pending := none, fellBack := true } ∧ (classBoundary s).heldLate = false := by
  have hmode : ({ fallback s 8 with net := { (fallback s 8).net with heldMissed := false } } : State).hostMode 8 = false :=
    not_hostMode_fallback s 8
  have hrun : classBoundary s = classifyHeld { fallback s 8 with net := { (fallback s 8).net with heldMissed := false } } := by
    unfold classBoundary
    rw [if_pos h]
    exact if_neg (by rw [hmode]; decide)
  have hfunc : (classBoundary s).func 8 = { mode := 0, pending := none, fellBack := true } := by
    rw [hrun]
    exact fellBack_of (m := [.objs, .ex, .sorus, .lib, .net]) (.step (classifyHeld_frame _) (by decide) (.set_net (by decide) (.refl _))) (by decide)
  refine ⟨hfunc, ?_⟩
  rw [State.heldLate, State.hostMode, hfunc]
  rfl

/-! ### Captures (R365) -/

theorem rearm_funcs {s : State} (h : (s.func 7).pending = none) (b : Nat) : (rearm s b).funcs = s.funcs := by
  have hstart (y : CapBuf) (take : Bool) : (startNext s b y take).funcs = s.funcs := by
    unfold startNext
    rw [atModeBoundary_idle h]
    have htake : Frame [.objs, .octs, .staged, .stagedOcts] s (if take then takeCap s b else s) := .ite (takeCap_frame s b) (.refl s)
    exact ((State.setBuf_frame _ _ _).funcs rfl).trans (htake.funcs rfl)
  unfold rearm
  extract_lets c x ok y slot hosts f host
  split
  · exact hstart _ _
  · split
    · rfl
    · exact raiseS_funcs _ _ _

theorem rearms_funcs {s : State} (h : (s.func 7).pending = none) (l : List (Nat × CapBuf)) :
    (l.foldl (fun s p => rearm s p.1) s).funcs = s.funcs := by
  induction l generalizing s with
  | nil => rfl
  | cons p l ih =>
    have hp := rearm_funcs h p.1
    exact (ih (by rwa [func_of_funcs hp])).trans hp

/-- Every unreleased segment of a host-assisted capture mask-tested, as in hardware mode. -/
def masksTested (s : State) : State :=
  { s with sorus := { s.sorus with bufs := mmap (fun _ (x : CapBuf) => { x with segs := x.segs.map Segment.testLate }) s.sorus.bufs } }

theorem capture_fallsBack {s : State} (h : (s.sorus.bufs.any fun p => p.2.segs.any fun g =>
      match g.readyAt with
      | some t => s.elapsed t (1000000 * s.objN Obj.CAP_HOST_DEADLINE 0)
      | none => false) = true) :
    ∃ t, exec .fallbackCapture s = .next t ∧ t.func 7 = { mode := 0, pending := none, fellBack := true } := by
  generalize hu : masksTested (fallback s 7) = u
  have hrun : exec .fallbackCapture s = .next (sealed s
      ((u.sorus.bufs.filter fun p => p.2.state == .rearm && p.2.rearmLeft == 0).foldl (fun s p => rearm s p.1) u)) := by
    subst hu
    exact congrArg (finish s) (if_pos h)
  have hfunc : u.func 7 = { mode := 0, pending := none, fellBack := true } := by
    subst hu
    exact fallback_func_self s 7
  have hkeep := rearms_funcs (s := u) (by rw [hfunc]) (u.sorus.bufs.filter fun p => p.2.state == .rearm && p.2.rearmLeft == 0)
  exact ⟨_, hrun, (func_of_funcs hkeep 7).trans hfunc⟩

/-! ### The time servo (R442) -/

theorem servoBoundary_fallsBack {s : State} (h : s.rateLate = true) :
    (servoBoundary s).func 6 = { mode := 0, pending := none, fellBack := true } := by
  unfold servoBoundary
  rw [if_pos h]
  extract_lets u was host
  split
  · exact fallback_func_self s 6
  · split
    · exact fallback_func_self s 6
    · split <;> exact fallback_func_self s 6

theorem servoUpdate_fallsBack {s : State} (h : s.rateLate = true) (o ts at_ : Int) (held : Bool) :
    (servoUpdate s o ts at_ held).func 6 = { mode := 0, pending := none, fellBack := true } := by
  unfold servoUpdate
  extract_lets u v w
  have hv : v.func 6 = { mode := 0, pending := none, fellBack := true } := servoBoundary_fallsBack (s := u) h
  have hw : Frame [.objs, .ex, .time, .sorus] v w := .step (judgeAlarm_frame _ _) (by decide) (judgeLock_frame _ _ _)
  split
  · exact (func_of_funcs ((fitUpdate_frame v at_ o).funcs rfl) 6).trans hv
  · have hlaw : Frame [.objs, .time] w (if w.hostMode 6 then w else servoLaw w o ts) := .ite (.refl w) (servoLaw_frame w o ts)
    refine (func_of_funcs (s := v) ?_ 6).trans hv
    exact ((noteRate_frame _).funcs rfl).trans ((hlaw.funcs rfl).trans (hw.funcs rfl))

theorem timeServo_fallsBack {o ts at_ : Int} {s : State} (ht : s.ticking = true) (hl : s.rateLate = true)
    (hm : s.time.meas = some (o, ts, at_)) :
    ∃ t, exec .fallbackTimeServo s = .next t ∧ t.time.meas = none ∧ t.func 6 = { mode := 0, pending := none, fellBack := true } := by
  have hexec : exec .fallbackTimeServo s = .next (sealed s (takeMeasurement s)) := congrArg (finish s) (if_pos ⟨ht, hl⟩)
  have htake : takeMeasurement s = servoUpdate (s.updTime fun t => { t with meas := none }) o ts at_ false := by
    simp only [takeMeasurement, hm]
  refine ⟨_, hexec, ?_⟩
  rw [htake]
  exact ⟨servoUpdate_meas _ _ _ _ _, servoUpdate_fallsBack (s := s.updTime fun t => { t with meas := none }) hl o ts at_ false⟩

/-! ### What Steady takes up with arbitration in hardware mode already (R295) -/

section

variable {s : State} {n : Nat} {q : RingReq}

/-- A request that the host has not decided, in the queue of an arbiter that holds no other one. -/
def passedOn (s : State) (n : Nat) (r : GReq) : State :=
  { passReq s n with steady := { (passReq s n).steady with queue := [r] } }

theorem passReq_ring (h : mfind s.steady.ring n = some q) :
    (passReq s n).steady = { s.steady with ring := mset s.steady.ring n { q with state := 3 } } := by
  simp [passReq, closeReq, h]

theorem fallbackPower_passes (hm : s.hostMode 5 = false) (hp : (s.func 5).pending = none) (hu : s.undecided = [(n, q)])
    (hd : q.due ≤ s.tick) (hk : q.req.kind ≠ .commit) (ho : s.steady.overflow = []) (hr : mfind s.steady.ring n = some q)
    (hq : s.steady.queue = []) :
    ∃ t, exec .fallbackPowerArbitration s = .next t ∧ t.func = s.func ∧
      t.steady = { (serveQueue (passedOn s n q.req)).steady with overflow := [] } := by
  have hlate : s.grantLate = true := by simp [State.grantLate, hu, hd]
  have hmode : (passReq s n).hostMode 5 = false := by
    rw [State.hostMode, func_of_funcs (s := s) ((passReq_frame s n).funcs rfl)]
    exact hm
  have hentry : steadyTakesEntry s n q.req = showSteady (serveQueue (passedOn s n q.req)) := by
    have hqueue : (passReq s n).steady.queue = [] := by rw [passReq_ring hr]; exact hq
    simp [steadyTakesEntry, hk, requestGrant, hmode, hqueue, passedOn]
  have htakes : fallbackPower s = { steadyTakesEntry s n q.req with steady := { (steadyTakesEntry s n q.req).steady with overflow := [] } } := by
    simp only [fallbackPower, if_pos hlate, hm, Bool.false_eq_true, if_false, atModeBoundary_idle hp, steadyTakesAll, hu, ho, List.foldl_cons,
      List.foldl_nil]
  have hframe := steadyTakesEntry_frame s n q.req
  have hexec : exec .fallbackPowerArbitration s = .next (sealed s (fallbackPower s)) := rfl
  refine ⟨_, hexec, ?_, ?_⟩ <;> rw [htakes]
  · exact funext (func_of_funcs (hframe.funcs rfl))
  · rw [hentry]
    rfl

/-- What Steady goes by in granting a request that waits. -/
theorem mayServe_congr {s t : State} (hg : t.steady.grants = s.steady.grants) (hc : t.ceiling = s.ceiling)
    (hb : t.steady.budget = s.steady.budget ∧ t.steady.reserve = s.steady.reserve)
    (hp : t.obj Obj.HEATER_POWER 0 = s.obj Obj.HEATER_POWER 0) (hw : t.obj Obj.WRAP_CHARGE_MAX 0 = s.obj Obj.WRAP_CHARGE_MAX 0)
    (hcom : t.com = s.com) (hth : t.therm = s.therm) (r : GReq) : t.mayServe r = s.mayServe r := by
  unfold State.mayServe State.reqFits State.heaterFits State.chargeFits State.headroom State.granted State.windowOpen State.jumpCharge State.objN
  rw [hg, hc, hb.1, hb.2, hp, hw, hcom, hth]

theorem passedOn_steady (h : mfind s.steady.ring n = some q) (r : GReq) :
    (passedOn s n r).steady = { s.steady with ring := mset s.steady.ring n { q with state := 3 }, queue := [r] } := by
  simp [passedOn, passReq_ring h]

theorem passReq_obj (s : State) (n : Nat) {a : Nat} (ha : a ≠ Obj.GREQ_STATE) (b : Nat) : (passReq s n).obj a b = s.obj a b := by
  unfold passReq closeReq
  rw [obj_setObjN_other _ fun e => ha e.1, obj_setObjN_other _ fun e => ha e.1]
  split <;> rfl

theorem passedOn_serves (h : mfind s.steady.ring n = some q) (r : GReq) : (passedOn s n r).mayServe r = s.mayServe r := by
  have hsteady := passReq_ring h
  refine mayServe_congr ?_ ?_ ⟨?_, ?_⟩ (passReq_obj s n (by decide) 0) (passReq_obj s n (by decide) 0) ((passReq_frame s n).com rfl)
    ((passReq_frame s n).therm rfl) r
  · rw [hsteady]
  · change ((passReq s n).steady.ceiling || (passReq s n).steady.frozen) = (s.steady.ceiling || s.steady.frozen)
    rw [hsteady]
  · rw [hsteady]
  · rw [hsteady]

/-- The ring entry of a request that the queue serves: it shows its grant, or, where an older one is alike, reads undecided still. -/
theorem showPassed_ring {r : GReq} (h : mfind s.steady.ring n = some q) (hq : q.state ≠ 0) :
    ∃ u, mfind (showPassed s r).steady.ring n = some u ∧ u.req = q.req ∧ u.state ≠ 0 := by
  unfold showPassed
  split
  case h_2 => exact ⟨q, h, rfl, hq⟩
  case h_1 e he =>
    unfold closeReq
    split
    case h_2 => exact ⟨q, h, rfl, hq⟩
    case h_1 x hx =>
      by_cases hn : n = e.1
      · subst hn
        obtain rfl : q = x := Option.some.inj (h.symm.trans hx)
        exact ⟨{ q with state := 1 }, by simp, rfl, Nat.one_ne_zero⟩
      · exact ⟨q, by simpa [mfind_mset_other, hn] using h, rfl, hq⟩

theorem serveQueue_serves {r : GReq} (hq : s.steady.queue = [r]) (hf : s.steady.frozen = false) (hs : s.mayServe r = true)
    (hu : s.steady.upsets = []) : serveQueue s = showSteady { issueGrant s r with steady := { (issueGrant s r).steady with queue := [] } } := by
  simp [serveQueue, hf, hq, serveList, hs, steadyDecides_sound hf hu]

theorem serveQueue_waits {r : GReq} (hq : s.steady.queue = [r]) (h : s.steady.frozen = true ∨ s.mayServe r = false) :
    (serveQueue s).steady = s.steady := by
  unfold serveQueue
  by_cases hf : s.steady.frozen = true
  · rw [if_pos hf]
  · have hs : s.mayServe r = false := h.resolve_left hf
    rw [if_neg hf, showSteady_steady, hq, serveList, hs]
    exact congrArg (fun l => { s.steady with queue := l }) hq.symm

theorem powerArbitration_takesUp (hm : s.hostMode 5 = false) (hp : (s.func 5).pending = none) (hu : s.undecided = [(n, q)])
    (hd : q.due ≤ s.tick) (hk : q.req.kind ≠ .commit) (ho : s.steady.overflow = []) (hr : mfind s.steady.ring n = some q)
    (hq : s.steady.queue = []) :
    ∃ t, exec .fallbackPowerArbitration s = .next t ∧ t.func = s.func ∧
      if s.steady.frozen = true ∨ s.mayServe q.req = false then
        t.steady.queue = [q.req] ∧ mfind t.steady.ring n = some { q with state := 3 }
      else s.steady.upsets = [] →
        t.steady.queue = [] ∧ t.holds q.req.kind q.req.source = true ∧ ∃ u, mfind t.steady.ring n = some u ∧ u.req = q.req ∧ u.state ≠ 0 := by
  obtain ⟨t, hexec, hfunc, hsteady⟩ := fallbackPower_passes hm hp hu hd hk ho hr hq
  refine ⟨t, hexec, hfunc, ?_⟩
  have hpassed : (passedOn s n q.req).steady = { s.steady with ring := mset s.steady.ring n { q with state := 3 }, queue := [q.req] } :=
    passedOn_steady hr q.req
  have hqueue : (passedOn s n q.req).steady.queue = [q.req] := rfl
  have hfrozen : (passedOn s n q.req).steady.frozen = s.steady.frozen := by rw [hpassed]
  have hring : mfind (passedOn s n q.req).steady.ring n = some { q with state := 3 } := by
    rw [hpassed]
    exact mfind_mset_self _ _ _
  rw [State.holds, hsteady]
  split
  case isTrue h =>
    rw [← hfrozen, ← passedOn_serves hr] at h
    rw [serveQueue_waits hqueue h]
    exact ⟨rfl, hring⟩
  case isFalse h =>
    intro hups
    rw [← hfrozen, ← passedOn_serves hr, not_or, Bool.not_eq_true, Bool.not_eq_false] at h
    rw [serveQueue_serves hqueue h.1 h.2 (by rw [hpassed]; exact hups)]
    have hholds := issueGrant_holds (passedOn s n q.req) q.req
    have hshown := showPassed_ring (r := q.req) hring (Nat.succ_ne_zero 2)
    rw [showSteady_steady]
    exact ⟨rfl, hholds, hshown⟩

end

/-- Settles O19: function by function, what a missed deadline makes. -/
theorem functionsFallBack : Obligations.FunctionsFallBack := by
  unfold Obligations.FunctionsFallBack
  exact ⟨fun _ _ => elementLoops_fallBack, fun _ _ => imageGeneration_fallsBack, fun _ => refinement_fallsBack, fun _ => preEmphasis_noted,
    fun _ => adaptBoundary_fallsBack, fun _ => powerArbitration_fallsBack, fun _ _ _ => powerArbitration_takesUp,
    fun _ => classification_noted, fun _ => classBoundary_fallsBack, fun _ => capture_fallsBack, fun _ _ _ _ => timeServo_fallsBack⟩

end Sys2Proof.Proofs

/-!
SUPPORT. Rules of the loops' records: elements, VOAs and columns, each read after it is written.
-/

namespace Sys2Proof.Proofs

open Sys2Proof Sys2Proof.Machine Sys2Proof.Laws

theorem elem_of_loops {s t : State} (h : t.loops = s.loops) (e : Nat) : t.elem e = s.elem e := by simp [State.elem, h]

theorem elem_of_elems {s t : State} (h : t.loops.elems = s.loops.elems) (e : Nat) : t.elem e = s.elem e := by simp [State.elem, h]

@[simp] theorem setElem_elems (s : State) (e : Nat) (x : Elem) : (s.setElem e x).loops.elems = mset s.loops.elems e x := by
  unfold State.setElem
  extract_lets left l t
  split <;> rfl

theorem setElem_loops (s : State) (e : Nat) (x : Elem) : (s.setElem e x).loops = { s.loops with elems := mset s.loops.elems e x } := by
  unfold State.setElem
  extract_lets left l t
  split <;> rfl

@[simp] theorem elem_setElem (s : State) (e : Nat) (x : Elem) : (s.setElem e x).elem e = x := by
  simp [State.elem]

theorem elem_setElem_other (s : State) {e f : Nat} (x : Elem) (h : f ≠ e) : (s.setElem e x).elem f = s.elem f := by
  simp [State.elem, mget_mset_other _ _ _ h]

@[simp] theorem elem_setColumn (s : State) (c : Nat) (x : Column) (e : Nat) : (s.setColumn c x).elem e = s.elem e := rfl

@[simp] theorem elem_setVoa (s : State) (o : Nat) (x : Voa) (e : Nat) : (s.setVoa o x).elem e = s.elem e := rfl

@[simp] theorem column_setColumn (s : State) (c : Nat) (x : Column) : (s.setColumn c x).column c = x := by
  simp [State.column, State.setColumn]

theorem column_setColumn_other (s : State) {c d : Nat} (x : Column) (h : d ≠ c) : (s.setColumn c x).column d = s.column d := by
  simp [State.column, State.setColumn, mget_mset_other _ _ _ h]

@[simp] theorem column_setElem (s : State) (e : Nat) (x : Elem) (c : Nat) : (s.setElem e x).column c = s.column c := by
  simp [State.column, setElem_loops]

@[simp] theorem voa_setVoa (s : State) (o : Nat) (x : Voa) : (s.setVoa o x).voa o = x := by
  simp [State.voa, State.setVoa]

theorem voa_setVoa_other (s : State) {o p : Nat} (x : Voa) (h : p ≠ o) : (s.setVoa o x).voa p = s.voa p := by
  simp [State.voa, State.setVoa, mget_mset_other _ _ _ h]

@[simp] theorem voa_setElem (s : State) (e : Nat) (x : Elem) (o : Nat) : (s.setElem e x).voa o = s.voa o := by
  simp [State.voa, setElem_loops]

end Sys2Proof.Proofs

/-!
SUPPORT. The proofs of the evaluations of an element (spec/05_loops.md, The inner loop).
-/

namespace Sys2Proof.Proofs

open Sys2Proof Sys2Proof.Machine Sys2Proof.Laws

/-! ### What an evaluation found, and what its later parts keep of it -/

/-- Two records of an element that agree in what an evaluation found. -/
def SameFinding (x y : Elem) : Prop :=
  y.pend = x.pend ∧ y.dark = x.dark ∧ y.unobserved = x.unobserved ∧ y.err = x.err ∧ y.sum = x.sum

/-- Two records of an element that agree in its phase. -/
def SamePhase (x y : Elem) : Prop := y.phiC = x.phiC ∧ y.phiL = x.phiL ∧ y.phiW = x.phiW

theorem SameFinding.refl (x : Elem) : SameFinding x x := ⟨rfl, rfl, rfl, rfl, rfl⟩

theorem SamePhase.refl (x : Elem) : SamePhase x x := ⟨rfl, rfl, rfl⟩

theorem SameFinding.trans {x y z : Elem} (h : SameFinding x y) (k : SameFinding y z) : SameFinding x z := by
  obtain ⟨h1, h2, h3, h4, h5⟩ := h
  obtain ⟨k1, k2, k3, k4, k5⟩ := k
  exact ⟨k1.trans h1, k2.trans h2, k3.trans h3, k4.trans h4, k5.trans h5⟩

theorem SamePhase.trans {x y z : Elem} (h : SamePhase x y) (k : SamePhase y z) : SamePhase x z := by
  obtain ⟨h1, h2, h3⟩ := h
  obtain ⟨k1, k2, k3⟩ := k
  exact ⟨k1.trans h1, k2.trans h2, k3.trans h3⟩

theorem SamePhase.phi {x y : Elem} (h : SamePhase x y) : y.phi = x.phi := by
  obtain ⟨hc, hl, hw⟩ := h
  rw [Elem.phi, Elem.phi, hc, hl, hw]

theorem pauseWrap_keeps (x : Elem) (tick : Nat) :
    SameFinding x (x.pauseWrap tick) ∧ SamePhase x (x.pauseWrap tick) ∧ (x.pauseWrap tick).stepping = x.stepping := by
  unfold Elem.pauseWrap
  split
  · split <;> exact ⟨.refl x, .refl x, rfl⟩
  · exact ⟨.refl x, .refl x, rfl⟩

theorem transition_keeps (s : State) (e : Nat) (x : Elem) (clip live : Bool) :
    SameFinding x (transition s e x clip live) ∧ SamePhase x (transition s e x clip live) ∧
      (s.mustDisable e = false → (transition s e x clip live).stepping = x.stepping) := by
  obtain ⟨hfound, hphase, hstep⟩ := pauseWrap_keeps x s.tick
  unfold transition
  extract_lets locks
  split
  case isTrue h => exact ⟨hfound, hphase, fun hno => absurd (hno ▸ h) (by decide)⟩
  case isFalse =>
    split
    · exact ⟨.refl x, .refl x, fun _ => rfl⟩
    split
    · exact ⟨.refl x, .refl x, fun _ => rfl⟩
    split
    · exact ⟨.refl x, .refl x, fun _ => rfl⟩
    split
    · exact ⟨.refl x, .refl x, fun _ => rfl⟩
    split
    · exact ⟨hfound, hphase, fun _ => hstep⟩
    · exact ⟨.refl x, .refl x, fun _ => rfl⟩

theorem meanUpdate_keeps (s : State) (x : Elem) :
    SameFinding x (meanUpdate s x) ∧ SamePhase x (meanUpdate s x) ∧ (meanUpdate s x).stepping = x.stepping := by
  unfold meanUpdate
  split <;> exact ⟨.refl x, .refl x, rfl⟩

/-- What is made of an element after its inner law: the flags of TAP_DEAD, its transition and its mean. -/
def judged (s : State) (e : Nat) (x : Elem) (clip live : Bool) (pa pb ua ub : Sample) : Elem :=
  meanUpdate s (transition s e (if x.state = .saturated then deadFlags s x pa pb ua ub else x) clip live)

theorem judged_keeps (s : State) (e : Nat) (x : Elem) (clip live : Bool) (pa pb ua ub : Sample) :
    let y := judged s e x clip live pa pb ua ub
    SameFinding x y ∧ SamePhase x y ∧ (s.mustDisable e = false → y.stepping = x.stepping) := by
  have hflags : let y := if x.state = .saturated then deadFlags s x pa pb ua ub else x
      SameFinding x y ∧ SamePhase x y ∧ y.stepping = x.stepping := by
    dsimp only
    split <;> exact ⟨.refl x, .refl x, rfl⟩
  unfold judged
  generalize (if x.state = .saturated then deadFlags s x pa pb ua ub else x) = y at hflags ⊢
  obtain ⟨hfound, hphase, hstep⟩ := transition_keeps s e y clip live
  obtain ⟨hfound', hphase', hstep'⟩ := meanUpdate_keeps s (transition s e y clip live)
  exact ⟨hflags.1.trans (hfound.trans hfound'), hflags.2.1.trans (hphase.trans hphase'), fun h => hstep'.trans ((hstep h).trans hflags.2.2)⟩

/-! ### The inner step (R141) -/

/-- In host-assisted mode nothing moves. -/
theorem innerStep_host {s : State} {e : Nat} {x : Elem} (h : s.hostIn x.pendScan = true) (c : ErrTests) :
    SamePhase x (innerStep s e x c).1 ∧ (innerStep s e x c).1.stepping = false := by
  unfold innerStep
  rw [if_pos h]
  exact ⟨.refl x, rfl⟩

/-- A LOCKED element out of both bands moves φl by STEP, where φ stays within the Pockels limit. -/
theorem innerStep_moves {s : State} {e : Nat} {x : Elem} {c : ErrTests} (h : s.hostIn x.pendScan = false) (hs : x.state = .locked)
    (ho : c.outBand = true) (hi : c.outInner = true)
    (hlim : ((x.phiC + x.phiL - s.fringe e * c.sign * s.law Obj.STEP 0 + x.phiW).natAbs : Int) ≤ s.pockelsLimit e) :
    (innerStep s e x c).1.phiL = x.phiL - s.fringe e * c.sign * s.law Obj.STEP 0 ∧ (innerStep s e x c).1.stepping = true := by
  have hstep : (if (!x.stepping && true) = true then true else if (x.stepping && !true) = true then false else x.stepping) = true := by
    cases x.stepping <;> rfl
  unfold innerStep
  simp only [h, hs, ho, hi, hstep, Bool.false_eq_true, if_false, true_or, if_true, reduceCtorEq, if_neg (not_lt.mpr hlim), and_self]

theorem innerStep_finding (s : State) (e : Nat) (x : Elem) (c : ErrTests) : SameFinding x (innerStep s e x c).1 := by
  unfold innerStep
  extract_lets lim clip stepping y z w move want
  have hz : SameFinding x z := by
    simp only [z]
    split <;> exact .refl x
  have hw : SameFinding x w := by
    simp only [w]
    split
    · split
      · exact hz.trans (.refl z)
      split
      · exact hz.trans (.refl z)
      · exact hz.trans (.refl z)
    · exact hz
  split
  · exact .refl x
  split
  · split
    · exact hw.trans (.refl w)
    · exact hw.trans (.refl w)
  · exact hz.trans (.refl z)

/-! ### The inner law, and how an evaluation ends -/

theorem evalLaw_dim {s : State} {e : Nat} {x : Elem} {pa pb : Sample} {dark unobs : Bool} (h : (dark || unobs) = true) :
    let r := evalLaw s e x pa pb dark unobs
    r.1 = s ∧ SameFinding x r.2.1 ∧ SamePhase x r.2.1 := by
  unfold evalLaw
  rw [if_pos h]
  exact ⟨rfl, .refl x, .refl x⟩

theorem evalLaw_finding (s : State) (e : Nat) (x : Elem) (pa pb : Sample) (dark unobs : Bool) :
    SameFinding x (evalLaw s e x pa pb dark unobs).2.1 := by
  unfold evalLaw
  split
  · exact .refl x
  · exact (innerStep_finding _ e x _).trans (.refl _)

theorem noteDecision_elem (s : State) (e : Nat) (old : LoopState) (f : Nat) : (noteDecision s e old).elem f = s.elem f := rfl

theorem noteDecision_drv (s : State) (e : Nat) (old : LoopState) : (noteDecision s e old).drv = s.drv := rfl

theorem evalEnd_elem (s : State) (e : Nat) (old : Int) (stepped : Bool) (y : Elem) : (evalEnd s e old stepped y).elem e = y := by
  unfold evalEnd
  extract_lets u v
  have hv : v.elem e = y := by
    have hkeep : Frame [.cal] u v := .ite (noteNoise_frame u e y) (.refl u)
    exact (elem_of_loops (hkeep.loops rfl) e).trans (elem_setElem s e y)
  split
  · exact (elem_of_loops ((followPhi_frame v e).loops rfl) e).trans hv
  · exact hv

/-- An evaluation that leaves φ as it was drives nothing. -/
theorem evalEnd_still {s : State} {e : Nat} {old : Int} {y : Elem} (h : y.phi = old) (stepped : Bool) :
    Frame [.sorus, .loops, .cal] s (evalEnd s e old stepped y) ∧
      (stepped = false → Frame [.sorus, .loops] s (evalEnd s e old stepped y)) := by
  have hset := State.setElem_frame s e y
  unfold evalEnd
  rw [if_neg (not_not.mpr h)]
  refine ⟨.ite (.step (noteNoise_frame _ e y) (by decide) (hset.mono (by decide))) (hset.mono (by decide)), fun hs => ?_⟩
  rw [hs]
  exact hset

/-! ### Evaluations -/

/-- A record with what an evaluation found of it. -/
def found (x : Elem) (pa pb : Sample) (dark unobs : Bool) : Elem :=
  { x with pend := none, dark := dark, unobserved := unobs, err := errOf x.t pa.p pb.p, sum := pa.p + pb.p }

section

variable {s : State} {e : Nat} {pa pb ua ub : Sample}

theorem elementEvaluation_evaluates (he : e < 40960) (hp : (s.elem e).pend = some (pa, pb, ua, ub)) (hr : s.loopsRun = true)
    (hs : (s.elem e).suspended = false) (hk : s.dev.refclkLost = false) :
    exec (.elementEvaluation e) s = .next (sealed s (noteDecision (evaluate s e pa pb ua ub) e (s.elem e).state)) := by
  change execElementEvaluation e s = _
  simp only [execElementEvaluation, hp, hr, hs, hk, he, Bool.not_false, Bool.and_true, decide_true, if_true]
  rfl

/-- An evaluation of an element whose loop runs, on valid samples: the inner law on what it found, and its end. -/
theorem evaluate_eq (ho : (s.elem e).state ≠ .opened) (hd : (s.elem e).state ≠ .disabled) (ha : pa.inv = false) (hb : pb.inv = false) :
    let dark := decide (pa.p + pb.p < s.law Obj.DARK_LEVEL 0)
    let unobs := !dark && s.unobservedBy ua ub
    let r := evalLaw s e (found (s.elem e) pa pb dark unobs) pa pb dark unobs
    evaluate s e pa pb ua ub =
      evalEnd r.1 e (s.elem e).phi (!dark && !unobs) (judged r.1 e r.2.1 r.2.2 (!dark && !unobs) pa pb ua ub) := by
  have hopen : ¬ (({ s.elem e with pend := none } : Elem).state = .opened ∨ ({ s.elem e with pend := none } : Elem).state = .disabled) := by
    simp [ho, hd]
  unfold evaluate
  rw [if_neg hopen, ha, hb, if_neg (by decide)]
  rfl

theorem evaluation_dark (he : e < 40960) (hp : (s.elem e).pend = some (pa, pb, ua, ub)) (hr : s.loopsRun = true)
    (hs : (s.elem e).suspended = false) (hk : s.dev.refclkLost = false) (ha : pa.inv = false) (hb : pb.inv = false)
    (ho : (s.elem e).state ≠ .opened) (hd : (s.elem e).state ≠ .disabled) (hsum : pa.p + pb.p < s.law Obj.DARK_LEVEL 0) :
    ∃ t, exec (.elementEvaluation e) s = .next t ∧ (t.elem e).pend = none ∧ (t.elem e).dark = true ∧ t.drv = s.drv ∧
      (t.elem e).phi = (s.elem e).phi ∧ Frame [.ex, .sorus, .loops] s t := by
  have hrun := elementEvaluation_evaluates he hp hr hs hk
  have heq := evaluate_eq (e := e) (ua := ua) (ub := ub) ho hd ha hb
  simp only [decide_eq_true hsum, Bool.not_true, Bool.false_and] at heq
  obtain ⟨hsame, hfound, hphase⟩ := evalLaw_dim (s := s) (e := e) (x := found (s.elem e) pa pb true false) (pa := pa) (pb := pb)
    (dark := true) (unobs := false) rfl
  generalize evalLaw s e (found (s.elem e) pa pb true false) pa pb true false = r at heq hsame hfound hphase
  obtain ⟨u, x, clip⟩ := r
  obtain rfl : u = s := hsame
  obtain ⟨hfound', hphase', -⟩ := judged_keeps u e x clip false pa pb ua ub
  generalize judged u e x clip false pa pb ua ub = y at heq hfound' hphase'
  obtain ⟨hpend, hdark, -⟩ := hfound.trans hfound'
  have hphi : y.phi = (u.elem e).phi := (hphase.trans hphase').phi
  have hframe := (evalEnd_still (s := u) (e := e) hphi false).2 rfl
  refine ⟨_, hrun, ?_⟩
  rw [heq]
  generalize hv : evalEnd u e (u.elem e).phi false y = v at hframe
  have hy : v.elem e = y := hv ▸ evalEnd_elem u e _ _ y
  have hend : (sealed u (noteDecision v e (u.elem e).state)).elem e = y := hy
  rw [hend]
  exact ⟨hpend, hdark, hframe.drv rfl, hphi,
    frame_sealed (.step (noteDecision_frame v e _) (by decide) (hframe.mono (by decide))) (by decide)⟩

theorem evaluation_unobserved (he : e < 40960) (hp : (s.elem e).pend = some (pa, pb, ua, ub)) (hr : s.loopsRun = true)
    (hs : (s.elem e).suspended = false) (hk : s.dev.refclkLost = false) (ha : pa.inv = false) (hb : pb.inv = false)
    (ho : (s.elem e).state ≠ .opened) (hd : (s.elem e).state ≠ .disabled) (hsum : s.law Obj.DARK_LEVEL 0 ≤ pa.p + pb.p)
    (hu : s.unobservedBy ua ub = true) :
    ∃ t, exec (.elementEvaluation e) s = .next t ∧ (t.elem e).pend = none ∧ (t.elem e).dark = false ∧
      (t.elem e).unobserved = true ∧ (t.elem e).phi = (s.elem e).phi ∧ t.drv = s.drv := by
  have hrun := elementEvaluation_evaluates he hp hr hs hk
  have heq := evaluate_eq (e := e) (ua := ua) (ub := ub) ho hd ha hb
  simp only [decide_eq_false (not_lt.mpr hsum), hu, Bool.not_false, Bool.and_self, Bool.not_true, Bool.and_false] at heq
  obtain ⟨hsame, hfound, hphase⟩ := evalLaw_dim (s := s) (e := e) (x := found (s.elem e) pa pb false true) (pa := pa) (pb := pb)
    (dark := false) (unobs := true) rfl
  generalize evalLaw s e (found (s.elem e) pa pb false true) pa pb false true = r at heq hsame hfound hphase
  obtain ⟨u, x, clip⟩ := r
  obtain rfl : u = s := hsame
  obtain ⟨hfound', hphase', -⟩ := judged_keeps u e x clip false pa pb ua ub
  generalize judged u e x clip false pa pb ua ub = y at heq hfound' hphase'
  obtain ⟨hpend, hdark, hunobs, -⟩ := hfound.trans hfound'
  have hphi : y.phi = (u.elem e).phi := (hphase.trans hphase').phi
  have hframe := (evalEnd_still (s := u) (e := e) hphi false).2 rfl
  refine ⟨_, hrun, ?_⟩
  rw [heq]
  generalize hv : evalEnd u e (u.elem e).phi false y = v at hframe
  have hy : v.elem e = y := hv ▸ evalEnd_elem u e _ _ y
  have hend : (sealed u (noteDecision v e (u.elem e).state)).elem e = y := hy
  rw [hend]
  exact ⟨hpend, hdark, hunobs, hphi, hframe.drv rfl⟩

/-- An evaluation of a lit, observed element: the element is what the inner law made of it. -/
theorem evaluation_lit (he : e < 40960) (hp : (s.elem e).pend = some (pa, pb, ua, ub)) (hr : s.loopsRun = true)
    (hs : (s.elem e).suspended = false) (hk : s.dev.refclkLost = false) (ha : pa.inv = false) (hb : pb.inv = false)
    (ho : (s.elem e).state ≠ .opened) (hd : (s.elem e).state ≠ .disabled) (hsum : s.law Obj.DARK_LEVEL 0 ≤ pa.p + pb.p)
    (hu : s.unobservedBy ua ub = false) :
    let r := evalLaw s e (found (s.elem e) pa pb false false) pa pb false false
    let y := judged r.1 e r.2.1 r.2.2 true pa pb ua ub
    ∃ t, exec (.elementEvaluation e) s = .next t ∧ t.elem e = y ∧ (y.phi = (s.elem e).phi → t.drv = r.1.drv) := by
  have hrun := elementEvaluation_evaluates he hp hr hs hk
  have heq := evaluate_eq (e := e) (ua := ua) (ub := ub) ho hd ha hb
  simp only [decide_eq_false (not_lt.mpr hsum), hu, Bool.not_false, Bool.and_false, Bool.and_self] at heq
  dsimp only
  generalize evalLaw s e (found (s.elem e) pa pb false false) pa pb false false = r at heq ⊢
  generalize judged r.1 e r.2.1 r.2.2 true pa pb ua ub = y at heq ⊢
  have hy := evalEnd_elem r.1 e (s.elem e).phi true y
  have hstill : y.phi = (s.elem e).phi → (evalEnd r.1 e (s.elem e).phi true y).drv = r.1.drv := fun hphi =>
    (evalEnd_still (s := r.1) (e := e) hphi true).1.drv rfl
  refine ⟨_, hrun, ?_⟩
  rw [heq]
  exact ⟨hy, hstill⟩

theorem evaluation_finds (he : e < 40960) (hp : (s.elem e).pend = some (pa, pb, ua, ub)) (hr : s.loopsRun = true)
    (hs : (s.elem e).suspended = false) (hk : s.dev.refclkLost = false) (ha : pa.inv = false) (hb : pb.inv = false)
    (ho : (s.elem e).state ≠ .opened) (hd : (s.elem e).state ≠ .disabled) (hsum : s.law Obj.DARK_LEVEL 0 ≤ pa.p + pb.p)
    (hu : s.unobservedBy ua ub = false) :
    ∃ t, exec (.elementEvaluation e) s = .next t ∧ (t.elem e).pend = none ∧ (t.elem e).dark = false ∧
      (t.elem e).err = errOf (s.elem e).t pa.p pb.p ∧ (t.elem e).sum = pa.p + pb.p := by
  obtain ⟨t, hexec, hy, -⟩ := evaluation_lit he hp hr hs hk ha hb ho hd hsum hu
  have hfound := evalLaw_finding s e (found (s.elem e) pa pb false false) pa pb false false
  obtain ⟨hpend, hdark, -, herr, hsum'⟩ := hfound.trans (judged_keeps _ e _ _ true pa pb ua ub).1
  refine ⟨t, hexec, ?_⟩
  rw [hy]
  exact ⟨hpend, hdark, herr, hsum'⟩

/-- The inner law of a lit, observed element, its tests made: they leave all but the monitor's lanes as it was. -/
theorem evalLaw_lit (x : Elem) {c : ErrTests} (hc : c = (errTests s e x.t pa pb).2) :
    let r := evalLaw s e x pa pb false false
    ∃ m, r.1 = { s with mon := m } ∧ SamePhase (innerStep s e x c).1 r.2.1 ∧ r.2.1.stepping = (innerStep s e x c).1.stepping := by
  subst hc
  exact ⟨_, rfl, .refl _, rfl⟩

theorem evaluation_locked {c : ErrTests} (he : e < 40960) (hp : (s.elem e).pend = some (pa, pb, ua, ub)) (hr : s.loopsRun = true)
    (hs : (s.elem e).suspended = false) (hk : s.dev.refclkLost = false) (ha : pa.inv = false) (hb : pb.inv = false)
    (hl : (s.elem e).state = .locked) (hsum : s.law Obj.DARK_LEVEL 0 ≤ pa.p + pb.p)
    (hu : s.unobservedBy ua ub = false) (hm : s.mustDisable e = false) (hc : c = (errTests s e (s.elem e).t pa pb).2) :
    (s.hostIn (s.elem e).pendScan = false → c.outBand = true → c.outInner = true →
      (((s.elem e).phiC + (s.elem e).phiL - s.fringe e * c.sign * s.law Obj.STEP 0 + (s.elem e).phiW).natAbs : Int) ≤
        s.pockelsLimit e →
      ∃ t, exec (.elementEvaluation e) s = .next t ∧
        (t.elem e).phiL = (s.elem e).phiL - s.fringe e * c.sign * s.law Obj.STEP 0 ∧ (t.elem e).stepping = true) ∧
    (s.hostIn (s.elem e).pendScan = true →
      ∃ t, exec (.elementEvaluation e) s = .next t ∧ (t.elem e).phi = (s.elem e).phi ∧ (t.elem e).stepping = false ∧ t.drv = s.drv) := by
  obtain ⟨t, hexec, hy, hdrv⟩ := evaluation_lit he hp hr hs hk ha hb (by simp [hl]) (by simp [hl]) hsum hu
  obtain ⟨m, hmon, hphase, hstep⟩ := evalLaw_lit (s := s) (e := e) (found (s.elem e) pa pb false false) hc
  generalize evalLaw s e (found (s.elem e) pa pb false false) pa pb false false = r at hy hdrv hmon hphase hstep
  have hjudged := judged_keeps r.1 e r.2.1 r.2.2 true pa pb ua ub
  generalize judged r.1 e r.2.1 r.2.2 true pa pb ua ub = y at hy hdrv hjudged
  obtain ⟨-, hphase', hstep'⟩ := hjudged
  replace hstep' := (hstep' (by rw [hmon]; exact hm)).trans hstep
  replace hphase' := hphase.trans hphase'
  refine ⟨fun hh hout hin hlim => ⟨t, hexec, ?_⟩, fun hh => ⟨t, hexec, ?_⟩⟩ <;> rw [hy]
  · obtain ⟨hmove, hsteps⟩ := innerStep_moves (s := s) (e := e) (x := found (s.elem e) pa pb false false) hh hl hout hin hlim
    exact ⟨hphase'.2.1.trans hmove, hstep'.trans hsteps⟩
  · obtain ⟨hstill, hsteps⟩ := innerStep_host (s := s) (e := e) (x := found (s.elem e) pa pb false false) hh c
    have hphi : y.phi = (s.elem e).phi := (hstill.trans hphase').phi
    exact ⟨hphi, hstep'.trans hsteps, (hdrv hphi).trans (by rw [hmon])⟩

theorem evaluation_discards (he : e < 40960) (hp : (s.elem e).pend = some (pa, pb, ua, ub)) (hr : s.loopsRun = true)
    (hs : (s.elem e).suspended = false) (hk : s.dev.refclkLost = false)
    (hno : (s.elem e).state = .opened ∨ pa.inv = true ∨ pb.inv = true) :
    ∃ t, exec (.elementEvaluation e) s = .next t ∧ t.elem e = { s.elem e with pend := none } ∧ t.drv = s.drv := by
  have hrun := elementEvaluation_evaluates he hp hr hs hk
  have heq : evaluate s e pa pb ua ub = s.setElem e { s.elem e with pend := none } := by
    unfold evaluate
    extract_lets x old sum dark unobs y r z
    split
    case isTrue => rfl
    case isFalse h =>
      have hinv : (pa.inv || pb.inv) = true := by
        rcases hno with ho | ha | hb
        · exact absurd (.inl ho) h
        · rw [ha, Bool.true_or]
        · rw [hb, Bool.or_true]
      rw [if_pos hinv]
  refine ⟨_, hrun, ?_⟩
  rw [heq]
  exact ⟨elem_setElem s e _, setElem_drv s e _⟩

end

/-- Settles O21: what an evaluation makes of an element, lit or dark, observed or not. -/
theorem elementEvaluations : Obligations.ElementEvaluations := by
  unfold Obligations.ElementEvaluations
  exact ⟨fun _ _ _ _ _ _ => evaluation_dark, fun _ _ _ _ _ _ => evaluation_finds, fun _ _ _ _ _ _ => evaluation_unobserved,
    fun _ _ _ _ _ _ _ he hp hr hs hk ha hb hl _ hsum hu hm hc => evaluation_locked he hp hr hs hk ha hb hl hsum hu hm hc,
    fun _ _ _ _ _ _ he hp hr hs hk _ hno => evaluation_discards he hp hr hs hk hno⟩

end Sys2Proof.Proofs

/-!
SUPPORT. The proofs of the outer loop and the bias offload (spec/05_loops.md, The outer loop, Bias offload).
-/

namespace Sys2Proof.Proofs

open Sys2Proof Sys2Proof.Machine Sys2Proof.Laws

/-! ### Loop parameters in force (R165) -/

/-- What a loop parameter in force goes by. -/
theorem law_congr {s t : State} {a : Nat} (hh : t.loops.held = s.loops.held) (ht : t.tick = s.tick) (ho : ∀ k, t.obj a k = s.obj a k)
    (hp : t.obj Obj.OUTER_PERIOD 0 = s.obj Obj.OUTER_PERIOD 0) (hv : t.obj Obj.VOA_PERIOD 0 = s.obj Obj.VOA_PERIOD 0) (k : Nat) :
    t.law a k = s.law a k := by
  unfold State.law State.periodCode State.lawTaken State.objN State.scan
  rw [hh, ht, ho, hp, hv]

theorem law_setElem (s : State) (e : Nat) (x : Elem) (a k : Nat) : (s.setElem e x).law a k = s.law a k :=
  law_congr (by rw [setElem_loops]) (setElem_tick s e x) (fun k => by rw [State.obj, State.obj, setElem_objs])
    (by rw [State.obj, State.obj, setElem_objs]) (by rw [State.obj, State.obj, setElem_objs]) k

theorem countStore_obj (s : State) (cols : List Nat) (sat inv : Bool) {a : Nat} (hi : a ≠ Obj.INV_COUNT) (hs : a ≠ Obj.SAT_COUNT) (k : Nat) :
    (countStore s cols sat inv).obj a k = s.obj a k := by
  refine foldl_keeps (g := fun s => s.obj a k) (fun s c => ?_) cols s
  split
  · exact obj_incSat_other _ fun h => hi h.1
  · split
    · exact obj_incSat_other _ fun h => hs h.1
    · rfl

theorem law_countStore (s : State) (cols : List Nat) (sat inv : Bool) {a : Nat} (hi : a ≠ Obj.INV_COUNT) (hs : a ≠ Obj.SAT_COUNT) (k : Nat) :
    (countStore s cols sat inv).law a k = s.law a k := by
  have hf := countStore_frame s cols sat inv
  exact law_congr (by rw [hf.loops rfl]) (hf.tick rfl) (countStore_obj s cols sat inv hi hs)
    (countStore_obj s cols sat inv (by decide) (by decide) 0) (countStore_obj s cols sat inv (by decide) (by decide) 0) k

/-! ### The comparison of two quotients (R183) -/

theorem storeQ15_range (a : Acc) (n : Int) : -32768 ≤ (a.storeQ15 n).p ∧ (a.storeQ15 n).p ≤ 32767 := by
  unfold Acc.storeQ15 Acc.store
  split
  · dsimp only
    split <;> decide
  · simp only [clampInt]
    split
    · decide
    · split <;> omega

/-- The one condition of the ratio kernel: the sign of leak · wanted' − wanted · leak'. -/
theorem ratioKernel_run (x : DpLane) (b : Nat) (leak want leak' want' : Sample) :
    ((x.load (ratioKernel b leak want leak' want').1).run (ratioKernel b leak want leak' want').2).2 =
      [((({} : Acc).mac leak want').msub want leak').sign] := by
  have hword : ∀ a : Nat, mget {} (mset (mset (mset (mset x.mem (b + 43) leak) (b + 44) want) (b + 45) leak') (b + 46) want') a =
      if a = b + 46 then want' else if a = b + 45 then leak' else if a = b + 44 then want else if a = b + 43 then leak else mget {} x.mem a := by
    intro a
    repeat' split
    all_goals simp_all [mget_mset_other]
  simp [ratioKernel, DpLane.load, DpLane.run, DpLane.step, DpLane.acc, DpLane.setAcc, DpLane.word, hword]

/-- The range of a Q15 word. -/
def inQ15 (v : Int) : Prop := -32768 ≤ v ∧ v ≤ 32767

theorem inQ15_mul {a b : Int} (ha : inQ15 a) (hb : inQ15 b) : -1073741824 ≤ a * b ∧ a * b ≤ 1073741824 := by
  obtain ⟨ha, ha'⟩ := ha
  obtain ⟨hb, hb'⟩ := hb
  constructor <;> nlinarith

/-- A product of two Q15 words less another is far from the accumulator's end. -/
theorem mac_msub {a b c d : Sample} (ha : inQ15 a.p) (hb : inQ15 b.p) (hc : inQ15 c.p) (hd : inQ15 d.p) :
    ((({} : Acc).mac a b).msub c d) = { x := a.p * b.p - c.p * d.p, guard := 0, inv := a.inv || b.inv || (c.inv || d.inv) } := by
  obtain ⟨h1, h2⟩ := inQ15_mul ha hb
  obtain ⟨h3, h4⟩ := inQ15_mul hc hd
  have hfirst : -549755813888 ≤ 0 + a.p * b.p ∧ 0 + a.p * b.p < 549755813888 := by omega
  have hboth : -549755813888 ≤ 0 + a.p * b.p + -(c.p * d.p) ∧ 0 + a.p * b.p + -(c.p * d.p) < 549755813888 := by omega
  have hmac : ({} : Acc).mac a b = { x := 0 + a.p * b.p, guard := 0, inv := false || (a.inv || b.inv) } := by
    simp only [Acc.mac, Acc.plus, hfirst, and_self, decide_true, if_true, Bool.true_or]
  rw [hmac]
  simp only [Acc.msub, Acc.plus, hboth, and_self, decide_true, if_true, Bool.true_or, Bool.false_or]
  rw [zero_add, sub_eq_add_neg]

/-! ### The end of an outer period (R146) -/

section

variable {s : State} {e : Nat}

theorem outerPeriodEnd_ends (hd : s.outerDue e = true) (hr : s.loopsRun = true) (he : e < 40960) :
    exec (.outerPeriodEnd e) s = .next (sealed s (outerEnd s e)) :=
  congrArg (finish s) (if_pos (by simp [hd, hr, he]))

/-- The means of an element's period counted, and nothing else. -/
def outerCounted (s : State) (e : Nat) (leak want : Sample) : State :=
  countStore (countStore s [columnOf e] leak.sat leak.inv) [columnOf e] want.sat want.inv

/-- A run of steps that each change objects alone does so too. -/
theorem foldl_objs {β : Type} {f : State → β → State} (hf : ∀ s b, ∃ m, f s b = { s with objs := m }) (l : List β) (s : State) :
    ∃ m, l.foldl f s = { s with objs := m } := by
  induction l generalizing s with
  | nil => exact ⟨s.objs, rfl⟩
  | cons b l ih =>
    obtain ⟨m, hm⟩ := hf s b
    rw [List.foldl_cons, hm]
    exact ih { s with objs := m }

theorem countStore_eq (s : State) (cols : List Nat) (sat inv : Bool) : ∃ m, countStore s cols sat inv = { s with objs := m } := by
  refine foldl_objs (fun s c => ?_) cols s
  split
  · exact ⟨_, rfl⟩
  · split
    · exact ⟨_, rfl⟩
    · exact ⟨s.objs, rfl⟩

theorem outerCounted_eq (s : State) (e : Nat) (leak want : Sample) : ∃ m, outerCounted s e leak want = { s with objs := m } := by
  unfold outerCounted
  obtain ⟨m, hm⟩ := countStore_eq s [columnOf e] leak.sat leak.inv
  obtain ⟨m', hm'⟩ := countStore_eq { s with objs := m } [columnOf e] want.sat want.inv
  rw [hm]
  exact ⟨m', hm'⟩

theorem outerCounted_law (s : State) (e : Nat) (leak want : Sample) {a : Nat} (hi : a ≠ Obj.INV_COUNT) (hs : a ≠ Obj.SAT_COUNT) (k : Nat) :
    (outerCounted s e leak want).law a k = s.law a k :=
  (law_countStore _ _ _ _ hi hs k).trans (law_countStore _ _ _ _ hi hs k)

theorem outerEnd_eq {o : OuterSum} (ho : (s.elem e).outerOf (s.scan - periodScans (s.lawN Obj.OUTER_PERIOD 0)) = some o) :
    outerEnd s e =
      let m := o.means (s.lawN Obj.OUTER_PERIOD 0)
      let u := outerCounted s e m.1 m.2
      if u.outerActs e (periodScans (s.lawN Obj.OUTER_PERIOD 0)) o then outerLaw u e m.1 m.2 else u := by
  unfold outerEnd
  simp only [ho]
  rfl

theorem outerActs_counted (leak want : Sample) (n : Nat) (o : OuterSum) :
    (outerCounted s e leak want).outerActs e n o = s.outerActs e n o := by
  obtain ⟨m, hm⟩ := outerCounted_eq s e leak want
  rw [hm]
  rfl

/-- Noting a cell's ratio changes no other part of its elements' records. -/
theorem noteRatio_elem (s : State) (k e : Nat) : ∃ r, (noteRatio s k).elem e = { s.elem e with ratio := r } := by
  unfold noteRatio
  by_cases h : e = 2 * k
  · subst h
    exact ⟨_, elem_setElem s _ _⟩
  · exact ⟨(s.elem e).ratio, elem_setElem_other s _ h⟩

/-- The comparison of two quotients on a lane: it leaves all but the monitor's lanes as it was, and gives the sign where no mean is
invalid. -/
theorem outer_run {leak want : Sample} {l w : Int} (hlp : inQ15 leak.p) (hwp : inQ15 want.p) (hl : inQ15 l) (hw : inQ15 w) :
    ∃ m x, runKernel s (columnOf e) (laneNo e) (ratioKernel (laneBase e) leak want (opnd l) (opnd w)) =
      ({ s with mon := m }, x, [if (leak.inv || want.inv) = true then none else some (sgn (leak.p * w - want.p * l))]) := by
  have hcond := ratioKernel_run (s.lane (columnOf e) (laneNo e)) (laneBase e) leak want (opnd l) (opnd w)
  have hsign : ((({} : Acc).mac leak (opnd w)).msub want (opnd l)).sign =
      if (leak.inv || want.inv) = true then none else some (sgn (leak.p * w - want.p * l)) := by
    rw [mac_msub (b := opnd w) (d := opnd l) hlp hw hwp hl]
    cases ha : leak.inv <;> cases hb : want.inv <;> simp [Acc.sign, Acc.judges, sgn, opnd]
  rw [hsign] at hcond
  exact ⟨_, _, Prod.ext rfl (Prod.ext rfl hcond)⟩

theorem sgn_eq_one (v : Int) : (sgn v == 1) = decide (0 < v) := by
  unfold sgn
  split
  · simp; omega
  · split <;> simp <;> omega

/-- The set-point, the direction and the kept means of an element after a move of its outer loop. -/
def outerMoved (s : State) (x : Elem) (leak want : Int) (back : Bool) : Elem :=
  let dir := if back then -x.dir else x.dir
  let t := clampInt (s.law Obj.T_MIN 0) (s.law Obj.T_MAX 0) (x.t + dir * s.law Obj.OUTER_STEP 0)
  { x with dir := dir, t := t, target := if x.target = x.t then t else x.target, xLast := some (leak, want) }

/-- The outer law on means that give a condition. -/
theorem outerLaw_moves {leak want : Sample} (hl : leak.inv = false) (hw : want.inv = false) (hlp : inQ15 leak.p) (hwp : inQ15 want.p)
    (hx : inQ15 ((s.elem e).xLast.getD (32767, 0)).1 ∧ inQ15 ((s.elem e).xLast.getD (32767, 0)).2) :
    let p := (s.elem e).xLast.getD (32767, 0)
    ∃ r, (outerLaw s e leak want).elem e =
      { outerMoved s (s.elem e) leak.p want.p ((s.elem e).xLast.isSome && decide (want.p * p.1 < leak.p * p.2)) with ratio := r } := by
  intro p
  obtain ⟨m, x, hrun⟩ := outer_run (s := s) (e := e) hlp hwp hx.1 hx.2
  have hback : (sgn (leak.p * p.2 - want.p * p.1) == 1) = decide (want.p * p.1 < leak.p * p.2) :=
    (sgn_eq_one _).trans (decide_eq_decide.mpr Int.sub_pos)
  unfold outerLaw
  simp only [hrun, hl, hw, Bool.or_false, Bool.false_eq_true, if_false, List.getD_cons_zero, Option.map_some]
  rw [hback]
  exact (noteRatio_elem _ (cellOf e) e).imp fun r hr => hr.trans (by rw [elem_setElem]; rfl)

/-- The outer law on a mean that is tagged invalid. -/
theorem outerLaw_invalid {leak want : Sample} (h : leak.inv = true ∨ want.inv = true) : (outerLaw s e leak want).loops = s.loops := by
  have hnone (l w : Int) : ((({} : Acc).mac leak (opnd w)).msub want (opnd l)).sign = none := by
    refine if_neg ?_
    rcases h with h | h <;> simp [Acc.judges, Acc.msub, Acc.mac, Acc.plus, h]
  have hrun (p : Int × Int) : ∃ m x, runKernel s (columnOf e) (laneNo e) (ratioKernel (laneBase e) leak want (opnd p.1) (opnd p.2)) =
      ({ s with mon := m }, x, [none]) :=
    ⟨_, _, Prod.ext rfl (Prod.ext rfl ((ratioKernel_run _ _ _ _ _ _).trans (congrArg (fun c => [c]) (hnone p.1 p.2))))⟩
  obtain ⟨m, x, hx⟩ := hrun ((s.elem e).xLast.getD (32767, 0))
  unfold outerLaw
  simp only [hx, List.getD_cons_zero, Option.map_none]

theorem means_inQ15 (o : OuterSum) (code : Nat) : inQ15 (o.means code).1.p ∧ inQ15 (o.means code).2.p :=
  ⟨storeQ15_range _ _, storeQ15_range _ _⟩

/-- The end of a period of an element whose outer loop acts. -/
theorem outerEnd_acts {o : OuterSum} (ho : (s.elem e).outerOf (s.scan - periodScans (s.lawN Obj.OUTER_PERIOD 0)) = some o)
    (ha : s.outerActs e (periodScans (s.lawN Obj.OUTER_PERIOD 0)) o = true) :
    let m := o.means (s.lawN Obj.OUTER_PERIOD 0)
    outerEnd s e = outerLaw (outerCounted s e m.1 m.2) e m.1 m.2 := by
  intro m
  have hacts := outerActs_counted (s := s) (e := e) m.1 m.2 (periodScans (s.lawN Obj.OUTER_PERIOD 0)) o
  exact (outerEnd_eq ho).trans (if_pos (hacts.trans ha))

theorem outerMoved_counted (leak want : Sample) (x : Elem) (l w : Int) (back : Bool) :
    outerMoved (outerCounted s e leak want) x l w back = outerMoved s x l w back := by
  have hlaw {a : Nat} (hi : a ≠ Obj.INV_COUNT) (hs : a ≠ Obj.SAT_COUNT) := outerCounted_law s e leak want hi hs 0
  simp only [outerMoved, hlaw (a := Obj.T_MIN) (by decide) (by decide), hlaw (a := Obj.T_MAX) (by decide) (by decide),
    hlaw (a := Obj.OUTER_STEP) (by decide) (by decide)]

/-- An element whose outer loop acts on valid means, and whose kept means are Q15 words, moves by the outer law. -/
theorem outerPeriodEnd_moves {o : OuterSum} {leak want : Sample} (hd : s.outerDue e = true) (hr : s.loopsRun = true) (he : e < 40960)
    (ho : (s.elem e).outerOf (s.scan - periodScans (s.lawN Obj.OUTER_PERIOD 0)) = some o)
    (ha : s.outerActs e (periodScans (s.lawN Obj.OUTER_PERIOD 0)) o = true)
    (hm : o.means (s.lawN Obj.OUTER_PERIOD 0) = (leak, want)) (hl : leak.inv = false) (hw : want.inv = false)
    (hx : inQ15 ((s.elem e).xLast.getD (32767, 0)).1 ∧ inQ15 ((s.elem e).xLast.getD (32767, 0)).2) :
    let p := (s.elem e).xLast.getD (32767, 0)
    ∃ t r, exec (.outerPeriodEnd e) s = .next t ∧ t.elem e =
      { outerMoved s (s.elem e) leak.p want.p ((s.elem e).xLast.isSome && decide (want.p * p.1 < leak.p * p.2)) with ratio := r } := by
  intro p
  have hrange := means_inQ15 o (s.lawN Obj.OUTER_PERIOD 0)
  have hend := outerEnd_acts ho ha
  rw [hm] at hrange hend
  have helem : (outerCounted s e leak want).elem e = s.elem e := by
    obtain ⟨m, hm⟩ := outerCounted_eq s e leak want
    rw [hm]
    rfl
  obtain ⟨r, hmoved⟩ := outerLaw_moves (s := outerCounted s e leak want) (e := e) hl hw hrange.1 hrange.2 (by rwa [helem])
  rw [helem, outerMoved_counted] at hmoved
  refine ⟨_, r, outerPeriodEnd_ends hd hr he, ?_⟩
  rw [hend]
  exact hmoved

theorem outer_first {o : OuterSum} (hd : s.outerDue e = true) (hr : s.loopsRun = true) (he : e < 40960)
    (ho : (s.elem e).outerOf (s.scan - periodScans (s.lawN Obj.OUTER_PERIOD 0)) = some o)
    (ha : s.outerActs e (periodScans (s.lawN Obj.OUTER_PERIOD 0)) o = true) (hx : (s.elem e).xLast = none)
    (hl : (o.means (s.lawN Obj.OUTER_PERIOD 0)).1.inv = false) (hw : (o.means (s.lawN Obj.OUTER_PERIOD 0)).2.inv = false) :
    ∃ t, exec (.outerPeriodEnd e) s = .next t ∧
      (t.elem e).t = clampInt (s.law Obj.T_MIN 0) (s.law Obj.T_MAX 0) ((s.elem e).t + (s.elem e).dir * s.law Obj.OUTER_STEP 0) ∧
      (t.elem e).dir = (s.elem e).dir ∧ (t.elem e).xLast =
        some ((o.means (s.lawN Obj.OUTER_PERIOD 0)).1.p, (o.means (s.lawN Obj.OUTER_PERIOD 0)).2.p) := by
  obtain ⟨t, r, hexec, helem⟩ := outerPeriodEnd_moves hd hr he ho ha rfl hl hw (by rw [hx]; unfold inQ15; decide)
  refine ⟨t, hexec, ?_⟩
  rw [helem, hx]
  exact ⟨rfl, rfl, rfl⟩

theorem outer_next {o : OuterSum} {leak want : Sample} {l w : Int} (hd : s.outerDue e = true) (hr : s.loopsRun = true) (he : e < 40960)
    (ho : (s.elem e).outerOf (s.scan - periodScans (s.lawN Obj.OUTER_PERIOD 0)) = some o)
    (ha : s.outerActs e (periodScans (s.lawN Obj.OUTER_PERIOD 0)) o = true) (hx : (s.elem e).xLast = some (l, w))
    (hm : o.means (s.lawN Obj.OUTER_PERIOD 0) = (leak, want)) (hli : leak.inv = false) (hwi : want.inv = false)
    (hl : inQ15 l) (hw : inQ15 w) :
    ∃ t, exec (.outerPeriodEnd e) s = .next t ∧
      (t.elem e).dir = (if want.p * l < leak.p * w then -(s.elem e).dir else (s.elem e).dir) ∧
      (t.elem e).t = clampInt (s.law Obj.T_MIN 0) (s.law Obj.T_MAX 0) ((s.elem e).t + (t.elem e).dir * s.law Obj.OUTER_STEP 0) ∧
      (t.elem e).xLast = some (leak.p, want.p) := by
  obtain ⟨t, r, hexec, helem⟩ := outerPeriodEnd_moves hd hr he ho ha hm hli hwi (by rw [hx]; exact ⟨hl, hw⟩)
  refine ⟨t, hexec, ?_⟩
  rw [helem, hx]
  refine ⟨?_, rfl, rfl⟩
  by_cases h : want.p * l < leak.p * w <;> simp [outerMoved, h]

theorem outer_invalid {o : OuterSum} (hd : s.outerDue e = true) (hr : s.loopsRun = true) (he : e < 40960)
    (ho : (s.elem e).outerOf (s.scan - periodScans (s.lawN Obj.OUTER_PERIOD 0)) = some o)
    (ha : s.outerActs e (periodScans (s.lawN Obj.OUTER_PERIOD 0)) o = true)
    (hinv : (o.means (s.lawN Obj.OUTER_PERIOD 0)).1.inv = true ∨ (o.means (s.lawN Obj.OUTER_PERIOD 0)).2.inv = true) :
    ∃ t, exec (.outerPeriodEnd e) s = .next t ∧ t.loops = s.loops := by
  have hloops := outerLaw_invalid (s := outerCounted s e (o.means (s.lawN Obj.OUTER_PERIOD 0)).1 (o.means (s.lawN Obj.OUTER_PERIOD 0)).2)
    (e := e) hinv
  rw [← outerEnd_acts ho ha] at hloops
  obtain ⟨m, hm⟩ := outerCounted_eq s e (o.means (s.lawN Obj.OUTER_PERIOD 0)).1 (o.means (s.lawN Obj.OUTER_PERIOD 0)).2
  exact ⟨_, outerPeriodEnd_ends hd hr he, hloops.trans (by rw [hm])⟩

theorem outer_rests (hd : s.outerDue e = true) (hr : s.loopsRun = true) (he : e < 40960)
    (ha : ∀ o, (s.elem e).outerOf (s.scan - periodScans (s.lawN Obj.OUTER_PERIOD 0)) = some o →
      s.outerActs e (periodScans (s.lawN Obj.OUTER_PERIOD 0)) o = false) :
    ∃ t, exec (.outerPeriodEnd e) s = .next t ∧ t.loops = s.loops := by
  refine ⟨_, outerPeriodEnd_ends hd hr he, ?_⟩
  change (outerEnd s e).loops = s.loops
  cases ho : (s.elem e).outerOf (s.scan - periodScans (s.lawN Obj.OUTER_PERIOD 0)) with
  | none => simp only [outerEnd, ho]
  | some o =>
    obtain ⟨m, hm⟩ := outerCounted_eq s e (o.means (s.lawN Obj.OUTER_PERIOD 0)).1 (o.means (s.lawN Obj.OUTER_PERIOD 0)).2
    have hend := (outerEnd_eq ho).trans (if_neg (by rw [outerActs_counted, ha o ho]; decide))
    rw [hend, hm]

/-! ### The bias offload (R148, R149) -/

/-- What lets the offload law act on an element. -/
def offloadActs (s : State) (e : Nat) : Prop :=
  s.scan % s.lawN Obj.OFFLOAD_PERIOD 0 = 0 ∧ s.loopsRun = true ∧ (s.elem e).state = .locked ∧ (s.elem e).suspended = false ∧
    (s.elem e).dark = false ∧ (s.elem e).unobserved = false ∧ (s.elem e).wrap = none ∧ s.hostMode 1 = false ∧
    s.active.isSome = true ∧ s.lobes.final = none ∧ e < 40960

theorem offloadPeriodEnd_acts (h : offloadActs s e) : exec (.offloadPeriodEnd e) s = .next (sealed s (offload s e)) := by
  obtain ⟨hs, hr, hl, hu, hd, ho, hw, hm, ha, hf, he⟩ := h
  exact congrArg (finish s) (if_pos ⟨hs, hr, hl, by simp [hu], by simp [hd], by simp [ho], hw, by simp [hm], ha, hf, he⟩)

/-- Whether the offload of an element goes on, by its mean. -/
def offloadsBy (s : State) (x : Elem) : Bool :=
  if !x.offloading && decide (65536 * s.law Obj.OFFLOAD_OUTER 0 < (x.mean.natAbs : Int)) then true
  else if x.offloading && decide ((x.mean.natAbs : Int) ≤ 65536 * s.law Obj.OFFLOAD_INNER 0) then false else x.offloading

theorem offloadsBy_out {x : Elem} (hb : s.law Obj.OFFLOAD_INNER 0 < s.law Obj.OFFLOAD_OUTER 0)
    (h : 65536 * s.law Obj.OFFLOAD_OUTER 0 < (x.mean.natAbs : Int)) : offloadsBy s x = true := by
  have hin : ¬ (x.mean.natAbs : Int) ≤ 65536 * s.law Obj.OFFLOAD_INNER 0 := by omega
  unfold offloadsBy
  rw [decide_eq_true h, decide_eq_false hin]
  cases x.offloading <;> rfl

theorem offloadsBy_in {x : Elem} (hb : s.law Obj.OFFLOAD_INNER 0 < s.law Obj.OFFLOAD_OUTER 0)
    (h : (x.mean.natAbs : Int) ≤ 65536 * s.law Obj.OFFLOAD_INNER 0) : offloadsBy s x = false := by
  have hout : ¬ 65536 * s.law Obj.OFFLOAD_OUTER 0 < (x.mean.natAbs : Int) := by omega
  unfold offloadsBy
  rw [decide_eq_true h, decide_eq_false hout]
  cases x.offloading <;> rfl

/-- The state with an element's offload on or off. -/
def offloadSet (s : State) (e : Nat) : State := s.setElem e { s.elem e with offloading := offloadsBy s (s.elem e) }

/-- The heater phase one offload step on. -/
def offloadWant (s : State) (e : Nat) : Int := (s.elem e).theta + sgn (s.elem e).mean * s.law Obj.OFFLOAD_STEP 0

theorem law_offloadSet (a k : Nat) : (offloadSet s e).law a k = s.law a k := law_setElem _ _ _ _ _

/-- The heater phase driven, where the ceiling lets it rise. -/
def offloadDriven (s : State) (e : Nat) (want : Int) : State :=
  let (s, ok) := ceilingPass s (trimmer e) (s.heaterCodeOf e want)
  if ok then driveTrimmer (s.setElem e { s.elem e with theta := want }) e want else s

theorem offload_eq (ha : (s.elem e).wrapAsk = none) :
    offload s e = if offloadsBy s (s.elem e) then
      (if s.law Obj.WRAP_HIGH 0 < offloadWant s e then requestWrap (offloadSet s e) e (-1)
       else if offloadWant s e < s.law Obj.WRAP_HIGH 0 - 32768 then requestWrap (offloadSet s e) e 1
       else offloadDriven (offloadSet s e) e (offloadWant s e))
    else offloadSet s e := by
  have hhigh : (offloadSet s e).law Obj.WRAP_HIGH 0 = s.law Obj.WRAP_HIGH 0 := law_offloadSet _ _
  have hwant : offloadWant s e = (s.elem e).theta + sgn (s.elem e).mean * (offloadSet s e).law Obj.OFFLOAD_STEP 0 := by
    rw [law_offloadSet, offloadWant]
  rw [hwant, ← hhigh]
  unfold offload
  extract_lets x a on u high want code
  split
  case h_1 d hd => exact absurd (ha.symm.trans hd) (by simp)
  case h_2 => rfl

theorem offload_rests (hacts : offloadActs s e) (ha : (s.elem e).wrapAsk = none)
    (hb : s.law Obj.OFFLOAD_INNER 0 < s.law Obj.OFFLOAD_OUTER 0) (h : ((s.elem e).mean.natAbs : Int) ≤ 65536 * s.law Obj.OFFLOAD_INNER 0) :
    ∃ t, exec (.offloadPeriodEnd e) s = .next t ∧ (t.elem e).theta = (s.elem e).theta ∧ (t.elem e).offloading = false ∧ t.drv = s.drv := by
  have hoff := offloadsBy_in hb h
  have hrun : offload s e = offloadSet s e := (offload_eq ha).trans (if_neg (by rw [hoff]; decide))
  have helem : (offloadSet s e).elem e = { s.elem e with offloading := false } := by rw [offloadSet, elem_setElem, hoff]
  refine ⟨_, offloadPeriodEnd_acts hacts, ?_⟩
  rw [hrun]
  have hend : (sealed s (offloadSet s e)).elem e = (offloadSet s e).elem e := rfl
  rw [hend, helem]
  exact ⟨rfl, rfl, setElem_drv s e _⟩

theorem offload_drives (hacts : offloadActs s e) (ha : (s.elem e).wrapAsk = none)
    (hb : s.law Obj.OFFLOAD_INNER 0 < s.law Obj.OFFLOAD_OUTER 0) (hc : s.ceiling = false)
    (h : 65536 * s.law Obj.OFFLOAD_OUTER 0 < ((s.elem e).mean.natAbs : Int)) (hh : offloadWant s e ≤ s.law Obj.WRAP_HIGH 0)
    (hl : s.law Obj.WRAP_HIGH 0 - 32768 ≤ offloadWant s e) :
    ∃ t, exec (.offloadPeriodEnd e) s = .next t ∧ (t.elem e).theta = offloadWant s e ∧ (t.elem e).offloading = true := by
  have hon := offloadsBy_out hb h
  have hceil : (offloadSet s e).ceiling = false := by rw [State.ceiling, offloadSet, setElem_steady]; exact hc
  have hpass : ceilingPass (offloadSet s e) (trimmer e) ((offloadSet s e).heaterCodeOf e (offloadWant s e)) = (offloadSet s e, true) := by
    unfold ceilingPass
    rw [hceil]
    rfl
  have hrun : offload s e = driveTrimmer ((offloadSet s e).setElem e { (offloadSet s e).elem e with theta := offloadWant s e }) e
      (offloadWant s e) := by
    rw [offload_eq ha, if_pos hon, if_neg (not_lt.mpr hh), if_neg (not_lt.mpr hl), offloadDriven, hpass]
    rfl
  have helem : (offload s e).elem e = { (offloadSet s e).elem e with theta := offloadWant s e } := by
    rw [hrun, elem_of_loops ((driveTrimmer_frame _ _ _).loops rfl), elem_setElem]
  have hset : ((offloadSet s e).elem e).offloading = true := by rw [offloadSet, elem_setElem]; exact hon
  refine ⟨_, offloadPeriodEnd_acts hacts, ?_⟩
  generalize offload s e = u at helem
  have hu : (sealed s u).elem e = u.elem e := rfl
  rw [hu, helem]
  exact ⟨rfl, hset⟩

/-- A wrap asked for: the element notes its direction, and its heater phase stays. -/
theorem requestWrap_asks {d : Int} (hc : s.canWrap e = true) (hw : (s.elem e).wrap = none) (hq : s.waits .wrap e = false)
    (hg : s.holds .wrap e = false) :
    ((requestWrap s e d).elem e).theta = (s.elem e).theta ∧ ((requestWrap s e d).elem e).wrapAsk = some d := by
  unfold requestWrap
  extract_lets x u endPower inc r
  rw [if_neg (by simp [x, hc, hw, hq, hg])]
  have hloops : (requestGrant u r).1.loops = s.loops :=
    (((requestGrant_frame u r)).loops rfl).trans ((atModeBoundary_frame s 5).loops rfl)
  rw [elem_setElem]
  exact ⟨(congrArg Elem.theta (elem_of_loops hloops e) :), rfl⟩

theorem offload_asks {d : Int} (hacts : offloadActs s e)
    (hrun : offload s e = requestWrap (offloadSet s e) e d) (hc : s.canWrap e = true) (hq : s.waits .wrap e = false)
    (hg : s.holds .wrap e = false) :
    ∃ t, exec (.offloadPeriodEnd e) s = .next t ∧ (t.elem e).theta = (s.elem e).theta ∧ (t.elem e).wrapAsk = some d := by
  have hset : (offloadSet s e).elem e = { s.elem e with offloading := offloadsBy s (s.elem e) } := elem_setElem _ _ _
  have hw := hacts.2.2.2.2.2.2.1
  have hsteady : (offloadSet s e).steady = s.steady := setElem_steady _ _ _
  have hcan : (offloadSet s e).canWrap e = true := by
    rw [State.canWrap, law_offloadSet]
    have hwide : (offloadSet s e).wideSpans e = s.wideSpans e := by
      simp only [State.wideSpans, State.spanOf, State.chan, offloadSet, setElem_drv]
    rw [hwide]
    exact hc
  obtain ⟨htheta, hask⟩ := requestWrap_asks (s := offloadSet s e) (e := e) (d := d) hcan (by rw [hset]; exact hw)
    (by rw [State.waits, hsteady]; exact hq) (by rw [State.holds, hsteady]; exact hg)
  refine ⟨_, offloadPeriodEnd_acts hacts, ?_⟩
  rw [hrun]
  exact ⟨htheta.trans (congrArg Elem.theta hset :), hask⟩

end

/-- Settles O22: what the outer loop does at the end of its period, and the offload at the end of its own. -/
theorem outerLoopAndOffload : Obligations.OuterLoopAndOffload := by
  unfold Obligations.OuterLoopAndOffload
  refine ⟨fun _ _ _ => outer_first, fun _ _ _ _ _ _ _ hd hr he ho ha hx hm hli hwi hl hl' hw hw' =>
    outer_next hd hr he ho ha hx hm hli hwi ⟨hl, hl'⟩ ⟨hw, hw'⟩, fun _ _ _ => outer_invalid, fun _ _ => outer_rests,
    fun e s hs hr hl hu hd ho hw ha hm hact hf he hb => ?_⟩
  have hacts : offloadActs s e := ⟨hs, hr, hl, hu, hd, ho, hw, hm, hact, hf, he⟩
  refine ⟨fun hc h hh hlow => offload_drives hacts ha hb hc h hh hlow, fun h hh hc hq hg => offload_asks hacts ?_ hc hq hg,
    fun h hlow hc hq hg => offload_asks hacts ?_ hc hq hg, fun h => offload_rests hacts ha hb h⟩
  · rw [offload_eq ha, if_pos (offloadsBy_out hb h)]
    exact if_pos hh
  · have hhigh : ¬ s.law Obj.WRAP_HIGH 0 < offloadWant s e := by unfold offloadWant; omega
    rw [offload_eq ha, if_pos (offloadsBy_out hb h), if_neg hhigh]
    exact if_pos hlow

end Sys2Proof.Proofs

/-!
SUPPORT. The proofs of the wraps and of saturated elements (spec/05_loops.md, Bias wrap, Saturation and fault detection).
-/

namespace Sys2Proof.Proofs

open Sys2Proof Sys2Proof.Machine Sys2Proof.Laws

section

variable {s : State} {e : Nat}

/-! ### The start of a wrap, and one that stalls (R150, R152) -/

theorem wrapStart_starts {d : Int} (ha : (s.elem e).wrapAsk = some d) (hl : (s.elem e).state = .locked) (hc : s.commitMoving = false)
    (hn : s.wrapsActive (columnOf e) < s.lawN Obj.WRAP_MAX_ACTIVE 0) (hg : s.holds .wrap e = true) (hr : s.loopsRun = true)
    (hm : s.hostMode 1 = false) (hact : s.active.isSome = true) (hs : (s.elem e).suspended = false) (hw : s.canWrap e = true)
    (hf : s.lobes.final = none) (he : e < 40960) :
    ∃ t, exec (.wrapStart e) s = .next t ∧ (t.elem e).state = .wrapping ∧ (t.elem e).wrapAsk = none ∧
      (t.elem e).wrap = some { d := d, hStart := (s.elem e).theta, hEnd := (s.elem e).theta + d * 32768,
                               hCmd := (s.elem e).theta, hModel := (s.elem e).theta } ∧ t.drv = s.drv := by
  refine ⟨_, rfl, ?_⟩
  simp only [ha]
  rw [if_pos ⟨hl, by simp [hs], by simp [hc], hn, hg, hw, hr, by simp [hm], hact, hf, he⟩]
  generalize hx : ({ s.elem e with state := .wrapping, wrap := some _, wrapAsk := none, idleSince := s.tick } : Elem) = x
  have helem : (sealed s (s.setElem e x)).elem e = x := elem_setElem s e x
  rw [helem]
  subst hx
  exact ⟨rfl, rfl, rfl, setElem_drv s e _⟩

theorem wrapStalled_raises (hi : (s.elem e).wrapIdle = true) (hr : (s.elem e).stallRaised = false)
    (ht : s.elapsed (s.elem e).idleSince (1000000 * s.lawN Obj.WRAP_STALL 0) = true) :
    ∃ t, exec (.wrapStalled e) s = .next t ∧ (t.elem e) = { s.elem e with stallRaised := true } ∧ t.drv = s.drv := by
  have hrun : exec (.wrapStalled e) s = .next (sealed s (raiseA (s.setElem e { s.elem e with stallRaised := true }) 0x3004
      [.word e, .word (s.elem e).theta])) := congrArg (finish s) (if_pos ⟨hi, by simp [hr], ht⟩)
  have hraise := raiseA_frame (s.setElem e { s.elem e with stallRaised := true }) 0x3004 [.word e, .word (s.elem e).theta]
  refine ⟨_, hrun, ?_, (hraise.drv rfl).trans (setElem_drv s e _)⟩
  exact (elem_of_loops (hraise.loops rfl) e).trans (elem_setElem s e _)

/-! ### One scan of a wrap (R150, R151) -/

/-- The jump of a wrap that runs, one turn against φ where it would pass WRAP_JUMP. -/
def wrapJump (s : State) (x : Elem) (v : Wrap) : Int :=
  if s.law Obj.WRAP_JUMP 0 < x.phiC + x.phiL + v.carry then -32768
  else if x.phiC + x.phiL + v.carry < -s.law Obj.WRAP_JUMP 0 then 32768 else 0

/-- A wrap after one scan in which it runs. -/
def wrapMoved (s : State) (e : Nat) (w : Wrap) : Wrap :=
  let v := w.advance true (s.law Obj.WRAP_RATE 0) (s.obj Obj.THERMAL_ALPHA e)
  { v with jumps := v.jumps + wrapJump s (s.elem e) v }

/-- A loop parameter in force is the same in a state whose objects, loops and tick are. -/
theorem law_of {t : State} (ho : t.objs = s.objs) (hl : t.loops = s.loops) (ht : t.tick = s.tick) (a k : Nat) : t.law a k = s.law a k :=
  law_congr (by rw [hl]) ht (obj_of_objs ho a) (obj_of_objs ho _ _) (obj_of_objs ho _ _) k

/-- The element after one scan of its wrap: LOCKED with its heater phase at the end of one that has ended. -/
def wrapElem (s : State) (x : Elem) (v : Wrap) : Elem :=
  let y := { x with phiW := v.carry, wrap := some v, theta := v.hCmd }
  if (v.hCmd == v.hEnd && decide ((v.hEnd - v.hModel).natAbs ≤ 1)) = true then
    ({ y with phiL := y.phiL + y.phiW, phiW := 0 }.endWrap v.hEnd).toLocked (s.law Obj.STEP 0) s.tick
  else y

theorem wrapScan_elem {w : Wrap} (hw : (s.elem e).wrap = some w) (hp : w.paused = false) (hs : (s.elem e).state = .wrapping) :
    (wrapScan s e).elem e = wrapElem s (s.elem e) (wrapMoved s e w) := by
  unfold wrapScan
  extract_lets x j
  split
  case h_1 h => exact absurd (hw.symm.trans h) (by simp)
  case h_2 w' h =>
    obtain rfl : w = w' := Option.some.inj (hw.symm.trans h)
    extract_lets running v at_ jump v' u ended y y' p q
    have hrun : running = true := by simp [running, x, hp, hs]
    have hv : v' = wrapMoved s e w := by
      simp only [v', jump, at_, j, v, x, hrun, Bool.true_and, decide_eq_true_eq]
      rfl
    have hu : Frame [.lobes, .drv] s u := .ite (driveTrimmer_frame s e _) (.refl s)
    have hy : y' = wrapElem s (s.elem e) (wrapMoved s e w) := by
      simp only [y', y, ended, hrun, Bool.true_and, law_of (hu.objs rfl) (hu.loops rfl) (hu.tick rfl), hu.tick rfl, hv]
      rfl
    have hq : Frame [.lobes, .drv] p q :=
      .ite (.step (writeDirect_frame _ _ _) (by decide) (writeDirect_frame _ _ _)) ((followPhi_frame p e).mono (by decide))
    have hend : q.elem e = wrapElem s (s.elem e) (wrapMoved s e w) :=
      (elem_of_loops (hq.loops rfl) e).trans ((elem_setElem u e y').trans hy)
    split
    · exact (elem_of_loops ((releaseGrant_frame q .wrap e).loops rfl) e).trans hend
    · exact hend

theorem wrapScan_runs {w v : Wrap} (hw : (s.elem e).wrap = some w) (hp : w.paused = false) (hs : (s.elem e).state = .wrapping)
    (hv : v = w.advance true (s.law Obj.WRAP_RATE 0) (s.obj Obj.THERMAL_ALPHA e)) :
    ((v.hCmd ≠ v.hEnd ∨ 1 < (v.hEnd - v.hModel).natAbs) →
      ∃ u, ((wrapScan s e).elem e).wrap = some u ∧ u.hCmd = v.hCmd ∧ u.hModel = v.hModel ∧ u.hEnd = w.hEnd ∧
        u.jumps = w.jumps + (if s.law Obj.WRAP_JUMP 0 < (s.elem e).phiC + (s.elem e).phiL + v.carry then -32768
          else if (s.elem e).phiC + (s.elem e).phiL + v.carry < -s.law Obj.WRAP_JUMP 0 then 32768 else 0) ∧
        ((wrapScan s e).elem e).theta = v.hCmd ∧ ((wrapScan s e).elem e).phiW = u.carry ∧
        ((wrapScan s e).elem e).state = .wrapping) ∧
    (v.hCmd = v.hEnd → (v.hEnd - v.hModel).natAbs ≤ 1 →
      ((wrapScan s e).elem e).wrap = none ∧ ((wrapScan s e).elem e).theta = w.hEnd ∧ ((wrapScan s e).elem e).phiW = 0 ∧
        ((wrapScan s e).elem e).state = .locked) := by
  subst hv
  rw [wrapScan_elem hw hp hs]
  refine ⟨fun hgoes => ?_, fun hend hnear => ?_⟩
  · have hnot : ¬ ((wrapMoved s e w).hCmd == (wrapMoved s e w).hEnd &&
        decide (((wrapMoved s e w).hEnd - (wrapMoved s e w).hModel).natAbs ≤ 1)) = true := by
      rw [Bool.and_eq_true, beq_iff_eq, decide_eq_true_eq]
      rintro ⟨hend, hnear⟩
      rcases hgoes with h | h
      · exact h hend
      · exact absurd hnear (not_le.mpr h)
    rw [wrapElem, if_neg hnot]
    exact ⟨wrapMoved s e w, rfl, rfl, rfl, rfl, rfl, rfl, rfl, hs⟩
  · have hended : ((wrapMoved s e w).hCmd == (wrapMoved s e w).hEnd &&
        decide (((wrapMoved s e w).hEnd - (wrapMoved s e w).hModel).natAbs ≤ 1)) = true := by
      rw [Bool.and_eq_true, beq_iff_eq, decide_eq_true_eq]
      exact ⟨hend, hnear⟩
    rw [wrapElem, if_pos hended]
    exact ⟨rfl, rfl, rfl, rfl⟩

/-! ### A saturated element (R153, R62) -/

theorem disableElem_state (s : State) (e : Nat) : ((disableElem s e).elem e).state = .disabled := by
  unfold disableElem
  extract_lets x
  split
  case isTrue h => exact h
  case isFalse => rw [elem_setElem]

theorem disableElem_other (s : State) {e f : Nat} (h : f ≠ e) : (disableElem s e).elem f = s.elem f := by
  unfold disableElem
  extract_lets x
  split
  · rfl
  · exact elem_setElem_other s _ h

theorem mustDisable_congr {t : State} (ho : t.objs = s.objs) (hh : t.loops.held = s.loops.held) (ht : t.tick = s.tick) (e : Nat) :
    t.mustDisable e = s.mustDisable e := by
  have hlaw := law_congr hh ht (fun k => obj_of_objs ho Obj.LOOP_ENABLE k) (obj_of_objs ho _ _) (obj_of_objs ho _ _) e
  simp only [State.mustDisable, State.cellClass, State.objN, obj_of_objs ho, hlaw]

theorem followFault_state {s : State} {e : Nat} (h : s.mustDisable e = true) : ((followFault s e).elem e).state = .disabled := by
  rw [followFault, if_pos h]
  exact disableElem_state s e

theorem followFault_other (s : State) {e f : Nat} (h : f ≠ e) : (followFault s e).elem f = s.elem f := by
  unfold followFault
  split
  · exact disableElem_other s h
  · rfl

theorem followFault_held (s : State) (e : Nat) : (followFault s e).loops.held = s.loops.held := by
  unfold followFault disableElem
  split
  · extract_lets x
    split
    · rfl
    · rw [setElem_loops]
  · rfl

/-- A cell's loops follow the fault map: an element that must be DISABLED is. -/
theorem followCell_disables (h : s.mustDisable e = true) : ((followCell s (cellOf e)).elem e).state = .disabled := by
  unfold followCell cellOf
  have hmod : e = 2 * (e / 2) ∨ e = 2 * (e / 2) + 1 := by omega
  rcases hmod with he | he
  · rw [followFault_other _ (by omega), ← he]
    exact followFault_state h
  · rw [← he]
    have hf := followFault_frame s (2 * (e / 2))
    exact followFault_state ((mustDisable_congr (hf.objs rfl) (followFault_held _ _) (hf.tick rfl) e).trans h)

theorem alwaysPrograms_faultMap : alwaysPrograms .faultMap := ⟨by simp, fun _ => List.cons_ne_nil _ _⟩

theorem mapChanged_storing (s : State) (bump : Bool) : (mapChanged s bump).storing .faultMap := autoStore_storing _ alwaysPrograms_faultMap

theorem reportFault_disables {bits : Nat} (hb : bits ≠ 0) :
    ((reportFault s e bits).elem e).state = .disabled ∧ (reportFault s e bits).fab.reported = true ∧
      (reportFault s e bits).storing .faultMap := by
  unfold reportFault
  extract_lets k old u v w bump f x
  have hv : v.objN Obj.ELEMENT_FAULT e ≠ 0 := by
    have hu : u.objN Obj.ELEMENT_FAULT e = s.objN Obj.ELEMENT_FAULT e ||| bits := by
      rw [State.objN, obj_setObjN, Int.toNat_natCast]
    have hvu : v.objN Obj.ELEMENT_FAULT e = u.objN Obj.ELEMENT_FAULT e := by
      simp only [v]
      split
      · rw [State.objN, obj_setObjN_other _ (by simp), State.objN]
      · rfl
    rw [hvu, hu]
    exact fun h => hb (Nat.or_eq_zero_iff.mp h).2
  have hdisables (q : State) (hq : q.objs = v.objs) : ((followCell q (cellOf e)).elem e).state = .disabled := by
    refine followCell_disables ?_
    have hfault : q.objN Obj.ELEMENT_FAULT e ≠ 0 := by rwa [State.objN, obj_of_objs hq]
    simp [State.mustDisable, hfault]
  have hw : (w.elem e).state = .disabled := by
    simp only [w]
    split
    · exact hdisables v rfl
    · exact hdisables _ ((voidStaged_frame v k).objs rfl)
  have hx := mapChanged_frame { w with fab := { w.fab with reported := true } } bump
  have hloops : x.loops = w.loops := hx.loops rfl
  have hreported : x.fab.reported = true := by rw [hx.fab rfl]
  have hstoring : x.storing .faultMap := mapChanged_storing _ _
  clear_value x
  have hraise := raiseA_frame x 0x2001 [.word e, .word (x.obj Obj.ELEMENT_FAULT e), .word (x.cellClass k)]
  refine ⟨?_, (congrArg Fabric.reported (hraise.fab rfl)).trans hreported, storing_congr (raiseA_dev _ _ _) hstoring⟩
  rw [elem_of_loops ((hraise.loops rfl).trans hloops)]
  exact hw

theorem loopSaturated_disables (hs : (s.elem e).state = .saturated) (hr : s.lawN Obj.SAT_REPORT 0 ≤ s.scan - (s.elem e).satSince)
    (he : e < 40960) :
    ∃ t, exec (.loopSaturated e) s = .next t ∧ (t.elem e).state = .disabled ∧ t.fab.reported = true ∧ t.storing .faultMap := by
  generalize hk : (if (s.elem e).deadA ∨ (s.elem e).deadB then 2 else 1) = kind
  have hkind : kind ≠ 0 := by
    subst hk
    split <;> decide
  have hrun : exec (.loopSaturated e) s = .next (sealed s (raiseA (reportFault s e kind) 0x3003 [.word e, .word kind])) := by
    subst hk
    exact congrArg (finish s) (if_pos ⟨hs, hr, he⟩)
  obtain ⟨hstate, hfab, hstore⟩ := reportFault_disables (s := s) (e := e) hkind
  generalize reportFault s e kind = u at hrun hstate hfab hstore
  have hraise := raiseA_frame u 0x3003 [.word e, .word kind]
  refine ⟨_, hrun, ?_, ?_, storing_congr (hraise.dev rfl) hstore⟩
  · rw [← hstate, ← elem_of_loops (hraise.loops rfl) e]
    rfl
  · rw [← hfab, ← hraise.fab rfl]
    rfl

end

/-- Settles O23: a wrap's start, its scans, its stall, and what becomes of a saturated element. -/
theorem wrapsAndSaturation : Obligations.WrapsAndSaturation := by
  unfold Obligations.WrapsAndSaturation
  exact ⟨fun _ _ _ => wrapStart_starts, fun _ _ _ _ => wrapScan_runs, fun _ _ => wrapStalled_raises, fun _ _ => loopSaturated_disables⟩

end Sys2Proof.Proofs

/-!
SUPPORT. The proofs of the objects of the loops and of the VOA period (spec/05_loops.md, Set-point slew and reversal, States and lock,
VOA loops).
-/

namespace Sys2Proof.Proofs

open Sys2Proof Sys2Proof.Machine Sys2Proof.Laws

section

variable {s : State} {e o sess : Nat}

/-! ### Set-points and LOOP_ENABLE (R144, R155, R472) -/

theorem setpoint_targets {v : Int} (h : s.accepts sess Obj.SETPOINT e v = true) :
    ∃ t, exec (.setpoint sess e v) s = .next t ∧ t.answered sess 0 Obj.SETPOINT e (.ack []) ∧ t.obj Obj.SETPOINT e = v ∧
      (t.elem e).target = v ∧ (t.elem e).t = (s.elem e).t ∧ t.drv = s.drv := by
  obtain ⟨hans, hframe⟩ := hostWrite_acks h (eff := effSetpoint e v) rfl (opens_of_frame (effSetpoint_frame e v _) (by decide))
  refine ⟨_, rfl, hans, ?_⟩
  have hobj : (effSetpoint e v (seen s sess)).1.obj Obj.SETPOINT e = v :=
    (obj_of_objs (setElem_objs _ _ _) _ _).trans (obj_setObj _ _ _ _)
  have helem : (effSetpoint e v (seen s sess)).1.elem e = { (seen s sess).elem e with
      target := v, tReached := ((seen s sess).elem e).tReached && ((seen s sess).elem e).target == v } := elem_setElem _ _ _
  have hdrv := (effSetpoint_frame e v (seen s sess)).drv rfl
  rw [sealed_eq s hframe]
  generalize (effSetpoint e v (seen s sess)).1 = u at hobj helem hdrv
  refine ⟨hobj, (congrArg Elem.target helem :), (congrArg Elem.t helem).trans ?_, hdrv.trans ((seen_frame s sess).drv rfl)⟩
  rw [seen_eq]
  rfl

/-- A loop parameter written in a scan is not taken within it. -/
theorem lawTaken_now (s : State) (a o v : Nat) : s.lawTaken a s.scan o v = false := by
  unfold State.lawTaken
  have hle (p : Nat) : ¬ s.scan / p < (s.scan - 1) / p := not_lt.mpr (Nat.div_le_div_right (Nat.sub_le _ _))
  simp [hle]

theorem periodCode_setLaw (s : State) {a p : Nat} (k : Nat) (v : Int) (h : p ≠ a) : (s.setLaw a k v).periodCode p = s.periodCode p := by
  have hheld : mfind2 (s.setLaw a k v).loops.held p 0 = mfind2 s.loops.held p 0 := mfind2_mset2_other _ _ fun e => h e.1
  have hobj : (s.setLaw a k v).objN p 0 = s.objN p 0 := congrArg Int.toNat (obj_setObj_other _ fun e => h e.1)
  unfold State.periodCode
  rw [hheld, hobj]
  rfl

/-- A loop parameter just written is in force with its old value until its time has come (R165, R472). -/
theorem law_setLaw (s : State) {a : Nat} (k : Nat) (v : Int) (ho : Obj.OUTER_PERIOD ≠ a) (hv : Obj.VOA_PERIOD ≠ a) :
    (s.setLaw a k v).law a k = s.law a k := by
  have hlaw (t : State) (old : Int) (w : Nat) (h : mfind2 t.loops.held a k = some (old, w))
    (hn : t.lawTaken a w (t.periodCode Obj.OUTER_PERIOD) (t.periodCode Obj.VOA_PERIOD) = false) : t.law a k = old := by
    simp only [State.law, h, hn, Bool.false_eq_true, if_false]
  have htaken (w : Nat) : (s.setLaw a k v).lawTaken a w ((s.setLaw a k v).periodCode Obj.OUTER_PERIOD)
      ((s.setLaw a k v).periodCode Obj.VOA_PERIOD) = s.lawTaken a w (s.periodCode Obj.OUTER_PERIOD) (s.periodCode Obj.VOA_PERIOD) := by
    rw [periodCode_setLaw s k v ho, periodCode_setLaw s k v hv]
    rfl
  rcases hw : mfind2 s.loops.held a k with _ | ⟨old, w⟩
  · refine hlaw _ (s.law a k) s.scan ?_ ((htaken _).trans (lawTaken_now _ _ _ _))
    simp [State.setLaw, hw]
  · by_cases hnow : s.law a k = s.obj a k
    · refine hlaw _ (s.law a k) s.scan ?_ ((htaken _).trans (lawTaken_now _ _ _ _))
      simp [State.setLaw, hw, hnow]
    · refine hlaw _ (s.law a k) w ?_ ((htaken _).trans ?_)
      · simp [State.setLaw, hw, hnow]
      · by_contra hyes
        refine hnow ?_
        simp only [State.law, hw]
        rw [if_pos (Bool.eq_true_of_not_eq_false hyes)]

theorem effLoopEnable_elem (e : Nat) (v : Int) (s : State) :
    (effLoopEnable e v s).1.elem e = { s.elem e with
      enabling := v != 0 && ((s.elem e).enabling || (s.obj Obj.LOOP_ENABLE e == 0 && (s.elem e).state == .opened)) } :=
  elem_setElem _ _ _

theorem setElem_frame_sameState {x : Elem} (h : x.state = (s.elem e).state) : Frame [.loops] s (s.setElem e x) := by
  unfold State.setElem
  extract_lets left l t
  have hleft : left = false := by
    simp only [left, h]
    cases (s.elem e).state <;> rfl
  rw [hleft, if_neg Bool.false_ne_true]
  exact .set_loops (by decide) (.refl s)

theorem effLoopEnable_law (e : Nat) (v : Int) (s : State) : (effLoopEnable e v s).1.law Obj.LOOP_ENABLE e = s.law Obj.LOOP_ENABLE e :=
  (law_setElem _ _ _ _ _).trans (law_setLaw s e v (by decide) (by decide))

theorem effLoopEnable_frame_same (e : Nat) (v : Int) (s : State) : Frame [.objs, .loops] s (effLoopEnable e v s).1 := by
  have hset : Frame [.loops] (s.setLaw Obj.LOOP_ENABLE e v) (effLoopEnable e v s).1 := setElem_frame_sameState rfl
  exact .step hset (by decide) (State.setLaw_frame s _ _ v)

theorem loopEnable_disables (h : s.accepts sess Obj.LOOP_ENABLE e 0 = true) :
    ∃ t, exec (.loopEnable sess e 0) s = .next t ∧ t.answered sess 0 Obj.LOOP_ENABLE e (.ack []) ∧ t.obj Obj.LOOP_ENABLE e = 0 ∧
      t.law Obj.LOOP_ENABLE e = s.law Obj.LOOP_ENABLE e ∧ t.elem e = { s.elem e with enabling := false } ∧ t.drv = s.drv ∧
      Frame [.objs, .ex, .loops] s t := by
  obtain ⟨hans, hframe⟩ := hostWrite_acks h (eff := effLoopEnable e 0) rfl (opens_of_frame (effLoopEnable_frame e 0 _) (by decide))
  refine ⟨_, rfl, hans, ?_⟩
  have hobj : (effLoopEnable e 0 (seen s sess)).1.obj Obj.LOOP_ENABLE e = 0 :=
    (obj_of_objs (setElem_objs _ _ _) _ _).trans (obj_setObj _ _ _ _)
  have hlaw := effLoopEnable_law e 0 (seen s sess)
  have helem := effLoopEnable_elem e 0 (seen s sess)
  have hsame := effLoopEnable_frame_same e 0 (seen s sess)
  have hf : Frame [.objs, .ex, .loops] s (hostWrite s sess Obj.LOOP_ENABLE e 0 (effLoopEnable e 0)) :=
    .step hframe (by decide) (.step hsame (by decide) ((seen_frame s sess).mono (by decide)))
  generalize hostWrite s sess Obj.LOOP_ENABLE e 0 (effLoopEnable e 0) = w at hframe hf
  have hdrv := hf.drv rfl
  refine ⟨?_, ?_, ?_, hdrv, frame_sealed hf (by decide)⟩
  · rw [sealed_eq s hframe]
    exact hobj
  · rw [sealed_eq s hframe, seen_eq] at *
    exact hlaw
  · rw [sealed_eq s hframe, seen_eq] at *
    exact helem

/-- A DISABLED element keeps its record where LOOP_ENABLE is set: it enters ACQUIRE at the boundary. -/
theorem effLoopEnable_elem_same (h : (s.elem e).state = .disabled) : (effLoopEnable e 1 s).1.elem e = s.elem e := by
  have hen : ((1 : Int) != 0 && ((s.elem e).enabling || (s.obj Obj.LOOP_ENABLE e == 0 && (s.elem e).state == .opened))) =
      (s.elem e).enabling := by
    rw [h, show (LoopState.disabled == LoopState.opened) = false from rfl]
    simp
  rw [effLoopEnable_elem, hen]

theorem loopEnable_enables (h : s.accepts sess Obj.LOOP_ENABLE e 1 = true) (hd : (s.elem e).state = .disabled) :
    ∃ t, exec (.loopEnable sess e 1) s = .next t ∧ t.answered sess 0 Obj.LOOP_ENABLE e (.ack []) ∧ t.obj Obj.LOOP_ENABLE e = 1 ∧
      t.law Obj.LOOP_ENABLE e = s.law Obj.LOOP_ENABLE e ∧ t.elem e = s.elem e ∧ t.drv = s.drv := by
  obtain ⟨hans, hframe⟩ := hostWrite_acks h (eff := effLoopEnable e 1) rfl (opens_of_frame (effLoopEnable_frame e 1 _) (by decide))
  refine ⟨_, rfl, hans, ?_⟩
  have hobj : (effLoopEnable e 1 (seen s sess)).1.obj Obj.LOOP_ENABLE e = 1 :=
    (obj_of_objs (setElem_objs _ _ _) _ _).trans (obj_setObj _ _ _ _)
  have hlaw := effLoopEnable_law e 1 (seen s sess)
  have helem : (effLoopEnable e 1 (seen s sess)).1.elem e = (seen s sess).elem e :=
    effLoopEnable_elem_same ((congrArg Elem.state (elem_of_loops ((seen_frame s sess).loops rfl) e)).trans hd)
  have hdrv := (effLoopEnable_frame_same e 1 (seen s sess)).drv rfl
  generalize hostWrite s sess Obj.LOOP_ENABLE e 1 (effLoopEnable e 1) = w at hframe
  rw [sealed_eq s hframe]
  rw [seen_eq] at *
  exact ⟨hobj, hlaw, helem, hdrv⟩

/-! ### The elements at a scan boundary (Table 5.3) -/

theorem disableElem_phi (s : State) (e : Nat) : ((disableElem s e).elem e).phi = (s.elem e).phi := by
  unfold disableElem
  extract_lets x
  split
  · rfl
  · rw [elem_setElem]
    change (x.pauseWrap s.tick).phi = x.phi
    unfold Elem.pauseWrap
    split
    · split <;> rfl
    · rfl

theorem enableElem_enters (s : State) (e : Nat) :
    ((enableElem s e).elem e).state = .acquire ∧ ((enableElem s e).elem e).phi = s.phaseNow e ∧ ((enableElem s e).elem e).wrap = none := by
  unfold enableElem
  extract_lets x theta had y z t
  have hy : y.wrap = none := by
    simp only [y, had]
    split
    · rfl
    case isFalse h => exact Option.not_isSome_iff_eq_none.mp h
  have ht : t.elem e = z.toAcquire (s.law Obj.ACQ_STEP 0) := elem_setElem _ _ _
  have hphi : (t.elem e).phi = s.phaseNow e := by
    rw [ht]
    change s.phaseNow e + 0 + 0 = s.phaseNow e
    omega
  have hfacts : (t.elem e).state = .acquire ∧ (t.elem e).phi = s.phaseNow e ∧ (t.elem e).wrap = none :=
    ⟨congrArg Elem.state ht, hphi, (congrArg Elem.wrap ht).trans hy⟩
  split
  · rw [elem_of_loops ((releaseGrant_frame t .wrap e).loops rfl)]
    exact hfacts
  · exact hfacts

theorem enableElem_other (s : State) {e f : Nat} (h : f ≠ e) : (enableElem s e).elem f = s.elem f := by
  unfold enableElem
  extract_lets x theta had y z t
  have ht : t.elem f = s.elem f := elem_setElem_other _ _ h
  split
  · exact (elem_of_loops ((releaseGrant_frame t .wrap e).loops rfl) f).trans ht
  · exact ht

theorem reacquire_other (s : State) {e f : Nat} (h : f ≠ e) : (reacquire s e).elem f = s.elem f := elem_setElem_other _ _ h

/-- One element's turn in the second part of `enableScan`. -/
def enableTurn (s : State) (p : Nat × Elem) : State :=
  if p.2.state = .disabled then enableElem s p.1
  else if p.2.state = .opened then reacquire s p.1
  else s.setElem p.1 { p.2 with enabling := false }

theorem enableTurn_other (s : State) (p : Nat × Elem) {f : Nat} (h : f ≠ p.1) : (enableTurn s p).elem f = s.elem f := by
  unfold enableTurn
  split
  · exact enableElem_other s h
  · split
    · exact reacquire_other s h
    · exact elem_setElem_other _ _ h

theorem noteRatio_state (s : State) (k f : Nat) :
    ((noteRatio s k).elem f).state = (s.elem f).state ∧ ((noteRatio s k).elem f).wrap = (s.elem f).wrap := by
  unfold noteRatio
  by_cases h : f = 2 * k
  · subst h
    rw [elem_setElem]
    exact ⟨rfl, rfl⟩
  · rw [elem_setElem_other _ _ h]
    exact ⟨rfl, rfl⟩

theorem slewElem_state (s : State) (e f : Nat) :
    ((slewElem s e).elem f).state = (s.elem f).state ∧ ((slewElem s e).elem f).wrap = (s.elem f).wrap := by
  unfold slewElem
  extract_lets x t u
  have hu : (u.elem f).state = (s.elem f).state ∧ (u.elem f).wrap = (s.elem f).wrap := by
    by_cases h : f = e
    · subst h
      simp only [u, elem_setElem]
      exact ⟨rfl, rfl⟩
    · rw [elem_setElem_other _ _ h]
      exact ⟨rfl, rfl⟩
  split
  · exact hu
  · obtain ⟨hs, hw⟩ := noteRatio_state u (cellOf e) f
    exact ⟨hs.trans hu.1, hw.trans hu.2⟩

theorem wrapScan_other (s : State) {e f : Nat} (h : f ≠ e) : (wrapScan s e).elem f = s.elem f := by
  unfold wrapScan
  extract_lets x j
  split
  · rfl
  · extract_lets running v at_ jump v' u ended y y' p q
    have hu : Frame [.lobes, .drv] s u := .ite (driveTrimmer_frame s e _) (.refl s)
    have hp : p.elem f = s.elem f := (elem_setElem_other _ _ h).trans (elem_of_loops (hu.loops rfl) f)
    have hq : Frame [.lobes, .drv] p q :=
      .ite (.step (writeDirect_frame _ _ _) (by decide) (writeDirect_frame _ _ _)) ((followPhi_frame p e).mono (by decide))
    have hend : q.elem f = s.elem f := (elem_of_loops (hq.loops rfl) f).trans hp
    split
    · exact (elem_of_loops ((releaseGrant_frame q .wrap e).loops rfl) f).trans hend
    · exact hend

/-- A wrap that does not run leaves its element's state. -/
theorem wrapScan_state {s : State} {e : Nat} (h : (s.elem e).state ≠ .wrapping) : ((wrapScan s e).elem e).state = (s.elem e).state := by
  unfold wrapScan
  extract_lets x j
  split
  · rfl
  · extract_lets running v at_ jump v' u ended y y' p q
    have hrun : running = false := by
      simp only [running, x, decide_eq_false h, Bool.and_false]
    have hended : ended = false := by simp only [ended, hrun, Bool.false_and]
    have hy : y'.state = x.state := by
      simp only [y', hended, Bool.false_eq_true, if_false]
      rfl
    have hp : (p.elem e).state = x.state := (congrArg Elem.state (elem_setElem _ _ _)).trans hy
    have hq : Frame [.lobes, .drv] p q :=
      .ite (.step (writeDirect_frame _ _ _) (by decide) (writeDirect_frame _ _ _)) ((followPhi_frame p e).mono (by decide))
    rw [hended, if_neg Bool.false_ne_true]
    exact (congrArg Elem.state (elem_of_loops (hq.loops rfl) e)).trans hp

theorem wrapScan_none {s : State} {e : Nat} (h : (s.elem e).wrap = none) : wrapScan s e = s := by
  unfold wrapScan
  extract_lets x j
  split
  · rfl
  case h_2 w hw => exact absurd (h.symm.trans hw) (by simp)

theorem wrapResume_other (s : State) {e f : Nat} (h : f ≠ e) : (wrapResume s e).elem f = s.elem f := by
  unfold wrapResume
  extract_lets x
  split
  · split
    · exact elem_setElem_other _ _ h
    · rfl
  · rfl

theorem wrapResume_idle {s : State} {e : Nat} (h : (s.elem e).state ≠ .locked) : wrapResume s e = s := by
  unfold wrapResume
  extract_lets x
  split
  · rw [if_neg]
    simp [x, h]
  · rfl

/-- One element's turn among the wraps leaves an element that neither wraps nor is LOCKED in its state, and with no wrap where it has none. -/
theorem wrapTurn_keeps {e : Nat} (s : State) (f : Nat) (hw : (s.elem e).state ≠ .wrapping) (hl : (s.elem e).state ≠ .locked) :
    ((wrapResume (wrapScan s f) f).elem e).state = (s.elem e).state ∧
      ((s.elem e).wrap = none → ((wrapResume (wrapScan s f) f).elem e).wrap = none) := by
  by_cases h : e = f
  · subst h
    have hstate := wrapScan_state hw
    rw [wrapResume_idle (by rw [hstate]; exact hl)]
    exact ⟨hstate, fun hnone => by rw [wrapScan_none hnone]; exact hnone⟩
  · rw [wrapResume_other _ h, wrapScan_other _ h]
    exact ⟨rfl, id⟩

/-- What holds of a state holds after a fold whose every turn keeps it. -/
theorem foldl_holds {β : Type} {f : State → β → State} {P : State → Prop} (l : List β) {s : State} (h : P s)
    (hf : ∀ s, ∀ b ∈ l, P s → P (f s b)) : P (l.foldl f s) := by
  induction l generalizing s with
  | nil => exact h
  | cons b l ih => exact ih (hf s b List.mem_cons_self h) fun s c hc => hf s c (List.mem_cons_of_mem b hc)

/-- An element at rest: in a state that neither wraps nor is LOCKED, with what it has of a wrap. -/
def Resting (e : Nat) (st : LoopState) (wrapless : Bool) (s : State) : Prop :=
  (s.elem e).state = st ∧ (wrapless = true → (s.elem e).wrap = none)

theorem elemsScan_rests {st : LoopState} {b : Bool} (hw : st ≠ .wrapping) (hl : st ≠ .locked) (h : Resting e st b (enableScan s)) :
    Resting e st b (elemsScan s) := by
  unfold elemsScan
  extract_lets u v ws
  split
  · exact h
  · have hv : Resting e st b v := foldl_holds _ h fun t p _ ⟨hs, hn⟩ => by
      obtain ⟨hstate, hwrap⟩ := slewElem_state t p.1 e
      exact ⟨hstate.trans hs, fun hb => hwrap.trans (hn hb)⟩
    split
    · exact hv
    · refine foldl_holds _ hv fun t p _ ⟨hs, hn⟩ => ?_
      obtain ⟨hstate, hwrap⟩ := wrapTurn_keeps t p.1 (by rw [hs]; exact hw) (by rw [hs]; exact hl)
      exact ⟨hstate.trans hs, fun hb => hwrap (hn hb)⟩

/-- The first part of `enableScan`: every element whose LOOP_ENABLE is 0 is DISABLED. -/
def disabledScan (s : State) : State :=
  (s.loops.elems.filter fun e => s.law Obj.LOOP_ENABLE e.1 == 0).foldl (fun s e => disableElem s e.1) s

/-- The elements that enter ACQUIRE, or whose wish to is over, in the second part of `enableScan`. -/
def entering (u : State) : SMap Elem := u.loops.elems.filter fun e => (e.2.state == .disabled || e.2.enabling) && !u.mustDisable e.1

theorem enableScan_eq (s : State) : enableScan s =
    if (disabledScan s).loopsRun then (entering (disabledScan s)).foldl enableTurn (disabledScan s) else disabledScan s := rfl

theorem disableElem_eq (s : State) (e : Nat) : ∃ m n, disableElem s e = { s with loops := { s.loops with elems := m }, sorus := n } := by
  unfold disableElem
  extract_lets x
  split
  · exact ⟨_, _, rfl⟩
  · unfold State.setElem
    extract_lets left l
    split <;> exact ⟨_, _, rfl⟩

theorem disabledScan_objs (s : State) : (disabledScan s).objs = s.objs :=
  foldl_keeps (g := State.objs) (fun t p => by obtain ⟨m, n, h⟩ := disableElem_eq t p.1; rw [h]) _ s

theorem disabledScan_held (s : State) : (disabledScan s).loops.held = s.loops.held :=
  foldl_keeps (g := fun t => t.loops.held) (fun t p => by obtain ⟨m, n, h⟩ := disableElem_eq t p.1; rw [h]) _ s

theorem disabledScan_tick (s : State) : (disabledScan s).tick = s.tick :=
  foldl_keeps (g := State.tick) (fun t p => by obtain ⟨m, n, h⟩ := disableElem_eq t p.1; rw [h]) _ s

theorem mustDisable_disabledScan (s : State) (f : Nat) : (disabledScan s).mustDisable f = s.mustDisable f :=
  mustDisable_congr (disabledScan_objs s) (disabledScan_held s) (disabledScan_tick s) f

/-- What one turn of a fold reaches and the others keep holds at its end. -/
theorem foldl_reaches {β : Type} {f : State → β → State} {P : State → Prop} {Q : β → Prop} {l : List β} (hex : ∃ b ∈ l, Q b)
    (hq : ∀ s, ∀ b ∈ l, Q b → P (f s b)) (hk : ∀ s, ∀ b ∈ l, ¬ Q b → P s → P (f s b)) (s : State) : P (l.foldl f s) := by
  obtain ⟨b, hb, hqb⟩ := hex
  obtain ⟨l₁, l₂, rfl⟩ := List.append_of_mem hb
  rw [List.foldl_append, List.foldl_cons]
  refine foldl_holds l₂ (hq _ b hb hqb) fun t c hc hP => ?_
  have hmem : c ∈ l₁ ++ b :: l₂ := List.mem_append_right _ (List.mem_cons_of_mem b hc)
  by_cases h : Q c
  · exact hq t c hmem h
  · exact hk t c hmem h hP

theorem exists_pair {m : SMap Elem} (h : e ∈ m.map (·.1)) : ∃ p ∈ m, p.1 = e := by
  obtain ⟨p, hp, he⟩ := List.mem_map.mp h
  exact ⟨p, hp, he⟩

theorem disabledScan_disables (hm : e ∈ s.loops.elems.map (·.1)) (hl : s.law Obj.LOOP_ENABLE e = 0) :
    ((disabledScan s).elem e).state = .disabled := by
  obtain ⟨p, hp, he⟩ := exists_pair hm
  refine foldl_reaches (P := fun t => (t.elem e).state = .disabled) (Q := fun p => p.1 = e) ⟨p, ?_, he⟩ ?_ ?_ s
  · exact List.mem_filter.mpr ⟨hp, by rw [he, hl]; rfl⟩
  · rintro t q _ rfl
    exact disableElem_state t q.1
  · intro t q _ hq h
    rw [disableElem_other t (Ne.symm hq)]
    exact h

theorem enableScan_disables (hm : e ∈ s.loops.elems.map (·.1)) (hl : s.law Obj.LOOP_ENABLE e = 0) :
    Resting e .disabled false (enableScan s) := by
  have hdis : Resting e .disabled false (disabledScan s) := ⟨disabledScan_disables hm hl, fun h => absurd h Bool.false_ne_true⟩
  have hmust : (disabledScan s).mustDisable e = true := by
    rw [mustDisable_disabledScan]
    simp [State.mustDisable, hl]
  rw [enableScan_eq]
  generalize disabledScan s = u at hdis hmust
  split
  · refine foldl_holds _ hdis fun t p hp h => ?_
    have hne : e ≠ p.1 := by
      rintro rfl
      have hkeep := (List.mem_filter.mp hp).2
      rw [hmust] at hkeep
      simp at hkeep
    rw [Resting, enableTurn_other t p hne]
    exact h
  · exact hdis

/-- The pairs of a map under another key stay where one key is set. -/
theorem mem_mset_other {m : SMap Elem} {k : Nat} {x : Elem} {p : Nat × Elem} (h : p.1 ≠ k) : p ∈ mset m k x ↔ p ∈ m := by
  have hne : p ≠ (k, x) := fun e => h (congrArg Prod.fst e)
  induction m with
  | nil => simp [mset, hne]
  | cons q t ih =>
    obtain ⟨a, y⟩ := q
    unfold mset
    split
    · next hak => simp [hne, show p ≠ (a, y) from fun e => h ((congrArg Prod.fst e).trans hak)]
    · split
      · simp [hne]
      · simp [ih]

/-- With no key twice, every pair of a map is what its key finds. -/
theorem mfind_of_mem {m : SMap Elem} (hn : (m.map (·.1)).Nodup) {p : Nat × Elem} (h : p ∈ m) : mfind m p.1 = some p.2 := by
  induction m with
  | nil => simp at h
  | cons q t ih =>
    obtain ⟨a, y⟩ := q
    rw [List.map_cons, List.nodup_cons] at hn
    rcases List.mem_cons.mp h with rfl | h
    · simp [mfind]
    · have hne : a ≠ p.1 := fun e => hn.1 (List.mem_map.mpr ⟨p, h, e.symm⟩)
      rw [mfind, if_neg hne]
      exact ih hn.2 h

/-- What the first part of `enableScan` keeps of an element whose LOOP_ENABLE is not 0. -/
theorem disabledScan_other (hl : s.law Obj.LOOP_ENABLE e ≠ 0) :
    (disabledScan s).elem e = s.elem e ∧ ∀ p : Nat × Elem, p.1 = e → (p ∈ (disabledScan s).loops.elems ↔ p ∈ s.loops.elems) := by
  refine foldl_holds (P := fun t => t.elem e = s.elem e ∧ ∀ p : Nat × Elem, p.1 = e → (p ∈ t.loops.elems ↔ p ∈ s.loops.elems)) _
    ⟨rfl, fun _ _ => Iff.rfl⟩ ?_
  rintro t q hq ⟨helem, hmem⟩
  have hne : e ≠ q.1 := by
    rintro rfl
    exact hl (beq_iff_eq.mp (List.mem_filter.mp hq).2)
  refine ⟨(disableElem_other t hne).trans helem, fun p hp => Iff.trans ?_ (hmem p hp)⟩
  unfold disableElem
  extract_lets x
  split
  · rfl
  · rw [setElem_elems]
    exact mem_mset_other (hp ▸ hne)

theorem enableScan_enters (hr : s.loopsRun = true) (hn : (s.loops.elems.map (·.1)).Nodup) (hm : e ∈ s.loops.elems.map (·.1))
    (hs : (s.elem e).state = .disabled) (hd : s.mustDisable e = false) : Resting e .acquire true (enableScan s) := by
  have hl : s.law Obj.LOOP_ENABLE e ≠ 0 := by
    intro h
    simp [State.mustDisable, h] at hd
  obtain ⟨-, hmem⟩ := disabledScan_other hl
  obtain ⟨p, hp, he⟩ := exists_pair hm
  have hvalue (q : Nat × Elem) (hq : q ∈ s.loops.elems) (hqe : q.1 = e) : q.2.state = .disabled := by
    have hfind := mfind_of_mem hn hq
    rw [← hs, State.elem, ← hqe, mget, hfind]
    rfl
  have hrun : (disabledScan s).loopsRun = true := (foldl_keeps (g := State.loopsRun) (fun t p => by
    obtain ⟨m, n, h⟩ := disableElem_eq t p.1
    rw [h]
    rfl) _ s).trans hr
  have hmust : (disabledScan s).mustDisable e = false := (mustDisable_disabledScan s e).trans hd
  rw [enableScan_eq, if_pos hrun]
  generalize disabledScan s = u at hmem hmust hrun
  refine foldl_reaches (P := Resting e .acquire true) (Q := fun p => p.1 = e) ⟨p, ?_, he⟩ ?_ ?_ u
  · refine List.mem_filter.mpr ⟨(hmem p he).mpr hp, ?_⟩
    rw [he, hmust, hvalue p hp he]
    rfl
  · intro t q hq hqe
    rw [enableTurn, if_pos (hvalue q ((hmem q hqe).mp (List.mem_filter.mp hq).1) hqe), ← hqe]
    obtain ⟨hstate, -, hwrap⟩ := enableElem_enters t q.1
    exact ⟨hstate, fun _ => hwrap⟩
  · intro t q _ hq h
    rw [Resting, enableTurn_other t q (Ne.symm hq)]
    exact h

/-! ### VOA_ENABLE and the VOA period (R156, R157, R472) -/

theorem voaEnable_disables (h : s.accepts sess Obj.VOA_ENABLE o 0 = true) :
    ∃ t, exec (.voaEnable sess o 0) s = .next t ∧ t.answered sess 0 Obj.VOA_ENABLE o (.ack []) ∧ t.obj Obj.VOA_ENABLE o = 0 ∧
      t.voa o = { s.voa o with leaving := false } ∧ t.drv = s.drv := by
  obtain ⟨hans, hframe⟩ := hostWrite_acks h (eff := effVoaEnable o 0) rfl (opens_of_frame (effVoaEnable_frame o 0 _) (by decide))
  refine ⟨_, rfl, hans, ?_⟩
  rw [sealed_eq s hframe, seen_eq]
  exact ⟨obj_setObj _ _ _ _, voa_setVoa _ _ _, rfl⟩

theorem voaEnable_enables (h : s.accepts sess Obj.VOA_ENABLE o 1 = true) (hd : (s.voa o).state = .disabled) (hl : s.voaLost o = false) :
    ∃ t, exec (.voaEnable sess o 1) s = .next t ∧ t.answered sess 0 Obj.VOA_ENABLE o (.ack []) ∧ (t.voa o).leaving = true := by
  have heff (u : State) (hd : (u.voa o).state = .disabled) (hl : u.voaLost o = false) :
      (effVoaEnable o 1 u).2 = .ack ∧ ((effVoaEnable o 1 u).1.voa o).leaving = true := by
    unfold effVoaEnable
    extract_lets w
    rw [if_neg one_ne_zero, if_pos ⟨hd, fun hlost => Bool.false_ne_true (hl.symm.trans hlost)⟩]
    exact ⟨rfl, (congrArg Voa.leaving (voa_setVoa w o _) :)⟩
  obtain ⟨hv, hleaving⟩ := heff (seen s sess) (by rw [seen_eq]; exact hd) (by rw [seen_eq]; exact hl)
  obtain ⟨hans, hframe⟩ := hostWrite_acks h hv (opens_of_frame (effVoaEnable_frame o 1 _) (by decide))
  refine ⟨_, rfl, hans, ?_⟩
  rw [sealed_eq s hframe]
  exact hleaving

theorem voaPeriodEnd_runs (hp : s.scan % periodScans (s.lawN Obj.VOA_PERIOD 0) = 0) (hr : s.loopsRun = true) (ho : o < 1024) :
    exec (.voaPeriodEnd o) s = .next (sealed s (noteVoaDecision (voaPeriod s o) o (s.voa o))) :=
  congrArg (finish s) (if_pos ⟨hp, hr, ho⟩)

theorem voaPeriodEnd_voa (u : State) (v : Voa) : ((sealed s (noteVoaDecision u o v)).voa o) = u.voa o := rfl

theorem voaPeriodEnd_drv (u : State) (v : Voa) : (sealed s (noteVoaDecision u o v)).drv = u.drv := rfl

/-- The slew of a VOA's target moves nothing of the drives, of a VOA's state or of what a period end judges. -/
theorem voaTargetStep_keeps (s : State) (o : Nat) (v : Voa) :
    (∃ n e t, (voaTargetStep s o v).2 = { v with srcInvalid := n, eff := e, tReached := t }) ∧
      Frame [.objs, .ex, .sorus, .loops] s (voaTargetStep s o v).1 ∧
      ∀ a b, a ≠ Obj.RING_DROPPED → (voaTargetStep s o v).1.obj a b = s.obj a b := by
  refine ⟨?_, voaTargetStep_frame s o v, ?_⟩
  · unfold voaTargetStep
    split
    · split <;> exact ⟨_, _, _, rfl⟩
    · exact ⟨_, _, _, rfl⟩
  · intro a b h
    unfold voaTargetStep sourceLost
    split
    · split
      · rfl
      · dsimp only
        split
        · rfl
        · exact raiseA_obj h _ _ _
    · rfl

theorem voaPeriod_enters (h : (s.voa o).state = .locked → s.obj Obj.VOA_ENABLE o = 0) :
    ∃ (u : State) (w : Voa), voaPeriod s o = u.setVoa o (u.voaEnters o w) ∧ Frame [.objs, .ex, .sorus, .loops] s u ∧
      u.obj Obj.VOA_ENABLE o = s.obj Obj.VOA_ENABLE o ∧
      w.state = (s.voa o).state ∧ w.leaving = (s.voa o).leaving ∧ w.sum = {} ∧ w.count = 0 := by
  unfold voaPeriod
  extract_lets v v1
  split
  next m whole _ =>
  extract_lets u1 v2
  split
  next u2 v3 h3 =>
  have hu1 : Frame [.objs, .ex, .sorus, .loops] s u1 := .ite ((countStore_frame s [41] m.sat m.inv).mono (by decide)) (.refl s)
  have hobj1 : u1.obj Obj.VOA_ENABLE o = s.obj Obj.VOA_ENABLE o := by
    simp only [u1]
    split
    · exact countStore_obj s _ _ _ (by decide) (by decide) o
    · rfl
  have hv2 : v2.state = v.state ∧ v2.leaving = v.leaving ∧ v2.sum = {} ∧ v2.count = 0 := by
    simp only [v2]
    split <;> exact ⟨rfl, rfl, rfl, rfl⟩
  obtain ⟨⟨n, e, t, hv3⟩, hframe, hobj⟩ := voaTargetStep_keeps u1 o v2
  rw [h3] at hv3 hframe hobj
  subst hv3
  obtain ⟨hstate, hleaving, hsum, hcount⟩ := hv2
  have hoff : u2.obj Obj.VOA_ENABLE o = s.obj Obj.VOA_ENABLE o := (hobj _ _ (by decide)).trans hobj1
  refine ⟨u2, _, if_neg ?_, .step hframe (by decide) hu1, hoff, hstate, hleaving, hsum, hcount⟩
  rintro ⟨hlocked, -, hon⟩
  exact hon (hoff.trans (h (hstate.symm.trans hlocked)))

theorem voaPeriodEnd_disables (hp : s.scan % periodScans (s.lawN Obj.VOA_PERIOD 0) = 0) (hr : s.loopsRun = true) (ho : o < 1024)
    (hoff : s.obj Obj.VOA_ENABLE o = 0) :
    ∃ t, exec (.voaPeriodEnd o) s = .next t ∧ (t.voa o).state = .disabled ∧ t.drv = s.drv := by
  obtain ⟨u, w, hrun, hframe, hobj, -⟩ := voaPeriod_enters (s := s) (o := o) fun _ => hoff
  refine ⟨_, voaPeriodEnd_runs hp hr ho, ?_, ?_⟩
  · rw [voaPeriodEnd_voa, hrun, voa_setVoa, State.voaEnters, if_pos (hobj.trans hoff)]
  · rw [voaPeriodEnd_drv, hrun]
    exact hframe.drv rfl

theorem voaPeriodEnd_enters (hp : s.scan % periodScans (s.lawN Obj.VOA_PERIOD 0) = 0) (hr : s.loopsRun = true) (ho : o < 1024)
    (hon : s.obj Obj.VOA_ENABLE o ≠ 0) :
    ((s.voa o).state = .acquire → (s.chan (voaChan o)).reached = true →
      ∃ t, exec (.voaPeriodEnd o) s = .next t ∧ (t.voa o).state = .locked ∧ (t.voa o).sum = {} ∧ (t.voa o).count = 0 ∧ t.drv = s.drv) ∧
    ((s.voa o).state = .disabled → (s.voa o).leaving = true → s.voaMustDisable o = false →
      ∃ t, exec (.voaPeriodEnd o) s = .next t ∧ (t.voa o).state = .locked ∧ (t.voa o).leaving = false ∧
        (t.voa o).atten = s.voaAttenNow o ∧ t.drv = s.drv) := by
  refine ⟨fun hs hreached => ?_, fun hs hleaves hmust => ?_⟩
  · obtain ⟨u, w, hrun, hframe, hobj, hstate, -, hsum, hcount⟩ := voaPeriod_enters (s := s) (o := o) fun h => by simp [hs] at h
    have hdrv := hframe.drv rfl
    have henters : u.voaEnters o w = { w with state := .locked } := by
      rw [State.voaEnters, if_neg (hobj ▸ hon), if_pos (hstate.trans hs), if_pos]
      rw [State.chan, hdrv]
      exact hreached
    rw [henters] at hrun
    have hvoa : (voaPeriod s o).voa o = { w with state := .locked } := by rw [hrun, voa_setVoa]
    refine ⟨_, voaPeriodEnd_runs hp hr ho, ?_⟩
    rw [voaPeriodEnd_voa, voaPeriodEnd_drv, hvoa, hrun]
    exact ⟨rfl, hsum, hcount, hdrv⟩
  · obtain ⟨u, w, hrun, hframe, hobj, hstate, hleaving, -, -⟩ := voaPeriod_enters (s := s) (o := o) fun h => by simp [hs] at h
    have hdrv := hframe.drv rfl
    have hchan (c : Nat) : u.chan c = s.chan c := by rw [State.chan, State.chan, hdrv]
    have hmust' : u.voaMustDisable o = false := by
      rw [State.voaMustDisable, State.voaLost, hobj, hchan]
      exact hmust
    have hatten : u.voaAttenNow o = s.voaAttenNow o := by
      simp only [State.voaAttenNow, State.voaMap, State.oct, hchan, hframe.octs rfl]
    have henters : u.voaEnters o w = { w with state := .locked, atten := u.voaAttenNow o, leaving := false, vstepping := false } := by
      have hd := hstate.trans hs
      rw [State.voaEnters, if_neg (hobj ▸ hon), if_neg (by rw [hd]; decide), if_pos ⟨hd, hleaving.trans hleaves, by simp [hmust']⟩]
    rw [henters] at hrun
    have hvoa := (congrArg (State.voa · o) hrun).trans (voa_setVoa _ _ _)
    refine ⟨_, voaPeriodEnd_runs hp hr ho, ?_⟩
    rw [voaPeriodEnd_voa, voaPeriodEnd_drv, hvoa, hrun]
    exact ⟨rfl, rfl, hatten, hdrv⟩

/-- A LOCKED loop whose power is outside both bands moves its attenuation by VSTEP. -/
theorem voaLaw_steps {u : State} {v : Voa} {p pt : Int} (hpt : pt = u.tapTarget o v.eff) (hd : u.law Obj.DARK_LEVEL 0 ≤ p)
    (hdo : v.darkOut = false) (hh : u.hostIn (u.scan - 1) = false) (hc : u.ceiling = false)
    (hout : u.law Obj.VBAND_OUT 0 * pt < 32768 * ((p - pt).natAbs : Int))
    (hin : u.law Obj.VBAND_IN 0 * pt < 32768 * ((p - pt).natAbs : Int)) :
    ((voaLaw u o v p).voa o).atten = if pt < p then min (v.atten + u.lawN Obj.VSTEP 0) 25000 else v.atten - u.lawN Obj.VSTEP 0 := by
  subst hpt
  unfold voaLaw
  extract_lets pt dark a st step want code
  have hdark : (dark || v.darkOut || u.hostIn (u.scan - 1)) = false := by
    simp [dark, hdo, hh, hd]
  have hst : st = true := by
    have hfar : decide (u.law Obj.VBAND_OUT 0 * pt < a) = true := decide_eq_true hout
    have hstill : decide (a ≤ u.law Obj.VBAND_IN 0 * pt) = false := decide_eq_false (not_le.mpr hin)
    simp only [st, hfar, hstill]
    cases v.vstepping <;> rfl
  have hpass : ceilingPass u (voaChan o) code = (u, true) := by simp [ceilingPass, hc]
  rw [hdark, if_neg Bool.false_ne_true]
  rw [hpass, ite_self]
  change ((if want = v.atten then _ else writeTarget _ (voaChan o) code).voa o).atten = _
  have hwant : want = if u.tapTarget o v.eff < p then min (v.atten + u.lawN Obj.VSTEP 0) 25000 else v.atten - u.lawN Obj.VSTEP 0 := by
    simp only [want, hst, if_true]
    rfl
  rw [← hwant]
  have hset (w : State) (x : Voa) (hx : x.atten = want) :
      ((if want = v.atten then w.setVoa o x else writeTarget (w.setVoa o x) (voaChan o) code).voa o).atten = want := by
    split
    · rw [voa_setVoa, hx]
    · have hloops := (writeTarget_frame (w.setVoa o x) (voaChan o) code).loops rfl
      rw [State.voa, hloops, ← State.voa, voa_setVoa, hx]
  exact hset u _ rfl

theorem voaPeriodEnd_regulates {m : Sample} {pt : Int} (hp : s.scan % periodScans (s.lawN Obj.VOA_PERIOD 0) = 0)
    (hr : s.loopsRun = true) (ho : o < 1024) (hon : s.obj Obj.VOA_ENABLE o ≠ 0) (hl : (s.voa o).state = .locked)
    (hi : s.voaInput o = none) (hm : (s.voa o).meanOf (s.lawN Obj.VOA_PERIOD 0) = (m, true)) (hd : s.law Obj.DARK_LEVEL 0 ≤ m.p)
    (hdo : (s.voa o).darkOut = false) (hh : s.hostIn (s.scan - 1) = false) (hc : s.ceiling = false)
    (hpt : pt = s.tapTarget o (slewTo (s.voa o).eff (s.voaNewest o) (s.law Obj.TARGET_SLEW 0)))
    (hout : s.law Obj.VBAND_OUT 0 * pt < 32768 * ((m.p - pt).natAbs : Int))
    (hin : s.law Obj.VBAND_IN 0 * pt < 32768 * ((m.p - pt).natAbs : Int)) :
    ∃ t, exec (.voaPeriodEnd o) s = .next t ∧
      (t.voa o).atten = if pt < m.p then min ((s.voa o).atten + s.lawN Obj.VSTEP 0) 25000 else (s.voa o).atten - s.lawN Obj.VSTEP 0 := by
  refine ⟨_, voaPeriodEnd_runs hp hr ho, ?_⟩
  rw [voaPeriodEnd_voa]
  unfold voaPeriod
  extract_lets v v1
  split
  next m' whole hm' =>
  obtain ⟨rfl, rfl⟩ := Prod.mk.inj (hm.symm.trans hm')
  extract_lets u v2
  have hu : u = s ∨ u = countStore s [41] m.sat m.inv := by
    simp only [u]
    split
    · exact .inr rfl
    · exact .inl rfl
  have hobjs : ∃ l, u = { s with objs := l } := by
    rcases hu with h | h
    · exact ⟨s.objs, h⟩
    · rw [h]
      exact countStore_eq s _ _ _
  have hobj {a : Nat} (hi : a ≠ Obj.INV_COUNT) (hs : a ≠ Obj.SAT_COUNT) (k : Nat) : u.obj a k = s.obj a k := by
    rcases hu with h | h
    · rw [h]
    · rw [h]
      exact countStore_obj s _ _ _ hi hs k
  have hlaw {a : Nat} (hi : a ≠ Obj.INV_COUNT) (hs : a ≠ Obj.SAT_COUNT) (k : Nat) : u.law a k = s.law a k := by
    rcases hu with h | h
    · rw [h]
    · rw [h]
      exact law_countStore s _ _ _ hi hs k
  have hinput : u.voaInput o = none := by
    rw [State.voaInput, State.objN, hobj (by decide) (by decide), ← State.objN, ← State.voaInput, hi]
  have hnewest : u.voaNewest o = s.voaNewest o := by
    simp only [State.voaNewest, hinput, hi]
    exact hobj (by decide) (by decide) o
  have hstep : voaTargetStep u o v2 = (u, { v2 with
      srcInvalid := false, eff := slewTo v2.eff (u.voaNewest o) (u.law Obj.TARGET_SLEW 0),
      tReached := decide (slewTo v2.eff (u.voaNewest o) (u.law Obj.TARGET_SLEW 0) = u.voaNewest o) }) := by
    simp only [voaTargetStep, hinput]
  have hv2 : v2.state = (s.voa o).state ∧ v2.eff = (s.voa o).eff ∧ v2.darkOut = (s.voa o).darkOut ∧ v2.atten = (s.voa o).atten :=
    ⟨rfl, rfl, rfl, rfl⟩
  clear_value u v2
  obtain ⟨hstate, heff, hdark, hatten⟩ := hv2
  rw [hstep]
  dsimp only
  rw [if_pos ⟨hstate.trans hl, rfl, by rw [hobj (by decide) (by decide)]; exact hon⟩]
  have htarget : pt = u.tapTarget o (slewTo v2.eff (u.voaNewest o) (u.law Obj.TARGET_SLEW 0)) := by
    rw [hpt, heff, hnewest, hlaw (by decide) (by decide), State.tapTarget, State.tapTarget, hobj (by decide) (by decide)]
  have hhost : u.hostIn (u.scan - 1) = false := by
    obtain ⟨l, rfl⟩ := hobjs
    exact hh
  have hceiling : u.ceiling = false := by
    obtain ⟨l, rfl⟩ := hobjs
    exact hc
  have hd' : u.law Obj.DARK_LEVEL 0 ≤ m.p := (hlaw (by decide) (by decide) 0).trans_le hd
  have hout' : u.law Obj.VBAND_OUT 0 * pt < 32768 * ((m.p - pt).natAbs : Int) := by
    rw [hlaw (by decide) (by decide)]
    exact hout
  have hin' : u.law Obj.VBAND_IN 0 * pt < 32768 * ((m.p - pt).natAbs : Int) := by
    rw [hlaw (by decide) (by decide)]
    exact hin
  refine (voaLaw_steps ?_ hd' ?_ hhost hceiling hout' hin').trans ?_
  · exact htarget
  · exact hdark.trans hdo
  rw [hatten, State.lawN, State.lawN, hlaw (by decide) (by decide)]

end

/-- Settles O24: set-points, LOOP_ENABLE, VOA_ENABLE and the VOA period. -/
theorem loopObjects : Obligations.LoopObjects := by
  unfold Obligations.LoopObjects
  exact ⟨fun _ _ _ _ => setpoint_targets, fun _ _ _ => loopEnable_disables,
    fun _ _ _ hm hl => (elemsScan_rests (by decide) (by decide) (enableScan_disables hm hl)).1,
    fun e s => ⟨disableElem_state s e, disableElem_phi s e, (disableElem_frame s e).drv rfl⟩,
    fun _ _ _ => loopEnable_enables,
    fun e s hr hn hm hs hd =>
      have h := elemsScan_rests (by decide) (by decide) (enableScan_enters hr hn hm hs hd)
      ⟨h.1, h.2 rfl⟩,
    fun e s =>
      have h := enableElem_enters s e
      ⟨h.1, h.2.1, h.2.2, (enableElem_frame s e).drv rfl⟩,
    fun _ _ _ => voaEnable_disables, fun _ _ _ => voaEnable_enables, fun _ _ => voaPeriodEnd_disables, fun _ _ => voaPeriodEnd_enters,
    fun _ _ _ _ => voaPeriodEnd_regulates⟩

end Sys2Proof.Proofs

/-!
SUPPORT. Requests of OCTETS objects that are answered, and immediate grants.
-/

namespace Sys2Proof.Proofs

open Sys2Proof Sys2Proof.Machine Sys2Proof.Laws

section

variable {s : State} {sess addr sel : Nat} {eff : State → State × Verdict} {c : Instr}

/-- An accepted write of an OCTETS object whose effect acknowledges it is answered ACK. -/
theorem hostOctets_acks (hc : reqOf c = none) (h : s.acceptsOctets sess addr sel = true) (hv : (eff (seen s sess)).2 = .ack)
    (ho : Opens1 (seen s sess) (eff (seen s sess))) :
    (hostOctets s c sess addr sel eff).answered sess 0 addr sel (.ack []) ∧
      Frame [.ex] (eff (seen s sess)).1 (hostOctets s c sess addr sel eff) :=
  hostOctets_ack hc h (Prod.ext rfl hv) ho

/-- One whose effect refuses it is answered with that NAK. -/
theorem hostOctets_naks {n : Nak} (hc : reqOf c = none) (h : s.acceptsOctets sess addr sel = true) (ha : addr ≠ Obj.LOAD_CLOSE)
    (hv : (eff (seen s sess)).2 = .nak n) (ho : Opens1 (seen s sess) (eff (seen s sess))) :
    (hostOctets s c sess addr sel eff).answered sess 0 addr sel (.nak n 0 0) ∧
      Frame [.ex] (eff (seen s sess)).1 (hostOctets s c sess addr sel eff) := by
  have hopen : openIn (eff (seen s sess)).1 sess := ho _ (openIn_seen (by
    unfold State.acceptsOctets at h
    exact (Bool.and_eq_true _ _ ▸ h).1))
  have hdetail : (eff (seen s sess)).1.detailOf sess addr n = 0 := if_neg fun e => ha e.1
  rw [hostOctets_accepts h hc, show eff (seen s sess) = ((eff (seen s sess)).1, .nak n) from Prod.ext rfl hv]
  generalize (eff (seen s sess)).1 = u at hopen hdetail
  have hconclude : conclude sess 0 addr sel (u, .nak n) = answer u sess 0 addr sel (.nak n 0 (u.detailOf sess addr n)) := rfl
  rw [hconclude, hdetail]
  exact answer_open hopen 0 addr sel (.nak n 0 0)

end

/-- A grant asked for at once is held where it fits. -/
theorem grantNow_grants {s : State} {r : GReq} (hf : s.steady.frozen = false) (hu : s.steady.upsets = []) (h : s.reqFits r = true) :
    grantNow s r = (issueGrant s r, true) := by
  simp [grantNow, steadyDecides_sound hf hu, h]

/-- One that does not fit is refused, and counted. -/
theorem grantNow_refuses {s : State} {r : GReq} (hf : s.steady.frozen = false) (hu : s.steady.upsets = []) (h : s.reqFits r = false) :
    grantNow s r = (s.incSat Obj.GRANTS_REFUSED 0, false) := by
  simp [grantNow, steadyDecides_sound hf hu, h]

end Sys2Proof.Proofs

/-!
SUPPORT. The proofs of the host's drive (spec/05_loops.md, Host-assisted loop mode).
-/

namespace Sys2Proof.Proofs

open Sys2Proof Sys2Proof.Machine Sys2Proof.Laws

section

variable {s : State} {sess : Nat} {recs : List DriveRec}

/-- The heater increase that a block asks for. -/
def blockHeat (s : State) (recs : List DriveRec) : Int := (recs.map s.driveRecHeat).foldl (· + ·) 0

/-- The request for the grant of a block. -/
def blockReq (s : State) (recs : List DriveRec) : GReq :=
  { kind := .hostDrive, source := s.objN Obj.HOST_BLOCKS 0 + 1, heater := blockHeat s recs,
    chans := (recs.filter fun r => decide (0 < s.driveRecHeat r)).map fun r => 81920 + r.sel, charge := 0 }

theorem reqFits_blockReq : s.reqFits (blockReq s recs) = s.heaterFits (blockHeat s recs) := by
  simp [State.reqFits, State.chargeFits, blockReq]

theorem findIdx_inRange (h : ∀ r ∈ recs, s.driveRecOk r = true) : (recs.findIdx? fun r => !s.driveRecOk r) = none := by
  rw [List.findIdx?_eq_none_iff]
  intro r hr
  rw [h r hr]
  rfl

theorem effHostDrive_granted {u : State} (hm : s.hostMode 1 = true) (hr : ∀ r ∈ recs, s.driveRecOk r = true)
    (hg : grantNow s (blockReq s recs) = (u, true)) :
    effHostDrive recs s = ({ u.incSat Obj.HOST_BLOCKS 0 with
      loops := { u.loops with hostBlocks := u.loops.hostBlocks ++ [recs]
                              hostLast := if u.driveLate then u.loops.hostLast else u.tick } }, .ack) := by
  unfold effHostDrive
  rw [if_neg (by simp [hm]), findIdx_inRange hr]
  simp only [blockReq, blockHeat] at hg
  dsimp only
  rw [hg]
  rfl

theorem effHostDrive_unfit {u : State} (hm : s.hostMode 1 = true) (hr : ∀ r ∈ recs, s.driveRecOk r = true)
    (hg : grantNow s (blockReq s recs) = (u, false)) : ∃ i, effHostDrive recs s = driveRefused u .budget i := by
  unfold effHostDrive
  rw [if_neg (by simp [hm]), findIdx_inRange hr]
  simp only [blockReq, blockHeat] at hg
  dsimp only
  rw [hg]
  exact ⟨_, rfl⟩

theorem effHostDrive_outOfRange (hm : s.hostMode 1 = true) (hr : ∃ r ∈ recs, s.driveRecOk r = false) :
    ∃ i, effHostDrive recs s = driveRefused s .range i := by
  unfold effHostDrive
  rw [if_neg (by simp [hm])]
  split
  · exact ⟨_, rfl⟩
  case h_2 h =>
    obtain ⟨r, hmem, hbad⟩ := hr
    have hok := List.findIdx?_eq_none_iff.mp h r hmem
    simp [hbad] at hok

theorem driveRefused_refuses (s : State) (n : Nak) (i : Nat) :
    (driveRefused s n i).2 = .nak n ∧ (driveRefused s n i).1.loops = s.loops ∧
      (driveRefused s n i).1.objN Obj.HOST_REFUSED 0 = min u32Max (s.objN Obj.HOST_REFUSED 0 + 1) := by
  have hobj := raiseA_obj (a := Obj.HOST_REFUSED) (b := 0) (by decide) (s.incSat Obj.HOST_REFUSED 0) 0x3006 [.word n.code, .word i]
  refine ⟨rfl, raiseA_loops _ _ _, ?_⟩
  rw [State.objN, driveRefused, hobj, obj_incSat_self, Int.toNat_natCast]

theorem effHostDrive_acks (hm : s.hostMode 1 = true) (hr : ∀ r ∈ recs, s.driveRecOk r = true) (hf : s.steady.frozen = false)
    (hu : s.steady.upsets = []) (hh : s.heaterFits (blockHeat s recs) = true) :
    let r := effHostDrive recs s
    r.2 = .ack ∧ r.1.loops = { s.loops with hostBlocks := s.loops.hostBlocks ++ [recs]
                                            hostLast := if s.driveLate then s.loops.hostLast else s.tick } ∧
      r.1.objN Obj.HOST_BLOCKS 0 = min u32Max (s.objN Obj.HOST_BLOCKS 0 + 1) ∧
      r.1.holds .hostDrive (s.objN Obj.HOST_BLOCKS 0 + 1) = true ∧ r.1.drv = s.drv := by
  have hgrant : grantNow s (blockReq s recs) = (issueGrant s (blockReq s recs), true) :=
    grantNow_grants hf hu (reqFits_blockReq.trans hh)
  have hholds : (issueGrant s (blockReq s recs)).holds .hostDrive (s.objN Obj.HOST_BLOCKS 0 + 1) = true := issueGrant_holds s (blockReq s recs)
  have hframe := issueGrant_frame s (blockReq s recs)
  have hblocks : (issueGrant s (blockReq s recs)).objN Obj.HOST_BLOCKS 0 = s.objN Obj.HOST_BLOCKS 0 :=
    congrArg Int.toNat (issueGrant_objs s (blockReq s recs) _ _ (by decide))
  have hlate : (issueGrant s (blockReq s recs)).driveLate = s.driveLate := by
    have hdeadline : (issueGrant s (blockReq s recs)).objN Obj.HOST_DEADLINE 0 = s.objN Obj.HOST_DEADLINE 0 :=
      congrArg Int.toNat (issueGrant_objs s (blockReq s recs) _ _ (by decide))
    unfold State.driveLate State.hostMode State.func State.elapsed
    rw [hdeadline, hframe.funcs rfl, hframe.loops rfl, hframe.tick rfl]
  rw [effHostDrive_granted hm hr hgrant]
  generalize issueGrant s (blockReq s recs) = u at *
  refine ⟨rfl, ?_, ?_, hholds, hframe.drv rfl⟩
  · dsimp only
    rw [hlate, hframe.loops rfl, hframe.tick rfl]
  · rw [← hblocks]
    exact congrArg Int.toNat (obj_incSat_self u Obj.HOST_BLOCKS 0 1)

theorem hostDrive_accepts (h : s.acceptsOctets sess Obj.HOST_DRIVE 0 = true) (hm : s.hostMode 1 = true)
    (hr : ∀ r ∈ recs, s.driveRecOk r = true) (hf : s.steady.frozen = false) (hu : s.steady.upsets = [])
    (hh : s.heaterFits ((recs.map s.driveRecHeat).foldl (· + ·) 0) = true) :
    ∃ t, exec (.hostDrive sess recs) s = .next t ∧ t.answered sess 0 Obj.HOST_DRIVE 0 (.ack []) ∧
      t.loops = { s.loops with hostBlocks := s.loops.hostBlocks ++ [recs]
                               hostLast := if s.driveLate then s.loops.hostLast else s.tick } ∧
      t.objN Obj.HOST_BLOCKS 0 = min u32Max (s.objN Obj.HOST_BLOCKS 0 + 1) ∧
      t.holds .hostDrive (s.objN Obj.HOST_BLOCKS 0 + 1) = true ∧ t.drv = s.drv := by
  obtain ⟨hv, hfacts⟩ := effHostDrive_acks (s := seen s sess) (recs := recs) (by rw [seen_eq]; exact hm) (by rw [seen_eq]; exact hr)
    (by rw [seen_eq]; exact hf) (by rw [seen_eq]; exact hu) (by rw [seen_eq]; exact hh)
  obtain ⟨hans, hframe⟩ := hostOctets_acks (c := .hostDrive sess recs) rfl h hv (effHostDrive_opens recs _)
  refine ⟨_, rfl, hans, ?_⟩
  rw [sealed_eq s hframe]
  rw [seen_eq] at hfacts
  rw [seen_eq]
  exact hfacts

theorem hostDrive_refuses {n : Nak} (h : s.acceptsOctets sess Obj.HOST_DRIVE 0 = true)
    (he : ∃ (u : State) (i : Nat), effHostDrive recs (seen s sess) = driveRefused u n i ∧ u.loops = s.loops ∧
      u.objN Obj.HOST_REFUSED 0 = s.objN Obj.HOST_REFUSED 0) :
    ∃ t, exec (.hostDrive sess recs) s = .next t ∧ t.answered sess 0 Obj.HOST_DRIVE 0 (.nak n 0 0) ∧ t.loops = s.loops ∧
      t.objN Obj.HOST_REFUSED 0 = min u32Max (s.objN Obj.HOST_REFUSED 0 + 1) := by
  obtain ⟨u, i, hrun, hloops, hobj⟩ := he
  obtain ⟨hv, hl, ho⟩ := driveRefused_refuses u n i
  obtain ⟨hans, hframe⟩ := hostOctets_naks (c := .hostDrive sess recs) rfl h (by decide) ((congrArg Prod.snd hrun).trans hv)
    (effHostDrive_opens recs _)
  refine ⟨_, rfl, hans, ?_⟩
  rw [sealed_eq s hframe, hrun]
  exact ⟨hl.trans hloops, ho.trans (by rw [hobj])⟩

theorem hostDrive_unfit (h : s.acceptsOctets sess Obj.HOST_DRIVE 0 = true) (hm : s.hostMode 1 = true)
    (hr : ∀ r ∈ recs, s.driveRecOk r = true) (hf : s.steady.frozen = false) (hu : s.steady.upsets = [])
    (hh : s.heaterFits ((recs.map s.driveRecHeat).foldl (· + ·) 0) = false) :
    ∃ t, exec (.hostDrive sess recs) s = .next t ∧ t.answered sess 0 Obj.HOST_DRIVE 0 (.nak .budget 0 0) ∧ t.loops = s.loops ∧
      t.objN Obj.HOST_REFUSED 0 = min u32Max (s.objN Obj.HOST_REFUSED 0 + 1) := by
  refine hostDrive_refuses h ?_
  rw [seen_eq]
  generalize hv : ({ s with ex := (seen s sess).ex } : State) = v
  have hfit : v.reqFits (blockReq v recs) = false := by
    subst hv
    exact reqFits_blockReq.trans hh
  obtain ⟨i, hrun⟩ := effHostDrive_unfit (by subst hv; exact hm) (by subst hv; exact hr)
    (grantNow_refuses (by subst hv; exact hf) (by subst hv; exact hu) hfit)
  subst hv
  exact ⟨_, i, hrun, rfl, congrArg Int.toNat (obj_incSat_other _ (by decide))⟩

theorem hostDrive_outOfRange (h : s.acceptsOctets sess Obj.HOST_DRIVE 0 = true) (hm : s.hostMode 1 = true)
    (hr : ∃ r ∈ recs, s.driveRecOk r = false) :
    ∃ t, exec (.hostDrive sess recs) s = .next t ∧ t.answered sess 0 Obj.HOST_DRIVE 0 (.nak .range 0 0) ∧ t.loops = s.loops ∧
      t.objN Obj.HOST_REFUSED 0 = min u32Max (s.objN Obj.HOST_REFUSED 0 + 1) := by
  refine hostDrive_refuses h ?_
  rw [seen_eq]
  obtain ⟨i, hrun⟩ := effHostDrive_outOfRange (s := { s with ex := (seen s sess).ex }) hm hr
  exact ⟨_, i, hrun, rfl, rfl⟩

theorem hostDriveApply_applies (hm : s.hostMode 1 = true) (ht : s.tick % 256 = 0) :
    ∃ t, exec .hostDriveApply s = .next t ∧ t.loops.hostBlocks = [] ∧ t.drv = (s.loops.hostBlocks.flatten.foldl applyRec s).drv ∧
      t.elem = (s.loops.hostBlocks.flatten.foldl applyRec s).elem ∧ t.voa = (s.loops.hostBlocks.flatten.foldl applyRec s).voa ∧
      Frame [.ex, .lobes, .sorus, .drv, .loops] s t := by
  have hrun : exec .hostDriveApply s = .next (sealed s (applyBlocks s)) := congrArg (finish s) (if_pos ⟨hm, ht⟩)
  refine ⟨_, hrun, rfl, rfl, rfl, rfl, frame_sealed ?_ (by decide)⟩
  exact (applyBlocks_frame s).mono (by decide)

/-! ### Records applied (R163, R157) -/

theorem driveElem_elem (s : State) (e f : Nat) : (driveElem s e).elem f = s.elem f := elem_of_loops ((driveElem_frame s e).loops rfl) f

theorem driveTrimmer_elem (s : State) (e : Nat) (v : Int) (f : Nat) : (driveTrimmer s e v).elem f = s.elem f :=
  elem_of_loops ((driveTrimmer_frame s e v).loops rfl) f

theorem applyRec_phi (s : State) (e v : Nat) : applyRec s ⟨e, v, 0, 0⟩ =
    if (s.elem e).state = .disabled ∧ s.cellClass (cellOf e) = 3 then s
    else driveElem (s.setElem e { s.elem e with phiC := toSigned 16 v, phiL := 0, phiW := 0 }) e := by
  unfold applyRec
  dsimp only
  rw [if_neg (show ¬ (0 : Nat) = 2 by decide), if_pos rfl]

theorem applyRec_theta (s : State) (e v : Nat) : applyRec s ⟨e, v, 1, 0⟩ =
    if (s.elem e).state = .disabled ∧ s.cellClass (cellOf e) = 3 then s
    else driveTrimmer (s.setElem e { s.elem e with theta := v }) e v := by
  unfold applyRec
  dsimp only
  rw [if_neg (show ¬ (1 : Nat) = 2 by decide), if_neg (show ¬ (1 : Nat) = 0 by decide)]

theorem applyRec_element {e v : Nat} (h : ¬ ((s.elem e).state = .disabled ∧ s.cellClass (cellOf e) = 3)) :
    (applyRec s ⟨e, v, 0, 0⟩).elem e = { s.elem e with phiC := toSigned 16 v, phiL := 0, phiW := 0 } ∧
    (applyRec s ⟨e, v, 0, 0⟩).drv =
      (driveElem (s.setElem e { s.elem e with phiC := toSigned 16 v, phiL := 0, phiW := 0 }) e).drv ∧
    (applyRec s ⟨e, v, 1, 0⟩).elem e = { s.elem e with theta := v } ∧
    (applyRec s ⟨e, v, 1, 0⟩).drv = (driveTrimmer (s.setElem e { s.elem e with theta := v }) e v).drv := by
  rw [applyRec_phi, applyRec_theta, if_neg h, if_neg h, driveElem_elem, driveTrimmer_elem, elem_setElem, elem_setElem]
  exact ⟨rfl, rfl, rfl, rfl⟩

theorem applyRec_blocked {e v : Nat} (hs : (s.elem e).state = .disabled) (hc : s.cellClass (cellOf e) = 3) :
    applyRec s ⟨e, v, 0, 0⟩ = s ∧ applyRec s ⟨e, v, 1, 0⟩ = s := by
  rw [applyRec_phi, applyRec_theta]
  exact ⟨if_pos ⟨hs, hc⟩, if_pos ⟨hs, hc⟩⟩

theorem applyRec_voa (s : State) (o v : Nat) : applyRec s ⟨40960 + o, v, 2, 0⟩ =
    if (s.voa o).state = .disabled then s else driveVoa (s.setVoa o { s.voa o with atten := v }) o := by
  unfold applyRec
  rw [if_pos rfl]
  dsimp only
  rw [Nat.add_sub_cancel_left]

theorem applyRec_attenuates {o v : Nat} (h : (s.voa o).state ≠ .disabled) :
    (applyRec s ⟨40960 + o, v, 2, 0⟩).voa o = { s.voa o with atten := v } ∧
    (applyRec s ⟨40960 + o, v, 2, 0⟩).drv = (driveVoa (s.setVoa o { s.voa o with atten := v }) o).drv := by
  rw [applyRec_voa, if_neg h]
  refine ⟨?_, rfl⟩
  rw [State.voa, (driveVoa_frame (s.setVoa o _) o).loops rfl, ← State.voa, voa_setVoa]

end

/-- Settles O25: the host's blocks accepted and refused, and their records applied at the next boundary. -/
theorem hostDriveBlocks : Obligations.HostDriveBlocks := by
  unfold Obligations.HostDriveBlocks
  exact ⟨fun _ _ _ => hostDrive_accepts, fun _ _ _ => hostDrive_unfit, fun _ _ _ => hostDrive_outOfRange, fun _ => hostDriveApply_applies,
    fun _ _ _ => applyRec_element, fun _ _ _ => applyRec_blocked, fun o v s h => (applyRec_voa s o v).trans (if_pos h),
    fun _ _ _ => applyRec_attenuates⟩

end Sys2Proof.Proofs

/-!
SUPPORT. What an event leaves of the sessions' side: records wait in the log and in the sessions that subscribe to them; all else of a
session, what is owed and what was answered stay.
-/

namespace Sys2Proof.Proofs

open Sys2Proof Sys2Proof.Machine Sys2Proof.Laws

/-- One session from another by the delivery of events. -/
def Delivered (x y : Session) : Prop := ∃ q d o, y = { x with queue := q, dropped := d, overflowed := o }

theorem Delivered.refl (x : Session) : Delivered x x := ⟨x.queue, x.dropped, x.overflowed, rfl⟩

theorem Delivered.trans {x y z : Session} (h : Delivered x y) (k : Delivered y z) : Delivered x z := by
  obtain ⟨q, d, o, rfl⟩ := h
  obtain ⟨q', d', o', rfl⟩ := k
  exact ⟨q', d', o', rfl⟩

theorem delivered_deliver (x : Session) (e : EvRec) : Delivered x (x.deliver e).1 := by
  unfold Session.deliver
  split
  · split
    · exact ⟨_, _, _, rfl⟩
    · exact ⟨_, _, _, rfl⟩
  · exact .refl x

/-- The sessions' side of the second state is that of the first but for events logged, deferred and delivered. -/
def Told (s t : State) : Prop := ∃ (l : Nat) (q : List EvRec) (d : List DeferredEv) (f : Session → Session),
  (∀ x, Delivered x (f x)) ∧
    t.ex = { s.ex with logSeq := l, log := q, deferred := d, sessions := mmap (fun _ => f) s.ex.sessions }

theorem mmap_id {α : Type} (m : SMap α) : mmap (fun _ => id) m = m := by
  induction m with
  | nil => rfl
  | cons p t ih => simp [mmap, ih]

theorem mmap_mmap {α : Type} (f g : α → α) (m : SMap α) : mmap (fun _ => g) (mmap (fun _ => f) m) = mmap (fun _ => g ∘ f) m := by
  induction m with
  | nil => rfl
  | cons p t ih => simp [mmap, ih]

section

variable {s t u : State}

theorem Told.of_ex (h : t.ex = s.ex) : Told s t :=
  ⟨s.ex.logSeq, s.ex.log, s.ex.deferred, id, Delivered.refl, by rw [h, mmap_id]⟩

theorem Told.refl (s : State) : Told s s := .of_ex rfl

theorem Told.trans (h : Told s t) (k : Told t u) : Told s u := by
  obtain ⟨l, q, d, f, hf, ht⟩ := h
  obtain ⟨l', q', d', g, hg, hu⟩ := k
  refine ⟨l', q', d', g ∘ f, fun x => (hf x).trans (hg _), ?_⟩
  rw [hu, ht, mmap_mmap]

theorem Told.frame {c : List Comp} (k : Frame c t u) (hc : c.contains .ex = false) (h : Told s t) : Told s u :=
  h.trans (.of_ex (k.ex hc))

theorem noteEvent_told (s : State) (e : EvRec) : Told s (noteEvent s e) :=
  ⟨_, _, _, fun x => (x.deliver e).1, fun x => delivered_deliver x e, rfl⟩

theorem logEvent_told (s : State) (code lobe : Nat) (d : Bool) (time : Int) (data : List EvItem) :
    Told s (logEvent s code lobe d time data).1 := by
  unfold logEvent
  extract_lets e due
  have hrings : Frame [.objs, .sorus] (noteEvent s e) ((List.range 16).foldl (ringEvent e) (noteEvent s e, due)).1 :=
    .fold1 (ringEvent_frame e) (.pair (.refl _))
  exact .frame hrings (by decide) (noteEvent_told s e)

theorem logFollow_told (time : Int) (n : Nat) (q : List (Nat × List EvItem)) (s : State) : Told s (logFollow time n q s) := by
  induction n generalizing q s with
  | zero => cases q <;> exact .refl s
  | succ n ih =>
    cases q with
    | nil => exact .refl s
    | cons m q => exact (logEvent_told s m.1 0xFF false time m.2).trans (ih _ _)

theorem raise_told (s : State) (code lobe : Nat) (data : List EvItem) : Told s (raise s code lobe data) := by
  unfold raise
  split
  · exact (logEvent_told _ _ _ _ _ _).trans (logFollow_told _ _ _ _)
  · exact ⟨s.ex.logSeq, s.ex.log, _, id, Delivered.refl, by rw [mmap_id]⟩

theorem Told.raiseA {code : Nat} {data : List EvItem} (h : Told s t) : Told s (raiseA t code data) := h.trans (raise_told _ _ _ _)

theorem Told.raiseS {code : Nat} {data : List EvItem} (h : Told s t) : Told s (raiseS t code data) := h.trans (raise_told _ _ _ _)

theorem find_mmap (f : Session → Session) (hf : ∀ x, (f x).num = x.num) (n : Nat) (m : SMap Session) :
    (mmap (fun _ => f) m).find? (fun p => p.2.num == n) = (m.find? fun p => p.2.num == n).map fun p => (p.1, f p.2) := by
  induction m with
  | nil => rfl
  | cons p t ih =>
    obtain ⟨a, x⟩ := p
    by_cases h : x.num = n
    · rw [mmap, List.find?_cons_of_pos (by simp [hf, h]), List.find?_cons_of_pos (by simp [h])]
      rfl
    · rw [mmap, List.find?_cons_of_neg (by simp [hf, h]), List.find?_cons_of_neg (by simp [h]), ih]

/-- A session keeps its place and all but what events change. -/
theorem Told.session (h : Told s t) {n i : Nat} {x : Session} (hx : s.session n = some (i, x)) :
    ∃ y, t.session n = some (i, y) ∧ Delivered x y := by
  obtain ⟨l, q, d, f, hf, ht⟩ := h
  refine ⟨f x, ?_, hf x⟩
  have hnum (x : Session) : (f x).num = x.num := by
    obtain ⟨q, d, o, hx⟩ := hf x
    rw [hx]
  rw [State.session, ht]
  simp only
  rw [find_mmap f hnum]
  unfold State.session at hx
  rw [hx]
  rfl

theorem Told.owed (h : Told s t) : t.ex.owed = s.ex.owed := by
  obtain ⟨l, q, d, f, hf, ht⟩ := h
  rw [ht]

theorem Told.out (h : Told s t) : t.ex.out = s.ex.out := by
  obtain ⟨l, q, d, f, hf, ht⟩ := h
  rw [ht]

end

/-! ### A session's place in the table -/

theorem find_mset_same (l : SMap Session) {n i : Nat} {x y : Session} (h : l.find? (fun p => p.2.num == n) = some (i, x))
    (hy : y.num = n) : (mset l i y).find? (fun p => p.2.num == n) = some (i, y) := by
  have hnew (t : SMap Session) : ((i, y) :: t).find? (fun p => p.2.num == n) = some (i, y) :=
    List.find?_cons_of_pos (by simpa using hy)
  induction l with
  | nil => simp at h
  | cons p t ih =>
    obtain ⟨j, z⟩ := p
    unfold mset
    split
    · exact hnew t
    · split
      · exact hnew _
      · next hne _ =>
        by_cases hz : z.num = n
        · rw [List.find?_cons_of_pos (by simpa using hz)] at h
          cases h
          exact absurd rfl hne
        · rw [List.find?_cons_of_neg (by simpa using hz)] at h
          rw [List.find?_cons_of_neg (by simpa using hz)]
          exact ih h

section

variable {s : State} {n i : Nat} {x y : Session}

theorem session_setSession_same (h : s.session n = some (i, x)) (hy : y.num = n) : (s.setSession i y).session n = some (i, y) :=
  find_mset_same _ h hy

theorem seen_eq_setSession (h : s.session n = some (i, x)) : seen s n = s.setSession i { x with lastFrame := s.tick } := by
  unfold seen
  simp only [h]

theorem session_seen_same (h : s.session n = some (i, x)) : (seen s n).session n = some (i, { x with lastFrame := s.tick }) := by
  rw [seen_eq_setSession h]
  exact session_setSession_same h (show x.num = n from session_num h)

theorem sendAnswer_owed (s : State) (source : Nat) (a : Answer) : (sendAnswer s source a).ex.owed = s.ex.owed := by
  unfold sendAnswer sendTo
  split
  · rfl
  · split <;> rfl

/-- An answer leaves its session in place, but for the SEQ, the response cache and where its request came from. -/
theorem answer_session (h : s.session n = some (i, x)) (req addr sel : Nat) (r : Reply) :
    (answer s n req addr sel r).ex.owed = s.ex.owed ∧ ∃ q c o, (answer s n req addr sel r).session n =
      some (i, { x with txSeq := q, cache := c, origins := o }) ∧
        mfind (answer s n req addr sel r).ex.sessions i = some { x with txSeq := q, cache := c, origins := o } := by
  unfold answer answerFrom
  simp only [h]
  refine ⟨sendAnswer_owed _ _ _, _, _, _, ?_, mfind_mset_self _ _ _⟩
  refine session_setSession_same (x := x) ?_ (show x.num = n from session_num h)
  rw [State.session, sendAnswer_sessions]
  exact h

theorem openIn_of_session (h : s.session n = some (i, x)) : openIn s n := (openIn_iff s n).mpr ⟨i, x, h⟩

/-- An accepted write is answered where its session is still open after the effect. -/
theorem hostWrite_answers {u : State} {addr sel : Nat} {v : Int} {eff : State → State × Verdict} (h : s.accepts n addr sel v = true)
    (ho : openIn u n) :
    (eff (seen s n) = (u, .ack) → (hostWrite s n addr sel v eff).answered n 0 addr sel (.ack []) ∧
      Frame [.ex] u (hostWrite s n addr sel v eff)) ∧
    (∀ k, eff (seen s n) = (u, .nak k) → (hostWrite s n addr sel v eff).answered n 0 addr sel (.nak k 0 (u.detailOf n addr k)) ∧
      Frame [.ex] u (hostWrite s n addr sel v eff)) := by
  rw [hostWrite_accepts h]
  refine ⟨fun he => ?_, fun k he => ?_⟩
  · rw [he]
    exact answer_open ho 0 addr sel (.ack [])
  · rw [he]
    exact answer_open ho 0 addr sel (.nak k 0 (u.detailOf n addr k))

end

end Sys2Proof.Proofs

/-!
SUPPORT. A BLOCK_WRITE of a session that is ready (spec/16_exvan.md, Object access).
-/

namespace Sys2Proof.Proofs

open Sys2Proof Sys2Proof.Machine Sys2Proof.Laws

section

variable {s : State} {sess req i : Nat} {x : Session}

theorem parkOwed_idle (h : (s.ex.owed.any fun o => o.kind == .park || o.kind == .resume) = false) : parkOwed s = s :=
  if_neg (by rw [h]; exact Bool.false_ne_true)

/-- A request of a ready session runs on the state that has seen its frame. -/
theorem request_runs (hr : s.ready sess = true) (hq : s.newReq sess req = true) (hx : s.session sess = some (i, x)) {c : Instr}
    (carry : State → Nat → State) :
    request s sess req .object c carry = carry (s.setSession i { x with lastFrame := s.tick }) x.level := by
  obtain ⟨j, y, hy, hrun⟩ := request_ready hr c (.inr hq) carry
  obtain ⟨rfl, rfl⟩ := Prod.mk.inj (Option.some.inj (hx.symm.trans hy))
  rw [hrun, seen_eq_setSession hx]

/-- A BLOCK_WRITE, where nothing of the device's commands is owed after it. -/
theorem blockWrite_runs {addr sel offset total : Nat} {bytes : List Byte} (hr : s.ready sess = true) (hq : s.newReq sess req = true)
    (hx : s.session sess = some (i, x)) {u : State}
    (hu : blockWriteNow (s.setSession i { x with lastFrame := s.tick }) sess req x.level addr sel offset total bytes = u)
    (ho : (u.ex.owed.any fun o => o.kind == .park || o.kind == .resume) = false) :
    exec (.blockWrite sess req addr sel offset total bytes) s = .next (sealed s u) := by
  change finish s (parkOwed (request s sess req .object (.blockWrite sess req addr sel offset total bytes) fun s level =>
    blockWriteNow s sess req level addr sel offset total bytes)) = _
  rw [request_runs hr hq hx, hu, parkOwed_idle ho]
  rfl

/-- A chunk after the first that goes on where the value stands is kept or ends it. -/
theorem blockWriteNow_continues {b : BlockBuf} {level offset : Nat} {bytes : List Byte} (hx : s.session sess = some (i, x))
    (hb : x.block = some b) (h0 : 0 < offset) (hn : bytes ≠ []) (h8 : bytes.length ≤ 8192) (hl : b.bytes.length = offset)
    (ht : offset + bytes.length ≤ b.total) :
    blockWriteNow s sess req level b.addr b.sel offset b.total bytes = storeChunk s sess req level { b with bytes := b.bytes ++ bytes } := by
  have hlen : ¬ (bytes.isEmpty = true ∨ 8192 < bytes.length) := by
    rintro (h | h)
    · exact hn (List.isEmpty_iff.mp h)
    · omega
  unfold blockWriteNow
  simp only [hx, hb]
  rw [if_neg hlen, if_neg (by omega), if_pos ⟨trivial, trivial, trivial, hl, ht⟩]

end

end Sys2Proof.Proofs

/-!
SUPPORT. The proofs of the loads of images (spec/03_images.md, Slot states and loading).
-/

namespace Sys2Proof.Proofs

open Sys2Proof Sys2Proof.Machine Sys2Proof.Laws

section

variable {s t : State} {sess slot : Nat}

/-! ### The library's records -/

theorem slotState_of_lib (h : t.lib.slots = s.lib.slots) (k : Nat) : t.slotState k = s.slotState k := by simp [State.slotState, h]

theorem loadOf_of_loads (h : t.lib.loads = s.lib.loads) (n : Nat) : t.loadOf n = s.loadOf n := by simp [State.loadOf, h]

theorem loadOf_dropLoads (s : State) (sess : Nat) : (s.dropLoads fun x => !(x.session == some sess)).loadOf sess = none := by
  unfold State.dropLoads State.loadOf
  rw [List.find?_eq_none]
  intro l hl
  have hkeep := (List.mem_filter.mp hl).2
  simpa using hkeep

theorem invalidate_lib (s : State) (slot reason : Nat) : (invalidate s slot reason).lib = (s.setSlot slot .invalid).lib :=
  raiseA_lib _ _ _

theorem mem_of_loadOf {l : Load} (h : s.loadOf sess = some l) : l ∈ s.lib.loads := List.mem_of_find?_eq_some h

theorem loadingBy_none (h : s.loadingBy slot = none) {l : Load} (hl : l ∈ s.lib.loads) : l.slot ≠ slot := by
  have hno := List.find?_eq_none.mp h l hl
  simpa using hno

theorem finishWriteBack_loads (s : State) : (finishWriteBack s).lib.loads = s.lib.loads := by
  unfold finishWriteBack
  split
  · rfl
  next l h =>
    extract_lets from_ lib u
    have hmerge := (mergeLatch_frame u l).lib rfl
    split
    · rw [invalidate_lib]
      rfl
    · change (mergeLatch u l).lib.loads = s.lib.loads
      rw [hmerge]

theorem awaitWriteBack_loads (s : State) (slot : Nat) : (awaitWriteBack s slot).lib.loads = s.lib.loads := by
  unfold awaitWriteBack
  split
  · split
    · exact finishWriteBack_loads s
    · rfl
  · rfl

/-! ### LOAD_SLOT (R84, R86) -/

theorem openLoad_opens (s : State) (sess slot : Nat) :
    (openLoad s sess slot).slotState slot = .loading ∧
      (∃ l ∈ (openLoad s sess slot).lib.loads, l.slot = slot ∧ l.session = some sess ∧ l.last = s.tick ∧ l.received = 0) ∧
      ∀ k, k ≠ slot → (openLoad s sess slot).slotState k = s.slotState k := by
  unfold openLoad
  extract_lets held u v lib
  refine ⟨slotState_setSlot _ _ _, ⟨_, List.mem_append_right _ (List.mem_singleton_self _), rfl, rfl, rfl, rfl⟩, fun k hk => ?_⟩
  exact slotState_setSlot_other (discardRefinement u slot) _ hk

theorem abandonLoad_empties {l : Load} (h : s.loadOf sess = some l) :
    (abandonLoad s sess false).slotState l.slot = .empty ∧ (abandonLoad s sess false).loadOf sess = none := by
  unfold abandonLoad
  simp only [h, Bool.false_and, Bool.false_eq_true, if_false]
  exact ⟨slotState_setSlot _ _ _, (loadOf_of_loads rfl sess).trans (loadOf_dropLoads s sess)⟩

theorem effLoadSlot_acks {slot : Int} (hu : s.inUse slot.toNat = false) (hl : s.loadingBy slot.toNat = none)
    (hr : s.slotState slot.toNat ≠ .routing) :
    let r := effLoadSlot sess slot s
    r.2 = .ack ∧ r.1.slotState slot.toNat = .loading ∧
      (∃ l ∈ r.1.lib.loads, l.slot = slot.toNat ∧ l.session = some sess ∧ l.last = s.tick ∧ l.received = 0) ∧
      ∀ l, s.loadOf sess = some l → r.1.slotState l.slot = .empty := by
  have hfree : (s.inUse slot.toNat || ((s.loadingBy slot.toNat).any fun l => l.session != some sess && l.session.isSome) ||
      s.slotState slot.toNat == .routing) = false := by
    rw [hu, hl]
    simpa using hr
  unfold effLoadSlot
  extract_lets k other u v r
  have hrun : r = (openLoad v sess k, .ack) := if_neg fun h => Bool.false_ne_true (hfree.symm.trans h)
  rw [hrun]
  have htick : v.tick = s.tick := by
    simp only [v]
    have hu : u.tick = s.tick := (awaitWriteBack_frame _ _).tick rfl
    split
    · exact ((abandonLoad_frame u sess false).tick rfl).trans hu
    · exact hu
  obtain ⟨hstate, hload, hother⟩ := openLoad_opens v sess k
  refine ⟨rfl, hstate, ?_, fun l hof => ?_⟩
  · rw [← htick]
    exact hload
  · have hne : l.slot ≠ k := loadingBy_none hl (mem_of_loadOf hof)
    have hu : u.loadOf sess = some l := (loadOf_of_loads (awaitWriteBack_loads _ _) sess).trans hof
    have hv : v = abandonLoad u sess false := by
      simp only [v, hu]
      exact if_pos (by simpa using hne)
    rw [hother _ hne, hv]
    exact (abandonLoad_empties hu).1

theorem loadSlot_opens {slot : Int} (h : s.accepts sess Obj.LOAD_SLOT 0 slot = true) (hu : s.inUse slot.toNat = false)
    (hl : s.loadingBy slot.toNat = none) (hr : s.slotState slot.toNat ≠ .routing) :
    ∃ t, exec (.loadSlot sess slot) s = .next t ∧ t.answered sess 0 Obj.LOAD_SLOT 0 (.ack []) ∧
      t.slotState slot.toNat = .loading ∧
      (∃ l ∈ t.lib.loads, l.slot = slot.toNat ∧ l.session = some sess ∧ l.last = s.tick ∧ l.received = 0) ∧
      (∀ l, s.loadOf sess = some l → t.slotState l.slot = .empty) := by
  obtain ⟨hv, hfacts⟩ := effLoadSlot_acks (s := seen s sess) (sess := sess) (slot := slot) (by rw [seen_eq]; exact hu)
    (by rw [seen_eq]; exact hl) (by rw [seen_eq]; exact hr)
  obtain ⟨hans, hframe⟩ := hostWrite_acks h hv (effLoadSlot_opens sess slot _)
  refine ⟨_, rfl, hans, ?_⟩
  rw [sealed_eq s hframe]
  rw [seen_eq] at hfacts
  rw [seen_eq]
  exact hfacts

theorem loadSlot_busy {slot : Int} (h : s.accepts sess Obj.LOAD_SLOT 0 slot = true) (hu : s.inUse slot.toNat = true) :
    ∃ t, exec (.loadSlot sess slot) s = .next t ∧ t.answered sess 0 Obj.LOAD_SLOT 0 (.nak .busy 0 0) ∧ Frame [.ex] s t := by
  have hin : (seen s sess).inUse slot.toNat = true := by
    rw [seen_eq]
    exact hu
  obtain ⟨hans, hframe⟩ := hostWrite_refused h (n := .busy) (eff := effLoadSlot sess slot) (by
    unfold effLoadSlot
    dsimp only
    rw [hin]
    rfl) (by decide)
  exact ⟨_, rfl, hans, frame_sealed hframe (by decide)⟩

/-! ### LOAD_CLOSE (R85) -/

theorem loadClose_early {l : Load} (h : s.accepts sess Obj.LOAD_CLOSE 0 1 = true) (hl : s.loadOf sess = some l)
    (hr : l.received < slotBytes) :
    ∃ t, exec (.loadClose sess) s = .next t ∧ t.answered sess 0 Obj.LOAD_CLOSE 0 (.nak .state 0 0) ∧ Frame [.ex] s t := by
  have hof : (seen s sess).loadOf sess = some l := by
    rw [seen_eq]
    exact hl
  have hrun : effLoadClose sess (seen s sess) = (seen s sess, .nak .state) := by
    unfold effLoadClose
    rw [hof]
    exact if_pos hr
  obtain ⟨hans, hframe⟩ := hostWrite_nak h hrun (.refl _)
  have hdetail : (seen s sess).detailOf sess Obj.LOAD_CLOSE .state = 0 := if_neg (by simp)
  rw [hdetail] at hans
  exact ⟨_, rfl, hans, frame_sealed (.step hframe (by decide) (seen_frame s sess)) (by decide)⟩

/-- What LOAD_STATUS is set to stays in the session. -/
theorem setLoadStatus_session {i : Nat} {x : Session} (h : s.session sess = some (i, x)) (v : Nat) :
    ∃ j y, (s.setLoadStatus sess v).session sess = some (j, y) ∧ y.loadStatus = v := by
  unfold State.setLoadStatus
  simp only [h]
  obtain ⟨j, hj⟩ := session_setSession h (y := { x with loadStatus := v }) (show x.num = sess from session_num h)
  exact ⟨j, _, hj, rfl⟩

theorem endRoute_told (s : State) (slot status us : Nat) : Told s (endRoute s slot status us) := by
  unfold endRoute
  exact .raiseA (.of_ex rfl)

/-- What a load that closes leaves. -/
theorem closeLoad_closes {i : Nat} {x : Session} (h : s.session sess = some (i, x)) (l : Load) {state : SlotState} (reason : Nat) :
    let t := closeLoad s sess l state reason
    t.loadOf sess = none ∧ t.slotState l.slot = state ∧ ∃ j y, t.session sess = some (j, y) ∧ y.loadStatus = reason := by
  unfold closeLoad
  extract_lets u v t
  have hx : (s.dropLoads fun x => !(x.session == some sess)).session sess = some (i, x) := h
  obtain ⟨j, y, hy, hstatus⟩ := setLoadStatus_session hx reason
  have hu : u.loadOf sess = none := by
    refine (loadOf_of_loads ?_ sess).trans (loadOf_dropLoads s sess)
    exact congrArg Library.loads ((State.setLoadStatus_frame _ _ _).lib rfl)
  have hv : v.loadOf sess = none ∧ v.slotState l.slot = state ∧ Told u v := by
    simp only [v]
    split
    · next hs =>
      refine ⟨(loadOf_of_loads (congrArg Library.loads (invalidate_lib u l.slot reason)) sess).trans hu, ?_, .raiseA (.of_ex rfl)⟩
      rw [slotState_of_lib (congrArg Library.slots (invalidate_lib u l.slot reason)), slotState_setSlot, hs]
    · exact ⟨hu, slotState_setSlot _ _ _, .of_ex rfl⟩
  obtain ⟨hload, hslot, htold⟩ := hv
  have hloads (slot status us : Nat) : (endRoute v slot status us).lib.loads = v.lib.loads := by
    rw [endRoute, raiseA_lib]
    rfl
  have hslots (slot status us : Nat) : (endRoute v slot status us).lib.slots = v.lib.slots := by
    rw [endRoute, raiseA_lib]
    rfl
  have ht : t.loadOf sess = none ∧ t.slotState l.slot = state ∧ Told v t := by
    simp only [t]
    split
    · split
      · exact ⟨(loadOf_of_loads (hloads _ _ _) sess).trans hload, (slotState_of_lib (hslots _ _ _) _).trans hslot, endRoute_told _ _ _ _⟩
      · exact ⟨hload, hslot, .refl _⟩
    · exact ⟨hload, hslot, .refl _⟩
  obtain ⟨hload, hslot, htold'⟩ := ht
  obtain ⟨z, hz, q, d, o, rfl⟩ := (htold.trans htold').session hy
  exact ⟨hload, hslot, j, _, hz, hstatus⟩

/-- What a LOAD_CLOSE of a load whose bytes have all come leaves. -/
theorem effLoadClose_closes {l : Load} {i : Nat} {x : Session} (hx : s.session sess = some (i, x)) (hl : s.loadOf sess = some l)
    (hr : slotBytes ≤ l.received) :
    let r := effLoadClose sess s
    r.1.loadOf sess = none ∧ openIn r.1 sess ∧ Frame [.objs, .ex, .sorus, .lib] s r.1 ∧
      if s.slotBad l.slot = true then r.2 = .nak .memory ∧ r.1.slotState l.slot = .invalid ∧ r.1.detailOf sess Obj.LOAD_CLOSE .memory = 8
      else match s.loadFault l.slot with
        | none => r.2 = .ack ∧ r.1.slotState l.slot = .valid
        | some f => r.2 = .nak (if f = 3 then .crc else .format) ∧ r.1.slotState l.slot = .invalid ∧
            r.1.detailOf sess Obj.LOAD_CLOSE (if f = 3 then .crc else .format) = f := by
  have hdetail (n : Nak) (hn : n = .memory ∨ n = .crc ∨ n = .format) (reason : Nat) :
      (closeLoad s sess l .invalid reason).detailOf sess Obj.LOAD_CLOSE n = reason := by
    obtain ⟨-, -, j, y, hy, hstatus⟩ := closeLoad_closes (state := .invalid) hx l reason
    rw [State.detailOf, if_pos ⟨rfl, hn⟩, hy]
    exact hstatus
  unfold effLoadClose
  simp only [hl, if_neg (not_lt.mpr hr)]
  split
  · obtain ⟨hload, hslot, j, y, hy, -⟩ := closeLoad_closes (state := .invalid) hx l 8
    exact ⟨hload, openIn_of_session hy, closeLoad_frame _ _ _ _ _, rfl, hslot, hdetail _ (.inl rfl) 8⟩
  · cases hf : s.loadFault l.slot with
    | none =>
      obtain ⟨hload, hslot, j, y, hy, -⟩ := closeLoad_closes (state := .valid) hx l 0
      exact ⟨hload, openIn_of_session hy, closeLoad_frame _ _ _ _ _, rfl, hslot⟩
    | some f =>
      obtain ⟨hload, hslot, j, y, hy, -⟩ := closeLoad_closes (state := .invalid) hx l f
      refine ⟨hload, openIn_of_session hy, closeLoad_frame _ _ _ _ _, rfl, hslot, hdetail _ ?_ f⟩
      split
      · exact .inr (.inl rfl)
      · exact .inr (.inr rfl)

theorem accepts_session {addr sel : Nat} {v : Int} (h : s.accepts sess addr sel v = true) : ∃ i x, (seen s sess).session sess = some (i, x) := by
  obtain ⟨i, x, hx⟩ := State.ready_iff.mp (ready_of_accepts h)
  obtain ⟨j, hj⟩ := session_seen hx.1
  exact ⟨j, _, hj⟩

/-- What the checks of a slot find depends on the memory alone. -/
theorem loadFault_of_hbm (h : t.hbm = s.hbm) (slot : Nat) : t.loadFault slot = s.loadFault slot := by
  have hread : t.slotRead = s.slotRead := by
    funext
    unfold State.slotRead
    rw [h]
  have hcrc : t.slotCrc slot = s.slotCrc slot := by
    unfold State.slotCrc
    rw [h]
  unfold State.loadFault State.slotZeros State.slotConsistent State.slotHash State.slotPortMap State.slotRoutes State.slotField
    State.elemRecord State.voaRecord
  rw [hread, hcrc]

theorem seen_facts (s : State) (sess : Nat) (l : Load) (hl : s.loadOf sess = some l) :
    (seen s sess).loadOf sess = some l ∧ (seen s sess).slotBad l.slot = s.slotBad l.slot ∧
      (seen s sess).loadFault l.slot = s.loadFault l.slot := by
  have hf := seen_frame s sess
  refine ⟨(loadOf_of_loads (congrArg Library.loads (hf.lib rfl)) sess).trans hl, ?_, loadFault_of_hbm (hf.hbm rfl) _⟩
  unfold State.slotBad State.hbmBad
  rw [hf.mat rfl]

theorem sameMemory_of_hbm (h : t.hbm = s.hbm) : sameMemory s t := fun a => by rw [h]

theorem loadClose_closes {l : Load} (h : s.accepts sess Obj.LOAD_CLOSE 0 1 = true) (hl : s.loadOf sess = some l)
    (hr : slotBytes ≤ l.received) (hb : s.slotBad l.slot = false) :
    ∃ t, exec (.loadClose sess) s = .next t ∧ t.loadOf sess = none ∧ sameMemory s t ∧
      match s.loadFault l.slot with
      | none => t.answered sess 0 Obj.LOAD_CLOSE 0 (.ack []) ∧ t.slotState l.slot = .valid
      | some r => t.answered sess 0 Obj.LOAD_CLOSE 0 (.nak (if r = 3 then .crc else .format) 0 r) ∧
          t.slotState l.slot = .invalid := by
  obtain ⟨hof, hbad, hfault⟩ := seen_facts s sess l hl
  obtain ⟨i, x, hx⟩ := accepts_session h
  obtain ⟨hload, hopen, hframe, hcase⟩ := effLoadClose_closes hx hof hr
  rw [hbad, hb, if_neg Bool.false_ne_true, hfault] at hcase
  refine ⟨_, rfl, ?_⟩
  have hmem := (hframe.hbm rfl).trans ((seen_frame s sess).hbm rfl)
  cases hf : s.loadFault l.slot with
  | none =>
    rw [hf] at hcase
    obtain ⟨hv, hslot⟩ := hcase
    obtain ⟨hans, hkeep⟩ := (hostWrite_answers h hopen).1 (Prod.ext rfl hv)
    rw [sealed_eq s hkeep] at *
    exact ⟨hload, sameMemory_of_hbm hmem, hans, hslot⟩
  | some f =>
    rw [hf] at hcase
    obtain ⟨hv, hslot, hdetail⟩ := hcase
    obtain ⟨hans, hkeep⟩ := (hostWrite_answers h hopen).2 _ (Prod.ext rfl hv)
    rw [hdetail] at hans
    refine ⟨?_, ?_, hans, ?_⟩
    · rw [sealed_eq s hkeep]
      exact hload
    · rw [sealed_eq s hkeep]
      exact sameMemory_of_hbm hmem
    · rw [sealed_eq s hkeep]
      exact hslot

theorem loadClose_memory {l : Load} (h : s.accepts sess Obj.LOAD_CLOSE 0 1 = true) (hl : s.loadOf sess = some l)
    (hr : slotBytes ≤ l.received) (hb : s.slotBad l.slot = true) :
    ∃ t, exec (.loadClose sess) s = .next t ∧ t.answered sess 0 Obj.LOAD_CLOSE 0 (.nak .memory 0 8) ∧ t.loadOf sess = none ∧
      t.slotState l.slot = .invalid ∧ sameMemory s t := by
  obtain ⟨hof, hbad, -⟩ := seen_facts s sess l hl
  obtain ⟨i, x, hx⟩ := accepts_session h
  obtain ⟨hload, hopen, hframe, hcase⟩ := effLoadClose_closes hx hof hr
  rw [hbad, hb, if_pos rfl] at hcase
  obtain ⟨hv, hslot, hdetail⟩ := hcase
  have hmem := (hframe.hbm rfl).trans ((seen_frame s sess).hbm rfl)
  obtain ⟨hans, hkeep⟩ := (hostWrite_answers h hopen).2 _ (Prod.ext rfl hv)
  rw [hdetail] at hans
  refine ⟨_, rfl, hans, ?_⟩
  rw [sealed_eq s hkeep]
  exact ⟨hload, hslot, sameMemory_of_hbm hmem⟩

theorem loadTimeout_lapses {l : Load} (hl : s.loadOf sess = some l) (he : s.elapsed l.last 10000000000 = true) :
    ∃ t, exec (.loadTimeout sess) s = .next t ∧ t.slotState l.slot = .empty ∧ t.loadOf sess = none ∧ Frame [.ex, .lib] s t := by
  have hrun : exec (.loadTimeout sess) s = .next (sealed s (abandonLoad s sess false)) := by
    change execLoadTimeout sess s = _
    unfold execLoadTimeout
    rw [hl]
    exact congrArg (finish s) (if_pos he)
  obtain ⟨hslot, hload⟩ := abandonLoad_empties hl
  exact ⟨_, hrun, hslot, hload, frame_sealed ((abandonLoad_frame s sess false).mono (by decide)) (by decide)⟩

/-! ### The chunks of LOAD_DATA (R85, R470) -/

theorem loadOf_mapLoads {f : Load → Load} (hf : ∀ x, (f x).session = x.session) (ls : List Load) :
    ({ s with lib := { s.lib with loads := ls.map fun x => if x.session == some sess then f x else x } } : State).loadOf sess =
      (ls.find? fun l => l.session == some sess).map f := by
  change (ls.map fun x => if x.session == some sess then f x else x).find? (fun l => l.session == some sess) = _
  induction ls with
  | nil => rfl
  | cons x t ih =>
    rw [List.map_cons]
    by_cases h : x.session = some sess
    · simp [h, hf]
    · rw [if_neg (by simpa using h), List.find?_cons_of_neg (by simpa using h), List.find?_cons_of_neg (by simpa using h)]
      exact ih

theorem loadOf_touchLoad (s : State) (sess : Nat) :
    (touchLoad s sess Obj.LOAD_DATA).loadOf sess = (s.loadOf sess).map fun x => { x with last := s.tick } := by
  rw [touchLoad, if_pos rfl]
  exact loadOf_mapLoads (f := fun x => { x with last := s.tick }) (fun _ => rfl) _

theorem touchLoad_frame (s : State) (sess addr : Nat) : Frame [.lib] s (touchLoad s sess addr) :=
  .ite (.set_lib (by decide) (.refl s)) (.refl s)

/-- The checks of a whole LOAD_DATA pass where those of the object do. -/
theorem entryCheck_loadData {level : Nat} {b : List Byte} (h : octetsCheck s level Obj.LOAD_DATA 0 = none) (hl : b.length = slotBytes) :
    entryCheck s level Obj.LOAD_DATA 0 none b = none := by
  have hlen : lengthOk ⟨Obj.LOAD_DATA, .octets, 1, .live, none, 393216, 393216, .bytes 0⟩ b.length = true := by
    rw [hl]
    decide
  have hok : octetsOk Obj.LOAD_DATA b = true := rfl
  have hdef : objDef Obj.LOAD_DATA = some ⟨Obj.LOAD_DATA, .octets, 1, .live, none, 393216, 393216, .bytes 0⟩ := by decide
  unfold octetsCheck at h
  unfold entryCheck
  cases ha : accessCheck level Obj.LOAD_DATA 0 with
  | error n =>
    rw [ha] at h
    exact h
  | ok d =>
    have hd : d = ⟨Obj.LOAD_DATA, .octets, 1, .live, none, 393216, 393216, .bytes 0⟩ := by
      unfold accessCheck at ha
      rw [hdef] at ha
      simp only at ha
      split_ifs at ha
      exact (Except.ok.inj ha).symm
    subst hd
    rw [ha] at h
    simp only [ne_eq, not_true_eq_false, if_false] at h
    simp only [Option.any_none, Bool.false_eq_true, if_false, bytesCheck, if_true, hlen, hok, Bool.not_true]
    exact h

theorem writeValue_loadData {l : Load} (hl : s.loadOf sess = some l) (req : Nat) (b : List Byte) :
    ∃ u, writeValue sess req Obj.LOAD_DATA 0 b s = (u.slotWrite l.slot 0 b, .ack) ∧ Frame [.lib] s u ∧
      u.loadOf sess = some { l with last := s.tick, received := b.length } := by
  have hdef : objDef Obj.LOAD_DATA = some ⟨Obj.LOAD_DATA, .octets, 1, .live, none, 393216, 393216, .bytes 0⟩ := by decide
  have hrun : writeValue sess req Obj.LOAD_DATA 0 b s = effLoadData sess b s := by
    unfold writeValue
    rw [hdef]
    rfl
  have hload := loadOf_mapLoads (s := s) (sess := sess) (f := fun x => { x with last := s.tick, received := b.length }) (fun _ => rfl)
    s.lib.loads
  have hfind : s.lib.loads.find? (fun l => l.session == some sess) = some l := hl
  rw [hfind] at hload
  rw [hrun, effLoadData]
  simp only [hl]
  exact ⟨_, rfl, .set_lib (by decide) (.refl s), hload⟩

/-- Bytes written from the start of a slot, as many as it holds, read back, and no byte outside it changes. -/
theorem slotWrite_whole (s : State) (slot : Nat) {b : List Byte} (h : b.length = slotBytes) :
    (∀ i, i < slotBytes → memByte (s.slotWrite slot 0 b).hbm (slotBase slot + i) = b.getD i 0) ∧
      sameOutside [slot] s (s.slotWrite slot 0 b) := by
  have hbytes : (s.slotWrite slot 0 b).hbm = memWrite s.hbm (slotBase slot) b := by
    unfold State.slotWrite
    rw [Nat.sub_zero, Nat.add_zero, ← h, List.take_length]
  rw [sameOutside, hbytes]
  refine ⟨fun i hi => ?_, fun a ha => ?_⟩
  · have hin : i < b.length := by omega
    rw [memByte_memWrite_self _ _ _ hin, List.getD_eq_getElem _ _ hin]
  · refine memByte_memWrite_other _ _ _ ?_
    rw [h]
    exact ha slot (List.mem_singleton_self _)

theorem acceptsOctets_iff {addr sel i : Nat} {x : Session} (hx : s.session sess = some (i, x)) :
    s.acceptsOctets sess addr sel = true ↔ s.ready sess = true ∧ octetsCheck s x.level addr sel = none := by
  simp [State.acceptsOctets, hx]

theorem loadData_chunks {req offset tick0 : Nat} {held bytes : List Byte} {l : Load}
    (h : s.acceptsOctets sess Obj.LOAD_DATA 0 = true) (hq : s.newReq sess req = true) (hl : s.loadOf sess = some l)
    (hb : (s.session sess).bind (·.2.block) = some { addr := Obj.LOAD_DATA, sel := 0, total := slotBytes, bytes := held, tick := tick0 })
    (hheld : held.length = offset) (h0 : 0 < offset) (h1 : 0 < bytes.length) (h8 : bytes.length ≤ 8192)
    (ho : (s.ex.owed.any fun o => o.kind == .park || o.kind == .resume) = false) :
    (offset + bytes.length < slotBytes →
      ∃ t, exec (.blockWrite sess req Obj.LOAD_DATA 0 offset slotBytes bytes) s = .next t ∧ t.answered sess req 0 0 (.ack []) ∧
        ((t.session sess).bind (·.2.block)).map (·.bytes) = some (held ++ bytes) ∧ sameMemory s t) ∧
    (offset + bytes.length = slotBytes →
      ∃ t, exec (.blockWrite sess req Obj.LOAD_DATA 0 offset slotBytes bytes) s = .next t ∧ t.answered sess req 0 0 (.ack []) ∧
        (t.loadOf sess).map (·.received) = some slotBytes ∧
        (∀ i, i < slotBytes → memByte t.hbm (slotBase l.slot + i) = (held ++ bytes).getD i 0) ∧ sameOutside [l.slot] s t) := by
  obtain ⟨⟨i, x⟩, hx, hblock⟩ := Option.bind_eq_some_iff.mp hb
  obtain ⟨hr, hcheck⟩ := (acceptsOctets_iff hx).mp h
  have hne : bytes ≠ [] := List.ne_nil_of_length_pos h1
  generalize hu : s.setSession i { x with lastFrame := s.tick } = u
  have hux : u.session sess = some (i, { x with lastFrame := s.tick }) := by
    rw [← hu]
    exact session_setSession_same hx (show x.num = sess from session_num hx)
  have hrun := fun ht => blockWriteNow_continues (req := req) (level := x.level) hux hblock h0 hne h8 hheld ht
  refine ⟨fun hlt => ?_, fun heq => ?_⟩
  · have hlast : (held ++ bytes).length < slotBytes := by
      rw [List.length_append]
      omega
    have hstore := hrun (by simpa using hlt.le)
    unfold storeChunk at hstore
    simp only [hux, if_pos hlast] at hstore
    generalize hw : u.setSession i _ = w at hstore
    have hwx : w.session sess = some (i, { x with lastFrame := s.tick, block := some ⟨Obj.LOAD_DATA, 0, slotBytes, held ++ bytes, u.tick⟩ }) := by
      rw [← hw]
      exact session_setSession_same hux (show x.num = sess from session_num hx)
    have hv : (touchLoad w sess Obj.LOAD_DATA).session sess = w.session sess :=
      session_of_ex ((touchLoad_frame w sess _).ex rfl) sess
    have howed : (touchLoad w sess Obj.LOAD_DATA).ex.owed = s.ex.owed := by
      rw [(touchLoad_frame w sess _).ex rfl, ← hw, ← hu]
      rfl
    have hhbm : (touchLoad w sess Obj.LOAD_DATA).hbm = s.hbm := by
      rw [(touchLoad_frame w sess _).hbm rfl, ← hw, ← hu]
      rfl
    generalize touchLoad w sess Obj.LOAD_DATA = v at hstore hv howed hhbm
    rw [hwx] at hv
    obtain ⟨hsame, q, c, o, hsession, -⟩ := answer_session hv req 0 0 (.ack [])
    obtain ⟨hans, hframe⟩ := answer_open (openIn_of_session hv) req 0 0 (.ack [])
    generalize answer v sess req 0 0 (.ack []) = y at hstore hsame hsession hans hframe
    have hend : (sealed s y).session sess = y.session sess := rfl
    refine ⟨_, blockWrite_runs hr hq hx (by rw [hu]; exact hstore) (by rw [hsame, howed]; exact ho), hans, ?_, ?_⟩
    · rw [hend, hsession]
      rfl
    · exact sameMemory_of_hbm ((hframe.hbm rfl).trans hhbm)
  · have hwhole : (held ++ bytes).length = slotBytes := by
      rw [List.length_append]
      omega
    have hstore := hrun heq.le
    unfold storeChunk at hstore
    simp only [hux, if_neg (not_lt.mpr hwhole.ge)] at hstore
    generalize hw : u.setSession i _ = w at hstore
    have hwx : w.session sess = some (i, { x with lastFrame := s.tick, block := none }) := by
      rw [← hw]
      exact session_setSession_same hux (show x.num = sess from session_num hx)
    have hframe : Frame [.ex, .lib] s (touchLoad w sess Obj.LOAD_DATA) := by
      refine .step (touchLoad_frame w sess _) (by decide) ?_
      rw [← hw, ← hu]
      exact .step (State.setSession_frame _ _ _) (by decide) (.step (State.setSession_frame _ _ _) (by decide) (.refl s))
    have hload : (touchLoad w sess Obj.LOAD_DATA).loadOf sess = some { l with last := w.tick } := by
      rw [loadOf_touchLoad, ← hw, ← hu]
      exact congrArg (Option.map _) hl
    have hv : (touchLoad w sess Obj.LOAD_DATA).session sess = w.session sess :=
      session_of_ex ((touchLoad_frame w sess _).ex rfl) sess
    have howed : (touchLoad w sess Obj.LOAD_DATA).ex.owed = s.ex.owed := by
      rw [(touchLoad_frame w sess _).ex rfl, ← hw, ← hu]
      rfl
    generalize touchLoad w sess Obj.LOAD_DATA = v at hstore hv howed hframe hload
    rw [hwx] at hv
    have hentry : entryCheck v x.level Obj.LOAD_DATA 0 none (held ++ bytes) = none := by
      refine entryCheck_loadData ?_ hwhole
      have hrecovery : v.recovery = s.recovery := by
        unfold State.recovery
        rw [hframe.dev rfl]
      unfold octetsCheck at hcheck ⊢
      rw [hframe.dev rfl, hrecovery]
      exact hcheck
    obtain ⟨z, hwrite, hz, hzload⟩ := writeValue_loadData hload req (held ++ bytes)
    unfold blockWhole at hstore
    rw [hentry, hwrite] at hstore
    simp only at hstore
    obtain ⟨hreads, houtside⟩ := slotWrite_whole z l.slot hwhole
    have hzs : (z.slotWrite l.slot 0 (held ++ bytes)).session sess = some (i, { x with lastFrame := s.tick, block := none }) :=
      (session_of_ex (hz.ex rfl) sess).trans hv
    have hzo : (z.slotWrite l.slot 0 (held ++ bytes)).ex.owed = s.ex.owed := (congrArg Exvan.owed (hz.ex rfl)).trans howed
    have hzl : (z.slotWrite l.slot 0 (held ++ bytes)).loadOf sess = some { l with last := v.tick, received := (held ++ bytes).length } := hzload
    have hzm : z.hbm = s.hbm := (hz.hbm rfl).trans (hframe.hbm rfl)
    clear hwrite
    generalize z.slotWrite l.slot 0 (held ++ bytes) = y at hstore hreads houtside hzs hzo hzl
    obtain ⟨hsame, -⟩ := answer_session hzs req 0 0 (.ack [])
    obtain ⟨hans, hkeep⟩ := answer_open (openIn_of_session hzs) req 0 0 (.ack [])
    refine ⟨_, blockWrite_runs hr hq hx (by rw [hu]; exact hstore) (by rw [hsame, hzo]; exact ho), hans, ?_⟩
    rw [sealed_eq s hkeep]
    refine ⟨?_, hreads, fun a ha => (houtside a ha).trans (by rw [hzm])⟩
    exact (congrArg (Option.map (·.received)) hzl).trans (by rw [hwhole])

end

/-- Settles O27: loads opened, closed, lapsed and refused, and the chunks they are made of. -/
theorem imageLoads : Obligations.ImageLoads := by
  unfold Obligations.ImageLoads
  exact ⟨fun _ _ _ => loadSlot_opens, fun _ _ _ => loadSlot_busy, fun _ _ _ => loadClose_early, fun _ _ _ => loadClose_closes,
    fun _ _ _ => loadClose_memory, fun _ _ _ _ _ _ _ _ => loadData_chunks, fun _ _ _ => loadTimeout_lapses⟩

end Sys2Proof.Proofs

/-!
SUPPORT. Fields of a slot read back: memory read as its bytes, and numbers from their bytes (R13).
-/

namespace Sys2Proof.Proofs

open Sys2Proof Sys2Proof.Machine Sys2Proof.Laws

theorem ofLe_leBytes (n v : Nat) : ofLe (leBytes n v) = v % 256 ^ n := by
  induction n generalizing v with
  | zero => simp [leBytes, ofLe, Nat.mod_one]
  | succ n ih =>
    rw [leBytes, ofLe, ih, BitVec.toNat_ofNat, Nat.mod_mod, Nat.pow_succ', Nat.mod_mul]

theorem length_leBytes (n v : Nat) : (leBytes n v).length = n := by
  induction n generalizing v with
  | zero => rfl
  | succ n ih => simp [leBytes, ih]

theorem memByte_cons_lt {c : Host.Cell} {m : List Host.Cell} {a : Nat} (h : c.1 < a) : memByte (c :: m) a = memByte m a := by
  have hne : ¬ c.1 = a := by omega
  simp [memByte, hne]

theorem memByte_dropWhile (m : List Host.Cell) {a x : Nat} (h : a ≤ x) : memByte (m.dropWhile fun c => c.1 < a) x = memByte m x := by
  induction m with
  | nil => rfl
  | cons c t ih =>
    by_cases hc : c.1 < a
    · rw [List.dropWhile_cons_of_pos (by simpa using hc), ih, memByte_cons_lt (by omega)]
    · rw [List.dropWhile_cons_of_neg (by simpa using hc)]

theorem memByte_above {m : List Host.Cell} {a : Nat} (h : ∀ c ∈ m, a < c.1) : memByte m a = unlistedByte := by
  have hnone : m.find? (fun c => c.1 == a) = none := List.find?_eq_none.mpr fun c hc => by
    have := h c hc
    simp only [beq_iff_eq]
    omega
  simp [memByte, hnone]

/-- Bytes read from a memory in order are its bytes one by one. -/
theorem memRead_eq (n a : Nat) {m : List Host.Cell} (h : m.Pairwise fun c d => c.1 < d.1) :
    memRead n a m = (List.range n).map fun i => memByte m (a + i) := by
  induction n generalizing a m with
  | zero => rfl
  | succ n ih =>
    have hbytes (i : Nat) := memByte_dropWhile m (Nat.le_add_right a i)
    simp only [← hbytes]
    have hp : (m.dropWhile fun c => decide (c.1 < a)).Pairwise fun c d => c.1 < d.1 := h.sublist (List.dropWhile_sublist _)
    have hhead : ∀ c ∈ (m.dropWhile fun c => decide (c.1 < a)).head?, a ≤ c.1 := by
      intro c hc
      have hno := List.head?_dropWhile_not (fun c : Host.Cell => decide (c.1 < a)) m
      rw [hc] at hno
      simpa using hno
    rw [memRead, List.range_succ_eq_map, List.map_cons, List.map_map]
    generalize m.dropWhile (fun c => decide (c.1 < a)) = m' at hp hhead
    cases m' with
    | nil =>
      have hnone (x : Nat) : memByte [] x = unlistedByte := rfl
      simp [hnone, Function.comp_def, List.map_const', List.replicate_succ]
    | cons c t =>
      obtain ⟨x, b⟩ := c
      have hax : a ≤ x := hhead (x, b) rfl
      obtain ⟨hrest, ht⟩ := List.pairwise_cons.mp hp
      have hshift (q : List Host.Cell) : ((fun i => memByte q (a + i)) ∘ Nat.succ) = fun i => memByte q (a + 1 + i) := by
        funext i
        simp only [Function.comp_apply, Nat.succ_eq_add_one]
        congr 1
        omega
      simp only
      split
      · next hx =>
        subst hx
        have hself : memByte ((x, b) :: t) (x + 0) = b := by simp [memByte]
        rw [hself, ih (x + 1) ht, hshift]
        refine congrArg _ (List.map_congr_left fun i _ => (memByte_cons_lt ?_).symm)
        exact Nat.lt_of_lt_of_le (Nat.lt_succ_self x) (Nat.le_add_right _ _)
      · next hx =>
        have habove : ∀ c ∈ (x, b) :: t, a < c.1 := by
          intro c hc
          rcases List.mem_cons.mp hc with rfl | hc
          · exact lt_of_le_of_ne hax (Ne.symm hx)
          · exact lt_of_le_of_lt hax (hrest c hc)
        rw [hshift, Nat.add_zero, ih (a + 1) hp]
        exact congrArg (· :: _) (memByte_above habove).symm

section

variable {s : State}

theorem slotRead_eq (h : s.memOk) (slot off n : Nat) :
    s.slotRead slot off n = (List.range n).map fun i => memByte s.hbm (slotBase slot + off + i) :=
  memRead_eq n _ ((memory_wf_iff _).mp h).1

theorem memOk_slotWrite (h : s.memOk) (slot off : Nat) (b : List Byte) : (s.slotWrite slot off b).memOk :=
  memWrite_wf _ _ _ h

/-- Bytes written within a slot read back. -/
theorem slotRead_slotWrite (h : s.memOk) {slot off : Nat} {b : List Byte} (hb : off + b.length ≤ slotBytes) :
    (s.slotWrite slot off b).slotRead slot off b.length = b := by
  have htake : b.take (slotBytes - off) = b := List.take_of_length_le (by omega)
  rw [slotRead_eq (memOk_slotWrite h slot off b)]
  unfold State.slotWrite
  simp only [htake]
  refine List.ext_getElem (by simp) fun i h1 h2 => ?_
  rw [List.getElem_map, List.getElem_range]
  exact memByte_memWrite_self _ _ _ h2

/-- Bytes outside those written read as before. -/
theorem slotRead_slotWrite_other (h : s.memOk) (slot : Nat) {off p n : Nat} (b : List Byte) (ho : p + n ≤ off ∨ off + b.length ≤ p) :
    (s.slotWrite slot off b).slotRead slot p n = s.slotRead slot p n := by
  rw [slotRead_eq (memOk_slotWrite h slot off b), slotRead_eq h]
  refine List.map_congr_left fun i hi => memByte_memWrite_other _ _ _ ?_
  have hlen := List.length_take_le (slotBytes - off) b
  have hlen' : (b.take (slotBytes - off)).length ≤ b.length := List.length_take_le' _ _
  have hi' := List.mem_range.mp hi
  omega

theorem slotField_slotWrite (h : s.memOk) {slot off n v : Nat} (hb : off + n ≤ slotBytes) (hv : v < 256 ^ n) :
    (s.slotWrite slot off (leBytes n v)).slotField slot off n = v := by
  have hread := slotRead_slotWrite h (slot := slot) (off := off) (b := leBytes n v) (by rw [length_leBytes]; exact hb)
  rw [length_leBytes] at hread
  rw [State.slotField, hread, ofLe_leBytes, Nat.mod_eq_of_lt hv]

theorem slotField_slotWrite_other (h : s.memOk) (slot : Nat) {off p n : Nat} (b : List Byte) (ho : p + n ≤ off ∨ off + b.length ≤ p) :
    (s.slotWrite slot off b).slotField slot p n = s.slotField slot p n := by
  rw [State.slotField, State.slotField, slotRead_slotWrite_other h slot b ho]

/-- A write within a slot leaves every byte outside it. -/
theorem slotWrite_outside (s : State) (slot off : Nat) (b : List Byte) {a : Nat} (ha : a < slotBase slot ∨ slotBase slot + slotBytes ≤ a) :
    memByte (s.slotWrite slot off b).hbm a = memByte s.hbm a := by
  refine memByte_memWrite_other _ _ _ ?_
  have hlen := List.length_take_le (slotBytes - off) b
  omega

/-! ### What is read of a slot depends on the memory alone -/

section

variable {t : State}

theorem slotRead_of_hbm (h : t.hbm = s.hbm) : t.slotRead = s.slotRead := by
  funext
  unfold State.slotRead
  rw [h]

theorem slotField_of_hbm (h : t.hbm = s.hbm) : t.slotField = s.slotField := by
  funext
  unfold State.slotField
  rw [slotRead_of_hbm h]

theorem slotPortMap_of_hbm (h : t.hbm = s.hbm) (slot : Nat) : t.slotPortMap slot = s.slotPortMap slot := by
  unfold State.slotPortMap
  rw [slotRead_of_hbm h]

theorem slotRoutes_of_hbm (h : t.hbm = s.hbm) (slot : Nat) : t.slotRoutes slot = s.slotRoutes slot := by
  unfold State.slotRoutes
  rw [slotRead_of_hbm h]

theorem slotFaultGen_of_hbm (h : t.hbm = s.hbm) (slot : Nat) : t.slotFaultGen slot = s.slotFaultGen slot := by
  unfold State.slotFaultGen
  rw [slotField_of_hbm h]

theorem slotBad_of_mat (h : t.mat = s.mat) (slot : Nat) : t.slotBad slot = s.slotBad slot := by
  unfold State.slotBad State.hbmBad
  rw [h]

end

end

end Sys2Proof.Proofs

/-!
SUPPORT. The proofs of the slots erased, revalidated and searched (spec/03_images.md, Validity of a stored image, Alternate images and
search).
-/

namespace Sys2Proof.Proofs

open Sys2Proof Sys2Proof.Machine Sys2Proof.Laws

section

variable {s : State} {sess : Nat} {slot : Int}

theorem awaitWriteBack_idle (h : s.lib.writing = none) (k : Nat) : awaitWriteBack s k = s := by
  simp only [awaitWriteBack, h]

/-! ### ERASE_SLOT (R89) -/

/-- A write-back that ends changes the state of its own slot alone. -/
theorem finishWriteBack_slotState {l : Latch} (h : s.lib.writing = some l) {k : Nat} (hk : k ≠ l.slot) :
    (finishWriteBack s).slotState k = s.slotState k := by
  unfold finishWriteBack
  simp only [h]
  split
  · rw [slotState_of_lib (congrArg Library.slots (invalidate_lib _ _ _)), slotState_setSlot_other _ _ hk]
    rfl
  · generalize hu : ({ s with lib := { s.lib with writing := none } } : State) = u
    have hmerge := (mergeLatch_frame u l).lib rfl
    have hset := slotState_setSlot_other (mergeLatch u l) s.lib.writingFrom hk
    rw [slotState_of_lib (congrArg Library.slots (incSat_lib _ _ _ _)), hset, slotState_of_lib (congrArg Library.slots hmerge), ← hu]
    rfl

theorem awaitWriteBack_slotState (s : State) {n k : Nat} (hk : k ≠ n) : (awaitWriteBack s n).slotState k = s.slotState k := by
  unfold awaitWriteBack
  split
  · next l h =>
    split
    · next hl => exact finishWriteBack_slotState h (by rw [hl]; exact hk)
    · rfl
  · rfl

theorem discardRefinement_queue (s : State) (k : Nat) : ∀ l ∈ (discardRefinement s k).lib.queue, l.slot ≠ k := by
  intro l hl
  have hmem : l ∈ s.lib.queue.filter (·.slot ≠ k) := hl
  simpa using (List.mem_filter.mp hmem).2

theorem effEraseSlot_acks (hu : s.inUse slot.toNat = false) (hl : s.loadingBy slot.toNat = none) (hr : s.slotState slot.toNat ≠ .routing) :
    let r := effEraseSlot sess slot s
    r.2 = .ack ∧ r.1.slotState slot.toNat = .empty ∧ (∀ l ∈ r.1.lib.queue, l.slot ≠ slot.toNat) ∧
      ∀ k, k ≠ slot.toNat → r.1.slotState k = s.slotState k := by
  have hfree : (s.inUse slot.toNat || ((s.loadingBy slot.toNat).any fun l => l.session != some sess) ||
      s.slotState slot.toNat == .routing) = false := by
    rw [hu, hl]
    simpa using hr
  unfold effEraseSlot
  extract_lets k other u v r
  have hrun : r = (v.setSlot k .empty, .ack) := if_neg fun h => Bool.false_ne_true (hfree.symm.trans h)
  rw [hrun]
  refine ⟨rfl, slotState_setSlot _ _ _, discardRefinement_queue u k, fun n hn => ?_⟩
  rw [slotState_setSlot_other _ _ hn]
  exact awaitWriteBack_slotState (s.setObj Obj.ERASE_SLOT 0 slot) hn

theorem eraseSlot_erases (h : s.accepts sess Obj.ERASE_SLOT 0 slot = true) (hu : s.inUse slot.toNat = false)
    (hl : s.loadingBy slot.toNat = none) (hr : s.slotState slot.toNat ≠ .routing) :
    ∃ t, exec (.eraseSlot sess slot) s = .next t ∧ t.answered sess 0 Obj.ERASE_SLOT 0 (.ack []) ∧
      t.slotState slot.toNat = .empty ∧ (∀ l ∈ t.lib.queue, l.slot ≠ slot.toNat) ∧
      (∀ k, k ≠ slot.toNat → t.slotState k = s.slotState k) := by
  obtain ⟨hv, hfacts⟩ := effEraseSlot_acks (s := seen s sess) (sess := sess) (slot := slot) (by rw [seen_eq]; exact hu)
    (by rw [seen_eq]; exact hl) (by rw [seen_eq]; exact hr)
  obtain ⟨hans, hframe⟩ := hostWrite_acks h hv (effEraseSlot_opens sess slot _)
  refine ⟨_, rfl, hans, ?_⟩
  rw [sealed_eq s hframe]
  rw [seen_eq] at hfacts
  rw [seen_eq]
  exact hfacts

/-! ### REVALIDATE (R80, R81) -/

theorem revalidateSlot_passes {k : Nat} (h : s.revalidates (s.slotPortMap k) (s.slotRoutes k) = true) :
    revalidateSlot s k = (((s.slotWrite k 0x10 (leBytes 4 (s.objN Obj.FAULT_GEN 0))).slotSeal k).setSlot k .valid, true) := if_pos h

theorem revalidateSlot_fails {k : Nat} (h : s.revalidates (s.slotPortMap k) (s.slotRoutes k) = false) :
    revalidateSlot s k = if s.slotState k = .stale then (s, false)
      else (raiseA (s.setSlot k .stale) 0x2011 [.word k, .word (s.obj Obj.FAULT_GEN 0)], false) :=
  if_neg fun hp => Bool.false_ne_true (h.symm.trans hp)

/-- A slot that passes is VALID with the FAULT_GEN of now. -/
theorem revalidateSlot_valid {k : Nat} (hm : s.memOk) (hg : s.objN Obj.FAULT_GEN 0 ≤ u32Max)
    (h : s.revalidates (s.slotPortMap k) (s.slotRoutes k) = true) :
    (revalidateSlot s k).1.slotState k = .valid ∧ (revalidateSlot s k).1.slotFaultGen k = s.objN Obj.FAULT_GEN 0 := by
  rw [revalidateSlot_passes h]
  generalize hw : s.slotWrite k 0x10 (leBytes 4 (s.objN Obj.FAULT_GEN 0)) = u
  have hu : u.memOk := by
    rw [← hw]
    exact memOk_slotWrite hm _ _ _
  have hfield : u.slotField k 0x10 4 = s.objN Obj.FAULT_GEN 0 := by
    rw [← hw]
    exact slotField_slotWrite hm (by decide) (lt_of_le_of_lt hg (by decide))
  have hseal : (u.slotSeal k).slotField k 0x10 4 = u.slotField k 0x10 4 := slotField_slotWrite_other hu k _ (.inl (by decide))
  exact ⟨slotState_setSlot _ _ _, hseal.trans hfield⟩

/-- One that does not is STALE. -/
theorem revalidateSlot_stale {k : Nat} (h : s.revalidates (s.slotPortMap k) (s.slotRoutes k) = false) :
    (revalidateSlot s k).1.slotState k = .stale ∧ sameMemory s (revalidateSlot s k).1 := by
  rw [revalidateSlot_fails h]
  by_cases hstale : s.slotState k = .stale
  · rw [if_pos hstale]
    exact ⟨hstale, fun _ => rfl⟩
  · rw [if_neg hstale]
    refine ⟨?_, sameMemory_of_hbm (raiseA_hbm _ _ _)⟩
    rw [slotState_of_lib (congrArg Library.slots (raiseA_lib _ _ _)), slotState_setSlot]

theorem revalidates_congr {t : State} (h : ∀ k, t.obj Obj.CELL_CLASS k = s.obj Obj.CELL_CLASS k) (pm rt : List Nat) :
    t.revalidates pm rt = s.revalidates pm rt := by
  unfold State.revalidates State.cellClass State.objN
  simp only [h]

theorem effRevalidate_judges (hm : s.memOk) (hw : s.lib.writing = none)
    (hs : s.slotState slot.toNat = .valid ∨ s.slotState slot.toNat = .stale) (hb : s.slotBad slot.toNat = false)
    (hg : s.objN Obj.FAULT_GEN 0 ≤ u32Max) :
    let r := effRevalidate slot s
    r.2 = .ack ∧ (s.revalidates (s.slotPortMap slot.toNat) (s.slotRoutes slot.toNat) = true →
        r.1.slotState slot.toNat = .valid ∧ r.1.slotFaultGen slot.toNat = s.objN Obj.FAULT_GEN 0) ∧
      (s.revalidates (s.slotPortMap slot.toNat) (s.slotRoutes slot.toNat) = false →
        r.1.slotState slot.toNat = .stale ∧ sameMemory s r.1) := by
  have hrun : effRevalidate slot s = ((revalidateSlot (s.setObj Obj.REVALIDATE 0 slot) slot.toNat).1, .ack) := by
    unfold effRevalidate
    simp only [awaitWriteBack_idle hw]
    rcases hs with hs | hs <;> simp [hs, hb]
  rw [hrun]
  clear hrun
  have hbytes : (s.setObj Obj.REVALIDATE 0 slot).hbm = s.hbm := setObj_hbm _ _ _ _
  have hcells (k : Nat) : (s.setObj Obj.REVALIDATE 0 slot).obj Obj.CELL_CLASS k = s.obj Obj.CELL_CLASS k := obj_setObj_other _ (by simp)
  have hgen : (s.setObj Obj.REVALIDATE 0 slot).objN Obj.FAULT_GEN 0 = s.objN Obj.FAULT_GEN 0 :=
    congrArg Int.toNat (obj_setObj_other _ (by simp))
  generalize s.setObj Obj.REVALIDATE 0 slot = u at hbytes hcells hgen
  have hpass : u.revalidates (u.slotPortMap slot.toNat) (u.slotRoutes slot.toNat) =
      s.revalidates (s.slotPortMap slot.toNat) (s.slotRoutes slot.toNat) := by
    rw [slotPortMap_of_hbm hbytes, slotRoutes_of_hbm hbytes, revalidates_congr hcells]
  have hm' : u.memOk := by
    rw [State.memOk, hbytes]
    exact hm
  rw [← hpass, ← hgen]
  have hvalid := fun h => revalidateSlot_valid (k := slot.toNat) hm' (by rw [hgen]; exact hg) h
  have hstale := fun h => revalidateSlot_stale (s := u) (k := slot.toNat) h
  dsimp only
  generalize (revalidateSlot u slot.toNat).1 = t at hvalid hstale
  refine ⟨rfl, hvalid, fun h => ?_⟩
  obtain ⟨hstate, hsame⟩ := hstale h
  exact ⟨hstate, fun a => (hsame a).trans (by rw [hbytes])⟩

theorem ite_of_bool {p : Bool} {a b : Prop} (ht : p = true → a) (hf : p = false → b) : if p then a else b := by
  cases p with
  | true => exact ht rfl
  | false => exact hf rfl

theorem revalidate_judges (h : s.accepts sess Obj.REVALIDATE 0 slot = true) (hm : s.memOk) (hw : s.lib.writing = none)
    (hs : s.slotState slot.toNat = .valid ∨ s.slotState slot.toNat = .stale) (hb : s.slotBad slot.toNat = false)
    (hg : s.objN Obj.FAULT_GEN 0 ≤ u32Max) :
    ∃ t, exec (.revalidate sess slot) s = .next t ∧ t.answered sess 0 Obj.REVALIDATE 0 (.ack []) ∧
      if s.revalidates (s.slotPortMap slot.toNat) (s.slotRoutes slot.toNat) then
        t.slotState slot.toNat = .valid ∧ t.slotFaultGen slot.toNat = s.objN Obj.FAULT_GEN 0
      else t.slotState slot.toNat = .stale ∧ sameMemory s t := by
  obtain ⟨hv, hpass, hfail⟩ := effRevalidate_judges (s := seen s sess) (slot := slot) (by rw [seen_eq]; exact hm)
    (by rw [seen_eq]; exact hw) (by rw [seen_eq]; exact hs) (by rw [seen_eq]; exact hb) (by rw [seen_eq]; exact hg)
  obtain ⟨hans, hframe⟩ := hostWrite_acks h hv (effRevalidate_opens slot _)
  refine ⟨_, rfl, hans, ?_⟩
  have hseen := seen_frame s sess
  have hbytes := hseen.hbm rfl
  have hjudge : (seen s sess).revalidates ((seen s sess).slotPortMap slot.toNat) ((seen s sess).slotRoutes slot.toNat) =
      s.revalidates (s.slotPortMap slot.toNat) (s.slotRoutes slot.toNat) := by
    rw [slotPortMap_of_hbm hbytes, slotRoutes_of_hbm hbytes, revalidates_congr (obj_of_objs (hseen.objs rfl) _)]
  have hgen : (seen s sess).objN Obj.FAULT_GEN 0 = s.objN Obj.FAULT_GEN 0 := congrArg Int.toNat (obj_of_objs (hseen.objs rfl) _ _)
  rw [hjudge] at hpass hfail
  rw [hgen] at hpass
  have hend := sealed_eq s hframe
  generalize sealed s (hostWrite s sess Obj.REVALIDATE 0 slot (effRevalidate slot)) = t at hend
  generalize (effRevalidate slot (seen s sess)).1 = u at hpass hfail hend
  have hlib : t.lib = u.lib := by rw [hend]
  have hhbm : t.hbm = u.hbm := by rw [hend]
  have hstateT := slotState_of_lib (congrArg Library.slots hlib) slot.toNat
  have hgenT := slotFaultGen_of_hbm hhbm slot.toNat
  clear hjudge hgen hend hlib
  generalize s.revalidates (s.slotPortMap slot.toNat) (s.slotRoutes slot.toNat) = passes at hpass hfail ⊢
  generalize t.slotState slot.toNat = st at hstateT ⊢
  generalize t.slotFaultGen slot.toNat = gen at hgenT ⊢
  subst hstateT hgenT
  refine ite_of_bool hpass fun hp => ?_
  obtain ⟨hstate, hsame⟩ := hfail hp
  exact ⟨hstate, fun a => by rw [hhbm, hsame a, hbytes]⟩

theorem revalidate_empty (h : s.accepts sess Obj.REVALIDATE 0 slot = true) (hw : s.lib.writing = none)
    (hs : s.slotState slot.toNat = .empty) :
    ∃ t, exec (.revalidate sess slot) s = .next t ∧ t.answered sess 0 Obj.REVALIDATE 0 (.nak .state 0 0) ∧ Frame [.ex] s t := by
  have heff (u : State) (hw : u.lib.writing = none) (hs : u.slotState slot.toNat = .empty) : effRevalidate slot u = (u, .nak .state) := by
    unfold effRevalidate
    simp only [awaitWriteBack_idle hw, hs]
  obtain ⟨hans, hframe⟩ := hostWrite_refused h (eff := effRevalidate slot)
    (heff _ (by rw [seen_eq]; exact hw) (by rw [seen_eq]; exact hs)) (by decide)
  exact ⟨_, rfl, hans, frame_sealed hframe (by decide)⟩

/-! ### FIND_HASH and the search (R94) -/

theorem findHash_starts {hash : Nat} (h : s.accepts sess Obj.FIND_HASH 0 hash = true) :
    ∃ t, exec (.findHash sess hash) s = .next t ∧ t.answered sess 0 Obj.FIND_HASH 0 (.ack []) ∧ t.lib.search = some hash ∧
      t.obj Obj.FIND_HASH 0 = hash ∧ Frame [.objs, .ex, .lib] s t := by
  obtain ⟨hans, hframe⟩ := hostWrite_acks h (eff := effFindHash hash) rfl (opens_of_frame (effFindHash_frame hash _) (by decide))
  have hkeep : Frame [.objs, .ex, .lib] s (hostWrite s sess Obj.FIND_HASH 0 hash (effFindHash hash)) :=
    .step hframe (by decide) (.step (effFindHash_frame hash _) (by decide) ((seen_frame s sess).mono (by decide)))
  refine ⟨_, rfl, hans, ?_, ?_, frame_sealed hkeep (by decide)⟩
  · rw [sealed_eq s hframe]
    rfl
  · rw [sealed_eq s hframe]
    exact obj_setObjN _ _ _ _

theorem findComplete_none {h : Nat} (hs : s.lib.search = some h) (hno : ∀ x ∈ s.lib.slots, x.2 = .valid → s.slotHash x.1 ≠ h) :
    ∃ t, exec .findComplete s = .next t ∧ t.lib.search = none ∧ t.obj Obj.FIND_RESULT 0 = 0xFFFFFFFF ∧ sameMemory s t := by
  have hslots : (s.lib.slots.filter fun x => x.2 == .valid && s.slotHash x.1 == h) = [] := by
    refine List.filter_eq_nil_iff.mpr fun x hx => ?_
    rw [Bool.and_eq_true, beq_iff_eq, beq_iff_eq]
    rintro ⟨hvalid, hhash⟩
    exact hno x hx hvalid hhash
  have hrun : exec .findComplete s = .next (sealed s (({ s with lib := { s.lib with search := none, found := 0xFFFFFFFF } } : State).setObjN
      Obj.FIND_RESULT 0 0xFFFFFFFF)) := by
    change execFindComplete s = _
    unfold execFindComplete
    rw [hs]
    dsimp only
    rw [hslots]
    rfl
  exact ⟨_, hrun, rfl, obj_setObjN _ _ _ _, fun _ => rfl⟩

theorem findComplete_first {h k : Nat} {rest : SMap SlotState} (hs : s.lib.search = some h) (hk : s.lib.slots = (k, .valid) :: rest)
    (hh : s.slotHash k = h) (hg : s.slotFaultGen k = s.objN Obj.FAULT_GEN 0) :
    ∃ t, exec .findComplete s = .next t ∧ t.lib.search = none ∧ t.obj Obj.FIND_RESULT 0 = k ∧ sameMemory s t := by
  have hslots : ∃ l, (s.lib.slots.filter fun x => x.2 == .valid && s.slotHash x.1 == h).map (·.1) = k :: l := by
    rw [hk, List.filter_cons_of_pos (by simp [hh])]
    exact ⟨_, rfl⟩
  obtain ⟨l, hslots⟩ := hslots
  generalize hu : ({ s with lib := { s.lib with search := none, found := 0xFFFFFFFF } } : State) = u
  have hbytes : u.hbm = s.hbm := by rw [← hu]
  have hobjs : u.objs = s.objs := by rw [← hu]
  have hcur : u.slotFaultGen k = u.objN Obj.FAULT_GEN 0 := by
    rw [slotFaultGen_of_hbm hbytes, hg, State.objN, State.objN, obj_of_objs hobjs]
  have hfind : findFirst u (k :: l) = { u with lib := { u.lib with found := k } } := by
    rw [findFirst, if_pos hcur]
    rfl
  have hrun : exec .findComplete s = .next (sealed s (({ u with lib := { u.lib with found := k } } : State).setObjN Obj.FIND_RESULT 0 k)) := by
    change execFindComplete s = _
    unfold execFindComplete
    rw [hs]
    dsimp only
    rw [hslots, hu, hfind]
    rfl
  refine ⟨_, hrun, ?_, obj_setObjN _ _ _ _, sameMemory_of_hbm hbytes⟩
  rw [← hu]
  rfl

end

/-- Settles O28: slots erased, revalidated and searched. -/
theorem slotCommands : Obligations.SlotCommands := by
  unfold Obligations.SlotCommands
  exact ⟨fun _ _ _ => eraseSlot_erases, fun _ _ _ => revalidate_judges, fun _ _ _ => revalidate_empty, fun _ _ _ => findHash_starts,
    fun _ _ => findComplete_none, fun _ _ _ _ => findComplete_first⟩

end Sys2Proof.Proofs

/-!
SUPPORT. The proofs of the route requests (spec/03_images.md, The on-device router, Permutation vectors).
-/

namespace Sys2Proof.Proofs

open Sys2Proof Sys2Proof.Machine Sys2Proof.Laws

section

variable {s : State} {sess slot : Nat} {v : List Nat}

/-! ### The end of a request -/

theorem endRoute_lib (s : State) (slot status us : Nat) : (endRoute s slot status us).lib = { s.lib with route := none } := by
  unfold endRoute
  exact raiseA_lib _ _ _

theorem endRoute_status (s : State) (slot status us : Nat) : (endRoute s slot status us).obj Obj.ROUTE_STATUS 0 = status := by
  unfold endRoute
  rw [raiseA_obj (by decide), obj_setObjN_other _ (by decide), obj_setObjN]

theorem endRoute_slotState (s : State) (slot status us k : Nat) : (endRoute s slot status us).slotState k = s.slotState k :=
  slotState_of_lib (by rw [endRoute_lib]) k

theorem endRoute_loadOf (s : State) (slot status us n : Nat) : (endRoute s slot status us).loadOf n = s.loadOf n :=
  loadOf_of_loads (by rw [endRoute_lib]) n

/-! ### ROUTE_APPLY (R90, R91) -/

theorem hostMode_of_funcs {t : State} (h : t.funcs = s.funcs) (n : Nat) : t.hostMode n = s.hostMode n := by
  unfold State.hostMode
  rw [func_of_funcs h]

theorem startRoute_routes (hp : (s.func 2).pending = none) (hm : s.hostMode 2 = false) (sess slot : Nat) (v exclude : List Nat) :
    (startRoute s sess slot v exclude).slotState slot = .routing ∧ (startRoute s sess slot v exclude).obj Obj.ROUTE_STATUS 0 = 1 ∧
      ∃ r, (startRoute s sess slot v exclude).lib.route = some r ∧ r.slot = slot ∧ r.vector = v ∧ r.waitHost = false := by
  have hf := (awaitWriteBack_frame s slot).funcs rfl
  have hidle := atModeBoundary_idle (n := 2) (by rw [func_of_funcs hf]; exact hp)
  unfold startRoute
  rw [hidle]
  generalize awaitWriteBack s slot = u at hf
  have hd := (discardRefinement_frame u slot).funcs rfl
  have hhost : ((discardRefinement u slot).dropLoads fun l => l.slot != slot).hostMode 2 = false :=
    (hostMode_of_funcs (hd.trans hf) 2).trans hm
  dsimp only
  generalize (discardRefinement u slot).dropLoads (fun l => l.slot != slot) = w at hhost ⊢
  rw [hhost]
  exact ⟨slotState_setSlot _ _ _, obj_setObjN _ _ _ _, _, rfl, rfl, rfl, rfl⟩

/-- What R91 asks of a slot that a request may take. -/
theorem routable (hu : s.inUse slot = false) (hl : ∀ l, s.loadingBy slot = some l → l.session = some sess)
    (hr : s.slotState slot ≠ .routing) :
    (s.inUse slot || ((s.loadingBy slot).any fun l => l.session != some sess) || s.slotState slot == .routing) = false := by
  have hother : ((s.loadingBy slot).any fun l => l.session != some sess) = false := by
    cases h : s.loadingBy slot with
    | none => rfl
    | some l =>
      have := hl l h
      simp [this]
  rw [hu, hother]
  simpa using hr

theorem takeRequest_funcs (s : State) : (takeRequest (s.incWrap Obj.ROUTE_SEQ 0)).funcs = s.funcs :=
  (takeRequest_frame _).funcs rfl

theorem effRouteApply_acks (h1 : s.obj Obj.ROUTE_STATUS 0 ≠ 1) (h6 : s.obj Obj.ROUTE_STATUS 0 ≠ 6)
    (hslot : slot = (s.judged Obj.ROUTE_SLOT 0).toNat) (hv : v = vectorOf (s.judgedOct Obj.ROUTE_VECTOR 0))
    (hrange : vectorInRange v = true) (hrep : vectorRepeats v = false) (hu : s.inUse slot = false)
    (hl : ∀ l, s.loadingBy slot = some l → l.session = some sess) (hr : s.slotState slot ≠ .routing)
    (hp : (s.func 2).pending = none) (hm : s.hostMode 2 = false) :
    (effRouteApply sess s).2 = .ack ∧ (effRouteApply sess s).1.slotState slot = .routing ∧
      (effRouteApply sess s).1.obj Obj.ROUTE_STATUS 0 = 1 ∧
      ∃ r, (effRouteApply sess s).1.lib.route = some r ∧ r.slot = slot ∧ r.vector = v ∧ r.waitHost = false := by
  have hfree := routable hu hl hr
  have hfuncs := takeRequest_funcs s
  unfold effRouteApply
  rw [← hslot, ← hv]
  simp only [h1, h6, or_self, if_false, hrange, hrep, hfree, Bool.not_true, Bool.false_eq_true]
  exact ⟨trivial, startRoute_routes (by rw [func_of_funcs hfuncs]; exact hp) (by rw [hostMode_of_funcs hfuncs]; exact hm) _ _ _ _⟩

theorem routeApply_routes (h : s.accepts sess Obj.ROUTE_APPLY 0 1 = true) (h1 : s.obj Obj.ROUTE_STATUS 0 ≠ 1)
    (h6 : s.obj Obj.ROUTE_STATUS 0 ≠ 6) (hslot : slot = (s.judged Obj.ROUTE_SLOT 0).toNat)
    (hvec : v = vectorOf (s.judgedOct Obj.ROUTE_VECTOR 0)) (hrange : vectorInRange v = true) (hrep : vectorRepeats v = false)
    (hu : s.inUse slot = false) (hl : ∀ l, s.loadingBy slot = some l → l.session = some sess) (hr : s.slotState slot ≠ .routing)
    (hp : (s.func 2).pending = none) (hm : s.hostMode 2 = false) :
    ∃ t, exec (.routeApply sess) s = .next t ∧ t.answered sess 0 Obj.ROUTE_APPLY 0 (.ack []) ∧ t.slotState slot = .routing ∧
      t.obj Obj.ROUTE_STATUS 0 = 1 ∧ (∃ r, t.lib.route = some r ∧ r.slot = slot ∧ r.vector = v ∧ r.waitHost = false) := by
  obtain ⟨hv, hfacts⟩ := effRouteApply_acks (s := seen s sess) (sess := sess) (slot := slot) (v := v) (by rw [seen_eq]; exact h1) (by rw [seen_eq]; exact h6)
    (by rw [seen_eq]; exact hslot) (by rw [seen_eq]; exact hvec) hrange hrep (by rw [seen_eq]; exact hu) (by rw [seen_eq]; exact hl)
    (by rw [seen_eq]; exact hr) (by rw [seen_eq]; exact hp) (by rw [seen_eq]; exact hm)
  obtain ⟨hans, hframe⟩ := hostWrite_acks h hv (effRouteApply_opens sess _)
  refine ⟨_, rfl, hans, ?_⟩
  rw [sealed_eq s hframe]
  exact hfacts

/-! ### Refused requests -/

theorem routeApply_range (h : s.accepts sess Obj.ROUTE_APPLY 0 1 = true) (h1 : s.obj Obj.ROUTE_STATUS 0 ≠ 1)
    (h6 : s.obj Obj.ROUTE_STATUS 0 ≠ 6) (hrange : vectorInRange (vectorOf (s.judgedOct Obj.ROUTE_VECTOR 0)) = false) :
    ∃ t, exec (.routeApply sess) s = .next t ∧ t.answered sess 0 Obj.ROUTE_APPLY 0 (.nak .range 0 0) ∧ Frame [.ex] s t := by
  have heff (u : State) (h1 : u.obj Obj.ROUTE_STATUS 0 ≠ 1) (h6 : u.obj Obj.ROUTE_STATUS 0 ≠ 6)
      (hrange : vectorInRange (vectorOf (u.judgedOct Obj.ROUTE_VECTOR 0)) = false) : effRouteApply sess u = (u, .nak .range) := by
    simp [effRouteApply, h1, h6, hrange]
  obtain ⟨hans, hframe⟩ := hostWrite_refused h (eff := effRouteApply sess)
    (heff _ (by rw [seen_eq]; exact h1) (by rw [seen_eq]; exact h6) (by rw [seen_eq]; exact hrange)) (by decide)
  exact ⟨_, rfl, hans, frame_sealed hframe (by decide)⟩

theorem routeApply_running (h : s.accepts sess Obj.ROUTE_APPLY 0 1 = true)
    (hrun : s.obj Obj.ROUTE_STATUS 0 = 1 ∨ s.obj Obj.ROUTE_STATUS 0 = 6) :
    ∃ t, exec (.routeApply sess) s = .next t ∧ t.answered sess 0 Obj.ROUTE_APPLY 0 (.nak .busy 0 0) ∧ Frame [.ex] s t := by
  have heff (u : State) (hrun : u.obj Obj.ROUTE_STATUS 0 = 1 ∨ u.obj Obj.ROUTE_STATUS 0 = 6) :
      effRouteApply sess u = (u, .nak .busy) := if_pos hrun
  obtain ⟨hans, hframe⟩ := hostWrite_refused h (eff := effRouteApply sess) (heff _ (by rw [seen_eq]; exact hrun)) (by decide)
  exact ⟨_, rfl, hans, frame_sealed hframe (by decide)⟩

theorem routeApply_slotInUse (h : s.accepts sess Obj.ROUTE_APPLY 0 1 = true) (h1 : s.obj Obj.ROUTE_STATUS 0 ≠ 1)
    (h6 : s.obj Obj.ROUTE_STATUS 0 ≠ 6) (hrange : vectorInRange (vectorOf (s.judgedOct Obj.ROUTE_VECTOR 0)) = true)
    (hrep : vectorRepeats (vectorOf (s.judgedOct Obj.ROUTE_VECTOR 0)) = false) (hu : s.inUse (s.judged Obj.ROUTE_SLOT 0).toNat = true) :
    ∃ t, exec (.routeApply sess) s = .next t ∧ t.answered sess 0 Obj.ROUTE_APPLY 0 (.nak .busy 0 0) ∧ Frame [.ex] s t := by
  have heff (u : State) (h1 : u.obj Obj.ROUTE_STATUS 0 ≠ 1) (h6 : u.obj Obj.ROUTE_STATUS 0 ≠ 6)
      (hrange : vectorInRange (vectorOf (u.judgedOct Obj.ROUTE_VECTOR 0)) = true)
      (hrep : vectorRepeats (vectorOf (u.judgedOct Obj.ROUTE_VECTOR 0)) = false)
      (hu : u.inUse (u.judged Obj.ROUTE_SLOT 0).toNat = true) : effRouteApply sess u = (u, .nak .busy) := by
    simp [effRouteApply, h1, h6, hrange, hrep, hu]
  obtain ⟨hans, hframe⟩ := hostWrite_refused h (eff := effRouteApply sess)
    (heff _ (by rw [seen_eq]; exact h1) (by rw [seen_eq]; exact h6) (by rw [seen_eq]; exact hrange) (by rw [seen_eq]; exact hrep)
      (by rw [seen_eq]; exact hu)) (by decide)
  exact ⟨_, rfl, hans, frame_sealed hframe (by decide)⟩

theorem effRouteApply_conflicts (h1 : s.obj Obj.ROUTE_STATUS 0 ≠ 1) (h6 : s.obj Obj.ROUTE_STATUS 0 ≠ 6)
    (hrange : vectorInRange (vectorOf (s.judgedOct Obj.ROUTE_VECTOR 0)) = true)
    (hrep : vectorRepeats (vectorOf (s.judgedOct Obj.ROUTE_VECTOR 0)) = true) :
    effRouteApply sess s = (endRoute (s.incWrap Obj.ROUTE_SEQ 0) (s.judged Obj.ROUTE_SLOT 0).toNat 4 0, .nak .conflict) := by
  simp [effRouteApply, h1, h6, hrange, hrep]

theorem routeApply_conflicts (h : s.accepts sess Obj.ROUTE_APPLY 0 1 = true) (h1 : s.obj Obj.ROUTE_STATUS 0 ≠ 1)
    (h6 : s.obj Obj.ROUTE_STATUS 0 ≠ 6) (hrange : vectorInRange (vectorOf (s.judgedOct Obj.ROUTE_VECTOR 0)) = true)
    (hrep : vectorRepeats (vectorOf (s.judgedOct Obj.ROUTE_VECTOR 0)) = true) :
    ∃ t, exec (.routeApply sess) s = .next t ∧ t.answered sess 0 Obj.ROUTE_APPLY 0 (.nak .conflict 0 0) ∧
      t.staged = s.staged ∧ t.stagedOcts = s.stagedOcts ∧ t.lib.slots = s.lib.slots ∧ t.obj Obj.ROUTE_STATUS 0 = 4 ∧
      t.lib.route = none ∧ sameMemory s t := by
  have heff := effRouteApply_conflicts (s := seen s sess) (sess := sess) (by rw [seen_eq]; exact h1) (by rw [seen_eq]; exact h6)
    (by rw [seen_eq]; exact hrange) (by rw [seen_eq]; exact hrep)
  have hv : (effRouteApply sess (seen s sess)).2 = .nak .conflict := congrArg Prod.snd heff
  obtain ⟨hans, hframe⟩ := hostWrite_naks h (by decide) hv (effRouteApply_opens sess _)
  have heq : (effRouteApply sess (seen s sess)).1 = _ := congrArg Prod.fst heff
  rw [heq] at hframe
  have hseen := seen_frame s sess
  have hinc := State.incWrap_frame (seen s sess) Obj.ROUTE_SEQ 0
  have hend := endRoute_frame ((seen s sess).incWrap Obj.ROUTE_SEQ 0) ((seen s sess).judged Obj.ROUTE_SLOT 0).toNat 4 0
  have hlib := endRoute_lib ((seen s sess).incWrap Obj.ROUTE_SEQ 0) ((seen s sess).judged Obj.ROUTE_SLOT 0).toNat 4 0
  have hstatus := endRoute_status ((seen s sess).incWrap Obj.ROUTE_SEQ 0) ((seen s sess).judged Obj.ROUTE_SLOT 0).toNat 4 0
  have hlib0 : ((seen s sess).incWrap Obj.ROUTE_SEQ 0).lib = s.lib := (hinc.lib rfl).trans (hseen.lib rfl)
  rw [hlib0] at hlib
  generalize endRoute ((seen s sess).incWrap Obj.ROUTE_SEQ 0) ((seen s sess).judged Obj.ROUTE_SLOT 0).toNat 4 0 = w at *
  refine ⟨_, rfl, hans, ?_⟩
  rw [sealed_eq s hframe]
  dsimp only
  refine ⟨(hend.staged rfl).trans ((hinc.staged rfl).trans (hseen.staged rfl)),
    (hend.stagedOcts rfl).trans ((hinc.stagedOcts rfl).trans (hseen.stagedOcts rfl)), by rw [hlib], hstatus, by rw [hlib], sameMemory_of_hbm ((hend.hbm rfl).trans ((hinc.hbm rfl).trans (hseen.hbm rfl)))⟩

/-! ### The end of the router's work (R91) -/

theorem slotWrite_lib (s : State) (slot off : Nat) (b : List Byte) : (s.slotWrite slot off b).lib = s.lib :=
  (State.slotWrite_frame s slot off b).lib rfl

/-- The state after the bytes of a slot that its host had written into are those of before the request. -/
def restored (s : State) (r : Route) : State :=
  if r.hosted then s.slotWrite r.slot 0 (memRead slotBytes (slotBase r.slot) r.before) else s

theorem restored_frame (s : State) (r : Route) : Frame [.hbm, .mat] s (restored s r) :=
  .ite (State.slotWrite_frame _ _ _ _) (.refl s)

/-- What the load of a session on the slot makes of it (R86). -/
theorem unroute_eq (s : State) (r : Route) : unroute s r = match r.load with
    | none => (restored s r).setSlot r.slot r.prior
    | some l =>
      if (l.session.any fun n => ((restored s r).session n).isSome && ((restored s r).loadOf n).isNone) then
        { (restored s r).setSlot r.slot r.prior with
          lib := { ((restored s r).setSlot r.slot r.prior).lib with loads := (restored s r).lib.loads ++ [l] } }
      else (restored s r).setSlot r.slot .empty := rfl

theorem unroute_idle {r : Route} (h : r.load = none) : unroute s r = (restored s r).setSlot r.slot r.prior := by
  rw [unroute_eq, h]

theorem unroute_loaded {r : Route} {l : Load} {n : Nat} (h : r.load = some l) (hn : l.session = some n)
    (hx : (s.session n).isSome = true) (hl : s.loadOf n = none) :
    unroute s r = { (restored s r).setSlot r.slot r.prior with
      lib := { ((restored s r).setSlot r.slot r.prior).lib with loads := s.lib.loads ++ [l] } } := by
  have hf := restored_frame s r
  have hlib := hf.lib rfl
  have hx' : ((restored s r).session n).isSome = true := by rw [State.session, hf.ex rfl]; exact hx
  have hl' : (restored s r).loadOf n = none := by rw [loadOf_of_loads (congrArg Library.loads hlib)]; exact hl
  have hback : (l.session.any fun n => ((restored s r).session n).isSome && ((restored s r).loadOf n).isNone) = true := by
    rw [hn, Option.any_some, hx', hl']
    rfl
  rw [unroute_eq, h, ← congrArg Library.loads hlib]
  exact if_pos hback

theorem unroute_hbm (s : State) (r : Route) : (unroute s r).hbm = (restored s r).hbm := by
  rw [unroute_eq]
  split
  · rfl
  · split <;> rfl

theorem restored_bytes {r : Route} (h : r.hosted = true) (hw : Memory.wf r.before = true) :
    (∀ a, slotBase r.slot ≤ a → a < slotBase r.slot + slotBytes → memByte (restored s r).hbm a = memByte r.before a) ∧
      (∀ a, a < slotBase r.slot ∨ slotBase r.slot + slotBytes ≤ a → memByte (restored s r).hbm a = memByte s.hbm a) := by
  have hread := memRead_eq slotBytes (slotBase r.slot) ((memory_wf_iff _).mp hw).1
  have hlen : (memRead slotBytes (slotBase r.slot) r.before).length = slotBytes := by rw [hread, List.length_map, List.length_range]
  obtain ⟨hin, -⟩ := slotWrite_whole s r.slot hlen
  have hrun : restored s r = s.slotWrite r.slot 0 (memRead slotBytes (slotBase r.slot) r.before) := if_pos h
  rw [hrun]
  refine ⟨fun a ha hb => ?_, fun a ha => slotWrite_outside s _ _ _ ha⟩
  obtain ⟨i, rfl⟩ := Nat.exists_eq_add_of_le ha
  have hi : i < slotBytes := by omega
  rw [hin i hi, hread]
  generalize slotBytes = n at hi
  simp [hi]

theorem routeDone_found {r : Route} {found : List Nat} (h : s.lib.route = some r) (hw : r.waitHost = false)
    (hf : s.findRoute r.vector r.exclude = some found) (us : Nat) :
    execRouteDone us s = finish s (endRoute ((writeImage s r.slot r.vector found).setSlot r.slot .valid) r.slot 2 (min us 2000)) := by
  unfold execRouteDone
  simp only [h, hw, hf, Bool.false_eq_true, if_false]

theorem routeDone_noRoute {r : Route} (h : s.lib.route = some r) (hw : r.waitHost = false)
    (hf : s.findRoute r.vector r.exclude = none) (us : Nat) :
    execRouteDone us s = finish s (endRoute (unroute s r) r.slot 3 (min us 2000)) := by
  unfold execRouteDone
  simp only [h, hw, hf, Bool.false_eq_true, if_false]

theorem sealed_parts (s u : State) : (sealed s u).hbm = u.hbm ∧ (sealed s u).lib = u.lib ∧ (sealed s u).objs = u.objs := by
  rw [sealed_eq s (Frame.refl u)]
  exact ⟨rfl, rfl, rfl⟩

theorem loadOf_appended {n : Nat} {l : Load} (hn : l.session = some n) (h : s.loadOf n = none) {t : State}
    (ht : t.lib.loads = s.lib.loads ++ [l]) : t.loadOf n = some l := by
  have h' : s.lib.loads.find? (fun x => x.session == some n) = none := h
  rw [State.loadOf, ht, List.find?_append, h']
  simp [hn]

theorem routeDone_ends {r : Route} {found : List Nat} (h : s.lib.route = some r) (hw : r.waitHost = false)
    (hf : s.findRoute r.vector r.exclude = some found) (us : Nat) :
    ∃ t, exec (.routeDone us) s = .next t ∧ t.lib.route = none ∧ t.slotState r.slot = .valid ∧ t.obj Obj.ROUTE_STATUS 0 = 2 := by
  refine ⟨_, routeDone_found h hw hf us, ?_⟩
  generalize writeImage s r.slot r.vector found = u
  obtain ⟨-, hlib, hobjs⟩ := sealed_parts s (endRoute (u.setSlot r.slot .valid) r.slot 2 (min us 2000))
  have hroute := endRoute_lib (u.setSlot r.slot .valid) r.slot 2 (min us 2000)
  refine ⟨by rw [hlib, hroute], ?_, ?_⟩
  · rw [slotState_of_lib (congrArg Library.slots hlib), endRoute_slotState, slotState_setSlot]
  · rw [obj_of_objs hobjs, endRoute_status]
    rfl

theorem routeDone_gives_back {r : Route} (h : s.lib.route = some r) (hw : r.waitHost = false)
    (hf : s.findRoute r.vector r.exclude = none) (us : Nat) :
    ∃ t, exec (.routeDone us) s = .next t ∧ t.lib.route = none ∧
      t.obj Obj.ROUTE_STATUS 0 = 3 ∧ (r.load = none → t.slotState r.slot = r.prior) ∧
      (∀ l n, r.load = some l → l.session = some n → (s.session n).isSome = true → s.loadOf n = none →
        t.slotState r.slot = r.prior ∧ t.loadOf n = some l) ∧
      (r.hosted = false → sameMemory s t) ∧
      (r.hosted = true → Memory.wf r.before = true →
        (∀ a, slotBase r.slot ≤ a → a < slotBase r.slot + slotBytes → memByte t.hbm a = memByte r.before a) ∧
        (∀ a, a < slotBase r.slot ∨ slotBase r.slot + slotBytes ≤ a → memByte t.hbm a = memByte s.hbm a)) := by
  refine ⟨_, routeDone_noRoute h hw hf us, ?_⟩
  obtain ⟨hhbm, hlib, hobjs⟩ := sealed_parts s (endRoute (unroute s r) r.slot 3 (min us 2000))
  have hroute := endRoute_lib (unroute s r) r.slot 3 (min us 2000)
  have hbytes : (sealed s (endRoute (unroute s r) r.slot 3 (min us 2000))).hbm = (restored s r).hbm :=
    hhbm.trans (((endRoute_frame (unroute s r) r.slot 3 (min us 2000)).hbm rfl).trans (unroute_hbm s r))
  have hslots := slotState_of_lib (congrArg Library.slots hlib) r.slot
  have hloads := loadOf_of_loads (congrArg Library.loads hlib)
  rw [endRoute_slotState] at hslots
  refine ⟨by rw [hlib, hroute], ?_, fun hl => ?_, fun l n hl hn hx hn' => ?_, fun hh => ?_, fun hh hwf => ?_⟩
  · rw [obj_of_objs hobjs, endRoute_status]
    rfl
  · rw [hslots, unroute_idle hl, slotState_setSlot]
  · have hun := unroute_loaded hl hn hx hn'
    refine ⟨?_, ?_⟩
    · rw [hslots, hun]
      exact slotState_setSlot (restored s r) _ _
    · rw [hloads, endRoute_loadOf]
      exact loadOf_appended hn hn' (by rw [hun])
  · exact sameMemory_of_hbm (hbytes.trans (congrArg State.hbm (if_neg (by rw [hh]; exact Bool.false_ne_true))))
  · rw [hbytes]
    exact restored_bytes hh hwf

end

/-- Settles O29: a request is taken, refused or ended as `effRouteApply` has it, and a router that finds no route gives the slot
back through `unroute`. -/
theorem routeRequests : Obligations.RouteRequests := by
  unfold Obligations.RouteRequests
  refine ⟨fun _ _ _ _ => routeApply_routes, fun sess slot v s h h1 h6 hslot hv => ?_, fun _ _ => routeApply_running,
    fun us r s h hw => ?_⟩
  · rw [hv, hslot]
    refine ⟨fun hrange => ?_, fun hrange hrep => ?_, fun hrange hrep hu => ?_⟩
    · exact routeApply_range h h1 h6 hrange
    · exact routeApply_conflicts h h1 h6 hrange hrep
    · exact routeApply_slotInUse h h1 h6 hrange hrep hu
  · cases hf : s.findRoute r.vector r.exclude with
    | some found => exact routeDone_ends h hw hf us
    | none => exact routeDone_gives_back h hw hf us

end Sys2Proof.Proofs

/-!
SUPPORT. The proofs of the refinement of stored images (spec/03_images.md, Refinement).
-/

namespace Sys2Proof.Proofs

open Sys2Proof Sys2Proof.Machine Sys2Proof.Laws

section

variable {s t : State} {l : Latch}

/-! ### The start of a write-back (R97, R98) -/

theorem startWriteBack_starts (s : State) (l : Latch) :
    (startWriteBack s l).slotState l.slot = .writing ∧ (startWriteBack s l).lib.writing = some l ∧
      (startWriteBack s l).lib.lastWrite = some s.tick ∧ ∀ x ∈ (startWriteBack s l).lib.queue, x.slot ≠ l.slot := by
  refine ⟨slotState_setSlot _ _ _, rfl, rfl, fun x hx => ?_⟩
  have hmem : x ∈ s.lib.queue.filter (·.slot ≠ l.slot) := hx
  simpa using (List.mem_filter.mp hmem).2

theorem writeBackStart_starts {rest : List Latch} (hq : s.lib.queue = l :: rest) (hw : s.lib.writing = none) (hr : s.rateAllows = true)
    (hv : s.slotState l.slot = .valid) :
    ∃ t, exec .writeBackStart s = .next t ∧ t.slotState l.slot = .writing ∧ t.lib.writing = some l ∧
      t.lib.lastWrite = some s.tick ∧ (∀ x ∈ t.lib.queue, x.slot ≠ l.slot) ∧ Frame [.ex, .lib] s t := by
  have hrun : execWriteBackStart s = finish s (startWriteBack s l) := by
    unfold execWriteBackStart
    simp only [hq, hw, hr, hv, Option.isNone_none, Bool.and_self, if_true]
  have hframe : Frame [.lib] s (startWriteBack s l) := .set_lib (by decide) (.set_lib (by decide) (.refl s))
  refine ⟨_, hrun, ?_⟩
  obtain ⟨hstate, hwriting, hlast, hqueue⟩ := startWriteBack_starts s l
  have hsealed := sealed_eq s (Frame.refl (startWriteBack s l))
  have hend : Frame [.ex, .lib] s (sealed s (startWriteBack s l)) := frame_sealed (hframe.mono (by decide)) (by decide)
  have hlib : (sealed s (startWriteBack s l)).lib = (startWriteBack s l).lib := by rw [hsealed]
  rw [slotState_of_lib (congrArg Library.slots hlib), hlib]
  exact ⟨hstate, hwriting, hlast, hqueue, hend⟩

theorem writeBackStart_barred (h : s.refineRate = 0) : ∃ t, exec .writeBackStart s = .next t ∧ Frame [.ex] s t := by
  have hrate : s.rateAllows = false := by simp [State.rateAllows, h]
  have hrun : execWriteBackStart s = finish s s := by
    unfold execWriteBackStart
    simp only [hrate, Bool.and_false, Bool.false_eq_true, if_false]
    split <;> rfl
  exact ⟨_, hrun, frame_sealed (.refl s) (by decide)⟩

/-! ### The end of a write-back (R96, R98) -/

/-- What a merge keeps while it writes the records of a slot: the form of memory, the count in the header, all outside the slot. -/
structure Merging (slot : Nat) (s t : State) : Prop where
  form : t.memOk
  count : t.slotRefineCount slot = s.slotRefineCount slot
  outside : ∀ a, a < slotBase slot ∨ slotBase slot + slotBytes ≤ a → memByte t.hbm a = memByte s.hbm a

theorem Merging.refl {slot : Nat} (h : s.memOk) : Merging slot s s := ⟨h, rfl, fun _ _ => rfl⟩

theorem Merging.write {slot off : Nat} (h : Merging slot s t) (b : List Byte) (ho : 0x18 + 4 ≤ off ∨ off + b.length ≤ 0x18) :
    Merging slot s (t.slotWrite slot off b) where
  form := memOk_slotWrite h.form _ _ _
  count := (slotField_slotWrite_other h.form slot b ho).trans h.count
  outside _ ha := (slotWrite_outside t slot off b ha).trans (h.outside _ ha)

theorem Merging.records {α : Type} {slot : Nat} {off : α → Nat} {b : State → α → List Byte} (ho : ∀ x, 0x18 + 4 ≤ off x) (xs : List α)
    (h : Merging slot s t) : Merging slot s (xs.foldl (fun u x => u.slotWrite slot (off x) (b u x)) t) := by
  induction xs generalizing t with
  | nil => exact h
  | cons x xs ih => exact ih (h.write _ (.inl (ho x)))

/-- A merge counts one refinement more in the header and writes nothing outside its slot. -/
theorem mergeLatch_merges (h : s.memOk) (l : Latch) :
    (mergeLatch s l).slotRefineCount l.slot = min u32Max (s.slotRefineCount l.slot + 1) ∧
      ∀ a, a < slotBase l.slot ∨ slotBase l.slot + slotBytes ≤ a → memByte (mergeLatch s l).hbm a = memByte s.hbm a := by
  have hrecords := (Merging.refl (slot := l.slot) h).records (off := fun x : Nat × Int × Int => 0x1000 + 8 * x.1)
    (b := fun u x => mergedElem (u.elemRecord l.slot x.1) (s.slotRefineCount l.slot) (s.obj Obj.REFINE_WEIGHT 0) x.2.1 x.2.2)
    (fun x => by omega) l.elems
  have hvoas := hrecords.records (off := fun x : Nat × Nat => 0x51000 + 8 * x.1)
    (b := fun u x => mergedVoa (u.voaRecord l.slot x.1) (s.slotRefineCount l.slot) (s.obj Obj.REFINE_WEIGHT 0) x.2)
    (fun x => by omega) l.voas
  unfold mergeLatch
  extract_lets count w n u1 u2 u3 u4 u5
  have h3 : Merging l.slot s u3 := hvoas.write _ (.inr (by rw [length_leBytes]))
  have hm4 : u4.memOk := memOk_slotWrite h3.form _ _ _
  have hm5 : u5.memOk := memOk_slotWrite hm4 _ _ _
  have hc4 : u4.slotField l.slot 0x18 4 = min u32Max (n + 1) :=
    slotField_slotWrite h3.form (by decide) (by unfold u32Max; omega)
  have hc5 : u5.slotField l.slot 0x18 4 = u4.slotField l.slot 0x18 4 := slotField_slotWrite_other hm4 _ _ (.inl (by decide))
  refine ⟨((slotField_slotWrite_other hm5 l.slot _ (.inl (by decide))).trans hc5).trans hc4, fun a ha => ?_⟩
  exact (slotWrite_outside u5 _ _ _ ha).trans ((slotWrite_outside u4 _ _ _ ha).trans ((slotWrite_outside u3 _ _ _ ha).trans
    (h3.outside a ha)))

/-- The state in which a write-back that ends no longer runs. -/
def unwriting (s : State) : State := { s with lib := { s.lib with writing := none } }

theorem finishWriteBack_runs (h : s.lib.writing = some l) :
    finishWriteBack s = if (unwriting s).slotBad l.slot then invalidate (unwriting s) l.slot 8
      else ((mergeLatch (unwriting s) l).setSlot l.slot s.lib.writingFrom).incSat Obj.REFINE_DONE 0 := by
  unfold finishWriteBack
  rw [h]
  rfl

theorem objN_incSat_self (s : State) (a b : Nat) : (s.incSat a b).objN a b = min u32Max (s.objN a b + 1) := by
  rw [State.objN, obj_incSat_self]
  rfl

theorem objN_of_objs (h : t.objs = s.objs) (a b : Nat) : t.objN a b = s.objN a b := congrArg Int.toNat (obj_of_objs h a b)

/-- The last of a write-back: its slot is VALID again, and one more is counted. -/
theorem validated_parts (s : State) (slot : Nat) :
    let t := (s.setSlot slot .valid).incSat Obj.REFINE_DONE 0
    t.slotState slot = .valid ∧ t.lib.writing = s.lib.writing ∧ t.objN Obj.REFINE_DONE 0 = min u32Max (s.objN Obj.REFINE_DONE 0 + 1) ∧
      t.hbm = s.hbm := by
  refine ⟨?_, rfl, ?_, rfl⟩
  · rw [slotState_of_lib (congrArg Library.slots (incSat_lib _ _ _ _)), slotState_setSlot]
  · rw [objN_incSat_self, objN_of_objs (t := s.setSlot slot .valid) (s := s) rfl]

theorem writeBackDone_counts (hw : s.lib.writing = some l) (hb : s.slotBad l.slot = false) (hf : s.lib.writingFrom = .valid)
    (hm : s.memOk) :
    ∃ t, exec .writeBackDone s = .next t ∧ t.slotState l.slot = .valid ∧ t.lib.writing = none ∧
      t.objN Obj.REFINE_DONE 0 = min u32Max (s.objN Obj.REFINE_DONE 0 + 1) ∧
      t.slotRefineCount l.slot = min u32Max (s.slotRefineCount l.slot + 1) ∧
      (∀ a, a < slotBase l.slot ∨ slotBase l.slot + slotBytes ≤ a → memByte t.hbm a = memByte s.hbm a) := by
  have hrun := finishWriteBack_runs hw
  rw [slotBad_of_mat (t := unwriting s) (s := s) rfl, hb, hf] at hrun
  replace hrun := hrun.trans (if_neg Bool.false_ne_true)
  obtain ⟨hcount, hout⟩ := mergeLatch_merges (s := unwriting s) hm l
  have hhbm : (unwriting s).hbm = s.hbm := rfl
  have hobjs : (unwriting s).objs = s.objs := rfl
  have hnone : (unwriting s).lib.writing = none := rfl
  generalize unwriting s = u at *
  have hmerge := mergeLatch_frame u l
  obtain ⟨thbm, tlib, tobjs⟩ := sealed_parts s (finishWriteBack s)
  rw [hrun] at thbm tlib tobjs
  obtain ⟨hvalid, hwriting, hdone, hbytes⟩ := validated_parts (mergeLatch u l) l.slot
  refine ⟨_, congrArg (finish s) hrun, ?_, ?_, ?_, ?_, ?_⟩
  · rw [slotState_of_lib (congrArg Library.slots tlib)]
    exact hvalid
  · rw [tlib, hwriting, hmerge.lib rfl]
    exact hnone
  · rw [objN_of_objs tobjs, hdone, objN_of_objs ((hmerge.objs rfl).trans hobjs)]
  · have hc : (mergeLatch u l).slotRefineCount l.slot = min u32Max (s.slotRefineCount l.slot + 1) := by
      rw [hcount]
      unfold State.slotRefineCount
      rw [slotField_of_hbm hhbm]
    unfold State.slotRefineCount at hc ⊢
    rw [slotField_of_hbm (thbm.trans hbytes), hc]
  · intro a ha
    rw [thbm.trans hbytes, hout a ha, hhbm]

theorem writeBackDone_abandoned (hw : s.lib.writing = some l) (hb : s.slotBad l.slot = true) :
    ∃ t, exec .writeBackDone s = .next t ∧ t.slotState l.slot = .invalid ∧ t.lib.writing = none ∧ sameMemory s t := by
  have hrun := finishWriteBack_runs hw
  rw [slotBad_of_mat (t := unwriting s) (s := s) rfl, hb] at hrun
  replace hrun := hrun.trans (if_pos rfl)
  obtain ⟨thbm, tlib, -⟩ := sealed_parts s (finishWriteBack s)
  rw [hrun] at thbm tlib
  have hlib := invalidate_lib (unwriting s) l.slot 8
  refine ⟨_, congrArg (finish s) hrun, ?_, ?_, sameMemory_of_hbm ?_⟩
  · rw [slotState_of_lib (congrArg Library.slots (tlib.trans hlib)), slotState_setSlot]
  · rw [tlib, hlib]
    rfl
  · rw [thbm]
    exact raiseA_hbm _ _ _

/-! ### The host's decisions (R100) -/

variable {sess b : Nat} {x : RefineBuf}

theorem queueLatch_queues (hn : s.lib.queue.length < 64) (hq : ∀ y ∈ s.lib.queue, y.slot ≠ l.slot) :
    queueLatch s l = { s with lib := { s.lib with queue := s.lib.queue ++ [l] } } := by
  have hnew : s.lib.queue.any (·.slot == l.slot) = false := by simpa using hq
  unfold queueLatch
  rw [hnew]
  exact if_pos hn

theorem effRefineDecide_write (hx : mfind s.lib.bufs b = some x) (hn : s.lib.queue.length < 64)
    (hq : ∀ y ∈ s.lib.queue, y.slot ≠ x.latch.slot) :
    (effRefineDecide b 1 s).2 = .ack ∧ (effRefineDecide b 1 s).1.lib.queue = s.lib.queue ++ [x.latch] ∧
      mfind (effRefineDecide b 1 s).1.lib.bufs b = none := by
  unfold effRefineDecide
  simp only [hx, if_true]
  rw [queueLatch_queues (s := (s.dropBuf b).setObj Obj.REFINE_DECIDE b 1) hn hq]
  exact ⟨trivial, rfl, mfind_mdel_self _ _⟩

theorem effRefineDecide_discard (hx : mfind s.lib.bufs b = some x) :
    (effRefineDecide b 2 s).2 = .ack ∧ (effRefineDecide b 2 s).1.lib.queue = s.lib.queue ∧
      mfind (effRefineDecide b 2 s).1.lib.bufs b = none ∧
      (effRefineDecide b 2 s).1.objN Obj.REFINE_DISCARDED 0 = min u32Max (s.objN Obj.REFINE_DISCARDED 0 + 1) := by
  have hrun : effRefineDecide b 2 s = (((s.dropBuf b).setObj Obj.REFINE_DECIDE b 2).incSat Obj.REFINE_DISCARDED 0, .ack) := by
    unfold effRefineDecide
    rw [hx]
    exact if_neg (by decide)
  have hold : ((s.dropBuf b).setObj Obj.REFINE_DECIDE b 2).objN Obj.REFINE_DISCARDED 0 = s.objN Obj.REFINE_DISCARDED 0 :=
    congrArg Int.toNat (obj_setObj_other _ (by simp [Obj.REFINE_DECIDE, Obj.REFINE_DISCARDED]))
  rw [hrun]
  refine ⟨rfl, rfl, mfind_mdel_self _ _, ?_⟩
  rw [State.objN, obj_incSat_self, hold]
  rfl

theorem refineDecide_writes (h : s.accepts sess Obj.REFINE_DECIDE b 1 = true) (hx : mfind s.lib.bufs b = some x)
    (hn : s.lib.queue.length < 64) (hq : ∀ l ∈ s.lib.queue, l.slot ≠ x.latch.slot) :
    ∃ t, exec (.refineDecideWrite sess b) s = .next t ∧ t.answered sess 0 Obj.REFINE_DECIDE b (.ack []) ∧
      t.lib.queue = s.lib.queue ++ [x.latch] ∧ mfind t.lib.bufs b = none := by
  obtain ⟨hv, hfacts⟩ := effRefineDecide_write (s := seen s sess) (b := b) (x := x) (by rw [seen_eq]; exact hx) (by rw [seen_eq]; exact hn)
    (by rw [seen_eq]; exact hq)
  obtain ⟨hans, hframe⟩ := hostWrite_acks h hv (effRefineDecide_opens b 1 _)
  refine ⟨_, rfl, hans, ?_⟩
  have hlib := (seen_frame s sess).lib rfl
  rw [hlib] at hfacts
  rw [sealed_eq s hframe]
  exact hfacts

theorem refineDecide_discards (h : s.accepts sess Obj.REFINE_DECIDE b 2 = true) (hx : mfind s.lib.bufs b = some x) :
    ∃ t, exec (.refineDecideDiscard sess b) s = .next t ∧ t.answered sess 0 Obj.REFINE_DECIDE b (.ack []) ∧
      t.lib.queue = s.lib.queue ∧ mfind t.lib.bufs b = none ∧
      t.objN Obj.REFINE_DISCARDED 0 = min u32Max (s.objN Obj.REFINE_DISCARDED 0 + 1) := by
  obtain ⟨hv, hfacts⟩ := effRefineDecide_discard (s := seen s sess) (b := b) (x := x) (by rw [seen_eq]; exact hx)
  obtain ⟨hans, hframe⟩ := hostWrite_acks h hv (effRefineDecide_opens b 2 _)
  refine ⟨_, rfl, hans, ?_⟩
  have hseen := seen_frame s sess
  have hobj : (seen s sess).objN Obj.REFINE_DISCARDED 0 = s.objN Obj.REFINE_DISCARDED 0 :=
    congrArg Int.toNat (obj_of_objs (hseen.objs rfl) _ _)
  rw [hseen.lib rfl, hobj] at hfacts
  rw [sealed_eq s hframe]
  exact hfacts

theorem refineDecide_free (h : s.accepts sess Obj.REFINE_DECIDE b 1 = true) (hx : mfind s.lib.bufs b = none) :
    ∃ t, exec (.refineDecideWrite sess b) s = .next t ∧ t.answered sess 0 Obj.REFINE_DECIDE b (.nak .range 0 0) ∧ Frame [.ex] s t := by
  have heff (u : State) (hx : mfind u.lib.bufs b = none) : effRefineDecide b 1 u = (u, .nak .range) := by
    simp only [effRefineDecide, hx]
  obtain ⟨hans, hframe⟩ := hostWrite_refused h (eff := effRefineDecide b 1) (heff _ (by rw [seen_eq]; exact hx)) (by decide)
  exact ⟨_, rfl, hans, frame_sealed hframe (by decide)⟩

end

/-- Settles O30: a write-back takes its latch out of the queue, and its end is `mergeLatch` or an INVALID slot. -/
theorem refinement : Obligations.Refinement := by
  unfold Obligations.Refinement
  exact ⟨fun _ _ _ => writeBackStart_starts, fun _ => writeBackStart_barred,
    fun _ _ hw hb hf hm _ _ => writeBackDone_counts hw hb hf hm, fun _ _ => writeBackDone_abandoned, fun _ _ _ _ => refineDecide_writes,
    fun _ _ _ _ => refineDecide_discards, fun _ _ _ => refineDecide_free⟩

end Sys2Proof.Proofs

/-!
SUPPORT. The proofs of PREPARE (spec/04_commit.md, PREPARE).
-/

namespace Sys2Proof.Proofs

open Sys2Proof Sys2Proof.Machine Sys2Proof.Laws

section

variable {s t : State} {sess req id slot flags : Nat}

/-! ### Requests of a ready session -/

theorem execPrepare_ready (hr : s.readyCommit sess = true) (hq : s.newReq sess req = true) (id slot flags : Nat) :
    exec (.prepare sess req id slot flags) s = .next (sealed s (prepareOp (seen s sess) sess req id slot flags)) := by
  obtain ⟨level, hreq⟩ := request_readyCommit (c := .prepare sess req id slot flags) rfl hr hq
    fun s _ => prepareOp s sess req id slot flags
  exact congrArg (finish s) hreq

/-- The session of a ready commit request, with the frame noted. -/
theorem seen_readyCommit (hr : s.readyCommit sess = true) :
    ∃ i x, (seen s sess).session sess = some (i, x) ∧ x.txSeq + 1 < u32Max := by
  obtain ⟨i, x, hx, -, hseq, -⟩ := readyCommit_iff.mp hr
  obtain ⟨j, hj⟩ := session_seen hx
  exact ⟨j, _, hj, hseq⟩

/-- An answer to a session that events alone have changed since. -/
theorem answerCommit_told {i : Nat} {x : Session} (hx : s.session sess = some (i, x)) (hseq : x.txSeq + 1 < u32Max) (ht : Told s t)
    (req : Nat) (r : Reply) : Frame [.ex] t (answerCommit t sess req r) ∧ (answerCommit t sess req r).answered sess req 0 0 r := by
  obtain ⟨y, hy, q, d, o, hdel⟩ := ht.session hx
  have hseq' : y.txSeq + 1 < u32Max := by rw [hdel]; exact hseq
  exact ⟨answerCommit_frame_ex hy hseq' req r, answerCommit_answered ((openIn_iff _ _).mpr ⟨i, y, hy⟩) req r⟩

theorem invalidate_told (s : State) (slot reason : Nat) : Told s (invalidate s slot reason) := by
  unfold invalidate
  exact .raiseA (.of_ex rfl)

theorem invalidate_slotState (s : State) (slot reason : Nat) : (invalidate s slot reason).slotState slot = .invalid := by
  rw [slotState_of_lib (congrArg Library.slots (invalidate_lib s slot reason)), slotState_setSlot]

/-! ### The checks (Table 4.3) -/

theorem prepareNak_congr (hdev : t.dev = s.dev) (hcom : t.com = s.com) (hlib : t.lib = s.lib) (id slot flags : Nat) :
    t.prepareNak id slot flags = s.prepareNak id slot flags := by
  unfold State.prepareNak State.findCommit State.slotState State.inUse State.stagingFree
  rw [hdev, hcom, hlib]

theorem adaptBoundary_opens (s : State) : Opens s (adaptBoundary s) := by
  unfold adaptBoundary
  refine .ite ?_ (.frame (atModeBoundary_frame s 4) (by decide) (.refl s))
  extract_lets due cal v w
  have hu : Opens s v := .step (fallback_opens _ 4) (.set_cal (.refl s))
  have hw : Opens s w :=
    .foldl (fun t n => .frame (State.setAdapt_frame _ _ _) (by decide) (.frame (moveA2_frame t n) (by decide) (.refl t))) hu
  exact .ite hw (.frame (bumpCalGen_frame w) (by decide) hw)

theorem prepare_refused {n : Nak} (hr : s.readyCommit sess = true) (hq : s.newReq sess req = true)
    (hn : s.prepareNak id slot flags = some n) :
    ∃ t, exec (.prepare sess req id slot flags) s = .next t ∧ t.answered sess req 0 0 (.nak n 0 id) ∧ t.com = s.com ∧
      t.drv = s.drv ∧ sameMemory s t := by
  obtain ⟨i, x, hx, -⟩ := seen_readyCommit hr
  have hseen := seen_frame s sess
  have hadapt := adaptBoundary_frame (seen s sess)
  have hcheck : (adaptBoundary (seen s sess)).prepareNak id slot flags = some n := by
    rw [prepareNak_congr ((hadapt.dev rfl).trans (hseen.dev rfl)) ((hadapt.com rfl).trans (hseen.com rfl))
      ((hadapt.lib rfl).trans (hseen.lib rfl)), hn]
  have hrun : prepareOp (seen s sess) sess req id slot flags = answerCommit (adaptBoundary (seen s sess)) sess req (.nak n 0 id) := by
    unfold prepareOp
    simp only [hcheck]
  have hopen := adaptBoundary_opens (seen s sess) sess ((openIn_iff _ _).mpr ⟨i, x, hx⟩)
  have hans := answerCommit_frame (adaptBoundary (seen s sess)) sess req (.nak n 0 id)
  have hframe : Frame [.objs, .ex, .funcs, .sorus, .cal, .lib] s (answerCommit (adaptBoundary (seen s sess)) sess req (.nak n 0 id)) :=
    .step hans (by decide) (.step hadapt (by decide) (hseen.mono (by decide)))
  rw [execPrepare_ready hr hq, hrun]
  refine ⟨_, rfl, answered_sealed (answerCommit_answered hopen req _), ?_⟩
  have hend := frame_sealed hframe (by decide)
  exact ⟨hend.com rfl, hend.drv rfl, sameMemory_of_hbm (hend.hbm rfl)⟩

/-! ### A slot that is VALID and current -/

/-- What a PREPARE rests on that reaches the fetch of its slot with nothing to wait for. -/
structure Fetching (s : State) (id slot flags : Nat) : Prop where
  passes : s.prepareNak id slot flags = none
  current : s.slotFaultGen slot = s.objN Obj.FAULT_GEN 0
  idle : s.lib.writing = none
  unqueued : ∀ l ∈ s.lib.queue, l.slot ≠ slot
  early : s.adaptLate = false
  settled : (s.func 4).pending = none

theorem Fetching.seen (h : Fetching s id slot flags) (sess : Nat) : Fetching (seen s sess) id slot flags := by
  have hf := seen_frame s sess
  obtain ⟨hpass, hcur, hidle, hqueue, hearly, hset⟩ := h
  refine ⟨?_, ?_, ?_, ?_, ?_, ?_⟩
  · rw [prepareNak_congr (hf.dev rfl) (hf.com rfl) (hf.lib rfl), hpass]
  · rw [slotFaultGen_of_hbm (hf.hbm rfl), objN_of_objs (hf.objs rfl), hcur]
  · rw [hf.lib rfl, hidle]
  · rw [hf.lib rfl]
    exact hqueue
  · unfold State.adaptLate at hearly ⊢
    rw [hf.cal rfl, hf.tick rfl]
    exact hearly
  · rw [func_of_funcs (hf.funcs rfl), hset]

theorem Fetching.promoted (h : Fetching s id slot flags) : promoteWriteBack s slot = s := by
  have hnone : s.lib.queue.find? (·.slot == slot) = none := List.find?_eq_none.mpr fun l hl => by simpa using h.unqueued l hl
  have hfin : finishWriteBack s = s := by simp only [finishWriteBack, h.idle]
  unfold promoteWriteBack
  rw [hfin]
  simp only [hnone]

/-- Such a PREPARE runs from the fetch of its slot (checks 7 and 8). -/
theorem Fetching.runs (h : Fetching s id slot flags) (sess req : Nat) :
    prepareOp s sess req id slot flags = match prepareFetch s slot with
      | (u, some n) => answerCommit u sess req (.nak n 0 id)
      | (u, none) => prepareGrant u (u.stageCommit sess req id slot (bitOf flags 0 == 1)) := by
  have hadapt : adaptBoundary s = s := by
    unfold adaptBoundary
    rw [h.early]
    exact atModeBoundary_idle h.settled
  have hcurrent : prepareCurrent s slot = (s, true) := by
    unfold prepareCurrent
    rw [awaitWriteBack_idle h.idle]
    exact if_pos h.current
  unfold prepareOp
  rw [hadapt]
  simp only [h.passes, hcurrent, Bool.not_true, Bool.false_eq_true, if_false] <;> rfl

theorem prepareFetch_bad (h : Fetching s id slot flags) (hb : s.slotBad slot = true) (hs : s.slotState slot ≠ .invalid) :
    prepareFetch s slot = (invalidate s slot 8, some .memory) := by
  unfold prepareFetch
  rw [h.promoted]
  exact (if_pos hb).trans (by rw [if_neg hs])

theorem prepareFetch_crc (h : Fetching s id slot flags) (hb : s.slotBad slot = false)
    (hc : s.slotField slot 0x1C 4 ≠ s.slotCrc slot) : prepareFetch s slot = (invalidate s slot 3, some .crc) := by
  unfold prepareFetch
  rw [h.promoted]
  exact (if_neg (by rw [hb]; exact Bool.false_ne_true)).trans (if_pos hc)

theorem prepareFetch_sound (h : Fetching s id slot flags) (hb : s.slotBad slot = false)
    (hc : s.slotField slot 0x1C 4 = s.slotCrc slot) : prepareFetch s slot = (s, none) := by
  unfold prepareFetch
  rw [h.promoted]
  exact (if_neg (by rw [hb]; exact Bool.false_ne_true)).trans (if_neg (not_not_intro hc))

/-- A slot that passes checks 1 to 5 is not INVALID. -/
theorem slotState_of_prepareNak (h : s.prepareNak id slot flags = none) : s.slotState slot ≠ .invalid := by
  intro hs
  simp only [State.prepareNak, hs] at h
  split_ifs at h

/-! ### The grant (R111, R287) -/

/-- The budget of a staged commit is checked before its grant is asked for. -/
theorem prepareGrant_refuses {c : Commit} (hp : (s.func 5).pending = none) (hm : s.hostMode 5 = false)
    (hf : s.steady.frozen = false) (hu : s.steady.upsets = [])
    (h : s.maxWaves c.spacing < c.waves ∨ s.heaterFits c.heat = false) :
    prepareGrant s c = answerCommit (s.incSat Obj.GRANTS_REFUSED 0) c.sess c.req (.nak .budget 0 c.id) := by
  unfold prepareGrant
  simp only [atModeBoundary_idle hp, hf, hm, Bool.false_eq_true, or_false, if_false]
  by_cases hw : s.maxWaves c.spacing < c.waves
  · rw [if_pos hw]
  · have hfit : s.reqFits (s.commitReq c) = false := by
      have hheat : s.heaterFits (s.commitReq c).heater = false := h.resolve_left hw
      rw [State.reqFits, hheat, Bool.false_and]
    rw [if_neg hw, grantNow_refuses hf hu hfit]
    exact if_neg Bool.false_ne_true

theorem prepareGrant_accepts {c : Commit} (hp : (s.func 5).pending = none) (hm : s.hostMode 5 = false)
    (hf : s.steady.frozen = false) (hu : s.steady.upsets = [])
    (h : ¬ (s.maxWaves c.spacing < c.waves ∨ s.heaterFits c.heat = false)) :
    prepareGrant s c = acceptPrepare (issueGrant s (s.commitReq c)) c := by
  obtain ⟨hw, hheat⟩ := not_or.mp h
  have hfit : s.reqFits (s.commitReq c) = true := by
    have hheat' : s.heaterFits c.heat = true := by simpa using hheat
    exact (Bool.and_eq_true _ _).mpr ⟨hheat', rfl⟩
  unfold prepareGrant
  simp only [atModeBoundary_idle hp, hf, hm, Bool.false_eq_true, or_false, if_false]
  rw [if_neg hw, grantNow_grants hf hu hfit]
  exact if_pos rfl

theorem setLog_opens (s : State) (n : Nat) (e : LogEntry) : Opens s (setLog s n e) := by
  refine .foldl (fun s r => .ite (.refl s) ?_) (.set_com (.refl s))
  have hput := fun kind flags time body => Opens.frame (ringPut_frame s r kind flags time body) (by decide) (.refl s)
  exact .ite (.step (raiseS_opens _ _ _) (hput _ _ _ _)) (hput _ _ _ _)

theorem newLog_opens (s : State) (c : Commit) : Opens s (s.newLog c) := by
  unfold State.newLog
  exact .step (setLog_opens _ _ _) (.set_com (.refl s))

/-- A new log entry is that of a commit that joins the live ones. -/
theorem newLog_live (s : State) (c : Commit) : ∃ d, (s.newLog c).com.live = s.com.live ++ [d] ∧ d.id = c.id ∧ d.slot = c.slot ∧
    d.state = c.state ∧ d.elems = c.elems ∧ d.voas = c.voas ∧ d.waves = c.waves := by
  unfold State.newLog
  rw [setLog_com]
  exact ⟨_, rfl, rfl, rfl, rfl, rfl, rfl, rfl⟩

theorem acceptPrepare_parts (hs : openIn s sess) (c : Commit) (hc : c.sess = sess) :
    (∃ body, (acceptPrepare s c).answered sess c.req 0 0 (.ack body)) ∧
      ∃ d, (acceptPrepare s c).com.live = s.com.live ++ [d] ∧ d.id = c.id ∧ d.slot = c.slot ∧ d.state = c.state ∧ d.elems = c.elems ∧
        d.voas = c.voas ∧ d.waves = c.waves := by
  subst hc
  obtain ⟨d, hlive, hfacts⟩ := newLog_live s { c with preparedAt := s.tick }
  have hopen := newLog_opens s { c with preparedAt := s.tick } c.sess hs
  unfold acceptPrepare
  generalize s.newLog { c with preparedAt := s.tick } = u at hlive hopen
  have hcom := (answerCommit_frame u c.sess c.req (.ack (u.prepareAck c))).com rfl
  refine ⟨⟨_, answerCommit_answered hopen _ _⟩, d, ?_, hfacts⟩
  rw [hcom, hlive]

theorem stageCommit_names (s : State) (sess req id slot : Nat) (r : Bool) :
    let c := s.stageCommit sess req id slot r
    c.sess = sess ∧ c.req = req ∧ c.id = id ∧ c.slot = slot ∧ c.state = .prepared :=
  ⟨rfl, rfl, rfl, rfl, rfl⟩

/-! ### What a commit is staged from does not name the sessions -/

theorem plan_setEx (s : State) (x : Exvan) (now : Bool) (pred : Option Commit) (c : Commit) :
    ({ s with ex := x } : State).plan now pred c = s.plan now pred c := by
  have hsame (e : Nat) (phase : Int) : ({ s with ex := x } : State).samePhase now pred e phase = s.samePhase now pred e phase := rfl
  have hspan (u : Nat) : ({ s with ex := x } : State).spanOf u = s.spanOf u := rfl
  have hcodes (e : Nat) : ({ s with ex := x } : State).predCodes pred e = s.predCodes pred e := rfl
  unfold State.plan
  simp only [hsame, hspan, hcodes]

theorem planned_setEx (s : State) (x : Exvan) (now : Bool) (pred : Option Commit) (c : Commit) :
    ({ s with ex := x } : State).planned now pred c = s.planned now pred c := by
  unfold State.planned
  rw [plan_setEx]

theorem stageCommit_setEx (s : State) (x : Exvan) (sess req id slot : Nat) (r : Bool) :
    ({ s with ex := x } : State).stageCommit sess req id slot r = s.stageCommit sess req id slot r := by
  have helem (e : Nat) : ({ s with ex := x } : State).stageElem slot e = s.stageElem slot e := rfl
  have hvoa (o : Nat) : ({ s with ex := x } : State).stageVoa slot o = s.stageVoa slot o := rfl
  have hheat (v : SMap StagedVoa) : ({ s with ex := x } : State).voaHeat v = s.voaHeat v := rfl
  have hlast : ({ s with ex := x } : State).lastArmed = s.lastArmed := rfl
  have hmap : ({ s with ex := x } : State).slotPortMap slot = s.slotPortMap slot := rfl
  have hroutes : ({ s with ex := x } : State).slotRoutes slot = s.slotRoutes slot := rfl
  unfold State.stageCommit
  simp only [planned_setEx, helem, hvoa, hheat, hlast, hmap, hroutes]
  rfl

theorem stageCommit_seen (s : State) (sess req id slot : Nat) (r : Bool) :
    (seen s sess).stageCommit sess req id slot r = s.stageCommit sess req id slot r := by
  rw [seen_eq, stageCommit_setEx]

/-! ### PREPARE of a slot that is VALID and current -/

/-- A fetch that fails leaves the slot INVALID and answers its NAK (Table 4.3, check 7). -/
theorem prepare_invalidates {n : Nak} {reason : Nat} (hr : s.readyCommit sess = true) (hq : s.newReq sess req = true)
    (h : Fetching s id slot flags) (hf : prepareFetch (seen s sess) slot = (invalidate (seen s sess) slot reason, some n)) :
    ∃ t, exec (.prepare sess req id slot flags) s = .next t ∧ t.answered sess req 0 0 (.nak n 0 id) ∧ t.com = s.com ∧
      t.drv = s.drv ∧ t.slotState slot = .invalid ∧ sameMemory s t := by
  obtain ⟨i, x, hx, hseq⟩ := seen_readyCommit hr
  have hrun := (h.seen sess).runs sess req
  rw [hf] at hrun
  obtain ⟨hframe, hans⟩ := answerCommit_told hx hseq (invalidate_told (seen s sess) slot reason) req (.nak n 0 id)
  have hinv : Frame [.objs, .ex, .sorus, .lib] s (invalidate (seen s sess) slot reason) :=
    .step (invalidate_frame (seen s sess) slot reason) (by decide) ((seen_frame s sess).mono (by decide))
  have hstate := invalidate_slotState (seen s sess) slot reason
  rw [execPrepare_ready hr hq, hrun]
  refine ⟨_, rfl, answered_sealed hans, ?_⟩
  generalize invalidate (seen s sess) slot reason = u at hframe hinv hstate
  have hend := frame_sealed (.step hframe (by decide) hinv) (by decide)
  have hlib := (sealed_parts s (answerCommit u sess req (.nak n 0 id))).2.1.trans (hframe.lib rfl)
  refine ⟨hend.com rfl, hend.drv rfl, ?_, sameMemory_of_hbm (hend.hbm rfl)⟩
  rw [slotState_of_lib (congrArg Library.slots hlib), hstate]

theorem prepare_memory (hr : s.readyCommit sess = true) (hq : s.newReq sess req = true) (h : Fetching s id slot flags)
    (hb : s.slotBad slot = true) :
    ∃ t, exec (.prepare sess req id slot flags) s = .next t ∧ t.answered sess req 0 0 (.nak .memory 0 id) ∧ t.com = s.com ∧
      t.drv = s.drv ∧ t.slotState slot = .invalid ∧ sameMemory s t := by
  have hbad : (seen s sess).slotBad slot = true := (slotBad_of_mat ((seen_frame s sess).mat rfl) slot).trans hb
  have hfetch := h.seen sess
  exact prepare_invalidates hr hq h (prepareFetch_bad hfetch hbad (slotState_of_prepareNak hfetch.passes))

theorem slotCrc_of_hbm (h : t.hbm = s.hbm) (slot : Nat) : t.slotCrc slot = s.slotCrc slot := by
  unfold State.slotCrc
  rw [h]

theorem prepare_crc (hr : s.readyCommit sess = true) (hq : s.newReq sess req = true) (h : Fetching s id slot flags)
    (hb : s.slotBad slot = false) (hc : s.slotField slot 0x1C 4 ≠ s.slotCrc slot) :
    ∃ t, exec (.prepare sess req id slot flags) s = .next t ∧ t.answered sess req 0 0 (.nak .crc 0 id) ∧ t.com = s.com ∧
      t.drv = s.drv ∧ t.slotState slot = .invalid ∧ sameMemory s t := by
  have hseen := seen_frame s sess
  have hbad : (seen s sess).slotBad slot = false := (slotBad_of_mat (hseen.mat rfl) slot).trans hb
  refine prepare_invalidates hr hq h (prepareFetch_crc (h.seen sess) hbad ?_)
  rw [slotField_of_hbm (hseen.hbm rfl), slotCrc_of_hbm (hseen.hbm rfl)]
  exact hc

/-- What the grant of a PREPARE rests on where Steady decides it. -/
structure Granting (s : State) : Prop where
  settled : (s.func 5).pending = none
  hardware : s.hostMode 5 = false
  running : s.steady.frozen = false
  sound : s.steady.upsets = []

theorem Granting.seen (h : Granting s) (sess : Nat) : Granting (seen s sess) := by
  have hf := seen_frame s sess
  obtain ⟨hset, hhard, hrun, hsound⟩ := h
  refine ⟨?_, ?_, ?_, ?_⟩
  · rw [func_of_funcs (hf.funcs rfl), hset]
  · rw [hostMode_of_funcs (hf.funcs rfl), hhard]
  · rw [hf.steady rfl, hrun]
  · rw [hf.steady rfl, hsound]

theorem budget_seen (s : State) (sess : Nat) (c : Commit) :
    ((seen s sess).maxWaves c.spacing < c.waves ∨ (seen s sess).heaterFits c.heat = false) ↔
      (s.maxWaves c.spacing < c.waves ∨ s.heaterFits c.heat = false) := by
  rw [seen_eq]
  exact Iff.rfl

/-- A PREPARE that passes its fetch comes to its grant. -/
theorem prepare_grants (hr : s.readyCommit sess = true) (hq : s.newReq sess req = true) (h : Fetching s id slot flags)
    (hb : s.slotBad slot = false) (hc : s.slotField slot 0x1C 4 = s.slotCrc slot) :
    exec (.prepare sess req id slot flags) s =
      .next (sealed s (prepareGrant (seen s sess) (s.stageCommit sess req id slot (bitOf flags 0 == 1)))) := by
  have hseen := seen_frame s sess
  have hbad : (seen s sess).slotBad slot = false := (slotBad_of_mat (hseen.mat rfl) slot).trans hb
  have hsum : (seen s sess).slotField slot 0x1C 4 = (seen s sess).slotCrc slot := by
    rw [slotField_of_hbm (hseen.hbm rfl), slotCrc_of_hbm (hseen.hbm rfl)]
    exact hc
  have hrun := (h.seen sess).runs sess req
  rw [prepareFetch_sound (h.seen sess) hbad hsum] at hrun
  rw [execPrepare_ready hr hq, hrun]
  dsimp only
  rw [stageCommit_seen]

theorem prepare_budget {c : Commit} (hr : s.readyCommit sess = true) (hq : s.newReq sess req = true) (h : Fetching s id slot flags)
    (hg : Granting s) (hb : s.slotBad slot = false) (hc : s.slotField slot 0x1C 4 = s.slotCrc slot)
    (he : c = s.stageCommit sess req id slot (bitOf flags 0 == 1)) (hf : s.maxWaves c.spacing < c.waves ∨ s.heaterFits c.heat = false) :
    ∃ t, exec (.prepare sess req id slot flags) s = .next t ∧ t.drv = s.drv ∧ sameMemory s t ∧
      t.answered sess req 0 0 (.nak .budget 0 id) ∧ t.com = s.com := by
  obtain ⟨hset, hhard, hrun, hsound⟩ := hg.seen sess
  obtain ⟨hsess, hreq, hid, -⟩ := stageCommit_names s sess req id slot (bitOf flags 0 == 1)
  rw [← he] at hsess hreq hid
  have hgrant := prepareGrant_refuses hset hhard hrun hsound ((budget_seen s sess c).mpr hf)
  rw [hsess, hreq, hid] at hgrant
  obtain ⟨i, x, hx, -⟩ := seen_readyCommit hr
  have hinc := State.incSat_frame (seen s sess) Obj.GRANTS_REFUSED 0 1
  have hopen : openIn ((seen s sess).incSat Obj.GRANTS_REFUSED 0) sess :=
    Opens.frame hinc (by decide) (.refl _) sess ((openIn_iff _ _).mpr ⟨i, x, hx⟩)
  have hans := answerCommit_frame ((seen s sess).incSat Obj.GRANTS_REFUSED 0) sess req (.nak .budget 0 id)
  have hframe : Frame [.objs, .ex, .sorus, .lib] s _ := .step hans (by decide) (.step hinc (by decide) ((seen_frame s sess).mono (by decide)))
  have hend := frame_sealed hframe (by decide)
  rw [prepare_grants hr hq h hb hc, ← he, hgrant]
  exact ⟨_, rfl, hend.drv rfl, sameMemory_of_hbm (hend.hbm rfl), answered_sealed (answerCommit_answered hopen req _), hend.com rfl⟩

theorem prepare_accepts {c : Commit} (hr : s.readyCommit sess = true) (hq : s.newReq sess req = true) (h : Fetching s id slot flags)
    (hg : Granting s) (hb : s.slotBad slot = false) (hc : s.slotField slot 0x1C 4 = s.slotCrc slot)
    (he : c = s.stageCommit sess req id slot (bitOf flags 0 == 1))
    (hf : ¬ (s.maxWaves c.spacing < c.waves ∨ s.heaterFits c.heat = false)) :
    ∃ t, exec (.prepare sess req id slot flags) s = .next t ∧ t.drv = s.drv ∧ sameMemory s t ∧
      (∃ body, t.answered sess req 0 0 (.ack body)) ∧ t.holds .commit id = true ∧
      ∃ d, t.com.live = s.com.live ++ [d] ∧ d.id = id ∧ d.slot = slot ∧ d.state = .prepared ∧ d.elems = c.elems ∧
        d.voas = c.voas ∧ d.waves = c.waves := by
  obtain ⟨hset, hhard, hrun, hsound⟩ := hg.seen sess
  obtain ⟨hsess, hreq, hid, hslot, hstate⟩ := stageCommit_names s sess req id slot (bitOf flags 0 == 1)
  rw [← he] at hsess hreq hid hslot hstate
  have hgrant := prepareGrant_accepts hset hhard hrun hsound (fun hw => hf ((budget_seen s sess c).mp hw))
  obtain ⟨i, x, hx, -⟩ := seen_readyCommit hr
  have hissue := issueGrant_frame (seen s sess) ((seen s sess).commitReq c)
  have hholds : (issueGrant (seen s sess) ((seen s sess).commitReq c)).holds .commit c.id = true := issueGrant_holds _ _
  have hopen := Opens.frame hissue (by decide) (.refl _) sess ((openIn_iff _ _).mpr ⟨i, x, hx⟩)
  rw [prepare_grants hr hq h hb hc, ← he, hgrant]
  generalize issueGrant (seen s sess) ((seen s sess).commitReq c) = u at hissue hholds hopen
  have haccept := acceptPrepare_frame u c
  obtain ⟨⟨body, hans⟩, d, hlive, hdid, hdslot, hdstate, hdfacts⟩ := acceptPrepare_parts hopen c hsess
  generalize acceptPrepare u c = w at haccept hans hlive
  have hframe : Frame [.objs, .ex, .sorus, .steady, .lib, .com] s w :=
    .step haccept (by decide) (.step hissue (by decide) ((seen_frame s sess).mono (by decide)))
  have hend := frame_sealed hframe (by decide)
  have hsteady : (sealed s w).steady = u.steady := haccept.steady rfl
  refine ⟨_, rfl, hend.drv rfl, sameMemory_of_hbm (hend.hbm rfl), ⟨body, answered_sealed (hreq ▸ hans)⟩, ?_, d, ?_, hdid.trans hid,
    hdslot.trans hslot, hdstate.trans hstate, hdfacts⟩
  · rw [State.holds, hsteady]
    exact hid ▸ hholds
  · rw [sealed_com, hlive, hissue.com rfl, (seen_frame s sess).com rfl]

end

/-- Settles O31: a PREPARE is refused by the checks of Table 4.3 or by its fetch, or comes to `prepareGrant`. -/
theorem commitsPrepared : Obligations.CommitsPrepared := by
  unfold Obligations.CommitsPrepared
  refine ⟨fun _ _ _ _ _ _ _ => prepare_refused, fun sess req id slot flags c s hr hq hn hg hw hl hb ha h4 h5 hm hf hu he => ?_,
    fun _ _ _ _ _ _ hr hq hn hg hw hl hb ha h4 => prepare_memory hr hq ⟨hn, hg, hw, hl, ha, h4⟩ hb⟩
  have hfetch : Fetching s id slot flags := ⟨hn, hg, hw, hl, ha, h4⟩
  by_cases hc : s.slotField slot 0x1C 4 ≠ s.slotCrc slot
  · obtain ⟨t, ht, hans, hcom, hdrv, hstate, hmem⟩ := prepare_crc hr hq hfetch hb hc
    exact ⟨t, ht, hdrv, hmem, by rw [if_pos hc]; exact ⟨hans, hcom, hstate⟩⟩
  · have hsum := not_not.mp hc
    by_cases hbudget : s.maxWaves c.spacing < c.waves ∨ s.heaterFits c.heat = false
    · obtain ⟨t, ht, hdrv, hmem, hfacts⟩ := prepare_budget hr hq hfetch ⟨h5, hm, hf, hu⟩ hb hsum he hbudget
      exact ⟨t, ht, hdrv, hmem, by rw [if_neg hc, if_pos hbudget]; exact hfacts⟩
    · obtain ⟨t, ht, hdrv, hmem, hfacts⟩ := prepare_accepts hr hq hfetch ⟨h5, hm, hf, hu⟩ hb hsum he hbudget
      exact ⟨t, ht, hdrv, hmem, by rw [if_neg hc, if_neg hbudget]; exact hfacts⟩

end Sys2Proof.Proofs

/-!
SUPPORT. Reading and writing the live commits (spec/04_commit.md).
-/

namespace Sys2Proof.Proofs

open Sys2Proof Sys2Proof.Machine Sys2Proof.Laws

section

variable {s t : State} {c d : Commit} {id : Nat}

theorem findCommit_of_com (h : t.com.live = s.com.live) (id : Nat) : t.findCommit id = s.findCommit id := by
  unfold State.findCommit
  rw [h]

theorem findCommit_id (h : s.findCommit id = some c) : c.id = id := by
  have hp := List.find?_some h
  simpa using hp

/-- A live commit replaced by one of its identifier is read back. -/
theorem findCommit_putCommit (h : s.findCommit id = some c) (hd : d.id = id) : (s.putCommit d).findCommit id = some d := by
  have hput (l : List Commit) (hl : l.find? (fun c => c.id == id) = some c) :
      (l.map fun x => if x.id = d.id then d else x).find? (fun c => c.id == id) = some d := by
    induction l with
    | nil => simp at hl
    | cons x xs ih =>
      by_cases hx : x.id = id
      · rw [List.map_cons, if_pos (hx.trans hd.symm), List.find?_cons_of_pos (by simpa using hd)]
      · rw [List.map_cons, if_neg (by rwa [hd]), List.find?_cons_of_neg (by simpa using hx)]
        rw [List.find?_cons_of_neg (by simpa using hx)] at hl
        exact ih hl
  exact hput _ h

theorem findCommit_updateLog (s : State) (n : Nat) (e : LogEntry) (id : Nat) : (updateLog s n e).findCommit id = s.findCommit id :=
  findCommit_of_com (updateLog_live s n e) id

theorem findCommit_stepCommit (h : s.findCommit id = some c) (hd : d.id = id) : (s.stepCommit d).findCommit id = some d := by
  unfold State.stepCommit
  rw [findCommit_updateLog, findCommit_putCommit h hd]

theorem stepCommit_opens (s : State) (c : Commit) : Opens s (s.stepCommit c) := by
  unfold State.stepCommit
  exact .step (updateLog_opens _ _ _) (.set_com (.refl s))

end

end Sys2Proof.Proofs

/-!
SUPPORT. The proofs of COMMIT (spec/04_commit.md, COMMIT and the queue of timed commits).
-/

namespace Sys2Proof.Proofs

open Sys2Proof Sys2Proof.Machine Sys2Proof.Laws

section

variable {s : State} {sess req id flags : Nat} {T : Int} {c : Commit}

theorem execCommit_ready (hr : s.readyCommit sess = true) (hq : s.newReq sess req = true) (id : Nat) (T : Int) (flags : Nat) :
    exec (.commit sess req id T flags) s = .next (sealed s (commitOp (seen s sess) sess req id T flags)) := by
  obtain ⟨level, hreq⟩ := request_readyCommit (c := .commit sess req id T flags) rfl hr hq fun s _ => commitOp s sess req id T flags
  exact congrArg (finish s) hreq

/-- A COMMIT whose operation is one refusal changes the sessions' side alone. -/
theorem commit_refused {n : Nak} (hr : s.readyCommit sess = true) (hq : s.newReq sess req = true)
    (hop : commitOp (seen s sess) sess req id T flags = answerCommit (seen s sess) sess req (.nak n 0 id)) :
    ∃ t, exec (.commit sess req id T flags) s = .next t ∧ t.answered sess req 0 0 (.nak n 0 id) ∧ Frame [.ex] s t := by
  obtain ⟨i, x, hx, hseq⟩ := seen_readyCommit hr
  obtain ⟨hframe, hans⟩ := answerCommit_told hx hseq (.refl _) req (.nak n 0 id)
  rw [execCommit_ready hr hq, hop]
  exact ⟨_, rfl, answered_sealed hans, frame_sealed ((seen_frame s sess).trans hframe) (by decide)⟩

theorem commit_outside (hr : s.readyCommit sess = true) (hq : s.newReq sess req = true) (hp : s.dev.state ≠ .parked)
    (hs : s.dev.state ≠ .service) :
    ∃ t, exec (.commit sess req id T flags) s = .next t ∧ t.answered sess req 0 0 (.nak .state 0 id) ∧ Frame [.ex] s t := by
  have hdev := (seen_frame s sess).dev rfl
  refine commit_refused hr hq (if_pos ?_)
  rw [hdev]
  exact ⟨hp, hs⟩

/-- What brings a COMMIT to the conditions of R115: a PREPARED commit, and a T that a TIME96 has. -/
structure Committing (s : State) (id : Nat) (T : Int) (flags : Nat) (c : Commit) : Prop where
  device : s.dev.state = .parked ∨ s.dev.state = .service
  live : s.findCommit id = some c
  prepared : c.state = .prepared
  flagged : flags ≤ 1
  timed : T ≠ 0
  instant : typeAllows .time96 T = true

theorem Committing.seen (h : Committing s id T flags c) (sess : Nat) : Committing (seen s sess) id T flags c :=
  { h with device := by rw [(seen_frame s sess).dev rfl]; exact h.device
           live := (findCommit_seen s sess id).trans h.live }

theorem Committing.judged (h : Committing s id T flags c) (sess req : Nat) :
    commitOp s sess req id T flags = match s.commitNak id T false with
      | some n => answerCommit s sess req (.nak n 0 id)
      | none => commitPlan s sess req c T (bitOf flags 0 == 1) false := by
  obtain ⟨hd, hc, hp, hf, h0, ht⟩ := h
  have hin : ¬ (s.dev.state ≠ .parked ∧ s.dev.state ≠ .service) := fun h => hd.elim h.1 h.2
  have hrange : ¬ ((!typeAllows .time96 T) = true ∨ 1 < flags) := by simp [ht, hf]
  have hzero : (T == 0) = false := by simpa using h0
  unfold commitOp
  simp only [if_neg hin, hc, hp, if_neg hrange, if_neg h0, hzero, ne_eq, not_true_eq_false, if_false] <;> rfl

theorem Committing.refused {n : Nak} (h : Committing s id T flags c) (hn : s.commitNak id T false = some n) (sess req : Nat) :
    commitOp s sess req id T flags = answerCommit s sess req (.nak n 0 id) := by
  rw [h.judged, hn]

theorem Committing.plans (h : Committing s id T flags c) (hn : s.commitNak id T false = none) (sess req : Nat) :
    commitOp s sess req id T flags = commitPlan s sess req c T (bitOf flags 0 == 1) false := by
  rw [h.judged, hn]

theorem commitNak_passes (hl : s.now + 2000 ≤ T) (hi : s.spaced id T = true) (hu : s.time.servo ≠ .unset) :
    s.commitNak id T false = none := by
  have hearly : s.tooLate T = false := decide_eq_false (by omega)
  have hlocked : s.everLocked = true := decide_eq_true hu
  simp [State.commitNak, hearly, hi, hlocked]

/-- The judged conditions do not name the sessions. -/
theorem commit_seen (s : State) (sess id : Nat) (T : Int) (c : Commit) :
    (seen s sess).commitNak id T false = s.commitNak id T false ∧ (seen s sess).needsReplan c T = s.needsReplan c T := by
  rw [seen_eq]
  exact ⟨rfl, rfl⟩

theorem commit_arms (hr : s.readyCommit sess = true) (hq : s.newReq sess req = true)
    (h : Committing s id T flags c) (hl : s.now + 2000 ≤ T) (hi : s.spaced id T = true) (hu : s.time.servo ≠ .unset)
    (hn : s.needsReplan c T = false) :
    ∃ t, exec (.commit sess req id T flags) s = .next t ∧ t.answered sess req 0 0 (.ack (time96Be T)) ∧
      t.findCommit id = some { c with state := .armed, t := T, peerAbort := bitOf flags 0 == 1 } ∧ t.drv = s.drv ∧
      t.loops = s.loops := by
  obtain ⟨i, x, hx, hseq⟩ := seen_readyCommit hr
  have hseen := seen_frame s sess
  obtain ⟨hjudge, hplan⟩ := commit_seen s sess id T c
  have hfound := (h.seen sess).live
  have hop := (h.seen sess).plans (hjudge.trans (commitNak_passes hl hi hu)) sess req
  have harm : commitPlan (seen s sess) sess req c T (bitOf flags 0 == 1) false =
      armCommit (seen s sess) sess req c T (bitOf flags 0 == 1) none := by
    unfold commitPlan
    rw [hplan, hn]
    rfl
  obtain ⟨d, hdef⟩ : ∃ d : Commit, { c with state := .armed, t := T, peerAbort := bitOf flags 0 == 1 } = d := ⟨_, rfl⟩
  have harmed : armCommit (seen s sess) sess req c T (bitOf flags 0 == 1) none =
      answerCommit ((seen s sess).stepCommit d) sess req (.ack (time96Be T)) := by
    rw [← hdef]
    rfl
  have hid : c.id = id := findCommit_id h.live
  have hstep := findCommit_stepCommit (d := d) hfound (by rw [← hdef]; exact hid)
  have hopen := stepCommit_opens (seen s sess) d sess ((openIn_iff _ _).mpr ⟨i, x, hx⟩)
  have hframe := State.stepCommit_frame (seen s sess) d
  rw [execCommit_ready hr hq, hop, harm, harmed, hdef]
  generalize (seen s sess).stepCommit d = u at hstep hopen hframe
  have hanswer := answerCommit_frame u sess req (.ack (time96Be T))
  have hall : Frame [.objs, .ex, .sorus, .com, .lib] s (answerCommit u sess req (.ack (time96Be T))) :=
    .step hanswer (by decide) (.step hframe (by decide) (hseen.mono (by decide)))
  refine ⟨_, rfl, answered_sealed (answerCommit_answered hopen req _), ?_, hall.drv rfl, hall.loops rfl⟩
  have hcom := (sealed_com s (answerCommit u sess req (.ack (time96Be T)))).trans (hanswer.com rfl)
  rw [findCommit_of_com (congrArg (·.live) hcom), hstep]

end

/-- Settles O32: a COMMIT is refused by the device's state or by R115, or arms its commit through `armCommit`. -/
theorem commitsArmed : Obligations.CommitsArmed := by
  unfold Obligations.CommitsArmed
  refine ⟨fun _ _ _ _ _ _ => commit_outside,
    fun _ _ _ _ _ _ _ hr hq hd hc hp hf h0 ht hl hi hu hn => commit_arms hr hq ⟨hd, hc, hp, hf, h0, ht⟩ hl hi hu hn,
    fun sess req id T flags c n s hr hq hd hc hp hf h0 ht hn => commit_refused hr hq ?_⟩
  have h : Committing s id T flags c := ⟨hd, hc, hp, hf, h0, ht⟩
  exact (h.seen sess).refused ((commit_seen s sess id T c).1.trans hn) sess req

end Sys2Proof.Proofs

/-!
SUPPORT. Reading and writing drive channels and banks (spec/07_drive.md, Writes, claims and latching).
-/

namespace Sys2Proof.Proofs

open Sys2Proof Sys2Proof.Machine Sys2Proof.Laws

section

variable {s t : State} {u v : Nat}

@[simp] theorem chan_setChan (s : State) (u : Nat) (c : Chan) : (s.setChan u c).chan u = c := by
  simp [State.chan, State.setChan, mget]

theorem chan_setChan_other (s : State) (c : Chan) (h : v ≠ u) : (s.setChan u c).chan v = s.chan v :=
  mget_mset_other _ _ _ h

@[simp] theorem chan_noteWrite (s : State) (b u : Nat) : (noteWrite s b).chan u = s.chan u := rfl

theorem chan_of_chans (h : t.drv.chans = s.drv.chans) (u : Nat) : t.chan u = s.chan u := by
  unfold State.chan
  rw [h]

theorem chan_noteRefused (s : State) (b u : Nat) : (noteRefused s b).chan u = s.chan u := by
  unfold noteRefused
  split
  · split <;> rfl
  · rfl

theorem chan_writeDirect_other (s : State) (code : Int) (h : v ≠ u) : (writeDirect s u code).chan v = s.chan v := by
  unfold writeDirect
  extract_lets n c w
  split
  · split
    · exact chan_setChan_other w _ h
    · split
      · exact chan_setChan_other w _ h
      · exact chan_setChan_other w _ h
  · exact chan_noteRefused s _ v

/-- A direct write of a bank that takes writes at once sets the output (Table 7.4). -/
theorem chan_writeDirect {code : Nat} (hg : s.gateOpen (bankOf u) = true) (hr : s.dev.refclkLost = false)
    (hh : (s.bank (bankOf u)).hold ≠ .holding) (hw : s.holdsWrites u = false) (hc : code ≤ maxCode u) :
    ((writeDirect s u code).chan u).out = code := by
  have hclamp : (clampInt 0 (maxCode u) (code : Int)).toNat = code := by
    unfold clampInt
    omega
  have hnow : ¬ ((s.dev.refclkLost || (s.bank (bankOf u)).hold == .holding) = true) := by simpa [hr] using hh
  unfold writeDirect
  extract_lets n c w
  have hn : n = code := hclamp
  rw [if_pos hg, if_neg (show ¬ ((w.dev.refclkLost || (w.bank (bankOf u)).hold == .holding) = true) from hnow),
    if_neg (show ¬ (w.holdsWrites u = true) by rw [show w.holdsWrites u = s.holdsWrites u from rfl, hw]; exact Bool.false_ne_true),
    chan_setChan]
  exact hn

end

end Sys2Proof.Proofs

/-!
SUPPORT. The proofs of how a commit is applied and reaches DONE (spec/04_commit.md, Commit operations, Application at T).
-/

namespace Sys2Proof.Proofs

open Sys2Proof Sys2Proof.Machine Sys2Proof.Laws

section

variable {s t u : State} {c d : Commit} {id : Nat}

/-! ### The end of APPLYING (R106) -/

theorem applyingEnd_settles (hc : s.findCommit id = some c) (ha : c.state = .applying) (hw : c.nextWave = c.waves)
    (hl : c.lastEnded = true) :
    ∃ t, exec (.applyingEnd id) s = .next t ∧ t.findCommit id = some { c with state := .settling, lastEnd := s.tick } ∧
      t.drv = s.drv ∧ t.loops = s.loops := by
  have hrun : execApplyingEnd id s = finish s (s.stepCommit { c with state := .settling, lastEnd := s.tick }) := by
    unfold execApplyingEnd
    rw [hc]
    exact congrArg (finish s) (if_pos ⟨ha, hw, hl⟩)
  have hframe := State.stepCommit_frame s { c with state := .settling, lastEnd := s.tick }
  have hid : c.id = id := findCommit_id hc
  have hfound := findCommit_stepCommit (d := { c with state := .settling, lastEnd := s.tick }) hc hid
  exact ⟨_, hrun, hfound, hframe.drv rfl, hframe.loops rfl⟩

/-! ### DONE (R126) -/

/-- The objects that the refinement of a commit that ends may change. -/
def latchObjs : List Nat := [Obj.RING_DROPPED, Obj.REFINE_DISCARDED, Obj.REFINE_SKIPPED]

theorem queueLatch_objs (s : State) (l : Latch) : ObjsOnly latchObjs s (queueLatch s l) := by
  unfold queueLatch
  refine .ite (.frame (.set_lib (m := [.lib]) (by decide) (.refl s)) (by decide) (.refl s))
    (.ite (.frame (.set_lib (m := [.lib]) (by decide) (.refl s)) (by decide) (.refl s)) ?_)
  exact .raiseA (by decide) (.incSat (by decide) (.refl s))

theorem bufferLatch_objs (s : State) (l : Latch) : ObjsOnly latchObjs s (bufferLatch s l) := by
  unfold bufferLatch
  split
  · exact .raiseA (by decide) (.frame (.set_lib (m := [.lib]) (by decide) (.refl s)) (by decide) (.refl s))
  · exact .raiseA (by decide) (.incSat (by decide) (.refl s))

theorem latchDone_objs (s : State) (c : Commit) (o : Outc) : ObjsOnly latchObjs s (latchDone s c o) := by
  unfold latchDone
  refine .ite (.incSat (by decide) (.step (invalidate_objs _ _ _) (by decide) (.set_mat (.refl s)))) (.ite (.refl s) ?_)
  exact .ite (bufferLatch_objs _ _) (queueLatch_objs _ _)

/-- The objects of the templates that a LOCKED commit teaches (R273). -/
def adaptObjs : List Nat := [Obj.RING_DROPPED, Obj.ADAPT_MEAN, Obj.TPL_RESIDUAL, Obj.TPL_A2, Obj.CAL_GEN]

theorem adaptFull_objs (s : State) (host : Bool) (n : Nat) (acc : Int) : ObjsOnly adaptObjs s (adaptFull s host n acc) := by
  unfold adaptFull
  extract_lets mean v res w due x
  have hw : ObjsOnly adaptObjs s w := .setObjN (by decide) (.setObj (by decide) (.refl s))
  exact .ite (.raiseA (by decide) (.frame (State.setAdapt_frame _ _ _) (by decide) hw))
    (.frame (State.setAdapt_frame _ _ _) (by decide) (.setObj (by decide) hw))

theorem adaptAll_objs (s : State) (host : Bool) (l : List (Nat × Int × Int)) : ObjsOnly adaptObjs s (adaptAll s host l) := by
  unfold adaptAll
  extract_lets w
  have hone (u : State) (n : Nat) (rho : Int) : ObjsOnly adaptObjs u (adaptOne u host n rho) :=
    .ite (adaptFull_objs _ _ _ _) (.frame (State.setAdapt_frame _ _ _) (by decide) (.refl u))
  have hw : ObjsOnly adaptObjs s w := .foldl (fun u x => hone u _ _) (.refl s)
  refine .ite hw ?_
  unfold bumpCalGen
  exact .frame (noteUnstored_frame _) (by decide) (.setObjN (by decide) hw)

/-- The state of a commit's end once its log entry is written. -/
def doneLogged (s : State) (c : Commit) (o : Outc) : State :=
  updateLog ((atModeBoundary s 3).dropCommit c.id) c.logIndex ({ c with state := .done }.entry o ((atModeBoundary s 3).now - c.t).toNat)

/-- The state of a commit's end before it is counted. -/
def doneReleased (s : State) (c : Commit) (o : Outc) : State :=
  let d : Commit := { c with state := .done }
  let u := latchDone (doneLogged s c o) d o
  releaseGrant (if o = .locked then adaptAll u d.hostTempl (u.lessons d) else u) .commit c.id

theorem endDone_eq (s : State) (c : Commit) (o : Outc) :
    endDone s c o =
      let v := (((doneReleased s c o).incSat Obj.COMMITS_DONE 0).inc64 Obj.LIFE_COMMITS 0).capNote
        fun _ a => { a with done := c.id :: a.done }
      if o = .unlocked then raiseA v 0x2021 [.word c.id, .word ((atModeBoundary s 3).notLocked c)] else v := rfl

theorem doneReleased_frame (s : State) (c : Commit) (o : Outc) :
    Frame [.objs, .dev, .ex, .sorus, .steady, .cal, .lib, .mat] (doneLogged s c o) (doneReleased s c o) := by
  unfold doneReleased
  extract_lets d u
  have hlatch : Frame [.objs, .dev, .ex, .sorus, .steady, .cal, .lib, .mat] (doneLogged s c o) u :=
    .step (latchDone_frame _ _ _) (by decide) (.refl _)
  exact .step (releaseGrant_frame _ _ _) (by decide) (.ite (.step (adaptAll_frame _ _ _) (by decide) hlatch) hlatch)

/-- What counts a commit's end changes neither the commits nor the drive. -/
theorem endDone_counted (s : State) (c : Commit) (o : Outc) : Frame [.objs, .ex, .sorus] (doneReleased s c o) (endDone s c o) := by
  rw [endDone_eq]
  extract_lets v
  have hv : Frame [.objs, .ex, .sorus] (doneReleased s c o) v :=
    .step (State.capNote_frame _ _) (by decide) (.step (State.inc64_frame _ _ _ _) (by decide)
      (.step (State.incSat_frame _ _ _ _) (by decide) (.refl _)))
  exact .ite (.step (raiseA_frame _ _ _) (by decide) hv) hv

theorem endDone_com (s : State) (c : Commit) (o : Outc) : (endDone s c o).com = (doneLogged s c o).com :=
  ((endDone_counted s c o).com rfl).trans ((doneReleased_frame s c o).com rfl)

theorem endDone_live (s : State) (c : Commit) (o : Outc) :
    (endDone s c o).com.live = s.com.live.filter fun x => x.id ≠ c.id := by
  rw [endDone_com]
  unfold doneLogged
  rw [updateLog_live]
  have hmode := (atModeBoundary_frame s 3).com rfl
  change (atModeBoundary s 3).com.live.filter _ = _
  rw [hmode]

theorem endDone_entry {o : Outc} (h : s.inLog c = true) :
    ∃ e, mfind (endDone s c o).com.log c.logIndex = some e ∧ e.id = c.id ∧ e.slot = c.slot ∧ e.state = .done ∧ e.outcome = o := by
  rw [endDone_com]
  have hmode := (atModeBoundary_frame s 3).com rfl
  have hlog : ((atModeBoundary s 3).dropCommit c.id).com.log = s.com.log := congrArg (·.log) hmode
  refine ⟨_, updateLog_entry _ ?_, rfl, rfl, rfl, rfl⟩
  rw [hlog]
  exact h

theorem doneReleased_count (s : State) (c : Commit) (o : Outc) :
    (doneReleased s c o).objN Obj.COMMITS_DONE 0 = s.objN Obj.COMMITS_DONE 0 := by
  have hlog : ObjsOnly eventObjs s (doneLogged s c o) :=
    .step (updateLog_objs _ _ _) (by decide) (.set_com (.frame (atModeBoundary_frame s 3) (by decide) (.refl s)))
  have hdone : ObjsOnly (latchObjs ++ adaptObjs ++ steadyObjs) s (doneReleased s c o) := by
    unfold doneReleased
    extract_lets d u
    have hu : ObjsOnly (latchObjs ++ adaptObjs ++ steadyObjs) s u := .step (latchDone_objs _ _ _) (by decide) (hlog.mono (by decide))
    exact .step (releaseGrant_objs _ _ _) (by decide) (.ite (.step (adaptAll_objs _ _ _) (by decide) hu) hu)
  exact congrArg Int.toNat (hdone _ _ (by decide))

theorem endDone_count (s : State) (c : Commit) (o : Outc) :
    (endDone s c o).objN Obj.COMMITS_DONE 0 = min u32Max (s.objN Obj.COMMITS_DONE 0 + 1) := by
  have hcount : (((doneReleased s c o).incSat Obj.COMMITS_DONE 0).inc64 Obj.LIFE_COMMITS 0).objN Obj.COMMITS_DONE 0 =
      min u32Max (s.objN Obj.COMMITS_DONE 0 + 1) := by
    rw [State.objN, obj_inc64_other _ (by simp [Obj.COMMITS_DONE, Obj.LIFE_COMMITS]), ← State.objN, objN_incSat_self, doneReleased_count]
  rw [endDone_eq]
  generalize ((doneReleased s c o).incSat Obj.COMMITS_DONE 0).inc64 Obj.LIFE_COMMITS 0 = v at hcount ⊢
  dsimp only
  split
  · rw [State.objN, raiseA_obj (by decide)]
    exact hcount
  · exact hcount

/-- What the end of a commit leaves, from the state it was live in. -/
theorem endDone_ends (hc : s.findCommit id = some c) (hl : s.inLog c = true) (o : Outc) :
    (endDone s c o).findCommit id = none ∧
      (∃ e, mfind (endDone s c o).com.log c.logIndex = some e ∧ e.id = id ∧ e.slot = c.slot ∧ e.state = .done ∧ e.outcome = o) ∧
      (endDone s c o).objN Obj.COMMITS_DONE 0 = min u32Max (s.objN Obj.COMMITS_DONE 0 + 1) ∧ (endDone s c o).drv = s.drv ∧
      (endDone s c o).loops = s.loops := by
  have hid := findCommit_id hc
  have hframe := endDone_frame s c o
  refine ⟨?_, hid ▸ endDone_entry hl, endDone_count s c o, hframe.drv rfl, hframe.loops rfl⟩
  unfold State.findCommit
  rw [endDone_live, List.find?_eq_none]
  intro x hx
  have hne := (List.mem_filter.mp hx).2
  simpa [hid] using hne

theorem commitDone_ends (hc : s.findCommit id = some c) (hs : c.state = .settling) (ht : s.tick % 256 = 0) (hn : s.notLocked c = 0)
    (hl : s.inLog c = true) :
    ∃ t, exec (.commitDone id) s = .next t ∧ t.findCommit id = none ∧
      (∃ e, mfind t.com.log c.logIndex = some e ∧ e.id = id ∧ e.slot = c.slot ∧ e.state = .done ∧ e.outcome = .locked) ∧
      t.objN Obj.COMMITS_DONE 0 = min u32Max (s.objN Obj.COMMITS_DONE 0 + 1) ∧ t.drv = s.drv ∧ t.loops = s.loops := by
  have hrun : execCommitDone id s = finish s (endDone s c .locked) := by
    unfold execCommitDone
    rw [hc]
    exact congrArg (finish s) (if_pos ⟨hs, ht, hn⟩)
  exact ⟨_, hrun, endDone_ends hc hl .locked⟩

theorem settleTimeout_ends (hc : s.findCommit id = some c) (hs : c.state = .settling) (ht : s.tick % 256 = 0) (hn : s.notLocked c ≠ 0)
    (hlate : c.t + 1000 * s.obj Obj.SETTLE_TIMEOUT 0 ≤ s.now) (hl : s.inLog c = true) :
    ∃ t, exec (.settleTimeout id) s = .next t ∧ t.findCommit id = none ∧
      (∃ e, mfind t.com.log c.logIndex = some e ∧ e.id = id ∧ e.slot = c.slot ∧ e.state = .done ∧ e.outcome = .unlocked) ∧
      t.objN Obj.COMMITS_DONE 0 = min u32Max (s.objN Obj.COMMITS_DONE 0 + 1) ∧ t.drv = s.drv ∧ t.loops = s.loops := by
  have hrun : execSettleTimeout id s = finish s (endDone s c .unlocked) := by
    unfold execSettleTimeout
    rw [hc]
    exact congrArg (finish s) (if_pos ⟨hs, ht, hn, hlate⟩)
  exact ⟨_, hrun, endDone_ends hc hl .unlocked⟩

theorem commitDone_waits (hc : s.findCommit id = some c) (hn : s.notLocked c ≠ 0) :
    ∃ t, exec (.commitDone id) s = .next t ∧ Frame [.ex] s t := by
  have hrun : execCommitDone id s = finish s s := by
    unfold execCommitDone
    rw [hc]
    exact congrArg (finish s) (if_neg fun h => hn h.2.2)
  exact ⟨_, hrun, frame_sealed (.refl s) (by decide)⟩

/-! ### With no lobe ACTIVE (R325) -/

theorem commitT_unattended (h : s.active = none) : ∃ t, exec (.commitT id) s = .next t ∧ Frame [.ex] s t := by
  have hrun : execCommitT id s = finish s s := by
    unfold execCommitT
    split
    · refine congrArg (finish s) (if_neg fun hw => ?_)
      rw [h] at hw
      exact Bool.false_ne_true hw.2.2
    · rfl
  exact ⟨_, hrun, frame_sealed (.refl s) (by decide)⟩

theorem waveStart_unattended (w : Nat) (h : s.active = none) : ∃ t, exec (.waveStart id w) s = .next t ∧ Frame [.ex] s t := by
  have hrun : execWaveStart id w s = finish s s := by
    unfold execWaveStart
    split
    · refine congrArg (finish s) (if_neg fun hw => ?_)
      rw [h] at hw
      exact Bool.false_ne_true hw.2.1
    · rfl
  exact ⟨_, hrun, frame_sealed (.refl s) (by decide)⟩

/-! ### Waves (R120, R121) -/

theorem advanceTemplate_began (s : State) (e : Nat) (x : StagedElem) (n : Nat) :
    (advanceTemplate s e { x with began := some n }).2.began = some n := by
  unfold advanceTemplate
  dsimp only
  split <;> rfl

theorem mfind_append_none {α : Type} {m : SMap α} {k : Nat} (h : mfind m k = none) (q : SMap α) : mfind (m ++ q) k = mfind q k := by
  induction m with
  | nil => rfl
  | cons p t ih =>
    obtain ⟨a, x⟩ := p
    by_cases ha : a = k
    · simp [mfind, ha] at h
    · rw [mfind, if_neg ha] at h
      rw [List.cons_append, mfind, if_neg ha, ih h]

theorem mfind_append_some {α : Type} {m : SMap α} {k : Nat} {x : α} (h : mfind m k = some x) (q : SMap α) :
    mfind (m ++ q) k = some x := by
  induction m with
  | nil => cases h
  | cons p t ih =>
    obtain ⟨a, y⟩ := p
    by_cases ha : a = k
    · simpa [mfind, ha] using h
    · rw [mfind, if_neg ha] at h
      rw [List.cons_append, mfind, if_neg ha, ih h]

/-- One element in the start of a wave, as `startWave` folds them. -/
def waveStep (w : Nat) (p : State × SMap StagedElem) (q : Nat × StagedElem) : State × SMap StagedElem :=
  if q.2.wave = some w then
    let (s, x) := advanceTemplate p.1 q.1 { q.2 with began := some p.1.tick }
    (s, p.2 ++ [(q.1, x)])
  else (p.1, p.2 ++ [q])

theorem startWave_eq (s : State) (c : Commit) (w : Nat) :
    startWave s c w = ((c.elems.foldl (waveStep w) (s, [])).1, { c with elems := (c.elems.foldl (waveStep w) (s, [])).2, nextWave := w + 1 }) :=
  rfl

/-- One element more of a wave: the entry it adds, and the tick it was taken at. -/
theorem waveStep_adds (w : Nat) (u : State) (m : SMap StagedElem) (q : Nat × StagedElem) :
    (waveStep w (u, m) q).1.tick = u.tick ∧ ∃ y, (waveStep w (u, m) q).2 = m ++ [(q.1, y)] ∧
      (q.2.wave = some w → y.began = some u.tick) ∧ (q.2.wave ≠ some w → y = q.2) := by
  by_cases hw : q.2.wave = some w
  · have hrun : waveStep w (u, m) q = ((advanceTemplate u q.1 { q.2 with began := some u.tick }).1,
        m ++ [(q.1, (advanceTemplate u q.1 { q.2 with began := some u.tick }).2)]) := if_pos hw
    rw [hrun]
    exact ⟨(Frame.of1 (advanceTemplate_frame _ _ _)).tick rfl, _, rfl, fun _ => advanceTemplate_began _ _ _ _, fun h => absurd hw h⟩
  · have hrun : waveStep w (u, m) q = (u, m ++ [q]) := if_neg hw
    rw [hrun]
    exact ⟨rfl, q.2, rfl, fun h => absurd h hw, fun _ => rfl⟩

theorem waveStep_keeps (w : Nat) (l : SMap StagedElem) (u : State) {m : SMap StagedElem} {e : Nat} {y : StagedElem}
    (h : mfind m e = some y) : mfind (l.foldl (waveStep w) (u, m)).2 e = some y := by
  induction l generalizing u m with
  | nil => exact h
  | cons q l ih =>
    obtain ⟨-, z, hz, -⟩ := waveStep_adds w u m q
    have hnext : mfind (waveStep w (u, m) q).2 e = some y := by rw [hz, mfind_append_some h]
    exact ih (waveStep w (u, m) q).1 hnext

theorem waveStep_elems (w : Nat) (l : SMap StagedElem) (u : State) {m : SMap StagedElem} {e : Nat} {x : StagedElem}
    (hm : mfind m e = none) (h : mfind l e = some x) :
    (x.wave = some w → ∃ y, mfind (l.foldl (waveStep w) (u, m)).2 e = some y ∧ y.began = some u.tick) ∧
      (x.wave ≠ some w → mfind (l.foldl (waveStep w) (u, m)).2 e = some x) := by
  induction l generalizing u m with
  | nil => cases h
  | cons q l ih =>
    obtain ⟨htick, z, hz, hbegan, hsame⟩ := waveStep_adds w u m q
    have hnew : mfind (waveStep w (u, m) q).2 e = mfind [(q.1, z)] e := by rw [hz, mfind_append_none hm]
    obtain ⟨a, y⟩ := q
    by_cases ha : a = e
    · have hy : y = x := by simpa [mfind, ha] using h
      have hfound : mfind (waveStep w (u, m) (a, y)).2 e = some z := by simpa [mfind, ha] using hnew
      have hkept := waveStep_keeps w l (waveStep w (u, m) (a, y)).1 hfound
      subst hy
      exact ⟨fun hw => ⟨z, hkept, hbegan hw⟩, fun hw => hkept.trans (congrArg some (hsame hw))⟩
    · have hrest : mfind l e = some x := by simpa [mfind, ha] using h
      have hnone : mfind (waveStep w (u, m) (a, y)).2 e = none := by simpa [mfind, ha] using hnew
      have hnext := ih (waveStep w (u, m) (a, y)).1 hnone hrest
      rw [htick] at hnext
      exact hnext

theorem waveStart_begins {w : Nat} (hc : s.findCommit id = some c) (ha : c.state = .applying) (hw : w = c.nextWave) (hl : w < c.waves)
    (ht : c.tTick + w * c.spacing ≤ s.tick) (hs : s.active.isSome = true) :
    ∃ t d, exec (.waveStart id w) s = .next t ∧ t.findCommit id = some d ∧ d.nextWave = w + 1 ∧
      (∀ e x, mfind c.elems e = some x → x.wave = some w → ∃ y, mfind d.elems e = some y ∧ y.began = some s.tick) ∧
      (∀ e x, mfind c.elems e = some x → x.wave ≠ some w → mfind d.elems e = some x) := by
  have hrun : execWaveStart id w s = finish s ((startWave s c w).1.putCommit (startWave s c w).2) := by
    unfold execWaveStart
    rw [hc]
    exact congrArg (finish s) (if_pos ⟨ha, hs, hw, hl, ht⟩)
  have hid : c.id = id := findCommit_id hc
  have hcom := (Frame.of1 (startWave_frame s c w)).com rfl
  have hput := findCommit_putCommit (d := (startWave s c w).2) ((findCommit_of_com (congrArg (·.live) hcom) id).trans hc) hid
  refine ⟨_, _, hrun, hput, rfl, fun e x hx hw => ?_, fun e x hx hw => ?_⟩
  · exact (waveStep_elems w c.elems s rfl hx).1 hw
  · exact (waveStep_elems w c.elems s rfl hx).2 hw

/-! ### The end of a template (R121) -/

theorem templatePhaseEnd_ends {e b : Nat} {x : StagedElem} (hc : s.findCommit id = some c) (hx : mfind c.elems e = some x)
    (hb : x.began = some b) (hp : x.templPhase < 3) (hd : x.d1 + x.d2 ≤ s.tick - b) (hg : s.gateOpen (bankOf (armA e)) = true)
    (he : e < 40960) (hr : s.dev.refclkLost = false) (hh : (s.bank (bankOf (armA e))).hold ≠ .holding)
    (hw : s.holdsWrites (armA e) = false) (hcode : x.codeA ≤ 16383) (hs : s.active.isSome = true) :
    ∃ t d y, exec (.templatePhaseEnd id e) s = .next t ∧ t.findCommit id = some d ∧ mfind d.elems e = some y ∧
      y.templPhase = 3 ∧ (t.chan (armA e)).out = x.codeA ∧ t.loops = s.loops := by
  have hphase : x.phaseAt (s.tick - b) = 3 := by
    unfold StagedElem.phaseAt
    rw [if_neg (by omega), if_neg (by omega)]
  have hadv : advanceTemplate s e x = (writePhase s e x 3, { x with templPhase := 3 }) := by
    unfold advanceTemplate
    rw [hb]
    dsimp only
    rw [hphase, if_pos hp]
  obtain ⟨d, hdef⟩ : ∃ d : Commit, { c with elems := mset c.elems e { x with templPhase := 3 } } = d := ⟨_, rfl⟩
  have hrun : execTemplatePhaseEnd id e s = finish s ((writePhase s e x 3).putCommit d) := by
    unfold execTemplatePhaseEnd
    simp only [hc, hx, hs, if_true, hadv, hdef]
  have hframe := writePhase_frame s e x 3
  have hid : d.id = id := by
    rw [← hdef]
    exact (findCommit_id hc :)
  have hput := findCommit_putCommit ((findCommit_of_com (congrArg (·.live) (hframe.com rfl)) id).trans hc) hid
  refine ⟨_, d, { x with templPhase := 3 }, hrun, hput, ?_, rfl, ?_, hframe.loops rfl⟩
  · rw [← hdef]
    exact mfind_mset_self _ _ _
  · have harm : armA e ≠ armB e := by
      unfold armA armB
      omega
    have hmax : x.codeA ≤ maxCode (armA e) := by
      unfold maxCode armA
      rw [if_pos (by omega)]
      exact hcode
    have hout : ((writePhase s e x 3).chan (armA e)).out = x.codeA := by
      unfold writePhase
      exact (congrArg Chan.out (chan_writeDirect_other _ _ harm)).trans (chan_writeDirect hg hr hh hw hmax)
    exact hout

/-! ### The applied mapping (R70, R123) -/

theorem objDefault_appliedDest (i : Nat) : objDefault Obj.APPLIED_DEST i = 0xFFFF := by
  have h : (objDef Obj.APPLIED_DEST).map (·.dflt) = some (.num 0xFFFF) := by decide
  unfold objDefault
  cases hd : objDef Obj.APPLIED_DEST with
  | none =>
    rw [hd] at h
    cases h
  | some d =>
    rw [hd] at h
    have hdflt : d.dflt = .num 0xFFFF := by simpa using h
    simp only [hdflt]

/-- What a mapping lists at a place: its value there, unless it is none. -/
def listed (g : Nat → Nat) (i : Nat) : Option (Nat × Int) := if g i = 0xFFFF then none else some (i, (g i : Int))

theorem mfind_listed_cons (g : Nat → Nat) (a k : Nat) (t : List Nat) :
    mfind ((a :: t).filterMap (listed g)) k =
      if g a ≠ 0xFFFF ∧ a = k then some (g a : Int) else mfind (t.filterMap (listed g)) k := by
  by_cases ha : g a = 0xFFFF
  · rw [List.filterMap_cons_none (show listed g a = none from if_pos ha), if_neg fun h => h.1 ha]
  · rw [List.filterMap_cons_some (show listed g a = some (a, (g a : Int)) from if_neg ha), mfind]
    by_cases hk : a = k
    · rw [if_pos hk, if_pos ⟨ha, hk⟩]
    · rw [if_neg hk, if_neg fun h => hk h.2]

/-- The listed places of a mapping are those that carry a value. -/
theorem mfind_listed (g : Nat → Nat) (l : List Nat) {k : Nat} (hk : k ∈ l) :
    mfind (l.filterMap (listed g)) k = if g k = 0xFFFF then none else some (g k : Int) := by
  by_cases h : g k = 0xFFFF
  · rw [if_pos h]
    clear hk
    induction l with
    | nil => rfl
    | cons a t ih => rw [mfind_listed_cons, if_neg fun hw => hw.1 (hw.2 ▸ h), ih]
  · rw [if_neg h]
    induction l with
    | nil => cases hk
    | cons a t ih =>
      rw [mfind_listed_cons]
      by_cases hak : a = k
      · rw [hak, if_pos ⟨h, rfl⟩]
      · rw [if_neg fun hw => hak hw.2, ih ((List.mem_cons.mp hk).resolve_left fun e => hak e.symm)]

/-- An output reads its input of the map in force. -/
theorem applyMapping_dest (s : State) (slot : Nat) (portMap routes : List Nat) {i : Nat} (hi : i < 1024) :
    (applyMapping s slot portMap routes).objN Obj.APPLIED_DEST i = portMap.getD i 0xFFFF := by
  have hlist := mfind_listed (fun i => portMap.getD i 0xFFFF) (List.range 1024) (List.mem_range.mpr hi)
  unfold applyMapping
  extract_lets dest src rt objs
  have hdest : mfind2 objs Obj.APPLIED_DEST i = mfind dest i := by
    unfold mfind2
    rw [mfind_mset_other _ _ (by decide), mfind_mset_other _ _ (by decide), mfind_mset_self, Option.bind_some]
  rw [State.objN, State.setObjN, obj_setObj_other _ (by simp [Obj.APPLIED_DEST, Obj.APPLIED_SLOT])]
  have hobj : ({ s with objs := objs } : State).obj Obj.APPLIED_DEST i = (mfind dest i).getD (objDefault Obj.APPLIED_DEST i) := by
    unfold State.obj
    rw [hdest]
  have hentry : mfind dest i = _ := hlist
  rw [hobj, hentry, objDefault_appliedDest]
  by_cases h : portMap.getD i 0xFFFF = 0xFFFF
  · rw [if_pos h, h]
    rfl
  · rw [if_neg h]
    rfl

theorem applyMapping_slot (s : State) (slot : Nat) (portMap routes : List Nat) :
    (applyMapping s slot portMap routes).obj Obj.APPLIED_SLOT 0 = slot := by
  unfold applyMapping
  exact obj_setObjN _ _ _ _

/-! ### T (R120) -/

/-- A commit that is none of those that end stays live. -/
theorem endDone_findCommit_other (o : Outc) (h : s.findCommit id = some c) (hd : d.id ≠ id) :
    (endDone s d o).findCommit id = some c := by
  unfold State.findCommit
  rw [endDone_live, List.find?_filter, ← h]
  refine congrArg (fun p => s.com.live.find? p) (funext fun x => ?_)
  by_cases hx : x.id = id
  · have hne : x.id ≠ d.id := fun e => hd (e.symm.trans hx)
    simp [hx, hx ▸ hne]
  · simp [hx]

theorem endDone_tick (s : State) (c : Commit) (o : Outc) : (endDone s c o).tick = s.tick := (endDone_frame s c o).tick rfl

theorem supersede_findCommit (l : List Commit) (h : s.findCommit id = some c) (hl : ∀ d ∈ l, d.id ≠ id) :
    (l.foldl (fun s d => endDone s d .superseded) s).findCommit id = some c := by
  induction l generalizing s with
  | nil => exact h
  | cons d l ih =>
    exact ih (endDone_findCommit_other .superseded h (hl d List.mem_cons_self)) fun x hx => hl x (List.mem_cons_of_mem _ hx)

/-- What the end of the commits still moving leaves of an ARMED one and of the device. -/
theorem supersedeMoving_keeps (h : s.findCommit id = some c) (ha : ∀ d ∈ s.com.live, d.id = id → d.state = .armed) :
    (supersedeMoving s).findCommit id = some c ∧ Held s (supersedeMoving s) := by
  unfold supersedeMoving
  extract_lets u
  have hframe : Frame [.lobes, .drv] s u :=
    .foldl (fun t d => .step (finishCodes_frame t d) (by decide) (.refl t)) (.refl s)
  have hcom := hframe.com rfl
  refine ⟨supersede_findCommit _ ((findCommit_of_com (congrArg (·.live) hcom) id).trans h) fun d hd he => ?_, ?_⟩
  · rw [hcom] at hd
    obtain ⟨hmem, hmoving⟩ := List.mem_filter.mp hd
    rw [ha d hmem he] at hmoving
    exact Bool.false_ne_true hmoving
  · exact .foldl (fun t d => endDone_held t d .superseded) (.frame hframe (by decide) (.refl s))

/-- The device as a commit begins to apply: SERVICE where it was PARKED (R106). -/
def enterService (s : State) : State := if s.dev.state = .parked then s.enter .service else s

theorem enterService_frame (s : State) : Frame [.objs, .dev, .ex, .sorus] s (enterService s) :=
  .ite (State.enter_frame s .service) (.refl s)

theorem enterService_state (h : s.dev.state = .parked) : (enterService s).dev.state = .service := by
  unfold enterService
  rw [if_pos h]
  unfold State.enter
  rw [raiseA_dev]

/-- A commit as T takes it. -/
def takenAtT (s : State) (c : Commit) : Commit :=
  { c with state := .applying, tTick := s.tick, flags := c.flags ||| (if s.time.servo = .holdover then 4 else 0 : Nat) }

/-- The mapping of a commit in force. -/
def mappedAtT (s : State) (c : Commit) : State :=
  let d := takenAtT s c
  applyMapping (({ s with com := { s.com with appliedSerial := c.serial } } : State).stepCommit d) d.slot d.portMap d.routes

/-- The state and the commit of T with its VOAs and elements taken and wave 0 begun. -/
def begunAtT (s : State) (c : Commit) : State × Commit :=
  let p := elemsAtT ((takenAtT s c).voas.foldl (fun s v => voaAtT s v.1 v.2) (mappedAtT s c)) (takenAtT s c)
  startWave p.1 p.2 0

theorem applyCommit_eq (s : State) (c : Commit) :
    applyCommit s c =
      let p := begunAtT (enterService (supersedeMoving s)) c
      (trigSource (abortPinTest (abortCalByCommit (p.1.putCommit p.2) p.2)) 17).capNote
        fun _ a => { a with commitT := (p.2.id, p.2.t) :: a.commitT } := rfl

theorem begunAtT_commit (s : State) (c : Commit) :
    (begunAtT s c).2.id = c.id ∧ (begunAtT s c).2.state = .applying ∧ (begunAtT s c).2.nextWave = 1 ∧ (begunAtT s c).2.tTick = s.tick :=
  ⟨rfl, rfl, rfl, rfl⟩

theorem begunAtT_frame (s : State) (c : Commit) : Frame [.objs, .lobes, .drv, .loops, .sorus] (mappedAtT s c) (begunAtT s c).1 := by
  unfold begunAtT
  extract_lets p
  have hvoas : Frame [.objs, .lobes, .drv, .loops, .sorus] (mappedAtT s c)
      ((takenAtT s c).voas.foldl (fun s v => voaAtT s v.1 v.2) (mappedAtT s c)) :=
    .foldl (fun t v => .step (voaAtT_frame _ _ _) (by decide) (.refl t)) (.refl _)
  have hp : Frame [.objs, .lobes, .drv, .loops, .sorus] (mappedAtT s c) p.1 :=
    .step (Frame.of1 (elemsAtT_frame _ _)) (by decide) hvoas
  exact .step (Frame.of1 (startWave_frame _ _ _)) (by decide) hp

theorem mappedAtT_frame (s : State) (c : Commit) : Frame [.objs, .ex, .sorus, .com] s (mappedAtT s c) := by
  unfold mappedAtT
  extract_lets d
  exact .step (applyMapping_frame _ _ _ _) (by decide) (.step (State.stepCommit_frame _ _) (by decide) (.set_com (by decide) (.refl s)))

theorem mappedAtT_findCommit (h : s.findCommit id = some c) : (mappedAtT s c).findCommit id = some (takenAtT s c) := by
  have hid : (takenAtT s c).id = id := (findCommit_id h :)
  have hstep := findCommit_stepCommit (s := ({ s with com := { s.com with appliedSerial := c.serial } } : State)) h hid
  unfold mappedAtT
  extract_lets d
  have hcom := (applyMapping_frame (({ s with com := { s.com with appliedSerial := c.serial } } : State).stepCommit d) d.slot d.portMap
    d.routes).com rfl
  rw [findCommit_of_com (congrArg (·.live) hcom)]
  exact hstep

/-- The objects that T writes after the mapping. -/
def beginObjs : List Nat := [Obj.RING_DROPPED, Obj.VOA_TARGET, Obj.VOA_SOURCE, Obj.SETPOINT, Obj.PIN_TEST_STATUS] ++ returnObjs ++ calEndObjs

theorem voaAtT_objs (s : State) (o : Nat) (x : StagedVoa) : ObjsOnly beginObjs s (voaAtT s o x) := by
  unfold voaAtT
  extract_lets v w u r
  have hu : ObjsOnly beginObjs s u := .setObjN (by decide) (.setObj (by decide) (.refl s))
  have hr : ObjsOnly beginObjs s r :=
    .frame (voaRetarget_frame _ _) (by decide) (.frame (State.setVoa_frame _ _ _) (by decide) hu)
  exact .ite hr (.frame (writeTarget_frame _ _ _) (by decide) hr)

theorem elemsAtT_objs (s : State) (c : Commit) : ObjsOnly beginObjs s (elemsAtT s c).1 := by
  unfold elemsAtT
  extract_lets done u
  refine .foldl (fun t p => ?_) (.refl s)
  extract_lets looped v
  have hv : ObjsOnly beginObjs t v := .frame (State.setElem_frame _ _ _) (by decide) (.refl t)
  exact .ite (.frame (noteRatio_frame _ _) (by decide) (.setObj (by decide) hv)) hv

theorem begunAtT_objs (s : State) (c : Commit) : ObjsOnly beginObjs (mappedAtT s c) (begunAtT s c).1 := by
  unfold begunAtT
  extract_lets p
  have hvoas : ObjsOnly beginObjs (mappedAtT s c) ((takenAtT s c).voas.foldl (fun s v => voaAtT s v.1 v.2) (mappedAtT s c)) :=
    .foldl (fun t v => voaAtT_objs t _ _) (.refl _)
  exact .frame (Frame.of1 (startWave_frame _ _ _)) (by decide) (hvoas.trans (elemsAtT_objs _ _))

theorem restoreCodes_drives (s : State) (saved : List (Nat × Nat)) : Frame [.lobes, .drv] s (restoreCodes s saved) := by
  unfold restoreCodes
  exact .foldl (fun t c => .ite (.step (writeDirect_frame _ _ _) (by decide) (.refl t)) (.step (writeTarget_frame _ _ _) (by decide)
    (.refl t))) (.refl s)

theorem abortCal_objs (s : State) (reason : Nat) : ObjsOnly beginObjs s (abortCal s reason) := by
  unfold abortCal
  split
  · exact .refl s
  next r _ =>
    refine .ite (.refl s) ?_
    extract_lets u v
    have hu : ObjsOnly beginObjs s u := .frame (returnBack_frame _ _) (by decide) ((returnLanes_objs s r).mono (by decide))
    have hv : ObjsOnly beginObjs s v := .ite (.frame (restoreCodes_drives _ _) (by decide) hu) hu
    exact .step (endCal_objs _ _ _ _ _) (by decide) hv

theorem abortCalByCommit_objs (s : State) (c : Commit) : ObjsOnly beginObjs s (abortCalByCommit s c) := by
  unfold abortCalByCommit
  split
  · exact .ite (.frame (restoreCodes_drives _ _) (by decide) (abortCal_objs s 1)) (.refl s)
  · exact .refl s

theorem abortPinTest_objs (s : State) : ObjsOnly beginObjs s (abortPinTest s) := by
  unfold abortPinTest
  split
  · unfold endPinTest
    exact .raiseA (by decide) (.setObjN (by decide) (.frame (.set_fab (m := [.fab]) (by decide) (.refl s)) (by decide) (.refl s)))
  · exact .refl s

/-- What T aborts, after the commit is written back, changes no commit. -/
theorem applyCommit_aborts (s : State) (c : Commit) :
    let p := begunAtT (enterService (supersedeMoving s)) c
    (applyCommit s c).com = (p.1.putCommit p.2).com ∧ Held p.1 (applyCommit s c) ∧ ObjsOnly beginObjs p.1 (applyCommit s c) := by
  rw [applyCommit_eq]
  extract_lets p
  have hcal := abortCalByCommit_frame (p.1.putCommit p.2) p.2
  have hcalHeld := abortCalByCommit_held (p.1.putCommit p.2) p.2
  have hcalObjs := abortCalByCommit_objs (p.1.putCommit p.2) p.2
  generalize abortCalByCommit (p.1.putCommit p.2) p.2 = u at hcal hcalHeld hcalObjs ⊢
  have hend : Frame [.objs, .ex, .sorus, .fab] u ((trigSource (abortPinTest u) 17).capNote
      fun _ a => { a with commitT := (p.2.id, p.2.t) :: a.commitT }) :=
    .step (State.capNote_frame _ _) (by decide) (.step (trigSource_frame _ _) (by decide) (.step (abortPinTest_frame u) (by decide) (.refl u)))
  refine ⟨(hend.com rfl).trans (hcal.com rfl), ?_, ?_⟩
  · exact .frame hend (by decide) (.step hcalHeld (.frame (State.putCommit_frame _ _) (by decide) (.refl _)))
  · refine .frame (State.capNote_frame _ _) (by decide) (.frame (trigSource_frame _ _) (by decide) ?_)
    exact .step (abortPinTest_objs u) (fun _ h => h) (.trans (.frame (State.putCommit_frame _ _) (by decide) (.refl _)) hcalObjs)

theorem commitT_applies (hc : s.findCommit id = some c) (ha : c.state = .armed) (ht : s.atT c.t = true) (hs : s.active.isSome = true)
    (hl : ∀ d ∈ s.com.live, d.id = id → d.state = .armed) :
    ∃ t d, exec (.commitT id) s = .next t ∧ t.findCommit id = some d ∧ d.state = .applying ∧ d.nextWave = 1 ∧
      d.tTick = s.tick ∧ t.obj Obj.APPLIED_SLOT 0 = c.slot ∧
      (∀ i < 1024, t.objN Obj.APPLIED_DEST i = c.portMap.getD i 0xFFFF) ∧ (s.dev.state = .parked → t.dev.state = .service) := by
  have hrun : execCommitT id s = finish s (applyCommit s c) := by
    unfold execCommitT
    rw [hc]
    exact congrArg (finish s) (if_pos ⟨ha, ht, hs⟩)
  obtain ⟨hlive, hheld⟩ := supersedeMoving_keeps hc hl
  have htick : (enterService (supersedeMoving s)).tick = s.tick :=
    ((enterService_frame _).tick rfl).trans ((supersedeMoving_frame s).tick rfl)
  have hservice : s.dev.state = .parked → (enterService (supersedeMoving s)).dev.state = .service := fun hp =>
    enterService_state (hheld.state.trans hp)
  have hfound : (enterService (supersedeMoving s)).findCommit id = some c :=
    (findCommit_of_com (congrArg (·.live) ((enterService_frame _).com rfl)) id).trans hlive
  obtain ⟨hcom, hdev, hobjs⟩ := applyCommit_aborts s c
  generalize enterService (supersedeMoving s) = u at htick hservice hfound hcom hdev hobjs
  have hmapped := mappedAtT_findCommit hfound
  have hframe := begunAtT_frame u c
  obtain ⟨hid, hstate, hwave, htT⟩ := begunAtT_commit u c
  have hput : ((begunAtT u c).1.putCommit (begunAtT u c).2).findCommit id = some (begunAtT u c).2 :=
    findCommit_putCommit ((findCommit_of_com (congrArg (·.live) (hframe.com rfl)) id).trans hmapped) (hid.trans (findCommit_id hc))
  have hall := (begunAtT_objs u c).trans hobjs
  refine ⟨_, (begunAtT u c).2, hrun, ?_, hstate, hwave, htT.trans htick, ?_, fun i hi => ?_, fun hp => ?_⟩
  · exact (findCommit_of_com (congrArg (·.live) hcom) id).trans hput
  · exact (hall _ _ (by decide)).trans (applyMapping_slot _ _ _ _)
  · exact (congrArg Int.toNat (hall Obj.APPLIED_DEST i (by decide))).trans (applyMapping_dest _ _ _ _ hi)
  · have hsame := (hframe.dev rfl).trans ((mappedAtT_frame u c).dev rfl)
    exact hdev.state.trans ((congrArg Device.state hsame).trans (hservice hp))

end

/-- Settles O34: T, the waves, the templates and the end of a commit, each by what its operation writes back. -/
theorem commitsAppliedAndDone : Obligations.CommitsAppliedAndDone := by
  unfold Obligations.CommitsAppliedAndDone
  exact ⟨fun _ _ _ => commitT_applies, fun _ _ _ _ => waveStart_begins, fun _ _ _ _ _ _ => templatePhaseEnd_ends,
    fun _ _ _ => applyingEnd_settles, fun _ _ _ => commitDone_ends, fun _ _ _ => settleTimeout_ends,
    fun _ _ _ hc _ hn => commitDone_waits hc hn, fun _ w _ h => ⟨commitT_unattended h, waveStart_unattended w h⟩⟩

end Sys2Proof.Proofs

/-!
SUPPORT. The proofs of the slew limiter and the deglitcher (spec/07_drive.md, The slew limiter, Privileged channels and the deglitcher).
-/

namespace Sys2Proof.Proofs

open Sys2Proof Sys2Proof.Machine Sys2Proof.Laws

section

variable {s t : State} {u n old k : Nat}

/-! ### Period boundaries (R197, R198) -/

theorem setChan_frame (s : State) (u : Nat) (c : Chan) : Frame [.drv] s (s.setChan u c) := .set_drv (by decide) (.refl s)

theorem slewBoundary_frame_drv (s : State) (u : Nat) : Frame [.drv] s (slewBoundary s u) := setChan_frame s u _

/-- A period boundary writes the channel of its limiter alone. -/
theorem slewBoundary_other (s : State) {u v : Nat} (h : v ≠ u) : (slewBoundary s u).chan v = s.chan v := chan_setChan_other s _ h

/-- The target that a boundary takes: the newest of an earlier tick. -/
def boundaryGoal (s : State) (u : Nat) : Nat := if (s.chan u).accepted < s.tick then (s.chan u).target else (s.chan u).taken

/-- The output a boundary leaves. -/
def boundaryOut (s : State) (u : Nat) : Nat := limiterStep (s.chan u).out (s.objN Obj.SLEW_STEP u) (boundaryGoal s u)

theorem slewBoundary_chan (s : State) (u : Nat) :
    (slewBoundary s u).chan u =
      { s.chan u with
        out := boundaryOut s u, taken := boundaryGoal s u
        reached := decide (boundaryOut s u = (s.chan u).target) && ((s.chan u).reached || decide ((s.chan u).accepted < s.tick))
        held := if chanKind u = 2 ∧ boundaryOut s u ≠ (s.chan u).out then
          some (s.outCode u, s.tick + 1 + s.objN Obj.DEGLITCH (u - 123904)) else (s.chan u).held
        changed := if boundaryOut s u = (s.chan u).out then (s.chan u).changed else s.tick } :=
  chan_setChan s u _

theorem slewPeriodBoundary_moves (ha : s.limiterActs u = true) (hold : (s.chan u).accepted < s.tick) :
    ∃ t, exec (.slewPeriodBoundary u) s = .next t ∧
      (t.chan u).out = (if (s.chan u).out < (s.chan u).target
        then min ((s.chan u).out + s.objN Obj.SLEW_STEP u) (s.chan u).target
        else max ((s.chan u).out - s.objN Obj.SLEW_STEP u) (s.chan u).target) ∧
      (t.chan u).target = (s.chan u).target ∧ (t.chan u).reached = decide ((t.chan u).out = (s.chan u).target) ∧
      (chanKind u = 2 → (t.chan u).out ≠ (s.chan u).out →
        (t.chan u).held = some (s.outCode u, s.tick + 1 + s.objN Obj.DEGLITCH (u - 123904))) ∧
      (∀ v, v ≠ u → t.chan v = s.chan v) ∧ Frame [.ex, .drv] s t := by
  have hrun : execSlewPeriodBoundary u s = finish s (slewBoundary s u) := congrArg (finish s) (if_pos ha)
  have hchan := slewBoundary_chan s u
  have hgoal : boundaryGoal s u = (s.chan u).target := if_pos hold
  have hout : boundaryOut s u = limiterStep (s.chan u).out (s.objN Obj.SLEW_STEP u) (s.chan u).target := by rw [boundaryOut, hgoal]
  have hsealed : (sealed s (slewBoundary s u)).chan u = (slewBoundary s u).chan u := rfl
  refine ⟨_, hrun, ?_, ?_, ?_, fun hk hne => ?_, fun v hv => slewBoundary_other s hv, ?_⟩
  · rw [hsealed, hchan]
    exact hout
  · rw [hsealed, hchan]
  · rw [hsealed, hchan]
    simp only [hold, decide_true, Bool.or_true, Bool.and_true]
  · rw [hsealed, hchan] at hne ⊢
    exact if_pos ⟨hk, hne⟩
  · exact frame_sealed ((slewBoundary_frame_drv s u).mono (by decide)) (by decide)

theorem slewPeriodBoundary_newest (ha : s.limiterActs u = true) (hold : s.tick ≤ (s.chan u).accepted) :
    ∃ t, exec (.slewPeriodBoundary u) s = .next t ∧
      (t.chan u).out = limiterStep (s.chan u).out (s.objN Obj.SLEW_STEP u) (s.chan u).taken ∧
      (t.chan u).target = (s.chan u).target := by
  have hrun : execSlewPeriodBoundary u s = finish s (slewBoundary s u) := congrArg (finish s) (if_pos ha)
  have hchan := slewBoundary_chan s u
  have hgoal : boundaryGoal s u = (s.chan u).taken := if_neg (Nat.not_lt.mpr hold)
  have hsealed : (sealed s (slewBoundary s u)).chan u = (slewBoundary s u).chan u := rfl
  refine ⟨_, hrun, ?_, ?_⟩
  · rw [hsealed, hchan, ← hgoal]
    rfl
  · rw [hsealed, hchan]

theorem slewPeriodBoundary_rests (ha : s.limiterActs u = false) :
    ∃ t, exec (.slewPeriodBoundary u) s = .next t ∧ Frame [.ex] s t := by
  have hrun : execSlewPeriodBoundary u s = finish s s := congrArg (finish s) (if_neg (by rw [ha]; exact Bool.false_ne_true))
  exact ⟨_, hrun, frame_sealed (.refl s) (by decide)⟩

/-! ### The deglitcher (R203) -/

theorem chanKind_privileged (n : Nat) : chanKind (123904 + n) = 2 := by
  unfold chanKind
  rw [if_neg (by omega), if_neg (by omega)]

theorem genOf_of_gens (h : t.drv.gens = s.drv.gens) (u : Nat) : t.genOf u = s.genOf u := by
  unfold State.genOf
  rw [h]

/-- A channel that nothing else moves reads its limiter's output. -/
theorem sumAt_limiter (hm : (s.chan u).motion = none) (hg : s.genOf u = none) (k : Nat) : s.sumAt u k = (s.chan u).out := by
  simp only [State.sumAt, hg, State.limiterAt, hm]

theorem deglitchEnd_closes (hh : (s.chan (123904 + n)).held = some (old, k)) (hk : k ≤ s.tick) (hn : n < 64)
    (hb : (s.bank (bankOf (123904 + n))).hold ≠ .holding) :
    ∃ t, exec (.deglitchEnd n) s = .next t ∧ (t.chan (123904 + n)).held = none ∧
      ((s.chan (123904 + n)).motion = none → s.genOf (123904 + n) = none →
        t.outCode (123904 + n) = (s.chan (123904 + n)).out) ∧ (∀ v, v ≠ 123904 + n → t.chan v = s.chan v) ∧ Frame [.ex, .drv] s t := by
  have hkind := chanKind_privileged n
  generalize hu : 123904 + n = u at hh hb hkind ⊢
  have hrun : execDeglitchEnd n s = finish s (s.setChan u { s.chan u with held := none, changed := s.tick }) := by
    unfold execDeglitchEnd
    rw [hu]
    simp only [hh]
    exact congrArg (finish s) (if_pos ⟨hk, hn, hb⟩)
  have hchan : (sealed s (s.setChan u { s.chan u with held := none, changed := s.tick })).chan u =
      { s.chan u with held := none, changed := s.tick } := chan_setChan s u _
  have hgens : (sealed s (s.setChan u { s.chan u with held := none, changed := s.tick })).drv.gens = s.drv.gens := rfl
  have hother : ∀ v, v ≠ u → (sealed s (s.setChan u { s.chan u with held := none, changed := s.tick })).chan v = s.chan v :=
    fun v hv => chan_setChan_other s _ hv
  have hframe : Frame [.ex, .drv] s (sealed s (s.setChan u { s.chan u with held := none, changed := s.tick })) :=
    frame_sealed ((setChan_frame s u _).mono (by decide)) (by decide)
  refine ⟨_, hrun, by rw [hchan], fun hm hg => ?_, hother, hframe⟩
  generalize sealed s (s.setChan u { s.chan u with held := none, changed := s.tick }) = t at hchan hgens
  unfold State.outCode
  simp only [hchan, hkind, if_true]
  rw [sumAt_limiter (by rw [hchan]; exact hm) ((genOf_of_gens hgens u).trans hg), hchan]

theorem deglitchEnd_waits (hh : (s.chan (123904 + n)).held = some (old, k)) (hk : s.tick < k) :
    ∃ t, exec (.deglitchEnd n) s = .next t ∧ t.outCode (123904 + n) = old ∧ Frame [.ex] s t := by
  have hrun : execDeglitchEnd n s = finish s s := by
    unfold execDeglitchEnd
    simp only [hh]
    exact congrArg (finish s) (if_neg fun h => absurd h.1 (Nat.not_le.mpr hk))
  refine ⟨_, hrun, ?_, frame_sealed (.refl s) (by decide)⟩
  have hchan : (sealed s s).chan (123904 + n) = s.chan (123904 + n) := rfl
  unfold State.outCode
  simp only [hchan, hh, chanKind_privileged, true_or, if_true]

end

/-- Settles O35: a boundary is `slewBoundary`, whose channel is written out once, and a track closes where its time has come. -/
theorem slewLimiter : Obligations.SlewLimiter := by
  unfold Obligations.SlewLimiter
  exact ⟨fun _ _ => slewPeriodBoundary_moves, fun _ _ => slewPeriodBoundary_newest, fun _ _ => slewPeriodBoundary_rests,
    fun _ _ _ _ => deglitchEnd_closes, fun _ _ _ _ => deglitchEnd_waits⟩

end Sys2Proof.Proofs

/-!
SUPPORT. The proofs of span changes and waveform generators (spec/07_drive.md, Spans and the span sequence, Waveform generators).
-/

namespace Sys2Proof.Proofs

open Sys2Proof Sys2Proof.Machine Sys2Proof.Laws

section

variable {s t w : State} {u v : Nat}

/-! ### What the motion of a channel starts from -/

/-- Between two states a channel's output stays what its bank, motion and code make it. -/
structure SameOut (u : Nat) (s t : State) : Prop where
  tick : t.tick = s.tick
  banks : t.drv.banks = s.drv.banks
  motion : (t.chan u).motion = (s.chan u).motion
  out : (t.chan u).out = (s.chan u).out
  span : (t.chan u).span = (s.chan u).span

theorem SameOut.refl (u : Nat) (s : State) : SameOut u s s := ⟨rfl, rfl, rfl, rfl, rfl⟩

theorem SameOut.trans (h : SameOut u s t) (k : SameOut u t w) : SameOut u s w :=
  ⟨k.tick.trans h.tick, k.banks.trans h.banks, k.motion.trans h.motion, k.out.trans h.out, k.span.trans h.span⟩

theorem SameOut.of_chan (ht : t.tick = s.tick) (hb : t.drv.banks = s.drv.banks) (hc : t.chan u = s.chan u) : SameOut u s t :=
  ⟨ht, hb, by rw [hc], by rw [hc], by rw [hc]⟩

theorem SameOut.frame {c : List Comp} (k : Frame c s t) (hd : c.contains .drv = false) (ht : c.contains .tick = false) : SameOut u s t :=
  .of_chan (k.tick ht) (congrArg Drive.banks (k.drv hd)) (chan_of_chans (congrArg Drive.chans (k.drv hd)) u)

theorem SameOut.bankTick (h : SameOut u s t) (b : Nat) : t.bankTick b = s.bankTick b := by
  unfold State.bankTick State.bank
  rw [h.tick, h.banks]

theorem SameOut.limiterOut (h : SameOut u s t) : t.limiterOut u = s.limiterOut u := by
  unfold State.limiterOut State.limiterAt
  rw [h.bankTick]
  dsimp only
  rw [h.motion, h.out, h.span]

theorem SameOut.motionFrom (h : SameOut u s t) (k : Nat) : t.motionFrom u k = s.motionFrom u k := by
  unfold State.motionFrom
  rw [h.bankTick, h.tick]

theorem noteChange_sameOut (s : State) (u v : Nat) : SameOut v s (noteChange s u) := by
  by_cases h : v = u
  · subst h
    unfold noteChange
    exact ⟨rfl, rfl, by rw [chan_setChan], by rw [chan_setChan], by rw [chan_setChan]⟩
  · exact .of_chan rfl rfl (chan_setChan_other s _ h)

theorem stopGen_sameOut (s : State) (u v : Nat) : SameOut v s (stopGen s u) := by
  unfold stopGen
  split
  · exact (noteChange_sameOut s u v).trans ⟨rfl, rfl, rfl, rfl, rfl⟩
  · exact .refl v s

theorem writeTarget_motion (s : State) (u : Nat) (code : Int) (v : Nat) : ((writeTarget s u code).chan v).motion = (s.chan v).motion := by
  unfold writeTarget
  split
  · by_cases h : v = u
    · subst h
      rw [chan_setChan]
      rfl
    · rw [chan_setChan_other _ _ h, chan_noteWrite]
  · rw [chan_noteRefused]

/-! ### Span sequences (R199, R200) -/

theorem startSpanSeq_motion (s : State) (u n k : Nat) :
    ((startSpanSeq s u n k).chan u).motion = some (.spanSeq (s.motionFrom u k) (s.limiterOut u) n) := by
  have hstop := stopGen_sameOut s u u
  unfold startSpanSeq
  rw [chan_setChan, hstop.motionFrom, hstop.limiterOut]

theorem startSpanSeq_other (s : State) (n k : Nat) (h : v ≠ u) : SameOut v s (startSpanSeq s u n k) := by
  unfold startSpanSeq
  exact (stopGen_sameOut s u v).trans (.of_chan rfl rfl (chan_setChan_other _ _ h))

/-- The start of the span sequence of one staged channel, as SPAN_APPLY folds them. -/
def spanMove (s : State) (e : Nat × Int) : State :=
  startSpanSeq (noteWrite s (bankOf e.1)) e.1 e.2.toNat (if e.1 < 81920 ∧ bankOf e.1 % 2 = 1 then s.tick + 8 else s.tick)

theorem spanMove_other (s : State) (e : Nat × Int) (h : v ≠ e.1) : SameOut v s (spanMove s e) :=
  .trans (t := noteWrite s (bankOf e.1)) ⟨rfl, rfl, rfl, rfl, rfl⟩ (startSpanSeq_other _ _ _ h)

theorem spanMove_motion (s : State) (e : Nat × Int) :
    ∃ k, s.tick ≤ k ∧ ((spanMove s e).chan e.1).motion = some (.spanSeq (s.motionFrom e.1 k) (s.limiterOut e.1) e.2.toNat) := by
  refine ⟨if e.1 < 81920 ∧ bankOf e.1 % 2 = 1 then s.tick + 8 else s.tick, by split <;> omega, ?_⟩
  exact startSpanSeq_motion _ _ _ _

theorem spanMoves_other (l : List (Nat × Int)) (s : State) (h : ∀ e ∈ l, v ≠ e.1) : SameOut v s (l.foldl spanMove s) := by
  induction l generalizing s with
  | nil => exact .refl v s
  | cons e l ih =>
    exact (spanMove_other s e (h e List.mem_cons_self)).trans (ih _ fun x hx => h x (List.mem_cons_of_mem _ hx))

/-- Of channels named once each, every one starts from where it stood before the first. -/
theorem spanMoves_motion {l : List (Nat × Int)} (hl : l.Pairwise fun a b => a.1 ≠ b.1) (s : State) {e : Nat × Int} (he : e ∈ l) :
    ∃ k, s.tick ≤ k ∧
      ((l.foldl spanMove s).chan e.1).motion = some (.spanSeq (s.motionFrom e.1 k) (s.limiterOut e.1) e.2.toNat) := by
  induction l generalizing s with
  | nil => cases he
  | cons a l ih =>
    obtain ⟨hne, hrest⟩ := List.pairwise_cons.mp hl
    rcases List.mem_cons.mp he with rfl | hmem
    · obtain ⟨k, hk, hm⟩ := spanMove_motion s e
      exact ⟨k, hk, (spanMoves_other l _ hne).motion.trans hm⟩
    · have hother := spanMove_other s a (Ne.symm (hne e hmem))
      obtain ⟨k, hk, hm⟩ := ih hrest (spanMove s a) hmem
      rw [hother.motionFrom, hother.limiterOut] at hm
      exact ⟨k, hother.tick ▸ hk, hm⟩

theorem reconvert_motion (s : State) (u v : Nat) : ((reconvert s u).chan v).motion = (s.chan v).motion := by
  have helem (e : Nat) : ((driveElem s e).chan v).motion = (s.chan v).motion := by
    unfold driveElem
    dsimp only
    split
    · split
      · rfl
      · exact writeTarget_motion _ _ _ _
    · split
      · exact writeTarget_motion _ _ _ _
      · exact (writeTarget_motion _ _ _ _).trans (writeTarget_motion _ _ _ _)
  unfold reconvert
  split
  · split
    · exact helem _
    · rfl
  · split
    · split
      · exact writeTarget_motion _ _ _ _
      · rfl
    · split
      · exact writeTarget_motion _ _ _ _
      · rfl

theorem reconverts_motion (l : List (Nat × Int)) (s : State) (v : Nat) :
    ((l.foldl (fun s e => reconvert s e.1) s).chan v).motion = (s.chan v).motion := by
  induction l generalizing s with
  | nil => rfl
  | cons e l ih => exact (ih _).trans (reconvert_motion s e.1 v)

/-- The staged spans that differ from those in force. -/
def spansAsked (s : State) : List (Nat × Int) := (s.stagedOf Obj.SPAN).filter fun e => decide (e.2.toNat ≠ (s.chan e.1).span)

/-- Those of them whose gates are open. -/
def spanMovesOf (s : State) : List (Nat × Int) := (spansAsked s).filter fun e => s.gateOpen (bankOf e.1)

/-- The state in which an accepted SPAN_APPLY starts its sequences. -/
def spansTaken (s : State) : State :=
  (((spanMovesOf s).filter fun e => e.2 == 0).filterMap fun e => Machine.wrapElem e.1).foldl spanEndsWrap
    ((steadyDecides (((spansAsked s).filter fun e => !s.gateOpen (bankOf e.1)).foldl (fun s e => noteRefused s (bankOf e.1)) s) 7).1.applyStaged
      Obj.SPAN)

theorem spansTaken_frame (s : State) :
    Frame [.lobes, .objs, .dev, .ex, .sorus, .steady, .octs, .staged, .stagedOcts, .loops] s (spansTaken s) := by
  unfold spansTaken
  refine .foldl (fun t e => .step (spanEndsWrap_frame _ _) (by decide) (.refl t)) ?_
  refine .step (State.applyStaged_frame _ _) (by decide) (.step (Frame.of1 (steadyDecides_frame _ _)) (by decide) ?_)
  exact .foldl (fun t e => .step (noteRefused_frame _ _) (by decide) (.refl t)) (.refl s)

/-- What SPAN_APPLY asks of the channels it moves. -/
structure SpansFree (s : State) : Prop where
  idle : s.com.live = []
  still : s.spanSeqRuns = false
  free : ∀ e ∈ spanMovesOf s, s.spanBusy e.1 = false
  paired : ∀ e ∈ spanMovesOf s, e.1 < 81920 → s.newSpan (armA (e.1 / 2)) = s.newSpan (armB (e.1 / 2))

theorem effSpanApply_starts (h : SpansFree s) :
    effSpanApply s = (raiseA ((spanMovesOf s).foldl (fun s e => reconvert s e.1) ((spanMovesOf s).foldl spanMove (spansTaken s))) 0x4008
      [.word (spanMovesOf s).length], .ack) := by
  have hrun : ¬ ((!s.com.live.isEmpty || s.spanSeqRuns) = true) := by simp [h.idle, h.still]
  have hbusy : ¬ (((spanMovesOf s).any fun e => s.spanBusy e.1) = true) := by simpa using h.free
  have hpair : ¬ (((spanMovesOf s).any fun e => decide (e.1 < 81920) && s.newSpan (armA (e.1 / 2)) != s.newSpan (armB (e.1 / 2))) = true) := by
    simpa using h.paired
  unfold effSpanApply
  exact (if_neg hrun).trans ((if_neg hbusy).trans (if_neg hpair))

theorem spanMovesOf_pairwise (h : msorted (s.stagedOf Obj.SPAN) = true) : (spanMovesOf s).Pairwise fun a b => a.1 ≠ b.1 :=
  (((rising_of_msorted h).imp fun hlt => Nat.ne_of_lt hlt).filter _).filter _

/-- A channel whose staged span differs and whose gate is open starts from its present output. -/
theorem effSpanApply_motion (h : SpansFree s) (hs : msorted (s.stagedOf Obj.SPAN) = true) {e : Nat × Int} (he : e ∈ s.stagedOf Obj.SPAN)
    (hd : e.2.toNat ≠ (s.chan e.1).span) (hg : s.gateOpen (bankOf e.1) = true) :
    ∃ k, s.tick ≤ k ∧
      ((effSpanApply s).1.chan e.1).motion = some (.spanSeq (s.motionFrom e.1 k) (s.limiterOut e.1) e.2.toNat) := by
  have hmem : e ∈ spanMovesOf s := List.mem_filter.mpr ⟨List.mem_filter.mpr ⟨he, decide_eq_true hd⟩, hg⟩
  have hsame : SameOut e.1 s (spansTaken s) := .frame (spansTaken_frame s) (by decide) (by decide)
  obtain ⟨k, hk, hm⟩ := spanMoves_motion (spanMovesOf_pairwise hs) (spansTaken s) hmem
  rw [hsame.motionFrom, hsame.limiterOut] at hm
  rw [effSpanApply_starts h]
  refine ⟨k, hsame.tick ▸ hk, ?_⟩
  have hraise := chan_of_chans (congrArg Drive.chans (raiseA_drv ((spanMovesOf s).foldl (fun s e => reconvert s e.1)
    ((spanMovesOf s).foldl spanMove (spansTaken s))) 0x4008 [.word (spanMovesOf s).length])) e.1
  exact (congrArg Chan.motion hraise).trans ((reconverts_motion _ _ _).trans hm)

variable {sess g : Nat} {c : Gen}

theorem spanApply_starts (h : s.accepts sess Obj.SPAN_APPLY 0 1 = true) (hl : s.com.live = []) (hr : s.spanSeqRuns = false)
    (hs : msorted (s.stagedOf Obj.SPAN) = true)
    (hf : ∀ p ∈ s.stagedOf Obj.SPAN, s.spanBusy p.1 = false ∧ (p.1 < 81920 → s.newSpan (armA (p.1 / 2)) = s.newSpan (armB (p.1 / 2)))) :
    ∃ t, exec (.spanApply sess) s = .next t ∧ t.answered sess 0 Obj.SPAN_APPLY 0 (.ack []) ∧
      ∀ p ∈ s.stagedOf Obj.SPAN, p.2.toNat ≠ (s.chan p.1).span → s.gateOpen (bankOf p.1) = true →
        ∃ start, s.tick ≤ start ∧
          (t.chan p.1).motion = some (.spanSeq (s.motionFrom p.1 start) (s.limiterOut p.1) p.2.toNat) := by
  have hmem : ∀ e ∈ spanMovesOf s, e ∈ s.stagedOf Obj.SPAN := fun e he => List.mem_of_mem_filter (List.mem_of_mem_filter he)
  have hfree : SpansFree (seen s sess) := by
    rw [seen_eq]
    exact ⟨hl, hr, fun e he => (hf e (hmem e he)).1, fun e he => (hf e (hmem e he)).2⟩
  have hmotion := fun (e : Nat × Int) he hd hg => effSpanApply_motion (e := e) hfree (by rw [seen_eq]; exact hs) he hd hg
  have hv : (effSpanApply (seen s sess)).2 = .ack := congrArg Prod.snd (effSpanApply_starts hfree)
  obtain ⟨hans, hframe⟩ := hostWrite_acks h hv (effSpanApply_opens _)
  refine ⟨_, rfl, hans, fun p hp hd hg => ?_⟩
  obtain ⟨k, hk, hm⟩ := hmotion p (by rw [seen_eq]; exact hp) (by rw [seen_eq]; exact hd) (by rw [seen_eq]; exact hg)
  have hsame : SameOut p.1 s (seen s sess) := .frame (seen_frame s sess) (by decide) (by decide)
  rw [hsame.motionFrom, hsame.limiterOut] at hm
  have hchan := chan_of_chans (t := sealed s (hostWrite s sess Obj.SPAN_APPLY 0 1 effSpanApply))
    (congrArg Drive.chans (hframe.drv rfl)) p.1
  exact ⟨k, hsame.tick ▸ hk, (congrArg Chan.motion hchan).trans hm⟩

theorem spanApply_busy (h : s.accepts sess Obj.SPAN_APPLY 0 1 = true) (hl : s.com.live ≠ []) :
    ∃ t, exec (.spanApply sess) s = .next t ∧ t.answered sess 0 Obj.SPAN_APPLY 0 (.nak .busy 0 0) ∧ Frame [.ex] s t := by
  have heff (u : State) (hl : u.com.live ≠ []) : effSpanApply u = (u, .nak .busy) := by
    unfold effSpanApply
    exact if_pos (by simp [hl])
  obtain ⟨hans, hframe⟩ := hostWrite_refused h (eff := effSpanApply) (heff _ (by rw [seen_eq]; exact hl)) (by decide)
  exact ⟨_, rfl, hans, frame_sealed hframe (by decide)⟩

theorem noteChange_span (s : State) (u : Nat) : (noteChange s u).drv.banks = s.drv.banks := rfl

/-- The channel of a span sequence that has dwelt, in a bank with no safe transition. -/
def dwelt (s : State) (u n : Nat) : State :=
  (noteChange s u).setChan u
    { (noteChange s u).chan u with span := n, out := zeroCode u n, motion := none, changed := (noteChange s u).tick,
                                   target := min (s.chan u).target (maxCode u) }

theorem spanDwellEnd_switches {start from_ n : Nat} (hm : (s.chan u).motion = some (.spanSeq start from_ n))
    (hd : s.dwellEnd u start from_ ≤ s.tick) (ht : s.ticking = true) (hb : (s.bank (bankOf u)).safeStart = none)
    (hh : (s.bank (bankOf u)).hold ≠ .holding) :
    ∃ t, exec (.spanDwellEnd u) s = .next t ∧ (t.chan u).span = n ∧ (t.chan u).out = zeroCode u n ∧ (t.chan u).motion = none ∧
      (∀ v, v ≠ u → t.chan v = s.chan v) ∧ Frame [.ex, .drv] s t := by
  have hbank : ((dwelt s u n).bank (bankOf u)).safeStart = none := hb
  have hrun : execSpanDwellEnd u s = finish s (dwelt s u n) := by
    unfold execSpanDwellEnd
    dsimp only
    rw [hm]
    refine congrArg (finish s) ((if_pos ⟨hd, ht, hh⟩).trans ?_)
    change (match ((dwelt s u n).bank (bankOf u)).safeStart with
      | some t => if (s.chan u).target = (dwelt s u n).safeCode u then safeRamp (dwelt s u n) u t else dwelt s u n
      | none => dwelt s u n) = _
    rw [hbank]
  have hchan : (sealed s (dwelt s u n)).chan u = _ := chan_setChan (noteChange s u) u _
  have hframe : Frame [.drv] s (dwelt s u n) := (noteChange_frame s u).trans (setChan_frame _ _ _)
  refine ⟨_, hrun, by rw [hchan], by rw [hchan], by rw [hchan], fun v hv => ?_, frame_sealed (hframe.mono (by decide)) (by decide)⟩
  exact (chan_setChan_other (noteChange s u) _ hv).trans (chan_setChan_other s _ hv)

/-! ### Generators (R205, R206) -/

theorem dropGen_gens (s : State) (g : Nat) :
    (dropGen s g).tick = s.tick ∧ ∀ k, k ≠ g → mfind (dropGen s g).drv.gens k = mfind s.drv.gens k := by
  refine ⟨(dropGen_frame s g).tick rfl, fun k hk => ?_⟩
  unfold dropGen
  split
  · rfl
  next old _ =>
    extract_lets u drv w
    have hw : mfind w.drv.gens k = mfind s.drv.gens k := mfind_mdel_other _ hk
    rw [← hw]
    split
    · have hdec := Frame.of1 (steadyDecides_frame w 9)
      split
      next x ok heq =>
        have hx : x.drv = w.drv := (Frame.fst heq (steadyDecides_frame w 9)).drv rfl
        split
        · exact congrArg (fun d : Drive => mfind d.gens k) (((dropGrant_frame x _ _).drv rfl).trans hx)
        · exact congrArg (fun d : Drive => mfind d.gens k) (((markReleased_frame x _ _).drv rfl).trans hx)
    · rfl

theorem dropGen_opens (s : State) (g : Nat) : Opens s (dropGen s g) := by
  unfold dropGen
  split
  · exact .refl s
  next old _ =>
    extract_lets u drv w
    have hw : Opens s w := .upd rfl (.refl s)
    refine .ite ?_ hw
    split
    next x ok heq =>
      have hx : Opens s x := .step (Opens.fst heq (steadyDecides_opens w 9)) hw
      exact .ite (.frame (dropGrant_frame _ _ _) (by decide) hx) (.frame (markReleased_frame _ _ _) (by decide) hx)

/-- A generator that drives no heater is set up at once. -/
theorem setGen_sets (ho : c.on = true) (hk : chanKind c.chan ≠ 1) (s : State) :
    ∃ t, setGen s g c = (t, true) ∧ Frame [.drv, .lobes] s t ∧
      mfind t.drv.gens g = some { c with startTick := if c.start = 0 then some s.tick else none } ∧
      ∀ k, k ≠ g → mfind t.drv.gens k = mfind s.drv.gens k := by
  have hon : ¬ ((!({ c with startTick := if c.start = 0 then some s.tick else none } : Gen).on) = true) := by
    have : ({ c with startTick := if c.start = 0 then some s.tick else none } : Gen).on = true := ho
    simp [this]
  unfold setGen
  extract_lets d put
  rw [if_neg hon, if_neg (show ¬ chanKind d.chan = 1 from hk)]
  refine ⟨_, rfl, ?_, mfind_mset_self _ _ _, fun k h => mfind_mset_other _ _ h⟩
  exact .set_drv (by decide) (.step (noteWrite_frame _ _) (by decide) (.step (noteChange_frame _ _) (by decide) (.refl s)))

/-- The staged values of a generator taken, and the queue of Steady served. -/
def genServed (s : State) : State := serveQueue (genObjs.foldl (fun s a => s.applyStaged a) s)

theorem genServed_drv (s : State) : (genServed s).drv = s.drv := by
  have hstaged : Frame [.objs, .octs, .staged, .stagedOcts] s (genObjs.foldl (fun s a => s.applyStaged a) s) :=
    .foldl (fun t a => .step (State.applyStaged_frame t a) (by decide) (.refl t)) (.refl s)
  exact ((serveQueue_frame _).drv rfl).trans (hstaged.drv rfl)

theorem genServed_opens (s : State) : Opens s (genServed s) := by
  have hstaged : Frame [.objs, .octs, .staged, .stagedOcts] s (genObjs.foldl (fun s a => s.applyStaged a) s) :=
    .foldl (fun t a => .step (State.applyStaged_frame t a) (by decide) (.refl t)) (.refl s)
  exact .step (serveQueue_opens _) (.frame hstaged (by decide) (.refl s))

theorem effGenApply_sets (hg : s.genStaged = [g]) (hc : s.genConflict = false) (ho : (s.genConfig g).on = true)
    (hk : chanKind (s.genConfig g).chan ≠ 1) (hb : s.genBusy (s.genConfig g) = false) (hgate : s.genGate g (s.genConfig g) = true) :
    ∃ t, effGenApply s = (t, .ack) ∧ Opens s t ∧
      mfind t.drv.gens g = some { s.genConfig g with startTick := if (s.genConfig g).start = 0 then some s.tick else none } ∧
      ∀ k, k ≠ g → mfind t.drv.gens k = mfind s.drv.gens k := by
  obtain ⟨htick, hdrop⟩ := dropGen_gens s g
  obtain ⟨u, hrun, hframe, hset, hother⟩ := setGen_sets (g := g) ho hk (dropGen s g)
  have hopen := dropGen_opens s g
  rw [htick] at hset
  have hsets : setGens [(g, s.genConfig g)] (dropGen s g) = (u, true) := by
    unfold setGens
    rw [hrun]
    rfl
  have heff : effGenApply s = (genServed u, .ack) := by
    unfold effGenApply
    simp only [hg, hc, hb, hgate, List.map_cons, List.map_nil, List.any_cons, List.any_nil, List.filter_cons, List.filter_nil,
      List.foldl_cons, List.foldl_nil, Bool.or_self, Bool.not_true, Bool.false_eq_true, if_false, if_true, hsets]
    rfl
  refine ⟨genServed u, heff, (hopen.trans (.frame hframe (by decide) (.refl _))).trans (genServed_opens u), ?_, fun k h => ?_⟩
  · rw [genServed_drv]
    exact hset
  · rw [genServed_drv]
    exact (hother k h).trans (hdrop k h)

theorem genApply_sets (h : s.accepts sess Obj.GEN_APPLY 0 1 = true) (hg : s.genStaged = [g]) (hc : s.genConflict = false)
    (ho : (s.genConfig g).on = true) (hk : chanKind (s.genConfig g).chan ≠ 1) (hb : s.genBusy (s.genConfig g) = false)
    (hgate : s.genGate g (s.genConfig g) = true) :
    ∃ t, exec (.genApply sess) s = .next t ∧ t.answered sess 0 Obj.GEN_APPLY 0 (.ack []) ∧
      mfind t.drv.gens g = some { s.genConfig g with startTick := if (s.genConfig g).start = 0 then some s.tick else none } ∧
      (∀ k, k ≠ g → mfind t.drv.gens k = mfind s.drv.gens k) := by
  have hconfig : (seen s sess).genConfig g = s.genConfig g := by
    rw [seen_eq]
    rfl
  obtain ⟨u, heff, hopen, hset, hother⟩ := effGenApply_sets (s := seen s sess) (g := g) (by rw [seen_eq]; exact hg)
    (by rw [seen_eq]; exact hc) (by rw [hconfig]; exact ho) (by rw [hconfig]; exact hk)
    (by rw [hconfig, seen_eq]; exact hb) (by rw [hconfig, seen_eq]; exact hgate)
  have hseen := seen_frame s sess
  rw [hconfig, hseen.tick rfl] at hset
  obtain ⟨hans, hframe⟩ := hostWrite_acks h (eff := effGenApply) (congrArg Prod.snd heff) (by rw [heff]; exact hopen)
  have hdrv : (hostWrite s sess Obj.GEN_APPLY 0 1 effGenApply).drv = u.drv := (hframe.drv rfl).trans (by rw [heff])
  refine ⟨_, rfl, hans, ?_, fun k hk => ?_⟩
  · rw [sealed_drv, hdrv]
    exact hset
  · rw [sealed_drv, hdrv, hother k hk, hseen.drv rfl]

theorem genApply_conflicts (h : s.accepts sess Obj.GEN_APPLY 0 1 = true) (hc : s.genConflict = true) :
    ∃ t, exec (.genApply sess) s = .next t ∧ t.answered sess 0 Obj.GEN_APPLY 0 (.nak .conflict 0 0) ∧ Frame [.ex] s t := by
  have heff (u : State) (hc : u.genConflict = true) : effGenApply u = (u, .nak .conflict) := if_pos hc
  obtain ⟨hans, hframe⟩ := hostWrite_refused h (eff := effGenApply) (heff _ (by rw [seen_eq]; exact hc)) (by decide)
  exact ⟨_, rfl, hans, frame_sealed hframe (by decide)⟩

theorem genStartTime_starts (hg : mfind s.drv.gens g = some c) (hs : c.startTick = none) (ht : s.atT c.start = true) :
    ∃ t, exec (.genStartTime g) s = .next t ∧ mfind t.drv.gens g = some { c with startTick := some s.tick } ∧ Frame [.ex, .drv] s t := by
  obtain ⟨u, hu⟩ : ∃ u : State, { s with drv := { s.drv with gens := mset s.drv.gens g { c with startTick := some s.tick } } } = u :=
    ⟨_, rfl⟩
  have hrun : execGenStartTime g s = finish s (noteChange u c.chan) := by
    unfold execGenStartTime
    rw [hg, ← hu]
    exact congrArg (finish s) (if_pos ⟨hs, ht⟩)
  have hu' : Frame [.drv] s u := by
    rw [← hu]
    exact .set_drv (by decide) (.refl s)
  have hgens : (noteChange u c.chan).drv.gens = mset s.drv.gens g { c with startTick := some s.tick } := by
    rw [← hu]
    rfl
  refine ⟨_, hrun, ?_, frame_sealed ((hu'.trans (noteChange_frame u c.chan)).mono (by decide)) (by decide)⟩
  rw [sealed_drv, hgens]
  exact mfind_mset_self _ _ _

end

/-- Settles O36: SPAN_APPLY starts each sequence from where its channel stood, and GEN_APPLY sets up a generator whose heater needs no
grant. -/
theorem spansAndGenerators : Obligations.SpansAndGenerators := by
  unfold Obligations.SpansAndGenerators
  exact ⟨fun _ _ => spanApply_starts, fun _ _ => spanApply_busy, fun _ _ _ _ _ => spanDwellEnd_switches, fun _ _ _ => genApply_sets,
    fun _ _ => genApply_conflicts, fun _ _ _ => genStartTime_starts⟩

end Sys2Proof.Proofs

/-!
SUPPORT. The proof of readback comparisons and spare lanes (spec/07_drive.md, Readback and spare lanes).
-/

namespace Sys2Proof.Proofs

open Sys2Proof Sys2Proof.Machine Sys2Proof.Laws

section

variable {s t : State} {b u v lane sensed k : Nat} {c : Chan}

/-! ### Banks and their spares -/

@[simp] theorem bank_setBank (s : State) (b : Nat) (x : Bank) : (s.setBank b x).bank b = x := by
  simp [State.bank, State.setBank, mget]

theorem bank_setBank_other (s : State) {b d : Nat} (x : Bank) (h : d ≠ b) : (s.setBank b x).bank d = s.bank d :=
  mget_mset_other _ _ _ h

@[simp] theorem bank_setChan (s : State) (u b : Nat) (c : Chan) : (s.setChan u c).bank b = s.bank b := rfl

@[simp] theorem chan_setBank (s : State) (u b : Nat) (x : Bank) : (s.setBank b x).chan u = s.chan u := rfl

theorem setBank_frame (s : State) (b : Nat) (x : Bank) : Frame [.drv] s (s.setBank b x) := .set_drv (by decide) (.refl s)

/-- The deglitched code of a channel that moves as before, holds what it held and is driven by no generator. -/
theorem outCode_of_sameOut (h : SameOut u s t) (hheld : (t.chan u).held = (s.chan u).held) (hd : t.dev = s.dev)
    (ho : t.objs = s.objs) (hg : t.drv.gens = s.drv.gens) : t.outCode u = s.outCode u := by
  have hlim (n : Nat) : t.limiterAt u n = s.limiterAt u n := by
    unfold State.limiterAt
    dsimp only
    rw [h.motion, h.out, h.span]
  have hsum (n : Nat) : t.sumAt u n = s.sumAt u n := by
    unfold State.sumAt
    rw [genOf_of_gens hg, hlim]
  have hstop : t.bankStops (bankOf u) = s.bankStops (bankOf u) := by
    unfold State.bankStops State.bank
    rw [hd, h.banks]
  have hobj : t.objN Obj.DEGLITCH (u - 123904) = s.objN Obj.DEGLITCH (u - 123904) := objN_of_objs ho _ _
  unfold State.outCode State.genOut
  rw [hheld, hstop, hsum, hsum, h.bankTick, hobj]

theorem chanKind_chanOf (h : b < 3872) (hl : lane < 32) : chanKind (chanOf b lane) = chanKind (chanOf b 0) ∧ chanKind (chanOf b lane) ≠ 2 := by
  unfold chanKind chanOf
  by_cases h0 : b < 2560
  · simp only [h0, if_true]
    rw [if_pos (by omega), if_pos (by omega)]
    decide
  · simp only [h0, h, if_true, if_false]
    rw [if_neg (by omega), if_pos (by omega), if_neg (by omega), if_pos (by omega)]
    decide

/-! ### A lane senses its own readback (R208, R209) -/

/-- A lane that may be compared: on its own connection, in order, at rest, and nothing measures its load. -/
structure Comparable (s : State) (u : Nat) : Prop where
  lost : (s.chan u).lost = false
  load : (s.chan u).loadFault = false
  failed : (s.chan u).laneFailed = false
  spare : (s.chan u).spare = none
  trim : s.loadLane ≠ some u
  settled : s.settled u = true

theorem senseLane_compares (h : Comparable s (chanOf b lane)) :
    senseLane s b lane sensed =
      if s.readbackBad (chanKind (chanOf b lane)) (s.outCode (chanOf b lane)) sensed then
        if 2 ≤ (s.chan (chanOf b lane)).fails + 1 then
          laneFails (s.setChan (chanOf b lane) { s.chan (chanOf b lane) with
            sensed := sensed, unchecked := 0, fails := (s.chan (chanOf b lane)).fails + 1 }) b lane (chanOf b lane) sensed
        else s.setChan (chanOf b lane) { s.chan (chanOf b lane) with
          sensed := sensed, unchecked := 0, fails := (s.chan (chanOf b lane)).fails + 1 }
      else s.setChan (chanOf b lane) { s.chan (chanOf b lane) with sensed := sensed, unchecked := 0, fails := 0 } := by
  unfold senseLane
  dsimp only
  rw [if_neg (by simp [h.spare]), if_neg (by simp [h.lost, h.load, h.failed, h.trim, h.settled])]

theorem readbackComparison_lane (hd : s.drivenAt (chanOf b 0) = true) (hb : b < 3874) (hl : lane < 32) :
    exec (.readbackComparison b lane sensed) s = finish s (senseLane s b lane sensed) := by
  show execReadbackComparison b lane sensed s = _
  unfold execReadbackComparison
  rw [if_neg (by omega), if_neg (by simp [hd]), if_pos hl]

theorem readbackComparison_agrees (hd : s.drivenAt (chanOf b 0) = true) (hb : b < 3874) (hl : lane < 32)
    (h : Comparable s (chanOf b lane))
    (hok : absDiff (s.outCode (chanOf b lane)) sensed ≤ s.objN Obj.READBACK_TOL (chanKind (chanOf b lane))) :
    ∃ t, exec (.readbackComparison b lane sensed) s = .next t ∧
      t.chan (chanOf b lane) = { s.chan (chanOf b lane) with sensed := sensed, unchecked := 0, fails := 0 } ∧
      Frame [.ex, .drv] s t := by
  have hgood : s.readbackBad (chanKind (chanOf b lane)) (s.outCode (chanOf b lane)) sensed = false :=
    decide_eq_false (by omega)
  have heff := senseLane_compares (sensed := sensed) h
  rw [if_neg (by rw [hgood]; exact Bool.false_ne_true)] at heff
  refine ⟨_, (readbackComparison_lane hd hb hl).trans (congrArg (finish s) heff), chan_setChan _ _ _, ?_⟩
  exact frame_sealed (.mono (setChan_frame s _ _) (by decide)) (by decide)

theorem laneFails_spares {t : State} (hk : chanKind (chanOf b lane) ≠ 2) (hfree : (s.bank b).spare32 = .idle) (hrun : s.cal.run = none)
    (hback : s.cal.back = none) (ht : laneFails s b lane (chanOf b lane) sensed = t) :
    (t.chan (chanOf b lane)).laneFailed = true ∧ (t.chan (chanOf b lane)).switching = some s.tick ∧ (t.bank b).spare32 = .lane lane := by
  have hcal : calLaneFault s b lane = s := by
    unfold calLaneFault backLaneFault
    simp only [hback, hrun]
  have hspare : ((s.setChan (chanOf b lane) { s.chan (chanOf b lane) with laneFailed := true, fails := 0 }).bank b).freeSpare = some 32 :=
    if_pos hfree
  unfold laneFails at ht
  rw [if_neg hk, hcal] at ht
  dsimp only at ht
  rw [hspare] at ht
  subst ht
  unfold loadSpare
  refine ⟨?_, ?_, ?_⟩
  · rw [chan_setChan, chan_setChan]
  · rw [chan_setChan]
    rfl
  · rw [bank_setChan, bank_setBank]
    rfl

theorem readbackComparison_differs (hd : s.drivenAt (chanOf b 0) = true) (hb : b < 3872) (hl : lane < 32)
    (h : Comparable s (chanOf b lane))
    (hbad : s.objN Obj.READBACK_TOL (chanKind (chanOf b lane)) < absDiff (s.outCode (chanOf b lane)) sensed)
    (hfree : (s.bank b).spare32 = .idle) (hrun : s.cal.run = none) (hback : s.cal.back = none) :
    ∃ t, exec (.readbackComparison b lane sensed) s = .next t ∧
      if (s.chan (chanOf b lane)).fails = 0 then
        (t.chan (chanOf b lane)).fails = 1 ∧ (t.chan (chanOf b lane)).laneFailed = false ∧ t.bank b = s.bank b
      else
        (t.chan (chanOf b lane)).laneFailed = true ∧ (t.chan (chanOf b lane)).switching = some s.tick ∧
          (t.bank b).spare32 = .lane lane := by
  have heff := senseLane_compares (sensed := sensed) h
  have hwrong : s.readbackBad (chanKind (chanOf b lane)) (s.outCode (chanOf b lane)) sensed = true := decide_eq_true hbad
  rw [if_pos hwrong] at heff
  have hrunExec := readbackComparison_lane (sensed := sensed) hd (by omega : b < 3874) hl
  by_cases hf : (s.chan (chanOf b lane)).fails = 0
  · rw [if_neg (by omega)] at heff
    refine ⟨_, hrunExec.trans (congrArg (finish s) heff), ?_⟩
    rw [if_pos hf]
    refine ⟨?_, ?_, rfl⟩
    · show ((s.setChan _ _).chan _).fails = 1
      rw [chan_setChan, hf]
    · show ((s.setChan _ _).chan _).laneFailed = false
      rw [chan_setChan]
      exact h.failed
  · rw [if_pos (by omega)] at heff
    refine ⟨_, hrunExec.trans (congrArg (finish s) heff), ?_⟩
    rw [if_neg hf]
    have hfail := laneFails_spares (s := s.setChan (chanOf b lane) { s.chan (chanOf b lane) with
      sensed := sensed, unchecked := 0, fails := (s.chan (chanOf b lane)).fails + 1 }) (sensed := sensed)
      (chanKind_chanOf hb hl).2 hfree hrun hback rfl
    exact hfail

/-! ### The switch to a spare, and its comparisons (Table 7.7) -/

theorem spareSwitchover_switches {t0 : Nat} (hsw : (s.chan (chanOf b lane)).switching = some t0) (hsp : (s.bank b).spareOf lane = some k)
    (ht : t0 + (if chanKind (chanOf b lane) = 1 then 157 else 64) ≤ s.tick) (hf : (s.chan (chanOf b lane)).laneFailed = true) :
    ∃ t, exec (.spareSwitchover b lane) s = .next t ∧ (t.chan (chanOf b lane)).spare = some k ∧
      (t.chan (chanOf b lane)).switching = none ∧ (t.chan (chanOf b lane)).passes = 0 ∧ (t.chan (chanOf b lane)).placed = false ∧
      (t.chan (chanOf b lane)).out = (s.chan (chanOf b lane)).out ∧ Frame [.ex, .drv] s t := by
  have hrun : exec (.spareSwitchover b lane) s = finish s (s.setChan (chanOf b lane) { s.chan (chanOf b lane) with
      spare := some k, switching := none, fails := 0, passes := 0, placed := false }) := by
    show execSpareSwitchover b lane s = _
    unfold execSpareSwitchover
    dsimp only
    rw [hsw, hsp]
    dsimp only
    rw [if_pos ⟨ht, .inl hf⟩, if_neg (fun h => h.2 hf)]
  have hc : (sealed s (s.setChan (chanOf b lane) { s.chan (chanOf b lane) with
      spare := some k, switching := none, fails := 0, passes := 0, placed := false })).chan (chanOf b lane) =
      { s.chan (chanOf b lane) with spare := some k, switching := none, fails := 0, passes := 0, placed := false } := chan_setChan _ _ _
  refine ⟨_, hrun, ?_⟩
  rw [hc]
  exact ⟨rfl, rfl, rfl, rfl, rfl, frame_sealed (.mono (setChan_frame s _ _) (by decide)) (by decide)⟩

theorem sparePasses_first (hp : (s.chan (chanOf b lane)).placed = false) (h0 : (s.chan (chanOf b lane)).passes = 0) :
    sparePasses s b lane k = s.setChan (chanOf b lane) { s.chan (chanOf b lane) with passes := 1 } := by
  unfold sparePasses
  dsimp only
  rw [if_neg (by simp [hp]), if_pos h0]

theorem mapDue_isSome (s : State) : (mapDue s).drv.spareMapDue.isSome = true := by
  unfold mapDue
  split
  case isTrue h => exact h
  case isFalse => rfl

theorem mapDue_chan (s : State) (u : Nat) : (mapDue s).chan u = s.chan u := by
  unfold mapDue
  split <;> rfl

theorem mapDue_objs (s : State) : (mapDue s).objs = s.objs := by
  unfold mapDue
  split <;> rfl

theorem sparePasses_second {t : State} (hp : (s.chan (chanOf b lane)).placed = false) (h0 : (s.chan (chanOf b lane)).passes ≠ 0)
    (hf : (s.chan (chanOf b lane)).laneFailed = true) (ht : sparePasses s b lane k = t) :
    t.chan (chanOf b lane) = { s.chan (chanOf b lane) with placed := true } ∧ t.drv.spareMapDue.isSome = true ∧
      t.objN Obj.SUBSTITUTIONS 0 = min u32Max (s.objN Obj.SUBSTITUTIONS 0 + 1) := by
  unfold sparePasses at ht
  dsimp only at ht
  rw [if_neg (by simp [hp]), if_neg h0, if_pos hf] at ht
  have hdrv := congrArg State.drv ht
  have hobj := congrArg (fun w : State => w.objN Obj.SUBSTITUTIONS 0) ht
  rw [raiseA_drv] at hdrv
  refine ⟨?_, ?_, ?_⟩
  · rw [chan_of_chans (congrArg Drive.chans hdrv.symm), mapDue_chan]
    show (s.setChan _ _).chan _ = _
    exact chan_setChan _ _ _
  · rw [← hdrv]
    exact mapDue_isSome _
  · rw [← show _ = t.objN Obj.SUBSTITUTIONS 0 from hobj]
    unfold State.objN
    rw [raiseA_obj (by decide)]
    show State.objN (mapDue _) Obj.SUBSTITUTIONS 0 = _
    rw [objN_of_objs (mapDue_objs _)]
    exact objN_incSat_self _ _ _

theorem readbackComparison_spare (hd : s.drivenAt (chanOf b 0) = true) (hb : b < 3872) (hk : k = 32 ∨ k = 33) :
    exec (.readbackComparison b k sensed) s = finish s (senseSpare s b k sensed) := by
  show execReadbackComparison b k sensed s = _
  unfold execReadbackComparison
  rw [if_neg (by omega), if_neg (by simp [hd]), if_neg (by omega), if_pos ⟨by omega, hb⟩]

/-- The state after a spare that agreed has sensed for its lane. -/
def spareSensed (s : State) (b u k sensed : Nat) : State :=
  (s.setChan u { s.chan u with sensed := sensed, unchecked := 0 }).setBank b ((s.bank b).setSpareFails k 0)

theorem spareSensed_chan (s : State) (b u k sensed : Nat) :
    (spareSensed s b u k sensed).chan u = { s.chan u with sensed := sensed, unchecked := 0 } := chan_setChan _ _ _

theorem spareSensed_frame (s : State) (b u k sensed : Nat) : Frame [.drv] s (spareSensed s b u k sensed) :=
  .set_drv (by decide) (setChan_frame s u _)

theorem senseSpare_agrees (hst : (s.bank b).spareState k = .lane lane) (hsp : (s.chan (chanOf b lane)).spare = some k)
    (hset : s.settled (chanOf b lane) = true)
    (hok : absDiff (s.outCode (chanOf b lane)) sensed ≤ s.objN Obj.READBACK_TOL (chanKind (chanOf b 0))) :
    senseSpare s b k sensed = sparePasses (spareSensed s b (chanOf b lane) k sensed) b lane k := by
  have hcode : (s.setChan (chanOf b lane) { s.chan (chanOf b lane) with sensed := sensed, unchecked := 0 }).outCode (chanOf b lane) =
      s.outCode (chanOf b lane) :=
    outCode_of_sameOut ⟨rfl, rfl, by rw [chan_setChan], by rw [chan_setChan], by rw [chan_setChan]⟩ (by rw [chan_setChan]) rfl rfl rfl
  have hgood : (s.setChan (chanOf b lane) { s.chan (chanOf b lane) with sensed := sensed, unchecked := 0 }).readbackBad
      (chanKind (chanOf b 0)) (s.outCode (chanOf b lane)) sensed = false := decide_eq_false (by
    show ¬ s.objN Obj.READBACK_TOL _ < _
    omega)
  unfold senseSpare
  dsimp only
  rw [hst]
  dsimp only
  rw [if_neg (fun h => h hsp), if_neg (by simp [hset]), hcode, if_neg (by rw [hgood]; exact Bool.false_ne_true)]
  rfl

theorem readbackComparison_passes (hd : s.drivenAt (chanOf b 0) = true) (hb : b < 3872) (hk : k = 32 ∨ k = 33)
    (hst : (s.bank b).spareState k = .lane lane) (hsp : (s.chan (chanOf b lane)).spare = some k)
    (hp : (s.chan (chanOf b lane)).placed = false) (hf : (s.chan (chanOf b lane)).laneFailed = true)
    (hset : s.settled (chanOf b lane) = true)
    (hok : absDiff (s.outCode (chanOf b lane)) sensed ≤ s.objN Obj.READBACK_TOL (chanKind (chanOf b 0))) :
    ∃ t, exec (.readbackComparison b k sensed) s = .next t ∧ (t.chan (chanOf b lane)).sensed = sensed ∧
      if (s.chan (chanOf b lane)).passes = 0 then
        (t.chan (chanOf b lane)).passes = 1 ∧ (t.chan (chanOf b lane)).placed = false ∧ Frame [.ex, .drv] s t
      else
        (t.chan (chanOf b lane)).placed = true ∧ t.drv.spareMapDue.isSome = true ∧
          t.objN Obj.SUBSTITUTIONS 0 = min u32Max (s.objN Obj.SUBSTITUTIONS 0 + 1) := by
  have hrun := (readbackComparison_spare (sensed := sensed) hd hb hk).trans (congrArg (finish s) (senseSpare_agrees hst hsp hset hok))
  have hchan := spareSensed_chan s b (chanOf b lane) k sensed
  have hframe := spareSensed_frame s b (chanOf b lane) k sensed
  have hobjs : (spareSensed s b (chanOf b lane) k sensed).objs = s.objs := rfl
  generalize spareSensed s b (chanOf b lane) k sensed = w at hrun hchan hframe hobjs
  by_cases h0 : (s.chan (chanOf b lane)).passes = 0
  · rw [sparePasses_first (by rw [hchan]; exact hp) (by rw [hchan]; exact h0), hchan] at hrun
    have hc : (sealed s (w.setChan (chanOf b lane) { s.chan (chanOf b lane) with sensed := sensed, unchecked := 0, passes := 1 })).chan
        (chanOf b lane) = { s.chan (chanOf b lane) with sensed := sensed, unchecked := 0, passes := 1 } := chan_setChan _ _ _
    refine ⟨_, hrun, ?_⟩
    rw [hc, if_pos h0]
    exact ⟨rfl, rfl, hp, frame_sealed (.mono (hframe.trans (setChan_frame w _ _)) (by decide)) (by decide)⟩
  · obtain ⟨hc, hmap, hsub⟩ := sparePasses_second (s := w) (k := k) (by rw [hchan]; exact hp) (by rw [hchan]; exact h0)
      (by rw [hchan]; exact hf) rfl
    generalize sparePasses w b lane k = x at hrun hc hmap hsub
    rw [hchan] at hc
    refine ⟨_, hrun, ?_⟩
    rw [show (sealed s x).chan (chanOf b lane) = _ from hc, if_neg h0]
    refine ⟨rfl, rfl, hmap, ?_⟩
    rw [← objN_of_objs hobjs]
    exact hsub

/-! ### The safe page for the spare map (R210) -/

theorem spareMapStore_stores (hm : s.drv.spareMapDue.isSome = true) (hf : s.flashOk = true) (hb : s.flashBusy = false)
    (ha : s.active.isSome = true) :
    ∃ t, exec .spareMapStore s = .next t ∧ t.storing .safePage ∧ t.drv.spareMapDue = none ∧ t.dev.page = some (s.fillPage s.pageNow) := by
  have hrun : exec .spareMapStore s = finish s (storePage s (s.fillPage s.pageNow)) := by
    show execSpareMapStore s = _
    unfold execSpareMapStore pageByDevice
    rw [if_pos (by simp [hm, hf, hb, ha])]
  generalize s.fillPage s.pageNow = p at hrun
  unfold storePage at hrun
  rw [startStore_runs (k := .safePage) (by simp) (List.cons_ne_nil 0 [])] at hrun
  exact ⟨_, hrun, .inl ⟨_, rfl, rfl⟩, rfl, rfl⟩

end

/-- Settles O37: a comparison of a lane or of the spare that serves it, by what the lane's record says; the switch and the store of the
map are single steps. -/
theorem spareLanes : Obligations.SpareLanes :=
  ⟨fun _ _ _ _ hd hb hl h1 h2 h3 h4 h5 h6 hok => readbackComparison_agrees hd hb hl ⟨h1, h2, h3, h4, h5, h6⟩ hok,
    fun _ _ _ _ hd hb hl h1 h2 h3 h4 h5 h6 hbad => readbackComparison_differs hd hb hl ⟨h1, h2, h3, h4, h5, h6⟩ hbad,
    fun _ _ _ _ _ => spareSwitchover_switches,
    fun _ _ _ _ _ => readbackComparison_passes,
    fun _ => spareMapStore_stores⟩

end Sys2Proof.Proofs

/-!
SUPPORT. The proof of keep-alives, hold states and safe pages (spec/07_drive.md, Safe values).
-/

namespace Sys2Proof.Proofs

open Sys2Proof Sys2Proof.Machine Sys2Proof.Laws

section

variable {s t w : State} {b d u v lane : Nat}

theorem bankOf_chanOf (b : Nat) (h : lane < 32) : bankOf (chanOf b lane) = b := by
  unfold bankOf chanOf
  by_cases h0 : b < 2560
  · rw [if_pos h0, if_pos (by omega)]
    omega
  · rw [if_neg h0]
    by_cases h1 : b < 3872
    · rw [if_pos h1, if_neg (by omega), if_pos (by omega)]
      omega
    · rw [if_neg h1, if_neg (by omega), if_neg (by omega)]
      omega

theorem chanOf_inj (h : chanOf b lane = chanOf b d) : lane = d := by
  unfold chanOf at h
  split at h
  · omega
  · split at h <;> omega

theorem bank_of_banks (h : t.drv.banks = s.drv.banks) (b : Nat) : t.bank b = s.bank b := by
  unfold State.bank
  rw [h]

/-! ### What changes of one bank leave of another -/

/-- Between two states a bank's record and its channels are the same. -/
structure SameBank (b : Nat) (s t : State) : Prop where
  tick : t.tick = s.tick
  bank : t.bank b = s.bank b
  chan : ∀ u, bankOf u = b → t.chan u = s.chan u

theorem SameBank.refl (b : Nat) (s : State) : SameBank b s s := ⟨rfl, rfl, fun _ _ => rfl⟩

theorem SameBank.trans (h : SameBank b s t) (k : SameBank b t w) : SameBank b s w :=
  ⟨k.tick.trans h.tick, k.bank.trans h.bank, fun u hu => (k.chan u hu).trans (h.chan u hu)⟩

theorem SameBank.setBank (s : State) (x : Bank) (h : b ≠ d) : SameBank b s (s.setBank d x) :=
  ⟨rfl, bank_setBank_other s x h, fun _ _ => rfl⟩

theorem SameBank.setChan (s : State) (c : Chan) (h : bankOf u ≠ b) : SameBank b s (s.setChan u c) :=
  ⟨rfl, rfl, fun _ hv => chan_setChan_other s c fun e => h (e ▸ hv)⟩

theorem SameBank.limiterOut (h : SameBank b s t) (hu : bankOf u = b) : t.limiterOut u = s.limiterOut u := by
  unfold State.limiterOut State.limiterAt State.bankTick
  rw [hu, h.bank, h.tick, h.chan u hu]

theorem SameBank.foldl {β : Type} {f : State → β → State} (l : List β) (s : State) (hf : ∀ s, ∀ x ∈ l, SameBank b s (f s x)) :
    SameBank b s (l.foldl f s) :=
  foldl_holds l (.refl b s) fun t x hx h => h.trans (hf t x hx)

theorem noteChange_sameBank (s : State) (h : bankOf u ≠ b) : SameBank b s (noteChange s u) := .setChan s _ h

theorem releaseHeld_sameBank (s : State) (h : bankOf u ≠ b) : SameBank b s (releaseHeld s u) := by
  unfold releaseHeld
  split
  · exact .setChan s _ h
  · exact .refl b s

theorem releaseDirect_sameBank (s : State) (h : bankOf u ≠ b) : SameBank b s (releaseDirect s u) := by
  unfold releaseDirect
  dsimp only
  split
  · exact .refl b s
  · split
    · exact .setChan s _ h
    · exact .setChan s _ h

theorem leaveHolding_sameBank (s : State) (h : b ≠ d) : SameBank b s (leaveHolding s d) := by
  unfold leaveHolding
  dsimp only
  split
  · refine .trans (.setBank s _ h) (.foldl _ _ fun t u hu => ?_)
    obtain ⟨c, hc, rfl⟩ := List.mem_map.mp hu
    have hne : bankOf c.1 ≠ b := by
      have hd := (List.mem_filter.mp hc).2
      simp only [Bool.and_eq_true, beq_iff_eq] at hd
      rw [hd.1]
      exact h.symm
    exact (releaseHeld_sameBank t hne).trans (.trans (.setChan _ _ hne) (releaseDirect_sameBank _ hne))
  · exact .refl b s

/-- What `keepCodes` does on one lane. -/
def keepCode (s : State) (u : Nat) : State :=
  let n := s.limiterOut u
  let s := if (s.chan u).motion.isSome then noteChange s u else s
  let c := s.chan u
  s.setChan u { c with out := n, target := n, taken := n, accepted := s.tick, motion := none, reached := c.reached && c.target == n }

theorem keepCodes_eq (s : State) (b : Nat) :
    keepCodes s b = (List.range 32).foldl (fun s i => keepCode s (chanOf b i)) (s.setBank b { s.bank b with safeStart := none }) := rfl

theorem keepCode_sameBank (s : State) (h : bankOf u ≠ b) : SameBank b s (keepCode s u) := by
  unfold keepCode
  dsimp only
  split
  · exact (noteChange_sameBank s h).trans (.setChan _ _ h)
  · exact .setChan s _ h

theorem keepCodes_sameBank (s : State) (h : b ≠ d) : SameBank b s (keepCodes s d) := by
  rw [keepCodes_eq]
  refine .trans (.setBank s _ h) (.foldl _ _ fun t i hi => keepCode_sameBank t ?_)
  rw [bankOf_chanOf d (List.mem_range.mp hi)]
  exact h.symm

theorem acceptKeep_sameBank (s : State) (h : b ≠ d) : SameBank b s (acceptKeep s d) := by
  have hbase : SameBank b s ((leaveHolding s d).setBank d { (leaveHolding s d).bank d with hold := .normal, lastKeep := none, commanded := false }) :=
    .trans (leaveHolding_sameBank s h) (.setBank _ _ h)
  unfold acceptKeep
  dsimp only
  split
  · exact hbase.trans (keepCodes_sameBank _ h)
  · exact hbase

/-! ### A bank that keeps the codes it holds (R217) -/

/-- A channel that rests at the code that its limiter showed in a state. -/
def RestsAt (s : State) (u : Nat) (t : State) : Prop :=
  (t.chan u).out = s.limiterOut u ∧ (t.chan u).target = s.limiterOut u ∧ (t.chan u).motion = none

theorem keepCode_rests (s : State) (u : Nat) : RestsAt s u (keepCode s u) := by
  unfold RestsAt keepCode
  dsimp only
  rw [chan_setChan]
  exact ⟨rfl, rfl, rfl⟩

theorem keepCode_sameOut (s : State) (h : v ≠ u) : SameOut v s (keepCode s u) := by
  unfold keepCode
  dsimp only
  split
  · exact (noteChange_sameOut s u v).trans (.of_chan rfl rfl (chan_setChan_other _ _ h))
  · exact .of_chan rfl rfl (chan_setChan_other _ _ h)

theorem keepCode_other (s : State) (h : v ≠ u) : (keepCode s u).chan v = s.chan v := by
  unfold keepCode
  dsimp only
  rw [chan_setChan_other _ _ h]
  split
  · exact chan_setChan_other _ _ h
  · rfl

theorem keepCode_banks (s : State) (u : Nat) : (keepCode s u).drv.banks = s.drv.banks := by
  unfold keepCode
  dsimp only
  split <;> rfl

/-- Of lanes listed once each, every one comes to rest where it stood before the first. -/
theorem keepCodeLanes_rests {l : List Nat} (hl : l.Nodup) (h32 : ∀ i ∈ l, i < 32) (s : State) {i : Nat} (hi : i ∈ l) :
    RestsAt s (chanOf b i) (l.foldl (fun s i => keepCode s (chanOf b i)) s) := by
  induction l generalizing s with
  | nil => cases hi
  | cons j l ih =>
    obtain ⟨hj, hnd⟩ := List.nodup_cons.mp hl
    have hne {k : Nat} (hk : k ∈ l) : chanOf b k ≠ chanOf b j := fun e =>
      hj (chanOf_inj e ▸ hk)
    have hrest (k : Nat) (hk : k ∈ l) : k < 32 := h32 k (List.mem_cons_of_mem j hk)
    rcases List.mem_cons.mp hi with rfl | hmem
    · refine foldl_holds (P := RestsAt s (chanOf b i)) l (keepCode_rests s _) fun t k hk h => ?_
      unfold RestsAt
      rw [keepCode_other t (hne hk).symm]
      exact h
    · have h := ih hnd hrest (keepCode s (chanOf b j)) hmem
      unfold RestsAt at h ⊢
      rwa [(keepCode_sameOut s (hne hmem)).limiterOut] at h

theorem keepCodes_bank (s : State) (b : Nat) : (keepCodes s b).bank b = { s.bank b with safeStart := none } := by
  rw [keepCodes_eq, bank_of_banks (foldl_keeps (g := fun s => s.drv.banks) (fun t i => keepCode_banks t (chanOf b i)) _ _)]
  exact bank_setBank _ _ _

/-- Of the accepted keep-alive the bank's record shows no time of its own. -/
theorem acceptKeep_bank (s : State) (b : Nat) : ((acceptKeep s b).bank b).hold = .normal ∧ ((acceptKeep s b).bank b).lastKeep = none := by
  unfold acceptKeep
  dsimp only
  split
  · rw [keepCodes_bank, bank_setBank]
    exact ⟨rfl, rfl⟩
  · rw [bank_setBank]
    exact ⟨rfl, rfl⟩

theorem acceptKeep_rests (hs : (s.bank b).hold = .safe) (hc : (s.bank b).commanded = false) {i : Nat} (hi : i < 32) :
    RestsAt s (chanOf b i) (acceptKeep s b) := by
  have hstay : leaveHolding s b = s := if_neg (by rw [hs]; exact Hold.noConfusion)
  unfold acceptKeep
  dsimp only
  rw [if_pos (by simp [hs, hc]), keepCodes_eq, hstay]
  have h := keepCodeLanes_rests (b := b) List.nodup_range (fun k hk => List.mem_range.mp hk)
    ((s.setBank b { s.bank b with hold := .normal, lastKeep := none, commanded := false }).setBank b
      { (s.setBank b { s.bank b with hold := .normal, lastKeep := none, commanded := false }).bank b with safeStart := none })
    (List.mem_range.mpr hi)
  unfold RestsAt at h ⊢
  have hlim : ((s.setBank b { s.bank b with hold := .normal, lastKeep := none, commanded := false }).setBank b
      { (s.setBank b { s.bank b with hold := .normal, lastKeep := none, commanded := false }).bank b with safeStart := none }).limiterOut
        (chanOf b i) = s.limiterOut (chanOf b i) := by
    unfold State.limiterOut State.limiterAt State.bankTick
    rw [bankOf_chanOf b hi, bank_setBank, bank_setBank, hs]
    rfl
  rwa [hlim] at h

/-! ### The keep-alive of every bank -/

/-- The time of its last keep-alive that a bank whose gate is shut keeps. -/
def keepShut (s : State) (b : Nat) : State :=
  if (s.bank b).lastKeep.isNone then s.setBank b { s.bank b with lastKeep := some s.drv.keepScan } else s

/-- The banks as the shut gates leave them, with the scan of this keep-alive. -/
def keepNoted (s : State) (shut : List Nat) : State :=
  let t := shut.foldl keepShut (writeBanks s)
  { t with drv := { t.drv with keepScan := some t.scan } }

theorem keepAlive_open {l : Nat} (ha : s.active = some l) (hg : s.lobes.gateBase ≤ (s.lobe l).claim) :
    keepAlive s = ((keepNoted s (s.shutBanks (s.lobe l).claim)).drv.banks.filter fun b =>
      !(s.shutBanks (s.lobe l).claim).contains b.1 && (b.2.hold != .normal || b.2.lastKeep.isSome)).foldl
        (fun s b => acceptKeep s b.1) (keepNoted s (s.shutBanks (s.lobe l).claim)) := by
  unfold keepAlive
  rw [ha]
  dsimp only
  rw [if_neg (by omega)]
  rfl

theorem writeBanks_frame_lobes (s : State) : Frame [.lobes] s (writeBanks s) := writeBanks_frame s

theorem keepShut_frame (s : State) (b : Nat) : Frame [.drv] s (keepShut s b) := by
  unfold keepShut
  exact .ite (setBank_frame s b _) (.refl s)

theorem keepShut_sameBank (s : State) (h : b ≠ d) : SameBank b s (keepShut s d) := by
  unfold keepShut
  split
  · exact .setBank s _ h
  · exact .refl b s

theorem keepShut_keepScan (s : State) (b : Nat) : (keepShut s b).drv.keepScan = s.drv.keepScan := by
  unfold keepShut
  split <;> rfl

theorem keepShut_sorted (s : State) (b : Nat) (h : msorted s.drv.banks = true) : msorted (keepShut s b).drv.banks = true := by
  unfold keepShut
  split
  · exact msorted_mset _ _ _ h
  · exact h

theorem keepShuts_shut (shut : List Nat) (hb : b ∈ shut) (s : State) :
    (shut.foldl keepShut s).bank b =
      (if (s.bank b).lastKeep = none then { s.bank b with lastKeep := some s.drv.keepScan } else s.bank b) := by
  induction shut generalizing s with
  | nil => cases hb
  | cons d shut ih =>
    rw [List.foldl_cons]
    by_cases hd : b = d
    · subst hd
      have hself : (keepShut s b).bank b =
          (if (s.bank b).lastKeep = none then { s.bank b with lastKeep := some s.drv.keepScan } else s.bank b) := by
        unfold keepShut
        by_cases hn : (s.bank b).lastKeep = none
        · rw [if_pos (by rw [hn]; rfl), if_pos hn, bank_setBank]
        · rw [if_neg (by rwa [Option.isNone_iff_eq_none]), if_neg hn]
      by_cases hmem : b ∈ shut
      · rw [ih hmem, hself]
        by_cases hn : (s.bank b).lastKeep = none
        · rw [if_pos hn, if_neg (Option.some_ne_none _)]
        · rw [if_neg hn, if_neg hn]
      · refine Eq.trans (SameBank.foldl (b := b) shut _ fun t x hx => keepShut_sameBank t fun e => hmem (e ▸ hx)).bank hself
    · rw [ih (List.mem_of_ne_of_mem hd hb), (keepShut_sameBank s hd).bank, keepShut_keepScan]

theorem sameBank_writeBanks (s : State) (b : Nat) : SameBank b s (writeBanks s) :=
  ⟨(writeBanks_frame s).tick rfl, bank_of_banks (congrArg Drive.banks ((writeBanks_frame s).drv rfl)) b,
    fun u _ => chan_of_chans (congrArg Drive.chans ((writeBanks_frame s).drv rfl)) u⟩

theorem keepNoted_sameBank (s : State) (shut : List Nat) (h : b ∉ shut) : SameBank b s (keepNoted s shut) :=
  .trans (sameBank_writeBanks s b) (.trans (.foldl shut _ fun t d hd => keepShut_sameBank t fun e => h (e ▸ hd)) ⟨rfl, rfl, fun _ _ => rfl⟩)

theorem keepNoted_sorted (s : State) (shut : List Nat) (h : msorted s.drv.banks = true) :
    msorted (keepNoted s shut).drv.banks = true := by
  refine foldl_holds (P := fun t => msorted t.drv.banks = true) shut ?_ fun t _ _ => keepShut_sorted t _
  rwa [(writeBanks_frame s).drv rfl]

theorem keepNoted_keepScan (s : State) (shut : List Nat) : (keepNoted s shut).drv.keepScan = some s.scan := by
  have htick : (shut.foldl keepShut (writeBanks s)).tick = s.tick :=
    (foldl_keeps (g := State.tick) (fun t _ => (keepShut_frame t _).tick rfl) shut _).trans ((writeBanks_frame s).tick rfl)
  exact congrArg (fun n => some (n / 256)) htick

end

end Sys2Proof.Proofs

/-!
SUPPORT. The keep-alive of the banks, safe transitions and safe pages (spec/07_drive.md, Safe values).
-/

namespace Sys2Proof.Proofs

open Sys2Proof Sys2Proof.Machine Sys2Proof.Laws

section

variable {s t w : State} {b d u v lane l : Nat}

theorem mem_of_mfind {α : Type} {m : SMap α} {k : Nat} {x : α} (h : mfind m k = some x) : (k, x) ∈ m := by
  induction m with
  | nil => cases h
  | cons p m ih =>
    obtain ⟨a, y⟩ := p
    unfold mfind at h
    split at h
    case isTrue he =>
      cases h
      rw [he]
      exact List.mem_cons_self
    case isFalse => exact List.mem_cons_of_mem _ (ih h)

theorem leaveHolding_safe (s : State) (b : Nat) :
    (leaveHolding s b).drv.keepScan = s.drv.keepScan ∧ (leaveHolding s b).drv.safeCodes = s.drv.safeCodes := by
  have hheld (t : State) (u : Nat) : (releaseHeld t u).drv.keepScan = t.drv.keepScan ∧ (releaseHeld t u).drv.safeCodes = t.drv.safeCodes := by
    unfold releaseHeld
    split <;> exact ⟨rfl, rfl⟩
  have hdirect (t : State) (u : Nat) : (releaseDirect t u).drv.keepScan = t.drv.keepScan ∧ (releaseDirect t u).drv.safeCodes = t.drv.safeCodes := by
    unfold releaseDirect
    dsimp only
    split
    · exact ⟨rfl, rfl⟩
    · split <;> exact ⟨rfl, rfl⟩
  unfold leaveHolding
  dsimp only
  split
  · refine foldl_holds (P := fun t => t.drv.keepScan = s.drv.keepScan ∧ t.drv.safeCodes = s.drv.safeCodes) _ ⟨rfl, rfl⟩ fun t u _ h => ?_
    rw [(hdirect _ u).1, (hdirect _ u).2]
    exact ⟨(hheld t u).1.trans h.1, (hheld t u).2.trans h.2⟩
  · exact ⟨rfl, rfl⟩

theorem keepCode_keepScan (s : State) (u : Nat) : (keepCode s u).drv.keepScan = s.drv.keepScan := by
  unfold keepCode
  dsimp only
  split <;> rfl

theorem acceptKeep_keepScan (s : State) (b : Nat) : (acceptKeep s b).drv.keepScan = s.drv.keepScan := by
  unfold acceptKeep
  dsimp only
  split
  · rw [keepCodes_eq, foldl_keeps (g := fun s => s.drv.keepScan) (fun t i => keepCode_keepScan t (chanOf b i))]
    exact (leaveHolding_safe s b).1
  · exact (leaveHolding_safe s b).1

/-- A bank that has returned to NORMAL with nothing of its own noted, its lanes at rest where they stood if it was SAFE. -/
def Returned (s : State) (b : Nat) (t : State) : Prop :=
  ((t.bank b).hold = .normal ∧ (t.bank b).lastKeep = none) ∧
    ((s.bank b).hold = .safe → (s.bank b).commanded = false → ∀ i < 32, RestsAt s (chanOf b i) t)

theorem acceptKeep_returns (h : SameBank b s t) : Returned s b (acceptKeep t b) := by
  refine ⟨acceptKeep_bank t b, fun hs hc i hi => ?_⟩
  have hrests := acceptKeep_rests (s := t) (by rwa [h.bank]) (by rwa [h.bank]) hi
  unfold RestsAt at hrests ⊢
  rwa [h.limiterOut (bankOf_chanOf b hi)] at hrests

theorem acceptKeep_returned (h : Returned s b t) : Returned s b (acceptKeep t b) := by
  refine ⟨acceptKeep_bank t b, fun hs hc i hi => ?_⟩
  have hstay : leaveHolding t b = t := if_neg (by rw [h.1.1]; exact Hold.noConfusion)
  have hchan : (acceptKeep t b).chan (chanOf b i) = t.chan (chanOf b i) := by
    unfold acceptKeep
    dsimp only
    rw [if_neg (by simp [h.1.1]), hstay]
    rfl
  unfold RestsAt
  rw [hchan]
  exact h.2 hs hc i hi

theorem returned_sameBank (h : Returned s b t) (k : SameBank b t w) : Returned s b w := by
  refine ⟨by rw [k.bank]; exact h.1, fun hs hc i hi => ?_⟩
  unfold RestsAt
  rw [k.chan _ (bankOf_chanOf b hi)]
  exact h.2 hs hc i hi

/-- Of the banks that accept a keep-alive every listed one returns to NORMAL. -/
theorem acceptKeeps_returns (l : List (Nat × Bank)) (h : SameBank b s t) (hb : ∃ e ∈ l, e.1 = b) :
    Returned s b (l.foldl (fun s e => acceptKeep s e.1) t) := by
  induction l generalizing t with
  | nil => simp at hb
  | cons e l ih =>
    by_cases he : e.1 = b
    · refine foldl_holds (P := Returned s b) l (he ▸ acceptKeep_returns (he ▸ h)) fun t e _ ht => ?_
      by_cases hd : e.1 = b
      · exact hd ▸ acceptKeep_returned (hd ▸ ht)
      · exact returned_sameBank ht (acceptKeep_sameBank t (Ne.symm hd))
    · obtain ⟨x, hx, hxb⟩ := hb
      rcases List.mem_cons.mp hx with rfl | hmem
      · exact absurd hxb he
      · exact ih (h.trans (acceptKeep_sameBank t (Ne.symm he))) ⟨x, hmem, hxb⟩

theorem keepAlive_returns (ha : s.active = some l) (hg : s.lobes.gateBase ≤ (s.lobe l).claim) (hb : b ∉ s.shutBanks (s.lobe l).claim)
    (hh : (s.bank b).hold ≠ .normal) :
    ((keepAlive s).bank b).hold = .normal ∧ (keepAlive s).drv.keepScan = some s.scan ∧ (keepAlive s).lastKeepOf b = some s.scan ∧
      ((s.bank b).hold = .safe → (s.bank b).commanded = false →
        ∀ i < 32, ((keepAlive s).chan (chanOf b i)).out = s.limiterOut (chanOf b i) ∧
          ((keepAlive s).chan (chanOf b i)).target = s.limiterOut (chanOf b i) ∧
          ((keepAlive s).chan (chanOf b i)).motion = none) := by
  have hsame := keepNoted_sameBank s _ hb
  have hscan : (keepAlive s).drv.keepScan = some s.scan := by
    rw [keepAlive_open ha hg, foldl_keeps (g := fun s => s.drv.keepScan) (fun t (e : Nat × Bank) => acceptKeep_keepScan t e.1)]
    exact keepNoted_keepScan s _
  have hret : Returned s b (keepAlive s) := by
    rw [keepAlive_open ha hg]
    refine acceptKeeps_returns _ hsame ?_
    have hhold := hsame.bank.symm ▸ hh
    generalize keepNoted s (s.shutBanks (s.lobe l).claim) = t at hhold
    cases hf : mfind t.drv.banks b with
    | none =>
      refine absurd ?_ hhold
      unfold State.bank mget
      rw [hf]
      rfl
    | some x =>
      have hx : x.hold ≠ .normal := by
        unfold State.bank mget at hhold
        rwa [hf] at hhold
      exact ⟨(b, x), List.mem_filter.mpr ⟨mem_of_mfind hf, by simp [hb, hx]⟩, rfl⟩
  obtain ⟨⟨hnormal, hlast⟩, hrest⟩ := hret
  refine ⟨hnormal, hscan, ?_, hrest⟩
  unfold State.lastKeepOf
  rw [hlast]
  exact hscan

theorem keepAlive_shut (ha : s.active = some l) (hb : b ∈ s.shutBanks (s.lobe l).claim) :
    (keepAlive s).bank b = (if s.lobes.gateBase ≤ (s.lobe l).claim ∧ (s.bank b).lastKeep = none
      then { s.bank b with lastKeep := some s.drv.keepScan } else s.bank b) := by
  by_cases hg : s.lobes.gateBase ≤ (s.lobe l).claim
  · have hnoted : (keepNoted s (s.shutBanks (s.lobe l).claim)).bank b =
        (if (s.bank b).lastKeep = none then { s.bank b with lastKeep := some s.drv.keepScan } else s.bank b) := by
      refine (keepShuts_shut _ hb (writeBanks s)).trans ?_
      rw [(sameBank_writeBanks s b).bank, (writeBanks_frame s).drv rfl]
    rw [keepAlive_open ha hg, (SameBank.foldl (b := b) _ _ fun t e he => acceptKeep_sameBank t fun h => ?_).bank, hnoted]
    · simp only [hg, true_and]
    · have hopen := (List.mem_filter.mp he).2
      simp only [Bool.and_eq_true, Bool.not_eq_true', List.contains_eq_mem, decide_eq_false_iff_not] at hopen
      exact hopen.1 (h ▸ hb)
  · rw [if_neg fun h => hg h.1]
    unfold keepAlive
    rw [ha]
    dsimp only
    rw [if_pos (by omega)]
    exact (sameBank_writeBanks s b).bank

/-! ### Hold states (R217) -/

theorem bankHolding_holds {k : Nat} (hk : s.lastKeepOf b = some k) (ht : k + 64 ≤ s.scan) (hn : (s.bank b).hold = .normal) (hb : b < 3874) :
    ∃ t, exec (.bankHolding b) s = .next t ∧ (t.bank b).hold = .holding ∧ (t.bank b).holdTick = s.tick ∧
      t.drv.chans = s.drv.chans ∧ Frame [.ex, .drv] s t := by
  have hrun : exec (.bankHolding b) s = finish s (s.setBank b { s.bank b with hold := .holding, holdTick := s.tick }) := by
    show execBankHolding b s = _
    unfold execBankHolding
    rw [hk]
    exact congrArg (finish s) (if_pos ⟨ht, hn, hb⟩)
  have hbank : (sealed s (s.setBank b { s.bank b with hold := .holding, holdTick := s.tick })).bank b =
      { s.bank b with hold := .holding, holdTick := s.tick } := bank_setBank _ _ _
  refine ⟨_, hrun, ?_, ?_, rfl, frame_sealed (.mono (setBank_frame s b _) (by decide)) (by decide)⟩
  · rw [hbank]
  · rw [hbank]

/-- What a safe transition of channels leaves: the banks and the safe codes. -/
structure SafeRegs (s t : State) : Prop where
  banks : t.drv.banks = s.drv.banks
  codes : t.drv.safeCodes = s.drv.safeCodes

theorem stopGen_target (s : State) (u v : Nat) : ((stopGen s u).chan v).target = (s.chan v).target := by
  unfold stopGen
  split
  · show ((noteChange s u).chan v).target = _
    unfold noteChange
    by_cases h : v = u
    · subst h
      rw [chan_setChan]
    · rw [chan_setChan_other _ _ h]
  · rfl

theorem stopGen_regs (s : State) (u : Nat) : SafeRegs s (stopGen s u) := by
  unfold stopGen
  split <;> exact ⟨rfl, rfl⟩

theorem stopSpanSeq_regs (s : State) (u : Nat) : SafeRegs s (stopSpanSeq s u) := by
  unfold stopSpanSeq
  split <;> exact ⟨rfl, rfl⟩

theorem stopSpanSeq_other (s : State) (h : v ≠ u) : (stopSpanSeq s u).chan v = s.chan v := by
  unfold stopSpanSeq
  split
  · exact (chan_setChan_other _ _ h).trans (chan_setChan_other _ _ h)
  · rfl

theorem safeRamp_regs (s : State) (u k : Nat) : SafeRegs s (safeRamp s u k) := by
  unfold safeRamp
  dsimp only
  split
  · exact ⟨rfl, rfl⟩
  · split
    · exact ⟨rfl, rfl⟩
    · exact ⟨(stopSpanSeq_regs s u).banks, (stopSpanSeq_regs s u).codes⟩

theorem safeRamp_target (s : State) (u k : Nat) : ((safeRamp s u k).chan u).target = s.safeCode u := by
  unfold safeRamp
  dsimp only
  split
  · unfold startRamp
    rw [chan_setChan]
  · split
    · unfold startRamp
      rw [chan_setChan]
    · rw [chan_setChan]
      rfl

theorem safeRamp_other (s : State) (k : Nat) (h : v ≠ u) : (safeRamp s u k).chan v = s.chan v := by
  unfold safeRamp
  dsimp only
  split
  · exact chan_setChan_other _ _ h
  · split
    · exact chan_setChan_other _ _ h
    · exact (chan_setChan_other _ _ h).trans (stopSpanSeq_other s h)

theorem safeCode_of_codes (h : t.drv.safeCodes = s.drv.safeCodes) (u : Nat) : t.safeCode u = s.safeCode u := by
  unfold State.safeCode
  rw [h]

theorem safeChan_regs (s : State) (k u : Nat) : SafeRegs s (safeChan s k u) := by
  have hstop := stopGen_regs s u
  have hstop2 := stopGen_regs (stopGen s u) u
  unfold safeChan
  dsimp only
  split
  · exact ⟨hstop2.banks.trans hstop.banks, hstop2.codes.trans hstop.codes⟩
  · have hramp := safeRamp_regs (stopGen s u) u k
    exact ⟨hramp.banks.trans hstop.banks, hramp.codes.trans hstop.codes⟩

theorem safeChan_target (s : State) (k u : Nat) : ((safeChan s k u).chan u).target = s.safeCode u := by
  have hstop := stopGen_regs s u
  have hstop2 := stopGen_regs (stopGen s u) u
  unfold safeChan
  dsimp only
  split
  · rw [chan_setChan]
    exact safeCode_of_codes (hstop2.codes.trans hstop.codes) u
  · rw [safeRamp_target]
    exact safeCode_of_codes hstop.codes u

theorem safeChan_other (s : State) (k : Nat) (h : v ≠ u) : ((safeChan s k u).chan v).target = (s.chan v).target := by
  unfold safeChan
  dsimp only
  split
  · rw [chan_setChan_other _ _ h]
    unfold startSpanSeq
    rw [chan_setChan_other _ _ h, stopGen_target, stopGen_target]
  · rw [safeRamp_other _ _ h, stopGen_target]

/-- Of the lanes of a list every one has its safe code for its target. -/
theorem safeChans_target (k : Nat) {l : List Nat} {i : Nat} (hi : i ∈ l) (s : State) :
    ((l.foldl (fun s i => safeChan s k (chanOf b i)) s).chan (chanOf b i)).target = s.safeCode (chanOf b i) ∧
      SafeRegs s (l.foldl (fun s i => safeChan s k (chanOf b i)) s) := by
  induction l generalizing s with
  | nil => cases hi
  | cons j l ih =>
    have hregs := safeChan_regs s k (chanOf b j)
    by_cases hmem : i ∈ l
    · obtain ⟨htarget, hrest⟩ := ih hmem (safeChan s k (chanOf b j))
      exact ⟨htarget.trans (safeCode_of_codes hregs.codes _), hrest.banks.trans hregs.banks, hrest.codes.trans hregs.codes⟩
    · have hij : i = j := (List.mem_cons.mp hi).resolve_right hmem
      subst hij
      refine foldl_holds (P := fun t => (t.chan (chanOf b i)).target = s.safeCode (chanOf b i) ∧ SafeRegs s t) l
        ⟨safeChan_target s k _, hregs⟩ fun t j hj ⟨ht, hr⟩ => ?_
      have hne : chanOf b i ≠ chanOf b j := fun e => hmem (chanOf_inj e ▸ hj)
      have hr2 := safeChan_regs t k (chanOf b j)
      exact ⟨(safeChan_other t k hne).trans ht, hr2.banks.trans hr.banks, hr2.codes.trans hr.codes⟩

theorem safeBank_eq (s : State) (k b : Nat) : safeBank s k b =
    (List.range 32).foldl (fun s i => safeChan s k (chanOf b i)) (s.setBank b { s.bank b with safeStart := some k }) := rfl

theorem safeBank_safe (s : State) (k b : Nat) :
    (safeBank s k b).bank b = { s.bank b with safeStart := some k } ∧
      ∀ i < 32, ((safeBank s k b).chan (chanOf b i)).target = s.safeCode (chanOf b i) := by
  have hmem : ∀ i < 32, i ∈ List.range 32 := fun i hi => List.mem_range.mpr hi
  have hcode (u : Nat) : (s.setBank b { s.bank b with safeStart := some k }).safeCode u = s.safeCode u := rfl
  have hbank := bank_setBank s b { s.bank b with safeStart := some k }
  rw [safeBank_eq]
  generalize List.range 32 = l at hmem
  generalize s.setBank b { s.bank b with safeStart := some k } = w at hcode hbank
  refine ⟨?_, fun i hi => ?_⟩
  · exact (bank_of_banks (safeChans_target k (hmem 0 (by omega)) w).2.banks b).trans hbank
  · exact (safeChans_target k (hmem i hi) w).1.trans (hcode _)

theorem driveSafe_safe {k : Nat} (hk : s.lastKeepOf b = some k) (ht : s.elapsed (256 * k) (1000 * s.objN Obj.HOLD_TIMEOUT 0) = true)
    (hn : (s.bank b).hold ≠ .safe) (hb : b < 3874) :
    ∃ t, exec (.driveSafe b) s = .next t ∧ (t.bank b).hold = .safe ∧ (t.bank b).safeStart = some s.tick ∧
      (∀ l < 32, (t.chan (chanOf b l)).target = s.safeCode (chanOf b l)) := by
  have hrun : exec (.driveSafe b) s = finish s (raiseDriveSafe (safeBank ((leaveHolding s b).setBank b
      { (leaveHolding s b).bank b with hold := .safe, commanded := false }) (leaveHolding s b).tick b)) := by
    show execDriveSafe b s = _
    unfold execDriveSafe
    rw [hk]
    exact congrArg (finish s) (if_pos ⟨ht, hn, hb⟩)
  have htick : (leaveHolding s b).tick = s.tick := (leaveHolding_frame s b).tick rfl
  have hcodes := (leaveHolding_safe s b).2
  obtain ⟨hbank, htarget⟩ := safeBank_safe ((leaveHolding s b).setBank b
      { (leaveHolding s b).bank b with hold := .safe, commanded := false }) (leaveHolding s b).tick b
  generalize safeBank ((leaveHolding s b).setBank b
      { (leaveHolding s b).bank b with hold := .safe, commanded := false }) (leaveHolding s b).tick b = w at hrun hbank htarget
  rw [bank_setBank] at hbank
  have hdrv : (sealed s (raiseDriveSafe w)).drv = w.drv := (raiseDriveSafe_frame w).drv rfl
  have hb : (sealed s (raiseDriveSafe w)).bank b = w.bank b := bank_of_banks (congrArg Drive.banks hdrv) b
  refine ⟨_, hrun, ?_, ?_, fun i hi => ?_⟩
  · rw [hb, hbank]
  · rw [hb, hbank, htick]
  · rw [chan_of_chans (congrArg Drive.chans hdrv), htarget i hi]
    exact safeCode_of_codes hcodes _

/-- A channel whose fixed ramp has reached its code. -/
def rampEnded (s : State) (u goal : Nat) : State := s.setChan u { s.chan u with out := goal, motion := none, changed := s.tick }

theorem rampEnded_chan (s : State) (u goal : Nat) :
    (rampEnded s u goal).chan u = { s.chan u with out := goal, motion := none, changed := s.tick } := chan_setChan _ _ _

theorem rampEnded_other (s : State) (goal : Nat) (h : v ≠ u) : (rampEnded s u goal).chan v = s.chan v := chan_setChan_other _ _ h

theorem execSafeTransitionEnd_ramp {start from_ goal num den : Nat} (hm : (s.chan u).motion = some (.ramp start from_ goal num den))
    (hl : s.limiterOut u = goal) (hh : (s.bank (bankOf u)).hold ≠ .holding) :
    exec (.safeTransitionEnd u) s = finish s (if (rampEnded s u goal).bankMoves (bankOf u) then rampEnded s u goal
      else (rampEnded s u goal).setBank (bankOf u) { (rampEnded s u goal).bank (bankOf u) with safeStart := none }) := by
  show execSafeTransitionEnd u s = _
  unfold execSafeTransitionEnd
  dsimp only
  rw [hm]
  exact congrArg (finish s) (if_pos ⟨hl, hh⟩)

theorem safeTransitionEnd_ends {start from_ goal num den : Nat} (hm : (s.chan u).motion = some (.ramp start from_ goal num den))
    (hl : s.limiterOut u = goal) (hh : (s.bank (bankOf u)).hold ≠ .holding) :
    ∃ t, exec (.safeTransitionEnd u) s = .next t ∧ (t.chan u).out = goal ∧ (t.chan u).motion = none ∧
      (∀ v, v ≠ u → t.chan v = s.chan v) ∧ Frame [.ex, .drv] s t := by
  have hrun := execSafeTransitionEnd_ramp hm hl hh
  have hself := rampEnded_chan s u goal
  have hother (v : Nat) (h : v ≠ u) := rampEnded_other s goal h
  have hframe : Frame [.drv] s (rampEnded s u goal) := setChan_frame s u _
  generalize rampEnded s u goal = w at hrun hself hother hframe
  have hchan (v : Nat) : (if w.bankMoves (bankOf u) then w
      else w.setBank (bankOf u) { w.bank (bankOf u) with safeStart := none }).chan v = w.chan v := by
    split <;> rfl
  have hkept : Frame [.drv] s (if w.bankMoves (bankOf u) then w
      else w.setBank (bankOf u) { w.bank (bankOf u) with safeStart := none }) := .ite hframe (hframe.trans (setBank_frame w _ _))
  generalize (if w.bankMoves (bankOf u) then w
      else w.setBank (bankOf u) { w.bank (bankOf u) with safeStart := none }) = x at hrun hchan hkept
  have hc (v : Nat) : (sealed s x).chan v = w.chan v := hchan v
  refine ⟨_, hrun, ?_, ?_, fun v hv => (hc v).trans (hother v hv), frame_sealed (.mono hkept (by decide)) (by decide)⟩
  · rw [hc, hself]
  · rw [hc, hself]

/-! ### Safe pages (R219, R221) -/

/-- A page whose heaters fit the budget. -/
abbrev PageFits (s : State) (p : SafePage) : Prop := (s.pageHeat p : Int) ≤ 1000 * s.steady.budget * unitScale

theorem pageHeat_of_objs (h : t.objs = s.objs) (p : SafePage) : t.pageHeat p = s.pageHeat p := by
  unfold State.pageHeat
  dsimp only
  simp only [objN_of_objs h]

/-- A sound Steady decides at once by the fit alone. -/
theorem decideNow_sound (hf : s.steady.frozen = false) (hu : s.steady.upsets = []) (kind : Nat) (fits : State → Bool) :
    decideNow s kind fits = if fits s then (s, true) else (s.incSat Obj.GRANTS_REFUSED 0, false) := by
  unfold decideNow
  rw [steadyDecides_sound hf hu]
  rfl

theorem pageCommand_fits {p : SafePage} (hb : s.flashBusy = false) (ho : s.flashOk = true) (hf : s.steady.frozen = false)
    (hu : s.steady.upsets = []) (h : PageFits s p) : pageCommand s p = (storePage s p, .owe .safeStore) := by
  unfold pageCommand
  rw [if_neg (by rw [hb]; exact Bool.false_ne_true), if_neg (by simp [ho]), decideNow_sound hf hu, if_pos (decide_eq_true h)]
  rfl

theorem pageCommand_over {p : SafePage} (hb : s.flashBusy = false) (ho : s.flashOk = true) (hf : s.steady.frozen = false)
    (hu : s.steady.upsets = []) (h : ¬ PageFits s p) : pageCommand s p = (s.incSat Obj.GRANTS_REFUSED 0, .nak .budget) := by
  unfold pageCommand
  rw [if_neg (by rw [hb]; exact Bool.false_ne_true), if_neg (by simp [ho]), decideNow_sound hf hu,
    if_neg (by rw [decide_eq_false h]; exact Bool.false_ne_true)]
  rfl

theorem storePage_eq (s : State) (p : SafePage) : storePage s p =
    { s with dev := { s.dev with page := some p, store := some ⟨.safePage, [0]⟩ }, drv := { s.drv with spareMapDue := none } } :=
  startStore_runs (k := .safePage) (by simp) (List.cons_ne_nil 0 [])

/-- The page that SAFE_STORE writes with nothing staged. -/
def storedPage (s : State) : SafePage := s.fillPage { s.pageNow with gen := (s.pageNow.gen + 1) % 0x100000000 }

/-- The page that SAFE_REVERT writes. -/
def revertedPage (s : State) : SafePage :=
  s.fillPage { gen := (s.pageNow.gen + 1) % 0x100000000, calGen := s.pageNow.calGen,
               codes := s.pageNow.codes.filter fun e => decide (122880 ≤ e.1 ∧ e.1 < 123904) }

theorem effSafeRevert_eq (s : State) : effSafeRevert s = pageCommand s (revertedPage s) := rfl

theorem effSafeStore_eq (hc : s.stagedOf Obj.SAFE_CODE = []) (hs : s.stagedOf Obj.SAFE_SPAN = []) :
    effSafeStore s = match pageCommand s (storedPage s) with
      | (s, .owe k) => ({ s with staged := mdel (mdel s.staged Obj.SAFE_CODE) Obj.SAFE_SPAN }, .owe k)
      | r => r := by
  unfold effSafeStore
  rw [hc, hs]
  rfl

/-- A page is being stored, to be answered at its completion. -/
def Storing (sess : Nat) (p : SafePage) (t : State) : Prop :=
  t.storing .safePage ∧ t.dev.page = some p ∧ ∃ o ∈ t.ex.owed, o.kind = .safeStore ∧ o.sess = sess

variable {sess addr : Nat} {p : SafePage} {eff : State → State × Verdict}

/-- A write whose effect begins the store of a page and owes its answer. -/
theorem hostWrite_storing {u : State} (h : s.accepts sess addr 0 1 = true)
    (heff : eff (seen s sess) = (u, .owe .safeStore)) (hu : u.dev = (storePage (seen s sess) p).dev) :
    Storing sess p (sealed s (hostWrite s sess addr 0 1 eff)) := by
  rw [hostWrite_owe h heff]
  rw [storePage_eq] at hu
  refine ⟨.inl ⟨⟨.safePage, [0]⟩, ?_, rfl⟩, ?_, ⟨_, List.mem_append_right _ (List.mem_singleton_self _), rfl, rfl⟩⟩
  · exact congrArg Device.store hu
  · exact congrArg Device.page hu

/-- A write whose page exceeds the budget is refused, and the device's record stays. -/
theorem hostWrite_overBudget (h : s.accepts sess addr 0 1 = true) (ha : addr ≠ Obj.LOAD_CLOSE)
    (heff : eff (seen s sess) = ((seen s sess).incSat Obj.GRANTS_REFUSED 0, .nak .budget)) :
    (sealed s (hostWrite s sess addr 0 1 eff)).answered sess 0 addr 0 (.nak .budget 0 0) ∧
      (sealed s (hostWrite s sess addr 0 1 eff)).dev = s.dev := by
  obtain ⟨hans, hframe⟩ := hostWrite_naks h ha (congrArg Prod.snd heff) (by
    rw [heff]
    exact .frame (State.incSat_frame _ _ _) (by decide) (.refl _))
  rw [heff] at hframe
  exact ⟨hans, (hframe.dev rfl).trans ((seen_frame s sess).dev rfl)⟩

/-- What a page command needs to be decided at once. -/
structure PageReady (s : State) : Prop where
  busy : s.flashBusy = false
  flash : s.flashOk = true
  frozen : s.steady.frozen = false
  upsets : s.steady.upsets = []

theorem PageReady.seen (h : PageReady s) (sess : Nat) : PageReady (seen s sess) := by
  obtain ⟨hb, hf, hz, hu⟩ := h
  rw [seen_eq]
  exact ⟨hb, hf, hz, hu⟩

theorem pageFits_seen (s : State) (sess : Nat) (p : SafePage) : PageFits (seen s sess) p ↔ PageFits s p := by
  unfold PageFits
  rw [pageHeat_of_objs ((seen_frame s sess).objs rfl), (seen_frame s sess).steady rfl]

theorem storedPage_seen (s : State) (sess : Nat) : storedPage (seen s sess) = storedPage s := by
  rw [seen_eq]
  generalize (seen s sess).ex = x
  rfl

theorem revertedPage_seen (s : State) (sess : Nat) : revertedPage (seen s sess) = revertedPage s := by
  rw [seen_eq]
  generalize (seen s sess).ex = x
  rfl

theorem safeRevert_answers (h : s.accepts sess Obj.SAFE_REVERT 0 1 = true) (hr : PageReady s) (hp : p = revertedPage s) :
    ∃ t, exec (.safeRevert sess) s = .next t ∧
      if PageFits s p then Storing sess p t
      else t.answered sess 0 Obj.SAFE_REVERT 0 (.nak .budget 0 0) ∧ t.dev = s.dev := by
  subst hp
  have hseen := hr.seen sess
  have heff := effSafeRevert_eq (seen s sess)
  rw [revertedPage_seen] at heff
  generalize revertedPage s = p at heff ⊢
  refine ⟨_, rfl, ?_⟩
  split
  case isTrue hfit =>
    rw [pageCommand_fits hseen.busy hseen.flash hseen.frozen hseen.upsets ((pageFits_seen s sess p).mpr hfit)] at heff
    exact hostWrite_storing h heff rfl
  case isFalse hfit =>
    rw [pageCommand_over hseen.busy hseen.flash hseen.frozen hseen.upsets (fun k => hfit ((pageFits_seen s sess p).mp k))] at heff
    exact hostWrite_overBudget h (by decide) heff

theorem stagedOf_seen (s : State) (sess addr : Nat) : (seen s sess).stagedOf addr = s.stagedOf addr := by
  unfold State.stagedOf
  rw [(seen_frame s sess).staged rfl]

theorem safeStore_answers (h : s.accepts sess Obj.SAFE_STORE 0 1 = true) (hr : PageReady s) (hc : s.stagedOf Obj.SAFE_CODE = [])
    (hs : s.stagedOf Obj.SAFE_SPAN = []) (hp : p = storedPage s) :
    ∃ t, exec (.safeStore sess) s = .next t ∧
      if PageFits s p then Storing sess p t
      else t.answered sess 0 Obj.SAFE_STORE 0 (.nak .budget 0 0) ∧ t.dev = s.dev := by
  subst hp
  have hseen := hr.seen sess
  have heff := effSafeStore_eq ((stagedOf_seen s sess Obj.SAFE_CODE).trans hc) ((stagedOf_seen s sess Obj.SAFE_SPAN).trans hs)
  rw [storedPage_seen] at heff
  generalize storedPage s = p at heff ⊢
  refine ⟨_, rfl, ?_⟩
  split
  case isTrue hfit =>
    rw [pageCommand_fits hseen.busy hseen.flash hseen.frozen hseen.upsets ((pageFits_seen s sess p).mpr hfit)] at heff
    exact hostWrite_storing h heff rfl
  case isFalse hfit =>
    rw [pageCommand_over hseen.busy hseen.flash hseen.frozen hseen.upsets (fun k => hfit ((pageFits_seen s sess p).mp k))] at heff
    exact hostWrite_overBudget h (by decide) heff

theorem safeStore_barred (h : s.accepts sess Obj.SAFE_STORE 0 1 = true) (hb : s.flashBusy = false) (hf : s.flashOk = false) :
    ∃ t, exec (.safeStore sess) s = .next t ∧ t.answered sess 0 Obj.SAFE_STORE 0 (.nak .state 0 0) ∧ Frame [.ex] s t := by
  have hpage (v : State) (p : SafePage) (hb : v.flashBusy = false) (hf : v.flashOk = false) : pageCommand v p = (v, .nak .state) := by
    unfold pageCommand
    rw [if_neg (by rw [hb]; exact Bool.false_ne_true), if_pos (by simp [hf])]
  have heff : effSafeStore (seen s sess) = (seen s sess, .nak .state) := by
    unfold effSafeStore
    dsimp only
    rw [hpage _ _ (by rw [seen_eq]; exact hb) (by rw [seen_eq]; exact hf)]
  obtain ⟨hans, hframe⟩ := hostWrite_refused h heff (by decide)
  exact ⟨_, rfl, hans, frame_sealed hframe (by decide)⟩

end

/-- Settles O38: the keep-alive bank by bank, the hold states and the ramp's end as single steps, and the page commands by whether their
page fits. -/
theorem safeValues : Obligations.SafeValues :=
  ⟨fun _ _ _ ha hg hb _ hh _ => keepAlive_returns ha hg hb hh,
    fun _ _ _ => keepAlive_shut,
    fun _ _ _ => bankHolding_holds,
    fun _ _ _ => driveSafe_safe,
    fun _ _ _ _ _ _ _ => safeTransitionEnd_ends,
    fun _ _ _ h hb hf hc hs hz hu hp => safeStore_answers h ⟨hb, hf, hz, hu⟩ hc hs hp,
    fun _ _ => safeStore_barred,
    fun _ _ _ h hb hf hz hu hp => safeRevert_answers h ⟨hb, hf, hz, hu⟩ hp⟩

end Sys2Proof.Proofs

/-!
SUPPORT. The proof of monitor banks, references and gain modes (spec/08_monitor.md, Front ends and gains, Monitor banks).
-/

namespace Sys2Proof.Proofs

open Sys2Proof Sys2Proof.Machine Sys2Proof.Laws

section

variable {s t : State} {mb b pd k sess : Nat}

/-! ### The monitor's records -/

@[simp] theorem monBank_setMonBank (s : State) (b : Nat) (x : MonBank) : (s.setMonBank b x).monBank b = x := by
  simp [State.monBank, State.setMonBank, mget]

theorem monBank_setMonBank_other (s : State) (x : MonBank) (h : b ≠ mb) : (s.setMonBank mb x).monBank b = s.monBank b :=
  mget_mset_other _ _ _ h

theorem monBank_of_mon (h : t.mon = s.mon) (b : Nat) : t.monBank b = s.monBank b := by
  unfold State.monBank
  rw [h]

theorem pd_of_pds (h : t.mon.pds = s.mon.pds) (p : Nat) : t.pd p = s.pd p := by
  unfold State.pd
  rw [h]

@[simp] theorem pd_setPd (s : State) (p : Nat) (x : Pd) : (s.setPd p x).pd p = x := by
  simp [State.pd, State.setPd, mget]

theorem pd_setPd_other (s : State) (x : Pd) (h : k ≠ pd) : (s.setPd pd x).pd k = s.pd k := mget_mset_other _ _ _ h

/-- A write of an object at another address. -/
theorem obj_setObj_addr {a a' i j : Nat} (v : Int) (h : a' ≠ a) : (s.setObj a i v).obj a' j = s.obj a' j :=
  obj_setObj_other v fun e => h e.1

theorem objN_setObjN_self (s : State) (a i : Nat) (v : Nat) : (s.setObjN a i v).objN a i = v := by
  unfold State.objN
  rw [obj_setObjN]
  exact Int.toNat_natCast v

/-! ### References (R236) -/

theorem refReady_ready (hk : (s.monBank mb).timer = some k) (hb : mb < 164) :
    ∃ t, exec (.refReady mb) s = .next t ∧
      if k ≤ s.tick then
        (t.monBank mb).ready = true ∧ (t.monBank mb).timer = none ∧ (t.monBank mb).readyAt = s.tick ∧ t.objN Obj.REF_READY mb = 1 ∧
          (∀ b, b ≠ mb → t.monBank b = s.monBank b) ∧ Frame [.objs, .ex, .mon] s t
      else Frame [.ex] s t := by
  by_cases ht : k ≤ s.tick
  · have hrun : exec (.refReady mb) s = finish s (fixedGains ((s.setMonBank mb
        { s.monBank mb with ready := true, timer := none, readyAt := s.tick }).setObjN Obj.REF_READY mb 1) mb) := by
      show execRefReady mb s = _
      unfold execRefReady
      dsimp only
      rw [hk]
      exact congrArg (finish s) (if_pos ⟨ht, hb⟩)
    have hself := monBank_setMonBank s mb { s.monBank mb with ready := true, timer := none, readyAt := s.tick }
    have hother (b : Nat) (h : b ≠ mb) :=
      monBank_setMonBank_other s { s.monBank mb with ready := true, timer := none, readyAt := s.tick } h
    have hframe : Frame [.objs, .mon] s ((s.setMonBank mb
        { s.monBank mb with ready := true, timer := none, readyAt := s.tick }).setObjN Obj.REF_READY mb 1) :=
      .step (State.setObjN_frame _ _ _ _) (by decide) (.set_mon (by decide) (.refl s))
    have hobj := objN_setObjN_self (s.setMonBank mb
        { s.monBank mb with ready := true, timer := none, readyAt := s.tick }) Obj.REF_READY mb 1
    refine ⟨_, hrun, ?_⟩
    rw [if_pos ht]
    refine ⟨?_, ?_, ?_, hobj, hother, frame_sealed (.step (fixedGains_frame _ _) (by decide) (.mono hframe (by decide))) (by decide)⟩
    · exact congrArg MonBank.ready hself
    · exact congrArg MonBank.timer hself
    · exact congrArg MonBank.readyAt hself
  · have hrun : exec (.refReady mb) s = finish s s := by
      show execRefReady mb s = _
      unfold execRefReady
      dsimp only
      rw [hk]
      exact congrArg (finish s) (if_neg fun h => ht h.1)
    refine ⟨_, hrun, ?_⟩
    rw [if_neg ht]
    exact frame_sealed (.refl s) (by decide)

theorem refFollow_starts (he : s.obj Obj.REF_ENABLE mb = 1) (hp : s.obj Obj.BANK_POWER mb = 1) (hr : (s.monBank mb).ready = false)
    (ht : (s.monBank mb).timer = none) :
    refFollow s mb = s.setMonBank mb { s.monBank mb with timer := some (s.tick + 312500) } := by
  unfold refFollow
  dsimp only
  rw [if_pos ⟨he, hp⟩, if_neg (by simp [hr, ht])]

theorem refFollow_clears (h : ¬ (s.obj Obj.REF_ENABLE mb = 1 ∧ s.obj Obj.BANK_POWER mb = 1)) :
    refFollow s mb = (s.setMonBank mb { s.monBank mb with ready := false, timer := none }).setObjN Obj.REF_READY mb 0 := by
  unfold refFollow
  exact if_neg h

theorem refFollow_other (s : State) (h : b ≠ mb) : (refFollow s mb).monBank b = s.monBank b := by
  unfold refFollow
  dsimp only
  split
  · split
    · rfl
    · exact monBank_setMonBank_other s _ h
  · exact monBank_setMonBank_other s _ h

theorem refFollow_on (s : State) (mb : Nat) : ((refFollow s mb).monBank mb).on = (s.monBank mb).on := by
  unfold refFollow
  dsimp only
  split
  · split
    · rfl
    · rw [monBank_setMonBank]
  · exact (congrArg MonBank.on (monBank_setMonBank s mb { s.monBank mb with ready := false, timer := none })).trans rfl

theorem refFollow_pds (s : State) (mb : Nat) : (refFollow s mb).mon.pds = s.mon.pds := by
  unfold refFollow
  dsimp only
  split
  · split <;> rfl
  · rfl

theorem ObjsOnly.set_mon {l : List Nat} {v : Monitor} (h : ObjsOnly l s t) : ObjsOnly l s { t with mon := v } := h

theorem refFollow_objs (s : State) (mb : Nat) : ObjsOnly [Obj.REF_READY] s (refFollow s mb) := by
  unfold refFollow
  refine .ite (.ite (.refl s) (.set_mon (.refl s))) ?_
  exact .setObjN (by decide) (.set_mon (.refl s))

theorem refFollow_opens (s : State) (mb : Nat) : Opens s (refFollow s mb) := .frame (refFollow_frame s mb) (by decide) (.refl s)

theorem effRefEnable_opens (mb : Nat) (v : Int) (s : State) : Opens1 s (effRefEnable mb v s) :=
  opens_of_frame (effRefEnable_frame mb v s) (by decide)

theorem refEnable_starts (h : s.accepts sess Obj.REF_ENABLE mb 1 = true) (hp : s.obj Obj.BANK_POWER mb = 1)
    (hr : (s.monBank mb).ready = false) (ht : (s.monBank mb).timer = none) :
    ∃ t, exec (.refEnable sess mb 1) s = .next t ∧ t.answered sess 0 Obj.REF_ENABLE mb (.ack []) ∧ t.obj Obj.REF_ENABLE mb = 1 ∧
      t.monBank mb = { s.monBank mb with timer := some (s.tick + 312500) } ∧ (∀ b, b ≠ mb → t.monBank b = s.monBank b) := by
  obtain ⟨hans, hframe⟩ := hostWrite_acks (eff := effRefEnable mb 1) h rfl (effRefEnable_opens _ _ _)
  have hseen := seen_frame s sess
  have heff : (effRefEnable mb 1 (seen s sess)).1 = ((seen s sess).setObj Obj.REF_ENABLE mb 1).setMonBank mb
      { s.monBank mb with timer := some (s.tick + 312500) } := by
    refine (refFollow_starts (obj_setObj _ _ _ _) ?_ ?_ ?_).trans ?_
    · rw [obj_setObj_addr _ (by decide)]
      exact (obj_of_objs (hseen.objs rfl) _ _).trans hp
    · exact (congrArg MonBank.ready (monBank_of_mon (hseen.mon rfl) mb)).trans hr
    · exact (congrArg MonBank.timer (monBank_of_mon (hseen.mon rfl) mb)).trans ht
    · rw [show ((seen s sess).setObj Obj.REF_ENABLE mb 1).monBank mb = s.monBank mb from monBank_of_mon (hseen.mon rfl) mb,
        show ((seen s sess).setObj Obj.REF_ENABLE mb 1).tick = s.tick from hseen.tick rfl]
  rw [heff] at hframe
  refine ⟨_, rfl, hans, ?_, ?_, fun b hb => ?_⟩
  · exact (obj_of_objs (hframe.objs rfl) _ _).trans (obj_setObj _ _ _ _)
  · exact (monBank_of_mon (hframe.mon rfl) mb).trans (monBank_setMonBank _ _ _)
  · refine (monBank_of_mon (hframe.mon rfl) b).trans ((monBank_setMonBank_other _ _ hb).trans ?_)
    exact monBank_of_mon (hseen.mon rfl) b

/-- What clearing a reference leaves of its bank. -/
def Unready (mb : Nat) (t : State) : Prop :=
  (t.monBank mb).ready = false ∧ (t.monBank mb).timer = none ∧ t.obj Obj.REF_READY mb = 0

theorem refFollow_unready (h : ¬ (s.obj Obj.REF_ENABLE mb = 1 ∧ s.obj Obj.BANK_POWER mb = 1)) : Unready mb (refFollow s mb) := by
  rw [refFollow_clears h]
  have hbank := monBank_setMonBank s mb { s.monBank mb with ready := false, timer := none }
  exact ⟨congrArg MonBank.ready hbank, congrArg MonBank.timer hbank, obj_setObjN _ _ _ _⟩

theorem unready_of_frame (h : Unready mb s) (k : Frame [.ex] s t) : Unready mb t := by
  obtain ⟨hr, ht, ho⟩ := h
  have hbank := monBank_of_mon (k.mon rfl) mb
  exact ⟨by rw [hbank]; exact hr, by rw [hbank]; exact ht, (obj_of_objs (k.objs rfl) _ _).trans ho⟩

theorem refEnable_clears (h : s.accepts sess Obj.REF_ENABLE mb 0 = true) :
    ∃ t, exec (.refEnable sess mb 0) s = .next t ∧ t.answered sess 0 Obj.REF_ENABLE mb (.ack []) ∧ t.obj Obj.REF_ENABLE mb = 0 ∧
      (t.monBank mb).ready = false ∧ (t.monBank mb).timer = none ∧ t.obj Obj.REF_READY mb = 0 ∧
      (∀ b, b ≠ mb → t.monBank b = s.monBank b) := by
  obtain ⟨hans, hframe⟩ := hostWrite_acks (eff := effRefEnable mb 0) h rfl (effRefEnable_opens _ _ _)
  have henable := obj_setObj (seen s sess) Obj.REF_ENABLE mb 0
  have hbank (b : Nat) : ((seen s sess).setObj Obj.REF_ENABLE mb 0).monBank b = s.monBank b := monBank_of_mon ((seen_frame s sess).mon rfl) b
  change Frame [.ex] (refFollow ((seen s sess).setObj Obj.REF_ENABLE mb 0) mb) _ at hframe
  generalize (seen s sess).setObj Obj.REF_ENABLE mb 0 = w at hframe henable hbank
  obtain ⟨hr, ht, ho⟩ := unready_of_frame (refFollow_unready (by rw [henable]; simp)) hframe
  refine ⟨_, rfl, hans, ?_, hr, ht, ho, fun b hb => ?_⟩
  · exact (obj_of_objs (hframe.objs rfl) _ _).trans ((refFollow_objs w mb _ _ (by decide)).trans henable)
  · exact (monBank_of_mon (hframe.mon rfl) b).trans ((refFollow_other w hb).trans (hbank b))

/-! ### Bank power (R237) -/

theorem powerBank_objs (s : State) (mb : Nat) (v : Int) : ObjsOnly eventObjs s (powerBank s mb v) := by
  unfold powerBank
  refine .raiseA (by decide) ?_
  split
  · exact .frame (resetGains_frame _ _) (by decide) (.set_mon (.refl s))
  · exact .set_mon (.refl s)

theorem powerBank_mon (s : State) (mb : Nat) (v : Int) :
    (powerBank s mb v).mon = (if v = 1 then resetGains (s.setMonBank mb { s.monBank mb with on := v == 1 }) mb
      else s.setMonBank mb { s.monBank mb with on := v == 1 }).mon := raiseA_mon _ _ _

theorem powerBank_on (s : State) (mb : Nat) (v : Int) : ((powerBank s mb v).monBank mb).on = (v == 1) := by
  rw [monBank_of_mon (powerBank_mon s mb v)]
  split <;> exact congrArg MonBank.on (monBank_setMonBank s mb _)

/-- Every AUTO photodiode of the bank has gain 1 and no settling scan; the others are as they were. -/
def GainsReset (mb : Nat) (s t : State) : Prop :=
  ∀ pd, if pd / 512 = mb ∧ s.objN Obj.GAIN_MODE pd = 0 then (t.pd pd).g = 0 ∧ (t.pd pd).settle = 0 else t.pd pd = s.pd pd

theorem resetGains_resets (s : State) (mb : Nat) : GainsReset mb s (resetGains s mb) := by
  intro pd
  unfold resetGains State.pd mget
  dsimp only
  rw [mfind_mmap]
  cases mfind s.mon.pds pd with
  | none =>
    split
    · exact ⟨rfl, rfl⟩
    · rfl
  | some x =>
    simp only [Option.map_some, Option.getD_some]
    split
    · exact ⟨rfl, rfl⟩
    · rfl

theorem gainsReset_congr {w x : State} (h : GainsReset mb s t) (ho : w.objs = s.objs) (hs : w.mon.pds = s.mon.pds)
    (ht : x.mon.pds = t.mon.pds) : GainsReset mb w x := by
  intro pd
  rw [objN_of_objs ho, pd_of_pds hs, pd_of_pds ht]
  exact h pd

theorem bankInUse_congr (hl : t.loops = s.loops) (hm : t.mon = s.mon) (mb : Nat) : t.bankInUse mb = s.bankInUse mb := by
  unfold State.bankInUse
  rw [hl, hm]

theorem bankPower_off (h : s.accepts sess Obj.BANK_POWER mb 0 = true) (hp : s.obj Obj.BANK_POWER mb = 1) :
    ∃ t, exec (.bankPower sess mb 0) s = .next t ∧
      if s.bankInUse mb = true then t.answered sess 0 Obj.BANK_POWER mb (.nak .busy 0 0) ∧ Frame [.ex] s t
      else
        t.answered sess 0 Obj.BANK_POWER mb (.ack []) ∧ t.obj Obj.BANK_POWER mb = 0 ∧ (t.monBank mb).on = false ∧
          (t.monBank mb).ready = false ∧
          (t.monBank mb).timer = none ∧ t.obj Obj.REF_READY mb = 0 ∧ t.mon.pds = s.mon.pds := by
  have hseen := seen_frame s sess
  have hpower : (seen s sess).obj Obj.BANK_POWER mb = 1 := (obj_of_objs (hseen.objs rfl) _ _).trans hp
  have huse : (seen s sess).bankInUse mb = s.bankInUse mb := bankInUse_congr (hseen.loops rfl) (hseen.mon rfl) mb
  have hpds : (seen s sess).mon.pds = s.mon.pds := congrArg Monitor.pds (hseen.mon rfl)
  have hne : ¬ (0 : Int) = (seen s sess).obj Obj.BANK_POWER mb := by rw [hpower]; decide
  refine ⟨_, rfl, ?_⟩
  by_cases hu : s.bankInUse mb = true
  · rw [if_pos hu]
    have heff : effBankPower mb 0 (seen s sess) = (seen s sess, .nak .busy) := by
      unfold effBankPower
      rw [if_neg hne, if_pos ⟨rfl, huse.trans hu⟩]
    obtain ⟨hans, hframe⟩ := hostWrite_refused h heff (by decide)
    exact ⟨hans, frame_sealed hframe (by decide)⟩
  · rw [if_neg hu]
    have heff : effBankPower mb 0 (seen s sess) =
        (refFollow (powerBank ((seen s sess).setObj Obj.BANK_POWER mb 0) mb 0) mb, .ack) := by
      unfold effBankPower
      rw [if_neg hne, if_neg fun k => hu (huse ▸ k.2)]
    obtain ⟨hans, hframe⟩ := hostWrite_acks h (congrArg Prod.snd heff) (effBankPower_opens _ _ _)
    rw [heff] at hframe
    have hobj : (powerBank ((seen s sess).setObj Obj.BANK_POWER mb 0) mb 0).obj Obj.BANK_POWER mb = 0 :=
      (powerBank_objs _ _ _ _ _ (by decide)).trans (obj_setObj _ _ _ _)
    have hon := powerBank_on ((seen s sess).setObj Obj.BANK_POWER mb 0) mb 0
    have hkept : (powerBank ((seen s sess).setObj Obj.BANK_POWER mb 0) mb 0).mon.pds = s.mon.pds :=
      (congrArg Monitor.pds (powerBank_mon _ _ _)).trans hpds
    generalize powerBank ((seen s sess).setObj Obj.BANK_POWER mb 0) mb 0 = w at hframe hobj hon hkept
    obtain ⟨hr, ht, ho⟩ := unready_of_frame (refFollow_unready (by rw [hobj]; simp)) hframe
    refine ⟨hans, ?_, ?_, hr, ht, ho, ?_⟩
    · exact (obj_of_objs (hframe.objs rfl) _ _).trans ((refFollow_objs w mb _ _ (by decide)).trans hobj)
    · exact (congrArg MonBank.on (monBank_of_mon (hframe.mon rfl) mb)).trans ((refFollow_on w mb).trans hon)
    · exact (congrArg Monitor.pds (hframe.mon rfl)).trans ((refFollow_pds w mb).trans hkept)

theorem bankPower_on (h : s.accepts sess Obj.BANK_POWER mb 1 = true) (hp : s.obj Obj.BANK_POWER mb = 0) :
    ∃ t, exec (.bankPower sess mb 1) s = .next t ∧ t.answered sess 0 Obj.BANK_POWER mb (.ack []) ∧ t.obj Obj.BANK_POWER mb = 1 ∧
      (t.monBank mb).on = true ∧ GainsReset mb s t := by
  have hseen := seen_frame s sess
  have hpower : (seen s sess).obj Obj.BANK_POWER mb = 0 := (obj_of_objs (hseen.objs rfl) _ _).trans hp
  have heff : effBankPower mb 1 (seen s sess) =
      (refFollow (powerBank ((seen s sess).setObj Obj.BANK_POWER mb 1) mb 1) mb, .ack) := by
    unfold effBankPower
    rw [if_neg (by rw [hpower]; decide), if_neg fun k => absurd k.1 (by decide)]
  obtain ⟨hans, hframe⟩ := hostWrite_acks h (congrArg Prod.snd heff) (effBankPower_opens _ _ _)
  rw [heff] at hframe
  have hobj : (powerBank ((seen s sess).setObj Obj.BANK_POWER mb 1) mb 1).obj Obj.BANK_POWER mb = 1 :=
    (powerBank_objs _ _ _ _ _ (by decide)).trans (obj_setObj _ _ _ _)
  have hon := powerBank_on ((seen s sess).setObj Obj.BANK_POWER mb 1) mb 1
  have hmode (pd : Nat) : ((seen s sess).setObj Obj.BANK_POWER mb 1).objN Obj.GAIN_MODE pd = s.objN Obj.GAIN_MODE pd := by
    unfold State.objN
    rw [obj_setObj_addr _ (by decide), obj_of_objs (hseen.objs rfl)]
  have hgains : GainsReset mb s (powerBank ((seen s sess).setObj Obj.BANK_POWER mb 1) mb 1) := by
    intro pd
    have hg := resetGains_resets (((seen s sess).setObj Obj.BANK_POWER mb 1).setMonBank mb
      { ((seen s sess).setObj Obj.BANK_POWER mb 1).monBank mb with on := (1 : Int) == 1 }) mb pd
    rw [pd_of_pds (congrArg Monitor.pds (powerBank_mon _ _ _)), if_pos rfl, ← hmode, ← pd_of_pds (congrArg Monitor.pds (hseen.mon rfl))]
    exact hg
  generalize powerBank ((seen s sess).setObj Obj.BANK_POWER mb 1) mb 1 = w at hframe hobj hon hgains
  refine ⟨_, rfl, hans, ?_, ?_, ?_⟩
  · exact (obj_of_objs (hframe.objs rfl) _ _).trans ((refFollow_objs w mb _ _ (by decide)).trans hobj)
  · exact (congrArg MonBank.on (monBank_of_mon (hframe.mon rfl) mb)).trans ((refFollow_on w mb).trans hon)
  · exact gainsReset_congr hgains rfl rfl ((congrArg Monitor.pds (hframe.mon rfl)).trans (refFollow_pds w mb))

/-! ### Gain modes (R226) -/

theorem gainMode_waits {v : Int} (h : s.accepts sess Obj.GAIN_MODE pd v = true) :
    ∃ t, exec (.gainMode sess pd v) s = .next t ∧ t.answered sess 0 Obj.GAIN_MODE pd (.ack []) ∧ t.obj Obj.GAIN_MODE pd = v ∧
      pd ∈ t.mon.gainPend ∧ t.mon.pds = s.mon.pds := by
  have hseen := seen_frame s sess
  obtain ⟨hans, hframe⟩ := hostWrite_acks (eff := effGainMode pd v) h rfl (opens_of_frame (effGainMode_frame pd v _) (by decide))
  refine ⟨_, rfl, hans, ?_, ?_, ?_⟩
  · exact (obj_of_objs (hframe.objs rfl) _ _).trans (obj_setObj _ _ _ _)
  · have hpend : (effGainMode pd v (seen s sess)).1.mon.gainPend =
        if (seen s sess).mon.gainPend.contains pd then (seen s sess).mon.gainPend else (seen s sess).mon.gainPend ++ [pd] := rfl
    refine (congrArg Monitor.gainPend (hframe.mon rfl)).trans hpend ▸ ?_
    split
    case isTrue hc => exact List.contains_iff_mem.mp hc
    case isFalse => exact List.mem_append_right _ (List.mem_singleton_self pd)
  · have hpds : (effGainMode pd v (seen s sess)).1.mon.pds = (seen s sess).mon.pds := rfl
    exact (congrArg Monitor.pds (hframe.mon rfl)).trans (hpds.trans (congrArg Monitor.pds (hseen.mon rfl)))

theorem takeGain_takes {g : Nat} (hm : s.objN Obj.GAIN_MODE pd = g + 1) (hg : (s.pd pd).g ≠ g) (hr : (s.monBank (pd / 512)).ready = true) :
    ((takeGain s pd).pd pd).g = g ∧ ((takeGain s pd).pd pd).settle = 4 ∧ ((takeGain s pd).pd pd).gFrom = s.scan ∧
      (∀ k, k ≠ pd → (takeGain s pd).pd k = s.pd k) ∧
      (takeGain s pd).objN Obj.GAIN_CHANGES (pd / 32) = min u32Max (s.objN Obj.GAIN_CHANGES (pd / 32) + 1) := by
  have hrun : ∃ x : Pd, takeGain s pd = (s.setPd pd (x.setGain g s.scan)).incSat Obj.GAIN_CHANGES (pd / 32) := by
    refine ⟨if (s.pd pd).mode = g + 1 then s.pd pd else { s.pd pd with mode := g + 1, modeAt := s.scan }, ?_⟩
    have hkeep : (if (s.pd pd).mode = g + 1 then s.pd pd else { s.pd pd with mode := g + 1, modeAt := s.scan }).g = (s.pd pd).g := by
      split <;> rfl
    unfold takeGain
    dsimp only
    rw [hm, if_neg]
    · rfl
    · rw [hkeep, hr]
      simpa using hg
  obtain ⟨x, hx⟩ := hrun
  rw [hx]
  have hself := pd_setPd s pd (x.setGain g s.scan)
  refine ⟨congrArg Pd.g hself, congrArg Pd.settle hself, congrArg Pd.gFrom hself, fun k hk => pd_setPd_other s _ hk, ?_⟩
  exact objN_incSat_self _ _ _

end

/-- Settles O39: references, bank power and gain modes, each a single step; `refFollow` ties a bank's reference to its power. -/
theorem banksAndReferences : Obligations.BanksAndReferences :=
  ⟨fun _ _ _ => refReady_ready, fun _ _ _ => refEnable_starts, fun _ _ _ => refEnable_clears, fun _ _ _ => bankPower_off,
    fun _ _ _ => bankPower_on, fun _ _ _ _ => gainMode_waits, fun _ _ _ => takeGain_takes⟩

end Sys2Proof.Proofs

/-!
SUPPORT. The proofs of background checks and substitution of converters, and of injected conversions and focus
(spec/08_monitor.md, Monitor banks, references and spares, Focus mode, Injected conversions).
-/

namespace Sys2Proof.Proofs

open Sys2Proof Sys2Proof.Machine Sys2Proof.Laws

section

variable {s t : State} {cv code k : Nat}

@[simp] theorem conv_setConv (s : State) (cv : Nat) (x : Conv) : (s.setConv cv x).conv cv = x := by
  simp [State.conv, State.setConv, mget]

theorem conv_setConv_other (s : State) (x : Conv) (h : k ≠ cv) : (s.setConv cv x).conv k = s.conv k := mget_mset_other _ _ _ h

theorem conv_of_convs (h : t.mon.convs = s.mon.convs) (k : Nat) : t.conv k = s.conv k := by
  unfold State.conv
  rw [h]

theorem objN_setObjN_addr {a a' i j v : Nat} (h : a' ≠ a) : (s.setObjN a i v).objN a' j = s.objN a' j :=
  congrArg Int.toNat (obj_setObj_addr _ h)

theorem monBank_of_banks (h : t.mon.banks = s.mon.banks) (b : Nat) : t.monBank b = s.monBank b := by
  unfold State.monBank
  rw [h]

/-! ### Background checks (R238, R239) -/

/-- A converter in order that is not to be substituted. -/
structure InOrder (c : Conv) : Prop where
  spare : c.spare = false
  state : c.state ≠ 3
  due : c.substituteDue = false

/-- What the verdict of a check leaves of a converter: the count of failures, its state and whether it is to be substituted. -/
structure Judged (s : State) (cv code : Nat) (t : State) : Prop where
  kept : ∃ f st d, t.conv cv = { s.conv cv with fails := f, state := st, substituteDue := d }
  verdict : if absDiff code (s.objN Obj.CHECK_EXPECT cv) ≤ s.objN Obj.CHECK_TOL 0 then
      (t.conv cv).fails = 0 ∧ (t.conv cv).substituteDue = false
    else if (s.conv cv).fails = 0 then (t.conv cv).fails = 1 ∧ (t.conv cv).substituteDue = false
    else (t.conv cv).substituteDue = true
  other : ∀ k, k ≠ cv → t.conv k = s.conv k
  banks : t.mon.banks = s.mon.banks
  code : t.objN Obj.CHECK_CODE cv = code
  pointer : t.objN Obj.INJ_POINTER cv = s.objN Obj.INJ_POINTER cv

theorem convFails_substitutes (hrun : s.cal.run = none) (h : InOrder (s.conv cv)) (hs : (s.monBank (cv / 16)).spareCv = none)
    (hf : (s.monBank (cv / 16)).spareFailed = false) :
    convFails s cv = s.setConv cv { s.conv cv with substituteDue := true, state := 1 } := by
  have hcal : calConvFault s cv = s := by
    unfold calConvFault
    rw [hrun]
  unfold convFails
  rw [hcal]
  dsimp only
  rw [if_neg (by simp [h.spare]), if_pos (by simp [hs, hf])]

theorem judgeCheck_judges (hrun : s.cal.run = none) (h : InOrder (s.conv cv)) (hs : (s.monBank (cv / 16)).spareCv = none)
    (hf : (s.monBank (cv / 16)).spareFailed = false) : Judged s cv code (judgeCheck s cv code) := by
  have htol : (s.setObjN Obj.CHECK_CODE cv code).objN Obj.CHECK_TOL 0 = s.objN Obj.CHECK_TOL 0 := objN_setObjN_addr (by decide)
  have hexp : (s.setObjN Obj.CHECK_CODE cv code).objN Obj.CHECK_EXPECT cv = s.objN Obj.CHECK_EXPECT cv := objN_setObjN_addr (by decide)
  have hcode := objN_setObjN_self s Obj.CHECK_CODE cv code
  have hptr : (s.setObjN Obj.CHECK_CODE cv code).objN Obj.INJ_POINTER cv = s.objN Obj.INJ_POINTER cv := objN_setObjN_addr (by decide)
  have hconv (k : Nat) : (s.setObjN Obj.CHECK_CODE cv code).conv k = s.conv k := rfl
  have hbank (b : Nat) : (s.setObjN Obj.CHECK_CODE cv code).monBank b = s.monBank b := rfl
  have hbanks : (s.setObjN Obj.CHECK_CODE cv code).mon.banks = s.mon.banks := rfl
  have hcal : (s.setObjN Obj.CHECK_CODE cv code).cal.run = none := hrun
  unfold judgeCheck
  dsimp only
  generalize s.setObjN Obj.CHECK_CODE cv code = w at *
  rw [hconv, if_neg (by simp [h.state, h.due]), if_neg (by simp [h.spare] : ¬ (s.conv cv).spare = true), htol, hexp]
  by_cases hbad : s.objN Obj.CHECK_TOL 0 < absDiff code (s.objN Obj.CHECK_EXPECT cv)
  · rw [if_pos hbad]
    by_cases hfails : (s.conv cv).fails = 0
    · rw [if_neg (by omega)]
      refine ⟨⟨_, _, _, conv_setConv _ _ _⟩, ?_, fun k hk => (conv_setConv_other _ _ hk).trans (hconv k), hbanks, hcode, hptr⟩
      rw [if_neg (by omega), if_pos hfails, conv_setConv]
      exact ⟨rfl, h.due⟩
    · have hself : (w.setConv cv { s.conv cv with fails := 2 }).conv cv = { s.conv cv with fails := 2 } := conv_setConv _ _ _
      rw [if_pos (by omega), convFails_substitutes (s := w.setConv cv { s.conv cv with fails := 2 }) hcal
        (by rw [hself]; exact ⟨h.spare, h.state, h.due⟩) (by rw [← hs]; exact congrArg MonBank.spareCv (hbank _))
        (by rw [← hf]; exact congrArg MonBank.spareFailed (hbank _)), hself]
      refine ⟨⟨_, _, _, conv_setConv _ _ _⟩, ?_,
        fun k hk => (conv_setConv_other _ _ hk).trans ((conv_setConv_other _ _ hk).trans (hconv k)), hbanks, hcode, hptr⟩
      rw [if_neg (by omega), if_neg hfails, conv_setConv]
  · rw [if_neg hbad]
    refine ⟨⟨_, _, _, conv_setConv _ _ _⟩, ?_, fun k hk => (conv_setConv_other _ _ hk).trans (hconv k), hbanks, hcode, hptr⟩
    rw [if_pos (by omega), conv_setConv]
    exact ⟨rfl, h.due⟩

/-- The state in which the check of a converter is compared. -/
def checkTaken (s : State) (cv : Nat) : State :=
  ((s.setMonBank (cv / 16) { s.monBank (cv / 16) with checkScan := some s.scan }).setConv cv
    { s.conv cv with lastCheck := s.scan, checkLate := false, injAt := some (s.scan, (s.conv cv).pointer),
                     pointer := ((s.conv cv).pointer + 1) % 16 }).setObjN Obj.INJ_POINTER cv (((s.conv cv).pointer + 1) % 16)

theorem checkTaken_conv (s : State) (cv : Nat) : (checkTaken s cv).conv cv =
    { s.conv cv with lastCheck := s.scan, checkLate := false, injAt := some (s.scan, (s.conv cv).pointer),
                     pointer := ((s.conv cv).pointer + 1) % 16 } := conv_setConv _ _ _

theorem checkTaken_other (s : State) (h : k ≠ cv) : (checkTaken s cv).conv k = s.conv k := conv_setConv_other _ _ h

theorem checkTaken_bank (s : State) (cv : Nat) : (checkTaken s cv).monBank (cv / 16) =
    { s.monBank (cv / 16) with checkScan := some s.scan } := monBank_setMonBank _ _ _

theorem checkTaken_objN {a j : Nat} (h : a ≠ Obj.INJ_POINTER) : (checkTaken s cv).objN a j = s.objN a j := objN_setObjN_addr h

theorem checkTaken_pointer (s : State) (cv : Nat) : (checkTaken s cv).objN Obj.INJ_POINTER cv = ((s.conv cv).pointer + 1) % 16 :=
  objN_setObjN_self _ _ _ _

theorem convCheck_compares (hdue : s.checkDue (cv / 16) (s.conv cv).lastCheck (s.conv cv).checkLate = true) (hu : s.unchecked cv = false)
    (hf : (s.conv cv).focus = none) (hq : (s.conv cv).queue = []) (hi : ∀ q, (s.conv cv).injAt ≠ some (s.scan, q)) :
    convCheck s cv code = judgeCheck (checkTaken s cv) cv code := by
  have hused : (match (s.conv cv).injAt with | some (n, _) => n == s.scan | none => false) = false := by
    split
    case h_1 n q hn => exact beq_false_of_ne fun e => hi q (e ▸ hn)
    case h_2 => rfl
  unfold convCheck
  dsimp only
  rw [if_neg (by simp [hdue, hu]), if_neg (by simp [hf]), if_neg (by simp [hq]), if_pos]
  · rfl
  · rw [hq]
    exact congrArg (fun b => ([] : List Inj).isEmpty && !b) hused

theorem converterCheck_compares (ht : s.ticking = true) (hcv : cv < 2624)
    (hdue : s.checkDue (cv / 16) (s.conv cv).lastCheck (s.conv cv).checkLate = true) (hu : s.unchecked cv = false)
    (hf : (s.conv cv).focus = none) (hq : (s.conv cv).queue = []) (hi : ∀ q, (s.conv cv).injAt ≠ some (s.scan, q))
    (h : InOrder (s.conv cv)) (hs : (s.monBank (cv / 16)).spareCv = none)
    (hsf : (s.monBank (cv / 16)).spareFailed = false) (hrun : s.cal.run = none) :
    ∃ t, exec (.converterCheck cv code) s = .next t ∧ t.objN Obj.CHECK_CODE cv = code ∧
      t.objN Obj.INJ_POINTER cv = ((s.conv cv).pointer + 1) % 16 ∧ (t.conv cv).pointer = ((s.conv cv).pointer + 1) % 16 ∧
      (t.conv cv).lastCheck = s.scan ∧ (t.monBank (cv / 16)).checkScan = some s.scan ∧ (t.conv cv).spare = false ∧
      (if absDiff code (s.objN Obj.CHECK_EXPECT cv) ≤ s.objN Obj.CHECK_TOL 0 then
        (t.conv cv).fails = 0 ∧ (t.conv cv).substituteDue = false
      else if (s.conv cv).fails = 0 then (t.conv cv).fails = 1 ∧ (t.conv cv).substituteDue = false
      else (t.conv cv).substituteDue = true) ∧
      (∀ k, k ≠ cv → t.conv k = s.conv k) := by
  have hrunExec : exec (.converterCheck cv code) s = finish s (judgeCheck (checkTaken s cv) cv code) := by
    show execConverterCheck cv code s = _
    unfold execConverterCheck
    rw [if_neg (by simp [ht]), if_pos hcv, convCheck_compares hdue hu hf hq hi]
  have hself := checkTaken_conv s cv
  have hbank := checkTaken_bank s cv
  have hjudged : Judged (checkTaken s cv) cv code (judgeCheck (checkTaken s cv) cv code) :=
    judgeCheck_judges hrun (by rw [hself]; exact ⟨h.spare, h.state, h.due⟩) (by rw [hbank]; exact hs) (by rw [hbank]; exact hsf)
  have hexp : (checkTaken s cv).objN Obj.CHECK_EXPECT cv = s.objN Obj.CHECK_EXPECT cv := checkTaken_objN (by decide)
  have htol : (checkTaken s cv).objN Obj.CHECK_TOL 0 = s.objN Obj.CHECK_TOL 0 := checkTaken_objN (by decide)
  have hptr := checkTaken_pointer s cv
  have hother (k : Nat) (hk : k ≠ cv) := checkTaken_other s hk
  generalize checkTaken s cv = w at hrunExec hself hbank hjudged hexp htol hptr hother
  generalize judgeCheck w cv code = x at hrunExec hjudged
  obtain ⟨⟨f, st, d, hkept⟩, hverdict, hoth, hbanks, hcode, hpointer⟩ := hjudged
  have hx := monBank_of_banks hbanks (cv / 16)
  rw [hexp, htol, hself] at hverdict
  rw [hself] at hkept
  refine ⟨_, hrunExec, hcode, hpointer.trans hptr, ?_, ?_, ?_, ?_, hverdict, fun k hk => (hoth k hk).trans (hother k hk)⟩
  · exact congrArg Conv.pointer hkept
  · exact congrArg Conv.lastCheck hkept
  · exact (congrArg MonBank.checkScan hx).trans (congrArg MonBank.checkScan hbank)
  · exact (congrArg Conv.spare hkept).trans h.spare

theorem converterCheck_waits (ht : s.ticking = false) :
    ∃ t, exec (.converterCheck cv code) s = .next t ∧ Frame [.ex] s t := by
  have hrun : exec (.converterCheck cv code) s = finish s s := by
    show execConverterCheck cv code s = _
    unfold execConverterCheck
    rw [if_pos (by simp [ht])]
  exact ⟨_, hrun, frame_sealed (.refl s) (by decide)⟩

/-! ### Substitution (R239) -/

theorem mfind2_mdel2_self {α : Type} (m : SMap (SMap α)) (i j : Nat) : mfind2 (mdel2 m i j) i j = none := by
  unfold mdel2 mfind2
  cases h : mfind m i with
  | none => simp [h]
  | some t => simp

theorem mfind2_mdel2_other {α : Type} (m : SMap (SMap α)) {i j i' j' : Nat} (h : i' ≠ i) : mfind2 (mdel2 m i j) i' j' = mfind2 m i' j' := by
  unfold mdel2 mfind2
  cases mfind m i with
  | none => rfl
  | some t => rw [mfind_mset_other _ _ h]

theorem stagedVal_unstage (s : State) (a i : Nat) : (s.unstage a i).stagedVal a i = none := mfind2_mdel2_self _ _ _

theorem stagedVal_unstage_other {a a' i j : Nat} (h : a' ≠ a) : (s.unstage a i).stagedVal a' j = s.stagedVal a' j :=
  mfind2_mdel2_other _ h

theorem obj_setCoef (s : State) (a i : Nat) (v : Int) : (setCoef s a i v).obj a i = v := obj_setObj _ _ _ _

theorem obj_setCoef_addr {a a' i j : Nat} (v : Int) (h : a' ≠ a) : (setCoef s a i v).obj a' j = s.obj a' j :=
  (obj_setObj_addr v h).trans (obj_of_objs ((keepCoef_frame s a i).objs rfl) _ _)

/-- The state in which the spare stands in for a converter, before it is reported. -/
def spareIn (s : State) (cv : Nat) : State :=
  (s.setConv cv { (s.conv cv).setSpare true s.scan with substituteDue := false, state := 2, fails := 0 }).setMonBank (cv / 16)
    { s.monBank (cv / 16) with spareCv := some cv }

theorem setSpare_spare (c : Conv) (on : Bool) (n : Nat) : (c.setSpare on n).spare = on := by
  unfold Conv.setSpare
  split
  case isTrue h => exact h
  case isFalse => rfl

theorem loadCoefs_staged (s : State) (cv : Nat) (o g : Int) :
    (loadCoefs s cv o g).1.stagedVal Obj.CONV_OFFSET cv = none ∧ (loadCoefs s cv o g).1.stagedVal Obj.CONV_GAIN cv = none := by
  have hstaged : (loadCoefs s cv o g).1.staged = ((s.unstage Obj.CONV_OFFSET cv).unstage Obj.CONV_GAIN cv).staged :=
    ((setCoef_frame _ Obj.CONV_GAIN cv g).staged rfl).trans ((setCoef_frame _ Obj.CONV_OFFSET cv o).staged rfl)
  refine ⟨?_, ?_⟩
  · rw [State.stagedVal, hstaged]
    exact (mfind2_mdel2_other _ (by decide)).trans (stagedVal_unstage s _ _)
  · rw [State.stagedVal, hstaged]
    exact stagedVal_unstage _ _ _

theorem loadCoefs_obj (s : State) (cv : Nat) (o g : Int) :
    (loadCoefs s cv o g).1.obj Obj.CONV_OFFSET cv = o ∧ (loadCoefs s cv o g).1.obj Obj.CONV_GAIN cv = g ∧
      (loadCoefs s cv o g).1.objN Obj.DP_GEN 0 = nextGen (s.objN Obj.DP_GEN 0) := by
  unfold loadCoefs
  dsimp only
  refine ⟨?_, ?_, ?_⟩
  · rw [State.setObjN, obj_setObj_addr _ (by decide), obj_setCoef_addr _ (by decide), obj_setCoef]
  · rw [State.setObjN, obj_setObj_addr _ (by decide), obj_setCoef]
  · rw [objN_setObjN_self]
    refine congrArg nextGen (congrArg Int.toNat ?_)
    rw [obj_setCoef_addr _ (by decide), obj_setCoef_addr _ (by decide)]
    rfl

theorem setCoef_mon (s : State) (a i : Nat) (v : Int) :
    (setCoef s a i v).mon.convs = s.mon.convs ∧ (setCoef s a i v).mon.banks = s.mon.banks := by
  unfold setCoef keepCoef
  dsimp only
  split <;> split <;> exact ⟨rfl, rfl⟩

theorem loadCoefs_mon (s : State) (cv : Nat) (o g : Int) :
    (loadCoefs s cv o g).1.mon.convs = s.mon.convs ∧ (loadCoefs s cv o g).1.mon.banks = s.mon.banks := by
  obtain ⟨hc1, hb1⟩ := setCoef_mon ((s.unstage Obj.CONV_OFFSET cv).unstage Obj.CONV_GAIN cv) Obj.CONV_OFFSET cv o
  obtain ⟨hc2, hb2⟩ := setCoef_mon (setCoef ((s.unstage Obj.CONV_OFFSET cv).unstage Obj.CONV_GAIN cv) Obj.CONV_OFFSET cv o) Obj.CONV_GAIN cv g
  exact ⟨hc2.trans hc1, hb2.trans hb1⟩

theorem convSubstituted_stands (hd : (s.conv cv).substituteDue = true) (ht : s.tick % 256 = 0)
    (hs : (s.monBank (cv / 16)).spareCv = none) (hf : (s.monBank (cv / 16)).spareFailed = false) :
    ∃ t, exec (.convSubstituted cv) s = .next t ∧ (t.conv cv).spare = true ∧ (t.conv cv).state = 2 ∧
      (t.conv cv).substituteDue = false ∧ (t.monBank (cv / 16)).spareCv = some cv ∧
      t.obj Obj.CONV_OFFSET cv = s.obj Obj.SPARE_OFFSET (cv / 16) ∧ t.obj Obj.CONV_GAIN cv = s.obj Obj.SPARE_GAIN (cv / 16) ∧
      t.stagedVal Obj.CONV_OFFSET cv = none ∧ t.stagedVal Obj.CONV_GAIN cv = none ∧
      t.objN Obj.DP_GEN 0 = nextGen (s.objN Obj.DP_GEN 0) := by
  have hrun : exec (.convSubstituted cv) s = finish s (raiseA
      (loadCoefs (spareIn s cv) cv (s.obj Obj.SPARE_OFFSET (cv / 16)) (s.obj Obj.SPARE_GAIN (cv / 16))).1 0x4020 [.word cv, .word (cv / 16),
        .word (boolNat (loadCoefs (spareIn s cv) cv (s.obj Obj.SPARE_OFFSET (cv / 16)) (s.obj Obj.SPARE_GAIN (cv / 16))).2)]) := by
    show execConvSubstituted cv s = _
    unfold execConvSubstituted
    dsimp only
    rw [if_neg (by simp [hd, ht]), if_neg (by simp [hs, hf])]
    rfl
  have hconv : (spareIn s cv).conv cv = { (s.conv cv).setSpare true s.scan with substituteDue := false, state := 2, fails := 0 } :=
    conv_setConv s cv { (s.conv cv).setSpare true s.scan with substituteDue := false, state := 2, fails := 0 }
  have hbank : (spareIn s cv).monBank (cv / 16) = { s.monBank (cv / 16) with spareCv := some cv } := monBank_setMonBank _ _ _
  have hobjs : (spareIn s cv).objs = s.objs := rfl
  generalize spareIn s cv = w at hrun hconv hbank hobjs
  obtain ⟨hst1, hst2⟩ := loadCoefs_staged w cv (s.obj Obj.SPARE_OFFSET (cv / 16)) (s.obj Obj.SPARE_GAIN (cv / 16))
  obtain ⟨ho1, ho2, ho3⟩ := loadCoefs_obj w cv (s.obj Obj.SPARE_OFFSET (cv / 16)) (s.obj Obj.SPARE_GAIN (cv / 16))
  obtain ⟨hconvs, hbanks⟩ := loadCoefs_mon w cv (s.obj Obj.SPARE_OFFSET (cv / 16)) (s.obj Obj.SPARE_GAIN (cv / 16))
  have hc := conv_of_convs hconvs cv
  have hb := monBank_of_banks hbanks (cv / 16)
  generalize loadCoefs w cv (s.obj Obj.SPARE_OFFSET (cv / 16)) (s.obj Obj.SPARE_GAIN (cv / 16)) = p at hrun hst1 hst2 ho1 ho2 ho3 hc hb hconvs hbanks
  rw [hconv] at hc
  rw [hbank] at hb
  generalize hdata : [EvItem.word cv, .word (cv / 16), .word (boolNat p.2)] = data at hrun
  have hmon : (raiseA p.1 0x4020 data).mon = p.1.mon := raiseA_mon _ _ _
  have hconvT : (sealed s (raiseA p.1 0x4020 data)).conv cv =
      { (s.conv cv).setSpare true s.scan with substituteDue := false, state := 2, fails := 0 } :=
    (conv_of_convs (congrArg Monitor.convs hmon) cv).trans hc
  have hstaged (a : Nat) : (sealed s (raiseA p.1 0x4020 data)).stagedVal a cv = p.1.stagedVal a cv := by
    show mfind2 (raiseA p.1 0x4020 data).staged a cv = _
    rw [raiseA_staged]
    rfl
  have hobj (a i : Nat) (h : a ≠ Obj.RING_DROPPED) : (sealed s (raiseA p.1 0x4020 data)).obj a i = p.1.obj a i := raiseA_obj h p.1 0x4020 data
  refine ⟨_, hrun, ?_, ?_, ?_, ?_, (hobj _ _ (by decide)).trans ho1, (hobj _ _ (by decide)).trans ho2, (hstaged _).trans hst1,
    (hstaged _).trans hst2, (congrArg Int.toNat (hobj _ _ (by decide))).trans (ho3.trans (congrArg nextGen (objN_of_objs hobjs _ _)))⟩
  · rw [hconvT]
    exact setSpare_spare _ _ _
  · rw [hconvT]
  · rw [hconvT]
  · exact (congrArg MonBank.spareCv (monBank_of_mon hmon (cv / 16))).trans (congrArg MonBank.spareCv hb)

theorem convSubstituted_idle (hd : (s.conv cv).substituteDue = false) :
    ∃ t, exec (.convSubstituted cv) s = .next t ∧ Frame [.ex] s t := by
  have hrun : exec (.convSubstituted cv) s = finish s s := by
    show execConvSubstituted cv s = _
    unfold execConvSubstituted
    dsimp only
    rw [if_pos (by simp [hd])]
  exact ⟨_, hrun, frame_sealed (.refl s) (by decide)⟩

end

/-- Settles O40: a due check by the verdict of its comparison, the substitution as one step. -/
theorem converterChecks : Obligations.ConverterChecks :=
  ⟨fun _ _ _ ht hcv hdue hu hf hq hi h1 h2 h3 hs hsf hrun =>
      converterCheck_compares ht hcv hdue hu hf hq hi ⟨h1, h2, h3⟩ hs hsf hrun,
    fun _ _ _ => converterCheck_waits, fun _ _ => convSubstituted_stands, fun _ _ => convSubstituted_idle⟩

/-! ### Injected conversions and focus (R244) -/

/-- A state that keeps a value for FOCUS_INPUT of converter 0 in the record of the loop parameters. No step puts one there: that record is
for the objects of Table 5.7 alone. -/
def strayFocusInput : State :=
  { Tests.base with loops := { Tests.base.loops with held := [(Obj.FOCUS_INPUT, [(0, (7, 1000000))])] } }

theorem strayFocusInput_judged : strayFocusInput.accepts 5 Obj.FOCUS_START 0 1 = true ∧ strayFocusInput.therm.state < 2 ∧
    strayFocusInput.focusCount 0 < 64 ∧ (strayFocusInput.conv 0).queue = [] ∧ (strayFocusInput.conv 0).checkLate = false ∧
    strayFocusInput.judged Obj.FOCUS_INPUT 0 = 7 := by decide +kernel

theorem strayFocusInput_starts : (sealed strayFocusInput (hostWrite strayFocusInput 5 Obj.FOCUS_START 0 1 (effFocusStart 0 1))).obj
    Obj.FOCUS_INPUT 0 ≠ 7 := by decide +kernel

/-- Refutes O41: its clause on FOCUS_START holds only where the record of the loop parameters has no entry for the focus objects. In a
state with one, the judged value is that entry, while the focus taken has the value in force. -/
theorem not_injectionsAndFocus : ¬ Obligations.InjectionsAndFocus := by
  rintro ⟨-, -, hstart, -⟩
  obtain ⟨hacc, hcool, hcount, hqueue, hlate, hjudged⟩ := strayFocusInput_judged
  obtain ⟨t, hrun, ht⟩ := hstart 5 0 strayFocusInput hacc hcool
  rw [if_neg (by omega), if_neg (by simp [hqueue, hlate])] at ht
  obtain ⟨-, -, hinput, -⟩ := ht
  cases hrun
  exact strayFocusInput_starts (hinput.trans hjudged)

end Sys2Proof.Proofs

/-!
SUPPORT. The proof of set-point inputs, averaging channels and coefficients (spec/08_monitor.md, Set-point inputs;
spec/06_datapath.md, Running sums).
-/

namespace Sys2Proof.Proofs

open Sys2Proof Sys2Proof.Machine Sys2Proof.Laws

section

variable {s t w : State} {n code a i k sess : Nat}

theorem objN_setObj_addr {a a' i j : Nat} (v : Int) (h : a' ≠ a) : (s.setObj a i v).objN a' j = s.objN a' j :=
  congrArg Int.toNat (obj_setObj_addr v h)

theorem ObjsOnly.set_loops {l : List Nat} {v : Loops} (h : ObjsOnly l s t) : ObjsOnly l s { t with loops := v } := h

/-! ### Reports of an input (R249, R250) -/

theorem sourceLost_objs (s : State) (n : Nat) : ObjsOnly eventObjs s (sourceLost s n) := by
  unfold sourceLost
  exact .ite (.refl s) (.raiseA (by decide) (.set_loops (.refl s)))

theorem inputLost_objs (s : State) (n cause : Nat) : ObjsOnly eventObjs s (inputLost s n cause) := by
  unfold inputLost
  dsimp only
  refine .ite ?_ (.raiseA (by decide) (.refl s))
  refine .step (sourceLost_objs _ n) (by decide) (.foldl (fun t o => ?_) (.raiseA (by decide) (.refl s)))
  exact .frame (State.setVoa_frame _ _ _) (by decide) (.refl t)

theorem inputBack_objs (s : State) (n : Nat) : ObjsOnly eventObjs s (inputBack s n) := by
  unfold inputBack
  exact .raiseA (by decide) (.set_loops (.refl s))

/-- The objects and the monitor's record that a report of an input leaves as they were. -/
structure Reported (s t : State) : Prop where
  mon : t.mon = s.mon
  obj : ∀ a i, a ≠ Obj.RING_DROPPED → t.obj a i = s.obj a i

theorem Reported.refl (s : State) : Reported s s := ⟨rfl, fun _ _ _ => rfl⟩

theorem Reported.objN (h : Reported s t) (ha : a ≠ Obj.RING_DROPPED) (i : Nat) : t.objN a i = s.objN a i :=
  congrArg Int.toNat (h.obj a i ha)

theorem inputLost_reported (s : State) (n cause : Nat) : Reported s (inputLost s n cause) :=
  ⟨(inputLost_frame s n cause).mon rfl, fun a i h => inputLost_objs s n cause a i (by simpa [eventObjs] using h)⟩

theorem inputBack_reported (s : State) (n : Nat) : Reported s (inputBack s n) :=
  ⟨(inputBack_frame s n).mon rfl, fun a i h => inputBack_objs s n a i (by simpa [eventObjs] using h)⟩

/-! ### SPA inputs (R248, R249) -/

/-- The codes in a row above the limit of an SPA input, with a code. -/
def spaBadRun (s : State) (n r : Nat) : Nat :=
  if decide (s.objN Obj.SPA_LIMIT n < r) then (mget ({} : SetIn) s.mon.spa n).badRun + 1 else 0

/-- The codes in a row at or below the limit of an SPA input, with a code. -/
def spaGoodRun (s : State) (n r : Nat) : Nat :=
  if decide (s.objN Obj.SPA_LIMIT n < r) then 0 else (mget ({} : SetIn) s.mon.spa n).goodRun + 1

/-- Whether a code makes an SPA input valid again. -/
def spaBack (s : State) (n r : Nat) : Bool := !(mget ({} : SetIn) s.mon.spa n).valid && decide (64 ≤ spaGoodRun s n r)

/-- Whether a code makes an SPA input invalid. -/
def spaLost (s : State) (n r : Nat) : Bool := (mget ({} : SetIn) s.mon.spa n).valid && decide (4 ≤ spaBadRun s n r)

/-- The filter of an SPA input after a code. -/
def spaFilter (s : State) (n r : Nat) : Int :=
  if spaBack s n r then ((r * 16 : Nat) : Int)
  else (mget ({} : SetIn) s.mon.spa n).y +
    floorDiv (((r * 16 : Nat) : Int) - (mget ({} : SetIn) s.mon.spa n).y) (2 ^ (mget ({} : SetIn) s.mon.spa n).shift : Nat)

/-- The record of an SPA input after a code. -/
def spaNext (s : State) (n r : Nat) : SetIn :=
  { mget ({} : SetIn) s.mon.spa n with
    y := spaFilter s n r, x := min 32767 (floorDiv (spaFilter s n r * 5) 8), badRun := spaBadRun s n r, goodRun := spaGoodRun s n r,
    valid := ((mget ({} : SetIn) s.mon.spa n).valid || spaBack s n r) && !spaLost s n r }

/-- The state after a code of an SPA input, before a change of its validity is reported. -/
def spaTaken (s : State) (n r : Nat) : State :=
  (({ s with mon := { s.mon with spa := mset s.mon.spa n (spaNext s n r) } }.setObjN Obj.SPA_RAW n r).setObj Obj.SPA_VALUE n
    (spaNext s n r).x).setObjN Obj.SPA_VALID n (boolNat (spaNext s n r).valid)

theorem spaTaken_spa (s : State) (n r : Nat) : mget ({} : SetIn) (spaTaken s n r).mon.spa n = spaNext s n r := by
  show mget _ (mset _ _ _) n = _
  simp [mget]

theorem spaTaken_raw (s : State) (n r : Nat) : (spaTaken s n r).objN Obj.SPA_RAW n = r := by
  unfold spaTaken
  rw [objN_setObjN_addr (by decide), objN_setObj_addr _ (by decide), objN_setObjN_self]

theorem spaTaken_value (s : State) (n r : Nat) : (spaTaken s n r).obj Obj.SPA_VALUE n = (spaNext s n r).x := by
  unfold spaTaken
  rw [State.setObjN, obj_setObj_addr _ (by decide), obj_setObj]

theorem spaTaken_valid (s : State) (n r : Nat) : (spaTaken s n r).objN Obj.SPA_VALID n = boolNat (spaNext s n r).valid :=
  objN_setObjN_self _ _ _ _

theorem spaTaken_loops (s : State) (n r : Nat) : (spaTaken s n r).loops = s.loops := rfl

/-- What an SPA code leaves: the input's record and its three objects. -/
structure SpaShown (s : State) (n r : Nat) (t : State) : Prop where
  spa : mget ({} : SetIn) t.mon.spa n = spaNext s n r
  raw : t.objN Obj.SPA_RAW n = r
  value : t.obj Obj.SPA_VALUE n = (spaNext s n r).x
  valid : t.objN Obj.SPA_VALID n = boolNat (spaNext s n r).valid

theorem spaShown_of_reported {r : Nat} (h : Reported (spaTaken s n r) t) : SpaShown s n r t :=
  ⟨by rw [h.mon]; exact spaTaken_spa s n r, (h.objN (by decide) _).trans (spaTaken_raw s n r), (h.obj _ _ (by decide)).trans (spaTaken_value s n r),
    (h.objN (by decide) _).trans (spaTaken_valid s n r)⟩

theorem execSpaSample_eq (hn : n < 4) (ht : s.ticking = true) :
    exec (.spaSample n code) s = finish s (if spaLost s n (min code 4095) then inputLost (spaTaken s n (min code 4095)) n 1
      else if spaBack s n (min code 4095) then inputBack (spaTaken s n (min code 4095)) n else spaTaken s n (min code 4095)) := by
  show execSpaSample n code s = _
  unfold execSpaSample
  exact congrArg (finish s) (if_neg (by simp [ht]; omega))

/-- A code moves the input's record and shows it; a report of its validity adds nothing there. -/
theorem spaSample_shows (hn : n < 4) (ht : s.ticking = true) :
    ∃ t, exec (.spaSample n code) s = .next t ∧ SpaShown s n (min code 4095) t ∧
      (spaLost s n (min code 4095) = false → spaBack s n (min code 4095) = false → t.loops = s.loops) := by
  have hrun := execSpaSample_eq (code := code) hn ht
  generalize min code 4095 = r at hrun ⊢
  have hshown : SpaShown s n r (if spaLost s n r then inputLost (spaTaken s n r) n 1
      else if spaBack s n r then inputBack (spaTaken s n r) n else spaTaken s n r) := by
    split
    · exact spaShown_of_reported (inputLost_reported _ _ _)
    · split
      · exact spaShown_of_reported (inputBack_reported _ _)
      · exact spaShown_of_reported (.refl _)
  have hloops (hl : spaLost s n r = false) (hb : spaBack s n r = false) : (if spaLost s n r then inputLost (spaTaken s n r) n 1
      else if spaBack s n r then inputBack (spaTaken s n r) n else spaTaken s n r).loops = s.loops := by
    rw [hl, hb]
    rfl
  generalize (if spaLost s n r then inputLost (spaTaken s n r) n 1
      else if spaBack s n r then inputBack (spaTaken s n r) n else spaTaken s n r) = x at hrun hshown hloops
  exact ⟨_, hrun, ⟨hshown.spa, hshown.raw, hshown.value, hshown.valid⟩, hloops⟩

theorem spaSample_valid {x : SetIn} {y : Int} (hn : n < 4) (ht : s.ticking = true) (hx : x = mget {} s.mon.spa n) (hv : x.valid = true)
    (hy : y = x.y + floorDiv (((min code 4095 * 16 : Nat) : Int) - x.y) (2 ^ x.shift : Nat)) :
    ∃ t, exec (.spaSample n code) s = .next t ∧ (mget {} t.mon.spa n).y = y ∧ t.objN Obj.SPA_RAW n = min code 4095 ∧
      t.obj Obj.SPA_VALUE n = min 32767 (floorDiv (y * 5) 8) ∧
      if min code 4095 ≤ s.objN Obj.SPA_LIMIT n then
        (mget {} t.mon.spa n).valid = true ∧ t.objN Obj.SPA_VALID n = 1 ∧ t.loops = s.loops
      else if x.badRun < 3 then
        (mget {} t.mon.spa n).valid = true ∧ (mget {} t.mon.spa n).badRun = x.badRun + 1 ∧ t.objN Obj.SPA_VALID n = 1
      else (mget {} t.mon.spa n).valid = false ∧ t.objN Obj.SPA_VALID n = 0 := by
  subst hx
  obtain ⟨t, hrun, hshown, hloops⟩ := spaSample_shows (code := code) hn ht
  generalize min code 4095 = r at *
  have hback : spaBack s n r = false := by simp [spaBack, hv]
  have hfilter : spaFilter s n r = y := by
    unfold spaFilter
    rw [if_neg (by rw [hback]; exact Bool.false_ne_true)]
    exact hy.symm
  have hvalid : (spaNext s n r).valid = !spaLost s n r := by simp [spaNext, hv]
  refine ⟨t, hrun, ?_, hshown.raw, ?_, ?_⟩
  · rw [hshown.spa]
    exact hfilter
  · rw [hshown.value]
    exact congrArg (fun y => min 32767 (floorDiv (y * 5) 8)) hfilter
  · rw [hshown.spa, hshown.valid, hvalid]
    split
    case isTrue hr =>
      have hlost : spaLost s n r = false := by simp [spaLost, spaBadRun, show ¬ s.objN Obj.SPA_LIMIT n < r by omega]
      rw [hlost]
      exact ⟨rfl, rfl, hloops hlost hback⟩
    case isFalse hr =>
      have hbad : spaBadRun s n r = (mget ({} : SetIn) s.mon.spa n).badRun + 1 := if_pos (decide_eq_true (by omega))
      split
      case isTrue hrun3 =>
        have hlost : spaLost s n r = false := by simp [spaLost, hbad]; omega
        rw [hlost]
        exact ⟨rfl, hbad, rfl⟩
      case isFalse hrun3 =>
        have hlost : spaLost s n r = true := by simp [spaLost, hbad, hv]; omega
        rw [hlost]
        exact ⟨rfl, rfl⟩

theorem spaSample_invalid {x : SetIn} (hn : n < 4) (ht : s.ticking = true) (hx : x = mget {} s.mon.spa n) (hv : x.valid = false)
    (hr : min code 4095 ≤ s.objN Obj.SPA_LIMIT n) :
    ∃ t, exec (.spaSample n code) s = .next t ∧
      if 63 ≤ x.goodRun then
        (mget {} t.mon.spa n).valid = true ∧ (mget {} t.mon.spa n).y = 16 * (min code 4095 : Nat) ∧ t.objN Obj.SPA_VALID n = 1
      else (mget {} t.mon.spa n).valid = false ∧ (mget {} t.mon.spa n).goodRun = x.goodRun + 1 ∧ t.objN Obj.SPA_VALID n = 0 := by
  subst hx
  obtain ⟨t, hrun, hshown, -⟩ := spaSample_shows (code := code) hn ht
  generalize min code 4095 = r at *
  have hgood : spaGoodRun s n r = (mget ({} : SetIn) s.mon.spa n).goodRun + 1 := if_neg (by simpa using hr)
  have hvalid : (spaNext s n r).valid = spaBack s n r := by simp [spaNext, spaLost, hv]
  refine ⟨t, hrun, ?_⟩
  rw [hshown.spa, hshown.valid, hvalid]
  split
  case isTrue h63 =>
    have hback : spaBack s n r = true := by simp [spaBack, hgood, hv]; omega
    have hfilter : (spaNext s n r).y = ((r * 16 : Nat) : Int) := if_pos hback
    rw [hback, hfilter]
    exact ⟨rfl, by omega, rfl⟩
  case isFalse h63 =>
    have hback : spaBack s n r = false := by simp [spaBack, hgood]; omega
    rw [hback]
    exact ⟨rfl, hgood, rfl⟩

/-! ### SPP inputs (R250, R251) -/

/-- The record of an SPP input at the end of a window. -/
def sppNext (s : State) (n edges span : Nat) : SetIn :=
  let x := mget ({} : SetIn) s.mon.spp n
  { x with mode := s.objN Obj.SPP_MODE n, win := s.objN Obj.SPP_WIN n, begun := x.begun + x.ended s.scan,
           lastEdge := if edges = 0 then x.lastEdge else 256 * (x.begun + x.ended s.scan - 2 ^ x.win) + span }

theorem setSpp_spp (s : State) (n : Nat) (x : SetIn) : mget ({} : SetIn) (setSpp s n x).mon.spp n = x := by
  show mget _ (mset _ _ _) n = _
  simp [mget]

theorem setSpp_valid (s : State) (n : Nat) (x : SetIn) : (setSpp s n x).objN Obj.SPP_VALID n = boolNat x.valid := objN_setObjN_self _ _ _ _

theorem setSpp_obj {j : Nat} (x : SetIn) (h : a ≠ Obj.SPP_VALID) : (setSpp s n x).obj a j = s.obj a j := obj_setObj_addr _ h

variable {edges span high freq duty : Nat}

/-- The state after the values of a window, before a change of validity is reported. -/
def sppTaken (s : State) (n edges span freq duty : Nat) (v : Int) : State :=
  setSpp (((s.setObjN Obj.SPP_DUTY n duty).setObjN Obj.SPP_FREQ n freq).setObj Obj.SPP_VALUE n v) n
    { sppNext s n edges span with x := v, valid := decide (freq ≤ 1200000) }

theorem sppTaken_spp (s : State) (n edges span freq duty : Nat) (v : Int) :
    (mget ({} : SetIn) (sppTaken s n edges span freq duty v).mon.spp n).valid = decide (freq ≤ 1200000) := by
  unfold sppTaken
  rw [setSpp_spp]

theorem sppTaken_freq (s : State) (n edges span freq duty : Nat) (v : Int) :
    (sppTaken s n edges span freq duty v).objN Obj.SPP_FREQ n = freq := by
  unfold sppTaken State.objN
  rw [setSpp_obj _ (by decide), obj_setObj_addr _ (by decide), obj_setObjN]
  exact Int.toNat_natCast freq

theorem sppTaken_duty (s : State) (n edges span freq duty : Nat) (v : Int) :
    (sppTaken s n edges span freq duty v).objN Obj.SPP_DUTY n = duty := by
  unfold sppTaken State.objN
  rw [setSpp_obj _ (by decide), obj_setObj_addr _ (by decide), State.setObjN, obj_setObj_addr _ (by decide), obj_setObjN]
  exact Int.toNat_natCast duty

theorem sppTaken_value (s : State) (n edges span freq duty : Nat) (v : Int) :
    (sppTaken s n edges span freq duty v).obj Obj.SPP_VALUE n = v := by
  unfold sppTaken
  rw [setSpp_obj _ (by decide), obj_setObj]

theorem sppTaken_valid (s : State) (n edges span freq duty : Nat) (v : Int) :
    (sppTaken s n edges span freq duty v).objN Obj.SPP_VALID n = if freq ≤ 1200000 then 1 else 0 := by
  unfold sppTaken
  rw [setSpp_valid]
  unfold boolNat
  simp only [decide_eq_true_eq]

theorem sppWindowEnd_measures (hn : n < 4) (ht : s.ticking = true) (he : 2 ≤ edges) (hs : 0 < span)
    (hw : 0 < (mget {} s.mon.spp n : SetIn).ended s.scan) (hl : span ≤ 256 * 2 ^ (mget {} s.mon.spp n : SetIn).win) (hh : high ≤ span)
    (hf : freq = (edges - 1) * 156250000 / span) (hd : duty = min 32767 (32768 * high / span)) :
    ∃ t, exec (.sppWindowEnd n edges span high) s = .next t ∧ t.objN Obj.SPP_FREQ n = freq ∧ t.objN Obj.SPP_DUTY n = duty ∧
      t.obj Obj.SPP_VALUE n = s.sppValue n (mget {} s.mon.spp n : SetIn).mode duty freq ∧
      t.objN Obj.SPP_VALID n = (if freq ≤ 1200000 then 1 else 0) ∧
      (mget {} t.mon.spp n : SetIn).valid = decide (freq ≤ 1200000) := by
  have hrun : ∃ x, exec (.sppWindowEnd n edges span high) s = finish s x ∧
      Reported (sppTaken s n edges span freq duty (s.sppValue n (mget {} s.mon.spp n : SetIn).mode duty freq)) x := by
    by_cases hv : 1200000 < freq
    · have htaken : sppTaken s n edges span freq duty (s.sppValue n (mget {} s.mon.spp n : SetIn).mode duty freq) =
          setSpp (((s.setObjN Obj.SPP_DUTY n duty).setObjN Obj.SPP_FREQ n freq).setObj Obj.SPP_VALUE n
            (s.sppValue n (mget {} s.mon.spp n : SetIn).mode duty freq)) n
            { sppNext s n edges span with x := s.sppValue n (mget {} s.mon.spp n : SetIn).mode duty freq, valid := false } := by
        unfold sppTaken
        rw [decide_eq_false (by omega)]
      refine ⟨if (mget ({} : SetIn) s.mon.spp n).valid then inputLost
        (sppTaken s n edges span freq duty (s.sppValue n (mget {} s.mon.spp n : SetIn).mode duty freq)) (n + 4) 3
        else sppTaken s n edges span freq duty (s.sppValue n (mget {} s.mon.spp n : SetIn).mode duty freq), ?_, ?_⟩
      · show execSppWindowEnd n edges span high s = _
        unfold execSppWindowEnd
        rw [htaken]
        subst hf hd
        refine congrArg (finish s) ((if_neg ?_).trans ((if_neg ?_).trans (if_pos hv)))
        · simp [ht]; omega
        · omega
      · split
        · exact inputLost_reported _ _ _
        · exact .refl _
    · have htaken : sppTaken s n edges span freq duty (s.sppValue n (mget {} s.mon.spp n : SetIn).mode duty freq) =
          setSpp (((s.setObjN Obj.SPP_DUTY n duty).setObjN Obj.SPP_FREQ n freq).setObj Obj.SPP_VALUE n
            (s.sppValue n (mget {} s.mon.spp n : SetIn).mode duty freq)) n
            { sppNext s n edges span with x := s.sppValue n (mget {} s.mon.spp n : SetIn).mode duty freq, valid := true } := by
        unfold sppTaken
        rw [decide_eq_true (by omega)]
      refine ⟨if (mget ({} : SetIn) s.mon.spp n).valid then
        sppTaken s n edges span freq duty (s.sppValue n (mget {} s.mon.spp n : SetIn).mode duty freq) else
        inputBack (sppTaken s n edges span freq duty (s.sppValue n (mget {} s.mon.spp n : SetIn).mode duty freq)) (n + 4), ?_, ?_⟩
      · show execSppWindowEnd n edges span high s = _
        unfold execSppWindowEnd
        rw [htaken]
        subst hf hd
        refine congrArg (finish s) ((if_neg ?_).trans ((if_neg ?_).trans (if_neg hv)))
        · simp [ht]; omega
        · omega
      · split
        · exact .refl _
        · exact inputBack_reported _ _
  obtain ⟨x, hrun, hrep⟩ := hrun
  refine ⟨_, hrun, ?_, ?_, ?_, ?_, ?_⟩
  · exact (hrep.objN (by decide) _).trans (sppTaken_freq ..)
  · exact (hrep.objN (by decide) _).trans (sppTaken_duty ..)
  · exact (hrep.obj _ _ (by decide)).trans (sppTaken_value ..)
  · exact (hrep.objN (by decide) _).trans (sppTaken_valid ..)
  · exact (congrArg (fun m : Monitor => (mget ({} : SetIn) m.spp n).valid) hrep.mon).trans (sppTaken_spp ..)

theorem sppWindowEnd_early (h : (mget {} s.mon.spp n : SetIn).ended s.scan = 0) :
    ∃ t, exec (.sppWindowEnd n edges span high) s = .next t ∧ Frame [.ex] s t := by
  have hrun : exec (.sppWindowEnd n edges span high) s = finish s s := by
    show execSppWindowEnd n edges span high s = _
    unfold execSppWindowEnd
    exact congrArg (finish s) (if_pos (.inr (.inr (.inl h))))
  exact ⟨_, hrun, frame_sealed (.refl s) (by decide)⟩

theorem sppWindowEnd_silent (he : edges < 2) :
    ∃ t, exec (.sppWindowEnd n edges span high) s = .next t ∧ (mget {} t.mon.spp n : SetIn).valid = (mget {} s.mon.spp n : SetIn).valid ∧
      (mget {} t.mon.spp n : SetIn).x = (mget {} s.mon.spp n : SetIn).x ∧ t.obj Obj.SPP_FREQ n = s.obj Obj.SPP_FREQ n ∧
      t.obj Obj.SPP_DUTY n = s.obj Obj.SPP_DUTY n ∧ t.obj Obj.SPP_VALUE n = s.obj Obj.SPP_VALUE n ∧ t.loops = s.loops := by
  by_cases hout : 4 ≤ n ∨ !s.ticking ∨ (mget {} s.mon.spp n : SetIn).ended s.scan = 0 ∨ 256 * 2 ^ (mget {} s.mon.spp n : SetIn).win < span ∨ span < high
  · have hrun : exec (.sppWindowEnd n edges span high) s = finish s s := by
      show execSppWindowEnd n edges span high s = _
      unfold execSppWindowEnd
      exact congrArg (finish s) (if_pos hout)
    exact ⟨_, hrun, rfl, rfl, rfl, rfl, rfl, rfl⟩
  · have hrun : exec (.sppWindowEnd n edges span high) s = finish s (setSpp s n (sppNext s n edges span)) := by
      show execSppWindowEnd n edges span high s = _
      unfold execSppWindowEnd
      exact congrArg (finish s) ((if_neg hout).trans (if_pos (.inl he)))
    have hspp := setSpp_spp s n (sppNext s n edges span)
    exact ⟨_, hrun, (congrArg SetIn.valid hspp).trans rfl, (congrArg SetIn.x hspp).trans rfl, setSpp_obj (s := s) _ (by decide), setSpp_obj (s := s) _ (by decide),
      setSpp_obj (s := s) _ (by decide), rfl⟩

theorem sppTimeout_ends (hn : n < 4) (hv : (mget {} s.mon.spp n : SetIn).valid = true) :
    ∃ t, exec (.sppTimeout n) s = .next t ∧
      if s.elapsed (mget {} s.mon.spp n : SetIn).lastEdge (1000000 * s.objN Obj.SPP_TIMEOUT n) = true then
        (mget {} t.mon.spp n : SetIn).valid = false ∧ t.objN Obj.SPP_VALID n = 0
      else Frame [.ex] s t := by
  by_cases he : s.elapsed (mget {} s.mon.spp n : SetIn).lastEdge (1000000 * s.objN Obj.SPP_TIMEOUT n) = true
  · have hrun : exec (.sppTimeout n) s =
        finish s (inputLost (setSpp s n { mget ({} : SetIn) s.mon.spp n with valid := false }) (n + 4) 2) := by
      show execSppTimeout n s = _
      unfold execSppTimeout
      exact congrArg (finish s) (if_pos ⟨hn, hv, he⟩)
    have hrep := inputLost_reported (setSpp s n { mget ({} : SetIn) s.mon.spp n with valid := false }) (n + 4) 2
    have hvalid := (hrep.objN (a := Obj.SPP_VALID) (by decide) n).trans (setSpp_valid s n { mget ({} : SetIn) s.mon.spp n with valid := false })
    have hspp := (congrArg (fun m : Monitor => (mget ({} : SetIn) m.spp n).valid) hrep.mon).trans
      (congrArg SetIn.valid (setSpp_spp s n { mget ({} : SetIn) s.mon.spp n with valid := false }))
    generalize inputLost (setSpp s n { mget ({} : SetIn) s.mon.spp n with valid := false }) (n + 4) 2 = x at hrun hvalid hspp
    refine ⟨_, hrun, ?_⟩
    rw [if_pos he]
    exact ⟨hspp, hvalid⟩
  · have hrun : exec (.sppTimeout n) s = finish s s := by
      show execSppTimeout n s = _
      unfold execSppTimeout
      exact congrArg (finish s) (if_neg fun h => he h.2.2)
    refine ⟨_, hrun, ?_⟩
    rw [if_neg he]
    exact frame_sealed (.refl s) (by decide)

end

end Sys2Proof.Proofs

/-!
SUPPORT. Averaging channels and the application of staged coefficients (spec/06_datapath.md, Running sums, Objects).
-/

namespace Sys2Proof.Proofs

open Sys2Proof Sys2Proof.Machine Sys2Proof.Laws

section

variable {s t w : State} {n code a i k sess : Nat}

@[simp] theorem avg_setAvg (s : State) (n : Nat) (x : Avg) : (s.setAvg n x).avg n = x := by
  simp [State.avg, State.setAvg, mget]

theorem avg_setAvg_other (s : State) (x : Avg) (h : k ≠ n) : (s.setAvg n x).avg k = s.avg k := mget_mset_other _ _ _ h

theorem avg_of_avgs (h : t.mon.avgs = s.mon.avgs) (k : Nat) : t.avg k = s.avg k := by
  unfold State.avg
  rw [h]

/-! ### Windows (R184) -/

/-- The objects that the count of a stored result may change. -/
def countObjs : List Nat := [Obj.RING_DROPPED, Obj.GUARD_COUNT, Obj.INV_COUNT, Obj.SAT_COUNT]

theorem guardFlush_objs (s : State) (col : Nat) : ObjsOnly countObjs s (guardFlush s col) := by
  unfold guardFlush
  exact .ite (.raiseA (by decide) (.set_mon (.refl s))) (.refl s)

theorem guardOverflow_objs (s : State) (col n : Nat) : ObjsOnly countObjs s (guardOverflow s col n) := by
  unfold guardOverflow
  exact .trans (.incSat (by decide) (.set_mon (.refl s))) (guardFlush_objs _ _)

theorem countStore_objs (s : State) (cols : List Nat) (sat inv : Bool) : ObjsOnly countObjs s (countStore s cols sat inv) :=
  fun a i h => countStore_obj s cols sat inv (fun e => h (by rw [e]; decide)) (fun e => h (by rw [e]; decide)) i

theorem guardFlush_avgs (s : State) (col : Nat) : (guardFlush s col).mon.avgs = s.mon.avgs := by
  unfold guardFlush
  extract_lets g free u
  split
  · exact (congrArg Monitor.avgs (raiseA_mon _ _ _)).trans rfl
  · rfl

theorem guardOverflow_avgs (s : State) (col n : Nat) : (guardOverflow s col n).mon.avgs = s.mon.avgs := by
  unfold guardOverflow
  exact (guardFlush_avgs _ col).trans rfl

/-- The objects and the record of a channel with a stored result. -/
def avgPut (s : State) (n : Nat) (mean total : Int) (tag : Nat) (x : Avg) : State :=
  ((((s.setObj Obj.AVG_MEAN n mean).setObj Obj.AVG_SUM n total).setObjN Obj.AVG_TAG n tag).incWrap Obj.AVG_SEQ n).setAvg n x

section

variable (s : State) (n : Nat) (mean total : Int) (tag : Nat) (x : Avg)

theorem avgPut_objs : (avgPut s n mean total tag x).objs =
    ((((s.setObj Obj.AVG_MEAN n mean).setObj Obj.AVG_SUM n total).setObjN Obj.AVG_TAG n tag).incWrap Obj.AVG_SEQ n).objs := rfl

theorem avgPut_mean : (avgPut s n mean total tag x).obj Obj.AVG_MEAN n = mean := by
  rw [obj_of_objs (avgPut_objs s n mean total tag x), State.incWrap, State.setObjN, State.setObjN, obj_setObj_addr _ (by decide),
    obj_setObj_addr _ (by decide), obj_setObj_addr _ (by decide), obj_setObj]

theorem avgPut_sum : (avgPut s n mean total tag x).obj Obj.AVG_SUM n = total := by
  rw [obj_of_objs (avgPut_objs s n mean total tag x), State.incWrap, State.setObjN, State.setObjN, obj_setObj_addr _ (by decide),
    obj_setObj_addr _ (by decide), obj_setObj]

theorem avgPut_tag : (avgPut s n mean total tag x).objN Obj.AVG_TAG n = tag := by
  rw [objN_of_objs (avgPut_objs s n mean total tag x), State.incWrap, objN_setObjN_addr (by decide), objN_setObjN_self]

theorem avgPut_seq : (avgPut s n mean total tag x).objN Obj.AVG_SEQ n = (s.objN Obj.AVG_SEQ n + 1) % 0x100000000 := by
  rw [objN_of_objs (avgPut_objs s n mean total tag x), State.incWrap, objN_setObjN_self, objN_setObjN_addr (by decide),
    objN_setObj_addr _ (by decide), objN_setObj_addr _ (by decide)]

theorem avgPut_avg : (avgPut s n mean total tag x).avg n = x := avg_setAvg _ _ _

theorem avgPut_other (h : k ≠ n) : (avgPut s n mean total tag x).avg k = s.avg k := avg_setAvg_other _ _ h

end

/-- A window stored and begun anew, before its result is counted. -/
def avgShown (s : State) (n : Nat) : State :=
  avgPut s n ((s.avg n).sum.storeQ15 (-((s.avg n).len : Int))).p ((s.avg n).sum.storeI32 0).p
    (boolNat (((s.avg n).sum.storeQ15 (-((s.avg n).len : Int))).sat || ((s.avg n).sum.storeI32 0).sat) +
      2 * boolNat ((s.avg n).sum.storeQ15 (-((s.avg n).len : Int))).inv) { s.avg n with sum := {}, count := 0 }

/-- Counting the result changes none of the channels and none of their objects. -/
theorem avgStore_counts (s : State) (n : Nat) :
    ObjsOnly countObjs (avgShown s n) (avgStore s n) ∧ (avgStore s n).mon.avgs = (avgShown s n).mon.avgs := by
  have heq : avgStore s n = if (s.avg n).sum.guard ≠ 0 then guardOverflow (avgShown s n) (n / 16) n
      else countStore (avgShown s n) [n / 16] (((s.avg n).sum.storeQ15 (-((s.avg n).len : Int))).sat || ((s.avg n).sum.storeI32 0).sat)
        ((s.avg n).sum.storeQ15 (-((s.avg n).len : Int))).inv := rfl
  rw [heq]
  generalize avgShown s n = w
  split
  · exact ⟨guardOverflow_objs w _ _, guardOverflow_avgs w _ _⟩
  · exact ⟨countStore_objs w _ _ _, congrArg Monitor.avgs ((countStore_frame w _ _ _).mon rfl)⟩

theorem storeQ15_mean (x : Acc) (len : Nat) : (x.storeQ15 (-(len : Int))).p =
    if x.guard = 0 then clampInt (-32768) 32767 (floorDiv x.x (32768 * 2 ^ len : Nat)) else if 0 < x.guard then 32767 else -32768 := by
  have hshift : shiftStore x.x (-(len : Int)) = floorDiv x.x (32768 * 2 ^ len : Nat) := by
    unfold shiftStore
    by_cases h : len = 0
    · subst h
      simp
    · rw [if_neg (by omega), neg_neg, Int.toNat_natCast]
  unfold Acc.storeQ15 Acc.store
  by_cases hg : x.guard = 0
  · rw [if_neg (fun h => h hg), if_pos hg, hshift]
  · rw [if_pos hg, if_neg hg]

theorem storeI32_sum (x : Acc) : (x.storeI32 0).p =
    if x.guard = 0 then clampInt (-2147483648) 2147483647 (floorDiv x.x 32768) else if 0 < x.guard then 2147483647 else -2147483648 := by
  have hshift : shiftStore x.x 0 = floorDiv x.x 32768 := by
    unfold shiftStore
    simp
  unfold Acc.storeI32 Acc.store
  by_cases hg : x.guard = 0
  · rw [if_neg (fun h => h hg), if_pos hg, hshift]
  · rw [if_pos hg, if_neg hg]

theorem avgWindowEnd_stores {x : Avg} (hn : n < 672) (hx : x = s.avg n) :
    ∃ t, exec (.avgWindowEnd n) s = .next t ∧
      if 2 ^ x.len ≤ x.count then
        t.obj Obj.AVG_MEAN n = (if x.sum.guard = 0 then clampInt (-32768) 32767 (floorDiv x.sum.x (32768 * 2 ^ x.len : Nat))
          else if 0 < x.sum.guard then 32767 else -32768) ∧
        t.obj Obj.AVG_SUM n = (if x.sum.guard = 0 then clampInt (-2147483648) 2147483647 (floorDiv x.sum.x 32768)
          else if 0 < x.sum.guard then 2147483647 else -2147483648) ∧
        t.objN Obj.AVG_TAG n = boolNat ((x.sum.storeQ15 (-(x.len : Int))).sat || (x.sum.storeI32 0).sat) +
          2 * boolNat (x.sum.storeQ15 (-(x.len : Int))).inv ∧
        t.objN Obj.AVG_SEQ n = (s.objN Obj.AVG_SEQ n + 1) % 0x100000000 ∧
        t.avg n = { x with sum := {}, count := 0 } ∧ (∀ k, k ≠ n → t.avg k = s.avg k)
      else Frame [.ex] s t := by
  subst hx
  by_cases hc : 2 ^ (s.avg n).len ≤ (s.avg n).count
  · have hrun : exec (.avgWindowEnd n) s = finish s (avgStore s n) := by
      show execAvgWindowEnd n s = _
      unfold execAvgWindowEnd
      rw [if_pos ⟨hn, hc⟩]
    obtain ⟨hobjs, havgs⟩ := avgStore_counts s n
    have hmean : (avgShown s n).obj Obj.AVG_MEAN n = ((s.avg n).sum.storeQ15 (-((s.avg n).len : Int))).p := avgPut_mean ..
    have hsum : (avgShown s n).obj Obj.AVG_SUM n = ((s.avg n).sum.storeI32 0).p := avgPut_sum ..
    have htag : (avgShown s n).objN Obj.AVG_TAG n = boolNat (((s.avg n).sum.storeQ15 (-((s.avg n).len : Int))).sat ||
      ((s.avg n).sum.storeI32 0).sat) + 2 * boolNat ((s.avg n).sum.storeQ15 (-((s.avg n).len : Int))).inv := avgPut_tag ..
    have hseq : (avgShown s n).objN Obj.AVG_SEQ n = (s.objN Obj.AVG_SEQ n + 1) % 0x100000000 := avgPut_seq ..
    have hself : (avgShown s n).avg n = { s.avg n with sum := {}, count := 0 } := avgPut_avg ..
    have hother (k : Nat) (h : k ≠ n) : (avgShown s n).avg k = s.avg k := avgPut_other _ _ _ _ _ _ h
    generalize avgShown s n = w at *
    generalize avgStore s n = x at *
    rw [storeQ15_mean] at hmean
    rw [storeI32_sum] at hsum
    refine ⟨_, hrun, ?_⟩
    rw [if_pos hc]
    refine ⟨?_, ?_, ?_, ?_, ?_, fun k hk => ?_⟩
    · exact (hobjs _ _ (by decide)).trans hmean
    · exact (hobjs _ _ (by decide)).trans hsum
    · exact (congrArg Int.toNat (hobjs Obj.AVG_TAG n (by decide))).trans htag
    · exact (congrArg Int.toNat (hobjs Obj.AVG_SEQ n (by decide))).trans hseq
    · exact (avg_of_avgs havgs n).trans hself
    · exact (avg_of_avgs havgs k).trans (hother k hk)
  · have hrun : exec (.avgWindowEnd n) s = finish s s := by
      show execAvgWindowEnd n s = _
      unfold execAvgWindowEnd
      rw [if_neg fun h => hc h.2]
    refine ⟨_, hrun, ?_⟩
    rw [if_neg hc]
    exact frame_sealed (.refl s) (by decide)

/-! ### Settings of a channel -/

theorem avgConfig_len {v : Int} (h : s.accepts sess Obj.AVG_LEN n v = true) :
    ∃ t, exec (.avgConfig sess n true v) s = .next t ∧ t.answered sess 0 Obj.AVG_LEN n (.ack []) ∧ t.obj Obj.AVG_LEN n = v ∧
      t.avg n = { s.avg n with change := true, pd := some (s.avgPd n) } ∧ (∀ k, k ≠ n → t.avg k = s.avg k) := by
  have hopens : Opens1 (seen s sess) (effAvgConfig n true v (seen s sess)) := opens_of_frame (effAvgConfig_frame n true v _) (by decide)
  obtain ⟨hans, hframe⟩ := hostWrite_acks (eff := effAvgConfig n true v) h rfl hopens
  have hseen := seen_frame s sess
  have havg (k : Nat) : (seen s sess).avg k = s.avg k := avg_of_avgs (congrArg Monitor.avgs (hseen.mon rfl)) k
  have hpd : (seen s sess).avgPd n = s.avgPd n := by
    unfold State.avgPd
    rw [havg, objN_of_objs (hseen.objs rfl)]
  have hobj : (effAvgConfig n true v (seen s sess)).1.obj Obj.AVG_LEN n = v := obj_setObj _ _ _ _
  have hself : (effAvgConfig n true v (seen s sess)).1.avg n =
      { (seen s sess).avg n with change := true, pd := some ((seen s sess).avgPd n) } := avg_setAvg _ _ _
  have hother (k : Nat) (hk : k ≠ n) : (effAvgConfig n true v (seen s sess)).1.avg k = (seen s sess).avg k := avg_setAvg_other _ _ hk
  rw [hpd, havg] at hself
  refine ⟨_, rfl, hans, (obj_of_objs (hframe.objs rfl) _ _).trans hobj, ?_, fun k hk => ?_⟩
  · exact (avg_of_avgs (congrArg Monitor.avgs (hframe.mon rfl)) n).trans hself
  · exact (avg_of_avgs (congrArg Monitor.avgs (hframe.mon rfl)) k).trans ((hother k hk).trans (havg k))

theorem avgConfig_pd {v : Int} (h : s.accepts sess Obj.AVG_PD n v = true) :
    ∃ t, exec (.avgConfig sess n false v) s = .next t ∧
      if n / 16 ∈ receivers v.toNat then
        t.answered sess 0 Obj.AVG_PD n (.ack []) ∧ t.obj Obj.AVG_PD n = v ∧ t.avgPd n = s.avgPd n ∧ (t.avg n).change = true ∧
          (t.avg n).sum = (s.avg n).sum
      else t.answered sess 0 Obj.AVG_PD n (.nak .range 0 0) ∧ Frame [.ex] s t := by
  have hseen := seen_frame s sess
  have havg (k : Nat) : (seen s sess).avg k = s.avg k := avg_of_avgs (congrArg Monitor.avgs (hseen.mon rfl)) k
  have hpd : (seen s sess).avgPd n = s.avgPd n := by
    unfold State.avgPd
    rw [havg, objN_of_objs (hseen.objs rfl)]
  refine ⟨_, rfl, ?_⟩
  by_cases hr : n / 16 ∈ receivers v.toNat
  · rw [if_pos hr]
    have heff : effAvgConfig n false v (seen s sess) = (((seen s sess).setAvg n
        { (seen s sess).avg n with change := true, pd := some ((seen s sess).avgPd n) }).setObj Obj.AVG_PD n v, .ack) := by
      unfold effAvgConfig
      rw [if_neg Bool.false_ne_true, if_pos (by simpa using hr)]
    obtain ⟨hans, hframe⟩ := hostWrite_acks h (congrArg Prod.snd heff) (opens_of_frame (effAvgConfig_frame n false v _) (by decide))
    rw [heff] at hframe
    have hself : (((seen s sess).setAvg n { (seen s sess).avg n with change := true, pd := some ((seen s sess).avgPd n) }).setObj
        Obj.AVG_PD n v).avg n = { (seen s sess).avg n with change := true, pd := some ((seen s sess).avgPd n) } := avg_setAvg _ _ _
    rw [hpd, havg] at hself
    have hobj := obj_setObj ((seen s sess).setAvg n { (seen s sess).avg n with change := true, pd := some ((seen s sess).avgPd n) })
      Obj.AVG_PD n v
    rw [hpd, havg] at hobj hframe
    have hkept := (avg_of_avgs (congrArg Monitor.avgs (hframe.mon rfl)) n).trans hself
    refine ⟨hans, (obj_of_objs (hframe.objs rfl) _ _).trans hobj, ?_, congrArg Avg.change hkept,
      (congrArg Avg.sum hkept).trans rfl⟩
    exact congrArg (fun p : Option Nat => p.getD _) (congrArg Avg.pd hkept)
  · rw [if_neg hr]
    have heff : effAvgConfig n false v (seen s sess) = (seen s sess, .nak .range) := by
      unfold effAvgConfig
      rw [if_neg Bool.false_ne_true, if_neg (by simpa using hr)]
    obtain ⟨hans, hframe⟩ := hostWrite_refused h heff (by decide)
    exact ⟨hans, frame_sealed hframe (by decide)⟩

/-! ### Staged coefficients (R187) -/

theorem dpApply_waits (h : s.accepts sess Obj.DP_APPLY 0 1 = true) :
    ∃ t, exec (.dpApply sess) s = .next t ∧
      if s.mon.dpPending = true then t.answered sess 0 Obj.DP_APPLY 0 (.nak .busy 0 0) ∧ Frame [.ex] s t
      else t.answered sess 0 Obj.DP_APPLY 0 (.ack []) ∧ t.mon = { s.mon with dpPending := true } ∧ Frame [.ex, .mon] s t := by
  have hseen := seen_frame s sess
  have hmon := hseen.mon rfl
  refine ⟨_, rfl, ?_⟩
  by_cases hp : s.mon.dpPending = true
  · rw [if_pos hp]
    have heff : effDpApply (seen s sess) = (seen s sess, .nak .busy) := if_pos (by rw [hmon]; exact hp)
    obtain ⟨hans, hframe⟩ := hostWrite_refused h heff (by decide)
    exact ⟨hans, frame_sealed hframe (by decide)⟩
  · rw [if_neg hp]
    have heff : effDpApply (seen s sess) = ({ seen s sess with mon := { (seen s sess).mon with dpPending := true } }, .ack) :=
      if_neg (by rw [hmon]; exact hp)
    obtain ⟨hans, hframe⟩ := hostWrite_acks h (congrArg Prod.snd heff) (opens_of_frame (effDpApply_frame _) (by decide))
    rw [heff] at hframe
    refine ⟨hans, (hframe.mon rfl).trans (congrArg (fun m : Monitor => { m with dpPending := true }) hmon), ?_⟩
    exact frame_sealed (.trans (.set_mon (by decide) (hseen.mono (by decide))) (hframe.mono (by decide))) (by decide)

/-- The values of an object that a list of pairs sets: with no key twice, each is what its pair says. -/
theorem setObjs_obj {l : SMap Int} (hl : l.Pairwise fun p q => p.1 ≠ q.1) (s : State) {p : Nat × Int} (hp : p ∈ l) :
    (l.foldl (fun s e => s.setObj a e.1 e.2) s).obj a p.1 = p.2 := by
  induction l generalizing s with
  | nil => cases hp
  | cons q l ih =>
    obtain ⟨hq, hrest⟩ := List.pairwise_cons.mp hl
    rcases List.mem_cons.mp hp with rfl | hmem
    · refine foldl_holds (P := fun t => t.obj a p.1 = p.2) l (obj_setObj s a p.1 p.2) fun t e he h => ?_
      exact (obj_setObj_other _ fun h => hq e he h.2).trans h
    · exact ih hrest _ hmem

theorem setOcts_objs (l : SMap (List Byte)) (s : State) : (l.foldl (fun s e => s.setOct a e.1 e.2) s).objs = s.objs :=
  foldl_keeps (g := State.objs) (f := fun s e => s.setOct a e.1 e.2) (fun _ _ => rfl) l s

theorem setOcts_staged (l : SMap (List Byte)) (s : State) : (l.foldl (fun s e => s.setOct a e.1 e.2) s).staged = s.staged :=
  foldl_keeps (g := State.staged) (f := fun s e => s.setOct a e.1 e.2) (fun _ _ => rfl) l s

theorem setObjs_staged (l : SMap Int) (s : State) : (l.foldl (fun s e => s.setObj a e.1 e.2) s).staged = s.staged :=
  foldl_keeps (g := State.staged) (f := fun s e => s.setObj a e.1 e.2) (fun _ _ => rfl) l s

theorem applyStaged_obj (hs : msorted (s.stagedOf a) = true) {p : Nat × Int} (hp : p ∈ s.stagedOf a) :
    (s.applyStaged a).obj a p.1 = p.2 := by
  unfold State.applyStaged
  refine (obj_of_objs (setOcts_objs _ _) _ _).trans ?_
  exact setObjs_obj ((rising_of_msorted hs).imp fun h => Nat.ne_of_lt h) s hp

theorem applyStaged_obj_addr {b j : Nat} (h : b ≠ a) : (s.applyStaged a).obj b j = s.obj b j := by
  unfold State.applyStaged
  refine (obj_of_objs (setOcts_objs _ _) _ _).trans ?_
  exact foldl_keeps (g := fun s => s.obj b j) (fun t e => obj_setObj_addr _ h) _ s

theorem applyStaged_staged (s : State) (a : Nat) : (s.applyStaged a).staged = mdel s.staged a := by
  unfold State.applyStaged
  dsimp only
  rw [setOcts_staged, setObjs_staged]

theorem applyStaged_stagedOf (s : State) (a : Nat) : (s.applyStaged a).stagedOf a = [] := by
  unfold State.stagedOf mget
  rw [applyStaged_staged, mfind_mdel_self]
  rfl

theorem applyStaged_stagedOf_addr {b : Nat} (h : b ≠ a) : (s.applyStaged a).stagedOf b = s.stagedOf b := by
  unfold State.stagedOf mget
  rw [applyStaged_staged, mfind_mdel_other _ h]

/-- One staged object of an application, its old values kept for the scan that ends. -/
def dpTake (s : State) (a : Nat) : State := (keepStaged s a).applyStaged a

theorem dpTake_obj_addr {b j : Nat} (h : b ≠ a) : (dpTake s a).obj b j = s.obj b j :=
  (applyStaged_obj_addr h).trans (obj_of_objs ((keepStaged_frame s a).objs rfl) _ _)

theorem keepStaged_stagedOf (s : State) (a b : Nat) : (keepStaged s a).stagedOf b = s.stagedOf b := by
  unfold State.stagedOf
  rw [(keepStaged_frame s a).staged rfl]

theorem dpTake_stagedOf_addr {b : Nat} (h : b ≠ a) : (dpTake s a).stagedOf b = s.stagedOf b :=
  (applyStaged_stagedOf_addr h).trans (keepStaged_stagedOf s a b)

theorem dpTakes_obj_addr {b j : Nat} (l : List Nat) (h : b ∉ l) (s : State) : (l.foldl dpTake s).obj b j = s.obj b j :=
  foldl_holds (P := fun t => t.obj b j = s.obj b j) l rfl fun _ _ ha ht => (dpTake_obj_addr (by rintro rfl; exact h ha)).trans ht

theorem dpTakes_stagedOf_addr {b : Nat} (l : List Nat) (h : b ∉ l) (s : State) : (l.foldl dpTake s).stagedOf b = s.stagedOf b :=
  foldl_holds (P := fun t => t.stagedOf b = s.stagedOf b) l rfl fun _ _ ha ht => (dpTake_stagedOf_addr (by rintro rfl; exact h ha)).trans ht

/-- Of a list of objects every one that is staged in order takes effect, and nothing of it stays staged. -/
theorem dpTakes_applied {l : List Nat} (hl : l.Nodup) (s : State) (ha : a ∈ l) (hs : msorted (s.stagedOf a) = true) :
    (l.foldl dpTake s).stagedOf a = [] ∧ ∀ p ∈ s.stagedOf a, (l.foldl dpTake s).obj a p.1 = p.2 := by
  induction l generalizing s with
  | nil => cases ha
  | cons b l ih =>
    obtain ⟨hb, hrest⟩ := List.nodup_cons.mp hl
    rw [List.foldl_cons]
    by_cases hab : a = b
    · subst hab
      have hself : (dpTake s a).stagedOf a = [] := applyStaged_stagedOf _ a
      refine ⟨(dpTakes_stagedOf_addr l hb _).trans hself, fun p hp => (dpTakes_obj_addr l hb _).trans ?_⟩
      rw [← keepStaged_stagedOf s a a] at hs hp
      exact applyStaged_obj hs hp
    · have hkept := dpTake_stagedOf_addr (s := s) hab
      rw [← hkept] at hs ⊢
      exact ih hrest (dpTake s b) (List.mem_of_ne_of_mem hab ha) hs

/-- The state after the staged coefficients have taken effect, with the filters that changed noted. -/
def dpTaken (s : State) : State := dpObjs.foldl dpTake { s with mon := { s.mon with dpPending := false } }

theorem keepStaged_pending (s : State) (a : Nat) : (keepStaged s a).mon.dpPending = s.mon.dpPending := by
  have hcoef (t : State) (b i : Nat) : (keepCoef t b i).mon.dpPending = t.mon.dpPending := by
    unfold keepCoef
    dsimp only
    split <;> split <;> rfl
  have hoct (t : State) (b i : Nat) : (keepCoefOct t b i).mon.dpPending = t.mon.dpPending := by
    unfold keepCoefOct
    dsimp only
    split <;> split <;> rfl
  unfold keepStaged
  exact (foldl_keeps (g := fun t => t.mon.dpPending) (fun t e => hoct t a _) _ _).trans
    (foldl_keeps (g := fun t => t.mon.dpPending) (fun t e => hcoef t a _) _ _)

theorem dpTake_pending (s : State) (a : Nat) : (dpTake s a).mon.dpPending = s.mon.dpPending := by
  unfold dpTake
  rw [(State.applyStaged_frame _ a).mon rfl]
  exact keepStaged_pending s a

theorem dpTaken_pending (s : State) : (dpTaken s).mon.dpPending = false := by
  unfold dpTaken
  generalize dpObjs = l
  exact foldl_keeps (g := fun t => t.mon.dpPending) dpTake_pending l _

/-- The converters whose filter an application changes. -/
def dpChanged (s : State) : List Nat :=
  if !((s.stagedOf Obj.FILT_LEN).isEmpty && (s.stagedOf Obj.FILT_SET).isEmpty && (s.stagedOctsOf Obj.FILT_COEF).isEmpty) then
    (List.range 2624).filter fun cv => (dpTaken s).filterOf cv != s.filterOf cv else []

/-- The state with the changed filters noted. -/
def dpFiltered (s : State) : State :=
  (dpChanged s).foldl (fun t cv => t.setConv cv { t.conv cv with filt := some (s.scan, s.scan + t.filtLen s.scan cv - 1) }) (dpTaken s)

/-- The state before DP_GEN goes up. -/
def dpNoted (s : State) : State :=
  if [Obj.CONV_OFFSET, Obj.CONV_GAIN, Obj.PD_GAIN].any fun a => (s.stagedOf a).any fun e => s.obj a e.1 != e.2
  then noteUnstored (dpFiltered s) else dpFiltered s

theorem dpFiltered_frame (s : State) : Frame [.mon] (dpTaken s) (dpFiltered s) :=
  .foldl (fun t cv => .set_mon (by decide) (.refl t)) (.refl _)

theorem dpNoted_frame (s : State) : Frame [.mon, .cal] (dpTaken s) (dpNoted s) := by
  unfold dpNoted
  exact .ite (.step (noteUnstored_frame _) (by decide) ((dpFiltered_frame s).mono (by decide))) ((dpFiltered_frame s).mono (by decide))

theorem dpNoted_pending (s : State) : (dpNoted s).mon.dpPending = false := by
  have hfilt : (dpFiltered s).mon.dpPending = false :=
    (foldl_keeps (g := fun t => t.mon.dpPending) (f := fun t cv => t.setConv cv
      { t.conv cv with filt := some (s.scan, s.scan + t.filtLen s.scan cv - 1) }) (fun _ _ => rfl) (dpChanged s) (dpTaken s)).trans
        (dpTaken_pending s)
  unfold dpNoted
  split
  · exact (congrArg Monitor.dpPending ((noteUnstored_frame _).mon rfl)).trans hfilt
  · exact hfilt

theorem execDpApplied_eq (hp : s.mon.dpPending = true) (ht : s.tick % 256 = 0) :
    exec .dpApplied s = finish s (raiseA ((dpNoted s).setObjN Obj.DP_GEN 0 (nextGen ((dpNoted s).objN Obj.DP_GEN 0))) 0x4081
      [.word (((dpNoted s).setObjN Obj.DP_GEN 0 (nextGen ((dpNoted s).objN Obj.DP_GEN 0))).obj Obj.DP_GEN 0)]) := by
  show execDpApplied s = _
  unfold execDpApplied
  exact congrArg (finish s) (if_pos ⟨hp, ht⟩)

theorem dpNoted_applied (s : State) (ha : a ∈ dpObjs) (hs : msorted (s.stagedOf a) = true) :
    (dpNoted s).stagedOf a = [] ∧ ∀ p ∈ s.stagedOf a, (dpNoted s).obj a p.1 = p.2 := by
  obtain ⟨hstaged, hobj⟩ := dpTakes_applied (a := a) (l := dpObjs) (by decide) { s with mon := { s.mon with dpPending := false } } ha hs
  have hframe := dpNoted_frame s
  refine ⟨?_, fun p hp => (obj_of_objs (hframe.objs rfl) _ _).trans (hobj p hp)⟩
  unfold State.stagedOf
  rw [hframe.staged rfl]
  exact hstaged

theorem dpNoted_gen (s : State) : (dpNoted s).objN Obj.DP_GEN 0 = s.objN Obj.DP_GEN 0 :=
  (objN_of_objs ((dpNoted_frame s).objs rfl) _ _).trans (congrArg Int.toNat (dpTakes_obj_addr dpObjs (by decide) _))

theorem dpApplied_applies (hp : s.mon.dpPending = true) (ht : s.tick % 256 = 0) :
    ∃ t, exec .dpApplied s = .next t ∧ t.mon.dpPending = false ∧ t.objN Obj.DP_GEN 0 = nextGen (s.objN Obj.DP_GEN 0) ∧
      (∀ a ∈ [Obj.CONV_OFFSET, Obj.CONV_GAIN, Obj.PD_GAIN, Obj.FILT_LEN, Obj.FILT_SET], msorted (s.stagedOf a) = true →
        t.stagedOf a = [] ∧ ∀ p ∈ s.stagedOf a, t.obj a p.1 = p.2) := by
  have hrun := execDpApplied_eq hp ht
  have hpend := dpNoted_pending s
  have hgen := dpNoted_gen s
  have happ (a : Nat) (ha : a ∈ dpObjs) (hs : msorted (s.stagedOf a) = true) := dpNoted_applied s ha hs
  have hne : ∀ a ∈ [Obj.CONV_OFFSET, Obj.CONV_GAIN, Obj.PD_GAIN, Obj.FILT_LEN, Obj.FILT_SET],
      a ∈ dpObjs ∧ a ≠ Obj.DP_GEN ∧ a ≠ Obj.RING_DROPPED := by decide
  generalize dpNoted s = w at hrun hpend hgen happ
  generalize [EvItem.word ((w.setObjN Obj.DP_GEN 0 (nextGen (w.objN Obj.DP_GEN 0))).obj Obj.DP_GEN 0)] = data at hrun
  have hstaged : (sealed s (raiseA (w.setObjN Obj.DP_GEN 0 (nextGen (w.objN Obj.DP_GEN 0))) 0x4081 data)).staged = w.staged :=
    raiseA_staged _ _ _
  have hobj (b i : Nat) (h : b ≠ Obj.RING_DROPPED) :
      (sealed s (raiseA (w.setObjN Obj.DP_GEN 0 (nextGen (w.objN Obj.DP_GEN 0))) 0x4081 data)).obj b i =
        (w.setObjN Obj.DP_GEN 0 (nextGen (w.objN Obj.DP_GEN 0))).obj b i := raiseA_obj h _ _ _
  refine ⟨_, hrun, ?_, ?_, fun a ha hs => ?_⟩
  · exact (congrArg Monitor.dpPending (raiseA_mon _ _ _)).trans hpend
  · refine (congrArg Int.toNat (hobj Obj.DP_GEN 0 (by decide))).trans ?_
    rw [obj_setObjN, hgen]
    exact Int.toNat_natCast _
  · obtain ⟨hmem, hgenNe, hring⟩ := hne a ha
    obtain ⟨hempty, hval⟩ := happ a hmem hs
    refine ⟨?_, fun p hp => (hobj a p.1 hring).trans ((obj_setObj_addr _ hgenNe).trans (hval p hp))⟩
    unfold State.stagedOf at hempty ⊢
    rw [hstaged]
    exact hempty

theorem dpApplied_idle (h : s.mon.dpPending = false ∨ s.tick % 256 ≠ 0) : ∃ t, exec .dpApplied s = .next t ∧ Frame [.ex] s t := by
  have hno : ¬ (s.mon.dpPending = true ∧ s.tick % 256 = 0) := by
    rintro ⟨hp, ht⟩
    rcases h with h | h
    · rw [hp] at h
      cases h
    · exact h ht
  have hrun : exec .dpApplied s = finish s s := by
    show execDpApplied s = _
    unfold execDpApplied
    exact congrArg (finish s) (if_neg hno)
  exact ⟨_, hrun, frame_sealed (.refl s) (by decide)⟩

end

/-- Settles O42: the inputs by the record of a code or a window, the channels by a stored window, the coefficients by what the fold over
the staged objects leaves of each. -/
theorem setPointsAndAverages : Obligations.SetPointsAndAverages :=
  ⟨fun _ _ _ _ _ => spaSample_valid, fun _ _ _ _ => spaSample_invalid, fun _ _ _ _ _ _ _ => sppWindowEnd_measures,
    fun _ _ _ _ _ => sppWindowEnd_early, fun _ _ _ _ _ _ _ => sppWindowEnd_silent, fun _ _ => sppTimeout_ends,
    fun _ _ _ => avgWindowEnd_stores, fun _ _ _ _ => avgConfig_len, fun _ _ _ _ => avgConfig_pd, fun _ _ => dpApply_waits,
    fun _ => dpApplied_applies, fun _ => dpApplied_idle⟩

end Sys2Proof.Proofs

/-!
SUPPORT. The proof of calibration requests and runs (spec/09_calibration.md, Calibration requests, Quality and acceptance).
-/

namespace Sys2Proof.Proofs

open Sys2Proof Sys2Proof.Machine Sys2Proof.Laws

section

variable {s t w : State} {sess kind sel status flags why k : Nat} {q : CalReq} {r : CalRun} {res out : CalResult} {quality : Int}

/-! ### How a request ends (R281) -/

/-- The head of the queue has ended, its status, quality and flags shown. -/
structure Ended (q : CalReq) (status : Nat) (quality : Int) (flags : Nat) (t : State) : Prop where
  run : t.cal.run = none
  seq : t.objN Obj.CAL_LAST_SEQ 0 = q.seq
  status : t.objN Obj.CAL_LAST_STATUS 0 = status
  quality : t.obj Obj.CAL_LAST_QUALITY 0 = quality
  flags : t.objN Obj.CAL_LAST_FLAGS 0 = flags

theorem Ended.of_frame {m : List Comp} (h : Ended q status quality flags s) (k : Frame m s t) (ho : m.contains .objs = false)
    (hc : m.contains .cal = false) : Ended q status quality flags t := by
  have hobjs := k.objs ho
  have hcal := k.cal hc
  exact ⟨by rw [hcal]; exact h.run, (objN_of_objs hobjs _ _).trans h.seq, (objN_of_objs hobjs _ _).trans h.status,
    (obj_of_objs hobjs _ _).trans h.quality, (objN_of_objs hobjs _ _).trans h.flags⟩

/-- The state in which the end of a request is reported. -/
def calShown (s : State) (q : CalReq) (status : Nat) (quality : Int) (flags : Nat) : State :=
  (((({ s with cal := { s.cal with run := none } }.setObjN Obj.CAL_LAST_SEQ 0 q.seq).setObjN Obj.CAL_LAST_STATUS 0 status).setObj
    Obj.CAL_LAST_QUALITY 0 quality).setObjN Obj.CAL_LAST_FLAGS 0 flags)

theorem calShown_ended (s : State) (q : CalReq) (status : Nat) (quality : Int) (flags : Nat) :
    Ended q status quality flags (calShown s q status quality flags) := by
  unfold calShown
  refine ⟨rfl, ?_, ?_, ?_, ?_⟩
  · rw [objN_setObjN_addr (by decide), objN_setObj_addr _ (by decide), objN_setObjN_addr (by decide), objN_setObjN_self]
  · rw [objN_setObjN_addr (by decide), objN_setObj_addr _ (by decide), objN_setObjN_self]
  · rw [State.setObjN, obj_setObj_addr _ (by decide), obj_setObj]
  · rw [objN_setObjN_self]

theorem endCal_eq (s : State) (q : CalReq) (status : Nat) (quality : Int) (flags : Nat) : endCal s q status quality flags =
    releaseGrant (withdraw (raiseA (calShown s q status quality flags) 0x4040 [.word q.seq, .word q.kind, .word q.sel, .word status,
      .word quality, .word flags]) .calibration q.seq) .calibration q.seq := rfl

theorem endCal_cal (s : State) (q : CalReq) (status : Nat) (quality : Int) (flags : Nat) :
    (endCal s q status quality flags).cal = { s.cal with run := none } := by
  rw [endCal_eq, (releaseGrant_frame _ _ _).cal rfl, (withdraw_frame _ _ _).cal rfl, raiseA_cal]
  rfl

theorem endCal_ended (s : State) (q : CalReq) (status : Nat) (quality : Int) (flags : Nat) :
    Ended q status quality flags (endCal s q status quality flags) := by
  have hshown := calShown_ended s q status quality flags
  have hcal := endCal_cal s q status quality flags
  rw [endCal_eq] at hcal ⊢
  generalize calShown s q status quality flags = w at *
  generalize [EvItem.word q.seq, .word q.kind, .word q.sel, .word status, .word quality, .word flags] = data at *
  have hobjs : ObjsOnly steadyObjs w (releaseGrant (withdraw (raiseA w 0x4040 data) .calibration q.seq) .calibration q.seq) :=
    .step (releaseGrant_objs _ _ _) (by decide) (.step (withdraw_objs _ _ _) (by decide) (.raiseA (by decide) (.refl w)))
  generalize releaseGrant (withdraw (raiseA w 0x4040 data) .calibration q.seq) .calibration q.seq = x at *
  exact ⟨by rw [hcal], (congrArg Int.toNat (hobjs _ _ (by decide))).trans hshown.seq,
    (congrArg Int.toNat (hobjs _ _ (by decide))).trans hshown.status, (hobjs _ _ (by decide)).trans hshown.quality,
    (congrArg Int.toNat (hobjs _ _ (by decide))).trans hshown.flags⟩

/-! ### What a run that ends gives back -/

theorem returnLanes_cal (s : State) (r : CalRun) : ∃ b, (returnLanes s r).cal = { s.cal with back := b } := by
  have hlend : ∃ b, (lendBack s r).cal = { s.cal with back := b } := by
    unfold lendBack
    split
    · exact ⟨_, rfl⟩
    · exact ⟨s.cal.back, rfl⟩
  have hconv (u : State) (cv : Nat) (c : Int × Int) : (returnConv u cv c).cal = u.cal := (returnConv_frame u cv c).cal rfl
  have hfocus (u : State) : (returnFocus u r).cal = u.cal := (returnFocus_frame u r).cal rfl
  have hcoefs : (match r.coefs with | some c => returnConv (lendBack s r) r.item c | none => lendBack s r).cal = (lendBack s r).cal := by
    split
    · exact hconv _ _ _
    · rfl
  obtain ⟨b, hb⟩ := hlend
  refine ⟨b, ?_⟩
  unfold returnLanes
  dsimp only
  split
  · exact (hfocus _).trans (hcoefs.trans hb)
  · exact hcoefs.trans hb

theorem laneHome_cal (s : State) (u : Nat) : ∃ b, (laneHome s u).cal = { s.cal with back := b } := by
  unfold laneHome
  dsimp only
  split
  · exact ⟨none, rfl⟩
  · exact ⟨none, rfl⟩

theorem returnBack_cal (s : State) (now : Bool) : ∃ b, (returnBack s now).cal = { s.cal with back := b } := by
  unfold returnBack
  split
  · split
    · exact laneHome_cal s _
    · split
      · exact ⟨s.cal.back, rfl⟩
      · unfold returnLane
        split
        · exact laneHome_cal s _
        · split
          · exact ⟨s.cal.back, rfl⟩
          · exact ⟨s.cal.back, rfl⟩
  · exact ⟨s.cal.back, rfl⟩

/-- A running request that is aborted ends with status ABORTED and its reason. -/
theorem abortCal_ends (hr : s.cal.run = some r) (hp : r.phase ≠ .pending) (why : Nat) :
    Ended r.req 9 0 why (abortCal s why) ∧ ∃ b, (abortCal s why).cal = { s.cal with run := none, back := b } := by
  have hrun : ∃ w, abortCal s why = endCal w r.req 9 0 why ∧ ∃ b, w.cal = { s.cal with back := b } := by
    unfold abortCal
    rw [hr]
    dsimp only
    rw [if_neg hp]
    refine ⟨_, rfl, ?_⟩
    obtain ⟨a, ha⟩ := returnLanes_cal s r
    obtain ⟨b, hb⟩ := returnBack_cal (returnLanes s r) (decide (why = 2 ∨ why = 3))
    refine ⟨b, ?_⟩
    split
    · rw [(restoreCodes_frame _ _).cal rfl, hb, ha]
    · rw [hb, ha]
  obtain ⟨w, hw, b, hb⟩ := hrun
  rw [hw]
  exact ⟨endCal_ended w r.req 9 0 why, b, by rw [endCal_cal, hb]⟩

theorem abortCal_none (hr : s.cal.run = none) (why : Nat) : abortCal s why = s := by
  unfold abortCal
  rw [hr]

theorem abortCal_pending (hr : s.cal.run = some r) (hp : r.phase = .pending) (why : Nat) : abortCal s why = s := by
  unfold abortCal
  rw [hr]
  exact if_pos hp

/-! ### CAL_APPLY (R261, R262) -/

theorem judged_of_frame {m : List Comp} (h : Frame m s t) (ho : m.contains .objs = false) (hs : m.contains .staged = false)
    (hl : m.contains .loops = false) (ht : m.contains .tick = false) (a i : Nat) : t.judged a i = s.judged a i := by
  unfold State.judged State.stagedVal
  have hobj (b j : Nat) : t.obj b j = s.obj b j := obj_of_objs (h.objs ho) b j
  rw [h.staged hs, law_congr (congrArg Loops.held (h.loops hl)) (h.tick ht) (hobj a) (hobj _ _) (hobj _ _)]

/-- Why CAL_APPLY refuses a request, the first of its checks that fails. -/
def calRefusal (s : State) (kind sel : Nat) : Option Nak :=
  if !s.calState then some .state
  else if !calSelOk kind sel then some .range
  else if 16 ≤ s.calQueued then some .full
  else if sel = calAll ∧ s.obj Obj.CAL_AUTO_ACCEPT 0 = 0 then some .conflict
  else none

/-- The state with a request joined to the queue. -/
def calJoined (s : State) : State :=
  let w := (s.applyStaged Obj.CAL_KIND).applyStaged Obj.CAL_SELECTOR
  { w with cal := { w.cal with
    queue := w.cal.queue ++ [{ seq := w.cal.nextSeq, kind := (s.judged Obj.CAL_KIND 0).toNat, sel := (s.judged Obj.CAL_SELECTOR 0).toNat }],
    nextSeq := (w.cal.nextSeq + 1) % (u32Max + 1) } }

theorem effCalApply_eq (s : State) : effCalApply s =
    match calRefusal s (s.judged Obj.CAL_KIND 0).toNat (s.judged Obj.CAL_SELECTOR 0).toNat with
    | some n => (s, .nak n)
    | none => (calJoined s, .ack) := by
  unfold effCalApply calRefusal
  dsimp only
  split
  · rfl
  · split
    · rfl
    · split
      · rfl
      · split <;> rfl

theorem calJoined_cal (s : State) : (calJoined s).cal = { s.cal with
    queue := s.cal.queue ++ [{ seq := s.cal.nextSeq, kind := (s.judged Obj.CAL_KIND 0).toNat, sel := (s.judged Obj.CAL_SELECTOR 0).toNat }],
    nextSeq := (s.cal.nextSeq + 1) % 0x100000000 } := by
  have hcal : ((s.applyStaged Obj.CAL_KIND).applyStaged Obj.CAL_SELECTOR).cal = s.cal :=
    ((State.applyStaged_frame _ _).cal rfl).trans ((State.applyStaged_frame _ _).cal rfl)
  unfold calJoined
  dsimp only
  rw [hcal]

theorem calRefusal_seen (s : State) (sess kind sel : Nat) : calRefusal (seen s sess) kind sel = calRefusal s kind sel := by
  rw [seen_eq]
  generalize (seen s sess).ex = x
  rfl

theorem calApply_answers (h : s.accepts sess Obj.CAL_APPLY 0 1 = true) (hk : kind = (s.judged Obj.CAL_KIND 0).toNat)
    (hs : sel = (s.judged Obj.CAL_SELECTOR 0).toNat) :
    ∃ t, exec (.calApply sess) s = .next t ∧
      match calRefusal s kind sel with
      | some n => t.answered sess 0 Obj.CAL_APPLY 0 (.nak n 0 0) ∧ Frame [.ex] s t
      | none => t.answered sess 0 Obj.CAL_APPLY 0 (.ack []) ∧ t.cal = { s.cal with
          queue := s.cal.queue ++ [{ seq := s.cal.nextSeq, kind, sel }], nextSeq := (s.cal.nextSeq + 1) % 0x100000000 } := by
  have hseen := seen_frame s sess
  have hk' : ((seen s sess).judged Obj.CAL_KIND 0).toNat = kind := by
    rw [judged_of_frame hseen rfl rfl rfl rfl, hk]
  have hs' : ((seen s sess).judged Obj.CAL_SELECTOR 0).toNat = sel := by
    rw [judged_of_frame hseen rfl rfl rfl rfl, hs]
  have hcal := hseen.cal rfl
  have heff := effCalApply_eq (seen s sess)
  have hjoined := calJoined_cal (seen s sess)
  rw [hk', hs', calRefusal_seen] at heff
  rw [hk', hs', hcal] at hjoined
  refine ⟨_, rfl, ?_⟩
  cases hc : calRefusal s kind sel with
  | some n =>
    rw [hc] at heff
    obtain ⟨hans, hframe⟩ := hostWrite_refused h heff (by decide)
    exact ⟨hans, frame_sealed hframe (by decide)⟩
  | none =>
    rw [hc] at heff
    obtain ⟨hans, hframe⟩ := hostWrite_acks h (congrArg Prod.snd heff) (opens_of_frame (effCalApply_frame _) (by decide))
    rw [heff] at hframe
    exact ⟨hans, (hframe.cal rfl).trans hjoined⟩

/-! ### The head of the queue (R262, R263) -/

/-- A run is taken up: the queue and the rest of the record as they were, the item's first step taken. -/
structure Started (r : CalRun) (s t : State) : Prop where
  queue : t.cal.queue = s.cal.queue
  run : ∃ x, t.cal.run = some x ∧ x.req = r.req ∧ x.item = r.item ∧ x.phase = .running ∧ x.due = false
  steady : t.steady = s.steady

/-- A run of an item that has started. -/
def Fresh (r x : CalRun) : Prop := x.req = r.req ∧ x.item = r.item ∧ x.phase = .running ∧ x.due = false

theorem putRun_started {x : CalRun} (hx : Fresh r x) (hc : w.cal = s.cal) (hs : w.steady = s.steady) : Started r s (w.putRun x) :=
  ⟨(congrArg Cal.queue hc : w.cal.queue = s.cal.queue), ⟨x, rfl, hx⟩, hs⟩

theorem startRun_started (s : State) (r : CalRun) : Started r s (startRun s r) := by
  unfold startRun
  dsimp only
  split
  · split
    · split
      · exact putRun_started ⟨rfl, rfl, rfl, rfl⟩ ((loadSpare_frame _ _ _ _).cal rfl) ((loadSpare_frame _ _ _ _).steady rfl)
      · exact putRun_started ⟨rfl, rfl, rfl, rfl⟩ rfl rfl
    · exact putRun_started ⟨rfl, rfl, rfl, rfl⟩ rfl rfl
  · split
    · exact putRun_started ⟨rfl, rfl, rfl, rfl⟩ ((borrowConv_frame _ _).cal rfl) ((borrowConv_frame _ _).steady rfl)
    · exact putRun_started ⟨rfl, rfl, rfl, rfl⟩ rfl rfl
  · split <;> exact putRun_started ⟨rfl, rfl, rfl, rfl⟩ rfl rfl
  · split <;> exact putRun_started ⟨rfl, rfl, rfl, rfl⟩ rfl rfl
  · exact putRun_started ⟨rfl, rfl, rfl, rfl⟩ rfl rfl
  · exact putRun_started ⟨rfl, rfl, rfl, rfl⟩ rfl rfl

/-- What the head of the queue leaves of a request that has all it needs but perhaps its grant. -/
structure Taken (r : CalRun) (phase : CalPhase) (due : Bool) (s t : State) : Prop where
  queue : t.cal.queue = s.cal.queue
  run : ∃ x, t.cal.run = some x ∧ x.req = r.req ∧ x.item = r.item ∧ x.phase = phase ∧ x.due = due

theorem calGo_taken (s : State) (r : CalRun) :
    Taken r .running (!s.startReady r.one) s (calGo s r) ∧ (calGo s r).steady = s.steady := by
  unfold calGo
  by_cases h : s.startReady r.one = true
  · rw [if_pos h, h]
    have hstart := startRun_started s r
    exact ⟨⟨hstart.queue, hstart.run⟩, hstart.steady⟩
  · rw [if_neg h, Bool.eq_false_iff.mpr h]
    exact ⟨⟨rfl, _, rfl, rfl, rfl, rfl, rfl⟩, rfl⟩

theorem startReady_congr (hc : t.com = s.com) (hm : t.mon = s.mon) (ht : t.tick = s.tick) (q : CalReq) : t.startReady q = s.startReady q := by
  unfold State.startReady State.windowOpen State.spareFree
  dsimp only
  rw [hc, ht, monBank_of_mon hm]

/-- A request for heater power, unless Steady has it already. -/
def calAsked (s : State) (q : CalReq) (heat : Int) (chans : List Nat) : State :=
  if s.holds .calibration q.seq || s.waits .calibration q.seq then s
  else (requestGrant (atModeBoundary s 5)
    { kind := .calibration, source := q.seq, heater := max 0 heat, chans := chans, charge := 0 }).1

theorem calAsked_frame (s : State) (q : CalReq) (heat : Int) (chans : List Nat) :
    Frame [.objs, .dev, .ex, .funcs, .sorus, .steady] s (calAsked s q heat chans) := by
  unfold calAsked
  refine .ite (.refl s) ?_
  exact ((atModeBoundary_frame s 5).mono (by decide)).trans ((Frame.of1 (requestGrant_frame _ _)).mono (by decide))

/-- An item that heats, once its grant is asked for: it starts, or waits for the grant. -/
def calServed (w : State) (r : CalRun) : State :=
  if w.holds .calibration r.one.seq then calGo w r
  else w.putRun (if r.phase = .waitGrant then r else { r with phase := .waitGrant, since := w.tick })

theorem calServed_takes (hcal : w.cal = s.cal) (hready : w.startReady r.one = s.startReady r.one) (hp : r.phase = .queued)
    (hd : r.due = false) : ∃ phase due, Taken r phase due s (calServed w r) ∧
      phase = (if (calServed w r).holds .calibration r.req.seq = true then .running else .waitGrant) ∧
      due = (decide (phase = .running) && !s.startReady r.one) := by
  unfold calServed
  by_cases hholds : w.holds .calibration r.one.seq = true
  · rw [if_pos hholds]
    obtain ⟨⟨hq, hrun⟩, hsteady⟩ := calGo_taken w r
    rw [hready] at hrun
    have hkeeps : (calGo w r).holds .calibration r.req.seq = true := by
      unfold State.holds
      rw [hsteady]
      exact hholds
    exact ⟨_, _, ⟨hq.trans (congrArg Cal.queue hcal), hrun⟩, (if_pos hkeeps).symm, by simp⟩
  · rw [if_neg hholds, if_neg (by rw [hp]; exact CalPhase.noConfusion)]
    exact ⟨_, _, ⟨(congrArg Cal.queue hcal : w.cal.queue = s.cal.queue), _, rfl, rfl, rfl, rfl, hd⟩, (if_neg hholds).symm, rfl⟩

theorem calTry_eq (hn : s.calNeeds r.one = none) :
    calTry s r = if (calConv r.one).any fun cv => !(s.conv cv).queue.isEmpty then s.putRun { r with phase := .deferred }
      else match s.calHeat r.one with
        | none => calGo s r
        | some (heat, chans) => calServed (calAsked s r.one heat chans) r := by
  unfold calTry
  dsimp only
  rw [hn]
  rfl

/-- Which phase an item with its needs met is in, once its grant is asked for. -/
theorem calTry_takes (hn : s.calNeeds r.one = none) (hp : r.phase = .queued) (hd : r.due = false) :
    ∃ phase due, Taken r phase due s (calTry s r) ∧
      phase = (if ((calConv r.one).any fun cv => !(s.conv cv).queue.isEmpty) = true then .deferred
        else if s.calHeat r.one = none ∨ (calTry s r).holds .calibration r.req.seq = true then .running else .waitGrant) ∧
      due = (decide (phase = .running) && !s.startReady r.one) := by
  rw [calTry_eq hn]
  by_cases hconv : ((calConv r.one).any fun cv => !(s.conv cv).queue.isEmpty) = true
  · rw [if_pos hconv, if_pos hconv]
    exact ⟨_, _, ⟨rfl, _, rfl, rfl, rfl, rfl, hd⟩, rfl, rfl⟩
  · rw [if_neg hconv, if_neg hconv]
    cases hheat : s.calHeat r.one with
    | none =>
      obtain ⟨htaken, -⟩ := calGo_taken s r
      exact ⟨_, _, htaken, (if_pos (.inl rfl)).symm, by simp⟩
    | some p =>
      obtain ⟨heat, chans⟩ := p
      have hframe := calAsked_frame s r.one heat chans
      obtain ⟨phase, due, htaken, hphase, hdue⟩ := calServed_takes (hframe.cal rfl)
        (startReady_congr (hframe.com rfl) (hframe.mon rfl) (hframe.tick rfl) r.one) hp hd
      refine ⟨phase, due, htaken, ?_, hdue⟩
      simpa only [reduceCtorEq, false_or] using hphase

/-- The run of a request that reaches the head of the queue. -/
def headRun (s : State) (q : CalReq) : CalRun := { req := q, item := if q.sel = calAll then 0 else q.sel, phase := .queued, since := s.tick }

/-- The state with the head of the queue taken from it. -/
def unqueued (s : State) (rest : List CalReq) : State := { s with cal := { s.cal with queue := rest } }

theorem unqueued_needs (s : State) (rest : List CalReq) (q : CalReq) : (unqueued s rest).headNeeds q = s.headNeeds q := rfl

theorem unqueued_heat (s : State) (rest : List CalReq) (q : CalReq) : (unqueued s rest).calHeat q = s.calHeat q := rfl

theorem unqueued_ready (s : State) (rest : List CalReq) (q : CalReq) : (unqueued s rest).startReady q = s.startReady q := rfl

theorem unqueued_conv (s : State) (rest : List CalReq) (cv : Nat) : (unqueued s rest).conv cv = s.conv cv := rfl

/-- A request for every item, or for one, whose needs are met needs nothing for its first item. -/
theorem calNeeds_first (h : s.headNeeds q = none) : s.calNeeds (headRun s q).one = none := by
  unfold State.headNeeds at h
  unfold headRun CalRun.one
  by_cases hs : q.sel = calAll
  · rw [if_pos hs] at h ⊢
    have hzero : 0 ∈ List.range (calItems q.kind) := by
      rw [List.mem_range]
      unfold calItems
      split <;> decide
    exact List.findSome?_eq_none_iff.mp h 0 hzero
  · rw [if_neg hs] at h ⊢
    exact h

variable {q1 : CalReq} {rest : List CalReq}

theorem execCalStart_head (hs : s.calState = true) (ht : s.therm.state < 2) (ha : s.cal.apply = none) (hb : s.cal.back = none)
    (hr : s.cal.run = none) (hq : s.cal.queue = q :: rest) : exec .calStart s = finish s (calHead (unqueued s rest) q) := by
  show execCalStart s = _
  unfold execCalStart
  refine congrArg (finish s) ((if_neg ?_).trans ?_)
  · simp [hs, ha, hb]
    omega
  · rw [hr]
    dsimp only
    rw [hq]
    rfl

theorem calStart_takes (hs : s.calState = true) (ht : s.therm.state < 2) (ha : s.cal.apply = none) (hb : s.cal.back = none)
    (hr : s.cal.run = none) (hq : s.cal.queue = q :: rest) (hq1 : q1 = { q with sel := if q.sel = 0xFFFFFFFF then 0 else q.sel }) :
    ∃ t, exec .calStart s = .next t ∧ t.cal.queue = rest ∧
      match s.headNeeds q with
      | some n =>
        t.cal.run = none ∧ t.objN Obj.CAL_LAST_SEQ 0 = q.seq ∧ t.objN Obj.CAL_LAST_STATUS 0 = 8 ∧ t.objN Obj.CAL_LAST_FLAGS 0 = n.code
      | none =>
        ∃ r, t.cal.run = some r ∧ r.req = q ∧ r.item = q1.sel ∧
          r.phase = (if ((calConv q1).any fun cv => !(s.conv cv).queue.isEmpty) = true then .deferred
            else if s.calHeat q1 = none ∨ t.holds .calibration q.seq = true then .running else .waitGrant) ∧
          r.due = (decide (r.phase = .running) && !s.startReady q1) := by
  have hrun := execCalStart_head hs ht ha hb hr hq
  have hneeds := unqueued_needs s rest q
  have hone : (headRun (unqueued s rest) q).one = q1 := hq1.symm
  have hqueue : (unqueued s rest).cal.queue = rest := rfl
  have hfirst := calNeeds_first (s := unqueued s rest) (q := q)
  cases hn : s.headNeeds q with
  | some n =>
    have hhead : calHead (unqueued s rest) q = endCal ((unqueued s rest).putRun (headRun (unqueued s rest) q)) q 8 0 n.code := by
      unfold calHead
      dsimp only
      rw [hneeds, hn]
      rfl
    rw [hhead] at hrun
    have hend := endCal_ended ((unqueued s rest).putRun (headRun (unqueued s rest) q)) q 8 0 n.code
    have hcal := endCal_cal ((unqueued s rest).putRun (headRun (unqueued s rest) q)) q 8 0 n.code
    generalize endCal ((unqueued s rest).putRun (headRun (unqueued s rest) q)) q 8 0 n.code = x at hrun hend hcal
    exact ⟨_, hrun, (congrArg Cal.queue hcal).trans rfl, hend.run, hend.seq, hend.status, hend.flags⟩
  | none =>
    have hhead : calHead (unqueued s rest) q = calTry (unqueued s rest) (headRun (unqueued s rest) q) := by
      unfold calHead
      dsimp only
      rw [hneeds, hn]
      rfl
    rw [hhead] at hrun
    obtain ⟨phase, due, ⟨hq', x, hx, hreq, hitem, hphase, hdue⟩, hp, hd⟩ :=
      calTry_takes (s := unqueued s rest) (r := headRun (unqueued s rest) q) (hfirst (hneeds.trans hn)) rfl rfl
    have hsel : (headRun (unqueued s rest) q).item = q1.sel := congrArg CalReq.sel hone
    rw [hone] at hp hd
    generalize calTry (unqueued s rest) (headRun (unqueued s rest) q) = y at hrun hq' hx hp
    refine ⟨_, hrun, hq'.trans hqueue, x, hx, hreq, hitem.trans hsel, hphase.trans hp, ?_⟩
    rw [hdue, hd, hphase]
    rfl

/-! ### The end of a wait and of a run (R263, R276, R277) -/

theorem phase_of_measures (h : r.measures = true) : r.phase ≠ .pending := by
  unfold CalRun.measures at h
  rw [Bool.and_eq_true, decide_eq_true_eq] at h
  rw [h.1]
  exact CalPhase.noConfusion

theorem calGrantTimeout_ends (hr : s.cal.run = some r) (hp : r.phase = .waitGrant) :
    ∃ t, exec .calGrantTimeout s = .next t ∧
      if s.elapsed r.since (1000000 * s.objN Obj.CAL_GRANT_TIMEOUT 0) = true ∧ s.holds .calibration r.req.seq = false then
        t.cal.run = none ∧ t.objN Obj.CAL_LAST_SEQ 0 = r.req.seq ∧ t.objN Obj.CAL_LAST_STATUS 0 = 9 ∧ t.objN Obj.CAL_LAST_FLAGS 0 = 6
      else Frame [.ex] s t := by
  by_cases h : s.elapsed r.since (1000000 * s.objN Obj.CAL_GRANT_TIMEOUT 0) = true ∧ s.holds .calibration r.req.seq = false
  · have hrun : exec .calGrantTimeout s = finish s (abortCal s 6) := by
      show execCalGrantTimeout s = _
      unfold execCalGrantTimeout
      rw [hr]
      exact congrArg (finish s) (if_pos ⟨hp, h.1, by rw [h.2]; exact Bool.false_ne_true⟩)
    obtain ⟨hend, -⟩ := abortCal_ends hr (by rw [hp]; exact CalPhase.noConfusion) 6
    generalize abortCal s 6 = x at hrun hend
    refine ⟨_, hrun, ?_⟩
    rw [if_pos h]
    exact ⟨hend.run, hend.seq, hend.status, hend.flags⟩
  · have hrun : exec .calGrantTimeout s = finish s s := by
      show execCalGrantTimeout s = _
      unfold execCalGrantTimeout
      rw [hr]
      exact congrArg (finish s) (if_neg fun k => h ⟨k.2.1, Bool.eq_false_iff.mpr k.2.2⟩)
    refine ⟨_, hrun, ?_⟩
    rw [if_neg h]
    exact frame_sealed (.refl s) (by decide)

theorem calRunEnd_aborts (hr : s.cal.run = some r) (hm : r.measures = true) (ha : res.aborted = some why) :
    ∃ t, exec (.calRunEnd res) s = .next t ∧ t.cal.run = none ∧ t.cal.apply = s.cal.apply ∧
      t.objN Obj.CAL_LAST_SEQ 0 = r.req.seq ∧ t.objN Obj.CAL_LAST_STATUS 0 = 9 ∧ t.objN Obj.CAL_LAST_FLAGS 0 = why := by
  have hrun : exec (.calRunEnd res) s = finish s (abortCal s why) := by
    show execCalRunEnd res s = _
    unfold execCalRunEnd
    rw [hr]
    dsimp only
    rw [if_neg (by simp [hm]), ha]
  obtain ⟨hend, b, hcal⟩ := abortCal_ends hr (phase_of_measures hm) why
  generalize abortCal s why = x at hrun hend hcal
  exact ⟨_, hrun, hend.run, (congrArg Cal.apply hcal).trans rfl, hend.seq, hend.status, hend.flags⟩

theorem calRunEnd_waits (hr : s.cal.run = some r) (hm : r.measures = true) (ha : res.aborted = none) (ho : s.runOver r res = false) :
    ∃ t, exec (.calRunEnd res) s = .next t ∧ Frame [.ex] s t := by
  have hrun : exec (.calRunEnd res) s = finish s s := by
    show execCalRunEnd res s = _
    unfold execCalRunEnd
    rw [hr]
    dsimp only
    rw [if_neg (by simp [hm]), ha]
    exact congrArg (finish s) (if_pos (by simp [ho]))
  exact ⟨_, hrun, frame_sealed (.refl s) (by decide)⟩

/-- The state with the result of an item to be applied. -/
def itemDone (s : State) (r : CalRun) (out : CalResult) : State := { s with cal := { s.cal with apply := some (r.one, out) } }

/-- The run of the next item of a request for every one. -/
def nextItem (s : State) (r : CalRun) (flags : Nat) : CalRun :=
  { req := r.req, item := r.item + 1, phase := .queued, since := s.tick, clamped := decide (flags ≠ 0) }

/-- The flags shown of a request that ends: those of its last item, or that a value of one was limited. -/
def doneFlags (r : CalRun) (out : CalResult) : Nat := if r.clamped then 256 else out.flags

theorem finishItem_eq (s : State) (r : CalRun) (out : CalResult) : finishItem s r out =
    if r.req.sel = calAll ∧ r.item + 1 < calItems r.req.kind then
      releaseGrant ((itemDone s r out).putRun (nextItem s r (doneFlags r out))) .calibration r.req.seq
    else endCal (itemDone s r out) r.req 6 out.quality (doneFlags r out) := rfl

/-- What the result of an item leaves: it is to be applied, and the next item follows, or the request has ended. -/
theorem finishItem_finishes (s : State) (r : CalRun) (out : CalResult) :
    (finishItem s r out).cal.apply = some (r.one, out) ∧
      if r.req.sel = calAll ∧ r.item + 1 < calItems r.req.kind then
        ∃ n, (finishItem s r out).cal.run = some n ∧ n.req = r.req ∧ n.item = r.item + 1 ∧ n.phase = .queued
      else Ended r.req 6 out.quality (doneFlags r out) (finishItem s r out) := by
  have happ : (itemDone s r out).cal.apply = some (r.one, out) := rfl
  have hnext : (nextItem s r (doneFlags r out)).req = r.req ∧ (nextItem s r (doneFlags r out)).item = r.item + 1 ∧
      (nextItem s r (doneFlags r out)).phase = .queued := ⟨rfl, rfl, rfl⟩
  rw [finishItem_eq]
  generalize itemDone s r out = w at happ ⊢
  generalize nextItem s r (doneFlags r out) = n at hnext ⊢
  by_cases h : r.req.sel = calAll ∧ r.item + 1 < calItems r.req.kind
  · rw [if_pos h, if_pos h, (releaseGrant_frame _ _ _).cal rfl]
    exact ⟨happ, n, rfl, hnext⟩
  · rw [if_neg h, if_neg h, endCal_cal]
    exact ⟨happ, endCal_ended _ _ _ _ _⟩

theorem execCalRunEnd_over (hr : s.cal.run = some r) (hm : r.measures = true) (ha : res.aborted = none) (ho : s.runOver r res = true)
    (hb : r.req.kind = 6 → 1024 ≤ r.count) : exec (.calRunEnd res) s = finish s (calEnd s r res) := by
  show execCalRunEnd res s = _
  unfold execCalRunEnd
  rw [hr]
  dsimp only
  rw [if_neg (by simp [hm]), ha]
  refine congrArg (finish s) ((if_neg (by simp [ho])).trans (if_neg fun h => ?_))
  have := hb h.1
  omega

/-- The state with what a run held given back. -/
def calReturned (s : State) (r : CalRun) : State := restoreCodes (returnLanes s r) r.saved

theorem calReturned_cal (s : State) (r : CalRun) : ∃ b, (calReturned s r).cal = { s.cal with back := b } := by
  unfold calReturned
  rw [(restoreCodes_frame _ _).cal rfl]
  exact returnLanes_cal s r

theorem calEnd_eq (s : State) (r : CalRun) (res : CalResult) : calEnd s r res =
    if decide (s.obj Obj.CAL_AUTO_ACCEPT 0 = 1) = true then finishItem (calReturned s r) r (s.calCompute r res)
    else releaseGrant ((returnBack (calReturned s r) false).putRun
      { req := r.req, item := r.item, phase := .pending, since := (calReturned s r).tick, clamped := r.clamped,
        result := some (s.calCompute r res) }) .calibration r.req.seq := rfl

theorem calReturned_tick (s : State) (r : CalRun) : (calReturned s r).tick = s.tick :=
  ((restoreCodes_frame _ _).tick rfl).trans ((returnLanes_frame s r).tick rfl)

theorem calRunEnd_finishes (hr : s.cal.run = some r) (hm : r.measures = true) (ha : res.aborted = none) (ho : s.runOver r res = true)
    (hb : r.req.kind = 6 → 1024 ≤ r.count) (hout : out = s.calCompute r res) :
    ∃ t, exec (.calRunEnd res) s = .next t ∧
      if s.obj Obj.CAL_AUTO_ACCEPT 0 = 1 then
        t.cal.apply = some (r.one, out) ∧
        if r.req.sel = 0xFFFFFFFF ∧ r.item + 1 < calItems r.req.kind then
          ∃ n, t.cal.run = some n ∧ n.req = r.req ∧ n.item = r.item + 1 ∧ n.phase = .queued
        else
          t.cal.run = none ∧ t.objN Obj.CAL_LAST_SEQ 0 = r.req.seq ∧ t.objN Obj.CAL_LAST_STATUS 0 = 6 ∧
            t.obj Obj.CAL_LAST_QUALITY 0 = out.quality ∧ t.objN Obj.CAL_LAST_FLAGS 0 = (if r.clamped then 256 else out.flags)
      else
        t.cal.run = some { req := r.req, item := r.item, phase := .pending, since := s.tick, clamped := r.clamped, result := some out } ∧
          t.cal.apply = s.cal.apply := by
  have hrun := execCalRunEnd_over hr hm ha ho hb
  rw [calEnd_eq, ← hout] at hrun
  by_cases hauto : s.obj Obj.CAL_AUTO_ACCEPT 0 = 1
  · rw [if_pos (decide_eq_true hauto)] at hrun
    obtain ⟨happ, hrest⟩ := finishItem_finishes (calReturned s r) r out
    generalize finishItem (calReturned s r) r out = x at hrun happ hrest
    refine ⟨_, hrun, ?_⟩
    rw [if_pos hauto]
    refine ⟨happ, ?_⟩
    by_cases hmore : r.req.sel = calAll ∧ r.item + 1 < calItems r.req.kind
    · rw [if_pos hmore] at hrest
      rw [if_pos (show r.req.sel = 0xFFFFFFFF ∧ _ from hmore)]
      exact hrest
    · rw [if_neg hmore] at hrest
      rw [if_neg (show ¬ (r.req.sel = 0xFFFFFFFF ∧ _) from hmore)]
      exact ⟨hrest.run, hrest.seq, hrest.status, hrest.quality, hrest.flags⟩
  · rw [if_neg (by simpa using hauto)] at hrun
    obtain ⟨a, hret⟩ := calReturned_cal s r
    obtain ⟨b, hback⟩ := returnBack_cal (calReturned s r) false
    rw [calReturned_tick] at hrun
    generalize returnBack (calReturned s r) false = w at hrun hback
    generalize ({ req := r.req, item := r.item, phase := .pending, since := s.tick, clamped := r.clamped, result := some out } : CalRun) = n
      at hrun ⊢
    have hcal : (releaseGrant (w.putRun n) .calibration r.req.seq).cal = (w.putRun n).cal := (releaseGrant_frame _ _ _).cal rfl
    generalize releaseGrant (w.putRun n) .calibration r.req.seq = x at hrun hcal
    refine ⟨_, hrun, ?_⟩
    rw [if_neg hauto]
    refine ⟨congrArg Cal.run hcal, (congrArg Cal.apply hcal).trans ?_⟩
    show w.cal.apply = _
    rw [hback, hret]

/-! ### CAL_ABORT (R264) -/

theorem calAbort_aborts (h : s.accepts sess Obj.CAL_ABORT 0 1 = true) :
    ∃ t, exec (.calAbort sess) s = .next t ∧ t.answered sess 0 Obj.CAL_ABORT 0 (.ack []) ∧ t.cal.queue = [] ∧
      match s.cal.run with
      | none => t.cal.run = none ∧ Frame [.ex, .cal] s t
      | some r =>
        if r.phase = .pending then t.cal.run = some r ∧ Frame [.ex, .cal] s t
        else t.cal.run = none ∧ t.objN Obj.CAL_LAST_SEQ 0 = r.req.seq ∧ t.objN Obj.CAL_LAST_STATUS 0 = 9 ∧
          t.objN Obj.CAL_LAST_FLAGS 0 = 4 := by
  have hseen := seen_frame s sess
  have hcal : (seen s sess).cal = s.cal := hseen.cal rfl
  have hframe0 : Frame [.ex, .cal] s (unqueued (seen s sess) []) := .set_cal (by decide) (hseen.mono (by decide))
  have hrun0 : (unqueued (seen s sess) []).cal.run = s.cal.run := (congrArg Cal.run hcal : (seen s sess).cal.run = s.cal.run)
  have hqueue0 : (unqueued (seen s sess) []).cal.queue = [] := rfl
  have heff : effCalAbort (seen s sess) = (abortCal (unqueued (seen s sess) []) 4, .ack) := rfl
  obtain ⟨hans, hframe⟩ := hostWrite_acks h (congrArg Prod.snd heff) (effCalAbort_opens _)
  rw [heff] at hframe
  generalize unqueued (seen s sess) [] = w at hframe hframe0 hrun0 hqueue0
  refine ⟨_, rfl, hans, ?_⟩
  have hcalT := hframe.cal rfl
  have hkept (h : abortCal w 4 = w) : Frame [.ex, .cal] s (sealed s (hostWrite s sess Obj.CAL_ABORT 0 1 effCalAbort)) := by
    rw [h] at hframe
    exact frame_sealed (hframe0.trans (hframe.mono (by decide))) (by decide)
  cases hr : s.cal.run with
  | none =>
    have habort := abortCal_none (hrun0.trans hr) 4
    refine ⟨?_, ?_, hkept habort⟩
    · exact (congrArg Cal.queue hcalT).trans (by rw [habort]; exact hqueue0)
    · exact (congrArg Cal.run hcalT).trans (by rw [habort]; exact hrun0.trans hr)
  | some r =>
    dsimp only
    by_cases hp : r.phase = .pending
    · have habort := abortCal_pending (hrun0.trans hr) hp 4
      rw [if_pos hp]
      refine ⟨?_, ?_, hkept habort⟩
      · exact (congrArg Cal.queue hcalT).trans (by rw [habort]; exact hqueue0)
      · exact (congrArg Cal.run hcalT).trans (by rw [habort]; exact hrun0.trans hr)
    · obtain ⟨hend, b, hb⟩ := abortCal_ends (hrun0.trans hr) hp 4
      have hT := hend.of_frame hframe rfl rfl
      rw [if_neg hp]
      refine ⟨?_, hT.run, hT.seq, hT.status, hT.flags⟩
      exact (congrArg Cal.queue hcalT).trans ((congrArg Cal.queue hb).trans hqueue0)

theorem calRefusal_eq (s : State) (kind sel : Nat) : calRefusal s kind sel =
    if s.dev.state ≠ .parked ∧ s.dev.state ≠ .service then some .state
    else if calSelOk kind sel = false then some .range
    else if 16 ≤ s.calQueued then some .full
    else if sel = 0xFFFFFFFF ∧ s.obj Obj.CAL_AUTO_ACCEPT 0 = 0 then some .conflict
    else none := by
  have hstate : ((!s.calState) = true) = (s.dev.state ≠ .parked ∧ s.dev.state ≠ .service) := by simp [State.calState]
  have hsel : ((!calSelOk kind sel) = true) = (calSelOk kind sel = false) := by simp
  unfold calRefusal
  simp only [hstate, hsel]
  rfl

theorem calApply_queues (h : s.accepts sess Obj.CAL_APPLY 0 1 = true) (hk : kind = (s.judged Obj.CAL_KIND 0).toNat)
    (hs : sel = (s.judged Obj.CAL_SELECTOR 0).toNat) :
    ∃ t, exec (.calApply sess) s = .next t ∧
      if s.dev.state ≠ .parked ∧ s.dev.state ≠ .service then t.answered sess 0 Obj.CAL_APPLY 0 (.nak .state 0 0) ∧ Frame [.ex] s t
      else if calSelOk kind sel = false then t.answered sess 0 Obj.CAL_APPLY 0 (.nak .range 0 0) ∧ Frame [.ex] s t
      else if 16 ≤ s.calQueued then t.answered sess 0 Obj.CAL_APPLY 0 (.nak .full 0 0) ∧ Frame [.ex] s t
      else if sel = 0xFFFFFFFF ∧ s.obj Obj.CAL_AUTO_ACCEPT 0 = 0 then
        t.answered sess 0 Obj.CAL_APPLY 0 (.nak .conflict 0 0) ∧ Frame [.ex] s t
      else
        t.answered sess 0 Obj.CAL_APPLY 0 (.ack []) ∧ t.cal.queue = s.cal.queue ++ [{ seq := s.cal.nextSeq, kind, sel }] ∧
          t.cal.nextSeq = (s.cal.nextSeq + 1) % 0x100000000 ∧ t.cal.run = s.cal.run := by
  obtain ⟨t, hrun, ht⟩ := calApply_answers h hk hs
  rw [calRefusal_eq] at ht
  refine ⟨t, hrun, ?_⟩
  split
  case isTrue h1 => rwa [if_pos h1] at ht
  case isFalse h1 =>
    rw [if_neg h1] at ht
    split
    case isTrue h2 => rwa [if_pos h2] at ht
    case isFalse h2 =>
      rw [if_neg h2] at ht
      split
      case isTrue h3 => rwa [if_pos h3] at ht
      case isFalse h3 =>
        rw [if_neg h3] at ht
        split
        case isTrue h4 => rwa [if_pos h4] at ht
        case isFalse h4 =>
          rw [if_neg h4] at ht
          obtain ⟨hans, hcal⟩ := ht
          exact ⟨hans, congrArg Cal.queue hcal, congrArg Cal.nextSeq hcal, (congrArg Cal.run hcal).trans rfl⟩

end

/-- Settles O43: the request by the first check that fails, the head of the queue by how far it can start, the end of a run by what
`endCal` shows of it. -/
theorem calibrationRuns : Obligations.CalibrationRuns :=
  ⟨fun _ _ _ _ => calApply_queues, fun _ _ _ _ => calStart_takes, fun _ _ => calGrantTimeout_ends, fun _ _ _ _ => calRunEnd_aborts,
    fun _ _ _ _ => calRunEnd_finishes, fun _ _ _ => calRunEnd_waits, fun _ _ => calAbort_aborts⟩

end Sys2Proof.Proofs

/-!
SUPPORT. The proof of calibration results and values (spec/09_calibration.md, Quality and acceptance, Storage).
-/

namespace Sys2Proof.Proofs

open Sys2Proof Sys2Proof.Machine Sys2Proof.Laws

/-! ### Writing a list of values with no key twice -/

section

variable {β K V : Type} {key : β → K} {val : β → V} {get : State → K → V} {put : State → β → State}

/-- Of values written one after another, each under a key of its own, every one reads back. -/
theorem foldl_puts (hs : ∀ s b, get (put s b) (key b) = val b) (ho : ∀ s b k, k ≠ key b → get (put s b) k = get s k) {l : List β}
    (hn : (l.map key).Nodup) (s : State) {b : β} (hb : b ∈ l) : get (l.foldl put s) (key b) = val b := by
  induction l generalizing s with
  | nil => cases hb
  | cons c l ih =>
    obtain ⟨hc, hrest⟩ := List.nodup_cons.mp hn
    rcases List.mem_cons.mp hb with rfl | hmem
    · refine foldl_holds (P := fun t => get t (key b) = val b) l (hs s b) fun t d hd h => (ho t d _ ?_).trans h
      exact fun e => hc (List.mem_map.mpr ⟨d, hd, e.symm⟩)
    · exact ih hrest _ hmem

theorem foldl_puts_other (ho : ∀ s b k, k ≠ key b → get (put s b) k = get s k) (l : List β) (s : State) {k : K}
    (hk : ∀ b ∈ l, k ≠ key b) : get (l.foldl put s) k = get s k :=
  foldl_holds (P := fun t => get t k = get s k) l rfl fun t b hb h => (ho t b k (hk b hb)).trans h

/-- The same where the values that hold already are not written. -/
theorem foldl_puts_filter [BEq V] [LawfulBEq V] (hs : ∀ s b, get (put s b) (key b) = val b)
    (ho : ∀ s b k, k ≠ key b → get (put s b) k = get s k) {l : List β} (hn : (l.map key).Nodup) (s : State) {b : β} (hb : b ∈ l) :
    get ((l.filter fun c => get s (key c) != val c).foldl put s) (key b) = val b := by
  have hsub : ((l.filter fun c => get s (key c) != val c).map key).Nodup := hn.sublist (List.filter_sublist.map key)
  by_cases h : get s (key b) = val b
  · refine (foldl_puts_other ho _ s fun c hc e => ?_).trans h
    obtain ⟨hmem, hne⟩ := List.mem_filter.mp hc
    have hcb : c = b := List.inj_on_of_nodup_map hn hmem hb e.symm
    rw [hcb] at hne
    simp [h] at hne
  · exact foldl_puts hs ho hsub s (List.mem_filter.mpr ⟨hb, by simpa using h⟩)

end

section

variable {s t w : State} {a i sess : Nat} {vs : List (Nat × Nat × Int)} {ms : List (Nat × Nat × List Byte)}

/-! ### One application of values and maps (R278, R279) -/

theorem setCal_obj (s : State) (v : Nat × Nat × Int) : (setCal s v.1 v.2.1 v.2.2).obj v.1 v.2.1 = v.2.2 := by
  unfold setCal
  split
  · exact obj_setObj _ _ _ _
  · split
    · exact obj_setObj _ _ _ _
    · exact obj_setObj _ _ _ _

theorem setCal_obj_other (s : State) (v : Nat × Nat × Int) (k : Nat × Nat) (h : k ≠ (v.1, v.2.1)) :
    (setCal s v.1 v.2.1 v.2.2).obj k.1 k.2 = s.obj k.1 k.2 := by
  have hne : ¬ (k.1 = v.1 ∧ k.2 = v.2.1) := fun e => h (Prod.ext e.1 e.2)
  unfold setCal
  split
  · exact obj_setObj_other _ hne
  · split
    · exact (obj_setObj_other _ hne).trans (obj_of_objs ((keepCoef_frame s _ _).objs rfl) _ _)
    · exact obj_setObj_other _ hne

theorem oct_of_octs (h : t.octs = s.octs) (a i : Nat) : t.oct a i = s.oct a i := by
  unfold State.oct
  rw [h]

theorem setOct_oct (s : State) (m : Nat × Nat × List Byte) : (s.setOct m.1 m.2.1 m.2.2).oct m.1 m.2.1 = m.2.2 := by
  simp [State.oct, State.setOct]

theorem setOct_oct_other (s : State) (m : Nat × Nat × List Byte) (k : Nat × Nat) (h : k ≠ (m.1, m.2.1)) :
    (s.setOct m.1 m.2.1 m.2.2).oct k.1 k.2 = s.oct k.1 k.2 := by
  have hne : ¬ (k.1 = m.1 ∧ k.2 = m.2.1) := fun e => h (Prod.ext e.1 e.2)
  simp [State.oct, State.setOct, mfind2_mset2_other _ _ hne]

/-- The values of an application that differ from those in force. -/
def calNew (s : State) (vs : List (Nat × Nat × Int)) : List (Nat × Nat × Int) := vs.filter fun v => s.obj v.1 v.2.1 != v.2.2

/-- The maps of an application that differ from those in force. -/
def mapNew (s : State) (ms : List (Nat × Nat × List Byte)) : List (Nat × Nat × List Byte) := ms.filter fun m => s.oct m.1 m.2.1 != m.2.2

/-- Whether an application makes a new generation. -/
def calGenDue (s : State) (vs : List (Nat × Nat × Int)) (ms : List (Nat × Nat × List Byte)) : Bool :=
  ((calNew s vs).any fun v => genObjs9.contains v.1) || (mapNew s ms).any fun m => genObjs9.contains m.1

/-- The state with the values set. -/
def valuesSet (s : State) (vs : List (Nat × Nat × Int)) : State := (calNew s vs).foldl (fun s v => setCal s v.1 v.2.1 v.2.2) s

/-- The state with the values and maps set, before its generation goes up. -/
def valuesMapped (s : State) (vs : List (Nat × Nat × Int)) (ms : List (Nat × Nat × List Byte)) : State :=
  (mapNew s ms).foldl (fun s m => remapCodes s m.1 m.2.1) ((mapNew s ms).foldl (fun s m => s.setOct m.1 m.2.1 m.2.2) (valuesSet s vs))

theorem applyValues_eq (s : State) (vs : List (Nat × Nat × Int)) (ms : List (Nat × Nat × List Byte)) : applyValues s vs ms =
    if calGenDue s vs ms then bumpCalGen (valuesMapped s vs ms) else valuesMapped s vs ms := rfl

theorem remaps_frame (l : List (Nat × Nat × List Byte)) (s : State) : Frame [.lobes, .drv] s (l.foldl (fun s m => remapCodes s m.1 m.2.1) s) :=
  .foldl (fun _ _ => .step (remapCodes_frame _ _ _) (by decide) (.refl _)) (.refl s)

theorem setOcts_frame (l : List (Nat × Nat × List Byte)) (s : State) : Frame [.octs] s (l.foldl (fun s m => s.setOct m.1 m.2.1 m.2.2) s) :=
  .foldl (fun _ _ => .step (State.setOct_frame _ _ _ _) (by decide) (.refl _)) (.refl s)

theorem setCals_frame (l : List (Nat × Nat × Int)) (s : State) :
    Frame [.objs, .loops, .mon] s (l.foldl (fun s v => setCal s v.1 v.2.1 v.2.2) s) :=
  .foldl (fun _ _ => .step (setCal_frame _ _ _ _) (by decide) (.refl _)) (.refl s)

theorem valuesMapped_objs (s : State) (vs : List (Nat × Nat × Int)) (ms : List (Nat × Nat × List Byte)) :
    (valuesMapped s vs ms).objs = (valuesSet s vs).objs :=
  ((remaps_frame _ _).objs rfl).trans ((setOcts_frame _ _).objs rfl)

theorem bumpCalGen_obj {a' j : Nat} (h : a' ≠ Obj.CAL_GEN) : (bumpCalGen s).obj a' j = s.obj a' j :=
  (obj_of_objs ((noteUnstored_frame _).objs rfl) _ _).trans (obj_setObj_addr _ h)

theorem bumpCalGen_gen (s : State) : (bumpCalGen s).objN Obj.CAL_GEN 0 = nextGen (s.objN Obj.CAL_GEN 0) :=
  (objN_of_objs ((noteUnstored_frame _).objs rfl) _ _).trans (objN_setObjN_self _ _ _ _)

theorem applyValues_obj (s : State) (vs : List (Nat × Nat × Int)) (ms : List (Nat × Nat × List Byte)) (ha : a ≠ Obj.CAL_GEN) :
    (applyValues s vs ms).obj a i = (valuesSet s vs).obj a i := by
  rw [applyValues_eq]
  split
  · exact (bumpCalGen_obj ha).trans (obj_of_objs (valuesMapped_objs s vs ms) _ _)
  · exact obj_of_objs (valuesMapped_objs s vs ms) _ _

/-- Every value of an application is in force, if each is one of an object of its own. -/
theorem applyValues_value (hn : (vs.map fun v => (v.1, v.2.1)).Nodup) (s : State) (ms : List (Nat × Nat × List Byte)) {v : Nat × Nat × Int}
    (hv : v ∈ vs) (hg : v.1 ≠ Obj.CAL_GEN) : (applyValues s vs ms).obj v.1 v.2.1 = v.2.2 := by
  rw [applyValues_obj s vs ms hg]
  exact foldl_puts_filter (key := fun v : Nat × Nat × Int => (v.1, v.2.1)) (val := fun v => v.2.2) (get := fun s k => s.obj k.1 k.2)
    (put := fun s v => setCal s v.1 v.2.1 v.2.2) setCal_obj setCal_obj_other hn s hv

/-- Every map of an application is in force, if each is one of an object of its own. -/
theorem applyValues_map (hn : (ms.map fun m => (m.1, m.2.1)).Nodup) (s : State) (vs : List (Nat × Nat × Int)) {m : Nat × Nat × List Byte}
    (hm : m ∈ ms) : (applyValues s vs ms).oct m.1 m.2.1 = m.2.2 := by
  have hocts : (applyValues s vs ms).octs = ((mapNew s ms).foldl (fun s m => s.setOct m.1 m.2.1 m.2.2) (valuesSet s vs)).octs := by
    rw [applyValues_eq]
    split
    · exact ((noteUnstored_frame _).octs rfl).trans ((remaps_frame _ _).octs rfl)
    · exact (remaps_frame _ _).octs rfl
  have hset : (valuesSet s vs).octs = s.octs := (setCals_frame _ s).octs rfl
  have hnew : mapNew s ms = ms.filter fun m => (valuesSet s vs).oct m.1 m.2.1 != m.2.2 := by
    unfold mapNew State.oct
    rw [hset]
  refine (oct_of_octs hocts _ _).trans ?_
  rw [hnew]
  exact foldl_puts_filter (key := fun m : Nat × Nat × List Byte => (m.1, m.2.1)) (val := fun m => m.2.2) (get := fun s k => s.oct k.1 k.2)
    (put := fun s m => s.setOct m.1 m.2.1 m.2.2) setOct_oct setOct_oct_other hn (valuesSet s vs) hm

theorem applyValues_gen (hg : ∀ v ∈ vs, v.1 ≠ Obj.CAL_GEN) (s : State) (ms : List (Nat × Nat × List Byte)) :
    (applyValues s vs ms).objN Obj.CAL_GEN 0 = if calGenDue s vs ms then nextGen (s.objN Obj.CAL_GEN 0) else s.objN Obj.CAL_GEN 0 := by
  have hkept : (valuesMapped s vs ms).objN Obj.CAL_GEN 0 = s.objN Obj.CAL_GEN 0 := by
    refine (objN_of_objs (valuesMapped_objs s vs ms) _ _).trans (congrArg Int.toNat ?_)
    refine foldl_puts_other (key := fun v : Nat × Nat × Int => (v.1, v.2.1)) (get := fun s k => s.obj k.1 k.2)
      (put := fun s v => setCal s v.1 v.2.1 v.2.2) (k := (Obj.CAL_GEN, 0)) setCal_obj_other _ s fun v hv e => ?_
    exact hg v (List.mem_filter.mp hv).1 (congrArg Prod.fst e).symm
  rw [applyValues_eq]
  split
  · rw [bumpCalGen_gen, hkept]
  · exact hkept

theorem applyCal_objs (s : State) (vs : List (Nat × Nat × Int)) (ms : List (Nat × Nat × List Byte)) :
    (applyCal s vs ms).objs = (applyValues s vs ms).objs ∧ (applyCal s vs ms).octs = (applyValues s vs ms).octs := by
  unfold applyCal
  dsimp only
  split
  · exact ⟨rfl, rfl⟩
  · exact ⟨(noteUnstored_frame _).objs rfl, (noteUnstored_frame _).octs rfl⟩

/-- What an application of values changes of the calibration's record. -/
theorem applyCal_cal (s : State) (vs : List (Nat × Nat × Int)) (ms : List (Nat × Nat × List Byte)) :
    ∃ u, (applyCal s vs ms).cal = { s.cal with unstored := u } := by
  have hnote (v : State) : ∃ u, (noteUnstored v).cal = { v.cal with unstored := u } := by
    unfold noteUnstored
    split
    · exact ⟨v.cal.unstored, rfl⟩
    · exact ⟨_, rfl⟩
  have hmapped : (valuesMapped s vs ms).cal = s.cal :=
    ((remaps_frame _ _).cal rfl).trans (((setOcts_frame _ _).cal rfl).trans ((setCals_frame _ s).cal rfl))
  have hvalues : ∃ u, (applyValues s vs ms).cal = { s.cal with unstored := u } := by
    rw [applyValues_eq]
    split
    · obtain ⟨u, hu⟩ := hnote ((valuesMapped s vs ms).setObjN Obj.CAL_GEN 0 (nextGen ((valuesMapped s vs ms).objN Obj.CAL_GEN 0)))
      exact ⟨u, hu.trans (congrArg (fun c : Cal => { c with unstored := u }) hmapped)⟩
    · exact ⟨s.cal.unstored, hmapped⟩
  obtain ⟨u, hu⟩ := hvalues
  unfold applyCal
  dsimp only
  split
  · exact ⟨u, hu⟩
  · obtain ⟨x, hx⟩ := hnote (applyValues s vs ms)
    exact ⟨x, hx.trans (by rw [hu])⟩

end

end Sys2Proof.Proofs

/-!
SUPPORT. The commands of calibration results and values (R274, R277 to R280, R282).
-/

namespace Sys2Proof.Proofs

open Sys2Proof Sys2Proof.Machine Sys2Proof.Laws

section

variable {s t w : State} {a i sess : Nat} {q : CalReq} {r : CalRun} {x : CalResult}

/-! ### CAL_ACCEPT and CAL_ACCEPT_TIMEOUT (R277) -/

theorem pendingCal_seen (s : State) (sess : Nat) : (seen s sess).pendingCal = s.pendingCal := by
  unfold State.pendingCal
  rw [(seen_frame s sess).cal rfl]

theorem calAccept_answers (h : s.accepts sess Obj.CAL_ACCEPT 0 1 = true) : ∃ t, exec (.calAccept sess) s = .next t ∧
    match s.pendingCal with
    | none => t.answered sess 0 Obj.CAL_ACCEPT 0 (.nak .state 0 0) ∧ Frame [.ex] s t
    | some (r, x) =>
      t.answered sess 0 Obj.CAL_ACCEPT 0 (.ack []) ∧ t.cal.apply = some (r.one, x) ∧
        if r.req.sel = 0xFFFFFFFF ∧ r.item + 1 < calItems r.req.kind then
          ∃ n, t.cal.run = some n ∧ n.req = r.req ∧ n.item = r.item + 1 ∧ n.phase = .queued
        else
          t.cal.run = none ∧ t.objN Obj.CAL_LAST_SEQ 0 = r.req.seq ∧ t.objN Obj.CAL_LAST_STATUS 0 = 6 ∧
            t.obj Obj.CAL_LAST_QUALITY 0 = x.quality := by
  have hp := pendingCal_seen s sess
  have hopens := effCalAccept_opens 1 (seen s sess)
  refine ⟨_, rfl, ?_⟩
  cases hc : s.pendingCal with
  | none =>
    have heff : effCalAccept 1 (seen s sess) = (seen s sess, .nak .state) := by
      unfold effCalAccept
      rw [hp, hc]
    obtain ⟨hans, hframe⟩ := hostWrite_refused h heff (by decide)
    exact ⟨hans, frame_sealed hframe (by decide)⟩
  | some p =>
    obtain ⟨r, x⟩ := p
    have heff : effCalAccept 1 (seen s sess) = (finishItem (seen s sess) r x, .ack) := by
      unfold effCalAccept
      rw [hp, hc]
      rfl
    obtain ⟨hans, hframe⟩ := hostWrite_acks h (congrArg Prod.snd heff) hopens
    rw [heff] at hframe
    obtain ⟨happ, hrest⟩ := finishItem_finishes (seen s sess) r x
    have hcal := hframe.cal rfl
    have hobjs := hframe.objs rfl
    have happly : (hostWrite s sess Obj.CAL_ACCEPT 0 1 (effCalAccept 1)).cal.apply = some (r.one, x) := (congrArg Cal.apply hcal).trans happ
    refine ⟨hans, happly, ?_⟩
    by_cases hmore : r.req.sel = calAll ∧ r.item + 1 < calItems r.req.kind
    · rw [if_pos hmore] at hrest
      rw [if_pos (show r.req.sel = 0xFFFFFFFF ∧ _ from hmore)]
      obtain ⟨n, hn, hrest⟩ := hrest
      exact ⟨n, (congrArg Cal.run hcal).trans hn, hrest⟩
    · rw [if_neg hmore] at hrest
      rw [if_neg (show ¬ (r.req.sel = 0xFFFFFFFF ∧ _) from hmore)]
      have hend := hrest.of_frame hframe rfl rfl
      exact ⟨hend.run, hend.seq, hend.status, hend.quality⟩

theorem calDiscard_answers (h : s.accepts sess Obj.CAL_ACCEPT 0 2 = true) : ∃ t, exec (.calDiscard sess) s = .next t ∧
    match s.pendingCal with
    | none => t.answered sess 0 Obj.CAL_ACCEPT 0 (.nak .state 0 0) ∧ Frame [.ex] s t
    | some (r, x) =>
      t.answered sess 0 Obj.CAL_ACCEPT 0 (.ack []) ∧ t.cal.run = none ∧ t.objN Obj.CAL_LAST_SEQ 0 = r.req.seq ∧
        t.objN Obj.CAL_LAST_STATUS 0 = 7 ∧ t.obj Obj.CAL_LAST_QUALITY 0 = x.quality ∧ t.cal.apply = s.cal.apply := by
  have hp := pendingCal_seen s sess
  have hopens := effCalAccept_opens 2 (seen s sess)
  refine ⟨_, rfl, ?_⟩
  cases hc : s.pendingCal with
  | none =>
    have heff : effCalAccept 2 (seen s sess) = (seen s sess, .nak .state) := by
      unfold effCalAccept
      rw [hp, hc]
    obtain ⟨hans, hframe⟩ := hostWrite_refused h heff (by decide)
    exact ⟨hans, frame_sealed hframe (by decide)⟩
  | some p =>
    obtain ⟨r, x⟩ := p
    have heff : effCalAccept 2 (seen s sess) = (endCal (seen s sess) r.req 7 x.quality x.flags, .ack) := by
      unfold effCalAccept
      rw [hp, hc]
      rfl
    obtain ⟨hans, hframe⟩ := hostWrite_acks h (congrArg Prod.snd heff) hopens
    rw [heff] at hframe
    have hend := (endCal_ended (seen s sess) r.req 7 x.quality x.flags).of_frame hframe rfl rfl
    refine ⟨hans, hend.run, hend.seq, hend.status, hend.quality, ?_⟩
    refine (congrArg Cal.apply (hframe.cal rfl)).trans ?_
    rw [endCal_cal, (seen_frame s sess).cal rfl]

theorem calAcceptTimeout_discards (hp : s.pendingCal = some (r, x)) : ∃ t, exec .calAcceptTimeout s = .next t ∧
    if s.elapsed r.since (1000000000 * s.objN Obj.CAL_ACCEPT_TIMEOUT 0) = true then
      t.cal.run = none ∧ t.objN Obj.CAL_LAST_SEQ 0 = r.req.seq ∧ t.objN Obj.CAL_LAST_STATUS 0 = 7 ∧ t.cal.apply = s.cal.apply
    else Frame [.ex] s t := by
  have hrun : exec .calAcceptTimeout s = finish s (if s.elapsed r.since (1000000000 * s.objN Obj.CAL_ACCEPT_TIMEOUT 0) = true then
      endCal s r.req 7 x.quality x.flags else s) := by
    show execCalAcceptTimeout s = _
    unfold execCalAcceptTimeout
    rw [hp]
  by_cases he : s.elapsed r.since (1000000000 * s.objN Obj.CAL_ACCEPT_TIMEOUT 0) = true
  · rw [if_pos he] at hrun
    have hend := endCal_ended s r.req 7 x.quality x.flags
    have hcal := endCal_cal s r.req 7 x.quality x.flags
    generalize endCal s r.req 7 x.quality x.flags = u at hrun hend hcal
    refine ⟨_, hrun, ?_⟩
    rw [if_pos he]
    exact ⟨hend.run, hend.seq, hend.status, (congrArg Cal.apply hcal).trans rfl⟩
  · rw [if_neg he] at hrun
    refine ⟨_, hrun, ?_⟩
    rw [if_neg he]
    exact frame_sealed (.refl s) (by decide)

theorem calAcceptTimeout_idle (hp : s.pendingCal = none) : ∃ t, exec .calAcceptTimeout s = .next t ∧ Frame [.ex] s t := by
  refine ⟨_, ?_, frame_sealed (.refl s) (by decide)⟩
  show execCalAcceptTimeout s = finish s s
  unfold execCalAcceptTimeout
  rw [hp]

/-! ### The application of a result at the scan boundary (R278, R279) -/

/-- The state before the values of a result that are no coefficients of a converter: the result is taken, the coefficients loaded. -/
def coefsTaken (s : State) (x : CalResult) : State :=
  let coef := x.values.filter fun v => v.1 = Obj.CONV_OFFSET ∨ v.1 = Obj.CONV_GAIN
  let w := applyCoefs { s with cal := { s.cal with apply := none } } coef
  if coef.isEmpty then w else noteUnstored w

/-- The values of a result that are no coefficients of a converter. -/
def plainValues (x : CalResult) : List (Nat × Nat × Int) := x.values.filter fun v => v.1 ≠ Obj.CONV_OFFSET ∧ v.1 ≠ Obj.CONV_GAIN

/-- The maximum-attenuation codes of a result's maps go to the drive, a lane back to its channel, and the application is reported. -/
def resultShown (s : State) (q : CalReq) (x : CalResult) : State :=
  let codes := (x.maps.filter fun m => m.1 = Obj.VOA_MAP).map fun m => (voaChan m.2.1, be m.2.2 50 2)
  let s := { s with drv := { s.drv with voaCodes := codes.foldl (fun m c => mset m c.1 (min 4095 c.2)) s.drv.voaCodes } }
  let s := if codes.isEmpty then s else mapDue s
  let s := returnBack s false
  raiseA s 0x4041 [.word q.seq, .word (s.obj Obj.CAL_GEN 0)]

theorem applyResult_eq (s : State) (q : CalReq) (x : CalResult) :
    applyResult s q x = resultShown (applyCal (coefsTaken s x) (plainValues x) x.maps) q x := rfl

theorem resultShown_objs (s : State) (q : CalReq) (x : CalResult) : ObjsOnly eventObjs s (resultShown s q x) := by
  have hdue (u : State) (b : Bool) : Frame [.drv] u (if b then u else mapDue u) := by
    split
    · exact .refl _
    · exact mapDue_frame _
  exact .raiseA (by decide) (.frame (returnBack_frame _ _) (by decide) (.frame (hdue _ _) (by decide) (fun _ _ _ => rfl)))

theorem resultShown_octs (s : State) (q : CalReq) (x : CalResult) : (resultShown s q x).octs = s.octs := by
  have hdue (u : State) (b : Bool) : (if b then u else mapDue u).octs = u.octs := by
    split
    · rfl
    · exact (mapDue_frame u).octs rfl
  unfold resultShown
  dsimp only
  rw [raiseA_octs, (returnBack_frame _ _).octs rfl, hdue]

theorem resultShown_apply (s : State) (q : CalReq) (x : CalResult) : (resultShown s q x).cal.apply = s.cal.apply := by
  have hdue (u : State) (b : Bool) : (if b then u else mapDue u).cal = u.cal := by
    split
    · rfl
    · exact (mapDue_frame u).cal rfl
  have hback (u : State) : (returnBack u false).cal.apply = u.cal.apply := by
    obtain ⟨b, h⟩ := returnBack_cal u false
    rw [h]
  unfold resultShown
  dsimp only
  rw [raiseA_cal, hback, hdue]

theorem coefsTaken_apply (s : State) (x : CalResult) : (coefsTaken s x).cal.apply = none := by
  have hw (l : List (Nat × Nat × Int)) : (applyCoefs { s with cal := { s.cal with apply := none } } l).cal.apply = none :=
    congrArg Cal.apply ((applyCoefs_frame { s with cal := { s.cal with apply := none } } l).cal rfl)
  have hnote (u : State) : (noteUnstored u).cal.apply = u.cal.apply := by
    unfold noteUnstored
    split <;> rfl
  unfold coefsTaken
  dsimp only
  split
  · exact hw _
  · exact (hnote _).trans (hw _)

theorem applyResult_apply (s : State) (q : CalReq) (x : CalResult) : (applyResult s q x).cal.apply = none := by
  obtain ⟨u, h⟩ := applyCal_cal (coefsTaken s x) (plainValues x) x.maps
  rw [applyResult_eq, resultShown_apply, h]
  exact coefsTaken_apply s x

theorem execCalResultApply_due (ha : s.cal.apply = some (q, x)) (h0 : s.tick % 256 = 0) :
    exec .calResultApply s = finish s (applyResult s q x) := by
  show execCalResultApply s = _
  unfold execCalResultApply
  rw [ha]
  exact congrArg (finish s) (if_pos h0)

theorem calResultApply_maps (ha : s.cal.apply = some (q, x)) (h0 : s.tick % 256 = 0) (hn : (x.maps.map fun m => (m.1, m.2.1)).Nodup) :
    ∃ t, exec .calResultApply s = .next t ∧ t.cal.apply = none ∧ (∀ m ∈ x.maps, t.oct m.1 m.2.1 = m.2.2) := by
  have hrun := execCalResultApply_due ha h0
  have happ := applyResult_apply s q x
  have hmaps (m : Nat × Nat × List Byte) (hm : m ∈ x.maps) : (applyResult s q x).oct m.1 m.2.1 = m.2.2 := by
    rw [applyResult_eq, oct_of_octs (resultShown_octs _ q x), oct_of_octs (applyCal_objs _ _ _).2]
    exact applyValues_map hn _ _ hm
  generalize applyResult s q x = u at hrun happ hmaps
  exact ⟨_, hrun, happ, hmaps⟩

theorem calResultApply_idle (h : s.cal.apply = none ∨ s.tick % 256 ≠ 0) : ∃ t, exec .calResultApply s = .next t ∧ Frame [.ex] s t := by
  refine ⟨_, ?_, frame_sealed (.refl s) (by decide)⟩
  show execCalResultApply s = finish s s
  unfold execCalResultApply
  cases hc : s.cal.apply with
  | none => rfl
  | some p => exact congrArg (finish s) (if_neg (h.resolve_left (by rw [hc]; simp)))

/-- The objects a result's values are of, but those of a converter's coefficients. -/
def resultObjs : List Nat :=
  [Obj.TARGET_BAR, Obj.TARGET_CROSS, Obj.FRINGE_SIGN, Obj.THERMAL_ALPHA, Obj.BAND_TRIM, Obj.HEATER_R, Obj.EXTINCTION, Obj.LANE_OFFSET,
   Obj.LANE_GAIN, Obj.LANE_RESIDUAL, Obj.TPL_A1, Obj.TPL_D1]

/-- Those of them whose change makes a new generation. -/
def resultGenObjs : List Nat := [Obj.TARGET_BAR, Obj.TARGET_CROSS, Obj.FRINGE_SIGN, Obj.BAND_TRIM, Obj.TPL_A1, Obj.TPL_D1]

theorem resultObjs_plain (h : a ∈ resultObjs) : a ≠ Obj.CONV_OFFSET ∧ a ≠ Obj.CONV_GAIN ∧ a ≠ Obj.CAL_GEN ∧ a ∉ eventObjs ∧
    genObjs9.contains a = resultGenObjs.contains a :=
  (by decide : ∀ a ∈ resultObjs, a ≠ Obj.CONV_OFFSET ∧ a ≠ Obj.CONV_GAIN ∧ a ≠ Obj.CAL_GEN ∧ a ∉ eventObjs ∧
    genObjs9.contains a = resultGenObjs.contains a) a h

theorem plainValues_all (hv : ∀ v ∈ x.values, v.1 ∈ resultObjs) : plainValues x = x.values :=
  List.filter_eq_self.mpr fun v hm => decide_eq_true (let h := resultObjs_plain (hv v hm); ⟨h.1, h.2.1⟩)

theorem coefsTaken_objs (s : State) (hv : ∀ v ∈ x.values, v.1 ∈ resultObjs) : (coefsTaken s x).objs = s.objs := by
  have hnone : (x.values.filter fun v => v.1 = Obj.CONV_OFFSET ∨ v.1 = Obj.CONV_GAIN) = [] := by
    refine List.filter_eq_nil_iff.mpr fun v hm h => ?_
    have hplain := resultObjs_plain (hv v hm)
    exact (of_decide_eq_true h).elim hplain.1 hplain.2.1
  unfold coefsTaken
  rw [hnone]
  rfl

theorem calGenDue_iff (s : State) (hv : ∀ v ∈ x.values, v.1 ∈ resultObjs) (w : State) (hw : w.objs = s.objs) :
    calGenDue w x.values [] = true ↔ ∃ v ∈ x.values, s.obj v.1 v.2.1 ≠ v.2.2 ∧ v.1 ∈ resultGenObjs := by
  have hobj (b j : Nat) : w.obj b j = s.obj b j := obj_of_objs hw b j
  have hmem : calGenDue w x.values [] = true ↔ ∃ v, v ∈ calNew w x.values ∧ genObjs9.contains v.1 = true := by
    unfold calGenDue mapNew
    simp
  rw [hmem]
  constructor
  · rintro ⟨v, hin, hg⟩
    obtain ⟨hmem, hne⟩ := List.mem_filter.mp hin
    refine ⟨v, hmem, ?_, ?_⟩
    · rw [← hobj]
      exact bne_iff_ne.mp hne
    · rw [(resultObjs_plain (hv v hmem)).2.2.2.2] at hg
      exact List.contains_iff_mem.mp hg
  · rintro ⟨v, hmem, hne, hg⟩
    refine ⟨v, List.mem_filter.mpr ⟨hmem, ?_⟩, ?_⟩
    · rw [← hobj] at hne
      exact bne_iff_ne.mpr hne
    · rw [(resultObjs_plain (hv v hmem)).2.2.2.2]
      exact List.contains_iff_mem.mpr hg

theorem calResultApply_values (ha : s.cal.apply = some (q, x)) (h0 : s.tick % 256 = 0) (hm : x.maps = [])
    (hn : (x.values.map fun v => (v.1, v.2.1)).Nodup) (hv : ∀ v ∈ x.values, v.1 ∈ resultObjs) :
    ∃ t, exec .calResultApply s = .next t ∧ t.cal.apply = none ∧ (∀ v ∈ x.values, t.obj v.1 v.2.1 = v.2.2) ∧
      t.objN Obj.CAL_GEN 0 = (if ∃ v ∈ x.values, s.obj v.1 v.2.1 ≠ v.2.2 ∧ v.1 ∈ resultGenObjs then
        nextGen (s.objN Obj.CAL_GEN 0) else s.objN Obj.CAL_GEN 0) := by
  have hrun := execCalResultApply_due ha h0
  have happ := applyResult_apply s q x
  have hobjs := coefsTaken_objs s hv
  have heq := applyResult_eq s q x
  rw [plainValues_all hv, hm] at heq
  have hshown (b j : Nat) (hb : b ∉ eventObjs) : (applyResult s q x).obj b j = (applyValues (coefsTaken s x) x.values []).obj b j := by
    rw [heq, resultShown_objs _ q x b j hb]
    exact obj_of_objs (applyCal_objs _ _ _).1 b j
  have hvals (v : Nat × Nat × Int) (hmem : v ∈ x.values) : (applyResult s q x).obj v.1 v.2.1 = v.2.2 := by
    obtain ⟨-, -, hgen, hev, -⟩ := resultObjs_plain (hv v hmem)
    exact (hshown _ _ hev).trans (applyValues_value hn _ [] hmem hgen)
  have hgen : (applyResult s q x).objN Obj.CAL_GEN 0 = (if ∃ v ∈ x.values, s.obj v.1 v.2.1 ≠ v.2.2 ∧ v.1 ∈ resultGenObjs then
        nextGen (s.objN Obj.CAL_GEN 0) else s.objN Obj.CAL_GEN 0) := by
    refine (congrArg Int.toNat (hshown _ _ (by decide))).trans ?_
    refine (applyValues_gen (fun v hmem => (resultObjs_plain (hv v hmem)).2.2.1) _ _).trans ?_
    rw [objN_of_objs hobjs]
    exact if_congr (calGenDue_iff s hv _ hobjs) rfl rfl
  generalize applyResult s q x = u at hrun happ hvals hgen
  exact ⟨_, hrun, happ, hvals, hgen⟩

/-! ### CAL_STORE and the automatic store (R280) -/

/-- The state in which a store of the calibration begins: nothing applied since awaits one. -/
def storeAwaited (s : State) : State := { s with cal := { s.cal with unstored := none } }

/-- The state with a store of the calibration running. -/
def calStoring (s : State) : State :=
  { s with cal := { s.cal with postponed := false }, dev := { s.dev with store := some ⟨.calibration, s.storeRegions .calibration⟩ } }

theorem startStore_calibration (s : State) : startStore s .calibration =
    if s.storeRegions .calibration = [] then calStored { s with cal := { s.cal with postponed := false } } else calStoring s := by
  unfold startStore
  dsimp only
  rw [if_pos rfl]
  by_cases h : s.storeRegions .calibration = []
  · rw [if_pos h, h]
    rfl
  · rw [if_neg h, if_neg (by simpa using h)]
    rfl

theorem startStore_unstored (s : State) : (startStore s .calibration).cal.unstored = s.cal.unstored := by
  rw [startStore_calibration]
  split
  · exact (congrArg Cal.unstored ((calStored_frame { s with cal := { s.cal with postponed := false } }).cal rfl)).trans rfl
  · rfl

theorem storeRegions_seen (s : State) (sess : Nat) : (storeAwaited (seen s sess)).storeRegions .calibration = s.storeRegions .calibration := by
  rw [seen_eq]
  generalize (seen s sess).ex = e
  rfl

theorem calStored_shows (s : State) : (calStored s).obj Obj.CAL_STORED_GEN 0 = s.obj Obj.CAL_GEN 0 ∧ (calStored s).dev.store = s.dev.store := by
  unfold calStored
  dsimp only
  refine ⟨(raiseA_obj (by decide) _ _ _).trans (obj_setObj _ _ _ _), ?_⟩
  rw [raiseA_dev]
  rfl

theorem calStore_answers (h : s.accepts sess Obj.CAL_STORE 0 1 = true) : ∃ t, exec (.calStore sess) s = .next t ∧
    if s.flashBusy = true then t.answered sess 0 Obj.CAL_STORE 0 (.nak .busy 0 0) ∧ Frame [.ex] s t
    else if s.flashOk = false then t.answered sess 0 Obj.CAL_STORE 0 (.nak .state 0 0) ∧ Frame [.ex] s t
    else
      t.cal.unstored = none ∧
        if s.storeRegions .calibration = [] then
          t.answered sess 0 Obj.CAL_STORE 0 (.ack []) ∧ t.obj Obj.CAL_STORED_GEN 0 = s.obj Obj.CAL_GEN 0
        else
          t.dev.store = some { kind := .calibration, regions := s.storeRegions .calibration } ∧
            ∃ o ∈ t.ex.owed, o.kind = .calStore ∧ o.sess = sess := by
  have hseen := seen_frame s sess
  have hbusy : (seen s sess).flashBusy = s.flashBusy := by
    unfold State.flashBusy
    rw [hseen.dev rfl]
  have hok : (seen s sess).flashOk = s.flashOk := by
    unfold State.flashOk
    rw [hseen.therm rfl]
  have hopens := effCalStore_opens (seen s sess)
  refine ⟨_, rfl, ?_⟩
  by_cases hb : s.flashBusy = true
  · have heff : effCalStore (seen s sess) = (seen s sess, .nak .busy) := by
      unfold effCalStore
      rw [hbusy]
      exact if_pos hb
    obtain ⟨hans, hframe⟩ := hostWrite_refused h heff (by decide)
    rw [if_pos hb]
    exact ⟨hans, frame_sealed hframe (by decide)⟩
  · rw [if_neg hb]
    by_cases hf : s.flashOk = false
    · have heff : effCalStore (seen s sess) = (seen s sess, .nak .state) := by
        unfold effCalStore
        rw [hbusy, hok, if_neg hb, hf]
        rfl
      obtain ⟨hans, hframe⟩ := hostWrite_refused h heff (by decide)
      rw [if_pos hf]
      exact ⟨hans, frame_sealed hframe (by decide)⟩
    · have heff : effCalStore (seen s sess) = (startStore (storeAwaited (seen s sess)) .calibration,
          if (startStore (storeAwaited (seen s sess)) .calibration).flashBusy then .owe .calStore else .ack) := by
        unfold effCalStore
        rw [hbusy, hok, if_neg hb, if_neg (by simpa using hf)]
        rfl
      have hregions := storeRegions_seen s sess
      have hgen : (storeAwaited (seen s sess)).obj Obj.CAL_GEN 0 = s.obj Obj.CAL_GEN 0 := obj_of_objs (hseen.objs rfl) _ _
      have hstore : (storeAwaited (seen s sess)).dev.store = s.dev.store := congrArg Device.store (hseen.dev rfl)
      have hnone : (storeAwaited (seen s sess)).cal.unstored = none := rfl
      generalize storeAwaited (seen s sess) = w at heff hregions hgen hstore hnone
      have hun := (startStore_unstored w).trans hnone
      have hstart := startStore_calibration w
      rw [hregions] at hstart
      rw [if_neg hf]
      by_cases hr : s.storeRegions .calibration = []
      · rw [if_pos hr] at hstart ⊢
        obtain ⟨hshow, hst⟩ := calStored_shows { w with cal := { w.cal with postponed := false } }
        rw [← hstart] at hshow hst
        have hidle : (startStore w .calibration).flashBusy = false := by
          unfold State.flashBusy
          rw [hst]
          exact (congrArg Option.isSome hstore).trans (by simpa [State.flashBusy] using hb)
        rw [hidle] at heff
        obtain ⟨hans, hframe⟩ := hostWrite_acks h (congrArg Prod.snd heff) hopens
        rw [heff] at hframe
        exact ⟨(congrArg Cal.unstored (hframe.cal rfl)).trans hun, hans,
          (obj_of_objs (hframe.objs rfl) _ _).trans (hshow.trans hgen)⟩
      · rw [if_neg hr] at hstart ⊢
        have hrunning : (startStore w .calibration).dev.store = some ⟨.calibration, s.storeRegions .calibration⟩ := by
          rw [hstart, ← hregions]
          rfl
        have hbusy' : (startStore w .calibration).flashBusy = true := by
          unfold State.flashBusy
          rw [hrunning]
          rfl
        rw [hbusy'] at heff
        rw [hostWrite_owe h heff]
        exact ⟨hun, hrunning, ⟨_, List.mem_append_right _ (List.mem_singleton_self _), rfl, rfl⟩⟩

theorem notePostponed_unstored (s : State) : (notePostponed s).cal.unstored = s.cal.unstored := by
  unfold notePostponed
  split
  · rfl
  · rw [raiseA_cal]

theorem pumpStores_unstored (s : State) : (pumpStores s).cal.unstored = s.cal.unstored := by
  have hstart (u : State) (k : StoreKind) : (startStore u k).cal.unstored = u.cal.unstored := by
    by_cases hk : k = .calibration
    · subst hk
      exact startStore_unstored u
    · unfold startStore
      dsimp only
      rw [if_neg hk]
      split
      · rfl
      · rfl
  unfold pumpStores
  split
  · split
    · exact hstart _ _
    · rfl
  · rfl

theorem autoStore_unstored (s : State) (k : StoreKind) : (autoStore s k).cal.unstored = s.cal.unstored := by
  unfold autoStore
  split
  · rfl
  · exact (notePostponed_unstored _).trans (pumpStores_unstored _)

/-- The state with other stores waiting. -/
def storesWaiting (s : State) (l : List StoreKind) : State := { s with dev := { s.dev with storeQueue := l } }

theorem autoStore_queues {k : StoreKind} (h : s.dev.storeQueue.contains k = false) :
    autoStore s k = notePostponed (pumpStores (storesWaiting s (s.dev.storeQueue ++ [k]))) := by
  unfold autoStore
  rw [h]
  rfl

theorem pumpStores_barred (hf : s.flashOk = false) : pumpStores s = s := by
  unfold pumpStores
  split
  · exact if_neg (by simp [hf])
  · rfl

/-- A store the device makes by itself waits while flash writes are barred. -/
theorem autoStore_waits (hf : s.flashOk = false) (k : StoreKind) : k ∈ (autoStore s k).dev.storeQueue := by
  cases h : s.dev.storeQueue.contains k with
  | true =>
    have hself : autoStore s k = s := if_pos h
    rw [hself]
    exact List.contains_iff_mem.mp h
  | false =>
    rw [autoStore_queues h, notePostponed_dev, pumpStores_barred (s := storesWaiting s (s.dev.storeQueue ++ [k])) hf]
    exact List.mem_append_right _ (List.mem_singleton_self k)

theorem pumpStores_first {k : StoreKind} (hf : s.flashOk = true) (h0 : s.dev.store = none) :
    pumpStores (storesWaiting s [k]) = startStore (storesWaiting s []) k := by
  unfold pumpStores storesWaiting
  simp only [h0]
  exact if_pos hf

/-- The automatic store of the calibration begins at once where no store runs or waits and flash writes are permitted. -/
theorem autoStore_begins (hf : s.flashOk = true) (h0 : s.dev.store = none) (hq : s.dev.storeQueue = [])
    (hr : s.storeRegions .calibration ≠ []) :
    (autoStore s .calibration).dev.store = some ⟨.calibration, s.storeRegions .calibration⟩ := by
  have hregions : (storesWaiting s []).storeRegions .calibration = s.storeRegions .calibration := rfl
  rw [autoStore_queues (by rw [hq]; rfl), notePostponed_dev, hq, List.nil_append, pumpStores_first hf h0, startStore_calibration, hregions,
    if_neg hr]
  exact congrArg (fun l => some (⟨.calibration, l⟩ : FlashStore)) hregions

theorem calStoreIntervalEnd_stores {t0 : Nat} (hu : s.cal.unstored = some t0) : ∃ t, exec .calStoreIntervalEnd s = .next t ∧
    if s.elapsed t0 (1000000000 * s.objN Obj.CAL_STORE_INTERVAL 0) = true then
      t.cal.unstored = none ∧
        (s.flashOk = false → .calibration ∈ t.dev.storeQueue) ∧
        (s.flashOk = true → s.dev.store = none → s.dev.storeQueue = [] → s.storeRegions .calibration ≠ [] →
          t.dev.store = some { kind := .calibration, regions := s.storeRegions .calibration })
    else Frame [.ex] s t := by
  have hrun : exec .calStoreIntervalEnd s = finish s (if s.elapsed t0 (1000000000 * s.objN Obj.CAL_STORE_INTERVAL 0) = true then
      autoStore (storeAwaited s) .calibration else s) := by
    show execCalStoreIntervalEnd s = _
    unfold execCalStoreIntervalEnd
    rw [hu]
    rfl
  by_cases he : s.elapsed t0 (1000000000 * s.objN Obj.CAL_STORE_INTERVAL 0) = true
  · rw [if_pos he] at hrun
    have hun : (autoStore (storeAwaited s) .calibration).cal.unstored = none := autoStore_unstored _ _
    have hwaits (hf : s.flashOk = false) : .calibration ∈ (autoStore (storeAwaited s) .calibration).dev.storeQueue :=
      autoStore_waits (s := storeAwaited s) hf _
    have hbegins (hf : s.flashOk = true) (h0 : s.dev.store = none) (hq : s.dev.storeQueue = []) (hr : s.storeRegions .calibration ≠ []) :
        (autoStore (storeAwaited s) .calibration).dev.store = some ⟨.calibration, s.storeRegions .calibration⟩ :=
      autoStore_begins (s := storeAwaited s) hf h0 hq hr
    generalize autoStore (storeAwaited s) .calibration = u at hrun hun hwaits hbegins
    refine ⟨_, hrun, ?_⟩
    rw [if_pos he]
    exact ⟨hun, hwaits, hbegins⟩
  · rw [if_neg he] at hrun
    refine ⟨_, hrun, ?_⟩
    rw [if_neg he]
    exact frame_sealed (.refl s) (by decide)

theorem calStoreIntervalEnd_idle (hu : s.cal.unstored = none) : ∃ t, exec .calStoreIntervalEnd s = .next t ∧ Frame [.ex] s t := by
  refine ⟨_, ?_, frame_sealed (.refl s) (by decide)⟩
  show execCalStoreIntervalEnd s = finish s s
  unfold execCalStoreIntervalEnd
  rw [hu]

/-! ### Host writes of calibrated values (R274, R282) -/

theorem targetsUnequal_seen (s : State) (sess : Nat) : (seen s sess).targetsUnequal = s.targetsUnequal := by
  rw [seen_eq]
  generalize (seen s sess).ex = e
  rfl

theorem calValuesApply_answers (h : s.accepts sess Obj.CAL_VALUES_APPLY 0 1 = true) : ∃ t, exec (.calValuesApply sess) s = .next t ∧
    if s.targetsUnequal = true then t.answered sess 0 Obj.CAL_VALUES_APPLY 0 (.nak .range 0 0) ∧ Frame [.ex] s t
    else t.answered sess 0 Obj.CAL_VALUES_APPLY 0 (.ack []) ∧ t.cal = { s.cal with valuesDue := true } ∧ Frame [.ex, .cal] s t := by
  have hseen := seen_frame s sess
  refine ⟨_, rfl, ?_⟩
  by_cases hu : s.targetsUnequal = true
  · have heff : effCalValuesApply (seen s sess) = (seen s sess, .nak .range) := by
      unfold effCalValuesApply
      rw [targetsUnequal_seen]
      exact if_pos hu
    obtain ⟨hans, hframe⟩ := hostWrite_refused h heff (by decide)
    rw [if_pos hu]
    exact ⟨hans, frame_sealed hframe (by decide)⟩
  · have heff : effCalValuesApply (seen s sess) = ({ seen s sess with cal := { (seen s sess).cal with valuesDue := true } }, .ack) := by
      unfold effCalValuesApply
      rw [targetsUnequal_seen]
      exact if_neg hu
    obtain ⟨hans, hframe⟩ := hostWrite_acks h (congrArg Prod.snd heff) (opens_of_frame (effCalValuesApply_frame _) (by decide))
    rw [heff] at hframe
    rw [if_neg hu]
    refine ⟨hans, (hframe.cal rfl).trans (congrArg (fun c : Cal => { c with valuesDue := true }) (hseen.cal rfl)), ?_⟩
    refine frame_sealed (.trans ?_ (hframe.mono (by decide))) (by decide)
    exact .set_cal (by decide) (hseen.mono (by decide))

theorem templatesTooLong_seen (s : State) (sess : Nat) : (seen s sess).templatesTooLong = s.templatesTooLong := by
  rw [seen_eq]
  generalize (seen s sess).ex = e
  rfl

/-- The staged values of a list of objects, no object twice, are each of an object of their own. -/
theorem stagedVals_nodup {objs : List Nat} (ho : objs.Nodup) (hs : ∀ a ∈ objs, msorted (s.stagedOf a) = true) :
    ((s.stagedVals objs).map fun v => (v.1, v.2.1)).Nodup := by
  have hone (a : Nat) (ha : msorted (s.stagedOf a) = true) :
      (((s.stagedOf a).map fun e => (a, e.1, e.2)).map fun v : Nat × Nat × Int => (v.1, v.2.1)).Nodup := by
    have hkeys : (s.stagedOf a).Pairwise fun p q => p.1 < q.1 := rising_of_msorted ha
    rw [List.map_map]
    refine List.Pairwise.map _ (fun p q hlt e => ?_) hkeys
    exact (Nat.ne_of_lt hlt) (congrArg Prod.snd e)
  unfold State.stagedVals
  induction objs with
  | nil => exact List.nodup_nil
  | cons a l ih =>
    obtain ⟨hna, hl⟩ := List.nodup_cons.mp ho
    rw [List.map_cons, List.flatten_cons, List.map_append]
    refine List.Nodup.append (hone a (hs a List.mem_cons_self)) (ih hl fun b hb => hs b (List.mem_cons_of_mem _ hb)) ?_
    intro k hk hk'
    obtain ⟨v, hv, rfl⟩ := List.mem_map.mp hk
    obtain ⟨e, -, rfl⟩ := List.mem_map.mp hv
    obtain ⟨v', hv', heq⟩ := List.mem_map.mp hk'
    obtain ⟨m, hm, hvm⟩ := List.mem_flatten.mp hv'
    obtain ⟨b, hb, rfl⟩ := List.mem_map.mp hm
    obtain ⟨e', -, rfl⟩ := List.mem_map.mp hvm
    have hba : b = a := congrArg Prod.fst heq
    exact hna (hba ▸ hb)

theorem mem_stagedVals {objs : List Nat} {v : Nat × Nat × Int} :
    v ∈ s.stagedVals objs ↔ v.1 ∈ objs ∧ (v.2.1, v.2.2) ∈ s.stagedOf v.1 := by
  unfold State.stagedVals
  constructor
  · intro h
    obtain ⟨l, hl, hv⟩ := List.mem_flatten.mp h
    obtain ⟨a, ha, rfl⟩ := List.mem_map.mp hl
    obtain ⟨e, he, rfl⟩ := List.mem_map.mp hv
    exact ⟨ha, he⟩
  · rintro ⟨ha, hv⟩
    exact List.mem_flatten.mpr ⟨_, List.mem_map.mpr ⟨v.1, ha, rfl⟩, List.mem_map.mpr ⟨_, hv, rfl⟩⟩

/-- The state with what is staged of a list of objects taken away. -/
def unstagedObjs (s : State) (objs : List Nat) : State :=
  { s with staged := s.staged.filter fun e => !objs.contains e.1, stagedOcts := s.stagedOcts.filter fun e => !objs.contains e.1 }

theorem takeCal_eq (s : State) (objs : List Nat) :
    takeCal s objs = applyCal (unstagedObjs s objs) (s.stagedVals objs) (s.stagedMaps objs) := rfl

theorem unstagedObjs_stagedOf {objs : List Nat} (h : a ∈ objs) : (unstagedObjs s objs).stagedOf a = [] := by
  unfold unstagedObjs State.stagedOf mget
  induction s.staged with
  | nil => rfl
  | cons p l ih =>
    obtain ⟨b, y⟩ := p
    by_cases hb : b ∈ objs
    · rw [List.filter_cons_of_neg (by simpa using hb)]
      exact ih
    · have hne : b ≠ a := fun e => hb (e ▸ h)
      rw [List.filter_cons_of_pos (by simpa using hb)]
      simpa [mfind, hne] using ih

/-- The templates' values taken, every adaptive sum answered. -/
def templatesTaken (s : State) : State :=
  let s := takeCal s templateObjs
  { s with cal := { s.cal with adapt := mmap (fun _ a => { a with ready := none }) s.cal.adapt, missed := s.adaptLate } }

theorem templatesTaken_ready (s : State) (n : Nat) : ((templatesTaken s).adapt n).ready = none := by
  have hmap (m : SMap Adapt) : (mget {} (mmap (fun _ a => { a with ready := none }) m) n).ready = none := by
    unfold mget
    rw [mfind_mmap]
    cases mfind m n <;> rfl
  exact hmap _

theorem templateApply_answers (h : s.accepts sess Obj.TEMPLATE_APPLY 0 1 = true)
    (hs : ∀ a ∈ templateObjs, msorted (s.stagedOf a) = true) : ∃ t, exec (.templateApply sess) s = .next t ∧
    if s.templatesTooLong = true then t.answered sess 0 Obj.TEMPLATE_APPLY 0 (.nak .range 0 0) ∧ Frame [.ex] s t
    else
      t.answered sess 0 Obj.TEMPLATE_APPLY 0 (.ack []) ∧ (∀ n, (t.adapt n).ready = none) ∧
        (∀ a ∈ templateObjs, t.stagedOf a = [] ∧ ∀ p ∈ s.stagedOf a, t.obj a p.1 = p.2) ∧
        ((∃ a ∈ templateObjs, ∃ p ∈ s.stagedOf a, s.obj a p.1 ≠ p.2) → t.objN Obj.CAL_GEN 0 = nextGen (s.objN Obj.CAL_GEN 0)) := by
  have hseen := seen_frame s sess
  have htoo := templatesTooLong_seen s sess
  have hstaged (a : Nat) : (seen s sess).stagedOf a = s.stagedOf a := stagedOf_seen s sess a
  have hobj (a i : Nat) : (seen s sess).obj a i = s.obj a i := obj_of_objs (hseen.objs rfl) a i
  have heff : effTemplateApply (seen s sess) =
      if (seen s sess).templatesTooLong then (seen s sess, .nak .range) else (templatesTaken (seen s sess), .ack) := rfl
  have hopens := opens_of_frame (effTemplateApply_frame (seen s sess)) (by decide)
  rw [htoo] at heff
  refine ⟨_, rfl, ?_⟩
  by_cases hlong : s.templatesTooLong = true
  · rw [if_pos hlong] at heff ⊢
    obtain ⟨hans, hframe⟩ := hostWrite_refused h heff (by decide)
    exact ⟨hans, frame_sealed hframe (by decide)⟩
  · rw [if_neg hlong] at heff ⊢
    obtain ⟨hans, hframe⟩ := hostWrite_acks h (congrArg Prod.snd heff) hopens
    rw [heff] at hframe
    have hsorted : ((((seen s sess).stagedVals templateObjs)).map fun v => (v.1, v.2.1)).Nodup :=
      stagedVals_nodup (by decide) fun a ha => by rw [hstaged]; exact hs a ha
    have hobjs : (templatesTaken (seen s sess)).objs = (applyValues (unstagedObjs (seen s sess) templateObjs)
        ((seen s sess).stagedVals templateObjs) ((seen s sess).stagedMaps templateObjs)).objs :=
      (congrArg State.objs (takeCal_eq _ _)).trans (applyCal_objs _ _ _).1
    have hkeep : (templatesTaken (seen s sess)).staged = (unstagedObjs (seen s sess) templateObjs).staged :=
      (congrArg State.staged (takeCal_eq _ _)).trans ((applyCal_frame _ _ _).staged rfl)
    have hadapt := templatesTaken_ready (seen s sess)
    have hmem (v : Nat × Nat × Int) : v ∈ (seen s sess).stagedVals templateObjs ↔ v.1 ∈ templateObjs ∧ (v.2.1, v.2.2) ∈ s.stagedOf v.1 := by
      rw [mem_stagedVals, hstaged]
    have hplain : ∀ a ∈ templateObjs, a ≠ Obj.CAL_GEN ∧ genObjs9.contains a = true := by decide
    generalize templatesTaken (seen s sess) = u at hframe hobjs hkeep hadapt
    refine ⟨hans, ?_, ?_, ?_⟩
    · intro n
      refine Eq.trans ?_ (hadapt n)
      exact congrArg (fun c : Cal => (mget {} c.adapt n).ready) (hframe.cal rfl)
    · intro a ha
      refine ⟨?_, fun p hp => ?_⟩
      · refine Eq.trans ?_ (unstagedObjs_stagedOf (s := seen s sess) ha)
        exact congrArg (fun m => mget [] m a) ((hframe.staged rfl).trans hkeep)
      · refine (obj_of_objs ((hframe.objs rfl).trans hobjs) _ _).trans ?_
        exact applyValues_value (v := (a, p)) hsorted _ _ ((hmem _).mpr ⟨ha, hp⟩) (hplain a ha).1
    · rintro ⟨a, ha, p, hp, hne⟩
      refine (objN_of_objs ((hframe.objs rfl).trans hobjs) _ _).trans ?_
      rw [applyValues_gen (fun v hv => (hplain v.1 ((hmem v).mp hv).1).1), if_pos]
      · exact congrArg nextGen (objN_of_objs (hseen.objs rfl) _ _)
      · unfold calGenDue
        refine Bool.or_eq_true_iff.mpr (.inl (List.any_eq_true.mpr ⟨(a, p), List.mem_filter.mpr ⟨(hmem _).mpr ⟨ha, hp⟩, ?_⟩, (hplain a ha).2⟩))
        exact bne_iff_ne.mpr fun e => hne ((hobj a p.1).symm.trans e)

end

/-- Settles O44: the end of a held result, its application value by value, the stores of the calibration, and the two applications of staged
values. -/
theorem calibrationValues : Obligations.CalibrationValues := by
  unfold Obligations.CalibrationValues
  exact ⟨fun _ _ h => calAccept_answers h, fun _ _ h => calDiscard_answers h, fun _ _ _ h => calAcceptTimeout_discards h,
    fun _ h => calAcceptTimeout_idle h, fun _ _ _ ha h0 hn => calResultApply_maps ha h0 hn, fun _ h => calResultApply_idle h,
    fun _ _ _ ha h0 hm hn hv => calResultApply_values ha h0 hm hn hv, fun _ _ h => calStore_answers h,
    fun _ _ h => calStoreIntervalEnd_stores h, fun _ h => calStoreIntervalEnd_idle h, fun _ _ h => calValuesApply_answers h,
    fun _ _ h hs => templateApply_answers h hs⟩

end Sys2Proof.Proofs

/-!
SUPPORT. The proof of heater accounting, grants, budgets and the host's decisions (spec/10_power_thermal.md).
-/

namespace Sys2Proof.Proofs

open Sys2Proof Sys2Proof.Machine Sys2Proof.Laws

section

variable {s t w : State} {a i n seq sess src : Nat} {k : GKind} {r : GReq}

/-! ### The power of the heaters -/

/-- What a state that only Steady's operations changed is. -/
theorem eq_of_steadyFrame (h : Frame [.objs, .ex, .sorus, .steady] s t) :
    t = { s with pending := t.pending, objs := t.objs, ex := t.ex, sorus := t.sorus, steady := t.steady } := by
  rw [← h.tick rfl, ← h.octs rfl, ← h.staged rfl, ← h.stagedOcts rfl, ← h.hbm rfl, ← h.dev rfl, ← h.funcs rfl, ← h.lobes rfl,
    ← h.time rfl, ← h.drv rfl, ← h.therm rfl, ← h.loops rfl, ← h.mon rfl, ← h.cal rfl, ← h.fab rfl, ← h.lib rfl, ← h.com rfl,
    ← h.net rfl, ← h.mat rfl]

/-- The power of a heater rests on no object but HEATER_R, and not on Steady's record. -/
theorem unitsOf_of_frame (h : Frame [.objs, .ex, .sorus, .steady] s t) (hr : ∀ u, t.objN Obj.HEATER_R u = s.objN Obj.HEATER_R u) :
    t.unitsOf = s.unitsOf := by
  funext u
  have heater : t.heaterR u = s.heaterR u := by
    have hlane : t.loadLane = s.loadLane := by
      rw [eq_of_steadyFrame h]
      rfl
    unfold State.heaterR
    rw [hr, hlane]
  have hdriven : t.drivenAt (81920 + u) = s.drivenAt (81920 + u) := by
    rw [eq_of_steadyFrame h]
    rfl
  have hchan : t.chan (81920 + u) = s.chan (81920 + u) := by
    rw [eq_of_steadyFrame h]
    rfl
  have hout : t.genOut (81920 + u) = s.genOut (81920 + u) := by
    rw [eq_of_steadyFrame h]
    rfl
  unfold State.unitsOf
  dsimp only
  rw [heater, hdriven, hchan, hout]

theorem heaterSum_of_frame (h : Frame [.objs, .ex, .sorus, .steady] s t) (hr : ∀ u, t.objN Obj.HEATER_R u = s.objN Obj.HEATER_R u) :
    t.heaterSum = s.heaterSum := by
  unfold State.heaterSum State.heaters
  rw [unitsOf_of_frame h hr, h.drv rfl]

theorem basePower_of_frame (h : Frame [.objs, .ex, .sorus, .steady] s t) (hr : ∀ u, t.objN Obj.HEATER_R u = s.objN Obj.HEATER_R u) :
    t.basePower = s.basePower := by
  funext chans
  unfold State.basePower State.power
  rw [unitsOf_of_frame h hr]

/-- The grants as they are drawn at a heater power. -/
def drawnBy (p : List Nat → Int) (l : List Grant) : List Grant :=
  l.map fun g => { g with left := max 0 (g.heater - max 0 (p g.chans - g.base)) }

theorem drawGrants_steady (s : State) : (drawGrants s).steady = { s.steady with grants := drawnBy s.basePower s.steady.grants } := rfl

theorem showPassed_steady (s : State) (r : GReq) : ∃ ring, (showPassed s r).steady = { s.steady with ring := ring } := by
  unfold showPassed closeReq
  split
  · split
    · exact ⟨_, rfl⟩
    · exact ⟨_, rfl⟩
  · exact ⟨_, rfl⟩

/-- The grant that a request becomes. -/
def grantOf (s : State) (r : GReq) : Grant :=
  { kind := r.kind, source := r.source, heater := r.heater, left := max 0 r.heater, base := s.basePower r.chans, chans := r.chans,
    charge := r.charge, dir := r.dir }

theorem issueGrant_steady (s : State) (r : GReq) : (issueGrant s r).steady =
    { (showPassed s r).steady with grants := (showPassed s r).steady.grants ++ [grantOf (showPassed s r) r] } := rfl

theorem showSteady_power (s : State) : (showSteady s).obj Obj.HEATER_POWER 0 = s.obj Obj.HEATER_POWER 0 :=
  (ObjsOnly.showSteady (.refl s)) _ _ (by decide)

/-! ### The accounting at a scan boundary (R284, R285, R289, R290) -/

/-- The state in which an accounting begins: the budgets written since the last one are in force. -/
def budgetsTaken (s : State) : State := takeBudgets { s with steady := { s.steady with newBudget := false } }

theorem budgetsTaken_frame (s : State) : Frame [.steady] s (budgetsTaken s) :=
  .trans (.set_steady (by decide) (.refl s)) (takeBudgets_frame _)

theorem budgetsTaken_steady (s : State) : ∃ reserve pb, (budgetsTaken s).steady = { s.steady with
    budget := if s.steady.pendingBudget = true then s.obj Obj.HEATER_BUDGET 0 else s.steady.budget, newBudget := false,
    reserve := reserve, pendingBudget := pb } := by
  unfold budgetsTaken takeBudgets
  by_cases h : s.steady.pendingBudget = true
  · rw [if_pos h, if_pos h]
    exact ⟨_, _, rfl⟩
  · rw [if_neg h, if_neg h]
    exact ⟨_, _, rfl⟩

/-- The state with the report of a budget below the power. -/
def overReported (taken : Bool) (s : State) : State :=
  if taken && decide (1000 * s.steady.budget < s.obj Obj.HEATER_POWER 0) then
    raiseS s 0x5002 [.word (s.obj Obj.HEATER_POWER 0), .word s.steady.budget]
  else s

theorem heaterScan_eq (s : State) (hf : s.steady.frozen = false) (hu : s.steady.upsets = []) :
    heaterScan s = showSteady (overReported s.steady.newBudget (accountScan (budgetsTaken s))) := by
  obtain ⟨reserve, pb, h⟩ := budgetsTaken_steady s
  have hd : steadyDecides (budgetsTaken s) 8 = (budgetsTaken s, true) := by
    refine steadyDecides_sound ?_ ?_ 8
    · rw [h]
      exact hf
    · rw [h]
      exact hu
  show (match steadyDecides (budgetsTaken s) 8 with
    | (w, ok) => showSteady (overReported s.steady.newBudget (if ok then accountScan w else w))) = _
  rw [hd]
  rfl

/-- The state with the accounting's figures in Steady's record. -/
def accounted (s : State) (p : Int) : State := drawGrants (s.setObj Obj.HEATER_POWER 0 p)

/-- Whether the heater ceiling is in force after an accounting. -/
def ceilingNow (s : State) : Bool :=
  if s.steady.ceiling then decide (1000 * s.steady.budget - 500000 ≤ s.heaterSum + (drawGrants s).granted)
  else decide (1000 * s.steady.budget ≤ s.heaterSum + (drawGrants s).granted)

theorem accounted_steady (s : State) (p : Int) : (accounted s p).steady = (drawGrants s).steady := by
  unfold accounted
  rw [drawGrants_steady, drawGrants_steady,
    basePower_of_frame ((State.setObj_frame s Obj.HEATER_POWER 0 p).mono (by decide)) fun _ => objN_setObj_addr _ (by decide)]
  rfl

/-- What an accounting leaves: its figures in Steady's record, and the power in HEATER_POWER. -/
theorem accountScan_accounts (s : State) : (accountScan s).steady = { (drawGrants s).steady with ceiling := ceilingNow s } ∧
    (accountScan s).obj Obj.HEATER_POWER 0 = s.heaterSum := by
  have hsteady := accounted_steady s s.heaterSum
  have hgranted : (accounted s s.heaterSum).granted = (drawGrants s).granted := by
    unfold State.granted
    rw [hsteady]
  have hpower : (accounted s s.heaterSum).obj Obj.HEATER_POWER 0 = s.heaterSum := obj_setObj _ _ _ _
  have heq : accountScan s = (fun v : State => if ceilingNow s && !s.steady.ceiling then
      raiseS v 0x5001 [.word s.heaterSum, .word v.granted] else v)
        { accounted s s.heaterSum with steady := { (accounted s s.heaterSum).steady with ceiling := ceilingNow s } } := by
    have hnow : ceilingNow s = if (accounted s s.heaterSum).steady.ceiling then
        decide (1000 * (accounted s s.heaterSum).steady.budget - 500000 ≤ s.heaterSum + (accounted s s.heaterSum).granted)
        else decide (1000 * (accounted s s.heaterSum).steady.budget ≤ s.heaterSum + (accounted s s.heaterSum).granted) := by
      rw [hgranted, hsteady]
      rfl
    rw [hnow]
    rfl
  rw [heq, hsteady]
  generalize accounted s s.heaterSum = w at hpower
  dsimp only
  split
  · refine ⟨?_, ?_⟩
    · rw [raiseS_steady]
    · exact (raiseS_obj (by decide) _ _ _).trans hpower
  · exact ⟨rfl, hpower⟩

theorem overReported_steady (taken : Bool) (s : State) : (overReported taken s).steady = s.steady := by
  unfold overReported
  split
  · exact raiseS_steady _ _ _
  · rfl

theorem overReported_obj (taken : Bool) (s : State) (h : a ≠ Obj.RING_DROPPED) : (overReported taken s).obj a i = s.obj a i := by
  unfold overReported
  split
  · exact raiseS_obj h _ _ _
  · rfl

/-- What Steady's record shows in its objects. -/
theorem showSteady_shows (s : State) : (showSteady s).obj Obj.GRANTED_HEATER 0 = s.granted ∧
    (showSteady s).objN Obj.CEILING_ACTIVE 0 = boolNat s.ceiling ∧ (showSteady s).objN Obj.STEADY_STATE 0 = boolNat s.steady.frozen := by
  unfold showSteady
  dsimp only
  refine ⟨?_, ?_, ?_⟩
  · simp only [State.setObjN]
    rw [obj_setObj_addr _ (by decide), obj_setObj_addr _ (by decide), obj_setObj_addr _ (by decide), obj_setObj_addr _ (by decide),
      obj_setObj_addr _ (by decide), obj_setObj]
  · rw [objN_setObjN_addr (by decide), objN_setObjN_self]
    rfl
  · rw [objN_setObjN_self]
    rfl

/-- Where no upset holds an accounting back, it leaves its figures and shows them (R284, R285, R289). -/
theorem heaterScan_accounts (hf : s.steady.frozen = false) (hu : s.steady.upsets = []) (ht : t = heaterScan s) :
    t.obj Obj.HEATER_POWER 0 = s.heaterSum ∧ t.granted = (drawGrants s).granted ∧ t.obj Obj.GRANTED_HEATER 0 = t.granted ∧
      t.steady.budget = (if s.steady.pendingBudget = true then s.obj Obj.HEATER_BUDGET 0 else s.steady.budget) ∧
      t.steady.ceiling = (if s.steady.ceiling = true then decide (1000 * t.steady.budget - 500000 ≤ s.heaterSum + t.granted)
        else decide (1000 * t.steady.budget ≤ s.heaterSum + t.granted)) ∧
      t.objN Obj.CEILING_ACTIVE 0 = boolNat t.steady.ceiling := by
  obtain ⟨reserve, pb, hb⟩ := budgetsTaken_steady s
  have hframe : Frame [.objs, .ex, .sorus, .steady] s (budgetsTaken s) := (budgetsTaken_frame s).mono (by decide)
  have hobjs : (budgetsTaken s).objs = s.objs := (budgetsTaken_frame s).objs rfl
  have hsum : (budgetsTaken s).heaterSum = s.heaterSum := heaterSum_of_frame hframe fun u => objN_of_objs hobjs _ _
  have hbase := basePower_of_frame hframe fun u => objN_of_objs hobjs _ _
  have hdrawn : (drawGrants (budgetsTaken s)).granted = (drawGrants s).granted := by
    unfold State.granted
    rw [drawGrants_steady, drawGrants_steady, hbase, hb]
  obtain ⟨hsteady, hpower⟩ := accountScan_accounts (budgetsTaken s)
  have hend : (overReported s.steady.newBudget (accountScan (budgetsTaken s))).steady =
      { (drawGrants (budgetsTaken s)).steady with ceiling := ceilingNow (budgetsTaken s) } := (overReported_steady _ _).trans hsteady
  have hshown : (overReported s.steady.newBudget (accountScan (budgetsTaken s))).obj Obj.HEATER_POWER 0 = s.heaterSum := by
    rw [overReported_obj _ _ (by decide), hpower, hsum]
  have hcnow : ceilingNow (budgetsTaken s) = if s.steady.ceiling = true then
      decide (1000 * (budgetsTaken s).steady.budget - 500000 ≤ s.heaterSum + (drawGrants s).granted)
      else decide (1000 * (budgetsTaken s).steady.budget ≤ s.heaterSum + (drawGrants s).granted) := by
    unfold ceilingNow
    rw [hsum, hdrawn, hb]
  rw [heaterScan_eq s hf hu] at ht
  generalize overReported s.steady.newBudget (accountScan (budgetsTaken s)) = w at ht hend hshown
  obtain ⟨hg, hc, -⟩ := showSteady_shows w
  have hgranted : w.granted = (drawGrants s).granted := by
    rw [← hdrawn]
    unfold State.granted
    rw [hend]
  have hbudget : w.steady.budget = (budgetsTaken s).steady.budget := by
    rw [hend]
    rfl
  have hfrozen : w.steady.frozen = false := by
    rw [hend]
    show (budgetsTaken s).steady.frozen = false
    rw [hb]
    exact hf
  have hceil : w.steady.ceiling = ceilingNow (budgetsTaken s) := by rw [hend]
  subst ht
  refine ⟨(showSteady_power w).trans hshown, hgranted, hg, ?_, ?_, ?_⟩
  · exact hbudget.trans (by rw [hb])
  · show w.steady.ceiling = (if s.steady.ceiling = true then decide (1000 * w.steady.budget - 500000 ≤ s.heaterSum + w.granted)
        else decide (1000 * w.steady.budget ≤ s.heaterSum + w.granted))
    rw [hceil, hcnow, hgranted, hbudget]
  · rw [hc]
    unfold State.ceiling
    rw [hfrozen, Bool.or_false]
    rfl

/-! ### A release (R288) -/

/-- In service of its queue, Steady only adds grants, and the copies go on agreeing. -/
theorem serveList_keeps {k : GKind} (hf : s.steady.frozen = false) (hu : s.steady.upsets = []) (l : List GReq)
    (h : s.holds k src = true) : (serveList l s).holds k src = true := by
  induction l generalizing s with
  | nil => exact h
  | cons r l ih =>
    unfold serveList
    split
    · rw [steadyDecides_sound hf hu]
      obtain ⟨ring, hring⟩ := showPassed_steady s r
      refine ih ?_ ?_ ?_
      · rw [issueGrant_steady, hring]
        exact hf
      · rw [issueGrant_steady, hring]
        exact hu
      · unfold State.holds at h ⊢
        rw [issueGrant_steady, hring]
        exact List.any_append.trans (by rw [h]; rfl)
    · exact h

theorem grantRelease_serves (hh : s.holds k src = true) (hf : s.steady.frozen = false) (hu : s.steady.upsets = []) :
    ∃ t, exec (.grantRelease k src) s = .next t ∧
      match s.steady.queue with
      | [] =>
        t.steady.grants = (s.steady.grants.filter fun g => !(g.kind == k && g.source == src)) ∧ t.steady.queue = [] ∧
          t.obj Obj.GRANTED_HEATER 0 = t.granted
      | r :: rest =>
        if (dropGrant s k src).mayServe r = true then t.holds r.kind r.source = true
        else t.steady.queue = r :: rest ∧ t.holds k src = false := by
  have hrel : releaseGrant s k src = showSteady (serveList s.steady.queue (dropGrant s k src)) := by
    unfold releaseGrant
    rw [if_pos hh, steadyDecides_sound hf hu]
    have hnot : ¬ (dropGrant s k src).steady.frozen = true := fun e => Bool.false_ne_true (hf.symm.trans e)
    exact if_neg hnot
  have hrun : exec (.grantRelease k src) s = finish s (showSteady (serveList s.steady.queue (dropGrant s k src))) := congrArg (finish s) hrel
  have hdrop : (dropGrant s k src).steady = { s.steady with grants := s.steady.grants.filter fun g => !(g.kind == k && g.source == src) } := rfl
  generalize dropGrant s k src = w at hrun hdrop ⊢
  refine ⟨_, hrun, ?_⟩
  have hwf : w.steady.frozen = false := by
    rw [hdrop]
    exact hf
  have hwu : w.steady.upsets = [] := by
    rw [hdrop]
    exact hu
  cases hq : s.steady.queue with
  | nil =>
    have hserved : (serveList [] w).steady = { w.steady with queue := [] } := rfl
    generalize serveList [] w = x at hserved
    refine ⟨?_, ?_, (showSteady_shows x).1⟩
    · show x.steady.grants = _
      rw [hserved, hdrop]
    · show x.steady.queue = _
      rw [hserved]
  | cons r rest =>
    dsimp only
    by_cases hm : w.mayServe r = true
    · rw [if_pos hm]
      have hserved : serveList (r :: rest) w = serveList rest (issueGrant w r) := by
        rw [serveList, if_pos hm, steadyDecides_sound hwf hwu]
        rfl
      obtain ⟨ring, hring⟩ := showPassed_steady w r
      have hholds := serveList_keeps (s := issueGrant w r) (k := r.kind) (src := r.source)
        (by rw [issueGrant_steady, hring]; exact hwf) (by rw [issueGrant_steady, hring]; exact hwu) rest (issueGrant_holds w r)
      rw [← hserved] at hholds
      exact hholds
    · rw [if_neg hm]
      have hserved : (serveList (r :: rest) w).steady = { w.steady with queue := r :: rest } := by
        rw [serveList, if_neg hm]
      generalize serveList (r :: rest) w = x at hserved
      refine ⟨?_, ?_⟩
      · show x.steady.queue = _
        rw [hserved]
      · show (x.steady.grants.any fun g => g.kind == k && g.source == src && !g.released) = false
        rw [hserved, hdrop]
        refine List.any_eq_false.mpr fun g hg => ?_
        obtain ⟨-, hne⟩ := List.mem_filter.mp hg
        rw [Bool.not_eq_true'] at hne
        rw [hne, Bool.false_and]
        exact Bool.false_ne_true

theorem grantRelease_held (hh : s.holds k src = true) (hf : s.steady.frozen = true) :
    ∃ t, exec (.grantRelease k src) s = .next t ∧ t.holds k src = false ∧ t.granted = s.granted ∧ t.jumpCharge = s.jumpCharge ∧
      t.steady.queue = s.steady.queue ∧ Frame [.ex, .steady] s t := by
  have hrel : releaseGrant s k src = markReleased s k src := by
    unfold releaseGrant steadyDecides
    rw [if_pos hh, if_pos hf]
    rfl
  have hmark (g : Grant) : (if g.kind == k && g.source == src then { g with released := true } else g).left = g.left ∧
      (if g.kind == k && g.source == src then { g with released := true } else g).kind = g.kind ∧
      (if g.kind == k && g.source == src then { g with released := true } else g).charge = g.charge := by
    split <;> exact ⟨rfl, rfl, rfl⟩
  have hholds : (markReleased s k src).holds k src = false := by
    unfold State.holds markReleased
    refine List.any_eq_false.mpr fun g hg => ?_
    obtain ⟨x, -, rfl⟩ := List.mem_map.mp hg
    split
    · simp
    case isFalse hne =>
      rw [Bool.not_eq_true] at hne
      rw [hne]
      exact Bool.false_ne_true
  have hgranted : (markReleased s k src).granted = s.granted := by
    unfold State.granted markReleased
    dsimp only
    rw [List.map_map]
    exact congrArg (fun l => List.foldl (· + ·) 0 l) (List.map_congr_left fun g _ => (hmark g).1)
  have hcharge : (markReleased s k src).jumpCharge = s.jumpCharge := by
    unfold State.jumpCharge markReleased
    dsimp only
    rw [List.filter_map, List.map_map]
    refine congrArg (fun l => List.foldl (· + ·) 0 l) ?_
    have hfilter : (s.steady.grants.filter ((fun g : Grant => g.kind == .wrap) ∘ fun g =>
        if g.kind == k && g.source == src then { g with released := true } else g)) = s.steady.grants.filter fun g => g.kind == .wrap :=
      List.filter_congr fun g _ => by rw [Function.comp_apply, (hmark g).2.1]
    rw [hfilter]
    exact List.map_congr_left fun g _ => (hmark g).2.2
  have hrun : exec (.grantRelease k src) s = finish s (markReleased s k src) := congrArg (finish s) hrel
  have hframe : Frame [.ex, .steady] s (markReleased s k src) := .set_steady (by decide) (.refl s)
  have hqueue : (markReleased s k src).steady.queue = s.steady.queue := rfl
  generalize markReleased s k src = u at hrun hholds hgranted hcharge hframe hqueue
  exact ⟨_, hrun, hholds, hgranted, hcharge, hqueue, frame_sealed hframe (by decide)⟩

theorem grantRelease_idle (hh : s.holds k src = false) : ∃ t, exec (.grantRelease k src) s = .next t ∧ Frame [.ex] s t := by
  have hrel : releaseGrant s k src = s := if_neg (by rw [hh]; exact Bool.false_ne_true)
  exact ⟨_, congrArg (finish s) hrel, frame_sealed (.refl s) (by decide)⟩

/-! ### HEATER_BUDGET and LOOP_RESERVE (R290) -/

theorem heaterBudget_waits {addr : Nat} {reserve : Bool} {v : Int} (ha : addr = if reserve then Obj.LOOP_RESERVE else Obj.HEATER_BUDGET)
    (h : s.accepts sess addr 0 v = true) :
    ∃ t, exec (.heaterBudget sess reserve v) s = .next t ∧ t.answered sess 0 addr 0 (.ack []) ∧ t.obj addr 0 = v ∧
      t.steady = { s.steady with pendingBudget := true, newBudget := s.steady.newBudget || !reserve } ∧
      Frame [.objs, .ex, .steady] s t := by
  have hrun : exec (.heaterBudget sess reserve v) s = finish s (hostWrite s sess addr 0 v (effHeaterBudget reserve v)) := by
    rw [ha]
    rfl
  have hseen := seen_frame s sess
  have hsteady : (seen s sess).steady = s.steady := hseen.steady rfl
  have hval : (effHeaterBudget reserve v (seen s sess)).1.obj addr 0 = v := by
    rw [ha]
    exact obj_setObj _ _ _ _
  have hnew : (effHeaterBudget reserve v (seen s sess)).1.steady =
      { s.steady with pendingBudget := true, newBudget := s.steady.newBudget || !reserve } := by
    rw [← hsteady]
    rfl
  have hframe : Frame [.objs, .steady] (seen s sess) (effHeaterBudget reserve v (seen s sess)).1 := effHeaterBudget_frame _ _ _
  obtain ⟨hans, hrest⟩ := hostWrite_acks (eff := effHeaterBudget reserve v) h rfl (opens_of_frame (effHeaterBudget_frame _ _ _) (by decide))
  generalize effHeaterBudget reserve v (seen s sess) = u at hval hnew hframe hrest
  exact ⟨_, hrun, hans, (obj_of_objs (hrest.objs rfl) _ _).trans hval, (hrest.steady rfl).trans hnew,
    frame_sealed (.trans (hseen.mono (by decide)) (.trans (hframe.mono (by decide)) (hrest.mono (by decide)))) (by decide)⟩

/-! ### GRANT_DECIDE (R293, R294) -/

theorem reqAge_congr (h : t.steady = s.steady) (seq : Nat) : t.reqAge seq = s.reqAge seq := by
  unfold State.reqAge
  rw [h]

theorem insertOld_congr (h : t.steady = s.steady) (e : Nat × RingReq) (l : List (Nat × RingReq)) : t.insertOld e l = s.insertOld e l := by
  induction l with
  | nil => rfl
  | cons x l ih =>
    unfold State.insertOld
    rw [reqAge_congr h, reqAge_congr h, ih]

theorem undecided_congr (h : t.steady = s.steady) : t.undecided = s.undecided := by
  unfold State.undecided
  rw [h, show t.insertOld = s.insertOld from funext fun e => funext fun l => insertOld_congr h e l]

theorem decided_seen (s : State) (sess seq : Nat) (through : Bool) : (seen s sess).decided seq through = s.decided seq through := by
  have h : (seen s sess).steady = s.steady := (seen_frame s sess).steady rfl
  unfold State.decided
  rw [h, undecided_congr h]
  simp only [reqAge_congr h]

theorem hostMode_seen (s : State) (sess n : Nat) : (seen s sess).hostMode n = s.hostMode n := by
  rw [seen_eq]
  generalize (seen s sess).ex = e
  rfl

theorem hostFits_seen (s : State) (sess : Nat) (r : GReq) : (seen s sess).hostFits r = s.hostFits r := by
  rw [seen_eq]
  generalize (seen s sess).ex = e
  rfl

/-- A GRANT_DECIDE that names no request it can decide is refused. -/
theorem effGrantDecide_refuses {through : Bool} (h : s.hostMode 5 = false ∨ s.decided seq through = none) (grant : Bool) :
    effGrantDecide seq through grant s = (s, .nak (if s.hostMode 5 = true then .unknown else .state)) := by
  unfold effGrantDecide
  cases hm : s.hostMode 5 with
  | false => rfl
  | true =>
    rw [h.resolve_left (by rw [hm]; simp)]
    rfl

theorem grantDecide_refused {through : Bool} {grant : Bool} {c : Instr} (hc : reqOf c = none)
    (ha : s.acceptsOctets sess Obj.GRANT_DECIDE 0 = true) (h : s.hostMode 5 = false ∨ s.decided seq through = none)
    (hrun : exec c s = finish s (hostOctets s c sess Obj.GRANT_DECIDE 0 (effGrantDecide seq through grant))) :
    ∃ t, exec c s = .next t ∧ Frame [.ex] s t ∧
      t.answered sess 0 Obj.GRANT_DECIDE 0 (.nak (if s.hostMode 5 = true then .unknown else .state) 0 0) := by
  rw [← hostMode_seen s sess, ← decided_seen s sess] at h
  have heff := effGrantDecide_refuses h grant
  rw [hostMode_seen] at heff
  obtain ⟨hans, hframe⟩ := hostOctets_naks hc ha (by decide) (congrArg Prod.snd heff) (by
    rw [heff]
    exact .refl _)
  rw [heff] at hframe
  exact ⟨_, hrun, frame_sealed ((seen_frame s sess).trans hframe) (by decide), hans⟩

/-- A GRANT_DECIDE of one waiting request decides that one. -/
theorem effGrantDecide_one {through grant : Bool} {e : RingReq} (hm : s.hostMode 5 = true) (hd : s.decided seq through = some [(n, e)]) :
    effGrantDecide seq through grant s = (refill (decideReq State.hostFits grant s n e.req), .ack) := by
  unfold effGrantDecide
  rw [hm, hd]
  rfl

theorem refill_idle (h : s.steady.overflow = []) : refill s = { s with steady := { s.steady with overflow := [] } } := by
  unfold refill
  rw [h]
  rfl

/-- A request that waits for no PREPARE or COMMIT is no one's. -/
theorem heldFor_none (h : r.kind ≠ .commit) (s : State) : s.heldFor r = none := if_neg h

theorem grantReq_issues (h : r.kind ≠ .commit) (s : State) : grantReq s r = (issueGrant s r, true) := by
  unfold grantReq
  rw [heldFor_none h]
  exact congrArg (fun w => (w, true)) (if_neg h)

theorem refuseReq_counts (h : r.kind ≠ .commit) (hc : s.cal.run = none) : refuseReq s r = s.incSat Obj.GRANTS_REFUSED 0 := by
  have hcal : (s.incSat Obj.GRANTS_REFUSED 0).cal.run = none := hc
  unfold refuseReq
  dsimp only
  rw [heldFor_none h, hcal]

theorem closeReq_state (s : State) (n st : Nat) : (closeReq s n st).objN Obj.GREQ_STATE n = st := objN_setObjN_self _ _ _ _

/-- Closing a ring entry changes the ring alone. -/
theorem closeReq_steady (s : State) (n st : Nat) : ∃ ring, (closeReq s n st).steady = { s.steady with ring := ring } := by
  unfold closeReq
  dsimp only
  split <;> exact ⟨_, rfl⟩

/-- The state in which a waiting request has been granted. -/
theorem decideReq_grants (hk : r.kind ≠ .commit) (hf : s.steady.frozen = false) (hu : s.steady.upsets = []) (hfit : s.hostFits r = true) :
    (decideReq State.hostFits true s n r).steady.overflow = s.steady.overflow ∧
    (decideReq State.hostFits true s n r).objN Obj.GREQ_STATE n = 1 ∧ (decideReq State.hostFits true s n r).holds r.kind r.source = true := by
  have heq : decideReq State.hostFits true s n r = closeReq (issueGrant (closeReq s n 1) r) n 1 := by
    unfold decideReq
    rw [if_pos rfl, steadyDecides_sound hf hu]
    dsimp only
    rw [hfit]
    unfold grantEntry
    rw [grantReq_issues hk]
    rfl
  have hholds := issueGrant_holds (closeReq s n 1) r
  obtain ⟨a, ha⟩ := closeReq_steady s n 1
  obtain ⟨b, hb⟩ := showPassed_steady (closeReq s n 1) r
  have hover : (issueGrant (closeReq s n 1) r).steady.overflow = s.steady.overflow := by
    rw [issueGrant_steady, hb, ha]
  rw [heq]
  generalize issueGrant (closeReq s n 1) r = w at hholds hover
  obtain ⟨c, hc⟩ := closeReq_steady w n 1
  refine ⟨by rw [hc]; exact hover, closeReq_state _ _ _, ?_⟩
  unfold State.holds
  rw [hc]
  exact hholds

/-- A waiting request refused: no grant moves, and the refusal is counted. -/
structure Declined (n : Nat) (s t : State) : Prop where
  shown : t.objN Obj.GREQ_STATE n = 2
  grants : t.steady.grants = s.steady.grants
  overflow : t.steady.overflow = s.steady.overflow
  counted : t.objN Obj.GRANTS_REFUSED 0 = min u32Max (s.objN Obj.GRANTS_REFUSED 0 + 1)

theorem refuseReq_declines (hk : r.kind ≠ .commit) (hc : s.cal.run = none) : Declined n s (refuseReq (closeReq s n 2) r) := by
  have heq : refuseReq (closeReq s n 2) r = (closeReq s n 2).incSat Obj.GRANTS_REFUSED 0 :=
    refuseReq_counts hk ((congrArg Cal.run ((closeReq_frame s n 2).cal rfl)).trans hc)
  obtain ⟨ring, hring⟩ := closeReq_steady s n 2
  rw [heq]
  refine ⟨?_, ?_, ?_, ?_⟩
  · exact (objN_setObj_addr _ (by decide)).trans (closeReq_state s n 2)
  · show (closeReq s n 2).steady.grants = _
    rw [hring]
  · show (closeReq s n 2).steady.overflow = _
    rw [hring]
  · rw [objN_incSat_self]
    exact congrArg (fun x => min u32Max (x + 1)) (congrArg Int.toNat (closeReq_objs s n 2 _ _ (by decide)))

theorem decideReq_refuses (hk : r.kind ≠ .commit) (hc : s.cal.run = none) : Declined n s (decideReq State.hostFits false s n r) :=
  refuseReq_declines hk hc

theorem decideReq_declines (hk : r.kind ≠ .commit) (hf : s.steady.frozen = false) (hu : s.steady.upsets = []) (hfit : s.hostFits r = false)
    (hc : s.cal.run = none) : Declined n s (decideReq State.hostFits true s n r) := by
  have heq : decideReq State.hostFits true s n r = refuseReq (closeReq s n 2) r := by
    unfold decideReq
    rw [if_pos rfl, steadyDecides_sound hf hu]
    dsimp only
    rw [hfit]
    rfl
  rw [heq]
  exact refuseReq_declines hk hc

theorem decideReq_opens {grant : Bool} (hk : r.kind ≠ .commit) (hc : s.cal.run = none) (hf : grant = true → s.steady.frozen = false)
    (hu : grant = true → s.steady.upsets = []) : Opens s (decideReq State.hostFits grant s n r) := by
  have hrefuse : Opens s (refuseReq (closeReq s n 2) r) := by
    rw [refuseReq_counts hk ((congrArg Cal.run ((closeReq_frame s n 2).cal rfl)).trans hc)]
    exact .frame (State.incSat_frame _ _ _) (by decide) (.frame (closeReq_frame _ _ _) (by decide) (.refl s))
  cases grant with
  | false => exact hrefuse
  | true =>
    unfold decideReq
    rw [if_pos rfl, steadyDecides_sound (hf rfl) (hu rfl)]
    dsimp only
    split
    · unfold grantEntry
      rw [grantReq_issues hk]
      exact .frame (closeReq_frame _ _ _) (by decide) (.frame (issueGrant_frame _ _) (by decide) (.frame (closeReq_frame _ _ _) (by decide)
        (.refl s)))
    · exact hrefuse

section

variable {through grant : Bool} {e : RingReq} {c : Instr}

/-- A GRANT_DECIDE of one waiting request is acknowledged, and leaves what its decision leaves. -/
theorem grantDecide_decides (hreq : reqOf c = none) (ha : s.acceptsOctets sess Obj.GRANT_DECIDE 0 = true) (hm : s.hostMode 5 = true)
    (hd : s.decided seq through = some [(n, e)]) (hk : e.req.kind ≠ .commit) (hc : s.cal.run = none)
    (hf : grant = true → s.steady.frozen = false) (hu : grant = true → s.steady.upsets = [])
    (hover : (decideReq State.hostFits grant (seen s sess) n e.req).steady.overflow = [])
    (hrun : exec c s = finish s (hostOctets s c sess Obj.GRANT_DECIDE 0 (effGrantDecide seq through grant))) :
    ∃ t, exec c s = .next t ∧ t.answered sess 0 Obj.GRANT_DECIDE 0 (.ack []) ∧
      t.objs = (decideReq State.hostFits grant (seen s sess) n e.req).objs ∧
      t.steady.grants = (decideReq State.hostFits grant (seen s sess) n e.req).steady.grants := by
  have hseen := seen_frame s sess
  have hsteady : (seen s sess).steady = s.steady := hseen.steady rfl
  have hcal : (seen s sess).cal.run = none := (congrArg Cal.run (hseen.cal rfl)).trans hc
  have heff := effGrantDecide_one (s := seen s sess) (grant := grant) ((hostMode_seen s sess 5).trans hm) ((decided_seen s sess seq through).trans hd)
  have hopens : Opens (seen s sess) (refill (decideReq State.hostFits grant (seen s sess) n e.req)) :=
    .step (refill_opens _) (decideReq_opens hk hcal (fun g => by rw [hsteady]; exact hf g) fun g => by rw [hsteady]; exact hu g)
  obtain ⟨hans, hframe⟩ := hostOctets_acks hreq ha (congrArg Prod.snd heff) (by
    rw [heff]
    exact hopens)
  rw [heff, refill_idle hover] at hframe
  generalize decideReq State.hostFits grant (seen s sess) n e.req = w at hframe
  exact ⟨_, hrun, hans, hframe.objs rfl, (congrArg Steady.grants (hframe.steady rfl)).trans rfl⟩

theorem grantDecide_grants (ha : s.acceptsOctets sess Obj.GRANT_DECIDE 0 = true) (hm : s.hostMode 5 = true)
    (hd : s.decided seq through = some [(n, e)]) (hk : e.req.kind ≠ .commit) (ho : s.steady.overflow = [])
    (hf : s.steady.frozen = false) (hu : s.steady.upsets = []) (hc : s.cal.run = none) :
    ∃ t, exec (.grantDecideGrant sess seq through) s = .next t ∧ t.answered sess 0 Obj.GRANT_DECIDE 0 (.ack []) ∧
      if s.hostFits e.req = true then
        t.objN Obj.GREQ_STATE n = 1 ∧ t.holds e.req.kind e.req.source = true
      else
        t.objN Obj.GREQ_STATE n = 2 ∧ t.steady.grants = s.steady.grants ∧
          t.objN Obj.GRANTS_REFUSED 0 = min u32Max (s.objN Obj.GRANTS_REFUSED 0 + 1) := by
  have hseen := seen_frame s sess
  have hsteady : (seen s sess).steady = s.steady := hseen.steady rfl
  have hcal : (seen s sess).cal.run = none := (congrArg Cal.run (hseen.cal rfl)).trans hc
  by_cases hfit : s.hostFits e.req = true
  · obtain ⟨hover, hstate, hholds⟩ := decideReq_grants (s := seen s sess) (n := n) hk (by rw [hsteady]; exact hf) (by rw [hsteady]; exact hu)
      ((hostFits_seen s sess e.req).trans hfit)
    rw [hsteady] at hover
    obtain ⟨t, hrun, hans, hobjs, hgrants⟩ := grantDecide_decides (c := .grantDecideGrant sess seq through) (grant := true) rfl ha hm hd hk hc
      (fun _ => hf) (fun _ => hu) (hover.trans ho) rfl
    refine ⟨t, hrun, hans, ?_⟩
    rw [if_pos hfit]
    refine ⟨(objN_of_objs hobjs _ _).trans hstate, ?_⟩
    unfold State.holds at hholds ⊢
    rw [hgrants]
    exact hholds
  · obtain ⟨hstate, hkept, hover, hcount⟩ := decideReq_declines (s := seen s sess) (n := n) hk (by rw [hsteady]; exact hf)
      (by rw [hsteady]; exact hu) ((hostFits_seen s sess e.req).trans (Bool.not_eq_true _ ▸ hfit)) hcal
    rw [hsteady] at hover
    obtain ⟨t, hrun, hans, hobjs, hgrants⟩ := grantDecide_decides (c := .grantDecideGrant sess seq through) (grant := true) rfl ha hm hd hk hc
      (fun _ => hf) (fun _ => hu) (hover.trans ho) rfl
    refine ⟨t, hrun, hans, ?_⟩
    rw [if_neg hfit]
    refine ⟨(objN_of_objs hobjs _ _).trans hstate, (hgrants.trans hkept).trans (congrArg Steady.grants hsteady), ?_⟩
    refine ((objN_of_objs hobjs _ _).trans hcount).trans ?_
    exact congrArg (fun x => min u32Max (x + 1)) (objN_of_objs (hseen.objs rfl) _ _)

theorem grantDecide_refuses (ha : s.acceptsOctets sess Obj.GRANT_DECIDE 0 = true) (hm : s.hostMode 5 = true)
    (hd : s.decided seq through = some [(n, e)]) (hk : e.req.kind ≠ .commit) (ho : s.steady.overflow = []) (hc : s.cal.run = none) :
    ∃ t, exec (.grantDecideRefuse sess seq through) s = .next t ∧ t.answered sess 0 Obj.GRANT_DECIDE 0 (.ack []) ∧
      t.objN Obj.GREQ_STATE n = 2 ∧ t.steady.grants = s.steady.grants ∧
      t.objN Obj.GRANTS_REFUSED 0 = min u32Max (s.objN Obj.GRANTS_REFUSED 0 + 1) := by
  have hseen := seen_frame s sess
  have hsteady : (seen s sess).steady = s.steady := hseen.steady rfl
  have hcal : (seen s sess).cal.run = none := (congrArg Cal.run (hseen.cal rfl)).trans hc
  obtain ⟨hstate, hkept, hover, hcount⟩ := decideReq_refuses (s := seen s sess) (n := n) hk hcal
  rw [hsteady] at hover
  obtain ⟨t, hrun, hans, hobjs, hgrants⟩ := grantDecide_decides (c := .grantDecideRefuse sess seq through) (grant := false) rfl ha hm hd hk hc
    (fun h => absurd h Bool.false_ne_true) (fun h => absurd h Bool.false_ne_true) (hover.trans ho) rfl
  refine ⟨t, hrun, hans, (objN_of_objs hobjs _ _).trans hstate, (hgrants.trans hkept).trans (congrArg Steady.grants hsteady), ?_⟩
  refine ((objN_of_objs hobjs _ _).trans hcount).trans ?_
  exact congrArg (fun x => min u32Max (x + 1)) (objN_of_objs (hseen.objs rfl) _ _)

end

/-! ### STEADY_RESET (R296) -/

theorem ringWrite_steady (s : State) (n : Nat) (r : GReq) :
    ∃ ring next, (ringWrite s n r).steady = { s.steady with ring := ring, nextSeq := next } := by
  unfold ringWrite
  exact ⟨_, _, raiseS_steady _ _ _⟩

/-- Filling the ring changes the ring and the requests that wait for it alone. -/
theorem refillRing_steady (l : List GReq) (s : State) :
    ∃ ring next late, (refillRing l s).steady = { s.steady with ring := ring, nextSeq := next, overflow := late } := by
  induction l generalizing s with
  | nil => exact ⟨_, _, _, rfl⟩
  | cons r l ih =>
    unfold refillRing
    split
    case h_1 n _ =>
      obtain ⟨ring, next, hw⟩ := ringWrite_steady s n r
      obtain ⟨ring', next', late, h⟩ := ih (ringWrite s n r)
      exact ⟨ring', next', late, by rw [h, hw]⟩
    case h_2 => exact ⟨_, _, _, rfl⟩

/-- The state with what Steady's queue took over from the ring refused there, FROZEN ended and the queue emptied. -/
def thawed (s : State) : State :=
  let s := (s.steady.ring.filter fun e => e.2.state == 3).foldl (fun s e => closeReq s e.1 2) s
  { s with steady := { s.steady with frozen := false, queue := [] } }

theorem closeReqs_steady (l : List (Nat × RingReq)) (s : State) :
    ∃ ring, (l.foldl (fun s e => closeReq s e.1 2) s).steady = { s.steady with ring := ring } := by
  induction l generalizing s with
  | nil => exact ⟨_, rfl⟩
  | cons e l ih =>
    obtain ⟨a, ha⟩ := closeReq_steady s e.1 2
    obtain ⟨b, hb⟩ := ih (closeReq s e.1 2)
    exact ⟨b, by rw [List.foldl_cons, hb, ha]⟩

theorem thawed_steady (s : State) : ∃ ring, (thawed s).steady = { s.steady with ring := ring, frozen := false, queue := [] } := by
  obtain ⟨ring, h⟩ := closeReqs_steady (s.steady.ring.filter fun e => e.2.state == 3) s
  exact ⟨ring, congrArg (fun x : Steady => { x with frozen := false, queue := [] }) h⟩

theorem thawed_frame (s : State) : Frame [.objs, .steady] s (thawed s) :=
  .set_steady (by decide) (.foldl (fun _ _ => .step (closeReq_frame _ _ _) (by decide) (.refl _)) (.refl s))

theorem thawed_objs (s : State) : ObjsOnly steadyObjs s (thawed s) :=
  .set_steady (.foldl (fun s e => closeReq_objs s e.1 2) (.refl s))

/-- Without a calibration in its queue, STEADY_RESET ends FROZEN, the accounting rebuilt. -/
theorem effSteadyReset_resets (hf : s.steady.frozen = true) (hq : ∀ r ∈ s.steady.queue, r.kind ≠ .calibration) :
    effSteadyReset s = (showSteady (refill ((rebuildHeat (thawed s)).unfault .steady)), .ack) := by
  have hcals : s.steady.queue.filter (fun r => r.kind == .calibration) = [] :=
    List.filter_eq_nil_iff.mpr fun r hr => by simpa using hq r hr
  unfold effSteadyReset
  rw [if_neg (by rw [hf]; simp), hcals]
  rfl

theorem steadyReset_answers (h : s.accepts sess Obj.STEADY_RESET 0 1 = true) (hq : ∀ r ∈ s.steady.queue, r.kind ≠ .calibration) :
    ∃ t, exec (.steadyReset sess) s = .next t ∧
      if s.steady.frozen = true then
        t.answered sess 0 Obj.STEADY_RESET 0 (.ack []) ∧ t.steady.frozen = false ∧ t.steady.queue = [] ∧
          t.objN Obj.HEATER_POWER 0 = s.heaterSum ∧ .steady ∉ t.dev.faults ∧ t.objN Obj.STEADY_STATE 0 = 0 ∧
          t.steady.grants.map (·.source) = (s.steady.grants.filter fun g => !g.released).map (·.source)
      else t.answered sess 0 Obj.STEADY_RESET 0 (.nak .state 0 0) ∧ Frame [.ex] s t := by
  have hseen := seen_frame s sess
  have hsteady : (seen s sess).steady = s.steady := hseen.steady rfl
  have hopens := effSteadyReset_opens (seen s sess)
  refine ⟨_, rfl, ?_⟩
  by_cases hf : s.steady.frozen = true
  · rw [if_pos hf]
    have heff := effSteadyReset_resets (s := seen s sess) (by rw [hsteady]; exact hf) (by rw [hsteady]; exact hq)
    obtain ⟨hans, hframe⟩ := hostWrite_acks h (congrArg Prod.snd heff) hopens
    rw [heff] at hframe
    obtain ⟨ring, hthaw⟩ := thawed_steady (seen s sess)
    have hthawed : Frame [.objs, .ex, .sorus, .steady] s (thawed (seen s sess)) :=
      .trans (hseen.mono (by decide)) ((thawed_frame _).mono (by decide))
    have hsum : (thawed (seen s sess)).heaterSum = s.heaterSum := heaterSum_of_frame hthawed fun u =>
      congrArg Int.toNat ((thawed_objs _ _ _ (by decide)).trans (obj_of_objs (hseen.objs rfl) _ _))
    rw [hsteady] at hthaw
    generalize thawed (seen s sess) = w at hframe hthaw hsum
    have hbuilt : ((rebuildHeat w).unfault .steady).obj Obj.HEATER_POWER 0 = w.heaterSum := obj_setObj _ _ _ _
    have hfault : .steady ∉ ((rebuildHeat w).unfault .steady).dev.faults := fun hm => by
      have h := (List.mem_filter.mp hm).2
      simp at h
    have hgrants : ((rebuildHeat w).unfault .steady).steady.grants.map (·.source) =
        (s.steady.grants.filter fun g => !g.released).map (·.source) := by
      show (drawnBy _ (w.steady.grants.filter fun g => !g.released)).map (·.source) = _
      unfold drawnBy
      rw [List.map_map, hthaw]
      rfl
    have hfrozen : ((rebuildHeat w).unfault .steady).steady.frozen = false := by
      show w.steady.frozen = false
      rw [hthaw]
    have hqueue : ((rebuildHeat w).unfault .steady).steady.queue = [] := by
      show w.steady.queue = []
      rw [hthaw]
    generalize (rebuildHeat w).unfault .steady = v at hframe hbuilt hfault hgrants hfrozen hqueue
    obtain ⟨r', next, late, hfill⟩ := refillRing_steady v.steady.overflow v
    have hdev : (refill v).dev = v.dev := (refill_frame v).dev rfl
    have hpower : (refill v).obj Obj.HEATER_POWER 0 = v.obj Obj.HEATER_POWER 0 := refillRing_objs _ v _ _ (by decide)
    change (refill v).steady = _ at hfill
    generalize refill v = x at hframe hfill hdev hpower
    have hx : x.steady.frozen = false ∧ x.steady.queue = [] ∧ x.steady.grants = v.steady.grants := by
      rw [hfill]
      exact ⟨hfrozen, hqueue, rfl⟩
    obtain ⟨hxf, hxq, hxg⟩ := hx
    have hst := hframe.steady rfl
    refine ⟨hans, ?_, ?_, ?_, ?_, ?_, ?_⟩
    · exact (congrArg Steady.frozen hst).trans hxf
    · exact (congrArg Steady.queue hst).trans hxq
    · have hshown : (showSteady x).obj Obj.HEATER_POWER 0 = s.heaterSum := by
        rw [showSteady_power, hpower, hbuilt, hsum]
      exact (objN_of_objs (hframe.objs rfl) _ _).trans ((congrArg Int.toNat hshown).trans (Int.toNat_natCast _))
    · intro hm
      have hd : (sealed s (hostWrite s sess Obj.STEADY_RESET 0 1 effSteadyReset)).dev = v.dev := (hframe.dev rfl).trans hdev
      rw [hd] at hm
      exact hfault hm
    · refine (objN_of_objs (hframe.objs rfl) _ _).trans ((showSteady_shows x).2.2.trans ?_)
      rw [hxf]
      rfl
    · refine (congrArg (fun y : Steady => y.grants.map (·.source)) hst).trans ?_
      exact (congrArg (List.map (·.source)) hxg).trans hgrants
  · rw [if_neg hf]
    have heff : effSteadyReset (seen s sess) = (seen s sess, .nak .state) := by
      unfold effSteadyReset
      rw [hsteady]
      exact if_pos (by simpa using hf)
    obtain ⟨hans, hframe⟩ := hostWrite_refused h heff (by decide)
    exact ⟨hans, frame_sealed hframe (by decide)⟩

end

/-- Settles O45: the accounting of a scan, a release, a budget's write, the host's decision on one waiting request, and STEADY_RESET. -/
theorem powerArbitration : Obligations.PowerArbitration := by
  unfold Obligations.PowerArbitration
  exact ⟨fun _ _ ht hf hu => heaterScan_accounts hf hu ht, fun _ _ _ hh hf hu => grantRelease_serves hh hf hu,
    fun _ _ _ hh hf => grantRelease_held hh hf, fun _ _ _ hh => grantRelease_idle hh, fun _ _ _ _ _ ha h => heaterBudget_waits ha h,
    fun sess seq through _ ha h =>
      ⟨grantDecide_refused (c := .grantDecideGrant sess seq through) rfl ha h rfl,
        grantDecide_refused (c := .grantDecideRefuse sess seq through) rfl ha h rfl⟩,
    fun _ _ _ _ _ _ ha hm hd hk ho hf hu hc => grantDecide_grants ha hm hd hk ho hf hu hc,
    fun _ _ _ _ _ _ ha hm hd hk ho hc => grantDecide_refuses ha hm hd hk ho hc, fun _ _ h hq => steadyReset_answers h hq⟩

end Sys2Proof.Proofs

/-!
SUPPORT. The proof of temperature conversions, thermal levels, the orderly stop and the hard cut (spec/10_power_thermal.md).
-/

namespace Sys2Proof.Proofs

open Sys2Proof Sys2Proof.Machine Sys2Proof.Laws

section

variable {s t w : State} {a i n g sess : Nat} {reading : Int}

/-! ### A reading (R298, R299) -/

/-- The temperature that a conversion of a site gives. -/
def tempOf (s : State) (n : Nat) (reading : Int) : Int :=
  if 39 ≤ n then s.tdxTemp (n - 39) (s.objN Obj.TDX_MODE (n - 39)) reading.toNat else reading

/-- The readings of a site's mean after a conversion. -/
def lastOf (s : State) (n : Nat) (reading : Int) : List Int := (tempOf s n reading :: (s.sensor n).last).take 8

/-- Whether a conversion is reported: of a TDX input, one that is on and out of its 8 conversions after a change of mode. -/
def Reports (s : State) (n : Nat) : Prop := 39 ≤ n → s.objN Obj.TDX_MODE (n - 39) ≠ 0 ∧ (s.sensor n).unreported = 0

/-- A site's record with the mode its conversion is made in. -/
def modeTaken (s : State) (n : Nat) : Sensor := if 39 ≤ n then { s.sensor n with mode := s.objN Obj.TDX_MODE (n - 39) } else s.sensor n

theorem modeTaken_kept (s : State) (n : Nat) :
    (modeTaken s n).last = (s.sensor n).last ∧ (modeTaken s n).unreported = (s.sensor n).unreported ∧
      (39 ≤ n → (modeTaken s n).mode = s.objN Obj.TDX_MODE (n - 39)) := by
  unfold modeTaken
  by_cases h : 39 ≤ n
  · rw [if_pos h]
    exact ⟨rfl, rfl, fun _ => rfl⟩
  · rw [if_neg h]
    exact ⟨rfl, rfl, fun k => absurd k h⟩

/-- A conversion changes of the thermal record its site alone. -/
theorem takeReading_therm (s : State) (n : Nat) (reading : Int) :
    ∃ m, (takeReading s n reading).therm = { s.therm with sensors := m } := by
  unfold takeReading
  extract_lets x y beyond r out bad good failed last cut was quiet v w
  have hw : ∃ m, w.therm = { s.therm with sensors := m } := by
    simp only [w]
    split <;> exact ⟨_, rfl⟩
  split
  · exact ⟨_, rfl⟩
  · split
    · rw [raiseS_therm]
      exact hw
    · exact hw

/-- A conversion that is reported puts the mean of the last 8 into TEMP. -/
theorem takeReading_temp (h : Reports s n) :
    (takeReading s n reading).obj Obj.TEMP n = openRound 298 ((lastOf s n reading).foldl (· + ·) 0) (lastOf s n reading).length := by
  obtain ⟨hlast, hunrep, hmode⟩ := modeTaken_kept s n
  have htemp : (if 39 ≤ n then s.tdxTemp (n - 39) (modeTaken s n).mode reading.toNat else reading) = tempOf s n reading := by
    unfold tempOf
    by_cases hn : 39 ≤ n
    · rw [if_pos hn, if_pos hn, hmode hn]
    · rw [if_neg hn, if_neg hn]
  have hlen : max 1 ((lastOf s n reading).length : Int) = (lastOf s n reading).length := by
    have : 1 ≤ (lastOf s n reading).length := by simp [lastOf]
    omega
  have hon : ¬ (39 ≤ n ∧ (modeTaken s n).mode = 0) := fun e => (h e.1).1 ((hmode e.1).symm.trans e.2)
  have hquiet : ¬ decide (39 ≤ n ∧ 0 < (modeTaken s n).unreported) = true := fun e => by
    obtain ⟨hn, hpos⟩ := of_decide_eq_true e
    rw [hunrep, (h hn).2] at hpos
    exact Nat.lt_irrefl 0 hpos
  have hmean : (tempOf s n reading :: (modeTaken s n).last).take 8 = lastOf s n reading := by
    rw [hlast]
    rfl
  have hraise (b : Bool) (v : State) (data : List EvItem) : (if b then raiseS v 0x5017 data else v).obj Obj.TEMP n = v.obj Obj.TEMP n := by
    split
    · exact raiseS_obj (by decide) _ _ _
    · rfl
  unfold takeReading
  dsimp only
  change (if 39 ≤ n ∧ (modeTaken s n).mode = 0 then _ else _ : State).obj Obj.TEMP n = _
  rw [if_neg hon, hraise]
  change (if decide (39 ≤ n ∧ 0 < (modeTaken s n).unreported) = true then _ else _ : State).obj Obj.TEMP n = _
  rw [if_neg hquiet]
  refine (obj_setObj _ _ _ _).trans ?_
  change openRound 298 ((((if 39 ≤ n then s.tdxTemp (n - 39) (modeTaken s n).mode reading.toNat else reading) ::
    (modeTaken s n).last).take 8).foldl (· + ·) 0) (max 1 (((if 39 ≤ n then s.tdxTemp (n - 39) (modeTaken s n).mode reading.toNat
    else reading) :: (modeTaken s n).last).take 8).length) = _
  rw [htemp, hmean, hlen]

theorem takeReading_objs (s : State) (n : Nat) (reading : Int) : ObjsOnly [Obj.TEMP, Obj.RING_DROPPED] s (takeReading s n reading) := by
  unfold takeReading
  dsimp only
  refine .ite (fun _ _ _ => rfl) (.ite (.raiseS (by decide) ?_) ?_) <;>
    exact .ite (fun _ _ _ => rfl) (.setObj (by decide) fun _ _ _ => rfl)

/-! ### Levels (R302) -/

theorem ObjsOnly.set_therm {l : List Nat} {v : Thermal} (h : ObjsOnly l s t) : ObjsOnly l s { t with therm := v } := h

/-- What the judgement of a group shows beside the orderly stop it may start. -/
def thermalObjs : List Nat := [Obj.GROUP_TEMP, Obj.THERMAL_STATE, Obj.CASE_TEMP, Obj.CASE_IN_RANGE, Obj.CAL_STORED_GEN] ++ stopObjs

theorem newLevel_congr (h : ∀ b ∈ [Obj.WARN_LEVEL, Obj.THROTTLE_LEVEL, Obj.STOP_LEVEL, Obj.CUT_LEVEL, Obj.THERMAL_HYST], ∀ j,
    t.obj b j = s.obj b j) (g old : Nat) (x : Option Int) : t.newLevel g old x = s.newLevel g old x := by
  have hthr (lv : Nat) : t.threshold g lv = s.threshold g lv := by
    unfold State.threshold
    rw [h _ (by decide), h _ (by decide), h _ (by decide), h _ (by decide)]
  have hleft (y : Int) (lv : Nat) : t.levelLeft g y lv = s.levelLeft g y lv := by
    induction lv with
    | zero => rfl
    | succ lv ih => rw [State.levelLeft, State.levelLeft, hthr, h _ (by decide), ih]
  unfold State.newLevel State.levelReached
  cases x with
  | none => rfl
  | some y => simp only [hthr, hleft]

/-- The state with the thermal state that the levels of the groups make. -/
def stateShown (s : State) : State :=
  ({ s with therm := { s.therm with state := thermalOf s.therm.levels } }).setObjN Obj.THERMAL_STATE 0 (thermalOf s.therm.levels)

theorem followThermal_eq (s : State) : followThermal s =
    if s.therm.state < 3 ∧ 3 ≤ thermalOf s.therm.levels ∧ (s.dev.state = .parked ∨ s.dev.state = .service) then beginDrain (stateShown s)
    else stateShown s := rfl

theorem beginDrain_objs (s : State) : ObjsOnly stopObjs s (beginDrain s) := by
  unfold beginDrain
  extract_lets last u dev v w x y
  have hu : ObjsOnly stopObjs s u := .frame (State.fault_frame _ _) (by decide) ((enter_objs _ _).mono (by decide))
  have hw : ObjsOnly stopObjs s w := (show ObjsOnly stopObjs s v from .set_dev hu).trans ((settleOwed_objs v _ _).mono (by decide))
  have hy : ObjsOnly stopObjs s y := .step (refuseAllHeld_objs _) (by decide) (hw.trans (stopCal_objs _))
  exact .foldl (fun v c => (abandon_objs v c .deviceState).mono (by decide)) hy

/-- What the thermal state's following of the levels leaves. -/
structure Followed (s t : State) : Prop where
  levels : t.therm.levels = s.therm.levels
  state : t.therm.state = thermalOf s.therm.levels
  shown : t.objN Obj.THERMAL_STATE 0 = thermalOf s.therm.levels
  objs : ObjsOnly thermalObjs s t
  stops : s.therm.state < 3 → 3 ≤ thermalOf s.therm.levels → s.dev.state = .parked ∨ s.dev.state = .service →
    t.dev.state = .draining ∧ t.dev.draining = some s.tick ∧ .thermalStop ∈ t.dev.faults

theorem followThermal_follows (s : State) : Followed s (followThermal s) := by
  have hshown : (stateShown s).objN Obj.THERMAL_STATE 0 = thermalOf s.therm.levels := objN_setObjN_self _ _ _ _
  have hobjs : ObjsOnly thermalObjs s (stateShown s) := .setObjN (by decide) fun _ _ _ => rfl
  have hlevels : (stateShown s).therm.levels = s.therm.levels := rfl
  have hstate : (stateShown s).therm.state = thermalOf s.therm.levels := rfl
  have htick : (stateShown s).tick = s.tick := rfl
  rw [followThermal_eq]
  generalize stateShown s = w at hshown hobjs hlevels hstate htick
  split
  case isTrue h =>
    have hdrain := beginDrain_dev w
    rw [htick] at hdrain
    have htherm := (beginDrain_frame w).therm rfl
    exact ⟨(congrArg Thermal.levels htherm).trans hlevels, (congrArg Thermal.state htherm).trans hstate, (congrArg Int.toNat (beginDrain_objs w _ _ (by decide))).trans hshown,
      .step (beginDrain_objs w) (by decide) hobjs, fun _ _ _ => hdrain⟩
  case isFalse h => exact ⟨hlevels, hstate, hshown, hobjs, fun ha hb hc => absurd ⟨ha, hb, hc⟩ h⟩

theorem levelEvent_objs (s : State) (g lv n : Nat) (reading : Int) : ObjsOnly eventObjs s (levelEvent s g lv n reading) := by
  unfold levelEvent
  exact .ite (.raiseS (by decide) (.refl s)) (.ite (.raiseS (by decide) (.refl s)) (.ite (.raiseS (by decide) (.refl s))
    (.raiseS (by decide) (.refl s))))

/-- The state with a group's temperature shown, where it has one, and its level. -/
def levelSet (s : State) (g lv : Nat) (x : Option Int) : State :=
  let u := match x with | some y => s.setObj Obj.GROUP_TEMP g y | none => s
  { u with therm := { u.therm with levels := mset u.therm.levels g lv } }

theorem levelSet_objs (s : State) (g lv : Nat) (x : Option Int) : ObjsOnly thermalObjs s (levelSet s g lv x) := by
  unfold levelSet
  cases x with
  | none => exact fun _ _ _ => rfl
  | some y => exact .trans (.setObj (by decide) (.refl s)) fun _ _ _ => rfl

theorem levelSet_kept (s : State) (g lv : Nat) (x : Option Int) : (levelSet s g lv x).therm = { s.therm with levels := mset s.therm.levels g lv } ∧
    (levelSet s g lv x).dev = s.dev ∧ (levelSet s g lv x).tick = s.tick := by
  unfold levelSet
  cases x <;> exact ⟨rfl, rfl, rfl⟩

/-- The level of a group after a reading. -/
def levelNow (s : State) (g : Nat) : Nat :=
  s.newLevel g (mget 0 s.therm.levels g) (s.hottest (if g = 0 then junctionSensors else hbmSensors))

theorem judgeGroup_eq (s : State) (g n : Nat) (reading : Int) : judgeGroup s g n reading =
    (fun w : State => if mget 0 s.therm.levels g < levelNow s g then followThermal (levelEvent w g (levelNow s g) n reading)
      else if levelNow s g < mget 0 s.therm.levels g then
        raiseS (followThermal w) 0x5014 [.word (followThermal w).therm.state]
      else w) (levelSet s g (levelNow s g) (s.hottest (if g = 0 then junctionSensors else hbmSensors))) := by
  have hlevel (x : Option Int) (u : State) (hu : u = match x with | some y => s.setObj Obj.GROUP_TEMP g y | none => s) :
      u.newLevel g (mget 0 s.therm.levels g) x = s.newLevel g (mget 0 s.therm.levels g) x := by
    refine newLevel_congr (fun b hb j => ?_) _ _ _
    subst hu
    cases x with
    | none => rfl
    | some y => exact obj_setObj_addr _ ((by decide : ∀ b ∈ [Obj.WARN_LEVEL, Obj.THROTTLE_LEVEL, Obj.STOP_LEVEL, Obj.CUT_LEVEL,
        Obj.THERMAL_HYST], b ≠ Obj.GROUP_TEMP) b hb)
  unfold judgeGroup levelNow levelSet
  dsimp only
  generalize s.hottest (if g = 0 then junctionSensors else hbmSensors) = x at hlevel ⊢
  have hl := hlevel x _ rfl
  have hth : (match x with | some y => s.setObj Obj.GROUP_TEMP g y | none => s).therm = s.therm := by
    cases x <;> rfl
  rw [← hl]
  cases x <;> rfl

/-- What the judgement of a group's level leaves. -/
structure GroupJudged (s : State) (g : Nat) (t : State) : Prop where
  levels : t.therm.levels = mset s.therm.levels g (levelNow s g)
  objs : ObjsOnly thermalObjs s t
  follows : mget 0 s.therm.levels g ≠ levelNow s g → t.therm.state = thermalOf t.therm.levels ∧
    t.objN Obj.THERMAL_STATE 0 = t.therm.state
  stops : s.therm.state < 3 → 3 ≤ t.therm.state → mget 0 s.therm.levels g < levelNow s g →
    s.dev.state = .parked ∨ s.dev.state = .service →
    t.dev.state = .draining ∧ t.dev.draining = some s.tick ∧ .thermalStop ∈ t.dev.faults

theorem judgeGroup_judges (s : State) (g n : Nat) (reading : Int) : GroupJudged s g (judgeGroup s g n reading) := by
  obtain ⟨htherm, hdev, htick⟩ := levelSet_kept s g (levelNow s g) (s.hottest (if g = 0 then junctionSensors else hbmSensors))
  have hlevels := congrArg Thermal.levels htherm
  have hstate := congrArg Thermal.state htherm
  have hobjs := levelSet_objs s g (levelNow s g) (s.hottest (if g = 0 then junctionSensors else hbmSensors))
  rw [judgeGroup_eq]
  clear htherm
  generalize levelSet s g (levelNow s g) (s.hottest (if g = 0 then junctionSensors else hbmSensors)) = w at hlevels hstate hobjs hdev htick ⊢
  dsimp only at hlevels hstate ⊢
  split
  case isTrue hup =>
    have hframe := levelEvent_frame w g (levelNow s g) n reading
    have hevent := levelEvent_objs w g (levelNow s g) n reading
    have hvl := (congrArg Thermal.levels (hframe.therm rfl)).trans hlevels
    have hvs := (congrArg Thermal.state (hframe.therm rfl)).trans hstate
    have hvd := (hframe.dev rfl).trans hdev
    have hvk := (hframe.tick rfl).trans htick
    generalize levelEvent w g (levelNow s g) n reading = v at hframe hevent hvl hvs hvd hvk ⊢
    obtain ⟨hxl, hxs, hshown, ho, hstop⟩ := followThermal_follows v
    rw [hvs, hvd, hvk, ← hxs] at hstop
    rw [← hxs] at hshown
    rw [← hxl] at hxs
    exact ⟨hxl.trans hvl, (hobjs.trans (hevent.mono (by decide))).trans ho, fun _ => ⟨hxs, hshown⟩, fun h3 hst _ hserv => hstop h3 hst hserv⟩
  case isFalse hup =>
    split
    case isTrue hdown =>
      obtain ⟨hxl, hxs, hshown, ho, -⟩ := followThermal_follows w
      rw [← hxs] at hshown
      rw [← hxl] at hxs
      generalize followThermal w = x at hxl hxs hshown ho ⊢
      refine ⟨?_, .raiseS (by decide) (hobjs.trans ho), fun _ => ⟨?_, ?_⟩, fun _ _ h => absurd h hup⟩
      · rw [raiseS_therm]
        exact hxl.trans hlevels
      · rw [raiseS_therm]
        exact hxs
      · rw [raiseS_therm]
        exact (congrArg Int.toNat (raiseS_obj (by decide) _ _ _)).trans hshown
    case isFalse hdown =>
      exact ⟨hlevels, hobjs, fun hne => absurd (Nat.le_antisymm (Nat.le_of_not_lt hdown) (Nat.le_of_not_lt hup)) hne,
        fun _ _ h => absurd h hup⟩

/-! ### Conversions (R298 to R302, R306) -/

theorem judgeFlash_therm (s : State) : ∃ ok since, (judgeFlash s).therm = { s.therm with flashOk := ok, flashInSince := since } := by
  unfold judgeFlash
  dsimp only
  split
  · split
    · refine ⟨false, none, ?_⟩
      rw [(notePostponed_frame _).therm rfl, raiseS_therm]
    · exact ⟨_, _, rfl⟩
  · split
    · split
      · exact ⟨_, _, rfl⟩
      · exact ⟨_, _, rfl⟩
    · exact ⟨_, _, rfl⟩

theorem judgeFlash_objs (s : State) : ObjsOnly storeObjs s (judgeFlash s) := by
  unfold judgeFlash
  dsimp only
  refine .ite (.ite (.trans (.raiseS (by decide) (.set_therm (.refl s))) (notePostponed_objs _)) (.refl s))
    (.ite ?_ (.set_therm (.refl s)))
  split
  · exact .refl s
  · exact .set_therm (.refl s)

theorem judgeCase_objs (s : State) : ObjsOnly thermalObjs s (judgeCase s) := by
  unfold judgeCase
  dsimp only
  have hcase (x : Int) : ObjsOnly thermalObjs s (s.setObj Obj.CASE_TEMP 0 x) := .setObj (by decide) (.refl s)
  exact .ite (.ite (.raiseS (by decide) (.setObj (by decide) (hcase _))) (hcase _)) (.ite (.setObj (by decide) (hcase _)) (hcase _))

theorem caseRest_objs (s : State) : ObjsOnly thermalObjs s (caseRest s) := .ite (.refl s) (.setObj (by decide) (.refl s))

/-- A conversion of a junction or HBM site judges its group and the flash. -/
theorem tempConversion_site (h : n < 38) (hg : g = if n < 36 then 0 else 1) :
    tempConversion s n reading = judgeFlash (judgeGroup (takeReading s n reading) g n reading) := by
  have hcase : (if n < 36 then judgeGroup (takeReading s n reading) 0 n reading else if n < 38 then
      judgeGroup (takeReading s n reading) 1 n reading else takeReading s n reading) = judgeGroup (takeReading s n reading) g n reading := by
    rw [hg]
    by_cases h36 : n < 36
    · rw [if_pos h36, if_pos h36]
    · rw [if_neg h36, if_neg h36, if_pos h]
  unfold tempConversion
  dsimp only
  rw [if_neg (show ¬ 43 ≤ n by omega), hcase, if_pos (show n ≤ 38 by omega)]
  exact if_pos (.inl (show n < 39 by omega))

/-- Past its reading a conversion shows its group, the flash and the case. -/
theorem tempConversion_objs (h : n < 43) (reading : Int) : ObjsOnly thermalObjs (takeReading s n reading) (tempConversion s n reading) := by
  unfold tempConversion
  rw [if_neg (show ¬ 43 ≤ n by omega)]
  extract_lets told u v w
  have hv : ObjsOnly thermalObjs u v := .ite (judgeGroup_judges _ _ _ _).objs (.ite (judgeGroup_judges _ _ _ _).objs (.refl u))
  have hw : ObjsOnly thermalObjs u w := .ite (hv.trans ((judgeFlash_objs _).mono (by decide))) hv
  exact .ite hw (.ite (hw.trans (caseRest_objs _)) (.ite (hw.trans (judgeCase_objs _)) hw))

theorem tempConversion_temp (h : n < 43) (hr : Reports s n) : (tempConversion s n reading).obj Obj.TEMP n =
    openRound 298 ((lastOf s n reading).foldl (· + ·) 0) (lastOf s n reading).length :=
  (tempConversion_objs h reading _ _ (by decide)).trans (takeReading_temp hr)

theorem tempConversion_reads {last : List Int} (h : n < 43) (hr : Reports s n) (hl : last = lastOf s n reading) :
    ∃ t, exec (.tempConversion n reading) s = .next t ∧ t.obj Obj.TEMP n = openRound 298 (last.foldl (· + ·) 0) last.length := by
  have htemp := tempConversion_temp (reading := reading) h hr
  have hrun : exec (.tempConversion n reading) s = finish s (tempConversion s n reading) := rfl
  rw [← hl] at htemp
  generalize tempConversion s n reading = u at hrun htemp
  exact ⟨_, hrun, htemp⟩

theorem tempConversion_none (h : 43 ≤ n) : ∃ t, exec (.tempConversion n reading) s = .next t ∧ Frame [.ex] s t :=
  ⟨_, congrArg (finish s) (if_pos h), frame_sealed (.refl s) (by decide)⟩

theorem tempConversion_judges {u : State} {last : List Int} (h : n < 38) (hg : g = if n < 36 then 0 else 1)
    (hu : u = takeReading s n reading) (hl : last = (reading :: (s.sensor n).last).take 8) :
    ∃ t, exec (.tempConversion n reading) s = .next t ∧ t.obj Obj.TEMP n = openRound 298 (last.foldl (· + ·) 0) last.length ∧
      mget 0 t.therm.levels g =
        u.newLevel g (mget 0 s.therm.levels g) (u.hottest (if n < 36 then List.range 36 else [36, 37])) ∧
      (mget 0 t.therm.levels g ≠ mget 0 s.therm.levels g →
        t.therm.state = max (mget 0 t.therm.levels 0) (mget 0 t.therm.levels 1) ∧ t.objN Obj.THERMAL_STATE 0 = t.therm.state ∧
          (s.therm.state < 3 → 3 ≤ t.therm.state → mget 0 s.therm.levels g < mget 0 t.therm.levels g →
            s.dev.state = .parked ∨ s.dev.state = .service →
            t.dev.state = .draining ∧ t.dev.draining = some s.tick ∧ .thermalStop ∈ t.dev.faults)) := by
  have hlast : last = lastOf s n reading := by
    rw [hl]
    unfold lastOf tempOf
    rw [if_neg (show ¬ 39 ≤ n by omega)]
  have htemp := tempConversion_temp (s := s) (reading := reading) (show n < 43 by omega) fun h39 => absurd h39 (by omega)
  have hrun : exec (.tempConversion n reading) s = finish s (tempConversion s n reading) := rfl
  obtain ⟨m, hm⟩ := takeReading_therm s n reading
  have hframe := takeReading_frame s n reading
  rw [← hlast] at htemp
  rw [tempConversion_site h hg, ← hu] at hrun htemp
  rw [← hu] at hm hframe
  have hlv : levelNow u g = u.newLevel g (mget 0 s.therm.levels g) (u.hottest (if n < 36 then List.range 36 else [36, 37])) := by
    have hsites : (if g = 0 then junctionSensors else hbmSensors) = if n < 36 then List.range 36 else [36, 37] := by
      rw [hg]
      by_cases h36 : n < 36
      · rw [if_pos h36, if_pos h36]
        rfl
      · rw [if_neg h36, if_neg h36]
        rfl
    unfold levelNow
    rw [hsites, hm]
  obtain ⟨hlevels, -, hfollow, hstop⟩ := judgeGroup_judges u g n reading
  obtain ⟨ok, since, hflash⟩ := judgeFlash_therm (judgeGroup u g n reading)
  have hfobj := judgeFlash_objs (judgeGroup u g n reading)
  have hfdev := (judgeFlash_frame (judgeGroup u g n reading)).dev rfl
  rw [hm, hframe.dev rfl, hframe.tick rfl] at hstop
  rw [hm] at hlevels hfollow
  generalize judgeGroup u g n reading = v at *
  generalize judgeFlash v = x at *
  have hxl : mget 0 x.therm.levels g = levelNow u g := by
    rw [hflash]
    show mget 0 v.therm.levels g = _
    rw [hlevels]
    exact mget_mset_self _ _ _ _
  have hxs : x.therm.state = v.therm.state := by rw [hflash]
  have hxm : x.therm.levels = v.therm.levels := by rw [hflash]
  refine ⟨_, hrun, htemp, hxl.trans hlv, fun hne => ?_⟩
  have hne' : mget 0 s.therm.levels g ≠ levelNow u g := fun e => hne (hxl.trans e.symm)
  obtain ⟨hst, hsh⟩ := hfollow hne'
  refine ⟨?_, ?_, fun h3 h3' hlt hserv => ?_⟩
  · show x.therm.state = max (mget 0 x.therm.levels 0) (mget 0 x.therm.levels 1)
    rw [hxs, hxm]
    exact hst
  · show x.objN Obj.THERMAL_STATE 0 = x.therm.state
    rw [hxs, ← hsh]
    exact congrArg Int.toNat (hfobj _ _ (by decide))
  · have hv3 : 3 ≤ v.therm.state := by rw [← hxs]; exact h3'
    have hup : mget 0 s.therm.levels g < levelNow u g := by rw [← hxl]; exact hlt
    have hd := hstop h3 hv3 hup hserv
    rw [← hfdev] at hd
    exact hd

end

end Sys2Proof.Proofs

/-!
SUPPORT. The hard cut, the end of the orderly stop, the flash interlock and TDX_MODE (R299, R303, R305, R306).
-/

namespace Sys2Proof.Proofs

open Sys2Proof Sys2Proof.Machine Sys2Proof.Laws

/-! ### The bus matrix where commits are abandoned -/

/-- From the first state to the second the bus matrix changes in the errors that wait for commits alone. -/
def ErrsOnly (s t : State) : Prop := t.mat = { s.mat with slotErr := t.mat.slotErr }

section

variable {s t w : State}

theorem ErrsOnly.refl (s : State) : ErrsOnly s s := rfl

theorem ErrsOnly.trans (h : ErrsOnly s t) (k : ErrsOnly t w) : ErrsOnly s w := by
  unfold ErrsOnly at *
  rw [k, h]

theorem ErrsOnly.frame {m : List Comp} (k : Frame m t w) (hm : m.contains .mat = false) (h : ErrsOnly s t) : ErrsOnly s w :=
  h.trans (by rw [ErrsOnly, k.mat hm])

theorem slotAfter_errs (s : State) (slot : Nat) : ErrsOnly s (slotAfter s slot) := by
  unfold slotAfter
  split
  · exact .frame (invalidate_frame _ _ _) (by decide) rfl
  · exact .refl s

theorem abandonSettled_errs (s : State) (c : Commit) (why : Outc) : ErrsOnly s (abandonSettled s c why) := by
  have hfreed : Frame [.objs, .ex, .sorus, .steady, .lib, .com] s (abandonFreed s c) :=
    .foldl (fun _ _ => .step (refuseHeld_frame _ _ _) (by decide) (.refl _)) ((State.dropCommit_frame _ _).mono (by decide))
  have hwarned : ErrsOnly s (abandonWarned s c why).1 := by
    unfold abandonWarned
    split
    · exact .frame (sendPeerAbort_frame _ _) (by decide) (.frame hfreed (by decide) (.refl s))
    · exact .frame hfreed (by decide) (.refl s)
  exact .trans (.frame (raiseA_frame _ _ _) (by decide) (.frame (State.capNote_frame _ _) (by decide)
    (.frame (State.incSat_frame _ _ _) (by decide) (.frame (releaseGrant_frame _ _ _) (by decide)
      (.frame (updateLog_frame _ _ _) (by decide) hwarned))))) (slotAfter_errs _ _)

theorem abandon_errs (s : State) (c : Commit) (why : Outc) : ErrsOnly s (abandon s c why) := by
  rw [abandon_eq]
  split
  · exact .frame (nakUnsolicited_frame _ _ _ _ _) (by decide) (abandonSettled_errs s c why)
  · exact abandonSettled_errs s c why

theorem abandonAll_errs (s : State) : ErrsOnly s (abandonAll s) := by
  unfold abandonAll
  dsimp only
  refine .trans (.frame (refuseAllHeld_frame s) (by decide) (.refl s)) ?_
  generalize refuseAllHeld s = u
  exact foldl_holds (P := ErrsOnly u) _ (.refl u) fun t c _ h => h.trans (abandon_errs t c .deviceState)

theorem enterHold_errs (s : State) (cause : HoldCause) : ErrsOnly s (enterHold s cause) := by
  by_cases hoff : s.dev.state = .off
  · simp only [enterHold, hoff]
    exact .refl s
  by_cases hhold : s.dev.state = .faultHold
  · simp only [enterHold, hhold]
    split
    · rfl
    · exact .refl s
  · rw [enterHold_eq hoff hhold]
    exact .frame (refuseCommands_frame _) (by decide) (.trans (.frame (openAll_frame _) (by decide) (.frame (stopCal_frame _) (by decide)
      (.frame (holdEntered_frame _ _) (by decide) (.refl s)))) (abandonAll_errs _))

/-- Whatever the device's state but OFF, it is in FAULT_HOLD afterwards, no cause of FAULT_N released. -/
theorem enterHold_holds (hoff : s.dev.state ≠ .off) (cause : HoldCause) : (enterHold s cause).dev.state = .faultHold ∧
    ∀ c ∈ s.dev.faults, c ∈ (enterHold s cause).dev.faults := by
  by_cases hhold : s.dev.state = .faultHold
  · simp only [enterHold, hhold]
    split
    · exact ⟨rfl, fun _ h => h⟩
    · exact ⟨hhold, fun _ h => h⟩
  · obtain ⟨hstate, -, -, -, hfaults⟩ := enterHold_dev hoff hhold cause
    exact ⟨hstate, hfaults⟩

end

section

variable {s t w : State} {a i n g sess x : Nat} {reading v : Int}

/-! ### The hard cut (R303) -/

/-- The state with the heaters at zero, the fast and privileged lanes undriven and HBM in self-refresh. -/
def cutTaken (s : State) (g : Nat) : State :=
  (({ s with therm := { s.therm with cutTripped := true, levels := mset s.therm.levels g 4 },
             drv := { s.drv with heatersOff := true, fastOff := true, privOff := true },
             mat := { s.mat with hbmState := mset (mset s.mat.hbmState 0 1) 1 1 } } : State).setObjN Obj.HBM_STATE 0 1).setObjN
    Obj.HBM_STATE 1 1

/-- The same with FAULT_N asserted for it. -/
def cutDriven (s : State) (g : Nat) : State := (cutTaken s g).fault .hardCut

/-- The state with the hard cut reported, and its thermal state shown. -/
def cutShown (s : State) (n : Nat) (reading : Int) : State :=
  let g := if n < 36 then 0 else 1
  let w := cutDriven s g
  let w := if decide (mget 0 s.therm.levels g < 4) then levelEvent w g 4 n reading else w
  ({ w with therm := { w.therm with state := 4 } }).setObjN Obj.THERMAL_STATE 0 4

theorem hardCut_eq (s : State) (n : Nat) (reading : Int) : hardCut s n reading = enterHold (cutShown s n reading) .hardCut := rfl

/-- What the hard cut leaves of the drives, HBM and the thermal record. -/
structure Cut (t : State) : Prop where
  tripped : t.therm.cutTripped = true
  heaters : t.drv.heatersOff = true
  fast : t.drv.fastOff = true
  priv : t.drv.privOff = true
  stack0 : mget 0 t.mat.hbmState 0 = 1
  stack1 : mget 0 t.mat.hbmState 1 = 1

theorem cutDriven_cut (s : State) (g : Nat) : Cut (cutDriven s g) := by
  have hmap : mget 0 (mset (mset s.mat.hbmState 0 1) 1 1) 0 = 1 := by
    rw [mget_mset_other _ _ _ (by decide), mget_mset_self]
  have hframe := State.fault_frame (cutTaken s g) .hardCut
  have hth := hframe.therm rfl
  have hdr := hframe.drv rfl
  have hma := hframe.mat rfl
  unfold cutDriven
  exact ⟨by rw [hth]; rfl, by rw [hdr]; rfl, by rw [hdr]; rfl, by rw [hdr]; rfl, by rw [hma]; exact hmap,
    by rw [hma]; exact mget_mset_self _ _ _ _⟩

theorem cutShown_cut (s : State) (n : Nat) (reading : Int) : Cut (cutShown s n reading) ∧ (cutShown s n reading).dev.state = s.dev.state ∧
    .hardCut ∈ (cutShown s n reading).dev.faults ∧ (cutShown s n reading).objN Obj.THERMAL_STATE 0 = 4 := by
  have hcut := cutDriven_cut s (if n < 36 then 0 else 1)
  have hfault : .hardCut ∈ (cutDriven s (if n < 36 then 0 else 1)).dev.faults := mem_fault _ _
  have hstate : (cutDriven s (if n < 36 then 0 else 1)).dev.state = s.dev.state := by
    unfold cutDriven
    rw [fault_dev]
    rfl
  have hframe : Frame [.objs, .ex, .sorus] (cutDriven s (if n < 36 then 0 else 1))
      (if decide (mget 0 s.therm.levels (if n < 36 then 0 else 1) < 4) then
        levelEvent (cutDriven s (if n < 36 then 0 else 1)) (if n < 36 then 0 else 1) 4 n reading
        else cutDriven s (if n < 36 then 0 else 1)) := .ite (levelEvent_frame _ _ _ _ _) (.refl _)
  unfold cutShown
  dsimp only
  generalize (if decide (mget 0 s.therm.levels (if n < 36 then 0 else 1) < 4) then
        levelEvent (cutDriven s (if n < 36 then 0 else 1)) (if n < 36 then 0 else 1) 4 n reading
        else cutDriven s (if n < 36 then 0 else 1)) = w at hframe
  generalize cutDriven s (if n < 36 then 0 else 1) = u at *
  obtain ⟨h1, h2, h3, h4, h5, h6⟩ := hcut
  rw [← hframe.drv rfl] at h2 h3 h4
  rw [← hframe.mat rfl] at h5 h6
  rw [← hframe.therm rfl] at h1
  rw [← hframe.dev rfl] at hfault hstate
  exact ⟨⟨h1, h2, h3, h4, h5, h6⟩, hstate, hfault, objN_setObjN_self _ _ _ _⟩

theorem hardCut_cuts (hoff : s.dev.state ≠ .off) (n : Nat) (reading : Int) : Cut (hardCut s n reading) ∧
    (hardCut s n reading).dev.state = .faultHold ∧ .hardCut ∈ (hardCut s n reading).dev.faults ∧
    (hardCut s n reading).objN Obj.THERMAL_STATE 0 = 4 := by
  obtain ⟨hcut, hdev, hfault, hshown⟩ := cutShown_cut s n reading
  rw [hardCut_eq]
  generalize cutShown s n reading = u at *
  obtain ⟨hstate, hfaults⟩ := enterHold_holds (by rw [hdev]; exact hoff) .hardCut (s := u)
  have htherm := (enterHold_frame u .hardCut).therm rfl
  have hlanes : LanesOnly u (enterHold u .hardCut) := enterHold_lanesOnly u .hardCut
  have herrs : ErrsOnly u (enterHold u .hardCut) := enterHold_errs u .hardCut
  have hobjs := enterHold_objs u .hardCut
  generalize enterHold u .hardCut = t at *
  obtain ⟨h1, h2, h3, h4, h5, h6⟩ := hcut
  unfold LanesOnly at hlanes
  unfold ErrsOnly at herrs
  refine ⟨⟨?_, ?_, ?_, ?_, ?_, ?_⟩, hstate, hfaults _ hfault, (congrArg Int.toNat (hobjs _ _ (by decide))).trans hshown⟩
  · rw [htherm]
    exact h1
  · rw [hlanes]
    exact h2
  · rw [hlanes]
    exact h3
  · rw [hlanes]
    exact h4
  · rw [herrs]
    exact h5
  · rw [herrs]
    exact h6

theorem tempHardCut_trips (hn : n < 38) (hr : s.obj Obj.CUT_LEVEL (if n < 36 then 0 else 1) ≤ reading) (ht : s.therm.cutTripped = false)
    (hoff : s.dev.state ≠ .off) : ∃ t, exec (.tempHardCut n reading) s = .next t ∧
    if 2 ≤ (s.sensor n).cutRun then
      t.dev.state = .faultHold ∧ .hardCut ∈ t.dev.faults ∧ t.therm.cutTripped = true ∧ t.objN Obj.THERMAL_STATE 0 = 4 ∧
        t.drv.heatersOff = true ∧ t.drv.fastOff = true ∧ t.drv.privOff = true ∧ mget 0 t.mat.hbmState 0 = 1 ∧ mget 0 t.mat.hbmState 1 = 1
    else Frame [.ex] s t := by
  by_cases hrun : 2 ≤ (s.sensor n).cutRun
  · have hexec : exec (.tempHardCut n reading) s = finish s (hardCut s n reading) :=
      congrArg (finish s) (if_pos ⟨hn, hr, hrun, by rw [ht]; exact Bool.false_ne_true, hoff⟩)
    obtain ⟨⟨h1, h2, h3, h4, h5, h6⟩, hstate, hfault, hshown⟩ := hardCut_cuts hoff n reading
    generalize hardCut s n reading = u at *
    refine ⟨_, hexec, ?_⟩
    rw [if_pos hrun]
    exact ⟨hstate, hfault, h1, hshown, h2, h3, h4, h5, h6⟩
  · have hexec : exec (.tempHardCut n reading) s = finish s s := congrArg (finish s) (if_neg fun h => hrun h.2.2.1)
    refine ⟨_, hexec, ?_⟩
    rw [if_neg hrun]
    exact frame_sealed (.refl s) (by decide)

/-! ### The end of the orderly stop (R305) -/

/-- The device in SAFE before its loops open and its commits end. -/
def safeEntered (s : State) : State :=
  let u := s.enter .safe
  { u with dev := { u.dev with draining := none, park := none, parkRamp := false, loopsDue := false } }

theorem enterSafe_held (s : State) : Held (safeEntered s) (enterSafe s) := by
  have heq : enterSafe s = safeAll (abandonAll (openAll (stopCal (safeEntered s)))) := rfl
  rw [heq]
  exact .frame (safeAll_frame _) (by decide) (.step (abandonAll_held _) (.frame (openAll_frame _) (by decide) (stopCal_held _)))

theorem enterSafe_dev (s : State) : (enterSafe s).dev.state = .safe ∧ (enterSafe s).dev.draining = none := by
  obtain ⟨hdev, -⟩ := enterSafe_held s
  have hentered : (safeEntered s).dev.state = .safe ∧ (safeEntered s).dev.draining = none := by
    refine ⟨?_, rfl⟩
    change (s.enter .safe).dev.state = _
    rw [enter_dev]
  rw [hdev]
  exact hentered

theorem stopDrainEnd_ends {t0 : Nat} (hd : s.dev.draining = some t0) (hs : s.dev.state = .draining)
    (hc : (s.com.live.any fun c => c.state == .armed || c.state == .applying) = false) : ∃ t, exec .stopDrainEnd s = .next t ∧
    if s.elapsed t0 (1000 * s.objN Obj.STOP_DRAIN 0) = true then t.dev.state = .safe ∧ t.dev.draining = none
    else Frame [.ex] s t := by
  have hrun : exec .stopDrainEnd s = finish s (if s.elapsed t0 (1000 * s.objN Obj.STOP_DRAIN 0) = true then
      settleOwed (enterSafe s) .drain (.ack []) else s) := by
    have hcond : (s.dev.state = .draining ∧ s.elapsed t0 (1000 * s.objN Obj.STOP_DRAIN 0) = true ∧
        ¬ (s.com.live.any fun c => c.state == .armed || c.state == .applying) = true) ↔
        s.elapsed t0 (1000 * s.objN Obj.STOP_DRAIN 0) = true :=
      ⟨fun h => h.2.1, fun h => ⟨hs, h, by rw [hc]; exact Bool.false_ne_true⟩⟩
    show execStopDrainEnd s = _
    unfold execStopDrainEnd
    rw [hd]
    exact congrArg (finish s) (if_congr hcond rfl rfl)
  by_cases he : s.elapsed t0 (1000 * s.objN Obj.STOP_DRAIN 0) = true
  · rw [if_pos he] at hrun
    have hdev := enterSafe_dev s
    rw [← (settleOwed_frame (enterSafe s) .drain (.ack [])).dev rfl] at hdev
    generalize settleOwed (enterSafe s) .drain (.ack []) = u at hrun hdev
    refine ⟨_, hrun, ?_⟩
    rw [if_pos he]
    exact hdev
  · rw [if_neg he] at hrun
    refine ⟨_, hrun, ?_⟩
    rw [if_neg he]
    exact frame_sealed (.refl s) (by decide)

/-! ### The flash interlock (R306) -/

/-- The state in which flash writes are permitted again. -/
def flashFreed (s : State) : State := { s with therm := { s.therm with flashOk := true, flashInSince := none } }

theorem pageByDevice_store (h : s.flashBusy = true) : pageByDevice s = s := by
  refine if_neg ?_
  rw [h]
  simp

theorem flashWritePermitted_permits {t0 : Nat} (hs : s.therm.flashInSince = some t0) (hf : s.therm.flashOk = false) :
    ∃ t, exec .flashWritePermitted s = .next t ∧
      if s.elapsed t0 1000000000 = true then
        t.therm.flashOk = true ∧ t.therm.flashInSince = none ∧ (s.dev.store = none → s.dev.storeQueue = [.life] →
          t.dev.store = some { kind := .life, regions := [1 - s.dev.flash.lifeCopy] })
      else Frame [.ex] s t := by
  have hrun : exec .flashWritePermitted s = finish s (if s.elapsed t0 1000000000 = true then
      pageByDevice (pumpStores (raiseS (flashFreed s) 0x5016 [.word (flashFreed s).flashTemp])) else s) := by
    show execFlashWritePermitted s = _
    unfold execFlashWritePermitted
    rw [hs]
    refine congrArg (finish s) (if_congr ?_ rfl rfl)
    rw [hf]
    simp
  by_cases he : s.elapsed t0 1000000000 = true
  · rw [if_pos he] at hrun
    have htherm : (raiseS (flashFreed s) 0x5016 [.word (flashFreed s).flashTemp]).therm = (flashFreed s).therm := raiseS_therm _ _ _
    have hdev : (raiseS (flashFreed s) 0x5016 [.word (flashFreed s).flashTemp]).dev = s.dev := raiseS_dev _ _ _
    generalize raiseS (flashFreed s) 0x5016 [.word (flashFreed s).flashTemp] = w at hrun htherm hdev
    have hpt : (pageByDevice (pumpStores w)).therm = (flashFreed s).therm :=
      ((pageByDevice_frame _).therm rfl).trans (((pumpStores_frame w).therm rfl).trans htherm)
    have hstore (h0 : s.dev.store = none) (hq : s.dev.storeQueue = [.life]) :
        (pageByDevice (pumpStores w)).dev.store = some ⟨.life, [1 - s.dev.flash.lifeCopy]⟩ := by
      have hok : w.flashOk = true := congrArg Thermal.flashOk htherm
      have hpump : (pumpStores w).dev.store = some ⟨.life, [1 - s.dev.flash.lifeCopy]⟩ := by
        have hw : w = storesWaiting w [.life] := by
          unfold storesWaiting
          rw [← hq, ← hdev]
        rw [hw, pumpStores_first hok (by rw [hdev]; exact h0), startStore_runs (k := .life) (by simp) (List.cons_ne_nil _ []), ← hdev]
        rfl
      rw [pageByDevice_store (by rw [State.flashBusy, hpump]; rfl)]
      exact hpump
    generalize pageByDevice (pumpStores w) = u at hrun hpt hstore
    refine ⟨_, hrun, ?_⟩
    rw [if_pos he]
    exact ⟨congrArg Thermal.flashOk hpt, congrArg Thermal.flashInSince hpt, hstore⟩
  · rw [if_neg he] at hrun
    refine ⟨_, hrun, ?_⟩
    rw [if_neg he]
    exact frame_sealed (.refl s) (by decide)

/-! ### TDX_MODE (R299) -/

theorem tdxMode_quiets (h : s.accepts sess Obj.TDX_MODE x v = true) : ∃ t, exec (.tdxMode sess x v) s = .next t ∧
    t.answered sess 0 Obj.TDX_MODE x (.ack []) ∧ t.obj Obj.TDX_MODE x = v ∧
    t.sensor (39 + x) = { s.sensor (39 + x) with unreported := 8 } ∧ (∀ n, n ≠ 39 + x → t.sensor n = s.sensor n) := by
  have hseen := seen_frame s sess
  obtain ⟨hans, hframe⟩ := hostWrite_acks (eff := effTdxMode x v) h rfl (opens_of_frame (effTdxMode_frame _ _ _) (by decide))
  have hobj : (effTdxMode x v (seen s sess)).1.obj Obj.TDX_MODE x = v := (caseRest_objs _ _ _ (by decide)).trans (obj_setObj _ _ _ _)
  have htherm : (effTdxMode x v (seen s sess)).1.therm.sensors =
      mset s.therm.sensors (39 + x) { s.sensor (39 + x) with unreported := 8 } := by
    have hs : (seen s sess).therm = s.therm := hseen.therm rfl
    refine (congrArg Thermal.sensors ((caseRest_frame _).therm rfl)).trans ?_
    show mset (seen s sess).therm.sensors (39 + x) { mget {} (seen s sess).therm.sensors (39 + x) with unreported := 8 } = _
    rw [hs]
    rfl
  generalize effTdxMode x v (seen s sess) = u at hframe hobj htherm
  have hsensors := (congrArg Thermal.sensors (hframe.therm rfl)).trans htherm
  refine ⟨_, rfl, hans, (obj_of_objs (hframe.objs rfl) _ _).trans hobj, ?_, fun n hn => ?_⟩
  · refine (congrArg (fun m => mget {} m (39 + x)) hsensors).trans ?_
    exact mget_mset_self _ _ _ _
  · refine (congrArg (fun m => mget {} m n) hsensors).trans ?_
    exact mget_mset_other _ _ _ hn

end

/-- Settles O46: a conversion by its reading, its group and what the level's change starts; the hard cut by what it puts in force before the
device holds; and the three commands of the interlock, the stop and the mode. -/
theorem thermalProtection : Obligations.ThermalProtection := by
  unfold Obligations.ThermalProtection
  exact ⟨fun _ _ _ _ _ _ h hg hu hl => tempConversion_judges h hg hu hl, fun _ _ _ _ h hr hl => tempConversion_reads h hr hl,
    fun _ _ _ h => tempConversion_none h, fun _ _ _ hn hr ht hoff => tempHardCut_trips hn hr ht hoff,
    fun _ _ hd hs hc => stopDrainEnd_ends hd hs hc, fun _ _ hs hf => flashWritePermitted_permits hs hf, fun _ _ _ _ h => tdxMode_quiets h⟩

end Sys2Proof.Proofs

/-!
SUPPORT. The lobes' records through the operations that move a lobe: what they leave of the other lobe, of the shared record and of the
lobe itself (R311, R316, R322, R328, R336).
-/

namespace Sys2Proof.Proofs

open Sys2Proof Sys2Proof.Machine Sys2Proof.Laws

/-- A lobe's partner is another lobe. -/
theorem partner_ne {l : Nat} (h : l < 2) : (l = 0) ≠ (1 - l = 0) := by
  intro e
  have h' : l = 0 ↔ 1 - l = 0 := by rw [e]
  omega

/-- From the first state to the second the lobes' record changes at lobe l, and in the lobe that was ACTIVE last and the heartbeats sent. -/
structure LobeOnly (l : Nat) (s t : State) : Prop where
  others : ∀ m, (l = 0) ≠ (m = 0) → t.lobe m = s.lobe m
  shared : t.lobes = { s.lobes with each := t.lobes.each, lastActive := t.lobes.lastActive, sent := t.lobes.sent }

section

variable {s t w : State} {l : Nat}

theorem LobeOnly.refl (l : Nat) (s : State) : LobeOnly l s s := ⟨fun _ _ => rfl, rfl⟩

theorem LobeOnly.trans (h : LobeOnly l s t) (k : LobeOnly l t w) : LobeOnly l s w :=
  ⟨fun m hm => (k.others m hm).trans (h.others m hm), by rw [k.shared, h.shared]⟩

theorem LobeOnly.of_lobes (h : t.lobes = s.lobes) : LobeOnly l s t := ⟨fun m _ => lobe_of_lobes h m, by rw [h]⟩

theorem LobeOnly.frame {m : List Comp} (k : Frame m t w) (hm : m.contains .lobes = false) (h : LobeOnly l s t) : LobeOnly l s w :=
  h.trans (.of_lobes (k.lobes hm))

theorem LobeOnly.setLobe {x : Lobe} (h : LobeOnly l s t) : LobeOnly l s (t.setLobe l x) :=
  h.trans ⟨fun _ hm => lobe_setLobe_other t x hm, rfl⟩

theorem LobeOnly.ite {p : Prop} [Decidable p] (h : LobeOnly l s t) (k : LobeOnly l s w) : LobeOnly l s (if p then t else w) := by
  split <;> assumption

end

/-- From a lobe's record to another no field changes but those that go with its role, and no LINK_LOST begins. -/
def RoleMoved (y x : Lobe) : Prop :=
  x = { y with role := x.role, since := x.since, claim := x.claim, claiming := x.claiming, retryAt := x.retryAt, diagnosed := x.diagnosed,
               offlineDue := x.offlineDue, linkLost := x.linkLost, cleanScans := x.cleanScans, copied := x.copied } ∧
    (y.linkLost = false → x.linkLost = false)

theorem RoleMoved.refl (y : Lobe) : RoleMoved y y := ⟨rfl, id⟩

theorem RoleMoved.trans {x y z : Lobe} (h : RoleMoved z y) (k : RoleMoved y x) : RoleMoved z x :=
  ⟨by rw [k.1, h.1], fun e => k.2 (h.2 e)⟩

section

variable (s : State) (l : Nat)

/-! ### A role (R311) -/

theorem setRole_lobeOnly (r : Role) : LobeOnly l s (setRole s l r) := by
  refine ⟨fun m hm => setRole_lobe_other s r hm, ?_⟩
  have hjudge (u : State) (d : List EvItem) : (judgeLobes (raise u 0x600B l d)).lobes = u.lobes :=
    ((judgeLobes_frame _).lobes rfl).trans (raise_lobes _ _ _ _)
  have hlose (p : Prop) [Decidable p] (u : State) : (if p then loseRequests u else u).lobes = u.lobes := by split <;> rfl
  unfold setRole
  dsimp only
  split
  · rfl
  · rw [hjudge, hlose]
    split <;> rfl

theorem setRole_moved (r : Role) : RoleMoved (s.lobe l) ((setRole s l r).lobe l) := by
  rw [setRole_lobe]
  exact ⟨rfl, id⟩

theorem quietLobe_lobes : (quietLobe s l).lobes = (s.setLobe l { s.lobe l with linkLost := false }).lobes :=
  ((State.unfault_frame _ _).lobes rfl).trans ((State.unfault_frame _ _).lobes rfl)

/-- The state in which a lobe goes OFFLINE: one that its pin or the object holds asserts FAULT_N no longer. -/
def offlineQuiet (reason : Nat) : State := if reason = 3 then s else quietLobe s l

theorem offlineQuiet_lobeOnly (reason : Nat) : LobeOnly l s (offlineQuiet s l reason) := by
  unfold offlineQuiet
  split
  · exact .refl l s
  · exact .trans (.setLobe (.refl l s)) (.of_lobes (quietLobe_lobes s l))

theorem offlineQuiet_lobe (reason : Nat) : ∃ b, (offlineQuiet s l reason).lobe l = { s.lobe l with linkLost := b } ∧
    ((s.lobe l).linkLost = false → b = false) := by
  unfold offlineQuiet
  split
  · exact ⟨(s.lobe l).linkLost, rfl, id⟩
  · exact ⟨false, (lobe_of_lobes (quietLobe_lobes s l) l).trans (lobe_setLobe _ _ _), fun _ => rfl⟩

theorem toOffline_eq (reason : Nat) : toOffline s l reason =
    if ((offlineQuiet s l reason).lobe l).role = .offline then offlineQuiet s l reason
    else
      let v := setRole (offlineQuiet s l reason) l .offline
      raise (v.setLobe l { v.lobe l with claim := 0, claiming := none, retryAt := none, diagnosed := false, offlineDue := false }) 0x600C l
        [.word l, .word reason] := rfl

theorem toOffline_lobeOnly (reason : Nat) : LobeOnly l s (toOffline s l reason) := by
  have hq := offlineQuiet_lobeOnly s l reason
  rw [toOffline_eq]
  split
  · exact hq
  · exact .trans (.setLobe (hq.trans (setRole_lobeOnly _ _ _))) (.of_lobes (raise_lobes _ _ _ _))

/-- A lobe taken OFFLINE: OFFLINE, and where it was not so before its claim and what went with its role are gone. -/
theorem toOffline_offline (reason : Nat) : ((toOffline s l reason).lobe l).role = .offline ∧
    RoleMoved (s.lobe l) ((toOffline s l reason).lobe l) ∧
    ((s.lobe l).role ≠ .offline → ((toOffline s l reason).lobe l).claim = 0 ∧ ((toOffline s l reason).lobe l).claiming = none ∧
      ((toOffline s l reason).lobe l).offlineDue = false) := by
  obtain ⟨b, hb, hlost⟩ := offlineQuiet_lobe s l reason
  have hrole : ((offlineQuiet s l reason).lobe l).role = (s.lobe l).role := by rw [hb]
  rw [toOffline_eq]
  generalize offlineQuiet s l reason = u at hb hrole ⊢
  split
  case isTrue h =>
    refine ⟨h, ?_, fun hne => absurd (hrole.symm.trans h) hne⟩
    rw [hb]
    exact ⟨rfl, hlost⟩
  case isFalse h =>
    have hset := setRole_lobe u l .offline
    generalize setRole u l .offline = v at hset ⊢
    have hlobe : (raise (v.setLobe l { v.lobe l with claim := 0, claiming := none, retryAt := none, diagnosed := false, offlineDue := false })
        0x600C l [.word l, .word reason]).lobe l =
        { v.lobe l with claim := 0, claiming := none, retryAt := none, diagnosed := false, offlineDue := false } :=
      (lobe_of_lobes (raise_lobes _ _ _ _) l).trans (lobe_setLobe _ _ _)
    rw [hset, hb] at hlobe
    dsimp only at hlobe ⊢
    rw [hset, hb]
    rw [hlobe]
    exact ⟨rfl, ⟨rfl, hlost⟩, fun _ => ⟨rfl, rfl, rfl⟩⟩

/-- A lobe that takes a role has it, or is OFFLINE where its pin or LOBE_HOLD_OFFLINE holds it. -/
theorem takeRole_role (r : Role) : ((takeRole s l r).lobe l).role = if s.mayRun l = true then r else .offline := by
  unfold takeRole
  split
  · rw [setRole_lobe]
  · exact (toOffline_offline s l _).1

theorem takeRole_moved (r : Role) : RoleMoved (s.lobe l) ((takeRole s l r).lobe l) := by
  unfold takeRole
  split
  · exact setRole_moved s l r
  · exact (toOffline_offline s l _).2.1

theorem takeRole_lobeOnly (r : Role) : LobeOnly l s (takeRole s l r) := .ite (setRole_lobeOnly s l r) (toOffline_lobeOnly s l _)

/-! ### Diagnosis, resynchronisation and resets (R322, R328, R336) -/

theorem toDiagnosing_lobe : (toDiagnosing s l).lobe l =
    { (takeRole s l .diagnosing).lobe l with claim := 0, claiming := none, diagnosed := false, retryAt := none, since := s.tick } := by
  unfold toDiagnosing
  dsimp only
  rw [lobe_setLobe, (takeRole_frame s l .diagnosing).tick rfl]

theorem toDiagnosing_lobeOnly : LobeOnly l s (toDiagnosing s l) := .setLobe (takeRole_lobeOnly s l .diagnosing)

theorem toDiagnosing_role : ((toDiagnosing s l).lobe l).role = (if s.mayRun l = true then .diagnosing else .offline) ∧
    ((toDiagnosing s l).lobe l).claim = 0 := by
  rw [toDiagnosing_lobe]
  exact ⟨takeRole_role s l .diagnosing, rfl⟩

theorem toDiagnosing_moved : RoleMoved (s.lobe l) ((toDiagnosing s l).lobe l) := by
  rw [toDiagnosing_lobe]
  exact (takeRole_moved s l .diagnosing).trans ⟨rfl, id⟩

theorem loadCounter_lobes : (loadCounter s l).1.lobes = s.lobes := by
  unfold loadCounter
  split
  · rfl
  · dsimp only
    split
    · rfl
    · exact raise_lobes _ _ _ _

theorem toSyncing_lobe : (toSyncing s l).lobe l =
    { (setRole s l .syncing).lobe l with cleanScans := 0, copied := none, since := s.tick, claiming := none } := by
  have hlobes : (toSyncing s l).lobes = ((setRole s l .syncing).setLobe l
      { (setRole s l .syncing).lobe l with cleanScans := 0, copied := none, since := (setRole s l .syncing).tick, claiming := none }).lobes :=
    loadCounter_lobes _ _
  rw [lobe_of_lobes hlobes, lobe_setLobe, (setRole_frame s l .syncing).tick rfl]

theorem toSyncing_lobeOnly : LobeOnly l s (toSyncing s l) :=
  .trans (.setLobe (setRole_lobeOnly s l .syncing)) (.of_lobes (loadCounter_lobes _ _))

theorem toSyncing_moved : RoleMoved (s.lobe l) ((toSyncing s l).lobe l) := by
  rw [toSyncing_lobe]
  exact (setRole_moved s l .syncing).trans ⟨rfl, id⟩

theorem toSyncing_role : ((toSyncing s l).lobe l).role = .syncing := by
  rw [toSyncing_lobe, setRole_lobe]

/-! ### A lobe that finds itself faulty (R322) -/

/-- The state in which a lobe that finds itself faulty has left for DIAGNOSING. -/
def yielded (cause : Nat) : State :=
  let u := toDiagnosing (s.setLobe l { s.lobe l with health := 2 ^ (cause - 1) }) l
  if (u.lobe l).role = .diagnosing then u.fault (.lobe l) else u

/-- What an ACTIVE lobe that yields sends. -/
def yieldBeat (cause : Nat) : Heartbeat :=
  { lobe := l, role := .diagnosing, claim := 0, epoch := (s.lobe l).seenEpoch, snapSeq := s.lobes.snapSeq, yield := some cause }

/-- The state with the YIELD of a lobe that was ACTIVE sent. -/
def yieldSent (cause : Nat) : State :=
  let u := yielded s l cause
  if (s.lobe l).role = .active then
    { u with lobes := { u.lobes with sent := yieldBeat s l cause :: u.lobes.sent.filter fun h => h.lobe ≠ l } } else u

theorem yieldLobe_eq (cause : Nat) : yieldLobe s l cause =
    if (s.lobe l).role ≠ .active ∧ (s.lobe l).role ≠ .standby ∧ (s.lobe l).role ≠ .syncing then s
    else
      let v := raise (yieldSent s l cause) 0x600A l [.word l, .word cause]
      if v.runsTrial l then rollBack v 3 else v := rfl

theorem yielded_lobes (cause : Nat) :
    (yielded s l cause).lobes = (toDiagnosing (s.setLobe l { s.lobe l with health := 2 ^ (cause - 1) }) l).lobes := by
  unfold yielded
  dsimp only
  split
  · exact (State.fault_frame _ _).lobes rfl
  · rfl

theorem rollBack_lobes (cause : Nat) : (rollBack s cause).lobes = s.lobes := (rollBack_frame s cause).lobes rfl

/-- A lobe that leaves because it is faulty. -/
theorem yieldLobe_lobes {cause : Nat} (h : (s.lobe l).role = .active ∨ (s.lobe l).role = .standby ∨ (s.lobe l).role = .syncing) :
    (yieldLobe s l cause).lobes = (yieldSent s l cause).lobes := by
  have hv : (raise (yieldSent s l cause) 0x600A l [.word l, .word cause]).lobes = (yieldSent s l cause).lobes := raise_lobes _ _ _ _
  rw [yieldLobe_eq, if_neg (fun hn => by rcases h with h | h | h <;> simp [h] at hn)]
  dsimp only
  split
  · exact (rollBack_lobes _ _).trans hv
  · exact hv

theorem yieldLobe_idle {cause : Nat} (h : ¬ ((s.lobe l).role = .active ∨ (s.lobe l).role = .standby ∨ (s.lobe l).role = .syncing)) :
    yieldLobe s l cause = s := by
  rw [yieldLobe_eq]
  refine if_pos ⟨fun e => h (.inl e), fun e => h (.inr (.inl e)), fun e => h (.inr (.inr e))⟩

theorem yielded_lobeOnly (cause : Nat) : LobeOnly l s (yielded s l cause) :=
  .trans (.trans (.setLobe (.refl l s)) (toDiagnosing_lobeOnly _ l)) (.of_lobes (yielded_lobes s l cause))

theorem yieldSent_lobeOnly (cause : Nat) : LobeOnly l s (yieldSent s l cause) := by
  have hy := yielded_lobeOnly s l cause
  unfold yieldSent
  dsimp only
  split
  · exact hy.trans ⟨fun _ _ => rfl, rfl⟩
  · exact hy

theorem yieldLobe_lobeOnly (cause : Nat) : LobeOnly l s (yieldLobe s l cause) := by
  by_cases h : (s.lobe l).role = .active ∨ (s.lobe l).role = .standby ∨ (s.lobe l).role = .syncing
  · exact (yieldSent_lobeOnly s l cause).trans (.of_lobes (yieldLobe_lobes s l h))
  · rw [yieldLobe_idle s l h]
    exact .refl l s

theorem yieldSent_lobe (cause m : Nat) : (yieldSent s l cause).lobe m = (yielded s l cause).lobe m := by
  unfold yieldSent
  dsimp only
  split <;> rfl

/-- The record of a lobe that has yielded, but for its health mask. -/
theorem yieldLobe_moved (cause : Nat) : ∃ h, RoleMoved { s.lobe l with health := h } ((yieldLobe s l cause).lobe l) := by
  by_cases h : (s.lobe l).role = .active ∨ (s.lobe l).role = .standby ∨ (s.lobe l).role = .syncing
  · refine ⟨2 ^ (cause - 1), ?_⟩
    rw [lobe_of_lobes (yieldLobe_lobes s l h), yieldSent_lobe, lobe_of_lobes (yielded_lobes s l cause)]
    have hm := toDiagnosing_moved (s.setLobe l { s.lobe l with health := 2 ^ (cause - 1) }) l
    rw [lobe_setLobe] at hm
    exact hm
  · rw [yieldLobe_idle s l h]
    exact ⟨(s.lobe l).health, .refl _⟩

theorem mayRun_setLobe {x : Lobe} (h : x.strapHigh = (s.lobe l).strapHigh) : (s.setLobe l x).mayRun l = s.mayRun l := by
  unfold State.mayRun
  rw [lobe_setLobe, h]
  rfl

/-- A running lobe that yields leaves for DIAGNOSING, its claim 0 and the cause in its health mask. -/
theorem yieldLobe_leaves {cause : Nat} (h : (s.lobe l).role = .active ∨ (s.lobe l).role = .standby ∨ (s.lobe l).role = .syncing) :
    ((yieldLobe s l cause).lobe l).role = (if s.mayRun l = true then .diagnosing else .offline) ∧ ((yieldLobe s l cause).lobe l).claim = 0 ∧
      ((yieldLobe s l cause).lobe l).health = 2 ^ (cause - 1) := by
  have hm := toDiagnosing_moved (s.setLobe l { s.lobe l with health := 2 ^ (cause - 1) }) l
  rw [lobe_setLobe] at hm
  rw [lobe_of_lobes (yieldLobe_lobes s l h), yieldSent_lobe, lobe_of_lobes (yielded_lobes s l cause)]
  obtain ⟨hrole, hclaim⟩ := toDiagnosing_role (s.setLobe l { s.lobe l with health := 2 ^ (cause - 1) }) l
  have hrun : (s.setLobe l { s.lobe l with health := 2 ^ (cause - 1) }).mayRun l = s.mayRun l := mayRun_setLobe s l rfl
  rw [hrun] at hrole
  exact ⟨hrole, hclaim, congrArg Lobe.health hm.1⟩

end

end Sys2Proof.Proofs

/-!
SUPPORT. The proofs of a lobe's faults and of cross-comparison (spec/11_lobes.md, Cross-comparison and self-diagnosis).
-/

namespace Sys2Proof.Proofs

open Sys2Proof Sys2Proof.Machine Sys2Proof.Laws

section

variable {s : State} {l a b col : Nat}

/-! ### Which lobe is ACTIVE, which STANDBY (R310) -/

theorem role_of_active (h : s.active = some a) : a < 2 ∧ (s.lobe a).role = .active := by
  unfold State.active at h
  split_ifs at h with h0 h1 <;> obtain rfl := Option.some.inj h
  · exact ⟨by decide, h0⟩
  · exact ⟨by decide, h1⟩

theorem role_of_standby (h : s.standby = some b) : b < 2 ∧ (s.lobe b).role = .standby := by
  unfold State.standby at h
  split_ifs at h with h0 h1 <;> obtain rfl := Option.some.inj h
  · exact ⟨by decide, h0⟩
  · exact ⟨by decide, h1⟩

/-- The STANDBY lobe is the ACTIVE one's partner. -/
theorem standby_partner (ha : s.active = some a) (hb : s.standby = some b) : b = 1 - a := by
  obtain ⟨ha2, hra⟩ := role_of_active ha
  obtain ⟨hb2, hrb⟩ := role_of_standby hb
  have hne : a ≠ b := by
    rintro rfl
    simp [hra] at hrb
  omega

/-- Of a lobe and its partner every other lobe is one. -/
theorem lobe_cases (hl : l < 2) {m : Nat} (hm : m < 2) : m = l ∨ m = 1 - l := by omega

theorem ObjsOnly.of_objs {k : List Nat} {t : State} (h : t.objs = s.objs) : ObjsOnly k s t := fun x i _ => obj_of_objs h x i

/-! ### What a lobe's leaving changes of the objects and of the faults -/

theorem judgeLobes_objs (s : State) : (judgeLobes s).objs = s.objs := (judgeLobes_frame s).objs rfl

theorem setRole_objs (s : State) (l : Nat) (r : Role) : ObjsOnly eventObjs s (setRole s l r) := by
  unfold setRole
  refine .ite (.refl s) ?_
  refine .frame (judgeLobes_frame _) (by decide) (.kept (raise_objs _ _ _ _) (by decide) ?_)
  refine .ite (.frame (loseRequests_frame _) (by decide) ?_) ?_ <;>
  exact .ite (.of_objs rfl) (.of_objs rfl)

theorem quietLobe_objs (s : State) (l : Nat) : (quietLobe s l).objs = s.objs := (quietLobe_frame s l).objs rfl

theorem toOffline_objs (s : State) (l reason : Nat) : ObjsOnly eventObjs s (toOffline s l reason) := by
  have hq : ObjsOnly eventObjs s (offlineQuiet s l reason) := .ite (.refl s) (.of_objs (quietLobe_objs s l))
  rw [toOffline_eq]
  exact .ite hq (.kept (raise_objs _ _ _ _) (by decide) (.trans (hq.trans (setRole_objs _ l .offline)) (.of_objs rfl)))

theorem takeRole_objs (s : State) (l : Nat) (r : Role) : ObjsOnly eventObjs s (takeRole s l r) :=
  .ite (setRole_objs s l r) (toOffline_objs s l _)

theorem toDiagnosing_objs (s : State) (l : Nat) : ObjsOnly eventObjs s (toDiagnosing s l) :=
  .trans (takeRole_objs s l .diagnosing) (.of_objs rfl)

theorem yieldSent_objs (s : State) (l cause : Nat) : ObjsOnly eventObjs s (yieldSent s l cause) := by
  have hd : ObjsOnly eventObjs s (toDiagnosing (s.setLobe l { s.lobe l with health := 2 ^ (cause - 1) }) l) :=
    .trans (.of_objs rfl) (toDiagnosing_objs _ l)
  have hy : ObjsOnly eventObjs s (yielded s l cause) := .ite (.frame (State.fault_frame _ _) (by decide) hd) hd
  exact .ite (hy.trans (.of_objs rfl)) hy

theorem rollBack_objs (s : State) (cause : Nat) : ObjsOnly storeObjs s (rollBack s cause) :=
  .ite (.refl s) (.trans (.set_dev (.refl s)) (autoStore_objs _ .bootRecords))

theorem yieldLobe_objs (s : State) (l cause : Nat) : ObjsOnly storeObjs s (yieldLobe s l cause) := by
  have hv : ObjsOnly storeObjs s (raise (yieldSent s l cause) 0x600A l [.word l, .word cause]) :=
    .kept (raise_objs _ _ _ _) (by decide) ((yieldSent_objs s l cause).mono (by decide))
  rw [yieldLobe_eq]
  exact .ite (.refl s) (.ite (hv.trans (rollBack_objs _ 3)) hv)

theorem autoStore_faults (s : State) (k : StoreKind) : (autoStore s k).dev.faults = s.dev.faults := by
  have h := autoStore_stores s k
  unfold StoresOnly at h
  rw [h]

theorem rollBack_faults (s : State) (cause : Nat) : (rollBack s cause).dev.faults = s.dev.faults := by
  unfold rollBack
  split
  · rfl
  · exact autoStore_faults _ .bootRecords

theorem yieldLobe_faults {cause : Nat} (h : (s.lobe l).role = .active ∨ (s.lobe l).role = .standby ∨ (s.lobe l).role = .syncing) :
    (yieldLobe s l cause).dev.faults = (yielded s l cause).dev.faults := by
  have hsent : (yieldSent s l cause).dev = (yielded s l cause).dev := by
    unfold yieldSent
    dsimp only
    split <;> rfl
  rw [yieldLobe_eq, if_neg (fun hn => by rcases h with h | h | h <;> simp [h] at hn)]
  dsimp only
  split
  · rw [rollBack_faults, raise_dev, hsent]
  · rw [raise_dev, hsent]

/-- A running lobe that yields and may run asserts FAULT_N (R339). -/
theorem yieldLobe_fault {cause : Nat} (h : (s.lobe l).role = .active ∨ (s.lobe l).role = .standby ∨ (s.lobe l).role = .syncing)
    (hm : s.mayRun l = true) : .lobe l ∈ (yieldLobe s l cause).dev.faults := by
  have hrole := (toDiagnosing_role (s.setLobe l { s.lobe l with health := 2 ^ (cause - 1) }) l).1
  have hrun : (s.setLobe l { s.lobe l with health := 2 ^ (cause - 1) }).mayRun l = s.mayRun l := mayRun_setLobe s l rfl
  rw [hrun, if_pos hm] at hrole
  rw [yieldLobe_faults h]
  unfold yielded
  dsimp only
  rw [if_pos hrole]
  exact mem_fault _ _

/-- An ACTIVE lobe that yields sends YIELD. -/
theorem yieldLobe_sends {cause : Nat} (h : (s.lobe l).role = .active) : (yieldLobe s l cause).lobes.sent.head? = some (yieldBeat s l cause) := by
  rw [yieldLobe_lobes s l (.inl h)]
  unfold yieldSent
  dsimp only
  rw [if_pos h]
  rfl

/-! ### A lobe that finds itself faulty (R322, R428) -/

/-- The state with a fault of a lobe's counter noted. -/
def counterMarked (s : State) (l : Nat) : State :=
  { s with time := { s.time with ctr := s.time.ctr.put l { s.time.ctr.at l with fault := true } } }

theorem counterFault_eq (s : State) (l : Nat) : counterFault s l = yieldLobe (counterMarked s l) l 5 := rfl

/-- What a lobe's finding itself faulty leaves, from a state with the same lobes, objects and device. -/
theorem yieldLobe_answers {w : State} (cause : Nat) (hl : l < 2) (hw : w.lobes = s.lobes) (hobjs : w.objs = s.objs) (hdev : w.dev = s.dev) :
    (yieldLobe w l cause).lobe (1 - l) = s.lobe (1 - l) ∧
      if (s.lobe l).role = .active ∨ (s.lobe l).role = .standby ∨ (s.lobe l).role = .syncing then
        ((yieldLobe w l cause).lobe l).role = (if s.mayRun l = true then .diagnosing else .offline) ∧ ((yieldLobe w l cause).lobe l).claim = 0 ∧
          ((yieldLobe w l cause).lobe l).health = 2 ^ (cause - 1) ∧ (s.mayRun l = true → .lobe l ∈ (yieldLobe w l cause).dev.faults) ∧
          ((s.lobe l).role = .active →
            ∃ h, (yieldLobe w l cause).lobes.sent.head? = some h ∧ h.lobe = l ∧ h.claim = 0 ∧ h.yield = some cause)
      else (yieldLobe w l cause).lobe l = s.lobe l ∧ (yieldLobe w l cause).dev = s.dev := by
  have hlobe := lobe_of_lobes hw
  have hrun : w.mayRun l = s.mayRun l := by
    unfold State.mayRun
    rw [hlobe, obj_of_objs hobjs]
  refine ⟨((yieldLobe_lobeOnly w l cause).others _ (partner_ne hl)).trans (hlobe _), ?_⟩
  rw [← hlobe l, ← hrun]
  split
  case isTrue h =>
    obtain ⟨hrole, hclaim, hhealth⟩ := yieldLobe_leaves w l (cause := cause) h
    exact ⟨hrole, hclaim, hhealth, yieldLobe_fault h, fun ha => ⟨_, yieldLobe_sends ha, rfl, rfl, rfl⟩⟩
  case isFalse h =>
    rw [yieldLobe_idle w l h]
    exact ⟨rfl, hdev⟩

/-- A command that tells of a fault of a lobe makes it yield, a fault of its counter being noted first. -/
theorem fault_yields {cause : Nat} {c : Instr} (hl : l < 2)
    (hc : (c = .lobeYielded l cause ∧ 1 ≤ cause ∧ cause ≤ 5) ∨ ((∃ core, core < 4 ∧ c = .watchdogExpiry l core) ∧ cause = 2) ∨
      (c = .lobeLocalMemoryError l ∧ cause = 3) ∨ (c = .lobeSupplyFault l ∧ cause = 4) ∨ (c = .counterFault l ∧ cause = 5)) :
    (exec c s = finish s (yieldLobe s l cause) ∧ ∀ m, c ≠ .counterFault m) ∨ exec c s = finish s (yieldLobe (counterMarked s l) l cause) := by
  rcases hc with ⟨rfl, h1, h5⟩ | ⟨⟨core, hcore, rfl⟩, rfl⟩ | ⟨rfl, rfl⟩ | ⟨rfl, rfl⟩ | ⟨rfl, rfl⟩
  · by_cases h : cause = 5
    · subst h
      exact .inr (congrArg (finish s) (if_pos ⟨hl, rfl⟩))
    · exact .inl ⟨congrArg (finish s) ((if_neg fun e => h e.2).trans (if_pos ⟨hl, h1, h5⟩)), by simp⟩
  · exact .inl ⟨congrArg (finish s) (if_pos ⟨hl, hcore⟩), by simp⟩
  · exact .inl ⟨congrArg (finish s) (if_pos hl), by simp⟩
  · exact .inl ⟨congrArg (finish s) (if_pos hl), by simp⟩
  · exact .inr (congrArg (finish s) (if_pos hl))

theorem counterMarked_fault (s : State) (l cause : Nat) : ((yieldLobe (counterMarked s l) l cause).time.ctr.at l).fault = true := by
  rw [(yieldLobe_frame _ l cause).time rfl]
  simp [counterMarked, Pair.at, Pair.put]
  split <;> rfl

/-! ### Cross-comparison (R319) -/

/-- The state with the digests of a scan compared. -/
def digestMarked (s : State) : State := { s with lobes := { s.lobes with compared := s.scan } }

/-- The columns whose digests differ, where the partner names one column. -/
def unequalCols (s : State) (col d : Nat) : List Nat := if d = s.digestOf col then [] else [col]

theorem unequalCols_eq {d : Nat} (hc : col < 42) :
    ((([(col, d)] : List (Nat × Nat)).filter fun c => decide (c.1 < 42) && c.2 != (digestMarked s).digestOf c.1).map (·.1)).eraseDups =
      unequalCols s col d := by
  have hd : (digestMarked s).digestOf col = s.digestOf col := rfl
  unfold unequalCols
  split
  case isTrue h => simp [hd, h]
  case isFalse h =>
    simp only [hd, List.filter_cons, hc, decide_true, bne_iff_ne, ne_eq, h, not_false_eq_true, Bool.true_and, if_true, List.filter_nil,
      List.map_cons, List.map_nil]
    rfl

/-- What a comparison in which some columns differ leaves. -/
def afterCols (s : State) (cols : List Nat) : State :=
  let u := countClean (digestMarked s) (cols.any fun c => !(digestMarked s).scanOverrun c)
  if u.standby.isSome then cols.foldl compareColumn u else u

theorem digestCompare_exec {d : Nat} (hc : col < 42) (h0 : s.tick % 256 = 0) (ha : s.active.isSome = true) (hs : s.lobes.compared < s.scan) :
    exec (.digestCompare [(col, d)]) s = finish s (afterCols s (unequalCols s col d)) := by
  have hrun : ¬ (s.tick % 256 ≠ 0 ∨ s.active.isNone = true ∨ s.scan ≤ s.lobes.compared) := by
    simp [h0, Option.isSome_iff_ne_none.mp ha, hs]
  exact (congrArg (finish s) (if_neg hrun)).trans (congrArg (fun k => finish s (afterCols s k)) (unequalCols_eq hc))

/-- A SYNCING lobe that has its state copy counts a clean scan or starts again. -/
def countedClean (s : State) (dirty : Bool) (l : Nat) : State :=
  if (s.lobe l).role = .syncing ∧ (s.lobe l).copied.any (fun n => decide (n < s.scan)) then
    s.setLobe l { s.lobe l with cleanScans := if dirty then 0 else (s.lobe l).cleanScans + 1 } else s

theorem countClean_eq (s : State) (dirty : Bool) : countClean s dirty = countedClean (countedClean s dirty 0) dirty 1 := rfl

theorem countedClean_idle {dirty : Bool} (h : (s.lobe l).role ≠ .syncing) : countedClean s dirty l = s := if_neg fun e => h e.1

/-- With one lobe ACTIVE and the other in STANDBY no scan is counted. -/
theorem countClean_idle {dirty : Bool} (ha : s.active = some a) (hb : s.standby = some b) : countClean s dirty = s := by
  obtain ⟨ha2, hra⟩ := role_of_active ha
  obtain ⟨hb2, hrb⟩ := role_of_standby hb
  have hpartner := standby_partner ha hb
  have hrole : ∀ l, l < 2 → (s.lobe l).role ≠ .syncing := by
    intro l hl
    rcases lobe_cases ha2 hl with rfl | rfl
    · simp [hra]
    · rw [← hpartner, hrb]
      decide
  rw [countClean_eq, countedClean_idle (hrole 0 (by decide)), countedClean_idle (hrole 1 (by decide))]

theorem objN_of_raiseA {x : Nat} (h : x ≠ Obj.RING_DROPPED) (s : State) (code : Nat) (data : List EvItem) {i : Nat} :
    (raiseA s code data).objN x i = s.objN x i := congrArg Int.toNat (raiseA_obj h s code data)

theorem mismatch_counts (s : State) (col : Nat) : (mismatch s col).lobes.each = s.lobes.each ∧
    (mismatch s col).objN Obj.XCMP_MISMATCHES col = min u32Max (s.objN Obj.XCMP_MISMATCHES col + 1) ∧ col ∈ (mismatch s col).lobes.katCols ∧
    s.tick ∈ mget [] (mismatch s col).lobes.mismatches col := by
  unfold mismatch
  extract_lets u m src w
  have hw : w.lobes = { s.lobes with mismatches := mset s.lobes.mismatches col m
                                     katCols := if s.lobes.katCols.contains col then s.lobes.katCols else s.lobes.katCols ++ [col] } := rfl
  have hobj : w.objN Obj.XCMP_MISMATCHES col = min u32Max (s.objN Obj.XCMP_MISMATCHES col + 1) := objN_incSat_self _ _ _
  clear_value w
  have hx : w.fresh.2.fresh.2.objs = w.objs ∧ w.fresh.2.fresh.2.lobes = w.lobes := ⟨rfl, rfl⟩
  dsimp only
  generalize w.fresh.2.fresh.2 = x at hx ⊢
  obtain ⟨hxo, hxl⟩ := hx
  refine ⟨?_, (objN_of_raiseA (by decide) _ _ _).trans ((objN_of_objs hxo _ _).trans hobj), ?_, ?_⟩ <;>
  rw [raiseA_lobes, hxl, hw]
  · dsimp only
    split
    case isTrue h => exact List.contains_iff_mem.mp h
    case isFalse => exact List.mem_append_right _ (List.mem_singleton_self col)
  · dsimp only
    rw [mget_mset_self]
    exact List.mem_append_right _ (List.mem_singleton_self _)

/-- The digests of a column are compared under an ACTIVE and a STANDBY lobe (R319). -/
theorem digestCompare_judges {d : Nat} (hc : col < 42) (h0 : s.tick % 256 = 0) (ha : s.active.isSome = true) (hb : s.standby.isSome = true)
    (hs : s.lobes.compared < s.scan) :
    ∃ t, exec (.digestCompare [(col, d)]) s = .next t ∧ t.lobes.each = s.lobes.each ∧
      if d = crc32c (packNibbles ((s.scanDecisions col).map (·.2))) then
        t.lobes = { s.lobes with compared := s.scan } ∧ Frame [.ex, .lobes] s t
      else if s.scanOverrun col = true then
        t.objN Obj.XCMP_EXCUSED col = min u32Max (s.objN Obj.XCMP_EXCUSED col + 1) ∧ t.lobes = { s.lobes with compared := s.scan }
      else
        t.objN Obj.XCMP_MISMATCHES col = min u32Max (s.objN Obj.XCMP_MISMATCHES col + 1) ∧ col ∈ t.lobes.katCols ∧
          s.tick ∈ mget [] t.lobes.mismatches col := by
  obtain ⟨a, hact⟩ := Option.isSome_iff_exists.mp ha
  obtain ⟨b, hstb⟩ := Option.isSome_iff_exists.mp hb
  have hafter (cols : List Nat) : afterCols s cols = cols.foldl compareColumn (digestMarked s) := by
    unfold afterCols
    dsimp only
    rw [countClean_idle (s := digestMarked s) hact hstb]
    exact if_pos hb
  refine ⟨_, digestCompare_exec hc h0 ha hs, ?_⟩
  have hd : crc32c (packNibbles ((s.scanDecisions col).map (·.2))) = s.digestOf col := rfl
  rw [hafter, hd]
  unfold unequalCols
  split
  case isTrue => exact ⟨rfl, rfl, frame_sealed (.set_lobes (by decide) (.refl s)) (by decide)⟩
  case isFalse =>
    show (compareColumn (digestMarked s) col).lobes.each = s.lobes.each ∧ _
    split
    case isTrue ho =>
      have hcol : compareColumn (digestMarked s) col = (digestMarked s).incSat Obj.XCMP_EXCUSED col := if_pos ho
      refine ⟨by rw [hcol]; rfl, ?_, congrArg State.lobes hcol⟩
      exact (congrArg (State.objN · Obj.XCMP_EXCUSED col) hcol).trans (objN_incSat_self _ _ _)
    case isFalse ho =>
      have hcol : compareColumn (digestMarked s) col = mismatch (digestMarked s) col := if_neg ho
      obtain ⟨heach, hcount, hkat, htick⟩ := mismatch_counts (digestMarked s) col
      show _ ∧ (compareColumn (digestMarked s) col).objN Obj.XCMP_MISMATCHES col = _ ∧
        col ∈ (compareColumn (digestMarked s) col).lobes.katCols ∧ s.tick ∈ mget [] (compareColumn (digestMarked s) col).lobes.mismatches col
      rw [hcol]
      exact ⟨heach, hcount, hkat, htick⟩

theorem countedClean_frame (s : State) (dirty : Bool) (l : Nat) : Frame [.lobes] s (countedClean s dirty l) :=
  .ite (State.setLobe_frame _ _ _) (.refl s)

theorem countedClean_other {dirty : Bool} {m : Nat} (h : (m = 0) ≠ (l = 0)) : (countedClean s dirty m).lobe l = s.lobe l := by
  unfold countedClean
  split
  · exact lobe_setLobe_other _ _ h
  · rfl

theorem countedClean_self {dirty : Bool} (h : (s.lobe l).role = .syncing) {n : Nat} (hn : (s.lobe l).copied = some n) (hlt : n < s.scan) :
    ((countedClean s dirty l).lobe l).cleanScans = if dirty then 0 else (s.lobe l).cleanScans + 1 := by
  unfold countedClean
  rw [if_pos ⟨h, by simp [hn, hlt]⟩, lobe_setLobe]

/-- A SYNCING lobe with its state copy counts the scan or starts again. -/
theorem countClean_counts {dirty : Bool} (hl : l < 2) (h : (s.lobe l).role = .syncing) {n : Nat} (hn : (s.lobe l).copied = some n)
    (hlt : n < s.scan) : ((countClean s dirty).lobe l).cleanScans = if dirty then 0 else (s.lobe l).cleanScans + 1 := by
  rw [countClean_eq]
  obtain rfl | rfl : l = 0 ∨ l = 1 := by omega
  · rw [countedClean_other (by decide)]
    exact countedClean_self h hn hlt
  · have hkept : (countedClean s dirty 0).lobe 1 = s.lobe 1 := countedClean_other (by decide)
    rw [countedClean_self (by rw [hkept]; exact h) (by rw [hkept]; exact hn) (by rwa [State.scan, (countedClean_frame s dirty 0).tick rfl]), hkept]

theorem countedClean_role (s : State) (dirty : Bool) (m l : Nat) : ((countedClean s dirty m).lobe l).role = (s.lobe l).role := by
  by_cases hm : (m = 0) = (l = 0)
  · have he : (countedClean s dirty m).lobe l = (countedClean s dirty m).lobe m := by simp [State.lobe, Pair.at, hm]
    have he' : s.lobe l = s.lobe m := by simp [State.lobe, Pair.at, hm]
    rw [he, he']
    unfold countedClean
    split
    · rw [lobe_setLobe]
    · rfl
  · rw [countedClean_other hm]

theorem standby_congr {t : State} (h : ∀ l, (t.lobe l).role = (s.lobe l).role) : t.standby = s.standby := by
  have ha : t.lobes.each.a.role = s.lobes.each.a.role := h 0
  have hb : t.lobes.each.b.role = s.lobes.each.b.role := h 1
  simp [State.standby, ha, hb]

/-- Without a STANDBY lobe a SYNCING one that has its state copy counts clean scans (R336). -/
theorem digestCompare_counts {d n : Nat} (hl : l < 2) (hc : col < 42) (h0 : s.tick % 256 = 0) (ha : s.active.isSome = true)
    (h : (s.lobe l).role = .syncing) (hb : s.standby = none) (hs : s.lobes.compared < s.scan) (hn : (s.lobe l).copied = some n) (hlt : n < s.scan) :
    ∃ t, exec (.digestCompare [(col, d)]) s = .next t ∧ Frame [.ex, .lobes] s t ∧
      (t.lobe l).cleanScans = (if d = s.digestOf col ∨ s.scanOverrun col = true then (s.lobe l).cleanScans + 1 else 0) := by
  have hafter (cols : List Nat) : afterCols s cols = countClean (digestMarked s) (cols.any fun c => !s.scanOverrun c) := by
    refine if_neg ?_
    rw [countClean_eq, standby_congr (s := digestMarked s) fun m => (countedClean_role _ _ 1 m).trans (countedClean_role _ _ 0 m)]
    rw [show (digestMarked s).standby = none from hb]
    decide
  have hdirty : ((unequalCols s col d).any fun c => !s.scanOverrun c) = true ↔ ¬ (d = s.digestOf col ∨ s.scanOverrun col = true) := by
    unfold unequalCols
    split <;> simp [*]
  refine ⟨_, digestCompare_exec hc h0 ha hs, ?_, ?_⟩ <;> rw [hafter]
  · exact frame_sealed (.step (countClean_frame _ _) (by decide) (.set_lobes (by decide) (.refl s))) (by decide)
  · refine (countClean_counts (s := digestMarked s) hl h hn hlt).trans ?_
    by_cases hcase : d = s.digestOf col ∨ s.scanOverrun col = true
    · rw [if_neg (fun e => hdirty.mp e hcase), if_pos hcase]
      rfl
    · rw [if_pos (hdirty.mpr hcase), if_neg hcase]

theorem digestCompare_idle {peer : List (Nat × Nat)} (h : s.tick % 256 ≠ 0 ∨ s.scan ≤ s.lobes.compared) :
    ∃ t, exec (.digestCompare peer) s = .next t ∧ Frame [.ex] s t :=
  ⟨_, congrArg (finish s) (if_pos (h.imp_right .inr)), frame_sealed (.refl s) (by decide)⟩

/-! ### Known-answer tests (R320) -/

/-- The state with the test of a column no longer awaited. -/
def katTaken (s : State) (col : Nat) : State := { s with lobes := { s.lobes with katCols := s.lobes.katCols.filter (· ≠ col) } }

/-- A lobe that leaves keeps the columns that await a test. -/
theorem LobeOnly.katCols {t : State} (h : LobeOnly l s t) : t.lobes.katCols = s.lobes.katCols := by rw [h.shared]

theorem toDiagnosing_answers (hl : l < 2) : ((toDiagnosing s l).lobe l).role = (if s.mayRun l = true then .diagnosing else .offline) ∧
    (toDiagnosing s l).lobe (1 - l) = s.lobe (1 - l) :=
  ⟨(toDiagnosing_role s l).1, (toDiagnosing_lobeOnly s l).others _ (partner_ne hl)⟩

/-- How many mismatches a column has had within a second. -/
def recentMismatches (s : State) (col : Nat) : Nat := ((mget [] s.lobes.mismatches col).filter fun k => !s.elapsed k 1000000000).length

theorem katVerdict_eq {passA passB : Bool} (ha : s.active = some a) : katVerdict s col passA passB =
    if ((if a = 0 then passA else passB) && (if a = 0 then passB else passA)) = true then
      if s.objN Obj.MISMATCH_LIMIT 0 ≤ recentMismatches s col ∧ (s.lobe (1 - a)).role = .standby then toDiagnosing s (1 - a) else s
    else if (if a = 0 then passB else passA) = true then yieldLobe s a 1
    else if (if a = 0 then passA else passB) = true then yieldLobe s (1 - a) 1
    else yieldLobe (raiseA s.fresh.2.fresh.2 0x6009 [.word col, .word s.fresh.2.fresh.2.scan, .word s.fresh.1, .word s.fresh.2.fresh.1]) (1 - a) 1 := by
  unfold katVerdict
  rw [ha]
  rfl

/-- The verdict of the test of a column under an ACTIVE lobe and its STANDBY partner. -/
theorem katVerdict_judges {okA okB passA passB : Bool} (hact : s.active = some a) (hstb : s.standby = some b)
    (hA : okA = (if a = 0 then passA else passB)) (hB : okB = (if a = 0 then passB else passA)) :
    (katVerdict s col passA passB).lobes.katCols = s.lobes.katCols ∧
    ((katVerdict s col passA passB).lobe a).role =
      (if okA = false ∧ okB = true then (if s.mayRun a = true then .diagnosing else .offline) else .active) ∧
    ((katVerdict s col passA passB).lobe b).role =
      (if okB = false then (if s.mayRun b = true then .diagnosing else .offline)
       else if okA = true ∧ s.objN Obj.MISMATCH_LIMIT 0 ≤ recentMismatches s col then (if s.mayRun b = true then .diagnosing else .offline)
       else .standby) := by
  obtain ⟨ha2, hra⟩ := role_of_active hact
  obtain ⟨hb2, hrb⟩ := role_of_standby hstb
  obtain rfl := standby_partner hact hstb
  have hback : 1 - (1 - a) = a := by omega
  have hne : (1 - a = 0) ≠ (a = 0) := (partner_ne ha2).symm
  rw [katVerdict_eq hact, ← hA, ← hB]
  have hyield (u : State) (hu : u.lobes = s.lobes) (hobj : u.obj Obj.LOBE_HOLD_OFFLINE (1 - a) = s.obj Obj.LOBE_HOLD_OFFLINE (1 - a)) :
      (yieldLobe u (1 - a) 1).lobes.katCols = s.lobes.katCols ∧ ((yieldLobe u (1 - a) 1).lobe a).role = .active ∧
        ((yieldLobe u (1 - a) 1).lobe (1 - a)).role = (if s.mayRun (1 - a) = true then .diagnosing else .offline) := by
    have hlobe := lobe_of_lobes hu
    have hrun : u.mayRun (1 - a) = s.mayRun (1 - a) := by
      unfold State.mayRun
      rw [hlobe, hobj]
    have hyo := yieldLobe_lobeOnly u (1 - a) 1
    refine ⟨hyo.katCols.trans (congrArg Lobes.katCols hu), ?_, ?_⟩
    · rw [hyo.others a hne, hlobe, hra]
    · rw [(yieldLobe_leaves u (1 - a) (cause := 1) (.inr (.inl (by rw [hlobe, hrb])))).1, hrun]
  cases okA <;> cases okB <;> simp only [Bool.and_self, Bool.and_false, Bool.and_true, if_true, Bool.false_eq_true, if_false, true_and, and_true,
    reduceCtorEq, false_and]
  case false.false =>
    refine hyield _ ?_ ?_
    · rw [raiseA_lobes]
      rfl
    · rw [raiseA_obj (by decide)]
      rfl
  case false.true =>
    have hyo := yieldLobe_lobeOnly s a 1
    refine ⟨hyo.katCols, (yieldLobe_leaves s a (cause := 1) (.inl hra)).1, ?_⟩
    rw [hyo.others _ (partner_ne ha2), hrb]
  case true.false => exact hyield s rfl rfl
  case true.true =>
    simp only [hrb, and_true]
    split
    · have hdo := toDiagnosing_lobeOnly s (1 - a)
      exact ⟨hdo.katCols, by rw [hdo.others a hne, hra], (toDiagnosing_role s (1 - a)).1⟩
    · exact ⟨rfl, hra, hrb⟩

theorem katDone_judges {okA okB passA passB : Bool} (hcol : col ∈ s.lobes.katCols) (hact : s.active = some a) (hstb : s.standby = some b)
    (hA : okA = (if a = 0 then passA else passB)) (hB : okB = (if a = 0 then passB else passA)) :
    ∃ t, exec (.katDone col passA passB) s = .next t ∧ col ∉ t.lobes.katCols ∧
      (t.lobe a).role = (if okA = false ∧ okB = true then (if s.mayRun a = true then .diagnosing else .offline) else .active) ∧
      (t.lobe b).role =
        (if okB = false then (if s.mayRun b = true then .diagnosing else .offline)
         else if okA = true ∧ s.objN Obj.MISMATCH_LIMIT 0 ≤
            ((mget [] s.lobes.mismatches col).filter fun k => !s.elapsed k 1000000000).length then
           (if s.mayRun b = true then .diagnosing else .offline)
         else .standby) := by
  obtain ⟨hkat, hra, hrb⟩ := katVerdict_judges (s := katTaken s col) (col := col) hact hstb hA hB
  refine ⟨_, congrArg (finish s) (if_pos (List.contains_iff_mem.mpr hcol)), ?_, hra, hrb⟩
  show col ∉ (katVerdict (katTaken s col) col passA passB).lobes.katCols
  rw [hkat]
  simp [katTaken]

theorem RoleMoved.kat {x y : Lobe} (h : RoleMoved y x) : x.katPending = y.katPending ∧ x.katTurn = y.katTurn := by
  rw [h.1]
  exact ⟨rfl, rfl⟩

/-- The state with the verdict of a lobe's own test noted. -/
def katNoted (s : State) (col l : Nat) : State := s.setLobe l { s.lobe l with katPending := false, katTurn := (col + 1) % 42 }

theorem katPeriodic_eq (s : State) (col l : Nat) (pass : Bool) : katPeriodic s col l pass =
    if (s.lobe l).katPending ∧ (s.lobe l).katTurn = col then if pass then katNoted s col l else yieldLobe (katNoted s col l) l 1 else s := rfl

theorem katPeriodic_lobeOnly (s : State) (col l : Nat) (pass : Bool) : LobeOnly l s (katPeriodic s col l pass) := by
  have hn : LobeOnly l s (katNoted s col l) := .setLobe (.refl l s)
  rw [katPeriodic_eq]
  exact .ite (.ite hn (hn.trans (yieldLobe_lobeOnly _ _ _))) (.refl l s)

theorem katPeriodic_objs (s : State) (col l : Nat) (pass : Bool) : ObjsOnly storeObjs s (katPeriodic s col l pass) := by
  rw [katPeriodic_eq]
  exact .ite (.ite (.of_objs rfl) (.trans (.of_objs rfl) (yieldLobe_objs (katNoted s col l) l 1))) (.refl s)

/-- The verdict of a test that a lobe awaits. -/
theorem katPeriodic_judges {pass : Bool} (hp : (s.lobe l).katPending = true) (hc : (s.lobe l).katTurn = col)
    (hr : (s.lobe l).role = .active ∨ (s.lobe l).role = .standby) :
    ((katPeriodic s col l pass).lobe l).katPending = false ∧ ((katPeriodic s col l pass).lobe l).katTurn = (col + 1) % 42 ∧
      ((katPeriodic s col l pass).lobe l).role =
        (if pass = true then (s.lobe l).role else if s.mayRun l = true then .diagnosing else .offline) := by
  rw [katPeriodic_eq, if_pos ⟨hp, hc⟩]
  have hlobe : (katNoted s col l).lobe l = { s.lobe l with katPending := false, katTurn := (col + 1) % 42 } := lobe_setLobe _ _ _
  have hrun : (katNoted s col l).mayRun l = s.mayRun l := mayRun_setLobe s l rfl
  generalize katNoted s col l = u at hlobe hrun ⊢
  have hrole : (u.lobe l).role = (s.lobe l).role := by rw [hlobe]
  cases pass
  · obtain ⟨h, hm⟩ := yieldLobe_moved u l 1
    have hleaves := (yieldLobe_leaves u l (cause := 1) (by rw [hrole]; exact hr.imp_right .inl)).1
    obtain ⟨hpend, hturn⟩ := hm.kat
    refine ⟨hpend.trans (by rw [hlobe]), hturn.trans (by rw [hlobe]), ?_⟩
    rw [if_neg (by decide), hleaves, hrun]
    rfl
  · exact ⟨by rw [if_pos rfl, hlobe], by rw [if_pos rfl, hlobe], by rw [if_pos rfl, hrole]; rfl⟩

theorem katDone_periodic {passA passB ok : Bool} (hcol : col ∉ s.lobes.katCols) (hl : l < 2) (hok : ok = (if l = 0 then passA else passB))
    (hp : (s.lobe l).katPending = true) (hc : (s.lobe l).katTurn = col) (hr : (s.lobe l).role = .active ∨ (s.lobe l).role = .standby) :
    ∃ t, exec (.katDone col passA passB) s = .next t ∧ (t.lobe l).katPending = false ∧ (t.lobe l).katTurn = (col + 1) % 42 ∧
      (t.lobe l).role = (if ok = true then (s.lobe l).role else if s.mayRun l = true then .diagnosing else .offline) := by
  have hrun : exec (.katDone col passA passB) s = finish s (katPeriodic (katPeriodic s col 0 passA) col 1 passB) :=
    congrArg (finish s) (if_neg (by simpa using hcol))
  refine ⟨_, hrun, ?_⟩
  show ((katPeriodic (katPeriodic s col 0 passA) col 1 passB).lobe l).katPending = false ∧
    ((katPeriodic (katPeriodic s col 0 passA) col 1 passB).lobe l).katTurn = _ ∧ ((katPeriodic (katPeriodic s col 0 passA) col 1 passB).lobe l).role = _
  obtain rfl | rfl : l = 0 ∨ l = 1 := by omega
  · rw [(katPeriodic_lobeOnly (katPeriodic s col 0 passA) col 1 passB).others 0 (by decide), hok]
    exact katPeriodic_judges hp hc hr
  · have hkept := (katPeriodic_lobeOnly s col 0 passA).others 1 (by decide)
    have hmay : (katPeriodic s col 0 passA).mayRun 1 = s.mayRun 1 := by
      unfold State.mayRun
      rw [hkept, katPeriodic_objs s col 0 passA _ _ (by decide)]
    rw [hok, ← hkept, ← hmay]
    rw [← hkept] at hp hc hr
    exact katPeriodic_judges hp hc hr

/-- Each lobe's own test falls due every KAT_INTERVAL (R321). -/
theorem katIntervalEnd_marks (hl : l < 2) : ∃ t, exec (.katIntervalEnd l) s = .next t ∧
    if ((s.lobe l).role = .active ∨ (s.lobe l).role = .standby ∨ (s.lobe l).role = .syncing) ∧
        s.elapsed (s.lobe l).katAt (1000000 * s.objN Obj.KAT_INTERVAL 0) = true then
      t.lobe l = { s.lobe l with katPending := true, katAt := s.tick } ∧ t.lobe (1 - l) = s.lobe (1 - l) ∧ Frame [.ex, .lobes] s t
    else Frame [.ex] s t := by
  split
  case isTrue h =>
    refine ⟨_, congrArg (finish s) (if_pos ⟨hl, h⟩), lobe_setLobe s l _, lobe_setLobe_other s _ (partner_ne hl), ?_⟩
    exact frame_sealed (.step (State.setLobe_frame _ _ _) (by decide) (.refl s)) (by decide)
  case isFalse h =>
    exact ⟨_, congrArg (finish s) (if_neg fun e => h e.2), frame_sealed (.refl s) (by decide)⟩

end

/-- Settles O49: each command that tells of a fault makes its lobe yield, a comparison judges the one column that differs, and a test's
verdict sends the lobes that failed it away. -/
theorem lobeFaults : Obligations.LobeFaults := by
  unfold Obligations.LobeFaults
  refine ⟨fun l cause c s hl hc => ?_, fun col d s hc h0 ha hb hs => digestCompare_judges hc h0 ha hb hs,
    fun l col d n s hl hc h0 ha hr hb hs hn hlt => digestCompare_counts hl hc h0 ha hr hb hs hn hlt,
    fun peer s h => digestCompare_idle h, fun col a b passA passB okA okB s hcol ha hb hA hB => katDone_judges hcol ha hb hA hB,
    fun col l passA passB ok s hcol hl hok hp ht hr => katDone_periodic hcol hl hok hp ht hr, fun l s hl => katIntervalEnd_marks hl⟩
  rcases fault_yields (s := s) hl hc with ⟨hrun, hne⟩ | hrun
  · obtain ⟨hother, hself⟩ := yieldLobe_answers (s := s) (w := s) cause hl rfl rfl rfl
    exact ⟨_, hrun, hother, fun e => absurd e (hne l), hself⟩
  · obtain ⟨hother, hself⟩ := yieldLobe_answers (s := s) (w := counterMarked s l) cause hl rfl rfl rfl
    exact ⟨_, hrun, hother, fun _ => counterMarked_fault s l cause, hself⟩

end Sys2Proof.Proofs

/-!
SUPPORT. The proofs of heartbeats sent, received and missed (spec/11_lobes.md, Heartbeats).
-/

namespace Sys2Proof.Proofs

open Sys2Proof Sys2Proof.Machine Sys2Proof.Laws

section

variable {s : State} {l q : Nat} {hb : Heartbeat}

/-! ### Heartbeats sent (R323) -/

/-- The state with a lobe's heartbeat sent. -/
def hbSent (s : State) (l : Nat) : State :=
  let u := s.setLobe l { s.lobe l with hbAt := some s.tick }
  { u with lobes := { u.lobes with sent := s.heartbeatOf l :: s.lobes.sent.filter fun h => h.lobe ≠ l } }

theorem hbDue_iff : s.hbDue l = true ↔ (s.lobe l).role ≠ .offline ∧ ∀ k, (s.lobe l).hbAt = some k → k + 1563 ≤ s.tick := by
  unfold State.hbDue
  rw [Bool.and_eq_true, bne_iff_ne]
  refine and_congr_right fun _ => ?_
  split
  case h_1 t h => simp [h]
  case h_2 h => simp [h]

theorem heartbeatSend_sends (hl : l < 2) (hr : (s.lobe l).role ≠ .offline) (hk : ∀ k, (s.lobe l).hbAt = some k → k + 1563 ≤ s.tick) :
    ∃ t h, exec (.heartbeatSend l) s = .next t ∧ t.lobes.sent.head? = some h ∧ h.lobe = l ∧ h.role = (s.lobe l).role ∧
      h.claim = (s.lobe l).claim ∧ h.epoch = (s.lobe l).seenEpoch ∧ h.snapSeq = s.lobes.snapSeq ∧ h.yield = none ∧
      h.handover = (if (s.lobe l).role = .active ∧ s.finalDone = true then some (s.scan + 1) else none) ∧
      t.lobe l = { s.lobe l with hbAt := some s.tick } ∧ t.lobe (1 - l) = s.lobe (1 - l) ∧ Frame [.ex, .lobes] s t := by
  have hrun : exec (.heartbeatSend l) s = finish s (hbSent s l) := congrArg (finish s) (if_pos ⟨hl, hbDue_iff.mpr ⟨hr, hk⟩⟩)
  refine ⟨_, s.heartbeatOf l, hrun, rfl, rfl, rfl, rfl, rfl, rfl, rfl, ?_, lobe_setLobe s l _, lobe_setLobe_other s _ (partner_ne hl), ?_⟩
  · simp [State.heartbeatOf]
  · exact frame_sealed (.set_lobes (by decide) (.step (State.setLobe_frame _ _ _) (by decide) (.refl s))) (by decide)

theorem heartbeatSend_idle (h : (s.lobe l).role = .offline ∨ ∃ k, (s.lobe l).hbAt = some k ∧ s.tick < k + 1563) :
    ∃ t, exec (.heartbeatSend l) s = .next t ∧ Frame [.ex] s t := by
  have hd : ¬ s.hbDue l = true := by
    rw [hbDue_iff]
    rintro ⟨hr, hk⟩
    rcases h with h | ⟨k, he, hlt⟩
    · exact hr h
    · exact absurd (hk k he) (by omega)
  exact ⟨_, congrArg (finish s) (if_neg fun e => hd e.2), frame_sealed (.refl s) (by decide)⟩

/-! ### A heartbeat on its path (R323) -/

theorem hbPath_setHbPath (s : State) (q : Nat) (p : HbPath) : (s.setHbPath q p).hbPath q = p := by
  simp only [State.hbPath, State.setHbPath, Pair.at, Pair.put]
  split <;> rfl

theorem hbPath_setHbPath_other (s : State) {q m : Nat} (p : HbPath) (h : (q = 0) ≠ (m = 0)) : (s.setHbPath q p).hbPath m = s.hbPath m := by
  simp only [State.hbPath, State.setHbPath, Pair.at, Pair.put]
  split_ifs with hm hl <;> simp_all

theorem hbPath_of_lobes {t : State} (h : t.lobes = s.lobes) (q : Nat) : t.hbPath q = s.hbPath q := congrArg (fun k : Lobes => k.paths.at q) h

theorem at_put {α : Type} (p : Pair α) (l : Nat) (v : α) : (p.put l v).at l = v := by
  simp only [Pair.at, Pair.put]
  split <;> rfl

/-- A heartbeat on a path leaves the lobes, and its reception there. -/
theorem hbOnPath_notes (s : State) (l q : Nat) : (hbOnPath s l q).lobes.each = s.lobes.each ∧
    (hbOnPath s l q).lobes.handover = s.lobes.handover ∧
    (((hbOnPath s l q).hbPath q).rx.at l).last = s.tick ∧ (((hbOnPath s l q).hbPath q).rx.at l).miss = 0 := by
  unfold hbOnPath
  extract_lets p x gap missed since u w
  have hw : w.lobes = { s.lobes with paths := s.lobes.paths.put q { p with rx := p.rx.put l { last := s.tick, since := since, miss := 0 } } } := rfl
  have hpath : w.hbPath q = { p with rx := p.rx.put l { last := s.tick, since := since, miss := 0 } } := by
    unfold State.hbPath
    rw [hw]
    exact at_put _ _ _
  clear_value w
  split
  · have hr := raise_lobes (w.setHbPath q { w.hbPath q with failed := false }) 0x6006 l [.word q]
    refine ⟨?_, ?_, ?_⟩
    · rw [hr]
      show w.lobes.each = _
      rw [hw]
    · rw [hr]
      show w.lobes.handover = _
      rw [hw]
    · rw [hbPath_of_lobes hr, hbPath_setHbPath, hpath]
      simp [at_put]
  · rw [hpath, hw]
    simp [at_put]

/-! ### The stages of a reception (R324, R429) -/

/-- The state with a valid heartbeat noted. -/
def hbMarked (s : State) (l q : Nat) (hb : Heartbeat) : State :=
  let u := hbOnPath s l q
  let u := u.setLobe l { u.lobe l with lastHb := some u.tick, seenEpoch := max (u.lobe l).seenEpoch (max hb.epoch (hb.claim / 2)),
                                       heardActive := if hb.role = .active then some u.tick else (u.lobe l).heardActive }
  (u.setLobe l { u.lobe l with linkLost := false }).unfault (.linkLost l)

/-- That state, the lobe free to claim again where heartbeats have come for 1 ms. -/
def hbNoted (s : State) (l q : Nat) (hb : Heartbeat) : State :=
  let u := hbMarked s l q hb
  if u.hbSince l + 156250 ≤ u.tick then u.setLobe l { u.lobe l with noReclaim := false } else u

/-- With the counters compared where the heartbeat has come on path 0. -/
def hbCompared (s : State) (l q : Nat) (hb : Heartbeat) : State := if q = 0 then compareCounters (hbNoted s l q hb) else hbNoted s l q hb

/-- What a YIELD makes of a state. -/
def hbYielded (s : State) (l : Nat) (hb : Heartbeat) : State :=
  match hb.yield with
  | some _ => if s.oldYield l hb then s else declareLost s l 2
  | none => s

/-- What an ACTIVE lobe's heartbeat makes of a state in which the lobe waits for one. -/
def hbSynced (s : State) (l : Nat) (hb : Heartbeat) : State :=
  if hb.role = .active ∧ (s.lobe l).waitsDiagnosed ∧ s.active.isSome then toSyncing s l else s

/-- What a HANDOVER makes of a state. -/
def hbHanded (s : State) (l : Nat) (hb : Heartbeat) : State :=
  match hb.handover with
  | some h => if (s.lobe l).role = .standby then { s with lobes := { s.lobes with handover := some h } } else s
  | none => s

theorem hbReceive_eq (s : State) (l q : Nat) (hb : Heartbeat) :
    hbReceive s l q hb = hbHanded (hbSynced (hbYielded (hbCompared s l q hb) l hb) l hb) l hb := rfl

theorem hbMarked_lobe (s : State) (l q : Nat) (hb : Heartbeat) : (hbMarked s l q hb).lobe l =
    { s.lobe l with lastHb := some s.tick, seenEpoch := max (s.lobe l).seenEpoch (max hb.epoch (hb.claim / 2)),
                    heardActive := if hb.role = .active then some s.tick else (s.lobe l).heardActive, linkLost := false } := by
  have hlobe : (hbOnPath s l q).lobe l = s.lobe l := congrArg (fun p : Pair Lobe => p.at l) (hbOnPath_notes s l q).1
  unfold hbMarked
  dsimp only
  rw [lobe_of_lobes ((State.unfault_frame _ _).lobes rfl), lobe_setLobe, lobe_setLobe, hlobe, (hbOnPath_frame s l q).tick rfl]

/-- From the first state to the second a lobe's record changes and nothing else of the lobes. -/
theorem LobeOnly.paths {t : State} (h : LobeOnly l s t) (q : Nat) : t.hbPath q = s.hbPath q := by
  unfold State.hbPath
  rw [h.shared]

theorem LobeOnly.handover {t : State} (h : LobeOnly l s t) : t.lobes.handover = s.lobes.handover := by rw [h.shared]

theorem hbMarked_lobeOnly (s : State) (l q : Nat) (hb : Heartbeat) : LobeOnly l (hbOnPath s l q) (hbMarked s l q hb) :=
  .frame (State.unfault_frame _ _) (by decide) (.setLobe (.setLobe (.refl l _)))

theorem hbNoted_lobeOnly (s : State) (l q : Nat) (hb : Heartbeat) : LobeOnly l (hbOnPath s l q) (hbNoted s l q hb) :=
  .ite (.setLobe (hbMarked_lobeOnly s l q hb)) (hbMarked_lobeOnly s l q hb)

/-- The record of a lobe that has noted a heartbeat. -/
theorem hbNoted_lobe (s : State) (l q : Nat) (hb : Heartbeat) : ∃ b, (hbNoted s l q hb).lobe l =
    { s.lobe l with lastHb := some s.tick, seenEpoch := max (s.lobe l).seenEpoch (max hb.epoch (hb.claim / 2)),
                    heardActive := if hb.role = .active then some s.tick else (s.lobe l).heardActive, linkLost := false, noReclaim := b } ∧
    ((s.lobe l).noReclaim = false → b = false) := by
  have hm := hbMarked_lobe s l q hb
  unfold hbNoted
  dsimp only
  split
  · exact ⟨false, by rw [lobe_setLobe, hm], fun _ => rfl⟩
  · exact ⟨(s.lobe l).noReclaim, hm, id⟩

theorem hbNoted_other (s : State) {m : Nat} (hm : (l = 0) ≠ (m = 0)) : (hbNoted s l q hb).lobe m = s.lobe m :=
  ((hbNoted_lobeOnly s l q hb).others m hm).trans (congrArg (fun p : Pair Lobe => p.at m) (hbOnPath_notes s l q).1)

theorem hbNoted_paths (s : State) (l q : Nat) (hb : Heartbeat) : (((hbNoted s l q hb).hbPath q).rx.at l).last = s.tick ∧
    (((hbNoted s l q hb).hbPath q).rx.at l).miss = 0 := by
  rw [(hbNoted_lobeOnly s l q hb).paths]
  exact (hbOnPath_notes s l q).2.2

theorem hbNoted_handover (s : State) (l q : Nat) (hb : Heartbeat) : (hbNoted s l q hb).lobes.handover = s.lobes.handover :=
  (hbNoted_lobeOnly s l q hb).handover.trans (hbOnPath_notes s l q).2.1

theorem hbNoted_frame (s : State) (l q : Nat) (hb : Heartbeat) : Frame [.objs, .dev, .ex, .lobes, .sorus] s (hbNoted s l q hb) := by
  have hm : Frame [.objs, .dev, .ex, .lobes, .sorus] s (hbMarked s l q hb) := by
    unfold hbMarked
    refine .step (State.unfault_frame _ _) (by decide) (.step (State.setLobe_frame _ _ _) (by decide) ?_)
    exact .step (State.setLobe_frame _ _ _) (by decide) (.step (hbOnPath_frame _ _ _) (by decide) (.refl s))
  exact .ite (.step (State.setLobe_frame _ _ _) (by decide) hm) hm

/-! ### What the counters' comparison and resynchronisation leave -/

/-- From a lobe's record to another what a heartbeat has noted stays. -/
def NotedKept (x y : Lobe) : Prop :=
  y.lastHb = x.lastHb ∧ y.seenEpoch = x.seenEpoch ∧ y.heardActive = x.heardActive ∧ (x.linkLost = false → y.linkLost = false)

theorem NotedKept.refl (x : Lobe) : NotedKept x x := ⟨rfl, rfl, rfl, id⟩

theorem NotedKept.trans {x y z : Lobe} (h : NotedKept x y) (k : NotedKept y z) : NotedKept x z := by
  obtain ⟨h1, h2, h3, h4⟩ := h
  obtain ⟨k1, k2, k3, k4⟩ := k
  exact ⟨k1.trans h1, k2.trans h2, k3.trans h3, k4 ∘ h4⟩

theorem RoleMoved.noted {x y : Lobe} (h : RoleMoved y x) : NotedKept y x := by
  refine ⟨?_, ?_, ?_, h.2⟩ <;> rw [h.1]

theorem yieldLobe_noted (s : State) (l cause : Nat) : NotedKept (s.lobe l) ((yieldLobe s l cause).lobe l) := by
  obtain ⟨h, hm⟩ := yieldLobe_moved s l cause
  exact NotedKept.trans ⟨rfl, rfl, rfl, id⟩ hm.noted

/-- The counter differences of the last hour. -/
def recentResyncs (s : State) : List (Nat × Nat) := s.time.resyncs.filter fun r => !s.elapsed r.2 3600000000000

/-- The state with a difference of the counters noted against a lobe. -/
def resyncMarked (s : State) (m : Nat) : State :=
  { s with time := { s.time with resyncDue := true, resyncs := (m, s.tick) :: recentResyncs s } }

theorem compareCounters_eq {a : Nat} (ha : s.active = some a) : compareCounters s =
    if (s.time.ctr.a.ns ≠ s.time.ctr.b.ns ∨ s.time.ctr.a.frac ≠ s.time.ctr.b.frac) ∧ (s.lobe (1 - a)).role ≠ .offline ∧ ¬ s.time.resyncDue then
      if 2 ≤ ((recentResyncs s).filter fun r => r.1 == 1 - a).length then counterFault (resyncMarked s (1 - a)) (1 - a)
      else resyncMarked s (1 - a)
    else s := by
  unfold compareCounters
  rw [ha]
  rfl

theorem compareCounters_equal (hns : s.time.ctr.a.ns = s.time.ctr.b.ns) (hfrac : s.time.ctr.a.frac = s.time.ctr.b.frac) :
    compareCounters s = s := by
  cases ha : s.active with
  | none =>
    unfold compareCounters
    rw [ha]
  | some a =>
    rw [compareCounters_eq ha]
    exact if_neg fun h => h.1.elim (absurd hns) (absurd hfrac)

theorem compareCounters_keeps (s : State) (hl : l < 2) : NotedKept (s.lobe l) ((compareCounters s).lobe l) ∧
    ∀ q, (compareCounters s).hbPath q = s.hbPath q := by
  cases ha : s.active with
  | none =>
    unfold compareCounters
    rw [ha]
    exact ⟨.refl _, fun _ => rfl⟩
  | some a =>
    rw [compareCounters_eq ha]
    split
    case isFalse => exact ⟨.refl _, fun _ => rfl⟩
    case isTrue =>
      split
      case isFalse => exact ⟨.refl _, fun _ => rfl⟩
      case isTrue =>
        rw [counterFault_eq]
        have hm : (counterMarked (resyncMarked s (1 - a)) (1 - a)).lobes = s.lobes := rfl
        generalize counterMarked (resyncMarked s (1 - a)) (1 - a) = u at hm ⊢
        have hlo := yieldLobe_lobeOnly u (1 - a) 5
        rw [← lobe_of_lobes hm l]
        refine ⟨?_, fun q => (hlo.paths q).trans (hbPath_of_lobes hm q)⟩
        obtain rfl | hne : l = 1 - a ∨ l ≠ 1 - a := by omega
        · exact yieldLobe_noted u _ 5
        · have h2 := (role_of_active ha).1
          have hother : (1 - a = 0) ≠ (l = 0) := by
            obtain rfl : l = a := by omega
            exact (partner_ne h2).symm
          rw [hlo.others l hother]
          exact .refl _

/-- A difference of the counters found by the ACTIVE lobe on path 0 is to be mended. -/
theorem compareCounters_due (ha : s.active = some l) (hns : s.time.ctr.a.ns ≠ s.time.ctr.b.ns) (hr : (s.lobe (1 - l)).role ≠ .offline) :
    (compareCounters s).time.resyncDue = true := by
  rw [compareCounters_eq ha]
  split
  case isFalse h => exact by_contra fun hd => h ⟨.inl hns, hr, hd⟩
  case isTrue =>
    split
    case isFalse => rfl
    case isTrue => exact congrArg Time.resyncDue ((yieldLobe_frame _ _ 5).time rfl)

theorem toSyncing_resyncDue (s : State) (l : Nat) : (toSyncing s l).time.resyncDue = s.time.resyncDue := by
  have hload (u : State) : (loadCounter u l).1.time.resyncDue = u.time.resyncDue := by
    unfold loadCounter
    split
    · rfl
    · dsimp only
      split
      · rfl
      · dsimp only
        rw [raise_time]
  refine (hload _).trans ?_
  exact congrArg Time.resyncDue ((setRole_frame s l .syncing).time rfl)

theorem hbSynced_lobeOnly (s : State) (l : Nat) (hb : Heartbeat) : LobeOnly l s (hbSynced s l hb) := .ite (toSyncing_lobeOnly s l) (.refl l s)

theorem hbSynced_noted (s : State) (l : Nat) (hb : Heartbeat) : NotedKept (s.lobe l) ((hbSynced s l hb).lobe l) := by
  unfold hbSynced
  split
  · exact (toSyncing_moved s l).noted
  · exact .refl _

theorem hbSynced_role (s : State) (l : Nat) (hb : Heartbeat) : ((hbSynced s l hb).lobe l).role =
    if hb.role = .active ∧ (s.lobe l).waitsDiagnosed = true ∧ s.active.isSome = true then .syncing else (s.lobe l).role := by
  unfold hbSynced
  split
  · exact toSyncing_role s l
  · rfl

theorem hbHanded_each (s : State) (l : Nat) (hb : Heartbeat) : (hbHanded s l hb).lobes.each = s.lobes.each := by
  unfold hbHanded
  split
  · split <;> rfl
  · rfl

theorem hbHanded_lobe (s : State) (l : Nat) (hb : Heartbeat) (m : Nat) : (hbHanded s l hb).lobe m = s.lobe m :=
  congrArg (fun p : Pair Lobe => p.at m) (hbHanded_each s l hb)

theorem hbHanded_paths (s : State) (l : Nat) (hb : Heartbeat) (q : Nat) : (hbHanded s l hb).hbPath q = s.hbPath q := by
  unfold hbHanded
  split
  · split <;> rfl
  · rfl

theorem hbHanded_time (s : State) (l : Nat) (hb : Heartbeat) : (hbHanded s l hb).time = s.time := by
  unfold hbHanded
  split
  · split <;> rfl
  · rfl

theorem hbHanded_handover (s : State) (l : Nat) (hb : Heartbeat) : (hbHanded s l hb).lobes.handover =
    if (s.lobe l).role = .standby ∧ hb.handover.isSome = true then hb.handover else s.lobes.handover := by
  unfold hbHanded
  cases hb.handover with
  | none => simp
  | some h =>
    dsimp only
    by_cases hr : (s.lobe l).role = .standby <;> simp [hr]

theorem hbYielded_none (s : State) (l : Nat) (h : hb.yield = none) : hbYielded s l hb = s := by
  unfold hbYielded
  rw [h]

theorem active_congr {t : State} (h : ∀ l, (t.lobe l).role = (s.lobe l).role) : t.active = s.active := by
  have ha : t.lobes.each.a.role = s.lobes.each.a.role := h 0
  have hb : t.lobes.each.b.role = s.lobes.each.b.role := h 1
  simp [State.active, ha, hb]

theorem hbNoted_roles (s : State) (l q : Nat) (hb : Heartbeat) (m : Nat) : ((hbNoted s l q hb).lobe m).role = (s.lobe m).role := by
  obtain ⟨b, hlobe, -⟩ := hbNoted_lobe s l q hb
  by_cases hm : (l = 0) = (m = 0)
  · have he (u : State) : u.lobe m = u.lobe l := by simp [State.lobe, Pair.at, hm]
    rw [he, he, hlobe]
  · rw [hbNoted_other s hm]

theorem hbNoted_active (s : State) (l q : Nat) (hb : Heartbeat) : (hbNoted s l q hb).active = s.active := active_congr (hbNoted_roles s l q hb)

theorem hbNoted_time (s : State) (l q : Nat) (hb : Heartbeat) : (hbNoted s l q hb).time = s.time := (hbNoted_frame s l q hb).time rfl

theorem heartbeatReceive_runs (hl : l < 2) (hq : q < 2) (hb1 : hb.lobe = 1 - l) (hr : (s.lobe l).role ≠ .offline)
    (hm : q = 1 → s.mat.mailBad = false) : exec (.heartbeatReceive l q hb true) s = finish s (hbReceive s l q hb) := by
  have hok : ¬ (q = 1 ∧ s.mat.mailBad = true) := fun e => by simp [hm e.1] at e
  exact congrArg (finish s) ((if_neg hok).trans (if_pos ⟨hl, hq, rfl, hb1, hr⟩))

/-- With equal counters nothing comes of their comparison. -/
theorem hbCompared_equal (hns : s.time.ctr.a.ns = s.time.ctr.b.ns) (hfrac : s.time.ctr.a.frac = s.time.ctr.b.frac) :
    hbCompared s l q hb = hbNoted s l q hb := by
  have htime := hbNoted_time s l q hb
  unfold hbCompared
  split
  · exact compareCounters_equal (by rwa [htime]) (by rwa [htime])
  · rfl

theorem hbCompared_keeps (hl : l < 2) : NotedKept ((hbNoted s l q hb).lobe l) ((hbCompared s l q hb).lobe l) ∧
    ∀ p, (hbCompared s l q hb).hbPath p = (hbNoted s l q hb).hbPath p := by
  unfold hbCompared
  split
  · exact compareCounters_keeps _ hl
  · exact ⟨.refl _, fun _ => rfl⟩

theorem hbNoted_waits (s : State) (l q : Nat) (hb : Heartbeat) : ((hbNoted s l q hb).lobe l).waitsDiagnosed = (s.lobe l).waitsDiagnosed := by
  obtain ⟨b, hlobe, -⟩ := hbNoted_lobe s l q hb
  rw [hlobe]
  rfl

/-- A valid heartbeat without YIELD (R323, R324, R429). -/
theorem heartbeatReceive_notes (hl : l < 2) (hq : q < 2) (hb1 : hb.lobe = 1 - l) (hr : (s.lobe l).role ≠ .offline) (hy : hb.yield = none)
    (hm : q = 1 → s.mat.mailBad = false) :
    ∃ t, exec (.heartbeatReceive l q hb true) s = .next t ∧ (t.lobe l).lastHb = some s.tick ∧
      ((t.hbPath q).rx.at l).last = s.tick ∧ ((t.hbPath q).rx.at l).miss = 0 ∧
      (t.lobe l).seenEpoch = max (s.lobe l).seenEpoch (max hb.epoch (hb.claim / 2)) ∧
      (t.lobe l).linkLost = false ∧ (hb.role = .active → (t.lobe l).heardActive = some s.tick) ∧
      (s.time.ctr.a.ns = s.time.ctr.b.ns → s.time.ctr.a.frac = s.time.ctr.b.frac →
        (t.lobe l).role = (if hb.role = .active ∧ (s.lobe l).waitsDiagnosed = true ∧ s.active.isSome = true then .syncing
          else (s.lobe l).role) ∧ t.lobe (1 - l) = s.lobe (1 - l) ∧
        t.lobes.handover = (if (s.lobe l).role = .standby ∧ hb.handover.isSome = true then hb.handover else s.lobes.handover)) ∧
      (q = 0 → s.time.ctr.a.ns ≠ s.time.ctr.b.ns → s.active = some l → (s.lobe (1 - l)).role ≠ .offline →
        t.time.resyncDue = true) := by
  obtain ⟨b, hlobe, -⟩ := hbNoted_lobe s l q hb
  obtain ⟨hlast, hmiss⟩ := hbNoted_paths s l q hb
  obtain ⟨hnoted, hpaths⟩ := hbCompared_keeps (s := s) (q := q) (hb := hb) hl
  have hrec : hbReceive s l q hb = hbHanded (hbSynced (hbCompared s l q hb) l hb) l hb := by rw [hbReceive_eq, hbYielded_none _ _ hy]
  obtain ⟨k1, k2, k3, k4⟩ := hnoted.trans (hbSynced_noted (hbCompared s l q hb) l hb)
  have hend := hbHanded_lobe (hbSynced (hbCompared s l q hb) l hb) l hb
  have hpath : (hbReceive s l q hb).hbPath q = (hbNoted s l q hb).hbPath q := by
    rw [hrec, hbHanded_paths, (hbSynced_lobeOnly _ l hb).paths, hpaths]
  refine ⟨_, heartbeatReceive_runs hl hq hb1 hr hm, ?_⟩
  show ((hbReceive s l q hb).lobe l).lastHb = _ ∧ (((hbReceive s l q hb).hbPath q).rx.at l).last = _ ∧
    (((hbReceive s l q hb).hbPath q).rx.at l).miss = _ ∧ ((hbReceive s l q hb).lobe l).seenEpoch = _ ∧ ((hbReceive s l q hb).lobe l).linkLost = _ ∧
    (_ → ((hbReceive s l q hb).lobe l).heardActive = _) ∧ (_ → _ → ((hbReceive s l q hb).lobe l).role = _ ∧ (hbReceive s l q hb).lobe (1 - l) = _ ∧
      (hbReceive s l q hb).lobes.handover = _) ∧ (_ → _ → _ → _ → (hbReceive s l q hb).time.resyncDue = _)
  rw [hpath, hrec, hend, hend]
  refine ⟨k1.trans (by rw [hlobe]), hlast, hmiss, k2.trans (by rw [hlobe]), k4 (by rw [hlobe]), fun ha => k3.trans (by rw [hlobe]; exact if_pos ha),
    fun hns hfrac => ?_, fun h0 hns hact hother => ?_⟩
  · rw [hbCompared_equal hns hfrac, hbSynced_role, hbHanded_handover, hbSynced_role, (hbSynced_lobeOnly _ l hb).others _ (partner_ne hl),
      (hbSynced_lobeOnly _ l hb).handover, hbNoted_waits, hbNoted_active, hbNoted_handover, hbNoted_roles, hbNoted_other s (partner_ne hl)]
    refine ⟨rfl, rfl, ?_⟩
    by_cases hw : hb.role = .active ∧ (s.lobe l).waitsDiagnosed = true ∧ s.active.isSome = true
    · have hdiag : (s.lobe l).role = .diagnosing := by
        have h := hw.2.1
        simp only [Lobe.waitsDiagnosed, Bool.and_eq_true, beq_iff_eq] at h
        exact h.1.1
      simp [hw, hdiag]
    · rw [if_neg hw]
  · rw [hbHanded_time]
    have hcmp : (hbCompared s l q hb).time.resyncDue = true := by
      unfold hbCompared
      rw [if_pos h0]
      refine compareCounters_due (l := l) ?_ ?_ ?_
      · rw [hbNoted_active, hact]
      · rwa [hbNoted_time]
      · rwa [hbNoted_roles]
    unfold hbSynced
    split
    · rw [toSyncing_resyncDue, hcmp]
    · exact hcmp

/-! ### YIELD (R322, R324) -/

/-- A lobe that claims already, or an ACTIVE one that has dealt with the loss, takes no second YIELD. -/
theorem heartbeatReceive_again {cause : Nat} (hl : l < 2) (hb1 : hb.lobe = 1 - l) (hr : (s.lobe l).role ≠ .offline)
    (hc : (s.lobe l).claiming.isSome = true ∨ (s.lobe l).role = .active ∧ hb.epoch < (s.lobe l).seenEpoch) (hy : hb.yield = some cause)
    (hm : s.mat.mailBad = false) :
    ∃ t, exec (.heartbeatReceive l 1 hb true) s = .next t ∧ (t.lobe l).claiming = (s.lobe l).claiming ∧
      (t.lobe l).claim = (s.lobe l).claim ∧ (t.lobe l).role = (s.lobe l).role := by
  obtain ⟨b, hlobe, -⟩ := hbNoted_lobe s l 1 hb
  refine ⟨_, heartbeatReceive_runs hl (by decide) hb1 hr (fun _ => hm), ?_⟩
  have hcmp : hbCompared s l 1 hb = hbNoted s l 1 hb := if_neg (by decide)
  generalize hbNoted s l 1 hb = u at hlobe hcmp
  have hyield : hbYielded u l hb = u := by
    unfold hbYielded
    rw [hy]
    dsimp only
    split
    case isTrue => rfl
    case isFalse ho =>
      rcases hc with hc | ⟨ha, hlt⟩
      · refine if_neg fun e => ?_
        have hnone := e.2
        rw [hlobe] at hnone
        dsimp only at hnone
        simp [hnone] at hc
      · refine absurd ?_ ho
        rw [State.oldYield, hlobe]
        simp [ha, hlt]
  have hsync : hbSynced u l hb = u := by
    refine if_neg fun e => ?_
    have hw := e.2.1
    rw [hlobe] at hw
    simp only [Lobe.waitsDiagnosed, Bool.and_eq_true, beq_iff_eq, Option.isNone_iff_eq_none] at hw
    rcases hc with hc | ⟨ha, -⟩
    · simp [hw.2] at hc
    · simp [ha] at hw
  show ((hbReceive s l 1 hb).lobe l).claiming = _ ∧ ((hbReceive s l 1 hb).lobe l).claim = _ ∧ ((hbReceive s l 1 hb).lobe l).role = _
  rw [hbReceive_eq, hbHanded_lobe, hcmp, hyield, hsync, hlobe]
  exact ⟨rfl, rfl, rfl⟩

theorem takeClaim_lobe (s : State) (l cause : Nat) : (takeClaim s l cause).lobe l =
    { s.lobe l with claim := claimOf ((s.lobe l).seenEpoch + 1) l, seenEpoch := (s.lobe l).seenEpoch + 1, claiming := some (cause, s.tick) } :=
  lobe_setLobe _ _ _

theorem takeClaim_lobeOnly (s : State) (l cause : Nat) : LobeOnly l s (takeClaim s l cause) := .setLobe (.refl l s)

/-- The state with a lobe's peer silent. -/
def peerSilent (s : State) (l : Nat) : State := s.setLobe l { s.lobe l with lastHb := none }

theorem declareLost_runs {cause : Nat} (h : (s.lobe l).role = .active ∨ (s.lobe l).role = .standby ∨ (s.lobe l).role = .syncing)
    (hc : (s.lobe l).claiming = none) : declareLost s l cause =
    if (s.lobe l).noReclaim then linkLost (peerSilent s l) l else takeClaim (peerSilent s l) l cause := if_pos ⟨h, hc⟩

/-- A running lobe whose peer yields claims at once. -/
theorem heartbeatReceive_claims {cause : Nat} (hl : l < 2) (hq : q < 2) (hb1 : hb.lobe = 1 - l) (hy : hb.yield = some cause)
    (hm : q = 1 → s.mat.mailBad = false) (hr : (s.lobe l).role = .active ∨ (s.lobe l).role = .standby ∨ (s.lobe l).role = .syncing)
    (hn : (s.lobe l).noReclaim = false) (hc : (s.lobe l).claiming = none)
    (he : (s.lobe l).role = .active → max (s.lobe l).seenEpoch (hb.claim / 2) ≤ hb.epoch)
    (hns : s.time.ctr.a.ns = s.time.ctr.b.ns) (hfrac : s.time.ctr.a.frac = s.time.ctr.b.frac) :
    ∃ t, exec (.heartbeatReceive l q hb true) s = .next t ∧ (t.lobe l).claiming = some (2, s.tick) ∧
      (t.lobe l).claim = claimOf (max (s.lobe l).seenEpoch (max hb.epoch (hb.claim / 2)) + 1) l := by
  obtain ⟨b, hlobe, hbn⟩ := hbNoted_lobe s l q hb
  obtain rfl := hbn hn
  have htick := (hbNoted_frame s l q hb).tick rfl
  have hoff : (s.lobe l).role ≠ .offline := by rcases hr with h | h | h <;> simp [h]
  refine ⟨_, heartbeatReceive_runs hl hq hb1 hoff hm, ?_⟩
  have hcmp := hbCompared_equal (l := l) (q := q) (hb := hb) hns hfrac
  generalize hbNoted s l q hb = u at hlobe hcmp htick
  have hrole : (u.lobe l).role = (s.lobe l).role := by rw [hlobe]
  have hold : u.oldYield l hb = false := by
    rw [State.oldYield, hlobe]
    by_cases ha : (s.lobe l).role = .active
    · have hle := he ha
      simp only [ha, beq_self_eq_true, Bool.true_and, decide_eq_false_iff_not]
      omega
    · simp [ha]
  have hyield : hbYielded u l hb = takeClaim (peerSilent u l) l 2 := by
    unfold hbYielded
    rw [hy]
    dsimp only
    rw [if_neg (by rw [hold]; decide), declareLost_runs (by rwa [hrole]) (by rw [hlobe, hc])]
    exact if_neg (by rw [hlobe]; exact Bool.false_ne_true)
  have htaken := takeClaim_lobe (peerSilent u l) l 2
  have hsilent : (peerSilent u l).lobe l = { u.lobe l with lastHb := none } := lobe_setLobe _ _ _
  have htick' : (peerSilent u l).tick = s.tick := htick
  generalize peerSilent u l = w at hyield htaken hsilent htick'
  have hsync : hbSynced (takeClaim w l 2) l hb = takeClaim w l 2 := by
    refine if_neg fun e => ?_
    have hw := e.2.1
    rw [htaken] at hw
    simp [Lobe.waitsDiagnosed] at hw
  show ((hbReceive s l q hb).lobe l).claiming = _ ∧ ((hbReceive s l q hb).lobe l).claim = _
  rw [hbReceive_eq, hbHanded_lobe, hcmp, hyield, hsync, htaken, hsilent, hlobe, htick']
  exact ⟨rfl, rfl⟩

/-! ### Heartbeats that are not valid (R323, R502) -/

theorem heartbeatReceive_invalid {crcOk : Bool} (h : crcOk = false ∨ hb.lobe ≠ 1 - l) (hm : q = 1 → s.mat.mailBad = false) :
    ∃ t, exec (.heartbeatReceive l q hb crcOk) s = .next t ∧ Frame [.ex] s t := by
  have hok : ¬ (q = 1 ∧ s.mat.mailBad = true) := fun e => by simp [hm e.1] at e
  have hbad : ¬ (l < 2 ∧ q < 2 ∧ crcOk = true ∧ hb.lobe = 1 - l ∧ (s.lobe l).role ≠ .offline) := by
    rintro ⟨-, -, hcrc, hlobe, -⟩
    rcases h with h | h
    · simp [h] at hcrc
    · exact h hlobe
  exact ⟨_, congrArg (finish s) ((if_neg hok).trans (if_neg hbad)), frame_sealed (.refl s) (by decide)⟩

theorem heartbeatReceive_badMail {crcOk : Bool} (hm : s.mat.mailBad = true) :
    ∃ t, exec (.heartbeatReceive l 1 hb crcOk) s = .next t ∧ t.mat = { s.mat with mailBad := false } ∧ Frame [.ex, .mat] s t :=
  ⟨_, congrArg (finish s) (if_pos ⟨rfl, hm⟩), rfl, frame_sealed (.set_mat (by decide) (.refl s)) (by decide)⟩

/-- A path silent for three intervals while the other delivers is FAILED. -/
theorem hbPathFailed_judges (hq : q < 2) (hf : (s.hbPath q).failed = false) : ∃ t, exec (.hbPathFailed q) s = .next t ∧
    if s.pathSilent q 0 = true ∨ s.pathSilent q 1 = true then
      (t.hbPath q).failed = true ∧ t.hbPath (1 - q) = s.hbPath (1 - q) ∧ t.lobes.each = s.lobes.each
    else Frame [.ex] s t := by
  split
  case isFalse h => exact ⟨_, congrArg (finish s) (if_neg fun e => h e.2.2), frame_sealed (.refl s) (by decide)⟩
  case isTrue h =>
    refine ⟨_, congrArg (finish s) (if_pos ⟨hq, by simp [hf], h⟩), ?_⟩
    dsimp only
    generalize (if s.pathSilent q 0 = true then 0 else 1) = l
    generalize (s.tick - ((s.hbPath q).rx.at l).last) / 1563 = n
    have hp : ∃ p : HbPath, p.failed = true ∧ { s.hbPath q with failed := true, failedAt := s.tick, rx := (s.hbPath q).rx.put l { (s.hbPath q).rx.at l with miss := n } } = p :=
      ⟨_, rfl, rfl⟩
    obtain ⟨p, hpf, hpe⟩ := hp
    rw [hpe]
    have hlobes (k : Nat) : (raise ((s.setHbPath q p).incSat Obj.HB_MISSES q k) 0x6005 l [.word q]).lobes = (s.setHbPath q p).lobes :=
      raise_lobes _ _ _ _
    refine ⟨?_, ?_, ?_⟩
    · refine (congrArg HbPath.failed (hbPath_of_lobes (hlobes _) q)).trans ?_
      rw [hbPath_setHbPath, hpf]
    · exact (hbPath_of_lobes (hlobes _) _).trans (hbPath_setHbPath_other s p (partner_ne hq))
    · exact (congrArg Lobes.each (hlobes _)).trans rfl

/-! ### Loss of the peer (R324, R337) -/

theorem linkLost_lobe (s : State) (l : Nat) : (linkLost s l).lobe l = { s.lobe l with linkLost := true } := by
  unfold linkLost
  split
  case isTrue h =>
    rw [← h]
  case isFalse =>
    rw [lobe_of_lobes (raise_lobes _ _ _ _), lobe_of_lobes ((State.fault_frame _ _).lobes rfl), lobe_setLobe]

theorem linkLost_lobeOnly (s : State) (l : Nat) : LobeOnly l s (linkLost s l) := by
  refine .ite (.refl l s) (.trans ?_ (.of_lobes (raise_lobes _ _ _ _)))
  exact .frame (State.fault_frame _ _) (by decide) (.setLobe (.refl l s))

theorem peerSilent_lobe (s : State) (l : Nat) : (peerSilent s l).lobe l = { s.lobe l with lastHb := none } := lobe_setLobe _ _ _

theorem peerSilent_lobeOnly (s : State) (l : Nat) : LobeOnly l s (peerSilent s l) := .setLobe (.refl l s)

theorem peerLost_declares {k : Nat} (hl : l < 2) (hk : (s.lobe l).lastHb = some k)
    (hr : (s.lobe l).role = .active ∨ (s.lobe l).role = .standby ∨ (s.lobe l).role = .syncing) :
    ∃ t, exec (.peerLost l) s = .next t ∧ t.lobe (1 - l) = s.lobe (1 - l) ∧ (t.lobe l).role = (s.lobe l).role ∧
      if s.tick < k + 4689 ∨ (s.lobe l).claiming.isSome = true then Frame [.ex] s t
      else if (s.lobe l).noReclaim = true then (t.lobe l).linkLost = true ∧ (t.lobe l).claim = (s.lobe l).claim
      else (t.lobe l).claim = claimOf ((s.lobe l).seenEpoch + 1) l ∧ (t.lobe l).seenEpoch = (s.lobe l).seenEpoch + 1 ∧
        (t.lobe l).claiming = some (1, s.tick) ∧ (t.lobe l).lastHb = none := by
  have hw : ¬ (l < 2 ∧ (s.lobe l).waitsDiagnosed = true) := fun e => by
    have h := e.2
    simp only [Lobe.waitsDiagnosed, Bool.and_eq_true, beq_iff_eq] at h
    rcases hr with hr | hr | hr <;> simp [hr] at h
  have hrun : exec (.peerLost l) s = finish s (if k + threeIntervals ≤ s.tick then declareLost s l 1 else s) := by
    refine (congrArg (finish s) ((if_neg hw).trans (if_pos hl))).trans ?_
    rw [hk]
  refine ⟨_, hrun, ?_⟩
  have hthree : threeIntervals = 4689 := rfl
  rw [hthree]
  by_cases hlate : s.tick < k + 4689 ∨ (s.lobe l).claiming.isSome = true
  · rw [if_pos hlate]
    have hidle : (if k + 4689 ≤ s.tick then declareLost s l 1 else s) = s := by
      rcases hlate with h | h
      · exact if_neg (by omega)
      · have hd : declareLost s l 1 = s := if_neg fun e => by simp [e.2] at h
        rw [hd]
        exact ite_self _
    rw [hidle]
    exact ⟨rfl, rfl, frame_sealed (.refl s) (by decide)⟩
  · rw [if_neg hlate]
    obtain ⟨hle, hnone⟩ := not_or.mp hlate
    rw [if_pos (by omega), declareLost_runs hr (by simpa using hnone)]
    have hsl := peerSilent_lobe s l
    have hso := (peerSilent_lobeOnly s l).others _ (partner_ne hl)
    have htick : (peerSilent s l).tick = s.tick := rfl
    generalize peerSilent s l = w at hsl hso htick ⊢
    split
    case isTrue hn =>
      have hlo := linkLost_lobe w l
      have ho := (linkLost_lobeOnly w l).others _ (partner_ne hl)
      generalize linkLost w l = v at hlo ho
      rw [hsl] at hlo
      exact ⟨ho.trans hso, (congrArg Lobe.role hlo).trans rfl, (congrArg Lobe.linkLost hlo).trans rfl, (congrArg Lobe.claim hlo).trans rfl⟩
    case isFalse hn =>
      have hlo := takeClaim_lobe w l 1
      have ho := (takeClaim_lobeOnly w l 1).others _ (partner_ne hl)
      generalize takeClaim w l 1 = v at hlo ho
      rw [hsl, htick] at hlo
      exact ⟨ho.trans hso, (congrArg Lobe.role hlo).trans rfl, (congrArg Lobe.claim hlo).trans rfl, (congrArg Lobe.seenEpoch hlo).trans rfl, (congrArg Lobe.claiming hlo).trans rfl,
        (congrArg Lobe.lastHb hlo).trans rfl⟩

theorem claimsFirst_iff : s.claimsFirst l = true ↔ ¬ (s.hearsActive l = true ∨ s.tick < (s.lobe l).since + 4689) := by
  unfold State.claimsFirst
  rw [Bool.and_eq_true, Bool.not_eq_true', not_or, Bool.not_eq_true, not_lt]
  exact and_congr_right fun _ => ⟨of_decide_eq_true, fun h => decide_eq_true h⟩

theorem peerLost_claims (hl : l < 2) (hw : (s.lobe l).waitsDiagnosed = true) : ∃ t, exec (.peerLost l) s = .next t ∧
    if s.hearsActive l = true ∨ s.tick < (s.lobe l).since + 4689 then Frame [.ex] s t
    else (t.lobe l).claiming = some (0, s.tick) ∧ (t.lobe l).claim = claimOf ((s.lobe l).seenEpoch + 1) l ∧
      t.lobe (1 - l) = s.lobe (1 - l) ∧ Frame [.ex, .lobes] s t := by
  have hrun : exec (.peerLost l) s = finish s (if s.claimsFirst l then takeClaim s l 0 else s) := congrArg (finish s) (if_pos ⟨hl, hw⟩)
  refine ⟨_, hrun, ?_⟩
  split
  case isTrue h =>
    rw [if_neg fun e => claimsFirst_iff.mp e h]
    exact frame_sealed (.refl s) (by decide)
  case isFalse h =>
    rw [if_pos (claimsFirst_iff.mpr h)]
    have hlo := takeClaim_lobe s l 0
    exact ⟨congrArg Lobe.claiming hlo, congrArg Lobe.claim hlo, (takeClaim_lobeOnly s l 0).others _ (partner_ne hl),
      frame_sealed (.step (takeClaim_frame s l 0) (by decide) (.refl s)) (by decide)⟩

end

/-- Settles O47: a reception goes through its stages, each of which leaves what the heartbeat has noted, and a lobe that loses its peer claims
unless it may not. -/
theorem heartbeats : Obligations.Heartbeats := by
  unfold Obligations.Heartbeats
  exact ⟨fun l s hl hr hk => heartbeatSend_sends hl hr hk, fun l s h => heartbeatSend_idle h,
    fun l q hb s hl hq hb1 hr hy hm => heartbeatReceive_notes hl hq hb1 hr hy hm,
    fun l cause hb s hl hb1 hr hc hy hm => heartbeatReceive_again hl hb1 hr hc hy hm,
    fun l q cause hb s hl hq hb1 hy hm hr hn hc he hns hfrac => heartbeatReceive_claims hl hq hb1 hy hm hr hn hc he hns hfrac,
    fun l q hb crcOk s h hm => heartbeatReceive_invalid h hm, fun l hb crcOk s hm => heartbeatReceive_badMail hm,
    fun q s hq hf => hbPathFailed_judges hq hf, fun l k s hl hk hr => peerLost_declares hl hk hr, fun l s hl hw => peerLost_claims hl hw⟩

end Sys2Proof.Proofs

/-!
SUPPORT. What the device does by itself with commits, grants and calibration runs leaves of the answers owed, the lobes, a calibration run
that has ended and the objects of the lobes and of the scan.
-/

namespace Sys2Proof.Proofs

open Sys2Proof Sys2Proof.Machine Sys2Proof.Laws

/-- Objects of the lobes and of the scan. -/
def lobeObjs : List Nat := [Obj.FAILOVERS, Obj.LAST_FAILOVER_CAUSE, Obj.LOBE_HOLD_OFFLINE, Obj.SCAN_TIME]

/-- From the first state to the second no answer more is owed, the lobes' record changes by accepted and refused writes alone, no calibration
run begins, and the objects of the lobes and of the scan stay. -/
structure Inward (s t : State) : Prop where
  owed : ∀ o ∈ t.ex.owed, o ∈ s.ex.owed
  lobes : t.lobes = { s.lobes with gateHigh := t.lobes.gateHigh, refused := t.lobes.refused, lastWrite := t.lobes.lastWrite }
  run : s.cal.run = none → t.cal.run = none
  objs : ∀ a ∈ lobeObjs, ∀ i, t.obj a i = s.obj a i

/-- The components that an operation leaves alone wherever it is inward by its frame. -/
def inwardComps (m : List Comp) : Bool := !(m.contains .ex || m.contains .lobes || m.contains .cal || m.contains .objs)

section

variable {s t u : State} {m : List Comp}

theorem Inward.refl (s : State) : Inward s s := ⟨fun _ h => h, rfl, id, fun _ _ _ => rfl⟩

theorem Inward.trans (h : Inward s t) (k : Inward t u) : Inward s u :=
  ⟨fun o ho => h.owed o (k.owed o ho), by rw [k.lobes, h.lobes], k.run ∘ h.run, fun a ha i => (k.objs a ha i).trans (h.objs a ha i)⟩

theorem Inward.step (k : Inward t u) (h : Inward s t) : Inward s u := h.trans k

/-- Through an operation that touches no lobe, owes nothing more and begins no run. -/
theorem Inward.parts (k : Frame m t u) (hm : m.contains .lobes = false) (ho : u.ex.owed = t.ex.owed) (hr : t.cal.run = none → u.cal.run = none)
    {l : List Nat} (hl : ObjsOnly l t u) (hd : ∀ a ∈ lobeObjs, a ∉ l) (h : Inward s t) : Inward s u :=
  h.trans ⟨fun _ hu => ho ▸ hu, by rw [k.lobes hm], hr, fun a ha i => hl a i (hd a ha)⟩

/-- Through an operation that owes nothing more and touches neither lobes nor calibration. -/
theorem Inward.owing (k : Frame m t u) (hm : (m.contains .lobes || m.contains .cal) = false) (ho : u.ex.owed = t.ex.owed) {l : List Nat}
    (hl : ObjsOnly l t u) (hd : ∀ a ∈ lobeObjs, a ∉ l) (h : Inward s t) : Inward s u := by
  obtain ⟨hlobes, hcal⟩ := Bool.or_eq_false_iff.mp hm
  exact .parts k hlobes ho (fun e => by rwa [k.cal hcal]) hl hd h

theorem Inward.frame (k : Frame m t u) (hm : inwardComps m = true) (h : Inward s t) : Inward s u := by
  simp only [inwardComps, Bool.not_eq_true', Bool.or_eq_false_iff] at hm
  obtain ⟨⟨⟨hex, hlobes⟩, hcal⟩, hobjs⟩ := hm
  exact .owing (l := []) k (by rw [hlobes, hcal]; rfl) (congrArg Exvan.owed (k.ex hex)) (fun a i _ => obj_of_objs (k.objs hobjs) a i)
    (fun _ _ h => by cases h) h

theorem Inward.ite {p : Prop} [Decidable p] (h : Inward s t) (k : Inward s u) : Inward s (if p then t else u) := by
  split <;> assumption

theorem Inward.foldl {β : Type} {f : State → β → State} {l : List β} (hf : ∀ s b, Inward s (f s b)) (h : Inward s t) : Inward s (l.foldl f t) := by
  induction l generalizing t with
  | nil => exact h
  | cons b l ih => exact ih (h.trans (hf t b))

/-- Through a pair taken apart. -/
theorem Inward.fst {α : Type} {p : State × α} {a : α} (e : p = (t, a)) (h : Inward s p.1) : Inward s t := by
  subst e
  exact h

theorem Inward.setObj {a i : Nat} {v : Int} (ha : a ∉ lobeObjs) (h : Inward s t) : Inward s (t.setObj a i v) :=
  h.trans ⟨fun _ ho => ho, rfl, id, fun _ hx _ => obj_setObj_other v fun e => ha (e.1 ▸ hx)⟩

theorem Inward.setObjN {a i v : Nat} (ha : a ∉ lobeObjs) (h : Inward s t) : Inward s (t.setObjN a i v) := h.setObj ha

theorem Inward.incSat {a i n : Nat} (ha : a ∉ lobeObjs) (h : Inward s t) : Inward s (t.incSat a i n) := h.setObj ha

theorem Inward.set_ex {v : Exvan} (hv : ∀ o ∈ v.owed, o ∈ t.ex.owed) (h : Inward s t) : Inward s { t with ex := v } :=
  h.trans ⟨hv, rfl, id, fun _ _ _ => rfl⟩

theorem Inward.set_cal {v : Cal} (hv : t.cal.run = none → v.run = none) (h : Inward s t) : Inward s { t with cal := v } :=
  h.trans ⟨fun _ ho => ho, rfl, hv, fun _ _ _ => rfl⟩

theorem Inward.set_com {v} (h : Inward s t) : Inward s { t with com := v } := ⟨h.owed, h.lobes, h.run, h.objs⟩

theorem Inward.set_lib {v} (h : Inward s t) : Inward s { t with lib := v } := ⟨h.owed, h.lobes, h.run, h.objs⟩

theorem Inward.set_mat {v} (h : Inward s t) : Inward s { t with mat := v } := ⟨h.owed, h.lobes, h.run, h.objs⟩

theorem Inward.set_dev {v} (h : Inward s t) : Inward s { t with dev := v } := ⟨h.owed, h.lobes, h.run, h.objs⟩

theorem Inward.set_steady {v} (h : Inward s t) : Inward s { t with steady := v } := ⟨h.owed, h.lobes, h.run, h.objs⟩

theorem Inward.set_drv {v} (h : Inward s t) : Inward s { t with drv := v } := ⟨h.owed, h.lobes, h.run, h.objs⟩

theorem Inward.set_fab {v} (h : Inward s t) : Inward s { t with fab := v } := ⟨h.owed, h.lobes, h.run, h.objs⟩

theorem Inward.set_mon {v} (h : Inward s t) : Inward s { t with mon := v } := ⟨h.owed, h.lobes, h.run, h.objs⟩

/-! ### Events and answers -/

theorem raise_inward (s : State) (code lobe : Nat) (data : List EvItem) : Inward s (raise s code lobe data) :=
  .owing (l := eventObjs) (raise_frame s code lobe data) (by decide) (raise_told s code lobe data).owed
    (.kept (raise_objs s code lobe data) (by decide) (.refl s)) (by decide) (.refl s)

theorem Inward.raiseA {code : Nat} {data : List EvItem} (h : Inward s t) : Inward s (Machine.raiseA t code data) := h.trans (raise_inward _ _ _ _)

theorem Inward.raiseS {code : Nat} {data : List EvItem} (h : Inward s t) : Inward s (Machine.raiseS t code data) := h.trans (raise_inward _ _ _ _)

theorem sendTo_owed (s : State) (source : Nat) (o : Option Origin) (p : List Byte) : (sendTo s source o p).ex.owed = s.ex.owed := by
  unfold sendTo
  split
  · rfl
  · split <;> rfl

theorem sendTo_inward (s : State) (source : Nat) (o : Option Origin) (p : List Byte) : Inward s (sendTo s source o p) :=
  .owing (l := eventObjs) (sendTo_frame s source o p) (by decide) (sendTo_owed s source o p)
    (.frame (sendTo_frame s source o p) (by decide) (.refl s)) (by decide) (.refl s)

theorem sendAnswer_inward (s : State) (source : Nat) (a : Answer) : Inward s (sendAnswer s source a) :=
  .owing (l := eventObjs) (sendAnswer_frame s source a) (by decide) (sendAnswer_owed s source a)
    (.frame (sendAnswer_frame s source a) (by decide) (.refl s)) (by decide) (.refl s)

theorem setSession_inward (s : State) (i : Nat) (x : Session) : Inward s (s.setSession i x) := .set_ex (fun _ h => h) (.refl s)

theorem noteGroupSeq_owed (s : State) : (noteGroupSeq s).ex.owed = s.ex.owed := by
  have hi : ∀ (p : Prop) [Decidable p] (t : State) (c : Nat) (d : List EvItem),
      (if p then raiseA t c d else t).ex.owed = t.ex.owed := fun p _ t c d => by
    split
    · exact (raise_told _ _ _ _).owed
    · rfl
  have he : ∀ (b : Bool) (t : State), ({ t with ex := { t.ex with groupExhausted := b } } : State).ex.owed = t.ex.owed := fun _ _ => rfl
  unfold noteGroupSeq
  extract_lets n low x t u
  have ht : t.ex.owed = s.ex.owed := rfl
  have hval : ∃ c d, u = if low then raiseA t c d else t := ⟨_, _, rfl⟩
  clear_value u t low n
  have hu : u.ex.owed = t.ex.owed := by
    obtain ⟨c, d, rfl⟩ := hval
    exact hi _ t c d
  split
  · exact ((raise_told _ _ _ _).owed.trans (he _ _)).trans (hu.trans ht)
  · exact hu.trans ht

theorem noteGroupSeq_inward (s : State) : Inward s (noteGroupSeq s) :=
  .owing (l := eventObjs) (noteGroupSeq_frame s) (by decide) (noteGroupSeq_owed s) (.kept (noteGroupSeq_objs s) (by decide) (.refl s))
    (by decide) (.refl s)

theorem takeGroupSeq_inward (s : State) : Inward s (takeGroupSeq s) :=
  .step (noteGroupSeq_inward _) (.set_ex (v := { s.ex with groupCounter := s.ex.groupCounter + 1 }) (fun _ h => h) (.refl s))

theorem groupAnswer_inward (s : State) (a : Answer) : Inward s (groupAnswer s a) :=
  .ite ((sendAnswer_inward s 2 _).trans (takeGroupSeq_inward _)) (.ite (.set_ex (fun _ h => h) (.refl s)) (.refl s))

theorem closeSession_inward (s : State) (num reason : Nat) : Inward s (closeSession s num reason) := by
  unfold closeSession
  split
  · exact .refl s
  · refine .raiseA (.set_ex (fun _ h => (List.mem_filter.mp h).1) ?_)
    exact .frame (abandonLoad_frame s num true) (by decide) (.refl s)

theorem closeIfSpent_inward (s : State) (sess : Nat) : Inward s (closeIfSpent s sess) := by
  unfold closeIfSpent
  split
  · exact .ite (closeSession_inward s sess 4) (.refl s)
  · exact .refl s

theorem closeSpent_inward (s : State) : Inward s (closeSpent s) := .foldl (fun s _ => closeSession_inward s _ 4) (.refl s)

theorem answerFrom_inward (source : Nat) (cached : Bool) (s : State) (sess req addr sel : Nat) (r : Reply) :
    Inward s (answerFrom source cached s sess req addr sel r) := by
  unfold answerFrom
  split
  · exact (sendAnswer_inward s _ _).trans (setSession_inward _ _ _)
  · exact .ite (groupAnswer_inward s _) (.refl s)

theorem answerCommit_inward (s : State) (sess req : Nat) (r : Reply) : Inward s (answerCommit s sess req r) :=
  (answerFrom_inward _ _ _ _ _ _ _ _).trans (closeIfSpent_inward _ sess)

theorem nakUnsolicited_inward (s : State) (sess req : Nat) (n : Nak) (detail : Nat) : Inward s (nakUnsolicited s sess req n detail) := by
  unfold nakUnsolicited
  extract_lets reply
  split
  · exact ((sendAnswer_inward s _ _).trans (setSession_inward _ _ _)).trans (closeIfSpent_inward _ sess)
  · exact .ite (groupAnswer_inward s _) (.refl s)

theorem peerFrame_inward (s : State) (id : Nat) (t : Int) (dest : List Byte) : Inward s (peerFrame s id t dest) := by
  unfold peerFrame
  extract_lets to_ u src src' v
  have hu : Inward s u := sendTo_inward s 2 _ _
  have hv : Inward u v := ⟨fun _ h => h, rfl, fun h => h, fun _ _ _ => rfl⟩
  exact (hu.trans hv).trans (takeGroupSeq_inward v)

theorem sendPeerAbort_inward (s : State) (c : Commit) : Inward s (sendPeerAbort s c).1 := by
  unfold sendPeerAbort
  extract_lets dest
  split_ifs
  · exact .refl s
  · exact peerFrame_inward s c.id c.t dest
  · exact .set_ex (fun _ h => h) (.refl s)
  · exact .refl s

/-! ### The commits' log -/

theorem ringPut_inward (s : State) (r kind flags : Nat) (time : Int) (body : List Byte) : Inward s (ringPut s r kind flags time body).1 :=
  .owing (l := eventObjs) (Frame.of1 (ringPut_frame s r kind flags time body)) (by decide) (congrArg Exvan.owed ((Frame.of1 (ringPut_frame s r kind flags time body)).ex rfl))
    (.kept (ringPut_objs s r kind flags time body) (by decide) (.refl s)) (by decide) (.refl s)

theorem ringAll_inward (s : State) (takes : Ring → Bool) (kind flags : Nat) (time : Int) (body : List Byte) :
    Inward s (ringAll s takes kind flags time body) := by
  refine .foldl (fun s r => .ite (.refl s) ?_) (.refl s)
  have hput := ringPut_inward s r kind flags time body
  exact .ite (.raiseS hput) hput

theorem updateLog_inward (s : State) (n : Nat) (e : LogEntry) : Inward s (updateLog s n e) :=
  .ite ((Inward.set_com (.refl s)).trans (ringAll_inward _ _ _ _ _ _)) (.refl s)

theorem stepCommit_inward (s : State) (c : Commit) : Inward s (s.stepCommit c) :=
  .trans (.frame (State.putCommit_frame s c) (by decide) (.refl s)) (updateLog_inward _ _ _)

/-! ### Grants (chapter 10) -/

theorem Inward.showSteady (h : Inward s t) : Inward s (Machine.showSteady t) := by
  unfold Machine.showSteady
  exact .setObjN (by decide) (.setObjN (by decide) (.setObjN (by decide) (.setObjN (by decide) (.setObj (by decide) (.setObj (by decide) h)))))

theorem steadyDecides_inward (s : State) (kind : Nat) : Inward s (steadyDecides s kind).1 := by
  unfold steadyDecides
  extract_lets n drop s1 s2 s3
  split_ifs
  · exact .refl s
  · exact .refl s
  · exact .incSat (by decide) (.set_steady (.refl s))
  · exact .showSteady (.frame (State.fault_frame _ _) (by decide) (.raiseS (.set_steady (.set_steady (.refl s)))))

theorem closeReq_inward (s : State) (n st : Nat) : Inward s (closeReq s n st) := by
  unfold closeReq
  refine .setObjN (by decide) ?_
  split
  · exact .set_steady (.refl s)
  · exact .refl s

theorem issueGrant_inward (s : State) (r : GReq) : Inward s (issueGrant s r) :=
  .owing (l := steadyObjs) (issueGrant_frame s r) (by decide) (congrArg Exvan.owed ((issueGrant_frame s r).ex rfl)) (issueGrant_objs s r)
    (by decide) (.refl s)

theorem serveList_inward (q : List GReq) (s : State) : Inward s (serveList q s) := by
  induction q generalizing s with
  | nil => exact .set_steady (.refl s)
  | cons r q ih =>
    unfold serveList
    have hd := steadyDecides_inward s r.kind.code
    exact .ite (.ite ((hd.trans (issueGrant_inward _ r)).trans (ih _)) (.set_steady hd)) (.set_steady (.refl s))

theorem serveQueue_inward (s : State) : Inward s (serveQueue s) := .ite (.refl s) (.showSteady (serveList_inward _ s))

theorem releaseGrant_inward (s : State) (k : GKind) (src : Nat) : Inward s (releaseGrant s k src) := by
  have hd := steadyDecides_inward s 9
  exact .ite (.ite (.trans (.showSteady (.set_steady hd)) (serveQueue_inward _)) (.set_steady hd)) (.refl s)

theorem ringWrite_inward (s : State) (n : Nat) (r : GReq) : Inward s (ringWrite s n r) := by
  unfold ringWrite
  exact .raiseS (.setObjN (by decide) (.setObjN (by decide) (.setObjN (by decide) (.setObj (by decide)
    (.setObjN (by decide) (.setObjN (by decide) (.setObjN (by decide) (.setObjN (by decide) (.set_steady (.refl s))))))))))

theorem refillRing_inward (q : List GReq) (s : State) : Inward s (refillRing q s) := by
  induction q generalizing s with
  | nil => exact .set_steady (.refl s)
  | cons r q ih =>
    unfold refillRing
    split
    · exact (ringWrite_inward s _ r).trans (ih _)
    · exact .set_steady (.refl s)

theorem withdraw_inward (s : State) (k : GKind) (src : Nat) : Inward s (withdraw s k src) := by
  unfold withdraw
  refine .showSteady (.trans ?_ (refillRing_inward _ _))
  exact .foldl (fun s e => closeReq_inward s e.1 2) (.set_steady (.refl s))

/-! ### Abandoned commits (chapter 4) -/

theorem refuseHeld_inward (s : State) (h : HeldPrepare) (n : Nak) : Inward s (refuseHeld s h n) :=
  .step (answerCommit_inward _ _ _ _) (.set_com (withdraw_inward s .commit h.commit.id))

theorem invalidate_inward (s : State) (slot reason : Nat) : Inward s (invalidate s slot reason) :=
  .raiseA (.frame (State.setSlot_frame s slot .invalid) (by decide) (.refl s))

theorem slotAfter_inward (s : State) (slot : Nat) : Inward s (slotAfter s slot) := by
  unfold slotAfter
  exact .ite (.trans (.set_mat (.refl s)) (invalidate_inward _ _ _)) (.refl s)

/-- The end of a commit in its log entry, its grant, its count, its event and its slot. -/
theorem Inward.ended {n id code slot : Nat} {e : LogEntry} {f : Nat → CapAcc → CapAcc} {data : List EvItem} (h : Inward s t) :
    Inward s (Machine.slotAfter (Machine.raiseA (((Machine.releaseGrant (Machine.updateLog t n e) .commit id).incSat Obj.COMMITS_ABANDONED 0).capNote f)
      code data) slot) := by
  refine .step (slotAfter_inward _ _) (.raiseA (.frame (State.capNote_frame _ _) (by decide) ?_))
  exact .incSat (by decide) (.step (releaseGrant_inward _ _ _) (.step (updateLog_inward _ _ _) h))

theorem abandon_inward (s : State) (c : Commit) (why : Outc) : Inward s (abandon s c why) := by
  unfold abandon
  extract_lets armed s1 s2
  have h2 : Inward s s2 := .foldl (fun s h => refuseHeld_inward s h .unknown) (.frame (State.dropCommit_frame s c.id) (by decide) (.refl s))
  split
  next s3 c3 e =>
  have h3 : Inward s s3 := by
    refine .fst e ?_
    split_ifs
    · exact .step (sendPeerAbort_inward _ _) h2
    · exact h2
  split
  · exact .step (nakUnsolicited_inward _ _ _ _ _) h3.ended
  · exact h3.ended

/-! ### Codes written (chapter 7) -/

theorem noteWrite_inward (s : State) (b : Nat) : Inward s (noteWrite s b) := ⟨fun _ h => h, rfl, id, fun _ _ _ => rfl⟩

theorem noteRefused_inward (s : State) (b : Nat) : Inward s (noteRefused s b) := by
  unfold noteRefused
  split
  · split
    · exact .refl s
    · exact ⟨fun _ h => h, rfl, id, fun _ _ _ => rfl⟩
  · exact .refl s

theorem Inward.setChan {v : Nat} {x : Chan} (h : Inward s t) : Inward s (t.setChan v x) := .set_drv h

theorem writeTarget_inward (s : State) (v : Nat) (code : Int) : Inward s (writeTarget s v code) :=
  .ite (.setChan (noteWrite_inward s _)) (noteRefused_inward s _)

theorem writeDirect_inward (s : State) (v : Nat) (code : Int) : Inward s (writeDirect s v code) := by
  have hn := noteWrite_inward s (bankOf v)
  exact .ite (.ite (.setChan hn) (.ite (.setChan hn) (.setChan hn))) (noteRefused_inward s _)

theorem writePhase_inward (s : State) (e : Nat) (x : StagedElem) (phase : Nat) : Inward s (writePhase s e x phase) :=
  (writeDirect_inward s _ _).trans (writeDirect_inward _ _ _)

theorem advanceTemplate_inward (s : State) (e : Nat) (x : StagedElem) : Inward s (advanceTemplate s e x).1 := by
  unfold advanceTemplate
  split
  · exact .refl s
  · dsimp only
    split
    · exact writePhase_inward s _ _ _
    · exact .refl s

/-- Through the elements of a commit one by one. -/
theorem Inward.fold1 {α β : Type} {f : State × α → β → State × α} {l : List β} (hf : ∀ p b, Inward p.1 (f p b).1) {p : State × α} (h : Inward s p.1) :
    Inward s (l.foldl f p).1 := by
  induction l generalizing p with
  | nil => exact h
  | cons b l ih => exact ih (h.trans (hf p b))

theorem startWave_inward (s : State) (c : Commit) (w : Nat) : Inward s (startWave s c w).1 := by
  refine Inward.fold1 (p := (s, [])) (fun p q => ?_) (.refl s)
  dsimp only
  split
  · exact advanceTemplate_inward _ _ _
  · exact .refl _

theorem finishCodes_inward (s : State) (d : Commit) : Inward s (finishCodes s d) :=
  .foldl (fun s p => .ite (writePhase_inward s p.1 p.2 3) (.refl s)) (.refl s)

theorem restoreCodes_inward (s : State) (saved : List (Nat × Nat)) : Inward s (restoreCodes s saved) := by
  unfold restoreCodes
  exact .foldl (fun s c => .ite (writeDirect_inward s _ _) (writeTarget_inward s _ _)) (.refl s)

/-! ### Calibration runs that end (chapter 9) -/

theorem endCal_inward (s : State) (r : CalReq) (status : Nat) (quality : Int) (flags : Nat) : Inward s (endCal s r status quality flags) := by
  unfold endCal
  refine .step (releaseGrant_inward _ _ _) (.step (withdraw_inward _ _ _) (.raiseA ?_))
  exact .setObjN (by decide) (.setObj (by decide) (.setObjN (by decide) (.setObjN (by decide) (.set_cal (fun _ => rfl) (.refl s)))))

theorem returnBack_run (s : State) (now : Bool) : (returnBack s now).cal.run = s.cal.run := by
  obtain ⟨b, h⟩ := returnBack_cal s now
  rw [h]

theorem returnBack_inward (s : State) (now : Bool) : Inward s (returnBack s now) :=
  have hf := returnBack_frame s now
  .parts (l := eventObjs) hf (by decide) (congrArg Exvan.owed (hf.ex rfl)) (fun h => (returnBack_run s now).trans h)
    (.frame hf (by decide) (.refl s)) (by decide) (.refl s)

/-- A run that is aborted leaves none, and none begins. -/
theorem abortCal_inward (s : State) (reason : Nat) : Inward s (abortCal s reason) := by
  unfold abortCal
  split
  · exact .refl s
  next r hr =>
    refine .ite (.refl s) ?_
    extract_lets v w
    have hl := returnLanes_frame s r
    have hlanes : Inward s (returnLanes s r) := .parts (l := returnObjs) hl (by decide) (congrArg Exvan.owed (hl.ex rfl))
      (fun h => by rw [hr] at h; cases h) (returnLanes_objs s r) (by decide) (.refl s)
    have hv : Inward s v := hlanes.trans (returnBack_inward _ _)
    exact .step (endCal_inward _ _ _ _ _) (.ite (hv.trans (restoreCodes_inward _ _)) hv)

theorem abortCalByCommit_inward (s : State) (c : Commit) : Inward s (abortCalByCommit s c) := by
  unfold abortCalByCommit
  split
  · exact .ite ((abortCal_inward s 1).trans (restoreCodes_inward _ _)) (.refl s)
  · exact .refl s

/-! ### Commits at T and at their end (chapter 4) -/

theorem atModeBoundary_inward (s : State) (n : Nat) : Inward s (atModeBoundary s n) := .frame (atModeBoundary_frame s n) (by decide) (.refl s)

theorem queueLatch_inward (s : State) (l : Latch) : Inward s (queueLatch s l) := by
  unfold queueLatch
  exact .ite (.set_lib (.refl s)) (.ite (.set_lib (.refl s)) (.raiseA (.incSat (by decide) (.refl s))))

theorem bufferLatch_inward (s : State) (l : Latch) : Inward s (bufferLatch s l) := by
  unfold bufferLatch
  split
  · exact .raiseA (.set_lib (.refl s))
  · exact .raiseA (.incSat (by decide) (.refl s))

theorem latchDone_inward (s : State) (c : Commit) (o : Outc) : Inward s (latchDone s c o) := by
  unfold latchDone
  refine .ite (.incSat (by decide) (.trans (.set_mat (.refl s)) (invalidate_inward _ _ _))) (.ite (.refl s) ?_)
  exact .ite (bufferLatch_inward s _) (queueLatch_inward s _)

/-- The end of a commit that the next one supersedes. -/
theorem endSuperseded_inward (s : State) (c : Commit) : Inward s (endDone s c .superseded) := by
  unfold endDone
  extract_lets s1 missing d s2 s3 s4 s5 s6 s7
  have h2 : Inward s s2 := .trans (.frame (State.dropCommit_frame _ _) (by decide) (atModeBoundary_inward s 3)) (updateLog_inward _ _ _)
  have h4 : Inward s s4 := by
    have h : Inward s s3 := h2.trans (latchDone_inward _ _ _)
    exact h
  have h5 : Inward s s5 := h4.trans (releaseGrant_inward _ _ _)
  have h6 : Inward s s6 := .setObjN (by decide) (.incSat (by decide) h5)
  have h7 : Inward s s7 := .frame (State.capNote_frame _ _) (by decide) h6
  clear_value s7
  exact .ite h7.raiseA h7

theorem supersedeMoving_inward (s : State) : Inward s (supersedeMoving s) :=
  .foldl (fun s d => endSuperseded_inward s d) (.foldl finishCodes_inward (.refl s))

theorem enterService_inward (s : State) : Inward s (enterService s) := .ite (.raiseA (.set_dev (.refl s))) (.refl s)

theorem applyMapping_objs (s : State) (slot : Nat) (portMap routes : List Nat) :
    ObjsOnly [Obj.APPLIED_DEST, Obj.APPLIED_SOURCE, Obj.APPLIED_ROUTE, Obj.APPLIED_SLOT] s (applyMapping s slot portMap routes) := by
  unfold applyMapping
  extract_lets dest src rt objs
  refine .setObjN (by decide) fun a i ha => ?_
  simp only [List.mem_cons, not_or] at ha
  have hobjs : mfind objs a = mfind s.objs a := by
    rw [mfind_mset_other _ _ ha.2.2.1, mfind_mset_other _ _ ha.2.1, mfind_mset_other _ _ ha.1]
  unfold State.obj mfind2
  dsimp only
  rw [hobjs]

theorem applyMapping_inward (s : State) (slot : Nat) (portMap routes : List Nat) : Inward s (applyMapping s slot portMap routes) :=
  have hf := applyMapping_frame s slot portMap routes
  .owing hf (by decide) (congrArg Exvan.owed (hf.ex rfl)) (applyMapping_objs s slot portMap routes) (by decide) (.refl s)

theorem setElem_inward (s : State) (e : Nat) (x : Elem) : Inward s (s.setElem e x) := .frame (State.setElem_frame s e x) (by decide) (.refl s)

theorem setVoa_inward (s : State) (o : Nat) (x : Voa) : Inward s (s.setVoa o x) := .frame (State.setVoa_frame s o x) (by decide) (.refl s)

theorem voaAtT_inward (s : State) (o : Nat) (x : StagedVoa) : Inward s (voaAtT s o x) := by
  unfold voaAtT
  extract_lets v w u r
  have hu : Inward s u := .setObjN (by decide) (.setObj (by decide) (.refl s))
  have hr : Inward s r := .frame (voaRetarget_frame _ _) (by decide) (hu.trans (setVoa_inward _ _ _))
  exact .ite hr (hr.trans (writeTarget_inward _ _ _))

theorem elemsAtT_inward (s : State) (c : Commit) : Inward s (elemsAtT s c).1 := by
  unfold elemsAtT
  extract_lets done u
  refine .foldl (fun t p => ?_) (.refl s)
  extract_lets looped v
  have hv : Inward t v := setElem_inward t _ _
  exact .ite (.frame (noteRatio_frame _ _) (by decide) (.setObj (by decide) hv)) hv

theorem begunAtT_inward (s : State) (c : Commit) : Inward s (begunAtT s c).1 := by
  have hstep : Inward s (({ s with com := { s.com with appliedSerial := c.serial } } : State).stepCommit (takenAtT s c)) :=
    .trans (.set_com (.refl s)) (stepCommit_inward _ _)
  have hmapped : Inward s (mappedAtT s c) := hstep.trans (applyMapping_inward _ _ _ _)
  have hvoas : Inward s ((takenAtT s c).voas.foldl (fun s v => voaAtT s v.1 v.2) (mappedAtT s c)) :=
    .foldl (fun t v => voaAtT_inward t _ _) hmapped
  exact (hvoas.trans (elemsAtT_inward _ _)).trans (startWave_inward _ _ _)

theorem abortPinTest_inward (s : State) : Inward s (abortPinTest s) := by
  unfold abortPinTest
  split
  · unfold endPinTest
    exact .raiseA (.setObjN (by decide) (.set_fab (.refl s)))
  · exact .refl s

theorem applyCommit_inward (s : State) (c : Commit) : Inward s (applyCommit s c) := by
  rw [applyCommit_eq]
  extract_lets p
  have hp : Inward s p.1 := ((supersedeMoving_inward s).trans (enterService_inward _)).trans (begunAtT_inward _ c)
  refine .frame (State.capNote_frame _ _) (by decide) (.frame (trigSource_frame _ _) (by decide) (.step (abortPinTest_inward _) ?_))
  exact .step (abortCalByCommit_inward _ _) (.frame (State.putCommit_frame _ _) (by decide) hp)

/-! ### Commits at a fail-over (Table 4.6) -/

theorem resumeCommit_inward (s : State) (c : Commit) : Inward s (resumeCommit s c) := by
  unfold resumeCommit
  extract_lets u r d
  have hu : Inward s u := .foldl (fun t q => setElem_inward t _ _) (.refl s)
  have hr : Inward s r.1 := by
    refine hu.trans (Inward.fold1 (p := (u, [])) (fun p q => ?_) (.refl u))
    split
    · exact writePhase_inward _ _ _ _
    · exact .refl _
  exact .raiseA (hr.trans (stepCommit_inward _ _))

theorem settleArmed_inward (s : State) (c : Commit) : Inward s (settleArmed s c) := by
  unfold settleArmed
  extract_lets late
  exact .ite (.refl s) (.ite (.raiseA (applyCommit_inward s _)) (abandon_inward s c .late))

theorem settleCommits_inward (s : State) : Inward s (settleCommits s) := by
  unfold settleCommits
  extract_lets armed u
  refine .foldl settleArmed_inward (.foldl (fun t c => ?_) (.refl s))
  split
  · exact abandon_inward t c .failover
  · exact resumeCommit_inward t c
  · exact .refl t

/-! ### What a new ACTIVE lobe takes up (R40, R91, R99, R326, R466) -/

theorem reacquire_inward (s : State) (e : Nat) : Inward s (reacquire s e) := .frame (reacquire_frame s e) (by decide) (.refl s)

theorem adoptWraps_inward (s : State) : Inward s (adoptWraps s) := .frame (adoptWraps_frame s) (by decide) (.refl s)

theorem dropIdleWraps_inward (s : State) : Inward s (dropIdleWraps s) := by
  unfold dropIdleWraps
  extract_lets idle u
  exact .foldl (fun t g => releaseGrant_inward t .wrap _) (.foldl (fun t e => withdraw_inward t .wrap e) (.refl s))

theorem restartLoops_inward (s : State) : Inward s (restartLoops s) := by
  unfold restartLoops
  extract_lets u v
  refine .step (dropIdleWraps_inward _) (.step (adoptWraps_inward _) (.setObjN (by decide) (.foldl (fun t v => setVoa_inward t _ _) ?_)))
  refine .foldl (fun t e => ?_) (.refl s)
  have hfree : Inward t (if e.2.wrap.isSome then releaseGrant t .wrap e.1 else t) := .ite (releaseGrant_inward t _ _) (.refl t)
  exact .ite ((hfree.trans (setElem_inward _ _ _)).trans (reacquire_inward _ _)) (.refl t)

theorem reconcileAll_inward (s : State) (x : Snapshot) : Inward s (reconcileAll s x) := by
  unfold reconcileAll
  extract_lets todo n u v
  refine .step (dropIdleWraps_inward _) (.step (adoptWraps_inward _) (.setObjN (by decide) (.foldl (fun t v => setVoa_inward t _ _) ?_)))
  exact .foldl (fun t x => setElem_inward t _ _) (.refl s)

theorem restoreFuncs_inward (s : State) (x : Snapshot) : Inward s (restoreFuncs s x) := .frame (restoreFuncs_frame s x) (by decide) (.refl s)

theorem restoreSessions_inward (s : State) (x : Snapshot) : Inward s (restoreSessions s x) := .set_ex (fun _ h => h) (.refl s)

theorem advanceSeqs_inward (s : State) : Inward s (advanceSeqs s) :=
  .step (closeSpent_inward _) (.step (noteGroupSeq_inward _) (.set_ex (fun _ h => h) (.refl s)))

theorem endRollBack_inward (s : State) : Inward s (endRollBack s) := by
  unfold endRollBack
  split
  · exact .ite (.raiseA (.set_dev (.refl s))) (.refl s)
  · exact .refl s

theorem endRoute_inward (s : State) (slot status us : Nat) : Inward s (endRoute s slot status us) := by
  unfold endRoute
  exact .raiseA (.setObjN (by decide) (.setObjN (by decide) (.set_lib (.refl s))))

theorem freshDeadlines_inward (s : State) : Inward s (freshDeadlines s) := ⟨fun _ h => h, rfl, id, fun _ _ _ => rfl⟩

theorem fresh_inward (s : State) : Inward s s.fresh.2 := ⟨fun _ h => h, rfl, id, fun _ _ _ => rfl⟩

theorem cutWriteBack_inward (s : State) (beats : Option Nat) : Inward s (cutWriteBack s beats) := by
  unfold cutWriteBack
  split
  · exact .refl s
  next l _ =>
    have hcut (u : State) (b : List Byte) (h : Inward s u) : Inward s (({ u with lib := { u.lib with writing := none } } : State).slotWrite l.slot 0 b) :=
      .frame (State.slotWrite_frame _ _ _ _) (by decide) (.set_lib h)
    exact .ite (.frame (State.setSlot_frame _ _ _) (by decide) (hcut _ _ (fresh_inward s))) ((hcut _ _ (fresh_inward s)).trans (invalidate_inward _ _ _))

/-- What only the failed lobe held is lost, its calibration run with it. -/
theorem loseLocal_inward (s : State) : Inward s (loseLocal s) := by
  unfold loseLocal
  extract_lets u v adapt src w src' x y
  have hv : Inward s v := (abortCal_inward s 2).trans (returnBack_inward _ true)
  have hw : Inward s w := .set_cal (fun _ => rfl) hv
  have hy : Inward s y := .trans (.set_lib hw) (cutWriteBack_inward _ none)
  clear_value y
  split
  · refine .trans (.frame (State.setSlot_frame _ _ _) (by decide) (.frame (State.dropLoads_frame _ _) (by decide) hy)) (endRoute_inward _ _ _ _)
  · exact hy

theorem loseLocal_run (s : State) : (loseLocal s).cal.run = none := by
  unfold loseLocal
  extract_lets u v adapt src w src' x y
  have hy : y.cal.run = none := (cutWriteBack_inward x none).run rfl
  clear_value y
  split
  · exact (endRoute_inward _ _ _ _).run hy
  · exact hy

end

end Sys2Proof.Proofs

/-!
SUPPORT. What a claim, its broadcast and its loss leave of the lobes and the gates (R313 to R316, R332).
-/

namespace Sys2Proof.Proofs

open Sys2Proof Sys2Proof.Machine Sys2Proof.Laws

section

variable {s t : State} {l : Nat}

/-! ### The claim summary (R314) -/

theorem LobeOnly.gates (h : LobeOnly l s t) : t.gateMax = s.gateMax ∧ t.gateMin = s.gateMin ∧ t.lobes.gateBase = s.lobes.gateBase ∧
    t.lobes.gateStuck = s.lobes.gateStuck ∧ t.lobes.refused = s.lobes.refused := by
  unfold State.gateMax State.gateMin
  rw [h.shared]
  exact ⟨rfl, rfl, rfl, rfl, rfl⟩

theorem readSummary_lobe (s : State) (l : Nat) :
    (readSummary s l).lobe l = { s.lobe l with seenEpoch := max (s.lobe l).seenEpoch (s.gateMax / 2) } := lobe_setLobe _ _ _

theorem readSummary_lobeOnly (s : State) (l : Nat) : LobeOnly l s (readSummary s l) := .setLobe (.of_lobes rfl)

theorem objN_setObjN_same (s : State) (a i v : Nat) : (s.setObjN a i v).objN a i = v :=
  (congrArg Int.toNat (obj_setObjN s a i v)).trans (Int.toNat_natCast v)

theorem readSummary_shows (s : State) (l : Nat) :
    (readSummary s l).objN Obj.CLAIM_MAX 0 = s.gateMax ∧ (readSummary s l).objN Obj.CLAIM_MIN 0 = s.gateMin := by
  refine ⟨?_, objN_setObjN_same _ _ _ _⟩
  refine Eq.trans ?_ (objN_setObjN_same s Obj.CLAIM_MAX 0 s.gateMax)
  exact congrArg Int.toNat (obj_setObj_other _ (by decide))

/-! ### A claim's broadcast (R313) -/

/-- The state with the gates that a claim reaches raised to it. -/
def gatesRaised (s : State) (l : Nat) : State :=
  if s.lobes.gateBase < (s.lobe l).claim then
    { s with lobes := { s.lobes with gatePrev := s.lobes.gateBase, gateBase := (s.lobe l).claim, gateAt := s.tick
                                     gateHigh := s.lobes.gateHigh.filter fun g => decide ((s.lobe l).claim < g.2) } }
  else s

theorem broadcast_eq (s : State) (l : Nat) : broadcast s l = readSummary (gatesRaised s l) l := rfl

theorem gatesRaised_each (s : State) (l : Nat) : (gatesRaised s l).lobes.each = s.lobes.each ∧
    (gatesRaised s l).lobes.gateStuck = s.lobes.gateStuck ∧ (gatesRaised s l).lobes.gateBase = max s.lobes.gateBase (s.lobe l).claim := by
  unfold gatesRaised
  split
  · exact ⟨rfl, rfl, by dsimp only; omega⟩
  · exact ⟨rfl, rfl, by omega⟩

theorem gatesRaised_lobe (s : State) (l m : Nat) : (gatesRaised s l).lobe m = s.lobe m :=
  congrArg (fun p : Pair Lobe => p.at m) (gatesRaised_each s l).1

theorem gatesRaised_frame (s : State) (l : Nat) : Frame [.lobes] s (gatesRaised s l) := .ite (.set_lobes (by decide) (.refl s)) (.refl s)

/-! ### A claim that has lost (R315, R332) -/

/-- The state with a lobe's claim lowered to 0. -/
def claimLowered (s : State) (l : Nat) : State :=
  let x := s.lobe l
  let onLoss := match x.claiming with | some (c, _) => decide (c ≠ 0) | none => false
  s.setLobe l { x with claim := 0, claiming := none, noReclaim := x.noReclaim || (s.claimsNow l && onLoss)
                       lostAt := if s.claimsNow l then some s.tick else x.lostAt }

/-- The state with the lobe out of control. -/
def controlLeft (s : State) (l : Nat) : State :=
  if (s.lobe l).role = .active then loseRequests (takeRole (claimLowered s l) l .standby)
  else if (s.lobe l).role = .diagnosing ∧ (s.lobe l).diagnosed then toSyncing (claimLowered s l) l
  else claimLowered s l

/-- Whether a lobe has claimed on the loss of its peer. -/
def claimedOnLoss (s : State) (l : Nat) : Bool := match (s.lobe l).claiming with | some (c, _) => decide (c ≠ 0) | none => false

theorem loseClaim_eq (s : State) (l : Nat) : loseClaim s l =
    if s.claimsNow l then
      let v := raise (controlLeft s l) 0x6002 l [.word (1 - (controlLeft s l).gateMax % 2), .word (controlLeft s l).gateMax]
      if claimedOnLoss s l && (v.lobe l).lastHb.isNone then linkLost v l else v
    else controlLeft s l := rfl

/-- From a lobe's record to another the claim is 0 wherever it was, the lobe claims nowhere it did not, and what it has seen stays. -/
structure Unclaimed (y x : Lobe) : Prop where
  claim : y.claim = 0 → x.claim = 0
  claiming : y.claiming = none → x.claiming = none
  seen : x.seenEpoch = y.seenEpoch

theorem Unclaimed.refl (y : Lobe) : Unclaimed y y := ⟨id, id, rfl⟩

theorem Unclaimed.trans {x y z : Lobe} (h : Unclaimed z y) (k : Unclaimed y x) : Unclaimed z x :=
  ⟨k.claim ∘ h.claim, k.claiming ∘ h.claiming, k.seen.trans h.seen⟩

theorem setRole_unclaimed (s : State) (l : Nat) (r : Role) : Unclaimed (s.lobe l) ((setRole s l r).lobe l) := by
  rw [setRole_lobe]
  exact ⟨id, id, rfl⟩

theorem toOffline_unclaimed (s : State) (l reason : Nat) : Unclaimed (s.lobe l) ((toOffline s l reason).lobe l) := by
  obtain ⟨b, hb, -⟩ := offlineQuiet_lobe s l reason
  have hquiet : Unclaimed (s.lobe l) ((offlineQuiet s l reason).lobe l) := by
    rw [hb]
    exact ⟨id, id, rfl⟩
  rw [toOffline_eq]
  generalize offlineQuiet s l reason = u at hquiet ⊢
  split
  · exact hquiet
  · have hset := setRole_unclaimed u l .offline
    dsimp only
    rw [lobe_of_lobes (raise_lobes _ _ _ _), lobe_setLobe]
    exact ⟨fun _ => rfl, fun _ => rfl, (hset.seen.trans hquiet.seen :)⟩

theorem takeRole_unclaimed (s : State) (l : Nat) (r : Role) : Unclaimed (s.lobe l) ((takeRole s l r).lobe l) := by
  unfold takeRole
  split
  · exact setRole_unclaimed s l r
  · exact toOffline_unclaimed s l _

theorem toSyncing_unclaimed (s : State) (l : Nat) : Unclaimed (s.lobe l) ((toSyncing s l).lobe l) := by
  rw [toSyncing_lobe, setRole_lobe]
  exact ⟨id, fun _ => rfl, rfl⟩

theorem claimLowered_lobe (s : State) (l : Nat) : ((claimLowered s l).lobe l).claim = 0 ∧ ((claimLowered s l).lobe l).claiming = none ∧
    ((claimLowered s l).lobe l).seenEpoch = (s.lobe l).seenEpoch ∧ ((claimLowered s l).lobe l).role = (s.lobe l).role ∧
    ((claimLowered s l).lobe l).strapHigh = (s.lobe l).strapHigh := by
  unfold claimLowered
  dsimp only
  rw [lobe_setLobe]
  exact ⟨rfl, rfl, rfl, rfl, rfl⟩

theorem claimLowered_lobeOnly (s : State) (l : Nat) : LobeOnly l s (claimLowered s l) := .setLobe (.refl l s)

theorem claimLowered_mayRun (s : State) (l : Nat) : (claimLowered s l).mayRun l = s.mayRun l := by
  unfold State.mayRun
  rw [(claimLowered_lobe s l).2.2.2.2]
  rfl

theorem controlLeft_lobeOnly (s : State) (l : Nat) : LobeOnly l s (controlLeft s l) := by
  have h := claimLowered_lobeOnly s l
  exact .ite (.frame (loseRequests_frame _) (by decide) (h.trans (takeRole_lobeOnly _ _ _))) (.ite (h.trans (toSyncing_lobeOnly _ _)) h)

theorem controlLeft_unclaimed (s : State) (l : Nat) : ((controlLeft s l).lobe l).claim = 0 ∧ ((controlLeft s l).lobe l).claiming = none ∧
    ((controlLeft s l).lobe l).seenEpoch = (s.lobe l).seenEpoch := by
  obtain ⟨hclaim, hclaiming, hseen, -⟩ := claimLowered_lobe s l
  have hend (x : Lobe) (h : Unclaimed ((claimLowered s l).lobe l) x) : x.claim = 0 ∧ x.claiming = none ∧ x.seenEpoch = (s.lobe l).seenEpoch :=
    ⟨h.claim hclaim, h.claiming hclaiming, h.seen.trans hseen⟩
  unfold controlLeft
  split
  · exact hend _ (takeRole_unclaimed _ l .standby)
  · split
    · exact hend _ (toSyncing_unclaimed _ l)
    · exact hend _ (.refl _)

/-- The role of a lobe that has lost its claim. -/
theorem controlLeft_role (s : State) (l : Nat) : ((controlLeft s l).lobe l).role =
    if (s.lobe l).role = .active then (if s.mayRun l = true then .standby else .offline)
    else if (s.lobe l).role = .diagnosing ∧ (s.lobe l).diagnosed = true then .syncing else (s.lobe l).role := by
  unfold controlLeft
  split
  · refine (takeRole_role (claimLowered s l) l .standby).trans ?_
    rw [claimLowered_mayRun]
  · split
    · exact toSyncing_role _ l
    · exact (claimLowered_lobe s l).2.2.2.1

theorem loseClaim_lobeOnly (s : State) (l : Nat) : LobeOnly l s (loseClaim s l) := by
  have hv (data : List EvItem) : LobeOnly l s (raise (controlLeft s l) 0x6002 l data) :=
    (controlLeft_lobeOnly s l).trans (.of_lobes (raise_lobes _ _ _ _))
  rw [loseClaim_eq]
  exact .ite (.ite ((hv _).trans (linkLost_lobeOnly _ l)) (hv _)) (controlLeft_lobeOnly s l)

/-- The record of a lobe that has lost its claim, but for LINK_LOST. -/
theorem loseClaim_lobe (s : State) (l : Nat) : ∃ b, (loseClaim s l).lobe l = { (controlLeft s l).lobe l with linkLost := b } := by
  have hv (data : List EvItem) : (raise (controlLeft s l) 0x6002 l data).lobe l = (controlLeft s l).lobe l := lobe_of_lobes (raise_lobes _ _ _ _) l
  rw [loseClaim_eq]
  split
  · dsimp only
    split
    · exact ⟨true, by rw [linkLost_lobe, hv]⟩
    · exact ⟨((controlLeft s l).lobe l).linkLost, hv _⟩
  · exact ⟨((controlLeft s l).lobe l).linkLost, rfl⟩

theorem loseClaim_loses (s : State) (l : Nat) : ((loseClaim s l).lobe l).claim = 0 ∧ ((loseClaim s l).lobe l).claiming = none ∧
    ((loseClaim s l).lobe l).seenEpoch = (s.lobe l).seenEpoch ∧ ((loseClaim s l).lobe l).role =
      if (s.lobe l).role = .active then (if s.mayRun l = true then .standby else .offline)
      else if (s.lobe l).role = .diagnosing ∧ (s.lobe l).diagnosed = true then .syncing else (s.lobe l).role := by
  obtain ⟨b, h⟩ := loseClaim_lobe s l
  obtain ⟨hclaim, hclaiming, hseen⟩ := controlLeft_unclaimed s l
  rw [h]
  exact ⟨hclaim, hclaiming, hseen, controlLeft_role s l⟩

theorem loadCounter_objs (s : State) (l : Nat) : ObjsOnly eventObjs s (loadCounter s l).1 := by
  unfold loadCounter
  split
  · exact .refl s
  · dsimp only
    split
    · exact .refl s
    · exact .kept (raise_objs _ _ _ _) (by decide) (.of_objs rfl)

theorem toSyncing_objs (s : State) (l : Nat) : ObjsOnly eventObjs s (toSyncing s l) := fun a i ha =>
  (loadCounter_objs _ l a i ha).trans (setRole_objs s l .syncing a i ha)

theorem linkLost_objs (s : State) (l : Nat) : ObjsOnly eventObjs s (linkLost s l) :=
  .ite (.refl s) (.kept (raise_objs _ _ _ _) (by decide) (.frame (State.fault_frame _ _) (by decide) (.of_objs rfl)))

theorem loseClaim_objs (s : State) (l : Nat) : ObjsOnly eventObjs s (loseClaim s l) := by
  have hl : ObjsOnly eventObjs s (claimLowered s l) := .of_objs rfl
  have hc : ObjsOnly eventObjs s (controlLeft s l) :=
    .ite (.frame (loseRequests_frame _) (by decide) (hl.trans (takeRole_objs _ _ _))) (.ite (hl.trans (toSyncing_objs _ _)) hl)
  have hv (data : List EvItem) : ObjsOnly eventObjs s (raise (controlLeft s l) 0x6002 l data) := .kept (raise_objs _ _ _ _) (by decide) hc
  rw [loseClaim_eq]
  exact .ite (.ite ((hv _).trans (linkLost_objs _ l)) (hv _)) hc

/-! ### The commands of claims (R313 to R315) -/

theorem objN_of_only {k : List Nat} (h : ObjsOnly k s t) {a : Nat} (ha : a ∉ k) (i : Nat) : t.objN a i = s.objN a i := congrArg Int.toNat (h a i ha)

/-- A lobe broadcasts its claim and reads what the gates hold. -/
theorem claimBroadcast_reads (hl : l < 2) (h : (s.lobe l).claiming.isSome = true ∨ (s.lobe l).role = .active) :
    ∃ t, exec (.claimBroadcast l) s = .next t ∧ t.lobes.gateBase = max s.lobes.gateBase (s.lobe l).claim ∧
      t.lobes.gateStuck = s.lobes.gateStuck ∧ t.objN Obj.CLAIM_MAX 0 = t.gateMax ∧ t.objN Obj.CLAIM_MIN 0 = t.gateMin ∧
      t.lobe (1 - l) = s.lobe (1 - l) ∧ (t.lobe l).seenEpoch = max (s.lobe l).seenEpoch (t.gateMax / 2) ∧
      if (s.lobe l).claim < t.gateMax then
        (t.lobe l).claiming = none ∧ (t.lobe l).claim = 0 ∧ ((s.lobe l).role = .active →
          (t.lobe l).role = if s.mayRun l = true then .standby else .offline)
      else (t.lobe l).role = (s.lobe l).role ∧ (t.lobe l).claiming = (s.lobe l).claiming := by
  obtain ⟨-, hstuck, hbase⟩ := gatesRaised_each s l
  have hread := readSummary_lobe (gatesRaised s l) l
  have honly := readSummary_lobeOnly (gatesRaised s l) l
  obtain ⟨hgmax, hgmin, hgbase, hgstuck, -⟩ := honly.gates
  obtain ⟨hmax, hmin⟩ := readSummary_shows (gatesRaised s l) l
  have hother : (readSummary (gatesRaised s l) l).lobe (1 - l) = s.lobe (1 - l) :=
    (honly.others _ (partner_ne hl)).trans (gatesRaised_lobe s l _)
  have hrun : (readSummary (gatesRaised s l) l).mayRun l = s.mayRun l := by
    have hobj : (readSummary (gatesRaised s l) l).obj Obj.LOBE_HOLD_OFFLINE l = s.obj Obj.LOBE_HOLD_OFFLINE l := by
      refine (obj_setObj_addr _ (by decide)).trans ((obj_setObj_addr _ (by decide)).trans ?_)
      exact obj_of_objs ((gatesRaised_frame s l).objs rfl) _ _
    unfold State.mayRun
    rw [hobj, hread, gatesRaised_lobe]
  rw [gatesRaised_lobe] at hread
  have hexec : exec (.claimBroadcast l) s = finish s (if ((readSummary (gatesRaised s l) l).lobe l).claim < (readSummary (gatesRaised s l) l).gateMax
      then loseClaim (readSummary (gatesRaised s l) l) l else readSummary (gatesRaised s l) l) := congrArg (finish s) (if_pos ⟨hl, h⟩)
  generalize readSummary (gatesRaised s l) l = u at *
  have hclaim : (u.lobe l).claim = (s.lobe l).claim := by rw [hread]
  have hrole : (u.lobe l).role = (s.lobe l).role := by rw [hread]
  refine ⟨_, hexec, ?_⟩
  rw [hclaim]
  by_cases hlt : (s.lobe l).claim < u.gateMax
  · rw [if_pos hlt]
    obtain ⟨hc, hcl, hseen, hr⟩ := loseClaim_loses u l
    have ho := loseClaim_lobeOnly u l
    obtain ⟨kmax, kmin, kbase, kstuck, -⟩ := ho.gates
    have hobjs := loseClaim_objs u l
    have kothers := ho.others _ (partner_ne hl)
    rw [hrun, hrole] at hr
    generalize loseClaim u l = w at *
    refine ⟨kbase.trans (hgbase.trans hbase), kstuck.trans (hgstuck.trans hstuck), ?_, ?_, kothers.trans hother, ?_, ?_⟩
    · exact (objN_of_only hobjs (by decide) 0).trans (hmax.trans (hgmax.symm.trans kmax.symm))
    · exact (objN_of_only hobjs (by decide) 0).trans (hmin.trans (hgmin.symm.trans kmin.symm))
    · refine hseen.trans ?_
      show _ = max _ (w.gateMax / 2)
      rw [hread, kmax, hgmax]
    · show if (s.lobe l).claim < w.gateMax then _ else _
      rw [kmax, if_pos hlt]
      exact ⟨hcl, hc, fun ha => hr.trans (if_pos ha)⟩
  · rw [if_neg hlt]
    refine ⟨hgbase.trans hbase, hgstuck.trans hstuck, hmax.trans hgmax.symm, hmin.trans hgmin.symm, hother, ?_, ?_⟩
    · show (u.lobe l).seenEpoch = max _ (u.gateMax / 2)
      rw [hread, hgmax]
    · show if (s.lobe l).claim < u.gateMax then _ else _
      rw [if_neg hlt]
      refine ⟨hrole, ?_⟩
      show (u.lobe l).claiming = _
      rw [hread]

/-! ### Gate faults (R314, R315) -/

theorem gateMisses_iff {b : Nat} : s.gateMisses b = true ↔ (b < 3874 ∧ s.lobes.gatePrev < s.lobes.gateBase ∧ s.lobes.gateAt + 313 ≤ s.tick) ∧
    s.winner = true ∧ mfind s.lobes.gateStuck b = none ∧ mget 0 s.lobes.gateHigh b < s.lobes.gateBase := by
  unfold State.gateMisses
  rw [Bool.and_eq_true, Bool.and_eq_true, Bool.and_eq_true, Option.isNone_iff_eq_none, decide_eq_true_iff, decide_eq_true_iff, and_assoc, and_assoc]

theorem gateFault_lobes (s : State) (b h : Nat) :
    (gateFault s b h).lobes = { s.lobes with gateStuck := mset s.lobes.gateStuck b h } := raise_lobes _ _ _ _

theorem gateFault_claimMax (s : State) (b h : Nat) : (gateFault s b h).objN Obj.CLAIM_MAX 0 = s.objN Obj.CLAIM_MAX 0 :=
  objN_of_only (k := eventObjs) (.raiseS (by decide) (.of_objs rfl)) (by decide) 0

/-- A gate that has missed the broadcast of a claim that has won is faulty at its HIGHEST. -/
theorem gateFault_found {b : Nat} (hb : b < 3874) (hp : s.lobes.gatePrev < s.lobes.gateBase) (ht : s.lobes.gateAt + 313 ≤ s.tick)
    (hw : s.winner = true) (hh : mget 0 s.lobes.gateHigh b < s.lobes.gateBase) :
    ∃ t, exec (.gateFault b) s = .next t ∧
      match mfind s.lobes.gateStuck b with
      | some _ => Frame [.ex] s t
      | none =>
        mfind t.lobes.gateStuck b = some s.lobes.gatePrev ∧ t.lobes.gateBase = s.lobes.gateBase ∧
          ∀ k, k ≠ b → mfind t.lobes.gateStuck k = mfind s.lobes.gateStuck k := by
  cases hs : mfind s.lobes.gateStuck b with
  | some h =>
    have hm : ¬ s.gateMisses b = true := fun e => by
      obtain ⟨-, -, hn, -⟩ := gateMisses_iff.mp e
      rw [hs] at hn
      cases hn
    exact ⟨_, congrArg (finish s) (if_neg hm), frame_sealed (.refl s) (by decide)⟩
  | none =>
    have hm := gateMisses_iff.mpr ⟨⟨hb, hp, ht⟩, hw, hs, hh⟩
    refine ⟨_, congrArg (finish s) (if_pos hm), ?_⟩
    have hl := gateFault_lobes s b s.lobes.gatePrev
    generalize gateFault s b s.lobes.gatePrev = u at hl
    show mfind u.lobes.gateStuck b = _ ∧ u.lobes.gateBase = _ ∧ ∀ k, k ≠ b → mfind u.lobes.gateStuck k = _
    rw [hl]
    exact ⟨mfind_mset_self _ _ _, rfl, fun k hk => mfind_mset_other _ _ hk⟩

theorem gateFault_idle {b : Nat} (h : s.gateMisses b = false) : ∃ t, exec (.gateFault b) s = .next t ∧ Frame [.ex] s t :=
  ⟨_, congrArg (finish s) (if_neg (by rw [h]; decide)), frame_sealed (.refl s) (by decide)⟩

/-- The state with a refusal taken up and the summary read. -/
def refusalRead (s : State) (l b : Nat) : State :=
  readSummary { s with lobes := { s.lobes with refused := s.lobes.refused.filter (· ≠ (l, b)) } } l

theorem refusalRead_lobe (s : State) (l b : Nat) : ((refusalRead s l b).lobe l).role = (s.lobe l).role ∧
    ((refusalRead s l b).lobe l).claim = (s.lobe l).claim ∧ (refusalRead s l b).mayRun l = s.mayRun l := by
  have hread := readSummary_lobe { s with lobes := { s.lobes with refused := s.lobes.refused.filter (· ≠ (l, b)) } } l
  have hobj : (refusalRead s l b).obj Obj.LOBE_HOLD_OFFLINE l = s.obj Obj.LOBE_HOLD_OFFLINE l :=
    (obj_setObj_addr _ (by decide)).trans (obj_setObj_addr _ (by decide))
  have hread' : (refusalRead s l b).lobe l = _ := hread
  unfold State.mayRun
  rw [hobj, hread']
  exact ⟨rfl, rfl, rfl⟩

theorem refusalRead_gates (s : State) (l b : Nat) : (refusalRead s l b).gateMax = s.gateMax ∧
    (refusalRead s l b).lobes.gateStuck = s.lobes.gateStuck ∧ (refusalRead s l b).lobes.refused = s.lobes.refused.filter (· ≠ (l, b)) ∧
    (refusalRead s l b).gate b = s.gate b ∧ (refusalRead s l b).objN Obj.CLAIM_MAX 0 = s.gateMax :=
  ⟨rfl, rfl, rfl, rfl, (readSummary_shows _ l).1⟩

/-- A write refused to the ACTIVE lobe means a higher claim, or a faulty gate. -/
theorem writeRefused_judges {b : Nat} (hl : l < 2) (hb : b < 3874) (hr : (s.lobe l).role = .active) :
    ∃ t, exec (.writeRefused l b) s = .next t ∧ t.objN Obj.CLAIM_MAX 0 = s.gateMax ∧
      if (s.lobe l).claim < s.gateMax then
        (t.lobe l).role = (if s.mayRun l = true then .standby else .offline) ∧ t.lobes.gateStuck = s.lobes.gateStuck
      else (t.lobe l).role = .active ∧ mfind t.lobes.gateStuck b =
        some ((mfind s.lobes.gateStuck b).getD (s.gate b)) ∧ (l, b) ∉ t.lobes.refused := by
  obtain ⟨hrole, hclaim, hrun⟩ := refusalRead_lobe s l b
  obtain ⟨hmax, hstuck, hrefused, hgate, hshown⟩ := refusalRead_gates s l b
  have hexec : exec (.writeRefused l b) s = finish s (if ((refusalRead s l b).lobe l).claim < (refusalRead s l b).gateMax
      then loseClaim (refusalRead s l b) l
      else if (mfind (refusalRead s l b).lobes.gateStuck b).isNone then gateFault (refusalRead s l b) b ((refusalRead s l b).gate b)
      else refusalRead s l b) := congrArg (finish s) (if_pos ⟨hl, hb, .inl hr⟩)
  have hnot : (l, b) ∉ (refusalRead s l b).lobes.refused := by
    rw [hrefused]
    simp
  refine ⟨_, hexec, ?_⟩
  generalize refusalRead s l b = u at *
  rw [hclaim, hmax]
  by_cases hlt : (s.lobe l).claim < s.gateMax
  · rw [if_pos hlt]
    obtain ⟨-, -, -, hrole'⟩ := loseClaim_loses u l
    obtain ⟨-, -, -, kstuck, -⟩ := (loseClaim_lobeOnly u l).gates
    have hobjs := objN_of_only (loseClaim_objs u l) (a := Obj.CLAIM_MAX) (by decide) 0
    rw [if_pos (hrole.trans hr), hrun] at hrole'
    generalize loseClaim u l = w at *
    refine ⟨hobjs.trans hshown, ?_⟩
    rw [if_pos hlt]
    exact ⟨hrole', kstuck.trans hstuck⟩
  · rw [if_neg hlt, hstuck, hgate]
    cases hs : mfind s.lobes.gateStuck b with
    | some h =>
      refine ⟨hshown, ?_⟩
      rw [if_neg hlt]
      exact ⟨hrole.trans hr, (congrArg (mfind · b) hstuck).trans hs, hnot⟩
    | none =>
      have hl' := gateFault_lobes u b (s.gate b)
      have hobj := gateFault_claimMax u b (s.gate b)
      show (gateFault u b (s.gate b)).objN Obj.CLAIM_MAX 0 = _ ∧ _
      rw [if_neg hlt]
      refine ⟨hobj.trans hshown, ?_⟩
      show ((gateFault u b (s.gate b)).lobe l).role = _ ∧ mfind (gateFault u b (s.gate b)).lobes.gateStuck b = _ ∧
        (l, b) ∉ (gateFault u b (s.gate b)).lobes.refused
      have hlobe : (gateFault u b (s.gate b)).lobe l = u.lobe l := (congrArg (fun k : Lobes => k.each.at l) hl').trans rfl
      rw [hlobe, hl']
      exact ⟨hrole.trans hr, mfind_mset_self _ _ _, hnot⟩

/-! ### Per-lobe resets (R328, R495) -/

/-- What an initiator's reset changes. -/
def abortObjs : List Nat := [Obj.INIT_ABORTS, Obj.RING_DROPPED]

theorem initReset_objs (s : State) (i : Nat) : ObjsOnly abortObjs s (initReset s i) := by
  unfold initReset initEnd
  refine .foldl (fun t r => .raiseS (by decide) (.incSat (by decide) (.refl t))) ?_
  have hlock : ObjsOnly abortObjs s (releaseLock s i) := by
    unfold releaseLock
    split
    · exact .ite (.set_mat (.refl s)) (.refl s)
    · exact .refl s
  exact hlock

/-- The state with a lobe's initiators reset. -/
def initsReset (s : State) (l : Nat) : State := (lobeInitiators l).foldl initReset s

theorem initsReset_frame (s : State) (l : Nat) : Frame [.objs, .ex, .sorus, .mat] s (initsReset s l) :=
  .foldl (fun t i => .step (initReset_frame t i) (by decide) (.refl t)) (.refl s)

theorem initsReset_objs (s : State) (l : Nat) : ObjsOnly abortObjs s (initsReset s l) := .foldl initReset_objs (.refl s)

theorem initsReset_mayRun (s : State) (l m : Nat) : (initsReset s l).mayRun m = s.mayRun m := by
  unfold State.mayRun
  rw [lobe_of_lobes ((initsReset_frame s l).lobes rfl), initsReset_objs s l _ _ (by decide)]

/-- The record of a lobe after its reset. -/
def lobeReset (x : Lobe) (tick : Nat) (trial : Bool) : Lobe :=
  { x with claim := 0, claiming := none, lastHb := none, heardActive := none, noReclaim := false, lostAt := none,
           bank := none, diagnosed := false, retryAt := none, since := tick, cleanScans := 0, copied := none,
           katPending := false, trialBoot := trial }

theorem resetLobe_lobe (s : State) (l : Nat) (trial : Bool) :
    (resetLobe s l trial).lobe l = lobeReset ((takeRole (initsReset s l) l .diagnosing).lobe l) s.tick trial := by
  unfold resetLobe
  dsimp only
  rw [lobe_setLobe]
  have htick : (takeRole (initsReset s l) l .diagnosing).tick = s.tick := ((takeRole_frame _ _ _).tick rfl).trans ((initsReset_frame s l).tick rfl)
  rw [← htick]
  rfl

theorem resetLobe_lobeOnly (s : State) (l : Nat) (trial : Bool) : LobeOnly l s (resetLobe s l trial) := by
  have h : LobeOnly l s (takeRole (initsReset s l) l .diagnosing) :=
    .trans (.of_lobes ((initsReset_frame s l).lobes rfl)) (takeRole_lobeOnly _ l _)
  exact h.trans ⟨fun m hm => lobe_setLobe_other _ _ hm, rfl⟩

/-- A lobe that is reset: in DIAGNOSING unless it is held OFFLINE, without claim, bank and counter. -/
theorem resetLobe_resets (s : State) (l : Nat) (trial : Bool) :
    ((resetLobe s l trial).lobe l).role = (if s.mayRun l = true then .diagnosing else .offline) ∧ ((resetLobe s l trial).lobe l).claim = 0 ∧
      ((resetLobe s l trial).lobe l).bank = none ∧ ((resetLobe s l trial).lobe l).claiming = none ∧
      ((resetLobe s l trial).lobe l).strapHigh = (s.lobe l).strapHigh ∧ (resetLobe s l trial).time.ctr.at l = {} := by
  have hrole := takeRole_role (initsReset s l) l .diagnosing
  have hmoved := (takeRole_moved (initsReset s l) l .diagnosing).1
  rw [initsReset_mayRun] at hrole
  rw [lobe_of_lobes ((initsReset_frame s l).lobes rfl)] at hmoved
  have hctr : (resetLobe s l trial).time.ctr.at l = {} := at_put _ _ _
  rw [resetLobe_lobe]
  exact ⟨hrole, rfl, rfl, rfl, (congrArg Lobe.strapHigh hmoved :), hctr⟩

theorem resetLobe_objs (s : State) (l : Nat) (trial : Bool) : ObjsOnly abortObjs s (resetLobe s l trial) :=
  .trans (.trans (initsReset_objs s l) ((takeRole_objs _ l .diagnosing).mono (by decide))) (.of_objs rfl)

/-! ### What a failed ACTIVE lobe takes with it (R464) -/

theorem raise_owed (s : State) (code lobe : Nat) (data : List EvItem) : (raise s code lobe data).ex.owed = s.ex.owed := (raise_told _ _ _ _).owed

theorem judgeLobes_owed (s : State) : (judgeLobes s).ex.owed = s.ex.owed := congrArg Exvan.owed ((judgeLobes_frame s).ex rfl)

theorem setRole_owed (s : State) (l : Nat) (r : Role) : ∀ o ∈ (setRole s l r).ex.owed, o ∈ s.ex.owed := by
  unfold setRole
  dsimp only
  split
  · exact fun _ h => h
  · rw [judgeLobes_owed, raise_owed]
    split <;> split
    · exact fun _ h => by cases h
    · exact fun _ h => by cases h
    · exact fun _ h => h
    · exact fun _ h => h

/-- With an ACTIVE lobe that fails what it was to answer is lost. -/
theorem setRole_loses (s : State) (l : Nat) {r : Role} (h : (s.lobe l).role = .active) (hr : r ≠ .active) (hs : r ≠ .standby) :
    (setRole s l r).ex.owed = [] := by
  unfold setRole
  dsimp only
  rw [if_neg (by rw [h]; exact hr.symm), judgeLobes_owed, raise_owed, if_pos ⟨h, hs⟩]
  rfl

theorem offlineQuiet_ex (s : State) (l reason : Nat) : (offlineQuiet s l reason).ex = s.ex := by
  unfold offlineQuiet
  split
  · rfl
  · exact ((quietLobe_frame s l).ex rfl)

theorem toOffline_owed (s : State) (l reason : Nat) : (∀ o ∈ (toOffline s l reason).ex.owed, o ∈ s.ex.owed) ∧
    ((s.lobe l).role = .active → (toOffline s l reason).ex.owed = []) := by
  obtain ⟨b, hb, -⟩ := offlineQuiet_lobe s l reason
  have hrole : ((offlineQuiet s l reason).lobe l).role = (s.lobe l).role := by rw [hb]
  have hex := offlineQuiet_ex s l reason
  rw [toOffline_eq]
  generalize offlineQuiet s l reason = u at hrole hex ⊢
  split
  case isTrue h => exact ⟨fun o ho => by rwa [hex] at ho, fun ha => by simp [hrole, ha] at h⟩
  case isFalse =>
    dsimp only
    rw [raise_owed]
    refine ⟨fun o ho => ?_, fun ha => setRole_loses u l (hrole.trans ha) (by decide) (by decide)⟩
    rw [← hex]
    exact setRole_owed u l .offline o ho

theorem takeRole_owed (s : State) (l : Nat) (r : Role) : ∀ o ∈ (takeRole s l r).ex.owed, o ∈ s.ex.owed := by
  unfold takeRole
  split
  · exact setRole_owed s l r
  · exact (toOffline_owed s l _).1

theorem resetLobe_loses (s : State) (l : Nat) (trial : Bool) (h : (s.lobe l).role = .active) : (resetLobe s l trial).ex.owed = [] := by
  have hrole : ((initsReset s l).lobe l).role = .active := by rw [lobe_of_lobes ((initsReset_frame s l).lobes rfl), h]
  show (takeRole (initsReset s l) l .diagnosing).ex.owed = []
  unfold takeRole
  split
  · exact setRole_loses _ l hrole (by decide) (by decide)
  · exact (toOffline_owed _ l _).2 hrole

theorem linkLost_owed (s : State) (l : Nat) : (linkLost s l).ex.owed = s.ex.owed := by
  unfold linkLost
  split
  · rfl
  · rw [raise_owed]
    exact congrArg Exvan.owed ((State.fault_frame _ _).ex rfl)

theorem loseClaim_owed (s : State) (l : Nat) (h : (s.lobe l).role = .active) : (loseClaim s l).ex.owed = [] := by
  have hc : (controlLeft s l).ex.owed = [] := by
    unfold controlLeft
    rw [if_pos h]
    rfl
  rw [loseClaim_eq]
  split
  · dsimp only
    split
    · rw [linkLost_owed, raise_owed, hc]
    · rw [raise_owed, hc]
  · exact hc

/-! ### The other lobe at a takeover (R328, R332) -/

theorem dealWithOther_eq (s : State) (o : Nat) : dealWithOther s o =
    if s.claimsNow o then loseClaim s o
    else if (s.lobe o).role = .offline ∨ (s.lobe o).role ≠ .active ∧ s.lostNow o then s
    else if ((resetLobe s o false).lobe o).role = .diagnosing then (resetLobe s o false).fault (.lobe o) else resetLobe s o false := rfl

theorem dealWithOther_lobeOnly (s : State) (o : Nat) : LobeOnly o s (dealWithOther s o) := by
  have hr := resetLobe_lobeOnly s o false
  rw [dealWithOther_eq]
  exact .ite (loseClaim_lobeOnly s o) (.ite (.refl o s) (.ite (.frame (State.fault_frame _ _) (by decide) hr) hr))

theorem dealWithOther_objs (s : State) (o : Nat) : ObjsOnly abortObjs s (dealWithOther s o) := by
  have hr := resetLobe_objs s o false
  rw [dealWithOther_eq]
  exact .ite ((loseClaim_objs s o).mono (by decide)) (.ite (.refl s) (.ite (.frame (State.fault_frame _ _) (by decide) hr) hr))

/-- The other lobe of a takeover is ACTIVE no longer, and what it was to answer as ACTIVE lobe is lost. -/
theorem dealWithOther_leaves (s : State) (o : Nat) : ((dealWithOther s o).lobe o).role ≠ .active ∧
    ((s.lobe o).role = .active → (dealWithOther s o).ex.owed = []) := by
  have hrole := (resetLobe_resets s o false).1
  have hloses := resetLobe_loses s o false
  rw [dealWithOther_eq]
  split
  · obtain ⟨-, -, -, h⟩ := loseClaim_loses s o
    refine ⟨?_, loseClaim_owed s o⟩
    rw [h]
    split
    · split <;> decide
    · split
      · decide
      · assumption
  · split
    case isTrue h =>
      rcases h with h | ⟨h, -⟩
      · exact ⟨by rw [h]; decide, fun ha => by rw [h] at ha; cases ha⟩
      · exact ⟨h, fun ha => absurd ha h⟩
    case isFalse =>
      generalize resetLobe s o false = u at hrole hloses ⊢
      have hne : (u.lobe o).role ≠ .active := by
        rw [hrole]
        split <;> decide
      split
      · have hf := State.fault_frame u (.lobe o)
        rw [lobe_of_lobes (hf.lobes rfl), hf.ex rfl]
        exact ⟨hne, hloses⟩
      · exact ⟨hne, hloses⟩

/-! ### Becoming ACTIVE (R325) -/

theorem logAll_told (s : State) (code lobe : Nat) (d : Bool) (time : Int) (data : List EvItem) : Told s (logAll s code lobe d time data) :=
  (logEvent_told _ _ _ _ _ _).trans (logFollow_told _ _ _ _)

theorem flushDeferred_owed (s : State) : (flushDeferred s).ex.owed = s.ex.owed :=
  foldl_keeps (g := fun s => s.ex.owed) (fun s (e : DeferredEv) => (logAll_told s e.code e.lobe true e.time e.data).owed) _ _

theorem logAll_objs (s : State) (code lobe : Nat) (d : Bool) (time : Int) (data : List EvItem) : ObjsOnly eventObjs s (logAll s code lobe d time data) :=
  .kept (logFollow_objs time 64 _ _) (by decide) (.kept (logEvent_objs s code lobe d time data) (by decide) (.refl s))

theorem flushDeferred_objs (s : State) : ObjsOnly eventObjs s (flushDeferred s) :=
  .foldl (fun s e => logAll_objs s e.code e.lobe true e.time e.data) (.set_ex (.refl s))

/-- The state with a lobe's role and the lobes' record as a new ACTIVE lobe has them. -/
def activeSet (s : State) (l : Nat) : State :=
  let u := setRole s l .active
  let v := u.setLobe l { u.lobe l with claiming := none, noReclaim := false }
  { v with lobes := { v.lobes with lastActive := l, lastTakeover := v.tick, lastCapture := some v.tick, swapDue := none,
                                   handover := none, final := none } }

theorem becomeActive_eq (s : State) (l : Nat) : becomeActive s l = rePark (flushDeferred ((activeSet s l).unfault .safeLoad)) := rfl

theorem becomeActive_lobes (s : State) (l : Nat) : (becomeActive s l).lobes = (activeSet s l).lobes := by
  rw [becomeActive_eq]
  exact ((rePark_frame _).lobes rfl).trans (((flushDeferred_frame _).lobes rfl).trans ((State.unfault_frame _ _).lobes rfl))

theorem becomeActive_lobe (s : State) (l : Nat) : (becomeActive s l).lobe l =
    { (setRole s l .active).lobe l with claiming := none, noReclaim := false } :=
  (lobe_of_lobes (becomeActive_lobes s l) l).trans (lobe_setLobe _ _ _)

theorem becomeActive_other (s : State) {l m : Nat} (h : (l = 0) ≠ (m = 0)) : (becomeActive s l).lobe m = s.lobe m :=
  (lobe_of_lobes (becomeActive_lobes s l) m).trans ((lobe_setLobe_other _ _ h).trans (setRole_lobe_other s .active h))

/-- A new ACTIVE lobe keeps its claim and ends what a swap awaits. -/
theorem becomeActive_takes (s : State) (l : Nat) : ((becomeActive s l).lobe l).role = .active ∧
    ((becomeActive s l).lobe l).claim = (s.lobe l).claim ∧ ((becomeActive s l).lobe l).claiming = none ∧
    (becomeActive s l).lobes.lastTakeover = s.tick ∧ (becomeActive s l).lobes.swapDue = none := by
  have htick : (setRole s l .active).tick = s.tick := (setRole_frame s l .active).tick rfl
  rw [becomeActive_lobe, becomeActive_lobes, setRole_lobe]
  exact ⟨rfl, rfl, rfl, htick, rfl⟩

theorem becomeActive_owed (s : State) (l : Nat) : ∀ o ∈ (becomeActive s l).ex.owed, o ∈ s.ex.owed := by
  intro o ho
  have hex : (becomeActive s l).ex.owed = (setRole s l .active).ex.owed := by
    rw [becomeActive_eq]
    refine (congrArg Exvan.owed ((rePark_frame _).ex rfl)).trans ((flushDeferred_owed _).trans ?_)
    exact congrArg Exvan.owed ((State.unfault_frame _ _).ex rfl)
  rw [hex] at ho
  exact setRole_owed s l .active o ho

theorem becomeActive_objs (s : State) (l : Nat) : ObjsOnly eventObjs s (becomeActive s l) := by
  rw [becomeActive_eq]
  refine .frame (rePark_frame _) (by decide) (.trans (.frame (State.unfault_frame _ _) (by decide) ?_) (flushDeferred_objs _))
  exact .trans (setRole_objs s l .active) (.of_objs rfl)

/-! ### Takeovers (R325 to R328) -/

/-- The sessions, the functions and the loops as a new ACTIVE lobe finds them. -/
def takenUp (s : State) (fromSync : Bool) : State :=
  match s.lobes.snap with
  | some x => restoreSessions (restoreFuncs (if fromSync then restartLoops s else reconcileAll s x) x) x
  | none => restartLoops s

theorem takenUp_inward (s : State) (fromSync : Bool) : Inward s (takenUp s fromSync) := by
  unfold takenUp
  split
  · refine .trans (.trans ?_ (restoreFuncs_inward _ _)) (restoreSessions_inward _ _)
    exact .ite (restartLoops_inward s) (reconcileAll_inward s _)
  · exact restartLoops_inward s

/-- With what only the failed lobe held lost and the commits settled. -/
def takenOver (s : State) (fromSync : Bool) : State := settleCommits (advanceSeqs (freshDeadlines (loseLocal (takenUp s fromSync))))

theorem takenOver_inward (s : State) (fromSync : Bool) : Inward s (takenOver s fromSync) := by
  have h := takenUp_inward s fromSync
  unfold takenOver
  generalize takenUp s fromSync = u at h ⊢
  have hfresh : Inward s (freshDeadlines (loseLocal u)) := .step (freshDeadlines_inward _) (.step (loseLocal_inward u) h)
  generalize freshDeadlines (loseLocal u) = v at hfresh ⊢
  exact .step (settleCommits_inward _) (.step (advanceSeqs_inward v) hfresh)

theorem takenOver_run (s : State) (fromSync : Bool) : (takenOver s fromSync).cal.run = none := by
  unfold takenOver
  have hrun := (freshDeadlines_inward (loseLocal (takenUp s fromSync))).run (loseLocal_run _)
  generalize freshDeadlines (loseLocal (takenUp s fromSync)) = v at hrun ⊢
  exact (settleCommits_inward _).run ((advanceSeqs_inward v).run hrun)

theorem Inward.each (h : Inward s t) : t.lobes.each = s.lobes.each := by rw [h.lobes]

theorem Inward.lastTakeover (h : Inward s t) : t.lobes.lastTakeover = s.lobes.lastTakeover := by rw [h.lobes]

theorem Inward.lobe (h : Inward s t) (m : Nat) : t.lobe m = s.lobe m := congrArg (fun p : Pair Lobe => p.at m) h.each

/-- The number of the last complete snapshot. -/
def snapSeqOf (s : State) : Int := match s.lobes.snap with | some x => x.seq | none => 0

/-- The end of a takeover: its registers, its event and a roll-back that it completes. -/
def takeoverNoted (s : State) (l cause hold : Nat) (seq : Int) : State :=
  endRollBack (raiseA (noteTakeover (s.incSat Obj.FAILOVERS 0) cause hold) 0x6001 [.word l, .word cause, .word hold, .word seq])

theorem takeOver_eq (s : State) (l cause : Nat) : takeOver s l cause =
    takeoverNoted (takenOver (becomeActive (dealWithOther s (1 - l)) l) (decide ((s.lobe l).role = .syncing))) l cause (s.heldNs s.firstWrites)
      (snapSeqOf (becomeActive (dealWithOther s (1 - l)) l)) := rfl

/-- What LAST_FAILOVER and its cause do not change. -/
theorem noteTakeover_shows (s : State) (cause hold : Nat) : (noteTakeover s cause hold).objN Obj.LAST_FAILOVER_CAUSE 0 = cause ∧
    (noteTakeover s cause hold).objN Obj.FAILOVERS 0 = s.objN Obj.FAILOVERS 0 := by
  have hcause : ((s.setObj Obj.LAST_FAILOVER 0 s.now).setObjN Obj.LAST_FAILOVER_CAUSE 0 cause).objN Obj.LAST_FAILOVER_CAUSE 0 = cause :=
    objN_setObjN_same _ _ _ _
  refine ⟨Eq.trans ?_ hcause, ?_⟩
  · exact congrArg Int.toNat ((obj_setObj_other _ (by decide)).trans (obj_setObj_other _ (by decide)))
  · exact congrArg Int.toNat ((obj_setObj_other _ (by decide)).trans ((obj_setObj_other _ (by decide)).trans ((obj_setObj_other _ (by decide)).trans
      (obj_setObj_other _ (by decide)))))

theorem takeoverNoted_cause (v : State) (l cause hold : Nat) (seq : Int) :
    Inward (noteTakeover (v.incSat Obj.FAILOVERS 0) cause hold) (takeoverNoted v l cause hold seq) := by
  unfold takeoverNoted
  generalize noteTakeover (v.incSat Obj.FAILOVERS 0) cause hold = w
  exact .step (endRollBack_inward _) (.raiseA (.refl w))

/-- The end of a takeover counts it, names its cause and changes no lobe. -/
theorem takeoverNoted_shows (v : State) (l cause hold : Nat) (seq : Int) :
    (takeoverNoted v l cause hold seq).lobes.each = v.lobes.each ∧
      (takeoverNoted v l cause hold seq).lobes.lastTakeover = v.lobes.lastTakeover ∧
      (takeoverNoted v l cause hold seq).objN Obj.FAILOVERS 0 = min u32Max (v.objN Obj.FAILOVERS 0 + 1) ∧
      (takeoverNoted v l cause hold seq).objN Obj.LAST_FAILOVER_CAUSE 0 = cause ∧
      (∀ o ∈ (takeoverNoted v l cause hold seq).ex.owed, o ∈ v.ex.owed) ∧
      (v.cal.run = none → (takeoverNoted v l cause hold seq).cal.run = none) := by
  have hend := takeoverNoted_cause v l cause hold seq
  obtain ⟨hcause, hcount⟩ := noteTakeover_shows (v.incSat Obj.FAILOVERS 0) cause hold
  have hinc := objN_incSat_self v Obj.FAILOVERS 0
  have hnote := noteTakeover_frame (v.incSat Obj.FAILOVERS 0) cause hold
  have hlobes : (noteTakeover (v.incSat Obj.FAILOVERS 0) cause hold).lobes = v.lobes := hnote.lobes rfl
  have hex : (noteTakeover (v.incSat Obj.FAILOVERS 0) cause hold).ex = v.ex := hnote.ex rfl
  have hcal : (noteTakeover (v.incSat Obj.FAILOVERS 0) cause hold).cal = v.cal := hnote.cal rfl
  rw [hinc] at hcount
  generalize noteTakeover (v.incSat Obj.FAILOVERS 0) cause hold = w at hend hcause hcount hlobes hex hcal
  generalize takeoverNoted v l cause hold seq = t at hend ⊢
  refine ⟨hend.each.trans (congrArg Lobes.each hlobes), hend.lastTakeover.trans (congrArg Lobes.lastTakeover hlobes), ?_, ?_, fun o ho => ?_, fun hv => ?_⟩
  · exact (congrArg Int.toNat (hend.objs Obj.FAILOVERS (by decide) 0)).trans hcount
  · exact (congrArg Int.toNat (hend.objs Obj.LAST_FAILOVER_CAUSE (by decide) 0)).trans hcause
  · have hw := hend.owed o ho
    rwa [hex] at hw
  · exact hend.run (by rw [hcal, hv])

/-- The lobes, the calibration, what is owed and the counts after a takeover. -/
theorem takeOver_takes (s : State) (cause : Nat) (hl : l < 2) :
    ((takeOver s l cause).lobe l).role = .active ∧ ((takeOver s l cause).lobe (1 - l)).role ≠ .active ∧
      ((takeOver s l cause).lobe l).claim = (s.lobe l).claim ∧ ((takeOver s l cause).lobe l).claiming = none ∧
      (takeOver s l cause).lobes.lastTakeover = s.tick ∧ (takeOver s l cause).objN Obj.FAILOVERS 0 = min u32Max (s.objN Obj.FAILOVERS 0 + 1) ∧
      (takeOver s l cause).objN Obj.LAST_FAILOVER_CAUSE 0 = cause ∧ ((s.lobe (1 - l)).role = .active → (takeOver s l cause).ex.owed = []) ∧
      (takeOver s l cause).cal.run = none := by
  have heq := takeOver_eq s l cause
  generalize s.heldNs s.firstWrites = hold at heq
  have hne : (1 - l = 0) ≠ (l = 0) := (partner_ne hl).symm
  obtain ⟨hleft, hlost⟩ := dealWithOther_leaves s (1 - l)
  have hdeal := (dealWithOther_lobeOnly s (1 - l)).others l hne
  have hdealObjs := objN_of_only (dealWithOther_objs s (1 - l)) (a := Obj.FAILOVERS) (by decide) 0
  have hdealTick : (dealWithOther s (1 - l)).tick = s.tick := (dealWithOther_frame s _).tick rfl
  generalize dealWithOther s (1 - l) = d at heq hleft hlost hdeal hdealObjs hdealTick
  obtain ⟨hrole, hclaim, hclaiming, htaken, -⟩ := becomeActive_takes d l
  have hother := becomeActive_other d (partner_ne hl)
  have howed := becomeActive_owed d l
  have hobjs := objN_of_only (becomeActive_objs d l) (a := Obj.FAILOVERS) (by decide) 0
  generalize becomeActive d l = u at heq hrole hclaim hclaiming htaken hother howed hobjs
  have hin := takenOver_inward u (decide ((s.lobe l).role = .syncing))
  have hrun := takenOver_run u (decide ((s.lobe l).role = .syncing))
  generalize takenOver u (decide ((s.lobe l).role = .syncing)) = v at heq hin hrun
  obtain ⟨heach, hlast, hcount, hcause, howe, hend⟩ := takeoverNoted_shows v l cause hold (snapSeqOf u)
  rw [← heq] at heach hlast hcount hcause howe hend
  generalize takeOver s l cause = t at heach hlast hcount hcause howe hend ⊢
  clear heq
  have hlobe (m : Nat) : t.lobe m = u.lobe m := (congrArg (fun p : Pair Lobe => p.at m) heach).trans (hin.lobe m)
  have hv : v.objN Obj.FAILOVERS 0 = s.objN Obj.FAILOVERS 0 := (congrArg Int.toNat (hin.objs _ (by decide) 0)).trans (hobjs.trans hdealObjs)
  rw [hv] at hcount
  rw [hlobe, hlobe, hother]
  refine ⟨hrole, hleft, ?_, hclaiming, hlast.trans (hin.lastTakeover.trans (htaken.trans hdealTick)), hcount, hcause, fun ha => ?_, hend hrun⟩
  · rw [hclaim, hdeal]
  · have hnone := hlost ha
    refine List.eq_nil_iff_forall_not_mem.mpr fun o ho => ?_
    have hd := howed o (hin.owed o (howe o ho))
    rw [hnone] at hd
    cases hd

theorem toSyncing_owed (s : State) (l : Nat) : ∀ o ∈ (toSyncing s l).ex.owed, o ∈ s.ex.owed := by
  have hload (u : State) : (loadCounter u l).1.ex.owed = u.ex.owed := by
    unfold loadCounter
    split
    · rfl
    · dsimp only
      split
      · rfl
      · exact (raise_owed _ _ _ _).trans rfl
  intro o ho
  have hset : (toSyncing s l).ex.owed = (setRole s l .syncing).ex.owed := (hload _).trans rfl
  rw [hset] at ho
  exact setRole_owed s l .syncing o ho

theorem copyToSyncing_lobeOnly (s : State) (o : Nat) : LobeOnly o s (copyToSyncing s o) := .ite (toSyncing_lobeOnly s o) (.refl o s)

theorem copyToSyncing_role (s : State) (o : Nat) : ((copyToSyncing s o).lobe o).role = (s.lobe o).role := by
  unfold copyToSyncing
  split
  case isTrue h => rw [toSyncing_role, h]
  case isFalse => rfl

theorem copyToSyncing_owed (s : State) (l : Nat) : ∀ o ∈ (copyToSyncing s l).ex.owed, o ∈ s.ex.owed := by
  unfold copyToSyncing
  split
  · exact toSyncing_owed s l
  · exact fun _ h => h

theorem copyToSyncing_objs (s : State) (o : Nat) : ObjsOnly eventObjs s (copyToSyncing s o) := .ite (toSyncing_objs s o) (.refl s)

theorem copyToSyncing_frame (s : State) (o : Nat) : Frame [.objs, .dev, .ex, .lobes, .time, .sorus, .com] s (copyToSyncing s o) :=
  .ite (toSyncing_frame s o) (.refl s)

theorem LobeOnly.lastTakeover {s t : State} (h : LobeOnly l s t) : t.lobes.lastTakeover = s.lobes.lastTakeover := by
  rw [h.shared]

theorem lobeFailover_takes {cause k : Nat} (hl : l < 2) (hc : (s.lobe l).claiming = some (cause, k)) (hg : s.gateMax = (s.lobe l).claim)
    (hr : (s.lobe l).role = .standby ∨ (s.lobe l).role = .syncing) :
    ∃ t, exec (.lobeFailover l) s = .next t ∧ (t.lobe l).role = .active ∧ (t.lobe (1 - l)).role ≠ .active ∧
      (t.lobe l).claim = (s.lobe l).claim ∧ (t.lobe l).claiming = none ∧ t.lobes.lastTakeover = s.tick ∧
      t.objN Obj.FAILOVERS 0 = min u32Max (s.objN Obj.FAILOVERS 0 + 1) ∧
      t.objN Obj.LAST_FAILOVER_CAUSE 0 = (if s.claimsNow (1 - l) = true ∨ s.lostNow (1 - l) = true then 3 else cause) ∧
      ((s.lobe (1 - l)).role = .active → t.ex.owed = []) ∧ t.cal.run = none := by
  have hrun : exec (.lobeFailover l) s =
      .next (sealed s (copyToSyncing (takeOver s l (if s.claimsNow (1 - l) || s.lostNow (1 - l) then 3 else cause)) (1 - l))) := by
    have hna : (s.lobe l).role ≠ .active := by rcases hr with h | h <;> rw [h] <;> decide
    have hnd : (s.lobe l).role ≠ .diagnosing := by rcases hr with h | h <;> rw [h] <;> decide
    show finish s _ = _
    refine congrArg (finish s) ?_
    dsimp only
    rw [if_pos hl, hc]
    exact (if_neg (not_not_intro hg)).trans ((if_neg hna).trans (if_neg hnd))
  have hcause : (if (s.claimsNow (1 - l) || s.lostNow (1 - l)) = true then 3 else cause) =
      if s.claimsNow (1 - l) = true ∨ s.lostNow (1 - l) = true then 3 else cause := by simp only [Bool.or_eq_true]
  rw [hcause] at hrun
  generalize (if s.claimsNow (1 - l) = true ∨ s.lostNow (1 - l) = true then 3 else cause) = c at hrun ⊢
  obtain ⟨hrole, hleft, hclaim, hclaiming, hlast, hcount, hnamed, howed, hnone⟩ := takeOver_takes (s := s) (l := l) c hl
  generalize takeOver s l c = v at hrun hrole hleft hclaim hclaiming hlast hcount hnamed howed hnone
  have honly := copyToSyncing_lobeOnly v (1 - l)
  have hkeep := honly.others l (partner_ne hl).symm
  have hshared : (copyToSyncing v (1 - l)).lobes.lastTakeover = v.lobes.lastTakeover := honly.lastTakeover
  have hrole' := copyToSyncing_role v (1 - l)
  have hobjs := copyToSyncing_objs v (1 - l)
  have howe := copyToSyncing_owed v (1 - l)
  have hcal : (copyToSyncing v (1 - l)).cal = v.cal := (copyToSyncing_frame v (1 - l)).cal rfl
  have hcount' : (copyToSyncing v (1 - l)).objN Obj.FAILOVERS 0 = v.objN Obj.FAILOVERS 0 := objN_of_only hobjs (by decide) 0
  have hnamed' : (copyToSyncing v (1 - l)).objN Obj.LAST_FAILOVER_CAUSE 0 = v.objN Obj.LAST_FAILOVER_CAUSE 0 := objN_of_only hobjs (by decide) 0
  rw [← hcount'] at hcount
  rw [← hnamed'] at hnamed
  generalize copyToSyncing v (1 - l) = w at hrun hkeep hshared hrole' hcount hnamed howe hcal
  refine ⟨_, hrun, ?_⟩
  show (w.lobe l).role = .active ∧ (w.lobe (1 - l)).role ≠ .active ∧ (w.lobe l).claim = (s.lobe l).claim ∧ (w.lobe l).claiming = none ∧
    w.lobes.lastTakeover = s.tick ∧ w.objN Obj.FAILOVERS 0 = _ ∧ w.objN Obj.LAST_FAILOVER_CAUSE 0 = c ∧ (_ → w.ex.owed = []) ∧ w.cal.run = none
  rw [hkeep, hshared, hrole', hcal]
  refine ⟨hrole, hleft, hclaim, hclaiming, hlast, hcount, hnamed, fun ha => List.eq_nil_iff_forall_not_mem.mpr fun o ho => ?_, hnone⟩
  have hv := howe o ho
  rw [howed ha] at hv
  cases hv

/-! ### The first ACTIVE lobe (R337) and the loss of a peer (R328) -/

/-- Only the faults of the device's record differ. -/
def FaultsOnly (s t : State) : Prop := t.dev = { s.dev with faults := t.dev.faults }

theorem FaultsOnly.refl (s : State) : FaultsOnly s s := rfl

theorem FaultsOnly.trans {s t u : State} (h : FaultsOnly s t) (k : FaultsOnly t u) : FaultsOnly s u := by
  unfold FaultsOnly at *
  rw [k, h]

theorem FaultsOnly.frame {s t : State} {m : List Comp} (k : Frame m s t) (hm : m.contains .dev = false) : FaultsOnly s t := by
  unfold FaultsOnly
  rw [k.dev hm]

theorem Held.faultsOnly {s t : State} (h : Held s t) : FaultsOnly s t := h.1

theorem FaultsOnly.ite {p : Prop} [Decidable p] {s t u : State} (h : FaultsOnly s t) (k : FaultsOnly s u) : FaultsOnly s (if p then t else u) := by
  split <;> assumption

theorem judgeLobes_faultsOnly (s : State) : FaultsOnly s (judgeLobes s) := .ite rfl (.refl s)

theorem setRole_faultsOnly (s : State) (l : Nat) (r : Role) : FaultsOnly s (setRole s l r) := by
  unfold setRole
  dsimp only
  split
  · exact .refl s
  · refine .trans ?_ (judgeLobes_faultsOnly _)
    refine .trans ?_ (.frame (raise_frame _ _ _ _) (by decide))
    split <;> split <;> exact rfl

theorem becomeActive_faultsOnly (s : State) (l : Nat) : FaultsOnly s (becomeActive s l) := by
  rw [becomeActive_eq]
  have hset : FaultsOnly s (activeSet s l) := setRole_faultsOnly s l .active
  generalize activeSet s l = u at hset ⊢
  have hun : FaultsOnly u (u.unfault .safeLoad) := rfl
  exact hset.trans (hun.trans (.trans (.frame (flushDeferred_frame _) (by decide)) (.frame (rePark_frame _) (by decide))))

theorem toSyncing_faultsOnly (s : State) (l : Nat) : FaultsOnly s (toSyncing s l) := by
  have hload (u : State) : FaultsOnly u (loadCounter u l).1 := FaultsOnly.frame (loadCounter_frame u l) (by decide)
  have hset := setRole_faultsOnly s l .syncing
  unfold toSyncing
  generalize setRole s l .syncing = u at hset ⊢
  exact hset.trans (hload _)

theorem lobeFailover_first {cause k : Nat} (hl : l < 2) (hc : (s.lobe l).claiming = some (cause, k)) (hg : s.gateMax = (s.lobe l).claim)
    (hr : (s.lobe l).role = .diagnosing) (hd : s.dev.state = .boot) (ho : (s.lobe (1 - l)).role ≠ .active) :
    ∃ t, exec (.lobeFailover l) s = .next t ∧ (t.lobe l).role = .active ∧ t.dev.state = .selftest := by
  have hdev : (becomeActive s l).dev.state = .boot := (congrArg Device.state (becomeActive_faultsOnly s l)).trans hd
  have hfirst : startFirst s l = (becomeActive s l).enter .selftest := by
    unfold startFirst
    dsimp only
    rw [if_neg ho, hdev]
  have hrun : exec (.lobeFailover l) s = .next (sealed s (copyToSyncing ((becomeActive s l).enter .selftest) (1 - l))) := by
    show finish s _ = _
    refine congrArg (finish s) ?_
    dsimp only
    rw [if_pos hl, hc]
    refine (if_neg (not_not_intro hg)).trans ((if_neg (by rw [hr]; decide)).trans ((if_pos hr).trans ?_))
    rw [hfirst]
  obtain ⟨hrole, -⟩ := becomeActive_takes s l
  generalize becomeActive s l = u at hrun hrole
  have hlobe : (u.enter .selftest).lobe l = u.lobe l := lobe_of_lobes ((State.enter_frame u .selftest).lobes rfl) l
  have hstate : (u.enter .selftest).dev.state = .selftest := congrArg Device.state (enter_dev u .selftest)
  generalize u.enter .selftest = v at hrun hlobe hstate
  have hfaults : FaultsOnly v (copyToSyncing v (1 - l)) := .ite (toSyncing_faultsOnly v _) (.refl v)
  have hkeep := (copyToSyncing_lobeOnly v (1 - l)).others l (partner_ne hl).symm
  generalize copyToSyncing v (1 - l) = w at hrun hkeep hfaults
  refine ⟨_, hrun, ?_⟩
  show (w.lobe l).role = .active ∧ w.dev.state = .selftest
  rw [hkeep, hlobe]
  exact ⟨hrole, (congrArg Device.state hfaults).trans hstate⟩

theorem lobeFailover_idle (h : (s.lobe l).claiming = none ∨ s.gateMax ≠ (s.lobe l).claim) :
    ∃ t, exec (.lobeFailover l) s = .next t ∧ Frame [.ex] s t := by
  have hrun : exec (.lobeFailover l) s = .next (sealed s s) := by
    show finish s _ = _
    refine congrArg (finish s) ?_
    dsimp only
    split
    · rfl
    case h_2 hsome =>
      have hg : s.gateMax ≠ (s.lobe l).claim := h.resolve_left fun hn => by
        rw [hn] at hsome
        split at hsome <;> cases hsome
      exact if_pos hg
  exact ⟨_, hrun, frame_sealed (.refl s) (by decide)⟩

theorem lobeFailover_goesOn {cause k : Nat} (hl : l < 2) (hc : (s.lobe l).claiming = some (cause, k)) (hg : s.gateMax = (s.lobe l).claim)
    (hr : (s.lobe l).role = .active) :
    ∃ t, exec (.lobeFailover l) s = .next t ∧ t.lobe l = { s.lobe l with claiming := none } ∧
      if (s.lobe (1 - l)).role = .diagnosing ∨ (s.lobe (1 - l)).role = .offline ∧ s.claimsNow (1 - l) = false then
        t.lobe (1 - l) = s.lobe (1 - l)
      else s.claimsNow (1 - l) = false → s.lostNow (1 - l) = false →
        (t.lobe (1 - l)).role = (if s.mayRun (1 - l) = true then .diagnosing else .offline) ∧ (t.lobe (1 - l)).claim = 0 ∧
          (s.mayRun (1 - l) = true → .lobe (1 - l) ∈ t.dev.faults) := by
  have hrun : exec (.lobeFailover l) s = .next (sealed s (peerGone s l)) := by
    show finish s _ = _
    refine congrArg (finish s) ?_
    dsimp only
    rw [if_pos hl, hc]
    exact (if_neg (not_not_intro hg)).trans (if_pos hr)
  have hown : (s.setLobe l { s.lobe l with claiming := none }).lobe l = { s.lobe l with claiming := none } := lobe_setLobe _ _ _
  have hother : (s.setLobe l { s.lobe l with claiming := none }).lobe (1 - l) = s.lobe (1 - l) := lobe_setLobe_other _ _ (partner_ne hl)
  have htick : (s.setLobe l { s.lobe l with claiming := none }).tick = s.tick := rfl
  have hmay : (s.setLobe l { s.lobe l with claiming := none }).mayRun (1 - l) = s.mayRun (1 - l) := by
    unfold State.mayRun
    rw [hother]
    rfl
  unfold peerGone at hrun
  dsimp only at hrun
  generalize s.setLobe l { s.lobe l with claiming := none } = u at hrun hown hother htick hmay
  have hnow : u.claimsNow (1 - l) = s.claimsNow (1 - l) := by unfold State.claimsNow; rw [hother, htick]
  have hlost : u.lostNow (1 - l) = s.lostNow (1 - l) := by unfold State.lostNow; rw [hother, htick]
  have honly := (dealWithOther_lobeOnly u (1 - l)).others l (partner_ne hl).symm
  have hdeal := dealWithOther_eq u (1 - l)
  obtain ⟨hrole, hclaim, -⟩ := resetLobe_resets u (1 - l) false
  have hfault (w : State) (c : FaultCause) : (w.fault c).lobe (1 - l) = w.lobe (1 - l) := lobe_of_lobes ((State.fault_frame w c).lobes rfl) _
  generalize resetLobe u (1 - l) false = r at hdeal hrole hclaim
  rw [hother] at hrun hdeal
  rw [hnow, hlost] at hdeal
  rw [hmay] at hrole
  generalize dealWithOther u (1 - l) = d at hrun honly hdeal
  refine ⟨_, hrun, ?_⟩
  by_cases hdiag : (s.lobe (1 - l)).role = .diagnosing
  · rw [if_pos hdiag, if_pos (Or.inl hdiag)]
    exact ⟨hown, hother⟩
  rw [if_neg hdiag]
  show d.lobe l = _ ∧ _
  refine ⟨honly.trans hown, ?_⟩
  split
  case isTrue h =>
    obtain ⟨hoff, hn⟩ := h.resolve_left hdiag
    rw [hn, if_neg (by decide), if_pos (Or.inl hoff)] at hdeal
    show d.lobe (1 - l) = _
    rw [hdeal, hother]
  case isFalse h =>
    intro hn hm
    rw [hn, hm, if_neg (by decide), if_neg (fun hx => by
      rcases hx with hx | ⟨-, hx⟩
      · exact h (Or.inr ⟨hx, hn⟩)
      · cases hx)] at hdeal
    show (d.lobe (1 - l)).role = _ ∧ (d.lobe (1 - l)).claim = 0 ∧ (_ → _ ∈ d.dev.faults)
    rw [hdeal]
    by_cases hrun' : s.mayRun (1 - l) = true
    · rw [if_pos hrun'] at hrole
      rw [if_pos hrole, if_pos hrun', hfault]
      exact ⟨hrole, hclaim, fun _ => mem_fault _ _⟩
    · rw [if_neg hrun'] at hrole
      rw [if_neg (by rw [hrole]; decide), if_neg hrun']
      exact ⟨hrole, hclaim, fun hx => absurd hx hrun'⟩

end

/-- Settles O48: each claim, gate and takeover by the lemma of its clause; what a takeover does is `takeOver_takes`. -/
theorem claimsAndTakeover : Obligations.ClaimsAndTakeover :=
  ⟨fun _ _ hl h => claimBroadcast_reads hl h, fun _ _ hb hp ht hw hh => gateFault_found hb hp ht hw hh, fun _ _ h => gateFault_idle h,
    fun _ _ _ hl hb hr => writeRefused_judges hl hb hr, fun _ _ _ _ hl hc hg hr => lobeFailover_takes hl hc hg hr,
    fun _ _ _ _ hl hc hg hr hd ho => lobeFailover_first hl hc hg hr hd ho, fun _ _ h => lobeFailover_idle h,
    fun _ _ _ _ hl hc hg hr => lobeFailover_goesOn hl hc hg hr⟩

end Sys2Proof.Proofs

/-!
SUPPORT. Snapshots and role swaps (R329, R330, R333 to R335).
-/

namespace Sys2Proof.Proofs

open Sys2Proof Sys2Proof.Machine Sys2Proof.Laws

section

variable {s t : State} {a b h : Nat}

/-! ### Snapshots (R329, R330) -/

theorem mayCapture_iff : s.mayCapture = true ↔ s.active.isSome = true ∧ s.tick % 256 = 0 ∧ s.lobes.final = none ∧
    (s.maySwap = true ∨ ∀ k, s.lobes.lastCapture = some k → s.elapsed k 1000000 = true) := by
  have hlast : (match s.lobes.lastCapture with | some t => s.elapsed t 1000000 | none => true) = true ↔
      ∀ k, s.lobes.lastCapture = some k → s.elapsed k 1000000 = true := by
    cases s.lobes.lastCapture with
    | none => simp
    | some k => simp
  unfold State.mayCapture
  rw [Bool.and_eq_true, Bool.and_eq_true, Bool.or_eq_true, decide_eq_true_iff, and_assoc, and_assoc]
  exact and_congr_right fun _ => and_congr_right fun _ => and_congr_right fun _ => or_congr_right hlast

/-- Every wrap that runs pauses in LOCKED. -/
theorem freezeWraps_locks (s : State) (e : Nat) (he : (s.elem e).state = .wrapping) : ((freezeWraps s).elem e).state = .locked := by
  have hfind : mfind s.loops.elems e = some (s.elem e) := by
    unfold State.elem mget at he ⊢
    cases hf : mfind s.loops.elems e with
    | none =>
      rw [hf] at he
      cases he
    | some x => rfl
  have hmem : (e, s.elem e) ∈ s.loops.elems.filter fun y => y.2.state == .wrapping :=
    List.mem_filter.mpr ⟨mem_of_mfind hfind, by rw [he]; rfl⟩
  unfold freezeWraps
  refine foldl_reaches (P := fun u => (u.elem e).state = .locked) (Q := fun y => y.1 = e) ⟨_, hmem, rfl⟩ ?_ ?_ s
  · intro u y _ hy
    rw [← hy, elem_setElem]
  · intro u y _ hy hu
    rwa [elem_setElem_other _ _ (fun h => hy h.symm)]

/-- What ROLE_SWAPPED leaves of the lobes' record. -/
theorem reportSwap_lobes (s : State) : (reportSwap s).lobes = { s.lobes with swapped := none } := by
  unfold reportSwap
  split
  · exact raise_lobes _ _ _ _
  case h_2 hn => exact (congrArg (fun x => ({ s.lobes with swapped := x } : Lobes)) hn.symm).symm

/-- The state whose snapshot is captured. -/
def readied (s : State) : State :=
  if s.maySwap then freezeWraps { s with lobes := { s.lobes with final := some (s.lobes.snapSeq + 1, s.scan) } } else s

def captured (u : State) (n : Nat) : State :=
  { u with lobes := { u.lobes with snapSeq := n, capture := some (u.snapshotNow n), lastCapture := some u.tick } }

theorem snapshotCapture_captures : ∃ t, exec .snapshotCapture s = .next t ∧
    if s.active.isSome = true ∧ s.tick % 256 = 0 ∧ s.lobes.final = none ∧
        (s.maySwap = true ∨ ∀ k, s.lobes.lastCapture = some k → s.elapsed k 1000000 = true) then
      t.lobes.snapSeq = s.lobes.snapSeq + 1 ∧ t.lobes.snap = s.lobes.snap ∧ t.lobes.lastCapture = some s.tick ∧
        t.lobes.swapped = none ∧
      if s.maySwap = true then
        t.lobes.final = some (s.lobes.snapSeq + 1, s.scan) ∧ Frame [.objs, .ex, .lobes, .sorus, .loops] s t ∧
        (∀ e, (s.elem e).state = .wrapping → (t.elem e).state = .locked) ∧
        ∃ x, t.lobes.capture = some x ∧ x.seq = s.lobes.snapSeq + 1 ∧ x.scan = s.scan ∧ x.tick = s.tick ∧ x.funcs = s.funcs
      else
        t.lobes.final = none ∧ t.lobes.capture = some (s.snapshotNow (s.lobes.snapSeq + 1)) ∧ Frame [.objs, .ex, .lobes, .sorus] s t
    else Frame [.ex] s t := by
  by_cases hc : s.mayCapture = true
  case neg =>
    refine ⟨_, congrArg (finish s) (if_neg hc), ?_⟩
    rw [if_neg (fun h => hc (mayCapture_iff.mpr h))]
    exact frame_sealed (.refl s) (by decide)
  have hrun : exec .snapshotCapture s = .next (sealed s (reportSwap (captured (readied s) (s.lobes.snapSeq + 1)))) :=
    congrArg (finish s) (if_pos hc)
  have hfinal := (mayCapture_iff.mp hc).2.2.1
  have hread : Frame [.lobes, .sorus, .loops] s (readied s) :=
    .ite (.step (freezeWraps_frame _) (by decide) (.set_lobes (by decide) (.refl s))) (.refl s)
  have hlobes : (readied s).lobes = if s.maySwap = true then { s.lobes with final := some (s.lobes.snapSeq + 1, s.scan) } else s.lobes := by
    unfold readied
    split
    · exact (freezeWraps_frame _).lobes rfl
    · rfl
  have hplain : s.maySwap = false → readied s = s := fun h => if_neg (by rw [h]; decide)
  have hlock : s.maySwap = true → ∀ e, (s.elem e).state = .wrapping → ((readied s).elem e).state = .locked := fun h e he => by
    unfold readied
    rw [if_pos h]
    exact freezeWraps_locks _ e he
  generalize readied s = u at hrun hread hlobes hplain hlock
  generalize hn : s.lobes.snapSeq + 1 = n at hrun hlobes ⊢
  have hrep := reportSwap_lobes (captured u n)
  have hframe := reportSwap_frame (captured u n)
  have hu : Frame [.lobes] u (captured u n) := .set_lobes (by decide) (.refl u)
  generalize reportSwap (captured u n) = w at hrun hrep hframe
  refine ⟨_, hrun, ?_⟩
  rw [if_pos (mayCapture_iff.mp hc)]
  show w.lobes.snapSeq = n ∧ w.lobes.snap = _ ∧ w.lobes.lastCapture = _ ∧ w.lobes.swapped = _ ∧ _
  have htick : u.tick = s.tick := hread.tick rfl
  refine ⟨by rw [hrep]; rfl, ?_, ?_, by rw [hrep], ?_⟩
  · rw [hrep]
    show u.lobes.snap = _
    rw [hlobes]
    split <;> rfl
  · rw [hrep]
    exact congrArg some htick
  split
  case isTrue hswap =>
    refine ⟨?_, frame_sealed (.step hframe (by decide) (.step hu (by decide) (hread.mono (by decide)))) (by decide), fun e he => ?_, ?_⟩
    · show w.lobes.final = _
      rw [hrep]
      show u.lobes.final = _
      rw [hlobes, if_pos hswap]
    · show (w.elem e).state = _
      have hloops : w.loops = u.loops := (hframe.loops rfl).trans (hu.loops rfl)
      rw [show w.elem e = u.elem e from congrArg (fun y : Loops => mget ({} : Elem) y.elems e) hloops]
      exact hlock hswap e he
    · refine ⟨u.snapshotNow n, ?_, rfl, ?_, htick, hread.funcs rfl⟩
      · show w.lobes.capture = _
        rw [hrep]
        rfl
      · show u.scan = s.scan
        unfold State.scan
        rw [htick]
  case isFalse hswap =>
    have hus := hplain (Bool.eq_false_iff.mpr hswap)
    subst hus
    refine ⟨?_, ?_, frame_sealed (.step hframe (by decide) (.step hu (by decide) (.refl u))) (by decide)⟩
    · show w.lobes.final = _
      rw [hrep]
      exact hfinal
    · show w.lobes.capture = _
      rw [hrep]
      rfl

/-- A snapshot that has arrived without what may be wrong with it taken away. -/
def received (s : State) (bad : Bool) : State :=
  { s with lobes := { s.lobes with capture := none }, mat := { s.mat with transferBad := s.mat.transferBad && !bad } }

theorem snapshotReceived_judges {x : Snapshot} {crcOk : Bool} (hx : s.lobes.capture = some x) (hon : s.snapOn = true)
    (h0 : (s.lobe 0).linkLost = false) (h1 : (s.lobe 1).linkLost = false) :
    ∃ t, exec (.snapshotReceived crcOk) s = .next t ∧ t.lobes.capture = none ∧
      if crcOk = true ∧ (x.path = 1 → s.mat.transferBad = false) ∧ (∀ y, s.lobes.snap = some y → y.seq < x.seq) then
        t.lobes.snap = some x ∧ t.lobes.snapLate = false
      else t.lobes.snap = s.lobes.snap ∧ t.objN Obj.SNAP_DISCARDS 0 = min u32Max (s.objN Obj.SNAP_DISCARDS 0 + 1) := by
  have hnewer : (match s.lobes.snap with | some y => decide (y.seq < x.seq) | none => true) = true ↔ ∀ y, s.lobes.snap = some y → y.seq < x.seq := by
    cases s.lobes.snap with
    | none => simp
    | some y => simp
  have hgood : (crcOk && !(x.path == 1 && s.mat.transferBad)) = true ↔ crcOk = true ∧ (x.path = 1 → s.mat.transferBad = false) := by
    rw [Bool.and_eq_true]
    refine and_congr_right fun _ => ?_
    cases s.mat.transferBad <;> simp
  have hrun : exec (.snapshotReceived crcOk) s = .next (sealed s
      (let v := received s (x.path == 1 && s.mat.transferBad)
       if (crcOk && !(x.path == 1 && s.mat.transferBad)) && (match s.lobes.snap with | some y => decide (y.seq < x.seq) | none => true) then
         { v with lobes := { v.lobes with snap := some x, snapLate := false } }
       else raiseS (v.incSat Obj.SNAP_DISCARDS 0) 0x6007
         [.word x.seq, .word (if crcOk && !(x.path == 1 && s.mat.transferBad) then 2 else 1)])) := by
    show finish s _ = _
    refine congrArg (finish s) ?_
    rw [hx]
    exact if_neg (by rw [hon, h0, h1]; decide)
  generalize (match s.lobes.snap with | some y => decide (y.seq < x.seq) | none => true) = newer at hrun hnewer
  generalize (crcOk && !(x.path == 1 && s.mat.transferBad)) = good at hrun hgood
  generalize (x.path == 1 && s.mat.transferBad) = bad at hrun
  generalize (if good = true then (2 : Int) else 1) = k at hrun
  have hiff : (good && newer) = true ↔ crcOk = true ∧ (x.path = 1 → s.mat.transferBad = false) ∧ (∀ y, s.lobes.snap = some y → y.seq < x.seq) := by
    rw [Bool.and_eq_true, hgood, hnewer, and_assoc]
  by_cases hok : (good && newer) = true
  · refine ⟨_, hrun.trans (congrArg (finish s) (if_pos hok)), rfl, ?_⟩
    rw [if_pos (hiff.mp hok)]
    exact ⟨rfl, rfl⟩
  have hrun' := hrun.trans (congrArg (finish s) (if_neg hok))
  have hrec : (received s bad).lobes = { s.lobes with capture := none } := rfl
  have hcount : ((received s bad).incSat Obj.SNAP_DISCARDS 0).objN Obj.SNAP_DISCARDS 0 = min u32Max (s.objN Obj.SNAP_DISCARDS 0 + 1) :=
    objN_incSat_self _ _ _
  have hinc : ((received s bad).incSat Obj.SNAP_DISCARDS 0).lobes = (received s bad).lobes := rfl
  generalize (received s bad).incSat Obj.SNAP_DISCARDS 0 = v at hrun' hcount hinc
  have hlobes := raiseS_lobes v 0x6007 [.word x.seq, .word k]
  have hobj : (raiseS v 0x6007 [.word x.seq, .word k]).objN Obj.SNAP_DISCARDS 0 = v.objN Obj.SNAP_DISCARDS 0 :=
    congrArg Int.toNat (raiseS_obj (by decide) v _ _)
  generalize raiseS v 0x6007 [.word x.seq, .word k] = w at hrun' hlobes hobj
  have hw : w.lobes = { s.lobes with capture := none } := hlobes.trans (hinc.trans hrec)
  refine ⟨_, hrun', ?_, ?_⟩
  · show w.lobes.capture = none
    rw [hw]
  rw [if_neg (fun h => hok (hiff.mpr h))]
  refine ⟨?_, hobj.trans hcount⟩
  show w.lobes.snap = _
  rw [hw]

theorem snapshotLate_marks {x : Snapshot} (hx : s.lobes.snap = some x) (hon : s.snapOn = true) (hl : s.lobes.snapLate = false) :
    ∃ t, exec .snapshotLate s = .next t ∧
      if 480000000 < 1024 * (s.tick - x.tick) then t.lobes = { s.lobes with snapLate := true } else Frame [.ex] s t := by
  have hrun : exec .snapshotLate s = .next (sealed s
      (if s.snapOn ∧ ¬ s.lobes.snapLate ∧ 480000000 < 1024 * (s.tick - x.tick) then
        raiseS { s with lobes := { s.lobes with snapLate := true } } 0x6008 [.word s.snapAge] else s)) := by
    show finish s _ = _
    rw [hx]
    rfl
  refine ⟨_, hrun, ?_⟩
  generalize 1024 * (s.tick - x.tick) = d
  split
  case isTrue h =>
    rw [if_pos ⟨hon, by rw [hl]; decide, h⟩]
    exact raiseS_lobes _ _ _
  case isFalse h =>
    rw [if_neg (fun hc => h hc.2.2)]
    exact frame_sealed (.refl s) (by decide)

/-! ### When swaps fall due (R333) -/

theorem swapDue_marks (he : s.obj Obj.SWAP_ENABLE 0 = 1) (hd : s.lobes.swapDue = none) (ha : s.active.isSome = true) :
    ∃ t, exec .swapDue s = .next t ∧
      if s.elapsed s.lobes.lastTakeover (1000000000 * s.objN Obj.SWAP_INTERVAL 0) = true then
        t.lobes = { s.lobes with swapDue := some s.tick } ∧ Frame [.ex, .lobes] s t
      else Frame [.ex] s t := by
  have hiff : (s.obj Obj.SWAP_ENABLE 0 = 1 ∧ s.lobes.swapDue = none ∧ s.active.isSome ∧
      s.elapsed s.lobes.lastTakeover (1000000000 * s.objN Obj.SWAP_INTERVAL 0)) ↔
      s.elapsed s.lobes.lastTakeover (1000000000 * s.objN Obj.SWAP_INTERVAL 0) = true :=
    ⟨fun h => h.2.2.2, fun h => ⟨he, hd, ha, h⟩⟩
  generalize hel : s.elapsed s.lobes.lastTakeover (1000000000 * s.objN Obj.SWAP_INTERVAL 0) = passed at hiff ⊢
  have hrun : exec .swapDue s = .next (sealed s (if passed = true then { s with lobes := { s.lobes with swapDue := some s.tick } } else s)) := by
    rw [← hel]
    refine congrArg (finish s) (ite_congr (propext ?_) (fun _ => rfl) (fun _ => rfl))
    rw [hel]
    exact hiff
  refine ⟨_, hrun, ?_⟩
  split
  · exact ⟨rfl, frame_sealed (.set_lobes (by decide) (.refl s)) (by decide)⟩
  · exact frame_sealed (.refl s) (by decide)

theorem swapNow_marks {sess : Nat} (h : s.accepts sess Obj.SWAP_NOW 0 1 = true) : ∃ t, exec (.swapNow sess) s = .next t ∧
    if s.standby.isSome = true then
      t.answered sess 0 Obj.SWAP_NOW 0 (.ack []) ∧ t.lobes = { s.lobes with swapDue := some s.tick, swapAsked := true } ∧
        Frame [.ex, .lobes] s t
    else t.answered sess 0 Obj.SWAP_NOW 0 (.nak .state 0 0) ∧ Frame [.ex] s t := by
  have hseen := seen_frame s sess
  have hlobes := hseen.lobes rfl
  have htick := hseen.tick rfl
  have hstand : (seen s sess).standby = s.standby := congrArg (fun k : Lobes => if k.each.a.role = .standby then some 0 else
    if k.each.b.role = .standby then some 1 else none) hlobes
  refine ⟨_, rfl, ?_⟩
  by_cases hs : s.standby.isSome = true
  · rw [if_pos hs]
    have heff : effSwapNow (seen s sess) =
        ({ seen s sess with lobes := { (seen s sess).lobes with swapDue := some (seen s sess).tick, swapAsked := true } }, .ack) :=
      if_neg (by rw [hstand, Option.isNone_iff_eq_none]; exact fun e => by rw [e] at hs; cases hs)
    obtain ⟨hans, hframe⟩ := hostWrite_acks h (congrArg Prod.snd heff) (opens_of_frame (effSwapNow_frame _) (by decide))
    rw [heff] at hframe
    refine ⟨hans, (hframe.lobes rfl).trans ?_, ?_⟩
    · show { (seen s sess).lobes with swapDue := some (seen s sess).tick, swapAsked := true } = _
      rw [hlobes, htick]
    · exact frame_sealed (.trans (.set_lobes (by decide) (hseen.mono (by decide))) (hframe.mono (by decide))) (by decide)
  · rw [if_neg hs]
    have heff : effSwapNow (seen s sess) = (seen s sess, .nak .state) :=
      if_pos (by rw [hstand, Option.isNone_iff_eq_none]; exact Option.not_isSome_iff_eq_none.mp hs)
    obtain ⟨hans, hframe⟩ := hostWrite_refused h heff (by decide)
    exact ⟨hans, frame_sealed hframe (by decide)⟩

/-! ### Skipped swaps (R333, R335) -/

theorem updateSwaps_idle (hf : s.dev.fwStage = .idle) : s.updateSwaps = false := by
  unfold State.updateSwaps
  rw [hf]
  rfl

theorem skipSwap_lobes (hf : s.dev.fwStage = .idle) (code : Nat) : (skipSwap s code).lobes =
    { s.lobes with swapDue := none, swapAsked := false, lastTakeover := s.tick, final := none, handover := none } := by
  unfold skipSwap
  dsimp only
  rw [updateSwaps_idle hf]
  exact raise_lobes _ _ _ _

theorem roleSwapped_idle (h : s.lobes.handover = none ∨ s.tick % 256 ≠ 0 ∨ s.finalDone = false) :
    ∃ t, exec .roleSwapped s = .next t ∧ Frame [.ex] s t := by
  have hrun : exec .roleSwapped s = .next (sealed s s) := by
    show finish s _ = _
    refine congrArg (finish s) ?_
    split
    case h_1 hs =>
      refine if_neg fun hc => ?_
      rcases h with h | h | h
      · rw [h] at hs
        cases hs
      · exact h hc.1
      · rw [h] at hc
        exact absurd hc.2.2 (by decide)
    case h_2 => rfl
  exact ⟨_, hrun, frame_sealed (.refl s) (by decide)⟩

theorem swapSkipped_abandons {f : Nat × Nat} (hf : s.lobes.final = some f) (h : s.maySwap = false ∨ f.2 + 256 < s.scan)
    (hi : s.dev.fwStage = .idle) : ∃ t, exec .swapSkipped s = .next t ∧
      t.lobes = { s.lobes with swapDue := none, swapAsked := false, lastTakeover := s.tick, final := none, handover := none } := by
  have hrun : exec .swapSkipped s = .next (sealed s (skipSwap s 7)) := by
    refine congrArg (finish s) (if_pos ?_)
    rw [hf]
    refine ⟨rfl, h.imp (fun e => by rw [e]; decide) fun e => ?_⟩
    exact decide_eq_true e
  exact ⟨_, hrun, skipSwap_lobes hi 7⟩

theorem swapSkipped_skips {k n : Nat} (hk : s.lobes.swapDue = some k) (hn : s.swapBar = some n) (hf : s.lobes.final = none)
    (hi : s.dev.fwStage = .idle) : ∃ t, exec .swapSkipped s = .next t ∧
      if s.elapsed k (1000000000 * s.objN Obj.SWAP_POSTPONE_MAX 0) = true then
        t.lobes = { s.lobes with swapDue := none, swapAsked := false, lastTakeover := s.tick, handover := none }
      else Frame [.ex] s t := by
  generalize hel : s.elapsed k (1000000000 * s.objN Obj.SWAP_POSTPONE_MAX 0) = passed
  have hrun : exec .swapSkipped s = .next (sealed s (if passed = true then skipSwap s n else s)) := by
    show finish s _ = _
    refine congrArg (finish s) ((if_neg fun h => ?_).trans ?_)
    · rw [hf] at h
      cases h.1
    · rw [hk, hn]
      exact hel ▸ rfl
  refine ⟨_, hrun, ?_⟩
  split
  · refine (skipSwap_lobes hi n).trans ?_
    exact congrArg (fun x => ({ s.lobes with swapDue := none, swapAsked := false, lastTakeover := s.tick, final := x, handover := none } : Lobes)) hf.symm
  · exact frame_sealed (.refl s) (by decide)

/-! ### Role swaps (R334) -/

/-- The partner's claim, broadcast. -/
def swapClaimed (s : State) (b : Nat) : State := broadcast (takeClaim s b 4) b

/-- The old ACTIVE lobe in STANDBY, its claim lowered. -/
def swapLowered (s : State) (a : Nat) : State :=
  let u := setRole s a .standby
  u.setLobe a { u.lobe a with claim := 0, claiming := none }

/-- Sessions, commits and loops as the final snapshot has them. -/
def swapRestored (s : State) (forced : Bool) : State :=
  let u := match s.lobes.snap with | some x => restoreSessions (reconcileAll s x) x | none => s
  if forced then loseLocal u else u

/-- The report that a swap leaves due. -/
def swapMarked (u : State) (b : Nat) : State := { u with lobes := { u.lobes with swapped := some (b, (u.lobe b).claim) } }

theorem swapMarked_shows (u : State) (b : Nat) : (swapMarked u b).lobes.each = u.lobes.each ∧
    (swapMarked u b).lobes.swapDue = u.lobes.swapDue ∧ (swapMarked u b).lobes.lastTakeover = u.lobes.lastTakeover ∧
    (swapMarked u b).lobes.swapped = some (b, (u.lobe b).claim) ∧ (swapMarked u b).objs = u.objs ∧ (swapMarked u b).dev = u.dev :=
  ⟨rfl, rfl, rfl, rfl, rfl, rfl⟩

/-- The end of a swap: its registers and the report that is due. -/
def swapNoted (s : State) (b hold : Nat) : State := swapMarked (noteTakeover (advanceSeqs s) 4 hold) b

theorem swapRoles_eq (ha : s.active = some a) (hb : s.standby = some b) (forced : Bool) : swapRoles s forced =
    swapNoted (swapRestored (becomeActive (swapLowered (swapClaimed s b) a) b) forced) b (s.heldNs (s.tick + 256)) := by
  unfold swapRoles
  simp -zeta only [ha, hb]
  extract_lets hold claimed exchanged old lowered taken reconciled restored noted
  have hlowered : lowered = swapLowered (swapClaimed s b) a := rfl
  clear_value lowered
  have htaken : taken = becomeActive lowered b := rfl
  clear_value taken
  have hrestored : restored = swapRestored taken forced := rfl
  clear_value restored
  rw [← hlowered, ← htaken, ← hrestored]
  rfl

theorem swapRestored_inward (s : State) (forced : Bool) : Inward s (swapRestored s forced) := by
  unfold swapRestored
  dsimp only
  have h : Inward s (match s.lobes.snap with | some x => restoreSessions (reconcileAll s x) x | none => s) := by
    split
    · exact .step (restoreSessions_inward _ _) (reconcileAll_inward s _)
    · exact .refl s
  generalize (match s.lobes.snap with | some x => restoreSessions (reconcileAll s x) x | none => s) = u at h ⊢
  exact .ite (.step (loseLocal_inward u) h) h

theorem swapRestored_faultsOnly (s : State) (forced : Bool) : FaultsOnly s (swapRestored s forced) := by
  unfold swapRestored
  dsimp only
  have h : FaultsOnly s (match s.lobes.snap with | some x => restoreSessions (reconcileAll s x) x | none => s) := by
    split
    · exact (Held.faultsOnly (reconcileAll_held s _)).trans (.frame (restoreSessions_frame _ _) (by decide))
    · exact .refl s
  generalize (match s.lobes.snap with | some x => restoreSessions (reconcileAll s x) x | none => s) = u at h ⊢
  exact .ite (h.trans (Held.faultsOnly (loseLocal_held u))) h

theorem Inward.swapDue {s t : State} (h : Inward s t) : t.lobes.swapDue = s.lobes.swapDue := by rw [h.lobes]

/-- The lobes, what a swap ends and the device's record after the roles were exchanged. -/
theorem swapRoles_swaps (ha : s.active = some a) (hb : s.standby = some b) (forced : Bool) :
    ((swapRoles s forced).lobe b).role = .active ∧ ((swapRoles s forced).lobe a).role = .standby ∧
      ((swapRoles s forced).lobe b).claim = claimOf ((s.lobe b).seenEpoch + 1) b ∧ ((swapRoles s forced).lobe a).claim = 0 ∧
      (swapRoles s forced).lobes.swapDue = none ∧ (swapRoles s forced).lobes.lastTakeover = s.tick ∧
      (swapRoles s forced).objN Obj.LAST_FAILOVER_CAUSE 0 = 4 ∧
      (swapRoles s forced).lobes.swapped = some (b, ((swapRoles s forced).lobe b).claim) ∧ FaultsOnly s (swapRoles s forced) := by
  have hne : (a = 0) ≠ (b = 0) := by
    rw [standby_partner ha hb]
    exact partner_ne (role_of_active ha).1
  have heq := swapRoles_eq ha hb forced
  generalize s.heldNs (s.tick + 256) = hold at heq
  -- the partner's claim
  have hclaimB : ((swapClaimed s b).lobe b).claim = claimOf ((s.lobe b).seenEpoch + 1) b := by
    unfold swapClaimed
    rw [broadcast_eq, readSummary_lobe, gatesRaised_lobe, takeClaim_lobe]
  have htick1 : (swapClaimed s b).tick = s.tick := (broadcast_frame (takeClaim s b 4) b).tick rfl
  have hdev1 : FaultsOnly s (swapClaimed s b) := by
    unfold swapClaimed
    exact (FaultsOnly.frame (takeClaim_frame s b 4) (by decide)).trans (.frame (broadcast_frame _ b) (by decide))
  generalize swapClaimed s b = u at heq hclaimB htick1 hdev1
  -- the old lobe
  have hroleA : ((swapLowered u a).lobe a).role = .standby ∧ ((swapLowered u a).lobe a).claim = 0 := by
    unfold swapLowered
    dsimp only
    rw [lobe_setLobe, setRole_lobe]
    exact ⟨rfl, rfl⟩
  have hkeepB : (swapLowered u a).lobe b = u.lobe b := by
    unfold swapLowered
    dsimp only
    rw [lobe_setLobe_other _ _ hne, setRole_lobe_other _ _ hne]
  have htick2 : (swapLowered u a).tick = u.tick := (setRole_frame u a .standby).tick rfl
  have hdev2 : FaultsOnly u (swapLowered u a) := setRole_faultsOnly u a .standby
  generalize swapLowered u a = v at heq hroleA hkeepB htick2 hdev2
  -- the new lobe
  obtain ⟨hrole, hclaim, -, hlast, hdue⟩ := becomeActive_takes v b
  have hkeepA := becomeActive_other v hne.symm
  have hdev3 := becomeActive_faultsOnly v b
  generalize becomeActive v b = w at heq hrole hclaim hlast hdue hkeepA hdev3
  have hin := swapRestored_inward w forced
  have hdev4 := swapRestored_faultsOnly w forced
  generalize swapRestored w forced = x at heq hin hdev4
  -- its registers
  have hadv := advanceSeqs_frame x
  obtain ⟨hcause, -⟩ := noteTakeover_shows (advanceSeqs x) 4 hold
  have hnote := noteTakeover_frame (advanceSeqs x) 4 hold
  have hmark : swapRoles s forced = swapMarked (noteTakeover (advanceSeqs x) 4 hold) b := heq
  generalize advanceSeqs x = y at hadv hcause hnote hmark
  generalize noteTakeover y 4 hold = z at hcause hnote hmark
  obtain ⟨heach, hdue', hlast', hswapped, hobjs, hdevz⟩ := swapMarked_shows z b
  rw [← hmark] at heach hdue' hlast' hswapped hobjs hdevz
  generalize swapRoles s forced = t at heach hdue' hlast' hswapped hobjs hdevz ⊢
  have hz : z.lobes = x.lobes := (hnote.lobes rfl).trans (hadv.lobes rfl)
  have hlobe (m : Nat) : t.lobe m = w.lobe m :=
    (congrArg (fun p : Pair Lobe => p.at m) (heach.trans (congrArg Lobes.each hz))).trans (hin.lobe m)
  rw [hlobe, hlobe, hkeepA]
  refine ⟨hrole, hroleA.1, ?_, hroleA.2, ?_, ?_, ?_, ?_, ?_⟩
  · rw [hclaim, hkeepB, hclaimB]
  · exact hdue'.trans ((congrArg Lobes.swapDue hz).trans (hin.swapDue.trans hdue))
  · exact hlast'.trans ((congrArg Lobes.lastTakeover hz).trans (hin.lastTakeover.trans (hlast.trans (htick2.trans htick1))))
  · exact (objN_of_objs hobjs _ _).trans hcause
  · rw [hswapped, lobe_of_lobes hz, hin.lobe]
  · refine hdev1.trans (hdev2.trans (hdev3.trans (hdev4.trans ?_)))
    unfold FaultsOnly
    rw [hdevz, hnote.dev rfl, hadv.dev rfl]

/-- A swap that may go on at its scan boundary, no firmware update under way. -/
theorem roleSwapped_runs (ha : s.active = some a) (hh : s.lobes.handover = some h) (ht : s.tick % 256 = 0) (hs : h ≤ s.scan)
    (hf : s.finalDone = true) : exec .roleSwapped s = .next (sealed s
      (if s.maySwap then
        endRollBack (fwSwapped (if s.leaving then toOffline (swapRoles { s with lobes := { s.lobes with swapAsked := false } } s.leaving) a 2
          else swapRoles { s with lobes := { s.lobes with swapAsked := false } } s.leaving) a)
      else skipSwap s 7)) := by
  show finish s _ = _
  refine congrArg (finish s) ?_
  rw [ha, hh]
  exact if_pos ⟨ht, hs, hf⟩

/-- Without an update under way nothing follows a swap. -/
theorem swapEnd_idle (h : s.dev.fwStage = .idle) (a : Nat) : endRollBack (fwSwapped s a) = s := by
  have hsw : fwSwapped s a = s := by
    unfold fwSwapped
    rw [h]
  rw [hsw]
  unfold endRollBack
  split
  · exact if_neg fun hc => by
      rw [h] at hc
      cases hc.1
  · rfl

theorem roleSwapped_swaps (ha : s.active = some a) (hb : s.standby = some b) (hl : s.leaving = false) (hh : s.lobes.handover = some h)
    (ht : s.tick % 256 = 0) (hs : h ≤ s.scan) (hf : s.finalDone = true) (hi : s.dev.fwStage = .idle) :
    ∃ t, exec .roleSwapped s = .next t ∧
      if s.lobes.swapDue.isSome = true ∧ s.swapBar = none then
        (t.lobe b).role = .active ∧ (t.lobe a).role = .standby ∧ t.lobes.swapDue = none ∧ t.lobes.lastTakeover = s.tick ∧
          t.objN Obj.LAST_FAILOVER_CAUSE 0 = 4 ∧ (t.lobe b).claim = claimOf ((s.lobe b).seenEpoch + 1) b ∧ (t.lobe a).claim = 0 ∧
          t.lobes.swapped = some (b, (t.lobe b).claim)
      else
        t.lobes = { s.lobes with swapDue := none, swapAsked := false, lastTakeover := s.tick, final := none, handover := none } := by
  have hrun := roleSwapped_runs ha hh ht hs hf
  have hmay : s.maySwap = true ↔ s.lobes.swapDue.isSome = true ∧ s.swapBar = none := by
    unfold State.maySwap
    rw [hb, hl, Bool.false_or, Bool.and_eq_true, Bool.and_eq_true, Option.isNone_iff_eq_none]
    exact and_iff_right rfl
  rw [hl] at hrun
  obtain ⟨hact, hstand, hclaim, hlow, hdue, hlast, hcause, hswapped, hdev⟩ :=
    swapRoles_swaps (s := { s with lobes := { s.lobes with swapAsked := false } }) ha hb false
  generalize swapRoles { s with lobes := { s.lobes with swapAsked := false } } false = w at hrun hact hstand hclaim hlow hdue hlast hcause hswapped hdev
  have hidle : w.dev.fwStage = .idle := (congrArg Device.fwStage hdev).trans hi
  have hif : (if false = true then toOffline w a 2 else w) = w := if_neg (by decide)
  rw [hif, swapEnd_idle hidle] at hrun
  refine ⟨_, hrun, ?_⟩
  by_cases hm : s.maySwap = true
  · rw [if_pos hm, if_pos (hmay.mp hm)]
    exact ⟨hact, hstand, hdue, hlast, hcause, hclaim, hlow, hswapped⟩
  · rw [if_neg hm, if_neg (fun hc => hm (hmay.mpr hc))]
    exact skipSwap_lobes hi 7

end

/-- Settles O51: captures, arrivals, due, asked, exchanged and skipped swaps, each by the lemma of its clause. -/
theorem snapshotsAndSwaps : Obligations.SnapshotsAndSwaps :=
  ⟨fun _ => snapshotCapture_captures, fun _ _ _ hx hon h0 h1 => snapshotReceived_judges hx hon h0 h1,
    fun _ _ hx hon hl => snapshotLate_marks hx hon hl, fun _ he hd ha => swapDue_marks he hd ha, fun _ _ h => swapNow_marks h,
    fun _ _ _ _ ha hb hl hh ht hs hf hi => roleSwapped_swaps ha hb hl hh ht hs hf hi, fun _ h => roleSwapped_idle h,
    fun _ _ hf h hi => swapSkipped_abandons hf h hi, fun _ _ _ hk hn hf hi => swapSkipped_skips hk hn hf hi⟩

end Sys2Proof.Proofs

/-!
SUPPORT. Diagnosis, resynchronisation, resets and holds of a lobe (R311, R328, R336 to R338, R341).
-/

namespace Sys2Proof.Proofs

open Sys2Proof Sys2Proof.Machine Sys2Proof.Laws

section

variable {s : State} {l sess : Nat}

/-! ### The end of a diagnosis (R337) -/

/-- The state in which a lobe that has passed its diagnosis has read the claim summary. -/
def diagnosedState (s : State) (l : Nat) : State := readSummary (s.setLobe l { s.lobe l with diagnosed := true, retryAt := none }) l

theorem diagnosedState_lobe (s : State) (l : Nat) : (diagnosedState s l).lobe l =
    { s.lobe l with diagnosed := true, retryAt := none, seenEpoch := max (s.lobe l).seenEpoch (s.gateMax / 2) } := by
  unfold diagnosedState
  rw [readSummary_lobe, lobe_setLobe]
  rfl

theorem toSyncing_counter (s : State) (l : Nat) : ((toSyncing s l).time.ctr.at l).fault = false :=
  congrArg Counter.fault (at_put _ _ _)

theorem diagnosisEnd_runs {pass : Bool} (hl : l < 2) (hr : (s.lobe l).role = .diagnosing) (hb : (s.lobe l).bank.isSome = true)
    (ht : (s.lobe l).retryAt = none) (hc : (s.lobe l).claiming = none) :
    exec (.diagnosisEnd l pass) s = .next (sealed s (if pass then diagPassed s l else diagFailed s l)) :=
  congrArg (finish s) (if_pos ⟨hl, hr, hb, ht, hc⟩)

theorem diagnosisEnd_passes (hl : l < 2) (hr : (s.lobe l).role = .diagnosing) (hb : (s.lobe l).bank.isSome = true)
    (ht : (s.lobe l).retryAt = none) (hc : (s.lobe l).claiming = none) : ∃ t, exec (.diagnosisEnd l true) s = .next t ∧
      if s.mayRun l = false then (t.lobe l).role = .offline
      else if s.hearsActive l = true ∧ s.active.isSome = true then
        (t.lobe l).role = .syncing ∧ (t.lobe l).cleanScans = 0 ∧ (t.time.ctr.at l).fault = false
      else if s.hearsActive l = true ∨ s.tick < (s.lobe l).since + 4689 then
        t.lobe l = { s.lobe l with diagnosed := true, retryAt := none, seenEpoch := max (s.lobe l).seenEpoch (s.gateMax / 2) }
      else
        (t.lobe l).role = .diagnosing ∧ (t.lobe l).claiming = some (0, s.tick) ∧
          (t.lobe l).claim = claimOf (max (s.lobe l).seenEpoch (s.gateMax / 2) + 1) l := by
  have hrun := diagnosisEnd_runs (pass := true) hl hr hb ht hc
  have hlobe := diagnosedState_lobe s l
  have htick : (diagnosedState s l).tick = s.tick := rfl
  have hmay : (diagnosedState s l).mayRun l = s.mayRun l := by
    unfold State.mayRun
    rw [hlobe]
    exact congrArg (fun v : Int => (s.lobe l).strapHigh && v == 0) ((obj_setObj_addr _ (by decide)).trans (obj_setObj_addr _ (by decide)))
  have hhears : (diagnosedState s l).hearsActive l = s.hearsActive l := by
    unfold State.hearsActive
    rw [hlobe, htick]
  have hact : (diagnosedState s l).active = s.active := active_congr fun m => by
    by_cases hm : (l = 0) ≠ (m = 0)
    · exact congrArg Lobe.role (((LobeOnly.setLobe (.refl l s)).trans (readSummary_lobeOnly _ l)).others m hm)
    · have hsame (u : State) : u.lobe m = u.lobe l := by
        unfold State.lobe Pair.at
        by_cases h0 : l = 0
        · rw [if_pos h0, if_pos (by by_contra h; exact hm (by simp [h0, h]))]
        · rw [if_neg h0, if_neg (by intro h; exact hm (by simp [h0, h]))]
      rw [hsame, hsame, hlobe]
  have heq : diagPassed s l = if !(diagnosedState s l).mayRun l then takeRole (diagnosedState s l) l .offline
      else if (diagnosedState s l).hearsActive l then
        (if (diagnosedState s l).active.isSome then toSyncing (diagnosedState s l) l else diagnosedState s l)
      else if (diagnosedState s l).claimsFirst l then takeClaim (diagnosedState s l) l 0 else diagnosedState s l := rfl
  have hfirst := claimsFirst_iff (s := diagnosedState s l) (l := l)
  rw [if_pos rfl, heq] at hrun
  generalize diagnosedState s l = u at hrun hlobe htick hmay hhears hact hfirst
  rw [hmay, hhears, hact] at hrun
  rw [hhears, htick, hlobe] at hfirst
  refine ⟨_, hrun, ?_⟩
  by_cases hm : s.mayRun l = false
  · rw [if_pos hm, if_pos (by rw [hm]; rfl)]
    show ((takeRole u l .offline).lobe l).role = _
    rw [takeRole_role, ite_self]
  rw [if_neg hm, if_neg (show ¬ (!s.mayRun l) = true from by simpa using hm)]
  by_cases hh : s.hearsActive l = true
  · rw [if_pos hh]
    by_cases ha : s.active.isSome = true
    · rw [if_pos ⟨hh, ha⟩, if_pos ha]
      refine ⟨toSyncing_role u l, ?_, toSyncing_counter u l⟩
      show ((toSyncing u l).lobe l).cleanScans = 0
      rw [toSyncing_lobe]
    · rw [if_neg (fun h => ha h.2), if_pos (Or.inl hh), if_neg ha]
      exact hlobe
  · rw [if_neg hh, if_neg (fun h => hh h.1)]
    by_cases hf : u.claimsFirst l = true
    · rw [if_pos hf, if_neg (hfirst.mp hf)]
      show ((takeClaim u l 0).lobe l).role = _ ∧ ((takeClaim u l 0).lobe l).claiming = _ ∧ ((takeClaim u l 0).lobe l).claim = _
      rw [takeClaim_lobe, hlobe, htick]
      exact ⟨hr, rfl, rfl⟩
    · rw [if_neg hf, if_pos (not_not.mp fun h => hf (hfirst.mpr h))]
      exact hlobe

/-- A role neither ACTIVE nor STANDBY releases no fault. -/
theorem setRole_faults (hl : l < 2) {r : Role} (ha : r ≠ .active) (hs : r ≠ .standby) : (setRole s l r).dev.faults = s.dev.faults := by
  have hdown (u : State) (h : (u.lobe l).role = r) : (judgeLobes u).dev = u.dev := by
    have hup : ((u.lobe l).role == .active || (u.lobe l).role == .standby) = false := by
      rw [h]
      simp [ha, hs]
    unfold judgeLobes
    refine congrArg State.dev (if_neg fun hc => ?_)
    obtain ⟨h0, h1⟩ := Bool.and_eq_true_iff.mp hc
    have hsome : ((u.lobe l).role == .active || (u.lobe l).role == .standby) = true := by
      rcases Nat.lt_succ_iff_lt_or_eq.mp hl with h | rfl
      · obtain rfl : l = 0 := by omega
        exact h0
      · exact h1
    rw [hup] at hsome
    cases hsome
  have hrole := setRole_lobe s l r
  unfold setRole at hrole ⊢
  dsimp only at hrole ⊢
  split
  · rfl
  case isFalse hne =>
    rw [if_neg hne] at hrole
    refine (congrArg Device.faults (hdown _ ?_)).trans ?_
    · exact (congrArg Lobe.role ((lobe_of_lobes ((judgeLobes_frame _).lobes rfl) l).symm.trans hrole) :)
    rw [raise_dev]
    split <;> split <;> rfl

theorem toOffline_faults (hl : l < 2) (s : State) : (toOffline s l 3).dev.faults = s.dev.faults := by
  unfold toOffline
  dsimp only
  rw [if_pos rfl]
  split
  · rfl
  · rw [raise_dev]
    exact setRole_faults hl (by decide) (by decide)

/-- The failure of a diagnosis noted: its tick, the retry, DIAG_FAILS and FAULT_N. -/
def diagNoted (s : State) (l : Nat) : State :=
  let old := (s.lobe l).diagFails.filter fun t => !s.elapsed t 3600000000000
  ((s.setLobe l { s.lobe l with diagFails := old ++ [s.tick], retryAt := some (s.tick + 1562500000) }).setObjN Obj.DIAG_FAILS l
    (min 255 (old.length + 1))).fault (.lobe l)

/-- With a roll-back where the lobe runs a TRIAL bank. -/
def diagRolled (s : State) (l : Nat) : State := if (diagNoted s l).runsTrial l then rollBack (diagNoted s l) 1 else diagNoted s l

theorem diagFailed_eq (s : State) (l : Nat) : diagFailed s l =
    if 3 ≤ ((s.lobe l).diagFails.filter fun t => !s.elapsed t 3600000000000).length + 1 then toOffline (diagRolled s l) l 3 else diagRolled s l := rfl

theorem diagRolled_shows (s : State) (l : Nat) :
    (diagRolled s l).lobe l = { s.lobe l with diagFails := ((s.lobe l).diagFails.filter fun t => !s.elapsed t 3600000000000) ++ [s.tick]
                                              retryAt := some (s.tick + 1562500000) } ∧
      (diagRolled s l).objN Obj.DIAG_FAILS l = min 255 (((s.lobe l).diagFails.filter fun t => !s.elapsed t 3600000000000).length + 1) ∧
      .lobe l ∈ (diagRolled s l).dev.faults := by
  have hnoted : (diagNoted s l).lobe l = { s.lobe l with
      diagFails := ((s.lobe l).diagFails.filter fun t => !s.elapsed t 3600000000000) ++ [s.tick], retryAt := some (s.tick + 1562500000) } :=
    (lobe_of_lobes ((State.fault_frame _ _).lobes rfl) l).trans (lobe_setLobe _ _ _)
  have hobj : (diagNoted s l).objN Obj.DIAG_FAILS l = min 255 (((s.lobe l).diagFails.filter fun t => !s.elapsed t 3600000000000).length + 1) :=
    (objN_of_objs ((State.fault_frame _ _).objs rfl) _ _).trans (objN_setObjN_same _ _ _ _)
  have hfault : .lobe l ∈ (diagNoted s l).dev.faults := mem_fault _ _
  unfold diagRolled
  generalize diagNoted s l = u at hnoted hobj hfault ⊢
  split
  · rw [lobe_of_lobes (rollBack_lobes u 1), rollBack_faults]
    exact ⟨hnoted, (objN_of_only (rollBack_objs u 1) (by decide) l).trans hobj, hfault⟩
  · exact ⟨hnoted, hobj, hfault⟩

theorem diagnosisEnd_fails {n : Nat} (hl : l < 2) (hr : (s.lobe l).role = .diagnosing) (hb : (s.lobe l).bank.isSome = true)
    (ht : (s.lobe l).retryAt = none) (hc : (s.lobe l).claiming = none)
    (hn : n = ((s.lobe l).diagFails.filter fun k => !s.elapsed k 3600000000000).length) :
    ∃ t, exec (.diagnosisEnd l false) s = .next t ∧ t.objN Obj.DIAG_FAILS l = min 255 (n + 1) ∧ .lobe l ∈ t.dev.faults ∧
      if n < 2 then (t.lobe l).role = .diagnosing ∧ (t.lobe l).retryAt = some (s.tick + 1562500000)
      else (t.lobe l).role = .offline := by
  have hrun := diagnosisEnd_runs (pass := false) hl hr hb ht hc
  rw [if_neg (by decide), diagFailed_eq, ← hn] at hrun
  obtain ⟨hlobe, hobj, hfault⟩ := diagRolled_shows s l
  rw [← hn] at hobj
  have hrole : ((diagRolled s l).lobe l).role = .diagnosing := by rw [hlobe, hr]
  have hretry : ((diagRolled s l).lobe l).retryAt = some (s.tick + 1562500000) := by rw [hlobe]
  generalize s.tick + 1562500000 = at' at hretry ⊢
  generalize diagRolled s l = u at hrun hobj hfault hrole hretry
  refine ⟨_, hrun, ?_⟩
  by_cases h3 : n < 2
  · rw [if_pos h3, if_neg (by omega)]
    exact ⟨hobj, hfault, hrole, hretry⟩
  · rw [if_neg h3, if_pos (by omega)]
    have hoff := toOffline_faults hl u
    have hgone := (toOffline_offline u l 3).1
    have hkept : (toOffline u l 3).objN Obj.DIAG_FAILS l = u.objN Obj.DIAG_FAILS l := objN_of_only (toOffline_objs u l 3) (by decide) l
    generalize toOffline u l 3 = w at hoff hgone hkept
    exact ⟨hkept.trans hobj, hoff.symm ▸ hfault, hgone⟩

theorem diagRetry_begins {k : Nat} (hl : l < 2) (hr : (s.lobe l).role = .diagnosing) (hk : (s.lobe l).retryAt = some k) :
    ∃ t, exec (.diagRetry l) s = .next t ∧
      if k ≤ s.tick then
        t.lobe l = { s.lobe l with retryAt := none, diagnosed := false, since := s.tick } ∧ t.lobe (1 - l) = s.lobe (1 - l) ∧
          Frame [.ex, .lobes] s t
      else Frame [.ex] s t := by
  have hrun : exec (.diagRetry l) s = .next (sealed s (if l < 2 ∧ (s.lobe l).role = .diagnosing ∧ k ≤ s.tick then
      s.setLobe l { s.lobe l with retryAt := none, diagnosed := false, since := s.tick } else s)) := by
    show finish s _ = _
    dsimp only
    rw [hk]
    rfl
  refine ⟨_, hrun, ?_⟩
  split
  case isTrue h =>
    rw [if_pos ⟨hl, hr, h⟩]
    exact ⟨lobe_setLobe _ _ _, lobe_setLobe_other _ _ (partner_ne hl),
      frame_sealed (.step (State.setLobe_frame _ _ _) (by decide) (.refl s)) (by decide)⟩
  case isFalse h =>
    rw [if_neg (fun hx => h hx.2.2)]
    exact frame_sealed (.refl s) (by decide)

/-! ### Resynchronisation (R336) -/

theorem fwStandby_each (s : State) (l : Nat) : (fwStandby s l).lobes.each = s.lobes.each := by
  unfold fwStandby
  split
  · split <;> rfl
  · split
    · exact congrArg Lobes.each (raise_lobes _ _ _ _)
    · rfl
  · split
    · split <;> rfl
    · rfl
  · rfl

theorem resyncDone_ends (hl : l < 2) (hr : (s.lobe l).role = .syncing) : ∃ t, exec (.resyncDone l) s = .next t ∧
      if 64 ≤ (s.lobe l).cleanScans ∧ s.elapsed (s.lobe l).since 2000000001 = false then (t.lobe l).role = .standby
      else if s.elapsed (s.lobe l).since 2000000000 = true then (t.lobe l).role = .diagnosing
      else Frame [.ex] s t := by
  have hrun : exec (.resyncDone l) s = .next (sealed s
      (if 64 ≤ (s.lobe l).cleanScans ∧ ¬ s.elapsed (s.lobe l).since 2000000001 then fwStandby (setRole s l .standby) l
      else if s.elapsed (s.lobe l).since 2000000000 then setRole (s.setLobe l { s.lobe l with diagnosed := false }) l .diagnosing else s)) :=
    congrArg (finish s) (if_pos ⟨hl, hr⟩)
  generalize s.elapsed (s.lobe l).since 2000000001 = late at hrun ⊢
  generalize s.elapsed (s.lobe l).since 2000000000 = spent at hrun ⊢
  refine ⟨_, hrun, ?_⟩
  by_cases hc : 64 ≤ (s.lobe l).cleanScans ∧ late = false
  · rw [if_pos hc, if_pos ⟨hc.1, by rw [hc.2]; decide⟩]
    have hlobe : (fwStandby (setRole s l .standby) l).lobe l = (setRole s l .standby).lobe l :=
      congrArg (fun p : Pair Lobe => p.at l) (fwStandby_each _ l)
    show ((fwStandby (setRole s l .standby) l).lobe l).role = _
    rw [hlobe, setRole_lobe]
  · rw [if_neg hc, if_neg (show ¬ (64 ≤ (s.lobe l).cleanScans ∧ ¬ late = true) from fun h => hc ⟨h.1, Bool.eq_false_iff.mpr h.2⟩)]
    split
    · show ((setRole _ l .diagnosing).lobe l).role = _
      rw [setRole_lobe]
    · exact frame_sealed (.refl s) (by decide)

/-! ### Per-lobe resets (R328, R341) -/

theorem endRollBack_lobes (s : State) : (endRollBack s).lobes = s.lobes := (endRollBack_frame s).lobes rfl

theorem takeRole_opens (s : State) (l : Nat) (r : Role) : Opens s (takeRole s l r) := .ite (setRole_opens s l r) (toOffline_opens s l _)

theorem resetLobe_opens (s : State) (l : Nat) (trial : Bool) : Opens s (resetLobe s l trial) :=
  .trans (.foldl initReset_opens (.refl s)) (.upd rfl (takeRole_opens (initsReset s l) l .diagnosing))

theorem endRollBack_opens (s : State) : Opens s (endRollBack s) := by
  unfold endRollBack
  split
  · exact .ite (.step (raiseA_opens _ _ _) (.upd rfl (.refl s))) (.refl s)
  · exact .refl s

/-- What has seen a frame of a session has the lobes as they were. -/
theorem seen_lobe (s : State) (sess m : Nat) : (seen s sess).lobe m = s.lobe m := lobe_of_lobes ((seen_frame s sess).lobes rfl) m

theorem seen_mayRun (s : State) (sess m : Nat) : (seen s sess).mayRun m = s.mayRun m := by
  unfold State.mayRun
  rw [seen_lobe, obj_of_objs ((seen_frame s sess).objs rfl)]

theorem lobeReset_resets (hl : l < 2) (h : s.accepts sess Obj.LOBE_RESET l 1 = true) : ∃ t, exec (.lobeReset sess l) s = .next t ∧
      if (s.lobe l).role = .active then t.answered sess 0 Obj.LOBE_RESET l (.nak .state 0 0) ∧ Frame [.ex] s t
      else
        t.answered sess 0 Obj.LOBE_RESET l (.ack []) ∧ t.lobe (1 - l) = s.lobe (1 - l) ∧
          (t.lobe l).role = (if s.mayRun l = true then .diagnosing else .offline) ∧ (t.lobe l).claim = 0 ∧
          (t.lobe l).bank = none ∧ t.time.ctr.at l = {} := by
  refine ⟨_, rfl, ?_⟩
  by_cases hr : (s.lobe l).role = .active
  · rw [if_pos hr]
    have heff : effLobeReset l (seen s sess) = (seen s sess, .nak .state) := if_pos (by rw [seen_lobe]; exact hr)
    obtain ⟨hans, hframe⟩ := hostWrite_refused h heff (by decide)
    exact ⟨hans, frame_sealed hframe (by decide)⟩
  · rw [if_neg hr]
    have heff : effLobeReset l (seen s sess) = (endRollBack (resetLobe (seen s sess) l false), .ack) := if_neg (by rw [seen_lobe]; exact hr)
    obtain ⟨hans, hframe⟩ := hostWrite_ack h heff (.trans (resetLobe_opens _ l false) (endRollBack_opens _))
    obtain ⟨hrole, hclaim, hbank, -, -, hctr⟩ := resetLobe_resets (seen s sess) l false
    have hother := (resetLobe_lobeOnly (seen s sess) l false).others (1 - l) (partner_ne hl)
    rw [seen_mayRun] at hrole
    rw [seen_lobe] at hother
    generalize resetLobe (seen s sess) l false = u at hframe hrole hclaim hbank hctr hother
    have hlobe (m : Nat) : (hostWrite s sess Obj.LOBE_RESET l 1 (effLobeReset l)).lobe m = u.lobe m :=
      lobe_of_lobes ((hframe.lobes rfl).trans (endRollBack_lobes u)) m
    have htime : (hostWrite s sess Obj.LOBE_RESET l 1 (effLobeReset l)).time = u.time := (hframe.time rfl).trans ((endRollBack_frame u).time rfl)
    generalize hostWrite s sess Obj.LOBE_RESET l 1 (effLobeReset l) = w at hans hlobe htime
    refine ⟨hans, ?_⟩
    show w.lobe (1 - l) = _ ∧ (w.lobe l).role = _ ∧ (w.lobe l).claim = 0 ∧ (w.lobe l).bank = none ∧ w.time.ctr.at l = {}
    rw [hlobe, hlobe, htime]
    exact ⟨hother, hrole, hclaim, hbank, hctr⟩

/-! ### The disable pin and LOBE_HOLD_OFFLINE (R311, R338) -/

theorem releaseLobe_lobeOnly (s : State) (l : Nat) : LobeOnly l s (releaseLobe s l) := .ite (resetLobe_lobeOnly s l false) (.refl l s)

theorem releaseLobe_objs (s : State) (l : Nat) : ObjsOnly abortObjs s (releaseLobe s l) := .ite (resetLobe_objs s l false) (.refl s)

theorem releaseLobe_opens (s : State) (l : Nat) : Opens s (releaseLobe s l) := .ite (resetLobe_opens s l false) (.refl s)

/-- A lobe in OFFLINE that may run goes to DIAGNOSING, the device not OFF; every other stays. -/
theorem releaseLobe_releases (s : State) (l : Nat) : ((releaseLobe s l).lobe l).role =
      (if (s.lobe l).role = .offline ∧ s.mayRun l = true ∧ s.dev.state ≠ .off then .diagnosing else (s.lobe l).role) ∧
    ((releaseLobe s l).lobe l).strapHigh = (s.lobe l).strapHigh ∧ ((releaseLobe s l).lobe l).offlineDue = (s.lobe l).offlineDue := by
  obtain ⟨hrole, -, -, -, hstrap, -⟩ := resetLobe_resets s l false
  have hdue (hm : s.mayRun l = true) : ((resetLobe s l false).lobe l).offlineDue = (s.lobe l).offlineDue := by
    rw [resetLobe_lobe]
    unfold takeRole
    rw [initsReset_mayRun, if_pos hm, setRole_lobe, lobe_of_lobes ((initsReset_frame s l).lobes rfl)]
    rfl
  unfold releaseLobe
  split
  case isTrue h => exact ⟨hrole.trans (if_pos h.2.1), hstrap, hdue h.2.1⟩
  case isFalse => exact ⟨rfl, rfl, rfl⟩

theorem lobeDisPin_low (hl : l < 2) : ∃ t, exec (.lobeDisPin l false) s = .next t ∧ (t.lobe l).role = .offline ∧
    (t.lobe l).strapHigh = false ∧ t.lobe (1 - l) = s.lobe (1 - l) := by
  have hrun : exec (.lobeDisPin l false) s =
      .next (sealed s (judgeRecovery (toOffline (s.setLobe l { s.lobe l with strapHigh := false }) l 1))) := congrArg (finish s) (if_pos hl)
  have hset : (s.setLobe l { s.lobe l with strapHigh := false }).lobe l = { s.lobe l with strapHigh := false } := lobe_setLobe _ _ _
  have hother : (s.setLobe l { s.lobe l with strapHigh := false }).lobe (1 - l) = s.lobe (1 - l) := lobe_setLobe_other _ _ (partner_ne hl)
  generalize s.setLobe l { s.lobe l with strapHigh := false } = u at hrun hset hother
  obtain ⟨hrole, ⟨hmoved, -⟩, -⟩ := toOffline_offline u l 1
  have hstrap : ((toOffline u l 1).lobe l).strapHigh = (u.lobe l).strapHigh := (congrArg Lobe.strapHigh hmoved :)
  have honly := (toOffline_lobeOnly u l 1).others (1 - l) (partner_ne hl)
  generalize toOffline u l 1 = v at hrun hrole hstrap honly
  have hlobe (m : Nat) : (judgeRecovery v).lobe m = v.lobe m := lobe_of_lobes ((judgeRecovery_frame v).lobes rfl) m
  generalize judgeRecovery v = w at hrun hlobe
  refine ⟨_, hrun, ?_⟩
  show (w.lobe l).role = .offline ∧ (w.lobe l).strapHigh = false ∧ w.lobe (1 - l) = _
  rw [hlobe, hlobe, hstrap, hset]
  exact ⟨hrole, rfl, honly.trans hother⟩

theorem lobeDisPin_high (hl : l < 2) : ∃ t, exec (.lobeDisPin l true) s = .next t ∧ (t.lobe l).strapHigh = true ∧
    t.lobe (1 - l) = s.lobe (1 - l) ∧ (t.lobe l).role =
      (if (s.lobe l).role = .offline ∧ s.obj Obj.LOBE_HOLD_OFFLINE l = 0 ∧ s.dev.state ≠ .off then .diagnosing else (s.lobe l).role) := by
  have hrun : exec (.lobeDisPin l true) s = .next (sealed s (releaseLobe (s.setLobe l { s.lobe l with strapHigh := true }) l)) :=
    congrArg (finish s) (if_pos hl)
  have hset : (s.setLobe l { s.lobe l with strapHigh := true }).lobe l = { s.lobe l with strapHigh := true } := lobe_setLobe _ _ _
  have hother : (s.setLobe l { s.lobe l with strapHigh := true }).lobe (1 - l) = s.lobe (1 - l) := lobe_setLobe_other _ _ (partner_ne hl)
  have hmay : (s.setLobe l { s.lobe l with strapHigh := true }).mayRun l = true ↔ s.obj Obj.LOBE_HOLD_OFFLINE l = 0 := by
    unfold State.mayRun
    rw [hset, Bool.true_and, beq_iff_eq]
    exact Iff.rfl
  have hdev : (s.setLobe l { s.lobe l with strapHigh := true }).dev.state = s.dev.state := rfl
  generalize s.setLobe l { s.lobe l with strapHigh := true } = u at hrun hset hother hmay hdev
  obtain ⟨hrole, hstrap, -⟩ := releaseLobe_releases u l
  have honly := (releaseLobe_lobeOnly u l).others (1 - l) (partner_ne hl)
  have hrole₀ : (u.lobe l).role = (s.lobe l).role := by rw [hset]
  rw [hset] at hstrap
  refine ⟨_, hrun, hstrap, honly.trans hother, hrole.trans (if_congr ?_ rfl hrole₀)⟩
  rw [hrole₀, hmay, hdev]

/-- LOBE_HOLD_OFFLINE 1 of the ACTIVE lobe waits for the swap. -/
def awaited (s : State) (l : Nat) : State :=
  (s.setObj Obj.LOBE_HOLD_OFFLINE l 1).setLobe l { s.lobe l with offlineDue := true }

theorem seen_standby (s : State) (sess : Nat) : (seen s sess).standby = s.standby := standby_congr fun m => by rw [seen_lobe]

theorem lobeHoldOffline_holds (h : s.accepts sess Obj.LOBE_HOLD_OFFLINE l 1 = true) :
    ∃ t, exec (.lobeHoldOffline sess l 1) s = .next t ∧
      if (s.lobe l).role = .active ∧ s.standby = none then
        t.answered sess 0 Obj.LOBE_HOLD_OFFLINE l (.nak .state 0 0) ∧ Frame [.ex] s t
      else
        t.answered sess 0 Obj.LOBE_HOLD_OFFLINE l (.ack []) ∧ t.obj Obj.LOBE_HOLD_OFFLINE l = 1 ∧
          if (s.lobe l).role = .active then t.lobe l = { s.lobe l with offlineDue := true } else (t.lobe l).role = .offline := by
  have heq : effHoldOffline l 1 (seen s sess) = if (s.lobe l).role = .active then
      (if s.standby.isNone then (seen s sess, .nak .state) else (awaited (seen s sess) l, .ack))
      else (toOffline ((seen s sess).setObj Obj.LOBE_HOLD_OFFLINE l 1) l 2, .ack) := by
    rw [← seen_lobe s sess l, ← seen_standby s sess]
    rfl
  refine ⟨_, rfl, ?_⟩
  by_cases hr : (s.lobe l).role = .active
  · rw [if_pos hr] at heq
    by_cases hs : s.standby = none
    · rw [if_pos ⟨hr, hs⟩]
      obtain ⟨hans, hframe⟩ := hostWrite_refused h (heq.trans (if_pos (by rw [hs]; rfl))) (by decide)
      exact ⟨hans, frame_sealed hframe (by decide)⟩
    · rw [if_neg (fun hc => hs hc.2), if_pos hr]
      have heff := heq.trans (if_neg (by rwa [Option.isNone_iff_eq_none]))
      have hto : Frame [.objs, .lobes] (seen s sess) (awaited (seen s sess) l) :=
        .step (State.setLobe_frame _ _ _) (by decide) (.step (State.setObj_frame _ _ _ _) (by decide) (.refl _))
      obtain ⟨hans, hframe⟩ := hostWrite_ack h heff (.frame hto (by decide) (.refl _))
      have hobj : (awaited (seen s sess) l).obj Obj.LOBE_HOLD_OFFLINE l = 1 := obj_setObj _ _ _ _
      have hlobe : (awaited (seen s sess) l).lobe l = { (seen s sess).lobe l with offlineDue := true } := lobe_setLobe _ _ _
      rw [seen_lobe] at hlobe
      exact ⟨hans, (obj_of_objs (hframe.objs rfl) _ _).trans hobj, (lobe_of_lobes (hframe.lobes rfl) l).trans hlobe⟩
  · rw [if_neg (fun hc => hr hc.1), if_neg hr]
    have heff := heq.trans (if_neg hr)
    obtain ⟨hans, hframe⟩ := hostWrite_ack h heff (.trans (.frame (State.setObj_frame _ _ _ _) (by decide) (.refl _)) (toOffline_opens _ _ _))
    have hobj : ((seen s sess).setObj Obj.LOBE_HOLD_OFFLINE l 1).obj Obj.LOBE_HOLD_OFFLINE l = 1 := obj_setObj _ _ _ _
    generalize (seen s sess).setObj Obj.LOBE_HOLD_OFFLINE l 1 = u at hframe hobj
    have hkept : (toOffline u l 2).obj Obj.LOBE_HOLD_OFFLINE l = u.obj Obj.LOBE_HOLD_OFFLINE l := toOffline_objs u l 2 _ _ (by decide)
    have hoff := (toOffline_offline u l 2).1
    generalize toOffline u l 2 = v at hframe hkept hoff
    exact ⟨hans, (obj_of_objs (hframe.objs rfl) _ _).trans (hkept.trans hobj), (congrArg Lobe.role (lobe_of_lobes (hframe.lobes rfl) l)).trans hoff⟩

/-- LOBE_HOLD_OFFLINE 0 as it stands before the lobe may leave OFFLINE. -/
def unheld (s : State) (l : Nat) : State :=
  (s.setObj Obj.LOBE_HOLD_OFFLINE l 0).setLobe l { s.lobe l with offlineDue := false }

theorem lobeHoldOffline_releases (h : s.accepts sess Obj.LOBE_HOLD_OFFLINE l 0 = true) :
    ∃ t, exec (.lobeHoldOffline sess l 0) s = .next t ∧ t.answered sess 0 Obj.LOBE_HOLD_OFFLINE l (.ack []) ∧
      t.obj Obj.LOBE_HOLD_OFFLINE l = 0 ∧ (t.lobe l).offlineDue = false ∧
      (t.lobe l).role = (if (s.lobe l).role = .offline ∧ (s.lobe l).strapHigh = true ∧ s.dev.state ≠ .off then .diagnosing
        else (s.lobe l).role) := by
  have heff : effHoldOffline l 0 (seen s sess) = (releaseLobe (unheld (seen s sess) l) l, .ack) := rfl
  have hto : Frame [.objs, .lobes] (seen s sess) (unheld (seen s sess) l) :=
    .step (State.setLobe_frame _ _ _) (by decide) (.step (State.setObj_frame _ _ _ _) (by decide) (.refl _))
  obtain ⟨hans, hframe⟩ := hostWrite_ack h heff (.trans (.frame hto (by decide) (.refl _)) (releaseLobe_opens _ l))
  have hobj : (unheld (seen s sess) l).obj Obj.LOBE_HOLD_OFFLINE l = 0 := obj_setObj _ _ _ _
  have hlobe : (unheld (seen s sess) l).lobe l = { (seen s sess).lobe l with offlineDue := false } := lobe_setLobe _ _ _
  have hdev : (unheld (seen s sess) l).dev = s.dev := (hto.dev rfl).trans ((seen_frame s sess).dev rfl)
  rw [seen_lobe] at hlobe
  generalize unheld (seen s sess) l = u at hframe hobj hlobe hdev
  have hmay : u.mayRun l = true ↔ (s.lobe l).strapHigh = true := by
    unfold State.mayRun
    rw [hobj, hlobe]
    exact Bool.and_true _ ▸ Iff.rfl
  obtain ⟨hrole, -, hdue⟩ := releaseLobe_releases u l
  have hkept : (releaseLobe u l).obj Obj.LOBE_HOLD_OFFLINE l = u.obj Obj.LOBE_HOLD_OFFLINE l := releaseLobe_objs u l _ _ (by decide)
  have hrole₀ : (u.lobe l).role = (s.lobe l).role := by rw [hlobe]
  have hrole' := hrole.trans (if_congr (by rw [hrole₀, hmay, hdev]) rfl hrole₀)
  rw [hlobe] at hdue
  generalize releaseLobe u l = v at hframe hrole' hdue hkept
  have hfin := lobe_of_lobes (hframe.lobes rfl) l
  exact ⟨_, rfl, hans, (obj_of_objs (hframe.objs rfl) _ _).trans (hkept.trans hobj), (congrArg Lobe.offlineDue hfin).trans hdue,
    (congrArg Lobe.role hfin).trans hrole'⟩

/-! ### The swap that LOBE_HOLD_OFFLINE awaits (R338) -/

theorem offlineQuiet_faultsOnly (s : State) (l reason : Nat) : FaultsOnly s (offlineQuiet s l reason) := .ite (.refl s) rfl

theorem toOffline_faultsOnly (s : State) (l reason : Nat) : FaultsOnly s (toOffline s l reason) := by
  have hq := offlineQuiet_faultsOnly s l reason
  rw [toOffline_eq]
  generalize offlineQuiet s l reason = u at hq ⊢
  refine .ite hq ?_
  have hset := hq.trans (setRole_faultsOnly u l .offline)
  generalize setRole u l .offline = v at hset ⊢
  exact hset.trans (.trans (.frame (State.setLobe_frame v _ _) (by decide)) (.frame (raise_frame _ _ _ _) (by decide)))

theorem roleSwapped_leaves {a b h : Nat} (ha : s.active = some a) (hb : s.standby = some b) (hl : s.leaving = true) (ht : s.tick % 256 = 0)
    (hh : s.lobes.handover = some h) (hs : h ≤ s.scan) (hf : s.finalDone = true) (hi : s.dev.fwStage = .idle) :
    ∃ t, exec .roleSwapped s = .next t ∧ (t.lobe b).role = .active ∧ (t.lobe a).role = .offline ∧ (t.lobe a).offlineDue = false := by
  have hmay : s.maySwap = true := by
    unfold State.maySwap
    rw [hb, hl]
    rfl
  have hrun := roleSwapped_runs ha hh ht hs hf
  rw [if_pos hmay, if_pos hl, hl] at hrun
  obtain ⟨hact, hstand, -, -, -, -, -, -, hdev⟩ := swapRoles_swaps (s := { s with lobes := { s.lobes with swapAsked := false } }) ha hb true
  generalize swapRoles { s with lobes := { s.lobes with swapAsked := false } } true = w at hrun hact hstand hdev
  obtain ⟨hoff, -, hends⟩ := toOffline_offline w a 2
  obtain ⟨-, -, hdue⟩ := hends (by rw [hstand]; decide)
  have hne : (a = 0) ≠ (b = 0) := by
    rw [standby_partner ha hb]
    exact partner_ne (role_of_active ha).1
  have hkeep := (toOffline_lobeOnly w a 2).others b hne
  have hidle : (toOffline w a 2).dev.fwStage = .idle :=
    (congrArg Device.fwStage (toOffline_faultsOnly w a 2)).trans ((congrArg Device.fwStage hdev).trans hi)
  generalize toOffline w a 2 = v at hrun hoff hdue hkeep hidle
  rw [swapEnd_idle hidle] at hrun
  exact ⟨_, hrun, (congrArg Lobe.role hkeep).trans hact, hoff, hdue⟩

end

/-- Settles O50: the end of a diagnosis, its retry, resynchronisation, resets and holds, each by the lemma of its clause. -/
theorem diagnosisAndHold : Obligations.DiagnosisAndHold :=
  ⟨fun _ _ hl hr hb ht hc => diagnosisEnd_passes hl hr hb ht hc, fun _ _ _ hl hr hb ht hc hn => diagnosisEnd_fails hl hr hb ht hc hn,
    fun _ _ _ hl hr hk => diagRetry_begins hl hr hk, fun _ _ hl hr => resyncDone_ends hl hr, fun _ _ _ hl h => lobeReset_resets hl h,
    fun _ _ hl => lobeDisPin_low hl, fun _ _ hl => lobeDisPin_high hl, fun _ _ _ _ h => lobeHoldOffline_holds h,
    fun _ _ _ _ h => lobeHoldOffline_releases h, fun _ _ _ _ ha hb hl ht hh hs hf hi => roleSwapped_leaves ha hb hl ht hh hs hf hi⟩

end Sys2Proof.Proofs

/-!
SUPPORT. Two statements that read what an apply takes through the record kept for the loop parameters (R165, R471), and the states in which
that record has an entry for another object. No step puts one there.
-/

namespace Sys2Proof.Proofs

open Sys2Proof Sys2Proof.Machine Sys2Proof.Laws

/-! ### Pulse programs (R447) -/

/-- A state that keeps a value for PULSE_MODE of output 0 in the record of the loop parameters. -/
def strayPulseMode : State :=
  { Tests.base with loops := { Tests.base.loops with held := [(Obj.PULSE_MODE, [(0, (0, 1000000))])] } }

theorem strayPulseMode_judged : strayPulseMode.accepts 5 Obj.PULSE_APPLY 0 1 = true ∧
    ¬ 5 * strayPulseMode.judged Obj.PULSE_PERIOD 0 ≤ 32 * strayPulseMode.judged Obj.PULSE_WIDTH 0 ∧
    strayPulseMode.judged Obj.PULSE_MODE 0 = 0 := by decide +kernel

theorem strayPulseMode_applies : (sealed strayPulseMode (hostWrite strayPulseMode 5 Obj.PULSE_APPLY 0 1 (effPulseApply 0))).obj
    Obj.PULSE_MODE 0 ≠ 0 := by decide +kernel

/-- Refutes O57: its clause on PULSE_APPLY holds only where the record of the loop parameters has no entry for the pulse objects. In a state
with one, the judged PULSE_MODE is that entry, while PULSE_APPLY with nothing staged leaves the value in force. -/
theorem not_pulsesAndLaunches : ¬ Obligations.PulsesAndLaunches := by
  rintro ⟨happly, -⟩
  obtain ⟨hacc, hfits, hmode⟩ := strayPulseMode_judged
  obtain ⟨t, hrun, ht⟩ := happly 5 0 strayPulseMode hacc
  rw [if_neg hfits, if_neg (by rw [hmode]; omega)] at ht
  obtain ⟨-, hforce, -⟩ := ht
  cases hrun
  exact strayPulseMode_applies (hforce.trans hmode)

/-! ### Queue limits (R404) -/

/-- A state that keeps a value for QUEUE_LIMIT of queue 0 in the record of the loop parameters. -/
def strayQueueLimit : State :=
  { Tests.base with loops := { Tests.base.loops with held := [(Obj.QUEUE_LIMIT, [(0, (7, 1000000))])] } }

theorem strayQueueLimit_judged : strayQueueLimit.accepts 5 Obj.TXQ_APPLY 0 1 = true ∧
    ¬ (1048576 < (((List.range 8).map fun q => strayQueueLimit.judged Obj.QUEUE_LIMIT q).sum) ∨
      1048576 < (((List.range 8).map fun q => strayQueueLimit.judged Obj.QUEUE_LIMIT (8 + q)).sum)) ∧
    (strayQueueLimit.port 0).busy = none ∧ strayQueueLimit.judged Obj.QUEUE_LIMIT (8 * 0 + 0) = 7 := by decide +kernel

theorem strayQueueLimit_applies : (sealed strayQueueLimit (hostWrite strayQueueLimit 5 Obj.TXQ_APPLY 0 1 effTxqApply)).obj
    Obj.QUEUE_LIMIT (8 * 0 + 0) ≠ 7 := by decide +kernel

/-- Refutes O55: its clause on TXQ_APPLY holds only where the record of the loop parameters has no entry for QUEUE_LIMIT. In a state with
one, the judged limit is that entry, while TXQ_APPLY with nothing staged leaves the limit in force. -/
theorem not_egressQueues : ¬ Obligations.EgressQueues := by
  rintro ⟨-, -, -, -, -, hlimits, -⟩
  obtain ⟨hacc, hfits, hidle, hjudged⟩ := strayQueueLimit_judged
  obtain ⟨t, hrun, ht⟩ := hlimits 5 strayQueueLimit hacc
  rw [if_neg hfits] at ht
  obtain ⟨-, hports⟩ := ht
  have hlimit := hports 0 (by omega)
  rw [if_neg (by rw [hidle]; decide)] at hlimit
  cases hrun
  exact strayQueueLimit_applies ((hlimit 0 (by omega)).trans hjudged)

end Sys2Proof.Proofs

/-!
SUPPORT. FAULT_N needs VIO: a statement that a cause asserts it fails where the VIO rail is gone.
-/

namespace Sys2Proof.Proofs

open Sys2Proof Sys2Proof.Machine Sys2Proof.Laws

/-- A state whose VIO rail is out of its window at 0 mV, which the model takes as its absence (log entry 25). -/
def vioGone : State := (Tests.base.setObj Obj.RAIL_STATE 3 1).setObj Obj.RAIL_VOLTAGE 3 0

theorem vioGone_fixed : 0 ∉ vioGone.mat.fixed ∧ (sealed vioGone (fixTarget vioGone 0)).faultN = false := by decide +kernel

/-- Refutes O60: MATRIX_FAULT puts its cause in the list of FAULT_N, and the clause says that FAULT_N is then asserted. Without VIO no cause
asserts it. -/
theorem not_internalFabric : ¬ Obligations.InternalFabric := by
  rintro ⟨-, -, -, -, -, -, -, hfault, -⟩
  obtain ⟨hnew, hlow⟩ := vioGone_fixed
  obtain ⟨t, hrun, ht⟩ := hfault 0 vioGone (by decide)
  rw [if_neg hnew] at ht
  obtain ⟨-, -, -, hhigh⟩ := ht
  cases hrun
  exact Bool.false_ne_true (hlow.symm.trans hhigh)

end Sys2Proof.Proofs

/-!
SUPPORT. A table of elements that is not in the order of its selectors: no step leaves one, and the statement about set-points does not
exclude it. Putting an element back then makes a second entry of it, which slews again.
-/

namespace Sys2Proof.Proofs

open Sys2Proof Sys2Proof.Machine Sys2Proof.Laws

/-- A state whose elements 5 and 3 stand in the wrong order, with the loop of element 3 to be disabled at the next boundary. -/
def elemsOutOfOrder : State :=
  { Tests.base with loops := { Tests.base.loops with elems := [(5, {}), (3, { state := .locked, t := 0, target := 20000 })] } }.setObj
    Obj.LOOP_ENABLE 3 0

theorem elemsOutOfOrder_slews : elemsOutOfOrder.loopsRun = true ∧ 0 < elemsOutOfOrder.law Obj.SETPOINT_SLEW 0 ∧
    (elemsOutOfOrder.loops.elems.map (·.1)).Nodup ∧ 3 ∈ elemsOutOfOrder.loops.elems.map (·.1) := by decide +kernel

theorem elemsOutOfOrder_slews_twice : ((elemsScan elemsOutOfOrder).elem 3).t ≠
    slewTo (elemsOutOfOrder.elem 3).t (elemsOutOfOrder.elem 3).target (elemsOutOfOrder.law Obj.SETPOINT_SLEW 0) := by decide +kernel

/-- Refutes O20: its clause on the set-point slew asks for selectors that differ, not for selectors in order. In a table out of order the
disabled element 3 gets a second entry, and its set-point slews by 128 in a scan, twice SETPOINT_SLEW. -/
theorem not_scansAndSamples : ¬ Obligations.ScansAndSamples := by
  rintro ⟨-, -, -, -, hslew, -⟩
  obtain ⟨hrun, hpos, hdistinct, hthere⟩ := elemsOutOfOrder_slews
  exact elemsOutOfOrder_slews_twice (hslew 3 elemsOutOfOrder hrun hpos hdistinct hthere).1

end Sys2Proof.Proofs

/-!
SUPPORT. What the ports do: frames formed and left for their queues, announcements, flushed queues, roles, and the addressing that takes
effect.
-/

namespace Sys2Proof.Proofs

open Sys2Proof Sys2Proof.Machine Sys2Proof.Laws

section

variable {s t : State} {x : Nat}

/-! ### Two ports -/

theorem at_put_other {α : Type} (p : Pair α) {k l : Nat} (v : α) (hk : k < 2) (hl : l < 2) (h : k ≠ l) : (p.put l v).at k = p.at k := by
  unfold Pair.at Pair.put
  by_cases hl0 : l = 0
  · rw [if_pos hl0, if_neg (by omega), if_neg (by omega)]
  · rw [if_neg hl0, if_pos (by omega), if_pos (by omega)]

theorem port_setPort (s : State) (x : Nat) (p : Port) : (s.setPort x p).port x = p := at_put _ _ _

theorem port_setPort_other (s : State) {x y : Nat} (p : Port) (hx : x < 2) (hy : y < 2) (h : y ≠ x) : (s.setPort x p).port y = s.port y :=
  at_put_other _ _ hy hx h

theorem port_of_ports (h : t.net.ports = s.net.ports) (y : Nat) : t.port y = s.port y := congrArg (fun p : Pair Port => p.at y) h

theorem port_of_net (h : t.net = s.net) (y : Nat) : t.port y = s.port y := port_of_ports (congrArg Network.ports h) y

theorem queue_of_queues (h : t.net.queues = s.net.queues) (n : Nat) : t.queue n = s.queue n := congrArg (fun m => mget ({} : Queue) m n) h

/-! ### Frames of the module's own (R402) -/

/-- The state with formed frames left for their egress queues. -/
def sending (s : State) (fs : List (Nat × List Byte)) : State := { s with net := { s.net with toSend := s.net.toSend ++ fs } }

theorem sending_nil (s : State) : sending s [] = s := by
  unfold sending
  rw [List.append_nil]

theorem sending_sending (s : State) (f g : List (Nat × List Byte)) : sending (sending s f) g = sending s (f ++ g) := by
  unfold sending
  rw [List.append_assoc]

theorem sendOwn_sends (s : State) (a : Nat) (f : List Byte) :
    ∃ fs, sendOwn s a f = sending s fs ∧ (f ≠ [] → (s.txPort a, f) ∈ fs) := by
  cases f with
  | nil => exact ⟨[], (sending_nil s).symm, fun h => absurd rfl h⟩
  | cons b f => exact ⟨[(s.txPort a, b :: f)], rfl, fun _ => List.mem_singleton_self _⟩

/-- Steps that each send something, and what each of them sends in the state before. -/
theorem foldl_sends {β : Type} {f : State → β → State} {P : State → β → List (Nat × List Byte) → Prop}
    (hf : ∀ s b, ∃ fs, f s b = sending s fs ∧ P s b fs) (hsame : ∀ s gs b fs, P (sending s gs) b fs → P s b fs)
    (hmono : ∀ s b fs gs hs, P s b fs → P s b (gs ++ fs ++ hs)) (l : List β) (s : State) :
    ∃ fs, l.foldl f s = sending s fs ∧ ∀ b ∈ l, P s b fs := by
  induction l generalizing s with
  | nil => exact ⟨[], (sending_nil s).symm, fun _ h => nomatch h⟩
  | cons b l ih =>
    obtain ⟨gs, hg, hb⟩ := hf s b
    obtain ⟨fs, hfs, hl⟩ := ih (f s b)
    rw [hg] at hfs hl
    refine ⟨gs ++ fs, ?_, fun c hc => ?_⟩
    · rw [List.foldl_cons, hg, hfs, sending_sending]
    · rcases List.mem_cons.mp hc with rfl | hc
      · exact hmono s c gs [] fs hb
      · have h := hmono s c fs gs [] (hsame s gs c fs (hl c hc))
        rwa [List.append_nil] at h

/-- The frames that announce an address set (R382): the gratuitous ARP and the advertisements are among them. -/
def Announces (s : State) (a : Nat) (fs : List (Nat × List Byte)) : Prop :=
  (s.obj Obj.IPV4_ADDR a ≠ 0 → (s.txPort a, s.gratuitousArp a) ∈ fs) ∧
    ∀ g ∈ s.ipv6Own a, (s.txPort a, s.advert a false (groupMac allNodes) allNodes g) ∈ fs

theorem Announces.more {fs : List (Nat × List Byte)} {a : Nat} (gs hs : List (Nat × List Byte)) (h : Announces s a fs) :
    Announces s a (gs ++ fs ++ hs) :=
  ⟨fun hne => List.mem_append_left _ (List.mem_append_right _ (h.1 hne)),
    fun g hg => List.mem_append_left _ (List.mem_append_right _ (h.2 g hg))⟩

theorem etherFrame_ne_nil {dst : List Byte} (h : dst ≠ []) (src : List Byte) (n : Nat) (body : List Byte) : etherFrame dst src n body ≠ [] := by
  simp [etherFrame, h]

theorem gratuitousArp_ne_nil (s : State) {a : Nat} (h : s.obj Obj.IPV4_ADDR a ≠ 0) : s.gratuitousArp a ≠ [] := by
  unfold State.gratuitousArp
  rw [if_neg h]
  exact etherFrame_ne_nil (by decide) _ _ _

theorem advert_ne_nil (s : State) (a : Nat) (b : Bool) (g : List Byte) : s.advert a b (groupMac allNodes) allNodes g ≠ [] :=
  etherFrame_ne_nil (by decide) _ _ _

theorem sendReports_sends (s : State) (a kind : Nat) (l : List (List Byte)) : ∃ fs, sendReports s a kind l = sending s fs := by
  obtain ⟨gs, hg, -⟩ := sendOwn_sends s a (s.igmpReport a kind l)
  obtain ⟨fs, hf, -⟩ := sendOwn_sends (sendOwn s a (s.igmpReport a kind l)) a (s.mldReport a kind l)
  refine ⟨gs ++ fs, ?_⟩
  unfold sendReports
  rw [hf, hg, sending_sending]

theorem announceSet_sends (s : State) (a : Nat) : ∃ fs, announceSet s a = sending s fs ∧ Announces s a fs := by
  unfold announceSet
  extract_lets u v
  obtain ⟨gs, hg, harp⟩ := sendOwn_sends s a (s.gratuitousArp a)
  have hu : u = sending s gs := hg
  obtain ⟨fs, hf, hadv⟩ := foldl_sends (f := fun s g => sendOwn s a (s.advert a false (groupMac allNodes) allNodes g))
    (P := fun s g fs => (s.txPort a, s.advert a false (groupMac allNodes) allNodes g) ∈ fs)
    (fun s g => (sendOwn_sends s a _).imp fun fs h => ⟨h.1, h.2 (advert_ne_nil s a false g)⟩)
    (fun _ _ _ _ h => h) (fun _ _ _ _ _ h => List.mem_append_left _ (List.mem_append_right _ h)) (u.ipv6Own a) u
  have hv : v = sending s (gs ++ fs) := hf.trans ((congrArg (sending · fs) hu).trans (sending_sending s gs fs))
  obtain ⟨hs, hrep⟩ := sendReports_sends v a 4 v.groups
  refine ⟨gs ++ fs ++ hs, ?_, fun hne => ?_, fun g hmem => ?_⟩
  · rw [hrep, hv, sending_sending]
  · exact List.mem_append_left _ (List.mem_append_left _ (harp (gratuitousArp_ne_nil s hne)))
  · rw [hu] at hadv
    exact List.mem_append_left _ (List.mem_append_right _ (hadv g hmem))

/-- Announcing every set leaves frames, of every set in use, and counts itself; nothing else changes. -/
theorem announceAll_sends (s : State) : ∃ fs,
    announceAll s = { s with net := { s.net with toSend := s.net.toSend ++ fs, announced := s.net.announced + 1 } } ∧
      ∀ a ∈ s.sets, Announces s a fs := by
  obtain ⟨fs, hfs, hsets⟩ := foldl_sends (P := Announces) announceSet_sends (fun _ _ _ _ h => h) (fun _ _ _ gs hs h => h.more gs hs) s.sets s
  refine ⟨fs, ?_, hsets⟩
  unfold announceAll
  rw [hfs]
  rfl

theorem announceNow_net (s : State) : (announceNow s).net.ports = s.net.ports ∧ (announceNow s).net.queues = s.net.queues ∧
    (announceNow s).net.announced = s.net.announced + 1 ∧ (announceNow s).net.netWait = s.net.netWait := by
  obtain ⟨fs, h, -⟩ := announceAll_sends s
  unfold announceNow
  rw [h]
  exact ⟨rfl, rfl, rfl, rfl⟩

theorem mem_sets {a : Nat} (h : a = 0 ∨ (a = 1 ∧ s.obj Obj.PORT_MODE 0 = 1)) : a ∈ s.sets := by
  unfold State.sets
  rcases h with rfl | ⟨rfl, hm⟩
  · split <;> simp
  · rw [if_pos hm]
    simp

theorem announcementRepeat_sends {k : Nat} {rest : List Nat} (h : s.net.announce = k :: rest) :
    ∃ t, exec .announcementRepeat s = .next t ∧
      if k ≤ s.tick then
        t.net = { s.net with announce := rest, announced := s.net.announced + 1, toSend := t.net.toSend } ∧ Frame [.ex, .net] s t ∧
          ∃ fs, t.net.toSend = s.net.toSend ++ fs ∧ ∀ a, a = 0 ∨ (a = 1 ∧ s.obj Obj.PORT_MODE 0 = 1) →
            (s.obj Obj.IPV4_ADDR a ≠ 0 → (s.txPort a, s.gratuitousArp a) ∈ fs) ∧
            ∀ g ∈ s.ipv6Own a, (s.txPort a, s.advert a false (groupMac allNodes) allNodes g) ∈ fs
      else Frame [.ex] s t := by
  have hrun : exec .announcementRepeat s = finish s
      (if k ≤ s.tick then announceAll { s with net := { s.net with announce := rest } } else s) := by
    show execAnnouncementRepeat s = _
    unfold execAnnouncementRepeat
    rw [h]
  by_cases hk : k ≤ s.tick
  · obtain ⟨fs, hfs, hsets⟩ := announceAll_sends { s with net := { s.net with announce := rest } }
    rw [if_pos hk, hfs] at hrun
    refine ⟨_, hrun, ?_⟩
    rw [if_pos hk]
    exact ⟨rfl, frame_sealed (.set_net (by decide) (.set_net (by decide) (.refl s))) (by decide), fs, rfl, fun a ha => hsets a (mem_sets ha)⟩
  · rw [if_neg hk] at hrun
    refine ⟨_, hrun, ?_⟩
    rw [if_neg hk]
    exact frame_sealed (.refl s) (by decide)

end

end Sys2Proof.Proofs

/-!
SUPPORT. Locks, ports that go DOWN or come UP, PORT_ENABLE, the return of PRIMARY and NET_APPLY.
-/

namespace Sys2Proof.Proofs

open Sys2Proof Sys2Proof.Machine Sys2Proof.Laws

section

variable {s t : State} {x : Nat}

/-! ### Locks (R375) and RS-FEC codewords (R399) -/

/-- What a port's reset and the report leave of its lock. -/
def State.lockOf (s : State) (x : Nat) (ok : Bool) : Bool :=
  ok && decide (s.obj Obj.PORT_ENABLE x = 1) && decide (2 ≤ s.dev.selfStep)

theorem lockChange_eq (s : State) (x : Nat) (ok : Bool) : lockChange s x ok =
    if (s.port x).lock = State.lockOf s x ok then s
    else s.setPort x { s.port x with lock := State.lockOf s x ok, lockSince := s.tick } := rfl

theorem lockChange_locks (s : State) (ok : Bool) (hx : x < 2) : ((lockChange s x ok).port x).lock = State.lockOf s x ok ∧
    ((lockChange s x ok).port x).up = (s.port x).up ∧
    ((lockChange s x ok).port x).lockSince = (if (s.port x).lock = State.lockOf s x ok then (s.port x).lockSince else s.tick) ∧
    (lockChange s x ok).port (1 - x) = s.port (1 - x) ∧ (lockChange s x ok).net.queues = s.net.queues := by
  rw [lockChange_eq]
  by_cases h : (s.port x).lock = State.lockOf s x ok
  · rw [if_pos h, if_pos h]
    exact ⟨h, rfl, rfl, rfl, rfl⟩
  · rw [if_neg h, if_neg h, port_setPort, port_setPort_other _ _ hx (by omega) (by omega)]
    exact ⟨rfl, rfl, rfl, rfl, rfl⟩

theorem objN_inc64_self (s : State) (a b n : Nat) : (s.inc64 a b n).objN a b = (s.objN a b + n) % 2 ^ 64 := by
  unfold State.inc64
  rw [State.objN, obj_setObjN]
  rfl

theorem obj_inc64_addr {a b : Nat} (n : Nat) {c d : Nat} (h : c ≠ a) : (s.inc64 a b n).obj c d = s.obj c d :=
  obj_inc64_other n fun e => h e.1

theorem objN_inc64_addr {a b : Nat} (n : Nat) {c d : Nat} (h : c ≠ a) : (s.inc64 a b n).objN c d = s.objN c d :=
  congrArg Int.toNat (obj_inc64_addr n h)

theorem countFec_counts (s : State) (x c u : Nat) :
    if s.obj Obj.FEC_MODE x = 1 ∧ s.obj Obj.PORT_ENABLE x = 1 then
      (countFec s x c u).objN Obj.FEC_CORRECTED x = (s.objN Obj.FEC_CORRECTED x + c) % 2 ^ 64 ∧
        (countFec s x c u).objN Obj.FEC_UNCORRECTED x = (s.objN Obj.FEC_UNCORRECTED x + u) % 2 ^ 64
    else (countFec s x c u).objs = s.objs := by
  unfold countFec
  split
  · have hfirst : (s.inc64 Obj.FEC_CORRECTED x c).objN Obj.FEC_UNCORRECTED x = s.objN Obj.FEC_UNCORRECTED x :=
      objN_inc64_addr c (by decide)
    refine ⟨(objN_inc64_addr u (by decide)).trans (objN_inc64_self s _ _ _), ?_⟩
    rw [objN_inc64_self, hfirst]
  · rfl

theorem countFec_enable (s : State) (x c u : Nat) : (countFec s x c u).obj Obj.PORT_ENABLE x = s.obj Obj.PORT_ENABLE x := by
  unfold countFec
  split
  · exact (obj_inc64_addr u (by decide)).trans (obj_inc64_addr c (by decide))
  · rfl

theorem pcsLockChange_locks {c u : Nat} {ok lock : Bool} (hx : x < 2) (ht : s.ticking = true) (hl : lock = State.lockOf s x ok) :
    ∃ t, exec (.pcsLockChange x ⟨ok, c, u⟩) s = .next t ∧ (t.port x).lock = lock ∧ (t.port x).up = (s.port x).up ∧
      (t.port x).lockSince = (if (s.port x).lock = lock then (s.port x).lockSince else s.tick) ∧ t.port (1 - x) = s.port (1 - x) ∧
      Frame [.objs, .ex, .net] s t ∧
      if s.obj Obj.FEC_MODE x = 1 ∧ s.obj Obj.PORT_ENABLE x = 1 then
        t.objN Obj.FEC_CORRECTED x = (s.objN Obj.FEC_CORRECTED x + c) % 2 ^ 64 ∧
          t.objN Obj.FEC_UNCORRECTED x = (s.objN Obj.FEC_UNCORRECTED x + u) % 2 ^ 64
      else t.objs = s.objs := by
  have hrun : exec (.pcsLockChange x ⟨ok, c, u⟩) s = finish s (lockChange (countFec s x c u) x ok) :=
    congrArg (finish s) (if_pos ⟨hx, ht⟩)
  have hfec := countFec_frame s x c u
  have hsame : State.lockOf (countFec s x c u) x ok = lock := by
    rw [hl]
    unfold State.lockOf
    rw [countFec_enable, hfec.dev rfl]
  have hcount := countFec_counts s x c u
  obtain ⟨hlock, hup, hsince, hother, -⟩ := lockChange_locks (countFec s x c u) ok hx
  have hkeeps := lockChange_frame (countFec s x c u) x ok
  rw [hsame] at hlock hsince
  rw [port_of_net (hfec.net rfl), hfec.tick rfl] at hsince
  rw [port_of_net (hfec.net rfl)] at hup hother
  have hframe : Frame [.objs, .net] s (lockChange (countFec s x c u) x ok) :=
    .step hkeeps (by decide) (hfec.mono (by decide))
  have hobjs : (lockChange (countFec s x c u) x ok).objs = (countFec s x c u).objs := hkeeps.objs rfl
  generalize lockChange (countFec s x c u) x ok = w at hrun hlock hup hsince hother hframe hobjs
  refine ⟨_, hrun, hlock, hup, hsince, hother, frame_sealed (hframe.mono (by decide)) (by decide), ?_⟩
  by_cases hon : s.obj Obj.FEC_MODE x = 1 ∧ s.obj Obj.PORT_ENABLE x = 1
  · rw [if_pos hon] at hcount ⊢
    exact ⟨(objN_of_objs hobjs _ _).trans hcount.1, (objN_of_objs hobjs _ _).trans hcount.2⟩
  · rw [if_neg hon] at hcount ⊢
    exact hobjs.trans hcount

/-! ### Flushed queues (R405) -/

/-- Discard every frame of one queue. -/
def flushQueue (s : State) (n : Nat) : State :=
  (s.inc64 Obj.QUEUE_FLUSHED n (s.queue n).frames.length).setQueue n
    { s.queue n with frames := [], bucket := 0, carry := 0, last := s.tick }

theorem flushPort_eq (s : State) (x : Nat) : flushPort s x = (List.range 8).foldl (fun s i => flushQueue s (8 * x + i)) s := rfl

theorem queue_flushQueue (s : State) (n m : Nat) : (flushQueue s n).queue m =
    if m = n then { s.queue n with frames := [], bucket := 0, carry := 0, last := s.tick } else s.queue m := by
  by_cases h : m = n
  · rw [if_pos h, h]
    exact mget_mset_self _ _ _ _
  · rw [if_neg h]
    exact mget_mset_other _ _ _ h

theorem flushPort_flushes (s : State) (x : Nat) {i : Nat} (hi : i < 8) : ((flushPort s x).queue (8 * x + i)).frames = [] := by
  rw [flushPort_eq]
  refine foldl_reaches (P := fun t => (t.queue (8 * x + i)).frames = []) (Q := fun j => j = i) ⟨i, List.mem_range.mpr hi, rfl⟩ ?_ ?_ s
  · rintro t j - rfl
    rw [queue_flushQueue, if_pos rfl]
  · intro t j _ hj ht
    rw [queue_flushQueue, if_neg (by omega)]
    exact ht

theorem flushPort_ports (s : State) (x : Nat) : (flushPort s x).net.ports = s.net.ports :=
  foldl_keeps (g := fun t => t.net.ports) (f := fun s i => flushQueue s (8 * x + i)) (fun _ _ => rfl) _ s

theorem flushPort_obj (s : State) (x : Nat) {a b : Nat} (h : a ≠ Obj.QUEUE_FLUSHED) : (flushPort s x).obj a b = s.obj a b :=
  foldl_keeps (g := fun t => t.obj a b) (f := fun s i => flushQueue s (8 * x + i))
    (fun t i => (obj_of_objs (s := t.inc64 Obj.QUEUE_FLUSHED (8 * x + i) _) rfl a b).trans (obj_inc64_addr _ h)) _ s

/-! ### A port that goes DOWN (R375, R382) -/

/-- What a port that goes DOWN leaves before its partner acts. -/
def portDropped (s : State) (x : Nat) : State :=
  raiseS (flushPort ((s.setPort x { s.port x with up := false, role := 3 }).incSat Obj.LINK_FLAPS x) x) 0x8001 [.word x]

/-- What the partner of the PRIMARY port that went DOWN leaves as it takes over. -/
def primaryTaken (s : State) (y : Nat) : State :=
  announceNow (ptpMoved (raiseS (s.setPort y { s.port y with role := 0 }) 0x8003 [.word y, .word 1]))

theorem portDown_eq (s : State) (x : Nat) : portDown s x =
    if ((portDropped s x).port (1 - x)).up then
      if ((s.port x).role == 0) = true ∧ (portDropped s x).obj Obj.PORT_MODE 0 = 0 then primaryTaken (portDropped s x) (1 - x)
      else portDropped s x
    else raiseS (portDropped s x) 0x8004 [] := rfl

theorem portDropped_ports (s : State) (hx : x < 2) : (portDropped s x).port x = { s.port x with up := false, role := 3 } ∧
    (portDropped s x).port (1 - x) = s.port (1 - x) := by
  have h : (portDropped s x).net.ports = (s.setPort x { s.port x with up := false, role := 3 }).net.ports := by
    unfold portDropped
    rw [raiseS_net]
    exact flushPort_ports _ x
  exact ⟨(port_of_ports h x).trans (port_setPort s x _), (port_of_ports h (1 - x)).trans (port_setPort_other s _ hx (by omega) (by omega))⟩

theorem portDropped_queues (s : State) (x : Nat) {i : Nat} (hi : i < 8) : ((portDropped s x).queue (8 * x + i)).frames = [] := by
  unfold portDropped
  rw [queue_of_queues (congrArg Network.queues (raiseS_net _ _ _))]
  exact flushPort_flushes _ x hi

theorem portDropped_obj (s : State) (x : Nat) {a b : Nat} (h : a ≠ Obj.RING_DROPPED ∧ a ≠ Obj.QUEUE_FLUSHED ∧ a ≠ Obj.LINK_FLAPS) :
    (portDropped s x).obj a b = s.obj a b :=
  (raiseS_obj h.1 _ _ _).trans ((flushPort_obj _ x h.2.1).trans (obj_incSat_other _ fun e => h.2.2 e.1))

theorem portDropped_flaps (s : State) (x : Nat) :
    (portDropped s x).objN Obj.LINK_FLAPS x = min u32Max (s.objN Obj.LINK_FLAPS x + 1) :=
  (congrArg Int.toNat ((raiseS_obj (by decide) _ _ _).trans (flushPort_obj _ x (by decide)))).trans
    (objN_incSat_self (s.setPort x { s.port x with up := false, role := 3 }) _ _)

theorem primaryTaken_net (s : State) {y : Nat} (hy : y < 2) : (primaryTaken s y).port y = { s.port y with role := 0 } ∧
    (primaryTaken s y).port (1 - y) = s.port (1 - y) ∧ (primaryTaken s y).net.queues = s.net.queues := by
  unfold primaryTaken
  have hnet : (ptpMoved (raiseS (s.setPort y { s.port y with role := 0 }) 0x8003 [.word y, .word 1])).net =
      (s.setPort y { s.port y with role := 0 }).net := raiseS_net _ _ _
  generalize ptpMoved (raiseS (s.setPort y { s.port y with role := 0 }) 0x8003 [.word y, .word 1]) = w at hnet
  obtain ⟨hports, hqueues, -, -⟩ := announceNow_net w
  have hp : (announceNow w).net.ports = (s.setPort y { s.port y with role := 0 }).net.ports := hports.trans (congrArg Network.ports hnet)
  exact ⟨(port_of_ports hp y).trans (port_setPort s y _),
    (port_of_ports hp (1 - y)).trans (port_setPort_other s _ hy (by omega) (by omega)), hqueues.trans ((congrArg Network.queues hnet).trans rfl)⟩

theorem primaryTaken_obj (s : State) (y : Nat) {a b : Nat} (h : a ≠ Obj.RING_DROPPED) : (primaryTaken s y).obj a b = s.obj a b :=
  (obj_of_objs ((announceNow_frame _).objs rfl) _ _).trans (raiseS_obj h _ _ _)

/-- What holds of the ports, the queues and LINK_FLAPS once a port is DOWN. -/
def PortIsDown (s : State) (x : Nat) (t : State) : Prop :=
  (t.port x).up = false ∧ (t.port x).role = 3 ∧ t.objN Obj.LINK_FLAPS x = min u32Max (s.objN Obj.LINK_FLAPS x + 1) ∧
    (∀ i < 8, (t.queue (8 * x + i)).frames = []) ∧
    (t.port (1 - x)).role = (if (s.port (1 - x)).up = true ∧ (s.port x).role = 0 ∧ s.obj Obj.PORT_MODE 0 = 0 then 0
      else (s.port (1 - x)).role)

theorem portDropped_down (s : State) (hx : x < 2) (hstays : ¬ ((s.port (1 - x)).up = true ∧ (s.port x).role = 0 ∧ s.obj Obj.PORT_MODE 0 = 0)) :
    PortIsDown s x (portDropped s x) := by
  obtain ⟨hport, hother⟩ := portDropped_ports s hx
  unfold PortIsDown
  rw [hport, hother, if_neg hstays]
  exact ⟨rfl, rfl, portDropped_flaps s x, fun i hi => portDropped_queues s x hi, rfl⟩

theorem PortIsDown.raised {w : State} (h : PortIsDown s x w) (code : Nat) (data : List EvItem) : PortIsDown s x (raiseS w code data) := by
  obtain ⟨hup, hrole, hflaps, hqueues, hother⟩ := h
  have hnet : (raiseS w code data).net = w.net := raiseS_net _ _ _
  refine ⟨?_, ?_, ?_, fun i hi => ?_, ?_⟩
  · rw [port_of_net hnet]
    exact hup
  · rw [port_of_net hnet]
    exact hrole
  · exact (congrArg Int.toNat (raiseS_obj (by decide) _ _ _)).trans hflaps
  · rw [queue_of_queues (congrArg Network.queues hnet)]
    exact hqueues i hi
  · rw [port_of_net hnet]
    exact hother

theorem primaryTaken_down (s : State) (hx : x < 2) (htakes : (s.port (1 - x)).up = true ∧ (s.port x).role = 0 ∧ s.obj Obj.PORT_MODE 0 = 0) :
    PortIsDown s x (primaryTaken (portDropped s x) (1 - x)) := by
  obtain ⟨hport, hother⟩ := portDropped_ports s hx
  obtain ⟨htaken, hkept, hqueues⟩ := primaryTaken_net (portDropped s x) (y := 1 - x) (by omega)
  rw [show 1 - (1 - x) = x by omega, hport] at hkept
  unfold PortIsDown
  rw [if_pos htakes, hkept, htaken]
  refine ⟨rfl, rfl, (congrArg Int.toNat (primaryTaken_obj _ _ (by decide))).trans (portDropped_flaps s x), fun i hi => ?_, rfl⟩
  rw [queue_of_queues hqueues]
  exact portDropped_queues s x hi

theorem portDown_down (s : State) (hx : x < 2) : PortIsDown s x (portDown s x) := by
  obtain ⟨-, hother⟩ := portDropped_ports s hx
  have hmode : (portDropped s x).obj Obj.PORT_MODE 0 = s.obj Obj.PORT_MODE 0 := portDropped_obj s x (by decide)
  rw [portDown_eq, hother, hmode]
  by_cases hup : (s.port (1 - x)).up = true
  · rw [if_pos hup]
    by_cases hp : ((s.port x).role == 0) = true ∧ s.obj Obj.PORT_MODE 0 = 0
    · rw [if_pos hp]
      exact primaryTaken_down s hx ⟨hup, eq_of_beq hp.1, hp.2⟩
    · rw [if_neg hp]
      exact portDropped_down s hx fun h => hp ⟨beq_iff_eq.mpr h.2.1, h.2.2⟩
  · rw [if_neg hup]
    exact (portDropped_down s hx fun h => hup h.1).raised _ _

theorem linkDown_downs (hx : x < 2) (hup : (s.port x).up = true) (hlock : (s.port x).lock = false) :
    ∃ t, exec (.linkDown x) s = .next t ∧
      if s.elapsed (s.port x).lockSince (1000 * s.objN Obj.LINK_DOWN_HOLD x) = true then PortIsDown s x t else Frame [.ex] s t := by
  have hrun : exec (.linkDown x) s = finish s (if x < 2 ∧ (s.port x).up = true ∧ ¬ (s.port x).lock = true ∧
      s.elapsed (s.port x).lockSince (1000 * s.objN Obj.LINK_DOWN_HOLD x) = true then portDown s x else s) := rfl
  by_cases he : s.elapsed (s.port x).lockSince (1000 * s.objN Obj.LINK_DOWN_HOLD x) = true
  · rw [if_pos ⟨hx, hup, by rw [hlock]; exact Bool.false_ne_true, he⟩] at hrun
    have hdown := portDown_down s hx
    generalize portDown s x = w at hrun hdown
    refine ⟨_, hrun, ?_⟩
    rw [if_pos he]
    exact hdown
  · rw [if_neg fun h => he h.2.2.2] at hrun
    refine ⟨_, hrun, ?_⟩
    rw [if_neg he]
    exact frame_sealed (.refl s) (by decide)

/-! ### A port that comes UP (R375, R381) -/

/-- The role of a port that comes UP. -/
def upRole (s : State) (x : Nat) : Nat :=
  if s.obj Obj.PORT_MODE 0 = 1 then 2 else if (s.port (1 - x)).up then 1 else 0

theorem portUp_eq (s : State) (x : Nat) : portUp s x =
    raiseS (if (s.port (1 - x)).up then s.setPort x { s.port x with up := true, upSince := s.tick, role := upRole s x }
      else (s.setPort x { s.port x with up := true, upSince := s.tick, role := upRole s x }).setPort (1 - x)
        { (s.setPort x { s.port x with up := true, upSince := s.tick, role := upRole s x }).port (1 - x) with role := 3 })
      0x8002 [.word x] := rfl

theorem portUp_ups (s : State) (hx : x < 2) :
    (portUp s x).port x = { s.port x with up := true, upSince := s.tick, role := upRole s x } ∧
      ((portUp s x).port (1 - x)).up = (s.port (1 - x)).up := by
  rw [portUp_eq, port_of_net (raiseS_net _ _ _), port_of_net (raiseS_net _ _ _)]
  have hkept := port_setPort_other s { s.port x with up := true, upSince := s.tick, role := upRole s x } hx (y := 1 - x) (by omega) (by omega)
  split
  · exact ⟨port_setPort s x _, congrArg Port.up hkept⟩
  · rw [port_setPort, port_setPort_other _ _ (by omega) hx (by omega)]
    exact ⟨port_setPort s x _, (congrArg Port.up hkept :)⟩

theorem linkUp_ups (hx : x < 2) (hup : (s.port x).up = false) (hlock : (s.port x).lock = true) :
    ∃ t, exec (.linkUp x) s = .next t ∧
      if s.elapsed (s.port x).lockSince (1000000 * s.objN Obj.LINK_UP_HOLD x) = true then
        (t.port x).up = true ∧ (t.port x).upSince = s.tick ∧ (t.port (1 - x)).up = (s.port (1 - x)).up ∧
          (t.port x).role = (if s.obj Obj.PORT_MODE 0 = 1 then 2 else if (s.port (1 - x)).up = true then 1 else 0)
      else Frame [.ex] s t := by
  have hrun : exec (.linkUp x) s = finish s (if x < 2 ∧ ¬ (s.port x).up = true ∧ (s.port x).lock = true ∧
      s.elapsed (s.port x).lockSince (1000000 * s.objN Obj.LINK_UP_HOLD x) = true then portUp s x else s) := rfl
  by_cases he : s.elapsed (s.port x).lockSince (1000000 * s.objN Obj.LINK_UP_HOLD x) = true
  · rw [if_pos ⟨hx, by rw [hup]; exact Bool.false_ne_true, hlock, he⟩] at hrun
    obtain ⟨hport, hother⟩ := portUp_ups s hx
    generalize portUp s x = w at hrun hport hother
    refine ⟨_, hrun, ?_⟩
    rw [if_pos he]
    exact ⟨congrArg Port.up hport, congrArg Port.upSince hport, hother, congrArg Port.role hport⟩
  · rw [if_neg fun h => he h.2.2.2] at hrun
    refine ⟨_, hrun, ?_⟩
    rw [if_neg he]
    exact frame_sealed (.refl s) (by decide)

end

end Sys2Proof.Proofs

/-!
SUPPORT. PORT_ENABLE, the return of PRIMARY to the preferred port, and NET_APPLY.
-/

namespace Sys2Proof.Proofs

open Sys2Proof Sys2Proof.Machine Sys2Proof.Laws

section

variable {s t : State} {sess x : Nat}

/-! ### Roles (R381, R382) -/

/-- The role that `setRoles` gives a port. -/
def roleOf (s : State) (prefer y : Nat) : Nat :=
  if !(s.port y).up then 3 else if s.obj Obj.PORT_MODE 0 = 1 then 2 else if y = prefer ∨ ¬ (s.port prefer).up then 0 else 1

theorem setRoles_role (s : State) (prefer : Nat) {y : Nat} (hy : y < 2) : ((setRoles s prefer).port y).role = roleOf s prefer y := by
  rcases (show y = 0 ∨ y = 1 by omega) with rfl | rfl
  · exact congrArg Port.role ((port_setPort_other _ _ (by omega) (by omega) (by omega)).trans (port_setPort s 0 _))
  · exact congrArg Port.role (port_setPort _ 1 _)

/-- PRIMARY returned to a port. -/
def reverted (s : State) (x : Nat) : State :=
  announceNow (ptpMoved (raiseS (setRoles s x) 0x8003 [.word x, .word 2]))

theorem reverted_net (s : State) (x : Nat) : (reverted s x).net.ports = (setRoles s x).net.ports ∧
    (reverted s x).net.announced = s.net.announced + 1 ∧ (reverted s x).time.freshDelay = false := by
  unfold reverted
  have hnet : (ptpMoved (raiseS (setRoles s x) 0x8003 [.word x, .word 2])).net = (setRoles s x).net := raiseS_net _ _ _
  have htime : (ptpMoved (raiseS (setRoles s x) 0x8003 [.word x, .word 2])).time.freshDelay = false := rfl
  generalize ptpMoved (raiseS (setRoles s x) 0x8003 [.word x, .word 2]) = w at hnet htime
  obtain ⟨hports, -, hcount, -⟩ := announceNow_net w
  refine ⟨hports.trans (congrArg Network.ports hnet), ?_, ?_⟩
  · rw [hcount, hnet]
    rfl
  · rw [(announceNow_frame w).time rfl]
    exact htime

theorem portRevert_reverts (hx : x < 2) (hp : x = s.objN Obj.PREFERRED_PORT 0) (hr : s.obj Obj.REVERT 0 = 1)
    (hm : s.obj Obj.PORT_MODE 0 = 0) (hup : (s.port x).up = true) (hrole : (s.port x).role ≠ 0) :
    ∃ t, exec .portRevert s = .next t ∧
      if s.elapsed (s.port x).upSince 10000000000 = true then
        (t.port x).role = 0 ∧ (t.port (1 - x)).role = (if (s.port (1 - x)).up = true then 1 else 3) ∧
          t.net.announced = s.net.announced + 1 ∧ t.time.freshDelay = false
      else Frame [.ex] s t := by
  have hrun : exec .portRevert s = finish s (if s.obj Obj.REVERT 0 = 1 ∧ s.obj Obj.PORT_MODE 0 = 0 ∧ (s.port x).up = true ∧
      (s.port x).role ≠ 0 ∧ s.elapsed (s.port x).upSince 10000000000 = true then reverted s x else s) := by
    rw [hp]
    rfl
  by_cases he : s.elapsed (s.port x).upSince 10000000000 = true
  · rw [if_pos ⟨hr, hm, hup, hrole, he⟩] at hrun
    obtain ⟨hports, hcount, hfresh⟩ := reverted_net s x
    have hone : ((reverted s x).port x).role = 0 := by
      rw [port_of_ports hports, setRoles_role s x hx]
      unfold roleOf
      rw [hup, hm]
      simp
    have hother : ((reverted s x).port (1 - x)).role = (if (s.port (1 - x)).up = true then 1 else 3) := by
      rw [port_of_ports hports, setRoles_role s x (by omega)]
      unfold roleOf
      rw [hup, hm, if_neg (show ¬ ((0 : Int) = 1) by decide), 
        if_neg (show ¬ (1 - x = x ∨ ¬ true = true) from fun h => h.elim (fun k => by omega) fun k => k rfl)]
      cases (s.port (1 - x)).up <;> rfl
    generalize reverted s x = w at hrun hcount hfresh hone hother
    refine ⟨_, hrun, ?_⟩
    rw [if_pos he]
    exact ⟨hone, hother, hcount, hfresh⟩
  · rw [if_neg fun h => he h.2.2.2.2] at hrun
    refine ⟨_, hrun, ?_⟩
    rw [if_neg he]
    exact frame_sealed (.refl s) (by decide)

/-! ### PORT_ENABLE (R405) -/

theorem portEnable_runs {v : Int} (hx : x < 2) (h : s.accepts sess Obj.PORT_ENABLE x v = true) :
    ∃ t, exec (.portEnable sess x v) s = .next t ∧ t.answered sess 0 Obj.PORT_ENABLE x (.ack []) ∧ t.obj Obj.PORT_ENABLE x = v ∧
      t.port (1 - x) = s.port (1 - x) ∧
      if v = 0 then (t.port x).lock = false ∧ (∀ i < 8, (t.queue (8 * x + i)).frames = []) else t.net = s.net := by
  obtain ⟨hans, hframe⟩ := hostWrite_acks (eff := effPortEnable x v) h rfl
    (opens_of_frame (effPortEnable_frame x v (seen s sess)) (by decide))
  have hrun : exec (.portEnable sess x v) s = finish s (hostWrite s sess Obj.PORT_ENABLE x v (effPortEnable x v)) := rfl
  have hseen : (seen s sess).net = s.net := (seen_frame s sess).net rfl
  have hport (y : Nat) : (seen s sess).port y = s.port y := port_of_net hseen y
  have heff : (effPortEnable x v (seen s sess)).1 =
      if v = 0 then lockChange (flushPort ((seen s sess).setObj Obj.PORT_ENABLE x v) x) x false
      else (seen s sess).setObj Obj.PORT_ENABLE x v := rfl
  rw [heff] at hframe
  generalize hostWrite s sess Obj.PORT_ENABLE x v (effPortEnable x v) = w at hrun hans hframe
  have hwnet := hframe.net rfl
  have hwobj : w.obj Obj.PORT_ENABLE x = v := by
    refine (obj_of_objs (hframe.objs rfl) _ _).trans ?_
    split
    · refine (obj_of_objs ((lockChange_frame _ _ _).objs rfl) _ _).trans ?_
      exact (flushPort_obj _ x (by decide)).trans (obj_setObj _ _ _ _)
    · exact obj_setObj _ _ _ _
  refine ⟨_, hrun, hans, hwobj, ?_⟩
  by_cases hv : v = 0
  · rw [if_pos hv] at hwnet ⊢
    obtain ⟨hlock, -, -, hother, hqueues⟩ := lockChange_locks (flushPort ((seen s sess).setObj Obj.PORT_ENABLE x v) x) false hx
    have hflush := fun i (hi : i < 8) => flushPort_flushes ((seen s sess).setObj Obj.PORT_ENABLE x v) x hi
    have hports := flushPort_ports ((seen s sess).setObj Obj.PORT_ENABLE x v) x
    refine ⟨(port_of_net hwnet _).trans (hother.trans ((port_of_ports hports _).trans (hport _))), ?_, fun i hi => ?_⟩
    · exact (congrArg Port.lock (port_of_net hwnet x)).trans hlock
    · refine (congrArg Queue.frames (queue_of_queues (congrArg Network.queues hwnet) _)).trans ?_
      rw [queue_of_queues hqueues]
      exact hflush i hi
  · rw [if_neg hv] at hwnet ⊢
    exact ⟨(port_of_net hwnet _).trans (hport _), hwnet.trans hseen⟩

/-! ### NET_APPLY (R380, R381) -/

/-- Of objects that differ every one staged in order takes effect, and nothing of it stays staged. -/
theorem applyStageds_applied {a : Nat} {l : List Nat} (hl : l.Nodup) (s : State) (ha : a ∈ l) (hs : msorted (s.stagedOf a) = true) :
    (l.foldl State.applyStaged s).stagedOf a = [] ∧ ∀ p ∈ s.stagedOf a, (l.foldl State.applyStaged s).obj a p.1 = p.2 := by
  induction l generalizing s with
  | nil => cases ha
  | cons b l ih =>
    obtain ⟨hb, hrest⟩ := List.nodup_cons.mp hl
    rw [List.foldl_cons]
    by_cases hab : a = b
    · subst hab
      have hself := applyStaged_stagedOf s a
      have hne (c : Nat) (hc : c ∈ l) : a ≠ c := by rintro rfl; exact hb hc
      refine ⟨?_, fun p hp => ?_⟩
      · exact foldl_holds (P := fun t => t.stagedOf a = []) l hself fun t c hc h => (applyStaged_stagedOf_addr (hne c hc)).trans h
      · exact foldl_holds (P := fun t => t.obj a p.1 = p.2) l (applyStaged_obj hs hp) fun t c hc h =>
          (applyStaged_obj_addr (hne c hc)).trans h
    · have hkept := applyStaged_stagedOf_addr (s := s) hab
      rw [← hkept] at hs ⊢
      exact ih hrest (s.applyStaged b) (List.mem_of_ne_of_mem hab ha) hs

/-- The state with the staged addressing in its objects, before the ports act on it. -/
def netTaken (s : State) : State := netObjs.foldl State.applyStaged { s with net := { s.net with netWait := [] } }

theorem netTaken_netWait (s : State) : (netTaken s).net.netWait = [] :=
  foldl_keeps (g := fun t => t.net.netWait) (f := State.applyStaged)
    (fun t a => congrArg Network.netWait ((State.applyStaged_frame t a).net rfl)) netObjs _

theorem sending_netWait (s : State) (fs : List (Nat × List Byte)) : (sending s fs).net.netWait = s.net.netWait := rfl

theorem sendOwn_netWait (s : State) (a : Nat) (f : List Byte) : (sendOwn s a f).net.netWait = s.net.netWait := by
  obtain ⟨fs, h, -⟩ := sendOwn_sends s a f
  rw [h, sending_netWait]

theorem sendReports_netWait (s : State) (a kind : Nat) (l : List (List Byte)) : (sendReports s a kind l).net.netWait = s.net.netWait := by
  obtain ⟨fs, h⟩ := sendReports_sends s a kind l
  rw [h, sending_netWait]

/-- After the objects are taken only the network side and an event's trace change, and no port is waited for. -/
theorem applyNet_taken (s : State) : (∀ a b, a ≠ Obj.RING_DROPPED → (applyNet s).obj a b = (netTaken s).obj a b) ∧
    (applyNet s).staged = (netTaken s).staged ∧ (applyNet s).net.netWait = [] := by
  unfold applyNet
  extract_lets n moved before probes net u v w joined y
  have hu : u = netTaken s := rfl
  rw [← hu]
  replace hu : u.net.netWait = [] := hu ▸ netTaken_netWait s
  clear_value u
  have hv : Frame [.net] u v ∧ v.net.netWait = [] := ⟨setRoles_frame u _, hu⟩
  have hw : Frame [.net] u w ∧ w.net.netWait = [] :=
    ⟨hv.1.trans (.foldl (fun t a => sendOwn_frame t a _) (.refl v)),
      (foldl_keeps (g := fun t => t.net.netWait) (fun t a => sendOwn_netWait t a _) _ v).trans hv.2⟩
  have hy : Frame [.net] u y ∧ y.net.netWait = [] := by
    by_cases hm : moved = 0
    · rw [show y = w.sets.foldl (fun s a => sendReports s a 4 joined) w from if_pos hm]
      exact ⟨hw.1.trans (.foldl (fun t a => sendReports_frame t a 4 joined) (.refl w)),
        (foldl_keeps (g := fun t => t.net.netWait) (fun t a => sendReports_netWait t a 4 joined) _ w).trans hw.2⟩
    · rw [show y = announceNow w from if_neg hm]
      exact ⟨hw.1.trans (announceNow_frame w), (announceNow_net w).2.2.2.trans hw.2⟩
  refine ⟨fun a b ha => (raiseS_obj ha _ _ _).trans (obj_of_objs (hy.1.objs rfl) a b), ?_, ?_⟩
  · rw [raiseS_staged]
    exact hy.1.staged rfl
  · rw [raiseS_net]
    exact hy.2

theorem addrBad_seen (s : State) (sess a : Nat) : (seen s sess).addrBad a = s.addrBad a := by
  have hframe := seen_frame s sess
  have hj (b i : Nat) : (seen s sess).judged b i = s.judged b i := judged_of_frame hframe rfl rfl rfl rfl b i
  have ho (b i : Nat) : (seen s sess).judgedOct b i = s.judgedOct b i := by
    unfold State.judgedOct State.oct
    rw [hframe.stagedOcts rfl, hframe.octs rfl]
  unfold State.addrBad
  simp only [hj, ho]

theorem effNetApply_seen (s : State) (sess : Nat) : effNetApply (seen s sess) =
    if s.addrBad 0 = true ∨ s.addrBad 1 = true then (seen s sess, .nak .range)
    else if (s.port 0).busy.isSome = true ∨ (s.port 1).busy.isSome = true then
      ({ seen s sess with net := { s.net with netWait := (List.range 2).filter fun x => (s.port x).busy.isSome } }, .ack)
    else (applyNet (seen s sess), .ack) := by
  unfold effNetApply
  have hnet := (seen_frame s sess).net rfl
  simp only [addrBad_seen, port_of_net hnet, hnet]

theorem netApply_runs (h : s.accepts sess Obj.NET_APPLY 0 1 = true) :
    ∃ t, exec (.netApply sess) s = .next t ∧
      if s.addrBad 0 = true ∨ s.addrBad 1 = true then t.answered sess 0 Obj.NET_APPLY 0 (.nak .range 0 0) ∧ Frame [.ex] s t
      else
        t.answered sess 0 Obj.NET_APPLY 0 (.ack []) ∧
          if (s.port 0).busy.isSome = true ∨ (s.port 1).busy.isSome = true then
            t.net = { s.net with netWait := (List.range 2).filter fun x => (s.port x).busy.isSome } ∧ Frame [.ex, .net] s t
          else
            t.net.netWait = [] ∧
              ∀ a ∈ [Obj.PORT_MODE, Obj.PREFERRED_PORT, Obj.IPV4_ADDR, Obj.IPV4_PREFIX, Obj.IPV4_GATEWAY, Obj.MGMT_VID],
                msorted (s.stagedOf a) = true → t.stagedOf a = [] ∧ ∀ p ∈ s.stagedOf a, t.obj a p.1 = p.2 := by
  have hrun : exec (.netApply sess) s = finish s (hostWrite s sess Obj.NET_APPLY 0 1 effNetApply) := rfl
  have heff := effNetApply_seen s sess
  have hopens := effNetApply_opens (seen s sess)
  by_cases hbad : s.addrBad 0 = true ∨ s.addrBad 1 = true
  · rw [if_pos hbad] at heff
    obtain ⟨hans, hframe⟩ := hostWrite_refused h heff (by decide)
    refine ⟨_, hrun, ?_⟩
    rw [if_pos hbad]
    exact ⟨hans, frame_sealed hframe (by decide)⟩
  rw [if_neg hbad] at heff
  by_cases hbusy : (s.port 0).busy.isSome = true ∨ (s.port 1).busy.isSome = true
  · rw [if_pos hbusy] at heff
    rw [heff] at hopens
    obtain ⟨hans, hframe⟩ := hostWrite_ack h heff hopens
    generalize hostWrite s sess Obj.NET_APPLY 0 1 effNetApply = w at hrun hans hframe
    refine ⟨_, hrun, ?_⟩
    rw [if_neg hbad, if_pos hbusy]
    refine ⟨hans, hframe.net rfl, frame_sealed (.step hframe (by decide) ?_) (by decide)⟩
    exact .set_net (by decide) ((seen_frame s sess).mono (by decide))
  · rw [if_neg hbusy] at heff
    rw [heff] at hopens
    obtain ⟨hans, hframe⟩ := hostWrite_ack h heff hopens
    obtain ⟨hobj, hstaged, hwait⟩ := applyNet_taken (seen s sess)
    have happ (a : Nat) (ha : a ∈ netObjs) (hs : msorted (s.stagedOf a) = true) :=
      applyStageds_applied (a := a) (l := netObjs) (by decide) { seen s sess with net := { (seen s sess).net with netWait := [] } } ha
        (((congrArg msorted (stagedOf_seen s sess a)).trans hs :))
    have hmem : ∀ a ∈ [Obj.PORT_MODE, Obj.PREFERRED_PORT, Obj.IPV4_ADDR, Obj.IPV4_PREFIX, Obj.IPV4_GATEWAY, Obj.MGMT_VID],
        a ∈ netObjs ∧ a ≠ Obj.RING_DROPPED := by decide
    generalize hostWrite s sess Obj.NET_APPLY 0 1 effNetApply = w at hrun hans hframe
    refine ⟨_, hrun, ?_⟩
    rw [if_neg hbad, if_neg hbusy]
    refine ⟨hans, (congrArg Network.netWait (hframe.net rfl)).trans hwait, fun a ha hs => ?_⟩
    obtain ⟨hin, hne⟩ := hmem a ha
    obtain ⟨hnone, hval⟩ := happ a hin hs
    refine ⟨?_, fun p hp => ?_⟩
    · exact (congrArg (fun m => mget ([] : SMap Int) m a) ((hframe.staged rfl).trans hstaged)).trans hnone
    · refine (obj_of_objs (hframe.objs rfl) _ _).trans ((hobj a p.1 hne).trans (hval p ?_))
      exact (stagedOf_seen s sess a).symm ▸ hp

end

/-- Settles O53: a case for each command; the announcements by what they leave to send, a port that goes DOWN by what it drops and whether
its partner takes over, NET_APPLY by the objects it takes. -/
theorem ports : Obligations.Ports := by
  refine ⟨?_, ?_, ?_, ?_, ?_, ?_, ?_⟩
  · intro x c u ok lock s hx ht hl
    exact pcsLockChange_locks hx ht hl
  · intro x s hx hup hlock
    exact linkDown_downs hx hup hlock
  · intro x s hx hup hlock
    exact linkUp_ups hx hup hlock
  · intro k rest s h
    exact announcementRepeat_sends h
  · intro x s hx hp hr hm hup hrole
    exact portRevert_reverts hx hp hr hm hup hrole
  · intro sess x v s hx h
    exact portEnable_runs hx h
  · intro sess s h
    exact netApply_runs h

end Sys2Proof.Proofs

/-!
SUPPORT. A single object write, and the commands of the capture buffers that touch one buffer: arming, the end of a capture, forced and
automatic triggers, releases, the trigger pins, and the settings of rings.
-/

namespace Sys2Proof.Proofs

open Sys2Proof Sys2Proof.Machine Sys2Proof.Laws

section

variable {s t : State} {sess b r : Nat}

/-! ### One object write (R472) -/

theorem answer_owed (h : openIn s sess) (req addr sel : Nat) (p : Reply) : (answer s sess req addr sel p).ex.owed = s.ex.owed := by
  obtain ⟨i, x, hx⟩ := (openIn_iff _ _).mp h
  unfold answer answerFrom
  rw [hx]
  exact sendAnswer_owed _ _ _

theorem seen_owed (s : State) (sess : Nat) : (seen s sess).ex.owed = s.ex.owed := by
  unfold seen
  split <;> rfl

theorem openIn_of_ex (h : t.ex = s.ex) (ho : openIn s sess) : openIn t sess := by
  unfold openIn
  rw [h]
  exact ho

theorem opens_of_ex (h : t.ex = s.ex) : Opens s t := fun _ => openIn_of_ex h

/-- A write that leaves the sessions' side alone and is answered at once, where nothing of the device's commands is owed. -/
theorem objectWrite_runs {addr sel : Nat} {v : Int} {u : State} {d : Verdict} (h : s.accepts sess addr sel v = true)
    (ho : (s.ex.owed.any fun o => o.kind == .park || o.kind == .resume) = false)
    (he : effNumber sess 0 addr sel v (seen s sess) = (u, d)) (hd : d = .ack ∨ ∃ n, d = .nak n) (hex : u.ex = (seen s sess).ex) :
    exec (.objectWrite sess addr sel v) s = finish s (hostWrite s sess addr sel v (effNumber sess 0 addr sel v)) := by
  have hr : s.ready sess = true := by
    unfold State.accepts at h
    exact (Bool.and_eq_true _ _ ▸ h).1
  have hopen : openIn u sess := openIn_of_ex hex (openIn_seen hr)
  have howed : (hostWrite s sess addr sel v (effNumber sess 0 addr sel v)).ex.owed = s.ex.owed := by
    rw [hostWrite_accepts h, he, ← seen_owed s sess, ← hex]
    rcases hd with rfl | ⟨n, rfl⟩
    · exact answer_owed hopen _ _ _ _
    · exact answer_owed hopen _ _ _ _
  change finish s (parkOwed (hostWrite s sess addr sel v (effNumber sess 0 addr sel v))) = _
  rw [parkOwed_idle (howed ▸ ho)]

/-! ### Buffers and rings -/

theorem buf_setBuf (s : State) (b : Nat) (x : CapBuf) : (s.setBuf b x).buf b = x := mget_mset_self _ _ _ _

theorem buf_setBuf_other (s : State) {b k : Nat} (x : CapBuf) (h : k ≠ b) : (s.setBuf b x).buf k = s.buf k := mget_mset_other _ _ _ h

theorem setBuf_ex (s : State) (b : Nat) (x : CapBuf) : (s.setBuf b x).ex = s.ex := rfl

theorem ring_setRing (s : State) (r : Nat) (g : Ring) : (s.setRing r g).ring r = g := mget_mset_self _ _ _ _

theorem buf_of_sorus (h : t.sorus = s.sorus) (k : Nat) : t.buf k = s.buf k := congrArg (fun y : Sorus => mget ({} : CapBuf) y.bufs k) h

theorem ring_of_sorus (h : t.sorus = s.sorus) (k : Nat) : t.ring k = s.ring k := congrArg (fun y : Sorus => mget ({} : Ring) y.rings k) h

theorem buf_seen (s : State) (sess k : Nat) : (seen s sess).buf k = s.buf k := buf_of_sorus ((seen_frame s sess).sorus rfl) k

theorem ring_seen (s : State) (sess k : Nat) : (seen s sess).ring k = s.ring k := ring_of_sorus ((seen_frame s sess).sorus rfl) k

/-! ### Rings switched on (Table 12.9) -/

theorem ringEnable_naks {v : Int} (h : s.accepts sess Obj.RING_ENABLE r v = true) (hl : s.obj Obj.RING_LENGTH r = 0)
    (ho : (s.ex.owed.any fun o => o.kind == .park || o.kind == .resume) = false) :
    ∃ t, exec (.objectWrite sess Obj.RING_ENABLE r v) s = .next t ∧ t.answered sess 0 Obj.RING_ENABLE r (.nak .state 0 0) ∧ Frame [.ex] s t := by
  have hlen : (seen s sess).obj Obj.RING_LENGTH r = 0 := (obj_of_objs ((seen_frame s sess).objs rfl) _ _).trans hl
  have heff : effNumber sess 0 Obj.RING_ENABLE r v (seen s sess) = (seen s sess, .nak .state) := by
    show effRingEnable r v (seen s sess) = _
    exact if_pos hlen
  have hrun := objectWrite_runs h ho heff (.inr ⟨_, rfl⟩) rfl
  obtain ⟨hans, hframe⟩ := hostWrite_refused h heff (by decide)
  exact ⟨_, hrun, hans, frame_sealed hframe (by decide)⟩

/-! ### CAP_ARM 2, CAP_FORCE and CAP_RELEASE (R353, R356, R361) -/

theorem capEnd_runs (h : s.accepts sess Obj.CAP_ARM b 2 = true) :
    ∃ t, exec (.capEnd sess b) s = .next t ∧ t.answered sess 0 Obj.CAP_ARM b (.ack []) ∧
      t.buf b = { s.buf b with ending := true } ∧ (∀ k, k ≠ b → t.buf k = s.buf k) ∧ Frame [.ex, .sorus] s t := by
  obtain ⟨hans, hframe⟩ := hostWrite_acks (eff := effCapEnd b) h rfl (opens_of_frame (effCapEnd_frame b (seen s sess)) (by decide))
  have hrun : exec (.capEnd sess b) s = finish s (hostWrite s sess Obj.CAP_ARM b 2 (effCapEnd b)) := rfl
  generalize hostWrite s sess Obj.CAP_ARM b 2 (effCapEnd b) = w at hrun hans hframe
  have hbuf (k : Nat) := buf_of_sorus (hframe.sorus rfl) k
  refine ⟨_, hrun, hans, ?_, fun k hk => ?_, frame_sealed (.step hframe (by decide) ?_) (by decide)⟩
  · exact (hbuf b).trans ((buf_setBuf _ b _).trans (by rw [buf_seen]))
  · exact (hbuf k).trans ((buf_setBuf_other _ _ hk).trans (buf_seen s sess k))
  · exact (seen_frame s sess).mono (by decide) |>.trans ((effCapEnd_frame b (seen s sess)).mono (by decide))

/-- The NAK of a CAP_FORCE, where it is refused. -/
def forceNak (x : CapBuf) : Option Nak :=
  if x.state = .triggered ∨ x.state = .rearm then some .busy
  else if x.state = .idle ∨ x.state = .full ∨ x.state = .stopped then some .state
  else if x.cfg.preMode = 1 ∧ x.state = .filling then some .notReady
  else none

theorem effCapForce_eq (b : Nat) (s : State) : effCapForce b s = match forceNak (s.buf b) with
    | some n => (s, .nak n)
    | none => (s.setBuf b { s.buf b with force := true }, .ack) := by
  unfold effCapForce forceNak
  generalize s.buf b = x
  cases hx : x.state with
  | filling =>
    simp only [hx]
    by_cases hp : x.cfg.preMode = 1 <;> simp [hp]
  | _ =>
    simp only [hx]
    simp

theorem capForce_runs {x : CapBuf} (h : s.accepts sess Obj.CAP_FORCE b 1 = true) (hx : x = s.buf b) :
    ∃ t, exec (.capForce sess b) s = .next t ∧
      match forceNak x with
      | some n => t.answered sess 0 Obj.CAP_FORCE b (.nak n 0 0) ∧ Frame [.ex] s t
      | none => t.answered sess 0 Obj.CAP_FORCE b (.ack []) ∧ t.buf b = { x with force := true } ∧ Frame [.ex, .sorus] s t := by
  have hrun : exec (.capForce sess b) s = finish s (hostWrite s sess Obj.CAP_FORCE b 1 (effCapForce b)) := rfl
  have heff := effCapForce_eq b (seen s sess)
  rw [buf_seen, ← hx] at heff
  cases hn : forceNak x with
  | some n =>
    rw [hn] at heff
    obtain ⟨hans, hframe⟩ := hostWrite_refused h heff (by decide)
    exact ⟨_, hrun, hans, frame_sealed hframe (by decide)⟩
  | none =>
    rw [hn] at heff
    obtain ⟨hans, hframe⟩ := hostWrite_ack h heff (opens_of_ex rfl)
    generalize hostWrite s sess Obj.CAP_FORCE b 1 (effCapForce b) = w at hrun hans hframe
    refine ⟨_, hrun, hans, (buf_of_sorus (hframe.sorus rfl) b).trans (buf_setBuf _ b _), frame_sealed (.step hframe (by decide) ?_) (by decide)⟩
    exact .set_sorus (by decide) ((seen_frame s sess).mono (by decide))

/-- A buffer whose segment of a number is released. -/
def released (x : CapBuf) (n : Nat) : CapBuf := ({ x with segs := x.segs.filter fun g => g.seq ≠ n } : CapBuf).settle

theorem settle_segs (x : CapBuf) : x.settle.segs = x.segs := by
  unfold CapBuf.settle
  split <;> rfl

theorem settle_state (x : CapBuf) : x.settle.state = x.state := by
  unfold CapBuf.settle
  split <;> rfl

theorem effCapRelease_eq (b n : Nat) (s : State) : effCapRelease b n s =
    if ∃ g ∈ (s.buf b).segs, g.seq = n then ((s.setBuf b (released (s.buf b) n)).setObj Obj.CAP_RELEASE b n, .ack)
    else (s, .nak .unknown) := by
  have hany : ((s.buf b).segs.any fun g => (g.seq : Int) == (n : Int)) = true ↔ ∃ g ∈ (s.buf b).segs, g.seq = n := by
    simp
  have hfilter : ((s.buf b).segs.filter fun g => (g.seq : Int) != (n : Int)) = (s.buf b).segs.filter fun g => g.seq ≠ n := by
    refine List.filter_congr fun g _ => ?_
    by_cases h : g.seq = n <;> simp [h]
  unfold effCapRelease released
  dsimp only
  rw [hfilter]
  by_cases h : ∃ g ∈ (s.buf b).segs, g.seq = n
  · rw [if_pos h, if_pos (hany.mpr h)]
  · rw [if_neg h, if_neg fun k => h (hany.mp k)]

theorem capRelease_runs {n : Nat} (h : s.accepts sess Obj.CAP_RELEASE b n = true) :
    ∃ t, exec (.capRelease sess b n) s = .next t ∧
      if ∃ g ∈ (s.buf b).segs, g.seq = n then
        t.answered sess 0 Obj.CAP_RELEASE b (.ack []) ∧ (t.buf b).segs = ((s.buf b).segs.filter fun g => g.seq ≠ n) ∧
          (∀ k, k ≠ b → t.buf k = s.buf k)
      else t.answered sess 0 Obj.CAP_RELEASE b (.nak .unknown 0 0) ∧ Frame [.ex] s t := by
  have hrun : exec (.capRelease sess b n) s = finish s (hostWrite s sess Obj.CAP_RELEASE b n (effCapRelease b n)) := rfl
  have heff := effCapRelease_eq b n (seen s sess)
  rw [buf_seen] at heff
  by_cases hg : ∃ g ∈ (s.buf b).segs, g.seq = n
  · rw [if_pos hg] at heff
    obtain ⟨hans, hframe⟩ := hostWrite_ack h heff (opens_of_ex rfl)
    generalize hostWrite s sess Obj.CAP_RELEASE b n (effCapRelease b n) = w at hrun hans hframe
    have hbuf (k : Nat) := buf_of_sorus (hframe.sorus rfl) k
    refine ⟨_, hrun, ?_⟩
    rw [if_pos hg]
    refine ⟨hans, ?_, fun k hk => (hbuf k).trans ((buf_setBuf_other _ _ hk).trans (buf_seen s sess k))⟩
    exact (congrArg CapBuf.segs ((hbuf b).trans (buf_setBuf _ b _))).trans (settle_segs _)
  · rw [if_neg hg] at heff
    obtain ⟨hans, hframe⟩ := hostWrite_refused h heff (by decide)
    refine ⟨_, hrun, ?_⟩
    rw [if_neg hg]
    exact ⟨hans, frame_sealed hframe (by decide)⟩

/-! ### CAP_ARM 1 (R345, R350, R353, R359, R362) -/

/-- A buffer that is armed and waits for its first frame. -/
def armedBuf (s : State) (b : Nat) : CapBuf :=
  { cfg := s.capCfg b, state := (s.buf b).state, starting := true, reserved := (s.capCfg b).segments * (s.capCfg b).segBytes
    lastC := (s.capCfg b).value, lastTime := s.now, host := s.hostMode 7 }

theorem rests_iff (c : CapState) : c.rests = true ↔ c ∈ [CapState.idle, .full, .stopped] := by
  cases c <;> decide

theorem effCapArm_eq (hp : (s.func 7).pending = none) : effCapArm b s =
    if (s.buf b).state ∉ [.idle, .full, .stopped] then (s, .nak .busy)
    else match s.armNak b (s.capCfg b) with
      | some n => (s, .nak n)
      | none => ((takeCap s b).setBuf b (armedBuf s b), .ack) := by
  unfold effCapArm
  rw [atModeBoundary_idle hp]
  have hcap := takeCap_frame s b
  have hhost : (takeCap s b).hostMode 7 = s.hostMode 7 := by
    unfold State.hostMode State.func
    rw [hcap.funcs rfl]
  have hnow : (takeCap s b).now = s.now := by
    unfold State.now State.counterLobe State.active
    rw [hcap.time rfl, hcap.lobes rfl]
  dsimp only
  rw [hhost, hnow]
  refine (if_congr ?_ rfl rfl).trans rfl
  rw [← rests_iff]
  cases (s.buf b).state.rests <;> simp

theorem capArm_runs {c : CapCfg} (h : s.accepts sess Obj.CAP_ARM b 1 = true) (hp : (s.func 7).pending = none) (hc : c = s.capCfg b) :
    ∃ t, exec (.capArm sess b) s = .next t ∧
      if (s.buf b).state ∉ [.idle, .full, .stopped] then
        t.answered sess 0 Obj.CAP_ARM b (.nak .busy 0 0) ∧ Frame [.ex] s t
      else
        match s.armNak b c with
        | some n => t.answered sess 0 Obj.CAP_ARM b (.nak n 0 0) ∧ Frame [.ex] s t
        | none =>
          t.answered sess 0 Obj.CAP_ARM b (.ack []) ∧ (t.buf b).cfg = c ∧ (t.buf b).starting = true ∧
            (t.buf b).state = (s.buf b).state ∧ (t.buf b).segs = [] ∧ (t.buf b).reserved = c.segments * c.segBytes ∧
            (t.buf b).host = s.hostMode 7 ∧
            (∀ k, k ≠ b → t.buf k = s.buf k) := by
  subst hc
  have hrun : exec (.capArm sess b) s = finish s (hostWrite s sess Obj.CAP_ARM b 1 (effCapArm b)) := rfl
  have hpend : ((seen s sess).func 7).pending = none := by
    unfold State.func
    rw [(seen_frame s sess).funcs rfl]
    exact hp
  have hnak : (seen s sess).armNak b ((seen s sess).capCfg b) = s.armNak b (s.capCfg b) := by
    rw [seen_eq]
    rfl
  have hbufs : armedBuf (seen s sess) b = armedBuf s b := by
    rw [seen_eq]
    rfl
  have heff := effCapArm_eq (b := b) hpend
  rw [buf_seen, hnak, hbufs] at heff
  by_cases hstate : (s.buf b).state ∉ [.idle, .full, .stopped]
  · rw [if_pos hstate] at heff
    obtain ⟨hans, hframe⟩ := hostWrite_refused h heff (by decide)
    refine ⟨_, hrun, ?_⟩
    rw [if_pos hstate]
    exact ⟨hans, frame_sealed hframe (by decide)⟩
  rw [if_neg hstate] at heff
  cases hn : s.armNak b (s.capCfg b) with
  | some n =>
    rw [hn] at heff
    obtain ⟨hans, hframe⟩ := hostWrite_refused h heff (by decide)
    refine ⟨_, hrun, ?_⟩
    rw [if_neg hstate]
    exact ⟨hans, frame_sealed hframe (by decide)⟩
  | none =>
    rw [hn] at heff
    have hcap := takeCap_frame (seen s sess) b
    have hex : ((takeCap (seen s sess) b).setBuf b (armedBuf s b)).ex = (seen s sess).ex :=
      (setBuf_ex _ b _).trans (hcap.ex rfl)
    obtain ⟨hans, hframe⟩ := hostWrite_ack h heff (opens_of_ex hex)
    generalize hostWrite s sess Obj.CAP_ARM b 1 (effCapArm b) = w at hrun hans hframe
    have hbuf (k : Nat) := buf_of_sorus (hframe.sorus rfl) k
    have hb := (hbuf b).trans (buf_setBuf _ b (armedBuf s b))
    have hother (k : Nat) (hk : k ≠ b) : w.buf k = s.buf k :=
      (hbuf k).trans ((buf_setBuf_other _ _ hk).trans ((buf_of_sorus (hcap.sorus rfl) k).trans (buf_seen s sess k)))
    refine ⟨_, hrun, ?_⟩
    rw [if_neg hstate]
    exact ⟨hans, (congrArg CapBuf.cfg hb :), (congrArg CapBuf.starting hb :), (congrArg CapBuf.state hb :), (congrArg CapBuf.segs hb :),
      (congrArg CapBuf.reserved hb :), (congrArg CapBuf.host hb :), hother⟩

end

end Sys2Proof.Proofs

/-!
SUPPORT. The automatic trigger and the re-arm of a buffer, the trigger pins, RING_LENGTH and RING_RP.
-/

namespace Sys2Proof.Proofs

open Sys2Proof Sys2Proof.Machine Sys2Proof.Laws

section

variable {s t : State} {sess b r : Nat}

/-! ### The automatic trigger (R356) -/

theorem capAutoTrigger_runs {x : CapBuf} (hb : b < 8) (hx : x = s.buf b) (ha : x.cfg.auto = true)
    (hw : (x.starting = true ∧ (x.cfg.preMode = 0 ∨ x.cfg.pre = 0)) ∨
      (x.starting = false ∧ (x.state = .armed ∨ (x.state = .filling ∧ x.cfg.preMode = 0)))) :
    ∃ t, exec (.capAutoTrigger b) s = .next t ∧
      if x.cfg.autoTimeout ≤ (if x.starting = true then 0 else x.idleFrames) + 1 then
        t.buf b = { x with auto := true } ∧ (∀ k, k ≠ b → t.buf k = s.buf k)
      else Frame [.ex] s t := by
  subst hx
  generalize hx : s.buf b = x at ha hw
  have hwaits : (if x.starting then x.cfg.preMode == 0 || x.cfg.pre == 0
      else x.state == .armed || (x.state == .filling && x.cfg.preMode == 0)) = true := by
    rcases hw with ⟨hs, hp⟩ | ⟨hs, hp⟩ <;> simpa [hs] using hp
  have hrun : exec (.capAutoTrigger b) s = finish s (if b < 8 ∧ x.cfg.auto = true ∧ (if x.starting then x.cfg.preMode == 0 || x.cfg.pre == 0
      else x.state == .armed || (x.state == .filling && x.cfg.preMode == 0)) = true ∧
        x.cfg.autoTimeout ≤ (if x.starting = true then 0 else x.idleFrames) + 1 then s.setBuf b { x with auto := true } else s) := by
    rw [← hx]
    rfl
  by_cases hn : x.cfg.autoTimeout ≤ (if x.starting = true then 0 else x.idleFrames) + 1
  · rw [if_pos ⟨hb, ha, hwaits, hn⟩] at hrun
    refine ⟨_, hrun, ?_⟩
    rw [if_pos hn]
    exact ⟨buf_setBuf _ _ _, fun k hk => buf_setBuf_other _ _ hk⟩
  · rw [if_neg fun h => hn h.2.2.2] at hrun
    refine ⟨_, hrun, ?_⟩
    rw [if_neg hn]
    exact frame_sealed (.refl s) (by decide)

/-! ### Re-arming (R355, R357) -/

theorem fill_fills (x : CapBuf) : x.fill.state = (if x.fill.cfg.pre = 0 then .armed else .filling) ∧ x.fill.filled = 0 ∧ x.fill.pre = [] ∧
    x.fill.host = x.host := ⟨rfl, rfl, rfl, rfl⟩

/-- The next segment begins FILLING, in the mode then in effect. -/
theorem startNext_fills (s : State) (b : Nat) (y : CapBuf) (take : Bool) :
    ((startNext s b y take).buf b).state = (if ((startNext s b y take).buf b).cfg.pre = 0 then .armed else .filling) ∧
      ((startNext s b y take).buf b).filled = 0 ∧ ((startNext s b y take).buf b).pre = [] ∧
      ((startNext s b y take).buf b).host = (startNext s b y take).hostMode 7 := by
  unfold startNext
  extract_lets u v slot
  rw [buf_setBuf]
  exact fill_fills _

theorem rearm_fills (hs : (s.buf b).segs = []) :
    ((rearm s b).buf b).state = (if ((rearm s b).buf b).cfg.pre = 0 then .armed else .filling) ∧
      ((rearm s b).buf b).filled = 0 ∧ ((rearm s b).buf b).pre = [] ∧ ((rearm s b).buf b).host = (rearm s b).hostMode 7 := by
  unfold rearm
  extract_lets c x ok y slot hosts f host
  have hy : y.segs = [] := by
    show (if ok then x.renew c else x).segs = []
    split
    · exact hs
    · exact hs
  have hfree : y.nextHeld = false := by
    unfold CapBuf.nextHeld
    rw [hy]
    rfl
  rw [if_pos (by rw [hfree]; rfl)]
  exact startNext_fills s b y ok

theorem rearmEnd_runs (hb : b < 8) (hs : (s.buf b).state = .rearm) (hn : (s.buf b).segs = []) :
    ∃ t, exec (.rearmEnd b) s = .next t ∧
      if (s.buf b).rearmLeft = 0 then
        (t.buf b).state = (if (t.buf b).cfg.pre = 0 then .armed else .filling) ∧ (t.buf b).filled = 0 ∧ (t.buf b).pre = [] ∧
          (t.buf b).host = t.hostMode 7
      else Frame [.ex] s t := by
  have hrun : exec (.rearmEnd b) s = finish s (if b < 8 ∧ (s.buf b).state = .rearm ∧ (s.buf b).rearmLeft = 0 then rearm s b else s) := rfl
  by_cases hleft : (s.buf b).rearmLeft = 0
  · rw [if_pos ⟨hb, hs, hleft⟩] at hrun
    have hfill := rearm_fills hn
    generalize rearm s b = w at hrun hfill
    refine ⟨_, hrun, ?_⟩
    rw [if_pos hleft]
    exact hfill
  · rw [if_neg fun h => hleft h.2.2] at hrun
    refine ⟨_, hrun, ?_⟩
    rw [if_neg hleft]
    exact frame_sealed (.refl s) (by decide)

/-! ### Trigger pins (R349, R370) -/

theorem objN_incWrap_self (s : State) (a i : Nat) : (s.incWrap a i).objN a i = (s.objN a i + 1) % 0x100000000 := by
  unfold State.incWrap
  rw [State.objN, obj_setObjN]
  rfl

theorem buf_capNote (s : State) (f : Nat → CapAcc → CapAcc) {y : CapBuf} (h : mfind s.sorus.bufs b = some y) :
    (s.capNote f).buf b = { y with acc := f b y.acc } := by
  show (mfind (mmap (fun b x => { x with acc := f b x.acc }) s.sorus.bufs) b).getD {} = _
  rw [mfind_mmap, h]
  rfl

/-- The state after an edge of TRIG_IN has been stamped and counted. -/
def edgeCounted (s : State) (x : Nat) : State :=
  ({ s with sorus := { s.sorus with edgeAt := mset s.sorus.edgeAt x s.tick } } : State).incWrap Obj.TRIG_IN_EDGES x

/-- What every buffer notes of an edge. -/
def edgeNote (x : Nat) (t : Int) (_ : Nat) (a : CapAcc) : CapAcc := { a with edges := (x, t) :: a.edges }

theorem trigInEdge_runs {x : Nat} (hx : x < 2) :
    ∃ t, exec (.trigInEdge x) s = .next t ∧
      t.objN Obj.TRIG_IN_EDGES x = (s.objN Obj.TRIG_IN_EDGES x + 1) % 0x100000000 ∧ mfind t.sorus.edgeAt x = some s.tick ∧
      ∀ b y, mfind s.sorus.bufs b = some y → (t.buf b).acc.edges = (x, s.stampBack 3) :: y.acc.edges := by
  have hrun : exec (.trigInEdge x) s =
      finish s ((edgeCounted s x).capNote (edgeNote x (s.stampBack 3))) :=
    congrArg (finish s) (if_pos hx)
  refine ⟨_, hrun, ?_, mfind_mset_self _ _ _, fun b y hy => ?_⟩
  · exact objN_incWrap_self { s with sorus := { s.sorus with edgeAt := mset s.sorus.edgeAt x s.tick } } _ _
  · exact congrArg (fun z : CapBuf => z.acc.edges) (buf_capNote (edgeCounted s x) (edgeNote x (s.stampBack 3)) hy)

theorem trigOutPulseEnd_runs {x k : Nat} (h : mfind s.sorus.pulseEnd x = some k) :
    ∃ t, exec (.trigOutPulseEnd x) s = .next t ∧
      if k ≤ s.tick then mfind t.sorus.pulseEnd x = none ∧ t.sorus.bufs = s.sorus.bufs else Frame [.ex] s t := by
  have hrun : exec (.trigOutPulseEnd x) s = finish s
      (if k ≤ s.tick then { s with sorus := { s.sorus with pulseEnd := mdel s.sorus.pulseEnd x } } else s) := by
    show execTrigOutPulseEnd x s = _
    unfold execTrigOutPulseEnd
    rw [h]
  by_cases hk : k ≤ s.tick
  · rw [if_pos hk] at hrun
    refine ⟨_, hrun, ?_⟩
    rw [if_pos hk]
    exact ⟨mfind_mdel_self _ _, rfl⟩
  · rw [if_neg hk] at hrun
    refine ⟨_, hrun, ?_⟩
    rw [if_neg hk]
    exact frame_sealed (.refl s) (by decide)

/-! ### RING_LENGTH and RING_RP (R366, R368, R369) -/

/-- The lengths of the other rings together. -/
def otherRings (s : State) (r : Nat) : Nat := (((List.range 16).filter (· ≠ r)).map fun i => s.objN Obj.RING_LENGTH i).sum

theorem foldl_add_eq_sum {α : Type} (f : α → Nat) (l : List α) (n : Nat) : l.foldl (fun n i => n + f i) n = n + (l.map f).sum := by
  induction l generalizing n with
  | nil => rfl
  | cons a l ih => rw [List.foldl_cons, ih, List.map_cons, List.sum_cons, Nat.add_assoc]

theorem effRingLength_eq (r : Nat) (v : Int) (s : State) : effRingLength r v s =
    if 4194304 < (otherRings s r : Int) + v then (s, .nak .full)
    else ((s.setObj Obj.RING_LENGTH r v).setRing r { s.ring r with pendingLen := some v.toNat }, .ack) := by
  have hsum := foldl_add_eq_sum (fun i => s.objN Obj.RING_LENGTH i) ((List.range 16).filter (· ≠ r)) 0
  rw [Nat.zero_add] at hsum
  unfold effRingLength otherRings
  dsimp only
  rw [hsum]
  rfl

theorem ringLength_runs {v : Int} (h : s.accepts sess Obj.RING_LENGTH r v = true) :
    ∃ t, exec (.ringLength sess r v) s = .next t ∧
      if 4194304 < (otherRings s r : Int) + v then t.answered sess 0 Obj.RING_LENGTH r (.nak .full 0 0) ∧ Frame [.ex] s t
      else
        t.answered sess 0 Obj.RING_LENGTH r (.ack []) ∧ t.obj Obj.RING_LENGTH r = v ∧
          t.ring r = { s.ring r with pendingLen := some v.toNat } := by
  have hrun : exec (.ringLength sess r v) s = finish s (hostWrite s sess Obj.RING_LENGTH r v (effRingLength r v)) := rfl
  have heff := effRingLength_eq r v (seen s sess)
  have hother : otherRings (seen s sess) r = otherRings s r := by
    unfold otherRings State.objN State.obj
    rw [(seen_frame s sess).objs rfl]
  rw [hother, ring_seen] at heff
  by_cases hfull : 4194304 < (otherRings s r : Int) + v
  · rw [if_pos hfull] at heff
    obtain ⟨hans, hframe⟩ := hostWrite_refused h heff (by decide)
    refine ⟨_, hrun, ?_⟩
    rw [if_pos hfull]
    exact ⟨hans, frame_sealed hframe (by decide)⟩
  · rw [if_neg hfull] at heff
    obtain ⟨hans, hframe⟩ := hostWrite_ack h heff (opens_of_ex rfl)
    generalize hostWrite s sess Obj.RING_LENGTH r v (effRingLength r v) = w at hrun hans hframe
    refine ⟨_, hrun, ?_⟩
    rw [if_neg hfull]
    exact ⟨hans, (obj_of_objs (hframe.objs rfl) _ _).trans (obj_setObj (seen s sess) _ _ _),
      (ring_of_sorus (hframe.sorus rfl) r).trans (ring_setRing _ r _)⟩

theorem dropWhile_head {α : Type} {p : α → Bool} {l : List α} (h : ∃ a ∈ l, p a = false) : ∃ a, (l.dropWhile p).head? = some a ∧ p a = false := by
  induction l with
  | nil =>
    obtain ⟨a, ha, -⟩ := h
    cases ha
  | cons c l ih =>
    by_cases hc : p c = true
    · obtain ⟨a, ha, hp⟩ := h
      rcases List.mem_cons.mp ha with rfl | hmem
      · rw [hc] at hp
        cases hp
      · rw [List.dropWhile_cons_of_pos hc]
        exact ih ⟨a, hmem, hp⟩
    · rw [List.dropWhile_cons_of_neg hc]
      exact ⟨c, rfl, Bool.not_eq_true _ ▸ hc⟩

/-- A ring whose host has read up to a record. -/
def ringRead (g : Ring) (v : Int) : Ring := { g with rp := v.toNat, recs := g.recs.dropWhile fun x => (x.1 : Int) != v }

theorem ringRead_head {g : Ring} {v : Int} (h : ∃ x ∈ g.recs, (x.1 : Int) = v) : (ringRead g v).recs.head?.map (·.1) = some v.toNat := by
  obtain ⟨y, hy, hv⟩ := h
  obtain ⟨a, ha, hp⟩ := dropWhile_head (p := fun x : Nat × List Byte => (x.1 : Int) != v) ⟨y, hy, by simp [hv]⟩
  have hav : (a.1 : Int) = v := by simpa using hp
  show ((g.recs.dropWhile fun x => (x.1 : Int) != v).head?.map (·.1)) = _
  rw [ha, ← hav]
  rfl

theorem effRingRp_eq (r : Nat) (v : Int) (s : State) : effRingRp r v s =
    if v = (s.ring r).wp then (s.setRing r { s.ring r with rp := (s.ring r).wp, recs := [] }, .ack)
    else if ∃ x ∈ (s.ring r).recs, (x.1 : Int) = v then (s.setRing r (ringRead (s.ring r) v), .ack)
    else (s, .nak .range) := by
  unfold effRingRp ringRead
  dsimp only
  refine if_congr Iff.rfl rfl (if_congr ?_ rfl rfl)
  simp

theorem ringRp_runs {v : Int} (h : s.accepts sess Obj.RING_RP r v = true) :
    ∃ t, exec (.ringRp sess r v) s = .next t ∧
      if v = (s.ring r).wp then
        t.answered sess 0 Obj.RING_RP r (.ack []) ∧ t.ring r = { s.ring r with rp := (s.ring r).wp, recs := [] }
      else if ∃ x ∈ (s.ring r).recs, (x.1 : Int) = v then
        t.answered sess 0 Obj.RING_RP r (.ack []) ∧ (t.ring r).rp = v.toNat ∧ (t.ring r).wp = (s.ring r).wp ∧
          (t.ring r).recs.head?.map (·.1) = some v.toNat
      else t.answered sess 0 Obj.RING_RP r (.nak .range 0 0) ∧ Frame [.ex] s t := by
  have hrun : exec (.ringRp sess r v) s = finish s (hostWrite s sess Obj.RING_RP r v (effRingRp r v)) := rfl
  have heff := effRingRp_eq r v (seen s sess)
  rw [ring_seen] at heff
  by_cases hend : v = (s.ring r).wp
  · rw [if_pos hend] at heff
    obtain ⟨hans, hframe⟩ := hostWrite_ack h heff (opens_of_ex rfl)
    generalize hostWrite s sess Obj.RING_RP r v (effRingRp r v) = w at hrun hans hframe
    refine ⟨_, hrun, ?_⟩
    rw [if_pos hend]
    exact ⟨hans, (ring_of_sorus (hframe.sorus rfl) r).trans (ring_setRing _ r _)⟩
  rw [if_neg hend] at heff
  by_cases hrec : ∃ x ∈ (s.ring r).recs, (x.1 : Int) = v
  · rw [if_pos hrec] at heff
    obtain ⟨hans, hframe⟩ := hostWrite_ack h heff (opens_of_ex rfl)
    generalize hostWrite s sess Obj.RING_RP r v (effRingRp r v) = w at hrun hans hframe
    have hring : w.ring r = ringRead (s.ring r) v := (ring_of_sorus (hframe.sorus rfl) r).trans (ring_setRing _ r _)
    refine ⟨_, hrun, ?_⟩
    rw [if_neg hend, if_pos hrec]
    exact ⟨hans, (congrArg Ring.rp hring :), (congrArg Ring.wp hring :),
      (congrArg (fun g : Ring => g.recs.head?.map (·.1)) hring).trans (ringRead_head hrec)⟩
  · rw [if_neg hrec] at heff
    obtain ⟨hans, hframe⟩ := hostWrite_refused h heff (by decide)
    refine ⟨_, hrun, ?_⟩
    rw [if_neg hend, if_neg hrec]
    exact ⟨hans, frame_sealed hframe (by decide)⟩

end

end Sys2Proof.Proofs

/-!
SUPPORT. Frames of a capture buffer: the frame instant, the samples it waits for, and what the frame leaves of the buffer (R344, R347,
R350, Table 12.3).
-/

namespace Sys2Proof.Proofs

open Sys2Proof Sys2Proof.Machine Sys2Proof.Laws

section

variable {s t u : State} {b : Nat}

/-! ### Events and the buffers -/

theorem ringPut_bufs (s : State) (r kind flags : Nat) (time : Int) (body : List Byte) :
    (ringPut s r kind flags time body).1.sorus.bufs = s.sorus.bufs := by
  unfold ringPut
  extract_lets g cap gapNeed need fits
  split
  · rfl
  · split
    · rfl
    · split
      · rfl
      · rfl

theorem ringEvents_bufs (e : EvRec) (l : List Nat) (p : State × List (Nat × List EvItem)) :
    (l.foldl (ringEvent e) p).1.sorus.bufs = p.1.sorus.bufs := by
  induction l generalizing p with
  | nil => rfl
  | cons r l ih =>
    rw [List.foldl_cons, ih]
    unfold ringEvent
    split
    · exact ringPut_bufs _ _ _ _ _ _
    · rfl

/-- In the second state a buffer is as in the first, but for what it has noted of events. -/
def BufNoted (b : Nat) (s t : State) : Prop := ∃ a, t.buf b = { s.buf b with acc := a }

theorem BufNoted.refl (b : Nat) (s : State) : BufNoted b s s := ⟨(s.buf b).acc, rfl⟩

theorem BufNoted.trans (h : BufNoted b s t) (k : BufNoted b t u) : BufNoted b s u := by
  obtain ⟨a, ha⟩ := h
  obtain ⟨c, hc⟩ := k
  refine ⟨c, ?_⟩
  rw [hc, ha]

theorem buf_of_bufs (h : t.sorus.bufs = s.sorus.bufs) (k : Nat) : t.buf k = s.buf k := congrArg (fun m => mget ({} : CapBuf) m k) h

theorem capNote_noted (s : State) (f : Nat → CapAcc → CapAcc) (b : Nat) : BufNoted b s (s.capNote f) := by
  unfold BufNoted State.buf mget
  show ∃ a, (mfind (mmap (fun b x => { x with acc := f b x.acc }) s.sorus.bufs) b).getD {} = _
  rw [mfind_mmap]
  cases mfind s.sorus.bufs b with
  | none => exact ⟨_, rfl⟩
  | some x => exact ⟨_, rfl⟩

theorem logEvent_noted (s : State) (code lobe : Nat) (d : Bool) (time : Int) (data : List EvItem) (b : Nat) :
    BufNoted b s (logEvent s code lobe d time data).1 := by
  unfold logEvent
  extract_lets e due
  obtain ⟨a, ha⟩ := capNote_noted { s with ex := (noteEvent s e).ex } (fun _ a => { a with events := e.code :: a.events }) b
  exact ⟨a, (buf_of_bufs (ringEvents_bufs e (List.range 16) (noteEvent s e, due)) b).trans ha⟩

theorem logFollow_noted (time : Int) (n : Nat) (l : List (Nat × List EvItem)) (s : State) (b : Nat) : BufNoted b s (logFollow time n l s) := by
  induction n generalizing l s with
  | zero => cases l <;> exact .refl b s
  | succ n ih =>
    cases l with
    | nil => exact .refl b s
    | cons m l => exact (logEvent_noted s m.1 0xFF false time m.2 b).trans (ih _ _)

theorem raise_noted (s : State) (code lobe : Nat) (data : List EvItem) (b : Nat) : BufNoted b s (raise s code lobe data) := by
  unfold raise
  split
  · exact (logEvent_noted _ _ _ _ _ _ b).trans (logFollow_noted _ _ _ _ b)
  · exact .refl b s

/-! ### What a frame leaves of its buffer -/

/-- A frame's own fields of a buffer: the open frames, a start to come, the latest instant and a forced frame to come. -/
structure FrameKept (b : Nat) (s t : State) : Prop where
  opens : (t.buf b).opens = (s.buf b).opens
  starting : (t.buf b).starting = (s.buf b).starting
  lastTick : (t.buf b).lastTick = (s.buf b).lastTick
  force : (t.buf b).force = (s.buf b).force

theorem FrameKept.of_buf (h : t.buf b = s.buf b) : FrameKept b s t := by
  constructor <;> rw [h]

theorem FrameKept.refl (b : Nat) (s : State) : FrameKept b s s := .of_buf rfl

theorem FrameKept.trans (h : FrameKept b s t) (k : FrameKept b t u) : FrameKept b s u :=
  ⟨k.opens.trans h.opens, k.starting.trans h.starting, k.lastTick.trans h.lastTick, k.force.trans h.force⟩

theorem FrameKept.noted (h : BufNoted b s t) : FrameKept b s t := by
  obtain ⟨a, ha⟩ := h
  constructor <;> rw [ha]

theorem FrameKept.put {x : CapBuf} (ho : x.opens = (s.buf b).opens) (hs : x.starting = (s.buf b).starting)
    (ht : x.lastTick = (s.buf b).lastTick) (hf : x.force = (s.buf b).force) : FrameKept b s (s.setBuf b x) := by
  constructor <;> rw [buf_setBuf] <;> assumption

theorem FrameKept.ite {p : Prop} [Decidable p] (h : FrameKept b s t) (k : FrameKept b s u) : FrameKept b s (if p then t else u) := by
  split <;> assumption

theorem settle_kept (x : CapBuf) : x.settle.opens = x.opens ∧ x.settle.starting = x.starting ∧ x.settle.lastTick = x.lastTick ∧
    x.settle.force = x.force := by
  unfold CapBuf.settle
  split <;> exact ⟨rfl, rfl, rfl, rfl⟩

theorem trigSource_bufs (s : State) (n : Nat) : (trigSource s n).sorus.bufs = s.sorus.bufs := by
  unfold trigSource
  refine foldl_keeps (g := fun t : State => t.sorus.bufs) (fun t x => ?_) _ s
  split <;> rfl

theorem trigSource_kept (s : State) (n : Nat) : FrameKept b s (trigSource s n) := .of_buf (buf_of_bufs (trigSource_bufs s n) b)

theorem closeSegment_kept (s : State) (b : Nat) (g : Segment) (ended : Bool) : FrameKept b s (closeSegment s b g ended) := by
  unfold closeSegment
  extract_lets host g' x stop after x' u v w
  have hu : FrameKept b s u := by
    obtain ⟨ho, hs, ht, hf⟩ := settle_kept x'
    exact (FrameKept.put ho hs ht hf).trans (.of_buf rfl)
  have hv : FrameKept b s v := hu.trans (.ite (.noted (raise_noted _ _ _ _ b)) (.refl b u))
  have hw : FrameKept b s w := hv.trans (.ite (.noted (raise_noted _ _ _ _ b)) (.refl b v))
  exact hw.trans (.ite (.noted (raise_noted _ _ _ _ b)) (.refl b w))

theorem closeIfFull_kept (s : State) (b : Nat) : FrameKept b s (closeIfFull s b) := by
  unfold closeIfFull
  dsimp only
  split
  · exact .ite (closeSegment_kept s b _ false) (.refl b s)
  · exact .refl b s

/-- The state in which a trigger's segment is open and the other buffers know of it. -/
def triggered (s : State) (b : Nat) (g : Segment) (t : Int) : State :=
  let s := s.setBuf b { s.buf b with cur := some g, state := .triggered, pre := [], auto := false }
  { s with sorus := { s.sorus with bufs := mmap (fun i x => if i = b then x else x.noteLink t (b, g.trigTime)) s.sorus.bufs } }

theorem buf_triggered (s : State) (b : Nat) (g : Segment) (t : Int) :
    (triggered s b g t).buf b = { s.buf b with cur := some g, state := .triggered, pre := [], auto := false } := by
  unfold triggered
  show (mfind (mmap _ (mset s.sorus.bufs b _)) b).getD {} = _
  rw [mfind_mmap, mfind_mset_self]
  exact if_pos rfl

/-- The segment of a trigger once the mask has been tested on its frames. -/
def tested (x : CapBuf) (g : Segment) : Segment := if x.host then g else g.test 0

/-- The trigger outputs that a trigger starts. -/
def triggerOutputs (s : State) (b : Nat) (g : Segment) : State :=
  let s := trigSource s (1 + b)
  if g.maskFail then trigSource s (9 + b) else s

theorem trigger_eq (s : State) (b : Nat) (g : Segment) (t : Int) :
    trigger s b g t = closeIfFull (triggerOutputs (triggered s b (tested (s.buf b) g) t) b (tested (s.buf b) g)) b := rfl

theorem buf_triggerOutputs (s : State) (b : Nat) (g : Segment) : (triggerOutputs s b g).buf b = s.buf b := by
  unfold triggerOutputs
  dsimp only
  split
  · exact (buf_of_bufs (trigSource_bufs _ _) b).trans (buf_of_bufs (trigSource_bufs s _) b)
  · exact buf_of_bufs (trigSource_bufs s _) b

theorem trigger_kept (s : State) (b : Nat) (g : Segment) (t : Int) : FrameKept b s (trigger s b g t) := by
  rw [trigger_eq]
  refine .trans ?_ (closeIfFull_kept _ b)
  generalize tested (s.buf b) g = g'
  refine .trans ?_ (.of_buf (buf_triggerOutputs _ b g'))
  constructor <;> rw [buf_triggered]

theorem preFrame_kept (s : State) (b : Nat) (c : Cond) (vs : List (Option Int)) (fresh : Nat) (f : CapFrame) (cand force : Bool) :
    FrameKept b s (preFrame s b c vs fresh f cand force) := by
  unfold preFrame
  extract_lets x short u filled counting
  have hu : u.buf b = s.buf b := by
    show (if cand then s.incSat Obj.CAP_EARLY b else s).buf b = _
    split <;> rfl
  refine .ite (trigger_kept s b _ _) (.trans (.of_buf hu) (.put ?_ ?_ ?_ ?_)) <;> rw [hu]

theorem postFrame_kept (s : State) (b : Nat) (g : Segment) (f : CapFrame) (cand : Bool) : FrameKept b s (postFrame s b g f cand) := by
  unfold postFrame
  extract_lets x g1 bad g2 u v
  have hu : FrameKept b s u := .put rfl rfl rfl rfl
  exact (hu.trans (.ite (trigSource_kept u _) (.refl b u))).trans (closeIfFull_kept v b)

theorem noteFrame_kept (s : State) (b : Nat) (c : Cond) (vs : List (Option Int)) (words : List Nat) (t : Int) :
    FrameKept b s (noteFrame s b c vs words t) := .put rfl rfl rfl rfl

/-- A completed frame leaves the frame's own fields, and its time is the latest. -/
theorem closeFrame_kept (s : State) (b : Nat) (i : CapInstant) :
    FrameKept b s (closeFrame s b i) ∧ ((closeFrame s b i).buf b).lastTime = i.time := by
  unfold closeFrame
  extract_lets x words vs c cand agree fresh f missed y u
  refine ⟨.trans ?_ (noteFrame_kept u b c vs words i.time), congrArg CapBuf.lastTime (buf_setBuf u b _)⟩
  have hpre := preFrame_kept s b c vs fresh f cand i.force
  show FrameKept b s (match x.state with
    | .filling | .armed => preFrame s b c vs fresh f cand i.force
    | .triggered => match x.cur with | some g => postFrame s b g f cand | none => s
    | .rearm =>
      let s := if cand then s.incSat Obj.CAP_MISSED b else s
      s.setBuf b { s.buf b with rearmLeft := x.rearmLeft - 1 }
    | _ => s)
  cases x.state with
  | filling => exact hpre
  | armed => exact hpre
  | triggered =>
    cases x.cur with
    | none => exact .refl b s
    | some g => exact postFrame_kept s b g f cand
  | rearm =>
    have hkept : FrameKept b s (if cand then s.incSat Obj.CAP_MISSED b else s) := .ite (.of_buf rfl) (.refl b s)
    exact hkept.trans (.put rfl rfl rfl rfl)
  | idle => exact .refl b s
  | full => exact .refl b s
  | stopped => exact .refl b s

end

end Sys2Proof.Proofs

/-!
SUPPORT. CAPTURE_FRAME: the end of a capture, its first frame, a forced frame, and a frame whose samples have come.
-/

namespace Sys2Proof.Proofs

open Sys2Proof Sys2Proof.Machine Sys2Proof.Laws

section

variable {s t u : State} {b : Nat} {x : CapBuf} {i : CapInstant}

/-! ### Open frames -/

theorem closeFrames_none (h : (s.buf b).opens = []) (all : Bool) : closeFrames s b all = s := by
  unfold closeFrames
  rw [h]
  rfl

theorem closeFrames_one (h : (s.buf b).opens = [i]) : closeFrames s b false =
    if s.sampled (s.buf b) i = true then closeFrame (s.setBuf b { s.buf b with opens := [] }) b i else s := by
  unfold closeFrames
  rw [h, List.foldl_cons, List.foldl_nil]
  unfold closeNext
  simp only [h, Bool.false_or]

theorem captureFrame_run (hb : b < 8) : exec (.captureFrame b) s =
    finish s (closeFrames (if s.frameDue b = true then captureFrame s b else s) b false) := congrArg (finish s) (if_pos hb)

theorem captureFrame_idle (h : 8 ≤ b ∨ (s.frameDue b = false ∧ (s.buf b).opens = [])) :
    ∃ t, exec (.captureFrame b) s = .next t ∧ Frame [.ex] s t := by
  have hrun : exec (.captureFrame b) s = finish s s := by
    by_cases hb : b < 8
    · obtain ⟨hdue, hopens⟩ := h.resolve_left (by omega)
      rw [captureFrame_run hb, hdue, if_neg Bool.false_ne_true, closeFrames_none hopens]
    · exact congrArg (finish s) (if_neg hb)
  exact ⟨_, hrun, frame_sealed (.refl s) (by decide)⟩

/-- A buffer without its open frame. -/
def frameTaken (s : State) (b : Nat) : State := s.setBuf b { s.buf b with opens := [] }

theorem buf_frameTaken (s : State) (b : Nat) : (frameTaken s b).buf b = { s.buf b with opens := [] } := buf_setBuf s b _

/-! ### Frames before the trigger -/

/-- What a frame of a buffer in FILLING with a fixed pre-trigger count leaves. -/
theorem closeFrame_filling (hx : x = s.buf b) (hs : x.state = .filling) (hm : x.cfg.preMode = 1) :
    ((closeFrame s b i).buf b).filled = x.filled + 1 ∧
      ((closeFrame s b i).buf b).state = (if x.cfg.pre ≤ x.filled + 1 then .armed else .filling) := by
  subst hx
  have hpre (c : Cond) (vs : List (Option Int)) (fresh : Nat) (f : CapFrame) (cand force : Bool) :
      ((preFrame s b c vs fresh f cand force).buf b).filled = (s.buf b).filled + 1 ∧
        ((preFrame s b c vs fresh f cand force).buf b).state =
          (if (s.buf b).cfg.pre ≤ (s.buf b).filled + 1 then .armed else .filling) := by
    unfold preFrame
    extract_lets x short u filled counting
    have hshort : short = true := decide_eq_true ⟨hs, hm⟩
    rw [hshort, if_neg (by simp), buf_setBuf]
    exact ⟨rfl, rfl⟩
  unfold closeFrame
  extract_lets x words vs c cand agree fresh f missed y v
  have hv : v = preFrame s b c vs fresh f cand i.force := by
    show (match x.state with
      | .filling | .armed => preFrame s b c vs fresh f cand i.force
      | .triggered => match x.cur with | some g => postFrame s b g f cand | none => s
      | .rearm => missed.setBuf b { y with rearmLeft := x.rearmLeft - 1 }
      | _ => s) = _
    have hstate : x.state = .filling := hs
    rw [hstate]
  obtain ⟨hfilled, hnext⟩ := hpre c vs fresh f cand i.force
  rw [← hv] at hfilled hnext
  have hbuf := buf_setBuf v b { v.buf b with lastTime := i.time, lastWords := words, lastV := vs, lastLevel := c.level, lastC := c.word,
                                             lastMatch := (v.buf b).cfg.matches c.word }
  exact ⟨(congrArg CapBuf.filled hbuf).trans hfilled, (congrArg CapBuf.state hbuf).trans hnext⟩

/-! ### A trigger -/

theorem test_keeps (g : Segment) (n : Nat) : (g.test n).seq = g.seq ∧ (g.test n).manual = g.manual ∧ (g.test n).frames = g.frames ∧
    (g.test n).preValid = g.preValid := by
  unfold Segment.test
  generalize (g.frames.drop n).zipIdx n = l
  have hstep : ∀ (l : List (CapFrame × Nat)) (g : Segment),
      let h := l.foldl (fun g p => if g.cfg.violates p.1 ((p.2 : Int) - g.preValid) then
        { g with maskFail := true, violations := min 65535 (g.violations + 1),
                 firstViolation := if g.firstViolation = 0xFFFFFFFF then p.2 else g.firstViolation } else g) g
      h.seq = g.seq ∧ h.manual = g.manual ∧ h.frames = g.frames ∧ h.preValid = g.preValid := by
    intro l
    induction l with
    | nil => exact fun g => ⟨rfl, rfl, rfl, rfl⟩
    | cons p l ih =>
      intro g
      dsimp only
      rw [List.foldl_cons]
      split
      · exact ih _
      · exact ih _
  exact hstep l g

theorem tested_keeps (x : CapBuf) (g : Segment) : (tested x g).seq = g.seq ∧ (tested x g).manual = g.manual ∧
    (tested x g).frames = g.frames ∧ (tested x g).preValid = g.preValid := by
  unfold tested
  split
  · exact ⟨rfl, rfl, rfl, rfl⟩
  · exact test_keeps g 0

/-- A trigger that leaves post-trigger frames to come opens its segment. -/
theorem trigger_opens {g : Segment} (tm : Int) (hlen : g.frames.length - g.preValid < (s.buf b).cfg.length - (s.buf b).cfg.pre) :
    ((trigger s b g tm).buf b).state = .triggered ∧
      ∃ h, ((trigger s b g tm).buf b).cur = some h ∧ h.seq = g.seq ∧ h.manual = g.manual := by
  obtain ⟨hseq, hmanual, hframes, hpre⟩ := tested_keeps (s.buf b) g
  rw [trigger_eq]
  generalize tested (s.buf b) g = h at hseq hmanual hframes hpre
  have hbuf : (triggerOutputs (triggered s b h tm) b h).buf b =
      { s.buf b with cur := some h, state := .triggered, pre := [], auto := false } := by
    rw [buf_triggerOutputs, buf_triggered]
  generalize triggerOutputs (triggered s b h tm) b h = w at hbuf
  have hopen : closeIfFull w b = w := by
    unfold closeIfFull
    rw [hbuf]
    dsimp only
    rw [if_neg (by rw [hframes, hpre]; omega)]
  rw [hopen, hbuf]
  exact ⟨rfl, h, rfl, hseq, hmanual⟩

/-- What a forced frame of an ARMED buffer leaves. -/
theorem closeFrame_forced (hx : x = s.buf b) (hs : x.state = .armed) (hf : i.force = true) (hlen : x.cfg.pre + 1 < x.cfg.length) :
    ((closeFrame s b i).buf b).state = .triggered ∧
      ∃ g, ((closeFrame s b i).buf b).cur = some g ∧ g.seq = x.nextSeq ∧ g.manual = true := by
  subst hx
  have hpre (c : Cond) (vs : List (Option Int)) (fresh : Nat) (f : CapFrame) (cand : Bool) :
      ((preFrame s b c vs fresh f cand true).buf b).state = .triggered ∧
        ∃ g, ((preFrame s b c vs fresh f cand true).buf b).cur = some g ∧ g.seq = (s.buf b).nextSeq ∧ g.manual = true := by
    unfold preFrame
    extract_lets x short u filled counting
    have hshort : short = false := by
      have hstate : x.state = .armed := hs
      show decide (x.state = .filling ∧ x.cfg.preMode = 1) = false
      rw [hstate]
      simp
    have hpost : x.cfg.pre + 1 < x.cfg.length := hlen
    rw [hshort, if_pos (by simp)]
    exact trigger_opens f.time (by
      show ((x.pre.drop (x.pre.length - x.cfg.pre)) ++ [f]).length - (x.pre.drop (x.pre.length - x.cfg.pre)).length < x.cfg.length - x.cfg.pre
      rw [List.length_append, List.length_singleton]
      omega)
  unfold closeFrame
  extract_lets x words vs c cand agree fresh f missed y v
  have hv : v = preFrame s b c vs fresh f cand true := by
    show (match x.state with
      | .filling | .armed => preFrame s b c vs fresh f cand i.force
      | .triggered => match x.cur with | some g => postFrame s b g f cand | none => s
      | .rearm => missed.setBuf b { y with rearmLeft := x.rearmLeft - 1 }
      | _ => s) = _
    have hstate : x.state = .armed := hs
    rw [hstate, hf]
  obtain ⟨hnext, g, hcur, hg⟩ := hpre c vs fresh f cand
  rw [← hv] at hnext hcur
  have hbuf := buf_setBuf v b { v.buf b with lastTime := i.time, lastWords := words, lastV := vs, lastLevel := c.level, lastC := c.word,
                                             lastMatch := (v.buf b).cfg.matches c.word }
  exact ⟨(congrArg CapBuf.state hbuf).trans hnext, g, (congrArg CapBuf.cur hbuf).trans hcur, hg⟩

end

end Sys2Proof.Proofs

/-!
SUPPORT. The frame instant of a buffer, and CAPTURE_FRAME with at most one open frame.
-/

namespace Sys2Proof.Proofs

open Sys2Proof Sys2Proof.Machine Sys2Proof.Laws

section

variable {s t u : State} {b : Nat} {x : CapBuf} {i : CapInstant}

/-! ### The frame instant (R344) -/

/-- What a frame instant takes at once. -/
def instantOf (s : State) (b : Nat) : CapInstant :=
  let x := s.buf b
  let lasts := match x.opens.getLast? with | some i => i.words | none => x.cfg.chans.zip x.lastWords
  let chans := x.cfg.chans ++ if x.state = .rearm then (s.capCfg b).chans else []
  { time := s.now, tick := s.tick, pins := s.pinLevels, force := x.force
    words := chans.map fun c => (c, s.frameWord (x.cfg.rate == 1) c (mget 0 lasts c))
    waits := chans.filterMap fun c => (s.waitScan (x.cfg.rate == 1) c).map fun n => (c, n)
    hold := decide (s.time.servo = .holdover), fo := s.active.isNone, acc := x.acc }

/-- A buffer whose frame has begun. -/
def begun (s : State) (b : Nat) : CapBuf :=
  { s.buf b with opens := (s.buf b).opens ++ [instantOf s b], acc := {}, force := false, lastTick := some s.tick }

theorem openFrame_eq (s : State) (b : Nat) : openFrame s b = s.setBuf b (begun s b) := rfl

theorem buf_openFrame (s : State) (b : Nat) : (openFrame s b).buf b = begun s b := buf_setBuf s b _

/-- Every sample that a frame of the present instant takes has come, or will come no more. -/
def SamplesThere (s : State) (x : CapBuf) : Prop :=
  ∀ c ∈ x.cfg.chans, ∀ n, s.waitScan (x.cfg.rate == 1) c = some n → n + 2 ≤ s.scan ∨ n ≤ (s.pd (chanIndexOf c)).at_

theorem sampled_iff (hr : (s.buf b).state ≠ .rearm) :
    s.sampled (s.buf b) (instantOf s b) = true ↔ SamplesThere s (s.buf b) := by
  have hwaits : (instantOf s b).waits =
      (s.buf b).cfg.chans.filterMap fun c => (s.waitScan ((s.buf b).cfg.rate == 1) c).map fun n => (c, n) := by
    unfold instantOf
    dsimp only
    rw [if_neg hr, List.append_nil]
  unfold State.sampled SamplesThere
  rw [hwaits, List.all_eq_true]
  constructor
  · intro h c hc n hn
    have hp := h (c, n) (List.mem_filterMap.mpr ⟨c, hc, by rw [hn]; rfl⟩)
    have hin : (s.buf b).cfg.chans.contains c = true := List.contains_iff_mem.mpr hc
    simpa [hc] using hp
  · rintro h ⟨c, n⟩ hp
    obtain ⟨c', hc, hn⟩ := List.mem_filterMap.mp hp
    obtain ⟨m, hm, he⟩ := Option.map_eq_some_iff.mp hn
    cases he
    simpa [hc] using h c hc n hm

/-- The completion of the frame that a buffer without open frames begins now. -/
theorem closeFrames_begun (ho : (s.buf b).opens = []) (hr : (s.buf b).state ≠ .rearm) :
    (SamplesThere s (s.buf b) → closeFrames (openFrame s b) b false = closeFrame (frameTaken (openFrame s b) b) b (instantOf s b)) ∧
      (¬ SamplesThere s (s.buf b) → closeFrames (openFrame s b) b false = openFrame s b) := by
  have hopens : ((openFrame s b).buf b).opens = [instantOf s b] := by
    rw [buf_openFrame]
    show (s.buf b).opens ++ [instantOf s b] = _
    rw [ho]
    rfl
  have hsampled : (openFrame s b).sampled ((openFrame s b).buf b) (instantOf s b) = s.sampled (s.buf b) (instantOf s b) := by
    rw [buf_openFrame]
    rfl
  have hone := closeFrames_one hopens
  rw [hsampled] at hone
  constructor
  · intro h
    rw [if_pos ((sampled_iff hr).mpr h)] at hone
    exact hone
  · intro h
    rw [if_neg fun k => h ((sampled_iff hr).mp k)] at hone
    exact hone

/-! ### The first frame after an arm -/

/-- A buffer that leaves its arm at its first frame. -/
def started (x : CapBuf) : CapBuf :=
  { ({ x with starting := false, lastMatch := true, lastC := x.cfg.value } : CapBuf).fill with auto := x.auto }

/-- The state with the buffer started. -/
def startedAt (s : State) (b : Nat) : State := s.setBuf b (started (s.buf b))

theorem buf_startedAt (s : State) (b : Nat) : (startedAt s b).buf b = started (s.buf b) := buf_setBuf s b _

theorem started_state (hp : 0 < x.cfg.pre) : (started x).state = .filling := if_neg (Nat.pos_iff_ne_zero.mp hp)

theorem captureFrame_starts (he : (s.buf b).ending = false) (hs : (s.buf b).starting = true) :
    captureFrame s b = openFrame (startedAt s b) b := by
  unfold captureFrame
  extract_lets x
  rw [if_neg (show ¬ x.ending = true by rw [show x.ending = false from he]; exact Bool.false_ne_true), if_pos (show x.starting = true from hs)]
  rfl

theorem firstFrame (ho : (s.buf b).opens = []) (hm : (s.buf b).cfg.preMode = 1) (hp : 0 < (s.buf b).cfg.pre) (w : State)
    (hw : w = closeFrames (openFrame (startedAt s b) b) b false) :
    (w.buf b).starting = false ∧ (w.buf b).lastTick = some s.tick ∧
      (SamplesThere s (s.buf b) → (w.buf b).filled = 1 ∧
        (w.buf b).state = (if (s.buf b).cfg.pre ≤ 1 then .armed else .filling) ∧ (w.buf b).opens = []) ∧
      (¬ SamplesThere s (s.buf b) → (w.buf b).filled = 0 ∧ (w.buf b).state = .filling ∧ ∃ i, (w.buf b).opens = [i] ∧ i.time = s.now) := by
  have hbuf := buf_startedAt s b
  have hfill : ((startedAt s b).buf b).state = .filling := by rw [hbuf, started_state hp]
  have hopens : ((startedAt s b).buf b).opens = [] := by rw [hbuf]; exact ho
  obtain ⟨hthere, hnot⟩ := closeFrames_begun hopens (by rw [hfill]; simp)
  have hsame : SamplesThere (startedAt s b) ((startedAt s b).buf b) ↔ SamplesThere s (s.buf b) := by
    rw [hbuf]
    exact Iff.rfl
  have hopen := buf_openFrame (startedAt s b) b
  have hbegun : begun (startedAt s b) b = { started (s.buf b) with opens := [instantOf (startedAt s b) b], acc := {}, force := false, lastTick := some s.tick } := by
    unfold begun
    rw [hbuf]
    show ({ started (s.buf b) with opens := (s.buf b).opens ++ [instantOf (startedAt s b) b], acc := {}, force := false, lastTick := some s.tick } : CapBuf) = _
    rw [ho]
    rfl
  rw [hbegun] at hopen
  have htime : (instantOf (startedAt s b) b).time = s.now := rfl
  rw [hsame] at hthere hnot
  generalize instantOf (startedAt s b) b = i at hthere hopen htime
  generalize openFrame (startedAt s b) b = v at hw hthere hnot hopen
  by_cases h : SamplesThere s (s.buf b)
  · rw [hthere h] at hw
    have htaken := (buf_frameTaken v b).trans (congrArg (fun y : CapBuf => { y with opens := [] }) hopen)
    obtain ⟨hkept, -⟩ := closeFrame_kept (frameTaken v b) b i
    obtain ⟨hfilled, hstate⟩ := closeFrame_filling (i := i) htaken.symm (started_state hp) hm
    rw [hw]
    refine ⟨hkept.starting.trans (congrArg CapBuf.starting htaken), hkept.lastTick.trans (congrArg CapBuf.lastTick htaken),
      fun _ => ⟨hfilled, hstate, hkept.opens.trans (congrArg CapBuf.opens htaken)⟩, fun k => absurd h k⟩
  · rw [hw, hnot h, hopen]
    exact ⟨rfl, rfl, fun k => absurd k h, fun _ => ⟨rfl, started_state hp, i, rfl, htime⟩⟩

/-! ### A forced frame of an ARMED buffer -/

theorem captureFrame_opens (he : (s.buf b).ending = false) (hs : (s.buf b).starting = false) (ha : (s.buf b).state = .armed) :
    captureFrame s b = openFrame s b := by
  unfold captureFrame
  extract_lets x
  have hlive : x.live = true := by
    unfold CapBuf.live
    rw [show x.state = .armed from ha]
    simp
  rw [if_neg (show ¬ x.ending = true by rw [show x.ending = false from he]; exact Bool.false_ne_true),
    if_neg (show ¬ x.starting = true by rw [show x.starting = false from hs]; exact Bool.false_ne_true), if_pos hlive]

theorem forcedFrame (ho : (s.buf b).opens = []) (ha : (s.buf b).state = .armed) (hf : (s.buf b).force = true)
    (hl : (s.buf b).cfg.pre + 1 < (s.buf b).cfg.length) (w : State) (hw : w = closeFrames (openFrame s b) b false) :
    (w.buf b).force = false ∧ (w.buf b).lastTick = some s.tick ∧
      (SamplesThere s (s.buf b) → (w.buf b).state = .triggered ∧
        ∃ g, (w.buf b).cur = some g ∧ g.seq = (s.buf b).nextSeq ∧ g.manual = true) ∧
      (¬ SamplesThere s (s.buf b) → (w.buf b).state = .armed ∧ ∃ i, (w.buf b).opens = [i] ∧ i.force = true ∧ i.time = s.now) := by
  obtain ⟨hthere, hnot⟩ := closeFrames_begun ho (by rw [ha]; simp)
  have hopen := buf_openFrame s b
  have hforce : (instantOf s b).force = true := hf
  have htime : (instantOf s b).time = s.now := rfl
  have hbegun : begun s b = { s.buf b with opens := [instantOf s b], acc := {}, force := false, lastTick := some s.tick } := by
    unfold begun
    rw [ho]
    rfl
  rw [hbegun] at hopen
  generalize instantOf s b = i at hthere hopen hforce htime
  generalize openFrame s b = v at hw hthere hnot hopen
  by_cases h : SamplesThere s (s.buf b)
  · rw [hthere h] at hw
    have htaken := (buf_frameTaken v b).trans (congrArg (fun y : CapBuf => { y with opens := [] }) hopen)
    obtain ⟨hkept, -⟩ := closeFrame_kept (frameTaken v b) b i
    have hforced := closeFrame_forced (i := i) htaken.symm ha hforce hl
    rw [hw]
    exact ⟨hkept.force.trans (congrArg CapBuf.force htaken), hkept.lastTick.trans (congrArg CapBuf.lastTick htaken),
      fun _ => hforced, fun k => absurd h k⟩
  · rw [hw, hnot h, hopen]
    exact ⟨rfl, rfl, fun k => absurd k h, fun _ => ⟨ha, i, rfl, hforce, htime⟩⟩

/-! ### The end of a capture (R353) -/

/-- A buffer whose capture is over without a segment begun. -/
def endedBuf (x : CapBuf) : CapBuf :=
  ({ { x with ending := false, starting := false, force := false, auto := false } with state := .idle, pre := [] } : CapBuf).settle

theorem endedBuf_fields (x : CapBuf) : (endedBuf x).state = .idle ∧ (endedBuf x).ending = false ∧ (endedBuf x).segs = x.segs ∧
    (endedBuf x).opens = x.opens := by
  unfold endedBuf CapBuf.settle
  split <;> exact ⟨rfl, rfl, rfl, rfl⟩

theorem captureFrame_ends (he : (s.buf b).ending = true) (hc : (s.buf b).cur = none) (ho : (s.buf b).opens = []) :
    captureFrame s b = s.setBuf b (endedBuf (s.buf b)) := by
  unfold captureFrame
  extract_lets x
  rw [if_pos (show x.ending = true from he), closeFrames_none ho]
  unfold endCapture endedBuf
  dsimp only
  rw [hc]

/-! ### CAPTURE_FRAME -/

theorem captureFrame_due {there : Prop} (hb : b < 8) (hd : s.frameDue b = true) (hx : x = s.buf b) (ho : x.opens = [])
    (hthere : there ↔ ∀ c ∈ x.cfg.chans, ∀ n, s.waitScan (x.cfg.rate == 1) c = some n → n + 2 ≤ s.scan ∨ n ≤ (s.pd (chanIndexOf c)).at_) :
    ∃ t, exec (.captureFrame b) s = .next t ∧
      (x.ending = true → x.cur = none → (t.buf b).state = .idle ∧ (t.buf b).ending = false ∧ (t.buf b).segs = x.segs) ∧
      (x.ending = false → x.starting = true → x.cfg.preMode = 1 → 0 < x.cfg.pre →
        (t.buf b).starting = false ∧ (t.buf b).lastTick = some s.tick ∧
          (there → (t.buf b).filled = 1 ∧ (t.buf b).state = (if x.cfg.pre ≤ 1 then .armed else .filling) ∧ (t.buf b).opens = []) ∧
          (¬ there → (t.buf b).filled = 0 ∧ (t.buf b).state = .filling ∧ ∃ i, (t.buf b).opens = [i] ∧ i.time = s.now)) ∧
      (x.ending = false → x.starting = false → x.state = .armed → x.force = true → x.cfg.pre + 1 < x.cfg.length →
        (t.buf b).force = false ∧ (t.buf b).lastTick = some s.tick ∧
          (there → (t.buf b).state = .triggered ∧ ∃ g, (t.buf b).cur = some g ∧ g.seq = x.nextSeq ∧ g.manual = true) ∧
          (¬ there → (t.buf b).state = .armed ∧ ∃ i, (t.buf b).opens = [i] ∧ i.force = true ∧ i.time = s.now)) := by
  subst hx
  have hsame : SamplesThere s (s.buf b) ↔ there := hthere.symm
  have hrun := captureFrame_run (s := s) hb
  rw [if_pos hd] at hrun
  have hend : (s.buf b).ending = true → (s.buf b).cur = none →
      ((closeFrames (captureFrame s b) b false).buf b).state = .idle ∧ ((closeFrames (captureFrame s b) b false).buf b).ending = false ∧
        ((closeFrames (captureFrame s b) b false).buf b).segs = (s.buf b).segs := by
    intro he hc
    obtain ⟨hstate, hending, hsegs, hopens⟩ := endedBuf_fields (s.buf b)
    rw [captureFrame_ends he hc ho, closeFrames_none (by rw [buf_setBuf]; exact hopens.trans ho), buf_setBuf]
    exact ⟨hstate, hending, hsegs⟩
  have hfirst := fun (he : (s.buf b).ending = false) (hs : (s.buf b).starting = true) (hm : (s.buf b).cfg.preMode = 1)
    (hp : 0 < (s.buf b).cfg.pre) => firstFrame ho hm hp (closeFrames (captureFrame s b) b false) (by rw [captureFrame_starts he hs])
  have hforced := fun (he : (s.buf b).ending = false) (hs : (s.buf b).starting = false) (ha : (s.buf b).state = .armed)
    (hf : (s.buf b).force = true) (hl : (s.buf b).cfg.pre + 1 < (s.buf b).cfg.length) =>
      forcedFrame ho ha hf hl (closeFrames (captureFrame s b) b false) (by rw [captureFrame_opens he hs ha])
  rw [hsame] at hfirst hforced
  generalize closeFrames (captureFrame s b) b false = w at hrun hend hfirst hforced
  exact ⟨_, hrun, hend, hfirst, hforced⟩

theorem captureFrame_completes (hb : b < 8) (hd : s.frameDue b = false) (hx : x = s.buf b) (ho : x.opens = [i]) :
    ∃ t, exec (.captureFrame b) s = .next t ∧
      (s.sampled x i = false → Frame [.ex] s t) ∧
      (s.sampled x i = true → (t.buf b).opens = [] ∧ (t.buf b).lastTime = i.time ∧
        (x.state = .filling → x.cfg.preMode = 1 → (t.buf b).filled = x.filled + 1)) := by
  subst hx
  have hrun := captureFrame_run (s := s) hb
  rw [hd, if_neg Bool.false_ne_true, closeFrames_one ho] at hrun
  cases hs : s.sampled (s.buf b) i with
  | false =>
    rw [hs, if_neg Bool.false_ne_true] at hrun
    exact ⟨_, hrun, fun _ => frame_sealed (.refl s) (by decide), fun h => nomatch h⟩
  | true =>
    rw [hs, if_pos rfl] at hrun
    have htaken := buf_frameTaken s b
    obtain ⟨hkept, htime⟩ := closeFrame_kept (frameTaken s b) b i
    have hopens := hkept.opens.trans (congrArg CapBuf.opens htaken)
    have hfill := fun hstate hmode => (closeFrame_filling (i := i) htaken.symm hstate hmode).1
    have hcomp : closeFrame (s.setBuf b { s.buf b with opens := [] }) b i = closeFrame (frameTaken s b) b i := rfl
    rw [hcomp] at hrun
    generalize closeFrame (frameTaken s b) b i = w at hrun hopens htime hfill
    exact ⟨_, hrun, fun h => (nomatch h), fun _ => ⟨hopens, htime, hfill⟩⟩

end

end Sys2Proof.Proofs

/-!
SUPPORT. The SAMPLES record of a ring at a scan boundary (R366), and the statement about Sorus.
-/

namespace Sys2Proof.Proofs

open Sys2Proof Sys2Proof.Machine Sys2Proof.Laws

section

variable {s t : State} {r : Nat} {g : Ring} {body : List Byte}

/-! ### The scans left to a ring's next record -/

theorem ring_setRing_other (s : State) {k : Nat} (g : Ring) (h : k ≠ r) : (s.setRing r g).ring k = s.ring k := mget_mset_other _ _ _ h

theorem ring_setRing_left (s : State) (k : Nat) (h : g.scansLeft = (s.ring r).scansLeft) :
    ((s.setRing r g).ring k).scansLeft = (s.ring k).scansLeft := by
  by_cases hk : k = r
  · rw [hk, ring_setRing, h]
  · rw [ring_setRing_other s g hk]

theorem ringPut_left (s : State) (r kind flags : Nat) (time : Int) (body : List Byte) (k : Nat) :
    ((ringPut s r kind flags time body).1.ring k).scansLeft = (s.ring k).scansLeft := by
  unfold ringPut
  extract_lets g cap gapNeed need fits
  split
  · rfl
  · split
    · refine ring_setRing_left s k ?_
      show Ring.scansLeft (if g.gap > 0 then _ else g) = g.scansLeft
      split <;> rfl
    · split
      · exact ring_setRing_left (s.incSat Obj.RING_DROPPED r) k rfl
      · refine ring_setRing_left s k ?_
        show Ring.scansLeft (if g.gap > 0 then _ else _) = g.scansLeft
        split <;> rfl

theorem ringEvents_left (e : EvRec) (l : List Nat) (p : State × List (Nat × List EvItem)) (k : Nat) :
    ((l.foldl (ringEvent e) p).1.ring k).scansLeft = (p.1.ring k).scansLeft := by
  induction l generalizing p with
  | nil => rfl
  | cons r l ih =>
    rw [List.foldl_cons, ih]
    unfold ringEvent
    split
    · exact ringPut_left _ _ _ _ _ _ k
    · rfl

theorem logEvent_left (s : State) (code lobe : Nat) (d : Bool) (time : Int) (data : List EvItem) (k : Nat) :
    ((logEvent s code lobe d time data).1.ring k).scansLeft = (s.ring k).scansLeft := by
  unfold logEvent
  extract_lets e due
  exact ringEvents_left e (List.range 16) (noteEvent s e, due) k

theorem logFollow_left (time : Int) (n : Nat) (l : List (Nat × List EvItem)) (s : State) (k : Nat) :
    ((logFollow time n l s).ring k).scansLeft = (s.ring k).scansLeft := by
  induction n generalizing l s with
  | zero => cases l <;> rfl
  | succ n ih =>
    cases l with
    | nil => rfl
    | cons m l => exact (ih _ _).trans (logEvent_left s m.1 0xFF false time m.2 k)

theorem raise_left (s : State) (code lobe : Nat) (data : List EvItem) (k : Nat) :
    ((raise s code lobe data).ring k).scansLeft = (s.ring k).scansLeft := by
  unfold raise
  split
  · exact (logFollow_left _ _ _ _ k).trans (logEvent_left _ _ _ _ _ _ k)
  · rfl

/-! ### A record that fits -/

theorem ringRecord_length (kind flags seq : Nat) (time : Int) (scan : Nat) (body : List Byte) :
    (ringRecord kind flags seq time scan body).length = 24 + body.length := by
  simp [ringRecord, time96Le, leBytes]
  omega

theorem ringPut_fits {kind flags : Nat} {time : Int} (he : (s.ring r).enable = true) (hl : 0 < (s.ring r).length)
    (hr : (s.ring r).resetDue = none) (hg : (s.ring r).gap = 0) (hf : ringUsed (s.ring r) + (24 + body.length) ≤ (s.ring r).length - 8) :
    ringPut s r kind flags time body =
      (s.setRing r { ringAppend (s.ring r) (ringRecord kind flags (s.ring r).seq time s.scan body) with overflow := false }, false) := by
  unfold ringPut
  generalize s.ring r = g at he hl hr hg hf
  dsimp only
  rw [he, hr, hg]
  rw [if_neg (by simp; omega), if_pos (by simpa using hf)]
  rfl

/-! ### One ring at a scan boundary -/

/-- A ring with its newest settings. -/
def ringTaken (s : State) (r : Nat) : Ring :=
  { s.ring r with enable := s.obj Obj.RING_ENABLE r == 1, events := s.obj Obj.RING_EVENTS r == 1, commits := s.obj Obj.RING_COMMITS r == 1
                  overwrite := s.obj Obj.RING_POLICY r == 1, decim := s.objN Obj.RING_DECIM r
                  scansLeft := s.objN Obj.RING_DECIM r - ((s.ring r).decim - (s.ring r).scansLeft)
                  chans := chanList (s.oct Obj.RING_CHANNELS r) 256 }

/-- The state in which the record of a scan is due. -/
def ringDue (s : State) (r : Nat) : State := (s.setRing r (ringTaken s r)).setRing r { ringTaken s r with scansLeft := s.objN Obj.RING_DECIM r }

/-- The words of a ring's channels now. -/
def ringBody (s : State) (r : Nat) : List Byte :=
  ((chanList (s.oct Obj.RING_CHANNELS r) 256).map fun c => leBytes 4 (s.chanWord c (s.elemWord (chanIndexOf c)))).flatten

theorem ringWord_setRing (s : State) (c : Nat) :
    (s.setRing r g).chanWord c ((s.setRing r g).elemWord (chanIndexOf c)) = s.chanWord c (s.elemWord (chanIndexOf c)) := by
  unfold State.chanWord
  split <;> rfl

theorem ringWords_setRing (s : State) (l : List Nat) :
    (l.map fun c => leBytes 4 ((s.setRing r g).chanWord c ((s.setRing r g).elemWord (chanIndexOf c)))).flatten =
      (l.map fun c => leBytes 4 (s.chanWord c (s.elemWord (chanIndexOf c)))).flatten := by
  simp only [ringWord_setRing]

theorem ringScan_eq (hp : (s.ring r).pendingLen = none) (hr : (s.ring r).resetDue = none) (he : s.obj Obj.RING_ENABLE r = 1)
    (hl : 0 < (s.ring r).length) (hc : chanList (s.oct Obj.RING_CHANNELS r) 256 ≠ []) : ringScan s r =
      if 1 < (ringTaken s r).scansLeft then (s.setRing r (ringTaken s r)).setRing r { ringTaken s r with scansLeft := (ringTaken s r).scansLeft - 1 }
      else
        let p := ringPut (ringDue s r) r 1 s.ringFlags s.now (ringBody s r)
        if p.2 then ringOverflow p.1 r else p.1 := by
  unfold ringScan ringDue ringTaken ringBody
  simp only [hp, hr, ring_setRing, ringWords_setRing]
  have hlen : ((s.ring r).length == 0) = false := beq_eq_false_iff_ne.mpr (Nat.pos_iff_ne_zero.mp hl)
  have hchans : (chanList (s.oct Obj.RING_CHANNELS r) 256).isEmpty = false := Bool.eq_false_iff.mpr fun h => hc (List.isEmpty_iff.mp h)
  rw [if_neg (by rw [he, hlen, hchans]; decide)]
  rfl

end

/-! ### The next record of a ring -/

/-- With scans left to the next record a ring counts one more. -/
theorem ringScan_waits {s : State} {r : Nat} (hp : (s.ring r).pendingLen = none) (hr : (s.ring r).resetDue = none)
    (he : s.obj Obj.RING_ENABLE r = 1) (hl : 0 < (s.ring r).length) (hc : chanList (s.oct Obj.RING_CHANNELS r) 256 ≠ [])
    (hn : 1 < (ringTaken s r).scansLeft) : (ringScan s r).ring r = { ringTaken s r with scansLeft := (ringTaken s r).scansLeft - 1 } := by
  rw [ringScan_eq hp hr he hl hc, if_pos hn, ring_setRing]

theorem ringDue_ring (s : State) (r : Nat) : (ringDue s r).ring r = { ringTaken s r with scansLeft := s.objN Obj.RING_DECIM r } :=
  ring_setRing _ _ _

theorem ringScan_restarts {s : State} {r : Nat} (hp : (s.ring r).pendingLen = none) (hr : (s.ring r).resetDue = none)
    (he : s.obj Obj.RING_ENABLE r = 1) (hl : 0 < (s.ring r).length) (hc : chanList (s.oct Obj.RING_CHANNELS r) 256 ≠ [])
    (hn : ¬ 1 < (ringTaken s r).scansLeft) : ((ringScan s r).ring r).scansLeft = s.objN Obj.RING_DECIM r := by
  rw [ringScan_eq hp hr he hl hc, if_neg hn]
  have hput : ((ringPut (ringDue s r) r 1 s.ringFlags s.now (ringBody s r)).1.ring r).scansLeft = s.objN Obj.RING_DECIM r := by
    rw [ringPut_left, ringDue_ring]
  dsimp only
  split
  · exact (raise_left _ _ _ _ r).trans hput
  · exact hput

theorem ringScan_records {s : State} {r : Nat} (hp : (s.ring r).pendingLen = none) (hr : (s.ring r).resetDue = none)
    (he : s.obj Obj.RING_ENABLE r = 1) (hl : 0 < (s.ring r).length) (hc : chanList (s.oct Obj.RING_CHANNELS r) 256 ≠ [])
    (hn : ¬ 1 < (ringTaken s r).scansLeft) (hg : (s.ring r).gap = 0)
    (hf : ringUsed (s.ring r) + (24 + (ringBody s r).length) ≤ (s.ring r).length - 8) : (ringScan s r).ring r =
      { ringAppend { ringTaken s r with scansLeft := s.objN Obj.RING_DECIM r }
          (ringRecord 1 s.ringFlags (s.ring r).seq s.now s.scan (ringBody s r)) with overflow := false } := by
  rw [ringScan_eq hp hr he hl hc, if_neg hn]
  have hput := ringPut_fits (s := ringDue s r) (r := r) (kind := 1) (flags := s.ringFlags) (time := s.now) (body := ringBody s r)
    (by rw [ringDue_ring]; exact beq_iff_eq.mpr he) (by rw [ringDue_ring]; exact hl) (by rw [ringDue_ring]; exact hr)
    (by rw [ringDue_ring]; exact hg) (by rw [ringDue_ring]; exact hf)
  dsimp only
  rw [hput, if_neg Bool.false_ne_true, ring_setRing, ringDue_ring]
  rfl

/-! ### The statement -/

section

variable {s : State} {r : Nat}

theorem ringScan_counts {decim left : Nat} {body : List Byte} {g : Ring} (hg : g = s.ring r) (he : s.obj Obj.RING_ENABLE r = 1)
    (hp : g.pendingLen = none) (hr : g.resetDue = none) (hl : 0 < g.length) (hc : chanList (s.oct Obj.RING_CHANNELS r) 256 ≠ [])
    (hd : decim = s.objN Obj.RING_DECIM r) (hleft : left = decim - (g.decim - g.scansLeft)) (hb : body = ringBody s r) :
    if 1 < left then
      ((ringScan s r).ring r).recs = g.recs ∧ ((ringScan s r).ring r).wp = g.wp ∧ ((ringScan s r).ring r).scansLeft = left - 1
    else ((ringScan s r).ring r).scansLeft = decim ∧ (g.gap = 0 → ringUsed g + (24 + body.length) ≤ g.length - 8 →
      ((ringScan s r).ring r).recs = g.recs ++ [(g.wp, ringRecord 1 s.ringFlags g.seq s.now s.scan body)] ∧
      ((ringScan s r).ring r).wp = (g.wp + (24 + body.length)) % g.length ∧
      ((ringScan s r).ring r).seq = (g.seq + 1) % 0x100000000) := by
  subst hg hd hleft hb
  by_cases hn : 1 < (ringTaken s r).scansLeft
  · have hw := ringScan_waits hp hr he hl hc hn
    refine (if_pos hn).mpr ?_
    rw [hw]
    exact ⟨rfl, rfl, rfl⟩
  · refine (if_neg hn).mpr ⟨ringScan_restarts hp hr he hl hc hn, fun hgap hfits => ?_⟩
    rw [ringScan_records hp hr he hl hc hn hgap hfits]
    refine ⟨rfl, ?_, rfl⟩
    show ((s.ring r).wp + (ringRecord 1 s.ringFlags (s.ring r).seq s.now s.scan (ringBody s r)).length) % (s.ring r).length = _
    rw [ringRecord_length]

theorem capForce_answers {sess b : Nat} {x : CapBuf} (h : s.accepts sess Obj.CAP_FORCE b 1 = true) (hx : x = s.buf b) :
    ∃ t, exec (.capForce sess b) s = .next t ∧
      if x.state = .triggered ∨ x.state = .rearm then
        t.answered sess 0 Obj.CAP_FORCE b (.nak .busy 0 0) ∧ Frame [.ex] s t
      else if x.state = .idle ∨ x.state = .full ∨ x.state = .stopped then
        t.answered sess 0 Obj.CAP_FORCE b (.nak .state 0 0) ∧ Frame [.ex] s t
      else if x.cfg.preMode = 1 ∧ x.state = .filling then
        t.answered sess 0 Obj.CAP_FORCE b (.nak .notReady 0 0) ∧ Frame [.ex] s t
      else t.answered sess 0 Obj.CAP_FORCE b (.ack []) ∧ t.buf b = { x with force := true } ∧ Frame [.ex, .sorus] s t := by
  obtain ⟨t, hrun, ht⟩ := capForce_runs h hx
  refine ⟨t, hrun, ?_⟩
  unfold forceNak at ht
  split at ht
  · next n hn =>
    split at hn
    · next hc => cases hn; exact (if_pos hc).mpr ht
    · next hc =>
      refine (if_neg hc).mpr ?_
      split at hn
      · next hc => cases hn; exact (if_pos hc).mpr ht
      · next hc =>
        refine (if_neg hc).mpr ?_
        split at hn
        · next hc => cases hn; exact (if_pos hc).mpr ht
        · cases hn
  · next hn =>
    split at hn
    · cases hn
    · next hc =>
      refine (if_neg hc).mpr ?_
      split at hn
      · cases hn
      · next hc =>
        refine (if_neg hc).mpr ?_
        split at hn
        · cases hn
        · next hc => exact (if_neg hc).mpr ht

end

/-- Settles O52: each clause is the run lemma of its command, and a ring's record is `ringScan_counts`. -/
theorem captures : Obligations.Captures := by
  unfold Obligations.Captures
  exact ⟨fun r decim left body g s hg he hp hr hl hc hd hleft hb => ringScan_counts hg he hp hr hl hc hd hleft hb,
    fun sess r v s h hl ho => ringEnable_naks h hl ho,
    fun sess b c s h hp hc => capArm_runs h hp hc,
    fun sess b s h => capEnd_runs h,
    fun sess b x s h hx => capForce_answers h hx,
    fun b s h => captureFrame_idle h,
    fun b x there s hb hd hx ho ht => captureFrame_due hb hd hx ho ht,
    fun b x i s hb hd hx ho => captureFrame_completes hb hd hx ho,
    fun b x s hb hx ha hw => capAutoTrigger_runs hb hx ha hw,
    fun b s hb hs hn => rearmEnd_runs hb hs hn,
    fun sess b seq s h => capRelease_runs h,
    fun x s hx => trigInEdge_runs hx,
    fun x k s h => trigOutPulseEnd_runs h,
    fun sess r v s h => ringLength_runs h,
    fun sess r v s h => ringRp_runs h⟩

end Sys2Proof.Proofs

/-!
SUPPORT. The maintenance UART (R453), and what a frame meets before its classification (R376, R379, R398).
-/

namespace Sys2Proof.Proofs

open Sys2Proof Sys2Proof.Machine Sys2Proof.Laws

section

variable {s t u : State} {x : Nat} {bytes : List Byte} {fcsOk tagOk : Bool}

/-! ### RFC 1055 -/

theorem unslip_slipByte (got : List Byte) (b : Byte) (l : List Byte) : unslip false got (slipByte b ++ l) = unslip false (b :: got) l := by
  unfold slipByte
  split_ifs with hend hesc
  · subst hend
    simp [unslip]
  · subst hesc
    simp [unslip]
  · show (if b = 0xC0 then _ else if false = true then _ else if b = 0xDB then _ else unslip false (b :: got) l) = _
    rw [if_neg hend, if_neg Bool.false_ne_true, if_neg hesc]

theorem unslip_slipBytes (p got l : List Byte) :
    unslip false got ((p.map slipByte).flatten ++ l) = unslip false (p.reverse ++ got) l := by
  induction p generalizing got with
  | nil => rfl
  | cons b p ih =>
    rw [List.map_cons, List.flatten_cons, List.append_assoc, unslip_slipByte, ih, List.reverse_cons, List.append_assoc]
    rfl

theorem unslip_slip {p : List Byte} (h : p ≠ []) : unslip false [] (slip p) = [p] := by
  have hbytes := unslip_slipBytes p [] [0xC0]
  have hend : unslip false (p.reverse ++ []) [0xC0] = [p] := by
    have hne : p.reverse.isEmpty = false := by simpa using h
    simp [unslip, hne]
  unfold slip
  rw [List.append_assoc]
  exact hbytes.trans hend

/-! ### A frame that is not received -/

theorem frameReceive_run (hx : x < 2) (hu : (s.port x).up = true) :
    exec (.frameReceive x bytes fcsOk tagOk) s = finish s (frameIn s x bytes fcsOk tagOk) := by
  show finish s _ = _
  rw [if_neg (by omega), if_pos ⟨hu, hx⟩]

theorem frameReceive_ignored (h : 2 < x ∨ (x < 2 ∧ (s.port x).up = false) ∨ (x = 2 ∧ s.exvanServed = false)) :
    ∃ t, exec (.frameReceive x bytes fcsOk tagOk) s = .next t ∧ Frame [.ex] s t := by
  have hrun : exec (.frameReceive x bytes fcsOk tagOk) s = finish s s := by
    show finish s _ = _
    congr 1
    rcases h with hx | ⟨hx, hu⟩ | ⟨hx, he⟩
    · rw [if_neg (by omega), if_neg fun h => by omega]
    · rw [if_neg (by omega), if_neg fun h => by rw [hu] at h; exact Bool.false_ne_true h.1]
    · rw [if_pos hx, he, if_neg Bool.false_ne_true]
  exact ⟨_, hrun, frame_sealed (.refl s) (by decide)⟩

/-! ### A frame that the Exvan engine rejects -/

/-- The counters of frames rejected (Table 16.4) and of retries, and what an event changes. -/
def exvanObjs : List Nat :=
  [Obj.AUTH_FAILS, Obj.REPLAY_DROPS, Obj.FORMAT_DROPS, Obj.DEST_DROPS, Obj.SESSION_DROPS, Obj.RETRIES_SERVED, Obj.RING_DROPPED]

theorem ObjsOnly.inc64 {l : List Nat} {a b n : Nat} (ha : a ∈ l) (h : ObjsOnly l s t) : ObjsOnly l s (t.inc64 a b n) := h.setObjN ha

theorem rejectFrame_objs (s : State) (counter check : Nat) (h : counter ∈ exvanObjs) : ObjsOnly exvanObjs s (rejectFrame s counter check) := by
  unfold rejectFrame
  exact .ite (.raiseA (by decide) (.set_ex (.inc64 h (.refl s)))) (.set_ex (.inc64 h (.refl s)))

/-- A rejected frame is counted, and an event may tell of it. -/
theorem rejectFrame_cases (s : State) (counter check : Nat) : ∃ (e : Exvan) (d : List EvItem), e.out = s.ex.out ∧
    (rejectFrame s counter check = raiseA { s.inc64 counter 0 with ex := e } 0x9003 d ∨ rejectFrame s counter check = { s.inc64 counter 0 with ex := e }) := by
  unfold rejectFrame
  extract_lets u n due
  have hout : u.ex.out = s.ex.out := rfl
  clear_value u due n
  cases due with
  | true => exact ⟨{ u.ex with rejected := [], rejectedAt := some u.tick }, _, hout, .inl (if_pos rfl)⟩
  | false => exact ⟨{ u.ex with rejected := mset u.ex.rejected check n }, [], hout, .inr (if_neg Bool.false_ne_true)⟩

theorem rejectFrame_counts {counter : Nat} (check : Nat) (h : counter ≠ Obj.RING_DROPPED) :
    (rejectFrame s counter check).objN counter 0 = (s.objN counter 0 + 1) % 2 ^ 64 := by
  have hinc := objN_inc64_self s counter 0 1
  obtain ⟨e, d, -, hr | hr⟩ := rejectFrame_cases s counter check
  · rw [hr]
    exact (congrArg Int.toNat (raiseA_obj h _ _ _)).trans hinc
  · rw [hr]
    exact hinc

theorem rejectFrame_out (s : State) (counter check : Nat) : (rejectFrame s counter check).ex.out = s.ex.out := by
  obtain ⟨e, d, he, hr | hr⟩ := rejectFrame_cases s counter check
  · rw [hr]
    exact (raise_told _ _ _ _).out.trans he
  · rw [hr]
    exact he

theorem uart_rejects {p : List Byte} (hp : p ≠ []) (hr : s.recovery = true) (hf : frameFormatOk p = false) :
    ∃ t, exec (.frameReceive 2 (slip p) fcsOk tagOk) s = .next t ∧
      t.objN Obj.FORMAT_DROPS 0 = (s.objN Obj.FORMAT_DROPS 0 + 1) % 2 ^ 64 ∧ t.ex.out = s.ex.out := by
  have hserved : s.exvanServed = true := by
    unfold State.exvanServed
    rw [hr]
    rfl
  have hframe : uartFrame s tagOk p = rejectFrame s Obj.FORMAT_DROPS 1 := by
    unfold uartFrame
    rw [if_pos hr]
    show (if (!frameFormatOk p) = true then _ else _) = _
    rw [hf]
    rfl
  have hrun : exec (.frameReceive 2 (slip p) fcsOk tagOk) s = finish s (rejectFrame s Obj.FORMAT_DROPS 1) := by
    rw [← hframe]
    show finish s _ = _
    rw [if_pos rfl, if_pos hserved, unslip_slip hp]
    rfl
  have hcount := rejectFrame_counts (s := s) (counter := Obj.FORMAT_DROPS) 1 (by decide)
  have hout := rejectFrame_out s Obj.FORMAT_DROPS 1
  generalize rejectFrame s Obj.FORMAT_DROPS 1 = w at hrun hcount hout
  exact ⟨_, hrun, hcount, hout⟩

end

end Sys2Proof.Proofs

/-!
SUPPORT. A frame received on a port: its MAC checks, its checksums, its pass through the active bank and the hold (R376, R379, R386, R397).
-/

namespace Sys2Proof.Proofs

open Sys2Proof Sys2Proof.Machine Sys2Proof.Laws

section

variable {s t u : State} {x c : Nat} {bytes nd : List Byte} {fcsOk tagOk : Bool} {f : RxFrame}

/-! ### The mode boundary of classification -/

/-- No deadline of a held frame noted as missed. -/
def noMiss (s : State) : State := { s with net := { s.net with heldMissed := false } }

theorem classBoundary_idle (hp : (s.func 8).pending = none) (hl : s.heldLate = false) :
    classBoundary s = if s.hostMode 8 = true then noMiss s else classifyHeld (noMiss s) := by
  have hmode : atModeBoundary s 8 = s := by
    unfold atModeBoundary
    dsimp only
    rw [hp]
  unfold classBoundary
  rw [hl, if_neg Bool.false_ne_true, hmode]
  rfl

theorem classBoundary_hardware (hp : (s.func 8).pending = none) (hm : s.hostMode 8 = false) (hh : s.net.held = []) :
    classBoundary s = (noMiss s).keepHeld [] := by
  have hl : s.heldLate = false := by
    unfold State.heldLate
    rw [hm]
    rfl
  rw [classBoundary_idle hp hl, hm, if_neg Bool.false_ne_true]
  unfold classifyHeld
  rw [show (noMiss s).net.held = [] from hh]
  rfl

/-! ### The MAC checks -/

/-- The counters of the MAC checks (Table 13.1). -/
def macCounters : List Nat :=
  [Obj.RX_RUNT, Obj.RX_OVERSIZE, Obj.RX_FCS_ERRORS, Obj.RX_PAUSE, Obj.RX_ADDR_FILTERED, Obj.RX_VLAN_FILTERED]

theorem macCheck_counter (h : macCheck s x bytes fcsOk = some c) : c ∈ macCounters := by
  unfold macCheck at h
  dsimp only at h
  split_ifs at h <;> cases h <;> decide

theorem macCheck_keepHeld (s : State) (l : List HeldFrame) :
    macCheck ((noMiss s).keepHeld l) x bytes fcsOk = macCheck s x bytes fcsOk := rfl

theorem macCheck_noMiss (s : State) : macCheck (noMiss s) x bytes fcsOk = macCheck s x bytes fcsOk := rfl

/-- A frame that passes the MAC checks, counted. -/
def rxCounted (s : State) (x : Nat) (bytes : List Byte) : State := (s.inc64 Obj.RX_FRAMES x).inc64 Obj.RX_BYTES x (bytes.length + 4)

theorem rxCounted_objs (s : State) (x : Nat) (bytes : List Byte) : ObjsOnly [Obj.RX_FRAMES, Obj.RX_BYTES] s (rxCounted s x bytes) :=
  .inc64 (by decide) (.inc64 (by decide) (.refl s))

theorem rxCounted_counts (s : State) (x : Nat) (bytes : List Byte) :
    (rxCounted s x bytes).objN Obj.RX_FRAMES x = (s.objN Obj.RX_FRAMES x + 1) % 2 ^ 64 ∧
      (rxCounted s x bytes).objN Obj.RX_BYTES x = (s.objN Obj.RX_BYTES x + (bytes.length + 4)) % 2 ^ 64 := by
  constructor
  · exact (objN_inc64_addr _ (by decide)).trans (objN_inc64_self s Obj.RX_FRAMES x 1)
  · refine (objN_inc64_self _ Obj.RX_BYTES x _).trans ?_
    rw [objN_inc64_addr 1 (by decide)]

/-! ### The key and the stamp of a frame -/

theorem ownAddrs_of (ho : t.octs = s.octs) (hm : t.obj Obj.PORT_MODE 0 = s.obj Obj.PORT_MODE 0)
    (ha : ∀ a, t.obj Obj.IPV4_ADDR a = s.obj Obj.IPV4_ADDR a) (a : Nat) : t.ownAddrs a = s.ownAddrs a := by
  unfold State.ownAddrs State.ipv6Own State.portsOf State.objN State.oct
  rw [ho, hm, ha]

theorem keyOf_of (ho : t.octs = s.octs) (hm : t.obj Obj.PORT_MODE 0 = s.obj Obj.PORT_MODE 0)
    (ha : ∀ a, t.obj Obj.IPV4_ADDR a = s.obj Obj.IPV4_ADDR a) : keyOf t x bytes = keyOf s x bytes := by
  have haddrs := ownAddrs_of ho hm ha
  have hset : t.setOf x = s.setOf x := by
    unfold State.setOf
    rw [hm]
  have hgroups : t.groups = s.groups := by
    unfold State.groups State.oct
    rw [ho]
  have hoct (a b : Nat) : t.oct a b = s.oct a b := by
    unfold State.oct
    rw [ho]
  unfold keyOf keyFlags
  simp only [haddrs, hset, hgroups, hoct]

theorem rxStamp_of (hn : t.now = s.now) (hf : t.obj Obj.FEC_MODE x = s.obj Obj.FEC_MODE x)
    (hl : t.obj Obj.TS_RX_LATENCY x = s.obj Obj.TS_RX_LATENCY x) : t.rxStamp x = s.rxStamp x := by
  unfold State.rxStamp State.atMdi State.latency
  simp only [hn, hf, hl, Bool.false_eq_true, ↓reduceIte]

/-- The frame as it enters classification. -/
def rxFrame (s : State) (x : Nat) (bytes : List Byte) (tagOk : Bool) : RxFrame :=
  { port := x, stamp := s.rxStamp x, bytes, tagOk, key := keyOf s x bytes }

theorem rxFrame_counted (s : State) : rxFrame (rxCounted s x bytes) x bytes tagOk = rxFrame s x bytes tagOk := by
  have hobjs := rxCounted_objs s x bytes
  unfold rxFrame
  rw [rxStamp_of (s := s) (t := rxCounted s x bytes) rfl (hobjs _ _ (by decide)) (hobjs _ _ (by decide)),
    keyOf_of (s := s) (t := rxCounted s x bytes) rfl (hobjs _ _ (by decide)) (fun a => hobjs _ a (by decide))]

theorem frameIn_passes (h : macCheck (classBoundary s) x bytes fcsOk = none) :
    frameIn s x bytes fcsOk tagOk = classify (rxCounted (classBoundary s) x bytes) (rxFrame (classBoundary s) x bytes tagOk) := by
  have hf := rxFrame_counted (tagOk := tagOk) (x := x) (bytes := bytes) (classBoundary s)
  unfold frameIn
  dsimp only
  rw [h, ← hf]
  rfl

theorem frameIn_counted (h : macCheck (classBoundary s) x bytes fcsOk = some c) :
    frameIn s x bytes fcsOk tagOk = (classBoundary s).inc64 c x := by
  unfold frameIn
  dsimp only
  rw [h]

/-! ### Frames counted and dropped -/

theorem frameReceive_macDrop (hx : x < 2) (hu : (s.port x).up = true) (hp : (s.func 8).pending = none) (hm : s.hostMode 8 = false)
    (hh : s.net.held = []) (hc : macCheck s x bytes fcsOk = some c) :
    ∃ t, exec (.frameReceive x bytes fcsOk tagOk) s = .next t ∧ t.objN c x = (s.objN c x + 1) % 2 ^ 64 ∧
      t.obj Obj.RX_FRAMES x = s.obj Obj.RX_FRAMES x ∧ t.net.ptpIn = s.net.ptpIn ∧ t.net.exvanIn = s.net.exvanIn := by
  have hb := classBoundary_hardware hp hm hh
  have hne : Obj.RX_FRAMES ≠ c := fun e => by
    have := macCheck_counter hc
    rw [← e] at this
    exact absurd this (by decide)
  have hin : frameIn s x bytes fcsOk tagOk = ((noMiss s).keepHeld []).inc64 c x := by
    rw [frameIn_counted (c := c) (by rw [hb, macCheck_keepHeld, hc]), hb]
  refine ⟨_, (frameReceive_run hx hu).trans (congrArg (finish s) hin), ?_⟩
  exact ⟨objN_inc64_self ((noMiss s).keepHeld []) c x 1, obj_inc64_addr 1 hne, rfl, rfl⟩

theorem frameReceive_checksumDrop (hx : x < 2) (hu : (s.port x).up = true) (hp : (s.func 8).pending = none) (hm : s.hostMode 8 = false)
    (hh : s.net.held = []) (hc : macCheck s x bytes fcsOk = none) (hs : checksumBad bytes = true) :
    ∃ t, exec (.frameReceive x bytes fcsOk tagOk) s = .next t ∧
      t.objN Obj.RX_FRAMES x = (s.objN Obj.RX_FRAMES x + 1) % 2 ^ 64 ∧
      t.objN Obj.RX_BYTES x = (s.objN Obj.RX_BYTES x + (bytes.length + 4)) % 2 ^ 64 ∧
      t.objN Obj.RX_CHECKSUM_BAD x = (s.objN Obj.RX_CHECKSUM_BAD x + 1) % 2 ^ 64 ∧ t.net.ptpIn = s.net.ptpIn ∧
      t.net.exvanIn = s.net.exvanIn := by
  have hb := classBoundary_hardware hp hm hh
  obtain ⟨hframes, hbytes⟩ := rxCounted_counts ((noMiss s).keepHeld []) x bytes
  have hbad := objN_inc64_self (rxCounted ((noMiss s).keepHeld []) x bytes) Obj.RX_CHECKSUM_BAD x 1
  have hkept : (rxCounted ((noMiss s).keepHeld []) x bytes).objN Obj.RX_CHECKSUM_BAD x = s.objN Obj.RX_CHECKSUM_BAD x :=
    congrArg Int.toNat (rxCounted_objs ((noMiss s).keepHeld []) x bytes Obj.RX_CHECKSUM_BAD x (by decide))
  have hin : frameIn s x bytes fcsOk tagOk = (rxCounted ((noMiss s).keepHeld []) x bytes).inc64 Obj.RX_CHECKSUM_BAD x := by
    rw [frameIn_passes (by rw [hb, macCheck_keepHeld, hc]), hb]
    exact if_pos hs
  refine ⟨_, (frameReceive_run hx hu).trans (congrArg (finish s) hin), ?_⟩
  · rw [hkept] at hbad
    exact ⟨(objN_inc64_addr 1 (by decide)).trans hframes, (objN_inc64_addr 1 (by decide)).trans hbytes, hbad, rfl, rfl⟩

/-! ### Leaves -/

/-- A leaf's counters after a frame. -/
def leafCounted (s : State) (f : RxFrame) (nd : List Byte) : State :=
  (s.inc64 Obj.LEAF_FRAMES (le nd 4 2)).inc64 Obj.LEAF_BYTES (le nd 4 2) (f.bytes.length + 4)

theorem leafCounted_counts (s : State) (f : RxFrame) (nd : List Byte) :
    (leafCounted s f nd).objN Obj.LEAF_FRAMES (le nd 4 2) = (s.objN Obj.LEAF_FRAMES (le nd 4 2) + 1) % 2 ^ 64 ∧
      (leafCounted s f nd).objN Obj.LEAF_BYTES (le nd 4 2) = (s.objN Obj.LEAF_BYTES (le nd 4 2) + (f.bytes.length + 4)) % 2 ^ 64 := by
  constructor
  · exact (objN_inc64_addr _ (by decide)).trans (objN_inc64_self s Obj.LEAF_FRAMES _ 1)
  · refine (objN_inc64_self _ Obj.LEAF_BYTES _ _).trans ?_
    rw [objN_inc64_addr 1 (by decide)]

/-- What a leaf that drops a frame, or hands it to the time subsystem, leaves: no policer, no copy, no guarded frame. -/
theorem actLeaf_ends {second : Bool} (hg : guardKey f.key = false) (ha : le nd 1 1 = 0 ∨ le nd 1 1 = 2) (hp : le nd 3 1 = 0xFF)
    (hs : le nd 6 1 = 0) :
    actLeaf s f second nd = if le nd 1 1 = 2 then toPtp (leafCounted s f nd) f else leafCounted s f nd := by
  unfold actLeaf endPass
  dsimp only
  rw [if_neg (show ¬ le nd 6 1 = 1 by omega), if_neg (by rw [hg]; simp), if_neg (show ¬ le nd 1 1 = 4 by omega), if_pos hp]
  rcases ha with ha | ha
  · rw [ha]
    rfl
  · rw [ha]
    rfl

theorem ptpIn_if {p : Prop} [Decidable p] (s : State) (f : RxFrame) :
    (if p then toPtp s f else s).net.ptpIn = if p then f :: s.net.ptpIn else s.net.ptpIn := by
  split <;> rfl

theorem objN_ptp_if {p : Prop} [Decidable p] (s : State) (f : RxFrame) (a i : Nat) :
    (if p then toPtp s f else s).objN a i = s.objN a i := by
  split <;> rfl

theorem frameReceive_walks (hx : x < 2) (hu : (s.port x).up = true) (hp : (s.func 8).pending = none) (hm : s.hostMode 8 = false)
    (hh : s.net.held = []) (hc : macCheck s x bytes fcsOk = none) (hs : checksumBad bytes = false) (ho : parseOutcome bytes = none)
    (hg : guardKey (keyOf s x bytes) = false)
    (hf : f = { port := x, stamp := s.rxStamp x, bytes, tagOk, key := keyOf s x bytes, gen := s.objN Obj.RULES_GEN 0 })
    (hn : nd = walk s.net.rules.bank f.key 33 0) (ha : le nd 1 1 = 0 ∨ le nd 1 1 = 2) (h3 : le nd 3 1 = 0xFF) (h6 : le nd 6 1 = 0) :
    ∃ t, exec (.frameReceive x bytes fcsOk tagOk) s = .next t ∧
      t.objN Obj.LEAF_FRAMES (le nd 4 2) = (s.objN Obj.LEAF_FRAMES (le nd 4 2) + 1) % 2 ^ 64 ∧
      t.objN Obj.LEAF_BYTES (le nd 4 2) = (s.objN Obj.LEAF_BYTES (le nd 4 2) + (bytes.length + 4)) % 2 ^ 64 ∧
      t.net.ptpIn = (if le nd 1 1 = 2 then f :: s.net.ptpIn else s.net.ptpIn) := by
  have hb := classBoundary_hardware hp hm hh
  have hobjs := rxCounted_objs ((noMiss s).keepHeld []) x bytes
  have hfirst : classify (rxCounted ((noMiss s).keepHeld []) x bytes) (rxFrame ((noMiss s).keepHeld []) x bytes tagOk) =
      actLeaf (rxCounted ((noMiss s).keepHeld []) x bytes) f false nd := by
    have hgen : (rxCounted ((noMiss s).keepHeld []) x bytes).objN Obj.RULES_GEN 0 = s.objN Obj.RULES_GEN 0 :=
      congrArg Int.toNat (hobjs _ _ (by decide))
    have hclass : classify (rxCounted ((noMiss s).keepHeld []) x bytes) (rxFrame ((noMiss s).keepHeld []) x bytes tagOk) =
        firstPass (rxCounted ((noMiss s).keepHeld []) x bytes) (rxFrame ((noMiss s).keepHeld []) x bytes tagOk) := by
      unfold classify
      rw [if_neg (by rw [show (rxFrame ((noMiss s).keepHeld []) x bytes tagOk).bytes = bytes from rfl, hs]; exact Bool.false_ne_true)]
      rw [show parseOutcome (rxFrame ((noMiss s).keepHeld []) x bytes tagOk).bytes = none from ho]
      exact if_neg (show ¬ s.hostMode 8 = true by rw [hm]; exact Bool.false_ne_true)
    rw [hclass, hn, hf]
    unfold firstPass
    rw [hgen]
    rfl
  have hends := actLeaf_ends (s := rxCounted ((noMiss s).keepHeld []) x bytes) (second := false) (f := f) (by rw [hf]; exact hg) ha h3 h6
  obtain ⟨hframes, hbytes⟩ := leafCounted_counts (rxCounted ((noMiss s).keepHeld []) x bytes) f nd
  have hlen : f.bytes.length = bytes.length := by rw [hf]
  have hkept (a : Nat) (h : a ∉ [Obj.RX_FRAMES, Obj.RX_BYTES]) :
      (rxCounted ((noMiss s).keepHeld []) x bytes).objN a (le nd 4 2) = s.objN a (le nd 4 2) := congrArg Int.toNat (hobjs a _ h)
  have hptp : (leafCounted (rxCounted ((noMiss s).keepHeld []) x bytes) f nd).net.ptpIn = s.net.ptpIn := rfl
  rw [hkept _ (by decide)] at hframes hbytes
  rw [hlen] at hbytes
  have hin : frameIn s x bytes fcsOk tagOk = actLeaf (rxCounted ((noMiss s).keepHeld []) x bytes) f false nd := by
    rw [frameIn_passes (by rw [hb, macCheck_keepHeld, hc]), hb]
    exact hfirst
  refine ⟨_, (frameReceive_run hx hu).trans (congrArg (finish s) hin), ?_⟩
  · rw [hends]
    generalize leafCounted (rxCounted ((noMiss s).keepHeld []) x bytes) f nd = w at hframes hbytes hptp
    have hptps := ptpIn_if (p := le nd 1 1 = 2) w f
    have hobj := objN_ptp_if (p := le nd 1 1 = 2) w f
    generalize (if le nd 1 1 = 2 then toPtp w f else w) = v at hptps hobj
    refine ⟨(hobj _ _).trans hframes, (hobj _ _).trans hbytes, ?_⟩
    rw [← hptp]
    exact hptps

/-! ### The hold -/

theorem holdFrame_holds (h : s.net.held.length < 256) : ∃ k, (holdFrame s f).net.held = s.net.held ++ [k] ∧ k.seq = s.net.heldSeq ∧
    k.frame = f ∧ k.due = s.tick + s.objN Obj.CLASS_HOST_DEADLINE 0 * 625 / 4 := by
  refine ⟨{ seq := s.net.heldSeq, frame := f, due := s.tick + s.objN Obj.CLASS_HOST_DEADLINE 0 * 625 / 4 }, ?_, rfl, rfl, rfl⟩
  unfold holdFrame
  rw [if_pos h]
  extract_lets seq due first n v
  have hv : v.net.held = s.net.held ++ [{ seq := s.net.heldSeq, frame := f, due := s.tick + s.objN Obj.CLASS_HOST_DEADLINE 0 * 625 / 4 }] := rfl
  clear_value v n first due seq
  split
  · exact (congrArg Network.held ((raiseS_frame v _ _).net rfl)).trans hv
  · exact hv

theorem frameReceive_held (hx : x < 2) (hu : (s.port x).up = true) (hp : (s.func 8).pending = none) (hm : s.hostMode 8 = true)
    (hl : s.heldLate = false) (hh : s.net.held.length < 256) (hc : macCheck s x bytes fcsOk = none) (hs : checksumBad bytes = false)
    (ho : parseOutcome bytes = none) (hg : guardKey (keyOf s x bytes) = false) :
    ∃ t, exec (.frameReceive x bytes fcsOk tagOk) s = .next t ∧ ∃ h, t.net.held = s.net.held ++ [h] ∧ h.seq = s.net.heldSeq ∧
      h.frame.bytes = bytes ∧ h.due = s.tick + s.objN Obj.CLASS_HOST_DEADLINE 0 * 625 / 4 := by
  have hb := classBoundary_idle hp hl
  rw [if_pos hm] at hb
  have hdeadline : (rxCounted (noMiss s) x bytes).objN Obj.CLASS_HOST_DEADLINE 0 = s.objN Obj.CLASS_HOST_DEADLINE 0 :=
    congrArg Int.toNat (rxCounted_objs (noMiss s) x bytes _ _ (by decide))
  have hclass : classify (rxCounted (noMiss s) x bytes) (rxFrame (noMiss s) x bytes tagOk) =
      holdFrame (rxCounted (noMiss s) x bytes) (rxFrame (noMiss s) x bytes tagOk) := by
    unfold classify
    rw [if_neg (by rw [show (rxFrame (noMiss s) x bytes tagOk).bytes = bytes from rfl, hs]; exact Bool.false_ne_true)]
    rw [show parseOutcome (rxFrame (noMiss s) x bytes tagOk).bytes = none from ho]
    refine (if_pos (show s.hostMode 8 = true from hm)).trans (if_neg ?_)
    rw [show guardKey (rxFrame (noMiss s) x bytes tagOk).key = false from hg]
    exact Bool.false_ne_true
  obtain ⟨k, hheld, hseq, hframe, hdue⟩ := holdFrame_holds (s := rxCounted (noMiss s) x bytes) (f := rxFrame (noMiss s) x bytes tagOk) hh
  rw [hdeadline] at hdue
  have hin : frameIn s x bytes fcsOk tagOk = holdFrame (rxCounted (noMiss s) x bytes) (rxFrame (noMiss s) x bytes tagOk) := by
    rw [frameIn_passes (by rw [hb, macCheck_noMiss, hc]), hb]
    exact hclass
  refine ⟨_, (frameReceive_run hx hu).trans (congrArg (finish s) hin), ?_⟩
  · generalize holdFrame (rxCounted (noMiss s) x bytes) (rxFrame (noMiss s) x bytes tagOk) = w at hheld
    exact ⟨k, hheld, hseq, congrArg RxFrame.bytes hframe, hdue⟩

/-! ### The second pass -/

theorem recirculationPass_ends {rest : List RxFrame} (hr : s.net.recirc = f :: rest) (hn : s.net.rules.retaining = none)
    (hg : guardKey f.key = false)
    (hd : nd = walk (if f.gen = s.objN Obj.RULES_GEN 0 then s.net.rules.bank else s.net.rules.shadow) f.key 33 f.next)
    (ha : le nd 1 1 = 0 ∨ le nd 1 1 = 2) (h3 : le nd 3 1 = 0xFF) (h6 : le nd 6 1 = 0) :
    ∃ t, exec .recirculationPass s = .next t ∧ t.net.recirc = rest ∧
      t.objN Obj.RECIRCULATED 0 = (s.objN Obj.RECIRCULATED 0 + 1) % 2 ^ 64 ∧
      t.objN Obj.LEAF_FRAMES (le nd 4 2) = (s.objN Obj.LEAF_FRAMES (le nd 4 2) + 1) % 2 ^ 64 ∧
      t.net.ptpIn = (if le nd 1 1 = 2 then f :: s.net.ptpIn else s.net.ptpIn) := by
  let v : State := ({ s with net := { s.net with recirc := rest } }).inc64 Obj.RECIRCULATED 0
  have hlate : s.retainLate = false := by
    unfold State.retainLate
    rw [hn]
  have hpass : secondPass s = if le nd 1 1 = 2 then toPtp (leafCounted v f nd) f else leafCounted v f nd := by
    rw [← actLeaf_ends (s := v) (second := true) hg ha h3 h6, hd]
    unfold secondPass
    rw [hr]
    rfl
  have hrun : exec .recirculationPass s = finish s (retainEnd (secondPass s)) := by
    show finish s _ = _
    rw [hlate, if_neg Bool.false_ne_true]
  have hrecirc : (leafCounted v f nd).net.recirc = rest := rfl
  have hptp : (leafCounted v f nd).net.ptpIn = s.net.ptpIn := rfl
  have hret : (leafCounted v f nd).net.rules.retaining = none := hn
  have hcount : (leafCounted v f nd).objN Obj.RECIRCULATED 0 = (s.objN Obj.RECIRCULATED 0 + 1) % 2 ^ 64 :=
    ((objN_inc64_addr _ (by decide)).trans (objN_inc64_addr _ (by decide))).trans
      (objN_inc64_self { s with net := { s.net with recirc := rest } } Obj.RECIRCULATED 0 1)
  obtain ⟨hframes, -⟩ := leafCounted_counts v f nd
  have hkept : v.objN Obj.LEAF_FRAMES (le nd 4 2) = s.objN Obj.LEAF_FRAMES (le nd 4 2) := objN_inc64_addr 1 (by decide)
  rw [hkept] at hframes
  rw [hpass] at hrun
  generalize leafCounted v f nd = w at hrun hrecirc hptp hret hcount hframes
  have hidle : retainEnd (if le nd 1 1 = 2 then toPtp w f else w) = if le nd 1 1 = 2 then toPtp w f else w := by
    unfold retainEnd
    have hnone : (if le nd 1 1 = 2 then toPtp w f else w).net.rules.retaining = none := by
      split
      · exact hret
      · exact hret
    rw [hnone]
  rw [hidle] at hrun
  have hptps := ptpIn_if (p := le nd 1 1 = 2) w f
  have hobj := objN_ptp_if (p := le nd 1 1 = 2) w f
  have hrec : (if le nd 1 1 = 2 then toPtp w f else w).net.recirc = rest := by
    split
    · exact hrecirc
    · exact hrecirc
  generalize (if le nd 1 1 = 2 then toPtp w f else w) = z at hrun hptps hobj hrec
  rw [hptp] at hptps
  exact ⟨_, hrun, hrec, (hobj _ _).trans hcount, (hobj _ _).trans hframes, hptps⟩

end

end Sys2Proof.Proofs

/-!
SUPPORT. What serving the receive classes and the slow path leaves of the network's record and of the objects (R390, R396), and the slow path's
policers (R395).
-/

namespace Sys2Proof.Proofs

open Sys2Proof Sys2Proof.Machine Sys2Proof.Laws

/-- From the first state to the second the network's record changes in the frames taken in or sent out, and in what neighbours have told, alone. -/
def Served (s t : State) : Prop :=
  t.net = { s.net with exvanIn := t.net.exvanIn, toSend := t.net.toSend, neighbours := t.net.neighbours, routers := t.net.routers,
                       unreachables := t.net.unreachables, classes := t.net.classes, slow := t.net.slow }

section

variable {s t u : State} {f : RxFrame} {l : List Nat}

theorem Served.refl (s : State) : Served s s := rfl

theorem Served.trans (h : Served s t) (k : Served t u) : Served s u := by
  unfold Served at *
  rw [k, h]

theorem Served.step (k : Served t u) (h : Served s t) : Served s u := h.trans k

theorem Served.frame {m : List Comp} (k : Frame m t u) (hm : m.contains .net = false) (h : Served s t) : Served s u := by
  refine h.trans ?_
  unfold Served
  rw [k.net hm]

theorem Served.ite {p : Prop} [Decidable p] (h : Served s t) (k : Served s u) : Served s (if p then t else u) := by
  split <;> assumption

theorem Served.foldl {β : Type} {g : State → β → State} {q : List β} (hg : ∀ s b, Served s (g s b)) (h : Served s t) :
    Served s (q.foldl g t) := by
  induction q generalizing t with
  | nil => exact h
  | cons b q ih => exact ih (h.trans (hg t b))

/-! ### The Exvan engine -/

theorem rejectFrame_served (s : State) (counter check : Nat) : Served s (rejectFrame s counter check) :=
  .frame (rejectFrame_frame s counter check) (by decide) (.refl s)

theorem takenIn_served (s : State) (f : RxFrame) : Served s { s with net := { s.net with exvanIn := f :: s.net.exvanIn } } := rfl

theorem receiveSession_served (s : State) (f : RxFrame) (p : List Byte) (i : Nat) (x : Session) : Served s (receiveSession s f p i x) := by
  unfold receiveSession
  refine .ite (rejectFrame_served _ _ _) (.ite (rejectFrame_served _ _ _) (.ite (rejectFrame_served _ _ _) ?_))
  split
  extract_lets o y v n w
  have hv : Served s v := .frame (State.setSession_frame s i y) (by decide) (.refl s)
  have hw : Served v w := .frame (answerMalformed_frame _ _ _) (by decide) (takenIn_served v f)
  exact .ite (.frame (closeSession_frame w _ _) (by decide) (hv.trans hw)) (hv.trans hw)

theorem receiveGroup_served (s : State) (f : RxFrame) (p : List Byte) : Served s (receiveGroup s f p) := by
  unfold receiveGroup
  refine .ite (rejectFrame_served _ _ _) (.ite (rejectFrame_served _ _ _) (.ite (rejectFrame_served _ _ _) ?_))
  split
  extract_lets v n
  have hv : Served s v := .frame (State.setGroupWin_frame s _) (by decide) (.refl s)
  exact .frame (answerMalformed_frame _ _ _) (by decide) (hv.trans (takenIn_served v f))

theorem receiveOpen_served (s : State) (f : RxFrame) (p : List Byte) : Served s (receiveOpen s f p) :=
  .ite (rejectFrame_served _ _ _) (.ite (rejectFrame_served _ _ _)
    (.ite (takenIn_served s f) (.frame (openAnswer_frame _ _ _ _ _ _) (by decide) (takenIn_served s f))))

theorem exvanReceive_served (s : State) (f : RxFrame) : Served s (exvanReceive s f) := by
  unfold exvanReceive
  refine .ite (rejectFrame_served _ _ _) (.ite (rejectFrame_served _ _ _) (.ite (.ite (receiveOpen_served _ _ _) (rejectFrame_served _ _ _))
    (.ite (.ite (receiveGroup_served _ _ _) (rejectFrame_served _ _ _)) ?_)))
  split
  · exact .ite (receiveSession_served _ _ _ _ _) (rejectFrame_served _ _ _)
  · exact rejectFrame_served _ _ _

/-! ### The management cores -/

theorem sendOwn_served (s : State) (a : Nat) (b : List Byte) : Served s (sendOwn s a b) := .ite (.refl s) rfl

theorem sendReports_served (s : State) (a kind : Nat) (groups : List (List Byte)) : Served s (sendReports s a kind groups) :=
  (sendOwn_served _ _ _).trans (sendOwn_served _ _ _)

theorem heedAdvert_served (s : State) (a : Nat) (h : Headers) (m src asker : List Byte) : Served s (heedAdvert s a h m src asker) :=
  .ite (.refl s) (.ite rfl (.ite rfl (.refl s)))

theorem answerFrame_served (s : State) (f : RxFrame) : Served s (answerFrame s f) := by
  unfold answerFrame
  extract_lets h a asker count m m'
  split
  have hcount : Served s (count s) := rfl
  refine .ite (.ite rfl (sendOwn_served _ _ _)) (.ite (sendOwn_served _ _ _) (.ite (.ite hcount (sendOwn_served _ _ _)) (.ite ?_ (.ite ?_ (.refl s)))))
  · exact .ite (sendOwn_served _ _ _) (.refl s)
  · exact .ite hcount (.ite (sendOwn_served _ _ _) ((heedAdvert_served _ _ _ _ _ _).trans (sendOwn_served _ _ _)))

theorem takeSlow_served (s : State) (e : Nat × Nat × RxFrame) : Served s (takeSlow s e) :=
  have hinc : Served s (s.inc64 Obj.SLOW_FRAMES e.1) := .frame (State.inc64_frame _ _ _ _) (by decide) (.refl s)
  .ite (hinc.trans (answerFrame_served _ _)) hinc

theorem serveClass_served (exvan : SMap (List RxFrame)) (slow : List (Nat × Nat × RxFrame)) (s : State) (c : Nat) :
    Served s (serveClass exvan slow s c) := .foldl takeSlow_served (.foldl exvanReceive_served (.refl s))

theorem serveClasses_served (s : State) : Served s (serveClasses s) := by
  unfold serveClasses
  split
  · exact .refl s
  · exact .foldl (serveClass_served _ _) rfl

/-! ### The objects -/

theorem ObjsOnly.events (k : ObjsOnly eventObjs t u) (h : ObjsOnly exvanObjs s t) : ObjsOnly exvanObjs s u := .step k (by decide) h

theorem answerFrom_exvan (k : Nat) (c : Bool) (s : State) (sess req addr sel : Nat) (r : Reply) :
    ObjsOnly exvanObjs s (answerFrom k c s sess req addr sel r) := .kept (answerFrom_objs k c s sess req addr sel r) (by decide) (.refl s)

theorem dropSession_objs (s : State) : ObjsOnly exvanObjs s (dropSession s) := .ite (.refl s) (rejectFrame_objs s _ _ (by decide))

theorem request_objs {sess req : Nat} {lane : Lane} {c : Instr} {carry : State → Nat → State} (hc : ∀ s n, ObjsOnly exvanObjs s (carry s n))
    (s : State) : ObjsOnly exvanObjs s (request s sess req lane c carry) := by
  have hset (t : State) (i : Nat) (x : Session) : ObjsOnly exvanObjs t (t.setSession i x) := .frame (State.setSession_frame t i x) (by decide) (.refl t)
  unfold request
  split
  · exact .ite (.ite (.set_ex (.refl s)) (hc _ _)) (dropSession_objs s)
  · next i x _ =>
    extract_lets y v last known
    have hv : ObjsOnly exvanObjs s v := hset s i y
    have hlast (t : State) (h : ObjsOnly exvanObjs s t) : ObjsOnly exvanObjs s (last t) := .ite (.events (closeIfSpent_objs t sess) h) h
    split
    · exact hlast _ (.inc64 (by decide) (hv.trans (answerFrom_exvan _ _ _ _ _ _ _ _)))
    · exact .ite hv (.ite (hlast _ (hv.trans (hc _ _))) (.ite (.ite (hv.trans (hset _ _ _)) (hlast _ (hv.trans (answerFrom_exvan _ _ _ _ _ _ _ _))))
        (hlast _ (hv.trans (hc _ _)))))

theorem answerMalformed_objs (s : State) (sess : Nat) (p : List Byte) : ObjsOnly exvanObjs s (answerMalformed s sess p) := by
  have hcommit (t : State) (r : Reply) : ObjsOnly exvanObjs t (answerCommit t sess (be p 12 4) r) := .events (answerCommit_objs t sess _ r) (.refl t)
  exact .ite (.refl s) (.ite (request_objs (fun t _ => hcommit t _) s) (.ite (hcommit s _)
    (request_objs (fun t _ => answerFrom_exvan 3 _ t _ _ _ _ _) s)))

theorem receiveSession_objs (s : State) (p : List Byte) (i : Nat) (x : Session) : ObjsOnly exvanObjs s (receiveSession s f p i x) := by
  unfold receiveSession
  refine .ite (rejectFrame_objs _ _ _ (by decide)) (.ite (rejectFrame_objs _ _ _ (by decide)) (.ite (rejectFrame_objs _ _ _ (by decide)) ?_))
  split
  extract_lets o y v n w
  have hv : ObjsOnly exvanObjs s v := .frame (State.setSession_frame s i y) (by decide) (.refl s)
  have hw : ObjsOnly exvanObjs v w := answerMalformed_objs { v with net := { v.net with exvanIn := f :: v.net.exvanIn } } y.num p
  exact .ite (.events (closeSession_objs w _ _) (hv.trans hw)) (hv.trans hw)

theorem receiveGroup_objs (s : State) (p : List Byte) : ObjsOnly exvanObjs s (receiveGroup s f p) := by
  unfold receiveGroup
  refine .ite (rejectFrame_objs _ _ _ (by decide)) (.ite (rejectFrame_objs _ _ _ (by decide)) (.ite (rejectFrame_objs _ _ _ (by decide)) ?_))
  split
  extract_lets v n
  have hv : ObjsOnly exvanObjs s v := .frame (State.setGroupWin_frame s _) (by decide) (.refl s)
  exact hv.trans (answerMalformed_objs { v with net := { v.net with exvanIn := f :: v.net.exvanIn } } _ p)

theorem receiveOpen_objs (s : State) (p : List Byte) : ObjsOnly exvanObjs s (receiveOpen s f p) := by
  have htaken : ObjsOnly exvanObjs s { s with net := { s.net with exvanIn := f :: s.net.exvanIn } } := .refl s
  exact .ite (rejectFrame_objs _ _ _ (by decide)) (.ite (rejectFrame_objs _ _ _ (by decide))
    (.ite htaken (.frame (openAnswer_frame _ _ _ _ _ _) (by decide) htaken)))

theorem exvanReceive_objs (s : State) (f : RxFrame) : ObjsOnly exvanObjs s (exvanReceive s f) := by
  unfold exvanReceive
  refine .ite (rejectFrame_objs _ _ _ (by decide)) (.ite (rejectFrame_objs _ _ _ (by decide))
    (.ite (.ite (receiveOpen_objs _ _) (rejectFrame_objs _ _ _ (by decide)))
      (.ite (.ite (receiveGroup_objs _ _) (rejectFrame_objs _ _ _ (by decide))) ?_)))
  split
  · exact .ite (receiveSession_objs _ _ _ _) (rejectFrame_objs _ _ _ (by decide))
  · exact rejectFrame_objs _ _ _ (by decide)

end

end Sys2Proof.Proofs

/-!
SUPPORT. CLASS_DECIDE (R397): its refusals, and the frames it takes out of the hold and hands on.
-/

namespace Sys2Proof.Proofs

open Sys2Proof Sys2Proof.Machine Sys2Proof.Laws

/-- From the first state to the second the network's record changes as serving does, and in the slow path's policers and its event. -/
def Handed (s t : State) : Prop :=
  t.net = { s.net with exvanIn := t.net.exvanIn, toSend := t.net.toSend, neighbours := t.net.neighbours, routers := t.net.routers,
                       unreachables := t.net.unreachables, classes := t.net.classes, slow := t.net.slow,
                       slowBuckets := t.net.slowBuckets, slowEvent := t.net.slowEvent }

section

variable {s t u : State} {f : RxFrame} {sess seq action cls : Nat} {through : Bool} {c : Instr}

theorem Handed.refl (s : State) : Handed s s := rfl

theorem Handed.trans (h : Handed s t) (k : Handed t u) : Handed s u := by
  unfold Handed at *
  rw [k, h]

theorem Served.handed (h : Served s t) : Handed s t := by
  unfold Handed Served at *
  rw [h]

theorem Handed.frame {m : List Comp} (k : Frame m t u) (hm : m.contains .net = false) (h : Handed s t) : Handed s u :=
  h.trans (Served.frame k hm (.refl t)).handed

theorem Handed.ite {p : Prop} [Decidable p] (h : Handed s t) (k : Handed s u) : Handed s (if p then t else u) := by
  split <;> assumption

theorem Handed.foldl {β : Type} {g : State → β → State} {q : List β} (hg : ∀ s b, Handed s (g s b)) (h : Handed s t) :
    Handed s (q.foldl g t) := by
  induction q generalizing t with
  | nil => exact h
  | cons b q ih => exact ih (h.trans (hg t b))

theorem Handed.held (h : Handed s t) : t.net.held = s.net.held := by rw [h]

theorem Handed.rules (h : Handed s t) : t.net.rules = s.net.rules := by rw [h]

theorem Handed.recirc (h : Handed s t) : t.net.recirc = s.net.recirc := by rw [h]

/-! ### Handing a frame on -/

theorem slowEvent_handed (s : State) (r : Nat) : Handed s (slowEvent s r) := by
  unfold slowEvent
  extract_lets due
  refine .ite (.frame (raiseS_frame _ _ _) (by decide) ?_) (.refl s)
  rfl

/-- A slow-path policer left with some tokens. -/
def tokensLeft (s : State) (r : Nat) (n : Int) : State :=
  { s with net := { s.net with slowBuckets := mset s.net.slowBuckets r { tokens := n, last := s.tick } } }

/-- A frame in the queue of the slow path. -/
def slowQueued (s : State) (r why : Nat) (f : RxFrame) : State := { s with net := { s.net with slow := s.net.slow ++ [(r, why, f)] } }

theorem toSlow_eq (s : State) (r why : Nat) (f : RxFrame) : toSlow s r why f =
    if s.slowBucket r < slowUnit then slowEvent ((tokensLeft s r (s.slowBucket r)).inc64 Obj.SLOW_POLICED r) r
    else if s.net.slow.length < 256 then serveClasses (slowQueued (tokensLeft s r (s.slowBucket r - slowUnit)) r why f)
    else slowEvent ((tokensLeft s r (s.slowBucket r - slowUnit)).inc64 Obj.SLOW_QUEUE_DROPS 0) r := rfl

theorem tokensLeft_handed (s : State) (r : Nat) (n : Int) : Handed s (tokensLeft s r n) := rfl

theorem slowQueued_handed (s : State) (r why : Nat) (f : RxFrame) : Handed s (slowQueued s r why f) := rfl

theorem toSlow_handed (s : State) (r why : Nat) (f : RxFrame) : Handed s (toSlow s r why f) := by
  have hinc (t : State) (a i : Nat) : Handed t (t.inc64 a i) := .frame (State.inc64_frame _ _ _ _) (by decide) (.refl t)
  rw [toSlow_eq]
  exact .ite (((tokensLeft_handed _ _ _).trans (hinc _ _ _)).trans (slowEvent_handed _ _))
    (.ite (((tokensLeft_handed _ _ _).trans (slowQueued_handed _ _ _ _)).trans (serveClasses_served _).handed)
      (((tokensLeft_handed _ _ _).trans (hinc _ _ _)).trans (slowEvent_handed _ _)))

theorem toExvan_handed (s : State) (f : RxFrame) (cls : Nat) : Handed s (toExvan s f cls) := by
  unfold toExvan
  extract_lets q
  refine .ite (Served.handed ?_) (.frame (State.inc64_frame _ _ _ _) (by decide) (.refl s))
  exact (show Served s { s with net := { s.net with classes := mset s.net.classes cls (q ++ [{ f with cls }]) } } from rfl).trans (serveClasses_served _)

/-! ### The decision -/

/-- The state in which a decision hands its frames on: those it leaves are the hold. -/
def decideFrom (s : State) (sess : Nat) (left : List HeldFrame) : State := (noteMissed (seen s sess)).keepHeld left

/-- The frames a decision hands on, and those it leaves. -/
def decidedNow (through : Bool) (a : List HeldFrame) (h : HeldFrame) : List HeldFrame := if through then a ++ [h] else [h]

def decidedLeft (through : Bool) (a b : List HeldFrame) : List HeldFrame := if through then b else a ++ b

theorem takeWhile_seq {a b : List HeldFrame} {h : HeldFrame} (ha : ∀ x ∈ a, x.seq ≠ h.seq) :
    ((a ++ h :: b).takeWhile fun x => x.seq != h.seq) = a ∧ ((a ++ h :: b).dropWhile fun x => x.seq != h.seq) = h :: b := by
  have hall : ∀ x ∈ a, (x.seq != h.seq) = true := fun x hx => bne_iff_ne.mpr (ha x hx)
  rw [List.takeWhile_append_of_pos hall, List.dropWhile_append_of_pos hall]
  simp

theorem decideHeld_eq {a b : List HeldFrame} {h : HeldFrame} (hh : s.net.held = a ++ h :: b) (ha : ∀ x ∈ a, x.seq ≠ h.seq) :
    decideHeld s h.seq action cls through = (decidedNow through a h).foldl (fun s h => deliver s h.frame action cls 9 0)
      (s.keepHeld (decidedLeft through a b)) := by
  obtain ⟨htake, hdrop⟩ := takeWhile_seq (b := b) ha
  unfold decideHeld
  rw [hh, htake, hdrop]
  rfl

theorem boolNat_one (b : Bool) : (boolNat b == 1) = b := by cases b <;> rfl

theorem effClassDecide_decides {a b : List HeldFrame} {h : HeldFrame} (ha3 : action ≤ 3) (hcls : cls ≤ 7) (hm : s.hostMode 8 = true)
    (hh : s.net.held = a ++ h :: b) (ha : ∀ x ∈ a, x.seq ≠ h.seq) :
    effClassDecide h.seq action cls (boolNat through) s = ((decidedNow through a h).foldl (fun s h => deliver s h.frame action cls 9 0)
      ((noteMissed s).keepHeld (decidedLeft through a b)), .ack) := by
  have hany : (s.net.held.any fun k => k.seq == h.seq) = true := by
    rw [hh, List.any_append, List.any_cons]
    simp
  have hflags : boolNat through ≤ 1 := by cases through <;> decide
  unfold effClassDecide
  rw [if_neg (by omega), hm, hany, boolNat_one, decideHeld_eq (s := noteMissed s) hh ha]
  rfl

theorem effClassDecide_naks (ha3 : action ≤ 3) (h : 7 < cls ∨ s.hostMode 8 = false ∨ (∀ h ∈ s.net.held, h.seq ≠ seq)) :
    effClassDecide seq action cls (boolNat through) s =
      (s, .nak (if 7 < cls then .range else if s.hostMode 8 = true then .unknown else .state)) := by
  have hflags : boolNat through ≤ 1 := by cases through <;> decide
  unfold effClassDecide
  by_cases hcls : 7 < cls
  · rw [if_pos (.inr (.inl hcls)), if_pos hcls]
  · rw [if_neg (by omega), if_neg hcls]
    by_cases hm : s.hostMode 8 = true
    · have hnone : ∀ h ∈ s.net.held, h.seq ≠ seq := by
        rcases h with h | h | h
        · exact absurd h hcls
        · rw [hm] at h
          exact absurd h (by decide)
        · exact h
      have hany : (s.net.held.any fun h => h.seq == seq) = false := by simpa using hnone
      rw [hm, hany]
      rfl
    · rw [if_pos (by simpa using hm), if_neg hm]

theorem net_seen (s : State) (sess : Nat) : (seen s sess).net = s.net := (seen_frame s sess).net rfl

theorem classDecide_refused (hc : reqOf c = none) (h : s.acceptsOctets sess Obj.CLASS_DECIDE 0 = true) (ha3 : action ≤ 3)
    (hr : 7 < cls ∨ s.hostMode 8 = false ∨ (∀ h ∈ s.net.held, h.seq ≠ seq)) :
    (classDecide s c sess seq action cls through).answered sess 0 Obj.CLASS_DECIDE 0
        (.nak (if 7 < cls then .range else if s.hostMode 8 = true then .unknown else .state) 0 0) ∧
      Frame [.ex] s (classDecide s c sess seq action cls through) := by
  have heff : effClassDecide seq action cls (boolNat through) (seen s sess) =
      (seen s sess, .nak (if 7 < cls then .range else if s.hostMode 8 = true then .unknown else .state)) := by
    have hnak := effClassDecide_naks (s := seen s sess) (through := through) ha3 (by rw [hostMode_seen, net_seen]; exact hr)
    rwa [hostMode_seen] at hnak
  obtain ⟨hans, hframe⟩ := hostOctets_naks (c := c) (eff := effClassDecide seq action cls (boolNat through)) hc h (by decide)
    (by rw [heff]) (by rw [heff]; exact Opens.refl (seen s sess))
  rw [heff] at hframe
  exact ⟨hans, .step hframe (by decide) (seen_frame s sess)⟩

/-- What a decision that is taken leaves, by the frames it hands on. -/
theorem classDecide_taken {a b : List HeldFrame} {h : HeldFrame} {d : State} (hc : reqOf c = none)
    (hacc : s.acceptsOctets sess Obj.CLASS_DECIDE 0 = true) (ha3 : action ≤ 3) (hcls : cls ≤ 7) (hm : s.hostMode 8 = true)
    (hh : s.net.held = a ++ h :: b) (ha : ∀ x ∈ a, x.seq ≠ h.seq)
    (hd : d = (decidedNow through a h).foldl (fun s h => deliver s h.frame action cls 9 0) (decideFrom s sess (decidedLeft through a b))) :
    (classDecide s c sess h.seq action cls through).net = d.net ∧ ObjsKept d (classDecide s c sess h.seq action cls through) ∧
      (classDecide s c sess h.seq action cls through).tick = d.tick ∧
      (Opens (seen s sess) d → (classDecide s c sess h.seq action cls through).answered sess 0 Obj.CLASS_DECIDE 0 (.ack [])) := by
  have heff : effClassDecide h.seq action cls (boolNat through) (seen s sess) = (d, .ack) := by
    rw [hd]
    exact effClassDecide_decides ha3 hcls (by rw [hostMode_seen, hm]) (by rw [net_seen, hh]) ha
  have hans : classDecide s c sess h.seq action cls through = answer d sess 0 Obj.CLASS_DECIDE 0 (.ack []) := by
    refine (hostOctets_accepts hacc hc _).trans ?_
    rw [heff]
    rfl
  refine ⟨?_, ?_, ?_, fun hopens => (hostOctets_ack hc hacc heff hopens).1⟩
  · rw [hans, answer_net]
  · rw [hans]
    exact answer_objs _ _ _ _ _ _
  · rw [hans, answer_tick]

end

end Sys2Proof.Proofs

/-!
SUPPORT. What a decided frame does on its way: nothing, to the time subsystem, to the slow path, to the Exvan engine (R390, R395 to R397).
-/

namespace Sys2Proof.Proofs

open Sys2Proof Sys2Proof.Machine Sys2Proof.Laws

section

variable {s t u : State} {f : RxFrame} {sess cls : Nat} {through : Bool} {h : HeldFrame} {a b : List HeldFrame}

/-! ### The state a decision hands its frames on from -/

theorem decideFrom_net (s : State) (sess : Nat) (l : List HeldFrame) : ∃ m full, (decideFrom s sess l).net =
    { s.net with heldMissed := m, held := l, heldFull := full } := by
  unfold decideFrom
  rw [seen_eq]
  exact ⟨_, _, rfl⟩

theorem decideFrom_frame (s : State) (sess : Nat) (l : List HeldFrame) : Frame [.ex, .net] s (decideFrom s sess l) :=
  have hkept (u : State) : Frame [.ex, .net] u ((noteMissed u).keepHeld l) := .set_net (by decide) (.set_net (by decide) (.refl u))
  (Frame.mono (seen_frame s sess) (by decide)).trans (hkept (seen s sess))

theorem decideFrom_opens (s : State) (sess : Nat) (l : List HeldFrame) : Opens (seen s sess) (decideFrom s sess l) := opens_of_ex rfl

/-! ### Frames dropped, and frames of the time subsystem -/

theorem deliver_drops (q : List HeldFrame) (s : State) : q.foldl (fun s h => deliver s h.frame 0 cls 9 0) s = s := by
  induction q generalizing s with
  | nil => rfl
  | cons h q ih => exact ih s

theorem deliver_ptp (q : List HeldFrame) (s : State) : q.foldl (fun s h => deliver s h.frame 2 cls 9 0) s =
    { s with net := { s.net with ptpIn := (q.map (·.frame)).reverse ++ s.net.ptpIn } } := by
  induction q generalizing s with
  | nil => rfl
  | cons h q ih =>
    rw [List.foldl_cons, ih, List.map_cons, List.reverse_cons, List.append_assoc]
    rfl

/-! ### The slow path -/

theorem deliver_slow (q : List HeldFrame) (s : State) : Handed s (q.foldl (fun s h => deliver s h.frame 3 cls 9 0) s) :=
  .foldl (fun t (k : HeldFrame) => toSlow_handed t 9 0 { k.frame with cls }) (.refl s)

/-- No frame waits for the Exvan engine. -/
def NoneWaits (s : State) : Prop := ∀ i < 8, mget [] s.net.classes i = []

theorem takeSlow_classes (s : State) (e : Nat × Nat × RxFrame) : (takeSlow s e).net.classes = s.net.classes := by
  have hown (t : State) (n : Nat) (p : List Byte) : (sendOwn t n p).net.classes = t.net.classes := by
    unfold sendOwn
    split <;> rfl
  have hheed (t : State) (n : Nat) (h : Headers) (m src asker : List Byte) : (heedAdvert t n h m src asker).net.classes = t.net.classes := by
    unfold heedAdvert
    split_ifs <;> rfl
  unfold takeSlow
  extract_lets v
  split
  · refine Eq.trans ?_ (show v.net.classes = s.net.classes from rfl)
    clear_value v
    unfold answerFrame
    extract_lets h a asker count m m'
    split
    split_ifs
    · rfl
    · exact hown _ _ _
    · exact hown _ _ _
    · rfl
    · exact hown _ _ _
    · exact hown _ _ _
    · rfl
    · rfl
    · exact hown _ _ _
    · exact (hown _ _ _).trans (hheed _ _ _ _ _ _)
    · rfl
  · rfl

theorem takeSlow_ex (s : State) (e : Nat × Nat × RxFrame) : (takeSlow s e).ex = s.ex := (takeSlow_frame s e).ex rfl

/-- Serving one class of which no frame waits for the Exvan engine. -/
theorem serveClass_idle {exvan : SMap (List RxFrame)} {c : Nat} (hc : mget [] exvan c = []) (slow : List (Nat × Nat × RxFrame)) (s : State) :
    serveClass exvan slow s c = (slow.filter fun e => e.2.2.cls == c).foldl takeSlow s := by
  unfold serveClass
  rw [hc]
  rfl

theorem serveList_idle {exvan : SMap (List RxFrame)} {l : List Nat} (hc : ∀ c ∈ l, mget [] exvan c = []) (slow : List (Nat × Nat × RxFrame))
    (s : State) : (l.foldl (serveClass exvan slow) s).ex = s.ex ∧ (l.foldl (serveClass exvan slow) s).net.classes = s.net.classes := by
  induction l generalizing s with
  | nil => exact ⟨rfl, rfl⟩
  | cons c l ih =>
    obtain ⟨hex, hclasses⟩ := ih (fun k hk => hc k (List.mem_cons_of_mem _ hk)) (serveClass exvan slow s c)
    rw [List.foldl_cons, hex, hclasses, serveClass_idle (hc c (List.mem_cons_self ..))]
    exact ⟨foldl_keeps (g := State.ex) (fun t e => takeSlow_ex t e) _ _, foldl_keeps (g := fun t : State => t.net.classes) (fun t e => takeSlow_classes t e) _ _⟩

theorem serveClasses_idle (h : NoneWaits s) : (serveClasses s).ex = s.ex ∧ NoneWaits (serveClasses s) := by
  unfold serveClasses
  split
  · exact ⟨rfl, h⟩
  · obtain ⟨hex, hclasses⟩ := serveList_idle (exvan := s.net.classes) (l := [7, 6, 5, 4, 3, 2, 1, 0])
      (fun c hc => h c (by
        have : ∀ k ∈ [7, 6, 5, 4, 3, 2, 1, 0], k < 8 := by decide
        exact this c hc)) s.net.slow { s with net := { s.net with classes := [], slow := [] } }
    refine ⟨hex, fun i _ => ?_⟩
    rw [hclasses]
    rfl

theorem slowEvent_idle (s : State) (r : Nat) : Opens s (slowEvent s r) ∧ (slowEvent s r).net.classes = s.net.classes := by
  have hraise (v : State) (d : List EvItem) (hex : v.ex = s.ex) (hc : v.net.classes = s.net.classes) :
      Opens s (raiseS v 0x8015 d) ∧ (raiseS v 0x8015 d).net.classes = s.net.classes :=
    ⟨(opens_of_ex hex).trans (raiseS_opens _ _ _), (congrArg Network.classes ((raiseS_frame v _ _).net rfl)).trans hc⟩
  unfold slowEvent
  extract_lets due
  split
  · exact hraise _ _ rfl rfl
  · exact ⟨.refl s, rfl⟩

theorem toSlow_idle (h : NoneWaits s) (r why : Nat) (f : RxFrame) : Opens s (toSlow s r why f) ∧ NoneWaits (toSlow s r why f) := by
  have hevent (t : State) (ho : t.ex = s.ex) (hc : t.net.classes = s.net.classes) : Opens s (slowEvent t r) ∧ NoneWaits (slowEvent t r) := by
    obtain ⟨hopens, hclasses⟩ := slowEvent_idle t r
    refine ⟨(opens_of_ex ho).trans hopens, fun i hi => ?_⟩
    rw [hclasses, hc]
    exact h i hi
  rw [toSlow_eq]
  split_ifs
  · exact hevent _ rfl rfl
  · obtain ⟨hex, hnone⟩ := serveClasses_idle (s := slowQueued (tokensLeft s r (s.slowBucket r - slowUnit)) r why f) h
    exact ⟨opens_of_ex hex, hnone⟩
  · exact hevent _ rfl rfl

theorem deliver_slow_opens (q : List HeldFrame) (s : State) (h : NoneWaits s) :
    Opens s (q.foldl (fun s h => deliver s h.frame 3 cls 9 0) s) := by
  induction q generalizing s with
  | nil => exact .refl s
  | cons k q ih =>
    obtain ⟨hopens, hnone⟩ := toSlow_idle h 9 0 { k.frame with cls }
    exact hopens.trans (ih _ hnone)

/-! ### One frame of the slow path, counted and charged -/

theorem serveClass_counts {exvan : SMap (List RxFrame)} {e : Nat × Nat × RxFrame} (ha : answered e = false) (s : State) (c : Nat) :
    (serveClass exvan [e] s c).objN Obj.SLOW_FRAMES e.1 =
      if e.2.2.cls = c then (s.objN Obj.SLOW_FRAMES e.1 + 1) % 2 ^ 64 else s.objN Obj.SLOW_FRAMES e.1 := by
  have hkept : ObjsOnly exvanObjs s ((mget [] exvan c).foldl exvanReceive s) := .foldl exvanReceive_objs (.refl s)
  have hsame : ((mget [] exvan c).foldl exvanReceive s).objN Obj.SLOW_FRAMES e.1 = s.objN Obj.SLOW_FRAMES e.1 :=
    congrArg Int.toNat (hkept _ _ (by decide))
  unfold serveClass
  generalize (mget [] exvan c).foldl exvanReceive s = w at hsame
  by_cases hc : e.2.2.cls = c
  · rw [if_pos hc, List.filter_cons_of_pos (by simpa using hc), ← hsame]
    have htake : takeSlow w e = w.inc64 Obj.SLOW_FRAMES e.1 := if_neg (by rw [ha]; exact Bool.false_ne_true)
    exact (congrArg (fun v : State => v.objN Obj.SLOW_FRAMES e.1) htake).trans (objN_inc64_self w _ _ 1)
  · rw [if_neg hc, List.filter_cons_of_neg (by simpa using hc)]
    exact hsame

theorem serveList_counts {exvan : SMap (List RxFrame)} {e : Nat × Nat × RxFrame} (ha : answered e = false) {l : List Nat} (hl : l.Nodup)
    (s : State) : (l.foldl (serveClass exvan [e]) s).objN Obj.SLOW_FRAMES e.1 =
      if e.2.2.cls ∈ l then (s.objN Obj.SLOW_FRAMES e.1 + 1) % 2 ^ 64 else s.objN Obj.SLOW_FRAMES e.1 := by
  induction l generalizing s with
  | nil => rfl
  | cons c l ih =>
    obtain ⟨hout, hnodup⟩ := List.nodup_cons.mp hl
    rw [List.foldl_cons, ih hnodup, serveClass_counts ha]
    by_cases hc : e.2.2.cls = c
    · rw [if_pos hc, if_neg (by rw [hc]; exact hout), if_pos (by rw [hc]; exact List.mem_cons_self ..)]
    · rw [if_neg hc]
      exact if_congr ⟨List.mem_cons_of_mem _, fun h => (List.mem_cons.mp h).resolve_left hc⟩ rfl rfl

theorem serveLists_objs (exvan : SMap (List RxFrame)) (slow : List (Nat × Nat × RxFrame)) (l : List Nat)
    (s : State) : ObjsOnly (Obj.SLOW_FRAMES :: exvanObjs) s (l.foldl (serveClass exvan slow) s) := by
  refine .foldl (fun t c => ?_) (.refl s)
  have hexvan : ObjsOnly (Obj.SLOW_FRAMES :: exvanObjs) t ((mget [] exvan c).foldl exvanReceive t) :=
    ObjsOnly.mono (.foldl exvanReceive_objs (.refl t)) (List.subset_cons_self ..)
  exact .foldl (fun v e => .ite (.frame (answerFrame_frame _ _) (by decide) (.inc64 (List.mem_cons_self ..) (.refl v)))
    (.inc64 (List.mem_cons_self ..) (.refl v))) hexvan

theorem slowBucket_of {r : Nat} (hb : t.obj Obj.SLOW_BURST r = s.obj Obj.SLOW_BURST r) (hr : t.obj Obj.SLOW_RATE r = s.obj Obj.SLOW_RATE r)
    (ht : t.tick = s.tick) (hn : t.net.slowBuckets = s.net.slowBuckets) : t.slowBucket r = s.slowBucket r := by
  unfold State.slowBucket
  rw [hb, hr, ht, hn]

theorem slowBucket_tokensLeft (s : State) (r : Nat) {n : Int} (h : n ≤ s.obj Obj.SLOW_BURST r * slowUnit) : (tokensLeft s r n).slowBucket r = n := by
  have hfind : mfind (tokensLeft s r n).net.slowBuckets r = some { tokens := n, last := s.tick } := mfind_mset_self _ _ _
  unfold State.slowBucket
  rw [hfind]
  show min (s.obj Obj.SLOW_BURST r * slowUnit) (n + s.obj Obj.SLOW_RATE r * ((s.tick - s.tick : Nat) : Int)) = n
  rw [Nat.sub_self, Nat.cast_zero, mul_zero, add_zero]
  exact min_eq_right h

theorem slowBucket_le (s : State) (r : Nat) : s.slowBucket r ≤ s.obj Obj.SLOW_BURST r * slowUnit := by
  unfold State.slowBucket
  dsimp only
  split
  · exact le_refl _
  · exact min_le_left _ _

theorem toSlow_served (ha : s.active.isSome = true) (hs : s.net.slow = []) (hb : slowUnit ≤ s.slowBucket 9) (hc : f.cls ≤ 7) :
    (toSlow s 9 0 f).objN Obj.SLOW_FRAMES 9 = (s.objN Obj.SLOW_FRAMES 9 + 1) % 2 ^ 64 ∧
      (toSlow s 9 0 f).slowBucket 9 = s.slowBucket 9 - slowUnit := by
  let v : State := slowQueued (tokensLeft s 9 (s.slowBucket 9 - slowUnit)) 9 0 f
  obtain ⟨l, hl⟩ := Option.isSome_iff_exists.mp ha
  have hv : v.net.slow = [(9, 0, f)] := by
    show s.net.slow ++ [(9, 0, f)] = _
    rw [hs]
    rfl
  have heq : toSlow s 9 0 f = [7, 6, 5, 4, 3, 2, 1, 0].foldl (serveClass v.net.classes [(9, 0, f)])
      { v with net := { v.net with classes := [], slow := [] } } := by
    rw [toSlow_eq, if_neg (not_lt.mpr hb), if_pos (by rw [hs]; decide)]
    show serveClasses v = _
    unfold serveClasses
    rw [hv, show v.active = some l from hl]
  have hmem : f.cls ∈ [7, 6, 5, 4, 3, 2, 1, 0] := by
    simp only [List.mem_cons, List.not_mem_nil, or_false]
    omega
  have hanswered : answered (9, 0, f) = false := rfl
  have hcount := serveList_counts (exvan := v.net.classes) hanswered (by decide : [7, 6, 5, 4, 3, 2, 1, 0].Nodup) { v with net := { v.net with classes := [], slow := [] } }
  have hobjs := serveLists_objs v.net.classes [(9, 0, f)] [7, 6, 5, 4, 3, 2, 1, 0]
    { v with net := { v.net with classes := [], slow := [] } }
  have hserved : Served { v with net := { v.net with classes := [], slow := [] } } ([7, 6, 5, 4, 3, 2, 1, 0].foldl (serveClass v.net.classes [(9, 0, f)])
      { v with net := { v.net with classes := [], slow := [] } }) := .foldl (serveClass_served _ _) (.refl _)
  have htick : ([7, 6, 5, 4, 3, 2, 1, 0].foldl (serveClass v.net.classes [(9, 0, f)])
      { v with net := { v.net with classes := [], slow := [] } }).tick = s.tick :=
    foldl_keeps (g := State.tick) (fun t c => (serveClass_frame _ _ t c).tick rfl) _ _
  rw [if_pos hmem] at hcount
  rw [heq]
  generalize [7, 6, 5, 4, 3, 2, 1, 0].foldl (serveClass v.net.classes [(9, 0, f)]) { v with net := { v.net with classes := [], slow := [] } } = w
    at hcount hobjs hserved htick
  refine ⟨hcount, ?_⟩
  have hleft : s.slowBucket 9 - slowUnit ≤ s.obj Obj.SLOW_BURST 9 * slowUnit := by
    have hle := slowBucket_le s 9
    have hunit : (0 : Int) ≤ slowUnit := by decide
    omega
  rw [← slowBucket_tokensLeft s 9 hleft]
  refine slowBucket_of (hobjs _ _ (by decide)) (hobjs _ _ (by decide)) htick ?_
  rw [hserved]
  rfl

end

end Sys2Proof.Proofs

/-!
SUPPORT. An OPEN that a decision hands on to the Exvan engine (R397, R457, R458).
-/

namespace Sys2Proof.Proofs

open Sys2Proof Sys2Proof.Machine Sys2Proof.Laws

/-- From the first state to the second the management cores alone have worked: answers, sessions and the frames taken in stay. -/
structure CoresOnly (s t : State) : Prop where
  ex : t.ex = s.ex
  exvanIn : t.net.exvanIn = s.net.exvanIn
  objs : ObjsOnly [Obj.SLOW_FRAMES] s t

section

variable {s t u : State} {f : RxFrame}

theorem CoresOnly.refl (s : State) : CoresOnly s s := ⟨rfl, rfl, .refl s⟩

theorem CoresOnly.trans (h : CoresOnly s t) (k : CoresOnly t u) : CoresOnly s u :=
  ⟨k.ex.trans h.ex, k.exvanIn.trans h.exvanIn, h.objs.trans k.objs⟩

theorem CoresOnly.foldl {β : Type} {g : State → β → State} (hg : ∀ s b, CoresOnly s (g s b)) (q : List β) (s : State) : CoresOnly s (q.foldl g s) := by
  induction q generalizing s with
  | nil => exact .refl s
  | cons b q ih => exact (hg s b).trans (ih _)

theorem answerFrame_exvanIn (s : State) (f : RxFrame) : (answerFrame s f).net.exvanIn = s.net.exvanIn := by
  have hown (t : State) (n : Nat) (p : List Byte) : (sendOwn t n p).net.exvanIn = t.net.exvanIn := by
    unfold sendOwn
    split <;> rfl
  have hheed (t : State) (n : Nat) (h : Headers) (m src asker : List Byte) : (heedAdvert t n h m src asker).net.exvanIn = t.net.exvanIn := by
    unfold heedAdvert
    split_ifs <;> rfl
  unfold answerFrame
  extract_lets h a asker count m m'
  split
  split_ifs
  · rfl
  · exact hown _ _ _
  · exact hown _ _ _
  · rfl
  · exact hown _ _ _
  · exact hown _ _ _
  · rfl
  · rfl
  · exact hown _ _ _
  · exact (hown _ _ _).trans (hheed _ _ _ _ _ _)
  · rfl

theorem takeSlow_cores (s : State) (e : Nat × Nat × RxFrame) : CoresOnly s (takeSlow s e) := by
  have hinc : CoresOnly s (s.inc64 Obj.SLOW_FRAMES e.1) := ⟨rfl, rfl, .inc64 (by decide) (.refl s)⟩
  unfold takeSlow
  dsimp only
  generalize s.inc64 Obj.SLOW_FRAMES e.1 = w at hinc
  split
  · exact hinc.trans ⟨(answerFrame_frame w _).ex rfl, answerFrame_exvanIn w _, .frame (answerFrame_frame w _) (by decide) (.refl w)⟩
  · exact hinc

theorem serveList_cores {exvan : SMap (List RxFrame)} (slow : List (Nat × Nat × RxFrame)) {l : List Nat} (hc : ∀ c ∈ l, mget [] exvan c = [])
    (s : State) : CoresOnly s (l.foldl (serveClass exvan slow) s) := by
  induction l generalizing s with
  | nil => exact .refl s
  | cons c l ih =>
    rw [List.foldl_cons, serveClass_idle (hc c (List.mem_cons_self ..))]
    exact (CoresOnly.foldl takeSlow_cores _ s).trans (ih (fun k hk => hc k (List.mem_cons_of_mem _ hk)) _)

/-! ### The OPEN -/

/-- A frame that the Exvan engine takes for an OPEN (Table 16.4). -/
structure IsOpen (s : State) (f : RxFrame) : Prop where
  port : f.port < 2
  tagOk : f.tagOk = true
  format : frameFormatOk f.exvan = true
  dest : be f.exvan 18 2 = s.objN Obj.NODE_ID 0 ∨ be f.exvan 18 2 = 0xFFFF
  num : be f.exvan 4 2 = 0
  op : be f.exvan 3 1 = 1
  level : be f.exvan 24 1 ≤ 2
  body : 0 < be f.exvan 20 2
  seq : be f.exvan 8 4 = 0
  key : s.keyGenOk (be f.exvan 24 1) (be f.exvan 7 1) = true

theorem IsOpen.of_cores (h : IsOpen s f) (k : CoresOnly s t) : IsOpen t f := by
  have hobj (a i : Nat) (ha : a ∉ [Obj.SLOW_FRAMES]) : t.objN a i = s.objN a i := congrArg Int.toNat (k.objs a i ha)
  have hkey : t.keyGenOk (be f.exvan 24 1) (be f.exvan 7 1) = s.keyGenOk (be f.exvan 24 1) (be f.exvan 7 1) := by
    unfold State.keyGenOk
    rw [hobj _ _ (by decide), k.ex]
  exact { h with dest := by rw [hobj _ _ (by decide)]; exact h.dest, key := hkey.trans h.key }

theorem sendTo_sessions (s : State) (source : Nat) (o : Option Origin) (p : List Byte) : (sendTo s source o p).ex.sessions = s.ex.sessions := by
  unfold sendTo
  split
  · rfl
  · split <;> rfl

theorem openAnswer_sessions (s : State) (c : Caller) (sess : Nat) (key : List Byte) (req : Nat) (r : Reply) :
    (openAnswer s c sess key req r).ex.sessions = s.ex.sessions := sendTo_sessions _ _ _ _

theorem openAnswer_net (s : State) (c : Caller) (sess : Nat) (key : List Byte) (req : Nat) (r : Reply) :
    (openAnswer s c sess key req r).net = s.net := (openAnswer_frame s c sess key req r).net rfl

theorem exvanReceive_takesOpen (h : IsOpen s f) :
    (exvanReceive s f).net.exvanIn = f :: s.net.exvanIn ∧ (exvanReceive s f).ex.sessions = s.ex.sessions := by
  have hport : f.port ≠ 2 := Nat.ne_of_lt h.port
  have heq : exvanReceive s f = receiveOpen s f f.exvan := by
    unfold exvanReceive
    extract_lets p op num
    have hformat : (!frameFormatOk p) = false := by rw [show frameFormatOk p = true from h.format]; rfl
    have hdest : ¬ (f.port ≠ 2 ∧ be p 18 2 ≠ s.objN Obj.NODE_ID 0 ∧ be p 18 2 ≠ 0xFFFF) := fun k => h.dest.elim k.2.1 k.2.2
    rw [hformat, if_neg Bool.false_ne_true, if_neg hdest, if_pos (show num = 0 from h.num), if_pos ⟨h.op, h.level, h.body, h.seq⟩]
  have htaken : receiveOpen s f f.exvan =
      if be f.exvan 20 2 = 12 ∧ be f.exvan 25 3 = 0 then { s with net := { s.net with exvanIn := f :: s.net.exvanIn } }
      else openAnswer { s with net := { s.net with exvanIn := f :: s.net.exvanIn } }
        (State.callerOf { s with net := { s.net with exvanIn := f :: s.net.exvanIn } } f) 0
        (State.callerOf { s with net := { s.net with exvanIn := f :: s.net.exvanIn } } f).key (be f.exvan 12 4) (.nak .format 0 0) := by
    unfold receiveOpen
    rw [h.key, h.tagOk]
    rfl
  rw [heq, htaken]
  split
  · exact ⟨rfl, rfl⟩
  · exact ⟨congrArg Network.exvanIn (openAnswer_net _ _ _ _ _ _), openAnswer_sessions _ _ _ _ _ _⟩

theorem serveClass_open {exvan : SMap (List RxFrame)} (slow : List (Nat × Nat × RxFrame)) {c : Nat} (hc : mget [] exvan c = [f]) (h : IsOpen s f) :
    (serveClass exvan slow s c).net.exvanIn = f :: s.net.exvanIn ∧ (serveClass exvan slow s c).ex.sessions = s.ex.sessions := by
  obtain ⟨hin, hsessions⟩ := exvanReceive_takesOpen h
  have hcores := CoresOnly.foldl takeSlow_cores (slow.filter fun e => e.2.2.cls == c) (exvanReceive s f)
  have heq : serveClass exvan slow s c = (slow.filter fun e => e.2.2.cls == c).foldl takeSlow (exvanReceive s f) := by
    unfold serveClass
    rw [hc]
    rfl
  rw [heq, hcores.exvanIn, hcores.ex]
  exact ⟨hin, hsessions⟩

theorem serveList_open {exvan : SMap (List RxFrame)} (slow : List (Nat × Nat × RxFrame)) {l : List Nat} {c : Nat} (hl : l.Nodup) (hm : c ∈ l)
    (hc : mget [] exvan c = [f]) (ho : ∀ k ∈ l, k ≠ c → mget [] exvan k = []) (h : IsOpen s f) :
    (l.foldl (serveClass exvan slow) s).net.exvanIn = f :: s.net.exvanIn ∧ (l.foldl (serveClass exvan slow) s).ex.sessions = s.ex.sessions := by
  obtain ⟨a, b, rfl⟩ := List.mem_iff_append.mp hm
  have hout : c ∉ a ∧ c ∉ b := by
    obtain ⟨-, hcb, hdis⟩ := List.nodup_append.mp hl
    exact ⟨fun hca => hdis c hca c (List.mem_cons_self ..) rfl, (List.nodup_cons.mp hcb).1⟩
  have hfirst := serveList_cores slow (l := a) (fun k hk => ho k (List.mem_append_left _ hk) fun e => hout.1 (e ▸ hk)) s
  have hlast := serveList_cores slow (l := b) (fun k hk => ho k (List.mem_append_right _ (List.mem_cons_of_mem _ hk)) fun e => hout.2 (e ▸ hk))
  rw [List.foldl_append, List.foldl_cons]
  generalize a.foldl (serveClass exvan slow) s = v at hfirst
  obtain ⟨hin, hsessions⟩ := serveClass_open slow hc (h.of_cores hfirst)
  generalize serveClass exvan slow v c = w at hin hsessions
  rw [(hlast w).exvanIn, (hlast w).ex, hin, hsessions, hfirst.exvanIn, hfirst.ex]
  exact ⟨rfl, rfl⟩

theorem toExvan_open {cls : Nat} (ha : s.active.isSome = true) (hc : cls ≤ 7) (hn : NoneWaits s) (h : IsOpen s { f with cls }) :
    (toExvan s f cls).net.exvanIn = { f with cls } :: s.net.exvanIn ∧ (toExvan s f cls).ex.sessions = s.ex.sessions := by
  let m := mset s.net.classes cls [{ f with cls }]
  obtain ⟨l, hl⟩ := Option.isSome_iff_exists.mp ha
  have hempty : mget [] s.net.classes cls = [] := hn cls (by omega)
  have heq : toExvan s f cls = [7, 6, 5, 4, 3, 2, 1, 0].foldl (serveClass m s.net.slow) { s with net := { s.net with classes := [], slow := [] } } := by
    unfold toExvan
    rw [hempty]
    show serveClasses { s with net := { s.net with classes := m } } = _
    unfold serveClasses
    rw [show ({ s with net := { s.net with classes := m } } : State).active = some l from hl]
  have hmem : cls ∈ [7, 6, 5, 4, 3, 2, 1, 0] := by
    simp only [List.mem_cons, List.not_mem_nil, or_false]
    omega
  have hothers : ∀ k ∈ [7, 6, 5, 4, 3, 2, 1, 0], k ≠ cls → mget [] m k = [] := by
    intro k hk hne
    have hlt : ∀ k ∈ [7, 6, 5, 4, 3, 2, 1, 0], k < 8 := by decide
    exact (mget_mset_other _ _ _ hne).trans (hn k (hlt k hk))
  rw [heq]
  exact serveList_open (s := { s with net := { s.net with classes := [], slow := [] } }) s.net.slow (by decide) hmem (mget_mset_self _ _ _ _) hothers
    { h with }

end

end Sys2Proof.Proofs

/-!
SUPPORT. The commands of CLASS_DECIDE, and rule sets (R392 to R394, R397).
-/

namespace Sys2Proof.Proofs

open Sys2Proof Sys2Proof.Machine Sys2Proof.Laws

section

variable {s t u : State} {sess seq cls : Nat} {through : Bool} {c : Instr}

/-! ### CLASS_DECIDE -/

theorem classDecide_naks (h : s.acceptsOctets sess Obj.CLASS_DECIDE 0 = true)
    (hc : c ∈ [.classDecideDrop sess seq cls through, .classDecideExvan sess seq cls through, .classDecidePtp sess seq cls through,
      .classDecideSlow sess seq cls through])
    (hr : 7 < cls ∨ s.hostMode 8 = false ∨ (∀ h ∈ s.net.held, h.seq ≠ seq)) :
    ∃ t, exec c s = .next t ∧ Frame [.ex] s t ∧ t.answered sess 0 Obj.CLASS_DECIDE 0
      (.nak (if 7 < cls then .range else if s.hostMode 8 = true then .unknown else .state) 0 0) := by
  have hrun : ∃ action, action ≤ 3 ∧ reqOf c = none ∧ exec c s = finish s (classDecide s c sess seq action cls through) := by
    simp only [List.mem_cons, List.not_mem_nil, or_false] at hc
    rcases hc with rfl | rfl | rfl | rfl
    · exact ⟨0, by decide, rfl, rfl⟩
    · exact ⟨1, by decide, rfl, rfl⟩
    · exact ⟨2, by decide, rfl, rfl⟩
    · exact ⟨3, by decide, rfl, rfl⟩
  obtain ⟨action, ha, hreq, hrun⟩ := hrun
  obtain ⟨hans, hframe⟩ := classDecide_refused (through := through) hreq h ha hr
  generalize classDecide s c sess seq action cls through = w at hrun hans hframe
  exact ⟨_, hrun, frame_sealed hframe (by decide), hans⟩

variable {h : HeldFrame} {a b : List HeldFrame}

theorem decided_drops (hacc : s.acceptsOctets sess Obj.CLASS_DECIDE 0 = true) (hcls : cls ≤ 7) (hm : s.hostMode 8 = true)
    (hh : s.net.held = a ++ h :: b) (ha : ∀ x ∈ a, x.seq ≠ h.seq) :
    ∃ t, exec (.classDecideDrop sess h.seq cls through) s = .next t ∧ t.answered sess 0 Obj.CLASS_DECIDE 0 (.ack []) ∧
      t.net.held = (if through then b else a ++ b) ∧ t.net.ptpIn = s.net.ptpIn ∧ t.net.exvanIn = s.net.exvanIn := by
  obtain ⟨hnet, -, -, hans⟩ := classDecide_taken (c := .classDecideDrop sess h.seq cls through) (through := through) rfl hacc (by decide) hcls hm hh ha
    (deliver_drops (cls := cls) (decidedNow through a h) (decideFrom s sess (decidedLeft through a b))).symm
  have hrun : exec (.classDecideDrop sess h.seq cls through) s =
      finish s (classDecide s (.classDecideDrop sess h.seq cls through) sess h.seq 0 cls through) := rfl
  obtain ⟨m, full, hfrom⟩ := decideFrom_net s sess (decidedLeft through a b)
  have hopens := hans (decideFrom_opens s sess _)
  rw [hfrom] at hnet
  generalize classDecide s (.classDecideDrop sess h.seq cls through) sess h.seq 0 cls through = w at hrun hnet hopens
  exact ⟨_, hrun, hopens, congrArg Network.held hnet, (congrArg Network.ptpIn hnet :), (congrArg Network.exvanIn hnet :)⟩

theorem decided_ptp (hacc : s.acceptsOctets sess Obj.CLASS_DECIDE 0 = true) (hcls : cls ≤ 7) (hm : s.hostMode 8 = true)
    (hh : s.net.held = a ++ h :: b) (ha : ∀ x ∈ a, x.seq ≠ h.seq) :
    ∃ t, exec (.classDecidePtp sess h.seq cls through) s = .next t ∧ t.answered sess 0 Obj.CLASS_DECIDE 0 (.ack []) ∧
      t.net.held = (if through then b else a ++ b) ∧
      t.net.ptpIn = (if through then h.frame :: (a.map (·.frame)).reverse else [h.frame]) ++ s.net.ptpIn := by
  obtain ⟨hnet, -, -, hans⟩ := classDecide_taken (c := .classDecidePtp sess h.seq cls through) (through := through) rfl hacc (by decide) hcls hm hh ha
    (deliver_ptp (cls := cls) (decidedNow through a h) (decideFrom s sess (decidedLeft through a b))).symm
  have hrun : exec (.classDecidePtp sess h.seq cls through) s =
      finish s (classDecide s (.classDecidePtp sess h.seq cls through) sess h.seq 2 cls through) := rfl
  obtain ⟨m, full, hfrom⟩ := decideFrom_net s sess (decidedLeft through a b)
  have hopens := hans ((decideFrom_opens s sess (decidedLeft through a b)).trans (opens_of_ex rfl))
  have hnow : ((decidedNow through a h).map (·.frame)).reverse = if through then h.frame :: (a.map (·.frame)).reverse else [h.frame] := by
    unfold decidedNow
    cases through
    · rfl
    · simp
  dsimp only at hnet
  rw [hfrom] at hnet
  generalize classDecide s (.classDecidePtp sess h.seq cls through) sess h.seq 2 cls through = w at hrun hnet hopens
  refine ⟨_, hrun, hopens, (congrArg Network.held hnet :), ?_⟩
  rw [← hnow]
  exact (congrArg Network.ptpIn hnet :)

theorem active_of_acceptsOctets {addr sel : Nat} (h : s.acceptsOctets sess addr sel = true) : s.active.isSome = true := by
  unfold State.acceptsOctets at h
  obtain ⟨hready, -⟩ := Bool.and_eq_true_iff.mp h
  unfold State.ready at hready
  split at hready
  · simp only [Bool.and_eq_true] at hready
    exact hready.1.1.2
  · cases hready

theorem decideFrom_slowBucket (s : State) (sess : Nat) (l : List HeldFrame) (r : Nat) : (decideFrom s sess l).slowBucket r = s.slowBucket r := by
  obtain ⟨m, full, hfrom⟩ := decideFrom_net s sess l
  have hobjs := (decideFrom_frame s sess l).objs rfl
  exact slowBucket_of (obj_of_objs hobjs _ _) (obj_of_objs hobjs _ _) ((decideFrom_frame s sess l).tick rfl) (by rw [hfrom])

theorem decideFrom_active (s : State) (sess : Nat) (l : List HeldFrame) : (decideFrom s sess l).active = s.active := by
  have hlobes := (decideFrom_frame s sess l).lobes rfl
  unfold State.active
  rw [hlobes]

theorem decideFrom_kept (s : State) (sess : Nat) (l : List HeldFrame) : (decideFrom s sess l).net.classes = s.net.classes ∧
    (decideFrom s sess l).net.slow = s.net.slow ∧ (decideFrom s sess l).net.exvanIn = s.net.exvanIn := by
  obtain ⟨m, full, hfrom⟩ := decideFrom_net s sess l
  rw [hfrom]
  exact ⟨rfl, rfl, rfl⟩

theorem decided_slow (hacc : s.acceptsOctets sess Obj.CLASS_DECIDE 0 = true) (hcls : cls ≤ 7) (hm : s.hostMode 8 = true)
    (hh : s.net.held = a ++ h :: b) (ha : ∀ x ∈ a, x.seq ≠ h.seq) :
    ∃ t, exec (.classDecideSlow sess h.seq cls through) s = .next t ∧
      ((∀ i < 8, mget [] s.net.classes i = []) → t.answered sess 0 Obj.CLASS_DECIDE 0 (.ack [])) ∧
      t.net.held = (if through then b else a ++ b) ∧
      (a = [] → s.net.slow = [] → 156250000 ≤ s.slowBucket 9 →
        t.objN Obj.SLOW_FRAMES 9 = (s.objN Obj.SLOW_FRAMES 9 + 1) % 2 ^ 64 ∧ t.slowBucket 9 = s.slowBucket 9 - 156250000) := by
  let v := decideFrom s sess (decidedLeft through a b)
  let d := (decidedNow through a h).foldl (fun s h => deliver s h.frame 3 cls 9 0) v
  obtain ⟨hnet, hobjs, htick, hans⟩ := classDecide_taken (c := .classDecideSlow sess h.seq cls through) (through := through) (d := d) rfl hacc
    (by decide) hcls hm hh ha rfl
  have hrun : exec (.classDecideSlow sess h.seq cls through) s =
      finish s (classDecide s (.classDecideSlow sess h.seq cls through) sess h.seq 3 cls through) := rfl
  obtain ⟨m, full, hfrom⟩ := decideFrom_net s sess (decidedLeft through a b)
  obtain ⟨hclasses, hslowq, hexvan⟩ := decideFrom_kept s sess (decidedLeft through a b)
  have hheld : d.net.held = decidedLeft through a b := by
    have hd := (deliver_slow (cls := cls) (decidedNow through a h) v).held
    exact hd.trans (congrArg Network.held hfrom)
  have hopens : (∀ i < 8, mget [] s.net.classes i = []) → Opens (seen s sess) d := fun hnone => by
    have hv : NoneWaits v := fun i hi => by
      rw [show v.net.classes = s.net.classes from hclasses]
      exact hnone i hi
    exact (decideFrom_opens s sess _).trans (deliver_slow_opens _ v hv)
  have hone : a = [] → s.net.slow = [] → slowUnit ≤ s.slowBucket 9 →
      d.objN Obj.SLOW_FRAMES 9 = (s.objN Obj.SLOW_FRAMES 9 + 1) % 2 ^ 64 ∧ d.slowBucket 9 = s.slowBucket 9 - slowUnit := fun ha hs hb => by
    have hd : d = toSlow v 9 0 { h.frame with cls } := by
      show (decidedNow through a h).foldl (fun s h => deliver s h.frame 3 cls 9 0) v = _
      rw [ha]
      cases through <;> rfl
    have hslow : v.slowBucket 9 = s.slowBucket 9 := decideFrom_slowBucket s sess _ 9
    have hactive : v.active.isSome = true := by
      rw [show v.active = s.active from decideFrom_active s sess _]
      exact active_of_acceptsOctets hacc
    have hframes : v.objN Obj.SLOW_FRAMES 9 = s.objN Obj.SLOW_FRAMES 9 := objN_of_objs ((decideFrom_frame s sess _).objs rfl) _ _
    have hserved := toSlow_served (s := v) (f := { h.frame with cls }) hactive (hslowq.trans hs) (by rw [hslow]; exact hb) hcls
    rw [hd, ← hframes, ← hslow]
    exact hserved
  clear_value d v
  generalize classDecide s (.classDecideSlow sess h.seq cls through) sess h.seq 3 cls through = w at hrun hnet hobjs htick hans
  refine ⟨_, hrun, fun hnone => hans (hopens hnone), (congrArg Network.held hnet).trans hheld, fun ha hs hb => ?_⟩
  obtain ⟨hcount, hbucket⟩ := hone ha hs hb
  refine ⟨(congrArg Int.toNat (hobjs _ _ (by decide))).trans hcount, Eq.trans ?_ hbucket⟩
  exact slowBucket_of (s := d) (t := w) (hobjs _ _ (by decide)) (hobjs _ _ (by decide)) htick (by rw [hnet])

theorem decided_exvan (hacc : s.acceptsOctets sess Obj.CLASS_DECIDE 0 = true) (hcls : cls ≤ 7) (hm : s.hostMode 8 = true)
    (hh : s.net.held = a ++ h :: b) (ha : ∀ x ∈ a, x.seq ≠ h.seq) :
    ∃ t, exec (.classDecideExvan sess h.seq cls through) s = .next t ∧ t.net.held = (if through then b else a ++ b) ∧
      ∀ p, p = (udpPart (headers h.frame.bytes)).drop 8 → a = [] → (∀ i < 8, mget [] s.net.classes i = []) →
        h.frame.port < 2 → h.frame.tagOk = true → frameFormatOk p = true →
        be p 18 2 = s.objN Obj.NODE_ID 0 ∨ be p 18 2 = 0xFFFF → be p 4 2 = 0 → be p 3 1 = 1 → be p 24 1 ≤ 2 → 0 < be p 20 2 →
        be p 8 4 = 0 → s.keyGenOk (be p 24 1) (be p 7 1) = true →
        t.answered sess 0 Obj.CLASS_DECIDE 0 (.ack []) ∧ t.net.exvanIn = { h.frame with cls } :: s.net.exvanIn := by
  let v := decideFrom s sess (decidedLeft through a b)
  let d := (decidedNow through a h).foldl (fun s h => deliver s h.frame 1 cls 9 0) v
  obtain ⟨hnet, hobjs, htick, hans⟩ := classDecide_taken (c := .classDecideExvan sess h.seq cls through) (through := through) (d := d) rfl hacc
    (by decide) hcls hm hh ha rfl
  have hrun : exec (.classDecideExvan sess h.seq cls through) s =
      finish s (classDecide s (.classDecideExvan sess h.seq cls through) sess h.seq 1 cls through) := rfl
  obtain ⟨m, full, hfrom⟩ := decideFrom_net s sess (decidedLeft through a b)
  obtain ⟨hclasses, hslowq, hexvan⟩ := decideFrom_kept s sess (decidedLeft through a b)
  have hheld : d.net.held = decidedLeft through a b := by
    have hd : Handed v d := .foldl (fun t (k : HeldFrame) => toExvan_handed t k.frame cls) (.refl v)
    exact hd.held.trans (congrArg Network.held hfrom)
  have hopen : a = [] → NoneWaits s → IsOpen s { h.frame with cls } →
      Opens (seen s sess) d ∧ d.net.exvanIn = { h.frame with cls } :: s.net.exvanIn := fun ha hn ho => by
    have hd : d = toExvan v h.frame cls := by
      show (decidedNow through a h).foldl (fun s h => deliver s h.frame 1 cls 9 0) v = _
      rw [ha]
      cases through <;> rfl
    have hactive : v.active.isSome = true := by
      rw [show v.active = s.active from decideFrom_active s sess _]
      exact active_of_acceptsOctets hacc
    have hnv : NoneWaits v := fun i hi => by
      rw [show v.net.classes = s.net.classes from hclasses]
      exact hn i hi
    have hkeys : v.ex.prevKeys = s.ex.prevKeys := by
      show (seen s sess).ex.prevKeys = s.ex.prevKeys
      unfold seen
      split <;> rfl
    have hobj (x i : Nat) : v.objN x i = s.objN x i := objN_of_objs ((decideFrom_frame s sess _).objs rfl) _ _
    have hov : IsOpen v { h.frame with cls } := by
      refine { ho with dest := by rw [hobj]; exact ho.dest, key := ?_ }
      have hkey := ho.key
      unfold State.keyGenOk at hkey ⊢
      rw [hobj, hkeys]
      exact hkey
    obtain ⟨hin, hsessions⟩ := toExvan_open (s := v) (f := h.frame) hactive hcls hnv hov
    rw [hd]
    refine ⟨(decideFrom_opens s sess _).trans (.upd hsessions (.refl v)), hin.trans ?_⟩
    rw [show v.net.exvanIn = s.net.exvanIn from hexvan]
  clear_value d v
  generalize classDecide s (.classDecideExvan sess h.seq cls through) sess h.seq 1 cls through = w at hrun hnet hans
  refine ⟨_, hrun, (congrArg Network.held hnet).trans hheld, fun p hp ha hn hport htag hformat hdest hnum hop hlevel hbody hseq hkey => ?_⟩
  have hpay : RxFrame.exvan { h.frame with cls } = p := by
    rw [hp]
    exact if_neg (show ¬ h.frame.port = 2 by omega)
  obtain ⟨hopens, hin⟩ := hopen ha hn (by
    constructor
    · exact hport
    · exact htag
    all_goals rw [hpay]
    · exact hformat
    · exact hdest
    · exact hnum
    · exact hop
    · exact hlevel
    · exact hbody
    · exact hseq
    · exact hkey)
  exact ⟨hans hopens, (congrArg Network.exvanIn hnet).trans hin⟩

end

end Sys2Proof.Proofs

/-!
SUPPORT. Rule sets (R392 to R394), and the statement about reception and classification.
-/

namespace Sys2Proof.Proofs

open Sys2Proof Sys2Proof.Machine Sys2Proof.Laws

section

variable {s t u : State} {sess : Nat}

/-! ### RULES_APPLY and RULES_STORE -/

theorem effRulesApply_eq (s : State) : effRulesApply s =
    if s.net.rules.retaining.isSome = true ∨ s.net.rules.checking.isSome = true then (s, .nak .busy)
    else (s.setRules { s.net.rules with checking := some s.tick }, .owe .rulesApply) := rfl

theorem rulesApply_runs (h : s.accepts sess Obj.RULES_APPLY 0 1 = true) :
    ∃ t, exec (.rulesApply sess) s = .next t ∧
      if s.net.rules.retaining.isSome = true ∨ s.net.rules.checking.isSome = true then
        t.answered sess 0 Obj.RULES_APPLY 0 (.nak .busy 0 0) ∧ Frame [.ex] s t
      else
        t.net.rules = { s.net.rules with checking := some s.tick } ∧ (∃ o ∈ t.ex.owed, o.kind = .rulesApply ∧ o.sess = sess) ∧
          Frame [.ex, .net] s t := by
  have hrun : exec (.rulesApply sess) s = finish s (hostWrite s sess Obj.RULES_APPLY 0 1 effRulesApply) := rfl
  have heff := effRulesApply_eq (seen s sess)
  rw [net_seen] at heff
  by_cases hb : s.net.rules.retaining.isSome = true ∨ s.net.rules.checking.isSome = true
  · rw [if_pos hb] at heff
    obtain ⟨hans, hframe⟩ := hostWrite_refused h heff (by decide)
    refine ⟨_, hrun, ?_⟩
    rw [if_pos hb]
    exact ⟨hans, frame_sealed hframe (by decide)⟩
  · rw [if_neg hb] at heff
    rw [hostWrite_owe h heff] at hrun
    refine ⟨_, hrun, ?_⟩
    rw [if_neg hb]
    have hframe : Frame [.ex, .net] s (((seen s sess).setRules { s.net.rules with checking := some (seen s sess).tick }).owe .rulesApply sess 0 Obj.RULES_APPLY 0) :=
      .step (State.owe_frame _ _ _ _ _ _) (by decide) (.set_net (by decide) ((seen_frame s sess).mono (by decide)))
    refine ⟨?_, ⟨_, List.mem_append_right _ (List.mem_singleton.mpr rfl), rfl, rfl⟩, frame_sealed hframe (by decide)⟩
    exact congrArg (fun k => { s.net.rules with checking := some k }) ((seen_frame s sess).tick rfl)

theorem alwaysPrograms_rules : alwaysPrograms .rules := ⟨by simp, fun _ => List.cons_ne_nil _ _⟩

theorem effRulesStore_eq (s : State) : effRulesStore s =
    if s.flashOk = false then (s, .nak .state)
    else if s.flashBusy = true then (s, .nak .busy)
    else ({ s with dev := { s.dev with store := some { kind := .rules, regions := [0] } } }, .ack) := by
  have hstart : startStore s .rules = { s with dev := { s.dev with store := some { kind := .rules, regions := [0] } } } :=
    startStore_runs alwaysPrograms_rules.1 (alwaysPrograms_rules.2 s)
  unfold effRulesStore
  rw [hstart]
  exact if_congr (by simp) rfl rfl

theorem rulesStore_runs (h : s.accepts sess Obj.RULES_STORE 0 1 = true) :
    ∃ t, exec (.rulesStore sess) s = .next t ∧
      if s.flashOk = false then t.answered sess 0 Obj.RULES_STORE 0 (.nak .state 0 0) ∧ Frame [.ex] s t
      else if s.flashBusy = true then t.answered sess 0 Obj.RULES_STORE 0 (.nak .busy 0 0) ∧ Frame [.ex] s t
      else t.answered sess 0 Obj.RULES_STORE 0 (.ack []) ∧ t.dev.store = some { kind := .rules, regions := [0] } := by
  have hrun : exec (.rulesStore sess) s = finish s (hostWrite s sess Obj.RULES_STORE 0 1 effRulesStore) := rfl
  have heff := effRulesStore_eq (seen s sess)
  have hok : (seen s sess).flashOk = s.flashOk := congrArg Thermal.flashOk ((seen_frame s sess).therm rfl)
  have hbusy : (seen s sess).flashBusy = s.flashBusy := congrArg (fun d => d.store.isSome) ((seen_frame s sess).dev rfl)
  rw [hok, hbusy] at heff
  refine ⟨_, hrun, ?_⟩
  by_cases h1 : s.flashOk = false
  · rw [if_pos h1] at heff
    obtain ⟨hans, hframe⟩ := hostWrite_refused h heff (by decide)
    rw [if_pos h1]
    exact ⟨hans, frame_sealed hframe (by decide)⟩
  rw [if_neg h1] at heff
  by_cases h2 : s.flashBusy = true
  · rw [if_pos h2] at heff
    obtain ⟨hans, hframe⟩ := hostWrite_refused h heff (by decide)
    rw [if_neg h1, if_pos h2]
    exact ⟨hans, frame_sealed hframe (by decide)⟩
  · rw [if_neg h2] at heff
    obtain ⟨hans, hframe⟩ := hostWrite_ack h heff (opens_of_ex rfl)
    rw [if_neg h1, if_neg h2]
    generalize hostWrite s sess Obj.RULES_STORE 0 1 effRulesStore = w at hans hframe
    exact ⟨hans, (congrArg Device.store (hframe.dev rfl) :)⟩

/-! ### The end of the old bank's retention -/

theorem retainEnd_done {g k : Nat} (hr : s.net.rules.retaining = some (g, k)) (ho : s.oldFrames g = []) :
    retainEnd s = s.setRules { s.net.rules with retaining := none } := by
  unfold retainEnd
  rw [hr]
  exact if_pos (by rw [ho]; rfl)

theorem retainEnd_waits {g k : Nat} (hr : s.net.rules.retaining = some (g, k)) (ho : s.oldFrames g ≠ []) (he : s.elapsed k 100000 = false) :
    retainEnd s = s := by
  unfold retainEnd
  rw [hr]
  refine (if_neg (by simpa using ho)).trans (if_neg ?_)
  rw [he]
  exact Bool.false_ne_true

theorem retainEnd_lapses {g k : Nat} (hr : s.net.rules.retaining = some (g, k)) (ho : s.oldFrames g ≠ []) (he : s.elapsed k 100000 = true) :
    (retainEnd s).net.rules = { s.net.rules with retaining := none } ∧ (retainEnd s).net.recirc = s.net.recirc.filter fun f => f.gen ≠ g := by
  let v : State := { s.setRules { s.net.rules with retaining := none } with net :=
    { (s.setRules { s.net.rules with retaining := none }).net with recirc := s.net.recirc.filter fun f => f.gen != g } }
  have heq : retainEnd s = raiseS ((s.oldFrames g).foldl (fun s f => toSlow s 6 0 f) v) 0x8012 [.word g, .word (s.oldFrames g).length] := by
    unfold retainEnd
    rw [hr]
    exact (if_neg (by simpa using ho)).trans (if_pos he)
  have hv : Handed v ((s.oldFrames g).foldl (fun s f => toSlow s 6 0 f) v) := .foldl (fun t f => toSlow_handed t 6 0 f) (.refl v)
  have hnet : (retainEnd s).net = ((s.oldFrames g).foldl (fun s f => toSlow s 6 0 f) v).net := by
    rw [heq]
    exact (raiseS_frame _ _ _).net rfl
  rw [hnet, hv.rules, hv.recirc]
  refine ⟨rfl, ?_⟩
  show (s.net.recirc.filter fun f => f.gen != g) = _
  exact List.filter_congr fun f _ => by rw [bne, beq_eq_decide, decide_not]

theorem rulesRetainEnd_runs {g k : Nat} (hr : s.net.rules.retaining = some (g, k)) :
    ∃ t, exec .rulesRetainEnd s = .next t ∧
      if s.oldFrames g = [] then t.net.rules = { s.net.rules with retaining := none } ∧ t.net.recirc = s.net.recirc
      else if s.elapsed k 100000 = true then
        t.net.rules = { s.net.rules with retaining := none } ∧ t.net.recirc = (s.net.recirc.filter fun f => f.gen ≠ g)
      else Frame [.ex] s t := by
  have hrun : exec .rulesRetainEnd s = finish s (retainEnd s) := rfl
  by_cases ho : s.oldFrames g = []
  · rw [retainEnd_done hr ho] at hrun
    refine ⟨_, hrun, ?_⟩
    rw [if_pos ho]
    exact ⟨rfl, rfl⟩
  cases he : s.elapsed k 100000 with
  | true =>
    obtain ⟨hrules, hrecirc⟩ := retainEnd_lapses hr ho he
    generalize retainEnd s = w at hrun hrules hrecirc
    refine ⟨_, hrun, ?_⟩
    rw [if_neg ho, if_pos rfl]
    exact ⟨hrules, hrecirc⟩
  | false =>
    rw [retainEnd_waits hr ho he] at hrun
    refine ⟨_, hrun, ?_⟩
    rw [if_neg ho, if_neg Bool.false_ne_true]
    exact frame_sealed (.refl s) (by decide)

/-! ### The check of a rule set -/

/-- The banks after a rule set becomes active. -/
def swappedRules (s : State) (old : Nat) : Rules :=
  { s.net.rules with bank := s.net.rules.shadow, shadow := s.net.rules.bank, checking := none, retaining := some (old, s.tick) }

/-- The objects of a rule set that becomes active. -/
def bankObjs (s : State) (old : Nat) : State :=
  (((s.setObjN Obj.RULES_GEN 0 (nextGen old)).setObjN Obj.RULES_ACTIVE_BANK 0 (1 - s.objN Obj.RULES_ACTIVE_BANK 0)).setObjN
    Obj.RULES_FAIL_NODE 0 0).setObjN Obj.RULES_FAIL_CHECK 0 0

/-- The state in which the old bank is retained. -/
def swapped (s : State) : State :=
  let v := bankObjs (s.setRules (swappedRules s (s.objN Obj.RULES_GEN 0))) (s.objN Obj.RULES_GEN 0)
  settleOwed (raiseS v 0x8010 [.word (v.obj Obj.RULES_GEN 0), .word (v.obj Obj.RULES_ACTIVE_BANK 0)]) .rulesApply (.ack [])

theorem swapBanks_eq (s : State) : swapBanks s = retainEnd (swapped s) := rfl

theorem bankObjs_values (s : State) (old : Nat) : (bankObjs s old).objN Obj.RULES_GEN 0 = nextGen old ∧
    (bankObjs s old).objN Obj.RULES_ACTIVE_BANK 0 = 1 - s.objN Obj.RULES_ACTIVE_BANK 0 := by
  constructor
  · refine (objN_setObjN_addr (by decide)).trans ((objN_setObjN_addr (by decide)).trans ((objN_setObjN_addr (by decide)).trans ?_))
    exact objN_setObjN_self _ _ _ _
  · refine (objN_setObjN_addr (by decide)).trans ((objN_setObjN_addr (by decide)).trans ?_)
    exact objN_setObjN_self _ _ _ _

theorem swapped_facts (s : State) : (swapped s).net = (s.setRules (swappedRules s (s.objN Obj.RULES_GEN 0))).net ∧ (swapped s).tick = s.tick ∧
    (swapped s).objN Obj.RULES_GEN 0 = nextGen (s.objN Obj.RULES_GEN 0) ∧
    (swapped s).objN Obj.RULES_ACTIVE_BANK 0 = 1 - s.objN Obj.RULES_ACTIVE_BANK 0 := by
  have hvalues := bankObjs_values (s.setRules (swappedRules s (s.objN Obj.RULES_GEN 0))) (s.objN Obj.RULES_GEN 0)
  have hnet : (bankObjs (s.setRules (swappedRules s (s.objN Obj.RULES_GEN 0))) (s.objN Obj.RULES_GEN 0)).net =
    (s.setRules (swappedRules s (s.objN Obj.RULES_GEN 0))).net := rfl
  have htick : (bankObjs (s.setRules (swappedRules s (s.objN Obj.RULES_GEN 0))) (s.objN Obj.RULES_GEN 0)).tick = s.tick := rfl
  unfold swapped
  generalize bankObjs (s.setRules (swappedRules s (s.objN Obj.RULES_GEN 0))) (s.objN Obj.RULES_GEN 0) = v at hvalues hnet htick
  extract_lets w
  have hobj (a : Nat) (ha : a ≠ Obj.RING_DROPPED) (d : List EvItem) :
      (settleOwed (raiseS v 0x8010 d) .rulesApply (.ack [])).objN a 0 = v.objN a 0 :=
    congrArg Int.toNat ((settleOwed_objs _ _ _ a 0 (by simpa [eventObjs] using ha)).trans (raiseS_obj ha v _ _))
  refine ⟨?_, ?_, (hobj _ (by decide) _).trans hvalues.1, (hobj _ (by decide) _).trans hvalues.2⟩
  · rw [settleOwed_net]
    exact ((raiseS_frame v _ _).net rfl).trans hnet
  · rw [settleOwed_tick]
    exact ((raiseS_frame v _ _).tick rfl).trans htick

theorem elapsed_self (s : State) {k n : Nat} (hk : k = s.tick) (hn : 0 < n) : s.elapsed k n = false := by
  subst hk
  unfold State.elapsed
  rw [Nat.sub_self]
  exact decide_eq_false (by omega)

theorem swapBanks_swaps (s : State) : (swapBanks s).net.rules = { swappedRules s (s.objN Obj.RULES_GEN 0) with
      retaining := if s.oldFrames (s.objN Obj.RULES_GEN 0) = [] then none else some (s.objN Obj.RULES_GEN 0, s.tick) } ∧
    (swapBanks s).objN Obj.RULES_GEN 0 = nextGen (s.objN Obj.RULES_GEN 0) ∧
    (swapBanks s).objN Obj.RULES_ACTIVE_BANK 0 = 1 - s.objN Obj.RULES_ACTIVE_BANK 0 := by
  obtain ⟨hnet, htick, hgen, hbank⟩ := swapped_facts s
  rw [swapBanks_eq]
  generalize swapped s = v at hnet htick hgen hbank
  have hret : v.net.rules.retaining = some (s.objN Obj.RULES_GEN 0, s.tick) := by rw [hnet]; rfl
  have hrules : v.net.rules = swappedRules s (s.objN Obj.RULES_GEN 0) := by rw [hnet]; rfl
  have hold : v.oldFrames (s.objN Obj.RULES_GEN 0) = s.oldFrames (s.objN Obj.RULES_GEN 0) := by
    unfold State.oldFrames
    rw [hnet]
    rfl
  by_cases ho : s.oldFrames (s.objN Obj.RULES_GEN 0) = []
  · rw [retainEnd_done hret (hold.trans ho), if_pos ho, ← hrules]
    exact ⟨rfl, hgen, hbank⟩
  · rw [retainEnd_waits hret (by rw [hold]; exact ho) (elapsed_self v htick.symm (by decide)), if_neg ho, hrules]
    exact ⟨rfl, hgen, hbank⟩

theorem rulesCheckDone_runs {k old : Nat} (hk : s.net.rules.checking = some k) (ho : old = s.objN Obj.RULES_GEN 0) :
    ∃ t, exec .rulesCheckDone s = .next t ∧ t.net.rules.checking = none ∧
      match ruleFault s.net.rules.shadow with
      | none =>
        t.net.rules.bank = s.net.rules.shadow ∧ t.net.rules.shadow = s.net.rules.bank ∧ t.objN Obj.RULES_GEN 0 = nextGen old ∧
          t.objN Obj.RULES_ACTIVE_BANK 0 = 1 - s.objN Obj.RULES_ACTIVE_BANK 0 ∧
          t.net.rules.retaining = (if s.oldFrames old = [] then none else some (old, s.tick))
      | some (n, c) =>
        t.net.rules.bank = s.net.rules.bank ∧ t.net.rules.shadow = s.net.rules.shadow ∧
          t.obj Obj.RULES_GEN 0 = s.obj Obj.RULES_GEN 0 ∧ t.objN Obj.RULES_FAIL_NODE 0 = n ∧ t.objN Obj.RULES_FAIL_CHECK 0 = c := by
  subst ho
  cases hf : ruleFault s.net.rules.shadow with
  | none =>
    have hrun : exec .rulesCheckDone s = finish s (swapBanks s) := by
      show finish s _ = _
      rw [hk, hf]
    obtain ⟨hrules, hgen, hbank⟩ := swapBanks_swaps s
    generalize swapBanks s = w at hrun hrules hgen hbank
    exact ⟨_, hrun, (congrArg Rules.checking hrules :), (congrArg Rules.bank hrules :), (congrArg Rules.shadow hrules :), hgen, hbank,
      (congrArg Rules.retaining hrules :)⟩
  | some p =>
    obtain ⟨n, c⟩ := p
    let v := ((s.setRules { s.net.rules with checking := none }).setObjN Obj.RULES_FAIL_NODE 0 n).setObjN Obj.RULES_FAIL_CHECK 0 c
    have hrun : exec .rulesCheckDone s = finish s (settleOwed (raiseS v 0x8011 [.word n, .word c]) .rulesApply (.nak .format 0 0)) := by
      show finish s _ = _
      rw [hk, hf]
    have hnet : v.net.rules = { s.net.rules with checking := none } := rfl
    have hgen : v.obj Obj.RULES_GEN 0 = s.obj Obj.RULES_GEN 0 :=
      (obj_setObj_addr _ (by decide)).trans (obj_setObj_addr _ (by decide))
    have hnode : v.objN Obj.RULES_FAIL_NODE 0 = n := (objN_setObjN_addr (by decide)).trans (objN_setObjN_self _ _ _ _)
    have hcheck : v.objN Obj.RULES_FAIL_CHECK 0 = c := objN_setObjN_self _ _ _ _
    clear_value v
    have hnets : (settleOwed (raiseS v 0x8011 [.word n, .word c]) .rulesApply (.nak .format 0 0)).net = v.net := by
      rw [settleOwed_net]
      exact (raiseS_frame v _ _).net rfl
    have hobj (a : Nat) (ha : a ≠ Obj.RING_DROPPED) :
        (settleOwed (raiseS v 0x8011 [.word n, .word c]) .rulesApply (.nak .format 0 0)).obj a 0 = v.obj a 0 :=
      (settleOwed_objs _ _ _ a 0 (by simpa [eventObjs] using ha)).trans (raiseS_obj ha v _ _)
    generalize settleOwed (raiseS v 0x8011 [.word n, .word c]) .rulesApply (.nak .format 0 0) = w at hrun hnets hobj
    have hrules : w.net.rules = { s.net.rules with checking := none } := by rw [hnets, hnet]
    exact ⟨_, hrun, (congrArg Rules.checking hrules :), (congrArg Rules.bank hrules :), (congrArg Rules.shadow hrules :),
      (hobj _ (by decide)).trans hgen, (congrArg Int.toNat (hobj Obj.RULES_FAIL_NODE (by decide))).trans hnode,
      (congrArg Int.toNat (hobj Obj.RULES_FAIL_CHECK (by decide))).trans hcheck⟩

end

/-- Settles O54: each clause is the lemma about its frame, decision or rule set. -/
theorem classification : Obligations.Classification := by
  unfold Obligations.Classification
  exact ⟨fun x bytes fcsOk tagOk s h => frameReceive_ignored h,
    fun p h => unslip_slip h,
    fun p fcsOk tagOk s hp hr hf => uart_rejects hp hr hf,
    fun x c bytes fcsOk tagOk s hx hu hp hm hh hc => frameReceive_macDrop hx hu hp hm hh hc,
    fun x bytes fcsOk tagOk s hx hu hp hm hh hc hs => frameReceive_checksumDrop hx hu hp hm hh hc hs,
    fun x bytes nd fcsOk tagOk f s hx hu hp hm hh hc hs ho hg hf hn ha h3 h6 => frameReceive_walks hx hu hp hm hh hc hs ho hg hf hn ha h3 h6,
    fun x bytes fcsOk tagOk s hx hu hp hm hl hh hc hs ho hg => frameReceive_held hx hu hp hm hl hh hc hs ho hg,
    fun f rest nd s hr hn hg hd ha h3 h6 => recirculationPass_ends hr hn hg hd ha h3 h6,
    fun sess seq cls through c s h hc hr => classDecide_naks h hc hr,
    fun sess cls through h a b s hacc hcls hm hh ha =>
      ⟨decided_drops hacc hcls hm hh ha, decided_ptp hacc hcls hm hh ha, decided_slow hacc hcls hm hh ha, decided_exvan hacc hcls hm hh ha⟩,
    fun sess s h => rulesApply_runs h,
    fun k old s hk ho => by
      have hruns := rulesCheckDone_runs hk ho
      generalize ruleFault s.net.rules.shadow = r at hruns ⊢
      exact hruns,
    fun g k s hr => rulesRetainEnd_runs hr,
    fun sess s h => rulesStore_runs h⟩

end Sys2Proof.Proofs

/-!
SUPPORT. The time servo (R434 to R438): what its judgements leave, its law, and an update by the measurement that is named.
-/

namespace Sys2Proof.Proofs

open Sys2Proof Sys2Proof.Machine Sys2Proof.Laws

/-- From the first state to the second the servo's state, its runs and its alarm change, and what an event changes, alone. -/
structure ServoJudged (s t : State) : Prop where
  time : t.time = { s.time with servo := t.time.servo, lockRun := t.time.lockRun, unlockRun := t.time.unlockRun,
                                holdoverAt := t.time.holdoverAt, alarmRun := t.time.alarmRun, alarmRaised := t.time.alarmRaised }
  objs : ObjsOnly [Obj.SERVO_STATE, Obj.RING_DROPPED] s t
  funcs : t.funcs = s.funcs

section

variable {s t u : State} {o ts a e i r : Int}

theorem ServoJudged.refl (s : State) : ServoJudged s s := ⟨rfl, .refl s, rfl⟩

theorem ServoJudged.trans (h : ServoJudged s t) (k : ServoJudged t u) : ServoJudged s u :=
  ⟨by rw [k.time, h.time], h.objs.trans k.objs, k.funcs.trans h.funcs⟩

theorem ServoJudged.ite {p : Prop} [Decidable p] (h : ServoJudged s t) (k : ServoJudged s u) : ServoJudged s (if p then t else u) := by
  split <;> assumption

theorem raiseA_servoJudged (s : State) (code : Nat) (data : List EvItem) : ServoJudged s (raiseA s code data) :=
  ⟨by rw [raiseA_time], .raiseA (by decide) (.refl s), (raiseA_frame s code data).funcs rfl⟩

theorem setServo_servoJudged (s : State) (v : Servo) : ServoJudged s (setServo s v) := by
  unfold setServo
  extract_lets old u
  have hu : ServoJudged s (u.setObjN Obj.SERVO_STATE 0 v.code) := ⟨rfl, .setObjN (by decide) (.refl s), rfl⟩
  exact .ite (.refl s) (hu.trans (raiseA_servoJudged _ _ _))

theorem judgeLock_servoJudged (s : State) (o : Int) (held : Bool) : ServoJudged s (judgeLock s o held) := by
  unfold judgeLock
  extract_lets good u v
  have hu : ServoJudged s u := .ite (setServo_servoJudged s _) (.refl s)
  have hv : ServoJudged s v := hu.trans ⟨rfl, .refl u, rfl⟩
  split
  · exact .ite (hv.trans (setServo_servoJudged v _)) hv
  · exact .ite (hv.trans (setServo_servoJudged v _)) hv
  · exact hv

theorem judgeAlarm_servoJudged (s : State) (o : Int) : ServoJudged s (judgeAlarm s o) := by
  unfold judgeAlarm
  extract_lets u
  have hu : ServoJudged s u := ⟨rfl, .refl s, rfl⟩
  have hraised : ServoJudged u (u.updTime fun t => { t with alarmRaised := true }) := ⟨rfl, .refl u, rfl⟩
  exact .ite ⟨rfl, .refl s, rfl⟩ (.ite ((hu.trans hraised).trans (raiseA_servoJudged _ _ _)) hu)

/-! ### The boundary of the servo's mode -/

theorem rateLate_hardware (h : s.hostMode 6 = false) : s.rateLate = false := by
  unfold State.rateLate
  rw [h]
  rfl

/-- In hardware mode with nothing pending an update takes the rate back, where the host has set it before. -/
theorem servoBoundary_hardware (hm : s.hostMode 6 = false) (hp : (s.func 6).pending = none) : servoBoundary s =
    if s.time.hostStarted = true then s.updTime fun t => { t with integ := -s.obj Obj.TIME_RATE 0, rateDeadline := none, hostStarted := false }
    else s := by
  unfold servoBoundary
  rw [rateLate_hardware hm, if_neg Bool.false_ne_true, atModeBoundary_idle hp]
  extract_lets v was host
  have hhost : host = false := hm
  have hwas : was = s.time.hostStarted := rfl
  rw [hhost, hwas]
  cases s.time.hostStarted <;> rfl

/-! ### The law -/

theorem setRate_sets (s : State) (r : Int) : (setRate s r).obj Obj.TIME_RATE 0 = r ∧
    (setRate s r).obj Obj.ADDEND 0 = addendNominal + floorDiv (addendNominal * r) 1073741824 :=
  ⟨(obj_setObj_addr _ (by decide)).trans (obj_setObj ..), obj_setObj ..⟩

theorem setRate_objs (s : State) (r : Int) : ObjsOnly [Obj.TIME_RATE, Obj.ADDEND] s (setRate s r) :=
  .setObj (by decide) (.setObj (by decide) (.refl s))

theorem servoLaw_eq (hts : ts ≠ 0) (he : e = floorDiv (o * 1073741824) ts)
    (hi : i = clampRate (s.time.integ + floorDiv (e * s.obj Obj.SERVO_KI 0) 32768))
    (hr : r = clampRate (-(floorDiv (e * s.obj Obj.SERVO_KP 0) 32768 + i))) :
    servoLaw s o ts = setRate (s.updTime fun t => { t with integ := i }) r := by
  unfold servoLaw
  rw [if_neg hts, ← he]
  subst hr hi
  rfl

theorem noteRate_rates (s : State) : (noteRate s).time = { s.time with rates := (s.obj Obj.TIME_RATE 0 :: s.time.rates).take 4096 } := rfl

theorem noteRate_obj (s : State) (x y : Nat) : (noteRate s).obj x y = s.obj x y := rfl

/-- The state that an update leaves its offset in. -/
def offsetNoted (s : State) (o : Int) : State :=
  (s.setObj Obj.TIME_OFFSET 0 (clampInt (-2147483647) 2147483647 o)).incWrap Obj.TIME_OFFSET_SEQ 0

theorem offsetNoted_values (s : State) (o : Int) : (offsetNoted s o).obj Obj.TIME_OFFSET 0 = clampInt (-2147483647) 2147483647 o ∧
    (offsetNoted s o).objN Obj.TIME_OFFSET_SEQ 0 = (s.objN Obj.TIME_OFFSET_SEQ 0 + 1) % 0x100000000 := by
  constructor
  · exact (obj_setObj_addr _ (by decide)).trans (obj_setObj ..)
  · refine (objN_setObjN_self _ _ _ _).trans ?_
    rw [show (s.setObj Obj.TIME_OFFSET 0 (clampInt (-2147483647) 2147483647 o)).objN Obj.TIME_OFFSET_SEQ 0 = s.objN Obj.TIME_OFFSET_SEQ 0 from
      congrArg Int.toNat (obj_setObj_addr _ (by decide))]

theorem offsetNoted_objs (s : State) (o : Int) : ObjsOnly [Obj.TIME_OFFSET, Obj.TIME_OFFSET_SEQ] s (offsetNoted s o) :=
  .setObjN (by decide) (.setObj (by decide) (.refl s))

theorem servoUpdate_law {held : Bool} (hm : s.hostMode 6 = false) (hp : (s.func 6).pending = none) (hs : s.time.hostStarted = false)
    (hv : s.time.servo ≠ .unset) : servoUpdate s o ts a held = noteRate (servoLaw (judgeAlarm (judgeLock (offsetNoted s o) o held) o) o ts) := by
  have hb : servoBoundary (offsetNoted s o) = offsetNoted s o := by
    rw [servoBoundary_hardware (s := offsetNoted s o) hm hp]
    exact if_neg (by rw [show (offsetNoted s o).time.hostStarted = false from hs]; exact Bool.false_ne_true)
  have hmode : (judgeAlarm (judgeLock (offsetNoted s o) o held) o).hostMode 6 = false := by
    have hfuncs := ((judgeLock_servoJudged (offsetNoted s o) o held).trans (judgeAlarm_servoJudged _ o)).funcs
    generalize judgeAlarm (judgeLock (offsetNoted s o) o held) o = w at hfuncs
    unfold State.hostMode State.func at hm ⊢
    rw [hfuncs]
    exact hm
  have heq : servoUpdate s o ts a held = if (servoBoundary (offsetNoted s o)).time.servo = .unset then fitUpdate (servoBoundary (offsetNoted s o)) a o
      else noteRate (if (judgeAlarm (judgeLock (servoBoundary (offsetNoted s o)) o held) o).hostMode 6 = true then
          judgeAlarm (judgeLock (servoBoundary (offsetNoted s o)) o held) o
        else servoLaw (judgeAlarm (judgeLock (servoBoundary (offsetNoted s o)) o held) o) o ts) := rfl
  rw [heq, hb, if_neg (show ¬ (offsetNoted s o).time.servo = .unset from hv), hmode, if_neg Bool.false_ne_true]

/-- A measurement taken once. -/
theorem takeMeasurement_eq (h : s.time.meas = some (o, ts, a)) :
    takeMeasurement s = servoUpdate (s.updTime fun t => { t with meas := none }) o ts a false := by
  unfold takeMeasurement
  rw [h]

theorem servoUpdate_run (ht : s.ticking = true) (h : s.time.meas = some (o, ts, a)) : exec (.servoUpdate o ts) s =
    finish s (servoUpdate (s.updTime fun t => { t with meas := none }) o ts a false) := by
  rw [← takeMeasurement_eq h]
  exact congrArg (finish s) (if_pos ⟨ht, by rw [h]; rfl⟩)

theorem servoUpdate_ignored (h : s.time.meas.map (fun m => (m.1, m.2.1)) ≠ some (o, ts)) :
    ∃ t, exec (.servoUpdate o ts) s = .next t ∧ Frame [.ex] s t := by
  have hrun : exec (.servoUpdate o ts) s = finish s s := congrArg (finish s) (if_neg fun k => h k.2)
  exact ⟨_, hrun, frame_sealed (.refl s) (by decide)⟩

theorem servoUpdate_moves (ht : s.ticking = true) (hmeas : s.time.meas = some (o, ts, a)) (hv : s.time.servo ≠ .unset) (hts : ts ≠ 0)
    (hm : s.hostMode 6 = false) (hp : (s.func 6).pending = none) (hs : s.time.hostStarted = false) (he : e = floorDiv (o * 1073741824) ts)
    (hi : i = clampRate (s.time.integ + floorDiv (e * s.obj Obj.SERVO_KI 0) 32768))
    (hr : r = clampRate (-(floorDiv (e * s.obj Obj.SERVO_KP 0) 32768 + i))) :
    ∃ t, exec (.servoUpdate o ts) s = .next t ∧ t.time.meas = none ∧ t.obj Obj.TIME_OFFSET 0 = clampInt (-2147483647) 2147483647 o ∧
      t.objN Obj.TIME_OFFSET_SEQ 0 = (s.objN Obj.TIME_OFFSET_SEQ 0 + 1) % 0x100000000 ∧ t.time.integ = i ∧
      t.obj Obj.TIME_RATE 0 = r ∧ t.obj Obj.ADDEND 0 = addendNominal + floorDiv (addendNominal * r) 1073741824 ∧
      t.time.rates = (r :: s.time.rates).take 4096 := by
  let v := s.updTime fun t => { t with meas := none }
  have hrun := servoUpdate_run ht hmeas
  rw [servoUpdate_law (s := v) (a := a) hm hp hs hv] at hrun
  have hmeas' : (offsetNoted v o).time = { s.time with meas := none } := rfl
  have hjudged := (judgeLock_servoJudged (offsetNoted v o) o false).trans (judgeAlarm_servoJudged _ o)
  obtain ⟨hoff, hseq⟩ := offsetNoted_values v o
  have hsobj : ∀ x y, x ∉ [Obj.TIME_OFFSET, Obj.TIME_OFFSET_SEQ] → (offsetNoted v o).obj x y = s.obj x y := fun x y h => offsetNoted_objs v o x y h
  have hseqs : v.objN Obj.TIME_OFFSET_SEQ 0 = s.objN Obj.TIME_OFFSET_SEQ 0 := rfl
  generalize offsetNoted v o = n at hrun hmeas' hjudged hoff hseq hsobj
  generalize judgeAlarm (judgeLock n o false) o = w at hrun hjudged
  have htime := hjudged.time
  rw [hmeas'] at htime
  have hobj (x y : Nat) (h : x ∉ [Obj.SERVO_STATE, Obj.RING_DROPPED]) : w.obj x y = n.obj x y := hjudged.objs x y h
  have hlaw := servoLaw_eq (s := w) (o := o) (i := i) (r := r) hts he
    (by rw [show w.time.integ = s.time.integ by rw [htime], hobj _ _ (by decide), hsobj _ _ (by decide)]; exact hi)
    (by rw [hobj _ _ (by decide), hsobj _ _ (by decide)]; exact hr)
  rw [hlaw] at hrun
  obtain ⟨hrate, haddend⟩ := setRate_sets (w.updTime fun t => { t with integ := i }) r
  have hrest := setRate_objs (w.updTime fun t => { t with integ := i }) r
  have htime' : (setRate (w.updTime fun t => { t with integ := i }) r).time = { w.time with integ := i } := rfl
  have hwobj (x y : Nat) : (w.updTime fun t => { t with integ := i }).obj x y = w.obj x y := rfl
  generalize setRate (w.updTime fun t => { t with integ := i }) r = z at hrun hrate haddend hrest htime'
  have hzobj (x y : Nat) (h : x ∉ [Obj.TIME_RATE, Obj.ADDEND]) : z.obj x y = w.obj x y := (hrest x y h).trans (hwobj x y)
  refine ⟨_, hrun, ?_, ?_, ?_, ?_, hrate, haddend, ?_⟩
  · show z.time.meas = none
    rw [htime', htime]
  · exact (hzobj _ _ (by decide)).trans ((hobj _ _ (by decide)).trans hoff)
  · exact (congrArg Int.toNat ((hzobj Obj.TIME_OFFSET_SEQ 0 (by decide)).trans (hobj _ _ (by decide)))).trans hseq
  · show z.time.integ = i
    rw [htime']
  · show (z.obj Obj.TIME_RATE 0 :: z.time.rates).take 4096 = _
    rw [hrate, htime', htime]

theorem servoUpdate_joins (ht : s.ticking = true) (hmeas : s.time.meas = some (o, ts, a)) (hv : s.time.servo = .unset)
    (hl : s.time.pairs.length < 7) (hm : s.hostMode 6 = false) (hp : (s.func 6).pending = none) :
    ∃ t, exec (.servoUpdate o ts) s = .next t ∧ t.time.pairs = (a, o) :: s.time.pairs ∧ t.time.servo = .unset ∧
      t.obj Obj.TIME_RATE 0 = s.obj Obj.TIME_RATE 0 := by
  let v := s.updTime fun t => { t with meas := none }
  have hboundary : (servoBoundary (offsetNoted v o)).time.pairs = s.time.pairs ∧ (servoBoundary (offsetNoted v o)).time.servo = .unset ∧
      (servoBoundary (offsetNoted v o)).obj Obj.TIME_RATE 0 = s.obj Obj.TIME_RATE 0 := by
    have hrate : (offsetNoted v o).obj Obj.TIME_RATE 0 = s.obj Obj.TIME_RATE 0 := offsetNoted_objs v o _ _ (by decide)
    rw [servoBoundary_hardware (s := offsetNoted v o) hm hp]
    split
    · exact ⟨rfl, hv, hrate⟩
    · exact ⟨rfl, hv, hrate⟩
  have hupdate : servoUpdate v o ts a false = fitUpdate (servoBoundary (offsetNoted v o)) a o :=
    if_pos (show (servoBoundary (offsetNoted v o)).time.servo = .unset from hboundary.2.1)
  have hrun := servoUpdate_run ht hmeas
  rw [hupdate] at hrun
  obtain ⟨hpairs, hservo, hrate⟩ := hboundary
  generalize servoBoundary (offsetNoted v o) = w at hrun hpairs hservo hrate
  have htake : ((a, o) :: w.time.pairs).take 8 = (a, o) :: s.time.pairs := by
    rw [hpairs]
    exact List.take_of_length_le (by rw [List.length_cons]; omega)
  have hfit : fitUpdate w a o = w.updTime fun t => { t with pairs := (a, o) :: s.time.pairs } := by
    unfold fitUpdate
    rw [htake]
    refine if_neg fun h => ?_
    have hlen := h.1
    rw [List.length_cons] at hlen
    omega
  rw [hfit] at hrun
  exact ⟨_, hrun, rfl, hservo, hrate⟩

end

end Sys2Proof.Proofs

/-!
SUPPORT. PTP messages (R430, R433, R435, R440), delay requests and the loss of a master.
-/

namespace Sys2Proof.Proofs

open Sys2Proof Sys2Proof.Machine Sys2Proof.Laws

section

variable {s t u : State} {m : PtpMsg} {stamp : Int}

/-! ### Messages ignored and discarded -/

theorem ptpMessage_ignored (h : s.obj Obj.PTP_ENABLE 0 = 0 ∨ s.ticking = false) :
    ∃ t, exec (.ptpMessage m) s = .next t ∧ Frame [.ex] s t := by
  have hrun : exec (.ptpMessage m) s = finish s s :=
    congrArg (finish s) (if_pos (h.imp_right fun h => by rw [h]; exact Bool.false_ne_true))
  exact ⟨_, hrun, frame_sealed (.refl s) (by decide)⟩

theorem takeFrame_none (h : s.ptpFrame m = none) : takeFrame s m = s := by
  unfold takeFrame
  rw [h]

theorem takeFrame_some {f : RxFrame} (h : s.ptpFrame m = some f) :
    takeFrame s m = { s with net := { s.net with ptpIn := (s.net.ptpIn.reverse.erase f).reverse } } := by
  unfold takeFrame
  rw [h]

theorem ptpMessage_discarded (he : s.obj Obj.PTP_ENABLE 0 ≠ 0) (ht : s.ticking = true) (hd : s.ptpDiscards m = true) :
    ∃ t, exec (.ptpMessage m) s = .next t ∧
      t.objN Obj.PTP_RX_DISCARDS 0 = (s.objN Obj.PTP_RX_DISCARDS 0 + 1) % 2 ^ 64 ∧ Frame [.ex, .objs, .net] s t ∧
      (s.ptpFrame m = none → t.net = s.net) ∧
      ∀ f, s.ptpFrame m = some f → t.net = { s.net with ptpIn := (s.net.ptpIn.reverse.erase f).reverse } := by
  have hrun : exec (.ptpMessage m) s = finish s ((takeFrame s m).inc64 Obj.PTP_RX_DISCARDS 0) := by
    refine congrArg (finish s) ((if_neg ?_).trans (if_pos hd))
    rintro (h | h)
    · exact he h
    · exact h ht
  have hframe := takeFrame_frame s m
  have hcount := objN_inc64_self (takeFrame s m) Obj.PTP_RX_DISCARDS 0 1
  rw [objN_of_objs (hframe.objs rfl)] at hcount
  have hall : Frame [.ex, .objs, .net] s ((takeFrame s m).inc64 Obj.PTP_RX_DISCARDS 0) :=
    .step (State.inc64_frame _ _ _ _) (by decide) (hframe.mono (by decide))
  refine ⟨_, hrun, hcount, frame_sealed hall (by decide), fun h => ?_, fun f h => ?_⟩
  · show (takeFrame s m).net = _
    rw [takeFrame_none h]
  · show (takeFrame s m).net = _
    rw [takeFrame_some h]

theorem ptpMessage_run (he : s.obj Obj.PTP_ENABLE 0 ≠ 0) (ht : s.ticking = true) (hd : s.ptpDiscards m = false)
    (hm : m.transport = s.objN Obj.PTP_TRANSPORT 0) : exec (.ptpMessage m) s = finish s (ptpTake (takeFrame s m) (s.stamped m)) := by
  refine congrArg (finish s) ((if_neg ?_).trans ((if_neg (by rw [hd]; exact Bool.false_ne_true)).trans (if_neg fun h => h hm)))
  rintro (h | h)
  · exact he h
  · exact h ht

/-! ### Announce -/

theorem selectMaster_masters (s : State) : (selectMaster s).time.masters = s.time.masters := by
  unfold selectMaster
  split
  · rfl
  · split
    · rfl
    · rw [raiseA_time]
      rfl

theorem announceIn_lists (hn : s.masterOf m.src = none) (hl : s.time.masters.length < 8) : (announceIn s m).time.masters =
    s.time.masters ++ [⟨m.src, m.rank, none, s.tick, none, m.utc, m.interval, 0⟩] := by
  have hany : (s.time.masters.any fun x => x.id == m.src) = false := by
    rw [List.any_eq_false]
    exact List.find?_eq_none.mp hn
  have hput : (s.putMaster ⟨m.src, m.rank, none, s.tick, none, m.utc, m.interval, 0⟩).time.masters =
      s.time.masters ++ [⟨m.src, m.rank, none, s.tick, none, m.utc, m.interval, 0⟩] := by
    unfold State.putMaster
    dsimp only
    rw [hany, if_neg Bool.false_ne_true, if_pos hl]
    rfl
  have hsel : ∀ v : State, (if v.time.master = some m.src then v.setObj Obj.UTC_OFFSET 0 m.utc else v).time.masters = v.time.masters := fun v => by
    split <;> rfl
  unfold announceIn
  rw [hn]
  exact (hsel _).trans ((selectMaster_masters _).trans hput)

theorem announceIn_utc (h : (announceIn s m).time.master = some m.src) : (announceIn s m).obj Obj.UTC_OFFSET 0 = m.utc := by
  have hsel : ∀ v : State, (if v.time.master = some m.src then v.setObj Obj.UTC_OFFSET 0 m.utc else v).time.master = some m.src →
      (if v.time.master = some m.src then v.setObj Obj.UTC_OFFSET 0 m.utc else v).obj Obj.UTC_OFFSET 0 = m.utc := fun v hv => by
    split at hv
    · next hm =>
      rw [if_pos hm]
      exact obj_setObj ..
    · next hm => exact absurd hv hm
  unfold announceIn at h ⊢
  exact hsel _ h

/-! ### Sync -/

theorem putMaster_time (s : State) (x : Master) : ∃ l, s.putMaster x = s.updTime fun t => { t with masters := l } := ⟨_, rfl⟩

theorem syncIn_measures (hm : s.time.master = some m.src) (h2 : m.twoStep = false) :
    (syncIn s m).time.syncDiff = some (m.stamp - m.origin - m.correction) ∧ (syncIn s m).time.lastOrigin = some m.origin ∧
      ∀ p, s.time.lastOrigin = some p →
        (syncIn s m).time.meas = (if s.time.freshDelay = true then
          some (m.stamp - m.origin - m.correction - s.pathDelay, m.origin - p, m.stamp) else s.time.meas) := by
  have hput : ∃ l, syncIn s m = measure (s.updTime fun t => { t with masters := l }) m.origin m.stamp m.correction := by
    have hstep (v : State) (hv : v.time.master = some m.src) :
        (if v.time.master ≠ some m.src then v
          else if m.twoStep = true then v.updTime fun t => { t with pendingSync := some (m.seq, m.stamp, m.correction) }
          else measure v m.origin m.stamp m.correction) = measure v m.origin m.stamp m.correction := by
      rw [if_neg (not_not.mpr hv), h2, if_neg Bool.false_ne_true]
    unfold syncIn
    dsimp only
    split
    · next x hx =>
      obtain ⟨l, hl⟩ := putMaster_time s { x with lastSync := some s.tick, logSync := m.interval }
      exact ⟨l, by rw [hl]; exact hstep (s.updTime fun t => { t with masters := l }) hm⟩
    · exact ⟨s.time.masters, hstep s hm⟩
  obtain ⟨l, hl⟩ := hput
  rw [hl]
  refine ⟨rfl, rfl, fun p hp => ?_⟩
  unfold Machine.measure
  rw [show (s.updTime fun t => { t with masters := l }).time.lastOrigin = some p from hp]
  rfl

/-! ### Delay_Resp -/

theorem delayResp_other (h : m.requesting ≠ s.ptpIdentity) : delayResp s m = s := by
  unfold delayResp
  split
  · exact if_neg fun k => h k.2.2.1
  · rfl

theorem delayResp_measures {t3 d : Int} (hs : s.time.delaySent = some (m.seq, t3)) (hd : s.time.syncDiff = some d)
    (hm : s.time.master = some m.src) (hr : m.requesting = s.ptpIdentity) (he : s.obj Obj.PTP_DELAY_MECH 0 = 0) :
    (delayResp s m).time.freshDelay = true ∧ (delayResp s m).time.delaySent = none ∧ (delayResp s m).time.delayLog = m.interval ∧
      (delayResp s m).time.delays = (openRound 1503 (d + (m.origin - t3 - m.correction)) 2 :: s.time.delays).take (s.objN Obj.PATH_DELAY_AVG 0) ∧
      (delayResp s m).objN Obj.PATH_DELAY 0 =
        min u32Max (openRound 1504 (delayResp s m).time.delays.sum (delayResp s m).time.delays.length).toNat := by
  have heq : delayResp s m = delayMeasured (s.updTime fun t => { t with delayLog := m.interval }) (d + (m.origin - t3 - m.correction)) := by
    unfold delayResp
    rw [hs, hd]
    exact if_pos ⟨hm, rfl, hr, he⟩
  rw [heq]
  exact ⟨rfl, rfl, rfl, rfl, objN_setObjN_self _ _ _ _⟩

/-! ### A message taken -/

theorem ptpMessage_taken (hst : stamp = (s.stamped m).stamp) (he : s.obj Obj.PTP_ENABLE 0 ≠ 0) (ht : s.ticking = true)
    (hd : s.ptpDiscards m = false) (htr : m.transport = s.objN Obj.PTP_TRANSPORT 0) :
    ∃ t, exec (.ptpMessage m) s = .next t ∧
      (m.kind = 11 → s.masterOf m.src = none → s.time.masters.length < 8 →
        t.time.masters = s.time.masters ++ [⟨m.src, m.rank, none, s.tick, none, m.utc, m.interval, 0⟩]) ∧
      (m.kind = 11 → t.time.master = some m.src → t.obj Obj.UTC_OFFSET 0 = m.utc) ∧
      (m.kind = 0 → s.time.master = some m.src → m.twoStep = false →
        t.time.syncDiff = some (stamp - m.origin - m.correction) ∧ t.time.lastOrigin = some m.origin ∧
          ∀ p, s.time.lastOrigin = some p →
            t.time.meas = (if s.time.freshDelay = true then
                some (stamp - m.origin - m.correction - s.pathDelay, m.origin - p, stamp) else s.time.meas)) ∧
      (m.kind = 9 → m.requesting ≠ s.ptpIdentity → t.time = s.time) ∧
      (∀ t3 d, m.kind = 9 → s.time.delaySent = some (m.seq, t3) → s.time.syncDiff = some d → s.time.master = some m.src →
        m.requesting = s.ptpIdentity → s.obj Obj.PTP_DELAY_MECH 0 = 0 →
        t.time.freshDelay = true ∧ t.time.delaySent = none ∧ t.time.delayLog = m.interval ∧
          t.time.delays = (openRound 1503 (d + (m.origin - t3 - m.correction)) 2 :: s.time.delays).take (s.objN Obj.PATH_DELAY_AVG 0) ∧
          t.objN Obj.PATH_DELAY 0 = min u32Max (openRound 1504 t.time.delays.sum t.time.delays.length).toNat) := by
  have hrun := ptpMessage_run he ht hd htr
  have hframe := takeFrame_frame s m
  have htime := hframe.time rfl
  have hobj := obj_of_objs (hframe.objs rfl)
  have hocts := hframe.octs rfl
  have htick := hframe.tick rfl
  subst hst
  generalize hk : s.stamped m = k at hrun
  have hm : k = { m with stamp := k.stamp } := by
    rw [← hk]
    rfl
  generalize takeFrame s m = v at hrun htime hobj hocts htick
  have hid : v.ptpIdentity = s.ptpIdentity := by
    unfold State.ptpIdentity State.oct
    rw [hocts]
  have hannounce : m.kind = 11 → ptpTake v k = announceIn v k := fun h => by
    unfold ptpTake
    rw [show k.kind = 11 by rw [hm]; exact h]
    rfl
  have hsync : m.kind = 0 → ptpTake v k = syncIn v k := fun h => by
    unfold ptpTake
    rw [show k.kind = 0 by rw [hm]; exact h]
    rfl
  have hresp : m.kind = 9 → ptpTake v k = delayResp v k := fun h => by
    unfold ptpTake
    rw [show k.kind = 9 by rw [hm]; exact h]
    rfl
  have h1 : m.kind = 11 → s.masterOf m.src = none → s.time.masters.length < 8 →
      (ptpTake v k).time.masters = s.time.masters ++ [⟨m.src, m.rank, none, s.tick, none, m.utc, m.interval, 0⟩] := fun h hn hl => by
    have hlists := announceIn_lists (s := v) (m := k) (by rw [hm]; unfold State.masterOf; rw [htime]; exact hn) (by rw [htime]; exact hl)
    rw [hannounce h, hlists, htime, htick, hm]
  have h2 : m.kind = 11 → (ptpTake v k).time.master = some m.src → (ptpTake v k).obj Obj.UTC_OFFSET 0 = m.utc := fun h hs => by
    rw [hannounce h] at hs ⊢
    have hutc := announceIn_utc (s := v) (m := k) (by rw [hs, hm])
    rw [hutc, hm]
  have h3 : m.kind = 0 → s.time.master = some m.src → m.twoStep = false →
      (ptpTake v k).time.syncDiff = some (k.stamp - m.origin - m.correction) ∧ (ptpTake v k).time.lastOrigin = some m.origin ∧
        ∀ p, s.time.lastOrigin = some p → (ptpTake v k).time.meas = (if s.time.freshDelay = true then
          some (k.stamp - m.origin - m.correction - s.pathDelay, m.origin - p, k.stamp) else s.time.meas) := fun h hs h2 => by
    have hmeas := syncIn_measures (s := v) (m := k) (by rw [htime, hs, hm]) (by rw [hm]; exact h2)
    have hpath : v.pathDelay = s.pathDelay := by
      unfold State.pathDelay
      rw [htime]
    rw [hsync h]
    rw [htime, hpath, show k.origin = m.origin by rw [hm], show k.correction = m.correction by rw [hm]] at hmeas
    exact hmeas
  have h4 : m.kind = 9 → m.requesting ≠ s.ptpIdentity → (ptpTake v k).time = s.time := fun h hr => by
    rw [hresp h, delayResp_other (by rw [hid, hm]; exact hr), htime]
  have h5 : ∀ t3 d, m.kind = 9 → s.time.delaySent = some (m.seq, t3) → s.time.syncDiff = some d → s.time.master = some m.src →
      m.requesting = s.ptpIdentity → s.obj Obj.PTP_DELAY_MECH 0 = 0 →
      (ptpTake v k).time.freshDelay = true ∧ (ptpTake v k).time.delaySent = none ∧ (ptpTake v k).time.delayLog = m.interval ∧
        (ptpTake v k).time.delays = (openRound 1503 (d + (m.origin - t3 - m.correction)) 2 :: s.time.delays).take (s.objN Obj.PATH_DELAY_AVG 0) ∧
        (ptpTake v k).objN Obj.PATH_DELAY 0 =
          min u32Max (openRound 1504 (ptpTake v k).time.delays.sum (ptpTake v k).time.delays.length).toNat := fun t3 d h hs hd hma hr hme => by
    have hmeas := delayResp_measures (s := v) (m := k) (t3 := t3) (d := d) (by rw [htime, hs, hm]) (by rw [htime, hd]) (by rw [htime, hma, hm])
      (by rw [hid, hm]; exact hr) (by rw [hobj]; exact hme)
    rw [hresp h]
    rw [htime, show k.origin = m.origin by rw [hm], show k.correction = m.correction by rw [hm], show k.interval = m.interval by rw [hm],
      show v.objN Obj.PATH_DELAY_AVG 0 = s.objN Obj.PATH_DELAY_AVG 0 from congrArg Int.toNat (hobj _ _)] at hmeas
    exact hmeas
  generalize ptpTake v k = w at hrun h1 h2 h3 h4 h5
  exact ⟨_, hrun, h1, h2, h3, h4, h5⟩

/-! ### Delay requests -/

theorem txStamp_fec {x : Nat} (h : s.obj Obj.FEC_MODE x = 1) : s.txStamp x = floorDiv (10 * s.now + s.obj Obj.TS_TX_LATENCY x) 10 := by
  unfold State.txStamp State.latency
  rw [if_pos h]
  rfl

theorem delayReqSend_runs {x q : Nat} (hx : s.ptpPort = some x) (he : s.obj Obj.PTP_ENABLE 0 = 1) (hu : (s.port x).up = true)
    (hm : s.obj Obj.PTP_DELAY_MECH 0 = 1 ∨ s.time.master.isSome = true) (hq : q = (s.time.ptpSeq + 1) % 65536) :
    ∃ t, exec .delayReqSend s = .next t ∧
      if s.time.delayNext ≤ s.tick then
        t.time.ptpSeq = q ∧ t.time.delaySent = some (q, s.txStamp x) ∧
          (s.obj Obj.FEC_MODE x = 1 → s.txStamp x = floorDiv (10 * s.now + s.obj Obj.TS_TX_LATENCY x) 10) ∧
          t.time.delayOut = { kind := if s.obj Obj.PTP_DELAY_MECH 0 = 1 then 2 else 1, seq := q, stamp := s.txStamp x } ::
            s.time.delayOut ∧
          s.tick ≤ t.time.delayNext ∧ t.time.delayNext ≤ s.tick + 2 * intervalNs s.time.delayLog * 5 / 32 ∧ Frame [.ex, .time] s t
      else Frame [.ex] s t := by
  let peer := s.obj Obj.PTP_DELAY_MECH 0 == 1
  let sent : State := s.fresh.2.updTime fun t => { t with ptpSeq := q, delaySent := some (q, s.txStamp x), pdelay := none
                                                          delayNext := s.tick + s.delayWait s.fresh.1
                                                          delayOut := { kind := if peer then 2 else 1, seq := q, stamp := s.txStamp x } :: t.delayOut }
  have hrun : exec .delayReqSend s = finish s
      (if s.obj Obj.PTP_ENABLE 0 = 1 ∧ (s.port x).up = true ∧ (peer = true ∨ s.time.master.isSome = true) ∧ s.time.delayNext ≤ s.tick then sent else s) := by
    show finish s _ = _
    rw [hx]
    subst hq
    rfl
  have hpeer : peer = true ∨ s.time.master.isSome = true := hm.imp_left beq_iff_eq.mpr
  by_cases hd : s.time.delayNext ≤ s.tick
  · rw [if_pos ⟨he, hu, hpeer, hd⟩] at hrun
    refine ⟨_, hrun, ?_⟩
    rw [if_pos hd]
    refine ⟨rfl, rfl, txStamp_fec, ?_, Nat.le_add_right _ _, Nat.add_le_add_left ?_ _, frame_sealed ?_ (by decide)⟩
    · show ({ kind := if (s.obj Obj.PTP_DELAY_MECH 0 == 1) = true then 2 else 1, seq := q, stamp := s.txStamp x } : DelayOut) :: s.time.delayOut = _
      by_cases hp : s.obj Obj.PTP_DELAY_MECH 0 = 1
      · rw [if_pos hp, if_pos (beq_iff_eq.mpr hp)]
      · rw [if_neg hp, if_neg fun h => hp (beq_iff_eq.mp h)]
    · exact Nat.le_of_lt_succ (Nat.mod_lt _ (Nat.succ_pos _))
    · exact .set_time (by decide) (.set_ex (by decide) (.refl s))
  · rw [if_neg fun h => hd h.2.2.2] at hrun
    refine ⟨_, hrun, ?_⟩
    rw [if_neg hd]
    exact frame_sealed (.refl s) (by decide)

/-! ### The loss of a master -/

/-- The state after the loss of a master, before another one is selected. -/
def masterGone (s : State) (x : Master) (cause : Nat) : State :=
  raiseA (s.updTime fun t => { t with masters := t.masters.filter (fun y => y.id ≠ x.id), master := none, pendingSync := none,
                                      syncDiff := none, meas := none }) 0x8031 [.octets x.id, .word cause]

theorem masterGone_time (s : State) (x : Master) (cause : Nat) : (masterGone s x cause).time =
    { s.time with masters := s.time.masters.filter (fun y => y.id ≠ x.id), master := none, pendingSync := none, syncDiff := none, meas := none } := by
  unfold masterGone
  rw [raiseA_time]
  rfl

/-- The servo holds over, where it ran. -/
def heldOver (s : State) : State :=
  let v := s.setOct Obj.MASTER_ID 0 (List.replicate 10 0)
  if v.time.servo = .locked ∨ v.time.servo = .tracking then holdRate (setServo v .holdover) else v

theorem loseMaster_eq (s : State) (x : Master) (cause : Nat) : loseMaster s x cause =
    if (selectMaster (masterGone s x cause)).time.master.isSome = true then selectMaster (masterGone s x cause)
    else heldOver (selectMaster (masterGone s x cause)) := rfl

theorem holdRate_time (s : State) : (holdRate s).time = s.time := (holdRate_frame s).time rfl

theorem heldOver_time (s : State) : (heldOver s).time.masters = s.time.masters ∧ (heldOver s).time.pairs = s.time.pairs ∧
    (heldOver s).time.meas = s.time.meas ∧ (heldOver s).time.master = s.time.master := by
  have htime := (setServo_servoJudged (s.setOct Obj.MASTER_ID 0 (List.replicate 10 0)) .holdover).time
  unfold heldOver
  extract_lets v
  split
  · rw [holdRate_time, htime]
    exact ⟨rfl, rfl, rfl, rfl⟩
  · exact ⟨rfl, rfl, rfl, rfl⟩

theorem setServo_shows {v : Servo} (h : s.time.servo ≠ v) : (setServo s v).objN Obj.SERVO_STATE 0 = v.code := by
  unfold setServo
  extract_lets old u
  rw [if_neg h]
  exact (congrArg Int.toNat (raiseA_obj (by decide) _ _ _)).trans (objN_setObjN_self u _ _ _)

theorem holdRate_obj {x : Nat} (h : x ∉ [Obj.TIME_RATE, Obj.ADDEND]) (s : State) (y : Nat) : (holdRate s).obj x y = s.obj x y := by
  unfold holdRate
  dsimp only
  split
  · rfl
  · exact setRate_objs _ _ x y h

theorem heldOver_holds (h : s.time.servo = .locked ∨ s.time.servo = .tracking) :
    (heldOver s).time.servo = .holdover ∧ (heldOver s).objN Obj.SERVO_STATE 0 = 3 := by
  unfold heldOver
  extract_lets v
  have hne : v.time.servo ≠ .holdover := by
    rcases h with h | h
    · exact fun k => nomatch (show s.time.servo = .holdover from k).symm.trans h
    · exact fun k => nomatch (show s.time.servo = .holdover from k).symm.trans h
  rw [if_pos (show v.time.servo = .locked ∨ v.time.servo = .tracking from h), holdRate_time]
  exact ⟨setServo_servo v _, (congrArg Int.toNat (holdRate_obj (by decide) _ _)).trans (setServo_shows hne)⟩

theorem selectMaster_none (h : s.qualifiedMasters = []) : selectMaster s = s := by
  unfold selectMaster
  rw [h]
  rfl

theorem selectMaster_kept (s : State) : (selectMaster s).time.pairs = s.time.pairs ∧ (selectMaster s).time.meas = s.time.meas := by
  unfold selectMaster
  split
  · exact ⟨rfl, rfl⟩
  · split
    · exact ⟨rfl, rfl⟩
    · rw [raiseA_time]
      exact ⟨rfl, rfl⟩

theorem masterGone_unqualified {x : Master} (cause : Nat) (h : ∀ y ∈ s.time.masters, y.id ≠ x.id → s.qualified y = false) :
    (masterGone s x cause).qualifiedMasters = [] := by
  have htime := masterGone_time s x cause
  have htick : (masterGone s x cause).tick = s.tick := by
    unfold masterGone
    exact (raiseA_frame _ _ _).tick rfl
  unfold State.qualifiedMasters
  generalize masterGone s x cause = v at htime htick
  rw [htime]
  refine List.filter_eq_nil_iff.mpr fun y hy => ?_
  obtain ⟨hmem, hid⟩ := List.mem_filter.mp hy
  have hq := h y hmem (of_decide_eq_true hid)
  unfold State.qualified at hq ⊢
  obtain ⟨-, hprev⟩ := Bool.or_eq_false_iff.mp hq
  rw [htime]
  unfold State.elapsed at hprev ⊢
  rw [htick]
  simpa using hprev

theorem masterLost_runs {cause : Nat} {x : Master} (h : s.time.masters.find? (fun m => some m.id == s.time.master) = some x) :
    ∃ t, exec (.masterLost cause) s = .next t ∧
      if s.masterSilent x cause = true then
        (∀ y ∈ t.time.masters, y ∈ s.time.masters ∧ y.id ≠ x.id) ∧ t.time.pairs = s.time.pairs ∧ t.time.meas = none ∧
          ((∀ y ∈ s.time.masters, y.id ≠ x.id → s.qualified y = false) → t.time.master = none ∧
            (s.time.servo = .locked ∨ s.time.servo = .tracking → t.time.servo = .holdover ∧ t.objN Obj.SERVO_STATE 0 = 3))
      else Frame [.ex] s t := by
  have hrun : exec (.masterLost cause) s = finish s (if s.masterSilent x cause = true then loseMaster s x cause else s) := by
    show finish s _ = _
    rw [h]
  by_cases hs : s.masterSilent x cause = true
  · rw [if_pos hs] at hrun
    have htime := masterGone_time s x cause
    have hnone := fun hq => selectMaster_none (masterGone_unqualified (s := s) (x := x) cause hq)
    have heq := loseMaster_eq s x cause
    generalize masterGone s x cause = v at htime hnone heq
    have hsel := selectMaster_masters v
    obtain ⟨hpairs, hmeas⟩ := selectMaster_kept v
    have hkept : (loseMaster s x cause).time.masters = v.time.masters ∧ (loseMaster s x cause).time.pairs = v.time.pairs ∧
        (loseMaster s x cause).time.meas = v.time.meas := by
      rw [heq]
      split
      · exact ⟨hsel, hpairs, hmeas⟩
      · obtain ⟨hm, hp, hme, -⟩ := heldOver_time (selectMaster v)
        exact ⟨hm.trans hsel, hp.trans hpairs, hme.trans hmeas⟩
    have hlast : (∀ y ∈ s.time.masters, y.id ≠ x.id → s.qualified y = false) → (loseMaster s x cause).time.master = none ∧
        (s.time.servo = .locked ∨ s.time.servo = .tracking → (loseMaster s x cause).time.servo = .holdover ∧ (loseMaster s x cause).objN Obj.SERVO_STATE 0 = 3) := by
      intro hq
      have hmaster : v.time.master = none := by rw [htime]
      have hservo : v.time.servo = s.time.servo := by rw [htime]
      rw [heq, hnone hq, if_neg (by rw [hmaster]; exact Bool.false_ne_true)]
      refine ⟨(heldOver_time v).2.2.2.trans hmaster, fun hl => heldOver_holds (by rw [hservo]; exact hl)⟩
    rw [htime] at hkept
    generalize loseMaster s x cause = w at hrun hkept hlast
    obtain ⟨hm, hp, hme⟩ := hkept
    refine ⟨_, hrun, ?_⟩
    rw [if_pos hs]
    refine ⟨fun y hy => ?_, hp, hme, hlast⟩
    obtain ⟨hmem, hid⟩ := List.mem_filter.mp ((congrArg (y ∈ ·) hm).mp hy)
    exact ⟨hmem, of_decide_eq_true hid⟩
  · rw [if_neg hs] at hrun
    refine ⟨_, hrun, ?_⟩
    rw [if_neg hs]
    exact frame_sealed (.refl s) (by decide)

end

end Sys2Proof.Proofs

/-!
SUPPORT. The host's rate and the time-domain reset (R442, R443), PPS_IN (R441, R448).
-/

namespace Sys2Proof.Proofs

open Sys2Proof Sys2Proof.Machine Sys2Proof.Laws

section

variable {s t u : State} {sess x : Nat} {r off : Int}

/-! ### The rate of the host -/

theorem effTimeRate_sets (h : s.hostMode 6 = true) : effTimeRate r s =
    ((setRate s r).updTime fun t => { t with rateDeadline := if s.rateLate then t.rateDeadline else some s.rateDue }, .ack) :=
  if_neg (by rw [h]; exact Bool.false_ne_true)

theorem effTimeRate_refuses (h : s.hostMode 6 = false) : effTimeRate r s = (s, .nak .state) :=
  if_pos (by rw [h]; rfl)

theorem rateLate_seen (s : State) (sess : Nat) : (seen s sess).rateLate = s.rateLate := by
  rw [seen_eq]
  generalize (seen s sess).ex = e
  rfl

theorem rateDue_seen (s : State) (sess : Nat) : (seen s sess).rateDue = s.rateDue := by
  rw [seen_eq]
  generalize (seen s sess).ex = e
  rfl

theorem timeRate_runs (h : s.accepts sess Obj.TIME_RATE 0 r = true) :
    ∃ t, exec (.timeRate sess r) s = .next t ∧
      if s.hostMode 6 = false then t.answered sess 0 Obj.TIME_RATE 0 (.nak .state 0 0) ∧ Frame [.ex] s t
      else
        t.answered sess 0 Obj.TIME_RATE 0 (.ack []) ∧ t.obj Obj.TIME_RATE 0 = r ∧
          t.obj Obj.ADDEND 0 = addendNominal + floorDiv (addendNominal * r) 1073741824 ∧
          t.time = { s.time with rateDeadline := if s.rateLate = true then s.time.rateDeadline
                                                 else some (s.tick + s.objN Obj.SERVO_HOST_DEADLINE 0 * 156250) } ∧
          Frame [.ex, .objs, .time] s t := by
  have hrun : exec (.timeRate sess r) s = finish s (hostWrite s sess Obj.TIME_RATE 0 r (effTimeRate r)) := rfl
  cases hm : s.hostMode 6
  case false =>
    obtain ⟨hans, hframe⟩ := hostWrite_refused h (effTimeRate_refuses ((hostMode_seen s sess 6).trans hm)) (by decide)
    generalize hostWrite s sess Obj.TIME_RATE 0 r (effTimeRate r) = w at hrun hans hframe
    refine ⟨_, hrun, ?_⟩
    rw [if_pos rfl]
    exact ⟨hans, frame_sealed hframe (by decide)⟩
  case true =>
    have hseen := seen_frame s sess
    have heff := effTimeRate_sets (r := r) ((hostMode_seen s sess 6).trans hm)
    rw [rateLate_seen, rateDue_seen] at heff
    obtain ⟨hans, hframe⟩ := hostWrite_ack h heff (opens_of_ex rfl)
    obtain ⟨hrate, hadd⟩ := setRate_sets (seen s sess) r
    have htime := hframe.time rfl
    have hobj := obj_of_objs (hframe.objs rfl)
    have hrate' := (hobj Obj.TIME_RATE 0).trans hrate
    have hadd' := (hobj Obj.ADDEND 0).trans hadd
    have hbase : Frame [.ex, .objs, .time] s (seen s sess) := hseen.mono (by decide)
    have hall : Frame [.ex, .objs, .time] s (hostWrite s sess Obj.TIME_RATE 0 r (effTimeRate r)) :=
      .step hframe (by decide) (.set_time (by decide) (.set_objs (by decide) (.set_objs (by decide) hbase)))
    have hbefore := hseen.time rfl
    generalize hostWrite s sess Obj.TIME_RATE 0 r (effTimeRate r) = w at hrun hans htime hrate' hadd' hall
    refine ⟨_, hrun, ?_⟩
    rw [if_neg (by exact Bool.noConfusion)]
    refine ⟨hans, hrate', hadd', htime.trans ?_, frame_sealed hall (by decide)⟩
    show { (seen s sess).time with rateDeadline := if s.rateLate = true then (seen s sess).time.rateDeadline else some s.rateDue } = _
    rw [hbefore]
    rfl

/-! ### The gate lists cleared -/

/-- The objects of queues that gates move. -/
def gateCounts : List Nat := [Obj.GATE_OVERSIZE, Obj.GATE_LONGEST, Obj.GATE_WAITS, Obj.RING_DROPPED]

/-- From the first state to the second the gate lists stay, and of the objects at most the queues' counts of gates change. -/
structure GatesKept (s t : State) : Prop where
  gates : t.net.gates = s.net.gates
  objs : ObjsOnly gateCounts s t

theorem GatesKept.refl (s : State) : GatesKept s s := ⟨rfl, .refl s⟩

theorem GatesKept.trans (h : GatesKept s t) (k : GatesKept t u) : GatesKept s u := ⟨k.gates.trans h.gates, h.objs.trans k.objs⟩

theorem GatesKept.foldl {β : Type} {f : State → β → State} (l : List β) (hf : ∀ s b, GatesKept s (f s b)) : GatesKept s (l.foldl f s) :=
  foldl_holds l (.refl s) fun _ b _ h => h.trans (hf _ b)

theorem raiseS_gatesKept (s : State) (code : Nat) (data : List EvItem) : GatesKept s (raiseS s code data) :=
  ⟨by rw [raiseS_net], .raiseS (by decide) (.refl s)⟩

theorem settleQueue_gatesKept (s : State) (n : Nat) : GatesKept s (settleQueue s n) := by
  unfold settleQueue
  split
  · exact .refl s
  · exact ⟨rfl, .refl s⟩

theorem dropOversizeFrames_gatesKept (n : Nat) (l : List TxFrame) (s : State) : GatesKept s (dropOversizeFrames n l s) := by
  induction l generalizing s with
  | nil => exact .refl s
  | cons f l ih =>
    unfold dropOversizeFrames
    split
    · have hcount (v : State) : GatesKept v (v.inc64 Obj.GATE_OVERSIZE n) := ⟨rfl, .setObjN (by decide) (.refl v)⟩
      have hset : GatesKept s (s.setQueue n { s.queue n with frames := l }) := ⟨rfl, .refl s⟩
      exact ((hset.trans (hcount _)).trans (raiseS_gatesKept _ _ _)).trans (ih _)
    · exact .refl s

theorem dropOversize_gatesKept (s : State) (n : Nat) : GatesKept s (dropOversize s n) :=
  have hrefill : GatesKept s (refillQueue s n) := ⟨rfl, .refl s⟩
  (hrefill.trans (dropOversizeFrames_gatesKept _ _ _)).trans (settleQueue_gatesKept _ _)

theorem setLongest_gatesKept (s : State) (x : Nat) : GatesKept s (setLongest s x) :=
  .foldl _ fun s _ =>
    have hset (n w : Nat) : GatesKept s (s.setObjN Obj.GATE_LONGEST n w) := ⟨rfl, .setObjN (by decide) (.refl s)⟩
    (hset _ _).trans (dropOversize_gatesKept _ _)

theorem noteWaits_gatesKept (s : State) (x : Nat) : GatesKept s (noteWaits s x) := by
  unfold noteWaits
  split
  · exact .refl s
  · refine .foldl _ fun s q => ?_
    dsimp only
    split
    · split
      · exact ⟨rfl, .setObjN (by decide) (.refl s)⟩
      · exact .refl s
    · exact .refl s

/-- The gates of a port with its lists removed (R413). -/
def clearGate (s : State) (x : Nat) : State :=
  raiseS (setGates (setLongest (s.setPortGates x {}) x) x) 0x8023 [.word x]

theorem foldl_range_two (f : State → Nat → State) (s : State) : (List.range 2).foldl f s = f (f s 0) 1 := rfl

theorem clearGates_eq (s : State) : clearGates s = clearGate (clearGate s 0) 1 :=
  foldl_range_two clearGate s

theorem portGates_of_gates (h : t.net.gates = s.net.gates) (x : Nat) : t.portGates x = s.portGates x := by
  unfold State.portGates
  rw [h]

theorem setGates_open (h : (s.portGates x).oper = none) : setGates s x =
    noteWaits (s.setPortGates x { s.portGates x with entry := 0, gates := 0xFF }) x := by
  unfold setGates
  dsimp only
  rw [h]

theorem setPortGates_self (s : State) (x : Nat) (g : PortGates) : (s.setPortGates x g).portGates x = g := mget_mset_self _ _ _ _

theorem setPortGates_other (s : State) {x y : Nat} (g : PortGates) (h : y ≠ x) : (s.setPortGates x g).portGates y = s.portGates y :=
  mget_mset_other _ _ _ h

theorem setGates_gates (h : s.portGates x = {}) : (setGates s x).portGates x = { gates := 0xFF } ∧
    (∀ y, y ≠ x → (setGates s x).portGates y = s.portGates y) ∧ ObjsOnly gateCounts s (setGates s x) := by
  have hkept := noteWaits_gatesKept (s.setPortGates x { s.portGates x with entry := 0, gates := 0xFF }) x
  rw [setGates_open (by rw [h])]
  refine ⟨?_, fun y hy => ?_, hkept.objs⟩
  · rw [portGates_of_gates hkept.gates, setPortGates_self, h]
  · rw [portGates_of_gates hkept.gates, setPortGates_other s _ hy]

theorem clearGate_gates (s : State) (x : Nat) : (clearGate s x).portGates x = { gates := 0xFF } ∧
    (∀ y, y ≠ x → (clearGate s x).portGates y = s.portGates y) ∧ ObjsOnly gateCounts s (clearGate s x) := by
  have hkept := setLongest_gatesKept (s.setPortGates x {}) x
  have hempty := (portGates_of_gates hkept.gates x).trans (setPortGates_self s x {})
  have hothers (y : Nat) (hy : y ≠ x) := (portGates_of_gates hkept.gates y).trans (setPortGates_other s {} hy)
  obtain ⟨hself, hother, hobjs⟩ := setGates_gates hempty
  have hraise := raiseS_gatesKept (setGates (setLongest (s.setPortGates x {}) x) x) 0x8023 [.word x]
  unfold clearGate
  refine ⟨(portGates_of_gates hraise.gates x).trans hself, fun y hy => ?_, ?_⟩
  · exact (portGates_of_gates hraise.gates y).trans ((hother y hy).trans (hothers y hy))
  · exact (hkept.objs.trans hobjs).trans hraise.objs

theorem clearGates_gates (s : State) {x : Nat} (hx : x < 2) : (clearGates s).portGates x = { gates := 0xFF } := by
  rw [clearGates_eq]
  obtain ⟨hfirst, -, -⟩ := clearGate_gates s 0
  obtain ⟨hself, hother, -⟩ := clearGate_gates (clearGate s 0) 1
  interval_cases x
  · exact (hother 0 (by decide)).trans hfirst
  · exact hself

theorem clearGates_objs (s : State) : ObjsOnly gateCounts s (clearGates s) := by
  rw [clearGates_eq]
  exact (clearGate_gates s 0).2.2.trans (clearGate_gates (clearGate s 0) 1).2.2

/-! ### The time-domain reset -/

/-- The state of a time-domain reset with its servo unset and its pulses' modes 0, before the gate lists go. -/
def domainCleared (s : State) : State :=
  (List.range 5).foldl (fun s k => s.setObjN Obj.PULSE_MODE k 0)
    ((setServo s .unset).updTime fun t => { t with pairs := [], alarmRun := 0, alarmRaised := false, pulses := [], launches := [] })

theorem domainReset_eq (s : State) : domainReset s =
    raiseA (clearGates ((domainCleared s).incWrap Obj.TIME_DOMAIN_GEN 0)) 0x8035
      [.word ((clearGates ((domainCleared s).incWrap Obj.TIME_DOMAIN_GEN 0)).obj Obj.TIME_DOMAIN_GEN 0)] := rfl

theorem domainCleared_time (s : State) : (domainCleared s).time.servo = .unset ∧ (domainCleared s).time.pairs = [] ∧
    (domainCleared s).time.pulses = [] ∧ (domainCleared s).time.launches = [] := by
  have hmodes : (domainCleared s).time = _ :=
    foldl_keeps (g := State.time) (fun (s : State) (k : Nat) => (rfl : (s.setObjN Obj.PULSE_MODE k 0).time = s.time)) _ _
  rw [hmodes]
  exact ⟨setServo_servo s .unset, rfl, rfl, rfl⟩

theorem domainCleared_modes (s : State) {k : Nat} (hk : k < 5) : (domainCleared s).obj Obj.PULSE_MODE k = 0 := by
  refine foldl_reaches (P := fun v => v.obj Obj.PULSE_MODE k = 0) (Q := fun j => j = k) ⟨k, List.mem_range.mpr hk, rfl⟩ ?_ ?_ _
  · rintro v j - rfl
    exact obj_setObj ..
  · exact fun v j _ hj h => (obj_setObj_other _ fun e => hj e.2.symm).trans h

theorem domainCleared_objs (s : State) : ObjsOnly [Obj.SERVO_STATE, Obj.RING_DROPPED, Obj.PULSE_MODE] s (domainCleared s) :=
  .foldl (fun v _ => .setObjN (by decide) (.refl v)) ((setServo_servoJudged s .unset).objs.mono (by decide))

theorem domainReset_objs (s : State) : ObjsOnly gateCounts ((domainCleared s).incWrap Obj.TIME_DOMAIN_GEN 0) (domainReset s) := by
  rw [domainReset_eq]
  exact .raiseA (by decide) (clearGates_objs _)

theorem domainReset_time (s : State) : (domainReset s).time = (domainCleared s).time := by
  rw [domainReset_eq, raiseA_time, (clearGates_frame _).time rfl]
  rfl

theorem domainReset_gates (s : State) {x : Nat} (hx : x < 2) : (domainReset s).portGates x = { gates := 0xFF } := by
  have hnet : (domainReset s).net = (clearGates ((domainCleared s).incWrap Obj.TIME_DOMAIN_GEN 0)).net := by
    rw [domainReset_eq, raiseA_net]
  rw [portGates_of_gates (congrArg Network.gates hnet), clearGates_gates _ hx]

theorem domainReset_gen (s : State) : (domainReset s).objN Obj.TIME_DOMAIN_GEN 0 = (s.objN Obj.TIME_DOMAIN_GEN 0 + 1) % 0x100000000 := by
  have hafter := congrArg Int.toNat (domainReset_objs s Obj.TIME_DOMAIN_GEN 0 (by decide))
  have hbefore : (domainCleared s).objN Obj.TIME_DOMAIN_GEN 0 = s.objN Obj.TIME_DOMAIN_GEN 0 :=
    congrArg Int.toNat (domainCleared_objs s Obj.TIME_DOMAIN_GEN 0 (by decide))
  refine hafter.trans ((objN_setObjN_self _ _ _ _).trans ?_)
  rw [hbefore]

theorem domainReset_modes (s : State) {k : Nat} (hk : k < 5) : (domainReset s).obj Obj.PULSE_MODE k = 0 := by
  have hmodes := domainCleared_modes s hk
  have hlater := domainReset_objs s Obj.PULSE_MODE k (by decide)
  generalize domainCleared s = v at hmodes hlater
  have hgen : (v.incWrap Obj.TIME_DOMAIN_GEN 0).obj Obj.PULSE_MODE k = v.obj Obj.PULSE_MODE k := obj_setObj_addr _ (by decide)
  rw [hlater, hgen, hmodes]

theorem dropOversizeFrames_opens (n : Nat) (l : List TxFrame) (s : State) : Opens s (dropOversizeFrames n l s) := by
  induction l generalizing s with
  | nil => exact .refl s
  | cons f l ih =>
    unfold dropOversizeFrames
    refine .ite (.trans (.step (raiseS_opens _ _ _) ?_) (ih _)) (.refl s)
    exact .frame (State.inc64_frame _ _ _ _) (by decide) (.frame (State.setQueue_frame _ _ _) (by decide) (.refl s))

theorem dropOversize_opens (s : State) (n : Nat) : Opens s (dropOversize s n) :=
  .frame (settleQueue_frame _ _) (by decide) (.step (dropOversizeFrames_opens _ _ _) (.frame (refillQueue_frame s n) (by decide) (.refl s)))

theorem setLongest_opens (s : State) (x : Nat) : Opens s (setLongest s x) :=
  .foldl (fun _ _ => .step (dropOversize_opens _ _) (opens_of_ex rfl)) (.refl s)

theorem clearGate_opens (s : State) (x : Nat) : Opens s (clearGate s x) :=
  .step (raiseS_opens _ _ _) (.frame (setGates_frame _ _) (by decide) (.step (setLongest_opens _ _) (opens_of_ex rfl)))

theorem domainReset_opens (s : State) : Opens s (domainReset s) := by
  have hcleared : Opens s (domainCleared s) :=
    .foldl (fun _ _ => opens_of_ex rfl) (.upd rfl (setServo_opens s .unset))
  rw [domainReset_eq, clearGates_eq]
  exact .step (raiseA_opens _ _ _) (.step (clearGate_opens _ 1) (.step (clearGate_opens _ 0) (.upd rfl hcleared)))

theorem anyArmed_seen (s : State) (sess : Nat) : (seen s sess).anyArmed = s.anyArmed := by
  unfold State.anyArmed
  rw [(seen_frame s sess).com rfl]

theorem effTimeReset_refuses (h : s.anyArmed = true) : effTimeReset s = (s, .nak .busy) := if_pos h

theorem effTimeReset_resets (h : ¬ s.anyArmed = true) : effTimeReset s = (domainReset s, .ack) := if_neg h

theorem timeReset_runs (h : s.accepts sess Obj.TIME_RESET 0 1 = true) :
    ∃ t, exec (.timeReset sess) s = .next t ∧
      if s.anyArmed = true then t.answered sess 0 Obj.TIME_RESET 0 (.nak .busy 0 0) ∧ Frame [.ex] s t
      else
        t.answered sess 0 Obj.TIME_RESET 0 (.ack []) ∧ t.time.servo = .unset ∧ t.time.pairs = [] ∧ t.time.pulses = [] ∧
          t.time.launches = [] ∧ t.objN Obj.TIME_DOMAIN_GEN 0 = (s.objN Obj.TIME_DOMAIN_GEN 0 + 1) % 0x100000000 ∧
          (∀ k < 5, t.obj Obj.PULSE_MODE k = 0) ∧
          ∀ x < 2, (t.portGates x).oper = none ∧ (t.portGates x).next = none ∧ (t.portGates x).gates = 0xFF := by
  have hrun : exec (.timeReset sess) s = finish s (hostWrite s sess Obj.TIME_RESET 0 1 effTimeReset) := rfl
  have harmed := anyArmed_seen s sess
  by_cases ha : s.anyArmed = true
  · obtain ⟨hans, hframe⟩ := hostWrite_refused h (effTimeReset_refuses (harmed.trans ha)) (by decide)
    generalize hostWrite s sess Obj.TIME_RESET 0 1 effTimeReset = w at hrun hans hframe
    refine ⟨_, hrun, ?_⟩
    rw [if_pos ha]
    exact ⟨hans, frame_sealed hframe (by decide)⟩
  · obtain ⟨hans, hframe⟩ := hostWrite_ack h (effTimeReset_resets (by rwa [harmed])) (domainReset_opens (seen s sess))
    obtain ⟨hservo, hpairs, hpulses, hlaunches⟩ := domainCleared_time (seen s sess)
    have htime := (hframe.time rfl).trans (domainReset_time _)
    have hobj := obj_of_objs (hframe.objs rfl)
    have hgen := (congrArg Int.toNat (hobj Obj.TIME_DOMAIN_GEN 0)).trans (domainReset_gen (seen s sess))
    rw [objN_of_objs ((seen_frame s sess).objs rfl)] at hgen
    have hmodes (k : Nat) (hk : k < 5) := (hobj Obj.PULSE_MODE k).trans (domainReset_modes (seen s sess) hk)
    have hgates (x : Nat) (hx : x < 2) := (portGates_of_gates (congrArg Network.gates (hframe.net rfl)) x).trans (domainReset_gates (seen s sess) hx)
    generalize hostWrite s sess Obj.TIME_RESET 0 1 effTimeReset = w at hrun hans htime hgen hmodes hgates
    refine ⟨_, hrun, ?_⟩
    rw [if_neg ha]
    refine ⟨hans, (congrArg Time.servo htime).trans hservo, (congrArg Time.pairs htime).trans hpairs,
      (congrArg Time.pulses htime).trans hpulses, (congrArg Time.launches htime).trans hlaunches, hgen, hmodes, fun x hx => ?_⟩
    have hx := hgates x hx
    exact ⟨(congrArg PortGates.oper hx :), (congrArg PortGates.next hx :), (congrArg PortGates.gates hx :)⟩

end

end Sys2Proof.Proofs

/-!
SUPPORT. PPS_IN (R441, R448).
-/

namespace Sys2Proof.Proofs

open Sys2Proof Sys2Proof.Machine Sys2Proof.Laws

section

variable {s t u : State} {sess x : Nat} {off : Int}

/-- The objects that an update of the servo moves. -/
def servoObjs : List Nat :=
  [Obj.TIME_OFFSET, Obj.TIME_OFFSET_SEQ, Obj.SERVO_STATE, Obj.TIME_RATE, Obj.ADDEND, Obj.FUNC_MODE + (6 - 1), Obj.LAST_FALLBACK,
    Obj.LAST_FALLBACK_TIME, Obj.FALLBACK_COUNT, Obj.RING_DROPPED]

/-- From the first state to the second the instant of the latest edge of PPS_IN stays, and at most the servo's objects change. -/
structure PpsKept (s t : State) : Prop where
  ppsAt : t.time.ppsAt = s.time.ppsAt
  objs : ObjsOnly servoObjs s t

theorem PpsKept.refl (s : State) : PpsKept s s := ⟨rfl, .refl s⟩

theorem PpsKept.trans (h : PpsKept s t) (k : PpsKept t u) : PpsKept s u := ⟨k.ppsAt.trans h.ppsAt, h.objs.trans k.objs⟩

theorem ServoJudged.ppsKept (h : ServoJudged s t) : PpsKept s t := ⟨by rw [h.time], h.objs.mono (by decide)⟩

theorem fallback_servoObjs (s : State) : ObjsOnly servoObjs s (fallback s 6) := by
  have hsets : ObjsOnly servoObjs s (fallbackSets s 6) :=
    .incSat (by decide) (.setObj (by decide) (.setObjN (by decide) (.setObj (by decide) (.refl s))))
  rw [fallback_eq]
  exact .raiseA (by decide) hsets

theorem servoBoundary_kept (s : State) : PpsKept s (servoBoundary s) ∧ (servoBoundary s).time.servo = s.time.servo := by
  have hmode : ∀ v : State, v = (if s.rateLate = true then fallback s 6 else atModeBoundary s 6) → v.time = s.time ∧ ObjsOnly servoObjs s v := by
    rintro v rfl
    split
    · exact ⟨(fallback_frame s 6).time rfl, fallback_servoObjs s⟩
    · exact ⟨(atModeBoundary_frame s 6).time rfl, .frame (atModeBoundary_frame s 6) (by decide) (.refl s)⟩
  unfold servoBoundary
  extract_lets v was host
  obtain ⟨htime, hobjs⟩ := hmode v rfl
  split
  · exact ⟨⟨(congrArg Time.ppsAt htime :), hobjs⟩, (congrArg Time.servo htime :)⟩
  · split
    · exact ⟨⟨(congrArg Time.ppsAt htime :), hobjs⟩, (congrArg Time.servo htime :)⟩
    · split <;> exact ⟨⟨(congrArg Time.ppsAt htime :), hobjs⟩, (congrArg Time.servo htime :)⟩

theorem servoLaw_ppsKept (s : State) (o ts : Int) : PpsKept s (servoLaw s o ts) :=
  ⟨rfl, (setRate_objs _ _).mono (by decide)⟩

theorem servoUpdate_after {o ts a : Int} {held : Bool} (h : (servoBoundary (offsetNoted s o)).time.servo ≠ .unset) :
    servoUpdate s o ts a held = noteRate
      (if (judgeAlarm (judgeLock (servoBoundary (offsetNoted s o)) o held) o).hostMode 6 = true then
        judgeAlarm (judgeLock (servoBoundary (offsetNoted s o)) o held) o
      else servoLaw (judgeAlarm (judgeLock (servoBoundary (offsetNoted s o)) o held) o) o ts) := if_neg h

theorem servoUpdate_ppsKept {o ts a : Int} {held : Bool} (h : s.time.servo ≠ .unset) : PpsKept s (servoUpdate s o ts a held) := by
  have hnoted : PpsKept s (offsetNoted s o) := ⟨rfl, (offsetNoted_objs s o).mono (by decide)⟩
  obtain ⟨hbound, hservo⟩ := servoBoundary_kept (offsetNoted s o)
  have hjudged (v : State) : PpsKept v (judgeAlarm (judgeLock v o held) o) :=
    ((judgeLock_servoJudged v o held).trans (judgeAlarm_servoJudged _ o)).ppsKept
  have hall := (hnoted.trans hbound).trans (hjudged _)
  have hset : (servoBoundary (offsetNoted s o)).time.servo ≠ .unset := by rw [hservo]; exact h
  rw [servoUpdate_after hset]
  generalize judgeAlarm (judgeLock (servoBoundary (offsetNoted s o)) o held) o = v at hall
  split
  · exact ⟨hall.ppsAt, hall.objs⟩
  · have hlaw := hall.trans (servoLaw_ppsKept v o ts)
    exact ⟨hlaw.ppsAt, hlaw.objs⟩

/-- The state in which an edge of PPS_IN has been measured (R448). -/
def ppsNoted (s : State) (off : Int) : State :=
  let v := (s.setObj Obj.PPS_IN_OFFSET 0 off).updTime fun t => { t with ppsAt := s.tick }
  if v.obj Obj.PPS_IN_VALID 0 = 1 then v else raiseA (v.setObj Obj.PPS_IN_VALID 0 1) 0x8038 [.word off]

theorem ppsNoted_values (s : State) (off : Int) : (ppsNoted s off).obj Obj.PPS_IN_OFFSET 0 = off ∧
    (ppsNoted s off).obj Obj.PPS_IN_VALID 0 = 1 ∧ (ppsNoted s off).time = { s.time with ppsAt := s.tick } := by
  unfold ppsNoted
  extract_lets v
  have hoff : v.obj Obj.PPS_IN_OFFSET 0 = off := obj_setObj ..
  split
  · next h => exact ⟨hoff, h, rfl⟩
  · refine ⟨?_, ?_, ?_⟩
    · rw [raiseA_obj (by decide)]
      exact (obj_setObj_addr _ (by decide)).trans hoff
    · rw [raiseA_obj (by decide)]
      exact obj_setObj ..
    · rw [raiseA_time]
      rfl

theorem ppsEdge_passes (h : s.time.servo = .unset ∨ s.obj Obj.PPS_IN_WINDOW 0 < (secondOffset s.ppsStamp).natAbs) : ppsEdge s = s := if_pos h

theorem ppsEdge_measures (h : ¬ (s.time.servo = .unset ∨ s.obj Obj.PPS_IN_WINDOW 0 < (secondOffset s.ppsStamp).natAbs)) : ppsEdge s =
    if (ppsNoted s (secondOffset s.ppsStamp)).obj Obj.PPS_IN_MODE 0 = 2 ∧ (ppsNoted s (secondOffset s.ppsStamp)).time.servo = .holdover then
      servoUpdate (ppsNoted s (secondOffset s.ppsStamp)) (secondOffset s.ppsStamp) 1000000000 (ppsNoted s (secondOffset s.ppsStamp)).ppsStamp true
    else ppsNoted s (secondOffset s.ppsStamp) := if_neg h

theorem ppsEdge_values (h : ¬ (s.time.servo = .unset ∨ s.obj Obj.PPS_IN_WINDOW 0 < (secondOffset s.ppsStamp).natAbs)) :
    (ppsEdge s).obj Obj.PPS_IN_OFFSET 0 = secondOffset s.ppsStamp ∧ (ppsEdge s).obj Obj.PPS_IN_VALID 0 = 1 ∧
      (ppsEdge s).time.ppsAt = s.tick ∧ (ppsEdge s).time.meas = s.time.meas := by
  rw [ppsEdge_measures h]
  generalize secondOffset s.ppsStamp = off at h
  obtain ⟨hoff, hvalid, htime⟩ := ppsNoted_values s off
  generalize ppsNoted s off = v at hoff hvalid htime
  have hat : v.time.ppsAt = s.tick := by rw [htime]
  have hmeas : v.time.meas = s.time.meas := by rw [htime]
  split
  · next hheld =>
    have hset : v.time.servo ≠ .unset := by rw [hheld.2]; decide
    obtain ⟨hpps, hobjs⟩ := servoUpdate_ppsKept (o := off) (ts := 1000000000) (a := v.ppsStamp) (held := true) hset
    exact ⟨(hobjs _ _ (by decide)).trans hoff, (hobjs _ _ (by decide)).trans hvalid, hpps.trans hat, (servoUpdate_meas _ _ _ _ _).trans hmeas⟩
  · exact ⟨hoff, hvalid, hat, hmeas⟩

theorem ppsInEdge_runs (hoff : off = secondOffset s.ppsStamp) :
    ∃ t, exec .ppsInEdge s = .next t ∧
      if s.obj Obj.PPS_IN_MODE 0 = 0 ∨ s.ticking = false ∨ s.time.servo = .unset ∨ s.obj Obj.PPS_IN_WINDOW 0 < off.natAbs then
        Frame [.ex] s t
      else
        t.obj Obj.PPS_IN_OFFSET 0 = off ∧ t.obj Obj.PPS_IN_VALID 0 = 1 ∧ t.time.ppsAt = s.tick ∧ t.time.meas = s.time.meas := by
  have hrun : exec .ppsInEdge s = finish s (if s.obj Obj.PPS_IN_MODE 0 = 0 ∨ ¬ s.ticking = true then s else ppsEdge s) := rfl
  subst hoff
  by_cases hoff : s.obj Obj.PPS_IN_MODE 0 = 0 ∨ ¬ s.ticking = true
  · rw [if_pos hoff] at hrun
    refine ⟨_, hrun, ?_⟩
    rw [if_pos (hoff.imp_right fun h => .inl (Bool.eq_false_iff.mpr h))]
    exact frame_sealed (.refl s) (by decide)
  · rw [if_neg hoff] at hrun
    obtain ⟨hmode, htick⟩ := not_or.mp hoff
    by_cases hpass : s.time.servo = .unset ∨ s.obj Obj.PPS_IN_WINDOW 0 < (secondOffset s.ppsStamp).natAbs
    · rw [ppsEdge_passes hpass] at hrun
      refine ⟨_, hrun, ?_⟩
      rw [if_pos (.inr (.inr hpass))]
      exact frame_sealed (.refl s) (by decide)
    · have hvalues := ppsEdge_values hpass
      generalize ppsEdge s = w at hrun hvalues
      obtain ⟨hout, hvalid, hat, hmeas⟩ := hvalues
      refine ⟨_, hrun, ?_⟩
      rw [if_neg fun h => h.elim hmode fun h => h.elim (fun h => htick fun k => Bool.noConfusion (h.symm.trans k)) hpass]
      exact ⟨hout, hvalid, hat, hmeas⟩

theorem ppsInLost_runs (h : s.obj Obj.PPS_IN_VALID 0 = 1) :
    ∃ t, exec .ppsInLost s = .next t ∧
      if s.elapsed s.time.ppsAt 2000000000 = true then t.obj Obj.PPS_IN_VALID 0 = 0 else Frame [.ex] s t := by
  have hrun : exec .ppsInLost s = finish s (if s.obj Obj.PPS_IN_VALID 0 = 1 ∧ s.elapsed s.time.ppsAt 2000000000 = true then
      raiseA (s.setObj Obj.PPS_IN_VALID 0 0) 0x8037 [] else s) := rfl
  by_cases he : s.elapsed s.time.ppsAt 2000000000 = true
  · rw [if_pos ⟨h, he⟩] at hrun
    refine ⟨_, hrun, ?_⟩
    rw [if_pos he]
    exact (raiseA_obj (by decide) _ _ _).trans (obj_setObj ..)
  · rw [if_neg fun k => he k.2] at hrun
    refine ⟨_, hrun, ?_⟩
    rw [if_neg he]
    exact frame_sealed (.refl s) (by decide)

end

/-- Settles O56: each command of network time by its own lemma, from the messages and the servo to the reset and PPS_IN. -/
theorem networkTime : Obligations.NetworkTime := by
  unfold Obligations.NetworkTime
  refine ⟨fun m s h => ptpMessage_ignored h, fun m s he ht hd => ptpMessage_discarded he ht hd, ?_, ?_, ?_, ?_, ?_, ?_, ?_, ?_, ?_, ?_⟩
  · exact fun m stamp s hst he ht hd htr => ptpMessage_taken hst he ht hd htr
  · exact fun o ts s h => servoUpdate_ignored h
  · exact fun o ts a e i r s ht hmeas hv hts hm hp hs he hi hr => servoUpdate_moves ht hmeas hv hts hm hp hs he hi hr
  · exact fun o ts a s ht hmeas hv hl hm hp => servoUpdate_joins ht hmeas hv hl hm hp
  · exact fun x q s hx he hu hm hq => delayReqSend_runs hx he hu hm hq
  · exact fun cause m s h => masterLost_runs h
  · exact fun sess r s h => timeRate_runs h
  · exact fun sess s h => timeReset_runs h
  · exact fun off s h => ppsInEdge_runs h
  · exact fun s h => ppsInLost_runs h

end Sys2Proof.Proofs

/-!
SUPPORT. Sessions: the opening of one (R457, R458), and what its opening leaves of the others.
-/

namespace Sys2Proof.Proofs

open Sys2Proof Sys2Proof.Machine Sys2Proof.Laws

section

variable {s t u : State} {level source udpPort req num i n : Nat} {uart : Bool} {nonce ip : List Byte} {x : Session}

/-! ### What events leave -/

theorem mmap_keys {α : Type} (f : Nat → α → α) (m : SMap α) : (mmap f m).map (·.1) = m.map (·.1) := by
  induction m with
  | nil => rfl
  | cons p t ih => exact congrArg (p.1 :: ·) ih

theorem Told.keys (h : Told s t) : t.ex.sessions.map (·.1) = s.ex.sessions.map (·.1) := by
  obtain ⟨l, q, d, f, hf, ht⟩ := h
  rw [ht]
  exact mmap_keys _ _

theorem Told.nonces (h : Told s t) : t.ex.nonces = s.ex.nonces := by
  obtain ⟨l, q, d, f, hf, ht⟩ := h
  rw [ht]

theorem Told.prevKeys (h : Told s t) : t.ex.prevKeys = s.ex.prevKeys := by
  obtain ⟨l, q, d, f, hf, ht⟩ := h
  rw [ht]

theorem Told.found (h : Told s t) (hx : mfind s.ex.sessions i = some x) : ∃ y, mfind t.ex.sessions i = some y ∧ Delivered x y := by
  obtain ⟨l, q, d, f, hf, ht⟩ := h
  refine ⟨f x, ?_, hf x⟩
  rw [ht, mfind_mmap, hx]
  rfl

theorem Told.gone (h : Told s t) (hx : mfind s.ex.sessions i = none) : mfind t.ex.sessions i = none := by
  obtain ⟨l, q, d, f, hf, ht⟩ := h
  rw [ht, mfind_mmap, hx]
  rfl

theorem raiseA_told (s : State) (code : Nat) (data : List EvItem) : Told s (raiseA s code data) := raise_told _ _ _ _

theorem rejectFrame_keys (s : State) (counter check : Nat) : (rejectFrame s counter check).ex.sessions.map (·.1) = s.ex.sessions.map (·.1) := by
  unfold rejectFrame
  extract_lets u n due
  have hu : u.ex.sessions = s.ex.sessions := rfl
  clear_value u due n
  split
  · exact (raiseA_told _ _ _).keys.trans (congrArg (List.map (·.1)) hu)
  · exact congrArg (List.map (·.1)) hu

/-! ### An OPEN that is not served -/

theorem openSession_dropped (h : 2 < level) : exec (.openSession level nonce source uart ip ⟨udpPort, req⟩) s = finish s (dropSession s) :=
  congrArg (finish s) (if_pos h)

theorem openSession_unserved (h : ¬ 2 < level) (hs : s.exvanServed = false) :
    exec (.openSession level nonce source uart ip ⟨udpPort, req⟩) s = finish s s :=
  congrArg (finish s) ((if_neg h).trans (if_pos (by rw [hs]; rfl)))

theorem dropSession_kept (s : State) : (dropSession s).ex.sessions.map (·.1) = s.ex.sessions.map (·.1) ∧ (dropSession s).ex.out = s.ex.out := by
  unfold dropSession
  split
  · exact ⟨rfl, rfl⟩
  · exact ⟨rejectFrame_keys _ _ _, rejectFrame_out _ _ _⟩

theorem dropSession_counts (h : s.dev.state ≠ .off) : (dropSession s).objN Obj.SESSION_DROPS 0 = (s.objN Obj.SESSION_DROPS 0 + 1) % 2 ^ 64 := by
  unfold dropSession
  rw [if_neg h]
  exact rejectFrame_counts 3 (by decide)

theorem openSession_refused (h : 2 < level ∨ s.exvanServed = false) :
    ∃ t, exec (.openSession level nonce source uart ip ⟨udpPort, req⟩) s = .next t ∧ t.ex.sessions.map (·.1) = s.ex.sessions.map (·.1) ∧
      t.ex.out = s.ex.out ∧ (2 < level → s.dev.state ≠ .off → t.objN Obj.SESSION_DROPS 0 = (s.objN Obj.SESSION_DROPS 0 + 1) % 2 ^ 64) := by
  by_cases hl : 2 < level
  · have hrun := openSession_dropped (nonce := nonce) (source := source) (uart := uart) (ip := ip) (udpPort := udpPort) (req := req) (s := s) hl
    obtain ⟨hkeys, hout⟩ := dropSession_kept s
    have hcount := dropSession_counts (s := s)
    generalize dropSession s = w at hrun hkeys hout hcount
    exact ⟨_, hrun, hkeys, hout, fun _ hd => hcount hd⟩
  · exact ⟨_, openSession_unserved hl (h.resolve_left hl), rfl, rfl, fun h => absurd h hl⟩

theorem served_open (hl : level ≤ 2) (hs : s.exvanServed = true) : exec (.openSession level nonce source uart ip ⟨udpPort, req⟩) s =
    finish s (if (s.active.isNone && !s.recovery) = true then
      { s with ex := { s.ex with groupLane := s.ex.groupLane ++ [.openSession level nonce source uart ip ⟨udpPort, req⟩] } }
    else openNow s level nonce source uart ip udpPort req) :=
  congrArg (finish s) ((if_neg (by omega)).trans (if_neg (by rw [hs]; exact Bool.false_ne_true)))

theorem openSession_waits (hl : level ≤ 2) (hs : s.exvanServed = true) (hr : s.recovery = false) (ha : s.active = none) :
    ∃ t, exec (.openSession level nonce source uart ip ⟨udpPort, req⟩) s = .next t ∧
      t.ex.groupLane = s.ex.groupLane ++ [.openSession level nonce source uart ip ⟨udpPort, req⟩] ∧ Frame [.ex] s t := by
  have hrun := served_open (nonce := nonce) (source := source) (uart := uart) (ip := ip) (udpPort := udpPort) (req := req) hl hs
  rw [if_pos (by rw [ha, hr]; rfl)] at hrun
  exact ⟨_, hrun, rfl, frame_sealed (.set_ex (by decide) (.refl s)) (by decide)⟩

/-! ### A free SESSION number -/

theorem session_none (h : ∀ p ∈ s.ex.sessions, p.2.num ≠ n) : s.session n = none :=
  List.find?_eq_none.mpr fun p hp => by simpa using h p hp

/-- With fewer sessions than candidates one candidate is free. -/
theorem exists_free_session {l : List Nat} (hn : l.Nodup) (hl : s.ex.sessions.length < l.length) : ∃ k ∈ l, s.session k = none := by
  by_contra hall
  have hsub : l ⊆ s.ex.sessions.map (·.2.num) := fun k hk => by
    by_contra hout
    exact hall ⟨k, hk, session_none fun p hp e => hout (List.mem_map.mpr ⟨p, hp, e⟩)⟩
  have := (hn.subperm hsub).length_le
  rw [List.length_map] at this
  omega

theorem candidates_nodup (n : Nat) : ((List.range 17).map fun i => (n + i) % 0xFFFD + 1).Nodup := by
  refine List.Nodup.map_on (fun a ha b hb hab => ?_) List.nodup_range
  have ha := List.mem_range.mp ha
  have hb := List.mem_range.mp hb
  omega

theorem freeSession_free (h : s.ex.sessions.length < 16) (n : Nat) :
    1 ≤ s.freeSession n ∧ s.freeSession n ≤ 0xFFFD ∧ s.session (s.freeSession n) = none := by
  obtain ⟨k, hk, hfree⟩ := exists_free_session (s := s) (candidates_nodup n) (by rw [List.length_map, List.length_range]; omega)
  unfold State.freeSession
  cases hf : ((List.range 17).map fun i => (n + i) % 0xFFFD + 1).find? fun k => (s.session k).isNone with
  | none => exact absurd (List.find?_eq_none.mp hf k hk) (by simp [hfree])
  | some j =>
    have hj := List.find?_some hf
    obtain ⟨i, -, hi⟩ := List.mem_map.mp (List.mem_of_find?_eq_some hf)
    simp only [Option.getD_some]
    refine ⟨by omega, by omega, Option.isNone_iff_eq_none.mp hj⟩

end

end Sys2Proof.Proofs

/-!
SUPPORT. An OPEN that is served (R457, R458): the refusals, and the session that it makes.
-/

namespace Sys2Proof.Proofs

open Sys2Proof Sys2Proof.Machine Sys2Proof.Laws

section

variable {s t u : State} {level source udpPort req num i n : Nat} {uart : Bool} {nonce ip : List Byte} {x : Session} {c : Caller}

theorem sendTo_out (s : State) (source : Nat) (o : Option Origin) (p : List Byte) : (sendTo s source o p).ex.out = s.ex.out := by
  unfold sendTo
  split
  · rfl
  · split <;> rfl

theorem sendTo_nonces (s : State) (source : Nat) (o : Option Origin) (p : List Byte) : (sendTo s source o p).ex.nonces = s.ex.nonces := by
  unfold sendTo
  split
  · rfl
  · split <;> rfl

theorem openAnswer_out (s : State) (c : Caller) (sess : Nat) (key : List Byte) (req : Nat) (r : Reply) :
    (openAnswer s c sess key req r).ex.out = ⟨sess, req, 0, 0, 0, false, r⟩ :: s.ex.out := sendTo_out _ _ _ _

theorem openAnswer_nonces (s : State) (c : Caller) (sess : Nat) (key : List Byte) (req : Nat) (r : Reply) :
    (openAnswer s c sess key req r).ex.nonces = s.ex.nonces := sendTo_nonces _ _ _ _

/-- What the session of an accepted OPEN begins as, whatever number and entry it gets. -/
def opened (s : State) (c : Caller) (level num source : Nat) (uart : Bool) (addr : List Byte) (udpPort : Nat) (key : List Byte) : Session :=
  { num, level, source, uart, ip := addr, udpPort, keyGen := c.gen, key, rxSeen := [0], lastFrame := s.tick, origin := c.origin }

/-- The state with a session of a fresh number in its entry, and the nonce remembered. -/
def opening (s : State) (level i : Nat) (nonce : List Byte) (x : Session) : State :=
  State.setSession { s.fresh.2 with ex := { s.fresh.2.ex with nonces := mset s.fresh.2.ex.nonces level ((nonce :: mget [] s.fresh.2.ex.nonces level).take 64) } }
    i x

theorem openAccept_eq (s : State) (c : Caller) (level : Nat) (nonce : List Byte) (source : Nat) (uart : Bool) (ip : List Byte) (udpPort req : Nat) :
    ∃ i addr key d dev, openAccept s c level nonce source uart ip udpPort req =
      openAnswer (raiseA (opening s level i nonce (opened s c level (s.fresh.2.freeSession s.fresh.1) source uart addr udpPort key)) 0x9001 d) c
        (s.fresh.2.freeSession s.fresh.1) key req (.ack (beBytes 2 (s.fresh.2.freeSession s.fresh.1) ++ [0, 0] ++ dev ++ beBytes 4
          ((raiseA (opening s level i nonce (opened s c level (s.fresh.2.freeSession s.fresh.1) source uart addr udpPort key)) 0x9001 d).objN
            Obj.SESSION_TIMEOUT 0))) := ⟨_, _, _, _, _, rfl⟩

theorem openAccept_opens (h : s.ex.sessions.length < 16) :
    let t := openAccept s c level nonce source uart ip udpPort req
    ∃ num i x dev, mfind t.ex.sessions i = some x ∧ x.num = num ∧ 1 ≤ num ∧ num ≤ 0xFFFD ∧ s.session num = none ∧
      x.level = level ∧ x.source = source ∧ x.uart = uart ∧ x.udpPort = udpPort ∧ x.keyGen = c.gen ∧
      x.lastFrame = s.tick ∧ x.txSeq = 0 ∧ nonce ∈ mget [] t.ex.nonces level ∧
      t.ex.out.head? = some ⟨num, req, 0, 0, 0, false,
        .ack (beBytes 2 num ++ [0, 0] ++ dev ++ beBytes 4 (s.objN Obj.SESSION_TIMEOUT 0))⟩ := by
  obtain ⟨i, addr, key, d, dev, heq⟩ := openAccept_eq s c level nonce source uart ip udpPort req
  obtain ⟨hlow, hhigh, hfree⟩ := freeSession_free (s := s.fresh.2) h s.fresh.1
  intro t
  have ht : t = _ := heq
  clear_value t
  generalize s.fresh.2.freeSession s.fresh.1 = num at ht hlow hhigh hfree
  have hmade : mfind (opening s level i nonce (opened s c level num source uart addr udpPort key)).ex.sessions i =
      some (opened s c level num source uart addr udpPort key) := mfind_mset_self _ _ _
  have hnonce : nonce ∈ mget [] (opening s level i nonce (opened s c level num source uart addr udpPort key)).ex.nonces level := by
    show nonce ∈ mget [] (mset _ level _) level
    rw [mget_mset_self]
    exact List.mem_cons_self
  have htime : (opening s level i nonce (opened s c level num source uart addr udpPort key)).obj Obj.SESSION_TIMEOUT 0 = s.obj Obj.SESSION_TIMEOUT 0 := rfl
  generalize opening s level i nonce (opened s c level num source uart addr udpPort key) = v at ht hmade hnonce htime
  have htold := raiseA_told v 0x9001 d
  have htimeout : (raiseA v 0x9001 d).objN Obj.SESSION_TIMEOUT 0 = s.objN Obj.SESSION_TIMEOUT 0 :=
    congrArg Int.toNat ((raiseA_obj (by decide) _ _ _).trans htime)
  obtain ⟨y, hy, q, e, o, rfl⟩ := htold.found hmade
  refine ⟨num, i, { opened s c level num source uart addr udpPort key with queue := q, dropped := e, overflowed := o }, dev, ?_, rfl, hlow, hhigh, hfree, rfl, rfl, rfl, rfl, rfl, rfl, rfl, ?_, ?_⟩
  · rw [ht, openAnswer_sessions]
    exact hy
  · rw [ht, openAnswer_nonces, htold.nonces]
    exact hnonce
  · rw [ht, openAnswer_out, htimeout]
    rfl

theorem openNow_serves (hr : s.recovery = false) : openNow s level nonce source uart ip udpPort req =
    if (mget [] s.ex.nonces level).contains nonce = true then
      openAnswer (rejectFrame s Obj.REPLAY_DROPS 6) (s.caller level nonce source uart) 0 (s.caller level nonce source uart).key req (.nak .conflict 0 0)
    else if 16 ≤ s.ex.sessions.length then
      openAnswer s (s.caller level nonce source uart) 0 (s.caller level nonce source uart).key req (.nak .full 0 0)
    else openAccept s (s.caller level nonce source uart) level nonce source uart ip udpPort req := by
  have hno (p : Prop) : ¬ (s.recovery = true ∧ p) := by rw [hr]; exact fun h => Bool.false_ne_true h.1
  exact (if_neg (hno _)).trans (if_neg (hno _))

theorem openAnswer_objs (s : State) (c : Caller) (sess : Nat) (key : List Byte) (req : Nat) (r : Reply) (a b : Nat) :
    (openAnswer s c sess key req r).objN a b = s.objN a b := objN_of_objs ((openAnswer_frame s c sess key req r).objs rfl) a b

theorem openSession_serves (hl : level ≤ 2) (hs : s.exvanServed = true) (hr : s.recovery = false) (ha : s.active.isSome = true) :
    ∃ t, exec (.openSession level nonce source uart ip ⟨udpPort, req⟩) s = .next t ∧
      if nonce ∈ mget [] s.ex.nonces level then
        t.ex.out = ⟨0, req, 0, 0, 0, false, .nak .conflict 0 0⟩ :: s.ex.out ∧
          t.ex.sessions.map (·.1) = s.ex.sessions.map (·.1) ∧ t.objN Obj.REPLAY_DROPS 0 = (s.objN Obj.REPLAY_DROPS 0 + 1) % 2 ^ 64
      else if 16 ≤ s.ex.sessions.length then
        t.ex.out = ⟨0, req, 0, 0, 0, false, .nak .full 0 0⟩ :: s.ex.out ∧ t.ex.sessions = s.ex.sessions
      else
        ∃ num i x dev, mfind t.ex.sessions i = some x ∧ x.num = num ∧ 1 ≤ num ∧ num ≤ 0xFFFD ∧ s.session num = none ∧
          x.level = level ∧ x.source = source ∧ x.uart = uart ∧ x.udpPort = udpPort ∧ x.keyGen = (s.caller level nonce source uart).gen ∧
          x.lastFrame = s.tick ∧ x.txSeq = 0 ∧ nonce ∈ mget [] t.ex.nonces level ∧
          t.ex.out.head? = some ⟨num, req, 0, 0, 0, false,
            .ack (beBytes 2 num ++ [0, 0] ++ dev ++ beBytes 4 (s.objN Obj.SESSION_TIMEOUT 0))⟩ := by
  have hrun := served_open (nonce := nonce) (source := source) (uart := uart) (ip := ip) (udpPort := udpPort) (req := req) hl hs
  have hactive : ¬ (s.active.isNone && !s.recovery) = true := by
    cases hact : s.active with
    | none => rw [hact] at ha; exact absurd ha Bool.false_ne_true
    | some a => exact Bool.false_ne_true
  rw [if_neg hactive, openNow_serves hr] at hrun
  by_cases hn : nonce ∈ mget [] s.ex.nonces level
  · rw [if_pos (List.contains_iff_mem.mpr hn)] at hrun
    have hcount := rejectFrame_counts (s := s) (counter := Obj.REPLAY_DROPS) 6 (by decide)
    have hkeys := rejectFrame_keys s Obj.REPLAY_DROPS 6
    have hout := rejectFrame_out s Obj.REPLAY_DROPS 6
    generalize s.caller level nonce source uart = c at hrun
    generalize rejectFrame s Obj.REPLAY_DROPS 6 = v at hrun hcount hkeys hout
    have hans := openAnswer_out v c 0 c.key req (.nak .conflict 0 0)
    have hsess := openAnswer_sessions v c 0 c.key req (.nak .conflict 0 0)
    have hobjs := openAnswer_objs v c 0 c.key req (.nak .conflict 0 0) Obj.REPLAY_DROPS 0
    generalize openAnswer v c 0 c.key req (.nak .conflict 0 0) = w at hrun hans hsess hobjs
    refine ⟨_, hrun, ?_⟩
    rw [if_pos hn]
    refine ⟨?_, ?_, hobjs.trans hcount⟩
    · show w.ex.out = _
      rw [hans, hout]
    · exact (congrArg (List.map (·.1)) hsess).trans hkeys
  · rw [if_neg fun h => hn (List.contains_iff_mem.mp h)] at hrun
    by_cases hf : 16 ≤ s.ex.sessions.length
    · rw [if_pos hf] at hrun
      generalize s.caller level nonce source uart = c at hrun
      have hans := openAnswer_out s c 0 c.key req (.nak .full 0 0)
      have hsess := openAnswer_sessions s c 0 c.key req (.nak .full 0 0)
      generalize openAnswer s c 0 c.key req (.nak .full 0 0) = w at hrun hans hsess
      refine ⟨_, hrun, ?_⟩
      rw [if_neg hn, if_pos hf]
      exact ⟨hans, hsess⟩
    · rw [if_neg hf] at hrun
      have hopened := openAccept_opens (s := s) (c := s.caller level nonce source uart) (level := level) (nonce := nonce) (source := source) (uart := uart)
        (ip := ip) (udpPort := udpPort) (req := req) (Nat.lt_of_not_le hf)
      generalize openAccept s (s.caller level nonce source uart) level nonce source uart ip udpPort req = w at hrun hopened
      refine ⟨_, hrun, ?_⟩
      rw [if_neg hn, if_neg hf]
      exact hopened

end

end Sys2Proof.Proofs

/-!
SUPPORT. Requests of a session other than object accesses, and the closures of Table 16.5 (R455, R459, R460, R477).
-/

namespace Sys2Proof.Proofs

open Sys2Proof Sys2Proof.Machine Sys2Proof.Laws

section

variable {s t u : State} {sess req i n filter code mask : Nat} {enable : Bool} {body : List Byte} {x y : Session}

theorem unlessRecovery_runs (h : s.recovery = false) (f : State → State) : unlessRecovery sess req f s = f s :=
  if_neg (by rw [h]; exact Bool.false_ne_true)

theorem ready_recovery (h : s.ready sess = true) : s.recovery = false := by
  obtain ⟨-, -, -, -, -, -, -, hr⟩ := State.ready_iff.mp h
  exact hr

theorem recovery_seen (s : State) (sess : Nat) : (seen s sess).recovery = s.recovery := by
  unfold State.recovery
  rw [(seen_frame s sess).dev rfl]

/-- A request that carries a REQ_ID runs on the state that has seen its frame, recovery mode apart. -/
theorem request_carries {c : Instr} (hr : s.ready sess = true) (hq : s.newReq sess req = true) (f : State → State) :
    request s sess req .object c (fun s _ => unlessRecovery sess req f s) = f (seen s sess) := by
  obtain ⟨i, x, -, hrun⟩ := request_ready hr c (.inr hq) (fun s _ => unlessRecovery sess req f s)
  exact hrun.trans (unlessRecovery_runs ((recovery_seen s sess).trans (ready_recovery hr)) f)

theorem answer_seen (h : openIn (seen s sess) sess) (r : Reply) : (answer (seen s sess) sess req 0 0 r).answered sess req 0 0 r ∧
    Frame [.ex] s (answer (seen s sess) sess req 0 0 r) := by
  obtain ⟨hans, hframe⟩ := answer_open h req 0 0 r
  exact ⟨hans, (seen_frame s sess).trans hframe⟩

/-! ### ECHO and SUBSCRIBE -/

theorem echo_runs (hr : s.ready sess = true) (hq : s.newReq sess req = true) :
    ∃ t, exec (.echo sess req body) s = .next t ∧ Frame [.ex] s t ∧
      t.answered sess req 0 0 (if body.length ≤ 64 then .ack body else .nak .format 0 0) := by
  have hrun : exec (.echo sess req body) s = finish s (answer (seen s sess) sess req 0 0 (if body.length ≤ 64 then .ack body else .nak .format 0 0)) :=
    congrArg (finish s) (request_carries hr hq _)
  obtain ⟨hans, hframe⟩ := answer_seen (req := req) (openIn_seen hr) (if body.length ≤ 64 then .ack body else .nak .format 0 0)
  generalize answer (seen s sess) sess req 0 0 (if body.length ≤ 64 then .ack body else .nak .format 0 0) = w at hrun hans hframe
  exact ⟨_, hrun, frame_sealed hframe (by decide), hans⟩

theorem setFilter_eq (h : s.session sess = some (i, x)) (f : Filter) :
    setFilter s sess filter f = s.setSession i { x with filters := mset x.filters filter f } := by
  unfold setFilter
  rw [h]

theorem subscribe_refused (hr : s.ready sess = true) (hq : s.newReq sess req = true) (hf : 7 < filter) :
    ∃ t, exec (.subscribe sess req filter enable code mask) s = .next t ∧ Frame [.ex] s t ∧ t.answered sess req 0 0 (.nak .format 0 0) := by
  have hrun : exec (.subscribe sess req filter enable code mask) s = finish s (answer (seen s sess) sess req 0 0 (.nak .format 0 0)) :=
    congrArg (finish s) ((request_carries hr hq _).trans (if_pos hf))
  obtain ⟨hans, hframe⟩ := answer_seen (req := req) (openIn_seen hr) (.nak .format 0 0)
  generalize answer (seen s sess) sess req 0 0 (.nak .format 0 0) = w at hrun hans hframe
  exact ⟨_, hrun, frame_sealed hframe (by decide), hans⟩

theorem subscribe_sets (hr : s.ready sess = true) (hq : s.newReq sess req = true) (hf : ¬ 7 < filter) :
    ∃ t, exec (.subscribe sess req filter enable code mask) s = .next t ∧ Frame [.ex] s t ∧ t.answered sess req 0 0 (.ack []) ∧
      ∃ i x, t.session sess = some (i, x) ∧ mfind x.filters filter = some { enable, code, mask } := by
  obtain ⟨i, x, hx, -⟩ := State.ready_iff.mp hr
  have hseen := session_seen_same hx
  have hnum := session_num hseen
  have hset := session_setSession_same (y := { x with lastFrame := s.tick, filters := mset x.filters filter { enable, code, mask } }) hseen hnum
  have hrun : exec (.subscribe sess req filter enable code mask) s = finish s
      (answer ((seen s sess).setSession i { x with lastFrame := s.tick, filters := mset x.filters filter { enable, code, mask } }) sess req 0 0 (.ack [])) := by
    refine congrArg (finish s) ((request_carries hr hq _).trans ((if_neg hf).trans ?_))
    rw [setFilter_eq hseen]
  have hframe : Frame [.ex] s ((seen s sess).setSession i { x with lastFrame := s.tick, filters := mset x.filters filter { enable, code, mask } }) :=
    .step (State.setSession_frame _ _ _) (by decide) (seen_frame s sess)
  generalize (seen s sess).setSession i { x with lastFrame := s.tick, filters := mset x.filters filter { enable, code, mask } } = v at hrun hset hframe
  obtain ⟨hans, hkept⟩ := answer_open (openIn_of_session hset) req 0 0 (.ack [])
  obtain ⟨-, q, c, o, hsession, -⟩ := answer_session hset req 0 0 (.ack [])
  generalize answer v sess req 0 0 (.ack []) = w at hrun hans hkept hsession
  exact ⟨_, hrun, frame_sealed (hframe.trans hkept) (by decide), hans, i, _, hsession, mfind_mset_self _ _ _⟩

theorem subscribe_runs (hr : s.ready sess = true) (hq : s.newReq sess req = true) :
    ∃ t, exec (.subscribe sess req filter enable code mask) s = .next t ∧ Frame [.ex] s t ∧
      if 7 < filter then t.answered sess req 0 0 (.nak .format 0 0)
      else t.answered sess req 0 0 (.ack []) ∧ ∃ i x, t.session sess = some (i, x) ∧ mfind x.filters filter = some { enable, code, mask } := by
  by_cases hf : 7 < filter
  · obtain ⟨t, hrun, hframe, hans⟩ := subscribe_refused (enable := enable) (code := code) (mask := mask) hr hq hf
    refine ⟨t, hrun, hframe, ?_⟩
    rw [if_pos hf]
    exact hans
  · obtain ⟨t, hrun, hframe, hsets⟩ := subscribe_sets (enable := enable) (code := code) (mask := mask) hr hq hf
    refine ⟨t, hrun, hframe, ?_⟩
    rw [if_neg hf]
    exact hsets

/-! ### EVENT frames -/

/-- The session whose EVENT frame has been sent. -/
def framed (x : Session) : Session := { x with queue := x.queue.drop 16, overflowed := false, txSeq := x.txSeq + 1 }

theorem sendEvents_sends (hx : s.session sess = some (i, x)) (hq : x.queue ≠ []) (hseq : x.txSeq + 1 < u32Max) :
    ∃ e, sendEvents s sess = { s with ex := e } ∧ e.eventFrames = (sess, x.txSeq + 1, x.queue.take 16) :: s.ex.eventFrames ∧
      mfind e.sessions i = some (framed x) ∧ e.log = s.ex.log := by
  obtain ⟨p, hsend⟩ : ∃ p, sendEvents s sess = closeIfSpent
      { (sendTo s 4 x.origin p).setSession i (framed x) with ex := { ((sendTo s 4 x.origin p).setSession i (framed x)).ex with
          eventFrames := (sess, x.txSeq + 1, x.queue.take 16) :: ((sendTo s 4 x.origin p).setSession i (framed x)).ex.eventFrames } } sess := by
    unfold sendEvents
    rw [hx]
    exact ⟨_, if_neg fun h => hq (List.isEmpty_iff.mp h)⟩
  have hwire : ∃ e, sendTo s 4 x.origin p = { s with ex := e } ∧ e.sessions = s.ex.sessions ∧ e.eventFrames = s.ex.eventFrames ∧
      e.log = s.ex.log := by
    unfold sendTo
    split
    · exact ⟨s.ex, rfl, rfl, rfl, rfl⟩
    · split <;> exact ⟨_, rfl, rfl, rfl, rfl⟩
  obtain ⟨e, he, hsess, hframes, hlog⟩ := hwire
  rw [he] at hsend
  have hv : (State.setSession { s with ex := e } i (framed x)).session sess = some (i, framed x) := by
    refine session_setSession_same (x := x) ?_ (show x.num = sess from session_num hx)
    unfold State.session at hx ⊢
    rw [hsess]
    exact hx
  have hspent : closeIfSpent { s with ex := { e with sessions := mset e.sessions i (framed x), eventFrames := (sess, x.txSeq + 1, x.queue.take 16) :: e.eventFrames } } sess =
      { s with ex := { e with sessions := mset e.sessions i (framed x), eventFrames := (sess, x.txSeq + 1, x.queue.take 16) :: e.eventFrames } } := by
    unfold closeIfSpent
    rw [show State.session { s with ex := { e with sessions := mset e.sessions i (framed x), eventFrames := (sess, x.txSeq + 1, x.queue.take 16) :: e.eventFrames } } sess =
      some (i, framed x) from hv]
    exact if_neg (show ¬ u32Max ≤ x.txSeq + 1 by omega)
  refine ⟨_, hsend.trans hspent, ?_, mfind_mset_self _ _ _, hlog⟩
  show _ :: e.eventFrames = _
  rw [hframes]

theorem eventFrameSend_sends (ha : s.active.isSome = true) (hx : s.session sess = some (i, x)) (hq : x.queue ≠ []) (hseq : x.txSeq + 1 < u32Max) :
    ∃ t, exec (.eventFrameSend sess) s = .next t ∧ t.ex.eventFrames = (sess, x.txSeq + 1, x.queue.take 16) :: s.ex.eventFrames ∧ Frame [.ex] s t ∧
      ∃ y, mfind t.ex.sessions i = some y ∧ y.queue = x.queue.drop 16 ∧ y.txSeq = x.txSeq + 1 ∧ y.overflowed = false := by
  have hrun : exec (.eventFrameSend sess) s = finish s (sendEvents s sess) := congrArg (finish s) (if_pos ha)
  obtain ⟨e, he, hframes, hfound, hlog⟩ := sendEvents_sends hx hq hseq
  rw [he] at hrun
  exact ⟨_, hrun, hframes, frame_sealed (.set_ex (el := hlog) (by decide) (.refl s)) (by decide), framed x, hfound, rfl, rfl, rfl⟩

/-! ### Closures -/

/-- The sessions' side of a state after the entry of a session has gone. -/
def closed (s : State) (i num : Nat) : State :=
  { s with ex := { s.ex with sessions := mdel s.ex.sessions i, owed := s.ex.owed.filter fun o => o.sess ≠ num } }

theorem closeSession_eq (hx : s.session n = some (i, x)) (reason : Nat) :
    closeSession s n reason = raiseA (closed (abandonLoad s n true) i n) 0x9002 [.word n, .word reason] := by
  unfold closeSession
  rw [hx]
  rfl

theorem closed_ex (s : State) (i num : Nat) : (closed (abandonLoad s num true) i num).ex =
    { s.ex with sessions := mdel s.ex.sessions i, owed := s.ex.owed.filter fun o => o.sess ≠ num } := by
  have hex : (abandonLoad s num true).ex = s.ex := (abandonLoad_frame s num true).ex rfl
  unfold closed
  rw [hex]

/-- A session closed has left its entry, and nothing is owed to it. -/
theorem closeSession_closes (hx : s.session n = some (i, x)) (reason : Nat) : mfind (closeSession s n reason).ex.sessions i = none ∧
    ∀ o ∈ (closeSession s n reason).ex.owed, o.sess ≠ n := by
  rw [closeSession_eq hx]
  have htold := raiseA_told (closed (abandonLoad s n true) i n) 0x9002 [.word n, .word reason]
  have hex := closed_ex s i n
  generalize closed (abandonLoad s n true) i n = v at htold hex
  refine ⟨htold.gone ?_, fun o ho => ?_⟩
  · rw [hex]
    exact mfind_mdel_self _ _
  · rw [htold.owed, hex] at ho
    exact of_decide_eq_true (List.mem_filter.mp ho).2

theorem closeSession_prevKeys (s : State) (n reason : Nat) : (closeSession s n reason).ex.prevKeys = s.ex.prevKeys := by
  cases hx : s.session n with
  | none =>
    unfold closeSession
    rw [hx]
  | some p =>
    obtain ⟨i, x⟩ := p
    rw [closeSession_eq hx, (raiseA_told _ _ _).prevKeys, closed_ex]

theorem find_mdel (l : SMap Session) {n i j : Nat} (h : l.find? (fun p => p.2.num == n) = some (i, x)) (hj : j ≠ i) :
    (mdel l j).find? (fun p => p.2.num == n) = some (i, x) := by
  induction l with
  | nil => exact absurd h (by simp)
  | cons p t ih =>
    obtain ⟨k, z⟩ := p
    by_cases hz : z.num = n
    · rw [List.find?_cons_of_pos (by simpa using hz)] at h
      cases h
      unfold mdel
      rw [if_neg (Ne.symm hj)]
      exact List.find?_cons_of_pos (by simpa using hz)
    · rw [List.find?_cons_of_neg (by simpa using hz)] at h
      unfold mdel
      split
      · exact ih h
      · rw [List.find?_cons_of_neg (by simpa using hz)]
        exact ih h

theorem closeSession_other {j : Nat} (hx : s.session n = some (j, y)) (reason : Nat) (h : s.session sess = some (i, x)) (hj : j ≠ i) :
    openIn (closeSession s n reason) sess := by
  rw [closeSession_eq hx]
  have hex := closed_ex s j n
  have hsession : (closed (abandonLoad s n true) j n).session sess = some (i, x) := by
    unfold State.session
    rw [hex]
    exact find_mdel _ h hj
  obtain ⟨z, hz, -⟩ := (raiseA_told (closed (abandonLoad s n true) j n) 0x9002 [.word n, .word reason]).session hsession
  exact openIn_of_session hz

theorem closeSession_runs (hr : s.ready sess = true) (hq : s.newReq sess req = true) (hx : s.session sess = some (i, x)) :
    ∃ t, exec (.closeSession sess req) s = .next t ∧ t.answered sess req 0 0 (.ack []) ∧ mfind t.ex.sessions i = none := by
  have hrun : exec (.closeSession sess req) s = finish s (closeSession (answer (seen s sess) sess req 0 0 (.ack [])) sess 1) :=
    congrArg (finish s) (request_carries hr hq _)
  obtain ⟨hans, -⟩ := answer_seen (req := req) (openIn_seen hr) (.ack [])
  obtain ⟨-, q, c, o, hsession, -⟩ := answer_session (session_seen_same hx) req 0 0 (.ack [])
  generalize answer (seen s sess) sess req 0 0 (.ack []) = v at hrun hans hsession
  obtain ⟨hgone, -⟩ := closeSession_closes hsession 1
  have hout := closeSession_out v sess 1
  generalize closeSession v sess 1 = w at hrun hgone hout
  obtain ⟨seq, hhead⟩ := hans
  refine ⟨_, hrun, ⟨seq, ?_⟩, hgone⟩
  show w.ex.out.head? = _
  rw [hout, hhead]

theorem sessionTimeout_runs (hx : s.session sess = some (i, x)) :
    ∃ t, exec (.sessionTimeout sess) s = .next t ∧
      if s.exvanServed = true ∧ s.elapsed x.lastFrame (1000000 * s.objN Obj.SESSION_TIMEOUT 0) = true then
        mfind t.ex.sessions i = none ∧ ∀ o ∈ t.ex.owed, o.sess ≠ sess
      else Frame [.ex] s t ∧ t.ex.sessions = s.ex.sessions := by
  have hrun : exec (.sessionTimeout sess) s = finish s
      (if s.exvanServed = true ∧ s.elapsed x.lastFrame (1000000 * s.objN Obj.SESSION_TIMEOUT 0) = true then closeSession s sess 2 else s) := by
    show finish s _ = _
    rw [hx]
  by_cases hd : s.exvanServed = true ∧ s.elapsed x.lastFrame (1000000 * s.objN Obj.SESSION_TIMEOUT 0) = true
  · rw [if_pos hd] at hrun
    have hcloses := closeSession_closes hx 2
    generalize closeSession s sess 2 = w at hrun hcloses
    refine ⟨_, hrun, ?_⟩
    rw [if_pos hd]
    exact hcloses
  · rw [if_neg hd] at hrun
    refine ⟨_, hrun, ?_⟩
    rw [if_neg hd]
    exact ⟨frame_sealed (.refl s) (by decide), rfl⟩

end

end Sys2Proof.Proofs

/-!
SUPPORT. SESSION_CLOSE (R460), the rotation of keys (R463) and the reservation of group SEQs (R462).
-/

namespace Sys2Proof.Proofs

open Sys2Proof Sys2Proof.Machine Sys2Proof.Laws

section

variable {s t u : State} {sess target i j n k : Nat} {x y : Session} {key : List Byte}

/-! ### The keys of a sorted table -/

theorem msorted_lt {α : Type} {a : Nat} {x : α} {l : SMap α} (h : msorted ((a, x) :: l) = true) : ∀ p ∈ l, a < p.1 := by
  induction l generalizing a x with
  | nil => exact fun p hp => absurd hp List.not_mem_nil
  | cons q t ih =>
    obtain ⟨b, z⟩ := q
    obtain ⟨hhead, htail⟩ := (msorted_cons a x ((b, z) :: t)).mp h
    have hab : a < b := hhead (b, z) rfl
    intro p hp
    rcases List.mem_cons.mp hp with rfl | hp
    · exact hab
    · exact hab.trans (ih htail p hp)

theorem msorted_tail {α : Type} {p : Nat × α} {l : SMap α} (h : msorted (p :: l) = true) : msorted l = true :=
  ((msorted_cons p.1 p.2 l).mp h).2

theorem msorted_unique {α : Type} {l : SMap α} (h : msorted l = true) {a : Nat} {x y : α} (hx : (a, x) ∈ l) (hy : (a, y) ∈ l) : x = y := by
  induction l with
  | nil => exact absurd hx List.not_mem_nil
  | cons p t ih =>
    rcases List.mem_cons.mp hx with rfl | hxt
    · rcases List.mem_cons.mp hy with h | hy
      · exact (Prod.mk.inj h).2.symm
      · exact absurd (msorted_lt h (a, y) hy) (Nat.lt_irrefl a)
    · rcases List.mem_cons.mp hy with rfl | hy
      · exact absurd (msorted_lt h (a, x) hxt) (Nat.lt_irrefl a)
      · exact ih (msorted_tail h) hxt hy

/-- In a sorted table a session set in its own entry leaves the search for another number as it was. -/
theorem find_mset_else (l : SMap Session) (hl : msorted l = true) (h : l.find? (fun p => p.2.num == n) = some (i, x)) (hy : y.num = n) {m : Nat}
    (hm : m ≠ n) : (mset l i y).find? (fun p => p.2.num == m) = l.find? (fun p => p.2.num == m) := by
  have hskip (k : Nat) (t : SMap Session) (w : Session) (hw : w.num = n) :
      ((k, w) :: t).find? (fun p => p.2.num == m) = t.find? fun p => p.2.num == m :=
    List.find?_cons_of_neg (by simpa using fun e => hm (e.symm.trans hw))
  induction l with
  | nil => exact absurd h (by simp)
  | cons p t ih =>
    obtain ⟨a, z⟩ := p
    unfold mset
    by_cases hz : z.num = n
    · rw [List.find?_cons_of_pos (by simpa using hz)] at h
      cases h
      rw [if_pos rfl, hskip i t y hy, hskip i t x hz]
    · rw [List.find?_cons_of_neg (by simpa using hz)] at h
      have hlt : a < i := msorted_lt hl (i, x) (List.mem_of_find?_eq_some h)
      rw [if_neg (Nat.ne_of_lt hlt), if_neg (Nat.lt_asymm hlt)]
      by_cases hzm : z.num = m
      · rw [List.find?_cons_of_pos (by simpa using hzm), List.find?_cons_of_pos (by simpa using hzm)]
      · rw [List.find?_cons_of_neg (by simpa using hzm), List.find?_cons_of_neg (by simpa using hzm)]
        exact ih (msorted_tail hl) h

theorem session_seen_other (hs : msorted s.ex.sessions = true) (h : n ≠ sess) : (seen s sess).session n = s.session n := by
  cases hx : s.session sess with
  | none =>
    unfold seen
    rw [hx]
  | some p =>
    obtain ⟨i, x⟩ := p
    rw [seen_eq_setSession hx]
    exact find_mset_else (y := { x with lastFrame := s.tick }) _ hs hx (show x.num = sess from session_num hx) h

/-! ### SESSION_CLOSE -/

theorem effSessionClose_unknown {req addr : Nat} (h : s.session target = none) : effSessionClose sess req addr target s = (s, .nak .unknown) :=
  if_pos (by rw [h]; rfl)

theorem effSessionClose_self {req addr : Nat} (h : s.session sess = some (i, x)) :
    effSessionClose sess req addr sess s = (closeSession (answer s sess req addr 0 (.ack [])) sess 5, .ack) :=
  (if_neg (by rw [h]; exact Bool.false_ne_true)).trans (if_pos rfl)

theorem effSessionClose_other {req addr : Nat} (h : s.session target = some (i, x)) (hne : target ≠ sess) :
    effSessionClose sess req addr target s = (closeSession s target 5, .ack) :=
  (if_neg (by rw [h]; exact Bool.false_ne_true)).trans (if_neg hne)

theorem mfind_none_iff {α : Type} {l : SMap α} : mfind l j = none ↔ j ∉ l.map (·.1) := by
  induction l with
  | nil => exact iff_of_true rfl List.not_mem_nil
  | cons p t ih =>
    unfold mfind
    rw [List.map_cons, List.mem_cons, not_or, ← ih]
    by_cases hp : p.1 = j
    · rw [if_pos hp]
      exact iff_of_false (Option.some_ne_none _) fun h => h.1 hp.symm
    · rw [if_neg hp]
      exact (and_iff_right (Ne.symm hp)).symm

theorem vacant_of_table (h : sessionTable t = sessionTable s) (hs : mfind s.ex.sessions j = none) : mfind t.ex.sessions j = none := by
  have hkeys : t.ex.sessions.map (·.1) = s.ex.sessions.map (·.1) := by
    have hfst := congrArg (List.map (·.1)) h
    unfold sessionTable at hfst
    rwa [List.map_map, List.map_map] at hfst
  rw [mfind_none_iff, hkeys]
  exact mfind_none_iff.mp hs

/-- An answer keeps an entry empty. -/
theorem answer_vacant (h : mfind s.ex.sessions j = none) (req addr sel : Nat) (r : Reply) :
    mfind (answer s sess req addr sel r).ex.sessions j = none := by
  unfold answer answerFrom
  split
  · next i x hx =>
    have hne : i ≠ j := fun e => mfind_none_iff.mp h (List.mem_map.mpr ⟨(i, x), List.mem_of_find?_eq_some hx, e⟩)
    refine (mfind_mset_other _ _ hne.symm).trans ?_
    rw [sendAnswer_sessions]
    exact h
  · split
    · exact vacant_of_table (groupAnswer_table _ _) h
    · exact h

theorem groupAnswer_answered {req addr sel : Nat} {r : Reply} (h : s.answered sess req addr sel r) :
    (groupAnswer s { sess, req, addr, sel, seq := 0, unsolicited := false, reply := r }).answered sess req addr sel r := by
  unfold groupAnswer
  split
  · refine ⟨s.ex.groupCounter, ?_⟩
    unfold takeGroupSeq
    rw [(noteGroupSeq_quiet _).2]
    exact sendAnswer_newest _ _ _
  · split <;> exact h

/-- An answer that stands is still the newest after the same answer once more, sent or not. -/
theorem answer_again {req addr sel : Nat} {r : Reply} (h : s.answered sess req addr sel r) :
    (answer s sess req addr sel r).answered sess req addr sel r := by
  cases hx : s.session sess with
  | some p => exact answer_answered hx req addr sel r
  | none =>
    unfold answer answerFrom
    rw [hx]
    dsimp only
    split
    · exact groupAnswer_answered h
    · exact h

theorem closeSession_answered {req addr sel reason : Nat} {r : Reply} (h : s.answered sess req addr sel r) :
    (closeSession s n reason).answered sess req addr sel r := by
  unfold State.answered
  rw [closeSession_out]
  exact h

theorem sessionClose_unknown (h : s.accepts sess Obj.SESSION_CLOSE 0 target = true) (hs : msorted s.ex.sessions = true)
    (hn : s.session target = none) : ∃ t, exec (.sessionClose sess target) s = .next t ∧
      t.answered sess 0 Obj.SESSION_CLOSE 0 (.nak .unknown 0 0) ∧ Frame [.ex] s t := by
  have hrun : exec (.sessionClose sess target) s =
    finish s (hostWrite s sess Obj.SESSION_CLOSE 0 target (effSessionClose sess 0 Obj.SESSION_CLOSE target)) := rfl
  have hopen : ∃ p, s.session sess = some p := by
    obtain ⟨i, x, hx, -⟩ := State.ready_iff.mp (Bool.and_eq_true _ _ ▸ h : s.ready sess = true ∧ _).1
    exact ⟨_, hx⟩
  obtain ⟨p, hp⟩ := hopen
  have hne : target ≠ sess := fun e => by rw [e, hp] at hn; exact absurd hn (Option.some_ne_none p)
  obtain ⟨hans, hframe⟩ := hostWrite_refused h (effSessionClose_unknown ((session_seen_other hs hne).trans hn)) (by decide)
  generalize hostWrite s sess Obj.SESSION_CLOSE 0 target (effSessionClose sess 0 Obj.SESSION_CLOSE target) = w at hrun hans hframe
  exact ⟨_, hrun, hans, frame_sealed hframe (by decide)⟩

theorem sessionClose_self (h : s.accepts sess Obj.SESSION_CLOSE 0 sess = true) (hx : s.session sess = some (i, x)) :
    ∃ t, exec (.sessionClose sess sess) s = .next t ∧ t.answered sess 0 Obj.SESSION_CLOSE 0 (.ack []) ∧ mfind t.ex.sessions i = none := by
  have hrun : exec (.sessionClose sess sess) s =
    finish s (hostWrite s sess Obj.SESSION_CLOSE 0 sess (effSessionClose sess 0 Obj.SESSION_CLOSE sess)) := rfl
  have hseen := session_seen_same hx
  rw [hostWrite_accepts h, effSessionClose_self hseen] at hrun
  have hans := answer_answered hseen 0 Obj.SESSION_CLOSE 0 (.ack [])
  obtain ⟨-, q, c, o, hsession, -⟩ := answer_session hseen 0 Obj.SESSION_CLOSE 0 (.ack [])
  generalize answer (seen s sess) sess 0 Obj.SESSION_CLOSE 0 (.ack []) = v at hrun hans hsession
  obtain ⟨hgone, -⟩ := closeSession_closes hsession 5
  have hclosed := closeSession_answered (n := sess) (reason := 5) hans
  generalize closeSession v sess 5 = w at hrun hgone hclosed
  have hagain := answer_again hclosed
  have hvacant := answer_vacant (sess := sess) hgone 0 Obj.SESSION_CLOSE 0 (.ack [])
  have hrun : exec (.sessionClose sess sess) s = finish s (answer w sess 0 Obj.SESSION_CLOSE 0 (.ack [])) := hrun
  generalize answer w sess 0 Obj.SESSION_CLOSE 0 (.ack []) = z at hrun hagain hvacant
  exact ⟨_, hrun, hagain, hvacant⟩

theorem sessionClose_other (h : s.accepts sess Obj.SESSION_CLOSE 0 target = true) (hs : msorted s.ex.sessions = true)
    (hx : s.session sess = some (i, x)) (hy : s.session target = some (j, y)) (hne : target ≠ sess) :
    ∃ t, exec (.sessionClose sess target) s = .next t ∧ t.answered sess 0 Obj.SESSION_CLOSE 0 (.ack []) ∧ mfind t.ex.sessions j = none := by
  have hrun : exec (.sessionClose sess target) s =
    finish s (hostWrite s sess Obj.SESSION_CLOSE 0 target (effSessionClose sess 0 Obj.SESSION_CLOSE target)) := rfl
  have hseen := session_seen_same hx
  have htarget := (session_seen_other hs hne).trans hy
  have hji : j ≠ i := by
    rintro rfl
    have heq := msorted_unique hs (List.mem_of_find?_eq_some hx) (List.mem_of_find?_eq_some hy)
    exact hne (by rw [← session_num hx, ← session_num hy, heq])
  rw [hostWrite_accepts h, effSessionClose_other htarget hne] at hrun
  have hopen := closeSession_other htarget 5 hseen hji
  obtain ⟨hgone, -⟩ := closeSession_closes htarget 5
  generalize closeSession (seen s sess) target 5 = w at hrun hopen hgone
  obtain ⟨hans, -⟩ := answer_open hopen 0 Obj.SESSION_CLOSE 0 (.ack [])
  have hvacant := answer_vacant (sess := sess) hgone 0 Obj.SESSION_CLOSE 0 (.ack [])
  have hrun : exec (.sessionClose sess target) s = finish s (answer w sess 0 Obj.SESSION_CLOSE 0 (.ack [])) := hrun
  generalize answer w sess 0 Obj.SESSION_CLOSE 0 (.ack []) = z at hrun hans hvacant
  exact ⟨_, hrun, hans, hvacant⟩

theorem sessionClose_runs (h : s.accepts sess Obj.SESSION_CLOSE 0 target = true) (hs : msorted s.ex.sessions = true) :
    ∃ t, exec (.sessionClose sess target) s = .next t ∧
      match s.session target with
      | none => t.answered sess 0 Obj.SESSION_CLOSE 0 (.nak .unknown 0 0) ∧ Frame [.ex] s t
      | some (j, _) => t.answered sess 0 Obj.SESSION_CLOSE 0 (.ack []) ∧ mfind t.ex.sessions j = none := by
  cases hy : s.session target with
  | none => exact sessionClose_unknown h hs hy
  | some p =>
    obtain ⟨j, y⟩ := p
    by_cases hne : target = sess
    · subst hne
      exact sessionClose_self h hy
    · obtain ⟨i, x, hx, -⟩ := State.ready_iff.mp (Bool.and_eq_true _ _ ▸ h : s.ready sess = true ∧ _).1
      exact sessionClose_other h hs hx hy hne

end

end Sys2Proof.Proofs

/-!
SUPPORT. The rotation of keys (R463), the end of KEY_OVERLAP (R460) and the reservation of group SEQs (R462).
-/

namespace Sys2Proof.Proofs

open Sys2Proof Sys2Proof.Machine Sys2Proof.Laws

section

variable {s t u : State} {sess k : Nat} {key : List Byte}

/-! ### What a store leaves of the sessions' side -/

theorem calStored_told (s : State) : Told s (calStored s) := by
  unfold calStored
  refine .raiseA ?_
  exact .of_ex rfl

theorem startStore_told (s : State) (k : StoreKind) : Told s (startStore s k) := by
  unfold startStore
  extract_lets l c u
  have hu : Told s u := by
    simp only [u]
    split <;> exact .of_ex rfl
  clear_value u
  split
  · split
    · exact hu.trans (calStored_told u)
    · exact hu
  · exact hu.trans (.of_ex rfl)

theorem pumpStores_told (s : State) : Told s (pumpStores s) := by
  unfold pumpStores
  split
  · split
    · refine .trans ?_ (startStore_told _ _)
      exact .of_ex rfl
    · exact .refl s
  · exact .refl s

theorem notePostponed_told (s : State) : Told s (notePostponed s) := by
  unfold notePostponed
  split
  · exact .refl s
  · refine .raiseA ?_
    exact .of_ex rfl

theorem autoStore_told (s : State) (k : StoreKind) : Told s (autoStore s k) := by
  unfold autoStore
  split
  · exact .refl s
  · refine .trans ?_ (notePostponed_told _)
    refine .trans ?_ (pumpStores_told _)
    exact .of_ex rfl

theorem alwaysPrograms_keys (k : Nat) : alwaysPrograms (.keys k) := ⟨by simp, fun _ => List.cons_ne_nil _ _⟩

/-! ### What a key rotation leaves -/

/-- The state with the new key in force and the old one accepted, before the group counter restarts. -/
def keyRotated (s : State) (k : Nat) (key : List Byte) : State :=
  let v : State := { s with ex := { s.ex with prevKeys := mset s.ex.prevKeys (4 * s.objN Obj.KEY_GEN k + k) (s.customerKey k, s.tick)
                                              keys := mset s.ex.keys k key } }
  let w := (v.unstage Obj.KEY_NEW k).setObjN Obj.KEY_GEN k (nextGen (s.objN Obj.KEY_GEN k))
  raiseA w 0x9004 [.word k, .word (w.obj Obj.KEY_GEN k)]

theorem rotateKey_eq (s : State) (k : Nat) (key : List Byte) :
    rotateKey s k key = if k = 3 then restartGroup (keyRotated s k key) else keyRotated s k key := rfl

/-- What a rotation has put in force. -/
structure Rotated (s : State) (k : Nat) (key : List Byte) (t : State) : Prop where
  gen : t.objN Obj.KEY_GEN k = nextGen (s.objN Obj.KEY_GEN k)
  key : mfind t.ex.keys k = some key
  prev : mfind t.ex.prevKeys (4 * s.objN Obj.KEY_GEN k + k) = some (s.customerKey k, s.tick)
  unstaged : mfind2 t.stagedOcts Obj.KEY_NEW k = none

theorem keyRotated_rotated (s : State) (k : Nat) (key : List Byte) : Rotated s k key (keyRotated s k key) := by
  unfold keyRotated
  extract_lets ex v w
  obtain ⟨l, q, d, f, -, hex⟩ := raiseA_told w 0x9004 [.word k, .word (w.obj Obj.KEY_GEN k)]
  exact {
    gen := (congrArg Int.toNat (raiseA_obj (by decide) _ _ _)).trans (objN_setObjN_self _ _ _ _)
    key := by rw [hex]; exact mfind_mset_self _ _ _
    prev := by rw [hex]; exact mfind_mset_self _ _ _
    unstaged := by rw [(raiseA_frame _ _ _).stagedOcts rfl]; exact mfind2_mdel2_self _ _ _ }

theorem Rotated.autoStore (h : Rotated s k key t) (j : StoreKind) : Rotated s k key (autoStore t j) := by
  obtain ⟨l, q, d, f, -, hex⟩ := autoStore_told t j
  exact {
    gen := (congrArg Int.toNat (autoStore_objs t j Obj.KEY_GEN k (by decide))).trans h.gen
    key := by rw [hex]; exact h.key
    prev := by rw [hex]; exact h.prev
    unstaged := by rw [(autoStore_frame t j).stagedOcts rfl]; exact h.unstaged }

theorem restartGroup_rotated (h : Rotated s k key t) : Rotated s k key (restartGroup t) := by
  unfold restartGroup
  refine Rotated.autoStore (t := { t with ex := _ }) ?_ _
  exact ⟨h.gen, h.key, h.prev, h.unstaged⟩

theorem restartGroup_counts (s : State) : (restartGroup s).ex.groupCounter = 1 ∧ (restartGroup s).ex.groupReserved = true := by
  unfold restartGroup
  generalize hv : ({ s with ex := _ } : State) = v
  have hstart : v.ex.groupCounter = 1 ∧ v.ex.groupReserved = true := by
    rw [← hv]
    exact ⟨rfl, rfl⟩
  obtain ⟨l, q, d, f, -, hex⟩ := autoStore_told v .life
  rw [hex]
  exact hstart

theorem rotateKey_rotated (s : State) (k : Nat) (key : List Byte) : Rotated s k key (rotateKey s k key) := by
  rw [rotateKey_eq]
  split
  · exact restartGroup_rotated (keyRotated_rotated s k key)
  · exact keyRotated_rotated s k key

theorem rotateKey_counts (s : State) (key : List Byte) : (rotateKey s 3 key).ex.groupCounter = 1 ∧ (rotateKey s 3 key).ex.groupReserved = true := by
  rw [rotateKey_eq, if_pos rfl]
  exact restartGroup_counts _

/-- The state in which KEY_APPLY has taken a key, its store to come. -/
def keyTaken (s : State) (k : Nat) (key : List Byte) : State := autoStore (rotateKey s k key) (.keys k)

theorem keyTaken_rotated (s : State) (k : Nat) (key : List Byte) : Rotated s k key (keyTaken s k key) := (rotateKey_rotated s k key).autoStore _

theorem keyTaken_counts (s : State) (k : Nat) (key : List Byte) (hk : k = 3) :
    (keyTaken s k key).ex.groupCounter = 1 ∧ (keyTaken s k key).ex.groupReserved = true := by
  subst hk
  obtain ⟨l, q, d, f, -, hex⟩ := autoStore_told (rotateKey s 3 key) (.keys 3)
  unfold keyTaken
  rw [hex]
  exact rotateKey_counts s key

/-! ### KEY_APPLY -/

theorem effKeyApply_unstaged (h : mfind2 s.stagedOcts Obj.KEY_NEW k = none) : effKeyApply k s = (s, .nak .state) := by
  unfold effKeyApply
  rw [h]

theorem effKeyApply_staged (h : mfind2 s.stagedOcts Obj.KEY_NEW k = some key) : effKeyApply k s =
    if s.flashOk = false then (s, .nak .state) else if key.all (· == 0) = true then (s, .nak .range) else (keyTaken s k key, .owe (.keyApply k)) := by
  unfold effKeyApply
  rw [h]
  cases s.flashOk <;> rfl

theorem flashOk_seen (s : State) (sess : Nat) : (seen s sess).flashOk = s.flashOk := by
  unfold State.flashOk
  rw [(seen_frame s sess).therm rfl]

theorem customerKey_seen (s : State) (sess k : Nat) : (seen s sess).customerKey k = s.customerKey k := by
  unfold seen
  split <;> rfl

theorem Rotated.of_seen (h : Rotated (seen s sess) k key t) : Rotated s k key t := by
  have hgen : (seen s sess).objN Obj.KEY_GEN k = s.objN Obj.KEY_GEN k := objN_of_objs ((seen_frame s sess).objs rfl) _ _
  have hprev := h.prev
  rw [hgen, customerKey_seen, (seen_frame s sess).tick rfl] at hprev
  exact ⟨h.gen.trans (congrArg nextGen hgen), h.key, hprev, h.unstaged⟩

theorem keyApply_runs (h : s.accepts sess Obj.KEY_APPLY 0 k = true) :
    ∃ t, exec (.keyApply sess k) s = .next t ∧
      match mfind2 s.stagedOcts Obj.KEY_NEW k with
      | none => t.answered sess 0 Obj.KEY_APPLY 0 (.nak .state 0 0) ∧ Frame [.ex] s t
      | some key =>
        if s.flashOk = false then t.answered sess 0 Obj.KEY_APPLY 0 (.nak .state 0 0) ∧ Frame [.ex] s t
        else if key.all (· == 0) = true then t.answered sess 0 Obj.KEY_APPLY 0 (.nak .range 0 0) ∧ Frame [.ex] s t
        else
          t.objN Obj.KEY_GEN k = nextGen (s.objN Obj.KEY_GEN k) ∧ mfind t.ex.keys k = some key ∧
            mfind t.ex.prevKeys (4 * s.objN Obj.KEY_GEN k + k) = some (s.customerKey k, s.tick) ∧
            mfind2 t.stagedOcts Obj.KEY_NEW k = none ∧ t.storing (.keys k) ∧ (∃ o ∈ t.ex.owed, o.kind = .keyApply k ∧ o.sess = sess) ∧
            (k = 3 → t.ex.groupCounter = 1 ∧ t.ex.groupReserved = true) := by
  have hrun : exec (.keyApply sess k) s = finish s (hostWrite s sess Obj.KEY_APPLY 0 k (effKeyApply k)) := rfl
  have hstaged := (seen_frame s sess).stagedOcts rfl
  have hflash := flashOk_seen s sess
  have hrefuse (n : Nak) (he : effKeyApply k (seen s sess) = (seen s sess, .nak n)) : ∃ t, exec (.keyApply sess k) s = .next t ∧
      t.answered sess 0 Obj.KEY_APPLY 0 (.nak n 0 0) ∧ Frame [.ex] s t := by
    obtain ⟨hans, hframe⟩ := hostWrite_refused h he (by decide)
    generalize hostWrite s sess Obj.KEY_APPLY 0 k (effKeyApply k) = w at hrun hans hframe
    exact ⟨_, hrun, hans, frame_sealed hframe (by decide)⟩
  cases hkey : mfind2 s.stagedOcts Obj.KEY_NEW k with
  | none => exact hrefuse _ (effKeyApply_unstaged (by rw [hstaged]; exact hkey))
  | some key =>
    have heff := effKeyApply_staged (s := seen s sess) (k := k) (key := key) (by rw [hstaged]; exact hkey)
    rw [hflash] at heff
    dsimp only
    by_cases hf : s.flashOk = false
    · rw [if_pos hf] at heff
      obtain ⟨t, hrun, href⟩ := hrefuse _ heff
      refine ⟨t, hrun, ?_⟩
      rw [if_pos hf]
      exact href
    · rw [if_neg hf] at heff
      by_cases hz : key.all (· == 0) = true
      · rw [if_pos hz] at heff
        obtain ⟨t, hrun, href⟩ := hrefuse _ heff
        refine ⟨t, hrun, ?_⟩
        rw [if_neg hf, if_pos hz]
        exact href
      · rw [if_neg hz] at heff
        rw [hostWrite_owe h heff] at hrun
        obtain ⟨hgen, hforce, hprev, hunstaged⟩ := (keyTaken_rotated (seen s sess) k key).of_seen
        have hcounts := keyTaken_counts (seen s sess) k key
        have hstoring : (keyTaken (seen s sess) k key).storing (.keys k) := autoStore_storing _ (alwaysPrograms_keys k)
        generalize keyTaken (seen s sess) k key = w at hrun hgen hforce hprev hunstaged hcounts hstoring
        refine ⟨_, hrun, ?_⟩
        rw [if_neg hf, if_neg hz]
        exact ⟨hgen, hforce, hprev, hunstaged, hstoring, ⟨_, List.mem_append_right _ (List.mem_singleton_self _), rfl, rfl⟩, hcounts⟩

/-! ### The end of KEY_OVERLAP -/

/-- The generations of a key that have lapsed. -/
def lapsedKeys (s : State) (k : Nat) : List Nat := (s.ex.prevKeys.filter fun e => e.1 % 4 == k && s.overlapEnded e.2.2).map (·.1)

theorem mem_lapsedKeys {g : Nat} : g ∈ lapsedKeys s k ↔ ∃ e ∈ s.ex.prevKeys, e.1 % 4 = k ∧ s.overlapEnded e.2.2 = true ∧ e.1 = g := by
  unfold lapsedKeys
  simp only [List.mem_map, List.mem_filter, Bool.and_eq_true, beq_iff_eq]
  exact ⟨fun ⟨e, ⟨he, hk, ho⟩, hg⟩ => ⟨e, he, hk, ho, hg⟩, fun ⟨e, he, hk, ho, hg⟩ => ⟨e, ⟨he, hk, ho⟩, hg⟩⟩

/-- The sessions that the lapse of a key's generations closes. -/
def lapsedSessions (s : State) (k : Nat) : SMap Session := s.ex.sessions.filter fun e => e.2.level == k && (lapsedKeys s k).contains (4 * e.2.keyGen + k)

theorem endOverlap_eq (s : State) (k : Nat) : endOverlap s k = (lapsedSessions s k).foldl (fun s e => closeSession s e.2.num 3)
    { s with ex := { s.ex with prevKeys := s.ex.prevKeys.filter fun e => !(lapsedKeys s k).contains e.1 } } := rfl

theorem endOverlap_prevKeys (s : State) (k : Nat) :
    (endOverlap s k).ex.prevKeys = s.ex.prevKeys.filter fun e => !(lapsedKeys s k).contains e.1 := by
  rw [endOverlap_eq]
  exact foldl_keeps (g := fun s => s.ex.prevKeys) (fun _ _ => closeSession_prevKeys _ _ _) _ _

theorem endOverlap_none (h : lapsedKeys s k = []) : endOverlap s k = s := by
  have hnone : lapsedSessions s k = [] := by
    unfold lapsedSessions
    rw [h]
    exact List.filter_eq_nil_iff.mpr fun e _ => by simp
  have hall : (s.ex.prevKeys.filter fun e => !(lapsedKeys s k).contains e.1) = s.ex.prevKeys := by
    rw [h]
    exact List.filter_eq_self.mpr fun e _ => rfl
  rw [endOverlap_eq, hnone, hall]
  rfl

theorem keyOverlapEnd_runs : ∃ t, exec (.keyOverlapEnd k) s = .next t ∧
    (∀ e ∈ t.ex.prevKeys, e ∈ s.ex.prevKeys ∧ ¬ (e.1 % 4 = k ∧ s.overlapEnded e.2.2 = true)) ∧
    (∀ e ∈ s.ex.prevKeys, e.1 % 4 ≠ k → e ∈ t.ex.prevKeys) ∧
    ((∀ e ∈ s.ex.prevKeys, e.1 % 4 = k → s.overlapEnded e.2.2 = false) → Frame [.ex] s t ∧ t.ex.sessions = s.ex.sessions) := by
  have hrun : exec (.keyOverlapEnd k) s = finish s (endOverlap s k) := rfl
  have hprev := endOverlap_prevKeys s k
  have hnone : (∀ e ∈ s.ex.prevKeys, e.1 % 4 = k → s.overlapEnded e.2.2 = false) → endOverlap s k = s := fun h =>
    endOverlap_none (List.eq_nil_iff_forall_not_mem.mpr fun g hg => by
      obtain ⟨e, he, hk, ho, -⟩ := mem_lapsedKeys.mp hg
      exact absurd ((h e he hk).symm.trans ho) Bool.false_ne_true)
  generalize endOverlap s k = w at hrun hprev hnone
  refine ⟨_, hrun, fun e he => ?_, fun e he hk => ?_, fun h => ?_⟩
  · obtain ⟨hmem, hkept⟩ := List.mem_filter.mp ((congrArg (e ∈ ·) hprev).mp he)
    refine ⟨hmem, fun hlapsed => ?_⟩
    have hin : (lapsedKeys s k).contains e.1 = true := List.contains_iff_mem.mpr (mem_lapsedKeys.mpr ⟨e, hmem, hlapsed.1, hlapsed.2, rfl⟩)
    rw [hin] at hkept
    exact Bool.false_ne_true hkept
  · refine (congrArg (e ∈ ·) hprev).mpr (List.mem_filter.mpr ⟨he, ?_⟩)
    rw [Bool.not_eq_true']
    refine Bool.eq_false_iff.mpr fun hin => ?_
    obtain ⟨f, -, hf, -, hg⟩ := mem_lapsedKeys.mp (List.contains_iff_mem.mp hin)
    exact hk (hg ▸ hf)
  · rw [hnone h]
    exact ⟨frame_sealed (.refl s) (by decide), rfl⟩

/-! ### The group counter's reservation -/

theorem groupSeqReservation_runs (ha : s.active.isSome = true) (hl : s.ex.groupLimit < u32Max) :
    ∃ t, exec .groupSeqReservation s = .next t ∧
      if s.ex.groupReserved = false ∧ s.ex.groupLimit ≤ s.ex.groupCounter + 4194304 then
        t.ex.groupReserved = true ∧ t.storing .life
      else Frame [.ex] s t ∧ t.ex.groupReserved = s.ex.groupReserved := by
  have hrun : exec .groupSeqReservation s = finish s
      (if s.active.isSome = true ∧ ¬ s.ex.groupReserved = true ∧ s.ex.groupLimit < u32Max ∧ s.ex.groupLimit ≤ s.ex.groupCounter + 4194304 then
        autoStore { s with ex := { s.ex with groupReserved := true } } .life else s) := rfl
  by_cases hd : s.ex.groupReserved = false ∧ s.ex.groupLimit ≤ s.ex.groupCounter + 4194304
  · rw [if_pos ⟨ha, by rw [hd.1]; exact Bool.false_ne_true, hl, hd.2⟩] at hrun
    have hstoring := autoStore_storing { s with ex := { s.ex with groupReserved := true } } alwaysPrograms_life
    obtain ⟨l, q, d, f, -, hex⟩ := autoStore_told { s with ex := { s.ex with groupReserved := true } } .life
    have hreserved := congrArg Exvan.groupReserved hex
    generalize autoStore { s with ex := { s.ex with groupReserved := true } } .life = w at hrun hstoring hreserved
    refine ⟨_, hrun, ?_⟩
    rw [if_pos hd]
    exact ⟨hreserved, hstoring⟩
  · rw [if_neg fun h => hd ⟨Bool.eq_false_iff.mpr h.2.1, h.2.2.2⟩] at hrun
    refine ⟨_, hrun, ?_⟩
    rw [if_neg hd]
    exact ⟨frame_sealed (.refl s) (by decide), rfl⟩

end

/-- Settles O58: the opening of a session, its requests and closures, and the keys, each by its own lemma. -/
theorem sessions : Obligations.Sessions := by
  unfold Obligations.Sessions
  refine ⟨?_, ?_, ?_, ?_, ?_, ?_, ?_, ?_, ?_, ?_, ?_, ?_⟩
  · exact fun level source udpPort req uart nonce ip s h => openSession_refused h
  · exact fun level source udpPort req uart nonce ip s hl hs hr ha => openSession_serves hl hs hr ha
  · exact fun level source udpPort req uart nonce ip s hl hs hr ha => openSession_waits hl hs hr ha
  · exact fun sess req body s hr hq => echo_runs hr hq
  · exact fun sess req filter code mask enable s hr hq => subscribe_runs hr hq
  · exact fun sess i x s ha hx hq hseq => eventFrameSend_sends ha hx hq hseq
  · exact fun sess req i x s hr hq hx => closeSession_runs hr hq hx
  · exact fun sess i x s hx => sessionTimeout_runs hx
  · exact fun sess target s h hs => sessionClose_runs h hs
  · exact fun sess k s h => keyApply_runs h
  · exact fun k s _ => keyOverlapEnd_runs
  · exact fun s ha hl => groupSeqReservation_runs ha hl

end Sys2Proof.Proofs

/-!
SUPPORT. Writes of numeric objects whose chapters give them no effect of their own (R472), and of SLOW_RATE and QSAMPLE_PERIOD.
-/

namespace Sys2Proof.Proofs

open Sys2Proof Sys2Proof.Machine Sys2Proof.Laws

/-- Objects whose value a write puts in force at once. -/
def plainObjs : List Nat :=
  [Obj.SERVO_KP, Obj.SERVO_KI, Obj.SESSION_TIMEOUT, Obj.KEY_OVERLAP, Obj.TRIG_OUT_WIDTH, Obj.LINK_UP_HOLD, Obj.SWAP_INTERVAL]

/-- Class S objects, whose value a write stages. -/
def stagedObjs : List Nat := [Obj.PULSE_START, Obj.GATE_BASE, Obj.LAUNCH_TIME, Obj.CAP_PRE, Obj.IPV4_ADDR, Obj.GEN_PERIOD]

/-- Loop parameters, whose value in force a write keeps. -/
def lawObjs : List Nat := [Obj.STEP, Obj.BAND_IN, Obj.VBAND_IN, Obj.DARK_LEVEL]

section

variable {s t u : State} {sess req addr sel i : Nat} {v : Int} {d : ObjDef}

/-! ### The effect of a write -/

theorem effOwn_none (h : addr ∈ plainObjs ++ stagedObjs ++ lawObjs) : effOwn sess req addr sel v s = none := by
  simp only [plainObjs, stagedObjs, lawObjs, List.cons_append, List.nil_append, List.mem_cons, List.not_mem_nil, or_false] at h
  rcases h with rfl | rfl | rfl | rfl | rfl | rfl | rfl | rfl | rfl | rfl | rfl | rfl | rfl | rfl | rfl | rfl | rfl <;> rfl

/-- The rows of the plain objects: numeric, neither staged nor a loop parameter. -/
theorem plainObjs_rows : ∀ a ∈ plainObjs, ∃ d, objDef a = some d ∧ d.change ≠ .staged ∧ d.type ≠ .octets ∧ isLaw a = false := by
  have hrows : ∀ a ∈ plainObjs, ((objDef a).any fun d => d.change != .staged && d.type != .octets && !isLaw a) = true := by decide
  intro a ha
  obtain ⟨d, hd, hrow⟩ := (Option.any_eq_true _ _).mp (hrows a ha)
  simp only [Bool.and_eq_true, bne_iff_ne, Bool.not_eq_true'] at hrow
  obtain ⟨⟨hc, ht⟩, hl⟩ := hrow
  exact ⟨d, hd, hc, ht, hl⟩

theorem stagedObjs_rows : ∀ a ∈ stagedObjs, ∃ d, objDef a = some d ∧ d.change = .staged := by
  have hrows : ∀ a ∈ stagedObjs, ((objDef a).any fun d => d.change == .staged) = true := by decide
  intro a ha
  obtain ⟨d, hd, hrow⟩ := (Option.any_eq_true _ _).mp (hrows a ha)
  exact ⟨d, hd, beq_iff_eq.mp hrow⟩

theorem lawObjs_rows : ∀ a ∈ lawObjs, ∃ d, objDef a = some d ∧ d.change ≠ .staged ∧ isLaw a = true := by
  have hrows : ∀ a ∈ lawObjs, ((objDef a).any fun d => d.change != .staged && isLaw a) = true := by decide
  intro a ha
  obtain ⟨d, hd, hrow⟩ := (Option.any_eq_true _ _).mp (hrows a ha)
  simp only [Bool.and_eq_true, bne_iff_ne] at hrow
  exact ⟨d, hd, hrow⟩

theorem effNumber_row (hown : effOwn sess req addr sel v s = none) (hd : objDef addr = some d) : effNumber sess req addr sel v s =
    if d.change = .staged then (s.stage addr sel v, .ack) else if isLaw addr = true then (s.setLaw addr sel v, .ack) else (s.setObj addr sel v, .ack) := by
  unfold effNumber
  rw [hown, hd]

theorem effNumber_plain (h : addr ∈ plainObjs) : effNumber sess req addr sel v s = (s.setObj addr sel v, .ack) := by
  obtain ⟨d, hd, hc, -, hl⟩ := plainObjs_rows addr h
  rw [effNumber_row (effOwn_none (List.mem_append_left _ (List.mem_append_left _ h))) hd, if_neg hc, hl, if_neg Bool.false_ne_true]

theorem effNumber_staged (h : addr ∈ stagedObjs) : effNumber sess req addr sel v s = (s.stage addr sel v, .ack) := by
  obtain ⟨d, hd, hc⟩ := stagedObjs_rows addr h
  rw [effNumber_row (effOwn_none (List.mem_append_left _ (List.mem_append_right _ h))) hd, if_pos hc]

theorem effNumber_law (h : addr ∈ lawObjs) : effNumber sess req addr sel v s = (s.setLaw addr sel v, .ack) := by
  obtain ⟨d, hd, hc, hl⟩ := lawObjs_rows addr h
  rw [effNumber_row (effOwn_none (List.mem_append_right _ h)) hd, if_neg hc, if_pos hl]

/-! ### One write by itself -/

/-- A write that is acknowledged and leaves the sessions' side alone: what it leaves, and its answer. -/
theorem objectWrite_acks (h : s.accepts sess addr sel v = true) (ho : (s.ex.owed.any fun o => o.kind == .park || o.kind == .resume) = false)
    (he : effNumber sess 0 addr sel v (seen s sess) = (u, .ack)) (hex : u.ex = (seen s sess).ex) :
    ∃ t, exec (.objectWrite sess addr sel v) s = .next t ∧ t.answered sess 0 addr sel (.ack []) ∧ Frame [.ex] u t := by
  have hrun := objectWrite_runs h ho he (.inl rfl) hex
  obtain ⟨hans, hframe⟩ := hostWrite_ack h he (opens_of_ex hex)
  generalize hostWrite s sess addr sel v (effNumber sess 0 addr sel v) = w at hrun hans hframe
  exact ⟨_, hrun, hans, frame_sealed hframe (by decide)⟩

theorem objectWrite_plain (h : s.accepts sess addr sel v = true) (ho : (s.ex.owed.any fun o => o.kind == .park || o.kind == .resume) = false)
    (ha : addr ∈ plainObjs) : ∃ t, exec (.objectWrite sess addr sel v) s = .next t ∧
      t.answered sess 0 addr sel (.ack []) ∧ t.obj addr sel = v ∧ Frame [.ex, .objs] s t := by
  obtain ⟨t, hrun, hans, hframe⟩ := objectWrite_acks h ho (effNumber_plain ha) rfl
  have hset : Frame [.ex, .objs] s ((seen s sess).setObj addr sel v) := .step (State.setObj_frame _ _ _ _) (by decide) ((seen_frame s sess).mono (by decide))
  exact ⟨t, hrun, hans, (obj_of_objs (hframe.objs rfl) _ _).trans (obj_setObj ..), .step hframe (by decide) hset⟩

theorem objectWrite_staged (h : s.accepts sess addr sel v = true) (ho : (s.ex.owed.any fun o => o.kind == .park || o.kind == .resume) = false)
    (ha : addr ∈ stagedObjs) : ∃ t, exec (.objectWrite sess addr sel v) s = .next t ∧
      t.answered sess 0 addr sel (.ack []) ∧ t.stagedVal addr sel = some v ∧ Frame [.ex, .staged] s t := by
  obtain ⟨t, hrun, hans, hframe⟩ := objectWrite_acks h ho (effNumber_staged ha) rfl
  have hset : Frame [.ex, .staged] s ((seen s sess).stage addr sel v) := .set_staged (by decide) ((seen_frame s sess).mono (by decide))
  refine ⟨t, hrun, hans, ?_, .step hframe (by decide) hset⟩
  unfold State.stagedVal
  rw [hframe.staged rfl]
  exact mfind2_mset2_self _ _ _ _

theorem setLaw_frame (s : State) (addr sel : Nat) (v : Int) : Frame [.objs, .loops] s (s.setLaw addr sel v) :=
  .step (State.setObj_frame _ _ _ _) (by decide) (.set_loops (by decide) (.refl s))

theorem setLaw_ex (s : State) (addr sel : Nat) (v : Int) : (s.setLaw addr sel v).ex = s.ex := rfl

theorem objectWrite_law (h : s.accepts sess addr sel v = true) (ho : (s.ex.owed.any fun o => o.kind == .park || o.kind == .resume) = false)
    (ha : addr ∈ lawObjs) : ∃ t, exec (.objectWrite sess addr sel v) s = .next t ∧
      t.answered sess 0 addr sel (.ack []) ∧ t.obj addr sel = v ∧ Frame [.ex, .objs, .loops] s t := by
  obtain ⟨t, hrun, hans, hframe⟩ := objectWrite_acks h ho (effNumber_law ha) (setLaw_ex _ _ _ _)
  have hset : Frame [.ex, .objs, .loops] s ((seen s sess).setLaw addr sel v) :=
    .step (setLaw_frame _ _ _ _) (by decide) ((seen_frame s sess).mono (by decide))
  exact ⟨t, hrun, hans, (obj_of_objs (hframe.objs rfl) _ _).trans (obj_setObj ..), .step hframe (by decide) hset⟩

/-! ### SLOW_RATE -/

theorem effSlowPolicer_rate (s : State) (r : Nat) (v : Int) : effSlowPolicer Obj.SLOW_RATE r v s = ((tokensLeft s r (s.slowBucket r)).setObj Obj.SLOW_RATE r v, .ack) := rfl

/-- A new rate leaves the bucket as full as the old one did. -/
theorem slowBucket_setRate (s : State) (r : Nat) (v : Int) :
    ((tokensLeft s r (s.slowBucket r)).setObj Obj.SLOW_RATE r v).slowBucket r = s.slowBucket r := by
  have hle := slowBucket_le s r
  generalize s.slowBucket r = n at hle
  have hfind : mfind ((tokensLeft s r n).setObj Obj.SLOW_RATE r v).net.slowBuckets r = some { tokens := n, last := s.tick } := mfind_mset_self _ _ _
  have hburst : ((tokensLeft s r n).setObj Obj.SLOW_RATE r v).obj Obj.SLOW_BURST r = s.obj Obj.SLOW_BURST r := obj_setObj_addr v (by decide)
  have htick : ((tokensLeft s r n).setObj Obj.SLOW_RATE r v).tick = s.tick := rfl
  unfold State.slowBucket
  rw [hfind, hburst, htick]
  simp only [Nat.sub_self, Nat.cast_zero, mul_zero, add_zero]
  exact min_eq_right hle

theorem slowBucket_seen (s : State) (sess r : Nat) : (seen s sess).slowBucket r = s.slowBucket r := by
  rw [seen_eq]
  generalize (seen s sess).ex = e
  rfl

theorem objectWrite_slowRate (h : s.accepts sess Obj.SLOW_RATE sel v = true)
    (ho : (s.ex.owed.any fun o => o.kind == .park || o.kind == .resume) = false) :
    ∃ t, exec (.objectWrite sess Obj.SLOW_RATE sel v) s = .next t ∧
      t.obj Obj.SLOW_RATE sel = v ∧ t.slowBucket sel = s.slowBucket sel ∧ Frame [.ex, .objs, .net] s t := by
  obtain ⟨t, hrun, -, hframe⟩ := objectWrite_acks h ho (show effNumber sess 0 Obj.SLOW_RATE sel v (seen s sess) = _ from effSlowPolicer_rate (seen s sess) sel v) rfl
  have hset : Frame [.ex, .objs, .net] s ((tokensLeft (seen s sess) sel ((seen s sess).slowBucket sel)).setObj Obj.SLOW_RATE sel v) :=
    .step (State.setObj_frame _ _ _ _) (by decide) (.set_net (by decide) ((seen_frame s sess).mono (by decide)))
  have hbucket := slowBucket_setRate (seen s sess) sel v
  have hvalue := obj_setObj (tokensLeft (seen s sess) sel ((seen s sess).slowBucket sel)) Obj.SLOW_RATE sel v
  generalize (tokensLeft (seen s sess) sel ((seen s sess).slowBucket sel)).setObj Obj.SLOW_RATE sel v = w at hframe hset hbucket hvalue
  have hobj := obj_of_objs (hframe.objs rfl)
  refine ⟨t, hrun, (hobj _ _).trans hvalue, ?_, .step hframe (by decide) hset⟩
  rw [slowBucket_of (hobj _ _) (hobj _ _) (hframe.tick rfl) (congrArg Network.slowBuckets (hframe.net rfl)), hbucket, slowBucket_seen]

/-! ### QSAMPLE_PERIOD -/

theorem takePeriod_idle (h : s.net.sampleDue = none) : takePeriod s = s := by
  unfold takePeriod
  rw [h]

theorem accepts_sel (h : s.accepts sess addr sel v = true) (hd : objDef addr = some d) : selOk d sel = true := by
  obtain ⟨i, x, hx, -⟩ := State.ready_iff.mp (Bool.and_eq_true _ _ ▸ h : s.ready sess = true ∧ _).1
  obtain ⟨-, hcheck⟩ : s.ready sess = true ∧ _ := Bool.and_eq_true _ _ ▸ h
  rw [hx] at hcheck
  have hcheck : (writeCheck s x.level addr sel v).isNone = true := hcheck
  by_contra hsel
  have herr : accessCheck x.level addr sel = .error .range := by
    unfold accessCheck
    rw [hd]
    exact if_pos (by rw [Bool.eq_false_iff.mpr hsel]; rfl)
  unfold writeCheck at hcheck
  rw [herr] at hcheck
  exact Bool.false_ne_true hcheck

theorem effQsamplePeriod_idle (h : s.net.sampleDue = none) : effQsamplePeriod v s =
    (({ s with net := { s.net with sampleDue := some (s.multiple (1000 * v) + 1000 * v) } }).setObj Obj.QSAMPLE_PERIOD 0 v, .ack) := by
  unfold effQsamplePeriod
  rw [takePeriod_idle h]

theorem objectWrite_qsample (h : s.accepts sess Obj.QSAMPLE_PERIOD sel v = true)
    (ho : (s.ex.owed.any fun o => o.kind == .park || o.kind == .resume) = false) (hn : s.net.sampleDue = none) :
    ∃ t, exec (.objectWrite sess Obj.QSAMPLE_PERIOD sel v) s = .next t ∧ t.obj Obj.QSAMPLE_PERIOD sel = v ∧ t.net.samplePeriod = s.net.samplePeriod := by
  have hrow : (objDef Obj.QSAMPLE_PERIOD).any (fun d => d.sel == none) = true := by decide
  obtain ⟨d, hd, hnone⟩ := (Option.any_eq_true _ _).mp hrow
  have hsel := accepts_sel h hd
  unfold selOk at hsel
  rw [beq_iff_eq.mp hnone] at hsel
  obtain rfl : sel = 0 := beq_iff_eq.mp hsel
  have hnet : (seen s sess).net = s.net := (seen_frame s sess).net rfl
  obtain ⟨t, hrun, -, hframe⟩ := objectWrite_acks h ho
    (show effNumber sess 0 Obj.QSAMPLE_PERIOD 0 v (seen s sess) = _ from effQsamplePeriod_idle (by rw [hnet]; exact hn)) rfl
  refine ⟨t, hrun, (obj_of_objs (hframe.objs rfl) _ _).trans (obj_setObj ..), ?_⟩
  rw [hframe.net rfl]
  exact (congrArg Network.samplePeriod hnet :)

/-- The write of one numeric object by itself, for the objects that have no effect of their own beyond their value. -/
theorem objectWrite_values (h : s.accepts sess addr sel v = true) (ho : (s.ex.owed.any fun o => o.kind == .park || o.kind == .resume) = false) :
    ∃ t, exec (.objectWrite sess addr sel v) s = .next t ∧
      (addr ∈ plainObjs → t.answered sess 0 addr sel (.ack []) ∧ t.obj addr sel = v ∧ Frame [.ex, .objs] s t) ∧
      (addr ∈ stagedObjs → t.answered sess 0 addr sel (.ack []) ∧ t.stagedVal addr sel = some v ∧ Frame [.ex, .staged] s t) ∧
      (addr ∈ lawObjs → t.answered sess 0 addr sel (.ack []) ∧ t.obj addr sel = v ∧ Frame [.ex, .objs, .loops] s t) ∧
      (addr = Obj.SLOW_RATE → t.obj addr sel = v ∧ t.slowBucket sel = s.slowBucket sel ∧ Frame [.ex, .objs, .net] s t) ∧
      (addr = Obj.QSAMPLE_PERIOD → s.net.sampleDue = none → t.obj addr sel = v ∧ t.net.samplePeriod = s.net.samplePeriod) := by
  have hsome : ∃ t, exec (.objectWrite sess addr sel v) s = .next t := ⟨_, rfl⟩
  obtain ⟨t, hrun⟩ := hsome
  have hsame {P : State → Prop} (hp : ∃ t, exec (.objectWrite sess addr sel v) s = .next t ∧ P t) : P t := by
    obtain ⟨t', hrun', hp⟩ := hp
    cases hrun.symm.trans hrun'
    exact hp
  refine ⟨t, hrun, fun ha => hsame (objectWrite_plain h ho ha), fun ha => hsame (objectWrite_staged h ho ha), fun ha => hsame (objectWrite_law h ho ha), ?_, ?_⟩
  · rintro rfl
    exact hsame (objectWrite_slowRate h ho)
  · rintro rfl hn
    exact hsame (objectWrite_qsample h ho hn)

end

end Sys2Proof.Proofs

/-!
SUPPORT. WRITE, READ and BLOCK_READ (R467 to R469).
-/

namespace Sys2Proof.Proofs

open Sys2Proof Sys2Proof.Machine Sys2Proof.Laws

section

variable {s t u : State} {sess req addr sel i level : Nat} {v : Int} {d : ObjDef} {x : Session} {e f : WriteEntry} {entries : List WriteEntry}
  {type : Option Nat} {b bytes : List Byte}

/-! ### The checks of an entry -/

/-- The checks of an entry do not look at the sessions' side. -/
theorem entryCheck_ex (s : State) (y : Exvan) : entryCheck { s with ex := y } level addr sel type b = entryCheck s level addr sel type b := rfl

theorem entryCheck_seen (s : State) (sess : Nat) : entryCheck (seen s sess) level addr sel type b = entryCheck s level addr sel type b := by
  rw [seen_eq]
  exact entryCheck_ex s _

theorem writeValue_plain (h : addr ∈ plainObjs) (hd : objDef addr = some d) :
    writeValue sess req addr sel b s = (s.setObj addr sel (valueOf d.type b), .ack) := by
  obtain ⟨e, he, -, ht, -⟩ := plainObjs_rows addr h
  obtain rfl : d = e := Option.some.inj (hd.symm.trans he)
  unfold writeValue
  rw [hd]
  exact (if_neg ht).trans (effNumber_plain h)

theorem writeEntries_passes {s0 : State} {k : Option OwedKind} {n : Nat} (hc : entryCheck s0 level e.addr e.sel (some e.type) e.value = none)
    (hw : writeValue sess req e.addr e.sel e.value s = (t, .ack)) :
    writeEntries s0 sess req level (e :: entries) n k s = writeEntries s0 sess req level entries (n + 1) k t := by
  show (match entryCheck s0 level e.addr e.sel (some e.type) e.value with | some n' => _ | none => _) = _
  rw [hc]
  show (match writeValue sess req e.addr e.sel e.value s with | (s', .ack) => _ | (s', .owe k') => _ | (_, .nak n) => _) = _
  rw [hw]

theorem writeEntries_fails {s0 : State} {k : Option OwedKind} {n : Nat} {c : Nak}
    (hc : entryCheck s0 level e.addr e.sel (some e.type) e.value = some c) :
    writeEntries s0 sess req level (e :: entries) n k s = .failed s0 n c 0 := by
  show (match entryCheck s0 level e.addr e.sel (some e.type) e.value with | some n' => _ | none => _) = _
  rw [hc]

/-! ### WRITE -/

/-- A WRITE answered on a state whose sessions' side is the request's. -/
theorem write_answers {r : Reply} (hr : s.ready sess = true) (hq : s.newReq sess req = true)
    (ho : (s.ex.owed.any fun o => o.kind == .park || o.kind == .resume) = false) (hx : s.session sess = some (i, x))
    (hw : writeNow (seen s sess) sess req x.level entries = answer u sess req 0 0 r) (hex : u.ex = (seen s sess).ex) :
    ∃ t, exec (.write sess req entries) s = .next t ∧ t.answered sess req 0 0 r ∧ Frame [.ex] u t := by
  have hopen : openIn u sess := openIn_of_ex hex (openIn_seen hr)
  obtain ⟨hans, hframe⟩ := answer_open hopen req 0 0 r
  have howed : (answer u sess req 0 0 r).ex.owed = s.ex.owed := by
    rw [answer_owed hopen, hex, seen_owed]
  have hrun : exec (.write sess req entries) s = finish s (answer u sess req 0 0 r) := by
    change finish s (parkOwed (request s sess req .object (.write sess req entries) fun s level => writeNow s sess req level entries)) = _
    rw [request_runs hr hq hx, ← seen_eq_setSession hx, hw, parkOwed_idle (howed ▸ ho)]
  generalize answer u sess req 0 0 r = w at hrun hans hframe
  exact ⟨_, hrun, hans, frame_sealed hframe (by decide)⟩

theorem write_format (hr : s.ready sess = true) (hq : s.newReq sess req = true)
    (ho : (s.ex.owed.any fun o => o.kind == .park || o.kind == .resume) = false) (hn : entries = [] ∨ 64 < entries.length) :
    ∃ t, exec (.write sess req entries) s = .next t ∧ t.answered sess req 0 0 (.nak .format 0 0) ∧ Frame [.ex] s t := by
  obtain ⟨i, x, hx, -⟩ := State.ready_iff.mp hr
  obtain ⟨t, hrun, hans, hframe⟩ := write_answers hr hq ho hx (if_pos (hn.imp_left List.isEmpty_iff.mpr)) rfl
  exact ⟨t, hrun, hans, (seen_frame s sess).trans hframe⟩

theorem writeNow_checks (hne : entries ≠ []) (hl : entries.length ≤ 64) : writeNow s sess req level entries =
    match writeEntries s sess req level entries 0 none s with
    | .done s none => answer s sess req 0 0 (.ack [])
    | .done s (some k) => s.owe k sess req 0 0
    | .failed s i n d => answer s sess req 0 0 (.nak n i d) := by
  have hno : ¬ (entries.isEmpty = true ∨ 64 < entries.length) := by
    rintro (h | h)
    · exact hne (List.isEmpty_iff.mp h)
    · omega
  exact if_neg hno

theorem write_one (hr : s.ready sess = true) (hq : s.newReq sess req = true)
    (ho : (s.ex.owed.any fun o => o.kind == .park || o.kind == .resume) = false) (hx : s.session sess = some (i, x))
    (hc : entryCheck s x.level e.addr e.sel (some e.type) e.value = none) (hd : objDef e.addr = some d) (ha : e.addr ∈ plainObjs) :
    ∃ t, exec (.write sess req [e]) s = .next t ∧ t.answered sess req 0 0 (.ack []) ∧ t.obj e.addr e.sel = valueOf d.type e.value ∧
      Frame [.ex, .objs] s t := by
  have hw : writeNow (seen s sess) sess req x.level [e] = answer ((seen s sess).setObj e.addr e.sel (valueOf d.type e.value)) sess req 0 0 (.ack []) := by
    rw [writeNow_checks (List.cons_ne_nil _ _) (Nat.le_of_ble_eq_true rfl),
      writeEntries_passes ((entryCheck_seen s sess).trans hc) (writeValue_plain ha hd)]
    rfl
  obtain ⟨t, hrun, hans, hframe⟩ := write_answers hr hq ho hx hw rfl
  have hset : Frame [.ex, .objs] s ((seen s sess).setObj e.addr e.sel (valueOf d.type e.value)) :=
    .step (State.setObj_frame _ _ _ _) (by decide) ((seen_frame s sess).mono (by decide))
  exact ⟨t, hrun, hans, (obj_of_objs (hframe.objs rfl) _ _).trans (obj_setObj ..), .step hframe (by decide) hset⟩

theorem write_second_fails {n : Nak} (hr : s.ready sess = true) (hq : s.newReq sess req = true)
    (ho : (s.ex.owed.any fun o => o.kind == .park || o.kind == .resume) = false) (hx : s.session sess = some (i, x))
    (hc : entryCheck s x.level e.addr e.sel (some e.type) e.value = none) (hd : objDef e.addr = some d) (ha : e.addr ∈ plainObjs)
    (hf : entryCheck s x.level f.addr f.sel (some f.type) f.value = some n) :
    ∃ t, exec (.write sess req [e, f]) s = .next t ∧ t.answered sess req 0 0 (.nak n 1 0) ∧ Frame [.ex] s t := by
  have hw : writeNow (seen s sess) sess req x.level [e, f] = answer (seen s sess) sess req 0 0 (.nak n 1 0) := by
    rw [writeNow_checks (List.cons_ne_nil _ _) (Nat.le_of_ble_eq_true rfl),
      writeEntries_passes ((entryCheck_seen s sess).trans hc) (writeValue_plain ha hd), writeEntries_fails ((entryCheck_seen s sess).trans hf)]
  obtain ⟨t, hrun, hans, hframe⟩ := write_answers hr hq ho hx hw rfl
  exact ⟨t, hrun, hans, (seen_frame s sess).trans hframe⟩

/-! ### READ -/

theorem tooLong_seen (hx : s.session sess = some (i, x)) (n : Nat) : (seen s sess).tooLong sess req n = s.tooLong sess req n := by
  have hseen := session_seen_same hx
  have hobjs := (seen_frame s sess).objs rfl
  have hnet := (seen_frame s sess).net rfl
  unfold State.tooLong State.peerOf State.txPort State.setOf State.objN State.obj
  rw [hseen, hx, hobjs, hnet]

/-- A read answered on the state that has seen its frame, by whichever transmit source. -/
theorem answerFrom_answers {source : Nat} {cached : Bool} {r : Reply} (h : openIn s sess) :
    (answerFrom source cached s sess req addr sel r).answered sess req addr sel r ∧ Frame [.ex] s (answerFrom source cached s sess req addr sel r) := by
  obtain ⟨i, x, hx⟩ := (openIn_iff _ _).mp h
  unfold answerFrom
  rw [hx]
  exact ⟨⟨_, sendAnswer_newest _ _ _⟩, .step (State.setSession_frame _ _ _) (by decide) (.step (sendAnswer_frame _ _ _) (by decide) (.refl _))⟩

theorem read_runs {entries : List ReadEntry} {body : List Byte} (hr : s.ready sess = true) (hq : s.newReq sess req = true)
    (hx : s.session sess = some (i, x)) (hu : u = s.setSession i { x with lastFrame := s.tick })
    (hb : body = (entries.map (readResult u sess x.level)).flatten) :
    ∃ t, exec (.read sess req entries) s = .next t ∧ Frame [.ex] s t ∧
      t.answered sess req 0 0
        (if entries = [] ∨ 64 < entries.length then .nak .format 0 0
        else if s.tooLong sess req body.length = true ∨ 8192 < body.length then .nak .full 0 0
        else .ack body) := by
  obtain rfl : u = seen s sess := hu.trans (seen_eq_setSession hx).symm
  have hrun : exec (.read sess req entries) s = finish s (readNow (seen s sess) sess req x.level entries) := by
    rw [seen_eq_setSession hx]
    exact congrArg (finish s) (request_runs hr hq hx _)
  have hnow : readNow (seen s sess) sess req x.level entries = answer (seen s sess) sess req 0 0
      (if entries = [] ∨ 64 < entries.length then .nak .format 0 0
        else if s.tooLong sess req body.length = true ∨ 8192 < body.length then .nak .full 0 0
        else .ack body) := by
    unfold readNow
    dsimp only
    rw [← hb, tooLong_seen hx, ← apply_ite (fun r => answer (seen s sess) sess req 0 0 r), ← apply_ite (fun r => answer (seen s sess) sess req 0 0 r)]
    refine congrArg _ (if_congr (or_congr_left List.isEmpty_iff) rfl rfl)
  obtain ⟨hans, hframe⟩ := answer_seen (req := req) (openIn_seen hr) (if entries = [] ∨ 64 < entries.length then .nak .format 0 0
        else if s.tooLong sess req body.length = true ∨ 8192 < body.length then .nak .full 0 0
        else .ack body)
  rw [← hnow] at hans hframe
  generalize readNow (seen s sess) sess req x.level entries = w at hrun hans hframe
  exact ⟨_, hrun, frame_sealed hframe (by decide), hans⟩

/-! ### BLOCK_READ -/

/-- What answers a BLOCK_READ, on the state that has seen its frame (R469). -/
def blockReply (s u : State) (sess req level addr sel offset count : Nat) : Reply :=
  if count = 0 ∨ 8192 < count then .nak .format 0 0
  else match u.readValue sess level addr sel with
    | .error n => .nak n 0 0
    | .ok (_, b) =>
      if b.length < offset ∨ s.tooLong sess req (4 + (slice b offset count).length) = true then .nak .range 0 0
      else match u.chunkBad sess addr sel offset (slice b offset count).length with
        | some place => .nak .memory 0 (if addr = Obj.RING_DATA then place else 0)
        | none => .ack (beBytes 4 b.length ++ slice b offset count)

theorem blockReadNow_replies {offset count : Nat} (hr : openIn u sess) (hl : ∀ n, u.tooLong sess req n = s.tooLong sess req n) :
    (blockReadNow u sess req level addr sel offset count).answered sess req 0 0 (blockReply s u sess req level addr sel offset count) ∧
      Frame [.ex] u (blockReadNow u sess req level addr sel offset count) := by
  have hans (r : Reply) := answer_open hr req 0 0 r
  unfold blockReadNow blockReply
  split
  · exact hans _
  · cases u.readValue sess level addr sel with
    | error n => exact hans _
    | ok p =>
      obtain ⟨ty, b⟩ := p
      dsimp only
      rw [hl]
      split
      · exact hans _
      · cases u.chunkBad sess addr sel offset (slice b offset count).length with
        | some place => exact hans _
        | none => exact answerFrom_answers hr

theorem blockRead_runs {offset count : Nat} (hr : s.ready sess = true) (hq : s.newReq sess req = true)
    (hx : s.session sess = some (i, x)) (hu : u = s.setSession i { x with lastFrame := s.tick }) :
    ∃ t, exec (.blockRead sess req addr sel offset count) s = .next t ∧ Frame [.ex] s t ∧
      t.answered sess req 0 0 (blockReply s u sess req x.level addr sel offset count) := by
  obtain rfl : u = seen s sess := hu.trans (seen_eq_setSession hx).symm
  have hrec : (seen s sess).recovery = false := (recovery_seen s sess).trans (ready_recovery hr)
  have hrun : exec (.blockRead sess req addr sel offset count) s =
      finish s (blockReadNow (seen s sess) sess req x.level addr sel offset count) := by
    refine congrArg (finish s) ((request_runs hr hq hx _).trans ?_)
    rw [← seen_eq_setSession hx]
    exact unlessRecovery_runs hrec _
  obtain ⟨hans, hframe⟩ := blockReadNow_replies (s := s) (level := x.level) (addr := addr) (sel := sel) (offset := offset) (count := count) (req := req)
    (openIn_seen hr) (fun n => tooLong_seen hx n)
  generalize blockReadNow (seen s sess) sess req x.level addr sel offset count = w at hrun hans hframe
  exact ⟨_, hrun, frame_sealed ((seen_frame s sess).trans hframe) (by decide), hans⟩

end

end Sys2Proof.Proofs

/-!
SUPPORT. BLOCK_WRITE (R470), a value abandoned, and the answers that leave the response cache (R465).
-/

namespace Sys2Proof.Proofs

open Sys2Proof Sys2Proof.Machine Sys2Proof.Laws

section

variable {s t u : State} {sess req addr sel i level offset total n : Nat} {v : Int} {d : ObjDef} {x y : Session} {b : BlockBuf} {bytes : List Byte}

theorem touchLoad_other (h : addr ≠ Obj.LOAD_DATA) (s : State) : touchLoad s sess addr = s := if_neg h

theorem storeChunk_keeps (hx : s.session sess = some (i, x)) (ha : b.addr ≠ Obj.LOAD_DATA) (hl : b.bytes.length < b.total) :
    storeChunk s sess req level b = answer (s.setSession i { x with block := some { b with tick := s.tick } }) sess req 0 0 (.ack []) := by
  unfold storeChunk
  rw [hx]
  show (if b.bytes.length < b.total then _ else _) = _
  rw [if_pos hl, touchLoad_other ha]

theorem storeChunk_ends (hx : s.session sess = some (i, x)) (ha : b.addr ≠ Obj.LOAD_DATA) (hl : ¬ b.bytes.length < b.total) :
    storeChunk s sess req level b = blockWhole (s.setSession i { x with block := none }) sess req level b.addr b.sel b.bytes := by
  unfold storeChunk
  rw [hx]
  show (if b.bytes.length < b.total then _ else _) = _
  rw [if_neg hl, touchLoad_other ha]

/-- A BLOCK_WRITE answered on a state in which its session is open and what is owed is as before. -/
theorem blockWrite_answers {r : Reply} (hr : s.ready sess = true) (hq : s.newReq sess req = true)
    (ho : (s.ex.owed.any fun o => o.kind == .park || o.kind == .resume) = false) (hx : s.session sess = some (i, x))
    (hw : blockWriteNow (seen s sess) sess req x.level addr sel offset total bytes = answer u sess req 0 0 r)
    (hu : u.session sess = some (i, y)) (howed : u.ex.owed = s.ex.owed) :
    ∃ t, exec (.blockWrite sess req addr sel offset total bytes) s = .next t ∧ t.answered sess req 0 0 r ∧ Frame [.ex] u t ∧
      ∃ z, mfind t.ex.sessions i = some z ∧ z.block = y.block := by
  have hopen := openIn_of_session hu
  obtain ⟨hans, hframe⟩ := answer_open hopen req 0 0 r
  obtain ⟨hkept, q, c, o, -, hfound⟩ := answer_session hu req 0 0 r
  have hrun := blockWrite_runs hr hq hx ((seen_eq_setSession hx) ▸ hw) (by rw [hkept, howed]; exact ho)
  generalize answer u sess req 0 0 r = w at hrun hans hframe hfound
  exact ⟨_, hrun, hans, frame_sealed hframe (by decide), ⟨_, hfound, rfl⟩⟩

theorem owed_setSession (s : State) (i : Nat) (x : Session) : (s.setSession i x).ex.owed = s.ex.owed := rfl

/-- The session of a request, its frame noted: its block is as it was. -/
theorem session_seen_block (hx : s.session sess = some (i, x)) : ∃ y, (seen s sess).session sess = some (i, y) ∧ y.block = x.block :=
  ⟨_, session_seen_same hx, rfl⟩

theorem setSession_shows (hx : s.session sess = some (i, x)) (hy : y.num = x.num) : (s.setSession i y).session sess = some (i, y) :=
  session_setSession_same hx (hy.trans (session_num hx))

/-! ### The first chunk -/

/-- The state in which a BLOCK_WRITE of offset 0 begins: the value before it is gone. -/
theorem blockWriteNow_begins (hx : s.session sess = some (i, x)) (hn : ¬ (bytes = [] ∨ 8192 < bytes.length)) :
    blockWriteNow s sess req level addr sel 0 total bytes =
      if totalOk addr total = false then answer (s.setSession i { x with block := none }) sess req 0 0 (.nak .type 0 0)
      else if total < bytes.length then answer (s.setSession i { x with block := none }) sess req 0 0 (.nak .range 0 0)
      else storeChunk (s.setSession i { x with block := none }) sess req level ⟨addr, sel, total, bytes, s.tick⟩ := by
  have hne : ¬ (bytes.isEmpty = true ∨ 8192 < bytes.length) := fun h => hn (h.imp_left List.isEmpty_iff.mp)
  unfold blockWriteNow
  rw [hx]
  dsimp only
  rw [if_neg hne, if_pos rfl]
  cases totalOk addr total <;> rfl

theorem blockWriteNow_format (hx : s.session sess = some (i, x)) (hn : bytes = [] ∨ 8192 < bytes.length) :
    blockWriteNow s sess req level addr sel offset total bytes = answer s sess req 0 0 (.nak .format 0 0) := by
  unfold blockWriteNow
  rw [hx]
  exact if_pos (hn.imp_left List.isEmpty_iff.mpr)

theorem blockWrite_begins (hr : s.ready sess = true) (hq : s.newReq sess req = true) (hx : s.session sess = some (i, x))
    (ho : (s.ex.owed.any fun o => o.kind == .park || o.kind == .resume) = false) (ha : addr ≠ Obj.LOAD_DATA)
    (hl : bytes = [] ∨ 8192 < bytes.length ∨ bytes.length ≠ total) :
    ∃ t, exec (.blockWrite sess req addr sel 0 total bytes) s = .next t ∧ Frame [.ex] s t ∧
      if bytes = [] ∨ 8192 < bytes.length then t.answered sess req 0 0 (.nak .format 0 0)
      else if totalOk addr total = false then t.answered sess req 0 0 (.nak .type 0 0)
      else if total < bytes.length then t.answered sess req 0 0 (.nak .range 0 0)
      else t.answered sess req 0 0 (.ack []) ∧ ∃ y, mfind t.ex.sessions i = some y ∧ y.block = some ⟨addr, sel, total, bytes, s.tick⟩ := by
  obtain ⟨y, hseen, -⟩ := session_seen_block hx
  have hframe := seen_frame s sess
  have howed := seen_owed s sess
  by_cases hn : bytes = [] ∨ 8192 < bytes.length
  · obtain ⟨t, hrun, hans, hkept, -⟩ := blockWrite_answers hr hq ho hx (blockWriteNow_format hseen hn) hseen howed
    refine ⟨t, hrun, hframe.trans hkept, ?_⟩
    rw [if_pos hn]
    exact hans
  · have hnow := blockWriteNow_begins (req := req) (level := x.level) (addr := addr) (sel := sel) (total := total) hseen hn
    have hempty := setSession_shows (y := { y with block := none }) hseen rfl
    have hbegun : Frame [.ex] s ((seen s sess).setSession i { y with block := none }) := .step (State.setSession_frame _ _ _) (by decide) hframe
    have hnone : ((seen s sess).setSession i { y with block := none }).ex.owed = s.ex.owed := howed
    rw [hframe.tick rfl] at hnow
    generalize (seen s sess).setSession i { y with block := none } = v at hnow hempty hbegun hnone
    by_cases ht : totalOk addr total = false
    · rw [if_pos ht] at hnow
      obtain ⟨t, hrun, hans, hkept, -⟩ := blockWrite_answers hr hq ho hx hnow hempty hnone
      refine ⟨t, hrun, hbegun.trans hkept, ?_⟩
      rw [if_neg hn, if_pos ht]
      exact hans
    · rw [if_neg ht] at hnow
      by_cases hlong : total < bytes.length
      · rw [if_pos hlong] at hnow
        obtain ⟨t, hrun, hans, hkept, -⟩ := blockWrite_answers hr hq ho hx hnow hempty hnone
        refine ⟨t, hrun, hbegun.trans hkept, ?_⟩
        rw [if_neg hn, if_neg ht, if_pos hlong]
        exact hans
      · have hshort : bytes.length < total := by
          rcases hl with h | h | h
          · exact absurd (.inl h) hn
          · exact absurd (.inr h) hn
          · omega
        rw [if_neg hlong, storeChunk_keeps hempty ha hshort, hbegun.tick rfl] at hnow
        obtain ⟨t, hrun, hans, hkept, z, hz, hblock⟩ := blockWrite_answers hr hq ho hx hnow (setSession_shows hempty rfl) hnone
        refine ⟨t, hrun, (Frame.step (State.setSession_frame _ _ _) (by decide) hbegun).trans hkept, ?_⟩
        rw [if_neg hn, if_neg ht, if_neg hlong]
        exact ⟨hans, z, hz, hblock⟩

/-! ### A later chunk -/

theorem blockWriteNow_misses (hx : s.session sess = some (i, x)) (hb : x.block = some b) (h0 : 0 < offset) (hn : bytes ≠ []) (h8 : bytes.length ≤ 8192)
    (hm : ¬ (b.addr = addr ∧ b.sel = sel ∧ b.total = total ∧ b.bytes.length = offset ∧ offset + bytes.length ≤ total)) :
    blockWriteNow s sess req level addr sel offset total bytes = answer s sess req 0 0 (.nak .range 0 0) := by
  have hlen : ¬ (bytes.isEmpty = true ∨ 8192 < bytes.length) := by
    rintro (h | h)
    · exact hn (List.isEmpty_iff.mp h)
    · omega
  unfold blockWriteNow
  simp only [hx, hb]
  rw [if_neg hlen, if_neg (by omega), if_neg hm]

theorem blockWhole_checks : blockWhole s sess req level addr sel bytes = match entryCheck s level addr sel none bytes with
    | some n => answer s sess req 0 0 (.nak n 0 0)
    | none => match writeValue sess req addr sel bytes s with
      | (s, .ack) => answer s sess req 0 0 (.ack [])
      | (s, .nak n) => answer s sess req 0 0 (.nak n 0 (s.detailOf sess addr n))
      | (s, .owe k) => s.owe k sess req 0 0 := rfl

theorem blockWhole_fails {c : Nak} (h : entryCheck s level addr sel none bytes = some c) :
    blockWhole s sess req level addr sel bytes = answer s sess req 0 0 (.nak c 0 0) := by
  rw [blockWhole_checks, h]

theorem blockWhole_plain (h : entryCheck s level addr sel none bytes = none) (ha : addr ∈ plainObjs) (hd : objDef addr = some d) :
    blockWhole s sess req level addr sel bytes = answer (s.setObj addr sel (valueOf d.type bytes)) sess req 0 0 (.ack []) := by
  rw [blockWhole_checks, h, writeValue_plain ha hd]

theorem entryCheck_setSession (s : State) (i : Nat) (x : Session) {type : Option Nat} :
    entryCheck (s.setSession i x) level addr sel type bytes = entryCheck s level addr sel type bytes := entryCheck_ex s _

theorem blockWrite_misses (hr : s.ready sess = true) (hq : s.newReq sess req = true) (hx : s.session sess = some (i, x)) (hb : x.block = some b)
    (ho : (s.ex.owed.any fun o => o.kind == .park || o.kind == .resume) = false) (h0 : 0 < offset) (hn : bytes ≠ []) (h8 : bytes.length ≤ 8192)
    (hm : ¬ (b.addr = addr ∧ b.sel = sel ∧ b.total = total ∧ b.bytes.length = offset ∧ offset + bytes.length ≤ total)) :
    ∃ t, exec (.blockWrite sess req addr sel offset total bytes) s = .next t ∧ t.answered sess req 0 0 (.nak .range 0 0) ∧ Frame [.ex] s t := by
  obtain ⟨y, hseen, hblock⟩ := session_seen_block hx
  obtain ⟨t, hrun, hans, hkept, -⟩ := blockWrite_answers hr hq ho hx (blockWriteNow_misses hseen (hblock.trans hb) h0 hn h8 hm) hseen (seen_owed s sess)
  exact ⟨t, hrun, hans, (seen_frame s sess).trans hkept⟩

/-- A chunk that goes on is stored under the bytes held. -/
theorem blockWriteNow_stores (hx : s.session sess = some (i, x)) (hb : x.block = some b) (h0 : 0 < offset) (hn : bytes ≠ []) (h8 : bytes.length ≤ 8192)
    (hm : b.addr = addr ∧ b.sel = sel ∧ b.total = total ∧ b.bytes.length = offset ∧ offset + bytes.length ≤ total) :
    blockWriteNow s sess req level addr sel offset total bytes = storeChunk s sess req level { b with bytes := b.bytes ++ bytes } := by
  obtain ⟨rfl, rfl, rfl, hl, ht⟩ := hm
  exact blockWriteNow_continues hx hb h0 hn h8 hl ht

theorem blockWrite_keeps (hr : s.ready sess = true) (hq : s.newReq sess req = true) (hx : s.session sess = some (i, x)) (hb : x.block = some b)
    (ho : (s.ex.owed.any fun o => o.kind == .park || o.kind == .resume) = false) (h0 : 0 < offset) (hn : bytes ≠ []) (h8 : bytes.length ≤ 8192)
    (ha : addr ≠ Obj.LOAD_DATA)
    (hm : b.addr = addr ∧ b.sel = sel ∧ b.total = total ∧ b.bytes.length = offset ∧ offset + bytes.length ≤ total) (hl : offset + bytes.length < total) :
    ∃ t, exec (.blockWrite sess req addr sel offset total bytes) s = .next t ∧ t.answered sess req 0 0 (.ack []) ∧ Frame [.ex] s t ∧
      ∃ y, mfind t.ex.sessions i = some y ∧ y.block = some ⟨addr, sel, total, b.bytes ++ bytes, s.tick⟩ := by
  obtain ⟨y, hseen, hheld⟩ := session_seen_block hx
  have hnow := blockWriteNow_stores (req := req) (level := x.level) hseen (hheld.trans hb) h0 hn h8 hm
  obtain ⟨rfl, rfl, rfl, hlen, -⟩ := hm
  rw [storeChunk_keeps (b := { b with bytes := b.bytes ++ bytes }) hseen ha (by rw [List.length_append]; dsimp only; omega), (seen_frame s sess).tick rfl] at hnow
  obtain ⟨t, hrun, hans, hkept, z, hz, hblock⟩ := blockWrite_answers hr hq ho hx hnow (setSession_shows hseen rfl) (seen_owed s sess)
  exact ⟨t, hrun, hans, (Frame.step (State.setSession_frame _ _ _) (by decide) (seen_frame s sess)).trans hkept, z, hz, hblock⟩

/-- The last chunk of a plain object's value: answered as the whole write is. -/
theorem blockWrite_ends (hr : s.ready sess = true) (hq : s.newReq sess req = true) (hx : s.session sess = some (i, x)) (hb : x.block = some b)
    (ho : (s.ex.owed.any fun o => o.kind == .park || o.kind == .resume) = false) (h0 : 0 < offset) (hn : bytes ≠ []) (h8 : bytes.length ≤ 8192)
    (hd : objDef addr = some d) (ha : addr ∈ plainObjs) (hload : addr ≠ Obj.LOAD_DATA)
    (hm : b.addr = addr ∧ b.sel = sel ∧ b.total = total ∧ b.bytes.length = offset ∧ offset + bytes.length ≤ total) (hl : ¬ offset + bytes.length < total) :
    ∃ t, exec (.blockWrite sess req addr sel offset total bytes) s = .next t ∧
      match entryCheck s x.level addr sel none (b.bytes ++ bytes) with
      | some n => t.answered sess req 0 0 (.nak n 0 0) ∧ Frame [.ex] s t
      | none => t.answered sess req 0 0 (.ack []) ∧ t.obj addr sel = valueOf d.type (b.bytes ++ bytes) ∧ Frame [.ex, .objs] s t := by
  obtain ⟨y, hseen, hheld⟩ := session_seen_block hx
  have hnow := blockWriteNow_stores (req := req) (level := x.level) hseen (hheld.trans hb) h0 hn h8 hm
  obtain ⟨rfl, rfl, rfl, hlen, -⟩ := hm
  rw [storeChunk_ends (b := { b with bytes := b.bytes ++ bytes }) hseen hload (by rw [List.length_append]; dsimp only; omega)] at hnow
  have hempty := setSession_shows (y := { y with block := none }) hseen rfl
  have hframe : Frame [.ex] s ((seen s sess).setSession i { y with block := none }) :=
    .step (State.setSession_frame _ _ _) (by decide) (seen_frame s sess)
  have hsame : entryCheck ((seen s sess).setSession i { y with block := none }) x.level b.addr b.sel none (b.bytes ++ bytes) =
      entryCheck s x.level b.addr b.sel none (b.bytes ++ bytes) := (entryCheck_setSession _ _ _).trans (entryCheck_seen s sess)
  have howed : ((seen s sess).setSession i { y with block := none }).ex.owed = s.ex.owed := seen_owed s sess
  generalize (seen s sess).setSession i { y with block := none } = v at hnow hempty hframe hsame howed
  cases hcheck : entryCheck s x.level b.addr b.sel none (b.bytes ++ bytes) with
  | some c =>
    obtain ⟨t, hrun, hans, hkept, -⟩ := blockWrite_answers hr hq ho hx (hnow.trans (blockWhole_fails (hsame.trans hcheck))) hempty howed
    exact ⟨t, hrun, hans, hframe.trans hkept⟩
  | none =>
    obtain ⟨t, hrun, hans, hkept, -⟩ := blockWrite_answers (u := v.setObj b.addr b.sel (valueOf d.type (b.bytes ++ bytes))) hr hq ho hx
      (hnow.trans (blockWhole_plain (hsame.trans hcheck) ha hd)) hempty howed
    have hset : Frame [.ex, .objs] s (v.setObj b.addr b.sel (valueOf d.type (b.bytes ++ bytes))) :=
      .step (State.setObj_frame _ _ _ _) (by decide) (hframe.mono (by decide))
    exact ⟨t, hrun, hans, (obj_of_objs (hkept.objs rfl) _ _).trans (obj_setObj ..), .step hkept (by decide) hset⟩

theorem plainObjs_loadData : Obj.LOAD_DATA ∉ plainObjs := by decide

theorem blockWrite_continues (hr : s.ready sess = true) (hq : s.newReq sess req = true) (hx : s.session sess = some (i, x)) (hb : x.block = some b)
    (ho : (s.ex.owed.any fun o => o.kind == .park || o.kind == .resume) = false) (h0 : 0 < offset) (hn : bytes ≠ []) (h8 : bytes.length ≤ 8192)
    (hd : objDef addr = some d) (ha : addr ∈ plainObjs) :
    ∃ t, exec (.blockWrite sess req addr sel offset total bytes) s = .next t ∧
      if b.addr = addr ∧ b.sel = sel ∧ b.total = total ∧ b.bytes.length = offset ∧ offset + bytes.length ≤ total then
        if offset + bytes.length < total then
          t.answered sess req 0 0 (.ack []) ∧ Frame [.ex] s t ∧
            ∃ y, mfind t.ex.sessions i = some y ∧ y.block = some ⟨addr, sel, total, b.bytes ++ bytes, s.tick⟩
        else
          match entryCheck s x.level addr sel none (b.bytes ++ bytes) with
          | some n => t.answered sess req 0 0 (.nak n 0 0) ∧ Frame [.ex] s t
          | none =>
            t.answered sess req 0 0 (.ack []) ∧ t.obj addr sel = valueOf d.type (b.bytes ++ bytes) ∧ Frame [.ex, .objs] s t
      else t.answered sess req 0 0 (.nak .range 0 0) ∧ Frame [.ex] s t := by
  have hload : addr ≠ Obj.LOAD_DATA := fun e => plainObjs_loadData (e ▸ ha)
  by_cases hm : b.addr = addr ∧ b.sel = sel ∧ b.total = total ∧ b.bytes.length = offset ∧ offset + bytes.length ≤ total
  · by_cases hl : offset + bytes.length < total
    · obtain ⟨t, hrun, hkeeps⟩ := blockWrite_keeps hr hq hx hb ho h0 hn h8 hload hm hl
      refine ⟨t, hrun, ?_⟩
      rw [if_pos hm, if_pos hl]
      exact hkeeps
    · obtain ⟨t, hrun, hends⟩ := blockWrite_ends hr hq hx hb ho h0 hn h8 hd ha hload hm hl
      refine ⟨t, hrun, ?_⟩
      rw [if_pos hm, if_neg hl]
      exact hends
  · obtain ⟨t, hrun, hmisses⟩ := blockWrite_misses hr hq hx hb ho h0 hn h8 hm
    refine ⟨t, hrun, ?_⟩
    rw [if_neg hm]
    exact hmisses

/-! ### What time ends -/

theorem abandonBlock_abandons (s : State) (i : Nat) (x : Session) (b : BlockBuf) :
    (abandonBlock s i x b).objN Obj.BLOCKS_ABANDONED 0 = (s.objN Obj.BLOCKS_ABANDONED 0 + 1) % 2 ^ 64 ∧
      ∃ y, mfind (abandonBlock s i x b).ex.sessions i = some y ∧ y.block = none ∧ y.num = x.num := by
  unfold abandonBlock
  extract_lets u
  have hcount : u.objN Obj.BLOCKS_ABANDONED 0 = (s.objN Obj.BLOCKS_ABANDONED 0 + 1) % 2 ^ 64 := objN_inc64_self _ _ _ _
  have hfound : mfind u.ex.sessions i = some { x with block := none } := mfind_mset_self _ _ _
  clear_value u
  obtain ⟨y, hy, q, e, o, rfl⟩ := (raiseA_told u 0x9006 [.word x.num, .word b.addr, .word b.bytes.length]).found hfound
  exact ⟨(congrArg Int.toNat (raiseA_obj (by decide) _ _ _)).trans hcount, _, hy, rfl, rfl⟩

theorem blockAbandoned_runs (hx : s.session sess = some (i, x)) (hb : x.block = some b) :
    ∃ t, exec (.blockAbandoned sess) s = .next t ∧
      if s.elapsed b.tick 10000000000 = true then
        t.objN Obj.BLOCKS_ABANDONED 0 = (s.objN Obj.BLOCKS_ABANDONED 0 + 1) % 2 ^ 64 ∧
          ∃ y, mfind t.ex.sessions i = some y ∧ y.block = none ∧ y.num = x.num
      else Frame [.ex] s t ∧ t.ex.sessions = s.ex.sessions := by
  have hrun : exec (.blockAbandoned sess) s = finish s (if s.elapsed b.tick 10000000000 = true then abandonBlock s i x b else s) := by
    show finish s _ = _
    simp only [hx, hb]
  by_cases he : s.elapsed b.tick 10000000000 = true
  · rw [if_pos he] at hrun
    have habandons := abandonBlock_abandons s i x b
    generalize abandonBlock s i x b = w at hrun habandons
    refine ⟨_, hrun, ?_⟩
    rw [if_pos he]
    exact habandons
  · rw [if_neg he] at hrun
    refine ⟨_, hrun, ?_⟩
    rw [if_neg he]
    exact ⟨frame_sealed (.refl s) (by decide), rfl⟩

theorem responseCacheExpiry_runs (hx : s.session sess = some (i, x)) :
    ∃ t y, exec (.responseCacheExpiry sess) s = .next t ∧ mfind t.ex.sessions i = some y ∧ Frame [.ex] s t ∧
      y = { x with cache := x.cache.filter fun e => !s.elapsed e.tick 10000000000 } := by
  have hrun : exec (.responseCacheExpiry sess) s = finish s (s.setSession i (expireCache s x)) := by
    show finish s _ = _
    simp only [hx]
  exact ⟨_, _, hrun, mfind_mset_self _ _ _, frame_sealed (State.setSession_frame _ _ _) (by decide), rfl⟩

end

/-- Settles O59: a write by itself, WRITE, READ and the block accesses, each by its own lemma. -/
theorem objectAccess : Obligations.ObjectAccess := by
  unfold Obligations.ObjectAccess
  refine ⟨?_, ?_, ?_, ?_, ?_, ?_, ?_, ?_, ?_⟩
  · exact fun sess addr sel v s h ho => objectWrite_values h ho
  · exact fun sess req entries s hr hq ho hn => write_format hr hq ho hn
  · exact fun sess req i x d e s hr hq ho hx hc hd ha => ⟨write_one hr hq ho hx hc hd ha, fun f n hf => write_second_fails hr hq ho hx hc hd ha hf⟩
  · exact fun sess req i x entries body s u hr hq hx hu hb => read_runs hr hq hx hu hb
  · exact fun sess req i addr sel offset count x s u hr hq hx hu => blockRead_runs hr hq hx hu
  · exact fun sess req i addr sel total bytes x s hr hq hx ho ha hl => blockWrite_begins hr hq hx ho ha hl
  · exact fun sess req i addr sel offset total bytes b d x s hr hq hx hb ho h0 hn h8 hd ha => blockWrite_continues hr hq hx hb ho h0 hn h8 hd ha
  · exact fun sess i x b s hx hb => blockAbandoned_runs hx hb
  · exact fun sess i x s hx => responseCacheExpiry_runs hx

end Sys2Proof.Proofs

/-!
SUPPORT. Which slots an operation may store to (storeSlots): those named to it, that of the write-back it ends, those of the commits it
revalidates. Every store goes through slotWrite, which keeps within its slot.
-/

-- One proof at a time: side by side they ask for more threads than the memory limit of a check allows.
set_option Elab.async false

namespace Sys2Proof.Proofs

open Sys2Proof Sys2Proof.Machine Sys2Proof.Laws

/-! ### The relation -/

section

variable {L : List Nat} {s t u : State} {m : List Comp}

theorem sameOutside_refl (s : State) : sameOutside L s s := fun _ _ => rfl

theorem sameOutside_trans (h : sameOutside L s t) (k : sameOutside L t u) : sameOutside L s u := fun a ha => (k a ha).trans (h a ha)

/-- Before an operation that stores in these slots, another one did. -/
theorem sameOutside_step (k : sameOutside L t u) (h : sameOutside L s t) : sameOutside L s u := sameOutside_trans h k

theorem sameOutside_of_hbm (h : t.hbm = s.hbm) : sameOutside L s t := fun a _ => by rw [h]

/-- Through an operation that stores nothing. -/
theorem sameOutside_frame (k : Frame m t u) (hm : m.contains .hbm = false) (h : sameOutside L s t) : sameOutside L s u :=
  sameOutside_trans h (sameOutside_of_hbm (k.hbm hm))

theorem sameOutside_ite {p : Prop} [Decidable p] (h : p → sameOutside L s t) (k : ¬ p → sameOutside L s u) :
    sameOutside L s (if p then t else u) := by
  split
  · exact h ‹_›
  · exact k ‹_›

theorem sameOutside_foldl {β : Type} {f : State → β → State} (hf : ∀ s b, sameOutside L s (f s b)) (q : List β) (s : State) :
    sameOutside L s (q.foldl f s) := by
  induction q generalizing s with
  | nil => exact sameOutside_refl s
  | cons b q ih => exact sameOutside_trans (hf s b) (ih _)

end

/-! ### Stores in one slot -/

section

variable {L : List Nat} {s : State} {slot : Nat}

theorem slotWrite_stores (h : slot ∈ L) (s : State) (off : Nat) (b : List Byte) : sameOutside L s (s.slotWrite slot off b) :=
  fun _ ha => slotWrite_outside s slot off b (ha slot h)

theorem slotSeal_stores (h : slot ∈ L) (s : State) : sameOutside L s (s.slotSeal slot) := slotWrite_stores h s _ _

theorem revalidateSlot_stores (h : slot ∈ L) (s : State) : sameOutside L s (revalidateSlot s slot).1 := by
  unfold revalidateSlot
  split
  · exact sameOutside_frame (State.setSlot_frame _ _ _) (by decide)
      (sameOutside_step (slotSeal_stores h _) (slotWrite_stores h s _ _))
  split
  · exact sameOutside_refl s
  · exact sameOutside_of_hbm (((raiseA_frame _ _ _).hbm (by decide)).trans ((State.setSlot_frame _ _ _).hbm (by decide)))

theorem mergeLatch_stores {l : Latch} (h : l.slot ∈ L) (s : State) : sameOutside L s (mergeLatch s l) := by
  unfold mergeLatch
  refine sameOutside_step (slotSeal_stores h _) ?_
  refine sameOutside_step (slotWrite_stores h _ _ _) (sameOutside_step (slotWrite_stores h _ _ _) ?_)
  refine sameOutside_step (slotWrite_stores h _ _ _) (sameOutside_step (sameOutside_foldl ?voas _ _) (sameOutside_foldl ?elems _ _))
  case voas => exact fun u _ => slotWrite_stores h u _ _
  case elems => exact fun u _ => slotWrite_stores h u _ _

theorem writeImage_stores (h : slot ∈ L) (s : State) (v routes : List Nat) : sameOutside L s (writeImage s slot v routes) :=
  sameOutside_step (slotSeal_stores h _) (slotWrite_stores h s _ _)

theorem placeRoute_stores (h : slot ∈ L) (s : State) (v : List Nat) (found : Option (List Nat)) :
    sameOutside L s (placeRoute s slot v found) := by
  cases found with
  | none => exact sameOutside_refl s
  | some r => exact sameOutside_frame (State.setSlot_frame _ _ _) (by decide) (writeImage_stores h s v r)

theorem routeDark_stores (h : slot ∈ L) (s : State) : sameOutside L s (routeDark s slot) := placeRoute_stores h s _ _

theorem unroute_stores {r : Route} (h : r.slot ∈ L) (s : State) : sameOutside L s (unroute s r) := by
  have hput : sameOutside L s (if r.hosted then s.slotWrite r.slot 0 (memRead slotBytes (slotBase r.slot) r.before) else s) :=
    sameOutside_ite (fun _ => slotWrite_stores h s _ _) fun _ => sameOutside_refl s
  unfold unroute
  extract_lets t
  have ht : sameOutside L s t := hput
  split
  · exact sameOutside_frame (State.setSlot_frame _ _ _) (by decide) ht
  · exact sameOutside_ite (fun _ => sameOutside_step (sameOutside_of_hbm rfl) ht)
      fun _ => sameOutside_frame (State.setSlot_frame _ _ _) (by decide) ht

end

/-! ### The end of a write-back -/

section

variable {L : List Nat} {s t : State} {slot : Nat}

theorem writingSlot_of_lib (h : t.lib.writing = s.lib.writing) : t.writingSlot = s.writingSlot := by
  rw [State.writingSlot, State.writingSlot, h]

theorem writingSlot_none (h : s.lib.writing = none) : s.writingSlot ⊆ L := by
  rw [State.writingSlot, h]
  exact List.nil_subset L

theorem mem_of_writing {l : Latch} (h : s.writingSlot ⊆ L) (hl : s.lib.writing = some l) : l.slot ∈ L := by
  refine h ?_
  rw [State.writingSlot, hl]
  exact List.mem_singleton_self _

theorem finishWriteBack_stores (h : s.writingSlot ⊆ L) : sameOutside L s (finishWriteBack s) := by
  unfold finishWriteBack
  cases hw : s.lib.writing with
  | none => exact sameOutside_refl s
  | some l =>
    have hl := mem_of_writing h hw
    refine sameOutside_ite (fun _ => ?_) fun _ => ?_
    · exact sameOutside_of_hbm ((invalidate_frame _ _ _).hbm (by decide))
    · refine sameOutside_frame (State.incSat_frame _ _ _ _) (by decide) (sameOutside_frame (State.setSlot_frame _ _ _) (by decide) ?_)
      exact mergeLatch_stores hl { s with lib := { s.lib with writing := none } }

/-- An operation that waits for a slot's write-back stores to that slot alone. -/
theorem awaitWriteBack_stores (h : slot ∈ L) (s : State) : sameOutside L s (awaitWriteBack s slot) := by
  unfold awaitWriteBack
  split
  · next l hl =>
    refine sameOutside_ite (fun hs => ?_) fun _ => sameOutside_refl s
    refine finishWriteBack_stores fun n hn => ?_
    rw [State.writingSlot, hl] at hn
    exact (List.mem_singleton.mp hn).trans hs ▸ h
  · exact sameOutside_refl s

theorem awaitWriteBack_of_writing (h : s.writingSlot ⊆ L) (slot : Nat) : sameOutside L s (awaitWriteBack s slot) := by
  unfold awaitWriteBack
  split
  · exact sameOutside_ite (fun _ => finishWriteBack_stores h) fun _ => sameOutside_refl s
  · exact sameOutside_refl s

theorem promoteWriteBack_stores (h : s.writingSlot ⊆ L) (hs : slot ∈ L) : sameOutside L s (promoteWriteBack s slot) := by
  unfold promoteWriteBack
  extract_lets t
  have ht : sameOutside L s t := finishWriteBack_stores h
  split
  · next l hl =>
    have hslot : l.slot = slot := by simpa using List.find?_some hl
    refine sameOutside_step (finishWriteBack_stores ?_) (sameOutside_frame (startWriteBack_frame t l) (by decide) ht)
    exact fun n hn => (List.mem_singleton.mp hn).trans hslot ▸ hs
  · exact ht

end

end Sys2Proof.Proofs

/-!
SUPPORT. The slots that requests, searches, routes, takeovers and reports of errors may store to.
-/

-- One proof at a time: side by side they ask for more threads than the memory limit of a check allows.
set_option Elab.async false

namespace Sys2Proof.Proofs

open Sys2Proof Sys2Proof.Machine Sys2Proof.Laws

/-! ### Requests -/

section

variable {L : List Nat} {s : State} {sess req addr sel : Nat} {v : Int}

theorem writingSlot_seen (s : State) (sess : Nat) : (seen s sess).writingSlot = s.writingSlot :=
  writingSlot_of_lib (congrArg (·.writing) ((seen_frame s sess).lib (by decide)))

/-- A request is carried out on the state in which its frame has been noted, if it is. -/
theorem request_stores {lane : Lane} {c : Instr} {carry : State → Nat → State}
    (hc : ∀ level, sameOutside L (seen s sess) (carry (seen s sess) level)) : sameOutside L s (request s sess req lane c carry) := by
  have hseen : sameOutside L s (seen s sess) := sameOutside_of_hbm ((seen_frame s sess).hbm (by decide))
  have hlast : ∀ {p : Prop} [Decidable p] (u : State), sameOutside L s u → sameOutside L s (if p then closeIfSpent u sess else u) :=
    fun u hu => sameOutside_ite (fun _ => sameOutside_frame (closeIfSpent_frame u sess) (by decide) hu) fun _ => hu
  unfold request
  cases hx : s.session sess with
  | none =>
    have hs : seen s sess = s := by rw [seen]; simp only [hx]
    refine sameOutside_ite (fun _ => sameOutside_ite (fun _ => sameOutside_of_hbm rfl) fun _ => ?_) fun _ => ?_
    · have hcarry := hc 1
      rw [hs] at hcarry
      exact hcarry
    · exact sameOutside_frame (dropSession_frame s) (by decide) (sameOutside_refl s)
  | some p =>
    obtain ⟨i, x⟩ := p
    have hs : seen s sess = s.setSession i { x with lastFrame := s.tick } := seen_eq_setSession hx
    rw [hs] at hseen hc
    have hcarried := fun level => sameOutside_step (hc level) hseen
    dsimp only
    split
    · exact hlast _ (sameOutside_frame (serveRetry_frame _ _ _ _) (by decide) hseen)
    · refine sameOutside_ite (fun _ => hseen) fun _ => sameOutside_ite (fun _ => hlast _ (hcarried _)) fun _ => ?_
      refine sameOutside_ite (fun _ => sameOutside_ite (fun _ => ?_) fun _ => ?_) fun _ => hlast _ (hcarried _)
      · exact sameOutside_frame (State.setSession_frame _ _ _) (by decide) hseen
      · exact hlast _ (sameOutside_frame (answerFrom_frame _ _ _ _ _ _ _ _) (by decide) hseen)

theorem conclude_stores {p : State × Verdict} (h : sameOutside L s p.1) : sameOutside L s (conclude sess req addr sel p) := by
  obtain ⟨t, w⟩ := p
  cases w with
  | ack => exact sameOutside_frame (answer_frame _ _ _ _ _ _) (by decide) h
  | nak => exact sameOutside_frame (answer_frame _ _ _ _ _ _) (by decide) h
  | owe => exact sameOutside_frame (State.owe_frame _ _ _ _ _ _) (by decide) h

theorem hostWrite_stores {eff : State → State × Verdict} (he : sameOutside L (seen s sess) (eff (seen s sess)).1) :
    sameOutside L s (hostWrite s sess addr sel v eff) := by
  refine request_stores fun level => conclude_stores ?_
  split
  · exact sameOutside_refl _
  · split
    · exact sameOutside_refl _
    · exact he

end

/-! ### Slots and routes -/

section

variable {L : List Nat} {s : State} {sess slot : Nat} {v : Int}

theorem effLoadSlot_stores (h : s.writingSlot ⊆ L) : sameOutside L s (effLoadSlot sess v s).1 := by
  have hwait : sameOutside L s (awaitWriteBack (s.setObj Obj.LOAD_SLOT 0 v) v.toNat) :=
    awaitWriteBack_of_writing (s := s.setObj Obj.LOAD_SLOT 0 v) h _
  unfold effLoadSlot
  extract_lets
  split
  · exact sameOutside_refl s
  · refine sameOutside_frame (openLoad_frame _ _ _) (by decide) (sameOutside_ite (fun _ => ?_) fun _ => hwait)
    exact sameOutside_frame (abandonLoad_frame _ _ _) (by decide) hwait

theorem effEraseSlot_stores (h : s.writingSlot ⊆ L) : sameOutside L s (effEraseSlot sess v s).1 := by
  unfold effEraseSlot
  extract_lets
  split
  · exact sameOutside_refl s
  · refine sameOutside_frame (State.setSlot_frame _ _ _) (by decide) (sameOutside_frame (State.dropLoads_frame _ _) (by decide) ?_)
    refine sameOutside_frame (discardRefinement_frame _ _) (by decide) ?_
    exact awaitWriteBack_of_writing (s := s.setObj Obj.ERASE_SLOT 0 v) h _

theorem effRevalidate_stores (h : v.toNat ∈ L) (s : State) : sameOutside L s (effRevalidate v s).1 := by
  have hwait := awaitWriteBack_stores h s
  unfold effRevalidate
  extract_lets slot t
  have hjudged : sameOutside L s (if t.slotBad slot then (invalidate t slot 8, Verdict.nak .memory)
      else ((revalidateSlot (t.setObj Obj.REVALIDATE 0 v) slot).1, .ack)).1 := by
    split
    · exact sameOutside_frame (invalidate_frame _ _ _) (by decide) hwait
    · have hset : sameOutside L s (t.setObj Obj.REVALIDATE 0 v) := sameOutside_frame (State.setObj_frame t _ _ _) (by decide) hwait
      generalize t.setObj Obj.REVALIDATE 0 v = u at hset ⊢
      dsimp only
      exact sameOutside_trans hset (revalidateSlot_stores h u)
  split
  · exact hjudged
  · exact hjudged
  · exact hwait

theorem startRoute_stores (h : s.writingSlot ⊆ L) (vector exclude : List Nat) :
    sameOutside L s (startRoute s sess slot vector exclude) := by
  have hwait := awaitWriteBack_of_writing h slot
  have hfree := sameOutside_frame (State.dropLoads_frame _ fun l => l.slot != slot) (by decide) <|
    sameOutside_frame (discardRefinement_frame _ slot) (by decide) (sameOutside_frame (atModeBoundary_frame _ 2) (by decide) hwait)
  have heq : (startRoute s sess slot vector exclude).hbm =
      ((discardRefinement (atModeBoundary (awaitWriteBack s slot) 2) slot).dropLoads fun l => l.slot != slot).hbm := by
    unfold startRoute
    extract_lets
    split
    · exact (raiseA_frame _ _ _).hbm (by decide)
    · rfl
  exact sameOutside_step (sameOutside_of_hbm heq) hfree

theorem effRouteApply_stores (h : s.writingSlot ⊆ L) : sameOutside L s (effRouteApply sess s).1 := by
  have htaken : Frame [.objs, .octs, .staged, .stagedOcts] s (takeRequest (s.incWrap Obj.ROUTE_SEQ 0)) :=
    .step (takeRequest_frame _) (by decide) (.step (State.incWrap_frame s _ _) (by decide) (.refl s))
  unfold effRouteApply
  extract_lets slot v other u
  have hput : sameOutside L s u := sameOutside_of_hbm (htaken.hbm (by decide))
  have hu : u.writingSlot ⊆ L := by
    rwa [writingSlot_of_lib (congrArg (·.writing) (htaken.lib (by decide)))]
  clear_value u
  split
  · exact sameOutside_refl s
  split
  · exact sameOutside_refl s
  split
  · exact sameOutside_of_hbm (((endRoute_frame _ _ _ _).hbm (by decide)).trans ((State.incWrap_frame s _ _).hbm (by decide)))
  split
  · exact sameOutside_refl s
  · exact sameOutside_trans hput (startRoute_stores hu v _)

theorem findFirst_stores {q : List Nat} (h : q ⊆ L) (s : State) : sameOutside L s (findFirst s q) := by
  induction q generalizing s with
  | nil => exact sameOutside_refl s
  | cons slot q ih =>
    obtain ⟨hslot, hrest⟩ := List.cons_subset.mp h
    have hfirst : sameOutside L s (if s.slotFaultGen slot = s.objN Obj.FAULT_GEN 0 then (s, true) else revalidateSlot s slot).1 := by
      split
      · exact sameOutside_refl s
      · exact revalidateSlot_stores hslot s
    unfold findFirst
    generalize (if s.slotFaultGen slot = s.objN Obj.FAULT_GEN 0 then (s, true) else revalidateSlot s slot) = p at hfirst ⊢
    obtain ⟨t, ok⟩ := p
    exact sameOutside_ite (fun _ => sameOutside_step (sameOutside_of_hbm rfl) hfirst) fun _ => sameOutside_trans hfirst (ih hrest t)

end

/-! ### PREPARE -/

section

variable {L : List Nat} {s : State} {slot : Nat}

theorem finishWriteBack_writes (s : State) : (finishWriteBack s).lib.writing = none := by
  unfold finishWriteBack
  cases hw : s.lib.writing with
  | none => exact hw
  | some l =>
    dsimp only
    split
    · exact congrArg (·.writing) ((raiseA_frame (({ s with lib := { s.lib with writing := none } } : State).setSlot l.slot .invalid) _ _).lib (by decide))
    · exact congrArg (·.writing) ((mergeLatch_frame { s with lib := { s.lib with writing := none } } l).lib (by decide))

theorem awaitWriteBack_writing (h : s.writingSlot ⊆ L) (slot : Nat) : (awaitWriteBack s slot).writingSlot ⊆ L := by
  unfold awaitWriteBack
  split
  · split
    · exact writingSlot_none (finishWriteBack_writes s)
    · exact h
  · exact h

theorem revalidateSlot_writing (s : State) (slot : Nat) : (revalidateSlot s slot).1.writingSlot = s.writingSlot := by
  unfold revalidateSlot
  split
  · rfl
  split
  · rfl
  · exact writingSlot_of_lib (congrArg (·.writing) ((raiseA_frame _ _ _).lib (by decide)))

theorem prepareCurrent_stores (h : s.writingSlot ⊆ L) (hs : slot ∈ L) :
    (prepareCurrent s slot).1.writingSlot ⊆ L ∧ sameOutside L s (prepareCurrent s slot).1 := by
  have hwait := awaitWriteBack_stores hs s
  have hw := awaitWriteBack_writing h slot
  unfold prepareCurrent
  extract_lets t
  split
  · exact ⟨hw, hwait⟩
  · exact ⟨by rwa [revalidateSlot_writing], sameOutside_step (revalidateSlot_stores hs t) hwait⟩

theorem prepareFetch_stores (h : s.writingSlot ⊆ L) (hs : slot ∈ L) : sameOutside L s (prepareFetch s slot).1 := by
  have hdone := promoteWriteBack_stores h hs
  unfold prepareFetch
  extract_lets t
  split
  · exact sameOutside_ite (fun _ => hdone) fun _ => sameOutside_frame (invalidate_frame _ _ _) (by decide) hdone
  split
  · exact sameOutside_frame (invalidate_frame _ _ _) (by decide) hdone
  · exact hdone

theorem prepareOp_stores (h : s.writingSlot ⊆ L) (hs : slot ∈ L) (sess req id flags : Nat) :
    sameOutside L s (prepareOp s sess req id slot flags) := by
  have hlib : (adaptBoundary s).writingSlot ⊆ L := by
    rwa [writingSlot_of_lib (congrArg (·.writing) ((adaptBoundary_frame s).lib (by decide)))]
  have hadapt : sameOutside L s (adaptBoundary s) := sameOutside_of_hbm ((adaptBoundary_frame s).hbm (by decide))
  obtain ⟨hw, hcurrent⟩ := prepareCurrent_stores hlib hs
  have hrefused : ∀ u n, sameOutside L s u → sameOutside L s (answerCommit u sess req (.nak n 0 id)) :=
    fun u n hu => sameOutside_frame (answerCommit_frame _ _ _ _) (by decide) hu
  unfold prepareOp
  extract_lets t refuse
  have ht := sameOutside_trans hadapt hcurrent
  split
  · exact hrefused _ _ hadapt
  · split
    next u ok hu =>
    have hut : (prepareCurrent t slot).1 = u := congrArg Prod.fst hu
    rw [hut] at ht hw
    have hfetch := sameOutside_trans ht (prepareFetch_stores hw hs)
    refine sameOutside_ite (fun _ => hrefused _ _ ht) fun _ => ?_
    split
    · next w n hn =>
      rw [hn] at hfetch
      exact hrefused _ _ hfetch
    · next w hn =>
      rw [hn] at hfetch
      exact sameOutside_frame (prepareGrant_frame _ _) (by decide) hfetch

end

end Sys2Proof.Proofs

/-!
SUPPORT. A predicate that a chain of operations keeps while all its stores stay in given slots; the slot of the write-back that
runs and the slots of the live commits are kept so by what takeovers and changes of the fault map do.
-/

-- One proof at a time: side by side they ask for more threads than the memory limit of a check allows.
set_option Elab.async false

namespace Sys2Proof.Proofs

open Sys2Proof Sys2Proof.Machine Sys2Proof.Laws

/-! ### The relation -/

/-- Where the predicate holds before, it holds after, and every store between is in these slots. -/
def Keeps (P : State → Prop) (L : List Nat) (s t : State) : Prop := P s → P t ∧ sameOutside L s t

section

variable {P : State → Prop} {L : List Nat} {s t u : State}

theorem Keeps.refl (s : State) : Keeps P L s s := fun h => ⟨h, sameOutside_refl s⟩

theorem Keeps.trans (h : Keeps P L s t) (k : Keeps P L t u) : Keeps P L s u := fun hs =>
  ⟨(k (h hs).1).1, sameOutside_trans (h hs).2 (k (h hs).1).2⟩

theorem Keeps.step (k : Keeps P L t u) (h : Keeps P L s t) : Keeps P L s u := h.trans k

theorem Keeps.ite {p : Prop} [Decidable p] (h : Keeps P L s t) (k : Keeps P L s u) : Keeps P L s (if p then t else u) := by
  split <;> assumption

theorem Keeps.foldl {β : Type} {f : State → β → State} {q : List β} (hf : ∀ s, ∀ b ∈ q, Keeps P L s (f s b)) (h : Keeps P L s t) :
    Keeps P L s (q.foldl f t) := by
  induction q generalizing t with
  | nil => exact h
  | cons b q ih => exact ih (fun s c hc => hf s c (List.mem_cons_of_mem _ hc)) (h.trans (hf t b (List.mem_cons_self ..)))

/-- Through a pair taken apart. -/
theorem Keeps.fst {α : Type} {p : State × α} {a : α} (e : p = (t, a)) (h : Keeps P L s p.1) : Keeps P L s t := by
  subst e; exact h

/-- Through an operation that stores nothing and keeps the predicate. -/
theorem Keeps.through (hP : P t → P u) (hm : t.hbm = u.hbm) (h : Keeps P L s t) : Keeps P L s u :=
  h.trans fun ht => ⟨hP ht, sameOutside_of_hbm hm.symm⟩

end

/-! ### The write-back that runs -/

/-- The slot whose write-back runs, if one does, is one of these. -/
def WritesIn (L : List Nat) (s : State) : Prop := s.writingSlot ⊆ L

section

variable {L : List Nat} {s t u : State} {m : List Comp}

theorem WritesIn.of_writing (h : t.lib.writing = s.lib.writing) (hs : WritesIn L s) : WritesIn L t := by
  rwa [WritesIn, writingSlot_of_lib h]

theorem Keeps.writing (k : Frame m t u) (hm : m.contains .hbm = false) (hl : m.contains .lib = false) (h : Keeps (WritesIn L) L s t) :
    Keeps (WritesIn L) L s u :=
  h.through (.of_writing (congrArg (·.writing) (k.lib hl))) (k.hbm hm).symm

theorem cutWriteBack_stores (h : WritesIn L s) (beats : Option Nat) : sameOutside L s (cutWriteBack s beats) := by
  unfold cutWriteBack
  cases hw : s.lib.writing with
  | none => exact sameOutside_refl s
  | some l =>
    have hl : l.slot ∈ L := mem_of_writing h hw
    have hfresh : sameOutside L s s.fresh.2 := sameOutside_of_hbm ((State.fresh_frame s).hbm (by decide))
    have hstored : ∀ b, sameOutside L s
        (({ s.fresh.2 with lib := { s.fresh.2.lib with writing := none } } : State).slotWrite l.slot 0 b) := fun b =>
      sameOutside_trans hfresh (slotWrite_stores hl _ 0 b)
    dsimp only
    refine sameOutside_ite (fun _ => ?_) fun _ => ?_
    · exact sameOutside_frame (State.setSlot_frame _ _ _) (by decide) (hstored _)
    · exact sameOutside_frame (invalidate_frame _ _ _) (by decide) (hstored _)

theorem loseLocal_stores (h : WritesIn L s) : sameOutside L s (loseLocal s) := by
  unfold loseLocal
  extract_lets s1 s2 adapt cal s3 lib s4 s5
  have hlib : s4.lib.writing = s.lib.writing :=
    (congrArg (·.writing) ((returnBack_frame s1 true).lib (by decide)) :).trans (congrArg (·.writing) ((abortCal_frame s 2).lib (by decide)))
  have hbefore : sameOutside L s s4 :=
    sameOutside_of_hbm (((returnBack_frame s1 true).hbm (by decide) :).trans ((abortCal_frame s 2).hbm (by decide)))
  have hcut : sameOutside L s s5 := sameOutside_trans hbefore (cutWriteBack_stores (h.of_writing hlib) none)
  split
  · refine sameOutside_frame (endRoute_frame _ _ _ _) (by decide) (sameOutside_frame (State.setSlot_frame _ _ _) (by decide) ?_)
    exact sameOutside_frame (State.dropLoads_frame s5 _) (by decide) hcut
  · exact hcut

theorem loseLocal_after (k : Keeps (WritesIn L) L s t) (h : WritesIn L s) : sameOutside L s (loseLocal t) :=
  sameOutside_trans (k h).2 (loseLocal_stores (k h).1)

theorem dealWithOther_writes (s : State) (o : Nat) : Keeps (WritesIn L) L s (dealWithOther s o) :=
  .writing (dealWithOther_frame s o) (by decide) (by decide) (.refl s)

theorem becomeActive_writes (s : State) (l : Nat) : Keeps (WritesIn L) L s (becomeActive s l) :=
  .writing (becomeActive_frame s l) (by decide) (by decide) (.refl s)

theorem takenUp_writes (s : State) (fromSync : Bool) : Keeps (WritesIn L) L s (takenUp s fromSync) := by
  unfold takenUp
  split
  · refine .writing (restoreSessions_frame _ _) (by decide) (by decide) (.writing (restoreFuncs_frame _ _) (by decide) (by decide) ?_)
    exact .ite (.writing (restartLoops_frame s) (by decide) (by decide) (.refl s)) (.writing (reconcileAll_frame s _) (by decide) (by decide) (.refl s))
  · exact .writing (restartLoops_frame s) (by decide) (by decide) (.refl s)

theorem takenOver_stores (h : WritesIn L s) (fromSync : Bool) : sameOutside L s (takenOver s fromSync) := by
  refine sameOutside_frame (settleCommits_frame _) (by decide) (sameOutside_frame (advanceSeqs_frame _) (by decide) ?_)
  exact sameOutside_frame (freshDeadlines_frame _) (by decide) (loseLocal_after (takenUp_writes s fromSync) h)

theorem takeOver_stores (h : WritesIn L s) (l cause : Nat) : sameOutside L s (takeOver s l cause) := by
  obtain ⟨hin, hbefore⟩ := (becomeActive_writes (dealWithOther s (1 - l)) l).step (dealWithOther_writes s _) h
  have htaken := sameOutside_trans hbefore (takenOver_stores hin (decide ((s.lobe l).role = .syncing)))
  rw [takeOver_eq]
  unfold takeoverNoted
  refine sameOutside_frame (endRollBack_frame _) (by decide) (sameOutside_frame (raiseA_frame _ _ _) (by decide) ?_)
  exact sameOutside_frame (noteTakeover_frame _ _ _) (by decide) (sameOutside_frame (State.incSat_frame _ _ _ _) (by decide) htaken)

theorem loseBoth_stores (h : WritesIn L s) : sameOutside L s (loseBoth s) := by
  have hlost : sameOutside L s (loseLocal (loseRequests s)) :=
    loseLocal_after (.writing (loseRequests_frame s) (by decide) (by decide) (.refl s)) h
  exact hlost

theorem startFirst_stores (h : WritesIn L s) (l : Nat) : sameOutside L s (startFirst s l) := by
  have hdealt : Keeps (WritesIn L) L s (if (s.lobe (1 - l)).role = .active then dealWithOther s (1 - l) else s) :=
    .ite (dealWithOther_writes s _) (.refl s)
  obtain ⟨hin, hactive⟩ := (becomeActive_writes _ l).step hdealt h
  unfold startFirst
  extract_lets u v
  have hlost : sameOutside L s (advanceSeqs (loseBoth v)) :=
    sameOutside_frame (advanceSeqs_frame _) (by decide) (sameOutside_trans hactive (loseBoth_stores hin))
  have hfault := sameOutside_frame (State.fault_frame (advanceSeqs (loseBoth v)) .noPredecessor) (by decide) hlost
  have hsafe := sameOutside_frame (enterSafe_frame ((advanceSeqs (loseBoth v)).fault .noPredecessor)) (by decide) hfault
  split
  · exact sameOutside_frame (State.enter_frame v _) (by decide) hactive
  · exact hsafe
  · exact hsafe
  · exact hsafe
  · exact sameOutside_frame (safeAll_frame _) (by decide) hfault
  · exact hlost

theorem swapBegun_writes (s : State) (a b : Nat) : Keeps (WritesIn L) L s (becomeActive (swapLowered (swapClaimed s b) a) b) := by
  refine .step (becomeActive_writes _ b) (.writing (State.setLobe_frame _ a _) (by decide) (by decide) ?_)
  refine .writing (setRole_frame _ a .standby) (by decide) (by decide) (.writing (broadcast_frame _ b) (by decide) (by decide) ?_)
  exact .writing (takeClaim_frame s b 4) (by decide) (by decide) (.refl s)

theorem swapRestored_stores (h : WritesIn L s) (forced : Bool) : sameOutside L s (swapRestored s forced) := by
  have hcopy : Keeps (WritesIn L) L s (match s.lobes.snap with | some x => restoreSessions (reconcileAll s x) x | none => s) := by
    split
    · refine .writing (restoreSessions_frame _ _) (by decide) (by decide) ?_
      exact .writing (reconcileAll_frame s _) (by decide) (by decide) (.refl s)
    · exact .refl s
  exact sameOutside_ite (fun _ => loseLocal_after hcopy h) fun _ => (hcopy h).2

theorem swapMarked_hbm (u : State) (b : Nat) : (swapMarked u b).hbm = u.hbm := rfl

theorem swapNoted_hbm (s : State) (b hold : Nat) : (swapNoted s b hold).hbm = s.hbm := by
  unfold swapNoted
  rw [swapMarked_hbm, (noteTakeover_frame _ _ _).hbm (by decide), (advanceSeqs_frame s).hbm (by decide)]

theorem swapRoles_idle (h : s.active = none ∨ s.standby = none) (forced : Bool) : swapRoles s forced = s := by
  unfold swapRoles
  split
  next a b ha hb => rcases h with h | h <;> simp_all only [reduceCtorEq]
  next => rfl

theorem swapRoles_stores (h : WritesIn L s) (forced : Bool) : sameOutside L s (swapRoles s forced) := by
  cases ha : s.active with
  | none => rw [swapRoles_idle (.inl ha)]; exact sameOutside_refl s
  | some a =>
    cases hb : s.standby with
    | none => rw [swapRoles_idle (.inr hb)]; exact sameOutside_refl s
    | some b =>
      rw [swapRoles_eq ha hb]
      obtain ⟨hin, hbegun⟩ := swapBegun_writes s a b h
      have hrestored := sameOutside_trans hbegun (swapRestored_stores hin forced)
      exact sameOutside_step (sameOutside_of_hbm (swapNoted_hbm _ b _)) hrestored

theorem slotError_stores (h : WritesIn L s) (slot initiator : Nat) : sameOutside L s (slotError s slot initiator) := by
  unfold slotError
  refine sameOutside_ite (fun _ => sameOutside_refl s) fun _ => sameOutside_ite (fun _ => sameOutside_of_hbm rfl) fun _ => ?_
  refine sameOutside_ite (fun _ => finishWriteBack_stores h) fun _ => sameOutside_ite (fun _ => sameOutside_refl s) fun _ => ?_
  exact sameOutside_frame (invalidate_frame _ _ _) (by decide) (sameOutside_refl s)

theorem hbmError_stores (h : WritesIn L s) (addr initiator : Nat) : sameOutside L s (hbmError s addr initiator) := by
  unfold hbmError
  extract_lets word region s1 s2 mat mark
  have h1 : Keeps (WritesIn L) L s s1 :=
    .writing (State.setObjN_frame _ _ _ _) (by decide) (by decide) (.writing (State.incSat_frame s _ _ _) (by decide) (by decide) (.refl s))
  obtain ⟨hin, h2⟩ : WritesIn L s2 ∧ sameOutside L s s2 := h1.writing (raiseS_frame s1 _ _) (by decide) (by decide) h
  have hmark : WritesIn L mark ∧ sameOutside L s mark := ⟨hin, h2⟩
  clear_value mark s2 region
  split
  · exact sameOutside_trans hmark.2 (slotError_stores hmark.1 _ _)
  · exact hmark.2
  · exact sameOutside_frame (pageReload_frame _ _) (by decide) h2
  · exact hmark.2
  · exact sameOutside_frame (yieldLobe_frame _ _ _) (by decide) h2

theorem endBurst_stores (h : WritesIn L s) (i t written abandoned : Nat) : sameOutside L s (endBurst s i t written abandoned) := by
  unfold endBurst
  refine sameOutside_ite (fun _ => ?_) fun _ => sameOutside_of_hbm ((initEnd_frame s _ _).hbm (by decide))
  have hended : Keeps (WritesIn L) L s (abortBurst (initEnd s i 2) i t written abandoned 2) :=
    .writing (abortBurst_frame _ _ _ _ _ _) (by decide) (by decide) (.writing (initEnd_frame s _ _) (by decide) (by decide) (.refl s))
  obtain ⟨hin, hbefore⟩ := hended h
  exact sameOutside_trans hbefore (cutWriteBack_stores hin _)

end

/-! ### Commits revalidated -/

/-- The slots of the live commits are among these. -/
def LiveIn (L : List Nat) (s : State) : Prop := s.com.live.map (·.slot) ⊆ L

section

variable {L : List Nat} {s t u : State} {m : List Comp}

theorem Keeps.live (k : Frame m t u) (hm : m.contains .hbm = false) (hc : m.contains .com = false) (h : Keeps (LiveIn L) L s t) :
    Keeps (LiveIn L) L s u :=
  h.through (fun ht => by rwa [LiveIn, k.com hc]) (k.hbm hm).symm

theorem LiveIn.slot {c : Commit} (h : LiveIn L s) (hc : c ∈ s.com.live) : c.slot ∈ L := h (List.mem_map_of_mem hc)

theorem abandon_live_mem {c d : Commit} {why : Outc} (h : d ∈ (abandon s c why).com.live) : d ∈ s.com.live := by
  rw [abandon_com, abandonNoted_live] at h
  exact List.mem_of_mem_filter h

theorem abandon_keeps (s : State) (c : Commit) (why : Outc) : Keeps (LiveIn L) L s (abandon s c why) := by
  refine Keeps.through (fun h => ?_) ((abandon_frame s c why).hbm (by decide)).symm (.refl s)
  intro n hn
  obtain ⟨d, hd, rfl⟩ := List.mem_map.mp hn
  exact h.slot (abandon_live_mem hd)

theorem revalidateSlot_com (s : State) (slot : Nat) : (revalidateSlot s slot).1.com = s.com :=
  (Frame.of1 (revalidateSlot_frame s slot)).com (by decide)

theorem revalidateImage_keeps {c : Commit} (hc : c.slot ∈ L) (s : State) : Keeps (LiveIn L) L s (revalidateImage s c).1 := by
  have hslot : Keeps (LiveIn L) L s (revalidateSlot s c.slot).1 := fun h =>
    ⟨by rwa [LiveIn, revalidateSlot_com], revalidateSlot_stores hc s⟩
  unfold revalidateImage
  split
  · exact hslot
  · exact hslot
  · exact .refl s

theorem mem_insertByT {c d : Commit} {q : List Commit} (h : d ∈ insertByT c q) : d = c ∨ d ∈ q := by
  induction q with
  | nil => exact .inl (List.mem_singleton.mp h)
  | cons e q ih =>
    unfold insertByT at h
    split at h
    · exact List.mem_cons.mp h
    · rcases List.mem_cons.mp h with rfl | hd
      · exact .inr (List.mem_cons_self ..)
      · exact (ih hd).imp_right (List.mem_cons_of_mem e)

theorem mem_foldr_insertByT {c : Commit} {q : List Commit} (h : c ∈ q.foldr insertByT []) : c ∈ q := by
  induction q with
  | nil => exact h
  | cons d q ih => exact List.mem_cons.mpr ((mem_insertByT h).imp_right ih)

theorem revalidateCommits_keeps (s : State) : Keeps (LiveIn L) L s (revalidateCommits s) := by
  intro h
  have htodo : ∀ c ∈ s.armedQueue ++ s.com.live.filter (fun c => c.state == .prepared), c.slot ∈ L := fun c hc => by
    refine h.slot ((List.mem_append.mp hc).elim (fun ha => ?_) fun hp => List.mem_of_mem_filter hp)
    exact List.mem_of_mem_filter (mem_foldr_insertByT ha)
  unfold revalidateCommits
  refine Keeps.foldl (fun u c hc => ?_) (.refl s) h
  split
  next v ok hv =>
  have himage := Keeps.fst hv (revalidateImage_keeps (htodo c hc) u)
  exact .ite (.step (abandon_keeps v c .stale) himage) himage

theorem mapChanged_keeps (s : State) (bump : Bool) : Keeps (LiveIn L) L s (mapChanged s bump) := by
  unfold mapChanged
  refine .live (autoStore_frame _ _) (by decide) (by decide) (.step (revalidateCommits_keeps _) ?_)
  exact .ite (.live (State.setObjN_frame s _ _ _) (by decide) (by decide) (.refl s)) (.refl s)

theorem reportFault_keeps (s : State) (e bits : Nat) : Keeps (LiveIn L) L s (reportFault s e bits) := by
  unfold reportFault
  extract_lets k old s1 s2 s3 bump fab s4
  have h1 : Keeps (LiveIn L) L s s1 := .live (State.setObjN_frame s _ _ _) (by decide) (by decide) (.refl s)
  clear_value s1
  have h2 : Keeps (LiveIn L) L s s2 := .ite (.live (State.setObjN_frame s1 _ _ _) (by decide) (by decide) h1) h1
  clear_value s2
  have h3 : Keeps (LiveIn L) L s s3 := .live (followCell_frame _ _) (by decide) (by decide)
    (.ite h2 (.live (voidStaged_frame s2 _) (by decide) (by decide) h2))
  have h4 : Keeps (LiveIn L) L s ({ s3 with fab := fab } : State) := h3
  clear_value s3
  exact .live (raiseA_frame s4 _ _) (by decide) (by decide) (.step (mapChanged_keeps _ bump) h4)

theorem applyFaults_keeps (s : State) : Keeps (LiveIn L) L s (applyFaults s) := by
  unfold applyFaults
  extract_lets keep voids fab s0 s1 s2 changed s3
  have h1 : Keeps (LiveIn L) L s s1 :=
    .live (discardEvents_frame _ _) (by decide) (by decide) (.live (State.incSat_frame s0 _ _ _) (by decide) (by decide) (.refl s))
  have h2 : Keeps (LiveIn L) L s s2 :=
    .foldl (fun u _ _ => .live (State.setObj_frame u _ _ _) (by decide) (by decide) (.refl u)) h1
  refine .ite h2 (.live (raiseA_frame _ _ _) (by decide) (by decide) (.step (mapChanged_keeps _ _) ?_))
  exact .foldl (fun u _ _ => .live (followCell_frame u _) (by decide) (by decide) (.refl u)) h2

theorem loseLane_keeps (s : State) (b lane u : Nat) (load : Bool) : Keeps (LiveIn L) L s (loseLane s b lane u load) := by
  unfold loseLane
  extract_lets c s1 s2 s3
  have h3 : Keeps (LiveIn L) L s s3 := .live (raiseA_frame _ _ _) (by decide) (by decide)
    (.live (State.incSat_frame _ _ _ _) (by decide) (by decide) (.live (State.setChan_frame s _ _) (by decide) (by decide) (.refl s)))
  exact .ite (.step (reportFault_keeps s3 _ _) h3) (.ite (.step (reportFault_keeps s3 _ _) h3)
    (.live (disableVoa_frame s3 _) (by decide) (by decide) h3))

theorem laneFails_keeps (s : State) (b lane u sensed : Nat) : Keeps (LiveIn L) L s (laneFails s b lane u sensed) := by
  unfold laneFails
  refine .ite (.live (raiseA_frame _ _ _) (by decide) (by decide) (.live (State.setChan_frame s _ _) (by decide) (by decide) (.refl s))) ?_
  have hfailed : Keeps (LiveIn L) L s
      ((calLaneFault s b lane).setChan u { (calLaneFault s b lane).chan u with laneFailed := true, fails := 0 }) :=
    .live (State.setChan_frame _ _ _) (by decide) (by decide) (.live (calLaneFault_frame s _ _) (by decide) (by decide) (.refl s))
  dsimp only
  split
  · exact .live (loadSpare_frame _ _ _ _) (by decide) (by decide) hfailed
  · exact .step (loseLane_keeps _ _ _ _ _) hfailed

theorem senseLane_keeps (s : State) (b lane sensed : Nat) : Keeps (LiveIn L) L s (senseLane s b lane sensed) := by
  have hset : ∀ u x, Keeps (LiveIn L) L s (s.setChan u x) := fun u x => .live (State.setChan_frame s u x) (by decide) (by decide) (.refl s)
  unfold senseLane
  exact .ite (.refl s) (.ite (hset _ _) (.ite (.ite (.step (laneFails_keeps _ _ _ _ _) (hset _ _)) (hset _ _)) (hset _ _)))

theorem loadFails_keeps (s : State) (b lane k : Nat) : Keeps (LiveIn L) L s (loadFails s b lane k) := by
  unfold loadFails
  extract_lets u s1 s2 s3 s4
  have h1 : Keeps (LiveIn L) L s s1 := .ite (.live (mapDue_frame s) (by decide) (by decide) (.refl s)) (.refl s)
  have h2 : Keeps (LiveIn L) L s s2 := .ite (.live (laneHome_frame s1 _) (by decide) (by decide) h1)
    (.ite (.live (abortCal_frame s1 3) (by decide) (by decide) h1) h1)
  refine .step (loseLane_keeps _ _ _ _ _) (.live (forceCode_frame _ _ _) (by decide) (by decide) ?_)
  exact .live (State.setChan_frame s3 _ _) (by decide) (by decide) (.live (State.setBank_frame s2 _ _) (by decide) (by decide) h2)

theorem senseSpare_keeps (s : State) (b k sensed : Nat) : Keeps (LiveIn L) L s (senseSpare s b k sensed) := by
  have hchan : ∀ u n x, Keeps (LiveIn L) L s u → Keeps (LiveIn L) L s (u.setChan n x) :=
    fun u n x => .live (State.setChan_frame u n x) (by decide) (by decide)
  have hbank : ∀ u n x, Keeps (LiveIn L) L s u → Keeps (LiveIn L) L s (u.setBank n x) :=
    fun u n x => .live (State.setBank_frame u n x) (by decide) (by decide)
  unfold senseSpare
  extract_lets x kind
  split
  · exact .refl s
  · refine .ite (.refl s) (.ite (hchan _ _ _ (.refl s)) (.ite (.ite ?_ ?_) ?_))
    · exact .step (loadFails_keeps _ _ _ _) (hchan _ _ _ (hchan _ _ _ (.refl s)))
    · exact hbank _ _ _ (hchan _ _ _ (hchan _ _ _ (.refl s)))
    · exact .live (sparePasses_frame _ _ _ _) (by decide) (by decide) (hbank _ _ _ (hchan _ _ _ (.refl s)))
  · refine .ite (.refl s) (.ite (.ite ?_ (hbank _ _ _ (.refl s))) (hbank _ _ _ (.refl s)))
    exact .live (raiseA_frame _ _ _) (by decide) (by decide) (.live (mapDue_frame _) (by decide) (by decide) (hbank _ _ _ (.refl s)))

theorem loseConv_keeps (s : State) (cv : Nat) (standing : Bool) : Keeps (LiveIn L) L s (loseConv s cv standing) := by
  unfold loseConv
  refine .foldl (fun u _ _ => ?_) (.live (raiseA_frame _ _ _) (by decide) (by decide)
    (.live (State.setConv_frame s _ _) (by decide) (by decide) (.refl s)))
  exact .ite (.ite (reportFault_keeps u _ _) (.refl u)) (.ite (.refl u) (.live (disableVoa_frame u _) (by decide) (by decide) (.refl u)))

theorem convFails_keeps (s : State) (cv : Nat) : Keeps (LiveIn L) L s (convFails s cv) := by
  have hcal : Keeps (LiveIn L) L s (calConvFault s cv) := .live (calConvFault_frame s cv) (by decide) (by decide) (.refl s)
  unfold convFails
  exact .ite (.step (loseConv_keeps _ _ _) hcal) (.ite (.live (State.setConv_frame _ _ _) (by decide) (by decide) hcal)
    (.step (loseConv_keeps _ _ _) hcal))

theorem judgeCheck_keeps (s : State) (cv code : Nat) : Keeps (LiveIn L) L s (judgeCheck s cv code) := by
  have hset : Keeps (LiveIn L) L s (s.setObjN Obj.CHECK_CODE cv code) := .live (State.setObjN_frame s _ _ _) (by decide) (by decide) (.refl s)
  have hconv : ∀ x, Keeps (LiveIn L) L s ((s.setObjN Obj.CHECK_CODE cv code).setConv cv x) :=
    fun x => .live (State.setConv_frame _ _ _) (by decide) (by decide) hset
  unfold judgeCheck
  exact .ite hset (.ite (.ite (.step (convFails_keeps _ _) (hconv _)) (hconv _)) (hconv _))

theorem convCheck_keeps (s : State) (cv code : Nat) : Keeps (LiveIn L) L s (convCheck s cv code) := by
  have hconv : ∀ x, Keeps (LiveIn L) L s (s.setConv cv x) := fun x => .live (State.setConv_frame s _ _) (by decide) (by decide) (.refl s)
  unfold convCheck
  refine .ite (.refl s) (.ite (hconv _) (.ite (.refl s) (.ite (.step (judgeCheck_keeps _ _ _) ?_) (.ite (hconv _) (hconv _)))))
  exact .live (State.setObjN_frame _ _ _ _) (by decide) (by decide) (.live (State.setConv_frame _ _ _) (by decide) (by decide)
    (.live (State.setMonBank_frame s _ _) (by decide) (by decide) (.refl s)))

end

end Sys2Proof.Proofs

/-!
SUPPORT. What names the slots of a later store stays within given slots: PARK_SLOT, the write-back that runs, and the open loads. The
operations by which a write takes effect keep it so, and their own stores stay in those slots.
-/

-- One proof at a time: side by side they ask for more threads than the memory limit of a check allows.
set_option Elab.async false

namespace Sys2Proof.Proofs

open Sys2Proof Sys2Proof.Machine Sys2Proof.Laws

/-- PARK_SLOT and the slot whose write-back runs are among the first slots, those of the sessions' loads among the second. -/
structure SlotsIn (L K : List Nat) (s : State) : Prop where
  park : s.objN Obj.PARK_SLOT 0 ∈ L
  writing : WritesIn L s
  loads : ∀ l ∈ s.lib.loads, l.session.isSome = true → l.slot ∈ K

/-- What names slots stays within them, and so does every store. -/
def Confined (L K : List Nat) (s t : State) : Prop := Keeps (SlotsIn L K) L s t

/-- The same of an operation that answers something beside the state. -/
def Confined1 {α : Type} (L K : List Nat) (s : State) (p : State × α) : Prop := Confined L K s p.1

section

variable {L K : List Nat} {s t u : State} {m : List Comp}

theorem Confined.refl (s : State) : Confined L K s s := Keeps.refl s

theorem Confined.trans (h : Confined L K s t) (k : Confined L K t u) : Confined L K s u := Keeps.trans h k

/-- Through one more operation. -/
theorem Confined.step (k : Confined L K t u) (h : Confined L K s t) : Confined L K s u := Keeps.trans h k

theorem Confined.ite {p : Prop} [Decidable p] (h : Confined L K s t) (k : Confined L K s u) : Confined L K s (if p then t else u) :=
  Keeps.ite h k

theorem Confined.foldl {β : Type} {f : State → β → State} {q : List β} (hf : ∀ s b, Confined L K s (f s b)) (h : Confined L K s t) :
    Confined L K s (q.foldl f t) := Keeps.foldl (fun s b _ => hf s b) h

theorem Confined.foldlMem {β : Type} {f : State → β → State} {q : List β} (hf : ∀ s, ∀ b ∈ q, Confined L K s (f s b))
    (h : Confined L K s t) : Confined L K s (q.foldl f t) := Keeps.foldl hf h

/-- Through a pair taken apart. -/
theorem Confined.fst {α : Type} {p : State × α} {a : α} (e : p = (t, a)) (h : Confined1 L K s p) : Confined L K s t := Keeps.fst e h

theorem Confined.of1 {α : Type} {p : State × α} (h : Confined1 L K s p) : Confined L K s p.1 := h

theorem Confined1.pair {α : Type} {a : α} (h : Confined L K s t) : Confined1 L K s (t, a) := h

theorem Confined1.step {α : Type} {p : State × α} (k : Confined1 L K t p) (h : Confined L K s t) : Confined1 L K s p := Confined.trans h k

theorem Confined1.ite {α : Type} {p : Prop} [Decidable p] {x y : State × α} (h : Confined1 L K s x) (k : Confined1 L K s y) :
    Confined1 L K s (if p then x else y) := by
  split <;> assumption

/-- Through an operation that leaves PARK_SLOT and the library as they are and stores nothing. -/
theorem Confined.through (hp : u.objN Obj.PARK_SLOT 0 = t.objN Obj.PARK_SLOT 0) (hl : u.lib = t.lib) (hm : u.hbm = t.hbm)
    (h : Confined L K s t) : Confined L K s u :=
  Keeps.through (fun ht => ⟨hp ▸ ht.park, .of_writing (congrArg (·.writing) hl) ht.writing, hl ▸ ht.loads⟩) hm.symm h

/-- Through an operation that touches neither objects nor slots. -/
theorem Confined.frame (k : Frame m t u) (hm : sub m (Comp.allBut [.objs, .hbm, .lib]) = true) (h : Confined L K s t) : Confined L K s u := by
  have hk := k.mono hm
  exact h.through (congrArg Int.toNat (obj_of_objs (hk.objs (by decide)) _ _)) (hk.lib (by decide)) (hk.hbm (by decide))

theorem Confined1.frame {α : Type} {p : State × α} (k : Frame1 m t p) (hm : sub m (Comp.allBut [.objs, .hbm, .lib]) = true)
    (h : Confined L K s t) : Confined1 L K s p := Confined.frame k hm h

/-- Through an operation that touches no slot and whose objects are known. -/
theorem Confined.objs {l : List Nat} (k : Frame m t u) (hm : sub m (Comp.allBut [.hbm, .lib]) = true) (o : ObjsOnly l t u)
    (ho : Obj.PARK_SLOT ∉ l) (h : Confined L K s t) : Confined L K s u := by
  have hk := k.mono hm
  exact h.through (congrArg Int.toNat (o _ _ ho)) (hk.lib (by decide)) (hk.hbm (by decide))

/-- Through an operation that touches no slot and of the objects only the rings' counts of dropped records. -/
theorem Confined.kept (k : Frame m t u) (hm : sub m (Comp.allBut [.hbm, .lib]) = true) (o : ObjsKept t u) (h : Confined L K s t) :
    Confined L K s u := by
  have hk := k.mono hm
  exact h.through (congrArg Int.toNat (o _ _ (by decide))) (hk.lib (by decide)) (hk.hbm (by decide))

/-- Through an operation whose stores are known to be in these slots. -/
theorem Confined.stores (k : Frame m t u) (hm : sub m (Comp.allBut [.objs, .lib]) = true) (hs : sameOutside L t u) (h : Confined L K s t) :
    Confined L K s u := by
  have hk := k.mono hm
  have hpark : u.objN Obj.PARK_SLOT 0 = t.objN Obj.PARK_SLOT 0 := congrArg Int.toNat (obj_of_objs (hk.objs (by decide)) _ _)
  have hlib := hk.lib (by decide)
  exact h.trans fun ht => ⟨⟨hpark ▸ ht.park, .of_writing (congrArg (·.writing) hlib) ht.writing, hlib ▸ ht.loads⟩, hs⟩

theorem Confined.setObj {a b : Nat} {v : Int} (ha : a ≠ Obj.PARK_SLOT) (h : Confined L K s t) : Confined L K s (t.setObj a b v) :=
  h.through (congrArg Int.toNat (obj_setObj_other v fun e => ha e.1.symm)) rfl rfl

/-- PARK_SLOT may take the number of one of the slots. -/
theorem Confined.setNamed {a b : Nat} {v : Int} (ha : a = Obj.PARK_SLOT → v.toNat ∈ L) (h : Confined L K s t) :
    Confined L K s (t.setObj a b v) := by
  by_cases hpark : a = Obj.PARK_SLOT
  · subst hpark
    refine Keeps.through (t := t) (fun ht => ⟨?_, ht.writing, ht.loads⟩) rfl h
    by_cases hb : b = 0
    · subst hb
      rw [State.objN, obj_setObj]
      exact ha rfl
    · rw [State.objN, obj_setObj_other v fun e => hb e.2.symm]
      exact ht.park
  · exact h.setObj hpark

theorem Confined.setObjN {a b v : Nat} (ha : a ≠ Obj.PARK_SLOT) (h : Confined L K s t) : Confined L K s (t.setObjN a b v) := h.setObj ha

theorem Confined.incSat {a b n : Nat} (ha : a ≠ Obj.PARK_SLOT) (h : Confined L K s t) : Confined L K s (t.incSat a b n) := h.setObj ha

theorem Confined.incWrap {a b : Nat} (ha : a ≠ Obj.PARK_SLOT) (h : Confined L K s t) : Confined L K s (t.incWrap a b) := h.setObj ha

theorem Confined.inc64 {a b n : Nat} (ha : a ≠ Obj.PARK_SLOT) (h : Confined L K s t) : Confined L K s (t.inc64 a b n) := h.setObj ha

theorem Confined.setLaw {a b : Nat} {v : Int} (ha : a ≠ Obj.PARK_SLOT) (h : Confined L K s t) : Confined L K s (t.setLaw a b v) :=
  .setObj ha (.through (t := t) rfl rfl rfl h)

theorem Confined.raiseA {code : Nat} {data : List EvItem} (h : Confined L K s t) : Confined L K s (raiseA t code data) :=
  h.kept (raiseA_frame _ _ _) (by decide) (raise_objs _ _ _ _)

theorem Confined.raiseS {code : Nat} {data : List EvItem} (h : Confined L K s t) : Confined L K s (raiseS t code data) :=
  h.kept (raiseS_frame _ _ _) (by decide) (raise_objs _ _ _ _)

theorem Confined.setOct {a b : Nat} {v : List Byte} (h : Confined L K s t) : Confined L K s (t.setOct a b v) :=
  .frame (State.setOct_frame t _ _ _) (by decide) h

theorem Confined.unstage {a b : Nat} (h : Confined L K s t) : Confined L K s (t.unstage a b) :=
  .frame (State.unstage_frame t _ _) (by decide) h

theorem Confined.set_staged {v} (h : Confined L K s t) : Confined L K s { t with staged := v } := .through (t := t) rfl rfl rfl h

theorem Confined.set_staged_stagedOcts {v w} (h : Confined L K s t) : Confined L K s { t with staged := v, stagedOcts := w } :=
  .through (t := t) rfl rfl rfl h

theorem Confined.applyStaged {a : Nat} (ha : a ≠ Obj.PARK_SLOT) (h : Confined L K s t) : Confined L K s (t.applyStaged a) :=
  .set_staged_stagedOcts (.foldl (fun u _ => .setOct (.refl u)) (.foldl (fun u _ => .setObj ha (.refl u)) h))

theorem Confined.applyStagedAt {a b : Nat} (ha : a ≠ Obj.PARK_SLOT) (h : Confined L K s t) : Confined L K s (t.applyStagedAt a b) := by
  have hvalue : Confined L K s (match t.stagedVal a b with | some v => t.setObj a b v | none => t) := by
    split
    · exact .setObj ha h
    · exact h
  unfold State.applyStagedAt
  extract_lets u w
  refine .unstage ?_
  show Confined L K s (match mfind2 u.stagedOcts a b with | some b' => u.setOct a b b' | none => u)
  split
  · exact .setOct hvalue
  · exact hvalue

/-- Every staged value of these objects taken. -/
theorem Confined.applyAll {q : List Nat} (hq : Obj.PARK_SLOT ∉ q) (h : Confined L K s t) :
    Confined L K s (q.foldl State.applyStaged t) :=
  .foldlMem (fun u _ hb => .applyStaged (fun e => hq (e ▸ hb)) (.refl u)) h

/-- Every staged value of these objects taken at one selector. -/
theorem Confined.applyAllAt {q : List Nat} {b : Nat} (hq : Obj.PARK_SLOT ∉ q) (h : Confined L K s t) :
    Confined L K s (q.foldl (fun u a => u.applyStagedAt a b) t) :=
  .foldlMem (fun u _ hb => .applyStagedAt (fun e => hq (e ▸ hb)) (.refl u)) h

/-! Records that name no slot. -/

theorem Confined.set_ex {v} (h : Confined L K s t) : Confined L K s { t with ex := v } := .through (t := t) rfl rfl rfl h

theorem Confined.set_dev {v} (h : Confined L K s t) : Confined L K s { t with dev := v } := .through (t := t) rfl rfl rfl h

theorem Confined.set_drv {v} (h : Confined L K s t) : Confined L K s { t with drv := v } := .through (t := t) rfl rfl rfl h

theorem Confined.set_dev_drv {v w} (h : Confined L K s t) : Confined L K s { t with dev := v, drv := w } := .through (t := t) rfl rfl rfl h

theorem Confined.set_lobes_drv_steady {v w x} (h : Confined L K s t) : Confined L K s { t with lobes := v, drv := w, steady := x } :=
  .through (t := t) rfl rfl rfl h

theorem Confined.set_steady {v} (h : Confined L K s t) : Confined L K s { t with steady := v } := .through (t := t) rfl rfl rfl h

theorem Confined.set_cal {v} (h : Confined L K s t) : Confined L K s { t with cal := v } := .through (t := t) rfl rfl rfl h

theorem Confined.set_com {v} (h : Confined L K s t) : Confined L K s { t with com := v } := .through (t := t) rfl rfl rfl h

theorem Confined.set_fab {v} (h : Confined L K s t) : Confined L K s { t with fab := v } := .through (t := t) rfl rfl rfl h

theorem Confined.set_loops {v} (h : Confined L K s t) : Confined L K s { t with loops := v } := .through (t := t) rfl rfl rfl h

theorem Confined.set_mat {v} (h : Confined L K s t) : Confined L K s { t with mat := v } := .through (t := t) rfl rfl rfl h

theorem Confined.set_mon {v} (h : Confined L K s t) : Confined L K s { t with mon := v } := .through (t := t) rfl rfl rfl h

theorem Confined.set_net {v} (h : Confined L K s t) : Confined L K s { t with net := v } := .through (t := t) rfl rfl rfl h

/-! Slots and loads. -/

/-- Through a change of the library that runs the same write-back and gives no session a load it had not, but of these slots. -/
theorem Confined.set_lib {v : Library} (hw : v.writing = t.lib.writing)
    (hl : ∀ l ∈ v.loads, l.session.isSome = true → l ∈ t.lib.loads ∨ l.slot ∈ K) (h : Confined L K s t) : Confined L K s { t with lib := v } :=
  Keeps.through (t := t) (fun ht => ⟨ht.park, .of_writing (s := t) hw ht.writing, fun l hm hs => (hl l hm hs).elim (fun hold => ht.loads l hold hs) id⟩) rfl h

theorem Confined.setSlot {slot : Nat} {x : SlotState} (h : Confined L K s t) : Confined L K s (t.setSlot slot x) :=
  h.set_lib rfl fun _ hl _ => .inl hl

theorem Confined.dropLoads {keep : Load → Bool} (h : Confined L K s t) : Confined L K s (t.dropLoads keep) :=
  h.set_lib rfl fun _ hl _ => .inl (List.mem_of_mem_filter hl)

/-- Through the addition of a load, of one of these slots where it is a session's. -/
theorem Confined.addLoad {l : Load} (hl : l.session.isSome = true → l.slot ∈ K) (h : Confined L K s t) :
    Confined L K s { t with lib := { t.lib with loads := t.lib.loads ++ [l] } } :=
  h.set_lib rfl fun x hm hs => (List.mem_append.mp hm).imp_right fun e => by
    cases List.mem_singleton.mp e
    exact hl hs

/-- Through a change of the loads that keeps the slot and the session of each. -/
theorem Confined.mapLoads {f : Load → Load} (hf : ∀ l, (f l).slot = l.slot ∧ (f l).session = l.session) (h : Confined L K s t) :
    Confined L K s { t with lib := { t.lib with loads := t.lib.loads.map f } } := by
  refine Keeps.through (t := t) (fun ht => ⟨ht.park, ht.writing, fun l hl hs => ?_⟩) rfl h
  obtain ⟨x, hx, rfl⟩ := List.mem_map.mp hl
  rw [(hf x).2] at hs
  rw [(hf x).1]
  exact ht.loads x hx hs

theorem Confined.invalidate {slot reason : Nat} (h : Confined L K s t) : Confined L K s (invalidate t slot reason) := .raiseA (.setSlot h)

theorem Confined.slotWrite {slot off : Nat} {b : List Byte} (hs : slot ∈ L) (h : Confined L K s t) : Confined L K s (t.slotWrite slot off b) :=
  h.trans fun ht => ⟨⟨ht.park, ht.writing, ht.loads⟩, slotWrite_stores hs t off b⟩

end

section

variable {L K : List Nat}

theorem revalidateSlot_confined {slot : Nat} (h : slot ∈ L) (s : State) : Confined1 L K s (revalidateSlot s slot) := by
  unfold revalidateSlot
  refine .ite (.pair (.setSlot (.slotWrite h (.slotWrite h (.refl s))))) (.ite (.pair (.refl s)) (.pair ?_))
  exact .raiseA (.setSlot (.refl s))

theorem unwriting_confined (s : State) : Confined L K s (unwriting s) :=
  Keeps.through (t := s) (fun h => ⟨h.park, List.nil_subset L, h.loads⟩) rfl (.refl s)

theorem finishWriteBack_confined (s : State) : Confined L K s (finishWriteBack s) := by
  intro h
  cases hw : s.lib.writing with
  | none =>
    have hnone : finishWriteBack s = s := by rw [finishWriteBack, hw]
    rw [hnone]
    exact Confined.refl s h
  | some l =>
    have hl := mem_of_writing h.writing hw
    have hmerged : Confined L K s (mergeLatch (unwriting s) l) :=
      .stores (mergeLatch_frame _ l) (by decide) (mergeLatch_stores hl _) (unwriting_confined s)
    rw [finishWriteBack_runs hw]
    exact Confined.ite (.invalidate (unwriting_confined s)) (.incSat (by decide) (.setSlot hmerged)) h

theorem awaitWriteBack_confined (s : State) (slot : Nat) : Confined L K s (awaitWriteBack s slot) := by
  unfold awaitWriteBack
  split
  · exact .ite (finishWriteBack_confined s) (.refl s)
  · exact .refl s

end

end Sys2Proof.Proofs

/-!
SUPPORT. The effects of writes, chapter by chapter.
-/

-- One proof at a time: side by side they ask for more threads than the memory limit of a check allows.
set_option Elab.async false

namespace Sys2Proof.Proofs

open Sys2Proof Sys2Proof.Machine Sys2Proof.Laws

section

variable {L K : List Nat}

theorem effFuncMode_confined {n : Nat} (hn : n ≤ 8) (v : Int) (s : State) : Confined1 L K s (effFuncMode n v s) := by
  have hne : Obj.FUNC_MODE + (n - 1) ≠ Obj.PARK_SLOT := by
    unfold Obj.FUNC_MODE Obj.PARK_SLOT
    omega
  exact .ite (.pair (.refl s)) (.pair (.frame (State.setFunc_frame _ _ _) (by decide) (.setObj hne (.refl s))))

theorem effFwLoadOpen_confined (v : Int) (s : State) : Confined1 L K s (effFwLoadOpen v s) := by
  unfold effFwLoadOpen
  exact .ite (.pair (.refl _)) (.ite (.pair (.refl _)) (.pair (.set_dev (.frame (State.setFwBank_frame _ _ _) (by decide)
    (.setObj (by decide) (.refl _))))))

theorem autoStore_confined (s : State) (k : StoreKind) : Confined L K s (autoStore s k) :=
  .objs (autoStore_frame s k) (by decide) (autoStore_objs s k) (by decide) (.refl s)

theorem effParkClear_confined (s : State) : Confined1 L K s (effParkClear s) := by
  unfold effParkClear
  exact .pair (.step (autoStore_confined _ _) (.refl _))

theorem effParkStore_confined (v : Int) (s : State) : Confined1 L K s (effParkStore v s) := by
  unfold effParkStore
  exact .ite (.pair (.refl _)) (.pair (.step (autoStore_confined _ _) (.setObj (by decide) (.refl _))))

theorem startStore_confined (s : State) (k : StoreKind) : Confined L K s (startStore s k) :=
  .objs (startStore_frame s k) (by decide) (startStore_objs s k) (by decide) (.refl s)

theorem effConfigStore_confined (s : State) : Confined1 L K s (effConfigStore s) := by
  unfold effConfigStore
  exact .ite (.pair (.refl _)) (.ite (.pair (.refl _)) (.pair (.step (startStore_confined _ _) (.refl _))))

theorem rollBack_confined (s : State) (cause : Nat) : Confined L K s (rollBack s cause) :=
  .objs (rollBack_frame s cause) (by decide) (rollBack_objs s cause) (by decide) (.refl s)

theorem effFwRollback_confined (s : State) : Confined1 L K s (effFwRollback s) := by
  unfold effFwRollback
  exact .ite (.pair (.step (rollBack_confined _ _) (.refl _))) (.pair (.refl _))

theorem confirmTrial_confined (s : State) : Confined L K s (confirmTrial s) := by
  unfold confirmTrial
  conv => zeta
  split
  · exact .refl _
  · exact .step (autoStore_confined _ _) (.set_dev (.refl _))

theorem effFwConfirm_confined (s : State) : Confined1 L K s (effFwConfirm s) := by
  unfold effFwConfirm
  exact .ite (.pair (.step (confirmTrial_confined _) (.refl _))) (.pair (.refl _))

theorem effFwActivate_confined (v : Int) (s : State) : Confined1 L K s (effFwActivate v s) := by
  unfold effFwActivate
  conv => zeta
  split
  · exact .pair (.refl _)
  · exact .ite (.pair (.refl _)) (.ite (.pair (.refl _)) (.ite (.pair (.refl _)) (.ite (.pair (.refl _)) (.pair (.step
    (autoStore_confined _ _) (.set_dev (.refl _)))))))

/-- What a chain of cases answers is what one of them answers. -/
theorem of_ite_some {α : Type} {P : α → Prop} {p : Prop} [Decidable p] {a r : α} {o : Option α} (h : (if p then some a else o) = some r)
    (ha : p → P a) (ho : o = some r → P r) : P r := by
  split at h
  · next hp => exact Option.some.inj h ▸ ha hp
  · exact ho h

theorem effFlash_confined {r : State × Verdict} (addr : Nat) (v : Int) (s : State) (h : effFlash addr v s = some r) : Confined1 L K s r :=
  of_ite_some h (fun _ => effFwLoadOpen_confined _ _) fun h =>
  of_ite_some h (fun _ => .frame (effFwVerify_frame _ _) (by decide) (.frame (State.fresh_frame s) (by decide) (.refl s))) fun h =>
  of_ite_some h (fun _ => effFwActivate_confined _ _) fun h =>
  of_ite_some h (fun _ => effFwConfirm_confined _) fun h =>
  of_ite_some h (fun _ => effFwRollback_confined _) fun h =>
  of_ite_some h (fun _ => effConfigStore_confined _) fun h =>
  of_ite_some h (fun _ => effParkStore_confined _ _) fun h =>
  of_ite_some h (fun _ => effParkClear_confined _) fun h =>
  nomatch h

theorem effPinTestCell_confined (k : Int) (s : State) : Confined1 L K s (effPinTestCell k s) := by
  unfold effPinTestCell
  exact .ite (.pair (.refl _)) (.pair (.set_fab (.setObjN (by decide) (.setObj (by decide) (.refl _)))))

theorem effFabric_confined {r : State × Verdict} (addr sel : Nat) (v : Int) (s : State) (h : effFabric addr sel v s = some r) : Confined1 L K s r :=
  of_ite_some h (fun _ => .frame (effFaultStage_frame _ _ _ _) (by decide) (.refl _)) fun h =>
  of_ite_some h (fun _ => .frame (effFaultApply_frame _) (by decide) (.refl _)) fun h =>
  of_ite_some h (fun _ => effPinTestCell_confined _ _) fun h =>
  nomatch h

theorem discardRefinement_confined (s : State) (slot : Nat) : Confined L K s (discardRefinement s slot) := by
  unfold discardRefinement
  exact .incSat (by decide) (.set_lib rfl (fun _ h _ => .inl h) (.refl _))

theorem openLoad_confined {slot : Nat} (hs : slot ∈ K) (s : State) (sess : Nat) : Confined L K s (openLoad s sess slot) := by
  unfold openLoad
  exact .addLoad (fun _ => hs) (.setSlot (.step (discardRefinement_confined _ _) (.dropLoads (.refl _))))

theorem abandonLoad_confined (s : State) (sess : Nat) (hold : Bool) : Confined L K s (abandonLoad s sess hold) := by
  unfold abandonLoad
  split
  · exact .refl _
  · next l _ =>
    exact .ite (.addLoad (l := { l with session := none, received := 0 }) nofun (.dropLoads (.refl _))) (.setSlot (.dropLoads (.refl _)))

theorem effLoadSlot_confined {v : Int} (hv : v.toNat ∈ K) (sess : Nat) (s : State) : Confined1 L K s (effLoadSlot sess v s) := by
  have hwait : Confined L K s (awaitWriteBack (s.setObj Obj.LOAD_SLOT 0 v) v.toNat) :=
    .step (awaitWriteBack_confined _ _) (.setObj (by decide) (.refl s))
  exact .ite (.pair (.refl s)) (.pair (.step (openLoad_confined hv _ _) (.ite (.step (abandonLoad_confined _ _ _) hwait) hwait)))

theorem endRoute_confined (s : State) (slot : Nat) (status : Nat) (us : Nat) : Confined L K s (endRoute s slot status us) := by
  unfold endRoute
  exact .raiseA (.setObjN (by decide) (.setObjN (by decide) (.set_lib rfl (fun _ h _ => .inl h) (.refl _))))

theorem closeLoad_confined (s : State) (sess : Nat) (l : Load) (state : SlotState) (reason : Nat) : Confined L K s (closeLoad
  s sess l state reason) := by
  unfold closeLoad
  conv => zeta
  split
  · exact .ite (.step (endRoute_confined _ _ _ _) (.ite (.invalidate (.frame (State.setLoadStatus_frame _ _ _) (by decide)
    (.dropLoads (.refl _)))) (.setSlot (.frame (State.setLoadStatus_frame _ _ _) (by decide) (.dropLoads (.refl _)))))) (.ite
    (.invalidate (.frame (State.setLoadStatus_frame _ _ _) (by decide) (.dropLoads (.refl _)))) (.setSlot (.frame
    (State.setLoadStatus_frame _ _ _) (by decide) (.dropLoads (.refl _)))))
  · exact .ite (.invalidate (.frame (State.setLoadStatus_frame _ _ _) (by decide) (.dropLoads (.refl _)))) (.setSlot (.frame
    (State.setLoadStatus_frame _ _ _) (by decide) (.dropLoads (.refl _))))

theorem effLoadClose_confined (sess : Nat) (s : State) : Confined1 L K s (effLoadClose sess s) := by
  unfold effLoadClose
  split
  · exact .pair (.refl _)
  · refine .ite (.pair (.refl _)) ?_
    refine .ite (.pair (.step (closeLoad_confined _ _ _ _ _) (.refl _))) ?_
    split
    · exact .pair (.step (closeLoad_confined _ _ _ _ _) (.refl _))
    · exact .pair (.step (closeLoad_confined _ _ _ _ _) (.refl _))

theorem effEraseSlot_confined (sess : Nat) (v : Int) (s : State) : Confined1 L K s (effEraseSlot sess v s) := by
  unfold effEraseSlot
  exact .ite (.pair (.refl _)) (.pair (.setSlot (.dropLoads (.step (discardRefinement_confined _ _) (.step
    (awaitWriteBack_confined _ _) (.setObj (by decide) (.refl _)))))))

theorem effRevalidate_confined {v : Int} (hv : v.toNat ∈ L) (s : State) : Confined1 L K s (effRevalidate v s) := by
  have hwait : Confined L K s (awaitWriteBack s v.toNat) := awaitWriteBack_confined s v.toNat
  have hrun : Confined1 L K s (if (awaitWriteBack s v.toNat).slotBad v.toNat then (invalidate (awaitWriteBack s v.toNat) v.toNat 8, Verdict.nak .memory)
      else ((revalidateSlot ((awaitWriteBack s v.toNat).setObj Obj.REVALIDATE 0 v) v.toNat).1, Verdict.ack)) :=
    .ite (.pair (.invalidate hwait)) (.pair (.of1 (.step (revalidateSlot_confined hv _) (.setObj (by decide) hwait))))
  unfold effRevalidate
  conv => zeta
  split
  · exact hrun
  · exact hrun
  · exact .pair hwait

theorem effFindHash_confined (hash : Nat) (s : State) : Confined1 L K s (effFindHash hash s) := by
  unfold effFindHash
  exact .pair (.set_lib rfl (fun _ h _ => .inl h) (.setObjN (by decide) (.refl _)))

theorem startRoute_confined (s : State) (sess slot : Nat) (vector exclude : List Nat) : Confined L K s (startRoute s sess slot vector exclude) := by
  unfold startRoute
  extract_lets a load b host seq r _ c d _ e
  have hb : Confined L K s b :=
    .dropLoads (.step (discardRefinement_confined _ _) (.frame (atModeBoundary_frame _ _) (by decide) (awaitWriteBack_confined s slot)))
  have hc : Confined L K s c := .set_lib rfl (fun _ h _ => .inl h) hb
  clear_value c host seq b
  have hd : Confined L K s d := .setObjN (by decide) (.setSlot hc)
  exact .ite (.raiseA (.addLoad nofun hd)) (.setObjN (by decide) (.setSlot hc))

theorem takeRequest_confined (s : State) : Confined L K s (takeRequest s) := by
  unfold takeRequest
  exact .applyStaged (by decide) (.applyStaged (by decide) (.applyStaged (by decide) (.refl _)))

theorem effRouteApply_confined (sess : Nat) (s : State) : Confined1 L K s (effRouteApply sess s) := by
  unfold effRouteApply
  exact .ite (.pair (.refl _)) (.ite (.pair (.refl _)) (.ite (.pair (.step (endRoute_confined _ _ _ _) (.incWrap (by decide)
    (.refl _)))) (.ite (.pair (.refl _)) (.pair (.step (startRoute_confined _ _ _ _ _) (.step (takeRequest_confined _) (.incWrap
    (by decide) (.refl _))))))))

theorem queueLatch_confined (s : State) (l : Latch) : Confined L K s (queueLatch s l) := by
  unfold queueLatch
  exact .ite (.set_lib rfl (fun _ h _ => .inl h) (.refl _)) (.ite (.set_lib rfl (fun _ h _ => .inl h) (.refl _)) (.raiseA
    (.incSat (by decide) (.refl _))))

theorem State.dropBuf_confined (s : State) (b : Nat) : Confined L K s (State.dropBuf s b) := by
  unfold State.dropBuf
  exact .set_lib rfl (fun _ h _ => .inl h) (.refl _)

theorem effRefineDecide_confined (b : Nat) (v : Int) (s : State) : Confined1 L K s (effRefineDecide b v s) := by
  have hdrop : Confined L K s ((s.dropBuf b).setObj Obj.REFINE_DECIDE b v) := .setObj (by decide) (State.dropBuf_confined s b)
  unfold effRefineDecide
  split
  · exact .pair (.refl s)
  · exact .ite (.pair (.step (queueLatch_confined _ _) hdrop)) (.pair (.incSat (by decide) hdrop))

theorem effLibrary_confined {r : State × Verdict} {addr : Nat} {v : Int} (hload : addr = Obj.LOAD_SLOT → v.toNat ∈ K)
    (hrevalidate : addr = Obj.REVALIDATE → v.toNat ∈ L) (sess sel : Nat) (s : State) (h : effLibrary sess addr sel v s = some r) : Confined1 L K s r :=
  of_ite_some h (fun ha => effLoadSlot_confined (hload ha) _ _) fun h =>
  of_ite_some h (fun _ => effLoadClose_confined _ _) fun h =>
  of_ite_some h (fun _ => effEraseSlot_confined _ _ _) fun h =>
  of_ite_some h (fun _ => .frame (effReadSlot_frame _ _ _) (by decide) (.refl _)) fun h =>
  of_ite_some h (fun ha => effRevalidate_confined (hrevalidate ha) _) fun h =>
  of_ite_some h (fun _ => effFindHash_confined _ _) fun h =>
  of_ite_some h (fun _ => effRouteApply_confined _ _) fun h =>
  of_ite_some h (fun _ => effRefineDecide_confined _ _ _) fun h =>
  nomatch h

theorem effSetpoint_confined (e : Nat) (v : Int) (s : State) : Confined1 L K s (effSetpoint e v s) := by
  unfold effSetpoint
  exact .pair (.frame (State.setElem_frame _ _ _) (by decide) (.setObj (by decide) (.refl _)))

theorem effLoopEnable_confined (e : Nat) (v : Int) (s : State) : Confined1 L K s (effLoopEnable e v s) := by
  unfold effLoopEnable
  exact .pair (.frame (State.setElem_frame _ _ _) (by decide) (.setLaw (by decide) (.refl _)))

theorem effVoaEnable_confined (o : Nat) (v : Int) (s : State) : Confined1 L K s (effVoaEnable o v s) := by
  unfold effVoaEnable
  exact .ite (.pair (.frame (State.setVoa_frame _ _ _) (by decide) (.setObj (by decide) (.refl _)))) (.ite (.pair (.frame
    (State.setVoa_frame _ _ _) (by decide) (.setObj (by decide) (.refl _)))) (.pair (.setObj (by decide) (.refl _))))

theorem effLoops_confined {r : State × Verdict} (addr sel : Nat) (v : Int) (s : State) (h : effLoops addr sel v s = some r) : Confined1 L K s r :=
  of_ite_some h (fun _ => effSetpoint_confined _ _ _) fun h =>
  of_ite_some h (fun _ => effLoopEnable_confined _ _ _) fun h =>
  of_ite_some h (fun _ => effVoaEnable_confined _ _ _) fun h =>
  of_ite_some h (fun ha => .pair (.frame (voaRetarget_frame _ _) (by decide) (.setObj (by rcases ha with rfl | rfl <;> decide) (.refl s)))) fun h =>
  nomatch h

theorem effAvgConfig_confined (n : Nat) (len : Bool) (v : Int) (s : State) : Confined1 L K s (effAvgConfig n len v s) := by
  unfold effAvgConfig
  exact .ite (.pair (.setObj (by decide) (.frame (State.setAvg_frame _ _ _) (by decide) (.refl _)))) (.ite (.pair (.setObj (by
    decide) (.frame (State.setAvg_frame _ _ _) (by decide) (.refl _)))) (.pair (.refl _)))

theorem effDatapath_confined {r : State × Verdict} (addr sel : Nat) (v : Int) (s : State) (h : effDatapath addr sel v s = some r) : Confined1 L K s r :=
  of_ite_some h (fun _ => .frame (effDpApply_frame _) (by decide) (.refl _)) fun h =>
  of_ite_some h (fun _ => effAvgConfig_confined _ _ _ _) fun h =>
  of_ite_some h (fun _ => effAvgConfig_confined _ _ _ _) fun h =>
  nomatch h

theorem stopGen_confined (s : State) (u : Nat) : Confined L K s (stopGen s u) := by
  unfold stopGen
  conv => zeta
  split
  · exact .setObj (by decide) (.set_drv (.frame (noteChange_frame _ _) (by decide) (.refl _)))
  · exact .refl _

theorem startSpanSeq_confined (s : State) (u : Nat) (newSpan : Nat) (start : Nat) : Confined L K s (startSpanSeq s u newSpan
  start) := by
  unfold startSpanSeq
  exact .frame (State.setChan_frame _ _ _) (by decide) (.step (stopGen_confined _ _) (.refl _))

theorem releaseGrant_confined (s : State) (k : GKind) (src : Nat) : Confined L K s (releaseGrant s k src) :=
  .objs (releaseGrant_frame s k src) (by decide) (releaseGrant_objs s k src) (by decide) (.refl s)

theorem withdraw_confined (s : State) (k : GKind) (src : Nat) : Confined L K s (withdraw s k src) :=
  .objs (withdraw_frame s k src) (by decide) (withdraw_objs s k src) (by decide) (.refl s)

theorem spanEndsWrap_confined (s : State) (e : Nat) : Confined L K s (spanEndsWrap s e) := by
  unfold spanEndsWrap
  exact .ite (.step (releaseGrant_confined _ _ _) (.step (withdraw_confined _ _ _) (.frame (State.setElem_frame _ _ _) (by
    decide) (.refl _)))) (.refl _)

theorem steadyDecides_confined (s : State) (kind : Nat) : Confined1 L K s (steadyDecides s kind) :=
  .objs (steadyDecides_frame s kind) (by decide) (steadyDecides_objs s kind) (by decide) (.refl s)

theorem effSpanApply_confined (s : State) : Confined1 L K s (effSpanApply s) := by
  unfold effSpanApply
  exact .ite (.pair (.refl _)) (.ite (.pair (.refl _)) (.ite (.pair (.refl _)) (.pair (.raiseA (.foldl (fun u _ => .frame
    (reconvert_frame _ _) (by decide) (.refl u)) (.foldl (fun u _ => .step (startSpanSeq_confined _ _ _ _) (.frame
    (noteWrite_frame _ _) (by decide) (.refl u))) (.foldl (fun u _ => .step (spanEndsWrap_confined _ _) (.refl u)) (.applyStaged
    (by decide) (.of1 (.step (steadyDecides_confined _ _) (.foldl (fun u _ => .frame (noteRefused_frame _ _) (by decide) (.refl
    u)) (.refl _))))))))))))

theorem showSteady_confined (s : State) : Confined L K s (showSteady s) := by
  unfold showSteady
  exact .setObjN (by decide) (.setObjN (by decide) (.setObjN (by decide) (.setObjN (by decide) (.setObj (by decide) (.setObj
    (by decide) (.refl _))))))

theorem undoGens_confined (before : State) (s : State) : Confined L K s (undoGens before s) := by
  unfold undoGens
  exact .step (showSteady_confined _) (.setObj (by decide) (.set_lobes_drv_steady (.refl _)))

theorem issueGrant_confined (s : State) (r : GReq) : Confined L K s (issueGrant s r) :=
  .objs (issueGrant_frame s r) (by decide) (issueGrant_objs s r) (by decide) (.refl s)

theorem grantNow_confined (s : State) (r : GReq) : Confined1 L K s (grantNow s r) := by
  unfold grantNow
  split
  exact .ite (.pair (.step (issueGrant_confined _ _) (.fst (by assumption) (.step (steadyDecides_confined _ _) (.refl _)))))
    (.pair (.incSat (by decide) (.fst (by assumption) (.step (steadyDecides_confined _ _) (.refl _)))))

theorem setGen_confined (s : State) (g : Nat) (c : Gen) : Confined1 L K s (setGen s g c) := by
  unfold setGen
  refine .ite (.pair (.refl _)) ?_
  refine .ite ?_ (.pair (.set_drv (.frame (noteWrite_frame _ _) (by decide) (.frame (noteChange_frame _ _) (by decide) (.refl
    _)))))
  conv => zeta
  split
  exact .ite (.pair (.set_drv (.frame (noteWrite_frame _ _) (by decide) (.frame (noteChange_frame _ _) (by decide) (.fst (by
    assumption) (.step (grantNow_confined _ _) (.refl _))))))) (.pair (.fst (by assumption) (.step (grantNow_confined _ _)
    (.refl _))))

theorem setGens_confined (l : List (Nat × Gen)) (s : State) : Confined1 L K s (setGens l s) := by
  induction l generalizing s with
  | nil => exact .pair (.refl s)
  | cons e t ih =>
    obtain ⟨g, c⟩ := e
    unfold setGens
    split
    have h : Confined L K s _ := .fst (by assumption) (setGen_confined _ _ _)
    exact .ite (.step (ih _) h) (.pair h)

theorem dropGrant_confined (s : State) (k : GKind) (src : Nat) : Confined L K s (dropGrant s k src) := by
  unfold dropGrant
  exact .step (showSteady_confined _) (.set_steady (.refl _))

theorem dropGen_confined (s : State) (g : Nat) : Confined L K s (dropGen s g) := by
  unfold dropGen
  conv => zeta
  split
  · exact .refl _
  · refine .ite ?_ (.set_drv (.frame (noteWrite_frame _ _) (by decide) (.frame (noteChange_frame _ _) (by decide) (.refl _))))
    split
    exact .ite (.step (dropGrant_confined _ _ _) (.fst (by assumption) (.step (steadyDecides_confined _ _) (.set_drv (.frame
      (noteWrite_frame _ _) (by decide) (.frame (noteChange_frame _ _) (by decide) (.refl _))))))) (.frame (markReleased_frame _
      _ _) (by decide) (.fst (by assumption) (.step (steadyDecides_confined _ _) (.set_drv (.frame (noteWrite_frame _ _) (by
      decide) (.frame (noteChange_frame _ _) (by decide) (.refl _)))))))

theorem serveQueue_confined (s : State) : Confined L K s (serveQueue s) :=
  .objs (serveQueue_frame s) (by decide) (serveQueue_objs s) (by decide) (.refl s)

theorem effGenApply_confined (s : State) : Confined1 L K s (effGenApply s) := by
  have hset (now refused : List (Nat × Gen)) : Confined1 L K s
      (setGens now (now.foldl (fun s e => dropGen s e.1) (refused.foldl (fun s e => s.genRefused e.1 e.2) s))) :=
    .step (setGens_confined _ _) (.foldl (fun u _ => dropGen_confined _ _)
      (.foldl (fun u _ => .frame (State.genRefused_frame _ _ _) (by decide) (.refl u)) (.refl s)))
  unfold effGenApply
  refine .ite (.pair (.refl _)) (.ite (.pair (.refl _)) ?_)
  conv => zeta
  split
  · exact .pair (.step (undoGens_confined _ _) (.fst (by assumption) (hset _ _)))
  · exact .pair (.step (serveQueue_confined _) (.applyAll (by decide) (.fst (by assumption) (hset _ _))))

theorem storePage_confined (s : State) (p : SafePage) : Confined L K s (storePage s p) := by
  unfold storePage
  exact .step (startStore_confined _ _) (.set_dev_drv (.refl _))

theorem decideNow_confined (s : State) (kind : Nat) (fits : State → Bool) : Confined1 L K s (decideNow s kind fits) := by
  unfold decideNow
  split
  exact .ite (.pair (.fst (by assumption) (.step (steadyDecides_confined _ _) (.refl _)))) (.pair (.incSat (by decide) (.fst
    (by assumption) (.step (steadyDecides_confined _ _) (.refl _)))))

theorem pageCommand_confined (s : State) (p : SafePage) : Confined1 L K s (pageCommand s p) := by
  unfold pageCommand
  refine .ite (.pair (.refl _)) ?_
  refine .ite (.pair (.refl _)) ?_
  split
  exact .ite (.pair (.step (storePage_confined _ _) (.fst (by assumption) (.step (decideNow_confined _ _ _) (.refl _)))))
    (.pair (.fst (by assumption) (.step (decideNow_confined _ _ _) (.refl _))))

theorem effSafeStore_confined (s : State) : Confined1 L K s (effSafeStore s) := by
  unfold effSafeStore
  conv => zeta
  split
  · exact .pair (.set_staged (.fst (by assumption) (.step (pageCommand_confined _ _) (.refl _))))
  · exact .step (pageCommand_confined _ _) (.refl _)

theorem effSafeRevert_confined (s : State) : Confined1 L K s (effSafeRevert s) := by
  unfold effSafeRevert
  exact .step (pageCommand_confined _ _) (.refl _)

theorem effPrivTarget_confined (n : Nat) (v : Int) (s : State) : Confined1 L K s (effPrivTarget n v s) := by
  unfold effPrivTarget
  exact .pair (.frame (writeTarget_frame _ _ _) (by decide) (.setObj (by decide) (.refl _)))

theorem effDrive_confined {r : State × Verdict} (addr sel : Nat) (v : Int) (s : State) (h : effDrive addr sel v s = some r) : Confined1 L K s r :=
  of_ite_some h (fun _ => effSpanApply_confined _) fun h =>
  of_ite_some h (fun _ => effGenApply_confined _) fun h =>
  of_ite_some h (fun _ => effSafeStore_confined _) fun h =>
  of_ite_some h (fun _ => effSafeRevert_confined _) fun h =>
  of_ite_some h (fun _ => effPrivTarget_confined _ _ _) fun h =>
  nomatch h

theorem effGainMode_confined (pd : Nat) (v : Int) (s : State) : Confined1 L K s (effGainMode pd v s) := by
  unfold effGainMode
  exact .pair (.set_mon (.setObj (by decide) (.refl _)))

theorem effRange_confined {addr : Nat} (ha : addr ≠ Obj.PARK_SLOT) (v : Int) (s : State) : Confined1 L K s (effRange addr v s) :=
  .pair (.set_mon (.setObj ha (.refl s)))

theorem refFollow_confined (s : State) (mb : Nat) : Confined L K s (refFollow s mb) :=
  .objs (refFollow_frame s mb) (by decide) (refFollow_objs s mb) (by decide) (.refl s)

theorem effRefEnable_confined (mb : Nat) (v : Int) (s : State) : Confined1 L K s (effRefEnable mb v s) := by
  unfold effRefEnable
  exact .pair (.step (refFollow_confined _ _) (.setObj (by decide) (.refl _)))

theorem powerBank_confined (s : State) (mb : Nat) (v : Int) : Confined L K s (powerBank s mb v) :=
  .objs (powerBank_frame s mb v) (by decide) (powerBank_objs s mb v) (by decide) (.refl s)

theorem effBankPower_confined (mb : Nat) (v : Int) (s : State) : Confined1 L K s (effBankPower mb v s) := by
  unfold effBankPower
  exact .ite (.pair (.refl _)) (.ite (.pair (.refl _)) (.pair (.step (refFollow_confined _ _) (.step (powerBank_confined _ _
    _) (.setObj (by decide) (.refl _))))))

theorem effInjApply_confined (s : State) : Confined1 L K s (effInjApply s) := by
  unfold effInjApply
  exact .ite (.pair (.refl _)) (.ite (.pair (.refl _)) (.ite (.pair (.refl _)) (.ite (.pair (.refl _)) (.pair (.setObjN (by
    decide) (.set_mon (.frame (State.setConv_frame _ _ _) (by decide) (.applyStaged (by decide) (.applyStaged (by decide) (.refl
    _))))))))))

theorem effFocusStart_confined (cv : Nat) (v : Int) (s : State) : Confined1 L K s (effFocusStart cv v s) := by
  unfold effFocusStart
  exact .ite (.pair (.frame (State.setConv_frame _ _ _) (by decide) (.refl _))) (.ite (.pair (.refl _)) (.ite (.pair (.refl _))
    (.ite (.pair (.refl _)) (.pair (.frame (State.setConv_frame _ _ _) (by decide) (.applyAllAt (by decide) (.refl _)))))))

theorem effMonitor_confined {r : State × Verdict} (addr sel : Nat) (v : Int) (s : State) (h : effMonitor addr sel v s = some r) : Confined1 L K s r :=
  of_ite_some h (fun _ => effGainMode_confined _ _ _) fun h =>
  of_ite_some h (fun ha => effRange_confined (by rcases ha with rfl | rfl | rfl <;> decide) _ _) fun h =>
  of_ite_some h (fun _ => effRefEnable_confined _ _ _) fun h =>
  of_ite_some h (fun _ => effBankPower_confined _ _ _) fun h =>
  of_ite_some h (fun _ => effInjApply_confined _) fun h =>
  of_ite_some h (fun _ => effFocusStart_confined _ _ _) fun h =>
  nomatch h

theorem effCalApply_confined (s : State) : Confined1 L K s (effCalApply s) := by
  unfold effCalApply
  exact .ite (.pair (.refl _)) (.ite (.pair (.refl _)) (.ite (.pair (.refl _)) (.ite (.pair (.refl _)) (.pair (.set_cal
    (.applyStaged (by decide) (.applyStaged (by decide) (.refl _))))))))

theorem endCal_confined (s : State) (r : CalReq) (status : Nat) (quality : Int) (flags : Nat) : Confined L K s (endCal s r
  status quality flags) :=
  .objs (endCal_frame s r status quality flags) (by decide) (endCal_objs s r status quality flags) (by decide) (.refl s)

theorem finishItem_confined (s : State) (r : CalRun) (out : CalResult) : Confined L K s (finishItem s r out) := by
  unfold finishItem
  exact .ite (.step (releaseGrant_confined _ _ _) (.frame (State.putRun_frame _ _) (by decide) (.set_cal (.refl _)))) (.step
    (endCal_confined _ _ _ _ _) (.set_cal (.refl _)))

theorem effCalAccept_confined (v : Int) (s : State) : Confined1 L K s (effCalAccept v s) := by
  unfold effCalAccept
  split
  · exact .pair (.refl _)
  · exact .ite (.pair (.step (finishItem_confined _ _ _) (.refl _))) (.pair (.step (endCal_confined _ _ _ _ _) (.refl _)))

theorem abortCal_confined (s : State) (reason : Nat) : Confined L K s (abortCal s reason) :=
  .objs (abortCal_frame s reason) (by decide) (abortCal_objs s reason) (by decide) (.refl s)

theorem effCalAbort_confined (s : State) : Confined1 L K s (effCalAbort s) := by
  unfold effCalAbort
  exact .pair (.step (abortCal_confined _ _) (.set_cal (.refl _)))

theorem effCalStore_confined (s : State) : Confined1 L K s (effCalStore s) := by
  unfold effCalStore
  exact .ite (.pair (.refl _)) (.ite (.pair (.refl _)) (.pair (.step (startStore_confined _ _) (.set_cal (.refl _)))))

theorem bumpCalGen_confined (s : State) : Confined L K s (bumpCalGen s) := by
  unfold bumpCalGen
  exact .frame (noteUnstored_frame _) (by decide) (.setObjN (by decide) (.refl _))

theorem setCoef_confined {addr : Nat} (ha : addr ≠ Obj.PARK_SLOT) (s : State) (sel : Nat) (v : Int) : Confined L K s (setCoef s addr sel v) :=
  .setObj ha (.frame (keepCoef_frame _ _ _) (by decide) (.refl s))

theorem setCal_confined {addr : Nat} (ha : addr ≠ Obj.PARK_SLOT) (s : State) (sel : Nat) (v : Int) : Confined L K s (setCal s addr sel v) :=
  .ite (.setLaw ha (.refl s)) (.ite (setCoef_confined ha s sel v) (.setObj ha (.refl s)))

theorem applyValues_confined {vs : List (Nat × Nat × Int)} (hvs : ∀ e ∈ vs, e.1 ≠ Obj.PARK_SLOT) (ms : List (Nat × Nat × List Byte))
    (s : State) : Confined L K s (applyValues s vs ms) := by
  unfold applyValues
  extract_lets vs' ms' gen t u w
  have ht : Confined L K s t := .foldlMem (fun u e he => setCal_confined (hvs e (List.mem_of_mem_filter he)) u _ _) (.refl s)
  have hu : Confined L K s u := .foldl (fun u _ => .setOct (.refl u)) ht
  have hw : Confined L K s w := .foldl (fun u _ => .frame (remapCodes_frame _ _ _) (by decide) (.refl u)) hu
  exact .ite (.step (bumpCalGen_confined _) hw) hw

theorem applyCal_confined {vs : List (Nat × Nat × Int)} (hvs : ∀ e ∈ vs, e.1 ≠ Obj.PARK_SLOT) (ms : List (Nat × Nat × List Byte))
    (s : State) : Confined L K s (applyCal s vs ms) :=
  have hvalues := applyValues_confined hvs ms s
  .ite hvalues (.frame (noteUnstored_frame _) (by decide) hvalues)

theorem takeCal_confined {objs : List Nat} (ho : Obj.PARK_SLOT ∉ objs) (s : State) : Confined L K s (takeCal s objs) := by
  have hvs (e : Nat × Nat × Int) (he : e ∈ s.stagedVals objs) : e.1 ≠ Obj.PARK_SLOT := fun h => ho (h ▸ (mem_stagedVals.mp he).1)
  exact .step (applyCal_confined hvs _ _) (.set_staged_stagedOcts (.refl s))

theorem effTemplateApply_confined (s : State) : Confined1 L K s (effTemplateApply s) := by
  unfold effTemplateApply
  exact .ite (.pair (.refl _)) (.pair (.set_cal (takeCal_confined (by decide) s)))

theorem effCal_confined {r : State × Verdict} (addr : Nat) (v : Int) (s : State) (h : effCal addr v s = some r) : Confined1 L K s r :=
  of_ite_some h (fun _ => effCalApply_confined _) fun h =>
  of_ite_some h (fun _ => effCalAccept_confined _ _) fun h =>
  of_ite_some h (fun _ => effCalAbort_confined _) fun h =>
  of_ite_some h (fun _ => effCalStore_confined _) fun h =>
  of_ite_some h (fun _ => .frame (effCalValuesApply_frame _) (by decide) (.refl _)) fun h =>
  of_ite_some h (fun _ => effTemplateApply_confined _) fun h =>
  nomatch h

theorem effHeaterBudget_confined (reserve : Bool) (v : Int) (s : State) : Confined1 L K s (effHeaterBudget reserve v s) := by
  have hne : (if reserve then Obj.LOOP_RESERVE else Obj.HEATER_BUDGET) ≠ Obj.PARK_SLOT := by cases reserve <;> decide
  exact .pair (.set_steady (.setObj hne (.refl s)))

theorem refillRing_confined (l : List GReq) (s : State) : Confined L K s (refillRing l s) :=
  .objs (refillRing_frame l s) (by decide) (refillRing_objs l s) (by decide) (.refl s)

theorem refill_confined (s : State) : Confined L K s (refill s) := by
  unfold refill
  exact .step (refillRing_confined _ _) (.refl _)

theorem rebuildHeat_confined (s : State) : Confined L K s (rebuildHeat s) := by
  unfold rebuildHeat
  exact .frame (drawGrants_frame _) (by decide) (.set_steady (.setObj (by decide) (.refl _)))

theorem closeReq_confined (s : State) (n : Nat) (st : Nat) : Confined L K s (closeReq s n st) :=
  .objs (closeReq_frame s n st) (by decide) (closeReq_objs s n st) (by decide) (.refl s)

theorem effSteadyReset_confined (s : State) : Confined1 L K s (effSteadyReset s) := by
  unfold effSteadyReset
  refine .ite (.pair (.refl _)) ?_
  refine .pair ?_
  refine .step (showSteady_confined _) ?_
  refine .step (refill_confined _) ?_
  refine .foldl (fun u _ => ?_) (.frame (State.unfault_frame _ _) (by decide) (.step (rebuildHeat_confined _) (.set_steady
    (.foldl (fun u _ => .step (closeReq_confined _ _ _) (.refl u)) (.refl _)))))
  split
  · exact .ite (.step (abortCal_confined _ _) (.refl _)) (.refl _)
  · exact .refl _

theorem caseRest_confined (s : State) : Confined L K s (caseRest s) :=
  .objs (caseRest_frame s) (by decide) (caseRest_objs s) (by decide) (.refl s)

theorem effTdxMode_confined (x : Nat) (v : Int) (s : State) : Confined1 L K s (effTdxMode x v s) := by
  unfold effTdxMode
  exact .pair (.step (caseRest_confined _) (.frame (State.setSensor_frame _ _ _) (by decide) (.setObj (by decide) (.refl _))))

theorem judgeCase_confined (s : State) : Confined L K s (judgeCase s) :=
  .objs (judgeCase_frame s) (by decide) (judgeCase_objs s) (by decide) (.refl s)

theorem effCaseSource_confined (v : Int) (s : State) : Confined1 L K s (effCaseSource v s) := by
  unfold effCaseSource
  exact .ite (.pair (.refl _)) (.pair (.ite (.step (judgeCase_confined _) (.setObj (by decide) (.setObj (by decide) (.refl
    _)))) (.setObj (by decide) (.setObj (by decide) (.refl _)))))

theorem effSteady_confined {r : State × Verdict} (addr sel : Nat) (v : Int) (s : State) (h : effSteady addr sel v s = some r) : Confined1 L K s r :=
  of_ite_some h (fun _ => effHeaterBudget_confined _ _ _) fun h =>
  of_ite_some h (fun _ => effHeaterBudget_confined _ _ _) fun h =>
  of_ite_some h (fun _ => effSteadyReset_confined _) fun h =>
  of_ite_some h (fun _ => effTdxMode_confined _ _ _) fun h =>
  of_ite_some h (fun _ => effCaseSource_confined _ _) fun h =>
  nomatch h

theorem releaseLobe_confined (s : State) (l : Nat) : Confined L K s (releaseLobe s l) :=
  .objs (releaseLobe_frame s l) (by decide) (releaseLobe_objs s l) (by decide) (.refl s)

theorem toOffline_confined (s : State) (l : Nat) (reason : Nat) : Confined L K s (toOffline s l reason) :=
  .objs (toOffline_frame s l reason) (by decide) (toOffline_objs s l reason) (by decide) (.refl s)

theorem effHoldOffline_confined (l : Nat) (v : Int) (s : State) : Confined1 L K s (effHoldOffline l v s) := by
  unfold effHoldOffline
  exact .ite (.pair (.step (releaseLobe_confined _ _) (.frame (State.setLobe_frame _ _ _) (by decide) (.setObj (by decide)
    (.refl _))))) (.ite (.ite (.pair (.refl _)) (.pair (.frame (State.setLobe_frame _ _ _) (by decide) (.setObj (by decide)
    (.refl _))))) (.pair (.step (toOffline_confined _ _ _) (.setObj (by decide) (.refl _)))))

theorem endRollBack_confined (s : State) : Confined L K s (endRollBack s) := by
  unfold endRollBack
  conv => zeta
  split
  · exact .ite (.raiseA (.set_dev (.refl _))) (.refl _)
  · exact .refl _

theorem resetLobe_confined (s : State) (l : Nat) (trial : Bool) : Confined L K s (resetLobe s l trial) :=
  .objs (resetLobe_frame s l trial) (by decide) (resetLobe_objs s l trial) (by decide) (.refl s)

theorem effLobeReset_confined (l : Nat) (s : State) : Confined1 L K s (effLobeReset l s) := by
  unfold effLobeReset
  exact .ite (.pair (.refl _)) (.pair (.step (endRollBack_confined _) (.step (resetLobe_confined _ _ _) (.refl _))))

theorem effLobes_confined {r : State × Verdict} (addr sel : Nat) (v : Int) (s : State) (h : effLobes addr sel v s = some r) : Confined1 L K s r :=
  of_ite_some h (fun _ => effHoldOffline_confined _ _ _) fun h =>
  of_ite_some h (fun _ => effLobeReset_confined _ _) fun h =>
  of_ite_some h (fun _ => .frame (effSwapNow_frame _) (by decide) (.refl _)) fun h =>
  nomatch h

theorem effRingEnable_confined (r : Nat) (v : Int) (s : State) : Confined1 L K s (effRingEnable r v s) := by
  unfold effRingEnable
  exact .ite (.pair (.refl _)) (.ite (.pair (.refl _)) (.pair (.setObj (by decide) (.refl _))))

theorem effRingLength_confined (r : Nat) (v : Int) (s : State) : Confined1 L K s (effRingLength r v s) := by
  unfold effRingLength
  exact .ite (.pair (.refl _)) (.pair (.frame (State.setRing_frame _ _ _) (by decide) (.setObj (by decide) (.refl _))))

theorem effCapRelease_confined (b : Nat) (seq : Int) (s : State) : Confined1 L K s (effCapRelease b seq s) := by
  unfold effCapRelease
  exact .ite (.pair (.setObj (by decide) (.frame (State.setBuf_frame _ _ _) (by decide) (.refl _)))) (.pair (.refl _))

theorem takeCap_confined (s : State) (b : Nat) : Confined L K s (takeCap s b) :=
  .foldl (fun u _ => .applyStagedAt (by decide) (.applyStagedAt (by decide) (.refl u))) (.applyAllAt (by decide) (.refl s))

theorem effCapArm_confined (b : Nat) (s : State) : Confined1 L K s (effCapArm b s) := by
  unfold effCapArm
  refine .ite (.pair (.refl _)) ?_
  conv => zeta
  split
  · exact .pair (.refl _)
  · exact .pair (.frame (State.setBuf_frame _ _ _) (by decide) (.step (takeCap_confined _ _) (.frame (atModeBoundary_frame _
    _) (by decide) (.refl _))))

theorem effCapture_confined {r : State × Verdict} (addr sel : Nat) (v : Int) (s : State) (h : effCapture addr sel v s = some r) : Confined1 L K s r :=
  of_ite_some h (fun _ => .ite (effCapArm_confined _ _) (.frame (effCapEnd_frame _ _) (by decide) (.refl _))) fun h =>
  of_ite_some h (fun _ => .frame (effCapForce_frame _ _) (by decide) (.refl _)) fun h =>
  of_ite_some h (fun _ => effCapRelease_confined _ _ _) fun h =>
  of_ite_some h (fun _ => effRingLength_confined _ _ _) fun h =>
  of_ite_some h (fun _ => .frame (effRingRp_frame _ _ _) (by decide) (.refl _)) fun h =>
  of_ite_some h (fun _ => effRingEnable_confined _ _ _) fun h =>
  nomatch h

theorem flushPort_confined (s : State) (x : Nat) : Confined L K s (flushPort s x) := by
  unfold flushPort
  exact .foldl (fun u _ => .frame (State.setQueue_frame _ _ _) (by decide) (.inc64 (by decide) (.refl u))) (.refl _)

theorem effPortEnable_confined (x : Nat) (v : Int) (s : State) : Confined1 L K s (effPortEnable x v s) := by
  unfold effPortEnable
  exact .pair (.ite (.frame (lockChange_frame _ _ _) (by decide) (.step (flushPort_confined _ _) (.setObj (by decide) (.refl
    _)))) (.setObj (by decide) (.refl _)))

theorem applyNet_confined (s : State) : Confined L K s (applyNet s) := by
  unfold applyNet
  extract_lets n moved before probes _ t u w joined x
  have ht : Confined L K s t := .applyAll (by decide) (.set_net (.refl s))
  have hw : Confined L K s w := .foldl (fun u _ => .frame (sendOwn_frame _ _ _) (by decide) (.refl u)) (.frame (setRoles_frame _ _) (by decide) ht)
  have hx : Confined L K s x :=
    .ite (.foldl (fun u _ => .frame (sendReports_frame _ _ _ _) (by decide) (.refl u)) hw) (.frame (announceNow_frame _) (by decide) hw)
  exact .raiseS hx

theorem effNetApply_confined (s : State) : Confined1 L K s (effNetApply s) := by
  unfold effNetApply
  exact .ite (.pair (.refl _)) (.ite (.pair (.set_net (.refl _))) (.pair (.step (applyNet_confined _) (.refl _))))

theorem effPorts_confined {r : State × Verdict} (addr sel : Nat) (v : Int) (s : State) (h : effPorts addr sel v s = some r) : Confined1 L K s r :=
  of_ite_some h (fun _ => effPortEnable_confined _ _ _) fun h =>
  of_ite_some h (fun _ => effNetApply_confined _) fun h =>
  nomatch h

theorem effRulesStore_confined (s : State) : Confined1 L K s (effRulesStore s) := by
  unfold effRulesStore
  exact .ite (.pair (.refl _)) (.ite (.pair (.refl _)) (.pair (.step (startStore_confined _ _) (.refl _))))

theorem effSlowPolicer_confined {addr : Nat} (ha : addr ≠ Obj.PARK_SLOT) (r : Nat) (v : Int) (s : State) :
    Confined1 L K s (effSlowPolicer addr r v s) := .pair (.setObj ha (.set_net (.refl s)))

theorem effClassifier_confined {r : State × Verdict} (addr sel : Nat) (v : Int) (s : State) (h : effClassifier addr sel v s = some r) : Confined1 L K s r :=
  of_ite_some h (fun _ => .frame (effRulesApply_frame _) (by decide) (.refl _)) fun h =>
  of_ite_some h (fun _ => effRulesStore_confined _) fun h =>
  of_ite_some h (fun ha => effSlowPolicer_confined (by rcases ha with rfl | rfl <;> decide) _ _ _) fun h =>
  nomatch h

theorem shaperObj_ne_park (which : Nat) : shaperObj which ≠ Obj.PARK_SLOT := by
  unfold shaperObj
  split
  · decide
  · split <;> decide

theorem effShaper_confined (n which : Nat) (v : Int) (s : State) : Confined1 L K s (effShaper n which v s) := by
  have hset : Confined L K s (s.setObj (shaperObj which) n v) := .setObj (shaperObj_ne_park which) (.refl s)
  exact .ite (.pair (.frame (State.setQueue_frame _ _ _) (by decide) hset)) (.pair (.frame (takeShaper_frame _ _) (by decide) hset))

theorem frameBoundary_confined (s : State) (x : Nat) : Confined L K s (frameBoundary s x) := by
  unfold frameBoundary
  exact .foldl (fun u _ => .ite (.frame (takeShaper_frame _ _) (by decide) (.refl u)) (.refl u)) (.ite (.set_net (.foldl (fun
    u _ => .applyStagedAt (by decide) (.refl u)) (.refl _))) (.refl _))

theorem effTxqApply_confined (s : State) : Confined1 L K s (effTxqApply s) := by
  unfold effTxqApply
  exact .ite (.pair (.refl _)) (.pair (.foldl (fun u _ => .ite (.refl u) (.step (frameBoundary_confined _ _) (.refl u)))
    (.set_net (.refl _))))

theorem effGateApply_confined (x : Nat) (s : State) : Confined1 L K s (effGateApply x s) := by
  unfold effGateApply
  exact .ite (.pair (.refl _)) (.ite (.pair (.refl _)) (.ite (.pair (.refl _)) (.pair (.setObj (by decide) (.frame
    (State.setPortGates_frame _ _ _) (by decide) (.foldl (fun u _ => .unstage (.refl u)) (.refl _)))))))

theorem effPolicer_confined {addr : Nat} (ha : addr ≠ Obj.PARK_SLOT) (p : Nat) (v : Int) (s : State) : Confined1 L K s (effPolicer addr p v s) :=
  .pair (.set_net (.setObj ha (.refl s)))

theorem effQsamplePeriod_confined (v : Int) (s : State) : Confined1 L K s (effQsamplePeriod v s) := by
  unfold effQsamplePeriod
  exact .pair (.setObj (by decide) (.set_net (.frame (takePeriod_frame _) (by decide) (.refl _))))

theorem effQueues_confined {r : State × Verdict} (addr sel : Nat) (v : Int) (s : State) (h : effQueues addr sel v s = some r) : Confined1 L K s r :=
  of_ite_some h (fun _ => effShaper_confined _ _ _ _) fun h =>
  of_ite_some h (fun _ => effShaper_confined _ _ _ _) fun h =>
  of_ite_some h (fun _ => effShaper_confined _ _ _ _) fun h =>
  of_ite_some h (fun _ => effTxqApply_confined _) fun h =>
  of_ite_some h (fun _ => effGateApply_confined _ _) fun h =>
  of_ite_some h (fun ha => effPolicer_confined (by rcases ha with rfl | rfl <;> decide) _ _ _) fun h =>
  of_ite_some h (fun _ => effQsamplePeriod_confined _ _) fun h =>
  nomatch h

theorem effLaunchStart_confined (l : Nat) (s : State) : Confined1 L K s (effLaunchStart l s) := by
  unfold effLaunchStart
  exact .ite (.pair (.refl _)) (.ite (.pair (.refl _)) (.pair (.frame (State.updTime_frame _ _) (by decide) (.applyAllAt (by decide) (.refl _)))))

theorem effPulseApply_confined (k : Nat) (s : State) : Confined1 L K s (effPulseApply k s) := by
  unfold effPulseApply
  exact .ite (.pair (.refl _)) (.ite (.pair (.refl _)) (.pair (.frame (startPulse_frame _ _) (by decide) (.applyAllAt (by decide) (.refl _)))))

theorem setServo_confined (s : State) (v : Servo) : Confined L K s (setServo s v) := by
  unfold setServo
  exact .ite (.refl s) (.raiseA (.setObjN (by decide) (.frame (State.updTime_frame _ _) (by decide) (.refl s))))

theorem domainReset_confined (s : State) : Confined L K s (domainReset s) := by
  have hcleared : Confined L K s (domainCleared s) :=
    .foldl (fun u _ => .setObjN (by decide) (.refl u)) (.frame (State.updTime_frame _ _) (by decide) (setServo_confined s .unset))
  rw [domainReset_eq]
  exact .raiseA (.objs (clearGates_frame _) (by decide) (clearGates_objs _) (by decide) (.incWrap (by decide) hcleared))

theorem effTimeReset_confined (s : State) : Confined1 L K s (effTimeReset s) := by
  unfold effTimeReset
  exact .ite (.pair (.refl _)) (.pair (.step (domainReset_confined _) (.refl _)))

theorem setRate_confined (s : State) (r : Int) : Confined L K s (setRate s r) :=
  .objs (setRate_frame s r) (by decide) (setRate_objs s r) (by decide) (.refl s)

theorem effTimeRate_confined (r : Int) (s : State) : Confined1 L K s (effTimeRate r s) := by
  unfold effTimeRate
  exact .ite (.pair (.refl _)) (.pair (.frame (State.updTime_frame _ _) (by decide) (.step (setRate_confined _ _) (.refl _))))

theorem effTime_confined {r : State × Verdict} (addr sel : Nat) (v : Int) (s : State) (h : effTime addr sel v s = some r) : Confined1 L K s r :=
  of_ite_some h (fun _ => effTimeRate_confined _ _) fun h =>
  of_ite_some h (fun _ => effTimeReset_confined _) fun h =>
  of_ite_some h (fun _ => effPulseApply_confined _ _) fun h =>
  of_ite_some h (fun _ => .ite (effLaunchStart_confined _ _) (.frame (effLaunchStop_frame _ _) (by decide) (.refl _))) fun h =>
  nomatch h

theorem restartGroup_confined (s : State) : Confined L K s (restartGroup s) := by
  unfold restartGroup
  exact .step (autoStore_confined _ _) (.set_ex (.refl _))

theorem rotateKey_confined (s : State) (k : Nat) (key : List Byte) : Confined L K s (rotateKey s k key) := by
  unfold rotateKey
  exact .ite (.step (restartGroup_confined _) (.raiseA (.setObjN (by decide) (.unstage (.set_ex (.refl _)))))) (.raiseA
    (.setObjN (by decide) (.unstage (.set_ex (.refl _)))))

theorem effKeyApply_confined (k : Nat) (s : State) : Confined1 L K s (effKeyApply k s) := by
  unfold effKeyApply
  split
  · exact .pair (.refl _)
  · exact .ite (.pair (.refl _)) (.ite (.pair (.refl _)) (.pair (.step (autoStore_confined _ _) (.step (rotateKey_confined _ _
    _) (.refl _)))))

theorem closeSession_confined (s : State) (num : Nat) (reason : Nat) : Confined L K s (closeSession s num reason) := by
  unfold closeSession
  conv => zeta
  split
  · exact .refl _
  · exact .raiseA (.set_ex (.step (abandonLoad_confined _ _ _) (.refl _)))

theorem answer_confined (s : State) (sess : Nat) (req : Nat) (addr : Nat) (sel : Nat) (reply : Reply) : Confined L K s (answer
  s sess req addr sel reply) :=
  .kept (answer_frame s sess req addr sel reply) (by decide) (answer_objs s sess req addr sel reply) (.refl s)

theorem effSessionClose_confined (sess : Nat) (req : Nat) (addr : Nat) (target : Nat) (s : State) : Confined1 L K s
  (effSessionClose sess req addr target s) := by
  unfold effSessionClose
  exact .ite (.pair (.refl _)) (.ite (.pair (.step (closeSession_confined _ _ _) (.step (answer_confined _ _ _ _ _ _) (.refl
    _)))) (.pair (.step (closeSession_confined _ _ _) (.refl _))))

theorem effExvan_confined {r : State × Verdict} (sess req addr : Nat) (v : Int) (s : State) (h : effExvan sess req addr v s = some r) : Confined1 L K s r :=
  of_ite_some h (fun _ => effSessionClose_confined _ _ _ _ _) fun h =>
  of_ite_some h (fun _ => effKeyApply_confined _ _) fun h =>
  nomatch h

theorem effArbReset_confined (s : State) : Confined1 L K s (effArbReset s) := by
  unfold effArbReset
  exact .ite (.pair (.refl _)) (.pair (.set_mat (.foldl (fun u _ => .frame (State.unfault_frame _ _) (by decide) (.setObjN (by
    decide) (.refl u))) (.refl _))))

theorem effParkInitiator_confined (t : Nat) (v : Int) (s : State) : Confined1 L K s (effParkInitiator t v s) := by
  unfold effParkInitiator
  exact .ite (.pair (.refl _)) (.pair (.frame (rePark_frame _) (by decide) (.setObj (by decide) (.refl _))))

theorem effMatrix_confined {r : State × Verdict} (addr sel : Nat) (v : Int) (s : State) (h : effMatrix addr sel v s = some r) : Confined1 L K s r :=
  of_ite_some h (fun _ => effArbReset_confined _) fun h =>
  of_ite_some h (fun _ => effParkInitiator_confined _ _ _) fun h =>
  nomatch h

theorem closeIfSpent_confined (s : State) (sess : Nat) : Confined L K s (closeIfSpent s sess) := by
  unfold closeIfSpent
  split
  · exact .ite (.step (closeSession_confined _ _ _) (.refl _)) (.refl _)
  · exact .refl _

theorem groupAnswer_confined (s : State) (a : Answer) : Confined L K s (groupAnswer s a) :=
  .objs (groupAnswer_frame s a) (by decide) (groupAnswer_objs s a) (by decide) (.refl s)

theorem nakUnsolicited_confined (s : State) (sess : Nat) (req : Nat) (n : Nak) (detail : Nat) : Confined L K s (nakUnsolicited
  s sess req n detail) := by
  unfold nakUnsolicited
  conv => zeta
  split
  · exact .step (closeIfSpent_confined _ _) (.frame (State.setSession_frame _ _ _) (by decide) (.frame (sendAnswer_frame _ _
    _) (by decide) (.refl _)))
  · exact .ite (.step (groupAnswer_confined _ _) (.refl _)) (.refl _)

theorem slotAfter_confined (s : State) (slot : Nat) : Confined L K s (slotAfter s slot) := by
  unfold slotAfter
  exact .ite (.invalidate (.set_mat (.refl _))) (.refl _)

theorem updateLog_confined (s : State) (n : Nat) (e : LogEntry) : Confined L K s (updateLog s n e) :=
  .objs (updateLog_frame s n e) (by decide) (updateLog_objs s n e) (by decide) (.refl s)

theorem sendPeerAbort_confined (s : State) (c : Commit) : Confined1 L K s (sendPeerAbort s c) :=
  .objs (sendPeerAbort_frame s c) (by decide) (sendPeerAbort_objs s c) (by decide) (.refl s)

theorem answerFrom_confined (source : Nat) (cached : Bool) (s : State) (sess : Nat) (req : Nat) (addr : Nat) (sel : Nat)
  (reply : Reply) : Confined L K s (answerFrom source cached s sess req addr sel reply) :=
  .kept (answerFrom_frame source cached s sess req addr sel reply) (by decide) (answerFrom_objs source cached s sess req addr
    sel reply) (.refl s)

theorem answerCommit_confined (s : State) (sess : Nat) (req : Nat) (reply : Reply) : Confined L K s (answerCommit s sess req
  reply) := by
  unfold answerCommit
  exact .step (closeIfSpent_confined _ _) (.step (answerFrom_confined _ _ _ _ _ _ _ _) (.refl _))

theorem refuseHeld_confined (s : State) (h : HeldPrepare) (n : Nak) : Confined L K s (refuseHeld s h n) := by
  unfold refuseHeld
  exact .step (answerCommit_confined _ _ _ _) (.set_com (.step (withdraw_confined _ _ _) (.refl _)))

theorem abandon_confined (s : State) (c : Commit) (why : Outc) : Confined L K s (abandon s c why) := by
  unfold abandon
  conv => zeta
  split
  split
  · refine .step (nakUnsolicited_confined _ _ _ _ _) ?_
    refine .step (slotAfter_confined _ _) ?_
    refine .raiseA ?_
    refine .frame (State.capNote_frame _ _) (by decide) ?_
    refine .incSat (by decide) ?_
    refine .step (releaseGrant_confined _ _ _) ?_
    refine .step (updateLog_confined _ _ _) ?_
    refine .fst (by assumption) ?_
    refine .ite ?_ (.pair (.foldl (fun u _ => .step (refuseHeld_confined _ _ _) (.refl u)) (.frame (State.dropCommit_frame _
      _) (by decide) (.refl _))))
    split
    exact .pair (.fst (by assumption) (.step (sendPeerAbort_confined _ _) (.foldl (fun u _ => .step (refuseHeld_confined _ _
      _) (.refl u)) (.frame (State.dropCommit_frame _ _) (by decide) (.refl _)))))
  · refine .step (slotAfter_confined _ _) ?_
    refine .raiseA ?_
    refine .frame (State.capNote_frame _ _) (by decide) ?_
    refine .incSat (by decide) ?_
    refine .step (releaseGrant_confined _ _ _) ?_
    refine .step (updateLog_confined _ _ _) ?_
    refine .fst (by assumption) ?_
    refine .ite ?_ (.pair (.foldl (fun u _ => .step (refuseHeld_confined _ _ _) (.refl u)) (.frame (State.dropCommit_frame _
      _) (by decide) (.refl _))))
    split
    exact .pair (.fst (by assumption) (.step (sendPeerAbort_confined _ _) (.foldl (fun u _ => .step (refuseHeld_confined _ _
      _) (.refl u)) (.frame (State.dropCommit_frame _ _) (by decide) (.refl _)))))

theorem refuseAllHeld_confined (s : State) : Confined L K s (refuseAllHeld s) := by
  unfold refuseAllHeld
  exact .foldl (fun u _ => .step (refuseHeld_confined _ _ _) (.refl u)) (.refl _)

theorem stopCal_confined (s : State) : Confined L K s (stopCal s) :=
  .objs (stopCal_frame s) (by decide) (stopCal_objs s) (by decide) (.refl s)

theorem settleOwed_confined (s : State) (kind : OwedKind) (reply : Reply) : Confined L K s (settleOwed s kind reply) := by
  unfold settleOwed
  exact .foldl (fun u _ => .step (closeIfSpent_confined _ _) (.step (answer_confined _ _ _ _ _ _) (.refl u))) (.set_ex (.refl
    _))

theorem State.enter_confined (s : State) (d : DevState) : Confined L K s (State.enter s d) :=
  .objs (State.enter_frame s d) (by decide) (enter_objs s d) (by decide) (.refl s)

theorem beginDrain_confined (s : State) : Confined L K s (beginDrain s) := by
  unfold beginDrain
  exact .foldl (fun u _ => .step (abandon_confined _ _ _) (.refl u)) (.step (refuseAllHeld_confined _) (.step
    (stopCal_confined _) (.step (settleOwed_confined _ _ _) (.set_dev (.frame (State.fault_frame _ _) (by decide) (.step
    (State.enter_confined _ _) (.refl _)))))))

theorem effDrain_confined (s : State) : Confined1 L K s (effDrain s) := by
  unfold effDrain
  exact .ite (.pair (.step (beginDrain_confined _) (.refl _))) (.pair (.refl _))

theorem effDeviceCommand_confined (v : Int) (s : State) : Confined1 L K s (effDeviceCommand v s) := by
  unfold effDeviceCommand
  exact .ite (.frame (effPark_frame _) (by decide) (.refl _)) (.ite (.step (effDrain_confined _) (.refl _)) (.ite (.frame
    (effResume_frame _) (by decide) (.refl _)) (.ite (.frame (effReset_frame _ _) (by decide) (.refl _)) (.frame (effReset_frame
    _ _) (by decide) (.refl _)))))

theorem effLoadData_confined (hKL : K ⊆ L) (sess : Nat) (b : List Byte) (s : State) : Confined1 L K s (effLoadData sess b s) := by
  unfold effLoadData
  split
  · exact .pair (.refl s)
  · next l hl =>
    intro hs
    have hsess : l.session = some sess := by simpa using List.find?_some hl
    have hslot : l.slot ∈ L := hKL (hs.loads l (List.mem_of_find?_eq_some hl) (by rw [hsess]; rfl))
    refine Confined.slotWrite hslot (Confined.mapLoads (fun l => ?_) (.refl s)) hs
    split <;> exact ⟨rfl, rfl⟩

theorem effFwData_confined (n : Nat) (bytes : List Byte) (s : State) : Confined1 L K s (effFwData n bytes s) := by
  unfold effFwData
  conv => zeta
  split
  · exact .pair (.refl _)
  · exact .ite (.pair (.refl _)) (.pair (.step (autoStore_confined _ _) (.frame (State.setFwBank_frame _ _ _) (by decide)
    (.refl _))))

theorem driveRefused_confined (s : State) (n : Nak) (idx : Nat) : Confined1 L K s (driveRefused s n idx) := by
  unfold driveRefused
  exact .pair (.raiseA (.incSat (by decide) (.refl _)))

theorem effHostDrive_confined (recs : List DriveRec) (s : State) : Confined1 L K s (effHostDrive recs s) := by
  unfold effHostDrive
  refine .ite (.pair (.refl _)) ?_
  conv => zeta
  split
  · exact .step (driveRefused_confined _ _ _) (.refl _)
  · split
    exact .ite (.pair (.set_loops (.incSat (by decide) (.fst (by assumption) (.step (grantNow_confined _ _) (.refl _))))))
      (.step (driveRefused_confined _ _ _) (.fst (by assumption) (.step (grantNow_confined _ _) (.refl _))))

theorem State.stepCommit_confined (s : State) (c : Commit) : Confined L K s (State.stepCommit s c) := by
  unfold State.stepCommit
  exact .step (updateLog_confined _ _ _) (.frame (State.putCommit_frame _ _) (by decide) (.refl _))

theorem armCommit_confined (s : State) (sess : Nat) (req : Nat) (c : Commit) (t : Int) (peer : Bool) (next : Option Commit) :
  Confined L K s (armCommit s sess req c t peer next) := by
  unfold armCommit
  refine .step (answerCommit_confined _ _ _ _) ?_
  refine .step (State.stepCommit_confined _ _) ?_
  split
  · exact .step (State.stepCommit_confined _ _) (.refl _)
  · exact .refl _

theorem armPlanned_confined (s : State) (h : HeldPrepare) (plan : Option (Commit × Option Commit)) : Confined1 L K s
  (armPlanned s h plan) := by
  unfold armPlanned
  split
  · exact .pair (.step (armCommit_confined _ _ _ _ _ _ _) (.incSat (by decide) (.refl _)))
  · exact .pair (.step (answerCommit_confined _ _ _ _) (.incSat (by decide) (.refl _)))

theorem armUnless_confined (s : State) (h : HeldPrepare) (nak : Option Nak) : Confined1 L K s (armUnless s h nak) := by
  unfold armUnless
  split
  · exact .pair (.step (answerCommit_confined _ _ _ _) (.refl _))
  · exact .step (armPlanned_confined _ _ _) (.refl _)

theorem grantArm_confined (s : State) (h : HeldPrepare) : Confined1 L K s (grantArm s h) := by
  unfold grantArm
  exact .step (armUnless_confined _ _ _) (.refl _)

theorem ringAll_confined (s : State) (takes : Ring → Bool) (kind : Nat) (flags : Nat) (time : Int) (body : List Byte) :
  Confined L K s (ringAll s takes kind flags time body) :=
  .objs (ringAll_frame s takes kind flags time body) (by decide) (ringAll_objs s takes kind flags time body) (by decide)
    (.refl s)

theorem setLog_confined (s : State) (n : Nat) (e : LogEntry) : Confined L K s (setLog s n e) := by
  unfold setLog
  exact .step (ringAll_confined _ _ _ _ _ _) (.set_com (.refl _))

theorem State.newLog_confined (s : State) (c : Commit) : Confined L K s (State.newLog s c) := by
  unfold State.newLog
  exact .step (setLog_confined _ _ _) (.set_com (.refl _))

theorem acceptPrepare_confined (s : State) (c : Commit) : Confined L K s (acceptPrepare s c) := by
  unfold acceptPrepare
  exact .step (answerCommit_confined _ _ _ _) (.step (State.newLog_confined _ _) (.refl _))

theorem grantPrepare_confined (s : State) (h : HeldPrepare) (r : GReq) : Confined L K s (grantPrepare s h r) := by
  unfold grantPrepare
  exact .ite (.step (acceptPrepare_confined _ _) (.step (issueGrant_confined _ _) (.refl _))) (.step (answerCommit_confined _
    _ _ _) (.refl _))

theorem grantReq_confined (s : State) (r : GReq) : Confined1 L K s (grantReq s r) := by
  unfold grantReq
  split
  · exact .ite (.step (grantArm_confined _ _) (.frame (State.dropHeld_frame _ _) (by decide) (.refl _))) (.pair (.step
    (grantPrepare_confined _ _ _) (.frame (State.dropHeld_frame _ _) (by decide) (.refl _))))
  · exact .pair (.ite (.refl _) (.step (issueGrant_confined _ _) (.refl _)))

theorem grantEntry_confined (s : State) (n : Nat) (r : GReq) : Confined L K s (grantEntry s n r) := by
  unfold grantEntry
  split
  exact .step (closeReq_confined _ _ _) (.fst (by assumption) (.step (grantReq_confined _ _) (.refl _)))

theorem refuseReq_confined (s : State) (r : GReq) : Confined L K s (refuseReq s r) := by
  unfold refuseReq
  conv => zeta
  split
  · exact .step (answerCommit_confined _ _ _ _) (.frame (State.dropHeld_frame _ _) (by decide) (.incSat (by decide) (.refl _)))
  · split
    · exact .ite (.step (abortCal_confined _ _) (.incSat (by decide) (.refl _))) (.incSat (by decide) (.refl _))
    · exact .incSat (by decide) (.refl _)

theorem decideReq_confined (fits : State → GReq → Bool) (grant : Bool) (s : State) (n : Nat) (r : GReq) : Confined L K s
  (decideReq fits grant s n r) := by
  unfold decideReq
  refine .ite ?_ (.step (refuseReq_confined _ _) (.step (closeReq_confined _ _ _) (.refl _)))
  split
  exact .ite (.step (grantEntry_confined _ _ _) (.step (closeReq_confined _ _ _) (.fst (by assumption) (.step
    (steadyDecides_confined _ _) (.refl _))))) (.step (refuseReq_confined _ _) (.step (closeReq_confined _ _ _) (.fst (by
    assumption) (.step (steadyDecides_confined _ _) (.refl _)))))

theorem effGrantDecide_confined (seq : Nat) (through : Bool) (grant : Bool) (s : State) : Confined1 L K s (effGrantDecide seq
  through grant s) := by
  unfold effGrantDecide
  refine .ite (.pair (.refl _)) ?_
  split
  · exact .pair (.refl _)
  · exact .pair (.step (refill_confined _) (.foldl (fun u _ => .step (decideReq_confined _ _ _ _ _) (.refl u)) (.refl _)))

theorem takeSlow_confined (s : State) (e : Nat × Nat × RxFrame) : Confined L K s (takeSlow s e) := by
  unfold takeSlow
  exact .ite (.frame (answerFrame_frame _ _) (by decide) (.inc64 (by decide) (.refl _))) (.inc64 (by decide) (.refl _))

theorem rejectFrame_confined {counter : Nat} (hc : counter ∈ exvanObjs) (s : State) (check : Nat) : Confined L K s (rejectFrame s counter check) :=
  .objs (rejectFrame_frame s counter check) (by decide) (rejectFrame_objs s counter check hc) (by decide) (.refl s)

theorem receiveOpen_confined (s : State) (f : RxFrame) (p : List Byte) : Confined L K s (receiveOpen s f p) :=
  .objs (receiveOpen_frame s f p) (by decide) (receiveOpen_objs s p) (by decide) (.refl s)

theorem seen_confined (s : State) (sess : Nat) : Confined L K s (seen s sess) := .frame (seen_frame s sess) (by decide) (.refl s)

theorem serveRetry_confined (s : State) (source : Nat) (x : Session) (e : CacheEntry) : Confined L K s (serveRetry s source x e) :=
  .inc64 (by decide) (answerFrom_confined source false s _ _ _ _ _)

/-- A request is carried out on the state in which its frame has been noted, if it is. -/
theorem request_confined {s : State} {sess req : Nat} {lane : Lane} {c : Instr} {carry : State → Nat → State}
    (hc : ∀ level, Confined L K (seen s sess) (carry (seen s sess) level)) : Confined L K s (request s sess req lane c carry) := by
  have hlast : ∀ {p : Prop} [Decidable p] (u : State), Confined L K s u → Confined L K s (if p then closeIfSpent u sess else u) :=
    fun u hu => .ite (.step (closeIfSpent_confined u sess) hu) hu
  have hseen : Confined L K s (seen s sess) := seen_confined s sess
  unfold request
  cases hx : s.session sess with
  | none =>
    have hs : seen s sess = s := by rw [seen]; simp only [hx]
    have hcarry := hc 1
    rw [hs] at hcarry
    exact .ite (.ite (.set_ex (.refl s)) hcarry) (.objs (dropSession_frame s) (by decide) (dropSession_objs s) (by decide) (.refl s))
  | some p =>
    obtain ⟨i, x⟩ := p
    have hs : seen s sess = s.setSession i { x with lastFrame := s.tick } := seen_eq_setSession hx
    rw [hs] at hseen hc
    have hcarried := fun level => Confined.step (hc level) hseen
    dsimp only
    split
    · exact hlast _ (.step (serveRetry_confined _ _ _ _) hseen)
    · refine .ite hseen (.ite (hlast _ (hcarried _)) (.ite (.ite ?_ ?_) (hlast _ (hcarried _))))
      · exact .frame (State.setSession_frame _ _ _) (by decide) hseen
      · exact hlast _ (.step (answerFrom_confined _ _ _ _ _ _ _ _) hseen)

theorem answerMalformed_confined (s : State) (sess : Nat) (p : List Byte) : Confined L K s (answerMalformed s sess p) :=
  .ite (.refl s) (.ite (request_confined fun _ => answerCommit_confined _ _ _ _)
    (.ite (answerCommit_confined _ _ _ _) (request_confined fun _ => answer_confined _ _ _ _ _ _)))

theorem receiveGroup_confined (s : State) (f : RxFrame) (p : List Byte) : Confined L K s (receiveGroup s f p) := by
  unfold receiveGroup
  refine .ite (rejectFrame_confined (by decide) s _) (.ite (rejectFrame_confined (by decide) s _) (.ite (rejectFrame_confined (by decide) s _) ?_))
  split
  exact .step (answerMalformed_confined _ _ _) (.set_net (.frame (State.setGroupWin_frame _ _) (by decide) (.refl s)))

theorem receiveSession_confined (s : State) (f : RxFrame) (p : List Byte) (i : Nat) (x : Session) :
    Confined L K s (receiveSession s f p i x) := by
  unfold receiveSession
  refine .ite (rejectFrame_confined (by decide) s _) (.ite (rejectFrame_confined (by decide) s _) (.ite (rejectFrame_confined (by decide) s _) ?_))
  split
  extract_lets o y v n w
  have hw : Confined L K s w :=
    .step (answerMalformed_confined _ _ _) (.set_net (.frame (State.setSession_frame s i y) (by decide) (.refl s)))
  exact .ite (.step (closeSession_confined _ _ _) hw) hw

theorem exvanReceive_confined (s : State) (f : RxFrame) : Confined L K s (exvanReceive s f) := by
  unfold exvanReceive
  refine .ite (rejectFrame_confined (by decide) s _) (.ite (rejectFrame_confined (by decide) s _)
    (.ite (.ite (receiveOpen_confined _ _ _) (rejectFrame_confined (by decide) s _))
      (.ite (.ite (receiveGroup_confined _ _ _) (rejectFrame_confined (by decide) s _)) ?_)))
  split
  · exact .ite (receiveSession_confined _ _ _ _ _) (rejectFrame_confined (by decide) s _)
  · exact rejectFrame_confined (by decide) s _

theorem serveClass_confined (exvan : SMap (List RxFrame)) (slow : List (Nat × Nat × RxFrame)) (s : State) (c : Nat) : Confined
  L K s (serveClass exvan slow s c) := by
  unfold serveClass
  exact .foldl (fun u _ => .step (takeSlow_confined _ _) (.refl u)) (.foldl (fun u _ => .step (exvanReceive_confined _ _)
    (.refl u)) (.refl _))

theorem serveClasses_confined (s : State) : Confined L K s (serveClasses s) := by
  unfold serveClasses
  conv => zeta
  split
  · exact .refl _
  · exact .foldl (fun u _ => .step (serveClass_confined _ _ _ _) (.refl u)) (.set_net (.refl _))

theorem toExvan_confined (s : State) (f : RxFrame) (cls : Nat) : Confined L K s (toExvan s f cls) := by
  unfold toExvan
  exact .ite (.step (serveClasses_confined _) (.set_net (.refl _))) (.inc64 (by decide) (.refl _))

theorem slowEvent_confined (s : State) (r : Nat) : Confined L K s (slowEvent s r) := by
  unfold slowEvent
  exact .ite (.raiseS (.set_net (.refl _))) (.refl _)

theorem toSlow_confined (s : State) (r : Nat) (why : Nat) (f : RxFrame) : Confined L K s (toSlow s r why f) := by
  unfold toSlow
  exact .ite (.step (slowEvent_confined _ _) (.inc64 (by decide) (.set_net (.refl _)))) (.ite (.step (serveClasses_confined _)
    (.set_net (.set_net (.refl _)))) (.step (slowEvent_confined _ _) (.inc64 (by decide) (.set_net (.refl _)))))

theorem deliver_confined (s : State) (f : RxFrame) (action : Nat) (cls : Nat) (reason : Nat) (why : Nat) : Confined L K s
  (deliver s f action cls reason why) := by
  unfold deliver
  split
  · exact .refl _
  · exact .step (toExvan_confined _ _ _) (.refl _)
  · exact .frame (toPtp_frame _ _) (by decide) (.refl _)
  · exact .step (toSlow_confined _ _ _ _) (.refl _)

theorem decideHeld_confined (s : State) (seq : Nat) (action : Nat) (cls : Nat) (through : Bool) : Confined L K s (decideHeld s
  seq action cls through) := by
  unfold decideHeld
  conv => zeta
  split
  · exact .refl _
  · exact .foldl (fun u _ => .step (deliver_confined _ _ _ _ _ _) (.refl u)) (.frame (State.keepHeld_frame _ _) (by decide)
    (.refl _))

theorem effClassDecide_confined (seq : Nat) (action : Nat) (cls : Nat) (flags : Nat) (s : State) : Confined1 L K s
  (effClassDecide seq action cls flags s) := by
  unfold effClassDecide
  exact .ite (.pair (.refl _)) (.ite (.pair (.refl _)) (.ite (.pair (.refl _)) (.pair (.step (decideHeld_confined _ _ _ _ _)
    (.frame (noteMissed_frame _) (by decide) (.refl _))))))

theorem keepOct_confined {s : State} {p : State × Verdict} (addr sel : Nat) (b : List Byte) (h : Confined1 L K s p) :
    Confined1 L K s (keepOct addr sel b p) := by
  obtain ⟨t, w⟩ := p
  cases w with
  | nak => exact h
  | ack => exact .setOct h
  | owe => exact .setOct h

theorem effBytes_confined (hKL : K ⊆ L) (sess addr sel : Nat) (b : List Byte) (s : State) : Confined1 L K s (effBytes sess addr sel b s) := by
  unfold effBytes
  refine .ite (effLoadData_confined hKL _ _ _) (.ite (effFwData_confined _ _ _) (.ite (keepOct_confined _ _ _ (effHostDrive_confined _ _))
    (.ite (keepOct_confined _ _ _ (effGrantDecide_confined _ _ _ _)) (.ite (keepOct_confined _ _ _ (effClassDecide_confined _ _ _ _ _))
      (.ite (.frame (effShadowNode_frame _ _ _) (by decide) (.refl s)) (.ite (.frame (effShadowBank_frame _ _) (by decide) (.refl s))
        (.ite (.frame (effRingChannels_frame _ _ _) (by decide) (.refl s)) ?_)))))))
  split
  · exact .ite (.pair (.frame (State.stageOct_frame _ _ _ _) (by decide) (.refl s))) (.pair (.setOct (.refl s)))
  · exact .pair (.refl s)

end

end Sys2Proof.Proofs

/-!
SUPPORT. The slots that a write of objects may store to, one or several, or by blocks; and those of a park application.
-/

-- One proof at a time: side by side they ask for more threads than the memory limit of a check allows.
set_option Elab.async false

namespace Sys2Proof.Proofs

open Sys2Proof Sys2Proof.Machine Sys2Proof.Laws

/-! ### The value of an object -/

section

variable {L K : List Nat} {addr : Nat} {v : Int}

theorem mem_slotNamed_of (h : addr = Obj.LOAD_SLOT ∨ addr = Obj.ERASE_SLOT ∨ addr = Obj.REVALIDATE ∨ addr = Obj.PARK_SLOT) :
    v.toNat ∈ slotNamed addr v := by
  rw [slotNamed, if_pos h]
  exact List.mem_singleton_self _

theorem effOwn_confined {r : State × Verdict} (hload : addr = Obj.LOAD_SLOT → v.toNat ∈ K) (hnamed : slotNamed addr v ⊆ L)
    (sess req sel : Nat) (s : State) (h : effOwn sess req addr sel v s = some r) : Confined1 L K s r := by
  unfold effOwn at h
  split at h
  · split at h
    · next hn =>
      cases h
      exact effFuncMode_confined (by omega) _ _
    · contradiction
  · exact effFlash_confined _ _ _ h
  · exact effFabric_confined _ _ _ _ h
  · exact effLibrary_confined hload (fun ha => hnamed (mem_slotNamed_of (.inr (.inr (.inl ha))))) _ _ _ h
  · exact effLoops_confined _ _ _ _ h
  · exact effDatapath_confined _ _ _ _ h
  · exact effDrive_confined _ _ _ _ h
  · exact effMonitor_confined _ _ _ _ h
  · exact effCal_confined _ _ _ h
  · exact effSteady_confined _ _ _ _ h
  · exact effLobes_confined _ _ _ _ h
  · exact effCapture_confined _ _ _ _ h
  · exact effPorts_confined _ _ _ _ h
  · exact effClassifier_confined _ _ _ _ h
  · exact effQueues_confined _ _ _ _ h
  · exact effTime_confined _ _ _ _ h
  · exact effExvan_confined _ _ _ _ _ h
  · exact effMatrix_confined _ _ _ _ h
  · split at h
    · cases h
      exact effDeviceCommand_confined _ _
    · contradiction
  · contradiction

theorem effNumber_confined (hload : addr = Obj.LOAD_SLOT → v.toNat ∈ K) (hnamed : slotNamed addr v ⊆ L) (sess req sel : Nat) (s : State) :
    Confined1 L K s (effNumber sess req addr sel v s) := by
  have hpark (ha : addr = Obj.PARK_SLOT) : v.toNat ∈ L := hnamed (mem_slotNamed_of (.inr (.inr (.inr ha))))
  unfold effNumber
  split
  · exact effOwn_confined hload hnamed _ _ _ _ (by assumption)
  · split
    · exact .ite (.pair (.frame (State.stage_frame _ _ _ _) (by decide) (.refl s)))
        (.ite (.pair (.setNamed hpark (.through (t := s) rfl rfl rfl (.refl s)))) (.pair (.setNamed hpark (.refl s))))
    · exact .pair (.refl s)

/-- The bytes of a value name the slots that its write may store to. -/
theorem writeValue_confined {b : List Byte} (hKL : K ⊆ L) (hload : addr = Obj.LOAD_SLOT → slotOfBytes addr b ⊆ K) (hnamed : slotOfBytes addr b ⊆ L)
    (sess req sel : Nat) (s : State) : Confined1 L K s (writeValue sess req addr sel b s) := by
  unfold writeValue
  cases hd : objDef addr with
  | none => exact .pair (.refl s)
  | some d =>
    have hslots : slotOfBytes addr b = slotNamed addr (valueOf d.type b) := by rw [slotOfBytes, hd]
    rw [hslots] at hload hnamed
    exact .ite (effBytes_confined hKL _ _ _ _ _)
      (effNumber_confined (fun ha => hload ha (mem_slotNamed_of (.inl ha))) hnamed _ _ _ _)

end

/-! ### Requests that write -/

section

variable {L K : List Nat} {s : State} {sess req : Nat}

theorem State.owe_confined (s : State) (k : OwedKind) (sess req addr sel : Nat) : Confined L K s (s.owe k sess req addr sel) :=
  .frame (State.owe_frame _ _ _ _ _ _) (by decide) (.refl s)

theorem conclude_confined {addr sel : Nat} {p : State × Verdict} (h : Confined1 L K s p) : Confined L K s (conclude sess req addr sel p) := by
  obtain ⟨t, w⟩ := p
  cases w with
  | ack => exact .step (answer_confined _ _ _ _ _ _) h
  | nak => exact .step (answer_confined _ _ _ _ _ _) h
  | owe => exact .step (State.owe_confined _ _ _ _ _ _) h

theorem hostWrite_confined {addr sel : Nat} {v : Int} {eff : State → State × Verdict} (he : ∀ t, Confined1 L K t (eff t)) :
    Confined L K s (hostWrite s sess addr sel v eff) := by
  refine request_confined fun level => conclude_confined ?_
  split
  · exact .pair (.refl _)
  · exact .ite (.pair (.refl _)) (he _)

theorem writeEntries_confined {level : Nat} {s0 : State} {l : List WriteEntry} {i : Nat} {k : Option OwedKind}
    (hw : ∀ e ∈ l, ∀ t, Confined1 L L t (writeValue sess req e.addr e.sel e.value t)) (h : Confined L L s0 s) :
    Confined L L s0 (endState (writeEntries s0 sess req level l i k s)) := by
  induction l generalizing i k s with
  | nil => exact h
  | cons e l ih =>
    have hrest := fun e he => hw e (List.mem_cons_of_mem _ he)
    have hone := fun t => hw e List.mem_cons_self t
    unfold writeEntries
    split
    · exact .refl s0
    · split
      · exact ih hrest (.fst (by assumption) (.step (hone s) h))
      · exact ih hrest (.fst (by assumption) (.step (hone s) h))
      · split
        · exact .fst (by assumption) (hone s0)
        · exact .refl s0

theorem writeNow_confined {entries : List WriteEntry} (hslots : (entries.flatMap fun e => slotOfBytes e.addr e.value) ⊆ L) (s : State) (level : Nat) :
    Confined L L s (writeNow s sess req level entries) := by
  have hw (e : WriteEntry) (he : e ∈ entries) (t : State) : Confined1 L L t (writeValue sess req e.addr e.sel e.value t) := by
    have hone : slotOfBytes e.addr e.value ⊆ L := fun n hn => hslots (List.mem_flatMap.mpr ⟨e, he, hn⟩)
    exact writeValue_confined (List.Subset.refl L) (fun _ => hone) hone _ _ _ _
  have hend {e : WriteEnd} (he : writeEntries s sess req level entries 0 none s = e) : Confined L L s (endState e) :=
    he ▸ writeEntries_confined hw (.refl s)
  unfold writeNow
  refine .ite (answer_confined _ _ _ _ _ _) ?_
  split
  · next he => exact .step (answer_confined _ _ _ _ _ _) (hend he)
  · next he => exact .step (State.owe_confined _ _ _ _ _ _) (hend he)
  · next he => exact .step (answer_confined _ _ _ _ _ _) (hend he)

end

/-! ### Values written by blocks -/

section

variable {L : List Nat} {s : State} {sess req level addr sel : Nat}

theorem blockWhole_confined {b : List Byte} (hslots : slotOfBytes addr b ⊆ L) (s : State) :
    Confined L L s (blockWhole s sess req level addr sel b) := by
  have hw : Confined1 L L s (writeValue sess req addr sel b s) :=
    writeValue_confined (List.Subset.refl L) (fun _ => hslots) hslots _ _ _ _
  unfold blockWhole
  split
  · exact answer_confined _ _ _ _ _ _
  · split
    · exact .step (answer_confined _ _ _ _ _ _) (.fst (by assumption) hw)
    · exact .step (answer_confined _ _ _ _ _ _) (.fst (by assumption) hw)
    · exact .step (State.owe_confined _ _ _ _ _ _) (.fst (by assumption) hw)

theorem touchLoad_confined (s : State) (sess addr : Nat) : Confined L L s (touchLoad s sess addr) := by
  refine .ite (Confined.mapLoads (fun l => ?_) (.refl s)) (.refl s)
  split <;> exact ⟨rfl, rfl⟩

theorem storeChunk_confined {b : BlockBuf} (hslots : slotOfBytes b.addr b.bytes ⊆ L) (s : State) :
    Confined L L s (storeChunk s sess req level b) := by
  have htouch (i : Nat) (x : Session) : Confined L L s (touchLoad (s.setSession i x) sess b.addr) :=
    .step (touchLoad_confined _ _ _) (.frame (State.setSession_frame _ _ _) (by decide) (.refl s))
  unfold storeChunk
  split
  · exact .refl s
  · exact .ite (.step (answer_confined _ _ _ _ _ _) (htouch _ _)) (.step (blockWhole_confined hslots _) (htouch _ _))

theorem blockSoFar_seen (s : State) (sess offset : Nat) (bytes : List Byte) :
    (seen s sess).blockSoFar sess offset bytes = s.blockSoFar sess offset bytes := by
  cases hx : s.session sess with
  | none => rw [show seen s sess = s by rw [seen]; simp only [hx]]
  | some p =>
    obtain ⟨i, x⟩ := p
    have hsession : (seen s sess).session sess = some (i, { x with lastFrame := s.tick }) := by
      rw [seen_eq_setSession hx]
      exact session_setSession_same hx (show x.num = sess from session_num hx)
    rw [State.blockSoFar, State.blockSoFar, hsession, hx]
    rfl

theorem blockWriteNow_confined {offset total : Nat} {bytes : List Byte} (hslots : slotOfBytes addr (s.blockSoFar sess offset bytes) ⊆ L) :
    Confined L L s (blockWriteNow s sess req level addr sel offset total bytes) := by
  have hset (i : Nat) (x : Session) : Confined L L s (s.setSession i x) := .frame (State.setSession_frame _ _ _) (by decide) (.refl s)
  have hnak (t : State) (n : Nak) (h : Confined L L s t) : Confined L L s (answer t sess req 0 0 (.nak n 0 0)) :=
    .step (answer_confined _ _ _ _ _ _) h
  unfold blockWriteNow
  conv => zeta
  cases hx : s.session sess with
  | none => exact .refl s
  | some p =>
    obtain ⟨i, x⟩ := p
    refine .ite (hnak s _ (.refl s)) ?_
    by_cases hoff : offset = 0
    · rw [State.blockSoFar, if_pos hoff] at hslots
      rw [if_pos hoff]
      exact .ite (hnak _ _ (hset _ _)) (.ite (hnak _ _ (hset _ _)) (.step (storeChunk_confined hslots _) (hset _ _)))
    · rw [State.blockSoFar, if_neg hoff, hx] at hslots
      rw [if_neg hoff]
      cases hb : x.block with
      | none => exact hnak s _ (.refl s)
      | some b =>
        have hbytes : slotOfBytes addr (b.bytes ++ bytes) ⊆ L := by simpa [hb] using hslots
        dsimp only
        split
        · next hmatch => exact storeChunk_confined (b := { b with bytes := b.bytes ++ bytes }) (hmatch.1 ▸ hbytes) s
        · exact hnak s _ (.refl s)

end

/-! ### The park application -/

section

variable {L K : List Nat} {s : State}

theorem chooseParkImage_stores (h : SlotsIn L K s) : sameOutside L s (chooseParkImage s) := by
  unfold chooseParkImage
  extract_lets slot t dark
  have ht : sameOutside L s t := promoteWriteBack_stores h.writing h.park
  have hcheck : sameOutside L s (if t.slotState slot = .valid ∧ ¬ dark then revalidateSlot t slot else (t, false)).1 := by
    split
    · exact sameOutside_step (revalidateSlot_stores h.park t) ht
    · exact ht
  split
  next u ok hu =>
  rw [hu] at hcheck
  refine sameOutside_trans (sameOutside_ite (fun _ => hcheck) fun _ => ?_) (sameOutside_of_hbm rfl)
  exact sameOutside_step (routeDark_stores h.park _) (sameOutside_frame (discardRefinement_frame _ _) (by decide) hcheck)

theorem parkRequest_stores (h : SlotsIn L K s) : sameOutside L s (parkRequest s) := by
  have hchosen : sameOutside L s (if s.dev.park.isSome then s else chooseParkImage s) :=
    sameOutside_ite (fun _ => sameOutside_refl s) fun _ => chooseParkImage_stores h
  exact sameOutside_ite (fun _ => sameOutside_frame (parkStart_frame _) (by decide) hchosen) fun _ => hchosen

theorem parkOwed_stores (h : SlotsIn L K s) : sameOutside L s (parkOwed s) :=
  sameOutside_ite (fun _ => parkRequest_stores h) fun _ => sameOutside_refl s

theorem callDark_stores {t : State} (h : sameOutside L s t) : sameOutside L s (callDark t) := sameOutside_frame (callDark_frame t) (by decide) h

theorem loadPark_stores (h : s.objN Obj.PARK_SLOT 0 ∈ L) : sameOutside L s (loadPark s).1 := by
  unfold loadPark
  extract_lets slot bad t
  have ht : sameOutside L s t := sameOutside_foldl (fun u _ => sameOutside_frame (revertRegion_frame u _) (by decide) (sameOutside_refl u)) _ s
  split
  · exact callDark_stores ht
  · next b _ =>
    split
    · exact callDark_stores ht
    · extract_lets u
      have hu : sameOutside L s u := sameOutside_step (slotWrite_stores h t 0 b) ht
      clear_value u
      split
      · dsimp only
        exact sameOutside_frame (invalidate_frame u slot _) (by decide) hu
      · have hvalid : sameOutside L s (u.setSlot slot .valid) := sameOutside_frame (State.setSlot_frame u slot .valid) (by decide) hu
        have hrun := sameOutside_step (revalidateSlot_stores h (u.setSlot slot .valid)) hvalid
        split
        next w ok hw =>
        rw [hw] at hrun
        exact hrun

theorem selftestStep_stores (h : s.objN Obj.PARK_SLOT 0 ∈ L) (step failed : Nat) : sameOutside L s (selftestStep s step failed) := by
  unfold selftestStep
  extract_lets _ t
  have ht : sameOutside L s t := sameOutside_of_hbm rfl
  have hfail (u : State) (a b : Nat) (hu : sameOutside L s u) : sameOutside L s (selftestFail u a b) :=
    sameOutside_frame (selftestFail_frame u a b) (by decide) hu
  have hpark : sameOutside L s (loadPark t).1 := sameOutside_step (loadPark_stores h) ht
  split
  · exact sameOutside_frame (loadStored_frame _ _) (by decide) ht
  split
  · have htrain := sameOutside_frame (trainHbm_frame t failed) (by decide) ht
    exact sameOutside_ite (fun _ => htrain) fun _ => hfail _ _ _ htrain
  split
  · exact sameOutside_frame (loadCalibration_frame _ _) (by decide) ht
  split
  · exact sameOutside_ite (fun _ => ht) fun _ => hfail _ _ _ ht
  split
  · split
    next u b hu =>
    rw [hu] at hpark
    exact sameOutside_ite (fun _ => hfail _ _ _ (callDark_stores hpark)) fun _ => hpark
  · exact sameOutside_ite (fun _ => ht) fun _ => hfail _ _ _ ht

end

end Sys2Proof.Proofs

/-!
PROOFS of StorelessCommandsKeepMemory (O5): command by command, the slots it may store to.
-/

-- One proof at a time: side by side they ask for more threads than the memory limit of a check allows.
set_option Elab.async false

namespace Sys2Proof.Proofs

open Sys2Proof Sys2Proof.Machine Sys2Proof.Laws

section

variable {s t u : State} {L : List Nat}

theorem finish_stores (h : finish s u = .next t) (hu : sameOutside L s u) : sameOutside L s t := by
  cases h
  exact sameOutside_trans hu (sameOutside_of_hbm (sealed_hbm s u))

theorem writingSlot_writes (s : State) : WritesIn s.writingSlot s := List.Subset.refl _

/-! ### The library and commits -/

theorem execLoadSlot_stores {sess : Nat} {slot : Int} (h : execLoadSlot sess slot s = .next t) : sameOutside s.writingSlot s t :=
  finish_stores h (hostWrite_stores (effLoadSlot_stores (writingSlot_seen s sess ▸ List.Subset.refl _)))

theorem execEraseSlot_stores {sess : Nat} {slot : Int} (h : execEraseSlot sess slot s = .next t) : sameOutside s.writingSlot s t :=
  finish_stores h (hostWrite_stores (effEraseSlot_stores (writingSlot_seen s sess ▸ List.Subset.refl _)))

theorem execRouteApply_stores {sess : Nat} (h : execRouteApply sess s = .next t) : sameOutside s.writingSlot s t :=
  finish_stores h (hostWrite_stores (effRouteApply_stores (writingSlot_seen s sess ▸ List.Subset.refl _)))

theorem execRevalidate_stores {sess : Nat} {slot : Int} (h : execRevalidate sess slot s = .next t) : sameOutside [slot.toNat] s t :=
  finish_stores h (hostWrite_stores (effRevalidate_stores (List.mem_singleton_self _) _))

theorem execFindComplete_stores (h : execFindComplete s = .next t) : sameOutside (s.lib.slots.map (·.1)) s t := by
  refine finish_stores h ?_
  split
  · exact sameOutside_refl s
  · next hash _ =>
    have hq : (s.lib.slots.filter fun x => x.2 == .valid && s.slotHash x.1 == hash).map (·.1) ⊆ s.lib.slots.map (·.1) :=
      List.map_subset _ (List.filter_subset_self _)
    exact sameOutside_frame (State.setObjN_frame _ _ _ _) (by decide)
      (sameOutside_step (findFirst_stores hq _) (sameOutside_of_hbm (t := { s with lib := _ }) rfl))

theorem execRouteDone_stores {us : Nat} (h : execRouteDone us s = .next t) : sameOutside (s.lib.route.map (·.slot)).toList s t := by
  refine finish_stores h ?_
  cases hr : s.lib.route with
  | none => exact sameOutside_refl s
  | some r =>
    have hslot : r.slot ∈ ((some r).map (·.slot)).toList := List.mem_singleton_self _
    refine sameOutside_ite (fun _ => sameOutside_refl s) fun _ => ?_
    split
    · exact sameOutside_frame (endRoute_frame _ _ _ _) (by decide)
        (sameOutside_frame (State.setSlot_frame _ _ _) (by decide) (writeImage_stores hslot s _ _))
    · exact sameOutside_frame (endRoute_frame _ _ _ _) (by decide) (unroute_stores hslot s)

theorem execWriteBackDone_stores (h : execWriteBackDone s = .next t) : sameOutside s.writingSlot s t :=
  finish_stores h (finishWriteBack_stores (List.Subset.refl _))

theorem execPrepare_stores {sess req id slot flags : Nat} (h : execPrepare sess req id slot flags s = .next t) :
    sameOutside (slot :: s.writingSlot) s t :=
  finish_stores h (request_stores fun _ =>
    prepareOp_stores (writingSlot_seen s sess ▸ List.subset_cons_self _ _) List.mem_cons_self _ _ _ _)

/-! ### Bursts, errors of memory, lobes -/

theorem execBeatTimeout_stores {i b written abandoned : Nat} (h : execBeatTimeout i b written abandoned s = .next t) :
    sameOutside s.writingSlot s t :=
  finish_stores h (sameOutside_ite (fun _ => endBurst_stores (writingSlot_writes s) _ _ _ _) fun _ => sameOutside_refl s)

theorem execHbmUe_stores {addr initiator : Nat} (h : execHbmUe addr initiator s = .next t) : sameOutside s.writingSlot s t :=
  finish_stores h (sameOutside_ite (fun _ => hbmError_stores (writingSlot_writes s) _ _) fun _ => sameOutside_refl s)

theorem execLobeFailover_stores {l : Nat} (h : execLobeFailover l s = .next t) : sameOutside s.writingSlot s t := by
  have hcopy (v : State) (o : Nat) (hv : sameOutside s.writingSlot s v) : sameOutside s.writingSlot s (copyToSyncing v o) :=
    sameOutside_frame (copyToSyncing_frame v o) (by decide) hv
  refine finish_stores h ?_
  extract_lets x
  generalize (if l < 2 then x.claiming else none) = claim
  cases claim with
  | none => exact sameOutside_refl s
  | some p =>
    refine sameOutside_ite (fun _ => sameOutside_refl s) fun _ => sameOutside_ite (fun _ => ?_) fun _ => ?_
    · exact sameOutside_frame (peerGone_frame s l) (by decide) (sameOutside_refl s)
    · exact sameOutside_ite (fun _ => hcopy _ _ (startFirst_stores (writingSlot_writes s) l))
        fun _ => hcopy _ _ (takeOver_stores (writingSlot_writes s) l _)

theorem swapRoles_asked (s : State) (x : Lobes) (forced : Bool) : sameOutside s.writingSlot s (swapRoles { s with lobes := x } forced) := by
  have hasked : WritesIn s.writingSlot { s with lobes := x } := writingSlot_writes s
  exact sameOutside_trans (t := { s with lobes := x }) (sameOutside_of_hbm rfl) (swapRoles_stores hasked forced)

theorem execRoleSwapped_stores (h : execRoleSwapped s = .next t) : sameOutside s.writingSlot s t := by
  refine finish_stores h ?_
  split
  · extract_lets forced _ u v
    have hu : sameOutside s.writingSlot s u := swapRoles_asked s _ forced
    have hv : sameOutside s.writingSlot s v := sameOutside_ite (fun _ => sameOutside_frame (toOffline_frame u _ _) (by decide) hu) fun _ => hu
    clear_value v
    refine sameOutside_ite (fun _ => sameOutside_ite (fun _ => ?_) fun _ => ?_) fun _ => sameOutside_refl s
    · exact sameOutside_frame (endRollBack_frame _) (by decide) (sameOutside_frame (fwSwapped_frame v _) (by decide) hv)
    · exact sameOutside_frame (skipSwap_frame s 7) (by decide) (sameOutside_refl s)
  · exact sameOutside_refl s

/-! ### Changes of the fault map -/

/-- What keeps the live commits among their slots stores in those alone. -/
theorem live_stores (h : finish s u = .next t) (hu : Keeps (LiveIn (s.com.live.map (·.slot))) (s.com.live.map (·.slot)) s u) :
    sameOutside (s.com.live.map (·.slot)) s t := finish_stores h (hu (List.Subset.refl _)).2

theorem execReadbackComparison_stores {b lane sensed : Nat} (h : execReadbackComparison b lane sensed s = .next t) :
    sameOutside (s.com.live.map (·.slot)) s t := by
  refine live_stores h (.ite (.refl s) (.ite (.ite ?_ (.refl s)) (.ite (senseLane_keeps s b lane sensed) (.ite (senseSpare_keeps s b lane sensed) (.refl s)))))
  exact .live (skipLane_frame s _) (by decide) (by decide) (.refl s)

theorem execConverterCheck_stores {cv code : Nat} (h : execConverterCheck cv code s = .next t) : sameOutside (s.com.live.map (·.slot)) s t := by
  refine live_stores h (.ite (.refl s) (.ite (convCheck_keeps s cv code) (.ite ?_ (.refl s))))
  exact .live (spareCheck_frame s _ code) (by decide) (by decide) (.refl s)

theorem queuedCheck_keeps (s : State) (cv code n : Nat) : Keeps (LiveIn L) L s (queuedCheck s cv code n) :=
  .step (judgeCheck_keeps _ _ _) (.live (State.setMonBank_frame s _ _) (by decide) (by decide) (.refl s))

theorem execInjectionDone_stores {cv code : Nat} {overRange : Bool} (h : execInjectionDone cv code overRange s = .next t) :
    sameOutside (s.com.live.map (·.slot)) s t := by
  refine live_stores h ?_
  extract_lets c n free p
  split
  · exact .refl s
  · next i rest _ =>
    extract_lets u v
    have hv : Keeps (LiveIn (s.com.live.map (·.slot))) (s.com.live.map (·.slot)) s v :=
      .live (State.setObjN_frame u _ _ _) (by decide) (by decide) (.live (State.setConv_frame s _ _) (by decide) (by decide) (.refl s))
    refine .ite (.refl s) (.ite (.live (State.setConv_frame s _ _) (by decide) (by decide) (.refl s)) (.ite ?_ (.ite ?_ ?_)))
    · exact .live (calInjected_frame v _ _ _) (by decide) (by decide) hv
    · exact .live (State.setObjN_frame _ _ _ _) (by decide) (by decide) (.live (State.setObjN_frame _ _ _ _) (by decide) (by decide)
        (.through (t := v) id rfl hv))
    · exact .step (queuedCheck_keeps v _ _ _) hv

theorem execConvSubstituted_stores {cv : Nat} (h : execConvSubstituted cv s = .next t) : sameOutside (s.com.live.map (·.slot)) s t := by
  have hconv (x : Conv) : Keeps (LiveIn (s.com.live.map (·.slot))) (s.com.live.map (·.slot)) s (s.setConv cv x) :=
    .live (State.setConv_frame s _ _) (by decide) (by decide) (.refl s)
  refine live_stores h (.ite (.refl s) (.ite (.step (loseConv_keeps _ _ _) (hconv _)) ?_))
  conv => zeta
  split
  next v had hv =>
  have hloaded := Frame.fst hv (loadCoefs_frame _ _ _ _)
  exact .live (raiseA_frame _ _ _) (by decide) (by decide) (.live hloaded (by decide) (by decide)
    (.live (State.setMonBank_frame _ _ _) (by decide) (by decide) (hconv _)))

theorem execLoopSaturated_stores {e : Nat} (h : execLoopSaturated e s = .next t) : sameOutside (s.com.live.map (·.slot)) s t :=
  live_stores h (.ite (.live (raiseA_frame _ _ _) (by decide) (by decide) (reportFault_keeps s e _)) (.refl s))

theorem execFaultMapApply_stores (h : execFaultMapApply s = .next t) : sameOutside (s.com.live.map (·.slot)) s t :=
  live_stores h (.ite (applyFaults_keeps s) (.refl s))

/-! ### Park applications -/

/-- What names slots now stays within the slots of a park application and of the open loads. -/
theorem slotsIn_parkSlots (hL : s.parkSlots ⊆ L) : SlotsIn L (s.lib.loads.map (·.slot)) s :=
  ⟨hL List.mem_cons_self, fun _ hn => hL (List.mem_cons_of_mem _ hn), fun _ hl _ => List.mem_map_of_mem hl⟩

theorem execSelftestStepDone_stores {step failed : Nat} (h : execSelftestStepDone step failed s = .next t) : sameOutside s.parkSlots s t :=
  finish_stores h (sameOutside_ite (fun _ => selftestStep_stores List.mem_cons_self _ _) fun _ => sameOutside_refl s)

theorem execSelftestDone_stores (h : execSelftestDone s = .next t) : sameOutside s.parkSlots s t :=
  finish_stores h (sameOutside_ite (fun _ => parkRequest_stores (slotsIn_parkSlots (List.Subset.refl _))) fun _ => sameOutside_refl s)

/-- The park applications owed after an operation that keeps within the slots it is given. -/
theorem owed_stores {K : List Nat} (hs : SlotsIn L K s) (hu : Confined L K s u) (h : finish s (parkOwed u) = .next t) : sameOutside L s t := by
  obtain ⟨hin, hbefore⟩ := hu hs
  exact finish_stores h (sameOutside_step (parkOwed_stores hin) hbefore)

theorem execPark_stores {sess : Nat} (h : execPark sess s = .next t) : sameOutside s.parkSlots s t :=
  owed_stores (slotsIn_parkSlots (List.Subset.refl _)) (hostWrite_confined fun u => .frame (effPark_frame u) (by decide) (.refl u)) h

theorem execResume_stores {sess : Nat} (h : execResume sess s = .next t) : sameOutside s.parkSlots s t :=
  owed_stores (slotsIn_parkSlots (List.Subset.refl _)) (hostWrite_confined fun u => .frame (effResume_frame u) (by decide) (.refl u)) h

/-! ### Writes -/

theorem execObjectWrite_stores {sess addr sel : Nat} {v : Int} (h : execObjectWrite sess addr sel v s = .next t) :
    sameOutside (slotNamed addr v ++ s.parkSlots) s t := by
  have hs : SlotsIn (slotNamed addr v ++ s.parkSlots) (s.lib.loads.map (·.slot) ++ [v.toNat]) s := by
    obtain ⟨hpark, hwriting, hloads⟩ := slotsIn_parkSlots (s := s) (List.subset_append_right (slotNamed addr v) s.parkSlots)
    exact ⟨hpark, hwriting, fun l hl hsess => List.mem_append_left _ (hloads l hl hsess)⟩
  have hload (_ : addr = Obj.LOAD_SLOT) : v.toNat ∈ s.lib.loads.map (·.slot) ++ [v.toNat] := List.mem_append_right _ (List.mem_singleton_self _)
  exact owed_stores hs (hostWrite_confined fun u => effNumber_confined hload (List.subset_append_left _ _) _ _ _ u) h

/-- The slots of a WRITE or a BLOCK_WRITE hold what names slots now. -/
theorem slotsIn_write (A : List Nat) (s : State) : SlotsIn (A ++ s.lib.loads.map (·.slot) ++ s.parkSlots) (A ++ s.lib.loads.map (·.slot) ++ s.parkSlots) s := by
  obtain ⟨hpark, hwriting, hloads⟩ := slotsIn_parkSlots (s := s) (List.subset_append_right (A ++ s.lib.loads.map (·.slot)) s.parkSlots)
  exact ⟨hpark, hwriting, fun l hl hsess => List.mem_append_left _ (List.mem_append_right _ (hloads l hl hsess))⟩

theorem subset_write (A B C : List Nat) : A ⊆ A ++ B ++ C := fun _ hn => List.mem_append_left _ (List.mem_append_left _ hn)

theorem execWrite_stores {sess req : Nat} {entries : List WriteEntry} (h : execWrite sess req entries s = .next t) :
    sameOutside ((entries.flatMap fun e => slotOfBytes e.addr e.value) ++ s.lib.loads.map (·.slot) ++ s.parkSlots) s t :=
  owed_stores (slotsIn_write _ s) (request_confined fun level => writeNow_confined (subset_write _ _ _) _ level) h

theorem execBlockWrite_stores {sess req addr sel offset total : Nat} {bytes : List Byte}
    (h : execBlockWrite sess req addr sel offset total bytes s = .next t) :
    sameOutside (slotOfBytes addr (s.blockSoFar sess offset bytes) ++ s.lib.loads.map (·.slot) ++ s.parkSlots) s t :=
  owed_stores (slotsIn_write _ s)
    (request_confined fun _ => blockWriteNow_confined (by rw [blockSoFar_seen]; exact subset_write _ _ _)) h

end

/-- Settles O5: where a command's list lacks HBM it leaves HBM as it is; every other one stores through slotWrite, in slots that
storeSlots names. -/
theorem storelessCommandsKeepMemory : Obligations.StorelessCommandsKeepMemory := by
  unfold Obligations.StorelessCommandsKeepMemory
  have hkept (c : Instr) (s t : State) (hm : .hbm ∉ touches c) (h : exec c s = .next t) : t.hbm = s.hbm :=
    (exec_frame h).hbm (by simpa using hm)
  refine ⟨fun c s t hm h => sameMemory_of_hbm (hkept c s t hm h), fun c s t hl h => ?_⟩
  by_cases hm : (touches c).contains .hbm = true
  case neg => exact sameOutside_of_hbm (hkept c s t (by simpa using hm) h)
  cases c with
  | loadSlot => exact execLoadSlot_stores h
  | eraseSlot => exact execEraseSlot_stores h
  | routeApply => exact execRouteApply_stores h
  | revalidate => exact execRevalidate_stores h
  | findComplete => exact execFindComplete_stores h
  | routeDone us => exact execRouteDone_stores (us := us) h
  | writeBackDone => exact execWriteBackDone_stores h
  | prepare => exact execPrepare_stores h
  | beatTimeout => exact execBeatTimeout_stores h
  | hbmUe => exact execHbmUe_stores h
  | lobeFailover => exact execLobeFailover_stores h
  | roleSwapped => exact execRoleSwapped_stores h
  | readbackComparison => exact execReadbackComparison_stores h
  | converterCheck => exact execConverterCheck_stores h
  | injectionDone => exact execInjectionDone_stores h
  | convSubstituted => exact execConvSubstituted_stores h
  | loopSaturated => exact execLoopSaturated_stores h
  | faultMapApply => exact execFaultMapApply_stores h
  | selftestStepDone => exact execSelftestStepDone_stores h
  | selftestDone => exact execSelftestDone_stores h
  | park => exact execPark_stores h
  | resume => exact execResume_stores h
  | objectWrite => exact execObjectWrite_stores h
  | write => exact execWrite_stores h
  | blockWrite => exact execBlockWrite_stores h
  | coldResetInput => exact absurd (show Comp.log ∈ Comp.all by decide) hl
  | refclkRestored => exact absurd (show Comp.log ∈ Comp.all by decide) hl
  | resetDelayEnd => exact absurd (show Comp.log ∈ Comp.all by decide) hl
  | _ => exact absurd hm Bool.false_ne_true

end Sys2Proof.Proofs
